-- ==== Sys2Proof/Word.lean ====
section
/-! DEFINITION. The plain words of the machine: bytes and 64-bit words, and the numbering of its parts
(R13, R14). The K1 is little-endian throughout (R7). -/

namespace Sys2Proof

/-- A byte of memory. -/
abbrev Byte := BitVec 8

/-- A 64-bit register of an Unyen core. -/
abbrev Word := BitVec 64

/-- Hardware thread h: context h mod 8 of core h div 8. 0 to 1,023 are those of the compute cores (R13); 1,024 to 1,055
those of the four Drill cores, which R544 numbers 128 to 131 (notes/assumptions/73). -/
abbrev Tid := Fin 1056

/-- A thread of the compute cores, as registers and messages number them (R13). -/
abbrev CTid := Fin 1024

/-- Core n, 0 to 127: position n mod 8 of furrow n div 8 (R13). -/
abbrev Cid := Fin 128

/-- Any Unyen core: 0 to 127, and the Drill cores 128 to 131 (R99, R544). -/
abbrev Uid := Fin 132

/-- Furrow f, 0 to 15 (R13). -/
abbrev Furrow := Fin 16

/-- A cache behind L1s: the furrow caches 0 to 15, and the Drill cache, 16 here (R186; notes/assumptions/73). -/
abbrev CacheId := Fin 17

/-- Granary channel c, 0 to 95: position c mod 16 of stack c div 16 (R14). -/
abbrev Chan := Fin 96

/-- Granary stack s, 0 to 5 (R14). -/
abbrev Stack := Fin 6

/-- Plot p, 0 to 511; plot 0 belongs to the physical function. -/
abbrev Plot := Fin 512

/-- A general or float register number. -/
abbrev Reg5 := Fin 32

/-- A predicate register number; p0 is always 1. -/
abbrev Pred := Fin 8

end Sys2Proof
end

