-- ==== Sys2Proof/Syntax.lean ====
section
/-! DEFINITION. The commands: one constructor per row of spec/opcode_table.json, with the operands the
rule of the row gives it, or that the outside delivers with it (a sample, a message, a verdict). -/

namespace Sys2Proof

/-- Who writes a register or sends a command: software of a plot (ring 0 of its threads, or its host
function), Drill, Reeve (its SMBus port included) or the TAP (R76). -/
inductive Agent where
  | plot (p : Plot)
  | drill
  | reeve
  | tap
deriving DecidableEq, Repr

/-- COND of CMP and CMPI (R119). -/
inductive Cond where
  | eq | ne | lt | ge | ltu | geu | tst
deriving DecidableEq, Repr

/-- COND of FCMP (Table 5-10). -/
inductive FCond where
  | eq | lt | le | un
deriving DecidableEq, Repr

/-- FMT of the scalar floating operations (chapter 05). -/
inductive FFmt where
  | b64 | b32 | b16 | bf16
deriving DecidableEq, Repr

/-- RM of R122: 0 the mode that FCSR.RM holds, 1 to 5 the named modes, 6 seeded stochastic. -/
inductive RMode where
  | dyn | rne | rna | rz | ru | rd | stoch
deriving DecidableEq, Repr

/-- The integer width codes of FCVT.I and FCVT.FI (Table 5-10). -/
inductive IWidth where
  | i64 | i32 | i16 | i8
deriving DecidableEq, Repr

/-- TARGET of a CMO (R126). -/
inductive CmoTarget where
  | l1d | l1i | fc
deriving DecidableEq, Repr

/-- How an access to a Granary channel or another array came back: as it is, corrected by the ECC, after
link retries, uncorrectable in its data or in the line's metadata, or after a fourth failed transfer (R288, Table 12-5). -/
inductive MemRes where
  | ok | corrected | retried (n : Fin 4) | uncorrectable | metadata | linkFail
deriving DecidableEq, Repr

/-- What a furrow cache's scrub finds in one way of its set (Table 8-6). -/
inductive ScrubRes where
  | clean
  | corrected (way : Fin 16)
  | uncorrectable (way : Fin 16)
  | badTag (way : Fin 16)
deriving DecidableEq, Repr


/-- What the ECC of a silo or spill-bank row reports as an instruction reads it (R254). -/
inductive SiloEcc where
  | clean
  | corrected (spill : Bool)
  | uncorrectable
deriving DecidableEq, Repr


/-- The machine-side pins of the island as one 10 µs sample reads them (R472, R484), 1 = energised, high or
acknowledged: safe inputs (bit n channel A, bit 8 + n channel B), stage and node readbacks (bit 2 × output +
channel), contactor feedback (1 = closed), the reset request input (bit 0 channel A), enable readbacks (bit
2 × axis + channel), stop acknowledges, encoder line good. -/
structure Pins where
  si   : BitVec 16 := 0
  srb  : BitVec 8 := 0
  snd  : BitVec 8 := 0
  cfb  : BitVec 4 := 0
  srst : BitVec 2 := 0
  drb  : BitVec 8 := 0
  dack : BitVec 4 := 0
  encf : BitVec 4 := 0
deriving DecidableEq, Repr

/-- The four bitstreams of an axis over one sample: 1,250 bits of each, the first the least significant (R495). -/
structure SdBits where
  ia  : BitVec 1250 := 0
  ib  : BitVec 1250 := 0
  vab : BitVec 1250 := 0
  vbc : BitVec 1250 := 0
deriving DecidableEq, Repr

/-- What the in-band SGMII word says of a port's link (R513). -/
inductive PortSpeed where
  | down | s10 | s100 | s1000
deriving DecidableEq, Repr

/-- What triggers a Headland safety reset (Table 2-3, Table 19-9). -/
inductive IslandCause where
  | powerOn | lockstep | wdog | memory
deriving DecidableEq, Repr

/-- A flash device as the board fits it: its bytes, an unlisted one erased (R53). -/
structure FlashDevice where
  bytes : List (Nat × BitVec 8) := []
deriving DecidableEq, Repr

/-- A sampled supply rail against its operating range (R35) and its absolute range (R592). -/
inductive RailLevel where
  | within | outside | beyondAbsolute
deriving DecidableEq, Repr

/-- What resets the host port (Table 2-3). -/
inductive HostResetCause where
  | perst | hotReset | linkDisable
deriving DecidableEq, Repr

/-- What an access of a register names: a physical address (Table 4-1) written by an agent; an offset of a function's
BAR0 or of the physical function's BAR2 (Tables 16-2 and 16-3), written by the host, or read by it (R369;
notes/assumptions/74); the read of a function's Vendor and Device ID in configuration space (R363); the configuration
writes that set VF Enable, with NumVFs, Bus Master Enable, and a function's MSI-X Enable and Function Mask. -/
inductive RegTarget where
  | device (agent : Agent) (pa : BitVec 56)
  | bar0 (p : Plot) (off : BitVec 17)
  | bar2 (off : BitVec 29)
  | readBar0 (p : Plot) (off : BitVec 17)
  | readBar2 (off : BitVec 29)
  | readId (p : Plot)
  | vfEnable (n : Nat)
  | busMaster (p : Plot)
  | msix (p : Plot) (enable mask : Bool)
deriving DecidableEq, Repr

/-- The commands of the block. -/
inductive Instr where
  /-- REFCLK_LOSS (R46): REFCLK stops; Headland non-safety blocks stop, the timestamp holds and TS_GAP is recorded. -/
  | refclkLoss
  /-- ROOT_UNLOCK (R46): The root PLL loses lock; CCLK, FCLK and GCLK stop, registers fall back to REFCLK and the Field die is held in package reset. -/
  | rootUnlock
  /-- ROOT_CLOCK (R46): The root PLL regains lock and the held package reset completes with cause ROOT_CLOCK. -/
  | rootClock
  /-- CLOCK_WINDOW (R34): A 4,000 hc island window ends and the REFCLK and root PLL edge counts are judged good or bad. -/
  | clockWindow (ref root : Nat)
  /-- SUPPLY_SAMPLE (R35): The island samples each monitored rail against its operating range at 1 MHz. -/
  | supplySample (rail : Fin 9) (level : RailLevel)
  /-- PWRFAIL (R47): PWRFAIL_N is asserted; the island switches safe outputs off within one cycle and Reeve logs and puts Granary in self-refresh. -/
  | pwrfail
  /-- POWER_ON_RESET (R38): PORST_N asserted or a Headland or I/O rail out of range resets the whole package except the island. -/
  | powerOnReset
  /-- PORST_N_RELEASE (R49): PORST_N rises; the root PLL locks and the start-up order of R30 begins. -/
  | porstNRelease (lead : Bool) (flash : Option FlashDevice)
  /-- WARMRST_N (R38): The WARMRST_N pin requests a package reset. -/
  | warmrstN
  /-- PKG (R40): A keyed write of PWR_RESET_CTL.PKG performs a package reset with cause SOFT. -/
  | pkg (agent : Agent) (key : BitVec 16)
  /-- HOST_PORT_RESET (R38): PERST_N, hot reset, link disable or link-down resets the PCI Express link and configuration space. -/
  | hostPortReset (cause : HostResetCause)
  /-- FUNCTION_LEVEL_RESET (R38): A Function Level Reset resets the plot of that function, or all plots for the physical function. -/
  | functionLevelReset (p : Plot) (drill : Option (BitVec 32))
  /-- THREAD_GROUP_RESET (R43): A thread-group reset of one core begins: issue stops and the core drains its transactions and merging buffer. -/
  | threadGroupReset (agent : Agent) (n : Cid)
  /-- TG_DRAIN_DONE (R43): The drain of a thread-group reset ends and the core clears its state. -/
  | tgDrainDone (n : Cid)
  /-- TG_RESET_COMPLETE (R43): 4,096 cc after the drain the thread-group reset completes. -/
  | tgResetComplete (n : Cid)
  /-- TG_DRAIN_TIMEOUT (R43): 1 ms after the reset began an unfinished drain is abandoned, logged and the reset completes. -/
  | tgDrainTimeout (n : Cid)
  /-- HEADLAND_SAFETY_RESET (R39): The island resets itself or powers on from VDD_SAFE and enters MONITOR. -/
  | headlandSafetyReset (cause : IslandCause) (digestOk : Bool)
  /-- DRILL_WDOG (R38): The Drill watchdog period expires without a kick and a package reset follows. -/
  | drillWdog
  /-- KICK (R38): A write of PWR_WDOG_KICK restarts the Drill watchdog period. -/
  | kick (agent : Agent)
  /-- POWER_GATE (R37): Drill gates a core that is unleased and idle for 1 ms after flushing its trace. -/
  | powerGate (n : Cid)
  /-- CORE_WAKE (R37): A gated core finishes waking 4,800 cc after the wake began. -/
  | coreWake (n : Cid)
  /-- HOST_LINK_TRAINING (R50): The host port starts link training within 20 ms of PORST_N and PERST_N deasserting. -/
  | hostLinkTraining
  /-- SELF_REFRESH_EXIT (R286): A stack leaves self-refresh and accepts its first access 1 µs after GCLK resumes. -/
  | selfRefreshExit (st : Stack)
  /-- BOOT_SEQUENCE (R60): After root lock the boot ROM reads fuses, flash and descriptors, chooses images and starts the Field die. -/
  | bootSequence (agrees : Bool)
  /-- BOOT_ISLAND_TIMEOUT (R66): The island does not answer a boot mailbox transfer within 100 ms and the boot ROM enters recovery. -/
  | bootIslandTimeout
  /-- FLASH_TIMEOUT (R72): The flash does not answer within 10 ms and boot enters recovery. -/
  | flashTimeout
  /-- STARTUP (R468): The island runs self-test, seal read, parameter read, confirmation check, output test and Hitch start. -/
  | startup (seals : BitVec 12) (selfTest outputsOff : Bool)
  /-- CLAIM (R68): An agent claims the flash through BT_FLASH_OWN, or sets DENIED. -/
  | claim (agent : Agent)
  /-- RELEASE (R68): The holder releases its flash claim. -/
  | release (agent : Agent)
  /-- FLASH_READ (R69): BT_FLASH_CMD OP 1 reads 256 bytes into BT_FLASH_BUF. -/
  | flashRead (agent : Agent)
  /-- FLASH_PROGRAM (R69): BT_FLASH_CMD OP 2 programs 256 bytes, refused on protected regions. -/
  | flashProgram (agent : Agent)
  /-- FLASH_ERASE (R69): BT_FLASH_CMD OP 3 erases a 64 KiB block, refused on protected regions. -/
  | flashErase (agent : Agent)
  /-- FLASH_CMD_DONE (R69): A flash command completes and BUSY clears, with ERR on failure. -/
  | flashCmdDone (ok : Bool)
  /-- TRIAL (R70): BT_UPDATE.TRIAL writes a preference record marking inactive slots as trial. -/
  | trial (agent : Agent) (key : BitVec 16) (types : BitVec 4) (restart : Bool)
  /-- COMMIT (R70): BT_UPDATE.COMMIT makes the trial slots active. -/
  | commit (agent : Agent) (key : BitVec 16) (restart : Bool)
  /-- REVERT (R70): BT_UPDATE.REVERT ends the trial and keeps the previous active slots. -/
  | revert (agent : Agent) (key : BitVec 16) (restart : Bool)
  /-- RESTART (R70): BT_UPDATE.RESTART requests a package reset with cause BOOT_RESTART after the record write. -/
  | restart (agent : Agent) (key : BitVec 16)
  /-- PREF_WRITE_DONE (R70): A preference record write finishes and BT_UPDATE.BUSY clears. -/
  | prefWriteDone
  /-- SVN_COMMIT (R71): BT_SVN_COMMIT.GO raises the fused SVN minimum of the selected types. -/
  | svnCommit (agent : Agent) (key : BitVec 16) (types : BitVec 4)
  /-- TABLE_WALK (R84): A translation table walk completes, setting A or D by compare-and-swap or restarting. -/
  | tableWalk (h : Tid) (res : MemRes)
  /-- ADD (R117): Integer add modulo 2^64. -/
  | add (h : Tid) (gd gs1 gs2 : Reg5) (w : Bool)
  /-- SUB (R117): Integer subtract modulo 2^64. -/
  | sub (h : Tid) (gd gs1 gs2 : Reg5) (w : Bool)
  /-- AND (R117): Bitwise AND. -/
  | and (h : Tid) (gd gs1 gs2 : Reg5)
  /-- OR (R117): Bitwise OR. -/
  | or (h : Tid) (gd gs1 gs2 : Reg5)
  /-- XOR (R117): Bitwise XOR. -/
  | xor (h : Tid) (gd gs1 gs2 : Reg5)
  /-- ANDN (R117): gs1 AND NOT gs2. -/
  | andn (h : Tid) (gd gs1 gs2 : Reg5)
  /-- SLL (R117): Shift left logical. -/
  | sll (h : Tid) (gd gs1 gs2 : Reg5) (w : Bool)
  /-- SRL (R117): Shift right logical. -/
  | srl (h : Tid) (gd gs1 gs2 : Reg5) (w : Bool)
  /-- SRA (R117): Shift right arithmetic. -/
  | sra (h : Tid) (gd gs1 gs2 : Reg5) (w : Bool)
  /-- ROR (R117): Rotate right. -/
  | ror (h : Tid) (gd gs1 gs2 : Reg5) (w : Bool)
  /-- MUL (R117): Low 64 bits of the product. -/
  | mul (h : Tid) (gd gs1 gs2 : Reg5) (w : Bool)
  /-- MULH (R117): High 64 bits of the signed product. -/
  | mulh (h : Tid) (gd gs1 gs2 : Reg5)
  /-- MULHU (R117): High 64 bits of the unsigned product. -/
  | mulhu (h : Tid) (gd gs1 gs2 : Reg5)
  /-- DIV (R118): Signed division rounded toward zero. -/
  | div (h : Tid) (gd gs1 gs2 : Reg5) (w : Bool)
  /-- DIVU (R118): Unsigned division. -/
  | divu (h : Tid) (gd gs1 gs2 : Reg5) (w : Bool)
  /-- REM (R118): Signed remainder. -/
  | rem (h : Tid) (gd gs1 gs2 : Reg5) (w : Bool)
  /-- REMU (R118): Unsigned remainder. -/
  | remu (h : Tid) (gd gs1 gs2 : Reg5) (w : Bool)
  /-- MIN (R117): Signed minimum. -/
  | min (h : Tid) (gd gs1 gs2 : Reg5)
  /-- MAX (R117): Signed maximum. -/
  | max (h : Tid) (gd gs1 gs2 : Reg5)
  /-- MINU (R117): Unsigned minimum. -/
  | minu (h : Tid) (gd gs1 gs2 : Reg5)
  /-- MAXU (R117): Unsigned maximum. -/
  | maxu (h : Tid) (gd gs1 gs2 : Reg5)
  /-- CLZ (R117): Count leading zeros. -/
  | clz (h : Tid) (gd gs1 : Reg5)
  /-- CTZ (R117): Count trailing zeros. -/
  | ctz (h : Tid) (gd gs1 : Reg5)
  /-- POPC (R117): Count ones. -/
  | popc (h : Tid) (gd gs1 : Reg5)
  /-- BSWAP (R117): Reverse the eight bytes. -/
  | bswap (h : Tid) (gd gs1 : Reg5)
  /-- SEXTB (R117): Sign-extend from bit 7. -/
  | sextb (h : Tid) (gd gs1 : Reg5)
  /-- SEXTH (R117): Sign-extend from bit 15. -/
  | sexth (h : Tid) (gd gs1 : Reg5)
  /-- SEXTW (R117): Sign-extend from bit 31. -/
  | sextw (h : Tid) (gd gs1 : Reg5)
  /-- ZEXTW (R117): Zero-extend from bit 31. -/
  | zextw (h : Tid) (gd gs1 : Reg5)
  /-- SEL (R117): Select gs1 or gs2 by a predicate. -/
  | sel (h : Tid) (gd gs1 gs2 : Reg5) (p : Pred)
  /-- ADDI (R119): Add a sign-extended immediate. -/
  | addi (h : Tid) (gd gs1 : Reg5) (imm : BitVec 16)
  /-- ANDI (R119): AND with a zero-extended immediate. -/
  | andi (h : Tid) (gd gs1 : Reg5) (imm : BitVec 16)
  /-- ORI (R119): OR with a zero-extended immediate. -/
  | ori (h : Tid) (gd gs1 : Reg5) (imm : BitVec 16)
  /-- XORI (R119): XOR with a zero-extended immediate. -/
  | xori (h : Tid) (gd gs1 : Reg5) (imm : BitVec 16)
  /-- SLLI (R119): Shift left by an immediate. -/
  | slli (h : Tid) (gd gs1 : Reg5) (sh : BitVec 6) (w : Bool)
  /-- SRLI (R119): Shift right logical by an immediate. -/
  | srli (h : Tid) (gd gs1 : Reg5) (sh : BitVec 6) (w : Bool)
  /-- SRAI (R119): Shift right arithmetic by an immediate. -/
  | srai (h : Tid) (gd gs1 : Reg5) (sh : BitVec 6) (w : Bool)
  /-- RORI (R119): Rotate right by an immediate. -/
  | rori (h : Tid) (gd gs1 : Reg5) (sh : BitVec 6) (w : Bool)
  /-- CATI (R119): Shift gs1 left 16 and insert a 16-bit immediate. -/
  | cati (h : Tid) (gd gs1 : Reg5) (imm : BitVec 16)
  /-- ADPC (R119): Form a PC-relative address in 256-byte steps. -/
  | adpc (h : Tid) (gd : Reg5) (disp : BitVec 21)
  /-- CMP (R119): Compare two registers into a predicate. -/
  | cmp (h : Tid) (pd : Pred) (gs1 gs2 : Reg5) (cond : Cond)
  /-- CMPI (R119): Compare a register with an immediate into a predicate. -/
  | cmpi (h : Tid) (pd : Pred) (gs1 : Reg5) (imm : BitVec 15) (cond : Cond)
  /-- PAND (R119): Predicate AND. -/
  | pand (h : Tid) (pd ps1 ps2 : Pred)
  /-- POR (R119): Predicate OR. -/
  | por (h : Tid) (pd ps1 ps2 : Pred)
  /-- PXOR (R119): Predicate XOR. -/
  | pxor (h : Tid) (pd ps1 ps2 : Pred)
  /-- PANDN (R119): Predicate AND NOT. -/
  | pandn (h : Tid) (pd ps1 ps2 : Pred)
  /-- PORN (R119): Predicate OR NOT. -/
  | porn (h : Tid) (pd ps1 ps2 : Pred)
  /-- BR (R136): Conditional branch on a predicate, resolved in EX. -/
  | br (h : Tid) (p : Pred) (n : Bool) (disp : BitVec 22)
  /-- JAL (R119): Jump and link, resolved in DE. -/
  | jal (h : Tid) (gd : Reg5) (disp : BitVec 21)
  /-- JALR (R119): Jump to a register target and link. -/
  | jalr (h : Tid) (gd gs1 : Reg5) (imm : BitVec 16)
  /-- LB (R120): Load byte, sign-extended. -/
  | lb (h : Tid) (gd gs1 : Reg5) (imm : BitVec 16) (par : Bool)
  /-- LBU (R120): Load byte, zero-extended. -/
  | lbu (h : Tid) (gd gs1 : Reg5) (imm : BitVec 16) (par : Bool)
  /-- LH (R120): Load halfword, sign-extended. -/
  | lh (h : Tid) (gd gs1 : Reg5) (imm : BitVec 16) (par : Bool)
  /-- LHU (R120): Load halfword, zero-extended. -/
  | lhu (h : Tid) (gd gs1 : Reg5) (imm : BitVec 16) (par : Bool)
  /-- LW (R120): Load word, sign-extended. -/
  | lw (h : Tid) (gd gs1 : Reg5) (imm : BitVec 16) (par : Bool)
  /-- LWU (R120): Load word, zero-extended. -/
  | lwu (h : Tid) (gd gs1 : Reg5) (imm : BitVec 16) (par : Bool)
  /-- LD (R120): Load doubleword. -/
  | ld (h : Tid) (gd gs1 : Reg5) (imm : BitVec 16) (par : Bool)
  /-- PF (R194): Prefetch a line toward the side buffer. -/
  | pf (h : Tid) (gs1 : Reg5) (imm : BitVec 16)
  /-- SB (R120): Store byte into the merging buffer. -/
  | sb (h : Tid) (gs2 gs1 : Reg5) (imm : BitVec 16)
  /-- SH (R120): Store halfword. -/
  | sh (h : Tid) (gs2 gs1 : Reg5) (imm : BitVec 16)
  /-- SW (R120): Store word. -/
  | sw (h : Tid) (gs2 gs1 : Reg5) (imm : BitVec 16)
  /-- SD (R120): Store doubleword. -/
  | sd (h : Tid) (gs2 gs1 : Reg5) (imm : BitVec 16)
  /-- ATOMIC_SWAP (R121): Atomic swap. -/
  | atomicSwap (h : Tid) (gd gs1 gs2 : Reg5) (acq rel wide : Bool)
  /-- ATOMIC_ADD (R121): Atomic add. -/
  | atomicAdd (h : Tid) (gd gs1 gs2 : Reg5) (acq rel wide : Bool)
  /-- ATOMIC_AND (R121): Atomic AND. -/
  | atomicAnd (h : Tid) (gd gs1 gs2 : Reg5) (acq rel wide : Bool)
  /-- ATOMIC_OR (R121): Atomic OR. -/
  | atomicOr (h : Tid) (gd gs1 gs2 : Reg5) (acq rel wide : Bool)
  /-- ATOMIC_XOR (R121): Atomic XOR. -/
  | atomicXor (h : Tid) (gd gs1 gs2 : Reg5) (acq rel wide : Bool)
  /-- ATOMIC_MIN (R121): Atomic signed minimum. -/
  | atomicMin (h : Tid) (gd gs1 gs2 : Reg5) (acq rel wide : Bool)
  /-- ATOMIC_MAX (R121): Atomic signed maximum. -/
  | atomicMax (h : Tid) (gd gs1 gs2 : Reg5) (acq rel wide : Bool)
  /-- ATOMIC_MINU (R121): Atomic unsigned minimum. -/
  | atomicMinu (h : Tid) (gd gs1 gs2 : Reg5) (acq rel wide : Bool)
  /-- ATOMIC_MAXU (R121): Atomic unsigned maximum. -/
  | atomicMaxu (h : Tid) (gd gs1 gs2 : Reg5) (acq rel wide : Bool)
  /-- ATOMIC_CAS (R121): Atomic compare-and-swap. -/
  | atomicCas (h : Tid) (gd gs1 gs2 : Reg5) (acq rel wide : Bool)
  /-- FLH (R120): Load a 16-bit float. -/
  | flh (h : Tid) (fd gs1 : Reg5) (imm : BitVec 16) (par : Bool)
  /-- FLW (R120): Load a binary32. -/
  | flw (h : Tid) (fd gs1 : Reg5) (imm : BitVec 16) (par : Bool)
  /-- FLD (R120): Load a binary64. -/
  | fld (h : Tid) (fd gs1 : Reg5) (imm : BitVec 16) (par : Bool)
  /-- FSH (R120): Store a 16-bit float. -/
  | fsh (h : Tid) (fs2 gs1 : Reg5) (imm : BitVec 16)
  /-- FSW (R120): Store a binary32. -/
  | fsw (h : Tid) (fs2 gs1 : Reg5) (imm : BitVec 16)
  /-- FSD (R120): Store a binary64. -/
  | fsd (h : Tid) (fs2 gs1 : Reg5) (imm : BitVec 16)
  /-- FADD (R123): Float add rounded once. -/
  | fadd (h : Tid) (fmt : FFmt) (rm : RMode) (fd fs1 fs2 : Reg5)
  /-- FSUB (R123): Float subtract. -/
  | fsub (h : Tid) (fmt : FFmt) (rm : RMode) (fd fs1 fs2 : Reg5)
  /-- FMUL (R123): Float multiply. -/
  | fmul (h : Tid) (fmt : FFmt) (rm : RMode) (fd fs1 fs2 : Reg5)
  /-- FDIV (R123): Float divide. -/
  | fdiv (h : Tid) (fmt : FFmt) (rm : RMode) (fd fs1 fs2 : Reg5)
  /-- FSQRT (R123): Float square root. -/
  | fsqrt (h : Tid) (fmt : FFmt) (rm : RMode) (fd fs1 : Reg5)
  /-- FMIN (R264): Float minimum. -/
  | fmin (h : Tid) (fmt : FFmt) (rm : RMode) (fd fs1 fs2 : Reg5)
  /-- FMAX (R264): Float maximum. -/
  | fmax (h : Tid) (fmt : FFmt) (rm : RMode) (fd fs1 fs2 : Reg5)
  /-- FCOPYS (R123): Copy sign. -/
  | fcopys (h : Tid) (fmt : FFmt) (rm : RMode) (fd fs1 fs2 : Reg5)
  /-- FCOPYNS (R123): Copy inverted sign. -/
  | fcopyns (h : Tid) (fmt : FFmt) (rm : RMode) (fd fs1 fs2 : Reg5)
  /-- FXORS (R123): XOR signs. -/
  | fxors (h : Tid) (fmt : FFmt) (rm : RMode) (fd fs1 fs2 : Reg5)
  /-- FCVT_F (R269): Convert between float formats. -/
  | fcvtF (h : Tid) (fmt src : FFmt) (rm : RMode) (fd fs1 : Reg5)
  /-- FCVT_I (R269): Convert float to integer. -/
  | fcvtI (h : Tid) (fmt : FFmt) (rm : RMode) (gd fs1 : Reg5) (width : IWidth) (uns : Bool)
  /-- FCVT_FI (R269): Convert integer to float. -/
  | fcvtFi (h : Tid) (fmt : FFmt) (rm : RMode) (fd gs1 : Reg5) (width : IWidth) (uns : Bool)
  /-- FMV_GF (R123): Move raw bits from a float to a general register. -/
  | fmvGf (h : Tid) (fmt : FFmt) (rm : RMode) (gd fs1 : Reg5)
  /-- FMV_FG (R123): Move raw bits from a general to a float register. -/
  | fmvFg (h : Tid) (fmt : FFmt) (rm : RMode) (fd gs1 : Reg5)
  /-- FCLASS (R123): Classify a float value. -/
  | fclass (h : Tid) (fmt : FFmt) (rm : RMode) (gd fs1 : Reg5)
  /-- FMADD (R123): Fused multiply-add. -/
  | fmadd (h : Tid) (fmt : FFmt) (rm : RMode) (fd fs1 fs2 fs3 : Reg5)
  /-- FMSUB (R123): Fused multiply-subtract. -/
  | fmsub (h : Tid) (fmt : FFmt) (rm : RMode) (fd fs1 fs2 fs3 : Reg5)
  /-- FNMADD (R123): Negated fused multiply-add. -/
  | fnmadd (h : Tid) (fmt : FFmt) (rm : RMode) (fd fs1 fs2 fs3 : Reg5)
  /-- FNMSUB (R123): Negated fused multiply-subtract. -/
  | fnmsub (h : Tid) (fmt : FFmt) (rm : RMode) (fd fs1 fs2 fs3 : Reg5)
  /-- FCMP (R123): Float compare into a predicate. -/
  | fcmp (h : Tid) (fmt : FFmt) (pd : Pred) (fs1 fs2 : Reg5) (cond : FCond)
  /-- CSRRD (R124): Read a CSR. -/
  | csrrd (h : Tid) (gd : Reg5) (csr : BitVec 12)
  /-- CSRSWP (R124): Swap a CSR with a register. -/
  | csrswp (h : Tid) (gd : Reg5) (csr : BitVec 12) (gs1 : Reg5)
  /-- CSRSET (R124): Set CSR bits. -/
  | csrset (h : Tid) (gd : Reg5) (csr : BitVec 12) (gs1 : Reg5)
  /-- CSRCLR (R124): Clear CSR bits. -/
  | csrclr (h : Tid) (gd : Reg5) (csr : BitVec 12) (gs1 : Reg5)
  /-- NOP (R125): No operation. -/
  | nop (h : Tid)
  /-- TRAP (R170): Enter ring 0 with cause TRAP and number n. -/
  | trap (h : Tid) (n : BitVec 8) (res ent : MemRes)
  /-- GATE (R106): Call an inner ring through a gate table entry. -/
  | gate (h : Tid) (n : BitVec 8) (res push : MemRes)
  /-- XRET (R171): Pop the frame of the current ring and restore PC and STATUS. -/
  | xret (h : Tid) (res : MemRes)
  /-- DRET (R178): Return from the double-fault handler using the double-fault record. -/
  | dret (h : Tid)
  /-- WAIT (R112): Move the thread to waiting until a wake condition holds. -/
  | wait (h : Tid) (gd gs1 : Reg5)
  /-- WAIT_WAKE (R148): A wake condition becomes true and the WAIT retires 4 cc later. -/
  | waitWake (h : Tid)
  /-- WAIT_TIMEOUT (R112): The WAIT timeout in core cycles expires. -/
  | waitTimeout (h : Tid)
  /-- MSEND (R109): Post a 64-bit payload to another thread's receive queue. -/
  | msend (h : Tid) (gs1 gs2 : Reg5) (pd : Pred)
  /-- MAILBOX_POST_DELIVERY (R147): A posted entry reaches the target queue or is refused, and pd is written. -/
  | mailboxPostDelivery (h : Tid)
  /-- MRECV (R111): Remove the oldest receive-queue entry. -/
  | mrecv (h : Tid) (gd : Reg5) (pd : Pred)
  /-- BRK (R535): Halt for debug when enabled, otherwise ILLEGAL_OP. -/
  | brk (h : Tid)
  /-- FENCE_ACQ (R90): Acquire fence. -/
  | fenceAcq (h : Tid)
  /-- FENCE_REL (R90): Release fence. -/
  | fenceRel (h : Tid)
  /-- FENCE_PKG (R90): Package fence. -/
  | fencePkg (h : Tid)
  /-- FENCE_ACRE (R90): Acre fence. -/
  | fenceAcre (h : Tid)
  /-- FENCE_HOST (R90): Host fence. -/
  | fenceHost (h : Tid)
  /-- FENCE_COMPLETE (R145): A fence's required acknowledgements arrive and the fence completes. -/
  | fenceComplete (h : Tid)
  /-- IFENCE (R125): Wait for prior stores, invalidate the L1I and refetch. -/
  | ifence (h : Tid)
  /-- TLBI_VA (R88): Invalidate one translation locally. -/
  | tlbiVa (h : Tid) (gs1 : Reg5)
  /-- TLBI_VA_B (R88): Invalidate one translation on every core of the plot. -/
  | tlbiVaB (h : Tid) (gs1 : Reg5)
  /-- TLBI_PLOT (R88): Invalidate every translation of the plot locally. -/
  | tlbiPlot (h : Tid)
  /-- TLBI_PLOT_B (R88): Invalidate every translation of the plot by broadcast. -/
  | tlbiPlotB (h : Tid)
  /-- CMO_INVALIDATE (R201): CMO with ACTION invalidate on its target. -/
  | cmoInvalidate (h : Tid) (gs1 : Reg5) (target : CmoTarget) (setWay : Bool)
  /-- CMO_CLEAN (R201): CMO with ACTION clean. -/
  | cmoClean (h : Tid) (gs1 : Reg5) (target : CmoTarget) (setWay : Bool) (wb : MemRes)
  /-- CMO_CLEAN_INVALIDATE (R201): CMO with ACTION clean and invalidate. -/
  | cmoCleanInvalidate (h : Tid) (gs1 : Reg5) (target : CmoTarget) (setWay : Bool) (wb : MemRes)
  /-- MEMORY_TRANSACTION_COMPLETE (R150): Data or acknowledgement of a held transaction returns and its slot is released. -/
  | memoryTransactionComplete (h : Tid) (res : MemRes)
  /-- L1D_FILL (R187): A missed line is installed in the L1D with merging-buffer bytes merged and the L1 block ends. -/
  | l1dFill (n : Uid)
  /-- L1I_FILL (R195): An L1I fill arrives and the waiting thread can be fetched again. -/
  | l1iFill (h : Tid) (par : Bool) (res : MemRes)
  /-- SIDE_BUFFER_FILL (R194): A prefetched line arrives and replaces the LRU side-buffer entry. -/
  | sideBufferFill (n : Uid)
  /-- FURROW_CACHE_FILL (R196): A furrow cache miss is filled after any dirty victim write-back is acknowledged. -/
  | furrowCacheFill (f : CacheId) (line : Nat) (res wb : MemRes)
  /-- OPEN_ENTRY_TIMEOUT (R191): A merging-buffer entry open for 32 fc closes and becomes eligible to drain. -/
  | openEntryTimeout (n : Uid)
  /-- MERGING_BUFFER_DRAIN (R191): The oldest eligible merging-buffer entry drains to its coherence point, seedbox or channel. -/
  | mergingBufferDrain (n : Uid) (bad : Bool) (res wb : MemRes)
  /-- FURROW_SCRUB (R196): The furrow cache scrubs one set every 2,048 fc. -/
  | furrowScrub (f : CacheId) (verdict : ScrubRes)
  /-- EVENT_DELIVERY (R162): A qualifying pending asynchronous event is taken at an instruction boundary. -/
  | eventDelivery (h : Tid)
  /-- EXCEPTION_ENTRY (R168): A fault or event enters its handling ring after the frame write is acknowledged. -/
  | exceptionEntry (h : Tid) (fetch : Option MemRes) (res ent : MemRes)
  /-- XPEND_CANCEL (R163): Writing 1 to a FUR_XPEND SRC bit cancels that pending source. -/
  | xpendCancel (agent : Agent) (h : Tid) (mask : BitVec 4)
  /-- IINV (R213): FUR_L1CTLk.IINV invalidates the whole L1I. -/
  | iinv (n : Cid)
  /-- DINV (R213): FUR_L1CTLk.DINV invalidates the whole L1D and side buffer. -/
  | dinv (n : Cid)
  /-- L1_INVALIDATE_DONE (R213): A DINV or IINV completes and BUSY clears, setting DEN if requested. -/
  | l1InvalidateDone (n : Cid)
  /-- L1_ENABLE_WRITE (R211): A write of DEN or IEN enables or holds still the L1 arrays after any fill in progress. -/
  | l1EnableWrite (agent : Agent) (n : Cid) (ien den : Bool)
  /-- RANGE_GO (R204): FUR_RNG_CTL.GO starts the range engine over a range or the whole furrow cache, or sets ERR. -/
  | rangeGo (agent : Agent) (f : Furrow) (action : BitVec 2) (mode : Bool)
  /-- RANGE_DONE (R206): The last line of a range operation is acknowledged and BUSY clears. -/
  | rangeDone (f : Furrow) (wb : MemRes)
  /-- TLD (R221): Tile load of rows from memory into fragments. -/
  | tld (h : Tid) (g : Bool) (rows cols : BitVec 6) (fd : BitVec 4) (td : Fin 8) (gs1 gs2 : Reg5)
  /-- TST (R221): Tile store of rows to memory. -/
  | tst (h : Tid) (g : Bool) (rows cols : BitVec 6) (fa : BitVec 4) (ta : Fin 8) (gs1 gs2 : Reg5)
  /-- TADD (R220): Tile elementwise add. -/
  | tadd (h : Tid) (g : Bool) (rows cols : BitVec 6) (fa fb fd : BitVec 4) (rnd : BitVec 2) (td ta tb : Fin 8)
  /-- TSUB (R220): Tile elementwise subtract. -/
  | tsub (h : Tid) (g : Bool) (rows cols : BitVec 6) (fa fb fd : BitVec 4) (rnd : BitVec 2) (td ta tb : Fin 8)
  /-- TMUL (R220): Tile elementwise multiply. -/
  | tmul (h : Tid) (g : Bool) (rows cols : BitVec 6) (fa fb fd : BitVec 4) (rnd : BitVec 2) (td ta tb : Fin 8)
  /-- TMIN (R220): Tile elementwise minimum. -/
  | tmin (h : Tid) (g : Bool) (rows cols : BitVec 6) (fa fb fd : BitVec 4) (rnd : BitVec 2) (td ta tb : Fin 8)
  /-- TMAX (R220): Tile elementwise maximum. -/
  | tmax (h : Tid) (g : Bool) (rows cols : BitVec 6) (fa fb fd : BitVec 4) (rnd : BitVec 2) (td ta tb : Fin 8)
  /-- TAND (R219): Tile bitwise AND. -/
  | tand (h : Tid) (g : Bool) (rows cols : BitVec 6) (fa fb fd : BitVec 4) (td ta tb : Fin 8)
  /-- TOR (R219): Tile bitwise OR. -/
  | tor (h : Tid) (g : Bool) (rows cols : BitVec 6) (fa fb fd : BitVec 4) (td ta tb : Fin 8)
  /-- TXOR (R219): Tile bitwise XOR. -/
  | txor (h : Tid) (g : Bool) (rows cols : BitVec 6) (fa fb fd : BitVec 4) (td ta tb : Fin 8)
  /-- TMOV (R219): Tile move. -/
  | tmov (h : Tid) (g : Bool) (rows cols : BitVec 6) (fa fd : BitVec 4) (td ta : Fin 8)
  /-- TCVT (R269): Tile convert between formats. -/
  | tcvt (h : Tid) (g : Bool) (rows cols : BitVec 6) (fa fd : BitVec 4) (rnd : BitVec 2) (td ta : Fin 8)
  /-- TZERO (R219): Tile zero. -/
  | tzero (h : Tid) (g : Bool) (rows cols : BitVec 6) (fd : BitVec 4) (td : Fin 8)
  /-- TFILL (R219): Tile fill with a scalar. -/
  | tfill (h : Tid) (g : Bool) (rows cols : BitVec 6) (fd : BitVec 4) (td : Fin 8) (gs1 : Reg5)
  /-- TNEG (R219): Tile negate. -/
  | tneg (h : Tid) (g : Bool) (rows cols : BitVec 6) (fa fd : BitVec 4) (td ta : Fin 8)
  /-- TABS (R219): Tile magnitude. -/
  | tabs (h : Tid) (g : Bool) (rows cols : BitVec 6) (fa fd : BitVec 4) (td ta : Fin 8)
  /-- TMULS (R219): Tile multiply by a scalar. -/
  | tmuls (h : Tid) (g : Bool) (rows cols : BitVec 6) (fa fd : BitVec 4) (rnd : BitVec 2) (td ta : Fin 8) (gs1 : Reg5)
  /-- TADDS (R219): Tile add a scalar. -/
  | tadds (h : Tid) (g : Bool) (rows cols : BitVec 6) (fa fd : BitVec 4) (rnd : BitVec 2) (td ta : Fin 8) (gs1 : Reg5)
  /-- TSYNC (R226): Wait for accepted tile instructions to complete, then check enabled flags. -/
  | tsync (h : Tid) (g : Bool)
  /-- TGET (R219): Read 8 bytes of an own fragment into a general register. -/
  | tget (h : Tid) (g : Bool) (gd : Reg5) (ta : Fin 8) (gs1 : Reg5)
  /-- TPUT (R219): Write 8 bytes of an own fragment. -/
  | tput (h : Tid) (g : Bool) (td : Fin 8) (gs1 gs2 : Reg5)
  /-- TILE_ACCEPT (R224): The tile unit accepts the oldest unretired tile instruction when the queue has room. -/
  | tileAccept (h : Tid)
  /-- TILE_DISPATCH (R225): The oldest unblocked accepted tile instruction dispatches when its ports are free. -/
  | tileDispatch (n : Cid) (ecc : SiloEcc)
  /-- TILE_COMPLETE (R225): A tile instruction completes, setting its flags and clearing hazards. -/
  | tileComplete (n : Cid) (k : Fin 16) (ecc : SiloEcc)
  /-- TLD_SEGMENT (R223): A TLD memory segment returns and is staged. -/
  | tldSegment (n : Cid) (k : Fin 16) (res : MemRes)
  /-- TST_ROW_ACK (R223): A TST segment write is acknowledged, or fails with LATE_STORE_ERROR. -/
  | tstRowAck (n : Cid) (k : Fin 16) (res : MemRes)
  /-- TMMP (R242): Coulter multiply in pass-through mode into td. -/
  | tmmp (h : Tid) (g : Bool) (rows cols kk : BitVec 6) (fa fb : BitVec 4) (rnd : BitVec 2) (x : BitVec 4) (td ta tb : Fin 8)
  /-- TMMA (R242): Coulter multiply accumulating into a silo group. -/
  | tmma (h : Tid) (g : Bool) (rows cols kk : BitVec 6) (fa fb : BitVec 4) (rnd : BitVec 2) (grp : Fin 16) (ta tb : Fin 8)
  /-- TEXPORT (R243): Export the group's totals through the fused epilogue. -/
  | texport (h : Tid) (g : Bool) (rows cols : BitVec 6) (fa fb : BitVec 4) (rnd : BitVec 2) (x : BitVec 4) (grp : Fin 16) (td ta : Fin 8) (gs1 : Reg5)
  /-- TEXPORT_C (R242): Export the group's totals and close the group. -/
  | texportC (h : Tid) (g : Bool) (rows cols : BitVec 6) (fa fb : BitVec 4) (rnd : BitVec 2) (x : BitVec 4) (grp : Fin 16) (td ta : Fin 8) (gs1 : Reg5)
  /-- TOPEN (R238): Open an accumulation group and zero its rows. -/
  | topen (h : Tid) (g : Bool) (rows cols : BitVec 6) (fa : BitVec 4) (grp : Fin 16) (gs1 : Reg5)
  /-- TCLOSE (R238): Close an accumulation group. -/
  | tclose (h : Tid) (g : Bool) (grp : Fin 16)
  /-- TSAVE (R244): Write a group image to memory. -/
  | tsave (h : Tid) (g : Bool) (rows cols : BitVec 6) (grp : Fin 16) (gs1 : Reg5)
  /-- TRESTORE (R244): Fill an open group from a memory image. -/
  | trestore (h : Tid) (g : Bool) (rows cols : BitVec 6) (grp : Fin 16) (gs1 : Reg5)
  /-- TBIND (R248): Contribute a group's totals to a Binder slot. -/
  | tbind (h : Tid) (g : Bool) (rows cols : BitVec 6) (grp : Fin 16) (gs1 : Reg5)
  /-- SLOT_ARRIVAL (R248): All E elements of a slot have been written to scratch and the slot counts as arrived. -/
  | slotArrival (n : Cid) (k : Fin 16) (res : MemRes)
  /-- BINDER_COMBINE (R249): Binder performs an addition once both operands are available. -/
  | binderCombine (op : Fin 64)
  /-- BINDER_ROUND_COMPLETE (R250): A round completes: results, completion word and BINDER_DONE. -/
  | binderRoundComplete (op : Fin 64) (res : MemRes)
  /-- BND_OPN_CTL (R259): Drill writes BND_OPn_CTL, clearing status and abandoning any round. -/
  | bndOpnCtl (agent : Agent) (op : Fin 64) (v mode int : Bool) (slots elems : BitVec 12)
  /-- WITHDRAWAL (R280): GRN_MODE_REQ to Withdrawn stops Normal requests, recalls lines and starts zeroing. -/
  | withdrawal (agent : Agent) (c : Chan)
  /-- REJOINING (R281): GRN_MODE_REQ to Member closes the window and starts zeroing. -/
  | rejoining (agent : Agent) (c : Chan)
  /-- ZEROING_DONE (R280): Channel zeroing ends and the window opens or Normal service resumes. -/
  | zeroingDone (c : Chan)
  /-- SWITCH_TO_TILL (R282): GRN_MODE_REQ to Till closes rows, zeroes tine registers and hands rows to the sequencer. -/
  | switchToTill (agent : Agent) (c : Chan)
  /-- SWITCH_TO_WITHDRAWN (R282): GRN_MODE_REQ from Till to Withdrawn, refused while a program is loaded. -/
  | switchToWithdrawn (agent : Agent) (c : Chan)
  /-- MODE_SWITCH_DONE (R282): A switch between Withdrawn and Till completes within 2 µs. -/
  | modeSwitchDone (c : Chan) (res : MemRes)
  /-- REFRESH (R284): An all-bank refresh falls due every tREFI at the member's phase. -/
  | refresh (c : Chan)
  /-- STACK_TEMP_READING (R285): The stack sensor is read every 1 ms and tREFI halves or returns. -/
  | stackTempReading (st : Stack) (temp : Nat)
  /-- PATROL_SCRUB (R290): The controller patrols the next line, correcting or poisoning it. -/
  | patrolScrub (c : Chan) (res : MemRes)
  /-- ACT (R300): Till: all banks open a row. -/
  | act (c : Chan)
  /-- PRE (R300): Till: all banks close their row. -/
  | pre (c : Chan)
  /-- TILL_LD (R300): Till LD: load a column into a tine register. -/
  | tillLd (c : Chan) (bank : Fin 32) (res : MemRes)
  /-- ST (R300): Till: store a tine register to a column. -/
  | st (c : Chan) (bank : Fin 32) (res : MemRes)
  /-- MAC (R301): Till multiply-accumulate into a pair. -/
  | mac (c : Chan)
  /-- AADD (R300): Till add accumulator pairs. -/
  | aadd (c : Chan)
  /-- CHSH (R300): Till shift registers along the bank chain. -/
  | chsh (c : Chan)
  /-- VRED (R300): Till reduce 16 lanes into lane 0. -/
  | vred (c : Chan)
  /-- VCVT (R300): Till convert a pair to a 16-bit format. -/
  | vcvt (c : Chan)
  /-- VZERO (R300): Till zero a register. -/
  | vzero (c : Chan)
  /-- MASK (R300): Till set the bank mask. -/
  | mask (c : Chan)
  /-- XSET (R300): Till set an index register. -/
  | xset (c : Chan)
  /-- XADD (R300): Till add to an index register. -/
  | xadd (c : Chan)
  /-- BNZ (R300): Till decrement and branch if nonzero. -/
  | bnz (c : Chan)
  /-- JMP (R300): Till jump. -/
  | jmp (c : Chan)
  /-- TILL_NOP (R300): Till NOP. -/
  | tillNop (c : Chan)
  /-- YIELD (R310): Till checkpoint: record, perform pending refreshes and held accesses, reopen the row. -/
  | yield (c : Chan) (res : MemRes)
  /-- END (R307): Till program ends normally and reports to Drill. -/
  | tillEnd (c : Chan)
  /-- TILL_REFRESH_DUE (R311): A refresh falls due in Till and is postponed. -/
  | tillRefreshDue (c : Chan)
  /-- DOORBELL (R320): A write of DRL_Q_TAIL rings the queue doorbell or sets DB_ERR. -/
  | doorbell (agent : Agent) (q : Fin 4096) (v : BitVec 32)
  /-- SELF_FED_POLL (R320): Drill reads the TAIL word of a self-fed queue every 2 µs. -/
  | selfFedPoll (q : Fin 4096) (res : MemRes)
  /-- FETCH (R319): Drill fetches a packet into a ledger entry and runs the load-time checks. -/
  | fetch (q e : Fin 4096) (res : MemRes)
  /-- SEQ_RECHECK (R338): A SEQ mismatch is re-read 1 µs later, and persistent mismatch completes BAD_PACKET. -/
  | seqRecheck (q e : Fin 4096) (res : MemRes)
  /-- COMMAND_START (R329): A HELD command leaves HELD once ordering allows and starts. -/
  | commandStart (e : Fin 4096) (res : MemRes)
  /-- END_REPORT (R331): An engine reports a command's end; the entry retires and its reply is written. -/
  | endReport (e : Fin 4096) (res : MemRes)
  /-- SOW (R326): Command: release contexts of a sowing. -/
  | sow (e : Fin 4096) (res : MemRes)
  /-- COPY (R324): Command: Harrow copies bytes. -/
  | copy (e : Fin 4096) (res : MemRes)
  /-- FILL (R324): Command: Harrow fills a range with a pattern. -/
  | fill (e : Fin 4096) (res : MemRes)
  /-- STREAM_OPEN (R374): Command: open a Harrow stream. -/
  | streamOpen (e : Fin 4096) (n : Fin 2048)
  /-- STREAM_CLOSE (R379): Command: close a Harrow stream. -/
  | streamClose (e : Fin 4096)
  /-- FENCE (R329): Command: wait for earlier commands of the queue or plot to retire. -/
  | fence (e : Fin 4096)
  /-- SIGNAL (R330): Command: atomic write or add to a word. -/
  | signal (e : Fin 4096) (res : MemRes)
  /-- WAIT_COMMAND (R330): Command WAIT: hold until a word meets its condition. -/
  | waitCommand (e : Fin 4096) (res : MemRes)
  /-- WAIT_COMMAND_POLL (R330): Drill re-evaluates a WAIT condition at least every 10 µs. -/
  | waitCommandPoll (e : Fin 4096) (res : MemRes)
  /-- WAIT_COMMAND_TIMEOUT (R330): A WAIT command's TIMEOUT expires and it completes FAULTED. -/
  | waitCommandTimeout (e : Fin 4096)
  /-- TILL_MODE (R304): Command: move a channel to Withdrawn or Till. -/
  | tillMode (e : Fin 4096)
  /-- TILL_RUN (R305): Command: load and run a till program. -/
  | tillRun (e : Fin 4096)
  /-- LEASE (R318): Command: grant resources to a plot. -/
  | lease (e : Fin 4096) (extents : List (Fin 73728)) (res : MemRes)
  /-- UNLEASE (R318): Command: remove resources from a plot. -/
  | unlease (e : Fin 4096) (extents : List (Fin 73728)) (res : MemRes)
  /-- ABORT (R332): Command: abort a named command, resolved by the arbiter. -/
  | abort (e : Fin 4096)
  /-- QUERY_ENTRY_STATE (R324): QUERY WHAT 0 returns the ledger state of a SEQ. -/
  | queryEntryState (e : Fin 4096)
  /-- QUERY_LEASE_RECORD (R324): QUERY WHAT 1 writes the lease record. -/
  | queryLeaseRecord (e : Fin 4096) (res : MemRes)
  /-- QUERY_LEDGER_COUNTS (R324): QUERY WHAT 2 returns ledger counts. -/
  | queryLedgerCounts (e : Fin 4096)
  /-- RECLAIM (R385): Command: open or resume a host session by token. -/
  | reclaim (e : Fin 4096)
  /-- FRAME_ARM (R345): FRAME_ARM ACTION 0 arms a frame loop. -/
  | frameArm (e : Fin 4096)
  /-- FRAME_DISARM (R360): FRAME_ARM ACTION 1 disarms a frame loop. -/
  | frameDisarm (e : Fin 4096)
  /-- SHEAF_DECLARE (R354): Command: declare a loop's sheaf regions. -/
  | sheafDeclare (e : Fin 4096)
  /-- HEADLAND_MSG (R334): Command: send a message through the Headland mailbox. -/
  | headlandMsg (e : Fin 4096)
  /-- MAILBOX_ANSWER (R334): The island's answer arrives and the HEADLAND_MSG completes. -/
  | mailboxAnswer (e : Fin 4096) (res : MemRes)
  /-- ISLAND_TIMEOUT (R334): No island answer within 100 ms; HEADLAND_MSG completes FAULTED. -/
  | islandTimeout (e : Fin 4096)
  /-- PARK (R327): Drill parks an exited or stopped thread; the sowing ends when all are parked. -/
  | park (h : Tid)
  /-- SOW_TIMEOUT (R328): A sowing's TIMEOUT expires and Drill raises STOP_REQ. -/
  | sowTimeout (e : Fin 4096)
  /-- STOP_TMO (R328): STOP_TMO passes and unexited threads have their group reset. -/
  | stopTmo (e : Fin 4096)
  /-- QUEUE_ENABLE (R341): Setting DRL_Q_CFG.EN resets the counts and starts fetching. -/
  | queueEnable (agent : Agent) (q : Fin 4096)
  /-- QUEUE_DISABLE (R340): Clearing DRL_Q_CFG.EN stops fetching while outstanding entries retire. -/
  | queueDisable (agent : Agent) (q : Fin 4096)
  /-- FRAME_START (R348): S(k) arrives and the frame enters WAITING. -/
  | frameStart (l : Fin 16)
  /-- FRAME_RELEASE (R349): Sower releases a waiting frame's sowing once all conditions hold. -/
  | frameRelease (l : Fin 16) (e : Fin 4096) (res : MemRes)
  /-- FRAME_DROP (R350): LATEST passes, or BUDGET fails, and the frame is dropped. -/
  | frameDrop (l : Fin 16)
  /-- WARN (R351): A running frame reaches WARN and FRAME_TICK is raised. -/
  | warn (l : Fin 16)
  /-- DEADLINE (R352): A running frame reaches its deadline; STOP_REQ and a missing report follow. -/
  | deadline (l : Fin 16)
  /-- DIGEST_COMPLETE (R355): The sheaf digest (and any furrow hash) completes; the reply is written and the yoke path receives it. -/
  | digestComplete (l : Fin 16) (res : MemRes)
  /-- VF_ENABLE_CLEAR (R364): Clearing VF Enable resets each enabled virtual function's plot. -/
  | vfEnableClear
  /-- BAR_ACCESS_ERROR (R366): A misaligned or wrong-size BAR access is refused and logged. -/
  | barAccessError (p : Plot) (off : BitVec 30) (size : Nat)
  /-- DL_DOWN (R371): The data link goes down; outstanding reads terminate as timeouts. -/
  | dlDown
  /-- COMPLETION (R371): A host completion arrives, or is discarded as unexpected. -/
  | completion (tag : Fin 1024) (data : Option (List (BitVec 8))) (res : MemRes)
  /-- COMPLETION_TIMEOUT (R371): A host read reaches its completion timeout. -/
  | completionTimeout (tag : Fin 1024)
  /-- MSI_X (R373): A vector's 1 µs interval ends and one message covers its events. -/
  | msiX (p : Plot) (vec : Fin 256)
  /-- BUS_MASTER_DISABLE (R382): Bus Master Enable is cleared and the function detaches. -/
  | busMasterDisable (p : Plot)
  /-- D3HOT (R390): The function enters D3hot and detaches. -/
  | d3hot (p : Plot)
  /-- D0_RETURN (R390): The function returns to D0 with its plot intact and detached. -/
  | d0Return (p : Plot)
  /-- DETACH (R382): HST_ATTACH.DETACH detaches the function. -/
  | detach (agent : Agent) (p : Plot)
  /-- REBASE (R384): HST_RB_CTL.GO rebases a queue or stream of a detached function. -/
  | rebase (agent : Agent) (p : Plot)
  /-- REBASE_DONE (R384): Drill finishes writing the new ring and the REBASE bit clears. -/
  | rebaseDone (p : Plot)
  /-- FEED (R375): A write of HRW_S_FEED offers elements, or sets FEED_ERR. -/
  | feed (agent : Agent) (n : Fin 2048) (v : BitVec 32)
  /-- FEED_POLL (R376): Harrow reads a DIR 1 stream's FEED word every 2 µs. -/
  | feedPoll (n : Fin 2048) (res : MemRes)
  /-- ELEMENT_COMMIT (R375): Harrow finishes an element, increments COMMIT and writes the commit word. -/
  | elementCommit (n : Fin 2048) (res : MemRes)
  /-- FLUSH_READ_COMPLETE (R376): A DIR 1 flush read completes and ACKED advances. -/
  | flushReadComplete (n : Fin 2048) (res : MemRes)
  /-- RESUME (R386): HRW_S_CTL.RESUME restarts a paused stream. -/
  | resume (agent : Agent) (n : Fin 2048)
  /-- FLIT_RECEIVE (R393): A yoke flit is received, checked and its messages taken, or NAK follows. -/
  | flitReceive (k : Fin 7) (flit : Option (List (BitVec 8)))
  /-- RX_SILENCE (R393): 50 µs with no valid flit makes the receiver send NAK. -/
  | rxSilence (k : Fin 7)
  /-- LANE_FAIL (R412): A receiver loses lock on a lane; the transmitter swaps to the spare or narrows. -/
  | laneFail (k : Fin 7) (lane : Fin 9)
  /-- LINK_DOWN (R413): 1 ms without valid flits or acknowledgement declares the yoke link DOWN. -/
  | linkDown
  /-- LINK_UP (R413): A retraining attempt brings the link UP and HELLO is sent. -/
  | linkUp (k : Fin 7)
  /-- HELLO (R398): A yoke HELLO is received and checked for YKL major and role. -/
  | hello
  /-- TIME_TICK (R399): Each side sends TIME every 100 µs. -/
  | timeTick
  /-- TIME (R399): A TIME from the twin is received and the follow's offset slews. -/
  | time
  /-- PAIR (R398): PAIR is received and the follow becomes PAIRED. -/
  | pair
  /-- HEARTBEAT_DUE (R401): At H(n) the yoke path takes a Headland record and sends heartbeat n. -/
  | heartbeatDue
  /-- HEARTBEAT (R401): A heartbeat arrives and its HREC is passed to the Headland. -/
  | heartbeat
  /-- HEARTBEAT_DEADLINE (R401): D(n) passes; a missed heartbeat is reported. -/
  | heartbeatDeadline
  /-- ARM (R400): An ARM record of the twin is received. -/
  | arm
  /-- DIGEST (R403): A twin DIGEST arrives and the frame may be decided. -/
  | digest
  /-- MISSING (R403): A twin MISSING arrives and the frame is decided TWIN_MISSING. -/
  | missing
  /-- AGREEMENT_POINT (R403): A(k) passes without a twin digest; the frame is decided TWIN_MISSING. -/
  | agreementPoint (l : Fin 16) (k : BitVec 32)
  /-- HASH (R410): A twin furrow hash arrives and is compared. -/
  | hash
  /-- XQ_DOORBELL (R406): A write of YK_XQ_TAIL offers transfer descriptors to the engine. -/
  | xqDoorbell (agent : Agent) (tail : BitVec 32)
  /-- XREQ (R407): A transfer request is received and executed in ID order, or found duplicate. -/
  | xreq
  /-- XDATA (R407): Transfer data is received and written. -/
  | xdata (res : MemRes)
  /-- XACK (R407): A transfer acknowledgement completes descriptors in ID order. -/
  | xack
  /-- XREPORT (R409): An XREPORT resolves YOKE_LOST descriptors. -/
  | xreport
  /-- REJOIN (R416): YK_CTL.REJOIN announces readiness to pair again. -/
  | rejoin (agent : Agent)
  /-- YOKE_ENABLE (R415): Writing YK_CFG.EN starts or stops the yoke. -/
  | yokeEnable (agent : Agent) (en : Bool) (agree : BitVec 10) (loops : BitVec 16)
  /-- XQ_DISABLE (R406): Clearing YK_XQ_CFG.EN completes waiting descriptors YOKE_LOST. -/
  | xqDisable (agent : Agent)
  /-- SWATH_HELLO (R438): A swath HELLO is received and checked against geometry. -/
  | swathHello (k : Fin 6)
  /-- LSTATE (R423): A link-state message is received, forwarded once and routes recomputed. -/
  | lstate (k : Fin 6)
  /-- RDREQ (R427): A remote read request is checked against export windows and served. -/
  | rdreq (k : Fin 6) (res : MemRes)
  /-- RDRSP (R426): A remote read response returns to the requester. -/
  | rdrsp (k : Fin 6) (res : MemRes)
  /-- WR (R430): A remote write is received and performed once. -/
  | wr (k : Fin 6) (res : MemRes)
  /-- WR64 (R430): A remote 64-byte write is received and performed once. -/
  | wr64 (k : Fin 6) (res : MemRes)
  /-- ATOM (R428): A remote atomic is received and performed at the coherence point. -/
  | atom (k : Fin 6) (res : MemRes)
  /-- ACK (R429): A remote write acknowledgement returns. -/
  | ack (k : Fin 6)
  /-- ATOMR (R429): A remote atomic response returns the old value. -/
  | atomr (k : Fin 6)
  /-- RPTREQ (R435): A report request is received and REPORT is sent. -/
  | rptreq (k : Fin 6)
  /-- REPORT (R435): A REPORT resolves pending loss records. -/
  | report (k : Fin 6)
  /-- BIND (R432): A BIND message delivers contributions or results of a global Binder round. -/
  | bind (k : Fin 6) (res : MemRes)
  /-- BDONE (R432): A BDONE delivers the completion word of a global round. -/
  | bdone (k : Fin 6) (res : MemRes)
  /-- REQUEST_LOST (R434): 2 ms pass without a response and the remote request is lost. -/
  | requestLost (dst : Fin 64) (id : BitVec 32) (read : Bool)
  /-- FABRIC_ENABLE (R438): Writing SWT_CFG.EN starts training of the swath links. -/
  | fabricEnable (agent : Agent)
  /-- LOCKSTEP_MISMATCH (R441): The comparator sees the lockstep cores disagree and switches everything off. -/
  | lockstepMismatch
  /-- SAFETY_CYCLE (R442): Each 1 ms the island samples, evaluates records and faults, and updates outputs. -/
  | safetyCycle (seals : BitVec 12) (veto pulsed : BitVec 2)
  /-- WDOG (R443): An island watchdog service falls outside its window; outputs go off and the island resets. -/
  | wdog
  /-- STATUS (R464): Island message: return HDL_ offsets 0x00–0x3F. -/
  | status
  /-- REG_READ (R511): Island message: read HDL_ registers from one cycle. -/
  | regRead
  /-- PARAM_BEGIN (R450): Island message: begin a parameter load. -/
  | paramBegin
  /-- PARAM_DATA (R450): Island message: deliver parameter body data. -/
  | paramData
  /-- PARAM_COMMIT (R450): Island message: check the body and start the flash write. -/
  | paramCommit
  /-- PARAM_WRITE_DONE (R450): The parameter or confirmation flash write ends; BUSY clears and the set is in force or FAILED. -/
  | paramWriteDone (ok : Bool)
  /-- CHECK_READ (R452): Island message: return the check value. -/
  | checkRead
  /-- CONFIRM (R452): Island message: enter the check value for confirmation. -/
  | confirm
  /-- CONFIRM_TIMEOUT (R452): 60 s pass without a reset edge and CONFIRM_PEND clears. -/
  | confirmTimeout
  /-- LOCKOUT_END (R452): The 600 s CONFIRM lockout expires. -/
  | lockoutEnd
  /-- OPERATE (R454): Island message: arm entry to OPERATIONAL. -/
  | operate
  /-- ARMED_EXPIRY (R454): ARMED clears after 60 s. -/
  | armedExpiry
  /-- STOP (R464): Island message: run LOSS_STOP on each axis and go to STOPPED. -/
  | stop
  /-- HANDOVER (R461): Island message: the holder sets RELINQUISH for a requested handover. -/
  | handover
  /-- HANDOVER_FAILED (R461): No takeover within 2 × FRAME_PERIOD + 2 ms; RELINQUISH clears. -/
  | handoverFailed
  /-- CLEAR_EVT (R470): Island message: clear sticky HDL_ events. -/
  | clearEvt
  /-- FRAME_WATCHDOG (R457): 2 × FRAME_PERIOD passes with no record and a frame counts missing. -/
  | frameWatchdog
  /-- DEGRADE_EXPIRED (R458): DEGRADE_TIME expires in degraded operation. -/
  | degradeExpired
  /-- LOCAL_LOST (R461): Nothing arrives from the own compute side for 2 × FRAME_PERIOD + 1 ms. -/
  | localLost
  /-- GRACE_END (R461): GRACE after LOCAL_LOST ends; the holder switches off and enters FAULT. -/
  | graceEnd
  /-- VETO_TEST_PULSE (R463): Every 1,000 ms the island pulses HVETO_OUT; missing pulses record VETO_LINE. -/
  | vetoTestPulse (pulsed : BitVec 2)
  /-- LOCKUP_N (R461): LOCKUP_N falls and the island records LOCKUP, declaring LOCAL_LOST if enabled. -/
  | lockupN (low : Bool)
  /-- INPUT_SAMPLE (R472): Every 10 µs the island samples and debounces its machine-side inputs. -/
  | inputSample (pins : Pins)
  /-- RESET_STUCK (R453): The reset input stays high beyond 3,000 ms. -/
  | resetStuck
  /-- DISCREPANCY (R474): Input channels differ beyond DISC_TIME and the fault latches. -/
  | discrepancy (n : Fin 8)
  /-- TEST_PULSE (R475): STPA or STPB pulses low and mode 1 inputs are checked. -/
  | testPulse (b : Bool) (pins : Pins)
  /-- OFF_PULSE (R478): An output or enable channel is pulsed off and its readback is tested. -/
  | offPulse (o : Fin 16) (off back : Bool)
  /-- CF_TIME (R481): CF_TIME after a switch passes and contactor feedback is checked. -/
  | cfTime (o : Fin 4)
  /-- ENCODER_EDGE (R491): An accepted encoder A or B change moves the count or is an illegal transition. -/
  | encoderEdge (n : Fin 4) (a b : Bool)
  /-- INDEX_POINT (R493): An index edge references the axis or corrects or mismatches the position. -/
  | indexPoint (n : Fin 4)
  /-- OBSERVER_SAMPLE (R495): Every 62.5 µs the count is latched and the observer computes speed and plausibility. -/
  | observerSample (n : Fin 4) (bits : SdBits)
  /-- T_BLIND (R499): T_BLIND after assertion expires and STO follows. -/
  | tBlind (n : Fin 4)
  /-- DACK_TIMEOUT (R499): No acknowledge within 2 ms of DSTPn and STO follows. -/
  | dackTimeout (n : Fin 4)
  /-- T_SS (R502): T_SS after a stop demand passes and the stop completes or faults. -/
  | tSs (n : Fin 4)
  /-- START (R517): Hitch START is sent once per PERIOD while STARTING. -/
  | start (n : Fin 4)
  /-- START_ACK (R517): A START_ACK answering the current nonce opens the connection. -/
  | startAck (n : Fin 4)
  /-- START_FAIL (R517): No valid START_ACK within TEXP and the connection enters LOST. -/
  | startFail (n : Fin 4)
  /-- DATA_DUE (R518): A DATA PDU falls due and is sent at the output step. -/
  | dataDue (n : Fin 4)
  /-- DATA (R519): A peer DATA is processed for sequence, echo and remote bits. -/
  | data (n : Fin 4)
  /-- CLOSE (R528): A peer CLOSE ends the connection. -/
  | close (n : Fin 4)
  /-- WATCHDOG (R520): WDOG passes since the last accepted peer PDU and the connection closes. -/
  | watchdog (n : Fin 4)
  /-- TIMEOUT (R521): The oldest uncovered PDU exceeds TEXP and the connection closes. -/
  | timeout (n : Fin 4)
  /-- RETRY (R517): RETRY after LOST passes and the connection restarts. -/
  | retry (n : Fin 4)
  /-- HITCH_FRAME_RECEIVE (R514): A port receives an Ethernet frame and assigns it by CRC to a connection. -/
  | hitchFrameReceive (port : Fin 2) (frame : List Byte) (fcsOk : Bool)
  /-- PORT_LINK (R513): A port's SGMII link state or speed changes. -/
  | portLink (port : Fin 2) (speed : PortSpeed)
  /-- TAP_RESET (R532): TRST_N or Test-Logic-Reset resets the TAP controller. -/
  | tapReset
  /-- EXTEST (R533): TAP EXTEST drives the pins from boundary scan. -/
  | extest
  /-- SAMPLE_PRELOAD (R532): TAP SAMPLE/PRELOAD on the boundary-scan register. -/
  | samplePreload
  /-- IDCODE (R532): TAP IDCODE selects the 32-bit IDCODE register. -/
  | idcode
  /-- CLAMP (R533): TAP CLAMP holds the boundary pins. -/
  | clamp
  /-- HIGHZ (R533): TAP HIGHZ floats the boundary pins. -/
  | highz
  /-- BYPASS (R532): TAP BYPASS selects the bypass register. -/
  | bypass (code : BitVec 8)
  /-- BOUNDARY_EXIT_RESET (R533): Leaving EXTEST, CLAMP or HIGHZ performs a package reset with cause DEBUG. -/
  | boundaryExitReset (code : BitVec 8)
  /-- DBGADDR (R534): Update-DR of DBGADDR starts one debug memory access. -/
  | dbgaddr (v : BitVec 64)
  /-- DBGDATA (R534): Update-DR of DBGDATA sets write data. -/
  | dbgdata (v : BitVec 66)
  /-- DEBUG_ACCESS_DONE (R534): A TAP debug access completes with DONE or ERR. -/
  | debugAccessDone (res : MemRes)
  /-- HALT_REQUEST (R536): GLN_HALTREQ halt action requests selected threads to halt. -/
  | haltRequest (agent : Agent) (n : Cid) (mask : BitVec 8)
  /-- HALT (R536): A requested halt takes effect at an instruction boundary. -/
  | halt (h : Tid)
  /-- RESUME_REQUEST (R537): GLN_HALTREQ resume returns halted threads to running. -/
  | resumeRequest (agent : Agent) (n : Cid) (mask : BitVec 8)
  /-- STEP (R537): GLN_HALTREQ step runs one instruction and halts again. -/
  | step (agent : Agent) (n : Cid) (mask : BitVec 8) (noint : Bool)
  /-- DREG_ACCESS (R538): GLN_DREG_SEL.GO reads or writes a halted thread's register. -/
  | dregAccess (agent : Agent) (write : Bool) (h : Tid) (cls : BitVec 3) (index : BitVec 12)
  /-- DEBUG_RESET (R539): A TAP write of GLN_DBGRST performs a package or thread-group reset. -/
  | debugReset (agent : Agent) (key : BitVec 16) (tg : Bool) (n : Cid)
  /-- OVERFLOW (R543): Once 256 FIFO bytes are free after drops, OVERFLOW and SYNC packets are emitted. -/
  | overflow (c : Fin 256)
  /-- TRACE_BLOCK_WRITE (R544): Gleaner writes a completed 64-byte trace block to the buffer. -/
  | traceBlockWrite (c : Fin 256) (res : MemRes)
  /-- TRACE_ENABLE (R550): Writing GLN_TRC_CTL.EN starts trace, or stops it after flushing every FIFO. -/
  | traceEnable (agent : Agent) (v : BitVec 32)
  /-- TALLY_CLEAR (R545): TLY_CTL.CLEAR zeroes every counter and overflow bit. -/
  | tallyClear (agent : Agent)
  /-- LOG_WRITE (R556): The log writer completes the next queued entry, placing or merging it. -/
  | logWrite
  /-- LOG_ACK (R557): RV_LOG_ACK.GO acknowledges one sticky entry. -/
  | logAck (agent : Agent) (index : Fin 4096)
  /-- LOG_ACK_ALL (R557): RV_LOG_ACK with ALL acknowledges every sticky entry. -/
  | logAckAll (agent : Agent)
  /-- LOG_CLEAR (R557): RV_LOG_ACK with CLEAR invalidates every entry. -/
  | logClear (agent : Agent)
  /-- TEMP_SAMPLE (R563): Every 1 ms Reeve samples temperatures and runs the thermal controller. -/
  | tempSample (field headland : List Nat)
  /-- POWER_ESTIMATE (R562): Every 10 µs Reeve updates the power estimate and the power limiter adjusts DUTY. -/
  | powerEstimate (watts : Nat)
  /-- PMBUS_CALIBRATION (R560): Every 10 ms Reeve calibrates the power estimate against PMBus telemetry. -/
  | pmbusCalibration (watts : Nat)
  /-- ERROR_COUNTER_SAMPLE (R565): Every 1 s Reeve checks error counters for ECC_RATE and saturation. -/
  | errorCounterSample
  /-- REGISTER_WRITE (R9): A write to a register with no row of its own takes effect by its access codes. -/
  | registerWrite (target : RegTarget) (wide : Bool) (v : BitVec 64)
  /-- SWATH_LINK_DOWN (R418): A swath link is declared DOWN after 1 ms without valid flits or acknowledgement, sends LSTATE, changes routes and loses requests on it. -/
  | swathLinkDown (k : Fin 6)
  /-- PWRFAIL_N_RELEASE (R466): PWRFAIL_N returns high and the island's PWRFAIL cause clears. -/
  | pwrfailNRelease
  /-- REFCLK_RETURN (R46): REFCLK runs again, the timestamp resumes and the Headland non-safety blocks restart ahead of root PLL relock. -/
  | refclkReturn
  /-- DL_UP (R362): The host link completes training, sets HST_LINK.DL_UP with its width and rate, including after lane-failure retraining. -/
  | dlUp (width : Fin 5) (rate : Fin 6)
  /-- TLBI_ACKNOWLEDGE (R88): The last core leased to the plot acknowledges a broadcast TLBI and the instruction completes. -/
  | tlbiAcknowledge (h : Tid)
  /-- TALLY_OVF (R546): A 48-bit Tally counter carries out of bit 47, wraps to zero, sets its TLY_OVF bit and writes a TALLY_OVF entry. -/
  | tallyOvf (n : Fin 128)
  /-- RECLAIM_REFUSAL_REPLY (R385): No sooner than 10 ms after fetch, the refusal reply of a RECLAIM is written and later RECLAIMs of the function are freed. -/
  | reclaimRefusalReply (e : Fin 4096)
deriving DecidableEq, Repr

end Sys2Proof
end

