-- ==== Sys2Proof/Config.lean ====
section
/-! DEFINITION. The free values: what the spec leaves open. None has a body, so nothing can be proved of a
value. Each is named in notes/assumptions. -/

namespace Sys2Proof.Config

/-- The stream of fresh free values: the machine applies it to the counter `State.fresh`, which the step
advances, wherever the spec states no value (notes/assumptions/2). -/
opaque freeValue : Nat → Nat

/-- The number that names an agent in a fault-log entry (Table 24-3, WRITE_DROPPED), which the spec does
not give (notes/assumptions/3). -/
opaque agentNumber : Nat → Nat

/-- The number that names an error counter, or a sensor outside the Field die, in a fault-log entry
(Table 24-3), which the spec does not give (notes/assumptions/3). -/
opaque counterNumber : Nat → Nat

/-- The contents of an array that a reset leaves undefined (Table 2-4): a byte per reset and place
(notes/assumptions/8). -/
opaque undefByte : Nat → Nat → Nat

/-- The set of its channel's home directory that tracks a line (R199), which the spec does not give
(notes/assumptions/9). -/
opaque dirSet : Nat → Nat

/-- The result of atan2 in binary32 (R495), of two encodings: its rounding, which the spec does not state; the
machine reads it modulo the range of an angle (notes/assumptions/42). -/
opaque atan2 : Nat → Nat → Nat

/-- The package serial number that HELLO carries (Tables 17-2 and 18-2), which the spec does not give
(notes/assumptions/50). -/
opaque packageSerial : Nat

/-- The fuses of the part (R56, R71, BT_STEPPING), which the spec does not give: stepping letter and digit, the hash of
key k, its revocation bit, and the SVN minimum of an image type as manufactured (notes/assumptions/58). -/
opaque fusedLetter : Nat
opaque fusedDigit : Nat
opaque keyHash : Nat → List (BitVec 8)
opaque keyRevoked : Nat → Bool
opaque svnMin : Nat → Nat

/-- The VDD_CORE setpoint that the part's fused voltage code names (R36), in steps of 2.5 mV above 0.70 V: the machine
reads it modulo 41 (notes/assumptions/58). -/
opaque voltageCode : Nat

/-- Where the Drill firmware's contexts start when Drill starts (R60), which the spec does not give
(notes/assumptions/73). -/
opaque drillEntry : Nat → Nat

/-- The set of the second-level TLB that an entry belongs to, of its plot and base page number (R146), which the spec does
not give (notes/assumptions/14). -/
opaque tlbSet : Nat → Nat → Nat

/-- SHA-384 of some bytes, and the verdict of ECDSA P-384 with SHA-384 on a public key, a message and a signature (R55,
R56), whose algorithms the spec names and does not state (notes/assumptions/58). -/
opaque sha384 : List (BitVec 8) → List (BitVec 8)
opaque ecdsaP384 : List (BitVec 8) → List (BitVec 8) → List (BitVec 8) → Bool

end Sys2Proof.Config
end

