-- ==== Sys2Proof/Machine/Registers.lean ====
section
/-! DEFINITION. Every memory-mapped register of the package (and the island's HDL_ registers), field by
field, transcribed from the register tables that close the chapters of spec/ (files 02 to 24): the place,
the access code of R9, the reset value of R12 and, where the meaning column lists or bounds them, the
encodings that R10 lets a write set. -/

namespace Sys2Proof.Machine

/-- The access codes of Table 0-4 (R9). `view` is a `ro` field whose value is computed from other state
(its one home); reserved bits are simply not listed: they read zero and a write to them sets nothing. -/
inductive Acc where
  | rw | ro | w1c | wo | wt | view
deriving DecidableEq, Repr

/-- One field of one register. `id` is the field's own number, under which `State.regs` keeps its value
per instance; `enc` lists the closed ranges of encodings a write may set (empty: every encoding), R10. -/
structure Fld where
  id  : Nat
  hi  : Nat
  lo  : Nat
  acc : Acc
  rst : Nat
  enc : List (Nat × Nat)
deriving DecidableEq, Repr

/-- A field's width in bits. -/
def Fld.width (f : Fld) : Nat := f.hi + 1 - f.lo

/-- A register: its offset in its block's window, the (stride, count) pairs of its replicas in that
window (outermost first), its width in bits and its fields. -/
structure RegDesc where
  name   : String
  off    : Nat
  dims   : List (Nat × Nat)
  width  : Nat
  fields : List Fld
deriving DecidableEq, Repr

/-- The register blocks of Tables 4-1 and 4-2. FURG and GRNG are the group selectors of R80, which are
single registers outside the instance windows; SWTL is one swath link's window. -/
inductive Blk where
  | CLK | PWR | BT | FURG | GRNG | FUR | GRN | DRL | SOW | HRW | BND | HST | YK | SWT | SWTL | HDL | GLN | TLY | RV
deriving DecidableEq, Repr

/-- CLK_STATUS (spec/02, Registers). -/
def CLK_STATUS.FALLBACK : Fld := ⟨0, 2, 2, .ro, 0, []⟩
def CLK_STATUS.ROOT_LOCK : Fld := ⟨1, 1, 1, .ro, 0, []⟩
def CLK_STATUS.REFCLK_OK : Fld := ⟨2, 0, 0, .ro, 0, []⟩
/-- CLK_EVENT (spec/02, Registers). -/
def CLK_EVENT.TS_GAP : Fld := ⟨3, 2, 2, .w1c, 0, []⟩
def CLK_EVENT.ROOT_UNLOCK : Fld := ⟨4, 1, 1, .w1c, 0, []⟩
def CLK_EVENT.REFCLK_LOST : Fld := ⟨5, 0, 0, .w1c, 0, []⟩
/-- CLK_TIMESTAMP (spec/02, Registers). -/
def CLK_TIMESTAMP.TS : Fld := ⟨6, 63, 0, .ro, 0, []⟩

/-- The registers of the CLK block. -/
def regsCLK : List RegDesc := [
  ⟨"CLK_STATUS", 0x0, [], 32, [CLK_STATUS.FALLBACK, CLK_STATUS.ROOT_LOCK, CLK_STATUS.REFCLK_OK]⟩,
  ⟨"CLK_EVENT", 0x4, [], 32, [CLK_EVENT.TS_GAP, CLK_EVENT.ROOT_UNLOCK, CLK_EVENT.REFCLK_LOST]⟩,
  ⟨"CLK_TIMESTAMP", 0x10, [], 64, [CLK_TIMESTAMP.TS]⟩]

/-- PWR_RAIL_STATUS (spec/02, Registers). -/
def PWR_RAIL_STATUS.GOOD : Fld := ⟨7, 8, 0, .ro, 0, []⟩
/-- PWR_RESET_CAUSE (spec/02, Registers). -/
def PWR_RESET_CAUSE.PF_FLR : Fld := ⟨8, 8, 8, .w1c, 0, []⟩
def PWR_RESET_CAUSE.HOST_PORT : Fld := ⟨9, 7, 7, .w1c, 0, []⟩
def PWR_RESET_CAUSE.ROOT_CLOCK : Fld := ⟨10, 6, 6, .w1c, 0, []⟩
def PWR_RESET_CAUSE.BOOT_RESTART : Fld := ⟨11, 5, 5, .w1c, 0, []⟩
def PWR_RESET_CAUSE.DEBUG : Fld := ⟨12, 4, 4, .w1c, 0, []⟩
def PWR_RESET_CAUSE.DRILL_WDOG : Fld := ⟨13, 3, 3, .w1c, 0, []⟩
def PWR_RESET_CAUSE.SOFT : Fld := ⟨14, 2, 2, .w1c, 0, []⟩
def PWR_RESET_CAUSE.WARM_PIN : Fld := ⟨15, 1, 1, .w1c, 0, []⟩
def PWR_RESET_CAUSE.POWER_ON : Fld := ⟨16, 0, 0, .w1c, 1, []⟩
/-- PWR_RESET_CTL (spec/02, Registers). -/
def PWR_RESET_CTL.KEY : Fld := ⟨17, 31, 16, .wo, 0, []⟩
def PWR_RESET_CTL.PKG : Fld := ⟨18, 0, 0, .wt, 0, []⟩
/-- PWR_TG_RESET (spec/02, Registers). -/
def PWR_TG_RESET.GO : Fld := ⟨19, 31, 31, .wt, 0, []⟩
def PWR_TG_RESET.BUSY : Fld := ⟨20, 29, 29, .view, 0, []⟩
def PWR_TG_RESET.CORE : Fld := ⟨21, 6, 0, .wo, 0, []⟩
/-- PWR_WDOG_CFG (spec/02, Registers). -/
def PWR_WDOG_CFG.PERIOD : Fld := ⟨22, 23, 8, .rw, 0x3E8, [(10, 60000)]⟩
def PWR_WDOG_CFG.EN : Fld := ⟨23, 0, 0, .rw, 0, []⟩
/-- PWR_WDOG_KICK (spec/02, Registers). -/
def PWR_WDOG_KICK.KICK : Fld := ⟨24, 0, 0, .wt, 0, []⟩
/-- PWR_GATE_STAT (spec/02, Registers). -/
def PWR_GATE_STAT.GATED : Fld := ⟨25, 31, 0, .view, 0, []⟩
/-- PWR_RESET_COUNT (spec/02, Registers). -/
def PWR_RESET_COUNT.COUNT : Fld := ⟨26, 31, 0, .ro, 0, []⟩

/-- The registers of the PWR block. -/
def regsPWR : List RegDesc := [
  ⟨"PWR_RAIL_STATUS", 0x0, [], 32, [PWR_RAIL_STATUS.GOOD]⟩,
  ⟨"PWR_RESET_CAUSE", 0x4, [], 32, [PWR_RESET_CAUSE.PF_FLR, PWR_RESET_CAUSE.HOST_PORT, PWR_RESET_CAUSE.ROOT_CLOCK, PWR_RESET_CAUSE.BOOT_RESTART, PWR_RESET_CAUSE.DEBUG, PWR_RESET_CAUSE.DRILL_WDOG, PWR_RESET_CAUSE.SOFT, PWR_RESET_CAUSE.WARM_PIN, PWR_RESET_CAUSE.POWER_ON]⟩,
  ⟨"PWR_RESET_CTL", 0x8, [], 32, [PWR_RESET_CTL.KEY, PWR_RESET_CTL.PKG]⟩,
  ⟨"PWR_TG_RESET", 0xC, [], 32, [PWR_TG_RESET.GO, PWR_TG_RESET.BUSY, PWR_TG_RESET.CORE]⟩,
  ⟨"PWR_WDOG_CFG", 0x10, [], 32, [PWR_WDOG_CFG.PERIOD, PWR_WDOG_CFG.EN]⟩,
  ⟨"PWR_WDOG_KICK", 0x14, [], 32, [PWR_WDOG_KICK.KICK]⟩,
  ⟨"PWR_GATE_STAT", 0x20, [(0x4, 4)], 32, [PWR_GATE_STAT.GATED]⟩,
  ⟨"PWR_RESET_COUNT", 0x30, [], 32, [PWR_RESET_COUNT.COUNT]⟩]

/-- BT_STEPPING (spec/03, Registers). -/
def BT_STEPPING.LETTER : Fld := ⟨27, 7, 4, .view, 0, []⟩
def BT_STEPPING.DIGIT : Fld := ⟨28, 3, 0, .view, 0, []⟩
/-- BT_STATUS (spec/03, Registers). -/
def BT_STATUS.CODE : Fld := ⟨29, 15, 8, .ro, 1, []⟩
def BT_STATUS.RECOVERY : Fld := ⟨30, 1, 1, .ro, 0, []⟩
def BT_STATUS.DONE : Fld := ⟨31, 0, 0, .ro, 0, []⟩
/-- BT_SLOT (spec/03, Registers). -/
def BT_SLOT.ID : Fld := ⟨32, 31, 16, .ro, 0, []⟩
def BT_SLOT.B_RESULT : Fld := ⟨33, 11, 8, .ro, 0, []⟩
def BT_SLOT.A_RESULT : Fld := ⟨34, 7, 4, .ro, 0, []⟩
def BT_SLOT.TRIAL : Fld := ⟨35, 1, 1, .ro, 0, []⟩
def BT_SLOT.SEL : Fld := ⟨36, 0, 0, .ro, 0, []⟩
/-- BT_COMPAT (spec/03, Registers). -/
def BT_COMPAT.UNTESTED_PAIR : Fld := ⟨37, 8, 8, .view, 0, []⟩
def BT_COMPAT.TWIN_MIXED : Fld := ⟨38, 4, 4, .ro, 0, []⟩
def BT_COMPAT.UNTESTED_TMC : Fld := ⟨39, 2, 2, .ro, 0, []⟩
def BT_COMPAT.UNTESTED_RVD : Fld := ⟨40, 1, 1, .ro, 0, []⟩
def BT_COMPAT.UNTESTED_HMB : Fld := ⟨41, 0, 0, .ro, 0, []⟩
/-- BT_UPDATE (spec/03, Registers). -/
def BT_UPDATE.KEY : Fld := ⟨42, 31, 16, .wo, 0, []⟩
def BT_UPDATE.RESTART : Fld := ⟨43, 12, 12, .wt, 0, []⟩
def BT_UPDATE.REVERT : Fld := ⟨44, 11, 11, .wt, 0, []⟩
def BT_UPDATE.COMMIT : Fld := ⟨45, 10, 10, .wt, 0, []⟩
def BT_UPDATE.TRIAL : Fld := ⟨46, 9, 9, .wt, 0, []⟩
def BT_UPDATE.BUSY : Fld := ⟨47, 8, 8, .ro, 0, []⟩
def BT_UPDATE.PENDING : Fld := ⟨48, 7, 4, .ro, 0, []⟩
def BT_UPDATE.TYPES : Fld := ⟨49, 3, 0, .wo, 0, []⟩
/-- BT_FLASH_OWN (spec/03, Registers). -/
def BT_FLASH_OWN.DENIED : Fld := ⟨50, 16, 16, .w1c, 0, []⟩
def BT_FLASH_OWN.RELEASE : Fld := ⟨51, 9, 9, .wt, 0, []⟩
def BT_FLASH_OWN.CLAIM : Fld := ⟨52, 8, 8, .wt, 0, []⟩
def BT_FLASH_OWN.OWNER : Fld := ⟨53, 1, 0, .ro, 0, []⟩
/-- BT_FLASH_ADDR (spec/03, Registers). -/
def BT_FLASH_ADDR.ADDR : Fld := ⟨54, 27, 0, .rw, 0, []⟩
/-- BT_FLASH_CMD (spec/03, Registers). -/
def BT_FLASH_CMD.OP : Fld := ⟨55, 1, 0, .wt, 0, []⟩
/-- BT_FLASH_STATUS (spec/03, Registers). -/
def BT_FLASH_STATUS.PROTECTED : Fld := ⟨56, 2, 2, .w1c, 0, []⟩
def BT_FLASH_STATUS.ERR : Fld := ⟨57, 1, 1, .w1c, 0, []⟩
def BT_FLASH_STATUS.BUSY : Fld := ⟨58, 0, 0, .ro, 0, []⟩
/-- BT_SVN_COMMIT (spec/03, Registers). -/
def BT_SVN_COMMIT.KEY : Fld := ⟨59, 31, 16, .wo, 0, []⟩
def BT_SVN_COMMIT.GO : Fld := ⟨60, 4, 4, .wt, 0, []⟩
def BT_SVN_COMMIT.TYPES : Fld := ⟨61, 3, 0, .wo, 0, []⟩
/-- BT_FLASH_BUF (spec/03, Registers). -/
def BT_FLASH_BUF.DATA : Fld := ⟨62, 31, 0, .rw, 0, []⟩

/-- The registers of the BT block. -/
def regsBT : List RegDesc := [
  ⟨"BT_STEPPING", 0x0, [], 32, [BT_STEPPING.LETTER, BT_STEPPING.DIGIT]⟩,
  ⟨"BT_STATUS", 0x4, [], 32, [BT_STATUS.CODE, BT_STATUS.RECOVERY, BT_STATUS.DONE]⟩,
  ⟨"BT_SLOT", 0x10, [(0x4, 4)], 32, [BT_SLOT.ID, BT_SLOT.B_RESULT, BT_SLOT.A_RESULT, BT_SLOT.TRIAL, BT_SLOT.SEL]⟩,
  ⟨"BT_COMPAT", 0x20, [], 32, [BT_COMPAT.UNTESTED_PAIR, BT_COMPAT.TWIN_MIXED, BT_COMPAT.UNTESTED_TMC, BT_COMPAT.UNTESTED_RVD, BT_COMPAT.UNTESTED_HMB]⟩,
  ⟨"BT_UPDATE", 0x24, [], 32, [BT_UPDATE.KEY, BT_UPDATE.RESTART, BT_UPDATE.REVERT, BT_UPDATE.COMMIT, BT_UPDATE.TRIAL, BT_UPDATE.BUSY, BT_UPDATE.PENDING, BT_UPDATE.TYPES]⟩,
  ⟨"BT_FLASH_OWN", 0x30, [], 32, [BT_FLASH_OWN.DENIED, BT_FLASH_OWN.RELEASE, BT_FLASH_OWN.CLAIM, BT_FLASH_OWN.OWNER]⟩,
  ⟨"BT_FLASH_ADDR", 0x34, [], 32, [BT_FLASH_ADDR.ADDR]⟩,
  ⟨"BT_FLASH_CMD", 0x38, [], 32, [BT_FLASH_CMD.OP]⟩,
  ⟨"BT_FLASH_STATUS", 0x3C, [], 32, [BT_FLASH_STATUS.PROTECTED, BT_FLASH_STATUS.ERR, BT_FLASH_STATUS.BUSY]⟩,
  ⟨"BT_SVN_COMMIT", 0x40, [], 32, [BT_SVN_COMMIT.KEY, BT_SVN_COMMIT.GO, BT_SVN_COMMIT.TYPES]⟩,
  ⟨"BT_FLASH_BUF", 0x100, [(0x4, 64)], 32, [BT_FLASH_BUF.DATA]⟩]

/-- FUR_GROUP (spec/04, Registers). -/
def FUR_GROUP.SEL : Fld := ⟨63, 15, 0, .rw, 0, []⟩

/-- The registers of the FURG block. -/
def regsFURG : List RegDesc := [
  ⟨"FUR_GROUP", 0x120000, [], 32, [FUR_GROUP.SEL]⟩]

/-- GRN_GMASK (spec/04, Registers). -/
def GRN_GMASK.MASK : Fld := ⟨64, 31, 0, .rw, 0, []⟩

/-- The registers of the GRNG block. -/
def regsGRNG : List RegDesc := [
  ⟨"GRN_GMASK", 0xD0000, [(0x10, 4), (0x4, 3)], 32, [GRN_GMASK.MASK]⟩]

/-- FUR_XPEND (spec/07, Registers). -/
def FUR_XPEND.LSE : Fld := ⟨65, 8, 8, .ro, 0, []⟩
def FUR_XPEND.SRC : Fld := ⟨66, 3, 0, .w1c, 0, []⟩
/-- FUR_LOCKSTAT (spec/07, Registers). -/
def FUR_LOCKSTAT.LOCKED : Fld := ⟨67, 7, 0, .ro, 0, []⟩
/-- FUR_L1CTL (spec/08, Registers). -/
def FUR_L1CTL.BUSY : Fld := ⟨68, 8, 8, .ro, 0, []⟩
def FUR_L1CTL.IINV : Fld := ⟨69, 5, 5, .wt, 0, []⟩
def FUR_L1CTL.DINV : Fld := ⟨70, 4, 4, .wt, 0, []⟩
def FUR_L1CTL.IEN : Fld := ⟨71, 1, 1, .rw, 1, []⟩
def FUR_L1CTL.DEN : Fld := ⟨72, 0, 0, .rw, 1, []⟩
/-- FUR_RNG_BASE (spec/08, Registers). -/
def FUR_RNG_BASE.BASE : Fld := ⟨73, 40, 6, .rw, 0, []⟩
/-- FUR_RNG_LEN (spec/08, Registers). -/
def FUR_RNG_LEN.LEN : Fld := ⟨74, 40, 6, .rw, 0, []⟩
/-- FUR_RNG_CTL (spec/08, Registers). -/
def FUR_RNG_CTL.GO : Fld := ⟨75, 31, 31, .wt, 0, []⟩
def FUR_RNG_CTL.BUSY : Fld := ⟨76, 30, 30, .ro, 0, []⟩
def FUR_RNG_CTL.ERR : Fld := ⟨77, 29, 29, .w1c, 0, []⟩
def FUR_RNG_CTL.IGNORED : Fld := ⟨78, 28, 28, .w1c, 0, []⟩
def FUR_RNG_CTL.ACTION : Fld := ⟨79, 5, 4, .rw, 0, [(0, 2)]⟩
def FUR_RNG_CTL.MODE : Fld := ⟨80, 0, 0, .rw, 0, []⟩
/-- FUR_RNG_DONE (spec/08, Registers). -/
def FUR_RNG_DONE.LINES : Fld := ⟨81, 31, 0, .ro, 0, []⟩
/-- FUR_ECCCNT (spec/08, Registers). -/
def FUR_ECCCNT.L1 : Fld := ⟨82, 31, 16, .rw, 0, []⟩
def FUR_ECCCNT.FC : Fld := ⟨83, 15, 0, .rw, 0, []⟩
/-- FUR_SILOECC (spec/10, Registers). -/
def FUR_SILOECC.SPILL : Fld := ⟨84, 31, 16, .rw, 0, []⟩
def FUR_SILOECC.SILO : Fld := ⟨85, 15, 0, .rw, 0, []⟩
/-- FUR_GRP (spec/10, Registers). -/
def FUR_GRP.OPEN : Fld := ⟨86, 63, 63, .ro, 0, []⟩
def FUR_GRP.INT : Fld := ⟨87, 62, 62, .ro, 0, []⟩
def FUR_GRP.POISON : Fld := ⟨88, 61, 61, .ro, 0, []⟩
def FUR_GRP.SPILL : Fld := ⟨89, 60, 58, .ro, 0, []⟩
def FUR_GRP.BASE : Fld := ⟨90, 57, 48, .ro, 0, []⟩
def FUR_GRP.ROWS : Fld := ⟨91, 47, 42, .ro, 0, []⟩
def FUR_GRP.COLS : Fld := ⟨92, 41, 36, .ro, 0, []⟩
def FUR_GRP.PHASE : Fld := ⟨93, 9, 0, .ro, 0, []⟩

/-- The registers of the FUR block. -/
def regsFUR : List RegDesc := [
  ⟨"FUR_XPEND", 0x800, [(0x4, 64)], 32, [FUR_XPEND.LSE, FUR_XPEND.SRC]⟩,
  ⟨"FUR_LOCKSTAT", 0xA00, [], 32, [FUR_LOCKSTAT.LOCKED]⟩,
  ⟨"FUR_L1CTL", 0xC00, [(0x4, 8)], 32, [FUR_L1CTL.BUSY, FUR_L1CTL.IINV, FUR_L1CTL.DINV, FUR_L1CTL.IEN, FUR_L1CTL.DEN]⟩,
  ⟨"FUR_RNG_BASE", 0xC40, [], 64, [FUR_RNG_BASE.BASE]⟩,
  ⟨"FUR_RNG_LEN", 0xC48, [], 64, [FUR_RNG_LEN.LEN]⟩,
  ⟨"FUR_RNG_CTL", 0xC50, [], 32, [FUR_RNG_CTL.GO, FUR_RNG_CTL.BUSY, FUR_RNG_CTL.ERR, FUR_RNG_CTL.IGNORED, FUR_RNG_CTL.ACTION, FUR_RNG_CTL.MODE]⟩,
  ⟨"FUR_RNG_DONE", 0xC54, [], 32, [FUR_RNG_DONE.LINES]⟩,
  ⟨"FUR_ECCCNT", 0xC60, [], 32, [FUR_ECCCNT.L1, FUR_ECCCNT.FC]⟩,
  ⟨"FUR_SILOECC", 0xC64, [], 32, [FUR_SILOECC.SPILL, FUR_SILOECC.SILO]⟩,
  ⟨"FUR_GRP", 0x1000, [(0x80, 8), (0x8, 16)], 64, [FUR_GRP.OPEN, FUR_GRP.INT, FUR_GRP.POISON, FUR_GRP.SPILL, FUR_GRP.BASE, FUR_GRP.ROWS, FUR_GRP.COLS, FUR_GRP.PHASE]⟩]

/-- GRN_STATE (spec/12, Registers). -/
def GRN_STATE.MEMBER : Fld := ⟨94, 27, 24, .view, 0, []⟩
def GRN_STATE.SET : Fld := ⟨95, 18, 16, .view, 0, []⟩
def GRN_STATE.SELFREF : Fld := ⟨96, 15, 15, .ro, 0, []⟩
def GRN_STATE.REFUSED : Fld := ⟨97, 9, 9, .w1c, 0, []⟩
def GRN_STATE.BUSY : Fld := ⟨98, 8, 8, .ro, 0, []⟩
def GRN_STATE.MODE : Fld := ⟨99, 1, 0, .ro, 0, []⟩
/-- GRN_MODE_REQ (spec/12, Registers). -/
def GRN_MODE_REQ.GO : Fld := ⟨100, 31, 31, .wt, 0, []⟩
def GRN_MODE_REQ.TARGET : Fld := ⟨101, 1, 0, .wo, 0, []⟩
/-- GRN_TEMP (spec/12, Registers). -/
def GRN_TEMP.HOT : Fld := ⟨102, 8, 8, .ro, 0, []⟩
def GRN_TEMP.TEMP : Fld := ⟨103, 7, 0, .ro, 0, []⟩
/-- GRN_CECNT (spec/12, Registers). -/
def GRN_CECNT.COUNT : Fld := ⟨104, 31, 0, .rw, 0, []⟩
/-- GRN_LINKCNT (spec/12, Registers). -/
def GRN_LINKCNT.FAIL : Fld := ⟨105, 31, 16, .rw, 0, []⟩
def GRN_LINKCNT.RETRY : Fld := ⟨106, 15, 0, .rw, 0, []⟩
/-- GRN_ERR_INFO (spec/12, Registers). -/
def GRN_ERR_INFO.VALID : Fld := ⟨107, 31, 31, .w1c, 0, []⟩
def GRN_ERR_INFO.MORE : Fld := ⟨108, 30, 30, .w1c, 0, []⟩
def GRN_ERR_INFO.SRC : Fld := ⟨109, 18, 16, .ro, 0, []⟩
def GRN_ERR_INFO.TYPE : Fld := ⟨110, 2, 0, .ro, 0, []⟩
/-- GRN_ERR_ADDR (spec/12, Registers). -/
def GRN_ERR_ADDR.PA : Fld := ⟨111, 55, 6, .ro, 0, []⟩
/-- GRN_ERR_TS (spec/12, Registers). -/
def GRN_ERR_TS.TS : Fld := ⟨112, 63, 0, .ro, 0, []⟩
/-- GRN_UECNT (spec/12, Registers). -/
def GRN_UECNT.COUNT : Fld := ⟨113, 31, 0, .rw, 0, []⟩
/-- GRN_SCRUB (spec/12, Registers). -/
def GRN_SCRUB.EN : Fld := ⟨114, 31, 31, .rw, 1, []⟩
def GRN_SCRUB.PERIOD : Fld := ⟨115, 15, 8, .rw, 0x18, [(1, 255)]⟩
/-- GRN_SCRUB_POS (spec/12, Registers). -/
def GRN_SCRUB_POS.LINE : Fld := ⟨116, 24, 0, .ro, 0, []⟩
/-- GRN_TILL_STAT (spec/13, Registers). -/
def GRN_TILL_STAT.LOADED : Fld := ⟨117, 31, 31, .ro, 0, []⟩
def GRN_TILL_STAT.RESIDENT : Fld := ⟨118, 30, 30, .ro, 0, []⟩
def GRN_TILL_STAT.REASON : Fld := ⟨119, 23, 20, .ro, 0, []⟩
def GRN_TILL_STAT.NV : Fld := ⟨120, 14, 14, .ro, 0, []⟩
def GRN_TILL_STAT.OF : Fld := ⟨121, 13, 13, .ro, 0, []⟩
def GRN_TILL_STAT.UF : Fld := ⟨122, 12, 12, .ro, 0, []⟩
def GRN_TILL_STAT.NX : Fld := ⟨123, 11, 11, .ro, 0, []⟩
def GRN_TILL_STAT.SAT : Fld := ⟨124, 10, 10, .ro, 0, []⟩
def GRN_TILL_STAT.PENDING : Fld := ⟨125, 3, 0, .ro, 0, []⟩
/-- GRN_TILL_PC (spec/13, Registers). -/
def GRN_TILL_PC.PC : Fld := ⟨126, 8, 0, .ro, 0, []⟩
/-- GRN_TILL_CKPT (spec/13, Registers). -/
def GRN_TILL_CKPT.VALID : Fld := ⟨127, 31, 31, .ro, 0, []⟩
def GRN_TILL_CKPT.PC : Fld := ⟨128, 24, 16, .ro, 0, []⟩
def GRN_TILL_CKPT.TAG : Fld := ⟨129, 15, 0, .ro, 0, []⟩
/-- GRN_TILL_CKX (spec/13, Registers). -/
def GRN_TILL_CKX.X3 : Fld := ⟨130, 63, 48, .ro, 0, []⟩
def GRN_TILL_CKX.X2 : Fld := ⟨131, 47, 32, .ro, 0, []⟩
def GRN_TILL_CKX.X1 : Fld := ⟨132, 31, 16, .ro, 0, []⟩
def GRN_TILL_CKX.X0 : Fld := ⟨133, 15, 0, .ro, 0, []⟩
/-- GRN_TILL_STALL (spec/13, Registers). -/
def GRN_TILL_STALL.COUNT : Fld := ⟨134, 63, 0, .rw, 0, []⟩
/-- GRN_TILL_SLOTS (spec/13, Registers). -/
def GRN_TILL_SLOTS.COUNT : Fld := ⟨135, 63, 0, .rw, 0, []⟩

/-- The registers of the GRN block. -/
def regsGRN : List RegDesc := [
  ⟨"GRN_STATE", 0x0, [], 32, [GRN_STATE.MEMBER, GRN_STATE.SET, GRN_STATE.SELFREF, GRN_STATE.REFUSED, GRN_STATE.BUSY, GRN_STATE.MODE]⟩,
  ⟨"GRN_MODE_REQ", 0x4, [], 32, [GRN_MODE_REQ.GO, GRN_MODE_REQ.TARGET]⟩,
  ⟨"GRN_TEMP", 0x8, [], 32, [GRN_TEMP.HOT, GRN_TEMP.TEMP]⟩,
  ⟨"GRN_CECNT", 0x10, [], 32, [GRN_CECNT.COUNT]⟩,
  ⟨"GRN_LINKCNT", 0x14, [], 32, [GRN_LINKCNT.FAIL, GRN_LINKCNT.RETRY]⟩,
  ⟨"GRN_ERR_INFO", 0x20, [], 32, [GRN_ERR_INFO.VALID, GRN_ERR_INFO.MORE, GRN_ERR_INFO.SRC, GRN_ERR_INFO.TYPE]⟩,
  ⟨"GRN_ERR_ADDR", 0x28, [], 64, [GRN_ERR_ADDR.PA]⟩,
  ⟨"GRN_ERR_TS", 0x30, [], 64, [GRN_ERR_TS.TS]⟩,
  ⟨"GRN_UECNT", 0x38, [], 32, [GRN_UECNT.COUNT]⟩,
  ⟨"GRN_SCRUB", 0x40, [], 32, [GRN_SCRUB.EN, GRN_SCRUB.PERIOD]⟩,
  ⟨"GRN_SCRUB_POS", 0x44, [], 32, [GRN_SCRUB_POS.LINE]⟩,
  ⟨"GRN_TILL_STAT", 0x100, [], 32, [GRN_TILL_STAT.LOADED, GRN_TILL_STAT.RESIDENT, GRN_TILL_STAT.REASON, GRN_TILL_STAT.NV, GRN_TILL_STAT.OF, GRN_TILL_STAT.UF, GRN_TILL_STAT.NX, GRN_TILL_STAT.SAT, GRN_TILL_STAT.PENDING]⟩,
  ⟨"GRN_TILL_PC", 0x104, [], 32, [GRN_TILL_PC.PC]⟩,
  ⟨"GRN_TILL_CKPT", 0x108, [], 32, [GRN_TILL_CKPT.VALID, GRN_TILL_CKPT.PC, GRN_TILL_CKPT.TAG]⟩,
  ⟨"GRN_TILL_CKX", 0x110, [], 64, [GRN_TILL_CKX.X3, GRN_TILL_CKX.X2, GRN_TILL_CKX.X1, GRN_TILL_CKX.X0]⟩,
  ⟨"GRN_TILL_STALL", 0x118, [], 64, [GRN_TILL_STALL.COUNT]⟩,
  ⟨"GRN_TILL_SLOTS", 0x120, [], 64, [GRN_TILL_SLOTS.COUNT]⟩]

/-- DRL_STATUS (spec/14, Registers). -/
def DRL_STATUS.RUN : Fld := ⟨136, 31, 31, .ro, 0, []⟩
def DRL_STATUS.FULL : Fld := ⟨137, 30, 30, .ro, 0, []⟩
def DRL_STATUS.USED : Fld := ⟨138, 12, 0, .view, 0, []⟩
/-- DRL_CFG (spec/14, Registers). -/
def DRL_CFG.STOP_TMO : Fld := ⟨139, 15, 0, .rw, 0x3E8, [(10, 65535)]⟩
/-- DRL_FULLCNT (spec/14, Registers). -/
def DRL_FULLCNT.COUNT : Fld := ⟨140, 31, 0, .rw, 0, []⟩
/-- DRL_Q_BASE (spec/14, Registers). -/
def DRL_Q_BASE.ADDR : Fld := ⟨141, 63, 12, .rw, 0, []⟩
/-- DRL_Q_CFG (spec/14, Registers). -/
def DRL_Q_CFG.EN : Fld := ⟨142, 31, 31, .rw, 0, []⟩
def DRL_Q_CFG.SELF : Fld := ⟨143, 30, 30, .rw, 0, []⟩
def DRL_Q_CFG.CTRL : Fld := ⟨144, 29, 29, .rw, 0, []⟩
def DRL_Q_CFG.PRIO : Fld := ⟨145, 28, 27, .rw, 0, []⟩
def DRL_Q_CFG.VEC : Fld := ⟨146, 15, 8, .rw, 0, []⟩
def DRL_Q_CFG.LOG2SIZE : Fld := ⟨147, 4, 0, .rw, 0, []⟩
/-- DRL_Q_STAT (spec/14, Registers). -/
def DRL_Q_STAT.HELD : Fld := ⟨148, 31, 31, .view, 0, []⟩
def DRL_Q_STAT.DB_ERR : Fld := ⟨149, 30, 30, .w1c, 0, []⟩
def DRL_Q_STAT.HOST_LOST : Fld := ⟨150, 29, 29, .w1c, 0, []⟩
def DRL_Q_STAT.IDLE : Fld := ⟨151, 28, 28, .view, 0, []⟩
/-- DRL_Q_TAIL (spec/14, Registers). -/
def DRL_Q_TAIL.COUNT : Fld := ⟨152, 31, 0, .rw, 0, []⟩
/-- DRL_Q_HEAD (spec/14, Registers). -/
def DRL_Q_HEAD.COUNT : Fld := ⟨153, 31, 0, .ro, 0, []⟩
/-- DRL_CR_BASE (spec/14, Registers). -/
def DRL_CR_BASE.ADDR : Fld := ⟨154, 63, 12, .rw, 0, []⟩
/-- DRL_CR_HEAD (spec/14, Registers). -/
def DRL_CR_HEAD.COUNT : Fld := ⟨155, 31, 0, .ro, 0, []⟩
/-- DRL_CR_TAIL (spec/14, Registers). -/
def DRL_CR_TAIL.COUNT : Fld := ⟨156, 31, 0, .rw, 0, []⟩
/-- DRL_Q_TAILADDR (spec/14, Registers). -/
def DRL_Q_TAILADDR.ADDR : Fld := ⟨157, 63, 2, .rw, 0, []⟩

/-- The registers of the DRL block. -/
def regsDRL : List RegDesc := [
  ⟨"DRL_STATUS", 0x0, [], 32, [DRL_STATUS.RUN, DRL_STATUS.FULL, DRL_STATUS.USED]⟩,
  ⟨"DRL_CFG", 0x4, [], 32, [DRL_CFG.STOP_TMO]⟩,
  ⟨"DRL_FULLCNT", 0x8, [], 32, [DRL_FULLCNT.COUNT]⟩,
  ⟨"DRL_Q_BASE", 0x100000, [(0x1000, 512), (0x80, 8)], 64, [DRL_Q_BASE.ADDR]⟩,
  ⟨"DRL_Q_CFG", 0x100008, [(0x1000, 512), (0x80, 8)], 32, [DRL_Q_CFG.EN, DRL_Q_CFG.SELF, DRL_Q_CFG.CTRL, DRL_Q_CFG.PRIO, DRL_Q_CFG.VEC, DRL_Q_CFG.LOG2SIZE]⟩,
  ⟨"DRL_Q_STAT", 0x10000C, [(0x1000, 512), (0x80, 8)], 32, [DRL_Q_STAT.HELD, DRL_Q_STAT.DB_ERR, DRL_Q_STAT.HOST_LOST, DRL_Q_STAT.IDLE]⟩,
  ⟨"DRL_Q_TAIL", 0x100010, [(0x1000, 512), (0x80, 8)], 32, [DRL_Q_TAIL.COUNT]⟩,
  ⟨"DRL_Q_HEAD", 0x100014, [(0x1000, 512), (0x80, 8)], 32, [DRL_Q_HEAD.COUNT]⟩,
  ⟨"DRL_CR_BASE", 0x100018, [(0x1000, 512), (0x80, 8)], 64, [DRL_CR_BASE.ADDR]⟩,
  ⟨"DRL_CR_HEAD", 0x100020, [(0x1000, 512), (0x80, 8)], 32, [DRL_CR_HEAD.COUNT]⟩,
  ⟨"DRL_CR_TAIL", 0x100024, [(0x1000, 512), (0x80, 8)], 32, [DRL_CR_TAIL.COUNT]⟩,
  ⟨"DRL_Q_TAILADDR", 0x100028, [(0x1000, 512), (0x80, 8)], 64, [DRL_Q_TAILADDR.ADDR]⟩]

/-- SOW_STATUS (spec/15, Registers). -/
def SOW_STATUS.ARMED : Fld := ⟨158, 15, 0, .view, 0, []⟩
/-- SOW_LOOP_CTL (spec/15, Registers). -/
def SOW_LOOP_CTL.ARMED : Fld := ⟨159, 31, 31, .ro, 0, []⟩
def SOW_LOOP_CTL.STATE : Fld := ⟨160, 30, 28, .view, 0, []⟩
def SOW_LOOP_CTL.PLOT : Fld := ⟨161, 24, 16, .ro, 0, []⟩
def SOW_LOOP_CTL.QUEUE : Fld := ⟨162, 10, 8, .ro, 0, []⟩
def SOW_LOOP_CTL.MISSRUN : Fld := ⟨163, 7, 0, .ro, 0, []⟩
/-- SOW_LOOP_PERIOD (spec/15, Registers). -/
def SOW_LOOP_PERIOD.NS : Fld := ⟨164, 31, 0, .ro, 0, []⟩
/-- SOW_LOOP_DEADLINE (spec/15, Registers). -/
def SOW_LOOP_DEADLINE.NS : Fld := ⟨165, 31, 0, .ro, 0, []⟩
/-- SOW_LOOP_NEXTK (spec/15, Registers). -/
def SOW_LOOP_NEXTK.K : Fld := ⟨166, 31, 0, .ro, 0, []⟩
/-- SOW_LOOP_NEXTTS (spec/15, Registers). -/
def SOW_LOOP_NEXTTS.TS : Fld := ⟨167, 63, 0, .ro, 0, []⟩
/-- SOW_LOOP_OK (spec/15, Registers). -/
def SOW_LOOP_OK.COUNT : Fld := ⟨168, 31, 0, .rw, 0, []⟩
/-- SOW_LOOP_MISSED (spec/15, Registers). -/
def SOW_LOOP_MISSED.COUNT : Fld := ⟨169, 31, 0, .rw, 0, []⟩
/-- SOW_LOOP_DROPPED (spec/15, Registers). -/
def SOW_LOOP_DROPPED.COUNT : Fld := ⟨170, 31, 0, .rw, 0, []⟩
/-- SOW_LOOP_FAULTED (spec/15, Registers). -/
def SOW_LOOP_FAULTED.COUNT : Fld := ⟨171, 31, 0, .rw, 0, []⟩
/-- SOW_LOOP_WORST (spec/15, Registers). -/
def SOW_LOOP_WORST.NS : Fld := ⟨172, 31, 0, .rw, 0, []⟩
/-- SOW_LOOP_EVT (spec/15, Registers). -/
def SOW_LOOP_EVT.RINGFULL : Fld := ⟨173, 2, 2, .w1c, 0, []⟩
def SOW_LOOP_EVT.WARNED : Fld := ⟨174, 1, 1, .w1c, 0, []⟩
def SOW_LOOP_EVT.FORCED : Fld := ⟨175, 0, 0, .w1c, 0, []⟩

/-- The registers of the SOW block. -/
def regsSOW : List RegDesc := [
  ⟨"SOW_STATUS", 0x0, [], 32, [SOW_STATUS.ARMED]⟩,
  ⟨"SOW_LOOP_CTL", 0x1000, [(0x80, 16)], 32, [SOW_LOOP_CTL.ARMED, SOW_LOOP_CTL.STATE, SOW_LOOP_CTL.PLOT, SOW_LOOP_CTL.QUEUE, SOW_LOOP_CTL.MISSRUN]⟩,
  ⟨"SOW_LOOP_PERIOD", 0x1004, [(0x80, 16)], 32, [SOW_LOOP_PERIOD.NS]⟩,
  ⟨"SOW_LOOP_DEADLINE", 0x1008, [(0x80, 16)], 32, [SOW_LOOP_DEADLINE.NS]⟩,
  ⟨"SOW_LOOP_NEXTK", 0x1010, [(0x80, 16)], 32, [SOW_LOOP_NEXTK.K]⟩,
  ⟨"SOW_LOOP_NEXTTS", 0x1018, [(0x80, 16)], 64, [SOW_LOOP_NEXTTS.TS]⟩,
  ⟨"SOW_LOOP_OK", 0x1020, [(0x80, 16)], 32, [SOW_LOOP_OK.COUNT]⟩,
  ⟨"SOW_LOOP_MISSED", 0x1024, [(0x80, 16)], 32, [SOW_LOOP_MISSED.COUNT]⟩,
  ⟨"SOW_LOOP_DROPPED", 0x1028, [(0x80, 16)], 32, [SOW_LOOP_DROPPED.COUNT]⟩,
  ⟨"SOW_LOOP_FAULTED", 0x102C, [(0x80, 16)], 32, [SOW_LOOP_FAULTED.COUNT]⟩,
  ⟨"SOW_LOOP_WORST", 0x1030, [(0x80, 16)], 32, [SOW_LOOP_WORST.NS]⟩,
  ⟨"SOW_LOOP_EVT", 0x1034, [(0x80, 16)], 32, [SOW_LOOP_EVT.RINGFULL, SOW_LOOP_EVT.WARNED, SOW_LOOP_EVT.FORCED]⟩]

/-- HRW_S_FEED (spec/16, Registers). -/
def HRW_S_FEED.COUNT : Fld := ⟨176, 31, 0, .rw, 0, []⟩
/-- HRW_S_STAT (spec/16, Registers). -/
def HRW_S_STAT.OPEN : Fld := ⟨177, 31, 31, .ro, 0, []⟩
def HRW_S_STAT.PAUSED : Fld := ⟨178, 30, 30, .ro, 0, []⟩
def HRW_S_STAT.HOST_LOST : Fld := ⟨179, 29, 29, .w1c, 0, []⟩
def HRW_S_STAT.FEED_ERR : Fld := ⟨180, 28, 28, .w1c, 0, []⟩
def HRW_S_STAT.DIR : Fld := ⟨181, 27, 27, .ro, 0, []⟩
def HRW_S_STAT.PLOT : Fld := ⟨182, 8, 0, .ro, 0, []⟩
/-- HRW_S_COMMIT (spec/16, Registers). -/
def HRW_S_COMMIT.COUNT : Fld := ⟨183, 31, 0, .ro, 0, []⟩
/-- HRW_S_ACKED (spec/16, Registers). -/
def HRW_S_ACKED.COUNT : Fld := ⟨184, 31, 0, .ro, 0, []⟩
/-- HRW_S_CTL (spec/16, Registers). -/
def HRW_S_CTL.RESUME : Fld := ⟨185, 31, 31, .wt, 0, []⟩
def HRW_S_CTL.NOTIFY_EN : Fld := ⟨186, 30, 30, .rw, 0, []⟩
def HRW_S_CTL.IRQ_EN : Fld := ⟨187, 29, 29, .rw, 0, []⟩
def HRW_S_CTL.VEC : Fld := ⟨188, 23, 16, .rw, 0, []⟩
def HRW_S_CTL.THREAD : Fld := ⟨189, 9, 0, .rw, 0, []⟩

/-- The registers of the HRW block. -/
def regsHRW : List RegDesc := [
  ⟨"HRW_S_FEED", 0x10000, [(0x20, 2048)], 32, [HRW_S_FEED.COUNT]⟩,
  ⟨"HRW_S_STAT", 0x10004, [(0x20, 2048)], 32, [HRW_S_STAT.OPEN, HRW_S_STAT.PAUSED, HRW_S_STAT.HOST_LOST, HRW_S_STAT.FEED_ERR, HRW_S_STAT.DIR, HRW_S_STAT.PLOT]⟩,
  ⟨"HRW_S_COMMIT", 0x10008, [(0x20, 2048)], 32, [HRW_S_COMMIT.COUNT]⟩,
  ⟨"HRW_S_ACKED", 0x1000C, [(0x20, 2048)], 32, [HRW_S_ACKED.COUNT]⟩,
  ⟨"HRW_S_CTL", 0x10010, [(0x20, 2048)], 32, [HRW_S_CTL.RESUME, HRW_S_CTL.NOTIFY_EN, HRW_S_CTL.IRQ_EN, HRW_S_CTL.VEC, HRW_S_CTL.THREAD]⟩]

/-- BND_OP_CTL (spec/10, Registers). -/
def BND_OP_CTL.V : Fld := ⟨190, 31, 31, .rw, 0, []⟩
def BND_OP_CTL.MODE : Fld := ⟨191, 30, 30, .rw, 0, []⟩
def BND_OP_CTL.INT : Fld := ⟨192, 29, 29, .rw, 0, []⟩
def BND_OP_CTL.N : Fld := ⟨193, 23, 12, .rw, 0, []⟩
def BND_OP_CTL.E : Fld := ⟨194, 11, 0, .rw, 0, []⟩
/-- BND_OP_PLOT (spec/10, Registers). -/
def BND_OP_PLOT.PLOT : Fld := ⟨195, 8, 0, .rw, 0, []⟩
/-- BND_OP_SCRATCH (spec/10, Registers). -/
def BND_OP_SCRATCH.ADDR : Fld := ⟨196, 55, 6, .rw, 0, []⟩
/-- BND_OP_RESULT (spec/10, Registers). -/
def BND_OP_RESULT.ADDR : Fld := ⟨197, 55, 6, .rw, 0, []⟩
/-- BND_OP_STAT (spec/10, Registers). -/
def BND_OP_STAT.ROUND : Fld := ⟨198, 31, 16, .ro, 0, []⟩
def BND_OP_STAT.ARRIVED : Fld := ⟨199, 15, 3, .ro, 0, []⟩
def BND_OP_STAT.FAILED : Fld := ⟨200, 2, 2, .ro, 0, []⟩
def BND_OP_STAT.POISON : Fld := ⟨201, 1, 1, .ro, 0, []⟩
def BND_OP_STAT.BUSY : Fld := ⟨202, 0, 0, .ro, 0, []⟩
/-- BND_OP_ACRE (spec/18, Registers). -/
def BND_OP_ACRE.GLOBAL : Fld := ⟨203, 31, 31, .rw, 0, []⟩
def BND_OP_ACRE.HOME : Fld := ⟨204, 5, 0, .rw, 0, []⟩
/-- BND_OP_PEERS (spec/18, Registers). -/
def BND_OP_PEERS.MASK : Fld := ⟨205, 63, 0, .rw, 0, []⟩

/-- The registers of the BND block. -/
def regsBND : List RegDesc := [
  ⟨"BND_OP_CTL", 0x1000, [(0x40, 64)], 32, [BND_OP_CTL.V, BND_OP_CTL.MODE, BND_OP_CTL.INT, BND_OP_CTL.N, BND_OP_CTL.E]⟩,
  ⟨"BND_OP_PLOT", 0x1004, [(0x40, 64)], 32, [BND_OP_PLOT.PLOT]⟩,
  ⟨"BND_OP_SCRATCH", 0x1008, [(0x40, 64)], 64, [BND_OP_SCRATCH.ADDR]⟩,
  ⟨"BND_OP_RESULT", 0x1010, [(0x40, 64)], 64, [BND_OP_RESULT.ADDR]⟩,
  ⟨"BND_OP_STAT", 0x1018, [(0x40, 64)], 32, [BND_OP_STAT.ROUND, BND_OP_STAT.ARRIVED, BND_OP_STAT.FAILED, BND_OP_STAT.POISON, BND_OP_STAT.BUSY]⟩,
  ⟨"BND_OP_ACRE", 0x1020, [(0x40, 64)], 32, [BND_OP_ACRE.GLOBAL, BND_OP_ACRE.HOME]⟩,
  ⟨"BND_OP_PEERS", 0x1028, [(0x40, 64)], 64, [BND_OP_PEERS.MASK]⟩]

/-- HST_LINK (spec/16, Registers). -/
def HST_LINK.DL_UP : Fld := ⟨206, 31, 31, .ro, 0, []⟩
def HST_LINK.DEGRADED : Fld := ⟨207, 30, 30, .ro, 0, []⟩
def HST_LINK.WIDTH : Fld := ⟨208, 8, 4, .ro, 0, []⟩
def HST_LINK.RATE : Fld := ⟨209, 3, 0, .ro, 0, []⟩
/-- HST_EVENT (spec/16, Registers). -/
def HST_EVENT.UNEXP_CPL : Fld := ⟨210, 3, 3, .w1c, 0, []⟩
def HST_EVENT.CPL_ERR : Fld := ⟨211, 2, 2, .w1c, 0, []⟩
def HST_EVENT.CPL_TMO : Fld := ⟨212, 1, 1, .w1c, 0, []⟩
def HST_EVENT.LINK_DOWN : Fld := ⟨213, 0, 0, .w1c, 0, []⟩
/-- HST_TMOCNT (spec/16, Registers). -/
def HST_TMOCNT.COUNT : Fld := ⟨214, 31, 0, .rw, 0, []⟩
/-- HST_DOWNCNT (spec/16, Registers). -/
def HST_DOWNCNT.COUNT : Fld := ⟨215, 31, 0, .rw, 0, []⟩
/-- HST_APT (spec/16, Registers). -/
def HST_APT.V : Fld := ⟨216, 63, 63, .rw, 0, []⟩
def HST_APT.HBASE : Fld := ⟨217, 61, 30, .rw, 0, []⟩
def HST_APT.PLOT : Fld := ⟨218, 8, 0, .rw, 0, []⟩
/-- HST_ATTACH (spec/16, Registers). -/
def HST_ATTACH.STATE : Fld := ⟨219, 31, 30, .ro, 0, []⟩
def HST_ATTACH.SESSION : Fld := ⟨220, 29, 29, .ro, 0, []⟩
def HST_ATTACH.DETACH : Fld := ⟨221, 28, 28, .wt, 0, []⟩
def HST_ATTACH.CAUSE : Fld := ⟨222, 27, 24, .ro, 0, []⟩
def HST_ATTACH.REBASE : Fld := ⟨223, 7, 0, .ro, 0, []⟩
/-- HST_RB_SEL (spec/16, Registers). -/
def HST_RB_SEL.KIND : Fld := ⟨224, 31, 31, .rw, 0, []⟩
def HST_RB_SEL.INDEX : Fld := ⟨225, 10, 0, .rw, 0, []⟩
/-- HST_RB_BASE (spec/16, Registers). -/
def HST_RB_BASE.ADDR : Fld := ⟨226, 63, 12, .rw, 0, []⟩
/-- HST_RB_CRBASE (spec/16, Registers). -/
def HST_RB_CRBASE.ADDR : Fld := ⟨227, 63, 12, .rw, 0, []⟩
/-- HST_RB_CTL (spec/16, Registers). -/
def HST_RB_CTL.GO : Fld := ⟨228, 31, 31, .wt, 0, []⟩
def HST_RB_CTL.BUSY : Fld := ⟨229, 30, 30, .ro, 0, []⟩
def HST_RB_CTL.ERR : Fld := ⟨230, 29, 29, .w1c, 0, []⟩
/-- HST_APTDROP (spec/16, Registers). -/
def HST_APTDROP.COUNT : Fld := ⟨231, 31, 0, .rw, 0, []⟩

/-- The registers of the HST block. -/
def regsHST : List RegDesc := [
  ⟨"HST_LINK", 0x0, [], 32, [HST_LINK.DL_UP, HST_LINK.DEGRADED, HST_LINK.WIDTH, HST_LINK.RATE]⟩,
  ⟨"HST_EVENT", 0x4, [], 32, [HST_EVENT.UNEXP_CPL, HST_EVENT.CPL_ERR, HST_EVENT.CPL_TMO, HST_EVENT.LINK_DOWN]⟩,
  ⟨"HST_TMOCNT", 0x8, [], 32, [HST_TMOCNT.COUNT]⟩,
  ⟨"HST_DOWNCNT", 0xC, [], 32, [HST_DOWNCNT.COUNT]⟩,
  ⟨"HST_APT", 0x1000, [(0x8, 1024)], 64, [HST_APT.V, HST_APT.HBASE, HST_APT.PLOT]⟩,
  ⟨"HST_ATTACH", 0x100000, [(0x1000, 512)], 32, [HST_ATTACH.STATE, HST_ATTACH.SESSION, HST_ATTACH.DETACH, HST_ATTACH.CAUSE, HST_ATTACH.REBASE]⟩,
  ⟨"HST_RB_SEL", 0x100008, [(0x1000, 512)], 32, [HST_RB_SEL.KIND, HST_RB_SEL.INDEX]⟩,
  ⟨"HST_RB_BASE", 0x100010, [(0x1000, 512)], 64, [HST_RB_BASE.ADDR]⟩,
  ⟨"HST_RB_CRBASE", 0x100018, [(0x1000, 512)], 64, [HST_RB_CRBASE.ADDR]⟩,
  ⟨"HST_RB_CTL", 0x100020, [(0x1000, 512)], 32, [HST_RB_CTL.GO, HST_RB_CTL.BUSY, HST_RB_CTL.ERR]⟩,
  ⟨"HST_APTDROP", 0x100024, [(0x1000, 512)], 32, [HST_APTDROP.COUNT]⟩]

/-- YK_STATUS (spec/17, Registers). -/
def YK_STATUS.YSTATE : Fld := ⟨232, 31, 29, .ro, 0, []⟩
def YK_STATUS.LINK : Fld := ⟨233, 28, 27, .ro, 0, []⟩
def YK_STATUS.LEAD : Fld := ⟨234, 26, 26, .ro, 0, []⟩
def YK_STATUS.TVALID : Fld := ⟨235, 25, 25, .ro, 0, []⟩
def YK_STATUS.REJOIN_TWIN : Fld := ⟨236, 24, 24, .ro, 0, []⟩
def YK_STATUS.TXWIDTH : Fld := ⟨237, 23, 20, .ro, 0, []⟩
def YK_STATUS.RXWIDTH : Fld := ⟨238, 19, 16, .ro, 0, []⟩
def YK_STATUS.RXFAILED : Fld := ⟨239, 8, 0, .ro, 0, []⟩
/-- YK_EVENT (spec/17, Registers). -/
def YK_EVENT.XRESOLVED : Fld := ⟨240, 9, 9, .w1c, 0, []⟩
def YK_EVENT.DIVERGENCE : Fld := ⟨241, 8, 8, .w1c, 0, []⟩
def YK_EVENT.DISAGREE : Fld := ⟨242, 7, 7, .w1c, 0, []⟩
def YK_EVENT.INCOMPAT : Fld := ⟨243, 6, 6, .w1c, 0, []⟩
def YK_EVENT.ROLE_CONFLICT : Fld := ⟨244, 5, 5, .w1c, 0, []⟩
def YK_EVENT.TWIN_LOST : Fld := ⟨245, 4, 4, .w1c, 0, []⟩
def YK_EVENT.HB_MISSED : Fld := ⟨246, 3, 3, .w1c, 0, []⟩
def YK_EVENT.LINK_DOWN : Fld := ⟨247, 2, 2, .w1c, 0, []⟩
def YK_EVENT.NARROW : Fld := ⟨248, 1, 1, .w1c, 0, []⟩
def YK_EVENT.LANE : Fld := ⟨249, 0, 0, .w1c, 0, []⟩
/-- YK_CFG (spec/17, Registers). -/
def YK_CFG.EN : Fld := ⟨250, 31, 31, .rw, 0, []⟩
def YK_CFG.AGREE : Fld := ⟨251, 25, 16, .rw, 0xC8, [(10, 1000)]⟩
def YK_CFG.YLOOPS : Fld := ⟨252, 15, 0, .rw, 0, []⟩
/-- YK_CTL (spec/17, Registers). -/
def YK_CTL.REJOIN : Fld := ⟨253, 0, 0, .wt, 0, []⟩
/-- YK_HB_PERIOD (spec/17, Registers). -/
def YK_HB_PERIOD.NS : Fld := ⟨254, 31, 0, .rw, 0x3F940B, []⟩
/-- YK_HB_SLACK (spec/17, Registers). -/
def YK_HB_SLACK.US : Fld := ⟨255, 9, 0, .rw, 0x64, []⟩
/-- YK_HB_LAST (spec/17, Registers). -/
def YK_HB_LAST.N : Fld := ⟨256, 31, 0, .ro, 0, []⟩
/-- YK_TIME_OFF (spec/17, Registers). -/
def YK_TIME_OFF.OFF : Fld := ⟨257, 63, 0, .ro, 0, []⟩
/-- YK_TIME (spec/17, Registers). -/
def YK_TIME.TS : Fld := ⟨258, 63, 0, .view, 0, []⟩
/-- YK_RETRYCNT (spec/17, Registers). -/
def YK_RETRYCNT.COUNT : Fld := ⟨259, 31, 0, .rw, 0, []⟩
/-- YK_SWAPCNT (spec/17, Registers). -/
def YK_SWAPCNT.COUNT : Fld := ⟨260, 31, 0, .rw, 0, []⟩
/-- YK_HBMISSCNT (spec/17, Registers). -/
def YK_HBMISSCNT.COUNT : Fld := ⟨261, 31, 0, .rw, 0, []⟩
/-- YK_REL_OK (spec/17, Registers). -/
def YK_REL_OK.COUNT : Fld := ⟨262, 31, 0, .rw, 0, []⟩
/-- YK_REL_DIS (spec/17, Registers). -/
def YK_REL_DIS.COUNT : Fld := ⟨263, 31, 0, .rw, 0, []⟩
/-- YK_REL_MISS (spec/17, Registers). -/
def YK_REL_MISS.COUNT : Fld := ⟨264, 31, 0, .rw, 0, []⟩
/-- YK_REL_LATE (spec/17, Registers). -/
def YK_REL_LATE.COUNT : Fld := ⟨265, 31, 0, .rw, 0, []⟩
/-- YK_DIVCNT (spec/17, Registers). -/
def YK_DIVCNT.COUNT : Fld := ⟨266, 31, 0, .rw, 0, []⟩
/-- YK_BADMSG (spec/17, Registers). -/
def YK_BADMSG.COUNT : Fld := ⟨267, 31, 0, .rw, 0, []⟩
/-- YK_REL_LAST (spec/17, Registers). -/
def YK_REL_LAST.K : Fld := ⟨268, 63, 32, .ro, 0, []⟩
def YK_REL_LAST.LOOP : Fld := ⟨269, 31, 24, .ro, 0, []⟩
def YK_REL_LAST.OUTCOME : Fld := ⟨270, 23, 16, .ro, 0, []⟩
/-- YK_XQ_BASE (spec/17, Registers). -/
def YK_XQ_BASE.ADDR : Fld := ⟨271, 40, 12, .rw, 0, []⟩
/-- YK_XQ_CFG (spec/17, Registers). -/
def YK_XQ_CFG.EN : Fld := ⟨272, 31, 31, .rw, 0, []⟩
def YK_XQ_CFG.LOG2SIZE : Fld := ⟨273, 4, 0, .rw, 0, [(4, 12)]⟩
/-- YK_XQ_TAIL (spec/17, Registers). -/
def YK_XQ_TAIL.COUNT : Fld := ⟨274, 31, 0, .rw, 0, []⟩
/-- YK_XQ_HEAD (spec/17, Registers). -/
def YK_XQ_HEAD.COUNT : Fld := ⟨275, 31, 0, .ro, 0, []⟩
/-- YK_HASH_CFG (spec/17, Registers). -/
def YK_HASH_CFG.EN : Fld := ⟨276, 31, 31, .rw, 0, []⟩
def YK_HASH_CFG.LOOP : Fld := ⟨277, 19, 16, .rw, 0, []⟩
def YK_HASH_CFG.EVERY : Fld := ⟨278, 15, 0, .rw, 0, [(1, 65535)]⟩
/-- YK_HASH_LAST (spec/17, Registers). -/
def YK_HASH_LAST.HASH : Fld := ⟨279, 63, 0, .ro, 0, []⟩
/-- YK_HASH_K (spec/17, Registers). -/
def YK_HASH_K.K : Fld := ⟨280, 31, 0, .ro, 0, []⟩
/-- YK_HASH_BASE (spec/17, Registers). -/
def YK_HASH_BASE.ADDR : Fld := ⟨281, 40, 16, .rw, 0, []⟩
/-- YK_HASH_LEN (spec/17, Registers). -/
def YK_HASH_LEN.LEN : Fld := ⟨282, 40, 16, .rw, 0, []⟩

/-- The registers of the YK block. -/
def regsYK : List RegDesc := [
  ⟨"YK_STATUS", 0x0, [], 32, [YK_STATUS.YSTATE, YK_STATUS.LINK, YK_STATUS.LEAD, YK_STATUS.TVALID, YK_STATUS.REJOIN_TWIN, YK_STATUS.TXWIDTH, YK_STATUS.RXWIDTH, YK_STATUS.RXFAILED]⟩,
  ⟨"YK_EVENT", 0x4, [], 32, [YK_EVENT.XRESOLVED, YK_EVENT.DIVERGENCE, YK_EVENT.DISAGREE, YK_EVENT.INCOMPAT, YK_EVENT.ROLE_CONFLICT, YK_EVENT.TWIN_LOST, YK_EVENT.HB_MISSED, YK_EVENT.LINK_DOWN, YK_EVENT.NARROW, YK_EVENT.LANE]⟩,
  ⟨"YK_CFG", 0x8, [], 32, [YK_CFG.EN, YK_CFG.AGREE, YK_CFG.YLOOPS]⟩,
  ⟨"YK_CTL", 0xC, [], 32, [YK_CTL.REJOIN]⟩,
  ⟨"YK_HB_PERIOD", 0x10, [], 32, [YK_HB_PERIOD.NS]⟩,
  ⟨"YK_HB_SLACK", 0x14, [], 32, [YK_HB_SLACK.US]⟩,
  ⟨"YK_HB_LAST", 0x18, [], 32, [YK_HB_LAST.N]⟩,
  ⟨"YK_TIME_OFF", 0x20, [], 64, [YK_TIME_OFF.OFF]⟩,
  ⟨"YK_TIME", 0x28, [], 64, [YK_TIME.TS]⟩,
  ⟨"YK_RETRYCNT", 0x30, [], 32, [YK_RETRYCNT.COUNT]⟩,
  ⟨"YK_SWAPCNT", 0x34, [], 32, [YK_SWAPCNT.COUNT]⟩,
  ⟨"YK_HBMISSCNT", 0x38, [], 32, [YK_HBMISSCNT.COUNT]⟩,
  ⟨"YK_REL_OK", 0x3C, [], 32, [YK_REL_OK.COUNT]⟩,
  ⟨"YK_REL_DIS", 0x40, [], 32, [YK_REL_DIS.COUNT]⟩,
  ⟨"YK_REL_MISS", 0x44, [], 32, [YK_REL_MISS.COUNT]⟩,
  ⟨"YK_REL_LATE", 0x48, [], 32, [YK_REL_LATE.COUNT]⟩,
  ⟨"YK_DIVCNT", 0x4C, [], 32, [YK_DIVCNT.COUNT]⟩,
  ⟨"YK_BADMSG", 0x50, [], 32, [YK_BADMSG.COUNT]⟩,
  ⟨"YK_REL_LAST", 0x58, [], 64, [YK_REL_LAST.K, YK_REL_LAST.LOOP, YK_REL_LAST.OUTCOME]⟩,
  ⟨"YK_XQ_BASE", 0x60, [], 64, [YK_XQ_BASE.ADDR]⟩,
  ⟨"YK_XQ_CFG", 0x68, [], 32, [YK_XQ_CFG.EN, YK_XQ_CFG.LOG2SIZE]⟩,
  ⟨"YK_XQ_TAIL", 0x6C, [], 32, [YK_XQ_TAIL.COUNT]⟩,
  ⟨"YK_XQ_HEAD", 0x70, [], 32, [YK_XQ_HEAD.COUNT]⟩,
  ⟨"YK_HASH_CFG", 0x80, [], 32, [YK_HASH_CFG.EN, YK_HASH_CFG.LOOP, YK_HASH_CFG.EVERY]⟩,
  ⟨"YK_HASH_LAST", 0x88, [], 64, [YK_HASH_LAST.HASH]⟩,
  ⟨"YK_HASH_K", 0x90, [], 32, [YK_HASH_K.K]⟩,
  ⟨"YK_HASH_BASE", 0x100, [(0x10, 16)], 64, [YK_HASH_BASE.ADDR]⟩,
  ⟨"YK_HASH_LEN", 0x108, [(0x10, 16)], 64, [YK_HASH_LEN.LEN]⟩]

/-- SWT_CFG (spec/18, Registers). -/
def SWT_CFG.EN : Fld := ⟨283, 31, 31, .rw, 0, []⟩
def SWT_CFG.DX : Fld := ⟨284, 13, 12, .rw, 0, []⟩
def SWT_CFG.DY : Fld := ⟨285, 11, 10, .rw, 0, []⟩
def SWT_CFG.DZ : Fld := ⟨286, 9, 8, .rw, 0, []⟩
def SWT_CFG.X : Fld := ⟨287, 5, 4, .rw, 0, []⟩
def SWT_CFG.Y : Fld := ⟨288, 3, 2, .rw, 0, []⟩
def SWT_CFG.Z : Fld := ⟨289, 1, 0, .rw, 0, []⟩
/-- SWT_STATUS (spec/18, Registers). -/
def SWT_STATUS.LOSS_OVF : Fld := ⟨290, 31, 31, .w1c, 0, []⟩
def SWT_STATUS.GEOM_BAD : Fld := ⟨291, 30, 30, .view, 0, []⟩
def SWT_STATUS.UP : Fld := ⟨292, 13, 8, .view, 0, []⟩
def SWT_STATUS.PKG : Fld := ⟨293, 5, 0, .view, 0, []⟩
/-- SWT_EPOCH (spec/18, Registers). -/
def SWT_EPOCH.EPOCH : Fld := ⟨294, 31, 0, .ro, 0, []⟩
/-- SWT_MEMBERS (spec/18, Registers). -/
def SWT_MEMBERS.MASK : Fld := ⟨295, 63, 0, .rw, 1, []⟩
/-- SWT_AVOID (spec/18, Registers). -/
def SWT_AVOID.MASK : Fld := ⟨296, 63, 0, .rw, 0, []⟩
/-- SWT_LOSS_BASE (spec/18, Registers). -/
def SWT_LOSS_BASE.ADDR : Fld := ⟨297, 40, 12, .rw, 0, []⟩
/-- SWT_LOSS_CFG (spec/18, Registers). -/
def SWT_LOSS_CFG.EN : Fld := ⟨298, 31, 31, .rw, 0, []⟩
def SWT_LOSS_CFG.LOG2SIZE : Fld := ⟨299, 4, 0, .rw, 0, [(4, 16)]⟩
/-- SWT_LOSS_HEAD (spec/18, Registers). -/
def SWT_LOSS_HEAD.COUNT : Fld := ⟨300, 31, 0, .ro, 0, []⟩
/-- SWT_LOSS_TAIL (spec/18, Registers). -/
def SWT_LOSS_TAIL.COUNT : Fld := ⟨301, 31, 0, .rw, 0, []⟩
/-- SWT_BADMSG (spec/18, Registers). -/
def SWT_BADMSG.COUNT : Fld := ⟨302, 31, 0, .rw, 0, []⟩
/-- SWT_LATE (spec/18, Registers). -/
def SWT_LATE.COUNT : Fld := ⟨303, 31, 0, .rw, 0, []⟩
/-- SWT_DIR (spec/18, Registers). -/
def SWT_DIR.VALID : Fld := ⟨304, 31, 31, .ro, 0, []⟩
def SWT_DIR.UNREACH : Fld := ⟨305, 30, 30, .ro, 0, []⟩
def SWT_DIR.PENDING : Fld := ⟨306, 29, 29, .ro, 0, []⟩
def SWT_DIR.DIR : Fld := ⟨307, 2, 0, .ro, 0, []⟩
/-- SWT_OUT (spec/18, Registers). -/
def SWT_OUT.COUNT : Fld := ⟨308, 11, 0, .view, 0, []⟩
/-- SWT_EXP (spec/18, Registers). -/
def SWT_EXP.V : Fld := ⟨309, 63, 63, .rw, 0, []⟩
def SWT_EXP.W : Fld := ⟨310, 62, 62, .rw, 0, []⟩
def SWT_EXP.PLOT : Fld := ⟨311, 60, 52, .rw, 0, []⟩
def SWT_EXP.BASE : Fld := ⟨312, 40, 21, .rw, 0, []⟩
/-- SWT_EXP_SRC (spec/18, Registers). -/
def SWT_EXP_SRC.SRCMASK : Fld := ⟨313, 63, 0, .rw, 0, []⟩
/-- SWT_EXPLEN (spec/18, Registers). -/
def SWT_EXPLEN.GRANULES : Fld := ⟨314, 19, 0, .rw, 0, [(1, 524288)]⟩

/-- The registers of the SWT block. -/
def regsSWT : List RegDesc := [
  ⟨"SWT_CFG", 0x100000, [], 32, [SWT_CFG.EN, SWT_CFG.DX, SWT_CFG.DY, SWT_CFG.DZ, SWT_CFG.X, SWT_CFG.Y, SWT_CFG.Z]⟩,
  ⟨"SWT_STATUS", 0x100004, [], 32, [SWT_STATUS.LOSS_OVF, SWT_STATUS.GEOM_BAD, SWT_STATUS.UP, SWT_STATUS.PKG]⟩,
  ⟨"SWT_EPOCH", 0x100008, [], 32, [SWT_EPOCH.EPOCH]⟩,
  ⟨"SWT_MEMBERS", 0x100010, [], 64, [SWT_MEMBERS.MASK]⟩,
  ⟨"SWT_AVOID", 0x100018, [], 64, [SWT_AVOID.MASK]⟩,
  ⟨"SWT_LOSS_BASE", 0x100020, [], 64, [SWT_LOSS_BASE.ADDR]⟩,
  ⟨"SWT_LOSS_CFG", 0x100028, [], 32, [SWT_LOSS_CFG.EN, SWT_LOSS_CFG.LOG2SIZE]⟩,
  ⟨"SWT_LOSS_HEAD", 0x10002C, [], 32, [SWT_LOSS_HEAD.COUNT]⟩,
  ⟨"SWT_LOSS_TAIL", 0x100030, [], 32, [SWT_LOSS_TAIL.COUNT]⟩,
  ⟨"SWT_BADMSG", 0x100034, [], 32, [SWT_BADMSG.COUNT]⟩,
  ⟨"SWT_LATE", 0x100038, [], 32, [SWT_LATE.COUNT]⟩,
  ⟨"SWT_DIR", 0x100100, [(0x4, 64)], 32, [SWT_DIR.VALID, SWT_DIR.UNREACH, SWT_DIR.PENDING, SWT_DIR.DIR]⟩,
  ⟨"SWT_OUT", 0x100200, [(0x4, 64)], 32, [SWT_OUT.COUNT]⟩,
  ⟨"SWT_EXP", 0x101000, [(0x10, 64)], 64, [SWT_EXP.V, SWT_EXP.W, SWT_EXP.PLOT, SWT_EXP.BASE]⟩,
  ⟨"SWT_EXP_SRC", 0x101008, [(0x10, 64)], 64, [SWT_EXP_SRC.SRCMASK]⟩,
  ⟨"SWT_EXPLEN", 0x101400, [(0x4, 64)], 32, [SWT_EXPLEN.GRANULES]⟩]

/-- SWT_LSTAT (spec/18, Registers). -/
def SWT_LSTAT.STATE : Fld := ⟨315, 31, 30, .ro, 0, []⟩
def SWT_LSTAT.CABLE_ERR : Fld := ⟨316, 29, 29, .w1c, 0, []⟩
def SWT_LSTAT.NARROW : Fld := ⟨317, 28, 28, .w1c, 0, []⟩
def SWT_LSTAT.LINK_DOWN : Fld := ⟨318, 27, 27, .w1c, 0, []⟩
def SWT_LSTAT.PEER : Fld := ⟨319, 21, 16, .ro, 0, []⟩
def SWT_LSTAT.TXWIDTH : Fld := ⟨320, 15, 12, .ro, 0, []⟩
def SWT_LSTAT.RXWIDTH : Fld := ⟨321, 11, 8, .ro, 0, []⟩
def SWT_LSTAT.RXFAILED : Fld := ⟨322, 7, 0, .ro, 0, []⟩
/-- SWT_LRETRY (spec/18, Registers). -/
def SWT_LRETRY.COUNT : Fld := ⟨323, 31, 0, .rw, 0, []⟩
/-- SWT_LNARROW (spec/18, Registers). -/
def SWT_LNARROW.COUNT : Fld := ⟨324, 31, 0, .rw, 0, []⟩
/-- SWT_LDOWN (spec/18, Registers). -/
def SWT_LDOWN.COUNT : Fld := ⟨325, 31, 0, .rw, 0, []⟩

/-- The registers of the SWTL block. -/
def regsSWTL : List RegDesc := [
  ⟨"SWT_LSTAT", 0x0, [], 32, [SWT_LSTAT.STATE, SWT_LSTAT.CABLE_ERR, SWT_LSTAT.NARROW, SWT_LSTAT.LINK_DOWN, SWT_LSTAT.PEER, SWT_LSTAT.TXWIDTH, SWT_LSTAT.RXWIDTH, SWT_LSTAT.RXFAILED]⟩,
  ⟨"SWT_LRETRY", 0x4, [], 32, [SWT_LRETRY.COUNT]⟩,
  ⟨"SWT_LNARROW", 0x8, [], 32, [SWT_LNARROW.COUNT]⟩,
  ⟨"SWT_LDOWN", 0xC, [], 32, [SWT_LDOWN.COUNT]⟩]

/-- HDL_STATE (spec/19, Registers). -/
def HDL_STATE.AUTH : Fld := ⟨326, 31, 31, .ro, 0, []⟩
def HDL_STATE.DEGRADED : Fld := ⟨327, 30, 30, .ro, 0, []⟩
def HDL_STATE.ARMED : Fld := ⟨328, 29, 29, .ro, 0, []⟩
def HDL_STATE.REBIND : Fld := ⟨329, 28, 28, .ro, 0, []⟩
def HDL_STATE.CONFIRM_PEND : Fld := ⟨330, 27, 27, .ro, 0, []⟩
def HDL_STATE.RELINQUISH : Fld := ⟨331, 26, 26, .ro, 0, []⟩
def HDL_STATE.VETO_IN : Fld := ⟨332, 25, 25, .ro, 0, []⟩
def HDL_STATE.VETO_OUT : Fld := ⟨333, 24, 24, .ro, 0, []⟩
def HDL_STATE.MISSCNT : Fld := ⟨334, 23, 16, .ro, 0, []⟩
def HDL_STATE.HS : Fld := ⟨335, 2, 0, .ro, 0, []⟩
/-- HDL_CAUSE (spec/19, Registers). -/
def HDL_CAUSE.CAUSE : Fld := ⟨336, 10, 0, .ro, 0, []⟩
/-- HDL_EVT (spec/19, Registers). -/
def HDL_EVT.EVT : Fld := ⟨337, 11, 0, .w1c, 0, []⟩
/-- HDL_SEAL (spec/19, Registers). -/
def HDL_SEAL.LATCHED : Fld := ⟨338, 27, 16, .ro, 0, []⟩
def HDL_SEAL.LIVE : Fld := ⟨339, 11, 0, .ro, 0, []⟩
/-- HDL_PCRC (spec/19, Registers). -/
def HDL_PCRC.PCRC : Fld := ⟨340, 31, 0, .ro, 0, []⟩
/-- HDL_CHECK (spec/19, Registers). -/
def HDL_CHECK.C : Fld := ⟨341, 31, 0, .ro, 0, []⟩
/-- HDL_CONF (spec/19, Registers). -/
def HDL_CONF.CONF_C : Fld := ⟨342, 31, 0, .ro, 0, []⟩
/-- HDL_LASTK (spec/19, Registers). -/
def HDL_LASTK.K : Fld := ⟨343, 31, 0, .ro, 0, []⟩
/-- HDL_CYCLE (spec/19, Registers). -/
def HDL_CYCLE.COUNT : Fld := ⟨344, 63, 0, .ro, 0, []⟩
/-- HDL_FAILCNT (spec/19, Registers). -/
def HDL_FAILCNT.COUNT : Fld := ⟨345, 1, 0, .ro, 0, []⟩
/-- HDL_MISSTOT (spec/19, Registers). -/
def HDL_MISSTOT.COUNT : Fld := ⟨346, 31, 0, .ro, 0, []⟩
/-- HDL_STALE (spec/19, Registers). -/
def HDL_STALE.COUNT : Fld := ⟨347, 31, 0, .ro, 0, []⟩
/-- HDL_HANDOVER (spec/19, Registers). -/
def HDL_HANDOVER.COUNT : Fld := ⟨348, 31, 0, .ro, 0, []⟩
/-- HDL_PWRITE (spec/19, Registers). -/
def HDL_PWRITE.BUSY : Fld := ⟨349, 31, 31, .ro, 0, []⟩
def HDL_PWRITE.FAILED : Fld := ⟨350, 30, 30, .ro, 0, []⟩
/-- HDL_SI_RAW (spec/20, Registers). -/
def HDL_SI_RAW.B : Fld := ⟨351, 15, 8, .ro, 0, []⟩
def HDL_SI_RAW.A : Fld := ⟨352, 7, 0, .ro, 0, []⟩
/-- HDL_SI_STATE (spec/20, Registers). -/
def HDL_SI_STATE.TIMING : Fld := ⟨353, 23, 16, .ro, 0, []⟩
def HDL_SI_STATE.FAULT : Fld := ⟨354, 15, 8, .ro, 0, []⟩
def HDL_SI_STATE.ON : Fld := ⟨355, 7, 0, .ro, 0, []⟩
/-- HDL_SI_FCODE (spec/20, Registers). -/
def HDL_SI_FCODE.CODES : Fld := ⟨356, 31, 0, .ro, 0, []⟩
/-- HDL_SO_STATE (spec/20, Registers). -/
def HDL_SO_STATE.CFB : Fld := ⟨357, 23, 20, .ro, 0, []⟩
def HDL_SO_STATE.WAITING : Fld := ⟨358, 19, 16, .ro, 0, []⟩
def HDL_SO_STATE.NODE : Fld := ⟨359, 15, 12, .ro, 0, []⟩
def HDL_SO_STATE.STAGEB : Fld := ⟨360, 11, 8, .ro, 0, []⟩
def HDL_SO_STATE.STAGEA : Fld := ⟨361, 7, 4, .ro, 0, []⟩
def HDL_SO_STATE.COMMANDED : Fld := ⟨362, 3, 0, .ro, 0, []⟩
/-- HDL_SO_FCODE (spec/20, Registers). -/
def HDL_SO_FCODE.CODES : Fld := ⟨363, 15, 0, .ro, 0, []⟩
/-- HDL_OPTEST (spec/20, Registers). -/
def HDL_OPTEST.COUNT : Fld := ⟨364, 31, 0, .ro, 0, []⟩
/-- HDL_OPFAIL (spec/20, Registers). -/
def HDL_OPFAIL.COUNT : Fld := ⟨365, 31, 0, .ro, 0, []⟩
/-- HDL_CFNOTREADY (spec/20, Registers). -/
def HDL_CFNOTREADY.COUNT : Fld := ⟨366, 31, 0, .ro, 0, []⟩
/-- HDL_AX_STATE (spec/21, Registers). -/
def HDL_AX_STATE.AS : Fld := ⟨367, 2, 0, .ro, 4, []⟩
def HDL_AX_STATE.DEGRADED_SOURCE : Fld := ⟨368, 3, 3, .ro, 0, []⟩
def HDL_AX_STATE.SSM : Fld := ⟨369, 4, 4, .ro, 0, []⟩
def HDL_AX_STATE.REFERENCED : Fld := ⟨370, 5, 5, .ro, 0, []⟩
def HDL_AX_STATE.POS_SUSP : Fld := ⟨371, 6, 6, .ro, 0, []⟩
def HDL_AX_STATE.WAIT_RESTART : Fld := ⟨372, 7, 7, .ro, 0, []⟩
def HDL_AX_STATE.DEMAND : Fld := ⟨373, 10, 8, .ro, 7, []⟩
def HDL_AX_STATE.FAULT : Fld := ⟨374, 15, 12, .ro, 0, []⟩
def HDL_AX_STATE.SLS : Fld := ⟨375, 19, 16, .ro, 0xF, []⟩
def HDL_AX_STATE.SLP : Fld := ⟨376, 23, 20, .ro, 0xF, []⟩
def HDL_AX_STATE.SDI : Fld := ⟨377, 27, 24, .ro, 0xF, []⟩
/-- HDL_AX_SPEED (spec/21, Registers). -/
def HDL_AX_SPEED.U : Fld := ⟨378, 31, 16, .ro, 0, []⟩
def HDL_AX_SPEED.SOURCE : Fld := ⟨379, 15, 0, .ro, 0, []⟩
/-- HDL_AX_POS (spec/21, Registers). -/
def HDL_AX_POS.P : Fld := ⟨380, 31, 0, .ro, 0, []⟩
/-- HDL_AX_OBS (spec/21, Registers). -/
def HDL_AX_OBS.R : Fld := ⟨381, 31, 16, .ro, 0, []⟩
def HDL_AX_OBS.V : Fld := ⟨382, 15, 0, .ro, 0, []⟩
/-- HDL_AX_IDXCORR (spec/21, Registers). -/
def HDL_AX_IDXCORR.COUNT : Fld := ⟨383, 31, 0, .ro, 0, []⟩
/-- HDL_AX_IDXMIS (spec/21, Registers). -/
def HDL_AX_IDXMIS.COUNT : Fld := ⟨384, 31, 0, .ro, 0, []⟩
/-- HDL_AX_OBSLOST (spec/21, Registers). -/
def HDL_AX_OBSLOST.COUNT : Fld := ⟨385, 31, 0, .ro, 0, []⟩
/-- HDL_AX_TRIP (spec/21, Registers). -/
def HDL_AX_TRIP.COUNT : Fld := ⟨386, 31, 0, .ro, 0, []⟩
/-- HDL_AX_POSH (spec/21, Registers). -/
def HDL_AX_POSH.P : Fld := ⟨387, 31, 0, .ro, 0, []⟩
/-- HDL_HT_STATE (spec/22, Registers). -/
def HDL_HT_STATE.HT : Fld := ⟨388, 1, 0, .ro, 0, []⟩
def HDL_HT_STATE.FORCED : Fld := ⟨389, 2, 2, .ro, 0, []⟩
def HDL_HT_STATE.ESSENTIAL : Fld := ⟨390, 3, 3, .ro, 0, []⟩
def HDL_HT_STATE.REASON : Fld := ⟨391, 11, 8, .ro, 0, []⟩
def HDL_HT_STATE.REMOTE : Fld := ⟨392, 23, 16, .ro, 0, []⟩
/-- HDL_HT_SEQ (spec/22, Registers). -/
def HDL_HT_SEQ.SENT : Fld := ⟨393, 15, 0, .ro, 0, []⟩
def HDL_HT_SEQ.ACCEPTED : Fld := ⟨394, 31, 16, .ro, 0, []⟩
/-- HDL_HT_SESSION (spec/22, Registers). -/
def HDL_HT_SESSION.SESSION : Fld := ⟨395, 31, 0, .ro, 0, []⟩
/-- HDL_HT_LOST (spec/22, Registers). -/
def HDL_HT_LOST.COUNT : Fld := ⟨396, 31, 0, .ro, 0, []⟩
/-- HDL_HT_DUP (spec/22, Registers). -/
def HDL_HT_DUP.COUNT : Fld := ⟨397, 31, 0, .ro, 0, []⟩
/-- HDL_HT_STALE (spec/22, Registers). -/
def HDL_HT_STALE.COUNT : Fld := ⟨398, 31, 0, .ro, 0, []⟩
/-- HDL_HT_CLOSES (spec/22, Registers). -/
def HDL_HT_CLOSES.COUNT : Fld := ⟨399, 31, 0, .ro, 0, []⟩
/-- HDL_HT_RTT (spec/22, Registers). -/
def HDL_HT_RTT.US : Fld := ⟨400, 31, 0, .ro, 0, []⟩
/-- HDL_HP_STATE (spec/22, Registers). -/
def HDL_HP_STATE.LINK : Fld := ⟨401, 0, 0, .ro, 0, []⟩
def HDL_HP_STATE.SPEED : Fld := ⟨402, 2, 1, .ro, 0, []⟩
/-- HDL_HP_RX (spec/22, Registers). -/
def HDL_HP_RX.COUNT : Fld := ⟨403, 31, 0, .ro, 0, []⟩
/-- HDL_HP_CORRUPT (spec/22, Registers). -/
def HDL_HP_CORRUPT.COUNT : Fld := ⟨404, 31, 0, .ro, 0, []⟩
/-- HDL_HP_FCS (spec/22, Registers). -/
def HDL_HP_FCS.COUNT : Fld := ⟨405, 31, 0, .ro, 0, []⟩
/-- HDL_HP_OVER (spec/22, Registers). -/
def HDL_HP_OVER.COUNT : Fld := ⟨406, 31, 0, .ro, 0, []⟩
/-- HDL_HP_TX (spec/22, Registers). -/
def HDL_HP_TX.COUNT : Fld := ⟨407, 31, 0, .ro, 0, []⟩

/-- The registers of the HDL block, part 0. -/
def regsHDL0 : List RegDesc := [
  ⟨"HDL_STATE", 0x0, [], 32, [HDL_STATE.AUTH, HDL_STATE.DEGRADED, HDL_STATE.ARMED, HDL_STATE.REBIND, HDL_STATE.CONFIRM_PEND, HDL_STATE.RELINQUISH, HDL_STATE.VETO_IN, HDL_STATE.VETO_OUT, HDL_STATE.MISSCNT, HDL_STATE.HS]⟩,
  ⟨"HDL_CAUSE", 0x4, [], 32, [HDL_CAUSE.CAUSE]⟩,
  ⟨"HDL_EVT", 0x8, [], 32, [HDL_EVT.EVT]⟩,
  ⟨"HDL_SEAL", 0xC, [], 32, [HDL_SEAL.LATCHED, HDL_SEAL.LIVE]⟩,
  ⟨"HDL_PCRC", 0x10, [], 32, [HDL_PCRC.PCRC]⟩,
  ⟨"HDL_CHECK", 0x14, [], 32, [HDL_CHECK.C]⟩,
  ⟨"HDL_CONF", 0x18, [], 32, [HDL_CONF.CONF_C]⟩,
  ⟨"HDL_LASTK", 0x1C, [], 32, [HDL_LASTK.K]⟩,
  ⟨"HDL_CYCLE", 0x20, [], 64, [HDL_CYCLE.COUNT]⟩,
  ⟨"HDL_FAILCNT", 0x28, [], 32, [HDL_FAILCNT.COUNT]⟩,
  ⟨"HDL_MISSTOT", 0x30, [], 32, [HDL_MISSTOT.COUNT]⟩,
  ⟨"HDL_STALE", 0x34, [], 32, [HDL_STALE.COUNT]⟩,
  ⟨"HDL_HANDOVER", 0x38, [], 32, [HDL_HANDOVER.COUNT]⟩,
  ⟨"HDL_PWRITE", 0x3C, [], 32, [HDL_PWRITE.BUSY, HDL_PWRITE.FAILED]⟩,
  ⟨"HDL_SI_RAW", 0x100, [], 32, [HDL_SI_RAW.B, HDL_SI_RAW.A]⟩,
  ⟨"HDL_SI_STATE", 0x104, [], 32, [HDL_SI_STATE.TIMING, HDL_SI_STATE.FAULT, HDL_SI_STATE.ON]⟩,
  ⟨"HDL_SI_FCODE", 0x108, [], 32, [HDL_SI_FCODE.CODES]⟩,
  ⟨"HDL_SO_STATE", 0x110, [], 32, [HDL_SO_STATE.CFB, HDL_SO_STATE.WAITING, HDL_SO_STATE.NODE, HDL_SO_STATE.STAGEB, HDL_SO_STATE.STAGEA, HDL_SO_STATE.COMMANDED]⟩,
  ⟨"HDL_SO_FCODE", 0x114, [], 32, [HDL_SO_FCODE.CODES]⟩,
  ⟨"HDL_OPTEST", 0x118, [], 32, [HDL_OPTEST.COUNT]⟩,
  ⟨"HDL_OPFAIL", 0x11C, [], 32, [HDL_OPFAIL.COUNT]⟩,
  ⟨"HDL_CFNOTREADY", 0x120, [], 32, [HDL_CFNOTREADY.COUNT]⟩,
  ⟨"HDL_AX_STATE", 0x200, [(0x40, 4)], 32, [HDL_AX_STATE.AS, HDL_AX_STATE.DEGRADED_SOURCE, HDL_AX_STATE.SSM, HDL_AX_STATE.REFERENCED, HDL_AX_STATE.POS_SUSP, HDL_AX_STATE.WAIT_RESTART, HDL_AX_STATE.DEMAND, HDL_AX_STATE.FAULT, HDL_AX_STATE.SLS, HDL_AX_STATE.SLP, HDL_AX_STATE.SDI]⟩,
  ⟨"HDL_AX_SPEED", 0x204, [(0x40, 4)], 32, [HDL_AX_SPEED.U, HDL_AX_SPEED.SOURCE]⟩,
  ⟨"HDL_AX_POS", 0x208, [(0x40, 4)], 32, [HDL_AX_POS.P]⟩,
  ⟨"HDL_AX_OBS", 0x20C, [(0x40, 4)], 32, [HDL_AX_OBS.R, HDL_AX_OBS.V]⟩,
  ⟨"HDL_AX_IDXCORR", 0x210, [(0x40, 4)], 32, [HDL_AX_IDXCORR.COUNT]⟩,
  ⟨"HDL_AX_IDXMIS", 0x214, [(0x40, 4)], 32, [HDL_AX_IDXMIS.COUNT]⟩,
  ⟨"HDL_AX_OBSLOST", 0x218, [(0x40, 4)], 32, [HDL_AX_OBSLOST.COUNT]⟩,
  ⟨"HDL_AX_TRIP", 0x21C, [(0x40, 4)], 32, [HDL_AX_TRIP.COUNT]⟩,
  ⟨"HDL_AX_POSH", 0x220, [(0x40, 4)], 32, [HDL_AX_POSH.P]⟩,
  ⟨"HDL_HT_STATE", 0x300, [(0x40, 4)], 32, [HDL_HT_STATE.HT, HDL_HT_STATE.FORCED, HDL_HT_STATE.ESSENTIAL, HDL_HT_STATE.REASON, HDL_HT_STATE.REMOTE]⟩,
  ⟨"HDL_HT_SEQ", 0x304, [(0x40, 4)], 32, [HDL_HT_SEQ.SENT, HDL_HT_SEQ.ACCEPTED]⟩,
  ⟨"HDL_HT_SESSION", 0x308, [(0x40, 4)], 32, [HDL_HT_SESSION.SESSION]⟩,
  ⟨"HDL_HT_LOST", 0x30C, [(0x40, 4)], 32, [HDL_HT_LOST.COUNT]⟩,
  ⟨"HDL_HT_DUP", 0x310, [(0x40, 4)], 32, [HDL_HT_DUP.COUNT]⟩,
  ⟨"HDL_HT_STALE", 0x314, [(0x40, 4)], 32, [HDL_HT_STALE.COUNT]⟩,
  ⟨"HDL_HT_CLOSES", 0x318, [(0x40, 4)], 32, [HDL_HT_CLOSES.COUNT]⟩,
  ⟨"HDL_HT_RTT", 0x31C, [(0x40, 4)], 32, [HDL_HT_RTT.US]⟩,
  ⟨"HDL_HP_STATE", 0x400, [(0x20, 2)], 32, [HDL_HP_STATE.LINK, HDL_HP_STATE.SPEED]⟩]

/-- The registers of the HDL block, part 1. -/
def regsHDL1 : List RegDesc := [
  ⟨"HDL_HP_RX", 0x404, [(0x20, 2)], 32, [HDL_HP_RX.COUNT]⟩,
  ⟨"HDL_HP_CORRUPT", 0x408, [(0x20, 2)], 32, [HDL_HP_CORRUPT.COUNT]⟩,
  ⟨"HDL_HP_FCS", 0x40C, [(0x20, 2)], 32, [HDL_HP_FCS.COUNT]⟩,
  ⟨"HDL_HP_OVER", 0x410, [(0x20, 2)], 32, [HDL_HP_OVER.COUNT]⟩,
  ⟨"HDL_HP_TX", 0x414, [(0x20, 2)], 32, [HDL_HP_TX.COUNT]⟩]

/-- GLN_DBGCTL (spec/23, Registers). -/
def GLN_DBGCTL.TAP_EN : Fld := ⟨408, 0, 0, .rw, 0, []⟩
/-- GLN_DBGEN (spec/23, Registers). -/
def GLN_DBGEN.CORES : Fld := ⟨409, 31, 0, .rw, 0, []⟩
/-- GLN_HALTREQ (spec/23, Registers). -/
def GLN_HALTREQ.GO : Fld := ⟨410, 31, 31, .wt, 0, []⟩
def GLN_HALTREQ.BUSY : Fld := ⟨411, 30, 30, .ro, 0, []⟩
def GLN_HALTREQ.ERR : Fld := ⟨412, 29, 29, .w1c, 0, []⟩
def GLN_HALTREQ.ACTION : Fld := ⟨413, 28, 27, .wo, 0, []⟩
def GLN_HALTREQ.NOINT : Fld := ⟨414, 26, 26, .wo, 0, []⟩
def GLN_HALTREQ.MASK : Fld := ⟨415, 23, 16, .wo, 0, []⟩
def GLN_HALTREQ.CORE : Fld := ⟨416, 6, 0, .wo, 0, []⟩
/-- GLN_DREG_SEL (spec/23, Registers). -/
def GLN_DREG_SEL.GO : Fld := ⟨417, 31, 31, .wt, 0, []⟩
def GLN_DREG_SEL.WRITE : Fld := ⟨418, 30, 30, .wo, 0, []⟩
def GLN_DREG_SEL.BUSY : Fld := ⟨419, 29, 29, .ro, 0, []⟩
def GLN_DREG_SEL.ERR : Fld := ⟨420, 28, 28, .w1c, 0, []⟩
def GLN_DREG_SEL.THREAD : Fld := ⟨421, 25, 16, .rw, 0, []⟩
def GLN_DREG_SEL.CLASS : Fld := ⟨422, 14, 12, .rw, 0, [(0, 5)]⟩
def GLN_DREG_SEL.INDEX : Fld := ⟨423, 11, 0, .rw, 0, []⟩
/-- GLN_DREG_DATA (spec/23, Registers). -/
def GLN_DREG_DATA.DATA : Fld := ⟨424, 63, 0, .rw, 0, []⟩
/-- GLN_DBGRST (spec/23, Registers). -/
def GLN_DBGRST.KEY : Fld := ⟨425, 31, 16, .wo, 0, []⟩
def GLN_DBGRST.GO : Fld := ⟨426, 15, 15, .wt, 0, []⟩
def GLN_DBGRST.TG : Fld := ⟨427, 14, 14, .wo, 0, []⟩
def GLN_DBGRST.CORE : Fld := ⟨428, 6, 0, .wo, 0, []⟩
/-- GLN_HALTSTAT (spec/23, Registers). -/
def GLN_HALTSTAT.HALTED : Fld := ⟨429, 31, 0, .view, 0, []⟩
/-- GLN_TRC_CTL (spec/23, Registers). -/
def GLN_TRC_CTL.EN : Fld := ⟨430, 31, 31, .rw, 0, []⟩
def GLN_TRC_CTL.STALL : Fld := ⟨431, 30, 30, .rw, 0, []⟩
def GLN_TRC_CTL.STOPFULL : Fld := ⟨432, 29, 29, .rw, 0, []⟩
def GLN_TRC_CTL.SYS : Fld := ⟨433, 28, 28, .rw, 0, []⟩
def GLN_TRC_CTL.RINGS : Fld := ⟨434, 27, 24, .rw, 0, []⟩
def GLN_TRC_CTL.CTX : Fld := ⟨435, 23, 16, .rw, 0, []⟩
def GLN_TRC_CTL.TSPER : Fld := ⟨436, 12, 8, .rw, 8, [(8, 31)]⟩
/-- GLN_TRC_CORE (spec/23, Registers). -/
def GLN_TRC_CORE.CORES : Fld := ⟨437, 31, 0, .rw, 0, []⟩
/-- GLN_BUF_BASE (spec/23, Registers). -/
def GLN_BUF_BASE.ADDR : Fld := ⟨438, 40, 12, .rw, 0, []⟩
/-- GLN_BUF_SIZE (spec/23, Registers). -/
def GLN_BUF_SIZE.SIZE : Fld := ⟨439, 40, 12, .rw, 0, []⟩
/-- GLN_BUF_WP (spec/23, Registers). -/
def GLN_BUF_WP.WP : Fld := ⟨440, 40, 6, .ro, 0, []⟩
/-- GLN_BUF_WRAPS (spec/23, Registers). -/
def GLN_BUF_WRAPS.COUNT : Fld := ⟨441, 31, 0, .ro, 0, []⟩
/-- GLN_TRC_STAT (spec/23, Registers). -/
def GLN_TRC_STAT.FULL : Fld := ⟨442, 31, 31, .ro, 0, []⟩
def GLN_TRC_STAT.OVF : Fld := ⟨443, 30, 30, .w1c, 0, []⟩
def GLN_TRC_STAT.CFG_ERR : Fld := ⟨444, 29, 29, .w1c, 0, []⟩
def GLN_TRC_STAT.BUSY : Fld := ⟨445, 28, 28, .ro, 0, []⟩
/-- GLN_TRC_DROP (spec/23, Registers). -/
def GLN_TRC_DROP.COUNT : Fld := ⟨446, 31, 0, .ro, 0, []⟩

/-- The registers of the GLN block. -/
def regsGLN : List RegDesc := [
  ⟨"GLN_DBGCTL", 0x0, [], 32, [GLN_DBGCTL.TAP_EN]⟩,
  ⟨"GLN_DBGEN", 0x10, [(0x4, 4)], 32, [GLN_DBGEN.CORES]⟩,
  ⟨"GLN_HALTREQ", 0x20, [], 32, [GLN_HALTREQ.GO, GLN_HALTREQ.BUSY, GLN_HALTREQ.ERR, GLN_HALTREQ.ACTION, GLN_HALTREQ.NOINT, GLN_HALTREQ.MASK, GLN_HALTREQ.CORE]⟩,
  ⟨"GLN_DREG_SEL", 0x30, [], 32, [GLN_DREG_SEL.GO, GLN_DREG_SEL.WRITE, GLN_DREG_SEL.BUSY, GLN_DREG_SEL.ERR, GLN_DREG_SEL.THREAD, GLN_DREG_SEL.CLASS, GLN_DREG_SEL.INDEX]⟩,
  ⟨"GLN_DREG_DATA", 0x38, [], 64, [GLN_DREG_DATA.DATA]⟩,
  ⟨"GLN_DBGRST", 0x40, [], 32, [GLN_DBGRST.KEY, GLN_DBGRST.GO, GLN_DBGRST.TG, GLN_DBGRST.CORE]⟩,
  ⟨"GLN_HALTSTAT", 0x100, [(0x4, 32)], 32, [GLN_HALTSTAT.HALTED]⟩,
  ⟨"GLN_TRC_CTL", 0x200, [], 32, [GLN_TRC_CTL.EN, GLN_TRC_CTL.STALL, GLN_TRC_CTL.STOPFULL, GLN_TRC_CTL.SYS, GLN_TRC_CTL.RINGS, GLN_TRC_CTL.CTX, GLN_TRC_CTL.TSPER]⟩,
  ⟨"GLN_TRC_CORE", 0x210, [(0x4, 5)], 32, [GLN_TRC_CORE.CORES]⟩,
  ⟨"GLN_BUF_BASE", 0x228, [], 64, [GLN_BUF_BASE.ADDR]⟩,
  ⟨"GLN_BUF_SIZE", 0x230, [], 64, [GLN_BUF_SIZE.SIZE]⟩,
  ⟨"GLN_BUF_WP", 0x238, [], 64, [GLN_BUF_WP.WP]⟩,
  ⟨"GLN_BUF_WRAPS", 0x240, [], 32, [GLN_BUF_WRAPS.COUNT]⟩,
  ⟨"GLN_TRC_STAT", 0x244, [], 32, [GLN_TRC_STAT.FULL, GLN_TRC_STAT.OVF, GLN_TRC_STAT.CFG_ERR, GLN_TRC_STAT.BUSY]⟩,
  ⟨"GLN_TRC_DROP", 0x248, [], 32, [GLN_TRC_DROP.COUNT]⟩]

/-- TLY_CTL (spec/23, Registers). -/
def TLY_CTL.EN : Fld := ⟨447, 31, 31, .rw, 0, []⟩
def TLY_CTL.FREEZE : Fld := ⟨448, 30, 30, .rw, 0, []⟩
def TLY_CTL.CLEAR : Fld := ⟨449, 0, 0, .wt, 0, []⟩
/-- TLY_OVF (spec/23, Registers). -/
def TLY_OVF.BITS : Fld := ⟨450, 31, 0, .w1c, 0, []⟩
/-- TLY_CFG (spec/23, Registers). -/
def TLY_CFG.EN : Fld := ⟨451, 31, 31, .rw, 0, []⟩
def TLY_CFG.CHAIN : Fld := ⟨452, 30, 30, .rw, 0, []⟩
def TLY_CFG.INSTANCE : Fld := ⟨453, 27, 16, .rw, 0, []⟩
def TLY_CFG.EVENT : Fld := ⟨454, 11, 0, .rw, 0, []⟩
/-- TLY_CNT (spec/23, Registers). -/
def TLY_CNT.COUNT : Fld := ⟨455, 47, 0, .rw, 0, []⟩
def TLY_CNT.HIGH : Fld := ⟨456, 63, 48, .view, 0, []⟩

/-- The registers of the TLY block. -/
def regsTLY : List RegDesc := [
  ⟨"TLY_CTL", 0x0, [], 32, [TLY_CTL.EN, TLY_CTL.FREEZE, TLY_CTL.CLEAR]⟩,
  ⟨"TLY_OVF", 0x10, [(0x4, 4)], 32, [TLY_OVF.BITS]⟩,
  ⟨"TLY_CFG", 0x1000, [(0x8, 128)], 32, [TLY_CFG.EN, TLY_CFG.CHAIN, TLY_CFG.INSTANCE, TLY_CFG.EVENT]⟩,
  ⟨"TLY_CNT", 0x2000, [(0x8, 128)], 64, [TLY_CNT.COUNT, TLY_CNT.HIGH]⟩]

/-- RV_LOG_STAT (spec/24, Registers). -/
def RV_LOG_STAT.LOG_FULL : Fld := ⟨457, 31, 31, .w1c, 0, []⟩
def RV_LOG_STAT.QOVF : Fld := ⟨458, 30, 30, .w1c, 0, []⟩
def RV_LOG_STAT.FULL : Fld := ⟨459, 29, 29, .view, 0, []⟩
def RV_LOG_STAT.STICKY : Fld := ⟨460, 12, 0, .view, 0, []⟩
/-- RV_LOG_SEQ (spec/24, Registers). -/
def RV_LOG_SEQ.SEQ : Fld := ⟨461, 31, 0, .ro, 0, []⟩
/-- RV_LOG_LOST (spec/24, Registers). -/
def RV_LOG_LOST.COUNT : Fld := ⟨462, 31, 0, .rw, 0, []⟩
/-- RV_LOG_ACK (spec/24, Registers). -/
def RV_LOG_ACK.GO : Fld := ⟨463, 31, 31, .wt, 0, []⟩
def RV_LOG_ACK.ALL : Fld := ⟨464, 30, 30, .wo, 0, []⟩
def RV_LOG_ACK.CLEAR : Fld := ⟨465, 29, 29, .wo, 0, []⟩
def RV_LOG_ACK.INDEX : Fld := ⟨466, 11, 0, .wo, 0, []⟩
/-- RV_CFG (spec/24, Registers). -/
def RV_CFG.NOTIFY_EN : Fld := ⟨467, 31, 31, .rw, 0, []⟩
def RV_CFG.VEC : Fld := ⟨468, 7, 0, .rw, 0, []⟩
/-- RV_THROT (spec/24, Registers). -/
def RV_THROT.CRIT : Fld := ⟨469, 31, 31, .ro, 0, []⟩
def RV_THROT.THERMAL : Fld := ⟨470, 30, 30, .ro, 0, []⟩
def RV_THROT.POWER : Fld := ⟨471, 29, 29, .ro, 0, []⟩
def RV_THROT.PDUTY : Fld := ⟨472, 14, 8, .ro, 0x40, []⟩
def RV_THROT.DUTY : Fld := ⟨473, 6, 0, .ro, 0x40, []⟩
/-- RV_PLIM (spec/24, Registers). -/
def RV_PLIM.PL2 : Fld := ⟨474, 31, 16, .rw, 0x352, [(300, 850)]⟩
def RV_PLIM.PL1 : Fld := ⟨475, 15, 0, .rw, 0x2D0, [(300, 720)]⟩
/-- RV_TLIM (spec/24, Registers). -/
def RV_TLIM.T_STACK : Fld := ⟨476, 15, 8, .rw, 0x5F, [(80, 100)]⟩
def RV_TLIM.T_FIELD : Fld := ⟨477, 7, 0, .rw, 0x64, [(85, 105)]⟩
/-- RV_THROTTIME (spec/24, Registers). -/
def RV_THROTTIME.COUNT : Fld := ⟨478, 63, 0, .ro, 0, []⟩
/-- RV_ECCWARN (spec/24, Registers). -/
def RV_ECCWARN.LIMIT : Fld := ⟨479, 15, 0, .rw, 0xA, []⟩
/-- RV_POWER (spec/24, Registers). -/
def RV_POWER.AVG1S : Fld := ⟨480, 31, 16, .ro, 0, []⟩
def RV_POWER.AVG100US : Fld := ⟨481, 15, 0, .ro, 0, []⟩
/-- RV_TEMP (spec/24, Registers). -/
def RV_TEMP.HEADLAND : Fld := ⟨482, 31, 24, .ro, 0, []⟩
def RV_TEMP.STACK : Fld := ⟨483, 23, 16, .ro, 0, []⟩
def RV_TEMP.FIELD : Fld := ⟨484, 15, 8, .ro, 0, []⟩
def RV_TEMP.SENSOR : Fld := ⟨485, 7, 0, .ro, 0, []⟩

/-- The registers of the RV block. -/
def regsRV : List RegDesc := [
  ⟨"RV_LOG_STAT", 0x0, [], 32, [RV_LOG_STAT.LOG_FULL, RV_LOG_STAT.QOVF, RV_LOG_STAT.FULL, RV_LOG_STAT.STICKY]⟩,
  ⟨"RV_LOG_SEQ", 0x4, [], 32, [RV_LOG_SEQ.SEQ]⟩,
  ⟨"RV_LOG_LOST", 0x8, [], 32, [RV_LOG_LOST.COUNT]⟩,
  ⟨"RV_LOG_ACK", 0xC, [], 32, [RV_LOG_ACK.GO, RV_LOG_ACK.ALL, RV_LOG_ACK.CLEAR, RV_LOG_ACK.INDEX]⟩,
  ⟨"RV_CFG", 0x10, [], 32, [RV_CFG.NOTIFY_EN, RV_CFG.VEC]⟩,
  ⟨"RV_THROT", 0x14, [], 32, [RV_THROT.CRIT, RV_THROT.THERMAL, RV_THROT.POWER, RV_THROT.PDUTY, RV_THROT.DUTY]⟩,
  ⟨"RV_PLIM", 0x18, [], 32, [RV_PLIM.PL2, RV_PLIM.PL1]⟩,
  ⟨"RV_TLIM", 0x1C, [], 32, [RV_TLIM.T_STACK, RV_TLIM.T_FIELD]⟩,
  ⟨"RV_THROTTIME", 0x20, [], 64, [RV_THROTTIME.COUNT]⟩,
  ⟨"RV_ECCWARN", 0x30, [], 32, [RV_ECCWARN.LIMIT]⟩,
  ⟨"RV_POWER", 0x38, [], 32, [RV_POWER.AVG1S, RV_POWER.AVG100US]⟩,
  ⟨"RV_TEMP", 0x3C, [], 32, [RV_TEMP.HEADLAND, RV_TEMP.STACK, RV_TEMP.FIELD, RV_TEMP.SENSOR]⟩]

/-- Every register of a block. -/
def Blk.regs : Blk → List RegDesc
  | .CLK => regsCLK
  | .PWR => regsPWR
  | .BT => regsBT
  | .FURG => regsFURG
  | .GRNG => regsGRNG
  | .FUR => regsFUR
  | .GRN => regsGRN
  | .DRL => regsDRL
  | .SOW => regsSOW
  | .HRW => regsHRW
  | .BND => regsBND
  | .HST => regsHST
  | .YK => regsYK
  | .SWT => regsSWT
  | .SWTL => regsSWTL
  | .HDL => regsHDL0 ++ regsHDL1
  | .GLN => regsGLN
  | .TLY => regsTLY
  | .RV => regsRV

end Sys2Proof.Machine
end

