-- ==== Sys2Proof/Machine/Store.lean ====
section
/-! DEFINITION. Sparse stores: a list of key and value pairs with strictly rising keys. One `find`, one
`put`, one `drop`; every sparse part of the state is read and written through them. -/

namespace Sys2Proof.Machine

/-- The value kept under a key, if any. -/
def find {α : Type} (k : Nat) : List (Nat × α) → Option α
  | [] => none
  | c :: r => if c.1 = k then some c.2 else find k r

/-- The value kept under a key, or `d` where none is kept. -/
def findD {α : Type} (d : α) (k : Nat) (m : List (Nat × α)) : α := (find k m).getD d

/-- Remove a key. -/
def drop {α : Type} (k : Nat) (m : List (Nat × α)) : List (Nat × α) := m.filter (fun c => c.1 ≠ k)

/-- Insert a pair at its place in a list that does not hold its key. -/
def insertAt {α : Type} (k : Nat) (v : α) : List (Nat × α) → List (Nat × α)
  | [] => [(k, v)]
  | c :: r => if k < c.1 then (k, v) :: c :: r else c :: insertAt k v r

/-- Keep `v` under `k`. -/
def put {α : Type} (k : Nat) (v : α) (m : List (Nat × α)) : List (Nat × α) := insertAt k v (drop k m)

/-- Keep `v` under `k`, or nothing where `v` is what an absent key reads as: the canonical form. -/
def putD {α : Type} [DecidableEq α] (d : α) (k : Nat) (v : α) (m : List (Nat × α)) : List (Nat × α) :=
  if v = d then drop k m else put k v m

/-- The canonical form: keys strictly rising. -/
def rising {α : Type} : List (Nat × α) → Bool
  | [] => true
  | [_] => true
  | a :: b :: r => decide (a.1 < b.1) && rising (b :: r)

/-- Replace the value of one list position (no effect past the end). -/
def setNth {α : Type} : List α → Nat → α → List α
  | [], _, _ => []
  | _ :: r, 0, v => v :: r
  | a :: r, n + 1, v => a :: setNth r n v

end Sys2Proof.Machine
end

