-- ==== Sys2Proof/Machine/State.lean ====
section
/-! DEFINITION. The state of the package: one structure per part of the spec, gathered in `State`, with
every field's reset value as its default. The memory-mapped register fields live in `State.regs`
(Machine/Registers.lean gives each its reset value); everything else that the spec gives the machine is a
field below. -/

namespace Sys2Proof.Machine

/-- The progress of one core's thread-group reset (R43). -/
inductive TgPhase where
  /-- Its drain runs since a timestamp. -/
  | draining (since : Nat)
  /-- Its drain ended at this count of 1/64 CCLK pulses. -/
  | clearing (at' : Nat)
deriving DecidableEq, Repr

/-- Clocks, supplies and resets (chapter 02): what is not a register field. -/
structure Clocks where
  /-- REFCLK runs. While it does not, the timestamp holds (R33). -/
  refclk     : Bool := true
  /-- CCLK pulses delivered so far, in 1/64 pulse: 24 × DUTY at each REFCLK period (R32, R36). -/
  cc64       : Nat := 0
  /-- The same for the Drill cores, which no throttling slows (R561). -/
  drillCc64  : Nat := 0
  /-- PORST_N is low: the power-on reset is in progress (R38, R49). -/
  porstHeld  : Bool := true
  /-- The Field die is held in package reset because the root PLL lost lock (R46). -/
  rootHeld   : Bool := false
  /-- PWRFAIL_N is low (R47). -/
  pwrfail    : Bool := false
  /-- The 32-bit half latched by a read of CLK_TIMESTAMP's low half. -/
  tsLatch    : Nat := 0
  /-- Consecutive bad windows of the non-safety REFCLK monitor. -/
  refBad     : Nat := 0
  /-- Thread-group resets in progress, by core (R43). -/
  tg         : List (Nat × TgPhase) := []
  /-- Plot resets whose cores have not all completed their thread-group resets, by plot (R45). -/
  plotReset  : List Nat := []
  /-- When the Drill watchdog's period last began (PWR_WDOG_CFG). -/
  kickAt     : Nat := 0
  /-- PERST_N is low. -/
  perstLow   : Bool := false
  /-- Link training of the host port has begun since PORST_N and PERST_N rose (R50). -/
  training   : Bool := false
  /-- The PORST_N pin is low. -/
  porstLow   : Bool := true
  /-- The rails that were outside their operating range when last sampled, numbered as PWR_RAIL_STATUS. -/
  railOut    : List Nat := []
  /-- The base of the free contents of the seedboxes and tile arrays that nothing has written since the last reset; none
  once Drill has zeroed them (R41). -/
  era        : Option Nat := some 0
deriving DecidableEq, Repr


/-- The flash command in progress (R69): its operation and byte address. -/
structure FlashCmd where
  op   : Nat
  addr : Nat
deriving DecidableEq, Repr

/-- A preference record (R53, R70): its sequence number, the active slot of each image type 1 to 4 (true: slot B), the
types with a trial slot (bit i − 1), the trial count. -/
structure PrefRec where
  seq    : Nat
  active : List Bool
  trial  : Nat
  count  : Nat
deriving DecidableEq, Repr

/-- What the Headland die keeps for booting (chapter 03). -/
structure Boot where
  /-- The flash device's bytes under their offset; an unlisted byte is erased, 0xFF. -/
  flash : List Host.Cell := []
  /-- The fused SVN minima that have been raised in service, by image type; the others are as manufactured. -/
  svnMin : List (Nat × Nat) := []
  /-- The version of YKL, major and minor, that the running Drill image implements (R67); 0 without an image. -/
  ykl   : Nat × Nat := (0, 0)
  /-- The SVN of each running image, by type. -/
  svn   : List (Nat × Nat) := []
  /-- The preference record being written, and whether RESTART was in the same write. -/
  prefWrite : Option (PrefRec × Bool) := none
  cmd   : Option FlashCmd := none
deriving DecidableEq, Repr
/-- A memory array that a reset leaves undefined: its bytes, and, while it has an undefined base, the free
value that an unlisted byte reads as. -/
structure Sram where
  undef : Option Nat := some 0
  cells : List (Nat × Byte) := []
deriving DecidableEq, Repr

/-- The tile, coulter and silo instructions (Tables 9-4 and 10-2). -/
inductive TFn where
  | tld | tst | tadd | tsub | tmul | tmin | tmax | tand | tor | txor | tmov | tcvt | tzero | tfill | tneg
  | tabs | tmuls | tadds | tget | tput | tmmp | tmma | texport | texportC | topen | tclose | tsave
  | trestore | tbind
deriving DecidableEq, Repr

/-- A tile instruction as EX hands it to the tile unit: its fields (Tables 9-2 and 9-3), with the values of
gs1 and gs2 read. -/
structure TileIns where
  fn   : TFn
  g    : Bool
  rows : Nat
  cols : Nat
  k    : Nat := 1
  fa   : Nat := 0
  fb   : Nat := 0
  fd   : Nat := 0
  rnd  : Nat := 0
  x    : Nat := 0
  grp  : Nat := 0
  td   : Nat := 0
  ta   : Nat := 0
  tb   : Nat := 0
  /-- The numbers of gs1 and gs2 (gd of TGET), and the values read. -/
  r1   : Nat := 0
  r2   : Nat := 0
  v1   : Word := 0
  v2   : Word := 0
deriving DecidableEq, Repr

/-- A memory segment of a TLD, TST, TSAVE or TRESTORE (R223, R244): its row and byte offset in the row (row 0
for an image), its virtual and physical address, its length, its page's UC bit, the bytes staged (read from
memory, or to be written), and whether its write has been acknowledged. -/
structure TSeg where
  row    : Nat
  off    : Nat
  va     : Word
  pa     : Nat := 0
  len    : Nat
  uc     : Bool := false
  staged : Option (List Byte) := none
  acked  : Bool := false
deriving DecidableEq, Repr

/-- An accepted instruction of a tile queue (R224, R225). -/
structure TileEntry where
  /-- Its number in the core's order of acceptance. -/
  seq        : Nat
  thread     : Nat
  pc         : Word
  ins        : TileIns
  segs       : List TSeg := []
  /-- The merging-buffer number below which overlapping entries must have drained (R222). -/
  upto       : Nat := 0
  /-- TCTL.SEED and TCTL.SPILL at acceptance (R268, R238). -/
  seed       : Nat := 0
  spill      : Nat := 0
  /-- The group's first silo row, and its class, as of acceptance (R239). -/
  base       : Nat := 0
  int        : Bool := false
  dispatched : Bool := false
  /-- The source elements read at dispatch, row by row: of ta, of tb and of td. -/
  srcA       : List (List Nat) := []
  srcB       : List (List Nat) := []
  srcD       : List (List Nat) := []
  /-- TBIND: Binder has acknowledged the last element. -/
  arrived    : Bool := false
  /-- TBIND: its BIND messages to the home package have been issued (R432). -/
  bindSent   : Bool := false
  /-- TRESTORE: a read met an error (R254). -/
  bad        : Bool := false
  /-- The count of its thread's retired TSYNCs at acceptance (R227). -/
  epoch      : Nat := 0
deriving DecidableEq, Repr

/-- The tile unit of a core: fragments under (context × 8 + fragment) × 512 + byte; the silo under
128 × row + 4 × lane and the spill bank under 256 × row + 8 × lane (R258); the tile queue, in order of
acceptance, and the number of the next acceptance. -/
structure TileCore where
  frags   : Sram := {}
  silo    : Sram := {}
  spill   : Sram := {}
  queue   : List TileEntry := []
  nextSeq : Nat := 0
deriving DecidableEq, Repr
/-- Thread context states (Table 5-1). -/
inductive TMode where
  | parked | running | waiting | halted
deriving DecidableEq, Repr

/-- A synchronous exception that has reached RT and has not been entered yet: its cause code of Table 7-1,
the EPC, EADDR and INFO that it delivers. -/
structure Exc where
  code  : Nat
  epc   : Word
  eaddr : Word
  info  : Nat := 0
deriving DecidableEq, Repr

/-- A result's register. -/
inductive Dest where
  | g (r : Reg5)
  | f (r : Reg5)
deriving DecidableEq, Repr

/-- The read-modify-write operations of R121. -/
inductive AOp where
  | swap | add | and | or | xor | min | max | minu | maxu | cas
deriving DecidableEq, Repr

/-- A part of an access that crosses no 64-byte line (R78, R94): its physical address, its length, and
whether its page has UC set (R85). -/
structure Part where
  pa  : Nat
  len : Nat
  uc  : Bool
deriving DecidableEq, Repr

/-- A load in progress: its virtual address, its physical parts, its destination, whether it sign-extends, and whether
it has waited for merging-buffer entries and goes on as if none held its bytes (R192). -/
structure LoadOp where
  va     : Word
  parts  : List Part
  dest   : Dest
  signed : Bool
  past   : Bool := false
deriving DecidableEq, Repr

/-- An atomic in progress (R121); `upto` is the merging-buffer number below which the entries were marked: it waits for
those of its line, and in its release form (`rel`) for all of them (R193). -/
structure AtomicOp where
  va    : Word
  pa    : Nat
  uc    : Bool
  wide  : Bool
  op    : AOp
  gd    : Reg5
  arg   : Word
  cmp   : Word
  rel   : Bool
  upto  : Nat
deriving DecidableEq, Repr

/-- The fences of Table 4-7, and IFENCE. -/
inductive FenceKind where
  | acq | rel | pkg | acre | host | ifence
deriving DecidableEq, Repr

/-- The maintenance actions of Table 8-2. -/
inductive CmoAction where
  | invalidate | clean | cleanInvalidate
deriving DecidableEq, Repr

/-- A store to Device, Host or Remote memory on its way (R150): its physical address and bytes. -/
structure Posted where
  pa    : Nat
  bytes : List Byte
  va    : Word
  /-- It has left toward another package. -/
  away  : Bool := false
deriving DecidableEq, Repr

/-- What an access is, for its permission and its fault (Table 4-10). -/
inductive Access where
  | fetch | load | store | pf
deriving DecidableEq, Repr

/-- A CMO: its target, action and form, its physical address or, by set and way, gs1 (R201, R202), the line that it
concerned at MA, and the merging-buffer number below which the entries of that line were marked. -/
structure CmoOp where
  target : CmoTarget
  action : CmoAction
  setWay : Bool
  arg    : Nat
  line   : Option Nat := none
  upto   : Nat := 0
deriving DecidableEq, Repr

/-- Why the oldest unretired instruction of a thread has not retired. -/
inductive Hold where
  /-- A TLB miss waits for a table walk: the address, the EADDR of a fault, the kind of access and its length (0: it may
  lie anywhere), whether it has reserved a transaction (R150), and the leaf entry (its address and value) that the walker
  read (R86). -/
  | walk (va ea : Word) (acc : Access) (len : Nat) (txn : Bool) (leafAt leaf : Nat)
  /-- A load that missed the L1D waits for the fill (R187). -/
  | l1miss (op : LoadOp)
  /-- A load waits for the L1 port, which a fill blocks (R144). -/
  | l1busy (op : LoadOp)
  /-- A load waits for the merging-buffer entries that it marked, by number (R192, R210). -/
  | overlap (op : LoadOp) (marked : List Nat)
  /-- A load outside the L1 waits for its transaction (R150). -/
  | load (op : LoadOp)
  /-- An atomic waits for its transaction. -/
  | atomic (op : AtomicOp)
  /-- A fence waits for the accesses of Table 4-7; entries numbered below `upto` were present (R193). -/
  | fence (kind : FenceKind) (upto : Nat)
  /-- A CMO waits for the merging-buffer entries of its line that it marked, or for the L1 port (R201, R203). -/
  | cmo (op : CmoOp)
  /-- WAIT (R112): the destination register, and whether the timeout has expired. -/
  | wait (gd : Reg5) (timed : Bool) (expired : Bool)
  /-- MSEND (R109): target thread, payload, pd; `lost` once R129 has discarded the post. -/
  | msend (dst : Nat) (payload : Word) (pd : Pred) (lost : Bool)
  /-- A broadcast TLBI waits for its acknowledgements (R88); `none` names every translation of the plot. -/
  | tlbi (va : Option Word)
  /-- A tile instruction waits at RT for the tile unit to accept it (R224). -/
  | tile (ins : TileIns) (segs : List TSeg)
  /-- The accepted tile instruction of this number has not completed, and its thread waits for it (Table 9-5, TPRECISE). -/
  | tileRun (seq : Nat)
  /-- TSYNC waits (R226) for the accepted instructions numbered below `upto`; true: of the whole core. -/
  | tsync (group : Bool) (upto : Nat)
deriving DecidableEq, Repr

/-- One thread context (Table 5-2, Table 5-15). -/
structure Thread where
  mode     : TMode := .parked
  pc       : Word := 0
  /-- g1 to g31 where nonzero; g0 is never listed (R101). -/
  g        : List (Nat × Word) := []
  f        : List (Nat × Word) := []
  /-- Bits 7 to 1 of PREDS; bit 0 reads as 1 (R101). -/
  p        : Nat := 0
  ring     : Nat := 0
  gmask    : Bool := true
  dfa      : Bool := false
  mlevel   : Nat := 0
  /-- FCSR.RM and its five flags. -/
  frm      : Nat := 0
  fflags   : Nat := 0
  instret  : Nat := 0
  mbsrc    : Nat := 0
  cause    : Word := 0
  epc      : Word := 0
  eaddr    : Word := 0
  lseaddr  : Word := 0
  /-- XSPn and ENTRYn, n = 0 to 3. -/
  xsp      : List (Nat × Word) := []
  entry    : List (Nat × Word) := []
  dfsp     : Word := 0
  dfentry  : Word := 0
  lockpol  : Bool := false
  gatebase : Word := 0
  gatecnt  : Nat := 0
  /-- TSTAT's trap enables and flags. -/
  ten      : Nat := 0
  tflags   : Nat := 0
  /-- The instruction recorded under R227, its acceptance number and address; PEND is 1 while there is
  one. -/
  taddr    : Option (Nat × Word) := none
  /-- How many TSYNCs have retired (the model's own, for R227). -/
  tsyncs   : Nat := 0
  /-- WAIT has reported an exit, and Drill parks the thread (R327). -/
  exited   : Bool := false
  tctl     : Word := 4
  ptroot   : Word := 0
  /-- The mailbox receive queue, oldest first: payload and sender (R109). -/
  mailbox  : List (Word × Nat) := []
  /-- What the oldest unretired instruction waits for. -/
  hold     : Option Hold := none
  /-- A synchronous exception at RT, not entered yet. -/
  raised   : Option Exc := none
  /-- Posted stores to Device, Host or Remote memory, oldest first (R150). -/
  posted   : List Posted := []
  /-- A halt has been requested and waits for the boundary; one step runs, without events (chapter 23). -/
  haltReq  : Bool := false
  stepping : Bool := false
  noint    : Bool := false
deriving DecidableEq, Repr

/-- A line of an L1 cache: the line number (PA div 64) and its bytes. -/
structure L1Line where
  line : Nat
  data : List Byte
deriving DecidableEq, Repr

/-- A line of the prefetch side buffer, with the time of its last use. -/
structure SideLine where
  line : Nat
  data : List Byte
  used : Nat
deriving DecidableEq, Repr

/-- The region types whose stores merge (R190). -/
inductive MbKind where
  | normal | local' | direct
deriving DecidableEq, Repr

/-- A merging-buffer entry (R190): its allocation number, line address, type, bytes, byte mask (bit k for
byte k), whether it has closed, and the threads whose stores it carries (R161). -/
structure MbEntry where
  num     : Nat
  line    : Nat
  kind    : MbKind
  data    : List Byte
  mask    : Nat
  closed  : Bool
  threads : List Nat
deriving DecidableEq, Repr

/-- A TLB entry (R88, R146): the plot, the base virtual page number, log2 of the bytes it covers, and the
physical address of the first of them,
and the leaf. -/
structure TlbEntry where
  plot  : Nat
  base  : Nat
  span  : Nat
  pa    : Nat
  leaf  : Nat
deriving DecidableEq, Repr

/-- One core: its caches, merging buffer, TLB and power gate. -/
structure Core where
  /-- L1D lines by index 0 to 1,023, side-buffer lines by entry 0 to 15, L1I lines by index 0 to 511. -/
  l1d       : List (Nat × L1Line) := []
  side      : List (Nat × SideLine) := []
  l1i       : List (Nat × L1Line) := []
  /-- The merging buffer, oldest first, and the number of its next entry. -/
  mbuf      : List MbEntry := []
  mbNext    : Nat := 0
  /-- The L1D fill in progress, which blocks the L1 (R144). -/
  fill      : Option Nat := none
  /-- Prefetches on their way: line and thread (R194). -/
  pfs       : List (Nat × Nat) := []
  /-- L1I fills on their way: thread and line (R195). -/
  ifills    : List (Nat × Nat) := []
  /-- DEN (IEN) to be set when the invalidation in progress completes (R213). -/
  denAfter  : Bool := false
  ienAfter  : Bool := false
  /-- A change of DEN that waits for the fill in progress (R213). -/
  denNext   : Option Bool := none
  dinv      : Bool := false
  iinv      : Bool := false
  /-- The instruction TLB, the data TLB and the second level, newest entry first (R146). -/
  itlb      : List TlbEntry := []
  dtlb      : List TlbEntry := []
  tlb       : List TlbEntry := []
  /-- Power-gated (R37). -/
  gated     : Bool := false
  /-- The plot that leases the core (R317). -/
  lease     : Option Nat := none
  /-- When a third fault was last taken in it (R183). -/
  thirdAt   : Option Nat := none
  /-- When the last of its threads became idle (R37). -/
  idleAt    : Nat := 0
  /-- CCLK pulses when the core's CYCLE read 0, in 1/64 pulse. -/
  cycleBase : Nat := 0
deriving DecidableEq, Repr

/-- Coherence states of a line in a furrow cache (R197). -/
inductive Mesi where
  | m | e | s
deriving DecidableEq, Repr

/-- A line of a furrow cache: line number, state, bytes, poison and the time of its last use (exact LRU). -/
structure FcLine where
  line   : Nat
  st     : Mesi
  data   : List Byte
  poison : Bool
  used   : Nat
deriving DecidableEq, Repr

/-- The range engine of a furrow (R204): the operation in progress, and the lines, or sets, that it has passed. -/
structure RangeEngine where
  action : CmoAction := .invalidate
  mode   : Bool := false
  base   : Nat := 0
  lines  : Nat := 0
  pos    : Nat := 0
deriving DecidableEq, Repr

/-- The caches of Normal memory behind the cores. -/
structure Caches where
  /-- Furrow-cache lines under (furrow × 4,096 + set) × 16 + way; the Drill cache's under 16 as its furrow. -/
  fc       : List (Nat × FcLine) := []
  /-- When each home directory last served a line (its LRU order), by line number (R199). -/
  dir      : List (Nat × Nat) := []
  /-- Lines whose M copy an uncorrectable tag has lost: answered with poison until a full-line write
  (Table 8-6). -/
  lost     : List (Nat × Bool) := []
  /-- The clock of the LRU orders (the model's own). -/
  clock    : Nat := 0
  /-- The set that each furrow cache scrubs next (R196). -/
  scrubSet : List (Nat × Nat) := []
  range    : List (Nat × RangeEngine) := []
deriving DecidableEq, Repr


/-- A Binder operation beside its registers (R248 to R250): the slots arrived, each with its E contributions; the
sums formed so far: in chain mode the sum of slots 0 to p under p, in tree mode value m of level l under
4096 × l + m; elements of slots that arrive from other packages, under slot × 4096 + element; the local threads that
have contributed; whether a contribution was poisoned or an addition saturated. -/
structure BndOp where
  slots   : List (Nat × List Nat) := []
  nodes   : List (Nat × List Nat) := []
  partials : List (Nat × Nat) := []
  threads : List Nat := []
  poison  : Bool := false
  sat     : Bool := false
deriving DecidableEq, Repr
/-- A transition of a channel in progress (R280 to R282). -/
inductive ChanMove where
  | none
  | withdrawing
  | rejoining
  | toTill
  | toWithdrawn
deriving DecidableEq, Repr

/-- A direct access that has reached a channel while a till program is loaded there (R309): a thread's load, an entry of
a core's merging buffer, a segment of a tile instruction, a line that Drill or Harrow reaches for a plot, a write that they
have posted, or the access of the TAP. -/
inductive Held where
  | load (h : Nat)
  | drain (n num : Nat)
  | seg (n seq j : Nat)
  | dma (plot line : Nat)
  | write (l mask : Nat) (data : List Byte)
  | tap
deriving DecidableEq, Repr

/-- The slots of a till program (R302, R303): the next free slot, from which slot on a tine register is usable, the slots
of the last ACT, PRE and ST, and the slots and weights of the instructions of the last 100 ns. -/
structure TillClock where
  slot  : Nat := 0
  ready : List (Nat × Nat) := []
  act   : Option Nat := none
  pre   : Option Nat := none
  st    : Option Nat := none
  power : List (Nat × Nat) := []
deriving DecidableEq, Repr

/-- A channel's sequencer and tines in Till (chapter 13): the program buffer as 64-bit words, the index registers
x0 to x3, MASK, the open row, the tine registers under bank × 8 + register (an unlisted one is zero), the ledger entry of
the program and the ending whose report has not been taken, the slot clock, the direct accesses that are held, in order of
arrival (R309), whether they are being performed, and the lines that Drill and Harrow may reach since a YIELD. -/
structure TillSeq where
  image  : List Nat := []
  x      : List Nat := [0, 0, 0, 0]
  mask   : Nat := 0xFFFFFFFF
  row    : Option Nat := none
  tines  : List (Nat × Nat) := []
  entry  : Option Nat := none
  ended  : Option Nat := none
  clock  : TillClock := {}
  held   : List Held := []
  serving : Bool := false
  admitted : List (Nat × Nat) := []
deriving DecidableEq, Repr

/-- The bytes of Granary memory and what the channels keep beside their registers. -/
structure Granary where
  /-- Bytes under channel × 0x6000_0000 + L (R276); an unlisted byte reads as 0. -/
  mem    : List Host.Cell := []
  /-- Poisoned lines, under (channel × 0x6000_0000 + L) div 64 (R289). -/
  poison : List (Nat × Bool) := []
  /-- The transition in progress, by channel. -/
  move   : List (Nat × ChanMove) := []
  /-- Channels that Drill returns to their interleave sets after a plot reset (Table 12-2). -/
  returning : List Nat := []
  /-- The sequencers, by channel. -/
  till   : List (Nat × TillSeq) := []
deriving DecidableEq, Repr


/-- The fields of a reply that a command decides (Table 14-3). -/
structure Reply where
  status : Nat := 0
  detail : Nat := 0
  aux    : Nat := 0
  result : Nat := 0
deriving DecidableEq, Repr

/-- Ledger states (Table 14-5); `parse`: fetched, and its load-time checks wait for content that they read. -/
inductive LState where
  | parse | held | running | aborting | retiring
deriving DecidableEq, Repr

/-- A sowing (R326 to R328): its threads in ascending order, those parked, those that exited on their own, the
timestamps of the first release and of the last parking, why it is being stopped, when STOP_REQ was raised, whether a
thread was reset. -/
structure Sowing where
  threads : List Nat
  parked  : List Nat := []
  exited  : List Nat := []
  first   : Nat := 0
  last    : Nat := 0
  cause   : Option Reply := none
  stopAt  : Option Nat := none
  forced  : Bool := false
deriving DecidableEq, Repr

/-- A ledger entry (R331): the command's plot, queue, SEQ, TAG, OPCODE and packet, its place in the order of
fetch, its state; whether its work has begun, how it ended; what its load-time checks read; the bytes that COPY or
FILL has moved, and whether a piece is on its way; the timestamp at which it was fetched, began to wait at the
head of its queue or started; its sowing; the loop of a frame's sowing; the entry that an ABORT has hit. -/
structure Entry where
  plot    : Nat
  queue   : Nat
  seq     : Nat
  tag     : Nat
  opcode  : Nat
  packet  : List Byte
  order   : Nat
  state   : LState
  begun   : Bool := false
  reply   : Option Reply := none
  content : List Byte := []
  prog    : Nat := 0
  away    : Bool := false
  since   : Option Nat := none
  sow     : Option Sowing := none
  frame   : Option Nat := none
  target  : Option Nat := none
deriving DecidableEq, Repr

/-- A queue beside its registers: rereads of a packet whose SEQ did not match (R338); a read of the queue in host
memory is outstanding; LEDGER_FULL written in this episode (R336); rebased and waiting for RECLAIM (R384); the
retained copy of the ring, by slot (R323). -/
structure QueueRec where
  rereads  : Option Nat := none
  reading  : Bool := false
  told     : Bool := false
  rebased  : Bool := false
  retained : List (Nat × List Byte) := []
deriving DecidableEq, Repr

/-- The lease of a plot (R317) but for its cores (Core.lease): channels, 2 MiB extents, Binder operations, stream
contexts, ledger quota (none until a LEASE grants one), the runtime descriptor's address, and the PTROOT that the
last sowing took from it. -/
structure PlotRec where
  channels : List Nat := []
  extents  : List Nat := []
  binder   : Nat := 0
  streams  : Nat := 0
  quota    : Option Nat := none
  rtdesc   : Nat := 0
  ptroot   : Word := 0
deriving DecidableEq, Repr

/-- Drill: the ledger by entry number, the queues by plot × 8 + q, the plots, the next place in the order of fetch,
and the queue served last at each priority. -/
structure Drill where
  ledger : List (Nat × Entry) := []
  queues : List (Nat × QueueRec) := []
  plots  : List (Nat × PlotRec) := []
  order  : Nat := 0
  served : List (Nat × Nat) := []
deriving DecidableEq, Repr

/-- The frame of a loop that has been released and is not DONE (Table 15-3): its ledger entry, its index, the sheaf
that it took with it; it is DIGESTING; FRAME_TICK has been raised; it has been reported missing. -/
structure RunFrame where
  entry     : Nat
  k         : Nat
  sheaf     : List (Nat × Nat)
  digesting : Bool := false
  warned    : Bool := false
  told      : Bool := false
deriving DecidableEq, Repr

/-- An armed frame loop beside its registers (chapter 15): the ledger entry of its FRAME_ARM and the cores of its
template; START_TS; the commit count at arming, C₀; the first frame, k₀; the next frame to start; the frame in
WAITING; the frame released and not DONE; the sheaf of the next frame released; why the loop is disarmed (Table
15-6); the last frame released; a frame that faulted before its deadline and is not reported missing yet. -/
structure FrameLoop where
  entry   : Nat
  cores   : List Nat
  start   : Nat
  c0      : Nat
  k0      : Nat
  k       : Nat
  waiting : Option Nat := none
  run     : Option RunFrame := none
  sheaf   : List (Nat × Nat) := []
  cause   : Option Nat := none
  last    : Option Nat := none
  owed    : Option Nat := none
deriving DecidableEq, Repr
/-- What the package puts on its links and pins, for the outside to see. -/
inductive Sent where
  /-- An MSI-X message of a function's vector (R373), with the address and data of its table entry. -/
  | msix (plot vec addr data : Nat)
  /-- What a BAR read of the host brings back (R369); none: Unsupported Request. -/
  | barData (plot : Nat) (v : Option Nat)
  /-- A read toward the host: tag, plot of the Requester ID, host bus address, bytes (R370). -/
  | hostRead (tag plot addr len : Nat)
  /-- A posted write toward the host. -/
  | hostWrite (plot addr : Nat) (bytes : List Byte)
  /-- A flit on a link: swath links 0 to 5, the yoke link 6 (R392, R418). -/
  | flit (link : Nat) (bytes : List Byte)
  /-- An Ethernet frame, before its FCS, on a Hitch port (R513). -/
  | eth (port : Nat) (bytes : List Byte)
  /-- The 200 µs test pulse on both HVETO_OUT channels (R463). -/
  | vetoPulse
deriving DecidableEq, Repr

/-- One MSI-X vector (R373): its 1 µs interval runs; an event waits for the interval's end; its table entry: the mask bit,
the message's address and data (notes/assumptions/62); its pending bit. -/
structure Vec where
  interval : Bool := false
  waiting  : Bool := false
  masked   : Bool := true
  addr     : Nat := 0
  data     : Nat := 0
  pba      : Bool := false
deriving DecidableEq, Repr


/-- What a read toward the host is for. -/
inductive HostUse where
  /-- A packet of queue plot × 8 + q, for ledger entry e. -/
  | packet (q e : Nat)
  /-- The TAIL word of a self-fed queue. -/
  | tail (q : Nat)
  /-- What the load-time checks, or the start, of a ledger entry read. -/
  | content (e : Nat)
  /-- A piece of a COPY. -/
  | copy (e : Nat)
  /-- The word of a WAIT. -/
  | word (e : Nat)
  /-- A piece of the element that a stream moves: offset in the element. -/
  | element (n off : Nat)
  /-- A DIR 1 flush read, with the COMMIT value at its issue. -/
  | flush (n commit : Nat)
  /-- A thread's load through the aperture. -/
  | load (h : Nat)
  /-- Its asker no longer waits: what it brings is discarded. -/
  | stale
deriving DecidableEq, Repr

/-- A read outstanding toward the host (R371). -/
structure HostRead where
  plot : Nat
  addr : Nat
  len  : Nat
  use  : HostUse
deriving DecidableEq, Repr

/-- What a host function keeps beside its registers: the session token (R385); of its configuration space Bus Master
Enable, MSI-X Enable and Function Mask; D3hot. -/
structure FnRec where
  token  : Option Nat := none
  master : Bool := false
  msixEn : Bool := false
  msixMask : Bool := false
  d3hot  : Bool := false
  /-- The queue that a rebase is writing (R384). -/
  rebasing : Option Nat := none
deriving DecidableEq, Repr

/-- A Harrow stream beside its registers (R374): its bases, element size and ring size, where its commit word is;
the bytes of the element in progress that have been moved; whether a flush read is outstanding; the ledger entry of
a STREAM_CLOSE that waits. -/
structure Stream where
  host    : Nat
  dev     : Nat
  bytes   : Nat
  elems   : Nat
  commitAt : Nat
  off     : Nat := 0
  away    : Bool := false
  flush   : Bool := false
  closing : Option Nat := none
deriving DecidableEq, Repr

/-- The host port: VF Enable and the number of virtual functions; reads outstanding by tag; functions by plot; streams
by number; the stream served last in round robin (R377). -/
structure HostPort where
  vfEnable : Bool := false
  numVfs   : Nat := 0
  reads    : List (Nat × HostRead) := []
  fns      : List (Nat × FnRec) := []
  streams  : List (Nat × Stream) := []
  served   : Nat := 4096
deriving DecidableEq, Repr

/-- A yoke or swath link (R391 to R393, R412, R418). -/
structure LinkRec where
  /-- Lanes that this side's receiver has declared failed, and lanes that the far side has reported. -/
  rxFailed : Nat := 0
  txFailed : Nat := 0
  /-- FSEQ of the next sequenced flit; the flits that no ACK covers, oldest first (the retry buffer). -/
  txSeq    : Nat := 1
  retry    : List (Nat × List Byte) := []
  /-- FSEQ of the last sequenced flit received in order. -/
  rxSeq    : Nat := 0
  /-- Messages that wait at the transmitter, oldest first, each with its virtual channel (R419). -/
  out      : List (Nat × List Byte) := []
  /-- Messages received and not taken yet, oldest first. -/
  inbox    : List (List Byte) := []
  /-- Credit left on each virtual channel, and units freed since the last flit (R418, R419). -/
  credit   : List Nat := [256, 256, 256, 256]
  freed    : List Nat := [0, 0, 0, 0]
  /-- HELLO of the far side has been accepted since the link came up. -/
  hello    : Bool := false
deriving DecidableEq, Repr

/-- An ARM record of the twin (R400, Table 17-2). -/
structure ArmRec where
  armed    : Bool
  period   : Nat
  deadline : Nat
  start    : Nat
deriving DecidableEq, Repr

/-- A frame that is not decided (R403): loop and index modulo 2³², its S(k) once it has started here, the local
digest, length and request block, the twin's digest and length, whether the twin reported it missing. -/
structure YkFrame where
  loop  : Nat
  k     : Nat
  start : Option Nat := none
  loc   : Option (Nat × Nat × List Byte) := none
  far   : Option (Nat × Nat) := none
  gone  : Bool := false
deriving DecidableEq, Repr

/-- A transfer descriptor that the engine has taken and not completed (R407): its number in the ring, its ID, and
STATUS and RESOLVED once its end is known. -/
structure Transfer where
  slot : Nat
  id   : Option Nat
  done : Option (Nat × Nat) := none
deriving DecidableEq, Repr

/-- A descriptor completed YOKE_LOST whose fate is open (R409): its number, its ID, the twin's EPOCH at the time. -/
structure LostXfer where
  slot  : Nat
  id    : Nat
  epoch : Nat
deriving DecidableEq, Repr

/-- A WRITE of the twin that is being received: its ID, length, destination, bytes so far, and whether every line
could be written. -/
structure InXfer where
  id  : Nat
  len : Nat
  dst : Nat
  got : Nat
  ok  : Bool := true
deriving DecidableEq, Repr

/-- The yoke beside its registers (chapter 17): this side's EPOCH and the twin's; YK_CTL.REJOIN has been written; the
twin said in HELLO that it is in SINGLE or REJOIN; XREPORT has arrived since HELLO; T_PAIR, and the state before
PAIRED; TIME: when the last was sent, TX and arrival of the last received, exchanges in a row, from when OFF may move;
heartbeats: the next to send, the previous Headland record, the next D(n) to judge, misses in a row, one has arrived;
the twin's ARM records; the frames not decided, and those decided, by loop; hashes of this side and of the twin by loop
and frame; transfers: the next ID, the next descriptor to take, those taken, those lost; the newest ID received and
those executed among the 4,096 newest; the WRITE being received. -/
structure Yoke where
  epoch      : Nat := 0
  twinEpoch  : Nat := 0
  rejoin     : Bool := false
  twinSingle : Bool := false
  reported   : Bool := false
  tpair      : Option Nat := none
  from'      : Nat := 1
  timeSent   : Option Nat := none
  seenTx     : Nat := 0
  seenAt     : Nat := 0
  good       : Nat := 0
  slewAt     : Option Nat := none
  hbNext     : Nat := 0
  hrec       : Option (List Byte) := none
  judge      : Option Nat := none
  misses     : Nat := 0
  hbSeen     : Bool := false
  arms       : List (Nat × ArmRec) := []
  frames     : List YkFrame := []
  decided    : List (Nat × List Nat) := []
  hashes     : List ((Nat × Nat) × Nat) := []
  twinHashes : List ((Nat × Nat) × Nat) := []
  nextId     : Nat := 0
  xqNext     : Nat := 0
  xq         : List Transfer := []
  lost       : List LostXfer := []
  newest     : Nat := 0
  done       : List Nat := []
  incoming   : Option InXfer := none
deriving DecidableEq, Repr

/-- What a request toward another package is for. -/
inductive SwUse where
  | load (h : Nat)
  | store (h : Nat) (va : Word)
  | atomic (h : Nat)
  /-- A piece that a COPY reads: byte of the line, length. -/
  | read (e off len : Nat)
  /-- A piece of COPY or FILL. -/
  | write (e len : Nat)
  /-- A BIND or BDONE of Binder operation n; the entry of core n's tile queue whose TBIND waits for it. -/
  | bind (n : Nat) (tile : Option (Nat × Nat))
  /-- Its issuer no longer waits. -/
  | stale
deriving DecidableEq, Repr

/-- A request of this package that has no response yet (R426 to R430): its message bytes, destination, TAG or ID,
address, when it was sent (none: it waits at the swath port, R424, R430). -/
structure SwReq where
  dst  : Nat
  id   : Nat
  read : Bool
  addr : Nat
  msg  : List Byte
  use  : SwUse
  sent : Option Nat := none
deriving DecidableEq, Repr

/-- A loss record whose fate is open (R435): its slot number, destination, ID, and the EPOCH of the destination at
the time. -/
structure Loss where
  slot  : Nat
  dst   : Nat
  id    : Nat
  epoch : Nat
deriving DecidableEq, Repr

/-- What a package keeps of another (R429, R430): the next ID to it; the newest ID received from it and the
executed IDs among the 4,096 newest; its EPOCH as last seen. -/
structure PeerRec where
  nextId : Nat := 0
  newest : Nat := 0
  done   : List Nat := []
  epoch  : Nat := 0
deriving DecidableEq, Repr

/-- The Acre fabric beside its registers: other packages, requests outstanding, loss records
pending, LSTATE by package × 8 + link: sequence and UP; the sequence of this package's own LSTATE messages. -/
structure Acre where
  peers  : List (Nat × PeerRec) := []
  reqs   : List SwReq := []
  losses : List Loss := []
  lstate : List (Nat × (Nat × Bool)) := []
  lseq   : Nat := 0
deriving DecidableEq, Repr

/-! The safety island (chapters 19 to 22). -/

/-- The island record (Table 19-4). -/
structure IslandRec where
  expectSeal  : Nat
  safeLoop    : Nat
  missTol     : Nat
  framePeriod : Nat
  grace       : Nat
  degradeTime : Nat
  single      : Bool
  lockupReact : Bool
  lossStop    : Nat
  degradeSls  : List Nat
deriving DecidableEq, Repr

/-- A safe input record (Table 20-2), or a remote bit of a connection record (Table 22-5a): what an OFF input
stops. -/
structure StopMap where
  outMask  : Nat
  axisMask : Nat
  /-- 0 STO, 1 SS1, 2 SS2, 3 SOS, 0xFF none. -/
  stop     : Nat
deriving DecidableEq, Repr

structure InputRec where
  mode     : Nat
  discTime : Nat
  map      : StopMap
deriving DecidableEq, Repr

/-- A safe output record (Table 20-2). -/
structure OutputRec where
  used    : Bool
  restart : Bool
  cfb     : Option Nat
  cfTime  : Nat
deriving DecidableEq, Repr

/-- An axis record (Table 21-7). -/
structure AxisRec where
  used     : Bool
  encoder  : Bool
  restart  : Bool
  global   : Bool
  invert   : Bool
  lines    : Nat
  refPos   : Int
  poles    : Nat
  faultStop : Nat
  rs       : Nat
  ls       : Nat
  iscale   : Nat
  vscale   : Nat
  psi      : Nat
  resMax   : Nat
  emfTol   : Nat
  obsMin   : Nat
  xchk     : Nat
  sstill   : Nat
  sosWin   : Nat
  ssmLimit : Nat
  ssmHyst  : Nat
  decel    : Nat
  rampTol  : Nat
  ssDelay  : Nat
  tSs      : Nat
  tBlind   : Nat
  defSls   : Option Nat
  defSlp   : Option Nat
  defSdi   : Option Nat
deriving DecidableEq, Repr

/-- What a limit entry limits (Table 21-7). -/
inductive LimitKind where
  | sls (limit ramp : Nat)
  | slp (lo hi : Int) (fallback : Nat)
  | sdi (positive : Bool) (tol : Nat)
deriving DecidableEq, Repr

/-- A limit entry (Table 21-7). -/
structure LimitRec where
  axis  : Nat
  index : Nat
  react : Nat
  kind  : LimitKind
deriving DecidableEq, Repr

/-- A Hitch connection record (Table 22-5a). -/
structure ConnRec where
  used      : Bool
  ports     : List Nat
  essential : Bool
  ackReq    : Bool
  peer      : Nat
  pcp       : Option Nat
  mac       : List Byte
  vid       : Nat
  period    : Nat
  wdog      : Nat
  texp      : Nat
  cchk      : Nat
  bits      : List StopMap
  retry     : Nat
deriving DecidableEq, Repr

/-- A Hitch port record (Table 22-5a). -/
structure PortRec where
  used : Bool
  mac  : List Byte
deriving DecidableEq, Repr

/-- A parameter body, read (R449, R482, R506, R526). -/
structure Params where
  island   : IslandRec
  inputs   : List (Nat × InputRec) := []
  outputs  : List (Nat × OutputRec) := []
  opPeriod : Nat := 100
  opWidth  : Nat := 300
  axes     : List (Nat × AxisRec) := []
  limits   : List LimitRec := []
  conns    : List (Nat × ConnRec) := []
  ports    : List (Nat × PortRec) := []
deriving DecidableEq, Repr

/-- The parameter set in force: the copy it was read from, its header (Table 19-3) and its body, read. -/
structure ParamSet where
  copy   : Nat
  seq    : Nat
  pcrc   : Nat
  confC  : Nat
  valid  : Bool
  bind   : Bool
  ids    : List Nat
  params : Params
deriving DecidableEq, Repr

/-- A parameter load (R450): the body's length and PCRC, the bytes delivered. -/
structure Upload where
  len  : Nat
  pcrc : Nat
  data : List Host.Cell := []
deriving DecidableEq, Repr

/-- A write of the parameter region in progress (R450, R452): the bytes of the copy, the copy, and whether it
completes a confirmation. -/
structure ParamWrite where
  copy    : Nat
  bytes   : List Byte
  confirm : Bool
deriving DecidableEq, Repr

/-- One request of a request block (Table 19-6). -/
structure SafeReq where
  code   : Nat
  target : Nat
  index  : Nat
deriving DecidableEq, Repr

/-- What the compute side hands to the island between cycles: release and withhold records (R404), a twin's
heartbeat record, TWIN_LOST, a missed heartbeat. -/
inductive IslRecord where
  | release (loop k : Nat) (block : List Byte)
  | withhold (loop k outcome : Nat)
  | hrec (bytes : List Byte) (at' : Nat)
  | twinLost
  | hbMissed
deriving DecidableEq, Repr

/-- The twin's last heartbeat record (Table 19-8) and when it was received. -/
structure TwinRec where
  hs     : Nat
  auth   : Bool
  veto   : Bool
  relinq : Bool
  pcrc   : Nat
  cycle  : Nat
  at'    : Nat
deriving DecidableEq, Repr

/-- Where the reset request input is in its sequence (R453). -/
inductive EdgePhase where
  /-- Not yet both low. -/
  | idle
  | low
  | rising (at' : Nat)
  /-- Both high since `at'`; the first rise was within 50 ms. -/
  | high (at' : Nat)
  | falling (at' : Nat)
  /-- RESET_STUCK: ignored until both have been low for 100 ms; since when they have been. -/
  | stuck (lowAt : Option Nat)
deriving DecidableEq, Repr

/-- A safe input's evaluation (R473 to R475): its logical state, since when its channels have differed, the latched
faults, consecutive failures (of channel A, of channel B) and consecutive passes of own tests. -/
structure InputSt where
  on       : Bool := false
  high     : Bool := false
  differAt : Option Nat := none
  disc     : Bool := false
  stuck    : Bool := false
  cross    : Bool := false
  stuckRun : List Nat := [0, 0]
  crossRun : List Nat := [0, 0]
  passRun  : List Nat := [0, 0]
deriving DecidableEq, Repr

/-- A safe output's evaluation (R477, R481): its commanded state as evaluated; since when its other conditions have
held while it waits; whether the edge has served it; when its contactor must have followed, and the latches. -/
structure OutputSt where
  ev       : Bool := false
  waiting  : Bool := false
  refused  : Bool := false
  cfDue    : Option Nat := none
  weld     : Bool := false
  pullin   : Bool := false
deriving DecidableEq, Repr

/-- An output or enable channel (R478, R480): the pin's level, the level at the cycle before, consecutive off-pulse
failures of each kind, consecutive cycle starts at which the readback contradicts the pin, and at which it has read
off, the latches, the number of its last off-pulse test. -/
structure ChanSt where
  cmd       : Bool := false
  justOff   : Bool := false
  stuckRun  : Nat := 0
  driveRun  : Nat := 0
  contOn    : Nat := 0
  contOff   : Nat := 0
  offRun    : Nat := 0
  stuck     : Bool := false
  drive     : Bool := false
  lastTest  : Option Nat := none
deriving DecidableEq, Repr

/-- A fraction: a speed in rpm. -/
structure Frac where
  n : Int := 0
  d : Nat := 1
deriving DecidableEq, Repr

/-- One sinc³ filter (R495): its three integrators and three comb delays. -/
structure Sinc3 where
  i : List Int := [0, 0, 0]
  c : List Int := [0, 0, 0]
deriving DecidableEq, Repr

/-- The observer (R495), its values as binary32 encodings. -/
structure Observer where
  filters : List Sinc3 := [{}, {}, {}, {}]
  ial  : Nat := 0
  ibe  : Nat := 0
  val  : Nat := 0
  vbe  : Nat := 0
  efal : Nat := 0
  efbe : Nat := 0
  th   : Nat := 0
  we   : Nat := 0
  vo   : Nat := 0
  r    : Nat := 0
  implausible : Nat := 0
  plausible   : Nat := 0
  lost : Bool := false
deriving DecidableEq, Repr

/-- What a ramp is for (R502). -/
structure RampSt where
  ss2  : Bool
  at'  : Nat
  v0   : Frac
deriving DecidableEq, Repr

/-- The faults latched on an axis (Table 21-6); LIMIT with its REACT. -/
structure AxisFaults where
  encoder    : Bool := false
  lost       : Bool := false
  disagree   : Bool := false
  ramp       : Bool := false
  standstill : Bool := false
  limit      : Option Nat := none
deriving DecidableEq, Repr

/-- One axis (R491 to R508), beside HDL_AX_. -/
structure AxisSt where
  encA     : Bool := false
  encB     : Bool := false
  pos      : Int := 0
  latched  : List Int := []
  illegal  : Nat := 0
  clean    : Nat := 0
  encfLow  : Bool := false
  origin   : Int := 0
  referenced : Bool := false
  suspended  : Bool := false
  good     : Nat := 0
  events   : List Bool := []
  obs      : Observer := {}
  bounds   : List Frac := []
  speed    : Frac := {}
  differs  : Bool := false
  compared : Bool := false
  disagreeRun : Nat := 0
  state    : Nat := 4
  demand   : Option Nat := none
  faults   : AxisFaults := {}
  ramp     : Option RampSt := none
  p0       : Int := 0
  sls      : Option Nat := none
  slp      : Option Nat := none
  sdi      : Option Nat := none
  slsFrom  : Option (Frac × Nat) := none
  w        : Int := 0
  ssm      : Bool := false
  dstp     : Bool := false
  dstpAt   : Option Nat := none
  acked    : Bool := false
  offAt    : Nat := 0
  faulted  : Bool := false
  waiting  : Bool := false
deriving DecidableEq, Repr

/-- One Hitch connection beside HDL_HT_ (R512 to R530): its nonce and the earlier ones, when it began to start, when
START is due next, PDUs received and not processed (each with its receipt), when the last accepted one was received,
when it opened, how many DATA PDUs it has sent and in which cycle the last, the send times that no ECHO covers, when
it was lost, whether it has been open since island start. -/
structure ConnSt where
  nonce    : Nat := 0
  nonces   : List Nat := []
  startAt  : Nat := 0
  startDue : Nat := 0
  rx       : List (Nat × List Byte) := []
  lastRx   : Nat := 0
  openAt   : Nat := 0
  sent     : Nat := 0
  sentCycle : Option Nat := none
  kept     : List (Nat × Nat) := []
  lostAt   : Nat := 0
  opened   : Bool := false
  /-- The remote bits of the last accepted DATA. -/
  bits     : Nat := 0
deriving DecidableEq, Repr

/-- One Hitch port (R514, R528): frames accepted in this cycle, the receipt of its unassigned frames. -/
structure HitchPort where
  frames     : Nat := 0
  unassigned : List Nat := []
deriving DecidableEq, Repr

/-- The island beside its HDL_ registers. Times are nanoseconds since island start. -/
structure Island where
  t         : Nat := 0
  /-- An image has been accepted, with agreeing verdicts (R62); the four running IMAGE_IDs; a pair is untested. -/
  image     : Bool := false
  ids       : List Nat := [0, 0, 0, 0]
  untested  : Bool := false
  /-- The comparator or the watchdog has switched every output path off; a safety reset follows. -/
  hwOff     : Bool := false
  resetDue  : Bool := false
  set       : Option ParamSet := none
  upload    : Option Upload := none
  pwrite    : Option ParamWrite := none
  /-- CONFIRM_PEND since, with the BIND and IDs used. -/
  pendAt    : Option Nat := none
  refusals  : List Nat := []
  lockoutAt : Option Nat := none
  armedAt   : Option Nat := none
  /-- The mailbox message that waits for its answer: MSGTYPE and REQ; the answer that Drill has not taken: result
  code and RSP. -/
  msg       : Option (Nat × List Byte) := none
  answer    : Option (Nat × List Byte) := none
  records   : List IslRecord := []
  /-- When the last release or withhold record, and the last sign of the compute side, arrived. -/
  recordAt  : Nat := 0
  computeAt : Nat := 0
  reqs      : List SafeReq := []
  accepted  : Bool := false
  frameLoss : Bool := false
  degExpired : Bool := false
  degradedAt : Nat := 0
  twinVeto  : Bool := false
  /-- LOCAL_LOST since; 1: its grace is over, or none applies, and it is a cause. -/
  localAt   : Option Nat := none
  localCause : Bool := false
  stopping  : Bool := false
  handoverAt : Option Nat := none
  twin      : Option TwinRec := none
  vetoRun   : Nat := 0
  vetoDiffer : Nat := 0
  vetoMis   : Nat := 0
  pulseAt   : List Nat := [0, 0]
  pulsed    : Option Nat := none
  /-- Bad windows in a row of REFCLK and of the root PLL; samples in a row outside its range, by rail. -/
  refBad    : Nat := 0
  rootBad   : Nat := 0
  railBad   : List (Nat × Nat) := []
  /-- LOCKUP_N as the island last saw it, and whether the board pulls it low from outside the package (R182). -/
  lockupLow : Bool := false
  lockupBoard : Bool := false
  edgePhase : EdgePhase := .idle
  /-- A complete reset edge of this cycle that nothing has consumed. -/
  edge      : Bool := false
  /-- The cycle of the last STPA or STPB test (R475). -/
  testedAt  : Option Nat := none
  samples   : List Pins := []
  deb       : Pins := {}
  lowAt     : List (Nat × Nat) := []
  inputs    : List (Nat × InputSt) := []
  outputs   : List (Nat × OutputSt) := []
  chans     : List (Nat × ChanSt) := []
  axes      : List (Nat × AxisSt) := []
  conns     : List (Nat × ConnSt) := []
  ports     : List (Nat × HitchPort) := []
  /-- The heartbeat record of the last output step (Table 19-8). -/
  hrec      : List Byte := []
deriving DecidableEq, Repr


/-- What a core's trace unit keeps of one context: the outcomes of its unfinished BRANCH packet, oldest first;
whether it has emitted SYNC since it became traced; packets since then; its last timestamped packet. -/
structure TraceCtx where
  outcomes : List Bool := []
  synced   : Bool := false
  packets  : Nat := 0
  lastTs   : Nat := 0
deriving DecidableEq, Repr

/-- The trace unit of a core (R540 to R543): its FIFO, oldest byte first; what it has dropped since the last
OVERFLOW; whether it is being flushed. -/
structure TraceUnit where
  fifo    : List Byte := []
  ctxs    : List (Nat × TraceCtx) := []
  dropped : Nat := 0
  flush   : Bool := false
deriving DecidableEq, Repr

/-- The test access port (R532, R534): the instruction register's code, DBGADDR, DBGDATA and whether an access
is in progress or waits for it. -/
structure Tap where
  ir      : Nat := 2
  addr    : Nat := 0
  data    : Nat := 0
  wdata   : Nat := 0
  busy    : Bool := false
  next    : Option Nat := none
deriving DecidableEq, Repr

/-- Gleaner and Tally, beside their registers. -/
structure Gleaner where
  /-- Trace units by core number; 255 is the system stream (R540). -/
  units   : List (Nat × TraceUnit) := []
  /-- The number of the next block of a core, modulo 256 (R544). -/
  bseq    : List (Nat × Nat) := []
  tap     : Tap := {}
  /-- The threads of the halt or step request in progress (R535, R536). -/
  haltSel : List Nat := []
  /-- INSTRET of each thread when Tally last counted it (the model's own, for R545). -/
  seen    : List (Nat × Nat) := []
deriving DecidableEq, Repr
/-- One entry of the fault log (Table 24-1, R552). `valid` and `sticky` are FLAGS[6] and [7]. -/
structure LogEntry where
  ts       : Nat := 0
  seq      : Nat := 0
  sticky   : Bool := false
  valid    : Bool := false
  severity : Nat := 0
  rep      : Nat := 0
  code     : Nat := 0
  inst     : Nat := 0
  plot     : Nat := 0
  aux      : Nat := 0
  addr     : Nat := 0
  lastTs   : Nat := 0
  detail   : Nat := 0
deriving DecidableEq, Repr

/-- Reeve: the fault log and its writer queue (R551, R556), the throttle controllers (R561 to R564) and
the health samples (R560, R565). -/
structure Reeve where
  /-- Slot number and entry, 4,096 slots; an unlisted slot has never been written. -/
  log            : List (Nat × LogEntry) := []
  /-- The 64-entry writer queue, oldest first (R556). -/
  logQueue       : List LogEntry := []
  /-- The DUTY that the thermal controller asks for (R563). -/
  thermalDuty    : Nat := 64
  /-- The power estimates of the last second, newest first, one per 10 µs (R560). -/
  samples        : List Nat := []
  /-- Consecutive samples whose 100 µs average lay above PL1 (R562). -/
  aboveCount     : Nat := 0
  /-- 1: lowering toward PL1 after 8 ms above it (R562). -/
  toPl1          : Bool := false
  /-- The DUTY at or below which the limiter holds until the 1 s average is 20 W below PL1 (R562). -/
  powerCap       : Option Nat := none
  /-- Samples since the limiter last raised DUTY; it raises by 1 every 100 µs (R562). -/
  sinceRaise     : Nat := 0
  /-- 1: inside an episode that lowers DUTY (R562, R563). -/
  powerEpisode   : Bool := false
  thermalEpisode : Bool := false
  /-- The sensor that the running episode's entry will name. -/
  thermalSensor  : Nat := 0
  /-- The last summed PMBus input power (R560). -/
  measured       : Option Nat := none
  /-- The last 60 snapshots of the error counters, newest first (R565). -/
  eccHistory     : List (List Nat) := []
  /-- Counters already reported at their saturated value (R565). -/
  eccSaturated   : List Nat := []
  /-- The VDD_CORE setpoint that Reeve commands, in steps of 2.5 mV (R36): 300 is 0.75 V. -/
  setpoint       : Nat := 300
deriving DecidableEq, Repr

/-- The whole machine. -/
structure State where
  /-- Every memory-mapped register field, under `Fld.id + 4096 × instance`; a field not listed holds its
  reset value. -/
  regs    : List (Nat × Nat) := []
  clk     : Clocks := {}
  reeve   : Reeve := {}
  /-- Thread contexts, by thread number; an unlisted one is as a reset leaves it. -/
  threads : List (Nat × Thread) := []
  /-- Cores, by core number. -/
  cores   : List (Nat × Core) := []
  /-- Tile units, by core number. -/
  tiles   : List (Nat × TileCore) := []
  caches  : Caches := {}
  granary : Granary := {}
  /-- The seedboxes, by core (R79). -/
  seedbox : List (Nat × Sram) := []
  gln     : Gleaner := {}
  drill   : Drill := {}
  /-- The armed frame loops. -/
  loops   : List (Nat × FrameLoop) := []
  host    : HostPort := {}
  /-- Links: swath links 0 to 5, the yoke link 6. -/
  links   : List (Nat × LinkRec) := []
  yoke    : Yoke := {}
  acre    : Acre := {}
  boot    : Boot := {}
  /-- The safety island. -/
  isl     : Island := {}
  /-- Binder operations, by number. -/
  bnd     : List (Nat × BndOp) := []
  /-- MSI-X vectors, under plot × 256 + vector (R373). -/
  vecs    : List (Nat × Vec) := []
  /-- What has left the package, oldest first (the model's own field: no rule reads it). -/
  sent    : List Sent := []
  /-- The counter under which the next free value is drawn (the model's own field). -/
  fresh   : Nat := 0
  /-- How the next channel access of the command in progress comes back, where the command says (the model's own field: it
  is `ok` between commands). -/
  res     : MemRes := .ok
  /-- Commands waiting, first in, first out. -/
  pending : List Instr := []
deriving DecidableEq, Repr

/-- The machine right after a power-on reset, PORST_N still low: every register field at its reset value
(R12), nothing listed in any sparse part. -/
def State.reset : State := {}

/-- Stops for which the spec gives no effect. -/
inductive Fault where
  /-- Raised by SUPPLY_SAMPLE on a rail beyond its absolute range: "None of the manual holds; damage
  possible" (R592). Safe: the machine stops where nothing is stated. -/
  | beyondAbsoluteRange
deriving DecidableEq, Repr

/-- Refusals. -/
inductive Refusal where
  /-- Raised by an arm of `exec` whose command has no meaning yet. Safe. -/
  | notModelled (mnemonic : String)
deriving DecidableEq, Repr

/-- What a command answers. -/
abbrev Out := Host.Outcome State Fault Refusal

end Sys2Proof.Machine
end

