-- ==== Sys2Proof/Machine/Ops.lean ====
section
/-! DEFINITION. The named operations that every family shares: register fields, free values, the
timestamp, the fault-log queue and the MSI-X vectors. -/

namespace Sys2Proof.Machine

/-! ### Register fields -/

/-- The key of a field's instance in `State.regs`. -/
def Fld.key (F : Fld) (i : Nat) : Nat := F.id + 4096 * i

/-- The value of a register field. -/
def State.f (s : State) (F : Fld) (i : Nat) : Nat := findD F.rst (F.key i) s.regs

/-- Set a register field, to its width. -/
def State.setF (s : State) (F : Fld) (i v : Nat) : State :=
  { s with regs := put (F.key i) (v % 2 ^ F.width) s.regs }

/-- A one-bit field as a truth value. -/
def State.on (s : State) (F : Fld) (i : Nat) : Bool := s.f F i ≠ 0

/-- Set a one-bit field. -/
def State.setOn (s : State) (F : Fld) (i : Nat) (b : Bool) : State := s.setF F i (if b then 1 else 0)

/-- Bit k of a field. -/
def State.bitF (s : State) (F : Fld) (i k : Nat) : Bool := (s.f F i).testBit k

/-- Set bit k of a number. -/
def setBit (v k : Nat) (b : Bool) : Nat :=
  if v.testBit k = b then v else if b then v + 2 ^ k else v - 2 ^ k

/-- Set bit k of a field. -/
def State.setBitF (s : State) (F : Fld) (i k : Nat) (b : Bool) : State := s.setF F i (setBit (s.f F i) k b)

/-- Count one event in a field that saturates at its largest value (Table 24-5). -/
def State.bump (s : State) (F : Fld) (i : Nat) : State :=
  if s.f F i + 1 < 2 ^ F.width then s.setF F i (s.f F i + 1) else s

/-- Count `n` events in a saturating field. -/
def State.bumpBy (s : State) (F : Fld) (i n : Nat) : State :=
  s.setF F i (min (s.f F i + n) (2 ^ F.width - 1))

/-- Count one event in a field that wraps (R566). -/
def State.wrapInc (s : State) (F : Fld) (i : Nat) : State := s.setF F i (s.f F i + 1)

/-- The fields of a block go to their reset values (R12): their entries leave the store. -/
def State.resetFields (s : State) (fs : List Fld) : State :=
  { s with regs := s.regs.filter (fun c => !(fs.any fun F => F.id == c.1 % 4096)) }

/-- Every field of a block's registers. -/
def Blk.fields (b : Blk) : List Fld := b.regs.flatMap (·.fields)

/-- A register block is reset (R12). -/
def State.resetBlk (s : State) (b : Blk) : State := s.resetFields b.fields

/-! ### Free values and the timestamp -/

/-- Draw a free value: nothing constrains it (notes/assumptions/2). -/
def State.draw (s : State) : Nat × State := (Config.freeValue s.fresh, { s with fresh := s.fresh + 1 })

/-- CLK_TIMESTAMP (R33). -/
def State.now (s : State) : Nat := s.f CLK_TIMESTAMP.TS 0

/-- `a` counts past `b` modulo 2^w (R566). -/
def modDiff (w a b : Nat) : Nat := (a + (2 ^ w - b % 2 ^ w)) % 2 ^ w

/-- Record something that leaves the package. -/
def State.send (s : State) (m : Sent) : State := { s with sent := s.sent ++ [m] }

/-! ### What runs -/

/-- The Headland die's non-safety blocks, Reeve among them, run: the power-on reset is over and REFCLK runs (R46, R49). -/
def State.live (s : State) : Bool := !s.clk.porstHeld && s.clk.refclk

/-- The Field die and Granary are out of reset: boot has started Drill (R30, R49, R60), and the root PLL holds lock (R46). -/
def State.released (s : State) : Bool := s.live && !s.clk.rootHeld && s.on DRL_STATUS.RUN 0

/-- Boot has ended in recovery: of the host port only the recovery function is there, and of the package the boot ROM
(R66). -/
def State.recovering (s : State) : Bool := s.live && s.on BT_STATUS.RECOVERY 0

/-- An agent can act: threads and Drill once the Field die is out of reset, Reeve and the TAP as soon as the Headland die
runs. -/
def State.acts (s : State) : Agent → Bool
  | .plot _ => s.released
  | .drill => s.released
  | .reeve => s.live
  | .tap => s.live

/-! ### MSI-X (R373) -/

/-- The vectors of a function: 256 for the physical function, 16 for a virtual one. -/
def vecCount (plot : Nat) : Nat := if plot = 0 then 256 else 16

/-- Where an event on a vector goes: a number at or beyond the table size is sent as vector 0. -/
def vecKey (plot vec : Nat) : Nat := plot * 256 + (if vec < vecCount plot then vec else 0)

/-- What a function keeps beside its registers. -/
def State.fn (s : State) (p : Nat) : FnRec := findD {} p s.host.fns

/-- A function, replaced. -/
def State.setFn (s : State) (p : Nat) (r : FnRec) : State := { s with host := { s.host with fns := put p r s.host.fns } }

/-- A function may send toward the host: the data link is up and its Bus Master Enable is set (R40, R382). -/
def State.canSend (s : State) (plot : Nat) : Bool := s.on HST_LINK.DL_UP 0 && (s.fn plot).master

/-- An event on a vector (R373): its message is sent at once and the 1 µs interval starts, unless the interval runs (the
event waits for its end) or the vector or the function is masked (its pending bit is set); lost while the data link is
down (Table 16-8), and while Bus Master Enable or MSI-X Enable is clear (notes/assumptions/62). -/
def State.notify (s : State) (plot vec : Nat) : State :=
  let k := vecKey plot vec
  let v := findD {} k s.vecs
  let fn := s.fn plot
  if !s.canSend plot || !fn.msixEn then s
  else if v.interval then { s with vecs := put k { v with waiting := true } s.vecs }
  else if v.masked || fn.msixMask then { s with vecs := put k { v with pba := true } s.vecs }
  else { s with vecs := put k { v with interval := true } s.vecs }.send (.msix plot (k % 256) v.addr v.data)

/-! ### The fault log's queue (R556) -/

/-- The largest length of the writer queue (R556). -/
def logQueueMax : Nat := 64

/-- No INSTANCE, no PLOT (Table 24-1). -/
def noInst : Nat := 0xFFFF

/-- Severities of Table 24-3; BOOT_RESULT is 0, and 3 in recovery (its AUX, BT_STATUS, says which). -/
def severityOf (code aux : Nat) : Nat :=
  match code with
  | 0x0001 => 0 | 0x0002 => 2 | 0x0003 => if aux.testBit 1 then 3 else 0
  | 0x0004 => 4 | 0x0005 => 3 | 0x0006 => 2
  | 0x0010 => 3 | 0x0011 => 3 | 0x0012 => 3 | 0x0013 => 3
  | 0x0020 => 3 | 0x0021 => 3 | 0x0022 => 3 | 0x0023 => 2 | 0x0024 => 2
  | 0x0030 => 2 | 0x0031 => 2
  | 0x0040 => 2 | 0x0041 => 3 | 0x0042 => 3 | 0x0043 => 0
  | 0x0050 => 2 | 0x0051 => 2 | 0x0060 => 0 | 0x0061 => 0
  | 0x0070 => 0 | 0x0071 => 2 | 0x0072 => 4 | 0x0080 => 4
  | _ => 0

/-- A source hands an entry to the writer queue (R556): dropped and counted when the queue is full. -/
def State.logEvent (s : State) (code inst plot aux addr detail : Nat) : State :=
  if s.reeve.logQueue.length < logQueueMax then
    { s with reeve := { s.reeve with logQueue := s.reeve.logQueue ++
        [{ ts := s.now, lastTs := s.now, severity := severityOf code aux, code := code, inst := inst,
           plot := plot, aux := aux, addr := addr, detail := detail }] } }
  else (s.bump RV_LOG_LOST.COUNT 0).setOn RV_LOG_STAT.QOVF 0 true

/-- An entry with neither instance, plot, address nor detail. -/
def State.log0 (s : State) (code aux : Nat) : State := s.logEvent code noInst noInst aux 0 0

/-- An entry with an instance. -/
def State.log1 (s : State) (code inst aux : Nat) : State := s.logEvent code inst noInst aux 0 0

/-- A register write from an agent that may not make it is dropped and logged (Table 24-3). -/
def State.writeDropped (s : State) (agent : Agent) (off : Nat) : State :=
  s.log1 0x0006 (Config.agentNumber agent.ctorIdx) off

/-! ### Tally (R545, R546) -/

/-- A counter carries out: with CHAIN, an even one is counted by its odd neighbour, and only a carry out of the
64-bit value counts as an overflow (notes/assumptions/21); otherwise its overflow bit is set and logged. -/
def State.tallyCarry (s : State) (n : Nat) : State :=
  if n % 2 = 0 && s.on TLY_CFG.CHAIN n then
    let s := s.wrapInc TLY_CNT.COUNT (n + 1)
    if s.f TLY_CNT.COUNT (n + 1) % 2 ^ 16 = 0 then
      (s.setBitF TLY_OVF.BITS ((n + 1) / 32) ((n + 1) % 32) true).log1 0x0060 (n + 1) 0
    else s
  else (s.setBitF TLY_OVF.BITS (n / 32) (n % 32) true).log1 0x0060 n 0

/-- Add to a counter of 48 bits. -/
def State.tallyBump (s : State) (n k : Nat) : State :=
  let v := s.f TLY_CNT.COUNT n + k
  let s := s.setF TLY_CNT.COUNT n v
  if 2 ^ 48 ≤ v then s.tallyCarry n else s

/-- Counter n counts an event of an instance (Table 23-3). -/
def State.tallyTakes (s : State) (n event inst : Nat) : Bool :=
  s.on TLY_CFG.EN n && s.f TLY_CFG.EVENT n = event &&
  (s.f TLY_CFG.INSTANCE n = inst || s.f TLY_CFG.INSTANCE n = 0xFFF) &&
  !(n % 2 = 1 && s.on TLY_CFG.CHAIN (n - 1))

/-- `k` occurrences of an event. -/
def State.tally (s : State) (event inst k : Nat) : State :=
  if !s.on TLY_CTL.EN 0 || s.on TLY_CTL.FREEZE 0 || k = 0 then s
  else (List.range 128).foldl (fun s n => if s.tallyTakes n event inst then s.tallyBump n k else s) s

end Sys2Proof.Machine
end

