-- ==== Sys2Proof/Machine/Memory.lean ====
section
/-! DEFINITION. Granary memory behind its channel controllers: the interleave (R276 to R278), bytes and
lines, poison (R289), error records (R292, R293); the seedboxes and other arrays; the physical map
(R74, R75, R83). -/

namespace Sys2Proof.Machine

/-! ### Bytes -/

/-- `n` bytes of a store from address `a` on; an unlisted byte reads as 0. -/
def readSpan (m : List Host.Cell) (a : Nat) : Nat → List Byte
  | 0 => []
  | n + 1 => findD 0 a m :: readSpan m (a + 1) n

/-- Write bytes from address `a` on, keeping the canonical form. -/
def writeSpan (m : List Host.Cell) (a : Nat) : List Byte → List Host.Cell
  | [] => m
  | b :: r => writeSpan (putD 0 a b m) (a + 1) r

/-- Write the bytes whose mask bit is set (bit k for the byte at `a + k`). -/
def writeMasked (m : List Host.Cell) (a mask : Nat) : List Byte → List Host.Cell
  | [] => m
  | b :: r => writeMasked (if mask % 2 = 1 then putD 0 a b m else m) (a + 1) (mask / 2) r

/-- A number from little-endian bytes (R7). -/
def leNat : List Byte → Nat
  | [] => 0
  | b :: r => b.toNat + 256 * leNat r

/-- The `n` little-endian bytes of a number (R7). -/
def leBytes : Nat → Nat → List Byte
  | 0, _ => []
  | n + 1, v => BitVec.ofNat 8 v :: leBytes n (v / 256)

/-- Overlay the bytes whose mask bit is set on others. -/
def overlay (mask : Nat) : List Byte → List Byte → List Byte
  | b :: r, n :: t => (if mask % 2 = 1 then n else b) :: overlay (mask / 2) r t
  | r, _ => r

/-- The mask of `n` bytes from byte `k` of a line. -/
def maskOf (k n : Nat) : Nat := (2 ^ n - 1) * 2 ^ k

/-- The mask of a whole line. -/
def fullMask : Nat := 2 ^ 64 - 1

/-! ### Interleave (R276, R277) -/

/-- Bytes of a channel, 1.5 GiB. -/
def chanSpan : Nat := 0x60000000

/-- Bytes of an interleave set, 24 GiB. -/
def setSpan : Nat := 0x600000000

/-- Bytes of the Granary memory region, 144 GiB. -/
def granarySpan : Nat := 0x2400000000

/-- The channel and channel-local address of an address of the Granary memory region (R277). -/
def interleave (pa : Nat) : Nat × Nat :=
  let o := pa % setSpan
  let g := o / 4096
  let m := (g % 16) ^^^ (g / 16 % 16) ^^^ (g / 256 % 16)
  (6 * m + pa / setSpan, g / 16 * 4096 + o % 4096)

/-- The address of the Granary memory region that a channel-local address serves (the inverse of R277). -/
def normalAddr (c l : Nat) : Nat :=
  let q := l / 4096
  let m := (c / 6) ^^^ (q % 16) ^^^ (q / 16 % 16)
  c % 6 * setSpan + (q * 16 + m) * 4096 + l % 4096

/-- The key of a channel-local address in `Granary.mem`. -/
def granKey (c l : Nat) : Nat := c * chanSpan + l

/-- The key of an address of the Granary memory region. -/
def normalKey (pa : Nat) : Nat := granKey (interleave pa).1 (interleave pa).2

/-! ### Channel states (Table 12-1) -/

/-- The transition of a channel in progress. -/
def State.chanMove (s : State) (c : Nat) : ChanMove := findD .none c s.granary.move

/-- The channel serves Normal requests: Member, and not being withdrawn (R280). -/
def State.chanNormal (s : State) (c : Nat) : Bool :=
  s.f GRN_STATE.MODE c = 0 && s.chanMove c ≠ .withdrawing

/-- The channel-direct window is open (R93): Withdrawn or Till, and not rejoining (R281). -/
def State.chanDirect (s : State) (c : Nat) : Bool :=
  s.f GRN_STATE.MODE c ≠ 0 && s.chanMove c ≠ .rejoining

/-! ### The physical map (Table 4-1) -/

/-- Where a physical address lies. -/
inductive Region where
  | normal (c l : Nat)
  | direct (c l : Nat)
  | seedbox (n off : Nat)
  | silo (n off : Nat)
  | spill (n off : Nat)
  | device
  | host (w off : Nat)
  | remote (pkg loc : Nat)
  | hole
deriving DecidableEq, Repr

/-- The Device ranges of Table 4-1, but for the holes between the words of GRN_GMASK. -/
def isDevice (pa : Nat) : Bool :=
  (0xF000000000 ≤ pa && pa ≤ 0xF000120003) ||
  (0xF100000000 ≤ pa && pa ≤ 0xF1000D003F && !(0xF1000D0000 ≤ pa && 12 ≤ pa % 16)) ||
  (0xF200000000 ≤ pa && pa ≤ 0xF203FFFFFF) || (0xF800000000 ≤ pa && pa ≤ 0xF807FFFFFF)

/-- The region of a local physical address, holes of R278 and closed windows of R93 included. -/
def State.localRegion (s : State) (pa : Nat) : Region :=
  if pa < granarySpan then
    let cl := interleave pa
    if s.chanNormal cl.1 then .normal cl.1 cl.2 else .hole
  else if 0x4000000000 ≤ pa && pa < 0x6400000000 then
    let c := (pa - 0x4000000000) / chanSpan
    if s.chanDirect c then .direct c ((pa - 0x4000000000) % chanSpan) else .hole
  else if 0x8000000000 ≤ pa && pa < 0x8002000000 then
    .seedbox ((pa - 0x8000000000) / 0x40000) ((pa - 0x8000000000) % 0x40000)
  else if 0x8100000000 ≤ pa && pa < 0x8108000000 then
    let n := (pa - 0x8100000000) / 0x100000
    let o := pa % 0x100000
    if o < 0x20000 then .silo n o
    else if 0x80000 ≤ o && o < 0xC0000 then .spill n (o - 0x80000) else .hole
  else if isDevice pa then .device
  else if 0x10000000000 ≤ pa && pa < 0x20000000000 then
    .host ((pa - 0x10000000000) / 0x40000000) (pa % 0x40000000)
  else .hole

/-- The region of a 56-bit physical address: bit 55 names a global address, whose bit 54 and bits [47:41]
are zero (R83). -/
def State.region (s : State) (pa : Nat) : Region :=
  if pa / 2 ^ 55 % 2 = 1 then
    if pa / 2 ^ 54 % 2 = 1 || pa / 2 ^ 41 % 128 ≠ 0 then .hole
    else .remote (pa / 2 ^ 48 % 64) (pa % 2 ^ 48)
  else if pa / 2 ^ 55 ≠ 0 then .hole
  else s.localRegion pa

/-- An address lies in a range whose accesses need not be naturally aligned (Tables 4-1 and 4-3): Normal and Local memory,
whether or not a member is withdrawn, and addresses outside every range. A closed channel-direct window keeps its type. -/
def mayMisalign (pa : Nat) : Bool :=
  pa / 2 ^ 55 % 2 = 0 &&
  !((0x4000000000 ≤ pa && pa < 0x6400000000) || (0x8100000000 ≤ pa && pa < 0x8108000000) || isDevice pa ||
    (0x10000000000 ≤ pa && pa < 0x20000000000))

/-- The silo and spill debug windows and every register window: R76 restricts them. -/
def restricted (pa : Nat) : Bool :=
  (0xF000000000 ≤ pa && pa ≤ 0xFFFFFFFFFF) || (0x8100000000 ≤ pa && pa < 0x8108000000)

/-! ### Sequencers and held direct accesses (R92, R282, R309) -/

/-- A channel's sequencer. -/
def State.seq (s : State) (c : Nat) : TillSeq := findD {} c s.granary.till

/-- A channel's sequencer, replaced. -/
def State.setSeq (s : State) (c : Nat) (q : TillSeq) : State :=
  { s with granary := { s.granary with till := put c q s.granary.till } }

/-- A direct access of a physical address must wait: a switch is in progress, or a till program is loaded and is not
performing the accesses that it held. -/
def State.directHeld (s : State) (pa : Nat) : Bool :=
  match s.region pa with
  | .direct c _ =>
    s.chanMove c = .toTill || s.chanMove c = .toWithdrawn || (s.on GRN_TILL_STAT.LOADED c && !(s.seq c).serving)
  | _ => false

/-- A direct access reaches its channel: where a till program is loaded it is held, behind those held before (R309). -/
def State.arrive (s : State) (pa : Nat) (x : Held) : State :=
  match s.region pa with
  | .direct c _ =>
    let q := s.seq c
    if !s.on GRN_TILL_STAT.LOADED c || q.serving || q.held.contains x then s else s.setSeq c { q with held := q.held ++ [x] }
  | _ => s

/-- A direct access of Drill or Harrow for a plot that a YIELD has let pass (notes/assumptions/24). -/
def State.admitted (s : State) (plot line pa : Nat) : Option Nat :=
  match s.region pa with
  | .direct c _ =>
    if s.chanMove c = .none && s.on GRN_TILL_STAT.LOADED c && (s.seq c).admitted.contains (plot, line) then some c else none
  | _ => none

/-- The stack of a channel is in self-refresh and accepts no access (R286). -/
def State.asleep (s : State) (c : Nat) : Bool := s.on GRN_STATE.SELFREF c

/-- An access of a physical address that must reach its channel waits there (R92, R282, R286, R309). -/
def State.accessHeld (s : State) (pa : Nat) : Bool :=
  s.directHeld pa ||
  match s.region pa with
  | .normal c _ => s.asleep c
  | .direct c _ => s.asleep c
  | _ => false

/-! ### How a channel access comes back -/

/-- The outcome that the command in progress names for its next channel access; the ones after it come back as they are. -/
def State.takeRes (s : State) : MemRes × State := (s.res, { s with res := .ok })

/-- A command's effect, whose first channel access comes back as `r` says (R288, Table 12-5). -/
def State.withRes (s : State) (r : MemRes) (f : State → State) : State := { f { s with res := r } with res := .ok }

/-! ### Granary lines -/

/-- The Granary memory, replaced. -/
def State.setMem (s : State) (m : List Host.Cell) : State := { s with granary := { s.granary with mem := m } }

/-- The poison bit of the line of a Granary key. -/
def State.poisoned (s : State) (key : Nat) : Bool := findD false (key / 64) s.granary.poison

/-- Set or clear the poison bit of the line of a Granary key. -/
def State.setPoison (s : State) (key : Nat) (b : Bool) : State :=
  { s with granary := { s.granary with poison := putD false (key / 64) b s.granary.poison } }

/-- Write bytes of one line of Granary under a mask: a write of the full 64 bytes clears poison, a partial
one leaves it (R289). -/
def State.writeGran (s : State) (key mask : Nat) (data : List Byte) : State :=
  let s := s.setMem (writeMasked s.granary.mem key mask data)
  if mask = fullMask then s.setPoison key false else s

/-- The address under which an error of a channel is recorded (R293): a Normal-region address in Member
state, a channel-direct address otherwise. -/
def State.errAddr (s : State) (c l : Nat) : Nat :=
  if s.f GRN_STATE.MODE c = 0 then normalAddr c l else 0x4000000000 + c * chanSpan + l

/-- An uncorrectable event at a channel (R292, R293): recorded when no record is held, else MORE; counted;
logged as GRANARY_UE. TYPE and SRC are those of GRN_ERR_INFO. A new record has no further events yet. -/
def State.granError (s : State) (c l type src : Nat) : State :=
  let pa := s.errAddr c l
  let s := if s.on GRN_ERR_INFO.VALID c then s.setOn GRN_ERR_INFO.MORE c true
    else (((((s.setF GRN_ERR_INFO.TYPE c type).setF GRN_ERR_INFO.SRC c src).setF GRN_ERR_ADDR.PA c (pa / 64)).setF
      GRN_ERR_TS.TS c s.now).setOn GRN_ERR_INFO.MORE c false).setOn GRN_ERR_INFO.VALID c true
  let info := s.f GRN_ERR_INFO.VALID c * 2 ^ 31 + s.f GRN_ERR_INFO.MORE c * 2 ^ 30
    + s.f GRN_ERR_INFO.SRC c * 2 ^ 16 + s.f GRN_ERR_INFO.TYPE c
  (s.bump GRN_UECNT.COUNT c).logEvent 0x0022 c noInst info pa 0

/-- What a read of one line of a channel brings back (R288, R289, Table 12-5): its bytes and the poison
indication, with the counters and the record that the way it came back calls for. -/
def State.granRead (s : State) (c l src : Nat) (res : MemRes) : (List Byte × Bool) × State :=
  let key := granKey c (l / 64 * 64)
  let data := readSpan s.granary.mem key 64
  match res with
  | .uncorrectable => ((data, true), s.granError c l 1 src)
  | .metadata => ((data, true), s.granError c l 2 src)
  | .linkFail =>
    ((data, true), ((s.bumpBy GRN_LINKCNT.RETRY c 3).bump GRN_LINKCNT.FAIL c).granError c l 3 src)
  | _ =>
    let s := match res with
      | .corrected => s.bump GRN_CECNT.COUNT c
      | .retried n => s.bumpBy GRN_LINKCNT.RETRY c n.val
      | _ => s
    if s.poisoned key then ((data, true), s.granError c l 6 src) else ((data, false), s)

/-- A write of one line, or part of it, to a channel (R288): after a fourth failed transfer the line is
written poisoned and recorded as TYPE 4. -/
def State.granWrite (s : State) (c l mask : Nat) (data : List Byte) (src : Nat) (res : MemRes) : State :=
  let key := granKey c (l / 64 * 64)
  let s := s.writeGran key mask data
  match res with
  | .linkFail =>
    (((s.setPoison key true).bumpBy GRN_LINKCNT.RETRY c 3).bump GRN_LINKCNT.FAIL c).granError c l 4 src
  | .retried n => s.bumpBy GRN_LINKCNT.RETRY c n.val
  | _ => s

/-! ### Arrays that a reset leaves undefined -/

/-- A byte of an array: what was written, else the free value of its undefined base, else 0. -/
def Sram.byte (a : Sram) (k : Nat) : Byte :=
  match find k a.cells with
  | some b => b
  | none =>
    match a.undef with
    | none => 0
    | some e => BitVec.ofNat 8 (Config.undefByte e k)

/-- Bytes of an array. -/
def Sram.read (a : Sram) (k : Nat) : Nat → List Byte
  | 0 => []
  | n + 1 => a.byte k :: a.read (k + 1) n

/-- Write one byte of an array; in a zeroed array a zero byte is not listed. -/
def Sram.set (a : Sram) (k : Nat) (b : Byte) : Sram :=
  { a with cells := if a.undef.isNone && b = 0 then drop k a.cells else put k b a.cells }

/-- Write bytes of an array under a mask. -/
def Sram.writeMasked (a : Sram) (k mask : Nat) : List Byte → Sram
  | [] => a
  | b :: r =>
    (if mask % 2 = 1 then a.set k b else a).writeMasked (k + 1) (mask / 2) r

/-- Write bytes of an array. -/
def Sram.write (a : Sram) (k : Nat) : List Byte → Sram
  | [] => a
  | b :: r => (a.set k b).write (k + 1) r

/-- An array with every byte zero. -/
def Sram.zeroed : Sram := { undef := none, cells := [] }

/-- An array of core n that nothing has written since a reset: free contents, a base of its own for each array and
core (notes/assumptions/8), or zero. -/
def freshArray (era : Option Nat) (n k : Nat) : Sram := { undef := era.map fun e => (e * 128 + n) * 4 + k }

/-- The seedbox of a core (R79). -/
def State.seed (s : State) (n : Nat) : Sram := findD (freshArray s.clk.era n 3) n s.seedbox

/-- The seedbox of a core, replaced. -/
def State.setSeed (s : State) (n : Nat) (a : Sram) : State := { s with seedbox := put n a s.seedbox }

end Sys2Proof.Machine
end

