-- ==== Sys2Proof/Machine/Coherence.lean ====
section
/-! DEFINITION. Normal memory through the caches (chapter 08): the furrow caches and home directories
(R196 to R200), the inclusion of the cores' L1D and side buffers (R198), and what agents without caches
read and write (R200). -/

namespace Sys2Proof.Machine

/-! ### Cores -/

/-- A core. -/
def State.core (s : State) (n : Nat) : Core := findD {} n s.cores

/-- A core, replaced. -/
def State.setCore (s : State) (n : Nat) (c : Core) : State := { s with cores := put n c s.cores }

/-- DEN of core n (R211): FUR_L1CTL of its furrow and position. -/
def State.den (s : State) (n : Nat) : Bool := s.on FUR_L1CTL.DEN n

/-- IEN of core n. -/
def State.ien (s : State) (n : Nat) : Bool := s.on FUR_L1CTL.IEN n

/-- The L1D index of a line (Table 8-1). -/
def l1dIndex (line : Nat) : Nat := line % 1024

/-- The L1I index of a line (Table 8-1). -/
def l1iIndex (line : Nat) : Nat := line % 512

/-- The L1D copy of a line. -/
def Core.l1dLine (c : Core) (line : Nat) : Option L1Line :=
  match find (l1dIndex line) c.l1d with
  | some x => if x.line = line then some x else none
  | none => none

/-- The side-buffer entry that holds a line. -/
def Core.sideSlot (c : Core) (line : Nat) : Option (Nat × SideLine) := c.side.find? fun x => x.2.line = line

/-- Remove a line from a core's L1D and side buffer. -/
def Core.dropLine (c : Core) (line : Nat) : Core :=
  { c with l1d := c.l1d.filter (fun x => x.2.line ≠ line), side := c.side.filter (fun x => x.2.line ≠ line) }

/-- A coherence invalidation reaches a core's L1D and side buffer, unless they are held still (R211). -/
def State.invalidateCore (s : State) (line n : Nat) : State :=
  if s.den n then s.setCore n ((s.core n).dropLine line) else s

/-- The caches behind the L1s: the sixteen furrow caches, and the Drill cache as number 16 (R186, R197). -/
def cacheIds : List Nat := List.range 17

/-- The cores behind a cache: eight of a furrow, four of the Drill cache. -/
def furrowCores (f : Nat) : List Nat := (List.range (if f < 16 then 8 else 4)).map (8 * f + ·)

/-- The copies in a furrow's L1Ds and side buffers go (R198). -/
def State.invalidateFurrow (s : State) (f line : Nat) : State :=
  (furrowCores f).foldl (fun s n => s.invalidateCore line n) s

/-! ### Furrow caches -/

/-- The sets of a cache: 4,096, of the Drill cache 1,024. -/
def fcSets (f : Nat) : Nat := if f < 16 then 4096 else 1024

/-- The set of a cache that a line maps to (Table 8-1). -/
def fcSet (f line : Nat) : Nat := line % fcSets f

/-- The key of a way. -/
def fcKey (f set way : Nat) : Nat := (f * 4096 + set) * 16 + way

/-- The line in a way. -/
def State.fcWay (s : State) (k : Nat) : Option FcLine := find k s.caches.fc

/-- The keys of a line's set, way 0 first. -/
def fcKeys (f line : Nat) : List Nat := (List.range 16).map (fcKey f (fcSet f line))

/-- Where furrow f's cache holds a line. -/
def State.fcFind (s : State) (f line : Nat) : Option (Nat × FcLine) :=
  (fcKeys f line).findSome? fun k =>
    match s.fcWay k with
    | some x => if x.line = line then some (k, x) else none
    | none => none

/-- The furrow caches, replaced. -/
def State.setFc (s : State) (fc : List (Nat × FcLine)) : State := { s with caches := { s.caches with fc := fc } }

/-- The furrow caches that hold a line. -/
def State.holders (s : State) (line : Nat) : List Nat :=
  cacheIds.filter fun f => (s.fcFind f line).isSome

/-- The channel and local address of a line of Normal memory. -/
def lineHome (line : Nat) : Nat × Nat := interleave (line * 64)

/-- The LRU clock advances. -/
def State.touchClock (s : State) : State :=
  { s with caches := { s.caches with clock := s.caches.clock + 1 } }

/-- A line's home directory serves a request for it (R199). -/
def State.dirTouch (s : State) (line : Nat) : State :=
  { s with caches := { s.caches with dir := put line s.caches.clock s.caches.dir, clock := s.caches.clock + 1 } }

/-- A request for a line that the directory tracks refreshes its place. -/
def State.dirUse (s : State) (line : Nat) : State := if (s.holders line).isEmpty then s else s.dirTouch line

/-- A use of a line in a cache refreshes its place in the exact LRU order (R196). -/
def State.fcUse (s : State) (f line : Nat) : State :=
  match s.fcFind f line with
  | none => s
  | some (k, x) => s.touchClock.setFc (put k { x with used := s.caches.clock + 1 } s.caches.fc)

/-- A dirty line is written to Granary, with its poison (R196, R289: TYPE 5, SRC write-back). -/
def State.writeBack (s : State) (x : FcLine) : State :=
  let (c, l) := lineHome x.line
  let (r, s) := s.takeRes
  let s := s.granWrite c l fullMask x.data 6 r
  if x.poison then (s.setPoison (granKey c l) true).granError c l 5 6 else s

/-- A furrow cache loses a line: its inclusion copies first, then the way (R198). -/
def State.fcDrop (s : State) (f k : Nat) (x : FcLine) : State :=
  let s := s.invalidateFurrow f x.line
  s.setFc (drop k s.caches.fc)

/-- A furrow cache evicts a way: written back first when dirty (R196). -/
def State.fcEvict (s : State) (f k : Nat) : State :=
  match s.fcWay k with
  | none => s
  | some x => (if x.st = .m then s.writeBack x else s).fcDrop f k x

/-- The key with the older last use. -/
def olderWay (s : State) (a b : Nat) : Nat :=
  match s.fcWay a, s.fcWay b with
  | some x, some y => if x.used ≤ y.used then a else b
  | _, _ => a

/-- The way that a fill takes: a free one, else the least recently used (R196). -/
def State.fcVictim (s : State) (f line : Nat) : Nat :=
  match (fcKeys f line).find? fun k => (s.fcWay k).isNone with
  | some k => k
  | none => (fcKeys f line).foldl (olderWay s) (fcKey f (fcSet f line) 0)

/-- One furrow gives up its copy of a line; dirty data is written back. -/
def State.recallFrom (s : State) (line f : Nat) : State :=
  match s.fcFind f line with
  | none => s
  | some (k, _) => s.fcEvict f k

/-- A line leaves every cache; dirty data is written to Granary (R199, R200). -/
def State.recall (s : State) (line : Nat) : State :=
  cacheIds.foldl (fun s f => s.recallFrom line f) s

/-- The dirty copy of a line, if a cache holds one: furrow, key, line. -/
def State.dirtyCopy (s : State) (line : Nat) : Option (Nat × Nat × FcLine) :=
  cacheIds.findSome? fun f =>
    match s.fcFind f line with
    | some (k, x) => if x.st = .m then some (f, k, x) else none
    | none => none

/-- A dirty copy is written to Granary and stays, in state `st`. -/
def State.cleanCopy (s : State) (line : Nat) (st : Mesi) : State :=
  match s.dirtyCopy line with
  | none => s
  | some (_, k, x) =>
    let s := s.writeBack x
    s.setFc (put k { x with st := st } s.caches.fc)

/-- Every copy of a line becomes shared. -/
def State.shareCopies (s : State) (line : Nat) : State :=
  s.setFc (s.caches.fc.map fun c => if c.2.line = line then (c.1, { c.2 with st := .s }) else c)

/-- The lines that the home directory of a line tracks in the line's set, one of 1,024 (R199). -/
def State.dirTracked (s : State) (line : Nat) : List (Nat × Nat) :=
  s.caches.dir.filter fun d =>
    (lineHome d.1).1 = (lineHome line).1 && Config.dirSet d.1 % 1024 = Config.dirSet line % 1024 &&
    d.1 ≠ line && (s.holders d.1) ≠ []

/-- The entry with the older time. -/
def olderEntry (a b : Nat × Nat) : Nat × Nat := if a.2 ≤ b.2 then a else b

/-- DIRECTORY_EVICTION (R199): when the set that must track a line is full, its least recently used line
leaves every cache first. -/
def State.dirRoom (s : State) (line : Nat) : State :=
  match s.dirTracked line with
  | [] => s
  | d :: r => if r.length + 1 < 16 then s else s.recall (r.foldl olderEntry d).1

/-- What the home answers for a line that no cache holds dirty: Granary's bytes, poisoned when an
uncorrectable tag lost the dirty copy (Table 8-6). -/
def State.homeRead (s : State) (line src : Nat) (res : MemRes) : (List Byte × Bool) × State :=
  let (c, l) := lineHome line
  let (d, s) := s.granRead c l src res
  ((d.1, d.2 || findD false line s.caches.lost), s)

/-- The newest bytes of a line and its poison, as an agent without a cache reads them (R200). -/
def State.coherentLine (s : State) (line src : Nat) (res : MemRes) : (List Byte × Bool) × State :=
  match s.dirtyCopy line with
  | some (_, _, x) => ((x.data, x.poison), s.dirUse line)
  | none => (s.dirUse line).homeRead line src res

/-- A full-line write makes a lost line good again (Table 8-6). -/
def State.clearLost (s : State) (line mask : Nat) : State :=
  if mask = fullMask then { s with caches := { s.caches with lost := drop line s.caches.lost } } else s

/-- A write by an agent without a cache: every cached copy goes, then Granary is written (R200). -/
def State.coherentWrite (s : State) (line mask : Nat) (data : List Byte) (src : Nat) : State :=
  let s := s.recall line
  let (c, l) := lineHome line
  let (r, s) := s.takeRes
  (s.granWrite c l mask data src r).clearLost line mask

/-- A line is installed in furrow f's cache, in the place of its victim, once its home directory has room
to track it (R196, R199). -/
def State.fcInstall (s : State) (f line : Nat) (st : Mesi) (data : List Byte) : State :=
  let s := s.dirRoom line
  let k := s.fcVictim f line
  let s := (s.fcEvict f k).dirTouch line
  s.setFc (put k { line := line, st := st, data := data, poison := false, used := s.caches.clock } s.caches.fc)

/-- Furrow f obtains a line for reading (R196, R197): its own copy, else that of another cache (a dirty one
is written back first, and all copies become shared), else Granary's. A line that comes back poisoned is
delivered and not kept (notes/assumptions/12). `src` is the SRC code of an error record. -/
def State.fcFetch (s : State) (f line src : Nat) (res : MemRes) : (List Byte × Bool) × State :=
  match s.fcFind f line with
  | some (k, x) =>
    let s := s.touchClock
    ((x.data, x.poison), s.setFc (put k { x with used := s.caches.clock } s.caches.fc))
  | none =>
    let s := (s.cleanCopy line .s).tally 0x010 f (if f < 16 then 1 else 0)
    match (s.holders line).findSome? fun g => s.fcFind g line with
    | some (_, y) =>
      if y.poison then ((y.data, true), s)
      else ((y.data, false), (s.shareCopies line).fcInstall f line .s y.data)
    | none =>
      let (d, s) := s.homeRead line src res
      if d.2 then (d, s) else (d, s.fcInstall f line .e d.1)

/-- A line that furrow f's cache lacks must be read from, or first be written back to, a channel that accepts no access
(R286). -/
def State.homeHeld (s : State) (f line : Nat) : Bool :=
  (s.fcFind f line).isNone && s.accessHeld (line * 64) && ((s.holders line).isEmpty || (s.dirtyCopy line).isSome)

/-- The line that would make room in furrow f's cache is dirty, and its channel accepts no access (R196, R286). -/
def State.victimHeld (s : State) (f line : Nat) : Bool :=
  (s.fcFind f line).isNone &&
  match s.fcWay (s.fcVictim f line) with
  | some x => x.st = .m && s.accessHeld (x.line * 64)
  | none => false

/-- Obtaining a line for furrow f's cache must wait. -/
def State.fetchHeld (s : State) (f line : Nat) : Bool := s.homeHeld f line || s.victimHeld f line

/-- Every other furrow cache loses its copy of a line. -/
def State.loseOthers (s : State) (f line : Nat) : State :=
  (cacheIds.filter (· ≠ f)).foldl (fun s g => s.recallFrom line g) s

/-- The copies in furrow f's L1Ds and side buffers go, but for core `keep` (R198). -/
def State.invalidateSiblings (s : State) (f line : Nat) (keep : Option Nat) : State :=
  ((furrowCores f).filter fun n => some n ≠ keep).foldl (fun s n => s.invalidateCore line n) s

/-- The line that furrow f's cache holds takes a write and becomes M, which its home directory grants where it was not;
a full write clears poison. -/
def State.fcModify (s : State) (f line mask : Nat) (data : List Byte) : State :=
  match s.fcFind f line with
  | none => s
  | some (k, x) =>
    let s := (if x.st = .m then s else s.dirTouch line).touchClock
    s.setFc (put k { x with st := .m, data := overlay mask x.data data, used := s.caches.clock,
                            poison := if mask = fullMask then false else x.poison } s.caches.fc)

/-- A write of a line, or part of it, at furrow f's cache, which becomes its coherence point (R191, R197,
R198): a partial write that misses first obtains the line, and is not done when the line comes back
poisoned; a full one allocates without reading Granary. Other furrows and the furrow's other L1Ds lose
their copies; `keep` is the core whose own copy stays. True: done. -/
def State.fcWrite (s : State) (f line mask : Nat) (data : List Byte) (keep : Option Nat) (res : MemRes) :
    Bool × State :=
  if (s.fcFind f line).isSome then
    (true, (((s.loseOthers f line).fcModify f line mask data).invalidateSiblings f line keep).clearLost line mask)
  else if mask = fullMask then
    (true, (((s.loseOthers f line).fcInstall f line .m data).invalidateSiblings f line keep).clearLost line mask)
  else
    let (d, s) := s.fcFetch f line 0 res
    if d.2 then (false, s)
    else (true, ((s.loseOthers f line).fcModify f line mask data).invalidateSiblings f line keep)

end Sys2Proof.Machine
end

