-- ==== Sys2Proof/Machine/Operands.lean ====
section
/-! DEFINITION. Operands and thread control: the registers of a thread context (R101, R102), when its
oldest instruction may run, how it retires or raises, and the instruction words (Table 5-6) that EADDR
reports. -/

namespace Sys2Proof.Machine

/-! ### Registers -/

/-- A general register: g0 reads as zero (R101). -/
def Thread.readG (t : Thread) (r : Reg5) : Word := if r.val = 0 then 0 else findD 0 r.val t.g

/-- Write a general register: a write to g0 is discarded (R101). -/
def Thread.writeG (t : Thread) (r : Reg5) (v : Word) : Thread :=
  if r.val = 0 then t else { t with g := putD 0 r.val v t.g }

/-- A floating register. -/
def Thread.readF (t : Thread) (r : Reg5) : Word := findD 0 r.val t.f

/-- Write a floating register. -/
def Thread.writeF (t : Thread) (r : Reg5) (v : Word) : Thread := { t with f := putD 0 r.val v t.f }

/-- A predicate: p0 reads as 1 (R101). -/
def Thread.readP (t : Thread) (p : Pred) : Bool := p.val = 0 || t.p.testBit p.val

/-- Write a predicate: a write to p0 is discarded (R101). -/
def Thread.writeP (t : Thread) (p : Pred) (b : Bool) : Thread :=
  if p.val = 0 then t else { t with p := setBit t.p p.val b }

/-- Write a result register. -/
def Thread.writeDest (t : Thread) (d : Dest) (v : Word) : Thread :=
  match d with
  | .g r => t.writeG r v
  | .f r => t.writeF r v

/-- XSPn and ENTRYn. -/
def Thread.xspOf (t : Thread) (n : Nat) : Word := findD 0 n t.xsp
def Thread.entryOf (t : Thread) (n : Nat) : Word := findD 0 n t.entry
def Thread.setXsp (t : Thread) (n : Nat) (v : Word) : Thread := { t with xsp := putD 0 n v t.xsp }
def Thread.setEntry (t : Thread) (n : Nat) (v : Word) : Thread := { t with entry := putD 0 n v t.entry }

/-! ### Threads in the state -/

/-- A thread context. -/
def State.thread (s : State) (h : Nat) : Thread := findD {} h s.threads

/-- A thread context, replaced. -/
def State.setThread (s : State) (h : Nat) (t : Thread) : State := { s with threads := put h t s.threads }

/-- A thread context, changed. -/
def State.modThread (s : State) (h : Nat) (f : Thread → Thread) : State := s.setThread h (f (s.thread h))

/-- The core of a thread (R13); 128 and above are Drill cores. -/
def coreOf (h : Nat) : Nat := h / 8

/-- The furrow of a core (R13). -/
def furrowOf (n : Nat) : Nat := n / 8

/-- A core is one of the four Drill cores (R99). -/
def drillCore (n : Nat) : Bool := decide (128 ≤ n)

/-- The four Drill cores. -/
def drillCores : List Nat := [128, 129, 130, 131]

/-- The threads of a core. -/
def coreThreads (n : Nat) : List Nat := (List.range 8).map (8 * n + ·)

/-- The core is locked up (R182). -/
def State.locked (s : State) (n : Nat) : Bool := s.bitF FUR_LOCKSTAT.LOCKED (n / 8) (n % 8)

/-- A core of the package is locked up: LOCKUP_N is driven low (R182, R185). -/
def State.anyLocked (s : State) : Bool := (List.range 17).any fun k => s.f FUR_LOCKSTAT.LOCKED k ≠ 0

/-- A dimension of the Acre, from its code of SWT_CFG (its size minus 1). -/
def State.swDim (s : State) (F : Fld) : Nat := s.f F 0 + 1

/-- The package's Acre number (R417): x + DX × (y + DY × z). -/
def State.ownPkg (s : State) : Nat :=
  s.f SWT_CFG.X 0 + s.swDim SWT_CFG.DX * (s.f SWT_CFG.Y 0 + s.swDim SWT_CFG.DY * s.f SWT_CFG.Z 0)

/-! ### Asynchronous events (R162, R163) -/

/-- The causes of Table 7-1 that are asynchronous, most urgent first: code and level. -/
def asyncCauses : List (Nat × Nat) := [(0x0C, 15), (0x40, 14), (0x41, 6), (0x42, 4), (0x43, 4)]

/-- An asynchronous event is pending for a thread (FUR_XPEND). -/
def State.asyncPending (s : State) (h code : Nat) : Bool :=
  if code = 0x0C then s.on FUR_XPEND.LSE h else s.bitF FUR_XPEND.SRC h (code - 0x40)

/-- Raise an interrupt source 0x40 to 0x43 in a thread: merged when already pending (R163). -/
def State.raiseAsync (s : State) (h code : Nat) : State := s.setBitF FUR_XPEND.SRC h (code - 0x40) true

/-- Some asynchronous event is pending, masked or not (R112). -/
def State.anyAsync (s : State) (h : Nat) : Bool := asyncCauses.any fun c => s.asyncPending h c.1

/-- The event that is delivered next (R162): GMASK and DFA 0, level above MLEVEL, highest level, then
lowest code; none during a step with NOINT (R537). -/
def State.asyncDue (s : State) (h : Nat) : Option (Nat × Nat) :=
  let t := s.thread h
  if t.gmask || t.dfa || (t.stepping && t.noint) then none
  else asyncCauses.find? fun c => s.asyncPending h c.1 && decide (t.mlevel < c.2)

/-! ### When an instruction runs -/

/-- The core issues instructions: it is not gated, locked, in a thread-group reset, or stopped by
THERM_CRIT, which stops compute cores only (R561). -/
def State.coreRuns (s : State) (n : Nat) : Bool :=
  !(s.core n).gated && !s.locked n && (find n s.clk.tg).isNone && (drillCore n || !s.on RV_THROT.CRIT 0)

/-- The thread can run its next instruction: it is running, nothing is in progress or raised in it, no
asynchronous event must be taken first (R162), no halt is due (R536). DESIGN CHOICE (notes/assumptions/67): a thread
performs one instruction at a time, so its loads in program order, where R89 lets a Normal load pass an older one. -/
def State.ready (s : State) (h : Nat) : Bool :=
  let t := s.thread h
  s.coreRuns (coreOf h) && t.mode = .running && t.hold = none && t.raised = none && !t.haltReq && !t.exited &&
  (s.asyncDue h).isNone

/-- The instruction at PC retires: INSTRET counts it, and a halt falls due after a single step (R537). -/
def Thread.retired (t : Thread) (pc : Word) : Thread :=
  { t with pc := pc, instret := (t.instret + 1) % 2 ^ 64, hold := none, haltReq := t.haltReq || t.stepping }

/-- A 32-bit instruction retires. -/
def Thread.next (t : Thread) : Thread := t.retired (t.pc + 4)

/-- A synchronous exception reaches RT (R140): nothing of the instruction is done. -/
def Thread.fault (t : Thread) (code : Nat) (eaddr : Word) : Thread :=
  { t with raised := some { code := code, epc := t.pc, eaddr := eaddr }, hold := none }

/-- An instruction that was in progress completes; in a core that has locked up meanwhile its result is dropped (R182). -/
def State.completes (s : State) (h : Nat) (f : Thread → Thread) : State :=
  s.modThread h fun t => if s.locked (coreOf h) then { t with hold := none } else f t

/-- Run the oldest instruction of a thread, if the thread can run one. -/
def State.instr (s : State) (h : Nat) (f : Thread → State → State) : Out :=
  .next (if s.ready h then f (s.thread h) s else s)

/-- An instruction that only changes its own context, then retires. -/
def State.scalar (s : State) (h : Nat) (f : Thread → Thread) : Out :=
  s.instr h fun t s => s.setThread h (f t).next

/-- An instruction that raises. -/
def State.fault (s : State) (h code : Nat) (eaddr : Word) : State := s.modThread h (·.fault code eaddr)

/-! ### Cause codes of Table 7-1 -/

def cFetchFault : Nat := 0x01
def cFetchNx : Nat := 0x02
def cIllegalOp : Nat := 0x03
def cRingViolation : Nat := 0x04
def cLoadFault : Nat := 0x05
def cStoreFault : Nat := 0x06
def cMisaligned : Nat := 0x07
def cTrap : Nat := 0x08
def cGateFault : Nat := 0x09
def cTileShape : Nat := 0x0A
def cTileArith : Nat := 0x0B
def cLateStore : Nat := 0x0C
def cXspInvalid : Nat := 0x0D
def cMaskedFault : Nat := 0x0E
def cDoubleFault : Nat := 0x0F
def cSiloGroup : Nat := 0x10
def cUncorrectable : Nat := 0x11
def cStopReq : Nat := 0x40
def cFrameTick : Nat := 0x41
def cBinderDone : Nat := 0x42
def cHarrowDone : Nat := 0x43

/-! ### Instruction words (Table 5-6), as EADDR reports them -/

/-- Format R. -/
def wordR (op gd gs1 gs2 fn : Nat) : Word :=
  BitVec.ofNat 64 (op * 2 ^ 26 + gd * 2 ^ 21 + gs1 * 2 ^ 16 + gs2 * 2 ^ 11 + fn)

/-- Format I. -/
def wordI (op gd gs1 imm : Nat) : Word := BitVec.ofNat 64 (op * 2 ^ 26 + gd * 2 ^ 21 + gs1 * 2 ^ 16 + imm)

/-- Format C. -/
def wordC (gd gs1 cmd csr : Nat) : Word :=
  BitVec.ofNat 64 (0x29 * 2 ^ 26 + gd * 2 ^ 21 + gs1 * 2 ^ 16 + cmd * 2 ^ 14 + csr)

/-- Format X. -/
def wordX (gd gs1 gs2 p fn : Nat) : Word :=
  BitVec.ofNat 64 (0x2A * 2 ^ 26 + gd * 2 ^ 21 + gs1 * 2 ^ 16 + gs2 * 2 ^ 11 + p * 2 ^ 8 + fn)

/-- Format XN. -/
def wordXN (n fn : Nat) : Word := BitVec.ofNat 64 (0x2A * 2 ^ 26 + n * 2 ^ 8 + fn)

end Sys2Proof.Machine
end

