-- ==== Sys2Proof/Machine/Access.lean ====
section
/-! DEFINITION. Virtual memory and access checks: the table walk (R84 to R87), the TLB of a core (R88, R146),
the order of checks of an access (R128, Table 4-10), and the parts of an access (R78, R94). -/

namespace Sys2Proof.Machine

/-! ### PTROOT and entries -/

/-- PTROOT.PLOT, PTROOT.ROOT as an address, and PTROOT.EN. -/
def Thread.plotTag (t : Thread) : Nat := t.ptroot.toNat / 2 ^ 55
def Thread.rootPa (t : Thread) : Nat := t.ptroot.toNat / 2 ^ 12 % 2 ^ 29 * 2 ^ 12
def Thread.transOn (t : Thread) : Bool := t.ptroot.toNat.testBit 0

/-- A virtual address whose bits [63:56] all equal bit 55. -/
def canonical (va : Word) : Bool := va.toNat / 2 ^ 56 = if va.toNat.testBit 55 then 255 else 0

/-- The 56 bits of a virtual address that translation uses. -/
def va56 (va : Word) : Nat := va.toNat % 2 ^ 56

/-- Fields of a translation table entry (Table 4-6). -/
def entPa (e : Nat) : Nat := e / 2 ^ 12 % 2 ^ 44 * 2 ^ 12
def entRmax (e : Nat) : Nat := e / 32 % 4
def entV (e : Nat) : Bool := e.testBit 0
def entLeaf (e : Nat) : Bool := e.testBit 1
def entW (e : Nat) : Bool := e.testBit 2
def entNx (e : Nat) : Bool := e.testBit 3
def entNxp (e : Nat) : Bool := e.testBit 4
def entUc (e : Nat) : Bool := e.testBit 7
def entA (e : Nat) : Bool := e.testBit 8
def entD (e : Nat) : Bool := e.testBit 9
def entCont (e : Nat) : Bool := e.testBit 10

/-- V = 1 and every reserved bit zero (Table 4-10; notes/assumptions/13). -/
def entGood (e : Nat) : Bool := entV e && e / 2 ^ 56 = 0 && !e.testBit 11

/-- The levels of a walk, root first (Table 4-5). -/
def walkLevels : List Nat := [4, 3, 2, 1, 0]

/-- The table index of a virtual address at a level. -/
def walkIndex (v l : Nat) : Nat := v / 2 ^ (12 + 9 * l) % (if l = 4 then 256 else 512)

/-- A table entry, read as Normal memory through furrow f's cache (R84); none for an address that the
Granary memory region does not serve, and for an uncorrectable error (R95). -/
def State.entryAt (s : State) (f pa : Nat) (res : MemRes) : Option Nat × State :=
  match s.region pa with
  | .normal .. =>
    let (d, s) := s.fcFetch f (pa / 64) 1 res
    (if d.2 then none else some (leNat ((d.1.drop (pa % 64)).take 8)), s)
  | _ => (none, s)

/-- A walk from a table through the levels left: the address and value of the leaf entry, and log2 of the
bytes it maps; none where the walk faults (Table 4-10). -/
def State.walkFrom (s : State) (f v : Nat) (res : MemRes) (table : Nat) : List Nat →
    Option (Nat × Nat × Nat) × State
  | [] => (none, s)
  | l :: ls =>
    match s.entryAt f (table + 8 * walkIndex v l) res with
    | (none, s) => (none, s)
    | (some e, s) =>
      if !entGood e then (none, s)
      else if entLeaf e then
        if 3 ≤ l || entPa e % 2 ^ (12 + 9 * l) ≠ 0 then (none, s)
        else (some (table + 8 * walkIndex v l, e, 12 + 9 * l), s)
      else s.walkFrom f v res (entPa e) ls

/-- The walk for a thread. -/
def State.walk (s : State) (h : Nat) (va : Word) (res : MemRes) : Option (Nat × Nat × Nat) × State :=
  s.walkFrom (furrowOf (coreOf h)) (va56 va) res (s.thread h).rootPa walkLevels

/-- The leaf with A set, and D for a store (R86). -/
def entUsed (e : Nat) (store : Bool) : Nat := setBit (if store then setBit e 9 true else e) 8 true

/-- The walker's write of a leaf entry, at the furrow cache. -/
def State.writeEntry (s : State) (h pa e : Nat) : State :=
  (s.fcWrite (furrowOf (coreOf h)) (pa / 64) (maskOf (pa % 64) 8)
    (List.replicate (pa % 64) 0 ++ leBytes 8 e) none .ok).2

/-! ### The TLB -/

/-- Entries of a core's instruction TLB and data TLB, and ways of a set of the second level (R146). The order of
replacement is the model's (notes/assumptions/14). -/
def itlbMax : Nat := 32
def dtlbMax : Nat := 64
def tlbWays : Nat := 4

/-- The TLB that an access looks at first: the instruction TLB or the data TLB. -/
def Core.firstTlb (c : Core) (fetch : Bool) : List TlbEntry := if fetch then c.itlb else c.dtlb

/-- The TLB entry of a plot that covers a virtual address: of the first TLB, else of the second level. -/
def Core.tlbFind (c : Core) (fetch : Bool) (plot v : Nat) : Option TlbEntry :=
  (c.firstTlb fetch ++ c.tlb).find? fun e => e.plot = plot && v / 2 ^ e.span = e.base

/-- The TLB entry of a leaf: a leaf with CONT covers 64 KiB (R87, R146). -/
def tlbEntryOf (plot v leaf span : Nat) : TlbEntry :=
  let span' := if entCont leaf && span = 12 then 16 else span
  { plot := plot, base := v / 2 ^ span', span := span', leaf := leaf,
    pa := entPa leaf - (v % 2 ^ span' - v % 2 ^ span) }

/-- Two entries cover the same addresses of a plot. -/
def TlbEntry.same (a b : TlbEntry) : Bool := a.plot = b.plot && a.base = b.base && a.span = b.span

/-- The set of the second level that an entry belongs to, one of 256. -/
def TlbEntry.set (e : TlbEntry) : Nat := Config.tlbSet e.plot e.base % 256

/-- Put an entry first in a fully associative TLB. -/
def tlbPut (max : Nat) (e : TlbEntry) (l : List TlbEntry) : List TlbEntry := (e :: l.filter fun x => !x.same e).take max

/-- Put an entry first in its set of the second level. -/
def tlbPutSet (e : TlbEntry) (l : List TlbEntry) : List TlbEntry :=
  e :: ((l.filter fun x => x.set = e.set && !x.same e).take (tlbWays - 1) ++ l.filter fun x => x.set ≠ e.set)

/-- Install the translation that a walk has brought, in the first TLB of the access and in the second level. -/
def State.tlbInstall (s : State) (n : Nat) (fetch : Bool) (e : TlbEntry) : State :=
  let c := s.core n
  s.setCore n { c with itlb := if fetch then tlbPut itlbMax e c.itlb else c.itlb.filter (fun x => !x.same e),
                       dtlb := if fetch then c.dtlb.filter (fun x => !x.same e) else tlbPut dtlbMax e c.dtlb,
                       tlb := tlbPutSet e c.tlb }

/-- Invalidate a core's translations of one address of a plot, or all of the plot's (R88). -/
def State.tlbInvalidate (s : State) (n plot : Nat) (va : Option Word) : State :=
  let keeps (e : TlbEntry) : Bool :=
    !(e.plot = plot && match va with | none => true | some a => va56 a / 2 ^ e.span = e.base)
  let c := s.core n
  s.setCore n { c with itlb := c.itlb.filter keeps, dtlb := c.dtlb.filter keeps, tlb := c.tlb.filter keeps }

/-! ### Access checks -/

/-- The cause of a failed access (Table 4-10). -/
def Access.fault (a : Access) : Nat :=
  match a with
  | .fetch => cFetchFault
  | .store => cStoreFault
  | _ => cLoadFault

/-- The plot of a thread: the plot that leases its core, 0 when none does (CSR THREAD). -/
def State.plotOf (s : State) (h : Nat) : Nat := (s.core (coreOf h)).lease.getD 0

/-- A leaf allows an access from a ring (R85). -/
def leafAllows (e ring : Nat) (a : Access) : Bool :=
  decide (ring ≤ entRmax e) && (a ≠ .store || entW e)

/-- What translating one address gives: a physical address with its leaf (none while translation is off), a
TLB miss, or an address that is not canonical. -/
inductive Look where
  | pa (pa : Nat) (leaf : Option Nat)
  | miss
  | bad
deriving DecidableEq, Repr

/-- Translate one address through the TLBs, with the rights of a ring. A store that a leaf allows and whose D is 0 needs
the walker. -/
def State.lookAs (s : State) (h ring : Nat) (va : Word) (a : Access) : Look :=
  let t := s.thread h
  if !t.transOn then (if va.toNat < 2 ^ 56 then .pa va.toNat none else .bad)
  else if !canonical va then .bad
  else
    match (s.core (coreOf h)).tlbFind (a = .fetch) t.plotTag (va56 va) with
    | none => .miss
    | some e =>
      if a = .store && leafAllows e.leaf ring a && !entD e.leaf then .miss
      else .pa (e.pa + va56 va % 2 ^ e.span) (some e.leaf)

/-- Translate one address with the rights of the thread's ring. -/
def State.look (s : State) (h : Nat) (va : Word) (a : Access) : Look := s.lookAs h (s.thread h).ring va a

/-- R76: a window that, of the threads, only plot 0's ring 0 and the Drill cores reach. -/
def State.refused (s : State) (h ring pa : Nat) : Bool :=
  restricted pa && !(drillCore (coreOf h) || (s.plotOf h = 0 && ring = 0))

/-- A translated address is refused: R97 with translation off, the leaf, or R76. -/
def State.denied (s : State) (h ring : Nat) (a : Access) (pa : Nat) (leaf : Option Nat) : Bool :=
  (match leaf with
   | none => ring ≠ 0
   | some e => !leafAllows e ring a) || s.refused h ring pa

/-- The parts of an access that cross no 64-byte line. -/
def splitSpan (a n : Nat) : List (Nat × Nat) :=
  let k := 64 - a % 64
  if n ≤ k then [(a, n)] else [(a, k), (a + k, n - k)]

/-- What an access resolves to before it is performed. -/
inductive Resolved where
  | parts (l : List Part)
  | walk (va : Word)
  | fault (code : Nat)
deriving DecidableEq, Repr

/-- Device memory (Table 4-3): accesses of 4 or 8 bytes. -/
def Region.isDeviceType : Region → Bool
  | .device => true
  | .silo .. => true
  | .spill .. => true
  | _ => false

/-- An access of `n` bytes at `va`, whose part lies at the physical address `pa`, is MISALIGNED (Table 4-10): not naturally
aligned where the type asks for it, or narrower than a Device access (Table 4-3). -/
def State.misaligned (s : State) (va n pa : Nat) : Bool :=
  (!mayMisalign pa && va % n ≠ 0) || ((s.region pa).isDeviceType && n < 4)

/-- Resolve an access of `n` bytes: MISALIGNED wherever the type of a part is known, then translation, permission and R76,
and for a load decode errors, in the order of R128. -/
def State.resolve (s : State) (h : Nat) (va : Word) (n : Nat) (a : Access) : Resolved :=
  let t := s.thread h
  let looks := (splitSpan va.toNat n).map fun p => (p, s.look h (BitVec.ofNat 64 p.1) a)
  let ps := looks.filterMap fun x =>
    match x.2 with
    | .pa p leaf => some (p, x.1.2, leaf)
    | _ => none
  if ps.any fun p => s.misaligned va.toNat n p.1 then .fault cMisaligned
  else if looks.any fun x => x.2 = .bad then .fault a.fault
  else
    match looks.find? fun x => x.2 = .miss with
    | some x => .walk (BitVec.ofNat 64 x.1.1)
    | none =>
      if ps.any fun p => s.denied h t.ring a p.1 p.2.2 then .fault a.fault
      else if a = .load && ps.any fun p => s.region p.1 = .hole then .fault cLoadFault
      else .parts (ps.map fun p => { pa := p.1, len := p.2.1, uc := (p.2.2.map entUc).getD false })

/-- Table walks in progress in a core; each core has two walkers (R146). -/
def State.walksIn (s : State) (n : Nat) : Nat :=
  ((coreThreads n).filter fun h =>
    match (s.thread h).hold with
    | some (.walk ..) => true
    | _ => false).length

/-- A translation with a ring's rights must wait for one of the core's two walkers. -/
def State.walkWaits (s : State) (h ring : Nat) (va : Word) (a : Access) : Bool :=
  s.lookAs h ring va a = .miss && decide (2 ≤ s.walksIn (coreOf h))

/-- Translate at once, walking where the TLB misses: frame pushes and reads, gate table reads and fetches (R106, R168,
R171). `ring` is the rights in force; `rmax` says whether RMAX applies. -/
def State.translateNow (s : State) (h : Nat) (va : Word) (a : Access) (ring : Nat) (rmax : Bool) (res : MemRes) :
    Option (Nat × Bool) × State :=
  let t := s.thread h
  let n := coreOf h
  let ok (e : Nat) : Bool := (!rmax || decide (ring ≤ entRmax e)) && (a ≠ .store || entW e)
  match s.lookAs h ring va a with
  | .bad => (none, s)
  | .pa pa none => (if ring = 0 && !s.refused h ring pa then some (pa, false) else none, s)
  | .pa pa (some e) => (if ok e && !s.refused h ring pa then some (pa, entUc e) else none, s)
  | .miss =>
    match s.walk h va res with
    | (none, s) => (none, s)
    | (some (at', e, span), s) =>
      if !ok e then (none, s)
      else
        let e' := entUsed e (a = .store)
        let s := if e' = e then s else s.writeEntry h at' e'
        let s := s.tlbInstall n (a = .fetch) (tlbEntryOf t.plotTag (va56 va) e' span)
        let pa := entPa e + va56 va % 2 ^ span
        (if s.refused h ring pa then none else some (pa, entUc e), s)

/-! ### Holding an instruction -/

/-- What the oldest unretired instruction of a thread waits for. -/
def State.setHold (s : State) (h : Nat) (w : Option Hold) : State := s.modThread h fun t => { t with hold := w }

/-- A TLB miss starts a table walk when one of the core's two walkers is free, else the access waits: the
walker reads the entries down to the leaf. -/
def State.startWalk (s : State) (h : Nat) (va ea : Word) (a : Access) (len : Nat) (txn : Bool) : State :=
  if s.walksIn (coreOf h) < 2 then
    match (s.walk h va .ok).1 with
    | some (at', e, _) => s.setHold h (some (.walk va ea a len txn at' e))
    | none => s.setHold h (some (.walk va ea a len txn 0 0))
  else s

/-- A walk fails: the instruction raises, or a PF is dropped (R120). -/
def State.walkFault (s : State) (h : Nat) (ea : Word) (a : Access) : State :=
  if a = .pf then s.modThread h (·.next) else s.fault h a.fault ea

/-- A leaf does not allow the access: MISALIGNED comes first where the type of its page asks for alignment (R128). -/
def State.walkDenied (s : State) (h : Nat) (ea : Word) (a : Access) (len pa : Nat) : State :=
  if len ≠ 0 && s.misaligned ea.toNat len pa then s.fault h cMisaligned ea else s.walkFault h ea a

/-- The walk of a TABLE_WALK reads an entry from a channel that accepts no access yet (R286). -/
def State.walkAsleep (s : State) (h : Nat) (va : Word) : Bool :=
  match (s.walk h va .ok).1 with
  | some (at', _, _) => s.accessHeld at' && (s.holders (at' / 64)).isEmpty
  | none => false

/-- TABLE_WALK (R84 to R86): the walk ends. It is restarted when the leaf entry changed since the walker
read it and A or D must be set; else A, and D for a store, are set, the translation enters the TLB, and the
access is tried again. -/
def execTableWalk (h : Tid) (res : MemRes) (s : State) : Out :=
  .next <|
    match (s.thread h).hold with
    | some (.walk va ea a len txn at0 e0) =>
      if s.walkAsleep h va then s
      else
        let t := s.thread h
        match s.walk h va res with
        | (none, s) => s.walkFault h ea a
        | (some (at', e, span), s) =>
          if !leafAllows e t.ring a then s.walkDenied h ea a len (entPa e + va56 va % 2 ^ span)
          else
            let e' := entUsed e (a = .store)
            if e' = e then
              (s.tlbInstall (coreOf h) (a = .fetch) (tlbEntryOf t.plotTag (va56 va) e span)).setHold h none
            else if at' = at0 && e = e0 then
              ((s.writeEntry h at' e').tlbInstall (coreOf h) (a = .fetch)
                (tlbEntryOf t.plotTag (va56 va) e' span)).setHold h none
            else s.setHold h (some (.walk va ea a len txn at' e))
    | _ => s

end Sys2Proof.Machine
end

