-- ==== Sys2Proof/Machine/LoadStore.lean ====
section
/-! DEFINITION. Loads, stores, prefetches and atomics up to the point where they leave the core (R120, R121,
R141, R144, R145, R187 to R194): the merging buffer, the L1D, the side buffer, and what a thread holds until
its transaction returns. -/

namespace Sys2Proof.Machine

/-! ### Transactions (R149, R150) -/

/-- The transactions that an instruction in progress has reserved: one from IS until its data or acknowledgement returns;
a set-and-way CMO reserves none. -/
def Hold.txns (w : Hold) : Nat :=
  match w with
  | .walk _ _ _ _ txn _ _ => if txn then 1 else 0
  | .l1miss _ => 1
  | .l1busy _ => 1
  | .overlap .. => 1
  | .load _ => 1
  | .atomic _ => 1
  | .cmo op => if op.setWay then 0 else 1
  | _ => 0

/-- The transactions that a thread holds. -/
def State.txns (s : State) (h : Nat) : Nat :=
  let t := s.thread h
  t.posted.length + ((s.core (coreOf h)).pfs.filter fun p => p.2 = h).length + (t.hold.map Hold.txns).getD 0

/-- A thread may reserve a transaction: 8 a thread, 32 a core (Table 6-5). -/
def State.txnFree (s : State) (h : Nat) : Bool :=
  decide (s.txns h < 8) && decide (((coreThreads (coreOf h)).map s.txns).sum < 32)

/-! ### The merging buffer (R190 to R193) -/

/-- The first part of an access. -/
def firstPart : List Part → Part
  | [] => { pa := 0, len := 0, uc := true }
  | p :: _ => p

/-- A line image: bytes at their place in a line. -/
def lineImage (off : Nat) (bytes : List Byte) : List Byte :=
  List.replicate off 0 ++ bytes ++ List.replicate (64 - off - bytes.length) 0

/-- Mark entries: they close to further merging. -/
def markEntries (p : MbEntry → Bool) (es : List MbEntry) : List MbEntry :=
  es.map fun e => if p e then { e with closed := true } else e

/-- Close every entry. -/
def closeAll (es : List MbEntry) : List MbEntry := markEntries (fun _ => true) es

/-- Close the oldest open entry. -/
def closeOldest : List MbEntry → List MbEntry
  | [] => []
  | e :: r => if e.closed then e :: closeOldest r else { e with closed := true } :: r

/-- The open entry that a store may merge into. -/
def MbEntry.takes (e : MbEntry) (kind : MbKind) (line : Nat) : Bool := !e.closed && e.line = line && e.kind = kind

/-- Bytes of one line enter the merging buffer (R190): merged into the line's open entry, else in a new one.
An entry whose mask is full closes, and with 8 or more entries present the oldest open one closes, and then the next
(R191; notes/assumptions/15). -/
def Core.mbPut (c : Core) (kind : MbKind) (line off : Nat) (bytes : List Byte) (h : Nat) : Core :=
  let mask := maskOf off bytes.length
  let img := lineImage off bytes
  let c : Core :=
    if c.mbuf.any (·.takes kind line) then
      { c with mbuf := c.mbuf.map fun e =>
          if e.takes kind line then
            let m := e.mask ||| mask
            { e with data := overlay mask e.data img, mask := m, closed := m = fullMask,
                     threads := if e.threads.contains h then e.threads else e.threads ++ [h] }
          else e }
    else
      { c with mbNext := c.mbNext + 1,
               mbuf := c.mbuf ++ [{ num := c.mbNext, line := line, kind := kind, data := img, mask := mask,
                                    closed := mask = fullMask, threads := [h] }] }
  if 8 ≤ c.mbuf.length then { c with mbuf := closeAll c.mbuf } else c

/-- The entries, oldest first, that hold some byte of a span of a line. -/
def Core.mbOver (c : Core) (line mask : Nat) : List MbEntry :=
  c.mbuf.filter fun e => e.line = line && (e.mask &&& mask) ≠ 0

/-- Mark the entries of a core that satisfy `p`. -/
def State.markMb (s : State) (n : Nat) (p : MbEntry → Bool) : State :=
  let c := s.core n
  s.setCore n { c with mbuf := markEntries p c.mbuf }

/-- Mark every entry that is present (R193). -/
def State.markAll (s : State) (n : Nat) : State := s.markMb n fun _ => true

/-- Mark the entries of a line. -/
def State.markLine (s : State) (n line : Nat) : State := s.markMb n fun e => e.line = line

/-- The merging-buffer bytes of a line laid over a copy of it (R189). -/
def Core.mergeMb (c : Core) (line : Nat) (data : List Byte) : List Byte :=
  (c.mbuf.filter fun e => e.line = line).foldl (fun d e => overlay e.mask d e.data) data

/-- The merging-buffer type of a region; a hole is drained, and fails, by its range (notes/assumptions/16). -/
def mbKind? (r : Region) (pa : Nat) (uc : Bool) : Option MbKind :=
  match r with
  | .normal .. => some (if uc then .local' else .normal)
  | .seedbox .. => some .local'
  | .direct .. => some .direct
  | .hole => if isDevice pa || (0x8100000000 ≤ pa && pa < 0x8108000000) || 2 ^ 55 ≤ pa then none
             else some (if pa < granarySpan then .normal else .direct)
  | _ => none

/-! ### Loads -/

/-- What a core can say at once of one part of a load. -/
inductive PartLook where
  | data (b : List Byte)
  | overlap
  | l1miss (line : Nat)
  | busy
  | outside
deriving DecidableEq, Repr

/-- Bytes from a line. -/
def lineSlice (data : List Byte) (pa len : Nat) : List Byte := (data.drop (pa % 64)).take len

/-- One part of a load at MA: the merging buffer first (R192), unless the load has waited for its entries (`past`), then
the L1D and the side buffer (R187), or the own seedbox; everything else leaves the core (R150). -/
def State.partLook (s : State) (n : Nat) (past : Bool) (p : Part) : PartLook :=
  let c := s.core n
  let line := p.pa / 64
  let r := s.region p.pa
  let want := maskOf (p.pa % 64) p.len
  let covered := if !past && (mbKind? r p.pa p.uc).isSome then c.mbOver line want else []
  match covered.getLast? with
  | some e => if e.mask &&& want = want then .data (lineSlice e.data p.pa p.len) else .overlap
  | none =>
    match r with
    | .normal .. =>
      if p.uc || !s.den n then .outside
      else if c.fill.isSome then .busy
      else
        match c.l1dLine line with
        | some x => .data (lineSlice x.data p.pa p.len)
        | none =>
          match c.sideSlot line with
          | some x => .data (lineSlice x.2.data p.pa p.len)
          | none => .l1miss line
    | .seedbox m off => if m = n then .data ((s.seed n).read off p.len) else .outside
    | _ => .outside

/-- The value that a load of `bytes` writes. -/
def loadValue (op : LoadOp) (bytes : List Byte) : Word :=
  let v := leNat bytes
  let w := 8 * bytes.length
  if op.signed && 2 ^ (w - 1) ≤ v then BitVec.ofInt 64 ((v : Int) - 2 ^ w) else BitVec.ofNat 64 v

/-- A load completes: its destination takes the value, and it retires. -/
def State.finishLoad (s : State) (h : Nat) (op : LoadOp) (bytes : List Byte) : State :=
  s.modThread h fun t => (t.writeDest op.dest (loadValue op bytes)).next

/-- Write a line into the L1D, over the one of its index (Table 8-1). -/
def Core.l1dWrite (c : Core) (line : Nat) (data : List Byte) : Core :=
  { c with l1d := put (l1dIndex line) { line := line, data := data } c.l1d }

/-- A load that hits a side-buffer line moves it into the L1D and frees the entry (R194). -/
def State.sideMove (s : State) (n line : Nat) : State :=
  let c := s.core n
  if !s.den n || (c.l1dLine line).isSome then s
  else
    match c.sideSlot line with
    | none => s
    | some x => s.setCore n { (c.l1dWrite line x.2.data) with side := drop x.1 c.side }

/-- The data of a part, where it is known. -/
def PartLook.bytes : PartLook → List Byte
  | .data b => b
  | _ => []

/-- The line of a part that misses the L1. -/
def PartLook.missed : PartLook → Option Nat
  | .l1miss l => some l
  | _ => none

/-- The numbers of the entries that hold bytes of a load without holding a part of it whole. -/
def Core.overlapped (c : Core) (looks : List (Part × PartLook)) : List Nat :=
  (looks.filter fun x => x.2 = .overlap).flatMap fun x =>
    (c.mbOver (x.1.pa / 64) (maskOf (x.1.pa % 64) x.1.len)).map (·.num)

/-- A load is performed, or waits for what it needs: merging-buffer entries, the L1 port, the fill of a line that misses,
then what lies outside the L1. -/
def State.tryLoad (s : State) (h : Nat) (op : LoadOp) : State :=
  let n := coreOf h
  let looks := op.parts.map fun p => (p, s.partLook n op.past p)
  if looks.any fun x => x.2 = .overlap then
    let marked := (s.core n).overlapped looks
    (s.markMb n fun e => marked.contains e.num).setHold h (some (.overlap op marked))
  else if looks.any fun x => x.2 = .busy then s.setHold h (some (.l1busy op))
  else
    match looks.findSome? fun x => x.2.missed with
    | some line => ((s.setCore n { s.core n with fill := some line }).setHold h (some (.l1miss op))).tally 0x006 n 1
    | none =>
      if looks.any fun x => x.2 = .outside then s.setHold h (some (.load op))
      else
        let s := op.parts.foldl (fun s p => s.sideMove n (p.pa / 64)) s
        s.finishLoad h op (looks.flatMap fun x => x.2.bytes)

/-- Count an L1 error of core n (Table 8-6): FUR_ECCCNT of its furrow; the Drill cores have no such register. -/
def State.countL1 (s : State) (n : Nat) : State := if drillCore n then s else s.bump FUR_ECCCNT.L1 (furrowOf n)

/-- A parity error of the L1D or side-buffer entry of a load (Table 8-6): the line is invalidated and
counted, and the core's merging-buffer entries of the line drain before it is fetched again. -/
def State.parityMiss (s : State) (n : Nat) (op : LoadOp) : State :=
  let hit := op.parts.filter fun p =>
    match s.region p.pa with
    | .normal .. => !p.uc && s.den n && ((s.core n).l1dLine (p.pa / 64)).isSome ||
        (!p.uc && s.den n && ((s.core n).sideSlot (p.pa / 64)).isSome)
    | _ => false
  match hit with
  | [] => s
  | _ =>
    (hit.foldl (fun s p => (s.setCore n ((s.core n).dropLine (p.pa / 64))).markLine n (p.pa / 64)) s).countL1 n

/-- A load instruction. `par` says that the L1D or side-buffer entry that it reads fails its parity. -/
def State.loadInstr (s : State) (h : Nat) (gs1 : Reg5) (imm : BitVec 16) (len : Nat) (signed : Bool)
    (dest : Dest) (par : Bool) : Out :=
  s.instr h fun t s =>
    if !s.txnFree h then s
    else
      let va := t.readG gs1 + imm.signExtend 64
      match s.resolve h va len .load with
      | .fault code => s.fault h code va
      | .walk a => s.startWalk h a va .load len true
      | .parts ps =>
        let op : LoadOp := { va := va, parts := ps, dest := dest, signed := signed }
        if par then
          let s := s.parityMiss (coreOf h) op
          match ((s.core (coreOf h)).mbuf.filter fun e => op.parts.any fun p => e.line = p.pa / 64).map (·.num) with
          | [] => s.tryLoad h op
          | marked => s.setHold h (some (.overlap op marked))
        else s.tryLoad h op

def execLb (h : Tid) (gd gs1 : Reg5) (imm : BitVec 16) (par : Bool) (s : State) : Out :=
  s.loadInstr h gs1 imm 1 true (.g gd) par
def execLbu (h : Tid) (gd gs1 : Reg5) (imm : BitVec 16) (par : Bool) (s : State) : Out :=
  s.loadInstr h gs1 imm 1 false (.g gd) par
def execLh (h : Tid) (gd gs1 : Reg5) (imm : BitVec 16) (par : Bool) (s : State) : Out :=
  s.loadInstr h gs1 imm 2 true (.g gd) par
def execLhu (h : Tid) (gd gs1 : Reg5) (imm : BitVec 16) (par : Bool) (s : State) : Out :=
  s.loadInstr h gs1 imm 2 false (.g gd) par
def execLw (h : Tid) (gd gs1 : Reg5) (imm : BitVec 16) (par : Bool) (s : State) : Out :=
  s.loadInstr h gs1 imm 4 true (.g gd) par
def execLwu (h : Tid) (gd gs1 : Reg5) (imm : BitVec 16) (par : Bool) (s : State) : Out :=
  s.loadInstr h gs1 imm 4 false (.g gd) par
def execLd (h : Tid) (gd gs1 : Reg5) (imm : BitVec 16) (par : Bool) (s : State) : Out :=
  s.loadInstr h gs1 imm 8 false (.g gd) par
/-- FLH and FLW write zero to the upper bits (R102). -/
def execFlh (h : Tid) (fd gs1 : Reg5) (imm : BitVec 16) (par : Bool) (s : State) : Out :=
  s.loadInstr h gs1 imm 2 false (.f fd) par
def execFlw (h : Tid) (fd gs1 : Reg5) (imm : BitVec 16) (par : Bool) (s : State) : Out :=
  s.loadInstr h gs1 imm 4 false (.f fd) par
def execFld (h : Tid) (fd gs1 : Reg5) (imm : BitVec 16) (par : Bool) (s : State) : Out :=
  s.loadInstr h gs1 imm 8 false (.f fd) par

/-! ### Stores -/

/-- A store that hits the L1D or the side buffer updates that copy (R188), and uses the side-buffer entry (R194). -/
def Core.l1Update (c : Core) (line mask : Nat) (img : List Byte) (now : Nat) : Core :=
  { c with l1d := c.l1d.map (fun x => if x.2.line = line then (x.1, { x.2 with data := overlay mask x.2.data img }) else x),
           side := c.side.map (fun x =>
             if x.2.line = line then (x.1, { x.2 with data := overlay mask x.2.data img, used := now }) else x) }

/-- One part of a store enters the merging buffer, and the L1 copies of Normal memory. -/
def State.storePart (s : State) (h : Nat) (pa : Nat) (uc : Bool) (bytes : List Byte) : State :=
  let n := coreOf h
  match mbKind? (s.region pa) pa uc with
  | none => s
  | some kind =>
    let c := (s.core n).mbPut kind (pa / 64) (pa % 64) bytes h
    if kind = .normal && s.den n && ((c.sideSlot (pa / 64)).isSome || (c.l1dLine (pa / 64)).isSome) then
      (s.setCore n (c.l1Update (pa / 64) (maskOf (pa % 64) bytes.length) (lineImage (pa % 64) bytes)
        (s.caches.clock + 1))).touchClock
    else s.setCore n c

/-- The parts of a store with their bytes. -/
def splitBytes : List Part → List Byte → List (Part × List Byte)
  | [], _ => []
  | p :: r, bs => (p, bs.take p.len) :: splitBytes r (bs.drop p.len)

/-- The parts of a store enter the merging buffer. -/
def State.storeParts (s : State) (h : Nat) (ps : List Part) (bytes : List Byte) : State :=
  (splitBytes ps bytes).foldl (fun s x => s.storePart h x.1.pa x.1.uc x.2) s

/-- A store is performed: into the merging buffer, or posted toward its target (R190, R150). It waits while
the buffer would hold more than 16 entries, a transaction is missing, or an L1D fill blocks the L1 port (R144). -/
def State.tryStore (s : State) (h : Nat) (va : Word) (ps : List Part) (bytes : List Byte) : State :=
  let n := coreOf h
  if ps.all fun p => (mbKind? (s.region p.pa) p.pa p.uc).isSome then
    let blocked := (s.core n).fill.isSome && s.den n &&
      ps.any fun p => mbKind? (s.region p.pa) p.pa p.uc = some .normal
    let s' := s.storeParts h ps bytes
    if blocked || decide (16 < (s'.core n).mbuf.length) then s else s'.modThread h (·.next)
  else if !s.txnFree h then s
  else
    let out : List Posted := ps.map fun p => { pa := p.pa, bytes := bytes, va := va }
    s.modThread h fun t => ({ t with posted := t.posted ++ out } : Thread).next

/-- A store instruction. -/
def State.storeInstr (s : State) (h : Nat) (gs1 : Reg5) (imm : BitVec 16) (len : Nat) (value : Thread → Word) :
    Out :=
  s.instr h fun t s =>
    let va := t.readG gs1 + imm.signExtend 64
    match s.resolve h va len .store with
    | .fault code => s.fault h code va
    | .walk a => s.startWalk h a va .store len false
    | .parts ps => s.tryStore h va ps (leBytes len (value t).toNat)

def execSb (h : Tid) (gs2 gs1 : Reg5) (imm : BitVec 16) (s : State) : Out :=
  s.storeInstr h gs1 imm 1 (·.readG gs2)
def execSh (h : Tid) (gs2 gs1 : Reg5) (imm : BitVec 16) (s : State) : Out :=
  s.storeInstr h gs1 imm 2 (·.readG gs2)
def execSw (h : Tid) (gs2 gs1 : Reg5) (imm : BitVec 16) (s : State) : Out :=
  s.storeInstr h gs1 imm 4 (·.readG gs2)
def execSd (h : Tid) (gs2 gs1 : Reg5) (imm : BitVec 16) (s : State) : Out :=
  s.storeInstr h gs1 imm 8 (·.readG gs2)
def execFsh (h : Tid) (fs2 gs1 : Reg5) (imm : BitVec 16) (s : State) : Out :=
  s.storeInstr h gs1 imm 2 (·.readF fs2)
def execFsw (h : Tid) (fs2 gs1 : Reg5) (imm : BitVec 16) (s : State) : Out :=
  s.storeInstr h gs1 imm 4 (·.readF fs2)
def execFsd (h : Tid) (fs2 gs1 : Reg5) (imm : BitVec 16) (s : State) : Out :=
  s.storeInstr h gs1 imm 8 (·.readF fs2)

/-! ### Prefetch -/

/-- PF (R120, R194): requests the line when it is Normal memory and absent from the L1D, the side buffer and
every fill in flight; never raises; dropped when translation fails; no effect while DEN is 0 (R211). -/
def execPf (h : Tid) (gs1 : Reg5) (imm : BitVec 16) (s : State) : Out :=
  s.instr h fun t s =>
    if !s.txnFree h then s
    else
      let va := t.readG gs1 + imm.signExtend 64
      match s.resolve h va 1 .pf with
      | .fault _ => s.setThread h t.next
      | .walk a => s.startWalk h a va .pf 0 true
      | .parts ps =>
        let n := coreOf h
        let c := s.core n
        let line := (firstPart ps).pa / 64
        let wanted := ps.any fun p =>
          match s.region p.pa with
          | .normal .. => !p.uc
          | _ => false
        if wanted && s.den n && (c.l1dLine line).isNone && (c.sideSlot line).isNone && c.fill ≠ some line &&
            !c.pfs.any (fun p => p.1 = line) then
          (s.setCore n { c with pfs := c.pfs ++ [(line, h.val)] }).setThread h t.next
        else s.setThread h t.next

/-! ### Atomics -/

/-- An atomic (R121) reaches MA: MISALIGNED, then translation and permission as a store, STORE_FAULT outside
Normal, Local and Remote memory; then it waits for the merging-buffer entries of its line, and in its
release form for every entry that is present (R193). -/
def State.atomicInstr (s : State) (h : Nat) (op : AOp) (gd gs1 gs2 : Reg5) (rel wide : Bool) : Out :=
  s.instr h fun t s =>
    let va := t.readG gs1
    let len := if wide then 8 else 4
    if va.toNat % len ≠ 0 then s.fault h cMisaligned va
    else if !s.txnFree h then s
    else
      match s.resolve h va len .store with
      | .fault code => s.fault h (if code = cMisaligned then cStoreFault else code) va
      | .walk a => s.startWalk h a va .store 0 true
      | .parts ps =>
        let n := coreOf h
        let pa := (firstPart ps).pa
        let allowed := match s.region pa with
          | .normal .. => true
          | .seedbox .. => true
          | .remote .. => true
          | _ => false
        if !allowed then s.fault h cStoreFault va
        else
          let s := if rel then s.markAll n else s.markLine n (pa / 64)
          let a : AtomicOp :=
            { va := va, pa := pa, uc := (firstPart ps).uc, wide := wide, op := op,
              gd := gd, arg := t.readG gs2, cmp := t.readG gd, rel := rel, upto := (s.core n).mbNext }
          s.setHold h (some (.atomic a))

def execAtomicSwap (h : Tid) (gd gs1 gs2 : Reg5) (_acq rel wide : Bool) (s : State) : Out :=
  s.atomicInstr h .swap gd gs1 gs2 rel wide
def execAtomicAdd (h : Tid) (gd gs1 gs2 : Reg5) (_acq rel wide : Bool) (s : State) : Out :=
  s.atomicInstr h .add gd gs1 gs2 rel wide
def execAtomicAnd (h : Tid) (gd gs1 gs2 : Reg5) (_acq rel wide : Bool) (s : State) : Out :=
  s.atomicInstr h .and gd gs1 gs2 rel wide
def execAtomicOr (h : Tid) (gd gs1 gs2 : Reg5) (_acq rel wide : Bool) (s : State) : Out :=
  s.atomicInstr h .or gd gs1 gs2 rel wide
def execAtomicXor (h : Tid) (gd gs1 gs2 : Reg5) (_acq rel wide : Bool) (s : State) : Out :=
  s.atomicInstr h .xor gd gs1 gs2 rel wide
def execAtomicMin (h : Tid) (gd gs1 gs2 : Reg5) (_acq rel wide : Bool) (s : State) : Out :=
  s.atomicInstr h .min gd gs1 gs2 rel wide
def execAtomicMax (h : Tid) (gd gs1 gs2 : Reg5) (_acq rel wide : Bool) (s : State) : Out :=
  s.atomicInstr h .max gd gs1 gs2 rel wide
def execAtomicMinu (h : Tid) (gd gs1 gs2 : Reg5) (_acq rel wide : Bool) (s : State) : Out :=
  s.atomicInstr h .minu gd gs1 gs2 rel wide
def execAtomicMaxu (h : Tid) (gd gs1 gs2 : Reg5) (_acq rel wide : Bool) (s : State) : Out :=
  s.atomicInstr h .maxu gd gs1 gs2 rel wide
def execAtomicCas (h : Tid) (gd gs1 gs2 : Reg5) (_acq rel wide : Bool) (s : State) : Out :=
  s.atomicInstr h .cas gd gs1 gs2 rel wide

/-- What an atomic writes, from the old value, in its width (R121); none where CAS finds another value. -/
def AtomicOp.result (a : AtomicOp) (old : Nat) : Option Nat :=
  let w := if a.wide then 64 else 32
  let m := 2 ^ w
  let o := BitVec.ofNat w old
  let v := BitVec.ofNat w a.arg.toNat
  match a.op with
  | .swap => some v.toNat
  | .add => some ((old + a.arg.toNat) % m)
  | .and => some (o &&& v).toNat
  | .or => some (o ||| v).toNat
  | .xor => some (o ^^^ v).toNat
  | .min => some (if o.slt v then o else v).toNat
  | .max => some (if o.slt v then v else o).toNat
  | .minu => some (min o.toNat v.toNat)
  | .maxu => some (max o.toNat v.toNat)
  | .cas => if o = BitVec.ofNat w a.cmp.toNat then some v.toNat else none

/-- The old value that gd receives: 4 bytes sign-extended. -/
def AtomicOp.old (a : AtomicOp) (old : Nat) : Word :=
  if a.wide then BitVec.ofNat 64 old else (BitVec.ofNat 32 old).signExtend 64

/-! ### Lines at their coherence point -/

/-- LATE_STORE_ERROR in one thread (R161). -/
def State.lateStore (s : State) (pa h : Nat) : State :=
  let s := s.modThread h fun t =>
    if t.lseaddr.toNat.testBit 63 then { t with lseaddr := t.lseaddr ||| (1 <<< 62) }
    else { t with lseaddr := BitVec.ofNat 64 (2 ^ 63 + t.lseaddr.toNat / 2 ^ 62 % 2 * 2 ^ 62 + pa % 2 ^ 56) }
  s.setOn FUR_XPEND.LSE h true

/-- Write bytes of a seedbox line. -/
def State.writeSeed (s : State) (m off mask : Nat) (data : List Byte) : State :=
  s.setSeed m ((s.seed m).writeMasked off mask data)

/-- Bytes of one line are written at their coherence point, seedbox or channel (R191, R198, R200); false where
the write meets a decode or an uncorrectable error (R161). `uc`: as Local type (R85). -/
def State.lineWrite (s : State) (f line mask : Nat) (data : List Byte) (uc : Bool) (keep : Option Nat)
    (res : MemRes) : Bool × State :=
  match s.region (line * 64) with
  | .normal c l =>
    if !uc then s.fcWrite f line mask data keep res
    else
      let s := s.recall line
      let s := (s.granWrite c l mask data 0 res).clearLost line mask
      (res ≠ .linkFail, s)
  | .direct c l => (res ≠ .linkFail, s.granWrite c l mask data 7 res)
  | .seedbox m off => (true, s.writeSeed m off mask data)
  | _ => (false, s)

/-- A write of a line must wait at its channel (R282, R286, R309). -/
def State.writeHeld (s : State) (f line mask : Nat) (uc : Bool) : Bool :=
  match s.region (line * 64) with
  | .normal .. =>
    if uc then s.accessHeld (line * 64)
    else s.victimHeld f line || (s.homeHeld f line && (mask ≠ fullMask || (s.dirtyCopy line).isSome))
  | .direct .. => s.accessHeld (line * 64)
  | _ => false

/-- A read of part of a line must wait at its channel. -/
def State.readHeld (s : State) (f pa : Nat) (uc : Bool) : Bool :=
  match s.region pa with
  | .normal .. => if uc then s.accessHeld pa && (s.dirtyCopy (pa / 64)).isNone else s.fetchHeld f (pa / 64)
  | .direct .. => s.accessHeld pa
  | _ => false

/-- What a read of part of a line brings. -/
inductive LineRead where
  | data (b : List Byte)
  | decode
  | poison
deriving DecidableEq, Repr

/-- Bytes of one line are read at their furrow cache, seedbox or channel. `src` is the SRC code of an error
record. -/
def State.lineRead (s : State) (f pa len : Nat) (uc : Bool) (src : Nat) (res : MemRes) : LineRead × State :=
  match s.region pa with
  | .normal .. =>
    let (d, s) := if uc then s.coherentLine (pa / 64) src res else s.fcFetch f (pa / 64) src res
    (if d.2 then .poison else .data (lineSlice d.1 pa len), s)
  | .direct c l =>
    let (d, s) := s.granRead c l 7 res
    (if d.2 then .poison else .data (lineSlice d.1 pa len), s)
  | .seedbox m off => (.data ((s.seed m).read off len), s)
  | _ => (.decode, s)

end Sys2Proof.Machine
end

