-- ==== Sys2Proof/Machine/Maintenance.lean ====
section
/-! DEFINITION. Fences, TLB invalidation and cache maintenance (R88, R90, R125, R126, R193, R195, R201 to
R207, R210 to R213): instructions, the L1 controls, the range engine and the furrow cache's scrub. -/

namespace Sys2Proof.Machine

/-! ### Fences (Table 4-7) -/

/-- A fence reaches RT: those that wait for the merging buffer mark what is present (R193). -/
def State.fenceInstr (s : State) (h : Nat) (kind : FenceKind) : Out :=
  s.instr h fun _ s =>
    let n := coreOf h
    let s := if kind = .acq then s else s.markAll n
    s.setHold h (some (.fence kind (s.core n).mbNext))

def execFenceAcq (h : Tid) (s : State) : Out := s.fenceInstr h .acq
def execFenceRel (h : Tid) (s : State) : Out := s.fenceInstr h .rel
def execFencePkg (h : Tid) (s : State) : Out := s.fenceInstr h .pkg
def execFenceAcre (h : Tid) (s : State) : Out := s.fenceInstr h .acre
def execFenceHost (h : Tid) (s : State) : Out := s.fenceInstr h .host
/-- IFENCE waits for the thread's prior stores as FENCE.REL does (Table 5-11). -/
def execIfence (h : Tid) (s : State) : Out := s.fenceInstr h .ifence

/-- A posted store is to Host memory, or to another package. -/
def State.isHostPa (s : State) (pa : Nat) : Bool :=
  match s.region pa with
  | .host .. => true
  | _ => false
def State.isFarPa (s : State) (pa : Nat) : Bool :=
  match s.region pa with
  | .remote p _ => p ≠ s.ownPkg
  | _ => false

/-- The accesses that a fence waits for are complete (Table 4-7). Loads of the thread are, because the
thread waits for each. -/
def State.fenceDone (s : State) (h : Nat) (kind : FenceKind) (upto : Nat) : Bool :=
  let t := s.thread h
  let mb (p : MbEntry → Bool) : Bool := !((s.core (coreOf h)).mbuf.any fun e => decide (e.num < upto) && p e)
  let posted (p : Nat → Bool) : Bool := !(t.posted.any fun x => p x.pa)
  let locals : Bool := mb (fun _ => true) && posted fun pa => !s.isHostPa pa && !s.isFarPa pa
  match kind with
  | .acq => true
  | .rel => mb fun _ => true
  | .ifence => mb fun _ => true
  | .pkg => locals
  | .acre => locals && posted s.isFarPa
  | .host => locals && posted s.isHostPa

/-- FENCE_COMPLETE (R90, R145): the fence retires once everything of Table 4-7 is complete. IFENCE then
invalidates the core's L1I and the next instruction is fetched again. DESIGN CHOICE (notes/assumptions/75): it empties the
L1I while IEN is 0 too, where R211 holds the array still. -/
def execFenceComplete (h : Tid) (s : State) : Out :=
  .next <|
    match (s.thread h).hold with
    | some (.fence kind upto) =>
      if s.fenceDone h kind upto then
        let n := coreOf h
        let s := if kind = .ifence then s.setCore n { s.core n with l1i := [] } else s
        s.modThread h (·.next)
      else s
    | _ => s

/-! ### TLB invalidation (R88, R104) -/

/-- A ring-0 instruction: in another ring, RING_VIOLATION with the instruction word. -/
def State.ring0 (s : State) (h : Nat) (word : Word) (f : Thread → State → State) : Out :=
  s.instr h fun t s => if t.ring ≠ 0 then s.fault h cRingViolation word else f t s

def execTlbiVa (h : Tid) (gs1 : Reg5) (s : State) : Out :=
  s.ring0 h (wordX 0 gs1 0 0 0x18) fun t s =>
    (s.tlbInvalidate (coreOf h) t.plotTag (some (t.readG gs1))).modThread h (·.next)
def execTlbiVaB (h : Tid) (gs1 : Reg5) (s : State) : Out :=
  s.ring0 h (wordX 0 gs1 0 0 0x19) fun t s => s.setHold h (some (.tlbi (some (t.readG gs1))))
def execTlbiPlot (h : Tid) (s : State) : Out :=
  s.ring0 h (wordX 0 0 0 0 0x1A) fun t s => (s.tlbInvalidate (coreOf h) t.plotTag none).modThread h (·.next)
def execTlbiPlotB (h : Tid) (s : State) : Out :=
  s.ring0 h (wordX 0 0 0 0 0x1B) fun _ s => s.setHold h (some (.tlbi none))

/-- The cores leased to a plot. -/
def State.coresOf (s : State) (plot : Nat) : List Nat :=
  (List.range 128).filter fun n => (s.core n).lease = some plot

/-- TLBI_ACKNOWLEDGE (R88): every core leased to the plot has invalidated and acknowledged, and the
broadcast completes. -/
def execTlbiAcknowledge (h : Tid) (s : State) : Out :=
  .next <|
    match (s.thread h).hold with
    | some (.tlbi va) =>
      let plot := (s.thread h).plotTag
      let s := (s.coresOf plot).foldl (fun s n => s.tlbInvalidate n plot va) (s.tlbInvalidate (coreOf h) plot va)
      s.modThread h (·.next)
    | _ => s

/-! ### CMO (R126, R201, R202) -/

/-- The code of an action in imm16[5:4]. -/
def CmoAction.code : CmoAction → Nat
  | .invalidate => 0
  | .clean => 1
  | .cleanInvalidate => 2

/-- The word of a CMO. -/
def cmoWord (gs1 : Reg5) (target : CmoTarget) (action : CmoAction) (setWay : Bool) : Word :=
  wordI 0x2B 0 gs1 (target.ctorIdx * 64 + action.code * 16 + (if setWay then 8 else 0))

/-- The way that a set-and-way index names in furrow f's cache (Table 8-3). -/
def setWayKey (f arg : Nat) : Nat := fcKey f (arg / 64 % fcSets f) (arg / 2 ^ 18 % 16)

/-- The line that a CMO concerns. -/
def State.cmoLine (s : State) (n : Nat) (op : CmoOp) : Option Nat :=
  if !op.setWay then some (op.arg / 64)
  else
    match op.target with
    | .l1d =>
      if op.arg.testBit 16 then (find (op.arg / 64 % 16) (s.core n).side).map (·.line)
      else (find (op.arg / 64 % 1024) (s.core n).l1d).map (·.line)
    | .l1i => (find (op.arg / 64 % 512) (s.core n).l1i).map (·.line)
    | .fc => (s.fcWay (setWayKey (furrowOf n) op.arg)).map (·.line)

/-- A line leaves every cache, dirty data discarded. -/
def State.discard (s : State) (line : Nat) : State :=
  cacheIds.foldl (fun s f =>
    match s.fcFind f line with
    | none => s
    | some (k, x) => s.fcDrop f k x) s

/-- A way is written back if dirty, and stays, clean. -/
def State.cleanWay (s : State) (k : Nat) : State :=
  match s.fcWay k with
  | none => s
  | some x =>
    if x.st = .m then
      let s := s.writeBack x
      s.setFc (put k { x with st := .e } s.caches.fc)
    else s

/-- The effect of an action on one way of a furrow cache (Table 8-2, by set and way). -/
def State.wayAction (s : State) (f k : Nat) (a : CmoAction) : State :=
  match a with
  | .clean => s.cleanWay k
  | .cleanInvalidate => s.fcEvict f k
  | .invalidate =>
    match s.fcWay k with
    | none => s
    | some x => s.fcDrop f k x

/-- The effect of an action on one line in every cache (Table 8-2, furrow cache by address). -/
def State.lineAction (s : State) (line : Nat) (a : CmoAction) : State :=
  match a with
  | .invalidate => (s.dirUse line).discard line
  | .clean => (s.dirUse line).cleanCopy line .e
  | .cleanInvalidate => (s.dirUse line).recall line

/-- Table 8-2. -/
def State.cmoAct (s : State) (n : Nat) (op : CmoOp) : State :=
  let c := s.core n
  match op.target with
  | .l1d =>
    if op.action = .clean then s
    else if !op.setWay then s.setCore n (c.dropLine (op.arg / 64))
    else if op.arg.testBit 16 then s.setCore n { c with side := drop (op.arg / 64 % 16) c.side }
    else s.setCore n { c with l1d := drop (op.arg / 64 % 1024) c.l1d }
  | .l1i =>
    s.setCore n { c with l1i := if op.setWay then drop (op.arg / 64 % 512) c.l1i
                               else c.l1i.filter fun x => x.2.line ≠ op.arg / 64 }
  | .fc =>
    if op.setWay then s.wayAction (furrowOf n) (setWayKey (furrowOf n) op.arg) op.action
    else s.lineAction (op.arg / 64) op.action

/-- A CMO waits: for the merging-buffer entries that it marked (R201); for the L1 port, when it targets the L1D or the L1I
(R203); or for a channel that accepts no access, when dirty data must reach it (R286). -/
def State.cmoWaits (s : State) (n : Nat) (op : CmoOp) : Bool :=
  let c := s.core n
  (c.mbuf.any fun e => decide (e.num < op.upto) && op.line = some e.line) ||
  match op.target with
  | .fc =>
    (match s.cmoLine n op with
     | some l => op.action ≠ .invalidate && (s.dirtyCopy l).isSome && s.accessHeld (l * 64)
     | none => false)
  | _ => c.fill.isSome

/-- A CMO acts and retires, unless it must wait. -/
def State.cmoTry (s : State) (h : Nat) (op : CmoOp) : State :=
  let n := coreOf h
  if s.cmoWaits n op then s.setHold h (some (.cmo op)) else (s.cmoAct n op).completes h (·.next)

/-- A CMO reaches MA: it marks its core's merging-buffer entries of the line concerned (R201). -/
def State.cmoMark (s : State) (h : Nat) (op : CmoOp) : State :=
  let n := coreOf h
  let op := { op with line := s.cmoLine n op, upto := (s.core n).mbNext }
  (match op.line with
   | some l => s.markLine n l
   | none => s).cmoTry h op

/-- A CMO (R126): Table 5-4's rings, then translation as a load, LOAD_FAULT with gs1 on failure; an address
outside the Granary memory region has no effect. A set-and-way CMO is not translated. `wb` is how a write-back that it
makes comes back. -/
def State.cmoInstr (s : State) (h : Nat) (gs1 : Reg5) (target : CmoTarget) (action : CmoAction) (setWay : Bool)
    (wb : MemRes) : Out :=
  s.instr h fun t s =>
    let va := t.readG gs1
    if t.ring ≠ 0 && (setWay || (action = .invalidate && target = .fc)) then
      s.fault h cRingViolation (cmoWord gs1 target action setWay)
    else if setWay then
      s.withRes wb fun s => s.cmoMark h { target := target, action := action, setWay := true, arg := va.toNat }
    else if !s.txnFree h then s
    else
      match s.look h va .load with
      | .bad => s.fault h cLoadFault va
      | .miss => s.startWalk h va va .load 0 true
      | .pa pa leaf =>
        if s.denied h t.ring .load pa leaf then s.fault h cLoadFault va
        else if pa < granarySpan then
          s.withRes wb fun s => s.cmoMark h { target := target, action := action, setWay := false, arg := pa }
        else s.setThread h t.next

def execCmoInvalidate (h : Tid) (gs1 : Reg5) (target : CmoTarget) (setWay : Bool) (s : State) : Out :=
  s.cmoInstr h gs1 target .invalidate setWay .ok
def execCmoClean (h : Tid) (gs1 : Reg5) (target : CmoTarget) (setWay : Bool) (wb : MemRes) (s : State) : Out :=
  s.cmoInstr h gs1 target .clean setWay wb
def execCmoCleanInvalidate (h : Tid) (gs1 : Reg5) (target : CmoTarget) (setWay : Bool) (wb : MemRes) (s : State) : Out :=
  s.cmoInstr h gs1 target .cleanInvalidate setWay wb

/-! ### What waits in a core goes on -/

/-- A thread whose load or CMO waited for merging-buffer entries or for the L1 port tries again: a load goes on as if no
entry had held its bytes once those that it marked have drained (R192). -/
def State.wake (s : State) (h : Nat) : State :=
  let c := s.core (coreOf h)
  match (s.thread h).hold with
  | some (.overlap op marked) =>
    if c.mbuf.any fun e => marked.contains e.num then s else s.tryLoad h { op with past := true }
  | some (.l1busy op) => if c.fill.isSome && s.den (coreOf h) then s else s.tryLoad h op
  | some (.cmo op) => s.cmoTry h op
  | _ => s

/-- The threads of a core that waited try again. -/
def State.wakeAll (s : State) (n : Nat) : State := (coreThreads n).foldl (fun s h => s.wake h) s

/-! ### L1D and side-buffer fills -/

/-- The furrow cache of core n holds a line and may serve it. -/
def State.fcServes (s : State) (n line : Nat) : Option FcLine := (s.fcFind (furrowOf n) line).map (·.2)

/-- The thread of a core whose load missed and waits for the fill. -/
def State.fillWaiter (s : State) (n : Nat) : Option (Nat × LoadOp) :=
  (coreThreads n).findSome? fun h =>
    match (s.thread h).hold with
    | some (.l1miss op) => some (h, op)
    | _ => none

/-- The L1 block ends: a change of DEN that waited takes effect (R213). -/
def State.fillEnds (s : State) (n : Nat) : State :=
  let c := s.core n
  let s := s.setCore n { c with fill := none, denNext := none }
  match c.denNext with
  | none => s
  | some b => s.setOn FUR_L1CTL.DEN n b

/-- L1D_FILL (R187, R189): the line is written into the L1D with the core's merging-buffer bytes laid over
it, the L1 block ends, and the load that waited goes on. -/
def execL1dFill (n : Uid) (s : State) : Out :=
  .next <|
    match (s.core n).fill with
    | none => s
    | some line =>
      match s.fcServes n line with
      | none => s
      | some x =>
        let w := s.fillWaiter n
        let s := s.fcUse (furrowOf n) line
        if x.poison then
          let s := s.fillEnds n
          (match w with
           | some (h, op) => s.fault h cUncorrectable op.va
           | none => s).wakeAll n
        else
          let c := s.core n
          let s := (s.setCore n (c.l1dWrite line (c.mergeMb line x.data))).fillEnds n
          (match w with
           | some (h, op) => s.tryLoad h op
           | none => s).wakeAll n

/-- The side-buffer entry that a new line replaces: a free one, else the least recently used (R194). -/
def Core.sideVictim (c : Core) : Nat :=
  match (List.range 16).find? fun k => (find k c.side).isNone with
  | some k => k
  | none => (c.side.foldl (fun (b : Nat × SideLine) x => if x.2.used < b.2.used then x else b)
      (c.side.headD (0, { line := 0, data := [], used := 0 }))).1

/-- SIDE_BUFFER_FILL (R194): the oldest prefetched line that the furrow cache holds arrives and replaces the
least recently used entry; dropped while the side buffer is held still (R211) or when the line is
poisoned. -/
def execSideBufferFill (n : Uid) (s : State) : Out :=
  .next <|
    let c := s.core n
    match c.pfs.find? fun p => (s.fcServes n p.1).isSome with
    | none => s
    | some p =>
      let s := (s.setCore n { c with pfs := c.pfs.erase p }).fcUse (furrowOf n) p.1
      match s.fcServes n p.1 with
      | none => s
      | some x =>
        if x.poison || !s.den n then s
        else
          let c := s.core n
          let line : SideLine := { line := p.1, data := c.mergeMb p.1 x.data, used := s.caches.clock + 1 }
          (s.setCore n { c with side := put c.sideVictim line c.side }).touchClock

/-- Lines that cores of a furrow wait for. -/
def State.fillWanted (s : State) (f line : Nat) : Bool :=
  (furrowCores f).any fun n => (s.core n).fill = some line || (s.core n).pfs.any fun p => p.1 = line

/-- A fill that brings no line: each core whose L1D waits for it ends its block, and its load raises
`code`; prefetches of it are dropped. -/
def State.fillFails (s : State) (code line n : Nat) : State :=
  let c := s.core n
  let s := s.setCore n { c with pfs := c.pfs.filter fun p => p.1 ≠ line }
  if c.fill = some line then
    let w := s.fillWaiter n
    let s := s.fillEnds n
    (match w with
     | some (h, op) => s.fault h code op.va
     | none => s).wakeAll n
  else s

/-- FURROW_CACHE_FILL (R196, R199): a line that a core of the furrow misses is obtained, its victim written
back first. A hole gives LOAD_FAULT and a poisoned line UNCORRECTABLE_LOAD to the load that waits (R154). `res` is how the
read comes back, and `wb` the victim's write-back. -/
def execFurrowCacheFill (f : CacheId) (line : Nat) (res wb : MemRes) (s : State) : Out :=
  .next <| s.withRes wb fun s =>
    if !s.fillWanted f line || (s.fcFind f line).isSome || s.fetchHeld f line then s
    else
      match s.region (line * 64) with
      | .normal .. =>
        let (d, s) := s.fcFetch f line 0 res
        if d.2 then (furrowCores f).foldl (fun s n => s.fillFails cUncorrectable line n) s else s
      | _ => (furrowCores f).foldl (fun s n => s.fillFails cLoadFault line n) s

/-! ### Merging-buffer events -/

/-- OPEN_ENTRY_TIMEOUT (R191): the oldest open entry has been open for 32 fc and closes. -/
def execOpenEntryTimeout (n : Uid) (s : State) : Out :=
  .next (s.setCore n { s.core n with mbuf := closeOldest (s.core n).mbuf })

/-- A merging-buffer entry drains. `bad`: the entry itself has an uncorrectable error, after which nothing is written
(Table 8-6). -/
def State.drainEntry (s : State) (n : Nat) (e : MbEntry) (bad : Bool) (res : MemRes) : State :=
  let s := s.setCore n { s.core n with mbuf := (s.core n).mbuf.filter fun x => x.num ≠ e.num }
  let (ok, s) := if bad then (false, s.logEvent 0x0020 (furrowOf n) noInst 2 (e.line * 64) 0)
    else s.lineWrite (furrowOf n) e.line e.mask e.data (e.kind ≠ .normal) (some n) res
  if ok then s else e.threads.foldl (fun s h => s.lateStore (e.line * 64) h) s

/-- The closed entries that a till program holds have reached its channel (R309). -/
def State.drainsArrive (s : State) (n : Nat) : State :=
  ((s.core n).mbuf.filter fun e => e.closed && s.directHeld (e.line * 64)).foldl
    (fun s e => s.arrive (e.line * 64) (.drain n e.num)) s

/-- The oldest closed entry whose channel accepts accesses drains (R191). -/
def State.drainOne (s : State) (n : Nat) (bad : Bool) (res : MemRes) : State :=
  let s := s.drainsArrive n
  match (s.core n).mbuf.find? fun e => e.closed && !s.writeHeld (furrowOf n) e.line e.mask (e.kind ≠ .normal) with
  | none => s
  | some e => s.drainEntry n e bad res

/-- MERGING_BUFFER_DRAIN (R191): one entry drains, and the loads and CMOs that waited for it go on. `res` is how the
access of its own line comes back, and `wb` a write-back that it or a CMO causes. -/
def execMergingBufferDrain (n : Uid) (bad : Bool) (res wb : MemRes) (s : State) : Out :=
  .next (s.withRes wb fun s => (s.drainOne n bad res).wakeAll n)

/-! ### L1I fills -/

/-- The physical address that a fetch at an address reads, if it translates and may execute (Table 4-10). -/
def State.fetchPa (s : State) (h : Nat) (va : Word) (res : MemRes) : Option (Nat × Bool) × State :=
  s.translateNow h va .fetch (s.thread h).ring true res

/-- The L1I holds a line. -/
def Core.l1iLine (c : Core) (line : Nat) : Option L1Line :=
  match find (l1iIndex line) c.l1i with
  | some x => if x.line = line then some x else none
  | none => none

/-- A parity error of the L1I line that a fetch reads (Table 8-6): the line is invalidated and counted, and the core's
merging-buffer entries of the line drain before it is fetched again. -/
def State.l1iParity (s : State) (n line : Nat) : State :=
  match (s.core n).l1iLine line with
  | none => s
  | some _ =>
    ((s.setCore n { s.core n with l1i := drop (l1iIndex line) (s.core n).l1i }).markLine n line).countL1 n

/-- A fetch of a thread misses the L1I: the line is asked for, when fewer than 2 fills are on their way. Only cached Normal
memory allocates a line (R186), and none while IEN is 0 (R211). -/
def State.l1iAsk (s : State) (h : Nat) (par : Bool) (res : MemRes) : State :=
  let t := s.thread h
  let n := coreOf h
  if decide (2 ≤ (s.core n).ifills.length) || s.walkWaits h t.ring t.pc .fetch then s
  else
    match s.fetchPa h t.pc res with
    | (none, s) => s
    | (some (pa, uc), s) =>
      match s.region pa with
      | .normal .. =>
        if uc || !s.ien n then s
        else
          let s := if par then s.l1iParity n (pa / 64) else s
          if ((s.core n).l1iLine (pa / 64)).isSome then s
          else s.setCore n { s.core n with ifills := (s.core n).ifills ++ [(h, pa / 64)] }
      | _ => s

/-- The line that a thread waits for arrives, once the core's closed merging-buffer entries of it have drained
(notes/assumptions/75); a poisoned one is not installed. -/
def State.l1iArrives (s : State) (h line : Nat) (res : MemRes) : State :=
  let n := coreOf h
  if s.fetchHeld (furrowOf n) line || (s.core n).mbuf.any fun e => e.closed && e.line = line then s
  else
    let s := s.setCore n { s.core n with ifills := (s.core n).ifills.filter (·.1 ≠ h) }
    if !s.ien n then s
    else
      let (d, s) := s.fcFetch (furrowOf n) line 0 res
      let c := s.core n
      if d.2 then s else s.setCore n { c with l1i := put (l1iIndex line) { line := line, data := d.1 } c.l1i }

/-- L1I_FILL (R195): the line at the thread's PC is asked for when the L1I lacks it; the next one brings it. `par`: the
entry that the fetch reads fails its parity. -/
def execL1iFill (h : Tid) (par : Bool) (res : MemRes) (s : State) : Out :=
  .next <|
    if (s.thread h).mode ≠ .running || !s.coreRuns (coreOf h) then s
    else
      match (s.core (coreOf h)).ifills.find? fun x => x.1 = h.val with
      | some x => s.l1iArrives h x.2 res
      | none => s.l1iAsk h par res

/-! ### L1 controls (R211, R213) -/

/-- Agents that reach the register windows (R76): plot 0, Drill, Reeve and the TAP. -/
def reaches : Agent → Bool
  | .plot p => p.val = 0
  | _ => true

/-- IINV: the whole L1I is being invalidated. -/
def execIinv (n : Cid) (s : State) : Out :=
  .next (if s.released then (s.setCore n { s.core n with iinv := true }).setOn FUR_L1CTL.BUSY n true else s)

/-- DINV: the whole L1D and side buffer are being invalidated. -/
def execDinv (n : Cid) (s : State) : Out :=
  .next (if s.released then (s.setCore n { s.core n with dinv := true }).setOn FUR_L1CTL.BUSY n true else s)

/-- L1_INVALIDATE_DONE (R213): the invalidations in progress complete, BUSY clears, and DEN or IEN becomes 1
where the write that asked for the invalidation set it. -/
def execL1InvalidateDone (n : Cid) (s : State) : Out :=
  .next <|
    let c := s.core n
    let s := if c.denAfter then s.setOn FUR_L1CTL.DEN n true else s
    let s := if c.ienAfter then s.setOn FUR_L1CTL.IEN n true else s
    (s.setCore n { c with l1d := if c.dinv then [] else c.l1d, side := if c.dinv then [] else c.side,
                          l1i := if c.iinv then [] else c.l1i, dinv := false, iinv := false,
                          denAfter := false, ienAfter := false }).setOn FUR_L1CTL.BUSY n false

/-- A write of DEN: after any L1D fill in progress; with DINV, a 1 takes effect when the invalidation ends. The last write
decides. -/
def State.writeDen (s : State) (n : Nat) (den dinv : Bool) : State :=
  let c := s.core n
  if den && dinv then s.setCore n { c with denAfter := true, denNext := none }
  else if c.fill.isSome then s.setCore n { c with denAfter := false, denNext := some den }
  else (s.setCore n { c with denAfter := false }).setOn FUR_L1CTL.DEN n den

/-- A write of IEN, in the same way. -/
def State.writeIen (s : State) (n : Nat) (ien iinv : Bool) : State :=
  let s := s.setCore n { s.core n with ienAfter := ien && iinv }
  if ien && iinv then s else s.setOn FUR_L1CTL.IEN n ien

/-- L1_ENABLE_WRITE (R211): a write of DEN and IEN, with neither DINV nor IINV. -/
def execL1EnableWrite (agent : Agent) (n : Cid) (ien den : Bool) (s : State) : Out :=
  .next (if s.acts agent && reaches agent then (s.writeDen n den false).writeIen n ien false else s)

/-! ### The range engine (R204 to R207) -/

/-- The action that an ACTION code names. -/
def actionOf (code : Nat) : CmoAction :=
  match code with
  | 0 => .invalidate
  | 1 => .clean
  | _ => .cleanInvalidate

/-- A write of FUR_RNG_CTL with GO = 1. -/
def State.rangeGo (s : State) (f action : Nat) (mode : Bool) : State :=
  if s.on FUR_RNG_CTL.BUSY f then s.setOn FUR_RNG_CTL.IGNORED f true
  else
    let base := s.f FUR_RNG_BASE.BASE f
    let len := s.f FUR_RNG_LEN.LEN f
    if action = 3 || (!mode && (len = 0 || decide (granarySpan < (base + len) * 64))) then
      s.setOn FUR_RNG_CTL.ERR f true
    else
      let s := ((((s.setF FUR_RNG_CTL.ACTION f action).setOn FUR_RNG_CTL.MODE f mode).setOn
        FUR_RNG_CTL.BUSY f true).setF FUR_RNG_DONE.LINES f 0)
      let r : RangeEngine := { action := actionOf action, mode := mode, base := base, lines := len }
      { s with caches := { s.caches with range := put f r s.caches.range } }

/-- RANGE_GO (R204, R205). -/
def execRangeGo (agent : Agent) (f : Furrow) (action : BitVec 2) (mode : Bool) (s : State) : Out :=
  .next (if s.acts agent && reaches agent then s.rangeGo f action.toNat mode else s)

/-- The lines that any furrow cache holds. -/
def State.cachedLines (s : State) : List Nat := (s.caches.fc.map fun c => c.2.line).eraseDups

/-- The furrow-cache keys of one furrow. -/
def State.furrowKeys (s : State) (f : Nat) : List Nat :=
  (s.caches.fc.map (·.1)).filter fun k => k / 16 / 4096 = f

/-- The lines, or sets, that an operation works through. -/
def RangeEngine.total (r : RangeEngine) : Nat := if r.mode then 4096 else r.lines

/-- The engine works through `n` more lines of its range, or sets of its cache, and counts lines or ways. -/
def State.rangeStep (s : State) (f n : Nat) : State :=
  match find f s.caches.range with
  | none => s
  | some r =>
    let stop := min (r.pos + n) r.total
    let s :=
      if r.mode then
        ((s.furrowKeys f).filter fun k => decide (r.pos ≤ k / 16 % 4096) && decide (k / 16 % 4096 < stop)).foldl
          (fun s k => s.wayAction f k r.action) s
      else
        (s.cachedLines.filter fun l => decide (r.base + r.pos ≤ l) && decide (l < r.base + stop)).foldl
          (fun s l => s.lineAction l r.action) s
    let s := s.setF FUR_RNG_DONE.LINES f (if r.mode then 16 * stop else stop)
    { s with caches := { s.caches with range := put f { r with pos := stop } s.caches.range } }

/-- The rest of an operation is worked through, and BUSY clears. -/
def State.rangeEnds (s : State) (f : Nat) : State :=
  match find f s.caches.range with
  | none => s
  | some r =>
    let s := (s.rangeStep f r.total).setOn FUR_RNG_CTL.BUSY f false
    { s with caches := { s.caches with range := drop f s.caches.range } }

/-- RANGE_DONE (R204, R206): the last line of an operation has been acknowledged. -/
def execRangeDone (f : Furrow) (wb : MemRes) (s : State) : Out := .next (s.withRes wb fun s => s.rangeEnds f)

/-- Lines, or sets, that an engine works through in one REFCLK period: one per fc (R204). -/
def rangeRate : Nat := 12

/-- One REFCLK period of every range engine. -/
def State.rangeTick (s : State) : State := (s.caches.range.map (·.1)).foldl (fun s f => s.rangeStep f rangeRate) s

/-! ### Scrub (R196, R210) -/

/-- An uncorrectable event of a furrow cache is logged; `row` numbers the rows of Table 8-6 from 1
(notes/assumptions/17). -/
def State.cacheUe (s : State) (f row line : Nat) : State := s.logEvent 0x0020 f noInst row (line * 64) 0

/-- A correctable event of a furrow cache is counted; the Drill cache has no such register. -/
def State.countFc (s : State) (f : Nat) : State := if f < 16 then s.bump FUR_ECCCNT.FC f else s

/-- FURROW_SCRUB (R196, Table 8-6): the next set is read, and one way of it may be in error. A line in E or S in error is
invalidated and fetched again. -/
def execFurrowScrub (f : CacheId) (verdict : ScrubRes) (s : State) : Out :=
  .next <|
    let set := findD 0 f.val s.caches.scrubSet
    let s := { s with caches := { s.caches with scrubSet := putD 0 f.val ((set + 1) % fcSets f) s.caches.scrubSet } }
    match verdict with
    | .clean => s
    | .corrected _ => s.countFc f
    | .uncorrectable w =>
      let k := fcKey f set w
      match s.fcWay k with
      | none => s
      | some x =>
        if x.st = .m then (s.setFc (put k { x with poison := true } s.caches.fc)).cacheUe f 5 x.line
        else (((s.fcDrop f k x).countFc f).cacheUe f 4 x.line |> fun s => (s.fcFetch f x.line 0 .ok).2)
    | .badTag w =>
      let k := fcKey f set w
      match s.fcWay k with
      | none => s
      | some x =>
        let s := s.fcDrop f k x
        let s := if x.st = .m then
            { s with caches := { s.caches with lost := put x.line true s.caches.lost } } else s
        s.cacheUe f 6 x.line

end Sys2Proof.Machine
end

