-- ==== Sys2Proof/Machine/Clock.lean ====
section
/-! DEFINITION. What one REFCLK period does (R33, R32, R36, R545, R561; notes/assumptions/4): the empty queue's step. -/

namespace Sys2Proof.Machine

/-- A core counter of Tally takes `k n` counts of an event of core n. With INSTANCE 0xFFF it takes the cycles in which
any core has the event (R545): at least the most of one core, at most the sum and the period's pulses, else free. -/
def State.tallyCores (s : State) (event pulses : Nat) (k : Nat → Nat) : State :=
  if !s.on TLY_CTL.EN 0 || s.on TLY_CTL.FREEZE 0 then s
  else
    (List.range 128).foldl (fun (s : State) n =>
      let i := s.f TLY_CFG.INSTANCE n
      if !s.on TLY_CFG.EN n || s.f TLY_CFG.EVENT n ≠ event || (n % 2 = 1 && s.on TLY_CFG.CHAIN (n - 1)) then s
      else if i < 128 then s.tallyBump n (k i)
      else if i = 0xFFF then
        let all := (List.range 128).map k
        let lo := all.foldl max 0
        let hi := max lo (min all.sum pulses)
        if lo < hi then s.draw.2.tallyBump n (lo + s.draw.1 % (hi - lo + 1)) else s.tallyBump n lo
      else s) s

/-- Instructions that the threads of a core have retired since the last period. -/
def State.retiredIn (s : State) (n : Nat) : Nat :=
  ((s.threads.filter fun x => coreOf x.1 = n).map fun x => x.2.instret - findD 0 x.1 s.gln.seen).sum

/-- One REFCLK period: the timestamp counts, CCLK delivers 24 × DUTY ÷ 64 pulses (24 to the Drill cores, R561), the
throttle time runs while DUTY is below 64, the range engines work on (R206), and Tally takes CYCLES and INSTRET. Without
REFCLK, and while PORST_N is low, nothing counts. -/
def State.tick (s : State) : State :=
  if !s.live then s
  else
    let s := s.setF CLK_TIMESTAMP.TS 0 (s.now + 1)
    let duty := s.f RV_THROT.DUTY 0
    let s := if duty < 64 then s.setF RV_THROTTIME.COUNT 0 (s.f RV_THROTTIME.COUNT 0 + 1) else s
    if s.clk.rootHeld then s
    else
      let was := s.clk.cc64
      let s := { s with clk := { s.clk with cc64 := was + 24 * duty, drillCc64 := s.clk.drillCc64 + 24 * 64 } }.rangeTick
      let pulses := s.clk.cc64 / 64 - was / 64
      let t := s
      let s := (s.tallyCores 1 pulses fun _ => pulses).tallyCores 2 pulses t.retiredIn
      { s with gln := { s.gln with seen := s.threads.map fun x => (x.1, x.2.instret) } }

end Sys2Proof.Machine
end

