-- ==== Sys2Proof/Machine/Flags.lean ====
section
/-! DEFINITION. Floating-point arithmetic and its flags (chapter 11): the float formats (R260, R261),
exact results rounded once (R263 to R268), conversions (R269) and integer saturation (R270). -/

namespace Sys2Proof.Machine

/-! ### Flag bits: the positions of TSTAT and FCSR (R271) -/

def fNV : Nat := 16
def fOF : Nat := 8
def fUF : Nat := 4
def fNX : Nat := 2
def fDZ : Nat := 1
def fSAT : Nat := 1

/-- The union of two sets of flags. -/
def flagsOr (a b : Nat) : Nat := a ||| b

/-! ### Formats -/

/-- A float format: exponent and fraction widths, bias, whether every exponent but the NaN encodes a
number (E4M3), and whether its NaNs may signal (R260, R261). -/
structure FpFmt where
  eb   : Nat
  fb   : Nat
  bias : Nat
  e4m3 : Bool := false
  snan : Bool := true
deriving DecidableEq, Repr

def fmtB64 : FpFmt := { eb := 11, fb := 52, bias := 1023 }
def fmtB32 : FpFmt := { eb := 8, fb := 23, bias := 127 }
def fmtB16 : FpFmt := { eb := 5, fb := 10, bias := 15 }
def fmtBf16 : FpFmt := { eb := 8, fb := 7, bias := 127 }
def fmtE4M3 : FpFmt := { eb := 4, fb := 3, bias := 7, e4m3 := true, snan := false }
def fmtE5M2 : FpFmt := { eb := 5, fb := 2, bias := 15, snan := false }

/-- The format width in bits. -/
def FpFmt.width (F : FpFmt) : Nat := 1 + F.eb + F.fb

/-- The default NaN (Table 11-2). -/
def FpFmt.nan (F : FpFmt) : Nat :=
  if F.e4m3 then 0x7F else (2 ^ F.eb - 1) * 2 ^ F.fb + 2 ^ (F.fb - 1)

/-- +∞; E4M3 has none. -/
def FpFmt.inf (F : FpFmt) : Nat := (2 ^ F.eb - 1) * 2 ^ F.fb

/-- The largest finite value (Table 11-2). -/
def FpFmt.maxFinite (F : FpFmt) : Nat := if F.e4m3 then 0x7E else F.inf - 1

/-- The sign bit's weight. -/
def FpFmt.signBit (F : FpFmt) : Nat := 2 ^ (F.eb + F.fb)

/-- What an encoding stands for; a finite value is ±m × 2^e. -/
inductive FpVal where
  | nan (signalling : Bool)
  | inf (neg : Bool)
  | fin (neg : Bool) (m : Nat) (e : Int)
deriving DecidableEq, Repr

/-- Read an encoding (R260, R261). -/
def FpFmt.unpack (F : FpFmt) (v : Nat) : FpVal :=
  let neg := decide (v / F.signBit % 2 = 1)
  let ex := v / 2 ^ F.fb % 2 ^ F.eb
  let fr := v % 2 ^ F.fb
  if ex = 2 ^ F.eb - 1 && (!F.e4m3 || fr = 2 ^ F.fb - 1) then
    if F.e4m3 || fr ≠ 0 then .nan (F.snan && fr < 2 ^ (F.fb - 1)) else .inf neg
  else if ex = 0 then .fin neg fr (1 - (F.bias : Int) - F.fb)
  else .fin neg (2 ^ F.fb + fr) ((ex : Int) - F.bias - F.fb)

/-- Attach a sign. -/
def FpFmt.sign (F : FpFmt) (neg : Bool) (v : Nat) : Nat := if neg then v + F.signBit else v

/-! ### Rounding (R263 to R268) -/

/-- A rounding in force: the five named modes, or seeded stochastic with its random number (R267). -/
inductive Rnd where
  | rne | rna | rz | ru | rd
  | stoch (r : Nat)
deriving DecidableEq, Repr

/-- What an overflow gives (R265, R269): what IEEE 754 gives for the mode; ±∞ (E4M3: ±448 with SAT); the
largest finite value with SAT. -/
inductive Ovf where
  | ieee | toInf | saturate
deriving DecidableEq, Repr

/-- Whether the magnitude rounds up, from the kept part, the remainder below it and 2^sh. -/
def Rnd.up (r : Rnd) (neg : Bool) (kept rem sh : Nat) : Bool :=
  match r with
  | .rne => decide (2 ^ sh < 2 * rem) || (decide (2 * rem = 2 ^ sh) && decide (kept % 2 = 1))
  | .rna => decide (rem ≠ 0) && decide (2 ^ sh ≤ 2 * rem)
  | .rz => false
  | .ru => !neg && decide (rem ≠ 0)
  | .rd => neg && decide (rem ≠ 0)
  | .stoch x => decide (x < rem * 65536 / 2 ^ sh)

/-- Round m × 2^e to a multiple of 2^q: the multiple, and whether it is inexact. -/
def roundAt (r : Rnd) (neg : Bool) (m : Nat) (e q : Int) : Nat × Bool :=
  if q ≤ e then (m * 2 ^ (e - q).toNat, false)
  else
    let sh := (q - e).toNat
    let kept := m / 2 ^ sh
    let rem := m % 2 ^ sh
    (if r.up neg kept rem sh then kept + 1 else kept, decide (rem ≠ 0))

/-- The encoding of ±M × 2^q, which the format can hold. -/
def FpFmt.pack (F : FpFmt) (neg : Bool) (m : Nat) (q : Int) : Nat :=
  let mq := if m = 2 ^ (F.fb + 1) then (2 ^ F.fb, q + 1) else (m, q)
  F.sign neg (if mq.1 < 2 ^ F.fb then mq.1
    else (mq.2 + F.fb + F.bias).toNat * 2 ^ F.fb + (mq.1 - 2 ^ F.fb))

/-- The largest finite value as (M, q). -/
def FpFmt.maxParts (F : FpFmt) : Nat × Int :=
  if F.e4m3 then (14, 5) else (2 ^ (F.fb + 1) - 1, (2 ^ F.eb - 2 : Nat) - (F.bias : Int) - F.fb)

/-- a × 2^x > b × 2^y. -/
def scaledGt (a : Nat) (x : Int) (b : Nat) (y : Int) : Bool :=
  if y ≤ x then b < a * 2 ^ (x - y).toNat else b * 2 ^ (y - x).toNat < a

/-- What an overflow delivers, and its flags (R265, R269): OF and NX always. -/
def FpFmt.overflow (F : FpFmt) (r : Rnd) (ov : Ovf) (neg : Bool) : Nat × Nat :=
  match ov with
  | .saturate => (F.sign neg F.maxFinite, fOF + fNX + fSAT)
  | .toInf => if F.e4m3 then (F.sign neg F.maxFinite, fOF + fNX + fSAT) else (F.sign neg F.inf, fOF + fNX)
  | .ieee =>
    let toMax := match r with
      | .rz => true
      | .ru => neg
      | .rd => !neg
      | _ => false
    (F.sign neg (if toMax then F.maxFinite else F.inf), fOF + fNX)

/-- Round ±m × 2^e once to a format (R263): subnormals in full, tininess after rounding; the encoding and
its flags. -/
def FpFmt.round (F : FpFmt) (r : Rnd) (ov : Ovf) (neg : Bool) (m : Nat) (e : Int) : Nat × Nat :=
  if m = 0 then (F.sign neg 0, 0)
  else
    let emin : Int := 1 - (F.bias : Int)
    let lg : Int := (Nat.log2 m : Int) + e
    let q : Int := max (lg - F.fb) (emin - F.fb)
    let x := roundAt r neg m e q
    let mx := F.maxParts
    if scaledGt x.1 q mx.1 mx.2 then F.overflow r ov neg
    else
      let y := roundAt r neg m e (lg - F.fb)
      let tiny := scaledGt 1 emin y.1 (lg - F.fb)
      (F.pack neg x.1 q, if x.2 then (if tiny then fUF + fNX else fNX) else 0)

/-- The default NaN with flags. -/
def FpFmt.nanWith (F : FpFmt) (fl : Nat) : Nat × Nat := (F.nan, fl)

/-- NV for a signalling operand (R264). -/
def FpVal.nv (v : FpVal) : Nat :=
  match v with
  | .nan true => fNV
  | _ => 0

def FpVal.isNan (v : FpVal) : Bool :=
  match v with
  | .nan _ => true
  | _ => false

/-! ### Exact arithmetic -/

/-- The exact sum of two finite values, as a signed integer times a power of two. -/
def exactAdd (n1 : Bool) (m1 : Nat) (e1 : Int) (n2 : Bool) (m2 : Nat) (e2 : Int) : Int × Int :=
  let e := min e1 e2
  let a : Int := m1 * 2 ^ (e1 - e).toNat
  let b : Int := m2 * 2 ^ (e2 - e).toNat
  ((if n1 then -a else a) + (if n2 then -b else b), e)

/-- An infinite result; E4M3 gives ±448 with SAT (Table 11-5). -/
def FpFmt.infResult (F : FpFmt) (neg : Bool) : Nat × Nat :=
  if F.e4m3 then (F.sign neg F.maxFinite, fSAT) else (F.sign neg F.inf, 0)

/-- The sum rounded; an exact zero sum of unlike signs is −0 only toward −∞. -/
def FpFmt.addVal (F : FpFmt) (r : Rnd) (ov : Ovf) (a b : FpVal) : Nat × Nat :=
  match a, b with
  | .nan _, _ => F.nanWith (flagsOr a.nv b.nv)
  | _, .nan _ => F.nanWith (flagsOr a.nv b.nv)
  | .inf n1, .inf n2 => if n1 = n2 then F.infResult n1 else F.nanWith fNV
  | .inf n, .fin .. => F.infResult n
  | .fin .., .inf n => F.infResult n
  | .fin n1 m1 e1, .fin n2 m2 e2 =>
    let x := exactAdd n1 m1 e1 n2 m2 e2
    if x.1 = 0 then (F.sign (if n1 = n2 && m1 = 0 && m2 = 0 then n1 else r = .rd) 0, 0)
    else F.round r ov (decide (x.1 < 0)) x.1.natAbs x.2

/-- The value with its sign flipped. -/
def FpVal.neg (v : FpVal) : FpVal :=
  match v with
  | .nan b => .nan b
  | .inf n => .inf (!n)
  | .fin n m e => .fin (!n) m e

/-- The exact product, or an invalid one (0 × ∞). -/
def FpVal.mul (a b : FpVal) : Option FpVal :=
  match a, b with
  | .nan x, .nan y => some (.nan (x || y))
  | .nan x, _ => some (.nan x)
  | _, .nan y => some (.nan y)
  | .inf n1, .inf n2 => some (.inf (n1 ^^ n2))
  | .inf n1, .fin n2 m _ => if m = 0 then none else some (.inf (n1 ^^ n2))
  | .fin n1 m _, .inf n2 => if m = 0 then none else some (.inf (n1 ^^ n2))
  | .fin n1 m1 e1, .fin n2 m2 e2 => some (.fin (n1 ^^ n2) (m1 * m2) (e1 + e2))

/-- Round a value to a format (a conversion or the end of an exact computation). -/
def FpFmt.roundVal (F : FpFmt) (r : Rnd) (ov : Ovf) (v : FpVal) : Nat × Nat :=
  match v with
  | .nan b => F.nanWith (if b then fNV else 0)
  | .inf n => F.infResult n
  | .fin n m e => F.round r ov n m e

def FpFmt.mulVal (F : FpFmt) (r : Rnd) (ov : Ovf) (a b : FpVal) : Nat × Nat :=
  match a.mul b with
  | none => F.nanWith fNV
  | some v => F.roundVal r ov v

/-- a × b + c, rounded once. 0 × ∞ sets NV whatever c is (Table 11-7). -/
def FpFmt.fmaVal (F : FpFmt) (r : Rnd) (ov : Ovf) (a b c : FpVal) : Nat × Nat :=
  match a.mul b with
  | none => F.nanWith fNV
  | some p => F.addVal r ov p c

/-- Quotient digits enough to round once: extra bits with the remainder folded into the last. -/
def divDigits (F : FpFmt) (m1 m2 : Nat) : Nat × Int :=
  let sh := F.fb + 3 + Nat.log2 m2 + 1
  let n := m1 * 2 ^ sh
  let qt := n / m2
  (2 * qt + (if n % m2 = 0 then 0 else 1), -((sh : Int) + 1))

def FpFmt.divVal (F : FpFmt) (r : Rnd) (a b : FpVal) : Nat × Nat :=
  match a, b with
  | .nan _, _ => F.nanWith (flagsOr a.nv b.nv)
  | _, .nan _ => F.nanWith (flagsOr a.nv b.nv)
  | .inf _, .inf _ => F.nanWith fNV
  | .inf n1, .fin n2 _ _ => F.infResult (n1 ^^ n2)
  | .fin n1 _ _, .inf n2 => (F.sign (n1 ^^ n2) 0, 0)
  | .fin n1 m1 e1, .fin n2 m2 e2 =>
    if m2 = 0 then
      if m1 = 0 then F.nanWith fNV
      else (F.sign (n1 ^^ n2) F.inf, fDZ)
    else
      let d := divDigits F m1 m2
      F.round r .ieee (n1 ^^ n2) d.1 (e1 - e2 + d.2)

/-- The integer square root by bits: the largest x below 2^n with x² ≤ v. -/
def isqrt (v : Nat) : Nat → Nat → Nat
  | 0, acc => acc
  | n + 1, acc => isqrt v n (if (acc + 2 ^ n) * (acc + 2 ^ n) ≤ v then acc + 2 ^ n else acc)

def FpFmt.sqrtVal (F : FpFmt) (r : Rnd) (a : FpVal) : Nat × Nat :=
  match a with
  | .nan _ => F.nanWith a.nv
  | .inf n => if n then F.nanWith fNV else F.infResult false
  | .fin n m e =>
    if m = 0 then (F.sign n 0, 0)
    else if n then F.nanWith fNV
    else
      let m' := if e % 2 = 0 then m else 2 * m
      let e' := if e % 2 = 0 then e else e - 1
      let k := F.fb + 3
      let v := m' * 4 ^ k
      let x := isqrt v (Nat.log2 v / 2 + 1) 0
      F.round r .ieee false (2 * x + (if x * x = v then 0 else 1)) (e' / 2 - k - 1)

/-- a < b for values that are not NaN; `zero` says whether −0 lies below +0 (minimum and maximum). -/
def FpVal.lt (zero : Bool) (a b : FpVal) : Bool :=
  match a, b with
  | .inf n1, .inf n2 => n1 && !n2
  | .inf n, .fin .. => n
  | .fin .., .inf n => !n
  | .fin n1 m1 e1, .fin n2 m2 e2 =>
    let x := exactAdd n1 m1 e1 (!n2) m2 e2
    if m1 = 0 && m2 = 0 then zero && n1 && !n2 else decide (x.1 < 0)
  | _, _ => false

/-- Equality of values that are not NaN. -/
def FpVal.eqv (a b : FpVal) : Bool :=
  match a, b with
  | .inf n1, .inf n2 => n1 = n2
  | .fin n1 m1 e1, .fin n2 m2 e2 => (exactAdd n1 m1 e1 (!n2) m2 e2).1 = 0
  | _, _ => false

/-- Minimum or maximum (R264): one NaN gives the other operand, two the default NaN; −0 below +0. -/
def FpFmt.minmax (F : FpFmt) (isMax : Bool) (a b : Nat) : Nat × Nat :=
  let x := F.unpack a
  let y := F.unpack b
  let fl := flagsOr x.nv y.nv
  if x.isNan && y.isNan then (F.nan, fl)
  else if x.isNan then (b, fl)
  else if y.isNan then (a, fl)
  else (if (if isMax then x.lt true y else y.lt true x) then b else a, fl)

/-! ### Conversions to and from integers (R269) -/

/-- The range of an integer of `w` bits. -/
def intLo (w : Nat) (uns : Bool) : Int := if uns then 0 else -(2 ^ (w - 1) : Int)
def intHi (w : Nat) (uns : Bool) : Int := if uns then 2 ^ w - 1 else 2 ^ (w - 1) - 1

/-- Saturate to a range: the value, and whether it was out of range. -/
def clampInt (lo hi v : Int) : Int × Bool := if v < lo then (lo, true) else if hi < v then (hi, true) else (v, false)

/-- A float to an integer of `w` bits: `out` is the flag of a value out of range (NV scalar, SAT tile);
an infinity goes to the nearest bound, a NaN to 0 with NV. -/
def fpToInt (r : Rnd) (w : Nat) (uns : Bool) (out : Nat) (v : FpVal) : Int × Nat :=
  match v with
  | .nan _ => (0, fNV)
  | .inf n => (if n then intLo w uns else intHi w uns, out)
  | .fin n m e =>
    let x := roundAt r n m e 0
    let c := clampInt (intLo w uns) (intHi w uns) (if n then -(x.1 : Int) else x.1)
    (c.1, if c.2 then out else if x.2 then fNX else 0)

/-- An integer to a float. -/
def FpFmt.ofInt (F : FpFmt) (r : Rnd) (ov : Ovf) (v : Int) : Nat × Nat :=
  F.round r ov (decide (v < 0)) v.natAbs 0

/-! ### Seeded stochastic rounding (R267, R268) -/

/-- The random number of element e under a seed (R268). -/
def stochR (seed e : Nat) : Nat :=
  let m := 2 ^ 32
  let v := (seed % m) ^^^ ((e + 1) * 0x9E3779B9 % m)
  let v := v ^^^ (v / 2 ^ 16)
  let v := v * 0x85EBCA6B % m
  let v := v ^^^ (v / 2 ^ 13)
  let v := v * 0xC2B2AE35 % m
  let v := v ^^^ (v / 2 ^ 16)
  v / 2 ^ 16

/-- The next seed (R268). -/
def seedNext (seed : Nat) : Nat := (seed * 0x0019660D + 0x3C6EF35F) % 2 ^ 32

/-- TCTL.SEED and TCTL's other fields. -/
def Thread.seed (t : Thread) : Nat := t.tctl.toNat / 2 ^ 32
def Thread.tprecise (t : Thread) : Bool := t.tctl.toNat.testBit 8
def Thread.spillCode (t : Thread) : Nat := t.tctl.toNat % 8

/-- Set TCTL.SEED. -/
def Thread.setSeed (t : Thread) (v : Nat) : Thread :=
  { t with tctl := BitVec.ofNat 64 (v % 2 ^ 32 * 2 ^ 32 + t.tctl.toNat % 2 ^ 32) }

end Sys2Proof.Machine
end

