-- ==== Sys2Proof/Machine/TileOps.lean ====
section
/-! DEFINITION. Tile state and tile arithmetic: formats and geometry (R215, R216), encodings and shapes (R218,
R219, R229, R234, R253), the elementwise operations (R220), the coulter steps and spills (R236, R240, R241), the
epilogue (R243). -/

namespace Sys2Proof.Machine

/-! ### Formats (Table 9-1) -/

/-- Element width in half bytes. -/
def tW2 (code : Nat) : Nat :=
  match code with
  | 0 => 8 | 1 => 4 | 2 => 4 | 6 => 1 | 7 => 8
  | _ => 2

/-- Row pitch in bytes. -/
def tPitch (code : Nat) : Nat := if 4 ≤ tW2 code then 128 else 64

/-- Largest COLS. -/
def tMaxCols (code : Nat) : Nat := if tW2 code = 8 then 32 else 64

/-- Largest ROWS for a scope. -/
def tMaxRows (g : Bool) (code : Nat) : Nat :=
  if 4 ≤ tW2 code then (if g then 32 else 4) else (if g then 64 else 8)

/-- Float formats are codes 0x0 to 0x4. -/
def tIsFloat (code : Nat) : Bool := code ≤ 4

/-- The float format of a code. -/
def tFmt (code : Nat) : FpFmt :=
  match code with
  | 0 => fmtB32
  | 1 => fmtB16
  | 2 => fmtBf16
  | 3 => fmtE4M3
  | _ => fmtE5M2

/-- Bits of an element. -/
def tBits (code : Nat) : Nat := 4 * tW2 code

/-- Bytes of a row of `cols` elements. -/
def tRowBytes (code cols : Nat) : Nat := cols * tW2 code / 2

/-- The signed value of `w` bits. -/
def sval (w v : Nat) : Int := if 2 ^ (w - 1) ≤ v % 2 ^ w then ((v % 2 ^ w : Nat) : Int) - 2 ^ w else (v % 2 ^ w : Nat)

/-- The `w` bits of an integer. -/
def enc (w : Nat) (v : Int) : Nat := (v % 2 ^ w).toNat

/-! ### Tile units -/

/-- The tile unit of core n as a reset leaves it. -/
def freshTile (era : Option Nat) (n : Nat) : TileCore :=
  { frags := freshArray era n 0, silo := freshArray era n 1, spill := freshArray era n 2 }

/-- The tile unit of a core. -/
def State.tile (s : State) (n : Nat) : TileCore := findD (freshTile s.clk.era n) n s.tiles

/-- The tile unit of a core, replaced. -/
def State.setTile (s : State) (n : Nat) (t : TileCore) : State := { s with tiles := put n t s.tiles }

/-- Where row r of a tile lies in the fragment store (R215). -/
def rowBase (g : Bool) (ctx tile code r : Nat) : Nat :=
  if g then ((r % 8) * 8 + tile) * 512 + tPitch code * (r / 8) else (ctx * 8 + tile) * 512 + tPitch code * r

/-- An element of a row (R215). -/
def getElem (a : Sram) (base code c : Nat) : Nat :=
  if tW2 code = 1 then
    let b := (a.byte (base + c / 2)).toNat
    if c % 2 = 1 then b / 16 else b % 16
  else leNat (a.read (base + c * (tW2 code / 2)) (tW2 code / 2))

/-- Write an element of a row. -/
def putElem (a : Sram) (base code c v : Nat) : Sram :=
  if tW2 code = 1 then
    let b := (a.byte (base + c / 2)).toNat
    a.write (base + c / 2) [BitVec.ofNat 8 (if c % 2 = 1 then b % 16 + v % 16 * 16 else b / 16 * 16 + v % 16)]
  else a.write (base + c * (tW2 code / 2)) (leBytes (tW2 code / 2) v)

/-- The elements of a tile operand, row by row. -/
def readTile (a : Sram) (g : Bool) (ctx tile code rows cols : Nat) : List (List Nat) :=
  (List.range rows).map fun r => (List.range cols).map fun c => getElem a (rowBase g ctx tile code r) code c

/-- Write one row of elements. -/
def writeRow (a : Sram) (base code : Nat) : Nat → List Nat → Sram
  | _, [] => a
  | c, v :: r => writeRow (putElem a base code c v) base code (c + 1) r

/-- Write the elements of a shape (R217), from row `r` on. -/
def writeTile (a : Sram) (g : Bool) (ctx tile code : Nat) : Nat → List (List Nat) → Sram
  | _, [] => a
  | r, row :: rest => writeTile (writeRow a (rowBase g ctx tile code r) code 0 row) g ctx tile code (r + 1) rest

/-- Element (i, j) of a matrix. -/
def elemAt (m : List (List Nat)) (i j : Nat) : Nat := (m.getD i []).getD j 0

/-- A matrix of results and the union of their flags. -/
def tabulate (rows cols : Nat) (f : Nat → Nat → Nat × Nat) : List (List Nat) × Nat :=
  let m := (List.range rows).map fun i => (List.range cols).map fun j => f i j
  (m.map fun r => r.map (·.1), m.foldl (fun a r => r.foldl (fun a x => flagsOr a x.2) a) 0)

/-! ### Instruction words (Tables 9-2 and 9-3) -/

/-- The major opcode and function of a tile instruction (Tables 9-4 and 10-2). -/
def TFn.code : TFn → Nat × Nat
  | .tld => (0x30, 0) | .tst => (0x30, 1)
  | .tadd => (0x31, 0) | .tsub => (0x31, 1) | .tmul => (0x31, 2) | .tmin => (0x31, 3) | .tmax => (0x31, 4)
  | .tand => (0x31, 8) | .tor => (0x31, 9) | .txor => (0x31, 10)
  | .tmov => (0x32, 0) | .tcvt => (0x32, 1) | .tzero => (0x32, 2) | .tfill => (0x32, 3) | .tneg => (0x32, 4)
  | .tabs => (0x32, 5) | .tmuls => (0x32, 6) | .tadds => (0x32, 7)
  | .tget => (0x33, 1) | .tput => (0x33, 2)
  | .tmmp => (0x34, 0) | .tmma => (0x34, 1) | .texport => (0x34, 2) | .texportC => (0x34, 3)
  | .topen => (0x35, 0) | .tclose => (0x35, 1) | .tsave => (0x35, 2) | .trestore => (0x35, 3) | .tbind => (0x35, 4)

/-- A format M instruction. -/
def TFn.isM (f : TFn) : Bool := 0x34 ≤ f.code.1

/-- The instruction word that EADDR reports, first word in [31:0]. -/
def TileIns.word (i : TileIns) : Word :=
  let c := i.fn.code
  let g := if i.g then 2 ^ 20 else 0
  let first := c.1 * 2 ^ 26 + c.2 * 2 ^ 21 + g +
    (if i.fn.isM then i.grp * 2 ^ 16 + i.ta * 2 ^ 13 + i.tb * 2 ^ 10 + i.td * 2 ^ 7 + i.r1 * 4
     else i.td * 2 ^ 17 + i.ta * 2 ^ 14 + i.tb * 2 ^ 11 + i.r1 * 2 ^ 6 + i.r2 * 2)
  let shape := if i.fn = .tget || i.fn = .tput || i.fn = .tclose then 0
    else (i.rows - 1) * 2 ^ 26 + (i.cols - 1) * 2 ^ 20
  let second := shape +
    (if i.fn.isM then (i.k - 1) * 2 ^ 14 + i.fa * 2 ^ 10 + i.fb * 2 ^ 6 + i.rnd * 2 ^ 4 + i.x
     else i.fa * 2 ^ 16 + i.fb * 2 ^ 12 + i.fd * 2 ^ 8 + i.rnd * 2 ^ 6)
  BitVec.ofNat 64 (second * 2 ^ 32 + first)

/-! ### Encoding and shape checks (R229, R253) -/

/-- In-place conversion between pitches is not allowed (R220). -/
def TileIns.inPlaceOk (i : TileIns) (src fmt : Nat) : Bool := i.td ≠ src || tPitch i.fd = tPitch fmt

/-- The class of an accumulator: integer formats are 0x5 and 0x6. -/
def pairOk (fa fb : Nat) : Bool :=
  (fa = fb && (fa ≤ 2 || fa = 5 || fa = 6)) || ((fa = 3 || fa = 4) && (fb = 3 || fb = 4))

/-- The format TMMP writes to td: binary32 or int32. -/
def TileIns.accFmt (i : TileIns) : Nat := if tIsFloat i.fa then 0 else 7

/-- The encoding means something: otherwise ILLEGAL_OP. -/
def TileIns.encOk (i : TileIns) : Bool :=
  let a := decide (i.fa < 8)
  let b := decide (i.fb < 8)
  let d := decide (i.fd < 8)
  let r := decide (i.rnd < 2)
  let arith := a && b && d && r && i.fa = i.fb && tIsFloat i.fa = tIsFloat i.fd && i.inPlaceOk i.ta i.fa &&
    i.inPlaceOk i.tb i.fb
  let bits := a && b && d && i.fa = i.fb && i.fa = i.fd && !tIsFloat i.fa
  let scalar := a && d && r && tIsFloat i.fa = tIsFloat i.fd && i.inPlaceOk i.ta i.fa
  let exports := a && b && r && (i.x / 4 = 0 || i.fa = 0)
  match i.fn with
  | .tld => d
  | .tst => a
  | .tadd => arith | .tsub => arith | .tmul => arith | .tmin => arith | .tmax => arith
  | .tand => bits | .tor => bits | .txor => bits
  | .tmov => a && d && i.fa = i.fd
  | .tneg => a && d && i.fa = i.fd
  | .tabs => a && d && i.fa = i.fd
  | .tcvt => a && d && r && i.inPlaceOk i.ta i.fa
  | .tzero => d
  | .tfill => d
  | .tmuls => scalar | .tadds => scalar
  | .tget => !i.g
  | .tput => !i.g
  | .tmmp => pairOk i.fa i.fb && i.rnd = 0 && decide (i.x < 2) && i.td ≠ i.ta && i.td ≠ i.tb
  | .tmma => pairOk i.fa i.fb && i.rnd = 0
  | .texport => exports
  | .texportC => exports
  | .topen => !i.g && a && i.fa ≠ 7
  | .tclose => !i.g
  | .tsave => !i.g
  | .trestore => !i.g
  | .tbind => !i.g

/-- One operand fits Table 9-1. -/
def operandOk (g : Bool) (code rows cols : Nat) : Bool :=
  decide (rows ≤ tMaxRows g code) && decide (cols ≤ tMaxCols code) && (code ≠ 6 || cols % 2 = 0)

/-- Every operand fits its format: otherwise TILE_SHAPE. -/
def TileIns.shapeOk (i : TileIns) : Bool :=
  let op (code : Nat) : Bool := operandOk i.g code i.rows i.cols
  let ab := operandOk i.g i.fa i.rows i.k && operandOk i.g i.fb i.cols i.k
  match i.fn with
  | .tld => op i.fd
  | .tst => op i.fa
  | .tzero => op i.fd
  | .tfill => op i.fd
  | .tmov => op i.fa
  | .tneg => op i.fa
  | .tabs => op i.fa
  | .tcvt => op i.fa && op i.fd
  | .tmuls => op i.fa && op i.fd
  | .tadds => op i.fa && op i.fd
  | .tadd => op i.fa && op i.fd
  | .tsub => op i.fa && op i.fd
  | .tmul => op i.fa && op i.fd
  | .tmin => op i.fa && op i.fd
  | .tmax => op i.fa && op i.fd
  | .tand => op i.fa
  | .tor => op i.fa
  | .txor => op i.fa
  | .tmmp => ab && op i.accFmt
  | .tmma => ab
  | .texport => op i.fb
  | .texportC => op i.fb
  | _ => true

/-- Whether an instruction may round stochastically, and so uses and advances the seed (R268). -/
def TileIns.stochastic (i : TileIns) : Bool := i.rnd = 1

/-! ### Elementwise operations (R220) -/

/-- The rounding of element (i, j) of an instruction (R266, R268). -/
def tRnd (rnd seed i j : Nat) : Rnd := if rnd = 1 then .stoch (stochR seed (64 * i + j)) else .rne

/-- A value saturated to an integer format. -/
def tClamp (code : Nat) (v : Int) : Nat × Nat :=
  let c := clampInt (intLo (tBits code) false) (intHi (tBits code) false) v
  (enc (tBits code) c.1, if c.2 then fSAT else 0)

/-- A value converted to a format as TCVT and step 4 of TEXPORT do (R269). -/
def tConvert (r : Rnd) (fd : Nat) (v : FpVal) : Nat × Nat :=
  if tIsFloat fd then (tFmt fd).roundVal r .saturate v
  else
    let x := fpToInt r (tBits fd) false fSAT v
    (enc (tBits fd) x.1, x.2)

/-- TCVT of one element. -/
def tCvt (r : Rnd) (fa fd v : Nat) : Nat × Nat :=
  if tIsFloat fa then tConvert r fd ((tFmt fa).unpack v)
  else if tIsFloat fd then (tFmt fd).ofInt r .saturate (sval (tBits fa) v)
  else tClamp fd (sval (tBits fa) v)

/-- A binary arithmetic operation of Table 9-4 on values of format fa. -/
inductive TBin where
  | add | sub | mul | min | max
deriving DecidableEq, Repr

/-- A binary operation on float values, rounded once to fd. -/
def tFloatBin (op : TBin) (r : Rnd) (fd : Nat) (a b : FpVal) : Nat × Nat :=
  let F := tFmt fd
  match op with
  | .add => F.addVal r .toInf a b
  | .sub => F.addVal r .toInf a b.neg
  | .mul => F.mulVal r .toInf a b
  | .min =>
    let fl := flagsOr a.nv b.nv
    let x := F.roundVal r .toInf (if a.isNan then b else if b.isNan then a else if b.lt true a then b else a)
    (x.1, flagsOr fl x.2)
  | .max =>
    let fl := flagsOr a.nv b.nv
    let x := F.roundVal r .toInf (if a.isNan then b else if b.isNan then a else if a.lt true b then b else a)
    (x.1, flagsOr fl x.2)

/-- A binary operation on integers, exact. -/
def tIntBin (op : TBin) (a b : Int) : Int :=
  match op with
  | .add => a + b
  | .sub => a - b
  | .mul => a * b
  | .min => min a b
  | .max => max a b

/-- A binary operation on elements. -/
def tBin (op : TBin) (r : Rnd) (fa fd a b : Nat) : Nat × Nat :=
  if tIsFloat fa then tFloatBin op r fd ((tFmt fa).unpack a) ((tFmt fa).unpack b)
  else tClamp fd (tIntBin op (sval (tBits fa) a) (sval (tBits fa) b))

/-- A binary operation of an element with the scalar gs1[31:0] (binary32 or int32). -/
def tScalar (op : TBin) (r : Rnd) (fa fd a sc : Nat) : Nat × Nat :=
  if tIsFloat fa then tFloatBin op r fd ((tFmt fa).unpack a) (fmtB32.unpack sc)
  else tClamp fd (tIntBin op (sval (tBits fa) a) (sval 32 sc))

/-- TNEG and TABS: the sign bit of a float, the saturated value of an integer (R264, R270). -/
def tNeg (fa a : Nat) : Nat × Nat :=
  if tIsFloat fa then ((tFmt fa).sign (!(decide (a / (tFmt fa).signBit % 2 = 1))) (a % (tFmt fa).signBit), 0)
  else tClamp fa (-(sval (tBits fa) a))
def tAbs (fa a : Nat) : Nat × Nat :=
  if tIsFloat fa then (a % (tFmt fa).signBit, 0) else tClamp fa (sval (tBits fa) a).natAbs

/-! ### Coulter steps (R236) and spills (R240, R241) -/

/-- One step of an accumulator. -/
def coulterStep (fa fb : Nat) (acc a b : Nat) : Nat × Nat :=
  if tIsFloat fa then
    fmtB32.fmaVal .rne .toInf ((tFmt fa).unpack a) ((tFmt fb).unpack b) (fmtB32.unpack acc)
  else (enc 32 (sval 32 acc + sval (tBits fa) a * sval (tBits fb) b), 0)

/-- The total of an accumulator and its spill entry. -/
def total (int : Bool) (acc spill : Nat) : Nat × Nat :=
  if int then
    let c := clampInt (intLo 64 false) (intHi 64 false) (sval 64 spill + sval 32 acc)
    (enc 64 c.1, if c.2 then fSAT else 0)
  else fmtB64.addVal .rne .toInf (fmtB64.unpack spill) (fmtB32.unpack acc)

/-- The interval of a SPILL code (Table 10-3). -/
def spillSteps (code : Nat) : Nat := 16 * 2 ^ code

/-- The steps of one accumulator through the pairs of operands, with its spill points: the accumulator, the
spill entry and the flags. `phase` counts the steps done. -/
def accumulate (int : Bool) (fa fb S : Nat) : List (Nat × Nat) → (phase acc spill fl : Nat) → Nat × Nat × Nat
  | [], _, acc, spill, fl => (acc, spill, fl)
  | p :: r, phase, acc, spill, fl =>
    let x := coulterStep fa fb acc p.1 p.2
    let fl := flagsOr fl x.2
    if (phase + 1) % S = 0 then
      let t := total int x.1 spill
      accumulate int fa fb S r (phase + 1) 0 t.1 (flagsOr fl t.2)
    else accumulate int fa fb S r (phase + 1) x.1 spill fl

/-- A pass-through sum: from its start, `int` exactly and then saturated to int32 (R242). -/
def passThrough (fa fb : Nat) (start : Nat) (ps : List (Nat × Nat)) : Nat × Nat :=
  if tIsFloat fa then
    ps.foldl (fun (x : Nat × Nat) p => let y := coulterStep fa fb x.1 p.1 p.2; (y.1, flagsOr x.2 y.2)) (start, 0)
  else
    tClamp 7 (ps.foldl (fun v p => v + sval (tBits fa) p.1 * sval (tBits fb) p.2) (sval 32 start))

/-! ### The silo (R237, R258) -/

/-- Where accumulator (i, j) of a group lies: row × 32 + lane. -/
def siloSlot (base cols i j : Nat) : Nat := (base + i * ((cols + 31) / 32) + j / 32) * 32 + j % 32

/-- Silo rows of a shape. -/
def siloRows (rows cols : Nat) : Nat := rows * ((cols + 31) / 32)

/-- An accumulator and a spill entry. -/
def TileCore.acc (t : TileCore) (slot : Nat) : Nat := leNat (t.silo.read (4 * slot) 4)
def TileCore.spl (t : TileCore) (slot : Nat) : Nat := leNat (t.spill.read (8 * slot) 8)
def TileCore.setAcc (t : TileCore) (slot v : Nat) : TileCore :=
  { t with silo := t.silo.write (4 * slot) (leBytes 4 v) }
def TileCore.setSpl (t : TileCore) (slot v : Nat) : TileCore :=
  { t with spill := t.spill.write (8 * slot) (leBytes 8 v) }

/-- +0 into the rows of a group (R238). -/
def TileCore.zeroRows (t : TileCore) (base u : Nat) : TileCore :=
  { t with silo := t.silo.write (128 * base) (List.replicate (128 * u) 0),
           spill := t.spill.write (256 * base) (List.replicate (256 * u) 0) }

/-- The elements of a shape in index order i × COLS + j. -/
def shapeList (rows cols : Nat) : List (Nat × Nat) :=
  (List.range rows).flatMap fun i => (List.range cols).map fun j => (i, j)

/-! ### The epilogue (R243) -/

/-- The scale or bias of column j: row `row` + j div 32, element j mod 32 of the rows read from ta. -/
def epilogueArg (rows : List (List Nat)) (row j : Nat) : Nat := elemAt rows (row + j / 32) (j % 32)

/-- A binary64 result as a value. -/
def b64Val (x : Nat × Nat) : FpVal × Nat := (fmtB64.unpack x.1, x.2)

/-- Steps 2 and 3: scale, bias, activation. `alpha` is gs1[31:0]. -/
def epilogueAct (x sj bj alpha : Nat) (y : FpVal) : FpVal × Nat :=
  let s := fmtB32.unpack sj
  let b := fmtB32.unpack bj
  let (y, fl) :=
    if x.testBit 2 && x.testBit 3 then b64Val (fmtB64.fmaVal .rne .toInf y s b)
    else if x.testBit 2 then b64Val (fmtB64.mulVal .rne .toInf y s)
    else if x.testBit 3 then b64Val (fmtB64.addVal .rne .toInf y b)
    else (y, 0)
  let a := fmtB32.unpack alpha
  let zero : FpVal := .fin false 0 0
  match x % 4 with
  | 0 => (y, fl)
  | 1 => (if y.isNan then y else if zero.lt false y then y else zero, fl)
  | 2 =>
    if !y.isNan && y.lt false zero then
      let z := b64Val (fmtB64.mulVal .rne .toInf y a)
      (z.1, flagsOr fl z.2)
    else (y, fl)
  | _ =>
    if a.isNan || a.lt false zero then (.nan false, flagsOr fl fNV)
    else if y.isNan then (y, fl)
    else if a.lt false y then (a, fl)
    else if y.lt false a.neg then (a.neg, fl)
    else (y, fl)

/-- The epilogue of one total, to format fb (R243): in the integer class without scale and bias, and with an integer fb, the
total is saturated to fb first. -/
def epilogue (int : Bool) (x fb t sj bj alpha : Nat) (r : Rnd) : Nat × Nat :=
  if int && x / 4 = 0 && !tIsFloat fb then
    let v := sval 64 t
    let c := tConvert r fb (.fin (decide (v < 0)) v.natAbs 0)
    let w := sval (tBits fb) c.1
    let a := epilogueAct x sj bj alpha (.fin (decide (w < 0)) w.natAbs 0)
    let y := tConvert r fb a.1
    (y.1, flagsOr c.2 (flagsOr a.2 y.2))
  else
    let c := if int then fmtB64.ofInt .rne .toInf (sval 64 t) else (t, 0)
    let a := epilogueAct x sj bj alpha (fmtB64.unpack c.1)
    let y := tConvert r fb a.1
    (y.1, flagsOr c.2 (flagsOr a.2 y.2))

end Sys2Proof.Machine
end

