-- ==== Sys2Proof/Machine/BinderOps.lean ====
section
/-! DEFINITION. Binder (R248 to R251, R255): its areas, its additions, its completion word and its failures. -/

namespace Sys2Proof.Machine

/-- A Binder operation. -/
def State.bndOp (s : State) (n : Nat) : BndOp := findD {} n s.bnd

/-- A Binder operation, replaced. -/
def State.setBnd (s : State) (n : Nat) (b : BndOp) : State := { s with bnd := put n b s.bnd }

/-- Slots, elements, and the areas of an operation. -/
def State.bndSlots (s : State) (n : Nat) : Nat := s.f BND_OP_CTL.N n + 1
def State.bndElems (s : State) (n : Nat) : Nat := s.f BND_OP_CTL.E n + 1
def State.bndScratch (s : State) (n : Nat) : Nat := s.f BND_OP_SCRATCH.ADDR n * 64
def State.bndResult (s : State) (n : Nat) : Nat := s.f BND_OP_RESULT.ADDR n * 64

/-- STAT shows the operation. A failed one reads BUSY 0, its failed round counting as over: the model's choice
(notes/assumptions/35). -/
def State.bndStat (s : State) (n : Nat) : State :=
  let b := s.bndOp n
  let s := (s.setF BND_OP_STAT.ARRIVED n b.slots.length).setOn BND_OP_STAT.POISON n b.poison
  s.setOn BND_OP_STAT.BUSY n (!b.slots.isEmpty && !s.on BND_OP_STAT.FAILED n)

/-- The next write of a line is failed by its link (Table 12-5). -/
def State.writeFails (s : State) (line : Nat) : Bool := (s.recall line).res = .linkFail

/-- Write bytes of Normal memory from a physical address on, line by line, as R200 states; false where a line is not
Granary memory of Normal type, or its write fails on the link. -/
def State.writeNormal (s : State) (pa src : Nat) : Nat → List Byte → Bool × State
  | 0, _ => (true, s)
  | fuel + 1, b =>
    if b.isEmpty then (true, s)
    else
      match s.region pa with
      | .normal .. =>
        let k := pa % 64
        let n := min (64 - k) b.length
        let bad := s.writeFails (pa / 64)
        let s := s.coherentWrite (pa / 64) (maskOf k n) (List.replicate k 0 ++ b.take n) src
        if bad then (false, s) else s.writeNormal (pa + n) src fuel (b.drop n)
      | _ => (false, s)

/-- A write of Binder (SRC 3). -/
def State.bndWrite (s : State) (pa : Nat) (b : List Byte) : Bool × State := s.writeNormal pa 3 (b.length / 64 + 2) b

/-- One addition (R249). -/
def bndAdd (int : Bool) (a b : Nat) : Nat × Bool :=
  if int then
    let c := clampInt (intLo 64 false) (intHi 64 false) (sval 64 a + sval 64 b)
    (enc 64 c.1, c.2)
  else ((fmtB64.addVal .rne .toInf (fmtB64.unpack a) (fmtB64.unpack b)).1, false)

/-- Element by element; true: an addition saturated. -/
def bndAddAll (int : Bool) : List Nat → List Nat → List Nat × Bool
  | a :: r, b :: t =>
    let x := bndAdd int a b
    let y := bndAddAll int r t
    (x.1 :: y.1, x.2 || y.2)
  | _, _ => ([], false)

/-- The completion word (R250). -/
def State.bndWord (s : State) (n reason : Nat) (failed : Bool) : Nat :=
  let b := s.bndOp n
  (if failed then 2 ^ 63 else 0) + (if b.poison then 2 ^ 62 else 0) + (if b.sat then 2 ^ 61 else 0)
    + reason * 2 ^ 58 + s.f BND_OP_STAT.ROUND n

/-- BINDER_DONE in every local thread that has contributed. -/
def State.bndDone (s : State) (n : Nat) : State := (s.bndOp n).threads.foldl (fun s h => s.raiseAsync h cBinderDone) s

/-- The operation fails on this package (R255): combining stops, the completion word is written with FAILED, and
BINDER_DONE is raised. It stays failed until its CTL is written. -/
def State.bndFail (s : State) (n reason : Nat) : State :=
  if s.on BND_OP_STAT.FAILED n then s
  else
    let w := s.bndWord n reason true
    let s := (s.bndWrite (s.bndResult n + 8 * s.bndElems n) (leBytes 8 w)).2
    ((s.setOn BND_OP_STAT.FAILED n true).bndStat n).bndDone n

/-- A contribution arrives whole in Binder (R248, R255): `h` is the local thread that issued the TBIND. -/
def State.bndArrive (s : State) (n slot : Nat) (vals : List Nat) (poison : Bool) (h : Option Nat) : State :=
  let b := s.bndOp n
  let b := match h with
    | some h => if b.threads.contains h then b else { b with threads := b.threads ++ [h] }
    | none => b
  let s := s.setBnd n b
  if s.on BND_OP_STAT.FAILED n then
    (match h with | some h => s.raiseAsync h cBinderDone | none => s)
  else if (find slot b.slots).isSome then s.bndFail n 1
  else
    let (ok, s) := s.bndWrite (s.bndScratch n + 8 * s.bndElems n * slot) (vals.flatMap (leBytes 8))
    if !ok then s.bndFail n 2
    else (s.setBnd n { b with slots := put slot vals b.slots, poison := b.poison || poison }).bndStat n

/-! ### Combining (Table 10-6) -/

/-- How many values a level of the tree has. -/
def levelWidth (n : Nat) : Nat → Nat
  | 0 => n
  | l + 1 => (levelWidth n l + 1) / 2

/-- Levels above the slots: 4,096 slots need twelve. -/
def treeTop (n : Nat) : Nat := ((List.range 13).find? fun l => levelWidth n l ≤ 1).getD 0

/-- A value of the tree. -/
def BndOp.at (b : BndOp) (l m : Nat) : Option (List Nat) := if l = 0 then find m b.slots else find (4096 * l + m) b.nodes

/-- The addition that is possible next in tree mode: the node and its operands, or the value that passes up. -/
def BndOp.nextTree (b : BndOp) (n : Nat) : Option (Nat × List Nat × Option (List Nat)) :=
  ((List.range (treeTop n)).flatMap fun l => (List.range (levelWidth n (l + 1))).map fun m => (l + 1, m)).findSome?
    fun x =>
      if (b.at x.1 x.2).isSome then none
      else
        match b.at (x.1 - 1) (2 * x.2) with
        | none => none
        | some u =>
          if levelWidth n (x.1 - 1) ≤ 2 * x.2 + 1 then some (4096 * x.1 + x.2, u, none)
          else
            match b.at (x.1 - 1) (2 * x.2 + 1) with
            | none => none
            | some v => some (4096 * x.1 + x.2, u, some v)

/-- The addition that is possible next in chain mode. -/
def BndOp.nextChain (b : BndOp) : Option (Nat × List Nat × Option (List Nat)) :=
  let p := b.nodes.length
  match find p b.slots with
  | none => none
  | some v => if p = 0 then some (0, v, none) else some (p, findD [] (p - 1) b.nodes, some v)

/-- The result of a round, once every slot has arrived and every addition is done. -/
def State.bndValue (s : State) (n : Nat) : Option (List Nat) :=
  let b := s.bndOp n
  let k := s.bndSlots n
  if b.slots.length < k then none
  else if s.on BND_OP_CTL.MODE n then b.at (treeTop k) 0
  else find (k - 1) b.nodes

/-- BINDER_COMBINE (R249): Binder performs one addition whose operands are available. -/
def execBinderCombine (op : Fin 64) (s : State) : Out :=
  .next <|
    let b := s.bndOp op
    if s.on BND_OP_STAT.FAILED op then s
    else
      match (if s.on BND_OP_CTL.MODE op then b.nextTree (s.bndSlots op) else b.nextChain) with
      | none => s
      | some (key, u, none) => s.setBnd op { b with nodes := put key u b.nodes }
      | some (key, u, some v) =>
        let r := bndAddAll (s.on BND_OP_CTL.INT op) u v
        s.setBnd op { b with nodes := put key r.1 b.nodes, sat := b.sat || r.2 }

/-- The next round begins (R250). -/
def State.bndNext (s : State) (n : Nat) : State := ((s.wrapInc BND_OP_STAT.ROUND n).setBnd n {}).bndStat n

/-- A write of BND_OPn_CTL (R259, Table 10-8). -/
def State.bndCtl (s : State) (n : Nat) (v mode int : Bool) (slots elems : Nat) : State :=
  let s := ((s.setOn BND_OP_CTL.V n v).setOn BND_OP_CTL.MODE n mode).setOn BND_OP_CTL.INT n int
  let s := (s.setF BND_OP_CTL.N n slots).setF BND_OP_CTL.E n elems
  (((s.setOn BND_OP_STAT.FAILED n false).setF BND_OP_STAT.ROUND n 0).setBnd n {}).bndStat n

/-- BND_OPN_CTL (R259): only Drill may write it. -/
def execBndOpnCtl (agent : Agent) (op : Fin 64) (v mode int : Bool) (slots elems : BitVec 12) (s : State) : Out :=
  .next (if !s.acts agent then s
         else if agent = .drill then s.bndCtl op v mode int slots.toNat elems.toNat
         else s.writeDropped agent (0x1000 + 0x40 * op.val))

end Sys2Proof.Machine
end

