-- ==== Sys2Proof/Machine/Tile.lean ====
section
/-! DEFINITION. The tile unit: tile, coulter and silo instructions up to acceptance (R224, R239), the tile queue
(R225, R247), dispatch and completion, tile memory segments (R221 to R223, R244), TSYNC and the flags (R226,
R227). -/

namespace Sys2Proof.Machine

/-! ### Memory segments -/

/-- Cut a span at 64-byte line boundaries: address and length. Each step takes at least one byte; a row has at
most 1,024. -/
def cutLines : Nat → Nat → Nat → List (Nat × Nat)
  | 0, _, _ => []
  | fuel + 1, a, n =>
    if n = 0 then [] else
      let k := min n (64 - a % 64)
      (a, k) :: cutLines fuel (a + k) (n - k)

/-- The segments of a row. -/
def rowSegs (row : Nat) (va : Word) (len : Nat) : List TSeg :=
  (cutLines (len / 64 + 2) va.toNat len).map fun x =>
    { row := row, off := x.1 - va.toNat, va := BitVec.ofNat 64 x.1, len := x.2 }

/-- Bytes of a group image (R244). -/
def imageBytes (rows cols : Nat) : Nat := 64 + 12 * rows * cols

/-- TSAVE and TRESTORE. -/
def TFn.isImage (f : TFn) : Bool := f = .tsave || f = .trestore

/-- A tile instruction that accesses memory. -/
def TFn.isMem (f : TFn) : Bool := f = .tld || f = .tst || f.isImage

/-- A tile instruction that reads memory. -/
def TFn.isRead (f : TFn) : Bool := f = .tld || f = .trestore

/-- The segments of a TLD, TST, TSAVE or TRESTORE, in ascending order of rows. -/
def TileIns.segs (i : TileIns) : List TSeg :=
  match i.fn with
  | .tld => (List.range i.rows).flatMap fun r =>
      rowSegs r (i.v1 + BitVec.ofNat 64 r * i.v2) (tRowBytes i.fd i.cols)
  | .tst => (List.range i.rows).flatMap fun r =>
      rowSegs r (i.v1 + BitVec.ofNat 64 r * i.v2) (tRowBytes i.fa i.cols)
  | .tsave => rowSegs 0 i.v1 (imageBytes i.rows i.cols)
  | .trestore => rowSegs 0 i.v1 (imageBytes i.rows i.cols)
  | _ => []

/-- MISALIGNED (R221, R244): the address that EADDR holds. -/
def TileIns.misaligned (i : TileIns) : Option Word :=
  if i.fn.isImage then (if i.v1.toNat % 64 ≠ 0 then some i.v1 else none)
  else if i.fn.isMem then
    let w := tW2 (if i.fn = .tld then i.fd else i.fa) / 2
    if w < 2 then none
    else if i.v1.toNat % w ≠ 0 then some i.v1
    else if i.v2.toNat % w ≠ 0 then some (if i.rows = 1 then i.v1 else i.v1 + i.v2)
    else none
  else none

/-- The memory types that a tile access may have (R221, R244); a hole meets its decode error later (R230). -/
def Region.tileOk (r : Region) (image : Bool) : Bool :=
  match r with
  | .normal .. => true
  | .seedbox .. => true
  | .direct .. => !image
  | .hole => true
  | _ => false

/-- What translating the segments of an instruction gives. -/
inductive TResolved where
  | segs (l : List TSeg)
  | walk (va : Word)
  | fault (va : Word)
deriving DecidableEq, Repr

/-- Translate segments in order (step 3 of R224, R230). -/
def State.tResolve (s : State) (h : Nat) (a : Access) (image : Bool) : List TSeg → TResolved
  | [] => .segs []
  | g :: r =>
    match s.look h g.va a with
    | .bad => .fault g.va
    | .miss => .walk g.va
    | .pa pa leaf =>
      if s.denied h (s.thread h).ring a pa leaf || !(s.region pa).tileOk image then .fault g.va
      else
        match s.tResolve h a image r with
        | .segs l => .segs ({ g with pa := pa, uc := (leaf.map entUc).getD false } :: l)
        | x => x

/-! ### Accumulation groups (R237 to R239) -/

/-- The instance of FUR_GRPk_g of a core. -/
def grpInst (n g : Nat) : Nat := n * 16 + g

/-- What the checks at RT need of a group. -/
structure GrpView where
  isOpen : Bool
  int    : Bool
  rows   : Nat
  cols   : Nat
  base   : Nat
deriving DecidableEq, Repr

/-- A group as the registers show it. -/
def State.grpShown (s : State) (n g : Nat) : GrpView :=
  let i := grpInst n g
  { isOpen := s.on FUR_GRP.OPEN i, int := s.on FUR_GRP.INT i, rows := s.f FUR_GRP.ROWS i + 1,
    cols := s.f FUR_GRP.COLS i + 1, base := s.f FUR_GRP.BASE i }

/-- Integer class of a format (Table 10-1). -/
def tIsInt (code : Nat) : Bool := code = 5 || code = 6

/-- What an accepted instruction leaves of a group at its acceptance (R239). -/
def GrpView.after (v : GrpView) (g : Nat) (e : TileEntry) : GrpView :=
  if e.ins.grp ≠ g then v
  else
    match e.ins.fn with
    | .topen => { isOpen := true, int := tIsInt e.ins.fa, rows := e.ins.rows, cols := e.ins.cols, base := e.base }
    | .tclose => { v with isOpen := false }
    | .texportC => { v with isOpen := false }
    | _ => v

/-- A group as the instructions accepted so far leave it. -/
def State.grpView (s : State) (n g : Nat) : GrpView :=
  (s.tile n).queue.foldl (fun v e => v.after g e) (s.grpShown n g)

/-- Rows of a group. -/
def GrpView.units (v : GrpView) : Nat := siloRows v.rows v.cols

/-- Two row ranges meet. -/
def rangesMeet (a u b w : Nat) : Bool := decide (a < b + w) && decide (b < a + u)

/-- BASE of a TOPEN. -/
def TileIns.baseOf (i : TileIns) : Nat := i.v1.toNat % 1024

/-- The checks that depend on group and Binder state (R238, R239, R248, R253): the cause and EADDR. -/
def State.grpCheck (s : State) (h : Nat) (i : TileIns) : Option (Nat × Word) :=
  let n := coreOf h
  let v := s.grpView n i.grp
  let shape := i.rows = v.rows && i.cols = v.cols
  let need (ok : Bool) : Option (Nat × Word) := if v.isOpen && ok then none else some (cTileShape, i.word)
  match i.fn with
  | .topen =>
    let u := siloRows i.rows i.cols
    let clash := (List.range 16).any fun g =>
      let w := s.grpView n g
      w.isOpen && rangesMeet i.baseOf u w.base w.units
    if v.isOpen || decide (1024 < i.baseOf + u) || clash then some (cSiloGroup, 0) else none
  | .tclose => need true
  | .tmma => need (shape && tIsInt i.fa = v.int)
  | .texport => need shape
  | .texportC => need shape
  | .tsave => need shape
  | .trestore => need shape
  | .tbind =>
    let op := i.v1.toNat / 4096 % 64
    need (shape && s.on BND_OP_CTL.V op && s.f BND_OP_PLOT.PLOT op = s.plotOf h &&
      decide (i.v1.toNat % 4096 ≤ s.f BND_OP_CTL.N op) && s.f BND_OP_CTL.E op + 1 = i.rows * i.cols &&
      s.on BND_OP_CTL.INT op = v.int)
  | _ => none

/-! ### Up to RT (R224, R229) -/

/-- The group checks of an instruction that accesses memory, which rank before its address checks (R229, R239). -/
def State.imageCheck (s : State) (h : Nat) (i : TileIns) : Bool := i.fn.isImage && (s.grpCheck h i).isSome

/-- A tile instruction reaches RT: ILLEGAL_OP (on a Drill core, always), TILE_SHAPE, MISALIGNED, then translation; then it
waits for the tile unit. -/
def State.tileInstr (s : State) (h : Nat) (mk : Thread → TileIns) : Out :=
  s.instr h fun t s =>
    let i := mk t
    if drillCore (coreOf h) || !i.encOk then s.fault h cIllegalOp i.word
    else if !i.shapeOk || s.imageCheck h i then s.fault h cTileShape i.word
    else
      match i.misaligned with
      | some va => s.fault h cMisaligned va
      | none =>
        let a : Access := if i.fn.isRead then .load else .store
        match s.tResolve h a i.fn.isImage i.segs with
        | .fault va => s.fault h a.fault va
        | .walk va => s.startWalk h va va a 0 false
        | .segs l => s.setHold h (some (.tile i l))

/-- The rows, columns or K that a field holds. -/
def dim (v : BitVec 6) : Nat := v.toNat + 1

/-- TLD (R219, R221). -/
def execTld (h : Tid) (g : Bool) (rows cols : BitVec 6) (fd : BitVec 4) (td : Fin 8) (gs1 gs2 : Reg5) (s : State) : Out :=
  s.tileInstr h fun t =>
    { fn := .tld, g := g, rows := dim rows, cols := dim cols, fd := fd.toNat, td := td, r1 := gs1, r2 := gs2,
      v1 := t.readG gs1, v2 := t.readG gs2 }
/-- TST (R219, R221). -/
def execTst (h : Tid) (g : Bool) (rows cols : BitVec 6) (fa : BitVec 4) (ta : Fin 8) (gs1 gs2 : Reg5) (s : State) : Out :=
  s.tileInstr h fun t =>
    { fn := .tst, g := g, rows := dim rows, cols := dim cols, fa := fa.toNat, ta := ta, r1 := gs1, r2 := gs2,
      v1 := t.readG gs1, v2 := t.readG gs2 }

/-- A 0x31 instruction. -/
def State.tile3 (s : State) (fn : TFn) (h : Tid) (g : Bool) (rows cols : BitVec 6) (fa fb fd : BitVec 4) (rnd : BitVec 2)
    (td ta tb : Fin 8) : Out :=
  s.tileInstr h fun _ =>
    { fn := fn, g := g, rows := dim rows, cols := dim cols, fa := fa.toNat, fb := fb.toNat, fd := fd.toNat,
      rnd := rnd.toNat, td := td, ta := ta, tb := tb }

def execTadd (h : Tid) (g : Bool) (rows cols : BitVec 6) (fa fb fd : BitVec 4) (rnd : BitVec 2) (td ta tb : Fin 8)
    (s : State) : Out := s.tile3 .tadd h g rows cols fa fb fd rnd td ta tb
def execTsub (h : Tid) (g : Bool) (rows cols : BitVec 6) (fa fb fd : BitVec 4) (rnd : BitVec 2) (td ta tb : Fin 8)
    (s : State) : Out := s.tile3 .tsub h g rows cols fa fb fd rnd td ta tb
def execTmul (h : Tid) (g : Bool) (rows cols : BitVec 6) (fa fb fd : BitVec 4) (rnd : BitVec 2) (td ta tb : Fin 8)
    (s : State) : Out := s.tile3 .tmul h g rows cols fa fb fd rnd td ta tb
def execTmin (h : Tid) (g : Bool) (rows cols : BitVec 6) (fa fb fd : BitVec 4) (rnd : BitVec 2) (td ta tb : Fin 8)
    (s : State) : Out := s.tile3 .tmin h g rows cols fa fb fd rnd td ta tb
def execTmax (h : Tid) (g : Bool) (rows cols : BitVec 6) (fa fb fd : BitVec 4) (rnd : BitVec 2) (td ta tb : Fin 8)
    (s : State) : Out := s.tile3 .tmax h g rows cols fa fb fd rnd td ta tb
def execTand (h : Tid) (g : Bool) (rows cols : BitVec 6) (fa fb fd : BitVec 4) (td ta tb : Fin 8) (s : State) : Out :=
  s.tile3 .tand h g rows cols fa fb fd 0 td ta tb
def execTor (h : Tid) (g : Bool) (rows cols : BitVec 6) (fa fb fd : BitVec 4) (td ta tb : Fin 8) (s : State) : Out :=
  s.tile3 .tor h g rows cols fa fb fd 0 td ta tb
def execTxor (h : Tid) (g : Bool) (rows cols : BitVec 6) (fa fb fd : BitVec 4) (td ta tb : Fin 8) (s : State) : Out :=
  s.tile3 .txor h g rows cols fa fb fd 0 td ta tb

/-- A 0x32 instruction. -/
def State.tile2 (s : State) (fn : TFn) (h : Tid) (g : Bool) (rows cols : BitVec 6) (fa fd : BitVec 4) (rnd : BitVec 2)
    (td ta : Fin 8) (gs1 : Reg5) : Out :=
  s.tileInstr h fun t =>
    { fn := fn, g := g, rows := dim rows, cols := dim cols, fa := fa.toNat, fd := fd.toNat, rnd := rnd.toNat,
      td := td, ta := ta, r1 := gs1, v1 := t.readG gs1 }

def execTmov (h : Tid) (g : Bool) (rows cols : BitVec 6) (fa fd : BitVec 4) (td ta : Fin 8) (s : State) : Out :=
  s.tile2 .tmov h g rows cols fa fd 0 td ta 0
def execTcvt (h : Tid) (g : Bool) (rows cols : BitVec 6) (fa fd : BitVec 4) (rnd : BitVec 2) (td ta : Fin 8) (s : State) :
    Out := s.tile2 .tcvt h g rows cols fa fd rnd td ta 0
def execTzero (h : Tid) (g : Bool) (rows cols : BitVec 6) (fd : BitVec 4) (td : Fin 8) (s : State) : Out :=
  s.tile2 .tzero h g rows cols 0 fd 0 td 0 0
def execTfill (h : Tid) (g : Bool) (rows cols : BitVec 6) (fd : BitVec 4) (td : Fin 8) (gs1 : Reg5) (s : State) : Out :=
  s.tile2 .tfill h g rows cols 0 fd 0 td 0 gs1
def execTneg (h : Tid) (g : Bool) (rows cols : BitVec 6) (fa fd : BitVec 4) (td ta : Fin 8) (s : State) : Out :=
  s.tile2 .tneg h g rows cols fa fd 0 td ta 0
def execTabs (h : Tid) (g : Bool) (rows cols : BitVec 6) (fa fd : BitVec 4) (td ta : Fin 8) (s : State) : Out :=
  s.tile2 .tabs h g rows cols fa fd 0 td ta 0
def execTmuls (h : Tid) (g : Bool) (rows cols : BitVec 6) (fa fd : BitVec 4) (rnd : BitVec 2) (td ta : Fin 8)
    (gs1 : Reg5) (s : State) : Out := s.tile2 .tmuls h g rows cols fa fd rnd td ta gs1
def execTadds (h : Tid) (g : Bool) (rows cols : BitVec 6) (fa fd : BitVec 4) (rnd : BitVec 2) (td ta : Fin 8)
    (gs1 : Reg5) (s : State) : Out := s.tile2 .tadds h g rows cols fa fd rnd td ta gs1
/-- TGET: r2 of the instruction is gd. -/
def execTget (h : Tid) (g : Bool) (gd : Reg5) (ta : Fin 8) (gs1 : Reg5) (s : State) : Out :=
  s.tileInstr h fun t =>
    { fn := .tget, g := g, rows := 1, cols := 1, ta := ta, r1 := gs1, r2 := gd, v1 := t.readG gs1 }
def execTput (h : Tid) (g : Bool) (td : Fin 8) (gs1 gs2 : Reg5) (s : State) : Out :=
  s.tileInstr h fun t =>
    { fn := .tput, g := g, rows := 1, cols := 1, td := td, r1 := gs1, r2 := gs2, v1 := t.readG gs1,
      v2 := t.readG gs2 }

def execTmmp (h : Tid) (g : Bool) (rows cols kk : BitVec 6) (fa fb : BitVec 4) (rnd : BitVec 2) (x : BitVec 4)
    (td ta tb : Fin 8) (s : State) : Out :=
  s.tileInstr h fun _ =>
    { fn := .tmmp, g := g, rows := dim rows, cols := dim cols, k := dim kk, fa := fa.toNat, fb := fb.toNat,
      rnd := rnd.toNat, x := x.toNat, td := td, ta := ta, tb := tb }
def execTmma (h : Tid) (g : Bool) (rows cols kk : BitVec 6) (fa fb : BitVec 4) (rnd : BitVec 2) (grp : Fin 16)
    (ta tb : Fin 8) (s : State) : Out :=
  s.tileInstr h fun _ =>
    { fn := .tmma, g := g, rows := dim rows, cols := dim cols, k := dim kk, fa := fa.toNat, fb := fb.toNat,
      rnd := rnd.toNat, grp := grp, ta := ta, tb := tb }

/-- TEXPORT and TEXPORT.C. -/
def State.tileExport (s : State) (fn : TFn) (h : Tid) (g : Bool) (rows cols : BitVec 6) (fa fb : BitVec 4)
    (rnd : BitVec 2) (x : BitVec 4) (grp : Fin 16) (td ta : Fin 8) (gs1 : Reg5) : Out :=
  s.tileInstr h fun t =>
    { fn := fn, g := g, rows := dim rows, cols := dim cols, fa := fa.toNat, fb := fb.toNat, rnd := rnd.toNat,
      x := x.toNat, grp := grp, td := td, ta := ta, r1 := gs1, v1 := t.readG gs1 }
def execTexport (h : Tid) (g : Bool) (rows cols : BitVec 6) (fa fb : BitVec 4) (rnd : BitVec 2) (x : BitVec 4)
    (grp : Fin 16) (td ta : Fin 8) (gs1 : Reg5) (s : State) : Out :=
  s.tileExport .texport h g rows cols fa fb rnd x grp td ta gs1
def execTexportC (h : Tid) (g : Bool) (rows cols : BitVec 6) (fa fb : BitVec 4) (rnd : BitVec 2) (x : BitVec 4)
    (grp : Fin 16) (td ta : Fin 8) (gs1 : Reg5) (s : State) : Out :=
  s.tileExport .texportC h g rows cols fa fb rnd x grp td ta gs1

/-- A 0x35 instruction. -/
def State.tileGroup (s : State) (fn : TFn) (h : Tid) (g : Bool) (rows cols : BitVec 6) (fa : BitVec 4) (grp : Fin 16)
    (gs1 : Reg5) : Out :=
  s.tileInstr h fun t =>
    { fn := fn, g := g, rows := dim rows, cols := dim cols, fa := fa.toNat, grp := grp, r1 := gs1,
      v1 := t.readG gs1 }
def execTopen (h : Tid) (g : Bool) (rows cols : BitVec 6) (fa : BitVec 4) (grp : Fin 16) (gs1 : Reg5) (s : State) : Out :=
  s.tileGroup .topen h g rows cols fa grp gs1
def execTclose (h : Tid) (g : Bool) (grp : Fin 16) (s : State) : Out := s.tileGroup .tclose h g 0 0 0 grp 0
def execTsave (h : Tid) (g : Bool) (rows cols : BitVec 6) (grp : Fin 16) (gs1 : Reg5) (s : State) : Out :=
  s.tileGroup .tsave h g rows cols 0 grp gs1
def execTrestore (h : Tid) (g : Bool) (rows cols : BitVec 6) (grp : Fin 16) (gs1 : Reg5) (s : State) : Out :=
  s.tileGroup .trestore h g rows cols 0 grp gs1
def execTbind (h : Tid) (g : Bool) (rows cols : BitVec 6) (grp : Fin 16) (gs1 : Reg5) (s : State) : Out :=
  s.tileGroup .tbind h g rows cols 0 grp gs1

/-! ### Acceptance (R224, R227, R228) -/

/-- A tile instruction retires: it is 64 bits long. -/
def Thread.tileNext (t : Thread) : Thread := t.retired (t.pc + 8)

/-- The instructions that retire only when they complete (Table 9-5). -/
def TFn.retiresLate (f : TFn) : Bool := f = .tld || f = .tst || f = .tget

/-- The TLD segments that the queue of a core holds. -/
def TileCore.staging (t : TileCore) : Nat :=
  (t.queue.map fun e => if e.ins.fn = .tld then e.segs.length else 0).sum

/-- The queue has room for an instruction (Table 9-7). -/
def TileCore.room (t : TileCore) (h : Nat) (i : TileIns) (segs : List TSeg) : Bool :=
  decide (t.queue.length < 16) && decide ((t.queue.filter fun e => e.thread = h).length < 8) &&
  (i.fn ≠ .tld || decide (t.staging + segs.length ≤ 128))

/-- The merging-buffer bytes that a segment overlaps. -/
def segOverlaps (g : TSeg) (e : MbEntry) : Bool :=
  e.line = g.pa / 64 && (e.mask &&& maskOf (g.pa % 64) g.len) ≠ 0

/-- Some merging-buffer entry numbered below `upto` overlaps some segment. -/
def State.tileMbWait (s : State) (n : Nat) (segs : List TSeg) (upto : Nat) : Bool :=
  (s.core n).mbuf.any fun e => decide (e.num < upto) && segs.any fun g => segOverlaps g e

/-- The instruction enters the tile queue. -/
def State.tileTake (s : State) (h : Nat) (i : TileIns) (segs : List TSeg) : State :=
  let n := coreOf h
  let t := s.thread h
  let u := s.tile n
  let v := s.grpView n i.grp
  let e : TileEntry :=
    { seq := u.nextSeq, thread := h, pc := t.pc, ins := i, segs := segs, upto := (s.core n).mbNext,
      seed := t.seed, spill := t.spillCode, base := if i.fn = .topen then i.baseOf else v.base,
      int := if i.fn = .topen then tIsInt i.fa else v.int, epoch := t.tsyncs }
  let s := s.setTile n { u with queue := u.queue ++ [e], nextSeq := u.nextSeq + 1 }
  let s := if i.fn.isMem then s.markMb n fun m => segs.any fun g => segOverlaps g m else s
  s.modThread h fun t =>
    let t := if i.stochastic then t.setSeed (seedNext t.seed) else t
    if i.fn.retiresLate || t.tprecise then { t with hold := some (.tileRun u.nextSeq) } else t.tileNext

/-- TILE_ACCEPT (R224, R239): the instruction that waits at RT is checked against group state and accepted when
the queue has room. -/
def execTileAccept (h : Tid) (s : State) : Out :=
  .next <|
    match (s.thread h).hold with
    | some (.tile i segs) =>
      if !(s.tile (coreOf h)).room h i segs then s
      else
        match s.grpCheck h i with
        | some x => s.fault h x.1 x.2
        | none => s.tileTake h i segs
    | _ => s

/-! ### Hazards (R225, R247) -/

/-- The fragments of an operand of `rows` rows. -/
def fragsOf (g : Bool) (ctx tile rows : Nat) : List Nat :=
  if g then (List.range (min rows 8)).map (· * 8 + tile) else [ctx * 8 + tile]

/-- The fragments that an instruction reads. -/
def TileEntry.readsOf (e : TileEntry) : List Nat :=
  let i := e.ins
  let ctx := e.thread % 8
  let a := fragsOf i.g ctx i.ta i.rows
  match i.fn with
  | .tld => [] | .tzero => [] | .tfill => [] | .tput => []
  | .topen => [] | .tclose => [] | .tsave => [] | .trestore => [] | .tbind => []
  | .tst => a | .tmov => a | .tcvt => a | .tneg => a | .tabs => a | .tmuls => a | .tadds => a
  | .tget => fragsOf false ctx i.ta 1
  | .tmma => a ++ fragsOf i.g ctx i.tb i.cols
  | .tmmp => a ++ fragsOf i.g ctx i.tb i.cols ++ (if i.x.testBit 0 then fragsOf i.g ctx i.td i.rows else [])
  | .texport => if i.x / 4 = 0 then [] else fragsOf i.g ctx i.ta 4
  | .texportC => if i.x / 4 = 0 then [] else fragsOf i.g ctx i.ta 4
  | .tadd => a ++ fragsOf i.g ctx i.tb i.rows
  | .tsub => a ++ fragsOf i.g ctx i.tb i.rows
  | .tmul => a ++ fragsOf i.g ctx i.tb i.rows
  | .tmin => a ++ fragsOf i.g ctx i.tb i.rows
  | .tmax => a ++ fragsOf i.g ctx i.tb i.rows
  | .tand => a ++ fragsOf i.g ctx i.tb i.rows
  | .tor => a ++ fragsOf i.g ctx i.tb i.rows
  | .txor => a ++ fragsOf i.g ctx i.tb i.rows

/-- An instruction that writes a tile. -/
def TFn.writesTile (f : TFn) : Bool :=
  !(f = .tst || f = .tget || f = .tmma || f = .topen || f = .tclose || f.isImage || f = .tbind)

/-- The fragments that an instruction writes. -/
def TileEntry.writesOf (e : TileEntry) : List Nat :=
  if e.ins.fn.writesTile then fragsOf (e.ins.g && e.ins.fn ≠ .tput) (e.thread % 8) e.ins.td e.ins.rows else []

/-- The instructions of Table 10-5 that use the silo row port. -/
def TFn.rowPort (f : TFn) : Bool :=
  f = .texport || f = .texportC || f = .topen || f.isImage || f = .tbind

/-- An instruction that changes a group: its rows, or whether it is open. -/
def TFn.writesGroup (f : TFn) : Bool := f = .topen || f = .tclose || f = .tmma || f = .trestore || f = .texportC

/-- An instruction that names a group. -/
def TFn.onGroup (f : TFn) : Bool := f.rowPort || f = .tmma || f = .tclose

/-- Two instructions on one group, or on groups whose rows meet. -/
def TileEntry.sameRows (a b : TileEntry) : Bool :=
  a.ins.fn.onGroup && b.ins.fn.onGroup &&
  (a.ins.grp = b.ins.grp ||
    rangesMeet a.base (siloRows a.ins.rows a.ins.cols) b.base (siloRows b.ins.rows b.ins.cols))

/-- Two lists share an element. -/
def meet (a b : List Nat) : Bool := a.any fun x => b.contains x

/-- `e` is hazard-blocked by the older instruction `o` (R225, R247). -/
def TileEntry.blockedBy (e o : TileEntry) : Bool :=
  meet o.writesOf (e.readsOf ++ e.writesOf) || (!o.dispatched && meet o.readsOf e.writesOf) ||
  (e.sameRows o &&
    ((e.ins.fn.rowPort && o.ins.fn.writesGroup) ||
     (e.ins.fn = .tmma && o.ins.fn.rowPort) || (e.ins.fn = .tclose && o.ins.fn = .topen)))

/-- The instruction waits for its TLD data. -/
def TileEntry.waitsData (e : TileEntry) : Bool :=
  e.ins.fn = .tld && e.segs.any fun g => g.staged.isNone

/-- The position of the instruction that dispatches next: the oldest undispatched one that is neither blocked
nor waiting for data. -/
def TileCore.nextDispatch (t : TileCore) : Option Nat :=
  (List.range t.queue.length).find? fun k =>
    match t.queue[k]? with
    | none => false
    | some e => !e.dispatched && !e.waitsData && !(t.queue.take k).any fun o => e.blockedBy o

/-! ### Dispatch: sources are read (R225) -/

/-- The bytes of row `r` that a TST writes. -/
def tstRow (a : Sram) (i : TileIns) (ctx r : Nat) : List Byte :=
  a.read (rowBase i.g ctx i.ta i.fa r) (tRowBytes i.fa i.cols)

/-- The group image of Table 10-4. -/
def State.groupImage (s : State) (n : Nat) (e : TileEntry) : List Byte :=
  let u := s.tile n
  let i := grpInst n e.ins.grp
  let at' := shapeList e.ins.rows e.ins.cols
  leBytes 2 (s.f FUR_GRP.PHASE i) ++ leBytes 1 (s.f FUR_GRP.SPILL i) ++ leBytes 1 (s.f FUR_GRP.INT i) ++
  leBytes 1 e.ins.rows ++ leBytes 1 e.ins.cols ++ leBytes 1 (s.f FUR_GRP.POISON i) ++ List.replicate 57 0 ++
  (at'.flatMap fun p => leBytes 8 (u.spl (siloSlot e.base e.ins.cols p.1 p.2))) ++
  (at'.flatMap fun p => leBytes 4 (u.acc (siloSlot e.base e.ins.cols p.1 p.2)))

/-- The source elements, and the bytes that a TST or TSAVE writes. -/
def State.dispatched (s : State) (n : Nat) (e : TileEntry) : TileEntry :=
  let a := (s.tile n).frags
  let i := e.ins
  let ctx := e.thread % 8
  let rd (tile code rows cols : Nat) := readTile a i.g ctx tile code rows cols
  let e : TileEntry := { e with dispatched := true }
  match i.fn with
  | .tst => { e with segs := e.segs.map fun g => { g with staged := some (((tstRow a i ctx g.row).drop g.off).take g.len) } }
  | .tsave =>
    let img := s.groupImage n e
    { e with segs := e.segs.map fun g => { g with staged := some ((img.drop g.off).take g.len) } }
  | .tmma => { e with srcA := rd i.ta i.fa i.rows i.k, srcB := rd i.tb i.fb i.cols i.k }
  | .tmmp => { e with srcA := rd i.ta i.fa i.rows i.k, srcB := rd i.tb i.fb i.cols i.k,
                      srcD := if i.x.testBit 0 then rd i.td i.accFmt i.rows i.cols else [] }
  | .texport => { e with srcA := if i.x / 4 = 0 then [] else rd i.ta 0 4 32 }
  | .texportC => { e with srcA := if i.x / 4 = 0 then [] else rd i.ta 0 4 32 }
  | .tget => { e with srcA := [[leNat (a.read ((ctx * 8 + i.ta) * 512 + 8 * (i.v1.toNat % 64)) 8)]] }
  | .tld => e | .tzero => e | .tfill => e | .tput => e | .topen => e | .tclose => e | .trestore => e | .tbind => e
  | .tmov => { e with srcA := rd i.ta i.fa i.rows i.cols }
  | .tcvt => { e with srcA := rd i.ta i.fa i.rows i.cols }
  | .tneg => { e with srcA := rd i.ta i.fa i.rows i.cols }
  | .tabs => { e with srcA := rd i.ta i.fa i.rows i.cols }
  | .tmuls => { e with srcA := rd i.ta i.fa i.rows i.cols }
  | .tadds => { e with srcA := rd i.ta i.fa i.rows i.cols }
  | _ => { e with srcA := rd i.ta i.fa i.rows i.cols, srcB := rd i.tb i.fb i.rows i.cols }

/-- The group named by an entry becomes poisoned, and the event is logged (R254). -/
def State.poisonGroup (s : State) (n g h : Nat) : State :=
  (s.setOn FUR_GRP.POISON (grpInst n g) true).logEvent 0x0021 n (s.plotOf h) g 0 0

/-- What the silo's ECC reports as the rows of a group are read (R254). -/
def State.siloEcc (s : State) (n : Nat) (e : TileEntry) (ecc : SiloEcc) : State :=
  match ecc with
  | .clean => s
  | .corrected true => s.bump FUR_SILOECC.SPILL (furrowOf n)
  | .corrected false => s.bump FUR_SILOECC.SILO (furrowOf n)
  | .uncorrectable => s.poisonGroup n e.ins.grp e.thread

/-- An instruction that reads its group's rows at dispatch, for memory or for Binder. -/
def TFn.readsEarly (f : TFn) : Bool := f = .tsave || f = .tbind

/-- TILE_DISPATCH (R225): the cycles at which ports become free are left out (notes/assumptions/18). `ecc` is what the silo's
ECC reports where TSAVE or TBIND reads rows. -/
def execTileDispatch (n : Cid) (ecc : SiloEcc) (s : State) : Out :=
  .next <|
    match (s.tile n).nextDispatch with
    | none => s
    | some k =>
      match (s.tile n).queue[k]? with
      | none => s
      | some e =>
        let s := if e.ins.fn.readsEarly then s.siloEcc n e ecc else s
        let u := s.tile n
        s.setTile n { u with queue := setNth u.queue k (s.dispatched n e) }

/-! ### Completion -/

/-- The elements that an instruction writes to td, and its flags. -/
def TileEntry.result (e : TileEntry) : List (List Nat) × Nat :=
  let i := e.ins
  let A := elemAt e.srcA
  let B := elemAt e.srcB
  let rnd := tRnd i.rnd e.seed
  let tab := tabulate i.rows i.cols
  let bin (op : TBin) := tab fun r c => tBin op (rnd r c) i.fa i.fd (A r c) (B r c)
  match i.fn with
  | .tadd => bin .add | .tsub => bin .sub | .tmul => bin .mul | .tmin => bin .min | .tmax => bin .max
  | .tand => tab fun r c => (A r c &&& B r c, 0)
  | .tor => tab fun r c => (A r c ||| B r c, 0)
  | .txor => tab fun r c => (A r c ^^^ B r c, 0)
  | .tmov => tab fun r c => (A r c, 0)
  | .tcvt => tab fun r c => tCvt (rnd r c) i.fa i.fd (A r c)
  | .tfill => tab fun _ _ => (i.v1.toNat % 2 ^ tBits i.fd, 0)
  | .tneg => tab fun r c => tNeg i.fa (A r c)
  | .tabs => tab fun r c => tAbs i.fa (A r c)
  | .tmuls => tab fun r c => tScalar .mul (rnd r c) i.fa i.fd (A r c) (i.v1.toNat % 2 ^ 32)
  | .tadds => tab fun r c => tScalar .add (rnd r c) i.fa i.fd (A r c) (i.v1.toNat % 2 ^ 32)
  | .tmmp => tab fun r c =>
      passThrough i.fa i.fb (elemAt e.srcD r c) ((e.srcA.getD r []).zip (e.srcB.getD c []))
  | _ => tab fun _ _ => (0, 0)

/-- The bytes staged for a row of a TLD. -/
def TileEntry.stagedRow (e : TileEntry) (r : Nat) : List Byte :=
  (e.segs.filter fun g => g.row = r).flatMap fun g => g.staged.getD []

/-- The bytes staged for an image. -/
def TileEntry.image (e : TileEntry) : List Byte := e.segs.flatMap fun g => g.staged.getD []

/-- Elements from the bytes of a row. -/
def rowElems (bytes : List Byte) (code cols : Nat) : List Nat :=
  let v := leNat bytes
  (List.range cols).map fun c => v / 2 ^ (tBits code * c) % 2 ^ tBits code

/-- One accumulator of a TMMA: its K steps and spill points. -/
def TileEntry.mmaElem (e : TileEntry) (S phase : Nat) (x : TileCore × Nat) (p : Nat × Nat) : TileCore × Nat :=
  let slot := siloSlot e.base e.ins.cols p.1 p.2
  let r := accumulate e.int e.ins.fa e.ins.fb S ((e.srcA.getD p.1 []).zip (e.srcB.getD p.2 [])) phase
    (x.1.acc slot) (x.1.spl slot) 0
  ((x.1.setAcc slot r.1).setSpl slot r.2.1, flagsOr x.2 r.2.2)

/-- One element of a TEXPORT: +default NaN or zero and NV once the group is poisoned (R254). -/
def TileEntry.exportElem (e : TileEntry) (u : TileCore) (poison : Bool) (i j : Nat) : Nat × Nat :=
  let fb := e.ins.fb
  if poison then (if tIsFloat fb then (tFmt fb).nan else 0, fNV)
  else
    let slot := siloSlot e.base e.ins.cols i j
    let t := total e.int (u.acc slot) (u.spl slot)
    let y := epilogue e.int e.ins.x fb t.1 (epilogueArg e.srcA 0 j) (epilogueArg e.srcA 2 j)
      (e.ins.v1.toNat % 2 ^ 32) (tRnd e.ins.rnd e.seed i j)
    (y.1, flagsOr t.2 y.2)

/-- Write td. -/
def State.writeTd (s : State) (n : Nat) (e : TileEntry) (code : Nat) (m : List (List Nat)) : State :=
  let u := s.tile n
  s.setTile n { u with frags := writeTile u.frags e.ins.g (e.thread % 8) e.ins.td code 0 m }

/-- A TRESTORE that has read its image (R244, R254). DESIGN CHOICE (notes/assumptions/76), for bytes that no TSAVE writes:
PHASE is taken modulo 1,024, a SPILL above 7 leaves the group's SPILL as a 7 does, and any nonzero POISON byte counts
as 1. -/
def State.restoreGroup (s : State) (n : Nat) (e : TileEntry) : State :=
  let img := e.image
  let i := grpInst n e.ins.grp
  let at' := shapeList e.ins.rows e.ins.cols
  let ac := 64 + 8 * e.ins.rows * e.ins.cols
  let u := at'.foldl (fun u p =>
    let k := p.1 * e.ins.cols + p.2
    let slot := siloSlot e.base e.ins.cols p.1 p.2
    (u.setSpl slot (leNat ((img.drop (64 + 8 * k)).take 8))).setAcc slot (leNat ((img.drop (ac + 4 * k)).take 4)))
    (s.tile n)
  let s := s.setTile n u
  let s := s.setF FUR_GRP.PHASE i (leNat (img.take 2))
  let sp := leNat ((img.drop 2).take 1)
  let s := if sp < 7 then s.setF FUR_GRP.SPILL i sp else s
  if e.bad || leNat ((img.drop 6).take 1) ≠ 0 then s.poisonGroup n e.ins.grp e.thread
  else s.setOn FUR_GRP.POISON i false

/-- The effect of an instruction at its completion, and its flags. -/
def State.tileEffect (s : State) (n : Nat) (e : TileEntry) : State × Nat :=
  let ins := e.ins
  let i := grpInst n ins.grp
  let u := s.tile n
  match ins.fn with
  | .tst => (s, 0)
  | .tsave => (s, 0)
  | .tld => (s.writeTd n e ins.fd ((List.range ins.rows).map fun r => rowElems (e.stagedRow r) ins.fd ins.cols), 0)
  | .tget =>
    (s.modThread e.thread fun t => t.writeG (Fin.ofNat 32 ins.r2) (BitVec.ofNat 64 (elemAt e.srcA 0 0)), 0)
  | .tput =>
    let a := u.frags.write ((e.thread % 8 * 8 + ins.td) * 512 + 8 * (ins.v1.toNat % 64)) (leBytes 8 ins.v2.toNat)
    (s.setTile n { u with frags := a }, 0)
  | .tmmp => let r := e.result; (s.writeTd n e ins.accFmt r.1, r.2)
  | .tmma =>
    let phase := s.f FUR_GRP.PHASE i
    let r := (shapeList ins.rows ins.cols).foldl (e.mmaElem (spillSteps (s.f FUR_GRP.SPILL i)) phase) (u, 0)
    ((s.setTile n r.1).setF FUR_GRP.PHASE i (phase + ins.k), r.2)
  | .texport =>
    let r := tabulate ins.rows ins.cols (e.exportElem u (s.on FUR_GRP.POISON i))
    (s.writeTd n e ins.fb r.1, r.2)
  | .texportC =>
    let r := tabulate ins.rows ins.cols (e.exportElem u (s.on FUR_GRP.POISON i))
    ((s.writeTd n e ins.fb r.1).setOn FUR_GRP.OPEN i false, r.2)
  | .topen =>
    let s := s.setTile n (u.zeroRows e.base (siloRows ins.rows ins.cols))
    ((((((((s.setOn FUR_GRP.OPEN i true).setOn FUR_GRP.INT i e.int).setOn FUR_GRP.POISON i false).setF
      FUR_GRP.SPILL i e.spill).setF FUR_GRP.BASE i e.base).setF FUR_GRP.ROWS i (ins.rows - 1)).setF
      FUR_GRP.COLS i (ins.cols - 1)).setF FUR_GRP.PHASE i 0, 0)
  | .tclose => (s.setOn FUR_GRP.OPEN i false, 0)
  | .trestore => (s.restoreGroup n e, 0)
  | .tbind => (s, (shapeList ins.rows ins.cols).foldl (fun fl p =>
      let slot := siloSlot e.base ins.cols p.1 p.2
      flagsOr fl (total e.int (u.acc slot) (u.spl slot)).2) 0)
  | _ => let r := e.result; (s.writeTd n e ins.fd r.1, r.2)

/-- An instruction may complete: it has dispatched, its data or acknowledgements are in, and no older instruction
on its group is left, where one of the two changes the group (R225, R236). -/
def TileEntry.done (e : TileEntry) (older : List TileEntry) : Bool :=
  e.dispatched &&
  (match e.ins.fn with
   | .tst => e.segs.all (·.acked)
   | .tsave => e.segs.all (·.acked)
   | .trestore => e.segs.all fun g => g.staged.isSome
   | .tbind => e.arrived
   | _ => true) &&
  !older.any fun o =>
    e.sameRows o && (e.ins.fn.writesGroup || o.ins.fn.writesGroup) && (e.ins.fn ≠ .tclose || o.ins.fn ≠ .tmma)

/-- TSYNC has nothing left to wait for. -/
def State.tsyncDone (s : State) (h : Nat) (g : Bool) (upto : Nat) : Bool :=
  !(s.tile (coreOf h)).queue.any fun e => decide (e.seq < upto) && (g || e.thread = h)

/-- TSYNC retires (R160, R226): TILE_ARITH follows when an enabled flag is set; PEND and the address clear. -/
def Thread.tsyncRetires (t : Thread) : Thread :=
  let u : Thread := { t.tileNext with taddr := none, tsyncs := t.tsyncs + 1 }
  if (t.ten &&& t.tflags) ≠ 0 then
    { u with raised := some { code := cTileArith, epc := u.pc, eaddr := (t.taddr.map (·.2)).getD 0 } }
  else u

/-- A TSYNC that waited retires once it may. -/
def State.wakeTsync (s : State) (h : Nat) : State :=
  match (s.thread h).hold with
  | some (.tsync g upto) => if s.tsyncDone h g upto then s.modThread h (·.tsyncRetires) else s
  | _ => s

/-- TSYNC (R226). -/
def execTsync (h : Tid) (g : Bool) (s : State) : Out :=
  s.instr h fun _ s => (s.setHold h (some (.tsync g (s.tile (coreOf h)).nextSeq))).wakeTsync h

/-- Flags of a completed instruction (R227): set in its thread's TSTAT, its address recorded when it is the first
in order of acceptance since the last TSYNC to set an enabled flag. -/
def Thread.tileFlags (t : Thread) (e : TileEntry) (fl : Nat) : Thread :=
  let t := { t with tflags := t.tflags ||| fl }
  let first := match t.taddr with
    | none => true
    | some x => decide (e.seq < x.1)
  if (fl &&& t.ten) ≠ 0 && e.epoch = t.tsyncs && first then { t with taddr := some (e.seq, e.pc) } else t

/-- A completed instruction that its thread waits for retires; with TPRECISE, TILE_ARITH follows when it set an
enabled flag (R160). -/
def Thread.tileEnds (t : Thread) (e : TileEntry) (fl : Nat) : Thread :=
  if t.hold = some (.tileRun e.seq) then
    let u := t.tileNext
    if t.tprecise && (fl &&& t.ten) ≠ 0 then
      { u with raised := some { code := cTileArith, epc := u.pc, eaddr := e.pc } }
    else u
  else t

/-- An instruction that reads its group's rows at completion. -/
def TFn.readsLate (f : TFn) : Bool := f = .tmma || f = .texport || f = .texportC

/-- TILE_COMPLETE (R225, R227): the k-th instruction of the queue completes. `ecc` is what the silo's ECC reports where it
reads rows of its group. -/
def execTileComplete (n : Cid) (k : Fin 16) (ecc : SiloEcc) (s : State) : Out :=
  .next <|
    let q := (s.tile n).queue
    match q[k.val]? with
    | none => s
    | some e =>
      if !e.done (q.take k) then s
      else
        let (s, fl) := (if e.ins.fn.readsLate then s.siloEcc n e ecc else s).tileEffect n e
        let u := s.tile n
        let s := s.setTile n { u with queue := u.queue.filter fun x => x.seq ≠ e.seq }
        let s := s.modThread e.thread fun t => (t.tileFlags e fl).tileEnds e fl
        (coreThreads n).foldl (fun s h => s.wakeTsync h) s

/-! ### Memory segments (R222, R223, R230, R254) -/

/-- Replace the entry at a position. -/
def State.setEntryAt (s : State) (n k : Nat) (e : TileEntry) : State :=
  let u := s.tile n
  s.setTile n { u with queue := setNth u.queue k e }

/-- The position of the first segment that satisfies `p`. -/
def firstSeg (p : TSeg → Bool) (l : List TSeg) : Option (Nat × TSeg) :=
  (List.range l.length).findSome? fun k =>
    match l[k]? with
    | some g => if p g then some (k, g) else none
    | none => none

/-- A TLD fails: it leaves the queue, nothing is written, and the thread takes the fault at its RT (R230). -/
def State.tldFails (s : State) (n : Nat) (e : TileEntry) (code : Nat) (va : Word) : State :=
  let u := s.tile n
  let s := s.setTile n { u with queue := u.queue.filter fun x => x.seq ≠ e.seq }
  (coreThreads n).foldl (fun s h => s.wakeTsync h) (s.fault e.thread code va)

/-- Segment j of the entry at a position is read and staged. Bytes of a failed TRESTORE read are free. -/
def State.segRead (s : State) (n k : Nat) (e : TileEntry) (j : Nat) (g : TSeg) (res : MemRes) : State :=
  let (r, s) := s.lineRead (furrowOf n) g.pa g.len g.uc 0 res
  match r with
  | .data b => s.setEntryAt n k { e with segs := setNth e.segs j { g with staged := some b } }
  | _ =>
    if e.ins.fn = .tld then s.tldFails n e (if r = .decode then cLoadFault else cUncorrectable) g.va
    else
      let (v, s) := s.draw
      s.setEntryAt n k { e with bad := true, segs := setNth e.segs j { g with staged := some (leBytes g.len v) } }

/-- Segment j of the entry at a position is written and acknowledged; an error raises LATE_STORE_ERROR. -/
def State.segWrite (s : State) (n k : Nat) (e : TileEntry) (j : Nat) (g : TSeg) (res : MemRes) : State :=
  let (ok, s) := s.lineWrite (furrowOf n) (g.pa / 64) (maskOf (g.pa % 64) g.len)
    (lineImage (g.pa % 64) (g.staged.getD [])) g.uc none res
  let s := if ok then s else s.lateStore g.pa e.thread
  s.setEntryAt n k { e with segs := setNth e.segs j { g with acked := true } }

/-- Segments that a till program holds have reached its channel (R309). -/
def State.segsArrive (s : State) (n : Nat) (e : TileEntry) (js : List Nat) : State :=
  js.foldl (fun s j => match e.segs[j]? with
    | some g => if s.directHeld g.pa then s.arrive g.pa (.seg n e.seq j) else s
    | none => s) s

/-- TLD_SEGMENT (R222, R223): the next segment of a TLD or TRESTORE returns and is staged, once the
merging-buffer entries that its instruction marked have drained; one that its channel holds waits (R286, R309). -/
def execTldSegment (n : Cid) (k : Fin 16) (res : MemRes) (s : State) : Out :=
  .next <|
    match (s.tile n).queue[k.val]? with
    | none => s
    | some e =>
      if !e.ins.fn.isRead || (e.ins.fn = .trestore && !e.dispatched) || s.tileMbWait n e.segs e.upto then s
      else
        let s := s.segsArrive n e ((List.range e.segs.length).filter fun j => (e.segs[j]?.bind (·.staged)).isNone)
        match firstSeg (fun g => g.staged.isNone && !s.readHeld (furrowOf n) g.pa g.uc) e.segs with
        | none => s
        | some (j, g) => s.segRead n k e j g res

/-- TST_ROW_ACK (R221 to R223, R230): the next segment write of a TST or TSAVE is performed and acknowledged; a
write that meets an error is not performed and raises LATE_STORE_ERROR in the thread. Entries of the merging
buffer that overlap the rows drain first (notes/assumptions/19). Rows are written in ascending order, so that a segment
that its channel holds holds those behind it (R221). DESIGN CHOICE (notes/assumptions/19): an error leaves the failing
64-byte segment unwritten, and the other segments of its row are written. -/
def execTstRowAck (n : Cid) (k : Fin 16) (res : MemRes) (s : State) : Out :=
  .next <|
    match (s.tile n).queue[k.val]? with
    | none => s
    | some e =>
      if !(e.ins.fn = .tst || e.ins.fn = .tsave) || !e.dispatched || s.tileMbWait n e.segs e.upto then s
      else
        match firstSeg (fun g => !g.acked) e.segs with
        | none => s
        | some (j, g) =>
          if s.writeHeld (furrowOf n) (g.pa / 64) (maskOf (g.pa % 64) g.len) g.uc then s.segsArrive n e [j]
          else s.segWrite n k e j g res

end Sys2Proof.Machine
end

