-- ==== Sys2Proof/Machine/Csr.lean ====
section
/-! DEFINITION. The per-thread CSRs (Table 5-15): who may read and write each, what each reads as and what a write
does to it; the CSR instructions (R124). -/

namespace Sys2Proof.Machine

/-- Table 5-15: the largest ring that may read a CSR, and the largest that may write it (none: "—"); none for a
number not in the table. -/
def csrRings (csr : Nat) : Option (Nat × Option Nat) :=
  match csr with
  | 0x000 => some (3, some 0)
  | 0x001 => some (1, some 0)
  | 0x002 => some (3, some 3)
  | 0x003 => some (3, some 3)
  | 0x004 => some (3, none) | 0x005 => some (3, none) | 0x006 => some (3, none)
  | 0x007 => some (3, none) | 0x008 => some (3, none) | 0x009 => some (3, none)
  | 0x010 => some (2, some 0) | 0x011 => some (2, some 0) | 0x012 => some (2, some 0) | 0x013 => some (2, some 0)
  | 0x020 => some (0, some 0) | 0x021 => some (1, some 1) | 0x022 => some (2, some 2) | 0x023 => some (3, some 3)
  | 0x028 => some (0, some 0) | 0x029 => some (1, some 1) | 0x02A => some (2, some 2) | 0x02B => some (3, some 3)
  | 0x030 => some (0, some 0) | 0x031 => some (0, some 0) | 0x032 => some (0, some 0)
  | 0x040 => some (1, some 0) | 0x041 => some (1, some 0)
  | 0x100 => some (3, some 3) | 0x101 => some (3, some 3)
  | 0x180 => some (1, some 0)
  | _ => none

/-- STATUS (chapter 05). -/
def Thread.status (t : Thread) : Nat := t.ring + (if t.gmask then 4 else 0) + (if t.dfa then 8 else 0)

/-- The tile instructions of a thread that are accepted and not complete. -/
def State.inflight (s : State) (h : Nat) : Nat :=
  ((s.tile (coreOf h)).queue.filter fun e => e.thread = h).length

/-- TSTAT (chapter 09). -/
def State.tstat (s : State) (h : Nat) : Nat :=
  let t := s.thread h
  s.inflight h * 2 ^ 16 + (if t.taddr.isSome then 2 ^ 15 else 0) + t.ten * 256 + t.tflags

/-- THREAD: the package number is 0 outside Acre; H has 10 bits. -/
def State.threadCsr (s : State) (h : Nat) : Nat :=
  (if s.on SWT_CFG.EN 0 then s.ownPkg else 0) * 2 ^ 32 + s.plotOf h * 2 ^ 16 + h % 1024

/-- CYCLE: the CCLK pulses delivered to the core; no throttling slows the Drill cores (R561). -/
def State.cycleCsr (s : State) (h : Nat) : Nat :=
  ((if drillCore (coreOf h) then s.clk.drillCc64 else s.clk.cc64) - (s.core (coreOf h)).cycleBase) / 64

/-- What a CSR of Table 5-15 reads as. -/
def State.csrRead (s : State) (h csr : Nat) : Word :=
  let t := s.thread h
  match csr with
  | 0x000 => BitVec.ofNat 64 t.status
  | 0x001 => BitVec.ofNat 64 t.mlevel
  | 0x002 => BitVec.ofNat 64 (t.frm * 256 + t.fflags)
  | 0x003 => BitVec.ofNat 64 (setBit t.p 0 true)
  | 0x004 => BitVec.ofNat 64 (s.threadCsr h)
  | 0x005 => BitVec.ofNat 64 (s.cycleCsr h)
  | 0x006 => BitVec.ofNat 64 s.now
  | 0x007 => BitVec.ofNat 64 t.instret
  | 0x008 => BitVec.ofNat 64 t.mailbox.length
  | 0x009 => BitVec.ofNat 64 t.mbsrc
  | 0x010 => t.cause
  | 0x011 => t.epc
  | 0x012 => t.eaddr
  | 0x013 => t.lseaddr
  | 0x020 => t.xspOf 0 | 0x021 => t.xspOf 1 | 0x022 => t.xspOf 2 | 0x023 => t.xspOf 3
  | 0x028 => t.entryOf 0 | 0x029 => t.entryOf 1 | 0x02A => t.entryOf 2 | 0x02B => t.entryOf 3
  | 0x030 => t.dfsp
  | 0x031 => t.dfentry
  | 0x032 => if t.lockpol then 1 else 0
  | 0x040 => t.gatebase
  | 0x041 => BitVec.ofNat 64 t.gatecnt
  | 0x100 => BitVec.ofNat 64 (s.tstat h)
  | 0x101 => t.tctl
  | 0x180 => t.ptroot
  | _ => 0

/-- The bits of a word under a mask. -/
def masked (v : Word) (m : Nat) : Word := v &&& BitVec.ofNat 64 m

/-- Bits [63:2]. -/
def pcMask : Nat := 2 ^ 64 - 4

/-- PLOT [63:55], ROOT [40:12] and MODE of PTROOT. -/
def ptrootMask : Nat := 0xFF8001FFFFFFF001

/-- A write of FCSR: RM codes 5 to 7 leave the field unchanged. -/
def Thread.writeFcsr (t : Thread) (v : Nat) : Thread :=
  { t with frm := if v / 256 % 8 < 5 then v / 256 % 8 else t.frm, fflags := v % 32 }

/-- A write of TCTL: a SPILL of 7 leaves the field unchanged (Table 10-3). -/
def Thread.writeTctl (t : Thread) (v : Nat) : Thread :=
  { t with tctl := BitVec.ofNat 64 (v / 2 ^ 32 * 2 ^ 32 + v / 256 % 2 * 256 + (if v % 8 < 7 then v % 8 else t.spillCode)) }

/-- An encoding that CAUSE.CODE lists: the codes of Table 7-1 (R10). -/
def causeListed (code : Nat) : Bool :=
  (decide (1 ≤ code) && decide (code ≤ 0x11)) || (decide (0x40 ≤ code) && decide (code ≤ 0x43))

/-- A write of CAUSE: an unlisted code leaves the field unchanged. -/
def Thread.writeCause (t : Thread) (v : Word) : Thread :=
  { t with cause := masked v 0x3F80FF00 ||| masked (if causeListed (v.toNat % 256) then v else t.cause) 0xFF }

/-- A write of a CSR that software may write, its reserved and ro fields kept as R9 says. -/
def Thread.csrWrite (t : Thread) (csr : Nat) (v : Word) : Thread :=
  let n := v.toNat
  match csr with
  | 0x000 => { t with gmask := n.testBit 2 }
  | 0x001 => { t with mlevel := n % 16 }
  | 0x002 => t.writeFcsr n
  | 0x003 => { t with p := n % 256 / 2 * 2 }
  | 0x010 => t.writeCause v
  | 0x011 => { t with epc := masked v pcMask }
  | 0x012 => { t with eaddr := v }
  | 0x013 => { t with lseaddr := masked v 0xC0FFFFFFFFFFFFFF }
  | 0x020 => t.setXsp 0 v | 0x021 => t.setXsp 1 v | 0x022 => t.setXsp 2 v | 0x023 => t.setXsp 3 v
  | 0x028 => t.setEntry 0 (masked v pcMask) | 0x029 => t.setEntry 1 (masked v pcMask)
  | 0x02A => t.setEntry 2 (masked v pcMask) | 0x02B => t.setEntry 3 (masked v pcMask)
  | 0x030 => { t with dfsp := v }
  | 0x031 => { t with dfentry := masked v pcMask }
  | 0x032 => { t with lockpol := n.testBit 0 }
  | 0x040 => { t with gatebase := masked v (2 ^ 64 - 16) }
  | 0x041 => { t with gatecnt := if n % 512 ≤ 256 then n % 512 else t.gatecnt }
  | 0x100 => { t with ten := n / 256 % 32, tflags := n % 32, taddr := none }
  | 0x101 => t.writeTctl n
  | 0x180 => { t with ptroot := masked v ptrootMask }
  | _ => t

/-- Table 5-15 for a thread: the Drill cores have no TSTAT and no TCTL (R99). -/
def csrOf (h csr : Nat) : Option (Nat × Option Nat) :=
  if drillCore (coreOf h) && (csr = 0x100 || csr = 0x101) then none else csrRings csr

/-- A CSR instruction (R124): ILLEGAL_OP for an unknown number and for a write of a CSR without write rings, then
RING_VIOLATION; a write of TSTAT waits for the thread's accepted tile instructions (R227). -/
def State.csrInstr (s : State) (h : Nat) (cmd : Nat) (gd : Reg5) (csr : Nat) (gs1 : Reg5) (f : Option (Word → Word → Word)) :
    Out :=
  s.instr h fun t s =>
    let word := wordC gd gs1 cmd csr
    match csrOf h csr with
    | none => s.fault h cIllegalOp word
    | some (rd, wr) =>
      let old := s.csrRead h csr
      match f, wr with
      | none, _ => if rd < t.ring then s.fault h cRingViolation word else s.setThread h (t.writeG gd old).next
      | some _, none => s.fault h cIllegalOp word
      | some f, some w =>
        if rd < t.ring || w < t.ring then s.fault h cRingViolation word
        else if csr = 0x100 && s.inflight h ≠ 0 then s
        else s.setThread h ((t.csrWrite csr (f old (t.readG gs1))).writeG gd old).next

def execCsrrd (h : Tid) (gd : Reg5) (csr : BitVec 12) (s : State) : Out := s.csrInstr h 0 gd csr.toNat 0 none
def execCsrswp (h : Tid) (gd : Reg5) (csr : BitVec 12) (gs1 : Reg5) (s : State) : Out :=
  s.csrInstr h 1 gd csr.toNat gs1 (some fun _ v => v)
def execCsrset (h : Tid) (gd : Reg5) (csr : BitVec 12) (gs1 : Reg5) (s : State) : Out :=
  s.csrInstr h 2 gd csr.toNat gs1 (some fun old v => old ||| v)
def execCsrclr (h : Tid) (gd : Reg5) (csr : BitVec 12) (gs1 : Reg5) (s : State) : Out :=
  s.csrInstr h 3 gd csr.toNat gs1 (some fun old v => old &&& ~~~v)

end Sys2Proof.Machine
end

