-- ==== Sys2Proof/Machine/InstrDecode.lean ====
section
/-! DEFINITION. Instruction words (R113 to R126, R218, R219, R242): the encoding of every thread instruction, and the
instruction that a word means. A tile instruction's second word stands in bits [63:32]. -/

namespace Sys2Proof.Machine

/-! ### Fields (Tables 5-6, 9-2 and 9-3) -/

/-- `n` bits of a word from bit `lo`. -/
def wf (w lo n : Nat) : Nat := w / 2 ^ lo % 2 ^ n

/-- A field that names one of 32 registers. -/
def wReg (w lo : Nat) : Reg5 := Fin.ofNat 32 (w / 2 ^ lo)

/-- A field that names one of 8 predicates or tiles. -/
def wPred (w lo : Nat) : Fin 8 := Fin.ofNat 8 (w / 2 ^ lo)

/-- The bits of a field. -/
def wBits (w lo n : Nat) : BitVec n := BitVec.ofNat n (w / 2 ^ lo)

/-- One bit. -/
def wBit (w k : Nat) : Bool := w.testBit k

/-- 1 or 0. -/
def b1 (b : Bool) : Nat := if b then 1 else 0

/-- The codes of COND (R119); 7 is reserved. -/
def condOf (c : Nat) : Option Cond :=
  match c with
  | 0 => some .eq | 1 => some .ne | 2 => some .lt | 3 => some .ge | 4 => some .ltu | 5 => some .geu | 6 => some .tst
  | _ => none

/-- The codes of FCMP's COND (Table 5-10); 4 to 7 are reserved. -/
def fcondOf (c : Nat) : Option FCond :=
  match c with
  | 0 => some .eq | 1 => some .lt | 2 => some .le | 3 => some .un
  | _ => none

/-- The codes of FMT. -/
def fmtOf (c : Nat) : FFmt :=
  match c % 4 with
  | 0 => .b64 | 1 => .b32 | 2 => .b16
  | _ => .bf16

/-- The codes of RM (R122); 7 is reserved. -/
def rmOf (c : Nat) : Option RMode :=
  match c with
  | 0 => some .dyn | 1 => some .rne | 2 => some .rna | 3 => some .rz | 4 => some .ru | 5 => some .rd | 6 => some .stoch
  | _ => none

/-- The integer width codes (Table 5-10). -/
def widthOf (c : Nat) : IWidth :=
  match c % 4 with
  | 0 => .i64 | 1 => .i32 | 2 => .i16
  | _ => .i8

/-- TARGET of a CMO (R126); 3 is reserved. -/
def targetOf (c : Nat) : Option CmoTarget :=
  match c with
  | 0 => some .l1d | 1 => some .l1i | 2 => some .fc
  | _ => none

/-! ### The encoding of every instruction -/

/-- Format R. -/
def encR (op d a b fn : Nat) : Nat := op * 2 ^ 26 + d * 2 ^ 21 + a * 2 ^ 16 + b * 2 ^ 11 + fn

/-- Formats I and S: `d` is gd, or gs2 of a store. -/
def encI (op d a imm : Nat) : Nat := op * 2 ^ 26 + d * 2 ^ 21 + a * 2 ^ 16 + imm

/-- Format J. -/
def encJ (op d disp : Nat) : Nat := op * 2 ^ 26 + d * 2 ^ 21 + disp

/-- Format F4. -/
def encF4 (op d a b c fmt rm : Nat) : Nat :=
  op * 2 ^ 26 + d * 2 ^ 21 + a * 2 ^ 16 + b * 2 ^ 11 + c * 2 ^ 6 + fmt * 2 ^ 4 + rm * 2

/-- Format C. -/
def encC (d a cmd csr : Nat) : Nat := 0x29 * 2 ^ 26 + d * 2 ^ 21 + a * 2 ^ 16 + cmd * 2 ^ 14 + csr

/-- Format X. -/
def encX (d a b p fn : Nat) : Nat := 0x2A * 2 ^ 26 + d * 2 ^ 21 + a * 2 ^ 16 + b * 2 ^ 11 + p * 2 ^ 8 + fn

/-- Format XN. -/
def encXN (n fn : Nat) : Nat := 0x2A * 2 ^ 26 + n * 2 ^ 8 + fn

/-- Format P. -/
def encP (op pd a b cond fmt : Nat) : Nat :=
  op * 2 ^ 26 + pd * 2 ^ 23 + a * 2 ^ 18 + b * 2 ^ 13 + cond * 2 ^ 10 + fmt * 2 ^ 8

/-- Format PI. -/
def encPI (op pd a cond imm : Nat) : Nat := op * 2 ^ 26 + pd * 2 ^ 23 + a * 2 ^ 18 + cond * 2 ^ 15 + imm

/-- Format PL. -/
def encPL (pd a b fn : Nat) : Nat := 0x0B * 2 ^ 26 + pd * 2 ^ 23 + a * 2 ^ 20 + b * 2 ^ 17 + fn * 2 ^ 14

/-- Format B. -/
def encB (p n disp : Nat) : Nat := 0x0C * 2 ^ 26 + p * 2 ^ 23 + n * 2 ^ 22 + disp

/-- OP 0x01: FN with W in bit 6. -/
def encInt (fn : Nat) (d a b : Reg5) (w : Bool) : Option Nat := some (encR 0x01 d a b (fn + 64 * b1 w))

/-- OP 0x06: the shift, its kind and W. -/
def encSh (kind : Nat) (d a : Reg5) (sh : BitVec 6) (w : Bool) : Option Nat :=
  some (encI 0x06 d a (sh.toNat + 64 * kind + 256 * b1 w))

/-- OP 0x1C: operation, ordering and size. -/
def encAt (op : Nat) (d a b : Reg5) (acq rel wide : Bool) : Option Nat :=
  some (encR 0x1C d a b (op + 16 * b1 acq + 32 * b1 rel + 64 * b1 wide))

/-- OP 0x23: FMT, RM and the function. -/
def encFp (fn : Nat) (fmt : FFmt) (rm : RMode) (d a b : Nat) : Option Nat :=
  some (encR 0x23 d a b (fmt.ctorIdx * 2 ^ 9 + rm.ctorIdx * 2 ^ 6 + fn))

/-- A CMO. -/
def encCmo (a : Reg5) (target : CmoTarget) (action : Nat) (setWay : Bool) : Option Nat :=
  some (encI 0x2B 0 a (target.ctorIdx * 64 + action * 16 + 8 * b1 setWay))

/-- Format T: the fields that an instruction does not use are zero. -/
structure FieldsT where
  g    : Bool := false
  rows : BitVec 6 := 0
  cols : BitVec 6 := 0
  fa   : BitVec 4 := 0
  fb   : BitVec 4 := 0
  fd   : BitVec 4 := 0
  rnd  : BitVec 2 := 0
  td   : Fin 8 := 0
  ta   : Fin 8 := 0
  tb   : Fin 8 := 0
  gs1  : Reg5 := 0
  gs2  : Reg5 := 0
deriving DecidableEq, Repr

/-- The words of a format T instruction. -/
def encT (f : TFn) (x : FieldsT) : Option Nat :=
  some (x.rows.toNat * 2 ^ 58 + x.cols.toNat * 2 ^ 52 + x.fa.toNat * 2 ^ 48 + x.fb.toNat * 2 ^ 44 + x.fd.toNat * 2 ^ 40 +
    x.rnd.toNat * 2 ^ 38 + f.code.1 * 2 ^ 26 + f.code.2 * 2 ^ 21 + b1 x.g * 2 ^ 20 + x.td * 2 ^ 17 + x.ta * 2 ^ 14 +
    x.tb * 2 ^ 11 + x.gs1 * 2 ^ 6 + x.gs2 * 2)

/-- Format M: the fields that an instruction does not use are zero. -/
structure FieldsM where
  g    : Bool := false
  rows : BitVec 6 := 0
  cols : BitVec 6 := 0
  kk   : BitVec 6 := 0
  fa   : BitVec 4 := 0
  fb   : BitVec 4 := 0
  rnd  : BitVec 2 := 0
  x    : BitVec 4 := 0
  grp  : Fin 16 := 0
  ta   : Fin 8 := 0
  tb   : Fin 8 := 0
  td   : Fin 8 := 0
  gs1  : Reg5 := 0
deriving DecidableEq, Repr

/-- The words of a format M instruction. -/
def encM (f : TFn) (x : FieldsM) : Option Nat :=
  some (x.rows.toNat * 2 ^ 58 + x.cols.toNat * 2 ^ 52 + x.kk.toNat * 2 ^ 46 + x.fa.toNat * 2 ^ 42 + x.fb.toNat * 2 ^ 38 +
    x.rnd.toNat * 2 ^ 36 + x.x.toNat * 2 ^ 32 + f.code.1 * 2 ^ 26 + f.code.2 * 2 ^ 21 + b1 x.g * 2 ^ 20 + x.grp * 2 ^ 16 +
    x.ta * 2 ^ 13 + x.tb * 2 ^ 10 + x.td * 2 ^ 7 + x.gs1 * 4)

/-- The word or words of a thread instruction; none for a command that is no instruction. -/
def encodeInstr : Instr → Option Nat
  | .add _ d a b w => encInt 0x00 d a b w
  | .sub _ d a b w => encInt 0x01 d a b w
  | .sll _ d a b w => encInt 0x08 d a b w
  | .srl _ d a b w => encInt 0x09 d a b w
  | .sra _ d a b w => encInt 0x0a d a b w
  | .ror _ d a b w => encInt 0x0b d a b w
  | .mul _ d a b w => encInt 0x10 d a b w
  | .div _ d a b w => encInt 0x14 d a b w
  | .divu _ d a b w => encInt 0x15 d a b w
  | .rem _ d a b w => encInt 0x16 d a b w
  | .remu _ d a b w => encInt 0x17 d a b w
  | .and _ d a b => encInt 0x02 d a b false
  | .or _ d a b => encInt 0x03 d a b false
  | .xor _ d a b => encInt 0x04 d a b false
  | .andn _ d a b => encInt 0x05 d a b false
  | .mulh _ d a b => encInt 0x11 d a b false
  | .mulhu _ d a b => encInt 0x12 d a b false
  | .min _ d a b => encInt 0x18 d a b false
  | .max _ d a b => encInt 0x19 d a b false
  | .minu _ d a b => encInt 0x1a d a b false
  | .maxu _ d a b => encInt 0x1b d a b false
  | .clz _ d a => encInt 0x20 d a 0 false
  | .ctz _ d a => encInt 0x21 d a 0 false
  | .popc _ d a => encInt 0x22 d a 0 false
  | .bswap _ d a => encInt 0x23 d a 0 false
  | .sextb _ d a => encInt 0x24 d a 0 false
  | .sexth _ d a => encInt 0x25 d a 0 false
  | .sextw _ d a => encInt 0x26 d a 0 false
  | .zextw _ d a => encInt 0x27 d a 0 false
  | .sel _ d a b p => some (encR 0x01 d a b (0x28 + p * 2 ^ 7))
  | .addi _ d a imm => some (encI 0x02 d a imm.toNat)
  | .andi _ d a imm => some (encI 0x03 d a imm.toNat)
  | .ori _ d a imm => some (encI 0x04 d a imm.toNat)
  | .xori _ d a imm => some (encI 0x05 d a imm.toNat)
  | .cati _ d a imm => some (encI 0x07 d a imm.toNat)
  | .jalr _ d a imm => some (encI 0x0e d a imm.toNat)
  | .slli _ d a sh w => encSh 0 d a sh w
  | .srli _ d a sh w => encSh 1 d a sh w
  | .srai _ d a sh w => encSh 2 d a sh w
  | .rori _ d a sh w => encSh 3 d a sh w
  | .adpc _ d disp => some (encJ 0x08 d disp.toNat)
  | .cmp _ pd a b c => some (encP 0x09 pd a b c.ctorIdx 0)
  | .cmpi _ pd a imm c => some (encPI 0x0A pd a c.ctorIdx imm.toNat)
  | .pand _ pd a b => some (encPL pd a b 0)
  | .por _ pd a b => some (encPL pd a b 1)
  | .pxor _ pd a b => some (encPL pd a b 2)
  | .pandn _ pd a b => some (encPL pd a b 3)
  | .porn _ pd a b => some (encPL pd a b 4)
  | .br _ p n disp => some (encB p (b1 n) disp.toNat)
  | .jal _ d disp => some (encJ 0x0D d disp.toNat)
  | .lb _ d a imm _ => some (encI 0x10 d a imm.toNat)
  | .lbu _ d a imm _ => some (encI 0x11 d a imm.toNat)
  | .lh _ d a imm _ => some (encI 0x12 d a imm.toNat)
  | .lhu _ d a imm _ => some (encI 0x13 d a imm.toNat)
  | .lw _ d a imm _ => some (encI 0x14 d a imm.toNat)
  | .lwu _ d a imm _ => some (encI 0x15 d a imm.toNat)
  | .ld _ d a imm _ => some (encI 0x16 d a imm.toNat)
  | .flh _ d a imm _ => some (encI 0x1d d a imm.toNat)
  | .flw _ d a imm _ => some (encI 0x1e d a imm.toNat)
  | .fld _ d a imm _ => some (encI 0x1f d a imm.toNat)
  | .pf _ a imm => some (encI 0x17 0 a imm.toNat)
  | .sb _ d a imm => some (encI 0x18 d a imm.toNat)
  | .sh _ d a imm => some (encI 0x19 d a imm.toNat)
  | .sw _ d a imm => some (encI 0x1a d a imm.toNat)
  | .sd _ d a imm => some (encI 0x1b d a imm.toNat)
  | .fsh _ d a imm => some (encI 0x20 d a imm.toNat)
  | .fsw _ d a imm => some (encI 0x21 d a imm.toNat)
  | .fsd _ d a imm => some (encI 0x22 d a imm.toNat)
  | .atomicSwap _ d a b acq rel wide => encAt 0 d a b acq rel wide
  | .atomicAdd _ d a b acq rel wide => encAt 1 d a b acq rel wide
  | .atomicAnd _ d a b acq rel wide => encAt 2 d a b acq rel wide
  | .atomicOr _ d a b acq rel wide => encAt 3 d a b acq rel wide
  | .atomicXor _ d a b acq rel wide => encAt 4 d a b acq rel wide
  | .atomicMin _ d a b acq rel wide => encAt 5 d a b acq rel wide
  | .atomicMax _ d a b acq rel wide => encAt 6 d a b acq rel wide
  | .atomicMinu _ d a b acq rel wide => encAt 7 d a b acq rel wide
  | .atomicMaxu _ d a b acq rel wide => encAt 8 d a b acq rel wide
  | .atomicCas _ d a b acq rel wide => encAt 9 d a b acq rel wide
  | .fadd _ fmt rm d a b => encFp 0x00 fmt rm d a b
  | .fsub _ fmt rm d a b => encFp 0x01 fmt rm d a b
  | .fmul _ fmt rm d a b => encFp 0x02 fmt rm d a b
  | .fdiv _ fmt rm d a b => encFp 0x03 fmt rm d a b
  | .fmin _ fmt rm d a b => encFp 0x05 fmt rm d a b
  | .fmax _ fmt rm d a b => encFp 0x06 fmt rm d a b
  | .fcopys _ fmt rm d a b => encFp 0x08 fmt rm d a b
  | .fcopyns _ fmt rm d a b => encFp 0x09 fmt rm d a b
  | .fxors _ fmt rm d a b => encFp 0x0a fmt rm d a b
  | .fsqrt _ fmt rm d a => encFp 0x04 fmt rm d a 0
  | .fcvtF _ fmt src rm d a => encFp 0x10 fmt rm d a src.ctorIdx
  | .fcvtI _ fmt rm d a width uns => encFp 0x11 fmt rm d a (width.ctorIdx + 4 * b1 uns)
  | .fcvtFi _ fmt rm d a width uns => encFp 0x12 fmt rm d a (width.ctorIdx + 4 * b1 uns)
  | .fmvGf _ fmt rm d a => encFp 0x13 fmt rm d a 0
  | .fmvFg _ fmt rm d a => encFp 0x14 fmt rm d a 0
  | .fclass _ fmt rm d a => encFp 0x15 fmt rm d a 0
  | .fmadd _ fmt rm d a b c => some (encF4 0x24 d a b c fmt.ctorIdx rm.ctorIdx)
  | .fmsub _ fmt rm d a b c => some (encF4 0x25 d a b c fmt.ctorIdx rm.ctorIdx)
  | .fnmadd _ fmt rm d a b c => some (encF4 0x26 d a b c fmt.ctorIdx rm.ctorIdx)
  | .fnmsub _ fmt rm d a b c => some (encF4 0x27 d a b c fmt.ctorIdx rm.ctorIdx)
  | .fcmp _ fmt pd a b c => some (encP 0x28 pd a b c.ctorIdx fmt.ctorIdx)
  | .csrrd _ d csr => some (encC d 0 0 csr.toNat)
  | .csrswp _ d csr a => some (encC d a 1 csr.toNat)
  | .csrset _ d csr a => some (encC d a 2 csr.toNat)
  | .csrclr _ d csr a => some (encC d a 3 csr.toNat)
  | .nop _ => some (encX 0 0 0 0 0x00)
  | .dret _ => some (encX 0 0 0 0 0x04)
  | .brk _ => some (encX 0 0 0 0 0x08)
  | .fenceAcq _ => some (encX 0 0 0 0 0x10)
  | .fenceRel _ => some (encX 0 0 0 0 0x11)
  | .fencePkg _ => some (encX 0 0 0 0 0x12)
  | .fenceAcre _ => some (encX 0 0 0 0 0x13)
  | .fenceHost _ => some (encX 0 0 0 0 0x14)
  | .ifence _ => some (encX 0 0 0 0 0x15)
  | .tlbiPlot _ => some (encX 0 0 0 0 0x1a)
  | .tlbiPlotB _ => some (encX 0 0 0 0 0x1b)
  | .xret _ _ => some (encX 0 0 0 0 0x03)
  | .trap _ n _ _ => some (encXN n.toNat 0x01)
  | .gate _ n _ _ => some (encXN n.toNat 0x02)
  | .wait _ d a => some (encX d a 0 0 0x05)
  | .msend _ a b p => some (encX 0 a b p 0x06)
  | .mrecv _ d p => some (encX d 0 0 p 0x07)
  | .tlbiVa _ a => some (encX 0 a 0 0 0x18)
  | .tlbiVaB _ a => some (encX 0 a 0 0 0x19)
  | .cmoInvalidate _ a target sw => encCmo a target 0 sw
  | .cmoClean _ a target sw _ => encCmo a target 1 sw
  | .cmoCleanInvalidate _ a target sw _ => encCmo a target 2 sw
  | .tld _ g rows cols fd td gs1 gs2 => encT .tld { g, rows, cols, fd, td, gs1, gs2 }
  | .tst _ g rows cols fa ta gs1 gs2 => encT .tst { g, rows, cols, fa, ta, gs1, gs2 }
  | .tadd _ g rows cols fa fb fd rnd td ta tb => encT .tadd { g, rows, cols, fa, fb, fd, rnd, td, ta, tb }
  | .tsub _ g rows cols fa fb fd rnd td ta tb => encT .tsub { g, rows, cols, fa, fb, fd, rnd, td, ta, tb }
  | .tmul _ g rows cols fa fb fd rnd td ta tb => encT .tmul { g, rows, cols, fa, fb, fd, rnd, td, ta, tb }
  | .tmin _ g rows cols fa fb fd rnd td ta tb => encT .tmin { g, rows, cols, fa, fb, fd, rnd, td, ta, tb }
  | .tmax _ g rows cols fa fb fd rnd td ta tb => encT .tmax { g, rows, cols, fa, fb, fd, rnd, td, ta, tb }
  | .tand _ g rows cols fa fb fd td ta tb => encT .tand { g, rows, cols, fa, fb, fd, td, ta, tb }
  | .tor _ g rows cols fa fb fd td ta tb => encT .tor { g, rows, cols, fa, fb, fd, td, ta, tb }
  | .txor _ g rows cols fa fb fd td ta tb => encT .txor { g, rows, cols, fa, fb, fd, td, ta, tb }
  | .tmov _ g rows cols fa fd td ta => encT .tmov { g, rows, cols, fa, fd, td, ta }
  | .tneg _ g rows cols fa fd td ta => encT .tneg { g, rows, cols, fa, fd, td, ta }
  | .tabs _ g rows cols fa fd td ta => encT .tabs { g, rows, cols, fa, fd, td, ta }
  | .tcvt _ g rows cols fa fd rnd td ta => encT .tcvt { g, rows, cols, fa, fd, rnd, td, ta }
  | .tzero _ g rows cols fd td => encT .tzero { g, rows, cols, fd, td }
  | .tfill _ g rows cols fd td gs1 => encT .tfill { g, rows, cols, fd, td, gs1 }
  | .tmuls _ g rows cols fa fd rnd td ta gs1 => encT .tmuls { g, rows, cols, fa, fd, rnd, td, ta, gs1 }
  | .tadds _ g rows cols fa fd rnd td ta gs1 => encT .tadds { g, rows, cols, fa, fd, rnd, td, ta, gs1 }
  | .tsync _ g => some (0x33 * 2 ^ 26 + b1 g * 2 ^ 20)
  | .tget _ g gd ta gs1 => encT .tget { g, ta, gs1, gs2 := gd }
  | .tput _ g td gs1 gs2 => encT .tput { g, td, gs1, gs2 }
  | .tmmp _ g rows cols kk fa fb rnd x td ta tb => encM .tmmp { g, rows, cols, kk, fa, fb, rnd, x, td, ta, tb }
  | .tmma _ g rows cols kk fa fb rnd grp ta tb => encM .tmma { g, rows, cols, kk, fa, fb, rnd, grp, ta, tb }
  | .texport _ g rows cols fa fb rnd x grp td ta gs1 => encM .texport { g, rows, cols, fa, fb, rnd, x, grp, td, ta, gs1 }
  | .texportC _ g rows cols fa fb rnd x grp td ta gs1 => encM .texportC { g, rows, cols, fa, fb, rnd, x, grp, td, ta, gs1 }
  | .topen _ g rows cols fa grp gs1 => encM .topen { g, rows, cols, fa, grp, gs1 }
  | .tclose _ g grp => encM .tclose { g, grp }
  | .tsave _ g rows cols grp gs1 => encM .tsave { g, rows, cols, grp, gs1 }
  | .trestore _ g rows cols grp gs1 => encM .trestore { g, rows, cols, grp, gs1 }
  | .tbind _ g rows cols grp gs1 => encM .tbind { g, rows, cols, grp, gs1 }
  | _ => none

/-! ### The instruction that a word means -/

/-- OP 0x01 (Table 5-8). -/
def readInt (h : Tid) (w : Nat) : Option Instr :=
  let d := wReg w 21
  let a := wReg w 16
  let b := wReg w 11
  let W := wBit w 6
  match wf w 0 6 with
  | 0x00 => some (.add h d a b W)
  | 0x01 => some (.sub h d a b W)
  | 0x08 => some (.sll h d a b W)
  | 0x09 => some (.srl h d a b W)
  | 0x0a => some (.sra h d a b W)
  | 0x0b => some (.ror h d a b W)
  | 0x10 => some (.mul h d a b W)
  | 0x14 => some (.div h d a b W)
  | 0x15 => some (.divu h d a b W)
  | 0x16 => some (.rem h d a b W)
  | 0x17 => some (.remu h d a b W)
  | 0x02 => some (.and h d a b)
  | 0x03 => some (.or h d a b)
  | 0x04 => some (.xor h d a b)
  | 0x05 => some (.andn h d a b)
  | 0x11 => some (.mulh h d a b)
  | 0x12 => some (.mulhu h d a b)
  | 0x18 => some (.min h d a b)
  | 0x19 => some (.max h d a b)
  | 0x1a => some (.minu h d a b)
  | 0x1b => some (.maxu h d a b)
  | 0x20 => some (.clz h d a)
  | 0x21 => some (.ctz h d a)
  | 0x22 => some (.popc h d a)
  | 0x23 => some (.bswap h d a)
  | 0x24 => some (.sextb h d a)
  | 0x25 => some (.sexth h d a)
  | 0x26 => some (.sextw h d a)
  | 0x27 => some (.zextw h d a)
  | 0x28 => some (.sel h d a b (wPred w 7))
  | _ => none

/-- OP 0x06. -/
def readShift (h : Tid) (w : Nat) : Option Instr :=
  let d := wReg w 21
  let a := wReg w 16
  let sh := wBits w 0 6
  let W := wBit w 8
  match wf w 6 2 with
  | 0 => some (.slli h d a sh W) | 1 => some (.srli h d a sh W) | 2 => some (.srai h d a sh W)
  | _ => some (.rori h d a sh W)

/-- OP 0x0B. -/
def readPl (h : Tid) (w : Nat) : Option Instr :=
  let d := wPred w 23
  let a := wPred w 20
  let b := wPred w 17
  match wf w 14 3 with
  | 0 => some (.pand h d a b)
  | 1 => some (.por h d a b)
  | 2 => some (.pxor h d a b)
  | 3 => some (.pandn h d a b)
  | 4 => some (.porn h d a b)
  | _ => none

/-- OP 0x1C (R121). -/
def readAtomic (h : Tid) (w : Nat) : Option Instr :=
  let d := wReg w 21
  let a := wReg w 16
  let b := wReg w 11
  let acq := wBit w 4
  let rel := wBit w 5
  let wide := wBit w 6
  match wf w 0 4 with
  | 0 => some (.atomicSwap h d a b acq rel wide)
  | 1 => some (.atomicAdd h d a b acq rel wide)
  | 2 => some (.atomicAnd h d a b acq rel wide)
  | 3 => some (.atomicOr h d a b acq rel wide)
  | 4 => some (.atomicXor h d a b acq rel wide)
  | 5 => some (.atomicMin h d a b acq rel wide)
  | 6 => some (.atomicMax h d a b acq rel wide)
  | 7 => some (.atomicMinu h d a b acq rel wide)
  | 8 => some (.atomicMaxu h d a b acq rel wide)
  | 9 => some (.atomicCas h d a b acq rel wide)
  | _ => none

/-- OP 0x23 (Table 5-10). -/
def readFp (h : Tid) (w : Nat) : Option Instr :=
  (rmOf (wf w 6 3)).bind fun rm =>
    let d := wReg w 21
    let a := wReg w 16
    let b := wReg w 11
    let fmt := fmtOf (wf w 9 2)
    let width := widthOf (wf w 11 2)
    let uns := wBit w 13
    match wf w 0 6 with
    | 0x00 => some (.fadd h fmt rm d a b)
    | 0x01 => some (.fsub h fmt rm d a b)
    | 0x02 => some (.fmul h fmt rm d a b)
    | 0x03 => some (.fdiv h fmt rm d a b)
    | 0x05 => some (.fmin h fmt rm d a b)
    | 0x06 => some (.fmax h fmt rm d a b)
    | 0x08 => some (.fcopys h fmt rm d a b)
    | 0x09 => some (.fcopyns h fmt rm d a b)
    | 0x0a => some (.fxors h fmt rm d a b)
    | 0x04 => some (.fsqrt h fmt rm d a)
    | 0x10 => some (.fcvtF h fmt (fmtOf (wf w 11 2)) rm d a)
    | 0x11 => some (.fcvtI h fmt rm d a width uns)
    | 0x12 => some (.fcvtFi h fmt rm d a width uns)
    | 0x13 => some (.fmvGf h fmt rm d a)
    | 0x14 => some (.fmvFg h fmt rm d a)
    | 0x15 => some (.fclass h fmt rm d a)
    | _ => none

/-- OP 0x24 to 0x27 (F4). -/
def readF4 (h : Tid) (w : Nat) (f : Tid → FFmt → RMode → Reg5 → Reg5 → Reg5 → Reg5 → Instr) : Option Instr :=
  (rmOf (wf w 1 3)).map fun rm => f h (fmtOf (wf w 4 2)) rm (wReg w 21) (wReg w 16) (wReg w 11) (wReg w 6)

/-- OP 0x29 (R124). -/
def readCsr (h : Tid) (w : Nat) : Option Instr :=
  let d := wReg w 21
  let a := wReg w 16
  let csr := wBits w 0 12
  match wf w 14 2 with
  | 0 => some (.csrrd h d csr) | 1 => some (.csrswp h d csr a) | 2 => some (.csrset h d csr a)
  | _ => some (.csrclr h d csr a)

/-- OP 0x2A (Table 5-11). -/
def readSystem (h : Tid) (w : Nat) : Option Instr :=
  let d := wReg w 21
  let a := wReg w 16
  let b := wReg w 11
  match wf w 0 8 with
  | 0x00 => some (.nop h)
  | 0x04 => some (.dret h)
  | 0x08 => some (.brk h)
  | 0x10 => some (.fenceAcq h)
  | 0x11 => some (.fenceRel h)
  | 0x12 => some (.fencePkg h)
  | 0x13 => some (.fenceAcre h)
  | 0x14 => some (.fenceHost h)
  | 0x15 => some (.ifence h)
  | 0x1a => some (.tlbiPlot h)
  | 0x1b => some (.tlbiPlotB h)
  | 0x01 => some (.trap h (wBits w 8 8) .ok .ok)
  | 0x02 => some (.gate h (wBits w 8 8) .ok .ok)
  | 0x03 => some (.xret h .ok)
  | 0x05 => some (.wait h d a)
  | 0x06 => some (.msend h a b (wPred w 8))
  | 0x07 => some (.mrecv h d (wPred w 8))
  | 0x18 => some (.tlbiVa h a)
  | 0x19 => some (.tlbiVaB h a)
  | _ => none

/-- OP 0x2B (R126). -/
def readCmo (h : Tid) (w : Nat) : Option Instr :=
  (targetOf (wf w 6 2)).bind fun target =>
    let a := wReg w 16
    let sw := wBit w 3
    match wf w 4 2 with
    | 0 => some (.cmoInvalidate h a target sw)
    | 1 => some (.cmoClean h a target sw .ok)
    | 2 => some (.cmoCleanInvalidate h a target sw .ok)
    | _ => none

/-- The fields of format T. -/
def fieldsT (w : Nat) : FieldsT :=
  { g := wBit w 20, rows := wBits w 58 6, cols := wBits w 52 6, fa := wBits w 48 4, fb := wBits w 44 4, fd := wBits w 40 4,
    rnd := wBits w 38 2, td := wPred w 17, ta := wPred w 14, tb := wPred w 11, gs1 := wReg w 6, gs2 := wReg w 1 }

/-- The fields of format M. -/
def fieldsM (w : Nat) : FieldsM :=
  { g := wBit w 20, rows := wBits w 58 6, cols := wBits w 52 6, kk := wBits w 46 6, fa := wBits w 42 4, fb := wBits w 38 4,
    rnd := wBits w 36 2, x := wBits w 32 4, grp := Fin.ofNat 16 (w / 2 ^ 16), ta := wPred w 13, tb := wPred w 10,
    td := wPred w 7, gs1 := wReg w 2 }

/-- OP 0x30 (Table 9-4). -/
def readTile0 (h : Tid) (w : Nat) : Option Instr :=
  let x := fieldsT w
  match wf w 21 5 with
  | 0 => some (.tld h x.g x.rows x.cols x.fd x.td x.gs1 x.gs2)
  | 1 => some (.tst h x.g x.rows x.cols x.fa x.ta x.gs1 x.gs2)
  | _ => none

/-- OP 0x31 (Table 9-4). -/
def readTile1 (h : Tid) (w : Nat) : Option Instr :=
  let x := fieldsT w
  match wf w 21 5 with
  | 0 => some (.tadd h x.g x.rows x.cols x.fa x.fb x.fd x.rnd x.td x.ta x.tb)
  | 1 => some (.tsub h x.g x.rows x.cols x.fa x.fb x.fd x.rnd x.td x.ta x.tb)
  | 2 => some (.tmul h x.g x.rows x.cols x.fa x.fb x.fd x.rnd x.td x.ta x.tb)
  | 3 => some (.tmin h x.g x.rows x.cols x.fa x.fb x.fd x.rnd x.td x.ta x.tb)
  | 4 => some (.tmax h x.g x.rows x.cols x.fa x.fb x.fd x.rnd x.td x.ta x.tb)
  | 8 => some (.tand h x.g x.rows x.cols x.fa x.fb x.fd x.td x.ta x.tb)
  | 9 => some (.tor h x.g x.rows x.cols x.fa x.fb x.fd x.td x.ta x.tb)
  | 10 => some (.txor h x.g x.rows x.cols x.fa x.fb x.fd x.td x.ta x.tb)
  | _ => none

/-- OP 0x32 (Table 9-4). -/
def readTile2 (h : Tid) (w : Nat) : Option Instr :=
  let x := fieldsT w
  match wf w 21 5 with
  | 0 => some (.tmov h x.g x.rows x.cols x.fa x.fd x.td x.ta)
  | 1 => some (.tcvt h x.g x.rows x.cols x.fa x.fd x.rnd x.td x.ta)
  | 2 => some (.tzero h x.g x.rows x.cols x.fd x.td)
  | 3 => some (.tfill h x.g x.rows x.cols x.fd x.td x.gs1)
  | 4 => some (.tneg h x.g x.rows x.cols x.fa x.fd x.td x.ta)
  | 5 => some (.tabs h x.g x.rows x.cols x.fa x.fd x.td x.ta)
  | 6 => some (.tmuls h x.g x.rows x.cols x.fa x.fd x.rnd x.td x.ta x.gs1)
  | 7 => some (.tadds h x.g x.rows x.cols x.fa x.fd x.rnd x.td x.ta x.gs1)
  | _ => none

/-- OP 0x33 (Table 9-4). -/
def readTile3 (h : Tid) (w : Nat) : Option Instr :=
  let x := fieldsT w
  match wf w 21 5 with
  | 0 => some (.tsync h x.g)
  | 1 => some (.tget h x.g x.gs2 x.ta x.gs1)
  | 2 => some (.tput h x.g x.td x.gs1 x.gs2)
  | _ => none

/-- OP 0x34 (Table 10-2). -/
def readTile4 (h : Tid) (w : Nat) : Option Instr :=
  let x := fieldsM w
  match wf w 21 5 with
  | 0 => some (.tmmp h x.g x.rows x.cols x.kk x.fa x.fb x.rnd x.x x.td x.ta x.tb)
  | 1 => some (.tmma h x.g x.rows x.cols x.kk x.fa x.fb x.rnd x.grp x.ta x.tb)
  | 2 => some (.texport h x.g x.rows x.cols x.fa x.fb x.rnd x.x x.grp x.td x.ta x.gs1)
  | 3 => some (.texportC h x.g x.rows x.cols x.fa x.fb x.rnd x.x x.grp x.td x.ta x.gs1)
  | _ => none

/-- OP 0x35 (Table 10-2). -/
def readTile5 (h : Tid) (w : Nat) : Option Instr :=
  let x := fieldsM w
  match wf w 21 5 with
  | 0 => some (.topen h x.g x.rows x.cols x.fa x.grp x.gs1)
  | 1 => some (.tclose h x.g x.grp)
  | 2 => some (.tsave h x.g x.rows x.cols x.grp x.gs1)
  | 3 => some (.trestore h x.g x.rows x.cols x.grp x.gs1)
  | 4 => some (.tbind h x.g x.rows x.cols x.grp x.gs1)
  | _ => none

/-- The instruction that the opcode and function fields of a word name (Table 5-7), whatever its unused fields hold. -/
def readInstr (h : Tid) (w : Nat) : Option Instr :=
  let d := wReg w 21
  let a := wReg w 16
  let imm := wBits w 0 16
  match wf w 26 6 with
  | 0x01 => readInt h w
  | 0x02 => some (.addi h d a imm)
  | 0x03 => some (.andi h d a imm)
  | 0x04 => some (.ori h d a imm)
  | 0x05 => some (.xori h d a imm)
  | 0x06 => readShift h w
  | 0x07 => some (.cati h d a imm)
  | 0x08 => some (.adpc h d (wBits w 0 21))
  | 0x09 => (condOf (wf w 10 3)).map fun c => .cmp h (wPred w 23) (wReg w 18) (wReg w 13) c
  | 0x0A => (condOf (wf w 15 3)).map fun c => .cmpi h (wPred w 23) (wReg w 18) (wBits w 0 15) c
  | 0x0B => readPl h w
  | 0x0C => some (.br h (wPred w 23) (wBit w 22) (wBits w 0 22))
  | 0x0D => some (.jal h d (wBits w 0 21))
  | 0x0E => some (.jalr h d a imm)
  | 0x10 => some (.lb h d a imm false)
  | 0x11 => some (.lbu h d a imm false)
  | 0x12 => some (.lh h d a imm false)
  | 0x13 => some (.lhu h d a imm false)
  | 0x14 => some (.lw h d a imm false)
  | 0x15 => some (.lwu h d a imm false)
  | 0x16 => some (.ld h d a imm false)
  | 0x1d => some (.flh h d a imm false)
  | 0x1e => some (.flw h d a imm false)
  | 0x1f => some (.fld h d a imm false)
  | 0x17 => some (.pf h a imm)
  | 0x18 => some (.sb h d a imm)
  | 0x19 => some (.sh h d a imm)
  | 0x1a => some (.sw h d a imm)
  | 0x1b => some (.sd h d a imm)
  | 0x20 => some (.fsh h d a imm)
  | 0x21 => some (.fsw h d a imm)
  | 0x22 => some (.fsd h d a imm)
  | 0x1C => readAtomic h w
  | 0x23 => readFp h w
  | 0x24 => readF4 h w .fmadd
  | 0x25 => readF4 h w .fmsub
  | 0x26 => readF4 h w .fnmadd
  | 0x27 => readF4 h w .fnmsub
  | 0x28 => (fcondOf (wf w 10 3)).map fun c => .fcmp h (fmtOf (wf w 8 2)) (wPred w 23) (wReg w 18) (wReg w 13) c
  | 0x29 => readCsr h w
  | 0x2A => readSystem h w
  | 0x2B => readCmo h w
  | 0x30 => readTile0 h w
  | 0x31 => readTile1 h w
  | 0x32 => readTile2 h w
  | 0x33 => readTile3 h w
  | 0x34 => readTile4 h w
  | 0x35 => readTile5 h w
  | _ => none

/-- The instruction of thread h that a word means (R113, R116): none, ILLEGAL_OP, where no row names it or a field that must
be zero is not. -/
def decodeInstr (h : Tid) (w : Nat) : Option Instr :=
  (readInstr h w).bind fun i => if encodeInstr i = some w then some i else none

/-- A first word whose instruction has a second one (R113). -/
def hasSecond (w : Nat) : Bool := decide (0x30 ≤ wf w 26 6) && decide (wf w 26 6 ≤ 0x37)

end Sys2Proof.Machine
end

