-- ==== Sys2Proof/Machine/Trace.lean ====
section
/-! DEFINITION. The trace units of the cores (R540 to R543): which threads are traced, the packets of Table 23-2
and where the FIFO drops. -/

namespace Sys2Proof.Machine

/-- A core's trace unit. -/
def State.unit (s : State) (c : Nat) : TraceUnit := findD {} c s.gln.units

/-- A core's trace unit, replaced. -/
def State.setUnit (s : State) (c : Nat) (u : TraceUnit) : State :=
  { s with gln := { s.gln with units := put c u s.gln.units } }

/-- What a trace unit keeps of a context. -/
def TraceUnit.ctx (u : TraceUnit) (j : Nat) : TraceCtx := findD {} j u.ctxs

/-- Replace what a trace unit keeps of a context. -/
def TraceUnit.setCtx (u : TraceUnit) (j : Nat) (x : TraceCtx) : TraceUnit := { u with ctxs := put j x u.ctxs }

/-- A thread is traced in a ring (R540). -/
def State.tracedIn (s : State) (h ring : Nat) : Bool :=
  s.on GLN_TRC_CTL.EN 0 && s.bitF GLN_TRC_CORE.CORES (coreOf h / 32) (coreOf h % 32) &&
  s.bitF GLN_TRC_CTL.CTX 0 (h % 8) && s.bitF GLN_TRC_CTL.RINGS 0 ring

/-- A thread is traced. -/
def State.traced (s : State) (h : Nat) : Bool := s.tracedIn h (s.thread h).ring

/-- Bytes of a trace FIFO (Table 23-5). -/
def fifoMax : Nat := 2048

/-- The header byte of a packet. -/
def trHeader (type ctx : Nat) : Byte := BitVec.ofNat 8 (type * 8 + ctx)

/-- Bytes enter a core's FIFO, or are dropped and counted when it is full or has dropped since its last OVERFLOW
(R543). -/
def State.trBytes (s : State) (c : Nat) (bytes : List Byte) : State :=
  let u := s.unit c
  if u.dropped = 0 && decide (u.fifo.length + bytes.length ≤ fifoMax) then
    s.setUnit c { u with fifo := u.fifo ++ bytes }
  else
    (((s.setUnit c { u with dropped := u.dropped + bytes.length }).bumpBy GLN_TRC_DROP.COUNT 0 bytes.length).setOn
      GLN_TRC_STAT.OVF 0 true)

/-- The unfinished BRANCH packet of a context is sent. -/
def State.trFlushBranch (s : State) (c j : Nat) : State :=
  let x := (s.unit c).ctx j
  if x.outcomes = [] then s
  else
    let bits := x.outcomes.zipIdx.foldl (fun v o => if o.1 then v + 2 ^ (3 + o.2) else v) x.outcomes.length
    let s := s.setUnit c ((s.unit c).setCtx j { x with outcomes := [], packets := x.packets + 1 })
    s.trBytes c [trHeader 2 j, BitVec.ofNat 8 bits]

/-- SYNC (R541): thread, ring, the PC of the next instruction and the timestamp. -/
def State.trSync (s : State) (h : Nat) : State :=
  let t := s.thread h
  let c := coreOf h
  let j := h % 8
  let s := s.trFlushBranch c j
  let s := s.setUnit c ((s.unit c).setCtx j { synced := true, packets := 0, lastTs := s.now })
  s.trBytes c ([trHeader 1 j] ++ leBytes 2 (h + t.ring * 4096) ++ leBytes 8 t.pc.toNat ++ leBytes 8 s.now)

/-- The context's next packet must be preceded by SYNC (R541). -/
def TraceCtx.due (x : TraceCtx) : Bool := !x.synced || decide (256 ≤ x.packets)

/-- TS (Table 23-2): the context has gone 2^TSPER counts without a timestamped packet. -/
def State.trStamp (s : State) (c j : Nat) : State :=
  let x := (s.unit c).ctx j
  if s.now - x.lastTs < 2 ^ s.f GLN_TRC_CTL.TSPER 0 then s
  else
    (s.setUnit c ((s.unit c).setCtx j { x with packets := x.packets + 1, lastTs := s.now })).trBytes c
      (trHeader 5 j :: leBytes 8 s.now)

/-- A packet of a traced thread: SYNC first where R541 asks for it, TS where the interval has passed, then the
packet itself. -/
def State.trPacket (s : State) (h type : Nat) (body : List Byte) (timestamped : Bool) : State :=
  let c := coreOf h
  let j := h % 8
  let s := s.trFlushBranch c j
  let s := if ((s.unit c).ctx j).due then s.trSync h else s
  let s := if timestamped then s else s.trStamp c j
  let x := (s.unit c).ctx j
  let s := s.setUnit c ((s.unit c).setCtx j
    { x with packets := x.packets + 1, lastTs := if timestamped then s.now else x.lastTs })
  s.trBytes c (trHeader type j :: body)

/-- A BR of a traced thread: its outcome joins the BRANCH packet, which is sent when it holds five. SYNC stands before the
packet's first outcome where it is due, and TS follows the packet, since BRANCH goes before any other packet. -/
def State.trBranch (s : State) (h : Nat) (taken : Bool) : State :=
  if !s.traced h then s
  else
    let c := coreOf h
    let j := h % 8
    let x := (s.unit c).ctx j
    let s := if x.outcomes = [] && x.due then s.trSync h else s
    let x := (s.unit c).ctx j
    let s := s.setUnit c ((s.unit c).setCtx j { x with outcomes := x.outcomes ++ [taken] })
    if 4 ≤ x.outcomes.length then (s.trFlushBranch c j).trStamp c j else s

/-- JALR, XRET and DRET of a traced thread. -/
def State.trTarget (s : State) (h : Nat) (pc : Word) : State :=
  if s.traced h then s.trPacket h 3 (leBytes 8 pc.toNat) false else s

/-- An exception entry, a GATE (code 0) or a double-fault entry of a thread that was traced in `ring`. -/
def State.trExcept (s : State) (h ring code : Nat) (pc : Word) : State :=
  if s.tracedIn h ring then s.trPacket h 4 (leBytes 1 code ++ leBytes 8 pc.toNat) false else s

/-- HALT: 0 halted, 1 resumed, 2 step done. -/
def State.trHalt (s : State) (h event : Nat) : State :=
  if s.traced h then s.trPacket h 7 (leBytes 1 event ++ leBytes 8 s.now) true else s

/-- PARK. -/
def State.trPark (s : State) (h : Nat) : State :=
  let s := if s.traced h then s.trPacket h 9 (leBytes 8 s.now) true else s
  let u := s.unit (coreOf h)
  s.setUnit (coreOf h) (u.setCtx (h % 8) { u.ctx (h % 8) with synced := false })

/-- A thread became traced, or is no longer (R541): SYNC, or its next traced packet starts with one. -/
def State.trRescan (s : State) (h : Nat) : State :=
  let m := (s.thread h).mode
  let u := s.unit (coreOf h)
  let x := u.ctx (h % 8)
  if s.traced h && (m = .running || m = .waiting) then (if x.synced then s else s.trSync h)
  else if x.synced then s.setUnit (coreOf h) (u.setCtx (h % 8) { x with synced := false })
  else s

/-- The next packet of a context starts with SYNC. -/
def State.trUnsync (s : State) (h : Nat) : State :=
  let u := s.unit (coreOf h)
  if (u.ctx (h % 8)).synced then s.setUnit (coreOf h) (u.setCtx (h % 8) { u.ctx (h % 8) with synced := false }) else s

/-- With STALL, an instruction whose packets do not fit does not retire (R543): `s'` is the state after it. -/
def State.trRetire (s : State) (h : Nat) (s' : State) : State :=
  if s.on GLN_TRC_CTL.STALL 0 && decide ((s.unit (coreOf h)).dropped < (s'.unit (coreOf h)).dropped) then s else s'

/-- The system stream (R540): a packet with context field 0 under core number 0xFF. -/
def State.trSystem (s : State) (type : Nat) (body : List Byte) : State :=
  if s.on GLN_TRC_CTL.SYS 0 && s.on GLN_TRC_CTL.EN 0 then s.trBytes 255 (trHeader type 0 :: body) else s

end Sys2Proof.Machine
end

