-- ==== Sys2Proof/Machine/Exceptions.lean ====
section
/-! DEFINITION. Taking an exception (R158 to R168), the double-fault path and the third fault (R175 to R182), and
the return from one (R107, R171, R178); TRAP, GATE, BRK, and the delivery of asynchronous events. -/

namespace Sys2Proof.Machine

/-! ### Causes (Table 7-1) -/

/-- The level of a cause; 0 for TRAP and the double-fault codes. -/
def levelOf (code : Nat) : Nat :=
  match code with
  | 0x01 => 12 | 0x02 => 12 | 0x03 => 8 | 0x04 => 12 | 0x05 => 12 | 0x06 => 12 | 0x07 => 8
  | 0x09 => 12 | 0x0A => 8 | 0x0B => 8 | 0x0C => 15 | 0x10 => 8 | 0x11 => 15
  | 0x40 => 14 | 0x41 => 6 | 0x42 => 4 | 0x43 => 4
  | _ => 0

/-- A cause that the raising ring handles. -/
def raisingRing (code : Nat) : Bool :=
  code = 0x03 || code = 0x07 || code = 0x0A || code = 0x0B || code = 0x10

/-- The ring that handles a cause raised in `ring`. -/
def handlingRing (code ring : Nat) : Nat := if raisingRing code then ring else 0

/-- An asynchronous event. -/
def isAsync (code : Nat) : Bool := code = 0x0C || 0x40 ≤ code

/-- A value of CAUSE. -/
def causeImage (src level : Nat) (async : Bool) (info code : Nat) : Word :=
  BitVec.ofNat 64 (src * 2 ^ 28 + level * 2 ^ 24 + (if async then 2 ^ 23 else 0) + info * 256 + code)

/-- SAVED: ring, GMASK and MLEVEL in force (Table 7-2). -/
def Thread.saved (t : Thread) : Nat := t.ring + (if t.gmask then 4 else 0) + t.mlevel * 16

/-! ### Direct accesses of the exception unit -/

/-- Bytes written past the merging buffer leave its older entries (notes/assumptions/20). -/
def Core.mbForget (c : Core) (line mask : Nat) : Core :=
  let es := c.mbuf.map fun e => if e.line = line then { e with mask := e.mask ^^^ (e.mask &&& mask) } else e
  { c with mbuf := es.filter fun e => e.mask ≠ 0 }

/-- The physical address of the double-fault area of a thread, and its offset in the seedbox (R177). -/
def dfOff (h : Nat) : Nat := h % 8 * 0x8000 + 0x7000
def dfArea (h : Nat) : Nat := 0x8000000000 + coreOf h * 0x40000 + dfOff h

/-- Write words into the double-fault area, untranslated: it cannot fault. -/
def State.dfWrite (s : State) (h off : Nat) (words : List Nat) : State :=
  let n := coreOf h
  let bytes := words.flatMap (leBytes 8)
  let mask := maskOf 0 bytes.length
  let s := s.setCore n ((s.core n).mbForget ((dfArea h + off) / 64) mask)
  s.setSeed n ((s.seed n).write (dfOff h + off) bytes)

/-- A line of the own seedbox as the thread sees it, its merging-buffer bytes laid over it. -/
def State.dfRead (s : State) (h : Nat) : List Byte :=
  let n := coreOf h
  (s.core n).mergeMb (dfArea h / 64) ((s.seed n).read (dfOff h) 64)

/-- The 8-byte word at an offset of some bytes. -/
def wordAt (b : List Byte) (off : Nat) : Nat := leNat ((b.drop off).take 8)

/-- Memory that a frame may lie in: Normal or Local. -/
def Region.frameOk (r : Region) : Bool :=
  match r with
  | .normal .. => true
  | .seedbox .. => true
  | _ => false

/-- Step 3 of R168: the frame is written at XSPd − 64 with ring-d rights; the new XSPd, or none where the push
faults. -/
def State.pushFrame (s : State) (h d : Nat) (frame : List Byte) (res : MemRes) : Option Word × State :=
  let n := coreOf h
  let va := (s.thread h).xspOf d - 64
  if va.toNat % 64 ≠ 0 then (none, s)
  else
    match s.translateNow h va .store d true res with
    | (none, s) => (none, s)
    | (some (pa, uc), s) =>
      if !(s.region pa).frameOk then (none, s)
      else
        let (ok, s) := s.lineWrite (furrowOf n) (pa / 64) fullMask frame uc none res
        if ok then (some va, s.setCore n ((s.core n).mbForget (pa / 64) fullMask)) else (none, s)

/-- The frame of Table 7-2. -/
def Thread.frame (t : Thread) (epc cause eaddr : Word) : List Byte :=
  leBytes 8 epc.toNat ++ leBytes 8 t.saved ++ leBytes 8 cause.toNat ++ leBytes 8 eaddr.toNat ++
  leBytes 8 (t.readG 30).toNat ++ leBytes 8 (t.readG 31).toNat ++ List.replicate 16 0

/-! ### Fetching (R113, Table 4-10) -/

/-- The leaf entry that the last fetch at an address went through; 0 while translation is off. -/
def State.fetchLeaf (s : State) (h : Nat) (va : Word) : Nat :=
  let t := s.thread h
  if t.transOn then (((s.core (coreOf h)).tlbFind true t.plotTag (va56 va)).map (·.leaf)).getD 0 else 0

/-- The word at a physical address, as a fetch reads it: from the L1I line where the core has it and IEN is 1, else from the
furrow cache, Granary or the seedbox; none for a decode error, a region that is not executable or an uncorrectable
error. -/
def State.fetchBytes (s : State) (h pa : Nat) (uc : Bool) (res : MemRes) : Option Nat × State :=
  let n := coreOf h
  let line := if uc || !s.ien n then none else (s.core n).l1iLine (pa / 64)
  match s.region pa, line with
  | .normal .., some x => (some (leNat (lineSlice x.data pa 4)), s)
  | .normal .., none =>
    (match s.lineRead (furrowOf n) pa 4 uc 0 res with
     | (.data b, s) => (some (leNat b), s)
     | (_, s) => (none, s))
  | .seedbox m off, _ => (some (leNat ((s.seed m).read off 4)), s)
  | _, _ => (none, s)

/-- A fetch of one word: the word, or the cause of its fault. -/
def State.fetchWord (s : State) (h : Nat) (va : Word) (res : MemRes) : Sum Nat Nat × State :=
  let t := s.thread h
  match s.fetchPa h va res with
  | (none, s) => (.inl cFetchFault, s)
  | (some (pa, uc), s) =>
    let leaf := s.fetchLeaf h va
    if entNx leaf || (entNxp leaf && decide (t.ring < 2)) then (.inl cFetchNx, s)
    else
      match s.fetchBytes h pa uc res with
      | (none, s) => (.inl cFetchFault, s)
      | (some w, s) => (.inr w, s)

/-- A fetch of an instruction: its word, with the second word of a tile instruction in bits [63:32], or the cause and the
address of a fault. -/
def State.fetchInstr (s : State) (h : Nat) (va : Word) (res : MemRes) : Sum (Nat × Word) Nat × State :=
  match s.fetchWord h va res with
  | (.inl code, s) => (.inl (code, va), s)
  | (.inr w, s) =>
    if !hasSecond w then (.inr w, s)
    else
      match s.fetchWord h (va + 4) res with
      | (.inl code, s) => (.inl (code, va + 4), s)
      | (.inr w2, s) => (.inr (w + w2 * 2 ^ 32), s)

/-- An instruction can be fetched at an address. -/
def State.fetchOk (s : State) (h : Nat) (va : Word) (res : MemRes) : Bool × State :=
  match s.fetchInstr h va res with
  | (.inl _, s) => (false, s)
  | (.inr _, s) => (true, s)

/-! ### Entry -/

/-- The double-fault path (R177): the record, the CSRs, and DFENTRY. -/
def State.doubleFault (s : State) (h code : Nat) (orig resume oeaddr push : Word) : State :=
  let t := s.thread h
  let img := causeImage t.ring 0 false 0 code
  let s := s.dfWrite h 0
    [img.toNat, orig.toNat, resume.toNat, oeaddr.toNat, t.saved, push.toNat, (t.xspOf 0).toNat, s.now]
  let s := s.modThread h fun t =>
    { t.setXsp 0 t.dfsp with cause := img, epc := resume, eaddr := if code = 0x0D then push else oeaddr,
                             ring := 0, dfa := true, gmask := true, mlevel := 15, pc := t.dfentry, raised := none,
                             hold := none, haltReq := t.haltReq || t.stepping }
  (s.trExcept h t.ring code t.dfentry).trRescan h

/-- A thread-group reset begins (R43): issue stops and the core drains. One in progress takes it in, as does a plot reset
of the core's owner (R45). -/
def State.tgBegin (s : State) (n : Nat) : State :=
  match find n s.clk.tg, (s.core n).lease.any (s.clk.plotReset.contains ·) with
  | some _, _ => s
  | none, true => s
  | none, false => { s with clk := { s.clk with tg := put n (.draining s.now) s.clk.tg } }

/-- Entries of a receive queue (R109). -/
def mailboxMax : Nat := 8

/-- A post on its way arrives (R109): appended where the queue has room; true: it was. -/
def State.postArrives (s : State) (h dst : Nat) (payload : Word) : Bool × State :=
  let q := (s.thread dst).mailbox
  let ok := decide (q.length < mailboxMax)
  (ok, if ok then s.modThread dst fun t => { t with mailbox := t.mailbox ++ [(payload, h)] } else s)

/-- A post of a thread that stops waiting for it still arrives: only a reset of the target discards it (R129). -/
def State.landPost (s : State) (h : Nat) : State :=
  match (s.thread h).hold with
  | some (.msend dst payload _ false) => (s.postArrives h dst payload).2
  | _ => s

/-- What is left of an instruction in progress in a core that locks up: atomics and CMOs are still performed, everything
else is dropped (R182). -/
def Hold.afterLockup (w : Hold) : Option Hold :=
  match w with
  | .atomic op => some (.atomic op)
  | .cmo op => some (.cmo op)
  | _ => none

/-- A core locks up (R182): every thread halts; posts on their way, atomics and CMOs complete, and their results are
dropped. LOCKUP_N is low while a LOCKED bit is set (State.anyLocked). -/
def State.lockup (s : State) (n : Nat) : State :=
  ((coreThreads n).foldl (fun s h => (s.landPost h).modThread h fun t =>
    { t with mode := .halted, hold := t.hold.bind Hold.afterLockup }) s).setBitF FUR_LOCKSTAT.LOCKED (n / 8) (n % 8) true

/-- The loops that a core belongs to are disarmed, reason 4 (Tables 15-5 and 15-6). -/
def State.loopsLocked (s : State) (n : Nat) : State :=
  { s with loops := s.loops.map fun x =>
      if x.2.cores.contains n && x.2.cause.isNone then (x.1, { x.2 with cause := some 4, waiting := none }) else x }

/-- STOP_REQ in every thread of a sowing that has not exited (R328); the first cause stands. -/
def State.stopSowing (s : State) (e : Nat) (x : Entry) (w : Sowing) (r : Reply) : State :=
  match w.cause with
  | some _ => s
  | none =>
    let s := { s with drill := { s.drill with ledger := put e { x with
      sow := some { w with cause := some r, stopAt := some s.now } } s.drill.ledger } }
    (w.threads.filter fun h => !w.parked.contains h && !(s.thread h).exited).foldl (fun s h => s.raiseAsync h cStopReq) s

/-- Drill stops the sowings of core n (R328). -/
def State.stopSowingsOn (s : State) (n : Nat) (r : Reply) : State :=
  s.drill.ledger.foldl (fun s x =>
    match x.2.sow with
    | some w => if w.threads.any fun h => coreOf h = n then s.stopSowing x.1 x.2 w r else s
    | none => s) s

/-- Two threads of a core take third faults in the same cycle (R183), which one period of the timestamp stands for
(notes/assumptions/20). -/
def State.thirdTogether (s : State) (n : Nat) : Bool := (s.core n).thirdAt = some s.now

/-- The policy of a third fault is applied: a lockup also in place of a reset that a third fault of the same cycle has
begun. -/
def State.applyPolicy (s : State) (h : Nat) (img : Word) : State :=
  let n := coreOf h
  if (s.thread h).lockpol then
    let s := { s with clk := { s.clk with tg := if s.thirdTogether n then drop n s.clk.tg else s.clk.tg } }
    (((s.lockup n).loopsLocked n).logEvent 0x0012 h noInst img.toNat 0 0).stopSowingsOn n
      { status := 8, detail := 0x32, result := h }
  else if s.locked n then s.logEvent 0x0012 h noInst img.toNat 0 0
  else ((s.tgBegin n).logEvent 0x0011 h noInst img.toNat 0 0).stopSowingsOn n { status := 8, detail := 0x31, result := h }

/-- A third fault (R180 to R183): the record at offset 0x080, then the policy. -/
def State.thirdFault (s : State) (h : Nat) (img epc eaddr : Word) : State :=
  let n := coreOf h
  let pol := (s.thread h).lockpol || s.locked n
  let s := s.dfWrite h 0x80 [img.toNat, epc.toNat, eaddr.toNat, s.now, if pol then 1 else 0]
  let s := (s.landPost h).modThread h fun t => { t with raised := none, hold := none }
  let s := s.applyPolicy h img
  s.setCore n { s.core n with thirdAt := some s.now }

/-- Steps 4 and 5 of R168: the CSRs, g31, the ring, MLEVEL (R166) and the handler's entry point. -/
def Thread.entered (t : Thread) (x : Exc) (img sp : Word) (d : Nat) : Thread :=
  { (t.setXsp d sp).writeG 31 sp with
      cause := img, epc := x.epc, eaddr := x.eaddr, ring := d, pc := t.entryOf d, raised := none, hold := none,
      mlevel := if d = 0 && !raisingRing x.code && x.code ≠ cTrap then levelOf x.code else t.mlevel,
      haltReq := t.haltReq || t.stepping }

/-- The CAUSE image of an exception. -/
def Exc.image (x : Exc) (ring : Nat) : Word := causeImage ring (levelOf x.code) (isAsync x.code) x.info x.code

/-- A fault that GMASK or MLEVEL masks (R164). -/
def Exc.masked (x : Exc) (t : Thread) : Bool :=
  !isAsync x.code && x.code ≠ cTrap && (t.gmask || decide (levelOf x.code ≤ t.mlevel))

/-- Taking an exception (R168): the third fault while DFA is 1; MASKED_FAULT for a fault that GMASK or MLEVEL masks
(R164); else the frame is pushed and the handling ring entered. `res` is how the frame's accesses come back, `ent` those of
the handler's first fetch. -/
def State.takeException (s : State) (h : Nat) (x : Exc) (res ent : MemRes) : State :=
  let t := s.thread h
  let img := x.image t.ring
  if t.dfa then s.thirdFault h img x.epc x.eaddr
  else if x.masked t then s.doubleFault h cMaskedFault img x.epc x.eaddr 0
  else
    let d := handlingRing x.code t.ring
    match s.pushFrame h d (t.frame x.epc img x.eaddr) res with
    | (none, s) => s.doubleFault h cXspInvalid img x.epc x.eaddr (t.xspOf d - 64)
    | (some sp, s) =>
      let entry := t.entryOf d
      let s := s.modThread h fun t => t.entered x img sp d
      let s := (s.trExcept h t.ring x.code entry).trRescan h
      let (ok, s) := s.fetchOk h entry ent
      if ok then s else s.doubleFault h cDoubleFault img entry x.eaddr 0

/-- An entry waits for a table walker of the core (R146): for its frame, or for the handler's first fetch. -/
def State.entryWaits (s : State) (h : Nat) (x : Exc) : Bool :=
  let t := s.thread h
  let d := handlingRing x.code t.ring
  !t.dfa && !x.masked t && (s.walkWaits h d (t.xspOf d - 64) .store || s.walkWaits h d (t.entryOf d) .fetch)

/-- The exception that fetching at PC raises, if any: a failed fetch, or a word that means nothing (R113, R116). -/
def State.fetchExc (s : State) (h : Tid) (res : MemRes) : Option Exc × State :=
  let t := s.thread h
  match s.fetchInstr h t.pc res with
  | (.inl (code, va), s) => (some { code := code, epc := t.pc, eaddr := va }, s)
  | (.inr w, s) =>
    (match decodeInstr h w with
     | some _ => none
     | none => some { code := cIllegalOp, epc := t.pc, eaddr := BitVec.ofNat 64 w }, s)

/-- An exception of a thread is taken, unless it must wait for a table walker. -/
def State.enter (s : State) (h : Nat) (x : Exc) (res ent : MemRes) : State :=
  if s.entryWaits h x then s else s.trRetire h (s.takeException h x res ent)

/-- The thread's core stopped in this cycle for a third fault of another thread, and this thread takes one too (R183). -/
def State.thirdToo (s : State) (h : Nat) : Bool :=
  let t := s.thread h
  s.thirdTogether (coreOf h) && t.raised.isSome && t.dfa && !(s.core (coreOf h)).gated

/-- EXCEPTION_ENTRY (R168): a fault or event of the thread enters its handling ring; with `fetch`, the thread fetches its
next instruction, `fetch` saying how that access comes back, and takes the exception that the fetch raises, if any. `res`
is how the frame's accesses come back, and `ent` those of the handler's first fetch. -/
def execExceptionEntry (h : Tid) (fetch : Option MemRes) (res ent : MemRes) (s : State) : Out :=
  .next <|
    let t := s.thread h
    if !s.thirdToo h && (!s.coreRuns (coreOf h) || t.mode ≠ .running) then s
    else
      match t.raised, fetch with
      | some x, _ => s.enter h x res ent
      | none, some r =>
        if !s.ready h || s.walkWaits h t.ring t.pc .fetch then s
        else
          (match s.fetchExc h r with
           | (none, s) => s
           | (some x, s') => if s'.entryWaits h x then s else s.trRetire h (s'.takeException h x res ent))
      | none, none => s

/-! ### Asynchronous events (R162) -/

/-- What may be discarded for an event: an instruction that has not been performed (R141, R162). -/
def Hold.discardable (w : Hold) : Bool :=
  match w with
  | .walk .. => true
  | .l1miss _ => true
  | .l1busy _ => true
  | .overlap .. => true
  | .load op => op.parts.all fun p => decide (p.pa < granarySpan) || (0x8000000000 ≤ p.pa && decide (p.pa < 0x8002000000))
  | .atomic _ => false
  | .fence .. => true
  | .cmo _ => false
  | .wait .. => false
  | .msend .. => false
  | .tlbi _ => true
  | .tile .. => true
  | .tileRun _ => false
  | .tsync .. => true

/-- EVENT_DELIVERY (R162, R163): the most urgent event that qualifies is taken at an instruction boundary: the oldest
instruction is discarded, and the event's pending bit clears. -/
def execEventDelivery (h : Tid) (s : State) : Out :=
  .next <|
    let t := s.thread h
    let free := match t.hold with
      | none => true
      | some w => w.discardable
    if !s.coreRuns (coreOf h) || t.mode ≠ .running || t.raised.isSome || t.haltReq || t.exited || !free then s
    else
      match s.asyncDue h with
      | none => s
      | some (code, _) =>
        let s := if code = cLateStore then s.setOn FUR_XPEND.LSE h false
          else s.setBitF FUR_XPEND.SRC h (code - 0x40) false
        s.modThread h fun t => { t with hold := none, raised := some { code := code, epc := t.pc, eaddr := 0 } }

/-- XPEND_CANCEL: writing 1 to a SRC bit cancels that source. -/
def execXpendCancel (agent : Agent) (h : Tid) (mask : BitVec 4) (s : State) : Out :=
  .next (if s.acts agent && reaches agent then
      let v := s.f FUR_XPEND.SRC h
      s.setF FUR_XPEND.SRC h (v - (v &&& mask.toNat))
    else s)

/-! ### TRAP, GATE, XRET, DRET, BRK -/

/-- TRAP n (R108, R170): the instruction retires and its exception is taken. -/
def execTrap (h : Tid) (n : BitVec 8) (res ent : MemRes) (s : State) : Out :=
  s.instr h fun t s =>
    let x : Exc := { code := cTrap, epc := t.pc + 4, eaddr := 0, info := n.toNat }
    if s.entryWaits h x then s else s.trRetire h ((s.setThread h t.next).takeException h x res ent)

/-- GATE n raises GATE_FAULT. -/
def State.gateFault (s : State) (h n : Nat) (entry : Word) : State :=
  s.modThread h fun t => { t with raised := some { code := cGateFault, epc := t.pc, eaddr := entry, info := n } }

/-- The two words of a gate table entry, read with ring-0 rights (R106). -/
def State.gateEntry (s : State) (h : Nat) (va : Word) (res : MemRes) : Option (Nat × Nat) × State :=
  match s.translateNow h va .load 0 false res with
  | (none, s) => (none, s)
  | (some (pa, uc), s) =>
    match s.lineRead (furrowOf (coreOf h)) (pa / 64 * 64) 64 uc 0 res with
    | (.data b, s) =>
      let b := (s.core (coreOf h)).mergeMb (pa / 64) b
      (some (wordAt b (pa % 64), wordAt b (pa % 64 + 8)), s)
    | (_, s) => (none, s)

/-- The checks of step 2 of R106 on an entry. -/
def gateOk (target flags ring : Nat) : Bool :=
  flags.testBit 63 && flags / 2 ^ 8 % 2 ^ 55 = 0 && flags / 4 % 4 = 0 && target % 4 = 0 &&
  (flags / 16).testBit ring && decide (flags % 4 ≤ ring)

/-- Steps 3 and 4 of R106: the frame is pushed for ring d, and the thread continues at the entry's target. -/
def State.gateTaken (s : State) (h d target n : Nat) (push : MemRes) : State :=
  let t := s.thread h
  let img := causeImage t.ring 0 false n 0
  match s.pushFrame h d (t.frame (t.pc + 4) img 0) push with
  | (none, s) => s.doubleFault h cXspInvalid img (t.pc + 4) 0 (t.xspOf d - 64)
  | (some sp, s) =>
    let pc := BitVec.ofNat 64 target
    let s := s.modThread h fun u => { (u.setXsp d sp).retired pc with ring := d }
    (s.trExcept h t.ring 0 pc).trRescan h

/-- GATE n (R106). `res` is how the read of the gate table comes back, and `push` the frame's accesses. -/
def execGate (h : Tid) (n : BitVec 8) (res push : MemRes) (s : State) : Out :=
  s.instr h fun t s =>
    let entry := t.gatebase + BitVec.ofNat 64 (16 * n.toNat)
    if t.dfa then s.setThread h { t with raised := some { code := 0, epc := t.pc + 4, eaddr := 0, info := n.toNat } }
    else if t.gatecnt ≤ n.toNat || !canonical t.gatebase then s.gateFault h n.toNat entry
    else if s.walkWaits h 0 entry .load then s
    else
      match s.gateEntry h entry res with
      | (none, s) => s.gateFault h n.toNat entry
      | (some (target, flags), s') =>
        if !gateOk target flags t.ring then s'.gateFault h n.toNat entry
        else if s'.walkWaits h (flags % 4) (t.xspOf (flags % 4) - 64) .store then s
        else s.trRetire h (s'.gateTaken h (flags % 4) target n.toNat push)

/-- The frame at XSPr of the current ring, read with its rights; else the cause of the fault. DESIGN CHOICE
(notes/assumptions/20): a read at an XSPr that is not 64-byte aligned faults, with ORIG_CAUSE MISALIGNED. -/
def State.readFrame (s : State) (h : Nat) (res : MemRes) : Sum Nat (List Byte) × State :=
  let t := s.thread h
  let n := coreOf h
  let va := t.xspOf t.ring
  if va.toNat % 64 ≠ 0 then (.inl cMisaligned, s)
  else
    match s.translateNow h va .load t.ring true res with
    | (none, s) => (.inl cLoadFault, s)
    | (some (pa, uc), s) =>
      match s.lineRead (furrowOf n) pa 64 uc 0 res with
      | (.data b, s) => (.inr ((s.core n).mergeMb (pa / 64) b), s)
      | (.poison, s) => (.inl cUncorrectable, s)
      | (.decode, s) => (.inl cLoadFault, s)

/-- The address bits [63:2] of a word. -/
def pcOf (v : Nat) : Word := masked (BitVec.ofNat 64 v) pcMask

/-- XRET restores the frame (R171). -/
def Thread.xretRestore (t : Thread) (b : List Byte) : Thread :=
  let saved := wordAt b 8
  let r := t.ring
  let u := ((t.writeG 30 (BitVec.ofNat 64 (wordAt b 32))).writeG 31 (BitVec.ofNat 64 (wordAt b 40))).setXsp r (t.xspOf r + 64)
  { u.retired (pcOf (wordAt b 0)) with
      ring := saved % 4, gmask := if r = 0 then saved.testBit 2 else t.gmask,
      mlevel := if r = 0 then saved / 16 % 16 else t.mlevel }

/-- XRET (R107, R171, R176). -/
def execXret (h : Tid) (res : MemRes) (s : State) : Out :=
  s.instr h fun t s =>
    if t.dfa then s.fault h cIllegalOp (wordX 0 0 0 0 0x03)
    else if s.walkWaits h t.ring (t.xspOf t.ring) .load then s
    else
      let (b, s') := s.readFrame h res
      match b with
      | .inl code => s'.doubleFault h cDoubleFault (causeImage t.ring (levelOf code) false 0 code) t.pc (t.xspOf t.ring) 0
      | .inr b =>
        if wordAt b 8 % 4 < t.ring then s'.fault h cRingViolation (wordX 0 0 0 0 0x03)
        else
          s.trRetire h (((s'.trTarget h (pcOf (wordAt b 0))).modThread h fun t => t.xretRestore b).trRescan h)

/-- DRET restores the double-fault record (R178). -/
def Thread.dretRestore (t : Thread) (b : List Byte) : Thread :=
  let saved := wordAt b 0x20
  { (t.setXsp 0 (BitVec.ofNat 64 (wordAt b 0x30))).retired (pcOf (wordAt b 0x10)) with
      ring := saved % 4, gmask := saved.testBit 2, mlevel := saved / 16 % 16, dfa := false }

/-- DRET (R104, R178): ILLEGAL_OP while DFA is 0, RING_VIOLATION outside ring 0 (R128). -/
def execDret (h : Tid) (s : State) : Out :=
  s.instr h fun t s =>
    if !t.dfa then s.fault h cIllegalOp (wordX 0 0 0 0 0x04)
    else if t.ring ≠ 0 then s.fault h cRingViolation (wordX 0 0 0 0 0x04)
    else
      let b := s.dfRead h
      s.trRetire h (((s.trTarget h (pcOf (wordAt b 0x10))).modThread h fun t => t.dretRestore b).trRescan h)

/-- BRK (R535): halts its thread, PC at the BRK, when debug is enabled for the core; otherwise ILLEGAL_OP. -/
def execBrk (h : Tid) (s : State) : Out :=
  s.instr h fun _ s =>
    if s.bitF GLN_DBGEN.CORES (coreOf h / 32) (coreOf h % 32) then
      (s.trHalt h 0).modThread h fun t => { t with mode := .halted, stepping := false }
    else s.fault h cIllegalOp (wordX 0 0 0 0 0x08)

end Sys2Proof.Machine
end

