-- ==== Sys2Proof/Machine/Ledger.lean ====
section
/-! DEFINITION. The ledger (R331), the status and detail codes (Tables 14-7 and 14-8), the plots' leases (R317) and
the attachment of host functions (R382), as every family uses them. -/

namespace Sys2Proof.Machine

/-! ### Codes (Tables 14-7 and 14-8) -/

def stOk : Nat := 0x00
def stAborted : Nat := 0x01
def stTooLate : Nat := 0x02
def stFit : Nat := 0x03
def stLease : Nat := 0x04
def stHostLost : Nat := 0x05
def stDeadline : Nat := 0x07
def stFaulted : Nat := 0x08
def stOverrun : Nat := 0x09
def stBad : Nat := 0x0A
def stUntested : Nat := 0x0B
def stSwathLost : Nat := 0x0C
def stBusy : Nat := 0x0D
def stDropped : Nat := 0x0E
def stFull : Nat := 0x0F

def dtOpcode : Nat := 0x01
def dtReserved : Nat := 0x02
def dtSeq : Nat := 0x03
def dtSpace : Nat := 0x04
def dtAddr : Nat := 0x05
def dtAlign : Nat := 0x06
def dtImage : Nat := 0x07
def dtTill : Nat := 0x08
def dtNotPlot0 : Nat := 0x10
def dtNotLeased : Nat := 0x11
def dtOwned : Nat := 0x13
def dtSilicon : Nat := 0x20
def dtNoContext : Nat := 0x21
def dtTillCount : Nat := 0x22
def dtLocked : Nat := 0x23
def dtPeriod : Nat := 0x24
def dtTimeout : Nat := 0x30
def dtReset : Nat := 0x31
def dtLockup : Nat := 0x32
def dtData : Nat := 0x33
def dtForced : Nat := 0x34
def dtIsland : Nat := 0x35
def dtAlready : Nat := 0x40
def dtNonabortable : Nat := 0x41
def dtUnknown : Nat := 0x42

/-! ### The ledger -/

/-- A ledger entry; none is FREE. -/
def State.entry (s : State) (e : Nat) : Option Entry := find e s.drill.ledger

/-- A ledger entry, replaced. -/
def State.setEntry (s : State) (e : Nat) (x : Entry) : State :=
  { s with drill := { s.drill with ledger := put e x s.drill.ledger } }

/-- A ledger entry, changed. -/
def State.modEntry (s : State) (e : Nat) (f : Entry → Entry) : State :=
  match s.entry e with
  | some x => s.setEntry e (f x)
  | none => s

/-- A ledger entry becomes FREE. -/
def State.freeEntry (s : State) (e : Nat) : State := { s with drill := { s.drill with ledger := drop e s.drill.ledger } }

/-- The engine ends a command's work: END_REPORT takes it from here. The first end stands. -/
def State.endWork (s : State) (e : Nat) (r : Reply) : State :=
  s.modEntry e fun x => { x with away := false, reply := some (x.reply.getD r) }

/-- A piece of COPY or FILL is done. -/
def State.pieceDone (s : State) (e n : Nat) : State := s.modEntry e fun x => { x with away := false, prog := x.prog + n }

/-- A queue of plot × 8 + q. -/
def State.queue (s : State) (q : Nat) : QueueRec := findD {} q s.drill.queues

/-- A queue, replaced. -/
def State.setQueue (s : State) (q : Nat) (r : QueueRec) : State :=
  { s with drill := { s.drill with queues := put q r s.drill.queues } }

/-- The lease of a plot. -/
def State.plot (s : State) (p : Nat) : PlotRec := findD {} p s.drill.plots

/-- The lease of a plot, replaced. -/
def State.setPlot (s : State) (p : Nat) (r : PlotRec) : State :=
  { s with drill := { s.drill with plots := put p r s.drill.plots } }

/-- The bits of a mask of `n` bits. -/
def bitsOf (n v : Nat) : List Nat := (List.range n).filter v.testBit

/-- A mask from its bits. -/
def maskOfBits (l : List Nat) : Nat := l.foldl (fun v k => setBit v k true) 0

/-- The plot that leases a channel. -/
def State.chanLease (s : State) (c : Nat) : Option Nat := (s.drill.plots.find? fun p => p.2.channels.contains c).map (·.1)

/-- The plot that leases an extent. -/
def State.extLease (s : State) (x : Nat) : Option Nat := (s.drill.plots.find? fun p => p.2.extents.contains x).map (·.1)

/-! ### Host functions -/

/-- The function is DETACHED (R382). -/
def State.detached (s : State) (p : Nat) : Bool := s.f HST_ATTACH.STATE p = 1

/-- Reads toward the host that may be outstanding (R362). -/
def hostReadMax : Nat := 1024

/-- The lowest number below `n` that is not a key. -/
def lowestFree {α : Type} (n : Nat) (m : List (Nat × α)) : Option Nat := (List.range n).find? fun k => (find k m).isNone

/-- A read toward the host; none while every tag is in use (R380). It leaves the package when the function may send. -/
def State.hostRead (s : State) (plot addr len : Nat) (use : HostUse) : Option State :=
  (lowestFree hostReadMax s.host.reads).map fun tag =>
    let s := { s with host := { s.host with reads := put tag ⟨plot, addr, len, use⟩ s.host.reads } }
    if s.canSend plot then s.send (.hostRead tag plot addr len) else s

/-- Reads whose asker no longer waits. -/
def State.staleReads (s : State) (gone : HostUse → Bool) : State :=
  { s with host := { s.host with reads := s.host.reads.map fun x => if gone x.2.use then (x.1, { x.2 with use := .stale }) else x } }

/-- A posted write toward the host; nothing tells of its loss (R381). -/
def State.hostWrite (s : State) (plot addr : Nat) (b : List Byte) : State :=
  if s.canSend plot then s.send (.hostWrite plot addr b) else s

/-! ### Address operands (R322) -/

/-- The space of an address operand, and its other bits. -/
def opSpace (a : Nat) : Nat := a / 2 ^ 62 % 4
def opAddr (a : Nat) : Nat := a % 2 ^ 62

/-- A line read by an agent without a cache, from the caches or from its channel. -/
def State.dmaLine (s : State) (line src : Nat) : (List Byte × Bool) × State :=
  if (s.dirtyCopy line).isSome then s.coherentLine line src .ok
  else
    let (r, s) := s.takeRes
    s.coherentLine line src r

/-- A table entry, read coherently by Harrow (SRC walk). -/
def State.dmaEntry (s : State) (pa : Nat) : Option Nat × State :=
  match s.region pa with
  | .normal .. =>
    let (d, s) := s.dmaLine (pa / 64) 1
    (if d.2 then none else some (leNat ((d.1.drop (pa % 64)).take 8)), s)
  | _ => (none, s)

/-- A walk of a plot's tables for Drill or Harrow. -/
def State.dmaWalk (s : State) (v table : Nat) : List Nat → Option (Nat × Nat × Nat) × State
  | [] => (none, s)
  | l :: ls =>
    match s.dmaEntry (table + 8 * walkIndex v l) with
    | (none, s) => (none, s)
    | (some e, s) =>
      if !entGood e then (none, s)
      else if entLeaf e then
        if 3 ≤ l || entPa e % 2 ^ (12 + 9 * l) ≠ 0 then (none, s)
        else (some (table + 8 * walkIndex v l, e, 12 + 9 * l), s)
      else s.dmaWalk v (entPa e) ls

/-- The plot's grant covers a physical address: its extents, the open windows of its channels, the seedboxes of its
cores; the memory of another package is that package's to refuse (R427). -/
def State.granted (s : State) (plot pa : Nat) : Bool :=
  match s.region pa with
  | .normal .. => (s.plot plot).extents.contains (pa / 0x200000)
  | .direct c _ => (s.plot plot).channels.contains c
  | .seedbox n _ => (s.core n).lease = some plot
  | .remote .. => true
  | _ => false

/-- The physical address of a plot virtual address, with ring-2 rights (R322); while no sowing has set the plot's
PTROOT, the address itself (notes/assumptions/31). None where it does not translate or lies outside the grant. -/
def State.dmaPa (s : State) (plot va : Nat) (store : Bool) : Option Nat × State :=
  let t : Thread := { ptroot := (s.plot plot).ptroot }
  if !t.transOn then (if s.granted plot va && va < 2 ^ 55 then some va else none, s)
  else
    let v : Word := BitVec.ofNat 64 va
    if !canonical v then (none, s)
    else
      match s.dmaWalk (va56 v) t.rootPa walkLevels with
      | (none, s) => (none, s)
      | (some (at', e, span), s) =>
        if entRmax e < 2 || (store && !entW e) then (none, s)
        else
          let e' := entUsed e store
          let s := if e' = e then s
            else s.coherentWrite (at' / 64) (maskOf (at' % 64) 8) (List.replicate (at' % 64) 0 ++ leBytes 8 e') 1
          let pa := entPa e + va56 v % 2 ^ span
          (if s.granted plot pa then some pa else none, s)

/-- What a read of Drill or Harrow inside one line brings. -/
inductive DmaRead where
  | data (b : List Byte)
  | fault
  | poison
  | remote (pkg loc : Nat)
  | held
deriving DecidableEq, Repr

/-- An access of Drill or Harrow waits at its channel (R286, R309), unless a YIELD has let it pass. -/
def State.dmaHeld (s : State) (plot va pa : Nat) : Bool :=
  s.accessHeld pa && (s.dirtyCopy (pa / 64)).isNone && (s.admitted plot (va / 64) pa).isNone

/-- An access that a YIELD has let pass is performed. -/
def State.dmaPassed (s : State) (plot va pa : Nat) : State :=
  match s.admitted plot (va / 64) pa with
  | none => s
  | some c => s.setSeq c { s.seq c with admitted := (s.seq c).admitted.erase (plot, va / 64) }

/-- Read bytes inside one line, at a plot virtual address. -/
def State.dmaRead (s : State) (plot va len : Nat) : DmaRead × State :=
  match s.dmaPa plot va false with
  | (none, s) => (.fault, s)
  | (some pa, s) =>
    if s.dmaHeld plot va pa then (.held, s.arrive pa (.dma plot (va / 64)))
    else
      let s := s.dmaPassed plot va pa
      match s.region pa with
      | .normal .. =>
        let (d, s) := s.dmaLine (pa / 64) 2
        (if d.2 then .poison else .data (lineSlice d.1 pa len), s)
      | .direct c l =>
        let (r, s) := s.takeRes
        let (d, s) := s.granRead c l 7 r
        (if d.2 then .poison else .data (lineSlice d.1 pa len), s)
      | .seedbox m off => (.data ((s.seed m).read off len), s)
      | .remote p l => (.remote p l, s)
      | _ => (.fault, s)

/-- What a write did. -/
inductive DmaWrite where
  | done
  | fault
  | remote (pkg loc : Nat)
  | held
deriving DecidableEq, Repr

/-- A posted write of Drill or Harrow that a till program holds waits at its channel with its data (R309). -/
def State.holdWrite (s : State) (pa mask : Nat) (img : List Byte) : State :=
  match s.region pa with
  | .direct c l => s.setSeq c { s.seq c with held := (s.seq c).held ++ [.write (l / 64 * 64) mask img] }
  | _ => s

/-- Write bytes inside one line, at a plot virtual address (R200). A `posted` write never has to be made again. -/
def State.dmaWrite (s : State) (plot va : Nat) (b : List Byte) (posted : Bool) : DmaWrite × State :=
  match s.dmaPa plot va true with
  | (none, s) => (.fault, s)
  | (some pa, s) =>
    let k := pa % 64
    let img := List.replicate k 0 ++ b
    if posted && s.directHeld pa then (.done, s.holdWrite pa (maskOf k b.length) img)
    else if !posted && s.dmaHeld plot va pa then (.held, s.arrive pa (.dma plot (va / 64)))
    else
      let s := s.dmaPassed plot va pa
      match s.region pa with
      | .normal .. => (.done, s.coherentWrite (pa / 64) (maskOf k b.length) img 2)
      | .direct c l =>
        let (r, s) := s.takeRes
        (.done, s.granWrite c (l / 64 * 64) (maskOf k b.length) img 7 r)
      | .seedbox m off => (.done, s.setSeed m ((s.seed m).write off b))
      | .remote p l => (.remote p l, s)
      | _ => (.fault, s)

/-- What a read of more than one line brings. -/
inductive DmaBytes where
  | data (b : List Byte)
  | fail
  | held
deriving DecidableEq, Repr

/-- Read `n` bytes at a plot virtual address, line by line, up to the first part that does not come. -/
def State.dmaReadAll (s : State) (plot va : Nat) : Nat → Nat → DmaBytes × State
  | 0, _ => (.data [], s)
  | fuel + 1, n =>
    if n = 0 then (.data [], s)
    else
      let k := min n (64 - va % 64)
      match s.dmaRead plot va k with
      | (.data b, s) =>
        (match s.dmaReadAll plot (va + k) fuel (n - k) with
         | (.data r, s) => (.data (b ++ r), s)
         | (x, s) => (x, s))
      | (.held, s) => (.held, s)
      | (_, s) => (.fail, s)

/-- Write bytes at a plot virtual address, as posted writes. False where a part cannot be written. -/
def State.dmaWriteAll (s : State) (plot va : Nat) : Nat → List Byte → Bool × State
  | 0, _ => (true, s)
  | fuel + 1, b =>
    if b.isEmpty then (true, s)
    else
      let k := min b.length (64 - va % 64)
      match s.dmaWrite plot va (b.take k) true with
      | (.done, s) => s.dmaWriteAll plot (va + k) fuel (b.drop k)
      | (_, s) => (false, s)

/-- Write bytes at an address operand of either space. -/
def State.putBytes (s : State) (plot addr : Nat) (b : List Byte) : Bool × State :=
  match opSpace addr with
  | 0 => s.dmaWriteAll plot (opAddr addr) (b.length / 64 + 2) b
  | 1 => (true, if s.detached plot then s else s.hostWrite plot (opAddr addr) b)
  | _ => (false, s)

end Sys2Proof.Machine
end

