-- ==== Sys2Proof/Machine/RegFile.lean ====
section
/-! DEFINITION. Registers by address: which register and instance lies at an offset of a block's window, what a read
returns and what a write sets by its access codes (R9 to R11). -/

namespace Sys2Proof.Machine

/-- The number of instances that replicas make. -/
def dimCount : List (Nat × Nat) → Nat
  | [] => 1
  | d :: r => d.2 * dimCount r

/-- The replica that an offset falls into, and the offset in it. -/
def dimIndex : List (Nat × Nat) → Nat → Option (Nat × Nat)
  | [], o => some (0, o)
  | d :: r, o => if o / d.1 < d.2 then (dimIndex r (o % d.1)).map fun x => (o / d.1 * dimCount r + x.1, x.2) else none

/-- The register at an offset of instance window `win` of a block: its description, its instance and the byte in
it. -/
def Blk.locate (b : Blk) (win off : Nat) : Option (RegDesc × Nat × Nat) :=
  b.regs.findSome? fun r =>
    if r.off ≤ off then
      match dimIndex r.dims (off - r.off) with
      | some (i, o) => if o < r.width / 8 then some (r, win * dimCount r.dims + i, o) else none
      | none => none
    else none

/-- What a field reads as: write-only fields read zero, views are computed by `view`. -/
def State.readFld (s : State) (view : Fld → Nat → Nat) (F : Fld) (i : Nat) : Nat :=
  match F.acc with
  | .wo => 0
  | .wt => 0
  | .view => view F i % 2 ^ F.width
  | _ => s.f F i

/-- A register's value. -/
def State.readReg (s : State) (view : Fld → Nat → Nat) (r : RegDesc) (i : Nat) : Nat :=
  (r.fields.map fun F => s.readFld view F i * 2 ^ F.lo).sum

/-- The 32-bit word at an offset of a block's window; reserved space reads zero (R9). -/
def State.readWord (s : State) (view : Fld → Nat → Nat) (b : Blk) (win off : Nat) : Nat :=
  match b.locate win off with
  | none => 0
  | some (r, i, o) => s.readReg view r i / 2 ^ (8 * o) % 2 ^ 32

/-- The value of the register of a block whose offset is `off`, for registers without views. -/
def State.regAt (s : State) (b : Blk) (off i : Nat) : Nat :=
  match b.regs.find? fun r => r.off = off with
  | some r => s.readReg (fun _ _ => 0) r i
  | none => 0

/-- An encoding that a write may set (R10). -/
def Fld.takes (F : Fld) (v : Nat) : Bool := F.enc.isEmpty || F.enc.any fun r => decide (r.1 ≤ v) && decide (v ≤ r.2)

/-- What a write of value `v` sets in one field (R9, R10): rw fields take it where their encoding is defined, w1c bits
clear; write-only and trigger fields keep nothing. -/
def State.writeFld (s : State) (F : Fld) (i v : Nat) : State :=
  let x := v / 2 ^ F.lo % 2 ^ F.width
  match F.acc with
  | .rw => if F.takes x then s.setF F i x else s
  | .w1c => s.setF F i (s.f F i &&& (2 ^ F.width - 1 - x))
  | _ => s

/-- A write to every field of a register that lies wholly in bits `lo` to `hi` of it (a 32-bit write of half of a 64-bit
register reaches the fields, or the parts of them, in that half). -/
def State.writeReg (s : State) (r : RegDesc) (i v mask : Nat) : State :=
  r.fields.foldl (fun s F =>
    let old := s.f F i * 2 ^ F.lo
    let w := match F.acc with
      | .w1c => v &&& mask
      | _ => (v &&& mask) ||| (old &&& (2 ^ 64 - 1 - mask % 2 ^ 64))
    if mask / 2 ^ F.lo % 2 ^ F.width = 0 then s else s.writeFld F i w) s

end Sys2Proof.Machine
end

