-- ==== Sys2Proof/Machine/Crc.lean ====
section
/-! DEFINITION. Cyclic redundancy checks in reflected form: CRC-32C of flits and images (Table 17-1), CRC-64 of
sheaves (R402). -/

namespace Sys2Proof.Machine

/-- One bit of a reflected CRC. -/
def crcBit (poly c : Nat) : Nat := if c % 2 = 1 then (c / 2) ^^^ poly else c / 2

/-- Eight bits. -/
def crcByte (poly c : Nat) (b : Byte) : Nat :=
  let f := crcBit poly
  f (f (f (f (f (f (f (f (c ^^^ b.toNat))))))))

/-- The running CRC over bytes. -/
def crcRun (poly c : Nat) (bytes : List Byte) : Nat := bytes.foldl (crcByte poly) c

/-- CRC-32C. -/
def crc32c (bytes : List Byte) : Nat := crcRun 0x82F63B78 0xFFFFFFFF bytes ^^^ 0xFFFFFFFF

/-- The running CRC-64 of R402, and its initial and final values. -/
def crc64Run (c : Nat) (bytes : List Byte) : Nat := crcRun 0xC96C5795D7870F42 c bytes
def crc64Init : Nat := 0xFFFFFFFFFFFFFFFF
def crc64End (c : Nat) : Nat := c ^^^ 0xFFFFFFFFFFFFFFFF

/-- The CRC-64 of R402. -/
def crc64 (bytes : List Byte) : Nat := crc64End (crc64Run crc64Init bytes)

end Sys2Proof.Machine
end

