-- ==== Sys2Proof/Machine/Link.lean ====
section
/-! DEFINITION. The yoke and swath links (R391 to R395, R412, R418, R419): flits, retry, lanes, credit. Link 6 is the
yoke link, links 0 to 5 are the swath links. One flit carries one message (notes/assumptions/30). -/

namespace Sys2Proof.Machine

/-- A link. -/
def State.link (s : State) (k : Nat) : LinkRec := findD {} k s.links

/-- A link, replaced. -/
def State.setLink (s : State) (k : Nat) (l : LinkRec) : State := { s with links := put k l s.links }

/-- The yoke link. -/
def yokeLink : Nat := 6

/-- The state of a link: 0 DOWN, 1 TRAINING, 2 UP. -/
def State.linkState (s : State) (k : Nat) : Nat := if k = 6 then s.f YK_STATUS.LINK 0 else s.f SWT_LSTAT.STATE k

/-- A link's state, replaced. -/
def State.setLinkState (s : State) (k v : Nat) : State :=
  if k = 6 then s.setF YK_STATUS.LINK 0 v else s.setF SWT_LSTAT.STATE k v

/-- Flits pass: the yoke link is UP, a swath link is at least TRAINING (its HELLO comes before UP, R438). -/
def State.flows (s : State) (k : Nat) : Bool := if k = 6 then s.linkState k = 2 else s.linkState k ≠ 0

def State.txWidth (s : State) (k : Nat) : Nat := if k = 6 then s.f YK_STATUS.TXWIDTH 0 else s.f SWT_LSTAT.TXWIDTH k
def State.rxWidth (s : State) (k : Nat) : Nat := if k = 6 then s.f YK_STATUS.RXWIDTH 0 else s.f SWT_LSTAT.RXWIDTH k
def State.setTxWidth (s : State) (k v : Nat) : State :=
  if k = 6 then s.setF YK_STATUS.TXWIDTH 0 v else s.setF SWT_LSTAT.TXWIDTH k v
def State.setRxWidth (s : State) (k v : Nat) : State :=
  if k = 6 then s.setF YK_STATUS.RXWIDTH 0 v else s.setF SWT_LSTAT.RXWIDTH k v

/-! ### Flits (Table 17-1) -/

/-- Bytes padded with zeros to `n`. -/
def padTo (n : Nat) (b : List Byte) : List Byte := b ++ List.replicate (n - b.length) 0

/-- The retry buffer (R393). -/
def retryMax : Nat := 1024

/-- A flit. -/
def flitBytes (fseq ack flags rxfail width : Nat) (units : List Byte) (credit : List Nat) : List Byte :=
  let b := leBytes 2 fseq ++ leBytes 2 ack ++ leBytes 1 flags ++ leBytes 1 rxfail ++ leBytes 1 width ++ [0]
    ++ padTo 624 units ++ credit.flatMap (leBytes 1)
  b ++ leBytes 4 (crc32c b)

/-- Send a flit now: it carries ACK, and on a swath link the units freed since the last flit. -/
def State.putFlit (s : State) (k fseq flags rxfail : Nat) (units : List Byte) : State :=
  let l := s.link k
  let b := flitBytes fseq l.rxSeq flags rxfail (s.txWidth k) units (if k = 6 then [0, 0, 0, 0] else l.freed)
  (s.setLink k { l with freed := [0, 0, 0, 0] }).send (.flit k b)

/-- An idle flit; bit 0 of `nak` asks for a resend. -/
def State.idleFlit (s : State) (k nak rxfail : Nat) : State := if s.flows k then s.putFlit k 0 (2 + nak) rxfail [] else s

/-- A sequenced flit with one message. -/
def State.newFlit (s : State) (k : Nat) (units : List Byte) : State :=
  let l := s.link k
  let s := s.setLink k { l with txSeq := (l.txSeq + 1) % 2 ^ 16, retry := l.retry ++ [(l.txSeq, units)] }
  (s.putFlit k l.txSeq 0 0 units).tally 0x031 k (if k < 6 then 1 else 0)

/-- Units of a message. -/
def msgUnits (m : List Byte) : Nat := m.length / 16

/-- Send what may go, in order on each virtual channel (R419); `stuck` lists the channels that wait. -/
def State.pumpList (s : State) (k : Nat) (stuck : List Nat) : List (Nat × List Byte) → State
  | [] => s
  | x :: r =>
    let l := s.link k
    let have' := k = 6 || decide (msgUnits x.2 ≤ l.credit.getD x.1 0)
    if stuck.contains x.1 || !have' || retryMax ≤ l.retry.length then
      (s.setLink k { l with out := l.out ++ [x] }).pumpList k (x.1 :: stuck) r
    else
      let s := s.setLink k { l with credit := if k = 6 then l.credit
                                              else setNth l.credit x.1 (l.credit.getD x.1 0 - msgUnits x.2) }
      (s.newFlit k x.2).pumpList k stuck r

/-- Send what may go. -/
def State.pump (s : State) (k : Nat) : State :=
  if s.flows k then
    let l := s.link k
    (s.setLink k { l with out := [] }).pumpList k [] l.out
  else s

/-- A message for the far end of a link. -/
def State.linkSend (s : State) (k vc : Nat) (m : List Byte) : State :=
  let l := s.link k
  (s.setLink k { l with out := l.out ++ [(vc, m)] }).pump k

/-- The UNITS that a message type must have (Tables 17-2 and 18-2). -/
def unitsOk (k type units : Nat) : Bool :=
  if k = 6 then
    match type with
    | 0x01 => units = 4 | 0x02 => units = 2 | 0x03 => units = 4 | 0x04 => units = 2 | 0x05 => units = 2
    | 0x06 => units = 1 | 0x07 => units = 2 | 0x08 => units = 2 | 0x09 => units = 33 | 0x0A => units = 1
    | 0x0B => units = 33 | 0x0C => units = 1 | _ => false
  else
    match type with
    | 0x20 => units = 2 | 0x21 => units = 1 | 0x22 => units = 1 | 0x23 => units = 2 || units = 5 | 0x24 => units = 2
    | 0x25 => units = 5 | 0x26 => units = 3 | 0x27 => units = 1 | 0x28 => units = 2 | 0x29 => units = 1
    | 0x2A => units = 33 | 0x2B => units = 5 | 0x2C => units = 2 | _ => false

/-- A message is dropped and counted (R394, R420). -/
def State.badMsg (s : State) (k : Nat) : State := if k = 6 then s.bump YK_BADMSG.COUNT 0 else s.bump SWT_BADMSG.COUNT 0

/-- The messages of a flit's units go to the inbox; `fuel` is at least the number of units. -/
def State.takeUnits (s : State) (k : Nat) : Nat → List Byte → State
  | 0, _ => s
  | fuel + 1, b =>
    match b with
    | t :: u :: _ =>
      if t = 0 then s.takeUnits k fuel (b.drop 16)
      else
        let n := u.toNat
        if unitsOk k t.toNat n && decide (16 * n ≤ b.length) then
          let l := s.link k
          (s.setLink k { l with inbox := l.inbox ++ [b.take (16 * n)] }).takeUnits k fuel (b.drop (16 * n))
        else (s.badMsg k).takeUnits k fuel (b.drop (16 * max 1 n))
    | _ => s

/-! ### Lanes (R412, R418) -/

/-- Lanes of a direction: eight, and on the yoke link a spare. -/
def laneCount (k : Nat) : Nat := if k = 6 then 9 else 8

/-- Bits set among the first `n`. -/
def countBits (n v : Nat) : Nat := ((List.range n).filter v.testBit).length

/-- The widest width that the good lanes allow. -/
def widthFor (good : Nat) : Nat := if 8 ≤ good then 8 else if 4 ≤ good then 4 else if 2 ≤ good then 2 else if 1 ≤ good then 1 else 0

/-- A lane failure in one direction: a swap to the spare, or a narrowing. -/
def State.laneEvent (s : State) (k : Nat) (narrows : Bool) : State :=
  if k = 6 then
    let s := (s.bump YK_SWAPCNT.COUNT 0).setOn YK_EVENT.LANE 0 true
    if narrows then s.setOn YK_EVENT.NARROW 0 true else s
  else if narrows then (s.bump SWT_LNARROW.COUNT k).setOn SWT_LSTAT.NARROW k true
  else s

/-- The far receiver reports a lane of ours as failed. -/
def State.txLaneFails (s : State) (k lane : Nat) : State :=
  let l := s.link k
  if laneCount k ≤ lane || l.txFailed.testBit lane then s
  else
    let bad := setBit l.txFailed lane true
    let w := min (s.txWidth k) (widthFor (laneCount k - countBits (laneCount k) bad))
    let narrows := decide (w < s.txWidth k)
    ((s.setLink k { l with txFailed := bad }).setTxWidth k w).laneEvent k narrows

/-- LANE_FAIL (R412, R418): this side's receiver loses lock on a lane and reports it. -/
def State.rxLaneFails (s : State) (k lane : Nat) : State :=
  let l := s.link k
  if laneCount k ≤ lane || l.rxFailed.testBit lane || !s.flows k then s
  else
    let bad := setBit l.rxFailed lane true
    let w := min (s.rxWidth k) (widthFor (laneCount k - countBits (laneCount k) bad))
    let narrows := decide (w < s.rxWidth k)
    let s := ((s.setLink k { l with rxFailed := bad }).setRxWidth k w).laneEvent k narrows
    let s := if k = 6 then s.setBitF YK_STATUS.RXFAILED 0 lane true else s.setBitF SWT_LSTAT.RXFAILED k lane true
    s.idleFlit k 0 (lane + 1)

def execLaneFail (k : Fin 7) (lane : Fin 9) (s : State) : Out := .next (s.rxLaneFails k lane)

/-! ### Reception (R393) -/

/-- A resend counts. -/
def State.countResend (s : State) (k : Nat) : State :=
  if k = 6 then s.bump YK_RETRYCNT.COUNT 0 else s.bump SWT_LRETRY.COUNT k

/-- Resend flits. -/
def State.resend (s : State) (k : Nat) : List (Nat × List Byte) → State
  | [] => s
  | x :: r => ((s.putFlit k x.1 0 0 x.2).countResend k).resend k r

/-- The flits that an ACK covers leave the retry buffer. -/
def State.takeAck (s : State) (k ack : Nat) : State :=
  let l := s.link k
  s.setLink k { l with retry := l.retry.filter fun x => decide (0 < modDiff 16 x.1 ack) && decide (modDiff 16 x.1 ack < 2 ^ 15) }

/-- A number of a byte string. -/
def numAt (b : List Byte) (off n : Nat) : Nat := leNat ((b.drop off).take n)

/-- The flit is whole: 640 bytes, its CRC, its zero bytes. -/
def flitGood (k : Nat) (b : List Byte) : Bool :=
  b.length = 640 && numAt b 636 4 = crc32c (b.take 636) && numAt b 7 1 = 0 && numAt b 4 1 < 4 &&
  (k ≠ 6 || numAt b 632 4 = 0)

/-- FLIT_RECEIVE (R393): `flit` is none for a codeword that failed decoding. -/
def execFlitReceive (k : Fin 7) (flit : Option (List (BitVec 8))) (s : State) : Out :=
  .next <|
    if !s.flows k then s
    else
      match flit with
      | none => s.idleFlit k 1 0
      | some b =>
        if !flitGood k b then s.idleFlit k 1 0
        else
          let s := s.takeAck k (numAt b 2 2)
          let s := if numAt b 5 1 = 0 then s else s.txLaneFails k (numAt b 5 1 - 1)
          let s := s.setRxWidth k (min (s.rxWidth k) (numAt b 6 1))
          let l := s.link k
          let s := if k.val = 6 then s
            else s.setLink k { l with credit := (List.range 4).map fun v => l.credit.getD v 0 + numAt b (632 + v) 1 }
          let s := if (numAt b 4 1).testBit 0 then s.resend k (s.link k).retry else s
          let s := s.pump k
          if (numAt b 4 1).testBit 1 then s
          else
            let l := s.link k
            if numAt b 0 2 ≠ (l.rxSeq + 1) % 2 ^ 16 then s.idleFlit k 1 0
            else ((s.setLink k { l with rxSeq := numAt b 0 2 }).takeUnits k 40 ((b.drop 8).take 624)).idleFlit k 0 0

/-- RX_SILENCE (R393): 50 µs without a valid flit. -/
def execRxSilence (k : Fin 7) (s : State) : Out := .next (s.idleFlit k 1 0)

/-! ### Messages -/

/-- The oldest message received on a link, if its type is `type`; it leaves the inbox, and its units are freed on
the virtual channel that it came on. -/
def State.takeMsg (s : State) (k type : Nat) : Option (List Byte × State) :=
  let l := s.link k
  match l.inbox with
  | [] => none
  | m :: r => if numAt m 0 1 = type then some (m, s.setLink k { l with inbox := r }) else none

/-- Units freed on a virtual channel. -/
def State.freeUnits (s : State) (k vc n : Nat) : State :=
  let l := s.link k
  s.setLink k { l with freed := setNth l.freed vc (l.freed.getD vc 0 + n) }

/-- The link goes DOWN: the retry buffer and everything on its way are discarded (R413). -/
def State.linkDrop (s : State) (k : Nat) : State :=
  let l := s.link k
  (s.setLink k { rxFailed := l.rxFailed, txFailed := l.txFailed }).setLinkState k 1

end Sys2Proof.Machine
end

