-- ==== Sys2Proof/Machine/Fabric.lean ====
section
/-! DEFINITION. The Acre fabric (chapter 18): geometry, routes, requests toward other packages, loss records, and what
a refused or lost request does to its issuer (Table 18-6). -/

namespace Sys2Proof.Machine

/-! ### Geometry (R417) -/

/-- The dimensions DX, DY, DZ. -/
def State.swDims (s : State) : List Nat := [s.swDim SWT_CFG.DX, s.swDim SWT_CFG.DY, s.swDim SWT_CFG.DZ]

/-- The coordinates of a package. -/
def State.coords (s : State) (p : Nat) : List Nat :=
  let dx := s.swDim SWT_CFG.DX
  let dy := s.swDim SWT_CFG.DY
  [p % dx, p / dx % dy, p / dx / dy % s.swDim SWT_CFG.DZ]

/-- The package at coordinates. -/
def State.pkgAt (s : State) (c : List Nat) : Nat :=
  c.getD 0 0 + s.swDim SWT_CFG.DX * (c.getD 1 0 + s.swDim SWT_CFG.DY * c.getD 2 0)

/-- X, Y or Z is not below its dimension. -/
def State.geomBad (s : State) : Bool :=
  s.swDim SWT_CFG.DX ≤ s.f SWT_CFG.X 0 || s.swDim SWT_CFG.DY ≤ s.f SWT_CFG.Y 0 || s.swDim SWT_CFG.DZ ≤ s.f SWT_CFG.Z 0

/-- One step from a package in dimension d, in the − direction when `neg`: the package reached, and whether the step
crosses the dateline. -/
def State.swStep (s : State) (p d : Nat) (neg : Bool) : Nat × Bool :=
  let c := s.coords p
  let x := c.getD d 0
  let n := s.swDims.getD d 1
  let y := if neg then (x + n - 1) % n else (x + 1) % n
  (s.pkgAt (setNth c d y), if neg then x = 0 else x + 1 = n)

/-- The dimension in which a message from package `p` to `q` moves next. -/
def State.nextDim (s : State) (p q : Nat) : Option Nat :=
  (List.range 3).find? fun d => (s.coords p).getD d 0 ≠ (s.coords q).getD d 0

/-- The hops of a route under a DIR code: package left, link, package reached; at most 9. -/
def State.pathFrom (s : State) (dir dst : Nat) : Nat → Nat → List (Nat × Nat × Nat)
  | 0, _ => []
  | fuel + 1, p =>
    match s.nextDim p dst with
    | none => []
    | some d =>
      let neg := dir.testBit d
      let q := (s.swStep p d neg).1
      (p, 2 * d + (if neg then 1 else 0), q) :: s.pathFrom dir dst fuel q

/-- The route from this package. -/
def State.pathTo (s : State) (dir dst : Nat) : List (Nat × Nat × Nat) := s.pathFrom dir dst 10 s.ownPkg

/-- This package knows a link to be DOWN: its own, or through LSTATE (R423); both ends of a link count. -/
def State.knownDown (s : State) (p k : Nat) : Bool :=
  if p = s.ownPkg then s.f SWT_LSTAT.STATE k ≠ 2
  else match find (8 * p + k) s.acre.lstate with
    | some x => !x.2
    | none => false

/-- A hop uses a link that is known to be DOWN. -/
def State.hopDown (s : State) (h : Nat × Nat × Nat) : Bool :=
  s.knownDown h.1 h.2.1 || s.knownDown h.2.2 (if h.2.1 % 2 = 0 then h.2.1 + 1 else h.2.1 - 1)

/-- A DIR code is a candidate for a destination and its path qualifies (R422). -/
def State.dirGood (s : State) (dst dir : Nat) : Bool :=
  let same := (List.range 3).any fun d => dir.testBit d && (s.coords s.ownPkg).getD d 0 = (s.coords dst).getD d 0
  let path := s.pathTo dir dst
  !same && !path.any s.hopDown &&
  path.all fun h => s.bitF SWT_MEMBERS.MASK 0 h.2.2 && (h.2.2 = dst || !s.bitF SWT_AVOID.MASK 0 h.2.2)

/-- The better of two candidates: fewer hops, then the lower code. -/
def State.betterDir (s : State) (dst : Nat) (a : Option Nat) (b : Nat) : Option Nat :=
  if !s.dirGood dst b then a
  else match a with
    | none => some b
    | some x => if (s.pathTo b dst).length < (s.pathTo x dst).length then some b else a

/-- The DIR code that R422 chooses; none: unreachable. -/
def State.chooseDir (s : State) (dst : Nat) : Option Nat := (List.range 8).foldl (s.betterDir dst) none

/-! ### Messages (R420, R421, R425) -/

/-- Unit 0 of a message, with DIR and DL zero. -/
def swHead (type units dst src plot : Nat) (rest : List Byte) : List Byte :=
  padTo 16 (leBytes 1 type ++ leBytes 1 units ++ leBytes 1 dst ++ leBytes 1 src ++ leBytes 2 plot ++ rest)

/-- A header with another DIR and DL. -/
def withRoute (m : List Byte) (dir : Nat) (dl : Bool) : List Byte :=
  m.take 4 ++ leBytes 2 (numAt m 4 2 % 512 + dir * 512 + (if dl then 4096 else 0)) ++ m.drop 6

/-- A message is a response (Table 18-2). -/
def swResponse (m : List Byte) : Bool := [0x23, 0x27, 0x28, 0x2A].contains (numAt m 0 1)

/-- The virtual channel of a message (Table 18-3). -/
def swVc (m : List Byte) : Nat := (if swResponse m then 2 else 0) + (if (numAt m 4 2).testBit 12 then 1 else 0)

/-- Send a message on its way; `from'` is the link it arrived on. A message whose next link is not UP is lost. -/
def State.swForward (s : State) (from' : Option Nat) (m : List Byte) : State :=
  let dst := numAt m 2 1
  let w := numAt m 4 2
  match s.nextDim s.ownPkg dst with
  | none => s
  | some d =>
    let neg := w.testBit (9 + d)
    let k := 2 * d + (if neg then 1 else 0)
    let dl := (s.swStep s.ownPkg d neg).2 || (w.testBit 12 && match from' with | some j => j / 2 = d | none => false)
    let m := withRoute m (w / 512 % 8) dl
    if s.f SWT_LSTAT.STATE k = 2 then s.linkSend k (swVc m) m else s

/-! ### Other packages -/

/-- What is kept of another package. -/
def State.peer (s : State) (p : Nat) : PeerRec := findD {} p s.acre.peers

/-- Another package, replaced. -/
def State.setPeer (s : State) (p : Nat) (r : PeerRec) : State := { s with acre := { s.acre with peers := put p r s.acre.peers } }

/-- The requests without response, replaced. -/
def State.setReqs (s : State) (r : List SwReq) : State := { s with acre := { s.acre with reqs := r } }

/-- A package is reachable. -/
def State.reachable (s : State) (d : Nat) : Bool := s.on SWT_DIR.VALID d && !s.on SWT_DIR.UNREACH d

/-- A Remote access to a package number can be sent: this fabric is in use, and the package is a member (Table 4-10,
R437). -/
def State.swMember (s : State) (d : Nat) : Bool :=
  s.on SWT_CFG.EN 0 && !s.geomBad && s.bitF SWT_MEMBERS.MASK 0 d && d ≠ s.ownPkg

/-- A response goes to the requester by this package's own route (R421). -/
def State.swRespond (s : State) (m : List Byte) : State :=
  s.swForward none (withRoute m (s.f SWT_DIR.DIR (numAt m 2 1)) false)

/-- Writes and atomics sent and not acknowledged (R430). -/
def State.unacked (s : State) (d : Nat) : Nat := (s.acre.reqs.filter fun r => r.dst = d && !r.read && r.sent.isSome).length

/-- Send the waiting requests to a destination that may go, in order (R424, R430). -/
def State.swPumpList (s : State) (d : Nat) (stuck : Bool) : List SwReq → State
  | [] => s
  | r :: t =>
    if r.dst ≠ d || r.sent.isSome then (s.setReqs (s.acre.reqs ++ [r])).swPumpList d stuck t
    else if stuck || s.on SWT_DIR.PENDING d || (!r.read && 2048 ≤ s.unacked d) then
      (s.setReqs (s.acre.reqs ++ [r])).swPumpList d true t
    else
      let m := withRoute r.msg (s.f SWT_DIR.DIR d) false
      ((s.setReqs (s.acre.reqs ++ [{ r with sent := some s.now }])).swForward none m).swPumpList d stuck t

/-- Send what may go to a destination. -/
def State.swPump (s : State) (d : Nat) : State := (s.setReqs []).swPumpList d false s.acre.reqs

/-- The lowest TAG not in use. -/
def State.swTag (s : State) : Nat :=
  ((List.range 0x10000).find? fun t => !s.acre.reqs.any fun r => r.read && r.id = t).getD 0

/-! ### Loss records (R435) -/

/-- The KIND of a loss record and the number that it names. -/
def lossKind : SwUse → Option (Nat × Nat)
  | .store h _ => some (1, h)
  | .atomic h => some (2, h)
  | .write e _ => some (3, e)
  | _ => none

/-- The global address of a package-local one (R83). -/
def globalPa (pkg loc : Nat) : Nat := 2 ^ 55 + pkg * 2 ^ 48 + loc

/-- Slots of the loss ring. -/
def State.lossSize (s : State) : Nat := 2 ^ s.f SWT_LOSS_CFG.LOG2SIZE 0

/-- Where slot n of the loss ring lies. -/
def State.lossAt (s : State) (n : Nat) : Nat := s.f SWT_LOSS_BASE.ADDR 0 * 4096 + 32 * (n % s.lossSize)

/-- A loss record is written; a request that was never sent is RESOLVED 2 and DONE at once. -/
def State.lossRecord (s : State) (r : SwReq) : State :=
  match lossKind r.use with
  | none => s
  | some (kind, who) =>
    if !s.on SWT_LOSS_CFG.EN 0 then s
    else
      let n := s.f SWT_LOSS_HEAD.COUNT 0
      if s.lossSize ≤ modDiff 32 n (s.f SWT_LOSS_TAIL.COUNT 0) then (s.setOn SWT_STATUS.LOSS_OVF 0 true).log0 0x0051 0
      else
        let never := r.sent.isNone
        let b := leBytes 8 (globalPa r.dst r.addr) ++ leBytes 4 r.id ++ leBytes 1 kind ++ leBytes 1 (if never then 2 else 0)
          ++ [0, 0] ++ leBytes 8 s.now ++ leBytes 4 who ++ leBytes 1 (if never then 1 else 0) ++ [0, 0, 0]
        let s := ((s.writeNormal (s.lossAt n) 2 3 b).2).wrapInc SWT_LOSS_HEAD.COUNT 0
        if never then s
        else { s with acre := { s.acre with losses := s.acre.losses ++ [⟨n, r.dst, r.id, (s.peer r.dst).epoch⟩] } }

/-! ### Requests -/

/-- Queue a request and send it when it may go. `body` makes the message from its TAG or ID. -/
def State.swQueue (s : State) (dst : Nat) (read : Bool) (addr : Nat) (use : SwUse) (body : Nat → List Byte) : State :=
  let id := if read then s.swTag else (s.peer dst).nextId
  let s := if read then s else s.setPeer dst { s.peer dst with nextId := (id + 1) % 2 ^ 32 }
  (s.setReqs (s.acre.reqs ++ [⟨dst, id, read, addr, body id, use, none⟩])).swPump dst

/-- A BIND message. -/
def State.bindMsg (s : State) (dst n flags slot first : Nat) (vals : List Nat) (id : Nat) : List Byte :=
  swHead 0x2B 5 dst s.ownPkg (s.f BND_OP_PLOT.PLOT n)
    (leBytes 4 id ++ leBytes 1 n ++ leBytes 1 flags ++ leBytes 2 slot ++ leBytes 2 first)
    ++ padTo 64 (vals.flatMap (leBytes 8))

/-- A BDONE message. -/
def State.bdoneMsg (s : State) (dst n word : Nat) (id : Nat) : List Byte :=
  swHead 0x2C 2 dst s.ownPkg (s.f BND_OP_PLOT.PLOT n) (leBytes 4 id ++ leBytes 1 n) ++ padTo 16 (leBytes 8 word)

/-- The other packages of an operation. -/
def State.bndPeers (s : State) (n : Nat) : List Nat :=
  (bitsOf 64 (s.f BND_OP_PEERS.MASK n)).filter fun d => d ≠ s.ownPkg

/-- This package is the home of an operation, or the operation spans no packages. -/
def State.bndHome (s : State) (n : Nat) : Bool := !s.on BND_OP_ACRE.GLOBAL n || s.f BND_OP_ACRE.HOME n = s.ownPkg

/-- A failed round is reported (R436): the home sends BDONE with FAILED to every reachable peer, a peer sends BIND with
the fail flag to a reachable home. -/
def State.bndReport (s : State) (n word : Nat) : State :=
  if !s.on BND_OP_ACRE.GLOBAL n then s
  else if s.bndHome n then
    (s.bndPeers n).foldl (fun s d =>
      if s.reachable d then s.swQueue d false 0 (.bind n none) (s.bdoneMsg d n word) else s) s
  else
    let d := s.f BND_OP_ACRE.HOME n
    if s.reachable d then s.swQueue d false 0 (.bind n none) (s.bindMsg d n 2 0 0 []) else s

/-- A round fails, here and in the report to the others. -/
def State.bndRoundFails (s : State) (n reason : Nat) : State :=
  if s.on BND_OP_STAT.FAILED n then s
  else
    let w := s.bndWord n reason true
    (s.bndFail n reason).bndReport n w

/-- The messages of a TBIND have all been answered (R432). -/
def State.bindArrived (s : State) (tile : Option (Nat × Nat)) : State :=
  match tile with
  | none => s
  | some (core, seq) =>
    if s.acre.reqs.any fun r => (match r.use with | .bind _ t => t = some (core, seq) | _ => false) then s
    else
      let u := s.tile core
      s.setTile core { u with queue := u.queue.map fun e => if e.seq = seq then { e with arrived := true } else e }

/-- How a request ended. -/
inductive SwEnd where
  | refused
  | poisoned
  | lost
deriving DecidableEq, Repr

/-- The oldest posted store of a thread at a physical address has its answer. -/
def Thread.dropPosted (t : Thread) (pa : Nat) : Thread :=
  match t.posted.find? fun p => p.pa = pa with
  | none => t
  | some x => { t with posted := t.posted.erase x }

/-- A read of a ledger entry ends without data: a WAIT, which is HELD as it reads its word, is over. -/
def State.endRead (s : State) (e : Nat) (r : Reply) : State :=
  (s.endWork e r).modEntry e fun x => if x.opcode = 0x08 then { x with state := .retiring } else x

/-- The outcome for the issuer (Table 18-6). -/
def State.swFails (s : State) (r : SwReq) (e : SwEnd) : State :=
  let s := if e = .lost then s.lossRecord r else s
  match r.use with
  | .load h =>
    (match (s.thread h).hold with
     | some (.load op) => s.fault h (if e = .poisoned then cUncorrectable else cLoadFault) op.va
     | _ => s)
  | .store h _ =>
    let pa := globalPa r.dst r.addr
    (s.modThread h fun t => t.dropPosted pa).lateStore pa h
  | .atomic h =>
    (match (s.thread h).hold with
     | some (.atomic op) =>
       if s.locked (coreOf h) then s.completes h id
       else s.fault h (if e = .poisoned then cUncorrectable else cStoreFault) op.va
     | _ => s)
  | .read l _ _ =>
    s.endRead l (match e with
      | .refused => { status := stFaulted, detail := dtAddr, result := ((s.entry l).map (·.prog)).getD 0 }
      | .poisoned => { status := stFaulted, detail := dtData, result := ((s.entry l).map (·.prog)).getD 0 }
      | .lost => { status := stSwathLost, result := ((s.entry l).map (·.prog)).getD 0 })
  | .write l _ =>
    s.endWork l (match e with
      | .lost => { status := stSwathLost, result := ((s.entry l).map (·.prog)).getD 0 }
      | _ => { status := stFaulted, detail := dtAddr, result := ((s.entry l).map (·.prog)).getD 0 })
  | .bind n tile => (s.bndRoundFails n (if e = .lost then 3 else 4)).bindArrived tile
  | .stale => s

/-- Issue a request; one to an unreachable destination is lost at once and never sent (R434). -/
def State.swIssue (s : State) (dst : Nat) (read : Bool) (addr : Nat) (use : SwUse) (body : Nat → List Byte) : State :=
  if s.reachable dst then s.swQueue dst read addr use body
  else s.swFails ⟨dst, (s.peer dst).nextId, read, addr, [], use, none⟩ .lost

/-- A read of a power of two bytes, or of a line. -/
def State.swRead (s : State) (plot dst addr size : Nat) (use : SwUse) : State :=
  s.swIssue dst true addr use fun id =>
    swHead 0x22 1 dst s.ownPkg plot (leBytes 2 id ++ leBytes 6 addr ++ leBytes 1 size)

/-- A write of 1, 2, 4 or 8 bytes. -/
def State.swWrite (s : State) (plot dst addr size value : Nat) (use : SwUse) : State :=
  s.swIssue dst false addr use fun id =>
    swHead 0x24 2 dst s.ownPkg plot (leBytes 4 id ++ leBytes 6 addr) ++ leBytes 1 size ++ List.replicate 7 0 ++ leBytes 8 value

/-- A write of a line. -/
def State.swWrite64 (s : State) (plot dst addr : Nat) (data : List Byte) (use : SwUse) : State :=
  s.swIssue dst false addr use fun id =>
    swHead 0x25 5 dst s.ownPkg plot (leBytes 4 id ++ leBytes 6 addr) ++ padTo 64 data

/-- An atomic. -/
def State.swAtomic (s : State) (plot dst addr op size arg cmp : Nat) (use : SwUse) : State :=
  s.swIssue dst false addr use fun id =>
    swHead 0x26 3 dst s.ownPkg plot (leBytes 4 id ++ leBytes 6 addr) ++ leBytes 1 op ++ leBytes 1 size
      ++ List.replicate 6 0 ++ leBytes 8 arg ++ padTo 16 (leBytes 8 cmp)

/-- A request to which a response has come leaves the list. -/
def State.swTake (s : State) (src id : Nat) (read : Bool) : Option (SwReq × State) :=
  (s.acre.reqs.find? fun r => r.dst = src && r.id = id && r.read = read && r.sent.isSome).map fun r =>
    (r, (s.setReqs (s.acre.reqs.erase r)).swPump src)

end Sys2Proof.Machine
end

