-- ==== Sys2Proof/Machine/Granary.lean ====
section
/-! DEFINITION. Granary channels: state changes (R279 to R283, R296), refresh, temperature and patrol scrub (R284,
R285, R290). -/

namespace Sys2Proof.Machine

/-- The transition of a channel in progress, replaced. -/
def State.setMove (s : State) (c : Nat) (m : ChanMove) : State :=
  { s with granary := { s.granary with move := putD .none c m s.granary.move } }

/-- A transition of channel c starts. -/
def State.startMove (s : State) (c : Nat) (m : ChanMove) : State := (s.setMove c m).setOn GRN_STATE.BUSY c true

/-- A transition of channel c ends in a state of Table 12-1. -/
def State.endMove (s : State) (c mode : Nat) : State :=
  ((s.setMove c .none).setOn GRN_STATE.BUSY c false).setF GRN_STATE.MODE c mode

/-- The home directory of channel c recalls every line that it tracks (step 2 of R280). -/
def State.recallChannel (s : State) (c : Nat) : State :=
  (s.cachedLines.filter fun l => (lineHome l).1 = c).foldl (fun s l => s.recall l) s

/-- A key of channel c in a sparse store with `per` keys a channel. -/
def ofChannel (per c k : Nat) : Bool := k / per = c

/-- Every row of every bank is zeroed, and all poison cleared. -/
def State.zeroChannel (s : State) (c : Nat) : State :=
  { s with
    granary := { s.granary with mem := s.granary.mem.filter (fun x => !ofChannel chanSpan c x.1),
                                poison := s.granary.poison.filter fun x => !ofChannel (chanSpan / 64) c x.1 },
    caches := { s.caches with lost := s.caches.lost.filter fun x => (lineHome x.1).1 ≠ c } }

/-- A mode request with GO (R279 to R282, Table 12-6): only between adjacent states, not while BUSY, and not out of
Till while a program is loaded; otherwise REFUSED. Step 1 and 2 of a withdrawal are done here. -/
def State.modeReq (s : State) (c target : Nat) : State :=
  let mode := s.f GRN_STATE.MODE c
  let refused := s.setOn GRN_STATE.REFUSED c true
  if s.on GRN_STATE.BUSY c then refused
  else
    match mode, target with
    | 0, 1 => (s.startMove c .withdrawing).recallChannel c
    | 1, 0 => s.startMove c .rejoining
    | 1, 2 => (s.startMove c .toTill).setSeq c {}
    | 2, 1 => if s.on GRN_TILL_STAT.LOADED c then refused else s.startMove c .toWithdrawn
    | _, _ => refused

/-- A write of GRN_MODE_REQ (R296): only Drill may make it. TARGET reads as zero; code 3 leaves the target of the write
before (R10). -/
def State.modeWrite (s : State) (agent : Agent) (c target : Nat) (go : Bool) : State :=
  if !s.acts agent then s
  else if agent ≠ .drill then s.writeDropped agent 4
  else
    let s := if target = 3 then s else s.setF GRN_MODE_REQ.TARGET c target
    if go then s.modeReq c (s.f GRN_MODE_REQ.TARGET c) else s

def execWithdrawal (agent : Agent) (c : Chan) (s : State) : Out := .next (s.modeWrite agent c 1 true)
def execRejoining (agent : Agent) (c : Chan) (s : State) : Out := .next (s.modeWrite agent c 0 true)
def execSwitchToTill (agent : Agent) (c : Chan) (s : State) : Out := .next (s.modeWrite agent c 2 true)
def execSwitchToWithdrawn (agent : Agent) (c : Chan) (s : State) : Out := .next (s.modeWrite agent c 1 true)

/-- A channel that a plot reset returns goes on toward its interleave set (R281, R282, Table 12-2); once there it
belongs to no plot. -/
def State.returnOn (s : State) (c : Nat) : State :=
  if !s.granary.returning.contains c || s.chanMove c ≠ .none then s
  else
    match s.f GRN_STATE.MODE c with
    | 2 => s.modeReq c 1
    | 1 => s.modeReq c 0
    | _ => { s with
             granary := { s.granary with returning := s.granary.returning.filter (· ≠ c) }
             drill := { s.drill with plots := s.drill.plots.map fun p =>
                                       (p.1, { p.2 with channels := p.2.channels.filter (· ≠ c) }) } }

/-- ZEROING_DONE (R280, R281): the channel is zeroed; the window opens, or Normal service resumes. -/
def execZeroingDone (c : Chan) (s : State) : Out :=
  .next <|
    match s.chanMove c with
    | .withdrawing => ((s.zeroChannel c).endMove c 1).returnOn c
    | .rejoining => ((s.zeroChannel c).endMove c 0).returnOn c
    | _ => s

/-- A posted write that waited at a channel is performed (R282, R309). -/
def State.landWrite (s : State) (c : Nat) : Held → State
  | .write l mask data =>
    let (r, s) := s.takeRes
    s.granWrite c l mask data 7 r
  | _ => s

/-- The posted writes that waited at a channel during a mode switch are performed, in their order of arrival. -/
def State.landWrites (s : State) (c : Nat) : State :=
  let q := s.seq c
  q.held.foldl (fun s x => s.landWrite c x) (s.setSeq c { q with held := [] })

/-- MODE_SWITCH_DONE (R282): leaving Till discards the tine registers and the resident image; the direct accesses that
waited for the switch are performed in the new state. -/
def execModeSwitchDone (c : Chan) (res : MemRes) (s : State) : Out :=
  .next <| s.withRes res fun s =>
    match s.chanMove c with
    | .toTill => ((s.endMove c 2).landWrites c).returnOn c
    | .toWithdrawn =>
      (((((s.landWrites c).setSeq c {}).setOn GRN_TILL_STAT.RESIDENT c false).setF GRN_TILL_STAT.PENDING c 0).endMove c
        1).returnOn c
    | _ => s

/-- REFRESH (R284): in Member and Withdrawn the contents are kept; the 350 ns that it takes are timing. -/
def execRefresh (_c : Chan) (s : State) : Out := .next s

/-- The channels of a stack (R14). -/
def stackChans (st : Nat) : List Nat := (List.range 16).map (16 * st + ·)

/-- One channel's view of a stack temperature reading (R285). -/
def State.chanTemp (s : State) (temp c : Nat) : State :=
  let s := s.setF GRN_TEMP.TEMP c (min temp 255)
  if 85 < temp then s.setOn GRN_TEMP.HOT c true
  else if temp < 82 then s.setOn GRN_TEMP.HOT c false
  else s

/-- STACK_TEMP_READING (R285): whole degrees. -/
def execStackTempReading (st : Stack) (temp : Nat) (s : State) : Out :=
  .next ((stackChans st).foldl (fun s c => s.chanTemp temp c) s)

/-- Lines of a channel. -/
def chanLines : Nat := 25165824

/-- The patrol meets an uncorrectable error of a line: its poison bit is set, and it is recorded, but for a row that is
being zeroed (Table 12-6). -/
def State.scrubFinds (s : State) (c line type : Nat) : State :=
  if s.chanMove c = .withdrawing || s.chanMove c = .rejoining then s
  else (s.setPoison (granKey c (line * 64)) true).granError c (line * 64) type 5

/-- PATROL_SCRUB (R290, Table 12-5): the next line is patrolled, corrected or poisoned. -/
def execPatrolScrub (c : Chan) (res : MemRes) (s : State) : Out :=
  .next <|
    if !s.on GRN_SCRUB.EN c || s.f GRN_STATE.MODE c = 2 || s.on GRN_STATE.SELFREF c then s
    else
      let line := s.f GRN_SCRUB_POS.LINE c
      let s := s.setF GRN_SCRUB_POS.LINE c ((line + 1) % chanLines)
      match res with
      | .ok => s
      | .corrected => s.bump GRN_CECNT.COUNT c
      | .retried n => s.bumpBy GRN_LINKCNT.RETRY c n.val
      | .uncorrectable => s.scrubFinds c line 1
      | .metadata => s.scrubFinds c line 2
      | .linkFail =>
        if s.chanMove c = .withdrawing || s.chanMove c = .rejoining then s else (s.granRead c (line * 64) 5 .linkFail).2

end Sys2Proof.Machine
end

