-- ==== Sys2Proof/Machine/Till.lean ====
section
/-! DEFINITION. In-bank processing (chapter 13): till programs, their checks, their slots and their instructions, refresh
in Till and the endings of a program. YIELD, and the end of a program that Drill takes, stand in Held.lean. -/

namespace Sys2Proof.Machine

/-! ### Instruction fields (Table 13-1) -/

def tlOp (w : Nat) : Nat := w / 2 ^ 58 % 64
def tlVd (w : Nat) : Nat := w / 2 ^ 55 % 8
def tlVa (w : Nat) : Nat := w / 2 ^ 52 % 8
def tlVb (w : Nat) : Nat := w / 2 ^ 49 % 8
def tlFmt (w : Nat) : Nat := w / 2 ^ 47 % 4
def tlXs (w : Nat) : Nat := w / 2 ^ 45 % 4
def tlXu (w : Nat) : Bool := w.testBit 44
def tlImm (w : Nat) : Nat := w % 2 ^ 32

/-- What an opcode uses (Table 13-2): vd, va, vb, FMT, XS, XU and the largest IMM plus 1; none for a reserved one. -/
def tlUses (op : Nat) : Option (Bool × Bool × Bool × Bool × Bool × Bool × Nat) :=
  match op with
  | 0x00 => some (false, false, false, false, false, false, 1)
  | 0x01 => some (false, false, false, false, true, true, 2 ^ 15)
  | 0x02 => some (false, false, false, false, false, false, 1)
  | 0x03 => some (true, false, false, false, true, true, 64)
  | 0x04 => some (false, true, false, false, true, true, 64)
  | 0x05 => some (true, true, true, true, false, false, 1)
  | 0x06 => some (true, true, false, true, false, false, 1)
  | 0x07 => some (true, true, false, false, false, false, 32)
  | 0x08 => some (true, true, false, true, false, false, 1)
  | 0x09 => some (true, true, false, true, false, false, 1)
  | 0x0A => some (true, false, false, false, false, false, 1)
  | 0x0B => some (false, false, false, false, false, false, 2 ^ 32)
  | 0x0C => some (false, false, false, false, true, false, 2 ^ 16)
  | 0x0D => some (false, false, false, false, true, false, 2 ^ 16)
  | 0x0E => some (false, false, false, false, true, false, 512)
  | 0x0F => some (false, false, false, false, false, false, 512)
  | 0x10 => some (false, false, false, false, false, false, 2 ^ 16)
  | 0x11 => some (false, false, false, false, false, false, 1)
  | _ => none

/-- Opcode, Zero fields, Pairs, FMT, Constant row, Shift and Targets of Table 13-5; `n` is the image's instruction
count. XS is unused where XU is 0 (notes/assumptions/25). -/
def tlGood (n w : Nat) : Bool :=
  match tlUses (tlOp w) with
  | none => false
  | some (d, a, b, f, x, u, imm) =>
    (d || tlVd w = 0) && (a || tlVa w = 0) && (b || tlVb w = 0) && (f || tlFmt w = 0) &&
    ((x && (!u || tlXu w)) || tlXs w = 0) && (u || !tlXu w) && decide (tlImm w < imm) && w / 2 ^ 32 % 2 ^ 12 = 0 &&
    (match tlOp w with
     | 0x01 => tlXu w || decide (tlImm w < 24576)
     | 0x05 => tlVd w % 2 = 0
     | 0x06 => tlVd w % 2 = 0 && tlVa w % 2 = 0
     | 0x07 => tlImm w ≠ 0
     | 0x08 => tlVd w % 2 = 0 && tlVa w % 2 = 0
     | 0x09 => tlVa w % 2 = 0 && tlFmt w ≠ 1
     | 0x0E => decide (tlImm w < n)
     | 0x0F => decide (tlImm w < n)
     | _ => true)

/-- The index at which an image fails Table 13-5; the entry index, or the count where there is no END, where that is
what fails. -/
def tlCheck (image : List Nat) (entry : Nat) : Option Nat :=
  let n := image.length
  if n ≤ entry then some entry
  else
    match (List.range n).find? fun k => !tlGood n (image.getD k 0) with
    | some k => some k
    | none => if image.any fun w => tlOp w = 0x11 then none else some n

/-! ### Starting and ending -/

/-- A program starts on a channel (R306). -/
def State.tillStart (s : State) (c : Nat) (image : List Nat) (entry : Nat) (x : List Nat) (ledger : Nat) : State :=
  let q := s.seq c
  let s := s.setSeq c { image := image, x := x, tines := q.tines, entry := some ledger }
  let s := (s.setOn GRN_TILL_STAT.LOADED c true).setOn GRN_TILL_STAT.RESIDENT c false
  let s := ((((s.setOn GRN_TILL_STAT.NV c false).setOn GRN_TILL_STAT.OF c false).setOn GRN_TILL_STAT.UF c false).setOn
    GRN_TILL_STAT.NX c false).setOn GRN_TILL_STAT.SAT c false
  (s.setF GRN_TILL_PC.PC c entry).setOn GRN_TILL_CKPT.VALID c false

/-- A program comes to its ending, of a REASON of Table 13-6 (R307): the row is closed and the pending refreshes are
performed. It stays loaded until END_REPORT, which performs the held accesses and reports the ending. -/
def State.tillEnd (s : State) (c reason : Nat) : State :=
  let s := s.setSeq c { s.seq c with row := none, ended := some reason }
  (s.setF GRN_TILL_STAT.REASON c reason).setF GRN_TILL_STAT.PENDING c 0

/-- A program is loaded no longer, and its image is resident (R306). -/
def State.tillUnload (s : State) (c : Nat) : State :=
  let s := s.setSeq c { s.seq c with entry := none, ended := none, held := [], admitted := [] }
  (s.setOn GRN_TILL_STAT.LOADED c false).setOn GRN_TILL_STAT.RESIDENT c true

/-- Flags of a tine step, sticky over all banks. -/
def State.tillFlags (s : State) (c fl : Nat) : State :=
  let s := if fl.testBit 4 then s.setOn GRN_TILL_STAT.NV c true else s
  let s := if fl.testBit 3 then s.setOn GRN_TILL_STAT.OF c true else s
  let s := if fl.testBit 2 then s.setOn GRN_TILL_STAT.UF c true else s
  let s := if fl.testBit 1 then s.setOn GRN_TILL_STAT.NX c true else s
  if fl.testBit 0 then s.setOn GRN_TILL_STAT.SAT c true else s

/-! ### Slots (R302, R303) -/

/-- The slots that an instruction occupies (Table 13-3); those of a YIELD beyond its first are added by it. -/
def tlOccupies (w : Nat) : Nat :=
  match tlOp w with
  | 0x07 => tlImm w % 32
  | 0x08 => 4
  | _ => 1

/-- The weight of an instruction (Table 13-4). -/
def tlWeight (w : Nat) : Nat :=
  match tlOp w with
  | 0x01 => 16
  | 0x02 => 2
  | 0x03 => 2
  | 0x04 => 3
  | 0x05 => 1
  | 0x06 => 1
  | 0x07 => tlImm w % 32
  | 0x08 => 1
  | 0x09 => 1
  | 0x11 => 2
  | _ => 0

/-- The tine registers that an instruction names, its destination among them (notes/assumptions/24). -/
def tlRegs (w : Nat) : List Nat :=
  let pair (r : Nat) : List Nat := [r, r + 1]
  match tlOp w with
  | 0x03 => [tlVd w]
  | 0x04 => [tlVa w]
  | 0x05 => pair (tlVd w) ++ [tlVa w, tlVb w]
  | 0x06 => pair (tlVd w) ++ pair (tlVa w)
  | 0x07 => [tlVd w, tlVa w]
  | 0x08 => pair (tlVd w) ++ pair (tlVa w)
  | 0x09 => tlVd w :: pair (tlVa w)
  | 0x0A => [tlVd w]
  | _ => []

/-- The first slot in which Table 13-3 lets an instruction issue. -/
def TillClock.free (k : TillClock) (w : Nat) : Nat :=
  let past (o : Option Nat) (d : Nat) : Nat := match o with | some t => t + d | none => 0
  let regs := (tlRegs w).foldl (fun m r => max m (findD 0 r k.ready)) k.slot
  match tlOp w with
  | 0x01 => max regs (past k.pre 9)
  | 0x02 => max regs (past k.st 8)
  | 0x03 => max regs (past k.act 12)
  | 0x04 => max regs (past k.act 12)
  | _ => regs

/-- A slot breaks neither rule of R303: tTMW over the 80 slots that end with it, tTAA over 16. -/
def TillClock.fits (k : TillClock) (budget w t : Nat) : Bool :=
  decide (((k.power.filter fun x => t < x.1 + 80).map (·.2)).sum + tlWeight w ≤ budget) &&
  (tlOp w ≠ 0x01 || match k.act with | some a => decide (a + 16 ≤ t) | none => true)

/-- The first slot from `t` on, among `fuel`, that R303 allows. -/
def TillClock.wait (k : TillClock) (budget w : Nat) : Nat → Nat → Nat
  | 0, t => t
  | fuel + 1, t => if k.fits budget w t then t else k.wait budget w fuel (t + 1)

/-- The clock after an instruction that issues in slot `t`. -/
def TillClock.issue (k : TillClock) (w t : Nat) : TillClock :=
  let k := { k with slot := t + tlOccupies w, power := (k.power.filter fun x => t < x.1 + 80) ++ [(t, tlWeight w)] }
  match tlOp w with
  | 0x01 => { k with act := some t }
  | 0x02 => { k with pre := some t }
  | 0x03 => { k with ready := put (tlVd w) (t + 3) k.ready }
  | 0x04 => { k with st := some t }
  | _ => k

/-- The tTMW budget of a channel (R303). -/
def State.tillBudget (s : State) (c : Nat) : Nat := if s.on GRN_TEMP.HOT c then 40 else 64

/-- An instruction issues: the slots that R303 inserts before it are counted in GRN_TILL_STALL, and all that pass in
GRN_TILL_SLOTS. No wait lasts 80 slots, for then no weight is left in the window. -/
def State.tillIssue (s : State) (c w : Nat) : State :=
  let q := s.seq c
  let t0 := q.clock.free w
  let t := q.clock.wait (s.tillBudget c) w 80 t0
  let s := (s.setF GRN_TILL_STALL.COUNT c (s.f GRN_TILL_STALL.COUNT c + (t - t0))).tally 0x022 c (t - t0)
  let s := s.setF GRN_TILL_SLOTS.COUNT c (s.f GRN_TILL_SLOTS.COUNT c + (t + tlOccupies w - q.clock.slot))
  s.setSeq c { q with clock := q.clock.issue w t }

/-- The sequencer goes on at an index; past the last instruction the program ends with PC_RANGE, and PC stays at the
instruction that went there (notes/assumptions/24). -/
def State.tillGo (s : State) (c pc : Nat) : State :=
  if (s.seq c).image.length ≤ pc then s.tillEnd c 8 else s.setF GRN_TILL_PC.PC c pc

/-- The instruction at PC, if a program is loaded, has not come to its ending, and the opcode is `op`. -/
def State.tillAt (s : State) (c op : Nat) : Option Nat :=
  match (s.seq c).image[s.f GRN_TILL_PC.PC c]? with
  | none => none
  | some w => if s.on GRN_TILL_STAT.LOADED c && (s.seq c).ended.isNone && tlOp w = op then some w else none

/-- Run the instruction at PC, where its opcode is `op`. -/
def State.tillInstr (s : State) (c op : Nat) (f : Nat → Nat → TillSeq → State → State) : Out :=
  .next <|
    match s.tillAt c op with
    | none => s
    | some w =>
      let s := s.tillIssue c w
      f (s.f GRN_TILL_PC.PC c) w (s.seq c) s

/-! ### Tine registers -/

/-- A tine register, of 256 bits. -/
def TillSeq.v (q : TillSeq) (bank r : Nat) : Nat := findD 0 (bank * 8 + r) q.tines

/-- Write a tine register. -/
def TillSeq.setV (q : TillSeq) (bank r v : Nat) : TillSeq := { q with tines := putD 0 (bank * 8 + r) v q.tines }

/-- An accumulator pair as 512 bits, lanes 0 to 7 in the even register. -/
def TillSeq.pair (q : TillSeq) (bank r : Nat) : Nat := q.v bank r + q.v bank (r + 1) * 2 ^ 256

/-- Write an accumulator pair. -/
def TillSeq.setPair (q : TillSeq) (bank r v : Nat) : TillSeq :=
  (q.setV bank r (v % 2 ^ 256)).setV bank (r + 1) (v / 2 ^ 256 % 2 ^ 256)

/-- Lane i of width w. -/
def lane (w v i : Nat) : Nat := v / 2 ^ (w * i) % 2 ^ w

/-- A register from its lanes. -/
def fromLanes (w : Nat) : List Nat → Nat
  | [] => 0
  | x :: r => x % 2 ^ w + 2 ^ w * fromLanes w r

/-- The 32-bit lanes of a pair. -/
def pairLanes (v : Nat) : List Nat := (List.range 16).map (lane 32 v)

/-- The banks in which a masked instruction acts. -/
def TillSeq.banks (q : TillSeq) : List Nat := (List.range 32).filter fun b => q.mask.testBit b

/-- Float class of a FMT. -/
def tlFloat (fmt : Nat) : Bool := 2 ≤ fmt

/-- The 16-bit float format of a FMT. -/
def tlFmt16 (fmt : Nat) : FpFmt := if fmt = 2 then fmtB16 else fmtBf16

/-- One addition in the class of a FMT (R301). -/
def tlAdd (fmt a b : Nat) : Nat × Nat :=
  if tlFloat fmt then fmtB32.addVal .rne .toInf (fmtB32.unpack a) (fmtB32.unpack b)
  else tClamp 7 (sval 32 a + sval 32 b)

/-- One multiply-accumulate of a lane. -/
def tlMac (fmt acc a b : Nat) : Nat × Nat :=
  match fmt with
  | 0 => tClamp 7 (sval 32 acc + sval 16 a * sval 16 b)
  | 1 =>
    let lo := tClamp 7 (sval 32 acc + sval 8 (a % 256) * sval 8 (b % 256))
    let hi := tClamp 7 (sval 32 lo.1 + sval 8 (a / 256) * sval 8 (b / 256))
    (hi.1, flagsOr lo.2 hi.2)
  | _ => fmtB32.fmaVal .rne .toInf ((tlFmt16 fmt).unpack a) ((tlFmt16 fmt).unpack b) (fmtB32.unpack acc)

/-- Combine two lists lane by lane. -/
def laneZip (f : Nat → Nat → Nat × Nat) : List Nat → List Nat → List Nat × Nat
  | a :: r, b :: t =>
    let x := f a b
    let y := laneZip f r t
    (x.1 :: y.1, flagsOr x.2 y.2)
  | _, _ => ([], 0)

/-- MAC in one bank. -/
def tlMacBank (w : Nat) (x : TillSeq × Nat) (bank : Nat) : TillSeq × Nat :=
  let q := x.1
  let r := (List.range 16).map fun i =>
    tlMac (tlFmt w) (lane 32 (q.pair bank (tlVd w)) i) (lane 16 (q.v bank (tlVa w)) i) (lane 16 (q.v bank (tlVb w)) i)
  (q.setPair bank (tlVd w) (fromLanes 32 (r.map (·.1))), r.foldl (fun a y => flagsOr a y.2) x.2)

/-- AADD in one bank. -/
def tlAaddBank (w : Nat) (x : TillSeq × Nat) (bank : Nat) : TillSeq × Nat :=
  let r := laneZip (tlAdd (tlFmt w)) (pairLanes (x.1.pair bank (tlVd w))) (pairLanes (x.1.pair bank (tlVa w)))
  (x.1.setPair bank (tlVd w) (fromLanes 32 r.1), flagsOr x.2 r.2)

/-- One level of VRED: neighbours added in order. -/
def redLevel (fmt : Nat) : List Nat → List Nat × Nat
  | a :: b :: r =>
    let x := tlAdd fmt a b
    let y := redLevel fmt r
    (x.1 :: y.1, flagsOr x.2 y.2)
  | l => (l, 0)

/-- VRED in one bank: four levels. -/
def tlVredBank (w : Nat) (x : TillSeq × Nat) (bank : Nat) : TillSeq × Nat :=
  let l1 := redLevel (tlFmt w) (pairLanes (x.1.pair bank (tlVa w)))
  let l2 := redLevel (tlFmt w) l1.1
  let l3 := redLevel (tlFmt w) l2.1
  let l4 := redLevel (tlFmt w) l3.1
  (x.1.setPair bank (tlVd w) (l4.1.headD 0), flagsOr x.2 (flagsOr (flagsOr l1.2 l2.2) (flagsOr l3.2 l4.2)))

/-- VCVT of one lane: int32 to int16, or binary32 to the 16-bit float, saturating (R269). -/
def tlCvt (fmt v : Nat) : Nat × Nat :=
  if tlFloat fmt then (tlFmt16 fmt).roundVal .rne .saturate (fmtB32.unpack v)
  else
    let c := clampInt (intLo 16 false) (intHi 16 false) (sval 32 v)
    (enc 16 c.1, if c.2 then fSAT else 0)

/-- VCVT in one bank. -/
def tlVcvtBank (w : Nat) (x : TillSeq × Nat) (bank : Nat) : TillSeq × Nat :=
  let r := (pairLanes (x.1.pair bank (tlVa w))).map (tlCvt (tlFmt w))
  (x.1.setV bank (tlVd w) (fromLanes 16 (r.map (·.1))), r.foldl (fun a y => flagsOr a y.2) x.2)

/-- An arithmetic instruction, bank by bank. -/
def State.tillArith (s : State) (c op : Nat) (f : Nat → TillSeq × Nat → Nat → TillSeq × Nat) : Out :=
  s.tillInstr c op fun pc w q s =>
    let r := q.banks.foldl (f w) (q, 0)
    ((s.setSeq c r.1).tillFlags c r.2).tillGo c (pc + 1)

/-! ### Rows and columns -/

/-- The index register that an address adds. -/
def TillSeq.xAdd (q : TillSeq) (w : Nat) : Nat := if tlXu w then q.x.getD (tlXs w) 0 else 0

/-- The channel-local address of a column of the open row in a bank (R308). -/
def tineAddr (row bank col : Nat) : Nat := row * 0x10000 + bank * 0x800 + col * 0x20

/-- ACT (R300, Table 13-6). -/
def execAct (c : Chan) (s : State) : Out :=
  s.tillInstr c 0x01 fun pc w q s =>
    let row := q.xAdd w + tlImm w % 2 ^ 15
    if 24576 ≤ row then s.tillEnd c 4
    else if q.row.isSome then s.tillEnd c 6
    else (s.setSeq c { q with row := some row }).tillGo c (pc + 1)

def execPre (c : Chan) (s : State) : Out :=
  s.tillInstr c 0x02 fun pc _ q s => (s.setSeq c { q with row := none }).tillGo c (pc + 1)

/-- TILL_LD (R300, R314): `bank` is the bank whose access came back as `res`. A poisoned or uncorrectable half line
ends the program before vd is written. -/
def execTillLd (c : Chan) (bank : Fin 32) (res : MemRes) (s : State) : Out :=
  s.tillInstr c 0x03 fun pc w q s =>
    match q.row with
    | none => s.tillEnd c 5
    | some row =>
      let col := (q.xAdd w + tlImm w % 64) % 64
      let at' (b : Nat) : MemRes := if b = bank.val then res else .ok
      let fails (b : Nat) : Bool :=
        at' b = .uncorrectable || at' b = .metadata || at' b = .linkFail || s.poisoned (granKey c (tineAddr row b col))
      match q.banks.find? fails with
      | some b => (s.granRead c (tineAddr row b col) 4 (at' b)).2.tillEnd c 7
      | none =>
        let q := q.banks.foldl (fun q b =>
          q.setV b (tlVd w) (leNat (readSpan s.granary.mem (granKey c (tineAddr row b col)) 32))) q
        let s := if q.mask.testBit bank then
            (match res with
             | .corrected => s.bump GRN_CECNT.COUNT c
             | .retried n => s.bumpBy GRN_LINKCNT.RETRY c n.val
             | _ => s)
          else s
        (s.setSeq c q).tillGo c (pc + 1)

/-- ST writes half a line in each masked bank (R314). -/
def State.tineStore (s : State) (c row col va : Nat) (q : TillSeq) (bank : Nat) (res : MemRes) (b : Nat) : State :=
  let l := tineAddr row b col
  s.granWrite c l (maskOf (l % 64) 32) (List.replicate (l % 64) 0 ++ leBytes 32 (q.v b va)) 4
    (if b = bank then res else .ok)

/-- ST (R300, R314). -/
def execSt (c : Chan) (bank : Fin 32) (res : MemRes) (s : State) : Out :=
  s.tillInstr c 0x04 fun pc w q s =>
    match q.row with
    | none => s.tillEnd c 5
    | some row =>
      let col := (q.xAdd w + tlImm w % 64) % 64
      (q.banks.foldl (fun s b => s.tineStore c row col (tlVa w) q bank res b) s).tillGo c (pc + 1)

/-! ### Arithmetic and control -/

def execMac (c : Chan) (s : State) : Out := s.tillArith c 0x05 tlMacBank
def execAadd (c : Chan) (s : State) : Out := s.tillArith c 0x06 tlAaddBank

/-- CHSH (R300): sources are read before any bank is written, whatever MASK says of them. -/
def execChsh (c : Chan) (s : State) : Out :=
  s.tillInstr c 0x07 fun pc w q s =>
    let d := tlImm w % 32
    let q' := q.banks.foldl (fun r b => r.setV b (tlVd w) (if b + d < 32 then q.v (b + d) (tlVa w) else 0)) q
    (s.setSeq c q').tillGo c (pc + 1)

def execVred (c : Chan) (s : State) : Out := s.tillArith c 0x08 tlVredBank
def execVcvt (c : Chan) (s : State) : Out := s.tillArith c 0x09 tlVcvtBank
def execVzero (c : Chan) (s : State) : Out :=
  s.tillArith c 0x0A fun w x bank => (x.1.setV bank (tlVd w) 0, x.2)
def execMask (c : Chan) (s : State) : Out :=
  s.tillInstr c 0x0B fun pc w q s => (s.setSeq c { q with mask := tlImm w }).tillGo c (pc + 1)

/-- An index register takes a value modulo 2^16. -/
def TillSeq.setX (q : TillSeq) (w v : Nat) : TillSeq := { q with x := setNth q.x (tlXs w) (v % 2 ^ 16) }

def execXset (c : Chan) (s : State) : Out :=
  s.tillInstr c 0x0C fun pc w q s => (s.setSeq c (q.setX w (tlImm w))).tillGo c (pc + 1)
def execXadd (c : Chan) (s : State) : Out :=
  s.tillInstr c 0x0D fun pc w q s => (s.setSeq c (q.setX w (q.x.getD (tlXs w) 0 + tlImm w))).tillGo c (pc + 1)
def execBnz (c : Chan) (s : State) : Out :=
  s.tillInstr c 0x0E fun pc w q s =>
    let v := (q.x.getD (tlXs w) 0 + 65535) % 2 ^ 16
    (s.setSeq c (q.setX w v)).tillGo c (if v ≠ 0 then tlImm w % 512 else pc + 1)
def execJmp (c : Chan) (s : State) : Out :=
  s.tillInstr c 0x0F fun _ w _ s => s.tillGo c (tlImm w % 512)
def execTillNop (c : Chan) (s : State) : Out :=
  s.tillInstr c 0x00 fun pc _ _ s => s.tillGo c (pc + 1)

def execTillEnd (c : Chan) (s : State) : Out :=
  s.tillInstr c 0x11 fun _ _ _ s => s.tillEnd c 1

/-- TILL_REFRESH_DUE (R311): a refresh is postponed; the ninth ends the program with REFRESH_OVERRUN. With no program
loaded, or one that has come to its ending, it is performed. -/
def execTillRefreshDue (c : Chan) (s : State) : Out :=
  .next <|
    if !s.on GRN_TILL_STAT.LOADED c || (s.seq c).ended.isSome then s
    else if s.f GRN_TILL_STAT.PENDING c < 8 then s.setF GRN_TILL_STAT.PENDING c (s.f GRN_TILL_STAT.PENDING c + 1)
    else s.tillEnd c 2

end Sys2Proof.Machine
end

