-- ==== Sys2Proof/Machine/Drill.lean ====
section
/-! DEFINITION. Drill's queues and packets (R319 to R325, R336 to R339): which queue is fetched next, the fetch of a
packet, the load-time checks, replies and completion rings. -/

namespace Sys2Proof.Machine

/-! ### Queues (R319, R320) -/

def State.qBase (s : State) (q : Nat) : Nat := s.f DRL_Q_BASE.ADDR q * 4096
def State.crBase (s : State) (q : Nat) : Nat := s.f DRL_CR_BASE.ADDR q * 4096
def State.qSize (s : State) (q : Nat) : Nat := 2 ^ s.f DRL_Q_CFG.LOG2SIZE q

/-- The queue, or its ring, lies in host memory. -/
def State.qHost (s : State) (q : Nat) : Bool := opSpace (s.qBase q) = 1
def State.crHost (s : State) (q : Nat) : Bool := opSpace (s.crBase q) = 1

/-- The ledger entries of a queue. -/
def State.qEntries (s : State) (q : Nat) : List (Nat × Entry) :=
  s.drill.ledger.filter fun x => x.2.plot * 8 + x.2.queue = q

/-- Replies in a ring that its consumer has not taken. -/
def State.unconsumed (s : State) (q : Nat) : Nat :=
  let d := modDiff 32 (s.f DRL_CR_HEAD.COUNT q) (s.f DRL_CR_TAIL.COUNT q)
  if d < 2 ^ 31 then d else 0

/-- Ring slots that no reply and no fetched command holds. -/
def State.ringFree (s : State) (q : Nat) : Nat := s.qSize q - s.unconsumed q - (s.qEntries q).length

/-- Packets wait. -/
def State.qWaiting (s : State) (q : Nat) : Bool :=
  s.on DRL_Q_CFG.EN q && s.f DRL_Q_HEAD.COUNT q ≠ s.f DRL_Q_TAIL.COUNT q

/-- The ledger and the plot's quota have room (R335). -/
def State.ledgerRoom (s : State) (q : Nat) : Bool :=
  let used := s.drill.ledger.length
  let own := (s.drill.ledger.filter fun x => x.2.plot = q / 8 && x.2.frame = none).length
  (used < 4032 || (s.on DRL_Q_CFG.CTRL q && used < 4096)) &&
  (match (s.plot (q / 8)).quota with | some n => decide (own < n) | none => true)

/-- Nothing but the ledger or the quota stops the fetch of a queue. -/
def State.qReady (s : State) (q : Nat) : Bool :=
  s.on DRL_STATUS.RUN 0 && s.qWaiting q && (s.queue q).rereads = none && !(s.queue q).reading &&
  !(s.qHost q && s.detached (q / 8) && !(s.queue q).rebased) && 0 < s.ringFree q

/-- The enabled queues. -/
def State.enabledQueues (s : State) : List Nat :=
  s.regs.filterMap fun c => if c.1 % 4096 = DRL_Q_CFG.EN.id && c.2 ≠ 0 then some (c.1 / 4096) else none

/-- Drill fetches by priority, and in round robin among equals (R336). -/
def State.nextQueue (s : State) : Option Nat :=
  let qs := s.enabledQueues.filter fun q => s.qReady q && s.ledgerRoom q
  let top := qs.foldl (fun p q => max p (s.f DRL_Q_CFG.PRIO q)) 0
  let same := qs.filter fun q => s.f DRL_Q_CFG.PRIO q = top
  let last := findD 4096 top s.drill.served
  match same.find? fun q => decide (last < q) with
  | some q => some q
  | none => same.head?

/-! ### Replies (R323, Table 14-3) -/

/-- A reply's 32 bytes. -/
def replyBytes (seq : Nat) (r : Reply) (info phase : Bool) (tag queue opcode ts : Nat) : List Byte :=
  leBytes 4 seq ++ leBytes 1 r.status ++ leBytes 1 ((if info then 1 else 0) + (if phase then 2 else 0)) ++ leBytes 2 tag
    ++ leBytes 1 queue ++ leBytes 1 opcode ++ leBytes 2 r.detail ++ leBytes 4 r.aux ++ leBytes 8 r.result ++ leBytes 8 ts

/-- PHASE of reply number n (Table 14-3). -/
def phaseOf (n size : Nat) : Bool := n / size % 2 = 0

/-- Write a reply to the ring of a queue and to the retained copy, then advance CR_HEAD and raise the vector, unless
QUIET or DETACHED (R323, R383). A ring that cannot be written loses the reply; the retained copy has it. -/
def State.writeReply (s : State) (q seq : Nat) (r : Reply) (info quiet : Bool) (tag opcode : Nat) : State :=
  let p := q / 8
  let n := s.f DRL_CR_HEAD.COUNT q
  let slot := n % s.qSize q
  let b := replyBytes seq r info (phaseOf n (s.qSize q)) tag (q % 8) opcode s.now
  let s := (s.putBytes p (s.crBase q + 32 * slot) b).2
  let x := s.queue q
  let s := (s.setQueue q { x with retained := put slot b x.retained }).wrapInc DRL_CR_HEAD.COUNT q
  if quiet || s.detached p then s else s.notify p (s.f DRL_Q_CFG.VEC q)

/-- A CMD packet of the system stream (R540): 0 fetched, 1 started, 2 retired. -/
def State.cmdTrace (s : State) (e : Nat) (x : Entry) (event status : Nat) : State :=
  s.trSystem 0x10 (leBytes 2 e ++ leBytes 2 x.plot ++ leBytes 1 x.opcode ++ leBytes 1 event ++ leBytes 1 status ++ leBytes 8 s.now)

/-- A stream context is freed (R379). -/
def State.dropStream (s : State) (n : Nat) : State :=
  let s := { s with host := { s.host with streams := drop n s.host.streams } }
  let s := s.staleReads fun u => match u with | .element k _ => k = n | .flush k _ => k = n | _ => false
  let s := ((s.setF HRW_S_FEED.COUNT n 0).setF HRW_S_COMMIT.COUNT n 0).setF HRW_S_ACKED.COUNT n 0
  let s := ((s.setOn HRW_S_STAT.OPEN n false).setOn HRW_S_STAT.PAUSED n false).setOn HRW_S_STAT.HOST_LOST n false
  let s := ((s.setOn HRW_S_STAT.FEED_ERR n false).setOn HRW_S_STAT.DIR n false).setF HRW_S_STAT.PLOT n 0
  let s := ((s.setOn HRW_S_CTL.NOTIFY_EN n false).setOn HRW_S_CTL.IRQ_EN n false).setF HRW_S_CTL.VEC n 0
  s.setF HRW_S_CTL.THREAD n 0

/-- A ledger entry's reply is written, and the entry becomes FREE; with the reply of a STREAM_CLOSE its context is
freed. -/
def State.replyEntry (s : State) (e : Nat) (x : Entry) (r : Reply) : State :=
  let s := (s.writeReply (x.plot * 8 + x.queue) x.seq r false (numAt x.packet 1 1 / 2 % 2 = 1) x.tag x.opcode).cmdTrace e x 2 r.status
  let s := if x.opcode = 0x05 && x.begun && (r.status = stOk || r.status = stHostLost) then s.dropStream (numAt x.packet 8 4)
    else s
  s.freeEntry e

/-- A command is refused: from parse straight to RETIRING (R331). -/
def State.refuse (s : State) (e : Nat) (r : Reply) : State :=
  s.modEntry e fun x => { x with state := .retiring, reply := some r }

/-! ### Packets (Tables 14-2 and 14-4) -/

/-- A field of the packet. -/
def Entry.pk (x : Entry) (off n : Nat) : Nat := numAt x.packet off n

/-- The operand bytes of an opcode: offsets and lengths; none for an unlisted opcode. -/
def operandBytes (op : Nat) : Option (List (Nat × Nat)) :=
  match op with
  | 0x01 => some [(8, 34), (44, 4)]
  | 0x02 => some [(8, 24)]
  | 0x03 => some [(8, 24)]
  | 0x04 => some [(8, 1), (12, 24), (40, 8)]
  | 0x05 => some [(8, 4)]
  | 0x06 => some [(8, 1)]
  | 0x07 => some [(8, 17)]
  | 0x08 => some [(8, 17), (28, 4)]
  | 0x09 => some [(8, 2)]
  | 0x0A => some [(8, 1), (10, 22)]
  | 0x0B => some [(8, 2), (11, 35), (48, 16)]
  | 0x0C => some [(8, 2), (11, 35), (48, 16)]
  | 0x0D => some [(8, 1), (12, 4)]
  | 0x0E => some [(8, 2), (12, 12)]
  | 0x0F => some [(8, 4)]
  | 0x10 => some [(8, 26)]
  | 0x11 => some [(8, 2), (16, 8)]
  | 0x12 => some [(8, 4), (16, 16)]
  | _ => none

/-- The bytes that no operand uses are zero (R321). -/
def Entry.zeroOk (x : Entry) (used : List (Nat × Nat)) : Bool :=
  (List.range 56).all fun k =>
    used.any (fun u => decide (u.1 ≤ 8 + k) && decide (8 + k < u.1 + u.2)) || x.pk (8 + k) 1 = 0

/-- The address operands that a command uses (R322). -/
def Entry.addrs (x : Entry) : List Nat :=
  match x.opcode with
  | 0x01 => [x.pk 8 8]
  | 0x02 => [x.pk 8 8, x.pk 16 8]
  | 0x03 => [x.pk 8 8]
  | 0x04 => [x.pk 40 8]
  | 0x07 => [x.pk 8 8]
  | 0x08 => [x.pk 8 8]
  | 0x0A => if x.pk 12 4 = 0 then [] else [x.pk 16 8]
  | 0x0B => [x.pk 56 8]
  | 0x0E => if x.pk 8 1 = 1 then [x.pk 16 8] else []
  | 0x10 => if x.pk 33 1 = 0 then [x.pk 8 8] else []
  | 0x11 => [x.pk 16 8]
  | 0x12 => [x.pk 16 8, x.pk 24 8]
  | _ => []

/-- The value ranges of step 1 of R325 and of Tables 15-2 and 16-4: DETAIL of the first that fails. -/
def Entry.ranges (x : Entry) : Option Nat :=
  let need (ok : Bool) (d : Nat) : Option Nat := if ok then none else some d
  match x.opcode with
  | 0x01 => need (x.pk 41 1 ≤ 1) dtReserved
  | 0x02 => need (1 ≤ x.pk 24 8 && x.pk 24 8 ≤ 2 ^ 40) dtReserved
  | 0x04 =>
    let eb := x.pk 12 4
    let host := x.pk 16 8
    let dev := x.pk 24 8
    need (x.pk 8 1 ≤ 1 && 0 < eb && eb % 64 = 0 && eb ≤ 2 ^ 28 && 0 < x.pk 32 4 && x.pk 32 4 ≤ 65536 &&
      opSpace host = 1 && host % 4096 = 0 && opSpace dev = 0 && dev % 64 = 0 && x.pk 40 8 % 8 = 0) dtReserved
  | 0x06 => need (x.pk 8 1 ≤ 1) dtReserved
  | 0x07 => if 1 < x.pk 24 1 then some dtReserved
            else if x.pk 24 1 = 1 && opSpace (x.pk 8 8) = 1 then some dtSpace
            else need (x.pk 8 8 % 8 = 0) dtAlign
  | 0x08 => if 2 < x.pk 24 1 then some dtReserved else need (x.pk 8 8 % 8 = 0) dtAlign
  | 0x09 => need (x.pk 9 1 = 1 || x.pk 9 1 = 2) dtReserved
  | 0x0B => need (x.pk 8 2 < 512 && x.pk 48 8 % 0x200000 = 0) dtReserved
  | 0x0C => need (x.pk 8 2 < 512 && x.pk 48 8 % 0x200000 = 0) dtReserved
  | 0x0D => need (x.pk 8 1 < 8) dtReserved
  | 0x0E => need (x.pk 8 1 ≤ 2 && x.pk 9 1 < 8) dtReserved
  | 0x10 => need (x.pk 32 1 < 16 && x.pk 33 1 ≤ 1) dtReserved
  | 0x11 => need (x.pk 8 1 < 16 && 1 ≤ x.pk 9 1 && x.pk 9 1 ≤ 16) dtReserved
  | 0x12 => need (x.pk 10 2 ≤ 256) dtReserved
  | _ => none

/-- Step 1 of R325: the header, the opcode, reserved fields, address spaces. -/
def Entry.step1 (x : Entry) : Option Reply :=
  let bad (d : Nat) : Option Reply := some { status := stBad, detail := d }
  match operandBytes x.opcode with
  | none => bad dtOpcode
  | some used =>
    if 4 ≤ x.pk 1 1 || !x.zeroOk used then bad dtReserved
    else if x.addrs.any fun a => 2 ≤ opSpace a then bad dtSpace
    else match x.ranges with
      | some d => bad d
      | none => none

/-- Step 2: only plot 0 issues LEASE, UNLEASE and HEADLAND_MSG. -/
def Entry.step2 (x : Entry) : Option Reply :=
  if (x.opcode = 0x0B || x.opcode = 0x0C || x.opcode = 0x12) && x.plot ≠ 0 then
    some { status := stLease, detail := dtNotPlot0 }
  else none

/-! ### Sowings and leases, as the checks see them -/

/-- The threads that CORES and TMASK of a SOW packet name, in ascending order. -/
def sowThreads (pkt : List Byte) : List Nat :=
  (bitsOf 128 (numAt pkt 24 16)).flatMap fun n => (bitsOf 8 (numAt pkt 40 1)).map (8 * n + ·)

/-- The cores that a SOW packet names. -/
def sowCores (pkt : List Byte) : List Nat := bitsOf 128 (numAt pkt 24 16)

/-- A thread belongs to a sowing that has not ended. -/
def State.inSowing (s : State) (h : Nat) : Bool :=
  s.drill.ledger.any fun x => match x.2.sow with
    | some w => w.threads.contains h && !w.parked.contains h
    | none => false

/-- A core or channel changes hands: a LEASE or UNLEASE that names it is running (steps of R318). -/
def State.changing (s : State) (core : Option Nat) (chan : Option Nat) : Bool :=
  s.drill.ledger.any fun x =>
    (x.2.opcode = 0x0B || x.2.opcode = 0x0C) && (x.2.state = .running || x.2.state = .held) && x.2.begun &&
    ((match core with | some n => (x.2.pk 16 16).testBit n | none => false) ||
     (match chan with | some c => (x.2.pk 32 12).testBit c | none => false))

/-- The first and the last byte of a range of a space-0 operand lie within the grant (step 4); a fault inside is met as
the command runs. -/
def State.rangeGranted (s : State) (plot addr len : Nat) (store : Bool) : Bool :=
  opSpace addr = 1 || len = 0 ||
  ((s.dmaPa plot (opAddr addr) store).1.isSome && (s.dmaPa plot (opAddr addr + len - 1) store).1.isSome)

/-- The same, with both ends in Granary memory of Normal type (R354, R374). -/
def State.normalGranted (s : State) (plot addr len : Nat) (store : Bool) : Bool :=
  let ok (va : Nat) : Bool := match (s.dmaPa plot va store).1 with | some pa => decide (pa < granarySpan) | none => false
  opSpace addr = 0 && (len = 0 || (ok (opAddr addr) && ok (opAddr addr + len - 1)))

/-- Extents of the Granary memory region. -/
def extentCount : Nat := granarySpan / 0x200000

/-- Extents in some lease. -/
def State.leasedExtents (s : State) : Nat := (s.drill.plots.map fun p => p.2.extents.length).sum

/-- Open streams of a plot. -/
def State.openStreams (s : State) (p : Nat) : List Nat :=
  (s.host.streams.map (·.1)).filter fun n => s.f HRW_S_STAT.PLOT n = p

/-! ### Sowings: the checks of Tables 14-6 and 15-2 -/

/-- The limits of a SOW image against the silicon: step 3. -/
def State.sowFit (s : State) (pkt hdr : List Byte) : Option Reply :=
  if (sowCores pkt).any s.locked then some { status := stFit, detail := dtLocked }
  else if 16 < numAt hdr 6 1 || 1024 < numAt hdr 8 2 || 64 < numAt hdr 10 1 || 32 < numAt hdr 11 1 ||
      (sowThreads pkt).length < numAt hdr 12 4 then some { status := stFit, detail := dtSilicon }
  else none

/-- Step 4 for a SOW image. -/
def State.sowLease (s : State) (plot : Nat) (pkt hdr : List Byte) : Option Reply :=
  if (sowCores pkt).any (fun n => (s.core n).lease ≠ some plot) || (s.plot plot).binder < numAt hdr 10 1 ||
      (s.plot plot).channels.length < numAt hdr 11 1 || (s.plot plot).rtdesc = 0 ||
      !s.rangeGranted plot (numAt pkt 8 8) (max 64 (numAt hdr 16 8)) false then
    some { status := stLease, detail := dtNotLeased }
  else none

/-- Cores that armed loops hold (R346) are those of the loops' templates. -/
def State.loopCores (s : State) : List Nat := s.loops.flatMap fun x => x.2.cores

/-- Step 5 for a SOW: no core of an armed loop, none that changes hands, every context parked and in no sowing. -/
def State.sowBusy (s : State) (pkt : List Byte) : Option Reply :=
  if (sowCores pkt).any (fun n => s.loopCores.contains n || s.changing (some n) none || (find n s.clk.tg).isSome) ||
      (sowThreads pkt).any (fun h => s.inSowing h || (s.thread h).mode ≠ .parked) then some { status := stBusy }
  else none

/-- Step 6 for a SOW: the seed image header. -/
def sowHeader (hdr : List Byte) : Option Reply :=
  if numAt hdr 0 4 ≠ 0x4B534431 || numAt hdr 4 2 ≠ 1 || numAt hdr 7 1 ≠ 0 || (hdr.drop 24).any (· ≠ 0) then
    some { status := stBad, detail := dtImage }
  else none

/-! ### Steps 3 to 6 of R325 -/

/-- The first check that fails. -/
def firstFail : List (Option Reply) → Option Reply
  | [] => none
  | none :: r => firstFail r
  | some x :: _ => some x

/-- The limits of step 3 that need nothing from memory. -/
def State.step3 (s : State) (x : Entry) : Option Reply :=
  let fit (ok : Bool) (d : Nat) : Option Reply := if ok then none else some { status := stFit, detail := d }
  match x.opcode with
  | 0x01 => fit (!(sowCores x.packet).any s.locked) dtLocked
  | 0x04 => fit (lowestFree 2048 s.host.streams).isSome dtNoContext
  | 0x09 =>
    let c := x.pk 8 1
    let till := (List.range 96).filter fun k => k ≠ c && (s.f GRN_STATE.MODE k = 2 || s.chanMove k = .toTill)
    fit (x.pk 9 1 = 1 || (till.length < 32 && (till.filter fun k => k / 16 = c / 16).length < 8)) dtTillCount
  | 0x0A => fit (x.pk 12 4 ≤ 4096 && x.pk 12 4 % 8 = 0) dtSilicon
  | 0x0B =>
    fit ((s.drill.plots.map fun p => p.2.binder).sum + x.pk 11 1 ≤ 64 &&
      ((s.plot (x.pk 8 2)).quota.getD 0) + x.pk 44 2 ≤ 4096 &&
      s.leasedExtents + x.pk 48 8 / 0x200000 ≤ extentCount) dtSilicon
  | _ => none

/-- A command of a plot that has begun and not ended uses a core or channel of a mask (R340). -/
def State.inUse (s : State) (plot cores chans : Nat) : Bool :=
  (bitsOf 128 cores).any (fun n => s.loopCores.contains n || (coreThreads n).any fun h => s.inSowing h) ||
  s.drill.ledger.any fun y =>
    y.2.plot = plot && (y.2.state = .held || y.2.state = .running || y.2.state = .aborting) &&
    ((y.2.opcode = 0x01 && (y.2.pk 24 16 &&& cores) ≠ 0) ||
     ((y.2.opcode = 0x09 || y.2.opcode = 0x0A) && chans.testBit (y.2.pk 8 1)))

/-- Step 4: the lease. -/
def State.step4 (s : State) (x : Entry) : Option Reply :=
  let own (ok : Bool) : Option Reply := if ok then none else some { status := stLease, detail := dtNotLeased }
  let p := x.plot
  match x.opcode with
  | 0x01 => s.sowLease p x.packet x.content
  | 0x02 => own (s.rangeGranted p (x.pk 8 8) (x.pk 24 8) false && s.rangeGranted p (x.pk 16 8) (x.pk 24 8) true)
  | 0x03 => own (s.rangeGranted p (x.pk 8 8) (x.pk 16 8) true)
  | 0x04 =>
    own ((s.openStreams p).length < (s.plot p).streams &&
      s.normalGranted p (x.pk 24 8) (x.pk 32 4 * x.pk 12 4 + (if x.pk 8 1 = 1 then 16 else 0)) true)
  | 0x05 => own ((s.openStreams p).contains (x.pk 8 4))
  | 0x07 => own (s.rangeGranted p (x.pk 8 8) 8 true)
  | 0x08 => own (s.rangeGranted p (x.pk 8 8) 8 false)
  | 0x09 => own ((s.plot p).channels.contains (x.pk 8 1))
  | 0x0A => own ((s.plot p).channels.contains (x.pk 8 1) &&
      (x.pk 12 4 = 0 || s.rangeGranted p (x.pk 16 8) (x.pk 12 4) false))
  | 0x0B =>
    if (bitsOf 128 (x.pk 16 16)).any (fun n => (s.core n).lease.isSome) ||
        (bitsOf 96 (x.pk 32 12)).any (fun c => (s.chanLease c).isSome) then
      some { status := stLease, detail := dtOwned }
    else none
  | 0x0C =>
    let t := x.pk 8 2
    let r := s.plot t
    own ((bitsOf 128 (x.pk 16 16)).all (fun n => (s.core n).lease = some t) &&
      (bitsOf 96 (x.pk 32 12)).all (fun c => r.channels.contains c) && x.pk 48 8 / 0x200000 ≤ r.extents.length &&
      x.pk 11 1 ≤ r.binder && x.pk 12 4 ≤ r.streams && x.pk 44 2 ≤ r.quota.getD 0)
  | 0x0E => if x.pk 8 1 = 1 then own (s.rangeGranted p (x.pk 16 8) 64 true) else none
  | 0x12 => own (s.rangeGranted p (x.pk 16 8) (x.pk 10 2) false && s.rangeGranted p (x.pk 24 8) 1 true)
  | _ => none

/-- A stream feeds an armed loop (R346, R379): its number stands in the template of the loop's FRAME_ARM. -/
def State.loopStream (s : State) (n : Nat) : Bool :=
  s.loops.any fun x => match s.entry x.2.entry with
    | some y => numAt y.content 64 4 = n
    | none => false

/-- A stream has an element to move and none in progress (R377). -/
def State.streamReady (s : State) (n : Nat) : Bool :=
  match find n s.host.streams with
  | none => false
  | some x => !s.on HRW_S_STAT.PAUSED n && x.closing = none && x.off = 0 && !x.away &&
      s.f HRW_S_FEED.COUNT n ≠ s.f HRW_S_COMMIT.COUNT n

/-- The streams that are ready. -/
def State.readyStreams (s : State) : List Nat := (s.host.streams.map (·.1)).filter s.streamReady

/-- Step 5: the state. -/
def State.step5 (s : State) (x : Entry) : Option Reply :=
  let busy (ok : Bool) : Option Reply := if ok then none else some { status := stBusy }
  match x.opcode with
  | 0x01 => s.sowBusy x.packet
  | 0x05 => busy (!s.loopStream (x.pk 8 4))
  | 0x09 =>
    let c := x.pk 8 1
    busy (!s.on GRN_STATE.BUSY c && !s.on GRN_TILL_STAT.LOADED c && !s.changing none (some c) &&
      s.f GRN_STATE.MODE c = (if x.pk 9 1 = 1 then 2 else 1))
  | 0x0A =>
    let c := x.pk 8 1
    busy (s.f GRN_STATE.MODE c = 2 && s.chanMove c = .none && !s.on GRN_TILL_STAT.LOADED c &&
      (x.pk 12 4 ≠ 0 || s.on GRN_TILL_STAT.RESIDENT c))
  | 0x0B =>
    busy (!(bitsOf 96 (x.pk 32 12)).any fun c => s.f GRN_STATE.MODE c ≠ 0 || s.on GRN_STATE.BUSY c)
  | 0x0C =>
    let t := x.pk 8 2
    busy (!s.inUse t (x.pk 16 16) (x.pk 32 12) &&
      !((bitsOf 128 (x.pk 16 16)).any fun n => s.changing (some n) none) &&
      !((bitsOf 96 (x.pk 32 12)).any fun c =>
        s.on GRN_STATE.BUSY c || s.on GRN_TILL_STAT.LOADED c || s.changing none (some c)) &&
      (s.openStreams t).length + x.pk 12 4 ≤ (s.plot t).streams)
  | _ => none

/-- The instructions of a till image. -/
def imageWords (b : List Byte) : List Nat := (List.range (b.length / 8)).map fun k => numAt b (8 * k) 8

/-- Step 6: an opcode's own content. -/
def State.step6 (s : State) (x : Entry) : Option Reply :=
  match x.opcode with
  | 0x01 => sowHeader x.content
  | 0x0A =>
    if x.pk 12 4 = 0 then
      (if x.pk 10 2 < (s.seq (x.pk 8 1)).image.length then none
       else some { status := stBad, detail := dtTill, aux := x.pk 10 2 })
    else
      (match tlCheck (imageWords x.content) (x.pk 10 2) with
       | some k => some { status := stBad, detail := dtTill, aux := k }
       | none => none)
  | _ => none

/-- A loop is armed, and its owner. -/
def State.loopOwner (s : State) (l : Nat) : Option Nat :=
  if s.on SOW_LOOP_CTL.ARMED l then some (s.f SOW_LOOP_CTL.PLOT l) else none

/-- The reserved fields and ranges of a frame template (Tables 15-1 and 15-2, step 1). -/
def templateOk (t : List Byte) : Bool :=
  let y : Entry := { plot := 0, queue := 0, seq := 0, tag := 0, opcode := 1, packet := t.take 64, order := 0, state := .parse }
  numAt t 0 1 = 1 && y.zeroOk [(8, 34), (44, 4)] && numAt t 41 1 ≤ 1 && numAt t 44 4 = 0 && opSpace (numAt t 8 8) < 2 &&
  1 ≤ numAt t 84 1 && numAt t 84 1 ≤ 16 && numAt t 86 2 = 0 && (t.drop 96).take 32 = List.replicate 32 0

/-- A loop is yoked, and the yoke is in use (R400). -/
def State.yoked (s : State) (l : Nat) : Bool := s.on YK_CFG.EN 0 && s.bitF YK_CFG.YLOOPS 0 l

/-- The arming checks of Table 15-2, with the additions of R400. -/
def State.armChecks (s : State) (x : Entry) : Option Reply :=
  let t := x.content.take 128
  let hdr := x.content.drop 128
  let l := x.pk 32 1
  let period := x.pk 16 4
  let deadline := x.pk 20 4
  let fit (ok : Bool) : Option Reply := if ok then none else some { status := stFit, detail := dtPeriod }
  let lease (ok : Bool) : Option Reply := if ok then none else some { status := stLease, detail := dtNotLeased }
  let busy (ok : Bool) : Option Reply := if ok then none else some { status := stBusy }
  let n := numAt t 64 4
  let stream := n ≠ 0xFFFFFFFF
  firstFail [
    if templateOk t && (!stream || 1 ≤ numAt t 68 4) then none else some { status := stBad, detail := dtReserved },
    fit (4166667 ≤ period && period ≤ 1000000000 && deadline ≤ period && numAt t 72 4 + numAt t 76 4 ≤ deadline &&
      numAt t 80 4 < deadline),
    fit (!s.yoked l || deadline + 1000 * s.f YK_CFG.AGREE 0 ≤ period),
    s.sowFit t hdr,
    s.sowLease x.plot t hdr,
    lease (!stream || (s.openStreams x.plot).contains n),
    busy ((s.loopOwner l).isNone && (!stream || !s.on HRW_S_STAT.DIR n)),
    s.sowBusy t,
    busy (!s.yoked l || (s.on YK_STATUS.TVALID 0 && x.pk 24 8 ≠ 0)),
    sowHeader hdr]

/-- The (address, length) pairs of a SHEAF_DECLARE. -/
def sheafList (x : Entry) : List (Nat × Nat) :=
  (List.range (x.pk 9 1)).map fun k => (numAt x.content (16 * k) 8, numAt x.content (16 * k + 8) 8)

/-- The checks of R354. -/
def State.sheafChecks (s : State) (x : Entry) : Option Reply :=
  let l := sheafList x
  firstFail [
    if l.any fun r => 2 ≤ opSpace r.1 then some { status := stBad, detail := dtSpace } else none,
    if 0x100000 < (l.map (·.2)).sum then some { status := stFit, detail := dtSilicon } else none,
    if l.all fun r => s.normalGranted x.plot r.1 r.2 false then none else some { status := stLease, detail := dtNotLeased },
    if s.loopOwner (x.pk 8 1) = some x.plot then none else some { status := stBusy }]

/-- The checks of FRAME_ARM and SHEAF_DECLARE, in the order of R325. -/
def State.frameChecks (s : State) (x : Entry) : Option Reply :=
  if x.opcode = 0x10 && x.pk 33 1 = 0 then s.armChecks x
  else if x.opcode = 0x11 then s.sheafChecks x
  else none

/-- What the load-time checks still have to read: address operand and length. -/
def Entry.need (x : Entry) : Option (Nat × Nat) :=
  match x.opcode with
  | 0x01 => if x.content.isEmpty then some (x.pk 8 8, 64) else none
  | 0x0A => if x.content.isEmpty && x.pk 12 4 ≠ 0 then some (x.pk 16 8, x.pk 12 4) else none
  | 0x10 =>
    if x.pk 33 1 = 1 then none
    else if x.content.isEmpty then some (x.pk 8 8, 128)
    else if x.content.length = 128 && opSpace (numAt x.content 8 8) < 2 then some (numAt x.content 8 8, 64)
    else none
  | 0x11 => if x.content.isEmpty then some (x.pk 16 8, 16 * x.pk 9 1) else none
  | 0x12 => if x.content.isEmpty && x.pk 10 2 ≠ 0 then some (x.pk 16 8, x.pk 10 2) else none
  | _ => none

/-! ### Fetching -/

/-- A packet that was fetched takes ledger entry `e`, in parse; HEAD advances; an episode of R336 ends. -/
def State.fetched (s : State) (q e : Nat) (b : List Byte) : State :=
  let n := s.f DRL_Q_HEAD.COUNT q
  let r := s.queue q
  let s := s.setQueue q { r with rereads := none, reading := false }
  let s := if s.on DRL_STATUS.FULL 0 then
      let s := s.setOn DRL_STATUS.FULL 0 false
      { s with drill := { s.drill with queues := s.drill.queues.map fun x => (x.1, { x.2 with told := false }) } }
    else s
  let x : Entry := { plot := q / 8, queue := q % 8, seq := n, tag := numAt b 2 2, opcode := numAt b 0 1, packet := b,
                     order := s.drill.order, state := .parse, since := some s.now }
  let s := (s.setEntry e x).cmdTrace e x 0 0
  let s := { s with drill := { s.drill with order := s.drill.order + 1,
                                            served := put (s.f DRL_Q_CFG.PRIO q) q s.drill.served } }
  (s.wrapInc DRL_Q_HEAD.COUNT q).tally 0x051 0 1

/-- The checks that need what was read; without a failure the command is HELD. -/
def State.finishParse (s : State) (e : Nat) : State :=
  match s.entry e with
  | none => s
  | some x =>
    let fails := firstFail [s.frameChecks x, if x.opcode = 0x01 then s.sowFit x.packet x.content else none, s.step4 x, s.step5 x, s.step6 x]
    match fails with
    | some r => s.refuse e r
    | none => s.setEntry e { x with state := .held, since := if x.opcode = 0x0F then x.since else none }

/-- Read what the checks need, then finish them. A read toward the host is left outstanding. -/
def State.readContent (s : State) (e : Nat) : Nat → State
  | 0 => s
  | fuel + 1 =>
    match s.entry e with
    | none => s
    | some x =>
      match x.need with
      | none => s.finishParse e
      | some (a, n) =>
        if opSpace a = 1 then
          (match s.hostRead x.plot (opAddr a) n (.content e) with
           | some s => s.setEntry e { x with away := true }
           | none => s)
        else
          match s.dmaReadAll x.plot (opAddr a) (n / 64 + 2) n with
          | (.data b, s) => (s.setEntry e { x with content := x.content ++ b }).readContent e fuel
          | (.held, s) => s
          | (.fail, s) =>
            s.refuse e (if (s.dmaPa x.plot (opAddr a) false).1.isSome then { status := stBad, detail := dtAddr }
                        else { status := stLease, detail := dtNotLeased })

/-- The load-time checks of an entry in parse (R325). -/
def State.parse (s : State) (e : Nat) : State :=
  match s.entry e with
  | none => s
  | some x =>
    if x.state ≠ .parse || x.away then s
    else
      let q := x.plot * 8 + x.queue
      let rebased := (s.queue q).rebased && s.detached x.plot && x.opcode ≠ 0x0F
      match firstFail [x.step1, if rebased then some { status := stLease, detail := dtOwned } else none, x.step2,
                       s.step3 x] with
      | some r => s.refuse e r
      | none => s.readContent e 4

/-- A packet has been read (R338). -/
def State.takePacket (s : State) (q e : Nat) (b : List Byte) : State :=
  let r := s.queue q
  let s := s.setQueue q { r with reading := false }
  let e := if (s.entry e).isNone then e else (lowestFree 4096 s.drill.ledger).getD e
  if numAt b 4 4 = s.f DRL_Q_HEAD.COUNT q then (s.fetched q e b).parse e
  else
    match r.rereads with
    | none => s.setQueue q { r with rereads := some 0, reading := false }
    | some 0 => s.setQueue q { r with rereads := some 1, reading := false }
    | some _ => (s.fetched q e b).refuse e { status := stBad, detail := dtSeq }

/-- Read the packet at HEAD. -/
def State.readPacket (s : State) (q e : Nat) : State :=
  let a := s.qBase q + 64 * (s.f DRL_Q_HEAD.COUNT q % s.qSize q)
  match opSpace a with
  | 0 =>
    (match s.dmaReadAll (q / 8) (opAddr a) 2 64 with
     | (.data b, s) => s.takePacket q e b
     | (.held, s) => s
     | (.fail, s) => (s.fetched q e (List.replicate 64 0)).refuse e { status := stBad, detail := dtAddr })
  | 1 =>
    (match s.hostRead (q / 8) (opAddr a) 64 (.packet q e) with
     | some s => s.setQueue q { s.queue q with reading := true }
     | none => s)
  | _ => (s.fetched q e (List.replicate 64 0)).refuse e { status := stBad, detail := dtSpace }

/-- Fetching stops for lack of ledger entries or quota (R336): the episode is counted, and each queue with unfetched
packets and a ring slot to spare is told once. -/
def State.ledgerFull (s : State) : State :=
  let s := if s.on DRL_STATUS.FULL 0 then s else (s.setOn DRL_STATUS.FULL 0 true).bump DRL_FULLCNT.COUNT 0
  s.enabledQueues.foldl (fun s q =>
    if s.qWaiting q && !(s.queue q).told && 0 < s.ringFree q then
      (s.setQueue q { s.queue q with told := true }).writeReply q (s.f DRL_Q_HEAD.COUNT q) { status := stFull } true false 0 0
    else s) s

/-- A queue's fetch was lost (R339, Table 16-6). -/
def State.fetchLost (s : State) (q : Nat) : State :=
  (s.setQueue q { s.queue q with reading := false, rereads := none }).setOn DRL_Q_STAT.HOST_LOST q true

/-! ### Queue registers -/

/-- A write of DRL_Q_TAIL (R320). -/
def State.doorbell (s : State) (q v : Nat) : State :=
  if s.qSize q < modDiff 32 v (s.f DRL_Q_HEAD.COUNT q) then s.setOn DRL_Q_STAT.DB_ERR q true
  else s.setF DRL_Q_TAIL.COUNT q v

/-- Software of the plot, plot 0, Drill, Reeve and the TAP reach a queue's registers. -/
def queueReach (agent : Agent) (q : Nat) : Bool :=
  match agent with
  | .plot p => p.val = 0 || p.val = q / 8
  | _ => true

def execDoorbell (agent : Agent) (q : Fin 4096) (v : BitVec 32) (s : State) : Out :=
  .next (if s.acts agent && queueReach agent q then s.doorbell q v.toNat else s)

/-- QUEUE_ENABLE (R341): EN is set; the counts go to 0 and the retained copy is zeroed. LOG2SIZE outside 6 to 16 leaves
EN at 0. -/
def State.queueEnable (s : State) (q : Nat) : State :=
  let n := s.f DRL_Q_CFG.LOG2SIZE q
  if s.on DRL_Q_CFG.EN q || n < 6 || 16 < n then s
  else
    let s := ((s.setF DRL_Q_HEAD.COUNT q 0).setF DRL_Q_TAIL.COUNT q 0).setF DRL_CR_HEAD.COUNT q 0
    ((s.setF DRL_CR_TAIL.COUNT q 0).setQueue q {}).setOn DRL_Q_CFG.EN q true

def execQueueEnable (agent : Agent) (q : Fin 4096) (s : State) : Out :=
  .next (if s.acts agent && queueReach agent q then s.queueEnable q else s)

/-- QUEUE_DISABLE (R340): fetching stops; outstanding entries retire. -/
def State.queueDisable (s : State) (q : Nat) : State :=
  (s.setQueue q { s.queue q with rereads := none }).setOn DRL_Q_CFG.EN q false

def execQueueDisable (agent : Agent) (q : Fin 4096) (s : State) : Out :=
  .next (if s.acts agent && queueReach agent q then s.queueDisable q else s)

/-- The TAIL word of a self-fed queue has been read: one beyond the queue size is ignored and sets DB_ERR. -/
def State.tailRead (s : State) (q : Nat) (b : List Byte) : State := s.doorbell q (leNat b)

/-- SELF_FED_POLL (R320). -/
def execSelfFedPoll (q : Fin 4096) (res : MemRes) (s : State) : Out :=
  .next <| s.withRes res fun s =>
    let a := s.f DRL_Q_TAILADDR.ADDR q * 4
    if !s.on DRL_Q_CFG.EN q || !s.on DRL_Q_CFG.SELF q || !s.on DRL_STATUS.RUN 0 then s
    else
      match opSpace a with
      | 0 =>
        (match s.dmaReadAll (q.val / 8) (opAddr a) 2 4 with
         | (.data b, s) => s.tailRead q b
         | (_, s) => s)
      | 1 => if s.detached (q.val / 8) then s else (s.hostRead (q.val / 8) (opAddr a) 4 (.tail q)).getD s
      | _ => s

end Sys2Proof.Machine
end

