-- ==== Sys2Proof/Machine/Commands.lean ====
section
/-! DEFINITION. Drill's commands (R326 to R334, R337 to R340): the ledger's arbiter, sowings, copies, signals and
waits, till commands, leases and queries. -/

namespace Sys2Proof.Machine

/-! ### Fetch -/

/-- FETCH (R319, R336): the queue that Drill fetches next gives a packet to ledger entry `e`, a FREE one. Where only
the ledger or the quota stops it, the episode is told. -/
def execFetch (q e : Fin 4096) (res : MemRes) (s : State) : Out :=
  .next <| s.withRes res fun s =>
    if s.nextQueue = some q.val && (s.entry e).isNone then s.readPacket q e
    else if s.qReady q && !s.ledgerRoom q then s.ledgerFull
    else s

/-- SEQ_RECHECK (R338): the slot is read again. -/
def execSeqRecheck (q e : Fin 4096) (res : MemRes) (s : State) : Out :=
  .next <| s.withRes res fun s =>
    if (s.queue q).rereads.isSome && !(s.queue q).reading && s.on DRL_Q_CFG.EN q && (s.entry e).isNone &&
        0 < s.ringFree q then s.readPacket q e
    else s

/-! ### Order between commands (R329) -/

/-- The entries of a plot that software submitted. -/
def State.plotEntries (s : State) (p : Nat) : List Entry :=
  (s.drill.ledger.map (·.2)).filter fun y => y.plot = p && y.frame = none

/-- Movers in use (R335). -/
def State.moversUsed (s : State) : Nat :=
  (s.drill.ledger.filter fun x => (x.2.opcode = 2 || x.2.opcode = 3) && (x.2.state = .running || x.2.state = .aborting)).length
    + (s.host.streams.filter fun x => 0 < x.2.off || x.2.away).length

/-- A HELD command may leave HELD. -/
def State.mayStart (s : State) (x : Entry) : Bool :=
  let ys := s.plotEntries x.plot
  let mine := ys.filter fun y => y.queue = x.queue && y.order < x.order
  x.state = .held &&
  (x.frame.isSome ||
   (!mine.any (fun y => y.state = .held || y.state = .parse) &&
    (!(x.opcode = 0x06 || (x.pk 1 1).testBit 0) || mine.isEmpty) &&
    (!(x.opcode = 0x06 && x.pk 8 1 = 1) || !ys.any fun y => y.order < x.order) &&
    (!(x.opcode = 2 || x.opcode = 3) || s.moversUsed + s.readyStreams.length < 64) &&
    (x.opcode ≠ 0x0F || !ys.any fun y => y.opcode = 0x0F && y.order < x.order) &&
    (x.opcode ≠ 0x12 || !s.drill.ledger.any fun y => y.2.opcode = 0x12 && (y.2.state = .running || y.2.state = .retiring))))

/-- COMMAND_START: HELD to RUNNING (R331). A WAIT leaves HELD by its condition (R330). A command whose load-time checks
wait for a tag toward the host goes on with them. -/
def execCommandStart (e : Fin 4096) (res : MemRes) (s : State) : Out :=
  .next <| s.withRes res fun s =>
    match s.entry e with
    | none => s
    | some x =>
      if x.state = .parse then s.parse e
      else if s.mayStart x && x.opcode ≠ 0x08 then
        (s.setEntry e { x with state := .running, since := if x.opcode = 0x0F then x.since else some s.now }).cmdTrace e x 1 0
      else s

/-- Run the work of a RUNNING command with a given opcode whose work has not begun; `res` is how its first access of a
channel comes back. -/
def State.work (s : State) (e op : Nat) (res : MemRes) (f : Entry → State → State) : Out :=
  .next <| s.withRes res fun s =>
    match s.entry e with
    | none => s
    | some x => if x.opcode = op && x.state = .running && !x.begun then f x (s.setEntry e { x with begun := true }) else s

/-- Go on with the work of a RUNNING command. -/
def State.workOn (s : State) (e op : Nat) (res : MemRes) (f : Entry → State → State) : Out :=
  .next <| s.withRes res fun s =>
    match s.entry e with
    | none => s
    | some x => if x.opcode = op && x.state = .running && x.reply = none && !x.away then f x s else s

/-! ### Sowings (R326 to R328) -/

/-- TCTL of a sowing: Drill does not write SEED (R275); the other fields take their reset values (R130, R326). -/
def sownTctl (t : Thread) : Word := BitVec.ofNat 64 (t.seed * 2 ^ 32 + 4)

/-- A context as a sowing releases it; `i` is its index, `d` the runtime descriptor (Table 14-1). -/
def sownThread (t : Thread) (d pkt : List Byte) (ptroot : Word) (i count e : Nat) (extra : List (Nat × Word)) : Thread :=
  let w (off : Nat) : Word := BitVec.ofNat 64 (numAt d off 8)
  let top (off : Nat) : Word := w off + BitVec.ofNat 64 ((i + 1) * numAt d 96 4)
  let t' : Thread := { mode := .running, mailbox := t.mailbox, tctl := sownTctl t, pc := masked (w 0) pcMask, ptroot := ptroot,
                       lockpol := numAt pkt 41 1 = 1, dfentry := masked (w 40) pcMask, dfsp := top 88 }
  let t' := (List.range 4).foldl (fun t n => (t.setEntry n (masked (w (8 + 8 * n)) pcMask)).setXsp n (top (56 + 8 * n))) t'
  let regs : List (Nat × Word) := [(1, BitVec.ofNat 64 (numAt pkt 8 8)), (2, BitVec.ofNat 64 (numAt pkt 16 8)),
    (3, BitVec.ofNat 64 i), (4, BitVec.ofNat 64 count), (5, BitVec.ofNat 64 e)] ++ extra
  { t' with g := regs.foldl (fun g r => putD 0 r.1 r.2 g) [] }

/-- PTROOT of the descriptor with PLOT replaced; its reserved bits stay 0 (R9, R98). -/
def plotRoot (d : List Byte) (p : Nat) : Word :=
  masked (BitVec.ofNat 64 (numAt d 48 8 % 2 ^ 55 + p * 2 ^ 55)) ptrootMask

/-- Release every context of a sowing: `pkt` is the SOW packet, or image, `extra` the registers that R349 adds. -/
def State.release (s : State) (e : Nat) (x : Entry) (pkt d : List Byte) (extra : List (Nat × Word)) : State :=
  let hs := sowThreads pkt
  let root := plotRoot d x.plot
  let s := s.setPlot x.plot { s.plot x.plot with ptroot := root }
  let s := (sowCores pkt).foldl (fun s n => (coreThreads n).foldl (fun s h =>
    if (s.thread h).mode = .parked then s.modThread h fun t => { t with ptroot := root } else s) s) s
  let s := (hs.zip (List.range hs.length)).foldl (fun s hi =>
    (s.setThread hi.1 (sownThread (s.thread hi.1) d pkt root hi.2 hs.length e extra)).trRescan hi.1) s
  let (v, s) := if hs.isEmpty then s.draw else (s.now, s)
  s.modEntry e fun y => { y with begun := true, sow := some { threads := hs, first := v } }

/-- Start the sowing of an entry: the state is checked again, the descriptor read, the contexts released. -/
def State.startSow (s : State) (e : Nat) (x : Entry) (pkt : List Byte) (extra : List (Nat × Word)) : State :=
  let locked : Option Reply := if (sowCores pkt).any s.locked then some { status := stFit, detail := dtLocked } else none
  let leased : Option Reply := if (sowCores pkt).any fun n => (s.core n).lease ≠ some x.plot then
    some { status := stLease, detail := dtNotLeased } else none
  match firstFail [locked, leased, if x.frame.isSome then none else s.sowBusy pkt] with
  | some r => s.endWork e r
  | none =>
    let a := (s.plot x.plot).rtdesc
    match (if opSpace a = 0 then s.dmaReadAll x.plot (opAddr a) 4 128 else (.fail, s)) with
    | (.fail, s) => s.endWork e { status := stFaulted, detail := dtAddr }
    | (.held, s) => s.modEntry e fun y => { y with begun := false }
    | (.data d, s) => s.release e x pkt d extra

/-- SOW (R326). -/
def execSow (e : Fin 4096) (res : MemRes) (s : State) : Out := s.work e 0x01 res fun x s => s.startSow e x x.packet []

/-- A thread of a locked core never parks (R185); it counts as ended. -/
def Sowing.over (w : Sowing) (s : State) : Bool := w.threads.all fun h => w.parked.contains h || s.locked (coreOf h)

/-- A thread of a sowing is parked: the sowing's record follows. -/
def State.sowParked (s : State) (h : Nat) (own : Bool) : State :=
  { s with drill := { s.drill with ledger := s.drill.ledger.map fun x =>
      match x.2.sow with
      | some w =>
        if w.threads.contains h && !w.parked.contains h then
          (x.1, { x.2 with sow := some { w with parked := w.parked ++ [h], last := s.now,
                                                exited := if own then w.exited ++ [h] else w.exited } })
        else x
      | none => x } }

/-- A thread is parked by Drill: its STOP_REQ leaves FUR_XPEND. -/
def State.parkThread (s : State) (h : Nat) : State :=
  let s := s.trPark h
  let s := s.modThread h fun t => { t with mode := .parked, exited := false, haltReq := false, stepping := false }
  let s := s.setCore (coreOf h) { s.core (coreOf h) with idleAt := s.now }
  (s.setBitF FUR_XPEND.SRC h 0 false).sowParked h true

/-- PARK (R327): a thread that has exited is parked at the boundary that follows its WAIT, once its transactions have
completed (R156). A halted one leaves that state by debug resume or a reset only (R100). -/
def execPark (h : Tid) (s : State) : Out :=
  .next <|
    let t := s.thread h
    if t.exited && t.mode ≠ .halted && t.hold = none && t.raised = none && t.posted.isEmpty && !s.locked (coreOf h) &&
        !((s.core (coreOf h)).pfs.any fun p => p.2 = h.val) && !(s.tile (coreOf h)).queue.any fun e => e.thread = h.val then s.parkThread h
    else s

/-- 100 counts are 1 µs (R33). -/
def usCounts (us : Nat) : Nat := 100 * us

/-- Counts since a timestamp. -/
def State.since (s : State) (t : Nat) : Nat := modDiff 64 s.now t

/-- SOW_TIMEOUT (R328): TIMEOUT counts from the SOW's start. -/
def execSowTimeout (e : Fin 4096) (s : State) : Out :=
  .next <|
    match s.entry e with
    | none => s
    | some x =>
      match x.sow, x.since with
      | some w, some t =>
        if x.opcode = 0x01 && x.state = .running && x.frame = none && x.pk 44 4 ≠ 0 && usCounts (x.pk 44 4) ≤ s.since t &&
            !w.over s then s.stopSowing e x w { status := stFaulted, detail := dtTimeout }
        else s
      | _, _ => s

/-- STOP_TMO (R328): threads that have not exited have their thread group reset, but for locked cores. -/
def execStopTmo (e : Fin 4096) (s : State) : Out :=
  .next <|
    match s.entry e with
    | none => s
    | some x =>
      match x.sow with
      | none => s
      | some w =>
        match w.stopAt with
        | none => s
        | some t =>
          let left := w.threads.filter fun h =>
            !w.parked.contains h && !(s.thread h).exited && !s.locked (coreOf h) && (find (coreOf h) s.clk.tg).isNone
          if s.since t < usCounts (s.f DRL_CFG.STOP_TMO 0) || left.isEmpty then s
          else
            let s := match x.frame with
              | some l => s.setOn SOW_LOOP_EVT.FORCED l true
              | none => s
            ((left.map coreOf).eraseDups.foldl (fun s n => s.tgBegin n) s).setEntry e { x with sow := some { w with forced := true } }

/-- How a sowing ended (R327, R328). -/
def Sowing.reply (w : Sowing) : Reply :=
  match w.cause with
  | none => { status := stOk, result := w.first }
  | some r => if w.forced && r.detail = 0 then { r with detail := dtForced } else r

/-! ### COPY and FILL (R333, R339) -/

/-- The largest naturally aligned power of two up to 8 bytes at an address, within a length. -/
def wrSize (addr len : Nat) : Nat :=
  if addr % 8 = 0 && 8 ≤ len then 3 else if addr % 4 = 0 && 4 ≤ len then 2 else if addr % 2 = 0 && 2 ≤ len then 1 else 0

/-- Put a piece, inside one line, at the destination of an entry. -/
def State.putPiece (s : State) (e plot dst : Nat) (b : List Byte) : State :=
  let prog := ((s.entry e).map (·.prog)).getD 0
  match opSpace dst with
  | 1 =>
    if s.detached plot then s.endWork e { status := stHostLost, result := prog }
    else (s.hostWrite plot (opAddr dst) b).pieceDone e b.length
  | _ =>
    match s.dmaWrite plot (opAddr dst) b false with
    | (.done, s) => s.pieceDone e b.length
    | (.held, s) => s.modEntry e fun x => { x with away := false }
    | (.fault, s) => s.endWork e { status := stFaulted, detail := dtAddr, result := prog }
    | (.remote p l, s) =>
      if p = s.ownPkg || !s.swMember p then s.endWork e { status := stFaulted, detail := dtAddr, result := prog }
      else
        let s := s.modEntry e fun x => { x with away := true }
        if b.length = 64 then s.swWrite64 plot p l b (.write e 64)
        else
          let z := wrSize l b.length
          s.swWrite plot p l z (leNat (b.take (2 ^ z))) (.write e (2 ^ z))

/-- COPY: the next piece, which crosses no line of its source or destination. -/
def execCopy (e : Fin 4096) (res : MemRes) (s : State) : Out :=
  s.workOn e 0x02 res fun x s =>
    let left := x.pk 24 8 - x.prog
    let s := s.setEntry e { x with begun := true }
    if left = 0 then s.endWork e { status := stOk, result := x.prog }
    else
      let src := x.pk 8 8 + x.prog
      let dst := x.pk 16 8 + x.prog
      let n := min left (min (64 - src % 64) (64 - dst % 64))
      if opSpace src = 1 then
        (if s.detached x.plot then s.endWork e { status := stHostLost, result := x.prog }
         else match s.hostRead x.plot (opAddr src) n (.copy e) with
           | some s => s.modEntry e fun y => { y with away := true }
           | none => s)
      else
        match s.dmaRead x.plot (opAddr src) n with
        | (.data b, s) => s.putPiece e x.plot dst b
        | (.held, s) => s
        | (.poison, s) => s.endWork e { status := stFaulted, detail := dtData, result := x.prog }
        | (.fault, s) => s.endWork e { status := stFaulted, detail := dtAddr, result := x.prog }
        | (.remote p l, s) =>
          if p = s.ownPkg || !s.swMember p then s.endWork e { status := stFaulted, detail := dtAddr, result := x.prog }
          else
            (s.modEntry e fun y => { y with away := true }).swRead x.plot p (l / 64 * 64) 6 (.read e (l % 64) n)

/-- FILL: the next piece. -/
def execFill (e : Fin 4096) (res : MemRes) (s : State) : Out :=
  s.workOn e 0x03 res fun x s =>
    let left := x.pk 16 8 - x.prog
    let s := s.setEntry e { x with begun := true }
    if left = 0 then s.endWork e { status := stOk, result := x.prog }
    else
      let dst := x.pk 8 8 + x.prog
      let b := (List.range (min left (64 - dst % 64))).map fun k => BitVec.ofNat 8 (x.pk (24 + (x.prog + k) % 8) 1)
      s.putPiece e x.plot dst b

/-! ### FENCE, SIGNAL, WAIT (R329, R330) -/

def execFence (e : Fin 4096) (s : State) : Out := s.work e 0x06 .ok fun _ s => s.endWork e {}

/-- COND of WAIT. -/
def waitHolds (cond v target : Nat) : Bool :=
  match cond with
  | 0 => decide (target ≤ v)
  | 1 => v = target
  | _ => v ≠ target

/-- The word of a WAIT has been read: its condition holds and the WAIT runs to its end, or it stays. -/
def State.waitWord (s : State) (e : Nat) (v : Nat) : State :=
  s.modEntry e fun x =>
    if x.opcode = 0x08 && x.state = .held && waitHolds (x.pk 24 1) v (x.pk 16 8) then
      { x with state := .running, begun := true, away := false, reply := some {} }
    else { x with away := false }

/-- Drill evaluates a WAIT at the head of its queue. -/
def State.waitEval (s : State) (e : Nat) : State :=
  match s.entry e with
  | none => s
  | some x =>
    if x.opcode ≠ 0x08 || !s.mayStart x || x.away then s
    else
      let s := s.setEntry e { x with since := some (x.since.getD s.now) }
      let a := x.pk 8 8
      if opSpace a = 1 then
        (if s.detached x.plot then s
         else match s.hostRead x.plot (opAddr a) 8 (.word e) with
           | some s => s.modEntry e fun y => { y with away := true }
           | none => s)
      else
        match s.dmaRead x.plot (opAddr a) 8 with
        | (.data b, s) => s.waitWord e (leNat b)
        | (.held, s) => s
        | (.poison, s) => s.refuse e { status := stFaulted, detail := dtData }
        | (.fault, s) => s.refuse e { status := stFaulted, detail := dtAddr }
        | (.remote p l, s) =>
          if p = s.ownPkg || !s.swMember p then s.refuse e { status := stFaulted, detail := dtAddr }
          else (s.modEntry e fun y => { y with away := true }).swRead x.plot p l 3 (.read e 0 8)

/-- What a command that ends in HELD had on its way no longer matters to it. -/
def State.forget (s : State) (e : Nat) : State :=
  let s := s.staleReads fun u => match u with
    | .content n => n = e
    | .word n => n = e
    | _ => false
  s.setReqs (s.acre.reqs.map fun r => match r.use with
    | .read n _ _ => if n = e then { r with use := .stale } else r
    | _ => r)

def execWaitCommand (e : Fin 4096) (res : MemRes) (s : State) : Out := .next (s.withRes res fun s => s.waitEval e)
def execWaitCommandPoll (e : Fin 4096) (res : MemRes) (s : State) : Out := .next (s.withRes res fun s => s.waitEval e)

/-- WAIT_COMMAND_TIMEOUT (R330). -/
def execWaitCommandTimeout (e : Fin 4096) (s : State) : Out :=
  .next <|
    match s.entry e with
    | none => s
    | some x =>
      match x.since with
      | some t =>
        if x.opcode = 0x08 && x.state = .held && x.pk 28 4 ≠ 0 && usCounts (x.pk 28 4) ≤ s.since t then
          (s.refuse e { status := stFaulted, detail := dtTimeout }).forget e
        else s
      | none => s

/-- The WAITs of a plot on a word are evaluated after a SIGNAL to it. -/
def State.waitsOn (s : State) (p a : Nat) : State :=
  (s.drill.ledger.filter fun x => x.2.opcode = 0x08 && x.2.plot = p && x.2.pk 8 8 = a).foldl (fun s x => s.waitEval x.1) s

/-- SIGNAL (R330): an atomic at the word's home; it ends once that is acknowledged. -/
def execSignal (e : Fin 4096) (res : MemRes) (s : State) : Out :=
  s.work e 0x07 res fun x s =>
    let a := x.pk 8 8
    let v := x.pk 16 8
    let add := x.pk 24 1 = 1
    if opSpace a = 1 then
      (if s.detached x.plot then s.endWork e { status := stHostLost }
       else ((s.hostWrite x.plot (opAddr a) (leBytes 8 v)).endWork e {}).waitsOn x.plot a)
    else
      match s.dmaRead x.plot (opAddr a) 8 with
      | (.remote p l, s) =>
        if p = s.ownPkg || !s.swMember p then s.endWork e { status := stFaulted, detail := dtAddr }
        else
          (s.modEntry e fun y => { y with away := true }).swAtomic x.plot p l (if add then 1 else 0) 3 v 0 (.write e 8)
      | (.held, s) => s.modEntry e fun y => { y with begun := false }
      | (.poison, s) => s.endWork e { status := stFaulted, detail := dtData }
      | (.fault, s) => s.endWork e { status := stFaulted, detail := dtAddr }
      | (.data b, s) =>
        match s.dmaWrite x.plot (opAddr a) (leBytes 8 (if add then leNat b + v else v)) true with
        | (.done, s) => (s.endWork e {}).waitsOn x.plot a
        | (_, s) => s.endWork e { status := stFaulted, detail := dtAddr }

/-! ### Till commands (R282, R304, R305) -/

/-- TILL_MODE: Drill requests the change, once the counts of R304 and the state hold as it starts; it ends when the
channel has arrived. -/
def execTillMode (e : Fin 4096) (s : State) : Out :=
  s.work e 0x09 .ok fun x s =>
    match firstFail [s.step3 x, s.step5 x] with
    | some r => s.endWork e r
    | none => s.modeReq (x.pk 8 1) (x.pk 9 1)

/-- TILL_RUN: the sequencer takes the program. -/
def execTillRun (e : Fin 4096) (s : State) : Out :=
  s.work e 0x0A .ok fun x s =>
    match firstFail [s.step5 x, if x.pk 12 4 = 0 then s.step6 x else none] with
    | some r => s.endWork e r
    | none =>
      let c := x.pk 8 1
      let image := if x.pk 12 4 = 0 then (s.seq c).image else imageWords x.content
      s.tillStart c image (x.pk 10 2) ((List.range 4).map fun k => x.pk (24 + 2 * k) 2) e

/-- The reply of a program's ending (Table 13-6). -/
def State.tillReply (s : State) (c reason : Nat) : Reply :=
  match reason with
  | 1 => { status := stOk, aux := 1 }
  | 2 => { status := stOverrun,
           aux := s.f GRN_TILL_CKPT.VALID c * 2 ^ 31 + s.f GRN_TILL_CKPT.PC c * 2 ^ 16 + s.f GRN_TILL_CKPT.TAG c,
           result := s.f GRN_TILL_CKX.X0 c + s.f GRN_TILL_CKX.X1 c * 2 ^ 16 + s.f GRN_TILL_CKX.X2 c * 2 ^ 32
             + s.f GRN_TILL_CKX.X3 c * 2 ^ 48 }
  | 3 => { status := stAborted, aux := 3 }
  | r => { status := stFaulted, detail := 0x100 + r, aux := r }

/-! ### Leases (R317, R318) -/

/-- A power-gated core wakes (R37), with both L1 caches enabled (R212). -/
def State.wakeCore (s : State) (n : Nat) : State :=
  if !(s.core n).gated then s
  else
    let s := (coreThreads n).foldl (fun s h => (s.setThread h {}).trUnsync h) s
    let s := s.setTile n (freshTile (some s.fresh) n)
    let s := ((s.setOn FUR_L1CTL.BUSY n false).setOn FUR_L1CTL.DEN n true).setOn FUR_L1CTL.IEN n true
    { s.setCore n { lease := (s.core n).lease, cycleBase := s.clk.cc64, idleAt := s.now } with fresh := s.fresh + 1 }

/-- Every group of a core closes. -/
def State.closeGroups (s : State) (n : Nat) : State :=
  let F := [FUR_GRP.OPEN, FUR_GRP.INT, FUR_GRP.POISON, FUR_GRP.ROWS, FUR_GRP.COLS, FUR_GRP.BASE, FUR_GRP.SPILL, FUR_GRP.PHASE]
  (List.range 16).foldl (fun s g => F.foldl (fun s f => s.setF f (grpInst n g) 0) s) s

/-- Step 2 of R318: nothing that one plot left in a core reaches another. -/
def State.zeroCore (s : State) (n : Nat) : State :=
  let s := s.setSeed n .zeroed
  let s := s.setTile n { frags := .zeroed, silo := .zeroed, spill := .zeroed, nextSeq := (s.tile n).nextSeq }
  let s := (coreThreads n).foldl (fun s h => s.modThread h fun t => { t with mailbox := [] }) s
  (s.setCore n { s.core n with itlb := [], dtlb := [], tlb := [] }).closeGroups n

/-- Step 3: Drill has the furrow's range engine clean and invalidate the whole cache, after an operation that runs there
(R207). -/
def State.flushFurrow (s : State) (f : Nat) : State := ((s.rangeEnds f).rangeGo f 2 true).rangeEnds f

/-- The extent that a key of Granary memory lies in, if its channel is a member. -/
def State.extentOf (s : State) (key : Nat) : Option Nat :=
  let c := key / chanSpan
  if s.f GRN_STATE.MODE c = 0 then some (normalAddr c (key % chanSpan) / 0x200000) else none

/-- Step 5: extents are zeroed, with their poison; cached copies go. -/
def State.zeroExtents (s : State) (xs : List Nat) : State :=
  let s := (s.cachedLines.filter fun l => xs.contains (l * 64 / 0x200000)).foldl (fun s l => s.discard l) s
  let gone (key : Nat) : Bool := match s.extentOf key with | some x => xs.contains x | none => false
  { s with
    granary := { s.granary with mem := s.granary.mem.filter (fun c => !gone c.1),
                                poison := s.granary.poison.filter fun c => !gone (64 * c.1) },
    caches := { s.caches with lost := s.caches.lost.filter fun c => !xs.contains (c.1 * 64 / 0x200000) } }

/-- The furrows all of whose cores a plot leases, among those of some cores. -/
def State.wholeFurrows (s : State) (p : Nat) (cores : List Nat) : List Nat :=
  ((cores.map furrowOf).eraseDups).filter fun f => (furrowCores f).all fun n => (s.core n).lease = some p

/-- LEASE (R318): the first step takes the resources and starts the withdrawals; `extents` are the free extents that
Drill chooses. The command ends when every channel is withdrawn. -/
def execLease (e : Fin 4096) (extents : List (Fin 73728)) (res : MemRes) (s : State) : Out :=
  s.workOn e 0x0B res fun x s =>
    let p := x.pk 8 2
    let cores := bitsOf 128 (x.pk 16 16)
    let chans := bitsOf 96 (x.pk 32 12)
    let xs := extents.map (·.val)
    if x.begun then
      (if chans.all fun c => s.f GRN_STATE.MODE c = 1 && s.chanMove c = .none then s.endWork e {} else s)
    else
      match firstFail [s.step3 x, s.step4 x, s.step5 x] with
      | some r => s.endWork e r
      | none =>
        if xs.length ≠ x.pk 48 8 / 0x200000 || xs.eraseDups.length ≠ xs.length ||
            xs.any (fun a => (s.extLease a).isSome) then s
        else
          let s := s.setEntry e { x with begun := true }
          let s := cores.foldl (fun s n => s.wakeCore n) s
          let s := cores.foldl (fun s n => s.setCore n { s.core n with lease := some p }) s
          let r := s.plot p
          let s := s.setPlot p { r with
            channels := r.channels ++ chans, extents := r.extents ++ xs, binder := r.binder + x.pk 11 1,
            streams := r.streams + x.pk 12 4,
            quota := if x.pk 44 2 = 0 then r.quota else some (r.quota.getD 0 + x.pk 44 2),
            rtdesc := if x.pk 56 8 = 0 then r.rtdesc else x.pk 56 8 }
          let s := cores.foldl (fun s n => s.zeroCore n) s
          let s := (s.wholeFurrows p cores).foldl (fun s f => s.flushFurrow f) s
          (chans.foldl (fun s c => s.modeReq c 1) s).zeroExtents xs

/-- A channel on its way back to its interleave set (R281, R282). -/
def State.returnChannel (s : State) (c : Nat) : State :=
  if s.chanMove c ≠ .none then s
  else if s.f GRN_STATE.MODE c = 2 then s.modeReq c 1
  else if s.f GRN_STATE.MODE c = 1 then s.modeReq c 0
  else s

/-- UNLEASE (R318), in the reverse order; `extents` are the extents that Drill takes back. -/
def execUnlease (e : Fin 4096) (extents : List (Fin 73728)) (res : MemRes) (s : State) : Out :=
  s.workOn e 0x0C res fun x s =>
    let p := x.pk 8 2
    let cores := bitsOf 128 (x.pk 16 16)
    let chans := bitsOf 96 (x.pk 32 12)
    let xs := extents.map (·.val)
    if x.begun then
      (if chans.all fun c => s.f GRN_STATE.MODE c = 0 && s.chanMove c = .none then
        let s := (s.wholeFurrows p cores).foldl (fun s f => s.flushFurrow f) s
        let s := cores.foldl (fun s n => (s.zeroCore n).setCore n { (s.zeroCore n).core n with lease := none }) s
        let r := s.plot p
        (s.setPlot p { r with channels := r.channels.filter fun c => !chans.contains c }).endWork e {}
       else chans.foldl (fun s c => s.returnChannel c) s)
    else
      match firstFail [s.step4 x, s.step5 { x with state := .held }] with
      | some r => s.endWork e r
      | none =>
        let r := s.plot p
        if xs.length ≠ x.pk 48 8 / 0x200000 || xs.eraseDups.length ≠ xs.length || !xs.all r.extents.contains then s
        else
          let s := s.setEntry e { x with begun := true }
          let s := s.zeroExtents xs
          let s := s.setPlot p { r with
            extents := r.extents.filter fun a => !xs.contains a, binder := r.binder - x.pk 11 1,
            streams := r.streams - x.pk 12 4, quota := r.quota.map fun q => q - x.pk 44 2 }
          chans.foldl (fun s c => s.returnChannel c) s

/-! ### QUERY -/

/-- The ledger entry that holds a SEQ of a plot's queue. -/
def State.seqEntry (s : State) (p q seq : Nat) : Option (Nat × Entry) :=
  s.drill.ledger.find? fun x => x.2.plot = p && x.2.queue = q && x.2.seq = seq && x.2.frame = none

/-- A SEQ that no entry holds has retired (R332). -/
def State.seqRetired (s : State) (p q seq : Nat) : Bool :=
  let d := modDiff 32 (s.f DRL_Q_HEAD.COUNT (p * 8 + q)) seq
  1 ≤ d && d < 2 ^ 31

/-- Codes of Table 14-5; a command in parse has the code of HELD. -/
def LState.code : LState → Nat
  | .parse => 1 | .held => 1 | .running => 2 | .aborting => 3 | .retiring => 4

/-- A QUERY with a given WHAT. -/
def State.query (s : State) (e what : Nat) (res : MemRes) (f : Entry → State → State) : Out :=
  s.work e 0x0E res fun x s => if x.pk 8 1 = what then f x s else s.setEntry e x

def execQueryEntryState (e : Fin 4096) (s : State) : Out :=
  s.query e 0 .ok fun x s =>
    s.endWork e { result := match s.seqEntry x.plot (x.pk 9 1) (x.pk 12 4) with
      | some y => y.2.state.code
      | none => if s.seqRetired x.plot (x.pk 9 1) (x.pk 12 4) then 6 else 5 }

/-- The layout of the lease record is not stated: its 64 bytes are free (notes/assumptions/33). -/
def execQueryLeaseRecord (e : Fin 4096) (res : MemRes) (s : State) : Out :=
  s.query e 1 res fun x s =>
    let (v, s) := s.draw
    let (ok, s) := s.putBytes x.plot (x.pk 16 8) (leBytes 64 v)
    s.endWork e (if ok then {} else { status := stFaulted, detail := dtAddr })

def execQueryLedgerCounts (e : Fin 4096) (s : State) : Out :=
  s.query e 2 .ok fun x s =>
    s.endWork e { result := s.drill.ledger.length % 2 ^ 16
      + (s.drill.ledger.filter fun y => y.2.plot = x.plot).length % 2 ^ 16 * 2 ^ 16 }

/-! ### END_REPORT (R331, R333) -/

/-- How a command's work has ended, if it has. -/
def State.ended (s : State) (e : Nat) (x : Entry) : Option Reply :=
  match x.reply with
  | some r => some r
  | none =>
    if x.state = .aborting && (x.opcode = 2 || x.opcode = 3) && !x.away then some { status := stOk, result := x.prog }
    else
      match x.opcode with
      | 0x01 => (match x.sow with | some w => if w.over s then some w.reply else none | none => none)
      | 0x02 => none
      | 0x09 =>
        if x.begun && s.chanMove (x.pk 8 1) = .none then
          some (if s.f GRN_STATE.MODE (x.pk 8 1) = x.pk 9 1 then {} else { status := stBusy })
        else none
      | 0x0A =>
        (match (s.seq (x.pk 8 1)).ended with
         | some r => if x.begun && (s.seq (x.pk 8 1)).entry = some e then some (s.tillReply (x.pk 8 1) r) else none
         | none => none)
      | _ => none

/-- The ABORTED reply of stopped work (R333). -/
def Entry.abortedReply (x : Entry) (r : Reply) : Reply :=
  match x.opcode with
  | 0x01 =>
    let w := x.sow.getD { threads := [] }
    { status := stAborted, detail := if w.forced then dtForced else 0, result := w.exited.length }
  | 0x02 => { status := stAborted, result := x.prog }
  | 0x03 => { status := stAborted, result := x.prog }
  | 0x0A => { status := stAborted, aux := r.aux % 256 }
  | 0x10 => { r with status := stAborted }
  | _ => { status := stAborted }

/-- Drill has taken the ending of entry e's till program, which is loaded no longer. -/
def State.tillTaken (s : State) (e : Nat) (x : Entry) : State :=
  let c := x.pk 8 1
  if x.opcode = 0x0A && x.begun && (s.seq c).entry = some e then s.tillUnload c else s

/-- A refusal of RECLAIM is written no sooner than 10 ms after fetch (R385). -/
def State.refusalDue (s : State) (x : Entry) : Bool :=
  !(x.opcode = 0x0F && match x.reply with | some r => r.detail = dtOwned | none => false) ||
  match x.since with | some t => decide (usCounts 10000 ≤ s.since t) | none => true

/-- The target of an ABORT has its reply (R333). -/
def State.targetDone (s : State) (x : Entry) : Bool :=
  match x.target with
  | some o => !s.drill.ledger.any fun y => y.2.order = o
  | none => true

/-- END_REPORT: the end of a command's work is taken, and its reply written (R331, R333). Frame sowings end in
Sower. -/
def State.endReport (s : State) (e : Nat) : State :=
  match s.entry e with
  | none => s
  | some x =>
    if x.frame.isSome then s
    else
      match x.state, s.ended e x with
      | .running, some r => if s.targetDone x && s.refusalDue x then (s.tillTaken e x).replyEntry e x r else s
      | .aborting, some r => (s.tillTaken e x).replyEntry e x (x.abortedReply r)
      | .retiring, some r => if s.targetDone x && s.refusalDue x then s.replyEntry e x r else s
      | _, _ => s

end Sys2Proof.Machine
end

