-- ==== Sys2Proof/Machine/Host.lean ====
section
/-! DEFINITION. The host port and Harrow streams (R362 to R390): streams, outbound reads and their ends, detachment,
rebase and RECLAIM. -/

namespace Sys2Proof.Machine

/-! ### Streams (R374 to R379) -/

/-- A stream's record. -/
def State.stream (s : State) (n : Nat) : Option Stream := find n s.host.streams

/-- A stream's record, replaced. -/
def State.setStream (s : State) (n : Nat) (x : Stream) : State :=
  { s with host := { s.host with streams := put n x s.host.streams } }

/-- The plot of a stream. -/
def State.streamPlot (s : State) (n : Nat) : Nat := s.f HRW_S_STAT.PLOT n

/-- A stream event (R378); a DETACHED function sends no MSI-X (R383). -/
def State.streamEvent (s : State) (n : Nat) : State :=
  let h := s.f HRW_S_CTL.THREAD n
  let p := s.streamPlot n
  let s := if s.on HRW_S_CTL.NOTIFY_EN n && (s.core (coreOf h)).lease = some p then s.raiseAsync h cHarrowDone else s
  if s.on HRW_S_CTL.IRQ_EN n && !s.detached p then s.notify p (s.f HRW_S_CTL.VEC n) else s

/-- The commit word, for DIR 1 also in the control block (R374, R376). -/
def State.commitWord (s : State) (n : Nat) (x : Stream) : State :=
  let p := s.streamPlot n
  let b := leBytes 4 (s.f HRW_S_COMMIT.COUNT n) ++ leBytes 4 (s.f HRW_S_ACKED.COUNT n)
  let s := (s.putBytes p x.commitAt b).2
  if s.on HRW_S_STAT.DIR n then (s.dmaWriteAll p (x.dev + x.elems * x.bytes + 8) 2 b).2 else s

/-- A flush read of a DIR 1 stream is issued while COMMIT is ahead of ACKED and none is outstanding (R376). -/
def State.flushRead (s : State) (n : Nat) : State :=
  match s.stream n with
  | none => s
  | some x =>
    let c := s.f HRW_S_COMMIT.COUNT n
    if !s.on HRW_S_STAT.DIR n || s.on HRW_S_STAT.PAUSED n || x.flush || c = s.f HRW_S_ACKED.COUNT n then s
    else match s.hostRead (s.streamPlot n) (opAddr x.host) 0 (.flush n c) with
      | some s => s.setStream n { x with flush := true }
      | none => s

/-- A STREAM_CLOSE that waits ends as soon as it may (R379). -/
def State.tryClose (s : State) (n : Nat) : State :=
  match s.stream n with
  | none => s
  | some x =>
    match x.closing with
    | none => s
    | some e =>
      if s.on HRW_S_STAT.PAUSED n then s.endWork e { status := stHostLost, result := s.f HRW_S_ACKED.COUNT n }
      else if x.off ≠ 0 || x.away || x.flush ||
          (s.on HRW_S_STAT.DIR n && s.f HRW_S_ACKED.COUNT n ≠ s.f HRW_S_COMMIT.COUNT n) then s
      else s.endWork e { status := stOk, result := s.f HRW_S_COMMIT.COUNT n }

/-- A stream pauses: the element in progress is given up. -/
def State.pauseStream (s : State) (n : Nat) (lost : Bool) : State :=
  match s.stream n with
  | none => s
  | some x =>
    let s := if lost then s.setOn HRW_S_STAT.HOST_LOST n true else s
    if s.on HRW_S_STAT.PAUSED n then s
    else
      let s := (s.setOn HRW_S_STAT.PAUSED n true).setStream n { x with off := 0, away := false }
      let s := s.staleReads fun u => match u with | .element k _ => k = n | _ => false
      (s.streamEvent n).tryClose n

/-- An element has moved (R375, R376). -/
def State.commitElement (s : State) (n : Nat) (x : Stream) : State :=
  let x := { x with off := 0, away := false }
  let s := (s.setStream n x).wrapInc HRW_S_COMMIT.COUNT n
  let s := if s.on HRW_S_STAT.DIR n then s else s.setF HRW_S_ACKED.COUNT n (s.f HRW_S_COMMIT.COUNT n)
  let s := s.commitWord n x
  let s := if s.on HRW_S_STAT.DIR n then s.flushRead n else s.streamEvent n
  s.tryClose n

/-- A 64-byte block of the element in progress has moved. -/
def State.blockMoved (s : State) (n : Nat) (x : Stream) : State :=
  let s := s.tally 0x041 n 1
  let x := { x with off := x.off + 64, away := false }
  if x.bytes ≤ x.off then s.commitElement n x else s.setStream n x

/-- Byte offset, in both rings, of the element in progress. -/
def State.elemOff (s : State) (n : Nat) (x : Stream) : Nat := s.f HRW_S_COMMIT.COUNT n % x.elems * x.bytes

/-- A DIR 0 block has come from the host. -/
def State.blockIn (s : State) (n off : Nat) (b : List Byte) : State :=
  match s.stream n with
  | none => s
  | some x =>
    if !x.away || x.off ≠ off then s
    else match s.dmaWrite (s.streamPlot n) (x.dev + s.elemOff n x + off) b false with
      | (.done, s) => s.blockMoved n x
      | (.held, s) => s.setStream n { x with away := false }
      | (_, s) => s.pauseStream n false

/-- Movers go to the input streams of armed loops, then in round robin to the others (R377). -/
def State.mayMove (s : State) (n : Nat) : Bool :=
  let ready := s.readyStreams
  let free := 64 - s.moversUsed
  let others := ready.filter fun k => !s.loopStream k
  let next := match others.find? fun k => decide (s.host.served < k) with | some k => some k | none => others.head?
  ready.contains n && 0 < free &&
  (s.loopStream n || (ready.length - others.length < free && (ready.length ≤ free || next = some n)))

/-- The next block of a stream. -/
def State.moveBlock (s : State) (n : Nat) (x : Stream) : State :=
  let p := s.streamPlot n
  let s := if x.off = 0 && !s.loopStream n then { s with host := { s.host with served := n } } else s
  if s.on HRW_S_STAT.DIR n then
    match s.dmaRead p (x.dev + s.elemOff n x + x.off) 64 with
    | (.data b, s) => (s.hostWrite p (opAddr x.host + s.elemOff n x + x.off) b).blockMoved n x
    | (.held, s) => s
    | (_, s) => s.pauseStream n false
  else
    match s.hostRead p (opAddr x.host + s.elemOff n x + x.off) 64 (.element n x.off) with
    | some s => s.setStream n { x with away := true }
    | none => s

/-- ELEMENT_COMMIT: Harrow moves the next 64-byte block of a stream's element; the last one commits it. -/
def execElementCommit (n : Fin 2048) (res : MemRes) (s : State) : Out :=
  .next <| s.withRes res fun s =>
    match s.stream n with
    | none => s
    | some x =>
      if x.away || s.on HRW_S_STAT.PAUSED n then s
      else if x.off ≠ 0 || s.mayMove n then s.moveBlock n x
      else s.flushRead n

/-- STREAM_OPEN (R374); `n` is the free context that Harrow takes. A stream of a DETACHED function opens paused
(R383). -/
def execStreamOpen (e : Fin 4096) (n : Fin 2048) (s : State) : Out :=
  s.work e 0x04 .ok fun x s =>
    match firstFail [s.step3 x, s.step4 x] with
    | some r => s.endWork e r
    | none =>
      if (s.stream n).isSome then s.setEntry e x
      else
        let y : Stream := { host := x.pk 16 8, dev := x.pk 24 8, bytes := x.pk 12 4, elems := x.pk 32 4, commitAt := x.pk 40 8 }
        let s := (s.dropStream n).setStream n y
        let s := ((s.setOn HRW_S_STAT.OPEN n true).setF HRW_S_STAT.DIR n (x.pk 8 1)).setF HRW_S_STAT.PLOT n x.plot
        let s := s.setOn HRW_S_STAT.PAUSED n (s.detached x.plot)
        (s.commitWord n y).endWork e { result := n }

/-- STREAM_CLOSE (R379). -/
def execStreamClose (e : Fin 4096) (s : State) : Out :=
  s.work e 0x05 .ok fun x s =>
    match firstFail [s.step4 x, s.step5 x] with
    | some r => s.endWork e r
    | none =>
      let n := x.pk 8 4
      match s.stream n with
      | none => s.endWork e { status := stLease, detail := dtNotLeased }
      | some y => if y.closing.isSome then s.setEntry e x else (s.setStream n { y with closing := some e }).tryClose n

/-- Software of the stream's plot, plot 0, Drill, Reeve and the TAP reach a stream page. -/
def State.streamReach (s : State) (agent : Agent) (n : Nat) : Bool :=
  s.on HRW_S_STAT.OPEN n &&
  match agent with
  | .plot p => p.val = 0 || p.val = s.streamPlot n
  | _ => true

/-- A write of HRW_S_FEED (R375, R383). -/
def State.feedWrite (s : State) (n v : Nat) : State :=
  match s.stream n with
  | none => s
  | some x =>
    if s.on HRW_S_STAT.DIR n || x.closing.isSome || s.detached (s.streamPlot n) then s
    else if x.elems < modDiff 32 v (s.f HRW_S_COMMIT.COUNT n) then s.setOn HRW_S_STAT.FEED_ERR n true
    else s.setF HRW_S_FEED.COUNT n v

def execFeed (agent : Agent) (n : Fin 2048) (v : BitVec 32) (s : State) : Out :=
  .next (if s.acts agent && s.streamReach agent n then s.feedWrite n v.toNat else s)

/-- FEED_POLL (R376). -/
def execFeedPoll (n : Fin 2048) (res : MemRes) (s : State) : Out :=
  .next <| s.withRes res fun s =>
    match s.stream n with
    | none => s
    | some x =>
      if !s.on HRW_S_STAT.DIR n || x.closing.isSome then s
      else match s.dmaReadAll (s.streamPlot n) (x.dev + x.elems * x.bytes) 2 4 with
        | (.data b, s) => s.setF HRW_S_FEED.COUNT n (leNat b)
        | (_, s) => s

/-- A flush read of a stream that is outstanding confirms nothing beyond `a`. -/
def HostRead.capFlush (r : HostRead) (n a : Nat) : HostRead :=
  match r.use with
  | .flush k _ => if k = n then { r with use := .flush n a } else r
  | _ => r

/-- The outstanding flush read of a stream, capped. -/
def State.capFlush (s : State) (n a : Nat) : State :=
  { s with host := { s.host with reads := s.host.reads.map fun r => (r.1, r.2.capFlush n a) } }

/-- HRW_S_CTL.RESUME (R386). A flush read that is still outstanding confirms nothing beyond ACKED. -/
def State.resumeStream (s : State) (n : Nat) : State :=
  match s.stream n with
  | none => s
  | some x =>
    if !s.on HRW_S_STAT.PAUSED n || s.detached (s.streamPlot n) then s
    else
      let s := s.setOn HRW_S_STAT.PAUSED n false
      if s.on HRW_S_STAT.DIR n then
        let a := s.f HRW_S_ACKED.COUNT n
        ((s.capFlush n a).setF HRW_S_COMMIT.COUNT n a).commitWord n x
      else s.setF HRW_S_FEED.COUNT n (s.f HRW_S_COMMIT.COUNT n)

def execResume (agent : Agent) (n : Fin 2048) (s : State) : Out :=
  .next (if s.acts agent && s.streamReach agent n then s.resumeStream n else s)

/-! ### Detachment (R382, R383) -/

/-- The queues of a plot. -/
def plotQueues (p : Nat) : List Nat := (List.range 8).map (8 * p + ·)

/-- The open streams of a plot pause. -/
def State.pauseStreams (s : State) (p : Nat) (lost : Bool) : State :=
  (s.openStreams p).foldl (fun s n => s.pauseStream n lost) s

/-- The cause of a detachment is shown and logged, and the plot's streams pause. -/
def State.detachCause (s : State) (p cause : Nat) (lost : Bool) : State :=
  ((s.setF HST_ATTACH.CAUSE p cause).logEvent 0x0031 noInst p cause 0 0).pauseStreams p lost

/-- A function becomes DETACHED. A rebase in progress is abandoned, and fetches on their way are discarded. One that is
DETACHED already keeps its rebases, unless the host port was reset (notes/assumptions/34). -/
def State.detach (s : State) (p cause : Nat) (lost : Bool) : State :=
  if s.detached p && cause ≠ 1 then s.detachCause p cause lost else
  let qs := (plotQueues p).filter fun q => s.on DRL_Q_CFG.EN q && s.qHost q
  let s := (s.setF HST_ATTACH.STATE p 1).setF HST_ATTACH.REBASE p (maskOfBits (qs.map (· % 8)))
  let s := (s.setOn HST_RB_CTL.BUSY p false).setFn p { s.fn p with rebasing := none }
  let s := s.staleReads fun u => match u with | .packet q _ => q / 8 = p | .tail q => q / 8 = p | _ => false
  let s := qs.foldl (fun s q => s.setQueue q { s.queue q with rebased := false, reading := false }) s
  s.detachCause p cause lost

/-- A function of the host port exists: the physical function, or an enabled virtual one (R363, R364). -/
def State.fnThere (s : State) (p : Nat) : Bool := p = 0 || (s.host.vfEnable && decide (p ≤ s.host.numVfs))

/-- The host's configuration requests reach a function: until Drill firmware runs they are answered with Configuration
Request Retry Status (R50), and in recovery the one function there is the recovery function (R66, R389). -/
def State.configReaches (s : State) (p : Nat) : Bool :=
  s.on HST_LINK.DL_UP 0 && ((s.released && s.fnThere p) || (s.recovering && p = 0))

/-- A function that carries a plot is detached; the recovery function carries none. -/
def State.detachFn (s : State) (p cause : Nat) : State := if s.released then s.detach p cause false else s

def execBusMasterDisable (p : Plot) (s : State) : Out :=
  .next (if s.configReaches p && (s.fn p).master then (s.setFn p { s.fn p with master := false }).detachFn p 3 else s)

def execD3hot (p : Plot) (s : State) : Out :=
  .next (if s.configReaches p && !(s.fn p).d3hot then (s.setFn p { s.fn p with d3hot := true }).detachFn p 4 else s)

/-- D0_RETURN (R390): the plot is intact, and the function stays DETACHED. -/
def execD0Return (p : Plot) (s : State) : Out :=
  .next (if s.configReaches p then s.setFn p { s.fn p with d3hot := false } else s)

/-- Software of the plot, plot 0, Drill, Reeve and the TAP reach a function page. -/
def pageReach (agent : Agent) (p : Nat) : Bool :=
  match agent with
  | .plot q => q.val = 0 || q.val = p
  | _ => true

def execDetach (agent : Agent) (p : Plot) (s : State) : Out :=
  .next (if s.acts agent && pageReach agent p then s.detach p 5 false else s)

/-! ### Reads toward the host and their ends (R371, Table 16-6) -/

/-- Where an aperture access of a plot goes (R372): host bus address and plot of the Requester ID. -/
def State.apertureAt (s : State) (plot w off : Nat) : Option Nat :=
  if s.on HST_APT.V w && s.f HST_APT.PLOT w = plot then some (s.f HST_APT.HBASE w * 2 ^ 30 + off) else none

/-- A flush read has completed (R376, Table 16-8). -/
def State.flushed (s : State) (n commit : Nat) : State :=
  match s.stream n with
  | none => s
  | some x =>
    let moved := decide (commit ≠ s.f HRW_S_ACKED.COUNT n)
    let s := (s.setStream n { x with flush := false }).setF HRW_S_ACKED.COUNT n commit
    let s := if moved then (s.commitWord n x).streamEvent n else s
    (s.flushRead n).tryClose n

/-- A read toward the host has brought its data. -/
def State.hostData (s : State) (r : HostRead) (b : List Byte) : State :=
  match r.use with
  | .packet q e => if s.on DRL_Q_CFG.EN q then s.takePacket q e b else s.setQueue q { s.queue q with reading := false }
  | .tail q =>
    let s := s.setQueue q { s.queue q with reading := false }
    if s.on DRL_Q_CFG.EN q then s.tailRead q b else s
  | .content e => (s.modEntry e fun x => { x with content := x.content ++ b, away := false }).readContent e 4
  | .copy e => s.putPiece e r.plot (((s.entry e).map fun x => x.pk 16 8 + x.prog).getD 0) b
  | .word e => s.waitWord e (leNat b)
  | .element n off => s.blockIn n off b
  | .flush n c => s.flushed n c
  | .load h =>
    (match (s.thread h).hold with
     | some (.load op) => if s.locked (coreOf h) then s else s.finishLoad h op b
     | _ => s)
  | .stale => s

/-- A read toward the host has failed (Table 16-6). -/
def State.hostFails (s : State) (r : HostRead) : State :=
  match r.use with
  | .packet q _ => (s.fetchLost q).detach (q / 8) 2 false
  | .tail q => (s.fetchLost q).detach (q / 8) 2 false
  | .content e => s.refuse e { status := stHostLost }
  | .copy e => s.endWork e { status := stHostLost, result := ((s.entry e).map (·.prog)).getD 0 }
  | .word e => s.refuse e { status := stHostLost }
  | .element n _ => (s.pauseStream n true).detach r.plot 2 false
  | .flush n _ =>
    let s := match s.stream n with | some x => s.setStream n { x with flush := false } | none => s
    (s.pauseStream n false).detach r.plot 2 false
  | .load h =>
    (match (s.thread h).hold with
     | some (.load op) => if s.locked (coreOf h) then s else s.fault h cLoadFault op.va
     | _ => s)
  | .stale => s

/-- A tag is free again. -/
def State.dropRead (s : State) (tag : Nat) : State := { s with host := { s.host with reads := drop tag s.host.reads } }

/-- COMPLETION (R371, Table 16-8): `data` is none for Unsupported Request, Completer Abort or poison. -/
def execCompletion (tag : Fin 1024) (data : Option (List (BitVec 8))) (res : MemRes) (s : State) : Out :=
  .next <| s.withRes res fun s =>
    match find tag.val s.host.reads, data with
    | none, _ => s.setOn HST_EVENT.UNEXP_CPL 0 true
    | some r, some b => (s.dropRead tag).hostData r (padTo r.len (b.take r.len))
    | some r, none => ((s.dropRead tag).setOn HST_EVENT.CPL_ERR 0 true).hostFails r

/-- A read times out. -/
def State.readTimesOut (s : State) (tag : Nat) : State :=
  match find tag s.host.reads with
  | none => s
  | some r => (((s.dropRead tag).setOn HST_EVENT.CPL_TMO 0 true).bump HST_TMOCNT.COUNT 0).hostFails r

def execCompletionTimeout (tag : Fin 1024) (s : State) : Out := .next (s.readTimesOut tag)

/-- FLUSH_READ_COMPLETE: the flush read of a DIR 1 stream completes. -/
def execFlushReadComplete (n : Fin 2048) (res : MemRes) (s : State) : Out :=
  .next <| s.withRes res fun s =>
    match s.host.reads.find? fun r => (match r.2.use with | .flush k _ => k = n.val | _ => false) with
    | some (tag, r) => (s.dropRead tag).hostData r []
    | none => s

/-! ### MSI-X, the link, BAR accesses -/

/-- MSI_X (R373): a vector's 1 µs interval ends; one message covers the events inside it. -/
def execMsiX (p : Plot) (vec : Fin 256) (s : State) : Out :=
  .next <|
    let k := vecKey p vec
    let v := findD {} k s.vecs
    if !v.interval then s
    else
      let s := { s with vecs := put k { v with interval := false, waiting := false } s.vecs }
      if v.waiting then s.notify p vec else s

/-- The mask bit of a vector's table entry is written: unmasking sends a pending message. -/
def State.maskVector (s : State) (p vec : Nat) (m : Bool) : State :=
  let k := vecKey p vec
  let v := findD {} k s.vecs
  if m then { s with vecs := put k { v with masked := true } s.vecs }
  else
    let s := { s with vecs := put k { v with masked := false, pba := false } s.vecs }
    if v.pba then s.notify p vec else s

/-- A function's configuration space at its reset values (Table 2-4). -/
def FnRec.configReset (r : FnRec) : FnRec := { r with master := false, msixEn := false, msixMask := false, d3hot := false }

/-- A host-port reset, beside the link (Tables 2-4 and 14-6, R364, R382): every function that carries a plot DETACHED, VF
Enable 0, the configuration space at its reset values. -/
def State.hostPortReset (s : State) : State :=
  let s := s.setOn PWR_RESET_CAUSE.HOST_PORT 0 true
  let s := if s.released then ((List.range 512).filter s.fnThere).foldl (fun s p => s.detach p 1 true) s else s
  { s with host := { s.host with vfEnable := false, numVfs := 0, fns := s.host.fns.map fun x => (x.1, x.2.configReset) },
           vecs := [] }

/-- The data link goes down (R371): every read outstanding ends as if it had timed out. -/
def State.dlDown (s : State) : State :=
  if !s.on HST_LINK.DL_UP 0 then s
  else
    let s := (((s.setOn HST_LINK.DL_UP 0 false).setOn HST_LINK.DEGRADED 0 false).setF HST_LINK.WIDTH 0 0).setF HST_LINK.RATE 0 0
    let s := ((s.setOn HST_EVENT.LINK_DOWN 0 true).bump HST_DOWNCNT.COUNT 0).log0 0x0030 (s.regAt .HST 0 0)
    ((s.host.reads.map (·.1)).foldl (fun s t => s.readTimesOut t) s).hostPortReset

def execDlDown (s : State) : Out := .next s.dlDown

/-- DL_UP (Table 16-1): the link has trained, at a width and a rate code of HST_LINK. -/
def execDlUp (width : Fin 5) (rate : Fin 6) (s : State) : Out :=
  .next <|
    if !s.live || s.clk.rootHeld || s.clk.perstLow || !s.clk.training then s
    else (((s.setOn HST_LINK.DL_UP 0 true).setF HST_LINK.WIDTH 0 (2 ^ width.val)).setF HST_LINK.RATE 0 (rate + 1)).setOn
      HST_LINK.DEGRADED 0 (decide (rate.val < 3))

/-- BAR accesses reach a function that is in D0; one in D3hot answers them with Unsupported Request (R390). -/
def State.barReaches (s : State) (p : Nat) : Bool := s.configReaches p && !(s.fn p).d3hot

/-- BAR_ACCESS_ERROR (R366): an access that is not 4 or 8 bytes at its own alignment is refused and logged. -/
def execBarAccessError (p : Plot) (off : BitVec 30) (size : Nat) (s : State) : Out :=
  .next (if !s.barReaches p || ((size = 4 || size = 8) && off.toNat % size = 0) then s
         else s.writeDropped (.plot p) off.toNat)

/-! ### Re-attach (R384, R385) -/

/-- A write of HST_RB_CTL.GO. -/
def State.rebaseGo (s : State) (p : Nat) : State :=
  let i := s.f HST_RB_SEL.INDEX p
  let base := s.f HST_RB_BASE.ADDR p * 4096
  let cr := s.f HST_RB_CRBASE.ADDR p * 4096
  let err := s.setOn HST_RB_CTL.ERR p true
  if !s.detached p || s.on HST_RB_CTL.BUSY p then err
  else if s.on HST_RB_SEL.KIND p then
    match s.stream i with
    | some x => if s.streamPlot i = p && opSpace base = 1 then s.setStream i { x with host := base } else err
    | none => err
  else
    let q := 8 * p + i
    if 8 ≤ i || !s.on DRL_Q_CFG.EN q || !s.qHost q || 2 ≤ opSpace base || 2 ≤ opSpace cr then err
    else
      let s := ((s.setF DRL_Q_BASE.ADDR q (base / 4096)).setF DRL_CR_BASE.ADDR q (cr / 4096)).setF
        DRL_Q_TAIL.COUNT q (s.f DRL_Q_HEAD.COUNT q)
      (s.setOn HST_RB_CTL.BUSY p true).setFn p { s.fn p with rebasing := some q }

def execRebase (agent : Agent) (p : Plot) (s : State) : Out :=
  .next (if s.acts agent && pageReach agent p then s.rebaseGo p else s)

/-- What Drill writes to slot k of a rebased ring: a reply that was not consumed, or zeros that read as not new. -/
def State.rebaseSlot (s : State) (q k : Nat) : List Byte :=
  let size := s.qSize q
  let head := s.f DRL_CR_HEAD.COUNT q
  let old := (List.range (s.unconsumed q)).find? fun j => (head + (2 ^ 32 - 1 - j)) % size = k
  match old, find k (s.queue q).retained with
  | some _, some b => b
  | _, _ =>
    let n := head + modDiff 32 k head % size
    List.replicate 5 0 ++ [if phaseOf (n % 2 ^ 32) size then 0 else 2] ++ List.replicate 26 0

/-- Write bytes at an address operand for a rebase, whatever the attachment. -/
def State.rebaseWrite (s : State) (p addr : Nat) (b : List Byte) : State :=
  if opSpace addr = 1 then s.hostWrite p (opAddr addr) b else (s.dmaWriteAll p (opAddr addr) 2 b).2

/-- REBASE_DONE: every slot of the new ring is written, and the queue fetches a RECLAIM. -/
def execRebaseDone (p : Plot) (s : State) : Out :=
  .next <|
    match (s.fn p).rebasing with
    | none => s
    | some q =>
      let s := (List.range (s.qSize q)).foldl (fun s k => s.rebaseWrite p (s.crBase q + 32 * k) (s.rebaseSlot q k)) s
      let s := (s.setOn HST_RB_CTL.BUSY p false).setFn p { s.fn p with rebasing := none }
      (s.setBitF HST_ATTACH.REBASE p (q % 8) false).setQueue q { s.queue q with rebased := true }

/-- A function becomes ATTACHED (Table 16-7): each queue with replies to consume is signalled. -/
def State.attach (s : State) (p : Nat) : State :=
  let s := s.setF HST_ATTACH.STATE p 0
  (plotQueues p).foldl (fun s q =>
    let s := s.setQueue q { s.queue q with rebased := false }
    if s.on DRL_Q_CFG.EN q && 0 < s.unconsumed q then s.notify p (s.f DRL_Q_CFG.VEC q) else s) s

/-- A session opens: its token is drawn from the random source and is not zero. -/
def State.openSession (s : State) (p : Nat) : Nat × State :=
  let (v, s) := s.draw
  let t := v % (2 ^ 32 - 1) + 1
  (t, (s.setFn p { s.fn p with token := some t }).setOn HST_ATTACH.SESSION p true)

/-- RECLAIM (R385, Table 16-7). -/
def execReclaim (e : Fin 4096) (s : State) : Out :=
  s.work e 0x0F .ok fun x s =>
    let p := x.plot
    let t := x.pk 8 4
    let clear := decide (s.f HST_ATTACH.REBASE p = 0)
    let owned : Reply := { status := stLease, detail := dtOwned }
    match s.detached p, (s.fn p).token with
    | false, none =>
      if t = 0 then let (k, s) := s.openSession p; s.endWork e { result := k } else s.endWork e owned
    | false, some k => s.endWork e (if t = k then { result := k } else owned)
    | true, none =>
      if t ≠ 0 then s.endWork e owned
      else if clear then let (k, s) := s.openSession p; (s.attach p).endWork e { result := k }
      else s.endWork e { status := stBusy }
    | true, some k =>
      if t ≠ k then s.endWork e owned
      else if clear then (s.attach p).endWork e { result := k }
      else s.endWork e { status := stBusy }

/-- RECLAIM_REFUSAL_REPLY (R385): the refusal is written, no sooner than 10 ms after the fetch. -/
def execReclaimRefusalReply (e : Fin 4096) (s : State) : Out :=
  .next <|
    match s.entry e with
    | some x => if x.opcode = 0x0F then s.endReport e else s
    | none => s

end Sys2Proof.Machine
end

