-- ==== Sys2Proof/Machine/Acre.lean ====
section
/-! DEFINITION. The commands of the Acre fabric (chapter 18), and Binder's rounds as they meet it (R248, R250, R432,
R436). -/

namespace Sys2Proof.Machine

/-! ### Routes (R422 to R424) -/

/-- Pending loss records of a destination that can be reached are asked about (R435). -/
def State.reportReq (s : State) (d : Nat) : State :=
  if s.reachable d && s.acre.losses.any fun l => l.dst = d then
    s.swForward none (withRoute (swHead 0x29 1 d s.ownPkg 0 (leBytes 4 (s.peer d).epoch)) (s.f SWT_DIR.DIR d) false)
  else s

/-- A package of PEERS has become unreachable: the rounds in progress that need it fail (R436). -/
def State.bndUnreach (s : State) (d : Nat) : State :=
  (List.range 64).foldl (fun s n =>
    let b := s.bndOp n
    if s.on BND_OP_CTL.V n && s.on BND_OP_ACRE.GLOBAL n && s.bitF BND_OP_PEERS.MASK n d &&
        !(b.slots.isEmpty && b.partials.isEmpty && b.threads.isEmpty) then s.bndRoundFails n 3
    else s) s

/-- Requests to be lost leave the list, then each has its outcome (R434). -/
def State.loseReqs (s : State) (gone : SwReq → Bool) : State :=
  let out := s.acre.reqs.filter gone
  out.foldl (fun s r => s.swFails r .lost) (s.setReqs (s.acre.reqs.filter fun r => !gone r))

/-- What SWT_DIRd shall hold: VALID, UNREACH and DIR. -/
def State.routeWant (s : State) (d : Nat) : Bool × Bool × Nat :=
  if d = s.ownPkg || !s.bitF SWT_MEMBERS.MASK 0 d || !s.on SWT_CFG.EN 0 then (false, false, 0)
  else match s.chooseDir d with
    | some x => (true, false, x)
    | none => (true, true, s.f SWT_DIR.DIR d)

/-- SWT_DIRd follows what the package knows, once no request to d is outstanding (R424). -/
def State.routeUpdate (s : State) (d : Nat) : State :=
  let w := s.routeWant d
  if w = (s.on SWT_DIR.VALID d, s.on SWT_DIR.UNREACH d, s.f SWT_DIR.DIR d) then
    (s.setOn SWT_DIR.PENDING d false).swPump d
  else if s.acre.reqs.any fun r => r.dst = d && r.sent.isSome then s.setOn SWT_DIR.PENDING d true
  else
    let s := (((s.setOn SWT_DIR.VALID d w.1).setOn SWT_DIR.UNREACH d w.2.1).setF SWT_DIR.DIR d w.2.2).setOn SWT_DIR.PENDING d false
    if s.reachable d then (s.swPump d).reportReq d
    else (s.loseReqs fun r => r.dst = d).bndUnreach d

/-- Every route. -/
def State.routesUpdate (s : State) : State := (List.range 64).foldl (fun s d => s.routeUpdate d) s

/-- A change that waits is tried again. -/
def State.routeRetry (s : State) (d : Nat) : State := if s.on SWT_DIR.PENDING d then s.routeUpdate d else s

/-- The route of a request uses link k of package p. -/
def State.routeUses (s : State) (p k : Nat) (r : SwReq) : Bool :=
  r.sent.isSome && (s.pathTo (s.f SWT_DIR.DIR r.dst) r.dst).any fun h =>
    (h.1 = p && h.2.1 = k) || (h.2.2 = p && (if h.2.1 % 2 = 0 then h.2.1 + 1 else h.2.1 - 1) = k)

/-- A link of the Acre is reported DOWN or UP: requests on it are lost, and the routes follow. -/
def State.linkNews (s : State) (p k : Nat) (up : Bool) : State :=
  (if up then s else s.loseReqs (s.routeUses p k)).routesUpdate

/-- An LSTATE message on every UP link. -/
def State.floodLstate (s : State) (p k st seq : Nat) : State :=
  ((List.range 6).filter fun j => s.f SWT_LSTAT.STATE j = 2).foldl (fun s j =>
    s.linkSend j 0 (swHead 0x21 1 (s.f SWT_LSTAT.PEER j) p 0 (leBytes 1 p ++ leBytes 1 k ++ leBytes 1 st ++ [0] ++ leBytes 4 seq))) s

/-- This package tells of a change of its own link (R423). -/
def State.ownLinkNews (s : State) (k : Nat) (up : Bool) : State :=
  let seq := (s.acre.lseq + 1) % 2 ^ 32
  let s := { s with acre := { s.acre with lseq := seq } }
  (s.floodLstate s.ownPkg k (if up then 2 else 0) seq).linkNews s.ownPkg k up

/-! ### Links (R418, R438) -/

/-- The dimension of a swath link has size 2 or more. -/
def State.linkUsed (s : State) (k : Nat) : Bool := 1 < s.swDims.getD (k / 2) 1

/-- SWT_CFG.EN is written (R438, R440). Clearing it takes every link DOWN, so that the requests that have no response
are lost (R434). -/
def State.fabricEn (s : State) (on : Bool) : State :=
  if !on then
    let s := (List.range 6).foldl (fun s k => (s.linkDrop k).setLinkState k 0) (s.setOn SWT_CFG.EN 0 false)
    (s.loseReqs fun _ => true).routesUpdate
  else if s.on SWT_CFG.EN 0 || s.geomBad then s
  else ((List.range 6).filter s.linkUsed).foldl (fun s k => s.setLinkState k 1) (s.setOn SWT_CFG.EN 0 true)

/-- FABRIC_ENABLE: only Reeve and plot 0 write SWT_CFG (R440). -/
def execFabricEnable (agent : Agent) (s : State) : Out :=
  .next <|
    if !s.acts agent then s else
    match agent with
    | .reeve => s.fabricEn true
    | .plot p => if p.val = 0 then s.fabricEn true else s.writeDropped agent 0x100000
    | _ => s.writeDropped agent 0x100000

/-- A swath link has trained: it carries flits, and HELLO is sent. -/
def State.swLinkUp (s : State) (k : Nat) : State :=
  if s.linkState k ≠ 1 || !s.on SWT_CFG.EN 0 then s
  else
    let l := s.link k
    let s := (s.setTxWidth k (widthFor (8 - countBits 8 l.txFailed))).setRxWidth k (widthFor (8 - countBits 8 l.rxFailed))
    let serial := Config.packageSerial
    let c := s.coords s.ownPkg
    let d := s.swDims
    let pack (x : List Nat) : Nat := x.getD 0 0 + 4 * x.getD 1 0 + 16 * x.getD 2 0
    let dst' := (s.swStep s.ownPkg (k / 2) (k % 2 = 1)).1
    s.linkSend k 0 (swHead 0x20 2 dst' s.ownPkg 0
      (leBytes 4 (s.f SWT_EPOCH.EPOCH 0) ++ leBytes 1 (pack c) ++ leBytes 1 (pack (d.map (· - 1))) ++ leBytes 1 k)
      ++ padTo 16 (leBytes 8 serial))

/-- A message of a given type at the front of a link's inbox. -/
def State.swFront (s : State) (k type : Nat) (f : List Byte → State → State) : Out :=
  .next <|
    match s.takeMsg k type with
    | none => s
    | some (m, s) => f m (s.freeUnits k (swVc m) (msgUnits m))

/-- A message for this package, or one to forward (R421); `res` is how its first access of a channel comes back. -/
def State.swMsg (s : State) (k type : Nat) (res : MemRes) (f : List Byte → State → State) : Out :=
  s.swFront k type fun m s =>
    if numAt m 2 1 = s.ownPkg then s.withRes res fun s => f m s else s.swForward (some k) m

/-- SWATH_HELLO (R438). -/
def execSwathHello (k : Fin 6) (s : State) : Out :=
  s.swFront k 0x20 fun m s =>
    let c := [numAt m 10 1 % 4, numAt m 10 1 / 4 % 4, numAt m 10 1 / 16 % 4]
    let d := [numAt m 11 1 % 4 + 1, numAt m 11 1 / 4 % 4 + 1, numAt m 11 1 / 16 % 4 + 1]
    let p := s.pkgAt c
    if d = s.swDims && p = (s.swStep s.ownPkg (k / 2) (k.val % 2 = 1)).1 &&
        numAt m 12 1 = (if k.val % 2 = 0 then k.val + 1 else k.val - 1) then
      let was := decide (s.linkState k = 2)
      let l := s.link k
      let s := ((s.setLink k { l with hello := true }).setLinkState k 2).setF SWT_LSTAT.PEER k p
      let s := s.setPeer p { s.peer p with epoch := numAt m 6 4 }
      if was then s else (s.ownLinkNews k true).pump k
    else s.setOn SWT_LSTAT.CABLE_ERR k true

/-- SWATH_LINK_DOWN (R418, R434): the link retrains. -/
def execSwathLinkDown (k : Fin 6) (s : State) : Out :=
  .next <|
    if s.linkState k = 0 then s
    else
      let was := decide (s.linkState k = 2)
      let s := ((s.linkDrop k).setOn SWT_LSTAT.LINK_DOWN k true).bump SWT_LDOWN.COUNT k
      let s := s.log1 0x0050 k (s.regAt .SWTL 0 k)
      if was then s.ownLinkNews k false else s

/-- LSTATE (R423, Table 18-7). -/
def execLstate (k : Fin 6) (s : State) : Out :=
  s.swFront k 0x21 fun m s =>
    let p := numAt m 6 1
    let j := numAt m 7 1
    let seq := numAt m 10 4
    let up := decide (numAt m 8 1 = 2)
    let known := match find (8 * p + j) s.acre.lstate with
      | some x => modDiff 32 seq x.1 = 0 || 2 ^ 31 ≤ modDiff 32 seq x.1
      | none => false
    if known || p = s.ownPkg then s
    else
      let s := { s with acre := { s.acre with lstate := put (8 * p + j) (seq, up) s.acre.lstate } }
      (s.floodLstate p j (numAt m 8 1) seq).linkNews p j up

/-! ### Requests of other packages (R427 to R430) -/

/-- An export window admits an access (R427). -/
def State.expAdmits (s : State) (src plot addr len : Nat) (write : Bool) : Bool :=
  (List.range 64).any fun w =>
    let base := s.f SWT_EXP.BASE w * 2 ^ 21
    s.on SWT_EXP.V w && base ≤ addr && addr + len ≤ base + s.f SWT_EXPLEN.GRANULES w * 2 ^ 21 &&
    s.bitF SWT_EXP_SRC.SRCMASK w src && s.f SWT_EXP.PLOT w = plot && (!write || s.on SWT_EXP.W w)

/-- Read for another package, coherently as R200 states for Harrow: bytes and poison; none: refused. Only Granary memory
and seedboxes are reached (R83). -/
def State.farRead (s : State) (addr len : Nat) : Option (List Byte × Bool) × State :=
  if 64 < addr % 64 + len then (none, s)
  else
    match s.localRegion addr with
    | .normal .. => let (d, s) := s.dmaLine (addr / 64) 2; (some (lineSlice d.1 addr len, d.2), s)
    | .seedbox m off => (some ((s.seed m).read off len, false), s)
    | _ => (none, s)

/-- Write for another package; false: refused. -/
def State.farWrite (s : State) (addr : Nat) (b : List Byte) : Bool × State :=
  let k := addr % 64
  let img := List.replicate k 0 ++ b
  if 64 < k + b.length then (false, s)
  else
    match s.localRegion addr with
    | .normal .. => (true, s.coherentWrite (addr / 64) (maskOf k b.length) img 2)
    | .seedbox m off => (true, s.setSeed m ((s.seed m).write off b))
    | _ => (false, s)

/-- An ID has been received. -/
def PeerRec.see (r : PeerRec) (id : Nat) : PeerRec :=
  let newest := if modDiff 32 id r.newest < 2 ^ 31 then id else r.newest
  { r with newest := newest, done := r.done.filter fun x => decide (modDiff 32 newest x < 4096) }

/-- An ID has been executed (R430). -/
def State.markDone (s : State) (src id : Nat) : State :=
  s.setPeer src { s.peer src with done := id :: (s.peer src).done }

/-- ACK, and ATOMR. -/
def State.swAck (s : State) (src id result : Nat) : State :=
  s.swRespond (swHead 0x27 1 src s.ownPkg 0 (leBytes 4 id ++ leBytes 1 result))
def State.swAtomr (s : State) (src id result old : Nat) : State :=
  s.swRespond (swHead 0x28 2 src s.ownPkg 0 (leBytes 4 id ++ leBytes 1 result) ++ padTo 16 (leBytes 8 old))

/-- The access of the message at the front of a link waits for its stack, in self-refresh (R286). -/
def State.swHeld (s : State) (k off : Nat) : Bool :=
  match (s.link k).inbox with
  | m :: _ =>
    let pa := numAt m off 6
    numAt m 2 1 = s.ownPkg && decide (pa < granarySpan) && s.accessHeld pa && (s.dirtyCopy (pa / 64)).isNone
  | [] => false

/-- RDREQ (R427, R428). -/
def execRdreq (k : Fin 6) (res : MemRes) (s : State) : Out :=
  if s.swHeld k 8 then .next s
  else s.swMsg k 0x22 res fun m s =>
    let src := numAt m 3 1
    let size := numAt m 14 1
    let len := if size = 6 then 64 else 2 ^ (size % 4)
    let answer (s : State) (st : Nat) (b : List Byte) : State :=
      s.swRespond (swHead 0x23 (if size = 6 then 5 else 2) src s.ownPkg 0 (leBytes 2 (numAt m 6 2) ++ leBytes 1 st)
        ++ padTo (if size = 6 then 64 else 16) b)
    if s.expAdmits src (numAt m 4 2 % 512) (numAt m 8 6) len false && (size < 4 || size = 6) then
      match s.farRead (numAt m 8 6) len with
      | (some (b, false), s) => answer s 0 b
      | (some (_, true), s) => answer s 3 []
      | (none, s) => answer s 2 []
    else answer s 2 []

/-- A write of another package, once per ID (R430). -/
def State.farStore (s : State) (m : List Byte) (b : List Byte) : State :=
  let src := numAt m 3 1
  let id := numAt m 6 4
  if (s.peer src).done.contains id then s.swAck src id 1
  else
    let s := s.setPeer src ((s.peer src).see id)
    if s.expAdmits src (numAt m 4 2 % 512) (numAt m 10 6) b.length true then
      match s.farWrite (numAt m 10 6) b with
      | (true, s) => (s.markDone src id).swAck src id 0
      | (false, s) => s.swAck src id 2
    else s.swAck src id 2

def execWr (k : Fin 6) (res : MemRes) (s : State) : Out :=
  if s.swHeld k 10 then .next s
  else s.swMsg k 0x24 res fun m s => s.farStore m ((m.drop 24).take (2 ^ (numAt m 16 1 % 4)))
def execWr64 (k : Fin 6) (res : MemRes) (s : State) : Out :=
  if s.swHeld k 10 then .next s
  else s.swMsg k 0x25 res fun m s => s.farStore m ((m.drop 16).take 64)

/-- OP of an ATOM: FN[3:0] of R121. -/
def atomOp (v : Nat) : Option AOp :=
  match v with
  | 0 => some .swap | 1 => some .add | 2 => some .and | 3 => some .or | 4 => some .xor | 5 => some .min
  | 6 => some .max | 7 => some .minu | 8 => some .maxu | 9 => some .cas | _ => none

/-- An atomic of another package. -/
def State.farAtomic (s : State) (m : List Byte) : State :=
  let src := numAt m 3 1
  let id := numAt m 6 4
  let addr := numAt m 10 6
  let wide := decide (numAt m 17 1 = 3)
  let len := if wide then 8 else 4
  if (s.peer src).done.contains id then s.swAtomr src id 1 0
  else
    let s := s.setPeer src ((s.peer src).see id)
    match atomOp (numAt m 16 1) with
    | none => s.swAtomr src id 2 0
    | some op =>
      if addr % len ≠ 0 || !s.expAdmits src (numAt m 4 2 % 512) addr len true then s.swAtomr src id 2 0
      else
        match s.farRead addr len with
        | (none, s) => s.swAtomr src id 2 0
        | (some (_, true), s) => s.swAtomr src id 3 0
        | (some (b, false), s) =>
          let a : AtomicOp := { va := 0, pa := addr, uc := false, wide := wide, op := op, gd := 0,
                                arg := BitVec.ofNat 64 (numAt m 24 8), cmp := BitVec.ofNat 64 (numAt m 32 8), rel := false, upto := 0 }
          let s := match a.result (leNat b) with
            | some v => (s.farWrite addr (leBytes len v)).2
            | none => s
          (s.markDone src id).swAtomr src id 0 (leNat b)

def execAtom (k : Fin 6) (res : MemRes) (s : State) : Out :=
  if s.swHeld k 10 then .next s else s.swMsg k 0x26 res fun m s => s.farAtomic m

/-! ### Responses (R426, R429, R434) -/

/-- A load that another package has answered. -/
def State.farLoaded (s : State) (h : Nat) (b : List Byte) : State :=
  match (s.thread h).hold with
  | some (.load op) => if s.locked (coreOf h) then s.completes h id else s.finishLoad h op (b.take ((op.parts.map (·.len)).sum))
  | _ => s

/-- An atomic ends: its old value goes to gd, unless its core has locked up meanwhile (R182). -/
def State.finishAtomic (s : State) (h : Nat) (op : AtomicOp) (old : Nat) : State :=
  s.completes h fun t => (t.writeDest (.g op.gd) (op.old old)).next

/-- An atomic that another package has answered. -/
def State.farAtomicDone (s : State) (h old : Nat) : State :=
  match (s.thread h).hold with
  | some (.atomic op) => s.finishAtomic h op old
  | _ => s

/-- A response that matches no request is discarded and counted. -/
def State.swLate (s : State) : State := s.bump SWT_LATE.COUNT 0

/-- RDRSP. -/
def execRdrsp (k : Fin 6) (res : MemRes) (s : State) : Out :=
  s.swMsg k 0x23 res fun m s =>
    let src := numAt m 3 1
    match s.swTake src (numAt m 6 2) true with
    | none => s.swLate
    | some (r, s) =>
      let b := m.drop 16
      let s := match numAt m 8 1 with
        | 0 =>
          (match r.use with
           | .load h => s.farLoaded h b
           | .read e off len =>
             (match s.entry e with
              | some x =>
                if x.opcode = 0x08 then s.waitWord e (numAt b 0 8)
                else s.putPiece e x.plot (x.pk 16 8 + x.prog) ((b.drop off).take len)
              | none => s)
           | _ => s)
        | 3 => s.swFails r .poisoned
        | _ => s.swFails r .refused
      s.routeRetry src

/-- A write or atomic has been executed: `old` is the old value of an atomic. -/
def State.swDone (s : State) (r : SwReq) (old : Nat) : State :=
  match r.use with
  | .store h _ => s.modThread h fun t => t.dropPosted (globalPa r.dst r.addr)
  | .atomic h => s.farAtomicDone h old
  | .write e n =>
    (match s.entry e with
     | some x =>
       if x.opcode = 0x07 then (s.endWork e {}).waitsOn x.plot (x.pk 8 8) else s.pieceDone e n
     | none => s)
  | .bind _ tile => s.bindArrived tile
  | _ => s

/-- ACK and ATOMR. -/
def State.swAnswer (s : State) (m : List Byte) (old : Nat) : State :=
  let src := numAt m 3 1
  match s.swTake src (numAt m 6 4) false with
  | none => s.swLate
  | some (r, s) =>
    let s := match numAt m 10 1 with
      | 2 => s.swFails r .refused
      | 3 => s.swFails r .poisoned
      | _ => s.swDone r old
    s.routeRetry src

def execAck (k : Fin 6) (s : State) : Out := s.swMsg k 0x27 .ok fun m s => s.swAnswer m 0
def execAtomr (k : Fin 6) (s : State) : Out := s.swMsg k 0x28 .ok fun m s => s.swAnswer m (numAt m 16 8)

/-- 2 ms in counts of the timestamp. -/
def swTimeout : Nat := usCounts 2000

/-- REQUEST_LOST (R434). -/
def execRequestLost (dst : Fin 64) (id : BitVec 32) (read : Bool) (s : State) : Out :=
  .next <|
    let mine (r : SwReq) : Bool := r.dst = dst.val && r.id = id.toNat && r.read = read &&
      match r.sent with | some t => decide (swTimeout ≤ s.since t) | none => false
    if s.acre.reqs.any mine then ((s.loseReqs mine).routeRetry dst).reportReq dst else s

/-- RPTREQ (R435): REPORT answers it. -/
def execRptreq (k : Fin 6) (s : State) : Out :=
  s.swMsg k 0x29 .ok fun m s =>
    let src := numAt m 3 1
    let r := s.peer src
    let base := (r.newest + 2 ^ 32 - 4095) % 2 ^ 32
    let map' := (List.range 512).map fun j => BitVec.ofNat 8 (maskOfBits ((List.range 8).filter fun i =>
      r.done.contains ((base + 8 * j + i) % 2 ^ 32)))
    s.swRespond (swHead 0x2A 33 src s.ownPkg 0 (leBytes 4 (s.f SWT_EPOCH.EPOCH 0) ++ leBytes 4 base) ++ map')

/-- How a REPORT resolves a record (R409, R435). -/
def Loss.fate (l : Loss) (m : List Byte) : Nat :=
  let d := modDiff 32 l.id (numAt m 10 4)
  if (l.epoch ≠ 0 && l.epoch ≠ numAt m 6 4) || 4096 ≤ d then 3
  else if (numAt m (16 + d / 8) 1).testBit (d % 8) then 1 else 2

/-- REPORT: each pending record of its sender is resolved. -/
def execReport (k : Fin 6) (s : State) : Out :=
  s.swMsg k 0x2A .ok fun m s =>
    let src := numAt m 3 1
    let mine := s.acre.losses.filter fun l => l.dst = src
    let s := { s with acre := { s.acre with losses := s.acre.losses.filter fun l => l.dst ≠ src } }
    let s := s.setPeer src { s.peer src with epoch := numAt m 6 4 }
    mine.foldl (fun s l =>
      let s := (s.writeNormal (s.lossAt l.slot + 13) 2 2 (leBytes 1 (l.fate m))).2
      (s.writeNormal (s.lossAt l.slot + 28) 2 2 [1]).2) s

/-! ### Binder (R248, R250, R432, R436) -/

/-- A contribution arrives whole at the home of its operation; a failure that it causes is told to the peers. -/
def State.bndContribute (s : State) (n slot : Nat) (vals : List Nat) (poison : Bool) (h : Option Nat) : State :=
  let was := s.on BND_OP_STAT.FAILED n
  let dup := (find slot (s.bndOp n).slots).isSome
  let w := s.bndWord n (if dup then 1 else 2) true
  let s := s.bndArrive n slot vals poison h
  if !was && s.on BND_OP_STAT.FAILED n then s.bndReport n w else s

/-- Cut a list into pieces of eight. -/
def eights {α : Type} : Nat → List α → List (List α)
  | 0, _ => []
  | fuel + 1, l => if l.isEmpty then [] else l.take 8 :: eights fuel (l.drop 8)

/-- Send values toward another package, eight to a message (R432). -/
def State.sendBinds (s : State) (dst n flags slot : Nat) (vals : List Nat) (tile : Option (Nat × Nat)) : State :=
  let parts := eights 512 vals
  (parts.zip (List.range parts.length)).foldl (fun s p =>
    s.swIssue dst false 0 (.bind n tile) (s.bindMsg dst n flags slot (8 * p.2) p.1)) s

/-- The totals of a TBIND's group, in the order (i, j). -/
def TileEntry.totals (e : TileEntry) (u : TileCore) : List Nat :=
  (shapeList e.ins.rows e.ins.cols).map fun p =>
    let slot := siloSlot e.base e.ins.cols p.1 p.2
    (total e.int (u.acc slot) (u.spl slot)).1

/-- The k-th entry of a tile queue has arrived. -/
def State.tbindDone (s : State) (n k : Nat) (e : TileEntry) : State := s.setEntryAt n k { e with arrived := true }

/-- SLOT_ARRIVAL (R248, R432): a TBIND's totals reach Binder, or leave toward the operation's home; BIND carries no
poison, which this package's Binder keeps for the completion word that it writes (R254; notes/assumptions/35). -/
def execSlotArrival (n : Cid) (k : Fin 16) (res : MemRes) (s : State) : Out :=
  .next <| s.withRes res fun s =>
    let u := s.tile n
    match u.queue[k.val]? with
    | none => s
    | some e =>
      if e.ins.fn ≠ .tbind || !e.dispatched || e.arrived || e.bindSent then s
      else
        let op := e.ins.v1.toNat / 4096 % 64
        let slot := e.ins.v1.toNat % 4096
        let vals := e.totals u
        if s.bndHome op then
          (s.bndContribute op slot vals (s.on FUR_GRP.POISON (grpInst n e.ins.grp)) (some e.thread)).tbindDone n k e
        else
          let b := s.bndOp op
          let bad := s.on FUR_GRP.POISON (grpInst n e.ins.grp)
          let s := s.setBnd op { b with poison := b.poison || bad, threads := if b.threads.contains e.thread then b.threads else b.threads ++ [e.thread] }
          if s.on BND_OP_STAT.FAILED op then (s.raiseAsync e.thread cBinderDone).tbindDone n k e
          else
            let tag := some (n.val, e.seq)
            ((s.setEntryAt n k { e with bindSent := true }).sendBinds (s.f BND_OP_ACRE.HOME op) op 0 slot vals tag).bindArrived tag

/-- Both result doublewords are written: the round is complete here and at every participant, and the next begins (R250, R432). -/
def State.bndAgreed (s : State) (op : Nat) (vals : List Nat) (w : Nat) : State :=
  let s := s.bndDone op
  let s := if s.on BND_OP_ACRE.GLOBAL op then
      (s.bndPeers op).foldl (fun s d =>
        (s.sendBinds d op 1 0 vals none).swIssue d false 0 (.bind op none) (s.bdoneMsg d op w)) s
    else s
  if s.on BND_OP_STAT.FAILED op then s else s.bndNext op

/-- BINDER_ROUND_COMPLETE (R250, R432). -/
def execBinderRoundComplete (op : Fin 64) (res : MemRes) (s : State) : Out :=
  .next <| s.withRes res fun s =>
    if s.on BND_OP_STAT.FAILED op || !s.bndHome op then s
    else
      match s.bndValue op with
      | none => s
      | some vals =>
        match s.bndWrite (s.bndResult op) (vals.flatMap (leBytes 8)) with
        | (false, s) => s.bndRoundFails op 2
        | (true, s) =>
          let w := s.bndWord op 0 false
          match s.bndWrite (s.bndResult op + 8 * s.bndElems op) (leBytes 8 w) with
          | (false, s) => s.bndRoundFails op 2
          | (true, s) => s.bndAgreed op vals w

/-- A BIND with contributions arrives at the home: its elements are kept until the slot is whole. -/
def State.bindIn (s : State) (n slot first : Nat) (vals : List Nat) : State :=
  let b := s.bndOp n
  let e := s.bndElems n
  let b := { b with partials := ((List.range (min 8 (e - first))).foldl
    (fun m i => put (slot * 4096 + first + i) (vals.getD i 0) m) b.partials) }
  let got := b.partials.filter fun x => x.1 / 4096 = slot
  if e ≤ got.length then
    (s.setBnd n { b with partials := b.partials.filter fun x => x.1 / 4096 ≠ slot }).bndContribute n slot
      (got.map (·.2)) false none
  else s.setBnd n b

/-- BIND (R432, R436). -/
def execBind (k : Fin 6) (res : MemRes) (s : State) : Out :=
  s.swMsg k 0x2B res fun m s =>
    let src := numAt m 3 1
    let id := numAt m 6 4
    let n := numAt m 10 1
    let flags := numAt m 11 1
    let slot := numAt m 12 2
    let first := numAt m 14 2
    let vals := (List.range 8).map fun i => numAt m (16 + 8 * i) 8
    let s := s.setPeer src ((s.peer src).see id)
    let global := decide (n < 64) && s.on BND_OP_CTL.V n && s.on BND_OP_ACRE.GLOBAL n
    if flags.testBit 0 then
      if !global || s.bndElems n ≤ first then s.swAck src id 2
      else
        let b := (vals.take (s.bndElems n - first)).flatMap (leBytes 8)
        let (ok, s) := if s.on BND_OP_STAT.FAILED n then (true, s) else s.bndWrite (s.bndResult n + 8 * first) b
        ((if ok then s else s.bndRoundFails n 2).markDone src id).swAck src id 0
    else if flags.testBit 1 then
      ((if global then s.bndRoundFails n 3 else s).markDone src id).swAck src id 0
    else if !global || s.f BND_OP_ACRE.HOME n ≠ s.ownPkg || s.bndSlots n ≤ slot || s.bndElems n ≤ first then
      (if decide (n < 64) && s.on BND_OP_CTL.V n then s.bndRoundFails n 4 else s).swAck src id 2
    else
      ((if s.on BND_OP_STAT.FAILED n then s else s.bindIn n slot first vals).markDone src id).swAck src id 0

/-- BDONE (R432, R436): the completion word of the round. -/
def execBdone (k : Fin 6) (res : MemRes) (s : State) : Out :=
  s.swMsg k 0x2C res fun m s =>
    let src := numAt m 3 1
    let id := numAt m 6 4
    let n := numAt m 10 1
    let w := if (s.bndOp n).poison then (BitVec.ofNat 64 (numAt m 16 8) ||| BitVec.ofNat 64 (2 ^ 62)).toNat else numAt m 16 8
    let s := s.setPeer src ((s.peer src).see id)
    if 64 ≤ n || !s.on BND_OP_CTL.V n || !s.on BND_OP_ACRE.GLOBAL n then s.swAck src id 2
    else
      let s := (s.markDone src id).swAck src id 0
      if s.on BND_OP_STAT.FAILED n then s
      else
        match s.bndWrite (s.bndResult n + 8 * s.bndElems n) (leBytes 8 w) with
        | (false, s) => s.bndRoundFails n 2
        | (true, s) =>
          let s := s.bndDone n
          if w.testBit 63 then (s.setOn BND_OP_STAT.FAILED n true).bndStat n else s.bndNext n

end Sys2Proof.Machine
end

