-- ==== Sys2Proof/Machine/Params.lean ====
section
/-! DEFINITION. The flash bytes, and the Headland parameter region in it: the copies, their headers and the body's typed
records (R448, R449, R482, R506, R526). -/

namespace Sys2Proof.Machine

/-! ### Flash -/

/-- A byte of the flash device; what nothing has written is erased (notes/assumptions/37). -/
def flashErased : Byte := 0xFF

/-- Bytes of the flash. -/
def State.flashRead (s : State) (a : Nat) : Nat → List Byte
  | 0 => []
  | n + 1 => findD flashErased a s.boot.flash :: s.flashRead (a + 1) n

/-- Flash cells with bytes put into them. -/
def flashPut (m : List Host.Cell) (a : Nat) : List Byte → List Host.Cell
  | [] => m
  | b :: r => flashPut (putD flashErased a b m) (a + 1) r

/-- The flash with bytes put into it. -/
def State.flashWrite (s : State) (a : Nat) (bytes : List Byte) : State :=
  { s with boot := { s.boot with flash := flashPut s.boot.flash a bytes } }

/-- Where a copy of the parameter set begins (Tables 3-2 and 19-3). -/
def copyAt (c : Nat) : Nat := 0x40000 + c * 0x20000

/-! ### Fields of a record -/

/-- `n` bytes from byte `i` of a record, as a number. -/
def fieldAt (d : List Byte) (i n : Nat) : Nat := leNat ((d.drop i).take n)

/-- A signed 32-bit field. -/
def intAt (d : List Byte) (i : Nat) : Int :=
  let v := fieldAt d i 4
  if v < 2 ^ 31 then v else (v : Int) - 2 ^ 32

/-- Bytes that must be zero. -/
def zeroAt (d : List Byte) (i n : Nat) : Bool := ((d.drop i).take n).all (· == 0)

/-- A value lies in a closed range. -/
def within' (v lo hi : Nat) : Bool := decide (lo ≤ v) && decide (v ≤ hi)

/-- A number or 0xFF for none. -/
def optAt (d : List Byte) (i : Nat) : Option Nat := if fieldAt d i 1 = 0xFF then none else some (fieldAt d i 1)

/-- An optional number within a bound. -/
def optUpTo (o : Option Nat) (hi : Nat) : Bool :=
  match o with
  | none => true
  | some v => decide (v ≤ hi)

/-- A test that must hold. -/
def guard' {α : Type} (ok : Bool) (v : α) : Option α := if ok then some v else none

/-- The records of a body (R449): type and data, each record at a 4-byte boundary. -/
def recordsOf : Nat → List Byte → Option (List (Nat × List Byte))
  | 0, b => if b.isEmpty then some [] else none
  | fuel + 1, b =>
    if b.isEmpty then some []
    else
      let n := fieldAt b 2 2
      if b.length < 4 + n then none
      else (recordsOf fuel (b.drop (4 + (n + 3) / 4 * 4))).map fun r => (fieldAt b 0 2, (b.drop 4).take n) :: r

/-! ### The typed records -/

/-- The island record (Table 19-4). -/
def islandRec (d : List Byte) : Option IslandRec :=
  guard' (d.length = 32 && decide (fieldAt d 0 2 < 4096) && decide (fieldAt d 2 1 ≤ 15) && decide (fieldAt d 3 1 ≤ 8) &&
      within' (fieldAt d 4 4) 4166667 1000000000 && within' (fieldAt d 8 2) 1 20 && within' (fieldAt d 10 2) 1 600 &&
      decide (fieldAt d 12 1 < 4) && decide (fieldAt d 13 1 ≤ 2) &&
      [14, 15, 16, 17].all (fun i => optUpTo (optAt d i) 15) && zeroAt d 18 14)
    { expectSeal := fieldAt d 0 2, safeLoop := fieldAt d 2 1, missTol := fieldAt d 3 1, framePeriod := fieldAt d 4 4,
      grace := fieldAt d 8 2, degradeTime := fieldAt d 10 2, single := (fieldAt d 12 1).testBit 0,
      lockupReact := (fieldAt d 12 1).testBit 1, lossStop := fieldAt d 13 1,
      degradeSls := [fieldAt d 14 1, fieldAt d 15 1, fieldAt d 16 1, fieldAt d 17 1] }

/-- OUT_MASK, AXIS_MASK and STOP from byte `i` on (Table 20-2). -/
def stopMap (d : List Byte) (i : Nat) : Option StopMap :=
  guard' (decide (fieldAt d i 1 ≤ 15) && decide (fieldAt d (i + 1) 1 ≤ 15) &&
      (decide (fieldAt d (i + 2) 1 ≤ 3) || fieldAt d (i + 2) 1 = 0xFF) && zeroAt d (i + 3) 1)
    { outMask := fieldAt d i 1, axisMask := fieldAt d (i + 1) 1, stop := fieldAt d (i + 2) 1 }

/-- Type 0x0002 (Table 20-2). -/
def inputRec (d : List Byte) : Option (Nat × InputRec) := do
  let m ← stopMap d 4
  guard' (d.length = 8 && decide (fieldAt d 0 1 ≤ 7) && decide (fieldAt d 1 1 ≤ 2) && within' (fieldAt d 2 2) 4 1000)
    (fieldAt d 0 1, { mode := fieldAt d 1 1, discTime := fieldAt d 2 2, map := m })

/-- Type 0x0003 (Table 20-2). -/
def outputRec (d : List Byte) : Option (Nat × OutputRec) :=
  guard' (d.length = 12 && decide (fieldAt d 0 1 ≤ 3) && decide (fieldAt d 1 1 < 4) && optUpTo (optAt d 2) 3 &&
      zeroAt d 3 1 && within' (fieldAt d 4 2) 20 1000 && zeroAt d 6 6)
    (fieldAt d 0 1, { used := (fieldAt d 1 1).testBit 0, restart := (fieldAt d 1 1).testBit 1, cfb := optAt d 2,
                      cfTime := fieldAt d 4 2 })

/-- Type 0x0004 (Table 20-2): OP_PERIOD and OP_WIDTH. -/
def testRec (d : List Byte) : Option (Nat × Nat) :=
  guard' (d.length = 8 && within' (fieldAt d 0 2) 20 1000 && within' (fieldAt d 2 2) 100 1000 && zeroAt d 4 4)
    (fieldAt d 0 2, fieldAt d 2 2)

/-- The ranges of an axis record (Table 21-7). -/
def axisRanges (d : List Byte) : Bool :=
  d.length = 52 && decide (fieldAt d 0 1 ≤ 3) && decide (fieldAt d 1 1 < 32) &&
  (if (fieldAt d 1 1).testBit 1 then within' (fieldAt d 2 2) 1 65535 else fieldAt d 2 2 = 0) &&
  within' (fieldAt d 8 1) 1 32 && decide (fieldAt d 9 1 ≤ 1) && decide (1 ≤ fieldAt d 10 2) && decide (1 ≤ fieldAt d 12 2) &&
  decide (1 ≤ fieldAt d 14 2) && decide (1 ≤ fieldAt d 16 2) && within' (fieldAt d 18 4) 1 10000000 &&
  decide (1 ≤ fieldAt d 22 2) && within' (fieldAt d 24 1) 5 50 && zeroAt d 25 1 && within' (fieldAt d 26 2) 50 10000 &&
  within' (fieldAt d 28 2) 1 10000 && within' (fieldAt d 30 2) 1 10000 && decide (1 ≤ fieldAt d 32 2) &&
  decide (1 ≤ fieldAt d 38 2) && decide (fieldAt d 42 2 ≤ 5000) && within' (fieldAt d 44 2) 10 60000 &&
  within' (fieldAt d 46 2) 10 60000 && optUpTo (optAt d 48) 15 && optUpTo (optAt d 49) 15 && optUpTo (optAt d 50) 15 &&
  zeroAt d 51 1

/-- Type 0x0005 (Table 21-7). -/
def axisRec (d : List Byte) : Option (Nat × AxisRec) :=
  let fl := fieldAt d 1 1
  guard' (axisRanges d)
    (fieldAt d 0 1,
     { used := fl.testBit 0, encoder := fl.testBit 1, restart := fl.testBit 2, global := fl.testBit 3,
       invert := fl.testBit 4, lines := fieldAt d 2 2, refPos := intAt d 4, poles := fieldAt d 8 1,
       faultStop := fieldAt d 9 1, rs := fieldAt d 10 2, ls := fieldAt d 12 2, iscale := fieldAt d 14 2,
       vscale := fieldAt d 16 2, psi := fieldAt d 18 4, resMax := fieldAt d 22 2, emfTol := fieldAt d 24 1,
       obsMin := fieldAt d 26 2, xchk := fieldAt d 28 2, sstill := fieldAt d 30 2, sosWin := fieldAt d 32 2,
       ssmLimit := fieldAt d 34 2, ssmHyst := fieldAt d 36 2, decel := fieldAt d 38 2, rampTol := fieldAt d 40 2,
       ssDelay := fieldAt d 42 2, tSs := fieldAt d 44 2, tBlind := fieldAt d 46 2, defSls := optAt d 48,
       defSlp := optAt d 49, defSdi := optAt d 50 })

/-- The part of a limit entry that depends on its KIND (Table 21-7). -/
def limitKind (d : List Byte) : Option LimitKind :=
  match fieldAt d 1 1 with
  | 1 => guard' (decide (1 ≤ fieldAt d 4 2) && decide (fieldAt d 6 2 ≤ 10000) && zeroAt d 8 8)
      (.sls (fieldAt d 4 2) (fieldAt d 6 2))
  | 2 => guard' (decide (intAt d 4 < intAt d 8) && zeroAt d 14 2) (.slp (intAt d 4) (intAt d 8) (fieldAt d 12 2))
  | 3 => guard' (within' (fieldAt d 4 1) 1 2 && zeroAt d 5 1 && zeroAt d 8 8)
      (.sdi (fieldAt d 4 1 = 1) (fieldAt d 6 2))
  | _ => none

/-- Type 0x0006 (Table 21-7). -/
def limitRec (d : List Byte) : Option LimitRec := do
  let k ← limitKind d
  guard' (d.length = 16 && decide (fieldAt d 0 1 ≤ 3) && decide (fieldAt d 2 1 ≤ 15) && decide (fieldAt d 3 1 ≤ 2))
    { axis := fieldAt d 0 1, index := fieldAt d 2 1, react := fieldAt d 3 1, kind := k }

/-- A unicast MAC address. -/
def unicast (m : List Byte) : Bool := (m.getD 0 1).toNat % 2 = 0

/-- Type 0x0007 (Table 22-5a). -/
def connRec (d : List Byte) : Option (Nat × ConnRec) := do
  let bits ← (List.range 8).mapM fun b => stopMap d (24 + 4 * b)
  let fl := fieldAt d 1 1
  let ports := (if fl.testBit 1 then [0] else []) ++ (if fl.testBit 2 then [1] else [])
  let period := fieldAt d 12 4
  let least := (2 * period + 999) / 1000
  let c : ConnRec :=
    { used := fl.testBit 0, ports := ports, essential := fl.testBit 3, ackReq := fl.testBit 4, peer := fieldAt d 2 1,
      pcp := optAt d 3, mac := (d.drop 4).take 6, vid := fieldAt d 10 2, period := period, wdog := fieldAt d 16 2,
      texp := fieldAt d 18 2, cchk := fieldAt d 20 4, bits := bits, retry := fieldAt d 56 2 }
  guard' (d.length = 64 && decide (fieldAt d 0 1 ≤ 3) && decide (fl < 32) && (!fl.testBit 0 || !ports.isEmpty) &&
      within' c.peer 1 0xFE && optUpTo c.pcp 7 && unicast c.mac &&
      (if c.pcp.isNone then c.vid = 0 else within' c.vid 1 4094) && within' period 1000 100000 &&
      within' c.wdog (max 2 least) 1000 && within' c.texp (max 2 least) 1000 && decide (c.cchk ≠ 0) &&
      within' c.retry 100 10000 && zeroAt d 58 6)
    (fieldAt d 0 1, c)

/-- Type 0x0008 (Table 22-5a). -/
def portRec (d : List Byte) : Option (Nat × PortRec) :=
  guard' (d.length = 16 && decide (fieldAt d 0 1 ≤ 1) && decide (fieldAt d 1 1 < 2) && zeroAt d 2 2 &&
      unicast ((d.drop 4).take 6) && zeroAt d 10 6)
    (fieldAt d 0 1, { used := (fieldAt d 1 1).testBit 0, mac := (d.drop 4).take 6 })

/-! ### The body -/

/-- A number kept once only. -/
def addOnce {α : Type} (m : List (Nat × α)) (r : Option (Nat × α)) : Option (List (Nat × α)) :=
  match r with
  | none => none
  | some x => if (find x.1 m).isSome then none else some (put x.1 x.2 m)

/-- What KIND a limit entry has: 1 SLS, 2 SLP, 3 SDI. -/
def LimitKind.code : LimitKind → Nat
  | .sls .. => 1
  | .slp .. => 2
  | .sdi .. => 3

/-- The entry of an axis, kind and index. -/
def Params.limit? (p : Params) (n kind index : Nat) : Option LimitRec :=
  p.limits.find? fun l => l.axis == n && l.kind.code == kind && l.index == index

/-- Add one record of a body; `seen` says whether the test record has been read. -/
def addRecord (acc : Option (Params × Bool)) (r : Nat × List Byte) : Option (Params × Bool) := do
  let (p, seen) ← acc
  match r.1 with
  | 0x0001 => some (p, seen)
  | 0x0002 => do let m ← addOnce p.inputs (inputRec r.2); some ({ p with inputs := m }, seen)
  | 0x0003 => do let m ← addOnce p.outputs (outputRec r.2); some ({ p with outputs := m }, seen)
  | 0x0004 =>
    if seen then none
    else do let v ← testRec r.2; some ({ p with opPeriod := v.1, opWidth := v.2 }, true)
  | 0x0005 => do let m ← addOnce p.axes (axisRec r.2); some ({ p with axes := m }, seen)
  | 0x0006 => do
    let l ← limitRec r.2
    if (p.limit? l.axis l.kind.code l.index).isSome then none else some ({ p with limits := p.limits ++ [l] }, seen)
  | 0x0007 => do let m ← addOnce p.conns (connRec r.2); some ({ p with conns := m }, seen)
  | 0x0008 => do let m ← addOnce p.ports (portRec r.2); some ({ p with ports := m }, seen)
  | _ => none

/-- An axis that has an encoder. -/
def Params.encoder (p : Params) (n : Nat) : Bool := (find n p.axes).any (·.encoder)

/-- SS2 and SOS need an encoder on every axis that the map names (R506, R526). -/
def Params.mapOk (p : Params) (m : StopMap) : Bool :=
  !(m.stop = 2 || m.stop = 3) || (List.range 4).all fun n => !m.axisMask.testBit n || p.encoder n

/-- A default of an axis names an entry that exists; SLP and SDI need the encoder (R506). -/
def Params.defaultsOk (p : Params) (n : Nat) (a : AxisRec) : Bool :=
  let ok (kind : Nat) (o : Option Nat) : Bool := o.all fun i => (p.limit? n kind i).isSome
  ok 1 a.defSls && ok 2 a.defSlp && ok 3 a.defSdi && (a.encoder || (a.defSlp.isNone && a.defSdi.isNone))

/-- A limit entry fits its axis (R506). -/
def Params.limitOk (p : Params) (l : LimitRec) : Bool :=
  match l.kind with
  | .sls lim _ => p.encoder l.axis || (find l.axis p.axes).all fun a => decide (a.obsMin ≤ lim)
  | _ => p.encoder l.axis

/-- No CFB input is named twice (R482). -/
def cfbOnce (p : Params) : Bool :=
  let l := p.outputs.filterMap fun c => c.2.cfb
  l.length = l.eraseDups.length

/-- A USED connection names USED ports, and a peer that is not the own address expected (R526). -/
def Params.connOk (p : Params) (c : ConnRec) : Bool :=
  (!c.used || c.ports.all fun n => (find n p.ports).any (·.used)) && decide (c.peer ≠ p.island.expectSeal % 256) &&
  c.bits.all p.mapOk

/-- A body, read; none where it is invalid. -/
def parseBody (b : List Byte) : Option Params := do
  let rs ← recordsOf b.length b
  match rs.filter (fun r => r.1 == 1) with
  | [x] => do
    let i ← islandRec x.2
    let (p, _) ← rs.foldl addRecord (some ({ island := i }, false))
    guard' (cfbOnce p && p.inputs.all (fun c => p.mapOk c.2.map) && p.axes.all (fun c => p.defaultsOk c.1 c.2) &&
      p.limits.all p.limitOk && p.conns.all (fun c => p.connOk c.2)) p
  | _ => none

/-! ### Copies (Table 19-3) -/

/-- The fixed value of a copy's MAGIC. -/
def copyMagic : Nat := 0x4B485031

/-- The longest and shortest body. -/
def bodyMax : Nat := 130816
def bodyMin : Nat := 16

/-- The header of a copy, with its HCRC, padded to the body. -/
def copyBytes (seq pcrc confC : Nat) (valid bind : Bool) (ids : List Nat) (body : List Byte) : List Byte :=
  let h := leBytes 4 copyMagic ++ leBytes 4 seq ++ leBytes 4 body.length ++ leBytes 4 pcrc ++ leBytes 4 confC ++
    leBytes 1 ((if valid then 1 else 0) + (if bind then 2 else 0)) ++ [0] ++ ids.flatMap (leBytes 2) ++
    List.replicate 30 0
  h ++ leBytes 4 (crc32c h) ++ List.replicate 192 flashErased ++ body

/-- A copy of the flash: its header and body where its MAGIC, HCRC and PCRC are correct. -/
def State.copyBody (s : State) (c : Nat) : Option (List Byte × List Byte) :=
  let h := s.flashRead (copyAt c) 64
  let n := fieldAt h 8 4
  if fieldAt h 0 4 = copyMagic && fieldAt h 60 4 = crc32c (h.take 60) && within' n bodyMin bodyMax then
    let b := s.flashRead (copyAt c + 0x100) n
    if crc32c b = fieldAt h 12 4 then some (h, b) else none
  else none

/-- A copy, read; none where it is not valid or its body is invalid. -/
def State.readCopy (s : State) (c : Nat) : Option ParamSet := do
  let (h, b) ← s.copyBody c
  let p ← parseBody b
  some { copy := c, seq := fieldAt h 4 4, pcrc := fieldAt h 12 4, confC := fieldAt h 16 4,
         valid := (fieldAt h 20 1).testBit 0, bind := (fieldAt h 20 1).testBit 1,
         ids := [fieldAt h 22 2, fieldAt h 24 2, fieldAt h 26 2, fieldAt h 28 2], params := p }

/-- The set that the island uses (R448): of the valid copies, the one with the higher SEQ modulo 2^32. -/
def State.readParams (s : State) : Option ParamSet :=
  match s.copyBody 0, s.copyBody 1 with
  | none, none => none
  | some _, none => s.readCopy 0
  | none, some _ => s.readCopy 1
  | some a, some b =>
    if modDiff 32 (fieldAt b.1 4 4) (fieldAt a.1 4 4) < 2 ^ 31 && fieldAt b.1 4 4 ≠ fieldAt a.1 4 4 then s.readCopy 1
    else s.readCopy 0

end Sys2Proof.Machine
end

