-- ==== Sys2Proof/Machine/IslandBase.lean ====
section
/-! DEFINITION. The safety island's shared operations: its states, time, causes and events, the check value and its
confirmation (R445, R451, R470), and what a reset of the island leaves (R39, R470). -/

namespace Sys2Proof.Machine

/-! ### States (Table 19-2) -/

def hsMonitor : Nat := 0
def hsStartup : Nat := 1
def hsUnconfirmed : Nat := 2
def hsStopped : Nat := 3
def hsOperational : Nat := 4
def hsFault : Nat := 5
def hsFail : Nat := 6
def hsNoMachine : Nat := 7

/-- The island's state. -/
def State.hs (s : State) : Nat := s.f HDL_STATE.HS 0

/-- The state, entered. -/
def State.setHs (s : State) (v : Nat) : State := s.setF HDL_STATE.HS 0 v

/-- The states in which the input, output, axis, veto and Hitch functions run (R469, R488, R530). -/
def State.functional (s : State) : Bool := within' s.hs hsUnconfirmed hsFault

/-- The island replaced. -/
def State.mapIsl (s : State) (f : Island → Island) : State := { s with isl := f s.isl }

/-- The island's time, in ns. -/
def State.islTime (s : State) : Nat := s.isl.t

/-- When the current safety cycle started. -/
def State.cycleTime (s : State) : Nat := s.f HDL_CYCLE.COUNT 0 * 1000000

/-- The parameters in force. -/
def State.params? (s : State) : Option Params := s.isl.set.map (·.params)

/-- The island record in force. -/
def State.irec? (s : State) : Option IslandRec := s.params?.map (·.island)

/-- 2 × FRAME_PERIOD and some ns more: the limits of R454, R457 and R461. -/
def IslandRec.frames2 (r : IslandRec) (more : Nat) : Nat := 2 * r.framePeriod + more

/-- A sticky event (HDL_EVT). -/
def State.islEvent (s : State) (k : Nat) : State := s.setBitF HDL_EVT.EVT 0 k true

/-- The island holds authority. -/
def State.auth (s : State) : Bool := s.on HDL_STATE.AUTH 0

/-- Authority, taken or given up: a change is counted. -/
def State.setAuth (s : State) (b : Bool) : State :=
  if s.auth = b then s else (s.setOn HDL_STATE.AUTH 0 b).bump HDL_HANDOVER.COUNT 0

/-- This island belongs to the lead. -/
def State.isLead (s : State) : Bool := s.on YK_STATUS.LEAD 0

/-- A twin record counts as fresh (R454). -/
def State.freshTwin (s : State) : Option TwinRec :=
  match s.isl.twin, s.irec? with
  | some w, some r => if s.islTime - w.at' < r.frames2 1000000 then some w else none
  | _, _ => none

/-! ### The check value (R451) -/

/-- C over a binding block. -/
def checkValue (pcrc : Nat) (bind : Bool) (ids : List Nat) : Nat :=
  let ids' := if bind then ids else ids.take 1 ++ [0, 0, 0]
  crc32c (leBytes 4 pcrc ++ leBytes 1 (if bind then 1 else 0) ++ [0] ++ ids'.flatMap (leBytes 2) ++ [0, 0])

/-- C as currently computed, where there is a set. -/
def State.checkNow (s : State) : Option Nat :=
  s.isl.set.map fun p => checkValue p.pcrc s.isl.untested s.isl.ids

/-- The set's seal setting is that of the latched seals. -/
def State.sealsMatch (s : State) : Bool := s.irec?.any fun r => r.expectSeal = s.f HDL_SEAL.LATCHED 0

/-- The stored confirmation but for its last condition: VALID, made of the stored PCRC, and with the running safety
image. -/
def State.confStored (s : State) : Bool :=
  match s.isl.set with
  | none => false
  | some p => p.valid && decide (p.confC = checkValue p.pcrc p.bind p.ids) && decide (p.ids.head? = s.isl.ids.head?)

/-- The last condition of R451. -/
def State.confBound (s : State) : Bool :=
  match s.isl.set with
  | none => false
  | some p => !s.isl.untested || (p.bind && decide (p.ids = s.isl.ids))

/-- The stored confirmation is valid. -/
def State.confValid (s : State) : Bool := s.confStored && s.confBound

/-- The confirmation fails only its last condition. -/
def State.confRebind (s : State) : Bool := s.confStored && !s.confBound

/-- The registers that show the set: PCRC, C, CONF_C, REBIND. -/
def State.showSet (s : State) : State :=
  match s.isl.set with
  | none => ((s.setF HDL_PCRC.PCRC 0 0).setF HDL_CHECK.C 0 0).setF HDL_CONF.CONF_C 0 0 |>.setOn HDL_STATE.REBIND 0 false
  | some p => ((s.setF HDL_PCRC.PCRC 0 p.pcrc).setF HDL_CHECK.C 0 (s.checkNow.getD 0)).setF HDL_CONF.CONF_C 0 p.confC
      |>.setOn HDL_STATE.REBIND 0 s.confRebind

/-! ### Causes (Table 19-9, HDL_CAUSE) -/

/-- Bits of HDL_CAUSE. -/
def causeBit (k : Nat) (b : Bool) : Nat := if b then 2 ^ k else 0

/-- The rails whose fault is LOCAL_LOST, and VDD_IO33 (R461, Table 19-9), numbered as PWR_RAIL_STATUS. -/
def railIo33 : Nat := 6

/-- A rail is in fault: twenty samples in a row outside its range (R35). -/
def State.railFault (s : State) (r : Nat) : Bool := 20 ≤ findD 0 r s.isl.railBad

/-- A latched fault of an output or of an enable channel, or of contactor feedback (R480, R481). -/
def State.ioFault (s : State) : Bool :=
  s.isl.chans.any (fun c => c.2.stuck || c.2.drive) || s.isl.outputs.any (fun c => c.2.weld || c.2.pullin)

/-- A latched fault of an axis (Table 21-6). -/
def AxisFaults.any (f : AxisFaults) : Bool :=
  f.encoder || f.lost || f.disagree || f.ramp || f.standstill || f.limit.isSome

/-- An axis whose record sets GLOBAL has a latched fault (R508). -/
def State.globalFault (s : State) : Bool :=
  s.isl.axes.any fun c => c.2.faults.any && (s.params?.bind fun p => find c.1 p.axes).any (·.global)

/-- An ESSENTIAL connection is LOST after having been open (R525). -/
def State.essentialLost (s : State) (n : Nat) : Bool :=
  s.f HDL_HT_STATE.HT n = 3 && (findD {} n s.isl.conns).opened &&
    (s.params?.bind fun p => find n p.conns).any (·.essential)

/-- The active causes. -/
def State.causes (s : State) : Nat :=
  let i := s.isl
  if !s.functional then 0
  else
    causeBit 0 i.frameLoss + causeBit 1 i.localCause + causeBit 2 i.twinVeto +
    causeBit 3 (decide (s.f HDL_SEAL.LIVE 0 ≠ s.f HDL_SEAL.LATCHED 0)) + causeBit 4 i.degExpired +
    causeBit 5 s.clk.pwrfail + causeBit 6 (s.railFault railIo33) +
    causeBit 7 (s.ioFault || s.globalFault || (List.range 4).any s.essentialLost) +
    causeBit 8 (i.set.isSome && !s.sealsMatch) +
    causeBit 9 (i.set.isSome && s.sealsMatch && !s.confStored) +
    causeBit 10 i.set.isNone

/-- HDL_CAUSE, brought up to date. -/
def State.showCauses (s : State) : State := s.setF HDL_CAUSE.CAUSE 0 s.causes

/-- A fault cause, of bits 0 to 7, is active. -/
def State.faulted (s : State) : Bool := decide (s.causes % 256 ≠ 0)

/-! ### Outputs off -/

/-- A channel's pin goes low. -/
def ChanSt.off (c : ChanSt) : ChanSt := if c.cmd then { c with cmd := false, justOff := true } else c

/-- An axis without torque. -/
def AxisSt.torqueOff (a : AxisSt) (t : Nat) : AxisSt :=
  if a.state = 4 then a else { a with state := 4, offAt := t, ramp := none, dstpAt := none, acked := false }

/-- An output evaluated off: its contactor must drop out within CF_TIME, and CF_PULLIN clears (R481). -/
def OutputSt.off (o : OutputSt) (r : Option OutputRec) (t : Nat) : OutputSt :=
  if o.ev then
    { o with ev := false, waiting := false, pullin := false, refused := false,
             cfDue := r.bind fun r => r.cfb.map fun _ => t + r.cfTime * 1000000 }
  else { o with waiting := false, refused := false }

/-- Every output path and the veto output go off at once: STO on every axis. -/
def State.pathsOff (s : State) : State :=
  let t := s.islTime
  (s.mapIsl fun i =>
    { i with
      chans := i.chans.map fun c => (c.1, c.2.off)
      axes := i.axes.map fun c => (c.1, { c.2.torqueOff t with dstp := false })
      outputs := i.outputs.map fun c => (c.1, c.2.off (s.params?.bind fun p => find c.1 p.outputs) t) }).setOn
    HDL_STATE.VETO_OUT 0 false |>.setF HDL_SO_STATE.COMMANDED 0 0

/-- What the entry to a state other than OPERATIONAL ends: a handover, degraded operation, a STOP in progress. -/
def State.leaveOperation (s : State) : State :=
  ((s.mapIsl fun i => { i with handoverAt := none, stopping := false }).setOn HDL_STATE.RELINQUISH 0 false).setOn
    HDL_STATE.DEGRADED 0 false

/-- FAULT, entered from OPERATIONAL or STOPPED (R466). -/
def State.enterFault (s : State) : State :=
  if s.hs = hsOperational || s.hs = hsStopped then (s.leaveOperation.setHs hsFault) else s

/-- ARMED, cleared. -/
def State.disarmOperate (s : State) : State :=
  (s.mapIsl fun i => { i with armedAt := none }).setOn HDL_STATE.ARMED 0 false

/-- FAIL: outputs off, veto off, remote bits 0 (R441, R443, R524, Table 19-9). -/
def State.enterFail (s : State) : State :=
  (List.range 4).foldl (fun s n => s.setF HDL_HT_STATE.REMOTE n 0)
    ((s.pathsOff.leaveOperation.disarmOperate.setAuth false).setHs hsFail)

/-! ### The reset of the island -/

/-- What a Headland safety reset leaves (R39, R63, R470): every HDL_ register but HDL_FAILCNT at its reset value,
the verified program memory and the verdicts kept unless VDD_SAFE powered on. An interrupted write of the parameter
region leaves free bytes in the header of its copy (notes/assumptions/38). -/
def State.islandReset (s : State) (powerOn : Bool) : State :=
  let fc := s.f HDL_FAILCNT.COUNT 0
  let old := s.isl
  let s := match old.pwrite with
    | none => s
    | some w =>
      let (v, s) := s.draw
      s.flashWrite (copyAt w.copy) (leBytes 64 v)
  let s := (s.resetBlk .HDL).setF HDL_FAILCNT.COUNT 0 (if powerOn then 0 else fc)
  { s with isl := if powerOn then {} else { image := old.image, ids := old.ids, untested := old.untested,
                                            railBad := old.railBad, lockupLow := old.lockupLow,
                                            lockupBoard := old.lockupBoard } }

end Sys2Proof.Machine
end

