-- ==== Sys2Proof/Machine/SafeIo.lean ====
section
/-! DEFINITION. Safe inputs and outputs (chapter 20): sampling, the inputs' logical states, test pulses, the outputs'
commanded states, off-pulse tests, readback and contactor feedback. -/

namespace Sys2Proof.Machine

/-- Milliseconds in ns. -/
def ms (v : Nat) : Nat := v * 1000000

/-! ### Sampling (R472) -/

/-- A pin's debounced state: its value once four consecutive samples agree. -/
def debounce {w : Nat} (old a b c d : BitVec w) : BitVec w := (a &&& b &&& c &&& d) ||| (old &&& (a ||| b ||| c ||| d))

/-- The debounced pins. -/
def debPins (old : Pins) : List Pins → Pins
  | [a, b, c, d] =>
    { si := debounce old.si a.si b.si c.si d.si, srb := debounce old.srb a.srb b.srb c.srb d.srb,
      snd := debounce old.snd a.snd b.snd c.snd d.snd, cfb := debounce old.cfb a.cfb b.cfb c.cfb d.cfb,
      srst := debounce old.srst a.srst b.srst c.srst d.srst, drb := debounce old.drb a.drb b.drb c.drb d.drb,
      dack := debounce old.dack a.dack b.dack c.dack d.dack, encf := debounce old.encf a.encf b.encf c.encf d.encf }
  | _ => old

/-- When each input channel whose debounced state is low fell, if it has been high (R473, mode 2). -/
def fellAt (old : List (Nat × Nat)) (was si : BitVec 16) (t : Nat) : List (Nat × Nat) :=
  (List.range 16).filterMap fun c =>
    if si.getLsbD c then none else if was.getLsbD c then some (c, t) else (find c old).map fun x => (c, x)

/-- DACK read high by this sample, no later than 2 ms after the assertion (R499, R509); ENCF low for four samples
(R508). -/
def AxisSt.sampled (a : AxisSt) (n t : Nat) (pins deb : Pins) (full : Bool) : AxisSt :=
  let ack := match a.dstpAt with
    | some d => pins.dack.getLsbD n && decide (d ≤ t) && decide (t ≤ d + ms 2)
    | none => false
  { a with acked := a.acked || ack, encfLow := a.encfLow || (full && !deb.encf.getLsbD n) }

/-- INPUT_SAMPLE (R472): one 10 µs sample of the machine-side pins. -/
def execInputSample (pins : Pins) (s : State) : Out :=
  let s := s.mapIsl fun i => { i with t := i.t + 10000 }
  if s.functional || s.hs = hsStartup then
    let i := s.isl
    let l := (pins :: i.samples).take 4
    let d := debPins i.deb l
    .next (((s.mapIsl fun i =>
      { i with
        samples := l, deb := d, lowAt := fellAt i.lowAt i.deb.si d.si i.t
        axes := (List.range 4).filterMap fun n =>
          (find n i.axes).map fun a => (n, a.sampled n i.t pins d (l.length = 4)) }).setF HDL_SI_RAW.A 0
      (d.si.toNat % 256)).setF HDL_SI_RAW.B 0 (d.si.toNat / 256))
  else .next s

/-! ### Safe inputs (R473 to R476) -/

/-- A channel of input n (0 A, 1 B) as its mode takes it: in mode 2 a low counts once it has lasted longer than
1 ms. -/
def State.channelHigh (s : State) (mode n c : Nat) : Bool :=
  let k := n + 8 * c
  s.isl.deb.si.getLsbD k ||
    (mode = 2 && (match find k s.isl.lowAt with
                  | none => false
                  | some t => decide (s.islTime - t ≤ ms 1)))

/-- The faults latched for an input. -/
def InputSt.fault (i : InputSt) : Bool := i.disc || i.stuck || i.cross

/-- The fault code shown: the lowest of those latched (notes/assumptions/39). -/
def InputSt.code (i : InputSt) : Nat := if i.disc then 1 else if i.stuck then 2 else if i.cross then 3 else 0

/-- An input at a cycle start (R474). -/
def InputSt.cycle (i : InputSt) (a b : Bool) (t : Nat) : InputSt :=
  let disc := i.disc && (a || b)
  let i := { i with disc := disc, differAt := if a = b then none else some (i.differAt.getD t), high := a && b }
  { i with on := a && b && !i.fault }

/-- The used input n. -/
def State.inputRec? (s : State) (n : Nat) : Option InputRec :=
  (s.params?.bind fun p => find n p.inputs).filter fun r => r.mode ≠ 0

/-- The registers that show the inputs (Table 20-8). -/
def State.showInputs (s : State) : State :=
  let st (n : Nat) : InputSt := findD {} n s.isl.inputs
  let bits (f : InputSt → Bool) : Nat := ((List.range 8).map fun n => if f (st n) then 2 ^ n else 0).sum
  (((s.setF HDL_SI_STATE.ON 0 (bits (·.on))).setF HDL_SI_STATE.FAULT 0 (bits (·.fault))).setF HDL_SI_STATE.TIMING 0
    (bits (·.differAt.isSome))).setF HDL_SI_FCODE.CODES 0 ((List.range 8).map fun n => (st n).code * 16 ^ n).sum

/-- Every input's logical state at the cycle start (R474). -/
def State.evalInputs (s : State) : State :=
  (s.mapIsl fun i =>
    { i with inputs := (List.range 8).filterMap fun n =>
        (s.inputRec? n).map fun r =>
          (n, (findD {} n i.inputs).cycle (s.channelHigh r.mode n 0) (s.channelHigh r.mode n 1) s.cycleTime) }).showInputs

/-- DISCREPANCY (R474): the channels still differ after DISC_TIME. -/
def execDiscrepancy (n : Fin 8) (s : State) : Out :=
  match s.inputRec? n.val, find n.val s.isl.inputs with
  | some r, some i =>
    match i.differAt with
    | some t =>
      if ms r.discTime ≤ s.cycleTime - t then
        .next (s.mapIsl fun x => { x with inputs := put n.val { i with disc := true, on := false } x.inputs }).showInputs
      else .next s
    | none => .next s
  | _, _ => .next s

/-- Put one more, or start again at 0. -/
def runStep (l : List Nat) (k : Nat) (fail : Bool) : List Nat := setNth l k (if fail then l.getD k 0 + 1 else 0)

/-- One input's result of a test pulse (R475): channel `own` must read low, the other high. Two failures of one
kind on one channel latch; a channel's own test passes when nothing fails in it (notes/assumptions/40). -/
def InputSt.tested (i : InputSt) (own : Nat) (ownLow otherHigh : Bool) : InputSt :=
  let pass := ownLow && otherHigh
  let sr := runStep i.stuckRun own !ownLow
  let cr := runStep i.crossRun (1 - own) !otherHigh
  let pr := runStep i.passRun own pass
  let i := { i with stuckRun := sr, crossRun := cr, passRun := pr, stuck := i.stuck || decide (2 ≤ sr.getD own 0),
                    cross := i.cross || decide (2 ≤ cr.getD (1 - own) 0) }
  let i := if 2 ≤ pr.getD 0 0 && 2 ≤ pr.getD 1 0 then { i with stuck := false, cross := false } else i
  { i with on := i.on && !i.fault }

/-- TEST_PULSE (R475): STPA (STPB) goes low in a cycle whose number modulo 20 is 0 (10), and the pins are those of the
sample taken 250 µs after it began. -/
def execTestPulse (b : Bool) (pins : Pins) (s : State) : Out :=
  let cycle := s.f HDL_CYCLE.COUNT 0
  if !s.functional || cycle % 20 ≠ (if b then 10 else 0) || s.isl.testedAt = some cycle then .next s
  else
    let own := if b then 1 else 0
    let bit (n c : Nat) : Bool := pins.si.getLsbD (n + 8 * c)
    .next (s.mapIsl fun i =>
      { i with
        testedAt := some cycle
        inputs := i.inputs.map fun c =>
          if (s.inputRec? c.1).any (·.mode = 1) && c.2.high then
            (c.1, c.2.tested own (!bit c.1 own) (bit c.1 (1 - own)))
          else c }).showInputs

/-- What OFF inputs and OFF remote bits name (R476, R523). -/
def State.offMaps (s : State) : List StopMap :=
  match s.params? with
  | none => []
  | some p =>
    (p.inputs.filterMap fun c => if c.2.mode ≠ 0 && !(findD {} c.1 s.isl.inputs).on then some c.2.map else none) ++
    (p.conns.filter (·.2.used)).flatMap fun c =>
      (List.range 8).filterMap fun b => if s.bitF HDL_HT_STATE.REMOTE c.1 b then none else c.2.bits[b]?

/-! ### Channels (R478, R480, R490) -/

/-- The channel's stage readback: 0 to 7 of outputs, 8 to 15 of enable pairs. -/
def stageOf (p : Pins) (i : Nat) : Bool := if i < 8 then p.srb.getLsbD i else p.drb.getLsbD (i - 8)

/-- The channels of used outputs and axes. -/
def State.usedChans (s : State) : List Nat :=
  match s.params? with
  | none => []
  | some p => (List.range 16).filter fun i =>
      if i < 8 then (find (i / 2) p.outputs).any (·.used) else (find ((i - 8) / 2) p.axes).any (·.used)

/-- The readback check of a cycle start (R480). -/
def ChanSt.check (c : ChanSt) (on : Bool) : ChanSt :=
  let offRun := if on then 0 else c.offRun + 1
  let c := { c with offRun := offRun, justOff := false,
                    contOff := if c.cmd && !on then c.contOff + 1 else 0,
                    contOn := if !c.cmd && on && !c.justOff then c.contOn + 1 else 0 }
  let c := { c with drive := c.drive || decide (2 ≤ c.contOff), stuck := c.stuck || decide (2 ≤ c.contOn) }
  if 10 ≤ offRun then { c with stuck := false, drive := false } else c

/-- Every used channel checked. -/
def State.checkChans (s : State) : State :=
  s.mapIsl fun i => { i with chans := s.usedChans.map fun k => (k, (findD {} k i.chans).check (stageOf i.deb k)) }

/-- A channel's pin follows. -/
def ChanSt.drives (c : ChanSt) (on : Bool) : ChanSt :=
  if on then { c with cmd := true, justOff := false } else c.off

/-- The number of the test of a channel that is due last, if any has been (R478, R490). -/
def testNumber (period i t : Nat) : Option Nat :=
  let off := if i < 8 then i * period / 8 else period / 16 + (i - 8) * period / 8
  if off ≤ t then some ((t - off) / period) else none

/-- The result of an off-pulse test (R478): the readback has read off in time, and on again in time. -/
def ChanSt.tested (c : ChanSt) (off back : Bool) : ChanSt :=
  let sr := if off then 0 else c.stuckRun + 1
  let dr := if back then 0 else c.driveRun + 1
  { c with stuckRun := sr, driveRun := dr, stuck := c.stuck || decide (2 ≤ sr), drive := c.drive || decide (2 ≤ dr) }

/-- The fault code of output o shown in HDL_SO_FCODE: the lowest of those latched. -/
def State.outCode (s : State) (o : Nat) : Nat :=
  let a := findD {} (2 * o) s.isl.chans
  let b := findD {} (2 * o + 1) s.isl.chans
  let x := findD {} o s.isl.outputs
  if a.stuck then 1 else if b.stuck then 2 else if a.drive then 3 else if b.drive then 4
  else if x.weld then 5 else if x.pullin then 6 else 0

/-- The output's CFB input reads closed; an output that names none has nothing to wait for. -/
def State.cfbClosed (s : State) (r : OutputRec) : Bool := r.cfb.all fun k => s.isl.deb.cfb.getLsbD k

/-- The load node of output o reads on: both channels do. -/
def State.nodeOn (s : State) (o : Nat) : Bool :=
  s.isl.deb.snd.getLsbD (2 * o) && s.isl.deb.snd.getLsbD (2 * o + 1)

/-- The registers that show the outputs (Table 20-8). -/
def State.showOutputs (s : State) : State :=
  let bits (f : Nat → Bool) : Nat := ((List.range 4).map fun n => if f n then 2 ^ n else 0).sum
  let st (o : Nat) : OutputSt := findD {} o s.isl.outputs
  let rec' (o : Nat) : Option OutputRec := s.params?.bind fun p => find o p.outputs
  let p := s.isl.deb
  ((((((s.setF HDL_SO_STATE.COMMANDED 0 (bits fun o => s.auth && (st o).ev)).setF HDL_SO_STATE.STAGEA 0
    (bits fun o => p.srb.getLsbD (2 * o))).setF HDL_SO_STATE.STAGEB 0 (bits fun o => p.srb.getLsbD (2 * o + 1))).setF
    HDL_SO_STATE.NODE 0 (bits s.nodeOn)).setF HDL_SO_STATE.WAITING 0 (bits fun o => (st o).waiting)).setF
    HDL_SO_STATE.CFB 0 (bits fun o => (rec' o).any fun r => r.cfb.isSome && s.cfbClosed r)).setF HDL_SO_FCODE.CODES 0
    ((List.range 4).map fun o => s.outCode o * 16 ^ o).sum

/-- OFF_PULSE (R478): the off-pulse test of channel i, with what its stage readback did. A test that falls due while
the channel is commanded off is skipped. -/
def execOffPulse (i : Fin 16) (off back : Bool) (s : State) : Out :=
  match s.params?, find i.val s.isl.chans with
  | some p, some c =>
    let m := testNumber (ms p.opPeriod) i.val s.islTime
    if m.isNone || c.lastTest = m then .next s
    else
      let set (c : ChanSt) (s : State) : State := s.mapIsl fun x => { x with chans := put i.val c x.chans }
      if !c.cmd then .next (set { c with lastTest := m } s)
      else
        let s := if off && back then s.bump HDL_OPTEST.COUNT 0 else s.bump HDL_OPFAIL.COUNT 0
        .next (set { c.tested off back with lastTest := m } s).showOutputs
  | _, _ => .next s

/-! ### Outputs (R477, R481) -/

/-- The request set in force permits output o (R456). -/
def State.permitted (s : State) (o : Nat) : Bool := s.isl.reqs.any fun q => q.code == 1 && q.target == o

/-- Conditions 1 to 4 of R477 but for authority. -/
def State.mayEnergise (s : State) (o : Nat) : Bool :=
  s.hs = hsOperational && s.permitted o && s.offMaps.all (fun m => !m.outMask.testBit o) && !s.faulted

/-- The contactor has followed, or is still awaited; CF_WELD clears when the input reads closed (R481). -/
def OutputSt.follow (x : OutputSt) (closed : Bool) : OutputSt :=
  { x with cfDue := if closed = x.ev then x.cfDue else none, weld := x.weld && !closed }

/-- One output at a cycle (R477): switched off when a condition fails; switched on when all hold, the contactor has
dropped out and, with RESTART, an edge serves it. -/
def OutputSt.cycle (x : OutputSt) (r : OutputRec) (may closed edge : Bool) (t : Nat) : OutputSt :=
  let x := x.follow closed
  if x.ev then if may then x else x.off (some r) t
  else if may && closed && (!r.restart || edge) then
    { x with ev := true, waiting := false, refused := false, cfDue := r.cfb.map fun _ => t + ms r.cfTime }
  else { x with waiting := may && closed && r.restart, refused := may && !closed && (!r.restart || edge) }

/-- One output at a cycle; a switch-on that open feedback refuses is counted once while the refusal lasts. -/
def State.evalOutput (s : State) (o : Nat) : State :=
  match (s.params?.bind fun p => find o p.outputs).filter (·.used) with
  | none => s
  | some r =>
    let x := findD {} o s.isl.outputs
    let y := x.cycle r (s.mayEnergise o) (s.cfbClosed r) s.isl.edge s.islTime
    let s := s.mapIsl fun i => { i with outputs := put o y i.outputs }
    if y.refused && !x.refused then s.bump HDL_CFNOTREADY.COUNT 0 else s

/-- Every output's commanded state. -/
def State.evalOutputs (s : State) : State := (List.range 4).foldl (fun s o => s.evalOutput o) s

/-- The output step for the safe outputs: both channels follow the commanded state of a holder. -/
def State.driveOutputs (s : State) : State :=
  s.mapIsl fun i =>
    { i with chans := i.chans.map fun c =>
        if c.1 < 8 then (c.1, c.2.drives ((findD {} (c.1 / 2) i.outputs).ev && s.auth && !i.hwOff)) else c }

/-- CF_TIME (R481): the contactor has not followed a switch in time. -/
def execCfTime (o : Fin 4) (s : State) : Out :=
  match (s.params?.bind fun p => find o.val p.outputs), find o.val s.isl.outputs with
  | some r, some x =>
    match x.cfDue with
    | some d =>
      if d ≤ s.islTime then
        let y := x.follow (s.cfbClosed r)
        let y := if y.cfDue.isSome then { y with weld := y.weld || !y.ev, pullin := y.pullin || y.ev } else y
        .next (s.mapIsl fun i => { i with outputs := put o.val { y with cfDue := none } i.outputs }).showOutputs
      else .next s
    | none => .next s
  | _, _ => .next s

end Sys2Proof.Machine
end

