-- ==== Sys2Proof/Machine/Motion.lean ====
section
/-! DEFINITION. Drive monitoring (chapter 21): encoder counting, the index, the observer, the speed source, the axis
states with their stop and limit functions, and restart. -/

namespace Sys2Proof.Machine

/-! ### Fractions -/

/-- a ≤ b. -/
def Frac.le (a b : Frac) : Bool := decide (a.n * b.d ≤ b.n * a.d)

/-- The larger. -/
def Frac.max (a b : Frac) : Frac := if a.le b then b else a

/-- The magnitude. -/
def Frac.abs (a : Frac) : Frac := { a with n := a.n.natAbs }

/-- a + b and a − b. -/
def Frac.add (a b : Frac) : Frac := { n := a.n * b.d + b.n * a.d, d := a.d * b.d }
def Frac.sub (a b : Frac) : Frac := { n := a.n * b.d - b.n * a.d, d := a.d * b.d }

/-- a × m ÷ k. -/
def Frac.scale (a : Frac) (m k : Nat) : Frac := { n := a.n * m, d := a.d * Nat.max 1 k }

/-- A whole number. -/
def Frac.of (v : Nat) : Frac := { n := v }

/-- Rounded down, and limited to `w` bits, unsigned and signed (notes/assumptions/41). -/
def Frac.reg (a : Frac) (w : Nat) : Nat := min (a.n.toNat / a.d) (2 ^ w - 1)
def Frac.regSigned (a : Frac) (w : Nat) : Nat :=
  let v := (a.n.natAbs / a.d : Nat)
  if a.n < 0 then (2 ^ w - min v (2 ^ (w - 1))) % 2 ^ w else min v (2 ^ (w - 1) - 1)

/-! ### binary32 (R495) -/

/-- One operation of the observer, rounded to nearest even (notes/assumptions/42). -/
def fAdd (a b : Nat) : Nat := (fmtB32.addVal .rne .ieee (fmtB32.unpack a) (fmtB32.unpack b)).1
def fSub (a b : Nat) : Nat := (fmtB32.addVal .rne .ieee (fmtB32.unpack a) (fmtB32.unpack b).neg).1
def fMul (a b : Nat) : Nat := (fmtB32.mulVal .rne .ieee (fmtB32.unpack a) (fmtB32.unpack b)).1
def fDiv (a b : Nat) : Nat := (fmtB32.divVal .rne (fmtB32.unpack a) (fmtB32.unpack b)).1
def fSqrt (a : Nat) : Nat := (fmtB32.sqrtVal .rne (fmtB32.unpack a)).1

/-- n ÷ d, rounded once. -/
def fRatio (n : Int) (d : Nat) : Nat := (fmtB32.divVal .rne (.fin (decide (n < 0)) n.natAbs 0) (.fin false d 0)).1

/-- −a. -/
def fNeg (a : Nat) : Nat := if a < 2 ^ 31 then a + 2 ^ 31 else a - 2 ^ 31

/-- |(a, b)|. -/
def fNorm (a b : Nat) : Nat := fSqrt (fAdd (fMul a a) (fMul b b))

/-- The exact value. -/
def fFrac (a : Nat) : Frac :=
  match fmtB32.unpack a with
  | .fin neg m e =>
    let v : Int := if neg then -(m : Int) else m
    if 0 ≤ e then { n := v * 2 ^ e.toNat } else { n := v, d := 2 ^ (-e).toNat }
  | _ => {}

/-- π, 2π, √3 and Tₛ = 62.5 µs in binary32. -/
def fPi : Nat := 0x40490FDB
def f2Pi : Nat := 0x40C90FDB
def fRoot3 : Nat := 0x3FDDB3D7
def fTs : Nat := fRatio 1 16000

/-- atan2: an angle from −π to π; its rounding is free (notes/assumptions/42). -/
def fAtan2 (y x : Nat) : Nat :=
  let v := Config.atan2 y x
  v % (fPi + 1) + (if v / 2 ^ 31 % 2 = 1 then 2 ^ 31 else 0)

/-- An angle brought into (−π, π]. -/
def fWrap (a : Nat) : Nat :=
  let v := fFrac a
  if v.le (fFrac fPi) then if v.le (fFrac (fNeg fPi)) then fAdd a f2Pi else a else fSub a f2Pi

/-! ### The sinc³ filters (R495) -/

/-- One bit of a stream through the integrators: 1 counts up, 0 down. -/
def sincBit (f : List Int) (b : Bool) : List Int :=
  let i1 := f.getD 0 0 + (if b then 1 else -1)
  let i2 := f.getD 1 0 + i1
  [i1, i2, f.getD 2 0 + i2]

/-- The first `n` bits of a stream, the first the least significant. -/
def sincBits (v : BitVec 1250) : Nat → List Int → List Int
  | 0, f => f
  | n + 1, f => sincBit (sincBits v n f) (v.getLsbD n)

/-- The decimation. -/
def sincTaps : Nat := 1250

/-- 1,250 bits: the filter after them, and its value × 1,250³. -/
def Sinc3.run (f : Sinc3) (v : BitVec 1250) : Sinc3 × Int :=
  let i := sincBits v sincTaps f.i
  let a := i.getD 2 0
  let b := a - f.c.getD 0 0
  let d := b - f.c.getD 1 0
  ({ i := i, c := [a, b, d] }, d - f.c.getD 2 0)

/-- The filters' full scale. -/
def sincScale : Nat := 1250 * 1250 * 1250

/-! ### The observer (R495, R496) -/

/-- One sample of the observer. -/
def Observer.step (o : Observer) (r : AxisRec) (bits : SdBits) : Observer :=
  let fa := (o.filters.getD 0 {}).run bits.ia
  let fb := (o.filters.getD 1 {}).run bits.ib
  let fc := (o.filters.getD 2 {}).run bits.vab
  let fd := (o.filters.getD 3 {}).run bits.vbc
  let amp (y : Int) : Nat := fRatio (y * r.iscale) (sincScale * 100)
  let volt (y : Int) : Nat := fRatio (y * r.vscale) (sincScale * 10)
  let ia := amp fa.2
  let ib := amp fb.2
  let vab := volt fc.2
  let vbc := volt fd.2
  let two := fRatio 2 1
  let rs := fRatio r.rs 1000
  let ls := fRatio r.ls 1000000
  let ibe := fDiv (fAdd ia (fMul two ib)) fRoot3
  let val := fDiv (fAdd (fMul two vab) vbc) (fRatio 3 1)
  let vbe := fDiv vbc fRoot3
  let emf (v i prev : Nat) : Nat := fSub (fSub v (fMul rs i)) (fDiv (fMul ls (fSub i prev)) fTs)
  let eal := emf val ia o.ial
  let ebe := emf vbe ibe o.ibe
  let pred (prev v ef : Nat) : Nat := fAdd prev (fMul (fDiv fTs ls) (fSub (fSub v (fMul rs prev)) ef))
  let res := fNorm (fSub ia (pred o.ial o.val o.efal)) (fSub ibe (pred o.ibe o.vbe o.efbe))
  let eight := fRatio 8 1
  let efal := fAdd o.efal (fDiv (fSub eal o.efal) eight)
  let efbe := fAdd o.efbe (fDiv (fSub ebe o.efbe) eight)
  let th := fAtan2 (fNeg efal) efbe
  let we := fAdd o.we (fDiv (fSub (fDiv (fWrap (fSub th o.th)) fTs) o.we) eight)
  let vo := fDiv (fMul we (fRatio 60 1)) (fMul f2Pi (fRatio r.poles 1))
  { o with filters := [fa.1, fb.1, fc.1, fd.1], ial := ia, ibe := ibe, val := val, vbe := vbe, efal := efal,
           efbe := efbe, th := th, we := we, vo := vo, r := res }

/-- |vₒ|. -/
def Observer.speed (o : Observer) : Frac := (fFrac o.vo).abs

/-- |vₒ| ≥ OBS_MIN. -/
def Observer.resolves (o : Observer) (r : AxisRec) : Bool := (Frac.of r.obsMin).le o.speed

/-- The sample is plausible (R496). -/
def Observer.isPlausible (o : Observer) (r : AxisRec) : Bool :=
  let m := fFrac (fMul (fRatio r.psi 1000000) (if o.we < 2 ^ 31 then o.we else fNeg o.we))
  let d := ((fFrac (fNorm o.efal o.efbe)).sub m).abs
  (fFrac o.r).le { n := r.resMax, d := 100 } && (!o.resolves r || d.le (m.scale r.emfTol 100))

/-- Lost at the eighth implausible sample in a row, regained after 160 plausible ones (R496). -/
def Observer.judge (o : Observer) (r : AxisRec) (close : Bool) : Observer :=
  if o.isPlausible r then
    let p := if o.lost && !close then 0 else o.plausible + 1
    { o with implausible := 0, plausible := p, lost := o.lost && decide (p < 160) }
  else { o with implausible := o.implausible + 1, plausible := 0, lost := o.lost || decide (8 ≤ o.implausible + 1) }

/-! ### Encoder counting and the index (R491 to R494) -/

/-- An axis replaced. -/
def State.setAxis (s : State) (n : Nat) (a : AxisSt) : State := s.mapIsl fun i => { i with axes := put n a i.axes }

/-- The record of a used axis, and the axis. -/
def State.axis? (s : State) (n : Nat) : Option (AxisRec × AxisSt) :=
  ((s.params?.bind fun p => find n p.axes).filter (·.used)).map fun r => (r, findD {} n s.isl.axes)

/-- Counts of one revolution. -/
def AxisRec.rev (r : AxisRec) : Nat := 4 * r.lines

/-- The position moved without motion: the latched counts move with it, so that no speed is seen. -/
def AxisSt.shift (a : AxisSt) (d : Int) : AxisSt := { a with pos := a.pos + d, latched := a.latched.map (· + d) }

/-- The outcome of an index event (R494): the third mismatch of the last 16 is ENCODER_FAULT. -/
def AxisSt.indexEvent (a : AxisSt) (mismatch : Bool) : AxisSt :=
  let ev := (mismatch :: a.events).take 16
  let third := mismatch && decide (3 ≤ (ev.filter id).length)
  if mismatch then
    { a with events := ev, suspended := true, good := 0, faults := { a.faults with encoder := a.faults.encoder || third },
             faulted := a.faulted || third }
  else
    let g := a.good + 1
    { a with events := ev, good := g, suspended := a.suspended && decide (g < 2) }

/-- e of R493: the difference reduced into (−rev/2, rev/2]. -/
def indexError (d : Int) (rev : Nat) : Int :=
  let m := d.emod rev
  if 2 * m ≤ rev then m else m - rev

/-- An index point (R493): the result, and whether it counted a correction or a mismatch. -/
def AxisSt.index (a : AxisSt) (r : AxisRec) : AxisSt × Option Bool :=
  if !a.referenced then
    let d := r.refPos - a.pos
    ({ a.shift d with referenced := true, origin := r.refPos, p0 := a.p0 + d, w := a.w + d }, none)
  else
    let e := indexError (a.pos - r.refPos) r.rev
    let b := (a.shift (-e)).indexEvent (decide (2 < e.natAbs))
    ({ b with origin := b.pos }, some (decide (2 < e.natAbs)))

/-- ENCODER_EDGE (R491): accepted levels of A and B; A leading B counts up, INVERT reverses, a change of both is an
illegal transition. -/
def execEncoderEdge (n : Fin 4) (a b : Bool) (s : State) : Out :=
  match s.axis? n.val with
  | none => .next s
  | some (r, x) =>
    let ca := decide (a ≠ x.encA)
    let cb := decide (b ≠ x.encB)
    let x' := { x with encA := a, encB := b }
    if !s.functional || !r.encoder then .next s
    else if ca && cb then .next (s.setAxis n.val { x' with illegal := x.illegal + 1 })
    else if ca || cb then
      let up := decide (ca = decide (a ≠ b)) != r.invert
      .next (s.setAxis n.val { x' with pos := x.pos + (if up then 1 else -1) })
    else .next s

/-- INDEX_POINT (R493): an accepted index edge, at the present count. -/
def execIndexPoint (n : Fin 4) (s : State) : Out :=
  match s.axis? n.val with
  | none => .next s
  | some (r, a) =>
    if !s.functional || !r.encoder then .next s
    else
      let (b, res) := a.index r
      let s := s.setAxis n.val b
      .next (match res with
        | none => s
        | some false => s.bump HDL_AX_IDXCORR.COUNT n.val
        | some true => s.bump HDL_AX_IDXMIS.COUNT n.val)

/-! ### Samples (R492, R495 to R498) -/

/-- The encoder speed, and its bound (R492). -/
def AxisSt.encSpeed (a : AxisSt) (r : AxisRec) : Frac :=
  let old := (a.latched[16]?).getD (a.latched.getLast?.getD a.pos)
  { n := (a.latched.headD a.pos - old) * 60000, d := Nat.max 1 r.rev }
def AxisSt.encBound (a : AxisSt) (r : AxisRec) : Frac :=
  { n := (a.encSpeed r).n.natAbs + 60000, d := Nat.max 1 r.rev }

/-- The speed source's signed speed and bound (Table 21-2); none: the axis is blind. -/
def AxisSt.source (a : AxisSt) (r : AxisRec) : Option (Frac × Frac) :=
  let v := fFrac a.obs.vo
  let enc := (a.encSpeed r, a.encBound r)
  if !r.encoder then if a.obs.lost then none else some (v, v.abs.max (Frac.of r.obsMin))
  else if a.obs.lost then if a.faults.encoder then none else some enc
  else if a.obs.resolves r then some (v, v.abs) else some enc

/-- The comparison of the two sources at one sample (R498); it pauses while the observer is lost. -/
def AxisSt.compare (a : AxisSt) (r : AxisRec) : AxisSt :=
  if !r.encoder || a.obs.lost then a
  else
    let v := a.encSpeed r
    let active := !a.faults.encoder && (Frac.of (r.obsMin + r.xchk)).le v.abs
    let differ := active && !(((fFrac a.obs.vo).sub v).abs.le (Frac.of r.xchk))
    { a with compared := true, differs := differ && (!a.compared || a.differs) }

/-- What the entry of an axis, kind and index limits. -/
def Params.kind? (p : Params) (n kind : Nat) (i : Option Nat) : Option LimitKind :=
  match i.bind fun k => p.limit? n kind k with
  | some l => some l.kind
  | none => none

/-- The extreme position since the SDI entry was selected (R503). -/
def AxisSt.extreme (a : AxisSt) (p : Params) (n : Nat) : AxisSt :=
  match p.kind? n 3 a.sdi with
  | some (.sdi pos _) => { a with w := if pos then max a.w a.pos else min a.w a.pos }
  | _ => a

/-- Travel of more than a revolution and two counts since the last index point (R493). -/
def AxisSt.overran (a : AxisSt) (r : AxisRec) : Bool :=
  r.encoder && a.referenced && decide (r.rev + 2 < (a.pos - a.origin).natAbs)

/-- OBSERVER_SAMPLE (R492, R495 to R498): one 62.5 µs sample of axis n. -/
def execObserverSample (n : Fin 4) (bits : SdBits) (s : State) : Out :=
  match s.axis? n.val, s.params? with
  | some (r, a), some p =>
    if !s.functional then .next s
    else
      let a := { a with latched := (a.pos :: a.latched).take 17 }
      let o := a.obs.step r bits
      let close := !r.encoder || ((fFrac o.vo).sub (a.encSpeed r)).abs.le (Frac.of r.xchk)
      let o := o.judge r close
      let lost := o.lost && !a.obs.lost
      let a := ({ a with obs := o }.compare r).extreme p n.val
      let overrun := a.overran r
      let a := if overrun then { a.indexEvent true with origin := a.pos } else a
      let a := match a.source r with
        | none => a
        | some (v, b) => { a with speed := v, bounds := (b :: a.bounds).take 16 }
      let s := s.setAxis n.val a
      let s := if overrun then s.bump HDL_AX_IDXMIS.COUNT n.val else s
      .next (if lost then s.bump HDL_AX_OBSLOST.COUNT n.val else s)
  | _, _ => .next s

/-- U (R497): the largest bound of the last sixteen samples. -/
def AxisSt.u (a : AxisSt) : Frac := a.bounds.foldl Frac.max {}

/-! ### Selection of limits (R503, R504) -/

/-- The limit that SLS monitors at time t: falling linearly to a lower one that was selected. -/
def AxisSt.slsLimit (a : AxisSt) (p : Params) (n t : Nat) : Option Frac :=
  match p.kind? n 1 a.sls with
  | some (.sls lim ramp) =>
    some (match a.slsFrom with
      | none => Frac.of lim
      | some (old, since) =>
        if ms ramp ≤ t - since then Frac.of lim
        else old.sub ((old.sub (Frac.of lim)).scale (t - since) (ms ramp)))
  | _ => none

/-- An SLS entry selected. -/
def AxisSt.selectSls (a : AxisSt) (p : Params) (n t : Nat) (i : Nat) : AxisSt :=
  if a.sls = some i then a
  else
    match p.kind? n 1 (some i), a.slsLimit p n t with
    | some (.sls lim _), some old =>
      { a with sls := some i, slsFrom := if old.le (Frac.of lim) then none else some (old, t) }
    | some (.sls _ _), none => { a with sls := some i, slsFrom := none }
    | _, _ => a

/-- An SDI entry selected: W starts at the present position. -/
def AxisSt.selectSdi (a : AxisSt) (i : Nat) : AxisSt := if a.sdi = some i then a else { a with sdi := some i, w := a.pos }

/-- The selections of the request set in force, and of degraded operation (R504). -/
def AxisSt.select (a : AxisSt) (p : Params) (reqs : List SafeReq) (degraded : Bool) (n t : Nat) : AxisSt :=
  let want (code : Nat) : Option Nat := (reqs.reverse.find? fun q => q.code == code && q.target == n).map (·.index)
  let deg := p.island.degradeSls.getD n 0xFF
  let sls := if degraded && deg ≠ 0xFF then some deg else want 2
  let a := match sls with | none => a | some i => a.selectSls p n t i
  let a := match want 3 with | none => a | some i => { a with slp := some i }
  match want 4 with | none => a | some i => a.selectSdi i

/-! ### Stops and limits at a cycle start (R499 to R505) -/

/-- What a cycle start tells an axis: its time, the stops demanded from outside the axis, whether the island is
OPERATIONAL or in FAULT, OPERATIONAL with authority, in FAULT, and whether an unconsumed reset edge is there. -/
structure AxisCtx where
  t       : Nat
  demands : List Nat
  active  : Bool
  runs    : Bool
  fault   : Bool
  edge    : Bool
deriving DecidableEq, Repr

/-- The stops that latched axis faults demand (Table 21-6). -/
def AxisFaults.stops (f : AxisFaults) (r : AxisRec) : List Nat :=
  (if f.encoder || f.disagree then [r.faultStop] else []) ++ (if f.ramp || f.standstill then [0] else []) ++
  f.limit.toList

/-- Encoder health at a cycle start (R508): ENCODER_FAULT, and its end, which leaves the axis unreferenced. -/
def AxisSt.encoderHealth (a : AxisSt) (r : AxisRec) (encf : Bool) : AxisSt :=
  if !r.encoder then a
  else
    let bad := a.encfLow || decide (4 < a.illegal)
    let clean := if a.illegal = 0 && encf then a.clean + 1 else 0
    let a := { a with illegal := 0, encfLow := false, clean := clean, faulted := a.faulted || bad,
                      faults := { a.faults with encoder := a.faults.encoder || bad } }
    if a.faults.encoder && 1000 ≤ clean then
      { a with faults := { a.faults with encoder := false }, referenced := false, suspended := false, good := 0, events := [] }
    else a

/-- Ten cycles in a row in which every sample differed: SOURCE_DISAGREE (R498). -/
def AxisSt.sourceCheck (a : AxisSt) : AxisSt :=
  let run := if !a.compared then a.disagreeRun else if a.differs then a.disagreeRun + 1 else 0
  let bad := decide (10 ≤ run)
  { a with compared := false, differs := false, disagreeRun := if bad then 0 else run, faulted := a.faulted || bad,
           faults := { a.faults with disagree := a.faults.disagree || bad } }

/-- The limit functions in RUN and RAMP (Table 21-5): the REACT of a violated entry, the strongest. -/
def AxisSt.violated (a : AxisSt) (p : Params) (n t : Nat) : Option Nat :=
  let u := a.u
  let one (kind : Nat) (sel : Option Nat) (bad : LimitKind → Bool) : List Nat :=
    match sel.bind fun i => p.limit? n kind i with
    | none => []
    | some l => if bad l.kind then [l.react] else []
  let sls := one 1 a.sls fun _ => (a.slsLimit p n t).any fun lim => !u.le lim
  let slp := one 2 a.slp fun k => match k with
    | .slp lo hi fb => if a.suspended || !a.referenced then !u.le (Frac.of fb) else decide (a.pos < lo) || decide (hi < a.pos)
    | _ => false
  let sdi := one 3 a.sdi fun k => match k with
    | .sdi true tol => decide (a.pos < a.w - tol)
    | .sdi false tol => decide (a.w + tol < a.pos)
    | _ => false
  (sls ++ slp ++ sdi).min?

/-- The ramp limit at time t (R502). -/
def RampSt.limit (m : RampSt) (r : AxisRec) (t : Nat) : Frac :=
  let top := m.v0.add (Frac.of r.rampTol)
  let fallen := top.sub { n := (t - (m.at' + ms r.ssDelay) : Nat) * r.decel, d := 1000000 }
  fallen.max (Frac.of r.sstill)

/-- Standstill (R502). -/
def AxisSt.still (a : AxisSt) (r : AxisRec) : Bool := a.u.le (Frac.of r.sstill)

/-- STO, with the fault that makes it so. -/
def AxisSt.trip (a : AxisSt) (t : Nat) (f : AxisFaults → AxisFaults) : AxisSt :=
  { a.torqueOff t with faults := f a.faults, faulted := true }

/-- A ramp begins (R502); DSTPn is asserted at the output step. -/
def AxisSt.startRamp (a : AxisSt) (ss2 : Bool) (t : Nat) : AxisSt :=
  { a with state := 1, ramp := some { ss2 := ss2, at' := t, v0 := a.u }, dstpAt := some (a.dstpAt.getD (t + 500000)) }

/-- SOS begins: P₀ is captured. -/
def AxisSt.startSos (a : AxisSt) (t : Nat) : AxisSt :=
  { a with state := 2, p0 := a.pos, ramp := none, dstpAt := some (a.dstpAt.getD (t + 500000)) }

/-- The stop demanded acts on an axis: only toward a stronger stop, and in BLIND only STO. -/
def AxisSt.act (a : AxisSt) (t : Nat) : AxisSt :=
  match a.demand with
  | none => a
  | some 0 => a.torqueOff t
  | some 1 => if a.state = 3 || a.state = 1 && a.ramp.any (fun m => !m.ss2) then a else a.startRamp false t
  | some 2 => if a.state = 0 then a.startRamp true t else a
  | some _ => if a.state = 0 then a.startSos t else a

/-- RAMP at a cycle start (Table 21-4): the axis, and whether it tripped. A stop that is stronger than the ramp acts
before standstill completes the weaker one (R501, R502). -/
def AxisSt.rampCycle (a : AxisSt) (r : AxisRec) (m : RampSt) (t : Nat) : AxisSt × Bool :=
  if !a.u.le (m.limit r t) then (a.trip t fun f => { f with ramp := true }, true)
  else if a.demand = some 0 || (a.demand = some 1 && m.ss2) then (a.act t, false)
  else if a.still r then (if m.ss2 then a.startSos t else a.torqueOff t, false)
  else (a.act t, false)

/-- SOS at a cycle start (Table 21-4, R505): the axis, and whether it tripped. -/
def AxisSt.sosCycle (a : AxisSt) (r : AxisRec) (c : AxisCtx) : AxisSt × Bool :=
  let out := !a.suspended && decide (r.sosWin < (a.pos - a.p0).natAbs)
  if out || !a.still r then (a.trip c.t fun f => { f with standstill := true }, true)
  else if c.fault then (a.torqueOff c.t, false)
  else
    let a := if a.faults.limit = some 2 then { a with faults := { a.faults with limit := none } } else a
    if a.demand.isNone && !a.faults.any then ({ a with state := 0, dstpAt := none }, false) else (a.act c.t, false)

/-- BLIND, entered (R499): an assertion of DSTPn already in force counts. -/
def AxisSt.goBlind (a : AxisSt) (t : Nat) : AxisSt :=
  { a with state := 3, ramp := none, dstpAt := some (a.dstpAt.getD (t + 500000)), faulted := true,
           faults := { a.faults with lost := true } }

/-- TORQUE_OFF at a cycle start (R505, R508): faults clear; a restart waits for its conditions. -/
def AxisSt.offCycle (a : AxisSt) (r : AxisRec) (c : AxisCtx) : AxisSt :=
  let rest := c.runs && a.demand.isNone && !a.faults.any
  let needs := r.restart || a.faulted
  if rest && (!needs || c.edge) then
    { a with state := 0, faulted := false, waiting := false, dstpAt := none, acked := false }
  else { a with waiting := rest && needs }

/-- Faults that clear in TORQUE_OFF (Table 21-6). -/
def AxisSt.clearOff (a : AxisSt) (t : Nat) : AxisSt :=
  if a.state ≠ 4 then a
  else
    { a with faults := { a.faults with disagree := false, ramp := false, standstill := false, limit := none,
                                       lost := a.faults.lost && decide (t < a.offAt + 1000000000) } }

/-- The stop that applies: the strongest demanded, and no weaker one while any is. -/
def AxisSt.resolve (a : AxisSt) (r : AxisRec) (external : List Nat) : AxisSt :=
  let d := external ++ a.faults.stops r
  { a with demand := match d.min? with
      | none => none
      | some m => some (min m (a.demand.getD m)) }

/-- SSM (Table 21-5). -/
def AxisSt.ssmCycle (a : AxisSt) (r : AxisRec) : AxisSt :=
  let u := a.u
  { a with ssm := if a.state = 3 then false
                  else if !(Frac.of r.ssmLimit).le u then true
                  else if (Frac.of (r.ssmLimit + r.ssmHyst)).le u then false else a.ssm }

/-- One axis at a cycle start: the axis, and the violations counted in HDL_AX_TRIP. -/
def AxisSt.cycle (a : AxisSt) (r : AxisRec) (p : Params) (n : Nat) (encf : Bool) (c : AxisCtx) : AxisSt × Nat :=
  let a := ((a.encoderHealth r encf).sourceCheck).clearOff c.t
  if !c.active then (({ a.torqueOff c.t with demand := none, waiting := false }).ssmCycle r, 0)
  else
    let lim := if a.state = 0 || a.state = 1 then a.violated p n c.t else none
    let first := lim.isSome && a.faults.limit.isNone
    let a := match lim with
      | none => a
      | some react => { a with faults := { a.faults with limit := some (min react (a.faults.limit.getD react)) }, faulted := true }
    let a := a.resolve r c.demands
    let blind := (a.source r).isNone
    let (a, trip) :=
      if a.state = 4 then (a.offCycle r c, false)
      else if a.state = 3 then (a.act c.t, false)
      else if blind then ((a.goBlind c.t).act c.t, false)
      else if a.state = 2 then a.sosCycle r c
      else
        match a.ramp with
        | some m => if a.state = 1 then a.rampCycle r m c.t else (a.act c.t, false)
        | none => (a.act c.t, false)
    (a.ssmCycle r, (if first then 1 else 0) + (if trip then 1 else 0))

/-- LOSS_STOP on an axis (R501): without ENCODER, SS2 acts as SS1. -/
def lossStop (p : Params) (r : AxisRec) : Nat := if p.island.lossStop = 2 && !r.encoder then 1 else p.island.lossStop

/-- The stops demanded of axis n from outside it (R501). -/
def State.demandsOn (s : State) (p : Params) (r : AxisRec) (n : Nat) : List Nat :=
  (s.isl.reqs.filterMap fun q => if q.code == 5 && (q.target == n || q.target == 0xFF) then some q.index else none) ++
  (s.offMaps.filterMap fun m => if m.axisMask.testBit n && decide (m.stop ≤ 3) then some m.stop else none) ++
  (if s.isl.stopping || s.hs = hsFault then [lossStop p r] else [])

/-- The fault code shown: the lowest of those latched (notes/assumptions/39). -/
def AxisFaults.code (f : AxisFaults) : Nat :=
  if f.encoder then 1 else if f.lost then 2 else if f.disagree then 3 else if f.ramp then 4
  else if f.standstill then 5 else if f.limit.isSome then 6 else 0

/-- The registers of axis n (Table 21-11). -/
def State.showAxis (s : State) (n : Nat) (r : AxisRec) (a : AxisSt) : State :=
  let sel (o : Option Nat) : Nat := o.getD 0xF
  let s := ((((s.setF HDL_AX_STATE.AS n a.state).setOn HDL_AX_STATE.DEGRADED_SOURCE n
    (r.encoder && a.obs.lost && !a.faults.encoder)).setOn HDL_AX_STATE.SSM n a.ssm).setOn HDL_AX_STATE.REFERENCED n
    a.referenced).setOn HDL_AX_STATE.POS_SUSP n a.suspended
  let s := ((((s.setOn HDL_AX_STATE.WAIT_RESTART n a.waiting).setF HDL_AX_STATE.DEMAND n (a.demand.getD 7)).setF
    HDL_AX_STATE.FAULT n a.faults.code).setF HDL_AX_STATE.SLS n (sel a.sls)).setF HDL_AX_STATE.SLP n (sel a.slp)
  let s := ((s.setF HDL_AX_STATE.SDI n (sel a.sdi)).setF HDL_AX_SPEED.U n (a.u.reg 16)).setF HDL_AX_SPEED.SOURCE n
    (a.speed.regSigned 16)
  let p := (a.pos.emod (2 ^ 64)).toNat
  (((s.setF HDL_AX_POS.P n p).setF HDL_AX_POSH.P n (p / 2 ^ 32)).setF HDL_AX_OBS.R n
    ((fFrac a.obs.r).scale 100 1 |>.reg 16)).setF HDL_AX_OBS.V n ((fFrac a.obs.vo).regSigned 16)

/-- Axis n at a cycle start. -/
def State.evalAxis (s : State) (n : Nat) : State :=
  match s.axis? n, s.params? with
  | some (r, a), some p =>
    let c : AxisCtx := { t := s.cycleTime, demands := s.demandsOn p r n,
                         active := s.hs = hsOperational || s.hs = hsFault, runs := s.hs = hsOperational && s.auth,
                         fault := s.hs = hsFault, edge := s.isl.edge }
    let a := a.select p s.isl.reqs (s.on HDL_STATE.DEGRADED 0) n c.t
    let (b, trips) := a.cycle r p n (s.isl.deb.encf.getLsbD n) c
    ((s.setAxis n b).bumpBy HDL_AX_TRIP.COUNT n trips).showAxis n r b
  | _, _ => s

/-- Every axis. -/
def State.evalAxes (s : State) : State := (List.range 4).foldl (fun s n => s.evalAxis n) s

/-- The output step for the enable pairs and DSTPn: they follow authority (R490, R500). -/
def State.driveAxes (s : State) : State :=
  let live := s.auth && !s.isl.hwOff && (s.hs = hsOperational || s.hs = hsFault)
  s.mapIsl fun i =>
    { i with
      chans := i.chans.map fun c =>
        if c.1 < 8 then c else (c.1, c.2.drives (live && (findD {} ((c.1 - 8) / 2) i.axes).state ≠ 4))
      axes := i.axes.map fun c => (c.1, { c.2 with dstp := live && c.2.state ≠ 0 }) }

/-- Axis n replaced and shown. -/
def State.putAxis (s : State) (n : Nat) (r : AxisRec) (a : AxisSt) : State := ((s.setAxis n a).showAxis n r a).driveAxes

/-- T_BLIND (R499): STO at the first cycle that starts T_BLIND after the assertion. -/
def execTBlind (n : Fin 4) (s : State) : Out :=
  match s.axis? n.val with
  | some (r, a) =>
    match a.dstpAt with
    | some d => if a.state = 3 && d + ms r.tBlind ≤ s.cycleTime then .next (s.putAxis n.val r (a.torqueOff s.cycleTime)) else .next s
    | none => .next s
  | none => .next s

/-- DACK_TIMEOUT (R499): no acknowledge within 2 ms of the assertion. -/
def execDackTimeout (n : Fin 4) (s : State) : Out :=
  match s.axis? n.val with
  | some (r, a) =>
    match a.dstpAt with
    | some d =>
      if a.state = 3 && !a.acked && d + ms 2 ≤ s.cycleTime then .next (s.putAxis n.val r (a.torqueOff s.cycleTime)) else .next s
    | none => .next s
  | none => .next s

/-- T_SS (R502, R509): the ramp's time is over. At standstill nothing is wrong; else SS1 ends in STO, and SS2 in STO
with the fault RAMP. -/
def execTSs (n : Fin 4) (s : State) : Out :=
  match s.axis? n.val with
  | some (r, a) =>
    match a.ramp with
    | some m =>
      let t := s.cycleTime
      if a.state ≠ 1 || t < m.at' + ms r.tSs then .next s
      else if !m.ss2 then .next (s.putAxis n.val r (a.torqueOff t))
      else if a.still r then .next (s.putAxis n.val r (a.startSos t))
      else .next ((s.putAxis n.val r (a.trip t fun f => { f with ramp := true })).bump HDL_AX_TRIP.COUNT n.val)
    | none => .next s
  | none => .next s

/-- An axis at island start, and after a parameter commit (R504, R510): its default selections. -/
def AxisSt.fresh (r : AxisRec) (old : AxisSt) : AxisSt :=
  { sls := r.defSls, slp := r.defSlp, sdi := r.defSdi, encA := old.encA, encB := old.encB, pos := old.pos,
    latched := old.latched, obs := old.obs, w := old.pos, offAt := old.offAt }

end Sys2Proof.Machine
end

