-- ==== Sys2Proof/Machine/Hitch.lean ====
section
/-! DEFINITION. Hitch, the black-channel safety layer (chapter 22): ports, frames and PDUs, opening a connection, data
exchange, the island's report, remote bits and errors. -/

namespace Sys2Proof.Machine

/-! ### Connection states and PDUs -/

def htClosed : Nat := 0
def htStarting : Nat := 1
def htOpen : Nat := 2
def htLost : Nat := 3

/-- A connection's state. -/
def State.ht (s : State) (n : Nat) : Nat := s.f HDL_HT_STATE.HT n

/-- A connection. -/
def State.conn (s : State) (n : Nat) : ConnSt := findD {} n s.isl.conns

/-- A connection, replaced. -/
def State.setConn (s : State) (n : Nat) (c : ConnSt) : State := s.mapIsl fun i => { i with conns := put n c i.conns }

/-- The record of a USED connection. -/
def State.connRec? (s : State) (n : Nat) : Option ConnRec := (s.params?.bind fun p => find n p.conns).filter (·.used)

/-- The own safety address: the latched SEAL[7:0] (R512). -/
def State.ownAddress (s : State) : Nat := s.f HDL_SEAL.LATCHED 0 % 256

/-- The virtual header (R516). -/
def virtualHeader (src dst conn session cchk : Nat) : List Byte :=
  leBytes 1 src ++ leBytes 1 dst ++ leBytes 1 conn ++ [0] ++ leBytes 4 session ++ leBytes 4 cchk ++ leBytes 4 0

/-- A PDU with its CRC (Table 22-1). -/
def pduBytes (hdr : List Byte) (type seq echo reason : Nat) (data : List Byte) : List Byte :=
  let b := leBytes 1 type ++ [0] ++ leBytes 2 seq ++ leBytes 2 echo ++ leBytes 1 reason ++ [0] ++
    data ++ List.replicate (16 - data.length) 0 ++ leBytes 4 0
  b ++ leBytes 4 (crc32c (hdr ++ b))

/-- The EtherType of Hitch (R513), and that of an 802.1Q tag. -/
def hitchType : List Byte := [0x88, 0xB5]
def vlanType : List Byte := [0x81, 0x00]

/-- The Ethernet frame of a PDU (R513), padded to the minimum frame size (60 bytes before the FCS). -/
def etherFrame (dst src : List Byte) (pcp : Option Nat) (vid : Nat) (pdu : List Byte) : List Byte :=
  let tag := match pcp with
    | none => []
    | some p => vlanType ++ (leBytes 2 (p * 8192 + vid)).reverse
  let b := dst ++ src ++ tag ++ hitchType ++ pdu
  b ++ List.replicate (60 - b.length) 0

/-- One frame on every selected port. -/
def State.sendPdu (s : State) (r : ConnRec) (pdu : List Byte) : State :=
  r.ports.foldl (fun s p =>
    match s.params?.bind fun x => find p x.ports with
    | none => s
    | some q => (s.send (.eth p (etherFrame r.mac q.mac r.pcp r.vid pdu))).bump HDL_HP_TX.COUNT p) s

/-- A PDU of connection n, under a session. -/
def State.sendConn (s : State) (n : Nat) (r : ConnRec) (session type seq echo reason : Nat) (data : List Byte) : State :=
  s.sendPdu r (pduBytes (virtualHeader s.ownAddress r.peer n session r.cchk) type seq echo reason data)

/-! ### States -/

/-- STARTING, entered (R517): a new nonzero nonce. -/
def State.connStart (s : State) (n : Nat) : State :=
  let (v, s) := s.draw
  let c := s.conn n
  let t := s.cycleTime
  (s.setConn n { c with nonces := if c.nonce = 0 then c.nonces else c.nonce :: c.nonces, nonce := 1 + v % (2 ^ 32 - 1),
                        startAt := t, startDue := t, rx := [] }).setF HDL_HT_STATE.HT n htStarting

/-- LOST, entered (R528): applied bits 0. -/
def State.connLost (s : State) (n reason : Nat) : State :=
  (((s.setConn n { s.conn n with lostAt := s.cycleTime, rx := [], kept := [] }).setF HDL_HT_STATE.HT n htLost).setF
    HDL_HT_STATE.REASON n reason).setF HDL_HT_STATE.REMOTE n 0 |>.bump HDL_HT_CLOSES.COUNT n

/-- A closing error (R528): one CLOSE with its reason, then LOST. Its SEQ is the number after the last sent
(notes/assumptions/43). -/
def State.connClose (s : State) (n reason : Nat) : State :=
  match s.connRec? n with
  | none => s
  | some r =>
    let session := if s.ht n = htOpen then s.f HDL_HT_SESSION.SESSION n else 0
    (s.sendConn n r session 4 (s.f HDL_HT_SEQ.SENT n + 1) (s.f HDL_HT_SEQ.ACCEPTED n) reason []).connLost n reason

/-- OPEN, entered (R517): forced when ACK_REQ is set (R524). -/
def State.connOpen (s : State) (n session rxAt : Nat) (r : ConnRec) : State :=
  ((((s.setConn n { s.conn n with openAt := s.cycleTime, sent := 0, sentCycle := none, kept := [], lastRx := rxAt,
                                  opened := true, bits := 0 }).setF HDL_HT_STATE.HT n htOpen).setF HDL_HT_SESSION.SESSION n session).setF
    HDL_HT_SEQ.SENT n 0).setF HDL_HT_SEQ.ACCEPTED n 0 |>.setOn HDL_HT_STATE.FORCED n r.ackReq |>.setF HDL_HT_STATE.REMOTE n 0

/-- Connections run (R530). -/
def State.hitchRuns (s : State) (n : Nat) : Bool := s.functional && (s.connRec? n).isSome

/-- Every connection at Hitch start (R468, R530): USED ones start, forced when ACK_REQ is set. -/
def State.hitchStart (s : State) : State :=
  (List.range 4).foldl (fun s n =>
    match s.connRec? n with
    | none => ((s.setF HDL_HT_STATE.HT n htClosed).setOn HDL_HT_STATE.FORCED n false).setF HDL_HT_STATE.REMOTE n 0
    | some r => (s.connStart n).setOn HDL_HT_STATE.FORCED n r.ackReq) s

/-- Every connection that starts or is open closes with ISLAND (R528, R530). -/
def State.hitchStop (s : State) : State :=
  (List.range 4).foldl (fun s n => if s.ht n = htStarting || s.ht n = htOpen then s.connClose n 7 else s) s

/-! ### Receiving (R514 to R516, R528) -/

/-- A PDU's fields. -/
def pduType (b : List Byte) : Nat := fieldAt b 0 1
def pduSeq (b : List Byte) : Nat := fieldAt b 2 2
def pduEcho (b : List Byte) : Nat := fieldAt b 4 2

/-- Zero fields are zero (R515). -/
def pduZeros (b : List Byte) : Bool :=
  decide (fieldAt b 1 1 < 2) && zeroAt b 7 1 && zeroAt b 24 4 && (pduType b = 4 || zeroAt b 6 1) &&
  (match pduType b with
   | 1 => zeroAt b 4 2 && zeroAt b 12 12
   | 2 => zeroAt b 4 2 && zeroAt b 16 8
   | 3 => zeroAt b 9 15
   | _ => zeroAt b 8 16)

/-- The CRC of a PDU under a virtual header. -/
def pduMatches (hdr b : List Byte) : Bool := fieldAt b 28 4 = crc32c (hdr ++ b.take 28)

/-- The connection that a PDU belongs to, and whether by the zero session (R516). -/
def State.assign (s : State) (b : List Byte) : Option (Nat × Bool) :=
  (List.range 4).findSome? fun n =>
    match s.connRec? n with
    | none => none
    | some r =>
      let hdr (session : Nat) := virtualHeader r.peer s.ownAddress n session r.cchk
      let cur := s.f HDL_HT_SESSION.SESSION n
      if s.ht n = htOpen && pduMatches (hdr cur) b then some (n, false)
      else if pduMatches (hdr 0) b then some (n, true) else none

/-- The PDU is of a type that its connection expects in its state, under the session it must carry (R515, R516). -/
def State.expects (s : State) (n : Nat) (zero : Bool) (b : List Byte) : Bool :=
  match s.ht n, pduType b with
  | 1, 2 => zero
  | 2, 2 => zero
  | 2, 3 => !zero
  | 2, 4 => true
  | 1, 4 => zero
  | _, _ => false

/-- Unassigned frames of the last 1,000 ms. -/
def recentUnassigned (l : List Nat) (t : Nat) : List Nat := l.filter fun x => decide (t < x + ms 1000)

/-- The window of a port shows more than sixteen unassigned frames (R528). -/
def State.crcRate (s : State) (p : Nat) : Bool :=
  16 < (recentUnassigned (findD {} p s.isl.ports).unassigned s.islTime).length

/-- A port, replaced. -/
def State.setPort (s : State) (p : Nat) (q : HitchPort) : State := s.mapIsl fun i => { i with ports := put p q i.ports }

/-- An unassigned frame (R516, R528): counted; over the rate, every OPEN connection that sends only on that port
closes. -/
def State.unassignedFrame (s : State) (p : Nat) : State :=
  let q := findD {} p s.isl.ports
  let s := (s.setPort p { q with unassigned := s.islTime :: recentUnassigned q.unassigned s.islTime }).bump
    HDL_HP_CORRUPT.COUNT p
  if s.crcRate p then
    (List.range 4).foldl (fun s n =>
      if s.ht n = htOpen && (s.connRec? n).any (fun r => r.ports = [p]) then s.connClose n 1 else s) s
  else s

/-- The PDU of an accepted frame (R514): addressed to the port, of Hitch's EtherType, tagged or not. -/
def hitchPdu (mac frame : List Byte) : Option (List Byte) :=
  let body := if (frame.drop 12).take 2 = vlanType then frame.drop 16 else frame.drop 12
  if frame.take 6 = mac && body.take 2 = hitchType && decide (34 ≤ body.length) then some ((body.drop 2).take 32) else none

/-- A PDU assigned to connection n: a format error closes (R515); else it waits for the cycle start. In LOST it is
discarded. -/
def State.takePdu (s : State) (p n : Nat) (zero : Bool) (b : List Byte) : State :=
  let s := s.bump HDL_HP_RX.COUNT p
  let both := (s.connRec? n).any fun r => r.ports.length = 2
  if (s.ht n ≠ htOpen && s.ht n ≠ htStarting) || (both && s.crcRate p) then s
  else if pduZeros b && s.expects n zero b then
    let c := s.conn n
    s.setConn n { c with rx := c.rx ++ [(s.islTime, b)] }
  else s.connClose n 5

/-- HITCH_FRAME_RECEIVE (R514, R516): a frame on a port, without its FCS, and whether the FCS was right. -/
def execHitchFrameReceive (port : Fin 2) (frame : List Byte) (fcsOk : Bool) (s : State) : Out :=
  match (s.params?.bind fun p => find port.val p.ports).filter (·.used) with
  | none => .next s
  | some r =>
    if !s.functional then .next s
    else if !fcsOk then .next (s.bump HDL_HP_FCS.COUNT port.val)
    else
      match hitchPdu r.mac frame with
      | none => .next s
      | some b =>
        let q := findD {} port.val s.isl.ports
        if 64 ≤ q.frames then .next (s.bump HDL_HP_OVER.COUNT port.val)
        else
          let s := s.setPort port.val { q with frames := q.frames + 1 }
          match s.assign b with
          | none => .next (s.unassignedFrame port.val)
          | some (n, zero) => .next (s.takePdu port.val n zero b)

/-- PORT_LINK (R513): the link state and speed of a port; 10 Mb/s is down. -/
def execPortLink (port : Fin 2) (speed : PortSpeed) (s : State) : Out :=
  if !s.functional then .next s
  else
    let v := match speed with
      | .down => 0
      | .s10 => 0
      | .s100 => 1
      | .s1000 => 2
    .next ((s.setOn HDL_HP_STATE.LINK port.val (v ≠ 0)).setF HDL_HP_STATE.SPEED port.val v)

/-! ### Processing at a cycle start -/

/-- The oldest PDU that waits, of one type, received before this cycle start; it is taken. -/
def State.nextPdu (s : State) (n type : Nat) : Option ((Nat × List Byte) × State) :=
  match (s.conn n).rx with
  | x :: r =>
    if pduType x.2 = type && decide (x.1 ≤ s.cycleTime) && s.hitchRuns n then some (x, s.setConn n { s.conn n with rx := r })
    else none
  | [] => none

/-- START_ACK (R517): it opens the connection when it answers the current nonce; an answer to the nonce of an earlier
attempt is ignored (Table 22-7), to any other nonce it makes the start fail, as does a zero SESSION. In OPEN it is the
second copy. -/
def execStartAck (n : Fin 4) (s : State) : Out :=
  match s.nextPdu n.val 2, s.connRec? n.val with
  | some ((at', b), s), some r =>
    let c := s.conn n.val
    let np := fieldAt b 8 4
    let ni := fieldAt b 12 4
    if s.ht n.val = htOpen then .next (s.bump HDL_HT_DUP.COUNT n.val)
    else if ni ≠ c.nonce then .next (if c.nonces.contains ni then s else s.connLost n.val 8)
    else if np = 0 || pduSeq b ≠ 0 then .next s
    else if np = ni then .next (s.connLost n.val 8)
    else .next (s.connOpen n.val (ni ^^^ np) at' r)
  | _, _ => .next s

/-- The remote bits applied: those of the last accepted DATA, none while forced (R524). -/
def State.applyRemote (s : State) (n : Nat) : State :=
  s.setF HDL_HT_STATE.REMOTE n (if s.on HDL_HT_STATE.FORCED n || s.ht n ≠ htOpen then 0 else (s.conn n).bits)

/-- Echo e covers every kept PDU up to it (R521): the worst delay is kept. -/
def State.cover (s : State) (n e : Nat) : State :=
  let c := s.conn n
  let hit := c.kept.filter fun x => decide (modDiff 16 e x.1 < 2 ^ 15)
  match hit with
  | [] => s
  | x :: _ =>
    let us := (s.cycleTime - x.2) / 1000
    let s := s.setConn n { c with kept := c.kept.filter fun x => !decide (modDiff 16 e x.1 < 2 ^ 15) }
    if s.f HDL_HT_RTT.US n < us then s.setF HDL_HT_RTT.US n us else s

/-- DATA (R519, R521, R524): a peer's DATA by its distance from the last accepted. -/
def execData (n : Fin 4) (s : State) : Out :=
  match s.nextPdu n.val 3 with
  | none => .next s
  | some ((at', b), s) =>
    let k := n.val
    let d := modDiff 16 (pduSeq b) (s.f HDL_HT_SEQ.ACCEPTED k)
    if d = 0 then .next (s.bump HDL_HT_DUP.COUNT k)
    else if 2 ^ 15 ≤ d then .next (s.bump HDL_HT_STALE.COUNT k)
    else if 9 ≤ d then .next (s.connClose k 2)
    else
      let ahead := modDiff 16 (pduEcho b) (s.f HDL_HT_SEQ.SENT k)
      if 0 < ahead && ahead < 2 ^ 15 then .next (s.connClose k 2)
      else
        let s := ((s.setF HDL_HT_SEQ.ACCEPTED k (pduSeq b)).bumpBy HDL_HT_LOST.COUNT k (d - 1)).setConn k
          { s.conn k with lastRx := at', bits := fieldAt b 8 1 }
        let s := s.cover k (pduEcho b)
        let s := if (fieldAt b 1 1).testBit 0 then s.setOn HDL_HT_STATE.FORCED k false else s
        .next (s.applyRemote k)

/-- CLOSE (R528): the peer ends the connection; none is sent. -/
def execClose (n : Fin 4) (s : State) : Out :=
  match s.nextPdu n.val 4 with
  | none => .next s
  | some (_, s) => .next (s.connLost n.val 6)

/-! ### What is due -/

/-- START (R517): sent once per PERIOD while STARTING. -/
def execStart (n : Fin 4) (s : State) : Out :=
  match s.connRec? n.val with
  | none => .next s
  | some r =>
    let c := s.conn n.val
    let t := s.cycleTime
    if s.functional && s.ht n.val = htStarting && c.startDue ≤ t && t ≤ c.startAt + ms r.texp then
      .next ((s.sendConn n.val r 0 1 0 0 0 (leBytes 4 c.nonce)).setConn n.val { c with startDue := c.startDue + r.period * 1000 })
    else .next s

/-- START_FAIL (R517): no valid START_ACK within TEXP. -/
def execStartFail (n : Fin 4) (s : State) : Out :=
  match s.connRec? n.val with
  | none => .next s
  | some r =>
    if s.functional && s.ht n.val = htStarting && (s.conn n.val).startAt + ms r.texp < s.cycleTime then
      .next (s.connLost n.val 8)
    else .next s

/-- The island's report (Table 22-3), DATA bytes 0 to 15. -/
def State.hitchReport (s : State) (n : Nat) : List Byte :=
  let bit (b : Bool) (k : Nat) : Nat := if b then 2 ^ k else 0
  let axis (k : Nat) : Nat :=
    s.f HDL_AX_STATE.AS k + bit (s.on HDL_AX_STATE.SSM k) 3 + bit (s.on HDL_AX_STATE.DEGRADED_SOURCE k) 4 +
      s.f HDL_AX_STATE.FAULT k % 8 * 32
  leBytes 1 (s.hs + bit s.auth 3 + bit (s.on HDL_STATE.DEGRADED 0) 4 + bit (s.on HDL_STATE.ARMED 0) 5) ++
  leBytes 1 (s.f HDL_SI_STATE.ON 0) ++
  leBytes 1 (s.f HDL_SO_STATE.COMMANDED 0 + 16 * s.f HDL_SO_STATE.NODE 0) ++
  leBytes 1 (s.f HDL_HT_STATE.REMOTE n) ++ (List.range 4).flatMap (fun k => leBytes 1 (axis k)) ++
  leBytes 2 (s.f HDL_CAUSE.CAUSE 0) ++ leBytes 1 (s.f HDL_STATE.MISSCNT 0) ++ [0] ++ leBytes 4 (s.f HDL_LASTK.K 0)

/-- PDUs kept at most (R521). -/
def keptMax : Nat := 1024

/-- DATA_DUE (R518): the next DATA of an open connection, at the output step of the first cycle at or after its due
time, and at most one in a cycle. -/
def execDataDue (n : Fin 4) (s : State) : Out :=
  match s.connRec? n.val with
  | none => .next s
  | some r =>
    let k := n.val
    let c := s.conn k
    let t := s.cycleTime
    let cyc := s.f HDL_CYCLE.COUNT 0
    if s.functional && s.ht k = htOpen && c.openAt + c.sent * (r.period * 1000) ≤ t && c.sentCycle ≠ some cyc then
      let seq := (s.f HDL_HT_SEQ.SENT k + 1) % 2 ^ 16
      let s := s.sendConn k r (s.f HDL_HT_SESSION.SESSION k) 3 seq (s.f HDL_HT_SEQ.ACCEPTED k) 0 (s.hitchReport k)
      let kept := c.kept ++ [(seq, t + 500000)]
      .next ((s.setF HDL_HT_SEQ.SENT k seq).setConn k
        { c with sent := c.sent + 1, sentCycle := some cyc, kept := kept.drop (kept.length - keptMax) })
    else .next s

/-- WATCHDOG (R520): more than WDOG since the receipt of the last accepted PDU. -/
def execWatchdog (n : Fin 4) (s : State) : Out :=
  match s.connRec? n.val with
  | none => .next s
  | some r =>
    if s.functional && s.ht n.val = htOpen && (s.conn n.val).lastRx + ms r.wdog < s.cycleTime then
      .next (s.connClose n.val 3)
    else .next s

/-- TIMEOUT (R521): the oldest uncovered PDU was sent more than TEXP earlier. -/
def execTimeout (n : Fin 4) (s : State) : Out :=
  match s.connRec? n.val, (s.conn n.val).kept.head? with
  | some r, some x =>
    if s.functional && s.ht n.val = htOpen && x.2 + ms r.texp < s.cycleTime then .next (s.connClose n.val 4) else .next s
  | _, _ => .next s

/-- RETRY (R517): RETRY ms after LOST the connection starts again. -/
def execRetry (n : Fin 4) (s : State) : Out :=
  match s.connRec? n.val with
  | none => .next s
  | some r =>
    if s.functional && s.ht n.val = htLost && (s.conn n.val).lostAt + ms r.retry ≤ s.cycleTime then .next (s.connStart n.val)
    else .next s

/-- What a cycle does for Hitch: the ports' counts start again; an unconsumed reset edge lifts forcing (R524); the
causes held are shown (R525). -/
def State.hitchCycle (s : State) : State :=
  let s := s.mapIsl fun i => { i with ports := i.ports.map fun c => (c.1, { c.2 with frames := 0 }) }
  (List.range 4).foldl (fun s n =>
    let s := if s.isl.edge && s.ht n = htOpen then (s.setOn HDL_HT_STATE.FORCED n false).applyRemote n else s
    s.setOn HDL_HT_STATE.ESSENTIAL n (s.essentialLost n)) s

end Sys2Proof.Machine
end

