-- ==== Sys2Proof/Machine/Island.lean ====
section
/-! DEFINITION. The Headland safety island (chapter 19): records from the compute side, authority and veto, the reset
request input, the safety cycle, the parameter set and its confirmation, mailbox messages, and what stops the
island. -/

namespace Sys2Proof.Machine

/-! ### Request blocks (R455, R456) -/

/-- The MAGIC of a request block. -/
def blockMagic : Nat := 0x51484B31

/-- An index lies within a table of commissioned entries. -/
def Params.hasLimit (p : Params) (n kind i : Nat) : Bool := (p.limit? n kind i).isSome

/-- The axes that a STOP names: one, or all that have a record. -/
def Params.stopAxes (p : Params) (target : Nat) : List Nat := if target = 0xFF then p.axes.map (·.1) else [target]

/-- A request's CODE is known, and its TARGET and INDEX are in range (Table 19-6, R504). -/
def SafeReq.ok (q : SafeReq) (p : Params) : Bool :=
  match q.code with
  | 1 => decide (q.target ≤ 3) && q.index = 0
  | 2 => decide (q.target ≤ 3) && p.hasLimit q.target 1 q.index
  | 3 => decide (q.target ≤ 3) && p.encoder q.target && p.hasLimit q.target 2 q.index
  | 4 => decide (q.target ≤ 3) && p.encoder q.target && p.hasLimit q.target 3 q.index
  | 5 => (decide (q.target ≤ 3) || q.target = 0xFF) && decide (q.index ≤ 3) &&
      (decide (q.index ≤ 1) || (p.stopAxes q.target).all p.encoder)
  | _ => false

/-- The request set of a block; none: it is refused as a whole (R456). -/
def requestSet (p : Params) (b : List Byte) (loop k : Nat) : Option (List SafeReq) :=
  let count := fieldAt b 9 1
  let at' (j : Nat) : Nat := 16 + 16 * j
  let reqs := (List.range count).map fun j =>
    ({ code := fieldAt b (at' j) 1, target := fieldAt b (at' j + 1) 1, index := fieldAt b (at' j + 2) 2 } : SafeReq)
  if b.length = 256 && fieldAt b 0 4 = blockMagic && fieldAt b 4 4 = k && fieldAt b 8 1 = loop && decide (count ≤ 14) &&
      zeroAt b 10 2 && fieldAt b 12 4 = crc32c (b.take 12 ++ b.drop 16) &&
      (List.range 14).all (fun j => zeroAt b (at' j + 4) 12 && (decide (j < count) || zeroAt b (at' j) 4)) &&
      zeroAt b 240 16 && reqs.all (·.ok p)
  then some reqs else none

/-! ### Records (R456 to R458) -/

/-- Grace runs (R461). -/
def State.inGrace (s : State) : Bool := s.isl.localAt.isSome && !s.isl.localCause && s.hs = hsOperational && s.auth

/-- A frame counts as missing (R457); during grace FRAME_LOSS is suppressed (Table 19-11). -/
def State.frameMissing (s : State) : State :=
  let s := (s.bump HDL_STATE.MISSCNT 0).bump HDL_MISSTOT.COUNT 0
  if s.irec?.any (fun r => decide (r.missTol < s.f HDL_STATE.MISSCNT 0)) && !s.inGrace then
    s.mapIsl fun i => { i with frameLoss := true }
  else s

/-- Degraded operation begins (R458). -/
def State.degrade (s : State) : State :=
  if s.hs = hsOperational && !s.on HDL_STATE.DEGRADED 0 then
    (s.mapIsl fun i => { i with degradedAt := i.t }).setOn HDL_STATE.DEGRADED 0 true
  else s

/-- A release record is for this island: of SAFE_LOOP, and later than the last accepted K (R456). -/
def State.current (s : State) (r : IslandRec) (loop k : Nat) : Bool :=
  loop = r.safeLoop && (!s.isl.accepted || (let d := modDiff 32 k (s.f HDL_LASTK.K 0); decide (0 < d) && decide (d < 2 ^ 31)))

/-- The latest K of the release records that are current. -/
def State.latest (s : State) (r : IslandRec) : List IslRecord → Option Nat
  | [] => none
  | .release l k _ :: rest =>
    let m := s.latest r rest
    if s.current r l k then some (match m with
      | none => k
      | some j => if modDiff 32 j k < 2 ^ 31 then j else k)
    else m
  | _ :: rest => s.latest r rest

/-- The block of the latest release is evaluated (R456, R457, R458). -/
def State.evalBlock (s : State) (p : Params) (loop k : Nat) (b : List Byte) : State :=
  match requestSet p b loop k with
  | none => (s.islEvent 5).frameMissing
  | some reqs =>
    ((s.mapIsl fun i => { i with reqs := reqs, accepted := true, frameLoss := false, degExpired := false }).setF
      HDL_LASTK.K 0 k).setF HDL_STATE.MISSCNT 0 0 |>.setOn HDL_STATE.DEGRADED 0 false

/-- A twin's heartbeat record (R460): discarded when its CRC fails; of two in a cycle the later cycle number stands. -/
def twinOf (b : List Byte) (at' : Nat) : Option TwinRec :=
  if b.length = 32 && fieldAt b 28 4 = crc32c (b.take 28) then
    let f := fieldAt b 0 1
    some { hs := f % 8, auth := f.testBit 3, veto := f.testBit 5, relinq := f.testBit 6, pcrc := fieldAt b 12 4,
           cycle := fieldAt b 16 8, at' := at' }
  else none

/-- One record (R456 to R458, R460); `best` is the K evaluated this cycle, `got` the twin records of this cycle,
`lost` says whether TWIN_LOST is among the records. -/
def State.takeRecord (s : State) (p : Params) (best : Option Nat) : IslRecord → State
  | .release l k b =>
    if !s.current p.island l k then s.bump HDL_STALE.COUNT 0
    else if best = some k then s.evalBlock p l k b else s
  | .withhold l _ o =>
    if l ≠ p.island.safeLoop then s.bump HDL_STALE.COUNT 0
    else if o = 5 then s.degrade
    else if o = 2 || o = 3 || o = 4 || o = 6 then s.frameMissing else s
  | .hrec b t =>
    match twinOf b t with
    | none => s
    | some w => s.mapIsl fun i => { i with twin := some w }
  | .twinLost => s.islEvent 8
  | .hbMissed => s.islEvent 9

/-- The heartbeat records of a cycle but for the one with the latest cycle number. -/
def laterHrec (l : List IslRecord) : List IslRecord :=
  let cyc := l.filterMap fun x => match x with
    | .hrec b t => (twinOf b t).map (·.cycle)
    | _ => none
  match cyc.max? with
  | none => l
  | some m => l.filter fun x => match x with
    | .hrec b t => (twinOf b t).any fun w => w.cycle = m
    | _ => true

/-- A record of a kind came in this cycle. -/
def IslRecord.isTwinLost : IslRecord → Bool
  | .twinLost => true
  | _ => false
def IslRecord.isTwin : IslRecord → Bool
  | .hrec b t => (twinOf b t).isSome
  | _ => false

/-- The records that have arrived are evaluated in order; without a parameter set only events and the twin's record
are kept. -/
def State.takeRecords (s : State) : State :=
  let l := laterHrec s.isl.records
  let s := s.mapIsl fun i => { i with records := [] }
  match s.params? with
  | none => l.foldl (fun s x => match x with
      | .release .. => s
      | .withhold .. => s
      | .hrec b t => match twinOf b t with
        | none => s
        | some w => s.mapIsl fun i => { i with twin := some w }
      | .twinLost => s.islEvent 8
      | .hbMissed => s.islEvent 9) s
  | some p =>
    let best := s.latest p.island l
    l.foldl (fun s x => s.takeRecord p best x) s

/-- A record reaches the island's mailbox (R442): every release or withhold record restarts the watchdog of R457, and
is a sign of the compute side (R461). -/
def State.islandTell (s : State) (r : IslRecord) : State :=
  s.mapIsl fun i =>
    let i := { i with records := i.records ++ [r] }
    match r with
    | .release .. => { i with recordAt := i.t, computeAt := i.t }
    | .withhold .. => { i with recordAt := i.t, computeAt := i.t }
    | _ => i

/-- The yoke path asks for the heartbeat record (R460): a sign of the compute side. -/
def State.islandAsked (s : State) : State := s.mapIsl fun i => { i with computeAt := i.t }

/-! ### Authority (R459, R461) -/

/-- The twin step of a cycle (R461, R463, Table 19-11): `twinLost` and `newTwin` say what this cycle's records
brought. -/
def State.twinStep (s : State) (twinLost newTwin : Bool) : State :=
  let w := if newTwin then s.freshTwin else none
  let wAuth := w.any (·.auth)
  let wRel := w.any fun x => x.auth && x.relinq
  if s.hs ≠ hsOperational then s
  else if s.auth && (2 ≤ s.isl.vetoRun || w.any (·.veto)) then
    (s.mapIsl fun i => { i with twinVeto := true }).pathsOff
  else if twinLost then
    let s := if s.isl.localAt.isSome then s
      else (s.mapIsl fun i => { i with handoverAt := none }).setOn HDL_STATE.RELINQUISH 0 false
    (s.setAuth true).degrade
  else if !s.auth then if wRel then s.setAuth true else s
  else if s.isl.handoverAt.isSome then
    if wAuth then ((s.mapIsl fun i => { i with handoverAt := none }).setOn HDL_STATE.RELINQUISH 0 false).setAuth false else s
  else if wAuth && !wRel && !s.on HDL_STATE.RELINQUISH 0 && !s.isLead then s.setAuth false
  else s

/-- TWIN_VETO clears when the veto is released (Table 19-9). -/
def State.vetoRelease (s : State) : State :=
  if s.isl.vetoRun = 0 && !s.freshTwin.any (·.veto) then s.mapIsl fun i => { i with twinVeto := false } else s

/-- LOCAL_LOST is declared (R461). -/
def State.localLost (s : State) : State :=
  if s.functional && s.irec?.isSome && s.isl.localAt.isNone then s.mapIsl fun i => { i with localAt := some i.t } else s

/-- Nothing of LOCAL_LOST's sources remains: the compute side is back (Table 19-9). -/
def State.computeBack (s : State) : Bool :=
  s.irec?.all (fun r => decide (s.islTime - s.isl.computeAt < r.frames2 1000000) &&
    !(r.lockupReact && s.isl.lockupLow)) &&
  decide (s.isl.refBad < 2) && decide (s.isl.rootBad < 2) &&
  [0, 1, 2, 3, 4].all fun r => !s.railFault r

/-- LOCAL_LOST at a cycle start (R461): a holder relinquishes and its grace runs; any other enters FAULT at once. -/
def State.localStep (s : State) : State :=
  if s.isl.localAt.isNone then s
  else if s.isl.localCause then
    if s.computeBack then s.mapIsl fun i => { i with localAt := none, localCause := false } else s
  else if s.hs = hsOperational && s.auth then s.setOn HDL_STATE.RELINQUISH 0 true
  else (s.mapIsl fun i => { i with localCause := true }).setOn HDL_STATE.RELINQUISH 0 false

/-! ### The reset request input (R453) -/

/-- The sequence after one sample of the two channels: the next phase, whether a complete edge arrived, whether
RESET_DISC is recorded. -/
def EdgePhase.next (p : EdgePhase) (a b : Bool) (t : Nat) : EdgePhase × Bool × Bool :=
  let both := a && b
  let none' := !a && !b
  let start : EdgePhase := if none' then .low else .idle
  match p with
  | .idle => (start, false, false)
  | .low => (if both then .high t else if none' then .low else .rising t, false, false)
  | .rising r =>
    if ms 50 < t - r then (start, false, true)
    else if both then (.high t, false, false)
    else if none' then (.low, false, false) else (.rising r, false, false)
  | .high h =>
    if both then (.high h, false, false)
    else if t - h < ms 100 || ms 3000 < t - h then (start, false, false)
    else if none' then (.low, true, false) else (.falling t, false, false)
  | .falling f =>
    if ms 50 < t - f then (start, false, true)
    else if none' then (.low, true, false)
    else if both then (.idle, false, false) else (.falling f, false, false)
  | .stuck l =>
    if none' then
      match l with
      | none => (.stuck (some t), false, false)
      | some u => (if ms 100 ≤ t - u then .low else .stuck (some u), false, false)
    else (.stuck none, false, false)

/-- The input sampled at a cycle start. -/
def State.edgeSample (s : State) : State :=
  let d := s.isl.deb.srst
  let (p, e, disc) := s.isl.edgePhase.next (d.getLsbD 0) (d.getLsbD 1) s.cycleTime
  let s := s.mapIsl fun i => { i with edgePhase := p, edge := e }
  if disc then s.islEvent 1 else s

/-- RESET_STUCK (R453): the input stays high beyond 3,000 ms. -/
def execResetStuck (s : State) : Out :=
  match s.isl.edgePhase with
  | .high h =>
    if s.functional && ms 3000 < s.cycleTime - h then
      .next ((s.mapIsl fun i => { i with edgePhase := .stuck none }).islEvent 0)
    else .next s
  | _ => .next s

/-! ### Writing the parameter region (R450, R452) -/

/-- The copy that is not in use. -/
def State.otherCopy (s : State) : Nat :=
  match s.isl.set with
  | none => 0
  | some p => 1 - p.copy

/-- A write of the parameter region begins. -/
def State.startWrite (s : State) (bytes : List Byte) (confirm : Bool) : State :=
  (s.mapIsl fun i => { i with pwrite := some { copy := s.otherCopy, bytes := bytes, confirm := confirm } }).setOn
    HDL_PWRITE.BUSY 0 true

/-- The confirmation's write (R452, step 4). -/
def State.confirmWrite (s : State) : State :=
  let s := (s.mapIsl fun i => { i with pendAt := none }).setOn HDL_STATE.CONFIRM_PEND 0 false
  match s.isl.set, s.checkNow with
  | some p, some c =>
    let body := s.flashRead (copyAt p.copy + 0x100) (fieldAt (s.flashRead (copyAt p.copy) 64) 8 4)
    let bind := s.isl.untested
    let ids := if bind then s.isl.ids else s.isl.ids.take 1 ++ [0, 0, 0]
    s.startWrite (copyBytes ((p.seq + 1) % 2 ^ 32) p.pcrc c true bind ids body) true
  | _, _ => s

/-- The island under a new or re-read set: axes, inputs and outputs start afresh with every latch cleared (R488,
R510). -/
def State.installSet (s : State) (p : Option ParamSet) : State :=
  let s := s.mapIsl fun i =>
    { i with
      set := p
      inputs := []
      outputs := []
      chans := i.chans.map fun c => (c.1, { c.2.off with stuck := false, drive := false, stuckRun := 0, driveRun := 0 })
      axes := match p with
        | none => []
        | some q => q.params.axes.map fun c => (c.1, AxisSt.fresh c.2 (findD {} c.1 i.axes)) }
  s.showSet

/-- A parameter commit takes effect (R450, R488, R510, R530): the new set, UNCONFIRMED, every output off, every
connection restarted. The missing-frame watchdog starts (R596). -/
def State.commitSet (s : State) (copy : Nat) : State :=
  let run := s.functional
  let s := if run then s.hitchStop else s
  let s := s.pathsOff
  let s := s.installSet (s.readCopy copy)
  let s := s.mapIsl fun i => { i with recordAt := i.t, computeAt := i.t }
  if run then ((s.leaveOperation.setAuth false).setHs hsUnconfirmed).hitchStart.showCauses else s

/-- The confirmation is written (R452): STOPPED, and REBIND clears. -/
def State.confirmed (s : State) (copy : Nat) : State :=
  let s := s.mapIsl fun i => { i with set := (s.readCopy copy).or i.set }
  (if s.hs = hsUnconfirmed then s.setHs hsStopped else s).showSet.showCauses

/-- PARAM_WRITE_DONE (R450, R452): the write, its read-back and its verification end. -/
def execParamWriteDone (ok : Bool) (s : State) : Out :=
  match s.isl.pwrite with
  | none => .next s
  | some w =>
    let s := (s.mapIsl fun i => { i with pwrite := none }).setOn HDL_PWRITE.BUSY 0 false
    if ok then
      let s := s.flashWrite (copyAt w.copy) w.bytes
      .next (if w.confirm then s.confirmed w.copy else s.commitSet w.copy)
    else .next ((s.setOn HDL_PWRITE.FAILED 0 true).islEvent 11)

/-! ### The safety cycle (R442) -/

/-- The heartbeat record (Table 19-8). -/
def State.buildHrec (s : State) : State :=
  let bit (b : Bool) (k : Nat) : Nat := if b then 2 ^ k else 0
  let b := leBytes 1 (s.hs + bit s.auth 3 + bit (s.on HDL_STATE.DEGRADED 0) 4 + bit (s.on HDL_STATE.VETO_OUT 0) 5 +
      bit (s.on HDL_STATE.RELINQUISH 0) 6) ++
    leBytes 1 (s.f HDL_SO_STATE.COMMANDED 0 + 16 * s.f HDL_SO_STATE.NODE 0) ++ leBytes 2 s.causes ++
    leBytes 1 (s.f HDL_STATE.MISSCNT 0) ++ leBytes 3 0 ++ leBytes 4 (s.f HDL_LASTK.K 0) ++ leBytes 4 (s.f HDL_PCRC.PCRC 0) ++
    leBytes 8 (s.f HDL_CYCLE.COUNT 0) ++ leBytes 4 0
  s.mapIsl fun i => { i with hrec := b ++ leBytes 4 (crc32c b) }

/-- The veto input of a cycle (R463): asserted while both channels are high; ten samples that disagree, or a channel
without a latched pulse for 1,500 ms, record VETO_LINE. -/
def State.vetoSample (s : State) (veto pulsed : BitVec 2) : State :=
  let on := veto.getLsbD 0 && veto.getLsbD 1
  let differ := veto.getLsbD 0 != veto.getLsbD 1
  let t := s.cycleTime
  let s := s.mapIsl fun i =>
    { i with vetoRun := if on then i.vetoRun + 1 else 0, vetoDiffer := if differ then i.vetoDiffer + 1 else 0
             pulseAt := [if pulsed.getLsbD 0 then t else i.pulseAt.getD 0 0, if pulsed.getLsbD 1 then t else i.pulseAt.getD 1 0] }
  let s := s.setOn HDL_STATE.VETO_IN 0 on
  if 10 ≤ s.isl.vetoDiffer || s.isl.pulseAt.any (fun p => decide (ms 1500 ≤ t - p)) then s.islEvent 2 else s

/-- The own veto (R463): a non-holder in OPERATIONAL that reads an output on, for two cycles in a row, that its
evaluation commands off. -/
def State.vetoStep (s : State) : State :=
  let out := (List.range 4).any fun o =>
    (s.params?.bind fun p => find o p.outputs).any (·.used) && s.nodeOn o && !(findD {} o s.isl.outputs).ev
  let ax := s.usedChans.any fun i =>
    decide (8 ≤ i) && stageOf s.isl.deb i && (findD {} ((i - 8) / 2) s.isl.axes).state = 4
  let run := if s.hs = hsOperational && !s.auth && (out || ax) then s.isl.vetoMis + 1 else 0
  (s.mapIsl fun i => { i with vetoMis := run }).setOn HDL_STATE.VETO_OUT 0 (2 ≤ run)

/-- Causes act (R445, R454, R466). -/
def State.faultStep (s : State) : State :=
  if !s.faulted then s
  else
    let s := s.disarmOperate
    let s := if s.clk.pwrfail then s.pathsOff else s
    s.enterFault

/-- The edge does one thing (R453), in order of precedence; an edge that none consumes stays. While a pair is untested and
the confirmation does not bind the images that run, OPERATIONAL is not entered (R59). -/
def State.edgeStep (s : State) : State :=
  let used (s : State) : State := s.mapIsl fun i => { i with edge := false }
  if !s.isl.edge then s
  else if s.isl.pendAt.isSome then (used s).confirmWrite
  else if s.hs = hsFault && !s.faulted then ((used s).pathsOff.setAuth false).setHs hsStopped
  else if s.hs = hsStopped && s.isl.armedAt.isSome && s.confBound then
    let w := s.freshTwin
    let take := if s.isLead then !w.any (·.auth) else w.isNone
    (((used s).disarmOperate).setHs hsOperational).setAuth take
  else s

/-- A STOP message completes when every axis has stopped (R464). -/
def State.stopStep (s : State) : State :=
  if s.isl.stopping && s.hs = hsOperational && s.isl.axes.all (fun c => c.2.state = 2 || c.2.state = 4) then
    ((s.pathsOff.setAuth false).leaveOperation).setHs hsStopped
  else s

/-- LOCKUP_N (R182, R461, Table 19-9): one open-drain signal, low while a core of the package is locked or the board
pulls it; its fall records LOCKUP, and declares LOCAL_LOST when LOCKUP_REACT is 1. -/
def State.lockupPin (s : State) : State :=
  let low := s.isl.lockupBoard || s.anyLocked
  let fell := low && !s.isl.lockupLow
  let s := s.mapIsl fun i => { i with lockupLow := low }
  if fell && (s.functional || s.hs = hsNoMachine) then
    let s := s.islEvent 4
    if s.irec?.any (·.lockupReact) then s.localLost else s
  else s

/-- The cycle's number and time, and the seals' live sample; the island looks at LOCKUP_N at least here. -/
def State.cycleStart (s : State) (seals : BitVec 12) : State :=
  let s := s.lockupPin
  let s := s.wrapInc HDL_CYCLE.COUNT 0
  let s := s.mapIsl fun i => { i with t := max i.t s.cycleTime, edge := false }
  if s.functional || s.hs = hsNoMachine then s.setF HDL_SEAL.LIVE 0 seals.toNat else s

/-- The cycle of an island whose functions run. -/
def State.fullCycle (s : State) (veto pulsed : BitVec 2) : State :=
  let lost := s.isl.records.any (·.isTwinLost)
  let twin := s.isl.records.any (·.isTwin)
  let s := (((s.vetoSample veto pulsed).evalInputs).checkChans).edgeSample
  let s := ((s.takeRecords).localStep).vetoRelease
  let s := (s.twinStep lost twin).faultStep
  let s := (s.edgeStep).hitchCycle
  let s := (s.evalOutputs).evalAxes
  let s := (s.stopStep).vetoStep
  let s := (s.driveOutputs).driveAxes
  s.showOutputs.showSet.showCauses

/-- SAFETY_CYCLE (R442, Table 19-1): the seals and the veto input as sampled at the cycle start, and the channels of
HVETO_IN whose pulse hardware has latched. -/
def execSafetyCycle (seals : BitVec 12) (veto pulsed : BitVec 2) (s : State) : Out :=
  let s := s.cycleStart seals
  if s.functional then .next (s.fullCycle veto pulsed).buildHrec
  else if s.hs = hsNoMachine then
    let s := s.mapIsl fun i => { i with records := [] }
    let s := if s.f HDL_SEAL.LIVE 0 ≠ s.f HDL_SEAL.LATCHED 0 then s.islEvent 10 else s
    .next s.buildHrec
  else .next ((s.mapIsl fun i => { i with records := [] }).buildHrec)

/-! ### Timed events -/

/-- CONFIRM_TIMEOUT (R452): 60 s without an edge. -/
def execConfirmTimeout (s : State) : Out :=
  match s.isl.pendAt with
  | some t =>
    if ms 60000 ≤ s.islTime - t then
      .next ((s.mapIsl fun i => { i with pendAt := none }).setOn HDL_STATE.CONFIRM_PEND 0 false)
    else .next s
  | none => .next s

/-- LOCKOUT_END (R452). -/
def execLockoutEnd (s : State) : Out :=
  match s.isl.lockoutAt with
  | some t =>
    if ms 600000 ≤ s.islTime - t then .next (s.mapIsl fun i => { i with lockoutAt := none, refusals := [] }) else .next s
  | none => .next s

/-- ARMED_EXPIRY (R454). -/
def execArmedExpiry (s : State) : Out :=
  match s.isl.armedAt with
  | some t => if ms 60000 ≤ s.islTime - t then .next s.disarmOperate else .next s
  | none => .next s

/-- HANDOVER_FAILED (R461): no takeover within 2 × FRAME_PERIOD + 2 ms. -/
def execHandoverFailed (s : State) : Out :=
  match s.isl.handoverAt, s.irec? with
  | some t, some r =>
    if r.frames2 2000000 ≤ s.islTime - t then
      .next (((s.mapIsl fun i => { i with handoverAt := none }).setOn HDL_STATE.RELINQUISH 0 false).islEvent 3)
    else .next s
  | _, _ => .next s

/-- FRAME_WATCHDOG (R457): 2 × FRAME_PERIOD without a release or withhold record. -/
def execFrameWatchdog (s : State) : Out :=
  match s.irec? with
  | some r =>
    if s.functional && r.frames2 0 ≤ s.islTime - s.isl.recordAt then
      .next ((s.mapIsl fun i => { i with recordAt := i.recordAt + r.frames2 0 }).frameMissing).showCauses
    else .next s
  | none => .next s

/-- DEGRADE_EXPIRED (R458). -/
def execDegradeExpired (s : State) : Out :=
  match s.irec? with
  | some r =>
    if s.on HDL_STATE.DEGRADED 0 && ms (r.degradeTime * 1000) ≤ s.islTime - s.isl.degradedAt then
      .next (s.mapIsl fun i => { i with degExpired := true }).showCauses
    else .next s
  | none => .next s

/-- LOCAL_LOST (R461): no sign of the own compute side for 2 × FRAME_PERIOD + 1 ms. -/
def execLocalLost (s : State) : Out :=
  match s.irec? with
  | some r => if r.frames2 1000000 ≤ s.islTime - s.isl.computeAt then .next s.localLost else .next s
  | none => .next s

/-- GRACE_END (R461): paths off at the first cycle start at or after LOCAL_LOST + GRACE, AUTH cleared, then FAULT. -/
def execGraceEnd (s : State) : Out :=
  match s.isl.localAt, s.irec? with
  | some t, some r =>
    if s.inGrace && t + ms r.grace ≤ s.cycleTime then
      .next ((((s.mapIsl fun i => { i with localCause := true }).pathsOff.setAuth false).disarmOperate).enterFault).showCauses
    else .next s
  | _, _ => .next s

/-- VETO_TEST_PULSE (R463): every 1,000 ms both HVETO_OUT channels are pulsed; the channels of HVETO_IN whose pulse
hardware has latched. -/
def execVetoTestPulse (pulsed : BitVec 2) (s : State) : Out :=
  if s.functional && s.isl.pulsed.all (fun t => decide (ms 1000 ≤ s.islTime - t)) then
    let t := s.islTime
    let s := (s.mapIsl fun i =>
      { i with pulsed := some t
               pulseAt := [if pulsed.getLsbD 0 then t else i.pulseAt.getD 0 0,
                           if pulsed.getLsbD 1 then t else i.pulseAt.getD 1 0] }).send .vetoPulse
    .next (if s.isl.pulseAt.any (fun p => decide (ms 1500 ≤ t - p)) then s.islEvent 2 else s)
  else .next s

/-- LOCKUP_N: the board pulls the signal low, or lets it go; the island sees it with what the cores drive. -/
def execLockupN (low : Bool) (s : State) : Out := .next (s.mapIsl fun i => { i with lockupBoard := low }).lockupPin

/-! ### Starting and stopping -/

/-- HS 1 is entered with an accepted image (Table 19-2). -/
def State.imageStarts (s : State) : State :=
  if s.hs = hsMonitor && s.isl.image then s.setHs hsStartup else s

/-- The seals encode a setting (R446). -/
def sealsValid (v : BitVec 12) : Bool :=
  let n := v.toNat
  let addr := n % 256
  let post := n / 256 % 4
  let ones := ((List.range 10).filter fun k => n.testBit k).length
  decide (addr ≠ 0) && decide (addr ≠ 0xFF) && (post = 1 || post = 2) && n / 1024 = ones % 4

/-- STARTUP (R468): self-test, seals, parameters, confirmation, output test, Hitch start. -/
def execStartup (seals : BitVec 12) (selfTest outputsOff : Bool) (s : State) : Out :=
  if s.hs ≠ hsStartup then .next s
  else if !selfTest || !sealsValid seals || !outputsOff then .next s.enterFail
  else
    let s := (s.setF HDL_SEAL.LATCHED 0 seals.toNat).setF HDL_SEAL.LIVE 0 seals.toNat
    let s := s.installSet s.readParams
    let s := s.mapIsl fun i => { i with recordAt := i.t, computeAt := i.t, pulseAt := [i.t, i.t] }
    if seals.toNat / 256 % 4 = 2 then .next (s.setHs hsNoMachine).buildHrec
    else
      let s := s.setHs (if s.isl.set.isSome && s.sealsMatch && s.confStored then hsStopped else hsUnconfirmed)
      .next s.hitchStart.showCauses.buildHrec

/-- The most restarts after a lockstep mismatch (Table 19-10). -/
def lockstepMax : Nat := 2

/-- LOCKSTEP_MISMATCH (R441): the comparator switches everything off and enters FAIL; a safety reset follows unless
two have (Table 19-9). -/
def execLockstepMismatch (s : State) : Out :=
  if s.hs = hsFail && !s.isl.resetDue then .next s
  else
    .next (s.enterFail.mapIsl fun i =>
      { i with hwOff := true, resetDue := decide (s.f HDL_FAILCNT.COUNT 0 < lockstepMax) })

/-- WDOG (R443): a service outside its window; outputs off, and a safety reset with cause WDOG. -/
def execWdog (s : State) : Out := .next (s.enterFail.mapIsl fun i => { i with hwOff := true, resetDue := true })

/-- HEADLAND_SAFETY_RESET (R39, R63, R441, R466): VDD_SAFE powers on; or the island resets itself, and runs its image
again when the body's digest is still right. An uncorrectable memory error switches everything off first, as a
lockstep mismatch does. -/
def execHeadlandSafetyReset (cause : IslandCause) (digestOk : Bool) (s : State) : Out :=
  let self (count : Bool) (s : State) : State :=
    let s := if count then s.bump HDL_FAILCNT.COUNT 0 else s
    let s := s.islandReset false
    (if digestOk then s else s.mapIsl fun i => { i with image := false }).imageStarts
  match cause with
  | .powerOn => .next (s.pathsOff.islandReset true)
  | .lockstep => if s.isl.resetDue then .next (self true s) else .next s
  | .wdog => if s.isl.resetDue then .next (self false s) else .next s
  | .memory =>
    if s.f HDL_FAILCNT.COUNT 0 < lockstepMax then .next (self true s.enterFail)
    else .next (s.enterFail.mapIsl fun i => { i with hwOff := true })

/-! ### Mailbox messages (R464) -/

/-- Result codes (Table 19-7a). -/
def msgAccepted : Nat := 0
def msgRefusedState : Nat := 1
def msgRefusedCheck : Nat := 2
def msgUntested : Nat := 3
def msgNotPaired : Nat := 4
def msgBad : Nat := 5
def msgLockout : Nat := 6
def msgParamBad : Nat := 7
def msgBusy : Nat := 8

/-- The message waiting is answered. -/
def State.answer (s : State) (code : Nat) (rsp : List Byte) : State :=
  s.mapIsl fun i => { i with msg := none, answer := some (code, rsp) }

/-- LEN of a message equals its REQ length (Table 19-7). -/
def reqLengthOk (type : Nat) (req : List Byte) : Bool :=
  match type with
  | 0x0002 => req.length = 5
  | 0x0003 => req.length = 8
  | 0x0004 => decide (8 ≤ req.length) && req.length = 8 + fieldAt req 4 4 && decide (fieldAt req 4 4 ≤ 248)
  | 0x0007 => req.length = 4
  | 0x000B => req.length = 4
  | _ => req.isEmpty

/-- A message reaches the island: an unlisted MSGTYPE or a wrong length is answered at once. -/
def State.deliver (s : State) (type : Nat) (req : List Byte) : State :=
  if within' type 1 0x0B && reqLengthOk type req then s.mapIsl fun i => { i with msg := some (type, req), answer := none }
  else s.answer msgBad []

/-- The message waiting, if it is of this type; in MONITOR and FAIL, and while the parameter region is written, all but
STATUS and REG_READ are refused (R450, R464). -/
def State.onMessage (s : State) (type : Nat) (f : List Byte → State → State) : Out :=
  match s.isl.msg with
  | none => .next s
  | some (t, req) =>
    if t ≠ type then .next s
    else if 2 < type && (s.hs = hsMonitor || s.hs = hsFail) then .next (s.answer msgRefusedState [])
    else if 2 < type && s.on HDL_PWRITE.BUSY 0 then .next (s.answer msgBusy [])
    else .next (f req s)

/-- Words of the HDL_ registers. -/
def State.hdlWords (s : State) (off count : Nat) : List Byte :=
  (List.range count).flatMap fun k => leBytes 4 (s.readWord (fun _ _ => 0) .HDL 0 (off + 4 * k))

/-- STATUS: HDL_ offsets 0x00 to 0x3F. -/
def execStatus (s : State) : Out := s.onMessage 1 fun _ s => s.answer msgAccepted (s.hdlWords 0 16)

/-- REG_READ (R511). -/
def execRegRead (s : State) : Out :=
  s.onMessage 2 fun req s =>
    let off := fieldAt req 0 4
    let n := fieldAt req 4 1
    if off % 4 = 0 && within' n 1 64 then s.answer msgAccepted (s.hdlWords off n) else s.answer msgBad []

/-- The states that take a parameter load (R450). -/
def State.takesParams (s : State) : Bool := s.hs ≠ hsOperational && s.hs ≠ hsMonitor && s.hs ≠ hsFail

/-- PARAM_BEGIN (R450). -/
def execParamBegin (s : State) : Out :=
  s.onMessage 3 fun req s =>
    let n := fieldAt req 0 4
    if !s.takesParams then s.answer msgRefusedState []
    else if !within' n bodyMin bodyMax then s.answer msgParamBad []
    else
      ((s.mapIsl fun i => { i with upload := some { len := n, pcrc := fieldAt req 4 4 } }).setOn HDL_PWRITE.FAILED 0 false).answer
        msgAccepted []

/-- PARAM_DATA (R450). -/
def execParamData (s : State) : Out :=
  s.onMessage 4 fun req s =>
    let off := fieldAt req 0 4
    let n := fieldAt req 4 4
    match s.isl.upload with
    | none => s.answer msgRefusedState []
    | some u =>
      if !s.takesParams then s.answer msgRefusedState []
      else if u.len < off + n then s.answer msgParamBad []
      else
        (s.mapIsl fun i => { i with upload := some { u with data := writeSpan u.data off (req.drop 8) } }).answer msgAccepted []

/-- PARAM_COMMIT (R450): the body is checked against PCRC and R449; the write of the copy not in use begins, and a
pending confirmation is cancelled (Table 19-11). -/
def execParamCommit (s : State) : Out :=
  s.onMessage 5 fun _ s =>
    match s.isl.upload with
    | none => s.answer msgRefusedState []
    | some u =>
      if !s.takesParams then s.answer msgRefusedState []
      else
        let body := readSpan u.data 0 u.len
        let s := s.mapIsl fun i => { i with upload := none }
        if crc32c body ≠ u.pcrc || (parseBody body).isNone then s.answer msgParamBad []
        else
          let seq := match s.isl.set with
            | none => 1
            | some p => (p.seq + 1) % 2 ^ 32
          let s := (s.mapIsl fun i => { i with pendAt := none }).setOn HDL_STATE.CONFIRM_PEND 0 false
          (s.startWrite (copyBytes seq u.pcrc 0 false false [0, 0, 0, 0] body) false).answer msgAccepted (leBytes 4 seq)

/-- CHECK_READ (R452). -/
def execCheckRead (s : State) : Out :=
  s.onMessage 6 fun _ s =>
    match s.checkNow with
    | some c =>
      if s.hs = hsUnconfirmed || s.hs = hsStopped then
        s.answer msgAccepted (leBytes 4 c ++ leBytes 1 (if s.isl.untested then 1 else 0))
      else s.answer msgRefusedState []
    | none => s.answer msgRefusedState []

/-- A refused CONFIRM (R452): the third within 600 s locks CONFIRM out. -/
def State.refuseConfirm (s : State) : State :=
  let t := s.islTime
  let l := t :: s.isl.refusals.filter fun x => decide (t - x < ms 600000)
  let s := (s.mapIsl fun i => { i with refusals := l }).islEvent 6
  let s := if 3 ≤ l.length then (s.mapIsl fun i => { i with lockoutAt := some t }).islEvent 7 else s
  s.answer msgRefusedCheck []

/-- CONFIRM (R452). -/
def execConfirm (s : State) : Out :=
  s.onMessage 7 fun req s =>
    if !(s.hs = hsUnconfirmed || s.hs = hsStopped) then s.answer msgRefusedState []
    else if s.isl.lockoutAt.isSome then s.answer msgLockout []
    else
      match s.checkNow with
      | none => s.answer msgRefusedState []
      | some c =>
        if !s.sealsMatch then s.answer msgRefusedState []
        else if fieldAt req 0 4 ≠ c then s.refuseConfirm
        else ((s.mapIsl fun i => { i with pendAt := some i.t }).setOn HDL_STATE.CONFIRM_PEND 0 true).answer msgAccepted []

/-- OPERATE (R454). -/
def execOperate (s : State) : Out :=
  s.onMessage 8 fun _ s =>
    let paired := s.freshTwin.any fun w =>
      (w.hs = hsStopped || w.hs = hsOperational) && w.pcrc = s.f HDL_PCRC.PCRC 0
    if s.hs ≠ hsStopped || s.faulted || (!s.confRebind && !s.confValid) then s.answer msgRefusedState []
    else if s.confRebind then s.answer msgUntested []
    else if !s.irec?.any (·.single) && !paired then s.answer msgNotPaired []
    else ((s.mapIsl fun i => { i with armedAt := some i.t }).setOn HDL_STATE.ARMED 0 true).answer msgAccepted []

/-- STOP (R464): each axis runs LOSS_STOP, then STOPPED. -/
def execStop (s : State) : Out :=
  s.onMessage 9 fun _ s =>
    if s.hs = hsOperational then (s.mapIsl fun i => { i with stopping := true }).answer msgAccepted []
    else s.answer msgRefusedState []

/-- HANDOVER (R461): a holder in OPERATIONAL and outside degraded operation sets RELINQUISH. -/
def execHandover (s : State) : Out :=
  s.onMessage 0x0A fun _ s =>
    if s.hs = hsOperational && s.auth && !s.on HDL_STATE.DEGRADED 0 then
      ((s.mapIsl fun i => { i with handoverAt := some (i.handoverAt.getD i.t) }).setOn HDL_STATE.RELINQUISH 0 true).answer
        msgAccepted []
    else s.answer msgRefusedState []

/-- CLEAR_EVT (R470). -/
def execClearEvt (s : State) : Out :=
  s.onMessage 0x0B fun req s => (s.writeFld HDL_EVT.EVT 0 (fieldAt req 0 4)).answer msgAccepted []

end Sys2Proof.Machine
end

