-- ==== Sys2Proof/Machine/Yoke.lean ====
section
/-! DEFINITION. The yoke (chapter 17): pairing, yoke time, heartbeats, the comparison of sheaves and of furrow hashes,
and the transfer engine. -/

namespace Sys2Proof.Machine

/-! ### States (Table 17-4) -/

def ysOff : Nat := 0
def ysAlone : Nat := 1
def ysPaired : Nat := 2
def ysSingle : Nat := 3
def ysRejoin : Nat := 4
def ysIncompat : Nat := 5

/-- The yoke state. -/
def State.ys (s : State) : Nat := s.f YK_STATUS.YSTATE 0

/-- The yoke state, entered. -/
def State.setYs (s : State) (v : Nat) : State := s.setF YK_STATUS.YSTATE 0 v

/-- The yoke replaced. -/
def State.mapYoke (s : State) (f : Yoke → Yoke) : State := { s with yoke := f s.yoke }

/-- The yoke takes part in messages: neither OFF nor INCOMPAT. -/
def State.ykAlive (s : State) : Bool := s.ys = ysAlone || s.ys = ysPaired || s.ys = ysSingle || s.ys = ysRejoin

/-- A yoke message of `units` units. -/
def ykMsg (type units : Nat) (rest : List Byte) : List Byte := padTo (16 * units) (leBytes 1 type ++ leBytes 1 units ++ rest)

/-- Send a message to the twin; one that finds the link not UP is lost (Table 17-8). -/
def State.ykSend (s : State) (m : List Byte) : State := if s.linkState 6 = 2 then s.linkSend 6 0 m else s

/-- The message at the front of the yoke's inbox, if it is of a type: it is taken, and acted on while the yoke takes
part. -/
def State.ykFront (s : State) (type : Nat) (f : List Byte → State → State) : Out :=
  .next <|
    match s.takeMsg 6 type with
    | none => s
    | some (m, s) => if s.ykAlive then f m s else s

/-! ### Yoke time (R399) -/

/-- YK_TIME_OFF. -/
def State.ykOff (s : State) : Int := (BitVec.ofNat 64 (s.f YK_TIME_OFF.OFF 0)).toInt

/-- Yoke time. -/
def State.ykNow (s : State) : Nat := (s.now + s.f YK_TIME_OFF.OFF 0) % 2 ^ 64

/-- OFF moves toward θ, by at most `room` counts. -/
def slewTo (off θ : Int) (room : Nat) : Int := if off < θ then min θ (off + room) else max θ (off - room)

/-- The follow forms θ and moves OFF: TX and RX of the lead's TIME, its ECHO of this side's TX, and its arrival. -/
def State.slew (s : State) (tx echo rx : Nat) : State :=
  let sum : Int := ((rx : Int) - echo) + ((tx : Int) - s.now)
  let θ := sum.tdiv 2
  let off := s.ykOff
  let room := match s.yoke.slewAt with | some t => s.since t / 2000 | none => 0
  let new := slewTo off θ room
  let at' := match s.yoke.slewAt with
    | some t => if new = θ then s.now else (t + 2000 * room) % 2 ^ 64
    | none => s.now
  let s := s.setF YK_TIME_OFF.OFF 0 (BitVec.ofInt 64 new).toNat
  s.mapYoke fun y => { y with slewAt := some at', good := if (θ - new).natAbs ≤ 5 then y.good + 1 else 0 }

/-! ### Loops, as the yoke sees them -/

/-- ns in counts of 10 ns, rounded down (R344). -/
def nsCounts (ns : Nat) : Nat := ns / 10

/-- A frame loop. -/
def State.loop (s : State) (l : Nat) : Option FrameLoop := find l s.loops

/-- S(k) of a loop (R344). -/
def State.frameStart (s : State) (l : Nat) (x : FrameLoop) (k : Nat) : Nat :=
  (x.start + k * s.f SOW_LOOP_PERIOD.NS l / 10) % 2 ^ 64

/-- `a` lies before `b` in a time of 64 bits. -/
def before (a b : Nat) : Bool := 2 ^ 63 ≤ modDiff 64 a b

/-- A loop of YLOOPS is armed (R400, R415). -/
def State.ykLoopArmed (s : State) (l : Nat) : Bool := s.bitF YK_CFG.YLOOPS 0 l && s.on SOW_LOOP_CTL.ARMED l

/-- The bits of Table 17-3, bytes 16 and 17. -/
def State.ykArmedMask (s : State) : Nat := maskOfBits ((List.range 16).filter s.ykLoopArmed)

/-- ARM (R400): this side's record of a loop. -/
def State.sendArm (s : State) (l : Nat) : State :=
  let start := ((s.loop l).map (·.start)).getD 0
  s.ykSend (ykMsg 0x04 2 (leBytes 1 l ++ leBytes 1 (s.f SOW_LOOP_CTL.ARMED l) ++ leBytes 4 (s.f SOW_LOOP_PERIOD.NS l)
    ++ leBytes 4 (s.f SOW_LOOP_DEADLINE.NS l) ++ leBytes 8 start))

/-- The next heartbeat is the first that is not due yet. -/
def State.hbFirst (s : State) : Nat :=
  let p := s.f YK_HB_PERIOD.NS 0
  (10 * s.ykNow + p - 1) / p

/-- Heartbeats are numbered from now (R401). -/
def State.hbRestart (s : State) : State := s.mapYoke fun y => { y with hbNext := s.hbFirst, judge := y.judge.map fun _ => s.hbFirst }

/-! ### Link and HELLO (R398, R413) -/

/-- HELLO; byte 7 announces REJOIN and a SINGLE or REJOIN state (notes/assumptions/51). -/
def State.sendHello (s : State) : State :=
  let single := decide (s.ys = ysSingle) || decide (s.ys = ysRejoin)
  s.ykSend (ykMsg 0x01 4 ([0, 0] ++ leBytes 1 s.boot.ykl.1 ++ leBytes 1 s.boot.ykl.2 ++ leBytes 1 (s.f YK_STATUS.LEAD 0)
    ++ leBytes 1 ((if s.yoke.rejoin then 1 else 0) + (if single then 2 else 0)) ++ leBytes 4 s.yoke.epoch
    ++ ((List.range 4).flatMap fun k => leBytes 2 (s.f BT_SLOT.ID k)) ++ leBytes 4 s.yoke.twinEpoch ++ leBytes 4 Config.packageSerial))

/-- XREPORT (R409): the executed IDs from the newest received back. -/
def State.sendXreport (s : State) : State :=
  let base := (s.yoke.newest + 2 ^ 32 - 4095) % 2 ^ 32
  let map' := (List.range 512).map fun j => BitVec.ofNat 8 (maskOfBits ((List.range 8).filter fun i =>
    s.yoke.done.contains ((base + 8 * j + i) % 2 ^ 32)))
  s.ykSend (ykMsg 0x0B 33 ([0, 0] ++ leBytes 4 s.yoke.epoch ++ leBytes 4 base ++ [0, 0, 0, 0] ++ map'))

/-- PAIRED, with T_PAIR: the REJOIN claims are spent, and heartbeats are judged from now. -/
def State.paired (s : State) (t : Nat) : State :=
  let s := s.mapYoke fun y => { y with tpair := some t, rejoin := false, from' := s.ys, judge := some s.hbFirst, misses := 0 }
  (s.setYs ysPaired).setOn YK_STATUS.REJOIN_TWIN 0 false

/-- 1 ms in counts. -/
def msCounts : Nat := 100000

/-- The lead sends PAIR once all that R398 and R416 ask for holds. -/
def State.tryPair (s : State) : State :=
  let y := s.yoke
  let again := decide (s.ys = ysRejoin) || y.twinSingle
  if s.isLead && s.linkState 6 = 2 && (s.link 6).hello && y.reported && s.on YK_STATUS.TVALID 0 &&
      (s.ys = ysAlone || s.ys = ysRejoin) && (!again || (y.rejoin && s.on YK_STATUS.REJOIN_TWIN 0)) then
    let t := (s.ykNow + msCounts - 1) / msCounts * msCounts + msCounts
    (s.ykSend (ykMsg 0x0C 1 (List.replicate 6 0 ++ leBytes 8 t))).paired t
  else s

/-- LINK_UP (R413, R438): a retraining attempt of the yoke link, or the training of a swath link, succeeds. -/
def State.yokeLinkUp (s : State) : State :=
  let l := s.link 6
  let tx := widthFor (9 - countBits 9 l.txFailed)
  let rx := widthFor (9 - countBits 9 l.rxFailed)
  if s.linkState 6 ≠ 1 || !s.on YK_CFG.EN 0 || tx = 0 || rx = 0 then s
  else (((s.setTxWidth 6 tx).setRxWidth 6 rx).setLinkState 6 2).sendHello

def execLinkUp (k : Fin 7) (s : State) : Out := .next (if k.val = 6 then s.yokeLinkUp else s.swLinkUp k)

/-! ### Transfers (R406 to R409) -/

/-- Read bytes of Normal memory at a physical address, as an agent without a cache reads them; none where a line is not
Granary memory of Normal type. -/
def State.readNormal (s : State) (pa : Nat) : Nat → Nat → Option (List Byte) × State
  | 0, _ => (some [], s)
  | fuel + 1, n =>
    if n = 0 then (some [], s)
    else
      match s.region pa with
      | .normal .. =>
        let k := min n (64 - pa % 64)
        let (d, s) := s.coherentLine (pa / 64) 2 .ok
        (match s.readNormal (pa + k) fuel (n - k) with
         | (some r, s) => (some (lineSlice d.1 pa k ++ r), s)
         | (none, s) => (none, s))
      | _ => (none, s)

/-- Where a descriptor of YK_XQ lies. -/
def State.xqAt (s : State) (slot : Nat) : Nat :=
  s.f YK_XQ_BASE.ADDR 0 * 4096 + 32 * (slot % 2 ^ s.f YK_XQ_CFG.LOG2SIZE 0)

/-- STATUS, RESOLVED and ID are written, then DONE (Table 17-6). -/
def State.xqWrite (s : State) (slot : Nat) (id : Option Nat) (status resolved : Nat) : State :=
  let a := s.xqAt slot
  let s := (s.writeNormal (a + 24) 2 2 (leBytes 1 status ++ leBytes 1 resolved)).2
  let s := match id with
    | some n => (s.writeNormal (a + 28) 2 2 (leBytes 4 n)).2
    | none => s
  (s.writeNormal (a + 26) 2 2 [1]).2

/-- Descriptors whose end is known complete, in order. -/
def State.xqDrain (s : State) : Nat → State
  | 0 => s
  | fuel + 1 =>
    match s.yoke.xq with
    | ⟨slot, id, some (st, rs)⟩ :: r =>
      (((s.xqWrite slot id st rs).mapYoke fun y => { y with xq := r }).wrapInc YK_XQ_HEAD.COUNT 0).xqDrain fuel
    | _ => s

/-- Descriptors that wait complete as far as they can. -/
def State.xqFinish (s : State) : State := s.xqDrain s.yoke.xq.length

/-- The engine's own checks of a descriptor (Table 17-6). -/
def State.xqGood (s : State) (d : List Byte) : Bool :=
  let op := numAt d 0 1
  let len := numAt d 4 4
  let src := numAt d 8 8
  let dst := numAt d 16 8
  let normal (pa : Nat) : Bool := match s.region pa with | .normal .. => true | _ => false
  numAt d 1 3 = 0 && numAt d 27 1 = 0 &&
  ((op = 1 && 64 ≤ len && len ≤ 2 ^ 24 && len % 64 = 0 && src % 64 = 0 && dst % 64 = 0 && dst + len ≤ granarySpan &&
      normal src && normal (src + len - 1)) ||
   (op = 2 && len = 8 && dst % 8 = 0 && dst + 8 ≤ granarySpan))

/-- XDATA of a WRITE, 512 bytes to a message. -/
def State.sendXdata (s : State) (id : Nat) : Nat → Nat → List Byte → State
  | 0, _, _ => s
  | fuel + 1, off, b =>
    if b.isEmpty then s
    else (s.ykSend (ykMsg 0x09 33 ([0, 0] ++ leBytes 4 id ++ leBytes 4 off ++ [0, 0, 0, 0] ++ padTo 512 (b.take 512)))).sendXdata
      id fuel (off + 512) (b.drop 512)

/-- The engine runs (Table 17-4). -/
def State.xqRuns (s : State) : Bool :=
  s.on YK_XQ_CFG.EN 0 && s.linkState 6 = 2 && (s.link 6).hello && (s.ys = ysPaired || s.ys = ysRejoin)

/-- The engine takes waiting descriptors while at most 64 requests are unacknowledged. -/
def State.xqPump (s : State) : Nat → State
  | 0 => s
  | fuel + 1 =>
    let y := s.yoke
    if !s.xqRuns || y.xqNext = s.f YK_XQ_TAIL.COUNT 0 || 64 ≤ (y.xq.filter fun t => t.done.isNone).length then s
    else
      let slot := y.xqNext
      let s := s.mapYoke fun y => { y with xqNext := (slot + 1) % 2 ^ 32 }
      match s.readNormal (s.xqAt slot) 2 32 with
      | (none, s) => ((s.mapYoke fun y => { y with xq := y.xq ++ [⟨slot, none, some (stBad, 0)⟩] }).xqFinish).xqPump fuel
      | (some d, s) =>
        let data := if numAt d 0 1 = 1 && s.xqGood d then s.readNormal (numAt d 8 8) (numAt d 4 4 / 64 + 1) (numAt d 4 4)
          else (some [], s)
        match (if s.xqGood d then data else (none, s)) with
        | (none, s) => ((s.mapYoke fun y => { y with xq := y.xq ++ [⟨slot, none, some (stBad, 0)⟩] }).xqFinish).xqPump fuel
        | (some b, s) =>
          let id := y.nextId
          let s := s.mapYoke fun y => { y with nextId := (id + 1) % 2 ^ 32, xq := y.xq ++ [⟨slot, some id, none⟩] }
          let wr8 := decide (numAt d 0 1 = 2)
          let s := s.ykSend (ykMsg 0x08 2 (leBytes 1 (numAt d 0 1) ++ [0] ++ leBytes 4 id ++ leBytes 4 (numAt d 4 4)
            ++ [0, 0, 0, 0] ++ leBytes 8 (numAt d 16 8) ++ leBytes 8 (if wr8 then numAt d 8 8 else 0)))
          (s.sendXdata id (b.length / 512 + 1) 0 b).xqPump fuel

/-- The engine goes on. -/
def State.xqGo (s : State) : State := s.xqPump 4096

/-- Only plot 0, Drill, Reeve and the TAP use the YK_ registers (R76, R406). -/
def ykReach (agent : Agent) : Bool :=
  match agent with
  | .plot p => p.val = 0
  | _ => true

/-- XQ_DOORBELL: descriptors are offered; a count beyond the ring is ignored. -/
def execXqDoorbell (agent : Agent) (tail : BitVec 32) (s : State) : Out :=
  .next <|
    if !s.acts agent then s
    else if !ykReach agent then s.writeDropped agent 0x6C
    else if 2 ^ s.f YK_XQ_CFG.LOG2SIZE 0 < modDiff 32 tail.toNat (s.f YK_XQ_HEAD.COUNT 0) then s
    else (s.setF YK_XQ_TAIL.COUNT 0 tail.toNat).xqGo

/-- Waiting descriptors complete YOKE_LOST with RESOLVED 2, behind those sent. -/
def State.xqAbandon (s : State) (n : Nat) : State :=
  let y := s.yoke
  let new : List Transfer := (List.range n).map fun k => ⟨(y.xqNext + k) % 2 ^ 32, none, some (0x06, 2)⟩
  (s.mapYoke fun y => { y with xq := y.xq ++ new, xqNext := (y.xqNext + n) % 2 ^ 32 }).xqFinish

/-- XQ_DISABLE: YK_XQ_CFG.EN is cleared. -/
def execXqDisable (agent : Agent) (s : State) : Out :=
  .next <|
    if !s.acts agent then s
    else if !ykReach agent then s.writeDropped agent 0x68
    else if !s.on YK_XQ_CFG.EN 0 then s
    else (s.setOn YK_XQ_CFG.EN 0 false).xqAbandon (modDiff 32 (s.f YK_XQ_TAIL.COUNT 0) s.yoke.xqNext)

/-- An ID of the twin's has been received. -/
def Yoke.see (y : Yoke) (id : Nat) : Yoke :=
  let newest := if modDiff 32 id y.newest < 2 ^ 31 then id else y.newest
  { y with newest := newest, done := y.done.filter fun x => decide (modDiff 32 newest x < 4096) }

/-- XACK. -/
def State.sendXack (s : State) (id result : Nat) : State :=
  s.ykSend (ykMsg 0x0A 1 (leBytes 1 result ++ [0] ++ leBytes 4 id))

/-- A request of the twin has been executed. -/
def State.xexecuted (s : State) (id : Nat) : State :=
  (s.mapYoke fun y => { y with done := id :: y.done, incoming := none }).sendXack id 0

/-- XREQ (R407, R408). -/
def execXreq (s : State) : Out :=
  s.ykFront 0x08 fun m s =>
    let op := numAt m 2 1
    let id := numAt m 4 4
    let len := numAt m 8 4
    let dst := numAt m 16 8
    if s.yoke.done.contains id then s.sendXack id 1
    else
      let s := s.mapYoke fun y => { y.see id with incoming := none }
      if op = 1 && 64 ≤ len && len ≤ 2 ^ 24 && len % 64 = 0 && dst % 64 = 0 && dst + len ≤ granarySpan then
        s.mapYoke fun y => { y with incoming := some { id := id, len := len, dst := dst, got := 0 } }
      else if op = 2 && len = 8 && dst % 8 = 0 && dst + 8 ≤ granarySpan then
        (match s.writeNormal dst 2 2 ((m.drop 24).take 8) with
         | (true, s) => s.xexecuted id
         | (false, s) => s.sendXack id 2)
      else s.sendXack id 2

/-- XDATA: data of the WRITE in progress, in order. -/
def execXdata (res : MemRes) (s : State) : Out :=
  s.ykFront 0x09 fun m s => s.withRes res fun s =>
    match s.yoke.incoming with
    | none => s
    | some w =>
      if numAt m 4 4 ≠ w.id || numAt m 8 4 ≠ w.got then s
      else
        let n := min 512 (w.len - w.got)
        let (ok, s) := s.writeNormal (w.dst + w.got) 2 9 ((m.drop 16).take n)
        let w := { w with got := w.got + n, ok := w.ok && ok }
        if w.got < w.len then s.mapYoke fun y => { y with incoming := some w }
        else if w.ok then s.xexecuted w.id
        else (s.mapYoke fun y => { y with incoming := none }).sendXack w.id 2

/-- XACK: descriptors complete, in ID order. -/
def execXack (s : State) : Out :=
  s.ykFront 0x0A fun m s =>
    let st := if numAt m 2 1 = 2 then stFaulted else stOk
    let id := numAt m 4 4
    ((s.mapYoke fun y =>
      { y with xq := y.xq.map fun t => if t.id = some id && t.done.isNone then { t with done := some (st, 0) } else t }).xqFinish).xqGo

/-- How an XREPORT resolves a lost descriptor (R409). -/
def LostXfer.fate (l : LostXfer) (m : List Byte) : Nat :=
  let d := modDiff 32 l.id (numAt m 8 4)
  if l.epoch ≠ numAt m 4 4 || 4096 ≤ d then 3
  else if (numAt m (16 + d / 8) 1).testBit (d % 8) then 1 else 2

/-- XREPORT. -/
def execXreport (s : State) : Out :=
  s.ykFront 0x0B fun m s =>
    let lost := s.yoke.lost
    let s := s.mapYoke fun y => { y with lost := [], reported := true }
    let s := lost.foldl (fun s l =>
      let s := (s.writeNormal (s.xqAt l.slot + 25) 2 2 (leBytes 1 (l.fate m))).2
      (s.writeNormal (s.xqAt l.slot + 26) 2 2 [1]).2) s
    let s := if lost.isEmpty then s else s.setOn YK_EVENT.XRESOLVED 0 true
    s.tryPair.xqGo

/-- The link is no longer UP: sent descriptors complete YOKE_LOST, and a PAIR that was not acknowledged is undone
(R409, Table 17-8). -/
def State.yokeLinkLost (s : State) (next : Nat) : State :=
  let l := s.link 6
  let lostPair := s.ys = ysPaired && s.isLead &&
    (l.retry.any (fun x => numAt x.2 0 1 = 0x0C) || l.out.any fun x => numAt x.2 0 1 = 0x0C)
  let s := (s.linkDrop 6).setLinkState 6 next
  let s := if lostPair then (s.setYs s.yoke.from').mapYoke fun y => { y with tpair := none } else s
  let gone : List LostXfer := s.yoke.xq.filterMap fun t => match t.id, t.done with
    | some id, none => some { slot := t.slot, id := id, epoch := s.yoke.twinEpoch }
    | _, _ => none
  (s.mapYoke fun y =>
    { y with
      lost := y.lost ++ gone, reported := false, incoming := none, timeSent := none, seenTx := 0
      xq := y.xq.map fun t => if t.done.isNone then { t with done := some (0x06, 0) } else t }).xqFinish

/-- LINK_DOWN (R413): the yoke link is declared DOWN and retrains at once. -/
def execLinkDown (s : State) : Out :=
  .next <|
    if s.linkState 6 ≠ 2 then s
    else
      let s := (s.yokeLinkLost 1).setOn YK_EVENT.LINK_DOWN 0 true
      s.log0 0x0040 (s.regAt .YK 0 0)

/-! ### HELLO, TIME, PAIR, REJOIN (R396 to R399, R416) -/

/-- The twin's yoke cannot be used: INCOMPAT, until a package reset. -/
def State.incompat (s : State) (F : Fld) : State := (s.setOn F 0 true).setYs ysIncompat

/-- HELLO is accepted. -/
def State.helloTaken (s : State) (m : List Byte) : State :=
  let epoch := numAt m 8 4
  let mixed := (List.range 4).any fun k => numAt m (12 + 2 * k) 2 ≠ s.f BT_SLOT.ID k
  let l := s.link 6
  let s := s.setLink 6 { l with hello := true }
  let s := s.setOn BT_COMPAT.TWIN_MIXED 0 mixed
  let s := s.setOn YK_STATUS.REJOIN_TWIN 0 ((numAt m 7 1).testBit 0)
  let s := s.mapYoke fun y =>
    { y with
      twinEpoch := epoch, twinSingle := (numAt m 7 1).testBit 1
      newest := if epoch = y.twinEpoch then y.newest else 0
      done := if epoch = y.twinEpoch then y.done else [] }
  let s := ((List.range 16).filter s.ykLoopArmed).foldl (fun s l => s.sendArm l) s
  let s := s.sendXreport
  let s := if s.ys = ysSingle then (s.setYs ysRejoin).mapYoke fun y => { y with judge := none, misses := 0 } else s
  s.tryPair.xqGo

/-- HELLO (R396, R398). -/
def execHello (s : State) : Out :=
  s.ykFront 0x01 fun m s =>
    if numAt m 4 1 ≠ s.boot.ykl.1 then s.incompat YK_EVENT.INCOMPAT
    else if (numAt m 6 1 = 1) = (s.isLead = true) then s.incompat YK_EVENT.ROLE_CONFLICT
    else s.helloTaken m

/-- TIME_TICK (R399): every 100 µs. -/
def execTimeTick (s : State) : Out :=
  .next <|
    let due := match s.yoke.timeSent with | some t => decide (usCounts 100 ≤ s.since t) | none => true
    if !s.ykAlive || s.linkState 6 ≠ 2 || !due then s
    else
      let y := s.yoke
      (s.mapYoke fun y => { y with timeSent := some s.now }).ykSend
        (ykMsg 0x02 2 ([0, 0] ++ leBytes 8 s.now ++ leBytes 8 y.seenTx ++ leBytes 8 y.seenAt))

/-- TIME (R399). -/
def execTime (s : State) : Out :=
  s.ykFront 0x02 fun m s =>
    let tx := numAt m 4 8
    let echo := numAt m 12 8
    let rx := numAt m 20 8
    let s := s.mapYoke fun y => { y with seenTx := tx, seenAt := s.now }
    let s := if echo = 0 then s
      else if s.isLead then s.mapYoke fun y => { y with good := y.good + 1 }
      else s.slew tx echo rx
    let s := if 16 ≤ s.yoke.good && !s.on YK_STATUS.TVALID 0 then (s.setOn YK_STATUS.TVALID 0 true).hbRestart else s
    s.tryPair

/-- PAIR: the follow becomes PAIRED. -/
def execPair (s : State) : Out :=
  s.ykFront 0x0C fun m s =>
    if !s.isLead && (s.ys = ysAlone || (s.ys = ysRejoin && s.yoke.rejoin)) then (s.paired (numAt m 8 8)).xqGo else s

/-- REJOIN (R416): YK_CTL.REJOIN is written, and announced. -/
def execRejoin (agent : Agent) (s : State) : Out :=
  .next <|
    if !s.acts agent then s
    else if !ykReach agent then s.writeDropped agent 0xC
    else if !s.ykAlive then s
    else ((s.mapYoke fun y => { y with rejoin := true }).sendHello).tryPair

/-- EN of YK_CFG is set or cleared (R415, Table 17-9). -/
def State.yokeEn (s : State) (en : Bool) : State :=
  if en = s.on YK_CFG.EN 0 then s
  else if en then
    let s := s.setOn YK_CFG.EN 0 true
    if s.ys = ysIncompat then s else ((s.setYs ysAlone).setLinkState 6 1).hbRestart
  else
    let s := (s.setOn YK_CFG.EN 0 false).yokeLinkLost 0
    let s := s.mapYoke fun y => { y with rejoin := false, judge := none, misses := 0, tpair := none, frames := [], arms := [] }
    (if s.ys = ysIncompat then s else s.setYs ysOff).setOn YK_STATUS.REJOIN_TWIN 0 false

/-- YOKE_ENABLE (R415): YK_CFG is written. AGREE and YLOOPS keep their values while a loop of YLOOPS is armed, AGREE
also where the value is outside 10 to 1,000. -/
def execYokeEnable (agent : Agent) (en : Bool) (agree : BitVec 10) (loops : BitVec 16) (s : State) : Out :=
  .next <|
    if !s.acts agent then s
    else if !ykReach agent then s.writeDropped agent 0x8
    else
      let s := if s.ykArmedMask ≠ 0 then s
        else
          let s := s.setF YK_CFG.YLOOPS 0 loops.toNat
          if within' agree.toNat 10 1000 then s.setF YK_CFG.AGREE 0 agree.toNat else s
      s.yokeEn en

/-! ### Heartbeats (R401) -/

/-- H(n). -/
def State.hbDue (s : State) (n : Nat) : Nat := n * s.f YK_HB_PERIOD.NS 0 / 10

/-- D(n). -/
def State.hbDeadline (s : State) (n : Nat) : Nat := s.hbDue n + usCounts (s.f YK_HB_SLACK.US 0)

/-- HEARTBEAT_DUE: at H(n). -/
def execHeartbeatDue (s : State) : Out :=
  .next <|
    let n := s.yoke.hbNext
    if !s.ykAlive || !s.on YK_STATUS.TVALID 0 || s.ykNow < s.hbDue n then s
    else
      let fresh := s.isl.hrec
      let s := (s.islandAsked).mapIsl fun i => { i with hrec := [] }
      let (v, s) := if fresh.isEmpty && s.yoke.hrec.isNone then s.draw else (0, s)
      let rec' := if fresh.isEmpty then s.yoke.hrec.getD (leBytes 32 v) else fresh
      let flags := s.f YK_STATUS.LEAD 0 + (if fresh.isEmpty then 2 else 0) + (if s.ys = ysSingle then 4 else 0)
      let s := s.mapYoke fun y => { y with hbNext := n + 1, hrec := some rec' }
      s.ykSend (ykMsg 0x03 4 (leBytes 1 flags ++ [0] ++ leBytes 4 n ++ leBytes 8 s.ykNow ++ leBytes 2 s.ykArmedMask
        ++ List.replicate 14 0 ++ rec'))

/-- HEARTBEAT: HREC goes to the Headland. -/
def execHeartbeat (s : State) : Out :=
  s.ykFront 0x03 fun m s =>
    let s := s.setF YK_HB_LAST.N 0 (numAt m 4 4)
    let s := s.mapYoke fun y =>
      { y with hbSeen := true, judge := if s.ys = ysRejoin then some (y.judge.getD s.hbFirst) else y.judge }
    s.islandTell (.hrec ((m.drop 32).take 32) s.islTime)

/-- TWIN_LOST (R401): SINGLE. -/
def State.twinLost (s : State) : State :=
  let s := ((s.setOn YK_EVENT.TWIN_LOST 0 true).log0 0x0041 (s.f YK_HB_LAST.N 0)).islandTell .twinLost
  let s := s.mapYoke fun y => { y with judge := none, misses := 0, rejoin := false, tpair := none }
  (s.setOn YK_STATUS.REJOIN_TWIN 0 false).setYs ysSingle

/-- HEARTBEAT_DEADLINE: D(n) passes. -/
def execHeartbeatDeadline (s : State) : Out :=
  .next <|
    match s.yoke.judge with
    | none => s
    | some n =>
      if !(s.ys = ysPaired || s.ys = ysRejoin) || s.ykNow < s.hbDeadline n then s
      else
        let came := s.yoke.hbSeen && modDiff 32 (s.f YK_HB_LAST.N 0) n < 2 ^ 31
        let s := s.mapYoke fun y => { y with judge := some (n + 1), misses := if came then 0 else y.misses + 1 }
        if came then s
        else
          let s := ((s.setOn YK_EVENT.HB_MISSED 0 true).bump YK_HBMISSCNT.COUNT 0).islandTell .hbMissed
          if 2 ≤ s.yoke.misses then s.twinLost else s

/-! ### The comparison of sheaves (R402 to R404) -/

/-- Both twins hold equal ARM records of a loop, armed. -/
def State.armsAgree (s : State) (l : Nat) : Bool :=
  match find l s.yoke.arms, s.loop l with
  | some a, some x => a.armed && s.on SOW_LOOP_CTL.ARMED l && a.period = s.f SOW_LOOP_PERIOD.NS l &&
      a.deadline = s.f SOW_LOOP_DEADLINE.NS l && a.start = x.start
  | _, _ => false

/-- S(k) lies at or after T_PAIR, and this twin is PAIRED. -/
def State.pairedSince (s : State) (start : Nat) : Bool :=
  s.ys = ysPaired && match s.yoke.tpair with | some t => !before start t | none => false

/-- A(k) of a frame that starts at a time. -/
def State.agreeAt (s : State) (l start : Nat) : Nat :=
  (start + nsCounts (s.f SOW_LOOP_DEADLINE.NS l) + usCounts (s.f YK_CFG.AGREE 0)) % 2 ^ 64

/-- The outcome of Table 17-5 that applies now, if one does; `due`: A(k) is the event. -/
def State.outcome (s : State) (f : YkFrame) (due : Bool) : Option Nat :=
  match f.start with
  | none => none
  | some st =>
    if s.pairedSince st && s.armsAgree f.loop then
      if before (s.agreeAt f.loop st) s.ykNow then some 3
      else match f.loc, f.far with
        | some a, some b => some (if (a.1, a.2.1) = b then 1 else 2)
        | _, _ => if f.gone || due then some 3 else none
    else if f.loc.isNone && !due then none
    else some (if s.pairedSince st then 6 else 5)

/-- A frame has been decided. -/
def State.isDecided (s : State) (l k : Nat) : Bool := (findD [] l s.yoke.decided).contains k

/-- An undecided frame. -/
def State.ykFrame (s : State) (l k : Nat) : YkFrame :=
  (s.yoke.frames.find? fun f => f.loop = l && f.k = k).getD { loop := l, k := k }

/-- An undecided frame, replaced. -/
def State.setYkFrame (s : State) (f : YkFrame) : State :=
  s.mapYoke fun y => { y with frames := (y.frames.filter fun g => !(g.loop = f.loop && g.k = f.k)) ++ [f] }

/-- A frame is decided (R403, R404): the register, the counters, and the Headland's record. -/
def State.decide' (s : State) (f : YkFrame) (o : Nat) : State :=
  let s := s.mapYoke fun y =>
    { y with
      frames := y.frames.filter fun g => !(g.loop = f.loop && g.k = f.k)
      decided := put f.loop ((f.k :: findD [] f.loop y.decided).take 64) y.decided }
  let s := ((s.setF YK_REL_LAST.K 0 f.k).setF YK_REL_LAST.LOOP 0 f.loop).setF YK_REL_LAST.OUTCOME 0 o
  match o with
  | 1 => (s.bump YK_REL_OK.COUNT 0).islandTell (.release f.loop f.k ((f.loc.map (·.2.2)).getD []))
  | 2 => (((s.bump YK_REL_DIS.COUNT 0).setOn YK_EVENT.DISAGREE 0 true).log1 0x0042 f.loop f.k).islandTell (.withhold f.loop f.k 2)
  | _ => (s.bump YK_REL_MISS.COUNT 0).islandTell (.withhold f.loop f.k o)

/-- A frame is kept, and decided if an outcome applies. -/
def State.judgeFrame (s : State) (f : YkFrame) (due : Bool) : State :=
  match s.outcome f due with
  | some o => s.decide' f o
  | none => s.setYkFrame f

/-- A frame of a yoked loop starts. -/
def State.ykStarts (s : State) (l k start : Nat) : State :=
  if s.isDecided l (k % 2 ^ 32) then s
  else s.setYkFrame { s.ykFrame l (k % 2 ^ 32) with start := some start }

/-- Sower hands a sheaf over (R355, R403). -/
def State.ykSheaf (s : State) (l k digest len : Nat) (block : List Byte) : State :=
  let k := k % 2 ^ 32
  let s := s.ykSend (ykMsg 0x05 2 (leBytes 1 l ++ [0] ++ leBytes 4 k ++ leBytes 8 digest ++ leBytes 4 len))
  if s.isDecided l k then s else s.judgeFrame { s.ykFrame l k with loc := some (digest, len, block) } false

/-- Sower reports a frame missing (R358, R403): outcome 4. -/
def State.ykMissing (s : State) (l k cause : Nat) : State :=
  let k := k % 2 ^ 32
  let s := s.ykSend (ykMsg 0x06 1 (leBytes 1 l ++ leBytes 1 cause ++ leBytes 4 k))
  if s.isDecided l k then s else s.decide' (s.ykFrame l k) 4

/-- ARM: the twin's record of a loop. -/
def execArm (s : State) : Out :=
  s.ykFront 0x04 fun m s =>
    let a : ArmRec := { armed := numAt m 3 1 = 1, period := numAt m 4 4, deadline := numAt m 8 4, start := numAt m 12 8 }
    if 16 ≤ numAt m 2 1 then s else s.mapYoke fun y => { y with arms := put (numAt m 2 1) a y.arms }

/-- DIGEST: a digest that arrives after its frame has been decided is dropped and counted. -/
def execDigest (s : State) : Out :=
  s.ykFront 0x05 fun m s =>
    let l := numAt m 2 1
    let k := numAt m 4 4
    if 16 ≤ l then s
    else
      let f := s.ykFrame l k
      let late := !s.isDecided l k && match f.start with
        | some st => before (s.agreeAt l st) s.ykNow && s.pairedSince st && s.armsAgree l
        | none => false
      let s := if late then s.decide' f 3 else s
      if s.isDecided l k then s.bump YK_REL_LATE.COUNT 0
      else s.judgeFrame { f with far := some (numAt m 8 8, numAt m 16 4) } false

/-- MISSING. -/
def execMissing (s : State) : Out :=
  s.ykFront 0x06 fun m s =>
    let l := numAt m 2 1
    let k := numAt m 4 4
    if 16 ≤ l || s.isDecided l k then s else s.judgeFrame { s.ykFrame l k with gone := true } false

/-- AGREEMENT_POINT: A(k) of a frame of loop `l` that is not decided. -/
def execAgreementPoint (l : Fin 16) (k : BitVec 32) (s : State) : Out :=
  .next <|
    match s.yoke.frames.find? fun f => f.loop = l.val && f.k = k.toNat with
    | none => s
    | some f =>
      match f.start with
      | none => s
      | some st => if before s.ykNow (s.agreeAt l st) then s else s.judgeFrame f true

/-! ### The furrow hash (R410) -/

/-- The part values of a range: part p is furrow p's. -/
def State.hashParts (s : State) (base part : Nat) : Nat → List Nat → Option (List Nat) × State
  | 0, acc => (some acc.reverse, s)
  | fuel + 1, acc =>
    match s.readNormal (base + (16 - (fuel + 1)) * part) (part / 64 + 1) part with
    | (some b, s) => s.hashParts base part fuel (crc64 b :: acc)
    | (none, s) => (none, s)

/-- The values of one range, after those taken so far; a range of length 0 is not in use. -/
def State.hashRange (s : State) (r : Nat) (acc : List Nat) : Option (List Nat) × State :=
  let bytes := s.f YK_HASH_LEN.LEN r * 65536
  let len := bytes - bytes % 2 ^ 20
  if len = 0 then (some acc, s)
  else
    match s.hashParts (s.f YK_HASH_BASE.ADDR r * 65536) (len / 16) 16 [] with
    | (some v, s) => (some (acc ++ v), s)
    | (none, s) => (none, s)

/-- The values of all ranges in use, in ascending order of range and part. -/
def State.hashRanges (s : State) (rs : List Nat) : Option (List Nat) × State :=
  rs.foldl (fun x r => match x.1 with
    | some acc => x.2.hashRange r acc
    | none => x) (some [], s)

/-- Both hashes of one frame are present: a difference is LATENT_DIVERGENCE. -/
def State.hashCompare (s : State) (l k : Nat) : State :=
  match s.yoke.hashes.find? (fun x => x.1 = (l, k)), s.yoke.twinHashes.find? fun x => x.1 = (l, k) with
  | some a, some b =>
    let s := s.mapYoke fun y =>
      { y with hashes := y.hashes.filter (fun x => x.1 ≠ (l, k)), twinHashes := y.twinHashes.filter fun x => x.1 ≠ (l, k) }
    if a.2 = b.2 then s
    else (((s.setOn YK_EVENT.DIVERGENCE 0 true).bump YK_DIVCNT.COUNT 0).log1 0x0043 l k)
  | _, _ => s

/-- Hashes kept per side. -/
def hashKept : Nat := 64

/-- A checkpoint frame of a loop. -/
def State.checkpoint (s : State) (l k : Nat) : Bool :=
  s.on YK_HASH_CFG.EN 0 && s.ys = ysPaired && s.f YK_HASH_CFG.LOOP 0 = l && s.f YK_HASH_CFG.EVERY 0 ≠ 0 &&
  k % s.f YK_HASH_CFG.EVERY 0 = 0

/-- The hash of a checkpoint frame is taken and sent. -/
def State.takeHash (s : State) (l k : Nat) : State :=
  match s.hashRanges (List.range 16) with
  | (none, s) => s
  | (some v, s) =>
    let h := crc64 (v.flatMap (leBytes 8))
    let k := k % 2 ^ 32
    let s := (s.setF YK_HASH_LAST.HASH 0 h).setF YK_HASH_K.K 0 k
    let s := s.mapYoke fun y => { y with hashes := (((l, k), h) :: y.hashes).take hashKept }
    (s.ykSend (ykMsg 0x07 2 (leBytes 1 l ++ [0] ++ leBytes 4 k ++ leBytes 8 h))).hashCompare l k

/-- HASH: the twin's hash. -/
def execHash (s : State) : Out :=
  s.ykFront 0x07 fun m s =>
    let l := numAt m 2 1
    let k := numAt m 4 4
    (s.mapYoke fun y => { y with twinHashes := (((l, k), numAt m 8 8) :: y.twinHashes).take hashKept }).hashCompare l k

end Sys2Proof.Machine
end

