-- ==== Sys2Proof/Machine/Sower.lean ====
section
/-! DEFINITION. Sower (chapter 15): arming and disarming a loop, the life of a frame, its sheaf; and the end of a
command's work, which a frame's sowing meets here. -/

namespace Sys2Proof.Machine

/-! ### A loop and its template (Table 15-1) -/

/-- The state that SOW_LOOP_CTL shows: that of the oldest frame not DONE. -/
def State.loopState (s : State) (x : FrameLoop) : Nat :=
  match x.run with
  | some r =>
    if r.digesting then 5
    else match (s.entry r.entry).bind (·.sow) with
      | some w => if w.cause.isSome then 4 else 3
      | none => 3
  | none => if x.waiting.isSome then 2 else if x.cause.isNone then 1 else 0

/-- A loop, replaced; NEXTK and NEXTTS follow. -/
def State.setLoop (s : State) (l : Nat) (x : FrameLoop) : State :=
  let s := { s with loops := put l x s.loops }
  (s.setF SOW_LOOP_NEXTK.K l x.k).setF SOW_LOOP_NEXTTS.TS l (s.frameStart l x x.k)

/-- The template: what the FRAME_ARM's checks read. -/
def State.template (s : State) (x : FrameLoop) : List Byte := ((s.entry x.entry).map (·.content.take 128)).getD []

/-- The time that a loop's frames follow: yoke time for a yoked one (R400). -/
def State.loopNow (s : State) (l : Nat) : Nat := if s.yoked l then s.ykNow else s.now

/-- Has a time come? -/
def State.loopDue (s : State) (l t : Nat) : Bool := !before (s.loopNow l) t

/-- The deadline of a frame (R344). -/
def State.frameDeadline (s : State) (l : Nat) (x : FrameLoop) (k : Nat) : Nat :=
  (s.frameStart l x k + nsCounts (s.f SOW_LOOP_DEADLINE.NS l)) % 2 ^ 64

/-- The commit count of the loop's stream less C₀. -/
def State.loopCommitted (s : State) (t : List Byte) (x : FrameLoop) : Nat :=
  if numAt t 64 4 = 0xFFFFFFFF then 0 else modDiff 32 (s.f HRW_S_COMMIT.COUNT (numAt t 64 4)) x.c0

/-- The input of frame k is ready (R347). -/
def State.inputReady (s : State) (t : List Byte) (x : FrameLoop) (k : Nat) : Bool :=
  numAt t 64 4 = 0xFFFFFFFF ||
  decide (modDiff 32 (s.loopCommitted t x) ((k - x.k0 + 1) * numAt t 68 4) < 2 ^ 31)

/-- The current time plus BUDGET lies at or before the deadline. -/
def State.budgetOk (s : State) (l : Nat) (t : List Byte) (x : FrameLoop) (k : Nat) : Bool :=
  !before (s.frameDeadline l x k) ((s.loopNow l + nsCounts (numAt t 76 4)) % 2 ^ 64)

/-- Every core of the loop is free of a thread-group reset. -/
def State.coresFree (s : State) (x : FrameLoop) : Bool := x.cores.all fun n => (find n s.clk.tg).isNone

/-- The queue of the loop's FRAME_ARM. -/
def State.loopQueue (s : State) (l : Nat) : Nat := s.f SOW_LOOP_CTL.PLOT l * 8 + s.f SOW_LOOP_CTL.QUEUE l

/-- A FRAME packet of the system stream (R540): 0 released, 1 ended, 2 dropped, 3 deadline missed. -/
def State.frameTrace (s : State) (l k event : Nat) : State :=
  s.trSystem 0x11 (leBytes 1 l ++ leBytes 4 k ++ leBytes 1 event ++ leBytes 8 s.now)

/-! ### Arming and disarming (R342 to R347, R360) -/

/-- The smallest k whose S(k) lies at or after a time. -/
def firstFrame (start period t : Nat) : Nat :=
  if before start t then (10 * modDiff 64 t start + period - 1) / period else 0

/-- FRAME_ARM with ACTION 0. -/
def execFrameArm (e : Fin 4096) (s : State) : Out :=
  s.work e 0x10 .ok fun x s =>
    let l := x.pk 32 1
    if x.pk 33 1 ≠ 0 then s.setEntry e x
    else
      match s.armChecks { x with state := .held } with
      | some r => s.endWork e r
      | none =>
        let t := x.content.take 128
        let s := (((s.setOn SOW_LOOP_CTL.ARMED l true).setF SOW_LOOP_CTL.PLOT l x.plot).setF SOW_LOOP_CTL.QUEUE l x.queue).setF
          SOW_LOOP_CTL.MISSRUN l 0
        let s := (s.setF SOW_LOOP_PERIOD.NS l (x.pk 16 4)).setF SOW_LOOP_DEADLINE.NS l (x.pk 20 4)
        let now := s.loopNow l
        let start := if x.pk 24 8 = 0 then (now + usCounts 1000) % 2 ^ 64 else x.pk 24 8
        let k0 := firstFrame start (x.pk 16 4) ((now + usCounts 100) % 2 ^ 64)
        let n := numAt t 64 4
        let s := s.setLoop l { entry := e, cores := sowCores t, start := start, k0 := k0, k := k0
                               c0 := if n = 0xFFFFFFFF then 0 else s.f HRW_S_COMMIT.COUNT n }
        if s.yoked l then
          (s.mapYoke fun y =>
            { y with frames := y.frames.filter (fun f => f.loop ≠ l || f.start.isNone), decided := drop l y.decided }).sendArm l
        else s

/-- A loop is disarmed (Table 15-6): no frame is released from now on; a WAITING frame ends with no reply. -/
def State.disarm (s : State) (l cause : Nat) : State :=
  match s.loop l with
  | none => s
  | some x => s.setLoop l { x with cause := some (x.cause.getD cause), waiting := none }

/-- FRAME_ARM with ACTION 1: its reply follows that of the arming FRAME_ARM. -/
def execFrameDisarm (e : Fin 4096) (s : State) : Out :=
  s.work e 0x10 .ok fun x s =>
    let l := x.pk 32 1
    if x.pk 33 1 ≠ 1 then s.setEntry e x
    else
      match s.loopOwner l, s.loop l with
      | some p, some y =>
        if p ≠ x.plot then s.endWork e { status := stLease, detail := dtOwned }
        else
          let order := (s.entry y.entry).map (·.order)
          ((s.modEntry e fun z => { z with target := order, reply := some {} })).disarm l 1
      | _, _ => s.endWork e { status := stBusy }

/-- SHEAF_DECLARE (R354): from the next frame released. -/
def execSheafDeclare (e : Fin 4096) (s : State) : Out :=
  s.work e 0x11 .ok fun x s =>
    let l := x.pk 8 1
    if s.loopOwner l ≠ some x.plot then s.endWork e { status := stBusy }
    else
      match s.loop l with
      | some y => (s.setLoop l { y with sheaf := sheafList x }).endWork e {}
      | none => s.endWork e { status := stBusy }

/-! ### Outcomes (R353, R357, R358) -/

/-- A frame's reply (Table 15-4). -/
def State.frameReply (s : State) (l : Nat) (x : FrameLoop) (k : Nat) (r : Reply) : State :=
  match s.entry x.entry with
  | none => s
  | some a => s.writeReply (s.loopQueue l) a.seq { r with aux := k % 2 ^ 32 } false (numAt a.packet 1 1 / 2 % 2 = 1)
      (numAt a.content 2 2) 0x01

/-- A frame's outcome counts (R357); at MAXMISS the loop is disarmed. -/
def State.countOutcome (s : State) (l : Nat) (t : List Byte) (status : Nat) : State :=
  if status = stOk then (s.bump SOW_LOOP_OK.COUNT l).setF SOW_LOOP_CTL.MISSRUN l 0
  else
    let s := if status = stDeadline then s.bump SOW_LOOP_MISSED.COUNT l
      else if status = stDropped then s.bump SOW_LOOP_DROPPED.COUNT l else s.bump SOW_LOOP_FAULTED.COUNT l
    let s := s.bump SOW_LOOP_CTL.MISSRUN l
    let m := numAt t 85 1
    if m ≠ 0 && m ≤ s.f SOW_LOOP_CTL.MISSRUN l then s.disarm l 3 else s

/-- A frame is reported missing to the yoke path (R358). -/
def State.reportMissing (s : State) (l k cause : Nat) : State := if s.yoked l then s.ykMissing l k cause else s

/-! ### The life of a frame (R348 to R352) -/

/-- FRAME_START: S(k) of the next frame. -/
def execFrameStart (l : Fin 16) (s : State) : Out :=
  .next <|
    match s.loop l with
    | none => s
    | some x =>
      let st := s.frameStart l x x.k
      if x.cause.isSome || x.waiting.isSome || !s.loopDue l st then s
      else
        let s := s.setLoop l { x with waiting := some x.k, k := x.k + 1 }
        if s.yoked l then s.ykStarts l x.k st else s

/-- A WAITING frame may be released (R349). -/
def State.mayRelease (s : State) (l : Nat) (t : List Byte) (x : FrameLoop) (k : Nat) : Bool :=
  s.inputReady t x k && x.run.isNone && s.coresFree x && 0 < s.ringFree (s.loopQueue l) && s.budgetOk l t x k

/-- LATEST of a frame. -/
def State.frameLatest (s : State) (l : Nat) (t : List Byte) (x : FrameLoop) (k : Nat) : Nat :=
  (s.frameStart l x k + nsCounts (numAt t 72 4)) % 2 ^ 64

/-- The read of a plot's runtime descriptor waits at its channel (R309). -/
def State.sowWaits (s : State) (plot : Nat) : Option State :=
  match s.dmaReadAll plot (opAddr (s.plot plot).rtdesc) 4 128 with
  | (.held, s) => some s
  | _ => none

/-- Frame `k` of loop `l` is sown as ledger entry `e`: its command's record, and its contexts released (R346, R349). -/
def State.frameSown (s : State) (l : Fin 16) (e : Nat) (x : FrameLoop) (k : Nat) (a : Entry) : State :=
  let t := s.template x
  let y : Entry := { plot := a.plot, queue := a.queue, seq := a.seq, tag := numAt t 2 2, opcode := 0x01,
                     packet := t.take 64, order := s.drill.order, state := .running, since := some s.now,
                     frame := some l }
  let s := { s with drill := { s.drill with order := s.drill.order + 1 } }
  let s := ((s.setEntry e y).cmdTrace e y 0 0).cmdTrace e y 1 0
  let arg := numAt t 16 8 + k % numAt t 84 1 * numAt t 88 8
  let extra : List (Nat × Word) := [(2, BitVec.ofNat 64 arg), (6, BitVec.ofNat 64 k),
    (7, BitVec.ofNat 64 (s.frameStart l x k))]
  let s := (s.startSow e y (t.take 64) extra).frameTrace l k 0
  s.setLoop l { x with waiting := none, run := some { entry := e, k := k, sheaf := x.sheaf }, last := some k }

/-- FRAME_RELEASE: the frame's sowing takes ledger entry `e`, a FREE one, and its contexts are released. -/
def execFrameRelease (l : Fin 16) (e : Fin 4096) (res : MemRes) (s : State) : Out :=
  .next <| s.withRes res fun s =>
    match s.loop l with
    | none => s
    | some x =>
      match x.waiting, s.entry x.entry with
      | some k, some a =>
        let t := s.template x
        if x.cause.isSome || (s.entry e).isSome || !s.mayRelease l t x k || before (s.frameLatest l t x k) (s.loopNow l) then s
        else if (s.sowWaits a.plot).isSome then (s.sowWaits a.plot).getD s
        else s.frameSown l e x k a
      | _, _ => s

/-- Why a WAITING frame is dropped (Table 15-4). -/
def State.dropCause (s : State) (l : Nat) (t : List Byte) (x : FrameLoop) (k : Nat) : Nat :=
  if !s.inputReady t x k then 1
  else if !s.budgetOk l t x k then 2
  else if x.run.isSome then 3
  else if !s.coresFree x then 4
  else 1

/-- FRAME_DROP (R350). -/
def execFrameDrop (l : Fin 16) (s : State) : Out :=
  .next <|
    match s.loop l with
    | none => s
    | some x =>
      match x.waiting with
      | none => s
      | some k =>
        let t := s.template x
        let latest := s.frameLatest l t x k
        let passed := before latest (s.loopNow l) || (s.loopDue l latest && !s.mayRelease l t x k)
        if x.cause.isSome || !(passed || (s.inputReady t x k && !s.budgetOk l t x k)) then s
        else
          let r : Reply := { status := stDropped, result := s.dropCause l t x k + s.loopCommitted t x * 2 ^ 32 }
          let s := s.setLoop l { x with waiting := none }
          let s := if s.ringFree (s.loopQueue l) = 0 then s.setOn SOW_LOOP_EVT.RINGFULL l true else s.frameReply l x k r
          (((s.frameTrace l k 2).tally 0x052 l 1).reportMissing l k 1).countOutcome l t stDropped

/-- WARN (R351). -/
def execWarn (l : Fin 16) (s : State) : Out :=
  .next <|
    match s.loop l with
    | none => s
    | some x =>
      match x.run with
      | none => s
      | some r =>
        match (s.entry r.entry).bind (·.sow) with
        | none => s
        | some w =>
          let t := s.template x
          let at' := (s.frameStart l x r.k + nsCounts (numAt t 80 4)) % 2 ^ 64
          if numAt t 80 4 = 0 || r.warned || r.digesting || w.cause.isSome || w.over s || !s.loopDue l at' then s
          else
            let hs := w.threads.filter fun h => !w.parked.contains h && !(s.thread h).exited
            let s := (hs.foldl (fun s h => s.raiseAsync h cFrameTick) s).setOn SOW_LOOP_EVT.WARNED l true
            s.setLoop l { x with run := some { r with warned := true } }

/-- A frame whose deadline has passed is missing, unless its sowing ended in time. -/
def State.deadlineOf (s : State) (l : Nat) (x : FrameLoop) (r : RunFrame) : State :=
  match s.entry r.entry with
  | none => s
  | some y =>
    match y.sow with
    | none => s
    | some w =>
      if w.cause.isSome then (s.setLoop l { x with run := some { r with told := true } }).reportMissing l r.k 3
      else if w.over s then s
      else
        let s := s.stopSowing r.entry y w { status := stDeadline }
        (s.setLoop l { x with run := some { r with told := true } }).reportMissing l r.k 2

/-- DEADLINE (R352, R358). -/
def execDeadline (l : Fin 16) (s : State) : Out :=
  .next <|
    match s.loop l with
    | none => s
    | some x =>
      match x.owed with
      | some k =>
        if s.loopDue l (s.frameDeadline l x k) then (s.setLoop l { x with owed := none }).reportMissing l k 3 else s
      | none =>
        match x.run with
        | none => s
        | some r =>
          if r.digesting || r.told || !s.loopDue l (s.frameDeadline l x r.k) then s else s.deadlineOf l x r

/-- A frame is DONE: its entry becomes FREE. -/
def State.frameDone (s : State) (l : Nat) (x : FrameLoop) (r : RunFrame) (rep : Reply) : State :=
  let s := s.frameReply l x r.k rep
  let s := match s.entry r.entry with
    | some y => s.cmdTrace r.entry y 2 rep.status
    | none => s
  ((s.freeEntry r.entry).setLoop l { x with run := none }).countOutcome l (s.template x) rep.status

/-- The last thread of a frame was parked after its deadline. -/
def State.parkedLate (s : State) (l : Nat) (x : FrameLoop) (r : RunFrame) (w : Sowing) : Bool :=
  let shift := (s.loopNow l + 2 ^ 64 - s.now) % 2 ^ 64
  before (s.frameDeadline l x r.k) ((w.last + shift) % 2 ^ 64)

/-- The time from S(k) to the end of an OK sowing, in ns (SOW_LOOP_WORST). -/
def State.countWorst (s : State) (l : Nat) (x : FrameLoop) (r : RunFrame) (w : Sowing) : State :=
  let shift := (s.loopNow l + 2 ^ 64 - s.now) % 2 ^ 64
  let ns := 10 * modDiff 64 ((w.last + shift) % 2 ^ 64) (s.frameStart l x r.k)
  if s.f SOW_LOOP_WORST.NS l < ns then s.setF SOW_LOOP_WORST.NS l (min ns (2 ^ 32 - 1)) else s

/-- The sowing of a frame has ended (R348): DIGESTING with a sheaf, else DONE. -/
def State.frameEnds (s : State) (l : Nat) (x : FrameLoop) (r : RunFrame) (y : Entry) : State :=
  let w := y.sow.getD { threads := [] }
  match y.reply with
  | some rep =>
    let rep := { rep with status := stFaulted, result := w.first }
    let s := if r.told then s else s.setLoop l { x with owed := some r.k }
    s.frameDone l ((s.loop l).getD x) r rep
  | none =>
    match w.cause with
    | some _ =>
      let rep := { w.reply with result := w.first }
      let s := if rep.status = stDeadline then s.frameTrace l r.k 3 else s
      let s := if r.told then s else s.setLoop l { x with owed := some r.k }
      s.frameDone l ((s.loop l).getD x) r rep
    | none =>
      if !w.threads.isEmpty && s.parkedLate l x r w then
        let s := (s.frameTrace l r.k 3)
        let s := if r.told then s else s.reportMissing l r.k 2
        s.frameDone l x r { status := stDeadline, result := w.first }
      else
        let s := (s.frameTrace l r.k 1).countWorst l x r w
        if r.sheaf.isEmpty then s.frameDone l x r {}
        else s.setLoop l { x with run := some { r with digesting := true } }

/-- What a read of a sheaf brings. -/
inductive SheafRead where
  | regions (l : List (List Byte))
  | fail
  | held
deriving DecidableEq, Repr

/-- The sheaf's bytes, region by region, up to a part that cannot be read. -/
def State.readSheaf (s : State) (plot : Nat) : List (Nat × Nat) → SheafRead × State
  | [] => (.regions [], s)
  | r :: rs =>
    match s.dmaReadAll plot (opAddr r.1) (r.2 / 64 + 2) r.2 with
    | (.fail, s) => (.fail, s)
    | (.held, s) => (.held, s)
    | (.data b, s) =>
      match s.readSheaf plot rs with
      | (.regions l, s) => (.regions (b :: l), s)
      | (x, s) => (x, s)

/-- The request block (R403): the first 256 bytes of the first region; what lies beyond a shorter region is free. -/
def State.requestBlock (s : State) (regions : List (List Byte)) : List Byte × State :=
  let b := ((regions.head?).getD []).take 256
  if b.length = 256 then (b, s) else (b ++ leBytes (256 - b.length) s.draw.1, s.draw.2)

/-- A frame's sheaf is read: the checkpoint's hash, the Reply and what the yoke path receives (R355, R402, R410). -/
def State.sheafIn (s : State) (l : Nat) (x : FrameLoop) (r : RunFrame) (regions : List (List Byte)) : State :=
  let bytes := regions.flatMap id
  let digest := crc64 bytes
  let s := if s.checkpoint l r.k then s.takeHash l r.k else s
  let (block, s) := s.requestBlock regions
  let s := s.frameDone l x r { result := digest }
  if s.yoked l then s.ykSheaf l r.k digest bytes.length block else s

/-- DIGEST_COMPLETE (R355, R402, R410): the reply is written, and the yoke path receives digest and regions. -/
def execDigestComplete (l : Fin 16) (res : MemRes) (s : State) : Out :=
  .next <| s.withRes res fun s =>
    match s.loop l with
    | none => s
    | some x =>
      match x.run with
      | none => s
      | some r =>
        if !r.digesting then s
        else
          match s.readSheaf (s.f SOW_LOOP_CTL.PLOT l) r.sheaf with
          | (.held, s) => s
          | (.fail, s) =>
            let first := (((s.entry r.entry).bind (·.sow)).map (·.first)).getD 0
            (s.reportMissing l r.k 3).frameDone l x r { status := stFaulted, detail := dtData, result := first }
          | (.regions regions, s) => s.sheafIn l x r regions

/-! ### The end of a command's work -/

/-- The arming FRAME_ARM's reply (Table 15-6). -/
def armReply (cause last : Nat) : Reply :=
  let base : Reply := { aux := last % 2 ^ 32, result := cause }
  match cause with
  | 1 => base
  | 2 => { base with status := stAborted }
  | 3 => { base with status := stDeadline }
  | _ => { base with status := stFaulted, detail := dtLockup }

/-- The arming FRAME_ARM of a disarmed loop replies after its last frame; the loop is no longer armed. -/
def State.armEnds (s : State) (l : Nat) (x : FrameLoop) (e : Nat) (y : Entry) : State :=
  match x.cause with
  | none => s
  | some c =>
    if x.run.isSome || x.owed.isSome then s
    else
      let (v, s) := match x.last with | some k => (k, s) | none => s.draw
      let s := s.replyEntry e y (armReply c v)
      let s := { s with loops := drop l s.loops }
      let s := s.setOn SOW_LOOP_CTL.ARMED l false
      if s.yoked l then s.sendArm l else s

/-- The end of work (R331): of a frame's sowing, of an arming FRAME_ARM, or of any other command. -/
def State.takeEnd (s : State) (e : Nat) : State :=
  match s.entry e with
  | none => s
  | some y =>
    match y.frame with
    | some l =>
      (match s.loop l with
       | some x =>
         (match x.run with
          | some r =>
            if r.entry = e && !r.digesting && (y.reply.isSome || y.sow.any fun w => w.over s) then s.frameEnds l x r y else s
          | none => s)
       | none => s)
    | none =>
      match s.loops.find? fun x => x.2.entry = e with
      | some x => if y.opcode = 0x10 && y.reply.isNone then s.armEnds x.1 x.2 e y else s.endReport e
      | none => s.endReport e

end Sys2Proof.Machine
end

