-- ==== Sys2Proof/Machine/Arbiter.lean ====
section
/-! DEFINITION. ABORT and its arbiter (R332, R333), and the Headland mailbox path (R334). -/

namespace Sys2Proof.Machine

/-! ### ABORT (R332, Table 14-6a) -/

/-- A RUNNING command that ABORT never stops. -/
def nonAbortable (op : Nat) : Bool := [0x09, 0x0B, 0x0C, 0x0D, 0x0F, 0x12].contains op

/-- The work of an ABORTING command is stopped; work that has not begun ends at once, a piece that is on its way first
arrives. -/
def State.stopWork (s : State) (e : Nat) (x : Entry) : State :=
  if !x.begun then s.endWork e {}
  else
    match x.opcode with
    | 0x01 => (match x.sow with | some w => s.stopSowing e x w { status := stAborted } | none => s)
    | 0x05 =>
      (match s.stream (x.pk 8 4) with
       | some y => if y.closing = some e then (s.setStream (x.pk 8 4) { y with closing := none }).endWork e {} else s
       | none => s)
    | 0x0A =>
      let c := x.pk 8 1
      if (s.seq c).entry = some e && (s.seq c).ended.isNone then s.tillEnd c 3 else s
    | 0x10 => (match s.loops.find? fun l => l.2.entry = e with | some l => s.disarm l.1 2 | none => s)
    | _ => s

/-- A HELD command is aborted: nothing of it starts. -/
def State.abortHeld (s : State) (e : Nat) : State :=
  (s.refuse e { status := stAborted }).forget e

/-- ABORT: the arbiter resolves the target; its reply comes first (R333). -/
def execAbort (e : Fin 4096) (s : State) : Out :=
  s.work e 0x0D .ok fun x s =>
    let tooLate (d : Nat) : Reply := { status := stTooLate, detail := d }
    match s.seqEntry x.plot (x.pk 8 1) (x.pk 12 4) with
    | none => s.endWork e (if s.seqRetired x.plot (x.pk 8 1) (x.pk 12 4) then tooLate 0
                           else { status := stBad, detail := dtUnknown })
    | some (k, y) =>
      let hit (s : State) : State := (s.modEntry e fun z => { z with target := some y.order }).endWork e {}
      match y.state with
      | .parse => hit (s.abortHeld k)
      | .held => hit (s.abortHeld k)
      | .running =>
        if nonAbortable y.opcode then s.endWork e (tooLate dtNonabortable)
        else
          let y' := { y with state := .aborting }
          hit ((s.setEntry k y').stopWork k y')
      | .aborting => s.endWork e (tooLate dtAlready)
      | .retiring => s.endWork e (tooLate 0)

/-! ### The Headland mailbox (R334) -/

/-- HEADLAND_MSG: the payload goes to the island unchanged. -/
def execHeadlandMsg (e : Fin 4096) (s : State) : Out :=
  s.work e 0x12 .ok fun x s =>
    (s.modEntry e fun y => { y with since := some s.now }).deliver (x.pk 8 2) (x.content.take (x.pk 10 2))

/-- An outstanding HEADLAND_MSG. -/
def State.msgOut (s : State) (e : Nat) : Option Entry :=
  (s.entry e).filter fun x => x.opcode = 0x12 && x.state = .running && x.begun && x.reply.isNone

/-- MAILBOX_ANSWER: the answer goes to RSP, its result code to RESULT. -/
def execMailboxAnswer (e : Fin 4096) (res : MemRes) (s : State) : Out :=
  .next <| s.withRes res fun s =>
    match s.msgOut e, s.isl.answer with
    | some x, some (code, rsp) =>
      let s := s.mapIsl fun i => { i with answer := none }
      let (ok, s) := if rsp.isEmpty then (true, s) else s.putBytes x.plot (x.pk 24 8) rsp
      s.endWork e (if ok then { status := if code = msgUntested then stUntested else stOk, result := code }
                   else { status := stFaulted, detail := dtAddr })
    | _, _ => s

/-- 100 ms. -/
def islandWait : Nat := usCounts 100000

/-- ISLAND_TIMEOUT: no answer came; a later one is not delivered. -/
def execIslandTimeout (e : Fin 4096) (s : State) : Out :=
  .next <|
    match s.msgOut e with
    | none => s
    | some x =>
      match x.since with
      | some t =>
        if s.isl.answer.isSome || s.since t < islandWait then s
        else (s.mapIsl fun i => { i with msg := none, answer := none }).endWork e { status := stFaulted, detail := dtIsland }
      | none => s

end Sys2Proof.Machine
end

