-- ==== Sys2Proof/Machine/Reeve.lean ====
section
/-! DEFINITION. Reeve: the fault log (R551 to R558), throttling (R561 to R564) and health sampling
(R560, R565). -/

namespace Sys2Proof.Machine

/-! ### The fault log -/

/-- The slots of the log (R551). -/
def logSlots : Nat := 4096

/-- How long ago an entry was written, in writes, by SEQ modulo 2^32 (R566). -/
def logAge (next : Nat) (e : LogEntry) : Nat := modDiff 32 next e.seq

/-- The slot, of those that satisfy `p`, whose entry is newest. -/
def newestWhere (next : Nat) (p : LogEntry → Bool) : List (Nat × LogEntry) → Option (Nat × LogEntry)
  | [] => none
  | c :: r =>
    match newestWhere next p r with
    | none => if p c.2 then some c else none
    | some b => if p c.2 && decide (logAge next c.2 < logAge next b.2) then some c else some b

/-- The slot, of those that satisfy `p`, whose entry is oldest. -/
def oldestWhere (next : Nat) (p : LogEntry → Bool) : List (Nat × LogEntry) → Option (Nat × LogEntry)
  | [] => none
  | c :: r =>
    match oldestWhere next p r with
    | none => if p c.2 then some c else none
    | some b => if p c.2 && decide (logAge next b.2 < logAge next c.2) then some c else some b

/-- The lowest-numbered slot, from `n` on, whose VALID is 0 (R554). -/
def freeSlot (log : List (Nat × LogEntry)) : Nat → Nat → Option Nat
  | 0, _ => none
  | fuel + 1, n => if (findD {} n log).valid then freeSlot log fuel (n + 1) else some n

/-- The existing entry that a new one merges into (R555). -/
def mergeTarget (next : Nat) (e : LogEntry) (log : List (Nat × LogEntry)) : Option (Nat × LogEntry) :=
  if 2 < e.severity then none
  else
    match newestWhere next
        (fun x => x.valid && x.code == e.code && x.inst == e.inst && x.plot == e.plot) log with
    | none => none
    | some b => if e.ts - b.2.lastTs ≤ 100000 then some b else none

/-- Where a new entry goes (R554): a free slot, else over the oldest non-sticky entry, else nowhere. -/
def logPlace (next : Nat) (log : List (Nat × LogEntry)) : Option Nat :=
  match freeSlot log logSlots 0 with
  | some n => some n
  | none => (oldestWhere next (fun x => x.valid && !x.sticky) log).map (·.1)

/-- The vector of a written or merged entry of severity 2 or above, and of LOG_FULL (R558). -/
def State.logNotify (s : State) : State :=
  if s.on RV_CFG.NOTIFY_EN 0 then s.notify 0 (s.f RV_CFG.VEC 0) else s

/-- The log's slots replaced. -/
def State.setLog (s : State) (log : List (Nat × LogEntry)) : State :=
  { s with reeve := { s.reeve with log := log } }

/-- The writer completes one entry (R554 to R556). -/
def State.logComplete (s : State) (e : LogEntry) : State :=
  let next := s.f RV_LOG_SEQ.SEQ 0
  let quiet (t : State) : State := if 2 ≤ e.severity then t.logNotify else t
  match mergeTarget next e s.reeve.log with
  | some (n, b) => quiet (s.setLog (put n { b with rep := min 255 (b.rep + 1), lastTs := e.ts } s.reeve.log))
  | none =>
    match logPlace next s.reeve.log with
    | some n =>
      quiet ((s.setLog (put n { e with seq := next, valid := true, rep := 1, lastTs := e.ts,
                                       sticky := decide (3 ≤ e.severity) } s.reeve.log)).wrapInc
              RV_LOG_SEQ.SEQ 0)
    | none => ((s.bump RV_LOG_LOST.COUNT 0).setOn RV_LOG_STAT.LOG_FULL 0 true).logNotify

/-- LOG_WRITE (R556): the writer completes the oldest queued entry; an empty queue has nothing to write, and without
REFCLK Reeve stands still (R46). -/
def execLogWrite (s : State) : Out :=
  match if s.live then s.reeve.logQueue else [] with
  | [] => .next s
  | e :: r => .next ({ s with reeve := { s.reeve with logQueue := r } }.logComplete e)

/-- The whole queue drains (R568: a package reset). -/
def State.drainLog (s : State) : List LogEntry → State
  | [] => s
  | e :: r => ({ s with reeve := { s.reeve with logQueue := r } }.logComplete e).drainLog r

/-- A write of an RV_ register (R571): plot 0, Reeve and the TAP may; Drill's is dropped and logged; no
other agent reaches the block (R76), nor one that does not run. -/
def State.rvWrite (s : State) (agent : Agent) (off : Nat) (effect : State → State) : State :=
  if !s.acts agent then s
  else match agent with
  | .plot p => if p.val = 0 then effect s else s
  | .reeve => effect s
  | .tap => effect s
  | .drill => s.writeDropped agent off

/-- LOG_ACK (R557): clears STICKY of one entry and leaves it valid. -/
def execLogAck (agent : Agent) (index : Fin 4096) (s : State) : Out :=
  .next (s.rvWrite agent 0x0C fun s =>
    match find index.val s.reeve.log with
    | none => s
    | some e => s.setLog (put index.val { e with sticky := false } s.reeve.log))

/-- LOG_ACK_ALL (R557): acknowledges every sticky entry. -/
def execLogAckAll (agent : Agent) (s : State) : Out :=
  .next (s.rvWrite agent 0x0C fun s => s.setLog (s.reeve.log.map fun c => (c.1, { c.2 with sticky := false })))

/-- LOG_CLEAR (R557): invalidates every entry. -/
def execLogClear (agent : Agent) (s : State) : Out :=
  .next (s.rvWrite agent 0x0C fun s => s.setLog (s.reeve.log.map fun c => (c.1, { c.2 with valid := false })))

/-! ### Throttling -/

/-- The larger of a list of readings, and its place. -/
def hottest : List Nat → Nat × Nat
  | [] => (0, 0)
  | [a] => (a, 0)
  | a :: r => let b := hottest r; if b.1 ≤ a then (a, 0) else (b.1, b.2 + 1)

/-- GRN_TEMP of each stack (Table 24-4), read at the stack's first channel. -/
def State.stackTemps (s : State) : List Nat := (List.range 6).map fun k => s.f GRN_TEMP.TEMP (16 * k)

/-- The applied DUTY: the lower of what the two controllers ask for (R561), 0 under THERM_CRIT (R564). -/
def State.applyDuty (s : State) : State :=
  let p := s.f RV_THROT.PDUTY 0
  let t := s.reeve.thermalDuty
  let s := s.setF RV_THROT.DUTY 0 (if s.on RV_THROT.CRIT 0 then 0 else min p t)
  (s.setOn RV_THROT.THERMAL 0 (t < 64 && t ≤ p)).setOn RV_THROT.POWER 0 (p < 64 && p ≤ t)

/-- The thermal controller's next DUTY (R563). -/
def thermalNext (duty field stack tField tStack : Nat) : Nat :=
  if tField < field || tStack < stack then max 8 (duty - 4)
  else if field + 3 ≤ tField && stack + 3 ≤ tStack then min 64 (duty + 1)
  else duty

/-- A reading at or above its critical value (R564). -/
def critReached (field headland stack : Nat) : Bool := 110 ≤ field || 110 ≤ headland || 105 ≤ stack

/-- Every reading at least 10 °C below its critical value (R564). -/
def critOver (field headland stack : Nat) : Bool := field ≤ 100 && headland ≤ 100 && stack ≤ 95

/-- The sensor that a thermal entry names: a Field sensor 0 to 17, else a number the spec does not give. -/
def sensorName (inField inStack : Bool) (fieldSensor stackNo headNo : Nat) : Nat :=
  if inField then fieldSensor
  else if inStack then Config.counterNumber (1000 + stackNo) else Config.counterNumber (1100 + headNo)

/-- THERM_CRIT is entered, or ends, at this sample (R564). -/
def State.thermCrit (s : State) (f st h : Nat × Nat) : State :=
  if s.on RV_THROT.CRIT 0 then
    if critOver f.1 h.1 st.1 then s.setOn RV_THROT.CRIT 0 false else s
  else if critReached f.1 h.1 st.1 then
    let t := if 110 ≤ f.1 then f.1 else if 105 ≤ st.1 then st.1 else h.1
    (s.setOn RV_THROT.CRIT 0 true).log1 0x0072
      (sensorName (110 ≤ f.1) (105 ≤ st.1) f.2 st.2 h.2) t
  else s

/-- The thermal controller's step (R563); an episode that lowers DUTY writes its entry when it ends, with
the DUTY it reached and the sensor of its last lowering. -/
def State.thermalStep (s : State) (f st : Nat × Nat) : State :=
  let tF := s.f RV_TLIM.T_FIELD 0
  let tS := s.f RV_TLIM.T_STACK 0
  let d := thermalNext s.reeve.thermalDuty f.1 st.1 tF tS
  let lower := decide (d < s.reeve.thermalDuty)
  let ended := s.reeve.thermalEpisode && !lower
  let name := if lower then sensorName (tF < f.1) true f.2 st.2 0 else s.reeve.thermalSensor
  let s := { s with reeve := { s.reeve with thermalDuty := d, thermalEpisode := lower, thermalSensor := name } }
  if ended then s.log1 0x0071 name s.reeve.thermalDuty else s

/-- The VDD_CORE setpoint that the fused voltage code names (R36): 0.70 to 0.80 V, in steps of 2.5 mV. -/
def fusedSetpoint : Nat := 280 + Config.voltageCode % 41

/-- Reeve trims the setpoint to follow the die temperature (R36): by at most four steps of 2.5 mV, within 0.70 to 0.80 V;
by how much is free. -/
def State.trimSetpoint (s : State) : State :=
  if !s.on DRL_STATUS.RUN 0 then s
  else { s.draw.2 with reeve := { s.draw.2.reeve with
    setpoint := max 280 (min 320 (fusedSetpoint + s.draw.1 % 9 - 4)) } }

/-- TEMP_SAMPLE (R36, R560, R563, R564): the 18 Field die readings and the 2 Headland readings; the stacks'
readings are GRN_TEMP. -/
def execTempSample (field headland : List Nat) (s : State) : Out :=
  if !s.live then .next s else
  let f := hottest field
  let h := hottest headland
  let st := hottest s.stackTemps
  let s := (((s.setF RV_TEMP.FIELD 0 f.1).setF RV_TEMP.SENSOR 0 f.2).setF RV_TEMP.STACK 0 st.1).setF
    RV_TEMP.HEADLAND 0 h.1
  .next ((s.thermalStep f st).thermCrit f st h).applyDuty.trimSetpoint

/-- The mean of a list, rounded down; 0 of none. -/
def mean (l : List Nat) : Nat := l.sum / l.length

/-- The calibrated estimate lies within 5 % of the measured power (R560). -/
def calibrate (measured : Option Nat) (raw : Nat) : Nat :=
  match measured with
  | none => raw
  | some m => max (m - m / 20) (min (m + m / 20) raw)

/-- What the power limiter does at one 10 µs sample (R562). -/
inductive PowerAct where
  | lower (by' : Nat)
  | raise
  | hold
deriving DecidableEq, Repr

/-- The limiter's choice (R562): 8 down above PL2; down by an amount the spec does not state while the
average has stayed above PL1 for 8 ms (800 samples) and is still above it; up by 1 every 100 µs (10
samples) while nothing forbids it. -/
def powerAct (avg pl1 pl2 : Nat) (toPl1 : Bool) (cap : Option Nat) (duty since free : Nat) : PowerAct :=
  if pl2 < avg then .lower 8
  else if toPl1 && pl1 < avg then .lower (1 + free % 56)
  else if toPl1 then .hold
  else if 10 ≤ since && duty < (cap.getD 64) then .raise
  else .hold

/-- POWER_ESTIMATE (R560, R562): one 10 µs estimate, before calibration. -/
def execPowerEstimate (watts : Nat) (s : State) : Out :=
  if !s.live then .next s else
  let r := s.reeve
  let samples := (calibrate r.measured watts :: r.samples).take 100000
  let avg := mean (samples.take 10)
  let avg1s := mean samples
  let pl1 := s.f RV_PLIM.PL1 0
  let pl2 := s.f RV_PLIM.PL2 0
  let above := if pl1 < avg then r.aboveCount + 1 else 0
  let toPl1 := r.toPl1 || decide (800 ≤ above)
  let ends := toPl1 && decide (avg ≤ pl1)
  let duty := s.f RV_THROT.PDUTY 0
  let cap := if avg1s + 20 ≤ pl1 then none else r.powerCap
  let (free, s) := s.draw
  let act := powerAct avg pl1 pl2 toPl1 cap duty (r.sinceRaise + 1) free
  let duty' := match act with
    | .lower n => max 8 (duty - n)
    | .raise => duty + 1
    | .hold => duty
  let lowers := decide (duty' < duty)
  let s := ((s.setF RV_THROT.PDUTY 0 duty').setF RV_POWER.AVG100US 0 avg).setF RV_POWER.AVG1S 0 avg1s
  let s := { s with reeve := { r with
    samples := samples, aboveCount := above, toPl1 := toPl1 && !ends,
    powerCap := if ends then some duty' else cap,
    sinceRaise := if act = PowerAct.raise then 0 else min 10 (r.sinceRaise + 1), powerEpisode := lowers } }
  .next (if r.powerEpisode && !lowers then s.log0 0x0070 duty' else s).applyDuty

/-- PMBUS_CALIBRATION (R560): the summed PMBus input power, every 10 ms. -/
def execPmbusCalibration (watts : Nat) (s : State) : Out :=
  .next (if s.live then { s with reeve := { s.reeve with measured := some watts } } else s)

/-! ### Error counters (R565) -/

/-- The error counters of Table 24-4: field, instance, the counter's register offset. -/
def errorCounters : List (Fld × Nat × Nat) :=
  ((List.range 16).flatMap fun f =>
    [(FUR_ECCCNT.L1, f, 0xC60), (FUR_ECCCNT.FC, f, 0xC60), (FUR_SILOECC.SPILL, f, 0xC64),
     (FUR_SILOECC.SILO, f, 0xC64)]) ++
  ((List.range 96).flatMap fun c =>
    [(GRN_CECNT.COUNT, c, 0x10), (GRN_LINKCNT.FAIL, c, 0x14), (GRN_LINKCNT.RETRY, c, 0x14)])

/-- ECC_RATE of one counter: its increase over 60 s exceeds LIMIT. -/
def State.eccRate (s : State) (old : Option (List Nat)) (n : Nat) (c : Fld × Nat × Nat) : State :=
  let inc := match old with
    | none => 0
    | some l => s.f c.1 c.2.1 - l.getD n 0
  if s.f RV_ECCWARN.LIMIT 0 < inc then s.log1 0x0023 (Config.counterNumber n) inc else s

/-- COUNTER_SATURATED of one counter: written once, and again only after it has read below saturation. -/
def State.eccSaturation (s : State) (n : Nat) (c : Fld × Nat × Nat) : State :=
  if s.f c.1 c.2.1 = 2 ^ c.1.width - 1 then
    if s.reeve.eccSaturated.contains n then s
    else { s with reeve := { s.reeve with eccSaturated := n :: s.reeve.eccSaturated } }.log1 0x0024
      (Config.counterNumber n) c.2.2
  else { s with reeve := { s.reeve with eccSaturated := s.reeve.eccSaturated.filter (· ≠ n) } }

/-- ERROR_COUNTER_SAMPLE (R565): each counter against its value 60 s earlier. -/
def execErrorCounterSample (s : State) : Out :=
  if !s.live then .next s else
  let now := errorCounters.map fun c => s.f c.1 c.2.1
  let cs := (List.range errorCounters.length).zip errorCounters
  let s' := cs.foldl (fun s c => s.eccRate s.reeve.eccHistory[59]? c.1 c.2) s
  let s' := cs.foldl (fun s c => s.eccSaturation c.1 c.2) s'
  .next { s' with reeve := { s'.reeve with eccHistory := (now :: s.reeve.eccHistory).take 60 } }

end Sys2Proof.Machine
end

