-- ==== Sys2Proof/Machine/Mailbox.lean ====
section
/-! DEFINITION. The mailbox, WAIT and NOP (R109 to R112, R129, R148, R327). -/

namespace Sys2Proof.Machine

def execNop (h : Tid) (s : State) : Out := s.scalar h id

/-- MSEND (R109): STORE_FAULT for a thread number above 1,023 or a target core not leased to the sender's plot;
else the post is on its way until MAILBOX_POST_DELIVERY. -/
def execMsend (h : Tid) (gs1 gs2 : Reg5) (pd : Pred) (s : State) : Out :=
  s.instr h fun t s =>
    let dst := (t.readG gs1).toNat
    if 1023 < dst || (s.core (coreOf dst)).lease ≠ some (s.plotOf h) then s.fault h cStoreFault (t.readG gs1)
    else s.setHold h (some (.msend dst (t.readG gs2) pd false))

/-- MAILBOX_POST_DELIVERY (R109, R147): the entry is appended, or refused by a full queue, and pd is written. pd of a
post that a reset of the target discarded (R129) is free. -/
def execMailboxPostDelivery (h : Tid) (s : State) : Out :=
  .next <|
    match (s.thread h).hold with
    | some (.msend dst payload pd lost) =>
      let (v, s) := if lost then s.draw else (0, s)
      let (ok, s) := if lost then (decide (v % 2 = 1), s) else s.postArrives h dst payload
      s.modThread h fun t => (t.writeP pd ok).next
    | _ => s

/-- MRECV (R111). -/
def execMrecv (h : Tid) (gd : Reg5) (pd : Pred) (s : State) : Out :=
  s.scalar h fun t =>
    match t.mailbox with
    | [] => t.writeP pd false
    | m :: r => ({ t with mailbox := r, mbsrc := m.2 }.writeG gd m.1).writeP pd true

/-- What WAIT writes to gd (R112). -/
def State.waitBits (s : State) (h : Nat) (expired : Bool) : Nat :=
  (if (s.thread h).mailbox = [] then 0 else 1) + (if s.anyAsync h then 2 else 0) + (if expired then 4 else 0)

/-- WAIT retires. -/
def State.waitRetires (s : State) (h : Nat) (gd : Reg5) (expired : Bool) : State :=
  let v := s.waitBits h expired
  s.modThread h fun t => { (t.writeG gd (BitVec.ofNat 64 v)).next with mode := .running }

/-- WAIT (R112). In the form of R327 the thread exits, and Drill sets STOP_REQ pending for it. -/
def execWait (h : Tid) (gd gs1 : Reg5) (s : State) : Out :=
  s.instr h fun t s =>
    let exits := t.ring = 0 && gs1.val = 0 && t.gmask
    if !exits && s.waitBits h false ≠ 0 then s.waitRetires h gd false
    else
      let s := s.setThread h { t with mode := .waiting, hold := some (.wait gd (t.readG gs1 ≠ 0) false), exited := exits }
      if exits then s.raiseAsync h cStopReq else s

/-- WAIT_TIMEOUT: gs1 core cycles have passed. -/
def execWaitTimeout (h : Tid) (s : State) : Out :=
  .next <|
    match (s.thread h).hold with
    | some (.wait gd true _) => s.setHold h (some (.wait gd true true))
    | _ => s

/-- WAIT_WAKE (R112, R148): a wake condition holds, and the WAIT retires. -/
def execWaitWake (h : Tid) (s : State) : Out :=
  .next <|
    match (s.thread h).hold with
    | some (.wait gd _ expired) =>
      if s.waitBits h expired ≠ 0 && s.coreRuns (coreOf h) then s.waitRetires h gd expired else s
    | _ => s

end Sys2Proof.Machine
end

