-- ==== Sys2Proof/Machine/Debug.lean ====
section
/-! DEFINITION. Halting, stepping and debug register access (R535 to R538), Gleaner's collection (R540 to R544,
R550) and Tally's registers (R545, R546). -/

namespace Sys2Proof.Machine

/-! ### Halting (R535 to R537) -/

/-- The threads that a request selects. -/
def selected (n : Nat) (mask : BitVec 8) : List Nat := (coreThreads n).filter fun h => mask.getLsbD (h % 8)

/-- Debug is enabled for a core. -/
def State.dbgEn (s : State) (n : Nat) : Bool := s.bitF GLN_DBGEN.CORES (n / 32) (n % 32)

/-- BUSY of GLN_HALTREQ clears when every selected thread has halted or has been found parked. -/
def State.haltBusy (s : State) : State :=
  let left := s.gln.haltSel.filter fun h => (s.thread h).mode ≠ .halted && (s.thread h).mode ≠ .parked
  { s with gln := { s.gln with haltSel := left } }.setOn GLN_HALTREQ.BUSY 0 (left ≠ [])

/-- A write of GLN_HALTREQ sets ACTION, which reads as zero; code 3 leaves the action of the write before (R10). -/
def State.haltAction (s : State) (a : Nat) : State := if a = 3 then s else s.setF GLN_HALTREQ.ACTION 0 a

/-- HALT_REQUEST (R535). -/
def execHaltRequest (agent : Agent) (n : Cid) (mask : BitVec 8) (s : State) : Out :=
  .next <|
    if !s.acts agent || !reaches agent then s
    else
    let s := s.haltAction 0
    if !s.dbgEn n then s.setOn GLN_HALTREQ.ERR 0 true
    else
      let hs := (selected n mask).filter fun h => (s.thread h).mode = .running || (s.thread h).mode = .waiting
      let s := hs.foldl (fun s h => s.modThread h fun t => { t with haltReq := true }) s
      { s with gln := { s.gln with haltSel := hs } }.haltBusy

/-- HALT (R536): a requested halt, or the end of a step, takes effect at an instruction boundary; what was not
performed is discarded and runs again. -/
def execHalt (h : Tid) (s : State) : Out :=
  .next <|
    let t := s.thread h
    let free := match t.hold with
      | none => true
      | some (.wait ..) => true
      | some w => w.discardable
    if !t.haltReq || t.raised.isSome || !free || (t.mode ≠ .running && t.mode ≠ .waiting) then s
    else
      ((s.trHalt h (if t.stepping then 2 else 0)).modThread h fun t =>
        { t with mode := .halted, hold := none, haltReq := false, stepping := false, noint := false }).haltBusy

/-- A halted thread runs again. -/
def State.unhalt (s : State) (h : Nat) (step noint : Bool) : State :=
  if (s.thread h).mode ≠ .halted then s
  else
    let s := s.modThread h fun t =>
      { t with mode := .running, haltReq := false, stepping := step, noint := noint }
    if step then s else ((s.trHalt h 1).trUnsync h).trRescan h

/-- RESUME_REQUEST (R537, R538): a request for all contexts of a locked core also ends its lockup. -/
def execResumeRequest (agent : Agent) (n : Cid) (mask : BitVec 8) (s : State) : Out :=
  .next <|
    if !s.acts agent || !reaches agent then s
    else
    let s := s.haltAction 1
    if s.locked n && mask ≠ 255 then s
    else
      let s := s.setBitF FUR_LOCKSTAT.LOCKED (n.val / 8) (n.val % 8) false
      (selected n mask).foldl (fun s h => s.unhalt h false false) s

/-- STEP (R535, R537). -/
def execStep (agent : Agent) (n : Cid) (mask : BitVec 8) (noint : Bool) (s : State) : Out :=
  .next <|
    if !s.acts agent || !reaches agent then s
    else
    let s := s.haltAction 2
    if !s.dbgEn n then s.setOn GLN_HALTREQ.ERR 0 true
    else if s.locked n then s
    else
      let hs := (selected n mask).filter fun h => (s.thread h).mode = .halted
      let s := hs.foldl (fun s h => s.unhalt h true noint) s
      { s with gln := { s.gln with haltSel := hs } }.haltBusy

/-! ### Debug register access (R538) -/

/-- A debug write of a CSR: neither rings nor access codes apply. What has no storage of its own keeps its value. -/
def Thread.debugCsr (t : Thread) (csr : Nat) (v : Word) : Thread :=
  match csr with
  | 0x000 => { t with ring := v.toNat % 4, gmask := v.toNat.testBit 2, dfa := v.toNat.testBit 3 }
  | 0x007 => { t with instret := v.toNat }
  | 0x009 => { t with mbsrc := v.toNat % 1024 }
  | _ => t.csrWrite csr v

/-- The index of a debug access names a register. -/
def dregOk (cls index : Nat) : Bool :=
  match cls with
  | 0 => index < 32
  | 1 => index < 32
  | 2 => index = 0
  | 3 => (csrRings index).isSome
  | 4 => index = 0
  | 5 => index < 512
  | _ => false

/-- Where a fragment word lies. -/
def dregByte (h index : Nat) : Nat := (h % 8 * 8 + index / 64) * 512 + 8 * (index % 64)

/-- What a debug read gives. -/
def State.dregRead (s : State) (h cls index : Nat) : Word :=
  let t := s.thread h
  match cls with
  | 0 => t.readG (Fin.ofNat 32 index)
  | 1 => t.readF (Fin.ofNat 32 index)
  | 2 => BitVec.ofNat 64 (setBit t.p 0 true)
  | 3 => s.csrRead h index
  | 4 => t.pc
  | _ => BitVec.ofNat 64 (leNat ((s.tile (coreOf h)).frags.read (dregByte h index) 8))

/-- A debug write. -/
def State.dregWrite (s : State) (h cls index : Nat) (v : Word) : State :=
  match cls with
  | 0 => s.modThread h fun t => t.writeG (Fin.ofNat 32 index) v
  | 1 => s.modThread h fun t => t.writeF (Fin.ofNat 32 index) v
  | 2 => s.modThread h fun t => { t with p := v.toNat % 256 / 2 * 2 }
  | 3 => s.modThread h fun t => t.debugCsr index v
  | 4 => s.modThread h fun t => { t with pc := masked v pcMask }
  | _ =>
    let u := s.tile (coreOf h)
    s.setTile (coreOf h) { u with frags := u.frags.write (dregByte h index) (leBytes 8 v.toNat) }

/-- DREG_ACCESS (R538): a write of GLN_DREG_SEL with GO. A fragment access waits until the core has no accepted tile
instruction. -/
def execDregAccess (agent : Agent) (write : Bool) (h : Tid) (cls : BitVec 3) (index : BitVec 12) (s : State) : Out :=
  .next <|
    if !s.acts agent || !reaches agent then s
    else
      let s := (s.setF GLN_DREG_SEL.THREAD 0 h).setF GLN_DREG_SEL.INDEX 0 index.toNat
      let s := if cls.toNat ≤ 5 then s.setF GLN_DREG_SEL.CLASS 0 cls.toNat else s
      let c := s.f GLN_DREG_SEL.CLASS 0
      if (s.thread h).mode ≠ .halted || !dregOk c index.toNat then s.setOn GLN_DREG_SEL.ERR 0 true
      else if c = 5 && (s.tile (coreOf h)).queue ≠ [] then s
      else if write then s.dregWrite h c index.toNat (BitVec.ofNat 64 (s.f GLN_DREG_DATA.DATA 0))
      else s.setF GLN_DREG_DATA.DATA 0 (s.dregRead h c index.toNat).toNat

/-! ### Gleaner (R543, R544, R550) -/

/-- OVERFLOW (R543): once 256 bytes are free after drops, OVERFLOW, then SYNC for each traced context that is running
or waiting; the drops are logged (Table 24-3, TRACE_OVERFLOW). -/
def execOverflow (c : Fin 256) (s : State) : Out :=
  .next <|
    let u := s.unit c
    if u.dropped = 0 || fifoMax < u.fifo.length + 256 then s
    else
      let s := s.setUnit c { u with dropped := 0 }
      let s := s.trBytes c (trHeader 8 0 :: leBytes 2 (min u.dropped 65535))
      let s := if c.val < 132 then
          (coreThreads c).foldl (fun s h => (s.trUnsync h).trRescan h) s
        else s
      s.log1 0x0061 c u.dropped

/-- Trace flushing has ended: BUSY clears. -/
def State.traceIdle (s : State) : State :=
  if s.gln.units.any fun x => x.2.flush then s else s.setOn GLN_TRC_STAT.BUSY 0 false

/-- Bytes of the trace buffer. -/
def State.bufSize (s : State) : Nat := s.f GLN_BUF_SIZE.SIZE 0 * 4096
def State.bufBase (s : State) : Nat := s.f GLN_BUF_BASE.ADDR 0 * 4096

/-- The 64-byte block of a core (R544). -/
def traceBlock (c seq : Nat) (payload : List Byte) : List Byte :=
  leBytes 2 c ++ leBytes 1 payload.length ++ leBytes 1 seq ++ payload ++ List.replicate (60 - payload.length) 0

/-- A block enters the buffer, or is discarded when the buffer is full in stop mode. -/
def State.traceStore (s : State) (block : List Byte) (payload : Nat) : State :=
  if s.on GLN_TRC_STAT.FULL 0 then s.bumpBy GLN_TRC_DROP.COUNT 0 payload
  else
    let wp := s.f GLN_BUF_WP.WP 0 * 64
    let s := s.coherentWrite ((s.bufBase + wp) / 64) fullMask block 2
    if wp + 64 < s.bufSize then s.setF GLN_BUF_WP.WP 0 (wp / 64 + 1)
    else if s.on GLN_TRC_CTL.STOPFULL 0 then (s.setF GLN_BUF_WP.WP 0 (wp / 64 + 1)).setOn GLN_TRC_STAT.FULL 0 true
    else (s.setF GLN_BUF_WP.WP 0 0).bump GLN_BUF_WRAPS.COUNT 0

/-- TRACE_BLOCK_WRITE (R542, R544): a core has 60 bytes, or its FIFO is being flushed, and a block is written. -/
def execTraceBlockWrite (c : Fin 256) (res : MemRes) (s : State) : Out :=
  .next <| s.withRes res fun s =>
    let u := s.unit c
    if (u.fifo.length < 60 && !u.flush) || u.fifo = [] then s
    else
      let payload := u.fifo.take 60
      let rest := u.fifo.drop 60
      let seq := findD 0 c.val s.gln.bseq
      let s := s.setUnit c { u with fifo := rest, flush := u.flush && rest ≠ [] }
      let s := { s with gln := { s.gln with bseq := put c.val ((seq + 1) % 256) s.gln.bseq } }
      (s.traceStore (traceBlock c seq payload) payload.length).traceIdle

/-- A core's FIFO, with its unfinished BRANCH packets, is to be flushed. -/
def State.traceFlush (s : State) (c : Nat) : State :=
  let s := (List.range 8).foldl (fun s j => s.trFlushBranch c j) s
  let u := s.unit c
  s.setUnit c { u with flush := u.fifo ≠ [] }

/-- GLN_BUF_BASE and GLN_BUF_SIZE are valid: a buffer of at least 4 KiB in the Granary memory region. -/
def State.bufOk (s : State) : Bool :=
  decide (0 < s.bufSize) && decide (s.bufSize ≤ 2 ^ 40) && decide (s.bufBase + s.bufSize ≤ granarySpan)

/-- Every listed thread is looked at again for R541. -/
def State.traceRescan (s : State) : State := (s.threads.map (·.1)).foldl (fun s h => s.trRescan h) s

/-- The fields of GLN_TRC_CTL beside EN. -/
def State.traceFields (s : State) (v : Nat) : State :=
  let s := ((((s.setOn GLN_TRC_CTL.STALL 0 (v.testBit 30)).setOn GLN_TRC_CTL.STOPFULL 0 (v.testBit 29)).setOn
    GLN_TRC_CTL.SYS 0 (v.testBit 28)).setF GLN_TRC_CTL.RINGS 0 (v / 2 ^ 24)).setF GLN_TRC_CTL.CTX 0 (v / 2 ^ 16)
  if 8 ≤ v / 256 % 32 then s.setF GLN_TRC_CTL.TSPER 0 (v / 256 % 32) else s

/-- TRACE_ENABLE (R550): a write of GLN_TRC_CTL. -/
def execTraceEnable (agent : Agent) (v : BitVec 32) (s : State) : Out :=
  .next <|
    if !s.acts agent || !reaches agent then s
    else
      let was := s.on GLN_TRC_CTL.EN 0
      let s := s.traceFields v.toNat
      if v.toNat.testBit 31 then
        if was || s.bufOk then (s.setOn GLN_TRC_CTL.EN 0 true).traceRescan else s.setOn GLN_TRC_STAT.CFG_ERR 0 true
      else if was then
        let s := s.setOn GLN_TRC_CTL.EN 0 false
        let s := (s.gln.units.map (·.1)).foldl (fun s c => s.traceFlush c) s
        (s.traceRescan.setOn GLN_TRC_STAT.BUSY 0 true).traceIdle
      else s

/-! ### Tally -/

/-- TALLY_CLEAR: every counter and overflow bit to zero. -/
def execTallyClear (agent : Agent) (s : State) : Out :=
  .next <|
    if !s.acts agent || !reaches agent then s
    else
      let s := (List.range 128).foldl (fun s n => s.setF TLY_CNT.COUNT n 0) s
      (List.range 4).foldl (fun s i => s.setF TLY_OVF.BITS i 0) s

/-- TALLY_OVF (R546): an enabled counter carries out of bit 47 and wraps to zero. A chained odd counter counts its
neighbour's carries only. -/
def execTallyOvf (n : Fin 128) (s : State) : Out :=
  .next <|
    if !s.on TLY_CTL.EN 0 || s.on TLY_CTL.FREEZE 0 || !s.on TLY_CFG.EN n || (n.val % 2 = 1 && s.on TLY_CFG.CHAIN (n.val - 1)) then s
    else (s.setF TLY_CNT.COUNT n 0).tallyCarry n

end Sys2Proof.Machine
end

