-- ==== Sys2Proof/Machine/Reset.lean ====
section
/-! DEFINITION. Clocks, supplies, power gating and the reset kinds (chapter 02). -/

namespace Sys2Proof.Machine

/-- Every channel number. -/
def allChans : List Nat := List.range 96

/-- Every stack enters self-refresh (R46, R47, R286). -/
def State.selfRefresh (s : State) : State := allChans.foldl (fun s c => s.setOn GRN_STATE.SELFREF c true) s

/-- A nonzero 32-bit epoch, else free (R398, R435). -/
def State.drawEpoch (s : State) : Nat × State := (s.draw.1 % (2 ^ 32 - 1) + 1, s.draw.2)

/-- The epochs of the yoke and of the fabric are drawn at each package start (notes/assumptions/59). -/
def State.newEpochs (s : State) : State :=
  let (a, s) := s.drawEpoch
  let (b, s) := s.drawEpoch
  { s.setF SWT_EPOCH.EPOCH 0 a with yoke := { s.yoke with epoch := b } }

/-- The GRN_ fields that only a power-on reset resets (R295). -/
def grnKept : List Fld :=
  [GRN_CECNT.COUNT, GRN_LINKCNT.FAIL, GRN_LINKCNT.RETRY, GRN_ERR_INFO.VALID, GRN_ERR_INFO.MORE, GRN_ERR_INFO.SRC,
   GRN_ERR_INFO.TYPE, GRN_ERR_ADDR.PA, GRN_ERR_TS.TS, GRN_UECNT.COUNT, GRN_SCRUB_POS.LINE]

/-- What a package reset clears (Tables 2-3, 2-4 and 12-2, R42, R295): the Field die, the Granary controllers and the
Headland blocks but CLK_, PWR_'s causes and count, Reeve and its fault log; the Drill watchdog's register goes to its reset
value. The Granary bytes, their poison, the flash, the island and the
level of the role strap stay; the seedboxes and tile arrays are undefined. -/
def State.packageClear (s : State) : State :=
  let lead := s.on YK_STATUS.LEAD 0
  let s := [Blk.BT, .FURG, .GRNG, .FUR, .DRL, .SOW, .HRW, .BND, .HST, .YK, .SWT, .SWTL, .GLN, .TLY].foldl
    (fun s b => s.resetBlk b) s
  let s := s.resetFields (Blk.GRN.fields.filter fun F => !grnKept.contains F)
  let s := s.resetFields [PWR_WDOG_CFG.PERIOD, PWR_WDOG_CFG.EN]
  let s := { s with
    threads := [], cores := [], tiles := [], caches := {}, seedbox := []
    granary := { s.granary with move := [], till := [], returning := [] }
    gln := { tap := s.gln.tap }
    drill := {}, loops := [], host := {}, links := [], yoke := {}, acre := {}, bnd := [], vecs := []
    boot := { flash := s.boot.flash, svnMin := s.boot.svnMin }
    clk := { s.clk with tg := [], plotReset := [], cc64 := 0, era := some s.fresh, training := false }
    fresh := s.fresh + 1 }
  (s.setOn YK_STATUS.LEAD 0 lead).newEpochs

/-- A containing reset is in progress (R45): the power-on reset, or the package reset that a lost root PLL holds. -/
def State.inReset (s : State) : Bool := s.clk.porstHeld || s.clk.rootHeld

/-- A package reset with its cause bit (R38, R40): absorbed while a containing reset is in progress; otherwise it is
counted and logged. -/
def State.packageReset (s : State) (cause : Fld) : State :=
  let s := s.setOn cause 0 true
  if s.inReset then s
  else
    let s := (s.bump PWR_RESET_COUNT.COUNT 0).packageClear.selfRefresh
    s.log0 0x0002 (s.regAt .PWR 0x4 0)

/-- What a power-on reset leaves (Table 2-4, R39): every field of the package at its reset value but the island's; the
flash and the pins are outside the reset. -/
def State.powerOn (s : State) : State :=
  let kept := PWR_RAIL_STATUS.GOOD :: Blk.HDL.fields
  { (State.reset) with
    regs := s.regs.filter (fun c : Nat × Nat => kept.any fun F => F.id == c.1 % 4096)
    isl := s.isl, pending := s.pending, sent := s.sent, fresh := s.fresh + 1
    clk := { refclk := s.clk.refclk, pwrfail := s.clk.pwrfail, perstLow := s.clk.perstLow,
             porstLow := s.clk.porstLow, railOut := s.clk.railOut, era := some s.fresh }
    boot := { flash := s.boot.flash, svnMin := s.boot.svnMin } }

/-- POWER_ON_RESET (R38): PORST_N goes low. -/
def execPowerOnReset (s : State) : Out :=
  .next { s.powerOn with clk := { s.powerOn.clk with porstLow := true } }

/-- The rails whose loss is a power-on reset: VDD_HL, VDD_IO18, VDD_IO33 and the SerDes rails (Tables 2-2 and 2-3). -/
def porRail (r : Nat) : Bool := decide (4 ≤ r) && decide (r ≤ 7)

/-- The power-on reset ends once PORST_N is high, no such rail is out of range and REFCLK runs: the root PLL locks (R44,
R49). -/
def State.porRelease (s : State) : State :=
  if !s.clk.porstHeld || s.clk.porstLow || s.clk.railOut.any porRail || !s.clk.refclk then s
  else
    let s := { s with clk := { s.clk with porstHeld := false } }
    ((s.setOn CLK_STATUS.ROOT_LOCK 0 true).newEpochs).log0 0x0001 0

/-- The bytes of a device that the 28 bits of BT_FLASH_ADDR reach. -/
def fitFlash (b : List (Nat × Byte)) : List Host.Cell :=
  b.foldl (fun m c => if c.1 < 2 ^ 28 then putD flashErased c.1 c.2 m else m) []

/-- PORST_N_RELEASE (R49, R594): the role strap is read as PORST_N rises; `flash` is the device that the board has
fitted, when it is another than before (notes/assumptions/60). -/
def execPorstNRelease (lead : Bool) (flash : Option FlashDevice) (s : State) : Out :=
  .next <|
    if !s.clk.porstLow then s
    else
      let s := { s with clk := { s.clk with porstLow := false } }
      let s := match flash with
        | none => s
        | some d => { s with boot := { s.boot with flash := fitFlash d.bytes } }
      (s.setOn YK_STATUS.LEAD 0 lead).porRelease

/-! ### Clocks (R33, R34, R46) -/

/-- REFCLK_LOSS: the timestamp holds, and TS_GAP is recorded. -/
def execRefclkLoss (s : State) : Out :=
  .next ({ s with clk := { s.clk with refclk := false } }.setOn CLK_EVENT.TS_GAP 0 true)

/-- REFCLK_RETURN: the timestamp goes on; a power-on reset that waited for the root PLL alone ends (R44). -/
def execRefclkReturn (s : State) : Out := .next { s with clk := { s.clk with refclk := true } }.porRelease

/-- ROOT_UNLOCK (R46): the Field die is held in package reset and the stacks are in self-refresh. -/
def execRootUnlock (s : State) : Out :=
  .next <|
    if s.inReset || !s.on CLK_STATUS.ROOT_LOCK 0 then s
    else
      let s := ((s.setOn CLK_STATUS.ROOT_LOCK 0 false).setOn CLK_STATUS.FALLBACK 0 true).setOn CLK_EVENT.ROOT_UNLOCK 0 true
      let s := s.packageClear.selfRefresh
      { s with clk := { s.clk with rootHeld := true } }.log0 0x0004 (s.regAt .CLK 0x4 0)

/-- ROOT_CLOCK (R46): lock returns, and the package reset completes with its cause. -/
def execRootClock (s : State) : Out :=
  .next <|
    if !s.clk.rootHeld || !s.clk.refclk then s
    else
      let s := (s.setOn CLK_STATUS.ROOT_LOCK 0 true).setOn CLK_STATUS.FALLBACK 0 false
      let s := { s with clk := { s.clk with rootHeld := false } }
      let s := (s.setOn PWR_RESET_CAUSE.ROOT_CLOCK 0 true).bump PWR_RESET_COUNT.COUNT 0
      s.log0 0x0002 (s.regAt .PWR 0x4 0)

/-- A count of a 10 µs window outside 980 to 1,020 (R34). -/
def badCount (n : Nat) : Bool := decide (n < 980) || decide (1020 < n)

/-- Bad windows in a row, up to the two that matter. -/
def badRun (run : Nat) (bad : Bool) : Nat := if bad then min (run + 1) 2 else 0

/-- CLOCK_WINDOW (R34): the island judges the edges of REFCLK and of the root PLL, the Headland monitor those of
REFCLK. -/
def execClockWindow (ref root : Nat) (s : State) : Out :=
  .next <|
    let s := s.mapIsl fun i => { i with refBad := badRun i.refBad (badCount ref), rootBad := badRun i.rootBad (badCount root) }
    let s := if s.isl.refBad = 2 || s.isl.rootBad = 2 then s.localLost else s
    if s.clk.porstHeld then s
    else
      let s := { s with clk := { s.clk with refBad := badRun s.clk.refBad (badCount ref) } }
      let s := s.setOn CLK_STATUS.REFCLK_OK 0 (!badCount ref)
      if s.clk.refBad = 2 then s.setOn CLK_EVENT.REFCLK_LOST 0 true else s

/-! ### Supplies (R35, R47, R592) -/

/-- The rails that the island samples (R35), numbered as PWR_RAIL_STATUS. -/
def islandRails : List Nat := [0, 1, 2, 3, 4, 6, 8]

/-- What the island makes of a sample (Tables 2-2 and 19-9): twenty bad ones in a row are a supply fault. -/
def State.islandRail (s : State) (r : Nat) (bad : Bool) : State :=
  if !islandRails.contains r then s
  else
    let n := findD 0 r s.isl.railBad
    let s := s.mapIsl fun i => { i with railBad := putD 0 r (if bad then min (n + 1) 20 else 0) i.railBad }
    let s := s.showCauses
    if !s.railFault r then s
    else if r = 8 then (s.enterFail.mapIsl fun i => { i with hwOff := true }).showCauses
    else if r = 6 then s
    else s.localLost

/-- SUPPLY_SAMPLE (R35, R38): a rail against its operating range; beyond its absolute range nothing is stated. -/
def execSupplySample (rail : Fin 9) (level : RailLevel) (s : State) : Out :=
  match level with
  | .beyondAbsolute => .fault .beyondAbsoluteRange
  | _ =>
    .next <|
      let bad := decide (level = .outside)
      let s := s.setBitF PWR_RAIL_STATUS.GOOD 0 rail.val (!bad)
      let rest := s.clk.railOut.filter (· ≠ rail.val)
      let s := { s with clk := { s.clk with railOut := if bad then rail.val :: rest else rest } }
      let s := if bad && porRail rail && !s.clk.porstHeld then s.powerOn else s
      (s.islandRail rail bad).porRelease

/-- PWRFAIL (R47, R462): every output path goes off, the island enters FAULT; Reeve logs the event and puts the stacks in
self-refresh. -/
def execPwrfail (s : State) : Out :=
  .next <|
    if s.clk.pwrfail then s
    else
      let s := { s with clk := { s.clk with pwrfail := true } }
      let s := s.pathsOff.disarmOperate.enterFault.showCauses
      if s.clk.porstHeld then s else (s.log0 0x0005 (s.regAt .PWR 0 0)).selfRefresh

/-- PWRFAIL_N_RELEASE (Table 19-9): the cause clears. -/
def execPwrfailNRelease (s : State) : Out := .next { s with clk := { s.clk with pwrfail := false } }.showCauses

/-- SELF_REFRESH_EXIT (R286): a stack takes accesses again; GCLK runs and no power failure is announced. -/
def execSelfRefreshExit (st : Stack) (s : State) : Out :=
  .next <|
    if s.inReset || s.clk.pwrfail || !s.on CLK_STATUS.ROOT_LOCK 0 then s
    else (stackChans st).foldl (fun s c => s.setOn GRN_STATE.SELFREF c false) s

/-! ### Package resets by request -/

/-- Who may write a PWR_ register (R52). -/
def pwrReach : Agent → Bool
  | .plot p => p.val = 0
  | .reeve => true
  | _ => false

/-- WARMRST_N. -/
def execWarmrstN (s : State) : Out := .next (s.packageReset PWR_RESET_CAUSE.WARM_PIN)

/-- PKG (R40, PWR_RESET_CTL): the key must be in the same write. -/
def State.pkgWrite (s : State) (agent : Agent) (key : Nat) : State :=
  if !pwrReach agent then s.writeDropped agent 8
  else if key = 0x4B31 then s.packageReset PWR_RESET_CAUSE.SOFT else s

def execPkg (agent : Agent) (key : BitVec 16) (s : State) : Out :=
  .next (if s.acts agent then s.pkgWrite agent key.toNat else s)

/-- KICK: the watchdog period begins again. Drill kicks its own watchdog (R341). -/
def State.kickWrite (s : State) (agent : Agent) : State :=
  if pwrReach agent || agent = .drill then { s with clk := { s.clk with kickAt := s.now } } else s.writeDropped agent 0x14

def execKick (agent : Agent) (s : State) : Out := .next (if s.acts agent then s.kickWrite agent else s)

/-- DRILL_WDOG (PWR_WDOG_CFG): PERIOD milliseconds passed without a kick. In a containing reset only the cause is set
(R45). -/
def execDrillWdog (s : State) : Out :=
  .next <|
    if !s.on PWR_WDOG_CFG.EN 0 || s.since s.clk.kickAt < usCounts (1000 * s.f PWR_WDOG_CFG.PERIOD 0) then s
    else
      let s := { s with clk := { s.clk with kickAt := s.now } }
      (if s.inReset then s else s.log0 0x0080 0).packageReset PWR_RESET_CAUSE.DRILL_WDOG

/-! ### Thread-group resets (R43) -/

/-- The core waits for nothing any more: no transaction outstanding, the merging buffer empty. The rows of a tile store
that have not been written stay unwritten (R232). -/
def State.drained (s : State) (n : Nat) : Bool :=
  (s.core n).mbuf.isEmpty && (s.core n).pfs.isEmpty &&
  (coreThreads n).all fun h =>
    (s.thread h).posted.isEmpty &&
    match (s.thread h).hold with
    | some (.load _) => false
    | some (.atomic _) => false
    | some (.cmo _) => false
    | _ => true

/-- Posts of the mailbox on their way to a thread that is reset are lost (R129). -/
def losePosts (h : Nat) (t : Thread) : Thread :=
  match t.hold with
  | some (.msend dst p pd _) => if dst = h then { t with hold := some (.msend dst p pd true) } else t
  | _ => t

/-- What a thread-group reset clears (Tables 2-4 and 6-6, R155): the contexts, the L1 caches, buffers and TLBs, the tile
arrays; the seedbox and the lease stay. Its own threads' posts still arrive (R129). -/
def State.tgClear (s : State) (n : Nat) : State :=
  let s := (coreThreads n).foldl (fun (s : State) h => s.landPost h) s
  let s := (coreThreads n).foldl (fun (s : State) h =>
    let ts := s.threads.map fun x => (x.1, losePosts h x.2)
    let s := { s with threads := ts }
    let s := (s.setThread h {}).trUnsync h
    (((s.setF FUR_XPEND.SRC h 0).setOn FUR_XPEND.LSE h false).sowParked h false)) s
  let s := s.setBitF FUR_LOCKSTAT.LOCKED (n / 8) (n % 8) false
  let s := s.setTile n { frags := .zeroed, silo := .zeroed, spill := .zeroed, nextSeq := (s.tile n).nextSeq }
  let c := s.core n
  let s := s.setCore n { mbNext := c.mbNext, gated := c.gated, lease := c.lease, idleAt := s.now,
                         cycleBase := s.clk.cc64 }
  let s := (((s.closeGroups n).setOn FUR_L1CTL.BUSY n false).setOn FUR_L1CTL.DEN n true).setOn FUR_L1CTL.IEN n true
  s.staleReads fun u => match u with | .load h => coreOf h = n | _ => false

/-- THREAD_GROUP_RESET (PWR_TG_RESET, R45): requests during a containing reset are absorbed. -/
def State.tgWrite (s : State) (agent : Agent) (n : Nat) : State :=
  if !pwrReach agent then s.writeDropped agent 0xC else if s.inReset then s else s.tgBegin n

def execThreadGroupReset (agent : Agent) (n : Cid) (s : State) : Out :=
  .next (if s.acts agent then s.tgWrite agent n else s)

/-- TG_DRAIN_DONE. -/
def execTgDrainDone (n : Cid) (s : State) : Out :=
  .next <|
    match find n.val s.clk.tg with
    | some (.draining _) =>
      if !s.drained n then s
      else
        let s := s.tgClear n
        { s with clk := { s.clk with tg := put n.val (.clearing s.clk.cc64) s.clk.tg } }
    | _ => s

/-! ### Plot resets (Table 2-4, R45, R364) -/

/-- The last step of a plot reset: Drill zeroes the leased cores, and the lease ends; channels on their way back to their
sets stay listed until they are there. -/
def State.plotFinish (s : State) (p : Nat) : State :=
  let cores := (List.range 128).filter fun n => (s.core n).lease = some p
  let s := (s.wholeFurrows p cores).foldl (fun s f => s.flushFurrow f) s
  let s := cores.foldl (fun s n => (s.zeroCore n).setCore n { (s.zeroCore n).core n with lease := none }) s
  let chans := (s.plot p).channels
  let s := { s with drill := { s.drill with plots := drop p s.drill.plots } }
  let s := if chans.isEmpty then s else s.setPlot p { channels := chans }
  { s with clk := { s.clk with plotReset := s.clk.plotReset.filter (· ≠ p) } }

/-- Plot resets whose leased cores have all completed their thread-group resets end. -/
def State.plotStep (s : State) : State :=
  (s.clk.plotReset.filter fun p =>
    (List.range 128).all fun n => (s.core n).lease ≠ some p || (find n s.clk.tg).isNone).foldl (fun s p => s.plotFinish p) s

/-- A request to another package that nobody waits for. -/
def State.staleReqs (s : State) (gone : SwUse → Bool) : State :=
  s.setReqs (s.acre.reqs.map fun r => if gone r.use then { r with use := .stale } else r)

/-- The fields of a queue's registers. -/
def queueFields : List Fld := (Blk.DRL.regs.filter fun r => 0x100000 ≤ r.off).flatMap (·.fields)

/-- The plot's entries of the ledger retire without replies; what was under way for them is discarded. -/
def State.retireSilently (s : State) (p : Nat) : State :=
  let es := (s.drill.ledger.filter fun x => x.2.plot = p).map (·.1)
  let s := s.staleReads fun u =>
    match u with
    | .packet q _ => q / 8 = p
    | .tail q => q / 8 = p
    | .content e => es.contains e
    | .copy e => es.contains e
    | .word e => es.contains e
    | _ => false
  let s := s.staleReqs fun u =>
    match u with
    | .read e _ _ => es.contains e
    | .write e _ => es.contains e
    | _ => false
  { s with drill := { s.drill with ledger := s.drill.ledger.filter (fun x => x.2.plot ≠ p),
                                   queues := s.drill.queues.filter fun x => x.1 / 8 ≠ p } }

/-- The plot's loops are disarmed without a reply. -/
def State.dropLoops (s : State) (p : Nat) : State :=
  ((s.loops.map (·.1)).filter fun l => s.f SOW_LOOP_CTL.PLOT l = p).foldl (fun s l =>
    let s := { s with loops := drop l s.loops }
    let s := s.setOn SOW_LOOP_CTL.ARMED l false
    if s.yoked l then s.sendArm l else s) s

/-- A till program of the plot's channel ends: the posted writes that it held are performed, nothing is reported; and the
channel starts on its way back. -/
def State.dropChannel (s : State) (c : Nat) : State :=
  let s := if s.on GRN_TILL_STAT.LOADED c then ((s.tillEnd c 3).landWrites c).tillUnload c else s
  { s with granary := { s.granary with returning := c :: s.granary.returning.filter (· ≠ c) } }.returnOn c

/-- The function goes back to ATTACHED without a session, its vectors with it. -/
def State.resetFunction (s : State) (p : Nat) : State :=
  let F := [HST_ATTACH.STATE, HST_ATTACH.SESSION, HST_ATTACH.CAUSE, HST_ATTACH.REBASE, HST_RB_SEL.KIND, HST_RB_SEL.INDEX,
    HST_RB_BASE.ADDR, HST_RB_CRBASE.ADDR, HST_RB_CTL.BUSY, HST_RB_CTL.ERR, HST_APTDROP.COUNT]
  let s := F.foldl (fun s f => s.setF f p f.rst) s
  { s with host := { s.host with fns := drop p s.host.fns }, vecs := s.vecs.filter fun x : Nat × Vec => x.1 / 256 ≠ p }

/-- A plot reset begins; one in progress takes a further one of the same plot in (R45). -/
def State.plotReset (s : State) (p : Nat) : State :=
  if s.clk.plotReset.contains p then s
  else
    let s := ((s.retireSilently p).dropLoops p)
    let s := (s.openStreams p).foldl (fun s n => s.dropStream n) s
    let s := (plotQueues p).foldl (fun s q => queueFields.foldl (fun s F => s.setF F q F.rst) s) s
    let s := ((List.range 64).filter fun n => s.on BND_OP_CTL.V n && s.f BND_OP_PLOT.PLOT n = p).foldl
      (fun s n => s.bndCtl n false false false 0 0) s
    let s := s.resetFunction p
    let s := (s.plot p).channels.foldl (fun s c => s.dropChannel c) s
    let cores := (List.range 128).filter fun n => (s.core n).lease = some p
    let s := cores.foldl (fun s n => s.tgBegin n) s
    { s with clk := { s.clk with plotReset := p :: s.clk.plotReset } }.plotStep

/-- TG_RESET_COMPLETE (R43): 4,096 cc after the drain. -/
def execTgResetComplete (n : Cid) (s : State) : Out :=
  .next <|
    match find n.val s.clk.tg with
    | some (.clearing t) =>
      if s.clk.cc64 - t < 4096 * 64 then s
      else { s with clk := { s.clk with tg := drop n.val s.clk.tg } }.plotStep
    | _ => s

/-- TG_DRAIN_TIMEOUT (R43): after 1 ms the core drops what it waits for, and the reset completes. -/
def execTgDrainTimeout (n : Cid) (s : State) : Out :=
  .next <|
    match find n.val s.clk.tg with
    | some (.draining t) =>
      if s.since t < usCounts 1000 then s
      else
        let s := (s.tgClear n).staleReqs fun u =>
          match u with
          | .load h => coreOf h = n.val
          | .store h _ => coreOf h = n.val
          | .atomic h => coreOf h = n.val
          | _ => false
        let s := s.log1 0x0010 n 0
        { s with clk := { s.clk with tg := drop n.val s.clk.tg } }.plotStep
    | _ => s

/-- A Function Level Reset (Table 2-3): the plot of the function, or with the physical function all of them; of the
recovery function only its configuration space (R389). -/
def State.functionReset (s : State) (p : Nat) : State :=
  if s.recovering then s.setFn p (s.fn p).configReset
  else if p = 0 then
    let s := (List.range 512).foldl (fun s p => s.plotReset p) (s.setOn PWR_RESET_CAUSE.PF_FLR 0 true)
    { s with host := { s.host with vfEnable := false, numVfs := 0 } }
  else s.plotReset p

/-- FUNCTION_LEVEL_RESET, and the plot reset that Drill begins after an unrecoverable plot fault, with its reason, which
writes PLOT_FAULT (Tables 2-3 and 24-3). In a containing reset only the cause is set (R45). -/
def execFunctionLevelReset (p : Plot) (drill : Option (BitVec 32)) (s : State) : Out :=
  .next <|
    match drill with
    | some reason =>
      if !s.released then s else (s.logEvent 0x0013 noInst p reason.toNat 0 0).plotReset p
    | none =>
      if s.inReset then (if p.val = 0 then s.setOn PWR_RESET_CAUSE.PF_FLR 0 true else s)
      else if s.configReaches p then s.functionReset p else s

/-- VF Enable clears (R364): the plot of each enabled virtual function is reset. -/
def State.vfClear (s : State) : State :=
  if !s.host.vfEnable || !s.released || !s.configReaches 0 then s
  else
    let s := ((List.range s.host.numVfs).map (· + 1)).foldl (fun s p => s.plotReset p) s
    { s with host := { s.host with vfEnable := false } }

def execVfEnableClear (s : State) : Out := .next s.vfClear

/-! ### The host port (R50, Table 2-3) -/

/-- HOST_PORT_RESET: PERST_N, hot reset or link disable; during a containing reset only the cause is set (R45). -/
def execHostPortReset (cause : HostResetCause) (s : State) : Out :=
  .next <|
    let s := { s with clk := { s.clk with perstLow := s.clk.perstLow || cause = HostResetCause.perst, training := false } }
    if s.inReset then s.setOn PWR_RESET_CAUSE.HOST_PORT 0 true
    else if s.on HST_LINK.DL_UP 0 then s.dlDown else s.hostPortReset

/-- HOST_LINK_TRAINING (R50): PORST_N and PERST_N are high, and the port trains. -/
def execHostLinkTraining (s : State) : Out :=
  .next <|
    if !s.live then s else { s with clk := { s.clk with perstLow := false, training := true } }

/-! ### Power gating (R37, R542) -/

/-- The whole FIFO of a core leaves for the trace buffer. -/
def State.traceDrain (s : State) (c : Nat) : Nat → State
  | 0 => s
  | k + 1 =>
    let u := s.unit c
    if u.fifo.isEmpty then s
    else
      let payload := u.fifo.take 60
      let seq := findD 0 c s.gln.bseq
      let s := s.setUnit c { u with fifo := u.fifo.drop 60 }
      let s := { s with gln := { s.gln with bseq := put c ((seq + 1) % 256) s.gln.bseq } }
      (s.traceStore (traceBlock c seq payload) payload.length).traceDrain c k

/-- R542: the BRANCH packets, POWER, and the FIFO. -/
def State.tracePower (s : State) (n : Nat) : State :=
  let s := (List.range 8).foldl (fun s j => s.trFlushBranch n j) s
  let s := if s.on GLN_TRC_CTL.EN 0 && s.bitF GLN_TRC_CORE.CORES (n / 32) (n % 32) then
      s.trBytes n (trHeader 6 0 :: leBytes 8 s.now) else s
  s.traceDrain n 40

/-- POWER_GATE (R37): a core of no lease whose threads have been idle for 1 ms. -/
def execPowerGate (n : Cid) (s : State) : Out :=
  .next <|
    let c := s.core n
    if !s.on DRL_STATUS.RUN 0 || c.gated || c.lease.isSome || (find n.val s.clk.tg).isSome || !c.mbuf.isEmpty ||
        s.since c.idleAt < usCounts 1000 || !(coreThreads n).all (fun h => (s.thread h).mode = .parked) then s
    else
      let s := s.tracePower n
      let s := (s.setTile n (freshTile (some s.fresh) n)).closeGroups n
      let c := s.core n
      { s.setCore n { mbNext := c.mbNext, idleAt := c.idleAt, cycleBase := c.cycleBase, gated := true }
        with fresh := s.fresh + 1 }

/-- CORE_WAKE (R37). -/
def execCoreWake (n : Cid) (s : State) : Out := .next (s.wakeCore n)

end Sys2Proof.Machine
end

