-- ==== Sys2Proof/Machine/Boot.lean ====
section
/-! DEFINITION. Boot, image checks, the flash controller and updates (chapter 03). -/

namespace Sys2Proof.Machine

/-! ### Slots and descriptors (Tables 3-1 to 3-3a) -/

/-- Slot sizes, and the largest bodies. -/
def slotSize (type : Nat) : Nat := if type = 4 then 0x800000 else if type = 3 then 0x200000 else 0x100000
def imageMax (type : Nat) : Nat :=
  if type = 1 then 0x80000 else if type = 2 then 0x100000 else if type = 3 then 0x200000 else 0x800000

/-- Where a slot begins (Table 3-2): slot 0 is A, 1 is B. -/
def slotBase (type slot : Nat) : Nat :=
  (if type = 1 then 0x80000 else if type = 2 then 0x280000 else if type = 3 then 0x480000 else 0x880000) + slot * slotSize type

/-- The key block and the descriptor of a slot. -/
def State.keyBlock (s : State) (type slot : Nat) : List Byte := s.flashRead (slotBase type slot) 256
def State.descriptor (s : State) (type slot : Nat) : List Byte := s.flashRead (slotBase type slot + 0x100) 256

/-- Some bytes are zero. -/
def zeroSpan (b : List Byte) (off n : Nat) : Bool := ((b.drop off).take n).all (· = 0)

/-- The reserved bytes of a descriptor and of a key block. -/
def descReserved (d k : List Byte) : Bool :=
  zeroSpan d 15 1 && zeroSpan d 20 4 && zeroSpan d 33 3 && zeroSpan d 149 3 && zeroSpan d 248 8 &&
  ((List.range 16).all fun i => zeroSpan d (37 + 4 * i) 1) && zeroSpan k 5 3 && zeroSpan k 104 152

/-- The public key of a key block. -/
def pubKey (k : List Byte) : List Byte := (k.drop 8).take 96

/-- The fused SVN minimum of a type, raised or as manufactured (R71). -/
def State.svnFloor (s : State) (type : Nat) : Nat := findD (Config.svnMin type % 64) type s.boot.svnMin

/-- The bit of STEP_MASK for the fused stepping. -/
def stepBit : Nat := 4 * (Config.fusedLetter % 4) + Config.fusedDigit % 4

/-- Conditions 1 to 7 of R56, in order: the code of Table 3-5. -/
def State.descResult (s : State) (type slot : Nat) : Nat :=
  let d := s.descriptor type slot
  let k := s.keyBlock type slot
  let key := numAt d 148 1
  if numAt d 0 4 ≠ 0x3158434B || numAt d 4 1 ≠ type then 2
  else if numAt d 5 1 ≠ 1 || !descReserved d k then 3
  else if numAt k 0 4 ≠ 0x314B424B || numAt k 4 1 ≠ key || 4 ≤ key || Config.keyRevoked key ||
      Config.keyHash key ≠ Config.sha384 (pubKey k) then 4
  else if !Config.ecdsaP384 (pubKey k) (d.take 152) ((d.drop 152).take 96) then 5
  else if !(numAt d 12 2).testBit stepBit then 0xB
  else if numAt d 14 1 < s.svnFloor type then 6
  else if min (slotSize type - 0x200) (imageMax type) < numAt d 16 4 then 8
  else 1

/-- Condition 8 of R56. -/
def State.digestOk (s : State) (type slot : Nat) : Bool :=
  let d := s.descriptor type slot
  decide (Config.sha384 (s.flashRead (slotBase type slot + 0x200) (numAt d 16 4)) = (d.drop 100).take 48)

/-- A slot is valid for its type (R56). -/
def State.slotValid (s : State) (type slot : Nat) : Bool := s.descResult type slot = 1 && s.digestOk type slot

/-- The version of interface i of an image: HMB, RVD, TMC, YKL. -/
def ifMajor (d : List Byte) (i : Nat) : Nat := numAt d (24 + 2 * i) 1
def ifMinor (d : List Byte) (i : Nat) : Nat := numAt d (25 + 2 * i) 1

/-- IMAGE_ID. -/
def imageId (d : List Byte) : Nat := numAt d 6 2

/-- A pair may run (R57). Two images whose majors are both 0 for the pair's interface have no interface in common, and
the pair never runs: the model's choice (notes/assumptions/63). -/
def pairRuns (a b : List Byte) (i : Nat) : Bool := ifMajor a i ≠ 0 && ifMajor a i = ifMajor b i

/-- An image lists a partner of a type (R58). A TW_COUNT above 16, which no condition of R56 rejects, counts as 16: the
model's choice (notes/assumptions/63). -/
def twLists (d : List Byte) (type id : Nat) : Bool :=
  (List.range (min (numAt d 32 1) 16)).any fun i => numAt d (36 + 4 * i) 1 = type && numAt d (38 + 4 * i) 2 = id

/-- A pair is tested (R58): image a of type ta, and image b of type tb. -/
def pairTested (a b : List Byte) (ta tb : Nat) : Bool := twLists a tb (imageId b) || twLists b ta (imageId a)

/-! ### Flash header and preference records (R53, R70); their byte layout is the model's (notes/assumptions/60) -/

/-- A copy of the flash header is valid: magic value, layout version 1, and the CRC-32C over its first 60 bytes. -/
def State.headerValid (s : State) (copy : Nat) : Bool :=
  let h := s.flashRead (0x10000 * copy) 64
  numAt h 0 4 = 0x4B464831 && numAt h 4 4 = 1 && numAt h 60 4 = crc32c (h.take 60)

/-- One of the two copies is valid. -/
def State.headerFound (s : State) : Bool := s.headerValid 0 || s.headerValid 1

/-- Where a block of the preference record begins. -/
def prefBase (blk : Nat) : Nat := 0x20000 + 0x10000 * blk

/-- The first 8 bytes of a preference record: sequence number, the types whose slot B is active, the trial slot mask,
the trial count. -/
def prefHead (r : PrefRec) : List Byte :=
  leBytes 4 r.seq ++ leBytes 1 (maskOfBits ((List.range 4).filter fun i => r.active.getD i false)) ++ leBytes 1 r.trial ++
    leBytes 1 r.count ++ [0]

/-- The record in a block, when its CRC-32C is right. -/
def State.prefAt (s : State) (blk : Nat) : Option PrefRec :=
  let b := s.flashRead (prefBase blk) 12
  if numAt b 8 4 = crc32c (b.take 8) then
    some ⟨numAt b 0 4, (List.range 4).map fun i => (numAt b 4 1).testBit i, numAt b 5 1 % 16, numAt b 6 1⟩
  else none

/-- The valid records, with their blocks. -/
def State.prefs (s : State) : List (Nat × PrefRec) := [0, 1].filterMap fun k => (s.prefAt k).map fun r => (k, r)

/-- The record in force: of the valid ones, that with the higher sequence number, compared modulo 2³² as every counter
that wraps (R566); with its block. -/
def newestPref : List (Nat × PrefRec) → Option (Nat × PrefRec)
  | [] => none
  | x :: l =>
    match newestPref l with
    | some y => if x.2.seq ≠ y.2.seq && modDiff 32 y.2.seq x.2.seq < 2 ^ 31 then some y else some x
    | none => some x

/-- Slot A for every type, no trial: what step 3 of R60 takes without a valid record. -/
def defaultPref : PrefRec := ⟨0, [false, false, false, false], 0, 0⟩

/-- The record that the boot ROM goes by. -/
def State.pref (s : State) : PrefRec := ((newestPref s.prefs).map (·.2)).getD defaultPref

/-- The cells of the flash outside a span. -/
def flashDrop (m : List Host.Cell) (a n : Nat) : List Host.Cell := m.filter fun c => c.1 < a || a + n ≤ c.1

/-- A 64 KiB block of the flash is erased. -/
def State.flashErase (s : State) (a : Nat) : State :=
  { s with boot := { s.boot with flash := flashDrop s.boot.flash a 0x10000 } }

/-- The block that a new record goes into: the one that does not hold the record in force. -/
def State.prefBlock (s : State) : Nat :=
  match newestPref s.prefs with
  | some (0, _) => 1
  | _ => 0

/-- A record written: its block erased and programmed. -/
def State.putPref (s : State) (r : PrefRec) : State :=
  (s.flashErase (prefBase s.prefBlock)).flashWrite (prefBase s.prefBlock) (prefHead r ++ leBytes 4 (crc32c (prefHead r)))

/-- Slot B is active for a type. -/
def prefSlotB (r : PrefRec) (type : Nat) : Bool := r.active.getD (type - 1) false

/-- The candidates of a type, in order (R61): trial slot first, then active slot, then the other slot. -/
def candidates (r : PrefRec) (type : Nat) : List Nat :=
  let a := if prefSlotB r type then 1 else 0
  if r.trial.testBit (type - 1) then [1 - a, a] else [a, 1 - a]

/-! ### BOOT_SEQUENCE (R60 to R66) -/

/-- A slot result is shown. -/
def State.showResult (s : State) (type slot code : Nat) : State :=
  s.setF (if slot = 0 then BT_SLOT.A_RESULT else BT_SLOT.B_RESULT) (type - 1) code

/-- The boot ends, with its code; BOOT_RESULT is logged. -/
def State.bootEnds (s : State) (code : Nat) (recovery : Bool) : State :=
  let s := ((s.setF BT_STATUS.CODE 0 code).setOn BT_STATUS.RECOVERY 0 recovery).setOn BT_STATUS.DONE 0 true
  s.log0 0x0003 (s.regAt .BT 0x4 0)

/-- The root PLL has locked, and the boot ROM has not ended. -/
def State.booting (s : State) : Bool := s.on CLK_STATUS.ROOT_LOCK 0 && !s.inReset && s.clk.refclk && !s.on BT_STATUS.DONE 0

/-- The record that a boot goes by (R70): the trial count rises while a trial is pending, and a count of 3 ends the
trial. -/
def nextPref (p : PrefRec) : PrefRec :=
  if p.trial = 0 then p
  else if 3 ≤ p.count then { p with seq := (p.seq + 1) % 2 ^ 32, trial := 0, count := 0 }
  else { p with seq := (p.seq + 1) % 2 ^ 32, count := p.count + 1 }

/-- The Drill watchdog is armed and its period begins. -/
def State.armWatchdog (s : State) : State :=
  { s with clk := { s.clk with kickAt := s.now } }.setOn PWR_WDOG_CFG.EN 0 true

/-- Step 3 of R60 and step 3 of R70: a boot with a trial slot writes its record before any body is loaded, then arms the
Drill watchdog with a period of 2,000 ms. -/
def State.prefStep (s : State) : State :=
  let p := s.pref
  let r := nextPref p
  let s := if p.trial ≠ 0 then s.putPref r else s
  let s := if r.trial ≠ 0 then (s.setF PWR_WDOG_CFG.PERIOD 0 2000).armWatchdog else s
  s.setF BT_UPDATE.PENDING 0 r.trial

/-- BOOT_ISLAND_TIMEOUT and FLASH_TIMEOUT: recovery. The island is asked after step 3 of R60; the flash is taken to fail
after it too, where it has been read so far (notes/assumptions/63). -/
def execBootIslandTimeout (s : State) : Out :=
  .next (if s.booting then (if s.headerFound then s.prefStep else s).bootEnds 0x14 true else s)
def execFlashTimeout (s : State) : Out :=
  .next (if s.booting then (if s.headerFound then s.prefStep else s).bootEnds 0x16 true else s)

/-- Step 4 of R60: the first safety slot that the island accepts. -/
def State.safetySlot (s : State) : List Nat → Option Nat × State
  | [] => (none, s)
  | k :: l => if s.slotValid 1 k then (some k, s.showResult 1 k 1) else (s.showResult 1 k 0xA).safetySlot l

/-- A combination: the slots of the Drill, Reeve and till images. -/
structure Combo where
  drill : Nat
  reeve : Nat
  till  : Nat
deriving DecidableEq, Repr

/-- The slot of a type in a combination. -/
def Combo.slot (c : Combo) (type : Nat) : Nat := if type = 4 then c.drill else if type = 3 then c.reeve else c.till

/-- R57 for every pair of a combination, with the accepted safety slot. -/
def State.comboRuns (s : State) (safety : Nat) (c : Combo) : Bool :=
  let d := s.descriptor 4 c.drill
  pairRuns (s.descriptor 1 safety) d 0 && pairRuns (s.descriptor 3 c.reeve) d 1 && pairRuns (s.descriptor 2 c.till) d 2

/-- The search of R61 over the candidates, which `ok` filters. -/
def State.searchCombo (s : State) (r : PrefRec) (safety : Nat) (ok : Nat → Nat → Bool) : Option Combo :=
  (((candidates r 4).filter (ok 4)).flatMap fun d => ((candidates r 3).filter (ok 3)).flatMap fun v =>
    ((candidates r 2).filter (ok 2)).map fun t => (⟨d, v, t⟩ : Combo)).find? (s.comboRuns safety)

/-- How the choice ends. -/
inductive Choice where
  | combo (c : Combo)
  | noImage
  | noCombination
deriving DecidableEq, Repr

/-- Step 6 of R60: choose, then check the digests of the chosen bodies, Drill first; a slot whose digest fails is invalid,
and the choice is made again. `bad` lists such slots as 2 × type + slot. -/
def State.choose (s : State) (r : PrefRec) (safety : Nat) : List Nat → Nat → Choice × List Nat
  | bad, 0 => (.noCombination, bad)
  | bad, fuel + 1 =>
    let ok (type slot : Nat) : Bool := s.descResult type slot = 1 && !bad.contains (2 * type + slot)
    if [2, 3, 4].any fun t => !ok t 0 && !ok t 1 then (.noImage, bad)
    else
      match s.searchCombo r safety ok with
      | none => (.noCombination, bad)
      | some c =>
        match [4, 3, 2].find? fun t => !s.digestOk t (c.slot t) with
        | none => (.combo c, bad)
        | some t => s.choose r safety ((2 * t + c.slot t) :: bad) fuel

/-- The result of a slot once the choice is made. -/
def State.slotResult (s : State) (bad : List Nat) (chosen : Option Combo) (type slot : Nat) : Nat :=
  if bad.contains (2 * type + slot) then 7
  else if s.descResult type slot ≠ 1 then s.descResult type slot
  else
    match chosen with
    | some c => if c.slot type = slot then 1 else 9
    | none => 1

/-- The results of the till, Reeve and Drill slots. -/
def State.showResults (s : State) (bad : List Nat) (chosen : Option Combo) : State :=
  [2, 3, 4].foldl (fun s t => [0, 1].foldl (fun s k => s.showResult t k (s.slotResult bad chosen t k)) s) s

/-- The running slot of a type is shown. A boot that accepts another safety slot than the one whose image the island
still runs (R39: no package reset stops it) shows the accepted slot's SEL and ID, takes its SVN, and protects that slot:
the model's choice (notes/assumptions/63). -/
def State.showRunning (s : State) (r : PrefRec) (type slot : Nat) : State :=
  let d := s.descriptor type slot
  let s := ((s.setF BT_SLOT.ID (type - 1) (imageId d)).setF BT_SLOT.SEL (type - 1) slot).setOn BT_SLOT.TRIAL (type - 1)
    (r.trial.testBit (type - 1) && decide ((if prefSlotB r type then 1 else 0) ≠ slot))
  { s with boot := { s.boot with svn := put type (numAt d 14 1) s.boot.svn } }

/-- The threads of the four Drill cores begin to run Drill's image (R99, R341); where is Drill's own matter
(notes/assumptions/73). -/
def State.drillThreads (s : State) : State :=
  drillCores.foldl (fun s n => (coreThreads n).foldl (fun s h =>
    s.setThread h { mode := .running, pc := BitVec.ofNat 64 (Config.drillEntry h) }) s) s

/-- Drill starts (R41, R341): the arrays are zeroed, the watchdog armed and kicked. -/
def State.drillStarts (s : State) : State :=
  let s := { s with tiles := [], seedbox := [], clk := { s.clk with era := none } }
  (s.armWatchdog.setOn DRL_STATUS.RUN 0 true).drillThreads

/-- What the island is told of the images (R58, R59, R62). With equal verdicts it takes the image; one that already runs
(no reset but its own stops it, R39) goes on with its own image and learns of the others. With unequal verdicts an island
in its monitor stays there; one that already runs goes on, keeps its image for a later safety reset of its own, and learns
of the other images and of the untested pairs: the model's choice (notes/assumptions/63). -/
def State.islandTold (s : State) (ids : List Nat) (untested agrees : Bool) : State :=
  if s.hs = hsMonitor then
    if agrees then (s.mapIsl fun i => { i with image := true, ids := ids, untested := untested }).imageStarts.showSet
    else s.mapIsl fun i => { i with image := false }
  else
    (s.mapIsl fun i => { i with image := i.image || agrees, ids := i.ids.getD 0 0 :: ids.tail,
                                untested := untested }).imageStarts.showSet

/-- The images run (steps 7 to 9 of R60, R58, R59, R62). `agrees`: the island reached the boot ROM's verdicts. Reeve sets
the VDD_CORE setpoint from the fused voltage code (R36). -/
def State.imagesRun (s : State) (r : PrefRec) (safety : Nat) (c : Combo) (code : Nat) (agrees : Bool) : State :=
  let ds := s.descriptor 1 safety
  let dt := s.descriptor 2 c.till
  let dr := s.descriptor 3 c.reeve
  let dd := s.descriptor 4 c.drill
  let hmb := !pairTested ds dd 1 4
  let rvd := !pairTested dr dd 3 4
  let tmc := !pairTested dt dd 2 4
  let s := (((s.showRunning r 1 safety).showRunning r 2 c.till).showRunning r 3 c.reeve).showRunning r 4 c.drill
  let s := ((s.setOn BT_COMPAT.UNTESTED_HMB 0 hmb).setOn BT_COMPAT.UNTESTED_RVD 0 rvd).setOn BT_COMPAT.UNTESTED_TMC 0 tmc
  let s := { s with boot := { s.boot with ykl := (ifMajor dd 3, ifMinor dd 3) } }
  let s := s.islandTold [imageId ds, imageId dt, imageId dr, imageId dd] (hmb || rvd || tmc) agrees
  let s := { s with reeve := { s.reeve with setpoint := fusedSetpoint } }
  s.drillStarts.bootEnds (if agrees then code else 0x15) false

/-- BOOT_SEQUENCE. -/
def execBootSequence (agrees : Bool) (s : State) : Out :=
  .next <|
    if !s.booting then s
    else if !s.headerFound then s.bootEnds 0x10 true
    else
      let p := s.pref
      let r := nextPref p
      let code := if s.prefs.isEmpty then 2 else if p.trial ≠ 0 && r.trial = 0 then 3 else 0
      let s := s.prefStep
      match s.safetySlot (candidates r 1) with
      | (none, s) => s.bootEnds 0x11 true
      | (some safety, s) =>
        match s.choose r safety [] 7 with
        | (.noImage, bad) => (s.showResults bad none).bootEnds 0x12 true
        | (.noCombination, bad) => (s.showResults bad none).bootEnds 0x13 true
        | (.combo c, bad) => (s.showResults bad (some c)).imagesRun r safety c code agrees

/-! ### The flash controller (R68, R69) -/

/-- The owner code of an agent that may use the BT_ block (R68). -/
def btOwner : Agent → Option Nat
  | .plot p => if p.val = 0 then some 1 else none
  | .reeve => some 2
  | _ => none

/-- An agent may use the BT_ block now: it has an owner code and runs; in recovery plot 0 reaches the block through the
recovery function (R66, R68). -/
def State.btUser (s : State) (agent : Agent) : Bool :=
  match agent with
  | .plot p => p.val = 0 && (s.released || s.recovering)
  | .reeve => s.live
  | _ => false

/-- The agent holds the flash claim. -/
def State.holdsFlash (s : State) (agent : Agent) : Bool := btOwner agent = some (s.f BT_FLASH_OWN.OWNER 0)

/-- CLAIM. -/
def execClaim (agent : Agent) (s : State) : Out :=
  .next <|
    match if s.btUser agent then btOwner agent else none with
    | none => s
    | some k =>
      if s.f BT_FLASH_OWN.OWNER 0 = 0 then s.setF BT_FLASH_OWN.OWNER 0 k
      else if s.f BT_FLASH_OWN.OWNER 0 = k then s else s.setOn BT_FLASH_OWN.DENIED 0 true

/-- RELEASE. -/
def execRelease (agent : Agent) (s : State) : Out :=
  .next (if s.btUser agent && s.holdsFlash agent then s.setF BT_FLASH_OWN.OWNER 0 0 else s)

/-- R69: the headers, the preference record, the parameter region and the running slots are not programmed or erased. -/
def State.flashProtected (s : State) (a : Nat) : Bool :=
  decide (a < 0x80000) ||
  (s.on BT_STATUS.DONE 0 && !s.on BT_STATUS.RECOVERY 0 && [1, 2, 3, 4].any fun t =>
    let b := slotBase t (s.f BT_SLOT.SEL (t - 1))
    decide (b ≤ a) && decide (a < b + slotSize t))

/-- A flash command (BT_FLASH_CMD): ignored while one is in progress, and unless the writer holds the claim. The address
bits below the command's unit are not used (notes/assumptions/61). -/
def State.flashCmd (s : State) (agent : Agent) (op : Nat) : State :=
  let unit := if op = 3 then 0x10000 else 256
  let a := s.f BT_FLASH_ADDR.ADDR 0 / unit * unit
  if !s.btUser agent || !s.holdsFlash agent || s.on BT_FLASH_STATUS.BUSY 0 then s
  else if op ≠ 1 && s.flashProtected a then s.setOn BT_FLASH_STATUS.PROTECTED 0 true
  else { s with boot := { s.boot with cmd := some ⟨op, a⟩ } }.setOn BT_FLASH_STATUS.BUSY 0 true

def execFlashRead (agent : Agent) (s : State) : Out := .next (s.flashCmd agent 1)
def execFlashProgram (agent : Agent) (s : State) : Out := .next (s.flashCmd agent 2)
def execFlashErase (agent : Agent) (s : State) : Out := .next (s.flashCmd agent 3)

/-- The page buffer. -/
def State.flashBuf (s : State) : List Byte := (List.range 64).flatMap fun i => leBytes 4 (s.f BT_FLASH_BUF.DATA i)

/-- Programming clears bits of the page and sets none, as NOR flash does (notes/assumptions/61). -/
def andBytes (a b : List Byte) : List Byte := (a.zip b).map fun x => x.1 &&& x.2

/-- FLASH_CMD_DONE: the command completes; what a failed program or erase leaves is free. -/
def execFlashCmdDone (ok : Bool) (s : State) : Out :=
  .next <|
    match s.boot.cmd with
    | none => s
    | some c =>
      let s := { s with boot := { s.boot with cmd := none } }.setOn BT_FLASH_STATUS.BUSY 0 false
      let page := s.flashRead c.addr 256
      if c.op = 1 then (List.range 64).foldl (fun s i => s.setF BT_FLASH_BUF.DATA i (numAt page (4 * i) 4)) s
      else if c.op = 2 then
        if ok then s.flashWrite c.addr (andBytes page s.flashBuf)
        else (s.draw.2.flashWrite c.addr (leBytes 256 s.draw.1)).setOn BT_FLASH_STATUS.ERR 0 true
      else if ok then s.flashErase c.addr
      else (s.draw.2.flashWrite c.addr (leBytes 0x10000 s.draw.1)).setOn BT_FLASH_STATUS.ERR 0 true

/-! ### Updates (R70, R71) -/

/-- The key of BT_UPDATE and BT_SVN_COMMIT. -/
def btKey : Nat := 0x5A17

/-- An action of BT_UPDATE: the record is written, and with RESTART a package reset follows. -/
def State.prefAction (s : State) (agent : Agent) (key : Nat) (restart : Bool) (f : PrefRec → PrefRec) : State :=
  if !s.btUser agent || key ≠ btKey || s.on BT_UPDATE.BUSY 0 then s
  else
    let r := f s.pref
    { s with boot := { s.boot with prefWrite := some ({ r with seq := (s.pref.seq + 1) % 2 ^ 32, count := 0 }, restart) } }.setOn
      BT_UPDATE.BUSY 0 true

/-- TRIAL: the inactive slots of TYPES become trial. -/
def execTrial (agent : Agent) (key : BitVec 16) (types : BitVec 4) (restart : Bool) (s : State) : Out :=
  .next (s.prefAction agent key.toNat restart fun r => { r with trial := types.toNat })

/-- The trial slots become active. -/
def prefCommit (r : PrefRec) : PrefRec :=
  { r with active := (List.range 4).map fun i => r.active.getD i false != r.trial.testBit i, trial := 0 }

def execCommit (agent : Agent) (key : BitVec 16) (restart : Bool) (s : State) : Out :=
  .next (s.prefAction agent key.toNat restart prefCommit)

def execRevert (agent : Agent) (key : BitVec 16) (restart : Bool) (s : State) : Out :=
  .next (s.prefAction agent key.toNat restart fun r => { r with trial := 0 })

/-- RESTART with no other action: the package reset follows at once. -/
def execRestart (agent : Agent) (key : BitVec 16) (s : State) : Out :=
  .next <|
    if !s.btUser agent || key.toNat ≠ btKey || s.on BT_UPDATE.BUSY 0 then s
    else s.packageReset PWR_RESET_CAUSE.BOOT_RESTART

/-- PREF_WRITE_DONE. -/
def execPrefWriteDone (s : State) : Out :=
  .next <|
    match s.boot.prefWrite with
    | none => s
    | some (r, restart) =>
      let s := s.putPref r
      let s := { s with boot := { s.boot with prefWrite := none } }
      let s := (s.setOn BT_UPDATE.BUSY 0 false).setF BT_UPDATE.PENDING 0 r.trial
      if restart then s.packageReset PWR_RESET_CAUSE.BOOT_RESTART else s

/-- SVN_COMMIT (R71): refused while a trial is pending; a minimum only rises. -/
def execSvnCommit (agent : Agent) (key : BitVec 16) (types : BitVec 4) (s : State) : Out :=
  .next <|
    if !s.btUser agent || key.toNat ≠ btKey || s.f BT_UPDATE.PENDING 0 ≠ 0 then s
    else
      (s.boot.svn.filter fun x => types.toNat.testBit (x.1 - 1)).foldl (fun s x =>
        { s with boot := { s.boot with svnMin := put x.1 (max (s.svnFloor x.1) x.2) s.boot.svnMin } }) s

end Sys2Proof.Machine
end

