-- ==== Sys2Proof/Machine/Float.lean ====
section
/-! DEFINITION. Scalar floating-point instructions (R122, R123, Table 5-10). Each computes by the rules of
chapter 11 and sets the sticky flags of FCSR (R271); none raises an exception beyond ILLEGAL_OP for a
rounding code that it does not list (R116, R122). -/

namespace Sys2Proof

/-! ### Formats and widths -/

/-- The format of a FMT code. -/
def FFmt.fmt : FFmt → Machine.FpFmt
  | .b64 => Machine.fmtB64
  | .b32 => Machine.fmtB32
  | .b16 => Machine.fmtB16
  | .bf16 => Machine.fmtBf16

/-- The encoding that a float register holds in a format: the upper bits are ignored (R102). -/
def FFmt.bits (F : FFmt) (v : Word) : Nat := v.toNat % 2 ^ F.fmt.width

/-- The value that a float register holds in a format. -/
def FFmt.val (F : FFmt) (v : Word) : Machine.FpVal := F.fmt.unpack (F.bits v)

/-- The width of an integer width code. -/
def IWidth.bits : IWidth → Nat
  | .i64 => 64
  | .i32 => 32
  | .i16 => 16
  | .i8 => 8

/-- The integer that a width code reads from a register. -/
def IWidth.read (w : IWidth) (uns : Bool) (v : Word) : Int :=
  let n := v.toNat % 2 ^ w.bits
  if uns || n < 2 ^ (w.bits - 1) then n else (n : Int) - 2 ^ w.bits

/-- The gs2 field of FCVT.I and FCVT.FI. -/
def IWidth.code (w : IWidth) (uns : Bool) : Nat := w.ctorIdx + (if uns then 4 else 0)

end Sys2Proof

namespace Sys2Proof.Machine

/-! ### Operands -/

/-- The mode of FCSR.RM (its field is the code of R122 minus 1). -/
def frmRnd (frm : Nat) : Rnd :=
  match frm with
  | 0 => .rne
  | 1 => .rna
  | 2 => .rz
  | 3 => .ru
  | _ => .rd

/-- The rounding that RM selects in a thread (R122); code 6 takes the thread's seed (R268, e = 0). -/
def Thread.rnd (t : Thread) (rm : RMode) : Rnd :=
  match rm with
  | .dyn => frmRnd t.frm
  | .rne => .rne
  | .rna => .rna
  | .rz => .rz
  | .ru => .ru
  | .rd => .rd
  | .stoch => .stoch (stochR t.seed 0)

/-- A result and its flags: the upper bits of the register become zero (R102), the flags are sticky. -/
def Thread.fpResult (t : Thread) (fd : Reg5) (r : Nat × Nat) : Thread :=
  { t.writeF fd (BitVec.ofNat 64 r.1) with fflags := flagsOr t.fflags r.2 }

/-- The word of a floating register operation (OP 0x23, format R). -/
def wordF (fmt : FFmt) (rm : RMode) (fn d a b : Nat) : Word :=
  wordR 0x23 d a b (fmt.ctorIdx * 2 ^ 9 + rm.ctorIdx * 2 ^ 6 + fn)

/-- The word of a fused form (format F4). -/
def wordF4 (op : Nat) (fmt : FFmt) (rm : RMode) (d a b c : Nat) : Word :=
  wordR op d a b (c * 2 ^ 6 + fmt.ctorIdx * 2 ^ 4 + rm.ctorIdx * 2)

/-- An instruction that RM 6 makes illegal (R122). -/
def State.fpInstr (s : State) (h : Nat) (rm : RMode) (word : Word) (f : Thread → Thread) : Out :=
  s.instr h fun t s =>
    if rm = .stoch then s.setThread h (t.fault cIllegalOp word) else s.setThread h (f t).next

/-- Two float sources, one float result. -/
def State.fpOp2 (s : State) (h : Nat) (fmt : FFmt) (rm : RMode) (fn : Nat) (fd fs1 fs2 : Reg5)
    (op : FpFmt → Rnd → FpVal → FpVal → Nat × Nat) : Out :=
  s.fpInstr h rm (wordF fmt rm fn fd fs1 fs2) fun t =>
    t.fpResult fd (op fmt.fmt (t.rnd rm) (fmt.val (t.readF fs1)) (fmt.val (t.readF fs2)))

/-- Three float sources: ±(fs1 × fs2) ± fs3, rounded once. -/
def State.fpFused (s : State) (h : Nat) (op : Nat) (negP negC : Bool) (fmt : FFmt) (rm : RMode)
    (fd fs1 fs2 fs3 : Reg5) : Out :=
  s.fpInstr h rm (wordF4 op fmt rm fd fs1 fs2 fs3) fun t =>
    let a := fmt.val (t.readF fs1)
    let c := fmt.val (t.readF fs3)
    t.fpResult fd (fmt.fmt.fmaVal (t.rnd rm) .ieee (if negP then a.neg else a) (fmt.val (t.readF fs2))
      (if negC then c.neg else c))

/-- An operation on encodings that never rounds; its RM field is still one of R122's. -/
def State.fpBits (s : State) (h : Nat) (fmt : FFmt) (rm : RMode) (fn : Nat) (fd fs1 fs2 : Reg5)
    (op : FpFmt → Nat → Nat → Nat × Nat) : Out :=
  s.fpInstr h rm (wordF fmt rm fn fd fs1 fs2) fun t =>
    t.fpResult fd (op fmt.fmt (fmt.bits (t.readF fs1)) (fmt.bits (t.readF fs2)))

/-- The magnitude of an encoding, and its sign. -/
def FpFmt.mag (F : FpFmt) (v : Nat) : Nat := v % F.signBit
def FpFmt.isNeg (F : FpFmt) (v : Nat) : Bool := v / F.signBit % 2 = 1

/-! ### Arithmetic -/

def execFadd (h : Tid) (fmt : FFmt) (rm : RMode) (fd fs1 fs2 : Reg5) (s : State) : Out :=
  s.fpOp2 h fmt rm 0x00 fd fs1 fs2 fun F r a b => F.addVal r .ieee a b
def execFsub (h : Tid) (fmt : FFmt) (rm : RMode) (fd fs1 fs2 : Reg5) (s : State) : Out :=
  s.fpOp2 h fmt rm 0x01 fd fs1 fs2 fun F r a b => F.addVal r .ieee a b.neg
def execFmul (h : Tid) (fmt : FFmt) (rm : RMode) (fd fs1 fs2 : Reg5) (s : State) : Out :=
  s.fpOp2 h fmt rm 0x02 fd fs1 fs2 fun F r a b => F.mulVal r .ieee a b
def execFdiv (h : Tid) (fmt : FFmt) (rm : RMode) (fd fs1 fs2 : Reg5) (s : State) : Out :=
  s.fpOp2 h fmt rm 0x03 fd fs1 fs2 fun F r a b => F.divVal r a b
def execFsqrt (h : Tid) (fmt : FFmt) (rm : RMode) (fd fs1 : Reg5) (s : State) : Out :=
  s.fpInstr h rm (wordF fmt rm 0x04 fd fs1 0) fun t =>
    t.fpResult fd (fmt.fmt.sqrtVal (t.rnd rm) (fmt.val (t.readF fs1)))

def execFmadd (h : Tid) (fmt : FFmt) (rm : RMode) (fd fs1 fs2 fs3 : Reg5) (s : State) : Out :=
  s.fpFused h 0x24 false false fmt rm fd fs1 fs2 fs3
def execFmsub (h : Tid) (fmt : FFmt) (rm : RMode) (fd fs1 fs2 fs3 : Reg5) (s : State) : Out :=
  s.fpFused h 0x25 false true fmt rm fd fs1 fs2 fs3
/-- FNMADD: −(fs1 × fs2) − fs3 (notes/assumptions/10). -/
def execFnmadd (h : Tid) (fmt : FFmt) (rm : RMode) (fd fs1 fs2 fs3 : Reg5) (s : State) : Out :=
  s.fpFused h 0x26 true true fmt rm fd fs1 fs2 fs3
/-- FNMSUB: −(fs1 × fs2) + fs3 (notes/assumptions/10). -/
def execFnmsub (h : Tid) (fmt : FFmt) (rm : RMode) (fd fs1 fs2 fs3 : Reg5) (s : State) : Out :=
  s.fpFused h 0x27 true false fmt rm fd fs1 fs2 fs3

/-! ### Selection and signs (R264: they move bits, and set no flag but a signalling operand's NV) -/

def execFmin (h : Tid) (fmt : FFmt) (rm : RMode) (fd fs1 fs2 : Reg5) (s : State) : Out :=
  s.fpBits h fmt rm 0x05 fd fs1 fs2 fun F a b => F.minmax false a b
def execFmax (h : Tid) (fmt : FFmt) (rm : RMode) (fd fs1 fs2 : Reg5) (s : State) : Out :=
  s.fpBits h fmt rm 0x06 fd fs1 fs2 fun F a b => F.minmax true a b
def execFcopys (h : Tid) (fmt : FFmt) (rm : RMode) (fd fs1 fs2 : Reg5) (s : State) : Out :=
  s.fpBits h fmt rm 0x08 fd fs1 fs2 fun F a b => (F.sign (F.isNeg b) (F.mag a), 0)
def execFcopyns (h : Tid) (fmt : FFmt) (rm : RMode) (fd fs1 fs2 : Reg5) (s : State) : Out :=
  s.fpBits h fmt rm 0x09 fd fs1 fs2 fun F a b => (F.sign (!F.isNeg b) (F.mag a), 0)
def execFxors (h : Tid) (fmt : FFmt) (rm : RMode) (fd fs1 fs2 : Reg5) (s : State) : Out :=
  s.fpBits h fmt rm 0x0A fd fs1 fs2 fun F a b => (F.sign (F.isNeg a ^^ F.isNeg b) (F.mag a), 0)

/-! ### Conversions (R269) -/

/-- FCVT.F: RM 6 is allowed to a narrower format only, and then advances the seed once; a Drill core, which has no TCTL,
raises ILLEGAL_OP (R268). -/
def execFcvtF (h : Tid) (fmt src : FFmt) (rm : RMode) (fd fs1 : Reg5) (s : State) : Out :=
  s.instr h fun t s =>
    if rm = .stoch && (drillCore (coreOf h) || src.fmt.width ≤ fmt.fmt.width) then
      s.setThread h (t.fault cIllegalOp (wordF fmt rm 0x10 fd fs1 src.ctorIdx))
    else
      let t' := t.fpResult fd (fmt.fmt.roundVal (t.rnd rm) .ieee (src.val (t.readF fs1)))
      s.setThread h (if rm = .stoch then t'.setSeed (seedNext t.seed) else t').next

def execFcvtI (h : Tid) (fmt : FFmt) (rm : RMode) (gd fs1 : Reg5) (width : IWidth) (uns : Bool) (s : State) :
    Out :=
  s.fpInstr h rm (wordF fmt rm 0x11 gd fs1 (width.code uns)) fun t =>
    let r := fpToInt (t.rnd rm) width.bits uns fNV (fmt.val (t.readF fs1))
    { t.writeG gd (BitVec.ofInt 64 r.1) with fflags := flagsOr t.fflags r.2 }

def execFcvtFi (h : Tid) (fmt : FFmt) (rm : RMode) (fd gs1 : Reg5) (width : IWidth) (uns : Bool) (s : State) :
    Out :=
  s.fpInstr h rm (wordF fmt rm 0x12 fd gs1 (width.code uns)) fun t =>
    t.fpResult fd (fmt.fmt.ofInt (t.rnd rm) .ieee (width.read uns (t.readG gs1)))

/-! ### Moves, class and compare -/

def execFmvGf (h : Tid) (fmt : FFmt) (rm : RMode) (gd fs1 : Reg5) (s : State) : Out :=
  s.fpInstr h rm (wordF fmt rm 0x13 gd fs1 0) fun t => t.writeG gd (BitVec.ofNat 64 (fmt.bits (t.readF fs1)))
def execFmvFg (h : Tid) (fmt : FFmt) (rm : RMode) (fd gs1 : Reg5) (s : State) : Out :=
  s.fpInstr h rm (wordF fmt rm 0x14 fd gs1 0) fun t => t.writeF fd (BitVec.ofNat 64 (fmt.bits (t.readG gs1)))

/-- The class code of FCLASS. -/
def FpFmt.classOf (F : FpFmt) (v : Nat) : Nat :=
  match F.unpack v with
  | .nan sig => if sig then 5 else 4
  | .inf _ => 3
  | .fin _ m _ => if m = 0 then 0 else if m < 2 ^ F.fb then 1 else 2

def execFclass (h : Tid) (fmt : FFmt) (rm : RMode) (gd fs1 : Reg5) (s : State) : Out :=
  s.fpInstr h rm (wordF fmt rm 0x15 gd fs1 0) fun t =>
    let v := fmt.bits (t.readF fs1)
    t.writeG gd (BitVec.ofNat 64 (fmt.fmt.classOf v + (if fmt.fmt.isNeg v then 16 else 0)))

/-- FCMP: the truth value and its flags. -/
def fcmpVal (c : FCond) (a b : FpVal) : Bool × Nat :=
  let un := a.isNan || b.isNan
  match c with
  | .eq => (!un && a.eqv b, flagsOr a.nv b.nv)
  | .lt => (!un && a.lt false b, if un then fNV else 0)
  | .le => (!un && (a.lt false b || a.eqv b), if un then fNV else 0)
  | .un => (un, flagsOr a.nv b.nv)

def execFcmp (h : Tid) (fmt : FFmt) (pd : Pred) (fs1 fs2 : Reg5) (cond : FCond) (s : State) : Out :=
  s.scalar h fun t =>
    let r := fcmpVal cond (fmt.val (t.readF fs1)) (fmt.val (t.readF fs2))
    { t.writeP pd r.1 with fflags := flagsOr t.fflags r.2 }

end Sys2Proof.Machine
end

