-- ==== Sys2Proof/Machine/RegisterBus.lean ====
section
/-! DEFINITION. The register blocks as agents reach them (chapter 04, Tables 4-2 and 4-4): which registers and
instances an address names, what a read returns, and what a write does beside its access codes. -/

namespace Sys2Proof.Machine

/-! ### Addresses -/

/-- What an offset of a Device range names. -/
inductive DevAt where
  /-- An offset in windows of a block; `one` says that it is an instance window. -/
  | reg (b : Blk) (wins : List Nat) (one : Bool) (off : Nat)
  /-- The fault log's slots, read-only (Table 24-1). -/
  | log (off : Nat)
  /-- Reserved space (R11). -/
  | reserved
deriving DecidableEq, Repr

/-- A single block. -/
def DevAt.single (b : Blk) (off : Nat) : DevAt := .reg b [0] true off

/-- The furrow windows (Table 4-4). -/
def State.furAt (s : State) (o : Nat) : DevAt :=
  if o < 0x100000 then .reg .FUR [o / 0x10000] true (o % 0x10000)
  else if o < 0x110000 then .reg .FUR (List.range 16) false (o % 0x10000)
  else if o < 0x120000 then .reg .FUR ((List.range 16).filter fun f => s.bitF FUR_GROUP.SEL 0 f) false (o % 0x10000)
  else .single .FURG o

/-- The channels that group g selects. -/
def State.grnGroup (s : State) (g : Nat) : List Nat :=
  allChans.filter fun c => s.bitF GRN_GMASK.MASK (3 * g + c / 32) (c % 32)

/-- The Granary channel windows (Table 4-4). -/
def State.grnAt (s : State) (o : Nat) : DevAt :=
  if o < 0x60000 then .reg .GRN [o / 0x1000] true (o % 0x1000)
  else if o < 0x80000 then .reserved
  else if o < 0x81000 then .reg .GRN allChans false (o % 0x1000)
  else if o < 0x90000 then .reserved
  else if o < 0x94000 then .reg .GRN (s.grnGroup ((o - 0x90000) / 0x1000)) false (o % 0x1000)
  else .single .GRNG o

/-- The blocks of the Headland (Table 4-2). -/
def headlandAt (o : Nat) : DevAt :=
  let r := o % 0x1000000
  match o / 0x1000000 with
  | 0 => .single .HST r
  | 1 => .single .YK r
  | 2 => if r < 0x60000 then .reg .SWTL [r / 0x10000] true (r % 0x10000) else .single .SWT r
  | 3 => if r < 0x10000 then .single .RV r else .log (r - 0x10000)
  | 4 => .single .GLN r
  | 5 => .single .TLY r
  | 6 => if r < 0x10000 then .single .CLK r else if r < 0x20000 then .single .PWR (r - 0x10000) else .reserved
  | 7 => .single .BT r
  | _ => .reserved

/-- What an address of a Device range of Table 4-1 names. -/
def State.devAt (s : State) (pa : Nat) : DevAt :=
  let o := pa % 0x100000000
  match pa / 0x100000000 with
  | 0xF0 => s.furAt o
  | 0xF1 => s.grnAt o
  | 0xF2 =>
    (match o / 0x1000000 with
     | 0 => .single .DRL (o % 0x1000000)
     | 1 => .single .SOW (o % 0x1000000)
     | 2 => .single .HRW (o % 0x1000000)
     | 3 => .single .BND (o % 0x1000000)
     | _ => .reserved)
  | 0xF8 => headlandAt o
  | _ => .reserved

/-! ### Reads -/

/-- A queue's fetching is held (DRL_Q_STAT.HELD): packets wait, and the ledger, the quota or the ring stops them. -/
def State.qHeld (s : State) (q : Nat) : Bool := s.qWaiting q && (!s.ledgerRoom q || s.ringFree q = 0)

/-- The threads of a word of GLN_HALTSTAT. -/
def State.haltedMask (s : State) (i : Nat) : Nat :=
  maskOfBits ((List.range 32).filter fun k => (s.thread (32 * i + k)).mode = .halted)

/-- What a field shows whose one home is elsewhere in the state. -/
def State.view (s : State) (F : Fld) (i : Nat) : Nat :=
  if F.id = PWR_TG_RESET.BUSY.id then (if s.clk.tg.isEmpty then 0 else 1)
  else if F.id = PWR_GATE_STAT.GATED.id then maskOfBits ((List.range 32).filter fun k => (s.core (32 * i + k)).gated)
  else if F.id = BT_STEPPING.LETTER.id then Config.fusedLetter % 4
  else if F.id = BT_STEPPING.DIGIT.id then Config.fusedDigit % 4
  else if F.id = BT_COMPAT.UNTESTED_PAIR.id then
    (if s.on BT_COMPAT.UNTESTED_HMB 0 || s.on BT_COMPAT.UNTESTED_RVD 0 || s.on BT_COMPAT.UNTESTED_TMC 0 then 1 else 0)
  else if F.id = GRN_STATE.MEMBER.id then i / 6
  else if F.id = GRN_STATE.SET.id then i % 6
  else if F.id = DRL_STATUS.USED.id then s.drill.ledger.length
  else if F.id = DRL_Q_STAT.HELD.id then (if s.qHeld i then 1 else 0)
  else if F.id = DRL_Q_STAT.IDLE.id then (if !s.on DRL_Q_CFG.EN i && (s.qEntries i).isEmpty then 1 else 0)
  else if F.id = SOW_STATUS.ARMED.id then maskOfBits ((List.range 16).filter fun l => s.on SOW_LOOP_CTL.ARMED l)
  else if F.id = SOW_LOOP_CTL.STATE.id then ((s.loop i).map s.loopState).getD 0
  else if F.id = YK_TIME.TS.id then s.ykNow
  else if F.id = SWT_STATUS.GEOM_BAD.id then (if s.geomBad then 1 else 0)
  else if F.id = SWT_STATUS.UP.id then maskOfBits ((List.range 6).filter fun k => s.linkState k = 2)
  else if F.id = SWT_STATUS.PKG.id then s.ownPkg
  else if F.id = SWT_OUT.COUNT.id then (s.acre.reqs.filter fun r => r.dst = i && r.sent.isSome).length
  else if F.id = GLN_HALTSTAT.HALTED.id then s.haltedMask i
  else if F.id = TLY_CNT.HIGH.id then
    (if i % 2 = 0 && s.on TLY_CFG.CHAIN i then s.f TLY_CNT.COUNT (i + 1) % 2 ^ 16 else 0)
  else if F.id = RV_LOG_STAT.FULL.id then
    (if (s.reeve.log.filter fun x => x.2.valid && x.2.sticky).length = logSlots then 1 else 0)
  else if F.id = RV_LOG_STAT.STICKY.id then (s.reeve.log.filter fun x => x.2.valid && x.2.sticky).length
  else 0

/-- The 64 bytes of a fault-log entry (Table 24-1). -/
def LogEntry.bytes (e : LogEntry) : List Byte :=
  let flags := (if e.sticky then 128 else 0) + (if e.valid then 64 else 0) + e.severity
  leBytes 8 e.ts ++ leBytes 4 e.seq ++ leBytes 1 flags ++ leBytes 1 e.rep ++ leBytes 2 e.code ++ leBytes 2 e.inst ++
    leBytes 2 e.plot ++ leBytes 4 e.aux ++ leBytes 8 e.addr ++ leBytes 8 e.lastTs ++ leBytes 24 e.detail

/-- A word of the fault log; a slot that was never written reads zero. -/
def State.logWord (s : State) (off : Nat) : Nat :=
  match find (off / 64) s.reeve.log with
  | none => 0
  | some e => numAt e.bytes (off % 64) 4

/-- A word of a register block. A stream's page reads zero unless the stream is open (Table 16-2). -/
def State.wordAt (s : State) (b : Blk) (win off : Nat) : Nat :=
  if b = .HRW && 0x10000 ≤ off && off < 0x20000 && !s.on HRW_S_STAT.OPEN ((off - 0x10000) / 32) then 0
  else s.readWord s.view b win off

/-- A 4-byte read. The low half of CLK_TIMESTAMP latches the high half for the next read of it; a read of the high half
that follows no read of the low half gives what was latched last, zero at first: the model's choice
(notes/assumptions/69). Reads of broadcast and group windows have no side effect (R80). -/
def State.readDev4 (s : State) (pa : Nat) : Nat × State :=
  match s.devAt pa with
  | .reserved => (0, s)
  | .log off => (s.logWord off, s)
  | .reg b wins one off =>
    if b = .CLK && one && off = 0x10 then (s.now % 2 ^ 32, { s with clk := { s.clk with tsLatch := s.now / 2 ^ 32 } })
    else if b = .CLK && one && off = 0x14 then (s.clk.tsLatch, s)
    else (wins.foldl (fun v w => v ||| s.wordAt b w off) 0, s)

/-- An 8-byte read: one access of a 64-bit register (R78), else two words. -/
def State.readDev8 (s : State) (pa : Nat) : Nat × State :=
  let word (o : Nat) : Nat :=
    match s.devAt (pa + o) with
    | .reserved => 0
    | .log off => s.logWord off
    | .reg b wins _ off => wins.foldl (fun v w => v ||| s.wordAt b w off) 0
  (word 0 + 2 ^ 32 * word 4, s)

/-- A read of a Device address, 4 or 8 bytes. -/
def State.readDev (s : State) (pa : Nat) (wide : Bool) : Nat × State := if wide then s.readDev8 pa else s.readDev4 pa

/-- A read of a Device address by an agent: who may not use the BT_ block (R68) reads zero there
(notes/assumptions/68). -/
def State.agentRead (s : State) (agent : Agent) (pa : Nat) (wide : Bool) : Nat × State :=
  match s.devAt pa with
  | .reg .BT _ _ _ => if (btOwner agent).isNone then (0, s) else s.readDev pa wide
  | _ => s.readDev pa wide

/-! ### Writes, block by block

`v` holds the bits written, at their places in the register, and `m` says which they are. -/

/-- The state that a command leaves; registers' own commands do not stop. -/
def nextOr (s : State) : Out → State
  | .next t => t
  | _ => s

/-- PWR_ registers (R52, R341). The watchdog's period begins as EN is set from 0, for R52 names only KICK: the model's
choice (notes/assumptions/69). -/
def State.writePwr (s : State) (agent : Agent) (off : Nat) (r : RegDesc) (i v m : Nat) : State :=
  match r.off with
  | 0x08 => if v % 2 = 1 || !pwrReach agent then s.pkgWrite agent (v / 2 ^ 16) else s
  | 0x0C => if v.testBit 31 || !pwrReach agent then s.tgWrite agent (v % 128) else s
  | 0x14 => if v % 2 = 1 || !(pwrReach agent || agent = .drill) then s.kickWrite agent else s
  | 0x10 =>
    if !pwrReach agent then s.writeDropped agent off
    else
      let t := s.writeReg r i v m
      if t.on PWR_WDOG_CFG.EN 0 && !s.on PWR_WDOG_CFG.EN 0 then { t with clk := { t.clk with kickAt := t.now } } else t
  | _ => if pwrReach agent then s.writeReg r i v m else s.writeDropped agent off

/-- BT_UPDATE (R70): more than one of TRIAL, COMMIT and REVERT has no effect. -/
def State.writeUpdate (s : State) (agent : Agent) (v : Nat) : State :=
  let key := v / 2 ^ 16
  let restart := v.testBit 12
  match v.testBit 9, v.testBit 10, v.testBit 11 with
  | true, false, false => s.prefAction agent key restart fun r => { r with trial := v % 16 }
  | false, true, false => s.prefAction agent key restart prefCommit
  | false, false, true => s.prefAction agent key restart fun r => { r with trial := 0 }
  | false, false, false => if restart then nextOr s (execRestart agent (BitVec.ofNat 16 key) s) else s
  | _, _, _ => s

/-- BT_ registers: only plot 0 and Reeve use them (R68). -/
def State.writeBt (s : State) (agent : Agent) (r : RegDesc) (i v m : Nat) : State :=
  if !s.btUser agent then s
  else
    match r.off with
    | 0x24 => s.writeUpdate agent v
    | 0x30 =>
      let s := s.writeReg r i v m
      let s := if v.testBit 8 then nextOr s (execClaim agent s) else s
      if v.testBit 9 then nextOr s (execRelease agent s) else s
    | 0x38 => if v % 4 = 0 then s else s.flashCmd agent (v % 4)
    | 0x40 =>
      if v.testBit 4 then nextOr s (execSvnCommit agent (BitVec.ofNat 16 (v / 2 ^ 16)) (BitVec.ofNat 4 v) s) else s
    | _ => s.writeReg r i v m

/-- The registers of a range engine: while it is busy a write only sets IGNORED (R205). -/
def State.writeRange (s : State) (r : RegDesc) (i v m : Nat) : State :=
  if s.on FUR_RNG_CTL.BUSY i then s.setOn FUR_RNG_CTL.IGNORED i true else s.writeReg r i v m

/-- FUR_ registers of an instance. -/
def State.writeFur (s : State) (agent : Agent) (r : RegDesc) (i v m : Nat) : State :=
  match r.off with
  | 0x800 => nextOr s (execXpendCancel agent (Fin.ofNat 1056 i) (BitVec.ofNat 4 v) s)
  | 0xC00 =>
    let n : Cid := Fin.ofNat 128 i
    let dinv := v.testBit 4
    let iinv := v.testBit 5
    let s := (s.writeDen n (v.testBit 0) dinv).writeIen n (v.testBit 1) iinv
    let s := if dinv then nextOr s (execDinv n s) else s
    if iinv then nextOr s (execIinv n s) else s
  | 0xC40 => s.writeRange r i v m
  | 0xC48 => s.writeRange r i v m
  | 0xC50 =>
    if v.testBit 31 && !s.on FUR_RNG_CTL.BUSY i then
      let w1c := (v / 2 ^ 28 % 4) * 2 ^ 28
      (s.writeReg r i w1c (3 * 2 ^ 28)).rangeGo i (v / 16 % 4) (v.testBit 0)
    else s.writeRange r i v m
  | _ => s.writeReg r i v m

/-- GRN_ registers of an instance (R296). -/
def State.writeGrn (s : State) (agent : Agent) (r : RegDesc) (i v m : Nat) : State :=
  match r.off with
  | 0x4 => s.modeWrite agent i (v % 4) (v.testBit 31)
  | _ => s.writeReg r i v m

/-- Another queue of the plot is its control queue. -/
def State.otherCtrl (s : State) (q : Nat) : Bool :=
  (plotQueues (q / 8)).any fun k => k ≠ q && s.on DRL_Q_CFG.CTRL k

/-- DRL_Q_CFG (R341): writable while EN is 0, but for EN itself, which a write clears; a second control queue of a plot is
ignored. -/
def State.writeQcfg (s : State) (q v : Nat) : State :=
  if s.on DRL_Q_CFG.EN q then (if v.testBit 31 then s else s.queueDisable q)
  else
    let ctrl := if v.testBit 29 && s.otherCtrl q then s.on DRL_Q_CFG.CTRL q else v.testBit 29
    let s := ((s.setOn DRL_Q_CFG.SELF q (v.testBit 30)).setOn DRL_Q_CFG.CTRL q ctrl).setF DRL_Q_CFG.PRIO q (v / 2 ^ 27)
    let s := (s.setF DRL_Q_CFG.VEC q (v / 256)).setF DRL_Q_CFG.LOG2SIZE q v
    if v.testBit 31 then s.queueEnable q else s

/-- DRL_ registers: a function reaches its own queues only; BASE, CR_BASE and TAILADDR are writable while EN is 0
(R341). -/
def State.writeDrl (s : State) (agent : Agent) (r : RegDesc) (i v m : Nat) : State :=
  if r.off < 0x100000 then (if reaches agent then s.writeReg r i v m else s)
  else if !queueReach agent i then s
  else
    match r.off with
    | 0x100008 => s.writeQcfg i v
    | 0x100010 => s.doorbell i v
    | 0x100000 => if s.on DRL_Q_CFG.EN i then s else s.writeReg r i v m
    | 0x100018 => if s.on DRL_Q_CFG.EN i then s else s.writeReg r i v m
    | 0x100028 => if s.on DRL_Q_CFG.EN i then s else s.writeReg r i v m
    | _ => s.writeReg r i v m

/-- HRW_ registers: the pages of open streams. -/
def State.writeHrw (s : State) (agent : Agent) (r : RegDesc) (i v m : Nat) : State :=
  if !s.streamReach agent i then s
  else
    match r.off with
    | 0x10000 => s.feedWrite i v
    | 0x10010 =>
      let s := s.writeReg r i v m
      if v.testBit 31 then s.resumeStream i else s
    | _ => s.writeReg r i v m

/-- BND_ registers (R259). -/
def State.writeBnd (s : State) (agent : Agent) (off : Nat) (r : RegDesc) (i v m : Nat) : State :=
  if agent ≠ .drill then s.writeDropped agent off
  else
    match r.off with
    | 0x1000 => s.bndCtl i (v.testBit 31) (v.testBit 30) (v.testBit 29) (v / 4096 % 4096) (v % 4096)
    | _ => s.writeReg r i v m

/-- HST_ registers: a function reaches its own page only. -/
def State.writeHst (s : State) (agent : Agent) (r : RegDesc) (i v m : Nat) : State :=
  if r.off < 0x100000 then (if reaches agent then s.writeReg r i v m else s)
  else if !pageReach agent i then s
  else
    match r.off with
    | 0x100000 => if v.testBit 28 then s.detach i 5 false else s
    | 0x100020 =>
      let s := s.writeReg r i v m
      if v.testBit 31 then s.rebaseGo i else s
    | _ => s.writeReg r i v m

/-- YK_HB_PERIOD (R401): 1 ms to 1 s, and not above the period of an armed yoked loop. -/
def State.writePeriod (s : State) (v : Nat) : State :=
  if within' v 1000000 1000000000 && (List.range 16).all fun l => !s.ykLoopArmed l || decide (v ≤ s.f SOW_LOOP_PERIOD.NS l) then
    (s.setF YK_HB_PERIOD.NS 0 v).hbRestart
  else s

/-- YK_ registers. -/
def State.writeYk (s : State) (agent : Agent) (off : Nat) (r : RegDesc) (i v m : Nat) : State :=
  if !ykReach agent then s.writeDropped agent off
  else
    match r.off with
    | 0x08 => nextOr s (execYokeEnable agent (v.testBit 31) (BitVec.ofNat 10 (v / 2 ^ 16)) (BitVec.ofNat 16 v) s)
    | 0x0C => if v % 2 = 1 then nextOr s (execRejoin agent s) else s
    | 0x10 => s.writePeriod v
    | 0x14 => if within' (v % 1024) 10 1000 then s.setF YK_HB_SLACK.US 0 v else s
    | 0x68 =>
      let was := s.on YK_XQ_CFG.EN 0
      if was && !v.testBit 31 then (nextOr s (execXqDisable agent s)).writeReg r i v m
      else (s.writeReg r i v m).xqGo
    | 0x6C => nextOr s (execXqDoorbell agent (BitVec.ofNat 32 v) s)
    | _ => s.writeReg r i v m

/-- Plot 0 and Reeve (R440). -/
def swtReach : Agent → Bool
  | .plot p => p.val = 0
  | .reeve => true
  | _ => false

/-- SWT_CFG: the geometry is writable only while EN is 0. -/
def State.writeSwtCfg (s : State) (r : RegDesc) (v : Nat) : State :=
  let s := if s.on SWT_CFG.EN 0 then s else s.writeReg r 0 (v % 2 ^ 14) 0x3F3F
  s.fabricEn (v.testBit 31)

/-- SWT_ registers of the package (R440). -/
def State.writeSwt (s : State) (agent : Agent) (off : Nat) (r : RegDesc) (i v m : Nat) : State :=
  let managed := [0x100000, 0x100010, 0x100018, 0x100020, 0x100028, 0x100030].contains r.off
  let drillOnly := [0x100100, 0x101000, 0x101008, 0x101400].contains r.off
  if (managed && !swtReach agent) || (drillOnly && agent ≠ .drill) then s.writeDropped agent off
  else
    match r.off with
    | 0x100000 => s.writeSwtCfg r v
    | 0x100010 => (s.writeReg r i v m).routesUpdate
    | 0x100018 => (s.writeReg r i v m).routesUpdate
    | 0x100100 =>
      (((s.setOn SWT_DIR.VALID i (v.testBit 31)).setOn SWT_DIR.UNREACH i (v.testBit 30)).setOn SWT_DIR.PENDING i
        (v.testBit 29)).setF SWT_DIR.DIR i v
    | _ => s.writeReg r i v m

/-- RV_PLIM: PL1 is at most PL2. -/
def State.writePlim (s : State) (v m : Nat) : State :=
  let hi := v / 2 ^ 16 % 2 ^ 16
  let lo := v % 2 ^ 16
  let s := if within' hi 300 850 && m / 2 ^ 16 ≠ 0 then s.setF RV_PLIM.PL2 0 hi else s
  if within' lo 300 720 && decide (lo ≤ s.f RV_PLIM.PL2 0) then s.setF RV_PLIM.PL1 0 lo else s

/-- RV_LOG_ACK (R557). -/
def State.writeAck (s : State) (agent : Agent) (v : Nat) : State :=
  if !v.testBit 31 then s
  else if v.testBit 29 then nextOr s (execLogClear agent s)
  else if v.testBit 30 then nextOr s (execLogAckAll agent s)
  else nextOr s (execLogAck agent (Fin.ofNat 4096 v) s)

/-- RV_ registers (R571). -/
def State.writeRv (s : State) (agent : Agent) (off : Nat) (r : RegDesc) (i v m : Nat) : State :=
  s.rvWrite agent off fun s =>
    match r.off with
    | 0x0C => s.writeAck agent v
    | 0x18 => s.writePlim v m
    | _ => s.writeReg r i v m

/-- GLN_HALTREQ (R535 to R537). -/
def State.writeHaltReq (s : State) (agent : Agent) (v : Nat) : State :=
  let n : Cid := Fin.ofNat 128 v
  let mask := BitVec.ofNat 8 (v / 2 ^ 16)
  let s := s.haltAction (v / 2 ^ 27 % 4)
  if !v.testBit 31 then s
  else
    match s.f GLN_HALTREQ.ACTION 0 with
    | 0 => nextOr s (execHaltRequest agent n mask s)
    | 1 => nextOr s (execResumeRequest agent n mask s)
    | 2 => nextOr s (execStep agent n mask (v.testBit 26) s)
    | _ => s

/-- GLN_DBGRST (R539): only the TAP may write it, with its key. -/
def State.debugReset (s : State) (agent : Agent) (key : Nat) (tg : Bool) (n : Nat) : State :=
  if !s.acts agent then s
  else if agent ≠ .tap then s.writeDropped agent 0x40
  else if key ≠ 0x6D17 then s
  else if !tg then s.packageReset PWR_RESET_CAUSE.DEBUG
  else if s.inReset then s else s.tgBegin n

/-- GLN_ registers. -/
def State.writeGln (s : State) (agent : Agent) (r : RegDesc) (i v m : Nat) : State :=
  if !reaches agent then s
  else
    match r.off with
    | 0x20 => (s.writeReg r i v m).writeHaltReq agent v
    | 0x30 =>
      let s := s.writeReg r i v m
      if v.testBit 31 then
        nextOr s (execDregAccess agent (v.testBit 30) (Fin.ofNat 1056 (v / 2 ^ 16 % 1024)) (BitVec.ofNat 3 (v / 4096))
          (BitVec.ofNat 12 v) s)
      else s
    | 0x40 => if v.testBit 15 || agent ≠ .tap then s.debugReset agent (v / 2 ^ 16) (v.testBit 14) (v % 128) else s
    | 0x200 => nextOr s (execTraceEnable agent (BitVec.ofNat 32 v) s)
    | 0x210 => (s.writeReg r i (if i = 4 then v % 16 else v) m).traceRescan
    | _ => s.writeReg r i v m

/-- TLY_ registers. -/
def State.writeTly (s : State) (agent : Agent) (r : RegDesc) (i v m : Nat) : State :=
  if !reaches agent then s
  else
    match r.off with
    | 0x0 =>
      let s := s.writeReg r i v m
      if v % 2 = 1 then nextOr s (execTallyClear agent s) else s
    | 0x1000 => s.writeReg r i (if i % 2 = 1 then setBit v 30 false else v) m
    | _ => s.writeReg r i v m

/-- A write of the bits `m` of a register of a block; `off` is the offset written. -/
def State.writeBlk (s : State) (agent : Agent) (b : Blk) (off : Nat) (r : RegDesc) (i v m : Nat) : State :=
  match b with
  | .PWR => s.writePwr agent off r i v m
  | .BT => s.writeBt agent r i v m
  | .FUR => s.writeFur agent r i v m
  | .GRN => s.writeGrn agent r i v m
  | .DRL => s.writeDrl agent r i v m
  | .HRW => s.writeHrw agent r i v m
  | .BND => s.writeBnd agent off r i v m
  | .HST => s.writeHst agent r i v m
  | .YK => s.writeYk agent off r i v m
  | .SWT => s.writeSwt agent off r i v m
  | .GLN => s.writeGln agent r i v m
  | .TLY => s.writeTly agent r i v m
  | .RV => s.writeRv agent off r i v m
  | .HDL => s
  | .CLK => s.writeReg r i v m
  | .FURG => s.writeReg r i v m
  | .GRNG => s.writeReg r i v m
  | .SOW => s.writeReg r i v m
  | .SWTL => s.writeReg r i v m

/-- A 32-bit write at an offset of one window. -/
def State.writeWord (s : State) (agent : Agent) (b : Blk) (win off v : Nat) : State :=
  match b.locate win off with
  | none => s
  | some (r, i, o) => s.writeBlk agent b off r i (v % 2 ^ 32 * 2 ^ (8 * o)) ((2 ^ 32 - 1) * 2 ^ (8 * o))

/-- A 64-bit write at an offset of one window: of a 64-bit register at once (R78), else of two words. -/
def State.writeDouble (s : State) (agent : Agent) (b : Blk) (win off v : Nat) : State :=
  match b.locate win off with
  | some (r, i, 0) =>
    if r.width = 64 then s.writeBlk agent b off r i (v % 2 ^ 64) (2 ^ 64 - 1)
    else (s.writeWord agent b win off v).writeWord agent b win (off + 4) (v / 2 ^ 32)
  | _ => (s.writeWord agent b win off v).writeWord agent b win (off + 4) (v / 2 ^ 32)

/-- A write of a Device address by an agent that R76 lets reach it, 4 or 8 bytes (R80). -/
def State.writeDev (s : State) (agent : Agent) (pa : Nat) (wide : Bool) (v : Nat) : State :=
  match s.devAt pa with
  | .reg b wins _ off =>
    wins.foldl (fun (s : State) w => if wide then s.writeDouble agent b w off v else s.writeWord agent b w off v) s
  | _ => s

/-! ### Silo and spill debug windows (R258) -/

/-- A read through a debug window. -/
def State.readTileWin (s : State) (n off : Nat) (spill wide : Bool) : Nat :=
  let u := s.tile n
  leNat ((if spill then u.spill else u.silo).read off (if wide then 8 else 4))

/-- A write through a debug window. -/
def State.writeTileWin (s : State) (n off : Nat) (spill wide : Bool) (v : Nat) : State :=
  let u := s.tile n
  let b := leBytes (if wide then 8 else 4) v
  s.setTile n (if spill then { u with spill := u.spill.write off b } else { u with silo := u.silo.write off b })

/-! ### BARs (Tables 16-2 and 16-3) and configuration writes -/

/-- Where a BAR0 offset of plot p leads. -/
inductive Bar0 where
  | dev (pa : Nat)
  | vector (vec word : Nat)
  | pending (word : Nat)
  | none
deriving DecidableEq, Repr

/-- BAR0 of every function (Table 16-2). -/
def bar0 (p off : Nat) : Bar0 :=
  if off < 0x1000 then .dev (0xF200100000 + 0x1000 * p + off)
  else if off < 0x2000 then .dev (0xF800100000 + 0x1000 * p + (off - 0x1000))
  else if off < 0x3000 then .vector ((off - 0x2000) / 16) ((off - 0x2000) % 16 / 4)
  else if off < 0x4000 then .pending ((off - 0x3000) / 4)
  else if 0x10000 ≤ off && off < 0x20000 then .dev (0xF202000000 + off)
  else .none

/-- BAR2 of the physical function (Table 16-3). -/
def bar2 (off : Nat) : Option Nat :=
  if off < 0x120004 then some (0xF000000000 + off)
  else if 0x4000000 ≤ off && off < 0x40D0040 then some (0xF100000000 + (off - 0x4000000))
  else if 0x8000000 ≤ off && off < 0xC000000 then some (0xF200000000 + (off - 0x8000000))
  else if 0x10000000 ≤ off && off < 0x18000000 then some (0xF800000000 + (off - 0x10000000))
  else none

/-- A vector's MSI-X table entry as it stands. -/
def State.vec (s : State) (p vec : Nat) : Vec := findD {} (vecKey p vec) s.vecs

/-- A word of a vector's MSI-X table entry, in the standard's order: address, upper address, data, and the mask in bit 0. -/
def State.writeVector (s : State) (p vec word v : Nat) : State :=
  let x := s.vec p vec
  let keep (y : Vec) : State := { s with vecs := put (vecKey p vec) y s.vecs }
  if vecCount p ≤ vec then s
  else
    match word with
    | 0 => keep { x with addr := x.addr / 2 ^ 32 * 2 ^ 32 + v % 2 ^ 32 }
    | 1 => keep { x with addr := x.addr % 2 ^ 32 + v % 2 ^ 32 * 2 ^ 32 }
    | 2 => keep { x with data := v % 2 ^ 32 }
    | _ => s.maskVector p vec (v % 2 = 1)

/-- What a word of a vector's table entry reads. -/
def State.readVector (s : State) (p vec word : Nat) : Nat :=
  let x := s.vec p vec
  if vecCount p ≤ vec then 0
  else
    match word with
    | 0 => x.addr % 2 ^ 32
    | 1 => x.addr / 2 ^ 32
    | 2 => x.data
    | _ => if x.masked then 1 else 0

/-- A word of the pending bit array. -/
def State.readPending (s : State) (p word : Nat) : Nat :=
  maskOfBits ((List.range 32).filter fun k => decide (32 * word + k < vecCount p) && (s.vec p (32 * word + k)).pba)

/-- The Device address that a BAR0 offset leads to: in recovery the BT_ block (R66); a stream page only of a stream of
the function's plot. -/
def State.bar0At (s : State) (p off : Nat) : Bar0 :=
  if s.recovering then (if off < 0x10000 then .dev (0xF807000000 + off) else .none)
  else
    match bar0 p off with
    | .dev pa => if 0x10000 ≤ off && s.streamPlot ((off - 0x10000) / 32) ≠ p then .none else .dev pa
    | b => b

/-- A write through BAR0; the queue and function pages beyond their registers are reserved space (R11). -/
def State.barWrite (s : State) (p : Plot) (off : Nat) (wide : Bool) (v : Nat) : State :=
  match s.bar0At p off with
  | .dev pa => s.writeDev (.plot p) pa wide v
  | .vector vec word =>
    let s := s.writeVector p vec word v
    if wide then s.writeVector p vec (word + 1) (v / 2 ^ 32) else s
  | _ => s

/-- What the host gets for a read (R369): the data, or Unsupported Request. -/
def State.barAnswer (s : State) (p : Nat) (v : Option Nat) : State := s.send (.barData p v)

/-- A read through BAR0 (R365, R369). Another plot's stream page reads zero; a hole of the BAR answers Unsupported Request
(notes/assumptions/74). -/
def State.barRead (s : State) (p : Plot) (off : Nat) (wide : Bool) : State :=
  let hole := !s.recovering && decide (off < 0x10000) || (s.recovering && decide (0x10000 ≤ off))
  match s.bar0At p off with
  | .dev pa => let (v, s) := s.readDev pa wide; s.barAnswer p (some v)
  | .vector vec word =>
    s.barAnswer p (some (s.readVector p vec word + (if wide then 2 ^ 32 * s.readVector p vec (word + 1) else 0)))
  | .pending word =>
    s.barAnswer p (some (s.readPending p word + (if wide then 2 ^ 32 * s.readPending p (word + 1) else 0)))
  | .none => s.barAnswer p (if hole then none else some 0)

/-- VF Enable is set, with a number of virtual functions (R364); the recovery function has no SR-IOV (R389). -/
def State.vfSet (s : State) (n : Nat) : State :=
  if !s.configReaches 0 || s.recovering || n = 0 || 511 < n then s
  else { s with host := { s.host with vfEnable := true, numVfs := n } }

/-- Bus Master Enable of a function is set. -/
def State.masterSet (s : State) (p : Nat) : State :=
  if s.configReaches p then s.setFn p { s.fn p with master := true } else s

/-- A write of a function's MSI-X Message Control (R373): Enable, and Function Mask, whose clearing sends what is pending
on vectors that are not masked themselves. The recovery function has no MSI-X (R389). -/
def State.msixSet (s : State) (p : Nat) (enable mask : Bool) : State :=
  if !s.configReaches p || s.recovering then s
  else
    let s := s.setFn p { s.fn p with msixEn := enable, msixMask := mask }
    if !enable || mask then s
    else
      (s.vecs.filter fun x => x.1 / 256 = p && x.2.pba && !x.2.masked).foldl (fun s x =>
        { s with vecs := put x.1 { x.2 with pba := false } s.vecs }.notify p (x.1 % 256)) s

/-- The parts of the package that a Device address lies in run: the Field die's and Granary's once they are released, the
Headland's with the register bus, on REFCLK if need be (R46, R49). -/
def State.deviceRuns (s : State) (pa : Nat) : Bool :=
  if pa / 0x100000000 = 0xF8 then s.live else s.released

/-- A write of a Device address by an agent. One that R76 keeps out has no effect; where it aims at a PWR_ register it is
logged (R52). -/
def State.agentWrite (s : State) (agent : Agent) (pa : Nat) (wide : Bool) (v : Nat) : State :=
  if !s.acts agent || !s.deviceRuns pa then s
  else if !reaches agent then
    match s.devAt pa with
    | .reg .PWR _ _ off => s.writeDropped agent off
    | _ => s
  else
    match s.region pa with
    | .device => s.writeDev agent pa wide v
    | .silo n off => s.writeTileWin n off false wide v
    | .spill n off => s.writeTileWin n off true wide v
    | _ => s

/-- A BAR access of the host is performed where the function answers (R366, R390); elsewhere a read gets Unsupported
Request while the link is up. -/
def State.barAccess (s : State) (p off : Nat) (wide isRead : Bool) (f : State → State) : State :=
  let ur (s : State) : State := if isRead then s.barAnswer p none else s
  if !s.on HST_LINK.DL_UP 0 then s
  else if !s.barReaches p then ur s
  else if off % (if wide then 8 else 4) ≠ 0 then ur (s.writeDropped (.plot (Fin.ofNat 512 p)) off)
  else f s

/-- The Device ID over the Vendor ID: of the physical function, a virtual one or the recovery function (R66, R363). -/
def State.functionId (s : State) (p : Nat) : Nat :=
  (if s.recovering then 0x4B1F else if p = 0 then 0x4B10 else 0x4B11) * 65536 + 0x1D2E

/-- BAR2 is the physical function's alone, and the recovery function has none (R66, R367). -/
def State.bar2At (s : State) (off : Nat) : Option Nat := if s.recovering then none else bar2 off

/-- REGISTER_WRITE (R9, R10, R11, R80, R364, R366, R367, R369, R373): a write of 4 or 8 bytes at its own alignment, by an
agent of the package or by the host through a BAR or configuration space; and the host's reads. -/
def execRegisterWrite (target : RegTarget) (wide : Bool) (v : BitVec 64) (s : State) : Out :=
  .next <|
    match target with
    | .device agent pa =>
      if pa.toNat % (if wide then 8 else 4) ≠ 0 then s else s.agentWrite agent pa.toNat wide v.toNat
    | .bar0 p off => s.barAccess p off.toNat wide false fun s => s.barWrite p off.toNat wide v.toNat
    | .bar2 off =>
      s.barAccess 0 off.toNat wide false fun s =>
        match s.bar2At off.toNat with
        | some pa => s.writeDev (.plot 0) pa wide v.toNat
        | none => s
    | .readBar0 p off => s.barAccess p off.toNat wide true fun s => s.barRead p off.toNat wide
    | .readBar2 off =>
      s.barAccess 0 off.toNat wide true fun s =>
        match s.bar2At off.toNat with
        | some pa => let (v, s) := s.readDev pa wide; s.barAnswer 0 (some v)
        | none => s.barAnswer 0 none
    | .readId p => if s.configReaches p then s.barAnswer p (some (s.functionId p)) else s
    | .vfEnable n => s.vfSet n
    | .busMaster p => s.masterSet p
    | .msix p enable mask => s.msixSet p enable mask

/-- DEBUG_RESET (R539). -/
def execDebugReset (agent : Agent) (key : BitVec 16) (tg : Bool) (n : Cid) (s : State) : Out :=
  .next (s.debugReset agent key.toNat tg n)

end Sys2Proof.Machine
end

