-- ==== Sys2Proof/Machine/Tap.lean ====
section
/-! DEFINITION. The test access port (R532 to R534, Table 23-1). -/

namespace Sys2Proof.Machine

/-- The IDCODE register (R532). -/
def idcode : Nat :=
  (4 * (Config.fusedLetter % 4) + Config.fusedDigit % 4) * 2 ^ 28 + 0x4B10 * 2 ^ 12 + 0x2E5 * 2 + 1

/-- The TAP, replaced. -/
def State.setTap (s : State) (t : Tap) : State := { s with gln := { s.gln with tap := t } }

/-- EXTEST, CLAMP and HIGHZ. -/
def boundaryIr (code : Nat) : Bool := code = 0 || code = 3 || code = 4

/-- The codes of Table 23-1 but BYPASS; any other code selects the bypass register. -/
def namedIr (code : Nat) : Bool := [0, 1, 2, 3, 4, 0x10, 0x11].contains code

/-- The instruction register takes a code; leaving EXTEST, CLAMP or HIGHZ resets the package (R533). -/
def State.loadIr (s : State) (code : Nat) : State :=
  let was := s.gln.tap.ir
  let s := s.setTap { s.gln.tap with ir := code }
  if boundaryIr was && was ≠ code then s.packageReset PWR_RESET_CAUSE.DEBUG else s

/-- What Capture-DR loads into the selected data register; none for the boundary-scan register, whose bits are pins. -/
def State.tapCapture (s : State) : Option Nat :=
  match s.gln.tap.ir with
  | 0 => none
  | 1 => none
  | 2 => some idcode
  | 0x10 => some s.gln.tap.addr
  | 0x11 => some s.gln.tap.data
  | _ => some 0

/-- TAP_RESET (R532): TRST_N or Test-Logic-Reset; IDCODE is selected. -/
def execTapReset (s : State) : Out := .next (s.loadIr 2)
def execExtest (s : State) : Out := .next (s.loadIr 0)
def execSamplePreload (s : State) : Out := .next (s.loadIr 1)
def execIdcode (s : State) : Out := .next (s.loadIr 2)
def execClamp (s : State) : Out := .next (s.loadIr 3)
def execHighz (s : State) : Out := .next (s.loadIr 4)

/-- BYPASS: 0xFF, or any code that Table 23-1 does not list. -/
def execBypass (code : BitVec 8) (s : State) : Out := .next (if namedIr code.toNat then s else s.loadIr code.toNat)

/-- BOUNDARY_EXIT_RESET (R533): the instruction register leaves EXTEST, CLAMP or HIGHZ for some code. -/
def execBoundaryExitReset (code : BitVec 8) (s : State) : Out :=
  .next (if boundaryIr s.gln.tap.ir && s.gln.tap.ir ≠ code.toNat then s.loadIr code.toNat else s)

/-- An access starts: DONE and ERR clear. -/
def State.tapStart (s : State) (v : Nat) : State :=
  let t := s.gln.tap
  s.setTap { t with addr := v, data := t.data % 2 ^ 64, busy := true, next := none }

/-- DBGADDR (R534): Update-DR starts one access, behind one in progress (Table 23-6). -/
def execDbgaddr (v : BitVec 64) (s : State) : Out :=
  .next <|
    let s := s.loadIr 0x10
    if s.gln.tap.busy then s.setTap { s.gln.tap with next := some v.toNat } else s.tapStart v.toNat

/-- DBGDATA (R534): Update-DR sets the write data. -/
def execDbgdata (v : BitVec 66) (s : State) : Out :=
  .next <|
    let s := s.loadIr 0x11
    s.setTap { s.gln.tap with wdata := v.toNat % 2 ^ 64 }

/-- What a TAP access brings: an error, or the data read. -/
inductive TapRes where
  | err
  | data (v : Nat)
deriving DecidableEq, Repr

/-- A TAP read. Data that comes back uncorrectable is a free value. -/
def State.tapRead (s : State) (pa n : Nat) : TapRes × State :=
  let pick (d : List Byte × Bool) (s : State) : TapRes × State :=
    if d.2 then (.data (s.draw.1 % 2 ^ (8 * n)), s.draw.2) else (.data (numAt d.1 (pa % 64) n), s)
  match s.region pa with
  | .normal .. =>
    let (r, s) := s.takeRes
    let (d, s) := s.coherentLine (pa / 64) 7 r
    pick d s
  | .direct c l =>
    let (r, s) := s.takeRes
    let (d, s) := s.granRead c l 7 r
    pick d s
  | .seedbox m off => (.data (leNat ((s.seed m).read off n)), s)
  | .silo m off => (.data (s.readTileWin m off false (n = 8)), s)
  | .spill m off => (.data (s.readTileWin m off true (n = 8)), s)
  | .device =>
    let (v, s) := s.agentRead .tap pa (n = 8)
    (.data v, s)
  | _ => (.err, s)

/-- A TAP write. -/
def State.tapWrite (s : State) (pa n v : Nat) : Bool × State :=
  let mask := maskOf (pa % 64) n
  let data := List.replicate (pa % 64) 0 ++ leBytes n v
  match s.region pa with
  | .normal .. => (true, s.coherentWrite (pa / 64) mask data 7)
  | .direct c l => let (r, s) := s.takeRes; (true, s.granWrite c l mask data 7 r)
  | .seedbox m off => (true, s.setSeed m ((s.seed m).write off (leBytes n v)))
  | .silo m off => (true, s.writeTileWin m off false (n = 8) v)
  | .spill m off => (true, s.writeTileWin m off true (n = 8) v)
  | .device => (true, s.writeDev .tap pa (n = 8) v)
  | _ => (false, s)

/-- The access in progress completes with DONE, and ERR where it failed; one that waits starts. -/
def State.tapEnds (s : State) (r : TapRes) : State :=
  let t := s.gln.tap
  let d := match r with
    | .err => 2 ^ 65 + 2 ^ 64 + t.data % 2 ^ 64
    | .data v => 2 ^ 65 + v
  let s := s.setTap { t with data := d, busy := false }
  match t.next with
  | none => s
  | some v => s.tapStart v

/-- The access of the TAP is performed (R534): ERR for a misaligned address, a decode error, a part of the package that is
held in reset, and any access while TAP_EN is 0. One that its channel cannot take yet waits there (R286, R309). -/
def State.tapGoes (s : State) : State :=
  let t := s.gln.tap
  let pa := t.addr % 2 ^ 56
  let n := if t.addr.testBit 62 then 8 else 4
  if !t.busy || !s.live then s
  else if !s.on GLN_DBGCTL.TAP_EN 0 || !s.deviceRuns pa || pa % n ≠ 0 then s.tapEnds .err
  else if s.accessHeld pa then s.arrive pa .tap
  else if t.addr.testBit 63 then
    match s.tapWrite pa n t.wdata with
    | (true, s) => s.tapEnds (.data (s.gln.tap.data % 2 ^ 64))
    | (false, s) => s.tapEnds .err
  else
    match s.tapRead pa n with
    | (r, s) => s.tapEnds r

/-- DEBUG_ACCESS_DONE (R534). -/
def execDebugAccessDone (res : MemRes) (s : State) : Out := .next (s.withRes res fun s => s.tapGoes)

end Sys2Proof.Machine
end

