-- ==== Sys2Proof/Machine/Transactions.lean ====
section
/-! DEFINITION. Memory transactions that leave a core (R150, R89, R92, R96, R121, R372, R383): posted stores to Device,
Host and Remote memory, loads outside the L1, and atomics. -/

namespace Sys2Proof.Machine

/-- The agent that a thread is at a register block: Drill on its own cores, else its plot. -/
def State.threadAgent (s : State) (h : Nat) : Agent :=
  if drillCore (coreOf h) then .drill else .plot (Fin.ofNat 512 (s.plotOf h))

/-! ### Posted stores -/

/-- A posted store leaves toward another package (R426). -/
def State.storeAway (s : State) (h k : Nat) (x : Posted) (pkg loc : Nat) : State :=
  let s := s.modThread h fun t => { t with posted := t.posted.set k { x with away := true } }
  s.swWrite (s.plotOf h) pkg loc (Nat.log2 x.bytes.length) (leNat x.bytes) (.store h x.va)

/-- An aperture store (R96, R372, R383): dropped and counted while the plot's function is DETACHED or the host cannot be
reached. -/
def State.storeHost (s : State) (h : Nat) (x : Posted) (w off : Nat) : State :=
  let p := s.plotOf h
  match s.apertureAt p w off with
  | none => s.lateStore x.pa h
  | some a => if s.detached p || !s.canSend p then s.bump HST_APTDROP.COUNT p else s.hostWrite p a x.bytes

/-- A posted store is performed at its target; a decode error is a late store error (Table 4-10). -/
def State.storeLands (s : State) (h : Nat) (x : Posted) : State :=
  let wide := decide (x.bytes.length = 8)
  match s.region x.pa with
  | .device => s.writeDev (s.threadAgent h) x.pa wide (leNat x.bytes)
  | .silo n off => s.writeTileWin n off false wide (leNat x.bytes)
  | .spill n off => s.writeTileWin n off true wide (leNat x.bytes)
  | .host w off => s.storeHost h x w off
  | .remote _ loc =>
    (match s.farWrite loc x.bytes with
     | (true, s) => s
     | (false, s) => s.lateStore x.pa h)
  | _ => s.lateStore x.pa h

/-- The oldest posted store that has not left toward another package, and its place. -/
def Thread.nextPosted (t : Thread) : Option (Nat × Posted) :=
  (List.range t.posted.length).findSome? fun k =>
    match t.posted[k]? with
    | some x => if x.away then none else some (k, x)
    | none => none

/-- The oldest posted store proceeds. -/
def State.postedGoes (s : State) (h k : Nat) (x : Posted) : State :=
  match s.region x.pa with
  | .remote pkg loc =>
    if pkg = s.ownPkg then (s.modThread h fun t => { t with posted := t.posted.eraseIdx k }).storeLands h x
    else s.storeAway h k x pkg loc
  | _ => (s.modThread h fun t => { t with posted := t.posted.eraseIdx k }).storeLands h x

/-! ### Loads -/

/-- How one part of a load comes back. -/
inductive PartDone where
  | data (b : List Byte)
  | decode
  | poison
  /-- A merging-buffer entry overlaps it in part (R192). -/
  | overlap
  /-- The access has been handed to the host port or to another package, or waits at its channel. -/
  | away
deriving DecidableEq, Repr

/-- What a read of a line gives a part. -/
def LineRead.part : LineRead → PartDone
  | .data b => .data b
  | .decode => .decode
  | .poison => .poison

/-- A load through the aperture (R372, R383). -/
def State.loadHost (s : State) (h w off len : Nat) : PartDone × State :=
  let p := s.plotOf h
  match s.apertureAt p w off with
  | none => (.decode, s)
  | some a =>
    if s.detached p then (.decode, s)
    else if s.host.reads.any fun r => r.2.use = .load h then (.away, s)
    else (.away, (s.hostRead p a len (.load h)).getD s)

/-- A load from another package (R426). -/
def State.loadFar (s : State) (h pkg loc len : Nat) : PartDone × State :=
  if pkg = s.ownPkg then
    match s.farRead loc len with
    | (none, s) => (.decode, s)
    | (some (_, true), s) => (.poison, s)
    | (some (b, false), s) => (.data b, s)
  else if s.acre.reqs.any fun r => r.use = .load h then (.away, s)
  else (.away, s.swRead (s.plotOf h) pkg loc (Nat.log2 len) (.load h))

/-- One part of a load: the merging buffer and the L1 first, then its target. A direct access that finds a till program
loaded is held (R309). -/
def State.loadPart (s : State) (h : Nat) (past : Bool) (p : Part) (res : MemRes) : PartDone × State :=
  let n := coreOf h
  match s.partLook n past p with
  | .data b => (.data b, s)
  | .overlap => (.overlap, s)
  | _ =>
    match s.region p.pa with
    | .device =>
      let (v, s) := s.agentRead (s.threadAgent h) p.pa (p.len = 8)
      (.data (leBytes p.len v), s)
    | .silo m off => (.data (leBytes p.len (s.readTileWin m off false (p.len = 8))), s)
    | .spill m off => (.data (leBytes p.len (s.readTileWin m off true (p.len = 8))), s)
    | .host w off => s.loadHost h w off p.len
    | .remote pkg loc => s.loadFar h pkg loc p.len
    | _ =>
      if s.readHeld (furrowOf n) p.pa p.uc then (.away, s.arrive p.pa (.load h))
      else
        let (r, s) := s.lineRead (furrowOf n) p.pa p.len p.uc 0 res
        (r.part, s)

/-- The parts of a load, in order, up to the first that brings no data. -/
def State.loadParts (s : State) (h : Nat) (past : Bool) (res : MemRes) : List Part → List Byte → PartDone × State
  | [], b => (.data b, s)
  | p :: r, b =>
    match s.loadPart h past p res with
    | (.data d, s) => s.loadParts h past res r (b ++ d)
    | (x, s) => (x, s)

/-- The load that a thread waits for. -/
def State.loadGoes (s : State) (h : Nat) (op : LoadOp) (res : MemRes) : State :=
  match s.loadParts h op.past res op.parts [] with
  | (.data b, s) => s.finishLoad h op b
  | (.decode, s) => s.fault h cLoadFault op.va
  | (.poison, s) => s.fault h cUncorrectable op.va
  | (.overlap, s) => s.tryLoad h op
  | (.away, s) => s

/-! ### Atomics -/

/-- The merging buffer no longer delays an atomic (R193): of the entries that it marked, none of its line is left, and in
its release form none at all. -/
def State.atomicReady (s : State) (h : Nat) (op : AtomicOp) : Bool :=
  !((s.core (coreOf h)).mbuf.any fun e => decide (e.num < op.upto) && (op.rel || e.line = op.pa / 64))

/-- An atomic ends in a fault; in a core that has locked up meanwhile it is dropped (R182). -/
def State.atomicFails (s : State) (h code : Nat) (op : AtomicOp) : State := s.completes h fun t => t.fault code op.va

/-- FN[3:0] of an atomic (R121). -/
def AOp.code : AOp → Nat
  | .swap => 0 | .add => 1 | .and => 2 | .or => 3 | .xor => 4 | .min => 5 | .max => 6 | .minu => 7 | .maxu => 8 | .cas => 9

/-- An atomic in this package: read, combine, write, without another access between. -/
def State.atomicHere (s : State) (h : Nat) (op : AtomicOp) (res : MemRes) : State :=
  let f := furrowOf (coreOf h)
  let len := if op.wide then 8 else 4
  let k := op.pa % 64
  match s.lineRead f op.pa len op.uc 0 res with
  | (.decode, s) => s.atomicFails h cStoreFault op
  | (.poison, s) => s.atomicFails h cUncorrectable op
  | (.data b, s) =>
    let s := match op.result (leNat b) with
      | none => s
      | some v => (s.lineWrite f (op.pa / 64) (maskOf k len) (List.replicate k 0 ++ leBytes len v) op.uc none .ok).2
    s.finishAtomic h op (leNat b)

/-- An atomic on this package's own global address (R83): only Granary memory and seedboxes. -/
def State.atomicOwn (s : State) (h : Nat) (op : AtomicOp) (loc : Nat) : State :=
  let len := if op.wide then 8 else 4
  let reachable := match s.localRegion loc with
    | .normal .. => true
    | .seedbox .. => true
    | _ => false
  if !reachable then s.atomicFails h cStoreFault op
  else
    match s.farRead loc len with
    | (none, s) => s.atomicFails h cStoreFault op
    | (some (_, true), s) => s.atomicFails h cUncorrectable op
    | (some (b, false), s) =>
      let s := match op.result (leNat b) with
        | none => s
        | some v => (s.farWrite loc (leBytes len v)).2
      s.finishAtomic h op (leNat b)

/-- The atomic that a thread waits for. -/
def State.atomicGoes (s : State) (h : Nat) (op : AtomicOp) (res : MemRes) : State :=
  if !s.atomicReady h op then s
  else
    match s.region op.pa with
    | .remote pkg loc =>
      if pkg = s.ownPkg then s.atomicOwn h op loc
      else if s.acre.reqs.any fun r => r.use = .atomic h then s
      else
        s.swAtomic (s.plotOf h) pkg loc op.op.code (if op.wide then 3 else 2) op.arg.toNat op.cmp.toNat (.atomic h)
    | .normal .. => if s.readHeld (furrowOf (coreOf h)) op.pa op.uc then s else s.atomicHere h op res
    | .seedbox .. => s.atomicHere h op res
    | _ => s.atomicFails h cStoreFault op

/-- MEMORY_TRANSACTION_COMPLETE (R150): of a thread's transactions, the oldest posted store first (R89), else the load or
atomic that it waits for; in a core that has locked up an atomic still completes (R182). One toward the host or another
package is handed over, and completes with its answer. `res` is how a channel access comes back. -/
def execMemoryTransactionComplete (h : Tid) (res : MemRes) (s : State) : Out :=
  .next <|
    let t := s.thread h
    match t.nextPosted with
    | some (k, x) => s.postedGoes h k x
    | none =>
      match t.hold with
      | some (.load op) => s.loadGoes h op res
      | some (.atomic op) => s.atomicGoes h op res
      | _ => s

end Sys2Proof.Machine
end

