-- ==== Sys2Proof/Machine/Held.lean ====
section
/-! DEFINITION. Direct accesses that a till program has held are performed, in order of arrival: at a YIELD and at the end
of the program (R92, R307, R309, R310). -/

namespace Sys2Proof.Machine

/-- A merging-buffer entry that was held drains. -/
def State.serveDrain (s : State) (n num : Nat) : State :=
  match (s.core n).mbuf.find? fun e => e.num = num && e.closed with
  | none => s
  | some e =>
    let (r, s) := s.takeRes
    (s.drainEntry n e false r).wakeAll n

/-- A segment of a tile instruction that was held is read or written. -/
def State.serveSeg (s : State) (n seq j : Nat) : State :=
  match (s.tile n).queue.findIdx? fun e => e.seq = seq with
  | none => s
  | some k =>
    match (s.tile n).queue[k]? with
    | none => s
    | some e =>
      match e.segs[j]? with
      | none => s
      | some g =>
        let (r, s) := s.takeRes
        if e.ins.fn.isRead then (if g.staged.isNone then s.segRead n k e j g r else s)
        else if g.acked then s
        else s.segWrite n k e j g r

/-- One held access is performed. A line that Drill or Harrow reaches for a plot may pass from now on. -/
def State.serveOne (s : State) (c : Nat) (x : Held) : State :=
  match x with
  | .load h =>
    (match (s.thread h).hold with
     | some (.load op) =>
       let (r, s) := s.takeRes
       s.loadGoes h op r
     | _ => s)
  | .drain n num => s.serveDrain n num
  | .seg n seq j => s.serveSeg n seq j
  | .write l mask data => s.landWrite c (.write l mask data)
  | .dma plot line => s.setSeq c { s.seq c with admitted := (plot, line) :: (s.seq c).admitted }
  | .tap => s.tapGoes

/-- The accesses that a channel holds are performed (R309). -/
def State.serveHeld (s : State) (c : Nat) : State :=
  let q := s.seq c
  let s := s.setSeq c { q with held := [], serving := true }
  let s := q.held.foldl (fun s x => s.serveOne c x) s
  s.setSeq c { s.seq c with serving := false }

/-- The slots of a YIELD beyond its first: the refreshes and accesses that it performs take time that Table 12-3 gives and
the model does not count, so their number is free (notes/assumptions/24). -/
def State.yieldSlots (s : State) (c : Nat) : State :=
  let n := s.draw.1
  let s := s.draw.2
  let q := s.seq c
  (s.setF GRN_TILL_SLOTS.COUNT c (s.f GRN_TILL_SLOTS.COUNT c + n)).setSeq c
    { q with clock := { q.clock with slot := q.clock.slot + n } }

/-- YIELD (R310): the checkpoint is written, the pending refreshes and the held direct accesses are performed, and the
program goes on with its row open. With nothing pending, held or open it takes one slot. -/
def execYield (c : Chan) (res : MemRes) (s : State) : Out :=
  s.tillInstr c 0x10 fun pc w q s =>
    s.withRes res fun s =>
      let quiet := s.f GRN_TILL_STAT.PENDING c = 0 && q.held.isEmpty && q.row.isNone
      let s := ((s.setOn GRN_TILL_CKPT.VALID c true).setF GRN_TILL_CKPT.PC c pc).setF GRN_TILL_CKPT.TAG c (tlImm w)
      let s := (((s.setF GRN_TILL_CKX.X0 c (q.x.getD 0 0)).setF GRN_TILL_CKX.X1 c (q.x.getD 1 0)).setF
        GRN_TILL_CKX.X2 c (q.x.getD 2 0)).setF GRN_TILL_CKX.X3 c (q.x.getD 3 0)
      let s := (s.setF GRN_TILL_STAT.PENDING c 0).serveHeld c
      (if quiet then s else s.yieldSlots c).tillGo c (pc + 1)

/-- The accesses that the ended till program of an entry has held are performed (R307). -/
def State.serveEnded (s : State) (e : Nat) : State :=
  match allChans.find? fun c => (s.seq c).entry = some e && (s.seq c).ended.isSome with
  | none => s
  | some c => s.serveHeld c

/-- END_REPORT: the end of a command's work is taken, and its reply written (R331, R333); a till program first performs
what it has held. -/
def execEndReport (e : Fin 4096) (res : MemRes) (s : State) : Out :=
  .next (s.withRes res fun s => (s.serveEnded e).takeEnd e)

end Sys2Proof.Machine
end

