-- ==== Sys2Proof/Machine/Integer.lean ====
section
/-! DEFINITION. Integer, immediate, compare, predicate and branch instructions (R117 to R119, Tables 5-8
and 5-9). None of them raises an exception. -/

namespace Sys2Proof.Machine

/-! ### Values -/

/-- Bits [31:0] of a source. -/
def low32 (v : Word) : BitVec 32 := v.setWidth 32

/-- The 32-bit result of a W form, sign-extended (R117). -/
def extW (v : BitVec 32) : Word := v.signExtend 64

/-- An operation with a W form (R117). -/
def withW (w : Bool) (op64 : Word → Word → Word) (op32 : BitVec 32 → BitVec 32 → BitVec 32) (a b : Word) :
    Word :=
  if w then extW (op32 (low32 a) (low32 b)) else op64 a b

def addV (w : Bool) (a b : Word) : Word := withW w (· + ·) (· + ·) a b
def subV (w : Bool) (a b : Word) : Word := withW w (· - ·) (· - ·) a b
def mulV (w : Bool) (a b : Word) : Word := withW w (· * ·) (· * ·) a b

/-- Shifts and the rotate take their amount modulo the width (Table 5-8). -/
def sllV (w : Bool) (a b : Word) : Word :=
  withW w (fun a b => a <<< (b.toNat % 64)) (fun a b => a <<< (b.toNat % 32)) a b
def srlV (w : Bool) (a b : Word) : Word :=
  withW w (fun a b => a >>> (b.toNat % 64)) (fun a b => a >>> (b.toNat % 32)) a b
def sraV (w : Bool) (a b : Word) : Word :=
  withW w (fun a b => a.sshiftRight (b.toNat % 64)) (fun a b => a.sshiftRight (b.toNat % 32)) a b
def rorV (w : Bool) (a b : Word) : Word :=
  withW w (fun a b => a.rotateRight (b.toNat % 64)) (fun a b => a.rotateRight (b.toNat % 32)) a b

/-- High 64 bits of the signed product. -/
def mulhV (a b : Word) : Word := BitVec.ofInt 64 ((a.toInt * b.toInt) / 2 ^ 64)

/-- High 64 bits of the unsigned product. -/
def mulhuV (a b : Word) : Word := BitVec.ofNat 64 (a.toNat * b.toNat / 2 ^ 64)

/-- Signed quotient rounded toward zero; by zero every bit set; the most negative value by −1 wraps to
itself (R118). -/
def divS {n : Nat} (a b : BitVec n) : BitVec n :=
  if b = 0 then BitVec.allOnes n else BitVec.ofInt n (a.toInt.tdiv b.toInt)

/-- Signed remainder, with the sign of the dividend; by zero the dividend (R118). -/
def remS {n : Nat} (a b : BitVec n) : BitVec n :=
  if b = 0 then a else BitVec.ofInt n (a.toInt.tmod b.toInt)

/-- Unsigned quotient; by zero every bit set (R118). -/
def divU {n : Nat} (a b : BitVec n) : BitVec n := if b = 0 then BitVec.allOnes n else a / b

/-- Unsigned remainder; by zero the dividend (R118). -/
def remU {n : Nat} (a b : BitVec n) : BitVec n := if b = 0 then a else a % b

def divV (w : Bool) (a b : Word) : Word := withW w divS divS a b
def divuV (w : Bool) (a b : Word) : Word := withW w divU divU a b
def remV (w : Bool) (a b : Word) : Word := withW w remS remS a b
def remuV (w : Bool) (a b : Word) : Word := withW w remU remU a b

def minV (a b : Word) : Word := if a.slt b then a else b
def maxV (a b : Word) : Word := if a.slt b then b else a
def minuV (a b : Word) : Word := if a.ult b then a else b
def maxuV (a b : Word) : Word := if a.ult b then b else a

/-- Leading zeros of the low `n` bits. -/
def clzN (v : Nat) : Nat → Nat
  | 0 => 0
  | n + 1 => if v.testBit n then 0 else clzN v n + 1

/-- Trailing zeros from bit `k` on, at most `n`. -/
def ctzN (v k : Nat) : Nat → Nat
  | 0 => 0
  | n + 1 => if v.testBit k then 0 else ctzN v (k + 1) n + 1

/-- Ones among the low `n` bits. -/
def popN (v : Nat) : Nat → Nat
  | 0 => 0
  | n + 1 => popN v n + (if v.testBit n then 1 else 0)

def clzV (a : Word) : Word := BitVec.ofNat 64 (clzN a.toNat 64)
def ctzV (a : Word) : Word := BitVec.ofNat 64 (ctzN a.toNat 0 64)
def popcV (a : Word) : Word := BitVec.ofNat 64 (popN a.toNat 64)

/-- The eight bytes of a word, reversed. -/
def bswapV (a : Word) : Word := BitVec.ofNat 64 (leNat (leBytes 8 a.toNat).reverse)

def sextbV (a : Word) : Word := (a.setWidth 8).signExtend 64
def sexthV (a : Word) : Word := (a.setWidth 16).signExtend 64
def sextwV (a : Word) : Word := (a.setWidth 32).signExtend 64
def zextwV (a : Word) : Word := (a.setWidth 32).setWidth 64

/-- Sign-extended immediates. -/
def sext16 (i : BitVec 16) : Word := i.signExtend 64
def zext16 (i : BitVec 16) : Word := i.setWidth 64

/-- A condition of CMP and CMPI (R119). -/
def condEval (c : Cond) (a b : Word) : Bool :=
  match c with
  | .eq => a == b
  | .ne => a != b
  | .lt => a.slt b
  | .ge => !a.slt b
  | .ltu => a.ult b
  | .geu => !a.ult b
  | .tst => (a &&& b) != 0

/-! ### Shapes -/

/-- gd = op gs1 gs2. -/
def State.aluRR (s : State) (h : Tid) (gd gs1 gs2 : Reg5) (op : Word → Word → Word) : Out :=
  s.scalar h fun t => t.writeG gd (op (t.readG gs1) (t.readG gs2))

/-- gd = op gs1. -/
def State.aluR (s : State) (h : Tid) (gd gs1 : Reg5) (op : Word → Word) : Out :=
  s.scalar h fun t => t.writeG gd (op (t.readG gs1))

/-- pd = op ps1 ps2. -/
def State.predPP (s : State) (h : Tid) (pd ps1 ps2 : Pred) (op : Bool → Bool → Bool) : Out :=
  s.scalar h fun t => t.writeP pd (op (t.readP ps1) (t.readP ps2))

/-- A shift by an immediate (OP 0x06): with W set, bit 5 of the amount must be zero, else the encoding is
ILLEGAL_OP (R116), whose EADDR is the instruction word. -/
def State.shiftImm (s : State) (h : Tid) (gd gs1 : Reg5) (sh : BitVec 6) (w : Bool) (kind : Nat)
    (op : Bool → Word → Word → Word) : Out :=
  s.instr h fun t s =>
    if w && decide (32 ≤ sh.toNat) then
      s.fault h cIllegalOp (wordI 0x06 gd.val gs1.val (256 + 64 * kind + sh.toNat))
    else s.setThread h (t.writeG gd (op w (t.readG gs1) (sh.setWidth 64))).next

/-! ### Integer register operations (Table 5-8) -/

def execAdd (h : Tid) (gd gs1 gs2 : Reg5) (w : Bool) (s : State) : Out := s.aluRR h gd gs1 gs2 (addV w)
def execSub (h : Tid) (gd gs1 gs2 : Reg5) (w : Bool) (s : State) : Out := s.aluRR h gd gs1 gs2 (subV w)
def execAnd (h : Tid) (gd gs1 gs2 : Reg5) (s : State) : Out := s.aluRR h gd gs1 gs2 (· &&& ·)
def execOr (h : Tid) (gd gs1 gs2 : Reg5) (s : State) : Out := s.aluRR h gd gs1 gs2 (· ||| ·)
def execXor (h : Tid) (gd gs1 gs2 : Reg5) (s : State) : Out := s.aluRR h gd gs1 gs2 (· ^^^ ·)
def execAndn (h : Tid) (gd gs1 gs2 : Reg5) (s : State) : Out := s.aluRR h gd gs1 gs2 fun a b => a &&& ~~~b
def execSll (h : Tid) (gd gs1 gs2 : Reg5) (w : Bool) (s : State) : Out := s.aluRR h gd gs1 gs2 (sllV w)
def execSrl (h : Tid) (gd gs1 gs2 : Reg5) (w : Bool) (s : State) : Out := s.aluRR h gd gs1 gs2 (srlV w)
def execSra (h : Tid) (gd gs1 gs2 : Reg5) (w : Bool) (s : State) : Out := s.aluRR h gd gs1 gs2 (sraV w)
def execRor (h : Tid) (gd gs1 gs2 : Reg5) (w : Bool) (s : State) : Out := s.aluRR h gd gs1 gs2 (rorV w)
def execMul (h : Tid) (gd gs1 gs2 : Reg5) (w : Bool) (s : State) : Out := s.aluRR h gd gs1 gs2 (mulV w)
def execMulh (h : Tid) (gd gs1 gs2 : Reg5) (s : State) : Out := s.aluRR h gd gs1 gs2 mulhV
def execMulhu (h : Tid) (gd gs1 gs2 : Reg5) (s : State) : Out := s.aluRR h gd gs1 gs2 mulhuV
def execDiv (h : Tid) (gd gs1 gs2 : Reg5) (w : Bool) (s : State) : Out := s.aluRR h gd gs1 gs2 (divV w)
def execDivu (h : Tid) (gd gs1 gs2 : Reg5) (w : Bool) (s : State) : Out := s.aluRR h gd gs1 gs2 (divuV w)
def execRem (h : Tid) (gd gs1 gs2 : Reg5) (w : Bool) (s : State) : Out := s.aluRR h gd gs1 gs2 (remV w)
def execRemu (h : Tid) (gd gs1 gs2 : Reg5) (w : Bool) (s : State) : Out := s.aluRR h gd gs1 gs2 (remuV w)
def execMin (h : Tid) (gd gs1 gs2 : Reg5) (s : State) : Out := s.aluRR h gd gs1 gs2 minV
def execMax (h : Tid) (gd gs1 gs2 : Reg5) (s : State) : Out := s.aluRR h gd gs1 gs2 maxV
def execMinu (h : Tid) (gd gs1 gs2 : Reg5) (s : State) : Out := s.aluRR h gd gs1 gs2 minuV
def execMaxu (h : Tid) (gd gs1 gs2 : Reg5) (s : State) : Out := s.aluRR h gd gs1 gs2 maxuV
def execClz (h : Tid) (gd gs1 : Reg5) (s : State) : Out := s.aluR h gd gs1 clzV
def execCtz (h : Tid) (gd gs1 : Reg5) (s : State) : Out := s.aluR h gd gs1 ctzV
def execPopc (h : Tid) (gd gs1 : Reg5) (s : State) : Out := s.aluR h gd gs1 popcV
def execBswap (h : Tid) (gd gs1 : Reg5) (s : State) : Out := s.aluR h gd gs1 bswapV
def execSextb (h : Tid) (gd gs1 : Reg5) (s : State) : Out := s.aluR h gd gs1 sextbV
def execSexth (h : Tid) (gd gs1 : Reg5) (s : State) : Out := s.aluR h gd gs1 sexthV
def execSextw (h : Tid) (gd gs1 : Reg5) (s : State) : Out := s.aluR h gd gs1 sextwV
def execZextw (h : Tid) (gd gs1 : Reg5) (s : State) : Out := s.aluR h gd gs1 zextwV

/-- SEL: gd = p ? gs1 : gs2. -/
def execSel (h : Tid) (gd gs1 gs2 : Reg5) (p : Pred) (s : State) : Out :=
  s.scalar h fun t => t.writeG gd (if t.readP p then t.readG gs1 else t.readG gs2)

/-! ### Immediates, compares and branches (Table 5-9) -/

def execAddi (h : Tid) (gd gs1 : Reg5) (imm : BitVec 16) (s : State) : Out :=
  s.aluR h gd gs1 fun a => a + sext16 imm
def execAndi (h : Tid) (gd gs1 : Reg5) (imm : BitVec 16) (s : State) : Out :=
  s.aluR h gd gs1 fun a => a &&& zext16 imm
def execOri (h : Tid) (gd gs1 : Reg5) (imm : BitVec 16) (s : State) : Out :=
  s.aluR h gd gs1 fun a => a ||| zext16 imm
def execXori (h : Tid) (gd gs1 : Reg5) (imm : BitVec 16) (s : State) : Out :=
  s.aluR h gd gs1 fun a => a ^^^ zext16 imm
def execSlli (h : Tid) (gd gs1 : Reg5) (sh : BitVec 6) (w : Bool) (s : State) : Out :=
  s.shiftImm h gd gs1 sh w 0 sllV
def execSrli (h : Tid) (gd gs1 : Reg5) (sh : BitVec 6) (w : Bool) (s : State) : Out :=
  s.shiftImm h gd gs1 sh w 1 srlV
def execSrai (h : Tid) (gd gs1 : Reg5) (sh : BitVec 6) (w : Bool) (s : State) : Out :=
  s.shiftImm h gd gs1 sh w 2 sraV
def execRori (h : Tid) (gd gs1 : Reg5) (sh : BitVec 6) (w : Bool) (s : State) : Out :=
  s.shiftImm h gd gs1 sh w 3 rorV

/-- CATI: gd = (gs1 << 16) OR zext(imm16). -/
def execCati (h : Tid) (gd gs1 : Reg5) (imm : BitVec 16) (s : State) : Out :=
  s.aluR h gd gs1 fun a => (a <<< 16) ||| zext16 imm

/-- ADPC: gd = PC + (sext(disp21) << 8). -/
def execAdpc (h : Tid) (gd : Reg5) (disp : BitVec 21) (s : State) : Out :=
  s.scalar h fun t => t.writeG gd (t.pc + ((disp.signExtend 64 : Word) <<< 8))

def execCmp (h : Tid) (pd : Pred) (gs1 gs2 : Reg5) (cond : Cond) (s : State) : Out :=
  s.scalar h fun t => t.writeP pd (condEval cond (t.readG gs1) (t.readG gs2))
def execCmpi (h : Tid) (pd : Pred) (gs1 : Reg5) (imm : BitVec 15) (cond : Cond) (s : State) : Out :=
  s.scalar h fun t => t.writeP pd (condEval cond (t.readG gs1) (imm.signExtend 64))

def execPand (h : Tid) (pd ps1 ps2 : Pred) (s : State) : Out := s.predPP h pd ps1 ps2 (· && ·)
def execPor (h : Tid) (pd ps1 ps2 : Pred) (s : State) : Out := s.predPP h pd ps1 ps2 (· || ·)
def execPxor (h : Tid) (pd ps1 ps2 : Pred) (s : State) : Out := s.predPP h pd ps1 ps2 (· ^^ ·)
def execPandn (h : Tid) (pd ps1 ps2 : Pred) (s : State) : Out := s.predPP h pd ps1 ps2 fun a b => a && !b
def execPorn (h : Tid) (pd ps1 ps2 : Pred) (s : State) : Out := s.predPP h pd ps1 ps2 fun a b => a || !b

/-- BR (R119, R136): taken when p ≠ N, to PC + sext(disp22) × 4. -/
def execBr (h : Tid) (p : Pred) (n : Bool) (disp : BitVec 22) (s : State) : Out :=
  s.instr h fun t s =>
    let taken : Bool := t.readP p ≠ n
    s.trRetire h <| (s.trBranch h taken).setThread h
      (t.retired (if taken then t.pc + ((disp.signExtend 64 : Word) <<< 2) else t.pc + 4))

/-- JAL: gd = PC + 4; jump to PC + sext(disp21) × 4. -/
def execJal (h : Tid) (gd : Reg5) (disp : BitVec 21) (s : State) : Out :=
  s.instr h fun t s =>
    s.setThread h ((t.writeG gd (t.pc + 4)).retired (t.pc + ((disp.signExtend 64 : Word) <<< 2)))

/-- JALR: t = (gs1 + sext(imm16)) & ~3; gd = PC + 4; PC = t. -/
def execJalr (h : Tid) (gd gs1 : Reg5) (imm : BitVec 16) (s : State) : Out :=
  s.instr h fun t s =>
    let target := (t.readG gs1 + sext16 imm) &&& ~~~3
    s.trRetire h <| (s.trTarget h target).setThread h ((t.writeG gd (t.pc + 4)).retired target)

end Sys2Proof.Machine
end

