-- ==== Sys2Proof/Machine/Dispatch.lean ====
section
/-! DEFINITION. What each command does: one arm per constructor, each a direct call of its meaning. -/

namespace Sys2Proof.Machine

/-- The effect of a command on everything but the queue. -/
def exec (i : Instr) (s : State) : Host.Outcome State Fault Refusal :=
  match i with
  | .refclkLoss => Sys2Proof.Machine.execRefclkLoss s
  | .rootUnlock => Sys2Proof.Machine.execRootUnlock s
  | .rootClock => Sys2Proof.Machine.execRootClock s
  | .clockWindow ref root => Sys2Proof.Machine.execClockWindow ref root s
  | .supplySample rail level => Sys2Proof.Machine.execSupplySample rail level s
  | .pwrfail => Sys2Proof.Machine.execPwrfail s
  | .powerOnReset => Sys2Proof.Machine.execPowerOnReset s
  | .porstNRelease lead flash => Sys2Proof.Machine.execPorstNRelease lead flash s
  | .warmrstN => Sys2Proof.Machine.execWarmrstN s
  | .pkg agent key => Sys2Proof.Machine.execPkg agent key s
  | .hostPortReset cause => Sys2Proof.Machine.execHostPortReset cause s
  | .functionLevelReset p drill => Sys2Proof.Machine.execFunctionLevelReset p drill s
  | .threadGroupReset agent n => Sys2Proof.Machine.execThreadGroupReset agent n s
  | .tgDrainDone n => Sys2Proof.Machine.execTgDrainDone n s
  | .tgResetComplete n => Sys2Proof.Machine.execTgResetComplete n s
  | .tgDrainTimeout n => Sys2Proof.Machine.execTgDrainTimeout n s
  | .headlandSafetyReset cause digestOk => Sys2Proof.Machine.execHeadlandSafetyReset cause digestOk s
  | .drillWdog => Sys2Proof.Machine.execDrillWdog s
  | .kick agent => Sys2Proof.Machine.execKick agent s
  | .powerGate n => Sys2Proof.Machine.execPowerGate n s
  | .coreWake n => Sys2Proof.Machine.execCoreWake n s
  | .hostLinkTraining => Sys2Proof.Machine.execHostLinkTraining s
  | .selfRefreshExit st => Sys2Proof.Machine.execSelfRefreshExit st s
  | .bootSequence agrees => Sys2Proof.Machine.execBootSequence agrees s
  | .bootIslandTimeout => Sys2Proof.Machine.execBootIslandTimeout s
  | .flashTimeout => Sys2Proof.Machine.execFlashTimeout s
  | .startup seals selfTest outputsOff => Sys2Proof.Machine.execStartup seals selfTest outputsOff s
  | .claim agent => Sys2Proof.Machine.execClaim agent s
  | .release agent => Sys2Proof.Machine.execRelease agent s
  | .flashRead agent => Sys2Proof.Machine.execFlashRead agent s
  | .flashProgram agent => Sys2Proof.Machine.execFlashProgram agent s
  | .flashErase agent => Sys2Proof.Machine.execFlashErase agent s
  | .flashCmdDone ok => Sys2Proof.Machine.execFlashCmdDone ok s
  | .trial agent key types restart => Sys2Proof.Machine.execTrial agent key types restart s
  | .commit agent key restart => Sys2Proof.Machine.execCommit agent key restart s
  | .revert agent key restart => Sys2Proof.Machine.execRevert agent key restart s
  | .restart agent key => Sys2Proof.Machine.execRestart agent key s
  | .prefWriteDone => Sys2Proof.Machine.execPrefWriteDone s
  | .svnCommit agent key types => Sys2Proof.Machine.execSvnCommit agent key types s
  | .tableWalk h res => Sys2Proof.Machine.execTableWalk h res s
  | .add h gd gs1 gs2 w => Sys2Proof.Machine.execAdd h gd gs1 gs2 w s
  | .sub h gd gs1 gs2 w => Sys2Proof.Machine.execSub h gd gs1 gs2 w s
  | .and h gd gs1 gs2 => Sys2Proof.Machine.execAnd h gd gs1 gs2 s
  | .or h gd gs1 gs2 => Sys2Proof.Machine.execOr h gd gs1 gs2 s
  | .xor h gd gs1 gs2 => Sys2Proof.Machine.execXor h gd gs1 gs2 s
  | .andn h gd gs1 gs2 => Sys2Proof.Machine.execAndn h gd gs1 gs2 s
  | .sll h gd gs1 gs2 w => Sys2Proof.Machine.execSll h gd gs1 gs2 w s
  | .srl h gd gs1 gs2 w => Sys2Proof.Machine.execSrl h gd gs1 gs2 w s
  | .sra h gd gs1 gs2 w => Sys2Proof.Machine.execSra h gd gs1 gs2 w s
  | .ror h gd gs1 gs2 w => Sys2Proof.Machine.execRor h gd gs1 gs2 w s
  | .mul h gd gs1 gs2 w => Sys2Proof.Machine.execMul h gd gs1 gs2 w s
  | .mulh h gd gs1 gs2 => Sys2Proof.Machine.execMulh h gd gs1 gs2 s
  | .mulhu h gd gs1 gs2 => Sys2Proof.Machine.execMulhu h gd gs1 gs2 s
  | .div h gd gs1 gs2 w => Sys2Proof.Machine.execDiv h gd gs1 gs2 w s
  | .divu h gd gs1 gs2 w => Sys2Proof.Machine.execDivu h gd gs1 gs2 w s
  | .rem h gd gs1 gs2 w => Sys2Proof.Machine.execRem h gd gs1 gs2 w s
  | .remu h gd gs1 gs2 w => Sys2Proof.Machine.execRemu h gd gs1 gs2 w s
  | .min h gd gs1 gs2 => Sys2Proof.Machine.execMin h gd gs1 gs2 s
  | .max h gd gs1 gs2 => Sys2Proof.Machine.execMax h gd gs1 gs2 s
  | .minu h gd gs1 gs2 => Sys2Proof.Machine.execMinu h gd gs1 gs2 s
  | .maxu h gd gs1 gs2 => Sys2Proof.Machine.execMaxu h gd gs1 gs2 s
  | .clz h gd gs1 => Sys2Proof.Machine.execClz h gd gs1 s
  | .ctz h gd gs1 => Sys2Proof.Machine.execCtz h gd gs1 s
  | .popc h gd gs1 => Sys2Proof.Machine.execPopc h gd gs1 s
  | .bswap h gd gs1 => Sys2Proof.Machine.execBswap h gd gs1 s
  | .sextb h gd gs1 => Sys2Proof.Machine.execSextb h gd gs1 s
  | .sexth h gd gs1 => Sys2Proof.Machine.execSexth h gd gs1 s
  | .sextw h gd gs1 => Sys2Proof.Machine.execSextw h gd gs1 s
  | .zextw h gd gs1 => Sys2Proof.Machine.execZextw h gd gs1 s
  | .sel h gd gs1 gs2 p => Sys2Proof.Machine.execSel h gd gs1 gs2 p s
  | .addi h gd gs1 imm => Sys2Proof.Machine.execAddi h gd gs1 imm s
  | .andi h gd gs1 imm => Sys2Proof.Machine.execAndi h gd gs1 imm s
  | .ori h gd gs1 imm => Sys2Proof.Machine.execOri h gd gs1 imm s
  | .xori h gd gs1 imm => Sys2Proof.Machine.execXori h gd gs1 imm s
  | .slli h gd gs1 sh w => Sys2Proof.Machine.execSlli h gd gs1 sh w s
  | .srli h gd gs1 sh w => Sys2Proof.Machine.execSrli h gd gs1 sh w s
  | .srai h gd gs1 sh w => Sys2Proof.Machine.execSrai h gd gs1 sh w s
  | .rori h gd gs1 sh w => Sys2Proof.Machine.execRori h gd gs1 sh w s
  | .cati h gd gs1 imm => Sys2Proof.Machine.execCati h gd gs1 imm s
  | .adpc h gd disp => Sys2Proof.Machine.execAdpc h gd disp s
  | .cmp h pd gs1 gs2 cond => Sys2Proof.Machine.execCmp h pd gs1 gs2 cond s
  | .cmpi h pd gs1 imm cond => Sys2Proof.Machine.execCmpi h pd gs1 imm cond s
  | .pand h pd ps1 ps2 => Sys2Proof.Machine.execPand h pd ps1 ps2 s
  | .por h pd ps1 ps2 => Sys2Proof.Machine.execPor h pd ps1 ps2 s
  | .pxor h pd ps1 ps2 => Sys2Proof.Machine.execPxor h pd ps1 ps2 s
  | .pandn h pd ps1 ps2 => Sys2Proof.Machine.execPandn h pd ps1 ps2 s
  | .porn h pd ps1 ps2 => Sys2Proof.Machine.execPorn h pd ps1 ps2 s
  | .br h p n disp => Sys2Proof.Machine.execBr h p n disp s
  | .jal h gd disp => Sys2Proof.Machine.execJal h gd disp s
  | .jalr h gd gs1 imm => Sys2Proof.Machine.execJalr h gd gs1 imm s
  | .lb h gd gs1 imm par => Sys2Proof.Machine.execLb h gd gs1 imm par s
  | .lbu h gd gs1 imm par => Sys2Proof.Machine.execLbu h gd gs1 imm par s
  | .lh h gd gs1 imm par => Sys2Proof.Machine.execLh h gd gs1 imm par s
  | .lhu h gd gs1 imm par => Sys2Proof.Machine.execLhu h gd gs1 imm par s
  | .lw h gd gs1 imm par => Sys2Proof.Machine.execLw h gd gs1 imm par s
  | .lwu h gd gs1 imm par => Sys2Proof.Machine.execLwu h gd gs1 imm par s
  | .ld h gd gs1 imm par => Sys2Proof.Machine.execLd h gd gs1 imm par s
  | .pf h gs1 imm => Sys2Proof.Machine.execPf h gs1 imm s
  | .sb h gs2 gs1 imm => Sys2Proof.Machine.execSb h gs2 gs1 imm s
  | .sh h gs2 gs1 imm => Sys2Proof.Machine.execSh h gs2 gs1 imm s
  | .sw h gs2 gs1 imm => Sys2Proof.Machine.execSw h gs2 gs1 imm s
  | .sd h gs2 gs1 imm => Sys2Proof.Machine.execSd h gs2 gs1 imm s
  | .atomicSwap h gd gs1 gs2 acq rel wide => Sys2Proof.Machine.execAtomicSwap h gd gs1 gs2 acq rel wide s
  | .atomicAdd h gd gs1 gs2 acq rel wide => Sys2Proof.Machine.execAtomicAdd h gd gs1 gs2 acq rel wide s
  | .atomicAnd h gd gs1 gs2 acq rel wide => Sys2Proof.Machine.execAtomicAnd h gd gs1 gs2 acq rel wide s
  | .atomicOr h gd gs1 gs2 acq rel wide => Sys2Proof.Machine.execAtomicOr h gd gs1 gs2 acq rel wide s
  | .atomicXor h gd gs1 gs2 acq rel wide => Sys2Proof.Machine.execAtomicXor h gd gs1 gs2 acq rel wide s
  | .atomicMin h gd gs1 gs2 acq rel wide => Sys2Proof.Machine.execAtomicMin h gd gs1 gs2 acq rel wide s
  | .atomicMax h gd gs1 gs2 acq rel wide => Sys2Proof.Machine.execAtomicMax h gd gs1 gs2 acq rel wide s
  | .atomicMinu h gd gs1 gs2 acq rel wide => Sys2Proof.Machine.execAtomicMinu h gd gs1 gs2 acq rel wide s
  | .atomicMaxu h gd gs1 gs2 acq rel wide => Sys2Proof.Machine.execAtomicMaxu h gd gs1 gs2 acq rel wide s
  | .atomicCas h gd gs1 gs2 acq rel wide => Sys2Proof.Machine.execAtomicCas h gd gs1 gs2 acq rel wide s
  | .flh h fd gs1 imm par => Sys2Proof.Machine.execFlh h fd gs1 imm par s
  | .flw h fd gs1 imm par => Sys2Proof.Machine.execFlw h fd gs1 imm par s
  | .fld h fd gs1 imm par => Sys2Proof.Machine.execFld h fd gs1 imm par s
  | .fsh h fs2 gs1 imm => Sys2Proof.Machine.execFsh h fs2 gs1 imm s
  | .fsw h fs2 gs1 imm => Sys2Proof.Machine.execFsw h fs2 gs1 imm s
  | .fsd h fs2 gs1 imm => Sys2Proof.Machine.execFsd h fs2 gs1 imm s
  | .fadd h fmt rm fd fs1 fs2 => Sys2Proof.Machine.execFadd h fmt rm fd fs1 fs2 s
  | .fsub h fmt rm fd fs1 fs2 => Sys2Proof.Machine.execFsub h fmt rm fd fs1 fs2 s
  | .fmul h fmt rm fd fs1 fs2 => Sys2Proof.Machine.execFmul h fmt rm fd fs1 fs2 s
  | .fdiv h fmt rm fd fs1 fs2 => Sys2Proof.Machine.execFdiv h fmt rm fd fs1 fs2 s
  | .fsqrt h fmt rm fd fs1 => Sys2Proof.Machine.execFsqrt h fmt rm fd fs1 s
  | .fmin h fmt rm fd fs1 fs2 => Sys2Proof.Machine.execFmin h fmt rm fd fs1 fs2 s
  | .fmax h fmt rm fd fs1 fs2 => Sys2Proof.Machine.execFmax h fmt rm fd fs1 fs2 s
  | .fcopys h fmt rm fd fs1 fs2 => Sys2Proof.Machine.execFcopys h fmt rm fd fs1 fs2 s
  | .fcopyns h fmt rm fd fs1 fs2 => Sys2Proof.Machine.execFcopyns h fmt rm fd fs1 fs2 s
  | .fxors h fmt rm fd fs1 fs2 => Sys2Proof.Machine.execFxors h fmt rm fd fs1 fs2 s
  | .fcvtF h fmt src rm fd fs1 => Sys2Proof.Machine.execFcvtF h fmt src rm fd fs1 s
  | .fcvtI h fmt rm gd fs1 width uns => Sys2Proof.Machine.execFcvtI h fmt rm gd fs1 width uns s
  | .fcvtFi h fmt rm fd gs1 width uns => Sys2Proof.Machine.execFcvtFi h fmt rm fd gs1 width uns s
  | .fmvGf h fmt rm gd fs1 => Sys2Proof.Machine.execFmvGf h fmt rm gd fs1 s
  | .fmvFg h fmt rm fd gs1 => Sys2Proof.Machine.execFmvFg h fmt rm fd gs1 s
  | .fclass h fmt rm gd fs1 => Sys2Proof.Machine.execFclass h fmt rm gd fs1 s
  | .fmadd h fmt rm fd fs1 fs2 fs3 => Sys2Proof.Machine.execFmadd h fmt rm fd fs1 fs2 fs3 s
  | .fmsub h fmt rm fd fs1 fs2 fs3 => Sys2Proof.Machine.execFmsub h fmt rm fd fs1 fs2 fs3 s
  | .fnmadd h fmt rm fd fs1 fs2 fs3 => Sys2Proof.Machine.execFnmadd h fmt rm fd fs1 fs2 fs3 s
  | .fnmsub h fmt rm fd fs1 fs2 fs3 => Sys2Proof.Machine.execFnmsub h fmt rm fd fs1 fs2 fs3 s
  | .fcmp h fmt pd fs1 fs2 cond => Sys2Proof.Machine.execFcmp h fmt pd fs1 fs2 cond s
  | .csrrd h gd csr => Sys2Proof.Machine.execCsrrd h gd csr s
  | .csrswp h gd csr gs1 => Sys2Proof.Machine.execCsrswp h gd csr gs1 s
  | .csrset h gd csr gs1 => Sys2Proof.Machine.execCsrset h gd csr gs1 s
  | .csrclr h gd csr gs1 => Sys2Proof.Machine.execCsrclr h gd csr gs1 s
  | .nop h => Sys2Proof.Machine.execNop h s
  | .trap h n res ent => Sys2Proof.Machine.execTrap h n res ent s
  | .gate h n res push => Sys2Proof.Machine.execGate h n res push s
  | .xret h res => Sys2Proof.Machine.execXret h res s
  | .dret h => Sys2Proof.Machine.execDret h s
  | .wait h gd gs1 => Sys2Proof.Machine.execWait h gd gs1 s
  | .waitWake h => Sys2Proof.Machine.execWaitWake h s
  | .waitTimeout h => Sys2Proof.Machine.execWaitTimeout h s
  | .msend h gs1 gs2 pd => Sys2Proof.Machine.execMsend h gs1 gs2 pd s
  | .mailboxPostDelivery h => Sys2Proof.Machine.execMailboxPostDelivery h s
  | .mrecv h gd pd => Sys2Proof.Machine.execMrecv h gd pd s
  | .brk h => Sys2Proof.Machine.execBrk h s
  | .fenceAcq h => Sys2Proof.Machine.execFenceAcq h s
  | .fenceRel h => Sys2Proof.Machine.execFenceRel h s
  | .fencePkg h => Sys2Proof.Machine.execFencePkg h s
  | .fenceAcre h => Sys2Proof.Machine.execFenceAcre h s
  | .fenceHost h => Sys2Proof.Machine.execFenceHost h s
  | .fenceComplete h => Sys2Proof.Machine.execFenceComplete h s
  | .ifence h => Sys2Proof.Machine.execIfence h s
  | .tlbiVa h gs1 => Sys2Proof.Machine.execTlbiVa h gs1 s
  | .tlbiVaB h gs1 => Sys2Proof.Machine.execTlbiVaB h gs1 s
  | .tlbiPlot h => Sys2Proof.Machine.execTlbiPlot h s
  | .tlbiPlotB h => Sys2Proof.Machine.execTlbiPlotB h s
  | .cmoInvalidate h gs1 target setWay => Sys2Proof.Machine.execCmoInvalidate h gs1 target setWay s
  | .cmoClean h gs1 target setWay wb => Sys2Proof.Machine.execCmoClean h gs1 target setWay wb s
  | .cmoCleanInvalidate h gs1 target setWay wb => Sys2Proof.Machine.execCmoCleanInvalidate h gs1 target setWay wb s
  | .memoryTransactionComplete h res => Sys2Proof.Machine.execMemoryTransactionComplete h res s
  | .l1dFill n => Sys2Proof.Machine.execL1dFill n s
  | .l1iFill h par res => Sys2Proof.Machine.execL1iFill h par res s
  | .sideBufferFill n => Sys2Proof.Machine.execSideBufferFill n s
  | .furrowCacheFill f line res wb => Sys2Proof.Machine.execFurrowCacheFill f line res wb s
  | .openEntryTimeout n => Sys2Proof.Machine.execOpenEntryTimeout n s
  | .mergingBufferDrain n bad res wb => Sys2Proof.Machine.execMergingBufferDrain n bad res wb s
  | .furrowScrub f verdict => Sys2Proof.Machine.execFurrowScrub f verdict s
  | .eventDelivery h => Sys2Proof.Machine.execEventDelivery h s
  | .exceptionEntry h fetch res ent => Sys2Proof.Machine.execExceptionEntry h fetch res ent s
  | .xpendCancel agent h mask => Sys2Proof.Machine.execXpendCancel agent h mask s
  | .iinv n => Sys2Proof.Machine.execIinv n s
  | .dinv n => Sys2Proof.Machine.execDinv n s
  | .l1InvalidateDone n => Sys2Proof.Machine.execL1InvalidateDone n s
  | .l1EnableWrite agent n ien den => Sys2Proof.Machine.execL1EnableWrite agent n ien den s
  | .rangeGo agent f action mode => Sys2Proof.Machine.execRangeGo agent f action mode s
  | .rangeDone f wb => Sys2Proof.Machine.execRangeDone f wb s
  | .tld h g rows cols fd td gs1 gs2 => Sys2Proof.Machine.execTld h g rows cols fd td gs1 gs2 s
  | .tst h g rows cols fa ta gs1 gs2 => Sys2Proof.Machine.execTst h g rows cols fa ta gs1 gs2 s
  | .tadd h g rows cols fa fb fd rnd td ta tb => Sys2Proof.Machine.execTadd h g rows cols fa fb fd rnd td ta tb s
  | .tsub h g rows cols fa fb fd rnd td ta tb => Sys2Proof.Machine.execTsub h g rows cols fa fb fd rnd td ta tb s
  | .tmul h g rows cols fa fb fd rnd td ta tb => Sys2Proof.Machine.execTmul h g rows cols fa fb fd rnd td ta tb s
  | .tmin h g rows cols fa fb fd rnd td ta tb => Sys2Proof.Machine.execTmin h g rows cols fa fb fd rnd td ta tb s
  | .tmax h g rows cols fa fb fd rnd td ta tb => Sys2Proof.Machine.execTmax h g rows cols fa fb fd rnd td ta tb s
  | .tand h g rows cols fa fb fd td ta tb => Sys2Proof.Machine.execTand h g rows cols fa fb fd td ta tb s
  | .tor h g rows cols fa fb fd td ta tb => Sys2Proof.Machine.execTor h g rows cols fa fb fd td ta tb s
  | .txor h g rows cols fa fb fd td ta tb => Sys2Proof.Machine.execTxor h g rows cols fa fb fd td ta tb s
  | .tmov h g rows cols fa fd td ta => Sys2Proof.Machine.execTmov h g rows cols fa fd td ta s
  | .tcvt h g rows cols fa fd rnd td ta => Sys2Proof.Machine.execTcvt h g rows cols fa fd rnd td ta s
  | .tzero h g rows cols fd td => Sys2Proof.Machine.execTzero h g rows cols fd td s
  | .tfill h g rows cols fd td gs1 => Sys2Proof.Machine.execTfill h g rows cols fd td gs1 s
  | .tneg h g rows cols fa fd td ta => Sys2Proof.Machine.execTneg h g rows cols fa fd td ta s
  | .tabs h g rows cols fa fd td ta => Sys2Proof.Machine.execTabs h g rows cols fa fd td ta s
  | .tmuls h g rows cols fa fd rnd td ta gs1 => Sys2Proof.Machine.execTmuls h g rows cols fa fd rnd td ta gs1 s
  | .tadds h g rows cols fa fd rnd td ta gs1 => Sys2Proof.Machine.execTadds h g rows cols fa fd rnd td ta gs1 s
  | .tsync h g => Sys2Proof.Machine.execTsync h g s
  | .tget h g gd ta gs1 => Sys2Proof.Machine.execTget h g gd ta gs1 s
  | .tput h g td gs1 gs2 => Sys2Proof.Machine.execTput h g td gs1 gs2 s
  | .tileAccept h => Sys2Proof.Machine.execTileAccept h s
  | .tileDispatch n ecc => Sys2Proof.Machine.execTileDispatch n ecc s
  | .tileComplete n k ecc => Sys2Proof.Machine.execTileComplete n k ecc s
  | .tldSegment n k res => Sys2Proof.Machine.execTldSegment n k res s
  | .tstRowAck n k res => Sys2Proof.Machine.execTstRowAck n k res s
  | .tmmp h g rows cols kk fa fb rnd x td ta tb => Sys2Proof.Machine.execTmmp h g rows cols kk fa fb rnd x td ta tb s
  | .tmma h g rows cols kk fa fb rnd grp ta tb => Sys2Proof.Machine.execTmma h g rows cols kk fa fb rnd grp ta tb s
  | .texport h g rows cols fa fb rnd x grp td ta gs1 => Sys2Proof.Machine.execTexport h g rows cols fa fb rnd x grp td ta gs1 s
  | .texportC h g rows cols fa fb rnd x grp td ta gs1 => Sys2Proof.Machine.execTexportC h g rows cols fa fb rnd x grp td ta gs1 s
  | .topen h g rows cols fa grp gs1 => Sys2Proof.Machine.execTopen h g rows cols fa grp gs1 s
  | .tclose h g grp => Sys2Proof.Machine.execTclose h g grp s
  | .tsave h g rows cols grp gs1 => Sys2Proof.Machine.execTsave h g rows cols grp gs1 s
  | .trestore h g rows cols grp gs1 => Sys2Proof.Machine.execTrestore h g rows cols grp gs1 s
  | .tbind h g rows cols grp gs1 => Sys2Proof.Machine.execTbind h g rows cols grp gs1 s
  | .slotArrival n k res => Sys2Proof.Machine.execSlotArrival n k res s
  | .binderCombine op => Sys2Proof.Machine.execBinderCombine op s
  | .binderRoundComplete op res => Sys2Proof.Machine.execBinderRoundComplete op res s
  | .bndOpnCtl agent op v mode int slots elems => Sys2Proof.Machine.execBndOpnCtl agent op v mode int slots elems s
  | .withdrawal agent c => Sys2Proof.Machine.execWithdrawal agent c s
  | .rejoining agent c => Sys2Proof.Machine.execRejoining agent c s
  | .zeroingDone c => Sys2Proof.Machine.execZeroingDone c s
  | .switchToTill agent c => Sys2Proof.Machine.execSwitchToTill agent c s
  | .switchToWithdrawn agent c => Sys2Proof.Machine.execSwitchToWithdrawn agent c s
  | .modeSwitchDone c res => Sys2Proof.Machine.execModeSwitchDone c res s
  | .refresh c => Sys2Proof.Machine.execRefresh c s
  | .stackTempReading st temp => Sys2Proof.Machine.execStackTempReading st temp s
  | .patrolScrub c res => Sys2Proof.Machine.execPatrolScrub c res s
  | .act c => Sys2Proof.Machine.execAct c s
  | .pre c => Sys2Proof.Machine.execPre c s
  | .tillLd c bank res => Sys2Proof.Machine.execTillLd c bank res s
  | .st c bank res => Sys2Proof.Machine.execSt c bank res s
  | .mac c => Sys2Proof.Machine.execMac c s
  | .aadd c => Sys2Proof.Machine.execAadd c s
  | .chsh c => Sys2Proof.Machine.execChsh c s
  | .vred c => Sys2Proof.Machine.execVred c s
  | .vcvt c => Sys2Proof.Machine.execVcvt c s
  | .vzero c => Sys2Proof.Machine.execVzero c s
  | .mask c => Sys2Proof.Machine.execMask c s
  | .xset c => Sys2Proof.Machine.execXset c s
  | .xadd c => Sys2Proof.Machine.execXadd c s
  | .bnz c => Sys2Proof.Machine.execBnz c s
  | .jmp c => Sys2Proof.Machine.execJmp c s
  | .tillNop c => Sys2Proof.Machine.execTillNop c s
  | .yield c res => Sys2Proof.Machine.execYield c res s
  | .tillEnd c => Sys2Proof.Machine.execTillEnd c s
  | .tillRefreshDue c => Sys2Proof.Machine.execTillRefreshDue c s
  | .doorbell agent q v => Sys2Proof.Machine.execDoorbell agent q v s
  | .selfFedPoll q res => Sys2Proof.Machine.execSelfFedPoll q res s
  | .fetch q e res => Sys2Proof.Machine.execFetch q e res s
  | .seqRecheck q e res => Sys2Proof.Machine.execSeqRecheck q e res s
  | .commandStart e res => Sys2Proof.Machine.execCommandStart e res s
  | .endReport e res => Sys2Proof.Machine.execEndReport e res s
  | .sow e res => Sys2Proof.Machine.execSow e res s
  | .copy e res => Sys2Proof.Machine.execCopy e res s
  | .fill e res => Sys2Proof.Machine.execFill e res s
  | .streamOpen e n => Sys2Proof.Machine.execStreamOpen e n s
  | .streamClose e => Sys2Proof.Machine.execStreamClose e s
  | .fence e => Sys2Proof.Machine.execFence e s
  | .signal e res => Sys2Proof.Machine.execSignal e res s
  | .waitCommand e res => Sys2Proof.Machine.execWaitCommand e res s
  | .waitCommandPoll e res => Sys2Proof.Machine.execWaitCommandPoll e res s
  | .waitCommandTimeout e => Sys2Proof.Machine.execWaitCommandTimeout e s
  | .tillMode e => Sys2Proof.Machine.execTillMode e s
  | .tillRun e => Sys2Proof.Machine.execTillRun e s
  | .lease e extents res => Sys2Proof.Machine.execLease e extents res s
  | .unlease e extents res => Sys2Proof.Machine.execUnlease e extents res s
  | .abort e => Sys2Proof.Machine.execAbort e s
  | .queryEntryState e => Sys2Proof.Machine.execQueryEntryState e s
  | .queryLeaseRecord e res => Sys2Proof.Machine.execQueryLeaseRecord e res s
  | .queryLedgerCounts e => Sys2Proof.Machine.execQueryLedgerCounts e s
  | .reclaim e => Sys2Proof.Machine.execReclaim e s
  | .frameArm e => Sys2Proof.Machine.execFrameArm e s
  | .frameDisarm e => Sys2Proof.Machine.execFrameDisarm e s
  | .sheafDeclare e => Sys2Proof.Machine.execSheafDeclare e s
  | .headlandMsg e => Sys2Proof.Machine.execHeadlandMsg e s
  | .mailboxAnswer e res => Sys2Proof.Machine.execMailboxAnswer e res s
  | .islandTimeout e => Sys2Proof.Machine.execIslandTimeout e s
  | .park h => Sys2Proof.Machine.execPark h s
  | .sowTimeout e => Sys2Proof.Machine.execSowTimeout e s
  | .stopTmo e => Sys2Proof.Machine.execStopTmo e s
  | .queueEnable agent q => Sys2Proof.Machine.execQueueEnable agent q s
  | .queueDisable agent q => Sys2Proof.Machine.execQueueDisable agent q s
  | .frameStart l => Sys2Proof.Machine.execFrameStart l s
  | .frameRelease l e res => Sys2Proof.Machine.execFrameRelease l e res s
  | .frameDrop l => Sys2Proof.Machine.execFrameDrop l s
  | .warn l => Sys2Proof.Machine.execWarn l s
  | .deadline l => Sys2Proof.Machine.execDeadline l s
  | .digestComplete l res => Sys2Proof.Machine.execDigestComplete l res s
  | .vfEnableClear => Sys2Proof.Machine.execVfEnableClear s
  | .barAccessError p off size => Sys2Proof.Machine.execBarAccessError p off size s
  | .dlDown => Sys2Proof.Machine.execDlDown s
  | .completion tag data res => Sys2Proof.Machine.execCompletion tag data res s
  | .completionTimeout tag => Sys2Proof.Machine.execCompletionTimeout tag s
  | .msiX p vec => Sys2Proof.Machine.execMsiX p vec s
  | .busMasterDisable p => Sys2Proof.Machine.execBusMasterDisable p s
  | .d3hot p => Sys2Proof.Machine.execD3hot p s
  | .d0Return p => Sys2Proof.Machine.execD0Return p s
  | .detach agent p => Sys2Proof.Machine.execDetach agent p s
  | .rebase agent p => Sys2Proof.Machine.execRebase agent p s
  | .rebaseDone p => Sys2Proof.Machine.execRebaseDone p s
  | .feed agent n v => Sys2Proof.Machine.execFeed agent n v s
  | .feedPoll n res => Sys2Proof.Machine.execFeedPoll n res s
  | .elementCommit n res => Sys2Proof.Machine.execElementCommit n res s
  | .flushReadComplete n res => Sys2Proof.Machine.execFlushReadComplete n res s
  | .resume agent n => Sys2Proof.Machine.execResume agent n s
  | .flitReceive k flit => Sys2Proof.Machine.execFlitReceive k flit s
  | .rxSilence k => Sys2Proof.Machine.execRxSilence k s
  | .laneFail k lane => Sys2Proof.Machine.execLaneFail k lane s
  | .linkDown => Sys2Proof.Machine.execLinkDown s
  | .linkUp k => Sys2Proof.Machine.execLinkUp k s
  | .hello => Sys2Proof.Machine.execHello s
  | .timeTick => Sys2Proof.Machine.execTimeTick s
  | .time => Sys2Proof.Machine.execTime s
  | .pair => Sys2Proof.Machine.execPair s
  | .heartbeatDue => Sys2Proof.Machine.execHeartbeatDue s
  | .heartbeat => Sys2Proof.Machine.execHeartbeat s
  | .heartbeatDeadline => Sys2Proof.Machine.execHeartbeatDeadline s
  | .arm => Sys2Proof.Machine.execArm s
  | .digest => Sys2Proof.Machine.execDigest s
  | .missing => Sys2Proof.Machine.execMissing s
  | .agreementPoint l k => Sys2Proof.Machine.execAgreementPoint l k s
  | .hash => Sys2Proof.Machine.execHash s
  | .xqDoorbell agent tail => Sys2Proof.Machine.execXqDoorbell agent tail s
  | .xreq => Sys2Proof.Machine.execXreq s
  | .xdata res => Sys2Proof.Machine.execXdata res s
  | .xack => Sys2Proof.Machine.execXack s
  | .xreport => Sys2Proof.Machine.execXreport s
  | .rejoin agent => Sys2Proof.Machine.execRejoin agent s
  | .yokeEnable agent en agree loops => Sys2Proof.Machine.execYokeEnable agent en agree loops s
  | .xqDisable agent => Sys2Proof.Machine.execXqDisable agent s
  | .swathHello k => Sys2Proof.Machine.execSwathHello k s
  | .lstate k => Sys2Proof.Machine.execLstate k s
  | .rdreq k res => Sys2Proof.Machine.execRdreq k res s
  | .rdrsp k res => Sys2Proof.Machine.execRdrsp k res s
  | .wr k res => Sys2Proof.Machine.execWr k res s
  | .wr64 k res => Sys2Proof.Machine.execWr64 k res s
  | .atom k res => Sys2Proof.Machine.execAtom k res s
  | .ack k => Sys2Proof.Machine.execAck k s
  | .atomr k => Sys2Proof.Machine.execAtomr k s
  | .rptreq k => Sys2Proof.Machine.execRptreq k s
  | .report k => Sys2Proof.Machine.execReport k s
  | .bind k res => Sys2Proof.Machine.execBind k res s
  | .bdone k res => Sys2Proof.Machine.execBdone k res s
  | .requestLost dst id read => Sys2Proof.Machine.execRequestLost dst id read s
  | .fabricEnable agent => Sys2Proof.Machine.execFabricEnable agent s
  | .lockstepMismatch => Sys2Proof.Machine.execLockstepMismatch s
  | .safetyCycle seals veto pulsed => Sys2Proof.Machine.execSafetyCycle seals veto pulsed s
  | .wdog => Sys2Proof.Machine.execWdog s
  | .status => Sys2Proof.Machine.execStatus s
  | .regRead => Sys2Proof.Machine.execRegRead s
  | .paramBegin => Sys2Proof.Machine.execParamBegin s
  | .paramData => Sys2Proof.Machine.execParamData s
  | .paramCommit => Sys2Proof.Machine.execParamCommit s
  | .paramWriteDone ok => Sys2Proof.Machine.execParamWriteDone ok s
  | .checkRead => Sys2Proof.Machine.execCheckRead s
  | .confirm => Sys2Proof.Machine.execConfirm s
  | .confirmTimeout => Sys2Proof.Machine.execConfirmTimeout s
  | .lockoutEnd => Sys2Proof.Machine.execLockoutEnd s
  | .operate => Sys2Proof.Machine.execOperate s
  | .armedExpiry => Sys2Proof.Machine.execArmedExpiry s
  | .stop => Sys2Proof.Machine.execStop s
  | .handover => Sys2Proof.Machine.execHandover s
  | .handoverFailed => Sys2Proof.Machine.execHandoverFailed s
  | .clearEvt => Sys2Proof.Machine.execClearEvt s
  | .frameWatchdog => Sys2Proof.Machine.execFrameWatchdog s
  | .degradeExpired => Sys2Proof.Machine.execDegradeExpired s
  | .localLost => Sys2Proof.Machine.execLocalLost s
  | .graceEnd => Sys2Proof.Machine.execGraceEnd s
  | .vetoTestPulse pulsed => Sys2Proof.Machine.execVetoTestPulse pulsed s
  | .lockupN low => Sys2Proof.Machine.execLockupN low s
  | .inputSample pins => Sys2Proof.Machine.execInputSample pins s
  | .resetStuck => Sys2Proof.Machine.execResetStuck s
  | .discrepancy n => Sys2Proof.Machine.execDiscrepancy n s
  | .testPulse b pins => Sys2Proof.Machine.execTestPulse b pins s
  | .offPulse o off back => Sys2Proof.Machine.execOffPulse o off back s
  | .cfTime o => Sys2Proof.Machine.execCfTime o s
  | .encoderEdge n a b => Sys2Proof.Machine.execEncoderEdge n a b s
  | .indexPoint n => Sys2Proof.Machine.execIndexPoint n s
  | .observerSample n bits => Sys2Proof.Machine.execObserverSample n bits s
  | .tBlind n => Sys2Proof.Machine.execTBlind n s
  | .dackTimeout n => Sys2Proof.Machine.execDackTimeout n s
  | .tSs n => Sys2Proof.Machine.execTSs n s
  | .start n => Sys2Proof.Machine.execStart n s
  | .startAck n => Sys2Proof.Machine.execStartAck n s
  | .startFail n => Sys2Proof.Machine.execStartFail n s
  | .dataDue n => Sys2Proof.Machine.execDataDue n s
  | .data n => Sys2Proof.Machine.execData n s
  | .close n => Sys2Proof.Machine.execClose n s
  | .watchdog n => Sys2Proof.Machine.execWatchdog n s
  | .timeout n => Sys2Proof.Machine.execTimeout n s
  | .retry n => Sys2Proof.Machine.execRetry n s
  | .hitchFrameReceive port frame fcsOk => Sys2Proof.Machine.execHitchFrameReceive port frame fcsOk s
  | .portLink port speed => Sys2Proof.Machine.execPortLink port speed s
  | .tapReset => Sys2Proof.Machine.execTapReset s
  | .extest => Sys2Proof.Machine.execExtest s
  | .samplePreload => Sys2Proof.Machine.execSamplePreload s
  | .idcode => Sys2Proof.Machine.execIdcode s
  | .clamp => Sys2Proof.Machine.execClamp s
  | .highz => Sys2Proof.Machine.execHighz s
  | .bypass code => Sys2Proof.Machine.execBypass code s
  | .boundaryExitReset code => Sys2Proof.Machine.execBoundaryExitReset code s
  | .dbgaddr v => Sys2Proof.Machine.execDbgaddr v s
  | .dbgdata v => Sys2Proof.Machine.execDbgdata v s
  | .debugAccessDone res => Sys2Proof.Machine.execDebugAccessDone res s
  | .haltRequest agent n mask => Sys2Proof.Machine.execHaltRequest agent n mask s
  | .halt h => Sys2Proof.Machine.execHalt h s
  | .resumeRequest agent n mask => Sys2Proof.Machine.execResumeRequest agent n mask s
  | .step agent n mask noint => Sys2Proof.Machine.execStep agent n mask noint s
  | .dregAccess agent write h cls index => Sys2Proof.Machine.execDregAccess agent write h cls index s
  | .debugReset agent key tg n => Sys2Proof.Machine.execDebugReset agent key tg n s
  | .overflow c => Sys2Proof.Machine.execOverflow c s
  | .traceBlockWrite c res => Sys2Proof.Machine.execTraceBlockWrite c res s
  | .traceEnable agent v => Sys2Proof.Machine.execTraceEnable agent v s
  | .tallyClear agent => Sys2Proof.Machine.execTallyClear agent s
  | .logWrite => Sys2Proof.Machine.execLogWrite s
  | .logAck agent index => Sys2Proof.Machine.execLogAck agent index s
  | .logAckAll agent => Sys2Proof.Machine.execLogAckAll agent s
  | .logClear agent => Sys2Proof.Machine.execLogClear agent s
  | .tempSample field headland => Sys2Proof.Machine.execTempSample field headland s
  | .powerEstimate watts => Sys2Proof.Machine.execPowerEstimate watts s
  | .pmbusCalibration watts => Sys2Proof.Machine.execPmbusCalibration watts s
  | .errorCounterSample => Sys2Proof.Machine.execErrorCounterSample s
  | .registerWrite target wide v => Sys2Proof.Machine.execRegisterWrite target wide v s
  | .swathLinkDown k => Sys2Proof.Machine.execSwathLinkDown k s
  | .pwrfailNRelease => Sys2Proof.Machine.execPwrfailNRelease s
  | .refclkReturn => Sys2Proof.Machine.execRefclkReturn s
  | .dlUp width rate => Sys2Proof.Machine.execDlUp width rate s
  | .tlbiAcknowledge h => Sys2Proof.Machine.execTlbiAcknowledge h s
  | .tallyOvf n => Sys2Proof.Machine.execTallyOvf n s
  | .reclaimRefusalReply e => Sys2Proof.Machine.execReclaimRefusalReply e s

end Sys2Proof.Machine
end

