-- ==== Sys2Proof/Safety.lean ====
section
/-! DEFINITION. What counts as a safe run and a safe state of the package, and the parts of the state that frames speak
of, in the terms that the statements use. -/

namespace Sys2Proof.Machine

/-! ### Runs and invariants -/

/-- A stop of the machine: a step that answers a fault or a refusal. -/
def State.stops (s : State) : Prop := ∀ t, step s ≠ .next t

/-- A run of `k` steps that never stops. -/
def runsSafely (k : Nat) (s : State) : Prop := ∃ t, Host.Core.run Sys2Proof.core k s = .next t

/-- The power-on reset is in progress whenever PORST_N is low or a rail whose loss is a power-on reset is out of its
operating range (R38, R49, Tables 2-2 and 2-3). -/
def State.porInv (s : State) : Prop :=
  s.clk.porstLow = true ∨ s.clk.railOut.any porRail = true → s.clk.porstHeld = true

/-- What the island's mode allows: AUTHORITY only in OPERATIONAL or FAULT, VETO_OUT only in OPERATIONAL, a commanded safe
output only in OPERATIONAL or, for the enable and release paths (channels 8 and up), in FAULT, where an axis runs its
stop (R445, R466, R501; notes/assumptions/45). -/
def State.islandInv (s : State) : Prop :=
  (s.auth = true → s.hs = hsOperational ∨ s.hs = hsFault) ∧ (s.on HDL_STATE.VETO_OUT 0 = true → s.hs = hsOperational) ∧
    ∀ c ∈ s.isl.chans, c.2.cmd = true → s.hs = hsOperational ∨ 8 ≤ c.1 ∧ s.hs = hsFault

/-- Granary memory is in its canonical form: keys strictly rising, and no entry equal to the 0 that an unlisted byte reads
as. -/
def Memory.wf (m : List Host.Cell) : Bool := rising m && m.all fun c => decide (c.2 ≠ 0)

/-- Every off path of the machine side of the island is off: no output, enable or release is driven. -/
def State.allOff (s : State) : Prop := s.isl.chans.all fun c => !c.2.cmd

/-- From `s` to `u` the fault log is given one entry with these fields (address and detail 0): it is queued, or lost where
the queue is full (R556). -/
def State.logs (s u : State) (code inst plot aux : Nat) : Prop := u.reeve = (s.logEvent code inst plot aux 0 0).reeve

/-! ### Instructions of a thread -/

/-- `i` answers a next state, and `P` holds of it. -/
def answers (i : Instr) (s : State) (P : State → Prop) : Prop := ∃ t, exec i s = .next t ∧ P t

/-- `i` only changes its own context: on every thread `h` that may run its next instruction it answers a next state, in
which the context of `h` is `f` of what it was, retired (PC + 4, INSTRET counted), and nothing else differs. -/
def ranAs (i : Instr) (h : Tid) (f : Thread → Thread) : Prop :=
  ∀ s : State, s.ready h = true → exec i s = .next (s.setThread h (f (s.thread h)).next)

/-! ### Parts of the state -/

/-- The register block that a field number lies in. -/
def blkOf (id : Nat) : Blk :=
  if id < 7 then .CLK else if id < 27 then .PWR else if id < 63 then .BT else if id < 64 then .FURG
  else if id < 65 then .GRNG else if id < 94 then .FUR else if id < 136 then .GRN else if id < 158 then .DRL
  else if id < 176 then .SOW else if id < 190 then .HRW else if id < 206 then .BND else if id < 232 then .HST
  else if id < 283 then .YK else if id < 315 then .SWT else if id < 326 then .SWTL else if id < 408 then .HDL
  else if id < 447 then .GLN else if id < 457 then .TLY else .RV

/-- The register block of a field. -/
def Fld.blk (F : Fld) : Blk := blkOf (F.id % 4096)

/-- The parts of the state that a frame names: a register block, the power-on reset's pins and rails (`por`), the bytes of
Granary memory (`mem`), and each other field of `State` (`clk` and `granary` without those two). The queue is in no part:
no command changes it; nor is `res`, which only passes within a command. -/
inductive Facet where
  | blk (b : Blk)
  | clk | por | reeve | threads | cores | tiles | caches | granary | mem | seedbox | gln | drill | loops | host | links
  | yoke | acre | boot | isl | bnd | vecs | sent | fresh
deriving DecidableEq, Repr

/-- The state with every part outside `m` blanked: two states agree on `m` where these are equal. -/
def State.keep (m : Facet → Bool) (s : State) : State where
  regs := s.regs.filter fun c => m (.blk (blkOf (c.1 % 4096)))
  clk :=
    { if m .clk then s.clk else {} with
      porstLow := m .por && s.clk.porstLow
      porstHeld := m .por && s.clk.porstHeld
      railOut := if m .por then s.clk.railOut else [] }
  reeve := if m .reeve then s.reeve else {}
  threads := if m .threads then s.threads else []
  cores := if m .cores then s.cores else []
  tiles := if m .tiles then s.tiles else []
  caches := if m .caches then s.caches else {}
  granary := { if m .granary then s.granary else {} with mem := if m .mem then s.granary.mem else [] }
  seedbox := if m .seedbox then s.seedbox else []
  gln := if m .gln then s.gln else {}
  drill := if m .drill then s.drill else {}
  loops := if m .loops then s.loops else []
  host := if m .host then s.host else {}
  links := if m .links then s.links else []
  yoke := if m .yoke then s.yoke else {}
  acre := if m .acre then s.acre else {}
  boot := if m .boot then s.boot else {}
  isl := if m .isl then s.isl else {}
  bnd := if m .bnd then s.bnd else []
  vecs := if m .vecs then s.vecs else []
  sent := if m .sent then s.sent else []
  fresh := if m .fresh then s.fresh else 0
  res := .ok
  pending := s.pending

/-- `t` agrees with `s` on every part outside `ps`, and their queues are equal. -/
def State.keepsBut (ps : List Facet) (s t : State) : Prop :=
  t.keep (fun p => !ps.contains p) = s.keep (fun p => !ps.contains p)

/-! ### Parts that commands may change -/

/-- Every part. -/
def allFacets : List Facet :=
  [.blk .CLK, .blk .PWR, .blk .BT, .blk .FURG, .blk .GRNG, .blk .FUR, .blk .GRN, .blk .DRL, .blk .SOW, .blk .HRW,
   .blk .BND, .blk .HST, .blk .YK, .blk .SWT, .blk .SWTL, .blk .HDL, .blk .GLN, .blk .TLY, .blk .RV, .clk, .por,
   .reeve, .threads, .cores, .tiles, .caches, .granary, .mem, .seedbox, .gln, .drill, .loops, .host, .links, .yoke,
   .acre, .boot, .isl, .bnd, .vecs, .sent, .fresh]

/-- Every part but some. -/
def allBut (ps : List Facet) : List Facet := allFacets.filter fun p => !ps.contains p

/-- What a command that uses Granary may change. -/
def memParts : List Facet := [.blk .GRN, .blk .RV, .caches, .cores, .granary, .mem, .reeve]

/-- What a command that sends on the fabric may change. -/
def netParts : List Facet := [.blk .RV, .blk .TLY, .links, .reeve, .sent]

/-- The parts of the state that each command may change: what it keeps is every other part, whatever the state. -/
def partsOf : Instr → List Facet
  | .refclkLoss => [.blk .CLK, .clk]
  | .rootUnlock => allBut [.blk .HDL, .por, .mem, .isl, .sent]
  | .rootClock => [.blk .CLK, .blk .PWR, .blk .RV, .clk, .reeve]
  | .clockWindow .. => [.blk .CLK, .clk, .isl]
  | .supplySample .. => allBut [.sent]
  | .pwrfail => [.blk .GRN, .blk .HDL, .blk .RV, .clk, .reeve, .isl]
  | .powerOnReset => allBut [.blk .HDL, .isl, .sent]
  | .porstNRelease .. => [.blk .CLK, .blk .YK, .blk .SWT, .blk .RV, .clk, .por, .reeve, .yoke, .boot, .fresh]
  | .warmrstN | .pkg .. | .drillWdog | .restart .. | .prefWriteDone | .tapReset | .extest | .samplePreload | .idcode
    | .clamp | .highz | .bypass .. | .boundaryExitReset .. | .dbgaddr .. | .dbgdata .. | .debugReset .. => allBut
    [.blk .CLK, .blk .HDL, .por, .mem, .isl, .sent]
  | .hostPortReset .. => [.blk .PWR, .blk .FUR, .blk .DRL, .blk .HRW, .blk .HST, .blk .RV, .clk, .reeve, .threads,
    .drill, .host, .vecs, .sent]
  | .functionLevelReset .. => allBut [.blk .CLK, .blk .BT, .blk .FURG, .blk .GRNG, .blk .YK, .blk .SWT, .blk .SWTL,
    .blk .HDL, .blk .GLN, .por, .gln, .yoke, .boot, .isl, .fresh]
  | .threadGroupReset .. | .kick .. => [.blk .RV, .clk, .reeve]
  | .tgDrainDone .. => [.blk .FUR, .clk, .threads, .cores, .tiles, .gln, .drill, .host]
  | .tgResetComplete .. => memParts ++ [.blk .FUR, .clk, .threads, .tiles, .seedbox, .drill]
  | .tgDrainTimeout .. => memParts ++ [.blk .FUR, .clk, .threads, .tiles, .seedbox, .gln, .drill, .host, .acre]
  | .headlandSafetyReset .. => [.blk .HDL, .boot, .isl, .fresh]
  | .powerGate .. => memParts ++ [.blk .FUR, .blk .GLN, .tiles, .gln, .fresh]
  | .coreWake .. => [.blk .FUR, .threads, .cores, .tiles, .gln, .fresh]
  | .hostLinkTraining => [.clk]
  | .selfRefreshExit .. | .stackTempReading .. => [.blk .GRN]
  | .bootSequence .. => [.blk .PWR, .blk .BT, .blk .DRL, .blk .HDL, .blk .RV, .clk, .reeve, .threads, .tiles, .seedbox,
    .boot, .isl]
  | .bootIslandTimeout | .flashTimeout => [.blk .PWR, .blk .BT, .blk .RV, .clk, .reeve, .boot]
  | .startup .. | .retry .. => [.blk .HDL, .isl, .fresh]
  | .claim .. | .release .. => [.blk .BT]
  | .flashRead .. | .flashProgram .. | .flashErase .. | .trial .. | .commit .. | .revert .. => [.blk .BT, .boot]
  | .flashCmdDone .. => [.blk .BT, .boot, .fresh]
  | .svnCommit .. => [.boot]
  | .tableWalk .. | .pf .. | .sb .. | .sh .. | .sw .. | .sd .. | .atomicSwap .. | .atomicAdd .. | .atomicAnd ..
    | .atomicOr .. | .atomicXor .. | .atomicMin .. | .atomicMax .. | .atomicMinu .. | .atomicMaxu .. | .atomicCas ..
    | .fsh .. | .fsw .. | .fsd .. | .cmoInvalidate .. | .cmoClean .. | .cmoCleanInvalidate .. | .tld .. | .tst ..
    | .tadd .. | .tsub .. | .tmul .. | .tmin .. | .tmax .. | .tand .. | .tor .. | .txor .. | .tmov .. | .tcvt ..
    | .tzero .. | .tfill .. | .tneg .. | .tabs .. | .tmuls .. | .tadds .. | .tget .. | .tput .. | .tmmp .. | .tmma ..
    | .texport .. | .texportC .. | .topen .. | .tclose .. | .tsave .. | .trestore .. | .tbind .. => memParts ++
    [.blk .TLY, .threads]
  | .add .. | .sub .. | .and .. | .or .. | .xor .. | .andn .. | .sll .. | .srl .. | .sra .. | .ror .. | .mul ..
    | .mulh .. | .mulhu .. | .div .. | .divu .. | .rem .. | .remu .. | .min .. | .max .. | .minu .. | .maxu ..
    | .clz .. | .ctz .. | .popc .. | .bswap .. | .sextb .. | .sexth .. | .sextw .. | .zextw .. | .sel .. | .addi ..
    | .andi .. | .ori .. | .xori .. | .slli .. | .srli .. | .srai .. | .rori .. | .cati .. | .adpc .. | .cmp ..
    | .cmpi .. | .pand .. | .por .. | .pxor .. | .pandn .. | .porn .. | .jal .. | .fadd .. | .fsub .. | .fmul ..
    | .fdiv .. | .fsqrt .. | .fmin .. | .fmax .. | .fcopys .. | .fcopyns .. | .fxors .. | .fcvtF .. | .fcvtI ..
    | .fcvtFi .. | .fmvGf .. | .fmvFg .. | .fclass .. | .fmadd .. | .fmsub .. | .fnmadd .. | .fnmsub .. | .fcmp ..
    | .csrrd .. | .csrswp .. | .csrset .. | .csrclr .. | .nop .. | .waitWake .. | .waitTimeout .. | .msend ..
    | .mrecv .. | .tlbiVaB .. | .tlbiPlotB .. | .tsync .. => [.threads]
  | .br .. | .jalr .. | .dret .. | .brk .. | .haltRequest .. | .halt .. | .step .. => [.blk .GLN, .threads, .gln]
  | .lb .. | .lbu .. | .lh .. | .lhu .. | .lw .. | .lwu .. | .ld .. | .flh .. | .flw .. | .fld .. | .l1dFill ..
    | .furrowCacheFill .. => memParts ++ [.blk .FUR, .blk .TLY, .threads]
  | .trap .. | .exceptionEntry .. => memParts ++ [.blk .FUR, .blk .GLN, .blk .TLY, .clk, .threads, .seedbox, .gln,
    .drill, .loops]
  | .gate .. | .xret .. => memParts ++ [.blk .GLN, .blk .TLY, .threads, .seedbox, .gln]
  | .wait .. | .eventDelivery .. => [.blk .FUR, .threads]
  | .mailboxPostDelivery .. => [.threads, .fresh]
  | .fenceAcq .. | .fenceRel .. | .fencePkg .. | .fenceAcre .. | .fenceHost .. | .fenceComplete .. | .ifence ..
    | .tlbiVa .. | .tlbiPlot .. | .tlbiAcknowledge .. => [.threads, .cores]
  | .memoryTransactionComplete .. | .yield .. | .debugAccessDone .. | .registerWrite .. => allBut [.blk .HDL, .por,
    .isl]
  | .l1iFill .. | .furrowScrub .. => memParts ++ [.blk .FUR, .blk .TLY]
  | .sideBufferFill .. => [.cores, .caches]
  | .openEntryTimeout .. => [.cores]
  | .mergingBufferDrain .. => memParts ++ [.blk .FUR, .blk .TLY, .threads, .seedbox]
  | .xpendCancel .. => [.blk .FUR]
  | .iinv .. | .dinv .. | .l1InvalidateDone .. | .l1EnableWrite .. => [.blk .FUR, .cores]
  | .rangeGo .. => [.blk .FUR, .caches]
  | .rangeDone .. => memParts ++ [.blk .FUR]
  | .tileAccept .. => [.threads, .cores, .tiles]
  | .tileDispatch .. => [.blk .FUR, .blk .RV, .reeve, .tiles]
  | .tileComplete .. => [.blk .FUR, .blk .RV, .reeve, .threads, .tiles]
  | .tldSegment .. => memParts ++ [.blk .TLY, .threads, .tiles, .fresh]
  | .tstRowAck .. => memParts ++ [.blk .FUR, .blk .TLY, .threads, .tiles, .seedbox]
  | .slotArrival .. | .binderRoundComplete .. => memParts ++ [.blk .FUR, .blk .BND, .blk .SWT, .blk .TLY, .threads,
    .tiles, .drill, .links, .acre, .bnd, .sent]
  | .binderCombine .. => [.bnd]
  | .bndOpnCtl .. => [.blk .BND, .blk .RV, .reeve, .bnd]
  | .withdrawal .. | .rejoining .. | .switchToTill .. | .switchToWithdrawn .. => memParts
  | .zeroingDone .. | .modeSwitchDone .. | .tillMode .. => memParts ++ [.drill]
  | .refresh .. => []
  | .patrolScrub .. => [.blk .GRN, .blk .RV, .reeve, .granary]
  | .act .. | .pre .. | .tillLd .. | .mac .. | .aadd .. | .chsh .. | .vred .. | .vcvt .. | .vzero .. | .mask ..
    | .xset .. | .xadd .. | .bnz .. | .jmp .. | .tillNop .. | .tillEnd .. => [.blk .GRN, .blk .TLY, .blk .RV, .reeve,
    .granary]
  | .st .. => [.blk .GRN, .blk .TLY, .blk .RV, .reeve, .granary, .mem]
  | .tillRefreshDue .. => [.blk .GRN, .granary]
  | .doorbell .. => [.blk .DRL]
  | .selfFedPoll .. => memParts ++ [.blk .DRL, .host, .sent]
  | .fetch .. => memParts ++ [.blk .DRL, .blk .GLN, .blk .TLY, .seedbox, .gln, .drill, .host, .vecs, .sent]
  | .seqRecheck .. => memParts ++ [.blk .DRL, .blk .GLN, .blk .TLY, .gln, .drill, .host, .sent]
  | .commandStart .. => memParts ++ [.blk .GLN, .gln, .drill, .host, .sent]
  | .endReport .. => allBut [.blk .HDL, .por]
  | .sow .. => memParts ++ [.blk .GLN, .threads, .gln, .drill, .fresh]
  | .copy .. | .signal .. => memParts ++ [.blk .FUR, .blk .BND, .blk .SWT, .blk .TLY, .threads, .tiles, .seedbox,
    .drill, .host, .links, .acre, .sent]
  | .fill .. | .rdrsp .. => memParts ++ [.blk .FUR, .blk .BND, .blk .SWT, .blk .TLY, .threads, .tiles, .seedbox, .drill,
    .links, .acre, .sent]
  | .streamOpen .. => memParts ++ [.blk .HRW, .seedbox, .drill, .host, .sent]
  | .streamClose .. => [.drill, .host]
  | .fence .. | .queryEntryState .. | .queryLedgerCounts .. => [.drill]
  | .waitCommand .. | .waitCommandPoll .. | .ack .. | .atomr .. => memParts ++ [.blk .FUR, .blk .BND, .blk .SWT,
    .blk .TLY, .threads, .tiles, .drill, .host, .links, .acre, .sent]
  | .waitCommandTimeout .. => [.drill, .host, .acre]
  | .tillRun .. => [.blk .GRN, .granary, .drill]
  | .lease .. => memParts ++ [.blk .FUR, .threads, .tiles, .seedbox, .gln, .drill, .fresh]
  | .unlease .. => memParts ++ [.blk .FUR, .threads, .tiles, .seedbox, .drill]
  | .abort .. => [.blk .FUR, .blk .GRN, .blk .SOW, .granary, .drill, .loops, .host, .acre]
  | .queryLeaseRecord .. => memParts ++ [.seedbox, .drill, .sent, .fresh]
  | .reclaim .. => [.blk .HST, .drill, .host, .vecs, .sent, .fresh]
  | .frameArm .. => netParts ++ [.blk .SOW, .drill, .loops, .yoke]
  | .frameDisarm .. | .sheafDeclare .. => [.blk .SOW, .drill, .loops]
  | .headlandMsg .. | .islandTimeout .. => [.drill, .isl]
  | .mailboxAnswer .. => memParts ++ [.seedbox, .drill, .isl, .sent]
  | .park .. => [.blk .FUR, .blk .GLN, .threads, .cores, .gln, .drill]
  | .sowTimeout .. => [.blk .FUR, .drill]
  | .stopTmo .. => [.blk .SOW, .clk, .drill]
  | .queueEnable .. | .queueDisable .. => [.blk .DRL, .drill]
  | .frameStart .. => [.blk .SOW, .loops, .yoke]
  | .frameRelease .. => memParts ++ [.blk .SOW, .blk .GLN, .threads, .gln, .drill, .loops, .fresh]
  | .frameDrop .. => memParts ++ [.blk .DRL, .blk .SOW, .blk .YK, .blk .GLN, .blk .TLY, .seedbox, .gln, .drill, .loops,
    .links, .yoke, .isl, .vecs, .sent]
  | .warn .. => [.blk .FUR, .blk .SOW, .loops]
  | .deadline .. => netParts ++ [.blk .FUR, .blk .SOW, .blk .YK, .drill, .loops, .yoke, .isl]
  | .digestComplete .. => memParts ++ [.blk .DRL, .blk .SOW, .blk .YK, .blk .GLN, .blk .TLY, .seedbox, .gln, .drill,
    .loops, .links, .yoke, .isl, .vecs, .sent, .fresh]
  | .vfEnableClear => memParts ++ [.blk .FUR, .blk .DRL, .blk .SOW, .blk .HRW, .blk .BND, .blk .HST, .blk .TLY, .clk,
    .threads, .tiles, .seedbox, .drill, .loops, .host, .links, .acre, .bnd, .vecs, .sent]
  | .barAccessError .. | .logAck .. | .logAckAll .. | .logClear .. | .errorCounterSample => [.blk .RV, .reeve]
  | .dlDown => [.blk .PWR, .blk .FUR, .blk .DRL, .blk .HRW, .blk .HST, .blk .RV, .reeve, .threads, .drill, .host, .vecs,
    .sent]
  | .completion .. => memParts ++ [.blk .FUR, .blk .DRL, .blk .HRW, .blk .BND, .blk .HST, .blk .SWT, .blk .GLN,
    .blk .TLY, .threads, .tiles, .seedbox, .gln, .drill, .host, .links, .acre, .vecs, .sent]
  | .completionTimeout .. => [.blk .FUR, .blk .DRL, .blk .HRW, .blk .HST, .blk .RV, .reeve, .threads, .drill, .host,
    .vecs, .sent]
  | .msiX .. => [.vecs, .sent]
  | .busMasterDisable .. | .d3hot .. | .detach .. => [.blk .FUR, .blk .HRW, .blk .HST, .blk .RV, .reeve, .drill, .host,
    .vecs, .sent]
  | .d0Return .. => [.host]
  | .rebase .. => [.blk .DRL, .blk .HST, .host]
  | .rebaseDone .. => memParts ++ [.blk .HST, .seedbox, .drill, .host, .sent]
  | .feed .. => [.blk .HRW]
  | .feedPoll .. => memParts ++ [.blk .HRW]
  | .elementCommit .. => memParts ++ [.blk .FUR, .blk .HRW, .blk .TLY, .seedbox, .drill, .host, .vecs, .sent]
  | .flushReadComplete .. => memParts ++ [.blk .FUR, .blk .DRL, .blk .HRW, .blk .BND, .blk .SWT, .blk .GLN, .blk .TLY,
    .threads, .tiles, .seedbox, .gln, .drill, .host, .links, .acre, .vecs, .sent]
  | .resume .. => memParts ++ [.blk .HRW, .seedbox, .host, .sent]
  | .flitReceive .. => netParts ++ [.blk .YK, .blk .SWT, .blk .SWTL]
  | .rxSilence .. => [.links, .sent]
  | .laneFail .. => [.blk .YK, .blk .SWTL, .links, .sent]
  | .linkDown | .yokeEnable .. => memParts ++ [.blk .YK, .blk .SWTL, .links, .yoke]
  | .linkUp .. => netParts ++ [.blk .YK, .blk .SWTL]
  | .hello => memParts ++ [.blk .BT, .blk .YK, .blk .TLY, .links, .yoke, .sent]
  | .timeTick => netParts ++ [.yoke]
  | .time | .rejoin .. => netParts ++ [.blk .YK, .yoke]
  | .pair | .xqDoorbell .. | .xack | .xreport => memParts ++ [.blk .YK, .blk .TLY, .links, .yoke, .sent]
  | .heartbeatDue => netParts ++ [.yoke, .isl, .fresh]
  | .heartbeat => [.blk .YK, .links, .yoke, .isl]
  | .heartbeatDeadline | .agreementPoint .. => [.blk .YK, .blk .RV, .reeve, .yoke, .isl]
  | .arm => [.links, .yoke]
  | .digest | .missing => [.blk .YK, .blk .RV, .reeve, .links, .yoke, .isl]
  | .hash => [.blk .YK, .blk .RV, .reeve, .links, .yoke]
  | .xreq | .xdata .. => memParts ++ [.blk .TLY, .links, .yoke, .sent]
  | .xqDisable .. => memParts ++ [.blk .YK, .yoke]
  | .swathHello .. | .fabricEnable .. | .swathLinkDown .. => memParts ++ [.blk .FUR, .blk .BND, .blk .YK, .blk .SWT,
    .blk .SWTL, .blk .TLY, .threads, .tiles, .drill, .links, .acre, .sent]
  | .lstate .. | .requestLost .. => memParts ++ [.blk .FUR, .blk .BND, .blk .SWT, .blk .TLY, .threads, .tiles, .drill,
    .links, .acre, .sent]
  | .rdreq .. => netParts ++ [.blk .GRN, .caches]
  | .wr .. | .wr64 .. | .atom .. => memParts ++ [.blk .TLY, .seedbox, .links, .acre, .sent]
  | .rptreq .. => netParts
  | .report .. => memParts ++ [.blk .TLY, .links, .acre, .sent]
  | .bind .. | .bdone .. => memParts ++ [.blk .FUR, .blk .BND, .blk .TLY, .links, .acre, .bnd, .sent]
  | .lockstepMismatch | .safetyCycle .. | .wdog | .paramBegin | .paramCommit | .confirm | .confirmTimeout | .operate
    | .armedExpiry | .handover | .handoverFailed | .clearEvt | .frameWatchdog | .degradeExpired | .graceEnd
    | .lockupN .. | .inputSample .. | .resetStuck | .discrepancy .. | .testPulse .. | .offPulse .. | .cfTime ..
    | .indexPoint .. | .observerSample .. | .tBlind .. | .dackTimeout .. | .tSs .. | .startAck .. | .startFail ..
    | .close .. => [.blk .HDL, .isl]
  | .status | .regRead | .paramData | .checkRead | .lockoutEnd | .stop | .localLost | .encoderEdge .. => [.isl]
  | .paramWriteDone .. => [.blk .HDL, .boot, .isl, .sent, .fresh]
  | .vetoTestPulse .. | .start .. | .dataDue .. | .data .. | .watchdog .. | .timeout .. | .hitchFrameReceive .. =>
    [.blk .HDL, .isl, .sent]
  | .portLink .. => [.blk .HDL]
  | .resumeRequest .. => [.blk .FUR, .blk .GLN, .threads, .gln]
  | .dregAccess .. => [.blk .GLN, .threads, .tiles]
  | .overflow .. => [.blk .GLN, .blk .RV, .reeve, .gln]
  | .traceBlockWrite .. => memParts ++ [.blk .GLN, .gln]
  | .traceEnable .. => [.blk .GLN, .gln]
  | .tallyClear .. => [.blk .TLY]
  | .logWrite => [.blk .RV, .reeve, .vecs, .sent]
  | .tempSample .. | .powerEstimate .. => [.blk .RV, .reeve, .fresh]
  | .pmbusCalibration .. => [.reeve]
  | .pwrfailNRelease => [.blk .HDL, .clk]
  | .refclkReturn => [.blk .CLK, .blk .SWT, .blk .RV, .clk, .por, .reeve, .yoke, .fresh]
  | .dlUp .. => [.blk .HST]
  | .tallyOvf .. => [.blk .TLY, .blk .RV, .reeve]
  | .reclaimRefusalReply .. => memParts ++ [.blk .DRL, .blk .HRW, .blk .GLN, .seedbox, .gln, .drill, .host, .vecs,
    .sent]

end Sys2Proof.Machine
end

