-- ==== Sys2Proof/WellFormed.lean ====
section
/-! DEFINITION. Well-formed commands: operands that are plain numbers, lists or records lie in the range that the rule of
their row gives them. Operands of a bounded type need no check. -/

namespace Sys2Proof

/-- A device's listed bytes lie in the 256 MiB that BT_FLASH_ADDR reaches (R53). -/
def FlashDevice.wf (d : FlashDevice) : Bool := d.bytes.all fun c => decide (c.1 < 2 ^ 28)

/-- NumVFs is 1 to 511 (chapter 16). -/
def RegTarget.wf : RegTarget → Bool
  | .device _ _ => true
  | .bar0 _ _ => true
  | .bar2 _ => true
  | .readBar0 _ _ => true
  | .readBar2 _ => true
  | .readId _ => true
  | .vfEnable n => decide (1 ≤ n) && decide (n ≤ 511)
  | .busMaster _ => true
  | .msix _ _ _ => true

/-- A well-formed command. -/
def Instr.wf : Instr → Bool
  | .refclkLoss => true
  | .rootUnlock => true
  | .rootClock => true
  | .clockWindow _ _ => true
  | .supplySample _ _ => true
  | .pwrfail => true
  | .powerOnReset => true
  | .porstNRelease _ flash => flash.all FlashDevice.wf
  | .warmrstN => true
  | .pkg _ _ => true
  | .hostPortReset _ => true
  | .functionLevelReset _ _ => true
  | .threadGroupReset _ _ => true
  | .tgDrainDone _ => true
  | .tgResetComplete _ => true
  | .tgDrainTimeout _ => true
  | .headlandSafetyReset _ _ => true
  | .drillWdog => true
  | .kick _ => true
  | .powerGate _ => true
  | .coreWake _ => true
  | .hostLinkTraining => true
  | .selfRefreshExit _ => true
  | .bootSequence _ => true
  | .bootIslandTimeout => true
  | .flashTimeout => true
  | .startup _ _ _ => true
  | .claim _ => true
  | .release _ => true
  | .flashRead _ => true
  | .flashProgram _ => true
  | .flashErase _ => true
  | .flashCmdDone _ => true
  | .trial _ _ _ _ => true
  | .commit _ _ _ => true
  | .revert _ _ _ => true
  | .restart _ _ => true
  | .prefWriteDone => true
  | .svnCommit _ _ _ => true
  | .tableWalk _ _ => true
  | .add _ _ _ _ _ => true
  | .sub _ _ _ _ _ => true
  | .and _ _ _ _ => true
  | .or _ _ _ _ => true
  | .xor _ _ _ _ => true
  | .andn _ _ _ _ => true
  | .sll _ _ _ _ _ => true
  | .srl _ _ _ _ _ => true
  | .sra _ _ _ _ _ => true
  | .ror _ _ _ _ _ => true
  | .mul _ _ _ _ _ => true
  | .mulh _ _ _ _ => true
  | .mulhu _ _ _ _ => true
  | .div _ _ _ _ _ => true
  | .divu _ _ _ _ _ => true
  | .rem _ _ _ _ _ => true
  | .remu _ _ _ _ _ => true
  | .min _ _ _ _ => true
  | .max _ _ _ _ => true
  | .minu _ _ _ _ => true
  | .maxu _ _ _ _ => true
  | .clz _ _ _ => true
  | .ctz _ _ _ => true
  | .popc _ _ _ => true
  | .bswap _ _ _ => true
  | .sextb _ _ _ => true
  | .sexth _ _ _ => true
  | .sextw _ _ _ => true
  | .zextw _ _ _ => true
  | .sel _ _ _ _ _ => true
  | .addi _ _ _ _ => true
  | .andi _ _ _ _ => true
  | .ori _ _ _ _ => true
  | .xori _ _ _ _ => true
  | .slli _ _ _ _ _ => true
  | .srli _ _ _ _ _ => true
  | .srai _ _ _ _ _ => true
  | .rori _ _ _ _ _ => true
  | .cati _ _ _ _ => true
  | .adpc _ _ _ => true
  | .cmp _ _ _ _ _ => true
  | .cmpi _ _ _ _ _ => true
  | .pand _ _ _ _ => true
  | .por _ _ _ _ => true
  | .pxor _ _ _ _ => true
  | .pandn _ _ _ _ => true
  | .porn _ _ _ _ => true
  | .br _ _ _ _ => true
  | .jal _ _ _ => true
  | .jalr _ _ _ _ => true
  | .lb _ _ _ _ _ => true
  | .lbu _ _ _ _ _ => true
  | .lh _ _ _ _ _ => true
  | .lhu _ _ _ _ _ => true
  | .lw _ _ _ _ _ => true
  | .lwu _ _ _ _ _ => true
  | .ld _ _ _ _ _ => true
  | .pf _ _ _ => true
  | .sb _ _ _ _ => true
  | .sh _ _ _ _ => true
  | .sw _ _ _ _ => true
  | .sd _ _ _ _ => true
  | .atomicSwap _ _ _ _ _ _ _ => true
  | .atomicAdd _ _ _ _ _ _ _ => true
  | .atomicAnd _ _ _ _ _ _ _ => true
  | .atomicOr _ _ _ _ _ _ _ => true
  | .atomicXor _ _ _ _ _ _ _ => true
  | .atomicMin _ _ _ _ _ _ _ => true
  | .atomicMax _ _ _ _ _ _ _ => true
  | .atomicMinu _ _ _ _ _ _ _ => true
  | .atomicMaxu _ _ _ _ _ _ _ => true
  | .atomicCas _ _ _ _ _ _ _ => true
  | .flh _ _ _ _ _ => true
  | .flw _ _ _ _ _ => true
  | .fld _ _ _ _ _ => true
  | .fsh _ _ _ _ => true
  | .fsw _ _ _ _ => true
  | .fsd _ _ _ _ => true
  | .fadd _ _ _ _ _ _ => true
  | .fsub _ _ _ _ _ _ => true
  | .fmul _ _ _ _ _ _ => true
  | .fdiv _ _ _ _ _ _ => true
  | .fsqrt _ _ _ _ _ => true
  | .fmin _ _ _ _ _ _ => true
  | .fmax _ _ _ _ _ _ => true
  | .fcopys _ _ _ _ _ _ => true
  | .fcopyns _ _ _ _ _ _ => true
  | .fxors _ _ _ _ _ _ => true
  | .fcvtF _ _ _ _ _ _ => true
  | .fcvtI _ _ _ _ _ _ _ => true
  | .fcvtFi _ _ _ _ _ _ _ => true
  | .fmvGf _ _ _ _ _ => true
  | .fmvFg _ _ _ _ _ => true
  | .fclass _ _ _ _ _ => true
  | .fmadd _ _ _ _ _ _ _ => true
  | .fmsub _ _ _ _ _ _ _ => true
  | .fnmadd _ _ _ _ _ _ _ => true
  | .fnmsub _ _ _ _ _ _ _ => true
  | .fcmp _ _ _ _ _ _ => true
  | .csrrd _ _ _ => true
  | .csrswp _ _ _ _ => true
  | .csrset _ _ _ _ => true
  | .csrclr _ _ _ _ => true
  | .nop _ => true
  | .trap _ _ _ _ => true
  | .gate _ _ _ _ => true
  | .xret _ _ => true
  | .dret _ => true
  | .wait _ _ _ => true
  | .waitWake _ => true
  | .waitTimeout _ => true
  | .msend _ _ _ _ => true
  | .mailboxPostDelivery _ => true
  | .mrecv _ _ _ => true
  | .brk _ => true
  | .fenceAcq _ => true
  | .fenceRel _ => true
  | .fencePkg _ => true
  | .fenceAcre _ => true
  | .fenceHost _ => true
  | .fenceComplete _ => true
  | .ifence _ => true
  | .tlbiVa _ _ => true
  | .tlbiVaB _ _ => true
  | .tlbiPlot _ => true
  | .tlbiPlotB _ => true
  | .cmoInvalidate _ _ _ _ => true
  | .cmoClean _ _ _ _ _ => true
  | .cmoCleanInvalidate _ _ _ _ _ => true
  | .memoryTransactionComplete _ _ => true
  | .l1dFill _ => true
  | .l1iFill _ _ _ => true
  | .sideBufferFill _ => true
  | .furrowCacheFill _ line _ _ => decide (line < 2 ^ 50)
  | .openEntryTimeout _ => true
  | .mergingBufferDrain _ _ _ _ => true
  | .furrowScrub _ _ => true
  | .eventDelivery _ => true
  | .exceptionEntry _ _ _ _ => true
  | .xpendCancel _ _ _ => true
  | .iinv _ => true
  | .dinv _ => true
  | .l1InvalidateDone _ => true
  | .l1EnableWrite _ _ _ _ => true
  | .rangeGo _ _ _ _ => true
  | .rangeDone _ _ => true
  | .tld _ _ _ _ _ _ _ _ => true
  | .tst _ _ _ _ _ _ _ _ => true
  | .tadd _ _ _ _ _ _ _ _ _ _ _ => true
  | .tsub _ _ _ _ _ _ _ _ _ _ _ => true
  | .tmul _ _ _ _ _ _ _ _ _ _ _ => true
  | .tmin _ _ _ _ _ _ _ _ _ _ _ => true
  | .tmax _ _ _ _ _ _ _ _ _ _ _ => true
  | .tand _ _ _ _ _ _ _ _ _ _ => true
  | .tor _ _ _ _ _ _ _ _ _ _ => true
  | .txor _ _ _ _ _ _ _ _ _ _ => true
  | .tmov _ _ _ _ _ _ _ _ => true
  | .tcvt _ _ _ _ _ _ _ _ _ => true
  | .tzero _ _ _ _ _ _ => true
  | .tfill _ _ _ _ _ _ _ => true
  | .tneg _ _ _ _ _ _ _ _ => true
  | .tabs _ _ _ _ _ _ _ _ => true
  | .tmuls _ _ _ _ _ _ _ _ _ _ => true
  | .tadds _ _ _ _ _ _ _ _ _ _ => true
  | .tsync _ _ => true
  | .tget _ _ _ _ _ => true
  | .tput _ _ _ _ _ => true
  | .tileAccept _ => true
  | .tileDispatch _ _ => true
  | .tileComplete _ _ _ => true
  | .tldSegment _ _ _ => true
  | .tstRowAck _ _ _ => true
  | .tmmp _ _ _ _ _ _ _ _ _ _ _ _ => true
  | .tmma _ _ _ _ _ _ _ _ _ _ _ => true
  | .texport _ _ _ _ _ _ _ _ _ _ _ _ => true
  | .texportC _ _ _ _ _ _ _ _ _ _ _ _ => true
  | .topen _ _ _ _ _ _ _ => true
  | .tclose _ _ _ => true
  | .tsave _ _ _ _ _ _ => true
  | .trestore _ _ _ _ _ _ => true
  | .tbind _ _ _ _ _ _ => true
  | .slotArrival _ _ _ => true
  | .binderCombine _ => true
  | .binderRoundComplete _ _ => true
  | .bndOpnCtl _ _ _ _ _ _ _ => true
  | .withdrawal _ _ => true
  | .rejoining _ _ => true
  | .zeroingDone _ => true
  | .switchToTill _ _ => true
  | .switchToWithdrawn _ _ => true
  | .modeSwitchDone _ _ => true
  | .refresh _ => true
  | .stackTempReading _ temp => decide (temp < 2 ^ 8)
  | .patrolScrub _ _ => true
  | .act _ => true
  | .pre _ => true
  | .tillLd _ _ _ => true
  | .st _ _ _ => true
  | .mac _ => true
  | .aadd _ => true
  | .chsh _ => true
  | .vred _ => true
  | .vcvt _ => true
  | .vzero _ => true
  | .mask _ => true
  | .xset _ => true
  | .xadd _ => true
  | .bnz _ => true
  | .jmp _ => true
  | .tillNop _ => true
  | .yield _ _ => true
  | .tillEnd _ => true
  | .tillRefreshDue _ => true
  | .doorbell _ _ _ => true
  | .selfFedPoll _ _ => true
  | .fetch _ _ _ => true
  | .seqRecheck _ _ _ => true
  | .commandStart _ _ => true
  | .endReport _ _ => true
  | .sow _ _ => true
  | .copy _ _ => true
  | .fill _ _ => true
  | .streamOpen _ _ => true
  | .streamClose _ => true
  | .fence _ => true
  | .signal _ _ => true
  | .waitCommand _ _ => true
  | .waitCommandPoll _ _ => true
  | .waitCommandTimeout _ => true
  | .tillMode _ => true
  | .tillRun _ => true
  | .lease _ extents _ => decide extents.Nodup
  | .unlease _ extents _ => decide extents.Nodup
  | .abort _ => true
  | .queryEntryState _ => true
  | .queryLeaseRecord _ _ => true
  | .queryLedgerCounts _ => true
  | .reclaim _ => true
  | .frameArm _ => true
  | .frameDisarm _ => true
  | .sheafDeclare _ => true
  | .headlandMsg _ => true
  | .mailboxAnswer _ _ => true
  | .islandTimeout _ => true
  | .park _ => true
  | .sowTimeout _ => true
  | .stopTmo _ => true
  | .queueEnable _ _ => true
  | .queueDisable _ _ => true
  | .frameStart _ => true
  | .frameRelease _ _ _ => true
  | .frameDrop _ => true
  | .warn _ => true
  | .deadline _ => true
  | .digestComplete _ _ => true
  | .vfEnableClear => true
  | .barAccessError _ _ size => decide (0 < size)
  | .dlDown => true
  | .completion _ d _ => d.all fun b => decide (b.length ≤ 4096)
  | .completionTimeout _ => true
  | .msiX _ _ => true
  | .busMasterDisable _ => true
  | .d3hot _ => true
  | .d0Return _ => true
  | .detach _ _ => true
  | .rebase _ _ => true
  | .rebaseDone _ => true
  | .feed _ _ _ => true
  | .feedPoll _ _ => true
  | .elementCommit _ _ => true
  | .flushReadComplete _ _ => true
  | .resume _ _ => true
  | .flitReceive _ flit => flit.all fun b => decide (b.length = 640)
  | .rxSilence _ => true
  | .laneFail _ _ => true
  | .linkDown => true
  | .linkUp _ => true
  | .hello => true
  | .timeTick => true
  | .time => true
  | .pair => true
  | .heartbeatDue => true
  | .heartbeat => true
  | .heartbeatDeadline => true
  | .arm => true
  | .digest => true
  | .missing => true
  | .agreementPoint _ _ => true
  | .hash => true
  | .xqDoorbell _ _ => true
  | .xreq => true
  | .xdata _ => true
  | .xack => true
  | .xreport => true
  | .rejoin _ => true
  | .yokeEnable _ _ _ _ => true
  | .xqDisable _ => true
  | .swathHello _ => true
  | .lstate _ => true
  | .rdreq _ _ => true
  | .rdrsp _ _ => true
  | .wr _ _ => true
  | .wr64 _ _ => true
  | .atom _ _ => true
  | .ack _ => true
  | .atomr _ => true
  | .rptreq _ => true
  | .report _ => true
  | .bind _ _ => true
  | .bdone _ _ => true
  | .requestLost _ _ _ => true
  | .fabricEnable _ => true
  | .lockstepMismatch => true
  | .safetyCycle _ _ _ => true
  | .wdog => true
  | .status => true
  | .regRead => true
  | .paramBegin => true
  | .paramData => true
  | .paramCommit => true
  | .paramWriteDone _ => true
  | .checkRead => true
  | .confirm => true
  | .confirmTimeout => true
  | .lockoutEnd => true
  | .operate => true
  | .armedExpiry => true
  | .stop => true
  | .handover => true
  | .handoverFailed => true
  | .clearEvt => true
  | .frameWatchdog => true
  | .degradeExpired => true
  | .localLost => true
  | .graceEnd => true
  | .vetoTestPulse _ => true
  | .lockupN _ => true
  | .inputSample _ => true
  | .resetStuck => true
  | .discrepancy _ => true
  | .testPulse _ _ => true
  | .offPulse _ _ _ => true
  | .cfTime _ => true
  | .encoderEdge _ _ _ => true
  | .indexPoint _ => true
  | .observerSample _ _ => true
  | .tBlind _ => true
  | .dackTimeout _ => true
  | .tSs _ => true
  | .start _ => true
  | .startAck _ => true
  | .startFail _ => true
  | .dataDue _ => true
  | .data _ => true
  | .close _ => true
  | .watchdog _ => true
  | .timeout _ => true
  | .retry _ => true
  | .hitchFrameReceive _ frame _ => decide (14 ≤ frame.length) && decide (frame.length ≤ 1518)
  | .portLink _ _ => true
  | .tapReset => true
  | .extest => true
  | .samplePreload => true
  | .idcode => true
  | .clamp => true
  | .highz => true
  | .bypass _ => true
  | .boundaryExitReset _ => true
  | .dbgaddr _ => true
  | .dbgdata _ => true
  | .debugAccessDone _ => true
  | .haltRequest _ _ _ => true
  | .halt _ => true
  | .resumeRequest _ _ _ => true
  | .step _ _ _ _ => true
  | .dregAccess _ _ _ _ _ => true
  | .debugReset _ _ _ _ => true
  | .overflow _ => true
  | .traceBlockWrite _ _ => true
  | .traceEnable _ _ => true
  | .tallyClear _ => true
  | .logWrite => true
  | .logAck _ _ => true
  | .logAckAll _ => true
  | .logClear _ => true
  | .tempSample field headland => decide (field.length = 18) && decide (headland.length = 2) && (field ++ headland).all fun t => decide (t < 2 ^ 8)
  | .powerEstimate watts => decide (watts < 2 ^ 16)
  | .pmbusCalibration watts => decide (watts < 2 ^ 16)
  | .errorCounterSample => true
  | .registerWrite target _ _ => target.wf
  | .swathLinkDown _ => true
  | .pwrfailNRelease => true
  | .refclkReturn => true
  | .dlUp _ _ => true
  | .tlbiAcknowledge _ => true
  | .tallyOvf _ => true
  | .reclaimRefusalReply _ => true

end Sys2Proof
end

