-- ==== Sys2Proof/Certificates/Slice0/Obligations.lean ====
section
/-! DEFINITION. The statements for the provers: one proposition each, listed in OBLIGATIONS.json. -/

open Sys2Proof Sys2Proof.Machine

/-- Whatever the state and the command at the front of its queue, a step is exec of that command on the state with the
rest of the queue: the same next state, fault or refusal. On an empty queue a step answers a next state, the tick of
the state (notes/assumptions/4, the model's choice). -/
def Obligations.StepRunsFrontCommand : Prop :=
  (∀ (i : Instr) (q : List Instr) (s : State), step { s with pending := i :: q } = exec i { s with pending := q }) ∧
  ∀ s : State, s.pending = [] → step s = .next s.tick

/-- In State.reset every register field of every instance reads its reset value; the queue is empty, Granary memory
lists nothing and is canonical, no thread runs, no tile is open, no function's link is up, nothing has been sent and
the fault log is empty; the island is in MONITOR without authority, with every output off; and both invariants of the
step hold. Reset values that the spec does not give are the model's (notes/assumptions, NOTES.md). -/
def Obligations.ResetState : Prop :=
  (∀ (F : Fld) i, State.reset.f F i = F.rst) ∧ State.reset.pending = [] ∧ State.reset.granary.mem = [] ∧
  Memory.wf State.reset.granary.mem = true ∧ (∀ h, (State.reset.thread h).mode ≠ .running) ∧ State.reset.sent = [] ∧
  State.reset.reeve.log = [] ∧ State.reset.hs = hsMonitor ∧ State.reset.auth = false ∧ State.reset.allOff ∧
  State.reset.porInv ∧ State.reset.islandInv

/-- Every command answers a next state from every state, except a supply sample beyond the absolute range, which
faults by that name and does so only there; and in the next state every part of the state outside partsOf the command
(every register block, the bytes of Granary memory and every other field of State is such a part) is what it was, and
so is the queue. -/
def Obligations.WholeMachineFrame : Prop :=
  ∀ (i : Instr) (s : State),
    (exec i s = .fault .beyondAbsoluteRange ∧ ∃ r, i = .supplySample r .beyondAbsolute) ∨
      ∃ t, exec i s = .next t ∧ s.keepsBut (partsOf i) t ∧ t.pending = s.pending

/-- From every state in which the power-on reset is in progress whenever PORST_N is low or a rail that causes it is
out of range, and in which the island has AUTHORITY only in OPERATIONAL or FAULT, asserts VETO_OUT only in OPERATIONAL
and commands a safe output only in OPERATIONAL or (enable and release paths, running stops, notes/assumptions/45) in
FAULT, a step that answers a next state gives such a state. -/
def Obligations.MachineInvariantKept : Prop :=
  ∀ s t : State, s.porInv → s.islandInv → step s = .next t → t.porInv ∧ t.islandInv

/-- Outside a power-on reset and with REFCLK, one REFCLK period (an empty queue's step: log entry 4) adds 1 to the
timestamp modulo 2^64; without REFCLK it does not count and its loss sets TS_GAP; no command but a power-on reset
(POWER_ON_RESET, SUPPLY_SAMPLE) changes it. Outside resets, loss of root lock sets ROOT_UNLOCK and FALLBACK, clears
ROOT_LOCK, clears the Field die and puts every stack in self-refresh; with REFCLK the relock sets ROOT_LOCK and the
cause ROOT_CLOCK and counts one package reset. A window of the Headland monitor sets REFCLK_OK to whether its count is
980 to 1,020, and the second bad one in a row sets REFCLK_LOST. A power-on reset that waited only for REFCLK ends as
REFCLK returns (R44). -/
def Obligations.ClockEventResults : Prop :=
  ∀ (s t : State) (i : Instr) (ref root : Nat),
    (s.pending = [] → step s = .next s.tick) ∧
    (s.clk.refclk = true → s.clk.porstHeld = false → s.tick.now = (s.now + 1) % 2 ^ 64) ∧
    (s.clk.refclk = false ∨ s.clk.porstHeld = true → s.tick = s) ∧
    (exec i s = .next t → i ≠ .powerOnReset → (∀ r l, i ≠ .supplySample r l) → t.now = s.now) ∧
    exec .refclkLoss s = .next ({ s with clk := { s.clk with refclk := false } }.setOn CLK_EVENT.TS_GAP 0 true) ∧
    (s.clk.porstHeld = false → exec .refclkReturn s = .next { s with clk := { s.clk with refclk := true } }) ∧
    (s.clk.porstHeld = true → s.clk.porstLow = false → s.clk.railOut.any porRail = false → answers .refclkReturn s fun u =>
      u.clk.refclk = true ∧ u.clk.porstHeld = false ∧ u.on CLK_STATUS.ROOT_LOCK 0 = true ∧ u.isl = s.isl) ∧
    (s.inReset = false → s.on CLK_STATUS.ROOT_LOCK 0 = true → answers .rootUnlock s fun u =>
      u.on CLK_STATUS.ROOT_LOCK 0 = false ∧ u.on CLK_STATUS.FALLBACK 0 = true ∧ u.on CLK_EVENT.ROOT_UNLOCK 0 = true ∧
      u.clk.rootHeld = true ∧ u.threads = [] ∧ u.drill = {} ∧ u.granary.mem = s.granary.mem ∧
      ∀ c, c < 96 → u.on GRN_STATE.SELFREF c = true) ∧
    (s.clk.rootHeld = true → s.clk.refclk = true → answers .rootClock s fun u =>
      u.on CLK_STATUS.ROOT_LOCK 0 = true ∧ u.on CLK_STATUS.FALLBACK 0 = false ∧ u.clk.rootHeld = false ∧
      u.on PWR_RESET_CAUSE.ROOT_CLOCK 0 = true ∧
      u.f PWR_RESET_COUNT.COUNT 0 = min (s.f PWR_RESET_COUNT.COUNT 0 + 1) (max (s.f PWR_RESET_COUNT.COUNT 0) (2 ^ 32 - 1))) ∧
    answers (.clockWindow ref root) s fun u =>
      let bad := fun n => decide (n < 980 ∨ 1020 < n)
      u.isl.refBad = (if bad ref then min (s.isl.refBad + 1) 2 else 0) ∧
      u.isl.rootBad = (if bad root then min (s.isl.rootBad + 1) 2 else 0) ∧
      (s.clk.porstHeld = false →
        u.on CLK_STATUS.REFCLK_OK 0 = !bad ref ∧ u.clk.refBad = (if bad ref then min (s.clk.refBad + 1) 2 else 0) ∧
        (u.clk.refBad = 2 → u.on CLK_EVENT.REFCLK_LOST 0 = true) ∧
        (u.clk.refBad ≠ 2 → u.on CLK_EVENT.REFCLK_LOST 0 = s.on CLK_EVENT.REFCLK_LOST 0))

/-- POWER_ON_RESET holds the package in reset, clears everything of Table 2-4 outside the island, sets the cause
POWER_ON alone and keeps the island and the flash; it ends when PORST_N has risen, REFCLK runs and no rail of the
Headland or I/O domain is out of range, and then the root PLL locks, the level of the role strap being read as PORST_N
rises; with a device the board fits other flash (log entry 60). A supply sample inside or outside the operating range
sets the rail's GOOD bit, and outside it on a rail of those domains starts a power-on reset; beyond the absolute range
nothing is stated, and it is the one command that stops. PWRFAIL switches every output path off, logs 0x0005 and puts
every stack in self-refresh, which SELF_REFRESH_EXIT ends; PWRFAIL_N_RELEASE ends the announcement. Where the event
cannot happen the state is unchanged (log entry 1). -/
def Obligations.PowerOnAndSupplyResults : Prop :=
  ∀ (s : State) (rail : Fin 9) (level : RailLevel) (lead : Bool) (flash : Option FlashDevice) (st : Stack),
    let cleared := fun u : State => u.clk.porstHeld = true ∧ u.threads = [] ∧ u.drill = {} ∧ u.granary.mem = [] ∧
      u.isl = s.isl ∧ u.boot.flash = s.boot.flash ∧ u.f CLK_TIMESTAMP.TS 0 = 0 ∧ u.f PWR_RESET_CAUSE.POWER_ON 0 = 1 ∧
      u.f PWR_RESET_CAUSE.WARM_PIN 0 = 0 ∧ u.f PWR_RESET_COUNT.COUNT 0 = 0 ∧ u.reeve.log = [] ∧
      ∀ F ∈ Blk.HDL.fields, ∀ i, i < 2 ^ 20 → u.f F i = s.f F i
    answers .powerOnReset s (fun u => cleared u ∧ u.clk.porstLow = true) ∧
    (s.clk.porstLow = false → exec (.porstNRelease lead flash) s = .next s) ∧
    (s.clk.porstLow = true → answers (.porstNRelease lead flash) s fun u =>
      u.clk.porstLow = false ∧ u.on YK_STATUS.LEAD 0 = lead ∧
      (s.clk.porstHeld = true → s.clk.railOut.any porRail = false → s.clk.refclk = true →
        u.clk.porstHeld = false ∧ u.on CLK_STATUS.ROOT_LOCK 0 = true) ∧
      (s.clk.railOut.any porRail = true ∨ s.clk.refclk = false → u.clk.porstHeld = s.clk.porstHeld) ∧
      (flash = none → u.boot.flash = s.boot.flash)) ∧
    (level = .beyondAbsolute → exec (.supplySample rail level) s = .fault .beyondAbsoluteRange) ∧
    (level ≠ .beyondAbsolute → answers (.supplySample rail level) s fun u =>
      u.bitF PWR_RAIL_STATUS.GOOD 0 rail.val = decide (level = .within) ∧
      (rail.val ∈ u.clk.railOut ↔ level = .outside) ∧ (∀ r, r ≠ rail.val → (r ∈ u.clk.railOut ↔ r ∈ s.clk.railOut)) ∧
      (level = .outside → 4 ≤ rail.val → rail.val ≤ 7 → u.clk.porstHeld = true)) ∧
    (s.clk.pwrfail = true → exec .pwrfail s = .next s) ∧
    (s.clk.pwrfail = false → answers .pwrfail s fun u =>
      u.clk.pwrfail = true ∧ (∀ c ∈ u.isl.chans, c.2.cmd = false) ∧ u.f HDL_SO_STATE.COMMANDED 0 = 0 ∧
      u.on HDL_STATE.VETO_OUT 0 = false ∧
      (s.clk.porstHeld = false → s.logs u 0x0005 noInst noInst (s.regAt .PWR 0 0) ∧
        ∀ c, c < 96 → u.on GRN_STATE.SELFREF c = true)) ∧
    answers .pwrfailNRelease s (fun u => u.clk.pwrfail = false) ∧
    (s.inReset = true ∨ s.clk.pwrfail = true ∨ s.on CLK_STATUS.ROOT_LOCK 0 = false → exec (.selfRefreshExit st) s = .next s) ∧
    (s.inReset = false → s.clk.pwrfail = false → s.on CLK_STATUS.ROOT_LOCK 0 = true → answers (.selfRefreshExit st) s fun u =>
      ∀ c, c < 96 → u.on GRN_STATE.SELFREF c = if c / 16 = st.val then false else s.on GRN_STATE.SELFREF c)

/-- WARMRST_N, PWR_RESET_CTL with its key and a Drill watchdog period without a kick each perform a package reset with
its cause bit: contexts, caches, queues, ledger and host functions are cleared, dirty cache lines discarded, the
Granary bytes, the timestamp and the island kept, every stack put in self-refresh, and the reset counted; while a
containing reset is in progress each only sets its cause. A wrong key does nothing, and an agent other than plot 0,
Reeve or (for KICK) Drill has its write dropped and logged; Drill kicks its own watchdog (R341), and an agent that is
itself held in reset writes nothing (log entry 64). A host-port reset sets HOST_PORT and, outside a containing reset,
detaches every function and disables the virtual functions; training may start once PORST_N is released and REFCLK
runs. Where the event cannot happen the state is unchanged (log entry 1). -/
def Obligations.PackageResetResults : Prop :=
  ∀ (s : State) (agent : Agent) (key : BitVec 16) (cause : HostResetCause),
    let resets := fun (i : Instr) (F : Fld) =>
      (s.inReset = true → exec i s = .next (s.setOn F 0 true)) ∧
      (s.inReset = false → answers i s fun u => u.on F 0 = true ∧
        u.f PWR_RESET_COUNT.COUNT 0 = min (s.f PWR_RESET_COUNT.COUNT 0 + 1) (max (s.f PWR_RESET_COUNT.COUNT 0) (2 ^ 32 - 1)) ∧
        u.threads = [] ∧ u.caches = {} ∧ u.drill = {} ∧ u.loops = [] ∧ u.host = {} ∧ u.links = [] ∧
        u.granary.mem = s.granary.mem ∧ u.now = s.now ∧ u.isl = s.isl ∧ u.on YK_STATUS.LEAD 0 = s.on YK_STATUS.LEAD 0 ∧
        (∀ c, c < 96 → u.on GRN_STATE.SELFREF c = true ∧ u.f GRN_STATE.MODE c = 0) ∧
        (∀ F ∈ Blk.DRL.fields ++ Blk.SOW.fields ++ Blk.HRW.fields ++ Blk.BND.fields ++ Blk.HST.fields,
          ∀ i, i < 2 ^ 20 → u.f F i = F.rst))
    let mayAsk := agent = .plot 0 ∨ agent = .reeve
    resets .warmrstN PWR_RESET_CAUSE.WARM_PIN ∧
    (s.acts agent = false → exec (.pkg agent key) s = .next s ∧ exec (.kick agent) s = .next s) ∧
    (s.acts agent = true → mayAsk → key = 0x4B31 → resets (.pkg agent key) PWR_RESET_CAUSE.SOFT) ∧
    (s.acts agent = true → mayAsk → key ≠ 0x4B31 → exec (.pkg agent key) s = .next s) ∧
    (s.acts agent = true → ¬mayAsk → exec (.pkg agent key) s = .next (s.writeDropped agent 0x08)) ∧
    (s.acts agent = true → mayAsk ∨ agent = .drill →
      exec (.kick agent) s = .next { s with clk := { s.clk with kickAt := s.now } }) ∧
    (s.acts agent = true → ¬mayAsk → agent ≠ .drill → exec (.kick agent) s = .next (s.writeDropped agent 0x14)) ∧
    (s.on PWR_WDOG_CFG.EN 0 = false ∨ s.since s.clk.kickAt < 100000 * s.f PWR_WDOG_CFG.PERIOD 0 →
      exec .drillWdog s = .next s) ∧
    (s.on PWR_WDOG_CFG.EN 0 = true → 100000 * s.f PWR_WDOG_CFG.PERIOD 0 ≤ s.since s.clk.kickAt → s.inReset = true →
      exec .drillWdog s =
        .next ({ s with clk := { s.clk with kickAt := s.now } }.setOn PWR_RESET_CAUSE.DRILL_WDOG 0 true)) ∧
    (s.on PWR_WDOG_CFG.EN 0 = true → 100000 * s.f PWR_WDOG_CFG.PERIOD 0 ≤ s.since s.clk.kickAt → s.inReset = false →
      answers .drillWdog s fun u => u.on PWR_RESET_CAUSE.DRILL_WDOG 0 = true ∧ u.threads = [] ∧ u.drill = {} ∧
        u.granary.mem = s.granary.mem ∧ u.isl = s.isl) ∧
    answers (.hostPortReset cause) s (fun u => u.on PWR_RESET_CAUSE.HOST_PORT 0 = true ∧
      (s.inReset = false → u.host.vfEnable = false ∧ u.host.numVfs = 0 ∧ u.vecs = [] ∧ u.cores = s.cores ∧
        u.granary = s.granary ∧ u.isl = s.isl) ∧
      (s.released = true → ∀ p, p < 512 → s.fnThere p = true → u.f HST_ATTACH.STATE p = 1)) ∧
    (s.live = false → exec .hostLinkTraining s = .next s) ∧
    (s.live = true →
      exec .hostLinkTraining s = .next { s with clk := { s.clk with perstLow := false, training := true } })

/-- PWR_TG_RESET from plot 0 or Reeve starts the thread-group reset of a core, unless a containing reset is in
progress or one of the core already is; another agent's write is dropped and logged. When the core has drained, or 1
ms has passed (logged 0x0010), its contexts, L1 caches, TLBs, merging buffer, tile fragments, silo and groups are
cleared, and its seedbox and lease kept; 4,096 cc after the drain the reset ends. A Function Level Reset of a function
that answers configuration requests resets its plot, of the physical function every plot, with the cause PF_FLR, and
of the recovery function its configuration space only; Drill resets a plot after an unrecoverable fault and logs
PLOT_FAULT (log entry 65). A plot reset disables the plot's queues, retires its ledger entries, closes its streams and
attaches its function; VF Enable clearing resets the plots of the enabled functions. A core that belongs to no lease
and whose threads have been parked for 1 ms is gated: contexts, L1 and merging buffer go, the seedbox stays, the tile
arrays become undefined; waking ends that. An agent held in reset asks nothing (log entry 64), and where the event
cannot happen the state is unchanged (log entry 1). -/
def Obligations.GroupAndPlotResetResults : Prop :=
  ∀ (s : State) (agent : Agent) (n : Cid) (p : Plot) (reason : BitVec 32),
    let mayAsk := agent = .plot 0 ∨ agent = .reeve
    let cleared := fun u : State => (∀ h, coreOf h = n.val → u.thread h = {}) ∧ (∀ h, coreOf h ≠ n.val →
        (u.thread h).pc = (s.thread h).pc ∧ (u.thread h).g = (s.thread h).g) ∧
      (u.core n).l1d = [] ∧ (u.core n).l1i = [] ∧ (u.core n).mbuf = [] ∧
      (u.core n).itlb = [] ∧ (u.core n).dtlb = [] ∧ (u.core n).tlb = [] ∧
      (u.core n).lease = (s.core n).lease ∧ u.seedbox = s.seedbox ∧ (u.tile n).queue = [] ∧ (u.tile n).frags = .zeroed ∧
      (u.tile n).silo = .zeroed ∧ (∀ g, g < 16 → u.on FUR_GRP.OPEN (grpInst n g) = false) ∧
      u.bitF FUR_LOCKSTAT.LOCKED (n / 8) (n % 8) = false ∧ u.granary.mem = s.granary.mem
    let reset := fun u : State => (∀ q, q < 8 → u.on DRL_Q_CFG.EN (8 * p.val + q) = false) ∧ u.openStreams p = [] ∧
      (∀ x ∈ u.drill.ledger, x.2.plot ≠ p.val) ∧ u.f HST_ATTACH.STATE p = 0 ∧ u.isl = s.isl
    (s.acts agent = false → exec (.threadGroupReset agent n) s = .next s) ∧
    (s.acts agent = true → ¬mayAsk → exec (.threadGroupReset agent n) s = .next (s.writeDropped agent 0x0C)) ∧
    (mayAsk → s.inReset = true ∨ (find n.val s.clk.tg).isSome = true → exec (.threadGroupReset agent n) s = .next s) ∧
    (s.acts agent = true → mayAsk → s.inReset = false → find n.val s.clk.tg = none → s.clk.plotReset = [] →
      exec (.threadGroupReset agent n) s = .next
        { s with clk := { s.clk with tg := put n.val (.draining s.now) s.clk.tg } }) ∧
    (∀ t, find n.val s.clk.tg = some (.draining t) →
      (s.drained n = false → exec (.tgDrainDone n) s = .next s) ∧
      (s.drained n = true → answers (.tgDrainDone n) s fun u => cleared u ∧
        find n.val u.clk.tg = some (.clearing s.clk.cc64)) ∧
      (s.since t < 100000 → exec (.tgDrainTimeout n) s = .next s) ∧
      (100000 ≤ s.since t → s.clk.plotReset = [] → answers (.tgDrainTimeout n) s fun u => cleared u ∧
        find n.val u.clk.tg = none ∧ s.logs u 0x0010 n noInst 0)) ∧
    (∀ t, find n.val s.clk.tg = some (.clearing t) →
      (s.clk.cc64 - t < 4096 * 64 → exec (.tgResetComplete n) s = .next s) ∧
      (4096 * 64 ≤ s.clk.cc64 - t → s.clk.plotReset = [] →
        exec (.tgResetComplete n) s = .next { s with clk := { s.clk with tg := drop n.val s.clk.tg } })) ∧
    (s.configReaches p = false → s.inReset = false → exec (.functionLevelReset p none) s = .next s) ∧
    (s.inReset = true → exec (.functionLevelReset p none) s =
      .next (if p.val = 0 then s.setOn PWR_RESET_CAUSE.PF_FLR 0 true else s)) ∧
    (s.configReaches p = true → s.inReset = false → s.recovering = false → s.clk.plotReset = [] → p.val ≠ 0 →
      answers (.functionLevelReset p none) s reset) ∧
    (s.configReaches p = true → s.inReset = false → s.recovering = false → s.clk.plotReset = [] → p.val = 0 →
      answers (.functionLevelReset p none) s fun u => reset u ∧ u.on PWR_RESET_CAUSE.PF_FLR 0 = true ∧
        u.host.vfEnable = false ∧ u.host.numVfs = 0) ∧
    (s.configReaches p = true → s.inReset = false → s.recovering = true → answers (.functionLevelReset p none) s fun u =>
      (u.fn p).master = false ∧ (u.fn p).msixEn = false ∧ (u.fn p).d3hot = false ∧ u.drill = s.drill ∧ u.regs = s.regs) ∧
    (s.released = false → exec (.functionLevelReset p (some reason)) s = .next s) ∧
    (s.released = true → s.clk.plotReset = [] → answers (.functionLevelReset p (some reason)) s reset) ∧
    (s.host.vfEnable = false ∨ s.released = false → exec .vfEnableClear s = .next s) ∧
    (s.host.vfEnable = true → s.released = true → s.configReaches 0 = true →
      answers .vfEnableClear s fun u => u.host.vfEnable = false) ∧
    (s.on DRL_STATUS.RUN 0 = true → (s.core n).gated = false → (s.core n).lease = none → find n.val s.clk.tg = none →
      (s.core n).mbuf = [] → 100000 ≤ s.since (s.core n).idleAt → (∀ h, coreOf h = n.val → (s.thread h).mode = .parked) →
      answers (.powerGate n) s fun u => (u.core n).gated = true ∧ (u.core n).l1d = [] ∧ (u.core n).l1i = [] ∧
        u.seedbox = s.seedbox) ∧
    ((s.core n).gated = false → exec (.coreWake n) s = .next s) ∧
    ((s.core n).gated = true → answers (.coreWake n) s fun u => (u.core n).gated = false ∧
      (∀ h, coreOf h = n.val → u.thread h = {}) ∧ u.seedbox = s.seedbox ∧ u.granary = s.granary)

/-- Once the root PLL has locked and while the boot ROM has not ended, BOOT_SEQUENCE ends in recovery with code 0x10
where no flash header is valid, 0x11 where the island accepts no safety slot, 0x12 where a type has no valid slot and
0x13 where no combination may run; an island or flash timeout ends it in recovery with 0x14 or 0x16. Elsewhere the
chosen images run: DONE is set without RECOVERY, the code is 0, 2 without a preference record, 3 with a spent trial or
0x15 where the island disagrees, the slots chosen are shown with their IDs, Drill runs with its watchdog armed, and an
island in its monitor takes the image just if it agrees. Where a header is valid, every one of these ends has written
a record with a trial first: its count raised and the watchdog armed at 2,000 ms, or the trial given up after three
starts. Each end logs BOOT_RESULT. A combination that is chosen has valid slots and runs by R57. The layout of header
and record is the model's (log entry 60), as are the ends where the boot ROM is not running (1, 63). -/
def Obligations.BootSequenceResults : Prop :=
  ∀ (s : State) (agrees : Bool),
    let p := s.pref
    let spent := p.trial ≠ 0 && decide (3 ≤ p.count)
    let r : PrefRec := if p.trial = 0 then p else
      if spent then { p with seq := (p.seq + 1) % 2 ^ 32, trial := 0, count := 0 }
      else { p with seq := (p.seq + 1) % 2 ^ 32, count := p.count + 1 }
    let s1 := s.prefStep
    let ends := fun (code : Nat) (recovery : Bool) (u : State) => u.f BT_STATUS.CODE 0 = code ∧
      u.on BT_STATUS.RECOVERY 0 = recovery ∧ u.on BT_STATUS.DONE 0 = true ∧
      { s with reeve := { s.reeve with setpoint := u.reeve.setpoint } }.logs u 0x0003 noInst noInst (u.regAt .BT 0x4 0)
    let stepped := fun u : State => u.f BT_UPDATE.PENDING 0 = r.trial % 16 ∧
      u.boot.flash = (if p.trial = 0 then s.boot.flash else (s.putPref r).boot.flash) ∧
      (r.trial ≠ 0 → u.f PWR_WDOG_CFG.PERIOD 0 = 2000 ∧ u.on PWR_WDOG_CFG.EN 0 = true ∧ u.clk.kickAt = s.now)
    (s.booting = false → ∀ i ∈ [Instr.bootSequence agrees, .bootIslandTimeout, .flashTimeout], exec i s = .next s) ∧
    (s.booting = true →
      answers .bootIslandTimeout s (fun u => ends 0x14 true u ∧ (s.headerFound = true → stepped u)) ∧
      answers .flashTimeout s (fun u => ends 0x16 true u ∧ (s.headerFound = true → stepped u)) ∧
      (s.headerFound = false → answers (.bootSequence agrees) s (ends 0x10 true)) ∧
      (s.headerFound = true → answers (.bootSequence agrees) s fun u => stepped u ∧
        match (candidates r 1).find? fun k => s1.slotValid 1 k with
        | none => ends 0x11 true u ∧ ∀ k ∈ candidates r 1, u.f (if k = 0 then BT_SLOT.A_RESULT else BT_SLOT.B_RESULT) 0 = 0xA
        | some sf =>
          u.f (if sf = 0 then BT_SLOT.A_RESULT else BT_SLOT.B_RESULT) 0 = 1 ∧
          match (s1.choose r sf [] 7).1 with
          | .noImage => ends 0x12 true u
          | .noCombination => ends 0x13 true u
          | .combo c =>
            ends (if !agrees then 0x15 else if s.prefs.isEmpty then 2 else if spent then 3 else 0) false u ∧
            u.on DRL_STATUS.RUN 0 = true ∧ u.on PWR_WDOG_CFG.EN 0 = true ∧
            (∀ n ∈ drillCores, ∀ h ∈ coreThreads n, (u.thread h).mode = .running) ∧
            (s.hs = hsMonitor → u.isl.image = agrees ∧ (agrees = true → u.hs = hsStartup)) ∧
            ∀ t ∈ [1, 2, 3, 4], let k := if t = 1 then sf else c.slot t
              u.f BT_SLOT.SEL (t - 1) = k % 2 ∧ u.f BT_SLOT.ID (t - 1) = imageId (s1.descriptor t k) % 2 ^ 16)) ∧
    ∀ sf bad k, match (s.choose r sf bad k).1 with
      | .combo c => s.comboRuns sf c = true ∧ ∀ t ∈ [2, 3, 4], s.slotValid t (c.slot t) = true
      | _ => True

/-- CLAIM by plot 0 or Reeve takes a free claim, keeps its own and sets DENIED on another's; RELEASE by the holder
frees it; no other agent does anything, nor one held in reset (log entry 64). A flash command of the holder starts
when none is in progress: a read always, a program or erase only outside what R69 protects, else PROTECTED is set.
FLASH_CMD_DONE ends it: a read fills the buffer with the page, a program clears the page bits that the buffer has
clear, an erase sets every byte of the block to 0xFF, and a failed one sets ERR and leaves free bytes; no byte outside
the page or block changes. BT_UPDATE with its key and no write in progress starts writing the record of its action
with the next sequence number, which PREF_WRITE_DONE places in the other block, with the package reset of RESTART; low
address bits and programming that only clears are the model's (log entry 61), a command where nothing may start leaves
the state (1); SVN_COMMIT raises the minima of the running images named, never lowers one, and does nothing while a
trial is pending. A command whose own condition fails leaves the state as it is: the model's choice,
notes/assumptions/1. -/
def Obligations.FlashAndUpdateResults : Prop :=
  ∀ (s : State) (agent : Agent) (ok restart : Bool) (key : BitVec 16) (types : BitVec 4) (a : Nat),
    let may := s.btUser agent = true
    let owner := s.f BT_FLASH_OWN.OWNER 0
    let busy := s.on BT_FLASH_STATUS.BUSY 0
    let starts := fun (i : Instr) (op unit : Nat) =>
      let at' := s.f BT_FLASH_ADDR.ADDR 0 / unit * unit
      (¬may ∨ s.holdsFlash agent = false ∨ busy = true → exec i s = .next s) ∧
      (may → s.holdsFlash agent = true → busy = false →
        if op ≠ 1 ∧ s.flashProtected at' = true then exec i s = .next (s.setOn BT_FLASH_STATUS.PROTECTED 0 true)
        else answers i s fun u => u.on BT_FLASH_STATUS.BUSY 0 = true ∧ u.boot.cmd = some ⟨op, at'⟩ ∧ u.boot.flash = s.boot.flash)
    let writes := fun (i : Instr) (f : PrefRec → PrefRec) =>
      (¬may ∨ key ≠ 0x5A17 ∨ s.on BT_UPDATE.BUSY 0 = true → exec i s = .next s) ∧
      (may → key = 0x5A17 → s.on BT_UPDATE.BUSY 0 = false → answers i s fun u => u.on BT_UPDATE.BUSY 0 = true ∧
        u.boot.prefWrite = some ({ f s.pref with seq := (s.pref.seq + 1) % 2 ^ 32, count := 0 }, restart))
    (¬may → exec (.claim agent) s = .next s) ∧
    (∀ k, may → btOwner agent = some k → exec (.claim agent) s = .next (if owner = 0 then s.setF BT_FLASH_OWN.OWNER 0 k else
      if owner = k then s else s.setOn BT_FLASH_OWN.DENIED 0 true)) ∧
    exec (.release agent) s = .next (if s.btUser agent && s.holdsFlash agent then s.setF BT_FLASH_OWN.OWNER 0 0 else s) ∧
    starts (.flashRead agent) 1 256 ∧ starts (.flashProgram agent) 2 256 ∧ starts (.flashErase agent) 3 0x10000 ∧
    (s.flashProtected a = true ↔ a < 0x80000 ∨ (s.on BT_STATUS.DONE 0 = true ∧ s.on BT_STATUS.RECOVERY 0 = false ∧
      ∃ t ∈ [1, 2, 3, 4], slotBase t (s.f BT_SLOT.SEL (t - 1)) ≤ a ∧ a < slotBase t (s.f BT_SLOT.SEL (t - 1)) + slotSize t)) ∧
    (s.boot.cmd = none → exec (.flashCmdDone ok) s = .next s) ∧
    (∀ c, s.boot.cmd = some c → answers (.flashCmdDone ok) s fun u =>
      let n := if c.op = 1 then 0 else if c.op = 2 then 256 else 0x10000
      u.on BT_FLASH_STATUS.BUSY 0 = false ∧ u.boot.cmd = none ∧
      (∀ b, b < c.addr ∨ c.addr + n ≤ b → u.flashRead b 1 = s.flashRead b 1) ∧
      (c.op = 1 → ∀ i, i < 64 → u.f BT_FLASH_BUF.DATA i = numAt (s.flashRead c.addr 256) (4 * i) 4) ∧
      (c.op = 2 → ok = true → u.flashRead c.addr 256 = andBytes (s.flashRead c.addr 256) s.flashBuf) ∧
      (c.op = 3 → ok = true → u.flashRead c.addr 0x10000 = List.replicate 0x10000 0xFF) ∧
      (c.op ≠ 1 → ok = false → u.on BT_FLASH_STATUS.ERR 0 = true)) ∧
    writes (.trial agent key types restart) (fun r => { r with trial := types.toNat }) ∧
    writes (.commit agent key restart) (fun r =>
      { r with trial := 0, active := (List.range 4).map fun i => r.active.getD i false != r.trial.testBit i }) ∧
    writes (.revert agent key restart) (fun r => { r with trial := 0 }) ∧
    (¬may ∨ key ≠ 0x5A17 ∨ s.on BT_UPDATE.BUSY 0 = true → exec (.restart agent key) s = .next s) ∧
    (may → key = 0x5A17 → s.on BT_UPDATE.BUSY 0 = false → answers (.restart agent key) s fun u =>
      u.on PWR_RESET_CAUSE.BOOT_RESTART 0 = true ∧ (s.inReset = false → u.threads = [] ∧ u.boot.flash = s.boot.flash)) ∧
    (s.boot.prefWrite = none → exec .prefWriteDone s = .next s) ∧
    (∀ r rs, s.boot.prefWrite = some (r, rs) → answers .prefWriteDone s fun u =>
      u.boot.flash = (s.putPref r).boot.flash ∧ (rs = false → u.on BT_UPDATE.BUSY 0 = false ∧ u.boot.prefWrite = none ∧
        u.f BT_UPDATE.PENDING 0 = r.trial % 16) ∧ (rs = true → u.on PWR_RESET_CAUSE.BOOT_RESTART 0 = true)) ∧
    (¬may ∨ key ≠ 0x5A17 ∨ s.f BT_UPDATE.PENDING 0 ≠ 0 → exec (.svnCommit agent key types) s = .next s) ∧
    (may → key = 0x5A17 → s.f BT_UPDATE.PENDING 0 = 0 → answers (.svnCommit agent key types) s fun u =>
      ∀ t, s.svnFloor t ≤ u.svnFloor t ∧ (types.toNat.testBit (t - 1) = true → ∀ v, (t, v) ∈ s.boot.svn → v ≤ u.svnFloor t) ∧
        (types.toNat.testBit (t - 1) = false → u.svnFloor t = s.svnFloor t))

/-- A write sets each rw field to its bits of the value where its encoding allows them, clears the w1c bits written as
1, leaves every other field of the register, and every other register and instance, as they are. A Device write from
an agent that is held, to a part that does not run, misaligned, to reserved space or to the fault log has no effect
(log entries 64, 69); one by an agent that R76 keeps out has none, but is logged where it aims at a PWR_ register
(R52); one to the clock, furrow-group and Sower registers sets the register it names. A write to a debug window of a
tile core sets its bytes. Through a BAR nothing happens while the link is down or where the function does not answer,
where a read gets Unsupported Request; a misaligned access is dropped and logged; in recovery BAR0 is the BT_ block. A
read of an MSI-X data word gets what the write before it left (R369). VF Enable takes 1 to 511 functions, Bus Master
Enable and the MSI-X Enable and Function Mask act where configuration requests arrive, and lifting the masks leaves
nothing pending on an unmasked vector; the recovery function has no SR-IOV and no MSI-X (R389). A command whose own
condition fails leaves the state as it is: the model's choice, notes/assumptions/1. -/
def Obligations.RegisterWriteResults : Prop :=
  (∀ (s : State) (r : RegDesc) (F : Fld) (i v : Nat), v < 2 ^ 32 → (r.fields.map (·.id)).Nodup → F ∈ r.fields →
    F.lo ≤ F.hi → F.hi < 32 →
    let bits := v / 2 ^ F.lo % 2 ^ F.width
    (s.writeReg r i v (2 ^ 32 - 1)).f F i = match F.acc with
      | .rw => if F.takes bits then bits else s.f F i
      | .w1c => s.f F i &&& (2 ^ F.width - 1 - bits)
      | _ => s.f F i) ∧
  (∀ (s : State) (r : RegDesc) (G : Fld) (i j v : Nat), (∀ F ∈ r.fields, G.key j ≠ F.key i) →
    (s.writeReg r i v (2 ^ 32 - 1)).f G j = s.f G j) ∧
  (∀ (s : State) (agent : Agent) (pa : BitVec 56) (wide : Bool) (x : BitVec 64),
    let a := pa.toNat
    let size := if wide then 8 else 4
    let runs := s.acts agent = true ∧ s.deviceRuns a = true ∧ a % size = 0
    let reach := runs ∧ reaches agent = true
    let w := exec (.registerWrite (.device agent pa) wide x) s
    (¬runs → w = .next s) ∧
    (runs → reaches agent = false → w = .next (match s.devAt a with
      | .reg .PWR _ _ off => s.writeDropped agent off
      | _ => s)) ∧
    (reach → s.region a = .device → s.devAt a = .reserved → w = .next s) ∧
    (∀ off, reach → s.region a = .device → s.devAt a = .log off → w = .next s) ∧
    (∀ b win off r k, reach → s.region a = .device → s.devAt a = .reg b [win] true off →
      (wide = false → b.locate win off = none → w = .next s) ∧
      (b ∈ [Blk.CLK, .FURG, .GRNG, .SOW] → b.locate win off = some (r, k, 0) →
        (wide = false → w = .next (s.writeReg r k (x.toNat % 2 ^ 32) (2 ^ 32 - 1))) ∧
        (wide = true → r.width = 64 → w = .next (s.writeReg r k x.toNat (2 ^ 64 - 1))))) ∧
    (reach → s.region a ≠ .device → (∀ c o, s.region a ≠ .silo c o ∧ s.region a ≠ .spill c o) → w = .next s) ∧
    (∀ m o, reach → s.region a = .silo m o → answers (.registerWrite (.device agent pa) wide x) s fun u =>
      (u.tile m).silo = (s.tile m).silo.write o (leBytes size x.toNat) ∧ (u.tile m).spill = (s.tile m).spill ∧ u.regs = s.regs) ∧
    (∀ m o, reach → s.region a = .spill m o → answers (.registerWrite (.device agent pa) wide x) s fun u =>
      (u.tile m).spill = (s.tile m).spill.write o (leBytes size x.toNat) ∧ (u.tile m).silo = (s.tile m).silo ∧ u.regs = s.regs)) ∧
  (∀ (s : State) (p : Plot) (q : BitVec 17) (wide : Bool) (x : BitVec 64),
    let size := if wide then 8 else 4
    let up := s.on HST_LINK.DL_UP 0 = true
    let bar := up ∧ s.barReaches p = true ∧ q.toNat % size = 0
    let w := exec (.registerWrite (.bar0 p q) wide x) s
    let r := exec (.registerWrite (.readBar0 p q) wide x) s
    (¬up ∨ s.barReaches p = false → w = .next s) ∧ (¬up → r = .next s) ∧
    (up → s.barReaches p = false → r = .next (s.barAnswer p none)) ∧
    (up → s.barReaches p = true → q.toNat % size ≠ 0 → w = .next (s.writeDropped (.plot p) q.toNat) ∧
      r = .next ((s.writeDropped (.plot p) q.toNat).barAnswer p none)) ∧
    (bar → s.recovering = false → (0x3000 ≤ q.toNat ∧ q.toNat < 0x10000) ∨
      (0x10000 ≤ q.toNat ∧ q.toNat < 0x20000 ∧ s.streamPlot ((q.toNat - 0x10000) / 32) ≠ p) → w = .next s) ∧
    (bar → s.recovering = true →
      w = .next (if q.toNat < 0x10000 then s.writeDev (.plot p) (0xF807000000 + q.toNat) wide x.toNat else s)) ∧
    (∀ k, bar → s.recovering = false → wide = false → k < vecCount p → q.toNat = 0x2000 + 16 * k + 8 →
      answers (.registerWrite (.bar0 p q) wide x) s fun u => (u.vec p k).data = x.toNat % 2 ^ 32 ∧
        exec (.registerWrite (.readBar0 p q) wide 0) u = .next (u.barAnswer p (some (x.toNat % 2 ^ 32))))) ∧
  (∀ (s : State) (q : BitVec 29) (wide : Bool) (x : BitVec 64),
    let size := if wide then 8 else 4
    let up := s.on HST_LINK.DL_UP 0 = true
    let bar := up ∧ s.barReaches 0 = true ∧ q.toNat % size = 0
    let w := exec (.registerWrite (.bar2 q) wide x) s
    (¬up ∨ s.barReaches 0 = false → w = .next s) ∧
    (up → s.barReaches 0 = true → q.toNat % size ≠ 0 → w = .next (s.writeDropped (.plot 0) q.toNat)) ∧
    (bar → bar2 q.toNat = none ∨ s.recovering = true → w = .next s ∧
      exec (.registerWrite (.readBar2 q) wide x) s = .next (s.barAnswer 0 none)) ∧
    (∀ a, bar → s.recovering = false → bar2 q.toNat = some a → w = .next (s.writeDev (.plot 0) a wide x.toNat))) ∧
  ∀ (s : State) (p : Plot) (wide en mk : Bool) (x : BitVec 64) (n k : Nat),
    let config := s.configReaches p = true
    exec (.registerWrite (.readId p) wide x) s = .next (if s.configReaches p then s.barAnswer p (some (0x1D2E +
      65536 * (if s.recovering then 0x4B1F else if p.val = 0 then 0x4B10 else 0x4B11))) else s) ∧
    exec (.registerWrite (.vfEnable n) wide x) s = .next (if s.configReaches 0 = true ∧ s.recovering = false ∧ 1 ≤ n ∧
      n ≤ 511 then { s with host := { s.host with vfEnable := true, numVfs := n } } else s) ∧
    (¬config → exec (.registerWrite (.busMaster p) wide x) s = .next s) ∧
    (config → answers (.registerWrite (.busMaster p) wide x) s fun u => (u.fn p).master = true ∧
      u.regs = s.regs ∧ ∀ j, j ≠ p.val → u.fn j = s.fn j) ∧
    (¬config ∨ s.recovering = true → exec (.registerWrite (.msix p en mk) wide x) s = .next s) ∧
    (config → s.recovering = false → answers (.registerWrite (.msix p en mk) wide x) s fun u =>
      (u.fn p).msixEn = en ∧ (u.fn p).msixMask = mk ∧ u.regs = s.regs ∧ (∀ j, j ≠ p.val → u.fn j = s.fn j) ∧
      (en = true → mk = false → k < vecCount p → (u.vec p k).pba = true → (u.vec p k).masked = true))

/-- On every thread that may run its next instruction, each operation of Table 5-8 but the divisions writes to gd the
value the table gives (with W: the 32-bit result on bits [31:0] of the sources, sign-extended), retires, and leaves
everything else as it was; SEL takes gs1 where p is 1 and gs2 where it is 0. -/
def Obligations.IntegerRegisterResults : Prop :=
  ∀ (h : Tid) (gd a b : Reg5) (p : Pred),
    let x := fun t : Thread => t.readG a
    let y := fun t : Thread => t.readG b
    let x32 := fun t : Thread => (t.readG a).setWidth 32
    let y32 := fun t : Thread => (t.readG b).setWidth 32
    let g := fun (v : Thread → Word) (t : Thread) => t.writeG gd (v t)
    let gw := fun (v : Thread → BitVec 32) (t : Thread) => t.writeG gd ((v t).signExtend 64)
    ranAs (.add h gd a b false) h (g fun t => x t + y t) ∧ ranAs (.add h gd a b true) h (gw fun t => x32 t + y32 t) ∧
    ranAs (.sub h gd a b false) h (g fun t => x t - y t) ∧ ranAs (.sub h gd a b true) h (gw fun t => x32 t - y32 t) ∧
    ranAs (.mul h gd a b false) h (g fun t => x t * y t) ∧ ranAs (.mul h gd a b true) h (gw fun t => x32 t * y32 t) ∧
    ranAs (.sll h gd a b false) h (g fun t => x t <<< (y t % 64)) ∧
    ranAs (.sll h gd a b true) h (gw fun t => x32 t <<< (y32 t % 32)) ∧
    ranAs (.srl h gd a b false) h (g fun t => x t >>> (y t % 64)) ∧
    ranAs (.srl h gd a b true) h (gw fun t => x32 t >>> (y32 t % 32)) ∧
    ranAs (.sra h gd a b false) h (g fun t => (x t).sshiftRight' (y t % 64)) ∧
    ranAs (.sra h gd a b true) h (gw fun t => (x32 t).sshiftRight' (y32 t % 32)) ∧
    ranAs (.ror h gd a b false) h (g fun t => x t >>> (y t % 64) ||| x t <<< ((64 - y t % 64) % 64)) ∧
    ranAs (.ror h gd a b true) h (gw fun t => x32 t >>> (y32 t % 32) ||| x32 t <<< ((32 - y32 t % 32) % 32)) ∧
    ranAs (.and h gd a b) h (g fun t => x t &&& y t) ∧ ranAs (.or h gd a b) h (g fun t => x t ||| y t) ∧
    ranAs (.xor h gd a b) h (g fun t => x t ^^^ y t) ∧ ranAs (.andn h gd a b) h (g fun t => x t &&& ~~~(y t)) ∧
    ranAs (.mulh h gd a b) h (g fun t => ((x t).signExtend 128 * (y t).signExtend 128).extractLsb' 64 64) ∧
    ranAs (.mulhu h gd a b) h (g fun t => ((x t).setWidth 128 * (y t).setWidth 128).extractLsb' 64 64) ∧
    ranAs (.min h gd a b) h (g fun t => if (x t).toInt ≤ (y t).toInt then x t else y t) ∧
    ranAs (.max h gd a b) h (g fun t => if (x t).toInt ≤ (y t).toInt then y t else x t) ∧
    ranAs (.minu h gd a b) h (g fun t => if (x t).toNat ≤ (y t).toNat then x t else y t) ∧
    ranAs (.maxu h gd a b) h (g fun t => if (x t).toNat ≤ (y t).toNat then y t else x t) ∧
    ranAs (.clz h gd a) h (g fun t => (x t).clz) ∧ ranAs (.ctz h gd a) h (g fun t => (x t).ctz) ∧
    ranAs (.popc h gd a) h (g fun t => (x t).cpop) ∧
    ranAs (.bswap h gd a) h (g fun t => (x t).extractLsb' 0 8 ++ (x t).extractLsb' 8 8 ++ (x t).extractLsb' 16 8 ++
      (x t).extractLsb' 24 8 ++ (x t).extractLsb' 32 8 ++ (x t).extractLsb' 40 8 ++ (x t).extractLsb' 48 8 ++
      (x t).extractLsb' 56 8) ∧
    ranAs (.sextb h gd a) h (g fun t => ((x t).setWidth 8).signExtend 64) ∧
    ranAs (.sexth h gd a) h (g fun t => ((x t).setWidth 16).signExtend 64) ∧
    ranAs (.sextw h gd a) h (g fun t => ((x t).setWidth 32).signExtend 64) ∧
    ranAs (.zextw h gd a) h (g fun t => ((x t).setWidth 32).setWidth 64) ∧
    ranAs (.sel h gd a b p) h (g fun t => if t.readP p then x t else y t)

/-- DIV and DIVU write the quotient rounded toward zero, REM and REMU the remainder with the sign of the dividend. By
zero the quotient has every bit set and the remainder is the dividend; the most negative value divided by −1 gives
that value and remainder zero; with W the same holds of the 32-bit operands before sign extension. -/
def Obligations.DivideResults : Prop :=
  ∀ (h : Tid) (gd a b : Reg5),
    let x := fun t : Thread => t.readG a
    let y := fun t : Thread => t.readG b
    let x32 := fun t : Thread => (t.readG a).setWidth 32
    let y32 := fun t : Thread => (t.readG b).setWidth 32
    let g := fun (v : Thread → Word) (t : Thread) => t.writeG gd (v t)
    let gw := fun (v : Thread → BitVec 32) (t : Thread) => t.writeG gd ((v t).signExtend 64)
    ranAs (.div h gd a b false) h (g fun t => if y t = 0 then BitVec.allOnes 64 else
      if x t = BitVec.intMin 64 ∧ y t = -1 then BitVec.intMin 64 else (x t).sdiv (y t)) ∧
    ranAs (.divu h gd a b false) h (g fun t => if y t = 0 then BitVec.allOnes 64 else x t / y t) ∧
    ranAs (.rem h gd a b false) h (g fun t => if y t = 0 then x t else
      if x t = BitVec.intMin 64 ∧ y t = -1 then 0 else (x t).srem (y t)) ∧
    ranAs (.remu h gd a b false) h (g fun t => if y t = 0 then x t else x t % y t) ∧
    ranAs (.div h gd a b true) h (gw fun t => if y32 t = 0 then BitVec.allOnes 32 else
      if x32 t = BitVec.intMin 32 ∧ y32 t = -1 then BitVec.intMin 32 else (x32 t).sdiv (y32 t)) ∧
    ranAs (.divu h gd a b true) h (gw fun t => if y32 t = 0 then BitVec.allOnes 32 else x32 t / y32 t) ∧
    ranAs (.rem h gd a b true) h (gw fun t => if y32 t = 0 then x32 t else
      if x32 t = BitVec.intMin 32 ∧ y32 t = -1 then 0 else (x32 t).srem (y32 t)) ∧
    ranAs (.remu h gd a b true) h (gw fun t => if y32 t = 0 then x32 t else x32 t % y32 t)

/-- On every thread that may run its next instruction, each instruction of Table 5-9 but BR, JAL and JALR writes the
value the table gives to gd or pd, retires, and leaves all else as it was. An immediate shift with W set and bit 5 of
its amount set raises ILLEGAL_OP with the instruction word; every other shift amount completes. BR goes to PC +
sext(disp) × 4 where p ≠ N and on to the next instruction elsewhere; JAL and JALR write PC + 4 and jump (branches and
JALR in a thread that is not traced: trace packets are another statement's). -/
def Obligations.ImmediateCompareBranchResults : Prop :=
  ∀ (h : Tid) (gd a : Reg5) (pd p q : Pred) (i16 : BitVec 16) (i15 : BitVec 15) (d21 : BitVec 21) (d22 : BitVec 22)
    (sh : BitVec 6) (b : Reg5) (n : Bool),
    let x := fun t : Thread => t.readG a
    let g := fun (v : Thread → Word) (t : Thread) => t.writeG gd (v t)
    let gw := fun (v : Thread → BitVec 32) (t : Thread) => t.writeG gd ((v t).signExtend 64)
    let pr := fun (v : Thread → Bool) (t : Thread) => t.writeP pd (v t)
    let jump := fun (i : Instr) (f : Thread → Thread) (target : Thread → Word) =>
      ∀ s : State, s.ready h = true → s.traced h = false →
        exec i s = .next (s.setThread h ((f (s.thread h)).retired (target (s.thread h))))
    ranAs (.addi h gd a i16) h (g fun t => x t + i16.signExtend 64) ∧
    ranAs (.andi h gd a i16) h (g fun t => x t &&& i16.setWidth 64) ∧
    ranAs (.ori h gd a i16) h (g fun t => x t ||| i16.setWidth 64) ∧
    ranAs (.xori h gd a i16) h (g fun t => x t ^^^ i16.setWidth 64) ∧
    ranAs (.cati h gd a i16) h (g fun t => (x t).setWidth 48 ++ i16) ∧
    ranAs (.adpc h gd d21) h (g fun t => t.pc + (d21.signExtend 64 : Word) * 256) ∧
    ranAs (.slli h gd a sh false) h (g fun t => x t <<< sh.toNat) ∧
    ranAs (.srli h gd a sh false) h (g fun t => x t >>> sh.toNat) ∧
    ranAs (.srai h gd a sh false) h (g fun t => (x t).sshiftRight sh.toNat) ∧
    ranAs (.rori h gd a sh false) h (g fun t => (x t).rotateRight sh.toNat) ∧
    (sh.toNat < 32 →
      ranAs (.slli h gd a sh true) h (gw fun t => (x t).setWidth 32 <<< sh.toNat) ∧
      ranAs (.srli h gd a sh true) h (gw fun t => (x t).setWidth 32 >>> sh.toNat) ∧
      ranAs (.srai h gd a sh true) h (gw fun t => ((x t).setWidth 32).sshiftRight sh.toNat) ∧
      ranAs (.rori h gd a sh true) h (gw fun t => ((x t).setWidth 32).rotateRight sh.toNat)) ∧
    (32 ≤ sh.toNat → ∀ s : State, s.ready h = true →
      ∀ k i, (k, i) ∈ [(0, Instr.slli h gd a sh true), (1, .srli h gd a sh true), (2, .srai h gd a sh true),
          (3, .rori h gd a sh true)] →
        exec i s = .next (s.fault h 0x03 (wordI 0x06 gd.val a.val (256 + 64 * k + sh.toNat)))) ∧
    ranAs (.cmp h pd a b .eq) h (pr fun t => x t = t.readG b) ∧
    ranAs (.cmp h pd a b .ne) h (pr fun t => x t ≠ t.readG b) ∧
    ranAs (.cmp h pd a b .lt) h (pr fun t => (x t).toInt < (t.readG b).toInt) ∧
    ranAs (.cmp h pd a b .ge) h (pr fun t => (t.readG b).toInt ≤ (x t).toInt) ∧
    ranAs (.cmp h pd a b .ltu) h (pr fun t => (x t).toNat < (t.readG b).toNat) ∧
    ranAs (.cmp h pd a b .geu) h (pr fun t => (t.readG b).toNat ≤ (x t).toNat) ∧
    ranAs (.cmp h pd a b .tst) h (pr fun t => x t &&& t.readG b ≠ 0) ∧
    ranAs (.cmpi h pd a i15 .eq) h (pr fun t => x t = i15.signExtend 64) ∧
    ranAs (.cmpi h pd a i15 .ne) h (pr fun t => x t ≠ i15.signExtend 64) ∧
    ranAs (.cmpi h pd a i15 .lt) h (pr fun t => (x t).toInt < i15.toInt) ∧
    ranAs (.cmpi h pd a i15 .ge) h (pr fun t => i15.toInt ≤ (x t).toInt) ∧
    ranAs (.cmpi h pd a i15 .ltu) h (pr fun t => (x t).toNat < (i15.signExtend 64).toNat) ∧
    ranAs (.cmpi h pd a i15 .geu) h (pr fun t => (i15.signExtend 64).toNat ≤ (x t).toNat) ∧
    ranAs (.cmpi h pd a i15 .tst) h (pr fun t => x t &&& i15.signExtend 64 ≠ 0) ∧
    ranAs (.pand h pd p q) h (pr fun t => t.readP p && t.readP q) ∧
    ranAs (.por h pd p q) h (pr fun t => t.readP p || t.readP q) ∧
    ranAs (.pxor h pd p q) h (pr fun t => t.readP p ^^ t.readP q) ∧
    ranAs (.pandn h pd p q) h (pr fun t => t.readP p && !t.readP q) ∧
    ranAs (.porn h pd p q) h (pr fun t => t.readP p || !t.readP q) ∧
    jump (.br h p n d22) id (fun t => if t.readP p ≠ n then t.pc + d22.signExtend 64 * 4 else t.pc + 4) ∧
    jump (.jal h gd d21) (fun t => t.writeG gd (t.pc + 4)) (fun t => t.pc + d21.signExtend 64 * 4) ∧
    jump (.jalr h gd a i16) (fun t => t.writeG gd (t.pc + 4)) (fun t => (x t + i16.signExtend 64) &&& ~~~3)

/-- A write of gd is read back unless gd is g0, which reads as zero and discards writes; a write of pd is read back
unless pd is p0, which reads as 1; a float register reads what was written; no other register of the context, and no
other context, changes. A retiring instruction adds 4 to PC and 1 to INSTRET modulo 2^64. For every CSR of Table 5-15
and a thread whose ring its columns allow, CSRRD, CSRSWP, CSRSET and CSRCLR return the old value in gd and write
nothing, gs1, old OR gs1, and old AND NOT gs1 (a write of TSTAT once no accepted tile instruction of the thread is
left). A number that is in no row (on a Drill core TSTAT and TCTL too, R99), or a write of a CSR without write rings,
raises ILLEGAL_OP; otherwise a ring outside the column raises RING_VIOLATION. No CSR write changes STATUS.RING; PTROOT
takes its rw bits, EPC all but bits 1:0. -/
def Obligations.ContextAndCsrResults : Prop :=
  (
  ∀ (s : State) (h k : Nat) (t : Thread) (r q : Reg5) (a b : Pred) (v : Word) (x : Bool),
    (s.setThread h t).thread k = (if k = h then t else s.thread k) ∧
    (t.writeG r v).readG q = (if q.val = 0 then 0 else if q = r then v else t.readG q) ∧
    (t.writeG r v).readF q = t.readF q ∧ (t.writeG r v).readP a = t.readP a ∧
    (t.writeF r v).readF q = (if q = r then v else t.readF q) ∧
    (t.writeF r v).readG q = t.readG q ∧ (t.writeF r v).readP a = t.readP a ∧
    (t.writeP a x).readP b = (if b.val = 0 then true else if b = a then x else t.readP b) ∧
    (t.writeP a x).readG q = t.readG q ∧ (t.writeP a x).readF q = t.readF q ∧
    t.next.pc = t.pc + 4 ∧ t.next.instret = (t.instret + 1) % 2 ^ 64 ∧
    t.next.readG q = t.readG q ∧ t.next.readF q = t.readF q ∧ t.next.readP a = t.readP a) ∧
  ∀ (s : State) (h : Tid) (gd gs1 : Reg5) (csr : BitVec 12), s.ready h = true →
    let t := s.thread h
    let old := s.csrRead h csr.toNat
    let rings := if 1024 ≤ h.val ∧ (csr = 0x100 ∨ csr = 0x101) then none else csrRings csr.toNat
    let word := fun (cmd : Nat) (g : Nat) => wordC gd.val g cmd csr.toNat
    let writes := [(1, Instr.csrswp h gd csr gs1, t.readG gs1), (2, .csrset h gd csr gs1, old ||| t.readG gs1),
      (3, .csrclr h gd csr gs1, old &&& ~~~(t.readG gs1))]
    (rings = none →
      exec (.csrrd h gd csr) s = .next (s.fault h 0x03 (word 0 0)) ∧
      ∀ x ∈ writes, exec x.2.1 s = .next (s.fault h 0x03 (word x.1 gs1.val))) ∧
    (∀ rd wr, rings = some (rd, wr) →
      (t.ring ≤ rd → exec (.csrrd h gd csr) s = .next (s.setThread h (t.writeG gd old).next)) ∧
      (rd < t.ring → exec (.csrrd h gd csr) s = .next (s.fault h 0x04 (word 0 0))) ∧
      (wr = none → ∀ x ∈ writes, exec x.2.1 s = .next (s.fault h 0x03 (word x.1 gs1.val))) ∧
      (∀ w, wr = some w →
        (rd < t.ring ∨ w < t.ring → ∀ x ∈ writes, exec x.2.1 s = .next (s.fault h 0x04 (word x.1 gs1.val))) ∧
        (t.ring ≤ rd → t.ring ≤ w → (csr.toNat = 0x100 → s.inflight h = 0) → ∀ x ∈ writes,
          exec x.2.1 s = .next (s.setThread h ((t.csrWrite csr.toNat x.2.2).writeG gd old).next)))) ∧
    (∀ v, (t.csrWrite csr.toNat v).ring = t.ring) ∧
    (∀ v, (t.csrWrite 0x180 v).ptroot = v &&& 0xFF8001FFFFFFF001 ∧ (t.csrWrite 0x011 v).epc = v &&& ~~~3 ∧
      (t.csrWrite 0x001 v).mlevel = v.toNat % 16)

/-- On a thread that may run its next instruction: NOP only retires. MSEND to a thread number above 1,023, or to a
core not leased to the sender's plot, raises STORE_FAULT with gs1; otherwise the post is on its way, and its delivery
appends it to the target's queue and sets pd, or finds 8 entries there, appends nothing and clears pd; a post that a
reset of its target discarded completes with pd free (R129). MRECV removes the oldest entry, writes payload and sender
and sets pd; on an empty queue it clears pd only. WAIT whose wake condition already holds retires at once; else the
thread waits, with a timeout where gs1 is nonzero; a queue entry or a pending event ends it, writing gd bits 0 and 1,
and the timeout sets bit 2; in the form of R327 (ring 0, gs1 = g0, GMASK 1) the thread exits. -/
def Obligations.MailboxAndWaitResults : Prop :=
  ∀ (s : State) (h : Tid) (gd gs1 gs2 : Reg5) (pd : Pred),
    let t := s.thread h
    let dst := (t.readG gs1).toNat
    ranAs (.nop h) h id ∧
    (s.ready h = true → 1023 < dst ∨ (s.core (coreOf dst)).lease ≠ some (s.plotOf h) →
      exec (.msend h gs1 gs2 pd) s = .next (s.fault h 0x06 (t.readG gs1))) ∧
    (s.ready h = true → dst ≤ 1023 → (s.core (coreOf dst)).lease = some (s.plotOf h) →
      exec (.msend h gs1 gs2 pd) s = .next (s.setThread h { t with hold := some (.msend dst (t.readG gs2) pd false) })) ∧
    (∀ (k : Nat) (v : Word), t.hold = some (.msend k v pd false) → k ≠ h →
      let u := s.thread k
      (u.mailbox.length < 8 → exec (.mailboxPostDelivery h) s =
        .next ((s.setThread k { u with mailbox := u.mailbox ++ [(v, h.val)] }).setThread h (t.writeP pd true).next)) ∧
      (8 ≤ u.mailbox.length →
        exec (.mailboxPostDelivery h) s = .next (s.setThread h (t.writeP pd false).next))) ∧
    (∀ (v : Word), t.hold = some (.msend h v pd false) → exec (.mailboxPostDelivery h) s = .next (s.setThread h
      (if t.mailbox.length < 8 then (({ t with mailbox := t.mailbox ++ [(v, h.val)] } : Thread).writeP pd true).next
        else (t.writeP pd false).next))) ∧
    (∀ (k : Nat) (v : Word), t.hold = some (.msend k v pd true) → answers (.mailboxPostDelivery h) s fun u =>
      (∀ j, j ≠ h → u.thread j = s.thread j) ∧ ∃ b, u.thread h = (t.writeP pd b).next) ∧
    (∀ m r, t.mailbox = m :: r → s.ready h = true → exec (.mrecv h gd pd) s =
      .next (s.setThread h ((({ t with mailbox := r, mbsrc := m.2 } : Thread).writeG gd m.1).writeP pd true).next)) ∧
    (t.mailbox = [] → s.ready h = true →
      exec (.mrecv h gd pd) s = .next (s.setThread h (t.writeP pd false).next)) ∧
    (s.ready h = true → ¬(t.ring = 0 ∧ gs1.val = 0 ∧ t.gmask = true) →
      (t.mailbox = [] → s.anyAsync h = false → exec (.wait h gd gs1) s = .next (s.setThread h { t with
        mode := .waiting, hold := some (.wait gd (t.readG gs1 ≠ 0) false), exited := false })) ∧
      (t.mailbox ≠ [] ∨ s.anyAsync h = true → exec (.wait h gd gs1) s = .next (s.setThread h
        { (t.writeG gd (BitVec.ofNat 64 ((if t.mailbox = [] then 0 else 1) + if s.anyAsync h then 2 else 0))).next with
          mode := .running }))) ∧
    (s.ready h = true → t.ring = 0 → gs1.val = 0 → t.gmask = true → answers (.wait h gd gs1) s fun u =>
      (u.thread h).mode = .waiting ∧ (u.thread h).exited = true ∧ (u.thread h).pc = t.pc ∧ ∀ j, j ≠ h → u.thread j = s.thread j) ∧
    (∀ timed, t.hold = some (.wait gd timed false) → s.coreRuns (coreOf h) = true → t.mailbox ≠ [] ∨ s.anyAsync h = true →
      exec (.waitWake h) s = .next (s.setThread h
        { (t.writeG gd (BitVec.ofNat 64 ((if t.mailbox = [] then 0 else 1) + if s.anyAsync h then 2 else 0))).next with
          mode := .running })) ∧
    (∀ x, t.hold = some (.wait gd true x) →
      exec (.waitTimeout h) s = .next (s.setThread h { t with hold := some (.wait gd true true) })) ∧
    (∀ timed, t.hold = some (.wait gd timed true) → s.coreRuns (coreOf h) = true → t.mailbox = [] → s.anyAsync h = false →
      exec (.waitWake h) s = .next (s.setThread h { (t.writeG gd 4).next with mode := .running }))

/-- A load whose address resolves to parts (one, or two across a line) that the core itself holds writes the bytes,
sign- or zero-extended to 64 bits (FLH and FLW with zero upper bits), to its destination and retires; a side-buffer
line that it hits moves into the L1D; nothing else changes. A load that misses the L1 waits for the line's fill, one
that overlaps a buffered store without being covered waits for the entries it marks, and one of which a part lies
outside the L1 waits for its transaction. A parity error of an L1D line that it reads removes the line. An address
that resolves to a fault raises it with the address. A store whose parts all lie in Normal, Local or direct-channel
memory enters the merging buffer part by part (with the L1 copies of Normal memory) and retires, where the buffer has
room and no L1D fill blocks it; another store is posted, oldest first, and retires where a transaction is free; an
address that resolves to a fault raises it with the address. After a part has entered the merging buffer, a load by
the same core of exactly those bytes sees them. An atomic whose address is aligned and resolves to Normal, Local or
Remote memory waits for its transaction: the entries of its line (all present entries in the release form) are marked
to drain, and the operation, address and operands are fixed. When its transaction completes at a Normal or Local
address in this package, the combined value is written at its coherence point and gd receives the old value,
sign-extended from 4 bytes in the narrow form. A misaligned address raises MISALIGNED. A completing load writes what
its parts bring. Poisoned data raise UNCORRECTABLE_LOAD, an address that nothing serves LOAD_FAULT or STORE_FAULT. -/
def Obligations.LoadStoreAtomicResults : Prop :=
  (
  ∀ (s : State) (h : Tid) (r gs1 : Reg5) (imm : BitVec 16), s.ready h = true → s.txnFree h = true →
    let n := coreOf h
    let va := (s.thread h).readG gs1 + imm.signExtend 64
    let look := s.partLook n false
    ∀ (i : Bool → Instr) len sg dest, (i, len, sg, dest) ∈ [(Instr.lb h r gs1 imm, 1, true, Dest.g r),
        (.lbu h r gs1 imm, 1, false, .g r), (.lh h r gs1 imm, 2, true, .g r), (.lhu h r gs1 imm, 2, false, .g r),
        (.lw h r gs1 imm, 4, true, .g r), (.lwu h r gs1 imm, 4, false, .g r), (.ld h r gs1 imm, 8, false, .g r),
        (.flh h r gs1 imm, 2, false, .f r), (.flw h r gs1 imm, 4, false, .f r), (.fld h r gs1 imm, 8, false, .f r)] →
      (∀ (ps : List Part) (bs : List (List Byte)), s.resolve h va len .load = .parts ps → ps.map look = bs.map PartLook.data →
        let v := if sg then (BitVec.ofNat (8 * bs.flatten.length) (leNat bs.flatten)).signExtend 64
          else BitVec.ofNat 64 (leNat bs.flatten)
        exec (i false) s =
          .next ((ps.foldl (fun s p => s.sideMove n (p.pa / 64)) s).modThread h fun t => (t.writeDest dest v).next)) ∧
      (∀ ps, s.resolve h va len .load = .parts ps → (∀ p ∈ ps, look p ≠ .busy ∧ look p ≠ .overlap) →
        ((∀ p ∈ ps, (look p).missed = none) → (∃ p ∈ ps, look p = .outside) → exec (i false) s = .next (s.modThread h fun t =>
          { t with hold := some (.load { va := va, parts := ps, dest := dest, signed := sg }) })) ∧
        ∀ line, ps.findSome? (fun p => (look p).missed) = some line → answers (i false) s fun u =>
          (u.core n).fill = some line ∧ u.thread h = { s.thread h with hold := some (.l1miss
            { va := va, parts := ps, dest := dest, signed := sg }) }) ∧
      (∀ ps, s.resolve h va len .load = .parts ps → (∃ p ∈ ps, look p = .overlap) → answers (i false) s fun u =>
        ∃ marked, u.thread h = { s.thread h with hold := some (.overlap
          { va := va, parts := ps, dest := dest, signed := sg } marked) } ∧
          ∀ e ∈ (u.core n).mbuf, e.num ∈ marked → e.closed = true) ∧
      (∀ ps, s.resolve h va len .load = .parts ps → ∀ p ∈ ps, mbKind? (s.region p.pa) p.pa p.uc = some .normal →
        s.den n = true → ((s.core n).l1dLine (p.pa / 64)).isSome = true → answers (i true) s fun u =>
          (u.core n).l1dLine (p.pa / 64) = none) ∧
      (∀ par code, s.resolve h va len .load = .fault code → exec (i par) s = .next (s.fault h code va))) ∧
  (
  ∀ (s : State) (h : Tid) (r gs1 : Reg5) (imm : BitVec 16), s.ready h = true →
    let n := coreOf h
    let t := s.thread h
    let va := t.readG gs1 + imm.signExtend 64
    let buffered := fun p : Part => (mbKind? (s.region p.pa) p.pa p.uc).isSome
    (∀ i len v, (i, len, v) ∈ [(Instr.sb h r gs1 imm, 1, t.readG r), (.sh h r gs1 imm, 2, t.readG r), (.sw h r gs1 imm, 4, t.readG r),
        (.sd h r gs1 imm, 8, t.readG r), (.fsh h r gs1 imm, 2, t.readF r), (.fsw h r gs1 imm, 4, t.readF r),
        (.fsd h r gs1 imm, 8, t.readF r)] →
      (∀ ps, s.resolve h va len .store = .parts ps → ps.all buffered = true → (s.core n).fill = none →
        ((s.storeParts h ps (leBytes len v.toNat)).core n).mbuf.length ≤ 16 →
        exec i s = .next ((s.storeParts h ps (leBytes len v.toNat)).modThread h (·.next))) ∧
      (∀ ps, s.resolve h va len .store = .parts ps → ps.all buffered = false → s.txnFree h = true →
        exec i s = .next (s.modThread h fun t => ({ t with posted := t.posted ++ ps.map fun p =>
          { pa := p.pa, bytes := leBytes len v.toNat, va := va } } : Thread).next)) ∧
      (∀ code, s.resolve h va len .store = .fault code → exec i s = .next (s.fault h code va))) ∧
    (∀ pa uc bytes, (mbKind? (s.region pa) pa uc).isSome = true → bytes ≠ [] → pa % 64 + bytes.length ≤ 64 →
      (∀ e ∈ (s.core n).mbuf, e.line = pa / 64 → e.data.length = 64) →
      (s.core n).mbOver (pa / 64) (maskOf (pa % 64) bytes.length) = [] →
      (s.storePart h pa uc bytes).partLook n false { pa := pa, len := bytes.length, uc := uc } = .data bytes)) ∧
  ∀ (s : State) (h : Tid) (gd gs1 gs2 : Reg5) (acq rel wide : Bool) (res : MemRes),
    let n := coreOf h
    let t := s.thread h
    let va := t.readG gs1
    let len := if wide then 8 else 4
    (s.ready h = true → ∀ i op, (i, op) ∈ [(Instr.atomicSwap h gd gs1 gs2 acq rel wide, AOp.swap),
        (.atomicAdd h gd gs1 gs2 acq rel wide, .add), (.atomicAnd h gd gs1 gs2 acq rel wide, .and),
        (.atomicOr h gd gs1 gs2 acq rel wide, .or), (.atomicXor h gd gs1 gs2 acq rel wide, .xor),
        (.atomicMin h gd gs1 gs2 acq rel wide, .min), (.atomicMax h gd gs1 gs2 acq rel wide, .max),
        (.atomicMinu h gd gs1 gs2 acq rel wide, .minu), (.atomicMaxu h gd gs1 gs2 acq rel wide, .maxu),
        (.atomicCas h gd gs1 gs2 acq rel wide, .cas)] →
      (va.toNat % len ≠ 0 → exec i s = .next (s.fault h 0x07 va)) ∧
      (∀ p ps, va.toNat % len = 0 → s.txnFree h = true → s.resolve h va len .store = .parts (p :: ps) →
        (∃ c l, s.region p.pa = .normal c l) ∨ (∃ m o, s.region p.pa = .seedbox m o) ∨ (∃ k l, s.region p.pa = .remote k l) →
        exec i s = .next ((if rel then s.markAll n else s.markLine n (p.pa / 64)).modThread h fun t =>
          { t with hold := some (.atomic
              { va := va, pa := p.pa, uc := p.uc, wide := wide, op := op, gd := gd, arg := t.readG gs2, cmp := t.readG gd, rel := rel
                upto := (s.core n).mbNext }) }))) ∧
    (∀ (a : AtomicOp) (old : Nat), let w := if a.wide then 64 else 32
      let o : BitVec w := BitVec.ofNat w old
      let v : BitVec w := BitVec.ofNat w a.arg.toNat
      a.result old = (match a.op with
        | .swap => some v.toNat | .add => some (o + v).toNat | .and => some (o &&& v).toNat | .or => some (o ||| v).toNat
        | .xor => some (o ^^^ v).toNat
        | .min => some (if o.toInt ≤ v.toInt then o else v).toNat | .max => some (if o.toInt ≤ v.toInt then v else o).toNat
        | .minu => some (if o.toNat ≤ v.toNat then o else v).toNat | .maxu => some (if o.toNat ≤ v.toNat then v else o).toNat
        | .cas => if o = BitVec.ofNat w a.cmp.toNat then some v.toNat else none) ∧
      a.old old = o.signExtend 64) ∧
    (∀ a : AtomicOp, t.nextPosted = none → s.locked n = false → t.hold = some (.atomic a) → s.atomicReady h a = true →
      s.readHeld (furrowOf n) a.pa a.uc = false → (∃ c l, s.region a.pa = .normal c l) ∨ (∃ m o, s.region a.pa = .seedbox m o) →
      let bytes := if a.wide then 8 else 4
      match s.lineRead (furrowOf n) a.pa bytes a.uc 0 res with
      | (.data b, u) =>
        let w := match a.result (leNat b) with
          | none => u
          | some v => (u.lineWrite (furrowOf n) (a.pa / 64) (maskOf (a.pa % 64) bytes)
              (List.replicate (a.pa % 64) 0 ++ leBytes bytes v) a.uc none .ok).2
        exec (.memoryTransactionComplete h res) s = .next (w.modThread h fun t => (t.writeG a.gd (a.old (leNat b))).next)
      | (.poison, u) => exec (.memoryTransactionComplete h res) s = .next (u.modThread h fun t => t.fault 0x11 a.va)
      | (.decode, u) => exec (.memoryTransactionComplete h res) s = .next (u.modThread h fun t => t.fault 0x06 a.va)) ∧
    (∀ l : LoadOp, t.nextPosted = none → t.hold = some (.load l) →
      match s.loadParts h l.past res l.parts [] with
      | (.data b, u) => exec (.memoryTransactionComplete h res) s = .next (u.modThread h fun t => (t.writeDest l.dest
          (if l.signed then (BitVec.ofNat (8 * b.length) (leNat b)).signExtend 64 else BitVec.ofNat 64 (leNat b))).next)
      | (.decode, u) => exec (.memoryTransactionComplete h res) s = .next (u.fault h 0x05 l.va)
      | (.poison, u) => exec (.memoryTransactionComplete h res) s = .next (u.fault h 0x11 l.va)
      | _ => True)

/-- A thread that runs, with a cause raised and DFA 0, enters the handling ring d (the raising ring for ILLEGAL_OP,
MISALIGNED, TILE_SHAPE, TILE_ARITH and SILO_GROUP, else ring 0) when the cause is asynchronous, TRAP, or unmasked: the
frame of Table 7-2 is pushed below XSPd, CAUSE, EPC, EADDR and g31 are written, and execution goes on at ENTRYd
(premises: the push succeeds, the handler can be fetched, trace does not stall). TRAP n does the same at once with
cause 8, INFO n and the return address after TRAP, and leaves MLEVEL. A thread that may run takes the fault that
fetching and decoding its instruction finds the same way, and an instruction without one is not touched. The premise
that no walker is missing is of R146 (log entries 13, 67). With DFA 0, a synchronous fault that GMASK or MLEVEL masks
takes the double-fault path with MASKED_FAULT, and one whose frame push faults takes it with XSP_INVALID: CAUSE holds
the double-fault code with the current ring as FROM and LEVEL 0, EPC the return address, EADDR the original EADDR or
the frame address, XSP0 is DFSP, STATUS.RING 0, DFA and GMASK 1, MLEVEL 15, and execution goes on at DFENTRY. With DFA
1 a fault is a third fault: under the lockup policy every thread of the core is halted and its FUR_LOCKSTAT bit is
set, under the reset policy a thread-group reset of the core has begun, unless a plot reset already holds the core. A
command whose own condition fails leaves the state as it is: the model's choice, notes/assumptions/1. -/
def Obligations.ExceptionAndDoubleFaultEntry : Prop :=
  (
  ∀ (s : State) (h : Tid) (x : Exc) (res ent : MemRes) (n : BitVec 8),
    let frame := fun (t : Thread) (y : Exc) (img : Word) =>
      leBytes 8 y.epc.toNat ++ leBytes 8 (t.ring + (if t.gmask then 4 else 0) + t.mlevel * 16) ++ leBytes 8 img.toNat ++
      leBytes 8 y.eaddr.toNat ++ leBytes 8 (t.readG 30).toNat ++ leBytes 8 (t.readG 31).toNat ++ List.replicate 16 0
    let image := fun (t : Thread) (y : Exc) => BitVec.ofNat 64 (t.ring * 2 ^ 28 + levelOf y.code * 2 ^ 24 +
      (if y.code = 0x0C ∨ 0x40 ≤ y.code then 2 ^ 23 else 0) + y.info * 256 + y.code)
    let ring := fun (t : Thread) (y : Exc) => if y.code ∈ [0x03, 0x07, 0x0A, 0x0B, 0x10] then t.ring else 0
    let unmasked := fun (t : Thread) (y : Exc) =>
      y.code = 0x0C ∨ 0x40 ≤ y.code ∨ y.code = 0x08 ∨ (t.gmask = false ∧ t.mlevel < levelOf y.code)
    let enters := fun (a : State) (y : Exc) (i : Instr) =>
      let t := a.thread h; let d := ring t y
      t.dfa = false → unmasked t y → a.entryWaits h y = false → match a.pushFrame h d (frame t y (image t y)) res with
      | (none, _) => True
      | (some sp, b) => ((((b.modThread h fun u => u.entered y (image t y) sp d).trExcept h t.ring y.code (t.entryOf d)).trRescan h).fetchOk h
        (t.entryOf d) ent).1 = true →
      answers i s fun u => let v := u.thread h
        sp = t.xspOf d - 64 ∧ v.cause = image t y ∧ v.epc = y.epc ∧ v.eaddr = y.eaddr ∧ v.ring = d ∧ v.pc = t.entryOf d ∧
        v.xspOf d = sp ∧ v.readG 31 = sp ∧ v.raised = none ∧ v.hold = none ∧ v.dfa = false ∧ v.gmask = t.gmask ∧
        v.mlevel = (if d = 0 ∧ y.code ≠ 0x08 ∧ y.code ∉ [0x03, 0x07, 0x0A, 0x0B, 0x10] then levelOf y.code else t.mlevel) ∧
        ∀ k, k ≠ h.val → u.thread k = s.thread k
    s.on GLN_TRC_CTL.STALL 0 = false →
    (s.coreRuns (coreOf h) = true → (s.thread h).mode = .running → (s.thread h).raised = some x →
      enters s x (.exceptionEntry h none res ent)) ∧
    (∀ r, s.ready h = true → s.walkWaits h (s.thread h).ring (s.thread h).pc .fetch = false →
      match s.fetchExc h r with
      | (none, _) => exec (.exceptionEntry h (some r) res ent) s = .next s
      | (some y, a) => enters a y (.exceptionEntry h (some r) res ent)) ∧
    let y : Exc := { code := 0x08, epc := (s.thread h).pc + 4, eaddr := 0, info := n.toNat }
    (s.ready h = true → s.entryWaits h y = false → enters (s.setThread h (s.thread h).next) y (.trap h n res ent))) ∧
  ∀ (s : State) (h : Tid) (x : Exc) (res ent : MemRes),
    let t := s.thread h
    let n := coreOf h
    let dfImage := fun code : Nat => BitVec.ofNat 64 (t.ring * 2 ^ 28 + code)
    let doubled := fun (u : State) (code : Nat) (eaddr : Word) => let v := u.thread h
      v.cause = dfImage code ∧ v.epc = x.epc ∧ v.eaddr = eaddr ∧ v.xspOf 0 = t.dfsp ∧ v.ring = 0 ∧ v.dfa = true ∧
      v.gmask = true ∧ v.mlevel = 15 ∧ v.pc = t.dfentry ∧ v.raised = none ∧ ∀ k, k ≠ h.val → u.thread k = s.thread k
    s.on GLN_TRC_CTL.STALL 0 = false → s.coreRuns n = true → t.mode = .running → t.raised = some x →
    (t.dfa = false → x.code ≠ 0x0C → x.code < 0x40 → x.code ≠ 0x08 → t.gmask = true ∨ levelOf x.code ≤ t.mlevel →
      answers (.exceptionEntry h none res ent) s fun u => doubled u 0x0E x.eaddr) ∧
    (t.dfa = false → x.code = 0x0C ∨ 0x40 ≤ x.code ∨ x.code = 0x08 ∨ (t.gmask = false ∧ t.mlevel < levelOf x.code) →
      let d := handlingRing x.code t.ring
      s.entryWaits h x = false → (s.pushFrame h d (t.frame x.epc (causeImage t.ring (levelOf x.code) (isAsync x.code) x.info x.code) x.eaddr) res).1 = none →
      answers (.exceptionEntry h none res ent) s fun u => doubled u 0x0D (t.xspOf d - 64)) ∧
    (t.dfa = true → t.lockpol = true → answers (.exceptionEntry h none res ent) s fun u =>
      (∀ k, k / 8 = n → (u.thread k).mode = .halted) ∧ u.locked n = true) ∧
    (t.dfa = true → t.lockpol = false → (s.core n).lease.any (s.clk.plotReset.contains ·) = false → answers (.exceptionEntry h none res ent) s fun u =>
      find n u.clk.tg = some (.draining s.now) ∧ (u.thread h).pc = t.pc ∧ (u.thread h).dfa = true)

/-- On a thread that may run its next instruction: GATE n of a valid entry that the ring may call pushes a frame with
CODE 0 and INFO n at XSP of the entry's ring, sets that ring, continues at TARGET, and leaves MLEVEL and GMASK; an n
at or above GATECNT, an entry that cannot be read and one that the ring may not call raise GATE_FAULT, and a push that
faults is XSP_INVALID. XRET restores PC, the ring, g30, g31 and XSP + 64 from the frame (GMASK and MLEVEL in ring 0
only), or raises RING_VIOLATION for a lower ring; a frame that cannot be read is a DOUBLE_FAULT. DRET in ring 0 with
DFA 1 restores from the double-fault record and clears DFA; with DFA 0 it raises ILLEGAL_OP, in another ring
RING_VIOLATION; XRET with DFA 1 is ILLEGAL_OP, and GATE raises what is then a third fault. BRK halts its thread with
PC at the BRK where debug is enabled for the core, else raises ILLEGAL_OP. EVENT_DELIVERY raises the event that is due
in a thread with nothing in progress and clears its pending bit; XPEND_CANCEL by an agent that R76 lets in and that
runs (log entry 64) clears the sources written 1. A command whose own condition fails leaves the state as it is: the
model's choice, notes/assumptions/1. -/
def Obligations.ReturnGateAndBreakResults : Prop :=
  ∀ (s : State) (h : Tid) (n : BitVec 8) (agent : Agent) (mask : BitVec 4) (res push : MemRes),
    let t := s.thread h
    let entry := t.gatebase + BitVec.ofNat 64 (16 * n.toNat)
    let img := BitVec.ofNat 64 (t.ring * 2 ^ 28 + n.toNat * 256)
    let dbg := s.bitF GLN_DBGEN.CORES (coreOf h / 32) (coreOf h % 32)
    let r64 := fun (b : List Byte) (off : Nat) => BitVec.ofNat 64 (leNat ((b.drop off).take 8))
    (s.ready h = true → t.dfa = false → t.gatecnt ≤ n.toNat → exec (.gate h n res push) s = .next (s.setThread h { t with
      raised := some { code := 0x09, epc := t.pc, eaddr := entry, info := n.toNat } })) ∧
    (s.ready h = true → s.on GLN_TRC_CTL.STALL 0 = false → t.dfa = false → n.toNat < t.gatecnt → canonical t.gatebase = true →
      s.walkWaits h 0 entry .load = false → match s.gateEntry h entry res with
      | (none, _) => answers (.gate h n res push) s fun u => (∀ k, k ≠ h.val → u.thread k = s.thread k) ∧
          u.thread h = { t with raised := some { code := 0x09, epc := t.pc, eaddr := entry, info := n.toNat } }
      | (some (target, flags), a) => if gateOk target flags t.ring then
          a.walkWaits h (flags % 4) (t.xspOf (flags % 4) - 64) .store = false → answers (.gate h n res push) s fun u => let v := u.thread h
            (∀ k, k ≠ h.val → u.thread k = s.thread k) ∧
            match a.pushFrame h (flags % 4) (t.frame (t.pc + 4) img 0) push with
            | (some sp, _) => v.pc = BitVec.ofNat 64 target ∧ v.ring = flags % 4 ∧ v.xspOf (flags % 4) = sp ∧ v.gmask = t.gmask ∧
              v.mlevel = t.mlevel ∧ v.dfa = false ∧ v.instret = (t.instret + 1) % 2 ^ 64
            | (none, _) => v.pc = t.dfentry ∧ v.ring = 0 ∧ v.dfa = true ∧ v.epc = t.pc + 4 ∧ v.eaddr = t.xspOf (flags % 4) - 64 ∧
              v.cause = BitVec.ofNat 64 (t.ring * 2 ^ 28 + 0x0D)
        else answers (.gate h n res push) s fun u => (∀ k, k ≠ h.val → u.thread k = s.thread k) ∧ u.thread h = { t with
          raised := some { code := 0x09, epc := t.pc, eaddr := entry, info := n.toNat } }) ∧
    (s.ready h = true → s.on GLN_TRC_CTL.STALL 0 = false → t.dfa = false → s.walkWaits h t.ring (t.xspOf t.ring) .load = false →
      answers (.xret h res) s fun u => let v := u.thread h
        (∀ k, k ≠ h.val → u.thread k = s.thread k) ∧ match s.readFrame h res with
        | (.inl _, _) => v.pc = t.dfentry ∧ v.ring = 0 ∧ v.dfa = true ∧ v.epc = t.pc ∧ v.cause = BitVec.ofNat 64 (t.ring * 2 ^ 28 + 0x0F)
        | (.inr b, _) => let status := leNat ((b.drop 8).take 8)
          if status % 4 < t.ring then
            v = { t with raised := some { code := 0x04, epc := t.pc, eaddr := wordX 0 0 0 0 0x03 }, hold := none }
          else v.pc = r64 b 0 &&& ~~~3 ∧ v.ring = status % 4 ∧ v.readG 30 = r64 b 32 ∧ v.readG 31 = r64 b 40 ∧
            v.xspOf t.ring = t.xspOf t.ring + 64 ∧ v.gmask = (if t.ring = 0 then status.testBit 2 else t.gmask) ∧
            v.mlevel = (if t.ring = 0 then status / 16 % 16 else t.mlevel)) ∧
    (s.ready h = true → t.dfa = true → exec (.xret h res) s = .next (s.fault h 0x03 (wordX 0 0 0 0 0x03)) ∧
      exec (.gate h n res push) s = .next (s.setThread h { t with
        raised := some { code := 0, epc := t.pc + 4, eaddr := 0, info := n.toNat } })) ∧
    (s.ready h = true → t.dfa = true → t.ring ≠ 0 → exec (.dret h) s = .next (s.fault h 0x04 (wordX 0 0 0 0 0x04))) ∧
    (s.ready h = true → t.dfa = false → exec (.dret h) s = .next (s.fault h 0x03 (wordX 0 0 0 0 0x04))) ∧
    (s.ready h = true → s.on GLN_TRC_CTL.STALL 0 = false → t.dfa = true → t.ring = 0 → let b := s.dfRead h
      answers (.dret h) s fun u => let v := u.thread h
        v.pc = r64 b 0x10 &&& ~~~3 ∧ v.ring = leNat ((b.drop 0x20).take 8) % 4 ∧
        v.gmask = (leNat ((b.drop 0x20).take 8)).testBit 2 ∧ v.mlevel = leNat ((b.drop 0x20).take 8) / 16 % 16 ∧
        v.xspOf 0 = r64 b 0x30 ∧ v.dfa = false ∧ ∀ k, k ≠ h.val → u.thread k = s.thread k) ∧
    (s.ready h = true → dbg = true → answers (.brk h) s fun u =>
      u.thread h = { t with mode := .halted, stepping := false } ∧ ∀ k, k ≠ h.val → u.thread k = s.thread k) ∧
    (s.ready h = true → dbg = false → exec (.brk h) s = .next (s.fault h 0x03 (wordX 0 0 0 0 0x08))) ∧
    (s.coreRuns (coreOf h) = true → t.mode = .running → t.raised = none → t.haltReq = false → t.exited = false →
      t.hold = none → match s.asyncDue h with
      | none => exec (.eventDelivery h) s = .next s
      | some (code, _) => answers (.eventDelivery h) s fun u =>
        u.thread h = { t with raised := some { code := code, epc := t.pc, eaddr := 0 } } ∧ u.asyncPending h code = false ∧
        (∀ c ∈ [0x0C, 0x40, 0x41, 0x42, 0x43], c ≠ code → u.asyncPending h c = s.asyncPending h c) ∧
        ∀ k, k ≠ h.val → u.thread k = s.thread k) ∧
    (s.acts agent = true → reaches agent = true → answers (.xpendCancel agent h mask) s fun u =>
      u.f FUR_XPEND.SRC h = s.f FUR_XPEND.SRC h &&& (15 - mask.toNat) ∧ u.threads = s.threads)

/-- On a thread that may run its next instruction, a fence waits for what Table 4-7 names: every fence but FENCE.ACQ
marks the core's merging-buffer entries to drain. FENCE_COMPLETE retires it once those accesses are complete, and
IFENCE then empties the core's L1I; before that it changes nothing. TLBI in ring 0 removes from the core's TLBs (the
ITLB, the DTLB and the second level) the entries of the thread's plot that cover gs1's address (all of the plot's for
TLBI.PLOT) and no other; the broadcast forms wait, and TLBI_ACKNOWLEDGE removes them from the thread's core and every
core leased to the plot and retires. In another ring each raises RING_VIOLATION. A command whose own condition fails
leaves the state as it is: the model's choice, notes/assumptions/1. -/
def Obligations.FenceAndTlbResults : Prop :=
  ∀ (s : State) (h : Tid) (gs1 : Reg5),
    let n := coreOf h
    let t := s.thread h
    let plot := t.plotTag
    let tlbs := fun (c : Core) => [c.itlb, c.dtlb, c.tlb]
    let goes := fun (e : TlbEntry) (va : Option Word) => e.plot = plot && match va with
      | none => true
      | some a => a.toNat % 2 ^ 56 / 2 ^ e.span = e.base
    (s.ready h = true → ∀ i kind, (i, kind) ∈ [(Instr.fenceAcq h, FenceKind.acq), (.fenceRel h, .rel), (.fencePkg h, .pkg),
        (.fenceAcre h, .acre), (.fenceHost h, .host), (.ifence h, .ifence)] →
      let m := if kind = .acq then s else s.markAll n
      exec i s = .next (m.modThread h fun t => { t with hold := some (.fence kind (s.core n).mbNext) })) ∧
    (∀ e ∈ ((s.markAll n).core n).mbuf, e.closed = true) ∧
    (match t.hold with
    | some (.fence kind upto) =>
      (s.fenceDone h kind upto = false → exec (.fenceComplete h) s = .next s) ∧
      (s.fenceDone h kind upto = true → exec (.fenceComplete h) s = .next
        ((if kind = .ifence then s.setCore n { s.core n with l1i := [] } else s).modThread h (·.next)))
    | _ => True) ∧
    (s.ready h = true → t.ring = 0 → ∀ i va, (i, va) ∈ [(Instr.tlbiVa h gs1, some (t.readG gs1)), (.tlbiPlot h, none)] →
      answers i s fun u => tlbs (u.core n) = (tlbs (s.core n)).map (·.filter fun e => ¬goes e va) ∧ u.thread h = t.next ∧
        ∀ k, k ≠ n → u.core k = s.core k) ∧
    (s.ready h = true → t.ring = 0 →
      ∀ i va, (i, va) ∈ [(Instr.tlbiVaB h gs1, some (t.readG gs1)), (.tlbiPlotB h, none)] →
        exec i s = .next (s.setThread h { t with hold := some (.tlbi va) })) ∧
    (match t.hold with
    | some (.tlbi va) => answers (.tlbiAcknowledge h) s fun u => u.thread h = t.next ∧
      (∀ k : Cid, (k.val = n ∨ (s.core k).lease = some plot) →
        tlbs (u.core k) = (tlbs (s.core k)).map (·.filter fun e => ¬goes e va)) ∧
      ∀ k : Cid, k.val ≠ n → (s.core k).lease ≠ some plot → u.core k = s.core k
    | _ => True) ∧
    (s.ready h = true → t.ring ≠ 0 → ∀ i w, (i, w) ∈ [(Instr.tlbiVa h gs1, wordX 0 gs1 0 0 0x18),
        (.tlbiVaB h gs1, wordX 0 gs1 0 0 0x19), (.tlbiPlot h, wordX 0 0 0 0 0x1A), (.tlbiPlotB h, wordX 0 0 0 0 0x1B)] →
      exec i s = .next (s.fault h 0x04 w))

/-- On a thread that may run its next instruction, CMO by set and way in ring 0, and by address within the Granary
memory region, has the effect of Table 8-2 on the cache it names and retires, where no merging-buffer entry concerns
its line and neither the L1 port nor a channel keeps it; by address outside that region it only retires; on a failed
translation it raises LOAD_FAULT, and INV on the furrow cache or by set and way outside ring 0 raises RING_VIOLATION.
PF of a line that the core lacks asks for it and retires; any other PF, and one whose translation fails, only retires.
IINV and DINV make the L1 busy, and L1_INVALIDATE_DONE empties what they named and lets DEN and IEN become 1 where
their write asked so. L1_ENABLE_WRITE sets IEN, and DEN, at once or after the fill in progress. RANGE_GO starts an
idle engine, records ERR for an illegal action or range and IGNORED while busy; RANGE_DONE ends it with its count.
OPEN_ENTRY_TIMEOUT closes the oldest open entry. FURROW_SCRUB goes to the next set; a dirty way in error becomes
poisoned. Where an agent cannot act nothing happens (notes/assumptions/64). -/
def Obligations.CacheMaintenanceResults : Prop :=
  (∀ (s : State) (h : Tid) (gs1 : Reg5) (target : CmoTarget) (wb : MemRes),
    let c := coreOf h
    let t := s.thread h
    let cmos := fun (sw : Bool) => [(Instr.cmoInvalidate h gs1 target sw, CmoAction.invalidate, MemRes.ok),
      (.cmoClean h gs1 target sw wb, .clean, wb), (.cmoCleanInvalidate h gs1 target sw wb, .cleanInvalidate, wb)]
    let marked := fun (s : State) (l : Option Nat) => match l with
      | some l => s.markLine c l
      | none => s
    let free := fun (l : Option Nat) => (∀ x, l = some x → (s.core c).mbuf.any (fun e => e.line = x) = false) ∧
      (target ≠ .fc → (s.core c).fill = none) ∧ (target = .fc → ∀ x, l = some x → s.accessHeld (x * 64) = false)
    (s.ready h = true → t.ring = 0 → ∀ x ∈ cmos true,
      let op : CmoOp := { target := target, action := x.2.1, setWay := true, arg := (t.readG gs1).toNat }
      let l := s.cmoLine c op
      free l → exec x.1 s = .next (s.withRes x.2.2 fun s => ((marked s l).cmoAct c op).completes h (·.next))) ∧
    (s.ready h = true → s.txnFree h = true → match s.look h (t.readG gs1) .load with
      | .pa pa leaf => s.denied h t.ring .load pa leaf = false →
        (∀ x ∈ cmos false, t.ring = 0 ∨ x.2.1 ≠ .invalidate ∨ target ≠ .fc →
          (granarySpan ≤ pa → exec x.1 s = .next (s.setThread h t.next)) ∧
          (pa < granarySpan → free (some (pa / 64)) → exec x.1 s = .next (s.withRes x.2.2 fun s =>
            ((s.markLine c (pa / 64)).cmoAct c { target := target, action := x.2.1, setWay := false, arg := pa }).completes h
              (·.next))))
      | .bad => ∀ x ∈ cmos false, t.ring = 0 ∨ x.2.1 ≠ .invalidate ∨ target ≠ .fc →
          exec x.1 s = .next (s.fault h 0x05 (t.readG gs1))
      | .miss => True) ∧
    (s.ready h = true → t.ring ≠ 0 → ∀ sw, sw = true ∨ target = .fc →
      exec (.cmoInvalidate h gs1 target sw) s = .next (s.fault h 0x04 (cmoWord gs1 target .invalidate sw)))) ∧
  (∀ (s : State) (h : Tid) (gs1 : Reg5) (imm : BitVec 16), s.ready h = true → s.txnFree h = true →
    let c := coreOf h
    let next := s.setThread h (s.thread h).next
    match s.resolve h ((s.thread h).readG gs1 + imm.signExtend 64) 1 .pf with
    | .fault _ => exec (.pf h gs1 imm) s = .next next
    | .parts [p] =>
      let line := p.pa / 64
      let wanted := (match s.region p.pa with
        | .normal .. => !p.uc
        | _ => false) && s.den c && ((s.core c).l1dLine line).isNone && ((s.core c).sideSlot line).isNone &&
        (s.core c).fill ≠ some line && !(s.core c).pfs.any (fun q => q.1 = line)
      (wanted = true → exec (.pf h gs1 imm) s = .next ((s.setCore c { s.core c with
        pfs := (s.core c).pfs ++ [(line, h.val)] }).setThread h (s.thread h).next)) ∧
      (wanted = false → exec (.pf h gs1 imm) s = .next next)
    | _ => True) ∧
  (∀ (s : State) (n : Cid) (agent : Agent) (ien den : Bool),
    (s.released = true →
      exec (.iinv n) s = .next ((s.setCore n { s.core n with iinv := true }).setOn FUR_L1CTL.BUSY n true) ∧
      exec (.dinv n) s = .next ((s.setCore n { s.core n with dinv := true }).setOn FUR_L1CTL.BUSY n true)) ∧
    (answers (.l1InvalidateDone n) s fun u => u.on FUR_L1CTL.BUSY n = false ∧
      u.core n = { s.core n with
        l1d := if (s.core n).dinv then [] else (s.core n).l1d, side := if (s.core n).dinv then [] else (s.core n).side
        l1i := if (s.core n).iinv then [] else (s.core n).l1i, dinv := false, iinv := false, denAfter := false
        ienAfter := false } ∧
      u.on FUR_L1CTL.DEN n = ((s.core n).denAfter || s.on FUR_L1CTL.DEN n) ∧
      u.on FUR_L1CTL.IEN n = ((s.core n).ienAfter || s.on FUR_L1CTL.IEN n)) ∧
    (s.acts agent = true → reaches agent = true → answers (.l1EnableWrite agent n ien den) s fun u =>
      u.on FUR_L1CTL.IEN n = ien ∧
      ((s.core n).fill = none → u.on FUR_L1CTL.DEN n = den ∧
        u.core n = { s.core n with denAfter := false, ienAfter := false }) ∧
      ((s.core n).fill ≠ none → u.on FUR_L1CTL.DEN n = s.on FUR_L1CTL.DEN n ∧
        u.core n = { s.core n with denAfter := false, ienAfter := false, denNext := some den }))) ∧
  (∀ (s : State) (f : Furrow) (agent : Agent) (mode : Bool) (action : BitVec 2) (wb : MemRes),
    (s.acts agent = true → reaches agent = true →
      let base := s.f FUR_RNG_BASE.BASE f
      let len := s.f FUR_RNG_LEN.LEN f
      let legal := action ≠ 3 ∧ (mode = true ∨ (len ≠ 0 ∧ (base + len) * 64 ≤ granarySpan))
      (s.on FUR_RNG_CTL.BUSY f = false → legal →
        answers (.rangeGo agent f action mode) s fun u => u.on FUR_RNG_CTL.BUSY f = true ∧ u.f FUR_RNG_DONE.LINES f = 0 ∧
          find f.val u.caches.range = some { action := actionOf action.toNat, mode := mode, base := base, lines := len } ∧
          u.caches.fc = s.caches.fc) ∧
      (s.on FUR_RNG_CTL.BUSY f = false → ¬legal →
        exec (.rangeGo agent f action mode) s = .next (s.setOn FUR_RNG_CTL.ERR f true)) ∧
      (s.on FUR_RNG_CTL.BUSY f = true →
        exec (.rangeGo agent f action mode) s = .next (s.setOn FUR_RNG_CTL.IGNORED f true))) ∧
    (match find f.val s.caches.range with
    | some r => answers (.rangeDone f wb) s fun u => u.on FUR_RNG_CTL.BUSY f = false ∧
        u.f FUR_RNG_DONE.LINES f = (if r.mode then 65536 else r.lines) % 2 ^ FUR_RNG_DONE.LINES.width ∧
        find f.val u.caches.range = none
    | none => True)) ∧
  (∀ (s : State) (n : Uid) (older newer : List MbEntry) (e : MbEntry),
    (∀ x ∈ older, x.closed = true) → e.closed = false → (s.core n).mbuf = older ++ e :: newer →
      exec (.openEntryTimeout n) s = .next (s.setCore n
        { s.core n with mbuf := older ++ { e with closed := true } :: newer })) ∧
  (∀ (s : State) (f : CacheId),
    (answers (.furrowScrub f .clean) s fun u =>
      findD 0 f.val u.caches.scrubSet = (findD 0 f.val s.caches.scrubSet + 1) % fcSets f ∧ u.caches.fc = s.caches.fc) ∧
    (∀ w : Fin 16, let k := fcKey f (findD 0 f.val s.caches.scrubSet) w
      match s.fcWay k with
      | some x => x.st = .m → answers (.furrowScrub f (.uncorrectable w)) s fun u =>
          u.fcWay k = some { x with poison := true } ∧
          findD 0 f.val u.caches.scrubSet = (findD 0 f.val s.caches.scrubSet + 1) % fcSets f
      | none => True))

/-- L1D_FILL of an unpoisoned line that the furrow cache holds writes it into the L1D with the core's merging-buffer
bytes laid over it, ends the L1 block, lets a waiting change of DEN take effect, and marks the furrow cache's copy
used; a load that waited for it goes on. SIDE_BUFFER_FILL installs the oldest prefetched line that the furrow cache
holds. FURROW_CACHE_FILL of a wanted line in Normal memory obtains it where its channel accepts the read. L1I_FILL
asks for the line of PC, and when asked brings it into the L1I. MERGING_BUFFER_DRAIN removes the oldest closed entry
that its channel accepts, and writes its masked bytes. TABLE_WALK installs the leaf it found, with A (and D for a
store) set, and the access is tried again; a leaf that changed restarts the walk; a walk that fails raises the fault
of its access, or drops a PF. -/
def Obligations.LineFillAndDrainResults : Prop :=
  (∀ (s : State) (n : Uid),
    let c := s.core n
    let still := ∀ k ∈ coreThreads n, (s.thread k).hold = none
    (match c.fill with
    | some l =>
      (match s.fcServes n l with
      | some x => x.poison = false →
        (still → answers (.l1dFill n) s fun u =>
          (u.core n).l1dLine l = some { line := l, data := c.mergeMb l x.data } ∧ (u.core n).fill = none ∧
          (u.core n).denNext = none ∧ u.on FUR_L1CTL.DEN n = c.denNext.getD (s.on FUR_L1CTL.DEN n) ∧
          u.caches.fc = (s.fcUse (furrowOf n) l).caches.fc) ∧
        (match s.fillWaiter n with
        | some (h, op) => answers (.l1dFill n) s fun u =>
          u = ((((s.fcUse (furrowOf n) l).setCore n (c.l1dWrite l (c.mergeMb l x.data))).fillEnds n).tryLoad h op).wakeAll n
        | none => True)
      | none => True)
    | none => True) ∧
    (match c.pfs.find? (fun p => (s.fcServes n p.1).isSome) with
    | some p => (∀ x, s.fcServes n p.1 = some x → x.poison = false) → s.den n = true →
      answers (.sideBufferFill n) s fun u =>
        ((u.core n).sideSlot p.1).isSome = true ∧ (u.core n).pfs = c.pfs.erase p ∧
        u.caches.fc = (s.fcUse (furrowOf n) p.1).caches.fc
    | none => True)) ∧
  (∀ (s : State) (f : CacheId) (line : Nat) (res wb : MemRes),
    (match s.region (line * 64) with
    | .normal .. => s.fillWanted f line = true → s.fcFind f line = none → s.fetchHeld f line = false →
      ((State.fcFetch { s with res := wb } f line 0 res).1.2 = false →
        exec (.furrowCacheFill f line res wb) s = .next (s.withRes wb fun s => (s.fcFetch f line 0 res).2))
    | _ => True)) ∧
  (∀ (s : State) (h : Tid) (res : MemRes),
    let n := coreOf h
    let t := s.thread h
    let c := s.core n
    let goes := t.mode = .running ∧ s.coreRuns n = true
    (goes → c.ifills.find? (fun x => x.1 = h.val) = none → c.ifills.length < 2 →
      s.walkWaits h t.ring t.pc .fetch = false →
      (match s.fetchPa h t.pc res with
      | (some (pa, false), a) =>
        (match a.region pa with
        | .normal .. => a.ien n = true → (a.core n).l1iLine (pa / 64) = none → exec (.l1iFill h false res) s =
            .next (a.setCore n { a.core n with ifills := (a.core n).ifills ++ [(h.val, pa / 64)] })
        | _ => exec (.l1iFill h false res) s = .next a)
      | (_, a) => exec (.l1iFill h false res) s = .next a)) ∧
    (goes → match c.ifills.find? (fun x => x.1 = h.val) with
      | some (_, line) => s.fetchHeld (furrowOf n) line = false →
        c.mbuf.any (fun e => e.closed && e.line = line) = false → s.ien n = true →
        answers (.l1iFill h false res) s fun u => (u.core n).ifills.all (fun x => x.1 ≠ h.val) = true ∧
          let r := State.fcFetch (s.setCore n { c with ifills := c.ifills.filter (·.1 ≠ h.val) }) (furrowOf n) line 0 res
          (r.1.2 = false → (u.core n).l1iLine line = some { line := line, data := r.1.1 } ∧ u.caches = r.2.caches)
      | none => True)) ∧
  (∀ (s : State) (n : Uid) (res wb : MemRes), (∀ k ∈ coreThreads n, (s.thread k).hold = none) →
    (s.core n).mbuf.all (fun e => !s.directHeld (e.line * 64)) = true →
    match (s.core n).mbuf.find? fun e => e.closed && !s.writeHeld (furrowOf n) e.line e.mask (e.kind ≠ .normal) with
    | none => exec (.mergingBufferDrain n false res wb) s = .next (s.withRes wb id)
    | some e =>
      let m := State.setCore { s with res := wb } n { s.core n with mbuf := (s.core n).mbuf.filter fun x => x.num ≠ e.num }
      match m.lineWrite (furrowOf n) e.line e.mask e.data (e.kind ≠ .normal) (some n) res with
      | (true, u) => exec (.mergingBufferDrain n false res wb) s = .next { u with res := .ok }
      | (false, _) => True) ∧
  (∀ (s : State) (h : Tid) (res : MemRes), match (s.thread h).hold with
    | some (.walk va ea a len txn at0 e0) => s.walkAsleep h va = false →
      let t := s.thread h
      let c := coreOf h
      (match s.walk h va res with
      | (none, u) =>
        (a = .pf → exec (.tableWalk h res) s = .next (u.modThread h (·.next))) ∧
        (a ≠ .pf → exec (.tableWalk h res) s =
          .next (u.fault h (match a with | .fetch => 0x01 | .store => 0x06 | _ => 0x05) ea))
      | (some (at', e, span), u) =>
        let used := entUsed e (a = .store)
        let install := fun (v : State) (e : Nat) =>
          (v.tlbInstall c (a = .fetch) (tlbEntryOf t.plotTag (va56 va) e span)).modThread h fun t => { t with hold := none }
        (leafAllows e t.ring a = true →
          (used = e → exec (.tableWalk h res) s = .next (install u e)) ∧
          (used ≠ e → at' = at0 → e = e0 → exec (.tableWalk h res) s = .next (install (u.writeEntry h at' used) used)) ∧
          (used ≠ e → ¬(at' = at0 ∧ e = e0) → exec (.tableWalk h res) s =
            .next (u.modThread h fun t => { t with hold := some (.walk va ea a len txn at' e) }))) ∧
        (leafAllows e t.ring a = false → len = 0 → a ≠ .pf → exec (.tableWalk h res) s =
          .next (u.fault h (match a with | .fetch => 0x01 | .store => 0x06 | _ => 0x05) ea)) ∧
        used.testBit 8 = true ∧ (a = .store → used.testBit 9 = true))
    | _ => True)

/-- On a thread that may run its next instruction, each tile instruction raises ILLEGAL_OP when its encoding means
nothing or its core is one of Drill's, then TILE_SHAPE when an operand does not fit its format or the group of a TSAVE
or TRESTORE is closed or of another shape, then MISALIGNED, then the fault of its first segment that may not be
accessed; on a TLB miss it walks; otherwise it waits at RT with its operands and the segments it accesses, and nothing
else changes. -/
def Obligations.TileInstructionsReachTheUnit : Prop :=
  ∀ (s : State) (h : Tid) (g : Bool) (ro co kk : BitVec 6) (fa fb fd x : BitVec 4) (rnd : BitVec 2) (td ta tb : Fin 8)
    (grp : Fin 16) (gd gs1 gs2 : Reg5), s.ready h = true →
    let t := s.thread h
    let rows := ro.toNat + 1
    let cols := co.toNat + 1
    let v1 := t.readG gs1
    let v2 := t.readG gs2
    let three := fun fn : TFn => ({ fn := fn, g := g, rows := rows, cols := cols, fa := fa.toNat, fb := fb.toNat, fd := fd.toNat,
                                    rnd := rnd.toNat, td := td, ta := ta, tb := tb } : TileIns)
    let two := fun fn : TFn => ({ fn := fn, g := g, rows := rows, cols := cols, fa := fa.toNat, fd := fd.toNat, td := td, ta := ta,
                                  v1 := t.readG 0 } : TileIns)
    let group := fun fn : TFn => ({ fn := fn, g := g, rows := rows, cols := cols, grp := grp, r1 := gs1, v1 := v1 } : TileIns)
    ∀ i ins, (i, ins) ∈ [
        (Instr.tld h g ro co fd td gs1 gs2,
          ({ fn := .tld, g := g, rows := rows, cols := cols, fd := fd.toNat, td := td, r1 := gs1, r2 := gs2, v1 := v1, v2 := v2 } : TileIns)),
        (.tst h g ro co fa ta gs1 gs2,
          { fn := .tst, g := g, rows := rows, cols := cols, fa := fa.toNat, ta := ta, r1 := gs1, r2 := gs2, v1 := v1, v2 := v2 }),
        (.tadd h g ro co fa fb fd rnd td ta tb, three .tadd), (.tsub h g ro co fa fb fd rnd td ta tb, three .tsub),
        (.tmul h g ro co fa fb fd rnd td ta tb, three .tmul), (.tmin h g ro co fa fb fd rnd td ta tb, three .tmin),
        (.tmax h g ro co fa fb fd rnd td ta tb, three .tmax), (.tand h g ro co fa fb fd td ta tb, { three .tand with rnd := 0 }),
        (.tor h g ro co fa fb fd td ta tb, { three .tor with rnd := 0 }),
        (.txor h g ro co fa fb fd td ta tb, { three .txor with rnd := 0 }),
        (.tmov h g ro co fa fd td ta, two .tmov), (.tcvt h g ro co fa fd rnd td ta, { two .tcvt with rnd := rnd.toNat }),
        (.tzero h g ro co fd td, { two .tzero with fa := 0, ta := 0 }),
        (.tfill h g ro co fd td gs1, { two .tfill with fa := 0, ta := 0, r1 := gs1, v1 := v1 }),
        (.tneg h g ro co fa fd td ta, two .tneg), (.tabs h g ro co fa fd td ta, two .tabs),
        (.tmuls h g ro co fa fd rnd td ta gs1, { two .tmuls with rnd := rnd.toNat, r1 := gs1, v1 := v1 }),
        (.tadds h g ro co fa fd rnd td ta gs1, { two .tadds with rnd := rnd.toNat, r1 := gs1, v1 := v1 }),
        (.tget h g gd ta gs1, { fn := .tget, g := g, rows := 1, cols := 1, ta := ta, r1 := gs1, r2 := gd, v1 := v1 }),
        (.tput h g td gs1 gs2, { fn := .tput, g := g, rows := 1, cols := 1, td := td, r1 := gs1, r2 := gs2, v1 := v1, v2 := v2 }),
        (.tmmp h g ro co kk fa fb rnd x td ta tb,
          { three .tmmp with fd := 0, k := kk.toNat + 1, x := x.toNat }),
        (.tmma h g ro co kk fa fb rnd grp ta tb, { three .tmma with fd := 0, td := 0, k := kk.toNat + 1, grp := grp }),
        (.texport h g ro co fa fb rnd x grp td ta gs1,
          { three .texport with fd := 0, tb := 0, x := x.toNat, grp := grp, r1 := gs1, v1 := v1 }),
        (.texportC h g ro co fa fb rnd x grp td ta gs1,
          { three .texportC with fd := 0, tb := 0, x := x.toNat, grp := grp, r1 := gs1, v1 := v1 }),
        (.topen h g ro co fa grp gs1, { group .topen with fa := fa.toNat }),
        (.tclose h g grp, { fn := .tclose, g := g, rows := 1, cols := 1, grp := grp, v1 := t.readG 0 }),
        (.tsave h g ro co grp gs1, group .tsave), (.trestore h g ro co grp gs1, group .trestore),
        (.tbind h g ro co grp gs1, group .tbind)] →
      let shaped := ins.shapeOk && !(ins.fn.isImage && (s.grpCheck h ins).isSome)
      let a := if ins.fn = .tld ∨ ins.fn = .trestore then Access.load else .store
      (drillCore (coreOf h) = true ∨ ins.encOk = false → exec i s = .next (s.fault h 0x03 ins.word)) ∧
      (drillCore (coreOf h) = false → ins.encOk = true →
        (shaped = false → exec i s = .next (s.fault h 0x0A ins.word)) ∧
        (shaped = true → match ins.misaligned with
          | some va => exec i s = .next (s.fault h 0x07 va)
          | none =>
            match s.tResolve h a ins.fn.isImage ins.segs with
            | .fault va => exec i s = .next (s.fault h (if a = .load then 0x05 else 0x06) va)
            | .walk va => exec i s = .next (s.startWalk h va va a 0 false)
            | .segs l => exec i s = .next (s.modThread h fun t => { t with hold := some (.tile ins l) })))

/-- TILE_ACCEPT of an instruction that passes its group checks, with room in the queue, appends it and retires it, or
keeps its thread waiting (TLD, TST, TGET, and every one while TPRECISE); a failed check raises. TILE_DISPATCH reads
the sources of the oldest instruction that nothing blocks. TLD_SEGMENT stages the next segment's bytes, and an error
ends a TLD with its fault; TST_ROW_ACK writes the next segment and marks it acknowledged, an error raising
LATE_STORE_ERROR. TILE_COMPLETE applies the effect to tile, group and silo, removes the entry, sets the thread's flags
in TSTAT and ends its wait. TSYNC with nothing to wait for retires, with TILE_ARITH when an enabled flag is set; else
it waits. -/
def Obligations.TileUnitResults : Prop :=
  (∀ (s : State) (h : Tid) (g : Bool),
    let t := s.thread h
    let c := coreOf h
    (match t.hold with
    | some (.tile i l) => (s.tile c).room h i l = true →
      (match s.grpCheck h i with
      | some x => exec (.tileAccept h) s = .next (s.fault h x.1 x.2)
      | none =>
        let late := i.fn = .tld ∨ i.fn = .tst ∨ i.fn = .tget
        answers (.tileAccept h) s fun u =>
          (u.tile c).queue.dropLast = (s.tile c).queue ∧
          (match (u.tile c).queue.getLast? with
          | some e => e.ins = i ∧ e.segs = l ∧ e.thread = h.val ∧ e.pc = t.pc ∧ e.seq = (s.tile c).nextSeq ∧ e.seed = t.seed ∧
            e.epoch = t.tsyncs ∧ e.dispatched = false ∧ e.spill = t.spillCode
          | none => False) ∧
          (u.tile c).nextSeq = (s.tile c).nextSeq + 1 ∧ (u.tile c).frags = (s.tile c).frags ∧
          (u.thread h).seed = (if i.rnd = 1 then seedNext t.seed else t.seed) ∧
          ((late ∨ t.tprecise = true) → (u.thread h).hold = some (.tileRun (s.tile c).nextSeq) ∧ (u.thread h).pc = t.pc) ∧
          (¬(late ∨ t.tprecise = true) → (u.thread h).hold = none ∧ (u.thread h).pc = t.pc + 8))
    | _ => True) ∧
    (s.ready h = true →
      (s.tsyncDone h g (s.tile c).nextSeq = true → answers (.tsync h g) s fun u => let v := u.thread h
        v.pc = t.pc + 8 ∧ v.taddr = none ∧ v.tsyncs = t.tsyncs + 1 ∧ v.hold = none ∧
        v.raised = (if t.ten &&& t.tflags ≠ 0 then
          some { code := 0x0B, epc := t.pc + 8, eaddr := (t.taddr.map (·.2)).getD 0 } else none)) ∧
      (s.tsyncDone h g (s.tile c).nextSeq = false →
        exec (.tsync h g) s = .next (s.modThread h fun t => { t with hold := some (.tsync g (s.tile c).nextSeq) })))) ∧
  (∀ (s : State) (n : Cid) (ecc : SiloEcc), match (s.tile n).nextDispatch with
    | some j => (match (s.tile n).queue[j]? with
      | some e =>
        let v := if e.ins.fn = .tsave ∨ e.ins.fn = .tbind then s.siloEcc n e ecc else s
        exec (.tileDispatch n ecc) s = .next (v.setTile n
          { v.tile n with queue := setNth (v.tile n).queue j (v.dispatched n e) })
      | none => True)
    | none => True) ∧
  (∀ (s : State) (n : Cid) (k : Fin 16) (res : MemRes), match (s.tile n).queue[k.val]? with
    | some e => s.tileMbWait n e.segs e.upto = false → e.segs.all (fun g => !s.directHeld g.pa) = true →
      (e.ins.fn = .tld ∨ (e.ins.fn = .trestore ∧ e.dispatched = true) →
        match firstSeg (fun y => y.staged.isNone && !s.readHeld (furrowOf n) y.pa y.uc) e.segs with
        | some (j, x) => (match s.lineRead (furrowOf n) x.pa x.len x.uc 0 res with
          | (.data b, u) =>
            exec (.tldSegment n k res) s = .next (u.setEntryAt n k { e with segs := setNth e.segs j { x with staged := some b } })
          | (r, u) => e.ins.fn = .tld → exec (.tldSegment n k res) s =
            .next (u.tldFails n e (if r = .decode then 0x05 else 0x11) x.va))
        | none => True) ∧
      (e.ins.fn = .tst ∨ e.ins.fn = .tsave → e.dispatched = true →
        match firstSeg (fun y => !y.acked) e.segs with
        | some (j, x) =>
          let mask := maskOf (x.pa % 64) x.len
          s.writeHeld (furrowOf n) (x.pa / 64) mask x.uc = false →
          (match s.lineWrite (furrowOf n) (x.pa / 64) mask (lineImage (x.pa % 64) (x.staged.getD [])) x.uc none res with
          | (ok, u) => exec (.tstRowAck n k res) s = .next ((if ok then u else u.lateStore x.pa e.thread).setEntryAt n k
              { e with segs := setNth e.segs j { x with acked := true } }))
        | none => True)
    | none => True) ∧
  (∀ (s : State) (n : Cid) (k : Fin 16), match (s.tile n).queue[k.val]? with
    | some e => e.done ((s.tile n).queue.take k) = true →
      (coreThreads n).all (fun j => match (s.thread j).hold with
        | some (.tsync ..) => false
        | _ => true) = true →
      let v := (s.tileEffect n e).1
      let fl := (s.tileEffect n e).2
      let t := v.thread e.thread
      answers (.tileComplete n k .clean) s fun u =>
        (u.tile n).queue = (v.tile n).queue.filter (fun y => y.seq ≠ e.seq) ∧ (u.tile n).frags = (v.tile n).frags ∧
        (u.tile n).silo = (v.tile n).silo ∧ u.regs = v.regs ∧
        (u.thread e.thread).tflags = t.tflags ||| fl ∧
        (t.hold = some (.tileRun e.seq) → (u.thread e.thread).pc = t.pc + 8 ∧ (u.thread e.thread).hold = none) ∧
        (t.hold ≠ some (.tileRun e.seq) → (u.thread e.thread).pc = t.pc ∧ (u.thread e.thread).hold = t.hold) ∧
        ∀ j : Tid, j.val ≠ e.thread → u.thread j = v.thread j
    | none => True)

/-- An elementwise instruction writes to td, element by element, TADD/TSUB/TMUL/TMIN/TMAX of the source elements
rounded once to FD, the bitwise operations, copies, conversions, the fill value, zero, the negation or the absolute
value, and nothing but td's core changes. TGET writes the 8-byte word read at dispatch to gd; TPUT writes gs2 into one
8-byte word of td. TOPEN opens its group with class, base, shape and spill interval, PHASE 0 and POISON 0; TCLOSE and
TEXPORT.C close it. Writing a tile of a well-formed shape and reading it back gives the elements. -/
def Obligations.TileEffectsOnTilesAndGroups : Prop :=
  ∀ (s : State) (n : Nat) (e : TileEntry),
    let i := e.ins
    let A := elemAt e.srcA
    let B := elemAt e.srcB
    let rnd := tRnd i.rnd e.seed
    let grp := grpInst n i.grp
    let writes := fun (code : Nat) (m : Nat → Nat → Nat) => s.tileEffect n e = (s.writeTd n e code
      ((List.range i.rows).map fun r => (List.range i.cols).map fun c => m r c), (s.tileEffect n e).2)
    (∀ fn op, (fn, op) ∈ [(TFn.tadd, TBin.add), (.tsub, .sub), (.tmul, .mul), (.tmin, .min), (.tmax, .max)] → i.fn = fn →
      writes i.fd fun r c => (tBin op (rnd r c) i.fa i.fd (A r c) (B r c)).1) ∧
    (i.fn = .tand → writes i.fd fun r c => A r c &&& B r c) ∧ (i.fn = .tor → writes i.fd fun r c => A r c ||| B r c) ∧
    (i.fn = .txor → writes i.fd fun r c => A r c ^^^ B r c) ∧ (i.fn = .tmov → writes i.fd A) ∧
    (i.fn = .tzero → writes i.fd fun _ _ => 0) ∧ (i.fn = .tfill → writes i.fd fun _ _ => i.v1.toNat % 2 ^ tBits i.fd) ∧
    (i.fn = .tcvt → writes i.fd fun r c => (tCvt (rnd r c) i.fa i.fd (A r c)).1) ∧
    (i.fn = .tneg → writes i.fd fun r c => (tNeg i.fa (A r c)).1) ∧ (i.fn = .tabs → writes i.fd fun r c => (tAbs i.fa (A r c)).1) ∧
    (i.fn = .tmuls → writes i.fd fun r c => (tScalar .mul (rnd r c) i.fa i.fd (A r c) (i.v1.toNat % 2 ^ 32)).1) ∧
    (i.fn = .tadds → writes i.fd fun r c => (tScalar .add (rnd r c) i.fa i.fd (A r c) (i.v1.toNat % 2 ^ 32)).1) ∧
    (i.fn = .tget → i.r2 < 32 → ((s.tileEffect n e).1.thread e.thread).readG (Fin.ofNat 32 i.r2) =
      if i.r2 = 0 then 0 else BitVec.ofNat 64 (A 0 0)) ∧
    (i.fn = .tput → (s.tileEffect n e).1 = s.setTile n { s.tile n with
      frags := (s.tile n).frags.write ((e.thread % 8 * 8 + i.td) * 512 + 8 * (i.v1.toNat % 64)) (leBytes 8 i.v2.toNat) }) ∧
    (i.fn = .topen → i.rows ≤ 64 → i.cols ≤ 64 → 1 ≤ i.rows → 1 ≤ i.cols → e.base < 1024 → e.spill < 8 →
      let u := (s.tileEffect n e).1
      u.on FUR_GRP.OPEN grp = true ∧ u.on FUR_GRP.INT grp = e.int ∧ u.on FUR_GRP.POISON grp = false ∧
      u.f FUR_GRP.SPILL grp = e.spill ∧ u.f FUR_GRP.BASE grp = e.base ∧ u.f FUR_GRP.ROWS grp + 1 = i.rows ∧
      u.f FUR_GRP.COLS grp + 1 = i.cols ∧ u.f FUR_GRP.PHASE grp = 0) ∧
    (i.fn = .tclose ∨ i.fn = .texportC → (s.tileEffect n e).1.on FUR_GRP.OPEN grp = false)

/-- BND_OPn_CTL by Drill sets V, MODE, INT, N and E and clears ROUND, ARRIVED, FAILED and POISON; by another agent the
write is dropped and logged. A TBIND's totals that reach their home are kept in their slot, counted in ARRIVED and
mark the queue entry as arrived; a slot that has arrived fails the operation, and a failed operation discards the
contribution and raises BINDER_DONE in its thread. BINDER_COMBINE performs one addition whose operands are there,
rounded once to binary64 or saturated to int64; in chain mode prefix p is prefix p − 1 plus slot p. A round complete
on this package alone writes the result and the completion word, raises BINDER_DONE in every thread that contributed
and begins the next round; a write that its link fails, or that leaves Normal memory, fails the operation instead.
(Commands of an agent that cannot act, and those whose condition fails, change nothing: notes/assumptions/1, 64.) -/
def Obligations.BinderResults : Prop :=
  (∀ (s : State) (op : Fin 64) (agent : Agent) (v mode int : Bool) (slots elems : BitVec 12), s.acts agent = true →
    (agent ≠ .drill → exec (.bndOpnCtl agent op v mode int slots elems) s = .next (s.writeDropped agent (0x1000 + 0x40 * op.val))) ∧
    (agent = .drill → answers (.bndOpnCtl agent op v mode int slots elems) s (fun u =>
      u.on BND_OP_CTL.V op = v ∧ u.on BND_OP_CTL.MODE op = mode ∧ u.on BND_OP_CTL.INT op = int ∧
      u.f BND_OP_CTL.N op = slots.toNat ∧ u.f BND_OP_CTL.E op = elems.toNat ∧ u.on BND_OP_STAT.FAILED op = false ∧
      u.f BND_OP_STAT.ROUND op = 0 ∧ u.f BND_OP_STAT.ARRIVED op = 0 ∧ u.on BND_OP_STAT.POISON op = false ∧
      u.bndOp op = {}))) ∧
  (∀ (s : State) (n : Cid) (k : Fin 16) (res : MemRes), match (s.tile n).queue[k.val]? with
    | some e =>
      let op := e.ins.v1.toNat / 4096 % 64
      let slot := e.ins.v1.toNat % 4096
      let b := s.bndOp op
      let failed := s.on BND_OP_STAT.FAILED op
      e.ins.fn = .tbind → e.dispatched = true → e.arrived = false → e.bindSent = false → s.bndHome op = true →
      let vals := e.totals (s.tile n)
      let s1 := State.setBnd { s with res := res } op
        { b with threads := if b.threads.contains e.thread then b.threads else b.threads ++ [e.thread] }
      let w := s1.bndWrite (s.bndScratch op + 8 * s.bndElems op * slot) (vals.flatMap (leBytes 8))
      answers (.slotArrival n k res) s fun u => (u.tile n).queue = setNth (s.tile n).queue k { e with arrived := true } ∧
        (failed = true → u.on BND_OP_STAT.FAILED op = true ∧ u.granary = s.granary ∧
          u.bitF FUR_XPEND.SRC e.thread (cBinderDone - 0x40) = true) ∧
        (failed = false →
          ((find slot b.slots).isSome = true → u.on BND_OP_STAT.FAILED op = true) ∧
          (find slot b.slots = none → w.1 = false → u.on BND_OP_STAT.FAILED op = true) ∧
          (find slot b.slots = none → w.1 = true → find slot (u.bndOp op).slots = some vals ∧
            u.granary.mem = w.2.granary.mem ∧ u.on BND_OP_STAT.FAILED op = false))
    | none => True) ∧
  (∀ (s : State) (op : Fin 64),
    let b := s.bndOp op
    let failed := s.on BND_OP_STAT.FAILED op
    let int := s.on BND_OP_CTL.INT op
    (failed = true → exec (.binderCombine op) s = .next s) ∧
    (failed = false → s.on BND_OP_CTL.MODE op = false →
      let p := b.nodes.length
      match find p b.slots with
      | none => exec (.binderCombine op) s = .next s
      | some x => answers (.binderCombine op) s fun u =>
        find p (u.bndOp op).nodes = some (if p = 0 then x else (bndAddAll int (findD [] (p - 1) b.nodes) x).1) ∧
        (u.bndOp op).slots = b.slots) ∧
    (failed = false → s.on BND_OP_CTL.MODE op = true → match b.nextTree (s.bndSlots op) with
      | none => exec (.binderCombine op) s = .next s
      | some (key, x, y) => answers (.binderCombine op) s fun u =>
        find key (u.bndOp op).nodes = some (match y with
          | none => x
          | some y => (bndAddAll int x y).1))) ∧
  (∀ x y : Nat, bndAdd false x y = ((fmtB64.addVal .rne .toInf (fmtB64.unpack x) (fmtB64.unpack y)).1, false) ∧
    ((bndAdd true x y).2 = true ↔ sval 64 x + sval 64 y < -2 ^ 63 ∨ 2 ^ 63 ≤ sval 64 x + sval 64 y)) ∧
  (∀ (s : State) (op : Fin 64) (res : MemRes),
    let failed := s.on BND_OP_STAT.FAILED op
    (failed = true ∨ s.bndHome op = false ∨ s.bndValue op = none →
      exec (.binderRoundComplete op res) s = .next (s.withRes res id)) ∧
    (match s.bndValue op with
    | some vals => failed = false → s.bndHome op = true → s.on BND_OP_ACRE.GLOBAL op = false →
      let w1 := State.bndWrite { s with res := res } (s.bndResult op) (vals.flatMap (leBytes 8))
      let w2 := w1.2.bndWrite (w1.2.bndResult op + 8 * w1.2.bndElems op) (leBytes 8 (w1.2.bndWord op 0 false))
      answers (.binderRoundComplete op res) s fun u =>
        (w1.1 && w2.1 = true → u.granary.mem = w2.2.granary.mem ∧
          u.f BND_OP_STAT.ROUND op = (s.f BND_OP_STAT.ROUND op + 1) % 2 ^ 16 ∧ u.bndOp op = {} ∧
          u.f BND_OP_STAT.ARRIVED op = 0 ∧ ∀ h ∈ (s.bndOp op).threads, u.bitF FUR_XPEND.SRC h (cBinderDone - 0x40) = true) ∧
        (w1.1 && w2.1 = false → u.on BND_OP_STAT.FAILED op = true)
    | none => True))

/-- A mode request by Drill stores its target; while a transition is in progress, between states that are not
adjacent, or out of Till while a program is loaded only sets REFUSED; elsewhere it starts its transition with BUSY
set. ZEROING_DONE ends a withdrawal in Withdrawn and a rejoining in Member with every byte of the channel zero and no
other channel's changed; MODE_SWITCH_DONE ends a switch in Till, or in Withdrawn with the resident image discarded. A
refresh keeps everything. A stack temperature above 85 sets HOT in the stack's channels, one below 82 clears it,
another keeps it. With EN, outside Till and self-refresh, a patrol step advances its position by a line modulo the
channel and counts a corrected error, or poisons the line of an uncorrectable one and records it, but not while the
channel is being zeroed. (With none of these in progress the commands change nothing: notes/assumptions/1.) Which
agents and parts act while a reset or a lost supply holds them is notes/assumptions/64. -/
def Obligations.GranaryChannelResults : Prop :=
  (∀ (s : State) (c : Chan), s.acts .drill = true →
    let mode := s.f GRN_STATE.MODE c
    let req := fun (i : Instr) (target : Nat) =>
      let ok := s.on GRN_STATE.BUSY c = false ∧ ((mode = 0 ∧ target = 1) ∨ (mode = 1 ∧ target ≠ 1) ∨
        (mode = 2 ∧ target = 1 ∧ s.on GRN_TILL_STAT.LOADED c = false))
      answers i s fun u => u.f GRN_MODE_REQ.TARGET c = target ∧ u.f GRN_STATE.MODE c = mode ∧
        (¬ok → u = (s.setF GRN_MODE_REQ.TARGET c target).setOn GRN_STATE.REFUSED c true) ∧
        (ok → u.on GRN_STATE.BUSY c = true ∧ u.chanMove c = (if mode = 0 then .withdrawing
          else if mode = 2 then .toWithdrawn else if target = 0 then .rejoining else .toTill))
    req (.withdrawal .drill c) 1 ∧ req (.rejoining .drill c) 0 ∧ req (.switchToTill .drill c) 2 ∧
    req (.switchToWithdrawn .drill c) 1) ∧
  (∀ (s : State) (c : Chan) (res : MemRes),
    let move := s.chanMove c
    let zeroed := fun (m : Nat) (u : State) => u.f GRN_STATE.MODE c = m ∧ u.on GRN_STATE.BUSY c = false ∧ u.chanMove c = .none ∧
      (∀ l, l < chanSpan → findD 0 (granKey c l) u.granary.mem = 0 ∧ u.poisoned (granKey c l) = false) ∧
      ∀ d l, d ≠ c.val → l < chanSpan → findD 0 (granKey d l) u.granary.mem = findD 0 (granKey d l) s.granary.mem
    exec (.refresh c) s = .next s ∧
    (move ≠ .withdrawing → move ≠ .rejoining → exec (.zeroingDone c) s = .next s) ∧
    (move ≠ .toTill → move ≠ .toWithdrawn → exec (.modeSwitchDone c res) s = .next (s.withRes res id)) ∧
    (s.granary.returning.contains c.val = false → (s.seq c).held = [] →
      (move = .withdrawing → answers (.zeroingDone c) s (zeroed 1)) ∧
      (move = .rejoining → answers (.zeroingDone c) s (zeroed 0)) ∧
      (move = .toTill → answers (.modeSwitchDone c res) s fun u =>
        u.f GRN_STATE.MODE c = 2 ∧ u.on GRN_STATE.BUSY c = false ∧ u.chanMove c = .none ∧ u.granary.mem = s.granary.mem) ∧
      (move = .toWithdrawn → answers (.modeSwitchDone c res) s fun u => u.f GRN_STATE.MODE c = 1 ∧
        u.on GRN_STATE.BUSY c = false ∧ u.chanMove c = .none ∧ u.granary.mem = s.granary.mem ∧ u.seq c = {} ∧
        u.on GRN_TILL_STAT.RESIDENT c = false ∧ u.f GRN_TILL_STAT.PENDING c = 0))) ∧
  (∀ (s : State) (st : Stack) (temp : Nat),
    answers (.stackTempReading st temp) s (fun u => ∀ d : Chan, (d.val / 16 = st.val →
        u.f GRN_TEMP.TEMP d = min temp 255 ∧
        u.on GRN_TEMP.HOT d = if 85 < temp then true else if temp < 82 then false else s.on GRN_TEMP.HOT d) ∧
      (d.val / 16 ≠ st.val → u.f GRN_TEMP.TEMP d = s.f GRN_TEMP.TEMP d ∧ u.on GRN_TEMP.HOT d = s.on GRN_TEMP.HOT d))) ∧
  (∀ (s : State) (c : Chan) (res : MemRes),
    let idle := s.on GRN_SCRUB.EN c = false ∨ s.f GRN_STATE.MODE c = 2 ∨ s.on GRN_STATE.SELFREF c = true
    let zeroing := s.chanMove c = .withdrawing ∨ s.chanMove c = .rejoining
    (idle → exec (.patrolScrub c res) s = .next s) ∧
    (¬idle →
      let line := s.f GRN_SCRUB_POS.LINE c
      answers (.patrolScrub c res) s fun u => u.f GRN_SCRUB_POS.LINE c = (line + 1) % 25165824 ∧
        u.granary.mem = s.granary.mem ∧
        (res = .ok → u.granary = s.granary ∧ u.f GRN_CECNT.COUNT c = s.f GRN_CECNT.COUNT c) ∧
        (res = .corrected → u.granary = s.granary ∧
          u.f GRN_CECNT.COUNT c = if s.f GRN_CECNT.COUNT c + 1 < 2 ^ 32 then s.f GRN_CECNT.COUNT c + 1 else s.f GRN_CECNT.COUNT c) ∧
        (zeroing → res = .uncorrectable ∨ res = .metadata ∨ res = .linkFail → u.granary = s.granary ∧
          u.on GRN_ERR_INFO.VALID c = s.on GRN_ERR_INFO.VALID c) ∧
        (¬zeroing → res = .uncorrectable ∨ res = .metadata →
          u.poisoned (granKey c (line * 64)) = true ∧ u.on GRN_ERR_INFO.VALID c = true ∧
          (s.on GRN_ERR_INFO.VALID c = false → u.f GRN_ERR_INFO.TYPE c = (if res = .metadata then 2 else 1) ∧
            u.f GRN_ERR_INFO.SRC c = 5))))

/-- Of the four mode requests, each from an agent other than Drill leaves every channel's state as it is, and only
gives the fault log the entry for a dropped write, code 0x0006 with the offset of GRN_MODE_REQ; it answers a next
state. Which agents and parts act while a reset or a lost supply holds them is notes/assumptions/64. -/
def Obligations.ModeRequestsAreDrills : Prop :=
  ∀ (s : State) (agent : Agent) (c : Chan), s.acts agent = true → agent ≠ .drill →
    ∀ i ∈ [Instr.withdrawal agent c, .rejoining agent c, .switchToTill agent c, .switchToWithdrawn agent c],
      answers i s fun u => u.granary = s.granary ∧ (∀ F ∈ Blk.GRN.fields, ∀ d, u.f F d = s.f F d) ∧
        s.logs u 0x0006 (Config.agentNumber agent.ctorIdx) noInst 4

/-- On every thread that may run its next instruction and for every RM but 6, FADD, FSUB, FMUL, FDIV, FSQRT and the
four fused forms write fd the exact result rounded once in the mode of RM (the upper bits of fd become 0), OR the
flags of the operation into FCSR, retire, and change nothing else; a NaN operand gives the default NaN, with NV set
where it signals, 0 ÷ 0 and the square root of a value below −0 the default NaN with NV, and a number divided by 0 the
infinity of its sign with DZ. With RM 6 each raises ILLEGAL_OP with its word. (The signs of FNMADD and FNMSUB are the
model's reading: log entry 10.) -/
def Obligations.FloatArithmeticResults : Prop :=
  ∀ (h : Tid) (fmt : FFmt) (rm : RMode) (fd a b c : Reg5),
    let F := fmt.fmt
    let x := fun t : Thread => fmt.val (t.readF a)
    let y := fun t : Thread => fmt.val (t.readF b)
    let z := fun t : Thread => fmt.val (t.readF c)
    let f := fun (v : Thread → Nat × Nat) (t : Thread) =>
      ({ t with f := putD 0 fd.val (BitVec.ofNat 64 (v t).1) t.f, fflags := t.fflags ||| (v t).2 } : Thread)
    let ops := [
      (Instr.fadd h fmt rm fd a b, fun t : Thread => F.addVal (t.rnd rm) .ieee (x t) (y t), wordF fmt rm 0x00 fd a b),
      (.fsub h fmt rm fd a b, fun t => F.addVal (t.rnd rm) .ieee (x t) (y t).neg, wordF fmt rm 0x01 fd a b),
      (.fmul h fmt rm fd a b, fun t => F.mulVal (t.rnd rm) .ieee (x t) (y t), wordF fmt rm 0x02 fd a b),
      (.fdiv h fmt rm fd a b, fun t => F.divVal (t.rnd rm) (x t) (y t), wordF fmt rm 0x03 fd a b),
      (.fsqrt h fmt rm fd a, fun t => F.sqrtVal (t.rnd rm) (x t), wordF fmt rm 0x04 fd a 0),
      (.fmadd h fmt rm fd a b c, fun t => F.fmaVal (t.rnd rm) .ieee (x t) (y t) (z t), wordF4 0x24 fmt rm fd a b c),
      (.fmsub h fmt rm fd a b c, fun t => F.fmaVal (t.rnd rm) .ieee (x t) (y t) (z t).neg, wordF4 0x25 fmt rm fd a b c),
      (.fnmadd h fmt rm fd a b c, fun t => F.fmaVal (t.rnd rm) .ieee (x t).neg (y t) (z t).neg, wordF4 0x26 fmt rm fd a b c),
      (.fnmsub h fmt rm fd a b c, fun t => F.fmaVal (t.rnd rm) .ieee (x t).neg (y t) (z t), wordF4 0x27 fmt rm fd a b c)]
    (∀ o, o ∈ ops → (rm ≠ .stoch → ranAs o.1 h (f o.2.1)) ∧
      (rm = .stoch → ∀ s : State, s.ready h = true → exec o.1 s = .next (s.fault h 0x03 o.2.2))) ∧
    (∀ (r : Rnd) (v w : FpVal),
      (v.isNan = true ∨ w.isNan = true → ∀ o, o ∈ [F.addVal r .ieee v w, F.mulVal r .ieee v w, F.divVal r v w] →
        o = (F.nan, if v = .nan true ∨ w = .nan true then 16 else 0)) ∧
      (∀ n m e, m ≠ 0 → F.divVal r (.fin n m e) (.fin false 0 0) = (F.sign n F.inf, 1)) ∧
      (∀ n e n' e', F.divVal r (.fin n 0 e) (.fin n' 0 e') = (F.nan, 16)) ∧
      (∀ n, F.addVal r .ieee (.inf n) (.inf !n) = (F.nan, 16)) ∧
      (∀ m e, m ≠ 0 → F.sqrtVal r (.fin true m e) = (F.nan, 16)) ∧ ∀ n e, F.sqrtVal r (.fin n 0 e) = (F.sign n 0, 0))

/-- On every thread that may run its next instruction: FMIN and FMAX give the smaller or larger operand (one NaN gives
the other operand, two the default NaN); FCOPYS, FCOPYNS and FXORS give the magnitude of fs1 with the sign of fs2, its
inverse, or the exclusive or of the signs; FCVT.F rounds to the format, with RM 6 allowed to a narrower format only
and then stepping TCTL.SEED once; FCVT.I saturates to the integer range with NV; FCVT.FI converts an integer; FMV
moves the low bits; FCLASS writes the class with 16 for a set sign bit; FCMP writes the predicate, LT and LE setting
NV on any NaN, EQ and UN on a signalling one. With RM 6 each but FCMP raises ILLEGAL_OP with its word (FCVT.F to a
format that is not narrower, or on a core of Drill's). -/
def Obligations.FloatMovesConversionsCompares : Prop :=
  ∀ (h : Tid) (fmt src : FFmt) (rm : RMode) (d a b : Reg5) (w : IWidth) (uns : Bool) (pd : Pred) (cond : FCond),
    let F := fmt.fmt
    let x := fun t : Thread => (t.readF a).toNat % 2 ^ F.width
    let y := fun t : Thread => (t.readF b).toNat % 2 ^ F.width
    let mag := fun v : Nat => v % F.signBit
    let pick := fun (second : FpVal → FpVal → Bool) (t : Thread) =>
      let v := F.unpack (x t)
      let w := F.unpack (y t)
      (if v.isNan && w.isNan then F.nan else if v.isNan then y t else if w.isNan then x t else
        if second v w then y t else x t, v.nv ||| w.nv)
    let neg := fun v : Nat => decide (F.signBit ≤ v % (2 * F.signBit))
    let f := fun (v : Thread → Nat × Nat) (t : Thread) =>
      ({ t with f := putD 0 d.val (BitVec.ofNat 64 (v t).1) t.f, fflags := t.fflags ||| (v t).2 } : Thread)
    let g := fun (v : Thread → Word) (fl : Thread → Nat) (t : Thread) => { t.writeG d (v t) with fflags := t.fflags ||| fl t }
    (rm ≠ .stoch → ranAs (.fmin h fmt rm d a b) h (f (pick fun v w => w.lt true v)) ∧
      ranAs (.fmax h fmt rm d a b) h (f (pick fun v w => v.lt true w))) ∧
    (rm ≠ .stoch → ranAs (.fcopys h fmt rm d a b) h (f fun t => (F.sign (neg (y t)) (mag (x t)), 0))) ∧
    (rm ≠ .stoch → ranAs (.fcopyns h fmt rm d a b) h (f fun t => (F.sign (!neg (y t)) (mag (x t)), 0))) ∧
    (rm ≠ .stoch → ranAs (.fxors h fmt rm d a b) h (f fun t => (F.sign (neg (x t) != neg (y t)) (mag (x t)), 0))) ∧
    (rm ≠ .stoch → ranAs (.fcvtF h fmt src rm d a) h (f fun t => F.roundVal (t.rnd rm) .ieee (src.val (t.readF a)))) ∧
    (F.width < src.fmt.width → drillCore (coreOf h) = false → ranAs (.fcvtF h fmt src .stoch d a) h fun t =>
      (f (fun t => F.roundVal (.stoch (stochR t.seed 0)) .ieee (src.val (t.readF a))) t).setSeed
        ((t.seed * 0x0019660D + 0x3C6EF35F) % 2 ^ 32)) ∧
    (src.fmt.width ≤ F.width ∨ drillCore (coreOf h) = true → ∀ s : State, s.ready h = true →
      exec (.fcvtF h fmt src .stoch d a) s = .next (s.fault h 0x03 (wordF fmt .stoch 0x10 d a src.ctorIdx))) ∧
    (rm ≠ .stoch →
      ranAs (.fcvtI h fmt rm d a w uns) h (g
        (fun t => BitVec.ofInt 64 (fpToInt (t.rnd rm) w.bits uns 16 (fmt.val (t.readF a))).1)
        (fun t => (fpToInt (t.rnd rm) w.bits uns 16 (fmt.val (t.readF a))).2)) ∧
      ranAs (.fcvtFi h fmt rm d a w uns) h (f fun t =>
        let n := (t.readG a).toNat % 2 ^ w.bits
        F.ofInt (t.rnd rm) .ieee (if uns || n < 2 ^ (w.bits - 1) then (n : Int) else n - 2 ^ w.bits))) ∧
    (rm = .stoch → ∀ s : State, s.ready h = true →
      (∀ i word, (i, word) ∈ [(Instr.fmin h fmt rm d a b, wordF fmt rm 0x05 d a b), (.fmax h fmt rm d a b, wordF fmt rm 0x06 d a b),
          (.fcopys h fmt rm d a b, wordF fmt rm 0x08 d a b), (.fcopyns h fmt rm d a b, wordF fmt rm 0x09 d a b),
          (.fxors h fmt rm d a b, wordF fmt rm 0x0A d a b), (.fmvGf h fmt rm d a, wordF fmt rm 0x13 d a 0),
          (.fmvFg h fmt rm d a, wordF fmt rm 0x14 d a 0), (.fclass h fmt rm d a, wordF fmt rm 0x15 d a 0)] →
        exec i s = .next (s.fault h 0x03 word)) ∧
      exec (.fcvtI h fmt rm d a w uns) s = .next (s.fault h 0x03 (wordF fmt rm 0x11 d a (w.code uns))) ∧
      exec (.fcvtFi h fmt rm d a w uns) s = .next (s.fault h 0x03 (wordF fmt rm 0x12 d a (w.code uns)))) ∧
    (rm ≠ .stoch → ranAs (.fmvGf h fmt rm d a) h (fun t => t.writeG d (BitVec.ofNat 64 (x t)))) ∧
    (rm ≠ .stoch → ranAs (.fmvFg h fmt rm d a) h (fun t => t.writeF d (BitVec.ofNat 64 ((t.readG a).toNat % 2 ^ F.width)))) ∧
    (rm ≠ .stoch → ranAs (.fclass h fmt rm d a) h (fun t => t.writeG d (BitVec.ofNat 64 ((match F.unpack (x t) with
      | .nan sig => if sig then 5 else 4
      | .inf _ => 3
      | .fin _ m _ => if m = 0 then 0 else if m < 2 ^ F.fb then 1 else 2) + (if neg (x t) then 16 else 0))))) ∧
    ranAs (.fcmp h fmt pd a b cond) h (fun t =>
      let v := F.unpack (x t)
      let w := F.unpack (y t)
      let un := v.isNan || w.isNan
      let res := match cond with
        | .eq => !un && v.eqv w
        | .lt => !un && v.lt false w
        | .le => !un && (v.lt false w || v.eqv w)
        | .un => un
      let nv := if cond = .lt ∨ cond = .le then un else decide (v = .nan true ∨ w = .nan true)
      { t.writeP pd res with fflags := t.fflags ||| if nv then 16 else 0 })

/-- Rounding a magnitude m × 2^e to a multiple of 2^q: where q is not above e the value is kept exactly. Elsewhere,
with u = 2^(q − e): toward zero gives the largest multiple not above, toward +∞ the least not below a positive value
and toward −∞ the least magnitude not below a negative one, to nearest a multiple at most half a unit away, with ties
to even for RNE and away from zero for RNA, and stochastic rounding with the random number R rounds the magnitude up
exactly where R is below the 16 bits of the value that follow the last kept bit. -/
def Obligations.RoundingIsCorrect : Prop :=
  ∀ (neg : Bool) (m : Nat) (e q : Int),
    (q ≤ e → ∀ r, roundAt r neg m e q = (m * 2 ^ (e - q).toNat, false)) ∧
    (e < q →
      let u := 2 ^ (q - e).toNat
      let v := fun r => (roundAt r neg m e q).1
      (∀ r, (roundAt r neg m e q).2 = true ↔ ¬ u ∣ m) ∧ (∀ r, u ∣ m → v r * u = m) ∧
      (v .rz * u ≤ m ∧ m < (v .rz + 1) * u) ∧
      (neg = false → m ≤ v .ru * u ∧ v .ru * u < m + u ∧ v .rd = v .rz) ∧
      (neg = true → m ≤ v .rd * u ∧ v .rd * u < m + u ∧ v .ru = v .rz) ∧
      (2 * (v .rne * u) ≤ 2 * m + u ∧ 2 * m ≤ 2 * (v .rne * u) + u ∧
        (2 * (v .rne * u) = 2 * m + u ∨ 2 * m = 2 * (v .rne * u) + u → v .rne % 2 = 0)) ∧
      (2 * (v .rna * u) ≤ 2 * m + u ∧ 2 * m < 2 * (v .rna * u) + u) ∧
      ∀ x, v (.stoch x) = m / u + if x < m % u * 65536 / u then 1 else 0)

/-- While a program is loaded on a channel and PC names an instruction with the opcode of the command, the instruction
has its effect and PC goes on to the next one, or to the target of JMP or of a BNZ whose decremented register is not
0; a PC past the last instruction ends the program with PC_RANGE. ACT opens its row, ending the program with ROW_RANGE
or ROW_OPEN; PRE closes it; LD loads half a line of the open row in each masked bank, ending with DATA_ERROR before vd
is written, and ST stores one; both end with ROW_CLOSED without an open row. YIELD records the checkpoint, performs
the refreshes and the accesses that the channel holds, and goes on with its row open. END ends with reason 1, and the
ninth refresh due ends with REFRESH_OVERRUN. An ending closes the row; the program stays loaded until its END_REPORT.
With no program, with one that has come to its ending, or with another opcode at PC, nothing happens
(notes/assumptions/1). -/
def Obligations.TillControlAndAddressResults : Prop :=
  ∀ (s : State) (c : Chan) (bank : Fin 32) (res : MemRes),
    let q := s.seq c
    let pc := s.f GRN_TILL_PC.PC c
    let w := (q.image[pc]?).getD 0
    let live := s.on GRN_TILL_STAT.LOADED c = true ∧ q.ended = none
    let x := if tlXu w then q.x.getD (tlXs w) 0 else 0
    let xs := q.x.getD (tlXs w) 0
    let runs := fun op : Nat => live ∧ pc < q.image.length ∧ tlOp w = op
    let ends := fun (r : Nat) (u : State) => u.on GRN_TILL_STAT.LOADED c = true ∧ u.f GRN_TILL_STAT.REASON c = r ∧
      (u.seq c).ended = some r ∧ (u.seq c).row = none ∧ u.f GRN_TILL_STAT.PENDING c = 0 ∧ u.granary.mem = s.granary.mem
    let goes := fun (k : Nat) (u : State) => u.on GRN_TILL_STAT.LOADED c = true ∧
      (k < q.image.length → u.f GRN_TILL_PC.PC c = k % 512 ∧ (u.seq c).ended = none) ∧
      (q.image.length ≤ k → u.f GRN_TILL_STAT.REASON c = 8 ∧ (u.seq c).ended = some 8)
    let at' := fun b : Nat => tineAddr (q.row.getD 0) b ((x + tlImm w % 64) % 64)
    let setX := fun (v : Nat) (u : State) => (u.seq c).x = setNth q.x (tlXs w) (v % 2 ^ 16)
    (∀ i op, (i, op) ∈ [(Instr.act c, 1), (.pre c, 2), (.tillLd c bank res, 3), (.st c bank res, 4), (.mac c, 5), (.aadd c, 6),
        (.chsh c, 7), (.vred c, 8), (.vcvt c, 9), (.vzero c, 0xA), (.mask c, 0xB), (.xset c, 0xC), (.xadd c, 0xD), (.bnz c, 0xE),
        (.jmp c, 0xF), (.yield c res, 0x10), (.tillEnd c, 0x11), (.tillNop c, 0)] →
      ¬runs op → exec i s = .next s) ∧
    (runs 1 → answers (.act c) s fun u =>
      let row := x + tlImm w % 2 ^ 15
      if 24576 ≤ row then ends 4 u else if q.row.isSome then ends 6 u
      else goes (pc + 1) u ∧ (pc + 1 < q.image.length → (u.seq c).row = some row)) ∧
    (runs 2 → answers (.pre c) s fun u => goes (pc + 1) u ∧ (u.seq c).row = none) ∧
    (runs 3 → answers (.tillLd c bank res) s fun u =>
      let fails := fun b : Nat => (b = bank.val ∧ (res = .uncorrectable ∨ res = .metadata ∨ res = .linkFail)) ∨ s.poisoned (granKey c (at' b)) = true
      if q.row = none then ends 5 u
      else (q.row ≠ none ∧ (∃ b ∈ q.banks, fails b) → ends 7 u ∧ (u.seq c).tines = q.tines) ∧
        ((∀ b ∈ q.banks, ¬fails b) → goes (pc + 1) u ∧ u.granary.mem = s.granary.mem ∧ ∀ b < 32, ∀ r < 8, (u.seq c).v b r =
          if q.mask.testBit b ∧ r = tlVd w then leNat (readSpan s.granary.mem (granKey c (at' b)) 32) else q.v b r)) ∧
    (runs 4 → answers (.st c bank res) s fun u =>
      if q.row = none then ends 5 u
      else goes (pc + 1) u ∧
        (∀ b ∈ q.banks, ∀ k < 32, findD 0 (granKey c (at' b) + k) u.granary.mem = BitVec.ofNat 8 (q.v b (tlVa w) / 256 ^ k)) ∧
        ∀ a, (∀ b ∈ q.banks, a < granKey c (at' b) ∨ granKey c (at' b) + 32 ≤ a) →
          findD 0 a u.granary.mem = findD 0 a s.granary.mem) ∧
    (runs 0xB → answers (.mask c) s fun u => goes (pc + 1) u ∧ (u.seq c).mask = tlImm w) ∧
    (runs 0xC → answers (.xset c) s fun u => goes (pc + 1) u ∧ setX (tlImm w) u) ∧
    (runs 0xD → answers (.xadd c) s fun u => goes (pc + 1) u ∧ setX (xs + tlImm w) u) ∧
    (runs 0xE → answers (.bnz c) s fun u => setX (xs + 65535) u ∧
      goes (if (xs + 65535) % 2 ^ 16 ≠ 0 then tlImm w % 512 else pc + 1) u) ∧
    (runs 0xF → answers (.jmp c) s fun u => goes (tlImm w % 512) u ∧ (u.seq c).x = q.x) ∧
    (runs 0 → answers (.tillNop c) s fun u => goes (pc + 1) u ∧ (u.seq c).x = q.x ∧ (u.seq c).tines = q.tines) ∧
    (runs 0x10 →
      let mark := fun s : State => (((((((s.setOn GRN_TILL_CKPT.VALID c true).setF GRN_TILL_CKPT.PC c pc).setF GRN_TILL_CKPT.TAG c
        (tlImm w)).setF GRN_TILL_CKX.X0 c (q.x.getD 0 0)).setF GRN_TILL_CKX.X1 c (q.x.getD 1 0)).setF GRN_TILL_CKX.X2 c
        (q.x.getD 2 0)).setF GRN_TILL_CKX.X3 c (q.x.getD 3 0)).setF GRN_TILL_STAT.PENDING c 0
      let quiet := s.f GRN_TILL_STAT.PENDING c = 0 ∧ q.held = [] ∧ q.row = none
      answers (.yield c res) s fun u =>
        u = ((s.tillIssue c w).withRes res fun s =>
          let v := (mark s).serveHeld c
          (if quiet then v else v.yieldSlots c).tillGo c (pc + 1)) ∧
        (q.held = [] → goes (pc + 1) u ∧ u.on GRN_TILL_CKPT.VALID c = true ∧ u.granary.mem = s.granary.mem ∧
          u.f GRN_TILL_CKPT.PC c = pc % 512 ∧ u.f GRN_TILL_CKPT.TAG c = tlImm w % 2 ^ 16 ∧
          u.f GRN_TILL_CKX.X0 c = q.x.getD 0 0 % 2 ^ 16 ∧ u.f GRN_TILL_CKX.X1 c = q.x.getD 1 0 % 2 ^ 16 ∧
          u.f GRN_TILL_CKX.X2 c = q.x.getD 2 0 % 2 ^ 16 ∧ u.f GRN_TILL_CKX.X3 c = q.x.getD 3 0 % 2 ^ 16 ∧
          u.f GRN_TILL_STAT.PENDING c = 0 ∧ (pc + 1 < q.image.length → (u.seq c).row = q.row))) ∧
    (runs 0x11 → answers (.tillEnd c) s (ends 1)) ∧
    (live → answers (.tillRefreshDue c) s fun u =>
      if s.f GRN_TILL_STAT.PENDING c < 8 then u.f GRN_TILL_STAT.PENDING c = s.f GRN_TILL_STAT.PENDING c + 1 ∧ u.granary = s.granary
      else ends 2 u ∧ u.f GRN_TILL_STAT.PENDING c = 0) ∧
    (¬live → exec (.tillRefreshDue c) s = .next s)

/-- While a program is loaded and PC names an instruction that passed the checks of Table 13-5 with the command's
opcode, in every bank whose MASK bit is 1: MAC adds to each 32-bit lane of its accumulator pair the product of 16-bit
lanes (two products of bytes in FMT 1, in order), AADD adds pairs lane by lane, CHSH takes va of the bank IMM above
and zero past bank 31, VRED adds the sixteen lanes as a tree into lane 0, VCVT narrows the pair to sixteen 16-bit
lanes with saturation, VZERO clears vd. Every other register of the tines keeps its value, and so do all registers of
the other banks. -/
def Obligations.TillArithmeticResults : Prop :=
  ∀ (s : State) (c : Chan),
    let q := s.seq c
    let pc := s.f GRN_TILL_PC.PC c
    let w := (q.image[pc]?).getD 0
    let runs := fun op : Nat => s.on GRN_TILL_STAT.LOADED c = true ∧ q.ended = none ∧ pc < q.image.length ∧ tlOp w = op ∧
      tlGood q.image.length w = true
    let acts := fun b : Nat => q.mask.testBit b = true
    let d := tlVd w
    let f := tlFmt w
    let does := fun (i : Instr) (one : Bool) (res : Nat → Nat) => answers i s fun u =>
      (∀ b < 32, acts b → if one then (u.seq c).v b d = res b
        else (u.seq c).v b d = res b % 2 ^ 256 ∧ (u.seq c).v b (d + 1) = res b / 2 ^ 256 % 2 ^ 256) ∧
      (∀ b < 32, ∀ r < 8, (¬acts b ∨ (r ≠ d ∧ (one = true ∨ r ≠ d + 1))) → (u.seq c).v b r = q.v b r) ∧
      (pc + 1 < q.image.length → u.f GRN_TILL_PC.PC c = (pc + 1) % 512 ∧ u.on GRN_TILL_STAT.LOADED c = true) ∧
      u.granary.mem = s.granary.mem
    let sums := fun l : List Nat => (redLevel f l).1
    (runs 5 → does (.mac c) false fun b => fromLanes 32 ((List.range 16).map fun i =>
      (tlMac f (lane 32 (q.pair b d) i) (lane 16 (q.v b (tlVa w)) i) (lane 16 (q.v b (tlVb w)) i)).1)) ∧
    (runs 6 → does (.aadd c) false fun b => fromLanes 32 ((List.range 16).map fun i =>
      (tlAdd f (lane 32 (q.pair b d) i) (lane 32 (q.pair b (tlVa w)) i)).1)) ∧
    (runs 7 → does (.chsh c) true fun b =>
      if b + tlImm w % 32 < 32 then q.v (b + tlImm w % 32) (tlVa w) else 0) ∧
    (runs 8 → does (.vred c) false fun b => (sums (sums (sums (sums (pairLanes (q.pair b (tlVa w))))))).headD 0) ∧
    (runs 9 → does (.vcvt c) true fun b => fromLanes 16 ((List.range 16).map fun i =>
      (tlCvt f (lane 32 (q.pair b (tlVa w)) i)).1)) ∧
    (runs 0xA → does (.vzero c) true fun _ => 0) ∧
    (∀ acc a b, tlMac 0 acc a b = tClamp 7 (sval 32 acc + sval 16 a * sval 16 b)) ∧
    (∀ x y, f < 2 → (tlAdd f x y).1 = (tClamp 7 (sval 32 x + sval 32 y)).1)

/-- A TAIL write by an agent that reaches the queue takes the value, unless it lies more than the queue size ahead of
HEAD: then DB_ERR is set; an agent of another plot changes nothing. Enabling a disabled queue with LOG2SIZE 6 to 16
sets EN and clears HEAD, TAIL and the reply counts; disabling clears EN. A poll of a self-fed queue with its tail in
the plot's space takes the word as a doorbell. FETCH of the queue that is due, into a free entry, reads the packet at
HEAD: with the expected SEQ it takes the entry with its opcode, tag and the next place in the order, and HEAD advances
by one; with another SEQ the slot is read up to twice more before BAD_COMMAND. Where only the ledger or quota stops
it, FULL is set and the episode counted once. Which agents and parts act while a reset or a lost supply holds them is
notes/assumptions/64. A command whose own condition fails leaves the state as it is: the model's choice,
notes/assumptions/1. -/
def Obligations.DrillQueueResults : Prop :=
  (∀ (s : State) (agent : Agent) (q : Fin 4096) (v : BitVec 32),
    let n := s.f DRL_Q_CFG.LOG2SIZE q
    let en := s.on DRL_Q_CFG.EN q
    let reach := s.acts agent = true ∧ match agent with
      | .plot p => p.val = 0 ∨ p.val = q.val / 8
      | _ => True
    (¬reach → exec (.doorbell agent q v) s = .next s ∧ exec (.queueEnable agent q) s = .next s ∧
      exec (.queueDisable agent q) s = .next s) ∧
    (reach →
      exec (.doorbell agent q v) s = .next (if s.qSize q < modDiff 32 v.toNat (s.f DRL_Q_HEAD.COUNT q) then
        s.setOn DRL_Q_STAT.DB_ERR q true else s.setF DRL_Q_TAIL.COUNT q v.toNat) ∧
      (en = true ∨ n < 6 ∨ 16 < n → exec (.queueEnable agent q) s = .next s) ∧
      (en = false → 6 ≤ n → n ≤ 16 → answers (.queueEnable agent q) s fun u => u.on DRL_Q_CFG.EN q = true ∧
        u.f DRL_Q_HEAD.COUNT q = 0 ∧ u.f DRL_Q_TAIL.COUNT q = 0 ∧ u.f DRL_CR_HEAD.COUNT q = 0 ∧ u.f DRL_CR_TAIL.COUNT q = 0 ∧
        u.queue q = {}) ∧
      answers (.queueDisable agent q) s fun u => u.on DRL_Q_CFG.EN q = false ∧ (u.queue q).rereads = none ∧
        u.drill.ledger = s.drill.ledger)) ∧
  (∀ (s : State) (q : Fin 4096) (res : MemRes),
    let addr := s.f DRL_Q_TAILADDR.ADDR q * 4
    let polls := s.on DRL_Q_CFG.EN q = true ∧ s.on DRL_Q_CFG.SELF q = true ∧ s.on DRL_STATUS.RUN 0 = true
    (¬polls → exec (.selfFedPoll q res) s = .next (s.withRes res id)) ∧
    (polls → opSpace addr = 0 → match State.dmaReadAll { s with res := res } (q.val / 8) (opAddr addr) 2 4 with
      | (.data b, u) => exec (.selfFedPoll q res) s = .next { u.doorbell q (leNat b) with res := .ok }
      | (_, u) => exec (.selfFedPoll q res) s = .next { u with res := .ok }) ∧
    (polls → opSpace addr = 1 → s.detached (q.val / 8) = false → match s.hostRead (q.val / 8) (opAddr addr) 4 (.tail q) with
      | some u => exec (.selfFedPoll q .ok) s = .next { u with res := .ok }
      | none => exec (.selfFedPoll q .ok) s = .next { s with res := .ok })) ∧
  (∀ (s : State) (q e : Fin 4096) (res : MemRes),
    let r := s.queue q
    (s.nextQueue = some q.val → s.entry e = none → exec (.fetch q e res) s = .next (s.withRes res fun s => s.readPacket q e)) ∧
    (s.nextQueue ≠ some q.val → s.qReady q = true → s.ledgerRoom q = false → answers (.fetch q e res) s fun u =>
      u.on DRL_STATUS.FULL 0 = true ∧ u.drill.ledger = s.drill.ledger ∧
      (s.on DRL_STATUS.FULL 0 = true → u.f DRL_FULLCNT.COUNT 0 = s.f DRL_FULLCNT.COUNT 0)) ∧
    (r.rereads ≠ none → r.reading = false → s.on DRL_Q_CFG.EN q = true → s.entry e = none → 0 < s.ringFree q →
      exec (.seqRecheck q e res) s = .next (s.withRes res fun s => s.readPacket q e)) ∧
    (r.rereads = none → exec (.seqRecheck q e res) s = .next (s.withRes res id))) ∧
  (∀ (s : State) (q e : Fin 4096) (b : List Byte), s.entry e = none →
    let head := s.f DRL_Q_HEAD.COUNT q
    let u := s.takePacket q e b
    let v := s.fetched q e b
    let taken := fun u : State => u.f DRL_Q_HEAD.COUNT q = (head + 1) % 2 ^ 32 ∧ u.drill.order = s.drill.order + 1 ∧
      match u.entry e with
      | some x => x.plot = q.val / 8 ∧ x.queue = q.val % 8 ∧ x.seq = head ∧ x.tag = numAt b 2 2 ∧ x.opcode = numAt b 0 1 ∧
        x.packet = b ∧ x.order = s.drill.order
      | none => False
    taken v ∧
    (numAt b 4 4 = head → match (v.entry e).bind (·.step1) with
      | some r => taken u ∧ (match u.entry e with
        | some x => x.state = .retiring ∧ x.reply = some r
        | none => False)
      | none => True) ∧
    (numAt b 4 4 ≠ head → match (s.queue q).rereads with
      | none => (u.queue q).rereads = some 0 ∧ u.drill.ledger = s.drill.ledger
      | some 0 => (u.queue q).rereads = some 1 ∧ u.drill.ledger = s.drill.ledger
      | some _ => taken u ∧ (u.entry e).bind (·.reply) = some { status := stBad, detail := dtSeq }))

/-- COMMAND_START goes on with the checks of a command in parse, moves a held command, but for a WAIT, to RUNNING
where the order rules let it start, and does nothing to a command that may not start. ABORT of a command in parse or
held retires it without work, of a running one that may be stopped makes it ABORTING, and of a running command that
may not be aborted, an aborting or a retiring one answers TOO_LATE; of a SEQ that has retired it answers TOO_LATE, of
one never seen BAD_COMMAND. FENCE ends at once. END_REPORT of a running, aborting or retiring entry whose work has
ended writes one reply to the queue's ring and its retained copy with the entry's SEQ, tag and opcode and the PHASE of
its place, advances the ring's head by one and frees the entry. -/
def Obligations.DrillLifecycleResults : Prop :=
  (∀ (s : State) (e : Fin 4096) (res : MemRes), match s.entry e with
    | some x =>
      (x.state = .parse → exec (.commandStart e res) s = .next (s.withRes res fun s => s.parse e)) ∧
      (x.state ≠ .parse → s.mayStart x = false ∨ x.opcode = 0x08 → exec (.commandStart e res) s = .next (s.withRes res id)) ∧
      (s.mayStart x = true → x.opcode ≠ 0x08 → answers (.commandStart e res) s fun u => match u.entry e with
        | some y => y.state = .running ∧ y.opcode = x.opcode ∧ y.begun = x.begun
        | none => False)
    | none => True) ∧
  (∀ (s : State) (e : Fin 4096), match s.entry e with
    | some x => x.state = .running → x.begun = false →
      let t := s.setEntry e { x with begun := true }
      let ended := fun (r : Reply) (u : State) => match u.entry e with
        | some y => y.reply = some (x.reply.getD r)
        | none => False
      (x.opcode = 0x06 → answers (.fence e) s (ended {})) ∧
      (x.opcode = 0x0D → match t.seqEntry x.plot (x.pk 8 1) (x.pk 12 4) with
        | none => answers (.abort e) s (ended (if s.seqRetired x.plot (x.pk 8 1) (x.pk 12 4) then { status := stTooLate }
            else { status := stBad, detail := dtUnknown }))
        | some (k, y) => k ≠ e.val → t.entry k = some y → answers (.abort e) s fun u => match u.entry k with
          | some z =>
            (y.state = .parse ∨ y.state = .held → ended {} u ∧ z.state = .retiring ∧ z.reply = some { status := stAborted }) ∧
            (y.state = .running → nonAbortable y.opcode = true → ended { status := stTooLate, detail := dtNonabortable } u ∧
              z = y) ∧
            (y.state = .running → nonAbortable y.opcode = false → ended {} u ∧ z.state = .aborting ∧
              (y.begun = false → z.reply = some (y.reply.getD {})) ∧
              (y.begun = true → y.opcode = 0x01 → y.sow.isSome = true → (z.sow.map (·.cause.isSome)) = some true) ∧
              (y.begun = true → y.opcode = 0x02 ∨ y.opcode = 0x03 → z = { y with state := .aborting })) ∧
            (y.state = .aborting → ended { status := stTooLate, detail := dtAlready } u ∧ z = y) ∧
            (y.state = .retiring → ended { status := stTooLate } u ∧ z = y)
          | none => False)
    | none => True) ∧
  (∀ (s : State) (e : Fin 4096) (res : MemRes),
    let v := State.serveEnded { s with res := res } e
    match v.entry e with
    | some x =>
      let q := x.plot * 8 + x.queue
      let replied := fun (r : Reply) (u : State) =>
        let n := v.f DRL_CR_HEAD.COUNT q
        u.entry e = none ∧ u.f DRL_CR_HEAD.COUNT q = (n + 1) % 2 ^ 32 ∧ find (n % v.qSize q) (u.queue q).retained =
          some (replyBytes x.seq r false (decide (n / v.qSize q % 2 = 0)) x.tag (q % 8) x.opcode v.now)
      x.frame = none → (x.opcode ≠ 0x10 ∨ x.reply ≠ none) → match v.ended e x with
        | none => exec (.endReport e res) s = .next { v with res := .ok }
        | some r => q < 4096 →
          ((x.state = .running ∨ x.state = .retiring) → v.targetDone x = true → v.refusalDue x = true →
            answers (.endReport e res) s (replied r)) ∧
          (x.state = .aborting → answers (.endReport e res) s (replied (x.abortedReply r)))
    | none => exec (.endReport e res) s = .next { v with res := .ok })

/-- The work of a running command: SOW refuses a locked or unleased core or a busy context, and else releases the
contexts its masks name, running at the descriptor's PC, and records the sowing; COPY and FILL move the next piece
within one line and end with the byte count when none is left; SIGNAL adds to or replaces a word and ends; a WAIT
whose word meets its condition runs to its end, and one whose time is over fails with TIMEOUT; TILL_MODE requests the
mode and TILL_RUN starts the program, each after a last check of the state; QUERY answers the entry's state, the lease
record in 64 free bytes (notes/assumptions/33) or the ledger counts; HEADLAND_MSG takes its answer, or fails with
ISLAND after 100 ms. PARK parks a thread that has exited, its timeout stops a sowing, and the stop timeout resets
thread groups. -/
def Obligations.DrillCommandResults : Prop :=
  (∀ (s : State) (e : Fin 4096) (res : MemRes), match s.entry e with
    | some x => x.state = .running →
      let t := State.setEntry { s with res := res } e { x with begun := true }
      let ended := fun (r : Reply) (u : State) => match u.entry e with
        | some y => y.reply = some (x.reply.getD r)
        | none => False
      let fresh := fun op : Nat => x.opcode = op ∧ x.begun = false
      let goes := fun op : Nat => x.opcode = op ∧ x.reply = none ∧ x.away = false
      (fresh 0x01 →
        ((sowCores x.packet).any s.locked = true → answers (.sow e res) s (ended { status := stFit, detail := dtLocked })) ∧
        ((sowCores x.packet).any s.locked = false → (sowCores x.packet).all (fun n => (s.core n).lease = some x.plot) = true →
          (x.frame.isSome || (t.sowBusy x.packet).isNone) = true → opSpace (s.plot x.plot).rtdesc = 0 →
          match t.dmaReadAll x.plot (opAddr (s.plot x.plot).rtdesc) 4 128 with
          | (.data d, _) => answers (.sow e res) s fun u =>
            (match (u.entry e).bind (·.sow) with
            | some w => w.threads = sowThreads x.packet ∧ w.parked = [] ∧ w.cause = none
            | none => False) ∧
            ∀ k ∈ sowThreads x.packet, (u.thread k).mode = .running ∧ (u.thread k).ring = 0 ∧
              (u.thread k).pc = masked (BitVec.ofNat 64 (numAt d 0 8)) pcMask ∧
              (u.thread k).readG 1 = BitVec.ofNat 64 (x.pk 8 8) ∧ (u.thread k).readG 5 = BitVec.ofNat 64 e ∧
              (u.thread k).seed = (s.thread k).seed
          | (.fail, _) => answers (.sow e res) s (ended { status := stFaulted, detail := dtAddr })
          | (.held, _) => True)) ∧
      (goes 0x02 →
        let src := x.pk 8 8 + x.prog
        let dst := x.pk 16 8 + x.prog
        let n := min (x.pk 24 8 - x.prog) (min (64 - src % 64) (64 - dst % 64))
        (x.pk 24 8 ≤ x.prog → answers (.copy e res) s (ended { status := stOk, result := x.prog })) ∧
        (x.prog < x.pk 24 8 → opSpace src ≠ 1 → match t.dmaRead x.plot (opAddr src) n with
          | (.data b, u) => exec (.copy e res) s = .next { u.putPiece e x.plot dst b with res := .ok }
          | (.poison, _) => answers (.copy e res) s (ended { status := stFaulted, detail := dtData, result := x.prog })
          | (.fault, _) => answers (.copy e res) s (ended { status := stFaulted, detail := dtAddr, result := x.prog })
          | (.held, u) => exec (.copy e res) s = .next { u with res := .ok }
          | (.remote .., _) => True)) ∧
      (goes 0x03 →
        (x.pk 16 8 ≤ x.prog → answers (.fill e res) s (ended { status := stOk, result := x.prog })) ∧
        (x.prog < x.pk 16 8 →
          let dst := x.pk 8 8 + x.prog
          let b := (List.range (min (x.pk 16 8 - x.prog) (64 - dst % 64))).map fun k =>
            BitVec.ofNat 8 (x.pk (24 + (x.prog + k) % 8) 1)
          exec (.fill e res) s = .next { t.putPiece e x.plot dst b with res := .ok })) ∧
      (fresh 0x07 → opSpace (x.pk 8 8) ≠ 1 → match t.dmaRead x.plot (opAddr (x.pk 8 8)) 8 with
        | (.data b, u) =>
          (match u.dmaWrite x.plot (opAddr (x.pk 8 8))
            (leBytes 8 (if x.pk 24 1 = 1 then leNat b + x.pk 16 8 else x.pk 16 8)) true with
          | (.done, v) => exec (.signal e res) s = .next { (v.endWork e {}).waitsOn x.plot (x.pk 8 8) with res := .ok }
          | _ => answers (.signal e res) s (ended { status := stFaulted, detail := dtAddr }))
        | (.poison, _) => answers (.signal e res) s (ended { status := stFaulted, detail := dtData })
        | (.fault, _) => answers (.signal e res) s (ended { status := stFaulted, detail := dtAddr })
        | _ => True) ∧
      (fresh 0x09 → match firstFail [t.step3 x, t.step5 x] with
        | some r => answers (.tillMode e) s (ended r)
        | none => exec (.tillMode e) s =
          .next (s.withRes .ok fun s => (s.setEntry e { x with begun := true }).modeReq (x.pk 8 1) (x.pk 9 1))) ∧
      (fresh 0x0A → x.pk 12 4 ≠ 0 → match t.step5 x with
        | some r => answers (.tillRun e) s (ended r)
        | none => answers (.tillRun e) s fun u => u.on GRN_TILL_STAT.LOADED (x.pk 8 1) = true ∧
          u.f GRN_TILL_PC.PC (x.pk 8 1) = x.pk 10 2 % 512 ∧ (u.seq (x.pk 8 1)).image = imageWords x.content ∧
          (u.seq (x.pk 8 1)).mask = 0xFFFFFFFF ∧ (u.seq (x.pk 8 1)).entry = some e.val ∧ (u.seq (x.pk 8 1)).ended = none) ∧
      (fresh 0x0E →
        (x.pk 8 1 = 0 → answers (.queryEntryState e) s (ended { result := match t.seqEntry x.plot (x.pk 9 1) (x.pk 12 4) with
          | some y => y.2.state.code
          | none => if s.seqRetired x.plot (x.pk 9 1) (x.pk 12 4) then 6 else 5 })) ∧
        (x.pk 8 1 = 1 → let w := t.draw.2.putBytes x.plot (x.pk 16 8) (leBytes 64 t.draw.1)
          answers (.queryLeaseRecord e res) s (ended (if w.1 then {} else { status := stFaulted, detail := dtAddr }))) ∧
        (x.pk 8 1 = 2 → answers (.queryLedgerCounts e) s (ended { result := t.drill.ledger.length % 2 ^ 16 +
          (t.drill.ledger.filter fun y => y.2.plot = x.plot).length % 2 ^ 16 * 2 ^ 16 }))) ∧
      (fresh 0x12 → answers (.headlandMsg e) s fun u => match u.entry e with
        | some y => y.since = some s.now ∧ y.begun = true
        | none => False)
    | none => True) ∧
  (∀ (s : State) (e : Fin 4096) (plot dst : Nat) (b : List Byte), opSpace dst ≠ 1 → match s.entry e with
    | some x => (match s.dmaWrite plot (opAddr dst) b false with
      | (.done, v) => (s.putPiece e plot dst b).granary = v.granary ∧
        (s.putPiece e plot dst b).entry e = some { x with away := false, prog := x.prog + b.length }
      | (.fault, _) => (match (s.putPiece e plot dst b).entry e with
        | some y => y.reply = some (x.reply.getD { status := stFaulted, detail := dtAddr, result := x.prog })
        | none => False)
      | _ => True)
    | none => True) ∧
  (∀ (s : State) (e : Fin 4096) (res : MemRes), match s.entry e with
    | some x => x.opcode = 0x08 →
      (s.mayStart x = true → x.away = false → opSpace (x.pk 8 8) ≠ 1 →
        match (State.setEntry { s with res := res } e { x with since := some (x.since.getD s.now) }).dmaRead x.plot
          (opAddr (x.pk 8 8)) 8 with
        | (.data b, _) =>
          let v := leNat b
          let holds := if x.pk 24 1 = 0 then x.pk 16 8 ≤ v else if x.pk 24 1 = 1 then v = x.pk 16 8 else v ≠ x.pk 16 8
          let runs := fun u : State => match u.entry e with
            | some y => (holds → y.state = .running ∧ y.reply = some {}) ∧ (¬holds → y.state = .held)
            | none => False
          answers (.waitCommand e res) s runs ∧ answers (.waitCommandPoll e res) s runs
        | _ => True) ∧
      (match x.since with
      | some n => x.state = .held → x.pk 28 4 ≠ 0 → 100 * x.pk 28 4 ≤ s.since n → answers (.waitCommandTimeout e) s fun u =>
        (match u.entry e with
        | some y => y.state = .retiring ∧ y.reply = some { status := stFaulted, detail := dtTimeout }
        | none => False)
      | none => True)
    | none => True) ∧
  (∀ (s : State) (e : Fin 4096) (res : MemRes), match s.msgOut e with
    | some x =>
      let ended := fun (r : Reply) (u : State) => match u.entry e with
        | some y => y.reply = some (x.reply.getD r)
        | none => False
      (match s.isl.answer with
      | some (code, []) => answers (.mailboxAnswer e res) s fun u => u.isl.answer = none ∧
        ended { status := if code = msgUntested then stUntested else stOk, result := code } u
      | some _ => True
      | none => (match x.since with
        | some n => 10000000 ≤ s.since n → answers (.islandTimeout e) s fun u =>
          u.isl.msg = none ∧ ended { status := stFaulted, detail := dtIsland } u
        | none => True))
    | none => True) ∧
  (∀ (s : State) (h : Tid), (s.thread h).exited = true → (s.thread h).mode ≠ .halted → (s.thread h).hold = none →
    (s.thread h).raised = none → (s.thread h).posted = [] → s.locked (coreOf h) = false →
    (s.core (coreOf h)).pfs.any (fun p => p.2 = h.val) = false →
    (s.tile (coreOf h)).queue.any (fun e => e.thread = h.val) = false →
    answers (.park h) s fun u => (u.thread h).mode = .parked ∧ (u.thread h).exited = false ∧
      (u.core (coreOf h)).idleAt = s.now) ∧
  (∀ (s : State) (e : Fin 4096), match s.entry e with
    | some x => (match x.sow with
      | some w =>
        (match x.since with
        | some n => x.opcode = 0x01 → x.state = .running → x.frame = none → x.pk 44 4 ≠ 0 → 100 * x.pk 44 4 ≤ s.since n →
          w.over s = false → exec (.sowTimeout e) s = .next (s.stopSowing e x w { status := stFaulted, detail := dtTimeout })
        | none => True) ∧
        (match w.stopAt with
        | some n => 100 * s.f DRL_CFG.STOP_TMO 0 ≤ s.since n →
          w.threads.any (fun k => !w.parked.contains k && !(s.thread k).exited && !s.locked (coreOf k) &&
            (find (coreOf k) s.clk.tg).isNone) = true →
          answers (.stopTmo e) s fun u => ((u.entry e).bind (·.sow)).map (·.forced) = some true
        | none => True)
      | none => True)
    | none => True)

/-- A LEASE that passes its checks with as many distinct free extents as it names gives the plot its cores, channels,
extents, Binder operations, streams and quota: the cores wake with their seedboxes, tile arrays, mailboxes and TLBs
zeroed, each channel starts its withdrawal, every byte and poison bit of the extents is cleared; it ends once every
channel is withdrawn. An UNLEASE first zeroes its extents and takes the counts back while the channels return, and
once every channel is a member again zeroes and releases its cores and ends. Each ends at once with the reply of the
check that fails. -/
def Obligations.LeaseResults : Prop :=
  ∀ (s : State) (e : Fin 4096) (xs : List (Fin 73728)) (res : MemRes), match s.entry e with
    | some x => x.state = .running → x.reply = none → x.away = false →
      let p := x.pk 8 2
      let cores := bitsOf 128 (x.pk 16 16)
      let chans := bitsOf 96 (x.pk 32 12)
      let ys := xs.map (·.val)
      let ended := fun (r : Reply) (u : State) => (u.entry e).bind (·.reply) = some r
      let clean := fun (u : State) (n : Nat) => u.seed n = .zeroed ∧ (u.tile n).frags = .zeroed ∧ (u.tile n).silo = .zeroed ∧
        (u.core n).tlb = [] ∧ (u.core n).itlb = [] ∧ (u.core n).dtlb = [] ∧ ∀ h ∈ coreThreads n, (u.thread h).mailbox = []
      (x.opcode = 0x0B → x.begun = false → match firstFail [s.step3 x, s.step4 x, s.step5 x] with
        | some r => answers (.lease e xs res) s (ended r)
        | none => ys.length = x.pk 48 8 / 0x200000 → ys.Nodup → ys.all (fun a => s.extLease a = none) = true →
          answers (.lease e xs res) s fun u =>
            (∀ n ∈ cores, (u.core n).lease = some p ∧ (u.core n).gated = false ∧ clean u n) ∧
            (u.plot p).channels = (s.plot p).channels ++ chans ∧ (u.plot p).extents = (s.plot p).extents ++ ys ∧
            (u.plot p).binder = (s.plot p).binder + x.pk 11 1 ∧ (u.plot p).streams = (s.plot p).streams + x.pk 12 4 ∧
            (∀ c ∈ chans, u.chanMove c = .withdrawing ∧ u.on GRN_STATE.BUSY c = true) ∧
            (∀ c : Chan, ∀ l, l < chanSpan → s.f GRN_STATE.MODE c = 0 → normalAddr c l / 0x200000 ∈ ys →
              findD 0 (granKey c l) u.granary.mem = 0 ∧ (l % 64 = 0 → u.poisoned (granKey c l) = false))) ∧
      (x.opcode = 0x0B → x.begun = true → chans.all (fun c => s.f GRN_STATE.MODE c = 1 ∧ s.chanMove c = .none) = true →
        answers (.lease e xs res) s (ended {})) ∧
      (x.opcode = 0x0B → x.begun = true → chans.all (fun c => s.f GRN_STATE.MODE c = 1 ∧ s.chanMove c = .none) = false →
        exec (.lease e xs res) s = .next (s.withRes res id)) ∧
      (x.opcode = 0x0C → x.begun = false → match firstFail [s.step4 x, s.step5 { x with state := .held }] with
        | some r => answers (.unlease e xs res) s (ended r)
        | none => ys.length = x.pk 48 8 / 0x200000 → ys.Nodup → ys.all (fun a => (s.plot p).extents.contains a) = true →
          answers (.unlease e xs res) s fun u =>
            (u.plot p).extents = (s.plot p).extents.filter (fun a => !ys.contains a) ∧
            (u.plot p).binder = (s.plot p).binder - x.pk 11 1 ∧ (u.plot p).streams = (s.plot p).streams - x.pk 12 4) ∧
      (x.opcode = 0x0C → x.begun = true → chans.all (fun c => s.f GRN_STATE.MODE c = 0 ∧ s.chanMove c = .none) = true →
        answers (.unlease e xs res) s fun u => ended {} u ∧ (∀ n ∈ cores, (u.core n).lease = none ∧ clean u n) ∧
          ∀ c ∈ chans, (u.plot p).channels.contains c = false)
    | none => True

/-- FRAME_ARM whose checks pass arms its loop for the command's plot and queue, with the period, the deadline, a miss
run of 0 and the start given, or 1 ms from now for 0; its first frame is the first that starts no sooner than 100 µs
from now. A failed check ends the command with its reply. FRAME_ARM with ACTION 1 disarms an armed loop of its plot:
no further frame is released, a waiting one ends without a reply, and the command ends; for another plot's loop it
ends with LEASE, for a loop that is not armed with BUSY. SHEAF_DECLARE replaces the sheaf of an armed loop of its plot
and ends. -/
def Obligations.LoopArmingResults : Prop :=
  ∀ (s : State) (e : Fin 4096), match s.entry e with
    | some x => x.state = .running → x.begun = false → x.reply = none →
      let t := s.setEntry e { x with begun := true }
      let ended := fun (r : Reply) (u : State) => (u.entry e).bind (·.reply) = some r
      let l := x.pk 32 1
      let now := s.loopNow l
      let start := if x.pk 24 8 = 0 then (now + 100000) % 2 ^ 64 else x.pk 24 8
      let k0 := firstFrame start (x.pk 16 4) ((now + 10000) % 2 ^ 64)
      (x.opcode = 0x10 → x.pk 33 1 = 0 → match t.armChecks { x with state := .held } with
        | some r => answers (.frameArm e) s (ended r)
        | none => answers (.frameArm e) s fun u => u.on SOW_LOOP_CTL.ARMED l = true ∧ u.f SOW_LOOP_CTL.PLOT l = x.plot % 512 ∧
          u.f SOW_LOOP_CTL.MISSRUN l = 0 ∧ u.f SOW_LOOP_PERIOD.NS l = x.pk 16 4 % 2 ^ 32 ∧
          u.f SOW_LOOP_DEADLINE.NS l = x.pk 20 4 % 2 ^ 32 ∧ match u.loop l with
            | some y => y.entry = e.val ∧ y.start = start ∧ y.k = k0 ∧ y.k0 = k0 ∧ y.cause = none ∧ y.waiting = none ∧
              y.run = none ∧ y.cores = sowCores (x.content.take 128)
            | none => False) ∧
      (x.opcode = 0x10 → x.pk 33 1 = 1 → match s.loopOwner l, s.loop l with
        | some p, some y =>
          (p ≠ x.plot → answers (.frameDisarm e) s (ended { status := stLease, detail := dtOwned })) ∧
          (p = x.plot → answers (.frameDisarm e) s fun u => ended {} u ∧
            u.loop l = some { y with waiting := none, cause := some (y.cause.getD 1) })
        | _, _ => answers (.frameDisarm e) s (ended { status := stBusy })) ∧
      (x.opcode = 0x11 → s.loopOwner (x.pk 8 1) ≠ some x.plot → answers (.sheafDeclare e) s (ended { status := stBusy })) ∧
      (x.opcode = 0x11 → s.loopOwner (x.pk 8 1) = some x.plot → match s.loop (x.pk 8 1) with
        | some y => answers (.sheafDeclare e) s fun u => ended {} u ∧ u.loop (x.pk 8 1) = some { y with sheaf := sheafList x }
        | none => answers (.sheafDeclare e) s (ended { status := stBusy }))
    | none => True

/-- At S(k) the next frame of an armed loop becomes waiting and the next k follows. A waiting frame whose input is
ready, with no other frame running, its cores free, room in the ring, budget before the deadline and LATEST not passed
is released: its sowing takes the free entry given, running, and the frame is its loop's running one. A release whose
descriptor waits at its channel only waits. A waiting frame past LATEST, or ready without budget, is dropped: counted,
with the reply of its cause where the ring has room, else RINGFULL. WARN raises FRAME_TICK once in every thread that
has not ended, and sets WARNED. At the deadline a running frame is marked as told and its sowing stopped. A frame
whose sheaf has been read is done with the CRC-64 of its bytes as its result, and one that could not be read is
FAULTED. A command whose own condition fails leaves the state as it is: the model's choice, notes/assumptions/1. -/
def Obligations.FrameLifeResults : Prop :=
  (∀ (s : State) (l : Fin 16) (e : Fin 4096) (res : MemRes), match s.loop l with
    | some x =>
      let t := s.template x
      let due := fun at' : Nat => s.loopDue l at' = true
      (x.cause ≠ none ∨ x.waiting ≠ none ∨ ¬due (s.frameStart l x x.k) → exec (.frameStart l) s = .next s) ∧
      (x.cause = none → x.waiting = none → due (s.frameStart l x x.k) → answers (.frameStart l) s fun u =>
        u.loop l = some { x with waiting := some x.k, k := x.k + 1 } ∧ u.f SOW_LOOP_NEXTK.K l = (x.k + 1) % 2 ^ 32) ∧
      (match x.waiting with
      | none => exec (.frameRelease l e res) s = .next (s.withRes res id) ∧ exec (.frameDrop l) s = .next s
      | some k =>
        let late := before (s.frameLatest l t x k) (s.loopNow l)
        (match s.entry x.entry with
        | some a =>
          let stays := x.cause ≠ none ∨ s.entry e ≠ none ∨ s.mayRelease l t x k = false ∨ late = true
          (stays → exec (.frameRelease l e res) s = .next (s.withRes res id)) ∧
          (¬stays → match State.sowWaits { s with res := res } a.plot with
            | some u => exec (.frameRelease l e res) s = .next { u with res := .ok }
            | none => answers (.frameRelease l e res) s fun u =>
              (match u.entry e with
              | some y => y.plot = a.plot ∧ y.queue = a.queue ∧ y.opcode = 1 ∧ y.frame = some l.val ∧ y.packet = t.take 64
              | none => False) ∧
              u.drill.order = s.drill.order + 1 ∧
              u.loop l = some { x with waiting := none, run := some { entry := e, k := k, sheaf := x.sheaf }, last := some k })
        | none => True) ∧
        (x.cause = none → late = true ∨ (s.inputReady t x k = true ∧ s.budgetOk l t x k = false) →
          answers (.frameDrop l) s fun u =>
            (match u.loop l with
            | some z => z.waiting = none ∧ z.run = x.run
            | none => False) ∧
            (s.ringFree (s.loopQueue l) = 0 → u.on SOW_LOOP_EVT.RINGFULL l = true) ∧
            u.f SOW_LOOP_DROPPED.COUNT l = let n := s.f SOW_LOOP_DROPPED.COUNT l
              if n + 1 < 2 ^ 32 then n + 1 else n))
    | none => True) ∧
  (∀ (s : State) (l : Fin 16) (res : MemRes), match s.loop l with
    | some x =>
      let t := s.template x
      let due := fun at' : Nat => s.loopDue l at' = true
      (match x.run with
      | none => exec (.warn l) s = .next s ∧ exec (.digestComplete l res) s = .next (s.withRes res id)
      | some r =>
        (match s.entry r.entry with
        | some y => (match y.sow with
          | some w =>
            let at' := (s.frameStart l x r.k + nsCounts (numAt t 80 4)) % 2 ^ 64
            let quiet := numAt t 80 4 = 0 ∨ r.warned = true ∨ r.digesting = true ∨ w.cause ≠ none ∨ w.over s = true ∨ ¬due at'
            let idle := r.digesting = true ∨ r.told = true ∨ ¬due (s.frameDeadline l x r.k)
            (quiet → exec (.warn l) s = .next s) ∧
            (¬quiet → answers (.warn l) s fun u =>
              u.on SOW_LOOP_EVT.WARNED l = true ∧ u.loop l = some { x with run := some { r with warned := true } } ∧
              ∀ h ∈ w.threads, w.parked.contains h = false → (s.thread h).exited = false →
                u.bitF FUR_XPEND.SRC h (cFrameTick - 0x40) = true) ∧
            (x.owed = none → idle → exec (.deadline l) s = .next s) ∧
            (x.owed = none → ¬idle → w.cause = none → w.over s = false → answers (.deadline l) s fun u =>
              u.loop l = some { x with run := some { r with told := true } } ∧
              ((u.entry r.entry).bind (·.sow)).bind (·.cause) = some { status := stDeadline })
          | none => True)
        | none => True) ∧
        (r.digesting = false → exec (.digestComplete l res) s = .next (s.withRes res id)) ∧
        (r.digesting = true → match State.readSheaf { s with res := res } (s.f SOW_LOOP_CTL.PLOT l) r.sheaf with
          | (.held, u) => exec (.digestComplete l res) s = .next { u with res := .ok }
          | (.fail, _) => answers (.digestComplete l res) s fun v => v.entry r.entry = none ∧ (v.loop l).map (·.run) = some none
          | (.regions regions, u) => answers (.digestComplete l res) s fun v =>
            v.entry r.entry = none ∧ (v.loop l).map (·.run) = some none ∧ v.f SOW_LOOP_CTL.MISSRUN l = 0 ∧
            ((u.entry x.entry).isSome = true →
              let q := u.loopQueue l
              let n := u.f DRL_CR_HEAD.COUNT q
              v.f DRL_CR_HEAD.COUNT q = (n + 1) % 2 ^ 32 ∧
              (find (n % u.qSize q) (v.queue q).retained).map (fun b => numAt b 16 8) = some (crc64 (regions.flatMap id) % 2 ^ 64))))
    | none => True)

/-- STREAM_OPEN whose checks pass opens the free context given with the packet's rings and element size, counts 0,
paused where the function is DETACHED, and ends with its number; a failed check ends it with its reply. A FEED write
by an agent that reaches the stream takes the count of an input stream, sets FEED_ERR where it runs more than the ring
ahead, and does nothing to an output stream, one that closes or one of a DETACHED function; FEED_POLL takes an output
stream's count from its control block. The last block of an element commits it: COMMIT advances by one. A completed
flush read moves ACKED to the count it was issued for. RESUME of a paused stream of an attached function discards what
was not acknowledged. STREAM_CLOSE ends at once with HOST_LOST where the stream is paused, and with its commit count
where nothing is in progress. Which agents and parts act while a reset or a lost supply holds them is
notes/assumptions/64. A command whose own condition fails leaves the state as it is: the model's choice,
notes/assumptions/1. -/
def Obligations.StreamResults : Prop :=
  (∀ (s : State) (e : Fin 4096) (n : Fin 2048), match s.entry e with
    | some x => x.state = .running → x.begun = false → x.reply = none →
      let t := s.setEntry e { x with begun := true }
      let ended := fun (r : Reply) (u : State) => (u.entry e).bind (·.reply) = some r
      (x.opcode = 0x04 → match firstFail [t.step3 x, t.step4 x], s.stream n with
        | some r, _ => answers (.streamOpen e n) s (ended r)
        | none, some y => answers (.streamOpen e n) s fun u => u.entry e = some x ∧ u.stream n = some y
        | none, none => answers (.streamOpen e n) s fun u => ended { result := n.val } u ∧ u.on HRW_S_STAT.OPEN n = true ∧
          u.f HRW_S_STAT.DIR n = x.pk 8 1 % 2 ∧ u.f HRW_S_STAT.PLOT n = x.plot % 512 ∧
          u.on HRW_S_STAT.PAUSED n = s.detached x.plot ∧ u.f HRW_S_COMMIT.COUNT n = 0 ∧ u.f HRW_S_FEED.COUNT n = 0 ∧
          u.stream n = some { host := x.pk 16 8, dev := x.pk 24 8, bytes := x.pk 12 4, elems := x.pk 32 4, commitAt := x.pk 40 8 }) ∧
      (x.opcode = 0x05 → match firstFail [t.step4 x, t.step5 x] with
        | some r => answers (.streamClose e) s (ended r)
        | none => x.pk 8 4 = n.val → match s.stream n with
          | none => answers (.streamClose e) s (ended { status := stLease, detail := dtNotLeased })
          | some y =>
            let busy := y.off ≠ 0 ∨ y.away = true ∨ y.flush = true ∨
              (s.on HRW_S_STAT.DIR n = true ∧ s.f HRW_S_ACKED.COUNT n ≠ s.f HRW_S_COMMIT.COUNT n)
            (y.closing ≠ none → answers (.streamClose e) s fun u => u.entry e = some x ∧ u.stream n = some y) ∧
            (y.closing = none → s.on HRW_S_STAT.PAUSED n = true →
              answers (.streamClose e) s (ended { status := stHostLost, result := s.f HRW_S_ACKED.COUNT n })) ∧
            (y.closing = none → s.on HRW_S_STAT.PAUSED n = false → busy → answers (.streamClose e) s fun u =>
              u.entry e = some { x with begun := true } ∧ u.stream n = some { y with closing := some e }) ∧
            (y.closing = none → s.on HRW_S_STAT.PAUSED n = false → ¬busy →
              answers (.streamClose e) s (ended { result := s.f HRW_S_COMMIT.COUNT n })))
    | none => True) ∧
  (∀ (s : State) (n : Fin 2048) (agent : Agent) (v : BitVec 32),
    let dir := s.on HRW_S_STAT.DIR n
    let paused := s.on HRW_S_STAT.PAUSED n
    let det := s.detached (s.streamPlot n)
    let commit := s.f HRW_S_COMMIT.COUNT n
    let acked := s.f HRW_S_ACKED.COUNT n
    let reach := s.acts agent = true ∧ s.on HRW_S_STAT.OPEN n = true ∧ match agent with
      | .plot p => p.val = 0 ∨ p.val = s.streamPlot n
      | _ => True
    (¬reach → exec (.feed agent n v) s = .next s ∧ exec (.resume agent n) s = .next s) ∧
    (reach → match s.stream n with
      | none => exec (.feed agent n v) s = .next s ∧ exec (.resume agent n) s = .next s
      | some y =>
        (dir = true ∨ y.closing ≠ none ∨ det = true → exec (.feed agent n v) s = .next s) ∧
        (dir = false → y.closing = none → det = false → exec (.feed agent n v) s = .next
          (if y.elems < modDiff 32 v.toNat commit then s.setOn HRW_S_STAT.FEED_ERR n true
            else s.setF HRW_S_FEED.COUNT n v.toNat)) ∧
        (paused = false ∨ det = true → exec (.resume agent n) s = .next s) ∧
        (paused = true → det = false → answers (.resume agent n) s fun u => u.on HRW_S_STAT.PAUSED n = false ∧
          (dir = false → u.f HRW_S_FEED.COUNT n = commit % 2 ^ 32) ∧ (dir = true → u.f HRW_S_COMMIT.COUNT n = acked % 2 ^ 32)))) ∧
  (∀ (s : State) (n : Fin 2048) (res : MemRes),
    let p := s.streamPlot n
    let dir := s.on HRW_S_STAT.DIR n
    let commit := s.f HRW_S_COMMIT.COUNT n
    let still := s.withRes res id
    match s.stream n with
    | none => exec (.feedPoll n res) s = .next still ∧ exec (.elementCommit n res) s = .next still
    | some y =>
      let off := commit % y.elems * y.bytes + y.off
      let v := if y.off = 0 ∧ s.loopStream n = false then { s with res := res, host := { s.host with served := n } }
        else { s with res := res }
      (dir = false ∨ y.closing ≠ none → exec (.feedPoll n res) s = .next still) ∧
      (dir = true → y.closing = none → match State.dmaReadAll { s with res := res } p (y.dev + y.elems * y.bytes) 2 4 with
        | (.data b, u) => exec (.feedPoll n res) s = .next { u.setF HRW_S_FEED.COUNT n (leNat b) with res := .ok }
        | (_, u) => exec (.feedPoll n res) s = .next { u with res := .ok }) ∧
      (y.away = true ∨ s.on HRW_S_STAT.PAUSED n = true → exec (.elementCommit n res) s = .next still) ∧
      (y.away = false → s.on HRW_S_STAT.PAUSED n = false → y.off = 0 → s.mayMove n = false →
        answers (.elementCommit n res) s fun u => u.f HRW_S_COMMIT.COUNT n = commit ∧ match u.stream n with
          | some z => z.flush = true ∨ z = y
          | none => False) ∧
      (y.away = false → s.on HRW_S_STAT.PAUSED n = false → (y.off ≠ 0 ∨ s.mayMove n = true) →
        (dir = true → match v.dmaRead p (y.dev + off) 64 with
          | (.data _, _) =>
            (y.bytes ≤ y.off + 64 → answers (.elementCommit n res) s fun u => u.f HRW_S_COMMIT.COUNT n = (commit + 1) % 2 ^ 32 ∧
              match u.stream n with
              | some z => z.off = 0 ∧ z.away = false
              | none => False) ∧
            (y.off + 64 < y.bytes → answers (.elementCommit n res) s fun u => u.f HRW_S_COMMIT.COUNT n = commit ∧
              u.stream n = some { y with off := y.off + 64, away := false })
          | (.held, u) => exec (.elementCommit n res) s = .next { u with res := .ok }
          | _ => answers (.elementCommit n res) s fun u => u.on HRW_S_STAT.PAUSED n = true ∧ u.f HRW_S_COMMIT.COUNT n = commit) ∧
        (dir = false → match v.hostRead p (opAddr y.host + off) 64 (.element n y.off) with
          | some u => exec (.elementCommit n res) s = .next { u.setStream n { y with away := true } with res := .ok }
          | none => exec (.elementCommit n res) s = .next { v with res := .ok })) ∧
      (match s.host.reads.find? fun r => (match r.2.use with | .flush k _ => k = n.val | _ => false) with
      | some (_, ⟨_, _, _, .flush _ c⟩) => answers (.flushReadComplete n res) s fun u => u.f HRW_S_ACKED.COUNT n = c % 2 ^ 32
      | _ => exec (.flushReadComplete n res) s = .next still))

/-- DL_UP of a port that trains sets the link up with its width and rate; DL_DOWN clears it, counts it, ends every
outstanding read as timed out and resets the host port. A completion for a tag that is not outstanding sets UNEXP_CPL;
one with data frees its tag and delivers it, one without sets CPL_ERR, and a read that times out sets CPL_TMO and is
counted. Clearing bus mastering, entering D3hot or a write of HST_DETACH makes a function that exists DETACHED with
its cause and pauses its open streams; D0 leaves it so. An interval of a vector that ends sends the message that
waits. An access that is not 4 or 8 bytes at its alignment is dropped and logged. Which agents and parts act while a
reset or a lost supply holds them is notes/assumptions/64. A command whose own condition fails leaves the state as it
is: the model's choice, notes/assumptions/1. -/
def Obligations.HostPortResults : Prop :=
  (∀ (s : State) (width : Fin 5) (rate : Fin 6),
    let up := s.live = true ∧ s.clk.rootHeld = false ∧ s.clk.perstLow = false ∧ s.clk.training = true
    (¬up → exec (.dlUp width rate) s = .next s) ∧
    (up → answers (.dlUp width rate) s fun u => u.on HST_LINK.DL_UP 0 = true ∧ u.f HST_LINK.WIDTH 0 = 2 ^ width.val ∧
      u.f HST_LINK.RATE 0 = rate.val + 1 ∧ u.on HST_LINK.DEGRADED 0 = decide (rate.val < 3)) ∧
    (s.on HST_LINK.DL_UP 0 = false → exec .dlDown s = .next s) ∧
    (s.on HST_LINK.DL_UP 0 = true → answers .dlDown s fun u => u.on HST_LINK.DL_UP 0 = false ∧ u.on HST_EVENT.LINK_DOWN 0 = true ∧
      u.f HST_LINK.WIDTH 0 = 0 ∧ u.host.vfEnable = false ∧ u.vecs = [] ∧ u.on PWR_RESET_CAUSE.HOST_PORT 0 = true ∧
      (s.released = true → u.f HST_ATTACH.STATE 0 = 1))) ∧
  (∀ (s : State) (tag : Fin 1024) (data : Option (List (BitVec 8))) (res : MemRes), match find tag.val s.host.reads with
    | none => exec (.completion tag data res) s = .next { s.setOn HST_EVENT.UNEXP_CPL 0 true with res := .ok } ∧
      exec (.completionTimeout tag) s = .next s
    | some r =>
      (match data with
      | some b => exec (.completion tag data res) s =
          .next ((s.dropRead tag).withRes res fun u => u.hostData r (padTo r.len (b.take r.len)))
      | none => answers (.completion tag data res) s fun u => u.on HST_EVENT.CPL_ERR 0 = true) ∧
      answers (.completionTimeout tag) s (fun u => u.on HST_EVENT.CPL_TMO 0 = true ∧
        u.f HST_TMOCNT.COUNT 0 = (let n := s.f HST_TMOCNT.COUNT 0; if n + 1 < 2 ^ 32 then n + 1 else n))) ∧
  (∀ (s : State) (p : Plot) (agent : Agent),
    let there := s.on HST_LINK.DL_UP 0 = true ∧
      ((s.released = true ∧ s.fnThere p = true) ∨ (s.recovering = true ∧ p.val = 0))
    let reach := s.acts agent = true ∧ match agent with
      | .plot q => q.val = 0 ∨ q.val = p.val
      | _ => True
    let gone := fun (cause : Nat) (u : State) => u.f HST_ATTACH.STATE p = 1 ∧ u.f HST_ATTACH.CAUSE p = cause ∧
      (∀ n ∈ s.openStreams p, s.stream n ≠ none → u.on HRW_S_STAT.PAUSED n = true) ∧
      (s.detached p = true → u.f HST_ATTACH.REBASE p = s.f HST_ATTACH.REBASE p ∧ (u.fn p).rebasing = (s.fn p).rebasing) ∧
      (s.detached p = false → u.on HST_RB_CTL.BUSY p = false ∧ (u.fn p).rebasing = none)
    (¬there → exec (.busMasterDisable p) s = .next s ∧ exec (.d3hot p) s = .next s ∧ exec (.d0Return p) s = .next s) ∧
    (there →
      ((s.fn p).master = false → exec (.busMasterDisable p) s = .next s) ∧
      ((s.fn p).master = true → answers (.busMasterDisable p) s fun u => (u.fn p).master = false ∧ (s.released = true → gone 3 u)) ∧
      ((s.fn p).d3hot = true → exec (.d3hot p) s = .next s) ∧
      ((s.fn p).d3hot = false → answers (.d3hot p) s fun u => (u.fn p).d3hot = true ∧ (s.released = true → gone 4 u)) ∧
      exec (.d0Return p) s = .next (s.setFn p { s.fn p with d3hot := false })) ∧
    (reach → answers (.detach agent p) s (gone 5)) ∧ (¬reach → exec (.detach agent p) s = .next s)) ∧
  (∀ (s : State) (p : Plot) (vec : Fin 256),
    let v := findD {} (vecKey p vec) s.vecs
    let ended := { s with vecs := put (vecKey p vec) { v with interval := false, waiting := false } s.vecs }
    (v.interval = false → exec (.msiX p vec) s = .next s) ∧
    (v.interval = true → v.waiting = false → exec (.msiX p vec) s = .next ended) ∧
    (v.interval = true → v.waiting = true → exec (.msiX p vec) s = .next (ended.notify p vec))) ∧
  (∀ (s : State) (p : Plot) (off : BitVec 30) (size : Nat),
    let fits := (size = 4 ∨ size = 8) ∧ off.toNat % size = 0
    (s.barReaches p = false ∨ fits → exec (.barAccessError p off size) s = .next s) ∧
    (s.barReaches p = true → ¬fits → exec (.barAccessError p off size) s = .next (s.writeDropped (.plot p) off.toNat)))

/-- HST_RB_CTL.GO by an agent that reaches the page sets ERR unless the function is DETACHED, no rebase runs, and the
selected queue or stream is the plot's with an allowed base; else a stream takes its base at once, and a queue takes
its new rings with TAIL at HEAD and BUSY set, until REBASE_DONE has written the ring, clears BUSY and the queue's
REBASE bit. RECLAIM with token 0 opens a session with a nonzero token where none is open, with the open session's
token it ends with it, and a DETACHED function is attached again once no queue waits to be rebased (BUSY else); any
other token is refused as OWNED, and that refusal is written no sooner than 10 ms after the fetch. Which agents and
parts act while a reset or a lost supply holds them is notes/assumptions/64. A command whose own condition fails
leaves the state as it is: the model's choice, notes/assumptions/1. -/
def Obligations.ReattachResults : Prop :=
  (∀ (s : State) (agent : Agent) (p : Plot),
    let reach := s.acts agent = true ∧ match agent with
      | .plot q => q.val = 0 ∨ q.val = p.val
      | _ => True
    let i := s.f HST_RB_SEL.INDEX p
    let q := 8 * p.val + i
    let base := s.f HST_RB_BASE.ADDR p * 4096
    let cr := s.f HST_RB_CRBASE.ADDR p * 4096
    let kind := s.on HST_RB_SEL.KIND p
    let err := s.setOn HST_RB_CTL.ERR p true
    (¬reach → exec (.rebase agent p) s = .next s) ∧
    (reach → s.detached p = false ∨ s.on HST_RB_CTL.BUSY p = true → exec (.rebase agent p) s = .next err) ∧
    (reach → s.detached p = true → s.on HST_RB_CTL.BUSY p = false →
      (kind = true → match s.stream i with
        | none => exec (.rebase agent p) s = .next err
        | some y => exec (.rebase agent p) s = .next
          (if s.streamPlot i = p.val ∧ opSpace base = 1 then s.setStream i { y with host := base } else err)) ∧
      (kind = false →
        let bad := 8 ≤ i ∨ s.on DRL_Q_CFG.EN q = false ∨ s.qHost q = false ∨ 2 ≤ opSpace base ∨ 2 ≤ opSpace cr
        (bad → exec (.rebase agent p) s = .next err) ∧
        (¬bad → answers (.rebase agent p) s fun u => u.on HST_RB_CTL.BUSY p = true ∧ (u.fn p).rebasing = some q ∧
          u.f DRL_Q_TAIL.COUNT q = s.f DRL_Q_HEAD.COUNT q % 2 ^ 32 ∧ u.f DRL_Q_BASE.ADDR q = s.f HST_RB_BASE.ADDR p ∧
          u.f DRL_CR_BASE.ADDR q = s.f HST_RB_CRBASE.ADDR p))) ∧
    (match (s.fn p).rebasing with
    | none => exec (.rebaseDone p) s = .next s
    | some k => answers (.rebaseDone p) s fun u => u.on HST_RB_CTL.BUSY p = false ∧ (u.fn p).rebasing = none ∧
      u.bitF HST_ATTACH.REBASE p (k % 8) = false ∧ (u.queue k).rebased = true)) ∧
  (∀ (s : State) (e : Fin 4096), match s.entry e with
    | some x => x.opcode = 0x0F →
      let p := x.plot
      let ended := fun (r : Reply) (u : State) => (u.entry e).bind (·.reply) = some r
      let n := x.pk 8 4
      let waits := s.detached p = true ∧ s.f HST_ATTACH.REBASE p ≠ 0
      let owned : Reply := { status := stLease, detail := dtOwned }
      (x.state = .running → x.begun = false → x.reply = none → match (s.fn p).token with
        | none =>
          (n ≠ 0 → answers (.reclaim e) s (ended owned)) ∧
          (n = 0 → waits → answers (.reclaim e) s (ended { status := stBusy })) ∧
          (n = 0 → ¬waits → answers (.reclaim e) s fun u => match (u.fn p).token with
            | some k => k ≠ 0 ∧ k < 2 ^ 32 ∧ ended { result := k } u ∧ u.on HST_ATTACH.SESSION p = true ∧ u.detached p = false
            | none => False)
        | some k =>
          (n ≠ k → answers (.reclaim e) s (ended owned)) ∧
          (n = k → waits → answers (.reclaim e) s (ended { status := stBusy })) ∧
          (n = k → ¬waits → answers (.reclaim e) s fun u => ended { result := k } u ∧ u.detached p = false)) ∧
      (x.frame = none → x.state = .running → match x.reply, x.since with
        | some y, some at' => y.detail = dtOwned →
          (s.since at' < 1000000 → exec (.reclaimRefusalReply e) s = .next s) ∧
          (1000000 ≤ s.since at' → x.target = none → answers (.reclaimRefusalReply e) s fun u => u.entry e = none ∧
            u.f DRL_CR_HEAD.COUNT (p * 8 + x.queue) = (s.f DRL_CR_HEAD.COUNT (p * 8 + x.queue) + 1) % 2 ^ 32)
        | _, _ => True)
    | none => exec (.reclaimRefusalReply e) s = .next s)

/-- On a link that is up, a flit whose size, CRC or zero bytes are wrong, and a silence of the receiver, are answered
with an idle flit that carries NAK, and nothing of such a flit is taken. A good flit takes out of the retry buffer
what its ACK covers; with RESEND it has the rest sent again, and a sequenced flit is accepted exactly when its FSEQ
follows the last one accepted (elsewhere NAK), its messages being given to the inbox in order. On a link that is down
a flit does nothing. A receive lane that fails is recorded and narrows the receive width to what the good lanes allow.
A message that its receiver takes leaves the front of the inbox. A command whose own condition fails leaves the state
as it is: the model's choice, notes/assumptions/1. -/
def Obligations.LinkLayerResults : Prop :=
  (∀ (s : State) (k : Fin 7) (lane : Fin 9),
    let l := s.link k
    let nak := s.putFlit k 0 3 0 []
    (s.flows k = false → exec (.flitReceive k none) s = .next s ∧ exec (.rxSilence k) s = .next s) ∧
    (s.flows k = true → exec (.flitReceive k none) s = .next nak ∧ exec (.rxSilence k) s = .next nak) ∧
    (s.flows k = false ∨ laneCount k ≤ lane.val ∨ l.rxFailed.testBit lane = true → exec (.laneFail k lane) s = .next s) ∧
    (s.flows k = true → lane.val < laneCount k → l.rxFailed.testBit lane = false → answers (.laneFail k lane) s fun u =>
      (u.link k).rxFailed.testBit lane = true ∧ u.rxWidth k = min (s.rxWidth k)
        (widthFor (laneCount k - countBits (laneCount k) (u.link k).rxFailed)) ∧ u.txWidth k = s.txWidth k)) ∧
  (∀ (s : State) (k : Fin 7) (b : List Byte),
    let l := s.link k
    let good := b.length = 640 ∧ numAt b 636 4 = crc32c (b.take 636) ∧ numAt b 7 1 = 0 ∧ numAt b 4 1 < 4 ∧
      (k.val = 6 → numAt b 632 4 = 0)
    let idle := (numAt b 4 1).testBit 1
    let next := numAt b 0 2 = (l.rxSeq + 1) % 2 ^ 16
    (s.flows k = false → exec (.flitReceive k (some b)) s = .next s) ∧
    (s.flows k = true → ¬good → exec (.flitReceive k (some b)) s = .next (s.putFlit k 0 3 0 [])) ∧
    (s.flows k = true → good →
      (l.out = [] → answers (.flitReceive k (some b)) s fun u => (u.link k).retry = l.retry.filter (fun x =>
        decide (0 < modDiff 16 x.1 (numAt b 2 2)) && decide (modDiff 16 x.1 (numAt b 2 2) < 2 ^ 15))) ∧
      (idle = true ∨ ¬next → answers (.flitReceive k (some b)) s fun u => (u.link k).rxSeq = l.rxSeq ∧ (u.link k).inbox = l.inbox) ∧
      (idle = false → next → answers (.flitReceive k (some b)) s fun u => (u.link k).rxSeq = numAt b 0 2 ∧
        (u.link k).inbox = ((s.takeUnits k 40 ((b.drop 8).take 624)).link k).inbox) ∧
      (1 ≤ numAt b 5 1 → numAt b 5 1 ≤ laneCount k → answers (.flitReceive k (some b)) s fun u =>
        (u.link k).txFailed.testBit (numAt b 5 1 - 1) = true))) ∧
  (∀ (s : State) (k : Fin 7), match (s.link k).inbox with
    | [] => True
    | m :: r => match s.takeMsg k (numAt m 0 1) with
      | some (m', u) => m' = m ∧ (u.link k).inbox = r ∧ ∀ j : Fin 7, j ≠ k → u.link j = s.link j
      | none => False)

/-- YK_CFG by plot 0, Drill, Reeve or the TAP enables or disables the yoke, and sets AGREE and YLOOPS while no loop is
armed on it; the link trains up into its state with a HELLO and falls with LINK_DOWN, logged. Each message is taken
from the front of the inbox and acted on only in a state that runs. A HELLO of another version makes the yoke
INCOMPAT, one of the same role also records ROLE_CONFLICT. TIME is sent every 100 µs and its sixteenth good exchange
sets TVALID; PAIR pairs a follower that is alone or rejoining; a HEARTBEAT is sent at its time with its number, one
received records its number, and at a deadline without one HB_MISSED is counted, two in a row being the loss of the
twin. REJOIN asks for pairing again. The same of a writer that may not: the write is dropped and logged. Which agents
and parts act while a reset or a lost supply holds them is notes/assumptions/64. A command whose own condition fails
leaves the state as it is: the model's choice, notes/assumptions/1. -/
def Obligations.YokeLinkResults : Prop :=
  (∀ (s : State) (res : MemRes), ∀ i type, (i, type) ∈ [(Instr.hello, 1), (.time, 2), (.heartbeat, 3), (.arm, 4), (.digest, 5),
      (.missing, 6), (.hash, 7), (.xreq, 8), (.xdata res, 9), (.xack, 0xA), (.xreport, 0xB), (.pair, 0xC)] →
    match (s.link 6).inbox with
    | [] => exec i s = .next s
    | m :: r => (numAt m 0 1 ≠ type → exec i s = .next s) ∧
      (numAt m 0 1 = type → s.ykAlive = false → exec i s = .next (s.setLink 6 { s.link 6 with inbox := r }))) ∧
  (∀ (s : State) (agent : Agent) (en : Bool) (agree : BitVec 10) (loops : BitVec 16),
    let acts := s.acts agent = true
    let may := match agent with
      | .plot p => p.val = 0
      | _ => True
    (¬acts → exec (.yokeEnable agent en agree loops) s = .next s ∧ exec (.rejoin agent) s = .next s) ∧
    (acts → ¬may → exec (.yokeEnable agent en agree loops) s = .next (s.writeDropped agent 0x8) ∧
      exec (.rejoin agent) s = .next (s.writeDropped agent 0xC)) ∧
    (acts → may → answers (.yokeEnable agent en agree loops) s fun u => u.on YK_CFG.EN 0 = en ∧
      (s.ykArmedMask ≠ 0 → u.f YK_CFG.YLOOPS 0 = s.f YK_CFG.YLOOPS 0 ∧ u.f YK_CFG.AGREE 0 = s.f YK_CFG.AGREE 0) ∧
      (s.ykArmedMask = 0 → u.f YK_CFG.YLOOPS 0 = loops.toNat ∧ u.f YK_CFG.AGREE 0 =
        if 10 ≤ agree.toNat ∧ agree.toNat ≤ 1000 then agree.toNat else s.f YK_CFG.AGREE 0) ∧
      (en = true → s.on YK_CFG.EN 0 = false → s.ys ≠ ysIncompat → u.ys = ysAlone ∧ u.linkState 6 = 1) ∧
      (en = false → s.on YK_CFG.EN 0 = true → u.linkState 6 = 0 ∧ (s.ys ≠ ysIncompat → s.yoke.from' ≠ ysIncompat → u.ys = ysOff))) ∧
    (acts → may → s.ykAlive = false → exec (.rejoin agent) s = .next s) ∧
    (acts → may → s.ykAlive = true → answers (.rejoin agent) s fun u => u.yoke.rejoin = true ∨ u.ys = ysPaired)) ∧
  (∀ s : State,
    let l := s.link 6
    let tx := widthFor (9 - countBits 9 l.txFailed)
    let rx := widthFor (9 - countBits 9 l.rxFailed)
    (s.linkState 6 ≠ 1 ∨ s.on YK_CFG.EN 0 = false ∨ tx = 0 ∨ rx = 0 → exec (.linkUp 6) s = .next s) ∧
    (s.linkState 6 = 1 → s.on YK_CFG.EN 0 = true → tx ≠ 0 → rx ≠ 0 → answers (.linkUp 6) s fun u => u.linkState 6 = 2 ∧
      u.txWidth 6 = tx ∧ u.rxWidth 6 = rx) ∧
    (s.linkState 6 ≠ 2 → exec .linkDown s = .next s) ∧
    (s.linkState 6 = 2 → answers .linkDown s fun u => u.linkState 6 = 1 ∧ u.on YK_EVENT.LINK_DOWN 0 = true ∧
      u.yoke.incoming = none ∧ u.yoke.reported = false) ∧
    let due := match s.yoke.timeSent with
      | some t => 10000 ≤ s.since t
      | none => True
    (¬(s.ykAlive = true ∧ s.linkState 6 = 2 ∧ due) → exec .timeTick s = .next s) ∧
    (s.ykAlive = true → s.linkState 6 = 2 → due → answers .timeTick s fun u => u.yoke.timeSent = some s.now) ∧
    (s.ykAlive = false ∨ s.on YK_STATUS.TVALID 0 = false ∨ s.ykNow < s.hbDue s.yoke.hbNext → exec .heartbeatDue s = .next s) ∧
    (s.ykAlive = true → s.on YK_STATUS.TVALID 0 = true → s.hbDue s.yoke.hbNext ≤ s.ykNow → answers .heartbeatDue s fun u =>
      u.yoke.hbNext = s.yoke.hbNext + 1 ∧ u.isl.hrec = [] ∧ (s.isl.hrec ≠ [] → u.yoke.hrec = some s.isl.hrec)) ∧
    match s.yoke.judge with
    | none => exec .heartbeatDeadline s = .next s
    | some n =>
      let judged := (s.ys = ysPaired ∨ s.ys = ysRejoin) ∧ s.hbDeadline n ≤ s.ykNow
      let came := s.yoke.hbSeen = true ∧ modDiff 32 (s.f YK_HB_LAST.N 0) n < 2 ^ 31
      (¬judged → exec .heartbeatDeadline s = .next s) ∧
      (judged → answers .heartbeatDeadline s fun u => (came → u.yoke.judge = some (n + 1) ∧ u.yoke.misses = 0 ∧ u.ys = s.ys) ∧
        (¬came → u.on YK_EVENT.HB_MISSED 0 = true ∧ (s.yoke.misses = 0 → u.yoke.misses = 1 ∧ u.ys = s.ys) ∧
          (1 ≤ s.yoke.misses → u.ys = ysSingle ∧ u.on YK_EVENT.TWIN_LOST 0 = true)))) ∧
  (∀ s : State, match (s.link 6).inbox with
    | [] => True
    | m :: r => s.ykAlive = true →
      let t := s.setLink 6 { s.link 6 with inbox := r }
      let same := numAt m 6 1 = 1 ↔ s.isLead = true
      let pairs := s.isLead = false ∧ (s.ys = ysAlone ∨ (s.ys = ysRejoin ∧ s.yoke.rejoin = true))
      (numAt m 0 1 = 1 →
        (numAt m 4 1 ≠ s.boot.ykl.1 → exec .hello s = .next (t.incompat YK_EVENT.INCOMPAT)) ∧
        (numAt m 4 1 = s.boot.ykl.1 → same → exec .hello s = .next (t.incompat YK_EVENT.ROLE_CONFLICT)) ∧
        (numAt m 4 1 = s.boot.ykl.1 → ¬same → answers .hello s fun u => (u.link 6).hello = true ∧
          u.yoke.twinEpoch = numAt m 8 4 ∧ (s.ys = ysSingle → u.ys = ysRejoin ∨ u.ys = ysPaired))) ∧
      (numAt m 0 1 = 2 → answers .time s fun u => u.yoke.seenTx = numAt m 4 8 ∧ u.yoke.seenAt = s.now ∧
        (numAt m 12 8 = 0 ∨ s.isLead = true → u.f YK_TIME_OFF.OFF 0 = s.f YK_TIME_OFF.OFF 0) ∧
        (numAt m 12 8 ≠ 0 → s.isLead = true → 15 ≤ s.yoke.good → u.on YK_STATUS.TVALID 0 = true) ∧
        (numAt m 12 8 ≠ 0 → s.isLead = false → u.f YK_TIME_OFF.OFF 0 = (BitVec.ofInt 64 (slewTo s.ykOff
          ((((numAt m 20 8 : Nat) : Int) - (numAt m 12 8 : Nat) + ((numAt m 4 8 : Nat) - (s.now : Nat))).tdiv 2)
          (match s.yoke.slewAt with
          | some at' => s.since at' / 2000
          | none => 0))).toNat)) ∧
      (numAt m 0 1 = 3 → answers .heartbeat s fun u => (u.link 6).inbox = r ∧ u.f YK_HB_LAST.N 0 = numAt m 4 4 ∧ u.yoke.hbSeen = true) ∧
      (numAt m 0 1 = 0xC → (¬pairs → exec .pair s = .next t) ∧
        (pairs → answers .pair s fun u => u.ys = ysPaired ∧ u.yoke.tpair = some (numAt m 8 8) ∧
          u.on YK_STATUS.REJOIN_TWIN 0 = false)))

/-- XQ_DOORBELL by an agent that may sets TAIL unless it lies more than the queue ahead, and disabling the queue
clears EN; another's write is dropped and logged. XREQ is acknowledged at once where its transfer is done already or
is not allowed; a signal writes its 8 bytes and a copy opens its transfer, which XDATA fills in order and completes.
XACK gives its transfer a result, and XREPORT resolves what the link lost. ARM records the twin's loop, HASH its
checkpoint, DIGEST and MISSING its part of a frame: a frame already decided counts as late, and where both digests are
there, the frame is agreed exactly when digest and length are equal. At the agreement point a frame without both is
decided. Which agents and parts act while a reset or a lost supply holds them is notes/assumptions/64. A command whose
own condition fails leaves the state as it is: the model's choice, notes/assumptions/1. -/
def Obligations.YokeTransferAndAgreementResults : Prop :=
  (∀ (s : State) (agent : Agent) (tail : BitVec 32),
    let acts := s.acts agent = true
    let may := match agent with
      | .plot p => p.val = 0
      | _ => True
    let ahead := modDiff 32 tail.toNat (s.f YK_XQ_HEAD.COUNT 0)
    let size := 2 ^ s.f YK_XQ_CFG.LOG2SIZE 0
    (¬acts → exec (.xqDoorbell agent tail) s = .next s ∧ exec (.xqDisable agent) s = .next s) ∧
    (acts → ¬may → exec (.xqDoorbell agent tail) s = .next (s.writeDropped agent 0x6C) ∧
      exec (.xqDisable agent) s = .next (s.writeDropped agent 0x68)) ∧
    (acts → may → size < ahead → exec (.xqDoorbell agent tail) s = .next s) ∧
    (acts → may → ahead ≤ size → exec (.xqDoorbell agent tail) s = .next (s.setF YK_XQ_TAIL.COUNT 0 tail.toNat).xqGo) ∧
    (acts → may → s.on YK_XQ_CFG.EN 0 = false → exec (.xqDisable agent) s = .next s) ∧
    (acts → may → s.on YK_XQ_CFG.EN 0 = true → answers (.xqDisable agent) s fun u => u.on YK_XQ_CFG.EN 0 = false ∧
      u.yoke.xqNext = (s.yoke.xqNext + modDiff 32 (s.f YK_XQ_TAIL.COUNT 0) s.yoke.xqNext) % 2 ^ 32)) ∧
  (∀ (s : State) (res : MemRes), match (s.link 6).inbox with
    | [] => True
    | m :: r => s.ykAlive = true →
      let t := s.setLink 6 { s.link 6 with inbox := r }
      let op := numAt m 2 1
      let id := numAt m 4 4
      let len := numAt m 8 4
      let dst := numAt m 16 8
      let copy := op = 1 ∧ 64 ≤ len ∧ len ≤ 2 ^ 24 ∧ len % 64 = 0 ∧ dst % 64 = 0 ∧ dst + len ≤ granarySpan
      let word := op = 2 ∧ len = 8 ∧ dst % 8 = 0 ∧ dst + 8 ≤ granarySpan
      let v := t.mapYoke fun y => { y.see id with incoming := none }
      (numAt m 0 1 = 8 →
        (s.yoke.done.contains id = true → exec .xreq s = .next (t.sendXack id 1)) ∧
        (s.yoke.done.contains id = false → copy → exec .xreq s = .next (v.mapYoke fun y =>
          { y with incoming := some { id := id, len := len, dst := dst, got := 0 } })) ∧
        (s.yoke.done.contains id = false → word → exec .xreq s = .next (match v.writeNormal dst 2 2 ((m.drop 24).take 8) with
          | (true, u) => u.xexecuted id
          | (false, u) => u.sendXack id 2)) ∧
        (s.yoke.done.contains id = false → ¬copy → ¬word → exec .xreq s = .next (v.sendXack id 2))) ∧
      (numAt m 0 1 = 9 → match s.yoke.incoming with
        | none => exec (.xdata res) s = .next (t.withRes res fun u => u)
        | some w => (numAt m 4 4 ≠ w.id ∨ numAt m 8 4 ≠ w.got → exec (.xdata res) s = .next (t.withRes res fun u => u)) ∧
          (numAt m 4 4 = w.id → numAt m 8 4 = w.got →
            let n := min 512 (w.len - w.got)
            match State.writeNormal { t with res := res } (w.dst + w.got) 2 9 ((m.drop 16).take n) with
            | (ok, u) =>
              (w.got + n < w.len → exec (.xdata res) s = .next { u.mapYoke (fun y =>
                { y with incoming := some { w with got := w.got + n, ok := w.ok && ok } }) with res := .ok }) ∧
              (w.len ≤ w.got + n → (w.ok && ok) = true → exec (.xdata res) s = .next { u.xexecuted w.id with res := .ok }) ∧
              (w.len ≤ w.got + n → (w.ok && ok) = false → answers (.xdata res) s fun x => x.yoke.incoming = none ∧
                x.yoke.done = u.yoke.done))) ∧
      (numAt m 0 1 = 0xA → s.xqRuns = false → match s.yoke.xq with
        | [] => exec .xack s = .next t
        | [x] => x.done = none →
          (x.id ≠ some id → answers .xack s fun u => u.yoke.xq = [x] ∧ (u.link 6).inbox = r) ∧
          (x.id = some id → answers .xack s fun u => u.yoke.xq = [] ∧
            u.f YK_XQ_HEAD.COUNT 0 = (s.f YK_XQ_HEAD.COUNT 0 + 1) % 2 ^ 32)
        | _ => True) ∧
      (numAt m 0 1 = 0xB → answers .xreport s fun u => u.yoke.lost = [] ∧ u.yoke.reported = true ∧
        (s.yoke.lost ≠ [] → u.on YK_EVENT.XRESOLVED 0 = true))) ∧
  (∀ s : State, match (s.link 6).inbox with
    | [] => True
    | m :: r => s.ykAlive = true →
      let t := s.setLink 6 { s.link 6 with inbox := r }
      let l := numAt m 2 1
      let k := numAt m 4 4
      let f := s.ykFrame l k
      let late := match f.start with
        | some st => before (s.agreeAt l st) s.ykNow = true ∧ s.pairedSince st = true ∧ s.armsAgree l = true
        | none => False
      let counted := fun u : State => u.f YK_REL_LATE.COUNT 0 = (let n := s.f YK_REL_LATE.COUNT 0; if n + 1 < 2 ^ 32 then n + 1 else n)
      (numAt m 0 1 = 4 → (16 ≤ l → exec .arm s = .next t) ∧
        (l < 16 → answers .arm s fun u => find l u.yoke.arms = some
          { armed := numAt m 3 1 = 1, period := numAt m 4 4, deadline := numAt m 8 4, start := numAt m 12 8 })) ∧
      (numAt m 0 1 = 5 →
        (16 ≤ l → exec .digest s = .next t) ∧
        (l < 16 → s.isDecided l k = true → exec .digest s = .next (t.bump YK_REL_LATE.COUNT 0)) ∧
        (l < 16 → s.isDecided l k = false → late → answers .digest s fun u => u.isDecided l k = true ∧ counted u ∧
          u.f YK_REL_LAST.OUTCOME 0 = 3) ∧
        (l < 16 → s.isDecided l k = false → ¬late → exec .digest s =
          .next (t.judgeFrame { f with far := some (numAt m 8 8, numAt m 16 4) } false))) ∧
      (numAt m 0 1 = 6 → (16 ≤ l ∨ s.isDecided l k = true → exec .missing s = .next t) ∧
        (l < 16 → s.isDecided l k = false → exec .missing s = .next (t.judgeFrame { f with gone := true } false))) ∧
      (numAt m 0 1 = 7 → match s.yoke.hashes.find? (fun x => x.1 = (l, k)) with
        | none => answers .hash s fun u => u.f YK_DIVCNT.COUNT 0 = s.f YK_DIVCNT.COUNT 0
        | some a => (a.2 = numAt m 8 8 → answers .hash s fun u => u.f YK_DIVCNT.COUNT 0 = s.f YK_DIVCNT.COUNT 0) ∧
          (a.2 ≠ numAt m 8 8 → answers .hash s fun u => u.on YK_EVENT.DIVERGENCE 0 = true))) ∧
  (∀ (s : State) (l : Fin 16) (k : BitVec 32), match s.yoke.frames.find? (fun f => f.loop = l.val && f.k = k.toNat) with
    | none => exec (.agreementPoint l k) s = .next s
    | some f => match f.start with
      | none => exec (.agreementPoint l k) s = .next s
      | some st => exec (.agreementPoint l k) s =
        .next (if before s.ykNow (s.agreeAt l st) then s else s.judgeFrame f true)) ∧
  (∀ (s : State) (f : YkFrame) (due : Bool), match f.start, f.loc, f.far with
    | some st, some a, some b => s.pairedSince st = true → s.armsAgree f.loop = true →
      before (s.agreeAt f.loop st) s.ykNow = false → s.outcome f due = some (if (a.1, a.2.1) = b then 1 else 2)
    | _, _, _ => True)

/-- SWT_CFG.EN by plot 0 or Reeve, where the geometry is legal, sets EN and takes every link that is used to TRAINING;
another agent's write is dropped and logged. A swath HELLO whose sender is the neighbour that the geometry puts on
that port brings the link UP with its peer and epoch, another sets CABLE_ERR. A link that goes down sets LINK_DOWN and
is counted and logged. LSTATE news of another package is kept where its sequence is newer, and ignored otherwise. A
message for another package is forwarded. A request without an answer for its time is removed. A report resolves the
loss records of its package. Which agents and parts act while a reset or a lost supply holds them is
notes/assumptions/64. A command whose own condition fails leaves the state as it is: the model's choice,
notes/assumptions/1. -/
def Obligations.FabricLinkResults : Prop :=
  (∀ (s : State) (agent : Agent),
    let may := agent = .reeve ∨ agent = .plot 0
    (s.acts agent = false → exec (.fabricEnable agent) s = .next s) ∧
    (s.acts agent = true → ¬may → exec (.fabricEnable agent) s = .next (s.writeDropped agent 0x100000)) ∧
    (s.acts agent = true → may → s.on SWT_CFG.EN 0 = true ∨ s.geomBad = true → exec (.fabricEnable agent) s = .next s) ∧
    (s.acts agent = true → may → s.on SWT_CFG.EN 0 = false → s.geomBad = false → answers (.fabricEnable agent) s fun u =>
      u.on SWT_CFG.EN 0 = true ∧ ∀ n < 6, u.f SWT_LSTAT.STATE n = if s.linkUsed n then 1 else s.f SWT_LSTAT.STATE n)) ∧
  (∀ (s : State) (k : Fin 6) (res : MemRes),
    let l := s.link k
    (∀ i type, (i, type) ∈ [(Instr.swathHello k, 0x20), (.lstate k, 0x21), (.rdreq k res, 0x22), (.rdrsp k res, 0x23),
        (.wr k res, 0x24), (.wr64 k res, 0x25), (.atom k res, 0x26), (.ack k, 0x27), (.atomr k, 0x28), (.rptreq k, 0x29),
        (.report k, 0x2A), (.bind k res, 0x2B), (.bdone k res, 0x2C)] →
      match l.inbox with
      | [] => exec i s = .next s
      | m :: r => (numAt m 0 1 ≠ type → exec i s = .next s) ∧
        (numAt m 0 1 = type → 0x22 ≤ type → numAt m 2 1 ≠ s.ownPkg → exec i s =
          .next (((s.setLink k { l with inbox := r }).freeUnits k (swVc m) (msgUnits m)).swForward (some k) m))) ∧
    (s.linkState k ≠ 1 ∨ s.on SWT_CFG.EN 0 = false → exec (.linkUp k.castSucc) s = .next s) ∧
    (s.linkState k = 1 → s.on SWT_CFG.EN 0 = true → answers (.linkUp k.castSucc) s fun u => u.linkState k = 1 ∧
      u.rxWidth k = widthFor (8 - countBits 8 l.rxFailed) ∧ u.txWidth k = widthFor (8 - countBits 8 l.txFailed)) ∧
    (s.linkState k = 0 → exec (.swathLinkDown k) s = .next s) ∧
    (s.linkState k ≠ 0 → answers (.swathLinkDown k) s fun u => u.linkState k = 1 ∧ u.on SWT_LSTAT.LINK_DOWN k = true ∧
      (u.link k).inbox = [] ∧ (u.link k).hello = false ∧
      u.acre.lseq = if s.linkState k = 2 then (s.acre.lseq + 1) % 2 ^ 32 else s.acre.lseq)) ∧
  (∀ (s : State) (k : Fin 6), match (s.link k).inbox with
    | [] => True
    | m :: r =>
      let t := (s.setLink k { s.link k with inbox := r }).freeUnits k (swVc m) (msgUnits m)
      let p := numAt m 6 1
      let j := numAt m 7 1
      let seq := numAt m 10 4
      let news := p ≠ s.ownPkg ∧ match find (8 * p + j) s.acre.lstate with
        | some x => modDiff 32 seq x.1 ≠ 0 ∧ modDiff 32 seq x.1 < 2 ^ 31
        | none => True
      let neighbour := (s.swStep s.ownPkg (k / 2) (decide (k.val % 2 = 1))).1
      let c := [numAt m 10 1 % 4, numAt m 10 1 / 4 % 4, numAt m 10 1 / 16 % 4]
      let d := [numAt m 11 1 % 4 + 1, numAt m 11 1 / 4 % 4 + 1, numAt m 11 1 / 16 % 4 + 1]
      let right := d = s.swDims ∧ s.pkgAt c = neighbour ∧ numAt m 12 1 = if k.val % 2 = 0 then k.val + 1 else k.val - 1
      (numAt m 0 1 = 0x20 → (¬right → exec (.swathHello k) s = .next (t.setOn SWT_LSTAT.CABLE_ERR k true)) ∧
        (right → answers (.swathHello k) s fun u => u.linkState k = 2 ∧ u.f SWT_LSTAT.PEER k = neighbour % 64 ∧
          (u.link k).hello = true ∧ (u.peer neighbour).epoch = numAt m 6 4)) ∧
      (numAt m 0 1 = 0x21 → (¬news → exec (.lstate k) s = .next t) ∧
        (news → answers (.lstate k) s fun u => find (8 * p + j) u.acre.lstate = some (seq, decide (numAt m 8 1 = 2)))) ∧
      (numAt m 2 1 = s.ownPkg → numAt m 0 1 = 0x29 → answers (.rptreq k) s fun u => u.acre = s.acre ∧ u.granary = s.granary) ∧
      (numAt m 2 1 = s.ownPkg → numAt m 0 1 = 0x2A → answers (.report k) s fun u =>
        u.acre.losses = s.acre.losses.filter (fun l => l.dst ≠ numAt m 3 1) ∧ (u.peer (numAt m 3 1)).epoch = numAt m 6 4)) ∧
  (∀ (s : State) (dst : Fin 64) (id : BitVec 32) (read : Bool),
    let lost := fun x : SwReq => x.dst = dst.val ∧ x.id = id.toNat ∧ x.read = read ∧ match x.sent with
      | some t => 200000 ≤ s.since t
      | none => False
    ((∀ x ∈ s.acre.reqs, ¬lost x) → exec (.requestLost dst id read) s = .next s) ∧
    match s.acre.reqs with
    | [x] => lost x → (match x.use with
      | .bind .. => True
      | _ => answers (.requestLost dst id read) s fun u => u.acre.reqs = [])
    | _ => True)

/-- A request whose channel's direct window is held waits. A read for this package changes no memory. A store or
atomic of an ID that is done already is acknowledged without effect; one that no export window admits has no effect
and leaves its ID undone, and one that is admitted writes its bytes at its address, and marks its ID as done. An
answer that matches no outstanding request is counted as late; one that matches removes its request, and a response
without an error to a posted store takes it off its thread's list. A contribution or completion for a Binder operation
that is not global here has no effect on memory. A command whose own condition fails leaves the state as it is: the
model's choice, notes/assumptions/1. -/
def Obligations.RemoteAccessResults : Prop :=
  (∀ (s : State) (k : Fin 6) (res : MemRes), match (s.link k).inbox with
    | [] => True
    | m :: r => numAt m 2 1 = s.ownPkg →
      let src := numAt m 3 1
      let plot := numAt m 4 2 % 512
      let id := numAt m 6 4
      let addr := numAt m 10 6
      let done := (s.peer src).done.contains id
      let t : State := { (s.setLink k { s.link k with inbox := r }).freeUnits k (swVc m) (msgUnits m) with res := res }
      let seen := t.setPeer src ((s.peer src).see id)
      let next := fun u : State => (.next { u with res := .ok } : Out)
      (s.swHeld k 8 = true → exec (.rdreq k res) s = .next s) ∧
      (s.swHeld k 10 = true → exec (.wr k res) s = .next s ∧ exec (.wr64 k res) s = .next s ∧ exec (.atom k res) s = .next s) ∧
      (numAt m 0 1 = 0x22 → s.swHeld k 8 = false →
        let size := numAt m 14 1
        let len := if size = 6 then 64 else 2 ^ (size % 4)
        let may := s.expAdmits src plot (numAt m 8 6) len false = true ∧ (size < 4 ∨ size = 6)
        let answer := fun (u : State) (st : Nat) (b : List Byte) => u.swRespond (swHead 0x23 (if size = 6 then 5 else 2) src
          u.ownPkg 0 (leBytes 2 (numAt m 6 2) ++ leBytes 1 st) ++ padTo (if size = 6 then 64 else 16) b)
        (¬may → exec (.rdreq k res) s = next (answer t 2 [])) ∧
        (may → exec (.rdreq k res) s = match t.farRead (numAt m 8 6) len with
          | (some (b, false), u) => next (answer u 0 b)
          | (some (_, true), u) => next (answer u 3 [])
          | (none, u) => next (answer u 2 []))) ∧
      (s.swHeld k 10 = false → ∀ i type n b, (i, type, n, b) ∈ [(Instr.wr k res, 0x24, 2 ^ (numAt m 16 1 % 4), (m.drop 24).take (2 ^ (numAt m 16 1 % 4))),
          (.wr64 k res, 0x25, 64, (m.drop 16).take 64)] → numAt m 0 1 = type → b.length = n →
        let may := s.expAdmits src plot addr n true
        (done = true → exec i s = next (t.swAck src id 1)) ∧
        (done = false → may = false → exec i s = next (seen.swAck src id 2)) ∧
        (done = false → may = true → exec i s = match seen.farWrite addr b with
          | (true, u) => next ((u.markDone src id).swAck src id 0)
          | (false, u) => next (u.swAck src id 2))) ∧
      (numAt m 0 1 = 0x26 → s.swHeld k 10 = false →
        let n := if numAt m 17 1 = 3 then 8 else 4
        let may := addr % n = 0 ∧ s.expAdmits src plot addr n true = true
        (done = true → exec (.atom k res) s = next (t.swAtomr src id 1 0)) ∧
        (done = false → match atomOp (numAt m 16 1) with
          | none => exec (.atom k res) s = next (seen.swAtomr src id 2 0)
          | some op => (¬may → exec (.atom k res) s = next (seen.swAtomr src id 2 0)) ∧
            (may → exec (.atom k res) s = match seen.farRead addr n with
              | (none, u) => next (u.swAtomr src id 2 0)
              | (some (_, true), u) => next (u.swAtomr src id 3 0)
              | (some (b, false), u) =>
                let a : AtomicOp :=
                  { va := 0, pa := addr, uc := false, wide := decide (numAt m 17 1 = 3), op := op, gd := 0
                    arg := BitVec.ofNat 64 (numAt m 24 8), cmp := BitVec.ofNat 64 (numAt m 32 8), rel := false, upto := 0 }
                match a.result (leNat b) with
                | some v => next (((u.farWrite addr (leBytes n v)).2.markDone src id).swAtomr src id 0 (leNat b))
                | none => next ((u.markDone src id).swAtomr src id 0 (leNat b)))))) ∧
  (∀ (s : State) (k : Fin 6) (res : MemRes), match (s.link k).inbox with
    | [] => True
    | m :: _ => numAt m 2 1 = s.ownPkg →
      let src := numAt m 3 1
      let late := fun u : State => u.acre = s.acre ∧ u.threads = s.threads ∧
        u.f SWT_LATE.COUNT 0 = (let n := s.f SWT_LATE.COUNT 0; if n + 1 < 2 ^ 32 then n + 1 else n)
      let mine := fun (id : Nat) (read : Bool) (x : SwReq) => x.dst = src && x.id = id && x.read = read && x.sent.isSome
      (numAt m 0 1 = 0x27 → s.acre.reqs.find? (mine (numAt m 6 4) false) = none → answers (.ack k) s late) ∧
      (numAt m 0 1 = 0x28 → s.acre.reqs.find? (mine (numAt m 6 4) false) = none → answers (.atomr k) s late) ∧
      (numAt m 0 1 = 0x23 → s.acre.reqs.find? (mine (numAt m 6 2) true) = none → answers (.rdrsp k res) s late) ∧
      match s.acre.reqs with
      | [x] => s.on SWT_DIR.PENDING src = false →
        (mine (numAt m 6 4) false x = true → numAt m 10 1 < 2 → match x.use with
          | .store h _ => numAt m 0 1 = 0x27 → answers (.ack k) s fun u => u.acre.reqs = [] ∧
            u.thread h = (s.thread h).dropPosted (globalPa x.dst x.addr)
          | .atomic h => (match (s.thread h).hold with
            | some (.atomic op) => numAt m 0 1 = 0x28 → s.locked (coreOf h) = false → answers (.atomr k) s fun u =>
              u.acre.reqs = [] ∧ (u.thread h).hold ≠ some (.atomic op)
            | _ => True)
          | _ => True) ∧
        (mine (numAt m 6 2) true x = true → numAt m 0 1 = 0x23 → numAt m 8 1 = 0 → match x.use with
          | .load h => (match (s.thread h).hold with
            | some (.load op) => s.locked (coreOf h) = false → answers (.rdrsp k res) s fun u =>
              u.acre.reqs = [] ∧ (u.thread h).hold ≠ some (.load op)
            | _ => True)
          | _ => True)
      | _ => True) ∧
  (∀ (s : State) (k : Fin 6) (res : MemRes), match (s.link k).inbox with
    | [] => True
    | m :: _ => numAt m 2 1 = s.ownPkg →
      let src := numAt m 3 1
      let id := numAt m 6 4
      let n := numAt m 10 1
      let flags := numAt m 11 1
      let slot := numAt m 12 2
      let first := numAt m 14 2
      let global := n < 64 ∧ s.on BND_OP_CTL.V n = true ∧ s.on BND_OP_ACRE.GLOBAL n = true
      let refused := fun u : State => u.granary = s.granary ∧ u.bnd = s.bnd ∧ (u.peer src).done = ((s.peer src).see id).done
      let taken := fun u : State => (u.peer src).done.contains id = true
      (numAt m 0 1 = 0x2B →
        (flags.testBit 0 = true → ¬(global ∧ first < s.bndElems n) → answers (.bind k res) s refused) ∧
        (flags.testBit 0 = true → global → first < s.bndElems n → answers (.bind k res) s taken) ∧
        (flags.testBit 0 = false → flags.testBit 1 = true → answers (.bind k res) s fun u => taken u ∧
          (global → u.on BND_OP_STAT.FAILED n = true)) ∧
        (flags.testBit 0 = false → flags.testBit 1 = false → 64 ≤ n → answers (.bind k res) s refused) ∧
        (flags.testBit 0 = false → flags.testBit 1 = false → global →
          (s.f BND_OP_ACRE.HOME n ≠ s.ownPkg ∨ s.bndSlots n ≤ slot ∨ s.bndElems n ≤ first → answers (.bind k res) s fun u =>
            u.on BND_OP_STAT.FAILED n = true) ∧
          (s.f BND_OP_ACRE.HOME n = s.ownPkg → slot < s.bndSlots n → first < s.bndElems n →
            s.on BND_OP_STAT.FAILED n = false → first + 8 < s.bndElems n → (s.bndOp n).partials = [] →
            answers (.bind k res) s fun u => taken u ∧ (List.range 8).all (fun i =>
              find (slot * 4096 + first + i) (u.bndOp n).partials = some (numAt m (16 + 8 * i) 8)) = true))) ∧
      (numAt m 0 1 = 0x2C → (¬global → answers (.bdone k res) s refused) ∧ (global → answers (.bdone k res) s taken)))

/-- Without a waiting message of its type a mailbox command changes nothing. In MONITOR and FAIL all but STATUS and
REG_READ are answered REFUSED_STATE, and while the parameter region is written BUSY, with no other change. STATUS and
REG_READ answer the words of the registers. PARAM_BEGIN, PARAM_DATA and PARAM_COMMIT are refused in OPERATIONAL;
elsewhere they take a body of a legal length, and a commit whose body passes starts the write of the copy not in use
and cancels a pending confirmation, a body that fails is PARAM_BAD and starts none. CHECK_READ answers C; CONFIRM with
C sets CONFIRM_PEND, with another value is refused, the third within 600 s locking CONFIRM out. OPERATE in STOPPED
arms the island; STOP and HANDOVER act in OPERATIONAL; CLEAR_EVT clears the events named. No message changes the state
HS or a channel. A command whose own condition fails leaves the state as it is: the model's choice,
notes/assumptions/1. -/
def Obligations.IslandMailboxResults : Prop :=
  (∀ s : State, ∀ i type, (i, type) ∈ [(Instr.status, 1), (.regRead, 2), (.paramBegin, 3), (.paramData, 4), (.paramCommit, 5),
      (.checkRead, 6), (.confirm, 7), (.operate, 8), (.stop, 9), (.handover, 10), (.clearEvt, 11)] → match s.isl.msg with
    | none => exec i s = .next s
    | some (t, _) => (t ≠ type → exec i s = .next s) ∧
      (t = type → 2 < type → s.hs = 0 ∨ s.hs = 6 → exec i s = .next (s.answer 1 [])) ∧
      (t = type → 2 < type → s.hs ≠ 0 → s.hs ≠ 6 → s.on HDL_PWRITE.BUSY 0 = true → exec i s = .next (s.answer 8 [])) ∧
      answers i s fun u => u.hs = s.hs ∧ u.isl.chans = s.isl.chans ∧ u.isl.axes = s.isl.axes ∧ u.auth = s.auth) ∧
  (∀ s : State, match s.isl.msg with
    | none => True
    | some (type, req) =>
      let off := fieldAt req 0 4
      let n := fieldAt req 4 4
      let k := fieldAt req 4 1
      let tells := fun (u : State) (code : Nat) (rsp : List Byte) => u.isl.answer = some (code, rsp) ∧ u.isl.msg = none
      (type = 1 → exec .status s = .next (s.answer 0 (s.hdlWords 0 16))) ∧
      (type = 2 → off % 4 = 0 → 1 ≤ k → k ≤ 64 → exec .regRead s = .next (s.answer 0 (s.hdlWords off k))) ∧
      (type = 2 → off % 4 ≠ 0 ∨ k = 0 ∨ 64 < k → exec .regRead s = .next (s.answer 5 [])) ∧
      (s.hs ≠ 0 → s.hs ≠ 6 → s.on HDL_PWRITE.BUSY 0 = false →
        (type = 3 → (s.hs = 4 → exec .paramBegin s = .next (s.answer 1 [])) ∧
          (s.hs ≠ 4 → ¬(16 ≤ off ∧ off ≤ 130816) → exec .paramBegin s = .next (s.answer 7 [])) ∧
          (s.hs ≠ 4 → 16 ≤ off → off ≤ 130816 → answers .paramBegin s fun u => tells u 0 [] ∧
            u.isl.upload = some { len := off, pcrc := n } ∧ u.on HDL_PWRITE.FAILED 0 = false)) ∧
        (type = 4 ∨ type = 5 → s.hs = 4 ∨ s.isl.upload = none → exec .paramData s = .next (if type = 4 then s.answer 1 [] else s) ∧
          exec .paramCommit s = .next (if type = 5 then s.answer 1 [] else s)) ∧
        (s.hs ≠ 4 → match s.isl.upload with
          | none => True
          | some w =>
            let body := readSpan w.data 0 w.len
            let seq := match s.isl.set with
              | none => 1
              | some p => (p.seq + 1) % 2 ^ 32
            let good := crc32c body = w.pcrc ∧ (parseBody body).isSome = true
            (type = 4 → w.len < off + n → exec .paramData s = .next (s.answer 7 [])) ∧
            (type = 4 → off + n ≤ w.len → answers .paramData s fun u => tells u 0 [] ∧
              u.isl.upload = some { w with data := writeSpan w.data off (req.drop 8) }) ∧
            (type = 5 → ¬good → answers .paramCommit s fun u => tells u 7 [] ∧ u.isl.upload = none ∧
              u.isl.pwrite = s.isl.pwrite ∧ u.regs = s.regs) ∧
            (type = 5 → good → answers .paramCommit s fun u => tells u 0 (leBytes 4 seq) ∧ u.on HDL_PWRITE.BUSY 0 = true ∧
              u.on HDL_STATE.CONFIRM_PEND 0 = false ∧ u.isl.pendAt = none ∧ u.isl.pwrite = some
                { copy := s.otherCopy, bytes := copyBytes seq w.pcrc 0 false false [0, 0, 0, 0] body, confirm := false })) ∧
        (type = 6 → exec .checkRead s = .next (match s.checkNow with
          | some c => if s.hs = 2 ∨ s.hs = 3 then s.answer 0 (leBytes 4 c ++ leBytes 1 (if s.isl.untested then 1 else 0))
            else s.answer 1 []
          | none => s.answer 1 [])) ∧
        (type = 7 → s.hs ≠ 2 → s.hs ≠ 3 → exec .confirm s = .next (s.answer 1 [])) ∧
        (type = 7 → s.hs = 2 ∨ s.hs = 3 → (s.isl.lockoutAt.isSome = true → exec .confirm s = .next (s.answer 6 [])) ∧
          (s.isl.lockoutAt = none → match s.checkNow with
            | none => exec .confirm s = .next (s.answer 1 [])
            | some c => (s.sealsMatch = false → exec .confirm s = .next (s.answer 1 [])) ∧
              (s.sealsMatch = true → off = c → answers .confirm s fun u => tells u 0 [] ∧ u.isl.pendAt = some s.islTime ∧
                u.on HDL_STATE.CONFIRM_PEND 0 = true) ∧
              (s.sealsMatch = true → off ≠ c → answers .confirm s fun u => tells u 2 [] ∧ u.isl.pendAt = s.isl.pendAt ∧
                u.bitF HDL_EVT.EVT 0 6 = true ∧ (u.isl.lockoutAt = some s.islTime ↔
                  2 ≤ (s.isl.refusals.filter fun x => decide (s.islTime - x < ms 600000)).length)))) ∧
        (type = 8 →
          let paired := s.freshTwin.any fun w => (w.hs = 3 || w.hs = 4) && w.pcrc = s.f HDL_PCRC.PCRC 0
          let may := s.hs = 3 ∧ s.faulted = false
          (¬may → exec .operate s = .next (s.answer 1 [])) ∧
          (may → s.confRebind = true → exec .operate s = .next (s.answer 3 [])) ∧
          (may → s.confRebind = false → s.confValid = false → exec .operate s = .next (s.answer 1 [])) ∧
          (may → s.confValid = true → s.irec?.any (·.single) = false → paired = false → exec .operate s = .next (s.answer 4 [])) ∧
          (may → s.confValid = true → s.irec?.any (·.single) = true ∨ paired = true → answers .operate s fun u => tells u 0 [] ∧
            u.on HDL_STATE.ARMED 0 = true ∧ u.isl.armedAt = some s.islTime)) ∧
        (type = 9 → (s.hs ≠ 4 → exec .stop s = .next (s.answer 1 [])) ∧
          (s.hs = 4 → answers .stop s fun u => tells u 0 [] ∧ u.isl.stopping = true)) ∧
        (type = 10 → (¬(s.hs = 4 ∧ s.auth = true ∧ s.on HDL_STATE.DEGRADED 0 = false) → exec .handover s = .next (s.answer 1 [])) ∧
          (s.hs = 4 → s.auth = true → s.on HDL_STATE.DEGRADED 0 = false → answers .handover s fun u => tells u 0 [] ∧
            u.on HDL_STATE.RELINQUISH 0 = true ∧ u.isl.handoverAt = some (s.isl.handoverAt.getD s.islTime))) ∧
        (type = 11 → answers .clearEvt s fun u => tells u 0 [] ∧
          ∀ j, j < 12 → u.bitF HDL_EVT.EVT 0 j = (s.bitF HDL_EVT.EVT 0 j && !off.testBit j))))

/-- Each timed event of the island has its effect from its time on and none before: a pending confirmation ends after
60 s, a lockout after 600 s, ARMED after 60 s, a handover after two frame periods and 2 ms with its event. Two frame
periods without a record count a missing frame; degraded operation past its time and a silent compute side are
recorded; grace that ends switches every path off, gives up authority and enters FAULT. A write of the parameter
region that fails leaves the set in force and sets FAILED; BUSY ends in either case. A reset request held beyond 3 s
records RESET_STUCK. A veto test pulse is sent every second. A low LOCKUP_N is recorded once. REBIND and the confirmed
state follow a written confirmation. A command whose own condition fails leaves the state as it is: the model's
choice, notes/assumptions/1. -/
def Obligations.IslandTimedResults : Prop :=
  (∀ s : State,
    let now := s.islTime
    (match s.isl.edgePhase with
    | .high h => (¬(s.functional = true ∧ ms 3000 < s.cycleTime - h) → exec .resetStuck s = .next s) ∧
      (s.functional = true → ms 3000 < s.cycleTime - h → answers .resetStuck s fun u =>
        u.isl.edgePhase = .stuck none ∧ u.bitF HDL_EVT.EVT 0 0 = true)
    | _ => exec .resetStuck s = .next s) ∧
    (match s.isl.pendAt with
    | none => exec .confirmTimeout s = .next s
    | some b => (now - b < ms 60000 → exec .confirmTimeout s = .next s) ∧
      (ms 60000 ≤ now - b → answers .confirmTimeout s fun u => u.isl.pendAt = none ∧ u.on HDL_STATE.CONFIRM_PEND 0 = false ∧
        u.isl.set = s.isl.set)) ∧
    (match s.isl.lockoutAt with
    | none => exec .lockoutEnd s = .next s
    | some b => (now - b < ms 600000 → exec .lockoutEnd s = .next s) ∧
      (ms 600000 ≤ now - b → answers .lockoutEnd s fun u => u.isl.lockoutAt = none ∧ u.isl.refusals = [])) ∧
    (match s.isl.armedAt with
    | none => exec .armedExpiry s = .next s
    | some b => (now - b < ms 60000 → exec .armedExpiry s = .next s) ∧
      (ms 60000 ≤ now - b → answers .armedExpiry s fun u => u.isl.armedAt = none ∧ u.on HDL_STATE.ARMED 0 = false ∧
        u.hs = s.hs)) ∧
    match s.irec? with
    | none => ∀ j i, (j, i) ∈ [(1, Instr.handoverFailed), (2, .frameWatchdog), (3, .degradeExpired), (4, .localLost), (5, .graceEnd)] →
      exec i s = .next s
    | some r =>
      (match s.isl.handoverAt with
      | none => exec .handoverFailed s = .next s
      | some b => (now - b < 2 * r.framePeriod + 2000000 → exec .handoverFailed s = .next s) ∧
        (2 * r.framePeriod + 2000000 ≤ now - b → answers .handoverFailed s fun u => u.isl.handoverAt = none ∧
          u.on HDL_STATE.RELINQUISH 0 = false ∧ u.bitF HDL_EVT.EVT 0 3 = true ∧ u.auth = s.auth)) ∧
      (let late := s.functional = true ∧ 2 * r.framePeriod ≤ now - s.isl.recordAt
      (¬late → exec .frameWatchdog s = .next s) ∧
      (late → answers .frameWatchdog s fun u => u.isl.recordAt = s.isl.recordAt + 2 * r.framePeriod ∧
        u.f HDL_STATE.MISSCNT 0 = min (s.f HDL_STATE.MISSCNT 0 + 1) (max (s.f HDL_STATE.MISSCNT 0) 255) ∧
        (s.inGrace = false → r.missTol < u.f HDL_STATE.MISSCNT 0 → u.isl.frameLoss = true))) ∧
      (let late := s.on HDL_STATE.DEGRADED 0 = true ∧ ms (r.degradeTime * 1000) ≤ now - s.isl.degradedAt
      (¬late → exec .degradeExpired s = .next s) ∧ (late → answers .degradeExpired s fun u => u.isl.degExpired = true)) ∧
      (let late := 2 * r.framePeriod + 1000000 ≤ now - s.isl.computeAt ∧ s.functional = true ∧ s.isl.localAt = none
      (¬late → exec .localLost s = .next s) ∧ (late → answers .localLost s fun u => u.isl.localAt = some now)) ∧
      match s.isl.localAt with
      | none => exec .graceEnd s = .next s
      | some b => (¬(s.inGrace = true ∧ b + ms r.grace ≤ s.cycleTime) → exec .graceEnd s = .next s) ∧
        (s.inGrace = true → b + ms r.grace ≤ s.cycleTime → answers .graceEnd s fun u =>
          u.isl.chans.all (fun c => !c.2.cmd) = true ∧ u.isl.axes.all (fun a => a.2.state = 4) = true ∧
          u.f HDL_SO_STATE.COMMANDED 0 = 0 ∧ u.on HDL_STATE.VETO_OUT 0 = false ∧ u.auth = false ∧
          u.on HDL_STATE.ARMED 0 = false ∧ u.hs = hsFault ∧ u.isl.localCause = true)) ∧
  (∀ (s : State) (pulsed : BitVec 2),
    let now := s.islTime
    let due := s.functional = true ∧ match s.isl.pulsed with
      | some b => ms 1000 ≤ now - b
      | none => True
    let p := [if pulsed.getLsbD 0 then now else s.isl.pulseAt.getD 0 0, if pulsed.getLsbD 1 then now else s.isl.pulseAt.getD 1 0]
    (¬due → exec (.vetoTestPulse pulsed) s = .next s) ∧
    (due → answers (.vetoTestPulse pulsed) s fun u => u.isl.pulsed = some now ∧ u.isl.pulseAt = p ∧
      (p.any (fun b => decide (ms 1500 ≤ now - b)) = true → u.bitF HDL_EVT.EVT 0 2 = true))) ∧
  (∀ (s : State) (low : Bool),
    let pin := low || s.anyLocked
    (pin = false ∨ s.isl.lockupLow = true → answers (.lockupN low) s fun u => u.isl.lockupLow = pin ∧
      u.isl.lockupBoard = low ∧ u.regs = s.regs ∧ u.isl.localAt = s.isl.localAt) ∧
    (pin = true → s.isl.lockupLow = false → s.functional = true ∨ s.hs = hsNoMachine → answers (.lockupN low) s fun u =>
      u.isl.lockupLow = true ∧ u.bitF HDL_EVT.EVT 0 4 = true ∧ match s.irec? with
        | none => u.isl.localAt = s.isl.localAt
        | some r => (r.lockupReact = false ∨ s.functional = false → u.isl.localAt = s.isl.localAt) ∧
          (r.lockupReact = true → s.functional = true → s.isl.localAt = none → u.isl.localAt = some s.islTime))) ∧
  (∀ (s : State) (ok : Bool), match s.isl.pwrite with
    | none => exec (.paramWriteDone ok) s = .next s
    | some w =>
      let set := (s.flashWrite (copyAt w.copy) w.bytes).readCopy w.copy
      (ok = false → answers (.paramWriteDone ok) s fun u => u.isl.pwrite = none ∧ u.isl.set = s.isl.set ∧
        u.on HDL_PWRITE.BUSY 0 = false ∧ u.on HDL_PWRITE.FAILED 0 = true ∧ u.bitF HDL_EVT.EVT 0 11 = true ∧ u.hs = s.hs) ∧
      (ok = true → w.confirm = true → answers (.paramWriteDone ok) s fun u => u.isl.pwrite = none ∧
        u.on HDL_PWRITE.BUSY 0 = false ∧ u.hs = (if s.hs = hsUnconfirmed then hsStopped else s.hs) ∧
        u.isl.set = set.or s.isl.set) ∧
      (ok = true → w.confirm = false → answers (.paramWriteDone ok) s fun u => u.isl.pwrite = none ∧
        u.on HDL_PWRITE.BUSY 0 = false ∧ u.isl.set = set ∧
        (s.functional = true → u.auth = false ∧ u.hs = hsUnconfirmed)))

/-- STARTUP acts in the state STARTUP alone: a failed test, seals that encode no setting, or outputs that are not off
end in FAIL with everything off; else the seals are latched and the parameter set is read, and the island ends in
NOMACHINE for posture 2, and else in STOPPED when the stored confirmation holds but for its binding and the seals
match, in UNCONFIRMED otherwise. A lockstep mismatch or a missed watchdog switches everything off and enters FAIL; the
reset that follows returns to MONITOR, or runs the image again where its digest is right, keeps the verdicts and
counts lockstep restarts, at most two of which follow. At power-on nothing is kept. A command whose own condition
fails leaves the state as it is: the model's choice, notes/assumptions/1. -/
def Obligations.IslandStartAndFailResults : Prop :=
  (∀ (s : State) (seals : BitVec 12) (test offs : Bool),
    let n := seals.toNat
    let valid := n % 256 ≠ 0 ∧ n % 256 ≠ 255 ∧ (n / 256 % 4 = 1 ∨ n / 256 % 4 = 2) ∧
      n / 1024 = (((List.range 10).map fun k => n / 2 ^ k % 2).sum) % 4
    (s.hs ≠ hsStartup → exec (.startup seals test offs) s = .next s) ∧
    (s.hs = hsStartup → test = false ∨ ¬valid ∨ offs = false → exec (.startup seals test offs) s = .next s.enterFail) ∧
    (s.hs = hsStartup → test = true → valid → offs = true → answers (.startup seals test offs) s fun u =>
      u.f HDL_SEAL.LATCHED 0 = n ∧ u.isl.set = s.readParams ∧
      (n / 256 % 4 = 2 → u.hs = hsNoMachine) ∧
      (n / 256 % 4 = 1 → match s.readParams with
        | none => u.hs = hsUnconfirmed
        | some p => u.hs = (if p.params.island.expectSeal = n ∧ p.valid = true ∧ p.confC = checkValue p.pcrc p.bind p.ids ∧
            p.ids.head? = s.isl.ids.head? then hsStopped else hsUnconfirmed)))) ∧
  (∀ (s : State) (digestOk : Bool),
    let off := fun u : State => u.isl.chans.all (fun c => !c.2.cmd) = true ∧ u.isl.axes.all (fun a => a.2.state = 4) = true ∧
      u.f HDL_SO_STATE.COMMANDED 0 = 0 ∧ u.on HDL_STATE.VETO_OUT 0 = false ∧ u.auth = false ∧ u.hs = hsFail ∧
      (List.range 4).all (fun n => u.f HDL_HT_STATE.REMOTE n = 0) = true
    let n := s.f HDL_FAILCNT.COUNT 0
    let again := fun (count : Bool) (u : State) => u.hs = (if s.isl.image && digestOk then hsStartup else hsMonitor) ∧
      u.f HDL_FAILCNT.COUNT 0 = (if count && decide (n + 1 < 4) then n + 1 else n) % 4 ∧ u.isl.chans = [] ∧ u.isl.set = none ∧
      u.isl.ids = s.isl.ids ∧ u.isl.untested = s.isl.untested ∧ u.isl.hwOff = false ∧ u.auth = false
    off s.enterFail ∧
    (s.hs = hsFail → s.isl.resetDue = false → exec .lockstepMismatch s = .next s) ∧
    (s.hs ≠ hsFail ∨ s.isl.resetDue = true → answers .lockstepMismatch s fun u => off u ∧ u.isl.hwOff = true ∧
      u.isl.resetDue = decide (n < 2) ∧ u.on HDL_STATE.ARMED 0 = false) ∧
    answers .wdog s (fun u => off u ∧ u.isl.hwOff = true ∧ u.isl.resetDue = true) ∧
    answers (.headlandSafetyReset .powerOn digestOk) s (fun u => u.hs = hsMonitor ∧ u.f HDL_FAILCNT.COUNT 0 = 0 ∧ u.isl = {} ∧
      ∀ F ∈ Blk.HDL.fields, F ≠ HDL_FAILCNT.COUNT → ∀ i < 16, u.f F i = F.rst) ∧
    (s.isl.resetDue = false → exec (.headlandSafetyReset .lockstep digestOk) s = .next s ∧
      exec (.headlandSafetyReset .wdog digestOk) s = .next s) ∧
    (s.isl.resetDue = true → answers (.headlandSafetyReset .lockstep digestOk) s (again true) ∧
      answers (.headlandSafetyReset .wdog digestOk) s (again false)) ∧
    (n < 2 → answers (.headlandSafetyReset .memory digestOk) s (again true)) ∧
    (2 ≤ n → answers (.headlandSafetyReset .memory digestOk) s fun u => off u ∧ u.isl.hwOff = true))

/-- Every safety cycle counts and ends with a heartbeat record of 32 bytes whose last four are its CRC-32C. Where no
function runs nothing else changes but the seals' live value and SEAL_LIVE's event in NOMACHINE. Where functions run
the cycle's stages are: one valid release that is current puts its request set into force with its K, no missing
frames and no degraded operation; one whose block fails is counted as missing with its event and leaves the requests;
one that is not current is counted as stale. An active fault cause disarms and takes STOPPED and OPERATIONAL to FAULT.
A reset edge that no confirmation takes leads from FAULT without causes to STOPPED, everything off, and from STOPPED
while armed to OPERATIONAL, with authority exactly where R454 gives it. -/
def Obligations.SafetyCycleResults : Prop :=
  (∀ (s : State) (seals : BitVec 12) (veto pulsed : BitVec 2),
    answers (.safetyCycle seals veto pulsed) s (fun u => u.isl.hrec.length = 32 ∧
      u.isl.hrec.drop 28 = leBytes 4 (crc32c (u.isl.hrec.take 28))) ∧
    (s.functional = true → exec (.safetyCycle seals veto pulsed) s =
      .next ((s.cycleStart seals).fullCycle veto pulsed).buildHrec) ∧
    (s.functional = false → answers (.safetyCycle seals veto pulsed) s fun u =>
      u.f HDL_CYCLE.COUNT 0 = (s.f HDL_CYCLE.COUNT 0 + 1) % 2 ^ 64 ∧ u.hs = s.hs ∧ u.isl.records = [] ∧
      u.isl.chans = s.isl.chans ∧ u.auth = s.auth ∧
      (s.hs = hsNoMachine → u.f HDL_SEAL.LIVE 0 = seals.toNat ∧
        (seals.toNat ≠ s.f HDL_SEAL.LATCHED 0 → u.bitF HDL_EVT.EVT 0 10 = true)))) ∧
  (∀ s : State, match s.params?, s.isl.records with
    | some p, [.release l k b] =>
      let t := s.takeRecords
      (s.current p.island l k = false → t.isl.reqs = s.isl.reqs ∧ t.hs = s.hs ∧
        t.f HDL_STALE.COUNT 0 = (let n := s.f HDL_STALE.COUNT 0; if n + 1 < 2 ^ 32 then n + 1 else n)) ∧
      (s.current p.island l k = true → match requestSet p b l k with
        | none => t.isl.reqs = s.isl.reqs ∧ t.bitF HDL_EVT.EVT 0 5 = true ∧
          t.f HDL_STATE.MISSCNT 0 = min (s.f HDL_STATE.MISSCNT 0 + 1) (max (s.f HDL_STATE.MISSCNT 0) 255)
        | some reqs => t.isl.reqs = reqs ∧ t.f HDL_LASTK.K 0 = k % 2 ^ 32 ∧ t.f HDL_STATE.MISSCNT 0 = 0 ∧
          t.on HDL_STATE.DEGRADED 0 = false ∧ t.isl.frameLoss = false ∧ t.isl.records = [] ∧
          b.length = 256 ∧ fieldAt b 4 4 = k ∧ fieldAt b 8 1 = l ∧ reqs.length ≤ 14 ∧
          fieldAt b 12 4 = crc32c (b.take 12 ++ b.drop 16) ∧ reqs.all (·.ok p) = true)
    | _, _ => True) ∧
  (∀ s : State,
    let off := fun u : State => u.isl.chans.all (fun c => !c.2.cmd) = true ∧ u.isl.axes.all (fun a => a.2.state = 4) = true
    let t := s.faultStep
    let e := s.edgeStep
    (s.faulted = false → t = s) ∧
    (s.faulted = true → s.hs = hsOperational ∨ s.hs = hsStopped → t.hs = hsFault ∧ t.on HDL_STATE.ARMED 0 = false ∧
      (s.clk.pwrfail = true → off t)) ∧
    (s.isl.edge = false → e = s) ∧
    (s.isl.edge = true → s.isl.pendAt = none → s.hs = hsFault → s.faulted = false → off e ∧ e.hs = hsStopped ∧ e.auth = false ∧
      e.isl.edge = false) ∧
    (s.isl.edge = true → s.isl.pendAt = none → s.hs = hsStopped → s.isl.armedAt.isSome = true → s.confBound = true →
      e.hs = hsOperational ∧ e.on HDL_STATE.ARMED 0 = false ∧ e.isl.edge = false ∧
      e.auth = (if s.isLead then !s.freshTwin.any (·.auth) else s.freshTwin.isNone)) ∧
    (s.isl.edge = true → s.isl.pendAt = none → s.hs = hsStopped → s.isl.armedAt = none ∨ s.confBound = false → e = s))

/-- In every state in which the island's functions run, after a safety cycle: a safe output channel that is driven
high belongs to an output that the parameter set uses, in an island that is OPERATIONAL and holds authority, whose
hardware switch is not off; the request set in force permits that output, and no OFF input or remote bit names it. An
enable channel of an axis that is driven belongs to an axis with torque in an island that holds authority and is
OPERATIONAL or in FAULT (where LOSS_STOP runs). In every other state a cycle changes no channel. -/
def Obligations.SafeOutputsNeedEveryCondition : Prop :=
  ∀ (s : State) (seals : BitVec 12) (veto pulsed : BitVec 2), answers (.safetyCycle seals veto pulsed) s fun u =>
    (s.functional = false → u.isl.chans = s.isl.chans) ∧
    (s.functional = true → ∀ c ∈ u.isl.chans, c.2.cmd = true →
      u.auth = true ∧ u.isl.hwOff = false ∧
      (c.1 < 8 → u.hs = hsOperational ∧ u.permitted (c.1 / 2) = true ∧
        (u.params?.bind fun p => find (c.1 / 2) p.outputs).any (·.used) = true ∧
        u.offMaps.all (fun m => !m.outMask.testBit (c.1 / 2)) = true) ∧
      (8 ≤ c.1 → (u.hs = hsOperational ∨ u.hs = hsFault) ∧ (findD {} ((c.1 - 8) / 2) u.isl.axes).state ≠ 4))

/-- A sample advances the island's time by 10 us; where the functions run, a debounced pin takes a level that four
samples in a row agree on and keeps it else. At a cycle an input is ON only with both channels high and no fault
latched, and a discrepancy fault clears when both channels read low. DISCREPANCY latches the fault of an input whose
channels have differed for its DISC_TIME, and the input is OFF. A test pulse runs in its cycle of twenty at most once,
changes only inputs with mode 1 that read high, latches a channel's second failure in a row, and can turn an input off
but never on. An output is energised at a cycle only where it may be, its contactor feedback reads closed and, with
RESTART, a reset edge serves it; it stays on exactly while it may be. An off-pulse test that is due on a driven
channel counts a pass or a failure and latches the second failure in a row; on a channel that is off it is skipped,
and one test runs once. A readback that contradicts the pin at two cycles in a row latches a fault, which ten cycles
reading off clear. CF_TIME latches CF_WELD for a contactor that did not drop out and CF_PULLIN for one that did not
pull in; feedback that reads closed clears CF_WELD. An open pair of parameters or a test not due changes nothing. A
command whose own condition fails leaves the state as it is: the model's choice, notes/assumptions/1. -/
def Obligations.SafeInputAndOutputResults : Prop :=
  (
  (∀ (s : State) (pins : Pins),
    let runs := s.functional = true ∨ s.hs = hsStartup
    answers (.inputSample pins) s fun u => u.isl.t = s.isl.t + 10000 ∧
      (¬runs → u.isl.deb = s.isl.deb ∧ u.regs = s.regs) ∧
      (runs → u.isl.samples = (pins :: s.isl.samples).take 4 ∧
        u.isl.deb = debPins s.isl.deb ((pins :: s.isl.samples).take 4) ∧
        u.f HDL_SI_RAW.A 0 = u.isl.deb.si.toNat % 256 ∧ u.f HDL_SI_RAW.B 0 = u.isl.deb.si.toNat / 256)) ∧
  (∀ (old a b c d : Pins), ∀ m < 16,
    let same := a.si.getLsbD m = b.si.getLsbD m ∧ b.si.getLsbD m = c.si.getLsbD m ∧ c.si.getLsbD m = d.si.getLsbD m
    let D := debPins old [a, b, c, d]
    (same → D.si.getLsbD m = a.si.getLsbD m) ∧ (¬same → D.si.getLsbD m = old.si.getLsbD m)) ∧
  (∀ (i : InputSt) (ca cb : Bool) (t : Nat),
    let y := i.cycle ca cb t
    (y.on = true ↔ ca = true ∧ cb = true ∧ i.stuck = false ∧ i.cross = false ∧ i.disc = false) ∧
    (y.disc = true ↔ i.disc = true ∧ (ca = true ∨ cb = true)) ∧
    (y.differAt = if ca = cb then none else some (i.differAt.getD t))) ∧
  (∀ (s : State) (n : Fin 8), match s.inputRec? n, find n.val s.isl.inputs with
    | some r, some i => (match i.differAt with
      | none => exec (.discrepancy n) s = .next s
      | some t => (s.cycleTime - t < ms r.discTime → exec (.discrepancy n) s = .next s) ∧
        (ms r.discTime ≤ s.cycleTime - t → answers (.discrepancy n) s fun u =>
          find n.val u.isl.inputs = some { i with disc := true, on := false } ∧
          u.bitF HDL_SI_STATE.ON 0 n = false ∧ u.bitF HDL_SI_STATE.FAULT 0 n = true))
    | _, _ => exec (.discrepancy n) s = .next s) ∧
  (∀ (s : State) (strobe : Bool) (pins : Pins),
    let own := if strobe then 1 else 0
    let due := s.functional = true ∧ s.f HDL_CYCLE.COUNT 0 % 20 = 10 * own ∧ s.isl.testedAt ≠ some (s.f HDL_CYCLE.COUNT 0)
    (¬due → exec (.testPulse strobe pins) s = .next s) ∧
    (due → answers (.testPulse strobe pins) s fun u => u.isl.testedAt = some (s.f HDL_CYCLE.COUNT 0) ∧ u.isl.chans = s.isl.chans ∧
      u.isl.inputs = s.isl.inputs.map fun c =>
        if (s.inputRec? c.1).any (·.mode = 1) = true ∧ c.2.high = true then
          (c.1, c.2.tested own (!pins.si.getLsbD (c.1 + 8 * own)) (pins.si.getLsbD (c.1 + 8 * (1 - own))))
        else c)) ∧
  (∀ (i : InputSt) (lo hi : Bool), ∀ own < 2,
    let x := i.tested own lo hi
    (lo = false → 1 ≤ i.stuckRun.getD own 0 → i.stuckRun.length = 2 → x.stuck = true ∧ x.on = false) ∧
    (hi = false → 1 ≤ i.crossRun.getD (1 - own) 0 → i.crossRun.length = 2 → x.cross = true ∧ x.on = false) ∧
    (x.on = true → i.on = true))) ∧
  (∀ (x : OutputSt) (r : OutputRec) (may closed edge : Bool) (t : Nat),
    let y := x.cycle r may closed edge t
    (y.ev = true ↔ may = true ∧ (x.ev = true ∨ closed = true ∧ (r.restart = false ∨ edge = true))) ∧
    (x.ev = false → y.refused = true → y.ev = false ∧ may = true ∧ closed = false)) ∧
  (∀ (s : State) (i : Fin 16) (off back : Bool), match s.params?, find i.val s.isl.chans with
    | some p, some c =>
      let due := testNumber (ms p.opPeriod) i.val s.islTime
      let new := due ≠ none ∧ c.lastTest ≠ due
      (¬new → exec (.offPulse i off back) s = .next s) ∧
      (new → c.cmd = false → answers (.offPulse i off back) s fun u =>
        find i.val u.isl.chans = some { c with lastTest := due } ∧ u.regs = s.regs) ∧
      (new → c.cmd = true → answers (.offPulse i off back) s fun u =>
        find i.val u.isl.chans = some { c.tested off back with lastTest := due } ∧
        u.f HDL_OPTEST.COUNT 0 = (let n := s.f HDL_OPTEST.COUNT 0; if off && back && decide (n + 1 < 2 ^ 32) then n + 1 else n) ∧
        u.f HDL_OPFAIL.COUNT 0 = (let n := s.f HDL_OPFAIL.COUNT 0; if !(off && back) && decide (n + 1 < 2 ^ 32) then n + 1 else n))
    | _, _ => exec (.offPulse i off back) s = .next s) ∧
  (∀ (c : ChanSt) (off back on : Bool),
    let z := c.check on
    (c.tested off back).stuck = (c.stuck || (!off && decide (1 ≤ c.stuckRun))) ∧
    (c.tested off back).drive = (c.drive || (!back && decide (1 ≤ c.driveRun))) ∧
    (10 ≤ z.offRun → z.stuck = false ∧ z.drive = false) ∧
    (c.cmd = true → on = false → c.offRun < 9 → z.drive = (c.drive || decide (1 ≤ c.contOff))) ∧
    (c.cmd = false → on = true → z.stuck = (c.stuck || decide (1 ≤ c.contOn ∧ c.justOff = false)))) ∧
  (∀ (s : State) (o : Fin 4), match s.params?.bind (fun p => find o.val p.outputs), find o.val s.isl.outputs with
    | some r, some x => (match x.cfDue with
      | none => exec (.cfTime o) s = .next s
      | some d => (s.islTime < d → exec (.cfTime o) s = .next s) ∧
        (d ≤ s.islTime → answers (.cfTime o) s fun u => match find o.val u.isl.outputs with
          | none => False
          | some y => y.cfDue = none ∧
            (s.cfbClosed r ≠ x.ev → y.pullin = x.pullin ∧ y.weld = (x.weld && x.ev)) ∧
            (s.cfbClosed r = false → x.ev = false → y.weld = true ∧ y.pullin = x.pullin) ∧
            (s.cfbClosed r = true → x.ev = true → y.pullin = true ∧ y.weld = false)))
    | _, _ => exec (.cfTime o) s = .next s)

/-- On an axis that is used, with an encoder, while the functions run: one level change counts up by one in the order
00, 10, 11, 01 of A and B and down in the other (INVERT reversing both), a change of both is an illegal transition and
does not count. The first index point references the axis at REF_POS, a later one corrects the position by e, reduced
into (-2 LINES, 2 LINES], as a correction counted for |e| up to 2 and else as a mismatch, which suspends the position
checks and whose third of sixteen is ENCODER_FAULT. A sample latches the count, moves neither it nor the state of the
axis, and counts an observer that is lost, at the eighth implausible sample in a row. Elsewhere these commands change
nothing. A command whose own condition fails leaves the state as it is: the model's choice, notes/assumptions/1. -/
def Obligations.MotionCountingResults : Prop :=
  (∀ (s : State) (n : Fin 4) (a b : Bool), match s.axis? n with
    | none => exec (.encoderEdge n a b) s = .next s ∧ exec (.indexPoint n) s = .next s
    | some (r, x) =>
      let live := s.functional = true ∧ r.encoder = true
      let up := if r.invert then (-1 : Int) else 1
      let put' := fun y : AxisSt => (.next (s.setAxis n y) : Out)
      let e := indexError (x.pos - r.refPos) r.rev
      (¬live → exec (.encoderEdge n a b) s = .next s ∧ exec (.indexPoint n) s = .next s) ∧
      (live →
        ((x.encA, x.encB, a, b) ∈ [(false, false, true, false), (true, false, true, true), (true, true, false, true), (false, true, false, false)] →
          exec (.encoderEdge n a b) s = put' { x with encA := a, encB := b, pos := x.pos + up }) ∧
        ((x.encA, x.encB, a, b) ∈ [(false, false, false, true), (false, true, true, true), (true, true, true, false), (true, false, false, false)] →
          exec (.encoderEdge n a b) s = put' { x with encA := a, encB := b, pos := x.pos - up }) ∧
        (a ≠ x.encA → b ≠ x.encB → exec (.encoderEdge n a b) s = put' { x with encA := a, encB := b, illegal := x.illegal + 1 }) ∧
        (a = x.encA → b = x.encB → exec (.encoderEdge n a b) s = .next s) ∧
        answers (.indexPoint n) s fun u => match u.axis? n with
          | none => False
          | some (_, y) =>
            (x.referenced = false → u.regs = s.regs ∧ y.referenced = true ∧ y.pos = r.refPos ∧ y.origin = r.refPos ∧
              y.p0 - y.pos = x.p0 - x.pos) ∧
            (x.referenced = true → y.pos = x.pos - e ∧ y.origin = y.pos ∧
              (2 < e.natAbs → y.suspended = true ∧ u.f HDL_AX_IDXCORR.COUNT n = s.f HDL_AX_IDXCORR.COUNT n ∧
                (2 ≤ ((x.events.take 15).filter id).length → y.faults.encoder = true)) ∧
              (e.natAbs ≤ 2 → y.faults = x.faults ∧ u.f HDL_AX_IDXMIS.COUNT n = s.f HDL_AX_IDXMIS.COUNT n ∧
                y.suspended = (x.suspended && decide (x.good = 0)))))) ∧
  (∀ (d : Int) (lines : Nat), 0 < lines →
    let e := indexError d (4 * lines)
    (-(2 * (lines : Int)) < e) ∧ e ≤ 2 * lines ∧ (d - e) % ((4 * lines : Nat) : Int) = 0) ∧
  (∀ (s : State) (n : Fin 4) (bits : SdBits), match s.axis? n with
    | none => exec (.observerSample n bits) s = .next s
    | some (r, x) => (s.functional = false → exec (.observerSample n bits) s = .next s) ∧
      (s.functional = true → answers (.observerSample n bits) s fun u => match u.axis? n with
        | none => False
        | some (_, y) => y.latched = (x.pos :: x.latched).take 17 ∧ y.pos = x.pos ∧ y.state = x.state ∧ y.demand = x.demand ∧
          ((y.source r).isNone = true → y.bounds = x.bounds) ∧
          (y.obs.lost = false ∨ x.obs.lost = true → u.f HDL_AX_OBSLOST.COUNT n = s.f HDL_AX_OBSLOST.COUNT n))) ∧
  (∀ (o : Observer) (r : AxisRec) (close : Bool),
    (o.isPlausible r = false → (o.judge r close).lost = (o.lost || decide (7 ≤ o.implausible))) ∧
    (o.isPlausible r = true → (o.judge r close).lost = (o.lost && (!close || decide (o.plausible < 159)))))

/-- At a cycle start an axis is in TORQUE_OFF wherever the island is neither OPERATIONAL nor in FAULT, and wherever
STO is demanded or a speed limit whose REACT is STO is exceeded. An axis in an SS1 ramp goes on with that ramp,
becomes blind, or reaches TORQUE_OFF, and never a weaker stop. An axis leaves TORQUE_OFF to RUN only in OPERATIONAL
with authority, without a demand, and with a reset edge where RESTART is set or a fault has been latched since it ran.
T_BLIND, and 2 ms without an acknowledge, end BLIND in TORQUE_OFF with its enable channels off; T_SS ends SS1 in
TORQUE_OFF, SS2 in SOS at standstill and else in TORQUE_OFF with the fault RAMP and a trip counted. Before its time,
or in another state, each changes nothing. A command whose own condition fails leaves the state as it is: the model's
choice, notes/assumptions/1. -/
def Obligations.StopAndLimitResults : Prop :=
  (∀ (x : AxisSt) (r : AxisRec) (p : Params) (k : Nat) (encf : Bool) (c : AxisCtx),
    let y := (x.cycle r p k encf c).1
    (c.active = false → y.state = 4) ∧
    (c.active = true → 0 ∈ c.demands → y.state = 4) ∧
    (c.active = true → x.state = 0 → x.slsFrom = none → match p.kind? k 1 x.sls, x.sls.bind fun i => p.limit? k 1 i with
      | some (.sls lim _), some l => l.react = 0 → x.u.le (Frac.of lim) = false → y.state = 4 ∧ y.faults.limit = some 0
      | _, _ => True) ∧
    (x.state = 1 → match x.ramp with
      | some m => m.ss2 = false → y.state = 3 ∨ y.state = 4 ∨ (y.state = 1 ∧ y.ramp = some m)
      | none => True) ∧
    (x.state = 4 → y.state = 4 ∨ y.state = 0) ∧
    (x.state = 4 → y.state = 0 → c.active = true ∧ c.runs = true ∧ c.demands = [] ∧ y.faulted = false ∧
      (c.edge = true ∨ (r.restart = false ∧ x.faulted = false)))) ∧
  (∀ (s : State) (n : Fin 4), match s.axis? n with
    | none => exec (.tBlind n) s = .next s ∧ exec (.dackTimeout n) s = .next s ∧ exec (.tSs n) s = .next s
    | some (r, x) =>
      let now := s.cycleTime
      let ends := fun (u : State) (P : AxisSt → Prop) => match u.axis? n with
        | some (_, z) => P z
        | none => False
      let offNow := fun (u : State) (z : AxisSt) => z.state = 4 ∧
        z.dstp = (s.auth && !s.isl.hwOff && (s.hs = hsOperational || s.hs = hsFault)) ∧
        ∀ g ∈ u.isl.chans, g.1 = 8 + 2 * n.val ∨ g.1 = 9 + 2 * n.val → g.2.cmd = false
      (match x.dstpAt with
      | none => exec (.tBlind n) s = .next s ∧ exec (.dackTimeout n) s = .next s
      | some d =>
        (x.state ≠ 3 ∨ now < d + ms r.tBlind → exec (.tBlind n) s = .next s) ∧
        (x.state = 3 → d + ms r.tBlind ≤ now → answers (.tBlind n) s fun u => ends u (offNow u)) ∧
        (x.state ≠ 3 ∨ x.acked = true ∨ now < d + ms 2 → exec (.dackTimeout n) s = .next s) ∧
        (x.state = 3 → x.acked = false → d + ms 2 ≤ now → answers (.dackTimeout n) s fun u => ends u (offNow u))) ∧
      match x.ramp with
      | none => exec (.tSs n) s = .next s
      | some m =>
        (x.state ≠ 1 ∨ now < m.at' + ms r.tSs → exec (.tSs n) s = .next s) ∧
        (x.state = 1 → m.at' + ms r.tSs ≤ now →
          (m.ss2 = false → answers (.tSs n) s fun u => ends u fun z => offNow u z ∧ z.faults = x.faults) ∧
          (m.ss2 = true → x.still r = true → answers (.tSs n) s fun u => ends u fun z =>
            z.state = 2 ∧ z.p0 = x.pos ∧ z.faults = x.faults) ∧
          (m.ss2 = true → x.still r = false → answers (.tSs n) s fun u => ends u fun z => offNow u z ∧
            z.faults.ramp = true ∧ z.faulted = true ∧ u.f HDL_AX_TRIP.COUNT n = (let q := s.f HDL_AX_TRIP.COUNT n;
              if q + 1 < 2 ^ HDL_AX_TRIP.COUNT.width then q + 1 else q))))

/-- Without a PDU of its type at the front, or where connections do not run, START_ACK, DATA and CLOSE change nothing.
A START_ACK to the current nonce opens the connection with the session of both nonces, both sequence numbers 0, forced
as ACK_REQ says; another nonce loses it with reason 8, an earlier attempt's is ignored, in OPEN it is a duplicate.
DATA by its distance from the last accepted is a duplicate, stale, a closing error with reason 2, or accepted, with
its losses counted and its remote bits applied unless forced. CLOSE loses the connection with reason 6. START,
START_FAIL (8), DATA_DUE, WATCHDOG (3), TIMEOUT (4) and RETRY act from their time on in their state and not else. A
lost connection applies no remote bit; a closing error sends one CLOSE with its reason; a retry starts with a nonzero
nonce. Every PDU built carries the CRC that its header asks for. A command whose own condition fails leaves the state
as it is: the model's choice, notes/assumptions/1. -/
def Obligations.HitchConnectionResults : Prop :=
  (∀ (s : State) (n : Fin 4), match s.connRec? n with
    | none => exec (.startAck n) s = .next s ∧ exec (.data n) s = .next s ∧ exec (.close n) s = .next s ∧
        exec (.start n) s = .next s ∧ exec (.startFail n) s = .next s ∧ exec (.dataDue n) s = .next s ∧
        exec (.watchdog n) s = .next s ∧ exec (.timeout n) s = .next s ∧ exec (.retry n) s = .next s
    | some r =>
      let c := s.conn n
      let t := s.cycleTime
      let run := s.functional = true
      let plus := fun (F : Fld) (u : State) (k : Nat) =>
        u.f F n = (if k = 0 then s.f F n else min (s.f F n + k) (max (s.f F n) (2 ^ 32 - 1)))
      let ended := fun (u : State) (why : Nat) => u.ht n = htLost ∧ u.f HDL_HT_STATE.REASON n = why ∧
        u.f HDL_HT_STATE.REMOTE n = 0 ∧ plus HDL_HT_CLOSES.COUNT u 1 ∧ (u.conn n).rx = [] ∧ (u.conn n).kept = [] ∧
        (u.conn n).lostAt = t
      let closed := fun (u : State) (why : Nat) => ended u why ∧ u.sent = (s.sendConn n r
        (if s.ht n = htOpen then s.f HDL_HT_SESSION.SESSION n else 0) 4 (s.f HDL_HT_SEQ.SENT n + 1)
        (s.f HDL_HT_SEQ.ACCEPTED n) why []).sent
      (match c.rx with
        | [] => exec (.startAck n) s = .next s ∧ exec (.data n) s = .next s ∧ exec (.close n) s = .next s
        | (at', b) :: rest =>
          let front := fun type : Nat => run ∧ pduType b = type ∧ at' ≤ t
          let same := fun u : State => u.ht n = s.ht n ∧ (u.conn n).rx = rest ∧ u.f HDL_HT_STATE.REMOTE n = s.f HDL_HT_STATE.REMOTE n
          let np := fieldAt b 8 4
          let ni := fieldAt b 12 4
          let d := modDiff 16 (pduSeq b) (s.f HDL_HT_SEQ.ACCEPTED n)
          let ahead := modDiff 16 (pduEcho b) (s.f HDL_HT_SEQ.SENT n)
          let lifts := (fieldAt b 1 1).testBit 0
          (¬front 2 → exec (.startAck n) s = .next s) ∧ (¬front 3 → exec (.data n) s = .next s) ∧
          (¬front 4 → exec (.close n) s = .next s) ∧
          (front 2 → s.ht n = htOpen → answers (.startAck n) s fun u => same u ∧ plus HDL_HT_DUP.COUNT u 1) ∧
          (front 2 → s.ht n ≠ htOpen →
            (ni ≠ c.nonce → c.nonces.contains ni = true → answers (.startAck n) s same) ∧
            (ni ≠ c.nonce → c.nonces.contains ni = false → answers (.startAck n) s fun u => ended u 8) ∧
            (ni = c.nonce → np = 0 ∨ pduSeq b ≠ 0 → answers (.startAck n) s same) ∧
            (ni = c.nonce → np ≠ 0 → pduSeq b = 0 → np = ni → answers (.startAck n) s fun u => ended u 8) ∧
            (ni = c.nonce → np ≠ 0 → pduSeq b = 0 → np ≠ ni → answers (.startAck n) s fun u => u.ht n = htOpen ∧
              u.f HDL_HT_SESSION.SESSION n = (ni ^^^ np) % 2 ^ 32 ∧ u.f HDL_HT_SEQ.SENT n = 0 ∧ u.f HDL_HT_SEQ.ACCEPTED n = 0 ∧
              u.f HDL_HT_STATE.REMOTE n = 0 ∧ u.on HDL_HT_STATE.FORCED n = r.ackReq ∧ (u.conn n).lastRx = at' ∧
              (u.conn n).opened = true)) ∧
          (front 3 →
            (d = 0 → answers (.data n) s fun u => same u ∧ plus HDL_HT_DUP.COUNT u 1) ∧
            (2 ^ 15 ≤ d → answers (.data n) s fun u => same u ∧ plus HDL_HT_STALE.COUNT u 1) ∧
            (9 ≤ d → d < 2 ^ 15 → answers (.data n) s fun u => closed u 2) ∧
            (1 ≤ d → d ≤ 8 → 0 < ahead → ahead < 2 ^ 15 → answers (.data n) s fun u => closed u 2) ∧
            (1 ≤ d → d ≤ 8 → ahead = 0 ∨ 2 ^ 15 ≤ ahead → answers (.data n) s fun u => u.ht n = s.ht n ∧
              u.f HDL_HT_SEQ.ACCEPTED n = pduSeq b ∧ plus HDL_HT_LOST.COUNT u (d - 1) ∧
              (u.conn n).lastRx = at' ∧ (u.conn n).rx = rest ∧
              u.on HDL_HT_STATE.FORCED n = (s.on HDL_HT_STATE.FORCED n && !lifts) ∧
              u.f HDL_HT_STATE.REMOTE n =
                if (s.on HDL_HT_STATE.FORCED n = true ∧ lifts = false) ∨ s.ht n ≠ htOpen then 0 else fieldAt b 8 1)) ∧
          (front 4 → answers (.close n) s fun u => ended u 6 ∧ u.sent = s.sent)) ∧
      (let due := run ∧ s.ht n = htStarting ∧ c.startDue ≤ t ∧ t ≤ c.startAt + ms r.texp
       (due → answers (.start n) s fun u => u.ht n = htStarting ∧ u.conn n = { c with startDue := c.startDue + r.period * 1000 } ∧
          u.sent = (s.sendConn n r 0 1 0 0 0 (leBytes 4 c.nonce)).sent) ∧ (¬due → exec (.start n) s = .next s)) ∧
      (let due := run ∧ s.ht n = htStarting ∧ c.startAt + ms r.texp < t
       (due → answers (.startFail n) s fun u => ended u 8) ∧ (¬due → exec (.startFail n) s = .next s)) ∧
      (let due := run ∧ s.ht n = htOpen ∧ c.openAt + c.sent * (r.period * 1000) ≤ t ∧ c.sentCycle ≠ some (s.f HDL_CYCLE.COUNT 0)
       let seq := (s.f HDL_HT_SEQ.SENT n + 1) % 2 ^ 16
       (due → answers (.dataDue n) s fun u => u.f HDL_HT_SEQ.SENT n = seq ∧ (u.conn n).sent = c.sent + 1 ∧
          u.sent = (s.sendConn n r (s.f HDL_HT_SESSION.SESSION n) 3 seq (s.f HDL_HT_SEQ.ACCEPTED n) 0 (s.hitchReport n)).sent ∧
          (u.conn n).sentCycle = some (s.f HDL_CYCLE.COUNT 0) ∧ (u.conn n).kept.getLast? = some (seq, t + 500000) ∧
          (u.conn n).kept.length ≤ keptMax) ∧ (¬due → exec (.dataDue n) s = .next s)) ∧
      (let due := run ∧ s.ht n = htOpen ∧ c.lastRx + ms r.wdog < t
       (due → answers (.watchdog n) s fun u => closed u 3) ∧ (¬due → exec (.watchdog n) s = .next s)) ∧
      (let due := run ∧ s.ht n = htOpen ∧ (c.kept.head?).any (fun x => decide (x.2 + ms r.texp < t)) = true
       (due → answers (.timeout n) s fun u => closed u 4) ∧ (¬due → exec (.timeout n) s = .next s)) ∧
      (let due := run ∧ s.ht n = htLost ∧ c.lostAt + ms r.retry ≤ t
       (due → answers (.retry n) s fun u => u.ht n = htStarting ∧ (u.conn n).nonce ≠ 0 ∧ (u.conn n).startAt = t ∧
          (u.conn n).rx = [] ∧ (c.nonce ≠ 0 → (u.conn n).nonces = c.nonce :: c.nonces)) ∧
        (¬due → exec (.retry n) s = .next s))) ∧
  (∀ (hdr data : List Byte) (type seq echo reason : Nat), data.length ≤ 16 →
    (pduBytes hdr type seq echo reason data).length = 32 ∧ pduMatches hdr (pduBytes hdr type seq echo reason data) = true)

/-- A frame on a port that is not used, or while no connection runs, changes nothing; a wrong FCS is counted; a frame
that is not addressed to the port or not of Hitch's type is ignored; more than 64 in a cycle are counted as over. A
PDU that belongs to no connection is counted as corrupt and at a normal rate closes nothing. One that belongs to a
connection is counted; in STARTING and OPEN it waits for the cycle start with the time of its receipt where its fields
and its type are right, and else closes the connection with reason 5; in other states it is discarded. A change of a
port's link shows in its registers, 10 Mb/s as down. A command whose own condition fails leaves the state as it is:
the model's choice, notes/assumptions/1. -/
def Obligations.HitchFrameResults : Prop :=
  (∀ (s : State) (port : Fin 2) (frame : List Byte) (ok : Bool),
    match (s.params?.bind fun p => find port.val p.ports).filter (·.used) with
    | none => exec (.hitchFrameReceive port frame ok) s = .next s
    | some q =>
      let run := s.functional = true
      let st := findD {} port.val s.isl.ports
      let up := fun (F : Fld) (u : State) => u.f F port = min (s.f F port + 1) (max (s.f F port) (2 ^ 32 - 1))
      (¬run → exec (.hitchFrameReceive port frame ok) s = .next s) ∧
      (run → ok = false → exec (.hitchFrameReceive port frame ok) s = .next (s.bump HDL_HP_FCS.COUNT port)) ∧
      (run → ok = true → match hitchPdu q.mac frame with
        | none => exec (.hitchFrameReceive port frame ok) s = .next s
        | some b =>
          (64 ≤ st.frames → exec (.hitchFrameReceive port frame ok) s = .next (s.bump HDL_HP_OVER.COUNT port)) ∧
          (st.frames < 64 → match s.assign b with
            | none => answers (.hitchFrameReceive port frame ok) s fun u => up HDL_HP_CORRUPT.COUNT u ∧
                (findD {} port.val u.isl.ports).unassigned = s.islTime :: recentUnassigned st.unassigned s.islTime ∧
                (∀ k < 4, u.ht k = if 16 ≤ (recentUnassigned st.unassigned s.islTime).length ∧ s.ht k = htOpen ∧
                  (s.connRec? k).any (fun r => r.ports = [port.val]) = true then htLost else s.ht k)
            | some (n, zero) =>
              let good := pduZeros b = true ∧ s.expects n zero b = true
              let waits := (s.ht n = htOpen ∨ s.ht n = htStarting) ∧
                ((s.connRec? n).any (fun r => r.ports.length = 2) = false ∨ s.crcRate port = false)
              answers (.hitchFrameReceive port frame ok) s fun u => up HDL_HP_RX.COUNT u ∧
                (findD {} port.val u.isl.ports).frames = st.frames + 1 ∧
                (¬waits → u.isl.conns = s.isl.conns ∧ ∀ k < 4, u.ht k = s.ht k) ∧
                (waits → good → (u.conn n).rx = (s.conn n).rx ++ [(s.islTime, b)] ∧ ∀ k < 4, u.ht k = s.ht k) ∧
                (waits → ¬good → u.ht n = htLost ∧ u.f HDL_HT_STATE.REASON n = 5 ∧ u.f HDL_HT_STATE.REMOTE n = 0)))) ∧
  (∀ (mac frame : List Byte), match hitchPdu mac frame with
    | none => True
    | some b => frame.take 6 = mac ∧ b.length = 32) ∧
  (∀ (s : State) (port : Fin 2) (speed : PortSpeed),
    (s.functional = false → exec (.portLink port speed) s = .next s) ∧
    (s.functional = true → answers (.portLink port speed) s fun u =>
      u.on HDL_HP_STATE.LINK port = decide (speed = .s100 ∨ speed = .s1000) ∧
      u.f HDL_HP_STATE.SPEED port = (match speed with | .s100 => 1 | .s1000 => 2 | _ => 0)))

/-- Each code of Table 23-1 is selected; leaving EXTEST, CLAMP or HIGHZ also performs a package reset with the cause
DEBUG. DBGADDR starts one access, or waits behind one in progress; DBGDATA sets the write data; an access that ends
sets DONE, with ERR without TAP_EN, in reset, misaligned or where nothing is, and reads or writes the location else.
HALT_REQUEST reaches only the selected threads that run, on a core whose debug is enabled, else sets ERR; HALT stops a
thread at an instruction boundary and discards what it waits for; RESUME_REQUEST and STEP start the selected halted
threads, not on a locked core unless all are named. A register access of a halted thread reads or writes just that
register, and of any other sets ERR. The debug reset is the TAP's alone, with its key. Which agents and parts act
while a reset or a lost supply holds them is notes/assumptions/64. A command whose own condition fails leaves the
state as it is: the model's choice, notes/assumptions/1. -/
def Obligations.TapAndDebugResults : Prop :=
  (∀ s : State,
    let t := s.gln.tap
    ∀ i c, (i, c) ∈ [(Instr.tapReset, 2), (.extest, 0), (.samplePreload, 1), (.idcode, 2), (.clamp, 3), (.highz, 4)] →
      (boundaryIr t.ir = false ∨ t.ir = c → exec i s = .next (s.setTap { t with ir := c })) ∧
      (boundaryIr t.ir = true → t.ir ≠ c → exec i s = .next ((s.setTap { t with ir := c }).packageReset PWR_RESET_CAUSE.DEBUG))) ∧
  (∀ (s : State) (code : BitVec 8),
    let t := s.gln.tap
    let to' := s.setTap { t with ir := code.toNat }
    let leaves := boundaryIr t.ir = true ∧ t.ir ≠ code.toNat
    let named := code.toNat ∈ [0, 1, 2, 3, 4, 0x10, 0x11]
    (named → exec (.bypass code) s = .next s) ∧
    (¬named → ¬leaves → exec (.bypass code) s = .next to') ∧
    (¬named → leaves → exec (.bypass code) s = .next (to'.packageReset PWR_RESET_CAUSE.DEBUG)) ∧
    (leaves → exec (.boundaryExitReset code) s = .next (to'.packageReset PWR_RESET_CAUSE.DEBUG)) ∧
    (¬leaves → exec (.boundaryExitReset code) s = .next s)) ∧
  (∀ s : State,
    let u := s.packageReset PWR_RESET_CAUSE.DEBUG
    u.on PWR_RESET_CAUSE.DEBUG 0 = true ∧ u.isl = s.isl ∧ u.gln.tap.ir = s.gln.tap.ir ∧
    (s.inReset = false → u.threads = [] ∧ u.granary.mem = s.granary.mem)) ∧
  (∀ (s : State) (v : BitVec 64) (w : BitVec 66),
    let t := s.gln.tap
    (boundaryIr t.ir = true → answers (.dbgaddr v) s (fun u => u.gln.tap.ir = 0x10 ∧ u.on PWR_RESET_CAUSE.DEBUG 0 = true) ∧
      answers (.dbgdata w) s (fun u => u.gln.tap.ir = 0x11 ∧ u.gln.tap.wdata = w.toNat % 2 ^ 64 ∧ u.on PWR_RESET_CAUSE.DEBUG 0 = true)) ∧
    (boundaryIr t.ir = false →
      exec (.dbgaddr v) s = .next (s.setTap (if t.busy then { t with ir := 0x10, next := some v.toNat }
        else { t with ir := 0x10, addr := v.toNat, data := t.data % 2 ^ 64, busy := true, next := none })) ∧
      exec (.dbgdata w) s = .next (s.setTap { t with ir := 0x11, wdata := w.toNat % 2 ^ 64 }))) ∧
  (∀ (s : State) (res : MemRes),
    let t := s.gln.tap
    let pa := t.addr % 2 ^ 56
    let n := if t.addr.testBit 62 then 8 else 4
    let write := t.addr.testBit 63 = true
    let done := fun (g : State → State) (r : TapRes) => (.next (s.withRes res fun u => (g u).tapEnds r) : Out)
    let kept := TapRes.data (t.data % 2 ^ 64)
    let barred := s.on GLN_DBGCTL.TAP_EN 0 = false ∨ s.deviceRuns pa = false ∨ pa % n ≠ 0
    (t.busy = false ∨ s.live = false → exec (.debugAccessDone res) s = .next (s.withRes res fun u => u)) ∧
    (t.busy = true → s.live = true →
      (barred → exec (.debugAccessDone res) s = done (fun u => u) .err) ∧
      (¬barred → s.accessHeld pa = true → exec (.debugAccessDone res) s = .next (s.withRes res fun u => u.arrive pa .tap)) ∧
      (¬barred → s.accessHeld pa = false → match s.region pa with
        | .seedbox m off =>
          (write → exec (.debugAccessDone res) s = done (fun u => u.setSeed m ((s.seed m).write off (leBytes n t.wdata))) kept) ∧
          (¬write → exec (.debugAccessDone res) s = done (fun u => u) (.data (leNat ((s.seed m).read off n))))
        | .silo m off =>
          (write → exec (.debugAccessDone res) s = done (fun u => u.writeTileWin m off false (n = 8) t.wdata) kept) ∧
          (¬write → exec (.debugAccessDone res) s = done (fun u => u) (.data (s.readTileWin m off false (n = 8))))
        | .spill m off =>
          (write → exec (.debugAccessDone res) s = done (fun u => u.writeTileWin m off true (n = 8) t.wdata) kept) ∧
          (¬write → exec (.debugAccessDone res) s = done (fun u => u) (.data (s.readTileWin m off true (n = 8))))
        | .device =>
          (write → exec (.debugAccessDone res) s = .next (s.withRes res fun u =>
            let z := u.writeDev .tap pa (n = 8) t.wdata
            z.tapEnds (.data (z.gln.tap.data % 2 ^ 64)))) ∧
          (¬write → exec (.debugAccessDone res) s = .next (s.withRes res fun u =>
            (u.agentRead .tap pa (n = 8)).2.tapEnds (.data (u.agentRead .tap pa (n = 8)).1)))
        | .normal _ _ =>
          (write → answers (.debugAccessDone res) s fun u => u.gln.tap = (s.tapEnds kept).gln.tap ∧
            u.granary.mem = (State.coherentWrite { s with res := res } (pa / 64) (maskOf (pa % 64) n)
              (List.replicate (pa % 64) 0 ++ leBytes n t.wdata) 7).granary.mem) ∧
          (¬write → answers (.debugAccessDone res) s fun u =>
            let d := (State.coherentLine { s with res := .ok } (pa / 64) 7 res).1
            u.gln.tap.busy = t.next.isSome ∧ (d.2 = false → u.gln.tap = (s.tapEnds (.data (numAt d.1 (pa % 64) n))).gln.tap))
        | .direct c l =>
          (write → answers (.debugAccessDone res) s fun u => u.gln.tap = (s.tapEnds kept).gln.tap ∧
            u.granary.mem = (State.granWrite { s with res := .ok } c l (maskOf (pa % 64) n)
              (List.replicate (pa % 64) 0 ++ leBytes n t.wdata) 7 res).granary.mem) ∧
          (¬write → answers (.debugAccessDone res) s fun u =>
            let d := (State.granRead { s with res := .ok } c l 7 res).1
            u.gln.tap.busy = t.next.isSome ∧ (d.2 = false → u.gln.tap = (s.tapEnds (.data (numAt d.1 (pa % 64) n))).gln.tap))
        | _ => exec (.debugAccessDone res) s = done (fun u => u) .err))) ∧
  (∀ (s : State) (r : TapRes),
    let t := s.gln.tap
    let d := match r with
      | .err => 2 ^ 65 + 2 ^ 64 + t.data % 2 ^ 64
      | .data v => 2 ^ 65 + v
    s.tapEnds r = s.setTap (match t.next with
      | none => { t with data := d, busy := false }
      | some a => { t with addr := a, data := d % 2 ^ 64, busy := true, next := none })) ∧
  (∀ (s : State) (agent : Agent) (n : Cid) (mask : BitVec 8) (noint : Bool),
    let may := s.acts agent = true ∧ reaches agent = true
    let chosen := fun g : Tid => coreOf g = n ∧ mask.getLsbD (g % 8) = true
    let mode := fun g : Tid => (s.thread g).mode
    let only := fun (u : State) (q : Tid → Prop) (f : Thread → Thread) => ∀ g : Tid, (q g → u.thread g = f (s.thread g)) ∧
      (¬q g → u.thread g = s.thread g)
    (¬may → exec (.haltRequest agent n mask) s = .next s ∧ exec (.resumeRequest agent n mask) s = .next s ∧
      exec (.step agent n mask noint) s = .next s) ∧
    (may → s.dbgEn n = false →
      exec (.haltRequest agent n mask) s = .next ((s.setF GLN_HALTREQ.ACTION 0 0).setOn GLN_HALTREQ.ERR 0 true) ∧
      exec (.step agent n mask noint) s = .next ((s.setF GLN_HALTREQ.ACTION 0 2).setOn GLN_HALTREQ.ERR 0 true)) ∧
    (may → s.dbgEn n = true → answers (.haltRequest agent n mask) s fun u =>
      only u (fun g => chosen g ∧ (mode g = .running ∨ mode g = .waiting)) (fun x => { x with haltReq := true }) ∧
      u.on GLN_HALTREQ.BUSY 0 = (selected n mask).any fun g => (s.thread g).mode = .running || (s.thread g).mode = .waiting) ∧
    (may → s.locked n = true → mask ≠ 255 → exec (.resumeRequest agent n mask) s = .next (s.setF GLN_HALTREQ.ACTION 0 1)) ∧
    (may → s.locked n = false ∨ mask = 255 → answers (.resumeRequest agent n mask) s fun u => u.locked n = false ∧
      only u (fun g => chosen g ∧ mode g = .halted)
        (fun x => { x with mode := .running, haltReq := false, stepping := false, noint := false })) ∧
    (may → s.dbgEn n = true → s.locked n = true → exec (.step agent n mask noint) s = .next (s.setF GLN_HALTREQ.ACTION 0 2)) ∧
    (may → s.dbgEn n = true → s.locked n = false → answers (.step agent n mask noint) s fun u =>
      only u (fun g => chosen g ∧ mode g = .halted)
        (fun x => { x with mode := .running, haltReq := false, stepping := true, noint := noint }))) ∧
  (∀ (s : State) (h : Tid),
    let t := s.thread h
    let boundary := match t.hold with
      | none => true
      | some (.wait ..) => true
      | some x => x.discardable
    let halts := t.haltReq = true ∧ t.raised = none ∧ boundary = true ∧ (t.mode = .running ∨ t.mode = .waiting)
    (halts → answers (.halt h) s fun u =>
      u.thread h = { t with mode := .halted, hold := none, haltReq := false, stepping := false, noint := false } ∧
      ∀ g : Tid, g ≠ h → u.thread g = s.thread g) ∧
    (¬halts → exec (.halt h) s = .next s)) ∧
  (∀ (s : State) (agent : Agent) (write : Bool) (h : Tid) (cls : BitVec 3) (idx : BitVec 12),
    let may := s.acts agent = true ∧ reaches agent = true
    let c := if cls.toNat ≤ 5 then cls.toNat else s.f GLN_DREG_SEL.CLASS 0
    let v := BitVec.ofNat 64 (s.f GLN_DREG_DATA.DATA 0)
    let ok := (s.thread h).mode = .halted ∧ dregOk c idx.toNat = true
    let rest := fun u : State => (∀ g : Tid, g ≠ h → u.thread g = s.thread g) ∧ u.f GLN_DREG_SEL.THREAD 0 = h.val ∧
      u.f GLN_DREG_SEL.CLASS 0 = c ∧ u.f GLN_DREG_SEL.INDEX 0 = idx.toNat
    (¬may → exec (.dregAccess agent write h cls idx) s = .next s) ∧
    (may → ¬ok → answers (.dregAccess agent write h cls idx) s fun u => rest u ∧ u.on GLN_DREG_SEL.ERR 0 = true ∧
      u.threads = s.threads ∧ u.tiles = s.tiles ∧ u.f GLN_DREG_DATA.DATA 0 = s.f GLN_DREG_DATA.DATA 0) ∧
    (may → ok → c ≤ 4 → write = true → answers (.dregAccess agent write h cls idx) s fun u => rest u ∧ u.tiles = s.tiles ∧
      (c = 0 → u.thread h = (s.thread h).writeG (Fin.ofNat 32 idx.toNat) v) ∧
      (c = 1 → u.thread h = (s.thread h).writeF (Fin.ofNat 32 idx.toNat) v) ∧
      (c = 2 → u.thread h = { s.thread h with p := v.toNat % 256 / 2 * 2 }) ∧
      (c = 3 → u.thread h = (s.thread h).debugCsr idx.toNat v) ∧
      (c = 4 → u.thread h = { s.thread h with pc := v &&& ~~~3#64 })) ∧
    (may → ok → write = false → c ≤ 4 ∨ (s.tile (coreOf h)).queue = [] → answers (.dregAccess agent write h cls idx) s fun u =>
      rest u ∧ u.threads = s.threads ∧ u.tiles = s.tiles ∧
      (c = 0 → u.f GLN_DREG_DATA.DATA 0 = ((s.thread h).readG (Fin.ofNat 32 idx.toNat)).toNat) ∧
      (c = 1 → u.f GLN_DREG_DATA.DATA 0 = ((s.thread h).readF (Fin.ofNat 32 idx.toNat)).toNat) ∧
      (c = 2 → u.f GLN_DREG_DATA.DATA 0 % 2 = 1 ∧ u.f GLN_DREG_DATA.DATA 0 / 2 = (s.thread h).p % 2 ^ 64 / 2) ∧
      (c = 3 → u.f GLN_DREG_DATA.DATA 0 = (s.csrRead h idx.toNat).toNat) ∧
      (c = 4 → u.f GLN_DREG_DATA.DATA 0 = (s.thread h).pc.toNat)) ∧
    (may → ok → c = 5 → (s.tile (coreOf h)).queue ≠ [] → answers (.dregAccess agent write h cls idx) s fun u =>
      rest u ∧ u.threads = s.threads ∧ u.tiles = s.tiles ∧ u.f GLN_DREG_DATA.DATA 0 = s.f GLN_DREG_DATA.DATA 0) ∧
    (may → ok → c = 5 → (s.tile (coreOf h)).queue = [] → write = true → answers (.dregAccess agent write h cls idx) s fun u =>
      rest u ∧ u.threads = s.threads ∧
      (u.tile (coreOf h)).frags = (s.tile (coreOf h)).frags.write (dregByte h idx.toNat) (leBytes 8 v.toNat))) ∧
  (∀ (s : State) (agent : Agent) (key : BitVec 16) (tg : Bool) (n : Cid),
    (s.acts agent = false → exec (.debugReset agent key tg n) s = .next s) ∧
    (s.acts agent = true → agent ≠ .tap → exec (.debugReset agent key tg n) s = .next (s.writeDropped agent 0x40)) ∧
    (s.live = true → key ≠ 0x6D17 → exec (.debugReset .tap key tg n) s = .next s) ∧
    (s.live = true → exec (.debugReset .tap 0x6D17 false n) s = .next (s.packageReset PWR_RESET_CAUSE.DEBUG) ∧
      exec (.debugReset .tap 0x6D17 true n) s = .next (if s.inReset then s else s.tgBegin n)))

/-- OVERFLOW acts once a unit that has dropped has 256 bytes free: the OVERFLOW packet with the number dropped follows
what is in the FIFO, and the drops are logged. A block is written where 60 bytes wait or the unit is flushed: it takes
up to 60 bytes with the core and the next sequence number to the write pointer, which advances, wraps with a count, or
sets FULL; a full buffer discards it with a count. TRACE_ENABLE by an agent that may sets the fields and EN, or
CFG_ERR where the buffer is not valid; disabling flushes the units, with BUSY while any is not empty. TALLY_CLEAR
zeroes every counter and overflow bit. TALLY_OVF of a counter that counts wraps it to zero, setting its overflow bit
and logging it, or counting its odd neighbour where CHAIN is set. Which agents and parts act while a reset or a lost
supply holds them is notes/assumptions/64. A command whose own condition fails leaves the state as it is: the model's
choice, notes/assumptions/1. -/
def Obligations.TraceAndTallyResults : Prop :=
  (∀ (s : State) (c : Fin 256),
    let x := s.unit c
    let due := x.dropped ≠ 0 ∧ x.fifo.length + 256 ≤ fifoMax
    (¬due → exec (.overflow c) s = .next s) ∧
    (due → answers (.overflow c) s fun u => s.logs u 0x0061 c noInst x.dropped ∧
      (x.fifo ++ trHeader 8 0 :: leBytes 2 (min x.dropped 65535)) <+: (u.unit c).fifo ∧ u.threads = s.threads)) ∧
  (∀ (s : State) (c : Fin 256) (res : MemRes),
    let x := s.unit c
    let payload := x.fifo.take 60
    let seq := findD 0 c.val s.gln.bseq
    let wp := s.f GLN_BUF_WP.WP 0 * 64
    let due := x.fifo ≠ [] ∧ (60 ≤ x.fifo.length ∨ x.flush = true)
    (¬due → exec (.traceBlockWrite c res) s = .next (s.withRes res fun u => u)) ∧
    (due → answers (.traceBlockWrite c res) s fun u =>
      (u.unit c).fifo = x.fifo.drop 60 ∧ findD 0 c.val u.gln.bseq = (seq + 1) % 256 ∧
      (s.on GLN_TRC_STAT.FULL 0 = true → u.granary = s.granary ∧ u.f GLN_BUF_WP.WP 0 = s.f GLN_BUF_WP.WP 0 ∧
        u.f GLN_TRC_DROP.COUNT 0 = min (s.f GLN_TRC_DROP.COUNT 0 + payload.length) (max (s.f GLN_TRC_DROP.COUNT 0) (2 ^ 32 - 1))) ∧
      (s.on GLN_TRC_STAT.FULL 0 = false →
        u.granary.mem = (State.coherentWrite { s with res := res } ((s.bufBase + wp) / 64) fullMask
          (traceBlock c seq payload) 2).granary.mem ∧
        u.f GLN_BUF_WP.WP 0 = (if wp + 64 < s.bufSize ∨ s.on GLN_TRC_CTL.STOPFULL 0 = true then wp / 64 + 1 else 0)
          % 2 ^ GLN_BUF_WP.WP.width ∧
        u.on GLN_TRC_STAT.FULL 0 = (decide (s.bufSize ≤ wp + 64) && s.on GLN_TRC_CTL.STOPFULL 0)))) ∧
  (∀ (c seq : Nat) (b : List Byte), b.length ≤ 60 → (traceBlock c seq b).length = 64 ∧
    (traceBlock c seq b).take (4 + b.length) = leBytes 2 c ++ leBytes 1 b.length ++ leBytes 1 seq ++ b) ∧
  (∀ (s : State) (v : Nat),
    let f := s.traceFields v
    f.on GLN_TRC_CTL.STALL 0 = v.testBit 30 ∧ f.on GLN_TRC_CTL.STOPFULL 0 = v.testBit 29 ∧
    f.on GLN_TRC_CTL.SYS 0 = v.testBit 28 ∧ f.f GLN_TRC_CTL.RINGS 0 = v / 2 ^ 24 % 16 ∧
    f.f GLN_TRC_CTL.CTX 0 = v / 2 ^ 16 % 256 ∧ f.on GLN_TRC_CTL.EN 0 = s.on GLN_TRC_CTL.EN 0 ∧
    f.f GLN_TRC_CTL.TSPER 0 = (if 8 ≤ v / 256 % 32 then v / 256 % 32 else s.f GLN_TRC_CTL.TSPER 0)) ∧
  (∀ (s : State) (agent : Agent) (v : BitVec 32),
    let may := s.acts agent = true ∧ reaches agent = true
    let en := v.toNat.testBit 31 = true
    let was := s.on GLN_TRC_CTL.EN 0 = true
    let f := s.traceFields v.toNat
    (¬may → exec (.traceEnable agent v) s = .next s) ∧
    (may → en → was ∨ f.bufOk = true → answers (.traceEnable agent v) s fun u =>
      u.on GLN_TRC_CTL.EN 0 = true ∧ u.threads = s.threads ∧ u.on GLN_TRC_STAT.CFG_ERR 0 = s.on GLN_TRC_STAT.CFG_ERR 0) ∧
    (may → en → ¬was → f.bufOk = false → exec (.traceEnable agent v) s = .next (f.setOn GLN_TRC_STAT.CFG_ERR 0 true)) ∧
    (may → ¬en → was → answers (.traceEnable agent v) s fun u =>
      u.on GLN_TRC_CTL.EN 0 = false ∧ u.on GLN_TRC_STAT.BUSY 0 = u.gln.units.any fun y => y.2.flush) ∧
    (may → ¬en → ¬was → exec (.traceEnable agent v) s = .next f)) ∧
  (∀ (s : State) (agent : Agent),
    let may := s.acts agent = true ∧ reaches agent = true
    (¬may → exec (.tallyClear agent) s = .next s) ∧
    (may → answers (.tallyClear agent) s fun u =>
      (∀ k < 128, u.f TLY_CNT.COUNT k = 0 ∧ u.on TLY_CFG.EN k = s.on TLY_CFG.EN k) ∧ ∀ k < 4, u.f TLY_OVF.BITS k = 0)) ∧
  (∀ (s : State) (n : Fin 128),
    let counts := s.on TLY_CTL.EN 0 = true ∧ s.on TLY_CTL.FREEZE 0 = false ∧ s.on TLY_CFG.EN n = true ∧
      ¬(n.val % 2 = 1 ∧ s.on TLY_CFG.CHAIN (n.val - 1) = true)
    let chained := n.val % 2 = 0 ∧ s.on TLY_CFG.CHAIN n = true
    (¬counts → exec (.tallyOvf n) s = .next s) ∧
    (counts → ¬chained → answers (.tallyOvf n) s fun u => u.f TLY_CNT.COUNT n = 0 ∧
      u.bitF TLY_OVF.BITS (n / 32) (n % 32) = true ∧ s.logs u 0x0060 n noInst 0) ∧
    (counts → chained → answers (.tallyOvf n) s fun u => u.f TLY_CNT.COUNT n = 0 ∧
      u.f TLY_CNT.COUNT (n + 1) = (s.f TLY_CNT.COUNT (n + 1) + 1) % 2 ^ 48 ∧
      (u.f TLY_CNT.COUNT (n + 1) % 2 ^ 16 ≠ 0 → u.reeve = s.reeve ∧ ∀ k < 4, u.f TLY_OVF.BITS k = s.f TLY_OVF.BITS k) ∧
      (u.f TLY_CNT.COUNT (n + 1) % 2 ^ 16 = 0 → u.bitF TLY_OVF.BITS ((n + 1) / 32) ((n + 1) % 32) = true ∧
        s.logs u 0x0060 (n + 1) noInst 0)))

/-- LOG_WRITE takes the oldest queued entry: it merges into the newest valid entry of the same code, instance and plot
within 1 ms for a severity up to 2, raising its repeat count; else it is written with the next sequence number to a
free slot, or over the oldest entry that is not sticky; else it is lost, counted, with LOG_FULL. Acknowledging clears
STICKY of one or all entries and clearing VALID of all; plot 0, Reeve and the TAP may, Drill's write is dropped and
logged, other plots do nothing. A temperature sample shows the hottest readings, steps the thermal DUTY and
THERM_CRIT, and the applied DUTY is the lower of both controllers, 0 under THERM_CRIT. A power estimate above PL2
lowers by 8; nothing goes below 8. The counter sample keeps 60 histories and knows the saturated counters. Which
agents and parts act while a reset or a lost supply holds them is notes/assumptions/64. A command whose own condition
fails leaves the state as it is: the model's choice, notes/assumptions/1. -/
def Obligations.FaultLogAndThrottleResults : Prop :=
  (∀ s : State,
    let log := s.reeve.log
    let next := s.f RV_LOG_SEQ.SEQ 0
    (s.live = false → exec .logWrite s = .next s) ∧
    (s.live = true → match s.reeve.logQueue with
      | [] => exec .logWrite s = .next s
      | e :: r => match mergeTarget next e log with
        | some (n, b) => answers .logWrite s fun u => u.reeve.logQueue = r ∧
            find n u.reeve.log = some { b with rep := min 255 (b.rep + 1), lastTs := e.ts } ∧
            u.f RV_LOG_SEQ.SEQ 0 = next ∧ ∀ j, j ≠ n → find j u.reeve.log = find j log
        | none => match logPlace next log with
          | some n => answers .logWrite s fun u => u.reeve.logQueue = r ∧
              find n u.reeve.log = some { e with seq := next, valid := true, rep := 1, lastTs := e.ts, sticky := decide (3 ≤ e.severity) } ∧
              u.f RV_LOG_SEQ.SEQ 0 = (next + 1) % 2 ^ 32 ∧ ∀ j, j ≠ n → find j u.reeve.log = find j log
          | none => answers .logWrite s fun u => u.reeve.logQueue = r ∧ u.reeve.log = log ∧ u.f RV_LOG_SEQ.SEQ 0 = next ∧
              u.on RV_LOG_STAT.LOG_FULL 0 = true ∧
              u.f RV_LOG_LOST.COUNT 0 = (let q := s.f RV_LOG_LOST.COUNT 0; if q + 1 < 2 ^ 32 then q + 1 else q))) ∧
  (∀ (next : Nat) (e : LogEntry) (log : List (Nat × LogEntry)), match mergeTarget next e log with
    | some (n, b) => (n, b) ∈ log ∧ b.valid = true ∧ b.code = e.code ∧ b.inst = e.inst ∧ b.plot = e.plot ∧
        e.severity ≤ 2 ∧ e.ts ≤ b.lastTs + 100000 ∧
        ∀ x ∈ log, x.2.valid = true → x.2.code = e.code → x.2.inst = e.inst → x.2.plot = e.plot → logAge next b ≤ logAge next x.2
    | none => True) ∧
  (∀ (next : Nat) (log : List (Nat × LogEntry)), match logPlace next log with
    | some n => (n < 4096 ∧ (findD {} n log).valid = false ∧ ∀ j < n, (findD {} j log).valid = true) ∨
        ((∀ j < 4096, (findD {} j log).valid = true) ∧ ∃ x ∈ log, x.1 = n ∧ x.2.valid = true ∧ x.2.sticky = false ∧
          ∀ y ∈ log, y.2.valid = true → y.2.sticky = false → logAge next y.2 ≤ logAge next x.2)
    | none => (∀ j < 4096, (findD {} j log).valid = true) ∧ ∀ y ∈ log, y.2.valid = true → y.2.sticky = true) ∧
  (∀ (s : State) (agent : Agent) (k : Fin 4096),
    let may := agent = .plot 0 ∨ agent = .reeve ∨ agent = .tap
    (s.acts agent = false ∨ (¬may ∧ agent ≠ .drill) → exec (.logAck agent k) s = .next s ∧ exec (.logAckAll agent) s = .next s ∧
      exec (.logClear agent) s = .next s) ∧
    (s.acts agent = true → agent = .drill → exec (.logAck agent k) s = .next (s.writeDropped agent 0x0C) ∧
      exec (.logAckAll agent) s = .next (s.writeDropped agent 0x0C) ∧ exec (.logClear agent) s = .next (s.writeDropped agent 0x0C)) ∧
    (s.acts agent = true → may →
      answers (.logAck agent k) s (fun u => u.regs = s.regs ∧
        ∀ j, find j u.reeve.log = (find j s.reeve.log).map fun x => if j = k then { x with sticky := false } else x) ∧
      answers (.logAckAll agent) s (fun u => u.regs = s.regs ∧
        ∀ j, find j u.reeve.log = (find j s.reeve.log).map fun x => { x with sticky := false }) ∧
      answers (.logClear agent) s (fun u => u.regs = s.regs ∧
        ∀ j, find j u.reeve.log = (find j s.reeve.log).map fun x => { x with valid := false }))) ∧
  (∀ (s : State) (field headland : List Nat) (watts : Nat), s.live = false →
    exec (.tempSample field headland) s = .next s ∧ exec (.powerEstimate watts) s = .next s ∧
    exec (.pmbusCalibration watts) s = .next s ∧ exec .errorCounterSample s = .next s) ∧
  (∀ (s : State) (field headland : List Nat), s.live = true →
    let F := field.foldr max 0
    let H := headland.foldr max 0
    let S := s.stackTemps.foldr max 0
    answers (.tempSample field headland) s fun u => u.f RV_TEMP.FIELD 0 = F % 256 ∧ u.f RV_TEMP.STACK 0 = S % 256 ∧
      u.f RV_TEMP.HEADLAND 0 = H % 256 ∧ u.f RV_THROT.PDUTY 0 = s.f RV_THROT.PDUTY 0 ∧
      u.f RV_THROT.DUTY 0 = (if u.on RV_THROT.CRIT 0 then 0 else min (u.f RV_THROT.PDUTY 0) u.reeve.thermalDuty) % 128 ∧
      u.reeve.thermalDuty = thermalNext s.reeve.thermalDuty F S (s.f RV_TLIM.T_FIELD 0) (s.f RV_TLIM.T_STACK 0) ∧
      u.on RV_THROT.CRIT 0 = (if s.on RV_THROT.CRIT 0 then !(decide (F ≤ 100) && decide (H ≤ 100) && decide (S ≤ 95))
        else decide (110 ≤ F) || decide (110 ≤ H) || decide (105 ≤ S)) ∧
      (s.on DRL_STATUS.RUN 0 = false → u.reeve.setpoint = s.reeve.setpoint) ∧
      (s.on DRL_STATUS.RUN 0 = true → 280 ≤ u.reeve.setpoint ∧ u.reeve.setpoint ≤ 320 ∧
        fusedSetpoint ≤ u.reeve.setpoint + 4 ∧ u.reeve.setpoint ≤ fusedSetpoint + 4)) ∧
  (∀ (s : State) (watts : Nat), s.live = true →
    let duty := s.f RV_THROT.PDUTY 0
    let samples := (calibrate s.reeve.measured watts :: s.reeve.samples).take 100000
    let avg := (samples.take 10).sum / (samples.take 10).length
    let pl1 := s.f RV_PLIM.PL1 0
    let pl2 := s.f RV_PLIM.PL2 0
    let above := if pl1 < avg then s.reeve.aboveCount + 1 else 0
    let toPl1 := s.reeve.toPl1 || decide (800 ≤ above)
    exec (.pmbusCalibration watts) s = .next { s with reeve := { s.reeve with measured := some watts } } ∧
    answers (.powerEstimate watts) s fun u => u.reeve.samples = samples ∧ u.f RV_POWER.AVG100US 0 = avg % 2 ^ 16 ∧
      u.f RV_THROT.DUTY 0 = (if u.on RV_THROT.CRIT 0 then 0 else min (u.f RV_THROT.PDUTY 0) u.reeve.thermalDuty) % 128 ∧
      u.reeve.thermalDuty = s.reeve.thermalDuty ∧ u.reeve.aboveCount = above ∧
      (pl2 < avg → u.f RV_THROT.PDUTY 0 = max 8 (duty - 8) % 128) ∧
      (avg ≤ pl2 → toPl1 = false → u.f RV_THROT.PDUTY 0 = duty % 128 ∨ u.f RV_THROT.PDUTY 0 = (duty + 1) % 128) ∧
      (avg ≤ pl2 → toPl1 = true → avg ≤ pl1 → u.f RV_THROT.PDUTY 0 = duty % 128) ∧
      (avg ≤ pl2 → toPl1 = true → pl1 < avg → 8 < duty → duty < 128 →
        8 ≤ u.f RV_THROT.PDUTY 0 ∧ u.f RV_THROT.PDUTY 0 < duty)) ∧
  (∀ m raw, (raw < m - m / 20 → calibrate (some m) raw = m - m / 20) ∧ (m + m / 20 < raw → calibrate (some m) raw = m + m / 20) ∧
    (m - m / 20 ≤ raw → raw ≤ m + m / 20 → calibrate (some m) raw = raw)) ∧
  (∀ s : State, s.live = true → answers .errorCounterSample s fun u =>
      u.reeve.eccHistory = ((errorCounters.map fun c => s.f c.1 c.2.1) :: s.reeve.eccHistory).take 60 ∧
      ∀ j < errorCounters.length, match errorCounters[j]? with
        | none => True
        | some c => u.f c.1 c.2.1 = s.f c.1 c.2.1 ∧
            u.reeve.eccSaturated.contains j = decide (s.f c.1 c.2.1 = 2 ^ c.1.width - 1))
end

