-- ==== Sys2Proof/Laws/Store.lean ====
section
/-! SUPPORT. Laws of the sparse stores: what a read finds after a write, and that a write keeps the canonical form. -/

namespace Sys2Proof.Machine

variable {α : Type}

@[simp] theorem find_nil (k : Nat) : find (α := α) k [] = none := rfl

theorem find_cons (k : Nat) (c : Nat × α) (r : List (Nat × α)) :
    find k (c :: r) = if c.1 = k then some c.2 else find k r := rfl

theorem find_drop_self (k : Nat) (m : List (Nat × α)) : find k (drop k m) = none := by
  induction m with
  | nil => rfl
  | cons c r ih => by_cases h : c.1 = k <;> simp_all [drop, find_cons, List.filter_cons]

theorem find_drop_ne {k j : Nat} (h : j ≠ k) (m : List (Nat × α)) : find j (drop k m) = find j m := by
  induction m with
  | nil => rfl
  | cons c r ih =>
    by_cases hk : c.1 = k
    · have : c.1 ≠ j := fun e => h (e ▸ hk)
      simp_all [drop, find_cons, List.filter_cons]
    · simp_all [drop, find_cons, List.filter_cons]

theorem find_insertAt_ne {k j : Nat} (h : j ≠ k) (v : α) (m : List (Nat × α)) : find j (insertAt k v m) = find j m := by
  induction m with
  | nil => simp [insertAt, find_cons, h.symm]
  | cons c r ih =>
    by_cases hk : k < c.1
    · simp [insertAt, hk, find_cons, h.symm]
    · simp [insertAt, hk, find_cons, ih]

theorem find_insertAt_self {k : Nat} (v : α) (m : List (Nat × α)) (h : find k m = none) :
    find k (insertAt k v m) = some v := by
  induction m with
  | nil => simp [insertAt, find_cons]
  | cons c r ih =>
    have hc : c.1 ≠ k := fun e => by simp [find_cons, e] at h
    by_cases hk : k < c.1
    · simp [insertAt, hk, find_cons]
    · simp [insertAt, hk, find_cons, hc]; exact ih (by simpa [find_cons, hc] using h)

/-- A read after a write of the same key gives the value written. -/
@[simp] theorem find_put_self (k : Nat) (v : α) (m : List (Nat × α)) : find k (put k v m) = some v :=
  find_insertAt_self v _ (find_drop_self k m)

/-- A write leaves every other key alone. -/
@[simp] theorem find_put_ne {k j : Nat} (h : j ≠ k) (v : α) (m : List (Nat × α)) : find j (put k v m) = find j m := by
  rw [put, find_insertAt_ne h, find_drop_ne h]

@[simp] theorem findD_put_self (d : α) (k : Nat) (v : α) (m : List (Nat × α)) : findD d k (put k v m) = v := by
  simp [findD]

@[simp] theorem findD_put_ne {k j : Nat} (h : j ≠ k) (d v : α) (m : List (Nat × α)) :
    findD d j (put k v m) = findD d j m := by simp [findD, h]

@[simp] theorem findD_drop_self (d : α) (k : Nat) (m : List (Nat × α)) : findD d k (drop k m) = d := by
  simp [findD, find_drop_self]

@[simp] theorem findD_drop_ne {k j : Nat} (h : j ≠ k) (d : α) (m : List (Nat × α)) :
    findD d j (drop k m) = findD d j m := by simp [findD, find_drop_ne h]

/-- A read after a canonical write. -/
@[simp] theorem findD_putD_self [DecidableEq α] (d : α) (k : Nat) (v : α) (m : List (Nat × α)) :
    findD d k (putD d k v m) = v := by
  unfold putD; split <;> simp_all

@[simp] theorem findD_putD_ne [DecidableEq α] {k j : Nat} (h : j ≠ k) (d v : α) (m : List (Nat × α)) :
    findD d j (putD d k v m) = findD d j m := by
  unfold putD; split <;> simp [h]

/-! ### Rising keys -/

/-- Rising keys, as the chain of their comparisons. -/
theorem rising_iff (m : List (Nat × α)) : rising m = true ↔ m.Pairwise (fun a b => a.1 < b.1) := by
  induction m with
  | nil => simp [rising]
  | cons a r ih =>
    cases r with
    | nil => simp [rising]
    | cons b r =>
      simp only [rising, Bool.and_eq_true, decide_eq_true_eq, ih, List.pairwise_cons, List.mem_cons]
      constructor
      · rintro ⟨h, h1, h2⟩
        refine ⟨?_, h1, h2⟩
        rintro x (rfl | hx)
        · exact h
        · exact Nat.lt_trans h (h1 x hx)
      · rintro ⟨h0, h1, h2⟩
        exact ⟨h0 b (Or.inl rfl), h1, h2⟩

theorem drop_rising {m : List (Nat × α)} (h : rising m = true) (k : Nat) : rising (drop k m) = true := by
  rw [rising_iff] at *; exact h.filter _

theorem mem_insertAt (k : Nat) (v : α) (m : List (Nat × α)) (c : Nat × α) :
    c ∈ insertAt k v m ↔ c = (k, v) ∨ c ∈ m := by
  induction m with
  | nil => simp [insertAt]
  | cons a r ih => by_cases h : k < a.1 <;> simp [insertAt, h, ih]; tauto

theorem insertAt_rising {m : List (Nat × α)} {k : Nat} (h : rising m = true) (hk : ∀ c ∈ m, c.1 ≠ k) (v : α) :
    rising (insertAt k v m) = true := by
  rw [rising_iff] at *
  induction m with
  | nil => simp [insertAt]
  | cons a r ih =>
    rw [List.pairwise_cons] at h
    by_cases hl : k < a.1
    · simp only [insertAt, hl, if_true, List.pairwise_cons, List.mem_cons]
      refine ⟨?_, h.1, h.2⟩
      rintro x (rfl | hx)
      · exact hl
      · exact Nat.lt_trans hl (h.1 x hx)
    · simp only [insertAt, hl, if_false, List.pairwise_cons, mem_insertAt]
      refine ⟨?_, ih h.2 fun c hc => hk c (List.mem_cons_of_mem _ hc)⟩
      rintro x (rfl | hx)
      · have := hk a (List.mem_cons_self ..); show a.1 < k; omega
      · exact h.1 x hx

theorem put_rising {m : List (Nat × α)} (h : rising m = true) (k : Nat) (v : α) : rising (put k v m) = true :=
  insertAt_rising (drop_rising h k) (by simp [drop]) v

theorem mem_drop {m : List (Nat × α)} {k : Nat} {c : Nat × α} (h : c ∈ drop k m) : c ∈ m := (List.mem_filter.mp h).1

theorem mem_put {m : List (Nat × α)} {k : Nat} {v : α} {c : Nat × α} (h : c ∈ put k v m) : c = (k, v) ∨ c ∈ m := by
  rcases (mem_insertAt ..).mp h with rfl | h
  · exact Or.inl rfl
  · exact Or.inr (mem_drop h)

theorem putD_rising [DecidableEq α] {m : List (Nat × α)} (h : rising m = true) (d : α) (k : Nat) (v : α) :
    rising (putD d k v m) = true := by
  unfold putD; split
  · exact drop_rising h k
  · exact put_rising h k v

/-- A canonical write keeps out the value that an absent key reads as. -/
theorem putD_ne [DecidableEq α] {d : α} {m : List (Nat × α)} (h : ∀ c ∈ m, c.2 ≠ d) (k : Nat) (v : α) :
    ∀ c ∈ putD d k v m, c.2 ≠ d := by
  unfold putD; split
  · exact fun c hc => h c (mem_drop hc)
  · intro c hc
    rcases mem_put hc with rfl | hc
    · assumption
    · exact h c hc

/-! ### Filters -/

/-- A filter that refuses a key does not see a write of it. -/
theorem filter_put_of_not {p : Nat × α → Bool} {k : Nat} (hp : ∀ x, p (k, x) = false) (v : α) (m : List (Nat × α)) :
    (put k v m).filter p = m.filter p := by
  have hd : (drop k m).filter p = m.filter p := by
    unfold drop; rw [List.filter_filter]
    apply List.filter_congr
    rintro ⟨j, x⟩ _
    by_cases h : j = k
    · subst h; simp [hp x]
    · simp [h]
  rw [put, ← hd]
  generalize drop k m = l
  induction l with
  | nil => simp [insertAt, hp]
  | cons a r ih => by_cases h : k < a.1 <;> simp [insertAt, h, hp, List.filter_cons, ih]

end Sys2Proof.Machine
end

