-- ==== Sys2Proof/Laws/Fields.lean ====
section
/-! SUPPORT. Register fields and thread contexts: a write is read back, and no other field, instance or context changes. -/

namespace Sys2Proof.Machine

/-- A field that was set reads as the value, to its width. -/
@[simp] theorem State.f_setF_self (s : State) (F : Fld) (i v : Nat) : (s.setF F i v).f F i = v % 2 ^ F.width := by
  simp [State.f, State.setF]

/-- Another field, or another instance, reads as before. -/
theorem State.f_setF_ne (s : State) {F G : Fld} {i j : Nat} (h : G.key j ≠ F.key i) (v : Nat) :
    (s.setF F i v).f G j = s.f G j := by simp [State.f, State.setF, h]

/-- A one-bit field that was set reads as it was set. -/
theorem State.on_setOn_self (s : State) {F : Fld} (h : F.width = 1) (i : Nat) (b : Bool) : (s.setOn F i b).on F i = b := by
  cases b <;> simp [State.on, State.setOn, h]

/-- Another field, or another instance, reads as before. -/
theorem State.on_setOn_ne (s : State) {F G : Fld} {i j : Nat} (h : G.key j ≠ F.key i) (b : Bool) :
    (s.setOn F i b).on G j = s.on G j := by simp [State.on, State.setOn, State.f_setF_ne s h]

/-- A context that was replaced. -/
@[simp] theorem State.thread_setThread_self (s : State) (h : Nat) (t : Thread) : (s.setThread h t).thread h = t := by
  simp [State.thread, State.setThread]

/-- Another context. -/
theorem State.thread_setThread_ne (s : State) {h k : Nat} (e : k ≠ h) (t : Thread) :
    (s.setThread h t).thread k = s.thread k := by simp [State.thread, State.setThread, e]

/-- A context that was changed. -/
@[simp] theorem State.thread_modThread_self (s : State) (h : Nat) (f : Thread → Thread) :
    (s.modThread h f).thread h = f (s.thread h) := by simp [State.modThread]

/-- Another context. -/
theorem State.thread_modThread_ne (s : State) {h k : Nat} (e : k ≠ h) (f : Thread → Thread) :
    (s.modThread h f).thread k = s.thread k := State.thread_setThread_ne s e _

/-- Register fields do not depend on the contexts. -/
@[simp] theorem State.f_setThread (s : State) (h : Nat) (t : Thread) (F : Fld) (i : Nat) :
    (s.setThread h t).f F i = s.f F i := rfl
@[simp] theorem State.f_modThread (s : State) (h : Nat) (f : Thread → Thread) (F : Fld) (i : Nat) :
    (s.modThread h f).f F i = s.f F i := rfl

/-- Contexts do not depend on register fields. -/
@[simp] theorem State.thread_setF (s : State) (F : Fld) (i v h : Nat) : (s.setF F i v).thread h = s.thread h := rfl
@[simp] theorem State.thread_setOn (s : State) (F : Fld) (i : Nat) (b : Bool) (h : Nat) :
    (s.setOn F i b).thread h = s.thread h := rfl

end Sys2Proof.Machine
end

