-- ==== Sys2Proof/Laws/Frame.lean ====
section
/-! SUPPORT. What an update of one part of the state keeps (`State.keep`), and what the operations on register fields
keep. -/

namespace Sys2Proof.Machine

variable {m : Facet → Bool}

/-! ### One field replaced -/

@[simp] theorem keep_reeve (h : m .reeve = false) (s : State) (v) : ({ s with reeve := v } : State).keep m = s.keep m := by
  simp [State.keep, h]
@[simp] theorem keep_threads (h : m .threads = false) (s : State) (v) : ({ s with threads := v } : State).keep m = s.keep m := by
  simp [State.keep, h]
@[simp] theorem keep_cores (h : m .cores = false) (s : State) (v) : ({ s with cores := v } : State).keep m = s.keep m := by
  simp [State.keep, h]
@[simp] theorem keep_tiles (h : m .tiles = false) (s : State) (v) : ({ s with tiles := v } : State).keep m = s.keep m := by
  simp [State.keep, h]
@[simp] theorem keep_caches (h : m .caches = false) (s : State) (v) : ({ s with caches := v } : State).keep m = s.keep m := by
  simp [State.keep, h]
@[simp] theorem keep_seedbox (h : m .seedbox = false) (s : State) (v) : ({ s with seedbox := v } : State).keep m = s.keep m := by
  simp [State.keep, h]
@[simp] theorem keep_gln (h : m .gln = false) (s : State) (v) : ({ s with gln := v } : State).keep m = s.keep m := by
  simp [State.keep, h]
@[simp] theorem keep_drill (h : m .drill = false) (s : State) (v) : ({ s with drill := v } : State).keep m = s.keep m := by
  simp [State.keep, h]
@[simp] theorem keep_loops (h : m .loops = false) (s : State) (v) : ({ s with loops := v } : State).keep m = s.keep m := by
  simp [State.keep, h]
@[simp] theorem keep_host (h : m .host = false) (s : State) (v) : ({ s with host := v } : State).keep m = s.keep m := by
  simp [State.keep, h]
@[simp] theorem keep_links (h : m .links = false) (s : State) (v) : ({ s with links := v } : State).keep m = s.keep m := by
  simp [State.keep, h]
@[simp] theorem keep_yoke (h : m .yoke = false) (s : State) (v) : ({ s with yoke := v } : State).keep m = s.keep m := by
  simp [State.keep, h]
@[simp] theorem keep_acre (h : m .acre = false) (s : State) (v) : ({ s with acre := v } : State).keep m = s.keep m := by
  simp [State.keep, h]
@[simp] theorem keep_boot (h : m .boot = false) (s : State) (v) : ({ s with boot := v } : State).keep m = s.keep m := by
  simp [State.keep, h]
@[simp] theorem keep_isl (h : m .isl = false) (s : State) (v) : ({ s with isl := v } : State).keep m = s.keep m := by
  simp [State.keep, h]
@[simp] theorem keep_bnd (h : m .bnd = false) (s : State) (v) : ({ s with bnd := v } : State).keep m = s.keep m := by
  simp [State.keep, h]
@[simp] theorem keep_vecs (h : m .vecs = false) (s : State) (v) : ({ s with vecs := v } : State).keep m = s.keep m := by
  simp [State.keep, h]
@[simp] theorem keep_sent (h : m .sent = false) (s : State) (v) : ({ s with sent := v } : State).keep m = s.keep m := by
  simp [State.keep, h]
@[simp] theorem keep_fresh (h : m .fresh = false) (s : State) (v) : ({ s with fresh := v } : State).keep m = s.keep m := by
  simp [State.keep, h]

@[simp] theorem keep_res (s : State) (v : MemRes) : ({ s with res := v } : State).keep m = s.keep m := rfl

/-- Clocks replaced, the power-on reset's pins and rails as they were. -/
@[simp] theorem keep_clk (h : m .clk = false) (s : State) (c : Clocks) (h1 : c.porstLow = s.clk.porstLow)
    (h2 : c.porstHeld = s.clk.porstHeld) (h3 : c.railOut = s.clk.railOut) :
    ({ s with clk := c } : State).keep m = s.keep m := by simp [State.keep, h, h1, h2, h3]

/-- The power-on reset's pins and rails replaced with the other clocks. -/
@[simp] theorem keep_clk_por (h : m .clk = false) (hp : m .por = false) (s : State) (c : Clocks) :
    ({ s with clk := c } : State).keep m = s.keep m := by simp [State.keep, h, hp]

/-- The granary replaced, its bytes as they were. -/
@[simp] theorem keep_granary (h : m .granary = false) (s : State) (g : Granary) (hm : g.mem = s.granary.mem) :
    ({ s with granary := g } : State).keep m = s.keep m := by simp [State.keep, h, hm]

/-- The granary's bytes replaced. -/
@[simp] theorem keep_mem (h : m .mem = false) (s : State) (b : List Host.Cell) :
    ({ s with granary := { s.granary with mem := b } } : State).keep m = s.keep m := by
  cases hg : m .granary <;> simp [State.keep, h, hg]

/-- The granary replaced with its bytes. -/
@[simp] theorem keep_granary_mem (h : m .granary = false) (hm : m .mem = false) (s : State) (g : Granary) :
    ({ s with granary := g } : State).keep m = s.keep m := by simp [State.keep, h, hm]

@[simp] theorem keep_host_vecs (h1 : m .host = false) (h2 : m .vecs = false) (s : State) (v w) :
    ({ s with host := v, vecs := w } : State).keep m = s.keep m := by simp [State.keep, h1, h2]

@[simp] theorem keep_caches_granary (h1 : m .caches = false) (h2 : m .granary = false) (h3 : m .mem = false) (s : State) (v w) :
    ({ s with caches := v, granary := w } : State).keep m = s.keep m := by simp [State.keep, h1, h2, h3]

@[simp] theorem keep_granary_drill (h1 : m .granary = false) (h2 : m .drill = false) (s : State) (v : Granary) (w)
    (hm : v.mem = s.granary.mem) :
    ({ s with granary := v, drill := w } : State).keep m = s.keep m := by simp [State.keep, h1, h2, hm]

@[simp] theorem keep_clk_boot (h0 : m .clk = false) (hp : m .por = false) (h1 : m .boot = false) (s : State) (c : Clocks) (v) :
    ({ s with clk := c, boot := v } : State).keep m = s.keep m := by simp [State.keep, h0, hp, h1]

@[simp] theorem keep_clk_tiles_seedbox (h0 : m .clk = false) (h1 : m .tiles = false) (h2 : m .seedbox = false) (s : State)
    (c : Clocks) (v w) (e1 : c.porstLow = s.clk.porstLow)
    (e2 : c.porstHeld = s.clk.porstHeld) (e3 : c.railOut = s.clk.railOut) :
    ({ s with clk := c, tiles := v, seedbox := w } : State).keep m = s.keep m := by
  simp [State.keep, h0, h1, h2, e1, e2, e3]

/-- The parts that a package reset clears in one update. -/
theorem keep_cleared (s : State) (c : Clocks) (g : Granary) (th co ti ca se gl dr lo ho li yo ac bo bn ve fr)
    (h0 : m .clk = false) (h1 : m .threads = false) (h2 : m .cores = false) (h3 : m .tiles = false)
    (h4 : m .caches = false) (h5 : m .granary = false) (h6 : m .seedbox = false) (h7 : m .gln = false)
    (h8 : m .drill = false) (h9 : m .loops = false) (h10 : m .host = false) (h11 : m .links = false)
    (h12 : m .yoke = false) (h13 : m .acre = false) (h14 : m .boot = false) (h15 : m .bnd = false)
    (h16 : m .vecs = false) (h17 : m .fresh = false) (e1 : c.porstLow = s.clk.porstLow)
    (e2 : c.porstHeld = s.clk.porstHeld) (e3 : c.railOut = s.clk.railOut) (e4 : g.mem = s.granary.mem) :
    ({ s with
        clk := c, threads := th, cores := co, tiles := ti, caches := ca, granary := g, seedbox := se, gln := gl
        drill := dr, loops := lo, host := ho, links := li, yoke := yo, acre := ac, boot := bo, bnd := bn, vecs := ve
        fresh := fr } : State).keep m = s.keep m := by
  simp [State.keep, *]

/-! ### Register fields -/

theorem regs_keep {s t : State} (h : (t.regs.filter fun c => m (.blk (blkOf (c.1 % 4096)))) =
    s.regs.filter fun c => m (.blk (blkOf (c.1 % 4096)))) :
    ({ s with regs := t.regs } : State).keep m = s.keep m := by simp [State.keep, h]

@[simp] theorem State.setF_keep (s : State) (F : Fld) (h : m (.blk F.blk) = false) (i v : Nat) :
    (s.setF F i v).keep m = s.keep m := by
  have : (put (F.key i) (v % 2 ^ F.width) s.regs).filter (fun c => m (.blk (blkOf (c.1 % 4096)))) =
      s.regs.filter fun c => m (.blk (blkOf (c.1 % 4096))) := by
    apply filter_put_of_not
    intro x
    have : F.key i % 4096 = F.id % 4096 := by unfold Fld.key; omega
    simpa [this, Fld.blk] using h
  simp [State.setF, State.keep, this]

@[simp] theorem State.setOn_keep (s : State) (F : Fld) (h : m (.blk F.blk) = false) (i : Nat) (b : Bool) :
    (s.setOn F i b).keep m = s.keep m := s.setF_keep F h i _

@[simp] theorem State.setBitF_keep (s : State) (F : Fld) (h : m (.blk F.blk) = false) (i k : Nat)
    (b : Bool) : (s.setBitF F i k b).keep m = s.keep m := s.setF_keep F h i _

@[simp] theorem State.bump_keep (s : State) (F : Fld) (h : m (.blk F.blk) = false) (i : Nat) :
    (s.bump F i).keep m = s.keep m := by
  unfold State.bump; split
  · exact s.setF_keep F h i _
  · rfl

@[simp] theorem State.bumpBy_keep (s : State) (F : Fld) (h : m (.blk F.blk) = false) (i n : Nat) :
    (s.bumpBy F i n).keep m = s.keep m := s.setF_keep F h i _

@[simp] theorem State.wrapInc_keep (s : State) (F : Fld) (h : m (.blk F.blk) = false) (i : Nat) :
    (s.wrapInc F i).keep m = s.keep m := s.setF_keep F h i _

@[simp] theorem State.resetFields_keep (s : State) (fs : List Fld) (h : ∀ F ∈ fs, m (.blk F.blk) = false) :
    (s.resetFields fs).keep m = s.keep m := by
  have : (s.regs.filter (fun c => !(fs.any fun F => F.id == c.1 % 4096))).filter
      (fun c => m (.blk (blkOf (c.1 % 4096)))) = s.regs.filter fun c => m (.blk (blkOf (c.1 % 4096))) := by
    rw [List.filter_filter]
    apply List.filter_congr
    intro c _
    by_cases hc : (fs.any fun F => F.id == c.1 % 4096) = true
    · obtain ⟨F, hF, e⟩ := List.any_eq_true.mp hc
      have := h F hF
      simp only [beq_iff_eq] at e
      simp only [Fld.blk, e, Nat.mod_mod] at this
      simp [this]
    · simp [hc]
  simp [State.resetFields, State.keep, this]

/-- Every field of a block's registers lies in that block. -/
theorem Blk.fields_blk (b : Blk) : ∀ F ∈ b.fields, F.blk = b := by cases b <;> decide

/-- A register that an offset leads to is one of the block's. -/
theorem Blk.locate_mem {b : Blk} {win off i o : Nat} {r : RegDesc} (h : b.locate win off = some (r, i, o)) :
    r ∈ b.regs := by
  unfold Blk.locate at h
  obtain ⟨x, hx, e⟩ := List.exists_of_findSome?_eq_some h
  (repeat' split at e) <;> cases e
  exact hx

@[simp] theorem State.resetBlk_keep (s : State) (b : Blk) (h : m (.blk b) = false) : (s.resetBlk b).keep m = s.keep m :=
  s.resetFields_keep _ fun F hF => by rw [b.fields_blk F hF, h]

/-! ### Folds and choices -/

@[simp] theorem foldl_keep {α : Type} {f : State → α → State} (hf : ∀ s a, (f s a).keep m = s.keep m) (l : List α) (s : State) :
    (l.foldl f s).keep m = s.keep m := by
  induction l generalizing s with
  | nil => rfl
  | cons a r ih => rw [List.foldl_cons, ih, hf]

theorem foldl_keep_mem {α : Type} {f : State → α → State} (l : List α)
    (hf : ∀ s, ∀ a ∈ l, (f s a).keep m = s.keep m) (s : State) : (l.foldl f s).keep m = s.keep m := by
  induction l generalizing s with
  | nil => rfl
  | cons a r ih =>
    rw [List.foldl_cons, ih (fun s b hb => hf s b (List.mem_cons_of_mem _ hb)), hf s a (List.mem_cons_self ..)]

@[simp] theorem foldr_keep {α : Type} {f : α → State → State} (hf : ∀ a s, (f a s).keep m = s.keep m) (l : List α) (s : State) :
    (l.foldr f s).keep m = s.keep m := by
  induction l with
  | nil => rfl
  | cons a r ih => rw [List.foldr_cons, hf, ih]

@[simp] theorem keep_ite {c : Prop} [Decidable c] (a b : State) :
    (if c then a else b).keep m = if c then a.keep m else b.keep m := by split <;> rfl

@[simp] theorem keep_getD {s : State} {o : Option State} (h : ∀ x, o = some x → x.keep m = s.keep m) :
    (o.getD s).keep m = s.keep m := by
  cases o with
  | none => rfl
  | some x => exact h x rfl

@[simp] theorem keep_snd_ite {α : Type} {c : Prop} [Decidable c] (a b : α × State) :
    (if c then a else b).2.keep m = if c then a.2.keep m else b.2.keep m := by split <;> rfl

/-- What a command that answers `o` on `s` keeps. -/
@[irreducible] def Keeps (m : Facet → Bool) (s : State) (o : Out) : Prop := ∀ t, o = .next t → t.keep m = s.keep m

@[simp] theorem keeps_next (s t : State) : Keeps m s (.next t) ↔ t.keep m = s.keep m :=
  by unfold Keeps; exact ⟨fun h => h t rfl, fun h u e => by cases e; exact h⟩

@[simp] theorem keeps_fault (s : State) (r : Fault) : Keeps m s (.fault r) := by
  unfold Keeps; exact fun _ e => by cases e

end Sys2Proof.Machine
end

