-- ==== Sys2Proof/Laws/FieldBlocks.lean ====
section
/-! SUPPORT. The register block of each register field. -/

namespace Sys2Proof.Machine

@[simp] theorem CLK_STATUS.FALLBACK_blk : Fld.blk CLK_STATUS.FALLBACK = .CLK := rfl
@[simp] theorem CLK_STATUS.ROOT_LOCK_blk : Fld.blk CLK_STATUS.ROOT_LOCK = .CLK := rfl
@[simp] theorem CLK_STATUS.REFCLK_OK_blk : Fld.blk CLK_STATUS.REFCLK_OK = .CLK := rfl
@[simp] theorem CLK_EVENT.TS_GAP_blk : Fld.blk CLK_EVENT.TS_GAP = .CLK := rfl
@[simp] theorem CLK_EVENT.ROOT_UNLOCK_blk : Fld.blk CLK_EVENT.ROOT_UNLOCK = .CLK := rfl
@[simp] theorem CLK_EVENT.REFCLK_LOST_blk : Fld.blk CLK_EVENT.REFCLK_LOST = .CLK := rfl
@[simp] theorem CLK_TIMESTAMP.TS_blk : Fld.blk CLK_TIMESTAMP.TS = .CLK := rfl
@[simp] theorem PWR_RAIL_STATUS.GOOD_blk : Fld.blk PWR_RAIL_STATUS.GOOD = .PWR := rfl
@[simp] theorem PWR_RESET_CAUSE.PF_FLR_blk : Fld.blk PWR_RESET_CAUSE.PF_FLR = .PWR := rfl
@[simp] theorem PWR_RESET_CAUSE.HOST_PORT_blk : Fld.blk PWR_RESET_CAUSE.HOST_PORT = .PWR := rfl
@[simp] theorem PWR_RESET_CAUSE.ROOT_CLOCK_blk : Fld.blk PWR_RESET_CAUSE.ROOT_CLOCK = .PWR := rfl
@[simp] theorem PWR_RESET_CAUSE.BOOT_RESTART_blk : Fld.blk PWR_RESET_CAUSE.BOOT_RESTART = .PWR := rfl
@[simp] theorem PWR_RESET_CAUSE.DEBUG_blk : Fld.blk PWR_RESET_CAUSE.DEBUG = .PWR := rfl
@[simp] theorem PWR_RESET_CAUSE.DRILL_WDOG_blk : Fld.blk PWR_RESET_CAUSE.DRILL_WDOG = .PWR := rfl
@[simp] theorem PWR_RESET_CAUSE.SOFT_blk : Fld.blk PWR_RESET_CAUSE.SOFT = .PWR := rfl
@[simp] theorem PWR_RESET_CAUSE.WARM_PIN_blk : Fld.blk PWR_RESET_CAUSE.WARM_PIN = .PWR := rfl
@[simp] theorem PWR_RESET_CAUSE.POWER_ON_blk : Fld.blk PWR_RESET_CAUSE.POWER_ON = .PWR := rfl
@[simp] theorem PWR_RESET_CTL.KEY_blk : Fld.blk PWR_RESET_CTL.KEY = .PWR := rfl
@[simp] theorem PWR_RESET_CTL.PKG_blk : Fld.blk PWR_RESET_CTL.PKG = .PWR := rfl
@[simp] theorem PWR_TG_RESET.GO_blk : Fld.blk PWR_TG_RESET.GO = .PWR := rfl
@[simp] theorem PWR_TG_RESET.BUSY_blk : Fld.blk PWR_TG_RESET.BUSY = .PWR := rfl
@[simp] theorem PWR_TG_RESET.CORE_blk : Fld.blk PWR_TG_RESET.CORE = .PWR := rfl
@[simp] theorem PWR_WDOG_CFG.PERIOD_blk : Fld.blk PWR_WDOG_CFG.PERIOD = .PWR := rfl
@[simp] theorem PWR_WDOG_CFG.EN_blk : Fld.blk PWR_WDOG_CFG.EN = .PWR := rfl
@[simp] theorem PWR_WDOG_KICK.KICK_blk : Fld.blk PWR_WDOG_KICK.KICK = .PWR := rfl
@[simp] theorem PWR_GATE_STAT.GATED_blk : Fld.blk PWR_GATE_STAT.GATED = .PWR := rfl
@[simp] theorem PWR_RESET_COUNT.COUNT_blk : Fld.blk PWR_RESET_COUNT.COUNT = .PWR := rfl
@[simp] theorem BT_STEPPING.LETTER_blk : Fld.blk BT_STEPPING.LETTER = .BT := rfl
@[simp] theorem BT_STEPPING.DIGIT_blk : Fld.blk BT_STEPPING.DIGIT = .BT := rfl
@[simp] theorem BT_STATUS.CODE_blk : Fld.blk BT_STATUS.CODE = .BT := rfl
@[simp] theorem BT_STATUS.RECOVERY_blk : Fld.blk BT_STATUS.RECOVERY = .BT := rfl
@[simp] theorem BT_STATUS.DONE_blk : Fld.blk BT_STATUS.DONE = .BT := rfl
@[simp] theorem BT_SLOT.ID_blk : Fld.blk BT_SLOT.ID = .BT := rfl
@[simp] theorem BT_SLOT.B_RESULT_blk : Fld.blk BT_SLOT.B_RESULT = .BT := rfl
@[simp] theorem BT_SLOT.A_RESULT_blk : Fld.blk BT_SLOT.A_RESULT = .BT := rfl
@[simp] theorem BT_SLOT.TRIAL_blk : Fld.blk BT_SLOT.TRIAL = .BT := rfl
@[simp] theorem BT_SLOT.SEL_blk : Fld.blk BT_SLOT.SEL = .BT := rfl
@[simp] theorem BT_COMPAT.UNTESTED_PAIR_blk : Fld.blk BT_COMPAT.UNTESTED_PAIR = .BT := rfl
@[simp] theorem BT_COMPAT.TWIN_MIXED_blk : Fld.blk BT_COMPAT.TWIN_MIXED = .BT := rfl
@[simp] theorem BT_COMPAT.UNTESTED_TMC_blk : Fld.blk BT_COMPAT.UNTESTED_TMC = .BT := rfl
@[simp] theorem BT_COMPAT.UNTESTED_RVD_blk : Fld.blk BT_COMPAT.UNTESTED_RVD = .BT := rfl
@[simp] theorem BT_COMPAT.UNTESTED_HMB_blk : Fld.blk BT_COMPAT.UNTESTED_HMB = .BT := rfl
@[simp] theorem BT_UPDATE.KEY_blk : Fld.blk BT_UPDATE.KEY = .BT := rfl
@[simp] theorem BT_UPDATE.RESTART_blk : Fld.blk BT_UPDATE.RESTART = .BT := rfl
@[simp] theorem BT_UPDATE.REVERT_blk : Fld.blk BT_UPDATE.REVERT = .BT := rfl
@[simp] theorem BT_UPDATE.COMMIT_blk : Fld.blk BT_UPDATE.COMMIT = .BT := rfl
@[simp] theorem BT_UPDATE.TRIAL_blk : Fld.blk BT_UPDATE.TRIAL = .BT := rfl
@[simp] theorem BT_UPDATE.BUSY_blk : Fld.blk BT_UPDATE.BUSY = .BT := rfl
@[simp] theorem BT_UPDATE.PENDING_blk : Fld.blk BT_UPDATE.PENDING = .BT := rfl
@[simp] theorem BT_UPDATE.TYPES_blk : Fld.blk BT_UPDATE.TYPES = .BT := rfl
@[simp] theorem BT_FLASH_OWN.DENIED_blk : Fld.blk BT_FLASH_OWN.DENIED = .BT := rfl
@[simp] theorem BT_FLASH_OWN.RELEASE_blk : Fld.blk BT_FLASH_OWN.RELEASE = .BT := rfl
@[simp] theorem BT_FLASH_OWN.CLAIM_blk : Fld.blk BT_FLASH_OWN.CLAIM = .BT := rfl
@[simp] theorem BT_FLASH_OWN.OWNER_blk : Fld.blk BT_FLASH_OWN.OWNER = .BT := rfl
@[simp] theorem BT_FLASH_ADDR.ADDR_blk : Fld.blk BT_FLASH_ADDR.ADDR = .BT := rfl
@[simp] theorem BT_FLASH_CMD.OP_blk : Fld.blk BT_FLASH_CMD.OP = .BT := rfl
@[simp] theorem BT_FLASH_STATUS.PROTECTED_blk : Fld.blk BT_FLASH_STATUS.PROTECTED = .BT := rfl
@[simp] theorem BT_FLASH_STATUS.ERR_blk : Fld.blk BT_FLASH_STATUS.ERR = .BT := rfl
@[simp] theorem BT_FLASH_STATUS.BUSY_blk : Fld.blk BT_FLASH_STATUS.BUSY = .BT := rfl
@[simp] theorem BT_SVN_COMMIT.KEY_blk : Fld.blk BT_SVN_COMMIT.KEY = .BT := rfl
@[simp] theorem BT_SVN_COMMIT.GO_blk : Fld.blk BT_SVN_COMMIT.GO = .BT := rfl
@[simp] theorem BT_SVN_COMMIT.TYPES_blk : Fld.blk BT_SVN_COMMIT.TYPES = .BT := rfl
@[simp] theorem BT_FLASH_BUF.DATA_blk : Fld.blk BT_FLASH_BUF.DATA = .BT := rfl
@[simp] theorem FUR_GROUP.SEL_blk : Fld.blk FUR_GROUP.SEL = .FURG := rfl
@[simp] theorem GRN_GMASK.MASK_blk : Fld.blk GRN_GMASK.MASK = .GRNG := rfl
@[simp] theorem FUR_XPEND.LSE_blk : Fld.blk FUR_XPEND.LSE = .FUR := rfl
@[simp] theorem FUR_XPEND.SRC_blk : Fld.blk FUR_XPEND.SRC = .FUR := rfl
@[simp] theorem FUR_LOCKSTAT.LOCKED_blk : Fld.blk FUR_LOCKSTAT.LOCKED = .FUR := rfl
@[simp] theorem FUR_L1CTL.BUSY_blk : Fld.blk FUR_L1CTL.BUSY = .FUR := rfl
@[simp] theorem FUR_L1CTL.IINV_blk : Fld.blk FUR_L1CTL.IINV = .FUR := rfl
@[simp] theorem FUR_L1CTL.DINV_blk : Fld.blk FUR_L1CTL.DINV = .FUR := rfl
@[simp] theorem FUR_L1CTL.IEN_blk : Fld.blk FUR_L1CTL.IEN = .FUR := rfl
@[simp] theorem FUR_L1CTL.DEN_blk : Fld.blk FUR_L1CTL.DEN = .FUR := rfl
@[simp] theorem FUR_RNG_BASE.BASE_blk : Fld.blk FUR_RNG_BASE.BASE = .FUR := rfl
@[simp] theorem FUR_RNG_LEN.LEN_blk : Fld.blk FUR_RNG_LEN.LEN = .FUR := rfl
@[simp] theorem FUR_RNG_CTL.GO_blk : Fld.blk FUR_RNG_CTL.GO = .FUR := rfl
@[simp] theorem FUR_RNG_CTL.BUSY_blk : Fld.blk FUR_RNG_CTL.BUSY = .FUR := rfl
@[simp] theorem FUR_RNG_CTL.ERR_blk : Fld.blk FUR_RNG_CTL.ERR = .FUR := rfl
@[simp] theorem FUR_RNG_CTL.IGNORED_blk : Fld.blk FUR_RNG_CTL.IGNORED = .FUR := rfl
@[simp] theorem FUR_RNG_CTL.ACTION_blk : Fld.blk FUR_RNG_CTL.ACTION = .FUR := rfl
@[simp] theorem FUR_RNG_CTL.MODE_blk : Fld.blk FUR_RNG_CTL.MODE = .FUR := rfl
@[simp] theorem FUR_RNG_DONE.LINES_blk : Fld.blk FUR_RNG_DONE.LINES = .FUR := rfl
@[simp] theorem FUR_ECCCNT.L1_blk : Fld.blk FUR_ECCCNT.L1 = .FUR := rfl
@[simp] theorem FUR_ECCCNT.FC_blk : Fld.blk FUR_ECCCNT.FC = .FUR := rfl
@[simp] theorem FUR_SILOECC.SPILL_blk : Fld.blk FUR_SILOECC.SPILL = .FUR := rfl
@[simp] theorem FUR_SILOECC.SILO_blk : Fld.blk FUR_SILOECC.SILO = .FUR := rfl
@[simp] theorem FUR_GRP.OPEN_blk : Fld.blk FUR_GRP.OPEN = .FUR := rfl
@[simp] theorem FUR_GRP.INT_blk : Fld.blk FUR_GRP.INT = .FUR := rfl
@[simp] theorem FUR_GRP.POISON_blk : Fld.blk FUR_GRP.POISON = .FUR := rfl
@[simp] theorem FUR_GRP.SPILL_blk : Fld.blk FUR_GRP.SPILL = .FUR := rfl
@[simp] theorem FUR_GRP.BASE_blk : Fld.blk FUR_GRP.BASE = .FUR := rfl
@[simp] theorem FUR_GRP.ROWS_blk : Fld.blk FUR_GRP.ROWS = .FUR := rfl
@[simp] theorem FUR_GRP.COLS_blk : Fld.blk FUR_GRP.COLS = .FUR := rfl
@[simp] theorem FUR_GRP.PHASE_blk : Fld.blk FUR_GRP.PHASE = .FUR := rfl
@[simp] theorem GRN_STATE.MEMBER_blk : Fld.blk GRN_STATE.MEMBER = .GRN := rfl
@[simp] theorem GRN_STATE.SET_blk : Fld.blk GRN_STATE.SET = .GRN := rfl
@[simp] theorem GRN_STATE.SELFREF_blk : Fld.blk GRN_STATE.SELFREF = .GRN := rfl
@[simp] theorem GRN_STATE.REFUSED_blk : Fld.blk GRN_STATE.REFUSED = .GRN := rfl
@[simp] theorem GRN_STATE.BUSY_blk : Fld.blk GRN_STATE.BUSY = .GRN := rfl
@[simp] theorem GRN_STATE.MODE_blk : Fld.blk GRN_STATE.MODE = .GRN := rfl
@[simp] theorem GRN_MODE_REQ.GO_blk : Fld.blk GRN_MODE_REQ.GO = .GRN := rfl
@[simp] theorem GRN_MODE_REQ.TARGET_blk : Fld.blk GRN_MODE_REQ.TARGET = .GRN := rfl
@[simp] theorem GRN_TEMP.HOT_blk : Fld.blk GRN_TEMP.HOT = .GRN := rfl
@[simp] theorem GRN_TEMP.TEMP_blk : Fld.blk GRN_TEMP.TEMP = .GRN := rfl
@[simp] theorem GRN_CECNT.COUNT_blk : Fld.blk GRN_CECNT.COUNT = .GRN := rfl
@[simp] theorem GRN_LINKCNT.FAIL_blk : Fld.blk GRN_LINKCNT.FAIL = .GRN := rfl
@[simp] theorem GRN_LINKCNT.RETRY_blk : Fld.blk GRN_LINKCNT.RETRY = .GRN := rfl
@[simp] theorem GRN_ERR_INFO.VALID_blk : Fld.blk GRN_ERR_INFO.VALID = .GRN := rfl
@[simp] theorem GRN_ERR_INFO.MORE_blk : Fld.blk GRN_ERR_INFO.MORE = .GRN := rfl
@[simp] theorem GRN_ERR_INFO.SRC_blk : Fld.blk GRN_ERR_INFO.SRC = .GRN := rfl
@[simp] theorem GRN_ERR_INFO.TYPE_blk : Fld.blk GRN_ERR_INFO.TYPE = .GRN := rfl
@[simp] theorem GRN_ERR_ADDR.PA_blk : Fld.blk GRN_ERR_ADDR.PA = .GRN := rfl
@[simp] theorem GRN_ERR_TS.TS_blk : Fld.blk GRN_ERR_TS.TS = .GRN := rfl
@[simp] theorem GRN_UECNT.COUNT_blk : Fld.blk GRN_UECNT.COUNT = .GRN := rfl
@[simp] theorem GRN_SCRUB.EN_blk : Fld.blk GRN_SCRUB.EN = .GRN := rfl
@[simp] theorem GRN_SCRUB.PERIOD_blk : Fld.blk GRN_SCRUB.PERIOD = .GRN := rfl
@[simp] theorem GRN_SCRUB_POS.LINE_blk : Fld.blk GRN_SCRUB_POS.LINE = .GRN := rfl
@[simp] theorem GRN_TILL_STAT.LOADED_blk : Fld.blk GRN_TILL_STAT.LOADED = .GRN := rfl
@[simp] theorem GRN_TILL_STAT.RESIDENT_blk : Fld.blk GRN_TILL_STAT.RESIDENT = .GRN := rfl
@[simp] theorem GRN_TILL_STAT.REASON_blk : Fld.blk GRN_TILL_STAT.REASON = .GRN := rfl
@[simp] theorem GRN_TILL_STAT.NV_blk : Fld.blk GRN_TILL_STAT.NV = .GRN := rfl
@[simp] theorem GRN_TILL_STAT.OF_blk : Fld.blk GRN_TILL_STAT.OF = .GRN := rfl
@[simp] theorem GRN_TILL_STAT.UF_blk : Fld.blk GRN_TILL_STAT.UF = .GRN := rfl
@[simp] theorem GRN_TILL_STAT.NX_blk : Fld.blk GRN_TILL_STAT.NX = .GRN := rfl
@[simp] theorem GRN_TILL_STAT.SAT_blk : Fld.blk GRN_TILL_STAT.SAT = .GRN := rfl
@[simp] theorem GRN_TILL_STAT.PENDING_blk : Fld.blk GRN_TILL_STAT.PENDING = .GRN := rfl
@[simp] theorem GRN_TILL_PC.PC_blk : Fld.blk GRN_TILL_PC.PC = .GRN := rfl
@[simp] theorem GRN_TILL_CKPT.VALID_blk : Fld.blk GRN_TILL_CKPT.VALID = .GRN := rfl
@[simp] theorem GRN_TILL_CKPT.PC_blk : Fld.blk GRN_TILL_CKPT.PC = .GRN := rfl
@[simp] theorem GRN_TILL_CKPT.TAG_blk : Fld.blk GRN_TILL_CKPT.TAG = .GRN := rfl
@[simp] theorem GRN_TILL_CKX.X3_blk : Fld.blk GRN_TILL_CKX.X3 = .GRN := rfl
@[simp] theorem GRN_TILL_CKX.X2_blk : Fld.blk GRN_TILL_CKX.X2 = .GRN := rfl
@[simp] theorem GRN_TILL_CKX.X1_blk : Fld.blk GRN_TILL_CKX.X1 = .GRN := rfl
@[simp] theorem GRN_TILL_CKX.X0_blk : Fld.blk GRN_TILL_CKX.X0 = .GRN := rfl
@[simp] theorem GRN_TILL_STALL.COUNT_blk : Fld.blk GRN_TILL_STALL.COUNT = .GRN := rfl
@[simp] theorem GRN_TILL_SLOTS.COUNT_blk : Fld.blk GRN_TILL_SLOTS.COUNT = .GRN := rfl
@[simp] theorem DRL_STATUS.RUN_blk : Fld.blk DRL_STATUS.RUN = .DRL := rfl
@[simp] theorem DRL_STATUS.FULL_blk : Fld.blk DRL_STATUS.FULL = .DRL := rfl
@[simp] theorem DRL_STATUS.USED_blk : Fld.blk DRL_STATUS.USED = .DRL := rfl
@[simp] theorem DRL_CFG.STOP_TMO_blk : Fld.blk DRL_CFG.STOP_TMO = .DRL := rfl
@[simp] theorem DRL_FULLCNT.COUNT_blk : Fld.blk DRL_FULLCNT.COUNT = .DRL := rfl
@[simp] theorem DRL_Q_BASE.ADDR_blk : Fld.blk DRL_Q_BASE.ADDR = .DRL := rfl
@[simp] theorem DRL_Q_CFG.EN_blk : Fld.blk DRL_Q_CFG.EN = .DRL := rfl
@[simp] theorem DRL_Q_CFG.SELF_blk : Fld.blk DRL_Q_CFG.SELF = .DRL := rfl
@[simp] theorem DRL_Q_CFG.CTRL_blk : Fld.blk DRL_Q_CFG.CTRL = .DRL := rfl
@[simp] theorem DRL_Q_CFG.PRIO_blk : Fld.blk DRL_Q_CFG.PRIO = .DRL := rfl
@[simp] theorem DRL_Q_CFG.VEC_blk : Fld.blk DRL_Q_CFG.VEC = .DRL := rfl
@[simp] theorem DRL_Q_CFG.LOG2SIZE_blk : Fld.blk DRL_Q_CFG.LOG2SIZE = .DRL := rfl
@[simp] theorem DRL_Q_STAT.HELD_blk : Fld.blk DRL_Q_STAT.HELD = .DRL := rfl
@[simp] theorem DRL_Q_STAT.DB_ERR_blk : Fld.blk DRL_Q_STAT.DB_ERR = .DRL := rfl
@[simp] theorem DRL_Q_STAT.HOST_LOST_blk : Fld.blk DRL_Q_STAT.HOST_LOST = .DRL := rfl
@[simp] theorem DRL_Q_STAT.IDLE_blk : Fld.blk DRL_Q_STAT.IDLE = .DRL := rfl
@[simp] theorem DRL_Q_TAIL.COUNT_blk : Fld.blk DRL_Q_TAIL.COUNT = .DRL := rfl
@[simp] theorem DRL_Q_HEAD.COUNT_blk : Fld.blk DRL_Q_HEAD.COUNT = .DRL := rfl
@[simp] theorem DRL_CR_BASE.ADDR_blk : Fld.blk DRL_CR_BASE.ADDR = .DRL := rfl
@[simp] theorem DRL_CR_HEAD.COUNT_blk : Fld.blk DRL_CR_HEAD.COUNT = .DRL := rfl
@[simp] theorem DRL_CR_TAIL.COUNT_blk : Fld.blk DRL_CR_TAIL.COUNT = .DRL := rfl
@[simp] theorem DRL_Q_TAILADDR.ADDR_blk : Fld.blk DRL_Q_TAILADDR.ADDR = .DRL := rfl
@[simp] theorem SOW_STATUS.ARMED_blk : Fld.blk SOW_STATUS.ARMED = .SOW := rfl
@[simp] theorem SOW_LOOP_CTL.ARMED_blk : Fld.blk SOW_LOOP_CTL.ARMED = .SOW := rfl
@[simp] theorem SOW_LOOP_CTL.STATE_blk : Fld.blk SOW_LOOP_CTL.STATE = .SOW := rfl
@[simp] theorem SOW_LOOP_CTL.PLOT_blk : Fld.blk SOW_LOOP_CTL.PLOT = .SOW := rfl
@[simp] theorem SOW_LOOP_CTL.QUEUE_blk : Fld.blk SOW_LOOP_CTL.QUEUE = .SOW := rfl
@[simp] theorem SOW_LOOP_CTL.MISSRUN_blk : Fld.blk SOW_LOOP_CTL.MISSRUN = .SOW := rfl
@[simp] theorem SOW_LOOP_PERIOD.NS_blk : Fld.blk SOW_LOOP_PERIOD.NS = .SOW := rfl
@[simp] theorem SOW_LOOP_DEADLINE.NS_blk : Fld.blk SOW_LOOP_DEADLINE.NS = .SOW := rfl
@[simp] theorem SOW_LOOP_NEXTK.K_blk : Fld.blk SOW_LOOP_NEXTK.K = .SOW := rfl
@[simp] theorem SOW_LOOP_NEXTTS.TS_blk : Fld.blk SOW_LOOP_NEXTTS.TS = .SOW := rfl
@[simp] theorem SOW_LOOP_OK.COUNT_blk : Fld.blk SOW_LOOP_OK.COUNT = .SOW := rfl
@[simp] theorem SOW_LOOP_MISSED.COUNT_blk : Fld.blk SOW_LOOP_MISSED.COUNT = .SOW := rfl
@[simp] theorem SOW_LOOP_DROPPED.COUNT_blk : Fld.blk SOW_LOOP_DROPPED.COUNT = .SOW := rfl
@[simp] theorem SOW_LOOP_FAULTED.COUNT_blk : Fld.blk SOW_LOOP_FAULTED.COUNT = .SOW := rfl
@[simp] theorem SOW_LOOP_WORST.NS_blk : Fld.blk SOW_LOOP_WORST.NS = .SOW := rfl
@[simp] theorem SOW_LOOP_EVT.RINGFULL_blk : Fld.blk SOW_LOOP_EVT.RINGFULL = .SOW := rfl
@[simp] theorem SOW_LOOP_EVT.WARNED_blk : Fld.blk SOW_LOOP_EVT.WARNED = .SOW := rfl
@[simp] theorem SOW_LOOP_EVT.FORCED_blk : Fld.blk SOW_LOOP_EVT.FORCED = .SOW := rfl
@[simp] theorem HRW_S_FEED.COUNT_blk : Fld.blk HRW_S_FEED.COUNT = .HRW := rfl
@[simp] theorem HRW_S_STAT.OPEN_blk : Fld.blk HRW_S_STAT.OPEN = .HRW := rfl
@[simp] theorem HRW_S_STAT.PAUSED_blk : Fld.blk HRW_S_STAT.PAUSED = .HRW := rfl
@[simp] theorem HRW_S_STAT.HOST_LOST_blk : Fld.blk HRW_S_STAT.HOST_LOST = .HRW := rfl
@[simp] theorem HRW_S_STAT.FEED_ERR_blk : Fld.blk HRW_S_STAT.FEED_ERR = .HRW := rfl
@[simp] theorem HRW_S_STAT.DIR_blk : Fld.blk HRW_S_STAT.DIR = .HRW := rfl
@[simp] theorem HRW_S_STAT.PLOT_blk : Fld.blk HRW_S_STAT.PLOT = .HRW := rfl
@[simp] theorem HRW_S_COMMIT.COUNT_blk : Fld.blk HRW_S_COMMIT.COUNT = .HRW := rfl
@[simp] theorem HRW_S_ACKED.COUNT_blk : Fld.blk HRW_S_ACKED.COUNT = .HRW := rfl
@[simp] theorem HRW_S_CTL.RESUME_blk : Fld.blk HRW_S_CTL.RESUME = .HRW := rfl
@[simp] theorem HRW_S_CTL.NOTIFY_EN_blk : Fld.blk HRW_S_CTL.NOTIFY_EN = .HRW := rfl
@[simp] theorem HRW_S_CTL.IRQ_EN_blk : Fld.blk HRW_S_CTL.IRQ_EN = .HRW := rfl
@[simp] theorem HRW_S_CTL.VEC_blk : Fld.blk HRW_S_CTL.VEC = .HRW := rfl
@[simp] theorem HRW_S_CTL.THREAD_blk : Fld.blk HRW_S_CTL.THREAD = .HRW := rfl
@[simp] theorem BND_OP_CTL.V_blk : Fld.blk BND_OP_CTL.V = .BND := rfl
@[simp] theorem BND_OP_CTL.MODE_blk : Fld.blk BND_OP_CTL.MODE = .BND := rfl
@[simp] theorem BND_OP_CTL.INT_blk : Fld.blk BND_OP_CTL.INT = .BND := rfl
@[simp] theorem BND_OP_CTL.N_blk : Fld.blk BND_OP_CTL.N = .BND := rfl
@[simp] theorem BND_OP_CTL.E_blk : Fld.blk BND_OP_CTL.E = .BND := rfl
@[simp] theorem BND_OP_PLOT.PLOT_blk : Fld.blk BND_OP_PLOT.PLOT = .BND := rfl
@[simp] theorem BND_OP_SCRATCH.ADDR_blk : Fld.blk BND_OP_SCRATCH.ADDR = .BND := rfl
@[simp] theorem BND_OP_RESULT.ADDR_blk : Fld.blk BND_OP_RESULT.ADDR = .BND := rfl
@[simp] theorem BND_OP_STAT.ROUND_blk : Fld.blk BND_OP_STAT.ROUND = .BND := rfl
@[simp] theorem BND_OP_STAT.ARRIVED_blk : Fld.blk BND_OP_STAT.ARRIVED = .BND := rfl
@[simp] theorem BND_OP_STAT.FAILED_blk : Fld.blk BND_OP_STAT.FAILED = .BND := rfl
@[simp] theorem BND_OP_STAT.POISON_blk : Fld.blk BND_OP_STAT.POISON = .BND := rfl
@[simp] theorem BND_OP_STAT.BUSY_blk : Fld.blk BND_OP_STAT.BUSY = .BND := rfl
@[simp] theorem BND_OP_ACRE.GLOBAL_blk : Fld.blk BND_OP_ACRE.GLOBAL = .BND := rfl
@[simp] theorem BND_OP_ACRE.HOME_blk : Fld.blk BND_OP_ACRE.HOME = .BND := rfl
@[simp] theorem BND_OP_PEERS.MASK_blk : Fld.blk BND_OP_PEERS.MASK = .BND := rfl
@[simp] theorem HST_LINK.DL_UP_blk : Fld.blk HST_LINK.DL_UP = .HST := rfl
@[simp] theorem HST_LINK.DEGRADED_blk : Fld.blk HST_LINK.DEGRADED = .HST := rfl
@[simp] theorem HST_LINK.WIDTH_blk : Fld.blk HST_LINK.WIDTH = .HST := rfl
@[simp] theorem HST_LINK.RATE_blk : Fld.blk HST_LINK.RATE = .HST := rfl
@[simp] theorem HST_EVENT.UNEXP_CPL_blk : Fld.blk HST_EVENT.UNEXP_CPL = .HST := rfl
@[simp] theorem HST_EVENT.CPL_ERR_blk : Fld.blk HST_EVENT.CPL_ERR = .HST := rfl
@[simp] theorem HST_EVENT.CPL_TMO_blk : Fld.blk HST_EVENT.CPL_TMO = .HST := rfl
@[simp] theorem HST_EVENT.LINK_DOWN_blk : Fld.blk HST_EVENT.LINK_DOWN = .HST := rfl
@[simp] theorem HST_TMOCNT.COUNT_blk : Fld.blk HST_TMOCNT.COUNT = .HST := rfl
@[simp] theorem HST_DOWNCNT.COUNT_blk : Fld.blk HST_DOWNCNT.COUNT = .HST := rfl
@[simp] theorem HST_APT.V_blk : Fld.blk HST_APT.V = .HST := rfl
@[simp] theorem HST_APT.HBASE_blk : Fld.blk HST_APT.HBASE = .HST := rfl
@[simp] theorem HST_APT.PLOT_blk : Fld.blk HST_APT.PLOT = .HST := rfl
@[simp] theorem HST_ATTACH.STATE_blk : Fld.blk HST_ATTACH.STATE = .HST := rfl
@[simp] theorem HST_ATTACH.SESSION_blk : Fld.blk HST_ATTACH.SESSION = .HST := rfl
@[simp] theorem HST_ATTACH.DETACH_blk : Fld.blk HST_ATTACH.DETACH = .HST := rfl
@[simp] theorem HST_ATTACH.CAUSE_blk : Fld.blk HST_ATTACH.CAUSE = .HST := rfl
@[simp] theorem HST_ATTACH.REBASE_blk : Fld.blk HST_ATTACH.REBASE = .HST := rfl
@[simp] theorem HST_RB_SEL.KIND_blk : Fld.blk HST_RB_SEL.KIND = .HST := rfl
@[simp] theorem HST_RB_SEL.INDEX_blk : Fld.blk HST_RB_SEL.INDEX = .HST := rfl
@[simp] theorem HST_RB_BASE.ADDR_blk : Fld.blk HST_RB_BASE.ADDR = .HST := rfl
@[simp] theorem HST_RB_CRBASE.ADDR_blk : Fld.blk HST_RB_CRBASE.ADDR = .HST := rfl
@[simp] theorem HST_RB_CTL.GO_blk : Fld.blk HST_RB_CTL.GO = .HST := rfl
@[simp] theorem HST_RB_CTL.BUSY_blk : Fld.blk HST_RB_CTL.BUSY = .HST := rfl
@[simp] theorem HST_RB_CTL.ERR_blk : Fld.blk HST_RB_CTL.ERR = .HST := rfl
@[simp] theorem HST_APTDROP.COUNT_blk : Fld.blk HST_APTDROP.COUNT = .HST := rfl
@[simp] theorem YK_STATUS.YSTATE_blk : Fld.blk YK_STATUS.YSTATE = .YK := rfl
@[simp] theorem YK_STATUS.LINK_blk : Fld.blk YK_STATUS.LINK = .YK := rfl
@[simp] theorem YK_STATUS.LEAD_blk : Fld.blk YK_STATUS.LEAD = .YK := rfl
@[simp] theorem YK_STATUS.TVALID_blk : Fld.blk YK_STATUS.TVALID = .YK := rfl
@[simp] theorem YK_STATUS.REJOIN_TWIN_blk : Fld.blk YK_STATUS.REJOIN_TWIN = .YK := rfl
@[simp] theorem YK_STATUS.TXWIDTH_blk : Fld.blk YK_STATUS.TXWIDTH = .YK := rfl
@[simp] theorem YK_STATUS.RXWIDTH_blk : Fld.blk YK_STATUS.RXWIDTH = .YK := rfl
@[simp] theorem YK_STATUS.RXFAILED_blk : Fld.blk YK_STATUS.RXFAILED = .YK := rfl
@[simp] theorem YK_EVENT.XRESOLVED_blk : Fld.blk YK_EVENT.XRESOLVED = .YK := rfl
@[simp] theorem YK_EVENT.DIVERGENCE_blk : Fld.blk YK_EVENT.DIVERGENCE = .YK := rfl
@[simp] theorem YK_EVENT.DISAGREE_blk : Fld.blk YK_EVENT.DISAGREE = .YK := rfl
@[simp] theorem YK_EVENT.INCOMPAT_blk : Fld.blk YK_EVENT.INCOMPAT = .YK := rfl
@[simp] theorem YK_EVENT.ROLE_CONFLICT_blk : Fld.blk YK_EVENT.ROLE_CONFLICT = .YK := rfl
@[simp] theorem YK_EVENT.TWIN_LOST_blk : Fld.blk YK_EVENT.TWIN_LOST = .YK := rfl
@[simp] theorem YK_EVENT.HB_MISSED_blk : Fld.blk YK_EVENT.HB_MISSED = .YK := rfl
@[simp] theorem YK_EVENT.LINK_DOWN_blk : Fld.blk YK_EVENT.LINK_DOWN = .YK := rfl
@[simp] theorem YK_EVENT.NARROW_blk : Fld.blk YK_EVENT.NARROW = .YK := rfl
@[simp] theorem YK_EVENT.LANE_blk : Fld.blk YK_EVENT.LANE = .YK := rfl
@[simp] theorem YK_CFG.EN_blk : Fld.blk YK_CFG.EN = .YK := rfl
@[simp] theorem YK_CFG.AGREE_blk : Fld.blk YK_CFG.AGREE = .YK := rfl
@[simp] theorem YK_CFG.YLOOPS_blk : Fld.blk YK_CFG.YLOOPS = .YK := rfl
@[simp] theorem YK_CTL.REJOIN_blk : Fld.blk YK_CTL.REJOIN = .YK := rfl
@[simp] theorem YK_HB_PERIOD.NS_blk : Fld.blk YK_HB_PERIOD.NS = .YK := rfl
@[simp] theorem YK_HB_SLACK.US_blk : Fld.blk YK_HB_SLACK.US = .YK := rfl
@[simp] theorem YK_HB_LAST.N_blk : Fld.blk YK_HB_LAST.N = .YK := rfl
@[simp] theorem YK_TIME_OFF.OFF_blk : Fld.blk YK_TIME_OFF.OFF = .YK := rfl
@[simp] theorem YK_TIME.TS_blk : Fld.blk YK_TIME.TS = .YK := rfl
@[simp] theorem YK_RETRYCNT.COUNT_blk : Fld.blk YK_RETRYCNT.COUNT = .YK := rfl
@[simp] theorem YK_SWAPCNT.COUNT_blk : Fld.blk YK_SWAPCNT.COUNT = .YK := rfl
@[simp] theorem YK_HBMISSCNT.COUNT_blk : Fld.blk YK_HBMISSCNT.COUNT = .YK := rfl
@[simp] theorem YK_REL_OK.COUNT_blk : Fld.blk YK_REL_OK.COUNT = .YK := rfl
@[simp] theorem YK_REL_DIS.COUNT_blk : Fld.blk YK_REL_DIS.COUNT = .YK := rfl
@[simp] theorem YK_REL_MISS.COUNT_blk : Fld.blk YK_REL_MISS.COUNT = .YK := rfl
@[simp] theorem YK_REL_LATE.COUNT_blk : Fld.blk YK_REL_LATE.COUNT = .YK := rfl
@[simp] theorem YK_DIVCNT.COUNT_blk : Fld.blk YK_DIVCNT.COUNT = .YK := rfl
@[simp] theorem YK_BADMSG.COUNT_blk : Fld.blk YK_BADMSG.COUNT = .YK := rfl
@[simp] theorem YK_REL_LAST.K_blk : Fld.blk YK_REL_LAST.K = .YK := rfl
@[simp] theorem YK_REL_LAST.LOOP_blk : Fld.blk YK_REL_LAST.LOOP = .YK := rfl
@[simp] theorem YK_REL_LAST.OUTCOME_blk : Fld.blk YK_REL_LAST.OUTCOME = .YK := rfl
@[simp] theorem YK_XQ_BASE.ADDR_blk : Fld.blk YK_XQ_BASE.ADDR = .YK := rfl
@[simp] theorem YK_XQ_CFG.EN_blk : Fld.blk YK_XQ_CFG.EN = .YK := rfl
@[simp] theorem YK_XQ_CFG.LOG2SIZE_blk : Fld.blk YK_XQ_CFG.LOG2SIZE = .YK := rfl
@[simp] theorem YK_XQ_TAIL.COUNT_blk : Fld.blk YK_XQ_TAIL.COUNT = .YK := rfl
@[simp] theorem YK_XQ_HEAD.COUNT_blk : Fld.blk YK_XQ_HEAD.COUNT = .YK := rfl
@[simp] theorem YK_HASH_CFG.EN_blk : Fld.blk YK_HASH_CFG.EN = .YK := rfl
@[simp] theorem YK_HASH_CFG.LOOP_blk : Fld.blk YK_HASH_CFG.LOOP = .YK := rfl
@[simp] theorem YK_HASH_CFG.EVERY_blk : Fld.blk YK_HASH_CFG.EVERY = .YK := rfl
@[simp] theorem YK_HASH_LAST.HASH_blk : Fld.blk YK_HASH_LAST.HASH = .YK := rfl
@[simp] theorem YK_HASH_K.K_blk : Fld.blk YK_HASH_K.K = .YK := rfl
@[simp] theorem YK_HASH_BASE.ADDR_blk : Fld.blk YK_HASH_BASE.ADDR = .YK := rfl
@[simp] theorem YK_HASH_LEN.LEN_blk : Fld.blk YK_HASH_LEN.LEN = .YK := rfl
@[simp] theorem SWT_CFG.EN_blk : Fld.blk SWT_CFG.EN = .SWT := rfl
@[simp] theorem SWT_CFG.DX_blk : Fld.blk SWT_CFG.DX = .SWT := rfl
@[simp] theorem SWT_CFG.DY_blk : Fld.blk SWT_CFG.DY = .SWT := rfl
@[simp] theorem SWT_CFG.DZ_blk : Fld.blk SWT_CFG.DZ = .SWT := rfl
@[simp] theorem SWT_CFG.X_blk : Fld.blk SWT_CFG.X = .SWT := rfl
@[simp] theorem SWT_CFG.Y_blk : Fld.blk SWT_CFG.Y = .SWT := rfl
@[simp] theorem SWT_CFG.Z_blk : Fld.blk SWT_CFG.Z = .SWT := rfl
@[simp] theorem SWT_STATUS.LOSS_OVF_blk : Fld.blk SWT_STATUS.LOSS_OVF = .SWT := rfl
@[simp] theorem SWT_STATUS.GEOM_BAD_blk : Fld.blk SWT_STATUS.GEOM_BAD = .SWT := rfl
@[simp] theorem SWT_STATUS.UP_blk : Fld.blk SWT_STATUS.UP = .SWT := rfl
@[simp] theorem SWT_STATUS.PKG_blk : Fld.blk SWT_STATUS.PKG = .SWT := rfl
@[simp] theorem SWT_EPOCH.EPOCH_blk : Fld.blk SWT_EPOCH.EPOCH = .SWT := rfl
@[simp] theorem SWT_MEMBERS.MASK_blk : Fld.blk SWT_MEMBERS.MASK = .SWT := rfl
@[simp] theorem SWT_AVOID.MASK_blk : Fld.blk SWT_AVOID.MASK = .SWT := rfl
@[simp] theorem SWT_LOSS_BASE.ADDR_blk : Fld.blk SWT_LOSS_BASE.ADDR = .SWT := rfl
@[simp] theorem SWT_LOSS_CFG.EN_blk : Fld.blk SWT_LOSS_CFG.EN = .SWT := rfl
@[simp] theorem SWT_LOSS_CFG.LOG2SIZE_blk : Fld.blk SWT_LOSS_CFG.LOG2SIZE = .SWT := rfl
@[simp] theorem SWT_LOSS_HEAD.COUNT_blk : Fld.blk SWT_LOSS_HEAD.COUNT = .SWT := rfl
@[simp] theorem SWT_LOSS_TAIL.COUNT_blk : Fld.blk SWT_LOSS_TAIL.COUNT = .SWT := rfl
@[simp] theorem SWT_BADMSG.COUNT_blk : Fld.blk SWT_BADMSG.COUNT = .SWT := rfl
@[simp] theorem SWT_LATE.COUNT_blk : Fld.blk SWT_LATE.COUNT = .SWT := rfl
@[simp] theorem SWT_DIR.VALID_blk : Fld.blk SWT_DIR.VALID = .SWT := rfl
@[simp] theorem SWT_DIR.UNREACH_blk : Fld.blk SWT_DIR.UNREACH = .SWT := rfl
@[simp] theorem SWT_DIR.PENDING_blk : Fld.blk SWT_DIR.PENDING = .SWT := rfl
@[simp] theorem SWT_DIR.DIR_blk : Fld.blk SWT_DIR.DIR = .SWT := rfl
@[simp] theorem SWT_OUT.COUNT_blk : Fld.blk SWT_OUT.COUNT = .SWT := rfl
@[simp] theorem SWT_EXP.V_blk : Fld.blk SWT_EXP.V = .SWT := rfl
@[simp] theorem SWT_EXP.W_blk : Fld.blk SWT_EXP.W = .SWT := rfl
@[simp] theorem SWT_EXP.PLOT_blk : Fld.blk SWT_EXP.PLOT = .SWT := rfl
@[simp] theorem SWT_EXP.BASE_blk : Fld.blk SWT_EXP.BASE = .SWT := rfl
@[simp] theorem SWT_EXP_SRC.SRCMASK_blk : Fld.blk SWT_EXP_SRC.SRCMASK = .SWT := rfl
@[simp] theorem SWT_EXPLEN.GRANULES_blk : Fld.blk SWT_EXPLEN.GRANULES = .SWT := rfl
@[simp] theorem SWT_LSTAT.STATE_blk : Fld.blk SWT_LSTAT.STATE = .SWTL := rfl
@[simp] theorem SWT_LSTAT.CABLE_ERR_blk : Fld.blk SWT_LSTAT.CABLE_ERR = .SWTL := rfl
@[simp] theorem SWT_LSTAT.NARROW_blk : Fld.blk SWT_LSTAT.NARROW = .SWTL := rfl
@[simp] theorem SWT_LSTAT.LINK_DOWN_blk : Fld.blk SWT_LSTAT.LINK_DOWN = .SWTL := rfl
@[simp] theorem SWT_LSTAT.PEER_blk : Fld.blk SWT_LSTAT.PEER = .SWTL := rfl
@[simp] theorem SWT_LSTAT.TXWIDTH_blk : Fld.blk SWT_LSTAT.TXWIDTH = .SWTL := rfl
@[simp] theorem SWT_LSTAT.RXWIDTH_blk : Fld.blk SWT_LSTAT.RXWIDTH = .SWTL := rfl
@[simp] theorem SWT_LSTAT.RXFAILED_blk : Fld.blk SWT_LSTAT.RXFAILED = .SWTL := rfl
@[simp] theorem SWT_LRETRY.COUNT_blk : Fld.blk SWT_LRETRY.COUNT = .SWTL := rfl
@[simp] theorem SWT_LNARROW.COUNT_blk : Fld.blk SWT_LNARROW.COUNT = .SWTL := rfl
@[simp] theorem SWT_LDOWN.COUNT_blk : Fld.blk SWT_LDOWN.COUNT = .SWTL := rfl
@[simp] theorem HDL_STATE.AUTH_blk : Fld.blk HDL_STATE.AUTH = .HDL := rfl
@[simp] theorem HDL_STATE.DEGRADED_blk : Fld.blk HDL_STATE.DEGRADED = .HDL := rfl
@[simp] theorem HDL_STATE.ARMED_blk : Fld.blk HDL_STATE.ARMED = .HDL := rfl
@[simp] theorem HDL_STATE.REBIND_blk : Fld.blk HDL_STATE.REBIND = .HDL := rfl
@[simp] theorem HDL_STATE.CONFIRM_PEND_blk : Fld.blk HDL_STATE.CONFIRM_PEND = .HDL := rfl
@[simp] theorem HDL_STATE.RELINQUISH_blk : Fld.blk HDL_STATE.RELINQUISH = .HDL := rfl
@[simp] theorem HDL_STATE.VETO_IN_blk : Fld.blk HDL_STATE.VETO_IN = .HDL := rfl
@[simp] theorem HDL_STATE.VETO_OUT_blk : Fld.blk HDL_STATE.VETO_OUT = .HDL := rfl
@[simp] theorem HDL_STATE.MISSCNT_blk : Fld.blk HDL_STATE.MISSCNT = .HDL := rfl
@[simp] theorem HDL_STATE.HS_blk : Fld.blk HDL_STATE.HS = .HDL := rfl
@[simp] theorem HDL_CAUSE.CAUSE_blk : Fld.blk HDL_CAUSE.CAUSE = .HDL := rfl
@[simp] theorem HDL_EVT.EVT_blk : Fld.blk HDL_EVT.EVT = .HDL := rfl
@[simp] theorem HDL_SEAL.LATCHED_blk : Fld.blk HDL_SEAL.LATCHED = .HDL := rfl
@[simp] theorem HDL_SEAL.LIVE_blk : Fld.blk HDL_SEAL.LIVE = .HDL := rfl
@[simp] theorem HDL_PCRC.PCRC_blk : Fld.blk HDL_PCRC.PCRC = .HDL := rfl
@[simp] theorem HDL_CHECK.C_blk : Fld.blk HDL_CHECK.C = .HDL := rfl
@[simp] theorem HDL_CONF.CONF_C_blk : Fld.blk HDL_CONF.CONF_C = .HDL := rfl
@[simp] theorem HDL_LASTK.K_blk : Fld.blk HDL_LASTK.K = .HDL := rfl
@[simp] theorem HDL_CYCLE.COUNT_blk : Fld.blk HDL_CYCLE.COUNT = .HDL := rfl
@[simp] theorem HDL_FAILCNT.COUNT_blk : Fld.blk HDL_FAILCNT.COUNT = .HDL := rfl
@[simp] theorem HDL_MISSTOT.COUNT_blk : Fld.blk HDL_MISSTOT.COUNT = .HDL := rfl
@[simp] theorem HDL_STALE.COUNT_blk : Fld.blk HDL_STALE.COUNT = .HDL := rfl
@[simp] theorem HDL_HANDOVER.COUNT_blk : Fld.blk HDL_HANDOVER.COUNT = .HDL := rfl
@[simp] theorem HDL_PWRITE.BUSY_blk : Fld.blk HDL_PWRITE.BUSY = .HDL := rfl
@[simp] theorem HDL_PWRITE.FAILED_blk : Fld.blk HDL_PWRITE.FAILED = .HDL := rfl
@[simp] theorem HDL_SI_RAW.B_blk : Fld.blk HDL_SI_RAW.B = .HDL := rfl
@[simp] theorem HDL_SI_RAW.A_blk : Fld.blk HDL_SI_RAW.A = .HDL := rfl
@[simp] theorem HDL_SI_STATE.TIMING_blk : Fld.blk HDL_SI_STATE.TIMING = .HDL := rfl
@[simp] theorem HDL_SI_STATE.FAULT_blk : Fld.blk HDL_SI_STATE.FAULT = .HDL := rfl
@[simp] theorem HDL_SI_STATE.ON_blk : Fld.blk HDL_SI_STATE.ON = .HDL := rfl
@[simp] theorem HDL_SI_FCODE.CODES_blk : Fld.blk HDL_SI_FCODE.CODES = .HDL := rfl
@[simp] theorem HDL_SO_STATE.CFB_blk : Fld.blk HDL_SO_STATE.CFB = .HDL := rfl
@[simp] theorem HDL_SO_STATE.WAITING_blk : Fld.blk HDL_SO_STATE.WAITING = .HDL := rfl
@[simp] theorem HDL_SO_STATE.NODE_blk : Fld.blk HDL_SO_STATE.NODE = .HDL := rfl
@[simp] theorem HDL_SO_STATE.STAGEB_blk : Fld.blk HDL_SO_STATE.STAGEB = .HDL := rfl
@[simp] theorem HDL_SO_STATE.STAGEA_blk : Fld.blk HDL_SO_STATE.STAGEA = .HDL := rfl
@[simp] theorem HDL_SO_STATE.COMMANDED_blk : Fld.blk HDL_SO_STATE.COMMANDED = .HDL := rfl
@[simp] theorem HDL_SO_FCODE.CODES_blk : Fld.blk HDL_SO_FCODE.CODES = .HDL := rfl
@[simp] theorem HDL_OPTEST.COUNT_blk : Fld.blk HDL_OPTEST.COUNT = .HDL := rfl
@[simp] theorem HDL_OPFAIL.COUNT_blk : Fld.blk HDL_OPFAIL.COUNT = .HDL := rfl
@[simp] theorem HDL_CFNOTREADY.COUNT_blk : Fld.blk HDL_CFNOTREADY.COUNT = .HDL := rfl
@[simp] theorem HDL_AX_STATE.AS_blk : Fld.blk HDL_AX_STATE.AS = .HDL := rfl
@[simp] theorem HDL_AX_STATE.DEGRADED_SOURCE_blk : Fld.blk HDL_AX_STATE.DEGRADED_SOURCE = .HDL := rfl
@[simp] theorem HDL_AX_STATE.SSM_blk : Fld.blk HDL_AX_STATE.SSM = .HDL := rfl
@[simp] theorem HDL_AX_STATE.REFERENCED_blk : Fld.blk HDL_AX_STATE.REFERENCED = .HDL := rfl
@[simp] theorem HDL_AX_STATE.POS_SUSP_blk : Fld.blk HDL_AX_STATE.POS_SUSP = .HDL := rfl
@[simp] theorem HDL_AX_STATE.WAIT_RESTART_blk : Fld.blk HDL_AX_STATE.WAIT_RESTART = .HDL := rfl
@[simp] theorem HDL_AX_STATE.DEMAND_blk : Fld.blk HDL_AX_STATE.DEMAND = .HDL := rfl
@[simp] theorem HDL_AX_STATE.FAULT_blk : Fld.blk HDL_AX_STATE.FAULT = .HDL := rfl
@[simp] theorem HDL_AX_STATE.SLS_blk : Fld.blk HDL_AX_STATE.SLS = .HDL := rfl
@[simp] theorem HDL_AX_STATE.SLP_blk : Fld.blk HDL_AX_STATE.SLP = .HDL := rfl
@[simp] theorem HDL_AX_STATE.SDI_blk : Fld.blk HDL_AX_STATE.SDI = .HDL := rfl
@[simp] theorem HDL_AX_SPEED.U_blk : Fld.blk HDL_AX_SPEED.U = .HDL := rfl
@[simp] theorem HDL_AX_SPEED.SOURCE_blk : Fld.blk HDL_AX_SPEED.SOURCE = .HDL := rfl
@[simp] theorem HDL_AX_POS.P_blk : Fld.blk HDL_AX_POS.P = .HDL := rfl
@[simp] theorem HDL_AX_OBS.R_blk : Fld.blk HDL_AX_OBS.R = .HDL := rfl
@[simp] theorem HDL_AX_OBS.V_blk : Fld.blk HDL_AX_OBS.V = .HDL := rfl
@[simp] theorem HDL_AX_IDXCORR.COUNT_blk : Fld.blk HDL_AX_IDXCORR.COUNT = .HDL := rfl
@[simp] theorem HDL_AX_IDXMIS.COUNT_blk : Fld.blk HDL_AX_IDXMIS.COUNT = .HDL := rfl
@[simp] theorem HDL_AX_OBSLOST.COUNT_blk : Fld.blk HDL_AX_OBSLOST.COUNT = .HDL := rfl
@[simp] theorem HDL_AX_TRIP.COUNT_blk : Fld.blk HDL_AX_TRIP.COUNT = .HDL := rfl
@[simp] theorem HDL_AX_POSH.P_blk : Fld.blk HDL_AX_POSH.P = .HDL := rfl
@[simp] theorem HDL_HT_STATE.HT_blk : Fld.blk HDL_HT_STATE.HT = .HDL := rfl
@[simp] theorem HDL_HT_STATE.FORCED_blk : Fld.blk HDL_HT_STATE.FORCED = .HDL := rfl
@[simp] theorem HDL_HT_STATE.ESSENTIAL_blk : Fld.blk HDL_HT_STATE.ESSENTIAL = .HDL := rfl
@[simp] theorem HDL_HT_STATE.REASON_blk : Fld.blk HDL_HT_STATE.REASON = .HDL := rfl
@[simp] theorem HDL_HT_STATE.REMOTE_blk : Fld.blk HDL_HT_STATE.REMOTE = .HDL := rfl
@[simp] theorem HDL_HT_SEQ.SENT_blk : Fld.blk HDL_HT_SEQ.SENT = .HDL := rfl
@[simp] theorem HDL_HT_SEQ.ACCEPTED_blk : Fld.blk HDL_HT_SEQ.ACCEPTED = .HDL := rfl
@[simp] theorem HDL_HT_SESSION.SESSION_blk : Fld.blk HDL_HT_SESSION.SESSION = .HDL := rfl
@[simp] theorem HDL_HT_LOST.COUNT_blk : Fld.blk HDL_HT_LOST.COUNT = .HDL := rfl
@[simp] theorem HDL_HT_DUP.COUNT_blk : Fld.blk HDL_HT_DUP.COUNT = .HDL := rfl
@[simp] theorem HDL_HT_STALE.COUNT_blk : Fld.blk HDL_HT_STALE.COUNT = .HDL := rfl
@[simp] theorem HDL_HT_CLOSES.COUNT_blk : Fld.blk HDL_HT_CLOSES.COUNT = .HDL := rfl
@[simp] theorem HDL_HT_RTT.US_blk : Fld.blk HDL_HT_RTT.US = .HDL := rfl
@[simp] theorem HDL_HP_STATE.LINK_blk : Fld.blk HDL_HP_STATE.LINK = .HDL := rfl
@[simp] theorem HDL_HP_STATE.SPEED_blk : Fld.blk HDL_HP_STATE.SPEED = .HDL := rfl
@[simp] theorem HDL_HP_RX.COUNT_blk : Fld.blk HDL_HP_RX.COUNT = .HDL := rfl
@[simp] theorem HDL_HP_CORRUPT.COUNT_blk : Fld.blk HDL_HP_CORRUPT.COUNT = .HDL := rfl
@[simp] theorem HDL_HP_FCS.COUNT_blk : Fld.blk HDL_HP_FCS.COUNT = .HDL := rfl
@[simp] theorem HDL_HP_OVER.COUNT_blk : Fld.blk HDL_HP_OVER.COUNT = .HDL := rfl
@[simp] theorem HDL_HP_TX.COUNT_blk : Fld.blk HDL_HP_TX.COUNT = .HDL := rfl
@[simp] theorem GLN_DBGCTL.TAP_EN_blk : Fld.blk GLN_DBGCTL.TAP_EN = .GLN := rfl
@[simp] theorem GLN_DBGEN.CORES_blk : Fld.blk GLN_DBGEN.CORES = .GLN := rfl
@[simp] theorem GLN_HALTREQ.GO_blk : Fld.blk GLN_HALTREQ.GO = .GLN := rfl
@[simp] theorem GLN_HALTREQ.BUSY_blk : Fld.blk GLN_HALTREQ.BUSY = .GLN := rfl
@[simp] theorem GLN_HALTREQ.ERR_blk : Fld.blk GLN_HALTREQ.ERR = .GLN := rfl
@[simp] theorem GLN_HALTREQ.ACTION_blk : Fld.blk GLN_HALTREQ.ACTION = .GLN := rfl
@[simp] theorem GLN_HALTREQ.NOINT_blk : Fld.blk GLN_HALTREQ.NOINT = .GLN := rfl
@[simp] theorem GLN_HALTREQ.MASK_blk : Fld.blk GLN_HALTREQ.MASK = .GLN := rfl
@[simp] theorem GLN_HALTREQ.CORE_blk : Fld.blk GLN_HALTREQ.CORE = .GLN := rfl
@[simp] theorem GLN_DREG_SEL.GO_blk : Fld.blk GLN_DREG_SEL.GO = .GLN := rfl
@[simp] theorem GLN_DREG_SEL.WRITE_blk : Fld.blk GLN_DREG_SEL.WRITE = .GLN := rfl
@[simp] theorem GLN_DREG_SEL.BUSY_blk : Fld.blk GLN_DREG_SEL.BUSY = .GLN := rfl
@[simp] theorem GLN_DREG_SEL.ERR_blk : Fld.blk GLN_DREG_SEL.ERR = .GLN := rfl
@[simp] theorem GLN_DREG_SEL.THREAD_blk : Fld.blk GLN_DREG_SEL.THREAD = .GLN := rfl
@[simp] theorem GLN_DREG_SEL.CLASS_blk : Fld.blk GLN_DREG_SEL.CLASS = .GLN := rfl
@[simp] theorem GLN_DREG_SEL.INDEX_blk : Fld.blk GLN_DREG_SEL.INDEX = .GLN := rfl
@[simp] theorem GLN_DREG_DATA.DATA_blk : Fld.blk GLN_DREG_DATA.DATA = .GLN := rfl
@[simp] theorem GLN_DBGRST.KEY_blk : Fld.blk GLN_DBGRST.KEY = .GLN := rfl
@[simp] theorem GLN_DBGRST.GO_blk : Fld.blk GLN_DBGRST.GO = .GLN := rfl
@[simp] theorem GLN_DBGRST.TG_blk : Fld.blk GLN_DBGRST.TG = .GLN := rfl
@[simp] theorem GLN_DBGRST.CORE_blk : Fld.blk GLN_DBGRST.CORE = .GLN := rfl
@[simp] theorem GLN_HALTSTAT.HALTED_blk : Fld.blk GLN_HALTSTAT.HALTED = .GLN := rfl
@[simp] theorem GLN_TRC_CTL.EN_blk : Fld.blk GLN_TRC_CTL.EN = .GLN := rfl
@[simp] theorem GLN_TRC_CTL.STALL_blk : Fld.blk GLN_TRC_CTL.STALL = .GLN := rfl
@[simp] theorem GLN_TRC_CTL.STOPFULL_blk : Fld.blk GLN_TRC_CTL.STOPFULL = .GLN := rfl
@[simp] theorem GLN_TRC_CTL.SYS_blk : Fld.blk GLN_TRC_CTL.SYS = .GLN := rfl
@[simp] theorem GLN_TRC_CTL.RINGS_blk : Fld.blk GLN_TRC_CTL.RINGS = .GLN := rfl
@[simp] theorem GLN_TRC_CTL.CTX_blk : Fld.blk GLN_TRC_CTL.CTX = .GLN := rfl
@[simp] theorem GLN_TRC_CTL.TSPER_blk : Fld.blk GLN_TRC_CTL.TSPER = .GLN := rfl
@[simp] theorem GLN_TRC_CORE.CORES_blk : Fld.blk GLN_TRC_CORE.CORES = .GLN := rfl
@[simp] theorem GLN_BUF_BASE.ADDR_blk : Fld.blk GLN_BUF_BASE.ADDR = .GLN := rfl
@[simp] theorem GLN_BUF_SIZE.SIZE_blk : Fld.blk GLN_BUF_SIZE.SIZE = .GLN := rfl
@[simp] theorem GLN_BUF_WP.WP_blk : Fld.blk GLN_BUF_WP.WP = .GLN := rfl
@[simp] theorem GLN_BUF_WRAPS.COUNT_blk : Fld.blk GLN_BUF_WRAPS.COUNT = .GLN := rfl
@[simp] theorem GLN_TRC_STAT.FULL_blk : Fld.blk GLN_TRC_STAT.FULL = .GLN := rfl
@[simp] theorem GLN_TRC_STAT.OVF_blk : Fld.blk GLN_TRC_STAT.OVF = .GLN := rfl
@[simp] theorem GLN_TRC_STAT.CFG_ERR_blk : Fld.blk GLN_TRC_STAT.CFG_ERR = .GLN := rfl
@[simp] theorem GLN_TRC_STAT.BUSY_blk : Fld.blk GLN_TRC_STAT.BUSY = .GLN := rfl
@[simp] theorem GLN_TRC_DROP.COUNT_blk : Fld.blk GLN_TRC_DROP.COUNT = .GLN := rfl
@[simp] theorem TLY_CTL.EN_blk : Fld.blk TLY_CTL.EN = .TLY := rfl
@[simp] theorem TLY_CTL.FREEZE_blk : Fld.blk TLY_CTL.FREEZE = .TLY := rfl
@[simp] theorem TLY_CTL.CLEAR_blk : Fld.blk TLY_CTL.CLEAR = .TLY := rfl
@[simp] theorem TLY_OVF.BITS_blk : Fld.blk TLY_OVF.BITS = .TLY := rfl
@[simp] theorem TLY_CFG.EN_blk : Fld.blk TLY_CFG.EN = .TLY := rfl
@[simp] theorem TLY_CFG.CHAIN_blk : Fld.blk TLY_CFG.CHAIN = .TLY := rfl
@[simp] theorem TLY_CFG.INSTANCE_blk : Fld.blk TLY_CFG.INSTANCE = .TLY := rfl
@[simp] theorem TLY_CFG.EVENT_blk : Fld.blk TLY_CFG.EVENT = .TLY := rfl
@[simp] theorem TLY_CNT.COUNT_blk : Fld.blk TLY_CNT.COUNT = .TLY := rfl
@[simp] theorem TLY_CNT.HIGH_blk : Fld.blk TLY_CNT.HIGH = .TLY := rfl
@[simp] theorem RV_LOG_STAT.LOG_FULL_blk : Fld.blk RV_LOG_STAT.LOG_FULL = .RV := rfl
@[simp] theorem RV_LOG_STAT.QOVF_blk : Fld.blk RV_LOG_STAT.QOVF = .RV := rfl
@[simp] theorem RV_LOG_STAT.FULL_blk : Fld.blk RV_LOG_STAT.FULL = .RV := rfl
@[simp] theorem RV_LOG_STAT.STICKY_blk : Fld.blk RV_LOG_STAT.STICKY = .RV := rfl
@[simp] theorem RV_LOG_SEQ.SEQ_blk : Fld.blk RV_LOG_SEQ.SEQ = .RV := rfl
@[simp] theorem RV_LOG_LOST.COUNT_blk : Fld.blk RV_LOG_LOST.COUNT = .RV := rfl
@[simp] theorem RV_LOG_ACK.GO_blk : Fld.blk RV_LOG_ACK.GO = .RV := rfl
@[simp] theorem RV_LOG_ACK.ALL_blk : Fld.blk RV_LOG_ACK.ALL = .RV := rfl
@[simp] theorem RV_LOG_ACK.CLEAR_blk : Fld.blk RV_LOG_ACK.CLEAR = .RV := rfl
@[simp] theorem RV_LOG_ACK.INDEX_blk : Fld.blk RV_LOG_ACK.INDEX = .RV := rfl
@[simp] theorem RV_CFG.NOTIFY_EN_blk : Fld.blk RV_CFG.NOTIFY_EN = .RV := rfl
@[simp] theorem RV_CFG.VEC_blk : Fld.blk RV_CFG.VEC = .RV := rfl
@[simp] theorem RV_THROT.CRIT_blk : Fld.blk RV_THROT.CRIT = .RV := rfl
@[simp] theorem RV_THROT.THERMAL_blk : Fld.blk RV_THROT.THERMAL = .RV := rfl
@[simp] theorem RV_THROT.POWER_blk : Fld.blk RV_THROT.POWER = .RV := rfl
@[simp] theorem RV_THROT.PDUTY_blk : Fld.blk RV_THROT.PDUTY = .RV := rfl
@[simp] theorem RV_THROT.DUTY_blk : Fld.blk RV_THROT.DUTY = .RV := rfl
@[simp] theorem RV_PLIM.PL2_blk : Fld.blk RV_PLIM.PL2 = .RV := rfl
@[simp] theorem RV_PLIM.PL1_blk : Fld.blk RV_PLIM.PL1 = .RV := rfl
@[simp] theorem RV_TLIM.T_STACK_blk : Fld.blk RV_TLIM.T_STACK = .RV := rfl
@[simp] theorem RV_TLIM.T_FIELD_blk : Fld.blk RV_TLIM.T_FIELD = .RV := rfl
@[simp] theorem RV_THROTTIME.COUNT_blk : Fld.blk RV_THROTTIME.COUNT = .RV := rfl
@[simp] theorem RV_ECCWARN.LIMIT_blk : Fld.blk RV_ECCWARN.LIMIT = .RV := rfl
@[simp] theorem RV_POWER.AVG1S_blk : Fld.blk RV_POWER.AVG1S = .RV := rfl
@[simp] theorem RV_POWER.AVG100US_blk : Fld.blk RV_POWER.AVG100US = .RV := rfl
@[simp] theorem RV_TEMP.HEADLAND_blk : Fld.blk RV_TEMP.HEADLAND = .RV := rfl
@[simp] theorem RV_TEMP.STACK_blk : Fld.blk RV_TEMP.STACK = .RV := rfl
@[simp] theorem RV_TEMP.FIELD_blk : Fld.blk RV_TEMP.FIELD = .RV := rfl
@[simp] theorem RV_TEMP.SENSOR_blk : Fld.blk RV_TEMP.SENSOR = .RV := rfl

end Sys2Proof.Machine
end

