-- ==== Sys2Proof/Laws/KeepOps.lean ====
section
/-! SUPPORT. What the operations and commands of Machine/Ops.lean keep: each changes only the facets
named in its hypotheses (`State.keep`). -/

namespace Sys2Proof.Machine

variable {m : Facet → Bool}


@[simp] theorem State.draw_keep (h0 : m .fresh = false) (s : State) :
    (State.draw s).2.keep m = s.keep m := by simp [State.draw, *]
@[simp] theorem State.send_keep (h0 : m .sent = false) (s : State) (m_ : Sent) :
    (State.send s m_).keep m = s.keep m := by simp [State.send, *]
@[simp] theorem State.setFn_keep (h0 : m .host = false) (s : State) (p : ℕ) (r : FnRec) :
    (State.setFn s p r).keep m = s.keep m := by simp [State.setFn, *]
@[simp] theorem State.notify_keep (h0 : m .sent = false) (h1 : m .vecs = false) (s : State) (plot : ℕ) (vec : ℕ) :
    (State.notify s plot vec).keep m = s.keep m := by simp [State.notify, *]
@[simp] theorem State.logEvent_keep (h0 : m (.blk .RV) = false) (h1 : m .reeve = false) (s : State) (code : ℕ) (inst :
    ℕ) (plot : ℕ) (aux : ℕ) (addr : ℕ) (detail : ℕ) :
    (State.logEvent s code inst plot aux addr detail).keep m = s.keep m := by simp [State.logEvent, *]
@[simp] theorem State.log0_keep (h0 : m (.blk .RV) = false) (h1 : m .reeve = false) (s : State) (code : ℕ) (aux : ℕ) :
    (State.log0 s code aux).keep m = s.keep m := by simp [State.log0, *]
@[simp] theorem State.log1_keep (h0 : m (.blk .RV) = false) (h1 : m .reeve = false) (s : State) (code : ℕ) (inst : ℕ)
    (aux : ℕ) :
    (State.log1 s code inst aux).keep m = s.keep m := by simp [State.log1, *]
@[simp] theorem State.writeDropped_keep (h0 : m (.blk .RV) = false) (h1 : m .reeve = false) (s : State) (agent :
    Agent) (off : ℕ) :
    (State.writeDropped s agent off).keep m = s.keep m := by simp [State.writeDropped, *]
@[simp] theorem State.tallyCarry_keep (h0 : m (.blk .RV) = false) (h1 : m (.blk .TLY) = false) (h2 : m .reeve = false)
    (s : State) (n : ℕ) :
    (State.tallyCarry s n).keep m = s.keep m := by simp [State.tallyCarry, *]
@[simp] theorem State.tallyBump_keep (h0 : m (.blk .RV) = false) (h1 : m (.blk .TLY) = false) (h2 : m .reeve = false)
    (s : State) (n : ℕ) (k : ℕ) :
    (State.tallyBump s n k).keep m = s.keep m := by simp [State.tallyBump, *]
@[simp] theorem State.tally_keep (h0 : m (.blk .RV) = false) (h1 : m (.blk .TLY) = false) (h2 : m .reeve = false) (s :
    State) (event : ℕ) (inst : ℕ) (k : ℕ) :
    (State.tally s event inst k).keep m = s.keep m := by simp [State.tally, *]

end Sys2Proof.Machine
end

