-- ==== Sys2Proof/Laws/KeepMemory.lean ====
section
/-! SUPPORT. What the operations and commands of Machine/Memory.lean keep: each changes only the facets
named in its hypotheses (`State.keep`). -/

namespace Sys2Proof.Machine

variable {m : Facet → Bool}


@[simp] theorem State.setSeq_keep (h0 : m .granary = false) (s : State) (c : ℕ) (q : TillSeq) :
    (State.setSeq s c q).keep m = s.keep m := by simp [State.setSeq, *]
@[simp] theorem State.arrive_keep (h0 : m .granary = false) (s : State) (pa : ℕ) (x : Held) :
    (State.arrive s pa x).keep m = s.keep m := by unfold State.arrive; (repeat' split) <;> simp [*]
@[simp] theorem State.takeRes_keep (s : State) :
    (State.takeRes s).2.keep m = s.keep m := by simp [State.takeRes, *]
@[simp] theorem State.withRes_keep (s : State) (r : MemRes) (f : State → State) (hf_f : ∀ a0, (f a0).keep m = a0.keep
    m) :
    (State.withRes s r f).keep m = s.keep m := by simp [State.withRes, *]
@[simp] theorem State.setMem_keep (h0 : m .mem = false) (s : State) (m_ : List Host.Cell) :
    (State.setMem s m_).keep m = s.keep m := by simp [State.setMem, *]
@[simp] theorem State.setPoison_keep (h0 : m .granary = false) (s : State) (key : ℕ) (b : Bool) :
    (State.setPoison s key b).keep m = s.keep m := by simp [State.setPoison, *]
@[simp] theorem State.writeGran_keep (h0 : m .granary = false) (h1 : m .mem = false) (s : State) (key : ℕ) (mask : ℕ)
    (data : List Byte) :
    (State.writeGran s key mask data).keep m = s.keep m := by simp [State.writeGran, *]
@[simp] theorem State.granError_keep (h0 : m (.blk .GRN) = false) (h1 : m (.blk .RV) = false) (h2 : m .reeve = false)
    (s : State) (c : ℕ) (l : ℕ) (type : ℕ) (src : ℕ) :
    (State.granError s c l type src).keep m = s.keep m := by simp [State.granError, *]
@[simp] theorem State.granRead_keep (h0 : m (.blk .GRN) = false) (h1 : m (.blk .RV) = false) (h2 : m .reeve = false)
    (s : State) (c : ℕ) (l : ℕ) (src : ℕ) (res : MemRes) :
    (State.granRead s c l src res).2.keep m = s.keep m := by simp only [State.granRead]; (repeat' split) <;> simp [*]
@[simp] theorem State.granWrite_keep (h0 : m (.blk .GRN) = false) (h1 : m (.blk .RV) = false) (h2 : m .granary =
    false) (h3 : m .mem = false) (h4 : m .reeve = false) (s : State) (c : ℕ) (l : ℕ) (mask : ℕ) (data : List Byte)
    (src : ℕ) (res : MemRes) :
    (State.granWrite s c l mask data src res).keep m = s.keep m := by
  unfold State.granWrite; (repeat' split) <;> simp [*]
@[simp] theorem State.setSeed_keep (h0 : m .seedbox = false) (s : State) (n : ℕ) (a : Sram) :
    (State.setSeed s n a).keep m = s.keep m := by simp [State.setSeed, *]

end Sys2Proof.Machine
end

