-- ==== Sys2Proof/Laws/KeepCoherence.lean ====
section
/-! SUPPORT. What the operations and commands of Machine/Coherence.lean keep: each changes only the facets
named in its hypotheses (`State.keep`). -/

namespace Sys2Proof.Machine

variable {m : Facet → Bool}


@[simp] theorem State.setCore_keep (h0 : m .cores = false) (s : State) (n : ℕ) (c : Core) :
    (State.setCore s n c).keep m = s.keep m := by simp [State.setCore, *]
@[simp] theorem State.invalidateCore_keep (h0 : m .cores = false) (s : State) (line : ℕ) (n : ℕ) :
    (State.invalidateCore s line n).keep m = s.keep m := by simp [State.invalidateCore, *]
@[simp] theorem State.invalidateFurrow_keep (h0 : m .cores = false) (s : State) (f : ℕ) (line : ℕ) :
    (State.invalidateFurrow s f line).keep m = s.keep m := by simp [State.invalidateFurrow, *]
@[simp] theorem State.setFc_keep (h0 : m .caches = false) (s : State) (fc : List (ℕ × FcLine)) :
    (State.setFc s fc).keep m = s.keep m := by simp [State.setFc, *]
@[simp] theorem State.touchClock_keep (h0 : m .caches = false) (s : State) :
    (State.touchClock s).keep m = s.keep m := by simp [State.touchClock, *]
@[simp] theorem State.dirTouch_keep (h0 : m .caches = false) (s : State) (line : ℕ) :
    (State.dirTouch s line).keep m = s.keep m := by simp [State.dirTouch, *]
@[simp] theorem State.dirUse_keep (h0 : m .caches = false) (s : State) (line : ℕ) :
    (State.dirUse s line).keep m = s.keep m := by simp [State.dirUse, *]
@[simp] theorem State.fcUse_keep (h0 : m .caches = false) (s : State) (f : ℕ) (line : ℕ) :
    (State.fcUse s f line).keep m = s.keep m := by unfold State.fcUse; (repeat' split) <;> simp [*]
@[simp] theorem State.writeBack_keep (h0 : m (.blk .GRN) = false) (h1 : m (.blk .RV) = false) (h2 : m .granary =
    false) (h3 : m .mem = false) (h4 : m .reeve = false) (s : State) (x : FcLine) :
    (State.writeBack s x).keep m = s.keep m := by simp [State.writeBack, *]
@[simp] theorem State.fcDrop_keep (h0 : m .caches = false) (h1 : m .cores = false) (s : State) (f : ℕ) (k : ℕ) (x :
    FcLine) :
    (State.fcDrop s f k x).keep m = s.keep m := by simp [State.fcDrop, *]
@[simp] theorem State.fcEvict_keep (h0 : m (.blk .GRN) = false) (h1 : m (.blk .RV) = false) (h2 : m .caches = false)
    (h3 : m .cores = false) (h4 : m .granary = false) (h5 : m .mem = false) (h6 : m .reeve = false) (s : State) (f :
    ℕ) (k : ℕ) :
    (State.fcEvict s f k).keep m = s.keep m := by unfold State.fcEvict; (repeat' split) <;> simp [*]
@[simp] theorem State.recallFrom_keep (h0 : m (.blk .GRN) = false) (h1 : m (.blk .RV) = false) (h2 : m .caches =
    false) (h3 : m .cores = false) (h4 : m .granary = false) (h5 : m .mem = false) (h6 : m .reeve = false) (s : State)
    (line : ℕ) (f : ℕ) :
    (State.recallFrom s line f).keep m = s.keep m := by unfold State.recallFrom; (repeat' split) <;> simp [*]
@[simp] theorem State.recall_keep (h0 : m (.blk .GRN) = false) (h1 : m (.blk .RV) = false) (h2 : m .caches = false)
    (h3 : m .cores = false) (h4 : m .granary = false) (h5 : m .mem = false) (h6 : m .reeve = false) (s : State) (line
    : ℕ) :
    (State.recall s line).keep m = s.keep m := by simp [State.recall, *]
@[simp] theorem State.cleanCopy_keep (h0 : m (.blk .GRN) = false) (h1 : m (.blk .RV) = false) (h2 : m .caches = false)
    (h3 : m .granary = false) (h4 : m .mem = false) (h5 : m .reeve = false) (s : State) (line : ℕ) (st : Mesi) :
    (State.cleanCopy s line st).keep m = s.keep m := by unfold State.cleanCopy; (repeat' split) <;> simp [*]
@[simp] theorem State.shareCopies_keep (h0 : m .caches = false) (s : State) (line : ℕ) :
    (State.shareCopies s line).keep m = s.keep m := by simp [State.shareCopies, *]
@[simp] theorem State.dirRoom_keep (h0 : m (.blk .GRN) = false) (h1 : m (.blk .RV) = false) (h2 : m .caches = false)
    (h3 : m .cores = false) (h4 : m .granary = false) (h5 : m .mem = false) (h6 : m .reeve = false) (s : State) (line
    : ℕ) :
    (State.dirRoom s line).keep m = s.keep m := by unfold State.dirRoom; (repeat' split) <;> simp [*]
@[simp] theorem State.homeRead_keep (h0 : m (.blk .GRN) = false) (h1 : m (.blk .RV) = false) (h2 : m .reeve = false)
    (s : State) (line : ℕ) (src : ℕ) (res : MemRes) :
    (State.homeRead s line src res).2.keep m = s.keep m := by simp [State.homeRead, *]
@[simp] theorem State.coherentLine_keep (h0 : m (.blk .GRN) = false) (h1 : m (.blk .RV) = false) (h2 : m .caches =
    false) (h3 : m .reeve = false) (s : State) (line : ℕ) (src : ℕ) (res : MemRes) :
    (State.coherentLine s line src res).2.keep m = s.keep m := by
  unfold State.coherentLine; (repeat' split) <;> simp [*]
@[simp] theorem State.clearLost_keep (h0 : m .caches = false) (s : State) (line : ℕ) (mask : ℕ) :
    (State.clearLost s line mask).keep m = s.keep m := by simp [State.clearLost, *]
@[simp] theorem State.coherentWrite_keep (h0 : m (.blk .GRN) = false) (h1 : m (.blk .RV) = false) (h2 : m .caches =
    false) (h3 : m .cores = false) (h4 : m .granary = false) (h5 : m .mem = false) (h6 : m .reeve = false) (s : State)
    (line : ℕ) (mask : ℕ) (data : List Byte) (src : ℕ) :
    (State.coherentWrite s line mask data src).keep m = s.keep m := by simp [State.coherentWrite, *]
@[simp] theorem State.fcInstall_keep (h0 : m (.blk .GRN) = false) (h1 : m (.blk .RV) = false) (h2 : m .caches = false)
    (h3 : m .cores = false) (h4 : m .granary = false) (h5 : m .mem = false) (h6 : m .reeve = false) (s : State) (f :
    ℕ) (line : ℕ) (st : Mesi) (data : List Byte) :
    (State.fcInstall s f line st data).keep m = s.keep m := by simp [State.fcInstall, *]
@[simp] theorem State.fcFetch_keep (h0 : m (.blk .GRN) = false) (h1 : m (.blk .RV) = false) (h2 : m (.blk .TLY) =
    false) (h3 : m .caches = false) (h4 : m .cores = false) (h5 : m .granary = false) (h6 : m .mem = false) (h7 : m
    .reeve = false) (s : State) (f : ℕ) (line : ℕ) (src : ℕ) (res : MemRes) :
    (State.fcFetch s f line src res).2.keep m = s.keep m := by simp only [State.fcFetch]; (repeat' split) <;> simp [*]
@[simp] theorem State.loseOthers_keep (h0 : m (.blk .GRN) = false) (h1 : m (.blk .RV) = false) (h2 : m .caches =
    false) (h3 : m .cores = false) (h4 : m .granary = false) (h5 : m .mem = false) (h6 : m .reeve = false) (s : State)
    (f : ℕ) (line : ℕ) :
    (State.loseOthers s f line).keep m = s.keep m := by simp [State.loseOthers, *]
@[simp] theorem State.invalidateSiblings_keep (h0 : m .cores = false) (s : State) (f : ℕ) (line : ℕ) (keep : Option ℕ)
    :
    (State.invalidateSiblings s f line keep).keep m = s.keep m := by simp [State.invalidateSiblings, *]
@[simp] theorem State.fcModify_keep (h0 : m .caches = false) (s : State) (f : ℕ) (line : ℕ) (mask : ℕ) (data : List
    Byte) :
    (State.fcModify s f line mask data).keep m = s.keep m := by unfold State.fcModify; (repeat' split) <;> simp [*]
@[simp] theorem State.fcWrite_keep (h0 : m (.blk .GRN) = false) (h1 : m (.blk .RV) = false) (h2 : m (.blk .TLY) =
    false) (h3 : m .caches = false) (h4 : m .cores = false) (h5 : m .granary = false) (h6 : m .mem = false) (h7 : m
    .reeve = false) (s : State) (f : ℕ) (line : ℕ) (mask : ℕ) (data : List Byte) (keep : Option ℕ) (res : MemRes) :
    (State.fcWrite s f line mask data keep res).2.keep m = s.keep m := by
  simp only [State.fcWrite]; (repeat' split) <;> simp [*]

end Sys2Proof.Machine
end

