-- ==== Sys2Proof/Laws/KeepOperands.lean ====
section
/-! SUPPORT. What the operations and commands of Machine/Operands.lean keep: each changes only the facets
named in its hypotheses (`State.keep`). -/

namespace Sys2Proof.Machine

variable {m : Facet → Bool}


@[simp] theorem State.setThread_keep (h0 : m .threads = false) (s : State) (h : ℕ) (t : Thread) :
    (State.setThread s h t).keep m = s.keep m := by simp [State.setThread, *]
@[simp] theorem State.modThread_keep (h0 : m .threads = false) (s : State) (h : ℕ) (f : Thread → Thread) :
    (State.modThread s h f).keep m = s.keep m := by simp [State.modThread, *]
@[simp] theorem State.raiseAsync_keep (h0 : m (.blk .FUR) = false) (s : State) (h : ℕ) (code : ℕ) :
    (State.raiseAsync s h code).keep m = s.keep m := by simp [State.raiseAsync, *]
@[simp] theorem State.completes_keep (h0 : m .threads = false) (s : State) (h : ℕ) (f : Thread → Thread) :
    (State.completes s h f).keep m = s.keep m := by simp [State.completes, *]
@[simp] theorem State.instr_keep (s : State) (h : ℕ) (f : Thread → State → State) (hf_f : ∀ a0 a1, (f a0 a1).keep m =
    a1.keep m) :
    Keeps m s (State.instr s h f) := by simp [State.instr, *]
@[simp] theorem State.scalar_keep (h0 : m .threads = false) (s : State) (h : ℕ) (f : Thread → Thread) :
    Keeps m s (State.scalar s h f) := by simp [State.scalar, *]
@[simp] theorem State.fault_keep (h0 : m .threads = false) (s : State) (h : ℕ) (code : ℕ) (eaddr : Word) :
    (State.fault s h code eaddr).keep m = s.keep m := by simp [State.fault, *]

end Sys2Proof.Machine
end

