-- ==== Sys2Proof/Laws/KeepAccess.lean ====
section
/-! SUPPORT. What the operations and commands of Machine/Access.lean keep: each changes only the facets
named in its hypotheses (`State.keep`). -/

namespace Sys2Proof.Machine

variable {m : Facet → Bool}


@[simp] theorem State.entryAt_keep (h0 : m (.blk .GRN) = false) (h1 : m (.blk .RV) = false) (h2 : m (.blk .TLY) =
    false) (h3 : m .caches = false) (h4 : m .cores = false) (h5 : m .granary = false) (h6 : m .mem = false) (h7 : m
    .reeve = false) (s : State) (f : ℕ) (pa : ℕ) (res : MemRes) :
    (State.entryAt s f pa res).2.keep m = s.keep m := by simp only [State.entryAt]; (repeat' split) <;> simp [*]
@[simp] theorem State.walkFrom_keep (h0 : m (.blk .GRN) = false) (h1 : m (.blk .RV) = false) (h2 : m (.blk .TLY) =
    false) (h3 : m .caches = false) (h4 : m .cores = false) (h5 : m .granary = false) (h6 : m .mem = false) (h7 : m
    .reeve = false) (s : State) (f : ℕ) (v : ℕ) (res : MemRes) (table : ℕ) (y5 : List ℕ) :
    (State.walkFrom s f v res table y5).2.keep m = s.keep m := by
  induction y5 generalizing s table with
  | nil => rfl
  | cons l ls ih =>
    unfold State.walkFrom
    have e : (s.entryAt f (table + 8 * walkIndex v l) res).2.keep m = s.keep m := by simp [*]
    rcases h : s.entryAt f (table + 8 * walkIndex v l) res with ⟨_ | x, t⟩ <;> simp only [h] at e ⊢
    · exact e
    · (repeat' split) <;> simp [*]
@[simp] theorem State.walk_keep (h0 : m (.blk .GRN) = false) (h1 : m (.blk .RV) = false) (h2 : m (.blk .TLY) = false)
    (h3 : m .caches = false) (h4 : m .cores = false) (h5 : m .granary = false) (h6 : m .mem = false) (h7 : m .reeve =
    false) (s : State) (h : ℕ) (va : Word) (res : MemRes) :
    (State.walk s h va res).2.keep m = s.keep m := by simp [State.walk, *]
@[simp] theorem State.writeEntry_keep (h0 : m (.blk .GRN) = false) (h1 : m (.blk .RV) = false) (h2 : m (.blk .TLY) =
    false) (h3 : m .caches = false) (h4 : m .cores = false) (h5 : m .granary = false) (h6 : m .mem = false) (h7 : m
    .reeve = false) (s : State) (h : ℕ) (pa : ℕ) (e : ℕ) :
    (State.writeEntry s h pa e).keep m = s.keep m := by simp [State.writeEntry, *]
@[simp] theorem State.tlbInstall_keep (h0 : m .cores = false) (s : State) (n : ℕ) (fetch : Bool) (e : TlbEntry) :
    (State.tlbInstall s n fetch e).keep m = s.keep m := by simp [State.tlbInstall, *]
@[simp] theorem State.tlbInvalidate_keep (h0 : m .cores = false) (s : State) (n : ℕ) (plot : ℕ) (va : Option Word) :
    (State.tlbInvalidate s n plot va).keep m = s.keep m := by simp [State.tlbInvalidate, *]
@[simp] theorem State.translateNow_keep (h0 : m (.blk .GRN) = false) (h1 : m (.blk .RV) = false) (h2 : m (.blk .TLY) =
    false) (h3 : m .caches = false) (h4 : m .cores = false) (h5 : m .granary = false) (h6 : m .mem = false) (h7 : m
    .reeve = false) (s : State) (h : ℕ) (va : Word) (a : Access) (ring : ℕ) (rmax : Bool) (res : MemRes) :
    (State.translateNow s h va a ring rmax res).2.keep m = s.keep m := by
  unfold State.translateNow; dsimp only; (repeat' split) <;> (try simp only [Prod.ext_iff] at *) <;> (try casesm* _ ∧ _) <;> (try subst_vars) <;> (try simp [*])
@[simp] theorem State.setHold_keep (h0 : m .threads = false) (s : State) (h : ℕ) (w : Option Hold) :
    (State.setHold s h w).keep m = s.keep m := by simp [State.setHold, *]
@[simp] theorem State.startWalk_keep (h0 : m (.blk .GRN) = false) (h1 : m (.blk .RV) = false) (h2 : m (.blk .TLY) =
    false) (h3 : m .caches = false) (h4 : m .cores = false) (h5 : m .granary = false) (h6 : m .mem = false) (h7 : m
    .reeve = false) (h8 : m .threads = false) (s : State) (h : ℕ) (va : Word) (ea : Word) (a : Access) (len : ℕ) (txn
    : Bool) :
    (State.startWalk s h va ea a len txn).keep m = s.keep m := by unfold State.startWalk; (repeat' split) <;> simp [*]
@[simp] theorem State.walkFault_keep (h0 : m .threads = false) (s : State) (h : ℕ) (ea : Word) (a : Access) :
    (State.walkFault s h ea a).keep m = s.keep m := by simp [State.walkFault, *]
@[simp] theorem State.walkDenied_keep (h0 : m .threads = false) (s : State) (h : ℕ) (ea : Word) (a : Access) (len : ℕ)
    (pa : ℕ) :
    (State.walkDenied s h ea a len pa).keep m = s.keep m := by simp [State.walkDenied, *]
@[simp] theorem execTableWalk_keep (h0 : m (.blk .GRN) = false) (h1 : m (.blk .RV) = false) (h2 : m (.blk .TLY) =
    false) (h3 : m .caches = false) (h4 : m .cores = false) (h5 : m .granary = false) (h6 : m .mem = false) (h7 : m
    .reeve = false) (h8 : m .threads = false) (h : Tid) (res : MemRes) (s : State) :
    Keeps m s (execTableWalk h res s) := by
  unfold execTableWalk; (repeat' split) <;> (try simp only [Prod.ext_iff] at *) <;> (try casesm* _ ∧ _) <;> (try subst_vars) <;> simp [*]

end Sys2Proof.Machine
end

