-- ==== Sys2Proof/Laws/KeepLoadStore.lean ====
section
/-! SUPPORT. What the operations and commands of Machine/LoadStore.lean keep: each changes only the facets
named in its hypotheses (`State.keep`). -/

namespace Sys2Proof.Machine

variable {m : Facet → Bool}


@[simp] theorem State.markMb_keep (h0 : m .cores = false) (s : State) (n : ℕ) (p : MbEntry → Bool) :
    (State.markMb s n p).keep m = s.keep m := by simp [State.markMb, *]
@[simp] theorem State.markAll_keep (h0 : m .cores = false) (s : State) (n : ℕ) :
    (State.markAll s n).keep m = s.keep m := by simp [State.markAll, *]
@[simp] theorem State.markLine_keep (h0 : m .cores = false) (s : State) (n : ℕ) (line : ℕ) :
    (State.markLine s n line).keep m = s.keep m := by simp [State.markLine, *]
@[simp] theorem State.finishLoad_keep (h0 : m .threads = false) (s : State) (h : ℕ) (op : LoadOp) (bytes : List Byte)
    :
    (State.finishLoad s h op bytes).keep m = s.keep m := by simp [State.finishLoad, *]
@[simp] theorem State.sideMove_keep (h0 : m .cores = false) (s : State) (n : ℕ) (line : ℕ) :
    (State.sideMove s n line).keep m = s.keep m := by simp only [State.sideMove]; (repeat' split) <;> simp [*]
@[simp] theorem State.tryLoad_keep (h0 : m (.blk .RV) = false) (h1 : m (.blk .TLY) = false) (h2 : m .cores = false)
    (h3 : m .reeve = false) (h4 : m .threads = false) (s : State) (h : ℕ) (op : LoadOp) :
    (State.tryLoad s h op).keep m = s.keep m := by simp only [State.tryLoad]; (repeat' split) <;> simp [*]
@[simp] theorem State.countL1_keep (h0 : m (.blk .FUR) = false) (s : State) (n : ℕ) :
    (State.countL1 s n).keep m = s.keep m := by simp [State.countL1, *]
@[simp] theorem State.parityMiss_keep (h0 : m (.blk .FUR) = false) (h1 : m .cores = false) (s : State) (n : ℕ) (op :
    LoadOp) :
    (State.parityMiss s n op).keep m = s.keep m := by simp only [State.parityMiss]; (repeat' split) <;> simp [*]
@[simp] theorem State.loadInstr_keep (h0 : m (.blk .FUR) = false) (h1 : m (.blk .GRN) = false) (h2 : m (.blk .RV) =
    false) (h3 : m (.blk .TLY) = false) (h4 : m .caches = false) (h5 : m .cores = false) (h6 : m .granary = false) (h7
    : m .mem = false) (h8 : m .reeve = false) (h9 : m .threads = false) (s : State) (h : ℕ) (gs1 : Reg5) (imm : BitVec
    16) (len : ℕ) (signed : Bool) (dest : Dest) (par : Bool) :
    Keeps m s (State.loadInstr s h gs1 imm len signed dest par) := by
  refine State.instr_keep (m := m) _ _ _ fun t s => ?_; dsimp only; (repeat' split) <;> (try simp only [Prod.ext_iff] at *) <;> (try casesm* _ ∧ _) <;> (try subst_vars) <;> simp [*]
@[simp] theorem execLb_keep (h0 : m (.blk .FUR) = false) (h1 : m (.blk .GRN) = false) (h2 : m (.blk .RV) = false) (h3
    : m (.blk .TLY) = false) (h4 : m .caches = false) (h5 : m .cores = false) (h6 : m .granary = false) (h7 : m .mem =
    false) (h8 : m .reeve = false) (h9 : m .threads = false) (h : Tid) (gd : Reg5) (gs1 : Reg5) (imm : BitVec 16) (par
    : Bool) (s : State) :
    Keeps m s (execLb h gd gs1 imm par s) := by simp [execLb, *]
@[simp] theorem execLbu_keep (h0 : m (.blk .FUR) = false) (h1 : m (.blk .GRN) = false) (h2 : m (.blk .RV) = false) (h3
    : m (.blk .TLY) = false) (h4 : m .caches = false) (h5 : m .cores = false) (h6 : m .granary = false) (h7 : m .mem =
    false) (h8 : m .reeve = false) (h9 : m .threads = false) (h : Tid) (gd : Reg5) (gs1 : Reg5) (imm : BitVec 16) (par
    : Bool) (s : State) :
    Keeps m s (execLbu h gd gs1 imm par s) := by simp [execLbu, *]
@[simp] theorem execLh_keep (h0 : m (.blk .FUR) = false) (h1 : m (.blk .GRN) = false) (h2 : m (.blk .RV) = false) (h3
    : m (.blk .TLY) = false) (h4 : m .caches = false) (h5 : m .cores = false) (h6 : m .granary = false) (h7 : m .mem =
    false) (h8 : m .reeve = false) (h9 : m .threads = false) (h : Tid) (gd : Reg5) (gs1 : Reg5) (imm : BitVec 16) (par
    : Bool) (s : State) :
    Keeps m s (execLh h gd gs1 imm par s) := by simp [execLh, *]
@[simp] theorem execLhu_keep (h0 : m (.blk .FUR) = false) (h1 : m (.blk .GRN) = false) (h2 : m (.blk .RV) = false) (h3
    : m (.blk .TLY) = false) (h4 : m .caches = false) (h5 : m .cores = false) (h6 : m .granary = false) (h7 : m .mem =
    false) (h8 : m .reeve = false) (h9 : m .threads = false) (h : Tid) (gd : Reg5) (gs1 : Reg5) (imm : BitVec 16) (par
    : Bool) (s : State) :
    Keeps m s (execLhu h gd gs1 imm par s) := by simp [execLhu, *]
@[simp] theorem execLw_keep (h0 : m (.blk .FUR) = false) (h1 : m (.blk .GRN) = false) (h2 : m (.blk .RV) = false) (h3
    : m (.blk .TLY) = false) (h4 : m .caches = false) (h5 : m .cores = false) (h6 : m .granary = false) (h7 : m .mem =
    false) (h8 : m .reeve = false) (h9 : m .threads = false) (h : Tid) (gd : Reg5) (gs1 : Reg5) (imm : BitVec 16) (par
    : Bool) (s : State) :
    Keeps m s (execLw h gd gs1 imm par s) := by simp [execLw, *]
@[simp] theorem execLwu_keep (h0 : m (.blk .FUR) = false) (h1 : m (.blk .GRN) = false) (h2 : m (.blk .RV) = false) (h3
    : m (.blk .TLY) = false) (h4 : m .caches = false) (h5 : m .cores = false) (h6 : m .granary = false) (h7 : m .mem =
    false) (h8 : m .reeve = false) (h9 : m .threads = false) (h : Tid) (gd : Reg5) (gs1 : Reg5) (imm : BitVec 16) (par
    : Bool) (s : State) :
    Keeps m s (execLwu h gd gs1 imm par s) := by simp [execLwu, *]
@[simp] theorem execLd_keep (h0 : m (.blk .FUR) = false) (h1 : m (.blk .GRN) = false) (h2 : m (.blk .RV) = false) (h3
    : m (.blk .TLY) = false) (h4 : m .caches = false) (h5 : m .cores = false) (h6 : m .granary = false) (h7 : m .mem =
    false) (h8 : m .reeve = false) (h9 : m .threads = false) (h : Tid) (gd : Reg5) (gs1 : Reg5) (imm : BitVec 16) (par
    : Bool) (s : State) :
    Keeps m s (execLd h gd gs1 imm par s) := by simp [execLd, *]
@[simp] theorem execFlh_keep (h0 : m (.blk .FUR) = false) (h1 : m (.blk .GRN) = false) (h2 : m (.blk .RV) = false) (h3
    : m (.blk .TLY) = false) (h4 : m .caches = false) (h5 : m .cores = false) (h6 : m .granary = false) (h7 : m .mem =
    false) (h8 : m .reeve = false) (h9 : m .threads = false) (h : Tid) (fd : Reg5) (gs1 : Reg5) (imm : BitVec 16) (par
    : Bool) (s : State) :
    Keeps m s (execFlh h fd gs1 imm par s) := by simp [execFlh, *]
@[simp] theorem execFlw_keep (h0 : m (.blk .FUR) = false) (h1 : m (.blk .GRN) = false) (h2 : m (.blk .RV) = false) (h3
    : m (.blk .TLY) = false) (h4 : m .caches = false) (h5 : m .cores = false) (h6 : m .granary = false) (h7 : m .mem =
    false) (h8 : m .reeve = false) (h9 : m .threads = false) (h : Tid) (fd : Reg5) (gs1 : Reg5) (imm : BitVec 16) (par
    : Bool) (s : State) :
    Keeps m s (execFlw h fd gs1 imm par s) := by simp [execFlw, *]
@[simp] theorem execFld_keep (h0 : m (.blk .FUR) = false) (h1 : m (.blk .GRN) = false) (h2 : m (.blk .RV) = false) (h3
    : m (.blk .TLY) = false) (h4 : m .caches = false) (h5 : m .cores = false) (h6 : m .granary = false) (h7 : m .mem =
    false) (h8 : m .reeve = false) (h9 : m .threads = false) (h : Tid) (fd : Reg5) (gs1 : Reg5) (imm : BitVec 16) (par
    : Bool) (s : State) :
    Keeps m s (execFld h fd gs1 imm par s) := by simp [execFld, *]
@[simp] theorem State.storePart_keep (h0 : m .caches = false) (h1 : m .cores = false) (s : State) (h : ℕ) (pa : ℕ) (uc
    : Bool) (bytes : List Byte) :
    (State.storePart s h pa uc bytes).keep m = s.keep m := by unfold State.storePart; (repeat' split) <;> simp [*]
@[simp] theorem State.storeParts_keep (h0 : m .caches = false) (h1 : m .cores = false) (s : State) (h : ℕ) (ps : List
    Part) (bytes : List Byte) :
    (State.storeParts s h ps bytes).keep m = s.keep m := by simp [State.storeParts, *]
@[simp] theorem State.tryStore_keep (h0 : m .caches = false) (h1 : m .cores = false) (h2 : m .threads = false) (s :
    State) (h : ℕ) (va : Word) (ps : List Part) (bytes : List Byte) :
    (State.tryStore s h va ps bytes).keep m = s.keep m := by simp [State.tryStore, *]
@[simp] theorem State.storeInstr_keep (h0 : m (.blk .GRN) = false) (h1 : m (.blk .RV) = false) (h2 : m (.blk .TLY) =
    false) (h3 : m .caches = false) (h4 : m .cores = false) (h5 : m .granary = false) (h6 : m .mem = false) (h7 : m
    .reeve = false) (h8 : m .threads = false) (s : State) (h : ℕ) (gs1 : Reg5) (imm : BitVec 16) (len : ℕ) (value :
    Thread → Word) :
    Keeps m s (State.storeInstr s h gs1 imm len value) := by
  refine State.instr_keep (m := m) _ _ _ fun t s => ?_; dsimp only; (repeat' split) <;> (try simp only [Prod.ext_iff] at *) <;> (try casesm* _ ∧ _) <;> (try subst_vars) <;> simp [*]
@[simp] theorem execSb_keep (h0 : m (.blk .GRN) = false) (h1 : m (.blk .RV) = false) (h2 : m (.blk .TLY) = false) (h3
    : m .caches = false) (h4 : m .cores = false) (h5 : m .granary = false) (h6 : m .mem = false) (h7 : m .reeve =
    false) (h8 : m .threads = false) (h : Tid) (gs2 : Reg5) (gs1 : Reg5) (imm : BitVec 16) (s : State) :
    Keeps m s (execSb h gs2 gs1 imm s) := by simp [execSb, *]
@[simp] theorem execSh_keep (h0 : m (.blk .GRN) = false) (h1 : m (.blk .RV) = false) (h2 : m (.blk .TLY) = false) (h3
    : m .caches = false) (h4 : m .cores = false) (h5 : m .granary = false) (h6 : m .mem = false) (h7 : m .reeve =
    false) (h8 : m .threads = false) (h : Tid) (gs2 : Reg5) (gs1 : Reg5) (imm : BitVec 16) (s : State) :
    Keeps m s (execSh h gs2 gs1 imm s) := by simp [execSh, *]
@[simp] theorem execSw_keep (h0 : m (.blk .GRN) = false) (h1 : m (.blk .RV) = false) (h2 : m (.blk .TLY) = false) (h3
    : m .caches = false) (h4 : m .cores = false) (h5 : m .granary = false) (h6 : m .mem = false) (h7 : m .reeve =
    false) (h8 : m .threads = false) (h : Tid) (gs2 : Reg5) (gs1 : Reg5) (imm : BitVec 16) (s : State) :
    Keeps m s (execSw h gs2 gs1 imm s) := by simp [execSw, *]
@[simp] theorem execSd_keep (h0 : m (.blk .GRN) = false) (h1 : m (.blk .RV) = false) (h2 : m (.blk .TLY) = false) (h3
    : m .caches = false) (h4 : m .cores = false) (h5 : m .granary = false) (h6 : m .mem = false) (h7 : m .reeve =
    false) (h8 : m .threads = false) (h : Tid) (gs2 : Reg5) (gs1 : Reg5) (imm : BitVec 16) (s : State) :
    Keeps m s (execSd h gs2 gs1 imm s) := by simp [execSd, *]
@[simp] theorem execFsh_keep (h0 : m (.blk .GRN) = false) (h1 : m (.blk .RV) = false) (h2 : m (.blk .TLY) = false) (h3
    : m .caches = false) (h4 : m .cores = false) (h5 : m .granary = false) (h6 : m .mem = false) (h7 : m .reeve =
    false) (h8 : m .threads = false) (h : Tid) (fs2 : Reg5) (gs1 : Reg5) (imm : BitVec 16) (s : State) :
    Keeps m s (execFsh h fs2 gs1 imm s) := by simp [execFsh, *]
@[simp] theorem execFsw_keep (h0 : m (.blk .GRN) = false) (h1 : m (.blk .RV) = false) (h2 : m (.blk .TLY) = false) (h3
    : m .caches = false) (h4 : m .cores = false) (h5 : m .granary = false) (h6 : m .mem = false) (h7 : m .reeve =
    false) (h8 : m .threads = false) (h : Tid) (fs2 : Reg5) (gs1 : Reg5) (imm : BitVec 16) (s : State) :
    Keeps m s (execFsw h fs2 gs1 imm s) := by simp [execFsw, *]
@[simp] theorem execFsd_keep (h0 : m (.blk .GRN) = false) (h1 : m (.blk .RV) = false) (h2 : m (.blk .TLY) = false) (h3
    : m .caches = false) (h4 : m .cores = false) (h5 : m .granary = false) (h6 : m .mem = false) (h7 : m .reeve =
    false) (h8 : m .threads = false) (h : Tid) (fs2 : Reg5) (gs1 : Reg5) (imm : BitVec 16) (s : State) :
    Keeps m s (execFsd h fs2 gs1 imm s) := by simp [execFsd, *]
@[simp] theorem execPf_keep (h0 : m (.blk .GRN) = false) (h1 : m (.blk .RV) = false) (h2 : m (.blk .TLY) = false) (h3
    : m .caches = false) (h4 : m .cores = false) (h5 : m .granary = false) (h6 : m .mem = false) (h7 : m .reeve =
    false) (h8 : m .threads = false) (h : Tid) (gs1 : Reg5) (imm : BitVec 16) (s : State) :
    Keeps m s (execPf h gs1 imm s) := by
  refine State.instr_keep (m := m) _ _ _ fun t s => ?_; dsimp only; (repeat' split) <;> (try simp only [Prod.ext_iff] at *) <;> (try casesm* _ ∧ _) <;> (try subst_vars) <;> simp [*]
@[simp] theorem State.atomicInstr_keep (h0 : m (.blk .GRN) = false) (h1 : m (.blk .RV) = false) (h2 : m (.blk .TLY) =
    false) (h3 : m .caches = false) (h4 : m .cores = false) (h5 : m .granary = false) (h6 : m .mem = false) (h7 : m
    .reeve = false) (h8 : m .threads = false) (s : State) (h : ℕ) (op : AOp) (gd : Reg5) (gs1 : Reg5) (gs2 : Reg5)
    (rel : Bool) (wide : Bool) :
    Keeps m s (State.atomicInstr s h op gd gs1 gs2 rel wide) := by
  refine State.instr_keep (m := m) _ _ _ fun t s => ?_; dsimp only; (repeat' split) <;> (try simp only [Prod.ext_iff] at *) <;> (try casesm* _ ∧ _) <;> (try subst_vars) <;> simp [*]
@[simp] theorem execAtomicSwap_keep (h0 : m (.blk .GRN) = false) (h1 : m (.blk .RV) = false) (h2 : m (.blk .TLY) =
    false) (h3 : m .caches = false) (h4 : m .cores = false) (h5 : m .granary = false) (h6 : m .mem = false) (h7 : m
    .reeve = false) (h8 : m .threads = false) (h : Tid) (gd : Reg5) (gs1 : Reg5) (gs2 : Reg5) (y4 : Bool) (rel : Bool)
    (wide : Bool) (s : State) :
    Keeps m s (execAtomicSwap h gd gs1 gs2 y4 rel wide s) := by simp [execAtomicSwap, *]
@[simp] theorem execAtomicAdd_keep (h0 : m (.blk .GRN) = false) (h1 : m (.blk .RV) = false) (h2 : m (.blk .TLY) =
    false) (h3 : m .caches = false) (h4 : m .cores = false) (h5 : m .granary = false) (h6 : m .mem = false) (h7 : m
    .reeve = false) (h8 : m .threads = false) (h : Tid) (gd : Reg5) (gs1 : Reg5) (gs2 : Reg5) (y4 : Bool) (rel : Bool)
    (wide : Bool) (s : State) :
    Keeps m s (execAtomicAdd h gd gs1 gs2 y4 rel wide s) := by simp [execAtomicAdd, *]
@[simp] theorem execAtomicAnd_keep (h0 : m (.blk .GRN) = false) (h1 : m (.blk .RV) = false) (h2 : m (.blk .TLY) =
    false) (h3 : m .caches = false) (h4 : m .cores = false) (h5 : m .granary = false) (h6 : m .mem = false) (h7 : m
    .reeve = false) (h8 : m .threads = false) (h : Tid) (gd : Reg5) (gs1 : Reg5) (gs2 : Reg5) (y4 : Bool) (rel : Bool)
    (wide : Bool) (s : State) :
    Keeps m s (execAtomicAnd h gd gs1 gs2 y4 rel wide s) := by simp [execAtomicAnd, *]
@[simp] theorem execAtomicOr_keep (h0 : m (.blk .GRN) = false) (h1 : m (.blk .RV) = false) (h2 : m (.blk .TLY) =
    false) (h3 : m .caches = false) (h4 : m .cores = false) (h5 : m .granary = false) (h6 : m .mem = false) (h7 : m
    .reeve = false) (h8 : m .threads = false) (h : Tid) (gd : Reg5) (gs1 : Reg5) (gs2 : Reg5) (y4 : Bool) (rel : Bool)
    (wide : Bool) (s : State) :
    Keeps m s (execAtomicOr h gd gs1 gs2 y4 rel wide s) := by simp [execAtomicOr, *]
@[simp] theorem execAtomicXor_keep (h0 : m (.blk .GRN) = false) (h1 : m (.blk .RV) = false) (h2 : m (.blk .TLY) =
    false) (h3 : m .caches = false) (h4 : m .cores = false) (h5 : m .granary = false) (h6 : m .mem = false) (h7 : m
    .reeve = false) (h8 : m .threads = false) (h : Tid) (gd : Reg5) (gs1 : Reg5) (gs2 : Reg5) (y4 : Bool) (rel : Bool)
    (wide : Bool) (s : State) :
    Keeps m s (execAtomicXor h gd gs1 gs2 y4 rel wide s) := by simp [execAtomicXor, *]
@[simp] theorem execAtomicMin_keep (h0 : m (.blk .GRN) = false) (h1 : m (.blk .RV) = false) (h2 : m (.blk .TLY) =
    false) (h3 : m .caches = false) (h4 : m .cores = false) (h5 : m .granary = false) (h6 : m .mem = false) (h7 : m
    .reeve = false) (h8 : m .threads = false) (h : Tid) (gd : Reg5) (gs1 : Reg5) (gs2 : Reg5) (y4 : Bool) (rel : Bool)
    (wide : Bool) (s : State) :
    Keeps m s (execAtomicMin h gd gs1 gs2 y4 rel wide s) := by simp [execAtomicMin, *]
@[simp] theorem execAtomicMax_keep (h0 : m (.blk .GRN) = false) (h1 : m (.blk .RV) = false) (h2 : m (.blk .TLY) =
    false) (h3 : m .caches = false) (h4 : m .cores = false) (h5 : m .granary = false) (h6 : m .mem = false) (h7 : m
    .reeve = false) (h8 : m .threads = false) (h : Tid) (gd : Reg5) (gs1 : Reg5) (gs2 : Reg5) (y4 : Bool) (rel : Bool)
    (wide : Bool) (s : State) :
    Keeps m s (execAtomicMax h gd gs1 gs2 y4 rel wide s) := by simp [execAtomicMax, *]
@[simp] theorem execAtomicMinu_keep (h0 : m (.blk .GRN) = false) (h1 : m (.blk .RV) = false) (h2 : m (.blk .TLY) =
    false) (h3 : m .caches = false) (h4 : m .cores = false) (h5 : m .granary = false) (h6 : m .mem = false) (h7 : m
    .reeve = false) (h8 : m .threads = false) (h : Tid) (gd : Reg5) (gs1 : Reg5) (gs2 : Reg5) (y4 : Bool) (rel : Bool)
    (wide : Bool) (s : State) :
    Keeps m s (execAtomicMinu h gd gs1 gs2 y4 rel wide s) := by simp [execAtomicMinu, *]
@[simp] theorem execAtomicMaxu_keep (h0 : m (.blk .GRN) = false) (h1 : m (.blk .RV) = false) (h2 : m (.blk .TLY) =
    false) (h3 : m .caches = false) (h4 : m .cores = false) (h5 : m .granary = false) (h6 : m .mem = false) (h7 : m
    .reeve = false) (h8 : m .threads = false) (h : Tid) (gd : Reg5) (gs1 : Reg5) (gs2 : Reg5) (y4 : Bool) (rel : Bool)
    (wide : Bool) (s : State) :
    Keeps m s (execAtomicMaxu h gd gs1 gs2 y4 rel wide s) := by simp [execAtomicMaxu, *]
@[simp] theorem execAtomicCas_keep (h0 : m (.blk .GRN) = false) (h1 : m (.blk .RV) = false) (h2 : m (.blk .TLY) =
    false) (h3 : m .caches = false) (h4 : m .cores = false) (h5 : m .granary = false) (h6 : m .mem = false) (h7 : m
    .reeve = false) (h8 : m .threads = false) (h : Tid) (gd : Reg5) (gs1 : Reg5) (gs2 : Reg5) (y4 : Bool) (rel : Bool)
    (wide : Bool) (s : State) :
    Keeps m s (execAtomicCas h gd gs1 gs2 y4 rel wide s) := by simp [execAtomicCas, *]
@[simp] theorem State.lateStore_keep (h0 : m (.blk .FUR) = false) (h1 : m .threads = false) (s : State) (pa : ℕ) (h :
    ℕ) :
    (State.lateStore s pa h).keep m = s.keep m := by simp [State.lateStore, *]
@[simp] theorem State.writeSeed_keep (h0 : m .seedbox = false) (s : State) (m_ : ℕ) (off : ℕ) (mask : ℕ) (data : List
    Byte) :
    (State.writeSeed s m_ off mask data).keep m = s.keep m := by simp [State.writeSeed, *]
@[simp] theorem State.lineWrite_keep (h0 : m (.blk .GRN) = false) (h1 : m (.blk .RV) = false) (h2 : m (.blk .TLY) =
    false) (h3 : m .caches = false) (h4 : m .cores = false) (h5 : m .granary = false) (h6 : m .mem = false) (h7 : m
    .reeve = false) (h8 : m .seedbox = false) (s : State) (f : ℕ) (line : ℕ) (mask : ℕ) (data : List Byte) (uc : Bool)
    (keep : Option ℕ) (res : MemRes) :
    (State.lineWrite s f line mask data uc keep res).2.keep m = s.keep m := by
  unfold State.lineWrite; (repeat' split) <;> simp [*]
@[simp] theorem State.lineRead_keep (h0 : m (.blk .GRN) = false) (h1 : m (.blk .RV) = false) (h2 : m (.blk .TLY) =
    false) (h3 : m .caches = false) (h4 : m .cores = false) (h5 : m .granary = false) (h6 : m .mem = false) (h7 : m
    .reeve = false) (s : State) (f : ℕ) (pa : ℕ) (len : ℕ) (uc : Bool) (src : ℕ) (res : MemRes) :
    (State.lineRead s f pa len uc src res).2.keep m = s.keep m := by
  simp only [State.lineRead]; (repeat' split) <;> simp [*]

end Sys2Proof.Machine
end

