-- ==== Sys2Proof/Laws/KeepMaintenance.lean ====
section
/-! SUPPORT. What the operations and commands of Machine/Maintenance.lean keep: each changes only the facets
named in its hypotheses (`State.keep`). -/

namespace Sys2Proof.Machine

variable {m : Facet → Bool}


@[simp] theorem State.fenceInstr_keep (h0 : m .cores = false) (h1 : m .threads = false) (s : State) (h : ℕ) (kind :
    FenceKind) :
    Keeps m s (State.fenceInstr s h kind) := by simp [State.fenceInstr, *]
@[simp] theorem execFenceAcq_keep (h0 : m .cores = false) (h1 : m .threads = false) (h : Tid) (s : State) :
    Keeps m s (execFenceAcq h s) := by simp [execFenceAcq, *]
@[simp] theorem execFenceRel_keep (h0 : m .cores = false) (h1 : m .threads = false) (h : Tid) (s : State) :
    Keeps m s (execFenceRel h s) := by simp [execFenceRel, *]
@[simp] theorem execFencePkg_keep (h0 : m .cores = false) (h1 : m .threads = false) (h : Tid) (s : State) :
    Keeps m s (execFencePkg h s) := by simp [execFencePkg, *]
@[simp] theorem execFenceAcre_keep (h0 : m .cores = false) (h1 : m .threads = false) (h : Tid) (s : State) :
    Keeps m s (execFenceAcre h s) := by simp [execFenceAcre, *]
@[simp] theorem execFenceHost_keep (h0 : m .cores = false) (h1 : m .threads = false) (h : Tid) (s : State) :
    Keeps m s (execFenceHost h s) := by simp [execFenceHost, *]
@[simp] theorem execIfence_keep (h0 : m .cores = false) (h1 : m .threads = false) (h : Tid) (s : State) :
    Keeps m s (execIfence h s) := by simp [execIfence, *]
@[simp] theorem execFenceComplete_keep (h0 : m .cores = false) (h1 : m .threads = false) (h : Tid) (s : State) :
    Keeps m s (execFenceComplete h s) := by unfold execFenceComplete; (repeat' split) <;> simp [*]
@[simp] theorem State.ring0_keep (h0 : m .threads = false) (s : State) (h : ℕ) (word : Word) (f : Thread → State →
    State) (hf_f : ∀ a0 a1, (f a0 a1).keep m = a1.keep m) :
    Keeps m s (State.ring0 s h word f) := by simp [State.ring0, *]
@[simp] theorem execTlbiVa_keep (h0 : m .cores = false) (h1 : m .threads = false) (h : Tid) (gs1 : Reg5) (s : State) :
    Keeps m s (execTlbiVa h gs1 s) := by simp [execTlbiVa, *]
@[simp] theorem execTlbiVaB_keep (h0 : m .threads = false) (h : Tid) (gs1 : Reg5) (s : State) :
    Keeps m s (execTlbiVaB h gs1 s) := by simp [execTlbiVaB, *]
@[simp] theorem execTlbiPlot_keep (h0 : m .cores = false) (h1 : m .threads = false) (h : Tid) (s : State) :
    Keeps m s (execTlbiPlot h s) := by simp [execTlbiPlot, *]
@[simp] theorem execTlbiPlotB_keep (h0 : m .threads = false) (h : Tid) (s : State) :
    Keeps m s (execTlbiPlotB h s) := by simp [execTlbiPlotB, *]
@[simp] theorem execTlbiAcknowledge_keep (h0 : m .cores = false) (h1 : m .threads = false) (h : Tid) (s : State) :
    Keeps m s (execTlbiAcknowledge h s) := by unfold execTlbiAcknowledge; (repeat' split) <;> simp [*]
@[simp] theorem State.discard_keep (h0 : m .caches = false) (h1 : m .cores = false) (s : State) (line : ℕ) :
    (State.discard s line).keep m = s.keep m := by
  unfold State.discard
  repeat' (first | (simp [*]; done) | split | (refine (foldl_keep (fun s a => ?_) _ _).trans ?_) | (simp only [Prod.ext_iff] at *; casesm* _ ∧ _; subst_vars; simp [*]; done) | (simp only [keeps_next]) | simp [*])
@[simp] theorem State.cleanWay_keep (h0 : m (.blk .GRN) = false) (h1 : m (.blk .RV) = false) (h2 : m .caches = false)
    (h3 : m .granary = false) (h4 : m .mem = false) (h5 : m .reeve = false) (s : State) (k : ℕ) :
    (State.cleanWay s k).keep m = s.keep m := by unfold State.cleanWay; (repeat' split) <;> simp [*]
@[simp] theorem State.wayAction_keep (h0 : m (.blk .GRN) = false) (h1 : m (.blk .RV) = false) (h2 : m .caches = false)
    (h3 : m .cores = false) (h4 : m .granary = false) (h5 : m .mem = false) (h6 : m .reeve = false) (s : State) (f :
    ℕ) (k : ℕ) (a : CmoAction) :
    (State.wayAction s f k a).keep m = s.keep m := by unfold State.wayAction; (repeat' split) <;> simp [*]
@[simp] theorem State.lineAction_keep (h0 : m (.blk .GRN) = false) (h1 : m (.blk .RV) = false) (h2 : m .caches =
    false) (h3 : m .cores = false) (h4 : m .granary = false) (h5 : m .mem = false) (h6 : m .reeve = false) (s : State)
    (line : ℕ) (a : CmoAction) :
    (State.lineAction s line a).keep m = s.keep m := by unfold State.lineAction; (repeat' split) <;> simp [*]
@[simp] theorem State.cmoAct_keep (h0 : m (.blk .GRN) = false) (h1 : m (.blk .RV) = false) (h2 : m .caches = false)
    (h3 : m .cores = false) (h4 : m .granary = false) (h5 : m .mem = false) (h6 : m .reeve = false) (s : State) (n :
    ℕ) (op : CmoOp) :
    (State.cmoAct s n op).keep m = s.keep m := by unfold State.cmoAct; (repeat' split) <;> simp [*]
@[simp] theorem State.cmoTry_keep (h0 : m (.blk .GRN) = false) (h1 : m (.blk .RV) = false) (h2 : m .caches = false)
    (h3 : m .cores = false) (h4 : m .granary = false) (h5 : m .mem = false) (h6 : m .reeve = false) (h7 : m .threads =
    false) (s : State) (h : ℕ) (op : CmoOp) :
    (State.cmoTry s h op).keep m = s.keep m := by simp only [State.cmoTry]; (repeat' split) <;> simp [*]
@[simp] theorem State.cmoMark_keep (h0 : m (.blk .GRN) = false) (h1 : m (.blk .RV) = false) (h2 : m .caches = false)
    (h3 : m .cores = false) (h4 : m .granary = false) (h5 : m .mem = false) (h6 : m .reeve = false) (h7 : m .threads =
    false) (s : State) (h : ℕ) (op : CmoOp) :
    (State.cmoMark s h op).keep m = s.keep m := by simp only [State.cmoMark]; (repeat' split) <;> simp [*]
@[simp] theorem State.cmoInstr_keep (h0 : m (.blk .GRN) = false) (h1 : m (.blk .RV) = false) (h2 : m (.blk .TLY) =
    false) (h3 : m .caches = false) (h4 : m .cores = false) (h5 : m .granary = false) (h6 : m .mem = false) (h7 : m
    .reeve = false) (h8 : m .threads = false) (s : State) (h : ℕ) (gs1 : Reg5) (target : CmoTarget) (action :
    CmoAction) (setWay : Bool) (wb : MemRes) :
    Keeps m s (State.cmoInstr s h gs1 target action setWay wb) := by
  refine State.instr_keep (m := m) _ _ _ fun t s => ?_; dsimp only; (repeat' split) <;> (try simp only [Prod.ext_iff] at *) <;> (try casesm* _ ∧ _) <;> (try subst_vars) <;> simp [*]
@[simp] theorem execCmoInvalidate_keep (h0 : m (.blk .GRN) = false) (h1 : m (.blk .RV) = false) (h2 : m (.blk .TLY) =
    false) (h3 : m .caches = false) (h4 : m .cores = false) (h5 : m .granary = false) (h6 : m .mem = false) (h7 : m
    .reeve = false) (h8 : m .threads = false) (h : Tid) (gs1 : Reg5) (target : CmoTarget) (setWay : Bool) (s : State)
    :
    Keeps m s (execCmoInvalidate h gs1 target setWay s) := by simp [execCmoInvalidate, *]
@[simp] theorem execCmoClean_keep (h0 : m (.blk .GRN) = false) (h1 : m (.blk .RV) = false) (h2 : m (.blk .TLY) =
    false) (h3 : m .caches = false) (h4 : m .cores = false) (h5 : m .granary = false) (h6 : m .mem = false) (h7 : m
    .reeve = false) (h8 : m .threads = false) (h : Tid) (gs1 : Reg5) (target : CmoTarget) (setWay : Bool) (wb :
    MemRes) (s : State) :
    Keeps m s (execCmoClean h gs1 target setWay wb s) := by simp [execCmoClean, *]
@[simp] theorem execCmoCleanInvalidate_keep (h0 : m (.blk .GRN) = false) (h1 : m (.blk .RV) = false) (h2 : m (.blk
    .TLY) = false) (h3 : m .caches = false) (h4 : m .cores = false) (h5 : m .granary = false) (h6 : m .mem = false)
    (h7 : m .reeve = false) (h8 : m .threads = false) (h : Tid) (gs1 : Reg5) (target : CmoTarget) (setWay : Bool) (wb
    : MemRes) (s : State) :
    Keeps m s (execCmoCleanInvalidate h gs1 target setWay wb s) := by simp [execCmoCleanInvalidate, *]
@[simp] theorem State.wake_keep (h0 : m (.blk .GRN) = false) (h1 : m (.blk .RV) = false) (h2 : m (.blk .TLY) = false)
    (h3 : m .caches = false) (h4 : m .cores = false) (h5 : m .granary = false) (h6 : m .mem = false) (h7 : m .reeve =
    false) (h8 : m .threads = false) (s : State) (h : ℕ) :
    (State.wake s h).keep m = s.keep m := by unfold State.wake; (repeat' split) <;> simp [*]
@[simp] theorem State.wakeAll_keep (h0 : m (.blk .GRN) = false) (h1 : m (.blk .RV) = false) (h2 : m (.blk .TLY) =
    false) (h3 : m .caches = false) (h4 : m .cores = false) (h5 : m .granary = false) (h6 : m .mem = false) (h7 : m
    .reeve = false) (h8 : m .threads = false) (s : State) (n : ℕ) :
    (State.wakeAll s n).keep m = s.keep m := by simp [State.wakeAll, *]
@[simp] theorem State.fillEnds_keep (h0 : m (.blk .FUR) = false) (h1 : m .cores = false) (s : State) (n : ℕ) :
    (State.fillEnds s n).keep m = s.keep m := by simp only [State.fillEnds]; (repeat' split) <;> simp [*]
@[simp] theorem execL1dFill_keep (h0 : m (.blk .FUR) = false) (h1 : m (.blk .GRN) = false) (h2 : m (.blk .RV) = false)
    (h3 : m (.blk .TLY) = false) (h4 : m .caches = false) (h5 : m .cores = false) (h6 : m .granary = false) (h7 : m
    .mem = false) (h8 : m .reeve = false) (h9 : m .threads = false) (n : Uid) (s : State) :
    Keeps m s (execL1dFill n s) := by simp only [execL1dFill]; (repeat' split) <;> simp [*]
@[simp] theorem execSideBufferFill_keep (h0 : m .caches = false) (h1 : m .cores = false) (n : Uid) (s : State) :
    Keeps m s (execSideBufferFill n s) := by simp only [execSideBufferFill]; (repeat' split) <;> simp [*]
@[simp] theorem State.fillFails_keep (h0 : m (.blk .FUR) = false) (h1 : m (.blk .GRN) = false) (h2 : m (.blk .RV) =
    false) (h3 : m (.blk .TLY) = false) (h4 : m .caches = false) (h5 : m .cores = false) (h6 : m .granary = false) (h7
    : m .mem = false) (h8 : m .reeve = false) (h9 : m .threads = false) (s : State) (code : ℕ) (line : ℕ) (n : ℕ) :
    (State.fillFails s code line n).keep m = s.keep m := by simp only [State.fillFails]; (repeat' split) <;> simp [*]
@[simp] theorem execFurrowCacheFill_keep (h0 : m (.blk .FUR) = false) (h1 : m (.blk .GRN) = false) (h2 : m (.blk .RV)
    = false) (h3 : m (.blk .TLY) = false) (h4 : m .caches = false) (h5 : m .cores = false) (h6 : m .granary = false)
    (h7 : m .mem = false) (h8 : m .reeve = false) (h9 : m .threads = false) (f : CacheId) (line : ℕ) (res : MemRes)
    (wb : MemRes) (s : State) :
    Keeps m s (execFurrowCacheFill f line res wb s) := by
  unfold execFurrowCacheFill
  repeat' (first | (simp [*]; done) | split | (refine (foldl_keep (fun s a => ?_) _ _).trans ?_) | (apply State.withRes_keep <;> (first | (simp only [h0, h1, h2, h3, h4, h5, h6, h7, h8, h9]; done) | (intros; dsimp only) | intros)) | (simp only [Prod.ext_iff] at *; casesm* _ ∧ _; subst_vars; simp [*]; done) | (simp only [keeps_next]) | simp [*])
@[simp] theorem execOpenEntryTimeout_keep (h0 : m .cores = false) (n : Uid) (s : State) :
    Keeps m s (execOpenEntryTimeout n s) := by simp [execOpenEntryTimeout, *]
@[simp] theorem State.drainEntry_keep (h0 : m (.blk .FUR) = false) (h1 : m (.blk .GRN) = false) (h2 : m (.blk .RV) =
    false) (h3 : m (.blk .TLY) = false) (h4 : m .caches = false) (h5 : m .cores = false) (h6 : m .granary = false) (h7
    : m .mem = false) (h8 : m .reeve = false) (h9 : m .seedbox = false) (h10 : m .threads = false) (s : State) (n : ℕ)
    (e : MbEntry) (bad : Bool) (res : MemRes) :
    (State.drainEntry s n e bad res).keep m = s.keep m := by simp [State.drainEntry, *]
@[simp] theorem State.drainsArrive_keep (h0 : m .granary = false) (s : State) (n : ℕ) :
    (State.drainsArrive s n).keep m = s.keep m := by simp [State.drainsArrive, *]
@[simp] theorem State.drainOne_keep (h0 : m (.blk .FUR) = false) (h1 : m (.blk .GRN) = false) (h2 : m (.blk .RV) =
    false) (h3 : m (.blk .TLY) = false) (h4 : m .caches = false) (h5 : m .cores = false) (h6 : m .granary = false) (h7
    : m .mem = false) (h8 : m .reeve = false) (h9 : m .seedbox = false) (h10 : m .threads = false) (s : State) (n : ℕ)
    (bad : Bool) (res : MemRes) :
    (State.drainOne s n bad res).keep m = s.keep m := by simp only [State.drainOne]; (repeat' split) <;> simp [*]
@[simp] theorem execMergingBufferDrain_keep (h0 : m (.blk .FUR) = false) (h1 : m (.blk .GRN) = false) (h2 : m (.blk
    .RV) = false) (h3 : m (.blk .TLY) = false) (h4 : m .caches = false) (h5 : m .cores = false) (h6 : m .granary =
    false) (h7 : m .mem = false) (h8 : m .reeve = false) (h9 : m .seedbox = false) (h10 : m .threads = false) (n :
    Uid) (bad : Bool) (res : MemRes) (wb : MemRes) (s : State) :
    Keeps m s (execMergingBufferDrain n bad res wb s) := by simp [execMergingBufferDrain, *]
@[simp] theorem State.fetchPa_keep (h0 : m (.blk .GRN) = false) (h1 : m (.blk .RV) = false) (h2 : m (.blk .TLY) =
    false) (h3 : m .caches = false) (h4 : m .cores = false) (h5 : m .granary = false) (h6 : m .mem = false) (h7 : m
    .reeve = false) (s : State) (h : ℕ) (va : Word) (res : MemRes) :
    (State.fetchPa s h va res).2.keep m = s.keep m := by
  unfold State.fetchPa
  repeat' (first | (simp [*]; done) | split | (refine (foldl_keep (fun s a => ?_) _ _).trans ?_) | (simp only [Prod.ext_iff] at *; casesm* _ ∧ _; subst_vars; simp [*]; done) | (simp only [keeps_next]) | simp [*])
@[simp] theorem State.l1iParity_keep (h0 : m (.blk .FUR) = false) (h1 : m .cores = false) (s : State) (n : ℕ) (line :
    ℕ) :
    (State.l1iParity s n line).keep m = s.keep m := by unfold State.l1iParity; (repeat' split) <;> simp [*]
@[simp] theorem State.l1iAsk_keep (h0 : m (.blk .FUR) = false) (h1 : m (.blk .GRN) = false) (h2 : m (.blk .RV) =
    false) (h3 : m (.blk .TLY) = false) (h4 : m .caches = false) (h5 : m .cores = false) (h6 : m .granary = false) (h7
    : m .mem = false) (h8 : m .reeve = false) (s : State) (h : ℕ) (par : Bool) (res : MemRes) :
    (State.l1iAsk s h par res).keep m = s.keep m := by
  unfold State.l1iAsk; dsimp only; (repeat' split) <;> (try simp only [Prod.ext_iff] at *) <;> (try casesm* _ ∧ _) <;> (try subst_vars) <;> (try simp [*])
@[simp] theorem State.l1iArrives_keep (h0 : m (.blk .GRN) = false) (h1 : m (.blk .RV) = false) (h2 : m (.blk .TLY) =
    false) (h3 : m .caches = false) (h4 : m .cores = false) (h5 : m .granary = false) (h6 : m .mem = false) (h7 : m
    .reeve = false) (s : State) (h : ℕ) (line : ℕ) (res : MemRes) :
    (State.l1iArrives s h line res).keep m = s.keep m := by simp [State.l1iArrives, *]
@[simp] theorem execL1iFill_keep (h0 : m (.blk .FUR) = false) (h1 : m (.blk .GRN) = false) (h2 : m (.blk .RV) = false)
    (h3 : m (.blk .TLY) = false) (h4 : m .caches = false) (h5 : m .cores = false) (h6 : m .granary = false) (h7 : m
    .mem = false) (h8 : m .reeve = false) (h : Tid) (par : Bool) (res : MemRes) (s : State) :
    Keeps m s (execL1iFill h par res s) := by
  unfold execL1iFill; simp only [State.instr_keep, keeps_next]; intros; (repeat' split) <;> simp [*]
@[simp] theorem execIinv_keep (h0 : m (.blk .FUR) = false) (h1 : m .cores = false) (n : Cid) (s : State) :
    Keeps m s (execIinv n s) := by simp [execIinv, *]
@[simp] theorem execDinv_keep (h0 : m (.blk .FUR) = false) (h1 : m .cores = false) (n : Cid) (s : State) :
    Keeps m s (execDinv n s) := by simp [execDinv, *]
@[simp] theorem execL1InvalidateDone_keep (h0 : m (.blk .FUR) = false) (h1 : m .cores = false) (n : Cid) (s : State) :
    Keeps m s (execL1InvalidateDone n s) := by simp [execL1InvalidateDone, *]
@[simp] theorem State.writeDen_keep (h0 : m (.blk .FUR) = false) (h1 : m .cores = false) (s : State) (n : ℕ) (den :
    Bool) (dinv : Bool) :
    (State.writeDen s n den dinv).keep m = s.keep m := by simp [State.writeDen, *]
@[simp] theorem State.writeIen_keep (h0 : m (.blk .FUR) = false) (h1 : m .cores = false) (s : State) (n : ℕ) (ien :
    Bool) (iinv : Bool) :
    (State.writeIen s n ien iinv).keep m = s.keep m := by simp [State.writeIen, *]
@[simp] theorem execL1EnableWrite_keep (h0 : m (.blk .FUR) = false) (h1 : m .cores = false) (agent : Agent) (n : Cid)
    (ien : Bool) (den : Bool) (s : State) :
    Keeps m s (execL1EnableWrite agent n ien den s) := by simp [execL1EnableWrite, *]
@[simp] theorem State.rangeGo_keep (h0 : m (.blk .FUR) = false) (h1 : m .caches = false) (s : State) (f : ℕ) (action :
    ℕ) (mode : Bool) :
    (State.rangeGo s f action mode).keep m = s.keep m := by simp [State.rangeGo, *]
@[simp] theorem execRangeGo_keep (h0 : m (.blk .FUR) = false) (h1 : m .caches = false) (agent : Agent) (f : Furrow)
    (action : BitVec 2) (mode : Bool) (s : State) :
    Keeps m s (execRangeGo agent f action mode s) := by simp [execRangeGo, *]
@[simp] theorem State.rangeStep_keep (h0 : m (.blk .FUR) = false) (h1 : m (.blk .GRN) = false) (h2 : m (.blk .RV) =
    false) (h3 : m .caches = false) (h4 : m .cores = false) (h5 : m .granary = false) (h6 : m .mem = false) (h7 : m
    .reeve = false) (s : State) (f : ℕ) (n : ℕ) :
    (State.rangeStep s f n).keep m = s.keep m := by unfold State.rangeStep; (repeat' split) <;> simp [*]
@[simp] theorem State.rangeEnds_keep (h0 : m (.blk .FUR) = false) (h1 : m (.blk .GRN) = false) (h2 : m (.blk .RV) =
    false) (h3 : m .caches = false) (h4 : m .cores = false) (h5 : m .granary = false) (h6 : m .mem = false) (h7 : m
    .reeve = false) (s : State) (f : ℕ) :
    (State.rangeEnds s f).keep m = s.keep m := by unfold State.rangeEnds; (repeat' split) <;> simp [*]
@[simp] theorem execRangeDone_keep (h0 : m (.blk .FUR) = false) (h1 : m (.blk .GRN) = false) (h2 : m (.blk .RV) =
    false) (h3 : m .caches = false) (h4 : m .cores = false) (h5 : m .granary = false) (h6 : m .mem = false) (h7 : m
    .reeve = false) (f : Furrow) (wb : MemRes) (s : State) :
    Keeps m s (execRangeDone f wb s) := by unfold execRangeDone; (repeat' split) <;> simp [*]
@[simp] theorem State.rangeTick_keep (h0 : m (.blk .FUR) = false) (h1 : m (.blk .GRN) = false) (h2 : m (.blk .RV) =
    false) (h3 : m .caches = false) (h4 : m .cores = false) (h5 : m .granary = false) (h6 : m .mem = false) (h7 : m
    .reeve = false) (s : State) :
    (State.rangeTick s).keep m = s.keep m := by simp [State.rangeTick, *]
@[simp] theorem State.cacheUe_keep (h0 : m (.blk .RV) = false) (h1 : m .reeve = false) (s : State) (f : ℕ) (row : ℕ)
    (line : ℕ) :
    (State.cacheUe s f row line).keep m = s.keep m := by simp [State.cacheUe, *]
@[simp] theorem State.countFc_keep (h0 : m (.blk .FUR) = false) (s : State) (f : ℕ) :
    (State.countFc s f).keep m = s.keep m := by simp [State.countFc, *]
@[simp] theorem execFurrowScrub_keep (h0 : m (.blk .FUR) = false) (h1 : m (.blk .GRN) = false) (h2 : m (.blk .RV) =
    false) (h3 : m (.blk .TLY) = false) (h4 : m .caches = false) (h5 : m .cores = false) (h6 : m .granary = false) (h7
    : m .mem = false) (h8 : m .reeve = false) (f : CacheId) (verdict : ScrubRes) (s : State) :
    Keeps m s (execFurrowScrub f verdict s) := by simp only [execFurrowScrub]; (repeat' split) <;> simp [*]

end Sys2Proof.Machine
end

