-- ==== Sys2Proof/Laws/KeepClock.lean ====
section
/-! SUPPORT. What the operations and commands of Machine/Clock.lean keep: each changes only the facets
named in its hypotheses (`State.keep`). -/

namespace Sys2Proof.Machine

variable {m : Facet → Bool}


@[simp] theorem State.tallyCores_keep (h0 : m (.blk .RV) = false) (h1 : m (.blk .TLY) = false) (h2 : m .fresh = false)
    (h3 : m .reeve = false) (s : State) (event : ℕ) (pulses : ℕ) (k : ℕ → ℕ) :
    (State.tallyCores s event pulses k).keep m = s.keep m := by simp [State.tallyCores, *]
@[simp] theorem State.tick_keep (h0 : m (.blk .CLK) = false) (h1 : m (.blk .FUR) = false) (h2 : m (.blk .GRN) = false)
    (h3 : m (.blk .RV) = false) (h4 : m (.blk .TLY) = false) (h5 : m .caches = false) (h6 : m .clk = false) (h7 : m
    .cores = false) (h8 : m .fresh = false) (h9 : m .gln = false) (h10 : m .granary = false) (h11 : m .mem = false)
    (h12 : m .reeve = false) (s : State) :
    (State.tick s).keep m = s.keep m := by simp [State.tick, *]

end Sys2Proof.Machine
end

