-- ==== Sys2Proof/Laws/KeepTileOps.lean ====
section
/-! SUPPORT. What the operations and commands of Machine/TileOps.lean keep: each changes only the facets
named in its hypotheses (`State.keep`). -/

namespace Sys2Proof.Machine

variable {m : Facet → Bool}


@[simp] theorem State.setTile_keep (h0 : m .tiles = false) (s : State) (n : ℕ) (t : TileCore) :
    (State.setTile s n t).keep m = s.keep m := by simp [State.setTile, *]

end Sys2Proof.Machine
end

