-- ==== Sys2Proof/Laws/KeepBinderOps.lean ====
section
/-! SUPPORT. What the operations and commands of Machine/BinderOps.lean keep: each changes only the facets
named in its hypotheses (`State.keep`). -/

namespace Sys2Proof.Machine

variable {m : Facet → Bool}


@[simp] theorem State.setBnd_keep (h0 : m .bnd = false) (s : State) (n : ℕ) (b : BndOp) :
    (State.setBnd s n b).keep m = s.keep m := by simp [State.setBnd, *]
@[simp] theorem State.bndStat_keep (h0 : m (.blk .BND) = false) (s : State) (n : ℕ) :
    (State.bndStat s n).keep m = s.keep m := by simp [State.bndStat, *]
@[simp] theorem State.writeNormal_keep (h0 : m (.blk .GRN) = false) (h1 : m (.blk .RV) = false) (h2 : m .caches =
    false) (h3 : m .cores = false) (h4 : m .granary = false) (h5 : m .mem = false) (h6 : m .reeve = false) (s : State)
    (pa : ℕ) (src : ℕ) (y3 : ℕ) (y4 : List Byte) :
    (State.writeNormal s pa src y3 y4).2.keep m = s.keep m := by
  induction y3 generalizing s pa y4 with
  | zero => unfold State.writeNormal; repeat' (first | (simp [h0, h1, h2, h3, h4, h5, h6]; done) | split | (refine (foldl_keep (fun s a => ?_) _ _).trans ?_) | (simp only [Prod.ext_iff] at *; casesm* _ ∧ _; subst_vars; simp [h0, h1, h2, h3, h4, h5, h6]; done) | (simp only [keeps_next]) | simp [h0, h1, h2, h3, h4, h5, h6])
  | succ n ih =>
    unfold State.writeNormal
    repeat' (first | (simp [h0, h1, h2, h3, h4, h5, h6, ih]; done) | split | (refine (foldl_keep (fun s a => ?_) _ _).trans ?_) | (simp only [Prod.ext_iff] at *; casesm* _ ∧ _; subst_vars; simp [h0, h1, h2, h3, h4, h5, h6, ih]; done) | (simp only [keeps_next]) | simp [h0, h1, h2, h3, h4, h5, h6, ih])
@[simp] theorem State.bndWrite_keep (h0 : m (.blk .GRN) = false) (h1 : m (.blk .RV) = false) (h2 : m .caches = false)
    (h3 : m .cores = false) (h4 : m .granary = false) (h5 : m .mem = false) (h6 : m .reeve = false) (s : State) (pa :
    ℕ) (b : List Byte) :
    (State.bndWrite s pa b).2.keep m = s.keep m := by simp [State.bndWrite, *]
@[simp] theorem State.bndDone_keep (h0 : m (.blk .FUR) = false) (s : State) (n : ℕ) :
    (State.bndDone s n).keep m = s.keep m := by simp [State.bndDone, *]
@[simp] theorem State.bndFail_keep (h0 : m (.blk .BND) = false) (h1 : m (.blk .FUR) = false) (h2 : m (.blk .GRN) =
    false) (h3 : m (.blk .RV) = false) (h4 : m .caches = false) (h5 : m .cores = false) (h6 : m .granary = false) (h7
    : m .mem = false) (h8 : m .reeve = false) (s : State) (n : ℕ) (reason : ℕ) :
    (State.bndFail s n reason).keep m = s.keep m := by simp [State.bndFail, *]
@[simp] theorem State.bndArrive_keep (h0 : m (.blk .BND) = false) (h1 : m (.blk .FUR) = false) (h2 : m (.blk .GRN) =
    false) (h3 : m (.blk .RV) = false) (h4 : m .bnd = false) (h5 : m .caches = false) (h6 : m .cores = false) (h7 : m
    .granary = false) (h8 : m .mem = false) (h9 : m .reeve = false) (s : State) (n : ℕ) (slot : ℕ) (vals : List ℕ)
    (poison : Bool) (h : Option ℕ) :
    (State.bndArrive s n slot vals poison h).keep m = s.keep m := by
  unfold State.bndArrive; (repeat' split) <;> simp [*]
@[simp] theorem execBinderCombine_keep (h0 : m .bnd = false) (op : Fin 64) (s : State) :
    Keeps m s (execBinderCombine op s) := by simp only [execBinderCombine]; (repeat' split) <;> simp [*]
@[simp] theorem State.bndNext_keep (h0 : m (.blk .BND) = false) (h1 : m .bnd = false) (s : State) (n : ℕ) :
    (State.bndNext s n).keep m = s.keep m := by simp [State.bndNext, *]
@[simp] theorem State.bndCtl_keep (h0 : m (.blk .BND) = false) (h1 : m .bnd = false) (s : State) (n : ℕ) (v : Bool)
    (mode : Bool) (int : Bool) (slots : ℕ) (elems : ℕ) :
    (State.bndCtl s n v mode int slots elems).keep m = s.keep m := by simp [State.bndCtl, *]
@[simp] theorem execBndOpnCtl_keep (h0 : m (.blk .BND) = false) (h1 : m (.blk .RV) = false) (h2 : m .bnd = false) (h3
    : m .reeve = false) (agent : Agent) (op : Fin 64) (v : Bool) (mode : Bool) (int : Bool) (slots : BitVec 12) (elems
    : BitVec 12) (s : State) :
    Keeps m s (execBndOpnCtl agent op v mode int slots elems s) := by simp [execBndOpnCtl, *]

end Sys2Proof.Machine
end

