-- ==== Sys2Proof/Laws/KeepRegFile.lean ====
section
/-! SUPPORT. What the operations and commands of Machine/RegFile.lean keep: each changes only the facets
named in its hypotheses (`State.keep`). -/

namespace Sys2Proof.Machine

variable {m : Facet → Bool}


@[simp] theorem State.writeFld_keep (s : State) (F : Fld) (i : ℕ) (v : ℕ) (h : m (.blk F.blk) = false) :
    (State.writeFld s F i v).keep m = s.keep m := by
  unfold State.writeFld; dsimp only; split <;> (try split) <;> simp [h]
@[simp] theorem State.writeReg_keep (s : State) (r : RegDesc) (i : ℕ) (v : ℕ) (mask : ℕ) (h : ∀ F ∈ r.fields, m (.blk
    F.blk) = false) :
    (State.writeReg s r i v mask).keep m = s.keep m := by
  unfold State.writeReg
  suffices H : ∀ (fs : List Fld) (s : State), (∀ F ∈ fs, m (.blk F.blk) = false) → ∀ g : State → Fld → Nat,
      (fs.foldl (fun s F => if mask / 2 ^ F.lo % 2 ^ F.width = 0 then s else s.writeFld F i (g s F)) s).keep m = s.keep m from
    H r.fields s h _
  intro fs
  induction fs with
  | nil => intros; rfl
  | cons F fs ih =>
    intro s hF g
    rw [List.foldl_cons, ih _ (fun G hG => hF G (List.mem_cons_of_mem _ hG)), keep_ite,
      State.writeFld_keep _ _ _ _ (hF F (List.mem_cons_self ..)), ite_self]

end Sys2Proof.Machine
end

