-- ==== Sys2Proof/Laws/KeepLink.lean ====
section
/-! SUPPORT. What the operations and commands of Machine/Link.lean keep: each changes only the facets
named in its hypotheses (`State.keep`). -/

namespace Sys2Proof.Machine

variable {m : Facet → Bool}


@[simp] theorem State.setLink_keep (h0 : m .links = false) (s : State) (k : ℕ) (l : LinkRec) :
    (State.setLink s k l).keep m = s.keep m := by simp [State.setLink, *]
@[simp] theorem State.setLinkState_keep (h0 : m (.blk .SWTL) = false) (h1 : m (.blk .YK) = false) (s : State) (k : ℕ)
    (v : ℕ) :
    (State.setLinkState s k v).keep m = s.keep m := by simp [State.setLinkState, *]
@[simp] theorem State.setTxWidth_keep (h0 : m (.blk .SWTL) = false) (h1 : m (.blk .YK) = false) (s : State) (k : ℕ) (v
    : ℕ) :
    (State.setTxWidth s k v).keep m = s.keep m := by simp [State.setTxWidth, *]
@[simp] theorem State.setRxWidth_keep (h0 : m (.blk .SWTL) = false) (h1 : m (.blk .YK) = false) (s : State) (k : ℕ) (v
    : ℕ) :
    (State.setRxWidth s k v).keep m = s.keep m := by simp [State.setRxWidth, *]
@[simp] theorem State.putFlit_keep (h0 : m .links = false) (h1 : m .sent = false) (s : State) (k : ℕ) (fseq : ℕ)
    (flags : ℕ) (rxfail : ℕ) (units : List Byte) :
    (State.putFlit s k fseq flags rxfail units).keep m = s.keep m := by simp [State.putFlit, *]
@[simp] theorem State.idleFlit_keep (h0 : m .links = false) (h1 : m .sent = false) (s : State) (k : ℕ) (nak : ℕ)
    (rxfail : ℕ) :
    (State.idleFlit s k nak rxfail).keep m = s.keep m := by simp [State.idleFlit, *]
@[simp] theorem State.newFlit_keep (h0 : m (.blk .RV) = false) (h1 : m (.blk .TLY) = false) (h2 : m .links = false)
    (h3 : m .reeve = false) (h4 : m .sent = false) (s : State) (k : ℕ) (units : List Byte) :
    (State.newFlit s k units).keep m = s.keep m := by simp [State.newFlit, *]
@[simp] theorem State.pumpList_keep (h0 : m (.blk .RV) = false) (h1 : m (.blk .TLY) = false) (h2 : m .links = false)
    (h3 : m .reeve = false) (h4 : m .sent = false) (s : State) (k : ℕ) (stuck : List ℕ) (y3 : List (ℕ × List Byte)) :
    (State.pumpList s k stuck y3).keep m = s.keep m := by
  induction y3 generalizing s stuck with
  | nil => unfold State.pumpList; repeat' (first | (simp [h0, h1, h2, h3, h4]; done) | split | (refine (foldl_keep (fun s a => ?_) _ _).trans ?_) | (simp only [Prod.ext_iff] at *; casesm* _ ∧ _; subst_vars; simp [h0, h1, h2, h3, h4]; done) | (simp only [keeps_next]) | simp [h0, h1, h2, h3, h4])
  | cons x r ih =>
    unfold State.pumpList
    repeat' (first | (simp [h0, h1, h2, h3, h4, ih]; done) | split | (refine (foldl_keep (fun s a => ?_) _ _).trans ?_) | (simp only [Prod.ext_iff] at *; casesm* _ ∧ _; subst_vars; simp [h0, h1, h2, h3, h4, ih]; done) | (simp only [keeps_next]) | simp [h0, h1, h2, h3, h4, ih])
@[simp] theorem State.pump_keep (h0 : m (.blk .RV) = false) (h1 : m (.blk .TLY) = false) (h2 : m .links = false) (h3 :
    m .reeve = false) (h4 : m .sent = false) (s : State) (k : ℕ) :
    (State.pump s k).keep m = s.keep m := by simp [State.pump, *]
@[simp] theorem State.linkSend_keep (h0 : m (.blk .RV) = false) (h1 : m (.blk .TLY) = false) (h2 : m .links = false)
    (h3 : m .reeve = false) (h4 : m .sent = false) (s : State) (k : ℕ) (vc : ℕ) (m_ : List Byte) :
    (State.linkSend s k vc m_).keep m = s.keep m := by simp [State.linkSend, *]
@[simp] theorem State.badMsg_keep (h0 : m (.blk .SWT) = false) (h1 : m (.blk .YK) = false) (s : State) (k : ℕ) :
    (State.badMsg s k).keep m = s.keep m := by simp [State.badMsg, *]
@[simp] theorem State.takeUnits_keep (h0 : m (.blk .SWT) = false) (h1 : m (.blk .YK) = false) (h2 : m .links = false)
    (s : State) (k : ℕ) (y2 : ℕ) (y3 : List Byte) :
    (State.takeUnits s k y2 y3).keep m = s.keep m := by
  induction y2 generalizing s y3 with
  | zero => unfold State.takeUnits; repeat' (first | (simp [h0, h1, h2]; done) | split | (refine (foldl_keep (fun s a => ?_) _ _).trans ?_) | (simp only [Prod.ext_iff] at *; casesm* _ ∧ _; subst_vars; simp [h0, h1, h2]; done) | (simp only [keeps_next]) | simp [h0, h1, h2])
  | succ n ih =>
    unfold State.takeUnits
    repeat' (first | (simp [h0, h1, h2, ih]; done) | split | (refine (foldl_keep (fun s a => ?_) _ _).trans ?_) | (simp only [Prod.ext_iff] at *; casesm* _ ∧ _; subst_vars; simp [h0, h1, h2, ih]; done) | (simp only [keeps_next]) | simp [h0, h1, h2, ih])
@[simp] theorem State.laneEvent_keep (h0 : m (.blk .SWTL) = false) (h1 : m (.blk .YK) = false) (s : State) (k : ℕ)
    (narrows : Bool) :
    (State.laneEvent s k narrows).keep m = s.keep m := by simp [State.laneEvent, *]
@[simp] theorem State.txLaneFails_keep (h0 : m (.blk .SWTL) = false) (h1 : m (.blk .YK) = false) (h2 : m .links =
    false) (s : State) (k : ℕ) (lane : ℕ) :
    (State.txLaneFails s k lane).keep m = s.keep m := by simp [State.txLaneFails, *]
@[simp] theorem State.rxLaneFails_keep (h0 : m (.blk .SWTL) = false) (h1 : m (.blk .YK) = false) (h2 : m .links =
    false) (h3 : m .sent = false) (s : State) (k : ℕ) (lane : ℕ) :
    (State.rxLaneFails s k lane).keep m = s.keep m := by simp [State.rxLaneFails, *]
@[simp] theorem execLaneFail_keep (h0 : m (.blk .SWTL) = false) (h1 : m (.blk .YK) = false) (h2 : m .links = false)
    (h3 : m .sent = false) (k : Fin 7) (lane : Fin 9) (s : State) :
    Keeps m s (execLaneFail k lane s) := by simp [execLaneFail, *]
@[simp] theorem State.countResend_keep (h0 : m (.blk .SWTL) = false) (h1 : m (.blk .YK) = false) (s : State) (k : ℕ) :
    (State.countResend s k).keep m = s.keep m := by simp [State.countResend, *]
@[simp] theorem State.resend_keep (h0 : m (.blk .SWTL) = false) (h1 : m (.blk .YK) = false) (h2 : m .links = false)
    (h3 : m .sent = false) (s : State) (k : ℕ) (y2 : List (ℕ × List Byte)) :
    (State.resend s k y2).keep m = s.keep m := by
  induction y2 generalizing s with
  | nil => unfold State.resend; repeat' (first | (simp [h0, h1, h2, h3]; done) | split | (refine (foldl_keep (fun s a => ?_) _ _).trans ?_) | (simp only [Prod.ext_iff] at *; casesm* _ ∧ _; subst_vars; simp [h0, h1, h2, h3]; done) | (simp only [keeps_next]) | simp [h0, h1, h2, h3])
  | cons x r ih =>
    unfold State.resend
    repeat' (first | (simp [h0, h1, h2, h3, ih]; done) | split | (refine (foldl_keep (fun s a => ?_) _ _).trans ?_) | (simp only [Prod.ext_iff] at *; casesm* _ ∧ _; subst_vars; simp [h0, h1, h2, h3, ih]; done) | (simp only [keeps_next]) | simp [h0, h1, h2, h3, ih])
@[simp] theorem State.takeAck_keep (h0 : m .links = false) (s : State) (k : ℕ) (ack : ℕ) :
    (State.takeAck s k ack).keep m = s.keep m := by simp [State.takeAck, *]
@[simp] theorem execFlitReceive_keep (h0 : m (.blk .RV) = false) (h1 : m (.blk .SWT) = false) (h2 : m (.blk .SWTL) =
    false) (h3 : m (.blk .TLY) = false) (h4 : m (.blk .YK) = false) (h5 : m .links = false) (h6 : m .reeve = false)
    (h7 : m .sent = false) (k : Fin 7) (flit : Option (List (BitVec 8))) (s : State) :
    Keeps m s (execFlitReceive k flit s) := by unfold execFlitReceive; (repeat' split) <;> simp [*]
@[simp] theorem execRxSilence_keep (h0 : m .links = false) (h1 : m .sent = false) (k : Fin 7) (s : State) :
    Keeps m s (execRxSilence k s) := by simp [execRxSilence, *]
@[simp] theorem State.takeMsg_keep (h0 : m .links = false) (s : State) (k : ℕ) (type : ℕ) :
    ∀ x, State.takeMsg s k type = some x → x.2.keep m = s.keep m := by
  simp only [State.takeMsg]; (repeat' split) <;> simp [*]
@[simp] theorem State.freeUnits_keep (h0 : m .links = false) (s : State) (k : ℕ) (vc : ℕ) (n : ℕ) :
    (State.freeUnits s k vc n).keep m = s.keep m := by simp [State.freeUnits, *]
@[simp] theorem State.linkDrop_keep (h0 : m (.blk .SWTL) = false) (h1 : m (.blk .YK) = false) (h2 : m .links = false)
    (s : State) (k : ℕ) :
    (State.linkDrop s k).keep m = s.keep m := by simp [State.linkDrop, *]

end Sys2Proof.Machine
end

