-- ==== Sys2Proof/Laws/KeepTile.lean ====
section
/-! SUPPORT. What the operations and commands of Machine/Tile.lean keep: each changes only the facets
named in its hypotheses (`State.keep`). -/

namespace Sys2Proof.Machine

variable {m : Facet → Bool}


@[simp] theorem State.tileInstr_keep (h0 : m (.blk .GRN) = false) (h1 : m (.blk .RV) = false) (h2 : m (.blk .TLY) =
    false) (h3 : m .caches = false) (h4 : m .cores = false) (h5 : m .granary = false) (h6 : m .mem = false) (h7 : m
    .reeve = false) (h8 : m .threads = false) (s : State) (h : ℕ) (mk : Thread → TileIns) :
    Keeps m s (State.tileInstr s h mk) := by
  refine State.instr_keep (m := m) _ _ _ fun t s => ?_; dsimp only; (repeat' split) <;> (try simp only [Prod.ext_iff] at *) <;> (try casesm* _ ∧ _) <;> (try subst_vars) <;> simp [*]
@[simp] theorem execTld_keep (h0 : m (.blk .GRN) = false) (h1 : m (.blk .RV) = false) (h2 : m (.blk .TLY) = false) (h3
    : m .caches = false) (h4 : m .cores = false) (h5 : m .granary = false) (h6 : m .mem = false) (h7 : m .reeve =
    false) (h8 : m .threads = false) (h : Tid) (g : Bool) (rows : BitVec 6) (cols : BitVec 6) (fd : BitVec 4) (td :
    Fin 8) (gs1 : Reg5) (gs2 : Reg5) (s : State) :
    Keeps m s (execTld h g rows cols fd td gs1 gs2 s) := by simp [execTld, *]
@[simp] theorem execTst_keep (h0 : m (.blk .GRN) = false) (h1 : m (.blk .RV) = false) (h2 : m (.blk .TLY) = false) (h3
    : m .caches = false) (h4 : m .cores = false) (h5 : m .granary = false) (h6 : m .mem = false) (h7 : m .reeve =
    false) (h8 : m .threads = false) (h : Tid) (g : Bool) (rows : BitVec 6) (cols : BitVec 6) (fa : BitVec 4) (ta :
    Fin 8) (gs1 : Reg5) (gs2 : Reg5) (s : State) :
    Keeps m s (execTst h g rows cols fa ta gs1 gs2 s) := by simp [execTst, *]
@[simp] theorem State.tile3_keep (h0 : m (.blk .GRN) = false) (h1 : m (.blk .RV) = false) (h2 : m (.blk .TLY) = false)
    (h3 : m .caches = false) (h4 : m .cores = false) (h5 : m .granary = false) (h6 : m .mem = false) (h7 : m .reeve =
    false) (h8 : m .threads = false) (s : State) (fn : TFn) (h : Tid) (g : Bool) (rows : BitVec 6) (cols : BitVec 6)
    (fa : BitVec 4) (fb : BitVec 4) (fd : BitVec 4) (rnd : BitVec 2) (td : Fin 8) (ta : Fin 8) (tb : Fin 8) :
    Keeps m s (State.tile3 s fn h g rows cols fa fb fd rnd td ta tb) := by simp [State.tile3, *]
@[simp] theorem execTadd_keep (h0 : m (.blk .GRN) = false) (h1 : m (.blk .RV) = false) (h2 : m (.blk .TLY) = false)
    (h3 : m .caches = false) (h4 : m .cores = false) (h5 : m .granary = false) (h6 : m .mem = false) (h7 : m .reeve =
    false) (h8 : m .threads = false) (h : Tid) (g : Bool) (rows : BitVec 6) (cols : BitVec 6) (fa : BitVec 4) (fb :
    BitVec 4) (fd : BitVec 4) (rnd : BitVec 2) (td : Fin 8) (ta : Fin 8) (tb : Fin 8) (s : State) :
    Keeps m s (execTadd h g rows cols fa fb fd rnd td ta tb s) := by simp [execTadd, *]
@[simp] theorem execTsub_keep (h0 : m (.blk .GRN) = false) (h1 : m (.blk .RV) = false) (h2 : m (.blk .TLY) = false)
    (h3 : m .caches = false) (h4 : m .cores = false) (h5 : m .granary = false) (h6 : m .mem = false) (h7 : m .reeve =
    false) (h8 : m .threads = false) (h : Tid) (g : Bool) (rows : BitVec 6) (cols : BitVec 6) (fa : BitVec 4) (fb :
    BitVec 4) (fd : BitVec 4) (rnd : BitVec 2) (td : Fin 8) (ta : Fin 8) (tb : Fin 8) (s : State) :
    Keeps m s (execTsub h g rows cols fa fb fd rnd td ta tb s) := by simp [execTsub, *]
@[simp] theorem execTmul_keep (h0 : m (.blk .GRN) = false) (h1 : m (.blk .RV) = false) (h2 : m (.blk .TLY) = false)
    (h3 : m .caches = false) (h4 : m .cores = false) (h5 : m .granary = false) (h6 : m .mem = false) (h7 : m .reeve =
    false) (h8 : m .threads = false) (h : Tid) (g : Bool) (rows : BitVec 6) (cols : BitVec 6) (fa : BitVec 4) (fb :
    BitVec 4) (fd : BitVec 4) (rnd : BitVec 2) (td : Fin 8) (ta : Fin 8) (tb : Fin 8) (s : State) :
    Keeps m s (execTmul h g rows cols fa fb fd rnd td ta tb s) := by simp [execTmul, *]
@[simp] theorem execTmin_keep (h0 : m (.blk .GRN) = false) (h1 : m (.blk .RV) = false) (h2 : m (.blk .TLY) = false)
    (h3 : m .caches = false) (h4 : m .cores = false) (h5 : m .granary = false) (h6 : m .mem = false) (h7 : m .reeve =
    false) (h8 : m .threads = false) (h : Tid) (g : Bool) (rows : BitVec 6) (cols : BitVec 6) (fa : BitVec 4) (fb :
    BitVec 4) (fd : BitVec 4) (rnd : BitVec 2) (td : Fin 8) (ta : Fin 8) (tb : Fin 8) (s : State) :
    Keeps m s (execTmin h g rows cols fa fb fd rnd td ta tb s) := by simp [execTmin, *]
@[simp] theorem execTmax_keep (h0 : m (.blk .GRN) = false) (h1 : m (.blk .RV) = false) (h2 : m (.blk .TLY) = false)
    (h3 : m .caches = false) (h4 : m .cores = false) (h5 : m .granary = false) (h6 : m .mem = false) (h7 : m .reeve =
    false) (h8 : m .threads = false) (h : Tid) (g : Bool) (rows : BitVec 6) (cols : BitVec 6) (fa : BitVec 4) (fb :
    BitVec 4) (fd : BitVec 4) (rnd : BitVec 2) (td : Fin 8) (ta : Fin 8) (tb : Fin 8) (s : State) :
    Keeps m s (execTmax h g rows cols fa fb fd rnd td ta tb s) := by simp [execTmax, *]
@[simp] theorem execTand_keep (h0 : m (.blk .GRN) = false) (h1 : m (.blk .RV) = false) (h2 : m (.blk .TLY) = false)
    (h3 : m .caches = false) (h4 : m .cores = false) (h5 : m .granary = false) (h6 : m .mem = false) (h7 : m .reeve =
    false) (h8 : m .threads = false) (h : Tid) (g : Bool) (rows : BitVec 6) (cols : BitVec 6) (fa : BitVec 4) (fb :
    BitVec 4) (fd : BitVec 4) (td : Fin 8) (ta : Fin 8) (tb : Fin 8) (s : State) :
    Keeps m s (execTand h g rows cols fa fb fd td ta tb s) := by simp [execTand, *]
@[simp] theorem execTor_keep (h0 : m (.blk .GRN) = false) (h1 : m (.blk .RV) = false) (h2 : m (.blk .TLY) = false) (h3
    : m .caches = false) (h4 : m .cores = false) (h5 : m .granary = false) (h6 : m .mem = false) (h7 : m .reeve =
    false) (h8 : m .threads = false) (h : Tid) (g : Bool) (rows : BitVec 6) (cols : BitVec 6) (fa : BitVec 4) (fb :
    BitVec 4) (fd : BitVec 4) (td : Fin 8) (ta : Fin 8) (tb : Fin 8) (s : State) :
    Keeps m s (execTor h g rows cols fa fb fd td ta tb s) := by simp [execTor, *]
@[simp] theorem execTxor_keep (h0 : m (.blk .GRN) = false) (h1 : m (.blk .RV) = false) (h2 : m (.blk .TLY) = false)
    (h3 : m .caches = false) (h4 : m .cores = false) (h5 : m .granary = false) (h6 : m .mem = false) (h7 : m .reeve =
    false) (h8 : m .threads = false) (h : Tid) (g : Bool) (rows : BitVec 6) (cols : BitVec 6) (fa : BitVec 4) (fb :
    BitVec 4) (fd : BitVec 4) (td : Fin 8) (ta : Fin 8) (tb : Fin 8) (s : State) :
    Keeps m s (execTxor h g rows cols fa fb fd td ta tb s) := by simp [execTxor, *]
@[simp] theorem State.tile2_keep (h0 : m (.blk .GRN) = false) (h1 : m (.blk .RV) = false) (h2 : m (.blk .TLY) = false)
    (h3 : m .caches = false) (h4 : m .cores = false) (h5 : m .granary = false) (h6 : m .mem = false) (h7 : m .reeve =
    false) (h8 : m .threads = false) (s : State) (fn : TFn) (h : Tid) (g : Bool) (rows : BitVec 6) (cols : BitVec 6)
    (fa : BitVec 4) (fd : BitVec 4) (rnd : BitVec 2) (td : Fin 8) (ta : Fin 8) (gs1 : Reg5) :
    Keeps m s (State.tile2 s fn h g rows cols fa fd rnd td ta gs1) := by simp [State.tile2, *]
@[simp] theorem execTmov_keep (h0 : m (.blk .GRN) = false) (h1 : m (.blk .RV) = false) (h2 : m (.blk .TLY) = false)
    (h3 : m .caches = false) (h4 : m .cores = false) (h5 : m .granary = false) (h6 : m .mem = false) (h7 : m .reeve =
    false) (h8 : m .threads = false) (h : Tid) (g : Bool) (rows : BitVec 6) (cols : BitVec 6) (fa : BitVec 4) (fd :
    BitVec 4) (td : Fin 8) (ta : Fin 8) (s : State) :
    Keeps m s (execTmov h g rows cols fa fd td ta s) := by simp [execTmov, *]
@[simp] theorem execTcvt_keep (h0 : m (.blk .GRN) = false) (h1 : m (.blk .RV) = false) (h2 : m (.blk .TLY) = false)
    (h3 : m .caches = false) (h4 : m .cores = false) (h5 : m .granary = false) (h6 : m .mem = false) (h7 : m .reeve =
    false) (h8 : m .threads = false) (h : Tid) (g : Bool) (rows : BitVec 6) (cols : BitVec 6) (fa : BitVec 4) (fd :
    BitVec 4) (rnd : BitVec 2) (td : Fin 8) (ta : Fin 8) (s : State) :
    Keeps m s (execTcvt h g rows cols fa fd rnd td ta s) := by simp [execTcvt, *]
@[simp] theorem execTzero_keep (h0 : m (.blk .GRN) = false) (h1 : m (.blk .RV) = false) (h2 : m (.blk .TLY) = false)
    (h3 : m .caches = false) (h4 : m .cores = false) (h5 : m .granary = false) (h6 : m .mem = false) (h7 : m .reeve =
    false) (h8 : m .threads = false) (h : Tid) (g : Bool) (rows : BitVec 6) (cols : BitVec 6) (fd : BitVec 4) (td :
    Fin 8) (s : State) :
    Keeps m s (execTzero h g rows cols fd td s) := by simp [execTzero, *]
@[simp] theorem execTfill_keep (h0 : m (.blk .GRN) = false) (h1 : m (.blk .RV) = false) (h2 : m (.blk .TLY) = false)
    (h3 : m .caches = false) (h4 : m .cores = false) (h5 : m .granary = false) (h6 : m .mem = false) (h7 : m .reeve =
    false) (h8 : m .threads = false) (h : Tid) (g : Bool) (rows : BitVec 6) (cols : BitVec 6) (fd : BitVec 4) (td :
    Fin 8) (gs1 : Reg5) (s : State) :
    Keeps m s (execTfill h g rows cols fd td gs1 s) := by simp [execTfill, *]
@[simp] theorem execTneg_keep (h0 : m (.blk .GRN) = false) (h1 : m (.blk .RV) = false) (h2 : m (.blk .TLY) = false)
    (h3 : m .caches = false) (h4 : m .cores = false) (h5 : m .granary = false) (h6 : m .mem = false) (h7 : m .reeve =
    false) (h8 : m .threads = false) (h : Tid) (g : Bool) (rows : BitVec 6) (cols : BitVec 6) (fa : BitVec 4) (fd :
    BitVec 4) (td : Fin 8) (ta : Fin 8) (s : State) :
    Keeps m s (execTneg h g rows cols fa fd td ta s) := by simp [execTneg, *]
@[simp] theorem execTabs_keep (h0 : m (.blk .GRN) = false) (h1 : m (.blk .RV) = false) (h2 : m (.blk .TLY) = false)
    (h3 : m .caches = false) (h4 : m .cores = false) (h5 : m .granary = false) (h6 : m .mem = false) (h7 : m .reeve =
    false) (h8 : m .threads = false) (h : Tid) (g : Bool) (rows : BitVec 6) (cols : BitVec 6) (fa : BitVec 4) (fd :
    BitVec 4) (td : Fin 8) (ta : Fin 8) (s : State) :
    Keeps m s (execTabs h g rows cols fa fd td ta s) := by simp [execTabs, *]
@[simp] theorem execTmuls_keep (h0 : m (.blk .GRN) = false) (h1 : m (.blk .RV) = false) (h2 : m (.blk .TLY) = false)
    (h3 : m .caches = false) (h4 : m .cores = false) (h5 : m .granary = false) (h6 : m .mem = false) (h7 : m .reeve =
    false) (h8 : m .threads = false) (h : Tid) (g : Bool) (rows : BitVec 6) (cols : BitVec 6) (fa : BitVec 4) (fd :
    BitVec 4) (rnd : BitVec 2) (td : Fin 8) (ta : Fin 8) (gs1 : Reg5) (s : State) :
    Keeps m s (execTmuls h g rows cols fa fd rnd td ta gs1 s) := by simp [execTmuls, *]
@[simp] theorem execTadds_keep (h0 : m (.blk .GRN) = false) (h1 : m (.blk .RV) = false) (h2 : m (.blk .TLY) = false)
    (h3 : m .caches = false) (h4 : m .cores = false) (h5 : m .granary = false) (h6 : m .mem = false) (h7 : m .reeve =
    false) (h8 : m .threads = false) (h : Tid) (g : Bool) (rows : BitVec 6) (cols : BitVec 6) (fa : BitVec 4) (fd :
    BitVec 4) (rnd : BitVec 2) (td : Fin 8) (ta : Fin 8) (gs1 : Reg5) (s : State) :
    Keeps m s (execTadds h g rows cols fa fd rnd td ta gs1 s) := by simp [execTadds, *]
@[simp] theorem execTget_keep (h0 : m (.blk .GRN) = false) (h1 : m (.blk .RV) = false) (h2 : m (.blk .TLY) = false)
    (h3 : m .caches = false) (h4 : m .cores = false) (h5 : m .granary = false) (h6 : m .mem = false) (h7 : m .reeve =
    false) (h8 : m .threads = false) (h : Tid) (g : Bool) (gd : Reg5) (ta : Fin 8) (gs1 : Reg5) (s : State) :
    Keeps m s (execTget h g gd ta gs1 s) := by simp [execTget, *]
@[simp] theorem execTput_keep (h0 : m (.blk .GRN) = false) (h1 : m (.blk .RV) = false) (h2 : m (.blk .TLY) = false)
    (h3 : m .caches = false) (h4 : m .cores = false) (h5 : m .granary = false) (h6 : m .mem = false) (h7 : m .reeve =
    false) (h8 : m .threads = false) (h : Tid) (g : Bool) (td : Fin 8) (gs1 : Reg5) (gs2 : Reg5) (s : State) :
    Keeps m s (execTput h g td gs1 gs2 s) := by simp [execTput, *]
@[simp] theorem execTmmp_keep (h0 : m (.blk .GRN) = false) (h1 : m (.blk .RV) = false) (h2 : m (.blk .TLY) = false)
    (h3 : m .caches = false) (h4 : m .cores = false) (h5 : m .granary = false) (h6 : m .mem = false) (h7 : m .reeve =
    false) (h8 : m .threads = false) (h : Tid) (g : Bool) (rows : BitVec 6) (cols : BitVec 6) (kk : BitVec 6) (fa :
    BitVec 4) (fb : BitVec 4) (rnd : BitVec 2) (x : BitVec 4) (td : Fin 8) (ta : Fin 8) (tb : Fin 8) (s : State) :
    Keeps m s (execTmmp h g rows cols kk fa fb rnd x td ta tb s) := by simp [execTmmp, *]
@[simp] theorem execTmma_keep (h0 : m (.blk .GRN) = false) (h1 : m (.blk .RV) = false) (h2 : m (.blk .TLY) = false)
    (h3 : m .caches = false) (h4 : m .cores = false) (h5 : m .granary = false) (h6 : m .mem = false) (h7 : m .reeve =
    false) (h8 : m .threads = false) (h : Tid) (g : Bool) (rows : BitVec 6) (cols : BitVec 6) (kk : BitVec 6) (fa :
    BitVec 4) (fb : BitVec 4) (rnd : BitVec 2) (grp : Fin 16) (ta : Fin 8) (tb : Fin 8) (s : State) :
    Keeps m s (execTmma h g rows cols kk fa fb rnd grp ta tb s) := by simp [execTmma, *]
@[simp] theorem State.tileExport_keep (h0 : m (.blk .GRN) = false) (h1 : m (.blk .RV) = false) (h2 : m (.blk .TLY) =
    false) (h3 : m .caches = false) (h4 : m .cores = false) (h5 : m .granary = false) (h6 : m .mem = false) (h7 : m
    .reeve = false) (h8 : m .threads = false) (s : State) (fn : TFn) (h : Tid) (g : Bool) (rows : BitVec 6) (cols :
    BitVec 6) (fa : BitVec 4) (fb : BitVec 4) (rnd : BitVec 2) (x : BitVec 4) (grp : Fin 16) (td : Fin 8) (ta : Fin 8)
    (gs1 : Reg5) :
    Keeps m s (State.tileExport s fn h g rows cols fa fb rnd x grp td ta gs1) := by simp [State.tileExport, *]
@[simp] theorem execTexport_keep (h0 : m (.blk .GRN) = false) (h1 : m (.blk .RV) = false) (h2 : m (.blk .TLY) = false)
    (h3 : m .caches = false) (h4 : m .cores = false) (h5 : m .granary = false) (h6 : m .mem = false) (h7 : m .reeve =
    false) (h8 : m .threads = false) (h : Tid) (g : Bool) (rows : BitVec 6) (cols : BitVec 6) (fa : BitVec 4) (fb :
    BitVec 4) (rnd : BitVec 2) (x : BitVec 4) (grp : Fin 16) (td : Fin 8) (ta : Fin 8) (gs1 : Reg5) (s : State) :
    Keeps m s (execTexport h g rows cols fa fb rnd x grp td ta gs1 s) := by simp [execTexport, *]
@[simp] theorem execTexportC_keep (h0 : m (.blk .GRN) = false) (h1 : m (.blk .RV) = false) (h2 : m (.blk .TLY) =
    false) (h3 : m .caches = false) (h4 : m .cores = false) (h5 : m .granary = false) (h6 : m .mem = false) (h7 : m
    .reeve = false) (h8 : m .threads = false) (h : Tid) (g : Bool) (rows : BitVec 6) (cols : BitVec 6) (fa : BitVec 4)
    (fb : BitVec 4) (rnd : BitVec 2) (x : BitVec 4) (grp : Fin 16) (td : Fin 8) (ta : Fin 8) (gs1 : Reg5) (s : State)
    :
    Keeps m s (execTexportC h g rows cols fa fb rnd x grp td ta gs1 s) := by simp [execTexportC, *]
@[simp] theorem State.tileGroup_keep (h0 : m (.blk .GRN) = false) (h1 : m (.blk .RV) = false) (h2 : m (.blk .TLY) =
    false) (h3 : m .caches = false) (h4 : m .cores = false) (h5 : m .granary = false) (h6 : m .mem = false) (h7 : m
    .reeve = false) (h8 : m .threads = false) (s : State) (fn : TFn) (h : Tid) (g : Bool) (rows : BitVec 6) (cols :
    BitVec 6) (fa : BitVec 4) (grp : Fin 16) (gs1 : Reg5) :
    Keeps m s (State.tileGroup s fn h g rows cols fa grp gs1) := by simp [State.tileGroup, *]
@[simp] theorem execTopen_keep (h0 : m (.blk .GRN) = false) (h1 : m (.blk .RV) = false) (h2 : m (.blk .TLY) = false)
    (h3 : m .caches = false) (h4 : m .cores = false) (h5 : m .granary = false) (h6 : m .mem = false) (h7 : m .reeve =
    false) (h8 : m .threads = false) (h : Tid) (g : Bool) (rows : BitVec 6) (cols : BitVec 6) (fa : BitVec 4) (grp :
    Fin 16) (gs1 : Reg5) (s : State) :
    Keeps m s (execTopen h g rows cols fa grp gs1 s) := by simp [execTopen, *]
@[simp] theorem execTclose_keep (h0 : m (.blk .GRN) = false) (h1 : m (.blk .RV) = false) (h2 : m (.blk .TLY) = false)
    (h3 : m .caches = false) (h4 : m .cores = false) (h5 : m .granary = false) (h6 : m .mem = false) (h7 : m .reeve =
    false) (h8 : m .threads = false) (h : Tid) (g : Bool) (grp : Fin 16) (s : State) :
    Keeps m s (execTclose h g grp s) := by simp [execTclose, *]
@[simp] theorem execTsave_keep (h0 : m (.blk .GRN) = false) (h1 : m (.blk .RV) = false) (h2 : m (.blk .TLY) = false)
    (h3 : m .caches = false) (h4 : m .cores = false) (h5 : m .granary = false) (h6 : m .mem = false) (h7 : m .reeve =
    false) (h8 : m .threads = false) (h : Tid) (g : Bool) (rows : BitVec 6) (cols : BitVec 6) (grp : Fin 16) (gs1 :
    Reg5) (s : State) :
    Keeps m s (execTsave h g rows cols grp gs1 s) := by simp [execTsave, *]
@[simp] theorem execTrestore_keep (h0 : m (.blk .GRN) = false) (h1 : m (.blk .RV) = false) (h2 : m (.blk .TLY) =
    false) (h3 : m .caches = false) (h4 : m .cores = false) (h5 : m .granary = false) (h6 : m .mem = false) (h7 : m
    .reeve = false) (h8 : m .threads = false) (h : Tid) (g : Bool) (rows : BitVec 6) (cols : BitVec 6) (grp : Fin 16)
    (gs1 : Reg5) (s : State) :
    Keeps m s (execTrestore h g rows cols grp gs1 s) := by simp [execTrestore, *]
@[simp] theorem execTbind_keep (h0 : m (.blk .GRN) = false) (h1 : m (.blk .RV) = false) (h2 : m (.blk .TLY) = false)
    (h3 : m .caches = false) (h4 : m .cores = false) (h5 : m .granary = false) (h6 : m .mem = false) (h7 : m .reeve =
    false) (h8 : m .threads = false) (h : Tid) (g : Bool) (rows : BitVec 6) (cols : BitVec 6) (grp : Fin 16) (gs1 :
    Reg5) (s : State) :
    Keeps m s (execTbind h g rows cols grp gs1 s) := by simp [execTbind, *]
@[simp] theorem State.tileTake_keep (h0 : m .cores = false) (h1 : m .threads = false) (h2 : m .tiles = false) (s :
    State) (h : ℕ) (i : TileIns) (segs : List TSeg) :
    (State.tileTake s h i segs).keep m = s.keep m := by simp [State.tileTake, *]
@[simp] theorem execTileAccept_keep (h0 : m .cores = false) (h1 : m .threads = false) (h2 : m .tiles = false) (h :
    Tid) (s : State) :
    Keeps m s (execTileAccept h s) := by unfold execTileAccept; (repeat' split) <;> simp [*]
@[simp] theorem State.poisonGroup_keep (h0 : m (.blk .FUR) = false) (h1 : m (.blk .RV) = false) (h2 : m .reeve =
    false) (s : State) (n : ℕ) (g : ℕ) (h : ℕ) :
    (State.poisonGroup s n g h).keep m = s.keep m := by simp [State.poisonGroup, *]
@[simp] theorem State.siloEcc_keep (h0 : m (.blk .FUR) = false) (h1 : m (.blk .RV) = false) (h2 : m .reeve = false) (s
    : State) (n : ℕ) (e : TileEntry) (ecc : SiloEcc) :
    (State.siloEcc s n e ecc).keep m = s.keep m := by unfold State.siloEcc; (repeat' split) <;> simp [*]
@[simp] theorem execTileDispatch_keep (h0 : m (.blk .FUR) = false) (h1 : m (.blk .RV) = false) (h2 : m .reeve = false)
    (h3 : m .tiles = false) (n : Cid) (ecc : SiloEcc) (s : State) :
    Keeps m s (execTileDispatch n ecc s) := by simp only [execTileDispatch]; (repeat' split) <;> simp [*]
@[simp] theorem State.writeTd_keep (h0 : m .tiles = false) (s : State) (n : ℕ) (e : TileEntry) (code : ℕ) (m_ : List
    (List ℕ)) :
    (State.writeTd s n e code m_).keep m = s.keep m := by simp [State.writeTd, *]
@[simp] theorem State.restoreGroup_keep (h0 : m (.blk .FUR) = false) (h1 : m (.blk .RV) = false) (h2 : m .reeve =
    false) (h3 : m .tiles = false) (s : State) (n : ℕ) (e : TileEntry) :
    (State.restoreGroup s n e).keep m = s.keep m := by simp [State.restoreGroup, *]
@[simp] theorem State.tileEffect_keep (h0 : m (.blk .FUR) = false) (h1 : m (.blk .RV) = false) (h2 : m .reeve = false)
    (h3 : m .threads = false) (h4 : m .tiles = false) (s : State) (n : ℕ) (e : TileEntry) :
    (State.tileEffect s n e).1.keep m = s.keep m := by simp only [State.tileEffect]; (repeat' split) <;> simp [*]
@[simp] theorem State.wakeTsync_keep (h0 : m .threads = false) (s : State) (h : ℕ) :
    (State.wakeTsync s h).keep m = s.keep m := by unfold State.wakeTsync; (repeat' split) <;> simp [*]
@[simp] theorem execTsync_keep (h0 : m .threads = false) (h : Tid) (g : Bool) (s : State) :
    Keeps m s (execTsync h g s) := by simp [execTsync, *]
@[simp] theorem execTileComplete_keep (h0 : m (.blk .FUR) = false) (h1 : m (.blk .RV) = false) (h2 : m .reeve = false)
    (h3 : m .threads = false) (h4 : m .tiles = false) (n : Cid) (k : Fin 16) (ecc : SiloEcc) (s : State) :
    Keeps m s (execTileComplete n k ecc s) := by simp only [execTileComplete]; (repeat' split) <;> simp [*]
@[simp] theorem State.setEntryAt_keep (h0 : m .tiles = false) (s : State) (n : ℕ) (k : ℕ) (e : TileEntry) :
    (State.setEntryAt s n k e).keep m = s.keep m := by simp [State.setEntryAt, *]
@[simp] theorem State.tldFails_keep (h0 : m .threads = false) (h1 : m .tiles = false) (s : State) (n : ℕ) (e :
    TileEntry) (code : ℕ) (va : Word) :
    (State.tldFails s n e code va).keep m = s.keep m := by simp [State.tldFails, *]
@[simp] theorem State.segRead_keep (h0 : m (.blk .GRN) = false) (h1 : m (.blk .RV) = false) (h2 : m (.blk .TLY) =
    false) (h3 : m .caches = false) (h4 : m .cores = false) (h5 : m .fresh = false) (h6 : m .granary = false) (h7 : m
    .mem = false) (h8 : m .reeve = false) (h9 : m .threads = false) (h10 : m .tiles = false) (s : State) (n : ℕ) (k :
    ℕ) (e : TileEntry) (j : ℕ) (g : TSeg) (res : MemRes) :
    (State.segRead s n k e j g res).keep m = s.keep m := by simp only [State.segRead]; (repeat' split) <;> simp [*]
@[simp] theorem State.segWrite_keep (h0 : m (.blk .FUR) = false) (h1 : m (.blk .GRN) = false) (h2 : m (.blk .RV) =
    false) (h3 : m (.blk .TLY) = false) (h4 : m .caches = false) (h5 : m .cores = false) (h6 : m .granary = false) (h7
    : m .mem = false) (h8 : m .reeve = false) (h9 : m .seedbox = false) (h10 : m .threads = false) (h11 : m .tiles =
    false) (s : State) (n : ℕ) (k : ℕ) (e : TileEntry) (j : ℕ) (g : TSeg) (res : MemRes) :
    (State.segWrite s n k e j g res).keep m = s.keep m := by simp [State.segWrite, *]
@[simp] theorem State.segsArrive_keep (h0 : m .granary = false) (s : State) (n : ℕ) (e : TileEntry) (js : List ℕ) :
    (State.segsArrive s n e js).keep m = s.keep m := by
  unfold State.segsArrive
  repeat' (first | (simp [*]; done) | split | (refine (foldl_keep (fun s a => ?_) _ _).trans ?_) | (simp only [Prod.ext_iff] at *; casesm* _ ∧ _; subst_vars; simp [*]; done) | (simp only [keeps_next]) | simp [*])
@[simp] theorem execTldSegment_keep (h0 : m (.blk .GRN) = false) (h1 : m (.blk .RV) = false) (h2 : m (.blk .TLY) =
    false) (h3 : m .caches = false) (h4 : m .cores = false) (h5 : m .fresh = false) (h6 : m .granary = false) (h7 : m
    .mem = false) (h8 : m .reeve = false) (h9 : m .threads = false) (h10 : m .tiles = false) (n : Cid) (k : Fin 16)
    (res : MemRes) (s : State) :
    Keeps m s (execTldSegment n k res s) := by simp only [execTldSegment]; (repeat' split) <;> simp [*]
@[simp] theorem execTstRowAck_keep (h0 : m (.blk .FUR) = false) (h1 : m (.blk .GRN) = false) (h2 : m (.blk .RV) =
    false) (h3 : m (.blk .TLY) = false) (h4 : m .caches = false) (h5 : m .cores = false) (h6 : m .granary = false) (h7
    : m .mem = false) (h8 : m .reeve = false) (h9 : m .seedbox = false) (h10 : m .threads = false) (h11 : m .tiles =
    false) (n : Cid) (k : Fin 16) (res : MemRes) (s : State) :
    Keeps m s (execTstRowAck n k res s) := by simp only [execTstRowAck]; (repeat' split) <;> simp [*]

end Sys2Proof.Machine
end

