-- ==== Sys2Proof/Laws/KeepCsr.lean ====
section
/-! SUPPORT. What the operations and commands of Machine/Csr.lean keep: each changes only the facets
named in its hypotheses (`State.keep`). -/

namespace Sys2Proof.Machine

variable {m : Facet → Bool}


@[simp] theorem State.csrInstr_keep (h0 : m .threads = false) (s : State) (h : ℕ) (cmd : ℕ) (gd : Reg5) (csr : ℕ) (gs1
    : Reg5) (f : Option (Word → Word → Word)) :
    Keeps m s (State.csrInstr s h cmd gd csr gs1 f) := by unfold State.csrInstr; (repeat' split) <;> simp [*]
@[simp] theorem execCsrrd_keep (h0 : m .threads = false) (h : Tid) (gd : Reg5) (csr : BitVec 12) (s : State) :
    Keeps m s (execCsrrd h gd csr s) := by simp [execCsrrd, *]
@[simp] theorem execCsrswp_keep (h0 : m .threads = false) (h : Tid) (gd : Reg5) (csr : BitVec 12) (gs1 : Reg5) (s :
    State) :
    Keeps m s (execCsrswp h gd csr gs1 s) := by simp [execCsrswp, *]
@[simp] theorem execCsrset_keep (h0 : m .threads = false) (h : Tid) (gd : Reg5) (csr : BitVec 12) (gs1 : Reg5) (s :
    State) :
    Keeps m s (execCsrset h gd csr gs1 s) := by simp [execCsrset, *]
@[simp] theorem execCsrclr_keep (h0 : m .threads = false) (h : Tid) (gd : Reg5) (csr : BitVec 12) (gs1 : Reg5) (s :
    State) :
    Keeps m s (execCsrclr h gd csr gs1 s) := by simp [execCsrclr, *]

end Sys2Proof.Machine
end

