-- ==== Sys2Proof/Laws/KeepTrace.lean ====
section
/-! SUPPORT. What the operations and commands of Machine/Trace.lean keep: each changes only the facets
named in its hypotheses (`State.keep`). -/

namespace Sys2Proof.Machine

variable {m : Facet → Bool}


@[simp] theorem State.setUnit_keep (h0 : m .gln = false) (s : State) (c : ℕ) (u : TraceUnit) :
    (State.setUnit s c u).keep m = s.keep m := by simp [State.setUnit, *]
@[simp] theorem State.trBytes_keep (h0 : m (.blk .GLN) = false) (h1 : m .gln = false) (s : State) (c : ℕ) (bytes :
    List Byte) :
    (State.trBytes s c bytes).keep m = s.keep m := by simp [State.trBytes, *]
@[simp] theorem State.trFlushBranch_keep (h0 : m (.blk .GLN) = false) (h1 : m .gln = false) (s : State) (c : ℕ) (j :
    ℕ) :
    (State.trFlushBranch s c j).keep m = s.keep m := by simp [State.trFlushBranch, *]
@[simp] theorem State.trSync_keep (h0 : m (.blk .GLN) = false) (h1 : m .gln = false) (s : State) (h : ℕ) :
    (State.trSync s h).keep m = s.keep m := by simp [State.trSync, *]
@[simp] theorem State.trStamp_keep (h0 : m (.blk .GLN) = false) (h1 : m .gln = false) (s : State) (c : ℕ) (j : ℕ) :
    (State.trStamp s c j).keep m = s.keep m := by simp [State.trStamp, *]
@[simp] theorem State.trPacket_keep (h0 : m (.blk .GLN) = false) (h1 : m .gln = false) (s : State) (h : ℕ) (type : ℕ)
    (body : List Byte) (timestamped : Bool) :
    (State.trPacket s h type body timestamped).keep m = s.keep m := by simp [State.trPacket, *]
@[simp] theorem State.trBranch_keep (h0 : m (.blk .GLN) = false) (h1 : m .gln = false) (s : State) (h : ℕ) (taken :
    Bool) :
    (State.trBranch s h taken).keep m = s.keep m := by simp [State.trBranch, *]
@[simp] theorem State.trTarget_keep (h0 : m (.blk .GLN) = false) (h1 : m .gln = false) (s : State) (h : ℕ) (pc : Word)
    :
    (State.trTarget s h pc).keep m = s.keep m := by simp [State.trTarget, *]
@[simp] theorem State.trExcept_keep (h0 : m (.blk .GLN) = false) (h1 : m .gln = false) (s : State) (h : ℕ) (ring : ℕ)
    (code : ℕ) (pc : Word) :
    (State.trExcept s h ring code pc).keep m = s.keep m := by simp [State.trExcept, *]
@[simp] theorem State.trHalt_keep (h0 : m (.blk .GLN) = false) (h1 : m .gln = false) (s : State) (h : ℕ) (event : ℕ) :
    (State.trHalt s h event).keep m = s.keep m := by simp [State.trHalt, *]
@[simp] theorem State.trPark_keep (h0 : m (.blk .GLN) = false) (h1 : m .gln = false) (s : State) (h : ℕ) :
    (State.trPark s h).keep m = s.keep m := by simp [State.trPark, *]
@[simp] theorem State.trRescan_keep (h0 : m (.blk .GLN) = false) (h1 : m .gln = false) (s : State) (h : ℕ) :
    (State.trRescan s h).keep m = s.keep m := by simp [State.trRescan, *]
@[simp] theorem State.trUnsync_keep (h0 : m .gln = false) (s : State) (h : ℕ) :
    (State.trUnsync s h).keep m = s.keep m := by simp [State.trUnsync, *]
@[simp] theorem State.trRetire_keep (s : State) (h : ℕ) (s' : State) (hs_s' : s'.keep m = s.keep m) :
    (State.trRetire s h s').keep m = s.keep m := by simp [State.trRetire, *]
@[simp] theorem State.trSystem_keep (h0 : m (.blk .GLN) = false) (h1 : m .gln = false) (s : State) (type : ℕ) (body :
    List Byte) :
    (State.trSystem s type body).keep m = s.keep m := by simp [State.trSystem, *]

end Sys2Proof.Machine
end

