-- ==== Sys2Proof/Laws/KeepExceptions.lean ====
section
/-! SUPPORT. What the operations and commands of Machine/Exceptions.lean keep: each changes only the facets
named in its hypotheses (`State.keep`). -/

namespace Sys2Proof.Machine

variable {m : Facet → Bool}


@[simp] theorem State.dfWrite_keep (h0 : m .cores = false) (h1 : m .seedbox = false) (s : State) (h : ℕ) (off : ℕ)
    (words : List ℕ) :
    (State.dfWrite s h off words).keep m = s.keep m := by simp [State.dfWrite, *]
@[simp] theorem State.pushFrame_keep (h0 : m (.blk .GRN) = false) (h1 : m (.blk .RV) = false) (h2 : m (.blk .TLY) =
    false) (h3 : m .caches = false) (h4 : m .cores = false) (h5 : m .granary = false) (h6 : m .mem = false) (h7 : m
    .reeve = false) (h8 : m .seedbox = false) (s : State) (h : ℕ) (d : ℕ) (frame : List Byte) (res : MemRes) :
    (State.pushFrame s h d frame res).2.keep m = s.keep m := by
  unfold State.pushFrame; dsimp only; (repeat' split) <;> (try simp only [Prod.ext_iff] at *) <;> (try casesm* _ ∧ _) <;> (try subst_vars) <;> (try simp [*])
@[simp] theorem State.fetchBytes_keep (h0 : m (.blk .GRN) = false) (h1 : m (.blk .RV) = false) (h2 : m (.blk .TLY) =
    false) (h3 : m .caches = false) (h4 : m .cores = false) (h5 : m .granary = false) (h6 : m .mem = false) (h7 : m
    .reeve = false) (s : State) (h : ℕ) (pa : ℕ) (uc : Bool) (res : MemRes) :
    (State.fetchBytes s h pa uc res).2.keep m = s.keep m := by
  unfold State.fetchBytes; dsimp only; (repeat' split) <;> (try simp only [Prod.ext_iff] at *) <;> (try casesm* _ ∧ _) <;> (try subst_vars) <;> (try simp [*])
@[simp] theorem State.fetchWord_keep (h0 : m (.blk .GRN) = false) (h1 : m (.blk .RV) = false) (h2 : m (.blk .TLY) =
    false) (h3 : m .caches = false) (h4 : m .cores = false) (h5 : m .granary = false) (h6 : m .mem = false) (h7 : m
    .reeve = false) (s : State) (h : ℕ) (va : Word) (res : MemRes) :
    (State.fetchWord s h va res).2.keep m = s.keep m := by
  unfold State.fetchWord; (repeat' split) <;> (try simp only [Prod.ext_iff] at *) <;> (try casesm* _ ∧ _) <;> (try subst_vars) <;> simp [*]
@[simp] theorem State.fetchInstr_keep (h0 : m (.blk .GRN) = false) (h1 : m (.blk .RV) = false) (h2 : m (.blk .TLY) =
    false) (h3 : m .caches = false) (h4 : m .cores = false) (h5 : m .granary = false) (h6 : m .mem = false) (h7 : m
    .reeve = false) (s : State) (h : ℕ) (va : Word) (res : MemRes) :
    (State.fetchInstr s h va res).2.keep m = s.keep m := by
  unfold State.fetchInstr; (repeat' split) <;> (try simp only [Prod.ext_iff] at *) <;> (try casesm* _ ∧ _) <;> (try subst_vars) <;> simp [*]
@[simp] theorem State.fetchOk_keep (h0 : m (.blk .GRN) = false) (h1 : m (.blk .RV) = false) (h2 : m (.blk .TLY) =
    false) (h3 : m .caches = false) (h4 : m .cores = false) (h5 : m .granary = false) (h6 : m .mem = false) (h7 : m
    .reeve = false) (s : State) (h : ℕ) (va : Word) (res : MemRes) :
    (State.fetchOk s h va res).2.keep m = s.keep m := by
  unfold State.fetchOk
  repeat' (first | (simp [*]; done) | split | (refine (foldl_keep (fun s a => ?_) _ _).trans ?_) | (simp only [Prod.ext_iff] at *; casesm* _ ∧ _; subst_vars; simp [*]; done) | (simp only [keeps_next]) | simp [*])
@[simp] theorem State.doubleFault_keep (h0 : m (.blk .GLN) = false) (h1 : m .cores = false) (h2 : m .gln = false) (h3
    : m .seedbox = false) (h4 : m .threads = false) (s : State) (h : ℕ) (code : ℕ) (orig : Word) (resume : Word)
    (oeaddr : Word) (push : Word) :
    (State.doubleFault s h code orig resume oeaddr push).keep m = s.keep m := by simp [State.doubleFault, *]
@[simp] theorem State.tgBegin_keep (h0 : m .clk = false) (s : State) (n : ℕ) :
    (State.tgBegin s n).keep m = s.keep m := by unfold State.tgBegin; (repeat' split) <;> simp [*]
@[simp] theorem State.postArrives_keep (h0 : m .threads = false) (s : State) (h : ℕ) (dst : ℕ) (payload : Word) :
    (State.postArrives s h dst payload).2.keep m = s.keep m := by simp [State.postArrives, *]
@[simp] theorem State.landPost_keep (h0 : m .threads = false) (s : State) (h : ℕ) :
    (State.landPost s h).keep m = s.keep m := by unfold State.landPost; (repeat' split) <;> simp [*]
@[simp] theorem State.lockup_keep (h0 : m (.blk .FUR) = false) (h1 : m .threads = false) (s : State) (n : ℕ) :
    (State.lockup s n).keep m = s.keep m := by simp [State.lockup, *]
@[simp] theorem State.loopsLocked_keep (h0 : m .loops = false) (s : State) (n : ℕ) :
    (State.loopsLocked s n).keep m = s.keep m := by simp [State.loopsLocked, *]
@[simp] theorem State.stopSowing_keep (h0 : m (.blk .FUR) = false) (h1 : m .drill = false) (s : State) (e : ℕ) (x :
    Entry) (w : Sowing) (r : Reply) :
    (State.stopSowing s e x w r).keep m = s.keep m := by unfold State.stopSowing; (repeat' split) <;> simp [*]
@[simp] theorem State.stopSowingsOn_keep (h0 : m (.blk .FUR) = false) (h1 : m .drill = false) (s : State) (n : ℕ) (r :
    Reply) :
    (State.stopSowingsOn s n r).keep m = s.keep m := by
  unfold State.stopSowingsOn
  repeat' (first | (simp [*]; done) | split | (refine (foldl_keep (fun s a => ?_) _ _).trans ?_) | (simp only [Prod.ext_iff] at *; casesm* _ ∧ _; subst_vars; simp [*]; done) | (simp only [keeps_next]) | simp [*])
@[simp] theorem State.applyPolicy_keep (h0 : m (.blk .FUR) = false) (h1 : m (.blk .RV) = false) (h2 : m .clk = false)
    (h3 : m .drill = false) (h4 : m .loops = false) (h5 : m .reeve = false) (h6 : m .threads = false) (s : State) (h :
    ℕ) (img : Word) :
    (State.applyPolicy s h img).keep m = s.keep m := by simp [State.applyPolicy, *]
@[simp] theorem State.thirdFault_keep (h0 : m (.blk .FUR) = false) (h1 : m (.blk .RV) = false) (h2 : m .clk = false)
    (h3 : m .cores = false) (h4 : m .drill = false) (h5 : m .loops = false) (h6 : m .reeve = false) (h7 : m .seedbox =
    false) (h8 : m .threads = false) (s : State) (h : ℕ) (img : Word) (epc : Word) (eaddr : Word) :
    (State.thirdFault s h img epc eaddr).keep m = s.keep m := by simp [State.thirdFault, *]
@[simp] theorem State.takeException_keep (h0 : m (.blk .FUR) = false) (h1 : m (.blk .GLN) = false) (h2 : m (.blk .GRN)
    = false) (h3 : m (.blk .RV) = false) (h4 : m (.blk .TLY) = false) (h5 : m .caches = false) (h6 : m .clk = false)
    (h7 : m .cores = false) (h8 : m .drill = false) (h9 : m .gln = false) (h10 : m .granary = false) (h11 : m .loops =
    false) (h12 : m .mem = false) (h13 : m .reeve = false) (h14 : m .seedbox = false) (h15 : m .threads = false) (s :
    State) (h : ℕ) (x : Exc) (res : MemRes) (ent : MemRes) :
    (State.takeException s h x res ent).keep m = s.keep m := by
  unfold State.takeException; dsimp only; (repeat' split) <;> (try simp only [Prod.ext_iff] at *) <;> (try casesm* _ ∧ _) <;> (try subst_vars) <;> (try simp [*])
@[simp] theorem State.fetchExc_keep (h0 : m (.blk .GRN) = false) (h1 : m (.blk .RV) = false) (h2 : m (.blk .TLY) =
    false) (h3 : m .caches = false) (h4 : m .cores = false) (h5 : m .granary = false) (h6 : m .mem = false) (h7 : m
    .reeve = false) (s : State) (h : Tid) (res : MemRes) :
    (State.fetchExc s h res).2.keep m = s.keep m := by
  unfold State.fetchExc; dsimp only; (repeat' split) <;> (try simp only [Prod.ext_iff] at *) <;> (try casesm* _ ∧ _) <;> (try subst_vars) <;> (try simp [*])
@[simp] theorem State.enter_keep (h0 : m (.blk .FUR) = false) (h1 : m (.blk .GLN) = false) (h2 : m (.blk .GRN) =
    false) (h3 : m (.blk .RV) = false) (h4 : m (.blk .TLY) = false) (h5 : m .caches = false) (h6 : m .clk = false) (h7
    : m .cores = false) (h8 : m .drill = false) (h9 : m .gln = false) (h10 : m .granary = false) (h11 : m .loops =
    false) (h12 : m .mem = false) (h13 : m .reeve = false) (h14 : m .seedbox = false) (h15 : m .threads = false) (s :
    State) (h : ℕ) (x : Exc) (res : MemRes) (ent : MemRes) :
    (State.enter s h x res ent).keep m = s.keep m := by simp [State.enter, *]
@[simp] theorem execExceptionEntry_keep (h0 : m (.blk .FUR) = false) (h1 : m (.blk .GLN) = false) (h2 : m (.blk .GRN)
    = false) (h3 : m (.blk .RV) = false) (h4 : m (.blk .TLY) = false) (h5 : m .caches = false) (h6 : m .clk = false)
    (h7 : m .cores = false) (h8 : m .drill = false) (h9 : m .gln = false) (h10 : m .granary = false) (h11 : m .loops =
    false) (h12 : m .mem = false) (h13 : m .reeve = false) (h14 : m .seedbox = false) (h15 : m .threads = false) (h :
    Tid) (fetch : Option MemRes) (res : MemRes) (ent : MemRes) (s : State) :
    Keeps m s (execExceptionEntry h fetch res ent s) := by
  unfold execExceptionEntry; dsimp only; (repeat' split) <;> (try simp only [Prod.ext_iff] at *) <;> (try casesm* _ ∧ _) <;> (try subst_vars) <;> (try simp [*])
@[simp] theorem execEventDelivery_keep (h0 : m (.blk .FUR) = false) (h1 : m .threads = false) (h : Tid) (s : State) :
    Keeps m s (execEventDelivery h s) := by unfold execEventDelivery; (repeat' split) <;> simp [*]
@[simp] theorem execXpendCancel_keep (h0 : m (.blk .FUR) = false) (agent : Agent) (h : Tid) (mask : BitVec 4) (s :
    State) :
    Keeps m s (execXpendCancel agent h mask s) := by simp [execXpendCancel, *]
@[simp] theorem execTrap_keep (h0 : m (.blk .FUR) = false) (h1 : m (.blk .GLN) = false) (h2 : m (.blk .GRN) = false)
    (h3 : m (.blk .RV) = false) (h4 : m (.blk .TLY) = false) (h5 : m .caches = false) (h6 : m .clk = false) (h7 : m
    .cores = false) (h8 : m .drill = false) (h9 : m .gln = false) (h10 : m .granary = false) (h11 : m .loops = false)
    (h12 : m .mem = false) (h13 : m .reeve = false) (h14 : m .seedbox = false) (h15 : m .threads = false) (h : Tid) (n
    : BitVec 8) (res : MemRes) (ent : MemRes) (s : State) :
    Keeps m s (execTrap h n res ent s) := by
  unfold execTrap
  repeat' (first | (simp [*]; done) | split | (refine (foldl_keep (fun s a => ?_) _ _).trans ?_) | (apply State.instr_keep <;> (first | (simp only [h0, h1, h2, h3, h4, h5, h6, h7, h8, h9, h10, h11, h12, h13, h14, h15]; done) | (intros; dsimp only) | intros)) | (simp only [Prod.ext_iff] at *; casesm* _ ∧ _; subst_vars; simp [*]; done) | (simp only [keeps_next]) | simp [*])
@[simp] theorem State.gateFault_keep (h0 : m .threads = false) (s : State) (h : ℕ) (n : ℕ) (entry : Word) :
    (State.gateFault s h n entry).keep m = s.keep m := by simp [State.gateFault, *]
@[simp] theorem State.gateEntry_keep (h0 : m (.blk .GRN) = false) (h1 : m (.blk .RV) = false) (h2 : m (.blk .TLY) =
    false) (h3 : m .caches = false) (h4 : m .cores = false) (h5 : m .granary = false) (h6 : m .mem = false) (h7 : m
    .reeve = false) (s : State) (h : ℕ) (va : Word) (res : MemRes) :
    (State.gateEntry s h va res).2.keep m = s.keep m := by
  unfold State.gateEntry; (repeat' split) <;> (try simp only [Prod.ext_iff] at *) <;> (try casesm* _ ∧ _) <;> (try subst_vars) <;> simp [*]
@[simp] theorem State.gateTaken_keep (h0 : m (.blk .GLN) = false) (h1 : m (.blk .GRN) = false) (h2 : m (.blk .RV) =
    false) (h3 : m (.blk .TLY) = false) (h4 : m .caches = false) (h5 : m .cores = false) (h6 : m .gln = false) (h7 : m
    .granary = false) (h8 : m .mem = false) (h9 : m .reeve = false) (h10 : m .seedbox = false) (h11 : m .threads =
    false) (s : State) (h : ℕ) (d : ℕ) (target : ℕ) (n : ℕ) (push : MemRes) :
    (State.gateTaken s h d target n push).keep m = s.keep m := by
  unfold State.gateTaken; dsimp only; (repeat' split) <;> (try simp only [Prod.ext_iff] at *) <;> (try casesm* _ ∧ _) <;> (try subst_vars) <;> (try simp [*])
@[simp] theorem execGate_keep (h0 : m (.blk .GLN) = false) (h1 : m (.blk .GRN) = false) (h2 : m (.blk .RV) = false)
    (h3 : m (.blk .TLY) = false) (h4 : m .caches = false) (h5 : m .cores = false) (h6 : m .gln = false) (h7 : m
    .granary = false) (h8 : m .mem = false) (h9 : m .reeve = false) (h10 : m .seedbox = false) (h11 : m .threads =
    false) (h : Tid) (n : BitVec 8) (res : MemRes) (push : MemRes) (s : State) :
    Keeps m s (execGate h n res push s) := by
  refine State.instr_keep (m := m) _ _ _ fun t s => ?_; dsimp only; (repeat' split) <;> (try simp only [Prod.ext_iff] at *) <;> (try casesm* _ ∧ _) <;> (try subst_vars) <;> simp [*]
@[simp] theorem State.readFrame_keep (h0 : m (.blk .GRN) = false) (h1 : m (.blk .RV) = false) (h2 : m (.blk .TLY) =
    false) (h3 : m .caches = false) (h4 : m .cores = false) (h5 : m .granary = false) (h6 : m .mem = false) (h7 : m
    .reeve = false) (s : State) (h : ℕ) (res : MemRes) :
    (State.readFrame s h res).2.keep m = s.keep m := by
  unfold State.readFrame; dsimp only; (repeat' split) <;> (try simp only [Prod.ext_iff] at *) <;> (try casesm* _ ∧ _) <;> (try subst_vars) <;> (try simp [*])
@[simp] theorem execXret_keep (h0 : m (.blk .GLN) = false) (h1 : m (.blk .GRN) = false) (h2 : m (.blk .RV) = false)
    (h3 : m (.blk .TLY) = false) (h4 : m .caches = false) (h5 : m .cores = false) (h6 : m .gln = false) (h7 : m
    .granary = false) (h8 : m .mem = false) (h9 : m .reeve = false) (h10 : m .seedbox = false) (h11 : m .threads =
    false) (h : Tid) (res : MemRes) (s : State) :
    Keeps m s (execXret h res s) := by
  refine State.instr_keep (m := m) _ _ _ fun t s => ?_; dsimp only; (repeat' split) <;> (try simp only [Prod.ext_iff] at *) <;> (try casesm* _ ∧ _) <;> (try subst_vars) <;> simp [*]
@[simp] theorem execDret_keep (h0 : m (.blk .GLN) = false) (h1 : m .gln = false) (h2 : m .threads = false) (h : Tid)
    (s : State) :
    Keeps m s (execDret h s) := by
  refine State.instr_keep (m := m) _ _ _ fun t s => ?_; dsimp only; (repeat' split) <;> (try simp only [Prod.ext_iff] at *) <;> (try casesm* _ ∧ _) <;> (try subst_vars) <;> simp [*]
@[simp] theorem execBrk_keep (h0 : m (.blk .GLN) = false) (h1 : m .gln = false) (h2 : m .threads = false) (h : Tid) (s
    : State) :
    Keeps m s (execBrk h s) := by simp [execBrk, *]

end Sys2Proof.Machine
end

