-- ==== Sys2Proof/Laws/Project.lean ====
section
/-! SUPPORT. What two states that agree on a part of the state (`State.keep`) have in common, part by part. -/

namespace Sys2Proof.Machine

variable {m : Facet → Bool} {s t : State}

/-- One part alone. -/
def Facet.only (p q : Facet) : Bool := decide (q = p)

@[simp] theorem Facet.only_self (p : Facet) : Facet.only p p = true := by simp [Facet.only]

/-- Every other part is outside it. -/
@[simp] theorem Facet.only_ne {p q : Facet} (h : q ≠ p) : Facet.only p q = false := by simp [Facet.only, h]

theorem threads_of_keep (e : t.keep m = s.keep m) (h : m .threads = true) : t.threads = s.threads := by
  have := congrArg State.threads e
  simpa [State.keep, h] using this

theorem cores_of_keep (e : t.keep m = s.keep m) (h : m .cores = true) : t.cores = s.cores := by
  have := congrArg State.cores e
  simpa [State.keep, h] using this

theorem tiles_of_keep (e : t.keep m = s.keep m) (h : m .tiles = true) : t.tiles = s.tiles := by
  have := congrArg State.tiles e
  simpa [State.keep, h] using this

theorem caches_of_keep (e : t.keep m = s.keep m) (h : m .caches = true) : t.caches = s.caches := by
  have := congrArg State.caches e
  simpa [State.keep, h] using this

theorem mem_of_keep (e : t.keep m = s.keep m) (h : m .mem = true) : t.granary.mem = s.granary.mem := by
  have := congrArg (fun s : State => s.granary.mem) e
  simpa [State.keep, h] using this

theorem seedbox_of_keep (e : t.keep m = s.keep m) (h : m .seedbox = true) : t.seedbox = s.seedbox := by
  have := congrArg State.seedbox e
  simpa [State.keep, h] using this

theorem gln_of_keep (e : t.keep m = s.keep m) (h : m .gln = true) : t.gln = s.gln := by
  have := congrArg State.gln e
  simpa [State.keep, h] using this

theorem drill_of_keep (e : t.keep m = s.keep m) (h : m .drill = true) : t.drill = s.drill := by
  have := congrArg State.drill e
  simpa [State.keep, h] using this

theorem loops_of_keep (e : t.keep m = s.keep m) (h : m .loops = true) : t.loops = s.loops := by
  have := congrArg State.loops e
  simpa [State.keep, h] using this

theorem host_of_keep (e : t.keep m = s.keep m) (h : m .host = true) : t.host = s.host := by
  have := congrArg State.host e
  simpa [State.keep, h] using this

theorem links_of_keep (e : t.keep m = s.keep m) (h : m .links = true) : t.links = s.links := by
  have := congrArg State.links e
  simpa [State.keep, h] using this

theorem yoke_of_keep (e : t.keep m = s.keep m) (h : m .yoke = true) : t.yoke = s.yoke := by
  have := congrArg State.yoke e
  simpa [State.keep, h] using this

theorem acre_of_keep (e : t.keep m = s.keep m) (h : m .acre = true) : t.acre = s.acre := by
  have := congrArg State.acre e
  simpa [State.keep, h] using this

theorem boot_of_keep (e : t.keep m = s.keep m) (h : m .boot = true) : t.boot = s.boot := by
  have := congrArg State.boot e
  simpa [State.keep, h] using this

theorem isl_of_keep (e : t.keep m = s.keep m) (h : m .isl = true) : t.isl = s.isl := by
  have := congrArg State.isl e
  simpa [State.keep, h] using this

theorem reeve_of_keep (e : t.keep m = s.keep m) (h : m .reeve = true) : t.reeve = s.reeve := by
  have := congrArg State.reeve e
  simpa [State.keep, h] using this

theorem sent_of_keep (e : t.keep m = s.keep m) (h : m .sent = true) : t.sent = s.sent := by
  have := congrArg State.sent e
  simpa [State.keep, h] using this

theorem pending_of_keep (e : t.keep m = s.keep m) : t.pending = s.pending := by
  have := congrArg State.pending e
  simpa [State.keep] using this

theorem clk_of_keep (e : t.keep m = s.keep m) (h : m .clk = true) (hp : m .por = true) : t.clk = s.clk := by
  have := congrArg State.clk e
  simp only [State.keep, h, hp, if_true, Bool.true_and] at this
  exact this

/-- The power-on reset's pins and rails. -/
theorem por_of_keep (e : t.keep m = s.keep m) (hp : m .por = true) :
    t.clk.porstLow = s.clk.porstLow ∧ t.clk.porstHeld = s.clk.porstHeld ∧ t.clk.railOut = s.clk.railOut := by
  refine ⟨?_, ?_, ?_⟩
  · simpa [State.keep, hp] using congrArg (fun s : State => s.clk.porstLow) e
  · simpa [State.keep, hp] using congrArg (fun s : State => s.clk.porstHeld) e
  · simpa [State.keep, hp] using congrArg (fun s : State => s.clk.railOut) e

theorem find_filter_of {α : Type} {p : Nat × α → Bool} {k : Nat} (hp : ∀ x, p (k, x) = true) (l : List (Nat × α)) :
    find k (l.filter p) = find k l := by
  induction l with
  | nil => rfl
  | cons c r ih =>
    obtain ⟨a, x⟩ := c
    by_cases h : a = k
    · subst h; rw [List.filter_cons, hp, if_pos rfl, find_cons, find_cons]; simp
    · rw [find_cons, if_neg h, List.filter_cons]
      split
      · rw [find_cons, if_neg h, ih]
      · exact ih

/-- A register field. -/
theorem f_of_keep (e : t.keep m = s.keep m) {F : Fld} (hF : m (.blk F.blk) = true) (i : Nat) : t.f F i = s.f F i := by
  have hk : ∀ x : Nat, m (.blk (blkOf (((F.key i), x).1 % 4096))) = true := fun x => by
    have : F.key i % 4096 = F.id % 4096 := by simp [Fld.key]
    rw [this]; exact hF
  have := congrArg (fun s : State => find (F.key i) s.regs) e
  simp only [State.keep] at this
  rw [find_filter_of hk, find_filter_of hk] at this
  unfold State.f findD
  rw [this]

/-- A thread context. -/
theorem thread_of_keep (e : t.keep m = s.keep m) (h : m .threads = true) (k : Nat) : t.thread k = s.thread k := by
  unfold State.thread; rw [threads_of_keep e h]

end Sys2Proof.Machine
end

