-- ==== Sys2Proof/Laws/ExceptionEntry.lean ====
section
/-! SUPPORT. What taking an exception does to the thread contexts: the entry, the double-fault path, and that tracing and
the frame's accesses leave every context as it is. -/

namespace Sys2Proof.Machine

/-- Two states that agree on the contexts have the same contexts. -/
theorem thread_of_only {s t : State} (e : t.keep (Facet.only .threads) = s.keep (Facet.only .threads)) (k : Nat) :
    t.thread k = s.thread k := thread_of_keep e (Facet.only_self _) k

/-- Without STALL nothing is dropped for trace, so the instruction retires. -/
theorem State.trRetire_of_noStall {s : State} (hs : s.on GLN_TRC_CTL.STALL 0 = false) (h : Nat) (u : State) :
    s.trRetire h u = u := by simp [State.trRetire, hs]

theorem State.trExcept_thread (s : State) (h ring code : Nat) (pc : Word) (k : Nat) :
    (s.trExcept h ring code pc).thread k = s.thread k := thread_of_only (by simp) k
theorem State.trRescan_thread (s : State) (h k : Nat) : (s.trRescan h).thread k = s.thread k := thread_of_only (by simp) k
theorem State.trTarget_thread (s : State) (h : Nat) (pc : Word) (k : Nat) :
    (s.trTarget h pc).thread k = s.thread k := thread_of_only (by simp) k
theorem State.trHalt_thread (s : State) (h e k : Nat) : (s.trHalt h e).thread k = s.thread k :=
  thread_of_only (by simp) k
theorem State.dfWrite_thread (s : State) (h off : Nat) (w : List Nat) (k : Nat) :
    (s.dfWrite h off w).thread k = s.thread k := thread_of_only (by simp) k
theorem State.fetchOk_thread {s t : State} {h : Nat} {va : Word} {r : MemRes} {ok : Bool} (e : s.fetchOk h va r = (ok, t)) (k : Nat) :
    t.thread k = s.thread k :=
  thread_of_only ((congrArg (fun x : Bool × State => x.2.keep (Facet.only .threads)) e).symm.trans (by simp)) k
theorem State.pushFrame_thread {s t : State} {h d : Nat} {b : List Byte} {r : MemRes} {sp : Option Word}
    (e : s.pushFrame h d b r = (sp, t)) (k : Nat) : t.thread k = s.thread k :=
  thread_of_only ((congrArg (fun x : Option Word × State => x.2.keep (Facet.only .threads)) e).symm.trans (by simp)) k
theorem State.gateEntry_thread {s t : State} {h : Nat} {va : Word} {r : MemRes} {x : Option (Nat × Nat)}
    (e : s.gateEntry h va r = (x, t)) (k : Nat) : t.thread k = s.thread k :=
  thread_of_only ((congrArg (fun x : Option (Nat × Nat) × State => x.2.keep (Facet.only .threads)) e).symm.trans (by simp)) k
theorem State.readFrame_thread {s t : State} {h : Nat} {r : MemRes} {x : Sum Nat (List Byte)}
    (e : s.readFrame h r = (x, t)) (k : Nat) : t.thread k = s.thread k :=
  thread_of_only ((congrArg (fun x : Sum Nat (List Byte) × State => x.2.keep (Facet.only .threads)) e).symm.trans (by simp)) k

/-- The frame was pushed just below XSPd. -/
theorem State.pushFrame_sp {s t : State} {h d : Nat} {b : List Byte} {r : MemRes} {sp : Word}
    (e : s.pushFrame h d b r = (some sp, t)) : sp = (s.thread h).xspOf d - 64 := by
  unfold State.pushFrame at e
  dsimp only at e
  split at e
  · cases e
  · split at e
    · cases e
    · split at e
      · cases e
      · split at e
        · injection e with e1 e2; injection e1 with e1; exact e1.symm
        · cases e

/-- The double-fault path (R177), as the contexts see it. -/
theorem State.doubleFault_thread (s : State) (h code : Nat) (orig resume oeaddr push : Word) (k : Nat) :
    (s.doubleFault h code orig resume oeaddr push).thread k =
      if k = h then
        { (s.thread h).setXsp 0 (s.thread h).dfsp with
            cause := causeImage (s.thread h).ring 0 false 0 code, epc := resume
            eaddr := if code = 0x0D then push else oeaddr
            ring := 0, dfa := true, gmask := true, mlevel := 15, pc := (s.thread h).dfentry, raised := none, hold := none
            haltReq := (s.thread h).haltReq || (s.thread h).stepping }
      else s.thread k := by
  unfold State.doubleFault
  dsimp only
  rw [State.trRescan_thread, State.trExcept_thread]
  by_cases hk : k = h
  · subst hk; rw [State.thread_modThread_self, if_pos rfl, State.dfWrite_thread]
  · rw [State.thread_modThread_ne _ hk, if_neg hk, State.dfWrite_thread]

/-- A cause that no mask holds back, DFA 0, its frame pushed and its handler fetched: the thread enters (R168). -/
theorem State.takeException_enters {s b : State} {h : Nat} {x : Exc} {res ent : MemRes} {sp : Word}
    (hd : (s.thread h).dfa = false) (hm : x.masked (s.thread h) = false)
    (hp : s.pushFrame h (handlingRing x.code (s.thread h).ring)
      ((s.thread h).frame x.epc (x.image (s.thread h).ring) x.eaddr) res = (some sp, b))
    (hf : ((((b.modThread h fun u => u.entered x (x.image (s.thread h).ring) sp
        (handlingRing x.code (s.thread h).ring)).trExcept h (s.thread h).ring x.code
        ((s.thread h).entryOf (handlingRing x.code (s.thread h).ring))).trRescan h).fetchOk h
        ((s.thread h).entryOf (handlingRing x.code (s.thread h).ring)) ent).1 = true) (k : Nat) :
    (s.takeException h x res ent).thread k =
      if k = h then
        (s.thread h).entered x (x.image (s.thread h).ring) sp (handlingRing x.code (s.thread h).ring)
      else s.thread k := by
  have hb : ∀ k, b.thread k = s.thread k := State.pushFrame_thread hp
  unfold State.takeException
  simp only [hd, hm, Bool.false_eq_true, if_false, hp]
  generalize hg : State.fetchOk _ _ _ _ = w at hf ⊢
  obtain ⟨ok, w⟩ := w
  simp only at hf; subst hf
  simp only [if_true]
  rw [State.fetchOk_thread hg, State.trRescan_thread, State.trExcept_thread]
  by_cases hk : k = h
  · subst hk; simp [hb]
  · simp [hk, State.thread_modThread_ne, hb]

/-- A fault that GMASK or MLEVEL masks is a MASKED_FAULT (R164). -/
theorem State.takeException_masked {s : State} {h : Nat} {x : Exc} (res ent : MemRes) (hd : (s.thread h).dfa = false)
    (hm : x.masked (s.thread h) = true) :
    s.takeException h x res ent = s.doubleFault h cMaskedFault (x.image (s.thread h).ring) x.epc x.eaddr 0 := by
  unfold State.takeException
  simp only [hd, hm, Bool.false_eq_true, if_false, if_true]

/-- A push that faults is XSP_INVALID (R175). -/
theorem State.takeException_pushFails {s b : State} {h : Nat} {x : Exc} {res ent : MemRes}
    (hd : (s.thread h).dfa = false) (hm : x.masked (s.thread h) = false)
    (hp : s.pushFrame h (handlingRing x.code (s.thread h).ring)
      ((s.thread h).frame x.epc (x.image (s.thread h).ring) x.eaddr) res = (none, b)) :
    s.takeException h x res ent = b.doubleFault h cXspInvalid (x.image (s.thread h).ring) x.epc x.eaddr
      ((s.thread h).xspOf (handlingRing x.code (s.thread h).ring) - 64) := by
  unfold State.takeException
  simp only [hd, hm, Bool.false_eq_true, if_false, hp]

end Sys2Proof.Machine
end

