-- ==== Sys2Proof/Laws/Exec.lean ====
section
/-! SUPPORT. The meaning of each command, one equation per constructor of `Instr`. -/

namespace Sys2Proof.Machine

theorem exec_refclkLoss (s) : exec .refclkLoss s = execRefclkLoss s := rfl
theorem exec_rootUnlock (s) : exec .rootUnlock s = execRootUnlock s := rfl
theorem exec_rootClock (s) : exec .rootClock s = execRootClock s := rfl
theorem exec_clockWindow (ref root s) : exec (.clockWindow ref root) s = execClockWindow ref root s := rfl
theorem exec_supplySample (rail level s) : exec (.supplySample rail level) s = execSupplySample rail level s := rfl
theorem exec_pwrfail (s) : exec .pwrfail s = execPwrfail s := rfl
theorem exec_powerOnReset (s) : exec .powerOnReset s = execPowerOnReset s := rfl
theorem exec_porstNRelease (lead flash s) : exec (.porstNRelease lead flash) s = execPorstNRelease lead flash s := rfl
theorem exec_warmrstN (s) : exec .warmrstN s = execWarmrstN s := rfl
theorem exec_pkg (agent key s) : exec (.pkg agent key) s = execPkg agent key s := rfl
theorem exec_hostPortReset (cause s) : exec (.hostPortReset cause) s = execHostPortReset cause s := rfl
theorem exec_functionLevelReset (p drill s) :
    exec (.functionLevelReset p drill) s = execFunctionLevelReset p drill s := rfl
theorem exec_threadGroupReset (agent n s) : exec (.threadGroupReset agent n) s = execThreadGroupReset agent n s := rfl
theorem exec_tgDrainDone (n s) : exec (.tgDrainDone n) s = execTgDrainDone n s := rfl
theorem exec_tgResetComplete (n s) : exec (.tgResetComplete n) s = execTgResetComplete n s := rfl
theorem exec_tgDrainTimeout (n s) : exec (.tgDrainTimeout n) s = execTgDrainTimeout n s := rfl
theorem exec_headlandSafetyReset (cause digestOk s) :
    exec (.headlandSafetyReset cause digestOk) s = execHeadlandSafetyReset cause digestOk s := rfl
theorem exec_drillWdog (s) : exec .drillWdog s = execDrillWdog s := rfl
theorem exec_kick (agent s) : exec (.kick agent) s = execKick agent s := rfl
theorem exec_powerGate (n s) : exec (.powerGate n) s = execPowerGate n s := rfl
theorem exec_coreWake (n s) : exec (.coreWake n) s = execCoreWake n s := rfl
theorem exec_hostLinkTraining (s) : exec .hostLinkTraining s = execHostLinkTraining s := rfl
theorem exec_selfRefreshExit (st s) : exec (.selfRefreshExit st) s = execSelfRefreshExit st s := rfl
theorem exec_bootSequence (agrees s) : exec (.bootSequence agrees) s = execBootSequence agrees s := rfl
theorem exec_bootIslandTimeout (s) : exec .bootIslandTimeout s = execBootIslandTimeout s := rfl
theorem exec_flashTimeout (s) : exec .flashTimeout s = execFlashTimeout s := rfl
theorem exec_startup (seals selfTest outputsOff s) :
    exec (.startup seals selfTest outputsOff) s = execStartup seals selfTest outputsOff s := rfl
theorem exec_claim (agent s) : exec (.claim agent) s = execClaim agent s := rfl
theorem exec_release (agent s) : exec (.release agent) s = execRelease agent s := rfl
theorem exec_flashRead (agent s) : exec (.flashRead agent) s = execFlashRead agent s := rfl
theorem exec_flashProgram (agent s) : exec (.flashProgram agent) s = execFlashProgram agent s := rfl
theorem exec_flashErase (agent s) : exec (.flashErase agent) s = execFlashErase agent s := rfl
theorem exec_flashCmdDone (ok s) : exec (.flashCmdDone ok) s = execFlashCmdDone ok s := rfl
theorem exec_trial (agent key types restart s) :
    exec (.trial agent key types restart) s = execTrial agent key types restart s := rfl
theorem exec_commit (agent key restart s) : exec (.commit agent key restart) s = execCommit agent key restart s := rfl
theorem exec_revert (agent key restart s) : exec (.revert agent key restart) s = execRevert agent key restart s := rfl
theorem exec_restart (agent key s) : exec (.restart agent key) s = execRestart agent key s := rfl
theorem exec_prefWriteDone (s) : exec .prefWriteDone s = execPrefWriteDone s := rfl
theorem exec_svnCommit (agent key types s) :
    exec (.svnCommit agent key types) s = execSvnCommit agent key types s := rfl
theorem exec_tableWalk (h res s) : exec (.tableWalk h res) s = execTableWalk h res s := rfl
theorem exec_add (h gd gs1 gs2 w s) : exec (.add h gd gs1 gs2 w) s = execAdd h gd gs1 gs2 w s := rfl
theorem exec_sub (h gd gs1 gs2 w s) : exec (.sub h gd gs1 gs2 w) s = execSub h gd gs1 gs2 w s := rfl
theorem exec_and (h gd gs1 gs2 s) : exec (.and h gd gs1 gs2) s = execAnd h gd gs1 gs2 s := rfl
theorem exec_or (h gd gs1 gs2 s) : exec (.or h gd gs1 gs2) s = execOr h gd gs1 gs2 s := rfl
theorem exec_xor (h gd gs1 gs2 s) : exec (.xor h gd gs1 gs2) s = execXor h gd gs1 gs2 s := rfl
theorem exec_andn (h gd gs1 gs2 s) : exec (.andn h gd gs1 gs2) s = execAndn h gd gs1 gs2 s := rfl
theorem exec_sll (h gd gs1 gs2 w s) : exec (.sll h gd gs1 gs2 w) s = execSll h gd gs1 gs2 w s := rfl
theorem exec_srl (h gd gs1 gs2 w s) : exec (.srl h gd gs1 gs2 w) s = execSrl h gd gs1 gs2 w s := rfl
theorem exec_sra (h gd gs1 gs2 w s) : exec (.sra h gd gs1 gs2 w) s = execSra h gd gs1 gs2 w s := rfl
theorem exec_ror (h gd gs1 gs2 w s) : exec (.ror h gd gs1 gs2 w) s = execRor h gd gs1 gs2 w s := rfl
theorem exec_mul (h gd gs1 gs2 w s) : exec (.mul h gd gs1 gs2 w) s = execMul h gd gs1 gs2 w s := rfl
theorem exec_mulh (h gd gs1 gs2 s) : exec (.mulh h gd gs1 gs2) s = execMulh h gd gs1 gs2 s := rfl
theorem exec_mulhu (h gd gs1 gs2 s) : exec (.mulhu h gd gs1 gs2) s = execMulhu h gd gs1 gs2 s := rfl
theorem exec_div (h gd gs1 gs2 w s) : exec (.div h gd gs1 gs2 w) s = execDiv h gd gs1 gs2 w s := rfl
theorem exec_divu (h gd gs1 gs2 w s) : exec (.divu h gd gs1 gs2 w) s = execDivu h gd gs1 gs2 w s := rfl
theorem exec_rem (h gd gs1 gs2 w s) : exec (.rem h gd gs1 gs2 w) s = execRem h gd gs1 gs2 w s := rfl
theorem exec_remu (h gd gs1 gs2 w s) : exec (.remu h gd gs1 gs2 w) s = execRemu h gd gs1 gs2 w s := rfl
theorem exec_min (h gd gs1 gs2 s) : exec (.min h gd gs1 gs2) s = execMin h gd gs1 gs2 s := rfl
theorem exec_max (h gd gs1 gs2 s) : exec (.max h gd gs1 gs2) s = execMax h gd gs1 gs2 s := rfl
theorem exec_minu (h gd gs1 gs2 s) : exec (.minu h gd gs1 gs2) s = execMinu h gd gs1 gs2 s := rfl
theorem exec_maxu (h gd gs1 gs2 s) : exec (.maxu h gd gs1 gs2) s = execMaxu h gd gs1 gs2 s := rfl
theorem exec_clz (h gd gs1 s) : exec (.clz h gd gs1) s = execClz h gd gs1 s := rfl
theorem exec_ctz (h gd gs1 s) : exec (.ctz h gd gs1) s = execCtz h gd gs1 s := rfl
theorem exec_popc (h gd gs1 s) : exec (.popc h gd gs1) s = execPopc h gd gs1 s := rfl
theorem exec_bswap (h gd gs1 s) : exec (.bswap h gd gs1) s = execBswap h gd gs1 s := rfl
theorem exec_sextb (h gd gs1 s) : exec (.sextb h gd gs1) s = execSextb h gd gs1 s := rfl
theorem exec_sexth (h gd gs1 s) : exec (.sexth h gd gs1) s = execSexth h gd gs1 s := rfl
theorem exec_sextw (h gd gs1 s) : exec (.sextw h gd gs1) s = execSextw h gd gs1 s := rfl
theorem exec_zextw (h gd gs1 s) : exec (.zextw h gd gs1) s = execZextw h gd gs1 s := rfl
theorem exec_sel (h gd gs1 gs2 p s) : exec (.sel h gd gs1 gs2 p) s = execSel h gd gs1 gs2 p s := rfl
theorem exec_addi (h gd gs1 imm s) : exec (.addi h gd gs1 imm) s = execAddi h gd gs1 imm s := rfl
theorem exec_andi (h gd gs1 imm s) : exec (.andi h gd gs1 imm) s = execAndi h gd gs1 imm s := rfl
theorem exec_ori (h gd gs1 imm s) : exec (.ori h gd gs1 imm) s = execOri h gd gs1 imm s := rfl
theorem exec_xori (h gd gs1 imm s) : exec (.xori h gd gs1 imm) s = execXori h gd gs1 imm s := rfl
theorem exec_slli (h gd gs1 sh w s) : exec (.slli h gd gs1 sh w) s = execSlli h gd gs1 sh w s := rfl
theorem exec_srli (h gd gs1 sh w s) : exec (.srli h gd gs1 sh w) s = execSrli h gd gs1 sh w s := rfl
theorem exec_srai (h gd gs1 sh w s) : exec (.srai h gd gs1 sh w) s = execSrai h gd gs1 sh w s := rfl
theorem exec_rori (h gd gs1 sh w s) : exec (.rori h gd gs1 sh w) s = execRori h gd gs1 sh w s := rfl
theorem exec_cati (h gd gs1 imm s) : exec (.cati h gd gs1 imm) s = execCati h gd gs1 imm s := rfl
theorem exec_adpc (h gd disp s) : exec (.adpc h gd disp) s = execAdpc h gd disp s := rfl
theorem exec_cmp (h pd gs1 gs2 cond s) : exec (.cmp h pd gs1 gs2 cond) s = execCmp h pd gs1 gs2 cond s := rfl
theorem exec_cmpi (h pd gs1 imm cond s) : exec (.cmpi h pd gs1 imm cond) s = execCmpi h pd gs1 imm cond s := rfl
theorem exec_pand (h pd ps1 ps2 s) : exec (.pand h pd ps1 ps2) s = execPand h pd ps1 ps2 s := rfl
theorem exec_por (h pd ps1 ps2 s) : exec (.por h pd ps1 ps2) s = execPor h pd ps1 ps2 s := rfl
theorem exec_pxor (h pd ps1 ps2 s) : exec (.pxor h pd ps1 ps2) s = execPxor h pd ps1 ps2 s := rfl
theorem exec_pandn (h pd ps1 ps2 s) : exec (.pandn h pd ps1 ps2) s = execPandn h pd ps1 ps2 s := rfl
theorem exec_porn (h pd ps1 ps2 s) : exec (.porn h pd ps1 ps2) s = execPorn h pd ps1 ps2 s := rfl
theorem exec_br (h p n disp s) : exec (.br h p n disp) s = execBr h p n disp s := rfl
theorem exec_jal (h gd disp s) : exec (.jal h gd disp) s = execJal h gd disp s := rfl
theorem exec_jalr (h gd gs1 imm s) : exec (.jalr h gd gs1 imm) s = execJalr h gd gs1 imm s := rfl
theorem exec_lb (h gd gs1 imm par s) : exec (.lb h gd gs1 imm par) s = execLb h gd gs1 imm par s := rfl
theorem exec_lbu (h gd gs1 imm par s) : exec (.lbu h gd gs1 imm par) s = execLbu h gd gs1 imm par s := rfl
theorem exec_lh (h gd gs1 imm par s) : exec (.lh h gd gs1 imm par) s = execLh h gd gs1 imm par s := rfl
theorem exec_lhu (h gd gs1 imm par s) : exec (.lhu h gd gs1 imm par) s = execLhu h gd gs1 imm par s := rfl
theorem exec_lw (h gd gs1 imm par s) : exec (.lw h gd gs1 imm par) s = execLw h gd gs1 imm par s := rfl
theorem exec_lwu (h gd gs1 imm par s) : exec (.lwu h gd gs1 imm par) s = execLwu h gd gs1 imm par s := rfl
theorem exec_ld (h gd gs1 imm par s) : exec (.ld h gd gs1 imm par) s = execLd h gd gs1 imm par s := rfl
theorem exec_pf (h gs1 imm s) : exec (.pf h gs1 imm) s = execPf h gs1 imm s := rfl
theorem exec_sb (h gs2 gs1 imm s) : exec (.sb h gs2 gs1 imm) s = execSb h gs2 gs1 imm s := rfl
theorem exec_sh (h gs2 gs1 imm s) : exec (.sh h gs2 gs1 imm) s = execSh h gs2 gs1 imm s := rfl
theorem exec_sw (h gs2 gs1 imm s) : exec (.sw h gs2 gs1 imm) s = execSw h gs2 gs1 imm s := rfl
theorem exec_sd (h gs2 gs1 imm s) : exec (.sd h gs2 gs1 imm) s = execSd h gs2 gs1 imm s := rfl
theorem exec_atomicSwap (h gd gs1 gs2 acq rel wide s) :
    exec (.atomicSwap h gd gs1 gs2 acq rel wide) s = execAtomicSwap h gd gs1 gs2 acq rel wide s := rfl
theorem exec_atomicAdd (h gd gs1 gs2 acq rel wide s) :
    exec (.atomicAdd h gd gs1 gs2 acq rel wide) s = execAtomicAdd h gd gs1 gs2 acq rel wide s := rfl
theorem exec_atomicAnd (h gd gs1 gs2 acq rel wide s) :
    exec (.atomicAnd h gd gs1 gs2 acq rel wide) s = execAtomicAnd h gd gs1 gs2 acq rel wide s := rfl
theorem exec_atomicOr (h gd gs1 gs2 acq rel wide s) :
    exec (.atomicOr h gd gs1 gs2 acq rel wide) s = execAtomicOr h gd gs1 gs2 acq rel wide s := rfl
theorem exec_atomicXor (h gd gs1 gs2 acq rel wide s) :
    exec (.atomicXor h gd gs1 gs2 acq rel wide) s = execAtomicXor h gd gs1 gs2 acq rel wide s := rfl
theorem exec_atomicMin (h gd gs1 gs2 acq rel wide s) :
    exec (.atomicMin h gd gs1 gs2 acq rel wide) s = execAtomicMin h gd gs1 gs2 acq rel wide s := rfl
theorem exec_atomicMax (h gd gs1 gs2 acq rel wide s) :
    exec (.atomicMax h gd gs1 gs2 acq rel wide) s = execAtomicMax h gd gs1 gs2 acq rel wide s := rfl
theorem exec_atomicMinu (h gd gs1 gs2 acq rel wide s) :
    exec (.atomicMinu h gd gs1 gs2 acq rel wide) s = execAtomicMinu h gd gs1 gs2 acq rel wide s := rfl
theorem exec_atomicMaxu (h gd gs1 gs2 acq rel wide s) :
    exec (.atomicMaxu h gd gs1 gs2 acq rel wide) s = execAtomicMaxu h gd gs1 gs2 acq rel wide s := rfl
theorem exec_atomicCas (h gd gs1 gs2 acq rel wide s) :
    exec (.atomicCas h gd gs1 gs2 acq rel wide) s = execAtomicCas h gd gs1 gs2 acq rel wide s := rfl
theorem exec_flh (h fd gs1 imm par s) : exec (.flh h fd gs1 imm par) s = execFlh h fd gs1 imm par s := rfl
theorem exec_flw (h fd gs1 imm par s) : exec (.flw h fd gs1 imm par) s = execFlw h fd gs1 imm par s := rfl
theorem exec_fld (h fd gs1 imm par s) : exec (.fld h fd gs1 imm par) s = execFld h fd gs1 imm par s := rfl
theorem exec_fsh (h fs2 gs1 imm s) : exec (.fsh h fs2 gs1 imm) s = execFsh h fs2 gs1 imm s := rfl
theorem exec_fsw (h fs2 gs1 imm s) : exec (.fsw h fs2 gs1 imm) s = execFsw h fs2 gs1 imm s := rfl
theorem exec_fsd (h fs2 gs1 imm s) : exec (.fsd h fs2 gs1 imm) s = execFsd h fs2 gs1 imm s := rfl
theorem exec_fadd (h fmt rm fd fs1 fs2 s) : exec (.fadd h fmt rm fd fs1 fs2) s = execFadd h fmt rm fd fs1 fs2 s := rfl
theorem exec_fsub (h fmt rm fd fs1 fs2 s) : exec (.fsub h fmt rm fd fs1 fs2) s = execFsub h fmt rm fd fs1 fs2 s := rfl
theorem exec_fmul (h fmt rm fd fs1 fs2 s) : exec (.fmul h fmt rm fd fs1 fs2) s = execFmul h fmt rm fd fs1 fs2 s := rfl
theorem exec_fdiv (h fmt rm fd fs1 fs2 s) : exec (.fdiv h fmt rm fd fs1 fs2) s = execFdiv h fmt rm fd fs1 fs2 s := rfl
theorem exec_fsqrt (h fmt rm fd fs1 s) : exec (.fsqrt h fmt rm fd fs1) s = execFsqrt h fmt rm fd fs1 s := rfl
theorem exec_fmin (h fmt rm fd fs1 fs2 s) : exec (.fmin h fmt rm fd fs1 fs2) s = execFmin h fmt rm fd fs1 fs2 s := rfl
theorem exec_fmax (h fmt rm fd fs1 fs2 s) : exec (.fmax h fmt rm fd fs1 fs2) s = execFmax h fmt rm fd fs1 fs2 s := rfl
theorem exec_fcopys (h fmt rm fd fs1 fs2 s) :
    exec (.fcopys h fmt rm fd fs1 fs2) s = execFcopys h fmt rm fd fs1 fs2 s := rfl
theorem exec_fcopyns (h fmt rm fd fs1 fs2 s) :
    exec (.fcopyns h fmt rm fd fs1 fs2) s = execFcopyns h fmt rm fd fs1 fs2 s := rfl
theorem exec_fxors (h fmt rm fd fs1 fs2 s) :
    exec (.fxors h fmt rm fd fs1 fs2) s = execFxors h fmt rm fd fs1 fs2 s := rfl
theorem exec_fcvtF (h fmt src rm fd fs1 s) :
    exec (.fcvtF h fmt src rm fd fs1) s = execFcvtF h fmt src rm fd fs1 s := rfl
theorem exec_fcvtI (h fmt rm gd fs1 width uns s) :
    exec (.fcvtI h fmt rm gd fs1 width uns) s = execFcvtI h fmt rm gd fs1 width uns s := rfl
theorem exec_fcvtFi (h fmt rm fd gs1 width uns s) :
    exec (.fcvtFi h fmt rm fd gs1 width uns) s = execFcvtFi h fmt rm fd gs1 width uns s := rfl
theorem exec_fmvGf (h fmt rm gd fs1 s) : exec (.fmvGf h fmt rm gd fs1) s = execFmvGf h fmt rm gd fs1 s := rfl
theorem exec_fmvFg (h fmt rm fd gs1 s) : exec (.fmvFg h fmt rm fd gs1) s = execFmvFg h fmt rm fd gs1 s := rfl
theorem exec_fclass (h fmt rm gd fs1 s) : exec (.fclass h fmt rm gd fs1) s = execFclass h fmt rm gd fs1 s := rfl
theorem exec_fmadd (h fmt rm fd fs1 fs2 fs3 s) :
    exec (.fmadd h fmt rm fd fs1 fs2 fs3) s = execFmadd h fmt rm fd fs1 fs2 fs3 s := rfl
theorem exec_fmsub (h fmt rm fd fs1 fs2 fs3 s) :
    exec (.fmsub h fmt rm fd fs1 fs2 fs3) s = execFmsub h fmt rm fd fs1 fs2 fs3 s := rfl
theorem exec_fnmadd (h fmt rm fd fs1 fs2 fs3 s) :
    exec (.fnmadd h fmt rm fd fs1 fs2 fs3) s = execFnmadd h fmt rm fd fs1 fs2 fs3 s := rfl
theorem exec_fnmsub (h fmt rm fd fs1 fs2 fs3 s) :
    exec (.fnmsub h fmt rm fd fs1 fs2 fs3) s = execFnmsub h fmt rm fd fs1 fs2 fs3 s := rfl
theorem exec_fcmp (h fmt pd fs1 fs2 cond s) :
    exec (.fcmp h fmt pd fs1 fs2 cond) s = execFcmp h fmt pd fs1 fs2 cond s := rfl
theorem exec_csrrd (h gd csr s) : exec (.csrrd h gd csr) s = execCsrrd h gd csr s := rfl
theorem exec_csrswp (h gd csr gs1 s) : exec (.csrswp h gd csr gs1) s = execCsrswp h gd csr gs1 s := rfl
theorem exec_csrset (h gd csr gs1 s) : exec (.csrset h gd csr gs1) s = execCsrset h gd csr gs1 s := rfl
theorem exec_csrclr (h gd csr gs1 s) : exec (.csrclr h gd csr gs1) s = execCsrclr h gd csr gs1 s := rfl
theorem exec_nop (h s) : exec (.nop h) s = execNop h s := rfl
theorem exec_trap (h n res ent s) : exec (.trap h n res ent) s = execTrap h n res ent s := rfl
theorem exec_gate (h n res push s) : exec (.gate h n res push) s = execGate h n res push s := rfl
theorem exec_xret (h res s) : exec (.xret h res) s = execXret h res s := rfl
theorem exec_dret (h s) : exec (.dret h) s = execDret h s := rfl
theorem exec_wait (h gd gs1 s) : exec (.wait h gd gs1) s = execWait h gd gs1 s := rfl
theorem exec_waitWake (h s) : exec (.waitWake h) s = execWaitWake h s := rfl
theorem exec_waitTimeout (h s) : exec (.waitTimeout h) s = execWaitTimeout h s := rfl
theorem exec_msend (h gs1 gs2 pd s) : exec (.msend h gs1 gs2 pd) s = execMsend h gs1 gs2 pd s := rfl
theorem exec_mailboxPostDelivery (h s) : exec (.mailboxPostDelivery h) s = execMailboxPostDelivery h s := rfl
theorem exec_mrecv (h gd pd s) : exec (.mrecv h gd pd) s = execMrecv h gd pd s := rfl
theorem exec_brk (h s) : exec (.brk h) s = execBrk h s := rfl
theorem exec_fenceAcq (h s) : exec (.fenceAcq h) s = execFenceAcq h s := rfl
theorem exec_fenceRel (h s) : exec (.fenceRel h) s = execFenceRel h s := rfl
theorem exec_fencePkg (h s) : exec (.fencePkg h) s = execFencePkg h s := rfl
theorem exec_fenceAcre (h s) : exec (.fenceAcre h) s = execFenceAcre h s := rfl
theorem exec_fenceHost (h s) : exec (.fenceHost h) s = execFenceHost h s := rfl
theorem exec_fenceComplete (h s) : exec (.fenceComplete h) s = execFenceComplete h s := rfl
theorem exec_ifence (h s) : exec (.ifence h) s = execIfence h s := rfl
theorem exec_tlbiVa (h gs1 s) : exec (.tlbiVa h gs1) s = execTlbiVa h gs1 s := rfl
theorem exec_tlbiVaB (h gs1 s) : exec (.tlbiVaB h gs1) s = execTlbiVaB h gs1 s := rfl
theorem exec_tlbiPlot (h s) : exec (.tlbiPlot h) s = execTlbiPlot h s := rfl
theorem exec_tlbiPlotB (h s) : exec (.tlbiPlotB h) s = execTlbiPlotB h s := rfl
theorem exec_cmoInvalidate (h gs1 target setWay s) :
    exec (.cmoInvalidate h gs1 target setWay) s = execCmoInvalidate h gs1 target setWay s := rfl
theorem exec_cmoClean (h gs1 target setWay wb s) :
    exec (.cmoClean h gs1 target setWay wb) s = execCmoClean h gs1 target setWay wb s := rfl
theorem exec_cmoCleanInvalidate (h gs1 target setWay wb s) :
    exec (.cmoCleanInvalidate h gs1 target setWay wb) s = execCmoCleanInvalidate h gs1 target setWay wb s := rfl
theorem exec_memoryTransactionComplete (h res s) :
    exec (.memoryTransactionComplete h res) s = execMemoryTransactionComplete h res s := rfl
theorem exec_l1dFill (n s) : exec (.l1dFill n) s = execL1dFill n s := rfl
theorem exec_l1iFill (h par res s) : exec (.l1iFill h par res) s = execL1iFill h par res s := rfl
theorem exec_sideBufferFill (n s) : exec (.sideBufferFill n) s = execSideBufferFill n s := rfl
theorem exec_furrowCacheFill (f line res wb s) :
    exec (.furrowCacheFill f line res wb) s = execFurrowCacheFill f line res wb s := rfl
theorem exec_openEntryTimeout (n s) : exec (.openEntryTimeout n) s = execOpenEntryTimeout n s := rfl
theorem exec_mergingBufferDrain (n bad res wb s) :
    exec (.mergingBufferDrain n bad res wb) s = execMergingBufferDrain n bad res wb s := rfl
theorem exec_furrowScrub (f verdict s) : exec (.furrowScrub f verdict) s = execFurrowScrub f verdict s := rfl
theorem exec_eventDelivery (h s) : exec (.eventDelivery h) s = execEventDelivery h s := rfl
theorem exec_exceptionEntry (h fetch res ent s) :
    exec (.exceptionEntry h fetch res ent) s = execExceptionEntry h fetch res ent s := rfl
theorem exec_xpendCancel (agent h mask s) : exec (.xpendCancel agent h mask) s = execXpendCancel agent h mask s := rfl
theorem exec_iinv (n s) : exec (.iinv n) s = execIinv n s := rfl
theorem exec_dinv (n s) : exec (.dinv n) s = execDinv n s := rfl
theorem exec_l1InvalidateDone (n s) : exec (.l1InvalidateDone n) s = execL1InvalidateDone n s := rfl
theorem exec_l1EnableWrite (agent n ien den s) :
    exec (.l1EnableWrite agent n ien den) s = execL1EnableWrite agent n ien den s := rfl
theorem exec_rangeGo (agent f action mode s) :
    exec (.rangeGo agent f action mode) s = execRangeGo agent f action mode s := rfl
theorem exec_rangeDone (f wb s) : exec (.rangeDone f wb) s = execRangeDone f wb s := rfl
theorem exec_tld (h g rows cols fd td gs1 gs2 s) :
    exec (.tld h g rows cols fd td gs1 gs2) s = execTld h g rows cols fd td gs1 gs2 s := rfl
theorem exec_tst (h g rows cols fa ta gs1 gs2 s) :
    exec (.tst h g rows cols fa ta gs1 gs2) s = execTst h g rows cols fa ta gs1 gs2 s := rfl
theorem exec_tadd (h g rows cols fa fb fd rnd td ta tb s) :
    exec (.tadd h g rows cols fa fb fd rnd td ta tb) s = execTadd h g rows cols fa fb fd rnd td ta tb s := rfl
theorem exec_tsub (h g rows cols fa fb fd rnd td ta tb s) :
    exec (.tsub h g rows cols fa fb fd rnd td ta tb) s = execTsub h g rows cols fa fb fd rnd td ta tb s := rfl
theorem exec_tmul (h g rows cols fa fb fd rnd td ta tb s) :
    exec (.tmul h g rows cols fa fb fd rnd td ta tb) s = execTmul h g rows cols fa fb fd rnd td ta tb s := rfl
theorem exec_tmin (h g rows cols fa fb fd rnd td ta tb s) :
    exec (.tmin h g rows cols fa fb fd rnd td ta tb) s = execTmin h g rows cols fa fb fd rnd td ta tb s := rfl
theorem exec_tmax (h g rows cols fa fb fd rnd td ta tb s) :
    exec (.tmax h g rows cols fa fb fd rnd td ta tb) s = execTmax h g rows cols fa fb fd rnd td ta tb s := rfl
theorem exec_tand (h g rows cols fa fb fd td ta tb s) :
    exec (.tand h g rows cols fa fb fd td ta tb) s = execTand h g rows cols fa fb fd td ta tb s := rfl
theorem exec_tor (h g rows cols fa fb fd td ta tb s) :
    exec (.tor h g rows cols fa fb fd td ta tb) s = execTor h g rows cols fa fb fd td ta tb s := rfl
theorem exec_txor (h g rows cols fa fb fd td ta tb s) :
    exec (.txor h g rows cols fa fb fd td ta tb) s = execTxor h g rows cols fa fb fd td ta tb s := rfl
theorem exec_tmov (h g rows cols fa fd td ta s) :
    exec (.tmov h g rows cols fa fd td ta) s = execTmov h g rows cols fa fd td ta s := rfl
theorem exec_tcvt (h g rows cols fa fd rnd td ta s) :
    exec (.tcvt h g rows cols fa fd rnd td ta) s = execTcvt h g rows cols fa fd rnd td ta s := rfl
theorem exec_tzero (h g rows cols fd td s) :
    exec (.tzero h g rows cols fd td) s = execTzero h g rows cols fd td s := rfl
theorem exec_tfill (h g rows cols fd td gs1 s) :
    exec (.tfill h g rows cols fd td gs1) s = execTfill h g rows cols fd td gs1 s := rfl
theorem exec_tneg (h g rows cols fa fd td ta s) :
    exec (.tneg h g rows cols fa fd td ta) s = execTneg h g rows cols fa fd td ta s := rfl
theorem exec_tabs (h g rows cols fa fd td ta s) :
    exec (.tabs h g rows cols fa fd td ta) s = execTabs h g rows cols fa fd td ta s := rfl
theorem exec_tmuls (h g rows cols fa fd rnd td ta gs1 s) :
    exec (.tmuls h g rows cols fa fd rnd td ta gs1) s = execTmuls h g rows cols fa fd rnd td ta gs1 s := rfl
theorem exec_tadds (h g rows cols fa fd rnd td ta gs1 s) :
    exec (.tadds h g rows cols fa fd rnd td ta gs1) s = execTadds h g rows cols fa fd rnd td ta gs1 s := rfl
theorem exec_tsync (h g s) : exec (.tsync h g) s = execTsync h g s := rfl
theorem exec_tget (h g gd ta gs1 s) : exec (.tget h g gd ta gs1) s = execTget h g gd ta gs1 s := rfl
theorem exec_tput (h g td gs1 gs2 s) : exec (.tput h g td gs1 gs2) s = execTput h g td gs1 gs2 s := rfl
theorem exec_tileAccept (h s) : exec (.tileAccept h) s = execTileAccept h s := rfl
theorem exec_tileDispatch (n ecc s) : exec (.tileDispatch n ecc) s = execTileDispatch n ecc s := rfl
theorem exec_tileComplete (n k ecc s) : exec (.tileComplete n k ecc) s = execTileComplete n k ecc s := rfl
theorem exec_tldSegment (n k res s) : exec (.tldSegment n k res) s = execTldSegment n k res s := rfl
theorem exec_tstRowAck (n k res s) : exec (.tstRowAck n k res) s = execTstRowAck n k res s := rfl
theorem exec_tmmp (h g rows cols kk fa fb rnd x td ta tb s) :
    exec (.tmmp h g rows cols kk fa fb rnd x td ta tb) s = execTmmp h g rows cols kk fa fb rnd x td ta tb s := rfl
theorem exec_tmma (h g rows cols kk fa fb rnd grp ta tb s) :
    exec (.tmma h g rows cols kk fa fb rnd grp ta tb) s = execTmma h g rows cols kk fa fb rnd grp ta tb s := rfl
theorem exec_texport (h g rows cols fa fb rnd x grp td ta gs1 s) :
    exec (.texport h g rows cols fa fb rnd x grp td ta gs1) s = execTexport h g rows cols fa fb rnd x grp td ta gs1 s := rfl
theorem exec_texportC (h g rows cols fa fb rnd x grp td ta gs1 s) :
    exec (.texportC h g rows cols fa fb rnd x grp td ta gs1) s = execTexportC h g rows cols fa fb rnd x grp td ta gs1 s := rfl
theorem exec_topen (h g rows cols fa grp gs1 s) :
    exec (.topen h g rows cols fa grp gs1) s = execTopen h g rows cols fa grp gs1 s := rfl
theorem exec_tclose (h g grp s) : exec (.tclose h g grp) s = execTclose h g grp s := rfl
theorem exec_tsave (h g rows cols grp gs1 s) :
    exec (.tsave h g rows cols grp gs1) s = execTsave h g rows cols grp gs1 s := rfl
theorem exec_trestore (h g rows cols grp gs1 s) :
    exec (.trestore h g rows cols grp gs1) s = execTrestore h g rows cols grp gs1 s := rfl
theorem exec_tbind (h g rows cols grp gs1 s) :
    exec (.tbind h g rows cols grp gs1) s = execTbind h g rows cols grp gs1 s := rfl
theorem exec_slotArrival (n k res s) : exec (.slotArrival n k res) s = execSlotArrival n k res s := rfl
theorem exec_binderCombine (op s) : exec (.binderCombine op) s = execBinderCombine op s := rfl
theorem exec_binderRoundComplete (op res s) :
    exec (.binderRoundComplete op res) s = execBinderRoundComplete op res s := rfl
theorem exec_bndOpnCtl (agent op v mode int slots elems s) :
    exec (.bndOpnCtl agent op v mode int slots elems) s = execBndOpnCtl agent op v mode int slots elems s := rfl
theorem exec_withdrawal (agent c s) : exec (.withdrawal agent c) s = execWithdrawal agent c s := rfl
theorem exec_rejoining (agent c s) : exec (.rejoining agent c) s = execRejoining agent c s := rfl
theorem exec_zeroingDone (c s) : exec (.zeroingDone c) s = execZeroingDone c s := rfl
theorem exec_switchToTill (agent c s) : exec (.switchToTill agent c) s = execSwitchToTill agent c s := rfl
theorem exec_switchToWithdrawn (agent c s) :
    exec (.switchToWithdrawn agent c) s = execSwitchToWithdrawn agent c s := rfl
theorem exec_modeSwitchDone (c res s) : exec (.modeSwitchDone c res) s = execModeSwitchDone c res s := rfl
theorem exec_refresh (c s) : exec (.refresh c) s = execRefresh c s := rfl
theorem exec_stackTempReading (st temp s) : exec (.stackTempReading st temp) s = execStackTempReading st temp s := rfl
theorem exec_patrolScrub (c res s) : exec (.patrolScrub c res) s = execPatrolScrub c res s := rfl
theorem exec_act (c s) : exec (.act c) s = execAct c s := rfl
theorem exec_pre (c s) : exec (.pre c) s = execPre c s := rfl
theorem exec_tillLd (c bank res s) : exec (.tillLd c bank res) s = execTillLd c bank res s := rfl
theorem exec_st (c bank res s) : exec (.st c bank res) s = execSt c bank res s := rfl
theorem exec_mac (c s) : exec (.mac c) s = execMac c s := rfl
theorem exec_aadd (c s) : exec (.aadd c) s = execAadd c s := rfl
theorem exec_chsh (c s) : exec (.chsh c) s = execChsh c s := rfl
theorem exec_vred (c s) : exec (.vred c) s = execVred c s := rfl
theorem exec_vcvt (c s) : exec (.vcvt c) s = execVcvt c s := rfl
theorem exec_vzero (c s) : exec (.vzero c) s = execVzero c s := rfl
theorem exec_mask (c s) : exec (.mask c) s = execMask c s := rfl
theorem exec_xset (c s) : exec (.xset c) s = execXset c s := rfl
theorem exec_xadd (c s) : exec (.xadd c) s = execXadd c s := rfl
theorem exec_bnz (c s) : exec (.bnz c) s = execBnz c s := rfl
theorem exec_jmp (c s) : exec (.jmp c) s = execJmp c s := rfl
theorem exec_tillNop (c s) : exec (.tillNop c) s = execTillNop c s := rfl
theorem exec_yield (c res s) : exec (.yield c res) s = execYield c res s := rfl
theorem exec_tillEnd (c s) : exec (.tillEnd c) s = execTillEnd c s := rfl
theorem exec_tillRefreshDue (c s) : exec (.tillRefreshDue c) s = execTillRefreshDue c s := rfl
theorem exec_doorbell (agent q v s) : exec (.doorbell agent q v) s = execDoorbell agent q v s := rfl
theorem exec_selfFedPoll (q res s) : exec (.selfFedPoll q res) s = execSelfFedPoll q res s := rfl
theorem exec_fetch (q e res s) : exec (.fetch q e res) s = execFetch q e res s := rfl
theorem exec_seqRecheck (q e res s) : exec (.seqRecheck q e res) s = execSeqRecheck q e res s := rfl
theorem exec_commandStart (e res s) : exec (.commandStart e res) s = execCommandStart e res s := rfl
theorem exec_endReport (e res s) : exec (.endReport e res) s = execEndReport e res s := rfl
theorem exec_sow (e res s) : exec (.sow e res) s = execSow e res s := rfl
theorem exec_copy (e res s) : exec (.copy e res) s = execCopy e res s := rfl
theorem exec_fill (e res s) : exec (.fill e res) s = execFill e res s := rfl
theorem exec_streamOpen (e n s) : exec (.streamOpen e n) s = execStreamOpen e n s := rfl
theorem exec_streamClose (e s) : exec (.streamClose e) s = execStreamClose e s := rfl
theorem exec_fence (e s) : exec (.fence e) s = execFence e s := rfl
theorem exec_signal (e res s) : exec (.signal e res) s = execSignal e res s := rfl
theorem exec_waitCommand (e res s) : exec (.waitCommand e res) s = execWaitCommand e res s := rfl
theorem exec_waitCommandPoll (e res s) : exec (.waitCommandPoll e res) s = execWaitCommandPoll e res s := rfl
theorem exec_waitCommandTimeout (e s) : exec (.waitCommandTimeout e) s = execWaitCommandTimeout e s := rfl
theorem exec_tillMode (e s) : exec (.tillMode e) s = execTillMode e s := rfl
theorem exec_tillRun (e s) : exec (.tillRun e) s = execTillRun e s := rfl
theorem exec_lease (e extents res s) : exec (.lease e extents res) s = execLease e extents res s := rfl
theorem exec_unlease (e extents res s) : exec (.unlease e extents res) s = execUnlease e extents res s := rfl
theorem exec_abort (e s) : exec (.abort e) s = execAbort e s := rfl
theorem exec_queryEntryState (e s) : exec (.queryEntryState e) s = execQueryEntryState e s := rfl
theorem exec_queryLeaseRecord (e res s) : exec (.queryLeaseRecord e res) s = execQueryLeaseRecord e res s := rfl
theorem exec_queryLedgerCounts (e s) : exec (.queryLedgerCounts e) s = execQueryLedgerCounts e s := rfl
theorem exec_reclaim (e s) : exec (.reclaim e) s = execReclaim e s := rfl
theorem exec_frameArm (e s) : exec (.frameArm e) s = execFrameArm e s := rfl
theorem exec_frameDisarm (e s) : exec (.frameDisarm e) s = execFrameDisarm e s := rfl
theorem exec_sheafDeclare (e s) : exec (.sheafDeclare e) s = execSheafDeclare e s := rfl
theorem exec_headlandMsg (e s) : exec (.headlandMsg e) s = execHeadlandMsg e s := rfl
theorem exec_mailboxAnswer (e res s) : exec (.mailboxAnswer e res) s = execMailboxAnswer e res s := rfl
theorem exec_islandTimeout (e s) : exec (.islandTimeout e) s = execIslandTimeout e s := rfl
theorem exec_park (h s) : exec (.park h) s = execPark h s := rfl
theorem exec_sowTimeout (e s) : exec (.sowTimeout e) s = execSowTimeout e s := rfl
theorem exec_stopTmo (e s) : exec (.stopTmo e) s = execStopTmo e s := rfl
theorem exec_queueEnable (agent q s) : exec (.queueEnable agent q) s = execQueueEnable agent q s := rfl
theorem exec_queueDisable (agent q s) : exec (.queueDisable agent q) s = execQueueDisable agent q s := rfl
theorem exec_frameStart (l s) : exec (.frameStart l) s = execFrameStart l s := rfl
theorem exec_frameRelease (l e res s) : exec (.frameRelease l e res) s = execFrameRelease l e res s := rfl
theorem exec_frameDrop (l s) : exec (.frameDrop l) s = execFrameDrop l s := rfl
theorem exec_warn (l s) : exec (.warn l) s = execWarn l s := rfl
theorem exec_deadline (l s) : exec (.deadline l) s = execDeadline l s := rfl
theorem exec_digestComplete (l res s) : exec (.digestComplete l res) s = execDigestComplete l res s := rfl
theorem exec_vfEnableClear (s) : exec .vfEnableClear s = execVfEnableClear s := rfl
theorem exec_barAccessError (p off size s) :
    exec (.barAccessError p off size) s = execBarAccessError p off size s := rfl
theorem exec_dlDown (s) : exec .dlDown s = execDlDown s := rfl
theorem exec_completion (tag data res s) : exec (.completion tag data res) s = execCompletion tag data res s := rfl
theorem exec_completionTimeout (tag s) : exec (.completionTimeout tag) s = execCompletionTimeout tag s := rfl
theorem exec_msiX (p vec s) : exec (.msiX p vec) s = execMsiX p vec s := rfl
theorem exec_busMasterDisable (p s) : exec (.busMasterDisable p) s = execBusMasterDisable p s := rfl
theorem exec_d3hot (p s) : exec (.d3hot p) s = execD3hot p s := rfl
theorem exec_d0Return (p s) : exec (.d0Return p) s = execD0Return p s := rfl
theorem exec_detach (agent p s) : exec (.detach agent p) s = execDetach agent p s := rfl
theorem exec_rebase (agent p s) : exec (.rebase agent p) s = execRebase agent p s := rfl
theorem exec_rebaseDone (p s) : exec (.rebaseDone p) s = execRebaseDone p s := rfl
theorem exec_feed (agent n v s) : exec (.feed agent n v) s = execFeed agent n v s := rfl
theorem exec_feedPoll (n res s) : exec (.feedPoll n res) s = execFeedPoll n res s := rfl
theorem exec_elementCommit (n res s) : exec (.elementCommit n res) s = execElementCommit n res s := rfl
theorem exec_flushReadComplete (n res s) : exec (.flushReadComplete n res) s = execFlushReadComplete n res s := rfl
theorem exec_resume (agent n s) : exec (.resume agent n) s = execResume agent n s := rfl
theorem exec_flitReceive (k flit s) : exec (.flitReceive k flit) s = execFlitReceive k flit s := rfl
theorem exec_rxSilence (k s) : exec (.rxSilence k) s = execRxSilence k s := rfl
theorem exec_laneFail (k lane s) : exec (.laneFail k lane) s = execLaneFail k lane s := rfl
theorem exec_linkDown (s) : exec .linkDown s = execLinkDown s := rfl
theorem exec_linkUp (k s) : exec (.linkUp k) s = execLinkUp k s := rfl
theorem exec_hello (s) : exec .hello s = execHello s := rfl
theorem exec_timeTick (s) : exec .timeTick s = execTimeTick s := rfl
theorem exec_time (s) : exec .time s = execTime s := rfl
theorem exec_pair (s) : exec .pair s = execPair s := rfl
theorem exec_heartbeatDue (s) : exec .heartbeatDue s = execHeartbeatDue s := rfl
theorem exec_heartbeat (s) : exec .heartbeat s = execHeartbeat s := rfl
theorem exec_heartbeatDeadline (s) : exec .heartbeatDeadline s = execHeartbeatDeadline s := rfl
theorem exec_arm (s) : exec .arm s = execArm s := rfl
theorem exec_digest (s) : exec .digest s = execDigest s := rfl
theorem exec_missing (s) : exec .missing s = execMissing s := rfl
theorem exec_agreementPoint (l k s) : exec (.agreementPoint l k) s = execAgreementPoint l k s := rfl
theorem exec_hash (s) : exec .hash s = execHash s := rfl
theorem exec_xqDoorbell (agent tail s) : exec (.xqDoorbell agent tail) s = execXqDoorbell agent tail s := rfl
theorem exec_xreq (s) : exec .xreq s = execXreq s := rfl
theorem exec_xdata (res s) : exec (.xdata res) s = execXdata res s := rfl
theorem exec_xack (s) : exec .xack s = execXack s := rfl
theorem exec_xreport (s) : exec .xreport s = execXreport s := rfl
theorem exec_rejoin (agent s) : exec (.rejoin agent) s = execRejoin agent s := rfl
theorem exec_yokeEnable (agent en agree loops s) :
    exec (.yokeEnable agent en agree loops) s = execYokeEnable agent en agree loops s := rfl
theorem exec_xqDisable (agent s) : exec (.xqDisable agent) s = execXqDisable agent s := rfl
theorem exec_swathHello (k s) : exec (.swathHello k) s = execSwathHello k s := rfl
theorem exec_lstate (k s) : exec (.lstate k) s = execLstate k s := rfl
theorem exec_rdreq (k res s) : exec (.rdreq k res) s = execRdreq k res s := rfl
theorem exec_rdrsp (k res s) : exec (.rdrsp k res) s = execRdrsp k res s := rfl
theorem exec_wr (k res s) : exec (.wr k res) s = execWr k res s := rfl
theorem exec_wr64 (k res s) : exec (.wr64 k res) s = execWr64 k res s := rfl
theorem exec_atom (k res s) : exec (.atom k res) s = execAtom k res s := rfl
theorem exec_ack (k s) : exec (.ack k) s = execAck k s := rfl
theorem exec_atomr (k s) : exec (.atomr k) s = execAtomr k s := rfl
theorem exec_rptreq (k s) : exec (.rptreq k) s = execRptreq k s := rfl
theorem exec_report (k s) : exec (.report k) s = execReport k s := rfl
theorem exec_bind (k res s) : exec (.bind k res) s = execBind k res s := rfl
theorem exec_bdone (k res s) : exec (.bdone k res) s = execBdone k res s := rfl
theorem exec_requestLost (dst id read s) : exec (.requestLost dst id read) s = execRequestLost dst id read s := rfl
theorem exec_fabricEnable (agent s) : exec (.fabricEnable agent) s = execFabricEnable agent s := rfl
theorem exec_lockstepMismatch (s) : exec .lockstepMismatch s = execLockstepMismatch s := rfl
theorem exec_safetyCycle (seals veto pulsed s) :
    exec (.safetyCycle seals veto pulsed) s = execSafetyCycle seals veto pulsed s := rfl
theorem exec_wdog (s) : exec .wdog s = execWdog s := rfl
theorem exec_status (s) : exec .status s = execStatus s := rfl
theorem exec_regRead (s) : exec .regRead s = execRegRead s := rfl
theorem exec_paramBegin (s) : exec .paramBegin s = execParamBegin s := rfl
theorem exec_paramData (s) : exec .paramData s = execParamData s := rfl
theorem exec_paramCommit (s) : exec .paramCommit s = execParamCommit s := rfl
theorem exec_paramWriteDone (ok s) : exec (.paramWriteDone ok) s = execParamWriteDone ok s := rfl
theorem exec_checkRead (s) : exec .checkRead s = execCheckRead s := rfl
theorem exec_confirm (s) : exec .confirm s = execConfirm s := rfl
theorem exec_confirmTimeout (s) : exec .confirmTimeout s = execConfirmTimeout s := rfl
theorem exec_lockoutEnd (s) : exec .lockoutEnd s = execLockoutEnd s := rfl
theorem exec_operate (s) : exec .operate s = execOperate s := rfl
theorem exec_armedExpiry (s) : exec .armedExpiry s = execArmedExpiry s := rfl
theorem exec_stop (s) : exec .stop s = execStop s := rfl
theorem exec_handover (s) : exec .handover s = execHandover s := rfl
theorem exec_handoverFailed (s) : exec .handoverFailed s = execHandoverFailed s := rfl
theorem exec_clearEvt (s) : exec .clearEvt s = execClearEvt s := rfl
theorem exec_frameWatchdog (s) : exec .frameWatchdog s = execFrameWatchdog s := rfl
theorem exec_degradeExpired (s) : exec .degradeExpired s = execDegradeExpired s := rfl
theorem exec_localLost (s) : exec .localLost s = execLocalLost s := rfl
theorem exec_graceEnd (s) : exec .graceEnd s = execGraceEnd s := rfl
theorem exec_vetoTestPulse (pulsed s) : exec (.vetoTestPulse pulsed) s = execVetoTestPulse pulsed s := rfl
theorem exec_lockupN (low s) : exec (.lockupN low) s = execLockupN low s := rfl
theorem exec_inputSample (pins s) : exec (.inputSample pins) s = execInputSample pins s := rfl
theorem exec_resetStuck (s) : exec .resetStuck s = execResetStuck s := rfl
theorem exec_discrepancy (n s) : exec (.discrepancy n) s = execDiscrepancy n s := rfl
theorem exec_testPulse (b pins s) : exec (.testPulse b pins) s = execTestPulse b pins s := rfl
theorem exec_offPulse (o off back s) : exec (.offPulse o off back) s = execOffPulse o off back s := rfl
theorem exec_cfTime (o s) : exec (.cfTime o) s = execCfTime o s := rfl
theorem exec_encoderEdge (n a b s) : exec (.encoderEdge n a b) s = execEncoderEdge n a b s := rfl
theorem exec_indexPoint (n s) : exec (.indexPoint n) s = execIndexPoint n s := rfl
theorem exec_observerSample (n bits s) : exec (.observerSample n bits) s = execObserverSample n bits s := rfl
theorem exec_tBlind (n s) : exec (.tBlind n) s = execTBlind n s := rfl
theorem exec_dackTimeout (n s) : exec (.dackTimeout n) s = execDackTimeout n s := rfl
theorem exec_tSs (n s) : exec (.tSs n) s = execTSs n s := rfl
theorem exec_start (n s) : exec (.start n) s = execStart n s := rfl
theorem exec_startAck (n s) : exec (.startAck n) s = execStartAck n s := rfl
theorem exec_startFail (n s) : exec (.startFail n) s = execStartFail n s := rfl
theorem exec_dataDue (n s) : exec (.dataDue n) s = execDataDue n s := rfl
theorem exec_data (n s) : exec (.data n) s = execData n s := rfl
theorem exec_close (n s) : exec (.close n) s = execClose n s := rfl
theorem exec_watchdog (n s) : exec (.watchdog n) s = execWatchdog n s := rfl
theorem exec_timeout (n s) : exec (.timeout n) s = execTimeout n s := rfl
theorem exec_retry (n s) : exec (.retry n) s = execRetry n s := rfl
theorem exec_hitchFrameReceive (port frame fcsOk s) :
    exec (.hitchFrameReceive port frame fcsOk) s = execHitchFrameReceive port frame fcsOk s := rfl
theorem exec_portLink (port speed s) : exec (.portLink port speed) s = execPortLink port speed s := rfl
theorem exec_tapReset (s) : exec .tapReset s = execTapReset s := rfl
theorem exec_extest (s) : exec .extest s = execExtest s := rfl
theorem exec_samplePreload (s) : exec .samplePreload s = execSamplePreload s := rfl
theorem exec_idcode (s) : exec .idcode s = execIdcode s := rfl
theorem exec_clamp (s) : exec .clamp s = execClamp s := rfl
theorem exec_highz (s) : exec .highz s = execHighz s := rfl
theorem exec_bypass (code s) : exec (.bypass code) s = execBypass code s := rfl
theorem exec_boundaryExitReset (code s) : exec (.boundaryExitReset code) s = execBoundaryExitReset code s := rfl
theorem exec_dbgaddr (v s) : exec (.dbgaddr v) s = execDbgaddr v s := rfl
theorem exec_dbgdata (v s) : exec (.dbgdata v) s = execDbgdata v s := rfl
theorem exec_debugAccessDone (res s) : exec (.debugAccessDone res) s = execDebugAccessDone res s := rfl
theorem exec_haltRequest (agent n mask s) : exec (.haltRequest agent n mask) s = execHaltRequest agent n mask s := rfl
theorem exec_halt (h s) : exec (.halt h) s = execHalt h s := rfl
theorem exec_resumeRequest (agent n mask s) :
    exec (.resumeRequest agent n mask) s = execResumeRequest agent n mask s := rfl
theorem exec_step (agent n mask noint s) : exec (.step agent n mask noint) s = execStep agent n mask noint s := rfl
theorem exec_dregAccess (agent write h cls index s) :
    exec (.dregAccess agent write h cls index) s = execDregAccess agent write h cls index s := rfl
theorem exec_debugReset (agent key tg n s) :
    exec (.debugReset agent key tg n) s = execDebugReset agent key tg n s := rfl
theorem exec_overflow (c s) : exec (.overflow c) s = execOverflow c s := rfl
theorem exec_traceBlockWrite (c res s) : exec (.traceBlockWrite c res) s = execTraceBlockWrite c res s := rfl
theorem exec_traceEnable (agent v s) : exec (.traceEnable agent v) s = execTraceEnable agent v s := rfl
theorem exec_tallyClear (agent s) : exec (.tallyClear agent) s = execTallyClear agent s := rfl
theorem exec_logWrite (s) : exec .logWrite s = execLogWrite s := rfl
theorem exec_logAck (agent index s) : exec (.logAck agent index) s = execLogAck agent index s := rfl
theorem exec_logAckAll (agent s) : exec (.logAckAll agent) s = execLogAckAll agent s := rfl
theorem exec_logClear (agent s) : exec (.logClear agent) s = execLogClear agent s := rfl
theorem exec_tempSample (field headland s) :
    exec (.tempSample field headland) s = execTempSample field headland s := rfl
theorem exec_powerEstimate (watts s) : exec (.powerEstimate watts) s = execPowerEstimate watts s := rfl
theorem exec_pmbusCalibration (watts s) : exec (.pmbusCalibration watts) s = execPmbusCalibration watts s := rfl
theorem exec_errorCounterSample (s) : exec .errorCounterSample s = execErrorCounterSample s := rfl
theorem exec_registerWrite (target wide v s) :
    exec (.registerWrite target wide v) s = execRegisterWrite target wide v s := rfl
theorem exec_swathLinkDown (k s) : exec (.swathLinkDown k) s = execSwathLinkDown k s := rfl
theorem exec_pwrfailNRelease (s) : exec .pwrfailNRelease s = execPwrfailNRelease s := rfl
theorem exec_refclkReturn (s) : exec .refclkReturn s = execRefclkReturn s := rfl
theorem exec_dlUp (width rate s) : exec (.dlUp width rate) s = execDlUp width rate s := rfl
theorem exec_tlbiAcknowledge (h s) : exec (.tlbiAcknowledge h) s = execTlbiAcknowledge h s := rfl
theorem exec_tallyOvf (n s) : exec (.tallyOvf n) s = execTallyOvf n s := rfl
theorem exec_reclaimRefusalReply (e s) : exec (.reclaimRefusalReply e) s = execReclaimRefusalReply e s := rfl

end Sys2Proof.Machine
end

