-- ==== Sys2Proof/Laws/KeepLedger.lean ====
section
/-! SUPPORT. What the operations and commands of Machine/Ledger.lean keep: each changes only the facets
named in its hypotheses (`State.keep`). -/

namespace Sys2Proof.Machine

variable {m : Facet → Bool}


@[simp] theorem State.setEntry_keep (h0 : m .drill = false) (s : State) (e : ℕ) (x : Entry) :
    (State.setEntry s e x).keep m = s.keep m := by simp [State.setEntry, *]
@[simp] theorem State.modEntry_keep (h0 : m .drill = false) (s : State) (e : ℕ) (f : Entry → Entry) :
    (State.modEntry s e f).keep m = s.keep m := by unfold State.modEntry; (repeat' split) <;> simp [*]
@[simp] theorem State.freeEntry_keep (h0 : m .drill = false) (s : State) (e : ℕ) :
    (State.freeEntry s e).keep m = s.keep m := by simp [State.freeEntry, *]
@[simp] theorem State.endWork_keep (h0 : m .drill = false) (s : State) (e : ℕ) (r : Reply) :
    (State.endWork s e r).keep m = s.keep m := by simp [State.endWork, *]
@[simp] theorem State.pieceDone_keep (h0 : m .drill = false) (s : State) (e : ℕ) (n : ℕ) :
    (State.pieceDone s e n).keep m = s.keep m := by simp [State.pieceDone, *]
@[simp] theorem State.setQueue_keep (h0 : m .drill = false) (s : State) (q : ℕ) (r : QueueRec) :
    (State.setQueue s q r).keep m = s.keep m := by simp [State.setQueue, *]
@[simp] theorem State.setPlot_keep (h0 : m .drill = false) (s : State) (p : ℕ) (r : PlotRec) :
    (State.setPlot s p r).keep m = s.keep m := by simp [State.setPlot, *]
@[simp] theorem State.hostRead_keep (h0 : m .host = false) (h1 : m .sent = false) (s : State) (plot : ℕ) (addr : ℕ)
    (len : ℕ) (use : HostUse) :
    ∀ x, State.hostRead s plot addr len use = some x → x.keep m = s.keep m := by simp [State.hostRead, *]
@[simp] theorem State.staleReads_keep (h0 : m .host = false) (s : State) (gone : HostUse → Bool) :
    (State.staleReads s gone).keep m = s.keep m := by simp [State.staleReads, *]
@[simp] theorem State.hostWrite_keep (h0 : m .sent = false) (s : State) (plot : ℕ) (addr : ℕ) (b : List Byte) :
    (State.hostWrite s plot addr b).keep m = s.keep m := by simp [State.hostWrite, *]
@[simp] theorem State.dmaLine_keep (h0 : m (.blk .GRN) = false) (h1 : m (.blk .RV) = false) (h2 : m .caches = false)
    (h3 : m .reeve = false) (s : State) (line : ℕ) (src : ℕ) :
    (State.dmaLine s line src).2.keep m = s.keep m := by simp [State.dmaLine, *]
@[simp] theorem State.dmaEntry_keep (h0 : m (.blk .GRN) = false) (h1 : m (.blk .RV) = false) (h2 : m .caches = false)
    (h3 : m .reeve = false) (s : State) (pa : ℕ) :
    (State.dmaEntry s pa).2.keep m = s.keep m := by simp only [State.dmaEntry]; (repeat' split) <;> simp [*]
@[simp] theorem State.dmaWalk_keep (h0 : m (.blk .GRN) = false) (h1 : m (.blk .RV) = false) (h2 : m .caches = false)
    (h3 : m .reeve = false) (s : State) (v : ℕ) (table : ℕ) (y3 : List ℕ) :
    (State.dmaWalk s v table y3).2.keep m = s.keep m := by
  induction y3 generalizing s table with
  | nil => unfold State.dmaWalk; repeat' (first | (simp [h0, h1, h2, h3]; done) | split | (refine (foldl_keep (fun s a => ?_) _ _).trans ?_) | (simp only [Prod.ext_iff] at *; casesm* _ ∧ _; subst_vars; simp [h0, h1, h2, h3]; done) | (simp only [keeps_next]) | simp [h0, h1, h2, h3])
  | cons l ls ih =>
    unfold State.dmaWalk
    repeat' (first | (simp [h0, h1, h2, h3, ih]; done) | split | (refine (foldl_keep (fun s a => ?_) _ _).trans ?_) | (simp only [Prod.ext_iff] at *; casesm* _ ∧ _; subst_vars; simp [h0, h1, h2, h3, ih]; done) | (simp only [keeps_next]) | simp [h0, h1, h2, h3, ih])
@[simp] theorem State.dmaPa_keep (h0 : m (.blk .GRN) = false) (h1 : m (.blk .RV) = false) (h2 : m .caches = false) (h3
    : m .cores = false) (h4 : m .granary = false) (h5 : m .mem = false) (h6 : m .reeve = false) (s : State) (plot : ℕ)
    (va : ℕ) (store : Bool) :
    (State.dmaPa s plot va store).2.keep m = s.keep m := by
  unfold State.dmaPa; dsimp only; (repeat' split) <;> (try simp only [Prod.ext_iff] at *) <;> (try casesm* _ ∧ _) <;> (try subst_vars) <;> (try simp [*])
@[simp] theorem State.dmaPassed_keep (h0 : m .granary = false) (s : State) (plot : ℕ) (va : ℕ) (pa : ℕ) :
    (State.dmaPassed s plot va pa).keep m = s.keep m := by unfold State.dmaPassed; (repeat' split) <;> simp [*]
@[simp] theorem State.dmaRead_keep (h0 : m (.blk .GRN) = false) (h1 : m (.blk .RV) = false) (h2 : m .caches = false)
    (h3 : m .cores = false) (h4 : m .granary = false) (h5 : m .mem = false) (h6 : m .reeve = false) (s : State) (plot
    : ℕ) (va : ℕ) (len : ℕ) :
    (State.dmaRead s plot va len).2.keep m = s.keep m := by
  unfold State.dmaRead; dsimp only; (repeat' split) <;> (try simp only [Prod.ext_iff] at *) <;> (try casesm* _ ∧ _) <;> (try subst_vars) <;> (try simp [*])
@[simp] theorem State.holdWrite_keep (h0 : m .granary = false) (s : State) (pa : ℕ) (mask : ℕ) (img : List Byte) :
    (State.holdWrite s pa mask img).keep m = s.keep m := by unfold State.holdWrite; (repeat' split) <;> simp [*]
@[simp] theorem State.dmaWrite_keep (h0 : m (.blk .GRN) = false) (h1 : m (.blk .RV) = false) (h2 : m .caches = false)
    (h3 : m .cores = false) (h4 : m .granary = false) (h5 : m .mem = false) (h6 : m .reeve = false) (h7 : m .seedbox =
    false) (s : State) (plot : ℕ) (va : ℕ) (b : List Byte) (posted : Bool) :
    (State.dmaWrite s plot va b posted).2.keep m = s.keep m := by
  unfold State.dmaWrite; dsimp only; (repeat' split) <;> (try simp only [Prod.ext_iff] at *) <;> (try casesm* _ ∧ _) <;> (try subst_vars) <;> (try simp [*])
@[simp] theorem State.dmaReadAll_keep (h0 : m (.blk .GRN) = false) (h1 : m (.blk .RV) = false) (h2 : m .caches =
    false) (h3 : m .cores = false) (h4 : m .granary = false) (h5 : m .mem = false) (h6 : m .reeve = false) (s : State)
    (plot : ℕ) (va : ℕ) (y3 : ℕ) (y4 : ℕ) :
    (State.dmaReadAll s plot va y3 y4).2.keep m = s.keep m := by
  induction y3 generalizing s va y4 with
  | zero => unfold State.dmaReadAll; repeat' (first | (simp [h0, h1, h2, h3, h4, h5, h6]; done) | split | (refine (foldl_keep (fun s a => ?_) _ _).trans ?_) | (simp only [Prod.ext_iff] at *; casesm* _ ∧ _; subst_vars; simp [h0, h1, h2, h3, h4, h5, h6]; done) | (simp only [keeps_next]) | simp [h0, h1, h2, h3, h4, h5, h6])
  | succ n ih =>
    unfold State.dmaReadAll
    repeat' (first | (simp [h0, h1, h2, h3, h4, h5, h6, ih]; done) | split | (refine (foldl_keep (fun s a => ?_) _ _).trans ?_) | (simp only [Prod.ext_iff] at *; casesm* _ ∧ _; subst_vars; simp [h0, h1, h2, h3, h4, h5, h6, ih]; done) | (simp only [keeps_next]) | simp [h0, h1, h2, h3, h4, h5, h6, ih])
@[simp] theorem State.dmaWriteAll_keep (h0 : m (.blk .GRN) = false) (h1 : m (.blk .RV) = false) (h2 : m .caches =
    false) (h3 : m .cores = false) (h4 : m .granary = false) (h5 : m .mem = false) (h6 : m .reeve = false) (h7 : m
    .seedbox = false) (s : State) (plot : ℕ) (va : ℕ) (y3 : ℕ) (y4 : List Byte) :
    (State.dmaWriteAll s plot va y3 y4).2.keep m = s.keep m := by
  induction y3 generalizing s va y4 with
  | zero => unfold State.dmaWriteAll; repeat' (first | (simp [h0, h1, h2, h3, h4, h5, h6, h7]; done) | split | (refine (foldl_keep (fun s a => ?_) _ _).trans ?_) | (simp only [Prod.ext_iff] at *; casesm* _ ∧ _; subst_vars; simp [h0, h1, h2, h3, h4, h5, h6, h7]; done) | (simp only [keeps_next]) | simp [h0, h1, h2, h3, h4, h5, h6, h7])
  | succ n ih =>
    unfold State.dmaWriteAll
    repeat' (first | (simp [h0, h1, h2, h3, h4, h5, h6, h7, ih]; done) | split | (refine (foldl_keep (fun s a => ?_) _ _).trans ?_) | (simp only [Prod.ext_iff] at *; casesm* _ ∧ _; subst_vars; simp [h0, h1, h2, h3, h4, h5, h6, h7, ih]; done) | (simp only [keeps_next]) | simp [h0, h1, h2, h3, h4, h5, h6, h7, ih])
@[simp] theorem State.putBytes_keep (h0 : m (.blk .GRN) = false) (h1 : m (.blk .RV) = false) (h2 : m .caches = false)
    (h3 : m .cores = false) (h4 : m .granary = false) (h5 : m .mem = false) (h6 : m .reeve = false) (h7 : m .seedbox =
    false) (h8 : m .sent = false) (s : State) (plot : ℕ) (addr : ℕ) (b : List Byte) :
    (State.putBytes s plot addr b).2.keep m = s.keep m := by unfold State.putBytes; (repeat' split) <;> simp [*]

end Sys2Proof.Machine
end

