-- ==== Sys2Proof/Laws/KeepFabric.lean ====
section
/-! SUPPORT. What the operations and commands of Machine/Fabric.lean keep: each changes only the facets
named in its hypotheses (`State.keep`). -/

namespace Sys2Proof.Machine

variable {m : Facet → Bool}


@[simp] theorem State.swForward_keep (h0 : m (.blk .RV) = false) (h1 : m (.blk .TLY) = false) (h2 : m .links = false)
    (h3 : m .reeve = false) (h4 : m .sent = false) (s : State) (from' : Option ℕ) (m_ : List Byte) :
    (State.swForward s from' m_).keep m = s.keep m := by simp only [State.swForward]; (repeat' split) <;> simp [*]
@[simp] theorem State.setPeer_keep (h0 : m .acre = false) (s : State) (p : ℕ) (r : PeerRec) :
    (State.setPeer s p r).keep m = s.keep m := by simp [State.setPeer, *]
@[simp] theorem State.setReqs_keep (h0 : m .acre = false) (s : State) (r : List SwReq) :
    (State.setReqs s r).keep m = s.keep m := by simp [State.setReqs, *]
@[simp] theorem State.swRespond_keep (h0 : m (.blk .RV) = false) (h1 : m (.blk .TLY) = false) (h2 : m .links = false)
    (h3 : m .reeve = false) (h4 : m .sent = false) (s : State) (m_ : List Byte) :
    (State.swRespond s m_).keep m = s.keep m := by simp [State.swRespond, *]
@[simp] theorem State.swPumpList_keep (h0 : m .acre = false) (h1 : m (.blk .RV) = false) (h2 : m (.blk .TLY) = false)
    (h3 : m .links = false) (h4 : m .reeve = false) (h5 : m .sent = false) (s : State) (d : ℕ) (stuck : Bool) (y3 :
    List SwReq) :
    (State.swPumpList s d stuck y3).keep m = s.keep m := by
  induction y3 generalizing s stuck with
  | nil => unfold State.swPumpList; repeat' (first | (simp [h0, h1, h2, h3, h4, h5]; done) | split | (refine (foldl_keep (fun s a => ?_) _ _).trans ?_) | (simp only [Prod.ext_iff] at *; casesm* _ ∧ _; subst_vars; simp [h0, h1, h2, h3, h4, h5]; done) | (simp only [keeps_next]) | simp [h0, h1, h2, h3, h4, h5])
  | cons x r ih =>
    unfold State.swPumpList
    repeat' (first | (simp [h0, h1, h2, h3, h4, h5, ih]; done) | split | (refine (foldl_keep (fun s a => ?_) _ _).trans ?_) | (simp only [Prod.ext_iff] at *; casesm* _ ∧ _; subst_vars; simp [h0, h1, h2, h3, h4, h5, ih]; done) | (simp only [keeps_next]) | simp [h0, h1, h2, h3, h4, h5, ih])
@[simp] theorem State.swPump_keep (h0 : m .acre = false) (h1 : m (.blk .RV) = false) (h2 : m (.blk .TLY) = false) (h3
    : m .links = false) (h4 : m .reeve = false) (h5 : m .sent = false) (s : State) (d : ℕ) :
    (State.swPump s d).keep m = s.keep m := by simp [State.swPump, *]
@[simp] theorem State.lossRecord_keep (h0 : m .acre = false) (h1 : m (.blk .GRN) = false) (h2 : m (.blk .RV) = false)
    (h3 : m (.blk .SWT) = false) (h4 : m .caches = false) (h5 : m .cores = false) (h6 : m .granary = false) (h7 : m
    .mem = false) (h8 : m .reeve = false) (s : State) (r : SwReq) :
    (State.lossRecord s r).keep m = s.keep m := by unfold State.lossRecord; (repeat' split) <;> simp [*]
@[simp] theorem State.swQueue_keep (h0 : m .acre = false) (h1 : m (.blk .RV) = false) (h2 : m (.blk .TLY) = false) (h3
    : m .links = false) (h4 : m .reeve = false) (h5 : m .sent = false) (s : State) (dst : ℕ) (read : Bool) (addr : ℕ)
    (use : SwUse) (body : ℕ → List Byte) :
    (State.swQueue s dst read addr use body).keep m = s.keep m := by simp [State.swQueue, *]
@[simp] theorem State.bndReport_keep (h0 : m .acre = false) (h1 : m (.blk .RV) = false) (h2 : m (.blk .TLY) = false)
    (h3 : m .links = false) (h4 : m .reeve = false) (h5 : m .sent = false) (s : State) (n : ℕ) (word : ℕ) :
    (State.bndReport s n word).keep m = s.keep m := by simp [State.bndReport, *]
@[simp] theorem State.bndRoundFails_keep (h0 : m .acre = false) (h1 : m (.blk .BND) = false) (h2 : m (.blk .FUR) =
    false) (h3 : m (.blk .GRN) = false) (h4 : m (.blk .RV) = false) (h5 : m (.blk .TLY) = false) (h6 : m .caches =
    false) (h7 : m .cores = false) (h8 : m .granary = false) (h9 : m .links = false) (h10 : m .mem = false) (h11 : m
    .reeve = false) (h12 : m .sent = false) (s : State) (n : ℕ) (reason : ℕ) :
    (State.bndRoundFails s n reason).keep m = s.keep m := by simp [State.bndRoundFails, *]
@[simp] theorem State.bindArrived_keep (h0 : m .tiles = false) (s : State) (tile : Option (ℕ × ℕ)) :
    (State.bindArrived s tile).keep m = s.keep m := by unfold State.bindArrived; (repeat' split) <;> simp [*]
@[simp] theorem State.endRead_keep (h0 : m .drill = false) (s : State) (e : ℕ) (r : Reply) :
    (State.endRead s e r).keep m = s.keep m := by simp [State.endRead, *]
@[simp] theorem State.swFails_keep (h0 : m .acre = false) (h1 : m (.blk .BND) = false) (h2 : m (.blk .FUR) = false)
    (h3 : m (.blk .GRN) = false) (h4 : m (.blk .RV) = false) (h5 : m (.blk .SWT) = false) (h6 : m (.blk .TLY) = false)
    (h7 : m .caches = false) (h8 : m .cores = false) (h9 : m .drill = false) (h10 : m .granary = false) (h11 : m
    .links = false) (h12 : m .mem = false) (h13 : m .reeve = false) (h14 : m .sent = false) (h15 : m .threads = false)
    (h16 : m .tiles = false) (s : State) (r : SwReq) (e : SwEnd) :
    (State.swFails s r e).keep m = s.keep m := by simp only [State.swFails]; (repeat' split) <;> simp [*]
@[simp] theorem State.swIssue_keep (h0 : m .acre = false) (h1 : m (.blk .BND) = false) (h2 : m (.blk .FUR) = false)
    (h3 : m (.blk .GRN) = false) (h4 : m (.blk .RV) = false) (h5 : m (.blk .SWT) = false) (h6 : m (.blk .TLY) = false)
    (h7 : m .caches = false) (h8 : m .cores = false) (h9 : m .drill = false) (h10 : m .granary = false) (h11 : m
    .links = false) (h12 : m .mem = false) (h13 : m .reeve = false) (h14 : m .sent = false) (h15 : m .threads = false)
    (h16 : m .tiles = false) (s : State) (dst : ℕ) (read : Bool) (addr : ℕ) (use : SwUse) (body : ℕ → List Byte) :
    (State.swIssue s dst read addr use body).keep m = s.keep m := by simp [State.swIssue, *]
@[simp] theorem State.swRead_keep (h0 : m .acre = false) (h1 : m (.blk .BND) = false) (h2 : m (.blk .FUR) = false) (h3
    : m (.blk .GRN) = false) (h4 : m (.blk .RV) = false) (h5 : m (.blk .SWT) = false) (h6 : m (.blk .TLY) = false) (h7
    : m .caches = false) (h8 : m .cores = false) (h9 : m .drill = false) (h10 : m .granary = false) (h11 : m .links =
    false) (h12 : m .mem = false) (h13 : m .reeve = false) (h14 : m .sent = false) (h15 : m .threads = false) (h16 : m
    .tiles = false) (s : State) (plot : ℕ) (dst : ℕ) (addr : ℕ) (size : ℕ) (use : SwUse) :
    (State.swRead s plot dst addr size use).keep m = s.keep m := by simp [State.swRead, *]
@[simp] theorem State.swWrite_keep (h0 : m .acre = false) (h1 : m (.blk .BND) = false) (h2 : m (.blk .FUR) = false)
    (h3 : m (.blk .GRN) = false) (h4 : m (.blk .RV) = false) (h5 : m (.blk .SWT) = false) (h6 : m (.blk .TLY) = false)
    (h7 : m .caches = false) (h8 : m .cores = false) (h9 : m .drill = false) (h10 : m .granary = false) (h11 : m
    .links = false) (h12 : m .mem = false) (h13 : m .reeve = false) (h14 : m .sent = false) (h15 : m .threads = false)
    (h16 : m .tiles = false) (s : State) (plot : ℕ) (dst : ℕ) (addr : ℕ) (size : ℕ) (value : ℕ) (use : SwUse) :
    (State.swWrite s plot dst addr size value use).keep m = s.keep m := by simp [State.swWrite, *]
@[simp] theorem State.swWrite64_keep (h0 : m .acre = false) (h1 : m (.blk .BND) = false) (h2 : m (.blk .FUR) = false)
    (h3 : m (.blk .GRN) = false) (h4 : m (.blk .RV) = false) (h5 : m (.blk .SWT) = false) (h6 : m (.blk .TLY) = false)
    (h7 : m .caches = false) (h8 : m .cores = false) (h9 : m .drill = false) (h10 : m .granary = false) (h11 : m
    .links = false) (h12 : m .mem = false) (h13 : m .reeve = false) (h14 : m .sent = false) (h15 : m .threads = false)
    (h16 : m .tiles = false) (s : State) (plot : ℕ) (dst : ℕ) (addr : ℕ) (data : List Byte) (use : SwUse) :
    (State.swWrite64 s plot dst addr data use).keep m = s.keep m := by simp [State.swWrite64, *]
@[simp] theorem State.swAtomic_keep (h0 : m .acre = false) (h1 : m (.blk .BND) = false) (h2 : m (.blk .FUR) = false)
    (h3 : m (.blk .GRN) = false) (h4 : m (.blk .RV) = false) (h5 : m (.blk .SWT) = false) (h6 : m (.blk .TLY) = false)
    (h7 : m .caches = false) (h8 : m .cores = false) (h9 : m .drill = false) (h10 : m .granary = false) (h11 : m
    .links = false) (h12 : m .mem = false) (h13 : m .reeve = false) (h14 : m .sent = false) (h15 : m .threads = false)
    (h16 : m .tiles = false) (s : State) (plot : ℕ) (dst : ℕ) (addr : ℕ) (op : ℕ) (size : ℕ) (arg : ℕ) (cmp : ℕ) (use
    : SwUse) :
    (State.swAtomic s plot dst addr op size arg cmp use).keep m = s.keep m := by simp [State.swAtomic, *]
@[simp] theorem State.swTake_keep (h0 : m .acre = false) (h1 : m (.blk .RV) = false) (h2 : m (.blk .TLY) = false) (h3
    : m .links = false) (h4 : m .reeve = false) (h5 : m .sent = false) (s : State) (src : ℕ) (id : ℕ) (read : Bool) :
    ∀ x, State.swTake s src id read = some x → x.2.keep m = s.keep m := by simp [State.swTake, *]

end Sys2Proof.Machine
end

