-- ==== Sys2Proof/Laws/KeepGranary.lean ====
section
/-! SUPPORT. What the operations and commands of Machine/Granary.lean keep: each changes only the facets
named in its hypotheses (`State.keep`). -/

namespace Sys2Proof.Machine

variable {m : Facet → Bool}


@[simp] theorem State.setMove_keep (h0 : m .granary = false) (s : State) (c : ℕ) (m_ : ChanMove) :
    (State.setMove s c m_).keep m = s.keep m := by simp [State.setMove, *]
@[simp] theorem State.startMove_keep (h0 : m (.blk .GRN) = false) (h1 : m .granary = false) (s : State) (c : ℕ) (m_ :
    ChanMove) :
    (State.startMove s c m_).keep m = s.keep m := by simp [State.startMove, *]
@[simp] theorem State.endMove_keep (h0 : m (.blk .GRN) = false) (h1 : m .granary = false) (s : State) (c : ℕ) (mode :
    ℕ) :
    (State.endMove s c mode).keep m = s.keep m := by simp [State.endMove, *]
@[simp] theorem State.recallChannel_keep (h0 : m (.blk .GRN) = false) (h1 : m (.blk .RV) = false) (h2 : m .caches =
    false) (h3 : m .cores = false) (h4 : m .granary = false) (h5 : m .mem = false) (h6 : m .reeve = false) (s : State)
    (c : ℕ) :
    (State.recallChannel s c).keep m = s.keep m := by simp [State.recallChannel, *]
@[simp] theorem State.zeroChannel_keep (h0 : m .caches = false) (h1 : m .granary = false) (h2 : m .mem = false) (s :
    State) (c : ℕ) :
    (State.zeroChannel s c).keep m = s.keep m := by simp [State.zeroChannel, *]
@[simp] theorem State.modeReq_keep (h0 : m (.blk .GRN) = false) (h1 : m (.blk .RV) = false) (h2 : m .caches = false)
    (h3 : m .cores = false) (h4 : m .granary = false) (h5 : m .mem = false) (h6 : m .reeve = false) (s : State) (c :
    ℕ) (target : ℕ) :
    (State.modeReq s c target).keep m = s.keep m := by simp only [State.modeReq]; (repeat' split) <;> simp [*]
@[simp] theorem State.modeWrite_keep (h0 : m (.blk .GRN) = false) (h1 : m (.blk .RV) = false) (h2 : m .caches = false)
    (h3 : m .cores = false) (h4 : m .granary = false) (h5 : m .mem = false) (h6 : m .reeve = false) (s : State) (agent
    : Agent) (c : ℕ) (target : ℕ) (go : Bool) :
    (State.modeWrite s agent c target go).keep m = s.keep m := by simp [State.modeWrite, *]
@[simp] theorem execWithdrawal_keep (h0 : m (.blk .GRN) = false) (h1 : m (.blk .RV) = false) (h2 : m .caches = false)
    (h3 : m .cores = false) (h4 : m .granary = false) (h5 : m .mem = false) (h6 : m .reeve = false) (agent : Agent) (c
    : Chan) (s : State) :
    Keeps m s (execWithdrawal agent c s) := by simp [execWithdrawal, *]
@[simp] theorem execRejoining_keep (h0 : m (.blk .GRN) = false) (h1 : m (.blk .RV) = false) (h2 : m .caches = false)
    (h3 : m .cores = false) (h4 : m .granary = false) (h5 : m .mem = false) (h6 : m .reeve = false) (agent : Agent) (c
    : Chan) (s : State) :
    Keeps m s (execRejoining agent c s) := by simp [execRejoining, *]
@[simp] theorem execSwitchToTill_keep (h0 : m (.blk .GRN) = false) (h1 : m (.blk .RV) = false) (h2 : m .caches =
    false) (h3 : m .cores = false) (h4 : m .granary = false) (h5 : m .mem = false) (h6 : m .reeve = false) (agent :
    Agent) (c : Chan) (s : State) :
    Keeps m s (execSwitchToTill agent c s) := by simp [execSwitchToTill, *]
@[simp] theorem execSwitchToWithdrawn_keep (h0 : m (.blk .GRN) = false) (h1 : m (.blk .RV) = false) (h2 : m .caches =
    false) (h3 : m .cores = false) (h4 : m .granary = false) (h5 : m .mem = false) (h6 : m .reeve = false) (agent :
    Agent) (c : Chan) (s : State) :
    Keeps m s (execSwitchToWithdrawn agent c s) := by simp [execSwitchToWithdrawn, *]
@[simp] theorem State.returnOn_keep (h0 : m (.blk .GRN) = false) (h1 : m (.blk .RV) = false) (h2 : m .caches = false)
    (h3 : m .cores = false) (h4 : m .drill = false) (h5 : m .granary = false) (h6 : m .mem = false) (h7 : m .reeve =
    false) (s : State) (c : ℕ) :
    (State.returnOn s c).keep m = s.keep m := by unfold State.returnOn; (repeat' split) <;> simp [*]
@[simp] theorem execZeroingDone_keep (h0 : m (.blk .GRN) = false) (h1 : m (.blk .RV) = false) (h2 : m .caches = false)
    (h3 : m .cores = false) (h4 : m .drill = false) (h5 : m .granary = false) (h6 : m .mem = false) (h7 : m .reeve =
    false) (c : Chan) (s : State) :
    Keeps m s (execZeroingDone c s) := by unfold execZeroingDone; (repeat' split) <;> simp [*]
@[simp] theorem State.landWrite_keep (h0 : m (.blk .GRN) = false) (h1 : m (.blk .RV) = false) (h2 : m .granary =
    false) (h3 : m .mem = false) (h4 : m .reeve = false) (s : State) (c : ℕ) (y2 : Held) :
    (State.landWrite s c y2).keep m = s.keep m := by simp only [State.landWrite]; (repeat' split) <;> simp [*]
@[simp] theorem State.landWrites_keep (h0 : m (.blk .GRN) = false) (h1 : m (.blk .RV) = false) (h2 : m .granary =
    false) (h3 : m .mem = false) (h4 : m .reeve = false) (s : State) (c : ℕ) :
    (State.landWrites s c).keep m = s.keep m := by simp [State.landWrites, *]
@[simp] theorem execModeSwitchDone_keep (h0 : m (.blk .GRN) = false) (h1 : m (.blk .RV) = false) (h2 : m .caches =
    false) (h3 : m .cores = false) (h4 : m .drill = false) (h5 : m .granary = false) (h6 : m .mem = false) (h7 : m
    .reeve = false) (c : Chan) (res : MemRes) (s : State) :
    Keeps m s (execModeSwitchDone c res s) := by
  unfold execModeSwitchDone
  repeat' (first | (simp [*]; done) | split | (refine (foldl_keep (fun s a => ?_) _ _).trans ?_) | (apply State.withRes_keep <;> (first | (simp only [h0, h1, h2, h3, h4, h5, h6, h7]; done) | (intros; dsimp only) | intros)) | (simp only [Prod.ext_iff] at *; casesm* _ ∧ _; subst_vars; simp [*]; done) | (simp only [keeps_next]) | simp [*])
@[simp] theorem execRefresh_keep (y0 : Chan) (s : State) :
    Keeps m s (execRefresh y0 s) := by simp [execRefresh, *]
@[simp] theorem State.chanTemp_keep (h0 : m (.blk .GRN) = false) (s : State) (temp : ℕ) (c : ℕ) :
    (State.chanTemp s temp c).keep m = s.keep m := by simp [State.chanTemp, *]
@[simp] theorem execStackTempReading_keep (h0 : m (.blk .GRN) = false) (st : Stack) (temp : ℕ) (s : State) :
    Keeps m s (execStackTempReading st temp s) := by simp [execStackTempReading, *]
@[simp] theorem State.scrubFinds_keep (h0 : m (.blk .GRN) = false) (h1 : m (.blk .RV) = false) (h2 : m .granary =
    false) (h3 : m .reeve = false) (s : State) (c : ℕ) (line : ℕ) (type : ℕ) :
    (State.scrubFinds s c line type).keep m = s.keep m := by simp [State.scrubFinds, *]
@[simp] theorem execPatrolScrub_keep (h0 : m (.blk .GRN) = false) (h1 : m (.blk .RV) = false) (h2 : m .granary =
    false) (h3 : m .reeve = false) (c : Chan) (res : MemRes) (s : State) :
    Keeps m s (execPatrolScrub c res s) := by unfold execPatrolScrub; (repeat' split) <;> simp [*]

end Sys2Proof.Machine
end

