-- ==== Sys2Proof/Laws/KeepTill.lean ====
section
/-! SUPPORT. What the operations and commands of Machine/Till.lean keep: each changes only the facets
named in its hypotheses (`State.keep`). -/

namespace Sys2Proof.Machine

variable {m : Facet → Bool}


@[simp] theorem State.tillStart_keep (h0 : m (.blk .GRN) = false) (h1 : m .granary = false) (s : State) (c : ℕ) (image
    : List ℕ) (entry : ℕ) (x : List ℕ) (ledger : ℕ) :
    (State.tillStart s c image entry x ledger).keep m = s.keep m := by simp [State.tillStart, *]
@[simp] theorem State.tillEnd_keep (h0 : m (.blk .GRN) = false) (h1 : m .granary = false) (s : State) (c : ℕ) (reason
    : ℕ) :
    (State.tillEnd s c reason).keep m = s.keep m := by simp [State.tillEnd, *]
@[simp] theorem State.tillUnload_keep (h0 : m (.blk .GRN) = false) (h1 : m .granary = false) (s : State) (c : ℕ) :
    (State.tillUnload s c).keep m = s.keep m := by simp [State.tillUnload, *]
@[simp] theorem State.tillFlags_keep (h0 : m (.blk .GRN) = false) (s : State) (c : ℕ) (fl : ℕ) :
    (State.tillFlags s c fl).keep m = s.keep m := by simp [State.tillFlags, *]
@[simp] theorem State.tillIssue_keep (h0 : m (.blk .GRN) = false) (h1 : m (.blk .RV) = false) (h2 : m (.blk .TLY) =
    false) (h3 : m .granary = false) (h4 : m .reeve = false) (s : State) (c : ℕ) (w : ℕ) :
    (State.tillIssue s c w).keep m = s.keep m := by simp [State.tillIssue, *]
@[simp] theorem State.tillGo_keep (h0 : m (.blk .GRN) = false) (h1 : m .granary = false) (s : State) (c : ℕ) (pc : ℕ)
    :
    (State.tillGo s c pc).keep m = s.keep m := by simp [State.tillGo, *]
@[simp] theorem State.tillInstr_keep (h0 : m (.blk .GRN) = false) (h1 : m (.blk .RV) = false) (h2 : m (.blk .TLY) =
    false) (h3 : m .granary = false) (h4 : m .reeve = false) (s : State) (c : ℕ) (op : ℕ) (f : ℕ → ℕ → TillSeq → State
    → State) (hf_f : ∀ a0 a1 a2 a3, (f a0 a1 a2 a3).keep m = a3.keep m) :
    Keeps m s (State.tillInstr s c op f) := by simp only [State.tillInstr]; (repeat' split) <;> simp [*]
@[simp] theorem State.tillArith_keep (h0 : m (.blk .GRN) = false) (h1 : m (.blk .RV) = false) (h2 : m (.blk .TLY) =
    false) (h3 : m .granary = false) (h4 : m .reeve = false) (s : State) (c : ℕ) (op : ℕ) (f : ℕ → TillSeq × ℕ → ℕ →
    TillSeq × ℕ) :
    Keeps m s (State.tillArith s c op f) := by simp [State.tillArith, *]
@[simp] theorem execAct_keep (h0 : m (.blk .GRN) = false) (h1 : m (.blk .RV) = false) (h2 : m (.blk .TLY) = false) (h3
    : m .granary = false) (h4 : m .reeve = false) (c : Chan) (s : State) :
    Keeps m s (execAct c s) := by simp [execAct, *]
@[simp] theorem execPre_keep (h0 : m (.blk .GRN) = false) (h1 : m (.blk .RV) = false) (h2 : m (.blk .TLY) = false) (h3
    : m .granary = false) (h4 : m .reeve = false) (c : Chan) (s : State) :
    Keeps m s (execPre c s) := by simp [execPre, *]
@[simp] theorem execTillLd_keep (h0 : m (.blk .GRN) = false) (h1 : m (.blk .RV) = false) (h2 : m (.blk .TLY) = false)
    (h3 : m .granary = false) (h4 : m .reeve = false) (c : Chan) (bank : Fin 32) (res : MemRes) (s : State) :
    Keeps m s (execTillLd c bank res s) := by
  unfold execTillLd
  repeat' (first | (simp [*]; done) | split | (refine (foldl_keep (fun s a => ?_) _ _).trans ?_) | (apply State.tillInstr_keep <;> (first | (simp only [h0, h1, h2, h3, h4]; done) | (intros; dsimp only) | intros)) | (simp only [Prod.ext_iff] at *; casesm* _ ∧ _; subst_vars; simp [*]; done) | (simp only [keeps_next]) | simp [*])
@[simp] theorem State.tineStore_keep (h0 : m (.blk .GRN) = false) (h1 : m (.blk .RV) = false) (h2 : m .granary =
    false) (h3 : m .mem = false) (h4 : m .reeve = false) (s : State) (c : ℕ) (row : ℕ) (col : ℕ) (va : ℕ) (q :
    TillSeq) (bank : ℕ) (res : MemRes) (b : ℕ) :
    (State.tineStore s c row col va q bank res b).keep m = s.keep m := by simp [State.tineStore, *]
@[simp] theorem execSt_keep (h0 : m (.blk .GRN) = false) (h1 : m (.blk .RV) = false) (h2 : m (.blk .TLY) = false) (h3
    : m .granary = false) (h4 : m .mem = false) (h5 : m .reeve = false) (c : Chan) (bank : Fin 32) (res : MemRes) (s :
    State) :
    Keeps m s (execSt c bank res s) := by
  unfold execSt
  repeat' (first | (simp [*]; done) | split | (refine (foldl_keep (fun s a => ?_) _ _).trans ?_) | (apply State.tillInstr_keep <;> (first | (simp only [h0, h1, h2, h3, h4, h5]; done) | (intros; dsimp only) | intros)) | (simp only [Prod.ext_iff] at *; casesm* _ ∧ _; subst_vars; simp [*]; done) | (simp only [keeps_next]) | simp [*])
@[simp] theorem execMac_keep (h0 : m (.blk .GRN) = false) (h1 : m (.blk .RV) = false) (h2 : m (.blk .TLY) = false) (h3
    : m .granary = false) (h4 : m .reeve = false) (c : Chan) (s : State) :
    Keeps m s (execMac c s) := by simp [execMac, *]
@[simp] theorem execAadd_keep (h0 : m (.blk .GRN) = false) (h1 : m (.blk .RV) = false) (h2 : m (.blk .TLY) = false)
    (h3 : m .granary = false) (h4 : m .reeve = false) (c : Chan) (s : State) :
    Keeps m s (execAadd c s) := by simp [execAadd, *]
@[simp] theorem execChsh_keep (h0 : m (.blk .GRN) = false) (h1 : m (.blk .RV) = false) (h2 : m (.blk .TLY) = false)
    (h3 : m .granary = false) (h4 : m .reeve = false) (c : Chan) (s : State) :
    Keeps m s (execChsh c s) := by simp [execChsh, *]
@[simp] theorem execVred_keep (h0 : m (.blk .GRN) = false) (h1 : m (.blk .RV) = false) (h2 : m (.blk .TLY) = false)
    (h3 : m .granary = false) (h4 : m .reeve = false) (c : Chan) (s : State) :
    Keeps m s (execVred c s) := by simp [execVred, *]
@[simp] theorem execVcvt_keep (h0 : m (.blk .GRN) = false) (h1 : m (.blk .RV) = false) (h2 : m (.blk .TLY) = false)
    (h3 : m .granary = false) (h4 : m .reeve = false) (c : Chan) (s : State) :
    Keeps m s (execVcvt c s) := by simp [execVcvt, *]
@[simp] theorem execVzero_keep (h0 : m (.blk .GRN) = false) (h1 : m (.blk .RV) = false) (h2 : m (.blk .TLY) = false)
    (h3 : m .granary = false) (h4 : m .reeve = false) (c : Chan) (s : State) :
    Keeps m s (execVzero c s) := by simp [execVzero, *]
@[simp] theorem execMask_keep (h0 : m (.blk .GRN) = false) (h1 : m (.blk .RV) = false) (h2 : m (.blk .TLY) = false)
    (h3 : m .granary = false) (h4 : m .reeve = false) (c : Chan) (s : State) :
    Keeps m s (execMask c s) := by simp [execMask, *]
@[simp] theorem execXset_keep (h0 : m (.blk .GRN) = false) (h1 : m (.blk .RV) = false) (h2 : m (.blk .TLY) = false)
    (h3 : m .granary = false) (h4 : m .reeve = false) (c : Chan) (s : State) :
    Keeps m s (execXset c s) := by simp [execXset, *]
@[simp] theorem execXadd_keep (h0 : m (.blk .GRN) = false) (h1 : m (.blk .RV) = false) (h2 : m (.blk .TLY) = false)
    (h3 : m .granary = false) (h4 : m .reeve = false) (c : Chan) (s : State) :
    Keeps m s (execXadd c s) := by simp [execXadd, *]
@[simp] theorem execBnz_keep (h0 : m (.blk .GRN) = false) (h1 : m (.blk .RV) = false) (h2 : m (.blk .TLY) = false) (h3
    : m .granary = false) (h4 : m .reeve = false) (c : Chan) (s : State) :
    Keeps m s (execBnz c s) := by simp [execBnz, *]
@[simp] theorem execJmp_keep (h0 : m (.blk .GRN) = false) (h1 : m (.blk .RV) = false) (h2 : m (.blk .TLY) = false) (h3
    : m .granary = false) (h4 : m .reeve = false) (c : Chan) (s : State) :
    Keeps m s (execJmp c s) := by simp [execJmp, *]
@[simp] theorem execTillNop_keep (h0 : m (.blk .GRN) = false) (h1 : m (.blk .RV) = false) (h2 : m (.blk .TLY) = false)
    (h3 : m .granary = false) (h4 : m .reeve = false) (c : Chan) (s : State) :
    Keeps m s (execTillNop c s) := by simp [execTillNop, *]
@[simp] theorem execTillEnd_keep (h0 : m (.blk .GRN) = false) (h1 : m (.blk .RV) = false) (h2 : m (.blk .TLY) = false)
    (h3 : m .granary = false) (h4 : m .reeve = false) (c : Chan) (s : State) :
    Keeps m s (execTillEnd c s) := by simp [execTillEnd, *]
@[simp] theorem execTillRefreshDue_keep (h0 : m (.blk .GRN) = false) (h1 : m .granary = false) (c : Chan) (s : State)
    :
    Keeps m s (execTillRefreshDue c s) := by simp [execTillRefreshDue, *]

end Sys2Proof.Machine
end

