-- ==== Sys2Proof/Laws/KeepDrill.lean ====
section
/-! SUPPORT. What the operations and commands of Machine/Drill.lean keep: each changes only the facets
named in its hypotheses (`State.keep`). -/

namespace Sys2Proof.Machine

variable {m : Facet → Bool}


@[simp] theorem State.writeReply_keep (h0 : m (.blk .DRL) = false) (h1 : m (.blk .GRN) = false) (h2 : m (.blk .RV) =
    false) (h3 : m .caches = false) (h4 : m .cores = false) (h5 : m .drill = false) (h6 : m .granary = false) (h7 : m
    .mem = false) (h8 : m .reeve = false) (h9 : m .seedbox = false) (h10 : m .sent = false) (h11 : m .vecs = false) (s
    : State) (q : ℕ) (seq : ℕ) (r : Reply) (info : Bool) (quiet : Bool) (tag : ℕ) (opcode : ℕ) :
    (State.writeReply s q seq r info quiet tag opcode).keep m = s.keep m := by simp [State.writeReply, *]
@[simp] theorem State.cmdTrace_keep (h0 : m (.blk .GLN) = false) (h1 : m .gln = false) (s : State) (e : ℕ) (x : Entry)
    (event : ℕ) (status : ℕ) :
    (State.cmdTrace s e x event status).keep m = s.keep m := by simp [State.cmdTrace, *]
@[simp] theorem State.dropStream_keep (h0 : m (.blk .HRW) = false) (h1 : m .host = false) (s : State) (n : ℕ) :
    (State.dropStream s n).keep m = s.keep m := by simp [State.dropStream, *]
@[simp] theorem State.replyEntry_keep (h0 : m (.blk .DRL) = false) (h1 : m (.blk .GLN) = false) (h2 : m (.blk .GRN) =
    false) (h3 : m (.blk .HRW) = false) (h4 : m (.blk .RV) = false) (h5 : m .caches = false) (h6 : m .cores = false)
    (h7 : m .drill = false) (h8 : m .gln = false) (h9 : m .granary = false) (h10 : m .host = false) (h11 : m .mem =
    false) (h12 : m .reeve = false) (h13 : m .seedbox = false) (h14 : m .sent = false) (h15 : m .vecs = false) (s :
    State) (e : ℕ) (x : Entry) (r : Reply) :
    (State.replyEntry s e x r).keep m = s.keep m := by simp [State.replyEntry, *]
@[simp] theorem State.refuse_keep (h0 : m .drill = false) (s : State) (e : ℕ) (r : Reply) :
    (State.refuse s e r).keep m = s.keep m := by simp [State.refuse, *]
@[simp] theorem State.fetched_keep (h0 : m (.blk .DRL) = false) (h1 : m (.blk .GLN) = false) (h2 : m (.blk .RV) =
    false) (h3 : m (.blk .TLY) = false) (h4 : m .drill = false) (h5 : m .gln = false) (h6 : m .reeve = false) (s :
    State) (q : ℕ) (e : ℕ) (b : List Byte) :
    (State.fetched s q e b).keep m = s.keep m := by simp [State.fetched, *]
@[simp] theorem State.finishParse_keep (h0 : m .drill = false) (s : State) (e : ℕ) :
    (State.finishParse s e).keep m = s.keep m := by simp only [State.finishParse]; (repeat' split) <;> simp [*]
@[simp] theorem State.readContent_keep (h0 : m (.blk .GRN) = false) (h1 : m (.blk .RV) = false) (h2 : m .caches =
    false) (h3 : m .cores = false) (h4 : m .drill = false) (h5 : m .granary = false) (h6 : m .host = false) (h7 : m
    .mem = false) (h8 : m .reeve = false) (h9 : m .sent = false) (s : State) (e : ℕ) (y2 : ℕ) :
    (State.readContent s e y2).keep m = s.keep m := by
  induction y2 generalizing s with
  | zero => unfold State.readContent; repeat' (first | (simp [h0, h1, h2, h3, h4, h5, h6, h7, h8, h9]; done) | split | (refine (foldl_keep (fun s a => ?_) _ _).trans ?_) | (simp only [Prod.ext_iff] at *; casesm* _ ∧ _; subst_vars; simp [h0, h1, h2, h3, h4, h5, h6, h7, h8, h9]; done) | (simp only [keeps_next]) | simp [h0, h1, h2, h3, h4, h5, h6, h7, h8, h9] | (refine (State.hostRead_keep (m := m) (by simp only [h0, h1, h2, h3, h4, h5, h6, h7, h8, h9]) (by simp only [h0, h1, h2, h3, h4, h5, h6, h7, h8, h9]) _ _ _ _ _ _ ‹State.hostRead _ _ _ _ _ = some _›).trans ?_))
  | succ n ih =>
    unfold State.readContent
    repeat' (first | (simp [h0, h1, h2, h3, h4, h5, h6, h7, h8, h9, ih]; done) | split | (refine (foldl_keep (fun s a => ?_) _ _).trans ?_) | (simp only [Prod.ext_iff] at *; casesm* _ ∧ _; subst_vars; simp [h0, h1, h2, h3, h4, h5, h6, h7, h8, h9, ih]; done) | (simp only [keeps_next]) | simp [h0, h1, h2, h3, h4, h5, h6, h7, h8, h9, ih] | (refine (State.hostRead_keep (m := m) (by simp only [h0, h1, h2, h3, h4, h5, h6, h7, h8, h9]) (by simp only [h0, h1, h2, h3, h4, h5, h6, h7, h8, h9]) _ _ _ _ _ _ ‹State.hostRead _ _ _ _ _ = some _›).trans ?_))
@[simp] theorem State.parse_keep (h0 : m (.blk .GRN) = false) (h1 : m (.blk .RV) = false) (h2 : m .caches = false) (h3
    : m .cores = false) (h4 : m .drill = false) (h5 : m .granary = false) (h6 : m .host = false) (h7 : m .mem = false)
    (h8 : m .reeve = false) (h9 : m .sent = false) (s : State) (e : ℕ) :
    (State.parse s e).keep m = s.keep m := by simp only [State.parse]; (repeat' split) <;> simp [*]
@[simp] theorem State.takePacket_keep (h0 : m (.blk .DRL) = false) (h1 : m (.blk .GLN) = false) (h2 : m (.blk .GRN) =
    false) (h3 : m (.blk .RV) = false) (h4 : m (.blk .TLY) = false) (h5 : m .caches = false) (h6 : m .cores = false)
    (h7 : m .drill = false) (h8 : m .gln = false) (h9 : m .granary = false) (h10 : m .host = false) (h11 : m .mem =
    false) (h12 : m .reeve = false) (h13 : m .sent = false) (s : State) (q : ℕ) (e : ℕ) (b : List Byte) :
    (State.takePacket s q e b).keep m = s.keep m := by simp only [State.takePacket]; (repeat' split) <;> simp [*]
@[simp] theorem State.readPacket_keep (h0 : m (.blk .DRL) = false) (h1 : m (.blk .GLN) = false) (h2 : m (.blk .GRN) =
    false) (h3 : m (.blk .RV) = false) (h4 : m (.blk .TLY) = false) (h5 : m .caches = false) (h6 : m .cores = false)
    (h7 : m .drill = false) (h8 : m .gln = false) (h9 : m .granary = false) (h10 : m .host = false) (h11 : m .mem =
    false) (h12 : m .reeve = false) (h13 : m .sent = false) (s : State) (q : ℕ) (e : ℕ) :
    (State.readPacket s q e).keep m = s.keep m := by
  unfold State.readPacket
  repeat' (first | (simp [h0, h1, h2, h3, h4, h5, h6, h7, h8, h9, h10, h11, h12, h13]; done) | split | (refine (foldl_keep (fun s a => ?_) _ _).trans ?_) | (simp only [Prod.ext_iff] at *; casesm* _ ∧ _; subst_vars; simp [h0, h1, h2, h3, h4, h5, h6, h7, h8, h9, h10, h11, h12, h13]; done) | (simp only [keeps_next]) | simp [h0, h1, h2, h3, h4, h5, h6, h7, h8, h9, h10, h11, h12, h13] | (refine (State.hostRead_keep (m := m) (by simp only [h0, h1, h2, h3, h4, h5, h6, h7, h8, h9, h10, h11, h12, h13]) (by simp only [h0, h1, h2, h3, h4, h5, h6, h7, h8, h9, h10, h11, h12, h13]) _ _ _ _ _ _ ‹State.hostRead _ _ _ _ _ = some _›).trans ?_))
@[simp] theorem State.ledgerFull_keep (h0 : m (.blk .DRL) = false) (h1 : m (.blk .GRN) = false) (h2 : m (.blk .RV) =
    false) (h3 : m .caches = false) (h4 : m .cores = false) (h5 : m .drill = false) (h6 : m .granary = false) (h7 : m
    .mem = false) (h8 : m .reeve = false) (h9 : m .seedbox = false) (h10 : m .sent = false) (h11 : m .vecs = false) (s
    : State) :
    (State.ledgerFull s).keep m = s.keep m := by simp [State.ledgerFull, *]
@[simp] theorem State.fetchLost_keep (h0 : m (.blk .DRL) = false) (h1 : m .drill = false) (s : State) (q : ℕ) :
    (State.fetchLost s q).keep m = s.keep m := by simp [State.fetchLost, *]
@[simp] theorem State.doorbell_keep (h0 : m (.blk .DRL) = false) (s : State) (q : ℕ) (v : ℕ) :
    (State.doorbell s q v).keep m = s.keep m := by simp [State.doorbell, *]
@[simp] theorem execDoorbell_keep (h0 : m (.blk .DRL) = false) (agent : Agent) (q : Fin 4096) (v : BitVec 32) (s :
    State) :
    Keeps m s (execDoorbell agent q v s) := by simp [execDoorbell, *]
@[simp] theorem State.queueEnable_keep (h0 : m (.blk .DRL) = false) (h1 : m .drill = false) (s : State) (q : ℕ) :
    (State.queueEnable s q).keep m = s.keep m := by simp [State.queueEnable, *]
@[simp] theorem execQueueEnable_keep (h0 : m (.blk .DRL) = false) (h1 : m .drill = false) (agent : Agent) (q : Fin
    4096) (s : State) :
    Keeps m s (execQueueEnable agent q s) := by simp [execQueueEnable, *]
@[simp] theorem State.queueDisable_keep (h0 : m (.blk .DRL) = false) (h1 : m .drill = false) (s : State) (q : ℕ) :
    (State.queueDisable s q).keep m = s.keep m := by simp [State.queueDisable, *]
@[simp] theorem execQueueDisable_keep (h0 : m (.blk .DRL) = false) (h1 : m .drill = false) (agent : Agent) (q : Fin
    4096) (s : State) :
    Keeps m s (execQueueDisable agent q s) := by simp [execQueueDisable, *]
@[simp] theorem State.tailRead_keep (h0 : m (.blk .DRL) = false) (s : State) (q : ℕ) (b : List Byte) :
    (State.tailRead s q b).keep m = s.keep m := by simp [State.tailRead, *]
@[simp] theorem execSelfFedPoll_keep (h0 : m (.blk .DRL) = false) (h1 : m (.blk .GRN) = false) (h2 : m (.blk .RV) =
    false) (h3 : m .caches = false) (h4 : m .cores = false) (h5 : m .granary = false) (h6 : m .host = false) (h7 : m
    .mem = false) (h8 : m .reeve = false) (h9 : m .sent = false) (q : Fin 4096) (res : MemRes) (s : State) :
    Keeps m s (execSelfFedPoll q res s) := by
  unfold execSelfFedPoll
  rw [keeps_next]
  refine State.withRes_keep s res _ fun s => ?_
  dsimp only
  split
  · rfl
  · split
    · split <;> (simp only [Prod.ext_iff] at *; casesm* _ ∧ _; subst_vars; simp [*])
    · split
      · rfl
      · exact keep_getD (State.hostRead_keep (by assumption) (by assumption) _ _ _ _ _)
    · rfl

end Sys2Proof.Machine
end

