-- ==== Sys2Proof/Laws/KeepCommands.lean ====
section
/-! SUPPORT. What the operations and commands of Machine/Commands.lean keep: each changes only the facets
named in its hypotheses (`State.keep`). -/

namespace Sys2Proof.Machine

variable {m : Facet → Bool}


@[simp] theorem execFetch_keep (h0 : m (.blk .DRL) = false) (h1 : m (.blk .GLN) = false) (h2 : m (.blk .GRN) = false)
    (h3 : m (.blk .RV) = false) (h4 : m (.blk .TLY) = false) (h5 : m .caches = false) (h6 : m .cores = false) (h7 : m
    .drill = false) (h8 : m .gln = false) (h9 : m .granary = false) (h10 : m .host = false) (h11 : m .mem = false)
    (h12 : m .reeve = false) (h13 : m .seedbox = false) (h14 : m .sent = false) (h15 : m .vecs = false) (q : Fin 4096)
    (e : Fin 4096) (res : MemRes) (s : State) :
    Keeps m s (execFetch q e res s) := by simp [execFetch, *]
@[simp] theorem execSeqRecheck_keep (h0 : m (.blk .DRL) = false) (h1 : m (.blk .GLN) = false) (h2 : m (.blk .GRN) =
    false) (h3 : m (.blk .RV) = false) (h4 : m (.blk .TLY) = false) (h5 : m .caches = false) (h6 : m .cores = false)
    (h7 : m .drill = false) (h8 : m .gln = false) (h9 : m .granary = false) (h10 : m .host = false) (h11 : m .mem =
    false) (h12 : m .reeve = false) (h13 : m .sent = false) (q : Fin 4096) (e : Fin 4096) (res : MemRes) (s : State) :
    Keeps m s (execSeqRecheck q e res s) := by simp [execSeqRecheck, *]
@[simp] theorem execCommandStart_keep (h0 : m (.blk .GLN) = false) (h1 : m (.blk .GRN) = false) (h2 : m (.blk .RV) =
    false) (h3 : m .caches = false) (h4 : m .cores = false) (h5 : m .drill = false) (h6 : m .gln = false) (h7 : m
    .granary = false) (h8 : m .host = false) (h9 : m .mem = false) (h10 : m .reeve = false) (h11 : m .sent = false) (e
    : Fin 4096) (res : MemRes) (s : State) :
    Keeps m s (execCommandStart e res s) := by
  unfold execCommandStart
  repeat' (first | (simp [*]; done) | split | (refine (foldl_keep (fun s a => ?_) _ _).trans ?_) | (apply State.withRes_keep <;> (first | (simp only [h0, h1, h2, h3, h4, h5, h6, h7, h8, h9, h10, h11]; done) | (intros; dsimp only) | intros)) | (simp only [Prod.ext_iff] at *; casesm* _ ∧ _; subst_vars; simp [*]; done) | (simp only [keeps_next]) | simp [*])
@[simp] theorem State.work_keep (h0 : m .drill = false) (s : State) (e : ℕ) (op : ℕ) (res : MemRes) (f : Entry → State
    → State) (hf_f : ∀ a0 a1, (f a0 a1).keep m = a1.keep m) :
    Keeps m s (State.work s e op res f) := by
  unfold State.work
  repeat' (first | (simp [*]; done) | split | (refine (foldl_keep (fun s a => ?_) _ _).trans ?_) | (apply State.withRes_keep <;> (first | (simp only [h0, hf_f]; done) | (intros; dsimp only) | intros)) | (simp only [Prod.ext_iff] at *; casesm* _ ∧ _; subst_vars; simp [*]; done) | (simp only [keeps_next]) | simp [*])
@[simp] theorem State.workOn_keep (s : State) (e : ℕ) (op : ℕ) (res : MemRes) (f : Entry → State → State) (hf_f : ∀ a0
    a1, (f a0 a1).keep m = a1.keep m) :
    Keeps m s (State.workOn s e op res f) := by
  unfold State.workOn
  repeat' (first | (simp [*]; done) | split | (refine (foldl_keep (fun s a => ?_) _ _).trans ?_) | (apply State.withRes_keep <;> (first | (simp only [hf_f]; done) | (intros; dsimp only) | intros)) | (simp only [Prod.ext_iff] at *; casesm* _ ∧ _; subst_vars; simp [*]; done) | (simp only [keeps_next]) | simp [*])
@[simp] theorem State.release_keep (h0 : m (.blk .GLN) = false) (h1 : m .drill = false) (h2 : m .fresh = false) (h3 :
    m .gln = false) (h4 : m .threads = false) (s : State) (e : ℕ) (x : Entry) (pkt : List Byte) (d : List Byte) (extra
    : List (ℕ × Word)) :
    (State.release s e x pkt d extra).keep m = s.keep m := by
  unfold State.release
  repeat' (first | (simp [*]; done) | split | (refine (foldl_keep (fun s a => ?_) _ _).trans ?_) | (simp only [Prod.ext_iff] at *; casesm* _ ∧ _; subst_vars; simp [*]; done) | (simp only [keeps_next]) | simp [*])
@[simp] theorem State.startSow_keep (h0 : m (.blk .GLN) = false) (h1 : m (.blk .GRN) = false) (h2 : m (.blk .RV) =
    false) (h3 : m .caches = false) (h4 : m .cores = false) (h5 : m .drill = false) (h6 : m .fresh = false) (h7 : m
    .gln = false) (h8 : m .granary = false) (h9 : m .mem = false) (h10 : m .reeve = false) (h11 : m .threads = false)
    (s : State) (e : ℕ) (x : Entry) (pkt : List Byte) (extra : List (ℕ × Word)) :
    (State.startSow s e x pkt extra).keep m = s.keep m := by
  unfold State.startSow
  repeat' (first | (simp [h0, h1, h2, h3, h4, h5, h6, h7, h8, h9, h10, h11]; done) | split | (refine (foldl_keep (fun s a => ?_) _ _).trans ?_) | (simp only [Prod.ext_iff] at *; casesm* _ ∧ _; subst_vars; simp [h0, h1, h2, h3, h4, h5, h6, h7, h8, h9, h10, h11]; done) | (simp only [keeps_next]) | simp [h0, h1, h2, h3, h4, h5, h6, h7, h8, h9, h10, h11])
@[simp] theorem execSow_keep (h0 : m (.blk .GLN) = false) (h1 : m (.blk .GRN) = false) (h2 : m (.blk .RV) = false) (h3
    : m .caches = false) (h4 : m .cores = false) (h5 : m .drill = false) (h6 : m .fresh = false) (h7 : m .gln = false)
    (h8 : m .granary = false) (h9 : m .mem = false) (h10 : m .reeve = false) (h11 : m .threads = false) (e : Fin 4096)
    (res : MemRes) (s : State) :
    Keeps m s (execSow e res s) := by simp [execSow, *]
@[simp] theorem State.sowParked_keep (h0 : m .drill = false) (s : State) (h : ℕ) (own : Bool) :
    (State.sowParked s h own).keep m = s.keep m := by simp [State.sowParked, *]
@[simp] theorem State.parkThread_keep (h0 : m (.blk .FUR) = false) (h1 : m (.blk .GLN) = false) (h2 : m .cores =
    false) (h3 : m .drill = false) (h4 : m .gln = false) (h5 : m .threads = false) (s : State) (h : ℕ) :
    (State.parkThread s h).keep m = s.keep m := by simp [State.parkThread, *]
@[simp] theorem execPark_keep (h0 : m (.blk .FUR) = false) (h1 : m (.blk .GLN) = false) (h2 : m .cores = false) (h3 :
    m .drill = false) (h4 : m .gln = false) (h5 : m .threads = false) (h : Tid) (s : State) :
    Keeps m s (execPark h s) := by simp [execPark, *]
@[simp] theorem execSowTimeout_keep (h0 : m (.blk .FUR) = false) (h1 : m .drill = false) (e : Fin 4096) (s : State) :
    Keeps m s (execSowTimeout e s) := by unfold execSowTimeout; (repeat' split) <;> simp [*]
@[simp] theorem execStopTmo_keep (h0 : m (.blk .SOW) = false) (h1 : m .clk = false) (h2 : m .drill = false) (e : Fin
    4096) (s : State) :
    Keeps m s (execStopTmo e s) := by unfold execStopTmo; (repeat' split) <;> simp [*]
@[simp] theorem State.putPiece_keep (h0 : m .acre = false) (h1 : m (.blk .BND) = false) (h2 : m (.blk .FUR) = false)
    (h3 : m (.blk .GRN) = false) (h4 : m (.blk .RV) = false) (h5 : m (.blk .SWT) = false) (h6 : m (.blk .TLY) = false)
    (h7 : m .caches = false) (h8 : m .cores = false) (h9 : m .drill = false) (h10 : m .granary = false) (h11 : m
    .links = false) (h12 : m .mem = false) (h13 : m .reeve = false) (h14 : m .seedbox = false) (h15 : m .sent = false)
    (h16 : m .threads = false) (h17 : m .tiles = false) (s : State) (e : ℕ) (plot : ℕ) (dst : ℕ) (b : List Byte) :
    (State.putPiece s e plot dst b).keep m = s.keep m := by
  unfold State.putPiece; (repeat' split) <;> (try simp only [Prod.ext_iff] at *) <;> (try casesm* _ ∧ _) <;> (try subst_vars) <;> simp [*]
@[simp] theorem execCopy_keep (h0 : m .acre = false) (h1 : m (.blk .BND) = false) (h2 : m (.blk .FUR) = false) (h3 : m
    (.blk .GRN) = false) (h4 : m (.blk .RV) = false) (h5 : m (.blk .SWT) = false) (h6 : m (.blk .TLY) = false) (h7 : m
    .caches = false) (h8 : m .cores = false) (h9 : m .drill = false) (h10 : m .granary = false) (h11 : m .host =
    false) (h12 : m .links = false) (h13 : m .mem = false) (h14 : m .reeve = false) (h15 : m .seedbox = false) (h16 :
    m .sent = false) (h17 : m .threads = false) (h18 : m .tiles = false) (e : Fin 4096) (res : MemRes) (s : State) :
    Keeps m s (execCopy e res s) := by
  unfold execCopy
  repeat' (first | (simp [h0, h1, h2, h3, h4, h5, h6, h7, h8, h9, h10, h11, h12, h13, h14, h15, h16, h17, h18]; done) | split | (refine (foldl_keep (fun s a => ?_) _ _).trans ?_) | (apply State.workOn_keep <;> (first | (simp only [h0, h1, h2, h3, h4, h5, h6, h7, h8, h9, h10, h11, h12, h13, h14, h15, h16, h17, h18]; done) | (intros; dsimp only) | intros)) | (simp only [Prod.ext_iff] at *; casesm* _ ∧ _; subst_vars; simp [h0, h1, h2, h3, h4, h5, h6, h7, h8, h9, h10, h11, h12, h13, h14, h15, h16, h17, h18]; done) | (simp only [keeps_next]) | simp [h0, h1, h2, h3, h4, h5, h6, h7, h8, h9, h10, h11, h12, h13, h14, h15, h16, h17, h18] | (refine (State.hostRead_keep (m := m) (by simp only [h0, h1, h2, h3, h4, h5, h6, h7, h8, h9, h10, h11, h12, h13, h14, h15, h16, h17, h18]) (by simp only [h0, h1, h2, h3, h4, h5, h6, h7, h8, h9, h10, h11, h12, h13, h14, h15, h16, h17, h18]) _ _ _ _ _ _ ‹State.hostRead _ _ _ _ _ = some _›).trans ?_))
@[simp] theorem execFill_keep (h0 : m .acre = false) (h1 : m (.blk .BND) = false) (h2 : m (.blk .FUR) = false) (h3 : m
    (.blk .GRN) = false) (h4 : m (.blk .RV) = false) (h5 : m (.blk .SWT) = false) (h6 : m (.blk .TLY) = false) (h7 : m
    .caches = false) (h8 : m .cores = false) (h9 : m .drill = false) (h10 : m .granary = false) (h11 : m .links =
    false) (h12 : m .mem = false) (h13 : m .reeve = false) (h14 : m .seedbox = false) (h15 : m .sent = false) (h16 : m
    .threads = false) (h17 : m .tiles = false) (e : Fin 4096) (res : MemRes) (s : State) :
    Keeps m s (execFill e res s) := by simp [execFill, *]
@[simp] theorem execFence_keep (h0 : m .drill = false) (e : Fin 4096) (s : State) :
    Keeps m s (execFence e s) := by simp [execFence, *]
@[simp] theorem State.waitWord_keep (h0 : m .drill = false) (s : State) (e : ℕ) (v : ℕ) :
    (State.waitWord s e v).keep m = s.keep m := by simp [State.waitWord, *]
@[simp] theorem State.waitEval_keep (h0 : m .acre = false) (h1 : m (.blk .BND) = false) (h2 : m (.blk .FUR) = false)
    (h3 : m (.blk .GRN) = false) (h4 : m (.blk .RV) = false) (h5 : m (.blk .SWT) = false) (h6 : m (.blk .TLY) = false)
    (h7 : m .caches = false) (h8 : m .cores = false) (h9 : m .drill = false) (h10 : m .granary = false) (h11 : m .host
    = false) (h12 : m .links = false) (h13 : m .mem = false) (h14 : m .reeve = false) (h15 : m .sent = false) (h16 : m
    .threads = false) (h17 : m .tiles = false) (s : State) (e : ℕ) :
    (State.waitEval s e).keep m = s.keep m := by
  unfold State.waitEval
  repeat' (first | (simp [h0, h1, h2, h3, h4, h5, h6, h7, h8, h9, h10, h11, h12, h13, h14, h15, h16, h17]; done) | split | (refine (foldl_keep (fun s a => ?_) _ _).trans ?_) | (simp only [Prod.ext_iff] at *; casesm* _ ∧ _; subst_vars; simp [h0, h1, h2, h3, h4, h5, h6, h7, h8, h9, h10, h11, h12, h13, h14, h15, h16, h17]; done) | (simp only [keeps_next]) | simp [h0, h1, h2, h3, h4, h5, h6, h7, h8, h9, h10, h11, h12, h13, h14, h15, h16, h17] | (refine (State.hostRead_keep (m := m) (by simp only [h0, h1, h2, h3, h4, h5, h6, h7, h8, h9, h10, h11, h12, h13, h14, h15, h16, h17]) (by simp only [h0, h1, h2, h3, h4, h5, h6, h7, h8, h9, h10, h11, h12, h13, h14, h15, h16, h17]) _ _ _ _ _ _ ‹State.hostRead _ _ _ _ _ = some _›).trans ?_))
@[simp] theorem State.forget_keep (h0 : m .acre = false) (h1 : m .host = false) (s : State) (e : ℕ) :
    (State.forget s e).keep m = s.keep m := by simp [State.forget, *]
@[simp] theorem execWaitCommand_keep (h0 : m .acre = false) (h1 : m (.blk .BND) = false) (h2 : m (.blk .FUR) = false)
    (h3 : m (.blk .GRN) = false) (h4 : m (.blk .RV) = false) (h5 : m (.blk .SWT) = false) (h6 : m (.blk .TLY) = false)
    (h7 : m .caches = false) (h8 : m .cores = false) (h9 : m .drill = false) (h10 : m .granary = false) (h11 : m .host
    = false) (h12 : m .links = false) (h13 : m .mem = false) (h14 : m .reeve = false) (h15 : m .sent = false) (h16 : m
    .threads = false) (h17 : m .tiles = false) (e : Fin 4096) (res : MemRes) (s : State) :
    Keeps m s (execWaitCommand e res s) := by simp [execWaitCommand, *]
@[simp] theorem execWaitCommandPoll_keep (h0 : m .acre = false) (h1 : m (.blk .BND) = false) (h2 : m (.blk .FUR) =
    false) (h3 : m (.blk .GRN) = false) (h4 : m (.blk .RV) = false) (h5 : m (.blk .SWT) = false) (h6 : m (.blk .TLY) =
    false) (h7 : m .caches = false) (h8 : m .cores = false) (h9 : m .drill = false) (h10 : m .granary = false) (h11 :
    m .host = false) (h12 : m .links = false) (h13 : m .mem = false) (h14 : m .reeve = false) (h15 : m .sent = false)
    (h16 : m .threads = false) (h17 : m .tiles = false) (e : Fin 4096) (res : MemRes) (s : State) :
    Keeps m s (execWaitCommandPoll e res s) := by simp [execWaitCommandPoll, *]
@[simp] theorem execWaitCommandTimeout_keep (h0 : m .acre = false) (h1 : m .drill = false) (h2 : m .host = false) (e :
    Fin 4096) (s : State) :
    Keeps m s (execWaitCommandTimeout e s) := by unfold execWaitCommandTimeout; (repeat' split) <;> simp [*]
@[simp] theorem State.waitsOn_keep (h0 : m .acre = false) (h1 : m (.blk .BND) = false) (h2 : m (.blk .FUR) = false)
    (h3 : m (.blk .GRN) = false) (h4 : m (.blk .RV) = false) (h5 : m (.blk .SWT) = false) (h6 : m (.blk .TLY) = false)
    (h7 : m .caches = false) (h8 : m .cores = false) (h9 : m .drill = false) (h10 : m .granary = false) (h11 : m .host
    = false) (h12 : m .links = false) (h13 : m .mem = false) (h14 : m .reeve = false) (h15 : m .sent = false) (h16 : m
    .threads = false) (h17 : m .tiles = false) (s : State) (p : ℕ) (a : ℕ) :
    (State.waitsOn s p a).keep m = s.keep m := by simp [State.waitsOn, *]
@[simp] theorem execSignal_keep (h0 : m .acre = false) (h1 : m (.blk .BND) = false) (h2 : m (.blk .FUR) = false) (h3 :
    m (.blk .GRN) = false) (h4 : m (.blk .RV) = false) (h5 : m (.blk .SWT) = false) (h6 : m (.blk .TLY) = false) (h7 :
    m .caches = false) (h8 : m .cores = false) (h9 : m .drill = false) (h10 : m .granary = false) (h11 : m .host =
    false) (h12 : m .links = false) (h13 : m .mem = false) (h14 : m .reeve = false) (h15 : m .seedbox = false) (h16 :
    m .sent = false) (h17 : m .threads = false) (h18 : m .tiles = false) (e : Fin 4096) (res : MemRes) (s : State) :
    Keeps m s (execSignal e res s) := by
  unfold execSignal
  repeat' (first | (simp [*]; done) | split | (refine (foldl_keep (fun s a => ?_) _ _).trans ?_) | (apply State.work_keep <;> (first | (simp only [h0, h1, h2, h3, h4, h5, h6, h7, h8, h9, h10, h11, h12, h13, h14, h15, h16, h17, h18]; done) | (intros; dsimp only) | intros)) | (simp only [Prod.ext_iff] at *; casesm* _ ∧ _; subst_vars; simp [*]; done) | (simp only [keeps_next]) | simp [*])
@[simp] theorem execTillMode_keep (h0 : m (.blk .GRN) = false) (h1 : m (.blk .RV) = false) (h2 : m .caches = false)
    (h3 : m .cores = false) (h4 : m .drill = false) (h5 : m .granary = false) (h6 : m .mem = false) (h7 : m .reeve =
    false) (e : Fin 4096) (s : State) :
    Keeps m s (execTillMode e s) := by
  unfold execTillMode
  repeat' (first | (simp [*]; done) | split | (refine (foldl_keep (fun s a => ?_) _ _).trans ?_) | (apply State.work_keep <;> (first | (simp only [h0, h1, h2, h3, h4, h5, h6, h7]; done) | (intros; dsimp only) | intros)) | (simp only [Prod.ext_iff] at *; casesm* _ ∧ _; subst_vars; simp [*]; done) | (simp only [keeps_next]) | simp [*])
@[simp] theorem execTillRun_keep (h0 : m (.blk .GRN) = false) (h1 : m .drill = false) (h2 : m .granary = false) (e :
    Fin 4096) (s : State) :
    Keeps m s (execTillRun e s) := by
  unfold execTillRun
  repeat' (first | (simp [*]; done) | split | (refine (foldl_keep (fun s a => ?_) _ _).trans ?_) | (apply State.work_keep <;> (first | (simp only [h0, h1, h2]; done) | (intros; dsimp only) | intros)) | (simp only [Prod.ext_iff] at *; casesm* _ ∧ _; subst_vars; simp [*]; done) | (simp only [keeps_next]) | simp [*])
@[simp] theorem State.wakeCore_keep (h0 : m (.blk .FUR) = false) (h1 : m .cores = false) (h2 : m .fresh = false) (h3 :
    m .gln = false) (h4 : m .threads = false) (h5 : m .tiles = false) (s : State) (n : ℕ) :
    (State.wakeCore s n).keep m = s.keep m := by simp [State.wakeCore, *]
@[simp] theorem State.closeGroups_keep (h0 : m (.blk .FUR) = false) (s : State) (n : ℕ) :
    (State.closeGroups s n).keep m = s.keep m := by simp [State.closeGroups, *]
@[simp] theorem State.zeroCore_keep (h0 : m (.blk .FUR) = false) (h1 : m .cores = false) (h2 : m .seedbox = false) (h3
    : m .threads = false) (h4 : m .tiles = false) (s : State) (n : ℕ) :
    (State.zeroCore s n).keep m = s.keep m := by simp [State.zeroCore, *]
@[simp] theorem State.flushFurrow_keep (h0 : m (.blk .FUR) = false) (h1 : m (.blk .GRN) = false) (h2 : m (.blk .RV) =
    false) (h3 : m .caches = false) (h4 : m .cores = false) (h5 : m .granary = false) (h6 : m .mem = false) (h7 : m
    .reeve = false) (s : State) (f : ℕ) :
    (State.flushFurrow s f).keep m = s.keep m := by simp [State.flushFurrow, *]
@[simp] theorem State.zeroExtents_keep (h0 : m .caches = false) (h1 : m .cores = false) (h2 : m .granary = false) (h3
    : m .mem = false) (s : State) (xs : List ℕ) :
    (State.zeroExtents s xs).keep m = s.keep m := by simp [State.zeroExtents, *]
@[simp] theorem execLease_keep (h0 : m (.blk .FUR) = false) (h1 : m (.blk .GRN) = false) (h2 : m (.blk .RV) = false)
    (h3 : m .caches = false) (h4 : m .cores = false) (h5 : m .drill = false) (h6 : m .fresh = false) (h7 : m .gln =
    false) (h8 : m .granary = false) (h9 : m .mem = false) (h10 : m .reeve = false) (h11 : m .seedbox = false) (h12 :
    m .threads = false) (h13 : m .tiles = false) (e : Fin 4096) (extents : List (Fin 73728)) (res : MemRes) (s :
    State) :
    Keeps m s (execLease e extents res s) := by
  unfold execLease
  repeat' (first | (simp [*]; done) | split | (refine (foldl_keep (fun s a => ?_) _ _).trans ?_) | (apply State.workOn_keep <;> (first | (simp only [h0, h1, h2, h3, h4, h5, h6, h7, h8, h9, h10, h11, h12, h13]; done) | (intros; dsimp only) | intros)) | (simp only [Prod.ext_iff] at *; casesm* _ ∧ _; subst_vars; simp [*]; done) | (simp only [keeps_next]) | simp [*])
@[simp] theorem State.returnChannel_keep (h0 : m (.blk .GRN) = false) (h1 : m (.blk .RV) = false) (h2 : m .caches =
    false) (h3 : m .cores = false) (h4 : m .granary = false) (h5 : m .mem = false) (h6 : m .reeve = false) (s : State)
    (c : ℕ) :
    (State.returnChannel s c).keep m = s.keep m := by simp [State.returnChannel, *]
@[simp] theorem execUnlease_keep (h0 : m (.blk .FUR) = false) (h1 : m (.blk .GRN) = false) (h2 : m (.blk .RV) = false)
    (h3 : m .caches = false) (h4 : m .cores = false) (h5 : m .drill = false) (h6 : m .granary = false) (h7 : m .mem =
    false) (h8 : m .reeve = false) (h9 : m .seedbox = false) (h10 : m .threads = false) (h11 : m .tiles = false) (e :
    Fin 4096) (extents : List (Fin 73728)) (res : MemRes) (s : State) :
    Keeps m s (execUnlease e extents res s) := by
  unfold execUnlease
  repeat' (first | (simp [*]; done) | split | (refine (foldl_keep (fun s a => ?_) _ _).trans ?_) | (apply State.workOn_keep <;> (first | (simp only [h0, h1, h2, h3, h4, h5, h6, h7, h8, h9, h10, h11]; done) | (intros; dsimp only) | intros)) | (simp only [Prod.ext_iff] at *; casesm* _ ∧ _; subst_vars; simp [*]; done) | (simp only [keeps_next]) | simp [*])
@[simp] theorem State.query_keep (h0 : m .drill = false) (s : State) (e : ℕ) (what : ℕ) (res : MemRes) (f : Entry →
    State → State) (hf_f : ∀ a0 a1, (f a0 a1).keep m = a1.keep m) :
    Keeps m s (State.query s e what res f) := by simp [State.query, *]
@[simp] theorem execQueryEntryState_keep (h0 : m .drill = false) (e : Fin 4096) (s : State) :
    Keeps m s (execQueryEntryState e s) := by simp [execQueryEntryState, *]
@[simp] theorem execQueryLeaseRecord_keep (h0 : m (.blk .GRN) = false) (h1 : m (.blk .RV) = false) (h2 : m .caches =
    false) (h3 : m .cores = false) (h4 : m .drill = false) (h5 : m .fresh = false) (h6 : m .granary = false) (h7 : m
    .mem = false) (h8 : m .reeve = false) (h9 : m .seedbox = false) (h10 : m .sent = false) (e : Fin 4096) (res :
    MemRes) (s : State) :
    Keeps m s (execQueryLeaseRecord e res s) := by simp [execQueryLeaseRecord, *]
@[simp] theorem execQueryLedgerCounts_keep (h0 : m .drill = false) (e : Fin 4096) (s : State) :
    Keeps m s (execQueryLedgerCounts e s) := by simp [execQueryLedgerCounts, *]
@[simp] theorem State.tillTaken_keep (h0 : m (.blk .GRN) = false) (h1 : m .granary = false) (s : State) (e : ℕ) (x :
    Entry) :
    (State.tillTaken s e x).keep m = s.keep m := by simp [State.tillTaken, *]
@[simp] theorem State.endReport_keep (h0 : m (.blk .DRL) = false) (h1 : m (.blk .GLN) = false) (h2 : m (.blk .GRN) =
    false) (h3 : m (.blk .HRW) = false) (h4 : m (.blk .RV) = false) (h5 : m .caches = false) (h6 : m .cores = false)
    (h7 : m .drill = false) (h8 : m .gln = false) (h9 : m .granary = false) (h10 : m .host = false) (h11 : m .mem =
    false) (h12 : m .reeve = false) (h13 : m .seedbox = false) (h14 : m .sent = false) (h15 : m .vecs = false) (s :
    State) (e : ℕ) :
    (State.endReport s e).keep m = s.keep m := by unfold State.endReport; (repeat' split) <;> simp [*]

end Sys2Proof.Machine
end

