-- ==== Sys2Proof/Laws/KeepHost.lean ====
section
/-! SUPPORT. What the operations and commands of Machine/Host.lean keep: each changes only the facets
named in its hypotheses (`State.keep`). -/

namespace Sys2Proof.Machine

variable {m : Facet → Bool}


@[simp] theorem State.setStream_keep (h0 : m .host = false) (s : State) (n : ℕ) (x : Stream) :
    (State.setStream s n x).keep m = s.keep m := by simp [State.setStream, *]
@[simp] theorem State.streamEvent_keep (h0 : m (.blk .FUR) = false) (h1 : m .sent = false) (h2 : m .vecs = false) (s :
    State) (n : ℕ) :
    (State.streamEvent s n).keep m = s.keep m := by simp [State.streamEvent, *]
@[simp] theorem State.commitWord_keep (h0 : m (.blk .GRN) = false) (h1 : m (.blk .RV) = false) (h2 : m .caches =
    false) (h3 : m .cores = false) (h4 : m .granary = false) (h5 : m .mem = false) (h6 : m .reeve = false) (h7 : m
    .seedbox = false) (h8 : m .sent = false) (s : State) (n : ℕ) (x : Stream) :
    (State.commitWord s n x).keep m = s.keep m := by simp [State.commitWord, *]
@[simp] theorem State.flushRead_keep (h0 : m .host = false) (h1 : m .sent = false) (s : State) (n : ℕ) :
    (State.flushRead s n).keep m = s.keep m := by
  unfold State.flushRead
  repeat' (first | (simp [h0, h1]; done) | split | (refine (foldl_keep (fun s a => ?_) _ _).trans ?_) | (simp only [Prod.ext_iff] at *; casesm* _ ∧ _; subst_vars; simp [h0, h1]; done) | (simp only [keeps_next]) | simp [h0, h1] | (refine (State.hostRead_keep (m := m) (by simp only [h0, h1]) (by simp only [h0, h1]) _ _ _ _ _ _ ‹State.hostRead _ _ _ _ _ = some _›).trans ?_))
@[simp] theorem State.tryClose_keep (h0 : m .drill = false) (s : State) (n : ℕ) :
    (State.tryClose s n).keep m = s.keep m := by unfold State.tryClose; (repeat' split) <;> simp [*]
@[simp] theorem State.pauseStream_keep (h0 : m (.blk .FUR) = false) (h1 : m (.blk .HRW) = false) (h2 : m .drill =
    false) (h3 : m .host = false) (h4 : m .sent = false) (h5 : m .vecs = false) (s : State) (n : ℕ) (lost : Bool) :
    (State.pauseStream s n lost).keep m = s.keep m := by unfold State.pauseStream; (repeat' split) <;> simp [*]
@[simp] theorem State.commitElement_keep (h0 : m (.blk .FUR) = false) (h1 : m (.blk .GRN) = false) (h2 : m (.blk .HRW)
    = false) (h3 : m (.blk .RV) = false) (h4 : m .caches = false) (h5 : m .cores = false) (h6 : m .drill = false) (h7
    : m .granary = false) (h8 : m .host = false) (h9 : m .mem = false) (h10 : m .reeve = false) (h11 : m .seedbox =
    false) (h12 : m .sent = false) (h13 : m .vecs = false) (s : State) (n : ℕ) (x : Stream) :
    (State.commitElement s n x).keep m = s.keep m := by simp [State.commitElement, *]
@[simp] theorem State.blockMoved_keep (h0 : m (.blk .FUR) = false) (h1 : m (.blk .GRN) = false) (h2 : m (.blk .HRW) =
    false) (h3 : m (.blk .RV) = false) (h4 : m (.blk .TLY) = false) (h5 : m .caches = false) (h6 : m .cores = false)
    (h7 : m .drill = false) (h8 : m .granary = false) (h9 : m .host = false) (h10 : m .mem = false) (h11 : m .reeve =
    false) (h12 : m .seedbox = false) (h13 : m .sent = false) (h14 : m .vecs = false) (s : State) (n : ℕ) (x : Stream)
    :
    (State.blockMoved s n x).keep m = s.keep m := by simp [State.blockMoved, *]
@[simp] theorem State.blockIn_keep (h0 : m (.blk .FUR) = false) (h1 : m (.blk .GRN) = false) (h2 : m (.blk .HRW) =
    false) (h3 : m (.blk .RV) = false) (h4 : m (.blk .TLY) = false) (h5 : m .caches = false) (h6 : m .cores = false)
    (h7 : m .drill = false) (h8 : m .granary = false) (h9 : m .host = false) (h10 : m .mem = false) (h11 : m .reeve =
    false) (h12 : m .seedbox = false) (h13 : m .sent = false) (h14 : m .vecs = false) (s : State) (n : ℕ) (off : ℕ) (b
    : List Byte) :
    (State.blockIn s n off b).keep m = s.keep m := by
  unfold State.blockIn; (repeat' split) <;> (try simp only [Prod.ext_iff] at *) <;> (try casesm* _ ∧ _) <;> (try subst_vars) <;> simp [*]
@[simp] theorem State.moveBlock_keep (h0 : m (.blk .FUR) = false) (h1 : m (.blk .GRN) = false) (h2 : m (.blk .HRW) =
    false) (h3 : m (.blk .RV) = false) (h4 : m (.blk .TLY) = false) (h5 : m .caches = false) (h6 : m .cores = false)
    (h7 : m .drill = false) (h8 : m .granary = false) (h9 : m .host = false) (h10 : m .mem = false) (h11 : m .reeve =
    false) (h12 : m .seedbox = false) (h13 : m .sent = false) (h14 : m .vecs = false) (s : State) (n : ℕ) (x : Stream)
    :
    (State.moveBlock s n x).keep m = s.keep m := by
  unfold State.moveBlock
  repeat' (first | (simp [h0, h1, h2, h3, h4, h5, h6, h7, h8, h9, h10, h11, h12, h13, h14]; done) | split | (refine (foldl_keep (fun s a => ?_) _ _).trans ?_) | (simp only [Prod.ext_iff] at *; casesm* _ ∧ _; subst_vars; simp [h0, h1, h2, h3, h4, h5, h6, h7, h8, h9, h10, h11, h12, h13, h14]; done) | (simp only [keeps_next]) | simp [h0, h1, h2, h3, h4, h5, h6, h7, h8, h9, h10, h11, h12, h13, h14] | (refine (State.hostRead_keep (m := m) (by simp only [h0, h1, h2, h3, h4, h5, h6, h7, h8, h9, h10, h11, h12, h13, h14]) (by simp only [h0, h1, h2, h3, h4, h5, h6, h7, h8, h9, h10, h11, h12, h13, h14]) _ _ _ _ _ _ ‹State.hostRead _ _ _ _ _ = some _›).trans ?_))
@[simp] theorem execElementCommit_keep (h0 : m (.blk .FUR) = false) (h1 : m (.blk .GRN) = false) (h2 : m (.blk .HRW) =
    false) (h3 : m (.blk .RV) = false) (h4 : m (.blk .TLY) = false) (h5 : m .caches = false) (h6 : m .cores = false)
    (h7 : m .drill = false) (h8 : m .granary = false) (h9 : m .host = false) (h10 : m .mem = false) (h11 : m .reeve =
    false) (h12 : m .seedbox = false) (h13 : m .sent = false) (h14 : m .vecs = false) (n : Fin 2048) (res : MemRes) (s
    : State) :
    Keeps m s (execElementCommit n res s) := by
  unfold execElementCommit
  repeat' (first | (simp [*]; done) | split | (refine (foldl_keep (fun s a => ?_) _ _).trans ?_) | (apply State.withRes_keep <;> (first | (simp only [h0, h1, h2, h3, h4, h5, h6, h7, h8, h9, h10, h11, h12, h13, h14]; done) | (intros; dsimp only) | intros)) | (simp only [Prod.ext_iff] at *; casesm* _ ∧ _; subst_vars; simp [*]; done) | (simp only [keeps_next]) | simp [*])
@[simp] theorem execStreamOpen_keep (h0 : m (.blk .GRN) = false) (h1 : m (.blk .HRW) = false) (h2 : m (.blk .RV) =
    false) (h3 : m .caches = false) (h4 : m .cores = false) (h5 : m .drill = false) (h6 : m .granary = false) (h7 : m
    .host = false) (h8 : m .mem = false) (h9 : m .reeve = false) (h10 : m .seedbox = false) (h11 : m .sent = false) (e
    : Fin 4096) (n : Fin 2048) (s : State) :
    Keeps m s (execStreamOpen e n s) := by
  unfold execStreamOpen
  repeat' (first | (simp [*]; done) | split | (refine (foldl_keep (fun s a => ?_) _ _).trans ?_) | (apply State.work_keep <;> (first | (simp only [h0, h1, h2, h3, h4, h5, h6, h7, h8, h9, h10, h11]; done) | (intros; dsimp only) | intros)) | (simp only [Prod.ext_iff] at *; casesm* _ ∧ _; subst_vars; simp [*]; done) | (simp only [keeps_next]) | simp [*])
@[simp] theorem execStreamClose_keep (h0 : m .drill = false) (h1 : m .host = false) (e : Fin 4096) (s : State) :
    Keeps m s (execStreamClose e s) := by
  unfold execStreamClose
  repeat' (first | (simp [*]; done) | split | (refine (foldl_keep (fun s a => ?_) _ _).trans ?_) | (apply State.work_keep <;> (first | (simp only [h0, h1]; done) | (intros; dsimp only) | intros)) | (simp only [Prod.ext_iff] at *; casesm* _ ∧ _; subst_vars; simp [*]; done) | (simp only [keeps_next]) | simp [*])
@[simp] theorem State.feedWrite_keep (h0 : m (.blk .HRW) = false) (s : State) (n : ℕ) (v : ℕ) :
    (State.feedWrite s n v).keep m = s.keep m := by unfold State.feedWrite; (repeat' split) <;> simp [*]
@[simp] theorem execFeed_keep (h0 : m (.blk .HRW) = false) (agent : Agent) (n : Fin 2048) (v : BitVec 32) (s : State)
    :
    Keeps m s (execFeed agent n v s) := by simp [execFeed, *]
@[simp] theorem execFeedPoll_keep (h0 : m (.blk .GRN) = false) (h1 : m (.blk .HRW) = false) (h2 : m (.blk .RV) =
    false) (h3 : m .caches = false) (h4 : m .cores = false) (h5 : m .granary = false) (h6 : m .mem = false) (h7 : m
    .reeve = false) (n : Fin 2048) (res : MemRes) (s : State) :
    Keeps m s (execFeedPoll n res s) := by
  unfold execFeedPoll
  repeat' (first | (simp [*]; done) | split | (refine (foldl_keep (fun s a => ?_) _ _).trans ?_) | (apply State.withRes_keep <;> (first | (simp only [h0, h1, h2, h3, h4, h5, h6, h7]; done) | (intros; dsimp only) | intros)) | (simp only [Prod.ext_iff] at *; casesm* _ ∧ _; subst_vars; simp [*]; done) | (simp only [keeps_next]) | simp [*])
@[simp] theorem State.capFlush_keep (h0 : m .host = false) (s : State) (n : ℕ) (a : ℕ) :
    (State.capFlush s n a).keep m = s.keep m := by simp [State.capFlush, *]
@[simp] theorem State.resumeStream_keep (h0 : m (.blk .GRN) = false) (h1 : m (.blk .HRW) = false) (h2 : m (.blk .RV) =
    false) (h3 : m .caches = false) (h4 : m .cores = false) (h5 : m .granary = false) (h6 : m .host = false) (h7 : m
    .mem = false) (h8 : m .reeve = false) (h9 : m .seedbox = false) (h10 : m .sent = false) (s : State) (n : ℕ) :
    (State.resumeStream s n).keep m = s.keep m := by unfold State.resumeStream; (repeat' split) <;> simp [*]
@[simp] theorem execResume_keep (h0 : m (.blk .GRN) = false) (h1 : m (.blk .HRW) = false) (h2 : m (.blk .RV) = false)
    (h3 : m .caches = false) (h4 : m .cores = false) (h5 : m .granary = false) (h6 : m .host = false) (h7 : m .mem =
    false) (h8 : m .reeve = false) (h9 : m .seedbox = false) (h10 : m .sent = false) (agent : Agent) (n : Fin 2048) (s
    : State) :
    Keeps m s (execResume agent n s) := by simp [execResume, *]
@[simp] theorem State.pauseStreams_keep (h0 : m (.blk .FUR) = false) (h1 : m (.blk .HRW) = false) (h2 : m .drill =
    false) (h3 : m .host = false) (h4 : m .sent = false) (h5 : m .vecs = false) (s : State) (p : ℕ) (lost : Bool) :
    (State.pauseStreams s p lost).keep m = s.keep m := by simp [State.pauseStreams, *]
@[simp] theorem State.detachCause_keep (h0 : m (.blk .FUR) = false) (h1 : m (.blk .HRW) = false) (h2 : m (.blk .HST) =
    false) (h3 : m (.blk .RV) = false) (h4 : m .drill = false) (h5 : m .host = false) (h6 : m .reeve = false) (h7 : m
    .sent = false) (h8 : m .vecs = false) (s : State) (p : ℕ) (cause : ℕ) (lost : Bool) :
    (State.detachCause s p cause lost).keep m = s.keep m := by simp [State.detachCause, *]
@[simp] theorem State.detach_keep (h0 : m (.blk .FUR) = false) (h1 : m (.blk .HRW) = false) (h2 : m (.blk .HST) =
    false) (h3 : m (.blk .RV) = false) (h4 : m .drill = false) (h5 : m .host = false) (h6 : m .reeve = false) (h7 : m
    .sent = false) (h8 : m .vecs = false) (s : State) (p : ℕ) (cause : ℕ) (lost : Bool) :
    (State.detach s p cause lost).keep m = s.keep m := by simp [State.detach, *]
@[simp] theorem State.detachFn_keep (h0 : m (.blk .FUR) = false) (h1 : m (.blk .HRW) = false) (h2 : m (.blk .HST) =
    false) (h3 : m (.blk .RV) = false) (h4 : m .drill = false) (h5 : m .host = false) (h6 : m .reeve = false) (h7 : m
    .sent = false) (h8 : m .vecs = false) (s : State) (p : ℕ) (cause : ℕ) :
    (State.detachFn s p cause).keep m = s.keep m := by simp [State.detachFn, *]
@[simp] theorem execBusMasterDisable_keep (h0 : m (.blk .FUR) = false) (h1 : m (.blk .HRW) = false) (h2 : m (.blk
    .HST) = false) (h3 : m (.blk .RV) = false) (h4 : m .drill = false) (h5 : m .host = false) (h6 : m .reeve = false)
    (h7 : m .sent = false) (h8 : m .vecs = false) (p : Plot) (s : State) :
    Keeps m s (execBusMasterDisable p s) := by simp [execBusMasterDisable, *]
@[simp] theorem execD3hot_keep (h0 : m (.blk .FUR) = false) (h1 : m (.blk .HRW) = false) (h2 : m (.blk .HST) = false)
    (h3 : m (.blk .RV) = false) (h4 : m .drill = false) (h5 : m .host = false) (h6 : m .reeve = false) (h7 : m .sent =
    false) (h8 : m .vecs = false) (p : Plot) (s : State) :
    Keeps m s (execD3hot p s) := by simp [execD3hot, *]
@[simp] theorem execD0Return_keep (h0 : m .host = false) (p : Plot) (s : State) :
    Keeps m s (execD0Return p s) := by simp [execD0Return, *]
@[simp] theorem execDetach_keep (h0 : m (.blk .FUR) = false) (h1 : m (.blk .HRW) = false) (h2 : m (.blk .HST) = false)
    (h3 : m (.blk .RV) = false) (h4 : m .drill = false) (h5 : m .host = false) (h6 : m .reeve = false) (h7 : m .sent =
    false) (h8 : m .vecs = false) (agent : Agent) (p : Plot) (s : State) :
    Keeps m s (execDetach agent p s) := by simp [execDetach, *]
@[simp] theorem State.flushed_keep (h0 : m (.blk .FUR) = false) (h1 : m (.blk .GRN) = false) (h2 : m (.blk .HRW) =
    false) (h3 : m (.blk .RV) = false) (h4 : m .caches = false) (h5 : m .cores = false) (h6 : m .drill = false) (h7 :
    m .granary = false) (h8 : m .host = false) (h9 : m .mem = false) (h10 : m .reeve = false) (h11 : m .seedbox =
    false) (h12 : m .sent = false) (h13 : m .vecs = false) (s : State) (n : ℕ) (commit : ℕ) :
    (State.flushed s n commit).keep m = s.keep m := by unfold State.flushed; (repeat' split) <;> simp [*]
@[simp] theorem State.hostData_keep (h0 : m .acre = false) (h1 : m (.blk .BND) = false) (h2 : m (.blk .DRL) = false)
    (h3 : m (.blk .FUR) = false) (h4 : m (.blk .GLN) = false) (h5 : m (.blk .GRN) = false) (h6 : m (.blk .HRW) =
    false) (h7 : m (.blk .RV) = false) (h8 : m (.blk .SWT) = false) (h9 : m (.blk .TLY) = false) (h10 : m .caches =
    false) (h11 : m .cores = false) (h12 : m .drill = false) (h13 : m .gln = false) (h14 : m .granary = false) (h15 :
    m .host = false) (h16 : m .links = false) (h17 : m .mem = false) (h18 : m .reeve = false) (h19 : m .seedbox =
    false) (h20 : m .sent = false) (h21 : m .threads = false) (h22 : m .tiles = false) (h23 : m .vecs = false) (s :
    State) (r : HostRead) (b : List Byte) :
    (State.hostData s r b).keep m = s.keep m := by unfold State.hostData; (repeat' split) <;> simp [*]
@[simp] theorem State.hostFails_keep (h0 : m (.blk .DRL) = false) (h1 : m (.blk .FUR) = false) (h2 : m (.blk .HRW) =
    false) (h3 : m (.blk .HST) = false) (h4 : m (.blk .RV) = false) (h5 : m .drill = false) (h6 : m .host = false) (h7
    : m .reeve = false) (h8 : m .sent = false) (h9 : m .threads = false) (h10 : m .vecs = false) (s : State) (r :
    HostRead) :
    (State.hostFails s r).keep m = s.keep m := by unfold State.hostFails; (repeat' split) <;> simp [*]
@[simp] theorem State.dropRead_keep (h0 : m .host = false) (s : State) (tag : ℕ) :
    (State.dropRead s tag).keep m = s.keep m := by simp [State.dropRead, *]
@[simp] theorem execCompletion_keep (h0 : m .acre = false) (h1 : m (.blk .BND) = false) (h2 : m (.blk .DRL) = false)
    (h3 : m (.blk .FUR) = false) (h4 : m (.blk .GLN) = false) (h5 : m (.blk .GRN) = false) (h6 : m (.blk .HRW) =
    false) (h7 : m (.blk .HST) = false) (h8 : m (.blk .RV) = false) (h9 : m (.blk .SWT) = false) (h10 : m (.blk .TLY)
    = false) (h11 : m .caches = false) (h12 : m .cores = false) (h13 : m .drill = false) (h14 : m .gln = false) (h15 :
    m .granary = false) (h16 : m .host = false) (h17 : m .links = false) (h18 : m .mem = false) (h19 : m .reeve =
    false) (h20 : m .seedbox = false) (h21 : m .sent = false) (h22 : m .threads = false) (h23 : m .tiles = false) (h24
    : m .vecs = false) (tag : Fin 1024) (data : Option (List (BitVec 8))) (res : MemRes) (s : State) :
    Keeps m s (execCompletion tag data res s) := by
  unfold execCompletion
  repeat' (first | (simp [*]; done) | split | (refine (foldl_keep (fun s a => ?_) _ _).trans ?_) | (apply State.withRes_keep <;> (first | (simp only [h0, h1, h2, h3, h4, h5, h6, h7, h8, h9, h10, h11, h12, h13, h14, h15, h16, h17, h18, h19, h20, h21, h22, h23, h24]; done) | (intros; dsimp only) | intros)) | (simp only [Prod.ext_iff] at *; casesm* _ ∧ _; subst_vars; simp [*]; done) | (simp only [keeps_next]) | simp [*])
@[simp] theorem State.readTimesOut_keep (h0 : m (.blk .DRL) = false) (h1 : m (.blk .FUR) = false) (h2 : m (.blk .HRW)
    = false) (h3 : m (.blk .HST) = false) (h4 : m (.blk .RV) = false) (h5 : m .drill = false) (h6 : m .host = false)
    (h7 : m .reeve = false) (h8 : m .sent = false) (h9 : m .threads = false) (h10 : m .vecs = false) (s : State) (tag
    : ℕ) :
    (State.readTimesOut s tag).keep m = s.keep m := by unfold State.readTimesOut; (repeat' split) <;> simp [*]
@[simp] theorem execCompletionTimeout_keep (h0 : m (.blk .DRL) = false) (h1 : m (.blk .FUR) = false) (h2 : m (.blk
    .HRW) = false) (h3 : m (.blk .HST) = false) (h4 : m (.blk .RV) = false) (h5 : m .drill = false) (h6 : m .host =
    false) (h7 : m .reeve = false) (h8 : m .sent = false) (h9 : m .threads = false) (h10 : m .vecs = false) (tag : Fin
    1024) (s : State) :
    Keeps m s (execCompletionTimeout tag s) := by simp [execCompletionTimeout, *]
@[simp] theorem execFlushReadComplete_keep (h0 : m .acre = false) (h1 : m (.blk .BND) = false) (h2 : m (.blk .DRL) =
    false) (h3 : m (.blk .FUR) = false) (h4 : m (.blk .GLN) = false) (h5 : m (.blk .GRN) = false) (h6 : m (.blk .HRW)
    = false) (h7 : m (.blk .RV) = false) (h8 : m (.blk .SWT) = false) (h9 : m (.blk .TLY) = false) (h10 : m .caches =
    false) (h11 : m .cores = false) (h12 : m .drill = false) (h13 : m .gln = false) (h14 : m .granary = false) (h15 :
    m .host = false) (h16 : m .links = false) (h17 : m .mem = false) (h18 : m .reeve = false) (h19 : m .seedbox =
    false) (h20 : m .sent = false) (h21 : m .threads = false) (h22 : m .tiles = false) (h23 : m .vecs = false) (n :
    Fin 2048) (res : MemRes) (s : State) :
    Keeps m s (execFlushReadComplete n res s) := by
  unfold execFlushReadComplete
  repeat' (first | (simp [*]; done) | split | (refine (foldl_keep (fun s a => ?_) _ _).trans ?_) | (apply State.withRes_keep <;> (first | (simp only [h0, h1, h2, h3, h4, h5, h6, h7, h8, h9, h10, h11, h12, h13, h14, h15, h16, h17, h18, h19, h20, h21, h22, h23]; done) | (intros; dsimp only) | intros)) | (simp only [Prod.ext_iff] at *; casesm* _ ∧ _; subst_vars; simp [*]; done) | (simp only [keeps_next]) | simp [*])
@[simp] theorem execMsiX_keep (h0 : m .sent = false) (h1 : m .vecs = false) (p : Plot) (vec : Fin 256) (s : State) :
    Keeps m s (execMsiX p vec s) := by simp [execMsiX, *]
@[simp] theorem State.maskVector_keep (h0 : m .sent = false) (h1 : m .vecs = false) (s : State) (p : ℕ) (vec : ℕ) (m_
    : Bool) :
    (State.maskVector s p vec m_).keep m = s.keep m := by simp [State.maskVector, *]
@[simp] theorem State.hostPortReset_keep (h0 : m (.blk .FUR) = false) (h1 : m (.blk .HRW) = false) (h2 : m (.blk .HST)
    = false) (h3 : m (.blk .PWR) = false) (h4 : m (.blk .RV) = false) (h5 : m .drill = false) (h6 : m .host = false)
    (h7 : m .reeve = false) (h8 : m .sent = false) (h9 : m .vecs = false) (s : State) :
    (State.hostPortReset s).keep m = s.keep m := by simp [State.hostPortReset, *]
@[simp] theorem State.dlDown_keep (h0 : m (.blk .DRL) = false) (h1 : m (.blk .FUR) = false) (h2 : m (.blk .HRW) =
    false) (h3 : m (.blk .HST) = false) (h4 : m (.blk .PWR) = false) (h5 : m (.blk .RV) = false) (h6 : m .drill =
    false) (h7 : m .host = false) (h8 : m .reeve = false) (h9 : m .sent = false) (h10 : m .threads = false) (h11 : m
    .vecs = false) (s : State) :
    (State.dlDown s).keep m = s.keep m := by simp [State.dlDown, *]
@[simp] theorem execDlDown_keep (h0 : m (.blk .DRL) = false) (h1 : m (.blk .FUR) = false) (h2 : m (.blk .HRW) = false)
    (h3 : m (.blk .HST) = false) (h4 : m (.blk .PWR) = false) (h5 : m (.blk .RV) = false) (h6 : m .drill = false) (h7
    : m .host = false) (h8 : m .reeve = false) (h9 : m .sent = false) (h10 : m .threads = false) (h11 : m .vecs =
    false) (s : State) :
    Keeps m s (execDlDown s) := by simp [execDlDown, *]
@[simp] theorem execDlUp_keep (h0 : m (.blk .HST) = false) (width : Fin 5) (rate : Fin 6) (s : State) :
    Keeps m s (execDlUp width rate s) := by simp [execDlUp, *]
@[simp] theorem execBarAccessError_keep (h0 : m (.blk .RV) = false) (h1 : m .reeve = false) (p : Plot) (off : BitVec
    30) (size : ℕ) (s : State) :
    Keeps m s (execBarAccessError p off size s) := by simp [execBarAccessError, *]
@[simp] theorem State.rebaseGo_keep (h0 : m (.blk .DRL) = false) (h1 : m (.blk .HST) = false) (h2 : m .host = false)
    (s : State) (p : ℕ) :
    (State.rebaseGo s p).keep m = s.keep m := by simp only [State.rebaseGo]; (repeat' split) <;> simp [*]
@[simp] theorem execRebase_keep (h0 : m (.blk .DRL) = false) (h1 : m (.blk .HST) = false) (h2 : m .host = false)
    (agent : Agent) (p : Plot) (s : State) :
    Keeps m s (execRebase agent p s) := by simp [execRebase, *]
@[simp] theorem State.rebaseWrite_keep (h0 : m (.blk .GRN) = false) (h1 : m (.blk .RV) = false) (h2 : m .caches =
    false) (h3 : m .cores = false) (h4 : m .granary = false) (h5 : m .mem = false) (h6 : m .reeve = false) (h7 : m
    .seedbox = false) (h8 : m .sent = false) (s : State) (p : ℕ) (addr : ℕ) (b : List Byte) :
    (State.rebaseWrite s p addr b).keep m = s.keep m := by simp [State.rebaseWrite, *]
@[simp] theorem execRebaseDone_keep (h0 : m (.blk .GRN) = false) (h1 : m (.blk .HST) = false) (h2 : m (.blk .RV) =
    false) (h3 : m .caches = false) (h4 : m .cores = false) (h5 : m .drill = false) (h6 : m .granary = false) (h7 : m
    .host = false) (h8 : m .mem = false) (h9 : m .reeve = false) (h10 : m .seedbox = false) (h11 : m .sent = false) (p
    : Plot) (s : State) :
    Keeps m s (execRebaseDone p s) := by unfold execRebaseDone; (repeat' split) <;> simp [*]
@[simp] theorem State.attach_keep (h0 : m (.blk .HST) = false) (h1 : m .drill = false) (h2 : m .sent = false) (h3 : m
    .vecs = false) (s : State) (p : ℕ) :
    (State.attach s p).keep m = s.keep m := by simp [State.attach, *]
@[simp] theorem State.openSession_keep (h0 : m (.blk .HST) = false) (h1 : m .fresh = false) (h2 : m .host = false) (s
    : State) (p : ℕ) :
    (State.openSession s p).2.keep m = s.keep m := by simp [State.openSession, *]
@[simp] theorem execReclaim_keep (h0 : m (.blk .HST) = false) (h1 : m .drill = false) (h2 : m .fresh = false) (h3 : m
    .host = false) (h4 : m .sent = false) (h5 : m .vecs = false) (e : Fin 4096) (s : State) :
    Keeps m s (execReclaim e s) := by
  unfold execReclaim
  repeat' (first | (simp [*]; done) | split | (refine (foldl_keep (fun s a => ?_) _ _).trans ?_) | (apply State.work_keep <;> (first | (simp only [h0, h1, h2, h3, h4, h5]; done) | (intros; dsimp only) | intros)) | (simp only [Prod.ext_iff] at *; casesm* _ ∧ _; subst_vars; simp [*]; done) | (simp only [keeps_next]) | simp [*])
@[simp] theorem execReclaimRefusalReply_keep (h0 : m (.blk .DRL) = false) (h1 : m (.blk .GLN) = false) (h2 : m (.blk
    .GRN) = false) (h3 : m (.blk .HRW) = false) (h4 : m (.blk .RV) = false) (h5 : m .caches = false) (h6 : m .cores =
    false) (h7 : m .drill = false) (h8 : m .gln = false) (h9 : m .granary = false) (h10 : m .host = false) (h11 : m
    .mem = false) (h12 : m .reeve = false) (h13 : m .seedbox = false) (h14 : m .sent = false) (h15 : m .vecs = false)
    (e : Fin 4096) (s : State) :
    Keeps m s (execReclaimRefusalReply e s) := by unfold execReclaimRefusalReply; (repeat' split) <;> simp [*]

end Sys2Proof.Machine
end

