-- ==== Sys2Proof/Laws/KeepAcre.lean ====
section
/-! SUPPORT. What the operations and commands of Machine/Acre.lean keep: each changes only the facets
named in its hypotheses (`State.keep`). -/

namespace Sys2Proof.Machine

variable {m : Facet → Bool}


@[simp] theorem State.reportReq_keep (h0 : m (.blk .RV) = false) (h1 : m (.blk .TLY) = false) (h2 : m .links = false)
    (h3 : m .reeve = false) (h4 : m .sent = false) (s : State) (d : ℕ) :
    (State.reportReq s d).keep m = s.keep m := by simp [State.reportReq, *]
@[simp] theorem State.bndUnreach_keep (h0 : m .acre = false) (h1 : m (.blk .BND) = false) (h2 : m (.blk .FUR) = false)
    (h3 : m (.blk .GRN) = false) (h4 : m (.blk .RV) = false) (h5 : m (.blk .TLY) = false) (h6 : m .caches = false) (h7
    : m .cores = false) (h8 : m .granary = false) (h9 : m .links = false) (h10 : m .mem = false) (h11 : m .reeve =
    false) (h12 : m .sent = false) (s : State) (d : ℕ) :
    (State.bndUnreach s d).keep m = s.keep m := by simp [State.bndUnreach, *]
@[simp] theorem State.loseReqs_keep (h0 : m .acre = false) (h1 : m (.blk .BND) = false) (h2 : m (.blk .FUR) = false)
    (h3 : m (.blk .GRN) = false) (h4 : m (.blk .RV) = false) (h5 : m (.blk .SWT) = false) (h6 : m (.blk .TLY) = false)
    (h7 : m .caches = false) (h8 : m .cores = false) (h9 : m .drill = false) (h10 : m .granary = false) (h11 : m
    .links = false) (h12 : m .mem = false) (h13 : m .reeve = false) (h14 : m .sent = false) (h15 : m .threads = false)
    (h16 : m .tiles = false) (s : State) (gone : SwReq → Bool) :
    (State.loseReqs s gone).keep m = s.keep m := by simp [State.loseReqs, *]
@[simp] theorem State.routeUpdate_keep (h0 : m .acre = false) (h1 : m (.blk .BND) = false) (h2 : m (.blk .FUR) =
    false) (h3 : m (.blk .GRN) = false) (h4 : m (.blk .RV) = false) (h5 : m (.blk .SWT) = false) (h6 : m (.blk .TLY) =
    false) (h7 : m .caches = false) (h8 : m .cores = false) (h9 : m .drill = false) (h10 : m .granary = false) (h11 :
    m .links = false) (h12 : m .mem = false) (h13 : m .reeve = false) (h14 : m .sent = false) (h15 : m .threads =
    false) (h16 : m .tiles = false) (s : State) (d : ℕ) :
    (State.routeUpdate s d).keep m = s.keep m := by simp [State.routeUpdate, *]
@[simp] theorem State.routesUpdate_keep (h0 : m .acre = false) (h1 : m (.blk .BND) = false) (h2 : m (.blk .FUR) =
    false) (h3 : m (.blk .GRN) = false) (h4 : m (.blk .RV) = false) (h5 : m (.blk .SWT) = false) (h6 : m (.blk .TLY) =
    false) (h7 : m .caches = false) (h8 : m .cores = false) (h9 : m .drill = false) (h10 : m .granary = false) (h11 :
    m .links = false) (h12 : m .mem = false) (h13 : m .reeve = false) (h14 : m .sent = false) (h15 : m .threads =
    false) (h16 : m .tiles = false) (s : State) :
    (State.routesUpdate s).keep m = s.keep m := by simp [State.routesUpdate, *]
@[simp] theorem State.routeRetry_keep (h0 : m .acre = false) (h1 : m (.blk .BND) = false) (h2 : m (.blk .FUR) = false)
    (h3 : m (.blk .GRN) = false) (h4 : m (.blk .RV) = false) (h5 : m (.blk .SWT) = false) (h6 : m (.blk .TLY) = false)
    (h7 : m .caches = false) (h8 : m .cores = false) (h9 : m .drill = false) (h10 : m .granary = false) (h11 : m
    .links = false) (h12 : m .mem = false) (h13 : m .reeve = false) (h14 : m .sent = false) (h15 : m .threads = false)
    (h16 : m .tiles = false) (s : State) (d : ℕ) :
    (State.routeRetry s d).keep m = s.keep m := by simp [State.routeRetry, *]
@[simp] theorem State.linkNews_keep (h0 : m .acre = false) (h1 : m (.blk .BND) = false) (h2 : m (.blk .FUR) = false)
    (h3 : m (.blk .GRN) = false) (h4 : m (.blk .RV) = false) (h5 : m (.blk .SWT) = false) (h6 : m (.blk .TLY) = false)
    (h7 : m .caches = false) (h8 : m .cores = false) (h9 : m .drill = false) (h10 : m .granary = false) (h11 : m
    .links = false) (h12 : m .mem = false) (h13 : m .reeve = false) (h14 : m .sent = false) (h15 : m .threads = false)
    (h16 : m .tiles = false) (s : State) (p : ℕ) (k : ℕ) (up : Bool) :
    (State.linkNews s p k up).keep m = s.keep m := by simp [State.linkNews, *]
@[simp] theorem State.floodLstate_keep (h0 : m (.blk .RV) = false) (h1 : m (.blk .TLY) = false) (h2 : m .links =
    false) (h3 : m .reeve = false) (h4 : m .sent = false) (s : State) (p : ℕ) (k : ℕ) (st : ℕ) (seq : ℕ) :
    (State.floodLstate s p k st seq).keep m = s.keep m := by simp [State.floodLstate, *]
@[simp] theorem State.ownLinkNews_keep (h0 : m .acre = false) (h1 : m (.blk .BND) = false) (h2 : m (.blk .FUR) =
    false) (h3 : m (.blk .GRN) = false) (h4 : m (.blk .RV) = false) (h5 : m (.blk .SWT) = false) (h6 : m (.blk .TLY) =
    false) (h7 : m .caches = false) (h8 : m .cores = false) (h9 : m .drill = false) (h10 : m .granary = false) (h11 :
    m .links = false) (h12 : m .mem = false) (h13 : m .reeve = false) (h14 : m .sent = false) (h15 : m .threads =
    false) (h16 : m .tiles = false) (s : State) (k : ℕ) (up : Bool) :
    (State.ownLinkNews s k up).keep m = s.keep m := by simp [State.ownLinkNews, *]
@[simp] theorem State.fabricEn_keep (h0 : m .acre = false) (h1 : m (.blk .BND) = false) (h2 : m (.blk .FUR) = false)
    (h3 : m (.blk .GRN) = false) (h4 : m (.blk .RV) = false) (h5 : m (.blk .SWT) = false) (h6 : m (.blk .SWTL) =
    false) (h7 : m (.blk .TLY) = false) (h8 : m (.blk .YK) = false) (h9 : m .caches = false) (h10 : m .cores = false)
    (h11 : m .drill = false) (h12 : m .granary = false) (h13 : m .links = false) (h14 : m .mem = false) (h15 : m
    .reeve = false) (h16 : m .sent = false) (h17 : m .threads = false) (h18 : m .tiles = false) (s : State) (on :
    Bool) :
    (State.fabricEn s on).keep m = s.keep m := by simp [State.fabricEn, *]
@[simp] theorem execFabricEnable_keep (h0 : m .acre = false) (h1 : m (.blk .BND) = false) (h2 : m (.blk .FUR) = false)
    (h3 : m (.blk .GRN) = false) (h4 : m (.blk .RV) = false) (h5 : m (.blk .SWT) = false) (h6 : m (.blk .SWTL) =
    false) (h7 : m (.blk .TLY) = false) (h8 : m (.blk .YK) = false) (h9 : m .caches = false) (h10 : m .cores = false)
    (h11 : m .drill = false) (h12 : m .granary = false) (h13 : m .links = false) (h14 : m .mem = false) (h15 : m
    .reeve = false) (h16 : m .sent = false) (h17 : m .threads = false) (h18 : m .tiles = false) (agent : Agent) (s :
    State) :
    Keeps m s (execFabricEnable agent s) := by unfold execFabricEnable; (repeat' split) <;> simp [*]
@[simp] theorem State.swLinkUp_keep (h0 : m (.blk .RV) = false) (h1 : m (.blk .SWTL) = false) (h2 : m (.blk .TLY) =
    false) (h3 : m (.blk .YK) = false) (h4 : m .links = false) (h5 : m .reeve = false) (h6 : m .sent = false) (s :
    State) (k : ℕ) :
    (State.swLinkUp s k).keep m = s.keep m := by simp [State.swLinkUp, *]
@[simp] theorem State.swFront_keep (h0 : m .links = false) (s : State) (k : ℕ) (type : ℕ) (f : List Byte → State →
    State) (hf_f : ∀ a0 a1, (f a0 a1).keep m = a1.keep m) :
    Keeps m s (State.swFront s k type f) := by
  unfold State.swFront
  repeat' (first | (simp [h0, hf_f]; done) | split | (refine (foldl_keep (fun s a => ?_) _ _).trans ?_) | (simp only [Prod.ext_iff] at *; casesm* _ ∧ _; subst_vars; simp [h0, hf_f]; done) | (simp only [keeps_next]) | simp [h0, hf_f] | (refine (State.takeMsg_keep (m := m) (by simp only [h0, hf_f]) _ _ _ _ ‹State.takeMsg _ _ _ = some _›).trans ?_))
@[simp] theorem State.swMsg_keep (h0 : m (.blk .RV) = false) (h1 : m (.blk .TLY) = false) (h2 : m .links = false) (h3
    : m .reeve = false) (h4 : m .sent = false) (s : State) (k : ℕ) (type : ℕ) (res : MemRes) (f : List Byte → State →
    State) (hf_f : ∀ a0 a1, (f a0 a1).keep m = a1.keep m) :
    Keeps m s (State.swMsg s k type res f) := by simp [State.swMsg, *]
@[simp] theorem execSwathHello_keep (h0 : m .acre = false) (h1 : m (.blk .BND) = false) (h2 : m (.blk .FUR) = false)
    (h3 : m (.blk .GRN) = false) (h4 : m (.blk .RV) = false) (h5 : m (.blk .SWT) = false) (h6 : m (.blk .SWTL) =
    false) (h7 : m (.blk .TLY) = false) (h8 : m (.blk .YK) = false) (h9 : m .caches = false) (h10 : m .cores = false)
    (h11 : m .drill = false) (h12 : m .granary = false) (h13 : m .links = false) (h14 : m .mem = false) (h15 : m
    .reeve = false) (h16 : m .sent = false) (h17 : m .threads = false) (h18 : m .tiles = false) (k : Fin 6) (s :
    State) :
    Keeps m s (execSwathHello k s) := by simp [execSwathHello, *]
@[simp] theorem execSwathLinkDown_keep (h0 : m .acre = false) (h1 : m (.blk .BND) = false) (h2 : m (.blk .FUR) =
    false) (h3 : m (.blk .GRN) = false) (h4 : m (.blk .RV) = false) (h5 : m (.blk .SWT) = false) (h6 : m (.blk .SWTL)
    = false) (h7 : m (.blk .TLY) = false) (h8 : m (.blk .YK) = false) (h9 : m .caches = false) (h10 : m .cores =
    false) (h11 : m .drill = false) (h12 : m .granary = false) (h13 : m .links = false) (h14 : m .mem = false) (h15 :
    m .reeve = false) (h16 : m .sent = false) (h17 : m .threads = false) (h18 : m .tiles = false) (k : Fin 6) (s :
    State) :
    Keeps m s (execSwathLinkDown k s) := by simp [execSwathLinkDown, *]
@[simp] theorem execLstate_keep (h0 : m .acre = false) (h1 : m (.blk .BND) = false) (h2 : m (.blk .FUR) = false) (h3 :
    m (.blk .GRN) = false) (h4 : m (.blk .RV) = false) (h5 : m (.blk .SWT) = false) (h6 : m (.blk .TLY) = false) (h7 :
    m .caches = false) (h8 : m .cores = false) (h9 : m .drill = false) (h10 : m .granary = false) (h11 : m .links =
    false) (h12 : m .mem = false) (h13 : m .reeve = false) (h14 : m .sent = false) (h15 : m .threads = false) (h16 : m
    .tiles = false) (k : Fin 6) (s : State) :
    Keeps m s (execLstate k s) := by simp [execLstate, *]
@[simp] theorem State.farRead_keep (h0 : m (.blk .GRN) = false) (h1 : m (.blk .RV) = false) (h2 : m .caches = false)
    (h3 : m .reeve = false) (s : State) (addr : ℕ) (len : ℕ) :
    (State.farRead s addr len).2.keep m = s.keep m := by simp only [State.farRead]; (repeat' split) <;> simp [*]
@[simp] theorem State.farWrite_keep (h0 : m (.blk .GRN) = false) (h1 : m (.blk .RV) = false) (h2 : m .caches = false)
    (h3 : m .cores = false) (h4 : m .granary = false) (h5 : m .mem = false) (h6 : m .reeve = false) (h7 : m .seedbox =
    false) (s : State) (addr : ℕ) (b : List Byte) :
    (State.farWrite s addr b).2.keep m = s.keep m := by simp only [State.farWrite]; (repeat' split) <;> simp [*]
@[simp] theorem State.markDone_keep (h0 : m .acre = false) (s : State) (src : ℕ) (id : ℕ) :
    (State.markDone s src id).keep m = s.keep m := by simp [State.markDone, *]
@[simp] theorem State.swAck_keep (h0 : m (.blk .RV) = false) (h1 : m (.blk .TLY) = false) (h2 : m .links = false) (h3
    : m .reeve = false) (h4 : m .sent = false) (s : State) (src : ℕ) (id : ℕ) (result : ℕ) :
    (State.swAck s src id result).keep m = s.keep m := by simp [State.swAck, *]
@[simp] theorem State.swAtomr_keep (h0 : m (.blk .RV) = false) (h1 : m (.blk .TLY) = false) (h2 : m .links = false)
    (h3 : m .reeve = false) (h4 : m .sent = false) (s : State) (src : ℕ) (id : ℕ) (result : ℕ) (old : ℕ) :
    (State.swAtomr s src id result old).keep m = s.keep m := by simp [State.swAtomr, *]
@[simp] theorem execRdreq_keep (h0 : m (.blk .GRN) = false) (h1 : m (.blk .RV) = false) (h2 : m (.blk .TLY) = false)
    (h3 : m .caches = false) (h4 : m .links = false) (h5 : m .reeve = false) (h6 : m .sent = false) (k : Fin 6) (res :
    MemRes) (s : State) :
    Keeps m s (execRdreq k res s) := by
  unfold execRdreq
  repeat' (first | (simp [*]; done) | split | (refine (foldl_keep (fun s a => ?_) _ _).trans ?_) | (apply State.swMsg_keep <;> (first | (simp only [h0, h1, h2, h3, h4, h5, h6]; done) | (intros; dsimp only) | intros)) | (simp only [Prod.ext_iff] at *; casesm* _ ∧ _; subst_vars; simp [*]; done) | (simp only [keeps_next]) | simp [*])
@[simp] theorem State.farStore_keep (h0 : m .acre = false) (h1 : m (.blk .GRN) = false) (h2 : m (.blk .RV) = false)
    (h3 : m (.blk .TLY) = false) (h4 : m .caches = false) (h5 : m .cores = false) (h6 : m .granary = false) (h7 : m
    .links = false) (h8 : m .mem = false) (h9 : m .reeve = false) (h10 : m .seedbox = false) (h11 : m .sent = false)
    (s : State) (m_ : List Byte) (b : List Byte) :
    (State.farStore s m_ b).keep m = s.keep m := by
  unfold State.farStore; dsimp only; (repeat' split) <;> (try simp only [Prod.ext_iff] at *) <;> (try casesm* _ ∧ _) <;> (try subst_vars) <;> (try simp [*])
@[simp] theorem execWr_keep (h0 : m .acre = false) (h1 : m (.blk .GRN) = false) (h2 : m (.blk .RV) = false) (h3 : m
    (.blk .TLY) = false) (h4 : m .caches = false) (h5 : m .cores = false) (h6 : m .granary = false) (h7 : m .links =
    false) (h8 : m .mem = false) (h9 : m .reeve = false) (h10 : m .seedbox = false) (h11 : m .sent = false) (k : Fin
    6) (res : MemRes) (s : State) :
    Keeps m s (execWr k res s) := by unfold execWr; (repeat' split) <;> simp [*]
@[simp] theorem execWr64_keep (h0 : m .acre = false) (h1 : m (.blk .GRN) = false) (h2 : m (.blk .RV) = false) (h3 : m
    (.blk .TLY) = false) (h4 : m .caches = false) (h5 : m .cores = false) (h6 : m .granary = false) (h7 : m .links =
    false) (h8 : m .mem = false) (h9 : m .reeve = false) (h10 : m .seedbox = false) (h11 : m .sent = false) (k : Fin
    6) (res : MemRes) (s : State) :
    Keeps m s (execWr64 k res s) := by unfold execWr64; (repeat' split) <;> simp [*]
@[simp] theorem State.farAtomic_keep (h0 : m .acre = false) (h1 : m (.blk .GRN) = false) (h2 : m (.blk .RV) = false)
    (h3 : m (.blk .TLY) = false) (h4 : m .caches = false) (h5 : m .cores = false) (h6 : m .granary = false) (h7 : m
    .links = false) (h8 : m .mem = false) (h9 : m .reeve = false) (h10 : m .seedbox = false) (h11 : m .sent = false)
    (s : State) (m_ : List Byte) :
    (State.farAtomic s m_).keep m = s.keep m := by
  unfold State.farAtomic; dsimp only; (repeat' split) <;> (try simp only [Prod.ext_iff] at *) <;> (try casesm* _ ∧ _) <;> (try subst_vars) <;> (try simp [*])
@[simp] theorem execAtom_keep (h0 : m .acre = false) (h1 : m (.blk .GRN) = false) (h2 : m (.blk .RV) = false) (h3 : m
    (.blk .TLY) = false) (h4 : m .caches = false) (h5 : m .cores = false) (h6 : m .granary = false) (h7 : m .links =
    false) (h8 : m .mem = false) (h9 : m .reeve = false) (h10 : m .seedbox = false) (h11 : m .sent = false) (k : Fin
    6) (res : MemRes) (s : State) :
    Keeps m s (execAtom k res s) := by unfold execAtom; (repeat' split) <;> simp [*]
@[simp] theorem State.farLoaded_keep (h0 : m .threads = false) (s : State) (h : ℕ) (b : List Byte) :
    (State.farLoaded s h b).keep m = s.keep m := by unfold State.farLoaded; (repeat' split) <;> simp [*]
@[simp] theorem State.finishAtomic_keep (h0 : m .threads = false) (s : State) (h : ℕ) (op : AtomicOp) (old : ℕ) :
    (State.finishAtomic s h op old).keep m = s.keep m := by simp [State.finishAtomic, *]
@[simp] theorem State.farAtomicDone_keep (h0 : m .threads = false) (s : State) (h : ℕ) (old : ℕ) :
    (State.farAtomicDone s h old).keep m = s.keep m := by unfold State.farAtomicDone; (repeat' split) <;> simp [*]
@[simp] theorem State.swLate_keep (h0 : m (.blk .SWT) = false) (s : State) :
    (State.swLate s).keep m = s.keep m := by simp [State.swLate, *]
@[simp] theorem execRdrsp_keep (h0 : m .acre = false) (h1 : m (.blk .BND) = false) (h2 : m (.blk .FUR) = false) (h3 :
    m (.blk .GRN) = false) (h4 : m (.blk .RV) = false) (h5 : m (.blk .SWT) = false) (h6 : m (.blk .TLY) = false) (h7 :
    m .caches = false) (h8 : m .cores = false) (h9 : m .drill = false) (h10 : m .granary = false) (h11 : m .links =
    false) (h12 : m .mem = false) (h13 : m .reeve = false) (h14 : m .seedbox = false) (h15 : m .sent = false) (h16 : m
    .threads = false) (h17 : m .tiles = false) (k : Fin 6) (res : MemRes) (s : State) :
    Keeps m s (execRdrsp k res s) := by
  unfold execRdrsp
  repeat' (first | (simp [h0, h1, h2, h3, h4, h5, h6, h7, h8, h9, h10, h11, h12, h13, h14, h15, h16, h17]; done) | split | (refine (foldl_keep (fun s a => ?_) _ _).trans ?_) | (apply State.swMsg_keep <;> (first | (simp only [h0, h1, h2, h3, h4, h5, h6, h7, h8, h9, h10, h11, h12, h13, h14, h15, h16, h17]; done) | (intros; dsimp only) | intros)) | (simp only [Prod.ext_iff] at *; casesm* _ ∧ _; subst_vars; simp [h0, h1, h2, h3, h4, h5, h6, h7, h8, h9, h10, h11, h12, h13, h14, h15, h16, h17]; done) | (simp only [keeps_next]) | simp [h0, h1, h2, h3, h4, h5, h6, h7, h8, h9, h10, h11, h12, h13, h14, h15, h16, h17] | (refine (State.swTake_keep (m := m) (by simp only [h0, h1, h2, h3, h4, h5, h6, h7, h8, h9, h10, h11, h12, h13, h14, h15, h16, h17]) (by simp only [h0, h1, h2, h3, h4, h5, h6, h7, h8, h9, h10, h11, h12, h13, h14, h15, h16, h17]) (by simp only [h0, h1, h2, h3, h4, h5, h6, h7, h8, h9, h10, h11, h12, h13, h14, h15, h16, h17]) (by simp only [h0, h1, h2, h3, h4, h5, h6, h7, h8, h9, h10, h11, h12, h13, h14, h15, h16, h17]) (by simp only [h0, h1, h2, h3, h4, h5, h6, h7, h8, h9, h10, h11, h12, h13, h14, h15, h16, h17]) (by simp only [h0, h1, h2, h3, h4, h5, h6, h7, h8, h9, h10, h11, h12, h13, h14, h15, h16, h17]) _ _ _ _ _ ‹State.swTake _ _ _ _ = some _›).trans ?_))
@[simp] theorem State.swDone_keep (h0 : m .acre = false) (h1 : m (.blk .BND) = false) (h2 : m (.blk .FUR) = false) (h3
    : m (.blk .GRN) = false) (h4 : m (.blk .RV) = false) (h5 : m (.blk .SWT) = false) (h6 : m (.blk .TLY) = false) (h7
    : m .caches = false) (h8 : m .cores = false) (h9 : m .drill = false) (h10 : m .granary = false) (h11 : m .host =
    false) (h12 : m .links = false) (h13 : m .mem = false) (h14 : m .reeve = false) (h15 : m .sent = false) (h16 : m
    .threads = false) (h17 : m .tiles = false) (s : State) (r : SwReq) (old : ℕ) :
    (State.swDone s r old).keep m = s.keep m := by unfold State.swDone; (repeat' split) <;> simp [*]
@[simp] theorem State.swAnswer_keep (h0 : m .acre = false) (h1 : m (.blk .BND) = false) (h2 : m (.blk .FUR) = false)
    (h3 : m (.blk .GRN) = false) (h4 : m (.blk .RV) = false) (h5 : m (.blk .SWT) = false) (h6 : m (.blk .TLY) = false)
    (h7 : m .caches = false) (h8 : m .cores = false) (h9 : m .drill = false) (h10 : m .granary = false) (h11 : m .host
    = false) (h12 : m .links = false) (h13 : m .mem = false) (h14 : m .reeve = false) (h15 : m .sent = false) (h16 : m
    .threads = false) (h17 : m .tiles = false) (s : State) (m_ : List Byte) (old : ℕ) :
    (State.swAnswer s m_ old).keep m = s.keep m := by
  unfold State.swAnswer
  repeat' (first | (simp [h0, h1, h2, h3, h4, h5, h6, h7, h8, h9, h10, h11, h12, h13, h14, h15, h16, h17]; done) | split | (refine (foldl_keep (fun s a => ?_) _ _).trans ?_) | (simp only [Prod.ext_iff] at *; casesm* _ ∧ _; subst_vars; simp [h0, h1, h2, h3, h4, h5, h6, h7, h8, h9, h10, h11, h12, h13, h14, h15, h16, h17]; done) | (simp only [keeps_next]) | simp [h0, h1, h2, h3, h4, h5, h6, h7, h8, h9, h10, h11, h12, h13, h14, h15, h16, h17] | (refine (State.swTake_keep (m := m) (by simp only [h0, h1, h2, h3, h4, h5, h6, h7, h8, h9, h10, h11, h12, h13, h14, h15, h16, h17]) (by simp only [h0, h1, h2, h3, h4, h5, h6, h7, h8, h9, h10, h11, h12, h13, h14, h15, h16, h17]) (by simp only [h0, h1, h2, h3, h4, h5, h6, h7, h8, h9, h10, h11, h12, h13, h14, h15, h16, h17]) (by simp only [h0, h1, h2, h3, h4, h5, h6, h7, h8, h9, h10, h11, h12, h13, h14, h15, h16, h17]) (by simp only [h0, h1, h2, h3, h4, h5, h6, h7, h8, h9, h10, h11, h12, h13, h14, h15, h16, h17]) (by simp only [h0, h1, h2, h3, h4, h5, h6, h7, h8, h9, h10, h11, h12, h13, h14, h15, h16, h17]) _ _ _ _ _ ‹State.swTake _ _ _ _ = some _›).trans ?_))
@[simp] theorem execAck_keep (h0 : m .acre = false) (h1 : m (.blk .BND) = false) (h2 : m (.blk .FUR) = false) (h3 : m
    (.blk .GRN) = false) (h4 : m (.blk .RV) = false) (h5 : m (.blk .SWT) = false) (h6 : m (.blk .TLY) = false) (h7 : m
    .caches = false) (h8 : m .cores = false) (h9 : m .drill = false) (h10 : m .granary = false) (h11 : m .host =
    false) (h12 : m .links = false) (h13 : m .mem = false) (h14 : m .reeve = false) (h15 : m .sent = false) (h16 : m
    .threads = false) (h17 : m .tiles = false) (k : Fin 6) (s : State) :
    Keeps m s (execAck k s) := by simp [execAck, *]
@[simp] theorem execAtomr_keep (h0 : m .acre = false) (h1 : m (.blk .BND) = false) (h2 : m (.blk .FUR) = false) (h3 :
    m (.blk .GRN) = false) (h4 : m (.blk .RV) = false) (h5 : m (.blk .SWT) = false) (h6 : m (.blk .TLY) = false) (h7 :
    m .caches = false) (h8 : m .cores = false) (h9 : m .drill = false) (h10 : m .granary = false) (h11 : m .host =
    false) (h12 : m .links = false) (h13 : m .mem = false) (h14 : m .reeve = false) (h15 : m .sent = false) (h16 : m
    .threads = false) (h17 : m .tiles = false) (k : Fin 6) (s : State) :
    Keeps m s (execAtomr k s) := by simp [execAtomr, *]
@[simp] theorem execRequestLost_keep (h0 : m .acre = false) (h1 : m (.blk .BND) = false) (h2 : m (.blk .FUR) = false)
    (h3 : m (.blk .GRN) = false) (h4 : m (.blk .RV) = false) (h5 : m (.blk .SWT) = false) (h6 : m (.blk .TLY) = false)
    (h7 : m .caches = false) (h8 : m .cores = false) (h9 : m .drill = false) (h10 : m .granary = false) (h11 : m
    .links = false) (h12 : m .mem = false) (h13 : m .reeve = false) (h14 : m .sent = false) (h15 : m .threads = false)
    (h16 : m .tiles = false) (dst : Fin 64) (id : BitVec 32) (read : Bool) (s : State) :
    Keeps m s (execRequestLost dst id read s) := by simp [execRequestLost, *]
@[simp] theorem execRptreq_keep (h0 : m (.blk .RV) = false) (h1 : m (.blk .TLY) = false) (h2 : m .links = false) (h3 :
    m .reeve = false) (h4 : m .sent = false) (k : Fin 6) (s : State) :
    Keeps m s (execRptreq k s) := by simp [execRptreq, *]
@[simp] theorem execReport_keep (h0 : m .acre = false) (h1 : m (.blk .GRN) = false) (h2 : m (.blk .RV) = false) (h3 :
    m (.blk .TLY) = false) (h4 : m .caches = false) (h5 : m .cores = false) (h6 : m .granary = false) (h7 : m .links =
    false) (h8 : m .mem = false) (h9 : m .reeve = false) (h10 : m .sent = false) (k : Fin 6) (s : State) :
    Keeps m s (execReport k s) := by
  unfold execReport
  repeat' (first | (simp [*]; done) | split | (refine (foldl_keep (fun s a => ?_) _ _).trans ?_) | (apply State.swMsg_keep <;> (first | (simp only [h0, h1, h2, h3, h4, h5, h6, h7, h8, h9, h10]; done) | (intros; dsimp only) | intros)) | (simp only [Prod.ext_iff] at *; casesm* _ ∧ _; subst_vars; simp [*]; done) | (simp only [keeps_next]) | simp [*])
@[simp] theorem State.bndContribute_keep (h0 : m .acre = false) (h1 : m (.blk .BND) = false) (h2 : m (.blk .FUR) =
    false) (h3 : m (.blk .GRN) = false) (h4 : m (.blk .RV) = false) (h5 : m (.blk .TLY) = false) (h6 : m .bnd = false)
    (h7 : m .caches = false) (h8 : m .cores = false) (h9 : m .granary = false) (h10 : m .links = false) (h11 : m .mem
    = false) (h12 : m .reeve = false) (h13 : m .sent = false) (s : State) (n : ℕ) (slot : ℕ) (vals : List ℕ) (poison :
    Bool) (h : Option ℕ) :
    (State.bndContribute s n slot vals poison h).keep m = s.keep m := by simp [State.bndContribute, *]
@[simp] theorem State.sendBinds_keep (h0 : m .acre = false) (h1 : m (.blk .BND) = false) (h2 : m (.blk .FUR) = false)
    (h3 : m (.blk .GRN) = false) (h4 : m (.blk .RV) = false) (h5 : m (.blk .SWT) = false) (h6 : m (.blk .TLY) = false)
    (h7 : m .caches = false) (h8 : m .cores = false) (h9 : m .drill = false) (h10 : m .granary = false) (h11 : m
    .links = false) (h12 : m .mem = false) (h13 : m .reeve = false) (h14 : m .sent = false) (h15 : m .threads = false)
    (h16 : m .tiles = false) (s : State) (dst : ℕ) (n : ℕ) (flags : ℕ) (slot : ℕ) (vals : List ℕ) (tile : Option (ℕ ×
    ℕ)) :
    (State.sendBinds s dst n flags slot vals tile).keep m = s.keep m := by simp [State.sendBinds, *]
@[simp] theorem State.tbindDone_keep (h0 : m .tiles = false) (s : State) (n : ℕ) (k : ℕ) (e : TileEntry) :
    (State.tbindDone s n k e).keep m = s.keep m := by simp [State.tbindDone, *]
@[simp] theorem execSlotArrival_keep (h0 : m .acre = false) (h1 : m (.blk .BND) = false) (h2 : m (.blk .FUR) = false)
    (h3 : m (.blk .GRN) = false) (h4 : m (.blk .RV) = false) (h5 : m (.blk .SWT) = false) (h6 : m (.blk .TLY) = false)
    (h7 : m .bnd = false) (h8 : m .caches = false) (h9 : m .cores = false) (h10 : m .drill = false) (h11 : m .granary
    = false) (h12 : m .links = false) (h13 : m .mem = false) (h14 : m .reeve = false) (h15 : m .sent = false) (h16 : m
    .threads = false) (h17 : m .tiles = false) (n : Cid) (k : Fin 16) (res : MemRes) (s : State) :
    Keeps m s (execSlotArrival n k res s) := by
  unfold execSlotArrival
  repeat' (first | (simp [*]; done) | split | (refine (foldl_keep (fun s a => ?_) _ _).trans ?_) | (apply State.withRes_keep <;> (first | (simp only [h0, h1, h2, h3, h4, h5, h6, h7, h8, h9, h10, h11, h12, h13, h14, h15, h16, h17]; done) | (intros; dsimp only) | intros)) | (simp only [Prod.ext_iff] at *; casesm* _ ∧ _; subst_vars; simp [*]; done) | (simp only [keeps_next]) | simp [*])
@[simp] theorem State.bndAgreed_keep (h0 : m .acre = false) (h1 : m (.blk .BND) = false) (h2 : m (.blk .FUR) = false)
    (h3 : m (.blk .GRN) = false) (h4 : m (.blk .RV) = false) (h5 : m (.blk .SWT) = false) (h6 : m (.blk .TLY) = false)
    (h7 : m .bnd = false) (h8 : m .caches = false) (h9 : m .cores = false) (h10 : m .drill = false) (h11 : m .granary
    = false) (h12 : m .links = false) (h13 : m .mem = false) (h14 : m .reeve = false) (h15 : m .sent = false) (h16 : m
    .threads = false) (h17 : m .tiles = false) (s : State) (op : ℕ) (vals : List ℕ) (w : ℕ) :
    (State.bndAgreed s op vals w).keep m = s.keep m := by simp [State.bndAgreed, *]
@[simp] theorem execBinderRoundComplete_keep (h0 : m .acre = false) (h1 : m (.blk .BND) = false) (h2 : m (.blk .FUR) =
    false) (h3 : m (.blk .GRN) = false) (h4 : m (.blk .RV) = false) (h5 : m (.blk .SWT) = false) (h6 : m (.blk .TLY) =
    false) (h7 : m .bnd = false) (h8 : m .caches = false) (h9 : m .cores = false) (h10 : m .drill = false) (h11 : m
    .granary = false) (h12 : m .links = false) (h13 : m .mem = false) (h14 : m .reeve = false) (h15 : m .sent = false)
    (h16 : m .threads = false) (h17 : m .tiles = false) (op : Fin 64) (res : MemRes) (s : State) :
    Keeps m s (execBinderRoundComplete op res s) := by
  unfold execBinderRoundComplete
  repeat' (first | (simp [*]; done) | split | (refine (foldl_keep (fun s a => ?_) _ _).trans ?_) | (apply State.withRes_keep <;> (first | (simp only [h0, h1, h2, h3, h4, h5, h6, h7, h8, h9, h10, h11, h12, h13, h14, h15, h16, h17]; done) | (intros; dsimp only) | intros)) | (simp only [Prod.ext_iff] at *; casesm* _ ∧ _; subst_vars; simp [*]; done) | (simp only [keeps_next]) | simp [*])
@[simp] theorem State.bindIn_keep (h0 : m .acre = false) (h1 : m (.blk .BND) = false) (h2 : m (.blk .FUR) = false) (h3
    : m (.blk .GRN) = false) (h4 : m (.blk .RV) = false) (h5 : m (.blk .TLY) = false) (h6 : m .bnd = false) (h7 : m
    .caches = false) (h8 : m .cores = false) (h9 : m .granary = false) (h10 : m .links = false) (h11 : m .mem = false)
    (h12 : m .reeve = false) (h13 : m .sent = false) (s : State) (n : ℕ) (slot : ℕ) (first : ℕ) (vals : List ℕ) :
    (State.bindIn s n slot first vals).keep m = s.keep m := by simp [State.bindIn, *]
@[simp] theorem execBind_keep (h0 : m .acre = false) (h1 : m (.blk .BND) = false) (h2 : m (.blk .FUR) = false) (h3 : m
    (.blk .GRN) = false) (h4 : m (.blk .RV) = false) (h5 : m (.blk .TLY) = false) (h6 : m .bnd = false) (h7 : m
    .caches = false) (h8 : m .cores = false) (h9 : m .granary = false) (h10 : m .links = false) (h11 : m .mem = false)
    (h12 : m .reeve = false) (h13 : m .sent = false) (k : Fin 6) (res : MemRes) (s : State) :
    Keeps m s (execBind k res s) := by
  unfold execBind
  repeat' (first | (simp [*]; done) | split | (refine (foldl_keep (fun s a => ?_) _ _).trans ?_) | (apply State.swMsg_keep <;> (first | (simp only [h0, h1, h2, h3, h4, h5, h6, h7, h8, h9, h10, h11, h12, h13]; done) | (intros; dsimp only) | intros)) | (simp only [Prod.ext_iff] at *; casesm* _ ∧ _; subst_vars; simp [*]; done) | (simp only [keeps_next]) | simp [*])
@[simp] theorem execBdone_keep (h0 : m .acre = false) (h1 : m (.blk .BND) = false) (h2 : m (.blk .FUR) = false) (h3 :
    m (.blk .GRN) = false) (h4 : m (.blk .RV) = false) (h5 : m (.blk .TLY) = false) (h6 : m .bnd = false) (h7 : m
    .caches = false) (h8 : m .cores = false) (h9 : m .granary = false) (h10 : m .links = false) (h11 : m .mem = false)
    (h12 : m .reeve = false) (h13 : m .sent = false) (k : Fin 6) (res : MemRes) (s : State) :
    Keeps m s (execBdone k res s) := by
  unfold execBdone
  repeat' (first | (simp [*]; done) | split | (refine (foldl_keep (fun s a => ?_) _ _).trans ?_) | (apply State.swMsg_keep <;> (first | (simp only [h0, h1, h2, h3, h4, h5, h6, h7, h8, h9, h10, h11, h12, h13]; done) | (intros; dsimp only) | intros)) | (simp only [Prod.ext_iff] at *; casesm* _ ∧ _; subst_vars; simp [*]; done) | (simp only [keeps_next]) | simp [*])

end Sys2Proof.Machine
end

