-- ==== Sys2Proof/Laws/KeepParams.lean ====
section
/-! SUPPORT. What the operations and commands of Machine/Params.lean keep: each changes only the facets
named in its hypotheses (`State.keep`). -/

namespace Sys2Proof.Machine

variable {m : Facet → Bool}


@[simp] theorem State.flashWrite_keep (h0 : m .boot = false) (s : State) (a : ℕ) (bytes : List Byte) :
    (State.flashWrite s a bytes).keep m = s.keep m := by simp [State.flashWrite, *]

end Sys2Proof.Machine
end

