-- ==== Sys2Proof/Laws/KeepIslandBase.lean ====
section
/-! SUPPORT. What the operations and commands of Machine/IslandBase.lean keep: each changes only the facets
named in its hypotheses (`State.keep`). -/

namespace Sys2Proof.Machine

variable {m : Facet → Bool}


@[simp] theorem State.setHs_keep (h0 : m (.blk .HDL) = false) (s : State) (v : ℕ) :
    (State.setHs s v).keep m = s.keep m := by simp [State.setHs, *]
@[simp] theorem State.mapIsl_keep (h0 : m .isl = false) (s : State) (f : Island → Island) :
    (State.mapIsl s f).keep m = s.keep m := by simp [State.mapIsl, *]
@[simp] theorem State.islEvent_keep (h0 : m (.blk .HDL) = false) (s : State) (k : ℕ) :
    (State.islEvent s k).keep m = s.keep m := by simp [State.islEvent, *]
@[simp] theorem State.setAuth_keep (h0 : m (.blk .HDL) = false) (s : State) (b : Bool) :
    (State.setAuth s b).keep m = s.keep m := by simp [State.setAuth, *]
@[simp] theorem State.showSet_keep (h0 : m (.blk .HDL) = false) (s : State) :
    (State.showSet s).keep m = s.keep m := by unfold State.showSet; (repeat' split) <;> simp [*]
@[simp] theorem State.showCauses_keep (h0 : m (.blk .HDL) = false) (s : State) :
    (State.showCauses s).keep m = s.keep m := by simp [State.showCauses, *]
@[simp] theorem State.pathsOff_keep (h0 : m (.blk .HDL) = false) (h1 : m .isl = false) (s : State) :
    (State.pathsOff s).keep m = s.keep m := by simp [State.pathsOff, *]
@[simp] theorem State.leaveOperation_keep (h0 : m (.blk .HDL) = false) (h1 : m .isl = false) (s : State) :
    (State.leaveOperation s).keep m = s.keep m := by simp [State.leaveOperation, *]
@[simp] theorem State.enterFault_keep (h0 : m (.blk .HDL) = false) (h1 : m .isl = false) (s : State) :
    (State.enterFault s).keep m = s.keep m := by simp [State.enterFault, *]
@[simp] theorem State.disarmOperate_keep (h0 : m (.blk .HDL) = false) (h1 : m .isl = false) (s : State) :
    (State.disarmOperate s).keep m = s.keep m := by simp [State.disarmOperate, *]
@[simp] theorem State.enterFail_keep (h0 : m (.blk .HDL) = false) (h1 : m .isl = false) (s : State) :
    (State.enterFail s).keep m = s.keep m := by simp [State.enterFail, *]
@[simp] theorem State.islandReset_keep (h0 : m (.blk .HDL) = false) (h1 : m .boot = false) (h2 : m .fresh = false) (h3
    : m .isl = false) (s : State) (powerOn : Bool) :
    (State.islandReset s powerOn).keep m = s.keep m := by simp only [State.islandReset]; (repeat' split) <;> simp [*]

end Sys2Proof.Machine
end

