-- ==== Sys2Proof/Laws/KeepSafeIo.lean ====
section
/-! SUPPORT. What the operations and commands of Machine/SafeIo.lean keep: each changes only the facets
named in its hypotheses (`State.keep`). -/

namespace Sys2Proof.Machine

variable {m : Facet → Bool}


@[simp] theorem execInputSample_keep (h0 : m (.blk .HDL) = false) (h1 : m .isl = false) (pins : Pins) (s : State) :
    Keeps m s (execInputSample pins s) := by simp only [execInputSample]; (repeat' split) <;> simp [*]
@[simp] theorem State.showInputs_keep (h0 : m (.blk .HDL) = false) (s : State) :
    (State.showInputs s).keep m = s.keep m := by simp [State.showInputs, *]
@[simp] theorem State.evalInputs_keep (h0 : m (.blk .HDL) = false) (h1 : m .isl = false) (s : State) :
    (State.evalInputs s).keep m = s.keep m := by simp [State.evalInputs, *]
@[simp] theorem execDiscrepancy_keep (h0 : m (.blk .HDL) = false) (h1 : m .isl = false) (n : Fin 8) (s : State) :
    Keeps m s (execDiscrepancy n s) := by unfold execDiscrepancy; (repeat' split) <;> simp [*]
@[simp] theorem execTestPulse_keep (h0 : m (.blk .HDL) = false) (h1 : m .isl = false) (b : Bool) (pins : Pins) (s :
    State) :
    Keeps m s (execTestPulse b pins s) := by simp only [execTestPulse]; (repeat' split) <;> simp [*]
@[simp] theorem State.checkChans_keep (h0 : m .isl = false) (s : State) :
    (State.checkChans s).keep m = s.keep m := by simp [State.checkChans, *]
@[simp] theorem State.showOutputs_keep (h0 : m (.blk .HDL) = false) (s : State) :
    (State.showOutputs s).keep m = s.keep m := by simp [State.showOutputs, *]
@[simp] theorem execOffPulse_keep (h0 : m (.blk .HDL) = false) (h1 : m .isl = false) (i : Fin 16) (off : Bool) (back :
    Bool) (s : State) :
    Keeps m s (execOffPulse i off back s) := by simp only [execOffPulse]; (repeat' split) <;> simp [*]
@[simp] theorem State.evalOutput_keep (h0 : m (.blk .HDL) = false) (h1 : m .isl = false) (s : State) (o : ℕ) :
    (State.evalOutput s o).keep m = s.keep m := by unfold State.evalOutput; (repeat' split) <;> simp [*]
@[simp] theorem State.evalOutputs_keep (h0 : m (.blk .HDL) = false) (h1 : m .isl = false) (s : State) :
    (State.evalOutputs s).keep m = s.keep m := by simp [State.evalOutputs, *]
@[simp] theorem State.driveOutputs_keep (h0 : m .isl = false) (s : State) :
    (State.driveOutputs s).keep m = s.keep m := by simp [State.driveOutputs, *]
@[simp] theorem execCfTime_keep (h0 : m (.blk .HDL) = false) (h1 : m .isl = false) (o : Fin 4) (s : State) :
    Keeps m s (execCfTime o s) := by unfold execCfTime; (repeat' split) <;> simp [*]

end Sys2Proof.Machine
end

