-- ==== Sys2Proof/Laws/KeepMotion.lean ====
section
/-! SUPPORT. What the operations and commands of Machine/Motion.lean keep: each changes only the facets
named in its hypotheses (`State.keep`). -/

namespace Sys2Proof.Machine

variable {m : Facet → Bool}


@[simp] theorem State.setAxis_keep (h0 : m .isl = false) (s : State) (n : ℕ) (a : AxisSt) :
    (State.setAxis s n a).keep m = s.keep m := by simp [State.setAxis, *]
@[simp] theorem execEncoderEdge_keep (h0 : m .isl = false) (n : Fin 4) (a : Bool) (b : Bool) (s : State) :
    Keeps m s (execEncoderEdge n a b s) := by simp only [execEncoderEdge]; (repeat' split) <;> simp [*]
@[simp] theorem execIndexPoint_keep (h0 : m (.blk .HDL) = false) (h1 : m .isl = false) (n : Fin 4) (s : State) :
    Keeps m s (execIndexPoint n s) := by unfold execIndexPoint; (repeat' split) <;> simp [*]
@[simp] theorem execObserverSample_keep (h0 : m (.blk .HDL) = false) (h1 : m .isl = false) (n : Fin 4) (bits : SdBits)
    (s : State) :
    Keeps m s (execObserverSample n bits s) := by simp only [execObserverSample]; (repeat' split) <;> simp [*]
@[simp] theorem State.showAxis_keep (h0 : m (.blk .HDL) = false) (s : State) (n : ℕ) (r : AxisRec) (a : AxisSt) :
    (State.showAxis s n r a).keep m = s.keep m := by simp [State.showAxis, *]
@[simp] theorem State.evalAxis_keep (h0 : m (.blk .HDL) = false) (h1 : m .isl = false) (s : State) (n : ℕ) :
    (State.evalAxis s n).keep m = s.keep m := by unfold State.evalAxis; (repeat' split) <;> simp [*]
@[simp] theorem State.evalAxes_keep (h0 : m (.blk .HDL) = false) (h1 : m .isl = false) (s : State) :
    (State.evalAxes s).keep m = s.keep m := by simp [State.evalAxes, *]
@[simp] theorem State.driveAxes_keep (h0 : m .isl = false) (s : State) :
    (State.driveAxes s).keep m = s.keep m := by simp [State.driveAxes, *]
@[simp] theorem State.putAxis_keep (h0 : m (.blk .HDL) = false) (h1 : m .isl = false) (s : State) (n : ℕ) (r :
    AxisRec) (a : AxisSt) :
    (State.putAxis s n r a).keep m = s.keep m := by simp [State.putAxis, *]
@[simp] theorem execTBlind_keep (h0 : m (.blk .HDL) = false) (h1 : m .isl = false) (n : Fin 4) (s : State) :
    Keeps m s (execTBlind n s) := by unfold execTBlind; (repeat' split) <;> simp [*]
@[simp] theorem execDackTimeout_keep (h0 : m (.blk .HDL) = false) (h1 : m .isl = false) (n : Fin 4) (s : State) :
    Keeps m s (execDackTimeout n s) := by unfold execDackTimeout; (repeat' split) <;> simp [*]
@[simp] theorem execTSs_keep (h0 : m (.blk .HDL) = false) (h1 : m .isl = false) (n : Fin 4) (s : State) :
    Keeps m s (execTSs n s) := by simp only [execTSs]; (repeat' split) <;> simp [*]

end Sys2Proof.Machine
end

