-- ==== Sys2Proof/Laws/KeepHitch.lean ====
section
/-! SUPPORT. What the operations and commands of Machine/Hitch.lean keep: each changes only the facets
named in its hypotheses (`State.keep`). -/

namespace Sys2Proof.Machine

variable {m : Facet → Bool}


@[simp] theorem State.setConn_keep (h0 : m .isl = false) (s : State) (n : ℕ) (c : ConnSt) :
    (State.setConn s n c).keep m = s.keep m := by simp [State.setConn, *]
@[simp] theorem State.sendPdu_keep (h0 : m (.blk .HDL) = false) (h1 : m .sent = false) (s : State) (r : ConnRec) (pdu
    : List Byte) :
    (State.sendPdu s r pdu).keep m = s.keep m := by
  unfold State.sendPdu
  repeat' (first | (simp [*]; done) | split | (refine (foldl_keep (fun s a => ?_) _ _).trans ?_) | (simp only [Prod.ext_iff] at *; casesm* _ ∧ _; subst_vars; simp [*]; done) | (simp only [keeps_next]) | simp [*])
@[simp] theorem State.sendConn_keep (h0 : m (.blk .HDL) = false) (h1 : m .sent = false) (s : State) (n : ℕ) (r :
    ConnRec) (session : ℕ) (type : ℕ) (seq : ℕ) (echo : ℕ) (reason : ℕ) (data : List Byte) :
    (State.sendConn s n r session type seq echo reason data).keep m = s.keep m := by simp [State.sendConn, *]
@[simp] theorem State.connStart_keep (h0 : m (.blk .HDL) = false) (h1 : m .fresh = false) (h2 : m .isl = false) (s :
    State) (n : ℕ) :
    (State.connStart s n).keep m = s.keep m := by simp [State.connStart, *]
@[simp] theorem State.connLost_keep (h0 : m (.blk .HDL) = false) (h1 : m .isl = false) (s : State) (n : ℕ) (reason :
    ℕ) :
    (State.connLost s n reason).keep m = s.keep m := by simp [State.connLost, *]
@[simp] theorem State.connClose_keep (h0 : m (.blk .HDL) = false) (h1 : m .isl = false) (h2 : m .sent = false) (s :
    State) (n : ℕ) (reason : ℕ) :
    (State.connClose s n reason).keep m = s.keep m := by unfold State.connClose; (repeat' split) <;> simp [*]
@[simp] theorem State.connOpen_keep (h0 : m (.blk .HDL) = false) (h1 : m .isl = false) (s : State) (n : ℕ) (session :
    ℕ) (rxAt : ℕ) (r : ConnRec) :
    (State.connOpen s n session rxAt r).keep m = s.keep m := by simp [State.connOpen, *]
@[simp] theorem State.hitchStart_keep (h0 : m (.blk .HDL) = false) (h1 : m .fresh = false) (h2 : m .isl = false) (s :
    State) :
    (State.hitchStart s).keep m = s.keep m := by
  unfold State.hitchStart
  repeat' (first | (simp [*]; done) | split | (refine (foldl_keep (fun s a => ?_) _ _).trans ?_) | (simp only [Prod.ext_iff] at *; casesm* _ ∧ _; subst_vars; simp [*]; done) | (simp only [keeps_next]) | simp [*])
@[simp] theorem State.hitchStop_keep (h0 : m (.blk .HDL) = false) (h1 : m .isl = false) (h2 : m .sent = false) (s :
    State) :
    (State.hitchStop s).keep m = s.keep m := by simp [State.hitchStop, *]
@[simp] theorem State.setPort_keep (h0 : m .isl = false) (s : State) (p : ℕ) (q : HitchPort) :
    (State.setPort s p q).keep m = s.keep m := by simp [State.setPort, *]
@[simp] theorem State.unassignedFrame_keep (h0 : m (.blk .HDL) = false) (h1 : m .isl = false) (h2 : m .sent = false)
    (s : State) (p : ℕ) :
    (State.unassignedFrame s p).keep m = s.keep m := by simp [State.unassignedFrame, *]
@[simp] theorem State.takePdu_keep (h0 : m (.blk .HDL) = false) (h1 : m .isl = false) (h2 : m .sent = false) (s :
    State) (p : ℕ) (n : ℕ) (zero : Bool) (b : List Byte) :
    (State.takePdu s p n zero b).keep m = s.keep m := by simp [State.takePdu, *]
@[simp] theorem execHitchFrameReceive_keep (h0 : m (.blk .HDL) = false) (h1 : m .isl = false) (h2 : m .sent = false)
    (port : Fin 2) (frame : List Byte) (fcsOk : Bool) (s : State) :
    Keeps m s (execHitchFrameReceive port frame fcsOk s) := by
  simp only [execHitchFrameReceive]; (repeat' split) <;> simp [*]
@[simp] theorem execPortLink_keep (h0 : m (.blk .HDL) = false) (port : Fin 2) (speed : PortSpeed) (s : State) :
    Keeps m s (execPortLink port speed s) := by unfold execPortLink; (repeat' split) <;> simp [*]
@[simp] theorem State.nextPdu_keep (h0 : m .isl = false) (s : State) (n : ℕ) (type : ℕ) :
    ∀ x, State.nextPdu s n type = some x → x.2.keep m = s.keep m := by
  unfold State.nextPdu; (repeat' split) <;> simp [*]
@[simp] theorem execStartAck_keep (h0 : m (.blk .HDL) = false) (h1 : m .isl = false) (n : Fin 4) (s : State) :
    Keeps m s (execStartAck n s) := by
  unfold execStartAck
  repeat' (first | (simp [h0, h1]; done) | split | (refine (foldl_keep (fun s a => ?_) _ _).trans ?_) | (simp only [Prod.ext_iff] at *; casesm* _ ∧ _; subst_vars; simp [h0, h1]; done) | (simp only [keeps_next]) | simp [h0, h1] | (refine (State.nextPdu_keep (m := m) (by simp only [h0, h1]) _ _ _ _ ‹State.nextPdu _ _ _ = some _›).trans ?_))
@[simp] theorem State.applyRemote_keep (h0 : m (.blk .HDL) = false) (s : State) (n : ℕ) :
    (State.applyRemote s n).keep m = s.keep m := by simp [State.applyRemote, *]
@[simp] theorem State.cover_keep (h0 : m (.blk .HDL) = false) (h1 : m .isl = false) (s : State) (n : ℕ) (e : ℕ) :
    (State.cover s n e).keep m = s.keep m := by simp only [State.cover]; (repeat' split) <;> simp [*]
@[simp] theorem execData_keep (h0 : m (.blk .HDL) = false) (h1 : m .isl = false) (h2 : m .sent = false) (n : Fin 4) (s
    : State) :
    Keeps m s (execData n s) := by
  unfold execData
  repeat' (first | (simp [h0, h1, h2]; done) | split | (refine (foldl_keep (fun s a => ?_) _ _).trans ?_) | (simp only [Prod.ext_iff] at *; casesm* _ ∧ _; subst_vars; simp [h0, h1, h2]; done) | (simp only [keeps_next]) | simp [h0, h1, h2] | (refine (State.nextPdu_keep (m := m) (by simp only [h0, h1, h2]) _ _ _ _ ‹State.nextPdu _ _ _ = some _›).trans ?_))
@[simp] theorem execClose_keep (h0 : m (.blk .HDL) = false) (h1 : m .isl = false) (n : Fin 4) (s : State) :
    Keeps m s (execClose n s) := by
  unfold execClose
  repeat' (first | (simp [h0, h1]; done) | split | (refine (foldl_keep (fun s a => ?_) _ _).trans ?_) | (simp only [Prod.ext_iff] at *; casesm* _ ∧ _; subst_vars; simp [h0, h1]; done) | (simp only [keeps_next]) | simp [h0, h1] | (refine (State.nextPdu_keep (m := m) (by simp only [h0, h1]) _ _ _ _ ‹State.nextPdu _ _ _ = some _›).trans ?_))
@[simp] theorem execStart_keep (h0 : m (.blk .HDL) = false) (h1 : m .isl = false) (h2 : m .sent = false) (n : Fin 4)
    (s : State) :
    Keeps m s (execStart n s) := by simp only [execStart]; (repeat' split) <;> simp [*]
@[simp] theorem execStartFail_keep (h0 : m (.blk .HDL) = false) (h1 : m .isl = false) (n : Fin 4) (s : State) :
    Keeps m s (execStartFail n s) := by unfold execStartFail; (repeat' split) <;> simp [*]
@[simp] theorem execDataDue_keep (h0 : m (.blk .HDL) = false) (h1 : m .isl = false) (h2 : m .sent = false) (n : Fin 4)
    (s : State) :
    Keeps m s (execDataDue n s) := by simp only [execDataDue]; (repeat' split) <;> simp [*]
@[simp] theorem execWatchdog_keep (h0 : m (.blk .HDL) = false) (h1 : m .isl = false) (h2 : m .sent = false) (n : Fin
    4) (s : State) :
    Keeps m s (execWatchdog n s) := by unfold execWatchdog; (repeat' split) <;> simp [*]
@[simp] theorem execTimeout_keep (h0 : m (.blk .HDL) = false) (h1 : m .isl = false) (h2 : m .sent = false) (n : Fin 4)
    (s : State) :
    Keeps m s (execTimeout n s) := by unfold execTimeout; (repeat' split) <;> simp [*]
@[simp] theorem execRetry_keep (h0 : m (.blk .HDL) = false) (h1 : m .fresh = false) (h2 : m .isl = false) (n : Fin 4)
    (s : State) :
    Keeps m s (execRetry n s) := by unfold execRetry; (repeat' split) <;> simp [*]
@[simp] theorem State.hitchCycle_keep (h0 : m (.blk .HDL) = false) (h1 : m .isl = false) (s : State) :
    (State.hitchCycle s).keep m = s.keep m := by simp [State.hitchCycle, *]

end Sys2Proof.Machine
end

