-- ==== Sys2Proof/Laws/KeepIsland.lean ====
section
/-! SUPPORT. What the operations and commands of Machine/Island.lean keep: each changes only the facets
named in its hypotheses (`State.keep`). -/

namespace Sys2Proof.Machine

variable {m : Facet → Bool}


@[simp] theorem State.frameMissing_keep (h0 : m (.blk .HDL) = false) (h1 : m .isl = false) (s : State) :
    (State.frameMissing s).keep m = s.keep m := by simp [State.frameMissing, *]
@[simp] theorem State.degrade_keep (h0 : m (.blk .HDL) = false) (h1 : m .isl = false) (s : State) :
    (State.degrade s).keep m = s.keep m := by simp [State.degrade, *]
@[simp] theorem State.evalBlock_keep (h0 : m (.blk .HDL) = false) (h1 : m .isl = false) (s : State) (p : Params) (loop
    : ℕ) (k : ℕ) (b : List Byte) :
    (State.evalBlock s p loop k b).keep m = s.keep m := by unfold State.evalBlock; (repeat' split) <;> simp [*]
@[simp] theorem State.takeRecord_keep (h0 : m (.blk .HDL) = false) (h1 : m .isl = false) (s : State) (p : Params)
    (best : Option ℕ) (y3 : IslRecord) :
    (State.takeRecord s p best y3).keep m = s.keep m := by unfold State.takeRecord; (repeat' split) <;> simp [*]
@[simp] theorem State.takeRecords_keep (h0 : m (.blk .HDL) = false) (h1 : m .isl = false) (s : State) :
    (State.takeRecords s).keep m = s.keep m := by
  unfold State.takeRecords
  repeat' (first | (simp [*]; done) | split | (refine (foldl_keep (fun s a => ?_) _ _).trans ?_) | (simp only [Prod.ext_iff] at *; casesm* _ ∧ _; subst_vars; simp [*]; done) | (simp only [keeps_next]) | simp [*])
@[simp] theorem State.islandTell_keep (h0 : m .isl = false) (s : State) (r : IslRecord) :
    (State.islandTell s r).keep m = s.keep m := by simp [State.islandTell, *]
@[simp] theorem State.islandAsked_keep (h0 : m .isl = false) (s : State) :
    (State.islandAsked s).keep m = s.keep m := by simp [State.islandAsked, *]
@[simp] theorem State.twinStep_keep (h0 : m (.blk .HDL) = false) (h1 : m .isl = false) (s : State) (twinLost : Bool)
    (newTwin : Bool) :
    (State.twinStep s twinLost newTwin).keep m = s.keep m := by simp [State.twinStep, *]
@[simp] theorem State.vetoRelease_keep (h0 : m .isl = false) (s : State) :
    (State.vetoRelease s).keep m = s.keep m := by simp [State.vetoRelease, *]
@[simp] theorem State.localLost_keep (h0 : m .isl = false) (s : State) :
    (State.localLost s).keep m = s.keep m := by simp [State.localLost, *]
@[simp] theorem State.localStep_keep (h0 : m (.blk .HDL) = false) (h1 : m .isl = false) (s : State) :
    (State.localStep s).keep m = s.keep m := by simp [State.localStep, *]
@[simp] theorem State.edgeSample_keep (h0 : m (.blk .HDL) = false) (h1 : m .isl = false) (s : State) :
    (State.edgeSample s).keep m = s.keep m := by simp [State.edgeSample, *]
@[simp] theorem execResetStuck_keep (h0 : m (.blk .HDL) = false) (h1 : m .isl = false) (s : State) :
    Keeps m s (execResetStuck s) := by unfold execResetStuck; (repeat' split) <;> simp [*]
@[simp] theorem State.startWrite_keep (h0 : m (.blk .HDL) = false) (h1 : m .isl = false) (s : State) (bytes : List
    Byte) (confirm : Bool) :
    (State.startWrite s bytes confirm).keep m = s.keep m := by simp [State.startWrite, *]
@[simp] theorem State.confirmWrite_keep (h0 : m (.blk .HDL) = false) (h1 : m .isl = false) (s : State) :
    (State.confirmWrite s).keep m = s.keep m := by simp only [State.confirmWrite]; (repeat' split) <;> simp [*]
@[simp] theorem State.installSet_keep (h0 : m (.blk .HDL) = false) (h1 : m .isl = false) (s : State) (p : Option
    ParamSet) :
    (State.installSet s p).keep m = s.keep m := by simp [State.installSet, *]
@[simp] theorem State.commitSet_keep (h0 : m (.blk .HDL) = false) (h1 : m .fresh = false) (h2 : m .isl = false) (h3 :
    m .sent = false) (s : State) (copy : ℕ) :
    (State.commitSet s copy).keep m = s.keep m := by simp [State.commitSet, *]
@[simp] theorem State.confirmed_keep (h0 : m (.blk .HDL) = false) (h1 : m .isl = false) (s : State) (copy : ℕ) :
    (State.confirmed s copy).keep m = s.keep m := by simp [State.confirmed, *]
@[simp] theorem execParamWriteDone_keep (h0 : m (.blk .HDL) = false) (h1 : m .boot = false) (h2 : m .fresh = false)
    (h3 : m .isl = false) (h4 : m .sent = false) (ok : Bool) (s : State) :
    Keeps m s (execParamWriteDone ok s) := by unfold execParamWriteDone; (repeat' split) <;> simp [*]
@[simp] theorem State.buildHrec_keep (h0 : m .isl = false) (s : State) :
    (State.buildHrec s).keep m = s.keep m := by simp [State.buildHrec, *]
@[simp] theorem State.vetoSample_keep (h0 : m (.blk .HDL) = false) (h1 : m .isl = false) (s : State) (veto : BitVec 2)
    (pulsed : BitVec 2) :
    (State.vetoSample s veto pulsed).keep m = s.keep m := by simp [State.vetoSample, *]
@[simp] theorem State.vetoStep_keep (h0 : m (.blk .HDL) = false) (h1 : m .isl = false) (s : State) :
    (State.vetoStep s).keep m = s.keep m := by simp [State.vetoStep, *]
@[simp] theorem State.faultStep_keep (h0 : m (.blk .HDL) = false) (h1 : m .isl = false) (s : State) :
    (State.faultStep s).keep m = s.keep m := by simp [State.faultStep, *]
@[simp] theorem State.edgeStep_keep (h0 : m (.blk .HDL) = false) (h1 : m .isl = false) (s : State) :
    (State.edgeStep s).keep m = s.keep m := by simp [State.edgeStep, *]
@[simp] theorem State.stopStep_keep (h0 : m (.blk .HDL) = false) (h1 : m .isl = false) (s : State) :
    (State.stopStep s).keep m = s.keep m := by simp [State.stopStep, *]
@[simp] theorem State.lockupPin_keep (h0 : m (.blk .HDL) = false) (h1 : m .isl = false) (s : State) :
    (State.lockupPin s).keep m = s.keep m := by simp [State.lockupPin, *]
@[simp] theorem State.cycleStart_keep (h0 : m (.blk .HDL) = false) (h1 : m .isl = false) (s : State) (seals : BitVec
    12) :
    (State.cycleStart s seals).keep m = s.keep m := by simp [State.cycleStart, *]
@[simp] theorem State.fullCycle_keep (h0 : m (.blk .HDL) = false) (h1 : m .isl = false) (s : State) (veto : BitVec 2)
    (pulsed : BitVec 2) :
    (State.fullCycle s veto pulsed).keep m = s.keep m := by simp [State.fullCycle, *]
@[simp] theorem execSafetyCycle_keep (h0 : m (.blk .HDL) = false) (h1 : m .isl = false) (seals : BitVec 12) (veto :
    BitVec 2) (pulsed : BitVec 2) (s : State) :
    Keeps m s (execSafetyCycle seals veto pulsed s) := by simp only [execSafetyCycle]; (repeat' split) <;> simp [*]
@[simp] theorem execConfirmTimeout_keep (h0 : m (.blk .HDL) = false) (h1 : m .isl = false) (s : State) :
    Keeps m s (execConfirmTimeout s) := by unfold execConfirmTimeout; (repeat' split) <;> simp [*]
@[simp] theorem execLockoutEnd_keep (h0 : m .isl = false) (s : State) :
    Keeps m s (execLockoutEnd s) := by unfold execLockoutEnd; (repeat' split) <;> simp [*]
@[simp] theorem execArmedExpiry_keep (h0 : m (.blk .HDL) = false) (h1 : m .isl = false) (s : State) :
    Keeps m s (execArmedExpiry s) := by unfold execArmedExpiry; (repeat' split) <;> simp [*]
@[simp] theorem execHandoverFailed_keep (h0 : m (.blk .HDL) = false) (h1 : m .isl = false) (s : State) :
    Keeps m s (execHandoverFailed s) := by unfold execHandoverFailed; (repeat' split) <;> simp [*]
@[simp] theorem execFrameWatchdog_keep (h0 : m (.blk .HDL) = false) (h1 : m .isl = false) (s : State) :
    Keeps m s (execFrameWatchdog s) := by unfold execFrameWatchdog; (repeat' split) <;> simp [*]
@[simp] theorem execDegradeExpired_keep (h0 : m (.blk .HDL) = false) (h1 : m .isl = false) (s : State) :
    Keeps m s (execDegradeExpired s) := by unfold execDegradeExpired; (repeat' split) <;> simp [*]
@[simp] theorem execLocalLost_keep (h0 : m .isl = false) (s : State) :
    Keeps m s (execLocalLost s) := by unfold execLocalLost; (repeat' split) <;> simp [*]
@[simp] theorem execGraceEnd_keep (h0 : m (.blk .HDL) = false) (h1 : m .isl = false) (s : State) :
    Keeps m s (execGraceEnd s) := by unfold execGraceEnd; (repeat' split) <;> simp [*]
@[simp] theorem execVetoTestPulse_keep (h0 : m (.blk .HDL) = false) (h1 : m .isl = false) (h2 : m .sent = false)
    (pulsed : BitVec 2) (s : State) :
    Keeps m s (execVetoTestPulse pulsed s) := by unfold execVetoTestPulse; (repeat' split) <;> simp [*]
@[simp] theorem execLockupN_keep (h0 : m (.blk .HDL) = false) (h1 : m .isl = false) (low : Bool) (s : State) :
    Keeps m s (execLockupN low s) := by simp only [execLockupN]; (repeat' split) <;> simp [*]
@[simp] theorem State.imageStarts_keep (h0 : m (.blk .HDL) = false) (s : State) :
    (State.imageStarts s).keep m = s.keep m := by simp [State.imageStarts, *]
@[simp] theorem execStartup_keep (h0 : m (.blk .HDL) = false) (h1 : m .fresh = false) (h2 : m .isl = false) (seals :
    BitVec 12) (selfTest : Bool) (outputsOff : Bool) (s : State) :
    Keeps m s (execStartup seals selfTest outputsOff s) := by unfold execStartup; (repeat' split) <;> simp [*]
@[simp] theorem execLockstepMismatch_keep (h0 : m (.blk .HDL) = false) (h1 : m .isl = false) (s : State) :
    Keeps m s (execLockstepMismatch s) := by unfold execLockstepMismatch; (repeat' split) <;> simp [*]
@[simp] theorem execWdog_keep (h0 : m (.blk .HDL) = false) (h1 : m .isl = false) (s : State) :
    Keeps m s (execWdog s) := by simp [execWdog, *]
@[simp] theorem execHeadlandSafetyReset_keep (h0 : m (.blk .HDL) = false) (h1 : m .boot = false) (h2 : m .fresh =
    false) (h3 : m .isl = false) (cause : IslandCause) (digestOk : Bool) (s : State) :
    Keeps m s (execHeadlandSafetyReset cause digestOk s) := by
  unfold execHeadlandSafetyReset; (repeat' split) <;> simp [*]
@[simp] theorem State.answer_keep (h0 : m .isl = false) (s : State) (code : ℕ) (rsp : List Byte) :
    (State.answer s code rsp).keep m = s.keep m := by simp [State.answer, *]
@[simp] theorem State.deliver_keep (h0 : m .isl = false) (s : State) (type : ℕ) (req : List Byte) :
    (State.deliver s type req).keep m = s.keep m := by simp [State.deliver, *]
@[simp] theorem State.onMessage_keep (h0 : m .isl = false) (s : State) (type : ℕ) (f : List Byte → State → State)
    (hf_f : ∀ a0 a1, (f a0 a1).keep m = a1.keep m) :
    Keeps m s (State.onMessage s type f) := by unfold State.onMessage; (repeat' split) <;> simp [*]
@[simp] theorem execStatus_keep (h0 : m .isl = false) (s : State) :
    Keeps m s (execStatus s) := by simp [execStatus, *]
@[simp] theorem execRegRead_keep (h0 : m .isl = false) (s : State) :
    Keeps m s (execRegRead s) := by simp [execRegRead, *]
@[simp] theorem execParamBegin_keep (h0 : m (.blk .HDL) = false) (h1 : m .isl = false) (s : State) :
    Keeps m s (execParamBegin s) := by simp [execParamBegin, *]
@[simp] theorem execParamData_keep (h0 : m .isl = false) (s : State) :
    Keeps m s (execParamData s) := by
  unfold execParamData
  repeat' (first | (simp [*]; done) | split | (refine (foldl_keep (fun s a => ?_) _ _).trans ?_) | (apply State.onMessage_keep <;> (first | (simp only [h0]; done) | (intros; dsimp only) | intros)) | (simp only [Prod.ext_iff] at *; casesm* _ ∧ _; subst_vars; simp [*]; done) | (simp only [keeps_next]) | simp [*])
@[simp] theorem execParamCommit_keep (h0 : m (.blk .HDL) = false) (h1 : m .isl = false) (s : State) :
    Keeps m s (execParamCommit s) := by
  unfold execParamCommit
  repeat' (first | (simp [*]; done) | split | (refine (foldl_keep (fun s a => ?_) _ _).trans ?_) | (apply State.onMessage_keep <;> (first | (simp only [h0, h1]; done) | (intros; dsimp only) | intros)) | (simp only [Prod.ext_iff] at *; casesm* _ ∧ _; subst_vars; simp [*]; done) | (simp only [keeps_next]) | simp [*])
@[simp] theorem execCheckRead_keep (h0 : m .isl = false) (s : State) :
    Keeps m s (execCheckRead s) := by
  unfold execCheckRead
  repeat' (first | (simp [*]; done) | split | (refine (foldl_keep (fun s a => ?_) _ _).trans ?_) | (apply State.onMessage_keep <;> (first | (simp only [h0]; done) | (intros; dsimp only) | intros)) | (simp only [Prod.ext_iff] at *; casesm* _ ∧ _; subst_vars; simp [*]; done) | (simp only [keeps_next]) | simp [*])
@[simp] theorem State.refuseConfirm_keep (h0 : m (.blk .HDL) = false) (h1 : m .isl = false) (s : State) :
    (State.refuseConfirm s).keep m = s.keep m := by simp [State.refuseConfirm, *]
@[simp] theorem execConfirm_keep (h0 : m (.blk .HDL) = false) (h1 : m .isl = false) (s : State) :
    Keeps m s (execConfirm s) := by
  unfold execConfirm
  repeat' (first | (simp [*]; done) | split | (refine (foldl_keep (fun s a => ?_) _ _).trans ?_) | (apply State.onMessage_keep <;> (first | (simp only [h0, h1]; done) | (intros; dsimp only) | intros)) | (simp only [Prod.ext_iff] at *; casesm* _ ∧ _; subst_vars; simp [*]; done) | (simp only [keeps_next]) | simp [*])
@[simp] theorem execOperate_keep (h0 : m (.blk .HDL) = false) (h1 : m .isl = false) (s : State) :
    Keeps m s (execOperate s) := by simp [execOperate, *]
@[simp] theorem execStop_keep (h0 : m .isl = false) (s : State) :
    Keeps m s (execStop s) := by simp [execStop, *]
@[simp] theorem execHandover_keep (h0 : m (.blk .HDL) = false) (h1 : m .isl = false) (s : State) :
    Keeps m s (execHandover s) := by simp [execHandover, *]
@[simp] theorem execClearEvt_keep (h0 : m (.blk .HDL) = false) (h1 : m .isl = false) (s : State) :
    Keeps m s (execClearEvt s) := by
  unfold execClearEvt
  repeat' (first | (simp [h0, h1]; done) | split | (refine (foldl_keep (fun s a => ?_) _ _).trans ?_) | (apply State.onMessage_keep <;> (first | (simp only [h0, h1]; done) | (intros; dsimp only) | intros)) | (simp only [Prod.ext_iff] at *; casesm* _ ∧ _; subst_vars; simp [h0, h1]; done) | (simp only [keeps_next]) | simp [h0, h1])

end Sys2Proof.Machine
end

