-- ==== Sys2Proof/Laws/KeepYoke.lean ====
section
/-! SUPPORT. What the operations and commands of Machine/Yoke.lean keep: each changes only the facets
named in its hypotheses (`State.keep`). -/

namespace Sys2Proof.Machine

variable {m : Facet → Bool}


@[simp] theorem State.setYs_keep (h0 : m (.blk .YK) = false) (s : State) (v : ℕ) :
    (State.setYs s v).keep m = s.keep m := by simp [State.setYs, *]
@[simp] theorem State.mapYoke_keep (h0 : m .yoke = false) (s : State) (f : Yoke → Yoke) :
    (State.mapYoke s f).keep m = s.keep m := by simp [State.mapYoke, *]
@[simp] theorem State.ykSend_keep (h0 : m (.blk .RV) = false) (h1 : m (.blk .TLY) = false) (h2 : m .links = false) (h3
    : m .reeve = false) (h4 : m .sent = false) (s : State) (m_ : List Byte) :
    (State.ykSend s m_).keep m = s.keep m := by simp [State.ykSend, *]
@[simp] theorem State.ykFront_keep (h0 : m .links = false) (s : State) (type : ℕ) (f : List Byte → State → State)
    (hf_f : ∀ a0 a1, (f a0 a1).keep m = a1.keep m) :
    Keeps m s (State.ykFront s type f) := by
  unfold State.ykFront
  repeat' (first | (simp [h0, hf_f]; done) | split | (refine (foldl_keep (fun s a => ?_) _ _).trans ?_) | (simp only [Prod.ext_iff] at *; casesm* _ ∧ _; subst_vars; simp [h0, hf_f]; done) | (simp only [keeps_next]) | simp [h0, hf_f] | (refine (State.takeMsg_keep (m := m) (by simp only [h0, hf_f]) _ _ _ _ ‹State.takeMsg _ _ _ = some _›).trans ?_))
@[simp] theorem State.slew_keep (h0 : m (.blk .YK) = false) (h1 : m .yoke = false) (s : State) (tx : ℕ) (echo : ℕ) (rx
    : ℕ) :
    (State.slew s tx echo rx).keep m = s.keep m := by simp [State.slew, *]
@[simp] theorem State.sendArm_keep (h0 : m (.blk .RV) = false) (h1 : m (.blk .TLY) = false) (h2 : m .links = false)
    (h3 : m .reeve = false) (h4 : m .sent = false) (s : State) (l : ℕ) :
    (State.sendArm s l).keep m = s.keep m := by simp [State.sendArm, *]
@[simp] theorem State.hbRestart_keep (h0 : m .yoke = false) (s : State) :
    (State.hbRestart s).keep m = s.keep m := by simp [State.hbRestart, *]
@[simp] theorem State.sendHello_keep (h0 : m (.blk .RV) = false) (h1 : m (.blk .TLY) = false) (h2 : m .links = false)
    (h3 : m .reeve = false) (h4 : m .sent = false) (s : State) :
    (State.sendHello s).keep m = s.keep m := by simp [State.sendHello, *]
@[simp] theorem State.sendXreport_keep (h0 : m (.blk .RV) = false) (h1 : m (.blk .TLY) = false) (h2 : m .links =
    false) (h3 : m .reeve = false) (h4 : m .sent = false) (s : State) :
    (State.sendXreport s).keep m = s.keep m := by simp [State.sendXreport, *]
@[simp] theorem State.paired_keep (h0 : m (.blk .YK) = false) (h1 : m .yoke = false) (s : State) (t : ℕ) :
    (State.paired s t).keep m = s.keep m := by simp [State.paired, *]
@[simp] theorem State.tryPair_keep (h0 : m (.blk .RV) = false) (h1 : m (.blk .TLY) = false) (h2 : m (.blk .YK) =
    false) (h3 : m .links = false) (h4 : m .reeve = false) (h5 : m .sent = false) (h6 : m .yoke = false) (s : State) :
    (State.tryPair s).keep m = s.keep m := by simp [State.tryPair, *]
@[simp] theorem State.yokeLinkUp_keep (h0 : m (.blk .RV) = false) (h1 : m (.blk .SWTL) = false) (h2 : m (.blk .TLY) =
    false) (h3 : m (.blk .YK) = false) (h4 : m .links = false) (h5 : m .reeve = false) (h6 : m .sent = false) (s :
    State) :
    (State.yokeLinkUp s).keep m = s.keep m := by simp [State.yokeLinkUp, *]
@[simp] theorem execLinkUp_keep (h0 : m (.blk .RV) = false) (h1 : m (.blk .SWTL) = false) (h2 : m (.blk .TLY) = false)
    (h3 : m (.blk .YK) = false) (h4 : m .links = false) (h5 : m .reeve = false) (h6 : m .sent = false) (k : Fin 7) (s
    : State) :
    Keeps m s (execLinkUp k s) := by simp [execLinkUp, *]
@[simp] theorem State.readNormal_keep (h0 : m (.blk .GRN) = false) (h1 : m (.blk .RV) = false) (h2 : m .caches =
    false) (h3 : m .reeve = false) (s : State) (pa : ℕ) (y2 : ℕ) (y3 : ℕ) :
    (State.readNormal s pa y2 y3).2.keep m = s.keep m := by
  induction y2 generalizing s pa y3 with
  | zero => unfold State.readNormal; repeat' (first | (simp [h0, h1, h2, h3]; done) | split | (refine (foldl_keep (fun s a => ?_) _ _).trans ?_) | (simp only [Prod.ext_iff] at *; casesm* _ ∧ _; subst_vars; simp [h0, h1, h2, h3]; done) | (simp only [keeps_next]) | simp [h0, h1, h2, h3])
  | succ n ih =>
    unfold State.readNormal
    repeat' (first | (simp [h0, h1, h2, h3, ih]; done) | split | (refine (foldl_keep (fun s a => ?_) _ _).trans ?_) | (simp only [Prod.ext_iff] at *; casesm* _ ∧ _; subst_vars; simp [h0, h1, h2, h3, ih]; done) | (simp only [keeps_next]) | simp [h0, h1, h2, h3, ih])
@[simp] theorem State.xqWrite_keep (h0 : m (.blk .GRN) = false) (h1 : m (.blk .RV) = false) (h2 : m .caches = false)
    (h3 : m .cores = false) (h4 : m .granary = false) (h5 : m .mem = false) (h6 : m .reeve = false) (s : State) (slot
    : ℕ) (id : Option ℕ) (status : ℕ) (resolved : ℕ) :
    (State.xqWrite s slot id status resolved).keep m = s.keep m := by
  unfold State.xqWrite; (repeat' split) <;> simp [*]
@[simp] theorem State.xqDrain_keep (h0 : m (.blk .GRN) = false) (h1 : m (.blk .RV) = false) (h2 : m (.blk .YK) =
    false) (h3 : m .caches = false) (h4 : m .cores = false) (h5 : m .granary = false) (h6 : m .mem = false) (h7 : m
    .reeve = false) (h8 : m .yoke = false) (s : State) (y1 : ℕ) :
    (State.xqDrain s y1).keep m = s.keep m := by
  induction y1 generalizing s with
  | zero => unfold State.xqDrain; repeat' (first | (simp [h0, h1, h2, h3, h4, h5, h6, h7, h8]; done) | split | (refine (foldl_keep (fun s a => ?_) _ _).trans ?_) | (simp only [Prod.ext_iff] at *; casesm* _ ∧ _; subst_vars; simp [h0, h1, h2, h3, h4, h5, h6, h7, h8]; done) | (simp only [keeps_next]) | simp [h0, h1, h2, h3, h4, h5, h6, h7, h8])
  | succ n ih =>
    unfold State.xqDrain
    repeat' (first | (simp [h0, h1, h2, h3, h4, h5, h6, h7, h8, ih]; done) | split | (refine (foldl_keep (fun s a => ?_) _ _).trans ?_) | (simp only [Prod.ext_iff] at *; casesm* _ ∧ _; subst_vars; simp [h0, h1, h2, h3, h4, h5, h6, h7, h8, ih]; done) | (simp only [keeps_next]) | simp [h0, h1, h2, h3, h4, h5, h6, h7, h8, ih])
@[simp] theorem State.xqFinish_keep (h0 : m (.blk .GRN) = false) (h1 : m (.blk .RV) = false) (h2 : m (.blk .YK) =
    false) (h3 : m .caches = false) (h4 : m .cores = false) (h5 : m .granary = false) (h6 : m .mem = false) (h7 : m
    .reeve = false) (h8 : m .yoke = false) (s : State) :
    (State.xqFinish s).keep m = s.keep m := by simp [State.xqFinish, *]
@[simp] theorem State.sendXdata_keep (h0 : m (.blk .RV) = false) (h1 : m (.blk .TLY) = false) (h2 : m .links = false)
    (h3 : m .reeve = false) (h4 : m .sent = false) (s : State) (id : ℕ) (y2 : ℕ) (y3 : ℕ) (y4 : List Byte) :
    (State.sendXdata s id y2 y3 y4).keep m = s.keep m := by
  induction y2 generalizing s y3 y4 with
  | zero => unfold State.sendXdata; repeat' (first | (simp [h0, h1, h2, h3, h4]; done) | split | (refine (foldl_keep (fun s a => ?_) _ _).trans ?_) | (simp only [Prod.ext_iff] at *; casesm* _ ∧ _; subst_vars; simp [h0, h1, h2, h3, h4]; done) | (simp only [keeps_next]) | simp [h0, h1, h2, h3, h4])
  | succ n ih =>
    unfold State.sendXdata
    repeat' (first | (simp [h0, h1, h2, h3, h4, ih]; done) | split | (refine (foldl_keep (fun s a => ?_) _ _).trans ?_) | (simp only [Prod.ext_iff] at *; casesm* _ ∧ _; subst_vars; simp [h0, h1, h2, h3, h4, ih]; done) | (simp only [keeps_next]) | simp [h0, h1, h2, h3, h4, ih])
@[simp] theorem State.xqPump_keep (h0 : m (.blk .GRN) = false) (h1 : m (.blk .RV) = false) (h2 : m (.blk .TLY) =
    false) (h3 : m (.blk .YK) = false) (h4 : m .caches = false) (h5 : m .cores = false) (h6 : m .granary = false) (h7
    : m .links = false) (h8 : m .mem = false) (h9 : m .reeve = false) (h10 : m .sent = false) (h11 : m .yoke = false)
    (s : State) (y1 : ℕ) :
    (State.xqPump s y1).keep m = s.keep m := by
  induction y1 generalizing s with
  | zero => unfold State.xqPump; repeat' (first | (simp [h0, h1, h2, h3, h4, h5, h6, h7, h8, h9, h10, h11]; done) | split | (refine (foldl_keep (fun s a => ?_) _ _).trans ?_) | (simp only [Prod.ext_iff] at *; casesm* _ ∧ _; subst_vars; simp [h0, h1, h2, h3, h4, h5, h6, h7, h8, h9, h10, h11]; done) | (simp only [keeps_next]) | simp [h0, h1, h2, h3, h4, h5, h6, h7, h8, h9, h10, h11])
  | succ n ih =>
    unfold State.xqPump
    repeat' (first | (simp [h0, h1, h2, h3, h4, h5, h6, h7, h8, h9, h10, h11, ih]; done) | split | (refine (foldl_keep (fun s a => ?_) _ _).trans ?_) | (simp only [Prod.ext_iff] at *; casesm* _ ∧ _; subst_vars; simp [h0, h1, h2, h3, h4, h5, h6, h7, h8, h9, h10, h11, ih]; done) | (simp only [keeps_next]) | simp [h0, h1, h2, h3, h4, h5, h6, h7, h8, h9, h10, h11, ih])
@[simp] theorem State.xqGo_keep (h0 : m (.blk .GRN) = false) (h1 : m (.blk .RV) = false) (h2 : m (.blk .TLY) = false)
    (h3 : m (.blk .YK) = false) (h4 : m .caches = false) (h5 : m .cores = false) (h6 : m .granary = false) (h7 : m
    .links = false) (h8 : m .mem = false) (h9 : m .reeve = false) (h10 : m .sent = false) (h11 : m .yoke = false) (s :
    State) :
    (State.xqGo s).keep m = s.keep m := by simp [State.xqGo, *]
@[simp] theorem execXqDoorbell_keep (h0 : m (.blk .GRN) = false) (h1 : m (.blk .RV) = false) (h2 : m (.blk .TLY) =
    false) (h3 : m (.blk .YK) = false) (h4 : m .caches = false) (h5 : m .cores = false) (h6 : m .granary = false) (h7
    : m .links = false) (h8 : m .mem = false) (h9 : m .reeve = false) (h10 : m .sent = false) (h11 : m .yoke = false)
    (agent : Agent) (tail : BitVec 32) (s : State) :
    Keeps m s (execXqDoorbell agent tail s) := by simp [execXqDoorbell, *]
@[simp] theorem State.xqAbandon_keep (h0 : m (.blk .GRN) = false) (h1 : m (.blk .RV) = false) (h2 : m (.blk .YK) =
    false) (h3 : m .caches = false) (h4 : m .cores = false) (h5 : m .granary = false) (h6 : m .mem = false) (h7 : m
    .reeve = false) (h8 : m .yoke = false) (s : State) (n : ℕ) :
    (State.xqAbandon s n).keep m = s.keep m := by simp [State.xqAbandon, *]
@[simp] theorem execXqDisable_keep (h0 : m (.blk .GRN) = false) (h1 : m (.blk .RV) = false) (h2 : m (.blk .YK) =
    false) (h3 : m .caches = false) (h4 : m .cores = false) (h5 : m .granary = false) (h6 : m .mem = false) (h7 : m
    .reeve = false) (h8 : m .yoke = false) (agent : Agent) (s : State) :
    Keeps m s (execXqDisable agent s) := by simp [execXqDisable, *]
@[simp] theorem State.sendXack_keep (h0 : m (.blk .RV) = false) (h1 : m (.blk .TLY) = false) (h2 : m .links = false)
    (h3 : m .reeve = false) (h4 : m .sent = false) (s : State) (id : ℕ) (result : ℕ) :
    (State.sendXack s id result).keep m = s.keep m := by simp [State.sendXack, *]
@[simp] theorem State.xexecuted_keep (h0 : m (.blk .RV) = false) (h1 : m (.blk .TLY) = false) (h2 : m .links = false)
    (h3 : m .reeve = false) (h4 : m .sent = false) (h5 : m .yoke = false) (s : State) (id : ℕ) :
    (State.xexecuted s id).keep m = s.keep m := by simp [State.xexecuted, *]
@[simp] theorem execXreq_keep (h0 : m (.blk .GRN) = false) (h1 : m (.blk .RV) = false) (h2 : m (.blk .TLY) = false)
    (h3 : m .caches = false) (h4 : m .cores = false) (h5 : m .granary = false) (h6 : m .links = false) (h7 : m .mem =
    false) (h8 : m .reeve = false) (h9 : m .sent = false) (h10 : m .yoke = false) (s : State) :
    Keeps m s (execXreq s) := by
  unfold execXreq
  repeat' (first | (simp [*]; done) | split | (refine (foldl_keep (fun s a => ?_) _ _).trans ?_) | (apply State.ykFront_keep <;> (first | (simp only [h0, h1, h2, h3, h4, h5, h6, h7, h8, h9, h10]; done) | (intros; dsimp only) | intros)) | (simp only [Prod.ext_iff] at *; casesm* _ ∧ _; subst_vars; simp [*]; done) | (simp only [keeps_next]) | simp [*])
@[simp] theorem execXdata_keep (h0 : m (.blk .GRN) = false) (h1 : m (.blk .RV) = false) (h2 : m (.blk .TLY) = false)
    (h3 : m .caches = false) (h4 : m .cores = false) (h5 : m .granary = false) (h6 : m .links = false) (h7 : m .mem =
    false) (h8 : m .reeve = false) (h9 : m .sent = false) (h10 : m .yoke = false) (res : MemRes) (s : State) :
    Keeps m s (execXdata res s) := by
  unfold execXdata
  repeat' (first | (simp [*]; done) | split | (refine (foldl_keep (fun s a => ?_) _ _).trans ?_) | (apply State.ykFront_keep <;> (first | (simp only [h0, h1, h2, h3, h4, h5, h6, h7, h8, h9, h10]; done) | (intros; dsimp only) | intros)) | (apply State.withRes_keep <;> (first | (simp only [h0, h1, h2, h3, h4, h5, h6, h7, h8, h9, h10]; done) | (intros; dsimp only) | intros)) | (simp only [Prod.ext_iff] at *; casesm* _ ∧ _; subst_vars; simp [*]; done) | (simp only [keeps_next]) | simp [*])
@[simp] theorem execXack_keep (h0 : m (.blk .GRN) = false) (h1 : m (.blk .RV) = false) (h2 : m (.blk .TLY) = false)
    (h3 : m (.blk .YK) = false) (h4 : m .caches = false) (h5 : m .cores = false) (h6 : m .granary = false) (h7 : m
    .links = false) (h8 : m .mem = false) (h9 : m .reeve = false) (h10 : m .sent = false) (h11 : m .yoke = false) (s :
    State) :
    Keeps m s (execXack s) := by simp [execXack, *]
@[simp] theorem execXreport_keep (h0 : m (.blk .GRN) = false) (h1 : m (.blk .RV) = false) (h2 : m (.blk .TLY) = false)
    (h3 : m (.blk .YK) = false) (h4 : m .caches = false) (h5 : m .cores = false) (h6 : m .granary = false) (h7 : m
    .links = false) (h8 : m .mem = false) (h9 : m .reeve = false) (h10 : m .sent = false) (h11 : m .yoke = false) (s :
    State) :
    Keeps m s (execXreport s) := by
  unfold execXreport
  repeat' (first | (simp [*]; done) | split | (refine (foldl_keep (fun s a => ?_) _ _).trans ?_) | (apply State.ykFront_keep <;> (first | (simp only [h0, h1, h2, h3, h4, h5, h6, h7, h8, h9, h10, h11]; done) | (intros; dsimp only) | intros)) | (simp only [Prod.ext_iff] at *; casesm* _ ∧ _; subst_vars; simp [*]; done) | (simp only [keeps_next]) | simp [*])
@[simp] theorem State.yokeLinkLost_keep (h0 : m (.blk .GRN) = false) (h1 : m (.blk .RV) = false) (h2 : m (.blk .SWTL)
    = false) (h3 : m (.blk .YK) = false) (h4 : m .caches = false) (h5 : m .cores = false) (h6 : m .granary = false)
    (h7 : m .links = false) (h8 : m .mem = false) (h9 : m .reeve = false) (h10 : m .yoke = false) (s : State) (next :
    ℕ) :
    (State.yokeLinkLost s next).keep m = s.keep m := by simp [State.yokeLinkLost, *]
@[simp] theorem execLinkDown_keep (h0 : m (.blk .GRN) = false) (h1 : m (.blk .RV) = false) (h2 : m (.blk .SWTL) =
    false) (h3 : m (.blk .YK) = false) (h4 : m .caches = false) (h5 : m .cores = false) (h6 : m .granary = false) (h7
    : m .links = false) (h8 : m .mem = false) (h9 : m .reeve = false) (h10 : m .yoke = false) (s : State) :
    Keeps m s (execLinkDown s) := by simp [execLinkDown, *]
@[simp] theorem State.incompat_keep (h0 : m (.blk .YK) = false) (s : State) (F : Fld) (hF : m (.blk F.blk) = false) :
    (State.incompat s F).keep m = s.keep m := by simp [State.incompat, *]
@[simp] theorem State.helloTaken_keep (h0 : m (.blk .BT) = false) (h1 : m (.blk .GRN) = false) (h2 : m (.blk .RV) =
    false) (h3 : m (.blk .TLY) = false) (h4 : m (.blk .YK) = false) (h5 : m .caches = false) (h6 : m .cores = false)
    (h7 : m .granary = false) (h8 : m .links = false) (h9 : m .mem = false) (h10 : m .reeve = false) (h11 : m .sent =
    false) (h12 : m .yoke = false) (s : State) (m_ : List Byte) :
    (State.helloTaken s m_).keep m = s.keep m := by simp [State.helloTaken, *]
@[simp] theorem execHello_keep (h0 : m (.blk .BT) = false) (h1 : m (.blk .GRN) = false) (h2 : m (.blk .RV) = false)
    (h3 : m (.blk .TLY) = false) (h4 : m (.blk .YK) = false) (h5 : m .caches = false) (h6 : m .cores = false) (h7 : m
    .granary = false) (h8 : m .links = false) (h9 : m .mem = false) (h10 : m .reeve = false) (h11 : m .sent = false)
    (h12 : m .yoke = false) (s : State) :
    Keeps m s (execHello s) := by
  unfold execHello
  repeat' (first | (simp [h0, h1, h2, h3, h4, h5, h6, h7, h8, h9, h10, h11, h12]; done) | split | (refine (foldl_keep (fun s a => ?_) _ _).trans ?_) | (apply State.ykFront_keep <;> (first | (simp only [h0, h1, h2, h3, h4, h5, h6, h7, h8, h9, h10, h11, h12]; done) | (intros; dsimp only) | intros)) | (simp only [Prod.ext_iff] at *; casesm* _ ∧ _; subst_vars; simp [h0, h1, h2, h3, h4, h5, h6, h7, h8, h9, h10, h11, h12]; done) | (simp only [keeps_next]) | simp [h0, h1, h2, h3, h4, h5, h6, h7, h8, h9, h10, h11, h12])
@[simp] theorem execTimeTick_keep (h0 : m (.blk .RV) = false) (h1 : m (.blk .TLY) = false) (h2 : m .links = false) (h3
    : m .reeve = false) (h4 : m .sent = false) (h5 : m .yoke = false) (s : State) :
    Keeps m s (execTimeTick s) := by simp [execTimeTick, *]
@[simp] theorem execTime_keep (h0 : m (.blk .RV) = false) (h1 : m (.blk .TLY) = false) (h2 : m (.blk .YK) = false) (h3
    : m .links = false) (h4 : m .reeve = false) (h5 : m .sent = false) (h6 : m .yoke = false) (s : State) :
    Keeps m s (execTime s) := by simp [execTime, *]
@[simp] theorem execPair_keep (h0 : m (.blk .GRN) = false) (h1 : m (.blk .RV) = false) (h2 : m (.blk .TLY) = false)
    (h3 : m (.blk .YK) = false) (h4 : m .caches = false) (h5 : m .cores = false) (h6 : m .granary = false) (h7 : m
    .links = false) (h8 : m .mem = false) (h9 : m .reeve = false) (h10 : m .sent = false) (h11 : m .yoke = false) (s :
    State) :
    Keeps m s (execPair s) := by simp [execPair, *]
@[simp] theorem execRejoin_keep (h0 : m (.blk .RV) = false) (h1 : m (.blk .TLY) = false) (h2 : m (.blk .YK) = false)
    (h3 : m .links = false) (h4 : m .reeve = false) (h5 : m .sent = false) (h6 : m .yoke = false) (agent : Agent) (s :
    State) :
    Keeps m s (execRejoin agent s) := by simp [execRejoin, *]
@[simp] theorem State.yokeEn_keep (h0 : m (.blk .GRN) = false) (h1 : m (.blk .RV) = false) (h2 : m (.blk .SWTL) =
    false) (h3 : m (.blk .YK) = false) (h4 : m .caches = false) (h5 : m .cores = false) (h6 : m .granary = false) (h7
    : m .links = false) (h8 : m .mem = false) (h9 : m .reeve = false) (h10 : m .yoke = false) (s : State) (en : Bool)
    :
    (State.yokeEn s en).keep m = s.keep m := by simp [State.yokeEn, *]
@[simp] theorem execYokeEnable_keep (h0 : m (.blk .GRN) = false) (h1 : m (.blk .RV) = false) (h2 : m (.blk .SWTL) =
    false) (h3 : m (.blk .YK) = false) (h4 : m .caches = false) (h5 : m .cores = false) (h6 : m .granary = false) (h7
    : m .links = false) (h8 : m .mem = false) (h9 : m .reeve = false) (h10 : m .yoke = false) (agent : Agent) (en :
    Bool) (agree : BitVec 10) (loops : BitVec 16) (s : State) :
    Keeps m s (execYokeEnable agent en agree loops s) := by simp [execYokeEnable, *]
@[simp] theorem execHeartbeatDue_keep (h0 : m (.blk .RV) = false) (h1 : m (.blk .TLY) = false) (h2 : m .fresh = false)
    (h3 : m .isl = false) (h4 : m .links = false) (h5 : m .reeve = false) (h6 : m .sent = false) (h7 : m .yoke =
    false) (s : State) :
    Keeps m s (execHeartbeatDue s) := by simp only [execHeartbeatDue]; (repeat' split) <;> simp [*]
@[simp] theorem execHeartbeat_keep (h0 : m (.blk .YK) = false) (h1 : m .isl = false) (h2 : m .links = false) (h3 : m
    .yoke = false) (s : State) :
    Keeps m s (execHeartbeat s) := by simp [execHeartbeat, *]
@[simp] theorem State.twinLost_keep (h0 : m (.blk .RV) = false) (h1 : m (.blk .YK) = false) (h2 : m .isl = false) (h3
    : m .reeve = false) (h4 : m .yoke = false) (s : State) :
    (State.twinLost s).keep m = s.keep m := by simp [State.twinLost, *]
@[simp] theorem execHeartbeatDeadline_keep (h0 : m (.blk .RV) = false) (h1 : m (.blk .YK) = false) (h2 : m .isl =
    false) (h3 : m .reeve = false) (h4 : m .yoke = false) (s : State) :
    Keeps m s (execHeartbeatDeadline s) := by unfold execHeartbeatDeadline; (repeat' split) <;> simp [*]
@[simp] theorem State.setYkFrame_keep (h0 : m .yoke = false) (s : State) (f : YkFrame) :
    (State.setYkFrame s f).keep m = s.keep m := by simp [State.setYkFrame, *]
@[simp] theorem State.decide'_keep (h0 : m (.blk .RV) = false) (h1 : m (.blk .YK) = false) (h2 : m .isl = false) (h3 :
    m .reeve = false) (h4 : m .yoke = false) (s : State) (f : YkFrame) (o : ℕ) :
    (State.decide' s f o).keep m = s.keep m := by unfold State.decide'; (repeat' split) <;> simp [*]
@[simp] theorem State.judgeFrame_keep (h0 : m (.blk .RV) = false) (h1 : m (.blk .YK) = false) (h2 : m .isl = false)
    (h3 : m .reeve = false) (h4 : m .yoke = false) (s : State) (f : YkFrame) (due : Bool) :
    (State.judgeFrame s f due).keep m = s.keep m := by unfold State.judgeFrame; (repeat' split) <;> simp [*]
@[simp] theorem State.ykStarts_keep (h0 : m .yoke = false) (s : State) (l : ℕ) (k : ℕ) (start : ℕ) :
    (State.ykStarts s l k start).keep m = s.keep m := by simp [State.ykStarts, *]
@[simp] theorem State.ykSheaf_keep (h0 : m (.blk .RV) = false) (h1 : m (.blk .TLY) = false) (h2 : m (.blk .YK) =
    false) (h3 : m .isl = false) (h4 : m .links = false) (h5 : m .reeve = false) (h6 : m .sent = false) (h7 : m .yoke
    = false) (s : State) (l : ℕ) (k : ℕ) (digest : ℕ) (len : ℕ) (block : List Byte) :
    (State.ykSheaf s l k digest len block).keep m = s.keep m := by simp [State.ykSheaf, *]
@[simp] theorem State.ykMissing_keep (h0 : m (.blk .RV) = false) (h1 : m (.blk .TLY) = false) (h2 : m (.blk .YK) =
    false) (h3 : m .isl = false) (h4 : m .links = false) (h5 : m .reeve = false) (h6 : m .sent = false) (h7 : m .yoke
    = false) (s : State) (l : ℕ) (k : ℕ) (cause : ℕ) :
    (State.ykMissing s l k cause).keep m = s.keep m := by simp [State.ykMissing, *]
@[simp] theorem execArm_keep (h0 : m .links = false) (h1 : m .yoke = false) (s : State) :
    Keeps m s (execArm s) := by simp [execArm, *]
@[simp] theorem execDigest_keep (h0 : m (.blk .RV) = false) (h1 : m (.blk .YK) = false) (h2 : m .isl = false) (h3 : m
    .links = false) (h4 : m .reeve = false) (h5 : m .yoke = false) (s : State) :
    Keeps m s (execDigest s) := by simp [execDigest, *]
@[simp] theorem execMissing_keep (h0 : m (.blk .RV) = false) (h1 : m (.blk .YK) = false) (h2 : m .isl = false) (h3 : m
    .links = false) (h4 : m .reeve = false) (h5 : m .yoke = false) (s : State) :
    Keeps m s (execMissing s) := by simp [execMissing, *]
@[simp] theorem execAgreementPoint_keep (h0 : m (.blk .RV) = false) (h1 : m (.blk .YK) = false) (h2 : m .isl = false)
    (h3 : m .reeve = false) (h4 : m .yoke = false) (l : Fin 16) (k : BitVec 32) (s : State) :
    Keeps m s (execAgreementPoint l k s) := by unfold execAgreementPoint; (repeat' split) <;> simp [*]
@[simp] theorem State.hashParts_keep (h0 : m (.blk .GRN) = false) (h1 : m (.blk .RV) = false) (h2 : m .caches = false)
    (h3 : m .reeve = false) (s : State) (base : ℕ) (part : ℕ) (y3 : ℕ) (y4 : List ℕ) :
    (State.hashParts s base part y3 y4).2.keep m = s.keep m := by
  induction y3 generalizing s y4 with
  | zero => unfold State.hashParts; repeat' (first | (simp [h0, h1, h2, h3]; done) | split | (refine (foldl_keep (fun s a => ?_) _ _).trans ?_) | (simp only [Prod.ext_iff] at *; casesm* _ ∧ _; subst_vars; simp [h0, h1, h2, h3]; done) | (simp only [keeps_next]) | simp [h0, h1, h2, h3])
  | succ n ih =>
    unfold State.hashParts
    repeat' (first | (simp [h0, h1, h2, h3, ih]; done) | split | (refine (foldl_keep (fun s a => ?_) _ _).trans ?_) | (simp only [Prod.ext_iff] at *; casesm* _ ∧ _; subst_vars; simp [h0, h1, h2, h3, ih]; done) | (simp only [keeps_next]) | simp [h0, h1, h2, h3, ih])
@[simp] theorem State.hashRange_keep (h0 : m (.blk .GRN) = false) (h1 : m (.blk .RV) = false) (h2 : m .caches = false)
    (h3 : m .reeve = false) (s : State) (r : ℕ) (acc : List ℕ) :
    (State.hashRange s r acc).2.keep m = s.keep m := by
  unfold State.hashRange
  dsimp only
  split
  · rfl
  · have e := State.hashParts_keep (m := m) h0 h1 h2 h3 s (s.f YK_HASH_BASE.ADDR r * 65536)
      ((s.f YK_HASH_LEN.LEN r * 65536 - s.f YK_HASH_LEN.LEN r * 65536 % 2 ^ 20) / 16) 16 []
    split <;> rename_i heq <;> rw [heq] at e <;> exact e
@[simp] theorem State.hashRanges_keep (h0 : m (.blk .GRN) = false) (h1 : m (.blk .RV) = false) (h2 : m .caches =
    false) (h3 : m .reeve = false) (s : State) (rs : List ℕ) :
    (State.hashRanges s rs).2.keep m = s.keep m := by
  unfold State.hashRanges
  suffices H : ∀ (rs : List Nat) (x : Option (List Nat) × State), (rs.foldl (fun x r => match x.1 with
      | some acc => x.2.hashRange r acc
      | none => x) x).2.keep m = x.2.keep m from H rs _
  intro rs
  induction rs with
  | nil => intros; rfl
  | cons r rs ih =>
    intro x
    rw [List.foldl_cons, ih]
    split
    · exact State.hashRange_keep h0 h1 h2 h3 _ _ _
    · rfl
@[simp] theorem State.hashCompare_keep (h0 : m (.blk .RV) = false) (h1 : m (.blk .YK) = false) (h2 : m .reeve = false)
    (h3 : m .yoke = false) (s : State) (l : ℕ) (k : ℕ) :
    (State.hashCompare s l k).keep m = s.keep m := by unfold State.hashCompare; (repeat' split) <;> simp [*]
@[simp] theorem State.takeHash_keep (h0 : m (.blk .GRN) = false) (h1 : m (.blk .RV) = false) (h2 : m (.blk .TLY) =
    false) (h3 : m (.blk .YK) = false) (h4 : m .caches = false) (h5 : m .links = false) (h6 : m .reeve = false) (h7 :
    m .sent = false) (h8 : m .yoke = false) (s : State) (l : ℕ) (k : ℕ) :
    (State.takeHash s l k).keep m = s.keep m := by
  unfold State.takeHash
  have e := State.hashRanges_keep (m := m) (by simp only [*]) (by simp only [*]) (by simp only [*]) (by simp only [*]) s (List.range 16)
  split <;> rename_i heq <;> rw [heq] at e
  · exact e
  · simp [h0, h1, h2, h3, h4, h5, h6, h7, h8]
    exact e
@[simp] theorem execHash_keep (h0 : m (.blk .RV) = false) (h1 : m (.blk .YK) = false) (h2 : m .links = false) (h3 : m
    .reeve = false) (h4 : m .yoke = false) (s : State) :
    Keeps m s (execHash s) := by simp [execHash, *]

end Sys2Proof.Machine
end

