-- ==== Sys2Proof/Laws/KeepSower.lean ====
section
/-! SUPPORT. What the operations and commands of Machine/Sower.lean keep: each changes only the facets
named in its hypotheses (`State.keep`). -/

namespace Sys2Proof.Machine

variable {m : Facet → Bool}


@[simp] theorem State.setLoop_keep (h0 : m (.blk .SOW) = false) (h1 : m .loops = false) (s : State) (l : ℕ) (x :
    FrameLoop) :
    (State.setLoop s l x).keep m = s.keep m := by simp [State.setLoop, *]
@[simp] theorem State.frameTrace_keep (h0 : m (.blk .GLN) = false) (h1 : m .gln = false) (s : State) (l : ℕ) (k : ℕ)
    (event : ℕ) :
    (State.frameTrace s l k event).keep m = s.keep m := by simp [State.frameTrace, *]
@[simp] theorem execFrameArm_keep (h0 : m (.blk .RV) = false) (h1 : m (.blk .SOW) = false) (h2 : m (.blk .TLY) =
    false) (h3 : m .drill = false) (h4 : m .links = false) (h5 : m .loops = false) (h6 : m .reeve = false) (h7 : m
    .sent = false) (h8 : m .yoke = false) (e : Fin 4096) (s : State) :
    Keeps m s (execFrameArm e s) := by
  unfold execFrameArm
  repeat' (first | (simp [*]; done) | split | (refine (foldl_keep (fun s a => ?_) _ _).trans ?_) | (apply State.work_keep <;> (first | (simp only [h0, h1, h2, h3, h4, h5, h6, h7, h8]; done) | (intros; dsimp only) | intros)) | (simp only [Prod.ext_iff] at *; casesm* _ ∧ _; subst_vars; simp [*]; done) | (simp only [keeps_next]) | simp [*])
@[simp] theorem State.disarm_keep (h0 : m (.blk .SOW) = false) (h1 : m .loops = false) (s : State) (l : ℕ) (cause : ℕ)
    :
    (State.disarm s l cause).keep m = s.keep m := by unfold State.disarm; (repeat' split) <;> simp [*]
@[simp] theorem execFrameDisarm_keep (h0 : m (.blk .SOW) = false) (h1 : m .drill = false) (h2 : m .loops = false) (e :
    Fin 4096) (s : State) :
    Keeps m s (execFrameDisarm e s) := by
  unfold execFrameDisarm
  repeat' (first | (simp [*]; done) | split | (refine (foldl_keep (fun s a => ?_) _ _).trans ?_) | (apply State.work_keep <;> (first | (simp only [h0, h1, h2]; done) | (intros; dsimp only) | intros)) | (simp only [Prod.ext_iff] at *; casesm* _ ∧ _; subst_vars; simp [*]; done) | (simp only [keeps_next]) | simp [*])
@[simp] theorem execSheafDeclare_keep (h0 : m (.blk .SOW) = false) (h1 : m .drill = false) (h2 : m .loops = false) (e
    : Fin 4096) (s : State) :
    Keeps m s (execSheafDeclare e s) := by
  unfold execSheafDeclare
  repeat' (first | (simp [*]; done) | split | (refine (foldl_keep (fun s a => ?_) _ _).trans ?_) | (apply State.work_keep <;> (first | (simp only [h0, h1, h2]; done) | (intros; dsimp only) | intros)) | (simp only [Prod.ext_iff] at *; casesm* _ ∧ _; subst_vars; simp [*]; done) | (simp only [keeps_next]) | simp [*])
@[simp] theorem State.frameReply_keep (h0 : m (.blk .DRL) = false) (h1 : m (.blk .GRN) = false) (h2 : m (.blk .RV) =
    false) (h3 : m .caches = false) (h4 : m .cores = false) (h5 : m .drill = false) (h6 : m .granary = false) (h7 : m
    .mem = false) (h8 : m .reeve = false) (h9 : m .seedbox = false) (h10 : m .sent = false) (h11 : m .vecs = false) (s
    : State) (l : ℕ) (x : FrameLoop) (k : ℕ) (r : Reply) :
    (State.frameReply s l x k r).keep m = s.keep m := by unfold State.frameReply; (repeat' split) <;> simp [*]
@[simp] theorem State.countOutcome_keep (h0 : m (.blk .SOW) = false) (h1 : m .loops = false) (s : State) (l : ℕ) (t :
    List Byte) (status : ℕ) :
    (State.countOutcome s l t status).keep m = s.keep m := by simp [State.countOutcome, *]
@[simp] theorem State.reportMissing_keep (h0 : m (.blk .RV) = false) (h1 : m (.blk .TLY) = false) (h2 : m (.blk .YK) =
    false) (h3 : m .isl = false) (h4 : m .links = false) (h5 : m .reeve = false) (h6 : m .sent = false) (h7 : m .yoke
    = false) (s : State) (l : ℕ) (k : ℕ) (cause : ℕ) :
    (State.reportMissing s l k cause).keep m = s.keep m := by simp [State.reportMissing, *]
@[simp] theorem execFrameStart_keep (h0 : m (.blk .SOW) = false) (h1 : m .loops = false) (h2 : m .yoke = false) (l :
    Fin 16) (s : State) :
    Keeps m s (execFrameStart l s) := by unfold execFrameStart; (repeat' split) <;> simp [*]
@[simp] theorem State.sowWaits_keep (h0 : m (.blk .GRN) = false) (h1 : m (.blk .RV) = false) (h2 : m .caches = false)
    (h3 : m .cores = false) (h4 : m .granary = false) (h5 : m .mem = false) (h6 : m .reeve = false) (s : State) (plot
    : ℕ) :
    ∀ x, State.sowWaits s plot = some x → x.keep m = s.keep m := by
  unfold State.sowWaits; (repeat' split) <;> (try simp only [Prod.ext_iff] at *) <;> (try casesm* _ ∧ _) <;> (try subst_vars) <;> simp [*]
@[simp] theorem State.frameSown_keep (h0 : m (.blk .GLN) = false) (h1 : m (.blk .GRN) = false) (h2 : m (.blk .RV) =
    false) (h3 : m (.blk .SOW) = false) (h4 : m .caches = false) (h5 : m .cores = false) (h6 : m .drill = false) (h7 :
    m .fresh = false) (h8 : m .gln = false) (h9 : m .granary = false) (h10 : m .loops = false) (h11 : m .mem = false)
    (h12 : m .reeve = false) (h13 : m .threads = false) (s : State) (l : Fin 16) (e : ℕ) (x : FrameLoop) (k : ℕ) (a :
    Entry) :
    (State.frameSown s l e x k a).keep m = s.keep m := by simp [State.frameSown, *]
@[simp] theorem execFrameRelease_keep (h0 : m (.blk .GLN) = false) (h1 : m (.blk .GRN) = false) (h2 : m (.blk .RV) =
    false) (h3 : m (.blk .SOW) = false) (h4 : m .caches = false) (h5 : m .cores = false) (h6 : m .drill = false) (h7 :
    m .fresh = false) (h8 : m .gln = false) (h9 : m .granary = false) (h10 : m .loops = false) (h11 : m .mem = false)
    (h12 : m .reeve = false) (h13 : m .threads = false) (l : Fin 16) (e : Fin 4096) (res : MemRes) (s : State) :
    Keeps m s (execFrameRelease l e res s) := by
  unfold execFrameRelease
  rw [keeps_next]
  refine State.withRes_keep s res _ fun s => ?_
  split
  · rfl
  · split
    · dsimp only
      split
      · rfl
      · split
        · exact keep_getD (State.sowWaits_keep h1 h2 h4 h5 h9 h11 h12 _ _)
        · exact State.frameSown_keep h0 h1 h2 h3 h4 h5 h6 h7 h8 h9 h10 h11 h12 h13 _ _ _ _ _ _
    · rfl
@[simp] theorem execFrameDrop_keep (h0 : m (.blk .DRL) = false) (h1 : m (.blk .GLN) = false) (h2 : m (.blk .GRN) =
    false) (h3 : m (.blk .RV) = false) (h4 : m (.blk .SOW) = false) (h5 : m (.blk .TLY) = false) (h6 : m (.blk .YK) =
    false) (h7 : m .caches = false) (h8 : m .cores = false) (h9 : m .drill = false) (h10 : m .gln = false) (h11 : m
    .granary = false) (h12 : m .isl = false) (h13 : m .links = false) (h14 : m .loops = false) (h15 : m .mem = false)
    (h16 : m .reeve = false) (h17 : m .seedbox = false) (h18 : m .sent = false) (h19 : m .vecs = false) (h20 : m .yoke
    = false) (l : Fin 16) (s : State) :
    Keeps m s (execFrameDrop l s) := by unfold execFrameDrop; (repeat' split) <;> simp [*]
@[simp] theorem execWarn_keep (h0 : m (.blk .FUR) = false) (h1 : m (.blk .SOW) = false) (h2 : m .loops = false) (l :
    Fin 16) (s : State) :
    Keeps m s (execWarn l s) := by unfold execWarn; (repeat' split) <;> simp [*]
@[simp] theorem State.deadlineOf_keep (h0 : m (.blk .FUR) = false) (h1 : m (.blk .RV) = false) (h2 : m (.blk .SOW) =
    false) (h3 : m (.blk .TLY) = false) (h4 : m (.blk .YK) = false) (h5 : m .drill = false) (h6 : m .isl = false) (h7
    : m .links = false) (h8 : m .loops = false) (h9 : m .reeve = false) (h10 : m .sent = false) (h11 : m .yoke =
    false) (s : State) (l : ℕ) (x : FrameLoop) (r : RunFrame) :
    (State.deadlineOf s l x r).keep m = s.keep m := by unfold State.deadlineOf; (repeat' split) <;> simp [*]
@[simp] theorem execDeadline_keep (h0 : m (.blk .FUR) = false) (h1 : m (.blk .RV) = false) (h2 : m (.blk .SOW) =
    false) (h3 : m (.blk .TLY) = false) (h4 : m (.blk .YK) = false) (h5 : m .drill = false) (h6 : m .isl = false) (h7
    : m .links = false) (h8 : m .loops = false) (h9 : m .reeve = false) (h10 : m .sent = false) (h11 : m .yoke =
    false) (l : Fin 16) (s : State) :
    Keeps m s (execDeadline l s) := by unfold execDeadline; (repeat' split) <;> simp [*]
@[simp] theorem State.frameDone_keep (h0 : m (.blk .DRL) = false) (h1 : m (.blk .GLN) = false) (h2 : m (.blk .GRN) =
    false) (h3 : m (.blk .RV) = false) (h4 : m (.blk .SOW) = false) (h5 : m .caches = false) (h6 : m .cores = false)
    (h7 : m .drill = false) (h8 : m .gln = false) (h9 : m .granary = false) (h10 : m .loops = false) (h11 : m .mem =
    false) (h12 : m .reeve = false) (h13 : m .seedbox = false) (h14 : m .sent = false) (h15 : m .vecs = false) (s :
    State) (l : ℕ) (x : FrameLoop) (r : RunFrame) (rep : Reply) :
    (State.frameDone s l x r rep).keep m = s.keep m := by simp only [State.frameDone]; (repeat' split) <;> simp [*]
@[simp] theorem State.countWorst_keep (h0 : m (.blk .SOW) = false) (s : State) (l : ℕ) (x : FrameLoop) (r : RunFrame)
    (w : Sowing) :
    (State.countWorst s l x r w).keep m = s.keep m := by simp [State.countWorst, *]
@[simp] theorem State.frameEnds_keep (h0 : m (.blk .DRL) = false) (h1 : m (.blk .GLN) = false) (h2 : m (.blk .GRN) =
    false) (h3 : m (.blk .RV) = false) (h4 : m (.blk .SOW) = false) (h5 : m (.blk .TLY) = false) (h6 : m (.blk .YK) =
    false) (h7 : m .caches = false) (h8 : m .cores = false) (h9 : m .drill = false) (h10 : m .gln = false) (h11 : m
    .granary = false) (h12 : m .isl = false) (h13 : m .links = false) (h14 : m .loops = false) (h15 : m .mem = false)
    (h16 : m .reeve = false) (h17 : m .seedbox = false) (h18 : m .sent = false) (h19 : m .vecs = false) (h20 : m .yoke
    = false) (s : State) (l : ℕ) (x : FrameLoop) (r : RunFrame) (y : Entry) :
    (State.frameEnds s l x r y).keep m = s.keep m := by simp only [State.frameEnds]; (repeat' split) <;> simp [*]
@[simp] theorem State.readSheaf_keep (h0 : m (.blk .GRN) = false) (h1 : m (.blk .RV) = false) (h2 : m .caches = false)
    (h3 : m .cores = false) (h4 : m .granary = false) (h5 : m .mem = false) (h6 : m .reeve = false) (s : State) (plot
    : ℕ) (y2 : List (ℕ × ℕ)) :
    (State.readSheaf s plot y2).2.keep m = s.keep m := by
  induction y2 generalizing s with
  | nil => unfold State.readSheaf; repeat' (first | (simp [h0, h1, h2, h3, h4, h5, h6]; done) | split | (refine (foldl_keep (fun s a => ?_) _ _).trans ?_) | (simp only [Prod.ext_iff] at *; casesm* _ ∧ _; subst_vars; simp [h0, h1, h2, h3, h4, h5, h6]; done) | (simp only [keeps_next]) | simp [h0, h1, h2, h3, h4, h5, h6])
  | cons r rs ih =>
    unfold State.readSheaf
    repeat' (first | (simp [h0, h1, h2, h3, h4, h5, h6, ih]; done) | split | (refine (foldl_keep (fun s a => ?_) _ _).trans ?_) | (simp only [Prod.ext_iff] at *; casesm* _ ∧ _; subst_vars; simp [h0, h1, h2, h3, h4, h5, h6, ih]; done) | (simp only [keeps_next]) | simp [h0, h1, h2, h3, h4, h5, h6, ih])
@[simp] theorem State.requestBlock_keep (h0 : m .fresh = false) (s : State) (regions : List (List Byte)) :
    (State.requestBlock s regions).2.keep m = s.keep m := by
  simp only [State.requestBlock]; (repeat' split) <;> simp [*]
@[simp] theorem State.sheafIn_keep (h0 : m (.blk .DRL) = false) (h1 : m (.blk .GLN) = false) (h2 : m (.blk .GRN) =
    false) (h3 : m (.blk .RV) = false) (h4 : m (.blk .SOW) = false) (h5 : m (.blk .TLY) = false) (h6 : m (.blk .YK) =
    false) (h7 : m .caches = false) (h8 : m .cores = false) (h9 : m .drill = false) (h10 : m .fresh = false) (h11 : m
    .gln = false) (h12 : m .granary = false) (h13 : m .isl = false) (h14 : m .links = false) (h15 : m .loops = false)
    (h16 : m .mem = false) (h17 : m .reeve = false) (h18 : m .seedbox = false) (h19 : m .sent = false) (h20 : m .vecs
    = false) (h21 : m .yoke = false) (s : State) (l : ℕ) (x : FrameLoop) (r : RunFrame) (regions : List (List Byte)) :
    (State.sheafIn s l x r regions).keep m = s.keep m := by simp [State.sheafIn, *]
@[simp] theorem execDigestComplete_keep (h0 : m (.blk .DRL) = false) (h1 : m (.blk .GLN) = false) (h2 : m (.blk .GRN)
    = false) (h3 : m (.blk .RV) = false) (h4 : m (.blk .SOW) = false) (h5 : m (.blk .TLY) = false) (h6 : m (.blk .YK)
    = false) (h7 : m .caches = false) (h8 : m .cores = false) (h9 : m .drill = false) (h10 : m .fresh = false) (h11 :
    m .gln = false) (h12 : m .granary = false) (h13 : m .isl = false) (h14 : m .links = false) (h15 : m .loops =
    false) (h16 : m .mem = false) (h17 : m .reeve = false) (h18 : m .seedbox = false) (h19 : m .sent = false) (h20 : m
    .vecs = false) (h21 : m .yoke = false) (l : Fin 16) (res : MemRes) (s : State) :
    Keeps m s (execDigestComplete l res s) := by
  unfold execDigestComplete
  rw [keeps_next]
  refine State.withRes_keep s res _ fun s => ?_
  split
  · rfl
  · split
    · rfl
    · split
      · rfl
      · split <;> rename_i hx <;> have e := congrArg (fun x => x.2.keep m) hx <;>
          simp only [State.readSheaf_keep h2 h3 h7 h8 h12 h16 h17] at e
        · exact e.symm
        · rw [State.frameDone_keep h0 h1 h2 h3 h4 h7 h8 h9 h11 h12 h15 h16 h17 h18 h19 h20, State.reportMissing_keep h3 h5 h6 h13 h14 h17 h19 h21, e]
        · rw [State.sheafIn_keep h0 h1 h2 h3 h4 h5 h6 h7 h8 h9 h10 h11 h12 h13 h14 h15 h16 h17 h18 h19 h20 h21, e]
@[simp] theorem State.armEnds_keep (h0 : m (.blk .DRL) = false) (h1 : m (.blk .GLN) = false) (h2 : m (.blk .GRN) =
    false) (h3 : m (.blk .HRW) = false) (h4 : m (.blk .RV) = false) (h5 : m (.blk .SOW) = false) (h6 : m (.blk .TLY) =
    false) (h7 : m .caches = false) (h8 : m .cores = false) (h9 : m .drill = false) (h10 : m .fresh = false) (h11 : m
    .gln = false) (h12 : m .granary = false) (h13 : m .host = false) (h14 : m .links = false) (h15 : m .loops = false)
    (h16 : m .mem = false) (h17 : m .reeve = false) (h18 : m .seedbox = false) (h19 : m .sent = false) (h20 : m .vecs
    = false) (s : State) (l : ℕ) (x : FrameLoop) (e : ℕ) (y : Entry) :
    (State.armEnds s l x e y).keep m = s.keep m := by simp only [State.armEnds]; (repeat' split) <;> simp [*]
@[simp] theorem State.takeEnd_keep (h0 : m (.blk .DRL) = false) (h1 : m (.blk .GLN) = false) (h2 : m (.blk .GRN) =
    false) (h3 : m (.blk .HRW) = false) (h4 : m (.blk .RV) = false) (h5 : m (.blk .SOW) = false) (h6 : m (.blk .TLY) =
    false) (h7 : m (.blk .YK) = false) (h8 : m .caches = false) (h9 : m .cores = false) (h10 : m .drill = false) (h11
    : m .fresh = false) (h12 : m .gln = false) (h13 : m .granary = false) (h14 : m .host = false) (h15 : m .isl =
    false) (h16 : m .links = false) (h17 : m .loops = false) (h18 : m .mem = false) (h19 : m .reeve = false) (h20 : m
    .seedbox = false) (h21 : m .sent = false) (h22 : m .vecs = false) (h23 : m .yoke = false) (s : State) (e : ℕ) :
    (State.takeEnd s e).keep m = s.keep m := by unfold State.takeEnd; (repeat' split) <;> simp [*]

end Sys2Proof.Machine
end

