-- ==== Sys2Proof/Laws/KeepArbiter.lean ====
section
/-! SUPPORT. What the operations and commands of Machine/Arbiter.lean keep: each changes only the facets
named in its hypotheses (`State.keep`). -/

namespace Sys2Proof.Machine

variable {m : Facet → Bool}


@[simp] theorem State.stopWork_keep (h0 : m (.blk .FUR) = false) (h1 : m (.blk .GRN) = false) (h2 : m (.blk .SOW) =
    false) (h3 : m .drill = false) (h4 : m .granary = false) (h5 : m .host = false) (h6 : m .loops = false) (s :
    State) (e : ℕ) (x : Entry) :
    (State.stopWork s e x).keep m = s.keep m := by unfold State.stopWork; (repeat' split) <;> simp [*]
@[simp] theorem State.abortHeld_keep (h0 : m .acre = false) (h1 : m .drill = false) (h2 : m .host = false) (s : State)
    (e : ℕ) :
    (State.abortHeld s e).keep m = s.keep m := by simp [State.abortHeld, *]
@[simp] theorem execAbort_keep (h0 : m .acre = false) (h1 : m (.blk .FUR) = false) (h2 : m (.blk .GRN) = false) (h3 :
    m (.blk .SOW) = false) (h4 : m .drill = false) (h5 : m .granary = false) (h6 : m .host = false) (h7 : m .loops =
    false) (e : Fin 4096) (s : State) :
    Keeps m s (execAbort e s) := by
  unfold execAbort
  repeat' (first | (simp [*]; done) | split | (refine (foldl_keep (fun s a => ?_) _ _).trans ?_) | (apply State.work_keep <;> (first | (simp only [h0, h1, h2, h3, h4, h5, h6, h7]; done) | (intros; dsimp only) | intros)) | (simp only [Prod.ext_iff] at *; casesm* _ ∧ _; subst_vars; simp [*]; done) | (simp only [keeps_next]) | simp [*])
@[simp] theorem execHeadlandMsg_keep (h0 : m .drill = false) (h1 : m .isl = false) (e : Fin 4096) (s : State) :
    Keeps m s (execHeadlandMsg e s) := by simp [execHeadlandMsg, *]
@[simp] theorem execMailboxAnswer_keep (h0 : m (.blk .GRN) = false) (h1 : m (.blk .RV) = false) (h2 : m .caches =
    false) (h3 : m .cores = false) (h4 : m .drill = false) (h5 : m .granary = false) (h6 : m .isl = false) (h7 : m
    .mem = false) (h8 : m .reeve = false) (h9 : m .seedbox = false) (h10 : m .sent = false) (e : Fin 4096) (res :
    MemRes) (s : State) :
    Keeps m s (execMailboxAnswer e res s) := by
  unfold execMailboxAnswer
  repeat' (first | (simp [*]; done) | split | (refine (foldl_keep (fun s a => ?_) _ _).trans ?_) | (apply State.withRes_keep <;> (first | (simp only [h0, h1, h2, h3, h4, h5, h6, h7, h8, h9, h10]; done) | (intros; dsimp only) | intros)) | (simp only [Prod.ext_iff] at *; casesm* _ ∧ _; subst_vars; simp [*]; done) | (simp only [keeps_next]) | simp [*])
@[simp] theorem execIslandTimeout_keep (h0 : m .drill = false) (h1 : m .isl = false) (e : Fin 4096) (s : State) :
    Keeps m s (execIslandTimeout e s) := by unfold execIslandTimeout; (repeat' split) <;> simp [*]

end Sys2Proof.Machine
end

