-- ==== Sys2Proof/Laws/KeepMailbox.lean ====
section
/-! SUPPORT. What the operations and commands of Machine/Mailbox.lean keep: each changes only the facets
named in its hypotheses (`State.keep`). -/

namespace Sys2Proof.Machine

variable {m : Facet → Bool}


@[simp] theorem execNop_keep (h0 : m .threads = false) (h : Tid) (s : State) :
    Keeps m s (execNop h s) := by simp [execNop, *]
@[simp] theorem execMsend_keep (h0 : m .threads = false) (h : Tid) (gs1 : Reg5) (gs2 : Reg5) (pd : Pred) (s : State) :
    Keeps m s (execMsend h gs1 gs2 pd s) := by simp [execMsend, *]
@[simp] theorem execMailboxPostDelivery_keep (h0 : m .fresh = false) (h1 : m .threads = false) (h : Tid) (s : State) :
    Keeps m s (execMailboxPostDelivery h s) := by simp only [execMailboxPostDelivery]; (repeat' split) <;> simp [*]
@[simp] theorem execMrecv_keep (h0 : m .threads = false) (h : Tid) (gd : Reg5) (pd : Pred) (s : State) :
    Keeps m s (execMrecv h gd pd s) := by simp [execMrecv, *]
@[simp] theorem State.waitRetires_keep (h0 : m .threads = false) (s : State) (h : ℕ) (gd : Reg5) (expired : Bool) :
    (State.waitRetires s h gd expired).keep m = s.keep m := by simp [State.waitRetires, *]
@[simp] theorem execWait_keep (h0 : m (.blk .FUR) = false) (h1 : m .threads = false) (h : Tid) (gd : Reg5) (gs1 :
    Reg5) (s : State) :
    Keeps m s (execWait h gd gs1 s) := by simp [execWait, *]
@[simp] theorem execWaitTimeout_keep (h0 : m .threads = false) (h : Tid) (s : State) :
    Keeps m s (execWaitTimeout h s) := by unfold execWaitTimeout; (repeat' split) <;> simp [*]
@[simp] theorem execWaitWake_keep (h0 : m .threads = false) (h : Tid) (s : State) :
    Keeps m s (execWaitWake h s) := by unfold execWaitWake; (repeat' split) <;> simp [*]

end Sys2Proof.Machine
end

