-- ==== Sys2Proof/Laws/KeepDebug.lean ====
section
/-! SUPPORT. What the operations and commands of Machine/Debug.lean keep: each changes only the facets
named in its hypotheses (`State.keep`). -/

namespace Sys2Proof.Machine

variable {m : Facet → Bool}


@[simp] theorem State.haltBusy_keep (h0 : m (.blk .GLN) = false) (h1 : m .gln = false) (s : State) :
    (State.haltBusy s).keep m = s.keep m := by simp [State.haltBusy, *]
@[simp] theorem State.haltAction_keep (h0 : m (.blk .GLN) = false) (s : State) (a : ℕ) :
    (State.haltAction s a).keep m = s.keep m := by simp [State.haltAction, *]
@[simp] theorem execHaltRequest_keep (h0 : m (.blk .GLN) = false) (h1 : m .gln = false) (h2 : m .threads = false)
    (agent : Agent) (n : Cid) (mask : BitVec 8) (s : State) :
    Keeps m s (execHaltRequest agent n mask s) := by simp [execHaltRequest, *]
@[simp] theorem execHalt_keep (h0 : m (.blk .GLN) = false) (h1 : m .gln = false) (h2 : m .threads = false) (h : Tid)
    (s : State) :
    Keeps m s (execHalt h s) := by simp [execHalt, *]
@[simp] theorem State.unhalt_keep (h0 : m (.blk .GLN) = false) (h1 : m .gln = false) (h2 : m .threads = false) (s :
    State) (h : ℕ) (step : Bool) (noint : Bool) :
    (State.unhalt s h step noint).keep m = s.keep m := by simp [State.unhalt, *]
@[simp] theorem execResumeRequest_keep (h0 : m (.blk .FUR) = false) (h1 : m (.blk .GLN) = false) (h2 : m .gln = false)
    (h3 : m .threads = false) (agent : Agent) (n : Cid) (mask : BitVec 8) (s : State) :
    Keeps m s (execResumeRequest agent n mask s) := by simp [execResumeRequest, *]
@[simp] theorem execStep_keep (h0 : m (.blk .GLN) = false) (h1 : m .gln = false) (h2 : m .threads = false) (agent :
    Agent) (n : Cid) (mask : BitVec 8) (noint : Bool) (s : State) :
    Keeps m s (execStep agent n mask noint s) := by simp [execStep, *]
@[simp] theorem State.dregWrite_keep (h0 : m .threads = false) (h1 : m .tiles = false) (s : State) (h : ℕ) (cls : ℕ)
    (index : ℕ) (v : Word) :
    (State.dregWrite s h cls index v).keep m = s.keep m := by unfold State.dregWrite; (repeat' split) <;> simp [*]
@[simp] theorem execDregAccess_keep (h0 : m (.blk .GLN) = false) (h1 : m .threads = false) (h2 : m .tiles = false)
    (agent : Agent) (write : Bool) (h : Tid) (cls : BitVec 3) (index : BitVec 12) (s : State) :
    Keeps m s (execDregAccess agent write h cls index s) := by simp [execDregAccess, *]
@[simp] theorem execOverflow_keep (h0 : m (.blk .GLN) = false) (h1 : m (.blk .RV) = false) (h2 : m .gln = false) (h3 :
    m .reeve = false) (c : Fin 256) (s : State) :
    Keeps m s (execOverflow c s) := by simp [execOverflow, *]
@[simp] theorem State.traceIdle_keep (h0 : m (.blk .GLN) = false) (s : State) :
    (State.traceIdle s).keep m = s.keep m := by simp [State.traceIdle, *]
@[simp] theorem State.traceStore_keep (h0 : m (.blk .GLN) = false) (h1 : m (.blk .GRN) = false) (h2 : m (.blk .RV) =
    false) (h3 : m .caches = false) (h4 : m .cores = false) (h5 : m .granary = false) (h6 : m .mem = false) (h7 : m
    .reeve = false) (s : State) (block : List Byte) (payload : ℕ) :
    (State.traceStore s block payload).keep m = s.keep m := by simp [State.traceStore, *]
@[simp] theorem execTraceBlockWrite_keep (h0 : m (.blk .GLN) = false) (h1 : m (.blk .GRN) = false) (h2 : m (.blk .RV)
    = false) (h3 : m .caches = false) (h4 : m .cores = false) (h5 : m .gln = false) (h6 : m .granary = false) (h7 : m
    .mem = false) (h8 : m .reeve = false) (c : Fin 256) (res : MemRes) (s : State) :
    Keeps m s (execTraceBlockWrite c res s) := by simp [execTraceBlockWrite, *]
@[simp] theorem State.traceFlush_keep (h0 : m (.blk .GLN) = false) (h1 : m .gln = false) (s : State) (c : ℕ) :
    (State.traceFlush s c).keep m = s.keep m := by simp [State.traceFlush, *]
@[simp] theorem State.traceRescan_keep (h0 : m (.blk .GLN) = false) (h1 : m .gln = false) (s : State) :
    (State.traceRescan s).keep m = s.keep m := by simp [State.traceRescan, *]
@[simp] theorem State.traceFields_keep (h0 : m (.blk .GLN) = false) (s : State) (v : ℕ) :
    (State.traceFields s v).keep m = s.keep m := by simp [State.traceFields, *]
@[simp] theorem execTraceEnable_keep (h0 : m (.blk .GLN) = false) (h1 : m .gln = false) (agent : Agent) (v : BitVec
    32) (s : State) :
    Keeps m s (execTraceEnable agent v s) := by simp [execTraceEnable, *]
@[simp] theorem execTallyClear_keep (h0 : m (.blk .TLY) = false) (agent : Agent) (s : State) :
    Keeps m s (execTallyClear agent s) := by simp [execTallyClear, *]
@[simp] theorem execTallyOvf_keep (h0 : m (.blk .RV) = false) (h1 : m (.blk .TLY) = false) (h2 : m .reeve = false) (n
    : Fin 128) (s : State) :
    Keeps m s (execTallyOvf n s) := by simp [execTallyOvf, *]

end Sys2Proof.Machine
end

