-- ==== Sys2Proof/Laws/KeepReset.lean ====
section
/-! SUPPORT. What the operations and commands of Machine/Reset.lean keep: each changes only the facets
named in its hypotheses (`State.keep`). -/

namespace Sys2Proof.Machine

variable {m : Facet → Bool}


@[simp] theorem State.selfRefresh_keep (h0 : m (.blk .GRN) = false) (s : State) :
    (State.selfRefresh s).keep m = s.keep m := by simp [State.selfRefresh, *]
@[simp] theorem State.drawEpoch_keep (h0 : m .fresh = false) (s : State) :
    (State.drawEpoch s).2.keep m = s.keep m := by simp [State.drawEpoch, *]
@[simp] theorem State.newEpochs_keep (h0 : m (.blk .SWT) = false) (h1 : m .fresh = false) (h2 : m .yoke = false) (s :
    State) :
    (State.newEpochs s).keep m = s.keep m := by simp [State.newEpochs, *]
@[simp] theorem State.packageClear_keep (h0 : m .acre = false) (h1 : m (.blk .BND) = false) (h2 : m (.blk .BT) =
    false) (h3 : m (.blk .DRL) = false) (h4 : m (.blk .FUR) = false) (h5 : m (.blk .FURG) = false) (h6 : m (.blk .GLN)
    = false) (h7 : m (.blk .GRN) = false) (h8 : m (.blk .GRNG) = false) (h9 : m (.blk .HRW) = false) (h10 : m (.blk
    .HST) = false) (h11 : m (.blk .PWR) = false) (h12 : m (.blk .SOW) = false) (h13 : m (.blk .SWT) = false) (h14 : m
    (.blk .SWTL) = false) (h15 : m (.blk .TLY) = false) (h16 : m (.blk .YK) = false) (h17 : m .bnd = false) (h18 : m
    .boot = false) (h19 : m .caches = false) (h20 : m .clk = false) (h21 : m .cores = false) (h22 : m .drill = false)
    (h23 : m .fresh = false) (h24 : m .gln = false) (h25 : m .granary = false) (h26 : m .host = false) (h27 : m .links
    = false) (h28 : m .loops = false) (h29 : m .seedbox = false) (h30 : m .threads = false) (h31 : m .tiles = false)
    (h32 : m .vecs = false) (h33 : m .yoke = false) (s : State) :
    (State.packageClear s).keep m = s.keep m := by
  have hp : ∀ F ∈ [PWR_WDOG_CFG.PERIOD, PWR_WDOG_CFG.EN], m (.blk F.blk) = false := by
    intro F hF
    have : F.blk = .PWR := by
      have h : ∀ F ∈ [PWR_WDOG_CFG.PERIOD, PWR_WDOG_CFG.EN], F.blk = .PWR := by decide
      exact h F hF
    rw [this]; assumption
  have hg : ∀ F ∈ Blk.GRN.fields.filter (fun F => !grnKept.contains F), m (.blk F.blk) = false := by
    intro F hF
    rw [Blk.fields_blk .GRN F (List.mem_filter.mp hF).1]; assumption
  unfold State.packageClear
  dsimp only [List.foldl]
  rw [State.newEpochs_keep (by simp only [*]) (by simp only [*]) (by simp only [*]),
    State.setOn_keep _ _ (by simp [*]), keep_cleared, State.resetFields_keep _ _ hp, State.resetFields_keep _ _ hg]
  · simp [*]
  all_goals first | assumption | rfl
@[simp] theorem State.packageReset_keep (h0 : m .acre = false) (h1 : m (.blk .BND) = false) (h2 : m (.blk .BT) =
    false) (h3 : m (.blk .DRL) = false) (h4 : m (.blk .FUR) = false) (h5 : m (.blk .FURG) = false) (h6 : m (.blk .GLN)
    = false) (h7 : m (.blk .GRN) = false) (h8 : m (.blk .GRNG) = false) (h9 : m (.blk .HRW) = false) (h10 : m (.blk
    .HST) = false) (h11 : m (.blk .PWR) = false) (h12 : m (.blk .RV) = false) (h13 : m (.blk .SOW) = false) (h14 : m
    (.blk .SWT) = false) (h15 : m (.blk .SWTL) = false) (h16 : m (.blk .TLY) = false) (h17 : m (.blk .YK) = false)
    (h18 : m .bnd = false) (h19 : m .boot = false) (h20 : m .caches = false) (h21 : m .clk = false) (h22 : m .cores =
    false) (h23 : m .drill = false) (h24 : m .fresh = false) (h25 : m .gln = false) (h26 : m .granary = false) (h27 :
    m .host = false) (h28 : m .links = false) (h29 : m .loops = false) (h30 : m .reeve = false) (h31 : m .seedbox =
    false) (h32 : m .threads = false) (h33 : m .tiles = false) (h34 : m .vecs = false) (h35 : m .yoke = false) (s :
    State) (cause : Fld) (hc : m (.blk cause.blk) = false) :
    (State.packageReset s cause).keep m = s.keep m := by simp [State.packageReset, *]
@[simp] theorem State.powerOn_keep (h0 : m .acre = false) (h1 : m (.blk .BND) = false) (h2 : m (.blk .BT) = false) (h3
    : m (.blk .CLK) = false) (h4 : m (.blk .DRL) = false) (h5 : m (.blk .FUR) = false) (h6 : m (.blk .FURG) = false)
    (h7 : m (.blk .GLN) = false) (h8 : m (.blk .GRN) = false) (h9 : m (.blk .GRNG) = false) (h10 : m (.blk .HRW) =
    false) (h11 : m (.blk .HST) = false) (h12 : m (.blk .PWR) = false) (h13 : m (.blk .RV) = false) (h14 : m (.blk
    .SOW) = false) (h15 : m (.blk .SWT) = false) (h16 : m (.blk .SWTL) = false) (h17 : m (.blk .TLY) = false) (h18 : m
    (.blk .YK) = false) (h19 : m .bnd = false) (h20 : m .boot = false) (h21 : m .caches = false) (h22 : m .clk =
    false) (h23 : m .cores = false) (h24 : m .drill = false) (h25 : m .fresh = false) (h26 : m .gln = false) (h27 : m
    .granary = false) (h28 : m .host = false) (h29 : m .links = false) (h30 : m .loops = false) (h31 : m .mem = false)
    (h32 : m .por = false) (h33 : m .reeve = false) (h34 : m .seedbox = false) (h35 : m .threads = false) (h36 : m
    .tiles = false) (h37 : m .vecs = false) (h38 : m .yoke = false) (s : State) :
    (State.powerOn s).keep m = s.keep m := by
  have hk : ∀ k, blkOf k = .HDL → ((PWR_RAIL_STATUS.GOOD :: Blk.HDL.fields).any fun F => F.id == k) = true := by
    intro k hk
    have step : ∀ {c : Prop} [Decidable c] {a b : Blk}, a ≠ .HDL → (if c then a else b) = .HDL → ¬c ∧ b = .HDL := by
      intro c _ a b ha e
      split at e
      · exact absurd e ha
      · exact ⟨‹_›, e⟩
    have hr : 326 ≤ k ∧ k < 408 := by
      unfold blkOf at hk
      obtain ⟨-, hk⟩ := step (by decide) hk
      obtain ⟨-, hk⟩ := step (by decide) hk
      obtain ⟨-, hk⟩ := step (by decide) hk
      obtain ⟨-, hk⟩ := step (by decide) hk
      obtain ⟨-, hk⟩ := step (by decide) hk
      obtain ⟨-, hk⟩ := step (by decide) hk
      obtain ⟨-, hk⟩ := step (by decide) hk
      obtain ⟨-, hk⟩ := step (by decide) hk
      obtain ⟨-, hk⟩ := step (by decide) hk
      obtain ⟨-, hk⟩ := step (by decide) hk
      obtain ⟨-, hk⟩ := step (by decide) hk
      obtain ⟨-, hk⟩ := step (by decide) hk
      obtain ⟨-, hk⟩ := step (by decide) hk
      obtain ⟨-, hk⟩ := step (by decide) hk
      obtain ⟨n, hk⟩ := step (by decide) hk
      by_cases l : k < 408
      · omega
      · rw [if_neg l] at hk
        have := (step (by decide) hk).2
        have := (step (by decide) this).2
        cases this
    have hd : ∀ j : Fin 82, ((PWR_RAIL_STATUS.GOOD :: Blk.HDL.fields).any fun F => F.id == 326 + j.val) = true := by
      decide
    have := hd ⟨k - 326, by omega⟩
    rwa [show 326 + (k - 326) = k by omega] at this
  have hm : ∀ b, b ≠ Blk.HDL → m (.blk b) = false := by intro b; cases b <;> (first | (intro hb; exact absurd rfl hb) | (intro _; simp only [h0, h1, h2, h3, h4, h5, h6, h7, h8, h9, h10, h11, h12, h13, h14, h15, h16, h17, h18, h19, h20, h21, h22, h23, h24, h25, h26, h27, h28, h29, h30, h31, h32, h33, h34, h35, h36, h37, h38]))
  have hg : (State.powerOn s).regs.filter (fun c => m (.blk (blkOf (c.1 % 4096)))) =
      s.regs.filter (fun c => m (.blk (blkOf (c.1 % 4096)))) := by
    unfold State.powerOn
    dsimp only
    rw [List.filter_filter]
    refine List.filter_congr fun c _ => ?_
    by_cases hb : blkOf (c.1 % 4096) = .HDL
    · rw [hk _ hb, Bool.and_true]
    · rw [hm _ hb, Bool.false_and]
  unfold State.keep
  rw [hg]
  simp only [State.powerOn, h0, h1, h2, h3, h4, h5, h6, h7, h8, h9, h10, h11, h12, h13, h14, h15, h16, h17, h18, h19, h20, h21, h22, h23, h24, h25, h26, h27, h28, h29, h30, h31, h32, h33, h34, h35, h36, h37, h38, Bool.false_and, Bool.false_eq_true, if_false]
@[simp] theorem execPowerOnReset_keep (h0 : m .acre = false) (h1 : m (.blk .BND) = false) (h2 : m (.blk .BT) = false)
    (h3 : m (.blk .CLK) = false) (h4 : m (.blk .DRL) = false) (h5 : m (.blk .FUR) = false) (h6 : m (.blk .FURG) =
    false) (h7 : m (.blk .GLN) = false) (h8 : m (.blk .GRN) = false) (h9 : m (.blk .GRNG) = false) (h10 : m (.blk
    .HRW) = false) (h11 : m (.blk .HST) = false) (h12 : m (.blk .PWR) = false) (h13 : m (.blk .RV) = false) (h14 : m
    (.blk .SOW) = false) (h15 : m (.blk .SWT) = false) (h16 : m (.blk .SWTL) = false) (h17 : m (.blk .TLY) = false)
    (h18 : m (.blk .YK) = false) (h19 : m .bnd = false) (h20 : m .boot = false) (h21 : m .caches = false) (h22 : m
    .clk = false) (h23 : m .cores = false) (h24 : m .drill = false) (h25 : m .fresh = false) (h26 : m .gln = false)
    (h27 : m .granary = false) (h28 : m .host = false) (h29 : m .links = false) (h30 : m .loops = false) (h31 : m .mem
    = false) (h32 : m .por = false) (h33 : m .reeve = false) (h34 : m .seedbox = false) (h35 : m .threads = false)
    (h36 : m .tiles = false) (h37 : m .vecs = false) (h38 : m .yoke = false) (s : State) :
    Keeps m s (execPowerOnReset s) := by simp [execPowerOnReset, *]
@[simp] theorem State.porRelease_keep (h0 : m (.blk .CLK) = false) (h1 : m (.blk .RV) = false) (h2 : m (.blk .SWT) =
    false) (h3 : m .clk = false) (h4 : m .fresh = false) (h5 : m .por = false) (h6 : m .reeve = false) (h7 : m .yoke =
    false) (s : State) :
    (State.porRelease s).keep m = s.keep m := by simp [State.porRelease, *]
@[simp] theorem execPorstNRelease_keep (h0 : m (.blk .CLK) = false) (h1 : m (.blk .RV) = false) (h2 : m (.blk .SWT) =
    false) (h3 : m (.blk .YK) = false) (h4 : m .boot = false) (h5 : m .clk = false) (h6 : m .fresh = false) (h7 : m
    .por = false) (h8 : m .reeve = false) (h9 : m .yoke = false) (lead : Bool) (flash : Option FlashDevice) (s :
    State) :
    Keeps m s (execPorstNRelease lead flash s) := by
  unfold execPorstNRelease
  repeat' (first | (simp [h0, h1, h2, h3, h4, h5, h6, h7, h8, h9]; done) | split | (refine (foldl_keep (fun s a => ?_) _ _).trans ?_) | (simp only [Prod.ext_iff] at *; casesm* _ ∧ _; subst_vars; simp [h0, h1, h2, h3, h4, h5, h6, h7, h8, h9]; done) | (simp only [keeps_next]) | simp [h0, h1, h2, h3, h4, h5, h6, h7, h8, h9])
@[simp] theorem execRefclkLoss_keep (h0 : m (.blk .CLK) = false) (h1 : m .clk = false) (s : State) :
    Keeps m s (execRefclkLoss s) := by simp [execRefclkLoss, *]
@[simp] theorem execRefclkReturn_keep (h0 : m (.blk .CLK) = false) (h1 : m (.blk .RV) = false) (h2 : m (.blk .SWT) =
    false) (h3 : m .clk = false) (h4 : m .fresh = false) (h5 : m .por = false) (h6 : m .reeve = false) (h7 : m .yoke =
    false) (s : State) :
    Keeps m s (execRefclkReturn s) := by simp [execRefclkReturn, *]
@[simp] theorem execRootUnlock_keep (h0 : m .acre = false) (h1 : m (.blk .BND) = false) (h2 : m (.blk .BT) = false)
    (h3 : m (.blk .CLK) = false) (h4 : m (.blk .DRL) = false) (h5 : m (.blk .FUR) = false) (h6 : m (.blk .FURG) =
    false) (h7 : m (.blk .GLN) = false) (h8 : m (.blk .GRN) = false) (h9 : m (.blk .GRNG) = false) (h10 : m (.blk
    .HRW) = false) (h11 : m (.blk .HST) = false) (h12 : m (.blk .PWR) = false) (h13 : m (.blk .RV) = false) (h14 : m
    (.blk .SOW) = false) (h15 : m (.blk .SWT) = false) (h16 : m (.blk .SWTL) = false) (h17 : m (.blk .TLY) = false)
    (h18 : m (.blk .YK) = false) (h19 : m .bnd = false) (h20 : m .boot = false) (h21 : m .caches = false) (h22 : m
    .clk = false) (h23 : m .cores = false) (h24 : m .drill = false) (h25 : m .fresh = false) (h26 : m .gln = false)
    (h27 : m .granary = false) (h28 : m .host = false) (h29 : m .links = false) (h30 : m .loops = false) (h31 : m
    .reeve = false) (h32 : m .seedbox = false) (h33 : m .threads = false) (h34 : m .tiles = false) (h35 : m .vecs =
    false) (h36 : m .yoke = false) (s : State) :
    Keeps m s (execRootUnlock s) := by simp [execRootUnlock, *]
@[simp] theorem execRootClock_keep (h0 : m (.blk .CLK) = false) (h1 : m (.blk .PWR) = false) (h2 : m (.blk .RV) =
    false) (h3 : m .clk = false) (h4 : m .reeve = false) (s : State) :
    Keeps m s (execRootClock s) := by simp [execRootClock, *]
@[simp] theorem execClockWindow_keep (h0 : m (.blk .CLK) = false) (h1 : m .clk = false) (h2 : m .isl = false) (ref :
    ℕ) (root : ℕ) (s : State) :
    Keeps m s (execClockWindow ref root s) := by simp [execClockWindow, *]
@[simp] theorem State.islandRail_keep (h0 : m (.blk .HDL) = false) (h1 : m .isl = false) (s : State) (r : ℕ) (bad :
    Bool) :
    (State.islandRail s r bad).keep m = s.keep m := by simp [State.islandRail, *]
@[simp] theorem execSupplySample_keep (h0 : m .acre = false) (h1 : m (.blk .BND) = false) (h2 : m (.blk .BT) = false)
    (h3 : m (.blk .CLK) = false) (h4 : m (.blk .DRL) = false) (h5 : m (.blk .FUR) = false) (h6 : m (.blk .FURG) =
    false) (h7 : m (.blk .GLN) = false) (h8 : m (.blk .GRN) = false) (h9 : m (.blk .GRNG) = false) (h10 : m (.blk
    .HDL) = false) (h11 : m (.blk .HRW) = false) (h12 : m (.blk .HST) = false) (h13 : m (.blk .PWR) = false) (h14 : m
    (.blk .RV) = false) (h15 : m (.blk .SOW) = false) (h16 : m (.blk .SWT) = false) (h17 : m (.blk .SWTL) = false)
    (h18 : m (.blk .TLY) = false) (h19 : m (.blk .YK) = false) (h20 : m .bnd = false) (h21 : m .boot = false) (h22 : m
    .caches = false) (h23 : m .clk = false) (h24 : m .cores = false) (h25 : m .drill = false) (h26 : m .fresh = false)
    (h27 : m .gln = false) (h28 : m .granary = false) (h29 : m .host = false) (h30 : m .isl = false) (h31 : m .links =
    false) (h32 : m .loops = false) (h33 : m .mem = false) (h34 : m .por = false) (h35 : m .reeve = false) (h36 : m
    .seedbox = false) (h37 : m .threads = false) (h38 : m .tiles = false) (h39 : m .vecs = false) (h40 : m .yoke =
    false) (rail : Fin 9) (level : RailLevel) (s : State) :
    Keeps m s (execSupplySample rail level s) := by unfold execSupplySample; (repeat' split) <;> simp [*]
@[simp] theorem execPwrfail_keep (h0 : m (.blk .GRN) = false) (h1 : m (.blk .HDL) = false) (h2 : m (.blk .RV) = false)
    (h3 : m .clk = false) (h4 : m .isl = false) (h5 : m .reeve = false) (s : State) :
    Keeps m s (execPwrfail s) := by simp [execPwrfail, *]
@[simp] theorem execPwrfailNRelease_keep (h0 : m (.blk .HDL) = false) (h1 : m .clk = false) (s : State) :
    Keeps m s (execPwrfailNRelease s) := by simp [execPwrfailNRelease, *]
@[simp] theorem execSelfRefreshExit_keep (h0 : m (.blk .GRN) = false) (st : Stack) (s : State) :
    Keeps m s (execSelfRefreshExit st s) := by simp [execSelfRefreshExit, *]
@[simp] theorem execWarmrstN_keep (h0 : m .acre = false) (h1 : m (.blk .BND) = false) (h2 : m (.blk .BT) = false) (h3
    : m (.blk .DRL) = false) (h4 : m (.blk .FUR) = false) (h5 : m (.blk .FURG) = false) (h6 : m (.blk .GLN) = false)
    (h7 : m (.blk .GRN) = false) (h8 : m (.blk .GRNG) = false) (h9 : m (.blk .HRW) = false) (h10 : m (.blk .HST) =
    false) (h11 : m (.blk .PWR) = false) (h12 : m (.blk .RV) = false) (h13 : m (.blk .SOW) = false) (h14 : m (.blk
    .SWT) = false) (h15 : m (.blk .SWTL) = false) (h16 : m (.blk .TLY) = false) (h17 : m (.blk .YK) = false) (h18 : m
    .bnd = false) (h19 : m .boot = false) (h20 : m .caches = false) (h21 : m .clk = false) (h22 : m .cores = false)
    (h23 : m .drill = false) (h24 : m .fresh = false) (h25 : m .gln = false) (h26 : m .granary = false) (h27 : m .host
    = false) (h28 : m .links = false) (h29 : m .loops = false) (h30 : m .reeve = false) (h31 : m .seedbox = false)
    (h32 : m .threads = false) (h33 : m .tiles = false) (h34 : m .vecs = false) (h35 : m .yoke = false) (s : State) :
    Keeps m s (execWarmrstN s) := by
  unfold execWarmrstN
  repeat' (first | (simp [h0, h1, h2, h3, h4, h5, h6, h7, h8, h9, h10, h11, h12, h13, h14, h15, h16, h17, h18, h19, h20, h21, h22, h23, h24, h25, h26, h27, h28, h29, h30, h31, h32, h33, h34, h35]; done) | split | (refine (foldl_keep (fun s a => ?_) _ _).trans ?_) | (simp only [Prod.ext_iff] at *; casesm* _ ∧ _; subst_vars; simp [h0, h1, h2, h3, h4, h5, h6, h7, h8, h9, h10, h11, h12, h13, h14, h15, h16, h17, h18, h19, h20, h21, h22, h23, h24, h25, h26, h27, h28, h29, h30, h31, h32, h33, h34, h35]; done) | (simp only [keeps_next]) | simp [h0, h1, h2, h3, h4, h5, h6, h7, h8, h9, h10, h11, h12, h13, h14, h15, h16, h17, h18, h19, h20, h21, h22, h23, h24, h25, h26, h27, h28, h29, h30, h31, h32, h33, h34, h35])
@[simp] theorem State.pkgWrite_keep (h0 : m .acre = false) (h1 : m (.blk .BND) = false) (h2 : m (.blk .BT) = false)
    (h3 : m (.blk .DRL) = false) (h4 : m (.blk .FUR) = false) (h5 : m (.blk .FURG) = false) (h6 : m (.blk .GLN) =
    false) (h7 : m (.blk .GRN) = false) (h8 : m (.blk .GRNG) = false) (h9 : m (.blk .HRW) = false) (h10 : m (.blk
    .HST) = false) (h11 : m (.blk .PWR) = false) (h12 : m (.blk .RV) = false) (h13 : m (.blk .SOW) = false) (h14 : m
    (.blk .SWT) = false) (h15 : m (.blk .SWTL) = false) (h16 : m (.blk .TLY) = false) (h17 : m (.blk .YK) = false)
    (h18 : m .bnd = false) (h19 : m .boot = false) (h20 : m .caches = false) (h21 : m .clk = false) (h22 : m .cores =
    false) (h23 : m .drill = false) (h24 : m .fresh = false) (h25 : m .gln = false) (h26 : m .granary = false) (h27 :
    m .host = false) (h28 : m .links = false) (h29 : m .loops = false) (h30 : m .reeve = false) (h31 : m .seedbox =
    false) (h32 : m .threads = false) (h33 : m .tiles = false) (h34 : m .vecs = false) (h35 : m .yoke = false) (s :
    State) (agent : Agent) (key : ℕ) :
    (State.pkgWrite s agent key).keep m = s.keep m := by
  unfold State.pkgWrite
  repeat' (first | (simp [h0, h1, h2, h3, h4, h5, h6, h7, h8, h9, h10, h11, h12, h13, h14, h15, h16, h17, h18, h19, h20, h21, h22, h23, h24, h25, h26, h27, h28, h29, h30, h31, h32, h33, h34, h35]; done) | split | (refine (foldl_keep (fun s a => ?_) _ _).trans ?_) | (simp only [Prod.ext_iff] at *; casesm* _ ∧ _; subst_vars; simp [h0, h1, h2, h3, h4, h5, h6, h7, h8, h9, h10, h11, h12, h13, h14, h15, h16, h17, h18, h19, h20, h21, h22, h23, h24, h25, h26, h27, h28, h29, h30, h31, h32, h33, h34, h35]; done) | (simp only [keeps_next]) | simp [h0, h1, h2, h3, h4, h5, h6, h7, h8, h9, h10, h11, h12, h13, h14, h15, h16, h17, h18, h19, h20, h21, h22, h23, h24, h25, h26, h27, h28, h29, h30, h31, h32, h33, h34, h35])
@[simp] theorem execPkg_keep (h0 : m .acre = false) (h1 : m (.blk .BND) = false) (h2 : m (.blk .BT) = false) (h3 : m
    (.blk .DRL) = false) (h4 : m (.blk .FUR) = false) (h5 : m (.blk .FURG) = false) (h6 : m (.blk .GLN) = false) (h7 :
    m (.blk .GRN) = false) (h8 : m (.blk .GRNG) = false) (h9 : m (.blk .HRW) = false) (h10 : m (.blk .HST) = false)
    (h11 : m (.blk .PWR) = false) (h12 : m (.blk .RV) = false) (h13 : m (.blk .SOW) = false) (h14 : m (.blk .SWT) =
    false) (h15 : m (.blk .SWTL) = false) (h16 : m (.blk .TLY) = false) (h17 : m (.blk .YK) = false) (h18 : m .bnd =
    false) (h19 : m .boot = false) (h20 : m .caches = false) (h21 : m .clk = false) (h22 : m .cores = false) (h23 : m
    .drill = false) (h24 : m .fresh = false) (h25 : m .gln = false) (h26 : m .granary = false) (h27 : m .host = false)
    (h28 : m .links = false) (h29 : m .loops = false) (h30 : m .reeve = false) (h31 : m .seedbox = false) (h32 : m
    .threads = false) (h33 : m .tiles = false) (h34 : m .vecs = false) (h35 : m .yoke = false) (agent : Agent) (key :
    BitVec 16) (s : State) :
    Keeps m s (execPkg agent key s) := by simp [execPkg, *]
@[simp] theorem State.kickWrite_keep (h0 : m (.blk .RV) = false) (h1 : m .clk = false) (h2 : m .reeve = false) (s :
    State) (agent : Agent) :
    (State.kickWrite s agent).keep m = s.keep m := by simp [State.kickWrite, *]
@[simp] theorem execKick_keep (h0 : m (.blk .RV) = false) (h1 : m .clk = false) (h2 : m .reeve = false) (agent :
    Agent) (s : State) :
    Keeps m s (execKick agent s) := by simp [execKick, *]
@[simp] theorem execDrillWdog_keep (h0 : m .acre = false) (h1 : m (.blk .BND) = false) (h2 : m (.blk .BT) = false) (h3
    : m (.blk .DRL) = false) (h4 : m (.blk .FUR) = false) (h5 : m (.blk .FURG) = false) (h6 : m (.blk .GLN) = false)
    (h7 : m (.blk .GRN) = false) (h8 : m (.blk .GRNG) = false) (h9 : m (.blk .HRW) = false) (h10 : m (.blk .HST) =
    false) (h11 : m (.blk .PWR) = false) (h12 : m (.blk .RV) = false) (h13 : m (.blk .SOW) = false) (h14 : m (.blk
    .SWT) = false) (h15 : m (.blk .SWTL) = false) (h16 : m (.blk .TLY) = false) (h17 : m (.blk .YK) = false) (h18 : m
    .bnd = false) (h19 : m .boot = false) (h20 : m .caches = false) (h21 : m .clk = false) (h22 : m .cores = false)
    (h23 : m .drill = false) (h24 : m .fresh = false) (h25 : m .gln = false) (h26 : m .granary = false) (h27 : m .host
    = false) (h28 : m .links = false) (h29 : m .loops = false) (h30 : m .reeve = false) (h31 : m .seedbox = false)
    (h32 : m .threads = false) (h33 : m .tiles = false) (h34 : m .vecs = false) (h35 : m .yoke = false) (s : State) :
    Keeps m s (execDrillWdog s) := by
  unfold execDrillWdog
  repeat' (first | (simp [h0, h1, h2, h3, h4, h5, h6, h7, h8, h9, h10, h11, h12, h13, h14, h15, h16, h17, h18, h19, h20, h21, h22, h23, h24, h25, h26, h27, h28, h29, h30, h31, h32, h33, h34, h35]; done) | split | (refine (foldl_keep (fun s a => ?_) _ _).trans ?_) | (simp only [Prod.ext_iff] at *; casesm* _ ∧ _; subst_vars; simp [h0, h1, h2, h3, h4, h5, h6, h7, h8, h9, h10, h11, h12, h13, h14, h15, h16, h17, h18, h19, h20, h21, h22, h23, h24, h25, h26, h27, h28, h29, h30, h31, h32, h33, h34, h35]; done) | (simp only [keeps_next]) | simp [h0, h1, h2, h3, h4, h5, h6, h7, h8, h9, h10, h11, h12, h13, h14, h15, h16, h17, h18, h19, h20, h21, h22, h23, h24, h25, h26, h27, h28, h29, h30, h31, h32, h33, h34, h35])
@[simp] theorem State.tgClear_keep (h0 : m (.blk .FUR) = false) (h1 : m .cores = false) (h2 : m .drill = false) (h3 :
    m .gln = false) (h4 : m .host = false) (h5 : m .threads = false) (h6 : m .tiles = false) (s : State) (n : ℕ) :
    (State.tgClear s n).keep m = s.keep m := by simp [State.tgClear, *]
@[simp] theorem State.tgWrite_keep (h0 : m (.blk .RV) = false) (h1 : m .clk = false) (h2 : m .reeve = false) (s :
    State) (agent : Agent) (n : ℕ) :
    (State.tgWrite s agent n).keep m = s.keep m := by simp [State.tgWrite, *]
@[simp] theorem execThreadGroupReset_keep (h0 : m (.blk .RV) = false) (h1 : m .clk = false) (h2 : m .reeve = false)
    (agent : Agent) (n : Cid) (s : State) :
    Keeps m s (execThreadGroupReset agent n s) := by simp [execThreadGroupReset, *]
@[simp] theorem execTgDrainDone_keep (h0 : m (.blk .FUR) = false) (h1 : m .clk = false) (h2 : m .cores = false) (h3 :
    m .drill = false) (h4 : m .gln = false) (h5 : m .host = false) (h6 : m .threads = false) (h7 : m .tiles = false)
    (n : Cid) (s : State) :
    Keeps m s (execTgDrainDone n s) := by unfold execTgDrainDone; (repeat' split) <;> simp [*]
@[simp] theorem State.plotFinish_keep (h0 : m (.blk .FUR) = false) (h1 : m (.blk .GRN) = false) (h2 : m (.blk .RV) =
    false) (h3 : m .caches = false) (h4 : m .clk = false) (h5 : m .cores = false) (h6 : m .drill = false) (h7 : m
    .granary = false) (h8 : m .mem = false) (h9 : m .reeve = false) (h10 : m .seedbox = false) (h11 : m .threads =
    false) (h12 : m .tiles = false) (s : State) (p : ℕ) :
    (State.plotFinish s p).keep m = s.keep m := by simp [State.plotFinish, *]
@[simp] theorem State.plotStep_keep (h0 : m (.blk .FUR) = false) (h1 : m (.blk .GRN) = false) (h2 : m (.blk .RV) =
    false) (h3 : m .caches = false) (h4 : m .clk = false) (h5 : m .cores = false) (h6 : m .drill = false) (h7 : m
    .granary = false) (h8 : m .mem = false) (h9 : m .reeve = false) (h10 : m .seedbox = false) (h11 : m .threads =
    false) (h12 : m .tiles = false) (s : State) :
    (State.plotStep s).keep m = s.keep m := by simp [State.plotStep, *]
@[simp] theorem State.staleReqs_keep (h0 : m .acre = false) (s : State) (gone : SwUse → Bool) :
    (State.staleReqs s gone).keep m = s.keep m := by simp [State.staleReqs, *]
@[simp] theorem State.retireSilently_keep (h0 : m .acre = false) (h1 : m .drill = false) (h2 : m .host = false) (s :
    State) (p : ℕ) :
    (State.retireSilently s p).keep m = s.keep m := by simp [State.retireSilently, *]
@[simp] theorem State.dropLoops_keep (h0 : m (.blk .RV) = false) (h1 : m (.blk .SOW) = false) (h2 : m (.blk .TLY) =
    false) (h3 : m .links = false) (h4 : m .loops = false) (h5 : m .reeve = false) (h6 : m .sent = false) (s : State)
    (p : ℕ) :
    (State.dropLoops s p).keep m = s.keep m := by simp [State.dropLoops, *]
@[simp] theorem State.dropChannel_keep (h0 : m (.blk .GRN) = false) (h1 : m (.blk .RV) = false) (h2 : m .caches =
    false) (h3 : m .cores = false) (h4 : m .drill = false) (h5 : m .granary = false) (h6 : m .mem = false) (h7 : m
    .reeve = false) (s : State) (c : ℕ) :
    (State.dropChannel s c).keep m = s.keep m := by simp [State.dropChannel, *]
@[simp] theorem State.resetFunction_keep (h0 : m (.blk .HST) = false) (h1 : m .host = false) (h2 : m .vecs = false) (s
    : State) (p : ℕ) :
    (State.resetFunction s p).keep m = s.keep m := by
  unfold State.resetFunction
  dsimp only [List.foldl]
  simp [*]
@[simp] theorem State.plotReset_keep (h0 : m .acre = false) (h1 : m (.blk .BND) = false) (h2 : m (.blk .DRL) = false)
    (h3 : m (.blk .FUR) = false) (h4 : m (.blk .GRN) = false) (h5 : m (.blk .HRW) = false) (h6 : m (.blk .HST) =
    false) (h7 : m (.blk .RV) = false) (h8 : m (.blk .SOW) = false) (h9 : m (.blk .TLY) = false) (h10 : m .bnd =
    false) (h11 : m .caches = false) (h12 : m .clk = false) (h13 : m .cores = false) (h14 : m .drill = false) (h15 : m
    .granary = false) (h16 : m .host = false) (h17 : m .links = false) (h18 : m .loops = false) (h19 : m .mem = false)
    (h20 : m .reeve = false) (h21 : m .seedbox = false) (h22 : m .sent = false) (h23 : m .threads = false) (h24 : m
    .tiles = false) (h25 : m .vecs = false) (s : State) (p : ℕ) :
    (State.plotReset s p).keep m = s.keep m := by
  have hq : ∀ F ∈ queueFields, F.blk = .DRL := by decide
  have hf : ∀ (l : List Nat) (s : State),
      (l.foldl (fun s q => queueFields.foldl (fun s F => s.setF F q F.rst) s) s).keep m = s.keep m := fun l s =>
    foldl_keep (fun s q => foldl_keep_mem _ (fun s F hF => s.setF_keep F (by rw [hq F hF]; assumption) _ _) _) _ _
  unfold State.plotReset
  split
  · rfl
  · dsimp only
    simp [*]
@[simp] theorem execTgResetComplete_keep (h0 : m (.blk .FUR) = false) (h1 : m (.blk .GRN) = false) (h2 : m (.blk .RV)
    = false) (h3 : m .caches = false) (h4 : m .clk = false) (h5 : m .cores = false) (h6 : m .drill = false) (h7 : m
    .granary = false) (h8 : m .mem = false) (h9 : m .reeve = false) (h10 : m .seedbox = false) (h11 : m .threads =
    false) (h12 : m .tiles = false) (n : Cid) (s : State) :
    Keeps m s (execTgResetComplete n s) := by unfold execTgResetComplete; (repeat' split) <;> simp [*]
@[simp] theorem execTgDrainTimeout_keep (h0 : m .acre = false) (h1 : m (.blk .FUR) = false) (h2 : m (.blk .GRN) =
    false) (h3 : m (.blk .RV) = false) (h4 : m .caches = false) (h5 : m .clk = false) (h6 : m .cores = false) (h7 : m
    .drill = false) (h8 : m .gln = false) (h9 : m .granary = false) (h10 : m .host = false) (h11 : m .mem = false)
    (h12 : m .reeve = false) (h13 : m .seedbox = false) (h14 : m .threads = false) (h15 : m .tiles = false) (n : Cid)
    (s : State) :
    Keeps m s (execTgDrainTimeout n s) := by unfold execTgDrainTimeout; (repeat' split) <;> simp [*]
@[simp] theorem State.functionReset_keep (h0 : m .acre = false) (h1 : m (.blk .BND) = false) (h2 : m (.blk .DRL) =
    false) (h3 : m (.blk .FUR) = false) (h4 : m (.blk .GRN) = false) (h5 : m (.blk .HRW) = false) (h6 : m (.blk .HST)
    = false) (h7 : m (.blk .PWR) = false) (h8 : m (.blk .RV) = false) (h9 : m (.blk .SOW) = false) (h10 : m (.blk
    .TLY) = false) (h11 : m .bnd = false) (h12 : m .caches = false) (h13 : m .clk = false) (h14 : m .cores = false)
    (h15 : m .drill = false) (h16 : m .granary = false) (h17 : m .host = false) (h18 : m .links = false) (h19 : m
    .loops = false) (h20 : m .mem = false) (h21 : m .reeve = false) (h22 : m .seedbox = false) (h23 : m .sent = false)
    (h24 : m .threads = false) (h25 : m .tiles = false) (h26 : m .vecs = false) (s : State) (p : ℕ) :
    (State.functionReset s p).keep m = s.keep m := by simp [State.functionReset, *]
@[simp] theorem execFunctionLevelReset_keep (h0 : m .acre = false) (h1 : m (.blk .BND) = false) (h2 : m (.blk .DRL) =
    false) (h3 : m (.blk .FUR) = false) (h4 : m (.blk .GRN) = false) (h5 : m (.blk .HRW) = false) (h6 : m (.blk .HST)
    = false) (h7 : m (.blk .PWR) = false) (h8 : m (.blk .RV) = false) (h9 : m (.blk .SOW) = false) (h10 : m (.blk
    .TLY) = false) (h11 : m .bnd = false) (h12 : m .caches = false) (h13 : m .clk = false) (h14 : m .cores = false)
    (h15 : m .drill = false) (h16 : m .granary = false) (h17 : m .host = false) (h18 : m .links = false) (h19 : m
    .loops = false) (h20 : m .mem = false) (h21 : m .reeve = false) (h22 : m .seedbox = false) (h23 : m .sent = false)
    (h24 : m .threads = false) (h25 : m .tiles = false) (h26 : m .vecs = false) (p : Plot) (drill : Option (BitVec
    32)) (s : State) :
    Keeps m s (execFunctionLevelReset p drill s) := by unfold execFunctionLevelReset; (repeat' split) <;> simp [*]
@[simp] theorem State.vfClear_keep (h0 : m .acre = false) (h1 : m (.blk .BND) = false) (h2 : m (.blk .DRL) = false)
    (h3 : m (.blk .FUR) = false) (h4 : m (.blk .GRN) = false) (h5 : m (.blk .HRW) = false) (h6 : m (.blk .HST) =
    false) (h7 : m (.blk .RV) = false) (h8 : m (.blk .SOW) = false) (h9 : m (.blk .TLY) = false) (h10 : m .bnd =
    false) (h11 : m .caches = false) (h12 : m .clk = false) (h13 : m .cores = false) (h14 : m .drill = false) (h15 : m
    .granary = false) (h16 : m .host = false) (h17 : m .links = false) (h18 : m .loops = false) (h19 : m .mem = false)
    (h20 : m .reeve = false) (h21 : m .seedbox = false) (h22 : m .sent = false) (h23 : m .threads = false) (h24 : m
    .tiles = false) (h25 : m .vecs = false) (s : State) :
    (State.vfClear s).keep m = s.keep m := by simp [State.vfClear, *]
@[simp] theorem execVfEnableClear_keep (h0 : m .acre = false) (h1 : m (.blk .BND) = false) (h2 : m (.blk .DRL) =
    false) (h3 : m (.blk .FUR) = false) (h4 : m (.blk .GRN) = false) (h5 : m (.blk .HRW) = false) (h6 : m (.blk .HST)
    = false) (h7 : m (.blk .RV) = false) (h8 : m (.blk .SOW) = false) (h9 : m (.blk .TLY) = false) (h10 : m .bnd =
    false) (h11 : m .caches = false) (h12 : m .clk = false) (h13 : m .cores = false) (h14 : m .drill = false) (h15 : m
    .granary = false) (h16 : m .host = false) (h17 : m .links = false) (h18 : m .loops = false) (h19 : m .mem = false)
    (h20 : m .reeve = false) (h21 : m .seedbox = false) (h22 : m .sent = false) (h23 : m .threads = false) (h24 : m
    .tiles = false) (h25 : m .vecs = false) (s : State) :
    Keeps m s (execVfEnableClear s) := by simp [execVfEnableClear, *]
@[simp] theorem execHostPortReset_keep (h0 : m (.blk .DRL) = false) (h1 : m (.blk .FUR) = false) (h2 : m (.blk .HRW) =
    false) (h3 : m (.blk .HST) = false) (h4 : m (.blk .PWR) = false) (h5 : m (.blk .RV) = false) (h6 : m .clk = false)
    (h7 : m .drill = false) (h8 : m .host = false) (h9 : m .reeve = false) (h10 : m .sent = false) (h11 : m .threads =
    false) (h12 : m .vecs = false) (cause : HostResetCause) (s : State) :
    Keeps m s (execHostPortReset cause s) := by simp [execHostPortReset, *]
@[simp] theorem execHostLinkTraining_keep (h0 : m .clk = false) (s : State) :
    Keeps m s (execHostLinkTraining s) := by simp [execHostLinkTraining, *]
@[simp] theorem State.traceDrain_keep (h0 : m (.blk .GLN) = false) (h1 : m (.blk .GRN) = false) (h2 : m (.blk .RV) =
    false) (h3 : m .caches = false) (h4 : m .cores = false) (h5 : m .gln = false) (h6 : m .granary = false) (h7 : m
    .mem = false) (h8 : m .reeve = false) (s : State) (c : ℕ) (y2 : ℕ) :
    (State.traceDrain s c y2).keep m = s.keep m := by
  induction y2 generalizing s with
  | zero => unfold State.traceDrain; repeat' (first | (simp [h0, h1, h2, h3, h4, h5, h6, h7, h8]; done) | split | (refine (foldl_keep (fun s a => ?_) _ _).trans ?_) | (simp only [Prod.ext_iff] at *; casesm* _ ∧ _; subst_vars; simp [h0, h1, h2, h3, h4, h5, h6, h7, h8]; done) | (simp only [keeps_next]) | simp [h0, h1, h2, h3, h4, h5, h6, h7, h8])
  | succ k ih =>
    unfold State.traceDrain
    repeat' (first | (simp [h0, h1, h2, h3, h4, h5, h6, h7, h8, ih]; done) | split | (refine (foldl_keep (fun s a => ?_) _ _).trans ?_) | (simp only [Prod.ext_iff] at *; casesm* _ ∧ _; subst_vars; simp [h0, h1, h2, h3, h4, h5, h6, h7, h8, ih]; done) | (simp only [keeps_next]) | simp [h0, h1, h2, h3, h4, h5, h6, h7, h8, ih])
@[simp] theorem State.tracePower_keep (h0 : m (.blk .GLN) = false) (h1 : m (.blk .GRN) = false) (h2 : m (.blk .RV) =
    false) (h3 : m .caches = false) (h4 : m .cores = false) (h5 : m .gln = false) (h6 : m .granary = false) (h7 : m
    .mem = false) (h8 : m .reeve = false) (s : State) (n : ℕ) :
    (State.tracePower s n).keep m = s.keep m := by simp [State.tracePower, *]
@[simp] theorem execPowerGate_keep (h0 : m (.blk .FUR) = false) (h1 : m (.blk .GLN) = false) (h2 : m (.blk .GRN) =
    false) (h3 : m (.blk .RV) = false) (h4 : m .caches = false) (h5 : m .cores = false) (h6 : m .fresh = false) (h7 :
    m .gln = false) (h8 : m .granary = false) (h9 : m .mem = false) (h10 : m .reeve = false) (h11 : m .tiles = false)
    (n : Cid) (s : State) :
    Keeps m s (execPowerGate n s) := by simp [execPowerGate, *]
@[simp] theorem execCoreWake_keep (h0 : m (.blk .FUR) = false) (h1 : m .cores = false) (h2 : m .fresh = false) (h3 : m
    .gln = false) (h4 : m .threads = false) (h5 : m .tiles = false) (n : Cid) (s : State) :
    Keeps m s (execCoreWake n s) := by simp [execCoreWake, *]

end Sys2Proof.Machine
end

