-- ==== Sys2Proof/Laws/KeepReeve.lean ====
section
/-! SUPPORT. What the operations and commands of Machine/Reeve.lean keep: each changes only the facets
named in its hypotheses (`State.keep`). -/

namespace Sys2Proof.Machine

variable {m : Facet → Bool}


@[simp] theorem State.logNotify_keep (h0 : m .sent = false) (h1 : m .vecs = false) (s : State) :
    (State.logNotify s).keep m = s.keep m := by simp [State.logNotify, *]
@[simp] theorem State.setLog_keep (h0 : m .reeve = false) (s : State) (log : List (ℕ × LogEntry)) :
    (State.setLog s log).keep m = s.keep m := by simp [State.setLog, *]
@[simp] theorem State.logComplete_keep (h0 : m (.blk .RV) = false) (h1 : m .reeve = false) (h2 : m .sent = false) (h3
    : m .vecs = false) (s : State) (e : LogEntry) :
    (State.logComplete s e).keep m = s.keep m := by simp only [State.logComplete]; (repeat' split) <;> simp [*]
@[simp] theorem execLogWrite_keep (h0 : m (.blk .RV) = false) (h1 : m .reeve = false) (h2 : m .sent = false) (h3 : m
    .vecs = false) (s : State) :
    Keeps m s (execLogWrite s) := by unfold execLogWrite; (repeat' split) <;> simp [*]
@[simp] theorem State.drainLog_keep (h0 : m (.blk .RV) = false) (h1 : m .reeve = false) (h2 : m .sent = false) (h3 : m
    .vecs = false) (s : State) (y1 : List LogEntry) :
    (State.drainLog s y1).keep m = s.keep m := by
  induction y1 generalizing s with
  | nil => unfold State.drainLog; repeat' (first | (simp [h0, h1, h2, h3]; done) | split | (refine (foldl_keep (fun s a => ?_) _ _).trans ?_) | (simp only [Prod.ext_iff] at *; casesm* _ ∧ _; subst_vars; simp [h0, h1, h2, h3]; done) | (simp only [keeps_next]) | simp [h0, h1, h2, h3])
  | cons r rs ih =>
    unfold State.drainLog
    repeat' (first | (simp [h0, h1, h2, h3, ih]; done) | split | (refine (foldl_keep (fun s a => ?_) _ _).trans ?_) | (simp only [Prod.ext_iff] at *; casesm* _ ∧ _; subst_vars; simp [h0, h1, h2, h3, ih]; done) | (simp only [keeps_next]) | simp [h0, h1, h2, h3, ih])
@[simp] theorem State.rvWrite_keep (h0 : m (.blk .RV) = false) (h1 : m .reeve = false) (s : State) (agent : Agent)
    (off : ℕ) (effect : State → State) (hf_effect : ∀ a0, (effect a0).keep m = a0.keep m) :
    (State.rvWrite s agent off effect).keep m = s.keep m := by unfold State.rvWrite; (repeat' split) <;> simp [*]
@[simp] theorem execLogAck_keep (h0 : m (.blk .RV) = false) (h1 : m .reeve = false) (agent : Agent) (index : Fin 4096)
    (s : State) :
    Keeps m s (execLogAck agent index s) := by
  unfold execLogAck
  rw [keeps_next]
  refine State.rvWrite_keep h0 h1 s agent 0x0C _ fun a0 => ?_
  split <;> simp [*]
@[simp] theorem execLogAckAll_keep (h0 : m (.blk .RV) = false) (h1 : m .reeve = false) (agent : Agent) (s : State) :
    Keeps m s (execLogAckAll agent s) := by simp [execLogAckAll, *]
@[simp] theorem execLogClear_keep (h0 : m (.blk .RV) = false) (h1 : m .reeve = false) (agent : Agent) (s : State) :
    Keeps m s (execLogClear agent s) := by simp [execLogClear, *]
@[simp] theorem State.applyDuty_keep (h0 : m (.blk .RV) = false) (s : State) :
    (State.applyDuty s).keep m = s.keep m := by simp [State.applyDuty, *]
@[simp] theorem State.thermCrit_keep (h0 : m (.blk .RV) = false) (h1 : m .reeve = false) (s : State) (f : ℕ × ℕ) (st :
    ℕ × ℕ) (h : ℕ × ℕ) :
    (State.thermCrit s f st h).keep m = s.keep m := by simp [State.thermCrit, *]
@[simp] theorem State.thermalStep_keep (h0 : m (.blk .RV) = false) (h1 : m .reeve = false) (s : State) (f : ℕ × ℕ) (st
    : ℕ × ℕ) :
    (State.thermalStep s f st).keep m = s.keep m := by simp [State.thermalStep, *]
@[simp] theorem State.trimSetpoint_keep (h0 : m .fresh = false) (h1 : m .reeve = false) (s : State) :
    (State.trimSetpoint s).keep m = s.keep m := by simp [State.trimSetpoint, *]
@[simp] theorem execTempSample_keep (h0 : m (.blk .RV) = false) (h1 : m .fresh = false) (h2 : m .reeve = false) (field
    : List ℕ) (headland : List ℕ) (s : State) :
    Keeps m s (execTempSample field headland s) := by unfold execTempSample; (repeat' split) <;> simp [*]
@[simp] theorem execPowerEstimate_keep (h0 : m (.blk .RV) = false) (h1 : m .fresh = false) (h2 : m .reeve = false)
    (watts : ℕ) (s : State) :
    Keeps m s (execPowerEstimate watts s) := by simp only [execPowerEstimate]; (repeat' split) <;> simp [*]
@[simp] theorem execPmbusCalibration_keep (h0 : m .reeve = false) (watts : ℕ) (s : State) :
    Keeps m s (execPmbusCalibration watts s) := by simp [execPmbusCalibration, *]
@[simp] theorem State.eccRate_keep (h0 : m (.blk .RV) = false) (h1 : m .reeve = false) (s : State) (old : Option (List
    ℕ)) (n : ℕ) (c : Fld × ℕ × ℕ) :
    (State.eccRate s old n c).keep m = s.keep m := by simp [State.eccRate, *]
@[simp] theorem State.eccSaturation_keep (h0 : m (.blk .RV) = false) (h1 : m .reeve = false) (s : State) (n : ℕ) (c :
    Fld × ℕ × ℕ) :
    (State.eccSaturation s n c).keep m = s.keep m := by simp [State.eccSaturation, *]
@[simp] theorem execErrorCounterSample_keep (h0 : m (.blk .RV) = false) (h1 : m .reeve = false) (s : State) :
    Keeps m s (execErrorCounterSample s) := by unfold execErrorCounterSample; (repeat' split) <;> simp [*]

end Sys2Proof.Machine
end

