-- ==== Sys2Proof/Laws/KeepBoot.lean ====
section
/-! SUPPORT. What the operations and commands of Machine/Boot.lean keep: each changes only the facets
named in its hypotheses (`State.keep`). -/

namespace Sys2Proof.Machine

variable {m : Facet → Bool}


@[simp] theorem State.flashErase_keep (h0 : m .boot = false) (s : State) (a : ℕ) :
    (State.flashErase s a).keep m = s.keep m := by simp [State.flashErase, *]
@[simp] theorem State.putPref_keep (h0 : m .boot = false) (s : State) (r : PrefRec) :
    (State.putPref s r).keep m = s.keep m := by simp [State.putPref, *]
@[simp] theorem State.showResult_keep (h0 : m (.blk .BT) = false) (s : State) (type : ℕ) (slot : ℕ) (code : ℕ) :
    (State.showResult s type slot code).keep m = s.keep m := by unfold State.showResult; split <;> simp [*]
@[simp] theorem State.bootEnds_keep (h0 : m (.blk .BT) = false) (h1 : m (.blk .RV) = false) (h2 : m .reeve = false) (s
    : State) (code : ℕ) (recovery : Bool) :
    (State.bootEnds s code recovery).keep m = s.keep m := by simp [State.bootEnds, *]
@[simp] theorem State.armWatchdog_keep (h0 : m (.blk .PWR) = false) (h1 : m .clk = false) (s : State) :
    (State.armWatchdog s).keep m = s.keep m := by simp [State.armWatchdog, *]
@[simp] theorem State.prefStep_keep (h0 : m (.blk .BT) = false) (h1 : m (.blk .PWR) = false) (h2 : m .boot = false)
    (h3 : m .clk = false) (s : State) :
    (State.prefStep s).keep m = s.keep m := by simp [State.prefStep, *]
@[simp] theorem execBootIslandTimeout_keep (h0 : m (.blk .BT) = false) (h1 : m (.blk .PWR) = false) (h2 : m (.blk .RV)
    = false) (h3 : m .boot = false) (h4 : m .clk = false) (h5 : m .reeve = false) (s : State) :
    Keeps m s (execBootIslandTimeout s) := by simp [execBootIslandTimeout, *]
@[simp] theorem execFlashTimeout_keep (h0 : m (.blk .BT) = false) (h1 : m (.blk .PWR) = false) (h2 : m (.blk .RV) =
    false) (h3 : m .boot = false) (h4 : m .clk = false) (h5 : m .reeve = false) (s : State) :
    Keeps m s (execFlashTimeout s) := by simp [execFlashTimeout, *]
@[simp] theorem State.safetySlot_keep (h0 : m (.blk .BT) = false) (s : State) (y1 : List ℕ) :
    (State.safetySlot s y1).2.keep m = s.keep m := by
  induction y1 generalizing s with
  | nil => unfold State.safetySlot; repeat' (first | (simp [h0]; done) | split | (refine (foldl_keep (fun s a => ?_) _ _).trans ?_) | (simp only [Prod.ext_iff] at *; casesm* _ ∧ _; subst_vars; simp [h0]; done) | (simp only [keeps_next]) | simp [h0])
  | cons r rs ih =>
    unfold State.safetySlot
    repeat' (first | (simp [h0, ih]; done) | split | (refine (foldl_keep (fun s a => ?_) _ _).trans ?_) | (simp only [Prod.ext_iff] at *; casesm* _ ∧ _; subst_vars; simp [h0, ih]; done) | (simp only [keeps_next]) | simp [h0, ih])
@[simp] theorem State.showResults_keep (h0 : m (.blk .BT) = false) (s : State) (bad : List ℕ) (chosen : Option Combo)
    :
    (State.showResults s bad chosen).keep m = s.keep m := by simp [State.showResults, *]
@[simp] theorem State.showRunning_keep (h0 : m (.blk .BT) = false) (h1 : m .boot = false) (s : State) (r : PrefRec)
    (type : ℕ) (slot : ℕ) :
    (State.showRunning s r type slot).keep m = s.keep m := by simp [State.showRunning, *]
@[simp] theorem State.drillThreads_keep (h0 : m .threads = false) (s : State) :
    (State.drillThreads s).keep m = s.keep m := by
  unfold State.drillThreads
  repeat' (first | (simp [*]; done) | split | (refine (foldl_keep (fun s a => ?_) _ _).trans ?_) | (simp only [Prod.ext_iff] at *; casesm* _ ∧ _; subst_vars; simp [*]; done) | (simp only [keeps_next]) | simp [*])
@[simp] theorem State.drillStarts_keep (h0 : m (.blk .DRL) = false) (h1 : m (.blk .PWR) = false) (h2 : m .clk = false)
    (h3 : m .seedbox = false) (h4 : m .threads = false) (h5 : m .tiles = false) (s : State) :
    (State.drillStarts s).keep m = s.keep m := by simp [State.drillStarts, *]
@[simp] theorem State.islandTold_keep (h0 : m (.blk .HDL) = false) (h1 : m .isl = false) (s : State) (ids : List ℕ)
    (untested : Bool) (agrees : Bool) :
    (State.islandTold s ids untested agrees).keep m = s.keep m := by simp [State.islandTold, *]
@[simp] theorem State.imagesRun_keep (h0 : m (.blk .BT) = false) (h1 : m (.blk .DRL) = false) (h2 : m (.blk .HDL) =
    false) (h3 : m (.blk .PWR) = false) (h4 : m (.blk .RV) = false) (h5 : m .boot = false) (h6 : m .clk = false) (h7 :
    m .isl = false) (h8 : m .reeve = false) (h9 : m .seedbox = false) (h10 : m .threads = false) (h11 : m .tiles =
    false) (s : State) (r : PrefRec) (safety : ℕ) (c : Combo) (code : ℕ) (agrees : Bool) :
    (State.imagesRun s r safety c code agrees).keep m = s.keep m := by simp [State.imagesRun, *]
@[simp] theorem execBootSequence_keep (h0 : m (.blk .BT) = false) (h1 : m (.blk .DRL) = false) (h2 : m (.blk .HDL) =
    false) (h3 : m (.blk .PWR) = false) (h4 : m (.blk .RV) = false) (h5 : m .boot = false) (h6 : m .clk = false) (h7 :
    m .isl = false) (h8 : m .reeve = false) (h9 : m .seedbox = false) (h10 : m .threads = false) (h11 : m .tiles =
    false) (agrees : Bool) (s : State) :
    Keeps m s (execBootSequence agrees s) := by
  unfold execBootSequence
  rw [keeps_next]
  split
  · rfl
  split
  · simp only [State.bootEnds_keep, h0, h1, h2, h3, h4, h5, h6, h7, h8, h9, h10, h11]
  dsimp only
  split
  · rename_i hx
    have e := congrArg (fun x => x.2.keep m) hx
    simp only [State.safetySlot_keep, State.prefStep_keep, h0, h1, h2, h3, h4, h5, h6, h7, h8, h9, h10, h11] at e
    simp only [State.bootEnds_keep, h0, h1, h2, h3, h4, h5, h6, h7, h8, h9, h10, h11, ← e]
  · rename_i hx
    have e := congrArg (fun x => x.2.keep m) hx
    simp only [State.safetySlot_keep, State.prefStep_keep, h0, h1, h2, h3, h4, h5, h6, h7, h8, h9, h10, h11] at e
    split <;> simp only [State.bootEnds_keep, State.showResults_keep, State.imagesRun_keep, h0, h1, h2, h3, h4, h5, h6, h7, h8, h9, h10, h11, ← e]
@[simp] theorem execClaim_keep (h0 : m (.blk .BT) = false) (agent : Agent) (s : State) :
    Keeps m s (execClaim agent s) := by unfold execClaim; (repeat' split) <;> simp [*]
@[simp] theorem execRelease_keep (h0 : m (.blk .BT) = false) (agent : Agent) (s : State) :
    Keeps m s (execRelease agent s) := by simp [execRelease, *]
@[simp] theorem State.flashCmd_keep (h0 : m (.blk .BT) = false) (h1 : m .boot = false) (s : State) (agent : Agent) (op
    : ℕ) :
    (State.flashCmd s agent op).keep m = s.keep m := by simp [State.flashCmd, *]
@[simp] theorem execFlashRead_keep (h0 : m (.blk .BT) = false) (h1 : m .boot = false) (agent : Agent) (s : State) :
    Keeps m s (execFlashRead agent s) := by simp [execFlashRead, *]
@[simp] theorem execFlashProgram_keep (h0 : m (.blk .BT) = false) (h1 : m .boot = false) (agent : Agent) (s : State) :
    Keeps m s (execFlashProgram agent s) := by simp [execFlashProgram, *]
@[simp] theorem execFlashErase_keep (h0 : m (.blk .BT) = false) (h1 : m .boot = false) (agent : Agent) (s : State) :
    Keeps m s (execFlashErase agent s) := by simp [execFlashErase, *]
@[simp] theorem execFlashCmdDone_keep (h0 : m (.blk .BT) = false) (h1 : m .boot = false) (h2 : m .fresh = false) (ok :
    Bool) (s : State) :
    Keeps m s (execFlashCmdDone ok s) := by unfold execFlashCmdDone; (repeat' split) <;> simp [*]
@[simp] theorem State.prefAction_keep (h0 : m (.blk .BT) = false) (h1 : m .boot = false) (s : State) (agent : Agent)
    (key : ℕ) (restart : Bool) (f : PrefRec → PrefRec) :
    (State.prefAction s agent key restart f).keep m = s.keep m := by simp [State.prefAction, *]
@[simp] theorem execTrial_keep (h0 : m (.blk .BT) = false) (h1 : m .boot = false) (agent : Agent) (key : BitVec 16)
    (types : BitVec 4) (restart : Bool) (s : State) :
    Keeps m s (execTrial agent key types restart s) := by simp [execTrial, *]
@[simp] theorem execCommit_keep (h0 : m (.blk .BT) = false) (h1 : m .boot = false) (agent : Agent) (key : BitVec 16)
    (restart : Bool) (s : State) :
    Keeps m s (execCommit agent key restart s) := by simp [execCommit, *]
@[simp] theorem execRevert_keep (h0 : m (.blk .BT) = false) (h1 : m .boot = false) (agent : Agent) (key : BitVec 16)
    (restart : Bool) (s : State) :
    Keeps m s (execRevert agent key restart s) := by simp [execRevert, *]
@[simp] theorem execRestart_keep (h0 : m .acre = false) (h1 : m (.blk .BND) = false) (h2 : m (.blk .BT) = false) (h3 :
    m (.blk .DRL) = false) (h4 : m (.blk .FUR) = false) (h5 : m (.blk .FURG) = false) (h6 : m (.blk .GLN) = false) (h7
    : m (.blk .GRN) = false) (h8 : m (.blk .GRNG) = false) (h9 : m (.blk .HRW) = false) (h10 : m (.blk .HST) = false)
    (h11 : m (.blk .PWR) = false) (h12 : m (.blk .RV) = false) (h13 : m (.blk .SOW) = false) (h14 : m (.blk .SWT) =
    false) (h15 : m (.blk .SWTL) = false) (h16 : m (.blk .TLY) = false) (h17 : m (.blk .YK) = false) (h18 : m .bnd =
    false) (h19 : m .boot = false) (h20 : m .caches = false) (h21 : m .clk = false) (h22 : m .cores = false) (h23 : m
    .drill = false) (h24 : m .fresh = false) (h25 : m .gln = false) (h26 : m .granary = false) (h27 : m .host = false)
    (h28 : m .links = false) (h29 : m .loops = false) (h30 : m .reeve = false) (h31 : m .seedbox = false) (h32 : m
    .threads = false) (h33 : m .tiles = false) (h34 : m .vecs = false) (h35 : m .yoke = false) (agent : Agent) (key :
    BitVec 16) (s : State) :
    Keeps m s (execRestart agent key s) := by
  unfold execRestart
  repeat' (first | (simp [*]; done) | split | (refine (foldl_keep (fun s a => ?_) _ _).trans ?_) | (simp only [Prod.ext_iff] at *; casesm* _ ∧ _; subst_vars; simp [*]; done) | (simp only [keeps_next]) | simp [*])
@[simp] theorem execPrefWriteDone_keep (h0 : m .acre = false) (h1 : m (.blk .BND) = false) (h2 : m (.blk .BT) = false)
    (h3 : m (.blk .DRL) = false) (h4 : m (.blk .FUR) = false) (h5 : m (.blk .FURG) = false) (h6 : m (.blk .GLN) =
    false) (h7 : m (.blk .GRN) = false) (h8 : m (.blk .GRNG) = false) (h9 : m (.blk .HRW) = false) (h10 : m (.blk
    .HST) = false) (h11 : m (.blk .PWR) = false) (h12 : m (.blk .RV) = false) (h13 : m (.blk .SOW) = false) (h14 : m
    (.blk .SWT) = false) (h15 : m (.blk .SWTL) = false) (h16 : m (.blk .TLY) = false) (h17 : m (.blk .YK) = false)
    (h18 : m .bnd = false) (h19 : m .boot = false) (h20 : m .caches = false) (h21 : m .clk = false) (h22 : m .cores =
    false) (h23 : m .drill = false) (h24 : m .fresh = false) (h25 : m .gln = false) (h26 : m .granary = false) (h27 :
    m .host = false) (h28 : m .links = false) (h29 : m .loops = false) (h30 : m .reeve = false) (h31 : m .seedbox =
    false) (h32 : m .threads = false) (h33 : m .tiles = false) (h34 : m .vecs = false) (h35 : m .yoke = false) (s :
    State) :
    Keeps m s (execPrefWriteDone s) := by
  unfold execPrefWriteDone
  repeat' (first | (simp [*]; done) | split | (refine (foldl_keep (fun s a => ?_) _ _).trans ?_) | (simp only [Prod.ext_iff] at *; casesm* _ ∧ _; subst_vars; simp [*]; done) | (simp only [keeps_next]) | simp [*])
@[simp] theorem execSvnCommit_keep (h0 : m .boot = false) (agent : Agent) (key : BitVec 16) (types : BitVec 4) (s :
    State) :
    Keeps m s (execSvnCommit agent key types s) := by simp [execSvnCommit, *]

end Sys2Proof.Machine
end

