-- ==== Sys2Proof/Laws/KeepFloat.lean ====
section
/-! SUPPORT. What the operations and commands of Machine/Float.lean keep: each changes only the facets
named in its hypotheses (`State.keep`). -/

namespace Sys2Proof.Machine

variable {m : Facet → Bool}


@[simp] theorem State.fpInstr_keep (h0 : m .threads = false) (s : State) (h : ℕ) (rm : RMode) (word : Word) (f :
    Thread → Thread) :
    Keeps m s (State.fpInstr s h rm word f) := by simp [State.fpInstr, *]
@[simp] theorem State.fpOp2_keep (h0 : m .threads = false) (s : State) (h : ℕ) (fmt : FFmt) (rm : RMode) (fn : ℕ) (fd
    : Reg5) (fs1 : Reg5) (fs2 : Reg5) (op : FpFmt → Rnd → FpVal → FpVal → ℕ × ℕ) :
    Keeps m s (State.fpOp2 s h fmt rm fn fd fs1 fs2 op) := by simp [State.fpOp2, *]
@[simp] theorem State.fpFused_keep (h0 : m .threads = false) (s : State) (h : ℕ) (op : ℕ) (negP : Bool) (negC : Bool)
    (fmt : FFmt) (rm : RMode) (fd : Reg5) (fs1 : Reg5) (fs2 : Reg5) (fs3 : Reg5) :
    Keeps m s (State.fpFused s h op negP negC fmt rm fd fs1 fs2 fs3) := by simp [State.fpFused, *]
@[simp] theorem State.fpBits_keep (h0 : m .threads = false) (s : State) (h : ℕ) (fmt : FFmt) (rm : RMode) (fn : ℕ) (fd
    : Reg5) (fs1 : Reg5) (fs2 : Reg5) (op : FpFmt → ℕ → ℕ → ℕ × ℕ) :
    Keeps m s (State.fpBits s h fmt rm fn fd fs1 fs2 op) := by simp [State.fpBits, *]
@[simp] theorem execFadd_keep (h0 : m .threads = false) (h : Tid) (fmt : FFmt) (rm : RMode) (fd : Reg5) (fs1 : Reg5)
    (fs2 : Reg5) (s : State) :
    Keeps m s (execFadd h fmt rm fd fs1 fs2 s) := by simp [execFadd, *]
@[simp] theorem execFsub_keep (h0 : m .threads = false) (h : Tid) (fmt : FFmt) (rm : RMode) (fd : Reg5) (fs1 : Reg5)
    (fs2 : Reg5) (s : State) :
    Keeps m s (execFsub h fmt rm fd fs1 fs2 s) := by simp [execFsub, *]
@[simp] theorem execFmul_keep (h0 : m .threads = false) (h : Tid) (fmt : FFmt) (rm : RMode) (fd : Reg5) (fs1 : Reg5)
    (fs2 : Reg5) (s : State) :
    Keeps m s (execFmul h fmt rm fd fs1 fs2 s) := by simp [execFmul, *]
@[simp] theorem execFdiv_keep (h0 : m .threads = false) (h : Tid) (fmt : FFmt) (rm : RMode) (fd : Reg5) (fs1 : Reg5)
    (fs2 : Reg5) (s : State) :
    Keeps m s (execFdiv h fmt rm fd fs1 fs2 s) := by simp [execFdiv, *]
@[simp] theorem execFsqrt_keep (h0 : m .threads = false) (h : Tid) (fmt : FFmt) (rm : RMode) (fd : Reg5) (fs1 : Reg5)
    (s : State) :
    Keeps m s (execFsqrt h fmt rm fd fs1 s) := by simp [execFsqrt, *]
@[simp] theorem execFmadd_keep (h0 : m .threads = false) (h : Tid) (fmt : FFmt) (rm : RMode) (fd : Reg5) (fs1 : Reg5)
    (fs2 : Reg5) (fs3 : Reg5) (s : State) :
    Keeps m s (execFmadd h fmt rm fd fs1 fs2 fs3 s) := by simp [execFmadd, *]
@[simp] theorem execFmsub_keep (h0 : m .threads = false) (h : Tid) (fmt : FFmt) (rm : RMode) (fd : Reg5) (fs1 : Reg5)
    (fs2 : Reg5) (fs3 : Reg5) (s : State) :
    Keeps m s (execFmsub h fmt rm fd fs1 fs2 fs3 s) := by simp [execFmsub, *]
@[simp] theorem execFnmadd_keep (h0 : m .threads = false) (h : Tid) (fmt : FFmt) (rm : RMode) (fd : Reg5) (fs1 : Reg5)
    (fs2 : Reg5) (fs3 : Reg5) (s : State) :
    Keeps m s (execFnmadd h fmt rm fd fs1 fs2 fs3 s) := by simp [execFnmadd, *]
@[simp] theorem execFnmsub_keep (h0 : m .threads = false) (h : Tid) (fmt : FFmt) (rm : RMode) (fd : Reg5) (fs1 : Reg5)
    (fs2 : Reg5) (fs3 : Reg5) (s : State) :
    Keeps m s (execFnmsub h fmt rm fd fs1 fs2 fs3 s) := by simp [execFnmsub, *]
@[simp] theorem execFmin_keep (h0 : m .threads = false) (h : Tid) (fmt : FFmt) (rm : RMode) (fd : Reg5) (fs1 : Reg5)
    (fs2 : Reg5) (s : State) :
    Keeps m s (execFmin h fmt rm fd fs1 fs2 s) := by simp [execFmin, *]
@[simp] theorem execFmax_keep (h0 : m .threads = false) (h : Tid) (fmt : FFmt) (rm : RMode) (fd : Reg5) (fs1 : Reg5)
    (fs2 : Reg5) (s : State) :
    Keeps m s (execFmax h fmt rm fd fs1 fs2 s) := by simp [execFmax, *]
@[simp] theorem execFcopys_keep (h0 : m .threads = false) (h : Tid) (fmt : FFmt) (rm : RMode) (fd : Reg5) (fs1 : Reg5)
    (fs2 : Reg5) (s : State) :
    Keeps m s (execFcopys h fmt rm fd fs1 fs2 s) := by simp [execFcopys, *]
@[simp] theorem execFcopyns_keep (h0 : m .threads = false) (h : Tid) (fmt : FFmt) (rm : RMode) (fd : Reg5) (fs1 :
    Reg5) (fs2 : Reg5) (s : State) :
    Keeps m s (execFcopyns h fmt rm fd fs1 fs2 s) := by simp [execFcopyns, *]
@[simp] theorem execFxors_keep (h0 : m .threads = false) (h : Tid) (fmt : FFmt) (rm : RMode) (fd : Reg5) (fs1 : Reg5)
    (fs2 : Reg5) (s : State) :
    Keeps m s (execFxors h fmt rm fd fs1 fs2 s) := by simp [execFxors, *]
@[simp] theorem execFcvtF_keep (h0 : m .threads = false) (h : Tid) (fmt : FFmt) (src : FFmt) (rm : RMode) (fd : Reg5)
    (fs1 : Reg5) (s : State) :
    Keeps m s (execFcvtF h fmt src rm fd fs1 s) := by simp [execFcvtF, *]
@[simp] theorem execFcvtI_keep (h0 : m .threads = false) (h : Tid) (fmt : FFmt) (rm : RMode) (gd : Reg5) (fs1 : Reg5)
    (width : IWidth) (uns : Bool) (s : State) :
    Keeps m s (execFcvtI h fmt rm gd fs1 width uns s) := by simp [execFcvtI, *]
@[simp] theorem execFcvtFi_keep (h0 : m .threads = false) (h : Tid) (fmt : FFmt) (rm : RMode) (fd : Reg5) (gs1 : Reg5)
    (width : IWidth) (uns : Bool) (s : State) :
    Keeps m s (execFcvtFi h fmt rm fd gs1 width uns s) := by simp [execFcvtFi, *]
@[simp] theorem execFmvGf_keep (h0 : m .threads = false) (h : Tid) (fmt : FFmt) (rm : RMode) (gd : Reg5) (fs1 : Reg5)
    (s : State) :
    Keeps m s (execFmvGf h fmt rm gd fs1 s) := by simp [execFmvGf, *]
@[simp] theorem execFmvFg_keep (h0 : m .threads = false) (h : Tid) (fmt : FFmt) (rm : RMode) (fd : Reg5) (gs1 : Reg5)
    (s : State) :
    Keeps m s (execFmvFg h fmt rm fd gs1 s) := by simp [execFmvFg, *]
@[simp] theorem execFclass_keep (h0 : m .threads = false) (h : Tid) (fmt : FFmt) (rm : RMode) (gd : Reg5) (fs1 : Reg5)
    (s : State) :
    Keeps m s (execFclass h fmt rm gd fs1 s) := by simp [execFclass, *]
@[simp] theorem execFcmp_keep (h0 : m .threads = false) (h : Tid) (fmt : FFmt) (pd : Pred) (fs1 : Reg5) (fs2 : Reg5)
    (cond : FCond) (s : State) :
    Keeps m s (execFcmp h fmt pd fs1 fs2 cond s) := by simp [execFcmp, *]

end Sys2Proof.Machine
end

