-- ==== Sys2Proof/Laws/KeepRegisterBus.lean ====
section
/-! SUPPORT. What the operations and commands of Machine/RegisterBus.lean keep: each changes only the facets
named in its hypotheses (`State.keep`). -/

namespace Sys2Proof.Machine

variable {m : Facet → Bool}


@[simp] theorem State.readDev4_keep (h0 : m .clk = false) (s : State) (pa : ℕ) :
    (State.readDev4 s pa).2.keep m = s.keep m := by unfold State.readDev4; (repeat' split) <;> simp [*]
@[simp] theorem State.readDev8_keep (s : State) (pa : ℕ) :
    (State.readDev8 s pa).2.keep m = s.keep m := by simp [State.readDev8, *]
@[simp] theorem State.readDev_keep (h0 : m .clk = false) (s : State) (pa : ℕ) (wide : Bool) :
    (State.readDev s pa wide).2.keep m = s.keep m := by unfold State.readDev; (repeat' split) <;> simp [*]
@[simp] theorem State.agentRead_keep (h0 : m .clk = false) (s : State) (agent : Agent) (pa : ℕ) (wide : Bool) :
    (State.agentRead s agent pa wide).2.keep m = s.keep m := by unfold State.agentRead; (repeat' split) <;> simp [*]
@[simp] theorem nextOr_keep (s : State) (y1 : Out) (ho : Keeps m s y1) :
    (nextOr s y1).keep m = s.keep m := by cases y1 <;> simp_all [nextOr]
@[simp] theorem State.writePwr_keep (h0 : m .acre = false) (h1 : m (.blk .BND) = false) (h2 : m (.blk .BT) = false)
    (h3 : m (.blk .DRL) = false) (h4 : m (.blk .FUR) = false) (h5 : m (.blk .FURG) = false) (h6 : m (.blk .GLN) =
    false) (h7 : m (.blk .GRN) = false) (h8 : m (.blk .GRNG) = false) (h9 : m (.blk .HRW) = false) (h10 : m (.blk
    .HST) = false) (h11 : m (.blk .PWR) = false) (h12 : m (.blk .RV) = false) (h13 : m (.blk .SOW) = false) (h14 : m
    (.blk .SWT) = false) (h15 : m (.blk .SWTL) = false) (h16 : m (.blk .TLY) = false) (h17 : m (.blk .YK) = false)
    (h18 : m .bnd = false) (h19 : m .boot = false) (h20 : m .caches = false) (h21 : m .clk = false) (h22 : m .cores =
    false) (h23 : m .drill = false) (h24 : m .fresh = false) (h25 : m .gln = false) (h26 : m .granary = false) (h27 :
    m .host = false) (h28 : m .links = false) (h29 : m .loops = false) (h30 : m .reeve = false) (h31 : m .seedbox =
    false) (h32 : m .threads = false) (h33 : m .tiles = false) (h34 : m .vecs = false) (h35 : m .yoke = false) (s :
    State) (agent : Agent) (off : ℕ) (r : RegDesc) (i : ℕ) (v : ℕ) (m_ : ℕ) (hr : ∀ F ∈ r.fields, m (.blk F.blk) =
    false) :
    (State.writePwr s agent off r i v m_).keep m = s.keep m := by
  have hw : ∀ (s : State) (i v k : Nat), (s.writeReg r i v k).keep m = s.keep m := fun s i v k => State.writeReg_keep s r i v k hr
  unfold State.writePwr
  repeat' (first | (simp [h0, h1, h2, h3, h4, h5, h6, h7, h8, h9, h10, h11, h12, h13, h14, h15, h16, h17, h18, h19, h20, h21, h22, h23, h24, h25, h26, h27, h28, h29, h30, h31, h32, h33, h34, h35, hr, hw]; done) | split | (refine (foldl_keep (fun s a => ?_) _ _).trans ?_) | (simp only [Prod.ext_iff] at *; casesm* _ ∧ _; subst_vars; simp [h0, h1, h2, h3, h4, h5, h6, h7, h8, h9, h10, h11, h12, h13, h14, h15, h16, h17, h18, h19, h20, h21, h22, h23, h24, h25, h26, h27, h28, h29, h30, h31, h32, h33, h34, h35, hr, hw]; done) | (simp only [keeps_next]) | simp [h0, h1, h2, h3, h4, h5, h6, h7, h8, h9, h10, h11, h12, h13, h14, h15, h16, h17, h18, h19, h20, h21, h22, h23, h24, h25, h26, h27, h28, h29, h30, h31, h32, h33, h34, h35, hr, hw])
@[simp] theorem State.writeUpdate_keep (h0 : m .acre = false) (h1 : m (.blk .BND) = false) (h2 : m (.blk .BT) = false)
    (h3 : m (.blk .DRL) = false) (h4 : m (.blk .FUR) = false) (h5 : m (.blk .FURG) = false) (h6 : m (.blk .GLN) =
    false) (h7 : m (.blk .GRN) = false) (h8 : m (.blk .GRNG) = false) (h9 : m (.blk .HRW) = false) (h10 : m (.blk
    .HST) = false) (h11 : m (.blk .PWR) = false) (h12 : m (.blk .RV) = false) (h13 : m (.blk .SOW) = false) (h14 : m
    (.blk .SWT) = false) (h15 : m (.blk .SWTL) = false) (h16 : m (.blk .TLY) = false) (h17 : m (.blk .YK) = false)
    (h18 : m .bnd = false) (h19 : m .boot = false) (h20 : m .caches = false) (h21 : m .clk = false) (h22 : m .cores =
    false) (h23 : m .drill = false) (h24 : m .fresh = false) (h25 : m .gln = false) (h26 : m .granary = false) (h27 :
    m .host = false) (h28 : m .links = false) (h29 : m .loops = false) (h30 : m .reeve = false) (h31 : m .seedbox =
    false) (h32 : m .threads = false) (h33 : m .tiles = false) (h34 : m .vecs = false) (h35 : m .yoke = false) (s :
    State) (agent : Agent) (v : ℕ) :
    (State.writeUpdate s agent v).keep m = s.keep m := by unfold State.writeUpdate; (repeat' split) <;> simp [*]
@[simp] theorem State.writeBt_keep (h0 : m .acre = false) (h1 : m (.blk .BND) = false) (h2 : m (.blk .BT) = false) (h3
    : m (.blk .DRL) = false) (h4 : m (.blk .FUR) = false) (h5 : m (.blk .FURG) = false) (h6 : m (.blk .GLN) = false)
    (h7 : m (.blk .GRN) = false) (h8 : m (.blk .GRNG) = false) (h9 : m (.blk .HRW) = false) (h10 : m (.blk .HST) =
    false) (h11 : m (.blk .PWR) = false) (h12 : m (.blk .RV) = false) (h13 : m (.blk .SOW) = false) (h14 : m (.blk
    .SWT) = false) (h15 : m (.blk .SWTL) = false) (h16 : m (.blk .TLY) = false) (h17 : m (.blk .YK) = false) (h18 : m
    .bnd = false) (h19 : m .boot = false) (h20 : m .caches = false) (h21 : m .clk = false) (h22 : m .cores = false)
    (h23 : m .drill = false) (h24 : m .fresh = false) (h25 : m .gln = false) (h26 : m .granary = false) (h27 : m .host
    = false) (h28 : m .links = false) (h29 : m .loops = false) (h30 : m .reeve = false) (h31 : m .seedbox = false)
    (h32 : m .threads = false) (h33 : m .tiles = false) (h34 : m .vecs = false) (h35 : m .yoke = false) (s : State)
    (agent : Agent) (r : RegDesc) (i : ℕ) (v : ℕ) (m_ : ℕ) (hr : ∀ F ∈ r.fields, m (.blk F.blk) = false) :
    (State.writeBt s agent r i v m_).keep m = s.keep m := by
  have hw : ∀ (s : State) (i v k : Nat), (s.writeReg r i v k).keep m = s.keep m := fun s i v k => State.writeReg_keep s r i v k hr
  unfold State.writeBt
  repeat' (first | (simp [h0, h1, h2, h3, h4, h5, h6, h7, h8, h9, h10, h11, h12, h13, h14, h15, h16, h17, h18, h19, h20, h21, h22, h23, h24, h25, h26, h27, h28, h29, h30, h31, h32, h33, h34, h35, hr, hw]; done) | split | (refine (foldl_keep (fun s a => ?_) _ _).trans ?_) | (simp only [Prod.ext_iff] at *; casesm* _ ∧ _; subst_vars; simp [h0, h1, h2, h3, h4, h5, h6, h7, h8, h9, h10, h11, h12, h13, h14, h15, h16, h17, h18, h19, h20, h21, h22, h23, h24, h25, h26, h27, h28, h29, h30, h31, h32, h33, h34, h35, hr, hw]; done) | (simp only [keeps_next]) | simp [h0, h1, h2, h3, h4, h5, h6, h7, h8, h9, h10, h11, h12, h13, h14, h15, h16, h17, h18, h19, h20, h21, h22, h23, h24, h25, h26, h27, h28, h29, h30, h31, h32, h33, h34, h35, hr, hw])
@[simp] theorem State.writeRange_keep (h0 : m (.blk .FUR) = false) (s : State) (r : RegDesc) (i : ℕ) (v : ℕ) (m_ : ℕ)
    (hr : ∀ F ∈ r.fields, m (.blk F.blk) = false) :
    (State.writeRange s r i v m_).keep m = s.keep m := by
  unfold State.writeRange
  split
  · simp [h0]
  · exact State.writeReg_keep _ _ _ _ _ hr
@[simp] theorem State.writeFur_keep (h0 : m (.blk .FUR) = false) (h1 : m .caches = false) (h2 : m .cores = false) (s :
    State) (agent : Agent) (r : RegDesc) (i : ℕ) (v : ℕ) (m_ : ℕ) (hr : ∀ F ∈ r.fields, m (.blk F.blk) = false) :
    (State.writeFur s agent r i v m_).keep m = s.keep m := by
  have hw : ∀ (s : State) (i v k : Nat), (s.writeReg r i v k).keep m = s.keep m := fun s i v k => State.writeReg_keep s r i v k hr
  have hg : ∀ (s : State) (i v k : Nat), (s.writeRange r i v k).keep m = s.keep m := fun s i v k => State.writeRange_keep h0 s r i v k hr
  unfold State.writeFur
  repeat' (first | (simp [h0, h1, h2, hr, hw, hg]; done) | split | (refine (foldl_keep (fun s a => ?_) _ _).trans ?_) | (simp only [Prod.ext_iff] at *; casesm* _ ∧ _; subst_vars; simp [h0, h1, h2, hr, hw, hg]; done) | (simp only [keeps_next]) | simp [h0, h1, h2, hr, hw, hg])
@[simp] theorem State.writeGrn_keep (h0 : m (.blk .GRN) = false) (h1 : m (.blk .RV) = false) (h2 : m .caches = false)
    (h3 : m .cores = false) (h4 : m .granary = false) (h5 : m .mem = false) (h6 : m .reeve = false) (s : State) (agent
    : Agent) (r : RegDesc) (i : ℕ) (v : ℕ) (m_ : ℕ) (hr : ∀ F ∈ r.fields, m (.blk F.blk) = false) :
    (State.writeGrn s agent r i v m_).keep m = s.keep m := by
  have hw : ∀ (s : State) (i v k : Nat), (s.writeReg r i v k).keep m = s.keep m := fun s i v k => State.writeReg_keep s r i v k hr
  unfold State.writeGrn
  repeat' (first | (simp [h0, h1, h2, h3, h4, h5, h6, hr, hw]; done) | split | (refine (foldl_keep (fun s a => ?_) _ _).trans ?_) | (simp only [Prod.ext_iff] at *; casesm* _ ∧ _; subst_vars; simp [h0, h1, h2, h3, h4, h5, h6, hr, hw]; done) | (simp only [keeps_next]) | simp [h0, h1, h2, h3, h4, h5, h6, hr, hw])
@[simp] theorem State.writeQcfg_keep (h0 : m (.blk .DRL) = false) (h1 : m .drill = false) (s : State) (q : ℕ) (v : ℕ)
    :
    (State.writeQcfg s q v).keep m = s.keep m := by simp [State.writeQcfg, *]
@[simp] theorem State.writeDrl_keep (h0 : m (.blk .DRL) = false) (h1 : m .drill = false) (s : State) (agent : Agent)
    (r : RegDesc) (i : ℕ) (v : ℕ) (m_ : ℕ) (hr : ∀ F ∈ r.fields, m (.blk F.blk) = false) :
    (State.writeDrl s agent r i v m_).keep m = s.keep m := by
  have hw : ∀ (s : State) (i v k : Nat), (s.writeReg r i v k).keep m = s.keep m := fun s i v k => State.writeReg_keep s r i v k hr
  unfold State.writeDrl
  repeat' (first | (simp [h0, h1, hr, hw]; done) | split | (refine (foldl_keep (fun s a => ?_) _ _).trans ?_) | (simp only [Prod.ext_iff] at *; casesm* _ ∧ _; subst_vars; simp [h0, h1, hr, hw]; done) | (simp only [keeps_next]) | simp [h0, h1, hr, hw])
@[simp] theorem State.writeHrw_keep (h0 : m (.blk .GRN) = false) (h1 : m (.blk .HRW) = false) (h2 : m (.blk .RV) =
    false) (h3 : m .caches = false) (h4 : m .cores = false) (h5 : m .granary = false) (h6 : m .host = false) (h7 : m
    .mem = false) (h8 : m .reeve = false) (h9 : m .seedbox = false) (h10 : m .sent = false) (s : State) (agent :
    Agent) (r : RegDesc) (i : ℕ) (v : ℕ) (m_ : ℕ) (hr : ∀ F ∈ r.fields, m (.blk F.blk) = false) :
    (State.writeHrw s agent r i v m_).keep m = s.keep m := by
  have hw : ∀ (s : State) (i v k : Nat), (s.writeReg r i v k).keep m = s.keep m := fun s i v k => State.writeReg_keep s r i v k hr
  unfold State.writeHrw
  repeat' (first | (simp [h0, h1, h2, h3, h4, h5, h6, h7, h8, h9, h10, hr, hw]; done) | split | (refine (foldl_keep (fun s a => ?_) _ _).trans ?_) | (simp only [Prod.ext_iff] at *; casesm* _ ∧ _; subst_vars; simp [h0, h1, h2, h3, h4, h5, h6, h7, h8, h9, h10, hr, hw]; done) | (simp only [keeps_next]) | simp [h0, h1, h2, h3, h4, h5, h6, h7, h8, h9, h10, hr, hw])
@[simp] theorem State.writeBnd_keep (h0 : m (.blk .BND) = false) (h1 : m (.blk .RV) = false) (h2 : m .bnd = false) (h3
    : m .reeve = false) (s : State) (agent : Agent) (off : ℕ) (r : RegDesc) (i : ℕ) (v : ℕ) (m_ : ℕ) (hr : ∀ F ∈
    r.fields, m (.blk F.blk) = false) :
    (State.writeBnd s agent off r i v m_).keep m = s.keep m := by
  have hw : ∀ (s : State) (i v k : Nat), (s.writeReg r i v k).keep m = s.keep m := fun s i v k => State.writeReg_keep s r i v k hr
  unfold State.writeBnd
  repeat' (first | (simp [h0, h1, h2, h3, hr, hw]; done) | split | (refine (foldl_keep (fun s a => ?_) _ _).trans ?_) | (simp only [Prod.ext_iff] at *; casesm* _ ∧ _; subst_vars; simp [h0, h1, h2, h3, hr, hw]; done) | (simp only [keeps_next]) | simp [h0, h1, h2, h3, hr, hw])
@[simp] theorem State.writeHst_keep (h0 : m (.blk .DRL) = false) (h1 : m (.blk .FUR) = false) (h2 : m (.blk .HRW) =
    false) (h3 : m (.blk .HST) = false) (h4 : m (.blk .RV) = false) (h5 : m .drill = false) (h6 : m .host = false) (h7
    : m .reeve = false) (h8 : m .sent = false) (h9 : m .vecs = false) (s : State) (agent : Agent) (r : RegDesc) (i :
    ℕ) (v : ℕ) (m_ : ℕ) (hr : ∀ F ∈ r.fields, m (.blk F.blk) = false) :
    (State.writeHst s agent r i v m_).keep m = s.keep m := by
  have hw : ∀ (s : State) (i v k : Nat), (s.writeReg r i v k).keep m = s.keep m := fun s i v k => State.writeReg_keep s r i v k hr
  unfold State.writeHst
  repeat' (first | (simp [h0, h1, h2, h3, h4, h5, h6, h7, h8, h9, hr, hw]; done) | split | (refine (foldl_keep (fun s a => ?_) _ _).trans ?_) | (simp only [Prod.ext_iff] at *; casesm* _ ∧ _; subst_vars; simp [h0, h1, h2, h3, h4, h5, h6, h7, h8, h9, hr, hw]; done) | (simp only [keeps_next]) | simp [h0, h1, h2, h3, h4, h5, h6, h7, h8, h9, hr, hw])
@[simp] theorem State.writePeriod_keep (h0 : m (.blk .YK) = false) (h1 : m .yoke = false) (s : State) (v : ℕ) :
    (State.writePeriod s v).keep m = s.keep m := by simp [State.writePeriod, *]
@[simp] theorem State.writeYk_keep (h0 : m (.blk .GRN) = false) (h1 : m (.blk .RV) = false) (h2 : m (.blk .SWTL) =
    false) (h3 : m (.blk .TLY) = false) (h4 : m (.blk .YK) = false) (h5 : m .caches = false) (h6 : m .cores = false)
    (h7 : m .granary = false) (h8 : m .links = false) (h9 : m .mem = false) (h10 : m .reeve = false) (h11 : m .sent =
    false) (h12 : m .yoke = false) (s : State) (agent : Agent) (off : ℕ) (r : RegDesc) (i : ℕ) (v : ℕ) (m_ : ℕ) (hr :
    ∀ F ∈ r.fields, m (.blk F.blk) = false) :
    (State.writeYk s agent off r i v m_).keep m = s.keep m := by
  have hw : ∀ (s : State) (i v k : Nat), (s.writeReg r i v k).keep m = s.keep m := fun s i v k => State.writeReg_keep s r i v k hr
  unfold State.writeYk
  repeat' (first | (simp [h0, h1, h2, h3, h4, h5, h6, h7, h8, h9, h10, h11, h12, hr, hw]; done) | split | (refine (foldl_keep (fun s a => ?_) _ _).trans ?_) | (simp only [Prod.ext_iff] at *; casesm* _ ∧ _; subst_vars; simp [h0, h1, h2, h3, h4, h5, h6, h7, h8, h9, h10, h11, h12, hr, hw]; done) | (simp only [keeps_next]) | simp [h0, h1, h2, h3, h4, h5, h6, h7, h8, h9, h10, h11, h12, hr, hw])
@[simp] theorem State.writeSwtCfg_keep (h0 : m .acre = false) (h1 : m (.blk .BND) = false) (h2 : m (.blk .FUR) =
    false) (h3 : m (.blk .GRN) = false) (h4 : m (.blk .RV) = false) (h5 : m (.blk .SWT) = false) (h6 : m (.blk .SWTL)
    = false) (h7 : m (.blk .TLY) = false) (h8 : m (.blk .YK) = false) (h9 : m .caches = false) (h10 : m .cores =
    false) (h11 : m .drill = false) (h12 : m .granary = false) (h13 : m .links = false) (h14 : m .mem = false) (h15 :
    m .reeve = false) (h16 : m .sent = false) (h17 : m .threads = false) (h18 : m .tiles = false) (s : State) (r :
    RegDesc) (v : ℕ) (hr : ∀ F ∈ r.fields, m (.blk F.blk) = false) :
    (State.writeSwtCfg s r v).keep m = s.keep m := by
  have hw : ∀ (s : State) (i v k : Nat), (s.writeReg r i v k).keep m = s.keep m := fun s i v k => State.writeReg_keep s r i v k hr
  unfold State.writeSwtCfg
  repeat' (first | (simp [h0, h1, h2, h3, h4, h5, h6, h7, h8, h9, h10, h11, h12, h13, h14, h15, h16, h17, h18, hr, hw]; done) | split | (refine (foldl_keep (fun s a => ?_) _ _).trans ?_) | (simp only [Prod.ext_iff] at *; casesm* _ ∧ _; subst_vars; simp [h0, h1, h2, h3, h4, h5, h6, h7, h8, h9, h10, h11, h12, h13, h14, h15, h16, h17, h18, hr, hw]; done) | (simp only [keeps_next]) | simp [h0, h1, h2, h3, h4, h5, h6, h7, h8, h9, h10, h11, h12, h13, h14, h15, h16, h17, h18, hr, hw])
@[simp] theorem State.writeSwt_keep (h0 : m .acre = false) (h1 : m (.blk .BND) = false) (h2 : m (.blk .FUR) = false)
    (h3 : m (.blk .GRN) = false) (h4 : m (.blk .RV) = false) (h5 : m (.blk .SWT) = false) (h6 : m (.blk .SWTL) =
    false) (h7 : m (.blk .TLY) = false) (h8 : m (.blk .YK) = false) (h9 : m .caches = false) (h10 : m .cores = false)
    (h11 : m .drill = false) (h12 : m .granary = false) (h13 : m .links = false) (h14 : m .mem = false) (h15 : m
    .reeve = false) (h16 : m .sent = false) (h17 : m .threads = false) (h18 : m .tiles = false) (s : State) (agent :
    Agent) (off : ℕ) (r : RegDesc) (i : ℕ) (v : ℕ) (m_ : ℕ) (hr : ∀ F ∈ r.fields, m (.blk F.blk) = false) :
    (State.writeSwt s agent off r i v m_).keep m = s.keep m := by
  have hw : ∀ (s : State) (i v k : Nat), (s.writeReg r i v k).keep m = s.keep m := fun s i v k => State.writeReg_keep s r i v k hr
  have hc : ∀ v, (s.writeSwtCfg r v).keep m = s.keep m := fun v => State.writeSwtCfg_keep h0 h1 h2 h3 h4 h5 h6 h7 h8 h9 h10 h11 h12 h13 h14 h15 h16 h17 h18 s r v hr
  unfold State.writeSwt
  repeat' (first | (simp [h0, h1, h2, h3, h4, h5, h6, h7, h8, h9, h10, h11, h12, h13, h14, h15, h16, h17, h18, hr, hw, hc]; done) | split | (refine (foldl_keep (fun s a => ?_) _ _).trans ?_) | (simp only [Prod.ext_iff] at *; casesm* _ ∧ _; subst_vars; simp [h0, h1, h2, h3, h4, h5, h6, h7, h8, h9, h10, h11, h12, h13, h14, h15, h16, h17, h18, hr, hw, hc]; done) | (simp only [keeps_next]) | simp [h0, h1, h2, h3, h4, h5, h6, h7, h8, h9, h10, h11, h12, h13, h14, h15, h16, h17, h18, hr, hw, hc])
@[simp] theorem State.writePlim_keep (h0 : m (.blk .RV) = false) (s : State) (v : ℕ) (m_ : ℕ) :
    (State.writePlim s v m_).keep m = s.keep m := by simp [State.writePlim, *]
@[simp] theorem State.writeAck_keep (h0 : m (.blk .RV) = false) (h1 : m .reeve = false) (s : State) (agent : Agent) (v
    : ℕ) :
    (State.writeAck s agent v).keep m = s.keep m := by
  unfold State.writeAck
  repeat' (first | (simp [h0, h1]; done) | split | (refine (foldl_keep (fun s a => ?_) _ _).trans ?_) | (simp only [Prod.ext_iff] at *; casesm* _ ∧ _; subst_vars; simp [h0, h1]; done) | (simp only [keeps_next]) | simp [h0, h1])
@[simp] theorem State.writeRv_keep (h0 : m (.blk .RV) = false) (h1 : m .reeve = false) (s : State) (agent : Agent)
    (off : ℕ) (r : RegDesc) (i : ℕ) (v : ℕ) (m_ : ℕ) (hr : ∀ F ∈ r.fields, m (.blk F.blk) = false) :
    (State.writeRv s agent off r i v m_).keep m = s.keep m := by
  have hw : ∀ (s : State) (i v k : Nat), (s.writeReg r i v k).keep m = s.keep m := fun s i v k => State.writeReg_keep s r i v k hr
  unfold State.writeRv
  refine State.rvWrite_keep h0 h1 s agent off _ fun a0 => ?_
  (repeat' split) <;> simp [h0, h1, hr, hw]
@[simp] theorem State.writeHaltReq_keep (h0 : m (.blk .FUR) = false) (h1 : m (.blk .GLN) = false) (h2 : m .gln =
    false) (h3 : m .threads = false) (s : State) (agent : Agent) (v : ℕ) :
    (State.writeHaltReq s agent v).keep m = s.keep m := by
  simp only [State.writeHaltReq]; (repeat' split) <;> simp [*]
@[simp] theorem State.debugReset_keep (h0 : m .acre = false) (h1 : m (.blk .BND) = false) (h2 : m (.blk .BT) = false)
    (h3 : m (.blk .DRL) = false) (h4 : m (.blk .FUR) = false) (h5 : m (.blk .FURG) = false) (h6 : m (.blk .GLN) =
    false) (h7 : m (.blk .GRN) = false) (h8 : m (.blk .GRNG) = false) (h9 : m (.blk .HRW) = false) (h10 : m (.blk
    .HST) = false) (h11 : m (.blk .PWR) = false) (h12 : m (.blk .RV) = false) (h13 : m (.blk .SOW) = false) (h14 : m
    (.blk .SWT) = false) (h15 : m (.blk .SWTL) = false) (h16 : m (.blk .TLY) = false) (h17 : m (.blk .YK) = false)
    (h18 : m .bnd = false) (h19 : m .boot = false) (h20 : m .caches = false) (h21 : m .clk = false) (h22 : m .cores =
    false) (h23 : m .drill = false) (h24 : m .fresh = false) (h25 : m .gln = false) (h26 : m .granary = false) (h27 :
    m .host = false) (h28 : m .links = false) (h29 : m .loops = false) (h30 : m .reeve = false) (h31 : m .seedbox =
    false) (h32 : m .threads = false) (h33 : m .tiles = false) (h34 : m .vecs = false) (h35 : m .yoke = false) (s :
    State) (agent : Agent) (key : ℕ) (tg : Bool) (n : ℕ) :
    (State.debugReset s agent key tg n).keep m = s.keep m := by
  unfold State.debugReset
  repeat' (first | (simp [*]; done) | split | (refine (foldl_keep (fun s a => ?_) _ _).trans ?_) | (simp only [Prod.ext_iff] at *; casesm* _ ∧ _; subst_vars; simp [*]; done) | (simp only [keeps_next]) | simp [*])
@[simp] theorem State.writeGln_keep (h0 : m .acre = false) (h1 : m (.blk .BND) = false) (h2 : m (.blk .BT) = false)
    (h3 : m (.blk .DRL) = false) (h4 : m (.blk .FUR) = false) (h5 : m (.blk .FURG) = false) (h6 : m (.blk .GLN) =
    false) (h7 : m (.blk .GRN) = false) (h8 : m (.blk .GRNG) = false) (h9 : m (.blk .HRW) = false) (h10 : m (.blk
    .HST) = false) (h11 : m (.blk .PWR) = false) (h12 : m (.blk .RV) = false) (h13 : m (.blk .SOW) = false) (h14 : m
    (.blk .SWT) = false) (h15 : m (.blk .SWTL) = false) (h16 : m (.blk .TLY) = false) (h17 : m (.blk .YK) = false)
    (h18 : m .bnd = false) (h19 : m .boot = false) (h20 : m .caches = false) (h21 : m .clk = false) (h22 : m .cores =
    false) (h23 : m .drill = false) (h24 : m .fresh = false) (h25 : m .gln = false) (h26 : m .granary = false) (h27 :
    m .host = false) (h28 : m .links = false) (h29 : m .loops = false) (h30 : m .reeve = false) (h31 : m .seedbox =
    false) (h32 : m .threads = false) (h33 : m .tiles = false) (h34 : m .vecs = false) (h35 : m .yoke = false) (s :
    State) (agent : Agent) (r : RegDesc) (i : ℕ) (v : ℕ) (m_ : ℕ) (hr : ∀ F ∈ r.fields, m (.blk F.blk) = false) :
    (State.writeGln s agent r i v m_).keep m = s.keep m := by
  have hw : ∀ (s : State) (i v k : Nat), (s.writeReg r i v k).keep m = s.keep m := fun s i v k => State.writeReg_keep s r i v k hr
  unfold State.writeGln
  repeat' (first | (simp [h0, h1, h2, h3, h4, h5, h6, h7, h8, h9, h10, h11, h12, h13, h14, h15, h16, h17, h18, h19, h20, h21, h22, h23, h24, h25, h26, h27, h28, h29, h30, h31, h32, h33, h34, h35, hr, hw]; done) | split | (refine (foldl_keep (fun s a => ?_) _ _).trans ?_) | (simp only [Prod.ext_iff] at *; casesm* _ ∧ _; subst_vars; simp [h0, h1, h2, h3, h4, h5, h6, h7, h8, h9, h10, h11, h12, h13, h14, h15, h16, h17, h18, h19, h20, h21, h22, h23, h24, h25, h26, h27, h28, h29, h30, h31, h32, h33, h34, h35, hr, hw]; done) | (simp only [keeps_next]) | simp [h0, h1, h2, h3, h4, h5, h6, h7, h8, h9, h10, h11, h12, h13, h14, h15, h16, h17, h18, h19, h20, h21, h22, h23, h24, h25, h26, h27, h28, h29, h30, h31, h32, h33, h34, h35, hr, hw])
@[simp] theorem State.writeTly_keep (h0 : m (.blk .TLY) = false) (s : State) (agent : Agent) (r : RegDesc) (i : ℕ) (v
    : ℕ) (m_ : ℕ) (hr : ∀ F ∈ r.fields, m (.blk F.blk) = false) :
    (State.writeTly s agent r i v m_).keep m = s.keep m := by
  have hw : ∀ (s : State) (i v k : Nat), (s.writeReg r i v k).keep m = s.keep m := fun s i v k => State.writeReg_keep s r i v k hr
  unfold State.writeTly
  repeat' (first | (simp [h0, hr, hw]; done) | split | (refine (foldl_keep (fun s a => ?_) _ _).trans ?_) | (simp only [Prod.ext_iff] at *; casesm* _ ∧ _; subst_vars; simp [h0, hr, hw]; done) | (simp only [keeps_next]) | simp [h0, hr, hw])
@[simp] theorem State.writeBlk_keep (h0 : m .acre = false) (h1 : m (.blk .BND) = false) (h2 : m (.blk .BT) = false)
    (h3 : m (.blk .CLK) = false) (h4 : m (.blk .DRL) = false) (h5 : m (.blk .FUR) = false) (h6 : m (.blk .FURG) =
    false) (h7 : m (.blk .GLN) = false) (h8 : m (.blk .GRN) = false) (h9 : m (.blk .GRNG) = false) (h10 : m (.blk
    .HRW) = false) (h11 : m (.blk .HST) = false) (h12 : m (.blk .PWR) = false) (h13 : m (.blk .RV) = false) (h14 : m
    (.blk .SOW) = false) (h15 : m (.blk .SWT) = false) (h16 : m (.blk .SWTL) = false) (h17 : m (.blk .TLY) = false)
    (h18 : m (.blk .YK) = false) (h19 : m .bnd = false) (h20 : m .boot = false) (h21 : m .caches = false) (h22 : m
    .clk = false) (h23 : m .cores = false) (h24 : m .drill = false) (h25 : m .fresh = false) (h26 : m .gln = false)
    (h27 : m .granary = false) (h28 : m .host = false) (h29 : m .links = false) (h30 : m .loops = false) (h31 : m .mem
    = false) (h32 : m .reeve = false) (h33 : m .seedbox = false) (h34 : m .sent = false) (h35 : m .threads = false)
    (h36 : m .tiles = false) (h37 : m .vecs = false) (h38 : m .yoke = false) (s : State) (agent : Agent) (b : Blk)
    (off : ℕ) (r : RegDesc) (i : ℕ) (v : ℕ) (m_ : ℕ) (hb : r ∈ b.regs) :
    (State.writeBlk s agent b off r i v m_).keep m = s.keep m := by
  have hr : b ≠ .HDL → ∀ F ∈ r.fields, m (.blk F.blk) = false := fun hn F hF => by
    rw [b.fields_blk F (List.mem_flatMap.mpr ⟨r, hb, hF⟩)]
    cases b <;> first | exact absurd rfl hn | assumption
  unfold State.writeBlk
  cases b <;> dsimp only
  · exact State.writeReg_keep s r i v m_ (hr (by decide))
  · exact State.writePwr_keep h0 h1 h2 h4 h5 h6 h7 h8 h9 h10 h11 h12 h13 h14 h15 h16 h17 h18 h19 h20 h21 h22 h23 h24 h25 h26 h27 h28 h29 h30 h32 h33 h35 h36 h37 h38 s agent off r i v m_ (hr (by decide))
  · exact State.writeBt_keep h0 h1 h2 h4 h5 h6 h7 h8 h9 h10 h11 h12 h13 h14 h15 h16 h17 h18 h19 h20 h21 h22 h23 h24 h25 h26 h27 h28 h29 h30 h32 h33 h35 h36 h37 h38 s agent r i v m_ (hr (by decide))
  · exact State.writeReg_keep s r i v m_ (hr (by decide))
  · exact State.writeReg_keep s r i v m_ (hr (by decide))
  · exact State.writeFur_keep h5 h21 h23 s agent r i v m_ (hr (by decide))
  · exact State.writeGrn_keep h8 h13 h21 h23 h27 h31 h32 s agent r i v m_ (hr (by decide))
  · exact State.writeDrl_keep h4 h24 s agent r i v m_ (hr (by decide))
  · exact State.writeReg_keep s r i v m_ (hr (by decide))
  · exact State.writeHrw_keep h8 h10 h13 h21 h23 h27 h28 h31 h32 h33 h34 s agent r i v m_ (hr (by decide))
  · exact State.writeBnd_keep h1 h13 h19 h32 s agent off r i v m_ (hr (by decide))
  · exact State.writeHst_keep h4 h5 h10 h11 h13 h24 h28 h32 h34 h37 s agent r i v m_ (hr (by decide))
  · exact State.writeYk_keep h8 h13 h16 h17 h18 h21 h23 h27 h29 h31 h32 h34 h38 s agent off r i v m_ (hr (by decide))
  · exact State.writeSwt_keep h0 h1 h5 h8 h13 h15 h16 h17 h18 h21 h23 h24 h27 h29 h31 h32 h34 h35 h36 s agent off r i v m_ (hr (by decide))
  · exact State.writeReg_keep s r i v m_ (hr (by decide))
  · exact State.writeGln_keep h0 h1 h2 h4 h5 h6 h7 h8 h9 h10 h11 h12 h13 h14 h15 h16 h17 h18 h19 h20 h21 h22 h23 h24 h25 h26 h27 h28 h29 h30 h32 h33 h35 h36 h37 h38 s agent r i v m_ (hr (by decide))
  · exact State.writeTly_keep h17 s agent r i v m_ (hr (by decide))
  · exact State.writeRv_keep h13 h32 s agent off r i v m_ (hr (by decide))
@[simp] theorem State.writeWord_keep (h0 : m .acre = false) (h1 : m (.blk .BND) = false) (h2 : m (.blk .BT) = false)
    (h3 : m (.blk .CLK) = false) (h4 : m (.blk .DRL) = false) (h5 : m (.blk .FUR) = false) (h6 : m (.blk .FURG) =
    false) (h7 : m (.blk .GLN) = false) (h8 : m (.blk .GRN) = false) (h9 : m (.blk .GRNG) = false) (h10 : m (.blk
    .HRW) = false) (h11 : m (.blk .HST) = false) (h12 : m (.blk .PWR) = false) (h13 : m (.blk .RV) = false) (h14 : m
    (.blk .SOW) = false) (h15 : m (.blk .SWT) = false) (h16 : m (.blk .SWTL) = false) (h17 : m (.blk .TLY) = false)
    (h18 : m (.blk .YK) = false) (h19 : m .bnd = false) (h20 : m .boot = false) (h21 : m .caches = false) (h22 : m
    .clk = false) (h23 : m .cores = false) (h24 : m .drill = false) (h25 : m .fresh = false) (h26 : m .gln = false)
    (h27 : m .granary = false) (h28 : m .host = false) (h29 : m .links = false) (h30 : m .loops = false) (h31 : m .mem
    = false) (h32 : m .reeve = false) (h33 : m .seedbox = false) (h34 : m .sent = false) (h35 : m .threads = false)
    (h36 : m .tiles = false) (h37 : m .vecs = false) (h38 : m .yoke = false) (s : State) (agent : Agent) (b : Blk)
    (win : ℕ) (off : ℕ) (v : ℕ) :
    (State.writeWord s agent b win off v).keep m = s.keep m := by
  unfold State.writeWord
  split
  · rfl
  · rename_i h
    exact State.writeBlk_keep h0 h1 h2 h3 h4 h5 h6 h7 h8 h9 h10 h11 h12 h13 h14 h15 h16 h17 h18 h19 h20 h21 h22 h23 h24 h25 h26 h27 h28 h29 h30 h31 h32 h33 h34 h35 h36 h37 h38 _ _ _ _ _ _ _ _ (Blk.locate_mem h)
@[simp] theorem State.writeDouble_keep (h0 : m .acre = false) (h1 : m (.blk .BND) = false) (h2 : m (.blk .BT) = false)
    (h3 : m (.blk .CLK) = false) (h4 : m (.blk .DRL) = false) (h5 : m (.blk .FUR) = false) (h6 : m (.blk .FURG) =
    false) (h7 : m (.blk .GLN) = false) (h8 : m (.blk .GRN) = false) (h9 : m (.blk .GRNG) = false) (h10 : m (.blk
    .HRW) = false) (h11 : m (.blk .HST) = false) (h12 : m (.blk .PWR) = false) (h13 : m (.blk .RV) = false) (h14 : m
    (.blk .SOW) = false) (h15 : m (.blk .SWT) = false) (h16 : m (.blk .SWTL) = false) (h17 : m (.blk .TLY) = false)
    (h18 : m (.blk .YK) = false) (h19 : m .bnd = false) (h20 : m .boot = false) (h21 : m .caches = false) (h22 : m
    .clk = false) (h23 : m .cores = false) (h24 : m .drill = false) (h25 : m .fresh = false) (h26 : m .gln = false)
    (h27 : m .granary = false) (h28 : m .host = false) (h29 : m .links = false) (h30 : m .loops = false) (h31 : m .mem
    = false) (h32 : m .reeve = false) (h33 : m .seedbox = false) (h34 : m .sent = false) (h35 : m .threads = false)
    (h36 : m .tiles = false) (h37 : m .vecs = false) (h38 : m .yoke = false) (s : State) (agent : Agent) (b : Blk)
    (win : ℕ) (off : ℕ) (v : ℕ) :
    (State.writeDouble s agent b win off v).keep m = s.keep m := by
  unfold State.writeDouble
  split
  · rename_i h
    split
    · exact State.writeBlk_keep h0 h1 h2 h3 h4 h5 h6 h7 h8 h9 h10 h11 h12 h13 h14 h15 h16 h17 h18 h19 h20 h21 h22 h23 h24 h25 h26 h27 h28 h29 h30 h31 h32 h33 h34 h35 h36 h37 h38 _ _ _ _ _ _ _ _ (Blk.locate_mem h)
    · simp [*]
  · simp [*]
@[simp] theorem State.writeDev_keep (h0 : m .acre = false) (h1 : m (.blk .BND) = false) (h2 : m (.blk .BT) = false)
    (h3 : m (.blk .CLK) = false) (h4 : m (.blk .DRL) = false) (h5 : m (.blk .FUR) = false) (h6 : m (.blk .FURG) =
    false) (h7 : m (.blk .GLN) = false) (h8 : m (.blk .GRN) = false) (h9 : m (.blk .GRNG) = false) (h10 : m (.blk
    .HRW) = false) (h11 : m (.blk .HST) = false) (h12 : m (.blk .PWR) = false) (h13 : m (.blk .RV) = false) (h14 : m
    (.blk .SOW) = false) (h15 : m (.blk .SWT) = false) (h16 : m (.blk .SWTL) = false) (h17 : m (.blk .TLY) = false)
    (h18 : m (.blk .YK) = false) (h19 : m .bnd = false) (h20 : m .boot = false) (h21 : m .caches = false) (h22 : m
    .clk = false) (h23 : m .cores = false) (h24 : m .drill = false) (h25 : m .fresh = false) (h26 : m .gln = false)
    (h27 : m .granary = false) (h28 : m .host = false) (h29 : m .links = false) (h30 : m .loops = false) (h31 : m .mem
    = false) (h32 : m .reeve = false) (h33 : m .seedbox = false) (h34 : m .sent = false) (h35 : m .threads = false)
    (h36 : m .tiles = false) (h37 : m .vecs = false) (h38 : m .yoke = false) (s : State) (agent : Agent) (pa : ℕ)
    (wide : Bool) (v : ℕ) :
    (State.writeDev s agent pa wide v).keep m = s.keep m := by unfold State.writeDev; (repeat' split) <;> simp [*]
@[simp] theorem State.writeTileWin_keep (h0 : m .tiles = false) (s : State) (n : ℕ) (off : ℕ) (spill : Bool) (wide :
    Bool) (v : ℕ) :
    (State.writeTileWin s n off spill wide v).keep m = s.keep m := by simp [State.writeTileWin, *]
@[simp] theorem State.writeVector_keep (h0 : m .sent = false) (h1 : m .vecs = false) (s : State) (p : ℕ) (vec : ℕ)
    (word : ℕ) (v : ℕ) :
    (State.writeVector s p vec word v).keep m = s.keep m := by unfold State.writeVector; (repeat' split) <;> simp [*]
@[simp] theorem State.barWrite_keep (h0 : m .acre = false) (h1 : m (.blk .BND) = false) (h2 : m (.blk .BT) = false)
    (h3 : m (.blk .CLK) = false) (h4 : m (.blk .DRL) = false) (h5 : m (.blk .FUR) = false) (h6 : m (.blk .FURG) =
    false) (h7 : m (.blk .GLN) = false) (h8 : m (.blk .GRN) = false) (h9 : m (.blk .GRNG) = false) (h10 : m (.blk
    .HRW) = false) (h11 : m (.blk .HST) = false) (h12 : m (.blk .PWR) = false) (h13 : m (.blk .RV) = false) (h14 : m
    (.blk .SOW) = false) (h15 : m (.blk .SWT) = false) (h16 : m (.blk .SWTL) = false) (h17 : m (.blk .TLY) = false)
    (h18 : m (.blk .YK) = false) (h19 : m .bnd = false) (h20 : m .boot = false) (h21 : m .caches = false) (h22 : m
    .clk = false) (h23 : m .cores = false) (h24 : m .drill = false) (h25 : m .fresh = false) (h26 : m .gln = false)
    (h27 : m .granary = false) (h28 : m .host = false) (h29 : m .links = false) (h30 : m .loops = false) (h31 : m .mem
    = false) (h32 : m .reeve = false) (h33 : m .seedbox = false) (h34 : m .sent = false) (h35 : m .threads = false)
    (h36 : m .tiles = false) (h37 : m .vecs = false) (h38 : m .yoke = false) (s : State) (p : Plot) (off : ℕ) (wide :
    Bool) (v : ℕ) :
    (State.barWrite s p off wide v).keep m = s.keep m := by unfold State.barWrite; (repeat' split) <;> simp [*]
@[simp] theorem State.barAnswer_keep (h0 : m .sent = false) (s : State) (p : ℕ) (v : Option ℕ) :
    (State.barAnswer s p v).keep m = s.keep m := by simp [State.barAnswer, *]
@[simp] theorem State.barRead_keep (h0 : m .clk = false) (h1 : m .sent = false) (s : State) (p : Plot) (off : ℕ) (wide
    : Bool) :
    (State.barRead s p off wide).keep m = s.keep m := by simp only [State.barRead]; (repeat' split) <;> simp [*]
@[simp] theorem State.vfSet_keep (h0 : m .host = false) (s : State) (n : ℕ) :
    (State.vfSet s n).keep m = s.keep m := by simp [State.vfSet, *]
@[simp] theorem State.masterSet_keep (h0 : m .host = false) (s : State) (p : ℕ) :
    (State.masterSet s p).keep m = s.keep m := by simp [State.masterSet, *]
@[simp] theorem State.msixSet_keep (h0 : m .host = false) (h1 : m .sent = false) (h2 : m .vecs = false) (s : State) (p
    : ℕ) (enable : Bool) (mask : Bool) :
    (State.msixSet s p enable mask).keep m = s.keep m := by simp [State.msixSet, *]
@[simp] theorem State.agentWrite_keep (h0 : m .acre = false) (h1 : m (.blk .BND) = false) (h2 : m (.blk .BT) = false)
    (h3 : m (.blk .CLK) = false) (h4 : m (.blk .DRL) = false) (h5 : m (.blk .FUR) = false) (h6 : m (.blk .FURG) =
    false) (h7 : m (.blk .GLN) = false) (h8 : m (.blk .GRN) = false) (h9 : m (.blk .GRNG) = false) (h10 : m (.blk
    .HRW) = false) (h11 : m (.blk .HST) = false) (h12 : m (.blk .PWR) = false) (h13 : m (.blk .RV) = false) (h14 : m
    (.blk .SOW) = false) (h15 : m (.blk .SWT) = false) (h16 : m (.blk .SWTL) = false) (h17 : m (.blk .TLY) = false)
    (h18 : m (.blk .YK) = false) (h19 : m .bnd = false) (h20 : m .boot = false) (h21 : m .caches = false) (h22 : m
    .clk = false) (h23 : m .cores = false) (h24 : m .drill = false) (h25 : m .fresh = false) (h26 : m .gln = false)
    (h27 : m .granary = false) (h28 : m .host = false) (h29 : m .links = false) (h30 : m .loops = false) (h31 : m .mem
    = false) (h32 : m .reeve = false) (h33 : m .seedbox = false) (h34 : m .sent = false) (h35 : m .threads = false)
    (h36 : m .tiles = false) (h37 : m .vecs = false) (h38 : m .yoke = false) (s : State) (agent : Agent) (pa : ℕ)
    (wide : Bool) (v : ℕ) :
    (State.agentWrite s agent pa wide v).keep m = s.keep m := by unfold State.agentWrite; (repeat' split) <;> simp [*]
@[simp] theorem State.barAccess_keep (h0 : m (.blk .RV) = false) (h1 : m .reeve = false) (h2 : m .sent = false) (s :
    State) (p : ℕ) (off : ℕ) (wide : Bool) (isRead : Bool) (f : State → State) (hf_f : ∀ a0, (f a0).keep m = a0.keep
    m) :
    (State.barAccess s p off wide isRead f).keep m = s.keep m := by simp [State.barAccess, *]
@[simp] theorem execRegisterWrite_keep (h0 : m .acre = false) (h1 : m (.blk .BND) = false) (h2 : m (.blk .BT) = false)
    (h3 : m (.blk .CLK) = false) (h4 : m (.blk .DRL) = false) (h5 : m (.blk .FUR) = false) (h6 : m (.blk .FURG) =
    false) (h7 : m (.blk .GLN) = false) (h8 : m (.blk .GRN) = false) (h9 : m (.blk .GRNG) = false) (h10 : m (.blk
    .HRW) = false) (h11 : m (.blk .HST) = false) (h12 : m (.blk .PWR) = false) (h13 : m (.blk .RV) = false) (h14 : m
    (.blk .SOW) = false) (h15 : m (.blk .SWT) = false) (h16 : m (.blk .SWTL) = false) (h17 : m (.blk .TLY) = false)
    (h18 : m (.blk .YK) = false) (h19 : m .bnd = false) (h20 : m .boot = false) (h21 : m .caches = false) (h22 : m
    .clk = false) (h23 : m .cores = false) (h24 : m .drill = false) (h25 : m .fresh = false) (h26 : m .gln = false)
    (h27 : m .granary = false) (h28 : m .host = false) (h29 : m .links = false) (h30 : m .loops = false) (h31 : m .mem
    = false) (h32 : m .reeve = false) (h33 : m .seedbox = false) (h34 : m .sent = false) (h35 : m .threads = false)
    (h36 : m .tiles = false) (h37 : m .vecs = false) (h38 : m .yoke = false) (target : RegTarget) (wide : Bool) (v :
    BitVec 64) (s : State) :
    Keeps m s (execRegisterWrite target wide v s) := by
  unfold execRegisterWrite
  repeat' (first | (simp [*]; done) | split | (refine (foldl_keep (fun s a => ?_) _ _).trans ?_) | (apply State.barAccess_keep <;> (first | (simp only [h0, h1, h2, h3, h4, h5, h6, h7, h8, h9, h10, h11, h12, h13, h14, h15, h16, h17, h18, h19, h20, h21, h22, h23, h24, h25, h26, h27, h28, h29, h30, h31, h32, h33, h34, h35, h36, h37, h38]; done) | (intros; dsimp only) | intros)) | (simp only [Prod.ext_iff] at *; casesm* _ ∧ _; subst_vars; simp [*]; done) | (simp only [keeps_next]) | simp [*])
@[simp] theorem execDebugReset_keep (h0 : m .acre = false) (h1 : m (.blk .BND) = false) (h2 : m (.blk .BT) = false)
    (h3 : m (.blk .DRL) = false) (h4 : m (.blk .FUR) = false) (h5 : m (.blk .FURG) = false) (h6 : m (.blk .GLN) =
    false) (h7 : m (.blk .GRN) = false) (h8 : m (.blk .GRNG) = false) (h9 : m (.blk .HRW) = false) (h10 : m (.blk
    .HST) = false) (h11 : m (.blk .PWR) = false) (h12 : m (.blk .RV) = false) (h13 : m (.blk .SOW) = false) (h14 : m
    (.blk .SWT) = false) (h15 : m (.blk .SWTL) = false) (h16 : m (.blk .TLY) = false) (h17 : m (.blk .YK) = false)
    (h18 : m .bnd = false) (h19 : m .boot = false) (h20 : m .caches = false) (h21 : m .clk = false) (h22 : m .cores =
    false) (h23 : m .drill = false) (h24 : m .fresh = false) (h25 : m .gln = false) (h26 : m .granary = false) (h27 :
    m .host = false) (h28 : m .links = false) (h29 : m .loops = false) (h30 : m .reeve = false) (h31 : m .seedbox =
    false) (h32 : m .threads = false) (h33 : m .tiles = false) (h34 : m .vecs = false) (h35 : m .yoke = false) (agent
    : Agent) (key : BitVec 16) (tg : Bool) (n : Cid) (s : State) :
    Keeps m s (execDebugReset agent key tg n s) := by simp [execDebugReset, *]

end Sys2Proof.Machine
end

