-- ==== Sys2Proof/Laws/KeepTransactions.lean ====
section
/-! SUPPORT. What the operations and commands of Machine/Transactions.lean keep: each changes only the facets
named in its hypotheses (`State.keep`). -/

namespace Sys2Proof.Machine

variable {m : Facet → Bool}


@[simp] theorem State.storeAway_keep (h0 : m .acre = false) (h1 : m (.blk .BND) = false) (h2 : m (.blk .FUR) = false)
    (h3 : m (.blk .GRN) = false) (h4 : m (.blk .RV) = false) (h5 : m (.blk .SWT) = false) (h6 : m (.blk .TLY) = false)
    (h7 : m .caches = false) (h8 : m .cores = false) (h9 : m .drill = false) (h10 : m .granary = false) (h11 : m
    .links = false) (h12 : m .mem = false) (h13 : m .reeve = false) (h14 : m .sent = false) (h15 : m .threads = false)
    (h16 : m .tiles = false) (s : State) (h : ℕ) (k : ℕ) (x : Posted) (pkg : ℕ) (loc : ℕ) :
    (State.storeAway s h k x pkg loc).keep m = s.keep m := by simp [State.storeAway, *]
@[simp] theorem State.storeHost_keep (h0 : m (.blk .FUR) = false) (h1 : m (.blk .HST) = false) (h2 : m .sent = false)
    (h3 : m .threads = false) (s : State) (h : ℕ) (x : Posted) (w : ℕ) (off : ℕ) :
    (State.storeHost s h x w off).keep m = s.keep m := by simp only [State.storeHost]; (repeat' split) <;> simp [*]
@[simp] theorem State.storeLands_keep (h0 : m .acre = false) (h1 : m (.blk .BND) = false) (h2 : m (.blk .BT) = false)
    (h3 : m (.blk .CLK) = false) (h4 : m (.blk .DRL) = false) (h5 : m (.blk .FUR) = false) (h6 : m (.blk .FURG) =
    false) (h7 : m (.blk .GLN) = false) (h8 : m (.blk .GRN) = false) (h9 : m (.blk .GRNG) = false) (h10 : m (.blk
    .HRW) = false) (h11 : m (.blk .HST) = false) (h12 : m (.blk .PWR) = false) (h13 : m (.blk .RV) = false) (h14 : m
    (.blk .SOW) = false) (h15 : m (.blk .SWT) = false) (h16 : m (.blk .SWTL) = false) (h17 : m (.blk .TLY) = false)
    (h18 : m (.blk .YK) = false) (h19 : m .bnd = false) (h20 : m .boot = false) (h21 : m .caches = false) (h22 : m
    .clk = false) (h23 : m .cores = false) (h24 : m .drill = false) (h25 : m .fresh = false) (h26 : m .gln = false)
    (h27 : m .granary = false) (h28 : m .host = false) (h29 : m .links = false) (h30 : m .loops = false) (h31 : m .mem
    = false) (h32 : m .reeve = false) (h33 : m .seedbox = false) (h34 : m .sent = false) (h35 : m .threads = false)
    (h36 : m .tiles = false) (h37 : m .vecs = false) (h38 : m .yoke = false) (s : State) (h : ℕ) (x : Posted) :
    (State.storeLands s h x).keep m = s.keep m := by
  unfold State.storeLands; (repeat' split) <;> (try simp only [Prod.ext_iff] at *) <;> (try casesm* _ ∧ _) <;> (try subst_vars) <;> simp [*]
@[simp] theorem State.postedGoes_keep (h0 : m .acre = false) (h1 : m (.blk .BND) = false) (h2 : m (.blk .BT) = false)
    (h3 : m (.blk .CLK) = false) (h4 : m (.blk .DRL) = false) (h5 : m (.blk .FUR) = false) (h6 : m (.blk .FURG) =
    false) (h7 : m (.blk .GLN) = false) (h8 : m (.blk .GRN) = false) (h9 : m (.blk .GRNG) = false) (h10 : m (.blk
    .HRW) = false) (h11 : m (.blk .HST) = false) (h12 : m (.blk .PWR) = false) (h13 : m (.blk .RV) = false) (h14 : m
    (.blk .SOW) = false) (h15 : m (.blk .SWT) = false) (h16 : m (.blk .SWTL) = false) (h17 : m (.blk .TLY) = false)
    (h18 : m (.blk .YK) = false) (h19 : m .bnd = false) (h20 : m .boot = false) (h21 : m .caches = false) (h22 : m
    .clk = false) (h23 : m .cores = false) (h24 : m .drill = false) (h25 : m .fresh = false) (h26 : m .gln = false)
    (h27 : m .granary = false) (h28 : m .host = false) (h29 : m .links = false) (h30 : m .loops = false) (h31 : m .mem
    = false) (h32 : m .reeve = false) (h33 : m .seedbox = false) (h34 : m .sent = false) (h35 : m .threads = false)
    (h36 : m .tiles = false) (h37 : m .vecs = false) (h38 : m .yoke = false) (s : State) (h : ℕ) (k : ℕ) (x : Posted)
    :
    (State.postedGoes s h k x).keep m = s.keep m := by unfold State.postedGoes; (repeat' split) <;> simp [*]
@[simp] theorem State.loadHost_keep (h0 : m .host = false) (h1 : m .sent = false) (s : State) (h : ℕ) (w : ℕ) (off :
    ℕ) (len : ℕ) :
    (State.loadHost s h w off len).2.keep m = s.keep m := by
  unfold State.loadHost
  dsimp only
  split
  · rfl
  · rename_i a _
    split
    · rfl
    · split
      · rfl
      · have e := State.hostRead_keep h0 h1 s (s.plotOf h) a len (.load h)
        generalize s.hostRead (s.plotOf h) a len (.load h) = o at e ⊢
        exact keep_getD e
@[simp] theorem State.loadFar_keep (h0 : m .acre = false) (h1 : m (.blk .BND) = false) (h2 : m (.blk .FUR) = false)
    (h3 : m (.blk .GRN) = false) (h4 : m (.blk .RV) = false) (h5 : m (.blk .SWT) = false) (h6 : m (.blk .TLY) = false)
    (h7 : m .caches = false) (h8 : m .cores = false) (h9 : m .drill = false) (h10 : m .granary = false) (h11 : m
    .links = false) (h12 : m .mem = false) (h13 : m .reeve = false) (h14 : m .sent = false) (h15 : m .threads = false)
    (h16 : m .tiles = false) (s : State) (h : ℕ) (pkg : ℕ) (loc : ℕ) (len : ℕ) :
    (State.loadFar s h pkg loc len).2.keep m = s.keep m := by
  unfold State.loadFar; (repeat' split) <;> (try simp only [Prod.ext_iff] at *) <;> (try casesm* _ ∧ _) <;> (try subst_vars) <;> simp [*]
@[simp] theorem State.loadPart_keep (h0 : m .acre = false) (h1 : m (.blk .BND) = false) (h2 : m (.blk .FUR) = false)
    (h3 : m (.blk .GRN) = false) (h4 : m (.blk .RV) = false) (h5 : m (.blk .SWT) = false) (h6 : m (.blk .TLY) = false)
    (h7 : m .caches = false) (h8 : m .clk = false) (h9 : m .cores = false) (h10 : m .drill = false) (h11 : m .granary
    = false) (h12 : m .host = false) (h13 : m .links = false) (h14 : m .mem = false) (h15 : m .reeve = false) (h16 : m
    .sent = false) (h17 : m .threads = false) (h18 : m .tiles = false) (s : State) (h : ℕ) (past : Bool) (p : Part)
    (res : MemRes) :
    (State.loadPart s h past p res).2.keep m = s.keep m := by simp only [State.loadPart]; (repeat' split) <;> simp [*]
@[simp] theorem State.loadParts_keep (h0 : m .acre = false) (h1 : m (.blk .BND) = false) (h2 : m (.blk .FUR) = false)
    (h3 : m (.blk .GRN) = false) (h4 : m (.blk .RV) = false) (h5 : m (.blk .SWT) = false) (h6 : m (.blk .TLY) = false)
    (h7 : m .caches = false) (h8 : m .clk = false) (h9 : m .cores = false) (h10 : m .drill = false) (h11 : m .granary
    = false) (h12 : m .host = false) (h13 : m .links = false) (h14 : m .mem = false) (h15 : m .reeve = false) (h16 : m
    .sent = false) (h17 : m .threads = false) (h18 : m .tiles = false) (s : State) (h : ℕ) (past : Bool) (res :
    MemRes) (y4 : List Part) (y5 : List Byte) :
    (State.loadParts s h past res y4 y5).2.keep m = s.keep m := by
  induction y4 generalizing s y5 with
  | nil => unfold State.loadParts; repeat' (first | (simp [h0, h1, h2, h3, h4, h5, h6, h7, h8, h9, h10, h11, h12, h13, h14, h15, h16, h17, h18]; done) | split | (refine (foldl_keep (fun s a => ?_) _ _).trans ?_) | (simp only [Prod.ext_iff] at *; casesm* _ ∧ _; subst_vars; simp [h0, h1, h2, h3, h4, h5, h6, h7, h8, h9, h10, h11, h12, h13, h14, h15, h16, h17, h18]; done) | (simp only [keeps_next]) | simp [h0, h1, h2, h3, h4, h5, h6, h7, h8, h9, h10, h11, h12, h13, h14, h15, h16, h17, h18])
  | cons r rs ih =>
    unfold State.loadParts
    repeat' (first | (simp [h0, h1, h2, h3, h4, h5, h6, h7, h8, h9, h10, h11, h12, h13, h14, h15, h16, h17, h18, ih]; done) | split | (refine (foldl_keep (fun s a => ?_) _ _).trans ?_) | (simp only [Prod.ext_iff] at *; casesm* _ ∧ _; subst_vars; simp [h0, h1, h2, h3, h4, h5, h6, h7, h8, h9, h10, h11, h12, h13, h14, h15, h16, h17, h18, ih]; done) | (simp only [keeps_next]) | simp [h0, h1, h2, h3, h4, h5, h6, h7, h8, h9, h10, h11, h12, h13, h14, h15, h16, h17, h18, ih])
@[simp] theorem State.loadGoes_keep (h0 : m .acre = false) (h1 : m (.blk .BND) = false) (h2 : m (.blk .FUR) = false)
    (h3 : m (.blk .GRN) = false) (h4 : m (.blk .RV) = false) (h5 : m (.blk .SWT) = false) (h6 : m (.blk .TLY) = false)
    (h7 : m .caches = false) (h8 : m .clk = false) (h9 : m .cores = false) (h10 : m .drill = false) (h11 : m .granary
    = false) (h12 : m .host = false) (h13 : m .links = false) (h14 : m .mem = false) (h15 : m .reeve = false) (h16 : m
    .sent = false) (h17 : m .threads = false) (h18 : m .tiles = false) (s : State) (h : ℕ) (op : LoadOp) (res :
    MemRes) :
    (State.loadGoes s h op res).keep m = s.keep m := by
  unfold State.loadGoes; (repeat' split) <;> (try simp only [Prod.ext_iff] at *) <;> (try casesm* _ ∧ _) <;> (try subst_vars) <;> simp [*]
@[simp] theorem State.atomicFails_keep (h0 : m .threads = false) (s : State) (h : ℕ) (code : ℕ) (op : AtomicOp) :
    (State.atomicFails s h code op).keep m = s.keep m := by simp [State.atomicFails, *]
@[simp] theorem State.atomicHere_keep (h0 : m (.blk .GRN) = false) (h1 : m (.blk .RV) = false) (h2 : m (.blk .TLY) =
    false) (h3 : m .caches = false) (h4 : m .cores = false) (h5 : m .granary = false) (h6 : m .mem = false) (h7 : m
    .reeve = false) (h8 : m .seedbox = false) (h9 : m .threads = false) (s : State) (h : ℕ) (op : AtomicOp) (res :
    MemRes) :
    (State.atomicHere s h op res).keep m = s.keep m := by
  unfold State.atomicHere; dsimp only; (repeat' split) <;> (try simp only [Prod.ext_iff] at *) <;> (try casesm* _ ∧ _) <;> (try subst_vars) <;> (try simp [*])
@[simp] theorem State.atomicOwn_keep (h0 : m (.blk .GRN) = false) (h1 : m (.blk .RV) = false) (h2 : m .caches = false)
    (h3 : m .cores = false) (h4 : m .granary = false) (h5 : m .mem = false) (h6 : m .reeve = false) (h7 : m .seedbox =
    false) (h8 : m .threads = false) (s : State) (h : ℕ) (op : AtomicOp) (loc : ℕ) :
    (State.atomicOwn s h op loc).keep m = s.keep m := by
  unfold State.atomicOwn; dsimp only; (repeat' split) <;> (try simp only [Prod.ext_iff] at *) <;> (try casesm* _ ∧ _) <;> (try subst_vars) <;> (try simp [*])
@[simp] theorem State.atomicGoes_keep (h0 : m .acre = false) (h1 : m (.blk .BND) = false) (h2 : m (.blk .FUR) = false)
    (h3 : m (.blk .GRN) = false) (h4 : m (.blk .RV) = false) (h5 : m (.blk .SWT) = false) (h6 : m (.blk .TLY) = false)
    (h7 : m .caches = false) (h8 : m .cores = false) (h9 : m .drill = false) (h10 : m .granary = false) (h11 : m
    .links = false) (h12 : m .mem = false) (h13 : m .reeve = false) (h14 : m .seedbox = false) (h15 : m .sent = false)
    (h16 : m .threads = false) (h17 : m .tiles = false) (s : State) (h : ℕ) (op : AtomicOp) (res : MemRes) :
    (State.atomicGoes s h op res).keep m = s.keep m := by unfold State.atomicGoes; (repeat' split) <;> simp [*]
@[simp] theorem execMemoryTransactionComplete_keep (h0 : m .acre = false) (h1 : m (.blk .BND) = false) (h2 : m (.blk
    .BT) = false) (h3 : m (.blk .CLK) = false) (h4 : m (.blk .DRL) = false) (h5 : m (.blk .FUR) = false) (h6 : m (.blk
    .FURG) = false) (h7 : m (.blk .GLN) = false) (h8 : m (.blk .GRN) = false) (h9 : m (.blk .GRNG) = false) (h10 : m
    (.blk .HRW) = false) (h11 : m (.blk .HST) = false) (h12 : m (.blk .PWR) = false) (h13 : m (.blk .RV) = false) (h14
    : m (.blk .SOW) = false) (h15 : m (.blk .SWT) = false) (h16 : m (.blk .SWTL) = false) (h17 : m (.blk .TLY) =
    false) (h18 : m (.blk .YK) = false) (h19 : m .bnd = false) (h20 : m .boot = false) (h21 : m .caches = false) (h22
    : m .clk = false) (h23 : m .cores = false) (h24 : m .drill = false) (h25 : m .fresh = false) (h26 : m .gln =
    false) (h27 : m .granary = false) (h28 : m .host = false) (h29 : m .links = false) (h30 : m .loops = false) (h31 :
    m .mem = false) (h32 : m .reeve = false) (h33 : m .seedbox = false) (h34 : m .sent = false) (h35 : m .threads =
    false) (h36 : m .tiles = false) (h37 : m .vecs = false) (h38 : m .yoke = false) (h : Tid) (res : MemRes) (s :
    State) :
    Keeps m s (execMemoryTransactionComplete h res s) := by
  simp only [execMemoryTransactionComplete]; (repeat' split) <;> simp [*]

end Sys2Proof.Machine
end

