-- ==== Sys2Proof/Laws/KeepTap.lean ====
section
/-! SUPPORT. What the operations and commands of Machine/Tap.lean keep: each changes only the facets
named in its hypotheses (`State.keep`). -/

namespace Sys2Proof.Machine

variable {m : Facet → Bool}


@[simp] theorem State.setTap_keep (h0 : m .gln = false) (s : State) (t : Tap) :
    (State.setTap s t).keep m = s.keep m := by
  unfold State.setTap
  repeat' (first | (simp [h0]; done) | split | (refine (foldl_keep (fun s a => ?_) _ _).trans ?_) | (simp only [Prod.ext_iff] at *; casesm* _ ∧ _; subst_vars; simp [h0]; done) | (simp only [keeps_next]) | simp [h0])
@[simp] theorem State.loadIr_keep (h0 : m .acre = false) (h1 : m (.blk .BND) = false) (h2 : m (.blk .BT) = false) (h3
    : m (.blk .DRL) = false) (h4 : m (.blk .FUR) = false) (h5 : m (.blk .FURG) = false) (h6 : m (.blk .GLN) = false)
    (h7 : m (.blk .GRN) = false) (h8 : m (.blk .GRNG) = false) (h9 : m (.blk .HRW) = false) (h10 : m (.blk .HST) =
    false) (h11 : m (.blk .PWR) = false) (h12 : m (.blk .RV) = false) (h13 : m (.blk .SOW) = false) (h14 : m (.blk
    .SWT) = false) (h15 : m (.blk .SWTL) = false) (h16 : m (.blk .TLY) = false) (h17 : m (.blk .YK) = false) (h18 : m
    .bnd = false) (h19 : m .boot = false) (h20 : m .caches = false) (h21 : m .clk = false) (h22 : m .cores = false)
    (h23 : m .drill = false) (h24 : m .fresh = false) (h25 : m .gln = false) (h26 : m .granary = false) (h27 : m .host
    = false) (h28 : m .links = false) (h29 : m .loops = false) (h30 : m .reeve = false) (h31 : m .seedbox = false)
    (h32 : m .threads = false) (h33 : m .tiles = false) (h34 : m .vecs = false) (h35 : m .yoke = false) (s : State)
    (code : ℕ) :
    (State.loadIr s code).keep m = s.keep m := by simp [State.loadIr, *]
@[simp] theorem execTapReset_keep (h0 : m .acre = false) (h1 : m (.blk .BND) = false) (h2 : m (.blk .BT) = false) (h3
    : m (.blk .DRL) = false) (h4 : m (.blk .FUR) = false) (h5 : m (.blk .FURG) = false) (h6 : m (.blk .GLN) = false)
    (h7 : m (.blk .GRN) = false) (h8 : m (.blk .GRNG) = false) (h9 : m (.blk .HRW) = false) (h10 : m (.blk .HST) =
    false) (h11 : m (.blk .PWR) = false) (h12 : m (.blk .RV) = false) (h13 : m (.blk .SOW) = false) (h14 : m (.blk
    .SWT) = false) (h15 : m (.blk .SWTL) = false) (h16 : m (.blk .TLY) = false) (h17 : m (.blk .YK) = false) (h18 : m
    .bnd = false) (h19 : m .boot = false) (h20 : m .caches = false) (h21 : m .clk = false) (h22 : m .cores = false)
    (h23 : m .drill = false) (h24 : m .fresh = false) (h25 : m .gln = false) (h26 : m .granary = false) (h27 : m .host
    = false) (h28 : m .links = false) (h29 : m .loops = false) (h30 : m .reeve = false) (h31 : m .seedbox = false)
    (h32 : m .threads = false) (h33 : m .tiles = false) (h34 : m .vecs = false) (h35 : m .yoke = false) (s : State) :
    Keeps m s (execTapReset s) := by
  unfold execTapReset
  repeat' (first | (simp [h0, h1, h2, h3, h4, h5, h6, h7, h8, h9, h10, h11, h12, h13, h14, h15, h16, h17, h18, h19, h20, h21, h22, h23, h24, h25, h26, h27, h28, h29, h30, h31, h32, h33, h34, h35]; done) | split | (refine (foldl_keep (fun s a => ?_) _ _).trans ?_) | (simp only [Prod.ext_iff] at *; casesm* _ ∧ _; subst_vars; simp [h0, h1, h2, h3, h4, h5, h6, h7, h8, h9, h10, h11, h12, h13, h14, h15, h16, h17, h18, h19, h20, h21, h22, h23, h24, h25, h26, h27, h28, h29, h30, h31, h32, h33, h34, h35]; done) | (simp only [keeps_next]) | simp [h0, h1, h2, h3, h4, h5, h6, h7, h8, h9, h10, h11, h12, h13, h14, h15, h16, h17, h18, h19, h20, h21, h22, h23, h24, h25, h26, h27, h28, h29, h30, h31, h32, h33, h34, h35])
@[simp] theorem execExtest_keep (h0 : m .acre = false) (h1 : m (.blk .BND) = false) (h2 : m (.blk .BT) = false) (h3 :
    m (.blk .DRL) = false) (h4 : m (.blk .FUR) = false) (h5 : m (.blk .FURG) = false) (h6 : m (.blk .GLN) = false) (h7
    : m (.blk .GRN) = false) (h8 : m (.blk .GRNG) = false) (h9 : m (.blk .HRW) = false) (h10 : m (.blk .HST) = false)
    (h11 : m (.blk .PWR) = false) (h12 : m (.blk .RV) = false) (h13 : m (.blk .SOW) = false) (h14 : m (.blk .SWT) =
    false) (h15 : m (.blk .SWTL) = false) (h16 : m (.blk .TLY) = false) (h17 : m (.blk .YK) = false) (h18 : m .bnd =
    false) (h19 : m .boot = false) (h20 : m .caches = false) (h21 : m .clk = false) (h22 : m .cores = false) (h23 : m
    .drill = false) (h24 : m .fresh = false) (h25 : m .gln = false) (h26 : m .granary = false) (h27 : m .host = false)
    (h28 : m .links = false) (h29 : m .loops = false) (h30 : m .reeve = false) (h31 : m .seedbox = false) (h32 : m
    .threads = false) (h33 : m .tiles = false) (h34 : m .vecs = false) (h35 : m .yoke = false) (s : State) :
    Keeps m s (execExtest s) := by
  unfold execExtest
  repeat' (first | (simp [h0, h1, h2, h3, h4, h5, h6, h7, h8, h9, h10, h11, h12, h13, h14, h15, h16, h17, h18, h19, h20, h21, h22, h23, h24, h25, h26, h27, h28, h29, h30, h31, h32, h33, h34, h35]; done) | split | (refine (foldl_keep (fun s a => ?_) _ _).trans ?_) | (simp only [Prod.ext_iff] at *; casesm* _ ∧ _; subst_vars; simp [h0, h1, h2, h3, h4, h5, h6, h7, h8, h9, h10, h11, h12, h13, h14, h15, h16, h17, h18, h19, h20, h21, h22, h23, h24, h25, h26, h27, h28, h29, h30, h31, h32, h33, h34, h35]; done) | (simp only [keeps_next]) | simp [h0, h1, h2, h3, h4, h5, h6, h7, h8, h9, h10, h11, h12, h13, h14, h15, h16, h17, h18, h19, h20, h21, h22, h23, h24, h25, h26, h27, h28, h29, h30, h31, h32, h33, h34, h35])
@[simp] theorem execSamplePreload_keep (h0 : m .acre = false) (h1 : m (.blk .BND) = false) (h2 : m (.blk .BT) = false)
    (h3 : m (.blk .DRL) = false) (h4 : m (.blk .FUR) = false) (h5 : m (.blk .FURG) = false) (h6 : m (.blk .GLN) =
    false) (h7 : m (.blk .GRN) = false) (h8 : m (.blk .GRNG) = false) (h9 : m (.blk .HRW) = false) (h10 : m (.blk
    .HST) = false) (h11 : m (.blk .PWR) = false) (h12 : m (.blk .RV) = false) (h13 : m (.blk .SOW) = false) (h14 : m
    (.blk .SWT) = false) (h15 : m (.blk .SWTL) = false) (h16 : m (.blk .TLY) = false) (h17 : m (.blk .YK) = false)
    (h18 : m .bnd = false) (h19 : m .boot = false) (h20 : m .caches = false) (h21 : m .clk = false) (h22 : m .cores =
    false) (h23 : m .drill = false) (h24 : m .fresh = false) (h25 : m .gln = false) (h26 : m .granary = false) (h27 :
    m .host = false) (h28 : m .links = false) (h29 : m .loops = false) (h30 : m .reeve = false) (h31 : m .seedbox =
    false) (h32 : m .threads = false) (h33 : m .tiles = false) (h34 : m .vecs = false) (h35 : m .yoke = false) (s :
    State) :
    Keeps m s (execSamplePreload s) := by
  unfold execSamplePreload
  repeat' (first | (simp [h0, h1, h2, h3, h4, h5, h6, h7, h8, h9, h10, h11, h12, h13, h14, h15, h16, h17, h18, h19, h20, h21, h22, h23, h24, h25, h26, h27, h28, h29, h30, h31, h32, h33, h34, h35]; done) | split | (refine (foldl_keep (fun s a => ?_) _ _).trans ?_) | (simp only [Prod.ext_iff] at *; casesm* _ ∧ _; subst_vars; simp [h0, h1, h2, h3, h4, h5, h6, h7, h8, h9, h10, h11, h12, h13, h14, h15, h16, h17, h18, h19, h20, h21, h22, h23, h24, h25, h26, h27, h28, h29, h30, h31, h32, h33, h34, h35]; done) | (simp only [keeps_next]) | simp [h0, h1, h2, h3, h4, h5, h6, h7, h8, h9, h10, h11, h12, h13, h14, h15, h16, h17, h18, h19, h20, h21, h22, h23, h24, h25, h26, h27, h28, h29, h30, h31, h32, h33, h34, h35])
@[simp] theorem execIdcode_keep (h0 : m .acre = false) (h1 : m (.blk .BND) = false) (h2 : m (.blk .BT) = false) (h3 :
    m (.blk .DRL) = false) (h4 : m (.blk .FUR) = false) (h5 : m (.blk .FURG) = false) (h6 : m (.blk .GLN) = false) (h7
    : m (.blk .GRN) = false) (h8 : m (.blk .GRNG) = false) (h9 : m (.blk .HRW) = false) (h10 : m (.blk .HST) = false)
    (h11 : m (.blk .PWR) = false) (h12 : m (.blk .RV) = false) (h13 : m (.blk .SOW) = false) (h14 : m (.blk .SWT) =
    false) (h15 : m (.blk .SWTL) = false) (h16 : m (.blk .TLY) = false) (h17 : m (.blk .YK) = false) (h18 : m .bnd =
    false) (h19 : m .boot = false) (h20 : m .caches = false) (h21 : m .clk = false) (h22 : m .cores = false) (h23 : m
    .drill = false) (h24 : m .fresh = false) (h25 : m .gln = false) (h26 : m .granary = false) (h27 : m .host = false)
    (h28 : m .links = false) (h29 : m .loops = false) (h30 : m .reeve = false) (h31 : m .seedbox = false) (h32 : m
    .threads = false) (h33 : m .tiles = false) (h34 : m .vecs = false) (h35 : m .yoke = false) (s : State) :
    Keeps m s (execIdcode s) := by
  unfold execIdcode
  repeat' (first | (simp [h0, h1, h2, h3, h4, h5, h6, h7, h8, h9, h10, h11, h12, h13, h14, h15, h16, h17, h18, h19, h20, h21, h22, h23, h24, h25, h26, h27, h28, h29, h30, h31, h32, h33, h34, h35]; done) | split | (refine (foldl_keep (fun s a => ?_) _ _).trans ?_) | (simp only [Prod.ext_iff] at *; casesm* _ ∧ _; subst_vars; simp [h0, h1, h2, h3, h4, h5, h6, h7, h8, h9, h10, h11, h12, h13, h14, h15, h16, h17, h18, h19, h20, h21, h22, h23, h24, h25, h26, h27, h28, h29, h30, h31, h32, h33, h34, h35]; done) | (simp only [keeps_next]) | simp [h0, h1, h2, h3, h4, h5, h6, h7, h8, h9, h10, h11, h12, h13, h14, h15, h16, h17, h18, h19, h20, h21, h22, h23, h24, h25, h26, h27, h28, h29, h30, h31, h32, h33, h34, h35])
@[simp] theorem execClamp_keep (h0 : m .acre = false) (h1 : m (.blk .BND) = false) (h2 : m (.blk .BT) = false) (h3 : m
    (.blk .DRL) = false) (h4 : m (.blk .FUR) = false) (h5 : m (.blk .FURG) = false) (h6 : m (.blk .GLN) = false) (h7 :
    m (.blk .GRN) = false) (h8 : m (.blk .GRNG) = false) (h9 : m (.blk .HRW) = false) (h10 : m (.blk .HST) = false)
    (h11 : m (.blk .PWR) = false) (h12 : m (.blk .RV) = false) (h13 : m (.blk .SOW) = false) (h14 : m (.blk .SWT) =
    false) (h15 : m (.blk .SWTL) = false) (h16 : m (.blk .TLY) = false) (h17 : m (.blk .YK) = false) (h18 : m .bnd =
    false) (h19 : m .boot = false) (h20 : m .caches = false) (h21 : m .clk = false) (h22 : m .cores = false) (h23 : m
    .drill = false) (h24 : m .fresh = false) (h25 : m .gln = false) (h26 : m .granary = false) (h27 : m .host = false)
    (h28 : m .links = false) (h29 : m .loops = false) (h30 : m .reeve = false) (h31 : m .seedbox = false) (h32 : m
    .threads = false) (h33 : m .tiles = false) (h34 : m .vecs = false) (h35 : m .yoke = false) (s : State) :
    Keeps m s (execClamp s) := by
  unfold execClamp
  repeat' (first | (simp [h0, h1, h2, h3, h4, h5, h6, h7, h8, h9, h10, h11, h12, h13, h14, h15, h16, h17, h18, h19, h20, h21, h22, h23, h24, h25, h26, h27, h28, h29, h30, h31, h32, h33, h34, h35]; done) | split | (refine (foldl_keep (fun s a => ?_) _ _).trans ?_) | (simp only [Prod.ext_iff] at *; casesm* _ ∧ _; subst_vars; simp [h0, h1, h2, h3, h4, h5, h6, h7, h8, h9, h10, h11, h12, h13, h14, h15, h16, h17, h18, h19, h20, h21, h22, h23, h24, h25, h26, h27, h28, h29, h30, h31, h32, h33, h34, h35]; done) | (simp only [keeps_next]) | simp [h0, h1, h2, h3, h4, h5, h6, h7, h8, h9, h10, h11, h12, h13, h14, h15, h16, h17, h18, h19, h20, h21, h22, h23, h24, h25, h26, h27, h28, h29, h30, h31, h32, h33, h34, h35])
@[simp] theorem execHighz_keep (h0 : m .acre = false) (h1 : m (.blk .BND) = false) (h2 : m (.blk .BT) = false) (h3 : m
    (.blk .DRL) = false) (h4 : m (.blk .FUR) = false) (h5 : m (.blk .FURG) = false) (h6 : m (.blk .GLN) = false) (h7 :
    m (.blk .GRN) = false) (h8 : m (.blk .GRNG) = false) (h9 : m (.blk .HRW) = false) (h10 : m (.blk .HST) = false)
    (h11 : m (.blk .PWR) = false) (h12 : m (.blk .RV) = false) (h13 : m (.blk .SOW) = false) (h14 : m (.blk .SWT) =
    false) (h15 : m (.blk .SWTL) = false) (h16 : m (.blk .TLY) = false) (h17 : m (.blk .YK) = false) (h18 : m .bnd =
    false) (h19 : m .boot = false) (h20 : m .caches = false) (h21 : m .clk = false) (h22 : m .cores = false) (h23 : m
    .drill = false) (h24 : m .fresh = false) (h25 : m .gln = false) (h26 : m .granary = false) (h27 : m .host = false)
    (h28 : m .links = false) (h29 : m .loops = false) (h30 : m .reeve = false) (h31 : m .seedbox = false) (h32 : m
    .threads = false) (h33 : m .tiles = false) (h34 : m .vecs = false) (h35 : m .yoke = false) (s : State) :
    Keeps m s (execHighz s) := by
  unfold execHighz
  repeat' (first | (simp [h0, h1, h2, h3, h4, h5, h6, h7, h8, h9, h10, h11, h12, h13, h14, h15, h16, h17, h18, h19, h20, h21, h22, h23, h24, h25, h26, h27, h28, h29, h30, h31, h32, h33, h34, h35]; done) | split | (refine (foldl_keep (fun s a => ?_) _ _).trans ?_) | (simp only [Prod.ext_iff] at *; casesm* _ ∧ _; subst_vars; simp [h0, h1, h2, h3, h4, h5, h6, h7, h8, h9, h10, h11, h12, h13, h14, h15, h16, h17, h18, h19, h20, h21, h22, h23, h24, h25, h26, h27, h28, h29, h30, h31, h32, h33, h34, h35]; done) | (simp only [keeps_next]) | simp [h0, h1, h2, h3, h4, h5, h6, h7, h8, h9, h10, h11, h12, h13, h14, h15, h16, h17, h18, h19, h20, h21, h22, h23, h24, h25, h26, h27, h28, h29, h30, h31, h32, h33, h34, h35])
@[simp] theorem execBypass_keep (h0 : m .acre = false) (h1 : m (.blk .BND) = false) (h2 : m (.blk .BT) = false) (h3 :
    m (.blk .DRL) = false) (h4 : m (.blk .FUR) = false) (h5 : m (.blk .FURG) = false) (h6 : m (.blk .GLN) = false) (h7
    : m (.blk .GRN) = false) (h8 : m (.blk .GRNG) = false) (h9 : m (.blk .HRW) = false) (h10 : m (.blk .HST) = false)
    (h11 : m (.blk .PWR) = false) (h12 : m (.blk .RV) = false) (h13 : m (.blk .SOW) = false) (h14 : m (.blk .SWT) =
    false) (h15 : m (.blk .SWTL) = false) (h16 : m (.blk .TLY) = false) (h17 : m (.blk .YK) = false) (h18 : m .bnd =
    false) (h19 : m .boot = false) (h20 : m .caches = false) (h21 : m .clk = false) (h22 : m .cores = false) (h23 : m
    .drill = false) (h24 : m .fresh = false) (h25 : m .gln = false) (h26 : m .granary = false) (h27 : m .host = false)
    (h28 : m .links = false) (h29 : m .loops = false) (h30 : m .reeve = false) (h31 : m .seedbox = false) (h32 : m
    .threads = false) (h33 : m .tiles = false) (h34 : m .vecs = false) (h35 : m .yoke = false) (code : BitVec 8) (s :
    State) :
    Keeps m s (execBypass code s) := by
  unfold execBypass
  repeat' (first | (simp [h0, h1, h2, h3, h4, h5, h6, h7, h8, h9, h10, h11, h12, h13, h14, h15, h16, h17, h18, h19, h20, h21, h22, h23, h24, h25, h26, h27, h28, h29, h30, h31, h32, h33, h34, h35]; done) | split | (refine (foldl_keep (fun s a => ?_) _ _).trans ?_) | (simp only [Prod.ext_iff] at *; casesm* _ ∧ _; subst_vars; simp [h0, h1, h2, h3, h4, h5, h6, h7, h8, h9, h10, h11, h12, h13, h14, h15, h16, h17, h18, h19, h20, h21, h22, h23, h24, h25, h26, h27, h28, h29, h30, h31, h32, h33, h34, h35]; done) | (simp only [keeps_next]) | simp [h0, h1, h2, h3, h4, h5, h6, h7, h8, h9, h10, h11, h12, h13, h14, h15, h16, h17, h18, h19, h20, h21, h22, h23, h24, h25, h26, h27, h28, h29, h30, h31, h32, h33, h34, h35])
@[simp] theorem execBoundaryExitReset_keep (h0 : m .acre = false) (h1 : m (.blk .BND) = false) (h2 : m (.blk .BT) =
    false) (h3 : m (.blk .DRL) = false) (h4 : m (.blk .FUR) = false) (h5 : m (.blk .FURG) = false) (h6 : m (.blk .GLN)
    = false) (h7 : m (.blk .GRN) = false) (h8 : m (.blk .GRNG) = false) (h9 : m (.blk .HRW) = false) (h10 : m (.blk
    .HST) = false) (h11 : m (.blk .PWR) = false) (h12 : m (.blk .RV) = false) (h13 : m (.blk .SOW) = false) (h14 : m
    (.blk .SWT) = false) (h15 : m (.blk .SWTL) = false) (h16 : m (.blk .TLY) = false) (h17 : m (.blk .YK) = false)
    (h18 : m .bnd = false) (h19 : m .boot = false) (h20 : m .caches = false) (h21 : m .clk = false) (h22 : m .cores =
    false) (h23 : m .drill = false) (h24 : m .fresh = false) (h25 : m .gln = false) (h26 : m .granary = false) (h27 :
    m .host = false) (h28 : m .links = false) (h29 : m .loops = false) (h30 : m .reeve = false) (h31 : m .seedbox =
    false) (h32 : m .threads = false) (h33 : m .tiles = false) (h34 : m .vecs = false) (h35 : m .yoke = false) (code :
    BitVec 8) (s : State) :
    Keeps m s (execBoundaryExitReset code s) := by
  unfold execBoundaryExitReset
  repeat' (first | (simp [h0, h1, h2, h3, h4, h5, h6, h7, h8, h9, h10, h11, h12, h13, h14, h15, h16, h17, h18, h19, h20, h21, h22, h23, h24, h25, h26, h27, h28, h29, h30, h31, h32, h33, h34, h35]; done) | split | (refine (foldl_keep (fun s a => ?_) _ _).trans ?_) | (simp only [Prod.ext_iff] at *; casesm* _ ∧ _; subst_vars; simp [h0, h1, h2, h3, h4, h5, h6, h7, h8, h9, h10, h11, h12, h13, h14, h15, h16, h17, h18, h19, h20, h21, h22, h23, h24, h25, h26, h27, h28, h29, h30, h31, h32, h33, h34, h35]; done) | (simp only [keeps_next]) | simp [h0, h1, h2, h3, h4, h5, h6, h7, h8, h9, h10, h11, h12, h13, h14, h15, h16, h17, h18, h19, h20, h21, h22, h23, h24, h25, h26, h27, h28, h29, h30, h31, h32, h33, h34, h35])
@[simp] theorem State.tapStart_keep (h0 : m .gln = false) (s : State) (v : ℕ) :
    (State.tapStart s v).keep m = s.keep m := by
  unfold State.tapStart
  repeat' (first | (simp [h0]; done) | split | (refine (foldl_keep (fun s a => ?_) _ _).trans ?_) | (simp only [Prod.ext_iff] at *; casesm* _ ∧ _; subst_vars; simp [h0]; done) | (simp only [keeps_next]) | simp [h0])
@[simp] theorem execDbgaddr_keep (h0 : m .acre = false) (h1 : m (.blk .BND) = false) (h2 : m (.blk .BT) = false) (h3 :
    m (.blk .DRL) = false) (h4 : m (.blk .FUR) = false) (h5 : m (.blk .FURG) = false) (h6 : m (.blk .GLN) = false) (h7
    : m (.blk .GRN) = false) (h8 : m (.blk .GRNG) = false) (h9 : m (.blk .HRW) = false) (h10 : m (.blk .HST) = false)
    (h11 : m (.blk .PWR) = false) (h12 : m (.blk .RV) = false) (h13 : m (.blk .SOW) = false) (h14 : m (.blk .SWT) =
    false) (h15 : m (.blk .SWTL) = false) (h16 : m (.blk .TLY) = false) (h17 : m (.blk .YK) = false) (h18 : m .bnd =
    false) (h19 : m .boot = false) (h20 : m .caches = false) (h21 : m .clk = false) (h22 : m .cores = false) (h23 : m
    .drill = false) (h24 : m .fresh = false) (h25 : m .gln = false) (h26 : m .granary = false) (h27 : m .host = false)
    (h28 : m .links = false) (h29 : m .loops = false) (h30 : m .reeve = false) (h31 : m .seedbox = false) (h32 : m
    .threads = false) (h33 : m .tiles = false) (h34 : m .vecs = false) (h35 : m .yoke = false) (v : BitVec 64) (s :
    State) :
    Keeps m s (execDbgaddr v s) := by
  unfold execDbgaddr
  repeat' (first | (simp [h0, h1, h2, h3, h4, h5, h6, h7, h8, h9, h10, h11, h12, h13, h14, h15, h16, h17, h18, h19, h20, h21, h22, h23, h24, h25, h26, h27, h28, h29, h30, h31, h32, h33, h34, h35]; done) | split | (refine (foldl_keep (fun s a => ?_) _ _).trans ?_) | (simp only [Prod.ext_iff] at *; casesm* _ ∧ _; subst_vars; simp [h0, h1, h2, h3, h4, h5, h6, h7, h8, h9, h10, h11, h12, h13, h14, h15, h16, h17, h18, h19, h20, h21, h22, h23, h24, h25, h26, h27, h28, h29, h30, h31, h32, h33, h34, h35]; done) | (simp only [keeps_next]) | simp [h0, h1, h2, h3, h4, h5, h6, h7, h8, h9, h10, h11, h12, h13, h14, h15, h16, h17, h18, h19, h20, h21, h22, h23, h24, h25, h26, h27, h28, h29, h30, h31, h32, h33, h34, h35])
@[simp] theorem execDbgdata_keep (h0 : m .acre = false) (h1 : m (.blk .BND) = false) (h2 : m (.blk .BT) = false) (h3 :
    m (.blk .DRL) = false) (h4 : m (.blk .FUR) = false) (h5 : m (.blk .FURG) = false) (h6 : m (.blk .GLN) = false) (h7
    : m (.blk .GRN) = false) (h8 : m (.blk .GRNG) = false) (h9 : m (.blk .HRW) = false) (h10 : m (.blk .HST) = false)
    (h11 : m (.blk .PWR) = false) (h12 : m (.blk .RV) = false) (h13 : m (.blk .SOW) = false) (h14 : m (.blk .SWT) =
    false) (h15 : m (.blk .SWTL) = false) (h16 : m (.blk .TLY) = false) (h17 : m (.blk .YK) = false) (h18 : m .bnd =
    false) (h19 : m .boot = false) (h20 : m .caches = false) (h21 : m .clk = false) (h22 : m .cores = false) (h23 : m
    .drill = false) (h24 : m .fresh = false) (h25 : m .gln = false) (h26 : m .granary = false) (h27 : m .host = false)
    (h28 : m .links = false) (h29 : m .loops = false) (h30 : m .reeve = false) (h31 : m .seedbox = false) (h32 : m
    .threads = false) (h33 : m .tiles = false) (h34 : m .vecs = false) (h35 : m .yoke = false) (v : BitVec 66) (s :
    State) :
    Keeps m s (execDbgdata v s) := by
  unfold execDbgdata
  repeat' (first | (simp [h0, h1, h2, h3, h4, h5, h6, h7, h8, h9, h10, h11, h12, h13, h14, h15, h16, h17, h18, h19, h20, h21, h22, h23, h24, h25, h26, h27, h28, h29, h30, h31, h32, h33, h34, h35]; done) | split | (refine (foldl_keep (fun s a => ?_) _ _).trans ?_) | (simp only [Prod.ext_iff] at *; casesm* _ ∧ _; subst_vars; simp [h0, h1, h2, h3, h4, h5, h6, h7, h8, h9, h10, h11, h12, h13, h14, h15, h16, h17, h18, h19, h20, h21, h22, h23, h24, h25, h26, h27, h28, h29, h30, h31, h32, h33, h34, h35]; done) | (simp only [keeps_next]) | simp [h0, h1, h2, h3, h4, h5, h6, h7, h8, h9, h10, h11, h12, h13, h14, h15, h16, h17, h18, h19, h20, h21, h22, h23, h24, h25, h26, h27, h28, h29, h30, h31, h32, h33, h34, h35])
@[simp] theorem State.tapRead_keep (h0 : m (.blk .GRN) = false) (h1 : m (.blk .RV) = false) (h2 : m .caches = false)
    (h3 : m .clk = false) (h4 : m .fresh = false) (h5 : m .reeve = false) (s : State) (pa : ℕ) (n : ℕ) :
    (State.tapRead s pa n).2.keep m = s.keep m := by simp only [State.tapRead]; (repeat' split) <;> simp [*]
@[simp] theorem State.tapWrite_keep (h0 : m .acre = false) (h1 : m (.blk .BND) = false) (h2 : m (.blk .BT) = false)
    (h3 : m (.blk .CLK) = false) (h4 : m (.blk .DRL) = false) (h5 : m (.blk .FUR) = false) (h6 : m (.blk .FURG) =
    false) (h7 : m (.blk .GLN) = false) (h8 : m (.blk .GRN) = false) (h9 : m (.blk .GRNG) = false) (h10 : m (.blk
    .HRW) = false) (h11 : m (.blk .HST) = false) (h12 : m (.blk .PWR) = false) (h13 : m (.blk .RV) = false) (h14 : m
    (.blk .SOW) = false) (h15 : m (.blk .SWT) = false) (h16 : m (.blk .SWTL) = false) (h17 : m (.blk .TLY) = false)
    (h18 : m (.blk .YK) = false) (h19 : m .bnd = false) (h20 : m .boot = false) (h21 : m .caches = false) (h22 : m
    .clk = false) (h23 : m .cores = false) (h24 : m .drill = false) (h25 : m .fresh = false) (h26 : m .gln = false)
    (h27 : m .granary = false) (h28 : m .host = false) (h29 : m .links = false) (h30 : m .loops = false) (h31 : m .mem
    = false) (h32 : m .reeve = false) (h33 : m .seedbox = false) (h34 : m .sent = false) (h35 : m .threads = false)
    (h36 : m .tiles = false) (h37 : m .vecs = false) (h38 : m .yoke = false) (s : State) (pa : ℕ) (n : ℕ) (v : ℕ) :
    (State.tapWrite s pa n v).2.keep m = s.keep m := by simp only [State.tapWrite]; (repeat' split) <;> simp [*]
@[simp] theorem State.tapEnds_keep (h0 : m .gln = false) (s : State) (r : TapRes) :
    (State.tapEnds s r).keep m = s.keep m := by simp only [State.tapEnds]; (repeat' split) <;> simp [*]
@[simp] theorem State.tapGoes_keep (h0 : m .acre = false) (h1 : m (.blk .BND) = false) (h2 : m (.blk .BT) = false) (h3
    : m (.blk .CLK) = false) (h4 : m (.blk .DRL) = false) (h5 : m (.blk .FUR) = false) (h6 : m (.blk .FURG) = false)
    (h7 : m (.blk .GLN) = false) (h8 : m (.blk .GRN) = false) (h9 : m (.blk .GRNG) = false) (h10 : m (.blk .HRW) =
    false) (h11 : m (.blk .HST) = false) (h12 : m (.blk .PWR) = false) (h13 : m (.blk .RV) = false) (h14 : m (.blk
    .SOW) = false) (h15 : m (.blk .SWT) = false) (h16 : m (.blk .SWTL) = false) (h17 : m (.blk .TLY) = false) (h18 : m
    (.blk .YK) = false) (h19 : m .bnd = false) (h20 : m .boot = false) (h21 : m .caches = false) (h22 : m .clk =
    false) (h23 : m .cores = false) (h24 : m .drill = false) (h25 : m .fresh = false) (h26 : m .gln = false) (h27 : m
    .granary = false) (h28 : m .host = false) (h29 : m .links = false) (h30 : m .loops = false) (h31 : m .mem = false)
    (h32 : m .reeve = false) (h33 : m .seedbox = false) (h34 : m .sent = false) (h35 : m .threads = false) (h36 : m
    .tiles = false) (h37 : m .vecs = false) (h38 : m .yoke = false) (s : State) :
    (State.tapGoes s).keep m = s.keep m := by
  unfold State.tapGoes
  repeat' (first | (simp [h0, h1, h2, h3, h4, h5, h6, h7, h8, h9, h10, h11, h12, h13, h14, h15, h16, h17, h18, h19, h20, h21, h22, h23, h24, h25, h26, h27, h28, h29, h30, h31, h32, h33, h34, h35, h36, h37, h38]; done) | split | (refine (foldl_keep (fun s a => ?_) _ _).trans ?_) | (simp only [Prod.ext_iff] at *; casesm* _ ∧ _; subst_vars; simp [h0, h1, h2, h3, h4, h5, h6, h7, h8, h9, h10, h11, h12, h13, h14, h15, h16, h17, h18, h19, h20, h21, h22, h23, h24, h25, h26, h27, h28, h29, h30, h31, h32, h33, h34, h35, h36, h37, h38]; done) | (simp only [keeps_next]) | simp [h0, h1, h2, h3, h4, h5, h6, h7, h8, h9, h10, h11, h12, h13, h14, h15, h16, h17, h18, h19, h20, h21, h22, h23, h24, h25, h26, h27, h28, h29, h30, h31, h32, h33, h34, h35, h36, h37, h38])
@[simp] theorem execDebugAccessDone_keep (h0 : m .acre = false) (h1 : m (.blk .BND) = false) (h2 : m (.blk .BT) =
    false) (h3 : m (.blk .CLK) = false) (h4 : m (.blk .DRL) = false) (h5 : m (.blk .FUR) = false) (h6 : m (.blk .FURG)
    = false) (h7 : m (.blk .GLN) = false) (h8 : m (.blk .GRN) = false) (h9 : m (.blk .GRNG) = false) (h10 : m (.blk
    .HRW) = false) (h11 : m (.blk .HST) = false) (h12 : m (.blk .PWR) = false) (h13 : m (.blk .RV) = false) (h14 : m
    (.blk .SOW) = false) (h15 : m (.blk .SWT) = false) (h16 : m (.blk .SWTL) = false) (h17 : m (.blk .TLY) = false)
    (h18 : m (.blk .YK) = false) (h19 : m .bnd = false) (h20 : m .boot = false) (h21 : m .caches = false) (h22 : m
    .clk = false) (h23 : m .cores = false) (h24 : m .drill = false) (h25 : m .fresh = false) (h26 : m .gln = false)
    (h27 : m .granary = false) (h28 : m .host = false) (h29 : m .links = false) (h30 : m .loops = false) (h31 : m .mem
    = false) (h32 : m .reeve = false) (h33 : m .seedbox = false) (h34 : m .sent = false) (h35 : m .threads = false)
    (h36 : m .tiles = false) (h37 : m .vecs = false) (h38 : m .yoke = false) (res : MemRes) (s : State) :
    Keeps m s (execDebugAccessDone res s) := by simp [execDebugAccessDone, *]

end Sys2Proof.Machine
end

