-- ==== Sys2Proof/Laws/KeepHeld.lean ====
section
/-! SUPPORT. What the operations and commands of Machine/Held.lean keep: each changes only the facets
named in its hypotheses (`State.keep`). -/

namespace Sys2Proof.Machine

variable {m : Facet → Bool}


@[simp] theorem State.serveDrain_keep (h0 : m (.blk .FUR) = false) (h1 : m (.blk .GRN) = false) (h2 : m (.blk .RV) =
    false) (h3 : m (.blk .TLY) = false) (h4 : m .caches = false) (h5 : m .cores = false) (h6 : m .granary = false) (h7
    : m .mem = false) (h8 : m .reeve = false) (h9 : m .seedbox = false) (h10 : m .threads = false) (s : State) (n : ℕ)
    (num : ℕ) :
    (State.serveDrain s n num).keep m = s.keep m := by simp only [State.serveDrain]; (repeat' split) <;> simp [*]
@[simp] theorem State.serveSeg_keep (h0 : m (.blk .FUR) = false) (h1 : m (.blk .GRN) = false) (h2 : m (.blk .RV) =
    false) (h3 : m (.blk .TLY) = false) (h4 : m .caches = false) (h5 : m .cores = false) (h6 : m .fresh = false) (h7 :
    m .granary = false) (h8 : m .mem = false) (h9 : m .reeve = false) (h10 : m .seedbox = false) (h11 : m .threads =
    false) (h12 : m .tiles = false) (s : State) (n : ℕ) (seq : ℕ) (j : ℕ) :
    (State.serveSeg s n seq j).keep m = s.keep m := by simp only [State.serveSeg]; (repeat' split) <;> simp [*]
@[simp] theorem State.serveOne_keep (h0 : m .acre = false) (h1 : m (.blk .BND) = false) (h2 : m (.blk .BT) = false)
    (h3 : m (.blk .CLK) = false) (h4 : m (.blk .DRL) = false) (h5 : m (.blk .FUR) = false) (h6 : m (.blk .FURG) =
    false) (h7 : m (.blk .GLN) = false) (h8 : m (.blk .GRN) = false) (h9 : m (.blk .GRNG) = false) (h10 : m (.blk
    .HRW) = false) (h11 : m (.blk .HST) = false) (h12 : m (.blk .PWR) = false) (h13 : m (.blk .RV) = false) (h14 : m
    (.blk .SOW) = false) (h15 : m (.blk .SWT) = false) (h16 : m (.blk .SWTL) = false) (h17 : m (.blk .TLY) = false)
    (h18 : m (.blk .YK) = false) (h19 : m .bnd = false) (h20 : m .boot = false) (h21 : m .caches = false) (h22 : m
    .clk = false) (h23 : m .cores = false) (h24 : m .drill = false) (h25 : m .fresh = false) (h26 : m .gln = false)
    (h27 : m .granary = false) (h28 : m .host = false) (h29 : m .links = false) (h30 : m .loops = false) (h31 : m .mem
    = false) (h32 : m .reeve = false) (h33 : m .seedbox = false) (h34 : m .sent = false) (h35 : m .threads = false)
    (h36 : m .tiles = false) (h37 : m .vecs = false) (h38 : m .yoke = false) (s : State) (c : ℕ) (x : Held) :
    (State.serveOne s c x).keep m = s.keep m := by
  unfold State.serveOne
  repeat' (first | (simp [h0, h1, h2, h3, h4, h5, h6, h7, h8, h9, h10, h11, h12, h13, h14, h15, h16, h17, h18, h19, h20, h21, h22, h23, h24, h25, h26, h27, h28, h29, h30, h31, h32, h33, h34, h35, h36, h37, h38]; done) | split | (refine (foldl_keep (fun s a => ?_) _ _).trans ?_) | (simp only [Prod.ext_iff] at *; casesm* _ ∧ _; subst_vars; simp [h0, h1, h2, h3, h4, h5, h6, h7, h8, h9, h10, h11, h12, h13, h14, h15, h16, h17, h18, h19, h20, h21, h22, h23, h24, h25, h26, h27, h28, h29, h30, h31, h32, h33, h34, h35, h36, h37, h38]; done) | (simp only [keeps_next]) | simp [h0, h1, h2, h3, h4, h5, h6, h7, h8, h9, h10, h11, h12, h13, h14, h15, h16, h17, h18, h19, h20, h21, h22, h23, h24, h25, h26, h27, h28, h29, h30, h31, h32, h33, h34, h35, h36, h37, h38])
@[simp] theorem State.serveHeld_keep (h0 : m .acre = false) (h1 : m (.blk .BND) = false) (h2 : m (.blk .BT) = false)
    (h3 : m (.blk .CLK) = false) (h4 : m (.blk .DRL) = false) (h5 : m (.blk .FUR) = false) (h6 : m (.blk .FURG) =
    false) (h7 : m (.blk .GLN) = false) (h8 : m (.blk .GRN) = false) (h9 : m (.blk .GRNG) = false) (h10 : m (.blk
    .HRW) = false) (h11 : m (.blk .HST) = false) (h12 : m (.blk .PWR) = false) (h13 : m (.blk .RV) = false) (h14 : m
    (.blk .SOW) = false) (h15 : m (.blk .SWT) = false) (h16 : m (.blk .SWTL) = false) (h17 : m (.blk .TLY) = false)
    (h18 : m (.blk .YK) = false) (h19 : m .bnd = false) (h20 : m .boot = false) (h21 : m .caches = false) (h22 : m
    .clk = false) (h23 : m .cores = false) (h24 : m .drill = false) (h25 : m .fresh = false) (h26 : m .gln = false)
    (h27 : m .granary = false) (h28 : m .host = false) (h29 : m .links = false) (h30 : m .loops = false) (h31 : m .mem
    = false) (h32 : m .reeve = false) (h33 : m .seedbox = false) (h34 : m .sent = false) (h35 : m .threads = false)
    (h36 : m .tiles = false) (h37 : m .vecs = false) (h38 : m .yoke = false) (s : State) (c : ℕ) :
    (State.serveHeld s c).keep m = s.keep m := by simp [State.serveHeld, *]
@[simp] theorem State.yieldSlots_keep (h0 : m (.blk .GRN) = false) (h1 : m .fresh = false) (h2 : m .granary = false)
    (s : State) (c : ℕ) :
    (State.yieldSlots s c).keep m = s.keep m := by simp [State.yieldSlots, *]
@[simp] theorem execYield_keep (h0 : m .acre = false) (h1 : m (.blk .BND) = false) (h2 : m (.blk .BT) = false) (h3 : m
    (.blk .CLK) = false) (h4 : m (.blk .DRL) = false) (h5 : m (.blk .FUR) = false) (h6 : m (.blk .FURG) = false) (h7 :
    m (.blk .GLN) = false) (h8 : m (.blk .GRN) = false) (h9 : m (.blk .GRNG) = false) (h10 : m (.blk .HRW) = false)
    (h11 : m (.blk .HST) = false) (h12 : m (.blk .PWR) = false) (h13 : m (.blk .RV) = false) (h14 : m (.blk .SOW) =
    false) (h15 : m (.blk .SWT) = false) (h16 : m (.blk .SWTL) = false) (h17 : m (.blk .TLY) = false) (h18 : m (.blk
    .YK) = false) (h19 : m .bnd = false) (h20 : m .boot = false) (h21 : m .caches = false) (h22 : m .clk = false) (h23
    : m .cores = false) (h24 : m .drill = false) (h25 : m .fresh = false) (h26 : m .gln = false) (h27 : m .granary =
    false) (h28 : m .host = false) (h29 : m .links = false) (h30 : m .loops = false) (h31 : m .mem = false) (h32 : m
    .reeve = false) (h33 : m .seedbox = false) (h34 : m .sent = false) (h35 : m .threads = false) (h36 : m .tiles =
    false) (h37 : m .vecs = false) (h38 : m .yoke = false) (c : Chan) (res : MemRes) (s : State) :
    Keeps m s (execYield c res s) := by
  unfold execYield
  repeat' (first | (simp [*]; done) | split | (refine (foldl_keep (fun s a => ?_) _ _).trans ?_) | (apply State.tillInstr_keep <;> (first | (simp only [h0, h1, h2, h3, h4, h5, h6, h7, h8, h9, h10, h11, h12, h13, h14, h15, h16, h17, h18, h19, h20, h21, h22, h23, h24, h25, h26, h27, h28, h29, h30, h31, h32, h33, h34, h35, h36, h37, h38]; done) | (intros; dsimp only) | intros)) | (apply State.withRes_keep <;> (first | (simp only [h0, h1, h2, h3, h4, h5, h6, h7, h8, h9, h10, h11, h12, h13, h14, h15, h16, h17, h18, h19, h20, h21, h22, h23, h24, h25, h26, h27, h28, h29, h30, h31, h32, h33, h34, h35, h36, h37, h38]; done) | (intros; dsimp only) | intros)) | (simp only [Prod.ext_iff] at *; casesm* _ ∧ _; subst_vars; simp [*]; done) | (simp only [keeps_next]) | simp [*])
@[simp] theorem State.serveEnded_keep (h0 : m .acre = false) (h1 : m (.blk .BND) = false) (h2 : m (.blk .BT) = false)
    (h3 : m (.blk .CLK) = false) (h4 : m (.blk .DRL) = false) (h5 : m (.blk .FUR) = false) (h6 : m (.blk .FURG) =
    false) (h7 : m (.blk .GLN) = false) (h8 : m (.blk .GRN) = false) (h9 : m (.blk .GRNG) = false) (h10 : m (.blk
    .HRW) = false) (h11 : m (.blk .HST) = false) (h12 : m (.blk .PWR) = false) (h13 : m (.blk .RV) = false) (h14 : m
    (.blk .SOW) = false) (h15 : m (.blk .SWT) = false) (h16 : m (.blk .SWTL) = false) (h17 : m (.blk .TLY) = false)
    (h18 : m (.blk .YK) = false) (h19 : m .bnd = false) (h20 : m .boot = false) (h21 : m .caches = false) (h22 : m
    .clk = false) (h23 : m .cores = false) (h24 : m .drill = false) (h25 : m .fresh = false) (h26 : m .gln = false)
    (h27 : m .granary = false) (h28 : m .host = false) (h29 : m .links = false) (h30 : m .loops = false) (h31 : m .mem
    = false) (h32 : m .reeve = false) (h33 : m .seedbox = false) (h34 : m .sent = false) (h35 : m .threads = false)
    (h36 : m .tiles = false) (h37 : m .vecs = false) (h38 : m .yoke = false) (s : State) (e : ℕ) :
    (State.serveEnded s e).keep m = s.keep m := by unfold State.serveEnded; (repeat' split) <;> simp [*]
@[simp] theorem execEndReport_keep (h0 : m .acre = false) (h1 : m (.blk .BND) = false) (h2 : m (.blk .BT) = false) (h3
    : m (.blk .CLK) = false) (h4 : m (.blk .DRL) = false) (h5 : m (.blk .FUR) = false) (h6 : m (.blk .FURG) = false)
    (h7 : m (.blk .GLN) = false) (h8 : m (.blk .GRN) = false) (h9 : m (.blk .GRNG) = false) (h10 : m (.blk .HRW) =
    false) (h11 : m (.blk .HST) = false) (h12 : m (.blk .PWR) = false) (h13 : m (.blk .RV) = false) (h14 : m (.blk
    .SOW) = false) (h15 : m (.blk .SWT) = false) (h16 : m (.blk .SWTL) = false) (h17 : m (.blk .TLY) = false) (h18 : m
    (.blk .YK) = false) (h19 : m .bnd = false) (h20 : m .boot = false) (h21 : m .caches = false) (h22 : m .clk =
    false) (h23 : m .cores = false) (h24 : m .drill = false) (h25 : m .fresh = false) (h26 : m .gln = false) (h27 : m
    .granary = false) (h28 : m .host = false) (h29 : m .isl = false) (h30 : m .links = false) (h31 : m .loops = false)
    (h32 : m .mem = false) (h33 : m .reeve = false) (h34 : m .seedbox = false) (h35 : m .sent = false) (h36 : m
    .threads = false) (h37 : m .tiles = false) (h38 : m .vecs = false) (h39 : m .yoke = false) (e : Fin 4096) (res :
    MemRes) (s : State) :
    Keeps m s (execEndReport e res s) := by simp [execEndReport, *]

end Sys2Proof.Machine
end

