-- ==== Sys2Proof/Laws/KeepInteger.lean ====
section
/-! SUPPORT. What the operations and commands of Machine/Integer.lean keep: each changes only the facets
named in its hypotheses (`State.keep`). -/

namespace Sys2Proof.Machine

variable {m : Facet → Bool}


@[simp] theorem State.aluRR_keep (h0 : m .threads = false) (s : State) (h : Tid) (gd : Reg5) (gs1 : Reg5) (gs2 : Reg5)
    (op : Word → Word → Word) :
    Keeps m s (State.aluRR s h gd gs1 gs2 op) := by simp [State.aluRR, *]
@[simp] theorem State.aluR_keep (h0 : m .threads = false) (s : State) (h : Tid) (gd : Reg5) (gs1 : Reg5) (op : Word →
    Word) :
    Keeps m s (State.aluR s h gd gs1 op) := by simp [State.aluR, *]
@[simp] theorem State.predPP_keep (h0 : m .threads = false) (s : State) (h : Tid) (pd : Pred) (ps1 : Pred) (ps2 :
    Pred) (op : Bool → Bool → Bool) :
    Keeps m s (State.predPP s h pd ps1 ps2 op) := by simp [State.predPP, *]
@[simp] theorem State.shiftImm_keep (h0 : m .threads = false) (s : State) (h : Tid) (gd : Reg5) (gs1 : Reg5) (sh :
    BitVec 6) (w : Bool) (kind : ℕ) (op : Bool → Word → Word → Word) :
    Keeps m s (State.shiftImm s h gd gs1 sh w kind op) := by simp [State.shiftImm, *]
@[simp] theorem execAdd_keep (h0 : m .threads = false) (h : Tid) (gd : Reg5) (gs1 : Reg5) (gs2 : Reg5) (w : Bool) (s :
    State) :
    Keeps m s (execAdd h gd gs1 gs2 w s) := by simp [execAdd, *]
@[simp] theorem execSub_keep (h0 : m .threads = false) (h : Tid) (gd : Reg5) (gs1 : Reg5) (gs2 : Reg5) (w : Bool) (s :
    State) :
    Keeps m s (execSub h gd gs1 gs2 w s) := by simp [execSub, *]
@[simp] theorem execAnd_keep (h0 : m .threads = false) (h : Tid) (gd : Reg5) (gs1 : Reg5) (gs2 : Reg5) (s : State) :
    Keeps m s (execAnd h gd gs1 gs2 s) := by simp [execAnd, *]
@[simp] theorem execOr_keep (h0 : m .threads = false) (h : Tid) (gd : Reg5) (gs1 : Reg5) (gs2 : Reg5) (s : State) :
    Keeps m s (execOr h gd gs1 gs2 s) := by simp [execOr, *]
@[simp] theorem execXor_keep (h0 : m .threads = false) (h : Tid) (gd : Reg5) (gs1 : Reg5) (gs2 : Reg5) (s : State) :
    Keeps m s (execXor h gd gs1 gs2 s) := by simp [execXor, *]
@[simp] theorem execAndn_keep (h0 : m .threads = false) (h : Tid) (gd : Reg5) (gs1 : Reg5) (gs2 : Reg5) (s : State) :
    Keeps m s (execAndn h gd gs1 gs2 s) := by simp [execAndn, *]
@[simp] theorem execSll_keep (h0 : m .threads = false) (h : Tid) (gd : Reg5) (gs1 : Reg5) (gs2 : Reg5) (w : Bool) (s :
    State) :
    Keeps m s (execSll h gd gs1 gs2 w s) := by simp [execSll, *]
@[simp] theorem execSrl_keep (h0 : m .threads = false) (h : Tid) (gd : Reg5) (gs1 : Reg5) (gs2 : Reg5) (w : Bool) (s :
    State) :
    Keeps m s (execSrl h gd gs1 gs2 w s) := by simp [execSrl, *]
@[simp] theorem execSra_keep (h0 : m .threads = false) (h : Tid) (gd : Reg5) (gs1 : Reg5) (gs2 : Reg5) (w : Bool) (s :
    State) :
    Keeps m s (execSra h gd gs1 gs2 w s) := by simp [execSra, *]
@[simp] theorem execRor_keep (h0 : m .threads = false) (h : Tid) (gd : Reg5) (gs1 : Reg5) (gs2 : Reg5) (w : Bool) (s :
    State) :
    Keeps m s (execRor h gd gs1 gs2 w s) := by simp [execRor, *]
@[simp] theorem execMul_keep (h0 : m .threads = false) (h : Tid) (gd : Reg5) (gs1 : Reg5) (gs2 : Reg5) (w : Bool) (s :
    State) :
    Keeps m s (execMul h gd gs1 gs2 w s) := by simp [execMul, *]
@[simp] theorem execMulh_keep (h0 : m .threads = false) (h : Tid) (gd : Reg5) (gs1 : Reg5) (gs2 : Reg5) (s : State) :
    Keeps m s (execMulh h gd gs1 gs2 s) := by simp [execMulh, *]
@[simp] theorem execMulhu_keep (h0 : m .threads = false) (h : Tid) (gd : Reg5) (gs1 : Reg5) (gs2 : Reg5) (s : State) :
    Keeps m s (execMulhu h gd gs1 gs2 s) := by simp [execMulhu, *]
@[simp] theorem execDiv_keep (h0 : m .threads = false) (h : Tid) (gd : Reg5) (gs1 : Reg5) (gs2 : Reg5) (w : Bool) (s :
    State) :
    Keeps m s (execDiv h gd gs1 gs2 w s) := by simp [execDiv, *]
@[simp] theorem execDivu_keep (h0 : m .threads = false) (h : Tid) (gd : Reg5) (gs1 : Reg5) (gs2 : Reg5) (w : Bool) (s
    : State) :
    Keeps m s (execDivu h gd gs1 gs2 w s) := by simp [execDivu, *]
@[simp] theorem execRem_keep (h0 : m .threads = false) (h : Tid) (gd : Reg5) (gs1 : Reg5) (gs2 : Reg5) (w : Bool) (s :
    State) :
    Keeps m s (execRem h gd gs1 gs2 w s) := by simp [execRem, *]
@[simp] theorem execRemu_keep (h0 : m .threads = false) (h : Tid) (gd : Reg5) (gs1 : Reg5) (gs2 : Reg5) (w : Bool) (s
    : State) :
    Keeps m s (execRemu h gd gs1 gs2 w s) := by simp [execRemu, *]
@[simp] theorem execMin_keep (h0 : m .threads = false) (h : Tid) (gd : Reg5) (gs1 : Reg5) (gs2 : Reg5) (s : State) :
    Keeps m s (execMin h gd gs1 gs2 s) := by simp [execMin, *]
@[simp] theorem execMax_keep (h0 : m .threads = false) (h : Tid) (gd : Reg5) (gs1 : Reg5) (gs2 : Reg5) (s : State) :
    Keeps m s (execMax h gd gs1 gs2 s) := by simp [execMax, *]
@[simp] theorem execMinu_keep (h0 : m .threads = false) (h : Tid) (gd : Reg5) (gs1 : Reg5) (gs2 : Reg5) (s : State) :
    Keeps m s (execMinu h gd gs1 gs2 s) := by simp [execMinu, *]
@[simp] theorem execMaxu_keep (h0 : m .threads = false) (h : Tid) (gd : Reg5) (gs1 : Reg5) (gs2 : Reg5) (s : State) :
    Keeps m s (execMaxu h gd gs1 gs2 s) := by simp [execMaxu, *]
@[simp] theorem execClz_keep (h0 : m .threads = false) (h : Tid) (gd : Reg5) (gs1 : Reg5) (s : State) :
    Keeps m s (execClz h gd gs1 s) := by simp [execClz, *]
@[simp] theorem execCtz_keep (h0 : m .threads = false) (h : Tid) (gd : Reg5) (gs1 : Reg5) (s : State) :
    Keeps m s (execCtz h gd gs1 s) := by simp [execCtz, *]
@[simp] theorem execPopc_keep (h0 : m .threads = false) (h : Tid) (gd : Reg5) (gs1 : Reg5) (s : State) :
    Keeps m s (execPopc h gd gs1 s) := by simp [execPopc, *]
@[simp] theorem execBswap_keep (h0 : m .threads = false) (h : Tid) (gd : Reg5) (gs1 : Reg5) (s : State) :
    Keeps m s (execBswap h gd gs1 s) := by simp [execBswap, *]
@[simp] theorem execSextb_keep (h0 : m .threads = false) (h : Tid) (gd : Reg5) (gs1 : Reg5) (s : State) :
    Keeps m s (execSextb h gd gs1 s) := by simp [execSextb, *]
@[simp] theorem execSexth_keep (h0 : m .threads = false) (h : Tid) (gd : Reg5) (gs1 : Reg5) (s : State) :
    Keeps m s (execSexth h gd gs1 s) := by simp [execSexth, *]
@[simp] theorem execSextw_keep (h0 : m .threads = false) (h : Tid) (gd : Reg5) (gs1 : Reg5) (s : State) :
    Keeps m s (execSextw h gd gs1 s) := by simp [execSextw, *]
@[simp] theorem execZextw_keep (h0 : m .threads = false) (h : Tid) (gd : Reg5) (gs1 : Reg5) (s : State) :
    Keeps m s (execZextw h gd gs1 s) := by simp [execZextw, *]
@[simp] theorem execSel_keep (h0 : m .threads = false) (h : Tid) (gd : Reg5) (gs1 : Reg5) (gs2 : Reg5) (p : Pred) (s :
    State) :
    Keeps m s (execSel h gd gs1 gs2 p s) := by simp [execSel, *]
@[simp] theorem execAddi_keep (h0 : m .threads = false) (h : Tid) (gd : Reg5) (gs1 : Reg5) (imm : BitVec 16) (s :
    State) :
    Keeps m s (execAddi h gd gs1 imm s) := by simp [execAddi, *]
@[simp] theorem execAndi_keep (h0 : m .threads = false) (h : Tid) (gd : Reg5) (gs1 : Reg5) (imm : BitVec 16) (s :
    State) :
    Keeps m s (execAndi h gd gs1 imm s) := by simp [execAndi, *]
@[simp] theorem execOri_keep (h0 : m .threads = false) (h : Tid) (gd : Reg5) (gs1 : Reg5) (imm : BitVec 16) (s :
    State) :
    Keeps m s (execOri h gd gs1 imm s) := by simp [execOri, *]
@[simp] theorem execXori_keep (h0 : m .threads = false) (h : Tid) (gd : Reg5) (gs1 : Reg5) (imm : BitVec 16) (s :
    State) :
    Keeps m s (execXori h gd gs1 imm s) := by simp [execXori, *]
@[simp] theorem execSlli_keep (h0 : m .threads = false) (h : Tid) (gd : Reg5) (gs1 : Reg5) (sh : BitVec 6) (w : Bool)
    (s : State) :
    Keeps m s (execSlli h gd gs1 sh w s) := by simp [execSlli, *]
@[simp] theorem execSrli_keep (h0 : m .threads = false) (h : Tid) (gd : Reg5) (gs1 : Reg5) (sh : BitVec 6) (w : Bool)
    (s : State) :
    Keeps m s (execSrli h gd gs1 sh w s) := by simp [execSrli, *]
@[simp] theorem execSrai_keep (h0 : m .threads = false) (h : Tid) (gd : Reg5) (gs1 : Reg5) (sh : BitVec 6) (w : Bool)
    (s : State) :
    Keeps m s (execSrai h gd gs1 sh w s) := by simp [execSrai, *]
@[simp] theorem execRori_keep (h0 : m .threads = false) (h : Tid) (gd : Reg5) (gs1 : Reg5) (sh : BitVec 6) (w : Bool)
    (s : State) :
    Keeps m s (execRori h gd gs1 sh w s) := by simp [execRori, *]
@[simp] theorem execCati_keep (h0 : m .threads = false) (h : Tid) (gd : Reg5) (gs1 : Reg5) (imm : BitVec 16) (s :
    State) :
    Keeps m s (execCati h gd gs1 imm s) := by simp [execCati, *]
@[simp] theorem execAdpc_keep (h0 : m .threads = false) (h : Tid) (gd : Reg5) (disp : BitVec 21) (s : State) :
    Keeps m s (execAdpc h gd disp s) := by simp [execAdpc, *]
@[simp] theorem execCmp_keep (h0 : m .threads = false) (h : Tid) (pd : Pred) (gs1 : Reg5) (gs2 : Reg5) (cond : Cond)
    (s : State) :
    Keeps m s (execCmp h pd gs1 gs2 cond s) := by simp [execCmp, *]
@[simp] theorem execCmpi_keep (h0 : m .threads = false) (h : Tid) (pd : Pred) (gs1 : Reg5) (imm : BitVec 15) (cond :
    Cond) (s : State) :
    Keeps m s (execCmpi h pd gs1 imm cond s) := by simp [execCmpi, *]
@[simp] theorem execPand_keep (h0 : m .threads = false) (h : Tid) (pd : Pred) (ps1 : Pred) (ps2 : Pred) (s : State) :
    Keeps m s (execPand h pd ps1 ps2 s) := by simp [execPand, *]
@[simp] theorem execPor_keep (h0 : m .threads = false) (h : Tid) (pd : Pred) (ps1 : Pred) (ps2 : Pred) (s : State) :
    Keeps m s (execPor h pd ps1 ps2 s) := by simp [execPor, *]
@[simp] theorem execPxor_keep (h0 : m .threads = false) (h : Tid) (pd : Pred) (ps1 : Pred) (ps2 : Pred) (s : State) :
    Keeps m s (execPxor h pd ps1 ps2 s) := by simp [execPxor, *]
@[simp] theorem execPandn_keep (h0 : m .threads = false) (h : Tid) (pd : Pred) (ps1 : Pred) (ps2 : Pred) (s : State) :
    Keeps m s (execPandn h pd ps1 ps2 s) := by simp [execPandn, *]
@[simp] theorem execPorn_keep (h0 : m .threads = false) (h : Tid) (pd : Pred) (ps1 : Pred) (ps2 : Pred) (s : State) :
    Keeps m s (execPorn h pd ps1 ps2 s) := by simp [execPorn, *]
@[simp] theorem execBr_keep (h0 : m (.blk .GLN) = false) (h1 : m .gln = false) (h2 : m .threads = false) (h : Tid) (p
    : Pred) (n : Bool) (disp : BitVec 22) (s : State) :
    Keeps m s (execBr h p n disp s) := by
  refine State.instr_keep (m := m) _ _ _ fun t s => ?_; dsimp only; (repeat' split) <;> (try simp only [Prod.ext_iff] at *) <;> (try casesm* _ ∧ _) <;> (try subst_vars) <;> simp [*]
@[simp] theorem execJal_keep (h0 : m .threads = false) (h : Tid) (gd : Reg5) (disp : BitVec 21) (s : State) :
    Keeps m s (execJal h gd disp s) := by simp [execJal, *]
@[simp] theorem execJalr_keep (h0 : m (.blk .GLN) = false) (h1 : m .gln = false) (h2 : m .threads = false) (h : Tid)
    (gd : Reg5) (gs1 : Reg5) (imm : BitVec 16) (s : State) :
    Keeps m s (execJalr h gd gs1 imm s) := by
  refine State.instr_keep (m := m) _ _ _ fun t s => ?_; dsimp only; (repeat' split) <;> (try simp only [Prod.ext_iff] at *) <;> (try casesm* _ ∧ _) <;> (try subst_vars) <;> simp [*]

end Sys2Proof.Machine
end

