-- ==== Sys2Proof/Laws/Memory.lean ====
section
/-! SUPPORT. Granary memory: every operation on it keeps its canonical form, a read after a write gives what was written,
and a write leaves every other byte alone. Only `writeGran`, `zeroChannel`, `zeroExtents` and `powerOn` replace the
memory; every other operation reaches it through them. -/

namespace Sys2Proof.Machine

/-! ### The canonical form -/

theorem Memory.wf_iff (m : List Host.Cell) : Memory.wf m = true ↔ rising m = true ∧ ∀ c ∈ m, c.2 ≠ 0 := by
  simp [Memory.wf]

/-- The memory after reset is canonical. -/
theorem reset_mem_wf : Memory.wf State.reset.granary.mem = true := rfl

theorem putD_wf {m : List Host.Cell} (h : Memory.wf m = true) (k : Nat) (v : Byte) : Memory.wf (putD 0 k v m) = true := by
  rw [Memory.wf_iff] at *
  exact ⟨putD_rising h.1 0 k v, putD_ne h.2 k v⟩

theorem writeSpan_wf {m : List Host.Cell} (h : Memory.wf m = true) (k : Nat) (d : List Byte) :
    Memory.wf (writeSpan m k d) = true := by
  induction d generalizing m k with
  | nil => exact h
  | cons b r ih => exact ih (putD_wf h ..) _

theorem writeMasked_wf {m : List Host.Cell} (h : Memory.wf m = true) (k mask : Nat) (d : List Byte) :
    Memory.wf (writeMasked m k mask d) = true := by
  induction d generalizing m k mask with
  | nil => exact h
  | cons b r ih => unfold writeMasked; split <;> exact ih (by first | exact putD_wf h .. | exact h) ..

theorem filter_wf {m : List Host.Cell} (h : Memory.wf m = true) (p : Host.Cell → Bool) : Memory.wf (m.filter p) = true := by
  rw [Memory.wf_iff] at *
  exact ⟨by have := h.1; rw [rising_iff] at *; exact this.filter _, fun c hc => h.2 c (List.mem_filter.mp hc).1⟩

theorem State.writeGran_wf {s : State} (h : Memory.wf s.granary.mem = true) (key mask : Nat) (data : List Byte) :
    Memory.wf (s.writeGran key mask data).granary.mem = true := by
  unfold State.writeGran
  dsimp only
  split <;> exact writeMasked_wf h ..

theorem State.zeroChannel_wf {s : State} (h : Memory.wf s.granary.mem = true) (c : Nat) :
    Memory.wf (s.zeroChannel c).granary.mem = true := filter_wf h _

theorem State.zeroExtents_wf {s : State} (h : Memory.wf s.granary.mem = true) (xs : List Nat) :
    Memory.wf (s.zeroExtents xs).granary.mem = true := by
  have e : ∀ (l : List Nat) (s : State), Memory.wf s.granary.mem = true →
      Memory.wf (l.foldl (fun s l => s.discard l) s).granary.mem = true := fun l s h => by
    rw [mem_of_keep (m := Facet.only .mem) (foldl_keep (fun s a => State.discard_keep (by decide) (by decide) s a) l s) rfl]
    exact h
  exact filter_wf (e _ s h) _

theorem State.powerOn_wf (s : State) : Memory.wf s.powerOn.granary.mem = true := rfl

/-- A line write through a channel. -/
theorem State.granWrite_wf {s : State} (h : Memory.wf s.granary.mem = true) (c l mask : Nat) (data : List Byte) (src : Nat)
    (res : MemRes) : Memory.wf (s.granWrite c l mask data src res).granary.mem = true := by
  have hw := State.writeGran_wf h (granKey c (l / 64 * 64)) mask data
  have same : ∀ t : State, t.keep (Facet.only .mem) = (s.writeGran (granKey c (l / 64 * 64)) mask data).keep (Facet.only .mem) →
      Memory.wf t.granary.mem = true := fun t e => by rw [mem_of_keep e (by rfl)]; exact hw
  unfold State.granWrite
  dsimp only
  split
  · exact same _ (by simp)
  · exact same _ (by simp)
  · exact hw

/-- A line read through a channel. -/
theorem State.granRead_wf {s : State} (h : Memory.wf s.granary.mem = true) (c l src : Nat) (res : MemRes) :
    Memory.wf (s.granRead c l src res).2.granary.mem = true := by
  rw [mem_of_keep (State.granRead_keep (m := Facet.only .mem) (by decide) (by decide) (by decide) s c l src res) (by rfl)]
  exact h

/-! ### A read after a write -/

/-- A byte after a masked write: the byte written where the mask has it, else the byte that was there. -/
theorem findD_writeMasked (m : List Host.Cell) (k mask j : Nat) (d : List Byte) :
    findD 0 j (writeMasked m k mask d) =
      if k ≤ j ∧ j < k + d.length ∧ mask.testBit (j - k) = true then d.getD (j - k) 0 else findD 0 j m := by
  induction d generalizing m k mask with
  | nil =>
    have : ¬(k ≤ j ∧ j < k + ([] : List Byte).length ∧ mask.testBit (j - k) = true) := by simp; omega
    rw [if_neg this]; rfl
  | cons b r ih =>
    unfold writeMasked
    rw [ih]
    rcases Nat.lt_trichotomy j k with hj | rfl | hj
    · have e : findD 0 j (if mask % 2 = 1 then putD 0 k b m else m) = findD 0 j m := by
        split
        · exact findD_putD_ne (by omega) ..
        · rfl
      have h1 : ¬(k + 1 ≤ j ∧ j < k + 1 + r.length ∧ (mask / 2).testBit (j - (k + 1)) = true) := fun h => by omega
      have h2 : ¬(k ≤ j ∧ j < k + (b :: r).length ∧ mask.testBit (j - k) = true) := fun h => by omega
      rw [if_neg h1, if_neg h2, e]
    · have h1 : ¬(j + 1 ≤ j ∧ j < j + 1 + r.length ∧ (mask / 2).testBit (j - (j + 1)) = true) := fun h => by omega
      rw [if_neg h1]
      by_cases hm : mask % 2 = 1 <;> simp [hm, Nat.testBit_zero]
    · obtain ⟨n, rfl⟩ : ∃ n, j = k + 1 + n := ⟨j - (k + 1), by omega⟩
      have e1 : k + 1 + n - (k + 1) = n := by omega
      have e2 : k + 1 + n - k = n + 1 := by omega
      have e3 : findD 0 (k + 1 + n) (if mask % 2 = 1 then putD 0 k b m else m) = findD 0 (k + 1 + n) m := by
        split
        · exact findD_putD_ne (by omega) ..
        · rfl
      rw [e1, e2, e3, Nat.testBit_succ, List.length_cons, List.getD_cons_succ]
      exact if_congr ⟨fun h => ⟨by omega, by omega, h.2.2⟩, fun h => ⟨by omega, by omega, h.2.2⟩⟩ rfl rfl

/-- A byte of Granary after a line write: the byte written where the mask has it, else the byte that was there. -/
theorem State.writeGran_byte (s : State) (key mask j : Nat) (data : List Byte) :
    findD 0 j (s.writeGran key mask data).granary.mem =
      if key ≤ j ∧ j < key + data.length ∧ mask.testBit (j - key) = true then data.getD (j - key) 0
      else findD 0 j s.granary.mem := by
  have : (s.writeGran key mask data).granary.mem = writeMasked s.granary.mem key mask data := by
    unfold State.writeGran; dsimp only; split <;> rfl
  rw [this, findD_writeMasked]

/-- Zeroing a channel: its bytes read 0, every other byte as before. -/
theorem findD_filter_key (m : List Host.Cell) (p : Nat → Bool) (j : Nat) :
    findD 0 j (m.filter fun c => p c.1) = if p j = true then findD 0 j m else 0 := by
  unfold findD
  induction m with
  | nil => simp
  | cons c r ih =>
    by_cases hc : c.1 = j
    · subst hc
      by_cases hp : p c.1 = true
      · simp [List.filter_cons, hp, find_cons]
      · simp only [List.filter_cons, hp, Bool.false_eq_true, if_false] at ih ⊢; exact ih
    · by_cases hp : p c.1 = true
      · simp only [List.filter_cons, hp, if_true, find_cons, if_neg hc]; exact ih
      · simp only [List.filter_cons, hp, Bool.false_eq_true, if_false, find_cons, if_neg hc]; exact ih

theorem State.zeroChannel_byte (s : State) (c j : Nat) :
    findD 0 j (s.zeroChannel c).granary.mem = if ofChannel chanSpan c j = true then 0 else findD 0 j s.granary.mem := by
  show findD 0 j (s.granary.mem.filter fun x => (fun k => !ofChannel chanSpan c k) x.1) = _
  rw [findD_filter_key s.granary.mem (fun k => !ofChannel chanSpan c k)]
  cases ofChannel chanSpan c j <;> simp

end Sys2Proof.Machine
end

