-- ==== Sys2Proof/Laws/Scalar.lean ====
section
/-! SUPPORT. Instructions of one thread: what an instruction answers where its thread may run it, and the two ways an
instruction that only changes its own context is shown to do so. -/

namespace Sys2Proof.Machine

/-- An instruction on a thread that may run it. -/
theorem State.instr_ready {s : State} {h : Nat} (hs : s.ready h = true) (f : Thread → State → State) :
    s.instr h f = .next (f (s.thread h) s) := by simp [State.instr, hs]

/-- An instruction on a thread that may not run it: nothing happens. -/
theorem State.instr_idle {s : State} {h : Nat} (hs : s.ready h = false) (f : Thread → State → State) :
    s.instr h f = .next s := by simp [State.instr, hs]

/-- A scalar instruction on a thread that may run it. -/
theorem State.scalar_ready {s : State} {h : Nat} (hs : s.ready h = true) (f : Thread → Thread) :
    s.scalar h f = .next (s.setThread h (f (s.thread h)).next) := State.instr_ready hs _

/-- A scalar instruction changes its own context only. -/
theorem ranAs_of_scalar {i : Instr} {h : Tid} {f g : Thread → Thread} (e : ∀ s, exec i s = s.scalar h f)
    (v : ∀ t, f t = g t) : ranAs i h g := fun s hs => by rw [e, State.scalar_ready hs, v]

/-- An instruction that guards a context change changes its own context only. -/
theorem ranAs_of_instr {i : Instr} {h : Tid} {f : Thread → State → State} {g : Thread → Thread}
    (e : ∀ s, exec i s = s.instr h f) (v : ∀ t s, f t s = s.setThread h (g t).next) : ranAs i h g :=
  fun s hs => by rw [e, State.instr_ready hs, v]

/-- A two-source integer operation. -/
theorem ranAs_of_aluRR {i : Instr} {h : Tid} {gd a b : Reg5} {op : Word → Word → Word} {v : Thread → Word}
    (e : ∀ s, exec i s = s.aluRR h gd a b op) (hv : ∀ t : Thread, op (t.readG a) (t.readG b) = v t) :
    ranAs i h fun t => t.writeG gd (v t) :=
  ranAs_of_scalar (f := fun t => t.writeG gd (op (t.readG a) (t.readG b))) e fun t => by rw [hv]

/-- A one-source integer operation. -/
theorem ranAs_of_aluR {i : Instr} {h : Tid} {gd a : Reg5} {op : Word → Word} {v : Thread → Word}
    (e : ∀ s, exec i s = s.aluR h gd a op) (hv : ∀ t : Thread, op (t.readG a) = v t) :
    ranAs i h fun t => t.writeG gd (v t) :=
  ranAs_of_scalar (f := fun t => t.writeG gd (op (t.readG a))) e fun t => by rw [hv]

/-- An operation on predicates. -/
theorem ranAs_of_predPP {i : Instr} {h : Tid} {pd a b : Pred} {op : Bool → Bool → Bool} {v : Thread → Bool}
    (e : ∀ s, exec i s = s.predPP h pd a b op) (hv : ∀ t : Thread, op (t.readP a) (t.readP b) = v t) :
    ranAs i h fun t => t.writeP pd (v t) :=
  ranAs_of_scalar (f := fun t => t.writeP pd (op (t.readP a) (t.readP b))) e fun t => by rw [hv]

end Sys2Proof.Machine
end

