-- ==== Sys2Proof/Laws/State.lean ====
section
/-! SUPPORT. What each update of one part of the state leaves in every field: the new value in the one it updates, the old
value in the others. -/

namespace Sys2Proof.Machine

variable (s : State)

/-! ### setF -/

@[simp] theorem State.setF_clk (F : Fld) (i v : Nat) : (s.setF F i v).clk = s.clk := rfl
@[simp] theorem State.setF_reeve (F : Fld) (i v : Nat) : (s.setF F i v).reeve = s.reeve := rfl
@[simp] theorem State.setF_threads (F : Fld) (i v : Nat) : (s.setF F i v).threads = s.threads := rfl
@[simp] theorem State.setF_cores (F : Fld) (i v : Nat) : (s.setF F i v).cores = s.cores := rfl
@[simp] theorem State.setF_tiles (F : Fld) (i v : Nat) : (s.setF F i v).tiles = s.tiles := rfl
@[simp] theorem State.setF_caches (F : Fld) (i v : Nat) : (s.setF F i v).caches = s.caches := rfl
@[simp] theorem State.setF_granary (F : Fld) (i v : Nat) : (s.setF F i v).granary = s.granary := rfl
@[simp] theorem State.setF_seedbox (F : Fld) (i v : Nat) : (s.setF F i v).seedbox = s.seedbox := rfl
@[simp] theorem State.setF_gln (F : Fld) (i v : Nat) : (s.setF F i v).gln = s.gln := rfl
@[simp] theorem State.setF_drill (F : Fld) (i v : Nat) : (s.setF F i v).drill = s.drill := rfl
@[simp] theorem State.setF_loops (F : Fld) (i v : Nat) : (s.setF F i v).loops = s.loops := rfl
@[simp] theorem State.setF_host (F : Fld) (i v : Nat) : (s.setF F i v).host = s.host := rfl
@[simp] theorem State.setF_links (F : Fld) (i v : Nat) : (s.setF F i v).links = s.links := rfl
@[simp] theorem State.setF_yoke (F : Fld) (i v : Nat) : (s.setF F i v).yoke = s.yoke := rfl
@[simp] theorem State.setF_acre (F : Fld) (i v : Nat) : (s.setF F i v).acre = s.acre := rfl
@[simp] theorem State.setF_boot (F : Fld) (i v : Nat) : (s.setF F i v).boot = s.boot := rfl
@[simp] theorem State.setF_isl (F : Fld) (i v : Nat) : (s.setF F i v).isl = s.isl := rfl
@[simp] theorem State.setF_bnd (F : Fld) (i v : Nat) : (s.setF F i v).bnd = s.bnd := rfl
@[simp] theorem State.setF_vecs (F : Fld) (i v : Nat) : (s.setF F i v).vecs = s.vecs := rfl
@[simp] theorem State.setF_sent (F : Fld) (i v : Nat) : (s.setF F i v).sent = s.sent := rfl
@[simp] theorem State.setF_fresh (F : Fld) (i v : Nat) : (s.setF F i v).fresh = s.fresh := rfl
@[simp] theorem State.setF_pending (F : Fld) (i v : Nat) : (s.setF F i v).pending = s.pending := rfl

/-! ### setThread -/

@[simp] theorem State.setThread_regs (h : Nat) (t : Thread) : (s.setThread h t).regs = s.regs := rfl
@[simp] theorem State.setThread_clk (h : Nat) (t : Thread) : (s.setThread h t).clk = s.clk := rfl
@[simp] theorem State.setThread_reeve (h : Nat) (t : Thread) : (s.setThread h t).reeve = s.reeve := rfl
@[simp] theorem State.setThread_cores (h : Nat) (t : Thread) : (s.setThread h t).cores = s.cores := rfl
@[simp] theorem State.setThread_tiles (h : Nat) (t : Thread) : (s.setThread h t).tiles = s.tiles := rfl
@[simp] theorem State.setThread_caches (h : Nat) (t : Thread) : (s.setThread h t).caches = s.caches := rfl
@[simp] theorem State.setThread_granary (h : Nat) (t : Thread) : (s.setThread h t).granary = s.granary := rfl
@[simp] theorem State.setThread_seedbox (h : Nat) (t : Thread) : (s.setThread h t).seedbox = s.seedbox := rfl
@[simp] theorem State.setThread_gln (h : Nat) (t : Thread) : (s.setThread h t).gln = s.gln := rfl
@[simp] theorem State.setThread_drill (h : Nat) (t : Thread) : (s.setThread h t).drill = s.drill := rfl
@[simp] theorem State.setThread_loops (h : Nat) (t : Thread) : (s.setThread h t).loops = s.loops := rfl
@[simp] theorem State.setThread_host (h : Nat) (t : Thread) : (s.setThread h t).host = s.host := rfl
@[simp] theorem State.setThread_links (h : Nat) (t : Thread) : (s.setThread h t).links = s.links := rfl
@[simp] theorem State.setThread_yoke (h : Nat) (t : Thread) : (s.setThread h t).yoke = s.yoke := rfl
@[simp] theorem State.setThread_acre (h : Nat) (t : Thread) : (s.setThread h t).acre = s.acre := rfl
@[simp] theorem State.setThread_boot (h : Nat) (t : Thread) : (s.setThread h t).boot = s.boot := rfl
@[simp] theorem State.setThread_isl (h : Nat) (t : Thread) : (s.setThread h t).isl = s.isl := rfl
@[simp] theorem State.setThread_bnd (h : Nat) (t : Thread) : (s.setThread h t).bnd = s.bnd := rfl
@[simp] theorem State.setThread_vecs (h : Nat) (t : Thread) : (s.setThread h t).vecs = s.vecs := rfl
@[simp] theorem State.setThread_sent (h : Nat) (t : Thread) : (s.setThread h t).sent = s.sent := rfl
@[simp] theorem State.setThread_fresh (h : Nat) (t : Thread) : (s.setThread h t).fresh = s.fresh := rfl
@[simp] theorem State.setThread_pending (h : Nat) (t : Thread) : (s.setThread h t).pending = s.pending := rfl

/-! ### setCore -/

@[simp] theorem State.setCore_regs (n : Nat) (c : Core) : (s.setCore n c).regs = s.regs := rfl
@[simp] theorem State.setCore_clk (n : Nat) (c : Core) : (s.setCore n c).clk = s.clk := rfl
@[simp] theorem State.setCore_reeve (n : Nat) (c : Core) : (s.setCore n c).reeve = s.reeve := rfl
@[simp] theorem State.setCore_threads (n : Nat) (c : Core) : (s.setCore n c).threads = s.threads := rfl
@[simp] theorem State.setCore_tiles (n : Nat) (c : Core) : (s.setCore n c).tiles = s.tiles := rfl
@[simp] theorem State.setCore_caches (n : Nat) (c : Core) : (s.setCore n c).caches = s.caches := rfl
@[simp] theorem State.setCore_granary (n : Nat) (c : Core) : (s.setCore n c).granary = s.granary := rfl
@[simp] theorem State.setCore_seedbox (n : Nat) (c : Core) : (s.setCore n c).seedbox = s.seedbox := rfl
@[simp] theorem State.setCore_gln (n : Nat) (c : Core) : (s.setCore n c).gln = s.gln := rfl
@[simp] theorem State.setCore_drill (n : Nat) (c : Core) : (s.setCore n c).drill = s.drill := rfl
@[simp] theorem State.setCore_loops (n : Nat) (c : Core) : (s.setCore n c).loops = s.loops := rfl
@[simp] theorem State.setCore_host (n : Nat) (c : Core) : (s.setCore n c).host = s.host := rfl
@[simp] theorem State.setCore_links (n : Nat) (c : Core) : (s.setCore n c).links = s.links := rfl
@[simp] theorem State.setCore_yoke (n : Nat) (c : Core) : (s.setCore n c).yoke = s.yoke := rfl
@[simp] theorem State.setCore_acre (n : Nat) (c : Core) : (s.setCore n c).acre = s.acre := rfl
@[simp] theorem State.setCore_boot (n : Nat) (c : Core) : (s.setCore n c).boot = s.boot := rfl
@[simp] theorem State.setCore_isl (n : Nat) (c : Core) : (s.setCore n c).isl = s.isl := rfl
@[simp] theorem State.setCore_bnd (n : Nat) (c : Core) : (s.setCore n c).bnd = s.bnd := rfl
@[simp] theorem State.setCore_vecs (n : Nat) (c : Core) : (s.setCore n c).vecs = s.vecs := rfl
@[simp] theorem State.setCore_sent (n : Nat) (c : Core) : (s.setCore n c).sent = s.sent := rfl
@[simp] theorem State.setCore_fresh (n : Nat) (c : Core) : (s.setCore n c).fresh = s.fresh := rfl
@[simp] theorem State.setCore_pending (n : Nat) (c : Core) : (s.setCore n c).pending = s.pending := rfl

/-! ### setTile -/

@[simp] theorem State.setTile_regs (n : Nat) (t : TileCore) : (s.setTile n t).regs = s.regs := rfl
@[simp] theorem State.setTile_clk (n : Nat) (t : TileCore) : (s.setTile n t).clk = s.clk := rfl
@[simp] theorem State.setTile_reeve (n : Nat) (t : TileCore) : (s.setTile n t).reeve = s.reeve := rfl
@[simp] theorem State.setTile_threads (n : Nat) (t : TileCore) : (s.setTile n t).threads = s.threads := rfl
@[simp] theorem State.setTile_cores (n : Nat) (t : TileCore) : (s.setTile n t).cores = s.cores := rfl
@[simp] theorem State.setTile_caches (n : Nat) (t : TileCore) : (s.setTile n t).caches = s.caches := rfl
@[simp] theorem State.setTile_granary (n : Nat) (t : TileCore) : (s.setTile n t).granary = s.granary := rfl
@[simp] theorem State.setTile_seedbox (n : Nat) (t : TileCore) : (s.setTile n t).seedbox = s.seedbox := rfl
@[simp] theorem State.setTile_gln (n : Nat) (t : TileCore) : (s.setTile n t).gln = s.gln := rfl
@[simp] theorem State.setTile_drill (n : Nat) (t : TileCore) : (s.setTile n t).drill = s.drill := rfl
@[simp] theorem State.setTile_loops (n : Nat) (t : TileCore) : (s.setTile n t).loops = s.loops := rfl
@[simp] theorem State.setTile_host (n : Nat) (t : TileCore) : (s.setTile n t).host = s.host := rfl
@[simp] theorem State.setTile_links (n : Nat) (t : TileCore) : (s.setTile n t).links = s.links := rfl
@[simp] theorem State.setTile_yoke (n : Nat) (t : TileCore) : (s.setTile n t).yoke = s.yoke := rfl
@[simp] theorem State.setTile_acre (n : Nat) (t : TileCore) : (s.setTile n t).acre = s.acre := rfl
@[simp] theorem State.setTile_boot (n : Nat) (t : TileCore) : (s.setTile n t).boot = s.boot := rfl
@[simp] theorem State.setTile_isl (n : Nat) (t : TileCore) : (s.setTile n t).isl = s.isl := rfl
@[simp] theorem State.setTile_bnd (n : Nat) (t : TileCore) : (s.setTile n t).bnd = s.bnd := rfl
@[simp] theorem State.setTile_vecs (n : Nat) (t : TileCore) : (s.setTile n t).vecs = s.vecs := rfl
@[simp] theorem State.setTile_sent (n : Nat) (t : TileCore) : (s.setTile n t).sent = s.sent := rfl
@[simp] theorem State.setTile_fresh (n : Nat) (t : TileCore) : (s.setTile n t).fresh = s.fresh := rfl
@[simp] theorem State.setTile_pending (n : Nat) (t : TileCore) : (s.setTile n t).pending = s.pending := rfl

/-! ### setSeed -/

@[simp] theorem State.setSeed_regs (n : Nat) (a : Sram) : (s.setSeed n a).regs = s.regs := rfl
@[simp] theorem State.setSeed_clk (n : Nat) (a : Sram) : (s.setSeed n a).clk = s.clk := rfl
@[simp] theorem State.setSeed_reeve (n : Nat) (a : Sram) : (s.setSeed n a).reeve = s.reeve := rfl
@[simp] theorem State.setSeed_threads (n : Nat) (a : Sram) : (s.setSeed n a).threads = s.threads := rfl
@[simp] theorem State.setSeed_cores (n : Nat) (a : Sram) : (s.setSeed n a).cores = s.cores := rfl
@[simp] theorem State.setSeed_tiles (n : Nat) (a : Sram) : (s.setSeed n a).tiles = s.tiles := rfl
@[simp] theorem State.setSeed_caches (n : Nat) (a : Sram) : (s.setSeed n a).caches = s.caches := rfl
@[simp] theorem State.setSeed_granary (n : Nat) (a : Sram) : (s.setSeed n a).granary = s.granary := rfl
@[simp] theorem State.setSeed_gln (n : Nat) (a : Sram) : (s.setSeed n a).gln = s.gln := rfl
@[simp] theorem State.setSeed_drill (n : Nat) (a : Sram) : (s.setSeed n a).drill = s.drill := rfl
@[simp] theorem State.setSeed_loops (n : Nat) (a : Sram) : (s.setSeed n a).loops = s.loops := rfl
@[simp] theorem State.setSeed_host (n : Nat) (a : Sram) : (s.setSeed n a).host = s.host := rfl
@[simp] theorem State.setSeed_links (n : Nat) (a : Sram) : (s.setSeed n a).links = s.links := rfl
@[simp] theorem State.setSeed_yoke (n : Nat) (a : Sram) : (s.setSeed n a).yoke = s.yoke := rfl
@[simp] theorem State.setSeed_acre (n : Nat) (a : Sram) : (s.setSeed n a).acre = s.acre := rfl
@[simp] theorem State.setSeed_boot (n : Nat) (a : Sram) : (s.setSeed n a).boot = s.boot := rfl
@[simp] theorem State.setSeed_isl (n : Nat) (a : Sram) : (s.setSeed n a).isl = s.isl := rfl
@[simp] theorem State.setSeed_bnd (n : Nat) (a : Sram) : (s.setSeed n a).bnd = s.bnd := rfl
@[simp] theorem State.setSeed_vecs (n : Nat) (a : Sram) : (s.setSeed n a).vecs = s.vecs := rfl
@[simp] theorem State.setSeed_sent (n : Nat) (a : Sram) : (s.setSeed n a).sent = s.sent := rfl
@[simp] theorem State.setSeed_fresh (n : Nat) (a : Sram) : (s.setSeed n a).fresh = s.fresh := rfl
@[simp] theorem State.setSeed_pending (n : Nat) (a : Sram) : (s.setSeed n a).pending = s.pending := rfl

/-! ### setUnit -/

@[simp] theorem State.setUnit_regs (c : Nat) (u : TraceUnit) : (s.setUnit c u).regs = s.regs := rfl
@[simp] theorem State.setUnit_clk (c : Nat) (u : TraceUnit) : (s.setUnit c u).clk = s.clk := rfl
@[simp] theorem State.setUnit_reeve (c : Nat) (u : TraceUnit) : (s.setUnit c u).reeve = s.reeve := rfl
@[simp] theorem State.setUnit_threads (c : Nat) (u : TraceUnit) : (s.setUnit c u).threads = s.threads := rfl
@[simp] theorem State.setUnit_cores (c : Nat) (u : TraceUnit) : (s.setUnit c u).cores = s.cores := rfl
@[simp] theorem State.setUnit_tiles (c : Nat) (u : TraceUnit) : (s.setUnit c u).tiles = s.tiles := rfl
@[simp] theorem State.setUnit_caches (c : Nat) (u : TraceUnit) : (s.setUnit c u).caches = s.caches := rfl
@[simp] theorem State.setUnit_granary (c : Nat) (u : TraceUnit) : (s.setUnit c u).granary = s.granary := rfl
@[simp] theorem State.setUnit_seedbox (c : Nat) (u : TraceUnit) : (s.setUnit c u).seedbox = s.seedbox := rfl
@[simp] theorem State.setUnit_drill (c : Nat) (u : TraceUnit) : (s.setUnit c u).drill = s.drill := rfl
@[simp] theorem State.setUnit_loops (c : Nat) (u : TraceUnit) : (s.setUnit c u).loops = s.loops := rfl
@[simp] theorem State.setUnit_host (c : Nat) (u : TraceUnit) : (s.setUnit c u).host = s.host := rfl
@[simp] theorem State.setUnit_links (c : Nat) (u : TraceUnit) : (s.setUnit c u).links = s.links := rfl
@[simp] theorem State.setUnit_yoke (c : Nat) (u : TraceUnit) : (s.setUnit c u).yoke = s.yoke := rfl
@[simp] theorem State.setUnit_acre (c : Nat) (u : TraceUnit) : (s.setUnit c u).acre = s.acre := rfl
@[simp] theorem State.setUnit_boot (c : Nat) (u : TraceUnit) : (s.setUnit c u).boot = s.boot := rfl
@[simp] theorem State.setUnit_isl (c : Nat) (u : TraceUnit) : (s.setUnit c u).isl = s.isl := rfl
@[simp] theorem State.setUnit_bnd (c : Nat) (u : TraceUnit) : (s.setUnit c u).bnd = s.bnd := rfl
@[simp] theorem State.setUnit_vecs (c : Nat) (u : TraceUnit) : (s.setUnit c u).vecs = s.vecs := rfl
@[simp] theorem State.setUnit_sent (c : Nat) (u : TraceUnit) : (s.setUnit c u).sent = s.sent := rfl
@[simp] theorem State.setUnit_fresh (c : Nat) (u : TraceUnit) : (s.setUnit c u).fresh = s.fresh := rfl
@[simp] theorem State.setUnit_pending (c : Nat) (u : TraceUnit) : (s.setUnit c u).pending = s.pending := rfl

/-! ### setTap -/

@[simp] theorem State.setTap_regs (t : Tap) : (s.setTap t).regs = s.regs := rfl
@[simp] theorem State.setTap_clk (t : Tap) : (s.setTap t).clk = s.clk := rfl
@[simp] theorem State.setTap_reeve (t : Tap) : (s.setTap t).reeve = s.reeve := rfl
@[simp] theorem State.setTap_threads (t : Tap) : (s.setTap t).threads = s.threads := rfl
@[simp] theorem State.setTap_cores (t : Tap) : (s.setTap t).cores = s.cores := rfl
@[simp] theorem State.setTap_tiles (t : Tap) : (s.setTap t).tiles = s.tiles := rfl
@[simp] theorem State.setTap_caches (t : Tap) : (s.setTap t).caches = s.caches := rfl
@[simp] theorem State.setTap_granary (t : Tap) : (s.setTap t).granary = s.granary := rfl
@[simp] theorem State.setTap_seedbox (t : Tap) : (s.setTap t).seedbox = s.seedbox := rfl
@[simp] theorem State.setTap_drill (t : Tap) : (s.setTap t).drill = s.drill := rfl
@[simp] theorem State.setTap_loops (t : Tap) : (s.setTap t).loops = s.loops := rfl
@[simp] theorem State.setTap_host (t : Tap) : (s.setTap t).host = s.host := rfl
@[simp] theorem State.setTap_links (t : Tap) : (s.setTap t).links = s.links := rfl
@[simp] theorem State.setTap_yoke (t : Tap) : (s.setTap t).yoke = s.yoke := rfl
@[simp] theorem State.setTap_acre (t : Tap) : (s.setTap t).acre = s.acre := rfl
@[simp] theorem State.setTap_boot (t : Tap) : (s.setTap t).boot = s.boot := rfl
@[simp] theorem State.setTap_isl (t : Tap) : (s.setTap t).isl = s.isl := rfl
@[simp] theorem State.setTap_bnd (t : Tap) : (s.setTap t).bnd = s.bnd := rfl
@[simp] theorem State.setTap_vecs (t : Tap) : (s.setTap t).vecs = s.vecs := rfl
@[simp] theorem State.setTap_sent (t : Tap) : (s.setTap t).sent = s.sent := rfl
@[simp] theorem State.setTap_fresh (t : Tap) : (s.setTap t).fresh = s.fresh := rfl
@[simp] theorem State.setTap_pending (t : Tap) : (s.setTap t).pending = s.pending := rfl

/-! ### mapIsl -/

@[simp] theorem State.mapIsl_regs (f : Island → Island) : (s.mapIsl f).regs = s.regs := rfl
@[simp] theorem State.mapIsl_clk (f : Island → Island) : (s.mapIsl f).clk = s.clk := rfl
@[simp] theorem State.mapIsl_reeve (f : Island → Island) : (s.mapIsl f).reeve = s.reeve := rfl
@[simp] theorem State.mapIsl_threads (f : Island → Island) : (s.mapIsl f).threads = s.threads := rfl
@[simp] theorem State.mapIsl_cores (f : Island → Island) : (s.mapIsl f).cores = s.cores := rfl
@[simp] theorem State.mapIsl_tiles (f : Island → Island) : (s.mapIsl f).tiles = s.tiles := rfl
@[simp] theorem State.mapIsl_caches (f : Island → Island) : (s.mapIsl f).caches = s.caches := rfl
@[simp] theorem State.mapIsl_granary (f : Island → Island) : (s.mapIsl f).granary = s.granary := rfl
@[simp] theorem State.mapIsl_seedbox (f : Island → Island) : (s.mapIsl f).seedbox = s.seedbox := rfl
@[simp] theorem State.mapIsl_gln (f : Island → Island) : (s.mapIsl f).gln = s.gln := rfl
@[simp] theorem State.mapIsl_drill (f : Island → Island) : (s.mapIsl f).drill = s.drill := rfl
@[simp] theorem State.mapIsl_loops (f : Island → Island) : (s.mapIsl f).loops = s.loops := rfl
@[simp] theorem State.mapIsl_host (f : Island → Island) : (s.mapIsl f).host = s.host := rfl
@[simp] theorem State.mapIsl_links (f : Island → Island) : (s.mapIsl f).links = s.links := rfl
@[simp] theorem State.mapIsl_yoke (f : Island → Island) : (s.mapIsl f).yoke = s.yoke := rfl
@[simp] theorem State.mapIsl_acre (f : Island → Island) : (s.mapIsl f).acre = s.acre := rfl
@[simp] theorem State.mapIsl_boot (f : Island → Island) : (s.mapIsl f).boot = s.boot := rfl
@[simp] theorem State.mapIsl_bnd (f : Island → Island) : (s.mapIsl f).bnd = s.bnd := rfl
@[simp] theorem State.mapIsl_vecs (f : Island → Island) : (s.mapIsl f).vecs = s.vecs := rfl
@[simp] theorem State.mapIsl_sent (f : Island → Island) : (s.mapIsl f).sent = s.sent := rfl
@[simp] theorem State.mapIsl_fresh (f : Island → Island) : (s.mapIsl f).fresh = s.fresh := rfl
@[simp] theorem State.mapIsl_pending (f : Island → Island) : (s.mapIsl f).pending = s.pending := rfl

/-! ### setLink -/

@[simp] theorem State.setLink_regs (k : Nat) (l : LinkRec) : (s.setLink k l).regs = s.regs := rfl
@[simp] theorem State.setLink_clk (k : Nat) (l : LinkRec) : (s.setLink k l).clk = s.clk := rfl
@[simp] theorem State.setLink_reeve (k : Nat) (l : LinkRec) : (s.setLink k l).reeve = s.reeve := rfl
@[simp] theorem State.setLink_threads (k : Nat) (l : LinkRec) : (s.setLink k l).threads = s.threads := rfl
@[simp] theorem State.setLink_cores (k : Nat) (l : LinkRec) : (s.setLink k l).cores = s.cores := rfl
@[simp] theorem State.setLink_tiles (k : Nat) (l : LinkRec) : (s.setLink k l).tiles = s.tiles := rfl
@[simp] theorem State.setLink_caches (k : Nat) (l : LinkRec) : (s.setLink k l).caches = s.caches := rfl
@[simp] theorem State.setLink_granary (k : Nat) (l : LinkRec) : (s.setLink k l).granary = s.granary := rfl
@[simp] theorem State.setLink_seedbox (k : Nat) (l : LinkRec) : (s.setLink k l).seedbox = s.seedbox := rfl
@[simp] theorem State.setLink_gln (k : Nat) (l : LinkRec) : (s.setLink k l).gln = s.gln := rfl
@[simp] theorem State.setLink_drill (k : Nat) (l : LinkRec) : (s.setLink k l).drill = s.drill := rfl
@[simp] theorem State.setLink_loops (k : Nat) (l : LinkRec) : (s.setLink k l).loops = s.loops := rfl
@[simp] theorem State.setLink_host (k : Nat) (l : LinkRec) : (s.setLink k l).host = s.host := rfl
@[simp] theorem State.setLink_yoke (k : Nat) (l : LinkRec) : (s.setLink k l).yoke = s.yoke := rfl
@[simp] theorem State.setLink_acre (k : Nat) (l : LinkRec) : (s.setLink k l).acre = s.acre := rfl
@[simp] theorem State.setLink_boot (k : Nat) (l : LinkRec) : (s.setLink k l).boot = s.boot := rfl
@[simp] theorem State.setLink_isl (k : Nat) (l : LinkRec) : (s.setLink k l).isl = s.isl := rfl
@[simp] theorem State.setLink_bnd (k : Nat) (l : LinkRec) : (s.setLink k l).bnd = s.bnd := rfl
@[simp] theorem State.setLink_vecs (k : Nat) (l : LinkRec) : (s.setLink k l).vecs = s.vecs := rfl
@[simp] theorem State.setLink_sent (k : Nat) (l : LinkRec) : (s.setLink k l).sent = s.sent := rfl
@[simp] theorem State.setLink_fresh (k : Nat) (l : LinkRec) : (s.setLink k l).fresh = s.fresh := rfl
@[simp] theorem State.setLink_pending (k : Nat) (l : LinkRec) : (s.setLink k l).pending = s.pending := rfl

/-! ### setPeer -/

@[simp] theorem State.setPeer_regs (p : Nat) (r : PeerRec) : (s.setPeer p r).regs = s.regs := rfl
@[simp] theorem State.setPeer_clk (p : Nat) (r : PeerRec) : (s.setPeer p r).clk = s.clk := rfl
@[simp] theorem State.setPeer_reeve (p : Nat) (r : PeerRec) : (s.setPeer p r).reeve = s.reeve := rfl
@[simp] theorem State.setPeer_threads (p : Nat) (r : PeerRec) : (s.setPeer p r).threads = s.threads := rfl
@[simp] theorem State.setPeer_cores (p : Nat) (r : PeerRec) : (s.setPeer p r).cores = s.cores := rfl
@[simp] theorem State.setPeer_tiles (p : Nat) (r : PeerRec) : (s.setPeer p r).tiles = s.tiles := rfl
@[simp] theorem State.setPeer_caches (p : Nat) (r : PeerRec) : (s.setPeer p r).caches = s.caches := rfl
@[simp] theorem State.setPeer_granary (p : Nat) (r : PeerRec) : (s.setPeer p r).granary = s.granary := rfl
@[simp] theorem State.setPeer_seedbox (p : Nat) (r : PeerRec) : (s.setPeer p r).seedbox = s.seedbox := rfl
@[simp] theorem State.setPeer_gln (p : Nat) (r : PeerRec) : (s.setPeer p r).gln = s.gln := rfl
@[simp] theorem State.setPeer_drill (p : Nat) (r : PeerRec) : (s.setPeer p r).drill = s.drill := rfl
@[simp] theorem State.setPeer_loops (p : Nat) (r : PeerRec) : (s.setPeer p r).loops = s.loops := rfl
@[simp] theorem State.setPeer_host (p : Nat) (r : PeerRec) : (s.setPeer p r).host = s.host := rfl
@[simp] theorem State.setPeer_links (p : Nat) (r : PeerRec) : (s.setPeer p r).links = s.links := rfl
@[simp] theorem State.setPeer_yoke (p : Nat) (r : PeerRec) : (s.setPeer p r).yoke = s.yoke := rfl
@[simp] theorem State.setPeer_boot (p : Nat) (r : PeerRec) : (s.setPeer p r).boot = s.boot := rfl
@[simp] theorem State.setPeer_isl (p : Nat) (r : PeerRec) : (s.setPeer p r).isl = s.isl := rfl
@[simp] theorem State.setPeer_bnd (p : Nat) (r : PeerRec) : (s.setPeer p r).bnd = s.bnd := rfl
@[simp] theorem State.setPeer_vecs (p : Nat) (r : PeerRec) : (s.setPeer p r).vecs = s.vecs := rfl
@[simp] theorem State.setPeer_sent (p : Nat) (r : PeerRec) : (s.setPeer p r).sent = s.sent := rfl
@[simp] theorem State.setPeer_fresh (p : Nat) (r : PeerRec) : (s.setPeer p r).fresh = s.fresh := rfl
@[simp] theorem State.setPeer_pending (p : Nat) (r : PeerRec) : (s.setPeer p r).pending = s.pending := rfl

/-! ### setReqs -/

@[simp] theorem State.setReqs_regs (r : List SwReq) : (s.setReqs r).regs = s.regs := rfl
@[simp] theorem State.setReqs_clk (r : List SwReq) : (s.setReqs r).clk = s.clk := rfl
@[simp] theorem State.setReqs_reeve (r : List SwReq) : (s.setReqs r).reeve = s.reeve := rfl
@[simp] theorem State.setReqs_threads (r : List SwReq) : (s.setReqs r).threads = s.threads := rfl
@[simp] theorem State.setReqs_cores (r : List SwReq) : (s.setReqs r).cores = s.cores := rfl
@[simp] theorem State.setReqs_tiles (r : List SwReq) : (s.setReqs r).tiles = s.tiles := rfl
@[simp] theorem State.setReqs_caches (r : List SwReq) : (s.setReqs r).caches = s.caches := rfl
@[simp] theorem State.setReqs_granary (r : List SwReq) : (s.setReqs r).granary = s.granary := rfl
@[simp] theorem State.setReqs_seedbox (r : List SwReq) : (s.setReqs r).seedbox = s.seedbox := rfl
@[simp] theorem State.setReqs_gln (r : List SwReq) : (s.setReqs r).gln = s.gln := rfl
@[simp] theorem State.setReqs_drill (r : List SwReq) : (s.setReqs r).drill = s.drill := rfl
@[simp] theorem State.setReqs_loops (r : List SwReq) : (s.setReqs r).loops = s.loops := rfl
@[simp] theorem State.setReqs_host (r : List SwReq) : (s.setReqs r).host = s.host := rfl
@[simp] theorem State.setReqs_links (r : List SwReq) : (s.setReqs r).links = s.links := rfl
@[simp] theorem State.setReqs_yoke (r : List SwReq) : (s.setReqs r).yoke = s.yoke := rfl
@[simp] theorem State.setReqs_boot (r : List SwReq) : (s.setReqs r).boot = s.boot := rfl
@[simp] theorem State.setReqs_isl (r : List SwReq) : (s.setReqs r).isl = s.isl := rfl
@[simp] theorem State.setReqs_bnd (r : List SwReq) : (s.setReqs r).bnd = s.bnd := rfl
@[simp] theorem State.setReqs_vecs (r : List SwReq) : (s.setReqs r).vecs = s.vecs := rfl
@[simp] theorem State.setReqs_sent (r : List SwReq) : (s.setReqs r).sent = s.sent := rfl
@[simp] theorem State.setReqs_fresh (r : List SwReq) : (s.setReqs r).fresh = s.fresh := rfl
@[simp] theorem State.setReqs_pending (r : List SwReq) : (s.setReqs r).pending = s.pending := rfl

/-! ### setLog -/

@[simp] theorem State.setLog_regs (log : List (Nat × LogEntry)) : (s.setLog log).regs = s.regs := rfl
@[simp] theorem State.setLog_clk (log : List (Nat × LogEntry)) : (s.setLog log).clk = s.clk := rfl
@[simp] theorem State.setLog_threads (log : List (Nat × LogEntry)) : (s.setLog log).threads = s.threads := rfl
@[simp] theorem State.setLog_cores (log : List (Nat × LogEntry)) : (s.setLog log).cores = s.cores := rfl
@[simp] theorem State.setLog_tiles (log : List (Nat × LogEntry)) : (s.setLog log).tiles = s.tiles := rfl
@[simp] theorem State.setLog_caches (log : List (Nat × LogEntry)) : (s.setLog log).caches = s.caches := rfl
@[simp] theorem State.setLog_granary (log : List (Nat × LogEntry)) : (s.setLog log).granary = s.granary := rfl
@[simp] theorem State.setLog_seedbox (log : List (Nat × LogEntry)) : (s.setLog log).seedbox = s.seedbox := rfl
@[simp] theorem State.setLog_gln (log : List (Nat × LogEntry)) : (s.setLog log).gln = s.gln := rfl
@[simp] theorem State.setLog_drill (log : List (Nat × LogEntry)) : (s.setLog log).drill = s.drill := rfl
@[simp] theorem State.setLog_loops (log : List (Nat × LogEntry)) : (s.setLog log).loops = s.loops := rfl
@[simp] theorem State.setLog_host (log : List (Nat × LogEntry)) : (s.setLog log).host = s.host := rfl
@[simp] theorem State.setLog_links (log : List (Nat × LogEntry)) : (s.setLog log).links = s.links := rfl
@[simp] theorem State.setLog_yoke (log : List (Nat × LogEntry)) : (s.setLog log).yoke = s.yoke := rfl
@[simp] theorem State.setLog_acre (log : List (Nat × LogEntry)) : (s.setLog log).acre = s.acre := rfl
@[simp] theorem State.setLog_boot (log : List (Nat × LogEntry)) : (s.setLog log).boot = s.boot := rfl
@[simp] theorem State.setLog_isl (log : List (Nat × LogEntry)) : (s.setLog log).isl = s.isl := rfl
@[simp] theorem State.setLog_bnd (log : List (Nat × LogEntry)) : (s.setLog log).bnd = s.bnd := rfl
@[simp] theorem State.setLog_vecs (log : List (Nat × LogEntry)) : (s.setLog log).vecs = s.vecs := rfl
@[simp] theorem State.setLog_sent (log : List (Nat × LogEntry)) : (s.setLog log).sent = s.sent := rfl
@[simp] theorem State.setLog_fresh (log : List (Nat × LogEntry)) : (s.setLog log).fresh = s.fresh := rfl
@[simp] theorem State.setLog_pending (log : List (Nat × LogEntry)) : (s.setLog log).pending = s.pending := rfl

/-! ### setFn -/

@[simp] theorem State.setFn_regs (p : Nat) (r : FnRec) : (s.setFn p r).regs = s.regs := rfl
@[simp] theorem State.setFn_clk (p : Nat) (r : FnRec) : (s.setFn p r).clk = s.clk := rfl
@[simp] theorem State.setFn_reeve (p : Nat) (r : FnRec) : (s.setFn p r).reeve = s.reeve := rfl
@[simp] theorem State.setFn_threads (p : Nat) (r : FnRec) : (s.setFn p r).threads = s.threads := rfl
@[simp] theorem State.setFn_cores (p : Nat) (r : FnRec) : (s.setFn p r).cores = s.cores := rfl
@[simp] theorem State.setFn_tiles (p : Nat) (r : FnRec) : (s.setFn p r).tiles = s.tiles := rfl
@[simp] theorem State.setFn_caches (p : Nat) (r : FnRec) : (s.setFn p r).caches = s.caches := rfl
@[simp] theorem State.setFn_granary (p : Nat) (r : FnRec) : (s.setFn p r).granary = s.granary := rfl
@[simp] theorem State.setFn_seedbox (p : Nat) (r : FnRec) : (s.setFn p r).seedbox = s.seedbox := rfl
@[simp] theorem State.setFn_gln (p : Nat) (r : FnRec) : (s.setFn p r).gln = s.gln := rfl
@[simp] theorem State.setFn_drill (p : Nat) (r : FnRec) : (s.setFn p r).drill = s.drill := rfl
@[simp] theorem State.setFn_loops (p : Nat) (r : FnRec) : (s.setFn p r).loops = s.loops := rfl
@[simp] theorem State.setFn_links (p : Nat) (r : FnRec) : (s.setFn p r).links = s.links := rfl
@[simp] theorem State.setFn_yoke (p : Nat) (r : FnRec) : (s.setFn p r).yoke = s.yoke := rfl
@[simp] theorem State.setFn_acre (p : Nat) (r : FnRec) : (s.setFn p r).acre = s.acre := rfl
@[simp] theorem State.setFn_boot (p : Nat) (r : FnRec) : (s.setFn p r).boot = s.boot := rfl
@[simp] theorem State.setFn_isl (p : Nat) (r : FnRec) : (s.setFn p r).isl = s.isl := rfl
@[simp] theorem State.setFn_bnd (p : Nat) (r : FnRec) : (s.setFn p r).bnd = s.bnd := rfl
@[simp] theorem State.setFn_vecs (p : Nat) (r : FnRec) : (s.setFn p r).vecs = s.vecs := rfl
@[simp] theorem State.setFn_sent (p : Nat) (r : FnRec) : (s.setFn p r).sent = s.sent := rfl
@[simp] theorem State.setFn_fresh (p : Nat) (r : FnRec) : (s.setFn p r).fresh = s.fresh := rfl
@[simp] theorem State.setFn_pending (p : Nat) (r : FnRec) : (s.setFn p r).pending = s.pending := rfl

/-! ### setBnd -/

@[simp] theorem State.setBnd_regs (n : Nat) (b : BndOp) : (s.setBnd n b).regs = s.regs := rfl
@[simp] theorem State.setBnd_clk (n : Nat) (b : BndOp) : (s.setBnd n b).clk = s.clk := rfl
@[simp] theorem State.setBnd_reeve (n : Nat) (b : BndOp) : (s.setBnd n b).reeve = s.reeve := rfl
@[simp] theorem State.setBnd_threads (n : Nat) (b : BndOp) : (s.setBnd n b).threads = s.threads := rfl
@[simp] theorem State.setBnd_cores (n : Nat) (b : BndOp) : (s.setBnd n b).cores = s.cores := rfl
@[simp] theorem State.setBnd_tiles (n : Nat) (b : BndOp) : (s.setBnd n b).tiles = s.tiles := rfl
@[simp] theorem State.setBnd_caches (n : Nat) (b : BndOp) : (s.setBnd n b).caches = s.caches := rfl
@[simp] theorem State.setBnd_granary (n : Nat) (b : BndOp) : (s.setBnd n b).granary = s.granary := rfl
@[simp] theorem State.setBnd_seedbox (n : Nat) (b : BndOp) : (s.setBnd n b).seedbox = s.seedbox := rfl
@[simp] theorem State.setBnd_gln (n : Nat) (b : BndOp) : (s.setBnd n b).gln = s.gln := rfl
@[simp] theorem State.setBnd_drill (n : Nat) (b : BndOp) : (s.setBnd n b).drill = s.drill := rfl
@[simp] theorem State.setBnd_loops (n : Nat) (b : BndOp) : (s.setBnd n b).loops = s.loops := rfl
@[simp] theorem State.setBnd_host (n : Nat) (b : BndOp) : (s.setBnd n b).host = s.host := rfl
@[simp] theorem State.setBnd_links (n : Nat) (b : BndOp) : (s.setBnd n b).links = s.links := rfl
@[simp] theorem State.setBnd_yoke (n : Nat) (b : BndOp) : (s.setBnd n b).yoke = s.yoke := rfl
@[simp] theorem State.setBnd_acre (n : Nat) (b : BndOp) : (s.setBnd n b).acre = s.acre := rfl
@[simp] theorem State.setBnd_boot (n : Nat) (b : BndOp) : (s.setBnd n b).boot = s.boot := rfl
@[simp] theorem State.setBnd_isl (n : Nat) (b : BndOp) : (s.setBnd n b).isl = s.isl := rfl
@[simp] theorem State.setBnd_vecs (n : Nat) (b : BndOp) : (s.setBnd n b).vecs = s.vecs := rfl
@[simp] theorem State.setBnd_sent (n : Nat) (b : BndOp) : (s.setBnd n b).sent = s.sent := rfl
@[simp] theorem State.setBnd_fresh (n : Nat) (b : BndOp) : (s.setBnd n b).fresh = s.fresh := rfl
@[simp] theorem State.setBnd_pending (n : Nat) (b : BndOp) : (s.setBnd n b).pending = s.pending := rfl

/-! ### setStream -/

@[simp] theorem State.setStream_regs (n : Nat) (x : Stream) : (s.setStream n x).regs = s.regs := rfl
@[simp] theorem State.setStream_clk (n : Nat) (x : Stream) : (s.setStream n x).clk = s.clk := rfl
@[simp] theorem State.setStream_reeve (n : Nat) (x : Stream) : (s.setStream n x).reeve = s.reeve := rfl
@[simp] theorem State.setStream_threads (n : Nat) (x : Stream) : (s.setStream n x).threads = s.threads := rfl
@[simp] theorem State.setStream_cores (n : Nat) (x : Stream) : (s.setStream n x).cores = s.cores := rfl
@[simp] theorem State.setStream_tiles (n : Nat) (x : Stream) : (s.setStream n x).tiles = s.tiles := rfl
@[simp] theorem State.setStream_caches (n : Nat) (x : Stream) : (s.setStream n x).caches = s.caches := rfl
@[simp] theorem State.setStream_granary (n : Nat) (x : Stream) : (s.setStream n x).granary = s.granary := rfl
@[simp] theorem State.setStream_seedbox (n : Nat) (x : Stream) : (s.setStream n x).seedbox = s.seedbox := rfl
@[simp] theorem State.setStream_gln (n : Nat) (x : Stream) : (s.setStream n x).gln = s.gln := rfl
@[simp] theorem State.setStream_drill (n : Nat) (x : Stream) : (s.setStream n x).drill = s.drill := rfl
@[simp] theorem State.setStream_loops (n : Nat) (x : Stream) : (s.setStream n x).loops = s.loops := rfl
@[simp] theorem State.setStream_links (n : Nat) (x : Stream) : (s.setStream n x).links = s.links := rfl
@[simp] theorem State.setStream_yoke (n : Nat) (x : Stream) : (s.setStream n x).yoke = s.yoke := rfl
@[simp] theorem State.setStream_acre (n : Nat) (x : Stream) : (s.setStream n x).acre = s.acre := rfl
@[simp] theorem State.setStream_boot (n : Nat) (x : Stream) : (s.setStream n x).boot = s.boot := rfl
@[simp] theorem State.setStream_isl (n : Nat) (x : Stream) : (s.setStream n x).isl = s.isl := rfl
@[simp] theorem State.setStream_bnd (n : Nat) (x : Stream) : (s.setStream n x).bnd = s.bnd := rfl
@[simp] theorem State.setStream_vecs (n : Nat) (x : Stream) : (s.setStream n x).vecs = s.vecs := rfl
@[simp] theorem State.setStream_sent (n : Nat) (x : Stream) : (s.setStream n x).sent = s.sent := rfl
@[simp] theorem State.setStream_fresh (n : Nat) (x : Stream) : (s.setStream n x).fresh = s.fresh := rfl
@[simp] theorem State.setStream_pending (n : Nat) (x : Stream) : (s.setStream n x).pending = s.pending := rfl

/-! ### setLoop -/

@[simp] theorem State.setLoop_clk (l : Nat) (x : FrameLoop) : (s.setLoop l x).clk = s.clk := rfl
@[simp] theorem State.setLoop_reeve (l : Nat) (x : FrameLoop) : (s.setLoop l x).reeve = s.reeve := rfl
@[simp] theorem State.setLoop_threads (l : Nat) (x : FrameLoop) : (s.setLoop l x).threads = s.threads := rfl
@[simp] theorem State.setLoop_cores (l : Nat) (x : FrameLoop) : (s.setLoop l x).cores = s.cores := rfl
@[simp] theorem State.setLoop_tiles (l : Nat) (x : FrameLoop) : (s.setLoop l x).tiles = s.tiles := rfl
@[simp] theorem State.setLoop_caches (l : Nat) (x : FrameLoop) : (s.setLoop l x).caches = s.caches := rfl
@[simp] theorem State.setLoop_granary (l : Nat) (x : FrameLoop) : (s.setLoop l x).granary = s.granary := rfl
@[simp] theorem State.setLoop_seedbox (l : Nat) (x : FrameLoop) : (s.setLoop l x).seedbox = s.seedbox := rfl
@[simp] theorem State.setLoop_gln (l : Nat) (x : FrameLoop) : (s.setLoop l x).gln = s.gln := rfl
@[simp] theorem State.setLoop_drill (l : Nat) (x : FrameLoop) : (s.setLoop l x).drill = s.drill := rfl
@[simp] theorem State.setLoop_host (l : Nat) (x : FrameLoop) : (s.setLoop l x).host = s.host := rfl
@[simp] theorem State.setLoop_links (l : Nat) (x : FrameLoop) : (s.setLoop l x).links = s.links := rfl
@[simp] theorem State.setLoop_yoke (l : Nat) (x : FrameLoop) : (s.setLoop l x).yoke = s.yoke := rfl
@[simp] theorem State.setLoop_acre (l : Nat) (x : FrameLoop) : (s.setLoop l x).acre = s.acre := rfl
@[simp] theorem State.setLoop_boot (l : Nat) (x : FrameLoop) : (s.setLoop l x).boot = s.boot := rfl
@[simp] theorem State.setLoop_isl (l : Nat) (x : FrameLoop) : (s.setLoop l x).isl = s.isl := rfl
@[simp] theorem State.setLoop_bnd (l : Nat) (x : FrameLoop) : (s.setLoop l x).bnd = s.bnd := rfl
@[simp] theorem State.setLoop_vecs (l : Nat) (x : FrameLoop) : (s.setLoop l x).vecs = s.vecs := rfl
@[simp] theorem State.setLoop_sent (l : Nat) (x : FrameLoop) : (s.setLoop l x).sent = s.sent := rfl
@[simp] theorem State.setLoop_fresh (l : Nat) (x : FrameLoop) : (s.setLoop l x).fresh = s.fresh := rfl
@[simp] theorem State.setLoop_pending (l : Nat) (x : FrameLoop) : (s.setLoop l x).pending = s.pending := rfl

/-! ### setPlot -/

@[simp] theorem State.setPlot_regs (p : Nat) (r : PlotRec) : (s.setPlot p r).regs = s.regs := rfl
@[simp] theorem State.setPlot_clk (p : Nat) (r : PlotRec) : (s.setPlot p r).clk = s.clk := rfl
@[simp] theorem State.setPlot_reeve (p : Nat) (r : PlotRec) : (s.setPlot p r).reeve = s.reeve := rfl
@[simp] theorem State.setPlot_threads (p : Nat) (r : PlotRec) : (s.setPlot p r).threads = s.threads := rfl
@[simp] theorem State.setPlot_cores (p : Nat) (r : PlotRec) : (s.setPlot p r).cores = s.cores := rfl
@[simp] theorem State.setPlot_tiles (p : Nat) (r : PlotRec) : (s.setPlot p r).tiles = s.tiles := rfl
@[simp] theorem State.setPlot_caches (p : Nat) (r : PlotRec) : (s.setPlot p r).caches = s.caches := rfl
@[simp] theorem State.setPlot_granary (p : Nat) (r : PlotRec) : (s.setPlot p r).granary = s.granary := rfl
@[simp] theorem State.setPlot_seedbox (p : Nat) (r : PlotRec) : (s.setPlot p r).seedbox = s.seedbox := rfl
@[simp] theorem State.setPlot_gln (p : Nat) (r : PlotRec) : (s.setPlot p r).gln = s.gln := rfl
@[simp] theorem State.setPlot_loops (p : Nat) (r : PlotRec) : (s.setPlot p r).loops = s.loops := rfl
@[simp] theorem State.setPlot_host (p : Nat) (r : PlotRec) : (s.setPlot p r).host = s.host := rfl
@[simp] theorem State.setPlot_links (p : Nat) (r : PlotRec) : (s.setPlot p r).links = s.links := rfl
@[simp] theorem State.setPlot_yoke (p : Nat) (r : PlotRec) : (s.setPlot p r).yoke = s.yoke := rfl
@[simp] theorem State.setPlot_acre (p : Nat) (r : PlotRec) : (s.setPlot p r).acre = s.acre := rfl
@[simp] theorem State.setPlot_boot (p : Nat) (r : PlotRec) : (s.setPlot p r).boot = s.boot := rfl
@[simp] theorem State.setPlot_isl (p : Nat) (r : PlotRec) : (s.setPlot p r).isl = s.isl := rfl
@[simp] theorem State.setPlot_bnd (p : Nat) (r : PlotRec) : (s.setPlot p r).bnd = s.bnd := rfl
@[simp] theorem State.setPlot_vecs (p : Nat) (r : PlotRec) : (s.setPlot p r).vecs = s.vecs := rfl
@[simp] theorem State.setPlot_sent (p : Nat) (r : PlotRec) : (s.setPlot p r).sent = s.sent := rfl
@[simp] theorem State.setPlot_fresh (p : Nat) (r : PlotRec) : (s.setPlot p r).fresh = s.fresh := rfl
@[simp] theorem State.setPlot_pending (p : Nat) (r : PlotRec) : (s.setPlot p r).pending = s.pending := rfl

/-! ### setQueue -/

@[simp] theorem State.setQueue_regs (q : Nat) (r : QueueRec) : (s.setQueue q r).regs = s.regs := rfl
@[simp] theorem State.setQueue_clk (q : Nat) (r : QueueRec) : (s.setQueue q r).clk = s.clk := rfl
@[simp] theorem State.setQueue_reeve (q : Nat) (r : QueueRec) : (s.setQueue q r).reeve = s.reeve := rfl
@[simp] theorem State.setQueue_threads (q : Nat) (r : QueueRec) : (s.setQueue q r).threads = s.threads := rfl
@[simp] theorem State.setQueue_cores (q : Nat) (r : QueueRec) : (s.setQueue q r).cores = s.cores := rfl
@[simp] theorem State.setQueue_tiles (q : Nat) (r : QueueRec) : (s.setQueue q r).tiles = s.tiles := rfl
@[simp] theorem State.setQueue_caches (q : Nat) (r : QueueRec) : (s.setQueue q r).caches = s.caches := rfl
@[simp] theorem State.setQueue_granary (q : Nat) (r : QueueRec) : (s.setQueue q r).granary = s.granary := rfl
@[simp] theorem State.setQueue_seedbox (q : Nat) (r : QueueRec) : (s.setQueue q r).seedbox = s.seedbox := rfl
@[simp] theorem State.setQueue_gln (q : Nat) (r : QueueRec) : (s.setQueue q r).gln = s.gln := rfl
@[simp] theorem State.setQueue_loops (q : Nat) (r : QueueRec) : (s.setQueue q r).loops = s.loops := rfl
@[simp] theorem State.setQueue_host (q : Nat) (r : QueueRec) : (s.setQueue q r).host = s.host := rfl
@[simp] theorem State.setQueue_links (q : Nat) (r : QueueRec) : (s.setQueue q r).links = s.links := rfl
@[simp] theorem State.setQueue_yoke (q : Nat) (r : QueueRec) : (s.setQueue q r).yoke = s.yoke := rfl
@[simp] theorem State.setQueue_acre (q : Nat) (r : QueueRec) : (s.setQueue q r).acre = s.acre := rfl
@[simp] theorem State.setQueue_boot (q : Nat) (r : QueueRec) : (s.setQueue q r).boot = s.boot := rfl
@[simp] theorem State.setQueue_isl (q : Nat) (r : QueueRec) : (s.setQueue q r).isl = s.isl := rfl
@[simp] theorem State.setQueue_bnd (q : Nat) (r : QueueRec) : (s.setQueue q r).bnd = s.bnd := rfl
@[simp] theorem State.setQueue_vecs (q : Nat) (r : QueueRec) : (s.setQueue q r).vecs = s.vecs := rfl
@[simp] theorem State.setQueue_sent (q : Nat) (r : QueueRec) : (s.setQueue q r).sent = s.sent := rfl
@[simp] theorem State.setQueue_fresh (q : Nat) (r : QueueRec) : (s.setQueue q r).fresh = s.fresh := rfl
@[simp] theorem State.setQueue_pending (q : Nat) (r : QueueRec) : (s.setQueue q r).pending = s.pending := rfl

/-! ### setEntry -/

@[simp] theorem State.setEntry_regs (e : Nat) (x : Entry) : (s.setEntry e x).regs = s.regs := rfl
@[simp] theorem State.setEntry_clk (e : Nat) (x : Entry) : (s.setEntry e x).clk = s.clk := rfl
@[simp] theorem State.setEntry_reeve (e : Nat) (x : Entry) : (s.setEntry e x).reeve = s.reeve := rfl
@[simp] theorem State.setEntry_threads (e : Nat) (x : Entry) : (s.setEntry e x).threads = s.threads := rfl
@[simp] theorem State.setEntry_cores (e : Nat) (x : Entry) : (s.setEntry e x).cores = s.cores := rfl
@[simp] theorem State.setEntry_tiles (e : Nat) (x : Entry) : (s.setEntry e x).tiles = s.tiles := rfl
@[simp] theorem State.setEntry_caches (e : Nat) (x : Entry) : (s.setEntry e x).caches = s.caches := rfl
@[simp] theorem State.setEntry_granary (e : Nat) (x : Entry) : (s.setEntry e x).granary = s.granary := rfl
@[simp] theorem State.setEntry_seedbox (e : Nat) (x : Entry) : (s.setEntry e x).seedbox = s.seedbox := rfl
@[simp] theorem State.setEntry_gln (e : Nat) (x : Entry) : (s.setEntry e x).gln = s.gln := rfl
@[simp] theorem State.setEntry_loops (e : Nat) (x : Entry) : (s.setEntry e x).loops = s.loops := rfl
@[simp] theorem State.setEntry_host (e : Nat) (x : Entry) : (s.setEntry e x).host = s.host := rfl
@[simp] theorem State.setEntry_links (e : Nat) (x : Entry) : (s.setEntry e x).links = s.links := rfl
@[simp] theorem State.setEntry_yoke (e : Nat) (x : Entry) : (s.setEntry e x).yoke = s.yoke := rfl
@[simp] theorem State.setEntry_acre (e : Nat) (x : Entry) : (s.setEntry e x).acre = s.acre := rfl
@[simp] theorem State.setEntry_boot (e : Nat) (x : Entry) : (s.setEntry e x).boot = s.boot := rfl
@[simp] theorem State.setEntry_isl (e : Nat) (x : Entry) : (s.setEntry e x).isl = s.isl := rfl
@[simp] theorem State.setEntry_bnd (e : Nat) (x : Entry) : (s.setEntry e x).bnd = s.bnd := rfl
@[simp] theorem State.setEntry_vecs (e : Nat) (x : Entry) : (s.setEntry e x).vecs = s.vecs := rfl
@[simp] theorem State.setEntry_sent (e : Nat) (x : Entry) : (s.setEntry e x).sent = s.sent := rfl
@[simp] theorem State.setEntry_fresh (e : Nat) (x : Entry) : (s.setEntry e x).fresh = s.fresh := rfl
@[simp] theorem State.setEntry_pending (e : Nat) (x : Entry) : (s.setEntry e x).pending = s.pending := rfl

/-! ### setMove -/

@[simp] theorem State.setMove_regs (c : Nat) (m : ChanMove) : (s.setMove c m).regs = s.regs := rfl
@[simp] theorem State.setMove_clk (c : Nat) (m : ChanMove) : (s.setMove c m).clk = s.clk := rfl
@[simp] theorem State.setMove_reeve (c : Nat) (m : ChanMove) : (s.setMove c m).reeve = s.reeve := rfl
@[simp] theorem State.setMove_threads (c : Nat) (m : ChanMove) : (s.setMove c m).threads = s.threads := rfl
@[simp] theorem State.setMove_cores (c : Nat) (m : ChanMove) : (s.setMove c m).cores = s.cores := rfl
@[simp] theorem State.setMove_tiles (c : Nat) (m : ChanMove) : (s.setMove c m).tiles = s.tiles := rfl
@[simp] theorem State.setMove_caches (c : Nat) (m : ChanMove) : (s.setMove c m).caches = s.caches := rfl
@[simp] theorem State.setMove_seedbox (c : Nat) (m : ChanMove) : (s.setMove c m).seedbox = s.seedbox := rfl
@[simp] theorem State.setMove_gln (c : Nat) (m : ChanMove) : (s.setMove c m).gln = s.gln := rfl
@[simp] theorem State.setMove_drill (c : Nat) (m : ChanMove) : (s.setMove c m).drill = s.drill := rfl
@[simp] theorem State.setMove_loops (c : Nat) (m : ChanMove) : (s.setMove c m).loops = s.loops := rfl
@[simp] theorem State.setMove_host (c : Nat) (m : ChanMove) : (s.setMove c m).host = s.host := rfl
@[simp] theorem State.setMove_links (c : Nat) (m : ChanMove) : (s.setMove c m).links = s.links := rfl
@[simp] theorem State.setMove_yoke (c : Nat) (m : ChanMove) : (s.setMove c m).yoke = s.yoke := rfl
@[simp] theorem State.setMove_acre (c : Nat) (m : ChanMove) : (s.setMove c m).acre = s.acre := rfl
@[simp] theorem State.setMove_boot (c : Nat) (m : ChanMove) : (s.setMove c m).boot = s.boot := rfl
@[simp] theorem State.setMove_isl (c : Nat) (m : ChanMove) : (s.setMove c m).isl = s.isl := rfl
@[simp] theorem State.setMove_bnd (c : Nat) (m : ChanMove) : (s.setMove c m).bnd = s.bnd := rfl
@[simp] theorem State.setMove_vecs (c : Nat) (m : ChanMove) : (s.setMove c m).vecs = s.vecs := rfl
@[simp] theorem State.setMove_sent (c : Nat) (m : ChanMove) : (s.setMove c m).sent = s.sent := rfl
@[simp] theorem State.setMove_fresh (c : Nat) (m : ChanMove) : (s.setMove c m).fresh = s.fresh := rfl
@[simp] theorem State.setMove_pending (c : Nat) (m : ChanMove) : (s.setMove c m).pending = s.pending := rfl

/-! ### setSeq -/

@[simp] theorem State.setSeq_regs (c : Nat) (q : TillSeq) : (s.setSeq c q).regs = s.regs := rfl
@[simp] theorem State.setSeq_clk (c : Nat) (q : TillSeq) : (s.setSeq c q).clk = s.clk := rfl
@[simp] theorem State.setSeq_reeve (c : Nat) (q : TillSeq) : (s.setSeq c q).reeve = s.reeve := rfl
@[simp] theorem State.setSeq_threads (c : Nat) (q : TillSeq) : (s.setSeq c q).threads = s.threads := rfl
@[simp] theorem State.setSeq_cores (c : Nat) (q : TillSeq) : (s.setSeq c q).cores = s.cores := rfl
@[simp] theorem State.setSeq_tiles (c : Nat) (q : TillSeq) : (s.setSeq c q).tiles = s.tiles := rfl
@[simp] theorem State.setSeq_caches (c : Nat) (q : TillSeq) : (s.setSeq c q).caches = s.caches := rfl
@[simp] theorem State.setSeq_seedbox (c : Nat) (q : TillSeq) : (s.setSeq c q).seedbox = s.seedbox := rfl
@[simp] theorem State.setSeq_gln (c : Nat) (q : TillSeq) : (s.setSeq c q).gln = s.gln := rfl
@[simp] theorem State.setSeq_drill (c : Nat) (q : TillSeq) : (s.setSeq c q).drill = s.drill := rfl
@[simp] theorem State.setSeq_loops (c : Nat) (q : TillSeq) : (s.setSeq c q).loops = s.loops := rfl
@[simp] theorem State.setSeq_host (c : Nat) (q : TillSeq) : (s.setSeq c q).host = s.host := rfl
@[simp] theorem State.setSeq_links (c : Nat) (q : TillSeq) : (s.setSeq c q).links = s.links := rfl
@[simp] theorem State.setSeq_yoke (c : Nat) (q : TillSeq) : (s.setSeq c q).yoke = s.yoke := rfl
@[simp] theorem State.setSeq_acre (c : Nat) (q : TillSeq) : (s.setSeq c q).acre = s.acre := rfl
@[simp] theorem State.setSeq_boot (c : Nat) (q : TillSeq) : (s.setSeq c q).boot = s.boot := rfl
@[simp] theorem State.setSeq_isl (c : Nat) (q : TillSeq) : (s.setSeq c q).isl = s.isl := rfl
@[simp] theorem State.setSeq_bnd (c : Nat) (q : TillSeq) : (s.setSeq c q).bnd = s.bnd := rfl
@[simp] theorem State.setSeq_vecs (c : Nat) (q : TillSeq) : (s.setSeq c q).vecs = s.vecs := rfl
@[simp] theorem State.setSeq_sent (c : Nat) (q : TillSeq) : (s.setSeq c q).sent = s.sent := rfl
@[simp] theorem State.setSeq_fresh (c : Nat) (q : TillSeq) : (s.setSeq c q).fresh = s.fresh := rfl
@[simp] theorem State.setSeq_pending (c : Nat) (q : TillSeq) : (s.setSeq c q).pending = s.pending := rfl

/-! ### setMem -/

@[simp] theorem State.setMem_regs (m : List Host.Cell) : (s.setMem m).regs = s.regs := rfl
@[simp] theorem State.setMem_clk (m : List Host.Cell) : (s.setMem m).clk = s.clk := rfl
@[simp] theorem State.setMem_reeve (m : List Host.Cell) : (s.setMem m).reeve = s.reeve := rfl
@[simp] theorem State.setMem_threads (m : List Host.Cell) : (s.setMem m).threads = s.threads := rfl
@[simp] theorem State.setMem_cores (m : List Host.Cell) : (s.setMem m).cores = s.cores := rfl
@[simp] theorem State.setMem_tiles (m : List Host.Cell) : (s.setMem m).tiles = s.tiles := rfl
@[simp] theorem State.setMem_caches (m : List Host.Cell) : (s.setMem m).caches = s.caches := rfl
@[simp] theorem State.setMem_seedbox (m : List Host.Cell) : (s.setMem m).seedbox = s.seedbox := rfl
@[simp] theorem State.setMem_gln (m : List Host.Cell) : (s.setMem m).gln = s.gln := rfl
@[simp] theorem State.setMem_drill (m : List Host.Cell) : (s.setMem m).drill = s.drill := rfl
@[simp] theorem State.setMem_loops (m : List Host.Cell) : (s.setMem m).loops = s.loops := rfl
@[simp] theorem State.setMem_host (m : List Host.Cell) : (s.setMem m).host = s.host := rfl
@[simp] theorem State.setMem_links (m : List Host.Cell) : (s.setMem m).links = s.links := rfl
@[simp] theorem State.setMem_yoke (m : List Host.Cell) : (s.setMem m).yoke = s.yoke := rfl
@[simp] theorem State.setMem_acre (m : List Host.Cell) : (s.setMem m).acre = s.acre := rfl
@[simp] theorem State.setMem_boot (m : List Host.Cell) : (s.setMem m).boot = s.boot := rfl
@[simp] theorem State.setMem_isl (m : List Host.Cell) : (s.setMem m).isl = s.isl := rfl
@[simp] theorem State.setMem_bnd (m : List Host.Cell) : (s.setMem m).bnd = s.bnd := rfl
@[simp] theorem State.setMem_vecs (m : List Host.Cell) : (s.setMem m).vecs = s.vecs := rfl
@[simp] theorem State.setMem_sent (m : List Host.Cell) : (s.setMem m).sent = s.sent := rfl
@[simp] theorem State.setMem_fresh (m : List Host.Cell) : (s.setMem m).fresh = s.fresh := rfl
@[simp] theorem State.setMem_pending (m : List Host.Cell) : (s.setMem m).pending = s.pending := rfl

/-! ### setPoison -/

@[simp] theorem State.setPoison_regs (key : Nat) (b : Bool) : (s.setPoison key b).regs = s.regs := rfl
@[simp] theorem State.setPoison_clk (key : Nat) (b : Bool) : (s.setPoison key b).clk = s.clk := rfl
@[simp] theorem State.setPoison_reeve (key : Nat) (b : Bool) : (s.setPoison key b).reeve = s.reeve := rfl
@[simp] theorem State.setPoison_threads (key : Nat) (b : Bool) : (s.setPoison key b).threads = s.threads := rfl
@[simp] theorem State.setPoison_cores (key : Nat) (b : Bool) : (s.setPoison key b).cores = s.cores := rfl
@[simp] theorem State.setPoison_tiles (key : Nat) (b : Bool) : (s.setPoison key b).tiles = s.tiles := rfl
@[simp] theorem State.setPoison_caches (key : Nat) (b : Bool) : (s.setPoison key b).caches = s.caches := rfl
@[simp] theorem State.setPoison_seedbox (key : Nat) (b : Bool) : (s.setPoison key b).seedbox = s.seedbox := rfl
@[simp] theorem State.setPoison_gln (key : Nat) (b : Bool) : (s.setPoison key b).gln = s.gln := rfl
@[simp] theorem State.setPoison_drill (key : Nat) (b : Bool) : (s.setPoison key b).drill = s.drill := rfl
@[simp] theorem State.setPoison_loops (key : Nat) (b : Bool) : (s.setPoison key b).loops = s.loops := rfl
@[simp] theorem State.setPoison_host (key : Nat) (b : Bool) : (s.setPoison key b).host = s.host := rfl
@[simp] theorem State.setPoison_links (key : Nat) (b : Bool) : (s.setPoison key b).links = s.links := rfl
@[simp] theorem State.setPoison_yoke (key : Nat) (b : Bool) : (s.setPoison key b).yoke = s.yoke := rfl
@[simp] theorem State.setPoison_acre (key : Nat) (b : Bool) : (s.setPoison key b).acre = s.acre := rfl
@[simp] theorem State.setPoison_boot (key : Nat) (b : Bool) : (s.setPoison key b).boot = s.boot := rfl
@[simp] theorem State.setPoison_isl (key : Nat) (b : Bool) : (s.setPoison key b).isl = s.isl := rfl
@[simp] theorem State.setPoison_bnd (key : Nat) (b : Bool) : (s.setPoison key b).bnd = s.bnd := rfl
@[simp] theorem State.setPoison_vecs (key : Nat) (b : Bool) : (s.setPoison key b).vecs = s.vecs := rfl
@[simp] theorem State.setPoison_sent (key : Nat) (b : Bool) : (s.setPoison key b).sent = s.sent := rfl
@[simp] theorem State.setPoison_fresh (key : Nat) (b : Bool) : (s.setPoison key b).fresh = s.fresh := rfl
@[simp] theorem State.setPoison_pending (key : Nat) (b : Bool) : (s.setPoison key b).pending = s.pending := rfl

/-! ### setFc -/

@[simp] theorem State.setFc_regs (fc : List (Nat × FcLine)) : (s.setFc fc).regs = s.regs := rfl
@[simp] theorem State.setFc_clk (fc : List (Nat × FcLine)) : (s.setFc fc).clk = s.clk := rfl
@[simp] theorem State.setFc_reeve (fc : List (Nat × FcLine)) : (s.setFc fc).reeve = s.reeve := rfl
@[simp] theorem State.setFc_threads (fc : List (Nat × FcLine)) : (s.setFc fc).threads = s.threads := rfl
@[simp] theorem State.setFc_cores (fc : List (Nat × FcLine)) : (s.setFc fc).cores = s.cores := rfl
@[simp] theorem State.setFc_tiles (fc : List (Nat × FcLine)) : (s.setFc fc).tiles = s.tiles := rfl
@[simp] theorem State.setFc_granary (fc : List (Nat × FcLine)) : (s.setFc fc).granary = s.granary := rfl
@[simp] theorem State.setFc_seedbox (fc : List (Nat × FcLine)) : (s.setFc fc).seedbox = s.seedbox := rfl
@[simp] theorem State.setFc_gln (fc : List (Nat × FcLine)) : (s.setFc fc).gln = s.gln := rfl
@[simp] theorem State.setFc_drill (fc : List (Nat × FcLine)) : (s.setFc fc).drill = s.drill := rfl
@[simp] theorem State.setFc_loops (fc : List (Nat × FcLine)) : (s.setFc fc).loops = s.loops := rfl
@[simp] theorem State.setFc_host (fc : List (Nat × FcLine)) : (s.setFc fc).host = s.host := rfl
@[simp] theorem State.setFc_links (fc : List (Nat × FcLine)) : (s.setFc fc).links = s.links := rfl
@[simp] theorem State.setFc_yoke (fc : List (Nat × FcLine)) : (s.setFc fc).yoke = s.yoke := rfl
@[simp] theorem State.setFc_acre (fc : List (Nat × FcLine)) : (s.setFc fc).acre = s.acre := rfl
@[simp] theorem State.setFc_boot (fc : List (Nat × FcLine)) : (s.setFc fc).boot = s.boot := rfl
@[simp] theorem State.setFc_isl (fc : List (Nat × FcLine)) : (s.setFc fc).isl = s.isl := rfl
@[simp] theorem State.setFc_bnd (fc : List (Nat × FcLine)) : (s.setFc fc).bnd = s.bnd := rfl
@[simp] theorem State.setFc_vecs (fc : List (Nat × FcLine)) : (s.setFc fc).vecs = s.vecs := rfl
@[simp] theorem State.setFc_sent (fc : List (Nat × FcLine)) : (s.setFc fc).sent = s.sent := rfl
@[simp] theorem State.setFc_fresh (fc : List (Nat × FcLine)) : (s.setFc fc).fresh = s.fresh := rfl
@[simp] theorem State.setFc_pending (fc : List (Nat × FcLine)) : (s.setFc fc).pending = s.pending := rfl

/-! ### mapYoke -/

@[simp] theorem State.mapYoke_regs (f : Yoke → Yoke) : (s.mapYoke f).regs = s.regs := rfl
@[simp] theorem State.mapYoke_clk (f : Yoke → Yoke) : (s.mapYoke f).clk = s.clk := rfl
@[simp] theorem State.mapYoke_reeve (f : Yoke → Yoke) : (s.mapYoke f).reeve = s.reeve := rfl
@[simp] theorem State.mapYoke_threads (f : Yoke → Yoke) : (s.mapYoke f).threads = s.threads := rfl
@[simp] theorem State.mapYoke_cores (f : Yoke → Yoke) : (s.mapYoke f).cores = s.cores := rfl
@[simp] theorem State.mapYoke_tiles (f : Yoke → Yoke) : (s.mapYoke f).tiles = s.tiles := rfl
@[simp] theorem State.mapYoke_caches (f : Yoke → Yoke) : (s.mapYoke f).caches = s.caches := rfl
@[simp] theorem State.mapYoke_granary (f : Yoke → Yoke) : (s.mapYoke f).granary = s.granary := rfl
@[simp] theorem State.mapYoke_seedbox (f : Yoke → Yoke) : (s.mapYoke f).seedbox = s.seedbox := rfl
@[simp] theorem State.mapYoke_gln (f : Yoke → Yoke) : (s.mapYoke f).gln = s.gln := rfl
@[simp] theorem State.mapYoke_drill (f : Yoke → Yoke) : (s.mapYoke f).drill = s.drill := rfl
@[simp] theorem State.mapYoke_loops (f : Yoke → Yoke) : (s.mapYoke f).loops = s.loops := rfl
@[simp] theorem State.mapYoke_host (f : Yoke → Yoke) : (s.mapYoke f).host = s.host := rfl
@[simp] theorem State.mapYoke_links (f : Yoke → Yoke) : (s.mapYoke f).links = s.links := rfl
@[simp] theorem State.mapYoke_acre (f : Yoke → Yoke) : (s.mapYoke f).acre = s.acre := rfl
@[simp] theorem State.mapYoke_boot (f : Yoke → Yoke) : (s.mapYoke f).boot = s.boot := rfl
@[simp] theorem State.mapYoke_isl (f : Yoke → Yoke) : (s.mapYoke f).isl = s.isl := rfl
@[simp] theorem State.mapYoke_bnd (f : Yoke → Yoke) : (s.mapYoke f).bnd = s.bnd := rfl
@[simp] theorem State.mapYoke_vecs (f : Yoke → Yoke) : (s.mapYoke f).vecs = s.vecs := rfl
@[simp] theorem State.mapYoke_sent (f : Yoke → Yoke) : (s.mapYoke f).sent = s.sent := rfl
@[simp] theorem State.mapYoke_fresh (f : Yoke → Yoke) : (s.mapYoke f).fresh = s.fresh := rfl
@[simp] theorem State.mapYoke_pending (f : Yoke → Yoke) : (s.mapYoke f).pending = s.pending := rfl

/-! ### send -/

@[simp] theorem State.send_regs (m : Sent) : (s.send m).regs = s.regs := rfl
@[simp] theorem State.send_clk (m : Sent) : (s.send m).clk = s.clk := rfl
@[simp] theorem State.send_reeve (m : Sent) : (s.send m).reeve = s.reeve := rfl
@[simp] theorem State.send_threads (m : Sent) : (s.send m).threads = s.threads := rfl
@[simp] theorem State.send_cores (m : Sent) : (s.send m).cores = s.cores := rfl
@[simp] theorem State.send_tiles (m : Sent) : (s.send m).tiles = s.tiles := rfl
@[simp] theorem State.send_caches (m : Sent) : (s.send m).caches = s.caches := rfl
@[simp] theorem State.send_granary (m : Sent) : (s.send m).granary = s.granary := rfl
@[simp] theorem State.send_seedbox (m : Sent) : (s.send m).seedbox = s.seedbox := rfl
@[simp] theorem State.send_gln (m : Sent) : (s.send m).gln = s.gln := rfl
@[simp] theorem State.send_drill (m : Sent) : (s.send m).drill = s.drill := rfl
@[simp] theorem State.send_loops (m : Sent) : (s.send m).loops = s.loops := rfl
@[simp] theorem State.send_host (m : Sent) : (s.send m).host = s.host := rfl
@[simp] theorem State.send_links (m : Sent) : (s.send m).links = s.links := rfl
@[simp] theorem State.send_yoke (m : Sent) : (s.send m).yoke = s.yoke := rfl
@[simp] theorem State.send_acre (m : Sent) : (s.send m).acre = s.acre := rfl
@[simp] theorem State.send_boot (m : Sent) : (s.send m).boot = s.boot := rfl
@[simp] theorem State.send_isl (m : Sent) : (s.send m).isl = s.isl := rfl
@[simp] theorem State.send_bnd (m : Sent) : (s.send m).bnd = s.bnd := rfl
@[simp] theorem State.send_vecs (m : Sent) : (s.send m).vecs = s.vecs := rfl
@[simp] theorem State.send_fresh (m : Sent) : (s.send m).fresh = s.fresh := rfl
@[simp] theorem State.send_pending (m : Sent) : (s.send m).pending = s.pending := rfl

/-! ### The part that each updates -/

@[simp] theorem State.setThread_threads (h : Nat) (t : Thread) :
    (s.setThread h t).threads = put h t s.threads := rfl
@[simp] theorem State.setCore_cores (n : Nat) (c : Core) :
    (s.setCore n c).cores = put n c s.cores := rfl
@[simp] theorem State.setTile_tiles (n : Nat) (t : TileCore) :
    (s.setTile n t).tiles = put n t s.tiles := rfl
@[simp] theorem State.setSeed_seedbox (n : Nat) (a : Sram) :
    (s.setSeed n a).seedbox = put n a s.seedbox := rfl
@[simp] theorem State.setTap_gln (t : Tap) :
    (s.setTap t).gln = { s.gln with tap := t } := rfl
@[simp] theorem State.mapIsl_isl (f : Island → Island) :
    (s.mapIsl f).isl = f s.isl := rfl
@[simp] theorem State.setLink_links (k : Nat) (l : LinkRec) :
    (s.setLink k l).links = put k l s.links := rfl
@[simp] theorem State.setPeer_acre (p : Nat) (r : PeerRec) :
    (s.setPeer p r).acre = { s.acre with peers := put p r s.acre.peers } := rfl
@[simp] theorem State.setReqs_acre (r : List SwReq) :
    (s.setReqs r).acre = { s.acre with reqs := r } := rfl
@[simp] theorem State.setBnd_bnd (n : Nat) (b : BndOp) :
    (s.setBnd n b).bnd = put n b s.bnd := rfl
@[simp] theorem State.setMem_granary (m : List Host.Cell) :
    (s.setMem m).granary = { s.granary with mem := m } := rfl
@[simp] theorem State.setFc_caches (fc : List (Nat × FcLine)) :
    (s.setFc fc).caches = { s.caches with fc := fc } := rfl
@[simp] theorem State.mapYoke_yoke (f : Yoke → Yoke) :
    (s.mapYoke f).yoke = f s.yoke := rfl
@[simp] theorem State.send_sent (m : Sent) :
    (s.send m).sent = s.sent ++ [m] := rfl
@[simp] theorem State.setFn_host (p : Nat) (r : FnRec) :
    (s.setFn p r).host = { s.host with fns := put p r s.host.fns } := rfl

end Sys2Proof.Machine
end

