-- ==== Sys2Proof/Tests/Slice0.lean ====
section
/-! SUPPORT. Tests: ill-formed commands that WellFormed refuses, instruction words and worked values of the spec, and
witnesses for the hypotheses of the statements.

For a statement X of Obligations.lean, the namespace `ForX` (for a statement of several parts, one for each part; the
docstrings name the statement) repeats the hypotheses of its clauses, in the statement's order,
as a function that lists the numbers of those clauses whose hypotheses all hold at the given operands; `test_hypotheses` shows,
by concrete states and operands, which ones they are. A number that no row lists is an arm that no sample of ours reaches
(mostly an arm beside one that is always taken, or one that an opaque value of Config decides). -/

namespace Sys2Proof.Tests

open Sys2Proof.Machine

set_option maxRecDepth 100000
set_option linter.unusedVariables false
set_option Elab.async false

/-- The package out of every reset, its root PLL locked, Drill running. -/
def up : State :=
  ({ State.reset with clk := { porstHeld := false, porstLow := false } }.setOn CLK_STATUS.ROOT_LOCK 0 true).setOn
    DRL_STATUS.RUN 0 true

/-- `up` at a timestamp. -/
def upAt (n : Nat) : State := up.setF CLK_TIMESTAMP.TS 0 n

/-- `up` with a thread context that runs. -/
def runner (h : Nat) (t : Thread) : State := up.setThread h { t with mode := .running }

/-- `up` with core 0 leased and its thread 0 running. -/
def readyState : State := { runner 0 { pc := 64 } with cores := [(0, { lease := some 0 })] }

/-- A fabric of 4 × 4 × 4 packages whose links are all up, seen from package 5 (chapter 18's worked case). -/
def acreState : State :=
  let s := (((up.setF SWT_CFG.DX 0 3).setF SWT_CFG.DY 0 3).setF SWT_CFG.DZ 0 3).setF SWT_CFG.X 0 1
  let s := (s.setF SWT_CFG.Y 0 1).setF SWT_MEMBERS.MASK 0 (2 ^ 64 - 1)
  (List.range 6).foldl (fun s k => s.setF SWT_LSTAT.STATE k 2) s

/-- A loop that has armed no frame yet. -/
def firstLoop : FrameLoop := { entry := 0, cores := [], start := 0, c0 := 0, k0 := 0, k := 0 }

/-- The number of a clause whose hypotheses hold. -/
def clause (k : Nat) (p : Prop) [Decidable p] : List Nat := if p then [k] else []

/-! ### Ill-formed commands -/

/-- One ill-formed command for each check of `Instr.wf`: it refuses every one. -/
theorem test_ill_formed_refused :
    Instr.wf (.porstNRelease false (some { bytes := [(2 ^ 28, 0)] })) = false ∧
    Instr.wf (.furrowCacheFill 0 (2 ^ 50) .ok .ok) = false ∧ Instr.wf (.stackTempReading 0 256) = false ∧
    Instr.wf (.lease 0 [3, 3] .ok) = false ∧ Instr.wf (.unlease 0 [3, 3] .ok) = false ∧
    Instr.wf (.barAccessError 0 0 0) = false ∧ Instr.wf (.completion 0 (some (List.replicate 4097 0)) .ok) = false ∧
    Instr.wf (.flitReceive 0 (some [])) = false ∧ Instr.wf (.hitchFrameReceive 0 [] true) = false ∧
    Instr.wf (.hitchFrameReceive 0 (List.replicate 1519 0) true) = false ∧
    Instr.wf (.tempSample [] []) = false ∧ Instr.wf (.tempSample (List.replicate 18 256) [0, 0]) = false ∧
    Instr.wf (.powerEstimate 65536) = false ∧ Instr.wf (.pmbusCalibration 65536) = false ∧
    Instr.wf (.registerWrite (.vfEnable 0) false 0) = false ∧ Instr.wf (.registerWrite (.vfEnable 512) false 0) = false := by
  decide +kernel

/-- The same commands with operands at the ends of their ranges are well formed. -/
theorem test_well_formed_bounds :
    Instr.wf (.porstNRelease false (some { bytes := [(2 ^ 28 - 1, 0)] })) = true ∧
    Instr.wf (.furrowCacheFill 0 (2 ^ 50 - 1) .ok .ok) = true ∧ Instr.wf (.stackTempReading 0 255) = true ∧
    Instr.wf (.lease 0 [3, 4] .ok) = true ∧ Instr.wf (.barAccessError 0 0 1) = true ∧
    Instr.wf (.completion 0 (some (List.replicate 4096 0)) .ok) = true ∧
    Instr.wf (.flitReceive 0 (some (List.replicate 640 0))) = true ∧
    Instr.wf (.hitchFrameReceive 0 (List.replicate 1518 0) true) = true ∧
    Instr.wf (.tempSample (List.replicate 18 255) [0, 255]) = true ∧ Instr.wf (.powerEstimate 65535) = true ∧
    Instr.wf (.registerWrite (.vfEnable 511) false 0) = true := by
  decide +kernel

/-! ### Instruction words, written out from Tables 5-6, 5-7, 5-9 and 5-11 and the worked cases of chapters 9, 10 and 13 -/

theorem test_decode_core_words :
    decodeInstr 0 0x04221800 = some (.add 0 1 2 3 false) ∧ decodeInstr 0 0x04221840 = some (.add 0 1 2 3 true) ∧
    decodeInstr 0 0x08A6FFFF = some (.addi 0 5 6 0xFFFF) ∧ decodeInstr 0 0x24886800 = some (.cmp 0 1 2 3 .lt) ∧
    decodeInstr 0 0x30000001 = some (.br 0 0 false 1) ∧ decodeInstr 0 0x58430005 = some (.ld 0 2 3 5 false) ∧
    decodeInstr 0 0xA8000000 = some (.nop 0) ∧ decodeInstr 0 0xA4200180 = some (.csrrd 0 1 0x180) := by
  decide +kernel

/-- The two illegal words, a reserved FN, a reserved major opcode and a NOP with a field that must be zero (R113 to R116). -/
theorem test_decode_refuses :
    decodeInstr 0 0 = none ∧ decodeInstr 0 0xFFFFFFFF = none ∧ decodeInstr 0 0x04221806 = none ∧
    decodeInstr 0 0x3C000000 = none ∧ decodeInstr 0 0xA8200000 = none := by
  decide +kernel

/-- The worked words of chapters 9 and 10: `tld.g t2, [g7], g8` and `tmma.g grp3, t0, t1`. -/
theorem test_tile_words :
    decodeInstr 616 0x7FF00100C01401D0 = some (.tld 616 true 31 63 1 2 7 8) ∧
    decodeInstr 616 0x7DFFC440D0330400 = some (.tmma 616 true 31 31 63 1 1 0 3 0 1) := by
  decide +kernel

/-- The till encodings of chapter 13: MAC v0, v2, v3 with FMT 2; ACT x1 + 0; LD v2, 5. -/
theorem test_till_words :
    (tlOp 0x1427000000000000, tlVd 0x1427000000000000, tlVa 0x1427000000000000, tlVb 0x1427000000000000,
      tlFmt 0x1427000000000000) = (0x05, 0, 2, 3, 2) ∧
    (tlOp 0x0400300000000000, tlXs 0x0400300000000000, tlXu 0x0400300000000000, tlImm 0x0400300000000000) =
      (0x01, 1, true, 0) ∧
    (tlOp 0x0D00000000000005, tlVd 0x0D00000000000005, tlImm 0x0D00000000000005) = (0x03, 2, 5) := by
  decide +kernel

/-! ### Worked values -/

/-- The check values of R402 and of chapter 19: the CRCs of "123456789". -/
theorem test_crc_check_values :
    crc64 [49, 50, 51, 52, 53, 54, 55, 56, 57] = 0x995DC9BBDF1939FA ∧
    crc32c [49, 50, 51, 52, 53, 54, 55, 56, 57] = 0xE3069283 := by
  decide +kernel

/-- Chapter 12's worked address, chapter 4's global address and chapter 13's tine address. -/
theorem test_worked_addresses :
    interleave 0x4C07ABCDE = (36, 0x4C07ACDE) ∧ normalAddr 36 0x4C07ACDE = 0x4C07ABCDE ∧
    globalPa 13 0x4C07ABCDE = 0x8D0004C07ABCDE ∧ globalPa 46 0x4C07ABCC8 = 0xAE0004C07ABCC8 ∧
    tineAddr 3 7 5 + 2 * 9 = 0x338B2 := by
  decide +kernel

/-- Chapter 7's frame image of CAUSE: FROM 3, LEVEL 12, CODE 0x05. -/
theorem test_cause_image : causeImage 3 12 false 0 0x05 = 0x3C000005 := by decide +kernel

/-- Chapter 11's conversions: 500.0, 460.0 and −∞ to E4M3, −200.7 to int8. -/
theorem test_conversions :
    tCvt .rne 0 3 0x43FA0000 = (0x7E, fOF + fNX + fSAT) ∧ tCvt .rne 0 3 0x43E60000 = (0x7E, fNX) ∧
    tCvt .rne 0 3 0xFF800000 = (0xFE, fSAT) ∧ tCvt .rne 0 5 0xC348B333 = (0x80, fSAT) := by
  decide +kernel

/-- Table 15-7: the starts of frames 1 to 3 with a period of 4,166,667 ns. -/
theorem test_frame_starts :
    [1, 2, 3].map (fun k => (State.reset.setF SOW_LOOP_PERIOD.NS 0 4166667).frameStart 0 firstLoop k) = [416666, 833333, 1250000] := by
  decide +kernel

/-- Chapter 18's route: 4 × 4 × 4 packages, from package 5 to package 46 under DIR 0. -/
theorem test_acre_route :
    (acreState.pathTo 0 46).map (·.2.2) = [6, 10, 14, 30, 46] ∧ acreState.chooseDir 46 = some 0 := by
  decide +kernel

/-! ### The hypotheses of the statements that say them of every ready thread, or that name only a state -/

/-- A ready thread, as IntegerRegisterResults, DivideResults, ImmediateCompareBranchResults and FloatArithmeticResults
suppose one, with trace off, and the clauses' operand conditions at their boundaries. -/
theorem test_ready_thread :
    readyState.ready 0 = true ∧ readyState.traced 0 = false ∧ (31#6).toNat < 32 ∧ 32 ≤ (32#6).toNat ∧
    RMode.rne ≠ .stoch ∧ (FpVal.nan true).isNan = true := by
  decide +kernel

/-- The idle block of StepRunsFrontCommand and MachineInvariantKept: no command waits, and the tick is a next state. -/
theorem test_idle : State.reset.pending = [] ∧ step State.reset = .next State.reset.tick := ⟨rfl, rfl⟩

/-- RoundingIsCorrect: a place at or below the value's, one above it, and a multiple of the place. -/
theorem test_rounding_cases : (0 : Int) ≤ 1 ∧ (1 : Int) < 2 ∧ 2 ^ ((2 : Int) - 1).toNat ∣ 4 := by decide +kernel


namespace ForClockEventResults



/-- The clauses of ClockEventResults whose hypotheses hold. -/
def clockEventResults1 (s : State) (t : State) (i : Instr) (ref : Nat) (root : Nat) : List Nat :=
  clause 0 (s.pending = []) ++
  clause 1 (s.clk.refclk = true ∧ s.clk.porstHeld = false) ++
  clause 2 (s.clk.refclk = false ∨ s.clk.porstHeld = true) ++
  clause 3 (((match exec i s with | .next _ => true | _ => false) = true) ∧ i ≠ .powerOnReset ∧ (((match i with | .supplySample .. => false | _ => true) = true))) ++
  [4] ++
  clause 5 (s.clk.porstHeld = false) ++
  clause 6 (s.clk.porstHeld = true ∧ s.clk.porstLow = false ∧ s.clk.railOut.any porRail = false) ++
  clause 7 (s.inReset = false ∧ s.on CLK_STATUS.ROOT_LOCK 0 = true) ++
  clause 8 (s.clk.rootHeld = true ∧ s.clk.refclk = true) ++
  [9]

theorem test_hypotheses :
    clockEventResults1 up State.reset .refclkLoss 0 0 = [0, 1, 3, 4, 5, 7, 9] ∧
    clockEventResults1 { State.reset with clk := { State.reset.clk with porstLow := false, railOut := [] } } State.reset .refclkLoss 0 0 = [0, 2, 3, 4, 6, 9] ∧
    clockEventResults1 { up with clk := { up.clk with rootHeld := true } } State.reset .refclkLoss 0 0 = [0, 1, 3, 4, 5, 8, 9] := by
  decide +kernel

end ForClockEventResults

namespace ForPowerOnAndSupplyResults



/-- The clauses of PowerOnAndSupplyResults whose hypotheses hold. -/
def powerOnAndSupplyResults1 (s : State) (rail : Fin 9) (level : RailLevel) (lead : Bool) (flash : Option FlashDevice) (st : Stack) : List Nat :=
  [0] ++
  clause 1 (s.clk.porstLow = false) ++
  clause 2 (s.clk.porstLow = true) ++
  clause 3 (level = .beyondAbsolute) ++
  clause 4 (level ≠ .beyondAbsolute) ++
  clause 5 (s.clk.pwrfail = true) ++
  clause 6 (s.clk.pwrfail = false) ++
  [7] ++
  clause 8 (s.inReset = true ∨ s.clk.pwrfail = true ∨ s.on CLK_STATUS.ROOT_LOCK 0 = false) ++
  clause 9 (s.inReset = false ∧ s.clk.pwrfail = false ∧ s.on CLK_STATUS.ROOT_LOCK 0 = true)

theorem test_hypotheses :
    powerOnAndSupplyResults1 State.reset 0 .within false ((none :: ([{}] : List FlashDevice).map some : List (Option FlashDevice)).getD 0 none) 0 = [0, 2, 4, 6, 7, 8] ∧
    powerOnAndSupplyResults1 up 0 .beyondAbsolute false ((none :: ([{}] : List FlashDevice).map some : List (Option FlashDevice)).getD 0 none) 0 = [0, 1, 3, 6, 7, 9] ∧
    powerOnAndSupplyResults1 { up with clk := { up.clk with pwrfail := true } } 0 .within false ((none :: ([{}] : List FlashDevice).map some : List (Option FlashDevice)).getD 0 none) 0 = [0, 1, 4, 5, 7, 8] := by
  decide +kernel

end ForPowerOnAndSupplyResults

namespace ForPackageResetResults

def d2 : State := upAt 20000000 |>.setOn PWR_WDOG_CFG.EN 0 true |>.setF PWR_WDOG_CFG.PERIOD 0 100

/-- The clauses of PackageResetResults whose hypotheses hold. -/
def packageResetResults1 (s : State) (agent : Agent) (key : BitVec 16) (cause : HostResetCause) : List Nat :=
  (let mayAsk := agent = .plot 0 ∨ agent = .reeve
   clause 0 (s.inReset = true) ++
   clause 1 (s.inReset = false) ++
   clause 2 (s.acts agent = false) ++
   (if s.acts agent = true then
     (if mayAsk then
       (if key = 0x4B31 then
         clause 3 (s.inReset = true) ++
         clause 4 (s.inReset = false)
        else []) ++
       clause 5 (key ≠ 0x4B31)
      else []) ++
     clause 6 (¬mayAsk) ++
     clause 7 (mayAsk ∨ agent = .drill) ++
     clause 8 (¬mayAsk ∧ agent ≠ .drill)
    else []) ++
   clause 9 (s.on PWR_WDOG_CFG.EN 0 = false ∨ s.since s.clk.kickAt < 100000 * s.f PWR_WDOG_CFG.PERIOD 0) ++
   (if s.on PWR_WDOG_CFG.EN 0 = true ∧ 100000 * s.f PWR_WDOG_CFG.PERIOD 0 ≤ s.since s.clk.kickAt then
     clause 10 (s.inReset = true) ++
     clause 11 (s.inReset = false)
    else []) ++
   [12] ++
   clause 13 (s.live = false) ++
   clause 14 (s.live = true))

theorem test_hypotheses :
    packageResetResults1 up (.plot 0) 0 .perst = [1, 5, 7, 9, 12, 14] ∧
    packageResetResults1 State.reset (.plot 0) 0 .perst = [0, 2, 9, 12, 13] ∧
    packageResetResults1 d2 (.plot 3) 0 .perst = [1, 6, 8, 11, 12, 14] ∧
    packageResetResults1 { d2 with clk := { d2.clk with rootHeld := true } } .reeve 0x4B31 .perst = [0, 3, 7, 10, 12, 14] ∧
    packageResetResults1 up (.plot 0) 0x4B31 .perst = [1, 4, 7, 9, 12, 14] := by
  decide +kernel

end ForPackageResetResults

namespace ForGroupAndPlotResetResults

def d2 : State := upAt 20000000 |>.setOn PWR_WDOG_CFG.EN 0 true |>.setF PWR_WDOG_CFG.PERIOD 0 100
def busy : State := ((({ (up.setThread 0 { mode := .running, pc := 64, g := [(1,5)] }).setThread 9 { mode := .running, pc := 64, g := [(1,5)] } with granary := { up.granary with mem := [(5, 1)] }, loops := [(0, { entry := 0, cores := [], start := 0, c0 := 0, k0 := 0, k := 0 })] }.setOn DRL_Q_CFG.EN 3 true).setCore 0 { tlb := [⟨0, 0, 12, 0, 0⟩], lease := some 0, l1d := [(0,⟨5, []⟩)] }).setOn FUR_GRP.OPEN 2 true).setOn FUR_LOCKSTAT.LOCKED 0 true

/-- The clauses of GroupAndPlotResetResults whose hypotheses hold. -/
def groupAndPlotResetResults1 (s : State) (agent : Agent) (n : Cid) (p : Plot) (reason : BitVec 32) : List Nat :=
  (let mayAsk := agent = .plot 0 ∨ agent = .reeve
   clause 0 (s.acts agent = false) ++
   clause 1 (s.acts agent = true ∧ ¬mayAsk) ++
   clause 2 (mayAsk ∧ (s.inReset = true ∨ (find n.val s.clk.tg).isSome = true)) ++
   clause 3 (s.acts agent = true ∧ mayAsk ∧ s.inReset = false ∧ find n.val s.clk.tg = none ∧ s.clk.plotReset = []) ++
   (match find n.val s.clk.tg with
    | some (.draining t) => clause 4 (s.drained n = false) ++
       clause 5 (s.drained n = true) ++
       clause 6 (s.since t < 100000) ++
       clause 7 (100000 ≤ s.since t ∧ s.clk.plotReset = [])
    | some (.clearing t) => clause 8 (s.clk.cc64 - t < 4096 * 64) ++
       clause 9 (4096 * 64 ≤ s.clk.cc64 - t ∧ s.clk.plotReset = [])
    | _ => []) ++
   clause 10 (s.configReaches p = false ∧ s.inReset = false) ++
   clause 11 (s.inReset = true) ++
   (if s.configReaches p = true ∧ s.inReset = false then
     (if s.recovering = false ∧ s.clk.plotReset = [] then
       clause 12 (p.val ≠ 0) ++
       clause 13 (p.val = 0)
      else []) ++
     clause 14 (s.recovering = true)
    else []) ++
   clause 15 (s.released = false) ++
   clause 16 (s.released = true ∧ s.clk.plotReset = []) ++
   clause 17 (s.host.vfEnable = false ∨ s.released = false) ++
   clause 18 (s.host.vfEnable = true ∧ s.released = true ∧ s.configReaches 0 = true) ++
   clause 19 (s.on DRL_STATUS.RUN 0 = true ∧ (s.core n).gated = false ∧ (s.core n).lease = none ∧ find n.val s.clk.tg = none ∧ (s.core n).mbuf = [] ∧ 100000 ≤ s.since (s.core n).idleAt ∧ ((∀ h ∈ coreThreads n, (s.thread h).mode = .parked))) ++
   clause 20 ((s.core n).gated = false) ++
   clause 21 ((s.core n).gated = true))

theorem test_hypotheses :
    groupAndPlotResetResults1 { busy with clk := { busy.clk with tg := [(0, .draining 0)] } } (.plot 0) 0 1 0 = [2, 5, 6, 10, 16, 17, 20] ∧
    groupAndPlotResetResults1 { d2 with clk := { d2.clk with rootHeld := true } } (.plot 0) 0 1 0 = [0, 2, 11, 15, 17, 19, 20] ∧
    groupAndPlotResetResults1 { busy.setOn HST_LINK.DL_UP 0 true with host := { busy.host with vfEnable := true, numVfs := 7 } } (.plot 0) 0 1 0 = [3, 12, 16, 18, 20] ∧
    groupAndPlotResetResults1 { upAt 200000 with clk := { up.clk with tg := [(0, .draining 0)] } } (.plot 3) 0 1 0 = [1, 5, 7, 10, 16, 17, 20] ∧
    groupAndPlotResetResults1 { busy with clk := { busy.clk with tg := [(0, .clearing 0)] } } (.plot 0) 0 1 0 = [2, 8, 10, 16, 17, 20] ∧
    groupAndPlotResetResults1 { busy with clk := { busy.clk with tg := [(0, .clearing 0)], cc64 := 400000 } } (.plot 0) 0 1 0 = [2, 9, 10, 16, 17, 20] ∧
    groupAndPlotResetResults1 ((busy.setOn HST_LINK.DL_UP 0 true).setF HST_ATTACH.STATE 1 1) (.plot 0) 0 0 0 = [3, 13, 16, 17, 20] ∧
    groupAndPlotResetResults1 { busy.setThread 1 { mode := .running, hold := some (.cmo { target := .l1d, action := .clean, setWay := true, arg := 0 }) } with clk := { busy.clk with tg := [(0, .draining 0)] } } (.plot 0) 0 1 0 = [2, 4, 6, 10, 16, 17, 20] ∧
    groupAndPlotResetResults1 { ((State.reset.setOn HST_LINK.DL_UP 0 true).setOn BT_STATUS.RECOVERY 0 true).setF HST_ATTACH.STATE 1 1 with clk := up.clk } (.plot 0) 0 0 0 = [0, 14, 15, 17, 20] ∧
    groupAndPlotResetResults1 (((upAt 200000).setSeed 0 {cells := [(3,4)]}).setCore 0 { gated := true }) (.plot 0) 0 1 0 = [3, 10, 16, 17, 21] := by
  decide +kernel

end ForGroupAndPlotResetResults

namespace ForBootSequenceResults

def bset (l : List Byte) (i : Nat) (v : List Nat) : List Byte := l.take i ++ v.map (BitVec.ofNat 8) ++ l.drop (i + v.length)
def hdr : List Byte := let h := bset (List.replicate 60 0) 0 [0x31,0x48,0x46,0x4B,1,0,0,0]; h ++ leBytes 4 (crc32c h)
def at' (a : Nat) (b : List Byte) : List Host.Cell := b.zipIdx.map fun x => (a + x.2, x.1)

/-- The clauses of BootSequenceResults whose hypotheses hold. -/
def bootSequenceResults1 (s : State) (agrees : Bool) : List Nat :=
  (let p := s.pref
   let spent := p.trial ≠ 0 && decide (3 ≤ p.count)
   let r : PrefRec := if p.trial = 0 then p else
     if spent then { p with seq := (p.seq + 1) % 2 ^ 32, trial := 0, count := 0 }
     else { p with seq := (p.seq + 1) % 2 ^ 32, count := p.count + 1 }
   (if s.booting = false then
     (([Instr.bootSequence agrees, .bootIslandTimeout, .flashTimeout]).flatMap fun (i : _) => [0])
    else []) ++
   (if s.booting = true then
     [1] ++
     clause 2 (s.headerFound = false) ++
     clause 3 (s.headerFound = true)
    else []) ++
   (([[]] : List (List Nat)).flatMap fun (bad : List Nat) => (([0] : List (Nat)).flatMap fun (sf : Nat) => (([0, 1] : List (Nat)).flatMap fun (k : Nat) => (match (s.choose r sf bad k).1 with
        | .combo c => [4] ++
           (([2, 3, 4]).flatMap fun (t : _) => [5])
        | _ => [6])))))

theorem test_hypotheses :
    bootSequenceResults1 up false = [1, 2, 6, 6] ∧
    bootSequenceResults1 State.reset false = [0, 0, 0, 6, 6] ∧
    bootSequenceResults1 ({ up with boot := { flash := (at' 0 hdr).filter fun c => c.2 ≠ 0xFF } }.setOn DRL_STATUS.RUN 0 false) false = [1, 3, 6, 6] := by
  decide +kernel

end ForBootSequenceResults

namespace ForFlashAndUpdateResults

def at' (a : Nat) (b : List Byte) : List Host.Cell := b.zipIdx.map fun x => (a + x.2, x.1)
def fl : State := (up.setF BT_FLASH_OWN.OWNER 0 1).setF BT_FLASH_ADDR.ADDR 0 0x90000

/-- The clauses of FlashAndUpdateResults whose hypotheses hold. -/
def flashAndUpdateResults1 (s : State) (agent : Agent) (ok : Bool) (restart : Bool) (key : BitVec 16) (types : BitVec 4) (a : Nat) : List Nat :=
  (let may := s.btUser agent = true
   let busy := s.on BT_FLASH_STATUS.BUSY 0
   clause 0 (¬may) ++
   (match btOwner agent with
    | some k => clause 1 (may)
    | _ => []) ++
   [2] ++
   (let op : Nat := 1
    let unit : Nat := 256
    let at' := s.f BT_FLASH_ADDR.ADDR 0 / unit * unit
    clause 3 (¬may ∨ s.holdsFlash agent = false ∨ busy = true) ++
    (if may ∧ s.holdsFlash agent = true ∧ busy = false then
      clause 4 (op ≠ 1 ∧ s.flashProtected at' = true) ++
      clause 5 (¬(op ≠ 1 ∧ s.flashProtected at' = true))
     else [])) ++
   (let op : Nat := 2
    let unit : Nat := 256
    let at' := s.f BT_FLASH_ADDR.ADDR 0 / unit * unit
    clause 6 (¬may ∨ s.holdsFlash agent = false ∨ busy = true) ++
    (if may ∧ s.holdsFlash agent = true ∧ busy = false then
      clause 7 (op ≠ 1 ∧ s.flashProtected at' = true) ++
      clause 8 (¬(op ≠ 1 ∧ s.flashProtected at' = true))
     else [])) ++
   (let op : Nat := 3
    let unit : Nat := 0x10000
    let at' := s.f BT_FLASH_ADDR.ADDR 0 / unit * unit
    clause 9 (¬may ∨ s.holdsFlash agent = false ∨ busy = true) ++
    (if may ∧ s.holdsFlash agent = true ∧ busy = false then
      clause 10 (op ≠ 1 ∧ s.flashProtected at' = true) ++
      clause 11 (¬(op ≠ 1 ∧ s.flashProtected at' = true))
     else [])) ++
   [12] ++
   clause 13 (s.boot.cmd = none) ++
   (match s.boot.cmd with
    | some c => [14]
    | _ => []) ++
   clause 15 (¬may ∨ key ≠ 0x5A17 ∨ s.on BT_UPDATE.BUSY 0 = true) ++
   clause 16 (may ∧ key = 0x5A17 ∧ s.on BT_UPDATE.BUSY 0 = false) ++
   clause 17 (¬may ∨ key ≠ 0x5A17 ∨ s.on BT_UPDATE.BUSY 0 = true) ++
   clause 18 (may ∧ key = 0x5A17 ∧ s.on BT_UPDATE.BUSY 0 = false) ++
   clause 19 (¬may ∨ key ≠ 0x5A17 ∨ s.on BT_UPDATE.BUSY 0 = true) ++
   clause 20 (may ∧ key = 0x5A17 ∧ s.on BT_UPDATE.BUSY 0 = false) ++
   clause 21 (¬may ∨ key ≠ 0x5A17 ∨ s.on BT_UPDATE.BUSY 0 = true) ++
   clause 22 (may ∧ key = 0x5A17 ∧ s.on BT_UPDATE.BUSY 0 = false) ++
   clause 23 (s.boot.prefWrite = none) ++
   (match s.boot.prefWrite with
    | some (r, rs) => [24]
    | _ => []) ++
   clause 25 (¬may ∨ key ≠ 0x5A17 ∨ s.f BT_UPDATE.PENDING 0 ≠ 0) ++
   clause 26 (may ∧ key = 0x5A17 ∧ s.f BT_UPDATE.PENDING 0 = 0))

theorem test_hypotheses :
    flashAndUpdateResults1 { fl with boot := { fl.boot with cmd := some ⟨3, 0x90000⟩, flash := at' 0x90000 [1,2,3], prefWrite := some (⟨7,[false,true,false,false],3,0⟩, false) } } (.plot 0) true true 0 5 0x8FFFF = [1, 2, 5, 8, 11, 12, 14, 15, 17, 19, 21, 24, 25] ∧
    flashAndUpdateResults1 up (.plot 0) true true 0x5A17 5 0x8FFFF = [1, 2, 3, 6, 9, 12, 13, 16, 18, 20, 22, 23, 26] ∧
    flashAndUpdateResults1 (fl.setF BT_FLASH_ADDR.ADDR 0 0x70000) (.plot 0) true true 0 5 0x8FFFF = [1, 2, 5, 7, 10, 12, 13, 15, 17, 19, 21, 23, 25] ∧
    flashAndUpdateResults1 { fl with boot := { fl.boot with cmd := some ⟨3, 0x90000⟩, flash := at' 0x90000 [1,2,3], prefWrite := some (⟨7,[false,true,false,false],3,0⟩, false) } } (.plot 3) true true 0 5 0x8FFFF = [0, 2, 3, 6, 9, 12, 14, 15, 17, 19, 21, 24, 25] := by
  decide +kernel

end ForFlashAndUpdateResults

namespace ForRegisterWriteResults

def rec0 : State := ((State.reset.setOn HST_LINK.DL_UP 0 true).setOn BT_STATUS.RECOVERY 0 true)
def hup : State := { up.setOn HST_LINK.DL_UP 0 true with host := { up.host with vfEnable := true, numVfs := 7 } }

/-- The clauses of RegisterWriteResults whose hypotheses hold. -/
def registerWriteResults1 (s : State) (r : RegDesc) (F : Fld) (i : Nat) (v : Nat) : List Nat :=
  (if v < 2 ^ 32 ∧ (r.fields.map (·.id)).Nodup ∧ F ∈ r.fields ∧ F.lo ≤ F.hi ∧ F.hi < 32 then
    [0]
   else [])

/-- The clauses of RegisterWriteResults whose hypotheses hold. -/
def registerWriteResults2 (s : State) (r : RegDesc) (G : Fld) (i : Nat) (j : Nat) (v : Nat) : List Nat :=
  clause 0 ((∀ F ∈ r.fields, G.key j ≠ F.key i))

/-- The clauses of RegisterWriteResults whose hypotheses hold. -/
def registerWriteResults3 (s : State) (agent : Agent) (pa : BitVec 56) (wide : Bool) (x : BitVec 64) : List Nat :=
  (let a := pa.toNat
   let size := if wide then 8 else 4
   let runs := s.acts agent = true ∧ s.deviceRuns a = true ∧ a % size = 0
   let reach := runs ∧ reaches agent = true
   clause 0 (¬runs) ++
   clause 1 (runs ∧ reaches agent = false) ++
   clause 2 (reach ∧ s.region a = .device ∧ s.devAt a = .reserved) ++
   (match s.devAt a with
    | .log off => clause 3 (reach ∧ s.region a = .device)
    | _ => []) ++
   (([0,1,16,2,0x20] : List (Nat)).flatMap fun (r : Nat) => (([0,1,16,2,0x20] : List (Nat)).flatMap fun (k : Nat) => (match s.devAt a with
      | .reg b [win] true off => clause 4 (reach ∧ s.region a = .device ∧ wide = false ∧ b.locate win off = none)
      | _ => []))) ++
   (match s.devAt a with
    | .reg b [win] true off => (match b.locate win off with
        | some (r, k, 0) => (if reach ∧ s.region a = .device ∧ b ∈ [Blk.CLK, .FURG, .GRNG, .SOW] then
             clause 5 (wide = false) ++
             clause 6 (wide = true ∧ r.width = 64)
            else [])
        | _ => [])
    | _ => []) ++
   clause 7 (reach ∧ s.region a ≠ .device ∧ (((match s.region a with | .silo .. => false | .spill .. => false | _ => true) = true))) ++
   (match s.region a with
    | .silo m o => clause 8 (reach)
    | .spill m o => clause 9 (reach)
    | _ => []))

/-- The clauses of RegisterWriteResults whose hypotheses hold. -/
def registerWriteResults4 (s : State) (p : Plot) (q : BitVec 17) (wide : Bool) (x : BitVec 64) : List Nat :=
  (let size := if wide then 8 else 4
   let up := s.on HST_LINK.DL_UP 0 = true
   let bar := up ∧ s.barReaches p = true ∧ q.toNat % size = 0
   clause 0 (¬up ∨ s.barReaches p = false) ++
   clause 1 (¬up) ++
   (if up then
     clause 2 (s.barReaches p = false) ++
     clause 3 (s.barReaches p = true ∧ q.toNat % size ≠ 0)
    else []) ++
   (if bar then
     clause 4 (s.recovering = false ∧ ((0x3000 ≤ q.toNat ∧ q.toNat < 0x10000) ∨
    (0x10000 ≤ q.toNat ∧ q.toNat < 0x20000 ∧ s.streamPlot ((q.toNat - 0x10000) / 32) ≠ p))) ++
     clause 5 (s.recovering = true)
    else []) ++
   (([0,1,16,2,0x20] : List (Nat)).flatMap fun (k : Nat) => clause 6 (bar ∧ s.recovering = false ∧ wide = false ∧ k < vecCount p ∧ q.toNat = 0x2000 + 16 * k + 8)))

/-- The clauses of RegisterWriteResults whose hypotheses hold. -/
def registerWriteResults5 (s : State) (q : BitVec 29) (wide : Bool) (x : BitVec 64) : List Nat :=
  (let size := if wide then 8 else 4
   let up := s.on HST_LINK.DL_UP 0 = true
   let bar := up ∧ s.barReaches 0 = true ∧ q.toNat % size = 0
   clause 0 (¬up ∨ s.barReaches 0 = false) ++
   clause 1 (up ∧ s.barReaches 0 = true ∧ q.toNat % size ≠ 0) ++
   clause 2 (bar ∧ (bar2 q.toNat = none ∨ s.recovering = true)) ++
   (match bar2 q.toNat with
    | some a => clause 3 (bar ∧ s.recovering = false)
    | _ => []))

/-- The clauses of RegisterWriteResults whose hypotheses hold. -/
def registerWriteResults6 (s : State) (p : Plot) (wide : Bool) (en : Bool) (mk : Bool) (x : BitVec 64) (n : Nat) (k : Nat) : List Nat :=
  (let config := s.configReaches p = true
   [0] ++
   clause 1 (¬config) ++
   clause 2 (config) ++
   clause 3 (¬config ∨ s.recovering = true) ++
   clause 4 (config ∧ s.recovering = false))

theorem test_hypotheses :
    registerWriteResults1 State.reset ((((Blk.CLK.regs.take 3) : List (RegDesc))[0]?).get (by decide +kernel)) (((CLK_STATUS.ROOT_LOCK :: (((Blk.CLK.regs.take 3) ++ (Blk.GRN.regs.take 2) ++ Blk.SOW.regs.take 2).flatMap fun (r : RegDesc) => r.fields) : List (Fld))[0]?).get (by decide +kernel)) 0 0 = [0] ∧
    registerWriteResults2 State.reset ((((Blk.CLK.regs.take 3) : List (RegDesc))[0]?).get (by decide +kernel)) (((CLK_STATUS.ROOT_LOCK :: (((Blk.CLK.regs.take 3) ++ (Blk.GRN.regs.take 2) ++ Blk.SOW.regs.take 2).flatMap fun (r : RegDesc) => r.fields) : List (Fld))[0]?).get (by decide +kernel)) 0 1 0 = [0] ∧
    registerWriteResults3 State.reset (.plot 0) 0xF806000000 false 0x123456789ABCDEF1 = [0] ∧
    registerWriteResults3 up (.plot 0) 0xF806000000 false 0x123456789ABCDEF1 = [5] ∧
    registerWriteResults3 up (.plot 3) 0xF806000000 false 0x123456789ABCDEF1 = [1] ∧
    registerWriteResults3 up (.plot 0) 0xF806000010 true 0x123456789ABCDEF1 = [6] ∧
    registerWriteResults3 up (.plot 0) 0xF880000000 false 0x123456789ABCDEF1 = [7] ∧
    registerWriteResults3 up (.plot 0) 0xF803010000 false 0x123456789ABCDEF1 = [3] ∧
    registerWriteResults3 up (.plot 0) 0xF201000004 false 0x123456789ABCDEF1 = [4, 4, 4, 4, 4, 4, 4, 4, 4, 4, 4, 4, 4, 4, 4, 4, 4, 4, 4, 4, 4, 4, 4, 4, 4] ∧
    registerWriteResults3 up (.plot 0) 0xF806020000 false 0x123456789ABCDEF1 = [2] ∧
    registerWriteResults3 up (.plot 0) (0x8100000010#56) false 0x123456789ABCDEF1 = [8] ∧
    registerWriteResults3 up (.plot 0) (0x8100080010#56) false 0x123456789ABCDEF1 = [9] ∧
    registerWriteResults4 State.reset 0 0 false 0x123456789ABCDEF1 = [0, 1] ∧
    registerWriteResults4 hup 0 1 false 0x123456789ABCDEF1 = [3] ∧
    registerWriteResults4 { rec0 with clk := up.clk } 0 0 false 0x123456789ABCDEF1 = [5] ∧
    registerWriteResults4 hup 0 0x2018 false 0x123456789ABCDEF1 = [6] ∧
    registerWriteResults4 hup 9 0 false 0x123456789ABCDEF1 = [0, 2] ∧
    registerWriteResults4 hup 0 0x3000 false 0x123456789ABCDEF1 = [4] ∧
    registerWriteResults5 State.reset 0 false 0x123456789ABCDEF1 = [0] ∧
    registerWriteResults5 hup 0 false 0x123456789ABCDEF1 = [3] ∧
    registerWriteResults5 hup 1 false 0x123456789ABCDEF1 = [1] ∧
    registerWriteResults5 { rec0 with clk := up.clk } 0 false 0x123456789ABCDEF1 = [2] ∧
    registerWriteResults6 State.reset 0 false false false 0x123456789ABCDEF1 0 0 = [0, 1, 3] ∧
    registerWriteResults6 hup 0 false false false 0x123456789ABCDEF1 0 0 = [0, 2, 4] := by
  decide +kernel

end ForRegisterWriteResults

namespace ForCsrInstructionResults

def th : Thread := { pc := 64, g := [(1, 5), (2, 0x8000000000000000), (3, 2000), (4, 9)] , mode := .running }
def rn (h : Nat) (t : Thread) : State := { up.setThread h t with cores := [(h / 8, { lease := some 0 }), (1, { lease := some 0 })] }
def ths : List Thread := [th, { th with hold := some (.msend 9 7 1 false) }, { th with hold := some (.msend 8 7 1 false) }, { th with hold := some (.msend 0 7 1 false) }, { th with hold := some (.msend 9 7 1 true) },
  { th with mailbox := [(5, 3), (6, 4)] }, { th with ring := 3 }, {th with ring := 2, mlevel := 15}, { th with gmask := true },
  { th with mode := .waiting, hold := some (.wait 2 true false) }, { th with mode := .waiting, mailbox := [(5, 3)], hold := some (.wait 2 true false) },
  { th with mode := .waiting, hold := some (.wait 2 true true) }, { th with hold := some (.msend 0 7 1 false), mailbox := List.replicate 8 (1, 1) }]
def sts : List State := State.reset :: (ths.map (rn 0)) ++ [rn 1024 th, rn 1024 { th with ring := 1 }, (rn 0 { th with hold := some (.msend 9 7 1 false) }).setThread 9 { th with mailbox := List.replicate 8 (1, 1) }]

/-- The clauses of ContextAndCsrResults whose hypotheses hold. -/
def csrInstructionResults1 (s : State) (h : Tid) (gd : Reg5) (gs1 : Reg5) (csr : BitVec 12) : List Nat :=
  (if s.ready h = true then
    (let t := s.thread h
     let old := s.csrRead h csr.toNat
     let rings := if 1024 ≤ h.val ∧ (csr = 0x100 ∨ csr = 0x101) then none else csrRings csr.toNat
     let writes := [(1, Instr.csrswp h gd csr gs1, t.readG gs1), (2, .csrset h gd csr gs1, old ||| t.readG gs1),
       (3, .csrclr h gd csr gs1, old &&& ~~~(t.readG gs1))]
     (if rings = none then
       [0] ++
       (writes.flatMap fun (x : _) => [1])
      else []) ++
     (match rings with
      | some (rd, wr) => clause 2 (t.ring ≤ rd) ++
         clause 3 (rd < t.ring) ++
         (if wr = none then
           (writes.flatMap fun (x : _) => [4])
          else []) ++
         (match wr with
          | some w => (if rd < t.ring ∨ w < t.ring then
               (writes.flatMap fun (x : _) => [5])
              else []) ++
             (if t.ring ≤ rd ∧ t.ring ≤ w ∧ ((csr.toNat = 0x100 → s.inflight h = 0)) then
               (writes.flatMap fun (x : _) => [6])
              else [])
          | _ => [])
      | _ => []) ++
     (([0, 1, 2, 3, 9, 8] : List (Nat)).flatMap fun (v : Nat) => [7]))
   else [])

theorem test_hypotheses :
    csrInstructionResults1 ((sts : List (State)).getD 1 .reset) 0 0 0 0 = [2, 6, 6, 6, 7, 7, 7, 7, 7, 7] ∧
    csrInstructionResults1 ((sts : List (State)).getD 7 .reset) 0 0 0 1 = [3, 5, 5, 5, 7, 7, 7, 7, 7, 7] ∧
    csrInstructionResults1 ((sts : List (State)).getD 1 .reset) 0 0 0 0x200 = [0, 1, 1, 1, 7, 7, 7, 7, 7, 7] ∧
    csrInstructionResults1 ((sts : List (State)).getD 1 .reset) 0 0 1 4 = [2, 4, 4, 4, 7, 7, 7, 7, 7, 7] := by
  decide +kernel

end ForCsrInstructionResults

namespace ForMailboxAndWaitResults

def th : Thread := { pc := 64, g := [(1, 5), (2, 0x8000000000000000), (3, 2000), (4, 9)] , mode := .running }
def rn (h : Nat) (t : Thread) : State := { up.setThread h t with cores := [(h / 8, { lease := some 0 }), (1, { lease := some 0 })] }
def ths : List Thread := [th, { th with hold := some (.msend 9 7 1 false) }, { th with hold := some (.msend 8 7 1 false) }, { th with hold := some (.msend 0 7 1 false) }, { th with hold := some (.msend 9 7 1 true) },
  { th with mailbox := [(5, 3), (6, 4)] }, { th with ring := 3 }, {th with ring := 2, mlevel := 15}, { th with gmask := true },
  { th with mode := .waiting, hold := some (.wait 2 true false) }, { th with mode := .waiting, mailbox := [(5, 3)], hold := some (.wait 2 true false) },
  { th with mode := .waiting, hold := some (.wait 2 true true) }, { th with hold := some (.msend 0 7 1 false), mailbox := List.replicate 8 (1, 1) }]
def sts : List State := State.reset :: (ths.map (rn 0)) ++ [rn 1024 th, rn 1024 { th with ring := 1 }, (rn 0 { th with hold := some (.msend 9 7 1 false) }).setThread 9 { th with mailbox := List.replicate 8 (1, 1) }]

/-- The clauses of MailboxAndWaitResults whose hypotheses hold. -/
def mailboxAndWaitResults1 (s : State) (h : Tid) (gd : Reg5) (gs1 : Reg5) (gs2 : Reg5) (pd : Pred) : List Nat :=
  (let t := s.thread h
   let dst := (t.readG gs1).toNat
   [0] ++
   (if s.ready h = true then
     clause 1 (1023 < dst ∨ (s.core (coreOf dst)).lease ≠ some (s.plotOf h)) ++
     clause 2 (dst ≤ 1023 ∧ (s.core (coreOf dst)).lease = some (s.plotOf h))
    else []) ++
   (([0, 1, 2, 3, 9, 8] : List (Nat)).flatMap fun (k : Nat) => (([7, 0xFFFFFFFFFFFFFFFF] : List (Word)).flatMap fun (v : Word) => (if t.hold = some (.msend k v pd false) ∧ k ≠ h then
         (let u := s.thread k
          clause 3 (u.mailbox.length < 8) ++
          clause 4 (8 ≤ u.mailbox.length))
        else []))) ++
   (([7, 0xFFFFFFFFFFFFFFFF] : List (Word)).flatMap fun (v : Word) => clause 5 (t.hold = some (.msend h v pd false))) ++
   (([0, 1, 2, 3, 9, 8] : List (Nat)).flatMap fun (k : Nat) => (([7, 0xFFFFFFFFFFFFFFFF] : List (Word)).flatMap fun (v : Word) => clause 6 (t.hold = some (.msend k v pd true)))) ++
   (match t.mailbox with
    | m :: r => clause 7 (s.ready h = true)
    | _ => []) ++
   clause 8 (t.mailbox = [] ∧ s.ready h = true) ++
   (if s.ready h = true then
     (if ¬(t.ring = 0 ∧ gs1.val = 0 ∧ t.gmask = true) then
       clause 9 (t.mailbox = [] ∧ s.anyAsync h = false) ++
       clause 10 (t.mailbox ≠ [] ∨ s.anyAsync h = true)
      else []) ++
     clause 11 (t.ring = 0 ∧ gs1.val = 0 ∧ t.gmask = true)
    else []) ++
   (([0, 1, 2, 3, 9, 8] : List (Nat)).flatMap fun (timed : Nat) => clause 12 (t.hold = some (.wait gd timed false) ∧ s.coreRuns (coreOf h) = true ∧ (t.mailbox ≠ [] ∨ s.anyAsync h = true))) ++
   (([0, 1, 2, 3, 9, 8] : List (Nat)).flatMap fun (x : Nat) => clause 13 (t.hold = some (.wait gd true x))) ++
   (([0, 1, 2, 3, 9, 8] : List (Nat)).flatMap fun (timed : Nat) => clause 14 (t.hold = some (.wait gd timed true) ∧ s.coreRuns (coreOf h) = true ∧ t.mailbox = [] ∧ s.anyAsync h = false)))

theorem test_hypotheses :
    mailboxAndWaitResults1 ((sts : List (State)).getD 1 .reset) 0 0 0 0 0 = [0, 2, 8, 11] ∧
    mailboxAndWaitResults1 ((sts : List (State)).getD 6 .reset) 0 0 2 0 0 = [0, 1, 7, 10] ∧
    mailboxAndWaitResults1 ((sts : List (State)).getD 11 .reset) 0 2 0 0 0 = [0, 12, 12, 12, 13, 13, 13] ∧
    mailboxAndWaitResults1 ((sts : List (State)).getD 1 .reset) 0 0 1 0 0 = [0, 2, 8, 9] ∧
    mailboxAndWaitResults1 ((sts : List (State)).getD 2 .reset) 0 0 0 0 1 = [0, 3] ∧
    mailboxAndWaitResults1 ((sts : List (State)).getD 4 .reset) 0 0 0 0 1 = [0, 5] ∧
    mailboxAndWaitResults1 ((sts : List (State)).getD 5 .reset) 0 0 0 0 1 = [0, 6] ∧
    mailboxAndWaitResults1 ((sts : List (State)).getD 12 .reset) 0 2 0 0 0 = [0, 13, 13, 13, 14, 14, 14] ∧
    mailboxAndWaitResults1 ((sts : List (State)).getD 16 .reset) 0 0 0 0 1 = [0, 4] := by
  decide +kernel

end ForMailboxAndWaitResults

namespace ForLoadResults

def pas : List Nat := [64, 124, 0x8000000000, 0x8000040000, 0x10000000000]
def th (a : Nat) : Thread := { pc := 64, g := [(1, a), (2, 0x8081828384858687)] , mode := .running }
def rn (a : Nat) (c : Core) (t : Thread → Thread := id) : State := { up.setThread 0 (t (th a)) with cores := [(0, { c with lease := some 0 })] }.setOn FUR_L1CTL.DEN 0 true
def l0 : List Byte := (List.range 64).map fun i => BitVec.ofNat 8 (i * 5 + 130)
def me (num : Nat) (kind : MbKind := .normal) : MbEntry := { num := num, line := 1, kind := kind, data := l0, mask := 0xF, closed := false, threads := [0] }
def cs : List Core := [{}, { l1d := [(1, ⟨1, l0⟩), (2, ⟨2, l0⟩)] }, { mbuf := [me 3], mbNext := 4 }, { fill := some 9 }, { l1d := [(1, ⟨1, l0⟩)], mbuf := (List.range 16).map (fun k => { me k with line := 100 + k}), mbNext := 16 }]

/-- The clauses of LoadStoreAtomicResults whose hypotheses hold. -/
def loadResults1 (s : State) (h : Tid) (r : Reg5) (gs1 : Reg5) (imm : BitVec 16) : List Nat :=
  (if s.ready h = true ∧ s.txnFree h = true then
    (let n := coreOf h
     let va := (s.thread h).readG gs1 + imm.signExtend 64
     let look := s.partLook n false
     ([(1, true, Dest.g r), (1, false, .g r), (2, true, .g r), (2, false, .g r), (4, true, .g r), (4, false, .g r), (8, false, .g r), (2, false, .f r), (4, false, .f r), (8, false, .f r)].flatMap fun (len, sg, dest) =>
       (([1,2,4,8].flatMap fun n => [[l0.take n], [List.replicate n 0], [(l0.drop 60).take (min n 4), l0.take (n-4)]] : List (List (List Byte))).flatMap fun (bs : List (List Byte)) => (match s.resolve h va len .load with
          | .parts ps => (if ps.map look = bs.map PartLook.data then
               [0]
              else [])
          | _ => [])) ++
       (match s.resolve h va len .load with
        | .parts ps => (if (∀ p ∈ ps, look p ≠ .busy ∧ look p ≠ .overlap) then
             clause 1 (((∀ p ∈ ps, (look p).missed = none)) ∧ ((∃ p ∈ ps, look p = .outside))) ++
             (match ps.findSome? (fun p => (look p).missed) with
              | some line => [2]
              | _ => [])
            else []) ++
           clause 3 ((∃ p ∈ ps, look p = .overlap)) ++
           (ps.flatMap fun (p : _) => clause 4 (mbKind? (s.region p.pa) p.pa p.uc = some .normal ∧ s.den n = true ∧ ((s.core n).l1dLine (p.pa / 64)).isSome = true))
        | _ => []) ++
       (([0, 1, 2, 5, 6, 7] : List (Nat)).flatMap fun (par : Nat) => (match s.resolve h va len .load with
          | .fault code => [5]
          | _ => []))))
   else [])

theorem test_hypotheses :
    loadResults1 ((pas.flatMap (fun a => cs.map (rn a)) : List (State)).getD 1 .reset) 0 0 1 0 = [0, 4, 0, 4, 0, 4, 0, 4, 0, 4, 0, 4, 0, 4, 0, 4, 0, 4, 0, 4] ∧
    loadResults1 ((pas.flatMap (fun a => cs.map (rn a)) : List (State)).getD 0 .reset) 0 0 0 0 = [2, 2, 2, 2, 2, 2, 2, 2, 2, 2] ∧
    loadResults1 ((pas.flatMap (fun a => cs.map (rn a)) : List (State)).getD 0 .reset) 0 0 2 0 = [5, 5, 5, 5, 5, 5, 5, 5, 5, 5, 5, 5, 5, 5, 5, 5, 5, 5, 5, 5, 5, 5, 5, 5, 5, 5, 5, 5, 5, 5, 5, 5, 5, 5, 5, 5, 5, 5, 5, 5, 5, 5, 5, 5, 5, 5, 5, 5, 5, 5, 5, 5, 5, 5, 5, 5, 5, 5, 5, 5] ∧
    loadResults1 ((pas.flatMap (fun a => cs.map (rn a)) : List (State)).getD 2 .reset) 0 0 1 0 = [0, 0, 0, 0, 0, 0, 3, 0, 0, 3] ∧
    loadResults1 ((pas.flatMap (fun a => cs.map (rn a)) : List (State)).getD 15 .reset) 0 0 1 0 = [1, 1, 1, 1, 1, 1, 1, 1, 1, 1] := by
  decide +kernel

end ForLoadResults

namespace ForStoreResults

def pas : List Nat := [64, 124, 0x8000000000, 0x8000040000, 0x10000000000]
def th (a : Nat) : Thread := { pc := 64, g := [(1, a), (2, 0x8081828384858687)] , mode := .running }
def rn (a : Nat) (c : Core) (t : Thread → Thread := id) : State := { up.setThread 0 (t (th a)) with cores := [(0, { c with lease := some 0 })] }.setOn FUR_L1CTL.DEN 0 true
def l0 : List Byte := (List.range 64).map fun i => BitVec.ofNat 8 (i * 5 + 130)
def me (num : Nat) (kind : MbKind := .normal) : MbEntry := { num := num, line := 1, kind := kind, data := l0, mask := 0xF, closed := false, threads := [0] }
def cs : List Core := [{}, { l1d := [(1, ⟨1, l0⟩), (2, ⟨2, l0⟩)] }, { mbuf := [me 3], mbNext := 4 }, { fill := some 9 }, { l1d := [(1, ⟨1, l0⟩)], mbuf := (List.range 16).map (fun k => { me k with line := 100 + k}), mbNext := 16 }]

/-- The clauses of LoadStoreAtomicResults whose hypotheses hold. -/
def storeResults1 (s : State) (h : Tid) (r : Reg5) (gs1 : Reg5) (imm : BitVec 16) : List Nat :=
  (if s.ready h = true then
    (let n := coreOf h
     let t := s.thread h
     let va := t.readG gs1 + imm.signExtend 64
     let buffered := fun p : Part => (mbKind? (s.region p.pa) p.pa p.uc).isSome
     ([(1, t.readG r), (2, t.readG r), (4, t.readG r), (8, t.readG r), (2, t.readF r), (4, t.readF r), (8, t.readF r)].flatMap fun (len, v) =>
       (match s.resolve h va len .store with
        | .parts ps => clause 0 (ps.all buffered = true ∧ (s.core n).fill = none ∧ ((s.storeParts h ps (leBytes len v.toNat)).core n).mbuf.length ≤ 16) ++
           clause 1 (ps.all buffered = false ∧ s.txnFree h = true)
        | .fault code => [2]
        | _ => [])) ++
     (([false, true] : List (Bool)).flatMap fun (uc : Bool) => (([[], List.replicate 4 0, List.replicate 8 0] : List (List Byte)).flatMap fun (bytes : List Byte) => (([0, 1, 2, 5, 6, 7] : List (Nat)).flatMap fun (pa : Nat) => clause 3 ((mbKind? (s.region pa) pa uc).isSome = true ∧ bytes ≠ [] ∧ pa % 64 + bytes.length ≤ 64 ∧ ((∀ e ∈ (s.core n).mbuf, e.line = pa / 64 → e.data.length = 64)) ∧ (s.core n).mbOver (pa / 64) (maskOf (pa % 64) bytes.length) = [])))))
   else [])

theorem test_hypotheses :
    storeResults1 ((pas.flatMap (fun a => cs.map (rn a)) : List (State)).getD 0 .reset) 0 0 0 0 = [0, 0, 0, 0, 0, 0, 0, 3, 3, 3, 3, 3, 3, 3, 3, 3, 3, 3, 3, 3, 3, 3, 3, 3, 3, 3, 3, 3, 3, 3, 3] ∧
    storeResults1 ((pas.flatMap (fun a => cs.map (rn a)) : List (State)).getD 0 .reset) 0 0 2 0 = [2, 2, 2, 2, 2, 2, 2, 3, 3, 3, 3, 3, 3, 3, 3, 3, 3, 3, 3, 3, 3, 3, 3, 3, 3, 3, 3, 3, 3, 3, 3] ∧
    storeResults1 ((pas.flatMap (fun a => cs.map (rn a)) : List (State)).getD 20 .reset) 0 0 1 0 = [1, 1, 1, 1, 1, 1, 1, 3, 3, 3, 3, 3, 3, 3, 3, 3, 3, 3, 3, 3, 3, 3, 3, 3, 3, 3, 3, 3, 3, 3, 3] := by
  decide +kernel

end ForStoreResults

namespace ForAtomicResults

def pas : List Nat := [64, 124, 0x8000000000, 0x8000040000, 0x10000000000]
def th (a : Nat) : Thread := { pc := 64, g := [(1, a), (2, 0x8081828384858687)] , mode := .running }
def rn (a : Nat) (c : Core) (t : Thread → Thread := id) : State := { up.setThread 0 (t (th a)) with cores := [(0, { c with lease := some 0 })] }.setOn FUR_L1CTL.DEN 0 true
def l0 : List Byte := (List.range 64).map fun i => BitVec.ofNat 8 (i * 5 + 130)
def me (num : Nat) (kind : MbKind := .normal) : MbEntry := { num := num, line := 1, kind := kind, data := l0, mask := 0xF, closed := false, threads := [0] }
def cs : List Core := [{}, { l1d := [(1, ⟨1, l0⟩), (2, ⟨2, l0⟩)] }, { mbuf := [me 3], mbNext := 4 }, { fill := some 9 }, { l1d := [(1, ⟨1, l0⟩)], mbuf := (List.range 16).map (fun k => { me k with line := 100 + k}), mbNext := 16 }]
def ops : List AtomicOp := [{ va := 64, pa := 64, uc := false, wide := true, op := .add, gd := 3, arg := 7, cmp := 0, rel := false, upto := 0 }, { va := 64, pa := 0x8000000000, uc := false, wide := false, op := .cas, gd := 3, arg := 7, cmp := 0, rel := true, upto := 0 }]
def lops : List LoadOp := [{ va := 64, parts := [⟨64, 8, false⟩], dest := .g 3, signed := false }]

/-- The clauses of LoadStoreAtomicResults whose hypotheses hold. -/
def atomicResults1 (s : State) (h : Tid) (gd : Reg5) (gs1 : Reg5) (gs2 : Reg5) (acq : Bool) (rel : Bool) (wide : Bool) (res : MemRes) : List Nat :=
  (let n := coreOf h
   let t := s.thread h
   let va := t.readG gs1
   let len := if wide then 8 else 4
   (if s.ready h = true then
     clause 0 (va.toNat % len ≠ 0) ++
     (match s.resolve h va len .store with
      | .parts (p :: ps) => clause 1 (va.toNat % len = 0 ∧ s.txnFree h = true ∧ ((match s.region p.pa with | .normal .. => true | .seedbox .. => true | .remote .. => true | _ => false) = true))
      | _ => [])
    else []) ++
   ((ops : List (AtomicOp)).flatMap fun (a : AtomicOp) => (([0, 1, 2, 5, 6, 7] : List (Nat)).flatMap fun (old : Nat) => [2])) ++
   (match t.hold with
    | some (.atomic a) => (if t.nextPosted = none ∧ s.locked n = false ∧ s.atomicReady h a = true ∧ s.readHeld (furrowOf n) a.pa a.uc = false ∧ ((match s.region a.pa with | .normal .. => true | .seedbox .. => true | _ => false) = true) then
         (let bytes := if a.wide then 8 else 4
          (match s.lineRead (furrowOf n) a.pa bytes a.uc 0 res with
           | (.data b, u) => [3]
           | (.poison, u) => [4]
           | (.decode, u) => [5]))
        else [])
    | some (.load l) => (if t.nextPosted = none then
         (match s.loadParts h l.past res l.parts [] with
          | (.data b, u) => [6]
          | (.decode, u) => [7]
          | (.poison, u) => [8]
          | _ => [9])
        else [])
    | _ => []))

theorem test_hypotheses :
    atomicResults1 ((pas.flatMap (fun a => cs.map (rn a)) : List (State)).getD 0 .reset) 0 0 0 0 false false false .ok = [1, 2, 2, 2, 2, 2, 2, 2, 2, 2, 2, 2, 2] ∧
    atomicResults1 ((pas.flatMap (fun a => cs.map (rn a)) : List (State)).getD 0 .reset) 0 0 2 0 false false false .ok = [0, 2, 2, 2, 2, 2, 2, 2, 2, 2, 2, 2, 2] ∧
    atomicResults1 ((ops.map (fun o => rn 64 {} fun t => { t with hold := some (.atomic o) }) : List (State)).getD 0 .reset) 0 0 0 0 false false false .ok = [2, 2, 2, 2, 2, 2, 2, 2, 2, 2, 2, 2, 3] ∧
    atomicResults1 ((ops.map (fun o => rn 64 {} fun t => { t with hold := some (.atomic o) }) : List (State)).getD 0 .reset) 0 0 0 0 false false false .linkFail = [2, 2, 2, 2, 2, 2, 2, 2, 2, 2, 2, 2, 4] ∧
    atomicResults1 ((lops.map (fun o => rn 64 {} fun t => { t with hold := some (.load o) }) : List (State)).getD 0 .reset) 0 0 0 0 false false false .ok = [2, 2, 2, 2, 2, 2, 2, 2, 2, 2, 2, 2, 6] ∧
    atomicResults1 ((lops.map (fun o => rn 64 {} fun t => { t with hold := some (.load o) }) : List (State)).getD 0 .reset) 0 0 0 0 false false false .linkFail = [2, 2, 2, 2, 2, 2, 2, 2, 2, 2, 2, 2, 8] := by
  decide +kernel

end ForAtomicResults

namespace ForExceptionEntryResults

def x1 : Exc := { code := 0x03, epc := 64, eaddr := 5 }
def x2 : Exc := { code := 0x05, epc := 64, eaddr := 5 }
def x3 : Exc := { code := 0x41, epc := 64, eaddr := 0 }
def th : Thread := { pc := 64, g := [(1, 5), (30, 7), (31, 9)] , mode := .running, gmask := false, xsp := [(0, 0x1000), (1, 0x2000), (2, 0x3000), (3, 0x4000)], entry := [(0, 0x5000), (1, 0x5100), (2, 0x5200), (3,0x5300)], dfentry := 0x6000, dfsp := 0x7000 }
def rn (t : Thread) : State := { up.setThread 0 t with cores := [(0, { lease := some 0 })], granary := { up.granary with mem := [(0x40, 0x01), (0x100, 0x00), (0x101, 0x60), (0x108, 0x03), (0x1000, 0x44), (0x1008, 0x14),(0x1020, 5), (0x1028, 6)] } }
def ts : List Thread := [th, { th with raised := some x1 }, { th with raised := some x2 }, { th with raised := some x3 }, { th with raised := some x1, gmask := true }, { th with raised := some x1, mlevel := 15 },
  { th with raised := some x1, xsp := [(0, 0x1004)], ring := 0 }, { th with raised := some x1, dfa := true, lockpol := true }, { th with raised := some x1, dfa := true, lockpol := false }, { th with dfa := true },
  { th with gatebase := 0x100, gatecnt := 2 }, { th with ring := 1, raised := some x2 }, { th with pc := 0x10000000000 }, { th with xsp := [(0, 0x1001)]}, {th with pc := 0x1000}, {th with ring := 2, raised := some x1, lockpol := true}, {th with ring := 3, xsp := [(3, 0x1000)]},{th with ring := 1, dfa := true}, {th with xsp := [(0, 0x8000000000)]}]

/-- The clauses of ExceptionAndDoubleFaultEntry whose hypotheses hold. -/
def exceptionEntryResults1 (s : State) (h : Tid) (x : Exc) (res : MemRes) (ent : MemRes) (n : BitVec 8) : List Nat :=
  (let frame := fun (t : Thread) (y : Exc) (img : Word) =>
     leBytes 8 y.epc.toNat ++ leBytes 8 (t.ring + (if t.gmask then 4 else 0) + t.mlevel * 16) ++ leBytes 8 img.toNat ++
     leBytes 8 y.eaddr.toNat ++ leBytes 8 (t.readG 30).toNat ++ leBytes 8 (t.readG 31).toNat ++ List.replicate 16 0
   let image := fun (t : Thread) (y : Exc) => BitVec.ofNat 64 (t.ring * 2 ^ 28 + levelOf y.code * 2 ^ 24 +
     (if y.code = 0x0C ∨ 0x40 ≤ y.code then 2 ^ 23 else 0) + y.info * 256 + y.code)
   let ring := fun (t : Thread) (y : Exc) => if y.code ∈ [0x03, 0x07, 0x0A, 0x0B, 0x10] then t.ring else 0
   let unmasked := fun (t : Thread) (y : Exc) =>
     y.code = 0x0C ∨ 0x40 ≤ y.code ∨ y.code = 0x08 ∨ (t.gmask = false ∧ t.mlevel < levelOf y.code)
   (if s.on GLN_TRC_CTL.STALL 0 = false then
     (if s.coreRuns (coreOf h) = true ∧ (s.thread h).mode = .running ∧ (s.thread h).raised = some x then
       (let a : State := s
        let y : Exc := x
        let t := a.thread h
        let d := ring t y
        (if t.dfa = false ∧ unmasked t y ∧ a.entryWaits h y = false then
          (match a.pushFrame h d (frame t y (image t y)) res with
           | (none, _) => [0]
           | (some sp, b) => clause 1 (((((b.modThread h fun u => u.entered y (image t y) sp d).trExcept h t.ring y.code (t.entryOf d)).trRescan h).fetchOk h
  (t.entryOf d) ent).1 = true))
         else []))
      else []) ++
     (([.ok] : List (MemRes)).flatMap fun (r : MemRes) => (if s.ready h = true ∧ s.walkWaits h (s.thread h).ring (s.thread h).pc .fetch = false then
         (match s.fetchExc h r with
          | (none, _) => [2]
          | (some y, a) => (let t := a.thread h
              let d := ring t y
              (if t.dfa = false ∧ unmasked t y ∧ a.entryWaits h y = false then
                (match a.pushFrame h d (frame t y (image t y)) res with
                 | (none, _) => [3]
                 | (some sp, b) => clause 4 (((((b.modThread h fun u => u.entered y (image t y) sp d).trExcept h t.ring y.code (t.entryOf d)).trRescan h).fetchOk h
    (t.entryOf d) ent).1 = true))
               else [])))
        else [])) ++
     (let y : Exc := { code := 0x08, epc := (s.thread h).pc + 4, eaddr := 0, info := n.toNat }
      (if s.ready h = true ∧ s.entryWaits h y = false then
        (let a : State := (s.setThread h (s.thread h).next)
         let t := a.thread h
         let d := ring t y
         (if t.dfa = false ∧ unmasked t y ∧ a.entryWaits h y = false then
           (match a.pushFrame h d (frame t y (image t y)) res with
            | (none, _) => [5]
            | (some sp, b) => clause 6 (((((b.modThread h fun u => u.entered y (image t y) sp d).trExcept h t.ring y.code (t.entryOf d)).trRescan h).fetchOk h
   (t.entryOf d) ent).1 = true))
          else []))
       else []))
    else []))

theorem test_hypotheses :
    exceptionEntryResults1 ((ts.map rn : List (State)).getD 13 .reset) 0 x1 .ok .ok 0 = [3, 5] ∧
    exceptionEntryResults1 (rn { th with pc := 0x10000000000 }) 0 x1 .ok .ok 2 = [4, 6] ∧
    exceptionEntryResults1 ((ts.map rn : List (State)).getD 1 .reset) 0 x1 .ok .ok 0 = [1] ∧
    exceptionEntryResults1 ((ts.map rn : List (State)).getD 6 .reset) 0 x1 .ok .ok 0 = [0] := by
  decide +kernel

end ForExceptionEntryResults

namespace ForDoubleFaultPath

def x1 : Exc := { code := 0x03, epc := 64, eaddr := 5 }
def x2 : Exc := { code := 0x05, epc := 64, eaddr := 5 }
def x3 : Exc := { code := 0x41, epc := 64, eaddr := 0 }
def th : Thread := { pc := 64, g := [(1, 5), (30, 7), (31, 9)] , mode := .running, gmask := false, xsp := [(0, 0x1000), (1, 0x2000), (2, 0x3000), (3, 0x4000)], entry := [(0, 0x5000), (1, 0x5100), (2, 0x5200), (3,0x5300)], dfentry := 0x6000, dfsp := 0x7000 }
def rn (t : Thread) : State := { up.setThread 0 t with cores := [(0, { lease := some 0 })], granary := { up.granary with mem := [(0x40, 0x01), (0x100, 0x00), (0x101, 0x60), (0x108, 0x03), (0x1000, 0x44), (0x1008, 0x14),(0x1020, 5), (0x1028, 6)] } }
def ts : List Thread := [th, { th with raised := some x1 }, { th with raised := some x2 }, { th with raised := some x3 }, { th with raised := some x1, gmask := true }, { th with raised := some x1, mlevel := 15 },
  { th with raised := some x1, xsp := [(0, 0x1004)], ring := 0 }, { th with raised := some x1, dfa := true, lockpol := true }, { th with raised := some x1, dfa := true, lockpol := false }, { th with dfa := true },
  { th with gatebase := 0x100, gatecnt := 2 }, { th with ring := 1, raised := some x2 }, { th with pc := 0x10000000000 }, { th with xsp := [(0, 0x1001)]}, {th with pc := 0x1000}, {th with ring := 2, raised := some x1, lockpol := true}, {th with ring := 3, xsp := [(3, 0x1000)]},{th with ring := 1, dfa := true}, {th with xsp := [(0, 0x8000000000)]}]

/-- The clauses of ExceptionAndDoubleFaultEntry whose hypotheses hold. -/
def doubleFaultPath1 (s : State) (h : Tid) (x : Exc) (res : MemRes) (ent : MemRes) : List Nat :=
  (let t := s.thread h
   let n := coreOf h
   (if s.on GLN_TRC_CTL.STALL 0 = false ∧ s.coreRuns n = true ∧ t.mode = .running ∧ t.raised = some x then
     (if t.dfa = false then
       clause 0 (x.code ≠ 0x0C ∧ x.code < 0x40 ∧ x.code ≠ 0x08 ∧ (t.gmask = true ∨ levelOf x.code ≤ t.mlevel)) ++
       (if x.code = 0x0C ∨ 0x40 ≤ x.code ∨ x.code = 0x08 ∨ (t.gmask = false ∧ t.mlevel < levelOf x.code) then
         (let d := handlingRing x.code t.ring
          clause 1 (s.entryWaits h x = false ∧ (s.pushFrame h d (t.frame x.epc (causeImage t.ring (levelOf x.code) (isAsync x.code) x.info x.code) x.eaddr) res).1 = none))
        else [])
      else []) ++
     (if t.dfa = true then
       clause 2 (t.lockpol = true) ++
       clause 3 (t.lockpol = false ∧ (s.core n).lease.any (s.clk.plotReset.contains ·) = false)
      else [])
    else []))

theorem test_hypotheses :
    doubleFaultPath1 ((ts.map rn : List (State)).getD 4 .reset) 0 x1 .ok .ok = [0] ∧
    doubleFaultPath1 ((ts.map rn : List (State)).getD 6 .reset) 0 x1 .ok .ok = [1] ∧
    doubleFaultPath1 ((ts.map rn : List (State)).getD 7 .reset) 0 x1 .ok .ok = [2] ∧
    doubleFaultPath1 ((ts.map rn : List (State)).getD 8 .reset) 0 x1 .ok .ok = [3] := by
  decide +kernel

end ForDoubleFaultPath

namespace ForReturnGateAndBreakResults

def x1 : Exc := { code := 0x03, epc := 64, eaddr := 5 }
def x2 : Exc := { code := 0x05, epc := 64, eaddr := 5 }
def x3 : Exc := { code := 0x41, epc := 64, eaddr := 0 }
def th : Thread := { pc := 64, g := [(1, 5), (30, 7), (31, 9)] , mode := .running, gmask := false, xsp := [(0, 0x1000), (1, 0x2000), (2, 0x3000), (3, 0x4000)], entry := [(0, 0x5000), (1, 0x5100), (2, 0x5200), (3,0x5300)], dfentry := 0x6000, dfsp := 0x7000 }
def rn (t : Thread) : State := { up.setThread 0 t with cores := [(0, { lease := some 0 })], granary := { up.granary with mem := [(0x40, 0x01), (0x100, 0x00), (0x101, 0x60), (0x108, 0x03), (0x1000, 0x44), (0x1008, 0x14),(0x1020, 5), (0x1028, 6)] } }
def ts : List Thread := [th, { th with raised := some x1 }, { th with raised := some x2 }, { th with raised := some x3 }, { th with raised := some x1, gmask := true }, { th with raised := some x1, mlevel := 15 },
  { th with raised := some x1, xsp := [(0, 0x1004)], ring := 0 }, { th with raised := some x1, dfa := true, lockpol := true }, { th with raised := some x1, dfa := true, lockpol := false }, { th with dfa := true },
  { th with gatebase := 0x100, gatecnt := 2 }, { th with ring := 1, raised := some x2 }, { th with pc := 0x10000000000 }, { th with xsp := [(0, 0x1001)]}, {th with pc := 0x1000}, {th with ring := 2, raised := some x1, lockpol := true}, {th with ring := 3, xsp := [(3, 0x1000)]},{th with ring := 1, dfa := true}, {th with xsp := [(0, 0x8000000000)]}]
def put8 (s : State) (pa v : Nat) : State := (s.fcWrite 0 (pa / 64) (maskOf (pa % 64) 8) (List.replicate (pa % 64) 0 ++ leBytes 8 v) none .ok).2

/-- The clauses of ReturnGateAndBreakResults whose hypotheses hold. -/
def returnGateAndBreakResults1 (s : State) (h : Tid) (n : BitVec 8) (agent : Agent) (mask : BitVec 4) (res : MemRes) (push : MemRes) : List Nat :=
  (let t := s.thread h
   let entry := t.gatebase + BitVec.ofNat 64 (16 * n.toNat)
   let dbg := s.bitF GLN_DBGEN.CORES (coreOf h / 32) (coreOf h % 32)
   (if s.ready h = true then
     clause 0 (t.dfa = false ∧ t.gatecnt ≤ n.toNat) ++
     (if s.on GLN_TRC_CTL.STALL 0 = false ∧ t.dfa = false then
       (if n.toNat < t.gatecnt ∧ canonical t.gatebase = true ∧ s.walkWaits h 0 entry .load = false then
         (match s.gateEntry h entry res with
          | (none, _) => [1]
          | (some (target, flags), a) => clause 2 (gateOk target flags t.ring ∧ a.walkWaits h (flags % 4) (t.xspOf (flags % 4) - 64) .store = false) ++
             clause 3 (¬(gateOk target flags t.ring)))
        else []) ++
       clause 4 (s.walkWaits h t.ring (t.xspOf t.ring) .load = false)
      else []) ++
     (if t.dfa = true then
       [5] ++
       clause 6 (t.ring ≠ 0)
      else []) ++
     clause 7 (t.dfa = false) ++
     (if s.on GLN_TRC_CTL.STALL 0 = false ∧ t.dfa = true ∧ t.ring = 0 then
       [8]
      else []) ++
     clause 9 (dbg = true) ++
     clause 10 (dbg = false)
    else []) ++
   (if s.coreRuns (coreOf h) = true ∧ t.mode = .running ∧ t.raised = none ∧ t.haltReq = false ∧ t.exited = false ∧ t.hold = none then
     (match s.asyncDue h with
      | none => [11]
      | some (code, _) => [12])
    else []) ++
   clause 13 (s.acts agent = true ∧ reaches agent = true))

theorem test_hypotheses :
    returnGateAndBreakResults1 ((ts.map rn : List (State)).getD 0 .reset) 0 0 (.plot 0) 1 .ok .ok = [0, 4, 7, 10, 11, 13] ∧
    returnGateAndBreakResults1 ((ts.map rn : List (State)).getD 9 .reset) 0 0 (.plot 0) 1 .ok .ok = [5, 8, 10, 11, 13] ∧
    returnGateAndBreakResults1 ((ts.map rn : List (State)).getD 10 .reset) 0 0 (.plot 0) 1 .ok .ok = [3, 4, 7, 10, 11, 13] ∧
    returnGateAndBreakResults1 ((ts.map rn : List (State)).getD 10 .reset) 0 0 (.plot 0) 1 .linkFail .ok = [1, 4, 7, 10, 11, 13] ∧
    returnGateAndBreakResults1 ((ts.map rn : List (State)).getD 17 .reset) 0 0 (.plot 0) 1 .ok .ok = [5, 6, 10, 11, 13] ∧
    returnGateAndBreakResults1 ((rn th).setBitF GLN_DBGEN.CORES 0 0 true) 0 0 (.plot 0) 1 .ok .ok = [0, 4, 7, 9, 11, 13] ∧
    returnGateAndBreakResults1 ((rn th).setF FUR_XPEND.SRC 0 3) 0 0 (.plot 0) 1 .ok .ok = [12, 13] ∧
    returnGateAndBreakResults1 (put8 (put8 (rn { th with gatebase := 0x100, gatecnt := 2, ring := 1 }) 0x100 0x9000) 0x108 (2 ^ 63 + 0xF0)) 0 0 (.plot 0) 1 .ok .ok = [2, 4, 7, 10, 11, 13] := by
  decide +kernel

end ForReturnGateAndBreakResults

namespace ForFenceAndTlbResults

def l0 : List Byte := (List.range 64).map fun i => BitVec.ofNat 8 (i * 5 + 130)
def me (num line : Nat) (c : Bool) (kind : MbKind := .normal) : MbEntry := { num := num, line := line, kind := kind, data := l0, mask := 0xF, closed := c, threads := [0] }
def tlbE (p base span : Nat) : TlbEntry := { tlbEntryOf p (base * 2 ^ span) (0x1000 + 0x71) span with plot := p }
def cs : List Core := [{}, { l1d := [(1, ⟨1, l0⟩), (2, ⟨2, l0⟩)], l1i := [(1, ⟨1, l0⟩)] , side := [(0, ⟨3, l0, 1⟩)], itlb := [tlbE 0 0 12, tlbE 1 0 12], dtlb := [tlbE 0 0 12], tlb := [tlbE 0 0 12, tlbE 0 5 21] },
  { mbuf := [me 1 1 true, me 2 2 false, me 3 0x200000000 true .local'], mbNext := 4 },
  { mbuf := [me 1 2 true, me 2 1 false], mbNext := 3 },
  { fill := some 1, denNext := some false, mbuf := [me 1 1 false], mbNext := 2 }, { fill := some 1, pfs := [(9, 0), (1, 0)] },
  { denAfter := true, dinv := true, l1d := [(1, ⟨1, l0⟩)], side := [(0, ⟨3, l0, 1⟩)] }, { ienAfter := true, iinv := true, l1i := [(1, ⟨1, l0⟩)] },
  { ifills := [(0, 1)] }, { ifills := [(0, 1), (3, 8)], mbuf := [me 1 1 true] }]
def th (a : Nat) : Thread := { pc := 64, g := [(1, BitVec.ofNat 64 a), (2, 0x8081828384858687)] , mode := .running }
def fcs : List (List (Nat × FcLine)) := [[], [(fcKey 0 1 2, { line := 1, st := .m, data := l0, poison := false, used := 3 })], [(fcKey 0 1 2, { line := 1, st := .e, data := l0, poison := true, used := 3 })], [(fcKey 0 0 5, { line := 4096, st := .m, data := l0, poison := false, used := 3 }), (fcKey 0 1 0, { line := 1, st := .s, data := l0, poison := false, used := 1 })]]
def rn (a : Nat) (c : Core) (fc : List (Nat × FcLine)) (t : Thread → Thread := id) : State :=
  let s := { up.setThread 0 (t (th a)) with cores := [(0, { c with lease := some 0 }), (1, {tlb := [tlbE 0 0 12], lease := some 0}), (2, {tlb := [tlbE 0 0 12], lease := some 3})] }
  ((s.setFc fc).setOn FUR_L1CTL.DEN 0 true).setOn FUR_L1CTL.IEN 0 true
def holds : List (Option Hold) := [some (.fence .rel 9), some (.fence .ifence 0), some (.fence .acq 0), some (.fence .host 9), some (.tlbi none), some (.tlbi (some 64)), some (.overlap { va := 64, parts := [⟨64, 8, false⟩], dest := .g 3, signed := false } [1]), some (.l1miss { va := 64, parts := [⟨64, 8, false⟩], dest := .g 3, signed := false }),
   some (.walk 64 64 .load 0 true 0 0), some (.walk 64 64 .store 8 true 0 0), some (.walk 64 64 .pf 0 true 0 0), some (.walk 64 64 .fetch 0 true 0 0)]
def ups : List State := [State.reset, up]
def mainSts : List State := ups ++ cs.flatMap (fun c => fcs.map fun f => rn 64 c f) ++ [rn 0x4000000000 {} [], rn (2^56) {} [], rn 64 {} [] fun t => { t with ring := 2 }] ++ cs.flatMap fun c => holds.map fun h => rn 64 c fcs[1]! fun t => { t with hold := h }

/-- The clauses of FenceAndTlbResults whose hypotheses hold. -/
def fenceAndTlbResults1 (s : State) (h : Tid) (gs1 : Reg5) : List Nat :=
  (let n := coreOf h
   let t := s.thread h
   (if s.ready h = true then
     ([FenceKind.acq, .rel, .pkg, .acre, .host, .ifence].flatMap fun kind =>
       [0])
    else []) ++
   ((((s.markAll n).core n).mbuf).flatMap fun (e : _) => [1]) ++
   (match t.hold with
    | some (.fence kind upto) => clause 2 (s.fenceDone h kind upto = false) ++
       clause 3 (s.fenceDone h kind upto = true)
    | _ => [4]) ++
   (if s.ready h = true ∧ t.ring = 0 then
     [5]
    else []) ++
   (match t.hold with
    | some (.tlbi va) => [6]
    | _ => [7]) ++
   (if s.ready h = true ∧ t.ring ≠ 0 then
     [8]
    else []))

theorem test_hypotheses :
    fenceAndTlbResults1 ((mainSts : List (State)).getD 10 .reset) 0 1 = [0, 0, 0, 0, 0, 0, 1, 1, 1, 4, 5, 7] ∧
    fenceAndTlbResults1 ((mainSts : List (State)).getD 44 .reset) 0 1 = [0, 0, 0, 0, 0, 0, 4, 7, 8] ∧
    fenceAndTlbResults1 ((mainSts : List (State)).getD 45 .reset) 0 1 = [3, 7] ∧
    fenceAndTlbResults1 ((mainSts : List (State)).getD 49 .reset) 0 1 = [4, 6] ∧
    fenceAndTlbResults1 ((mainSts : List (State)).getD 69 .reset) 0 1 = [1, 1, 1, 2, 7] := by
  decide +kernel

end ForFenceAndTlbResults

namespace ForCacheMaintenanceResults

def l0 : List Byte := (List.range 64).map fun i => BitVec.ofNat 8 (i * 5 + 130)
def me (num line : Nat) (c : Bool) (kind : MbKind := .normal) : MbEntry := { num := num, line := line, kind := kind, data := l0, mask := 0xF, closed := c, threads := [0] }
def tlbE (p base span : Nat) : TlbEntry := { tlbEntryOf p (base * 2 ^ span) (0x1000 + 0x71) span with plot := p }
def cs : List Core := [{}, { l1d := [(1, ⟨1, l0⟩), (2, ⟨2, l0⟩)], l1i := [(1, ⟨1, l0⟩)] , side := [(0, ⟨3, l0, 1⟩)], itlb := [tlbE 0 0 12, tlbE 1 0 12], dtlb := [tlbE 0 0 12], tlb := [tlbE 0 0 12, tlbE 0 5 21] },
  { mbuf := [me 1 1 true, me 2 2 false, me 3 0x200000000 true .local'], mbNext := 4 },
  { mbuf := [me 1 2 true, me 2 1 false], mbNext := 3 },
  { fill := some 1, denNext := some false, mbuf := [me 1 1 false], mbNext := 2 }, { fill := some 1, pfs := [(9, 0), (1, 0)] },
  { denAfter := true, dinv := true, l1d := [(1, ⟨1, l0⟩)], side := [(0, ⟨3, l0, 1⟩)] }, { ienAfter := true, iinv := true, l1i := [(1, ⟨1, l0⟩)] },
  { ifills := [(0, 1)] }, { ifills := [(0, 1), (3, 8)], mbuf := [me 1 1 true] }]
def th (a : Nat) : Thread := { pc := 64, g := [(1, BitVec.ofNat 64 a), (2, 0x8081828384858687)] , mode := .running }
def fcs : List (List (Nat × FcLine)) := [[], [(fcKey 0 1 2, { line := 1, st := .m, data := l0, poison := false, used := 3 })], [(fcKey 0 1 2, { line := 1, st := .e, data := l0, poison := true, used := 3 })], [(fcKey 0 0 5, { line := 4096, st := .m, data := l0, poison := false, used := 3 }), (fcKey 0 1 0, { line := 1, st := .s, data := l0, poison := false, used := 1 })]]
def rn (a : Nat) (c : Core) (fc : List (Nat × FcLine)) (t : Thread → Thread := id) : State :=
  let s := { up.setThread 0 (t (th a)) with cores := [(0, { c with lease := some 0 }), (1, {tlb := [tlbE 0 0 12], lease := some 0}), (2, {tlb := [tlbE 0 0 12], lease := some 3})] }
  ((s.setFc fc).setOn FUR_L1CTL.DEN 0 true).setOn FUR_L1CTL.IEN 0 true
def holds : List (Option Hold) := [some (.fence .rel 9), some (.fence .ifence 0), some (.fence .acq 0), some (.fence .host 9), some (.tlbi none), some (.tlbi (some 64)), some (.overlap { va := 64, parts := [⟨64, 8, false⟩], dest := .g 3, signed := false } [1]), some (.l1miss { va := 64, parts := [⟨64, 8, false⟩], dest := .g 3, signed := false }),
   some (.walk 64 64 .load 0 true 0 0), some (.walk 64 64 .store 8 true 0 0), some (.walk 64 64 .pf 0 true 0 0), some (.walk 64 64 .fetch 0 true 0 0)]
def tabled (e : Nat) (t : Thread → Thread) (c : Core := {}) : State :=
  let s := rn 64 c [] fun x => t { x with ptroot := 0x100001#64 }
  let put (s : State) (pa v : Nat) : State := (s.fcWrite 0 (pa / 64) (maskOf (pa % 64) 8) (List.replicate (pa % 64) 0 ++ leBytes 8 v) none .ok).2
  [(0x100000, 0x101000 + 1), (0x101000, 0x102000 + 1), (0x102000, 0x103000 + 1), (0x103000, 0x104000 + 1), (0x104000, e)].foldl (fun s x => put s x.1 x.2) s
def leafs : List Nat := [0x7, 0x107, 0x307, 0x3 + 0x1C, 0xFF, 0x1FF, 0x3FF, 0x67, 0x167, 0, 0x77, 0x177, 0x377]
def ups : List State := [State.reset, up]
def mainSts : List State := ups ++ cs.flatMap (fun c => fcs.map fun f => rn 64 c f) ++ [rn 0x4000000000 {} [], rn (2^56) {} [], rn 64 {} [] fun t => { t with ring := 2 }] ++ cs.flatMap fun c => holds.map fun h => rn 64 c fcs[1]! fun t => { t with hold := h }

/-- The clauses of CacheMaintenanceResults whose hypotheses hold. -/
def cacheMaintenanceResults1 (s : State) (h : Tid) (gs1 : Reg5) (target : CmoTarget) (wb : MemRes) : List Nat :=
  (let c := coreOf h
   let t := s.thread h
   let cmos := fun (sw : Bool) => [(Instr.cmoInvalidate h gs1 target sw, CmoAction.invalidate, MemRes.ok),
     (.cmoClean h gs1 target sw wb, .clean, wb), (.cmoCleanInvalidate h gs1 target sw wb, .cleanInvalidate, wb)]
   let free := fun (l : Option Nat) => (∀ x, l = some x → (s.core c).mbuf.any (fun e => e.line = x) = false) ∧
     (target ≠ .fc → (s.core c).fill = none) ∧ (target = .fc → ∀ x, l = some x → s.accessHeld (x * 64) = false)
   (if s.ready h = true then
     (if t.ring = 0 then
       ((cmos true).flatMap fun (x : _) => (let op : CmoOp := { target := target, action := x.2.1, setWay := true, arg := (t.readG gs1).toNat }
          let l := s.cmoLine c op
          clause 0 (free l)))
      else []) ++
     (if s.txnFree h = true then
       (match s.look h (t.readG gs1) .load with
        | .pa pa leaf => (if s.denied h t.ring .load pa leaf = false then
             ((cmos false).flatMap fun (x : _) => (if t.ring = 0 ∨ x.2.1 ≠ .invalidate ∨ target ≠ .fc then
                 clause 1 (granarySpan ≤ pa) ++
                 clause 2 (pa < granarySpan ∧ free (some (pa / 64)))
                else []))
            else [])
        | .bad => ((cmos false).flatMap fun (x : _) => clause 3 (t.ring = 0 ∨ x.2.1 ≠ .invalidate ∨ target ≠ .fc))
        | .miss => [4])
      else []) ++
     (if t.ring ≠ 0 then
       (([0, 1, 2, 5] : List (Nat)).flatMap fun (sw : Nat) => clause 5 (sw = true ∨ target = .fc))
      else [])
    else []))

/-- The clauses of CacheMaintenanceResults whose hypotheses hold. -/
def cacheMaintenanceResults2 (s : State) (h : Tid) (gs1 : Reg5) (imm : BitVec 16) : List Nat :=
  (if s.ready h = true ∧ s.txnFree h = true then
    (let c := coreOf h
     (match s.resolve h ((s.thread h).readG gs1 + imm.signExtend 64) 1 .pf with
      | .fault _ => [0]
      | .parts [p] => (let line := p.pa / 64
          let wanted := (match s.region p.pa with
            | .normal .. => !p.uc
            | _ => false) && s.den c && ((s.core c).l1dLine line).isNone && ((s.core c).sideSlot line).isNone &&
            (s.core c).fill ≠ some line && !(s.core c).pfs.any (fun q => q.1 = line)
          clause 1 (wanted = true) ++
          clause 2 (wanted = false))
      | _ => [3]))
   else [])

/-- The clauses of CacheMaintenanceResults whose hypotheses hold. -/
def cacheMaintenanceResults3 (s : State) (n : Cid) (agent : Agent) (ien : Bool) (den : Bool) : List Nat :=
  clause 0 (s.released = true) ++
  [1] ++
  clause 2 (s.acts agent = true ∧ reaches agent = true)

/-- The clauses of CacheMaintenanceResults whose hypotheses hold. -/
def cacheMaintenanceResults4 (s : State) (f : Furrow) (agent : Agent) (mode : Bool) (action : BitVec 2) (wb : MemRes) : List Nat :=
  (if s.acts agent = true ∧ reaches agent = true then
    (let base := s.f FUR_RNG_BASE.BASE f
     let len := s.f FUR_RNG_LEN.LEN f
     let legal := action ≠ 3 ∧ (mode = true ∨ (len ≠ 0 ∧ (base + len) * 64 ≤ granarySpan))
     (if s.on FUR_RNG_CTL.BUSY f = false then
       clause 0 (legal) ++
       clause 1 (¬legal)
      else []) ++
     clause 2 (s.on FUR_RNG_CTL.BUSY f = true))
   else []) ++
  (match find f.val s.caches.range with
   | some r => [3]
   | none => [4])

/-- The clauses of CacheMaintenanceResults whose hypotheses hold. -/
def cacheMaintenanceResults5 (s : State) (n : Uid) (older : List MbEntry) (newer : List MbEntry) (e : MbEntry) : List Nat :=
  clause 0 (((∀ x ∈ older, x.closed = true)) ∧ e.closed = false ∧ (s.core n).mbuf = older ++ e :: newer)

/-- The clauses of CacheMaintenanceResults whose hypotheses hold. -/
def cacheMaintenanceResults6 (s : State) (f : CacheId) : List Nat :=
  [0] ++
  (([2] : List (Fin 16)).flatMap fun (w : Fin 16) => (let k := fcKey f (findD 0 f.val s.caches.scrubSet) w
     (match s.fcWay k with
      | some x => clause 1 (x.st = .m)
      | none => [2])))

theorem test_hypotheses :
    cacheMaintenanceResults1 ((mainSts : List (State)).getD 2 .reset) 0 1 .l1d .ok = [0, 0, 0, 2, 2, 2] ∧
    cacheMaintenanceResults1 ((mainSts : List (State)).getD 42 .reset) 0 1 .l1d .ok = [0, 0, 0, 1, 1, 1] ∧
    cacheMaintenanceResults1 ((mainSts : List (State)).getD 43 .reset) 0 1 .l1d .ok = [0, 0, 0, 3, 3, 3] ∧
    cacheMaintenanceResults1 ((mainSts : List (State)).getD 44 .reset) 0 1 .l1d .ok = [5, 5] ∧
    cacheMaintenanceResults1 ((leafs.flatMap (fun l => ([some (.walk 64 64 .load 0 true 0x104000 l), some (.walk 64 64 .store 0 true 0x104000 l), some (.walk 64 64 .pf 0 true 0x104000 0), some (.walk 64 64 .fetch 0 true 0x104000 l), none] : List (Option Hold)).map fun h => tabled l fun t => { t with hold := h }) : List (State)).getD 4 .reset) 0 1 .l1d .ok = [0, 0, 0, 4] ∧
    cacheMaintenanceResults2 ((mainSts : List (State)).getD 2 .reset) 0 1 0 = [1] ∧
    cacheMaintenanceResults2 ((mainSts : List (State)).getD 6 .reset) 0 1 0 = [2] ∧
    cacheMaintenanceResults2 ((mainSts : List (State)).getD 43 .reset) 0 1 0 = [0] ∧
    cacheMaintenanceResults2 ((leafs.flatMap (fun l => ([some (.walk 64 64 .load 0 true 0x104000 l), some (.walk 64 64 .store 0 true 0x104000 l), some (.walk 64 64 .pf 0 true 0x104000 0), some (.walk 64 64 .fetch 0 true 0x104000 l), none] : List (Option Hold)).map fun h => tabled l fun t => { t with hold := h }) : List (State)).getD 4 .reset) 0 1 0 = [3] ∧
    cacheMaintenanceResults3 ((mainSts : List (State)).getD 1 .reset) 0 .drill false false = [0, 1, 2] ∧
    cacheMaintenanceResults4 ((mainSts : List (State)).getD 1 .reset) 0 .drill false 0 .ok = [1, 4] ∧
    cacheMaintenanceResults4 { (rn 64 {} fcs[3]!) with caches := { (rn 64 {} fcs[3]!).caches with range := [(0, { action := .clean, mode := true, base := 0, lines := 0})] } } 0 .drill true 0 .ok = [0, 3] ∧
    cacheMaintenanceResults4 ((((rn 64 {} []).setOn FUR_RNG_CTL.BUSY 0 true).setF FUR_RNG_LEN.LEN 0 4)) 0 .drill false 0 .ok = [2, 4] ∧
    cacheMaintenanceResults5 ((mainSts : List (State)).getD 10 .reset) 0 [me 1 1 true] [me 3 0x200000000 true .local'] (me 2 2 false) = [0] ∧
    cacheMaintenanceResults6 ((mainSts : List (State)).getD 0 .reset) 0 = [0, 2] ∧
    cacheMaintenanceResults6 { (rn 64 {} fcs[1]!) with caches := { (rn 64 {} fcs[1]!).caches with scrubSet := [(0, 1)] } } 0 = [0, 1] := by
  decide +kernel

end ForCacheMaintenanceResults

namespace ForLineFillAndDrainResults

def l0 : List Byte := (List.range 64).map fun i => BitVec.ofNat 8 (i * 5 + 130)
def me (num line : Nat) (c : Bool) (kind : MbKind := .normal) : MbEntry := { num := num, line := line, kind := kind, data := l0, mask := 0xF, closed := c, threads := [0] }
def tlbE (p base span : Nat) : TlbEntry := { tlbEntryOf p (base * 2 ^ span) (0x1000 + 0x71) span with plot := p }
def cs : List Core := [{}, { l1d := [(1, ⟨1, l0⟩), (2, ⟨2, l0⟩)], l1i := [(1, ⟨1, l0⟩)] , side := [(0, ⟨3, l0, 1⟩)], itlb := [tlbE 0 0 12, tlbE 1 0 12], dtlb := [tlbE 0 0 12], tlb := [tlbE 0 0 12, tlbE 0 5 21] },
  { mbuf := [me 1 1 true, me 2 2 false, me 3 0x200000000 true .local'], mbNext := 4 },
  { mbuf := [me 1 2 true, me 2 1 false], mbNext := 3 },
  { fill := some 1, denNext := some false, mbuf := [me 1 1 false], mbNext := 2 }, { fill := some 1, pfs := [(9, 0), (1, 0)] },
  { denAfter := true, dinv := true, l1d := [(1, ⟨1, l0⟩)], side := [(0, ⟨3, l0, 1⟩)] }, { ienAfter := true, iinv := true, l1i := [(1, ⟨1, l0⟩)] },
  { ifills := [(0, 1)] }, { ifills := [(0, 1), (3, 8)], mbuf := [me 1 1 true] }]
def th (a : Nat) : Thread := { pc := 64, g := [(1, BitVec.ofNat 64 a), (2, 0x8081828384858687)] , mode := .running }
def fcs : List (List (Nat × FcLine)) := [[], [(fcKey 0 1 2, { line := 1, st := .m, data := l0, poison := false, used := 3 })], [(fcKey 0 1 2, { line := 1, st := .e, data := l0, poison := true, used := 3 })], [(fcKey 0 0 5, { line := 4096, st := .m, data := l0, poison := false, used := 3 }), (fcKey 0 1 0, { line := 1, st := .s, data := l0, poison := false, used := 1 })]]
def rn (a : Nat) (c : Core) (fc : List (Nat × FcLine)) (t : Thread → Thread := id) : State :=
  let s := { up.setThread 0 (t (th a)) with cores := [(0, { c with lease := some 0 }), (1, {tlb := [tlbE 0 0 12], lease := some 0}), (2, {tlb := [tlbE 0 0 12], lease := some 3})] }
  ((s.setFc fc).setOn FUR_L1CTL.DEN 0 true).setOn FUR_L1CTL.IEN 0 true
def holds : List (Option Hold) := [some (.fence .rel 9), some (.fence .ifence 0), some (.fence .acq 0), some (.fence .host 9), some (.tlbi none), some (.tlbi (some 64)), some (.overlap { va := 64, parts := [⟨64, 8, false⟩], dest := .g 3, signed := false } [1]), some (.l1miss { va := 64, parts := [⟨64, 8, false⟩], dest := .g 3, signed := false }),
   some (.walk 64 64 .load 0 true 0 0), some (.walk 64 64 .store 8 true 0 0), some (.walk 64 64 .pf 0 true 0 0), some (.walk 64 64 .fetch 0 true 0 0)]
def tabled (e : Nat) (t : Thread → Thread) (c : Core := {}) : State :=
  let s := rn 64 c [] fun x => t { x with ptroot := 0x100001#64 }
  let put (s : State) (pa v : Nat) : State := (s.fcWrite 0 (pa / 64) (maskOf (pa % 64) 8) (List.replicate (pa % 64) 0 ++ leBytes 8 v) none .ok).2
  [(0x100000, 0x101000 + 1), (0x101000, 0x102000 + 1), (0x102000, 0x103000 + 1), (0x103000, 0x104000 + 1), (0x104000, e)].foldl (fun s x => put s x.1 x.2) s
def leafs : List Nat := [0x7, 0x107, 0x307, 0x3 + 0x1C, 0xFF, 0x1FF, 0x3FF, 0x67, 0x167, 0, 0x77, 0x177, 0x377]
def ups : List State := [State.reset, up]
def mainSts : List State := ups ++ cs.flatMap (fun c => fcs.map fun f => rn 64 c f) ++ [rn 0x4000000000 {} [], rn (2^56) {} [], rn 64 {} [] fun t => { t with ring := 2 }] ++ cs.flatMap fun c => holds.map fun h => rn 64 c fcs[1]! fun t => { t with hold := h }

/-- The clauses of LineFillAndDrainResults whose hypotheses hold. -/
def lineFillAndDrainResults1 (s : State) (n : Uid) : List Nat :=
  (let c := s.core n
   let still := ∀ k ∈ coreThreads n, (s.thread k).hold = none
   (match c.fill with
    | some l => (match s.fcServes n l with
        | some x => (if x.poison = false then
             clause 0 (still) ++
             (match s.fillWaiter n with
              | some (h, op) => [1]
              | none => [2])
            else [])
        | none => [3])
    | none => [4]) ++
   (match c.pfs.find? (fun p => (s.fcServes n p.1).isSome) with
    | some p => clause 5 (((∀ x, s.fcServes n p.1 = some x → x.poison = false)) ∧ s.den n = true)
    | none => [6]))

/-- The clauses of LineFillAndDrainResults whose hypotheses hold. -/
def lineFillAndDrainResults2 (s : State) (f : CacheId) (line : Nat) (res : MemRes) (wb : MemRes) : List Nat :=
  (match s.region (line * 64) with
   | .normal .. => clause 0 (s.fillWanted f line = true ∧ s.fcFind f line = none ∧ s.fetchHeld f line = false ∧ (State.fcFetch { s with res := wb } f line 0 res).1.2 = false)
   | _ => [1])

/-- The clauses of LineFillAndDrainResults whose hypotheses hold. -/
def lineFillAndDrainResults3 (s : State) (h : Tid) (res : MemRes) : List Nat :=
  (let n := coreOf h
   let t := s.thread h
   let c := s.core n
   let goes := t.mode = .running ∧ s.coreRuns n = true
   (if goes then
     (if (c.ifills.find? (fun x => x.1 = h.val) = none) ∧ c.ifills.length < 2 ∧ s.walkWaits h t.ring t.pc .fetch = false then
       (match s.fetchPa h t.pc res with
        | (some (pa, false), a) => (match a.region pa with
            | .normal .. => clause 0 (a.ien n = true ∧ (a.core n).l1iLine (pa / 64) = none)
            | _ => [1])
        | (_, a) => [2])
      else []) ++
     (match c.ifills.find? (fun x => x.1 = h.val) with
      | some (_, line) => clause 3 (s.fetchHeld (furrowOf n) line = false ∧ (c.mbuf.any (fun e => e.closed && e.line = line) = false) ∧ s.ien n = true)
      | none => [4])
    else []))

/-- The clauses of LineFillAndDrainResults whose hypotheses hold. -/
def lineFillAndDrainResults4 (s : State) (n : Uid) (res : MemRes) (wb : MemRes) : List Nat :=
  (if ((∀ k ∈ coreThreads n, (s.thread k).hold = none)) ∧ ((s.core n).mbuf.all (fun e => !s.directHeld (e.line * 64)) = true) then
    (match (s.core n).mbuf.find? fun e => e.closed && !s.writeHeld (furrowOf n) e.line e.mask (e.kind ≠ .normal) with
     | none => [0]
     | some e => (let m := State.setCore { s with res := wb } n { s.core n with mbuf := (s.core n).mbuf.filter fun x => x.num ≠ e.num }
         (match m.lineWrite (furrowOf n) e.line e.mask e.data (e.kind ≠ .normal) (some n) res with
          | (true, u) => [1]
          | (false, _) => [2])))
   else [])

/-- The clauses of LineFillAndDrainResults whose hypotheses hold. -/
def lineFillAndDrainResults5 (s : State) (h : Tid) (res : MemRes) : List Nat :=
  (match (s.thread h).hold with
   | some (.walk va ea a len txn at0 e0) => (if s.walkAsleep h va = false then
        (let t := s.thread h
         (match s.walk h va res with
          | (none, u) => clause 0 (a = .pf) ++
             clause 1 (a ≠ .pf)
          | (some (at', e, span), u) => (let used := entUsed e (a = .store)
              (if leafAllows e t.ring a = true then
                clause 2 (used = e) ++
                (if used ≠ e then
                  clause 3 (at' = at0 ∧ e = e0) ++
                  clause 4 (¬(at' = at0 ∧ e = e0))
                 else [])
               else []) ++
              clause 5 (leafAllows e t.ring a = false ∧ len = 0 ∧ a ≠ .pf) ++
              [6] ++
              clause 7 (a = .store))))
       else [])
   | _ => [8])

theorem test_hypotheses :
    lineFillAndDrainResults1 ((mainSts : List (State)).getD 19 .reset) 0 = [0, 2, 6] ∧
    lineFillAndDrainResults1 ((mainSts : List (State)).getD 112 .reset) 0 = [1, 5] ∧
    lineFillAndDrainResults1 ((mainSts : List (State)).getD 0 .reset) 0 = [4, 6] ∧
    lineFillAndDrainResults1 ((mainSts : List (State)).getD 18 .reset) 0 = [3, 6] ∧
    lineFillAndDrainResults2 ((mainSts : List (State)).getD 18 .reset) 0 1 .ok .ok = [0] ∧
    lineFillAndDrainResults3 ((mainSts : List (State)).getD 2 .reset) 0 .ok = [0, 4] ∧
    lineFillAndDrainResults3 ((mainSts : List (State)).getD 34 .reset) 0 .ok = [3] ∧
    lineFillAndDrainResults3 ((mainSts : List (State)).getD 44 .reset) 0 .ok = [2, 4] ∧
    lineFillAndDrainResults4 ((mainSts : List (State)).getD 0 .reset) 0 .ok .ok = [0] ∧
    lineFillAndDrainResults4 ((mainSts : List (State)).getD 10 .reset) 0 .ok .ok = [1] ∧
    lineFillAndDrainResults5 ((leafs.flatMap (fun l => ([some (.walk 64 64 .load 0 true 0x104000 l), some (.walk 64 64 .store 0 true 0x104000 l), some (.walk 64 64 .pf 0 true 0x104000 0), some (.walk 64 64 .fetch 0 true 0x104000 l), none] : List (Option Hold)).map fun h => tabled l fun t => { t with hold := h }) : List (State)).getD 1 .reset) 0 .ok = [3, 6, 7] ∧
    lineFillAndDrainResults5 ((mainSts : List (State)).getD 0 .reset) 0 .ok = [8] ∧
    lineFillAndDrainResults5 ((mainSts : List (State)).getD 53 .reset) 0 .ok = [1] ∧
    lineFillAndDrainResults5 ((mainSts : List (State)).getD 55 .reset) 0 .ok = [0] ∧
    lineFillAndDrainResults5 ((leafs.flatMap (fun l => ([some (.walk 64 64 .load 0 true 0x104000 l), some (.walk 64 64 .store 0 true 0x104000 l), some (.walk 64 64 .pf 0 true 0x104000 0), some (.walk 64 64 .fetch 0 true 0x104000 l), none] : List (Option Hold)).map fun h => tabled l fun t => { t with hold := h }) : List (State)).getD 2 .reset) 0 .ok = [4, 6] ∧
    lineFillAndDrainResults5 ((leafs.flatMap (fun l => ([some (.walk 64 64 .load 0 true 0x104000 l), some (.walk 64 64 .store 0 true 0x104000 l), some (.walk 64 64 .pf 0 true 0x104000 0), some (.walk 64 64 .fetch 0 true 0x104000 l), none] : List (Option Hold)).map fun h => tabled l fun t => { t with hold := h }) : List (State)).getD 5 .reset) 0 .ok = [2, 6] := by
  decide +kernel

end ForLineFillAndDrainResults

namespace ForTileInstructionsReachTheUnit

def mk (q : List TileEntry) (h : Option Hold) (gr : Bool := false) (t : Thread → Thread := id) (v1 : Nat := 0x40): State :=
  let s := up.setThread 0 (t { pc := 64, g := [(1, BitVec.ofNat 64 v1), (2, 64)], mode := .running, hold := h, tflags := 3 })
  let s := { s with cores := [(0, { lease := some 0 })] }
  let s := s.setTile 0 { s.tile 0 with queue := q, nextSeq := 9 }
  if gr then (((s.setOn FUR_GRP.OPEN 0 true).setF FUR_GRP.ROWS 0 1).setF FUR_GRP.COLS 0 2) else s

/-- The clauses of TileInstructionsReachTheUnit whose hypotheses hold. -/
def tileInstructionsReachTheUnit1 (s : State) (h : Tid) (g : Bool) (ro : BitVec 6) (co : BitVec 6) (kk : BitVec 6) (fa : BitVec 4) (fb : BitVec 4) (fd : BitVec 4) (x : BitVec 4) (rnd : BitVec 2) (td : Fin 8) (ta : Fin 8) (tb : Fin 8) (grp : Fin 16) (gd : Reg5) (gs1 : Reg5) (gs2 : Reg5) : List Nat :=
  (if s.ready h = true then
    (let t := s.thread h
     let rows := ro.toNat + 1
     let cols := co.toNat + 1
     let v1 := t.readG gs1
     let v2 := t.readG gs2
     let three := fun fn : TFn => ({ fn := fn, g := g, rows := rows, cols := cols, fa := fa.toNat, fb := fb.toNat, fd := fd.toNat,
                                     rnd := rnd.toNat, td := td, ta := ta, tb := tb } : TileIns)
     let two := fun fn : TFn => ({ fn := fn, g := g, rows := rows, cols := cols, fa := fa.toNat, fd := fd.toNat, td := td, ta := ta,
                                   v1 := t.readG 0 } : TileIns)
     let group := fun fn : TFn => ({ fn := fn, g := g, rows := rows, cols := cols, grp := grp, r1 := gs1, v1 := v1 } : TileIns)
     ([({ fn := .tld, g := g, rows := rows, cols := cols, fd := fd.toNat, td := td, r1 := gs1, r2 := gs2, v1 := v1, v2 := v2 } : TileIns), { fn := .tst, g := g, rows := rows, cols := cols, fa := fa.toNat, ta := ta, r1 := gs1, r2 := gs2, v1 := v1, v2 := v2 }, three .tadd, three .tsub, three .tmul, three .tmin, three .tmax, { three .tand with rnd := 0 }, { three .tor with rnd := 0 }, { three .txor with rnd := 0 }, two .tmov, { two .tcvt with rnd := rnd.toNat }, { two .tzero with fa := 0, ta := 0 }, { two .tfill with fa := 0, ta := 0, r1 := gs1, v1 := v1 }, two .tneg, two .tabs, { two .tmuls with rnd := rnd.toNat, r1 := gs1, v1 := v1 }, { two .tadds with rnd := rnd.toNat, r1 := gs1, v1 := v1 }, { fn := .tget, g := g, rows := 1, cols := 1, ta := ta, r1 := gs1, r2 := gd, v1 := v1 }, { fn := .tput, g := g, rows := 1, cols := 1, td := td, r1 := gs1, r2 := gs2, v1 := v1, v2 := v2 }, { three .tmmp with fd := 0, k := kk.toNat + 1, x := x.toNat }, { three .tmma with fd := 0, td := 0, k := kk.toNat + 1, grp := grp }, { three .texport with fd := 0, tb := 0, x := x.toNat, grp := grp, r1 := gs1, v1 := v1 }, { three .texportC with fd := 0, tb := 0, x := x.toNat, grp := grp, r1 := gs1, v1 := v1 }, { group .topen with fa := fa.toNat }, { fn := .tclose, g := g, rows := 1, cols := 1, grp := grp, v1 := t.readG 0 }, group .tsave, group .trestore, group .tbind].flatMap fun ins =>
       (let shaped := ins.shapeOk && !(ins.fn.isImage && (s.grpCheck h ins).isSome)
        let a := if ins.fn = .tld ∨ ins.fn = .trestore then Access.load else .store
        clause 0 (drillCore (coreOf h) = true ∨ ins.encOk = false) ++
        (if drillCore (coreOf h) = false ∧ ins.encOk = true then
          clause 1 (shaped = false) ++
          (if shaped = true then
            (match ins.misaligned with
             | some va => [2]
             | none => (match s.tResolve h a ins.fn.isImage ins.segs with
                 | .fault va => [3]
                 | .walk va => [4]
                 | .segs l => [5]))
           else [])
         else []))))
   else [])

theorem test_hypotheses :
    tileInstructionsReachTheUnit1 (mk [] none false id 0x41) 0 false 1 1 1 0 0 0 0 0 1 1 1 0 1 1 1 = [2, 2, 5, 5, 5, 5, 5, 0, 0, 0, 5, 5, 5, 5, 5, 5, 5, 5, 5, 5, 0, 5, 5, 5, 5, 5, 1, 1, 5] ∧
    tileInstructionsReachTheUnit1 (mk [] none false id 0xFFFFFFFFFFFFFF80) 0 false 1 1 1 0 0 0 0 0 1 1 1 0 1 1 1 = [3, 3, 5, 5, 5, 5, 5, 0, 0, 0, 5, 5, 5, 5, 5, 5, 5, 5, 5, 5, 0, 5, 5, 5, 5, 5, 1, 1, 5] ∧
    tileInstructionsReachTheUnit1 (mk [] none false (fun t => {t with ptroot := 0x100001#64})) 0 false 1 1 1 0 0 0 0 0 1 1 1 0 1 1 1 = [4, 4, 5, 5, 5, 5, 5, 0, 0, 0, 5, 5, 5, 5, 5, 5, 5, 5, 5, 5, 0, 5, 5, 5, 5, 5, 1, 1, 5] := by
  decide +kernel

end ForTileInstructionsReachTheUnit

namespace ForTileUnitResults

def tin (fn : TFn) (fa : Nat := 0) : TileIns := { fn := fn, g := false, rows := 2, cols := 3, fa := fa, fb := fa, fd := fa, td := 1, ta := 2, tb := 3, r1 := 1, r2 := 2, v1 := 0, v2 := 64, k := 2 }
def sg (pa : Nat) (row : Nat) (st ack : Bool) : TSeg := { va := BitVec.ofNat 64 pa, pa := pa, len := 12, row := row, off := 0, uc := false, staged := if st then some (List.replicate 12 7) else none, acked := ack }
def te (fn : TFn) (th seq : Nat) (d : Bool) (segs : List TSeg) (fa : Nat := 0) : TileEntry := { seq := seq, thread := th, pc := 64, ins := tin fn fa, segs := segs, upto := 0, seed := 1, spill := 0, base := 0, int := false, epoch := 0, dispatched := d }
def qs : List (List TileEntry) := [[], [te .tadd 0 3 true [], te .tld 0 4 false [sg 64 0 true false, sg 128 1 false false]], [te .tadd 0 3 false [], te .tmul 1 4 false []], [te .tst 0 4 true [sg 64 0 true true, sg 128 1 true false]], [te .tst 0 4 true [sg 64 0 true true, sg 128 1 true true]], [te .tget 0 4 true []], [te .tput 0 4 true []], [te .tld 0 4 false [sg 0x4100000000 0 false false]], [te .tmma 0 4 true []], [te .topen 0 4 true []], [te .tld 0 4 true [sg 64 0 true false]], [te .tsave 0 4 true [sg 0x4000000000 0 true false]], [te .tbind 0 4 false []], [te .texportC 0 4 true []], [te .tadd 1 5 true [] 5] ]
def hs : List (Option Hold) := [none, some (.tileRun 4), some (.tileRun 5), some (.tile (tin .tld) []), some (.tile (tin .tadd) []), some (.tile { tin .tadd with rnd := 1} []), some (.tile (tin .topen) []), some (.tile (tin .tmma) []), some (.tile (tin .texport) []), some (.tsync true 9)]
def mk (q : List TileEntry) (h : Option Hold) (gr : Bool := false) (t : Thread → Thread := id) (v1 : Nat := 0x40): State :=
  let s := up.setThread 0 (t { pc := 64, g := [(1, BitVec.ofNat 64 v1), (2, 64)], mode := .running, hold := h, tflags := 3 })
  let s := { s with cores := [(0, { lease := some 0 })] }
  let s := s.setTile 0 { s.tile 0 with queue := q, nextSeq := 9 }
  if gr then (((s.setOn FUR_GRP.OPEN 0 true).setF FUR_GRP.ROWS 0 1).setF FUR_GRP.COLS 0 2) else s

/-- The clauses of TileUnitResults whose hypotheses hold. -/
def tileUnitResults1 (s : State) (h : Tid) (g : Bool) : List Nat :=
  (let t := s.thread h
   let c := coreOf h
   (match t.hold with
    | some (.tile i l) => (if (s.tile c).room h i l = true then
         (match s.grpCheck h i with
          | some x => [0]
          | none => [1])
        else [])
    | _ => [2]) ++
   (if s.ready h = true then
     clause 3 (s.tsyncDone h g (s.tile c).nextSeq = true) ++
     clause 4 (s.tsyncDone h g (s.tile c).nextSeq = false)
    else []))

/-- The clauses of TileUnitResults whose hypotheses hold. -/
def tileUnitResults2 (s : State) (n : Cid) (ecc : SiloEcc) : List Nat :=
  (match (s.tile n).nextDispatch with
   | some j => (match (s.tile n).queue[j]? with
       | some e => [0]
       | none => [1])
   | none => [2])

/-- The clauses of TileUnitResults whose hypotheses hold. -/
def tileUnitResults3 (s : State) (n : Cid) (k : Fin 16) (res : MemRes) : List Nat :=
  (match (s.tile n).queue[k.val]? with
   | some e => (if s.tileMbWait n e.segs e.upto = false ∧ (e.segs.all (fun g => !s.directHeld g.pa) = true) then
        (if e.ins.fn = .tld ∨ (e.ins.fn = .trestore ∧ e.dispatched = true) then
          (match firstSeg (fun y => y.staged.isNone && !s.readHeld (furrowOf n) y.pa y.uc) e.segs with
           | some (j, x) => (match s.lineRead (furrowOf n) x.pa x.len x.uc 0 res with
               | (.data b, u) => [0]
               | (r, u) => clause 1 (e.ins.fn = .tld))
           | none => [2])
         else []) ++
        (if (e.ins.fn = .tst ∨ e.ins.fn = .tsave) ∧ e.dispatched = true then
          (match firstSeg (fun y => !y.acked) e.segs with
           | some (j, x) => (let mask := maskOf (x.pa % 64) x.len
               (if s.writeHeld (furrowOf n) (x.pa / 64) mask x.uc = false then
                 (match s.lineWrite (furrowOf n) (x.pa / 64) mask (lineImage (x.pa % 64) (x.staged.getD [])) x.uc none res with
                  | (ok, u) => [3])
                else []))
           | none => [4])
         else [])
       else [])
   | none => [5])

/-- The clauses of TileUnitResults whose hypotheses hold. -/
def tileUnitResults4 (s : State) (n : Cid) (k : Fin 16) : List Nat :=
  (match (s.tile n).queue[k.val]? with
   | some e => (if e.done ((s.tile n).queue.take k) = true ∧ ((coreThreads n).all (fun j => match (s.thread j).hold with
        | some (.tsync ..) => false
        | _ => true) = true) then
        [0]
       else [])
   | none => [1])

theorem test_hypotheses :
    tileUnitResults1 ((qs.flatMap (fun q => hs.flatMap fun h => [mk q h, mk q h true]) : List (State)).getD 0 .reset) 0 false = [2, 3] ∧
    tileUnitResults1 ((qs.flatMap (fun q => hs.flatMap fun h => [mk q h, mk q h true]) : List (State)).getD 6 .reset) 0 false = [1] ∧
    tileUnitResults1 ((qs.flatMap (fun q => hs.flatMap fun h => [mk q h, mk q h true]) : List (State)).getD 13 .reset) 0 false = [0] ∧
    tileUnitResults1 ((qs.flatMap (fun q => hs.flatMap fun h => [mk q h, mk q h true]) : List (State)).getD 20 .reset) 0 false = [2, 4] ∧
    tileUnitResults2 State.reset 0 .clean = [2] ∧
    tileUnitResults2 ((qs.flatMap (fun q => hs.flatMap fun h => [mk q h, mk q h true]) : List (State)).getD 40 .reset) 0 .clean = [0] ∧
    tileUnitResults3 State.reset 0 0 .ok = [5] ∧
    tileUnitResults3 ((qs.flatMap (fun q => hs.flatMap fun h => [mk q h, mk q h true]) : List (State)).getD 20 .reset) 0 1 .ok = [0] ∧
    tileUnitResults3 ((qs.flatMap (fun q => hs.flatMap fun h => [mk q h, mk q h true]) : List (State)).getD 20 .reset) 0 1 .linkFail = [1] ∧
    tileUnitResults3 ((qs.flatMap (fun q => hs.flatMap fun h => [mk q h, mk q h true]) : List (State)).getD 60 .reset) 0 0 .ok = [3] ∧
    tileUnitResults3 ((qs.flatMap (fun q => hs.flatMap fun h => [mk q h, mk q h true]) : List (State)).getD 80 .reset) 0 0 .ok = [4] ∧
    tileUnitResults3 ((qs.flatMap (fun q => hs.flatMap fun h => [mk q h, mk q h true]) : List (State)).getD 200 .reset) 0 0 .ok = [2] ∧
    tileUnitResults4 State.reset 0 0 = [1] ∧
    tileUnitResults4 ((qs.flatMap (fun q => hs.flatMap fun h => [mk q h, mk q h true]) : List (State)).getD 20 .reset) 0 0 = [0] := by
  decide +kernel

end ForTileUnitResults

namespace ForTileEffectsOnTilesAndGroups

def tin (fn : TFn) (fa : Nat := 0) : TileIns := { fn := fn, g := false, rows := 2, cols := 3, fa := fa, fb := fa, fd := fa, td := 1, ta := 2, tb := 3, r1 := 1, r2 := 2, v1 := 0, v2 := 64, k := 2 }
def te (fn : TFn) (th seq : Nat) (d : Bool) (segs : List TSeg) (fa : Nat := 0) : TileEntry := { seq := seq, thread := th, pc := 64, ins := tin fn fa, segs := segs, upto := 0, seed := 1, spill := 0, base := 0, int := false, epoch := 0, dispatched := d }
def fns : List TFn := [.tld,.tst,.tadd,.tsub,.tmul,.tmin,.tmax,.tand,.tor,.txor,.tmov,.tcvt,.tzero,.tfill,.tneg,.tabs,.tmuls,.tadds,.tget,.tput,.tmmp,.tmma,.texport,.texportC,.topen,.tclose,.tsave,.trestore,.tbind]

/-- The clauses of TileEffectsOnTilesAndGroups whose hypotheses hold. -/
def tileEffectsOnTilesAndGroups1 (s : State) (n : Nat) (e : TileEntry) : List Nat :=
  (let i := e.ins
   ([(TFn.tadd, TBin.add), (.tsub, .sub), (.tmul, .mul), (.tmin, .min), (.tmax, .max)].flatMap fun (fn, op) =>
     clause 0 (i.fn = fn)) ++
   clause 1 (i.fn = .tand) ++
   clause 2 (i.fn = .tor) ++
   clause 3 (i.fn = .txor) ++
   clause 4 (i.fn = .tmov) ++
   clause 5 (i.fn = .tzero) ++
   clause 6 (i.fn = .tfill) ++
   clause 7 (i.fn = .tcvt) ++
   clause 8 (i.fn = .tneg) ++
   clause 9 (i.fn = .tabs) ++
   clause 10 (i.fn = .tmuls) ++
   clause 11 (i.fn = .tadds) ++
   clause 12 (i.fn = .tget ∧ i.r2 < 32) ++
   clause 13 (i.fn = .tput) ++
   (if i.fn = .topen ∧ i.rows ≤ 64 ∧ i.cols ≤ 64 ∧ 1 ≤ i.rows ∧ 1 ≤ i.cols ∧ e.base < 1024 ∧ e.spill < 8 then
     [14]
    else []) ++
   clause 15 (i.fn = .tclose ∨ i.fn = .texportC))

theorem test_hypotheses :
    tileEffectsOnTilesAndGroups1 State.reset 0 (((fns.map fun f => { te f 0 4 true [] with srcA := [[5, 6, 7], [8, 9, 0x40000000]], srcB := [[5, 6, 7], [8, 9, 0x3f800000]] } : List (TileEntry))[2]?).get (by decide +kernel)) = [0] ∧
    tileEffectsOnTilesAndGroups1 State.reset 0 (((fns.map fun f => { te f 0 4 true [] with srcA := [[5, 6, 7], [8, 9, 0x40000000]], srcB := [[5, 6, 7], [8, 9, 0x3f800000]] } : List (TileEntry))[7]?).get (by decide +kernel)) = [1] ∧
    tileEffectsOnTilesAndGroups1 State.reset 0 (((fns.map fun f => { te f 0 4 true [] with srcA := [[5, 6, 7], [8, 9, 0x40000000]], srcB := [[5, 6, 7], [8, 9, 0x3f800000]] } : List (TileEntry))[8]?).get (by decide +kernel)) = [2] ∧
    tileEffectsOnTilesAndGroups1 State.reset 0 (((fns.map fun f => { te f 0 4 true [] with srcA := [[5, 6, 7], [8, 9, 0x40000000]], srcB := [[5, 6, 7], [8, 9, 0x3f800000]] } : List (TileEntry))[9]?).get (by decide +kernel)) = [3] ∧
    tileEffectsOnTilesAndGroups1 State.reset 0 (((fns.map fun f => { te f 0 4 true [] with srcA := [[5, 6, 7], [8, 9, 0x40000000]], srcB := [[5, 6, 7], [8, 9, 0x3f800000]] } : List (TileEntry))[10]?).get (by decide +kernel)) = [4] ∧
    tileEffectsOnTilesAndGroups1 State.reset 0 (((fns.map fun f => { te f 0 4 true [] with srcA := [[5, 6, 7], [8, 9, 0x40000000]], srcB := [[5, 6, 7], [8, 9, 0x3f800000]] } : List (TileEntry))[11]?).get (by decide +kernel)) = [7] ∧
    tileEffectsOnTilesAndGroups1 State.reset 0 (((fns.map fun f => { te f 0 4 true [] with srcA := [[5, 6, 7], [8, 9, 0x40000000]], srcB := [[5, 6, 7], [8, 9, 0x3f800000]] } : List (TileEntry))[12]?).get (by decide +kernel)) = [5] ∧
    tileEffectsOnTilesAndGroups1 State.reset 0 (((fns.map fun f => { te f 0 4 true [] with srcA := [[5, 6, 7], [8, 9, 0x40000000]], srcB := [[5, 6, 7], [8, 9, 0x3f800000]] } : List (TileEntry))[13]?).get (by decide +kernel)) = [6] ∧
    tileEffectsOnTilesAndGroups1 State.reset 0 (((fns.map fun f => { te f 0 4 true [] with srcA := [[5, 6, 7], [8, 9, 0x40000000]], srcB := [[5, 6, 7], [8, 9, 0x3f800000]] } : List (TileEntry))[14]?).get (by decide +kernel)) = [8] ∧
    tileEffectsOnTilesAndGroups1 State.reset 0 (((fns.map fun f => { te f 0 4 true [] with srcA := [[5, 6, 7], [8, 9, 0x40000000]], srcB := [[5, 6, 7], [8, 9, 0x3f800000]] } : List (TileEntry))[15]?).get (by decide +kernel)) = [9] ∧
    tileEffectsOnTilesAndGroups1 State.reset 0 (((fns.map fun f => { te f 0 4 true [] with srcA := [[5, 6, 7], [8, 9, 0x40000000]], srcB := [[5, 6, 7], [8, 9, 0x3f800000]] } : List (TileEntry))[16]?).get (by decide +kernel)) = [10] ∧
    tileEffectsOnTilesAndGroups1 State.reset 0 (((fns.map fun f => { te f 0 4 true [] with srcA := [[5, 6, 7], [8, 9, 0x40000000]], srcB := [[5, 6, 7], [8, 9, 0x3f800000]] } : List (TileEntry))[17]?).get (by decide +kernel)) = [11] ∧
    tileEffectsOnTilesAndGroups1 State.reset 0 (((fns.map fun f => { te f 0 4 true [] with srcA := [[5, 6, 7], [8, 9, 0x40000000]], srcB := [[5, 6, 7], [8, 9, 0x3f800000]] } : List (TileEntry))[18]?).get (by decide +kernel)) = [12] ∧
    tileEffectsOnTilesAndGroups1 State.reset 0 (((fns.map fun f => { te f 0 4 true [] with srcA := [[5, 6, 7], [8, 9, 0x40000000]], srcB := [[5, 6, 7], [8, 9, 0x3f800000]] } : List (TileEntry))[19]?).get (by decide +kernel)) = [13] ∧
    tileEffectsOnTilesAndGroups1 State.reset 0 (((fns.map fun f => { te f 0 4 true [] with srcA := [[5, 6, 7], [8, 9, 0x40000000]], srcB := [[5, 6, 7], [8, 9, 0x3f800000]] } : List (TileEntry))[23]?).get (by decide +kernel)) = [15] ∧
    tileEffectsOnTilesAndGroups1 State.reset 0 (((fns.map fun f => { te f 0 4 true [] with srcA := [[5, 6, 7], [8, 9, 0x40000000]], srcB := [[5, 6, 7], [8, 9, 0x3f800000]] } : List (TileEntry))[24]?).get (by decide +kernel)) = [14] := by
  decide +kernel

end ForTileEffectsOnTilesAndGroups

namespace ForBinderResults

def tin (fn : TFn) (slot op : Nat) : TileIns := { fn := fn, g := false, rows := 1, cols := 2, fa := 0, fb := 0, fd := 0, td := 1, ta := 2, tb := 3, r1 := 1, r2 := 2, v1 := BitVec.ofNat 64 (op * 4096 + slot), v2 := 64, k := 2 }
def te (fn : TFn) (slot op : Nat) (d arr : Bool): TileEntry := { seq := 4, thread := 3, pc := 64, ins := tin fn slot op, segs := [], upto := 0, seed := 1, spill := 0, base := 0, int := false, epoch := 0, dispatched := d, arrived := arr }
def base (q : List TileEntry) (b : BndOp) (f m i : Bool) (n : Nat) (res : Nat := 64) : State :=
  let s := up.setTile 0 { up.tile 0 with queue := q, nextSeq := 9 }
  let s := s.setBnd 1 b
  ((((((s.setOn BND_OP_STAT.FAILED 1 f).setOn BND_OP_CTL.MODE 1 m).setOn BND_OP_CTL.INT 1 i).setF BND_OP_CTL.N 1 n).setF BND_OP_CTL.E 1 1).setF BND_OP_RESULT.ADDR 1 res).setF BND_OP_SCRATCH.ADDR 1 res
def bs : List BndOp := [{}, { slots := [(0, [5, 6])] }, { slots := [(0, [5, 6]), (1, [7, 2^63])], threads := [3, 9] }, { slots := [(0, [2^63, 6]), (1, [2^63, 2^63])], nodes := [(0, [2^63, 6])] }, { slots := [(0, [5, 6]), (1, [7, 2^63])], threads := [3], nodes := [(0, [5, 6]), (1, [1,2])] }, { slots := [(0, [5, 6]), (1, [7, 2^63])], threads := [3], nodes := [(4096, [5, 6])] }, { slots := [(0, [5, 6]), (1, [7, 2^63]), (2, [1,2])], threads := [3], nodes := [(4096, [5, 6])] }]
def qs : List (List TileEntry) := [[], [te .tbind 0 1 true false], [te .tbind 1 1 true false], [te .tbind 1 1 false false], [te .tbind 1 1 true true]]

/-- The clauses of BinderResults whose hypotheses hold. -/
def binderResults1 (s : State) (op : Fin 64) (agent : Agent) (v : Bool) (mode : Bool) (int : Bool) (slots : BitVec 12) (elems : BitVec 12) : List Nat :=
  (if s.acts agent = true then
    clause 0 (agent ≠ .drill) ++
    clause 1 (agent = .drill)
   else [])

/-- The clauses of BinderResults whose hypotheses hold. -/
def binderResults2 (s : State) (n : Cid) (k : Fin 16) (res : MemRes) : List Nat :=
  (match (s.tile n).queue[k.val]? with
   | some e => (let op := e.ins.v1.toNat / 4096 % 64
       (if e.ins.fn = .tbind ∧ e.dispatched = true ∧ e.arrived = false ∧ e.bindSent = false ∧ s.bndHome op = true then
         [0]
        else []))
   | none => [1])

/-- The clauses of BinderResults whose hypotheses hold. -/
def binderResults3 (s : State) (op : Fin 64) : List Nat :=
  (let b := s.bndOp op
   let failed := s.on BND_OP_STAT.FAILED op
   clause 0 (failed = true) ++
   (if failed = false then
     (if s.on BND_OP_CTL.MODE op = false then
       (let p := b.nodes.length
        (match find p b.slots with
         | none => [1]
         | some x => [2]))
      else []) ++
     (if s.on BND_OP_CTL.MODE op = true then
       (match b.nextTree (s.bndSlots op) with
        | none => [3]
        | some (key, x, y) => [4])
      else [])
    else []))

/-- The clauses of BinderResults whose hypotheses hold. -/
def binderResults4 (s : State) (op : Fin 64) (res : MemRes) : List Nat :=
  (let failed := s.on BND_OP_STAT.FAILED op
   clause 0 (failed = true ∨ s.bndHome op = false ∨ s.bndValue op = none) ++
   (match s.bndValue op with
    | some vals => (if failed = false ∧ s.bndHome op = true ∧ s.on BND_OP_ACRE.GLOBAL op = false then
         [1]
        else [])
    | none => [2]))

theorem test_hypotheses :
    binderResults1 up 1 .drill false false false 0 0 = [1] ∧
    binderResults1 up 1 (.plot 3) false false false 0 0 = [0] ∧
    binderResults2 State.reset 0 0 .ok = [1] ∧
    binderResults2 (((bs.flatMap fun b => qs.flatMap fun q => [base q b false false false 1, base q b true false false 1, base q b false true false 1, base q b false true true 2, base q b false false true 1]) : List (State)).getD 5 .reset) 0 0 .ok = [0] ∧
    binderResults3 State.reset 1 = [1] ∧
    binderResults3 { base [] (bs.getD 2 {}) false true false 1 with res := .linkFail } 1 = [4] ∧
    binderResults3 (((bs.flatMap fun b => qs.flatMap fun q => [base q b false false false 1, base q b true false false 1, base q b false true false 1, base q b false true true 2, base q b false false true 1]) : List (State)).getD 1 .reset) 1 = [0] ∧
    binderResults3 (((bs.flatMap fun b => qs.flatMap fun q => [base q b false false false 1, base q b true false false 1, base q b false true false 1, base q b false true true 2, base q b false false true 1]) : List (State)).getD 2 .reset) 1 = [3] ∧
    binderResults3 (((bs.flatMap fun b => qs.flatMap fun q => [base q b false false false 1, base q b true false false 1, base q b false true false 1, base q b false true true 2, base q b false false true 1]) : List (State)).getD 25 .reset) 1 = [2] ∧
    binderResults4 State.reset 1 .ok = [0, 2] ∧
    binderResults4 (((bs.flatMap fun b => qs.flatMap fun q => [base q b false false false 1, base q b true false false 1, base q b false true false 1, base q b false true true 2, base q b false false true 1]) : List (State)).getD 100 .reset) 1 .ok = [1] := by
  decide +kernel

end ForBinderResults

namespace ForGranaryChannelResults

def gs : List State := Id.run do
  let s := up.setOn GRN_SCRUB.EN 0 true
  let mut r := [s, s.setF GRN_SCRUB_POS.LINE 0 25165823]
  for m in [0,1,2] do
    r := r ++ [s.setF GRN_STATE.MODE 0 m, (s.setF GRN_STATE.MODE 0 m).setOn GRN_STATE.BUSY 0 true, (s.setF GRN_STATE.MODE 0 m).setOn GRN_TILL_STAT.LOADED 0 true, (s.setF GRN_STATE.MODE 0 m).setOn GRN_STATE.SELFREF 0 true]
  for mv in [ChanMove.withdrawing, .rejoining, .toTill, .toWithdrawn] do
    let t := s.startMove 0 mv
    r := r ++ [t, { t with granary := { t.granary with mem := [(3, 7), (chanSpan + 2, 9)], poison := [(0, true)] } }]
  return r

/-- The clauses of GranaryChannelResults whose hypotheses hold. -/
def granaryChannelResults1 (s : State) (c : Chan) : List Nat :=
  (if s.acts .drill = true then
    [0] ++
    [1] ++
    [2] ++
    [3]
   else [])

/-- The clauses of GranaryChannelResults whose hypotheses hold. -/
def granaryChannelResults2 (s : State) (c : Chan) (res : MemRes) : List Nat :=
  (let move := s.chanMove c
   [0] ++
   clause 1 (move ≠ .withdrawing ∧ move ≠ .rejoining) ++
   clause 2 (move ≠ .toTill ∧ move ≠ .toWithdrawn) ++
   (if s.granary.returning.contains c.val = false ∧ (s.seq c).held = [] then
     clause 3 (move = .withdrawing) ++
     clause 4 (move = .rejoining) ++
     clause 5 (move = .toTill) ++
     clause 6 (move = .toWithdrawn)
    else []))

/-- The clauses of GranaryChannelResults whose hypotheses hold. -/
def granaryChannelResults3 (s : State) (c : Chan) (res : MemRes) : List Nat :=
  (let idle := s.on GRN_SCRUB.EN c = false ∨ s.f GRN_STATE.MODE c = 2 ∨ s.on GRN_STATE.SELFREF c = true
   clause 0 (idle) ++
   (if ¬idle then
     [1]
    else []))

theorem test_hypotheses :
    granaryChannelResults1 up 0 = [0, 1, 2, 3] ∧
    granaryChannelResults2 State.reset 0 .ok = [0, 1, 2] ∧
    granaryChannelResults2 ((gs : List (State)).getD 14 .reset) 0 .ok = [0, 2, 3] ∧
    granaryChannelResults2 ((gs : List (State)).getD 16 .reset) 0 .ok = [0, 2, 4] ∧
    granaryChannelResults2 ((gs : List (State)).getD 18 .reset) 0 .ok = [0, 1, 5] ∧
    granaryChannelResults2 ((gs : List (State)).getD 20 .reset) 0 .ok = [0, 1, 6] ∧
    granaryChannelResults3 State.reset 0 .ok = [1] ∧
    granaryChannelResults3 ((gs : List (State)).getD 5 .reset) 0 .ok = [0] := by
  decide +kernel

end ForGranaryChannelResults

namespace ForModeRequestsAreDrills



/-- The clauses of ModeRequestsAreDrills whose hypotheses hold. -/
def modeRequestsAreDrills1 (s : State) (agent : Agent) (c : Chan) : List Nat :=
  (if s.acts agent = true ∧ agent ≠ .drill then
    (([Instr.withdrawal agent c, .rejoining agent c, .switchToTill agent c, .switchToWithdrawn agent c]).flatMap fun (i : _) => [0])
   else [])

theorem test_hypotheses :
    modeRequestsAreDrills1 up (.plot 3) 0 = [0, 0, 0, 0] := by
  decide +kernel

end ForModeRequestsAreDrills

namespace ForFloatMovesConversionsCompares

def fr (a b c : Nat) (t : Thread → Thread := id) (h : Nat := 0) : State := { up.setThread h (t { pc := 64, f := [(1, BitVec.ofNat 64 a), (2, BitVec.ofNat 64 b), (3, BitVec.ofNat 64 c)], g := [(1, BitVec.ofNat 64 a)], mode := .running, tctl := 5 }) with cores := [(0, { lease := some 0 })] }
def vs : List Nat := [0, 0x3FF0000000000000, 0x8000000000000000, 0x7FF0000000000001, 0x7FF8000000000000, 0x7FF0000000000000, 0x3F800000, 0x7F800001, 0x7C01, 0x3C00C5A3, 0xFFF0000000000000, 0xC0490FDB, 0x40490FDB40490FDB, 1, 0x80000001]

/-- The clauses of FloatMovesConversionsCompares whose hypotheses hold. -/
def floatMovesConversionsCompares1 (h : Tid) (fmt : FFmt) (src : FFmt) (rm : RMode) (d : Reg5) (a : Reg5) (b : Reg5) (w : IWidth) (uns : Bool) (pd : Pred) (cond : FCond) : List Nat :=
  (let F := fmt.fmt
   clause 0 (rm ≠ .stoch) ++
   clause 1 (F.width < src.fmt.width ∧ drillCore (coreOf h) = false) ++
   (if src.fmt.width ≤ F.width ∨ drillCore (coreOf h) = true then
     (([State.reset, up] ++ vs.flatMap (fun a => vs.map fun b => fr a b 0x3FF0000000000001) ++ [fr 5 6 7 id 1024, fr 5 6 7 (fun t => {t with frm := 3}), fr 5 6 7 (fun t => {t with frm := 7}) ] : List (State)).flatMap fun (s : State) => clause 2 (s.ready h = true))
    else []) ++
   clause 3 (rm ≠ .stoch) ++
   (if rm = .stoch then
     (([State.reset, up] ++ vs.flatMap (fun a => vs.map fun b => fr a b 0x3FF0000000000001) ++ [fr 5 6 7 id 1024, fr 5 6 7 (fun t => {t with frm := 3}), fr 5 6 7 (fun t => {t with frm := 7}) ] : List (State)).flatMap fun (s : State) => (if s.ready h = true then
         [4] ++
         [5]
        else []))
    else []) ++
   clause 6 (rm ≠ .stoch) ++
   [7])

theorem test_hypotheses :
    floatMovesConversionsCompares1 0 .b16 .b16 .dyn 1 1 1 .i64 false 1 .eq = [0, 2, 2, 2, 2, 2, 2, 2, 2, 2, 2, 2, 2, 2, 2, 2, 2, 2, 2, 2, 2, 2, 2, 2, 2, 2, 2, 2, 2, 2, 2, 2, 2, 2, 2, 2, 2, 2, 2, 2, 2, 2, 2, 2, 2, 2, 2, 2, 2, 2, 2, 2, 2, 2, 2, 2, 2, 2, 2, 2, 2, 2, 2, 2, 2, 2, 2, 2, 2, 2, 2, 2, 2, 2, 2, 2, 2, 2, 2, 2, 2, 2, 2, 2, 2, 2, 2, 2, 2, 2, 2, 2, 2, 2, 2, 2, 2, 2, 2, 2, 2, 2, 2, 2, 2, 2, 2, 2, 2, 2, 2, 2, 2, 2, 2, 2, 2, 2, 2, 2, 2, 2, 2, 2, 2, 2, 2, 2, 2, 2, 2, 2, 2, 2, 2, 2, 2, 2, 2, 2, 2, 2, 2, 2, 2, 2, 2, 2, 2, 2, 2, 2, 2, 2, 2, 2, 2, 2, 2, 2, 2, 2, 2, 2, 2, 2, 2, 2, 2, 2, 2, 2, 2, 2, 2, 2, 2, 2, 2, 2, 2, 2, 2, 2, 2, 2, 2, 2, 2, 2, 2, 2, 2, 2, 2, 2, 2, 2, 2, 2, 2, 2, 2, 2, 2, 2, 2, 2, 2, 2, 2, 2, 2, 2, 2, 2, 2, 2, 2, 2, 2, 2, 2, 2, 2, 2, 2, 2, 3, 6, 7] ∧
    floatMovesConversionsCompares1 0 .b16 .b32 .stoch 1 1 1 .i64 false 1 .eq = [1, 4, 5, 4, 5, 4, 5, 4, 5, 4, 5, 4, 5, 4, 5, 4, 5, 4, 5, 4, 5, 4, 5, 4, 5, 4, 5, 4, 5, 4, 5, 4, 5, 4, 5, 4, 5, 4, 5, 4, 5, 4, 5, 4, 5, 4, 5, 4, 5, 4, 5, 4, 5, 4, 5, 4, 5, 4, 5, 4, 5, 4, 5, 4, 5, 4, 5, 4, 5, 4, 5, 4, 5, 4, 5, 4, 5, 4, 5, 4, 5, 4, 5, 4, 5, 4, 5, 4, 5, 4, 5, 4, 5, 4, 5, 4, 5, 4, 5, 4, 5, 4, 5, 4, 5, 4, 5, 4, 5, 4, 5, 4, 5, 4, 5, 4, 5, 4, 5, 4, 5, 4, 5, 4, 5, 4, 5, 4, 5, 4, 5, 4, 5, 4, 5, 4, 5, 4, 5, 4, 5, 4, 5, 4, 5, 4, 5, 4, 5, 4, 5, 4, 5, 4, 5, 4, 5, 4, 5, 4, 5, 4, 5, 4, 5, 4, 5, 4, 5, 4, 5, 4, 5, 4, 5, 4, 5, 4, 5, 4, 5, 4, 5, 4, 5, 4, 5, 4, 5, 4, 5, 4, 5, 4, 5, 4, 5, 4, 5, 4, 5, 4, 5, 4, 5, 4, 5, 4, 5, 4, 5, 4, 5, 4, 5, 4, 5, 4, 5, 4, 5, 4, 5, 4, 5, 4, 5, 4, 5, 4, 5, 4, 5, 4, 5, 4, 5, 4, 5, 4, 5, 4, 5, 4, 5, 4, 5, 4, 5, 4, 5, 4, 5, 4, 5, 4, 5, 4, 5, 4, 5, 4, 5, 4, 5, 4, 5, 4, 5, 4, 5, 4, 5, 4, 5, 4, 5, 4, 5, 4, 5, 4, 5, 4, 5, 4, 5, 4, 5, 4, 5, 4, 5, 4, 5, 4, 5, 4, 5, 4, 5, 4, 5, 4, 5, 4, 5, 4, 5, 4, 5, 4, 5, 4, 5, 4, 5, 4, 5, 4, 5, 4, 5, 4, 5, 4, 5, 4, 5, 4, 5, 4, 5, 4, 5, 4, 5, 4, 5, 4, 5, 4, 5, 4, 5, 4, 5, 4, 5, 4, 5, 4, 5, 4, 5, 4, 5, 4, 5, 4, 5, 4, 5, 4, 5, 4, 5, 4, 5, 4, 5, 4, 5, 4, 5, 4, 5, 4, 5, 4, 5, 4, 5, 4, 5, 4, 5, 4, 5, 4, 5, 4, 5, 4, 5, 4, 5, 4, 5, 4, 5, 4, 5, 4, 5, 4, 5, 4, 5, 4, 5, 4, 5, 4, 5, 4, 5, 4, 5, 4, 5, 4, 5, 4, 5, 4, 5, 4, 5, 4, 5, 4, 5, 4, 5, 4, 5, 4, 5, 4, 5, 4, 5, 4, 5, 4, 5, 4, 5, 4, 5, 4, 5, 4, 5, 7] := by
  decide +kernel

end ForFloatMovesConversionsCompares

namespace ForTillControlAndAddressResults

def iw (op : Nat) (vd va vb fmt imm : Nat) (xs : Nat := 0) (xu : Nat := 0) : Nat := op * 2^58 + vd * 2^55 + va * 2^52 + vb * 2^49 + fmt * 2^47 + xs * 2^45 + xu * 2^44 + imm
def imgs : List (List Nat) := (List.range 18).flatMap fun op => [0, 1, 2].map fun f => [0, iw op 2 4 5 f (if op = 7 then 3 else if op = 14 then 1 else 5) 0 0, 0]
def tin : List (Nat × Nat) := (List.range 256).map fun k => (k, (k * 7919 + 13) * 0x1000200030004000500060007 % 2^256)
def st (img : List Nat) (pc : Nat) (row : Option Nat) (x : List Nat := [0, 3, 70000, 5]) (m : Nat := 0x80000005) (f : State → State := id) : State :=
  f ((((up.setSeq 0 { image := img, x := x, mask := m, row := row, tines := tin, entry := some 3 }).setOn GRN_TILL_STAT.LOADED 0 true).setF GRN_TILL_PC.PC 0 pc).setF GRN_STATE.MODE 0 2)

/-- The clauses of TillControlAndAddressResults whose hypotheses hold. -/
def tillControlAndAddressResults1 (s : State) (c : Chan) (bank : Fin 32) (res : MemRes) : List Nat :=
  (let q := s.seq c
   let pc := s.f GRN_TILL_PC.PC c
   let w := (q.image[pc]?).getD 0
   let live := s.on GRN_TILL_STAT.LOADED c = true ∧ q.ended = none
   let runs := fun op : Nat => live ∧ pc < q.image.length ∧ tlOp w = op
   ([1, 2, 3, 4, 5, 6, 7, 8, 9, 0xA, 0xB, 0xC, 0xD, 0xE, 0xF, 0x10, 0x11, 0].flatMap fun op =>
     clause 0 (¬runs op)) ++
   clause 1 (runs 1) ++
   clause 2 (runs 2) ++
   clause 3 (runs 3) ++
   clause 4 (runs 4) ++
   clause 5 (runs 0xB) ++
   clause 6 (runs 0xC) ++
   clause 7 (runs 0xD) ++
   clause 8 (runs 0xE) ++
   clause 9 (runs 0xF) ++
   clause 10 (runs 0) ++
   (if runs 0x10 then
     [11]
    else []) ++
   clause 12 (runs 0x11) ++
   clause 13 (live) ++
   clause 14 (¬live))

theorem test_hypotheses :
    tillControlAndAddressResults1 ((imgs.flatMap (fun i => [st i 1 none, st i 1 (some 2), st (i.take 2) 1 (some 2)]) : List (State)).getD 0 .reset) 0 0 .ok = [0, 0, 0, 0, 0, 0, 0, 0, 0, 0, 0, 0, 0, 0, 0, 0, 0, 10, 13] ∧
    tillControlAndAddressResults1 State.reset 0 0 .ok = [0, 0, 0, 0, 0, 0, 0, 0, 0, 0, 0, 0, 0, 0, 0, 0, 0, 0, 14] ∧
    tillControlAndAddressResults1 ((imgs.flatMap (fun i => [st i 1 none, st i 1 (some 2), st (i.take 2) 1 (some 2)]) : List (State)).getD 9 .reset) 0 0 .ok = [0, 0, 0, 0, 0, 0, 0, 0, 0, 0, 0, 0, 0, 0, 0, 0, 0, 1, 13] ∧
    tillControlAndAddressResults1 ((imgs.flatMap (fun i => [st i 1 none, st i 1 (some 2), st (i.take 2) 1 (some 2)]) : List (State)).getD 18 .reset) 0 0 .ok = [0, 0, 0, 0, 0, 0, 0, 0, 0, 0, 0, 0, 0, 0, 0, 0, 0, 2, 13] ∧
    tillControlAndAddressResults1 ((imgs.flatMap (fun i => [st i 1 none, st i 1 (some 2), st (i.take 2) 1 (some 2)]) : List (State)).getD 27 .reset) 0 0 .ok = [0, 0, 0, 0, 0, 0, 0, 0, 0, 0, 0, 0, 0, 0, 0, 0, 0, 3, 13] ∧
    tillControlAndAddressResults1 ((imgs.flatMap (fun i => [st i 1 none, st i 1 (some 2), st (i.take 2) 1 (some 2)]) : List (State)).getD 36 .reset) 0 0 .ok = [0, 0, 0, 0, 0, 0, 0, 0, 0, 0, 0, 0, 0, 0, 0, 0, 0, 4, 13] ∧
    tillControlAndAddressResults1 ((imgs.flatMap (fun i => [st i 1 none, st i 1 (some 2), st (i.take 2) 1 (some 2)]) : List (State)).getD 99 .reset) 0 0 .ok = [0, 0, 0, 0, 0, 0, 0, 0, 0, 0, 0, 0, 0, 0, 0, 0, 0, 5, 13] ∧
    tillControlAndAddressResults1 ((imgs.flatMap (fun i => [st i 1 none, st i 1 (some 2), st (i.take 2) 1 (some 2)]) : List (State)).getD 108 .reset) 0 0 .ok = [0, 0, 0, 0, 0, 0, 0, 0, 0, 0, 0, 0, 0, 0, 0, 0, 0, 6, 13] ∧
    tillControlAndAddressResults1 ((imgs.flatMap (fun i => [st i 1 none, st i 1 (some 2), st (i.take 2) 1 (some 2)]) : List (State)).getD 117 .reset) 0 0 .ok = [0, 0, 0, 0, 0, 0, 0, 0, 0, 0, 0, 0, 0, 0, 0, 0, 0, 7, 13] ∧
    tillControlAndAddressResults1 ((imgs.flatMap (fun i => [st i 1 none, st i 1 (some 2), st (i.take 2) 1 (some 2)]) : List (State)).getD 126 .reset) 0 0 .ok = [0, 0, 0, 0, 0, 0, 0, 0, 0, 0, 0, 0, 0, 0, 0, 0, 0, 8, 13] ∧
    tillControlAndAddressResults1 ((imgs.flatMap (fun i => [st i 1 none, st i 1 (some 2), st (i.take 2) 1 (some 2)]) : List (State)).getD 135 .reset) 0 0 .ok = [0, 0, 0, 0, 0, 0, 0, 0, 0, 0, 0, 0, 0, 0, 0, 0, 0, 9, 13] ∧
    tillControlAndAddressResults1 ((imgs.flatMap (fun i => [st i 1 none, st i 1 (some 2), st (i.take 2) 1 (some 2)]) : List (State)).getD 144 .reset) 0 0 .ok = [0, 0, 0, 0, 0, 0, 0, 0, 0, 0, 0, 0, 0, 0, 0, 0, 0, 11, 13] ∧
    tillControlAndAddressResults1 ((imgs.flatMap (fun i => [st i 1 none, st i 1 (some 2), st (i.take 2) 1 (some 2)]) : List (State)).getD 153 .reset) 0 0 .ok = [0, 0, 0, 0, 0, 0, 0, 0, 0, 0, 0, 0, 0, 0, 0, 0, 0, 12, 13] := by
  decide +kernel

end ForTillControlAndAddressResults

namespace ForTillArithmeticResults

def iw (op : Nat) (vd va vb fmt imm : Nat) (xs : Nat := 0) (xu : Nat := 0) : Nat := op * 2^58 + vd * 2^55 + va * 2^52 + vb * 2^49 + fmt * 2^47 + xs * 2^45 + xu * 2^44 + imm
def tin : List (Nat × Nat) := (List.range 256).map fun k => (k, (k * 7919 + 13) * 0x1000200030004000500060007 % 2^256)
def st (img : List Nat) (pc : Nat) (row : Option Nat) (x : List Nat := [0, 3, 70000, 5]) (m : Nat := 0x80000005) (f : State → State := id) : State :=
  f ((((up.setSeq 0 { image := img, x := x, mask := m, row := row, tines := tin, entry := some 3 }).setOn GRN_TILL_STAT.LOADED 0 true).setF GRN_TILL_PC.PC 0 pc).setF GRN_STATE.MODE 0 2)
def ari : List (List Nat) := [[iw 7 2 4 0 0 3, 0], [iw 7 2 4 0 0 31, 0], [iw 5 2 4 5 0 0, 0], [iw 5 2 4 5 1 0, 0], [iw 5 2 4 5 2 0, 0],[iw 5 2 4 5 3 0, 0], [iw 6 2 4 0 0 0, 0], [iw 6 2 4 0 2 0, 0], [iw 7 2 4 0 0 3, 0], [iw 8 2 4 0 0 0, 0],  [iw 8 2 4 0 2 0, 0], [iw 9 2 4 0 0 0, 0], [iw 9 2 4 0 2 0, 0], [iw 10 2 0 0 0 0, 0]]

/-- The clauses of TillArithmeticResults whose hypotheses hold. -/
def tillArithmeticResults1 (s : State) (c : Chan) : List Nat :=
  (let q := s.seq c
   let pc := s.f GRN_TILL_PC.PC c
   let w := (q.image[pc]?).getD 0
   let runs := fun op : Nat => s.on GRN_TILL_STAT.LOADED c = true ∧ q.ended = none ∧ pc < q.image.length ∧ tlOp w = op ∧
     tlGood q.image.length w = true
   let f := tlFmt w
   clause 0 (runs 5) ++
   clause 1 (runs 6) ++
   clause 2 (runs 7) ++
   clause 3 (runs 8) ++
   clause 4 (runs 9) ++
   clause 5 (runs 0xA) ++
   (([0, 1, 2, 5, 31, 0xe3] : List (Nat)).flatMap fun (acc : Nat) => (([0, 1, 2, 5, 31, 0xe3] : List (Nat)).flatMap fun (a : Nat) => (([0, 1, 2, 5, 31, 0xe3] : List (Nat)).flatMap fun (b : Nat) => [6]))) ++
   (([0, 1, 2, 5, 31, 0xe3] : List (Nat)).flatMap fun (x : Nat) => (([0, 1, 2, 5, 31, 0xe3] : List (Nat)).flatMap fun (y : Nat) => clause 7 (f < 2))))

theorem test_hypotheses :
    tillArithmeticResults1 ((ari.map (fun i => st i 0 none) : List (State)).getD 0 .reset) 0 = [2, 6, 6, 6, 6, 6, 6, 6, 6, 6, 6, 6, 6, 6, 6, 6, 6, 6, 6, 6, 6, 6, 6, 6, 6, 6, 6, 6, 6, 6, 6, 6, 6, 6, 6, 6, 6, 6, 6, 6, 6, 6, 6, 6, 6, 6, 6, 6, 6, 6, 6, 6, 6, 6, 6, 6, 6, 6, 6, 6, 6, 6, 6, 6, 6, 6, 6, 6, 6, 6, 6, 6, 6, 6, 6, 6, 6, 6, 6, 6, 6, 6, 6, 6, 6, 6, 6, 6, 6, 6, 6, 6, 6, 6, 6, 6, 6, 6, 6, 6, 6, 6, 6, 6, 6, 6, 6, 6, 6, 6, 6, 6, 6, 6, 6, 6, 6, 6, 6, 6, 6, 6, 6, 6, 6, 6, 6, 6, 6, 6, 6, 6, 6, 6, 6, 6, 6, 6, 6, 6, 6, 6, 6, 6, 6, 6, 6, 6, 6, 6, 6, 6, 6, 6, 6, 6, 6, 6, 6, 6, 6, 6, 6, 6, 6, 6, 6, 6, 6, 6, 6, 6, 6, 6, 6, 6, 6, 6, 6, 6, 6, 6, 6, 6, 6, 6, 6, 6, 6, 6, 6, 6, 6, 6, 6, 6, 6, 6, 6, 6, 6, 6, 6, 6, 6, 6, 6, 6, 6, 6, 6, 6, 6, 6, 6, 6, 6, 7, 7, 7, 7, 7, 7, 7, 7, 7, 7, 7, 7, 7, 7, 7, 7, 7, 7, 7, 7, 7, 7, 7, 7, 7, 7, 7, 7, 7, 7, 7, 7, 7, 7, 7, 7] ∧
    tillArithmeticResults1 ((ari.map (fun i => st i 0 none) : List (State)).getD 2 .reset) 0 = [0, 6, 6, 6, 6, 6, 6, 6, 6, 6, 6, 6, 6, 6, 6, 6, 6, 6, 6, 6, 6, 6, 6, 6, 6, 6, 6, 6, 6, 6, 6, 6, 6, 6, 6, 6, 6, 6, 6, 6, 6, 6, 6, 6, 6, 6, 6, 6, 6, 6, 6, 6, 6, 6, 6, 6, 6, 6, 6, 6, 6, 6, 6, 6, 6, 6, 6, 6, 6, 6, 6, 6, 6, 6, 6, 6, 6, 6, 6, 6, 6, 6, 6, 6, 6, 6, 6, 6, 6, 6, 6, 6, 6, 6, 6, 6, 6, 6, 6, 6, 6, 6, 6, 6, 6, 6, 6, 6, 6, 6, 6, 6, 6, 6, 6, 6, 6, 6, 6, 6, 6, 6, 6, 6, 6, 6, 6, 6, 6, 6, 6, 6, 6, 6, 6, 6, 6, 6, 6, 6, 6, 6, 6, 6, 6, 6, 6, 6, 6, 6, 6, 6, 6, 6, 6, 6, 6, 6, 6, 6, 6, 6, 6, 6, 6, 6, 6, 6, 6, 6, 6, 6, 6, 6, 6, 6, 6, 6, 6, 6, 6, 6, 6, 6, 6, 6, 6, 6, 6, 6, 6, 6, 6, 6, 6, 6, 6, 6, 6, 6, 6, 6, 6, 6, 6, 6, 6, 6, 6, 6, 6, 6, 6, 6, 6, 6, 6, 7, 7, 7, 7, 7, 7, 7, 7, 7, 7, 7, 7, 7, 7, 7, 7, 7, 7, 7, 7, 7, 7, 7, 7, 7, 7, 7, 7, 7, 7, 7, 7, 7, 7, 7, 7] ∧
    tillArithmeticResults1 ((ari.map (fun i => st i 0 none) : List (State)).getD 7 .reset) 0 = [1, 6, 6, 6, 6, 6, 6, 6, 6, 6, 6, 6, 6, 6, 6, 6, 6, 6, 6, 6, 6, 6, 6, 6, 6, 6, 6, 6, 6, 6, 6, 6, 6, 6, 6, 6, 6, 6, 6, 6, 6, 6, 6, 6, 6, 6, 6, 6, 6, 6, 6, 6, 6, 6, 6, 6, 6, 6, 6, 6, 6, 6, 6, 6, 6, 6, 6, 6, 6, 6, 6, 6, 6, 6, 6, 6, 6, 6, 6, 6, 6, 6, 6, 6, 6, 6, 6, 6, 6, 6, 6, 6, 6, 6, 6, 6, 6, 6, 6, 6, 6, 6, 6, 6, 6, 6, 6, 6, 6, 6, 6, 6, 6, 6, 6, 6, 6, 6, 6, 6, 6, 6, 6, 6, 6, 6, 6, 6, 6, 6, 6, 6, 6, 6, 6, 6, 6, 6, 6, 6, 6, 6, 6, 6, 6, 6, 6, 6, 6, 6, 6, 6, 6, 6, 6, 6, 6, 6, 6, 6, 6, 6, 6, 6, 6, 6, 6, 6, 6, 6, 6, 6, 6, 6, 6, 6, 6, 6, 6, 6, 6, 6, 6, 6, 6, 6, 6, 6, 6, 6, 6, 6, 6, 6, 6, 6, 6, 6, 6, 6, 6, 6, 6, 6, 6, 6, 6, 6, 6, 6, 6, 6, 6, 6, 6, 6, 6] ∧
    tillArithmeticResults1 ((ari.map (fun i => st i 0 none) : List (State)).getD 9 .reset) 0 = [3, 6, 6, 6, 6, 6, 6, 6, 6, 6, 6, 6, 6, 6, 6, 6, 6, 6, 6, 6, 6, 6, 6, 6, 6, 6, 6, 6, 6, 6, 6, 6, 6, 6, 6, 6, 6, 6, 6, 6, 6, 6, 6, 6, 6, 6, 6, 6, 6, 6, 6, 6, 6, 6, 6, 6, 6, 6, 6, 6, 6, 6, 6, 6, 6, 6, 6, 6, 6, 6, 6, 6, 6, 6, 6, 6, 6, 6, 6, 6, 6, 6, 6, 6, 6, 6, 6, 6, 6, 6, 6, 6, 6, 6, 6, 6, 6, 6, 6, 6, 6, 6, 6, 6, 6, 6, 6, 6, 6, 6, 6, 6, 6, 6, 6, 6, 6, 6, 6, 6, 6, 6, 6, 6, 6, 6, 6, 6, 6, 6, 6, 6, 6, 6, 6, 6, 6, 6, 6, 6, 6, 6, 6, 6, 6, 6, 6, 6, 6, 6, 6, 6, 6, 6, 6, 6, 6, 6, 6, 6, 6, 6, 6, 6, 6, 6, 6, 6, 6, 6, 6, 6, 6, 6, 6, 6, 6, 6, 6, 6, 6, 6, 6, 6, 6, 6, 6, 6, 6, 6, 6, 6, 6, 6, 6, 6, 6, 6, 6, 6, 6, 6, 6, 6, 6, 6, 6, 6, 6, 6, 6, 6, 6, 6, 6, 6, 6, 7, 7, 7, 7, 7, 7, 7, 7, 7, 7, 7, 7, 7, 7, 7, 7, 7, 7, 7, 7, 7, 7, 7, 7, 7, 7, 7, 7, 7, 7, 7, 7, 7, 7, 7, 7] ∧
    tillArithmeticResults1 ((ari.map (fun i => st i 0 none) : List (State)).getD 11 .reset) 0 = [4, 6, 6, 6, 6, 6, 6, 6, 6, 6, 6, 6, 6, 6, 6, 6, 6, 6, 6, 6, 6, 6, 6, 6, 6, 6, 6, 6, 6, 6, 6, 6, 6, 6, 6, 6, 6, 6, 6, 6, 6, 6, 6, 6, 6, 6, 6, 6, 6, 6, 6, 6, 6, 6, 6, 6, 6, 6, 6, 6, 6, 6, 6, 6, 6, 6, 6, 6, 6, 6, 6, 6, 6, 6, 6, 6, 6, 6, 6, 6, 6, 6, 6, 6, 6, 6, 6, 6, 6, 6, 6, 6, 6, 6, 6, 6, 6, 6, 6, 6, 6, 6, 6, 6, 6, 6, 6, 6, 6, 6, 6, 6, 6, 6, 6, 6, 6, 6, 6, 6, 6, 6, 6, 6, 6, 6, 6, 6, 6, 6, 6, 6, 6, 6, 6, 6, 6, 6, 6, 6, 6, 6, 6, 6, 6, 6, 6, 6, 6, 6, 6, 6, 6, 6, 6, 6, 6, 6, 6, 6, 6, 6, 6, 6, 6, 6, 6, 6, 6, 6, 6, 6, 6, 6, 6, 6, 6, 6, 6, 6, 6, 6, 6, 6, 6, 6, 6, 6, 6, 6, 6, 6, 6, 6, 6, 6, 6, 6, 6, 6, 6, 6, 6, 6, 6, 6, 6, 6, 6, 6, 6, 6, 6, 6, 6, 6, 6, 7, 7, 7, 7, 7, 7, 7, 7, 7, 7, 7, 7, 7, 7, 7, 7, 7, 7, 7, 7, 7, 7, 7, 7, 7, 7, 7, 7, 7, 7, 7, 7, 7, 7, 7, 7] ∧
    tillArithmeticResults1 ((ari.map (fun i => st i 0 none) : List (State)).getD 13 .reset) 0 = [5, 6, 6, 6, 6, 6, 6, 6, 6, 6, 6, 6, 6, 6, 6, 6, 6, 6, 6, 6, 6, 6, 6, 6, 6, 6, 6, 6, 6, 6, 6, 6, 6, 6, 6, 6, 6, 6, 6, 6, 6, 6, 6, 6, 6, 6, 6, 6, 6, 6, 6, 6, 6, 6, 6, 6, 6, 6, 6, 6, 6, 6, 6, 6, 6, 6, 6, 6, 6, 6, 6, 6, 6, 6, 6, 6, 6, 6, 6, 6, 6, 6, 6, 6, 6, 6, 6, 6, 6, 6, 6, 6, 6, 6, 6, 6, 6, 6, 6, 6, 6, 6, 6, 6, 6, 6, 6, 6, 6, 6, 6, 6, 6, 6, 6, 6, 6, 6, 6, 6, 6, 6, 6, 6, 6, 6, 6, 6, 6, 6, 6, 6, 6, 6, 6, 6, 6, 6, 6, 6, 6, 6, 6, 6, 6, 6, 6, 6, 6, 6, 6, 6, 6, 6, 6, 6, 6, 6, 6, 6, 6, 6, 6, 6, 6, 6, 6, 6, 6, 6, 6, 6, 6, 6, 6, 6, 6, 6, 6, 6, 6, 6, 6, 6, 6, 6, 6, 6, 6, 6, 6, 6, 6, 6, 6, 6, 6, 6, 6, 6, 6, 6, 6, 6, 6, 6, 6, 6, 6, 6, 6, 6, 6, 6, 6, 6, 6, 7, 7, 7, 7, 7, 7, 7, 7, 7, 7, 7, 7, 7, 7, 7, 7, 7, 7, 7, 7, 7, 7, 7, 7, 7, 7, 7, 7, 7, 7, 7, 7, 7, 7, 7, 7] := by
  decide +kernel

end ForTillArithmeticResults

namespace ForDrillQueueResults

def pkt (op q : Nat) (f : List (Nat × Nat × Nat)) (flags : Nat := 0) (seq : Nat := 0): List Byte :=
  let base := leBytes 1 op ++ leBytes 1 flags ++ leBytes 2 0x77 ++ leBytes 4 seq ++ List.replicate 56 0
  f.foldl (fun b x => b.take x.1 ++ leBytes x.2.1 x.2.2 ++ b.drop (x.1 + x.2.1)) base
def en (op : Nat) (st : LState) (f : List (Nat × Nat × Nat)) (ch : Entry → Entry := id) (seq : Nat := 0) (q : Nat := 0): Entry :=
  ch { plot := 0, queue := q, seq := seq, tag := 0x77, opcode := op, packet := pkt op q f, order := seq + 10, state := st, since := some 100 }
def base (l : List (Nat × Entry)) (g : State → State := id) : State :=
  let s := (upAt 50000000).setOn DRL_Q_CFG.EN 0 true
  let s := (((s.setF DRL_Q_CFG.LOG2SIZE 0 6).setF DRL_Q_TAIL.COUNT 0 5).setF DRL_CR_BASE.ADDR 0 3).setF DRL_Q_BASE.ADDR 0 2
  let s := s.setPlot 0 { s.plot 0 with extents := [0, 1], channels := [0, 3], quota := some 9, rtdesc := 0x8000, binder := 3, streams := 4 }
  let s := { s with drill := { s.drill with ledger := l }, cores := [(0, { lease := some 0 })] }
  g s
def sowP : List (Nat × Nat × Nat) := [(8,8,64),(16,8,5),(24,16,1),(40,1,3),(44,4,10)]
def ls : List (List (Nat × Entry)) := [
 [], [(3, en 0x06 .held [])], [(3, en 0x06 .running [])], [(3, en 0x06 .parse [])], [(3, en 0x08 .held [(8,8,64),(16,8,0)] (fun x => {x with since := some 5}))], [(3, en 0x08 .held [(8,8,64),(16,8,7),(28,4,10)] (fun x => {x with since := some 5}))],
 [(3, en 0x0D .running [(12,4,5)])], [(3, en 0x0D .running [(12,4,5)]), (4, en 0x02 .running [] (fun x => {x with begun := true}) 5)], [(3, en 0x0D .running [(12,4,5)]), (4, en 0x02 .held [] id 5)], [(3, en 0x0D .running [(12,4,5)]), (4, en 0x01 .running [] (fun x => {x with begun := true, sow := some { threads := [0,1] }}) 5)],
 [(3, en 0x0D .running [(12,4,5)]), (4, en 0x09 .running [] id 5)], [(3, en 0x0D .running [(12,4,5)]), (4, en 0x02 .aborting [] id 5)], [(3, en 0x0D .running [(12,4,5)]), (4, en 0x02 .retiring [] id 5)], [(3, en 0x0D .running [(12,4,0)])], [(3, en 0x0D .running [(12,4,5)]), (4, en 0x0A .running [] id 5)],
 [(3, en 0x06 .running [] (fun x => {x with reply := some {}}))], [(3, en 0x01 .aborting [] (fun x => {x with reply := some {}}))], [(3, en 0x05 .running [] (fun x => {x with reply := some {}, begun := true}))], [(3, en 0x06 .retiring [] (fun x => {x with reply := some { status := 10}}))],
 [(3, en 0x01 .running sowP)], [(3, en 0x01 .running [(24,16,2),(40,1,1)])], [(3, en 0x01 .running sowP (fun x => {x with begun := true, since := some 5, sow := some { threads := [0,1] }}))],  [(3, en 0x01 .running sowP (fun x => {x with begun := true, since := some 5, sow := some { threads := [0,1], stopAt := some 7 , cause := some {}}}))],
 [(3, en 0x02 .running [(8,8,64),(16,8,128),(24,8,100)])], [(3, en 0x02 .running [(8,8,64),(16,8,128),(24,8,100)] (fun x => {x with prog := 100}))], [(3, en 0x02 .running [(8,8,2^45),(16,8,128),(24,8,100)])],
 [(3, en 0x03 .running [(8,8,64),(16,8,100),(24,8,0x1234567)])], [(3, en 0x03 .running [(8,8,64),(16,8,100),(24,8,0x1234567)] (fun x => {x with prog := 100}))], [(3, en 0x03 .running [(8,8,2^45),(16,8,100),(24,8,0x1234567)])],
 [(3, en 0x07 .running [(8,8,64),(16,8,100),(24,1,1)])], [(3, en 0x07 .running [(8,8,64),(16,8,100),(24,1,0)])],[(3, en 0x07 .running [(8,8,2^45),(16,8,100),(24,1,0)])],
 [(3, en 0x09 .running [(8,1,3),(9,1,2)])], [(3, en 0x0A .running [(8,1,3),(12,4,16)] (fun x => {x with content := leBytes 8 5 ++ leBytes 8 (0x11 * 2^58)}))],
 [(3, en 0x0E .running [(12,4,0)])], [(3, en 0x0E .running [(12,4,9)])], [(3, en 0x0E .running [(8,1,1),(16,8,64)])], [(3, en 0x0E .running [(8,1,1),(16,8,2^62)])], [(3, en 0x0E .running [(8,1,2)])],
 [(3, en 0x12 .running [(8,2,1)])], [(3, en 0x12 .running [(8,2,1)] (fun x => {x with begun := true, since := some 3}))],
 [(3, en 0x0B .running [(8,2,2),(16,16,6),(32,12,0x12),(48,8,0x400000),(11,1,2)])], [(3, en 0x0B .running [(8,2,2),(16,16,1),(32,12,0x12),(48,8,0x400000)])], [(3, en 0x0B .running [(8,2,2),(16,16,6),(32,12,0x12)] (fun x => {x with begun := true}))],  [(3, en 0x0B .running [(8,2,2),(16,16,6)] (fun x => {x with begun := true}))],
 [(3, en 0x0C .running [(8,2,0),(16,16,1),(32,12,1),(48,8,0x200000),(11,1,1)])], [(3, en 0x0C .running [(8,2,0),(16,16,1),(32,12,1),(48,8,0x200000),(11,1,1)] (fun x => {x with begun := true}))], [(3, en 0x0C .running [(8,2,0),(16,16,1),(32,12,9),(48,8,0x200000),(11,1,7)])]]

/-- The clauses of DrillQueueResults whose hypotheses hold. -/
def drillQueueResults1 (s : State) (agent : Agent) (q : Fin 4096) (v : BitVec 32) : List Nat :=
  (let n := s.f DRL_Q_CFG.LOG2SIZE q
   let en := s.on DRL_Q_CFG.EN q
   let reach : Bool := decide (s.acts agent = true) && (match agent with
     | .plot p => decide (p.val = 0 ∨ p.val = q.val / 8)
     | _ => decide (True))
   clause 0 (¬reach) ++
   (if reach then
     [1] ++
     clause 2 (en = true ∨ n < 6 ∨ 16 < n) ++
     clause 3 (en = false ∧ 6 ≤ n ∧ n ≤ 16) ++
     [4]
    else []))

/-- The clauses of DrillQueueResults whose hypotheses hold. -/
def drillQueueResults2 (s : State) (q : Fin 4096) (res : MemRes) : List Nat :=
  (let addr := s.f DRL_Q_TAILADDR.ADDR q * 4
   let polls := s.on DRL_Q_CFG.EN q = true ∧ s.on DRL_Q_CFG.SELF q = true ∧ s.on DRL_STATUS.RUN 0 = true
   clause 0 (¬polls) ++
   (if polls then
     (if opSpace addr = 0 then
       (match State.dmaReadAll { s with res := res } (q.val / 8) (opAddr addr) 2 4 with
        | (.data b, u) => [1]
        | (_, u) => [2])
      else []) ++
     (if opSpace addr = 1 ∧ s.detached (q.val / 8) = false then
       (match s.hostRead (q.val / 8) (opAddr addr) 4 (.tail q) with
        | some u => [3]
        | none => [4])
      else [])
    else []))

/-- The clauses of DrillQueueResults whose hypotheses hold. -/
def drillQueueResults3 (s : State) (q : Fin 4096) (e : Fin 4096) (res : MemRes) : List Nat :=
  (let r := s.queue q
   clause 0 (s.nextQueue = some q.val ∧ s.entry e = none) ++
   clause 1 (s.nextQueue ≠ some q.val ∧ s.qReady q = true ∧ s.ledgerRoom q = false) ++
   clause 2 (r.rereads ≠ none ∧ r.reading = false ∧ s.on DRL_Q_CFG.EN q = true ∧ s.entry e = none ∧ 0 < s.ringFree q) ++
   clause 3 (r.rereads = none))

/-- The clauses of DrillQueueResults whose hypotheses hold. -/
def drillQueueResults4 (s : State) (q : Fin 4096) (e : Fin 4096) (b : List Byte) : List Nat :=
  (if s.entry e = none then
    (let head := s.f DRL_Q_HEAD.COUNT q
     let u := s.takePacket q e b
     let v := s.fetched q e b
     (let u : State := v
      [0] ++
      (match u.entry e with
       | some x => [1]
       | none => [2])) ++
     (if numAt b 4 4 = head then
       (match (v.entry e).bind (·.step1) with
        | some r => [3] ++
           (match u.entry e with
            | some x => [4]
            | none => [5])
        | none => [6])
      else []) ++
     (if numAt b 4 4 ≠ head then
       (match (s.queue q).rereads with
        | none => [7]
        | some 0 => [8]
        | some _ => [9] ++
           (match u.entry e with
            | some x => [10]
            | none => [11]) ++
           [12])
      else []))
   else [])

theorem test_hypotheses :
    drillQueueResults1 up .drill 0 0 = [1, 2, 4] ∧
    drillQueueResults1 State.reset .drill 0 0 = [0] ∧
    drillQueueResults1 (base [] (fun s => s.setOn DRL_Q_CFG.EN 0 false)) .drill 0 0 = [1, 3, 4] ∧
    drillQueueResults2 State.reset 0 .ok = [0] ∧
    drillQueueResults2 (base [] (fun s => s.setOn DRL_Q_CFG.SELF 0 true)) 0 .ok = [1] ∧
    drillQueueResults2 (base [] (fun s => s.setOn DRL_Q_CFG.SELF 0 true)) 0 .uncorrectable = [2] ∧
    drillQueueResults2 (base [] (fun s => (s.setOn DRL_Q_CFG.SELF 0 true).setF DRL_Q_TAILADDR.ADDR 0 (2^60))) 0 .ok = [3] ∧
    drillQueueResults3 ((ls.map base : List (State)).getD 0 .reset) 0 0 .ok = [0, 3] ∧
    drillQueueResults3 (base [] (fun s => s.setPlot 0 { s.plot 0 with quota := some 0 })) 0 0 .ok = [1, 3] ∧
    drillQueueResults3 (base [] (fun s => s.setQueue 0 { s.queue 0 with rereads := some 0 })) 0 0 .ok = [2] ∧
    drillQueueResults4 (base [] (fun s => s.setQueue 0 { s.queue 0 with rereads := some 1 })) 0 0 (pkt 6 0 [] 0 4) = [0, 1, 9, 10, 12] ∧
    drillQueueResults4 State.reset 0 0 (pkt 0x66 0 []) = [0, 1, 3, 4] ∧
    drillQueueResults4 State.reset 0 0 (pkt 6 0 []) = [0, 1, 6] ∧
    drillQueueResults4 State.reset 0 0 (pkt 6 0 [] 0 4) = [0, 1, 7] ∧
    drillQueueResults4 (base [] (fun s => s.setQueue 0 { s.queue 0 with rereads := some 0 })) 0 0 (pkt 6 0 [] 0 4) = [0, 1, 8] := by
  decide +kernel

end ForDrillQueueResults

namespace ForDrillLifecycleResults

def pkt (op q : Nat) (f : List (Nat × Nat × Nat)) (flags : Nat := 0) (seq : Nat := 0): List Byte :=
  let base := leBytes 1 op ++ leBytes 1 flags ++ leBytes 2 0x77 ++ leBytes 4 seq ++ List.replicate 56 0
  f.foldl (fun b x => b.take x.1 ++ leBytes x.2.1 x.2.2 ++ b.drop (x.1 + x.2.1)) base
def en (op : Nat) (st : LState) (f : List (Nat × Nat × Nat)) (ch : Entry → Entry := id) (seq : Nat := 0) (q : Nat := 0): Entry :=
  ch { plot := 0, queue := q, seq := seq, tag := 0x77, opcode := op, packet := pkt op q f, order := seq + 10, state := st, since := some 100 }
def base (l : List (Nat × Entry)) (g : State → State := id) : State :=
  let s := (upAt 50000000).setOn DRL_Q_CFG.EN 0 true
  let s := (((s.setF DRL_Q_CFG.LOG2SIZE 0 6).setF DRL_Q_TAIL.COUNT 0 5).setF DRL_CR_BASE.ADDR 0 3).setF DRL_Q_BASE.ADDR 0 2
  let s := s.setPlot 0 { s.plot 0 with extents := [0, 1], channels := [0, 3], quota := some 9, rtdesc := 0x8000, binder := 3, streams := 4 }
  let s := { s with drill := { s.drill with ledger := l }, cores := [(0, { lease := some 0 })] }
  g s
def sowP : List (Nat × Nat × Nat) := [(8,8,64),(16,8,5),(24,16,1),(40,1,3),(44,4,10)]
def ls : List (List (Nat × Entry)) := [
 [], [(3, en 0x06 .held [])], [(3, en 0x06 .running [])], [(3, en 0x06 .parse [])], [(3, en 0x08 .held [(8,8,64),(16,8,0)] (fun x => {x with since := some 5}))], [(3, en 0x08 .held [(8,8,64),(16,8,7),(28,4,10)] (fun x => {x with since := some 5}))],
 [(3, en 0x0D .running [(12,4,5)])], [(3, en 0x0D .running [(12,4,5)]), (4, en 0x02 .running [] (fun x => {x with begun := true}) 5)], [(3, en 0x0D .running [(12,4,5)]), (4, en 0x02 .held [] id 5)], [(3, en 0x0D .running [(12,4,5)]), (4, en 0x01 .running [] (fun x => {x with begun := true, sow := some { threads := [0,1] }}) 5)],
 [(3, en 0x0D .running [(12,4,5)]), (4, en 0x09 .running [] id 5)], [(3, en 0x0D .running [(12,4,5)]), (4, en 0x02 .aborting [] id 5)], [(3, en 0x0D .running [(12,4,5)]), (4, en 0x02 .retiring [] id 5)], [(3, en 0x0D .running [(12,4,0)])], [(3, en 0x0D .running [(12,4,5)]), (4, en 0x0A .running [] id 5)],
 [(3, en 0x06 .running [] (fun x => {x with reply := some {}}))], [(3, en 0x01 .aborting [] (fun x => {x with reply := some {}}))], [(3, en 0x05 .running [] (fun x => {x with reply := some {}, begun := true}))], [(3, en 0x06 .retiring [] (fun x => {x with reply := some { status := 10}}))],
 [(3, en 0x01 .running sowP)], [(3, en 0x01 .running [(24,16,2),(40,1,1)])], [(3, en 0x01 .running sowP (fun x => {x with begun := true, since := some 5, sow := some { threads := [0,1] }}))],  [(3, en 0x01 .running sowP (fun x => {x with begun := true, since := some 5, sow := some { threads := [0,1], stopAt := some 7 , cause := some {}}}))],
 [(3, en 0x02 .running [(8,8,64),(16,8,128),(24,8,100)])], [(3, en 0x02 .running [(8,8,64),(16,8,128),(24,8,100)] (fun x => {x with prog := 100}))], [(3, en 0x02 .running [(8,8,2^45),(16,8,128),(24,8,100)])],
 [(3, en 0x03 .running [(8,8,64),(16,8,100),(24,8,0x1234567)])], [(3, en 0x03 .running [(8,8,64),(16,8,100),(24,8,0x1234567)] (fun x => {x with prog := 100}))], [(3, en 0x03 .running [(8,8,2^45),(16,8,100),(24,8,0x1234567)])],
 [(3, en 0x07 .running [(8,8,64),(16,8,100),(24,1,1)])], [(3, en 0x07 .running [(8,8,64),(16,8,100),(24,1,0)])],[(3, en 0x07 .running [(8,8,2^45),(16,8,100),(24,1,0)])],
 [(3, en 0x09 .running [(8,1,3),(9,1,2)])], [(3, en 0x0A .running [(8,1,3),(12,4,16)] (fun x => {x with content := leBytes 8 5 ++ leBytes 8 (0x11 * 2^58)}))],
 [(3, en 0x0E .running [(12,4,0)])], [(3, en 0x0E .running [(12,4,9)])], [(3, en 0x0E .running [(8,1,1),(16,8,64)])], [(3, en 0x0E .running [(8,1,1),(16,8,2^62)])], [(3, en 0x0E .running [(8,1,2)])],
 [(3, en 0x12 .running [(8,2,1)])], [(3, en 0x12 .running [(8,2,1)] (fun x => {x with begun := true, since := some 3}))],
 [(3, en 0x0B .running [(8,2,2),(16,16,6),(32,12,0x12),(48,8,0x400000),(11,1,2)])], [(3, en 0x0B .running [(8,2,2),(16,16,1),(32,12,0x12),(48,8,0x400000)])], [(3, en 0x0B .running [(8,2,2),(16,16,6),(32,12,0x12)] (fun x => {x with begun := true}))],  [(3, en 0x0B .running [(8,2,2),(16,16,6)] (fun x => {x with begun := true}))],
 [(3, en 0x0C .running [(8,2,0),(16,16,1),(32,12,1),(48,8,0x200000),(11,1,1)])], [(3, en 0x0C .running [(8,2,0),(16,16,1),(32,12,1),(48,8,0x200000),(11,1,1)] (fun x => {x with begun := true}))], [(3, en 0x0C .running [(8,2,0),(16,16,1),(32,12,9),(48,8,0x200000),(11,1,7)])]]

/-- The clauses of DrillLifecycleResults whose hypotheses hold. -/
def drillLifecycleResults1 (s : State) (e : Fin 4096) (res : MemRes) : List Nat :=
  (match s.entry e with
   | some x => clause 0 (x.state = .parse) ++
      clause 1 (x.state ≠ .parse ∧ (s.mayStart x = false ∨ x.opcode = 0x08)) ++
      clause 2 (s.mayStart x = true ∧ x.opcode ≠ 0x08)
   | none => [3])

/-- The clauses of DrillLifecycleResults whose hypotheses hold. -/
def drillLifecycleResults2 (s : State) (e : Fin 4096) : List Nat :=
  (match s.entry e with
   | some x => (if x.state = .running ∧ x.begun = false then
        (let t := s.setEntry e { x with begun := true }
         clause 0 (x.opcode = 0x06) ++
         (if x.opcode = 0x0D then
           (match t.seqEntry x.plot (x.pk 8 1) (x.pk 12 4) with
            | none => [1]
            | some (k, y) => clause 2 (k ≠ e.val ∧ t.entry k = some y))
          else []))
       else [])
   | none => [3])

/-- The clauses of DrillLifecycleResults whose hypotheses hold. -/
def drillLifecycleResults3 (s : State) (e : Fin 4096) (res : MemRes) : List Nat :=
  (let v := State.serveEnded { s with res := res } e
   (match v.entry e with
    | some x => (let q := x.plot * 8 + x.queue
        (if x.frame = none ∧ ((x.opcode ≠ 0x10 ∨ x.reply ≠ none)) then
          (match v.ended e x with
           | none => [0]
           | some r => (if q < 4096 then
                clause 1 (((x.state = .running ∨ x.state = .retiring)) ∧ v.targetDone x = true ∧ v.refusalDue x = true) ++
                clause 2 (x.state = .aborting)
               else []))
         else []))
    | none => [3]))

theorem test_hypotheses :
    drillLifecycleResults1 State.reset 0 .ok = [3] ∧
    drillLifecycleResults1 ((ls.map base : List (State)).getD 1 .reset) 3 .ok = [2] ∧
    drillLifecycleResults1 ((ls.map base : List (State)).getD 2 .reset) 3 .ok = [1] ∧
    drillLifecycleResults1 ((ls.map base : List (State)).getD 3 .reset) 3 .ok = [0] ∧
    drillLifecycleResults2 State.reset 0 = [3] ∧
    drillLifecycleResults2 ((ls.map base : List (State)).getD 2 .reset) 3 = [0] ∧
    drillLifecycleResults2 ((ls.map base : List (State)).getD 6 .reset) 3 = [1] ∧
    drillLifecycleResults2 ((ls.map base : List (State)).getD 7 .reset) 3 = [2] ∧
    drillLifecycleResults3 State.reset 0 .ok = [3] ∧
    drillLifecycleResults3 ((ls.map base : List (State)).getD 1 .reset) 3 .ok = [0] ∧
    drillLifecycleResults3 ((ls.map base : List (State)).getD 15 .reset) 3 .ok = [1] ∧
    drillLifecycleResults3 ((ls.map base : List (State)).getD 16 .reset) 3 .ok = [2] := by
  decide +kernel

end ForDrillLifecycleResults

namespace ForDrillCommandResults

def pkt (op q : Nat) (f : List (Nat × Nat × Nat)) (flags : Nat := 0) (seq : Nat := 0): List Byte :=
  let base := leBytes 1 op ++ leBytes 1 flags ++ leBytes 2 0x77 ++ leBytes 4 seq ++ List.replicate 56 0
  f.foldl (fun b x => b.take x.1 ++ leBytes x.2.1 x.2.2 ++ b.drop (x.1 + x.2.1)) base
def en (op : Nat) (st : LState) (f : List (Nat × Nat × Nat)) (ch : Entry → Entry := id) (seq : Nat := 0) (q : Nat := 0): Entry :=
  ch { plot := 0, queue := q, seq := seq, tag := 0x77, opcode := op, packet := pkt op q f, order := seq + 10, state := st, since := some 100 }
def base (l : List (Nat × Entry)) (g : State → State := id) : State :=
  let s := (upAt 50000000).setOn DRL_Q_CFG.EN 0 true
  let s := (((s.setF DRL_Q_CFG.LOG2SIZE 0 6).setF DRL_Q_TAIL.COUNT 0 5).setF DRL_CR_BASE.ADDR 0 3).setF DRL_Q_BASE.ADDR 0 2
  let s := s.setPlot 0 { s.plot 0 with extents := [0, 1], channels := [0, 3], quota := some 9, rtdesc := 0x8000, binder := 3, streams := 4 }
  let s := { s with drill := { s.drill with ledger := l }, cores := [(0, { lease := some 0 })] }
  g s
def sowP : List (Nat × Nat × Nat) := [(8,8,64),(16,8,5),(24,16,1),(40,1,3),(44,4,10)]
def ls : List (List (Nat × Entry)) := [
 [], [(3, en 0x06 .held [])], [(3, en 0x06 .running [])], [(3, en 0x06 .parse [])], [(3, en 0x08 .held [(8,8,64),(16,8,0)] (fun x => {x with since := some 5}))], [(3, en 0x08 .held [(8,8,64),(16,8,7),(28,4,10)] (fun x => {x with since := some 5}))],
 [(3, en 0x0D .running [(12,4,5)])], [(3, en 0x0D .running [(12,4,5)]), (4, en 0x02 .running [] (fun x => {x with begun := true}) 5)], [(3, en 0x0D .running [(12,4,5)]), (4, en 0x02 .held [] id 5)], [(3, en 0x0D .running [(12,4,5)]), (4, en 0x01 .running [] (fun x => {x with begun := true, sow := some { threads := [0,1] }}) 5)],
 [(3, en 0x0D .running [(12,4,5)]), (4, en 0x09 .running [] id 5)], [(3, en 0x0D .running [(12,4,5)]), (4, en 0x02 .aborting [] id 5)], [(3, en 0x0D .running [(12,4,5)]), (4, en 0x02 .retiring [] id 5)], [(3, en 0x0D .running [(12,4,0)])], [(3, en 0x0D .running [(12,4,5)]), (4, en 0x0A .running [] id 5)],
 [(3, en 0x06 .running [] (fun x => {x with reply := some {}}))], [(3, en 0x01 .aborting [] (fun x => {x with reply := some {}}))], [(3, en 0x05 .running [] (fun x => {x with reply := some {}, begun := true}))], [(3, en 0x06 .retiring [] (fun x => {x with reply := some { status := 10}}))],
 [(3, en 0x01 .running sowP)], [(3, en 0x01 .running [(24,16,2),(40,1,1)])], [(3, en 0x01 .running sowP (fun x => {x with begun := true, since := some 5, sow := some { threads := [0,1] }}))],  [(3, en 0x01 .running sowP (fun x => {x with begun := true, since := some 5, sow := some { threads := [0,1], stopAt := some 7 , cause := some {}}}))],
 [(3, en 0x02 .running [(8,8,64),(16,8,128),(24,8,100)])], [(3, en 0x02 .running [(8,8,64),(16,8,128),(24,8,100)] (fun x => {x with prog := 100}))], [(3, en 0x02 .running [(8,8,2^45),(16,8,128),(24,8,100)])],
 [(3, en 0x03 .running [(8,8,64),(16,8,100),(24,8,0x1234567)])], [(3, en 0x03 .running [(8,8,64),(16,8,100),(24,8,0x1234567)] (fun x => {x with prog := 100}))], [(3, en 0x03 .running [(8,8,2^45),(16,8,100),(24,8,0x1234567)])],
 [(3, en 0x07 .running [(8,8,64),(16,8,100),(24,1,1)])], [(3, en 0x07 .running [(8,8,64),(16,8,100),(24,1,0)])],[(3, en 0x07 .running [(8,8,2^45),(16,8,100),(24,1,0)])],
 [(3, en 0x09 .running [(8,1,3),(9,1,2)])], [(3, en 0x0A .running [(8,1,3),(12,4,16)] (fun x => {x with content := leBytes 8 5 ++ leBytes 8 (0x11 * 2^58)}))],
 [(3, en 0x0E .running [(12,4,0)])], [(3, en 0x0E .running [(12,4,9)])], [(3, en 0x0E .running [(8,1,1),(16,8,64)])], [(3, en 0x0E .running [(8,1,1),(16,8,2^62)])], [(3, en 0x0E .running [(8,1,2)])],
 [(3, en 0x12 .running [(8,2,1)])], [(3, en 0x12 .running [(8,2,1)] (fun x => {x with begun := true, since := some 3}))],
 [(3, en 0x0B .running [(8,2,2),(16,16,6),(32,12,0x12),(48,8,0x400000),(11,1,2)])], [(3, en 0x0B .running [(8,2,2),(16,16,1),(32,12,0x12),(48,8,0x400000)])], [(3, en 0x0B .running [(8,2,2),(16,16,6),(32,12,0x12)] (fun x => {x with begun := true}))],  [(3, en 0x0B .running [(8,2,2),(16,16,6)] (fun x => {x with begun := true}))],
 [(3, en 0x0C .running [(8,2,0),(16,16,1),(32,12,1),(48,8,0x200000),(11,1,1)])], [(3, en 0x0C .running [(8,2,0),(16,16,1),(32,12,1),(48,8,0x200000),(11,1,1)] (fun x => {x with begun := true}))], [(3, en 0x0C .running [(8,2,0),(16,16,1),(32,12,9),(48,8,0x200000),(11,1,7)])]]

/-- The clauses of DrillCommandResults whose hypotheses hold. -/
def drillCommandResults1 (s : State) (e : Fin 4096) (res : MemRes) : List Nat :=
  (match s.entry e with
   | some x => (if x.state = .running then
        (let t := State.setEntry { s with res := res } e { x with begun := true }
         let fresh := fun op : Nat => x.opcode = op ∧ x.begun = false
         let goes := fun op : Nat => x.opcode = op ∧ x.reply = none ∧ x.away = false
         (if fresh 0x01 then
           clause 0 ((sowCores x.packet).any s.locked = true) ++
           (if (sowCores x.packet).any s.locked = false ∧ ((sowCores x.packet).all (fun n => (s.core n).lease = some x.plot) = true) ∧ (x.frame.isSome || (t.sowBusy x.packet).isNone) = true ∧ opSpace (s.plot x.plot).rtdesc = 0 then
             (match t.dmaReadAll x.plot (opAddr (s.plot x.plot).rtdesc) 4 128 with
              | (.data d, _) => [1]
              | (.fail, _) => [2]
              | (.held, _) => [3])
            else [])
          else []) ++
         (if goes 0x02 then
           (let src := x.pk 8 8 + x.prog
            let dst := x.pk 16 8 + x.prog
            let n := min (x.pk 24 8 - x.prog) (min (64 - src % 64) (64 - dst % 64))
            clause 4 (x.pk 24 8 ≤ x.prog) ++
            (if x.prog < x.pk 24 8 ∧ opSpace src ≠ 1 then
              (match t.dmaRead x.plot (opAddr src) n with
               | (.data b, u) => [5]
               | (.poison, _) => [6]
               | (.fault, _) => [7]
               | (.held, u) => [8]
               | (.remote .., _) => [9])
             else []))
          else []) ++
         (if goes 0x03 then
           clause 10 (x.pk 16 8 ≤ x.prog) ++
           (if x.prog < x.pk 16 8 then
             [11]
            else [])
          else []) ++
         (if fresh 0x07 ∧ opSpace (x.pk 8 8) ≠ 1 then
           (match t.dmaRead x.plot (opAddr (x.pk 8 8)) 8 with
            | (.data b, u) => (match u.dmaWrite x.plot (opAddr (x.pk 8 8))
          (leBytes 8 (if x.pk 24 1 = 1 then leNat b + x.pk 16 8 else x.pk 16 8)) true with
                | (.done, v) => [12]
                | _ => [13])
            | (.poison, _) => [14]
            | (.fault, _) => [15]
            | _ => [16])
          else []) ++
         (if fresh 0x09 then
           (match firstFail [t.step3 x, t.step5 x] with
            | some r => [17]
            | none => [18])
          else []) ++
         (if fresh 0x0A ∧ x.pk 12 4 ≠ 0 then
           (match t.step5 x with
            | some r => [19]
            | none => [20])
          else []) ++
         (if fresh 0x0E then
           clause 21 (x.pk 8 1 = 0) ++
           (if x.pk 8 1 = 1 then
             [22]
            else []) ++
           clause 23 (x.pk 8 1 = 2)
          else []) ++
         clause 24 (fresh 0x12))
       else [])
   | none => [25])

/-- The clauses of DrillCommandResults whose hypotheses hold. -/
def drillCommandResults2 (s : State) (e : Fin 4096) (plot : Nat) (dst : Nat) (b : List Byte) : List Nat :=
  (if opSpace dst ≠ 1 then
    (match s.entry e with
     | some x => (match s.dmaWrite plot (opAddr dst) b false with
         | (.done, v) => [0]
         | (.fault, _) => (match (s.putPiece e plot dst b).entry e with
             | some y => [1]
             | none => [2])
         | _ => [3])
     | none => [4])
   else [])

/-- The clauses of DrillCommandResults whose hypotheses hold. -/
def drillCommandResults3 (s : State) (e : Fin 4096) (res : MemRes) : List Nat :=
  (match s.entry e with
   | some x => (if x.opcode = 0x08 then
        (if s.mayStart x = true ∧ x.away = false ∧ opSpace (x.pk 8 8) ≠ 1 then
          (match (State.setEntry { s with res := res } e { x with since := some (x.since.getD s.now) }).dmaRead x.plot
          (opAddr (x.pk 8 8)) 8 with
           | (.data b, _) => [0]
           | _ => [1])
         else []) ++
        (match x.since with
         | some n => clause 2 (x.state = .held ∧ x.pk 28 4 ≠ 0 ∧ 100 * x.pk 28 4 ≤ s.since n)
         | none => [3])
       else [])
   | none => [4]) ++
  (match s.msgOut e with
   | some x => (match s.isl.answer with
       | some (code, []) => [5]
       | some _ => [6]
       | none => (match x.since with
           | some n => clause 7 (10000000 ≤ s.since n)
           | none => [8]))
   | none => [9])

/-- The clauses of DrillCommandResults whose hypotheses hold. -/
def drillCommandResults4 (s : State) (h : Tid) : List Nat :=
  clause 0 ((s.thread h).exited = true ∧ (s.thread h).mode ≠ .halted ∧ (s.thread h).hold = none ∧ (s.thread h).raised = none ∧ (s.thread h).posted = [] ∧ s.locked (coreOf h) = false ∧ ((s.core (coreOf h)).pfs.any (fun p => p.2 = h.val) = false) ∧ ((s.tile (coreOf h)).queue.any (fun e => e.thread = h.val) = false))

/-- The clauses of DrillCommandResults whose hypotheses hold. -/
def drillCommandResults5 (s : State) (e : Fin 4096) : List Nat :=
  (match s.entry e with
   | some x => (match x.sow with
       | some w => (match x.since with
           | some n => clause 0 (x.opcode = 0x01 ∧ x.state = .running ∧ x.frame = none ∧ x.pk 44 4 ≠ 0 ∧ 100 * x.pk 44 4 ≤ s.since n ∧ w.over s = false)
           | none => [1]) ++
          (match w.stopAt with
           | some n => clause 2 (100 * s.f DRL_CFG.STOP_TMO 0 ≤ s.since n ∧ (w.threads.any (fun k => !w.parked.contains k && !(s.thread k).exited && !s.locked (coreOf k) &&
            (find (coreOf k) s.clk.tg).isNone) = true))
           | none => [3])
       | none => [4])
   | none => [5])

theorem test_hypotheses :
    drillCommandResults1 State.reset 0 .ok = [25] ∧
    drillCommandResults1 ((ls.map base : List (State)).getD 19 .reset) 3 .ok = [1] ∧
    drillCommandResults1 ((ls.map base : List (State)).getD 19 .reset) 3 .uncorrectable = [2] ∧
    drillCommandResults1 ((ls.map base : List (State)).getD 23 .reset) 3 .ok = [5] ∧
    drillCommandResults1 ((ls.map base : List (State)).getD 23 .reset) 3 .uncorrectable = [6] ∧
    drillCommandResults1 ((ls.map base : List (State)).getD 24 .reset) 3 .ok = [4] ∧
    drillCommandResults1 ((ls.map base : List (State)).getD 25 .reset) 3 .ok = [7] ∧
    drillCommandResults1 ((ls.map base : List (State)).getD 26 .reset) 3 .ok = [11] ∧
    drillCommandResults1 ((ls.map base : List (State)).getD 27 .reset) 3 .ok = [10] ∧
    drillCommandResults1 ((ls.map base : List (State)).getD 29 .reset) 3 .ok = [12] ∧
    drillCommandResults1 ((ls.map base : List (State)).getD 29 .reset) 3 .uncorrectable = [14] ∧
    drillCommandResults1 ((ls.map base : List (State)).getD 31 .reset) 3 .ok = [15] ∧
    drillCommandResults1 ((ls.map base : List (State)).getD 32 .reset) 3 .ok = [17] ∧
    drillCommandResults1 ((ls.map base : List (State)).getD 33 .reset) 3 .ok = [19] ∧
    drillCommandResults1 ((ls.map base : List (State)).getD 34 .reset) 3 .ok = [21] ∧
    drillCommandResults1 ((ls.map base : List (State)).getD 36 .reset) 3 .ok = [22] ∧
    drillCommandResults1 ((ls.map base : List (State)).getD 38 .reset) 3 .ok = [23] ∧
    drillCommandResults1 ((ls.map base : List (State)).getD 39 .reset) 3 .ok = [24] ∧
    drillCommandResults1 (base [(3, en 0x09 .running [(8,1,3),(9,1,2)])] (fun s => s.setF GRN_STATE.MODE 3 1)) 3 .ok = [18] ∧
    drillCommandResults1 (base [(3, en 0x0A .running [(8,1,3),(12,4,16)] (fun x => {x with content := leBytes 8 5 ++ leBytes 8 (0x11 * 2^58)}))] (fun s => s.setF GRN_STATE.MODE 3 2)) 3 .ok = [20] ∧
    drillCommandResults1 (base [(3, en 0x01 .running sowP)] (fun s => s.setBitF FUR_LOCKSTAT.LOCKED 0 0 true)) 3 .ok = [0] ∧
    drillCommandResults1 (base [(3, en 0x02 .running [(8,8,0x4000000000),(16,8,128),(24,8,100)])] (fun s => (s.setF GRN_STATE.MODE 0 2).setOn GRN_TILL_STAT.LOADED 0 true)) 3 .ok = [8] ∧
    drillCommandResults2 State.reset 0 0 0 (pkt 6 0 []) = [4] ∧
    drillCommandResults2 ((ls.map base : List (State)).getD 1 .reset) 3 0 0 (pkt 6 0 []) = [0] ∧
    drillCommandResults2 ((ls.map base : List (State)).getD 1 .reset) 3 64 0 (pkt 6 0 []) = [1] ∧
    drillCommandResults3 ((ls.map base : List (State)).getD 5 .reset) 3 .ok = [0, 2, 9] ∧
    drillCommandResults3 State.reset 0 .ok = [4, 9] ∧
    drillCommandResults3 ((ls.map base : List (State)).getD 4 .reset) 3 .uncorrectable = [1, 9] ∧
    drillCommandResults3 ((ls.map base : List (State)).getD 40 .reset) 3 .ok = [7] ∧
    drillCommandResults3 (base [(3, en 0x12 .running [(8,2,1)] (fun x => {x with begun := true, since := some 3}))] (fun s => s.mapIsl fun i => {i with answer := some (5, [])})) 3 .ok = [5] ∧
    drillCommandResults4 (base [] fun s => s.setThread 0 { exited := true, mode := .running }) 0 = [0] ∧
    drillCommandResults5 ((ls.map base : List (State)).getD 21 .reset) 3 = [0, 3] ∧
    drillCommandResults5 State.reset 0 = [5] ∧
    drillCommandResults5 ((ls.map base : List (State)).getD 1 .reset) 3 = [4] ∧
    drillCommandResults5 ((ls.map base : List (State)).getD 22 .reset) 3 = [0, 2] := by
  decide +kernel

end ForDrillCommandResults

namespace ForLeaseResults

def pkt (op q : Nat) (f : List (Nat × Nat × Nat)) (flags : Nat := 0) (seq : Nat := 0): List Byte :=
  let base := leBytes 1 op ++ leBytes 1 flags ++ leBytes 2 0x77 ++ leBytes 4 seq ++ List.replicate 56 0
  f.foldl (fun b x => b.take x.1 ++ leBytes x.2.1 x.2.2 ++ b.drop (x.1 + x.2.1)) base
def en (op : Nat) (st : LState) (f : List (Nat × Nat × Nat)) (ch : Entry → Entry := id) (seq : Nat := 0) (q : Nat := 0): Entry :=
  ch { plot := 0, queue := q, seq := seq, tag := 0x77, opcode := op, packet := pkt op q f, order := seq + 10, state := st, since := some 100 }
def base (l : List (Nat × Entry)) (g : State → State := id) : State :=
  let s := (upAt 50000000).setOn DRL_Q_CFG.EN 0 true
  let s := (((s.setF DRL_Q_CFG.LOG2SIZE 0 6).setF DRL_Q_TAIL.COUNT 0 5).setF DRL_CR_BASE.ADDR 0 3).setF DRL_Q_BASE.ADDR 0 2
  let s := s.setPlot 0 { s.plot 0 with extents := [0, 1], channels := [0, 3], quota := some 9, rtdesc := 0x8000, binder := 3, streams := 4 }
  let s := { s with drill := { s.drill with ledger := l }, cores := [(0, { lease := some 0 })] }
  g s
def sowP : List (Nat × Nat × Nat) := [(8,8,64),(16,8,5),(24,16,1),(40,1,3),(44,4,10)]
def ls : List (List (Nat × Entry)) := [
 [], [(3, en 0x06 .held [])], [(3, en 0x06 .running [])], [(3, en 0x06 .parse [])], [(3, en 0x08 .held [(8,8,64),(16,8,0)] (fun x => {x with since := some 5}))], [(3, en 0x08 .held [(8,8,64),(16,8,7),(28,4,10)] (fun x => {x with since := some 5}))],
 [(3, en 0x0D .running [(12,4,5)])], [(3, en 0x0D .running [(12,4,5)]), (4, en 0x02 .running [] (fun x => {x with begun := true}) 5)], [(3, en 0x0D .running [(12,4,5)]), (4, en 0x02 .held [] id 5)], [(3, en 0x0D .running [(12,4,5)]), (4, en 0x01 .running [] (fun x => {x with begun := true, sow := some { threads := [0,1] }}) 5)],
 [(3, en 0x0D .running [(12,4,5)]), (4, en 0x09 .running [] id 5)], [(3, en 0x0D .running [(12,4,5)]), (4, en 0x02 .aborting [] id 5)], [(3, en 0x0D .running [(12,4,5)]), (4, en 0x02 .retiring [] id 5)], [(3, en 0x0D .running [(12,4,0)])], [(3, en 0x0D .running [(12,4,5)]), (4, en 0x0A .running [] id 5)],
 [(3, en 0x06 .running [] (fun x => {x with reply := some {}}))], [(3, en 0x01 .aborting [] (fun x => {x with reply := some {}}))], [(3, en 0x05 .running [] (fun x => {x with reply := some {}, begun := true}))], [(3, en 0x06 .retiring [] (fun x => {x with reply := some { status := 10}}))],
 [(3, en 0x01 .running sowP)], [(3, en 0x01 .running [(24,16,2),(40,1,1)])], [(3, en 0x01 .running sowP (fun x => {x with begun := true, since := some 5, sow := some { threads := [0,1] }}))],  [(3, en 0x01 .running sowP (fun x => {x with begun := true, since := some 5, sow := some { threads := [0,1], stopAt := some 7 , cause := some {}}}))],
 [(3, en 0x02 .running [(8,8,64),(16,8,128),(24,8,100)])], [(3, en 0x02 .running [(8,8,64),(16,8,128),(24,8,100)] (fun x => {x with prog := 100}))], [(3, en 0x02 .running [(8,8,2^45),(16,8,128),(24,8,100)])],
 [(3, en 0x03 .running [(8,8,64),(16,8,100),(24,8,0x1234567)])], [(3, en 0x03 .running [(8,8,64),(16,8,100),(24,8,0x1234567)] (fun x => {x with prog := 100}))], [(3, en 0x03 .running [(8,8,2^45),(16,8,100),(24,8,0x1234567)])],
 [(3, en 0x07 .running [(8,8,64),(16,8,100),(24,1,1)])], [(3, en 0x07 .running [(8,8,64),(16,8,100),(24,1,0)])],[(3, en 0x07 .running [(8,8,2^45),(16,8,100),(24,1,0)])],
 [(3, en 0x09 .running [(8,1,3),(9,1,2)])], [(3, en 0x0A .running [(8,1,3),(12,4,16)] (fun x => {x with content := leBytes 8 5 ++ leBytes 8 (0x11 * 2^58)}))],
 [(3, en 0x0E .running [(12,4,0)])], [(3, en 0x0E .running [(12,4,9)])], [(3, en 0x0E .running [(8,1,1),(16,8,64)])], [(3, en 0x0E .running [(8,1,1),(16,8,2^62)])], [(3, en 0x0E .running [(8,1,2)])],
 [(3, en 0x12 .running [(8,2,1)])], [(3, en 0x12 .running [(8,2,1)] (fun x => {x with begun := true, since := some 3}))],
 [(3, en 0x0B .running [(8,2,2),(16,16,6),(32,12,0x12),(48,8,0x400000),(11,1,2)])], [(3, en 0x0B .running [(8,2,2),(16,16,1),(32,12,0x12),(48,8,0x400000)])], [(3, en 0x0B .running [(8,2,2),(16,16,6),(32,12,0x12)] (fun x => {x with begun := true}))],  [(3, en 0x0B .running [(8,2,2),(16,16,6)] (fun x => {x with begun := true}))],
 [(3, en 0x0C .running [(8,2,0),(16,16,1),(32,12,1),(48,8,0x200000),(11,1,1)])], [(3, en 0x0C .running [(8,2,0),(16,16,1),(32,12,1),(48,8,0x200000),(11,1,1)] (fun x => {x with begun := true}))], [(3, en 0x0C .running [(8,2,0),(16,16,1),(32,12,9),(48,8,0x200000),(11,1,7)])]]

/-- The clauses of LeaseResults whose hypotheses hold. -/
def leaseResults1 (s : State) (e : Fin 4096) (xs : List (Fin 73728)) (res : MemRes) : List Nat :=
  (match s.entry e with
   | some x => (if x.state = .running ∧ x.reply = none ∧ x.away = false then
        (let p := x.pk 8 2
         let chans := bitsOf 96 (x.pk 32 12)
         let ys := xs.map (·.val)
         (if x.opcode = 0x0B then
           (if x.begun = false then
             (match firstFail [s.step3 x, s.step4 x, s.step5 x] with
              | some r => [0]
              | none => clause 1 (ys.length = x.pk 48 8 / 0x200000 ∧ ys.Nodup ∧ (ys.all (fun a => s.extLease a = none) = true)))
            else []) ++
           (if x.begun = true then
             clause 2 (chans.all (fun c => s.f GRN_STATE.MODE c = 1 ∧ s.chanMove c = .none) = true) ++
             clause 3 (chans.all (fun c => s.f GRN_STATE.MODE c = 1 ∧ s.chanMove c = .none) = false)
            else [])
          else []) ++
         (if x.opcode = 0x0C then
           (if x.begun = false then
             (match firstFail [s.step4 x, s.step5 { x with state := .held }] with
              | some r => [4]
              | none => clause 5 (ys.length = x.pk 48 8 / 0x200000 ∧ ys.Nodup ∧ (ys.all (fun a => (s.plot p).extents.contains a) = true)))
            else []) ++
           clause 6 (x.begun = true ∧ (chans.all (fun c => s.f GRN_STATE.MODE c = 0 ∧ s.chanMove c = .none) = true))
          else []))
       else [])
   | none => [7])

theorem test_hypotheses :
    leaseResults1 State.reset 0 [] .ok = [7] ∧
    leaseResults1 ((ls.map base : List (State)).getD 41 .reset) 3 [5, 9] .ok = [1] ∧
    leaseResults1 ((ls.map base : List (State)).getD 42 .reset) 3 [] .ok = [0] ∧
    leaseResults1 ((ls.map base : List (State)).getD 43 .reset) 3 [] .ok = [3] ∧
    leaseResults1 ((ls.map base : List (State)).getD 44 .reset) 3 [] .ok = [2] ∧
    leaseResults1 ((ls.map base : List (State)).getD 46 .reset) 3 [] .ok = [6] ∧
    leaseResults1 ((ls.map base : List (State)).getD 45 .reset) 3 [1] .ok = [5] ∧
    leaseResults1 ((ls.map base : List (State)).getD 47 .reset) 3 [] .ok = [4] := by
  decide +kernel

end ForLeaseResults

namespace ForLoopArmingResults

def pkt (op q : Nat) (f : List (Nat × Nat × Nat)) (flags : Nat := 0) (seq : Nat := 0): List Byte :=
  let base := leBytes 1 op ++ leBytes 1 flags ++ leBytes 2 0x77 ++ leBytes 4 seq ++ List.replicate 56 0
  f.foldl (fun b x => b.take x.1 ++ leBytes x.2.1 x.2.2 ++ b.drop (x.1 + x.2.1)) base
def en (op : Nat) (st : LState) (f : List (Nat × Nat × Nat)) (ch : Entry → Entry := id) (seq : Nat := 0) (q : Nat := 0): Entry :=
  ch { plot := 0, queue := q, seq := seq, tag := 0x77, opcode := op, packet := pkt op q f, order := seq + 10, state := st, since := some 100 }
def base (l : List (Nat × Entry)) (g : State → State := id) : State :=
  let s := (upAt 50000000).setOn DRL_Q_CFG.EN 0 true
  let s := (((s.setF DRL_Q_CFG.LOG2SIZE 0 6).setF DRL_Q_TAIL.COUNT 0 5).setF DRL_CR_BASE.ADDR 0 3).setF DRL_Q_BASE.ADDR 0 2
  let s := s.setPlot 0 { s.plot 0 with extents := [0, 1], channels := [0, 3], quota := some 9, rtdesc := 0x8000, binder := 3, streams := 4 }
  let s := { s with drill := { s.drill with ledger := l }, cores := [(0, { lease := some 0 })] }
  g s
def tmpl : List Byte := pkt 1 0 [(8,8,64),(16,8,5),(24,16,1),(40,1,3)] ++ [(64,4,0xFFFFFFFF),(72,4,1000000),(76,4,1000000),(80,4,500000),(84,1,2),(88,8,0x100)].foldl (fun (b : List Byte) (x : Nat × Nat × Nat) => b.take (x.1-64) ++ leBytes x.2.1 x.2.2 ++ b.drop (x.1 - 64 + x.2.1)) (List.replicate 64 0)
def hdr : List Byte := leBytes 4 0x4B534431 ++ leBytes 2 1 ++ List.replicate 58 0
def armE (st : LState := .running) (f : List (Nat × Nat × Nat) := []) (ch : Entry → Entry := id) : Entry := en 0x10 st ([(16,4,16666667),(20,4,10000000),(32,1,2)] ++ f) (fun x => ch {x with content := tmpl ++ hdr})
def fl : FrameLoop := { entry := 3, cores := [0], start := 40000000, c0 := 0, k0 := 0, k := 5 }
def lpp (x : FrameLoop) (l : List (Nat × Entry) := [(3, armE .running [] (fun x => {x with begun := true}))]) (g : State → State := id) : State :=
  g (((((base l).setF SOW_LOOP_PERIOD.NS 2 16666667).setF SOW_LOOP_DEADLINE.NS 2 10000000).setOn SOW_LOOP_CTL.ARMED 2 true).setLoop 2 x)
def ae := armE .running [] (fun x => {x with begun := true})
def yk (s : State) : State := (s.setOn YK_CFG.EN 0 true).setF YK_CFG.YLOOPS 0 4

/-- The clauses of LoopArmingResults whose hypotheses hold. -/
def loopArmingResults1 (s : State) (e : Fin 4096) : List Nat :=
  (match s.entry e with
   | some x => (if x.state = .running ∧ x.begun = false ∧ x.reply = none then
        (let t := s.setEntry e { x with begun := true }
         let l := x.pk 32 1
         (if x.opcode = 0x10 then
           (if x.pk 33 1 = 0 then
             (match t.armChecks { x with state := .held } with
              | some r => [0]
              | none => [1])
            else []) ++
           (if x.pk 33 1 = 1 then
             (match s.loopOwner l, s.loop l with
              | some p, some y => clause 2 (p ≠ x.plot) ++
                 clause 3 (p = x.plot)
              | _, _ => [4])
            else [])
          else []) ++
         (if x.opcode = 0x11 then
           clause 5 (s.loopOwner (x.pk 8 1) ≠ some x.plot) ++
           (if s.loopOwner (x.pk 8 1) = some x.plot then
             (match s.loop (x.pk 8 1) with
              | some y => [6]
              | none => [7])
            else [])
          else []))
       else [])
   | none => [8])

theorem test_hypotheses :
    loopArmingResults1 State.reset 3 = [8] ∧
    loopArmingResults1 (base [(3, armE)]) 3 = [1] ∧
    loopArmingResults1 (yk (base [(3, armE)])) 3 = [0] ∧
    loopArmingResults1 (base [(3, armE .running [(33,1,1)])]) 3 = [4] ∧
    loopArmingResults1 (lpp fl [(3, ae), (4, armE .running [(33,1,1)])]) 4 = [3] ∧
    loopArmingResults1 (lpp fl [(3, ae), (4, armE .running [(33,1,1)] (fun x => {x with plot := 3}))]) 4 = [2] ∧
    loopArmingResults1 (lpp fl [(3, ae), (4, en 0x11 .running [(8,1,2),(9,1,1)] (fun x => {x with content := leBytes 8 64 ++ leBytes 8 128}))]) 4 = [6] ∧
    loopArmingResults1 (lpp fl [(3, ae), (4, en 0x11 .running [(8,1,1),(9,1,1)])]) 4 = [5] := by
  decide +kernel

end ForLoopArmingResults

namespace ForFrameLifeResults

def pkt (op q : Nat) (f : List (Nat × Nat × Nat)) (flags : Nat := 0) (seq : Nat := 0): List Byte :=
  let base := leBytes 1 op ++ leBytes 1 flags ++ leBytes 2 0x77 ++ leBytes 4 seq ++ List.replicate 56 0
  f.foldl (fun b x => b.take x.1 ++ leBytes x.2.1 x.2.2 ++ b.drop (x.1 + x.2.1)) base
def en (op : Nat) (st : LState) (f : List (Nat × Nat × Nat)) (ch : Entry → Entry := id) (seq : Nat := 0) (q : Nat := 0): Entry :=
  ch { plot := 0, queue := q, seq := seq, tag := 0x77, opcode := op, packet := pkt op q f, order := seq + 10, state := st, since := some 100 }
def base (l : List (Nat × Entry)) (g : State → State := id) : State :=
  let s := (upAt 50000000).setOn DRL_Q_CFG.EN 0 true
  let s := (((s.setF DRL_Q_CFG.LOG2SIZE 0 6).setF DRL_Q_TAIL.COUNT 0 5).setF DRL_CR_BASE.ADDR 0 3).setF DRL_Q_BASE.ADDR 0 2
  let s := s.setPlot 0 { s.plot 0 with extents := [0, 1], channels := [0, 3], quota := some 9, rtdesc := 0x8000, binder := 3, streams := 4 }
  let s := { s with drill := { s.drill with ledger := l }, cores := [(0, { lease := some 0 })] }
  g s
def sowP : List (Nat × Nat × Nat) := [(8,8,64),(16,8,5),(24,16,1),(40,1,3),(44,4,10)]
def tmpl : List Byte := pkt 1 0 [(8,8,64),(16,8,5),(24,16,1),(40,1,3)] ++ [(64,4,0xFFFFFFFF),(72,4,1000000),(76,4,1000000),(80,4,500000),(84,1,2),(88,8,0x100)].foldl (fun (b : List Byte) (x : Nat × Nat × Nat) => b.take (x.1-64) ++ leBytes x.2.1 x.2.2 ++ b.drop (x.1 - 64 + x.2.1)) (List.replicate 64 0)
def hdr : List Byte := leBytes 4 0x4B534431 ++ leBytes 2 1 ++ List.replicate 58 0
def armE (st : LState := .running) (f : List (Nat × Nat × Nat) := []) (ch : Entry → Entry := id) : Entry := en 0x10 st ([(16,4,16666667),(20,4,10000000),(32,1,2)] ++ f) (fun x => ch {x with content := tmpl ++ hdr})
def fl : FrameLoop := { entry := 3, cores := [0], start := 40000000, c0 := 0, k0 := 0, k := 5 }
def lpp (x : FrameLoop) (l : List (Nat × Entry) := [(3, armE .running [] (fun x => {x with begun := true}))]) (g : State → State := id) : State :=
  g (((((base l).setF SOW_LOOP_PERIOD.NS 2 16666667).setF SOW_LOOP_DEADLINE.NS 2 10000000).setOn SOW_LOOP_CTL.ARMED 2 true).setLoop 2 x)
def ae := armE .running [] (fun x => {x with begun := true})
def sw : Entry := en 0x01 .running sowP (fun x => {x with begun := true, frame := some 2, sow := some { threads := [0,1] }}) 9
def yk (s : State) : State := (s.setOn YK_CFG.EN 0 true).setF YK_CFG.YLOOPS 0 4

/-- The clauses of FrameLifeResults whose hypotheses hold. -/
def frameLifeResults1 (s : State) (l : Fin 16) (e : Fin 4096) (res : MemRes) : List Nat :=
  (match s.loop l with
   | some x => (let t := s.template x
       let due := fun at' : Nat => s.loopDue l at' = true
       clause 0 (x.cause ≠ none ∨ x.waiting ≠ none ∨ ¬due (s.frameStart l x x.k)) ++
       clause 1 (x.cause = none ∧ x.waiting = none ∧ due (s.frameStart l x x.k)) ++
       (match x.waiting with
        | none => [2]
        | some k => (let late := before (s.frameLatest l t x k) (s.loopNow l)
            (match s.entry x.entry with
             | some a => (let stays := x.cause ≠ none ∨ s.entry e ≠ none ∨ s.mayRelease l t x k = false ∨ late = true
                 clause 3 (stays) ++
                 (if ¬stays then
                   (match State.sowWaits { s with res := res } a.plot with
                    | some u => [4]
                    | none => [5])
                  else []))
             | none => [6]) ++
            clause 7 (x.cause = none ∧ (late = true ∨ (s.inputReady t x k = true ∧ s.budgetOk l t x k = false))))))
   | none => [8])

/-- The clauses of FrameLifeResults whose hypotheses hold. -/
def frameLifeResults2 (s : State) (l : Fin 16) (res : MemRes) : List Nat :=
  (match s.loop l with
   | some x => (let t := s.template x
       let due := fun at' : Nat => s.loopDue l at' = true
       (match x.run with
        | none => [0]
        | some r => (match s.entry r.entry with
            | some y => (match y.sow with
                | some w => (let at' := (s.frameStart l x r.k + nsCounts (numAt t 80 4)) % 2 ^ 64
                    let quiet := numAt t 80 4 = 0 ∨ r.warned = true ∨ r.digesting = true ∨ w.cause ≠ none ∨ w.over s = true ∨ ¬due at'
                    let idle := r.digesting = true ∨ r.told = true ∨ ¬due (s.frameDeadline l x r.k)
                    clause 1 (quiet) ++
                    clause 2 (¬quiet) ++
                    (if x.owed = none then
                      clause 3 (idle) ++
                      clause 4 (¬idle ∧ w.cause = none ∧ w.over s = false)
                     else []))
                | none => [5])
            | none => [6]) ++
           clause 7 (r.digesting = false) ++
           (if r.digesting = true then
             (match State.readSheaf { s with res := res } (s.f SOW_LOOP_CTL.PLOT l) r.sheaf with
              | (.held, u) => [8]
              | (.fail, _) => [9]
              | (.regions regions, u) => [10])
            else [])))
   | none => [11])

theorem test_hypotheses :
    frameLifeResults1 (yk (lpp { fl with waiting := some 1, start := 30333333 , k := 2})) 2 3 .ok = [0, 3, 7] ∧
    frameLifeResults1 (lpp fl [(3, ae), (4, armE .running [(33,1,1)])]) 2 3 .ok = [1, 2] ∧
    frameLifeResults1 State.reset 2 3 .ok = [8] ∧
    frameLifeResults1 (lpp { fl with waiting := some 6 }) 2 4 .ok = [0, 5] ∧
    frameLifeResults2 (lpp { fl with run := some { entry := 4, k := 4, sheaf := [] } } [(3,ae), (4, sw)]) 2 .ok = [2, 4, 7] ∧
    frameLifeResults2 (lpp { fl with run := some { entry := 4, k := 4, sheaf := [(64, 100)], digesting := true } } [(3,ae), (4, sw)]) 2 .ok = [1, 3, 10] ∧
    frameLifeResults2 State.reset 2 .ok = [11] ∧
    frameLifeResults2 (lpp fl [(3, ae), (4, armE .running [(33,1,1)])]) 2 .ok = [0] ∧
    frameLifeResults2 (lpp { fl with run := some { entry := 4, k := 4, sheaf := [(64, 100)], digesting := true } } [(3,ae), (4, sw)]) 2 .uncorrectable = [1, 3, 9] := by
  decide +kernel

end ForFrameLifeResults

namespace ForStreamResults

def pkt (op q : Nat) (f : List (Nat × Nat × Nat)) (flags : Nat := 0) (seq : Nat := 0): List Byte :=
  let base := leBytes 1 op ++ leBytes 1 flags ++ leBytes 2 0x77 ++ leBytes 4 seq ++ List.replicate 56 0
  f.foldl (fun b x => b.take x.1 ++ leBytes x.2.1 x.2.2 ++ b.drop (x.1 + x.2.1)) base
def en (op : Nat) (st : LState) (f : List (Nat × Nat × Nat)) (ch : Entry → Entry := id) (seq : Nat := 0) (q : Nat := 0): Entry :=
  ch { plot := 0, queue := q, seq := seq, tag := 0x77, opcode := op, packet := pkt op q f, order := seq + 10, state := st, since := some 100 }
def base (l : List (Nat × Entry)) (g : State → State := id) : State :=
  let s := (upAt 50000000).setOn DRL_Q_CFG.EN 0 true
  let s := (((s.setF DRL_Q_CFG.LOG2SIZE 0 6).setF DRL_Q_TAIL.COUNT 0 5).setF DRL_CR_BASE.ADDR 0 3).setF DRL_Q_BASE.ADDR 0 2
  let s := s.setPlot 0 { s.plot 0 with extents := [0, 1], channels := [0, 3], quota := some 9, rtdesc := 0x8000, binder := 3, streams := 4 }
  let s := { s with drill := { s.drill with ledger := l }, cores := [(0, { lease := some 0 })] }
  g (s.setOn HST_LINK.DL_UP 0 true)
def str : Stream := { host := 0x4000000000001000, dev := 0x400, bytes := 64, elems := 4, commitAt := 0x3000 }
def so (dir : Bool) (y : Stream) (l : List (Nat × Entry) := []) (g : State → State := id) : State :=
  base l fun s => g ((((s.setStream 1 y).setOn HRW_S_STAT.OPEN 1 true).setOn HRW_S_STAT.DIR 1 dir).setF HRW_S_FEED.COUNT 1 3 |>.setF HRW_S_COMMIT.COUNT 1 1 |>.setF HRW_S_ACKED.COUNT 1 1)
def pau (s : State) : State := s.setOn HRW_S_STAT.PAUSED 1 true
def det (s : State) : State := (s.setF HST_ATTACH.STATE 0 1)
def op4 : Entry := en 4 .running [(8,1,0),(12,4,64),(16,8,2^62+0x1000),(24,8,0x400),(32,4,4),(40,8,0x3000)]
def cl : Entry := en 5 .running [(8,4,1)]
def rd (t : Nat) (u : HostUse) (s : State) : State := { s with host := { s.host with reads := put t ⟨0, 0x1000, 64, u⟩ s.host.reads } }

/-- The clauses of StreamResults whose hypotheses hold. -/
def streamResults1 (s : State) (e : Fin 4096) (n : Fin 2048) : List Nat :=
  (match s.entry e with
   | some x => (if x.state = .running ∧ x.begun = false ∧ x.reply = none then
        (let t := s.setEntry e { x with begun := true }
         (if x.opcode = 0x04 then
           (match firstFail [t.step3 x, t.step4 x], s.stream n with
            | some r, _ => [0]
            | none, some y => [1]
            | none, none => [2])
          else []) ++
         (if x.opcode = 0x05 then
           (match firstFail [t.step4 x, t.step5 x] with
            | some r => [3]
            | none => (if x.pk 8 4 = n.val then
                 (match s.stream n with
                  | none => [4]
                  | some y => (let busy := y.off ≠ 0 ∨ y.away = true ∨ y.flush = true ∨
                        (s.on HRW_S_STAT.DIR n = true ∧ s.f HRW_S_ACKED.COUNT n ≠ s.f HRW_S_COMMIT.COUNT n)
                      clause 5 (y.closing ≠ none) ++
                      (if y.closing = none then
                        clause 6 (s.on HRW_S_STAT.PAUSED n = true) ++
                        (if s.on HRW_S_STAT.PAUSED n = false then
                          clause 7 (busy) ++
                          clause 8 (¬busy)
                         else [])
                       else [])))
                else []))
          else []))
       else [])
   | none => [9])

/-- The clauses of StreamResults whose hypotheses hold. -/
def streamResults2 (s : State) (n : Fin 2048) (agent : Agent) (v : BitVec 32) : List Nat :=
  (let dir := s.on HRW_S_STAT.DIR n
   let paused := s.on HRW_S_STAT.PAUSED n
   let det := s.detached (s.streamPlot n)
   let reach : Bool := decide (s.acts agent = true ∧ s.on HRW_S_STAT.OPEN n = true) && (match agent with
     | .plot p => decide (p.val = 0 ∨ p.val = s.streamPlot n)
     | _ => decide (True))
   clause 0 (¬reach) ++
   (if reach then
     (match s.stream n with
      | none => [1]
      | some y => clause 2 (dir = true ∨ y.closing ≠ none ∨ det = true) ++
         clause 3 (dir = false ∧ y.closing = none ∧ det = false) ++
         clause 4 (paused = false ∨ det = true) ++
         clause 5 (paused = true ∧ det = false))
    else []))

/-- The clauses of StreamResults whose hypotheses hold. -/
def streamResults3 (s : State) (n : Fin 2048) (res : MemRes) : List Nat :=
  (let p := s.streamPlot n
   let dir := s.on HRW_S_STAT.DIR n
   let commit := s.f HRW_S_COMMIT.COUNT n
   (match s.stream n with
    | none => [0]
    | some y => (let off := commit % y.elems * y.bytes + y.off
        let v := if y.off = 0 ∧ s.loopStream n = false then { s with res := res, host := { s.host with served := n } }
          else { s with res := res }
        clause 1 (dir = false ∨ y.closing ≠ none) ++
        (if dir = true ∧ y.closing = none then
          (match State.dmaReadAll { s with res := res } p (y.dev + y.elems * y.bytes) 2 4 with
           | (.data b, u) => [2]
           | (_, u) => [3])
         else []) ++
        clause 4 (y.away = true ∨ s.on HRW_S_STAT.PAUSED n = true) ++
        (if y.away = false ∧ s.on HRW_S_STAT.PAUSED n = false then
          clause 5 (y.off = 0 ∧ s.mayMove n = false) ++
          (if (y.off ≠ 0 ∨ s.mayMove n = true) then
            (if dir = true then
              (match v.dmaRead p (y.dev + off) 64 with
               | (.data _, _) => clause 6 (y.bytes ≤ y.off + 64) ++
                  clause 7 (y.off + 64 < y.bytes)
               | (.held, u) => [8]
               | _ => [9])
             else []) ++
            (if dir = false then
              (match v.hostRead p (opAddr y.host + off) 64 (.element n y.off) with
               | some u => [10]
               | none => [11])
             else [])
           else [])
         else []) ++
        (match s.host.reads.find? fun r => (match r.2.use with | .flush k _ => k = n.val | _ => false) with
         | some (_, ⟨_, _, _, .flush _ c⟩) => [12]
         | _ => [13]))))

theorem test_hypotheses :
    streamResults1 State.reset 3 0 = [9] ∧
    streamResults1 (base [(3, op4)]) 3 0 = [2] ∧
    streamResults1 (base [(3, {op4 with plot := 3})]) 3 0 = [0] ∧
    streamResults1 (so true str [(3, cl)]) 3 1 = [8] ∧
    streamResults1 (so false {str with off := 64} [(3, cl)]) 3 1 = [7] ∧
    streamResults1 (so true str [(3, cl)] pau) 3 1 = [6] ∧
    streamResults1 (so true {str with closing := some 7} [(3, cl)]) 3 1 = [5] ∧
    streamResults1 (base [(3, cl)]) 3 0 = [3] ∧
    streamResults1 (so false str [(3, en 4 .running [])]) 3 1 = [1] ∧
    streamResults2 (so true str [(3, cl)]) 1 .drill 0 = [2, 4] ∧
    streamResults2 (so false str [] pau) 1 .drill 0 = [3, 5] ∧
    streamResults2 State.reset 0 .drill 0 = [0] ∧
    streamResults3 (so true str [(3, cl)]) 1 .ok = [2, 6, 13] ∧
    streamResults3 (so true {str with flush := true} [] (rd 1 (.flush 1 7))) 1 .uncorrectable = [3, 9, 12] ∧
    streamResults3 (so false str [(3, cl)]) 1 .ok = [1, 10, 13] ∧
    streamResults3 State.reset 0 .ok = [0] ∧
    streamResults3 (so true str [(3, cl)] pau) 1 .ok = [2, 4, 13] ∧
    streamResults3 (so true {str with closing := some 7} [(3, cl)]) 1 .ok = [1, 5, 13] ∧
    streamResults3 (so true {str with bytes := 256, off := 64}) 1 .ok = [2, 7, 13] := by
  decide +kernel

end ForStreamResults

namespace ForHostPortResults

def base (l : List (Nat × Entry)) (g : State → State := id) : State :=
  let s := (upAt 50000000).setOn DRL_Q_CFG.EN 0 true
  let s := (((s.setF DRL_Q_CFG.LOG2SIZE 0 6).setF DRL_Q_TAIL.COUNT 0 5).setF DRL_CR_BASE.ADDR 0 3).setF DRL_Q_BASE.ADDR 0 2
  let s := s.setPlot 0 { s.plot 0 with extents := [0, 1], channels := [0, 3], quota := some 9, rtdesc := 0x8000, binder := 3, streams := 4 }
  let s := { s with drill := { s.drill with ledger := l }, cores := [(0, { lease := some 0 })] }
  g (s.setOn HST_LINK.DL_UP 0 true)
def str : Stream := { host := 0x4000000000001000, dev := 0x400, bytes := 64, elems := 4, commitAt := 0x3000 }
def so (dir : Bool) (y : Stream) (l : List (Nat × Entry) := []) (g : State → State := id) : State :=
  base l fun s => g ((((s.setStream 1 y).setOn HRW_S_STAT.OPEN 1 true).setOn HRW_S_STAT.DIR 1 dir).setF HRW_S_FEED.COUNT 1 3 |>.setF HRW_S_COMMIT.COUNT 1 1 |>.setF HRW_S_ACKED.COUNT 1 1)
def rd (t : Nat) (u : HostUse) (s : State) : State := { s with host := { s.host with reads := put t ⟨0, 0x1000, 64, u⟩ s.host.reads } }

/-- The clauses of HostPortResults whose hypotheses hold. -/
def hostPortResults1 (s : State) (width : Fin 5) (rate : Fin 6) : List Nat :=
  (let up := s.live = true ∧ s.clk.rootHeld = false ∧ s.clk.perstLow = false ∧ s.clk.training = true
   clause 0 (¬up) ++
   clause 1 (up) ++
   clause 2 (s.on HST_LINK.DL_UP 0 = false) ++
   clause 3 (s.on HST_LINK.DL_UP 0 = true))

/-- The clauses of HostPortResults whose hypotheses hold. -/
def hostPortResults2 (s : State) (tag : Fin 1024) (data : Option (List (BitVec 8))) (res : MemRes) : List Nat :=
  (match find tag.val s.host.reads with
   | none => [0]
   | some r => (match data with
       | some b => [1]
       | none => [2]) ++
      [3])

/-- The clauses of HostPortResults whose hypotheses hold. -/
def hostPortResults3 (s : State) (p : Plot) (agent : Agent) : List Nat :=
  (let there := s.on HST_LINK.DL_UP 0 = true ∧
     ((s.released = true ∧ s.fnThere p = true) ∨ (s.recovering = true ∧ p.val = 0))
   let reach : Bool := decide (s.acts agent = true) && (match agent with
     | .plot q => decide (q.val = 0 ∨ q.val = p.val)
     | _ => decide (True))
   clause 0 (¬there) ++
   (if there then
     clause 1 ((s.fn p).master = false) ++
     clause 2 ((s.fn p).master = true) ++
     clause 3 ((s.fn p).d3hot = true) ++
     clause 4 ((s.fn p).d3hot = false) ++
     [5]
    else []) ++
   clause 6 (reach) ++
   clause 7 (¬reach))

/-- The clauses of HostPortResults whose hypotheses hold. -/
def hostPortResults4 (s : State) (p : Plot) (vec : Fin 256) : List Nat :=
  (let v := findD {} (vecKey p vec) s.vecs
   clause 0 (v.interval = false) ++
   (if v.interval = true then
     clause 1 (v.waiting = false) ++
     clause 2 (v.waiting = true)
    else []))

/-- The clauses of HostPortResults whose hypotheses hold. -/
def hostPortResults5 (s : State) (p : Plot) (off : BitVec 30) (size : Nat) : List Nat :=
  (let fits := (size = 4 ∨ size = 8) ∧ off.toNat % size = 0
   clause 0 (s.barReaches p = false ∨ fits) ++
   clause 1 (s.barReaches p = true ∧ ¬fits))

theorem test_hypotheses :
    hostPortResults1 State.reset 0 0 = [0, 2] ∧
    hostPortResults1 { base [] with clk := { porstHeld := false, porstLow := false, training := true, refclk := true, rootHeld := false, perstLow := false } } 0 0 = [1, 3] ∧
    hostPortResults2 (so true {str with flush := true} [] (rd 1 (.flush 1 7))) 1 ((none :: ([[], List.replicate 64 5] : List ((List (BitVec 8)))).map some : List (Option (List (BitVec 8)))).getD 0 none) .ok = [2, 3] ∧
    hostPortResults2 State.reset 0 ((none :: ([[], List.replicate 64 5] : List ((List (BitVec 8)))).map some : List (Option (List (BitVec 8)))).getD 0 none) .ok = [0] ∧
    hostPortResults2 (so true {str with flush := true} [] (rd 1 (.flush 1 7))) 1 ((none :: ([[], List.replicate 64 5] : List ((List (BitVec 8)))).map some : List (Option (List (BitVec 8)))).getD 1 none) .ok = [1, 3] ∧
    hostPortResults3 (base []) 0 .drill = [1, 4, 5, 6] ∧
    hostPortResults3 State.reset 0 .drill = [0, 7] ∧
    hostPortResults3 (base [] (fun s => s.setFn 0 {s.fn 0 with d3hot := true, master := false})) 0 .drill = [1, 3, 5, 6] ∧
    hostPortResults3 (base [] (fun s => s.setFn 0 {s.fn 0 with d3hot := false, master := true})) 0 .drill = [2, 4, 5, 6] ∧
    hostPortResults4 State.reset 0 0 = [0] ∧
    hostPortResults4 { base [] with vecs := [(vecKey 0 1, { interval := true })] } 0 1 = [1] ∧
    hostPortResults4 { base [] with vecs := [(vecKey 0 1, { interval := true, waiting := true })] } 0 1 = [2] ∧
    hostPortResults5 State.reset 0 0 0 = [0] ∧
    hostPortResults5 (base []) 0 0 0 = [1] := by
  decide +kernel

end ForHostPortResults

namespace ForReattachResults

def pkt (op q : Nat) (f : List (Nat × Nat × Nat)) (flags : Nat := 0) (seq : Nat := 0): List Byte :=
  let base := leBytes 1 op ++ leBytes 1 flags ++ leBytes 2 0x77 ++ leBytes 4 seq ++ List.replicate 56 0
  f.foldl (fun b x => b.take x.1 ++ leBytes x.2.1 x.2.2 ++ b.drop (x.1 + x.2.1)) base
def en (op : Nat) (st : LState) (f : List (Nat × Nat × Nat)) (ch : Entry → Entry := id) (seq : Nat := 0) (q : Nat := 0): Entry :=
  ch { plot := 0, queue := q, seq := seq, tag := 0x77, opcode := op, packet := pkt op q f, order := seq + 10, state := st, since := some 100 }
def base (l : List (Nat × Entry)) (g : State → State := id) : State :=
  let s := (upAt 50000000).setOn DRL_Q_CFG.EN 0 true
  let s := (((s.setF DRL_Q_CFG.LOG2SIZE 0 6).setF DRL_Q_TAIL.COUNT 0 5).setF DRL_CR_BASE.ADDR 0 3).setF DRL_Q_BASE.ADDR 0 2
  let s := s.setPlot 0 { s.plot 0 with extents := [0, 1], channels := [0, 3], quota := some 9, rtdesc := 0x8000, binder := 3, streams := 4 }
  let s := { s with drill := { s.drill with ledger := l }, cores := [(0, { lease := some 0 })] }
  g (s.setOn HST_LINK.DL_UP 0 true)
def str : Stream := { host := 0x4000000000001000, dev := 0x400, bytes := 64, elems := 4, commitAt := 0x3000 }
def so (dir : Bool) (y : Stream) (l : List (Nat × Entry) := []) (g : State → State := id) : State :=
  base l fun s => g ((((s.setStream 1 y).setOn HRW_S_STAT.OPEN 1 true).setOn HRW_S_STAT.DIR 1 dir).setF HRW_S_FEED.COUNT 1 3 |>.setF HRW_S_COMMIT.COUNT 1 1 |>.setF HRW_S_ACKED.COUNT 1 1)
def det (s : State) : State := (s.setF HST_ATTACH.STATE 0 1)
def rb (k : Bool) (i b c : Nat) (s : State) : State := ((s.setOn HST_RB_SEL.KIND 0 k).setF HST_RB_SEL.INDEX 0 i).setF HST_RB_BASE.ADDR 0 b |>.setF HST_RB_CRBASE.ADDR 0 c
def HQ (s : State) : State := s.setF DRL_Q_BASE.ADDR 0 (2^50) |>.setF DRL_CR_BASE.ADDR 0 (2^50)
def rc (n : Nat) : Entry := en 0x0F .running [(8,4,n)]
def rep (t : Nat) : Entry := en 0x0F .running [] (fun x => {x with reply := some {status := stLease, detail := dtOwned}, since := some t})
def tk (s : State) : State := s.setFn 0 { s.fn 0 with token := some 9 }

/-- The clauses of ReattachResults whose hypotheses hold. -/
def reattachResults1 (s : State) (agent : Agent) (p : Plot) : List Nat :=
  (let reach : Bool := decide (s.acts agent = true) && (match agent with
     | .plot q => decide (q.val = 0 ∨ q.val = p.val)
     | _ => decide (True))
   let i := s.f HST_RB_SEL.INDEX p
   let q := 8 * p.val + i
   let base := s.f HST_RB_BASE.ADDR p * 4096
   let cr := s.f HST_RB_CRBASE.ADDR p * 4096
   let kind := s.on HST_RB_SEL.KIND p
   clause 0 (¬reach) ++
   (if reach then
     clause 1 (s.detached p = false ∨ s.on HST_RB_CTL.BUSY p = true) ++
     (if s.detached p = true ∧ s.on HST_RB_CTL.BUSY p = false then
       (if kind = true then
         (match s.stream i with
          | none => [2]
          | some y => [3])
        else []) ++
       (if kind = false then
         (let bad := 8 ≤ i ∨ s.on DRL_Q_CFG.EN q = false ∨ s.qHost q = false ∨ 2 ≤ opSpace base ∨ 2 ≤ opSpace cr
          clause 4 (bad) ++
          clause 5 (¬bad))
        else [])
      else [])
    else []) ++
   (match (s.fn p).rebasing with
    | none => [6]
    | some k => [7]))

/-- The clauses of ReattachResults whose hypotheses hold. -/
def reattachResults2 (s : State) (e : Fin 4096) : List Nat :=
  (match s.entry e with
   | some x => (if x.opcode = 0x0F then
        (let p := x.plot
         let n := x.pk 8 4
         let waits := s.detached p = true ∧ s.f HST_ATTACH.REBASE p ≠ 0
         (if x.state = .running ∧ x.begun = false ∧ x.reply = none then
           (match (s.fn p).token with
            | none => clause 0 (n ≠ 0) ++
               (if n = 0 then
                 clause 1 (waits) ++
                 clause 2 (¬waits)
                else [])
            | some k => clause 3 (n ≠ k) ++
               (if n = k then
                 clause 4 (waits) ++
                 clause 5 (¬waits)
                else []))
          else []) ++
         (if x.frame = none ∧ x.state = .running then
           (match x.reply, x.since with
            | some y, some at' => (if y.detail = dtOwned then
                 clause 6 (s.since at' < 1000000) ++
                 clause 7 (1000000 ≤ s.since at' ∧ x.target = none)
                else [])
            | _, _ => [8])
          else []))
       else [])
   | none => [9])

theorem test_hypotheses :
    reattachResults1 State.reset .drill 0 = [0, 6] ∧
    reattachResults1 (base [] (det ∘ fun s => s.setFn 0 {s.fn 0 with master := true, rebasing := some 3})) .drill 0 = [4, 7] ∧
    reattachResults1 up .drill 0 = [1, 6] ∧
    reattachResults1 (so true str [] (det ∘ rb true 1 (2^50+5) 0)) .drill 0 = [3, 6] ∧
    reattachResults1 (so true str [] (det ∘ rb true 0 (2^50+5) 0)) .drill 0 = [2, 6] ∧
    reattachResults1 (base [] (det ∘ HQ ∘ rb false 0 (2^50+5) (2^50+9))) .drill 0 = [5, 6] ∧
    reattachResults2 (base [(3, rc 0)]) 3 = [2, 8] ∧
    reattachResults2 State.reset 3 = [9] ∧
    reattachResults2 (base [(3, rc 5)]) 3 = [0, 8] ∧
    reattachResults2 (base [(3, rc 9)] tk) 3 = [5, 8] ∧
    reattachResults2 (base [(3, rc 8)] tk) 3 = [3, 8] ∧
    reattachResults2 (base [(3, rc 0)] (fun s => (det s).setF HST_ATTACH.REBASE 0 1)) 3 = [1, 8] ∧
    reattachResults2 (base [(3, rc 9)] (fun s => (det (tk s)).setF HST_ATTACH.REBASE 0 1)) 3 = [4, 8] ∧
    reattachResults2 (base [(3, rep 49999999)]) 3 = [6] ∧
    reattachResults2 (base [(3, rep 5)]) 3 = [7] := by
  decide +kernel

end ForReattachResults

namespace ForLinkLayerResults

def pw (f : List (Nat × Nat × Nat)) (n : Nat := 64) : List Byte :=
  f.foldl (fun b x => b.take x.1 ++ leBytes x.2.1 x.2.2 ++ b.drop (x.1 + x.2.1)) (List.replicate n 0)
def yb : State :=
  let s := (upAt 50000000).setOn YK_CFG.EN 0 true
  let s := (s.setLinkState 6 2).setYs ysPaired
  let s := (((s.setF YK_HB_SLACK.US 0 500).setF YK_XQ_CFG.LOG2SIZE 0 4).setF YK_CFG.AGREE 0 100)
  { s with boot := { s.boot with ykl := (1, 2) } }
def lk (f : LinkRec → LinkRec) (s : State) : State := s.setLink 6 (f (s.link 6))
def inb (m : List Byte) (s : State) : State := lk (fun l => {l with inbox := [m, pw [(0,1,2)] 32]}) s
def types : List (Nat) := [1,2,3,4,5,6,7,8,9,10,11,12]
def fl (ack : Nat := 0) (fseq : Nat := 1) (fg : Nat := 0) (rx : Nat := 0) : List Byte := flitBytes fseq ack fg rx 8 (pw [(0,1,2),(1,1,2)] 32 ++ pw [(0,1,0xB),(1,1,9)] 32) [0,0,0,0]

/-- The clauses of LinkLayerResults whose hypotheses hold. -/
def linkLayerResults1 (s : State) (k : Fin 7) (lane : Fin 9) : List Nat :=
  (let l := s.link k
   clause 0 (s.flows k = false) ++
   clause 1 (s.flows k = true) ++
   clause 2 (s.flows k = false ∨ laneCount k ≤ lane.val ∨ l.rxFailed.testBit lane = true) ++
   clause 3 (s.flows k = true ∧ lane.val < laneCount k ∧ l.rxFailed.testBit lane = false))

/-- The clauses of LinkLayerResults whose hypotheses hold. -/
def linkLayerResults2 (s : State) (k : Fin 7) (b : List Byte) : List Nat :=
  (let l := s.link k
   let good := b.length = 640 ∧ numAt b 636 4 = crc32c (b.take 636) ∧ numAt b 7 1 = 0 ∧ numAt b 4 1 < 4 ∧
     (k.val = 6 → numAt b 632 4 = 0)
   let idle := (numAt b 4 1).testBit 1
   let next := numAt b 0 2 = (l.rxSeq + 1) % 2 ^ 16
   clause 0 (s.flows k = false) ++
   (if s.flows k = true then
     clause 1 (¬good) ++
     (if good then
       clause 2 (l.out = []) ++
       clause 3 (idle = true ∨ ¬next) ++
       clause 4 (idle = false ∧ next) ++
       clause 5 (1 ≤ numAt b 5 1 ∧ numAt b 5 1 ≤ laneCount k)
      else [])
    else []))

/-- The clauses of LinkLayerResults whose hypotheses hold. -/
def linkLayerResults3 (s : State) (k : Fin 7) : List Nat :=
  (match (s.link k).inbox with
   | [] => [0]
   | m :: r => (match s.takeMsg k (numAt m 0 1) with
       | some (m', u) => [1] ++
          (([6, 2] : List (Fin 7)).flatMap fun (j : Fin 7) => clause 2 (j ≠ k))
       | none => [3]))

theorem test_hypotheses :
    linkLayerResults1 State.reset 6 0 = [0, 2] ∧
    linkLayerResults1 yb 6 0 = [1, 3] ∧
    linkLayerResults2 yb 6 (fl 0 1 0 3) = [2, 4, 5] ∧
    linkLayerResults2 State.reset 6 [] = [0] ∧
    linkLayerResults2 yb 6 [] = [1] ∧
    linkLayerResults2 yb 6 (fl 2 2) = [2, 3] ∧
    linkLayerResults3 ((types.map (fun t => inb (pw [(0,1,t)]) yb) : List (State)).getD 0 .reset) 6 = [1, 2] ∧
    linkLayerResults3 State.reset 6 = [0] := by
  decide +kernel

end ForLinkLayerResults

namespace ForYokeLinkResults

def pw (f : List (Nat × Nat × Nat)) (n : Nat := 64) : List Byte :=
  f.foldl (fun b x => b.take x.1 ++ leBytes x.2.1 x.2.2 ++ b.drop (x.1 + x.2.1)) (List.replicate n 0)
def yb : State :=
  let s := (upAt 50000000).setOn YK_CFG.EN 0 true
  let s := (s.setLinkState 6 2).setYs ysPaired
  let s := (((s.setF YK_HB_SLACK.US 0 500).setF YK_XQ_CFG.LOG2SIZE 0 4).setF YK_CFG.AGREE 0 100)
  { s with boot := { s.boot with ykl := (1, 2) } }
def lk (f : LinkRec → LinkRec) (s : State) : State := s.setLink 6 (f (s.link 6))
def inb (m : List Byte) (s : State) : State := lk (fun l => {l with inbox := [m, pw [(0,1,2)] 32]}) s
def ym (f : Yoke → Yoke) (s : State) : State := s.mapYoke f
def ys' (n : Nat) (s : State) : State := s.setYs n
def tv (s : State) : State := s.setOn YK_STATUS.TVALID 0 true
def types : List (Nat) := [1,2,3,4,5,6,7,8,9,10,11,12]

/-- The clauses of YokeLinkResults whose hypotheses hold. -/
def yokeLinkResults1 (s : State) (res : MemRes) : List Nat :=
  ([1, 2, 3, 4, 5, 6, 7, 8, 9, 0xA, 0xB, 0xC].flatMap fun type =>
    (match (s.link 6).inbox with
     | [] => [0]
     | m :: r => clause 1 (numAt m 0 1 ≠ type) ++
        clause 2 (numAt m 0 1 = type ∧ s.ykAlive = false)))

/-- The clauses of YokeLinkResults whose hypotheses hold. -/
def yokeLinkResults2 (s : State) (agent : Agent) (en : Bool) (agree : BitVec 10) (loops : BitVec 16) : List Nat :=
  (let acts := s.acts agent = true
   let may : Bool := (match agent with
     | .plot p => decide (p.val = 0)
     | _ => decide (True))
   clause 0 (¬acts) ++
   (if acts then
     clause 1 (¬may) ++
     (if may then
       [2] ++
       clause 3 (s.ykAlive = false) ++
       clause 4 (s.ykAlive = true)
      else [])
    else []))

/-- The clauses of YokeLinkResults whose hypotheses hold. -/
def yokeLinkResults3 (s : State) : List Nat :=
  (let l := s.link 6
   let tx := widthFor (9 - countBits 9 l.txFailed)
   let rx := widthFor (9 - countBits 9 l.rxFailed)
   clause 0 (s.linkState 6 ≠ 1 ∨ s.on YK_CFG.EN 0 = false ∨ tx = 0 ∨ rx = 0) ++
   clause 1 (s.linkState 6 = 1 ∧ s.on YK_CFG.EN 0 = true ∧ tx ≠ 0 ∧ rx ≠ 0) ++
   clause 2 (s.linkState 6 ≠ 2) ++
   clause 3 (s.linkState 6 = 2) ++
   (let due : Bool := (match s.yoke.timeSent with
      | some t => decide (10000 ≤ s.since t)
      | none => decide (True))
    clause 4 (¬(s.ykAlive = true ∧ s.linkState 6 = 2 ∧ due)) ++
    clause 5 (s.ykAlive = true ∧ s.linkState 6 = 2 ∧ due) ++
    clause 6 (s.ykAlive = false ∨ s.on YK_STATUS.TVALID 0 = false ∨ s.ykNow < s.hbDue s.yoke.hbNext) ++
    clause 7 (s.ykAlive = true ∧ s.on YK_STATUS.TVALID 0 = true ∧ s.hbDue s.yoke.hbNext ≤ s.ykNow) ++
    (match s.yoke.judge with
     | none => [8]
     | some n => (let judged := (s.ys = ysPaired ∨ s.ys = ysRejoin) ∧ s.hbDeadline n ≤ s.ykNow
         clause 9 (¬judged) ++
         clause 10 (judged))))) ++
  (match (s.link 6).inbox with
   | [] => [11]
   | m :: r => (if s.ykAlive = true then
        (let same := numAt m 6 1 = 1 ↔ s.isLead = true
         let pairs := s.isLead = false ∧ (s.ys = ysAlone ∨ (s.ys = ysRejoin ∧ s.yoke.rejoin = true))
         (if numAt m 0 1 = 1 then
           clause 12 (numAt m 4 1 ≠ s.boot.ykl.1) ++
           (if numAt m 4 1 = s.boot.ykl.1 then
             clause 13 (same) ++
             clause 14 (¬same)
            else [])
          else []) ++
         clause 15 (numAt m 0 1 = 2) ++
         clause 16 (numAt m 0 1 = 3) ++
         (if numAt m 0 1 = 0xC then
           clause 17 (¬pairs) ++
           clause 18 (pairs)
          else []))
       else []))

theorem test_hypotheses :
    yokeLinkResults1 ((types.map (fun t => inb (pw [(0,1,t)]) (ys' 5 yb)) : List (State)).getD 0 .reset) .ok = [2, 1, 1, 1, 1, 1, 1, 1, 1, 1, 1, 1] ∧
    yokeLinkResults1 State.reset .ok = [0, 0, 0, 0, 0, 0, 0, 0, 0, 0, 0, 0] ∧
    yokeLinkResults2 up .drill false 0 4 = [2, 3] ∧
    yokeLinkResults2 State.reset .drill false 0 4 = [0] ∧
    yokeLinkResults2 up (.plot 3) false 0 4 = [1] ∧
    yokeLinkResults2 yb .drill false 0 4 = [2, 4] ∧
    yokeLinkResults3 State.reset = [0, 2, 4, 6, 8, 11] ∧
    yokeLinkResults3 ((types.map (fun t => inb (pw [(0,1,t)]) yb) : List (State)).getD 0 .reset) = [0, 3, 5, 6, 8, 12] ∧
    yokeLinkResults3 ((types.map (fun t => inb (pw [(0,1,t)]) yb) : List (State)).getD 1 .reset) = [0, 3, 5, 6, 8, 15] ∧
    yokeLinkResults3 ((types.map (fun t => inb (pw [(0,1,t)]) yb) : List (State)).getD 2 .reset) = [0, 3, 5, 6, 8, 16] ∧
    yokeLinkResults3 ((types.map (fun t => inb (pw [(0,1,t)]) yb) : List (State)).getD 11 .reset) = [0, 3, 5, 6, 8, 17] ∧
    yokeLinkResults3 (yb.setLinkState 6 1) = [1, 2, 4, 6, 8, 11] ∧
    yokeLinkResults3 (inb (pw [(0,1,1),(4,1,1),(6,1,1),(8,4,77)]) yb) = [0, 3, 5, 6, 8, 14] ∧
    yokeLinkResults3 (inb (pw [(0,1,1),(4,1,1),(6,1,0),(8,4,77)]) yb) = [0, 3, 5, 6, 8, 13] ∧
    yokeLinkResults3 (inb (pw [(0,1,12),(8,8,99)]) (ys' 1 yb)) = [0, 3, 5, 6, 8, 18] ∧
    yokeLinkResults3 (tv (ym (fun y => {y with hbNext := 119}) yb)) = [0, 3, 5, 7, 8, 11] ∧
    yokeLinkResults3 (ym (fun y => {y with judge := some 119, hbSeen := true}) (yb.setF YK_HB_LAST.N 0 119)) = [0, 3, 5, 6, 10, 11] ∧
    yokeLinkResults3 (ym (fun y => {y with judge := some 121}) yb) = [0, 3, 5, 6, 9, 11] := by
  decide +kernel

end ForYokeLinkResults

namespace ForYokeTransferAndAgreementResults

def pw (f : List (Nat × Nat × Nat)) (n : Nat := 64) : List Byte :=
  f.foldl (fun b x => b.take x.1 ++ leBytes x.2.1 x.2.2 ++ b.drop (x.1 + x.2.1)) (List.replicate n 0)
def yb : State :=
  let s := (upAt 50000000).setOn YK_CFG.EN 0 true
  let s := (s.setLinkState 6 2).setYs ysPaired
  let s := (((s.setF YK_HB_SLACK.US 0 500).setF YK_XQ_CFG.LOG2SIZE 0 4).setF YK_CFG.AGREE 0 100)
  { s with boot := { s.boot with ykl := (1, 2) } }
def lk (f : LinkRec → LinkRec) (s : State) : State := s.setLink 6 (f (s.link 6))
def inb (m : List Byte) (s : State) : State := lk (fun l => {l with inbox := [m, pw [(0,1,2)] 32]}) s
def ym (f : Yoke → Yoke) (s : State) : State := s.mapYoke f
def lp2 (s : State) : State := ((((s.setF SOW_LOOP_PERIOD.NS 2 16666667).setF SOW_LOOP_DEADLINE.NS 2 10000000).setOn SOW_LOOP_CTL.ARMED 2 true).setLoop 2 { entry := 3, cores := [0], start := 40000000, c0 := 0, k0 := 0, k := 5 }).setF YK_CFG.YLOOPS 0 4
def arms (s : State) : State := ym (fun y => {y with arms := [(2, {armed := true, period := 16666667, deadline := 10000000, start := 40000000})], tpair := some 1000}) (lp2 s)
def frm (f : YkFrame) (s : State) : State := ym (fun y => {y with frames := [f]}) s
def types : List (Nat) := [1,2,3,4,5,6,7,8,9,10,11,12]
def xr (o : List (Nat × Nat × Nat)) : List Byte := pw ([(0,1,8),(1,1,2),(4,4,7)] ++ o) 32
def xd (o : List (Nat × Nat × Nat)) : List Byte := pw ([(0,1,9),(1,1,33),(4,4,7),(16,8,0x123456789)] ++ o) 528

/-- The clauses of YokeTransferAndAgreementResults whose hypotheses hold. -/
def yokeTransferAndAgreementResults1 (s : State) (agent : Agent) (tail : BitVec 32) : List Nat :=
  (let acts := s.acts agent = true
   let may : Bool := (match agent with
     | .plot p => decide (p.val = 0)
     | _ => decide (True))
   let ahead := modDiff 32 tail.toNat (s.f YK_XQ_HEAD.COUNT 0)
   let size := 2 ^ s.f YK_XQ_CFG.LOG2SIZE 0
   clause 0 (¬acts) ++
   (if acts then
     clause 1 (¬may) ++
     (if may then
       clause 2 (size < ahead) ++
       clause 3 (ahead ≤ size) ++
       clause 4 (s.on YK_XQ_CFG.EN 0 = false) ++
       clause 5 (s.on YK_XQ_CFG.EN 0 = true)
      else [])
    else []))

/-- The clauses of YokeTransferAndAgreementResults whose hypotheses hold. -/
def yokeTransferAndAgreementResults2 (s : State) (res : MemRes) : List Nat :=
  (match (s.link 6).inbox with
   | [] => [0]
   | m :: r => (if s.ykAlive = true then
        (let t := s.setLink 6 { s.link 6 with inbox := r }
         let op := numAt m 2 1
         let id := numAt m 4 4
         let len := numAt m 8 4
         let dst := numAt m 16 8
         let copy := op = 1 ∧ 64 ≤ len ∧ len ≤ 2 ^ 24 ∧ len % 64 = 0 ∧ dst % 64 = 0 ∧ dst + len ≤ granarySpan
         let word := op = 2 ∧ len = 8 ∧ dst % 8 = 0 ∧ dst + 8 ≤ granarySpan
         (if numAt m 0 1 = 8 then
           clause 1 (s.yoke.done.contains id = true) ++
           (if s.yoke.done.contains id = false then
             clause 2 (copy) ++
             clause 3 (word) ++
             clause 4 (¬copy ∧ ¬word)
            else [])
          else []) ++
         (if numAt m 0 1 = 9 then
           (match s.yoke.incoming with
            | none => [5]
            | some w => clause 6 (numAt m 4 4 ≠ w.id ∨ numAt m 8 4 ≠ w.got) ++
               (if numAt m 4 4 = w.id ∧ numAt m 8 4 = w.got then
                 (let n := min 512 (w.len - w.got)
                  (match State.writeNormal { t with res := res } (w.dst + w.got) 2 9 ((m.drop 16).take n) with
                   | (ok, u) => clause 7 (w.got + n < w.len) ++
                      (if w.len ≤ w.got + n then
                        clause 8 ((w.ok && ok) = true) ++
                        clause 9 ((w.ok && ok) = false)
                       else [])))
                else []))
          else []) ++
         (if numAt m 0 1 = 0xA ∧ s.xqRuns = false then
           (match s.yoke.xq with
            | [] => [10]
            | [x] => (if x.done = none then
                 clause 11 (x.id ≠ some id) ++
                 clause 12 (x.id = some id)
                else [])
            | _ => [13])
          else []) ++
         clause 14 (numAt m 0 1 = 0xB))
       else []))

/-- The clauses of YokeTransferAndAgreementResults whose hypotheses hold. -/
def yokeTransferAndAgreementResults3 (s : State) : List Nat :=
  (match (s.link 6).inbox with
   | [] => [0]
   | m :: r => (if s.ykAlive = true then
        (let l := numAt m 2 1
         let k := numAt m 4 4
         let f := s.ykFrame l k
         let late : Bool := (match f.start with
           | some st => decide (before (s.agreeAt l st) s.ykNow = true ∧ s.pairedSince st = true ∧ s.armsAgree l = true)
           | none => decide (False))
         (if numAt m 0 1 = 4 then
           clause 1 (16 ≤ l) ++
           clause 2 (l < 16)
          else []) ++
         (if numAt m 0 1 = 5 then
           clause 3 (16 ≤ l) ++
           (if l < 16 then
             clause 4 (s.isDecided l k = true) ++
             (if s.isDecided l k = false then
               clause 5 (late) ++
               clause 6 (¬late)
              else [])
            else [])
          else []) ++
         (if numAt m 0 1 = 6 then
           clause 7 (16 ≤ l ∨ s.isDecided l k = true) ++
           clause 8 (l < 16 ∧ s.isDecided l k = false)
          else []) ++
         (if numAt m 0 1 = 7 then
           (match s.yoke.hashes.find? (fun x => x.1 = (l, k)) with
            | none => [9]
            | some a => clause 10 (a.2 = numAt m 8 8) ++
               clause 11 (a.2 ≠ numAt m 8 8))
          else []))
       else []))

/-- The clauses of YokeTransferAndAgreementResults whose hypotheses hold. -/
def yokeTransferAndAgreementResults4 (s : State) (l : Fin 16) (k : BitVec 32) : List Nat :=
  (match s.yoke.frames.find? (fun f => f.loop = l.val && f.k = k.toNat) with
   | none => [0]
   | some f => (match f.start with
       | none => [1]
       | some st => [2]))

/-- The clauses of YokeTransferAndAgreementResults whose hypotheses hold. -/
def yokeTransferAndAgreementResults5 (s : State) (f : YkFrame) (due : Bool) : List Nat :=
  (match f.start, f.loc, f.far with
   | some st, some a, some b => clause 0 (s.pairedSince st = true ∧ s.armsAgree f.loop = true ∧ before (s.agreeAt f.loop st) s.ykNow = false)
   | _, _, _ => [1])

theorem test_hypotheses :
    yokeTransferAndAgreementResults1 up .drill 0 = [3, 4] ∧
    yokeTransferAndAgreementResults1 (yb.setOn YK_XQ_CFG.EN 0 true) .drill 64 = [2, 5] ∧
    yokeTransferAndAgreementResults1 State.reset .drill 0 = [0] ∧
    yokeTransferAndAgreementResults1 up (.plot 3) 0 = [1] ∧
    yokeTransferAndAgreementResults2 State.reset .ok = [0] ∧
    yokeTransferAndAgreementResults2 ((types.map (fun t => inb (pw [(0,1,t)]) yb) : List (State)).getD 7 .reset) .ok = [4] ∧
    yokeTransferAndAgreementResults2 ((types.map (fun t => inb (pw [(0,1,t)]) yb) : List (State)).getD 8 .reset) .ok = [5] ∧
    yokeTransferAndAgreementResults2 ((types.map (fun t => inb (pw [(0,1,t)]) yb) : List (State)).getD 9 .reset) .ok = [10] ∧
    yokeTransferAndAgreementResults2 ((types.map (fun t => inb (pw [(0,1,t)]) yb) : List (State)).getD 10 .reset) .ok = [14] ∧
    yokeTransferAndAgreementResults2 (inb (xr [(2,1,1),(8,4,128),(16,8,64)]) yb) .ok = [2] ∧
    yokeTransferAndAgreementResults2 (inb (xr [(2,1,2),(8,4,8),(16,8,64),(24,8,0x12345)]) yb) .ok = [3] ∧
    yokeTransferAndAgreementResults2 (inb (xr [(2,1,1),(8,4,128),(16,8,64)]) (ym (fun y => {y with done := [7]}) yb)) .ok = [1] ∧
    yokeTransferAndAgreementResults2 (inb (xd []) (ym (fun y => {y with incoming := some ⟨7, 128, 64, 0, true⟩}) yb)) .ok = [8] ∧
    yokeTransferAndAgreementResults2 (inb (xd []) (ym (fun y => {y with incoming := some ⟨7, 1024, 64, 0, true⟩}) yb)) .ok = [7] ∧
    yokeTransferAndAgreementResults2 (inb (xd [(8,4,512)]) (ym (fun y => {y with incoming := some ⟨7, 1024, 64, 512, false⟩}) yb)) .ok = [9] ∧
    yokeTransferAndAgreementResults2 (inb (xd [(8,4,512)]) (ym (fun y => {y with incoming := some ⟨7, 1024, 64, 0, false⟩}) yb)) .ok = [6] ∧
    yokeTransferAndAgreementResults2 (inb (pw [(0,1,10),(4,4,7)]) (ym (fun y => {y with xq := [⟨3, some 7, none⟩]}) yb)) .ok = [12] ∧
    yokeTransferAndAgreementResults2 (inb (pw [(0,1,10),(4,4,8)]) (ym (fun y => {y with xq := [⟨3, some 7, none⟩]}) yb)) .ok = [11] ∧
    yokeTransferAndAgreementResults3 State.reset = [0] ∧
    yokeTransferAndAgreementResults3 ((types.map (fun t => inb (pw [(0,1,t)]) yb) : List (State)).getD 3 .reset) = [2] ∧
    yokeTransferAndAgreementResults3 ((types.map (fun t => inb (pw [(0,1,t)]) yb) : List (State)).getD 4 .reset) = [6] ∧
    yokeTransferAndAgreementResults3 ((types.map (fun t => inb (pw [(0,1,t)]) yb) : List (State)).getD 5 .reset) = [8] ∧
    yokeTransferAndAgreementResults3 ((types.map (fun t => inb (pw [(0,1,t)]) yb) : List (State)).getD 6 .reset) = [9] ∧
    yokeTransferAndAgreementResults3 (inb (pw [(0,1,4),(2,1,17)]) yb) = [1] ∧
    yokeTransferAndAgreementResults3 (inb (pw [(0,1,5),(2,1,17)]) yb) = [3] ∧
    yokeTransferAndAgreementResults3 (inb (pw [(0,1,5),(2,1,2),(4,4,6),(8,8,9),(16,4,64)]) (frm {loop := 2, k := 6, start := some 40000000} (arms yb))) = [5] ∧
    yokeTransferAndAgreementResults3 (inb (pw [(0,1,5),(2,1,2),(4,4,6),(8,8,9),(16,4,64)]) (ym (fun y => {y with decided := [(2,[6])]}) (arms yb))) = [4] ∧
    yokeTransferAndAgreementResults3 (inb (pw [(0,1,6),(2,1,2),(4,4,6)]) (ym (fun y => {y with decided := [(2,[6])]}) (arms yb))) = [7] ∧
    yokeTransferAndAgreementResults3 (inb (pw [(0,1,7),(2,1,2),(4,4,6),(8,8,55)]) (ym (fun y => {y with hashes := [((2,6),55)]}) yb)) = [10] ∧
    yokeTransferAndAgreementResults3 (inb (pw [(0,1,7),(2,1,2),(4,4,6),(8,8,56)]) (ym (fun y => {y with hashes := [((2,6),55)]}) yb)) = [11] ∧
    yokeTransferAndAgreementResults4 State.reset 2 0 = [0] ∧
    yokeTransferAndAgreementResults4 (inb (pw [(0,1,5),(2,1,2),(4,4,6),(8,8,9),(16,4,64)]) (frm {loop := 2, k := 6, start := some 40000000} (arms yb))) 2 6 = [2] ∧
    yokeTransferAndAgreementResults4 (frm {loop := 2, k := 6} (arms yb)) 2 6 = [1] ∧
    yokeTransferAndAgreementResults5 (arms yb) {loop := 2, k := 6, start := some 49900000, loc := some (9, 64, []), far := some (9,64)} false = [0] := by
  decide +kernel

end ForYokeTransferAndAgreementResults

namespace ForFabricLinkResults

def pw (f : List (Nat × Nat × Nat)) (n : Nat := 16) : List Byte :=
  f.foldl (fun b x => b.take x.1 ++ leBytes x.2.1 x.2.2 ++ b.drop (x.1 + x.2.1)) (List.replicate n 0)
def fb : State :=
  let s := ((((upAt 50000000).setOn SWT_CFG.EN 0 true).setF SWT_CFG.DX 0 1).setF SWT_CFG.DY 0 1)
  let s := (s.setF SWT_MEMBERS.MASK 0 (2^64-1))
  let s := (List.range 6).foldl (fun s k => s.setLinkState k (if k = 1 then 1 else 2)) s
  let s := (s.setOn SWT_DIR.VALID 1 true)
  let s := (((((s.setOn SWT_EXP.V 0 true).setOn SWT_EXP.W 0 true).setF SWT_EXP.PLOT 0 3).setF SWT_EXPLEN.GRANULES 0 1)).setF SWT_EXP_SRC.SRCMASK 0 2
  ((((s.setOn BND_OP_CTL.V 5 true).setOn BND_OP_ACRE.GLOBAL 5 true).setF BND_OP_CTL.N 5 3).setF BND_OP_CTL.E 5 15).setF BND_OP_PEERS.MASK 5 3
def inb (k : Nat) (m : List Byte) (s : State) : State := s.setLink k { s.link k with inbox := [m, pw [(0,1,0x21)]] }
def hd (t : Nat) (f : List (Nat × Nat × Nat)) (n : Nat := 80) : List Byte := pw ([(0,1,t),(1,1,n/16),(2,1,0),(3,1,1),(4,2,3)] ++ f) n
def h0 (f : List (Nat × Nat × Nat)) (s : State := fb) (t : Nat) : State := inb 0 (hd t f) s
def types : List Nat := (List.range 13).map (· + 0x20)
def hel (s : State) (k : Nat) (o : List (Nat × Nat × Nat)) : List Byte :=
  let q := (s.swStep s.ownPkg (k / 2) (decide (k % 2 = 1))).1
  let c := s.coords q
  let d := s.swDims
  pw ([(0,1,0x20),(1,1,2),(6,4,77),(10,1,c.getD 0 0 + 4 * c.getD 1 0 + 16 * c.getD 2 0),(11,1,(d.getD 0 1 - 1) + 4 * (d.getD 1 1 - 1) + 16*(d.getD 2 1 - 1)),(12,1,if k % 2 = 0 then k+1 else k-1)] ++ o) 32
def rq (x : SwReq) (s : State) : State := s.setReqs [x]

/-- The clauses of FabricLinkResults whose hypotheses hold. -/
def fabricLinkResults1 (s : State) (agent : Agent) : List Nat :=
  (let may := agent = .reeve ∨ agent = .plot 0
   clause 0 (s.acts agent = false) ++
   (if s.acts agent = true then
     clause 1 (¬may) ++
     (if may then
       clause 2 (s.on SWT_CFG.EN 0 = true ∨ s.geomBad = true) ++
       clause 3 (s.on SWT_CFG.EN 0 = false ∧ s.geomBad = false)
      else [])
    else []))

/-- The clauses of FabricLinkResults whose hypotheses hold. -/
def fabricLinkResults2 (s : State) (k : Fin 6) (res : MemRes) : List Nat :=
  (let l := s.link k
   ([0x20, 0x21, 0x22, 0x23, 0x24, 0x25, 0x26, 0x27, 0x28, 0x29, 0x2A, 0x2B, 0x2C].flatMap fun type =>
     (match l.inbox with
      | [] => [0]
      | m :: r => clause 1 (numAt m 0 1 ≠ type) ++
         clause 2 (numAt m 0 1 = type ∧ 0x22 ≤ type ∧ numAt m 2 1 ≠ s.ownPkg))) ++
   clause 3 (s.linkState k ≠ 1 ∨ s.on SWT_CFG.EN 0 = false) ++
   clause 4 (s.linkState k = 1 ∧ s.on SWT_CFG.EN 0 = true) ++
   clause 5 (s.linkState k = 0) ++
   clause 6 (s.linkState k ≠ 0))

/-- The clauses of FabricLinkResults whose hypotheses hold. -/
def fabricLinkResults3 (s : State) (k : Fin 6) : List Nat :=
  (match (s.link k).inbox with
   | [] => [0]
   | m :: r => (let p := numAt m 6 1
       let j := numAt m 7 1
       let seq := numAt m 10 4
       let news : Bool := decide (p ≠ s.ownPkg) && (match find (8 * p + j) s.acre.lstate with
         | some x => decide (modDiff 32 seq x.1 ≠ 0 ∧ modDiff 32 seq x.1 < 2 ^ 31)
         | none => decide (True))
       let neighbour := (s.swStep s.ownPkg (k / 2) (decide (k.val % 2 = 1))).1
       let c := [numAt m 10 1 % 4, numAt m 10 1 / 4 % 4, numAt m 10 1 / 16 % 4]
       let d := [numAt m 11 1 % 4 + 1, numAt m 11 1 / 4 % 4 + 1, numAt m 11 1 / 16 % 4 + 1]
       let right := d = s.swDims ∧ s.pkgAt c = neighbour ∧ numAt m 12 1 = if k.val % 2 = 0 then k.val + 1 else k.val - 1
       (if numAt m 0 1 = 0x20 then
         clause 1 (¬right) ++
         clause 2 (right)
        else []) ++
       (if numAt m 0 1 = 0x21 then
         clause 3 (¬news) ++
         clause 4 (news)
        else []) ++
       (if numAt m 2 1 = s.ownPkg then
         clause 5 (numAt m 0 1 = 0x29) ++
         clause 6 (numAt m 0 1 = 0x2A)
        else [])))

/-- The clauses of FabricLinkResults whose hypotheses hold. -/
def fabricLinkResults4 (s : State) (dst : Fin 64) (id : BitVec 32) (read : Bool) : List Nat :=
  (let lost := fun x : SwReq => decide (x.dst = dst.val ∧ x.id = id.toNat ∧ x.read = read) && (match x.sent with
     | some t => decide (200000 ≤ s.since t)
     | none => decide (False))
   clause 0 ((∀ x ∈ s.acre.reqs, ¬lost x)) ++
   (match s.acre.reqs with
    | [x] => (if lost x then
         (match x.use with
          | .bind .. => [1]
          | _ => [2])
        else [])
    | _ => [3]))

theorem test_hypotheses :
    fabricLinkResults1 State.reset .drill = [0] ∧
    fabricLinkResults1 up .drill = [1] ∧
    fabricLinkResults1 up (.plot 0) = [3] ∧
    fabricLinkResults1 fb (.plot 0) = [2] ∧
    fabricLinkResults2 ((types.map (fun t => inb 0 (hd t [(2,1,1)]) fb) : List (State)).getD 2 .reset) 0 .ok = [1, 1, 2, 1, 1, 1, 1, 1, 1, 1, 1, 1, 1, 3, 6] ∧
    fabricLinkResults2 State.reset 0 .ok = [0, 0, 0, 0, 0, 0, 0, 0, 0, 0, 0, 0, 0, 3, 5] ∧
    fabricLinkResults2 fb 1 .ok = [0, 0, 0, 0, 0, 0, 0, 0, 0, 0, 0, 0, 0, 4, 6] ∧
    fabricLinkResults3 State.reset 0 = [0] ∧
    fabricLinkResults3 ((types.map (fun t => h0 [] fb t) : List (State)).getD 0 .reset) 0 = [1] ∧
    fabricLinkResults3 ((types.map (fun t => h0 [] fb t) : List (State)).getD 1 .reset) 0 = [3] ∧
    fabricLinkResults3 ((types.map (fun t => h0 [] fb t) : List (State)).getD 9 .reset) 0 = [5] ∧
    fabricLinkResults3 ((types.map (fun t => h0 [] fb t) : List (State)).getD 10 .reset) 0 = [6] ∧
    fabricLinkResults3 (inb 0 (hel fb 0 []) fb) 0 = [2] ∧
    fabricLinkResults3 (h0 [(6,1,1),(7,1,2),(8,1,2),(10,4,5)] fb 0x21) 0 = [4] ∧
    fabricLinkResults4 State.reset 0 0 false = [0, 3] ∧
    fabricLinkResults4 (rq ⟨1, 5, true, 64, [], .stale, some 3⟩ fb) 1 5 true = [2] ∧
    fabricLinkResults4 (rq ⟨1, 5, true, 64, [], .bind 5 none, some 3⟩ fb) 1 5 true = [1] := by
  decide +kernel

end ForFabricLinkResults

namespace ForRemoteAccessResults

def pw (f : List (Nat × Nat × Nat)) (n : Nat := 16) : List Byte :=
  f.foldl (fun b x => b.take x.1 ++ leBytes x.2.1 x.2.2 ++ b.drop (x.1 + x.2.1)) (List.replicate n 0)
def fb : State :=
  let s := ((((upAt 50000000).setOn SWT_CFG.EN 0 true).setF SWT_CFG.DX 0 1).setF SWT_CFG.DY 0 1)
  let s := (s.setF SWT_MEMBERS.MASK 0 (2^64-1))
  let s := (List.range 6).foldl (fun s k => s.setLinkState k (if k = 1 then 1 else 2)) s
  let s := (s.setOn SWT_DIR.VALID 1 true)
  let s := (((((s.setOn SWT_EXP.V 0 true).setOn SWT_EXP.W 0 true).setF SWT_EXP.PLOT 0 3).setF SWT_EXPLEN.GRANULES 0 1)).setF SWT_EXP_SRC.SRCMASK 0 2
  ((((s.setOn BND_OP_CTL.V 5 true).setOn BND_OP_ACRE.GLOBAL 5 true).setF BND_OP_CTL.N 5 3).setF BND_OP_CTL.E 5 15).setF BND_OP_PEERS.MASK 5 3
def inb (k : Nat) (m : List Byte) (s : State) : State := s.setLink k { s.link k with inbox := [m, pw [(0,1,0x21)]] }
def hd (t : Nat) (f : List (Nat × Nat × Nat)) (n : Nat := 80) : List Byte := pw ([(0,1,t),(1,1,n/16),(2,1,0),(3,1,1),(4,2,3)] ++ f) n
def h0 (f : List (Nat × Nat × Nat)) (s : State := fb) (t : Nat) : State := inb 0 (hd t f) s
def types : List Nat := (List.range 13).map (· + 0x20)
def rq (x : SwReq) (s : State) : State := s.setReqs [x]
def ldop : LoadOp := { va := 0x1000, parts := [⟨2^55+2^48+64, 8, true⟩], dest := .g 5, signed := false }
def atop : AtomicOp := { va := 0x1000, pa := 2^55+2^48+64, uc := true, wide := true, op := .add, gd := 5, arg := 1, cmp := 0, rel := false, upto := 0 }
def thr (f : Thread → Thread) (s : State) : State := s.setThread 0 (f { s.thread 0 with mode := .running })
def done7 (s : State) : State := s.setPeer 1 { s.peer 1 with done := [7], newest := 7 }
def rd (sz : Nat) (a : Nat := 64) : List (Nat × Nat × Nat) := [(6,2,7),(8,6,a),(14,1,sz)]
def wr (a : Nat := 64) : List (Nat × Nat × Nat) := [(6,4,7),(10,6,a),(16,1,3),(24,8,0x1122334455667788)]
def at' (op : Nat) (a : Nat := 64) : List (Nat × Nat × Nat) := [(6,4,7),(10,6,a),(16,1,op),(17,1,3),(24,8,5),(32,8,0)]
def bi (n fl slot first : Nat) : List (Nat × Nat × Nat) := [(6,4,7),(10,1,n),(11,1,fl),(12,2,slot),(14,2,first),(16,8,5),(24,8,6),(32,8,7)]

/-- The clauses of RemoteAccessResults whose hypotheses hold. -/
def remoteAccessResults1 (s : State) (k : Fin 6) (res : MemRes) : List Nat :=
  (match (s.link k).inbox with
   | [] => [0]
   | m :: r => (if numAt m 2 1 = s.ownPkg then
        (let src := numAt m 3 1
         let plot := numAt m 4 2 % 512
         let id := numAt m 6 4
         let addr := numAt m 10 6
         let done := (s.peer src).done.contains id
         clause 1 (s.swHeld k 8 = true) ++
         clause 2 (s.swHeld k 10 = true) ++
         (if numAt m 0 1 = 0x22 ∧ s.swHeld k 8 = false then
           (let size := numAt m 14 1
            let len := if size = 6 then 64 else 2 ^ (size % 4)
            let may := s.expAdmits src plot (numAt m 8 6) len false = true ∧ (size < 4 ∨ size = 6)
            clause 3 (¬may) ++
            clause 4 (may))
          else []) ++
         (if s.swHeld k 10 = false then
           ([(0x24, 2 ^ (numAt m 16 1 % 4), (m.drop 24).take (2 ^ (numAt m 16 1 % 4))), (0x25, 64, (m.drop 16).take 64)].flatMap fun (type, n, b) =>
             (if numAt m 0 1 = type ∧ b.length = n then
               (let may := s.expAdmits src plot addr n true
                clause 5 (done = true) ++
                (if done = false then
                  clause 6 (may = false) ++
                  clause 7 (may = true)
                 else []))
              else []))
          else []) ++
         (if numAt m 0 1 = 0x26 ∧ s.swHeld k 10 = false then
           (let n := if numAt m 17 1 = 3 then 8 else 4
            let may := addr % n = 0 ∧ s.expAdmits src plot addr n true = true
            clause 8 (done = true) ++
            (if done = false then
              (match atomOp (numAt m 16 1) with
               | none => [9]
               | some op => clause 10 (¬may) ++
                  clause 11 (may))
             else []))
          else []))
       else [])) ++
  (match (s.link k).inbox with
   | m :: _ => (if numAt m 2 1 = s.ownPkg then
        (let src := numAt m 3 1
         (let mine := fun (id : Nat) (read : Bool) (x : SwReq) => x.dst = src && x.id = id && x.read = read && x.sent.isSome
          clause 12 (numAt m 0 1 = 0x27 ∧ s.acre.reqs.find? (mine (numAt m 6 4) false) = none) ++
          clause 13 (numAt m 0 1 = 0x28 ∧ s.acre.reqs.find? (mine (numAt m 6 4) false) = none) ++
          clause 14 (numAt m 0 1 = 0x23 ∧ s.acre.reqs.find? (mine (numAt m 6 2) true) = none) ++
          (match s.acre.reqs with
           | [x] => (if s.on SWT_DIR.PENDING src = false then
                (if mine (numAt m 6 4) false x = true ∧ numAt m 10 1 < 2 then
                  (match x.use with
                   | .store h _ => clause 15 (numAt m 0 1 = 0x27)
                   | .atomic h => (match (s.thread h).hold with
                       | some (.atomic op) => clause 16 (numAt m 0 1 = 0x28 ∧ s.locked (coreOf h) = false)
                       | _ => [17])
                   | _ => [18])
                 else []) ++
                (if mine (numAt m 6 2) true x = true ∧ numAt m 0 1 = 0x23 ∧ numAt m 8 1 = 0 then
                  (match x.use with
                   | .load h => (match (s.thread h).hold with
                       | some (.load op) => clause 19 (s.locked (coreOf h) = false)
                       | _ => [20])
                   | _ => [21])
                 else [])
               else [])
           | _ => [22])) ++
         (let n := numAt m 10 1
          let flags := numAt m 11 1
          let slot := numAt m 12 2
          let first := numAt m 14 2
          let global := n < 64 ∧ s.on BND_OP_CTL.V n = true ∧ s.on BND_OP_ACRE.GLOBAL n = true
          (if numAt m 0 1 = 0x2B then
            (if flags.testBit 0 = true then
              clause 23 (¬(global ∧ first < s.bndElems n)) ++
              clause 24 (global ∧ first < s.bndElems n)
             else []) ++
            (if flags.testBit 0 = false then
              clause 25 (flags.testBit 1 = true) ++
              (if flags.testBit 1 = false then
                clause 26 (64 ≤ n) ++
                (if global then
                  clause 27 (s.f BND_OP_ACRE.HOME n ≠ s.ownPkg ∨ s.bndSlots n ≤ slot ∨ s.bndElems n ≤ first) ++
                  clause 28 (s.f BND_OP_ACRE.HOME n = s.ownPkg ∧ slot < s.bndSlots n ∧ first < s.bndElems n ∧ s.on BND_OP_STAT.FAILED n = false ∧ first + 8 < s.bndElems n ∧ (s.bndOp n).partials = [])
                 else [])
               else [])
             else [])
           else []) ++
          (if numAt m 0 1 = 0x2C then
            clause 29 (¬global) ++
            clause 30 (global)
           else [])))
       else [])
   | [] => [31])

theorem test_hypotheses :
    remoteAccessResults1 (h0 (rd 3) (fb.setOn GRN_STATE.SELFREF 0 true) 0x22) 0 .ok = [1, 2, 22] ∧
    remoteAccessResults1 State.reset 0 .ok = [0, 31] ∧
    remoteAccessResults1 ((types.map (fun t => h0 [] fb t) : List (State)).getD 2 .reset) 0 .ok = [4, 22] ∧
    remoteAccessResults1 ((types.map (fun t => h0 [] fb t) : List (State)).getD 3 .reset) 0 .ok = [14, 22] ∧
    remoteAccessResults1 ((types.map (fun t => h0 [] fb t) : List (State)).getD 4 .reset) 0 .ok = [7, 22] ∧
    remoteAccessResults1 ((types.map (fun t => h0 [] fb t) : List (State)).getD 6 .reset) 0 .ok = [11, 22] ∧
    remoteAccessResults1 ((types.map (fun t => h0 [] fb t) : List (State)).getD 7 .reset) 0 .ok = [12, 22] ∧
    remoteAccessResults1 ((types.map (fun t => h0 [] fb t) : List (State)).getD 8 .reset) 0 .ok = [13, 22] ∧
    remoteAccessResults1 ((types.map (fun t => h0 [] fb t) : List (State)).getD 12 .reset) 0 .ok = [22, 29] ∧
    remoteAccessResults1 (h0 (rd 5) fb 0x22) 0 .ok = [3, 22] ∧
    remoteAccessResults1 (h0 wr (done7 fb) 0x24) 0 .ok = [5, 22] ∧
    remoteAccessResults1 (h0 (wr (2^22)) fb 0x24) 0 .ok = [6, 22] ∧
    remoteAccessResults1 (h0 (at' 1) (done7 fb) 0x26) 0 .ok = [8, 22] ∧
    remoteAccessResults1 (h0 (at' 13) fb 0x26) 0 .ok = [9, 22] ∧
    remoteAccessResults1 (h0 (at' 1 68) fb 0x26) 0 .ok = [10, 22] ∧
    remoteAccessResults1 (h0 [(6,4,7)] (thr (fun t => {t with posted := [{ va := 0x1000, pa := globalPa 1 64, bytes := [], away := true }]}) (rq ⟨1, 7, false, 64, [], .store 0 0x1000, some 3⟩ fb)) 0x27) 0 .ok = [15] ∧
    remoteAccessResults1 (h0 [(6,4,7),(10,1,1)] (rq ⟨1, 7, false, 64, [], .stale, some 3⟩ fb) 0x27) 0 .ok = [18] ∧
    remoteAccessResults1 (h0 [(6,4,7),(16,8,44)] (thr (fun t => {t with hold := some (.atomic atop)}) (rq ⟨1, 7, false, 64, [], .atomic 0, some 3⟩ fb)) 0x28) 0 .ok = [16] ∧
    remoteAccessResults1 (h0 [(6,2,7),(16,8,44)] (thr (fun t => {t with hold := some (.load ldop)}) (rq ⟨1, 7, true, 64, [], .load 0, some 3⟩ fb)) 0x23) 0 .ok = [19] ∧
    remoteAccessResults1 (h0 (bi 5 0 2 0) fb 0x2B) 0 .ok = [22, 28] ∧
    remoteAccessResults1 (h0 (bi 5 0 9 0) fb 0x2B) 0 .ok = [22, 27] ∧
    remoteAccessResults1 (h0 (bi 5 1 2 0) fb 0x2B) 0 .ok = [22, 24] ∧
    remoteAccessResults1 (h0 (bi 5 1 2 16) fb 0x2B) 0 .ok = [22, 23] ∧
    remoteAccessResults1 (h0 (bi 5 2 2 0) fb 0x2B) 0 .ok = [22, 25] ∧
    remoteAccessResults1 (h0 (bi 66 0 2 0) fb 0x2B) 0 .ok = [22, 26] ∧
    remoteAccessResults1 (h0 (bi 5 0 0 0) fb 0x2C) 0 .ok = [22, 30] := by
  decide +kernel

end ForRemoteAccessResults

namespace ForIslandMailboxResults

def isr : IslandRec := { expectSeal := 0x115, safeLoop := 2, missTol := 2, framePeriod := 16666667, grace := 5, degradeTime := 10, single := false, lockupReact := true, lossStop := 1, degradeSls := [255,255,255,255] }
def smap (a b c : Nat) : StopMap := ⟨a, b, c⟩
def axr : AxisRec := { used := true, encoder := true, restart := false, global := true, invert := false, lines := 1024, refPos := 100, poles := 4, faultStop := 0, rs := 100, ls := 100, iscale := 100, vscale := 100, psi := 1000, resMax := 50, emfTol := 10, obsMin := 100, xchk := 50, sstill := 5, sosWin := 10, ssmLimit := 50, ssmHyst := 5, decel := 100, rampTol := 10, ssDelay := 10, tSs := 100, tBlind := 50, defSls := none, defSlp := none, defSdi := none }
def prm : Params := { island := isr, inputs := [(0, ⟨1, 10, smap 1 1 0⟩), (3, ⟨2, 10, smap 2 0 0xFF⟩)], outputs := [(0, ⟨true, false, none, 20⟩), (1, ⟨true, true, some 0, 20⟩)], axes := [(0, axr), (1, { axr with invert := true, restart := true, encoder := false })], limits := [⟨0, 1, 0, .sls 500 0⟩] }
def pset (p : Params := prm) (valid : Bool := true) : ParamSet :=
  { copy := 0, seq := 5, pcrc := 0x1234, confC := checkValue 0x1234 true [1,2,3,4], valid := valid, bind := true, ids := [1,2,3,4], params := p }
def T0 : Nat := 700000000000
def isb (hs : Nat) (p : Params := prm) (f : Island → Island := id) (g : State → State := id) : State :=
  let s := (up.setHs hs).setF HDL_SEAL.LATCHED 0 0x115 |>.setF HDL_SEAL.LIVE 0 0x115 |>.setF HDL_PCRC.PCRC 0 0x1234 |>.setF HDL_CYCLE.COUNT 0 700000
  g { s with isl := f { t := T0, image := true, ids := [1,2,3,4], set := some (pset p), recordAt := T0, computeAt := T0, pulseAt := [T0, T0], chans := [(0, {cmd := true}), (1, {}), (8, {cmd := true}), (9, {})], axes := [(0, { state := 0 }), (1, {})], inputs := [(0, { on := true, high := true }), (3, {})], outputs := [(0, { ev := true }), (1, {})] } }
def isrB (e : Nat := 0x115) : List Byte := leBytes 2 e ++ leBytes 1 2 ++ leBytes 1 2 ++ leBytes 4 16666667 ++ leBytes 2 5 ++ leBytes 2 10 ++ leBytes 1 2 ++ leBytes 1 1 ++ List.replicate 4 0xFF ++ List.replicate 14 0
def bodyB (e : Nat := 0x115) : List Byte := leBytes 2 1 ++ leBytes 2 32 ++ isrB e
def msg (t : Nat) (r : List Byte) (i : Island) : Island := { i with msg := some (t, r) }
def upl (c : Nat) (i : Island) : Island := { i with upload := some { len := 36, pcrc := c, data := writeSpan [] 0 (bodyB) } }
def pw8 (a b : Nat) : List Byte := leBytes 4 a ++ leBytes 4 b
def tw (hs : Nat) (auth : Bool) (i : Island) : Island := { i with twin := some { hs := hs, auth := auth, veto := false, relinq := false, pcrc := 0x1234, cycle := 3, at' := T0 } }

/-- The clauses of IslandMailboxResults whose hypotheses hold. -/
def islandMailboxResults1 (s : State) : List Nat :=
  ([1, 2, 3, 4, 5, 6, 7, 8, 9, 10, 11].flatMap fun type =>
    (match s.isl.msg with
     | none => [0]
     | some (t, _) => clause 1 (t ≠ type) ++
        (if t = type ∧ 2 < type then
          clause 2 (s.hs = 0 ∨ s.hs = 6) ++
          clause 3 (s.hs ≠ 0 ∧ s.hs ≠ 6 ∧ s.on HDL_PWRITE.BUSY 0 = true)
         else []) ++
        [4])) ++
  (match s.isl.msg with
   | none => [5]
   | some (type, req) => (let off := fieldAt req 0 4
       let n := fieldAt req 4 4
       let k := fieldAt req 4 1
       clause 6 (type = 1) ++
       (if type = 2 then
         clause 7 (off % 4 = 0 ∧ 1 ≤ k ∧ k ≤ 64) ++
         clause 8 (off % 4 ≠ 0 ∨ k = 0 ∨ 64 < k)
        else []) ++
       (if s.hs ≠ 0 ∧ s.hs ≠ 6 ∧ s.on HDL_PWRITE.BUSY 0 = false then
         (if type = 3 then
           clause 9 (s.hs = 4) ++
           (if s.hs ≠ 4 then
             clause 10 (¬(16 ≤ off ∧ off ≤ 130816)) ++
             clause 11 (16 ≤ off ∧ off ≤ 130816)
            else [])
          else []) ++
         clause 12 ((type = 4 ∨ type = 5) ∧ (s.hs = 4 ∨ s.isl.upload = none)) ++
         (if s.hs ≠ 4 then
           (match s.isl.upload with
            | none => [13]
            | some w => (let body := readSpan w.data 0 w.len
                let good := crc32c body = w.pcrc ∧ (parseBody body).isSome = true
                (if type = 4 then
                  clause 14 (w.len < off + n) ++
                  clause 15 (off + n ≤ w.len)
                 else []) ++
                (if type = 5 then
                  clause 16 (¬good) ++
                  clause 17 (good)
                 else [])))
          else []) ++
         clause 18 (type = 6) ++
         (if type = 7 then
           clause 19 (s.hs ≠ 2 ∧ s.hs ≠ 3) ++
           (if s.hs = 2 ∨ s.hs = 3 then
             clause 20 (s.isl.lockoutAt.isSome = true) ++
             (if s.isl.lockoutAt = none then
               (match s.checkNow with
                | none => [21]
                | some c => clause 22 (s.sealsMatch = false) ++
                   (if s.sealsMatch = true then
                     clause 23 (off = c) ++
                     clause 24 (off ≠ c)
                    else []))
              else [])
            else [])
          else []) ++
         (if type = 8 then
           (let paired := s.freshTwin.any fun w => (w.hs = 3 || w.hs = 4) && w.pcrc = s.f HDL_PCRC.PCRC 0
            let may := s.hs = 3 ∧ s.faulted = false
            clause 25 (¬may) ++
            (if may then
              clause 26 (s.confRebind = true) ++
              clause 27 (s.confRebind = false ∧ s.confValid = false) ++
              (if s.confValid = true then
                clause 28 (s.irec?.any (·.single) = false ∧ paired = false) ++
                clause 29 (s.irec?.any (·.single) = true ∨ paired = true)
               else [])
             else []))
          else []) ++
         (if type = 9 then
           clause 30 (s.hs ≠ 4) ++
           clause 31 (s.hs = 4)
          else []) ++
         (if type = 10 then
           clause 32 (¬(s.hs = 4 ∧ s.auth = true ∧ s.on HDL_STATE.DEGRADED 0 = false)) ++
           clause 33 (s.hs = 4 ∧ s.auth = true ∧ s.on HDL_STATE.DEGRADED 0 = false)
          else []) ++
         clause 34 (type = 11)
        else [])))

theorem test_hypotheses :
    islandMailboxResults1 ((((List.range 11).flatMap fun t => [isb 0 prm (msg (t+1) (pw8 5 7)), isb 3 prm (msg (t+1) (pw8 5 7)), isb 4 prm (msg (t+1) (pw8 5 7)), isb 3 prm (msg (t+1) (pw8 5 7)) (fun s => s.setOn HDL_PWRITE.BUSY 0 true)]) : List (State)).getD 1 .reset) = [4, 1, 4, 1, 4, 1, 4, 1, 4, 1, 4, 1, 4, 1, 4, 1, 4, 1, 4, 1, 4, 6, 13] ∧
    islandMailboxResults1 State.reset = [0, 0, 0, 0, 0, 0, 0, 0, 0, 0, 0, 5] ∧
    islandMailboxResults1 ((((List.range 11).flatMap fun t => [isb 0 prm (msg (t+1) (pw8 5 7)), isb 3 prm (msg (t+1) (pw8 5 7)), isb 4 prm (msg (t+1) (pw8 5 7)), isb 3 prm (msg (t+1) (pw8 5 7)) (fun s => s.setOn HDL_PWRITE.BUSY 0 true)]) : List (State)).getD 4 .reset) = [1, 4, 4, 1, 4, 1, 4, 1, 4, 1, 4, 1, 4, 1, 4, 1, 4, 1, 4, 1, 4, 8] ∧
    islandMailboxResults1 ((((List.range 11).flatMap fun t => [isb 0 prm (msg (t+1) (pw8 5 7)), isb 3 prm (msg (t+1) (pw8 5 7)), isb 4 prm (msg (t+1) (pw8 5 7)), isb 3 prm (msg (t+1) (pw8 5 7)) (fun s => s.setOn HDL_PWRITE.BUSY 0 true)]) : List (State)).getD 8 .reset) = [1, 4, 1, 4, 2, 4, 1, 4, 1, 4, 1, 4, 1, 4, 1, 4, 1, 4, 1, 4, 1, 4] ∧
    islandMailboxResults1 ((((List.range 11).flatMap fun t => [isb 0 prm (msg (t+1) (pw8 5 7)), isb 3 prm (msg (t+1) (pw8 5 7)), isb 4 prm (msg (t+1) (pw8 5 7)), isb 3 prm (msg (t+1) (pw8 5 7)) (fun s => s.setOn HDL_PWRITE.BUSY 0 true)]) : List (State)).getD 9 .reset) = [1, 4, 1, 4, 4, 1, 4, 1, 4, 1, 4, 1, 4, 1, 4, 1, 4, 1, 4, 1, 4, 10, 13] ∧
    islandMailboxResults1 ((((List.range 11).flatMap fun t => [isb 0 prm (msg (t+1) (pw8 5 7)), isb 3 prm (msg (t+1) (pw8 5 7)), isb 4 prm (msg (t+1) (pw8 5 7)), isb 3 prm (msg (t+1) (pw8 5 7)) (fun s => s.setOn HDL_PWRITE.BUSY 0 true)]) : List (State)).getD 10 .reset) = [1, 4, 1, 4, 4, 1, 4, 1, 4, 1, 4, 1, 4, 1, 4, 1, 4, 1, 4, 1, 4, 9] ∧
    islandMailboxResults1 ((((List.range 11).flatMap fun t => [isb 0 prm (msg (t+1) (pw8 5 7)), isb 3 prm (msg (t+1) (pw8 5 7)), isb 4 prm (msg (t+1) (pw8 5 7)), isb 3 prm (msg (t+1) (pw8 5 7)) (fun s => s.setOn HDL_PWRITE.BUSY 0 true)]) : List (State)).getD 11 .reset) = [1, 4, 1, 4, 3, 4, 1, 4, 1, 4, 1, 4, 1, 4, 1, 4, 1, 4, 1, 4, 1, 4] ∧
    islandMailboxResults1 ((((List.range 11).flatMap fun t => [isb 0 prm (msg (t+1) (pw8 5 7)), isb 3 prm (msg (t+1) (pw8 5 7)), isb 4 prm (msg (t+1) (pw8 5 7)), isb 3 prm (msg (t+1) (pw8 5 7)) (fun s => s.setOn HDL_PWRITE.BUSY 0 true)]) : List (State)).getD 13 .reset) = [1, 4, 1, 4, 1, 4, 4, 1, 4, 1, 4, 1, 4, 1, 4, 1, 4, 1, 4, 1, 4, 12, 13] ∧
    islandMailboxResults1 ((((List.range 11).flatMap fun t => [isb 0 prm (msg (t+1) (pw8 5 7)), isb 3 prm (msg (t+1) (pw8 5 7)), isb 4 prm (msg (t+1) (pw8 5 7)), isb 3 prm (msg (t+1) (pw8 5 7)) (fun s => s.setOn HDL_PWRITE.BUSY 0 true)]) : List (State)).getD 21 .reset) = [1, 4, 1, 4, 1, 4, 1, 4, 1, 4, 4, 1, 4, 1, 4, 1, 4, 1, 4, 1, 4, 13, 18] ∧
    islandMailboxResults1 ((((List.range 11).flatMap fun t => [isb 0 prm (msg (t+1) (pw8 5 7)), isb 3 prm (msg (t+1) (pw8 5 7)), isb 4 prm (msg (t+1) (pw8 5 7)), isb 3 prm (msg (t+1) (pw8 5 7)) (fun s => s.setOn HDL_PWRITE.BUSY 0 true)]) : List (State)).getD 25 .reset) = [1, 4, 1, 4, 1, 4, 1, 4, 1, 4, 1, 4, 4, 1, 4, 1, 4, 1, 4, 1, 4, 13, 24] ∧
    islandMailboxResults1 ((((List.range 11).flatMap fun t => [isb 0 prm (msg (t+1) (pw8 5 7)), isb 3 prm (msg (t+1) (pw8 5 7)), isb 4 prm (msg (t+1) (pw8 5 7)), isb 3 prm (msg (t+1) (pw8 5 7)) (fun s => s.setOn HDL_PWRITE.BUSY 0 true)]) : List (State)).getD 26 .reset) = [1, 4, 1, 4, 1, 4, 1, 4, 1, 4, 1, 4, 4, 1, 4, 1, 4, 1, 4, 1, 4, 19] ∧
    islandMailboxResults1 ((((List.range 11).flatMap fun t => [isb 0 prm (msg (t+1) (pw8 5 7)), isb 3 prm (msg (t+1) (pw8 5 7)), isb 4 prm (msg (t+1) (pw8 5 7)), isb 3 prm (msg (t+1) (pw8 5 7)) (fun s => s.setOn HDL_PWRITE.BUSY 0 true)]) : List (State)).getD 29 .reset) = [1, 4, 1, 4, 1, 4, 1, 4, 1, 4, 1, 4, 1, 4, 4, 1, 4, 1, 4, 1, 4, 13, 28] ∧
    islandMailboxResults1 ((((List.range 11).flatMap fun t => [isb 0 prm (msg (t+1) (pw8 5 7)), isb 3 prm (msg (t+1) (pw8 5 7)), isb 4 prm (msg (t+1) (pw8 5 7)), isb 3 prm (msg (t+1) (pw8 5 7)) (fun s => s.setOn HDL_PWRITE.BUSY 0 true)]) : List (State)).getD 30 .reset) = [1, 4, 1, 4, 1, 4, 1, 4, 1, 4, 1, 4, 1, 4, 4, 1, 4, 1, 4, 1, 4, 25] ∧
    islandMailboxResults1 ((((List.range 11).flatMap fun t => [isb 0 prm (msg (t+1) (pw8 5 7)), isb 3 prm (msg (t+1) (pw8 5 7)), isb 4 prm (msg (t+1) (pw8 5 7)), isb 3 prm (msg (t+1) (pw8 5 7)) (fun s => s.setOn HDL_PWRITE.BUSY 0 true)]) : List (State)).getD 33 .reset) = [1, 4, 1, 4, 1, 4, 1, 4, 1, 4, 1, 4, 1, 4, 1, 4, 4, 1, 4, 1, 4, 13, 30] ∧
    islandMailboxResults1 ((((List.range 11).flatMap fun t => [isb 0 prm (msg (t+1) (pw8 5 7)), isb 3 prm (msg (t+1) (pw8 5 7)), isb 4 prm (msg (t+1) (pw8 5 7)), isb 3 prm (msg (t+1) (pw8 5 7)) (fun s => s.setOn HDL_PWRITE.BUSY 0 true)]) : List (State)).getD 34 .reset) = [1, 4, 1, 4, 1, 4, 1, 4, 1, 4, 1, 4, 1, 4, 1, 4, 4, 1, 4, 1, 4, 31] ∧
    islandMailboxResults1 ((((List.range 11).flatMap fun t => [isb 0 prm (msg (t+1) (pw8 5 7)), isb 3 prm (msg (t+1) (pw8 5 7)), isb 4 prm (msg (t+1) (pw8 5 7)), isb 3 prm (msg (t+1) (pw8 5 7)) (fun s => s.setOn HDL_PWRITE.BUSY 0 true)]) : List (State)).getD 37 .reset) = [1, 4, 1, 4, 1, 4, 1, 4, 1, 4, 1, 4, 1, 4, 1, 4, 1, 4, 4, 1, 4, 13, 32] ∧
    islandMailboxResults1 ((((List.range 11).flatMap fun t => [isb 0 prm (msg (t+1) (pw8 5 7)), isb 3 prm (msg (t+1) (pw8 5 7)), isb 4 prm (msg (t+1) (pw8 5 7)), isb 3 prm (msg (t+1) (pw8 5 7)) (fun s => s.setOn HDL_PWRITE.BUSY 0 true)]) : List (State)).getD 41 .reset) = [1, 4, 1, 4, 1, 4, 1, 4, 1, 4, 1, 4, 1, 4, 1, 4, 1, 4, 1, 4, 4, 13, 34] ∧
    islandMailboxResults1 (isb 3 prm (msg 2 (leBytes 4 8 ++ [3]))) = [1, 4, 4, 1, 4, 1, 4, 1, 4, 1, 4, 1, 4, 1, 4, 1, 4, 1, 4, 1, 4, 7, 13] ∧
    islandMailboxResults1 (isb 3 prm (msg 3 (pw8 36 5))) = [1, 4, 1, 4, 4, 1, 4, 1, 4, 1, 4, 1, 4, 1, 4, 1, 4, 1, 4, 1, 4, 11, 13] ∧
    islandMailboxResults1 (isb 2 prm (msg 4 (pw8 0 4 ++ leBytes 4 0x11223344) ∘ upl 3)) = [1, 4, 1, 4, 1, 4, 4, 1, 4, 1, 4, 1, 4, 1, 4, 1, 4, 1, 4, 1, 4, 15] ∧
    islandMailboxResults1 (isb 2 prm (msg 4 (pw8 33 4 ++ leBytes 4 0x11223344) ∘ upl 3)) = [1, 4, 1, 4, 1, 4, 4, 1, 4, 1, 4, 1, 4, 1, 4, 1, 4, 1, 4, 1, 4, 14] ∧
    islandMailboxResults1 (isb 2 prm (msg 5 [] ∘ upl 3)) = [1, 4, 1, 4, 1, 4, 1, 4, 4, 1, 4, 1, 4, 1, 4, 1, 4, 1, 4, 1, 4, 16] ∧
    islandMailboxResults1 (isb 2 prm (msg 5 [] ∘ upl (crc32c bodyB))) = [1, 4, 1, 4, 1, 4, 1, 4, 4, 1, 4, 1, 4, 1, 4, 1, 4, 1, 4, 1, 4, 17] ∧
    islandMailboxResults1 (isb 2 prm (msg 7 (leBytes 4 (checkValue 0x1234 false [1,2,3,4])))) = [1, 4, 1, 4, 1, 4, 1, 4, 1, 4, 1, 4, 4, 1, 4, 1, 4, 1, 4, 1, 4, 13, 23] ∧
    islandMailboxResults1 (isb 2 prm ((fun i => {i with lockoutAt := some 4}) ∘ msg 7 (leBytes 4 9))) = [1, 4, 1, 4, 1, 4, 1, 4, 1, 4, 1, 4, 4, 1, 4, 1, 4, 1, 4, 1, 4, 13, 20] ∧
    islandMailboxResults1 (isb 2 {prm with island := {isr with expectSeal := 9}} (msg 7 (leBytes 4 9))) = [1, 4, 1, 4, 1, 4, 1, 4, 1, 4, 1, 4, 4, 1, 4, 1, 4, 1, 4, 1, 4, 13, 22] ∧
    islandMailboxResults1 (isb 2 prm ((fun i => {i with set := none}) ∘ msg 7 (leBytes 4 9))) = [1, 4, 1, 4, 1, 4, 1, 4, 1, 4, 1, 4, 4, 1, 4, 1, 4, 1, 4, 1, 4, 13, 21] ∧
    islandMailboxResults1 (isb 3 prm (tw 3 false ∘ msg 8 [])) = [1, 4, 1, 4, 1, 4, 1, 4, 1, 4, 1, 4, 1, 4, 4, 1, 4, 1, 4, 1, 4, 13, 29] ∧
    islandMailboxResults1 (isb 3 prm ((fun i => {i with untested := true, ids := [1,2,3,5]}) ∘ msg 8 [])) = [1, 4, 1, 4, 1, 4, 1, 4, 1, 4, 1, 4, 1, 4, 4, 1, 4, 1, 4, 1, 4, 13, 26] ∧
    islandMailboxResults1 (isb 3 prm ((fun i => {i with set := some (pset prm false)}) ∘ msg 8 [])) = [1, 4, 1, 4, 1, 4, 1, 4, 1, 4, 1, 4, 1, 4, 4, 1, 4, 1, 4, 1, 4, 13, 27] ∧
    islandMailboxResults1 (isb 4 prm (msg 10 []) (fun s => s.setOn HDL_STATE.AUTH 0 true)) = [1, 4, 1, 4, 1, 4, 1, 4, 1, 4, 1, 4, 1, 4, 1, 4, 1, 4, 4, 1, 4, 33] := by
  decide +kernel

end ForIslandMailboxResults

namespace ForIslandTimedResults

def isr : IslandRec := { expectSeal := 0x115, safeLoop := 2, missTol := 2, framePeriod := 16666667, grace := 5, degradeTime := 10, single := false, lockupReact := true, lossStop := 1, degradeSls := [255,255,255,255] }
def smap (a b c : Nat) : StopMap := ⟨a, b, c⟩
def axr : AxisRec := { used := true, encoder := true, restart := false, global := true, invert := false, lines := 1024, refPos := 100, poles := 4, faultStop := 0, rs := 100, ls := 100, iscale := 100, vscale := 100, psi := 1000, resMax := 50, emfTol := 10, obsMin := 100, xchk := 50, sstill := 5, sosWin := 10, ssmLimit := 50, ssmHyst := 5, decel := 100, rampTol := 10, ssDelay := 10, tSs := 100, tBlind := 50, defSls := none, defSlp := none, defSdi := none }
def prm : Params := { island := isr, inputs := [(0, ⟨1, 10, smap 1 1 0⟩), (3, ⟨2, 10, smap 2 0 0xFF⟩)], outputs := [(0, ⟨true, false, none, 20⟩), (1, ⟨true, true, some 0, 20⟩)], axes := [(0, axr), (1, { axr with invert := true, restart := true, encoder := false })], limits := [⟨0, 1, 0, .sls 500 0⟩] }
def pset (p : Params := prm) (valid : Bool := true) : ParamSet :=
  { copy := 0, seq := 5, pcrc := 0x1234, confC := checkValue 0x1234 true [1,2,3,4], valid := valid, bind := true, ids := [1,2,3,4], params := p }
def T0 : Nat := 700000000000
def isb (hs : Nat) (p : Params := prm) (f : Island → Island := id) (g : State → State := id) : State :=
  let s := (up.setHs hs).setF HDL_SEAL.LATCHED 0 0x115 |>.setF HDL_SEAL.LIVE 0 0x115 |>.setF HDL_PCRC.PCRC 0 0x1234 |>.setF HDL_CYCLE.COUNT 0 700000
  g { s with isl := f { t := T0, image := true, ids := [1,2,3,4], set := some (pset p), recordAt := T0, computeAt := T0, pulseAt := [T0, T0], chans := [(0, {cmd := true}), (1, {}), (8, {cmd := true}), (9, {})], axes := [(0, { state := 0 }), (1, {})], inputs := [(0, { on := true, high := true }), (3, {})], outputs := [(0, { ev := true }), (1, {})] } }
def isrB (e : Nat := 0x115) : List Byte := leBytes 2 e ++ leBytes 1 2 ++ leBytes 1 2 ++ leBytes 4 16666667 ++ leBytes 2 5 ++ leBytes 2 10 ++ leBytes 1 2 ++ leBytes 1 1 ++ List.replicate 4 0xFF ++ List.replicate 14 0
def bodyB (e : Nat := 0x115) : List Byte := leBytes 2 1 ++ leBytes 2 32 ++ isrB e
def msg (t : Nat) (r : List Byte) (i : Island) : Island := { i with msg := some (t, r) }
def upl (c : Nat) (i : Island) : Island := { i with upload := some { len := 36, pcrc := c, data := writeSpan [] 0 (bodyB) } }
def pw8 (a b : Nat) : List Byte := leBytes 4 a ++ leBytes 4 b

/-- The clauses of IslandTimedResults whose hypotheses hold. -/
def islandTimedResults1 (s : State) : List Nat :=
  (let now := s.islTime
   (match s.isl.edgePhase with
    | .high h => clause 0 (¬(s.functional = true ∧ ms 3000 < s.cycleTime - h)) ++
       clause 1 (s.functional = true ∧ ms 3000 < s.cycleTime - h)
    | _ => [2]) ++
   (match s.isl.pendAt with
    | none => [3]
    | some b => clause 4 (now - b < ms 60000) ++
       clause 5 (ms 60000 ≤ now - b)) ++
   (match s.isl.lockoutAt with
    | none => [6]
    | some b => clause 7 (now - b < ms 600000) ++
       clause 8 (ms 600000 ≤ now - b)) ++
   (match s.isl.armedAt with
    | none => [9]
    | some b => clause 10 (now - b < ms 60000) ++
       clause 11 (ms 60000 ≤ now - b)) ++
   (match s.irec? with
    | none => [12]
    | some r => (match s.isl.handoverAt with
        | none => [13]
        | some b => clause 14 (now - b < 2 * r.framePeriod + 2000000) ++
           clause 15 (2 * r.framePeriod + 2000000 ≤ now - b)) ++
       (let late := s.functional = true ∧ 2 * r.framePeriod ≤ now - s.isl.recordAt
        clause 16 (¬late) ++
        clause 17 (late)) ++
       (let late := s.on HDL_STATE.DEGRADED 0 = true ∧ ms (r.degradeTime * 1000) ≤ now - s.isl.degradedAt
        clause 18 (¬late) ++
        clause 19 (late)) ++
       (let late := 2 * r.framePeriod + 1000000 ≤ now - s.isl.computeAt ∧ s.functional = true ∧ s.isl.localAt = none
        clause 20 (¬late) ++
        clause 21 (late)) ++
       (match s.isl.localAt with
        | none => [22]
        | some b => clause 23 (¬(s.inGrace = true ∧ b + ms r.grace ≤ s.cycleTime)) ++
           clause 24 (s.inGrace = true ∧ b + ms r.grace ≤ s.cycleTime))))

/-- The clauses of IslandTimedResults whose hypotheses hold. -/
def islandTimedResults2 (s : State) (pulsed : BitVec 2) : List Nat :=
  (let now := s.islTime
   let due : Bool := decide (s.functional = true) && (match s.isl.pulsed with
     | some b => decide (ms 1000 ≤ now - b)
     | none => decide (True))
   clause 0 (¬due) ++
   clause 1 (due))

/-- The clauses of IslandTimedResults whose hypotheses hold. -/
def islandTimedResults3 (s : State) (low : Bool) : List Nat :=
  (let pin := low || s.anyLocked
   clause 0 (pin = false ∨ s.isl.lockupLow = true) ++
   clause 1 (pin = true ∧ s.isl.lockupLow = false ∧ (s.functional = true ∨ s.hs = hsNoMachine)))

/-- The clauses of IslandTimedResults whose hypotheses hold. -/
def islandTimedResults4 (s : State) (ok : Bool) : List Nat :=
  (match s.isl.pwrite with
   | none => [0]
   | some w => clause 1 (ok = false) ++
      (if ok = true then
        clause 2 (w.confirm = true) ++
        clause 3 (w.confirm = false)
       else []))

theorem test_hypotheses :
    islandTimedResults1 ((((List.range 11).flatMap fun t => [isb 0 prm (msg (t+1) (pw8 5 7)), isb 3 prm (msg (t+1) (pw8 5 7)), isb 4 prm (msg (t+1) (pw8 5 7)), isb 3 prm (msg (t+1) (pw8 5 7)) (fun s => s.setOn HDL_PWRITE.BUSY 0 true)]) : List (State)).getD 0 .reset) = [2, 3, 6, 9, 13, 16, 18, 20, 22] ∧
    islandTimedResults1 (isb 2 prm ((fun i => {i with set := none, pendAt := some 3}) ∘ msg 5 [] ∘ upl (crc32c bodyB))) = [2, 5, 6, 9, 12] ∧
    islandTimedResults1 (isb 2 prm ((fun i => {i with lockoutAt := some 4}) ∘ msg 7 (leBytes 4 9))) = [2, 3, 8, 9, 13, 16, 18, 20, 22] ∧
    islandTimedResults1 { isb 3 prm (fun i => {i with edgePhase := .high (T0 - ms 3001)}) with clk := {} } = [1, 3, 6, 9, 13, 16, 18, 20, 22] ∧
    islandTimedResults1 (isb 3 prm (fun i => {i with edgePhase := .high (T0 - ms 2999)})) = [0, 3, 6, 9, 13, 16, 18, 20, 22] ∧
    islandTimedResults1 (isb 3 prm (fun i => {i with pendAt := some (T0 - ms 59999)})) = [2, 4, 6, 9, 13, 16, 18, 20, 22] ∧
    islandTimedResults1 (isb 3 prm (fun i => {i with lockoutAt := some (T0 - ms 599999)})) = [2, 3, 7, 9, 13, 16, 18, 20, 22] ∧
    islandTimedResults1 (isb 3 prm (fun i => {i with armedAt := some (T0 - ms 60000)})) = [2, 3, 6, 11, 13, 16, 18, 20, 22] ∧
    islandTimedResults1 (isb 3 prm (fun i => {i with armedAt := some (T0 - ms 59999)})) = [2, 3, 6, 10, 13, 16, 18, 20, 22] ∧
    islandTimedResults1 (isb 4 prm (fun i => {i with handoverAt := some (T0 - ms 60)})) = [2, 3, 6, 9, 15, 16, 18, 20, 22] ∧
    islandTimedResults1 (isb 4 prm (fun i => {i with handoverAt := some (T0 - ms 6)})) = [2, 3, 6, 9, 14, 16, 18, 20, 22] ∧
    islandTimedResults1 (isb 4 prm (fun i => {i with recordAt := T0 - ms 34})) = [2, 3, 6, 9, 13, 17, 18, 20, 22] ∧
    islandTimedResults1 (isb 4 prm id (fun s => s.setOn HDL_STATE.DEGRADED 0 true)) = [2, 3, 6, 9, 13, 16, 19, 20, 22] ∧
    islandTimedResults1 (isb 4 prm (fun i => {i with computeAt := T0 - ms 35})) = [2, 3, 6, 9, 13, 16, 18, 21, 22] ∧
    islandTimedResults1 (isb 4 prm (fun i => {i with computeAt := T0 - ms 35, localAt := some 5})) = [2, 3, 6, 9, 13, 16, 18, 20, 23] ∧
    islandTimedResults1 (isb 4 prm (fun i => {i with localAt := some (T0 - ms 5)}) (fun s => s.setOn HDL_STATE.AUTH 0 true)) = [2, 3, 6, 9, 13, 16, 18, 20, 24] ∧
    islandTimedResults2 State.reset 0 = [0] ∧
    islandTimedResults2 ((((List.range 11).flatMap fun t => [isb 0 prm (msg (t+1) (pw8 5 7)), isb 3 prm (msg (t+1) (pw8 5 7)), isb 4 prm (msg (t+1) (pw8 5 7)), isb 3 prm (msg (t+1) (pw8 5 7)) (fun s => s.setOn HDL_PWRITE.BUSY 0 true)]) : List (State)).getD 1 .reset) 0 = [1] ∧
    islandTimedResults3 State.reset false = [0] ∧
    islandTimedResults3 ((((List.range 11).flatMap fun t => [isb 0 prm (msg (t+1) (pw8 5 7)), isb 3 prm (msg (t+1) (pw8 5 7)), isb 4 prm (msg (t+1) (pw8 5 7)), isb 3 prm (msg (t+1) (pw8 5 7)) (fun s => s.setOn HDL_PWRITE.BUSY 0 true)]) : List (State)).getD 1 .reset) true = [1] ∧
    islandTimedResults4 State.reset false = [0] ∧
    islandTimedResults4 (isb 2 prm (fun i => {i with pwrite := some { copy := 1, bytes := copyBytes 6 (crc32c bodyB) 0 false false [0,0,0,0] bodyB, confirm := false}})) false = [1] ∧
    islandTimedResults4 (isb 2 prm (fun i => {i with pwrite := some { copy := 1, bytes := copyBytes 6 (crc32c bodyB) 0 false false [0,0,0,0] bodyB, confirm := false}})) true = [3] ∧
    islandTimedResults4 (isb 2 prm (fun i => {i with pwrite := some { copy := 1, bytes := copyBytes 6 (crc32c bodyB) 7 true true [1,2,3,4] bodyB, confirm := true}})) true = [2] := by
  decide +kernel

end ForIslandTimedResults

namespace ForIslandStartAndFailResults

def isr : IslandRec := { expectSeal := 0x115, safeLoop := 2, missTol := 2, framePeriod := 16666667, grace := 5, degradeTime := 10, single := false, lockupReact := true, lossStop := 1, degradeSls := [255,255,255,255] }
def smap (a b c : Nat) : StopMap := ⟨a, b, c⟩
def axr : AxisRec := { used := true, encoder := true, restart := false, global := true, invert := false, lines := 1024, refPos := 100, poles := 4, faultStop := 0, rs := 100, ls := 100, iscale := 100, vscale := 100, psi := 1000, resMax := 50, emfTol := 10, obsMin := 100, xchk := 50, sstill := 5, sosWin := 10, ssmLimit := 50, ssmHyst := 5, decel := 100, rampTol := 10, ssDelay := 10, tSs := 100, tBlind := 50, defSls := none, defSlp := none, defSdi := none }
def prm : Params := { island := isr, inputs := [(0, ⟨1, 10, smap 1 1 0⟩), (3, ⟨2, 10, smap 2 0 0xFF⟩)], outputs := [(0, ⟨true, false, none, 20⟩), (1, ⟨true, true, some 0, 20⟩)], axes := [(0, axr), (1, { axr with invert := true, restart := true, encoder := false })], limits := [⟨0, 1, 0, .sls 500 0⟩] }
def pset (p : Params := prm) (valid : Bool := true) : ParamSet :=
  { copy := 0, seq := 5, pcrc := 0x1234, confC := checkValue 0x1234 true [1,2,3,4], valid := valid, bind := true, ids := [1,2,3,4], params := p }
def T0 : Nat := 700000000000
def isb (hs : Nat) (p : Params := prm) (f : Island → Island := id) (g : State → State := id) : State :=
  let s := (up.setHs hs).setF HDL_SEAL.LATCHED 0 0x115 |>.setF HDL_SEAL.LIVE 0 0x115 |>.setF HDL_PCRC.PCRC 0 0x1234 |>.setF HDL_CYCLE.COUNT 0 700000
  g { s with isl := f { t := T0, image := true, ids := [1,2,3,4], set := some (pset p), recordAt := T0, computeAt := T0, pulseAt := [T0, T0], chans := [(0, {cmd := true}), (1, {}), (8, {cmd := true}), (9, {})], axes := [(0, { state := 0 }), (1, {})], inputs := [(0, { on := true, high := true }), (3, {})], outputs := [(0, { ev := true }), (1, {})] } }

/-- The clauses of IslandStartAndFailResults whose hypotheses hold. -/
def islandStartAndFailResults1 (s : State) (seals : BitVec 12) (test : Bool) (offs : Bool) : List Nat :=
  (let n := seals.toNat
   let valid := n % 256 ≠ 0 ∧ n % 256 ≠ 255 ∧ (n / 256 % 4 = 1 ∨ n / 256 % 4 = 2) ∧
     n / 1024 = (((List.range 10).map fun k => n / 2 ^ k % 2).sum) % 4
   clause 0 (s.hs ≠ hsStartup) ++
   (if s.hs = hsStartup then
     clause 1 (test = false ∨ ¬valid ∨ offs = false) ++
     clause 2 (test = true ∧ valid ∧ offs = true)
    else []))

/-- The clauses of IslandStartAndFailResults whose hypotheses hold. -/
def islandStartAndFailResults2 (s : State) (digestOk : Bool) : List Nat :=
  (let n := s.f HDL_FAILCNT.COUNT 0
   [0] ++
   clause 1 (s.hs = hsFail ∧ s.isl.resetDue = false) ++
   clause 2 (s.hs ≠ hsFail ∨ s.isl.resetDue = true) ++
   [3] ++
   clause 4 (s.isl.resetDue = false) ++
   clause 5 (s.isl.resetDue = true) ++
   clause 6 (n < 2) ++
   clause 7 (2 ≤ n))

theorem test_hypotheses :
    islandStartAndFailResults1 State.reset 0x115 false false = [0] ∧
    islandStartAndFailResults1 (isb 1) 0x115 false false = [1] ∧
    islandStartAndFailResults1 (isb 1) 0x115 true true = [2] ∧
    islandStartAndFailResults2 State.reset false = [0, 2, 3, 4, 6] ∧
    islandStartAndFailResults2 (isb 4 prm (fun i => {i with resetDue := true}) (fun s => s.setF HDL_FAILCNT.COUNT 0 3)) false = [0, 2, 3, 5, 7] ∧
    islandStartAndFailResults2 (isb 6) false = [0, 1, 3, 4, 6] := by
  decide +kernel

end ForIslandStartAndFailResults

namespace ForSafetyCycleResults

def isr : IslandRec := { expectSeal := 0x115, safeLoop := 2, missTol := 2, framePeriod := 16666667, grace := 5, degradeTime := 10, single := false, lockupReact := true, lossStop := 1, degradeSls := [255,255,255,255] }
def smap (a b c : Nat) : StopMap := ⟨a, b, c⟩
def axr : AxisRec := { used := true, encoder := true, restart := false, global := true, invert := false, lines := 1024, refPos := 100, poles := 4, faultStop := 0, rs := 100, ls := 100, iscale := 100, vscale := 100, psi := 1000, resMax := 50, emfTol := 10, obsMin := 100, xchk := 50, sstill := 5, sosWin := 10, ssmLimit := 50, ssmHyst := 5, decel := 100, rampTol := 10, ssDelay := 10, tSs := 100, tBlind := 50, defSls := none, defSlp := none, defSdi := none }
def prm : Params := { island := isr, inputs := [(0, ⟨1, 10, smap 1 1 0⟩), (3, ⟨2, 10, smap 2 0 0xFF⟩)], outputs := [(0, ⟨true, false, none, 20⟩), (1, ⟨true, true, some 0, 20⟩)], axes := [(0, axr), (1, { axr with invert := true, restart := true, encoder := false })], limits := [⟨0, 1, 0, .sls 500 0⟩] }
def pset (p : Params := prm) (valid : Bool := true) : ParamSet :=
  { copy := 0, seq := 5, pcrc := 0x1234, confC := checkValue 0x1234 true [1,2,3,4], valid := valid, bind := true, ids := [1,2,3,4], params := p }
def T0 : Nat := 700000000000
def isb (hs : Nat) (p : Params := prm) (f : Island → Island := id) (g : State → State := id) : State :=
  let s := (up.setHs hs).setF HDL_SEAL.LATCHED 0 0x115 |>.setF HDL_SEAL.LIVE 0 0x115 |>.setF HDL_PCRC.PCRC 0 0x1234 |>.setF HDL_CYCLE.COUNT 0 700000
  g { s with isl := f { t := T0, image := true, ids := [1,2,3,4], set := some (pset p), recordAt := T0, computeAt := T0, pulseAt := [T0, T0], chans := [(0, {cmd := true}), (1, {}), (8, {cmd := true}), (9, {})], axes := [(0, { state := 0 }), (1, {})], inputs := [(0, { on := true, high := true }), (3, {})], outputs := [(0, { ev := true }), (1, {})] } }
def blk (k : Nat) (req : List (Nat × Nat × Nat)) : List Byte :=
  let h := leBytes 4 0x51484B31 ++ leBytes 4 k ++ leBytes 1 2 ++ leBytes 1 req.length ++ [0,0]
  let t := (req.flatMap fun r => leBytes 1 r.1 ++ leBytes 1 r.2.1 ++ leBytes 2 r.2.2 ++ List.replicate 12 0)
  let t := t ++ List.replicate (240 - t.length) 0
  h ++ leBytes 4 (crc32c (h ++ t)) ++ t
def au (s : State) : State := s.setOn HDL_STATE.AUTH 0 true
def rel (l k : Nat) (b : List Byte) (i : Island) : Island := { i with records := [.release l k b], accepted := true }

/-- The clauses of SafetyCycleResults whose hypotheses hold. -/
def safetyCycleResults1 (s : State) (seals : BitVec 12) (veto : BitVec 2) (pulsed : BitVec 2) : List Nat :=
  [0] ++
  clause 1 (s.functional = true) ++
  clause 2 (s.functional = false)

/-- The clauses of SafetyCycleResults whose hypotheses hold. -/
def safetyCycleResults2 (s : State) : List Nat :=
  (match s.params?, s.isl.records with
   | some p, [.release l k b] => clause 0 (s.current p.island l k = false) ++
      (if s.current p.island l k = true then
        (match requestSet p b l k with
         | none => [1]
         | some reqs => [2])
       else [])
   | _, _ => [3]) ++
  clause 4 (s.faulted = false) ++
  (if s.faulted = true ∧ (s.hs = hsOperational ∨ s.hs = hsStopped) then
    [5] ++
    clause 6 (s.clk.pwrfail = true)
   else []) ++
  clause 7 (s.isl.edge = false) ++
  (if s.isl.edge = true ∧ s.isl.pendAt = none then
    clause 8 (s.hs = hsFault ∧ s.faulted = false) ++
    (if s.hs = hsStopped then
      clause 9 (s.isl.armedAt.isSome = true ∧ s.confBound = true) ++
      clause 10 (s.isl.armedAt = none ∨ s.confBound = false)
     else [])
   else [])

theorem test_hypotheses :
    safetyCycleResults1 State.reset 0x115 0 0 = [0, 2] ∧
    safetyCycleResults1 (au (isb 4)) 0x115 0 0 = [0, 1] ∧
    safetyCycleResults2 (isb 4 prm id (fun s => {s with clk := {s.clk with pwrfail := true}})) = [3, 5, 6, 7] ∧
    safetyCycleResults2 (au (isb 4 prm (rel 2 7 (blk 7 [(1,0,0)])))) = [2, 4, 7] ∧
    safetyCycleResults2 (au (isb 4 prm (rel 2 7 (blk 7 [(1,4,0)])))) = [1, 4, 7] ∧
    safetyCycleResults2 (au (isb 4 prm (rel 3 7 (blk 7 [])))) = [0, 4, 7] ∧
    safetyCycleResults2 (isb 5 prm (fun i => {i with edge := true})) = [3, 4, 8] ∧
    safetyCycleResults2 (isb 3 prm (fun i => {i with edge := true, armedAt := some 5})) = [3, 4, 9] ∧
    safetyCycleResults2 (isb 3 prm (fun i => {i with edge := true, armedAt := some 5, untested := true, ids := [1,2,3,9]})) = [3, 4, 10] := by
  decide +kernel

end ForSafetyCycleResults

namespace ForSafeOutputsNeedEveryCondition

def isr : IslandRec := { expectSeal := 0x115, safeLoop := 2, missTol := 2, framePeriod := 16666667, grace := 5, degradeTime := 10, single := false, lockupReact := true, lossStop := 1, degradeSls := [255,255,255,255] }
def smap (a b c : Nat) : StopMap := ⟨a, b, c⟩
def axr : AxisRec := { used := true, encoder := true, restart := false, global := true, invert := false, lines := 1024, refPos := 100, poles := 4, faultStop := 0, rs := 100, ls := 100, iscale := 100, vscale := 100, psi := 1000, resMax := 50, emfTol := 10, obsMin := 100, xchk := 50, sstill := 5, sosWin := 10, ssmLimit := 50, ssmHyst := 5, decel := 100, rampTol := 10, ssDelay := 10, tSs := 100, tBlind := 50, defSls := none, defSlp := none, defSdi := none }
def prm : Params := { island := isr, inputs := [(0, ⟨1, 10, smap 1 1 0⟩), (3, ⟨2, 10, smap 2 0 0xFF⟩)], outputs := [(0, ⟨true, false, none, 20⟩), (1, ⟨true, true, some 0, 20⟩)], axes := [(0, axr), (1, { axr with invert := true, restart := true, encoder := false })], limits := [⟨0, 1, 0, .sls 500 0⟩] }
def pset (p : Params := prm) (valid : Bool := true) : ParamSet :=
  { copy := 0, seq := 5, pcrc := 0x1234, confC := checkValue 0x1234 true [1,2,3,4], valid := valid, bind := true, ids := [1,2,3,4], params := p }
def T0 : Nat := 700000000000
def isb (hs : Nat) (p : Params := prm) (f : Island → Island := id) (g : State → State := id) : State :=
  let s := (up.setHs hs).setF HDL_SEAL.LATCHED 0 0x115 |>.setF HDL_SEAL.LIVE 0 0x115 |>.setF HDL_PCRC.PCRC 0 0x1234 |>.setF HDL_CYCLE.COUNT 0 700000
  g { s with isl := f { t := T0, image := true, ids := [1,2,3,4], set := some (pset p), recordAt := T0, computeAt := T0, pulseAt := [T0, T0], chans := [(0, {cmd := true}), (1, {}), (8, {cmd := true}), (9, {})], axes := [(0, { state := 0 }), (1, {})], inputs := [(0, { on := true, high := true }), (3, {})], outputs := [(0, { ev := true }), (1, {})] } }
def au (s : State) : State := s.setOn HDL_STATE.AUTH 0 true
def perm (i : Island) : Island := { i with reqs := [{code := 1, target := 0, index := 0}, {code := 1, target := 1, index := 0}] }
def pinsOk (i : Island) : Island := { i with deb := { i.deb with si := 0x101, cfb := 15 } }
def noin : Params := { prm with inputs := [], island := { isr with single := true } }

/-- A functional island whose commanded outputs stay on through a safety cycle. -/
theorem test_hypotheses :
    (au (isb 4 noin (perm ∘ pinsOk))).functional = true ∧
    (match exec (.safetyCycle 0x115 0 0) (au (isb 4 noin (perm ∘ pinsOk))) with
      | .next u => u.isl.chans.any fun c => c.2.cmd && decide (c.1 < 8)
      | _ => false) = true := by
  decide +kernel

end ForSafeOutputsNeedEveryCondition

namespace ForSafeInputResults

def isr : IslandRec := { expectSeal := 0x115, safeLoop := 2, missTol := 2, framePeriod := 16666667, grace := 5, degradeTime := 10, single := false, lockupReact := true, lossStop := 1, degradeSls := [255,255,255,255] }
def smap (a b c : Nat) : StopMap := ⟨a, b, c⟩
def axr : AxisRec := { used := true, encoder := true, restart := false, global := true, invert := false, lines := 1024, refPos := 100, poles := 4, faultStop := 0, rs := 100, ls := 100, iscale := 100, vscale := 100, psi := 1000, resMax := 50, emfTol := 10, obsMin := 100, xchk := 50, sstill := 5, sosWin := 10, ssmLimit := 50, ssmHyst := 5, decel := 100, rampTol := 10, ssDelay := 10, tSs := 100, tBlind := 50, defSls := none, defSlp := none, defSdi := none }
def prm : Params := { island := isr, inputs := [(0, ⟨1, 10, smap 1 1 0⟩), (3, ⟨2, 10, smap 2 0 0xFF⟩)], outputs := [(0, ⟨true, false, none, 20⟩), (1, ⟨true, true, some 0, 20⟩)], axes := [(0, axr), (1, { axr with invert := true, restart := true, encoder := false })], limits := [⟨0, 1, 0, .sls 500 0⟩] }
def pset (p : Params := prm) (valid : Bool := true) : ParamSet :=
  { copy := 0, seq := 5, pcrc := 0x1234, confC := checkValue 0x1234 true [1,2,3,4], valid := valid, bind := true, ids := [1,2,3,4], params := p }
def T0 : Nat := 700000000000
def isb (hs : Nat) (p : Params := prm) (f : Island → Island := id) (g : State → State := id) : State :=
  let s := (up.setHs hs).setF HDL_SEAL.LATCHED 0 0x115 |>.setF HDL_SEAL.LIVE 0 0x115 |>.setF HDL_PCRC.PCRC 0 0x1234 |>.setF HDL_CYCLE.COUNT 0 700000
  g { s with isl := f { t := T0, image := true, ids := [1,2,3,4], set := some (pset p), recordAt := T0, computeAt := T0, pulseAt := [T0, T0], chans := [(0, {cmd := true}), (1, {}), (8, {cmd := true}), (9, {})], axes := [(0, { state := 0 }), (1, {})], inputs := [(0, { on := true, high := true }), (3, {})], outputs := [(0, { ev := true }), (1, {})] } }

/-- The clauses of SafeInputAndOutputResults whose hypotheses hold. -/
def safeInputResults1 (old : Pins) (a : Pins) (b : Pins) (c : Pins) (d : Pins) : List Nat :=
  (([0, 1, 5, 1024] : List (Nat)).flatMap fun (m : Nat) => (if m < 16 then
      (let same := a.si.getLsbD m = b.si.getLsbD m ∧ b.si.getLsbD m = c.si.getLsbD m ∧ c.si.getLsbD m = d.si.getLsbD m
       clause 0 (same) ++
       clause 1 (¬same))
     else []))

/-- The clauses of SafeInputAndOutputResults whose hypotheses hold. -/
def safeInputResults2 (s : State) (n : Fin 8) : List Nat :=
  (match s.inputRec? n, find n.val s.isl.inputs with
   | some r, some i => (match i.differAt with
       | none => [0]
       | some t => clause 1 (s.cycleTime - t < ms r.discTime) ++
          clause 2 (ms r.discTime ≤ s.cycleTime - t))
   | _, _ => [3])

/-- The clauses of SafeInputAndOutputResults whose hypotheses hold. -/
def safeInputResults3 (s : State) (strobe : Bool) (pins : Pins) : List Nat :=
  (let own := if strobe then 1 else 0
   let due := s.functional = true ∧ s.f HDL_CYCLE.COUNT 0 % 20 = 10 * own ∧ s.isl.testedAt ≠ some (s.f HDL_CYCLE.COUNT 0)
   clause 0 (¬due) ++
   clause 1 (due))

/-- The clauses of SafeInputAndOutputResults whose hypotheses hold. -/
def safeInputResults4 (i : InputSt) (lo : Bool) (hi : Bool) : List Nat :=
  (([0, 1, 5, 1024] : List (Nat)).flatMap fun (own : Nat) => (if own < 2 then
      (let x := i.tested own lo hi
       clause 0 (lo = false ∧ 1 ≤ i.stuckRun.getD own 0 ∧ i.stuckRun.length = 2) ++
       clause 1 (hi = false ∧ 1 ≤ i.crossRun.getD (1 - own) 0 ∧ i.crossRun.length = 2) ++
       clause 2 (x.on = true))
     else []))

theorem test_hypotheses :
    safeInputResults1 {} {} {} {} {si := 5} = [1, 0, 0] ∧
    safeInputResults2 State.reset 0 = [3] ∧
    safeInputResults2 (isb 0) 0 = [0] ∧
    safeInputResults2 (isb 4 prm (fun i => {i with inputs := [(0, { differAt := some (T0 - ms 10) }), (3, {})]})) 0 = [2] ∧
    safeInputResults2 (isb 4 prm (fun i => {i with inputs := [(0, { differAt := some (T0 - ms 9) }), (3, {})]})) 0 = [1] ∧
    safeInputResults3 State.reset false {} = [0] ∧
    safeInputResults3 (isb 3) false {} = [1] ∧
    safeInputResults4 {stuckRun := [1,0], on := true} false false = [0, 2] ∧
    safeInputResults4 {crossRun := [1,0], on := true} false false = [2, 1] := by
  decide +kernel

end ForSafeInputResults

namespace ForSafeOutputResults

def isr : IslandRec := { expectSeal := 0x115, safeLoop := 2, missTol := 2, framePeriod := 16666667, grace := 5, degradeTime := 10, single := false, lockupReact := true, lossStop := 1, degradeSls := [255,255,255,255] }
def smap (a b c : Nat) : StopMap := ⟨a, b, c⟩
def axr : AxisRec := { used := true, encoder := true, restart := false, global := true, invert := false, lines := 1024, refPos := 100, poles := 4, faultStop := 0, rs := 100, ls := 100, iscale := 100, vscale := 100, psi := 1000, resMax := 50, emfTol := 10, obsMin := 100, xchk := 50, sstill := 5, sosWin := 10, ssmLimit := 50, ssmHyst := 5, decel := 100, rampTol := 10, ssDelay := 10, tSs := 100, tBlind := 50, defSls := none, defSlp := none, defSdi := none }
def prm : Params := { island := isr, inputs := [(0, ⟨1, 10, smap 1 1 0⟩), (3, ⟨2, 10, smap 2 0 0xFF⟩)], outputs := [(0, ⟨true, false, none, 20⟩), (1, ⟨true, true, some 0, 20⟩)], axes := [(0, axr), (1, { axr with invert := true, restart := true, encoder := false })], limits := [⟨0, 1, 0, .sls 500 0⟩] }
def pset (p : Params := prm) (valid : Bool := true) : ParamSet :=
  { copy := 0, seq := 5, pcrc := 0x1234, confC := checkValue 0x1234 true [1,2,3,4], valid := valid, bind := true, ids := [1,2,3,4], params := p }
def T0 : Nat := 700000000000
def isb (hs : Nat) (p : Params := prm) (f : Island → Island := id) (g : State → State := id) : State :=
  let s := (up.setHs hs).setF HDL_SEAL.LATCHED 0 0x115 |>.setF HDL_SEAL.LIVE 0 0x115 |>.setF HDL_PCRC.PCRC 0 0x1234 |>.setF HDL_CYCLE.COUNT 0 700000
  g { s with isl := f { t := T0, image := true, ids := [1,2,3,4], set := some (pset p), recordAt := T0, computeAt := T0, pulseAt := [T0, T0], chans := [(0, {cmd := true}), (1, {}), (8, {cmd := true}), (9, {})], axes := [(0, { state := 0 }), (1, {})], inputs := [(0, { on := true, high := true }), (3, {})], outputs := [(0, { ev := true }), (1, {})] } }

/-- The clauses of SafeInputAndOutputResults whose hypotheses hold. -/
def safeOutputResults1 (x : OutputSt) (r : OutputRec) (may : Bool) (closed : Bool) (edge : Bool) (t : Nat) : List Nat :=
  (let y := x.cycle r may closed edge t
   [0] ++
   clause 1 (x.ev = false ∧ y.refused = true))

/-- The clauses of SafeInputAndOutputResults whose hypotheses hold. -/
def safeOutputResults2 (s : State) (i : Fin 16) (off : Bool) (back : Bool) : List Nat :=
  (match s.params?, find i.val s.isl.chans with
   | some p, some c => (let due := testNumber (ms p.opPeriod) i.val s.islTime
       let new := due ≠ none ∧ c.lastTest ≠ due
       clause 0 (¬new) ++
       (if new then
         clause 1 (c.cmd = false) ++
         clause 2 (c.cmd = true)
        else []))
   | _, _ => [3])

/-- The clauses of SafeInputAndOutputResults whose hypotheses hold. -/
def safeOutputResults3 (c : ChanSt) (off : Bool) (back : Bool) (on : Bool) : List Nat :=
  (let z := c.check on
   [0] ++
   clause 1 (10 ≤ z.offRun) ++
   clause 2 (c.cmd = true ∧ on = false ∧ c.offRun < 9) ++
   clause 3 (c.cmd = false ∧ on = true))

/-- The clauses of SafeInputAndOutputResults whose hypotheses hold. -/
def safeOutputResults4 (s : State) (o : Fin 4) : List Nat :=
  (match s.params?.bind (fun p => find o.val p.outputs), find o.val s.isl.outputs with
   | some r, some x => (match x.cfDue with
       | none => [0]
       | some d => clause 1 (s.islTime < d) ++
          clause 2 (d ≤ s.islTime))
   | _, _ => [3])

theorem test_hypotheses :
    safeOutputResults1 {} (⟨true, false, none, 20⟩) true false false 0 = [0, 1] ∧
    safeOutputResults2 State.reset 0 false false = [3] ∧
    safeOutputResults2 (isb 0) 0 false false = [2] ∧
    safeOutputResults2 (isb 0) 1 false false = [1] ∧
    safeOutputResults2 (isb 4 prm (fun i => {i with chans := [(0, {cmd := true, lastTest := some 7000}), (1, {cmd := true, stuckRun := 1}), (8, {cmd := false})]})) 0 false false = [0] ∧
    safeOutputResults3 {} false false true = [0, 3] ∧
    safeOutputResults3 {cmd := true} false false false = [0, 2] ∧
    safeOutputResults3 {offRun := 9, stuck := true} false false false = [0, 1] ∧
    safeOutputResults4 State.reset 0 = [3] ∧
    safeOutputResults4 (isb 0) 0 = [0] ∧
    safeOutputResults4 (isb 4 prm (fun i => {i with outputs := [(0, {ev := true, cfDue := some T0}), (1, {ev := true, cfDue := some T0})]})) 0 = [2] ∧
    safeOutputResults4 (isb 4 prm (fun i => {i with outputs := [(0, {ev := false, cfDue := some (T0+1)}), (1, {ev := true, weld := true, cfDue := some 3})], deb := {i.deb with cfb := 1}})) 0 = [1] := by
  decide +kernel

end ForSafeOutputResults

namespace ForMotionCountingResults

def isr : IslandRec := { expectSeal := 0x115, safeLoop := 2, missTol := 2, framePeriod := 16666667, grace := 5, degradeTime := 10, single := false, lockupReact := true, lossStop := 1, degradeSls := [255,255,255,255] }
def smap (a b c : Nat) : StopMap := ⟨a, b, c⟩
def axr : AxisRec := { used := true, encoder := true, restart := false, global := true, invert := false, lines := 1024, refPos := 100, poles := 4, faultStop := 0, rs := 100, ls := 100, iscale := 100, vscale := 100, psi := 1000, resMax := 50, emfTol := 10, obsMin := 100, xchk := 50, sstill := 5, sosWin := 10, ssmLimit := 50, ssmHyst := 5, decel := 100, rampTol := 10, ssDelay := 10, tSs := 100, tBlind := 50, defSls := none, defSlp := none, defSdi := none }
def prm : Params := { island := isr, inputs := [(0, ⟨1, 10, smap 1 1 0⟩), (3, ⟨2, 10, smap 2 0 0xFF⟩)], outputs := [(0, ⟨true, false, none, 20⟩), (1, ⟨true, true, some 0, 20⟩)], axes := [(0, axr), (1, { axr with invert := true, restart := true, encoder := false })], limits := [⟨0, 1, 0, .sls 500 0⟩] }
def pset (p : Params := prm) (valid : Bool := true) : ParamSet :=
  { copy := 0, seq := 5, pcrc := 0x1234, confC := checkValue 0x1234 true [1,2,3,4], valid := valid, bind := true, ids := [1,2,3,4], params := p }
def T0 : Nat := 700000000000
def isb (hs : Nat) (p : Params := prm) (f : Island → Island := id) (g : State → State := id) : State :=
  let s := (up.setHs hs).setF HDL_SEAL.LATCHED 0 0x115 |>.setF HDL_SEAL.LIVE 0 0x115 |>.setF HDL_PCRC.PCRC 0 0x1234 |>.setF HDL_CYCLE.COUNT 0 700000
  g { s with isl := f { t := T0, image := true, ids := [1,2,3,4], set := some (pset p), recordAt := T0, computeAt := T0, pulseAt := [T0, T0], chans := [(0, {cmd := true}), (1, {}), (8, {cmd := true}), (9, {})], axes := [(0, { state := 0 }), (1, {})], inputs := [(0, { on := true, high := true }), (3, {})], outputs := [(0, { ev := true }), (1, {})] } }

/-- The clauses of MotionCountingResults whose hypotheses hold. -/
def motionCountingResults1 (s : State) (n : Fin 4) (a : Bool) (b : Bool) : List Nat :=
  (match s.axis? n with
   | none => [0]
   | some (r, x) => (let live := s.functional = true ∧ r.encoder = true
       clause 1 (¬live) ++
       (if live then
         clause 2 ((x.encA, x.encB, a, b) ∈ [(false, false, true, false), (true, false, true, true), (true, true, false, true), (false, true, false, false)]) ++
         clause 3 ((x.encA, x.encB, a, b) ∈ [(false, false, false, true), (false, true, true, true), (true, true, true, false), (true, false, false, false)]) ++
         clause 4 (a ≠ x.encA ∧ b ≠ x.encB) ++
         clause 5 (a = x.encA ∧ b = x.encB) ++
         [6]
        else [])))

/-- The clauses of MotionCountingResults whose hypotheses hold. -/
def motionCountingResults2 (d : Int) (lines : Nat) : List Nat :=
  (if 0 < lines then
    [0]
   else [])

/-- The clauses of MotionCountingResults whose hypotheses hold. -/
def motionCountingResults3 (s : State) (n : Fin 4) (bits : SdBits) : List Nat :=
  (match s.axis? n with
   | none => [0]
   | some (r, x) => clause 1 (s.functional = false) ++
      clause 2 (s.functional = true))

/-- The clauses of MotionCountingResults whose hypotheses hold. -/
def motionCountingResults4 (o : Observer) (r : AxisRec) (close : Bool) : List Nat :=
  clause 0 (o.isPlausible r = false) ++
  clause 1 (o.isPlausible r = true)

theorem test_hypotheses :
    motionCountingResults1 (isb 3) 0 false false = [5, 6] ∧
    motionCountingResults1 State.reset 0 false false = [0] ∧
    motionCountingResults1 (isb 0) 0 false false = [1] ∧
    motionCountingResults1 (isb 3) 0 false true = [3, 6] ∧
    motionCountingResults1 (isb 3) 0 true false = [2, 6] ∧
    motionCountingResults1 (isb 3) 0 true true = [4, 6] ∧
    motionCountingResults2 0 1 = [0] ∧
    motionCountingResults3 State.reset 0 {} = [0] ∧
    motionCountingResults3 (isb 0) 0 {} = [1] ∧
    motionCountingResults3 (isb 3) 0 {} = [2] ∧
    motionCountingResults4 {} axr false = [1] ∧
    motionCountingResults4 {implausible := 7, r := 0x7F000000} axr false = [0] := by
  decide +kernel

end ForMotionCountingResults

namespace ForStopAndLimitResults

def isr : IslandRec := { expectSeal := 0x115, safeLoop := 2, missTol := 2, framePeriod := 16666667, grace := 5, degradeTime := 10, single := false, lockupReact := true, lossStop := 1, degradeSls := [255,255,255,255] }
def smap (a b c : Nat) : StopMap := ⟨a, b, c⟩
def axr : AxisRec := { used := true, encoder := true, restart := false, global := true, invert := false, lines := 1024, refPos := 100, poles := 4, faultStop := 0, rs := 100, ls := 100, iscale := 100, vscale := 100, psi := 1000, resMax := 50, emfTol := 10, obsMin := 100, xchk := 50, sstill := 5, sosWin := 10, ssmLimit := 50, ssmHyst := 5, decel := 100, rampTol := 10, ssDelay := 10, tSs := 100, tBlind := 50, defSls := none, defSlp := none, defSdi := none }
def prm : Params := { island := isr, inputs := [(0, ⟨1, 10, smap 1 1 0⟩), (3, ⟨2, 10, smap 2 0 0xFF⟩)], outputs := [(0, ⟨true, false, none, 20⟩), (1, ⟨true, true, some 0, 20⟩)], axes := [(0, axr), (1, { axr with invert := true, restart := true, encoder := false })], limits := [⟨0, 1, 0, .sls 500 0⟩] }
def pset (p : Params := prm) (valid : Bool := true) : ParamSet :=
  { copy := 0, seq := 5, pcrc := 0x1234, confC := checkValue 0x1234 true [1,2,3,4], valid := valid, bind := true, ids := [1,2,3,4], params := p }
def T0 : Nat := 700000000000
def isb (hs : Nat) (p : Params := prm) (f : Island → Island := id) (g : State → State := id) : State :=
  let s := (up.setHs hs).setF HDL_SEAL.LATCHED 0 0x115 |>.setF HDL_SEAL.LIVE 0 0x115 |>.setF HDL_PCRC.PCRC 0 0x1234 |>.setF HDL_CYCLE.COUNT 0 700000
  g { s with isl := f { t := T0, image := true, ids := [1,2,3,4], set := some (pset p), recordAt := T0, computeAt := T0, pulseAt := [T0, T0], chans := [(0, {cmd := true}), (1, {}), (8, {cmd := true}), (9, {})], axes := [(0, { state := 0 }), (1, {})], inputs := [(0, { on := true, high := true }), (3, {})], outputs := [(0, { ev := true }), (1, {})] } }
def axs (x : AxisSt) (f : Island → Island := id) (hs : Nat := 4) (p : Params := prm) : State := (isb hs p (f ∘ fun i => {i with axes := [(0, x), (1, x)]})).setOn HDL_STATE.AUTH 0 true
def xr : List AxisSt := [{ state := 3, dstpAt := some (T0 - ms 50) }, { state := 3, dstpAt := some (T0 - ms 49), acked := true }, { state := 3, dstpAt := some (T0 - ms 1)}, { state := 0, dstpAt := some 5 }, { state := 1, ramp := some ⟨false, T0 - ms 100, {}⟩ }, { state := 1, ramp := some ⟨true, T0 - ms 100, {}⟩ }, { state := 1, ramp := some ⟨true, T0 - ms 100, {}⟩, bounds := [⟨50,1⟩], pos := 7 }, { state := 1, ramp := some ⟨true, T0 - ms 99, {}⟩, bounds := [⟨50,1⟩] },
  { state := 1, ramp := some ⟨false, T0 - ms 99, ⟨500,1⟩⟩, bounds := [⟨50,1⟩] }, { state := 1, ramp := some ⟨false, T0 - ms 99, ⟨500,1⟩⟩, bounds := [⟨5000,1⟩] }, { state := 0, sls := some 1, bounds := [⟨501,1⟩] }, { state := 0, sls := some 1, bounds := [⟨500,1⟩] }, { state := 4, faulted := true }, { state := 4 }, { state := 2 },
  { encA := true, pos := 5 }, { encA := true, encB := true, referenced := true, pos := 103, events := [true, true] }, { encB := true, referenced := true, pos := 101 , suspended := true, good := 1}, { referenced := true, pos := 101, suspended := true, obs := { lost := true } }, { obs := { lost := true }, faults := { encoder := true } }, { obs := { implausible := 7 } }]

/-- The clauses of StopAndLimitResults whose hypotheses hold. -/
def stopAndLimitResults1 (x : AxisSt) (r : AxisRec) (p : Params) (k : Nat) (encf : Bool) (c : AxisCtx) : List Nat :=
  (let y := (x.cycle r p k encf c).1
   clause 0 (c.active = false) ++
   (if c.active = true then
     clause 1 (0 ∈ c.demands) ++
     (if x.state = 0 ∧ x.slsFrom = none then
       (match p.kind? k 1 x.sls, x.sls.bind fun i => p.limit? k 1 i with
        | some (.sls lim _), some l => clause 2 (l.react = 0 ∧ x.u.le (Frac.of lim) = false)
        | _, _ => [3])
      else [])
    else []) ++
   (if x.state = 1 then
     (match x.ramp with
      | some m => clause 4 (m.ss2 = false)
      | none => [5])
    else []) ++
   (if x.state = 4 then
     [6] ++
     clause 7 (y.state = 0)
    else []))

/-- The clauses of StopAndLimitResults whose hypotheses hold. -/
def stopAndLimitResults2 (s : State) (n : Fin 4) : List Nat :=
  (match s.axis? n with
   | none => [0]
   | some (r, x) => (let now := s.cycleTime
       (match x.dstpAt with
        | none => [1]
        | some d => clause 2 (x.state ≠ 3 ∨ now < d + ms r.tBlind) ++
           clause 3 (x.state = 3 ∧ d + ms r.tBlind ≤ now) ++
           clause 4 (x.state ≠ 3 ∨ x.acked = true ∨ now < d + ms 2) ++
           clause 5 (x.state = 3 ∧ x.acked = false ∧ d + ms 2 ≤ now)) ++
       (match x.ramp with
        | none => [6]
        | some m => clause 7 (x.state ≠ 1 ∨ now < m.at' + ms r.tSs) ++
           (if x.state = 1 ∧ m.at' + ms r.tSs ≤ now then
             clause 8 (m.ss2 = false) ++
             (if m.ss2 = true then
               clause 9 (x.still r = true) ++
               clause 10 (x.still r = false)
              else [])
            else []))))

theorem test_hypotheses :
    stopAndLimitResults1 { state := 0, dstpAt := some 5 } axr prm 0 false (⟨T0, [0], true, false, true, false⟩) = [1, 3] ∧
    stopAndLimitResults1 { state := 1, ramp := some ⟨false, T0 - ms 100, {}⟩ } axr prm 0 false (⟨T0, [], false, false, false, false⟩) = [0, 4] ∧
    stopAndLimitResults1 { state := 4, faulted := true } axr prm 0 false (⟨T0, [], true, true, false, true⟩) = [6, 7] ∧
    stopAndLimitResults1 { state := 0, sls := some 1, bounds := [⟨501,1⟩] } axr prm 0 false (⟨T0, [], true, true, false, false⟩) = [2] ∧
    stopAndLimitResults2 ((xr.map (axs ·) : List (State)).getD 0 .reset) 0 = [3, 5, 6] ∧
    stopAndLimitResults2 ((xr.map (axs ·) : List (State)).getD 1 .reset) 0 = [2, 4, 6] ∧
    stopAndLimitResults2 ((xr.map (axs ·) : List (State)).getD 4 .reset) 0 = [1, 8] ∧
    stopAndLimitResults2 State.reset 0 = [0] ∧
    stopAndLimitResults2 ((xr.map (axs ·) : List (State)).getD 5 .reset) 0 = [1, 9] ∧
    stopAndLimitResults2 ((xr.map (axs ·) : List (State)).getD 6 .reset) 0 = [1, 10] ∧
    stopAndLimitResults2 ((xr.map (axs ·) : List (State)).getD 7 .reset) 0 = [1, 7] := by
  decide +kernel

end ForStopAndLimitResults

namespace ForHitchConnectionResults

def isr : IslandRec := { expectSeal := 0x115, safeLoop := 2, missTol := 2, framePeriod := 16666667, grace := 5, degradeTime := 10, single := false, lockupReact := true, lossStop := 1, degradeSls := [255,255,255,255] }
def smap (a b c : Nat) : StopMap := ⟨a, b, c⟩
def axr : AxisRec := { used := true, encoder := true, restart := false, global := true, invert := false, lines := 1024, refPos := 100, poles := 4, faultStop := 0, rs := 100, ls := 100, iscale := 100, vscale := 100, psi := 1000, resMax := 50, emfTol := 10, obsMin := 100, xchk := 50, sstill := 5, sosWin := 10, ssmLimit := 50, ssmHyst := 5, decel := 100, rampTol := 10, ssDelay := 10, tSs := 100, tBlind := 50, defSls := none, defSlp := none, defSdi := none }
def prm : Params := { island := isr, inputs := [(0, ⟨1, 10, smap 1 1 0⟩), (3, ⟨2, 10, smap 2 0 0xFF⟩)], outputs := [(0, ⟨true, false, none, 20⟩), (1, ⟨true, true, some 0, 20⟩)], axes := [(0, axr), (1, { axr with invert := true, restart := true, encoder := false })], limits := [⟨0, 1, 0, .sls 500 0⟩] }
def pset (p : Params := prm) (valid : Bool := true) : ParamSet :=
  { copy := 0, seq := 5, pcrc := 0x1234, confC := checkValue 0x1234 true [1,2,3,4], valid := valid, bind := true, ids := [1,2,3,4], params := p }
def T0 : Nat := 700000000000
def isb (hs : Nat) (p : Params := prm) (f : Island → Island := id) (g : State → State := id) : State :=
  let s := (up.setHs hs).setF HDL_SEAL.LATCHED 0 0x115 |>.setF HDL_SEAL.LIVE 0 0x115 |>.setF HDL_PCRC.PCRC 0 0x1234 |>.setF HDL_CYCLE.COUNT 0 700000
  g { s with isl := f { t := T0, image := true, ids := [1,2,3,4], set := some (pset p), recordAt := T0, computeAt := T0, pulseAt := [T0, T0], chans := [(0, {cmd := true}), (1, {}), (8, {cmd := true}), (9, {})], axes := [(0, { state := 0 }), (1, {})], inputs := [(0, { on := true, high := true }), (3, {})], outputs := [(0, { ev := true }), (1, {})] } }
def cnr (n : Nat) : ConnRec := { used := n != 3, ports := if n = 0 then [0] else if n = 1 then [1] else [0, 1], essential := false, ackReq := n == 1, peer := 0x20 + n, pcp := if n = 0 then none else some 3, mac := [2,0,0,0,0,n], vid := 5, period := 10000, wdog := 50, texp := 40, cchk := 0xAB00 + n, bits := [], retry := 100 }
def mac0 : List Byte := [2,0,0,0,1,0]
def mac1 : List Byte := [2,0,0,0,1,1]
def hp : Params := { prm with conns := [(0, cnr 0), (1, cnr 1), (2, cnr 2), (3, cnr 3)], ports := [(0, ⟨true, mac0⟩), (1, ⟨true, mac1⟩)] }
def rpdu (n session type seq echo reason : Nat) (d : List Byte) : List Byte :=
  pduBytes (virtualHeader (0x20 + n) 0x15 n session (0xAB00 + n)) type seq echo reason d
def hs' (ht : Nat) (f : ConnSt → ConnSt := id) (g : State → State := id) (p : Params := hp) (h : Nat := 4) : State :=
  let c : ConnSt := f { nonce := 77, startAt := T0 - ms 20, startDue := T0, lastRx := T0 - ms 5, openAt := T0 - ms 30, sent := 3, opened := true, kept := [(100, T0 - ms 5)], lostAt := T0 - ms 50 }
  let s := isb h p (fun i => { i with conns := [(0, c), (1, c), (2, c), (3, {})] })
  g ((List.range 4).foldl (fun s n => (((s.setF HDL_HT_STATE.HT n ht).setF HDL_HT_SESSION.SESSION n 0x1234).setF HDL_HT_SEQ.SENT n 100).setF HDL_HT_SEQ.ACCEPTED n 200) s)
def rxq (b : List Byte) (c : ConnSt) : ConnSt := { c with rx := [(T0 - 5, b), (T0 - 3, [])] }
def dat (seq echo : Nat) (d : List Byte := [5]) : List Byte := rpdu 0 0x1234 3 seq echo 0 d
def ackB (np ni seq : Nat) : List Byte := rpdu 0 0 2 seq 0 0 (leBytes 4 np ++ leBytes 4 ni)

/-- The clauses of HitchConnectionResults whose hypotheses hold. -/
def hitchConnectionResults1 (s : State) (n : Fin 4) : List Nat :=
  (match s.connRec? n with
   | none => [0]
   | some r => (let c := s.conn n
       let t := s.cycleTime
       let run := s.functional = true
       (match c.rx with
        | [] => [1]
        | (at', b) :: rest => (let front := fun type : Nat => run ∧ pduType b = type ∧ at' ≤ t
            let np := fieldAt b 8 4
            let ni := fieldAt b 12 4
            let d := modDiff 16 (pduSeq b) (s.f HDL_HT_SEQ.ACCEPTED n)
            let ahead := modDiff 16 (pduEcho b) (s.f HDL_HT_SEQ.SENT n)
            clause 2 (¬front 2) ++
            clause 3 (¬front 3) ++
            clause 4 (¬front 4) ++
            (if front 2 then
              clause 5 (s.ht n = htOpen) ++
              (if s.ht n ≠ htOpen then
                (if ni ≠ c.nonce then
                  clause 6 (c.nonces.contains ni = true) ++
                  clause 7 (c.nonces.contains ni = false)
                 else []) ++
                (if ni = c.nonce then
                  clause 8 (np = 0 ∨ pduSeq b ≠ 0) ++
                  (if np ≠ 0 ∧ pduSeq b = 0 then
                    clause 9 (np = ni) ++
                    clause 10 (np ≠ ni)
                   else [])
                 else [])
               else [])
             else []) ++
            (if front 3 then
              clause 11 (d = 0) ++
              clause 12 (2 ^ 15 ≤ d) ++
              clause 13 (9 ≤ d ∧ d < 2 ^ 15) ++
              (if 1 ≤ d ∧ d ≤ 8 then
                clause 14 (0 < ahead ∧ ahead < 2 ^ 15) ++
                clause 15 (ahead = 0 ∨ 2 ^ 15 ≤ ahead)
               else [])
             else []) ++
            clause 16 (front 4))) ++
       (let due := run ∧ s.ht n = htStarting ∧ c.startDue ≤ t ∧ t ≤ c.startAt + ms r.texp
        clause 17 (due) ++
        clause 18 (¬due)) ++
       (let due := run ∧ s.ht n = htStarting ∧ c.startAt + ms r.texp < t
        clause 19 (due) ++
        clause 20 (¬due)) ++
       (let due := run ∧ s.ht n = htOpen ∧ c.openAt + c.sent * (r.period * 1000) ≤ t ∧ c.sentCycle ≠ some (s.f HDL_CYCLE.COUNT 0)
        clause 21 (due) ++
        clause 22 (¬due)) ++
       (let due := run ∧ s.ht n = htOpen ∧ c.lastRx + ms r.wdog < t
        clause 23 (due) ++
        clause 24 (¬due)) ++
       (let due := run ∧ s.ht n = htOpen ∧ (c.kept.head?).any (fun x => decide (x.2 + ms r.texp < t)) = true
        clause 25 (due) ++
        clause 26 (¬due)) ++
       (let due := run ∧ s.ht n = htLost ∧ c.lostAt + ms r.retry ≤ t
        clause 27 (due) ++
        clause 28 (¬due))))

/-- The clauses of HitchConnectionResults whose hypotheses hold. -/
def hitchConnectionResults2 (hdr : List Byte) (data : List Byte) (type : Nat) (seq : Nat) (echo : Nat) (reason : Nat) : List Nat :=
  clause 0 (data.length ≤ 16)

theorem test_hypotheses :
    hitchConnectionResults1 (hs' 2 (rxq (ackB 5 77 0))) 0 = [3, 4, 5, 18, 20, 21, 24, 26, 28] ∧
    hitchConnectionResults1 (hs' 1 (rxq (dat 201 100))) 0 = [2, 4, 15, 17, 20, 22, 24, 26, 28] ∧
    hitchConnectionResults1 (hs' 1 (fun c => { c with startAt := T0 - ms 40 - 1 })) 0 = [1, 18, 19, 22, 24, 26, 28] ∧
    hitchConnectionResults1 State.reset 0 = [0] ∧
    hitchConnectionResults1 (hs' 1 (rxq (ackB 5 77 0))) 0 = [3, 4, 10, 17, 20, 22, 24, 26, 28] ∧
    hitchConnectionResults1 (hs' 1 (rxq (ackB 5 78 0))) 0 = [3, 4, 7, 17, 20, 22, 24, 26, 28] ∧
    hitchConnectionResults1 (hs' 1 (fun c => {rxq (ackB 5 78 0) c with nonces := [3, 78]})) 0 = [3, 4, 6, 17, 20, 22, 24, 26, 28] ∧
    hitchConnectionResults1 (hs' 1 (rxq (ackB 0 77 0))) 0 = [3, 4, 8, 17, 20, 22, 24, 26, 28] ∧
    hitchConnectionResults1 (hs' 1 (rxq (ackB 77 77 0))) 0 = [3, 4, 9, 17, 20, 22, 24, 26, 28] ∧
    hitchConnectionResults1 (hs' 2 (rxq (dat 200 90))) 0 = [2, 4, 11, 18, 20, 21, 24, 26, 28] ∧
    hitchConnectionResults1 (hs' 2 (rxq (dat 199 90))) 0 = [2, 4, 12, 18, 20, 21, 24, 26, 28] ∧
    hitchConnectionResults1 (hs' 2 (rxq (dat 209 90))) 0 = [2, 4, 13, 18, 20, 21, 24, 26, 28] ∧
    hitchConnectionResults1 (hs' 2 (rxq (dat 201 101))) 0 = [2, 4, 14, 18, 20, 21, 24, 26, 28] ∧
    hitchConnectionResults1 (hs' 2 (rxq (rpdu 0 0x1234 4 201 100 6 []))) 0 = [2, 3, 16, 18, 20, 21, 24, 26, 28] ∧
    hitchConnectionResults1 (hs' 2 (fun c => { c with lastRx := T0 - ms 50 - 1 })) 0 = [1, 18, 20, 21, 23, 26, 28] ∧
    hitchConnectionResults1 (hs' 2 (fun c => {c with kept := [(7, T0 - ms 40 - 1)]})) 0 = [1, 18, 20, 21, 24, 25, 28] ∧
    hitchConnectionResults1 (hs' 3 (fun c => { c with lostAt := T0 - ms 100 })) 0 = [1, 18, 20, 22, 24, 26, 27] ∧
    hitchConnectionResults2 [] [] 0 0 0 0 = [0] := by
  decide +kernel

end ForHitchConnectionResults

namespace ForHitchFrameResults

def isr : IslandRec := { expectSeal := 0x115, safeLoop := 2, missTol := 2, framePeriod := 16666667, grace := 5, degradeTime := 10, single := false, lockupReact := true, lossStop := 1, degradeSls := [255,255,255,255] }
def smap (a b c : Nat) : StopMap := ⟨a, b, c⟩
def axr : AxisRec := { used := true, encoder := true, restart := false, global := true, invert := false, lines := 1024, refPos := 100, poles := 4, faultStop := 0, rs := 100, ls := 100, iscale := 100, vscale := 100, psi := 1000, resMax := 50, emfTol := 10, obsMin := 100, xchk := 50, sstill := 5, sosWin := 10, ssmLimit := 50, ssmHyst := 5, decel := 100, rampTol := 10, ssDelay := 10, tSs := 100, tBlind := 50, defSls := none, defSlp := none, defSdi := none }
def prm : Params := { island := isr, inputs := [(0, ⟨1, 10, smap 1 1 0⟩), (3, ⟨2, 10, smap 2 0 0xFF⟩)], outputs := [(0, ⟨true, false, none, 20⟩), (1, ⟨true, true, some 0, 20⟩)], axes := [(0, axr), (1, { axr with invert := true, restart := true, encoder := false })], limits := [⟨0, 1, 0, .sls 500 0⟩] }
def pset (p : Params := prm) (valid : Bool := true) : ParamSet :=
  { copy := 0, seq := 5, pcrc := 0x1234, confC := checkValue 0x1234 true [1,2,3,4], valid := valid, bind := true, ids := [1,2,3,4], params := p }
def T0 : Nat := 700000000000
def isb (hs : Nat) (p : Params := prm) (f : Island → Island := id) (g : State → State := id) : State :=
  let s := (up.setHs hs).setF HDL_SEAL.LATCHED 0 0x115 |>.setF HDL_SEAL.LIVE 0 0x115 |>.setF HDL_PCRC.PCRC 0 0x1234 |>.setF HDL_CYCLE.COUNT 0 700000
  g { s with isl := f { t := T0, image := true, ids := [1,2,3,4], set := some (pset p), recordAt := T0, computeAt := T0, pulseAt := [T0, T0], chans := [(0, {cmd := true}), (1, {}), (8, {cmd := true}), (9, {})], axes := [(0, { state := 0 }), (1, {})], inputs := [(0, { on := true, high := true }), (3, {})], outputs := [(0, { ev := true }), (1, {})] } }
def cnr (n : Nat) : ConnRec := { used := n != 3, ports := if n = 0 then [0] else if n = 1 then [1] else [0, 1], essential := false, ackReq := n == 1, peer := 0x20 + n, pcp := if n = 0 then none else some 3, mac := [2,0,0,0,0,n], vid := 5, period := 10000, wdog := 50, texp := 40, cchk := 0xAB00 + n, bits := [], retry := 100 }
def mac0 : List Byte := [2,0,0,0,1,0]
def mac1 : List Byte := [2,0,0,0,1,1]
def hp : Params := { prm with conns := [(0, cnr 0), (1, cnr 1), (2, cnr 2), (3, cnr 3)], ports := [(0, ⟨true, mac0⟩), (1, ⟨true, mac1⟩)] }
def rpdu (n session type seq echo reason : Nat) (d : List Byte) : List Byte :=
  pduBytes (virtualHeader (0x20 + n) 0x15 n session (0xAB00 + n)) type seq echo reason d
def hs' (ht : Nat) (f : ConnSt → ConnSt := id) (g : State → State := id) (p : Params := hp) (h : Nat := 4) : State :=
  let c : ConnSt := f { nonce := 77, startAt := T0 - ms 20, startDue := T0, lastRx := T0 - ms 5, openAt := T0 - ms 30, sent := 3, opened := true, kept := [(100, T0 - ms 5)], lostAt := T0 - ms 50 }
  let s := isb h p (fun i => { i with conns := [(0, c), (1, c), (2, c), (3, {})] })
  g ((List.range 4).foldl (fun s n => (((s.setF HDL_HT_STATE.HT n ht).setF HDL_HT_SESSION.SESSION n 0x1234).setF HDL_HT_SEQ.SENT n 100).setF HDL_HT_SEQ.ACCEPTED n 200) s)
def rxq (b : List Byte) (c : ConnSt) : ConnSt := { c with rx := [(T0 - 5, b), (T0 - 3, [])] }
def dat (seq echo : Nat) (d : List Byte := [5]) : List Byte := rpdu 0 0x1234 3 seq echo 0 d
def ackB (np ni seq : Nat) : List Byte := rpdu 0 0 2 seq 0 0 (leBytes 4 np ++ leBytes 4 ni)
def fr (mac b : List Byte) (tag : Bool := false) : List Byte := etherFrame mac [9,9,9,9,9,9] (if tag then some 3 else none) 5 b
def un (k : Nat) (fm : Nat := 0) (s : State) : State := (s.setPort 0 {frames := fm, unassigned := List.replicate k (T0 - ms 10) ++ [T0 - ms 1001]}).setPort 1 {frames := fm, unassigned := List.replicate k (T0 - ms 10)}

/-- The clauses of HitchFrameResults whose hypotheses hold. -/
def hitchFrameResults1 (s : State) (port : Fin 2) (frame : List Byte) (ok : Bool) : List Nat :=
  (match (s.params?.bind fun p => find port.val p.ports).filter (·.used) with
   | none => [0]
   | some q => (let run := s.functional = true
       let st := findD {} port.val s.isl.ports
       clause 1 (¬run) ++
       (if run then
         clause 2 (ok = false) ++
         (if ok = true then
           (match hitchPdu q.mac frame with
            | none => [3]
            | some b => clause 4 (64 ≤ st.frames) ++
               (if st.frames < 64 then
                 (match s.assign b with
                  | none => [5]
                  | some (n, zero) => [6])
                else []))
          else [])
        else [])))

/-- The clauses of HitchFrameResults whose hypotheses hold. -/
def hitchFrameResults2 (mac : List Byte) (frame : List Byte) : List Nat :=
  (match hitchPdu mac frame with
   | none => [0]
   | some b => [1])

/-- The clauses of HitchFrameResults whose hypotheses hold. -/
def hitchFrameResults3 (s : State) (port : Fin 2) (speed : PortSpeed) : List Nat :=
  clause 0 (s.functional = false) ++
  clause 1 (s.functional = true)

theorem test_hypotheses :
    hitchFrameResults1 State.reset 0 [] false = [0] ∧
    hitchFrameResults1 (hs' 1) 0 [] false = [2] ∧
    hitchFrameResults1 (hs' 1) 0 [] true = [3] ∧
    hitchFrameResults1 (hs' 1) 0 (fr mac0 (dat 201 100)) true = [5] ∧
    hitchFrameResults1 (hs' 2) 0 (fr mac0 (dat 201 100)) true = [6] ∧
    hitchFrameResults1 (hs' 1 (rxq (ackB 5 77 0)) id hp 0) 0 [] false = [1] ∧
    hitchFrameResults1 (hs' 2 id (un 0 64)) 0 (fr mac0 (dat 201 100)) true = [4] ∧
    hitchFrameResults2 [] [] = [0] ∧
    hitchFrameResults2 mac0 (fr mac0 (dat 201 100)) = [1] ∧
    hitchFrameResults3 State.reset 0 .down = [0] ∧
    hitchFrameResults3 (hs' 1) 0 .down = [1] := by
  decide +kernel

end ForHitchFrameResults

namespace ForTapAndDebugResults

def tin (fn : TFn) (fa : Nat := 0) : TileIns := { fn := fn, g := false, rows := 2, cols := 3, fa := fa, fb := fa, fd := fa, td := 1, ta := 2, tb := 3, r1 := 1, r2 := 2, v1 := 0, v2 := 64, k := 2 }
def te (fn : TFn) (th seq : Nat) (d : Bool) (segs : List TSeg) (fa : Nat := 0) : TileEntry := { seq := seq, thread := th, pc := 64, ins := tin fn fa, segs := segs, upto := 0, seed := 1, spill := 0, base := 0, int := false, epoch := 0, dispatched := d }
def W : Nat := 2^63
def D : Nat := 2^62
def tp (f : Tap → Tap) (g : State → State := id) : State := let s := g up; (s.setTap (f s.gln.tap))
def acc (a : Nat) (g : State → State := id) : State := (tp (fun t => { t with addr := a, wdata := 0x1122334455667788, data := 2^65 + 99, busy := true }) g).setOn GLN_DBGCTL.TAP_EN 0 true
def nrm : Nat := 0x40
def dirp : Nat := 0x4000000000 + 0x80
def dirOn (s : State) : State := s.setF GRN_STATE.MODE 0 2
def regionsL : List Nat := [nrm, dirp, 0x8000000008, 0x8100000010, 0x8100080010, 0xF000000000, 0xF800000008, 0xF800000018, 0x10000000000, 0x20000000000, 2^55 + 0x40, 2^56 + 0x44, 0x46]
def th (m : TMode) (f : Thread → Thread := id) : Thread := f { mode := m, pc := 0x1003, p := 0x5A }
def dbg (f : State → State := id) : State :=
  f ((((((up.setThread 0 (th .halted)).setThread 1 (th .running)).setThread 2 (th .waiting)).setThread 3 (th .parked)).setThread 8 (th .halted)).setBitF GLN_DBGEN.CORES 0 0 true)
def hlt (f : Thread → Thread) : State := dbg (fun s => s.setThread 1 (f (s.thread 1)))
def dr (c : Nat) (v : Nat) (f : State → State := id) : State := dbg fun s => f ((s.setF GLN_DREG_SEL.CLASS 0 c).setF GLN_DREG_DATA.DATA 0 v)

/-- The clauses of TapAndDebugResults whose hypotheses hold. -/
def tapAndDebugResults1 (s : State) : List Nat :=
  (let t := s.gln.tap
   ([2, 0, 1, 2, 3, 4].flatMap fun c =>
     clause 0 (boundaryIr t.ir = false ∨ t.ir = c) ++
     clause 1 (boundaryIr t.ir = true ∧ t.ir ≠ c)))

/-- The clauses of TapAndDebugResults whose hypotheses hold. -/
def tapAndDebugResults2 (s : State) (code : BitVec 8) : List Nat :=
  (let t := s.gln.tap
   let leaves := boundaryIr t.ir = true ∧ t.ir ≠ code.toNat
   let named := code.toNat ∈ [0, 1, 2, 3, 4, 0x10, 0x11]
   clause 0 (named) ++
   (if ¬named then
     clause 1 (¬leaves) ++
     clause 2 (leaves)
    else []) ++
   clause 3 (leaves) ++
   clause 4 (¬leaves))

/-- The clauses of TapAndDebugResults whose hypotheses hold. -/
def tapAndDebugResults3 (s : State) : List Nat :=
  [0] ++
  clause 1 (s.inReset = false)

/-- The clauses of TapAndDebugResults whose hypotheses hold. -/
def tapAndDebugResults4 (s : State) (v : BitVec 64) (w : BitVec 66) : List Nat :=
  (let t := s.gln.tap
   clause 0 (boundaryIr t.ir = true) ++
   clause 1 (boundaryIr t.ir = false))

/-- The clauses of TapAndDebugResults whose hypotheses hold. -/
def tapAndDebugResults5 (s : State) (res : MemRes) : List Nat :=
  (let t := s.gln.tap
   let pa := t.addr % 2 ^ 56
   let n := if t.addr.testBit 62 then 8 else 4
   let write := t.addr.testBit 63 = true
   let barred := s.on GLN_DBGCTL.TAP_EN 0 = false ∨ s.deviceRuns pa = false ∨ pa % n ≠ 0
   clause 0 (t.busy = false ∨ s.live = false) ++
   (if t.busy = true ∧ s.live = true then
     clause 1 (barred) ++
     (if ¬barred then
       clause 2 (s.accessHeld pa = true) ++
       (if s.accessHeld pa = false then
         (match s.region pa with
          | .seedbox m off => clause 3 (write) ++
             clause 4 (¬write)
          | .silo m off => clause 5 (write) ++
             clause 6 (¬write)
          | .spill m off => clause 7 (write) ++
             clause 8 (¬write)
          | .device => clause 9 (write) ++
             clause 10 (¬write)
          | .normal _ _ => clause 11 (write) ++
             clause 12 (¬write)
          | .direct c l => clause 13 (write) ++
             clause 14 (¬write)
          | _ => [15])
        else [])
      else [])
    else []))

/-- The clauses of TapAndDebugResults whose hypotheses hold. -/
def tapAndDebugResults6 (s : State) (agent : Agent) (n : Cid) (mask : BitVec 8) (noint : Bool) : List Nat :=
  (let may := s.acts agent = true ∧ reaches agent = true
   clause 0 (¬may) ++
   (if may then
     clause 1 (s.dbgEn n = false) ++
     clause 2 (s.dbgEn n = true) ++
     clause 3 (s.locked n = true ∧ mask ≠ 255) ++
     clause 4 (s.locked n = false ∨ mask = 255) ++
     (if s.dbgEn n = true then
       clause 5 (s.locked n = true) ++
       clause 6 (s.locked n = false)
      else [])
    else []))

/-- The clauses of TapAndDebugResults whose hypotheses hold. -/
def tapAndDebugResults7 (s : State) (h : Tid) : List Nat :=
  (let t := s.thread h
   let boundary := match t.hold with
     | none => true
     | some (.wait ..) => true
     | some x => x.discardable
   let halts := t.haltReq = true ∧ t.raised = none ∧ boundary = true ∧ (t.mode = .running ∨ t.mode = .waiting)
   clause 0 (halts) ++
   clause 1 (¬halts))

/-- The clauses of TapAndDebugResults whose hypotheses hold. -/
def tapAndDebugResults8 (s : State) (agent : Agent) (write : Bool) (h : Tid) (cls : BitVec 3) (idx : BitVec 12) : List Nat :=
  (let may := s.acts agent = true ∧ reaches agent = true
   let c := if cls.toNat ≤ 5 then cls.toNat else s.f GLN_DREG_SEL.CLASS 0
   let ok := (s.thread h).mode = .halted ∧ dregOk c idx.toNat = true
   clause 0 (¬may) ++
   (if may then
     clause 1 (¬ok) ++
     (if ok then
       clause 2 (c ≤ 4 ∧ write = true) ++
       clause 3 (write = false ∧ (c ≤ 4 ∨ (s.tile (coreOf h)).queue = [])) ++
       (if c = 5 then
         clause 4 ((s.tile (coreOf h)).queue ≠ []) ++
         clause 5 ((s.tile (coreOf h)).queue = [] ∧ write = true)
        else [])
      else [])
    else []))

/-- The clauses of TapAndDebugResults whose hypotheses hold. -/
def tapAndDebugResults9 (s : State) (agent : Agent) (key : BitVec 16) (tg : Bool) (n : Cid) : List Nat :=
  clause 0 (s.acts agent = false) ++
  clause 1 (s.acts agent = true ∧ agent ≠ .tap) ++
  (if s.live = true then
    clause 2 (key ≠ 0x6D17) ++
    [3]
   else [])

theorem test_hypotheses :
    tapAndDebugResults1 ((([0, 1, 3, 4, 0x11, 0xFF].map fun c => tp fun t => { t with ir := c }) : List (State)).getD 0 .reset) = [1, 0, 1, 1, 1, 1] ∧
    tapAndDebugResults2 State.reset 0 = [0, 4] ∧
    tapAndDebugResults2 ((([0, 1, 3, 4, 0x11, 0xFF].map fun c => tp fun t => { t with ir := c }) : List (State)).getD 0 .reset) 0xFF = [2, 3] ∧
    tapAndDebugResults2 State.reset 0xFF = [1, 4] ∧
    tapAndDebugResults3 up = [0, 1] ∧
    tapAndDebugResults4 State.reset 0 0 = [1] ∧
    tapAndDebugResults4 ((([0, 1, 3, 4, 0x11, 0xFF].map fun c => tp fun t => { t with ir := c }) : List (State)).getD 0 .reset) 0 0 = [0] ∧
    tapAndDebugResults5 State.reset .ok = [0] ∧
    tapAndDebugResults5 (tp fun t => {t with busy := true, addr := 7, data := 2^65+3}) .ok = [1] ∧
    tapAndDebugResults5 (((regionsL.flatMap fun a => [acc a, acc (a + D), acc (a + W), acc (a + W + D)]) : List (State)).getD 0 .reset) .ok = [12] ∧
    tapAndDebugResults5 (((regionsL.flatMap fun a => [acc a, acc (a + D), acc (a + W), acc (a + W + D)]) : List (State)).getD 2 .reset) .ok = [11] ∧
    tapAndDebugResults5 (((regionsL.flatMap fun a => [acc a, acc (a + D), acc (a + W), acc (a + W + D)]) : List (State)).getD 4 .reset) .ok = [15] ∧
    tapAndDebugResults5 (((regionsL.flatMap fun a => [acc a, acc (a + D), acc (a + W), acc (a + W + D)]) : List (State)).getD 8 .reset) .ok = [4] ∧
    tapAndDebugResults5 (((regionsL.flatMap fun a => [acc a, acc (a + D), acc (a + W), acc (a + W + D)]) : List (State)).getD 10 .reset) .ok = [3] ∧
    tapAndDebugResults5 (((regionsL.flatMap fun a => [acc a, acc (a + D), acc (a + W), acc (a + W + D)]) : List (State)).getD 12 .reset) .ok = [6] ∧
    tapAndDebugResults5 (((regionsL.flatMap fun a => [acc a, acc (a + D), acc (a + W), acc (a + W + D)]) : List (State)).getD 14 .reset) .ok = [5] ∧
    tapAndDebugResults5 (((regionsL.flatMap fun a => [acc a, acc (a + D), acc (a + W), acc (a + W + D)]) : List (State)).getD 16 .reset) .ok = [8] ∧
    tapAndDebugResults5 (((regionsL.flatMap fun a => [acc a, acc (a + D), acc (a + W), acc (a + W + D)]) : List (State)).getD 18 .reset) .ok = [7] ∧
    tapAndDebugResults5 (((regionsL.flatMap fun a => [acc a, acc (a + D), acc (a + W), acc (a + W + D)]) : List (State)).getD 20 .reset) .ok = [10] ∧
    tapAndDebugResults5 (((regionsL.flatMap fun a => [acc a, acc (a + D), acc (a + W), acc (a + W + D)]) : List (State)).getD 22 .reset) .ok = [9] ∧
    tapAndDebugResults5 (acc dirp dirOn) .ok = [14] ∧
    tapAndDebugResults5 (acc (dirp + W) dirOn) .ok = [13] ∧
    tapAndDebugResults5 (acc dirp (fun s => (dirOn s).setOn GRN_TILL_STAT.LOADED 0 true)) .ok = [2] ∧
    tapAndDebugResults6 dbg (.plot 0) 0 0 false = [2, 4, 6] ∧
    tapAndDebugResults6 (dbg (fun s => s.setBitF FUR_LOCKSTAT.LOCKED 0 0 true)) (.plot 0) 0 0 false = [2, 3, 5] ∧
    tapAndDebugResults6 State.reset (.plot 0) 0 0 false = [0] ∧
    tapAndDebugResults6 up (.plot 0) 0 0 false = [1, 4] ∧
    tapAndDebugResults7 State.reset 0 = [1] ∧
    tapAndDebugResults7 (hlt (fun t => {t with haltReq := true})) 1 = [0] ∧
    tapAndDebugResults8 State.reset (.plot 0) false 0 0 0 = [0] ∧
    tapAndDebugResults8 up (.plot 0) false 0 0 0 = [1] ∧
    tapAndDebugResults8 dbg (.plot 0) false 0 0 0 = [3] ∧
    tapAndDebugResults8 dbg (.plot 0) true 0 0 0 = [2] ∧
    tapAndDebugResults8 dbg (.plot 0) true 0 5 0 = [5] ∧
    tapAndDebugResults8 (dr 5 7 (fun s => s.setTile 0 { s.tile 0 with queue := [te .tadd 0 3 true []] })) (.plot 0) false 0 5 0 = [4] ∧
    tapAndDebugResults9 up (.plot 0) 0 false 0 = [1, 2, 3] ∧
    tapAndDebugResults9 State.reset (.plot 0) 0 false 0 = [0] := by
  decide +kernel

end ForTapAndDebugResults

namespace ForTraceAndTallyResults

def fu (n : Nat) (fl : Bool := false) (d : Nat := 0) : TraceUnit := { fifo := (List.range n).map fun k => BitVec.ofNat 8 k, flush := fl, dropped := d }
def tr (x : TraceUnit) (g : State → State := id) : State := g ((((up.setUnit 0 x).setUnit 1 (fu 5)).setF GLN_BUF_BASE.ADDR 0 3).setF GLN_BUF_SIZE.SIZE 0 1)
def ta (n : Nat) (g : State → State := id) (v : Nat := 2^48-1) : State := g (((((up.setOn TLY_CTL.EN 0 true).setOn TLY_CFG.EN n true).setF TLY_CNT.COUNT n v).setF TLY_CNT.COUNT (n+1) 0xFFFF).setF TLY_OVF.BITS 0 0xF0)

/-- The clauses of TraceAndTallyResults whose hypotheses hold. -/
def traceAndTallyResults1 (s : State) (c : Fin 256) : List Nat :=
  (let x := s.unit c
   let due := x.dropped ≠ 0 ∧ x.fifo.length + 256 ≤ fifoMax
   clause 0 (¬due) ++
   clause 1 (due))

/-- The clauses of TraceAndTallyResults whose hypotheses hold. -/
def traceAndTallyResults2 (s : State) (c : Fin 256) (res : MemRes) : List Nat :=
  (let x := s.unit c
   let due := x.fifo ≠ [] ∧ (60 ≤ x.fifo.length ∨ x.flush = true)
   clause 0 (¬due) ++
   clause 1 (due))

/-- The clauses of TraceAndTallyResults whose hypotheses hold. -/
def traceAndTallyResults3 (c : Nat) (seq : Nat) (b : List Byte) : List Nat :=
  clause 0 (b.length ≤ 60)

/-- The clauses of TraceAndTallyResults whose hypotheses hold. -/
def traceAndTallyResults4 (s : State) (agent : Agent) (v : BitVec 32) : List Nat :=
  (let may := s.acts agent = true ∧ reaches agent = true
   let en := v.toNat.testBit 31 = true
   let was := s.on GLN_TRC_CTL.EN 0 = true
   let f := s.traceFields v.toNat
   clause 0 (¬may) ++
   (if may then
     (if en then
       clause 1 (was ∨ f.bufOk = true) ++
       clause 2 (¬was ∧ f.bufOk = false)
      else []) ++
     (if ¬en then
       clause 3 (was) ++
       clause 4 (¬was)
      else [])
    else []))

/-- The clauses of TraceAndTallyResults whose hypotheses hold. -/
def traceAndTallyResults5 (s : State) (agent : Agent) : List Nat :=
  (let may := s.acts agent = true ∧ reaches agent = true
   clause 0 (¬may) ++
   clause 1 (may))

/-- The clauses of TraceAndTallyResults whose hypotheses hold. -/
def traceAndTallyResults6 (s : State) (n : Fin 128) : List Nat :=
  (let counts := s.on TLY_CTL.EN 0 = true ∧ s.on TLY_CTL.FREEZE 0 = false ∧ s.on TLY_CFG.EN n = true ∧
     ¬(n.val % 2 = 1 ∧ s.on TLY_CFG.CHAIN (n.val - 1) = true)
   let chained := n.val % 2 = 0 ∧ s.on TLY_CFG.CHAIN n = true
   clause 0 (¬counts) ++
   (if counts then
     clause 1 (¬chained) ++
     clause 2 (chained)
    else []))

theorem test_hypotheses :
    traceAndTallyResults1 State.reset 0 = [0] ∧
    traceAndTallyResults1 (tr (fu 5 false 9)) 0 = [1] ∧
    traceAndTallyResults2 State.reset 0 .ok = [0] ∧
    traceAndTallyResults2 (tr (fu 60)) 0 .ok = [1] ∧
    traceAndTallyResults3 0 0 [] = [0] ∧
    traceAndTallyResults4 State.reset (.plot 0) 0 = [0] ∧
    traceAndTallyResults4 up (.plot 0) 0 = [4] ∧
    traceAndTallyResults4 up (.plot 0) 0x80000000 = [2] ∧
    traceAndTallyResults4 (tr (fu 0)) (.plot 0) 0x80000000 = [1] ∧
    traceAndTallyResults4 (tr (fu 100) (·.setOn GLN_TRC_CTL.EN 0 true)) (.plot 0) 0 = [3] ∧
    traceAndTallyResults5 State.reset (.plot 0) = [0] ∧
    traceAndTallyResults5 up (.plot 0) = [1] ∧
    traceAndTallyResults6 State.reset 0 = [0] ∧
    traceAndTallyResults6 (ta 0) 0 = [1] ∧
    traceAndTallyResults6 (ta 0 (·.setOn TLY_CFG.CHAIN 0 true)) 0 = [2] := by
  decide +kernel

end ForTraceAndTallyResults

namespace ForFaultLogAndThrottleResults

def le (c i p sev ts : Nat) : LogEntry := { code := c, inst := i, plot := p, severity := sev, ts := ts, aux := 5 }
def lv (e : LogEntry) (q : Nat) (st : Bool) (last : Nat) : LogEntry := { e with valid := true, seq := q, sticky := st, lastTs := last, rep := 255 }
def lg (q : List LogEntry) (l : List (Nat × LogEntry)) (g : State → State := id) : State := let s := up.setF RV_LOG_SEQ.SEQ 0 4096; g { s with reeve := { s.reeve with logQueue := q, log := l } }
def some3 : List (Nat × LogEntry) := [(0, lv (le 9 1 2 2 5) 4000 true 100), (1, lv (le 9 1 2 2 5) 4001 false 200), (2, { lv (le 9 1 2 2 5) 4002 false 300 with valid := false }), (3, lv (le 8 1 2 2 5) 4003 false 300)]
def logs' : List (List (Nat × LogEntry)) := [[], some3]

/-- The clauses of FaultLogAndThrottleResults whose hypotheses hold. -/
def faultLogAndThrottleResults1 (s : State) : List Nat :=
  (let log := s.reeve.log
   let next := s.f RV_LOG_SEQ.SEQ 0
   clause 0 (s.live = false) ++
   (if s.live = true then
     (match s.reeve.logQueue with
      | [] => [1]
      | e :: r => (match mergeTarget next e log with
          | some (n, b) => [2]
          | none => (match logPlace next log with
              | some n => [3]
              | none => [4])))
    else []))

/-- The clauses of FaultLogAndThrottleResults whose hypotheses hold. -/
def faultLogAndThrottleResults2 (next : Nat) (e : LogEntry) (log : List (Nat × LogEntry)) : List Nat :=
  (match mergeTarget next e log with
   | some (n, b) => [0] ++
      (log.flatMap fun (x : _) => clause 1 (x.2.valid = true ∧ x.2.code = e.code ∧ x.2.inst = e.inst ∧ x.2.plot = e.plot))
   | none => [2])

/-- The clauses of FaultLogAndThrottleResults whose hypotheses hold. -/
def faultLogAndThrottleResults3 (next : Nat) (log : List (Nat × LogEntry)) : List Nat :=
  (match logPlace next log with
   | some n => [0]
   | none => (([0, 1, 2, 4095, 4096, 100, 350, 401] : List (Nat)).flatMap fun (j : Nat) => clause 1 (j < 4096)) ++
      (log.flatMap fun (y : _) => clause 2 (y.2.valid = true)))

/-- The clauses of FaultLogAndThrottleResults whose hypotheses hold. -/
def faultLogAndThrottleResults4 (s : State) (agent : Agent) (k : Fin 4096) : List Nat :=
  (let may := agent = .plot 0 ∨ agent = .reeve ∨ agent = .tap
   clause 0 (s.acts agent = false ∨ (¬may ∧ agent ≠ .drill)) ++
   (if s.acts agent = true then
     clause 1 (agent = .drill) ++
     clause 2 (may)
    else []))

/-- The clauses of FaultLogAndThrottleResults whose hypotheses hold. -/
def faultLogAndThrottleResults5 (s : State) (field : List Nat) (headland : List Nat) (watts : Nat) : List Nat :=
  clause 0 (s.live = false)

/-- The clauses of FaultLogAndThrottleResults whose hypotheses hold. -/
def faultLogAndThrottleResults6 (s : State) (field : List Nat) (headland : List Nat) : List Nat :=
  (if s.live = true then
    [0]
   else [])

/-- The clauses of FaultLogAndThrottleResults whose hypotheses hold. -/
def faultLogAndThrottleResults7 (s : State) (watts : Nat) : List Nat :=
  (if s.live = true then
    [0]
   else [])

/-- The clauses of FaultLogAndThrottleResults whose hypotheses hold. -/
def faultLogAndThrottleResults8 (m : Nat) (raw : Nat) : List Nat :=
  clause 0 (raw < m - m / 20) ++
  clause 1 (m + m / 20 < raw) ++
  clause 2 (m - m / 20 ≤ raw ∧ raw ≤ m + m / 20)

/-- The clauses of FaultLogAndThrottleResults whose hypotheses hold. -/
def faultLogAndThrottleResults9 (s : State) : List Nat :=
  clause 0 (s.live = true)

theorem test_hypotheses :
    faultLogAndThrottleResults1 State.reset = [0] ∧
    faultLogAndThrottleResults1 up = [1] ∧
    faultLogAndThrottleResults1 (lg [le 9 1 2 2 100200, le 1 1 1 1 1] some3) = [2] ∧
    faultLogAndThrottleResults1 (lg [le 9 1 2 2 100201] some3) = [3] ∧
    faultLogAndThrottleResults2 0 (le 9 1 2 2 300) ((logs' : List (List (Nat × LogEntry))).getD 1 {}) = [0, 1, 1] ∧
    faultLogAndThrottleResults2 0 (le 9 1 2 2 300) ((logs' : List (List (Nat × LogEntry))).getD 0 {}) = [2] ∧
    faultLogAndThrottleResults3 0 ((logs' : List (List (Nat × LogEntry))).getD 0 {}) = [0] ∧
    faultLogAndThrottleResults4 State.reset (.plot 0) 0 = [0] ∧
    faultLogAndThrottleResults4 up (.plot 0) 0 = [2] ∧
    faultLogAndThrottleResults4 up .drill 0 = [1] ∧
    faultLogAndThrottleResults5 State.reset [] [] 0 = [0] ∧
    faultLogAndThrottleResults6 up [] [] = [0] ∧
    faultLogAndThrottleResults7 up 0 = [0] ∧
    faultLogAndThrottleResults8 0 0 = [2] ∧
    faultLogAndThrottleResults8 0 1 = [1] ∧
    faultLogAndThrottleResults8 1 0 = [0] ∧
    faultLogAndThrottleResults9 up = [0] := by
  decide +kernel

end ForFaultLogAndThrottleResults

end Sys2Proof.Tests
end

section
/-! PROOF. The state after reset: what each part that State.reset lists nothing in reads as. -/

namespace Sys2Proof.Machine

/-- R12: after reset no field is kept in the store, so every one reads its reset value. -/
@[simp] theorem State.f_reset (F : Fld) (i : Nat) : State.reset.f F i = F.rst := rfl

/-- After reset every context is as its defaults leave it. -/
@[simp] theorem State.thread_reset (h : Nat) : State.reset.thread h = {} := rfl

/-- The island comes out of reset without AUTHORITY, without VETO_OUT and with no channel driven (R445). -/
theorem State.islandInv_reset : State.reset.islandInv := by
  refine ⟨fun h => ?_, fun h => ?_, fun c hc => ?_⟩
  · exact absurd h (by decide)
  · exact absurd h (by decide)
  · exact absurd hc List.not_mem_nil

/-- Settles O2: every register field reads its default, no sparse part lists anything, and the fields that the
invariants read have the values that R445 and Table 2-4 give them. -/
theorem resetState : Obligations.ResetState := by
  refine ⟨State.f_reset, rfl, rfl, rfl, fun h => ?_, rfl, rfl, rfl, rfl, rfl, fun _ => rfl, State.islandInv_reset⟩
  rw [State.thread_reset]
  decide

end Sys2Proof.Machine
end

section
/-! PROOF. Register writes: what a write sets in a field and leaves in the others, the writes of Device addresses, the
BARs and the MSI-X vectors. -/

namespace Sys2Proof.Machine

variable {s : State}

/-! ### Fields of a register (R9, R10) -/

/-- What a field of value `old` reads after a write that carries `bits` for it, by its access code. -/
def Fld.afterWrite (F : Fld) (old bits : Nat) : Nat :=
  match F.acc with
  | .rw => if F.takes bits then bits else old
  | .w1c => old &&& (2 ^ F.width - 1 - bits)
  | _ => old

/-- The field that is written. -/
theorem State.f_writeFld_self (s : State) (F : Fld) (i v : Nat) :
    (s.writeFld F i v).f F i = F.afterWrite (s.f F i) (v / 2 ^ F.lo % 2 ^ F.width) := by
  unfold State.writeFld Fld.afterWrite
  cases F.acc with
  | rw => dsimp only; split <;> simp
  | w1c =>
    have : s.f F i &&& (2 ^ F.width - 1 - v / 2 ^ F.lo % 2 ^ F.width) < 2 ^ F.width :=
      Nat.and_lt_two_pow _ (by have := Nat.two_pow_pos F.width; omega)
    simp [Nat.mod_eq_of_lt this]
  | ro | wo | wt | view => rfl

/-- Every other field, and the same field elsewhere. -/
theorem State.f_writeFld_ne (s : State) {F G : Fld} {i j : Nat} (h : G.key j ≠ F.key i) (v : Nat) :
    (s.writeFld F i v).f G j = s.f G j := by
  unfold State.writeFld
  cases F.acc with
  | rw => dsimp only; split <;> simp [State.f_setF_ne s h]
  | w1c => exact State.f_setF_ne s h _
  | ro | wo | wt | view => rfl

/-- One field's part of a write of a register. -/
def State.writeFldIn (i v mask : Nat) (s : State) (F : Fld) : State :=
  let old := s.f F i * 2 ^ F.lo
  let w := match F.acc with
    | .w1c => v &&& mask
    | _ => (v &&& mask) ||| (old &&& (2 ^ 64 - 1 - mask % 2 ^ 64))
  if mask / 2 ^ F.lo % 2 ^ F.width = 0 then s else s.writeFld F i w

/-- A write of a register is the writes of its fields, in turn. -/
theorem State.writeReg_eq_foldl (s : State) (r : RegDesc) (i v mask : Nat) :
    s.writeReg r i v mask = r.fields.foldl (State.writeFldIn i v mask) s := rfl

theorem State.f_writeFldIn_ne (s : State) {F G : Fld} {i j : Nat} (h : G.key j ≠ F.key i) (v mask : Nat) :
    (s.writeFldIn i v mask F).f G j = s.f G j := by
  unfold State.writeFldIn
  dsimp only
  split
  · rfl
  · exact State.f_writeFld_ne s h _

/-- Writes of other fields leave a field as it was. -/
theorem State.f_foldl_writeFldIn_ne {G : Fld} {i j : Nat} (v mask : Nat) (fs : List Fld)
    (h : ∀ F ∈ fs, G.key j ≠ F.key i) (s : State) : (fs.foldl (State.writeFldIn i v mask) s).f G j = s.f G j := by
  induction fs generalizing s with
  | nil => rfl
  | cons F fs ih =>
    rw [List.foldl_cons, ih fun H hH => h H (List.mem_cons_of_mem _ hH), s.f_writeFldIn_ne (h F List.mem_cons_self)]

/-- A 32-bit write of the low word reaches every field that lies in it. -/
theorem Fld.lowMask_reaches {F : Fld} (h : F.lo ≤ F.hi) (hhi : F.hi < 32) :
    (2 ^ 32 - 1) / 2 ^ F.lo % 2 ^ F.width ≠ 0 := by
  intro e
  have hbit : ((2 ^ 32 - 1) / 2 ^ F.lo % 2 ^ F.width).testBit 0 = true := by
    rw [Nat.testBit_mod_two_pow, Nat.testBit_div_two_pow, Nat.testBit_two_pow_sub_one]
    have hw : 0 < F.width := by unfold Fld.width; omega
    have hl : 0 + F.lo < 32 := by omega
    rw [decide_eq_true hw, decide_eq_true hl]; rfl
  rw [e, Nat.zero_testBit] at hbit
  cases hbit

/-- In the low word a 32-bit write carries the value's bits, whatever the high word held. -/
theorem lowWord_bits {v lo w : Nat} (hv : v < 2 ^ 32) (hw : lo + w ≤ 32) (old : Nat) :
    ((v &&& (2 ^ 32 - 1)) ||| (old &&& (2 ^ 64 - 1 - (2 ^ 32 - 1) % 2 ^ 64))) / 2 ^ lo % 2 ^ w = v / 2 ^ lo % 2 ^ w := by
  have hm : 2 ^ 64 - 1 - (2 ^ 32 - 1) % 2 ^ 64 = (2 ^ 32 - 1) <<< 32 := by decide
  rw [Nat.and_two_pow_sub_one_eq_mod, Nat.mod_eq_of_lt hv, hm]
  apply Nat.eq_of_testBit_eq
  intro k
  rw [Nat.testBit_mod_two_pow, Nat.testBit_mod_two_pow]
  by_cases hk : k < w
  · have : ¬32 ≤ k + lo := by omega
    rw [Nat.testBit_div_two_pow, Nat.testBit_or, Nat.testBit_and, Nat.testBit_shiftLeft, Nat.testBit_div_two_pow]
    simp [this]
  · simp [hk]

theorem State.f_writeFldIn_self (s : State) {F : Fld} (i : Nat) {v : Nat} (hv : v < 2 ^ 32) (hlo : F.lo ≤ F.hi)
    (hhi : F.hi < 32) :
    (s.writeFldIn i v (2 ^ 32 - 1) F).f F i = F.afterWrite (s.f F i) (v / 2 ^ F.lo % 2 ^ F.width) := by
  have hbits := lowWord_bits (lo := F.lo) (w := F.width) hv (by unfold Fld.width; omega) (s.f F i * 2 ^ F.lo)
  have hand : v &&& (2 ^ 32 - 1) = v := by rw [Nat.and_two_pow_sub_one_eq_mod, Nat.mod_eq_of_lt hv]
  unfold State.writeFldIn
  dsimp only
  rw [if_neg (Fld.lowMask_reaches hlo hhi), State.f_writeFld_self]
  cases hacc : F.acc with
  | w1c => rw [hand]
  | rw | ro | wo | wt | view => rw [hbits]

/-- Fields of different numbers have different keys. -/
theorem Fld.key_ne_of_id_ne {F G : Fld} (h : G.id ≠ F.id) (i : Nat) : G.key i ≠ F.key i := by
  unfold Fld.key; omega

/-- A 32-bit write of a register sets each of its fields as its access code says. -/
theorem State.f_writeReg_self (s : State) {r : RegDesc} {F : Fld} (i : Nat) {v : Nat} (hv : v < 2 ^ 32)
    (hn : (r.fields.map (·.id)).Nodup) (hF : F ∈ r.fields) (hlo : F.lo ≤ F.hi) (hhi : F.hi < 32) :
    (s.writeReg r i v (2 ^ 32 - 1)).f F i = F.afterWrite (s.f F i) (v / 2 ^ F.lo % 2 ^ F.width) := by
  obtain ⟨as, bs, e⟩ := List.append_of_mem hF
  rw [e, List.map_append, List.map_cons, List.nodup_middle, List.nodup_cons, ← List.map_append] at hn
  have hne : ∀ G ∈ as ++ bs, F.key i ≠ G.key i := fun G hG =>
    Fld.key_ne_of_id_ne (fun e => hn.1 (List.mem_map.mpr ⟨G, hG, e.symm⟩)) i
  rw [State.writeReg_eq_foldl, e, List.foldl_append, List.foldl_cons,
    State.f_foldl_writeFldIn_ne _ _ bs fun G hG => hne G (List.mem_append_right _ hG),
    State.f_writeFldIn_self _ i hv hlo hhi,
    State.f_foldl_writeFldIn_ne _ _ as fun G hG => hne G (List.mem_append_left _ hG)]

/-- What is not one of the fields written keeps its value. -/
theorem State.f_writeReg_ne (s : State) (r : RegDesc) (G : Fld) (i j v : Nat) (h : ∀ F ∈ r.fields, G.key j ≠ F.key i) :
    (s.writeReg r i v (2 ^ 32 - 1)).f G j = s.f G j :=
  State.f_foldl_writeFldIn_ne v _ r.fields h s

/-! ### Device addresses (R52, R76, R78, R80) -/

/-- A write of a Device address is performed: the agent acts, what the address names runs, and it is aligned. -/
def State.performs (s : State) (agent : Agent) (a : Nat) (wide : Bool) : Prop :=
  s.acts agent = true ∧ s.deviceRuns a = true ∧ a % (if wide then 8 else 4) = 0

section Device
variable {agent : Agent} {pa : BitVec 56} {wide : Bool} (x : BitVec 64)

theorem exec_deviceWrite_idle (h : ¬s.performs agent pa.toNat wide) :
    exec (.registerWrite (.device agent pa) wide x) s = .next s := by
  rw [exec_registerWrite]
  simp only [execRegisterWrite, State.agentWrite]
  by_cases ha : pa.toNat % (if wide then 8 else 4) = 0
  · have : s.acts agent = false ∨ s.deviceRuns pa.toNat = false := by
      simpa [State.performs, ha, ← Bool.not_eq_true, ← not_and_or] using h
    simp [ha, this]
  · simp [ha]

/-- A write that is performed but comes from an agent that R76 keeps out. -/
theorem exec_deviceWrite_keptOut (h : s.performs agent pa.toNat wide) (hr : reaches agent = false) :
    exec (.registerWrite (.device agent pa) wide x) s = .next (match s.devAt pa.toNat with
      | .reg .PWR _ _ off => s.writeDropped agent off
      | _ => s) := by
  obtain ⟨hact, hrun, hal⟩ := h
  simp only [exec_registerWrite, execRegisterWrite, State.agentWrite, hact, hrun, hal, hr] <;> rfl

/-- A write that is performed, by an agent that R76 lets through, does what the region of its address says. -/
theorem exec_deviceWrite_reached (h : s.performs agent pa.toNat wide) (hr : reaches agent = true) :
    exec (.registerWrite (.device agent pa) wide x) s = .next (match s.region pa.toNat with
      | .device => s.writeDev agent pa.toNat wide x.toNat
      | .silo n off => s.writeTileWin n off false wide x.toNat
      | .spill n off => s.writeTileWin n off true wide x.toNat
      | _ => s) := by
  obtain ⟨hact, hrun, hal⟩ := h
  simp only [exec_registerWrite, execRegisterWrite, State.agentWrite, hact, hrun, hal, hr] <;> rfl

end Device

/-- The fault log's slots and reserved space take no write (R11). -/
theorem State.writeDev_reserved {a : Nat} (h : s.devAt a = .reserved) (agent : Agent) (wide : Bool) (v : Nat) :
    s.writeDev agent a wide v = s := by simp only [State.writeDev, h]

theorem State.writeDev_log {a off : Nat} (h : s.devAt a = .log off) (agent : Agent) (wide : Bool) (v : Nat) :
    s.writeDev agent a wide v = s := by simp only [State.writeDev, h]

/-- A write of one window of a block. -/
theorem State.writeDev_one {a : Nat} {b : Blk} {win off : Nat} (h : s.devAt a = .reg b [win] true off) (agent : Agent)
    (wide : Bool) (v : Nat) :
    s.writeDev agent a wide v = if wide then s.writeDouble agent b win off v else s.writeWord agent b win off v := by
  simp only [State.writeDev, h, List.foldl_cons, List.foldl_nil]

/-- Reserved space of a window (R11). -/
theorem State.writeWord_reserved {b : Blk} {win off : Nat} (h : b.locate win off = none) (agent : Agent) (v : Nat) :
    s.writeWord agent b win off v = s := by simp only [State.writeWord, h]

/-- The blocks whose writes do nothing beside their access codes. -/
theorem State.writeBlk_plain {b : Blk} (hb : b ∈ [Blk.CLK, .FURG, .GRNG, .SOW]) (agent : Agent) (off : Nat) (r : RegDesc)
    (i v m : Nat) : s.writeBlk agent b off r i v m = s.writeReg r i v m := by
  fin_cases hb <;> rfl

theorem State.writeWord_plain {b : Blk} (hb : b ∈ [Blk.CLK, .FURG, .GRNG, .SOW]) {win off k : Nat} {r : RegDesc}
    (h : b.locate win off = some (r, k, 0)) (agent : Agent) (v : Nat) :
    s.writeWord agent b win off v = s.writeReg r k (v % 2 ^ 32) (2 ^ 32 - 1) := by
  simp only [State.writeWord, h, Nat.mul_zero, Nat.pow_zero, Nat.mul_one, State.writeBlk_plain hb]

theorem State.writeDouble_plain {b : Blk} (hb : b ∈ [Blk.CLK, .FURG, .GRNG, .SOW]) {win off k : Nat} {r : RegDesc}
    (h : b.locate win off = some (r, k, 0)) (hw : r.width = 64) (agent : Agent) (v : Nat) :
    s.writeDouble agent b win off v = s.writeReg r k (v % 2 ^ 64) (2 ^ 64 - 1) := by
  simp only [State.writeDouble, h, hw, if_true, State.writeBlk_plain hb]

/-- A tile unit that was replaced. -/
@[simp] theorem State.tile_setTile_self (s : State) (n : Nat) (t : TileCore) : (s.setTile n t).tile n = t := by
  simp [State.tile]

section Device
variable {agent : Agent} {pa : BitVec 56} {wide : Bool} (x : BitVec 64)

theorem exec_deviceWrite_reserved (h : s.performs agent pa.toNat wide ∧ reaches agent = true)
    (hreg : s.region pa.toNat = .device) (hdev : s.devAt pa.toNat = .reserved) :
    exec (.registerWrite (.device agent pa) wide x) s = .next s := by
  rw [exec_deviceWrite_reached x h.1 h.2, hreg]
  exact congrArg _ (State.writeDev_reserved hdev ..)

theorem exec_deviceWrite_log (off : Nat) (h : s.performs agent pa.toNat wide ∧ reaches agent = true)
    (hreg : s.region pa.toNat = .device) (hdev : s.devAt pa.toNat = .log off) :
    exec (.registerWrite (.device agent pa) wide x) s = .next s := by
  rw [exec_deviceWrite_reached x h.1 h.2, hreg]
  exact congrArg _ (State.writeDev_log hdev ..)

/-- A write of one window of a block is one of a word or of two. -/
theorem exec_deviceWrite_window {b : Blk} {win off : Nat} (h : s.performs agent pa.toNat wide ∧ reaches agent = true)
    (hreg : s.region pa.toNat = .device) (hdev : s.devAt pa.toNat = .reg b [win] true off) :
    exec (.registerWrite (.device agent pa) wide x) s = .next
      (if wide then s.writeDouble agent b win off x.toNat else s.writeWord agent b win off x.toNat) := by
  rw [exec_deviceWrite_reached x h.1 h.2, hreg]
  exact congrArg _ (State.writeDev_one hdev ..)

theorem exec_deviceWrite_elsewhere (h : s.performs agent pa.toNat wide ∧ reaches agent = true)
    (hreg : s.region pa.toNat ≠ .device) (htile : ∀ c o, s.region pa.toNat ≠ .silo c o ∧ s.region pa.toNat ≠ .spill c o) :
    exec (.registerWrite (.device agent pa) wide x) s = .next s := by
  rw [exec_deviceWrite_reached x h.1 h.2]
  cases e : s.region pa.toNat with
  | device => exact absurd e hreg
  | silo c o => exact absurd e (htile c o).1
  | spill c o => exact absurd e (htile c o).2
  | normal | direct | seedbox | host | remote | hole => rfl

theorem exec_deviceWrite_silo (m o : Nat) (h : s.performs agent pa.toNat wide ∧ reaches agent = true)
    (hreg : s.region pa.toNat = .silo m o) :
    answers (.registerWrite (.device agent pa) wide x) s fun u =>
      (u.tile m).silo = (s.tile m).silo.write o (leBytes (if wide then 8 else 4) x.toNat) ∧
        (u.tile m).spill = (s.tile m).spill ∧ u.regs = s.regs := by
  refine ⟨_, exec_deviceWrite_reached x h.1 h.2, ?_⟩
  rw [hreg]
  simp [State.writeTileWin]

theorem exec_deviceWrite_spill (m o : Nat) (h : s.performs agent pa.toNat wide ∧ reaches agent = true)
    (hreg : s.region pa.toNat = .spill m o) :
    answers (.registerWrite (.device agent pa) wide x) s fun u =>
      (u.tile m).spill = (s.tile m).spill.write o (leBytes (if wide then 8 else 4) x.toNat) ∧
        (u.tile m).silo = (s.tile m).silo ∧ u.regs = s.regs := by
  refine ⟨_, exec_deviceWrite_reached x h.1 h.2, ?_⟩
  rw [hreg]
  simp [State.writeTileWin]

end Device

/-! ### BARs (R364 to R367, R369, R389, R390) -/

/-- A BAR access is performed: the link is up, the function answers, and it is aligned. -/
def State.barPerforms (s : State) (p off : Nat) (wide : Bool) : Prop :=
  s.on HST_LINK.DL_UP 0 = true ∧ s.barReaches p = true ∧ off % (if wide then 8 else 4) = 0

section Bar
variable {p off : Nat} {wide isRead : Bool} {f : State → State}

theorem State.barAccess_down (h : ¬s.on HST_LINK.DL_UP 0 = true) : s.barAccess p off wide isRead f = s := by
  simp [State.barAccess, h]

/-- A function that does not answer: a write is lost, a read gets Unsupported Request. -/
theorem State.barAccess_unreached (hup : s.on HST_LINK.DL_UP 0 = true) (h : s.barReaches p = false) :
    s.barAccess p off wide isRead f = if isRead then s.barAnswer p none else s := by
  simp [State.barAccess, hup, h]

theorem State.barAccess_write_unreached (h : ¬s.on HST_LINK.DL_UP 0 = true ∨ s.barReaches p = false) :
    s.barAccess p off wide false f = s := by
  by_cases hup : s.on HST_LINK.DL_UP 0 = true
  · rw [State.barAccess_unreached hup (h.resolve_left fun hn => hn hup)]; rfl
  · exact State.barAccess_down hup

/-- R366: a misaligned access is dropped and logged. -/
theorem State.barAccess_misaligned {p : Plot} (hup : s.on HST_LINK.DL_UP 0 = true) (h : s.barReaches p = true)
    (ha : off % (if wide then 8 else 4) ≠ 0) :
    s.barAccess p off wide isRead f =
      if isRead then (s.writeDropped (.plot p) off).barAnswer p none else s.writeDropped (.plot p) off := by
  simp [State.barAccess, hup, h, ha]

theorem State.barAccess_performed (h : s.barPerforms p off wide) : s.barAccess p off wide isRead f = f s := by
  obtain ⟨hup, hr, ha⟩ := h
  simp [State.barAccess, hup, hr, ha]

end Bar

section BarExec
variable {p : Plot} {wide : Bool} (x : BitVec 64)

theorem exec_bar0Write_performed {q : BitVec 17} (h : s.barPerforms p q.toNat wide) :
    exec (.registerWrite (.bar0 p q) wide x) s = .next (s.barWrite p q.toNat wide x.toNat) :=
  congrArg _ (State.barAccess_performed h)

theorem exec_bar0Read_performed {q : BitVec 17} (h : s.barPerforms p q.toNat wide) :
    exec (.registerWrite (.readBar0 p q) wide x) s = .next (s.barRead p q.toNat wide) :=
  congrArg _ (State.barAccess_performed h)

/-- Where a BAR2 write leads to no Device address nothing happens; elsewhere it is plot 0's write there. -/
theorem exec_bar2Write_performed {q : BitVec 29} (h : s.barPerforms 0 q.toNat wide) :
    exec (.registerWrite (.bar2 q) wide x) s = .next (match s.bar2At q.toNat with
      | some pa => s.writeDev (.plot 0) pa wide x.toNat
      | none => s) :=
  congrArg _ (State.barAccess_performed h)

/-- A BAR2 read that leads to no Device address gets Unsupported Request. -/
theorem exec_bar2Read_nowhere {q : BitVec 29} (h : s.barPerforms 0 q.toNat wide) (hq : s.bar2At q.toNat = none) :
    exec (.registerWrite (.readBar2 q) wide x) s = .next (s.barAnswer 0 none) := by
  refine congrArg Host.Outcome.next ((State.barAccess_performed h).trans ?_)
  rw [hq]

end BarExec

/-- In recovery BAR2 leads nowhere, else where Table 16-3 says (R66). -/
theorem State.bar2At_nowhere {off : Nat} (h : bar2 off = none ∨ s.recovering = true) : s.bar2At off = none := by
  unfold State.bar2At
  split
  · rfl
  · rename_i hrec
    exact h.resolve_right hrec

theorem State.bar2At_some {off a : Nat} (hrec : s.recovering = false) (h : bar2 off = some a) :
    s.bar2At off = some a := by simp [State.bar2At, hrec, h]

/-- Beyond its MSI-X table BAR0 takes writes only at the pages of the plot's own streams (Table 16-2, R11). -/
theorem State.barWrite_nowhere {p : Plot} {off : Nat} (hrec : s.recovering = false)
    (h : (0x3000 ≤ off ∧ off < 0x10000) ∨
      (0x10000 ≤ off ∧ off < 0x20000 ∧ s.streamPlot ((off - 0x10000) / 32) ≠ p)) (wide : Bool) (v : Nat) :
    s.barWrite p off wide v = s := by
  rcases h with ⟨hl, hh⟩ | ⟨hl, hh, hp⟩
  · by_cases h4 : off < 0x4000
    · have e : bar0 p off = .pending ((off - 0x3000) / 4) := by
        simp [bar0, h4, show ¬off < 0x1000 by omega, show ¬off < 0x2000 by omega, show ¬off < 0x3000 by omega]
      simp [State.barWrite, State.bar0At, hrec, e]
    · have e : bar0 p off = .none := by
        simp [bar0, h4, show ¬off < 0x1000 by omega, show ¬off < 0x2000 by omega, show ¬off < 0x3000 by omega,
          show ¬0x10000 ≤ off by omega]
      simp [State.barWrite, State.bar0At, hrec, e]
  · have e : bar0 p off = .dev (0xF202000000 + off) := by
      simp [bar0, hl, hh, show ¬off < 0x1000 by omega, show ¬off < 0x2000 by omega, show ¬off < 0x3000 by omega,
        show ¬off < 0x4000 by omega]
    simp [State.barWrite, State.bar0At, hrec, e, hl, hp]

/-- In recovery BAR0 is the BT_ block, and nothing beyond it (R66). -/
theorem State.barWrite_recovering (hrec : s.recovering = true) (p : Plot) (off : Nat) (wide : Bool) (v : Nat) :
    s.barWrite p off wide v = if off < 0x10000 then s.writeDev (.plot p) (0xF807000000 + off) wide v else s := by
  by_cases h : off < 0x10000 <;> simp [State.barWrite, State.bar0At, hrec, h]

/-! ### MSI-X vectors (R373) -/

/-- The data word of vector k's table entry lies at BAR0 offset 0x2000 + 16 k + 8. -/
theorem State.bar0At_data {p : Plot} {k off : Nat} (hrec : s.recovering = false) (hk : k < vecCount p)
    (h : off = 0x2000 + 16 * k + 8) : s.bar0At p off = .vector k 2 := by
  have hk' : k < 256 := Nat.lt_of_lt_of_le hk (by unfold vecCount; split <;> omega)
  have e : bar0 p off = .vector k 2 := by
    simp only [bar0, show ¬off < 0x1000 by omega, show ¬off < 0x2000 by omega, show off < 0x3000 by omega, if_true,
      if_false]
    congr 1 <;> omega
  simp [State.bar0At, hrec, e]

/-- The vectors, changed at one key. -/
def State.setVec (s : State) (key : Nat) (y : Vec) : State := { s with vecs := put key y s.vecs }

theorem State.vec_setVec_self (s : State) (p k : Nat) (y : Vec) : (s.setVec (vecKey p k) y).vec p k = y :=
  findD_put_self ..

/-- What a function's BARs answer to does not depend on its vectors. -/
theorem State.barPerforms_setVec {p off : Nat} {wide : Bool} (h : s.barPerforms p off wide) (key : Nat) (y : Vec) :
    (s.setVec key y).barPerforms p off wide := h

theorem State.recovering_setVec (s : State) (key : Nat) (y : Vec) : (s.setVec key y).recovering = s.recovering := rfl

theorem State.barWrite_data {p : Plot} {k off : Nat} (hrec : s.recovering = false) (hk : k < vecCount p)
    (h : off = 0x2000 + 16 * k + 8) (v : Nat) :
    s.barWrite p off false v = s.setVec (vecKey p k) { s.vec p k with data := v % 2 ^ 32 } := by
  simp [State.barWrite, State.bar0At_data hrec hk h, State.writeVector, Nat.not_le.mpr hk, State.setVec]

theorem State.barRead_data {p : Plot} {k off : Nat} (hrec : s.recovering = false) (hk : k < vecCount p)
    (h : off = 0x2000 + 16 * k + 8) : s.barRead p off false = s.barAnswer p (some (s.vec p k).data) := by
  simp [State.barRead, State.bar0At_data hrec hk h, State.readVector, Nat.not_le.mpr hk]

/-- R369: a read of a vector's data word gets what the write before it left. -/
theorem exec_bar0_data {p : Plot} {q : BitVec 17} {k : Nat} (x : BitVec 64) (h : s.barPerforms p q.toNat false)
    (hrec : s.recovering = false) (hk : k < vecCount p) (hq : q.toNat = 0x2000 + 16 * k + 8) :
    answers (.registerWrite (.bar0 p q) false x) s fun u => (u.vec p k).data = x.toNat % 2 ^ 32 ∧
      exec (.registerWrite (.readBar0 p q) false 0) u = .next (u.barAnswer p (some (x.toNat % 2 ^ 32))) := by
  refine ⟨_, (exec_bar0Write_performed x h).trans (congrArg _ (State.barWrite_data hrec hk hq _)), ?_, ?_⟩
  · rw [State.vec_setVec_self]
  · rw [exec_bar0Read_performed 0 (State.barPerforms_setVec h _ _),
      State.barRead_data ((s.recovering_setVec _ _).trans hrec) hk hq, State.vec_setVec_self]

/-- A vector with its pending bit set is masked: nothing is owed on an unmasked one. -/
def Vec.settled (v : Vec) : Prop := v.pba = true → v.masked = true

/-- The vectors' own updates leave registers and functions alone. -/
def State.onlyVecs (s u : State) : Prop := u.regs = s.regs ∧ u.host = s.host

/-- An event on a vector of an unmasked function leaves every settled vector settled: it sets a pending bit only where
the vector is masked itself. -/
theorem State.notify_settled {p : Nat} (hm : (s.fn p).msixMask = false) (vec key : Nat)
    (h : (findD {} key s.vecs).settled) : (findD {} key (s.notify p vec).vecs).settled := by
  by_cases hk : key = vecKey p vec
  · subst hk
    unfold State.notify
    dsimp only
    split
    · exact h
    · split
      · simpa [Vec.settled] using h
      · split
        · rename_i hmask
          simpa [Vec.settled, hm] using hmask
        · simpa [Vec.settled] using h
  · unfold State.notify
    dsimp only
    split
    · exact h
    · (repeat' split) <;> simpa [hk] using h

theorem State.notify_onlyVecs (s : State) (p vec : Nat) : s.onlyVecs (s.notify p vec) := by
  unfold State.notify State.onlyVecs
  dsimp only
  (repeat' split) <;> exact ⟨rfl, rfl⟩

theorem State.onlyVecs_trans {s t u : State} (h : s.onlyVecs t) (h' : t.onlyVecs u) : s.onlyVecs u :=
  ⟨h'.1.trans h.1, h'.2.trans h.2⟩

theorem State.onlyVecs_fn {s u : State} (h : s.onlyVecs u) (p : Nat) : u.fn p = s.fn p := by
  unfold State.fn; rw [h.2]

/-- The pending bit of one listed vector is cleared and its message sent. -/
def State.sendPending (p : Nat) (s : State) (x : Nat × Vec) : State :=
  (s.setVec x.1 { x.2 with pba := false }).notify p (x.1 % 256)

theorem State.sendPending_onlyVecs (s : State) (p : Nat) (x : Nat × Vec) : s.onlyVecs (s.sendPending p x) :=
  State.notify_onlyVecs (s.setVec x.1 { x.2 with pba := false }) p (x.1 % 256)

/-- The vector whose pending bit is cleared is settled, and one that was settled stays so. -/
theorem State.sendPending_settled {p : Nat} (hm : (s.fn p).msixMask = false) (x : Nat × Vec) {key : Nat}
    (h : key = x.1 ∨ (findD {} key s.vecs).settled) : (findD {} key (s.sendPending p x).vecs).settled := by
  refine State.notify_settled (s := s.setVec x.1 { x.2 with pba := false }) hm (x.1 % 256) key ?_
  by_cases hk : key = x.1
  · subst hk; simp [State.setVec, Vec.settled]
  · simpa [State.setVec, hk] using h.resolve_left hk

theorem State.foldl_sendPending_onlyVecs (p : Nat) (l : List (Nat × Vec)) (s : State) :
    s.onlyVecs (l.foldl (State.sendPending p) s) := by
  induction l generalizing s with
  | nil => exact ⟨rfl, rfl⟩
  | cons x l ih => exact State.onlyVecs_trans (s.sendPending_onlyVecs p x) (ih _)

/-- After the messages of the listed vectors are sent, each of these is settled, and each that was settled before. -/
theorem State.foldl_sendPending_settled {p key : Nat} (l : List (Nat × Vec)) {s : State}
    (hm : (s.fn p).msixMask = false) (h : key ∈ l.map (·.1) ∨ (findD {} key s.vecs).settled) :
    (findD {} key (l.foldl (State.sendPending p) s).vecs).settled := by
  induction l generalizing s with
  | nil => simpa using h
  | cons x l ih =>
    rw [List.foldl_cons]
    apply ih (by rw [State.onlyVecs_fn (s.sendPending_onlyVecs p x), hm])
    rw [List.map_cons, List.mem_cons, or_right_comm] at h
    exact h.symm.imp id (State.sendPending_settled hm x)

/-- What a store finds under a key stands in it. -/
theorem mem_of_find {α : Type} {k : Nat} {v : α} {m : List (Nat × α)} (h : find k m = some v) : (k, v) ∈ m := by
  induction m with
  | nil => cases h
  | cons c r ih =>
    rw [find_cons] at h
    split at h
    · rename_i hc
      cases h; subst hc
      exact List.mem_cons_self
    · exact List.mem_cons_of_mem _ (ih h)

/-- A vector that is not settled stands in the store, unmasked and with its pending bit set. -/
theorem mem_of_not_settled {key : Nat} {m : List (Nat × Vec)} (h : ¬(findD {} key m).settled) :
    ∃ v, (key, v) ∈ m ∧ v.pba = true ∧ v.masked = false := by
  cases e : find key m with
  | none => simp [findD, e, Vec.settled] at h
  | some v =>
    rw [findD, e] at h
    exact ⟨v, mem_of_find e, by simpa [Vec.settled] using h⟩

/-- A function's MSI-X Enable and Function Mask, set. -/
def State.msixCtl (s : State) (p : Nat) (enable mask : Bool) : State :=
  s.setFn p { s.fn p with msixEn := enable, msixMask := mask }

/-- The pending vectors of a function that are not masked themselves. -/
def State.owed (s : State) (p : Nat) : List (Nat × Vec) :=
  s.vecs.filter fun x => x.1 / 256 = p && x.2.pba && !x.2.masked

/-- A write of MSI-X Message Control where configuration requests arrive, outside recovery. -/
theorem State.msixSet_reached {p : Nat} (hc : s.configReaches p = true) (hrec : s.recovering = false)
    (enable mask : Bool) :
    s.msixSet p enable mask =
      if !enable || mask then s.msixCtl p enable mask
      else (s.owed p).foldl (State.sendPending p) (s.msixCtl p enable mask) := by
  simp only [State.msixSet, hc, hrec]
  rfl

theorem State.msixSet_onlyVecs {p : Nat} (hc : s.configReaches p = true) (hrec : s.recovering = false)
    (enable mask : Bool) : (s.msixCtl p enable mask).onlyVecs (s.msixSet p enable mask) := by
  rw [State.msixSet_reached hc hrec]
  split
  · exact ⟨rfl, rfl⟩
  · exact State.foldl_sendPending_onlyVecs ..

/-- Enabling MSI-X with the function unmasked settles every vector of the function. -/
theorem State.msixSet_settled {p k : Nat} (hc : s.configReaches p = true) (hrec : s.recovering = false)
    (hk : k < vecCount p) : ((s.msixSet p true false).vec p k).settled := by
  have hkey : vecKey p k / 256 = p := by
    have : k < 256 := Nat.lt_of_lt_of_le hk (by unfold vecCount; split <;> omega)
    simp only [vecKey, hk, if_true]; omega
  rw [State.msixSet_reached hc hrec]
  refine State.foldl_sendPending_settled (s.owed p) (by simp [State.msixCtl, State.fn, State.setFn]) ?_
  by_cases h : (findD {} (vecKey p k) s.vecs).settled
  · exact Or.inr h
  · obtain ⟨v, hv, hp, hm⟩ := mem_of_not_settled h
    exact Or.inl (List.mem_map.mpr ⟨_, List.mem_filter.mpr ⟨hv, by simp [hkey, hp, hm]⟩, rfl⟩)

/-! ### Configuration requests (R364, R373, R389) -/

@[simp] theorem State.fn_setFn_self (s : State) (p : Nat) (r : FnRec) : (s.setFn p r).fn p = r := by
  simp [State.fn, State.setFn]

theorem State.fn_setFn_ne (s : State) {p j : Nat} (h : j ≠ p) (r : FnRec) : (s.setFn p r).fn j = s.fn j := by
  simp [State.fn, State.setFn, h]

theorem State.vfSet_eq (s : State) (n : Nat) :
    s.vfSet n = if s.configReaches 0 = true ∧ s.recovering = false ∧ 1 ≤ n ∧ n ≤ 511 then
      { s with host := { s.host with vfEnable := true, numVfs := n } } else s := by
  unfold State.vfSet
  by_cases h : s.configReaches 0 = true ∧ s.recovering = false ∧ 1 ≤ n ∧ n ≤ 511
  · obtain ⟨hc, hrec, h1, h2⟩ := h
    simp [hc, hrec, h1, h2, show n ≠ 0 by omega, show ¬511 < n by omega]
  · rw [if_neg h, if_pos]
    by_contra hn
    simp only [Bool.or_eq_true, Bool.not_eq_true', decide_eq_true_eq, not_or, Bool.not_eq_false, Bool.not_eq_true] at hn
    obtain ⟨⟨⟨hc, hrec⟩, h0⟩, h511⟩ := hn
    exact h ⟨hc, hrec, by omega, by omega⟩

theorem State.masterSet_reached {p : Nat} (h : s.configReaches p = true) :
    s.masterSet p = s.setFn p { s.fn p with master := true } := if_pos h

theorem State.masterSet_unreached {p : Nat} (h : ¬s.configReaches p = true) : s.masterSet p = s := if_neg h

theorem State.msixSet_unreached {p : Nat} (h : ¬s.configReaches p = true ∨ s.recovering = true) (enable mask : Bool) :
    s.msixSet p enable mask = s := by
  unfold State.msixSet
  rw [if_pos (by simpa using h)]

/-- The Device ID over the Vendor ID, as a configuration read gets it (R66, R363). -/
theorem exec_readId (s : State) (p : Plot) (wide : Bool) (x : BitVec 64) :
    exec (.registerWrite (.readId p) wide x) s = .next (if s.configReaches p then s.barAnswer p (some (0x1D2E +
      65536 * (if s.recovering then 0x4B1F else if p.val = 0 then 0x4B10 else 0x4B11))) else s) := by
  rw [exec_registerWrite, Nat.add_comm, Nat.mul_comm]
  rfl

theorem exec_busMaster_reached {p : Plot} (wide : Bool) (x : BitVec 64) (h : s.configReaches p = true) :
    answers (.registerWrite (.busMaster p) wide x) s fun u =>
      (u.fn p).master = true ∧ u.regs = s.regs ∧ ∀ j, j ≠ p.val → u.fn j = s.fn j := by
  refine ⟨_, congrArg Host.Outcome.next (State.masterSet_reached h), ?_, rfl, fun j hj => State.fn_setFn_ne s hj _⟩
  rw [State.fn_setFn_self]

theorem exec_msix_reached {p : Plot} (wide en mk : Bool) (x : BitVec 64) (k : Nat) (hc : s.configReaches p = true)
    (hrec : s.recovering = false) :
    answers (.registerWrite (.msix p en mk) wide x) s fun u =>
      (u.fn p).msixEn = en ∧ (u.fn p).msixMask = mk ∧ u.regs = s.regs ∧ (∀ j, j ≠ p.val → u.fn j = s.fn j) ∧
      (en = true → mk = false → k < vecCount p → (u.vec p k).pba = true → (u.vec p k).masked = true) := by
  have hv := State.msixSet_onlyVecs hc hrec en mk
  refine ⟨_, rfl, ?_, ?_, hv.1, fun j hj => ?_, ?_⟩
  · rw [State.onlyVecs_fn hv, State.msixCtl, State.fn_setFn_self]
  · rw [State.onlyVecs_fn hv, State.msixCtl, State.fn_setFn_self]
  · rw [State.onlyVecs_fn hv, State.msixCtl, State.fn_setFn_ne s hj]
  · rintro rfl rfl hk
    exact State.msixSet_settled hc hrec hk

/-! ### The obligation -/

/-- Settles O11, write path by write path: fields by their access codes, Device addresses by what they name, the BARs by
whether the function answers, and configuration writes, after which no unmasked vector is owed a message. -/
theorem registerWriteResults : Obligations.RegisterWriteResults := by
  refine ⟨fun s r F i v hv hn hF hlo hhi => s.f_writeReg_self i hv hn hF hlo hhi, State.f_writeReg_ne,
    fun s agent pa wide x => ?device, fun s p q wide x => ?bar0, fun s q wide x => ?bar2,
    fun s p wide en mk x n k => ?config⟩
  case device =>
    refine ⟨exec_deviceWrite_idle x, exec_deviceWrite_keptOut x, exec_deviceWrite_reserved x, exec_deviceWrite_log x,
      fun b win off r k h hreg hdev => ?_, exec_deviceWrite_elsewhere x, exec_deviceWrite_silo x,
      exec_deviceWrite_spill x⟩
    rw [exec_deviceWrite_window x h hreg hdev]
    refine ⟨?_, fun hb hloc => ⟨?_, ?_⟩⟩
    · rintro rfl hloc
      exact congrArg _ (State.writeWord_reserved hloc ..)
    · rintro rfl
      exact congrArg _ (State.writeWord_plain hb hloc ..)
    · rintro rfl hw
      rw [if_pos rfl, State.writeDouble_plain hb hloc hw, Nat.mod_eq_of_lt x.isLt]
  case bar0 =>
    refine ⟨fun h => congrArg _ (State.barAccess_write_unreached h), fun h => congrArg _ (State.barAccess_down h),
      fun hup h => congrArg _ (State.barAccess_unreached hup h),
      fun hup h ha => ⟨congrArg _ (State.barAccess_misaligned hup h ha), congrArg _ (State.barAccess_misaligned hup h ha)⟩,
      fun hbar hrec h => ?_, fun hbar hrec => ?_, ?_⟩
    · rw [exec_bar0Write_performed x hbar, State.barWrite_nowhere hrec h]
    · rw [exec_bar0Write_performed x hbar, State.barWrite_recovering hrec]
    · rintro k hbar hrec rfl hk hq
      exact exec_bar0_data x hbar hrec hk hq
  case bar2 =>
    refine ⟨fun h => congrArg _ (State.barAccess_write_unreached h),
      fun hup h ha => congrArg _ (State.barAccess_misaligned (p := 0) hup h ha), fun hbar h => ?_, fun a hbar hrec h => ?_⟩
    · have hq := State.bar2At_nowhere h
      exact ⟨by rw [exec_bar2Write_performed x hbar, hq], exec_bar2Read_nowhere x hbar hq⟩
    · rw [exec_bar2Write_performed x hbar, State.bar2At_some hrec h]
  case config =>
    exact ⟨exec_readId s p wide x, congrArg _ (s.vfSet_eq n),
      fun h => congrArg Host.Outcome.next (State.masterSet_unreached h), exec_busMaster_reached wide x,
      fun h => congrArg Host.Outcome.next (State.msixSet_unreached h en mk), exec_msix_reached wide en mk x k⟩

end Sys2Proof.Machine
end

section
/-! PROOF. One step, by whether a command waits (notes/assumptions/4). -/

namespace Sys2Proof.Machine

variable {s : State}

/-- The command at the front leaves the queue and runs on the rest. -/
theorem step_of_pending_cons {i : Instr} {q : List Instr} (h : s.pending = i :: q) :
    step s = exec i { s with pending := q } := by
  unfold step
  rw [h]

/-- With no command waiting, one REFCLK period passes. -/
theorem step_of_pending_nil (h : s.pending = []) : step s = .next s.tick := by
  unfold step
  rw [h]

/-- Settles O1, by the two shapes of the queue. -/
theorem stepRunsFrontCommand : Obligations.StepRunsFrontCommand := by
  unfold Obligations.StepRunsFrontCommand
  refine ⟨fun i q s => ?front, fun s hidle => ?idle⟩
  case front =>
    have hfront : { s with pending := i :: q }.pending = i :: q := rfl
    exact step_of_pending_cons hfront
  case idle => exact step_of_pending_nil hidle

end Sys2Proof.Machine
end

section
/-! PROOF. The frame of every command: what it may change (`partsOf`), and that it answers. -/

namespace Sys2Proof.Machine

/-! ### Parts of the state that a command keeps -/

/-- The mask of the parts in `ps`. -/
def among (ps : List Facet) (p : Facet) : Bool := ps.contains p

/-- The mask of the parts that are not in `ps`. -/
def outside (ps : List Facet) (p : Facet) : Bool := !ps.contains p

theorem mem_allFacets (p : Facet) : p ∈ allFacets := by
  cases p
  case blk b => cases b <;> decide
  all_goals decide

@[simp] theorem outside_allBut (ps : List Facet) : outside (allBut ps) = among ps := by
  funext p
  simp [outside, among, allBut, mem_allFacets]

/-- Every command keeps each part outside its `partsOf`: its own frame lemma of Laws/Keep*.lean, at that mask. -/
theorem exec_keepsOutside (i : Instr) (s : State) : Keeps (outside (partsOf i)) s (exec i s) := by
  cases i
  all_goals
    unfold exec partsOf
    simp (disch := decide)

theorem keepsBut_of_exec {i : Instr} {s t : State} (h : exec i s = .next t) : s.keepsBut (partsOf i) t := by
  have hk := exec_keepsOutside i s
  rw [h, keeps_next] at hk
  exact hk

/-! ### Every command but one answers a next state -/

theorem execSupplySample_answers (rail : Fin 9) {level : RailLevel} (h : level ≠ .beyondAbsolute) (s : State) :
    ∃ t, execSupplySample rail level s = .next t := by
  cases level
  case beyondAbsolute => exact absurd rfl h
  all_goals exact ⟨_, rfl⟩

/-- A mailbox message is refused, put off or answered (R464). -/
theorem State.onMessage_answers (s : State) (type : Nat) (f : List Byte → State → State) :
    ∃ t, s.onMessage type f = .next t := by
  unfold State.onMessage
  (repeat' split) <;> exact ⟨_, rfl⟩

/-- Every command answers a next state, a supply sample beyond the absolute range apart: most are a next state by their
definition, the others in each branch. -/
theorem exec_answers {i : Instr} (h : ∀ r, i ≠ .supplySample r .beyondAbsolute) (s : State) :
    ∃ t, exec i s = .next t := by
  cases i
  case supplySample r level => exact execSupplySample_answers r (fun e => h r (e ▸ rfl)) s
  case status | regRead | paramBegin | paramData | paramCommit | checkRead | confirm | operate | stop | handover
      | clearEvt =>
    unfold exec
    exact s.onMessage_answers _ _
  case rdreq | wr | wr64 | atom | headlandSafetyReset | startup | lockstepMismatch | safetyCycle | paramWriteDone
      | confirmTimeout | lockoutEnd | armedExpiry | handoverFailed | frameWatchdog | degradeExpired | localLost
      | graceEnd | vetoTestPulse =>
    unfold exec
    dsimp only [execRdreq, execWr, execWr64, execAtom, execHeadlandSafetyReset, execStartup, execLockstepMismatch,
      execSafetyCycle, execParamWriteDone, execConfirmTimeout, execLockoutEnd, execArmedExpiry, execHandoverFailed,
      execFrameWatchdog, execDegradeExpired, execLocalLost, execGraceEnd, execVetoTestPulse]
    (repeat' split) <;> exact ⟨_, rfl⟩
  case inputSample | resetStuck | discrepancy | testPulse | offPulse | cfTime | encoderEdge | indexPoint
      | observerSample | tBlind | dackTimeout | tSs =>
    unfold exec
    dsimp only [execInputSample, execResetStuck, execDiscrepancy, execTestPulse, execOffPulse, execCfTime,
      execEncoderEdge, execIndexPoint, execObserverSample, execTBlind, execDackTimeout, execTSs]
    (repeat' split) <;> exact ⟨_, rfl⟩
  case start | startAck | startFail | dataDue | data | close | watchdog | timeout | retry | hitchFrameReceive
      | portLink =>
    unfold exec
    dsimp only [execStart, execStartAck, execStartFail, execDataDue, execData, execClose, execWatchdog, execTimeout,
      execRetry, execHitchFrameReceive, execPortLink]
    (repeat' split) <;> exact ⟨_, rfl⟩
  case logWrite | tempSample | powerEstimate | errorCounterSample =>
    unfold exec
    dsimp only [execLogWrite, execTempSample, execPowerEstimate, execErrorCounterSample]
    (repeat' split) <;> exact ⟨_, rfl⟩
  all_goals exact ⟨_, rfl⟩

/-- Settles O3: the frame of every command, and that all but one answer. -/
theorem wholeMachineFrame : Obligations.WholeMachineFrame := by
  unfold Obligations.WholeMachineFrame
  intro i s
  by_cases h : ∃ r, i = .supplySample r .beyondAbsolute
  · obtain ⟨r, rfl⟩ := h
    exact .inl ⟨rfl, r, rfl⟩
  · obtain ⟨t, ht⟩ := exec_answers (fun r e => h ⟨r, e⟩) s
    have hk := keepsBut_of_exec ht
    exact .inr ⟨t, ht, hk, pending_of_keep hk⟩

end Sys2Proof.Machine
end

section
/-! PROOF. Register fields after a reset of their block (R12). -/

namespace Sys2Proof.Machine

/-! ### Register fields that are reset -/

theorem find_filter_not {α : Type} {p : Nat × α → Bool} {k : Nat} (hp : ∀ x, p (k, x) = false) (l : List (Nat × α)) :
    find k (l.filter p) = none := by
  induction l with
  | nil => rfl
  | cons c r ih =>
    rw [List.filter_cons]
    split
    next hc =>
      rw [find_cons, if_neg, ih]
      intro e
      obtain ⟨a, x⟩ := c
      cases e
      rw [hp] at hc
      cases hc
    · exact ih

/-- Every field's number is below 4096, so a key gives the number back. -/
theorem Blk.fields_id_lt (b : Blk) : ∀ F ∈ b.fields, F.id < 4096 := by cases b <;> decide

theorem Fld.key_mod {F : Fld} (h : F.id < 4096) (i : Nat) : F.key i % 4096 = F.id := by
  unfold Fld.key
  omega

theorem State.f_resetFields_mem (s : State) {fs : List Fld} {F : Fld} (hF : F ∈ fs) (hid : F.id < 4096) (i : Nat) :
    (s.resetFields fs).f F i = F.rst := by
  have hany : (fs.any fun G => G.id == F.id) = true := List.any_eq_true.mpr ⟨F, hF, by simp⟩
  have hnone : find (F.key i) (s.resetFields fs).regs = none :=
    find_filter_not (fun x => by simp only [Fld.key_mod hid, hany, Bool.not_true]) _
  unfold State.f findD
  rw [hnone]
  rfl

theorem State.f_resetFields_ne (s : State) {fs : List Fld} {F : Fld} (hF : ∀ G ∈ fs, G.id ≠ F.id) (hid : F.id < 4096)
    (i : Nat) : (s.resetFields fs).f F i = s.f F i := by
  have hany : (fs.any fun G => G.id == F.id) = false := by
    simp only [List.any_eq_false, beq_iff_eq]
    exact hF
  have hsome : find (F.key i) (s.resetFields fs).regs = find (F.key i) s.regs :=
    find_filter_of (fun x => by simp only [Fld.key_mod hid, hany, Bool.not_false]) _
  unfold State.f findD
  rw [hsome]

theorem State.f_resetBlk_mem (s : State) {b : Blk} {F : Fld} (hF : F ∈ b.fields) (i : Nat) :
    (s.resetBlk b).f F i = F.rst := s.f_resetFields_mem hF (b.fields_id_lt F hF) i

end Sys2Proof.Machine
end

section
/-! PROOF. The island's face: what its invariant speaks of, and the operations that keep it. -/

namespace Sys2Proof.Machine

/-! ### The island's face -/

/-- The parts in which the island stands. -/
def islandPart (p : Facet) : Bool := decide (p = .blk .HDL ∨ p = .isl)

@[simp] theorem islandPart_eq_false (p : Facet) : islandPart p = false ↔ p ≠ .blk .HDL ∧ p ≠ .isl := by
  simp [islandPart]

/-- What the island's invariant depends on, and the parameter set. -/
structure Face where
  hs : Nat
  auth : Bool
  veto : Bool
  chans : List (Nat × ChanSt)
  set : Option ParamSet

/-- The face of a state. -/
def faceOf (s : State) : Face where
  hs := s.hs
  auth := s.auth
  veto := s.on HDL_STATE.VETO_OUT 0
  chans := s.isl.chans
  set := s.isl.set

/-- `faceOf`, read through the island's parts alone: under it every frame lemma of an operation elsewhere applies. -/
@[reducible] def State.face (s : State) : Face := faceOf (s.keep islandPart)

theorem State.face_eq (s : State) : s.face = faceOf s := by
  have hf : ∀ F, islandPart (.blk F.blk) = true → ∀ i, (s.keep islandPart).f F i = s.f F i := by
    intro F hF i
    refine f_of_keep (m := islandPart) ?_ hF i
    simp only [State.keep, List.filter_filter, Bool.and_self]
    simp [islandPart]
  have hi : (s.keep islandPart).isl = s.isl := by simp [State.keep, islandPart]
  simp only [State.face, faceOf, State.hs, State.auth, State.on, hi]
  rw [hf _ rfl, hf _ rfl, hf _ rfl]

@[simp] theorem faceOf_ite {c : Prop} [Decidable c] (a b : State) :
    faceOf (if c then a else b) = if c then faceOf a else faceOf b := by split <;> rfl

/-- The fields of the island that its operations write and its invariant does not speak of. -/
@[simp] def calmFields : List Fld :=
  [HDL_AX_IDXCORR.COUNT, HDL_AX_IDXMIS.COUNT, HDL_AX_OBS.R, HDL_AX_OBS.V, HDL_AX_OBSLOST.COUNT, HDL_AX_POS.P,
   HDL_AX_POSH.P, HDL_AX_SPEED.SOURCE, HDL_AX_SPEED.U, HDL_AX_STATE.AS, HDL_AX_STATE.DEGRADED_SOURCE,
   HDL_AX_STATE.DEMAND, HDL_AX_STATE.FAULT, HDL_AX_STATE.POS_SUSP, HDL_AX_STATE.REFERENCED, HDL_AX_STATE.SDI,
   HDL_AX_STATE.SLP, HDL_AX_STATE.SLS, HDL_AX_STATE.SSM, HDL_AX_STATE.WAIT_RESTART, HDL_AX_TRIP.COUNT,
   HDL_CAUSE.CAUSE, HDL_CFNOTREADY.COUNT, HDL_CHECK.C, HDL_CONF.CONF_C, HDL_CYCLE.COUNT, HDL_EVT.EVT,
   HDL_HANDOVER.COUNT, HDL_HP_CORRUPT.COUNT, HDL_HP_FCS.COUNT, HDL_HP_OVER.COUNT, HDL_HP_RX.COUNT,
   HDL_HP_STATE.LINK, HDL_HP_STATE.SPEED, HDL_HP_TX.COUNT, HDL_HT_CLOSES.COUNT, HDL_HT_DUP.COUNT,
   HDL_HT_LOST.COUNT, HDL_HT_RTT.US, HDL_HT_SEQ.ACCEPTED, HDL_HT_SEQ.SENT, HDL_HT_SESSION.SESSION,
   HDL_HT_STALE.COUNT, HDL_HT_STATE.ESSENTIAL, HDL_HT_STATE.FORCED, HDL_HT_STATE.HT, HDL_HT_STATE.REASON,
   HDL_HT_STATE.REMOTE, HDL_LASTK.K, HDL_MISSTOT.COUNT, HDL_OPFAIL.COUNT, HDL_OPTEST.COUNT, HDL_PCRC.PCRC,
   HDL_PWRITE.BUSY, HDL_PWRITE.FAILED, HDL_SEAL.LATCHED, HDL_SEAL.LIVE, HDL_SI_FCODE.CODES, HDL_SI_RAW.A,
   HDL_SI_RAW.B, HDL_SI_STATE.FAULT, HDL_SI_STATE.ON, HDL_SI_STATE.TIMING, HDL_SO_FCODE.CODES, HDL_SO_STATE.CFB,
   HDL_SO_STATE.COMMANDED, HDL_SO_STATE.NODE, HDL_SO_STATE.STAGEA, HDL_SO_STATE.STAGEB, HDL_SO_STATE.WAITING,
   HDL_STALE.COUNT, HDL_STATE.ARMED, HDL_STATE.CONFIRM_PEND, HDL_STATE.DEGRADED, HDL_STATE.MISSCNT,
   HDL_STATE.REBIND, HDL_STATE.RELINQUISH, HDL_STATE.VETO_IN]

theorem key_ne_of_calm {F : Fld} (h : calmFields.contains F = true) (i : Nat) :
    HDL_STATE.HS.key 0 ≠ F.key i ∧ HDL_STATE.AUTH.key 0 ≠ F.key i ∧ HDL_STATE.VETO_OUT.key 0 ≠ F.key i := by
  have hid : ∀ F ∈ calmFields, F.id < 4096 ∧ F.id ≠ HDL_STATE.HS.id ∧ F.id ≠ HDL_STATE.AUTH.id ∧
      F.id ≠ HDL_STATE.VETO_OUT.id := by decide
  have hm : HDL_STATE.HS.id < 4096 ∧ HDL_STATE.AUTH.id < 4096 ∧ HDL_STATE.VETO_OUT.id < 4096 := by decide
  have := hid F (List.contains_iff_mem.mp h)
  unfold Fld.key
  omega

@[simp] theorem State.setF_face (s : State) {F : Fld} (h : calmFields.contains F = true) (i v : Nat) : (s.setF F i v).face = s.face := by
  obtain ⟨hhs, hauth, hveto⟩ := key_ne_of_calm h i
  simp only [State.face_eq, faceOf, State.hs, State.auth, State.on, State.f_setF_ne _ hhs, State.f_setF_ne _ hauth,
    State.f_setF_ne _ hveto, State.setF_isl]

@[simp] theorem State.setOn_face (s : State) {F : Fld} (h : calmFields.contains F = true) (i : Nat) (b : Bool) :
    (s.setOn F i b).face = s.face := s.setF_face h i _

@[simp] theorem State.setBitF_face (s : State) {F : Fld} (h : calmFields.contains F = true) (i k : Nat) (b : Bool) :
    (s.setBitF F i k b).face = s.face := s.setF_face h i _

@[simp] theorem State.bump_face (s : State) {F : Fld} (h : calmFields.contains F = true) (i : Nat) : (s.bump F i).face = s.face := by
  unfold State.bump
  split
  · exact s.setF_face h i _
  · rfl

@[simp] theorem State.bumpBy_face (s : State) {F : Fld} (h : calmFields.contains F = true) (i n : Nat) :
    (s.bumpBy F i n).face = s.face := s.setF_face h i _

@[simp] theorem State.wrapInc_face (s : State) {F : Fld} (h : calmFields.contains F = true) (i : Nat) :
    (s.wrapInc F i).face = s.face := s.setF_face h i _

@[simp] theorem State.mapIsl_face (s : State) {f : Island → Island} (hc : ∀ i, (f i).chans = i.chans)
    (hp : ∀ i, (f i).set = i.set) : (s.mapIsl f).face = s.face := by
  rw [State.face_eq, State.face_eq]
  simp only [faceOf, State.mapIsl_isl, hc, hp]
  rfl

@[simp] theorem foldl_face {α : Type} {f : State → α → State} (hf : ∀ s a, (f s a).face = s.face) (l : List α) (s : State) :
    (l.foldl f s).face = s.face := by
  induction l generalizing s with
  | nil => rfl
  | cons a l ih => rw [List.foldl_cons, ih, hf]

/-! ### Operations that keep it -/

@[simp] theorem State.islEvent_face (s : State) (k : Nat) : (s.islEvent k).face = s.face := by
  simp [State.face, State.islEvent]

@[simp] theorem State.showCauses_face (s : State) : (s.showCauses).face = s.face := by
  simp [State.face, State.showCauses]

@[simp] theorem State.showSet_face (s : State) : (s.showSet).face = s.face := by
  unfold State.showSet
  (repeat' split) <;> simp [State.face]

@[simp] theorem State.leaveOperation_face (s : State) : (s.leaveOperation).face = s.face := by
  simp [State.face, State.leaveOperation]

@[simp] theorem State.disarmOperate_face (s : State) : (s.disarmOperate).face = s.face := by
  simp [State.face, State.disarmOperate]

@[simp] theorem State.islandTell_face (s : State) (r : IslRecord) : (s.islandTell r).face = s.face := by
  apply State.mapIsl_face <;> intro i <;> cases r <;> rfl

@[simp] theorem State.islandAsked_face (s : State) : (s.islandAsked).face = s.face := by
  simp [State.face, State.islandAsked]

@[simp] theorem State.answer_face (s : State) (code : Nat) (rsp : List Byte) : (s.answer code rsp).face = s.face := by
  simp [State.face, State.answer]

@[simp] theorem State.deliver_face (s : State) (type : Nat) (req : List Byte) : (s.deliver type req).face = s.face := by
  simp [State.face, State.deliver]

@[simp] theorem State.showInputs_face (s : State) : (s.showInputs).face = s.face := by
  simp [State.face, State.showInputs]

@[simp] theorem State.evalInputs_face (s : State) : (s.evalInputs).face = s.face := by
  simp [State.face, State.evalInputs]

@[simp] theorem State.showOutputs_face (s : State) : (s.showOutputs).face = s.face := by
  simp [State.face, State.showOutputs]

@[simp] theorem State.evalOutput_face (s : State) (o : Nat) : (s.evalOutput o).face = s.face := by
  unfold State.evalOutput
  (repeat' split) <;> simp [State.face]

@[simp] theorem State.evalOutputs_face (s : State) : (s.evalOutputs).face = s.face := by
  simp [State.face, State.evalOutputs]

@[simp] theorem State.setAxis_face (s : State) (n : Nat) (a : AxisSt) : (s.setAxis n a).face = s.face := by
  simp [State.face, State.setAxis]

@[simp] theorem State.showAxis_face (s : State) (n : Nat) (r : AxisRec) (a : AxisSt) : (s.showAxis n r a).face = s.face := by
  simp [State.face, State.showAxis]

@[simp] theorem State.evalAxis_face (s : State) (n : Nat) : (s.evalAxis n).face = s.face := by
  unfold State.evalAxis
  (repeat' split) <;> simp [State.face]

@[simp] theorem State.evalAxes_face (s : State) : (s.evalAxes).face = s.face := by
  simp [State.face, State.evalAxes]

@[simp] theorem State.setConn_face (s : State) (n : Nat) (c : ConnSt) : (s.setConn n c).face = s.face := by
  simp [State.face, State.setConn]

@[simp] theorem State.sendPdu_face (s : State) (r : ConnRec) (pdu : List Byte) : (s.sendPdu r pdu).face = s.face := by
  unfold State.sendPdu
  refine foldl_face (fun s p => ?_) _ _
  split <;> simp [State.face]

@[simp] theorem State.sendConn_face (s : State) (n : Nat) (r : ConnRec) (session type seq echo reason : Nat) (data : List Byte) : (s.sendConn n r session type seq echo reason data).face = s.face := by
  simp [State.face, State.sendConn]

@[simp] theorem State.connStart_face (s : State) (n : Nat) : (s.connStart n).face = s.face := by
  simp [State.face, State.connStart]

@[simp] theorem State.connLost_face (s : State) (n reason : Nat) : (s.connLost n reason).face = s.face := by
  simp [State.face, State.connLost]

@[simp] theorem State.connClose_face (s : State) (n reason : Nat) : (s.connClose n reason).face = s.face := by
  unfold State.connClose
  (repeat' split) <;> simp [State.face]

@[simp] theorem State.connOpen_face (s : State) (n session rxAt : Nat) (r : ConnRec) : (s.connOpen n session rxAt r).face = s.face := by
  simp [State.face, State.connOpen]

@[simp] theorem State.hitchStart_face (s : State) : s.hitchStart.face = s.face := by
  unfold State.hitchStart
  refine foldl_face (fun s n => ?_) _ _
  split <;> simp [State.face]

@[simp] theorem State.hitchStop_face (s : State) : (s.hitchStop).face = s.face := by
  simp [State.face, State.hitchStop]

@[simp] theorem State.setPort_face (s : State) (p : Nat) (q : HitchPort) : (s.setPort p q).face = s.face := by
  simp [State.face, State.setPort]

@[simp] theorem State.unassignedFrame_face (s : State) (p : Nat) : (s.unassignedFrame p).face = s.face := by
  simp [State.face, State.unassignedFrame]

@[simp] theorem State.takePdu_face (s : State) (p n : Nat) (zero : Bool) (b : List Byte) : (s.takePdu p n zero b).face = s.face := by
  simp [State.face, State.takePdu]

@[simp] theorem State.applyRemote_face (s : State) (n : Nat) : (s.applyRemote n).face = s.face := by
  simp [State.face, State.applyRemote]

@[simp] theorem State.cover_face (s : State) (n e : Nat) : (s.cover n e).face = s.face := by
  unfold State.cover
  dsimp only
  split <;> simp [State.face]

@[simp] theorem State.hitchCycle_face (s : State) : (s.hitchCycle).face = s.face := by
  simp [State.face, State.hitchCycle]

@[simp] theorem State.frameMissing_face (s : State) : (s.frameMissing).face = s.face := by
  simp [State.face, State.frameMissing]

@[simp] theorem State.degrade_face (s : State) : (s.degrade).face = s.face := by
  simp [State.face, State.degrade]

@[simp] theorem State.evalBlock_face (s : State) (p : Params) (loop k : Nat) (b : List Byte) : (s.evalBlock p loop k b).face = s.face := by
  unfold State.evalBlock
  (repeat' split) <;> simp [State.face]

@[simp] theorem State.takeRecord_face (s : State) (p : Params) (best : Option Nat) (x : IslRecord) : (s.takeRecord p best x).face = s.face := by
  cases x <;> unfold State.takeRecord <;> (repeat' split) <;> simp [State.face]

@[simp] theorem State.takeRecords_face (s : State) : s.takeRecords.face = s.face := by
  unfold State.takeRecords
  dsimp only
  split
  · rw [foldl_face]
    · simp [State.face]
    · intro s x
      (repeat' split) <;> simp [State.face]
  · rw [foldl_face]
    · simp [State.face]
    · exact fun s x => s.takeRecord_face _ _ x

@[simp] theorem State.vetoRelease_face (s : State) : (s.vetoRelease).face = s.face := by
  simp [State.face, State.vetoRelease]

@[simp] theorem State.localLost_face (s : State) : (s.localLost).face = s.face := by
  simp [State.face, State.localLost]

@[simp] theorem State.localStep_face (s : State) : (s.localStep).face = s.face := by
  simp [State.face, State.localStep]

@[simp] theorem State.edgeSample_face (s : State) : (s.edgeSample).face = s.face := by
  simp [State.face, State.edgeSample]

@[simp] theorem State.startWrite_face (s : State) (bytes : List Byte) (confirm : Bool) : (s.startWrite bytes confirm).face = s.face := by
  simp [State.face, State.startWrite]

@[simp] theorem State.confirmWrite_face (s : State) : (s.confirmWrite).face = s.face := by
  unfold State.confirmWrite
  dsimp only
  split <;> simp [State.face]

@[simp] theorem State.vetoSample_face (s : State) (veto pulsed : BitVec 2) : (s.vetoSample veto pulsed).face = s.face := by
  simp [State.face, State.vetoSample]

@[simp] theorem State.lockupPin_face (s : State) : (s.lockupPin).face = s.face := by
  simp [State.face, State.lockupPin]

@[simp] theorem State.cycleStart_face (s : State) (seals : BitVec 12) : (s.cycleStart seals).face = s.face := by
  simp [State.face, State.cycleStart]

@[simp] theorem State.buildHrec_face (s : State) : (s.buildHrec).face = s.face := by
  simp [State.face, State.buildHrec]

@[simp] theorem State.refuseConfirm_face (s : State) : (s.refuseConfirm).face = s.face := by
  simp [State.face, State.refuseConfirm]

end Sys2Proof.Machine
end

section
/-! PROOF. The commands that keep the island's face. -/

namespace Sys2Proof.Machine

/-! ### The yoke's and Drill's operations that tell the island something -/

@[simp] theorem State.twinLost_face (s : State) : s.twinLost.face = s.face := by
  simp (disch := decide) [State.face, State.twinLost]

@[simp] theorem State.decide'_face (s : State) (f : YkFrame) (o : Nat) : (s.decide' f o).face = s.face := by
  unfold State.decide'
  dsimp only
  split <;> simp (disch := decide) [State.face]

@[simp] theorem State.judgeFrame_face (s : State) (f : YkFrame) (due : Bool) : (s.judgeFrame f due).face = s.face := by
  unfold State.judgeFrame
  split <;> simp (disch := decide) [State.face]

@[simp] theorem State.ykSheaf_face (s : State) (l k digest len : Nat) (block : List Byte) :
    (s.ykSheaf l k digest len block).face = s.face := by
  simp (disch := decide) [State.face, State.ykSheaf]

@[simp] theorem State.ykMissing_face (s : State) (l k cause : Nat) : (s.ykMissing l k cause).face = s.face := by
  simp (disch := decide) [State.face, State.ykMissing]

@[simp] theorem State.reportMissing_face (s : State) (l k cause : Nat) : (s.reportMissing l k cause).face = s.face := by
  simp (disch := decide) [State.face, State.reportMissing]

@[simp] theorem State.deadlineOf_face (s : State) (l : Nat) (x : FrameLoop) (r : RunFrame) :
    (s.deadlineOf l x r).face = s.face := by
  unfold State.deadlineOf
  (repeat' split) <;> simp (disch := decide) [State.face]

@[simp] theorem State.frameDone_face (s : State) (l : Nat) (x : FrameLoop) (r : RunFrame) (rep : Reply) :
    (s.frameDone l x r rep).face = s.face := by
  simp (disch := decide) [State.face]

@[simp] theorem State.frameEnds_face (s : State) (l : Nat) (x : FrameLoop) (r : RunFrame) (y : Entry) :
    (s.frameEnds l x r y).face = s.face := by
  unfold State.frameEnds
  dsimp only
  (repeat' split) <;> simp (disch := decide) [State.face]

@[simp] theorem State.sheafIn_face (s : State) (l : Nat) (x : FrameLoop) (r : RunFrame) (regions : List (List Byte)) :
    (s.sheafIn l x r regions).face = s.face := by
  unfold State.sheafIn
  simp (disch := decide) [State.face]

@[simp] theorem State.takeEnd_face (s : State) (e : Nat) : (s.takeEnd e).face = s.face := by
  unfold State.takeEnd
  (repeat' split) <;> simp (disch := decide) [State.face]

/-! ### Commands that keep it -/

/-- What an outcome answers has the face of `s`. -/
def Calm (s : State) (o : Out) : Prop := ∀ t, o = .next t → t.face = s.face

@[simp] theorem calm_next (s t : State) : Calm s (.next t) ↔ t.face = s.face :=
  ⟨fun h => h t rfl, fun h _ e => by cases e; exact h⟩

@[simp] theorem calm_ite {c : Prop} [Decidable c] {s : State} {a b : Out} :
    Calm s (if c then a else b) ↔ (c → Calm s a) ∧ (¬c → Calm s b) := by
  split <;> simp [*]

theorem State.withRes_face (s : State) (r : MemRes) {f : State → State} (hf : ∀ t, (f t).face = t.face) :
    (s.withRes r f).face = s.face := by
  have h1 : (s.withRes r f).face = (f { s with res := r }).face := rfl
  rw [h1, hf]
  rfl

theorem calm_ykFront (s : State) (type : Nat) {f : List Byte → State → State} (hf : ∀ m t, (f m t).face = t.face) :
    Calm s (s.ykFront type f) := by
  unfold State.ykFront
  rw [calm_next]
  split
  · rfl
  next m t h =>
    have ht : t.face = s.face := by
      have hk := State.takeMsg_keep (m := islandPart) rfl s 6 type _ h
      exact congrArg faceOf hk
    split
    · rw [hf, ht]
    · exact ht

theorem calm_onMessage (s : State) (type : Nat) {f : List Byte → State → State} (hf : ∀ m t, (f m t).face = t.face) :
    Calm s (s.onMessage type f) := by
  unfold State.onMessage
  split <;> simp [hf]


theorem State.nextPdu_face {s t : State} {n type : Nat} {x : Nat × List Byte} (h : s.nextPdu n type = some (x, t)) :
    t.face = s.face := by
  unfold State.nextPdu at h
  split at h
  · split at h
    · cases h
      exact s.setConn_face _ _
    · cases h
  · cases h

theorem execStatus_calm (s : State) : Calm s (execStatus s) := by
  unfold execStatus
  refine calm_onMessage s _ fun m t => ?_
  simp [State.face]

theorem execRegRead_calm (s : State) : Calm s (execRegRead s) := by
  unfold execRegRead
  refine calm_onMessage s _ fun m t => ?_
  dsimp only
  (repeat' split) <;> simp [State.face]

theorem execParamBegin_calm (s : State) : Calm s (execParamBegin s) := by
  unfold execParamBegin
  refine calm_onMessage s _ fun m t => ?_
  dsimp only
  (repeat' split) <;> simp [State.face]

theorem execParamData_calm (s : State) : Calm s (execParamData s) := by
  unfold execParamData
  refine calm_onMessage s _ fun m t => ?_
  dsimp only
  (repeat' split) <;> simp [State.face]

theorem execParamCommit_calm (s : State) : Calm s (execParamCommit s) := by
  unfold execParamCommit
  refine calm_onMessage s _ fun m t => ?_
  dsimp only
  (repeat' split) <;> simp [State.face]

theorem execCheckRead_calm (s : State) : Calm s (execCheckRead s) := by
  unfold execCheckRead
  refine calm_onMessage s _ fun m t => ?_
  (repeat' split) <;> simp [State.face]

theorem execConfirm_calm (s : State) : Calm s (execConfirm s) := by
  unfold execConfirm
  refine calm_onMessage s _ fun m t => ?_
  (repeat' split) <;> simp [State.face]

theorem execOperate_calm (s : State) : Calm s (execOperate s) := by
  unfold execOperate
  refine calm_onMessage s _ fun m t => ?_
  dsimp only
  (repeat' split) <;> simp [State.face]

theorem execStop_calm (s : State) : Calm s (execStop s) := by
  unfold execStop
  refine calm_onMessage s _ fun m t => ?_
  (repeat' split) <;> simp [State.face]

theorem execHandover_calm (s : State) : Calm s (execHandover s) := by
  unfold execHandover
  refine calm_onMessage s _ fun m t => ?_
  (repeat' split) <;> simp [State.face]

/-- The island's half of a window of the clock monitors (R34): its runs of bad counts, and LOCAL_LOST. -/
def State.islandWindow (s : State) (ref root : Nat) : State :=
  let s := s.mapIsl fun i => { i with refBad := badRun i.refBad (badCount ref), rootBad := badRun i.rootBad (badCount root) }
  if s.isl.refBad = 2 || s.isl.rootBad = 2 then s.localLost else s

/-- The Headland monitor's half. -/
def State.headlandWindow (s : State) (ref : Nat) : State :=
  if s.clk.porstHeld then s
  else
    let s := { s with clk := { s.clk with refBad := badRun s.clk.refBad (badCount ref) } }
    let s := s.setOn CLK_STATUS.REFCLK_OK 0 (!badCount ref)
    if s.clk.refBad = 2 then s.setOn CLK_EVENT.REFCLK_LOST 0 true else s

theorem execClockWindow_eq (ref root : Nat) (s : State) :
    execClockWindow ref root s = .next ((s.islandWindow ref root).headlandWindow ref) := rfl

@[simp] theorem State.islandWindow_face (s : State) (ref root : Nat) : (s.islandWindow ref root).face = s.face := by
  unfold State.islandWindow
  dsimp only
  split <;> simp [State.face]

@[simp] theorem State.headlandWindow_face (s : State) (ref : Nat) : (s.headlandWindow ref).face = s.face := by
  unfold State.headlandWindow
  (repeat' split) <;> simp (disch := decide) [State.face]

theorem execClockWindow_calm (ref root : Nat) (s : State) : Calm s (execClockWindow ref root s) := by
  simp [execClockWindow_eq, State.face]

theorem execRetry_calm (n : Fin 4) (s : State) : Calm s (execRetry n s) := by
  unfold execRetry
  (repeat' split) <;> simp [State.face]

theorem execHeadlandMsg_calm (e : Fin 4096) (s : State) : Calm s (execHeadlandMsg e s) := by
  unfold execHeadlandMsg State.work
  rw [calm_next]
  refine s.withRes_face _ fun t => ?_
  (repeat' split) <;> simp [State.face]

theorem execIslandTimeout_calm (e : Fin 4096) (s : State) : Calm s (execIslandTimeout e s) := by
  unfold execIslandTimeout
  (repeat' split) <;> simp [State.face]

theorem execMailboxAnswer_calm (e : Fin 4096) (res : MemRes) (s : State) : Calm s (execMailboxAnswer e res s) := by
  unfold execMailboxAnswer
  rw [calm_next]
  refine s.withRes_face _ fun t => ?_
  (repeat' split) <;> simp [State.face]

theorem execFrameDrop_calm (l : Fin 16) (s : State) : Calm s (execFrameDrop l s) := by
  unfold execFrameDrop
  dsimp only
  (repeat' split) <;> simp (disch := decide) [State.face]

theorem execDeadline_calm (l : Fin 16) (s : State) : Calm s (execDeadline l s) := by
  unfold execDeadline
  (repeat' split) <;> simp (disch := decide) [State.face]

theorem State.readSheaf_face {s t : State} {plot : Nat} {y : List (Nat × Nat)} {x : SheafRead}
    (h : s.readSheaf plot y = (x, t)) : t.face = s.face := by
  have hk := State.readSheaf_keep (m := islandPart) rfl rfl rfl rfl rfl rfl rfl s plot y
  rw [h] at hk
  exact congrArg faceOf hk

theorem execDigestComplete_calm (l : Fin 16) (res : MemRes) (s : State) : Calm s (execDigestComplete l res s) := by
  unfold execDigestComplete
  rw [calm_next]
  refine s.withRes_face _ fun t => ?_
  (repeat' split) <;> simp [State.face]
  all_goals exact State.readSheaf_face ‹_›

theorem execHeartbeatDue_calm (s : State) : Calm s (execHeartbeatDue s) := by
  unfold execHeartbeatDue
  dsimp only
  (repeat' split) <;> simp (disch := decide) [State.face] <;> simp

theorem execHeartbeat_calm (s : State) : Calm s (execHeartbeat s) := by
  unfold execHeartbeat
  refine calm_ykFront s _ fun m t => ?_
  simp (disch := decide) [State.face]

theorem execHeartbeatDeadline_calm (s : State) : Calm s (execHeartbeatDeadline s) := by
  unfold execHeartbeatDeadline
  dsimp only
  (repeat' split) <;> simp (disch := decide) [State.face]

theorem execAgreementPoint_calm (l : Fin 16) (k : BitVec 32) (s : State) : Calm s (execAgreementPoint l k s) := by
  unfold execAgreementPoint
  (repeat' split) <;> simp (disch := decide) [State.face]

theorem execDigest_calm (s : State) : Calm s (execDigest s) := by
  unfold execDigest
  refine calm_ykFront s _ fun m t => ?_
  dsimp only
  (repeat' split) <;> simp (disch := decide) [State.face]

theorem execMissing_calm (s : State) : Calm s (execMissing s) := by
  unfold execMissing
  refine calm_ykFront s _ fun m t => ?_
  dsimp only
  (repeat' split) <;> simp (disch := decide) [State.face]

theorem execEndReport_calm (e : Fin 4096) (res : MemRes) (s : State) : Calm s (execEndReport e res s) := by
  unfold execEndReport
  rw [calm_next]
  refine s.withRes_face _ fun t => ?_
  simp (disch := decide) [State.face]

theorem execConfirmTimeout_calm (s : State) : Calm s (execConfirmTimeout s) := by
  unfold execConfirmTimeout
  (repeat' split) <;> simp [State.face]

theorem execLockoutEnd_calm (s : State) : Calm s (execLockoutEnd s) := by
  unfold execLockoutEnd
  (repeat' split) <;> simp [State.face]

theorem execArmedExpiry_calm (s : State) : Calm s (execArmedExpiry s) := by
  unfold execArmedExpiry
  (repeat' split) <;> simp [State.face]

theorem execHandoverFailed_calm (s : State) : Calm s (execHandoverFailed s) := by
  unfold execHandoverFailed
  (repeat' split) <;> simp [State.face]

theorem execFrameWatchdog_calm (s : State) : Calm s (execFrameWatchdog s) := by
  unfold execFrameWatchdog
  (repeat' split) <;> simp [State.face]

theorem execDegradeExpired_calm (s : State) : Calm s (execDegradeExpired s) := by
  unfold execDegradeExpired
  (repeat' split) <;> simp [State.face]

theorem execLocalLost_calm (s : State) : Calm s (execLocalLost s) := by
  unfold execLocalLost
  (repeat' split) <;> simp [State.face]

theorem execVetoTestPulse_calm (pulsed : BitVec 2) (s : State) : Calm s (execVetoTestPulse pulsed s) := by
  unfold execVetoTestPulse
  dsimp only
  (repeat' split) <;> simp [State.face]

theorem execLockupN_calm (low : Bool) (s : State) : Calm s (execLockupN low s) := by
  unfold execLockupN
  simp [State.face]

theorem execInputSample_calm (pins : Pins) (s : State) : Calm s (execInputSample pins s) := by
  unfold execInputSample
  dsimp only
  (repeat' split) <;> simp [State.face]

theorem execResetStuck_calm (s : State) : Calm s (execResetStuck s) := by
  unfold execResetStuck
  (repeat' split) <;> simp [State.face]

theorem execDiscrepancy_calm (n : Fin 8) (s : State) : Calm s (execDiscrepancy n s) := by
  unfold execDiscrepancy
  (repeat' split) <;> simp [State.face]

theorem execTestPulse_calm (b : Bool) (pins : Pins) (s : State) : Calm s (execTestPulse b pins s) := by
  unfold execTestPulse
  dsimp only
  (repeat' split) <;> simp [State.face]

theorem execCfTime_calm (o : Fin 4) (s : State) : Calm s (execCfTime o s) := by
  unfold execCfTime
  dsimp only
  (repeat' split) <;> simp [State.face]

theorem execEncoderEdge_calm (n : Fin 4) (a b : Bool) (s : State) : Calm s (execEncoderEdge n a b s) := by
  unfold execEncoderEdge
  dsimp only
  (repeat' split) <;> simp [State.face]

theorem execIndexPoint_calm (n : Fin 4) (s : State) : Calm s (execIndexPoint n s) := by
  unfold execIndexPoint
  dsimp only
  (repeat' split) <;> simp [State.face]

theorem execObserverSample_calm (n : Fin 4) (bits : SdBits) (s : State) : Calm s (execObserverSample n bits s) := by
  unfold execObserverSample
  dsimp only
  (repeat' split) <;> simp [State.face]

theorem execStart_calm (n : Fin 4) (s : State) : Calm s (execStart n s) := by
  unfold execStart
  dsimp only
  (repeat' split) <;> simp [State.face]

theorem execStartFail_calm (n : Fin 4) (s : State) : Calm s (execStartFail n s) := by
  unfold execStartFail
  (repeat' split) <;> simp [State.face]

theorem execDataDue_calm (n : Fin 4) (s : State) : Calm s (execDataDue n s) := by
  unfold execDataDue
  dsimp only
  (repeat' split) <;> simp [State.face]

theorem execWatchdog_calm (n : Fin 4) (s : State) : Calm s (execWatchdog n s) := by
  unfold execWatchdog
  (repeat' split) <;> simp [State.face]

theorem execTimeout_calm (n : Fin 4) (s : State) : Calm s (execTimeout n s) := by
  unfold execTimeout
  (repeat' split) <;> simp [State.face]

theorem execHitchFrameReceive_calm (port : Fin 2) (frame : List Byte) (fcsOk : Bool) (s : State) : Calm s (execHitchFrameReceive port frame fcsOk s) := by
  unfold execHitchFrameReceive
  dsimp only
  (repeat' split) <;> simp [State.face]

theorem execPortLink_calm (port : Fin 2) (speed : PortSpeed) (s : State) : Calm s (execPortLink port speed s) := by
  unfold execPortLink
  dsimp only
  (repeat' split) <;> simp [State.face]

theorem execPwrfailNRelease_calm (s : State) : Calm s (execPwrfailNRelease s) := by
  unfold execPwrfailNRelease
  dsimp only
  simp [State.face]

theorem execStartAck_calm (n : Fin 4) (s : State) : Calm s (execStartAck n s) := by
  unfold execStartAck
  dsimp only
  (repeat' split) <;> simp [State.face]
  all_goals exact State.nextPdu_face ‹_›

theorem execData_calm (n : Fin 4) (s : State) : Calm s (execData n s) := by
  unfold execData
  dsimp only
  (repeat' split) <;> simp [State.face]
  all_goals exact State.nextPdu_face ‹_›

theorem execClose_calm (n : Fin 4) (s : State) : Calm s (execClose n s) := by
  unfold execClose
  (repeat' split) <;> simp [State.face]
  all_goals exact State.nextPdu_face ‹_›

theorem State.writeFld_face (s : State) {F : Fld} (h : calmFields.contains F = true) (i v : Nat) :
    (s.writeFld F i v).face = s.face := by
  unfold State.writeFld
  dsimp only
  (repeat' split)
  · exact s.setF_face h i _
  · rfl
  · exact s.setF_face h i _
  · rfl

theorem execClearEvt_calm (s : State) : Calm s (execClearEvt s) := by
  unfold execClearEvt
  refine calm_onMessage s _ fun m t => ?_
  rw [State.answer_face, State.writeFld_face t (by simp)]

end Sys2Proof.Machine
end

section
/-! PROOF. The operations and commands that change the island's face: outputs off, failing, starting, a new parameter set. -/

namespace Sys2Proof.Machine

/-! ### The invariant, read on the face -/

theorem State.face_hs (s : State) : s.face.hs = s.hs := by rw [s.face_eq]; rfl

theorem State.face_auth (s : State) : s.face.auth = s.auth := by rw [s.face_eq]; rfl

theorem State.face_veto (s : State) : s.face.veto = s.on HDL_STATE.VETO_OUT 0 := by rw [s.face_eq]; rfl

theorem State.face_chans (s : State) : s.face.chans = s.isl.chans := by rw [s.face_eq]; rfl

theorem State.face_set (s : State) : s.face.set = s.isl.set := by rw [s.face_eq]; rfl

/-- Authority is held in OPERATIONAL and FAULT only. -/
def Face.authOk (f : Face) : Prop := f.auth = true → f.hs = hsOperational ∨ f.hs = hsFault

/-- The island's invariant, of a face. -/
def Face.ok (f : Face) : Prop :=
  f.authOk ∧ (f.veto = true → f.hs = hsOperational) ∧
    ∀ c ∈ f.chans, c.2.cmd = true → f.hs = hsOperational ∨ 8 ≤ c.1 ∧ f.hs = hsFault

theorem State.islandInv_iff (s : State) : s.islandInv ↔ s.face.ok := by
  rw [s.face_eq]
  rfl

/-- A face with every path off. -/
def Face.dark (f : Face) : Prop := f.veto = false ∧ ∀ c ∈ f.chans, c.2.cmd = false

theorem Face.ok_of_dark {f : Face} (h : f.dark) (ha : f.authOk) : f.ok := by
  obtain ⟨hv, hc⟩ := h
  refine ⟨ha, fun e => ?_, fun c hm e => ?_⟩
  · rw [hv] at e; cases e
  · rw [hc c hm] at e; cases e

theorem Face.ok.dark {f : Face} (h : f.ok) (ho : f.hs ≠ hsOperational) (hf : f.hs ≠ hsFault) : f.dark := by
  obtain ⟨-, hv, hc⟩ := h
  refine ⟨Bool.eq_false_iff.mpr fun e => ho (hv e), fun c hm => Bool.eq_false_iff.mpr fun e => ?_⟩
  rcases hc c hm e with h | ⟨-, h⟩
  · exact ho h
  · exact hf h

theorem Face.ok.unheld {f : Face} (h : f.ok) (ho : f.hs ≠ hsOperational) (hf : f.hs ≠ hsFault) : f.auth = false :=
  Bool.eq_false_iff.mpr fun e => (h.1 e).elim ho hf

theorem Face.authOk_of_unheld {f : Face} (h : f.auth = false) : f.authOk := fun e => by rw [h] at e; cases e

/-- With every path off and without authority any state is entered. -/
theorem Face.dark.enter {f : Face} (h : f.dark) (ha : f.auth = false) (hs : Nat) : ({ f with hs := hs } : Face).ok :=
  Face.ok_of_dark h (Face.authOk_of_unheld ha)

/-! ### The operations that change it -/

theorem State.setHs_face (s : State) {v : Nat} (hv : v < 8) : (s.setHs v).face = { s.face with hs := v } := by
  have hw : HDL_STATE.HS.width = 3 := rfl
  have hm : v % 2 ^ HDL_STATE.HS.width = v := by rw [hw]; omega
  have ha : HDL_STATE.AUTH.key 0 ≠ HDL_STATE.HS.key 0 := by decide
  have hv : HDL_STATE.VETO_OUT.key 0 ≠ HDL_STATE.HS.key 0 := by decide
  simp only [State.face_eq, faceOf, State.setHs, State.hs, State.auth, State.on, State.f_setF_self, State.f_setF_ne _ ha,
    State.f_setF_ne _ hv, State.setF_isl, hm]

theorem State.setOn_auth_face (s : State) (b : Bool) : (s.setOn HDL_STATE.AUTH 0 b).face = { s.face with auth := b } := by
  have hh : HDL_STATE.HS.key 0 ≠ HDL_STATE.AUTH.key 0 := by decide
  have hv : HDL_STATE.VETO_OUT.key 0 ≠ HDL_STATE.AUTH.key 0 := by decide
  have hb : (s.setOn HDL_STATE.AUTH 0 b).on HDL_STATE.AUTH 0 = b := State.on_setOn_self _ rfl ..
  simp only [State.face_eq, faceOf, State.auth, hb, State.hs]
  simp only [State.on, State.setOn, State.f_setF_ne _ hh, State.f_setF_ne _ hv, State.setF_isl]

theorem State.setOn_veto_face (s : State) (b : Bool) :
    (s.setOn HDL_STATE.VETO_OUT 0 b).face = { s.face with veto := b } := by
  have hh : HDL_STATE.HS.key 0 ≠ HDL_STATE.VETO_OUT.key 0 := by decide
  have ha : HDL_STATE.AUTH.key 0 ≠ HDL_STATE.VETO_OUT.key 0 := by decide
  have hb : (s.setOn HDL_STATE.VETO_OUT 0 b).on HDL_STATE.VETO_OUT 0 = b := State.on_setOn_self _ rfl ..
  simp only [State.face_eq, faceOf, hb, State.hs, State.auth]
  simp only [State.on, State.setOn, State.f_setF_ne _ hh, State.f_setF_ne _ ha, State.setF_isl]

/-- The island replaced: its channels and its set are all that the face shows of it. -/
theorem State.mapIsl_face_eq (s : State) (f : Island → Island) :
    (s.mapIsl f).face = { s.face with chans := (f s.isl).chans, set := (f s.isl).set } := by
  simp only [State.face_eq]
  rfl

theorem State.setAuth_face (s : State) (b : Bool) : (s.setAuth b).face = { s.face with auth := b } := by
  unfold State.setAuth
  split
  next h => rw [← h, ← s.face_auth]
  · rw [State.bump_face _ (by simp), State.setOn_auth_face]

/-- What PWRFAIL and every other cause that acts at once leave of the outputs. -/
def Face.off (f : Face) : Face := { f with veto := false, chans := f.chans.map fun c => (c.1, c.2.off) }

theorem ChanSt.off_cmd (c : ChanSt) : c.off.cmd = false := by
  unfold ChanSt.off
  split
  · rfl
  next h => exact Bool.eq_false_iff.mpr h

theorem Face.off_dark (f : Face) : f.off.dark := by
  refine ⟨rfl, fun c hc => ?_⟩
  obtain ⟨x, -, rfl⟩ := List.mem_map.mp hc
  exact x.2.off_cmd

theorem State.pathsOff_face (s : State) : s.pathsOff.face = s.face.off := by
  unfold State.pathsOff
  rw [State.setF_face _ (by simp), State.setOn_veto_face, State.mapIsl_face_eq]
  simp only [Face.off, s.face_chans, s.face_set]

theorem State.enterFault_face (s : State) :
    s.enterFault.face = if s.hs = hsOperational ∨ s.hs = hsStopped then { s.face with hs := hsFault } else s.face := by
  unfold State.enterFault
  simp only [Bool.or_eq_true, decide_eq_true_eq]
  split
  · rw [State.setHs_face _ (by decide), State.leaveOperation_face]
  · rfl

theorem State.enterFail_face (s : State) : s.enterFail.face = { s.face.off with auth := false, hs := hsFail } := by
  unfold State.enterFail
  rw [foldl_face (fun s n => s.setF_face (by simp) n 0), State.setHs_face _ (by decide), State.setAuth_face,
    State.disarmOperate_face, State.leaveOperation_face, State.pathsOff_face]

/-- The channels under a new parameter set. -/
def Face.install (f : Face) (p : Option ParamSet) : Face :=
  { f with
    set := p
    chans := f.chans.map fun c => (c.1, { c.2.off with stuck := false, drive := false, stuckRun := 0, driveRun := 0 }) }

theorem State.installSet_face (s : State) (p : Option ParamSet) : (s.installSet p).face = s.face.install p := by
  unfold State.installSet
  rw [State.showSet_face, State.mapIsl_face_eq]
  simp only [Face.install, s.face_chans]

theorem Face.install_off (f : Face) (p : Option ParamSet) : ∀ c ∈ (f.install p).chans, c.2.cmd = false := by
  intro c hc
  obtain ⟨x, -, rfl⟩ := List.mem_map.mp hc
  exact x.2.off_cmd

/-! ### Commands that switch it off -/

/-- An outcome keeps the island's invariant. -/
def KeepsIsland (s : State) (o : Out) : Prop := ∀ t, o = .next t → s.islandInv → t.islandInv

theorem Calm.keepsIsland {s : State} {o : Out} (h : Calm s o) : KeepsIsland s o := fun t ht hs => by
  rw [State.islandInv_iff] at hs ⊢
  rw [h t ht]
  exact hs

theorem keepsIsland_next {s t : State} : KeepsIsland s (.next t) ↔ (s.face.ok → t.face.ok) := by
  simp only [KeepsIsland, State.islandInv_iff]
  exact ⟨fun h => h t rfl, fun h u e => by cases e; exact h⟩

theorem State.enterFail_ok (s : State) : s.enterFail.face.ok := by
  rw [State.enterFail_face]
  exact Face.ok_of_dark s.face.off_dark (Face.authOk_of_unheld rfl)

theorem State.mapIsl_ok {s : State} {f : Island → Island} (hc : ∀ i, (f i).chans = i.chans)
    (hp : ∀ i, (f i).set = i.set) (h : s.face.ok) : (s.mapIsl f).face.ok := by
  rw [s.mapIsl_face hc hp]
  exact h

/-- FAULT from STOPPED or OPERATIONAL, every path off. -/
theorem State.enterFault_ok {s : State} (hd : s.face.dark) (ha : s.face.authOk) : s.enterFault.face.ok := by
  rw [State.enterFault_face]
  split
  · exact Face.ok_of_dark hd fun _ => .inr rfl
  · exact Face.ok_of_dark hd ha

theorem execPwrfail_keepsIsland (s : State) : KeepsIsland s (execPwrfail s) := by
  unfold execPwrfail
  rw [keepsIsland_next]
  intro h
  split
  · exact h
  · have hoff : ∀ u : State, u.face = s.face → (u.pathsOff.disarmOperate.enterFault.showCauses).face.ok := by
      intro u hu
      rw [State.showCauses_face]
      apply State.enterFault_ok <;> rw [State.disarmOperate_face, State.pathsOff_face, hu]
      · exact s.face.off_dark
      · exact h.1
    have hclk := hoff { s with clk := { s.clk with pwrfail := true } } rfl
    dsimp only
    split
    · exact hclk
    · refine cast (congrArg Face.ok ?_) hclk
      simp (disch := decide) [State.face]

theorem State.islandRail_ok {s : State} (h : s.face.ok) (r : Nat) (bad : Bool) : (s.islandRail r bad).face.ok := by
  unfold State.islandRail
  split
  · exact h
  · dsimp only
    generalize hu : (s.mapIsl _).showCauses = u
    have hf : u.face = s.face := by
      subst hu
      simp [State.face]
    (repeat' split)
    · exact hf ▸ h
    · have hw := u.enterFail.mapIsl_face (f := fun i => { i with hwOff := true }) (fun _ => rfl) fun _ => rfl
      rw [State.showCauses_face, hw]
      exact u.enterFail_ok
    · exact hf ▸ h
    · rw [State.localLost_face]
      exact hf ▸ h

/-- A rail sampled, before the island and the end of the reset see it: its GOOD bit, the rails out of range, and the
power-on reset of a rail of the Headland or I/O domain (R35, R38). -/
def State.sampled (s : State) (rail : Nat) (bad : Bool) : State :=
  let s := s.setBitF PWR_RAIL_STATUS.GOOD 0 rail (!bad)
  let rest := s.clk.railOut.filter (· ≠ rail)
  let s := { s with clk := { s.clk with railOut := if bad then rail :: rest else rest } }
  if bad && porRail rail && !s.clk.porstHeld then s.powerOn else s

theorem execSupplySample_eq (rail : Fin 9) {level : RailLevel} (h : level ≠ .beyondAbsolute) (s : State) :
    execSupplySample rail level s = .next ((s.sampled rail.val (decide (level = .outside))).islandRail rail.val
      (decide (level = .outside))).porRelease := by
  cases level
  case beyondAbsolute => exact absurd rfl h
  all_goals rfl

@[simp] theorem State.powerOn_face (s : State) : s.powerOn.face = s.face := by simp (disch := decide) [State.face]

@[simp] theorem State.porRelease_face (s : State) : s.porRelease.face = s.face := by
  simp (disch := decide) [State.face]

@[simp] theorem State.sampled_face (s : State) (rail : Nat) (bad : Bool) : (s.sampled rail bad).face = s.face := by
  unfold State.sampled
  dsimp only
  split <;> simp (disch := decide) [State.face]

theorem execSupplySample_keepsIsland (rail : Fin 9) (level : RailLevel) (s : State) :
    KeepsIsland s (execSupplySample rail level s) := by
  by_cases hl : level = .beyondAbsolute
  · subst hl
    intro t ht
    cases ht
  · rw [execSupplySample_eq rail hl, keepsIsland_next, State.porRelease_face]
    intro h
    exact State.islandRail_ok ((s.sampled_face _ _).symm ▸ h) _ _

/-! ### Starting, failing and the reset -/

theorem State.imageStarts_ok {s : State} (h : s.face.ok) : s.imageStarts.face.ok := by
  unfold State.imageStarts
  split
  next hm =>
    simp only [Bool.and_eq_true, decide_eq_true_eq] at hm
    have hhs : s.face.hs = hsMonitor := s.face_hs.trans hm.1
    have ho : s.face.hs ≠ hsOperational := by rw [hhs]; decide
    have hf : s.face.hs ≠ hsFault := by rw [hhs]; decide
    rw [State.setHs_face _ (by decide)]
    exact Face.ok_of_dark (h.dark ho hf) (Face.authOk_of_unheld (h.unheld ho hf))
  · exact h

theorem State.islandReset_face (s : State) (powerOn : Bool) :
    (s.islandReset powerOn).face = { hs := hsMonitor, auth := false, veto := false, chans := [], set := none } := by
  have hu : ∀ (u : State) (v : Nat) (F : Fld), F ∈ Blk.HDL.fields → F.key 0 ≠ HDL_FAILCNT.COUNT.key 0 →
      ((u.resetBlk .HDL).setF HDL_FAILCNT.COUNT 0 v).f F 0 = F.rst := fun u v F hF hk =>
    (State.f_setF_ne _ hk v).trans (u.f_resetBlk_mem hF 0)
  have hf : ∀ F ∈ Blk.HDL.fields, F.key 0 ≠ HDL_FAILCNT.COUNT.key 0 → (s.islandReset powerOn).f F 0 = F.rst := by
    intro F hF hk
    unfold State.islandReset
    exact hu _ _ F hF hk
  have hhs := hf HDL_STATE.HS (by decide) (by decide)
  have hauth := hf HDL_STATE.AUTH (by decide) (by decide)
  have hveto := hf HDL_STATE.VETO_OUT (by decide) (by decide)
  have hisl : (s.islandReset powerOn).isl.chans = [] ∧ (s.islandReset powerOn).isl.set = none := by
    unfold State.islandReset
    cases powerOn <;> exact ⟨rfl, rfl⟩
  rw [State.face_eq]
  simp only [faceOf, State.hs, State.auth, State.on, hhs, hauth, hveto, hisl]
  rfl

theorem execHeadlandSafetyReset_keepsIsland (cause : IslandCause) (digestOk : Bool) (s : State) :
    KeepsIsland s (execHeadlandSafetyReset cause digestOk s) := by
  have hr : ∀ (u : State) (b : Bool), (u.islandReset b).face.ok := fun u b => by
    rw [State.islandReset_face]
    exact Face.ok_of_dark ⟨rfl, fun c hc => by cases hc⟩ (Face.authOk_of_unheld rfl)
  have hagain : ∀ u : State, ((if digestOk then u.islandReset false
      else (u.islandReset false).mapIsl fun i => { i with image := false }).imageStarts).face.ok := fun u => by
    apply State.imageStarts_ok
    split
    · exact hr u false
    · exact State.mapIsl_ok (fun _ => rfl) (fun _ => rfl) (hr u false)
  unfold execHeadlandSafetyReset
  cases cause <;> dsimp only
  case powerOn => exact keepsIsland_next.mpr fun _ => hr _ true
  all_goals split
  case lockstep.isFalse | wdog.isFalse => exact keepsIsland_next.mpr id
  case memory.isFalse =>
    exact keepsIsland_next.mpr fun _ => State.mapIsl_ok (fun _ => rfl) (fun _ => rfl) s.enterFail_ok
  all_goals exact keepsIsland_next.mpr fun _ => hagain _

theorem execLockstepMismatch_keepsIsland (s : State) : KeepsIsland s (execLockstepMismatch s) := by
  unfold execLockstepMismatch
  split
  · exact keepsIsland_next.mpr id
  · exact keepsIsland_next.mpr fun _ => State.mapIsl_ok (fun _ => rfl) (fun _ => rfl) s.enterFail_ok

theorem execWdog_keepsIsland (s : State) : KeepsIsland s (execWdog s) := by
  unfold execWdog
  exact keepsIsland_next.mpr fun _ => State.mapIsl_ok (fun _ => rfl) (fun _ => rfl) s.enterFail_ok

theorem execGraceEnd_keepsIsland (s : State) : KeepsIsland s (execGraceEnd s) := by
  unfold execGraceEnd
  split
  · split
    · rw [keepsIsland_next, State.showCauses_face]
      refine fun h => State.enterFault_ok ?_ ?_ <;> rw [State.disarmOperate_face, State.setAuth_face, State.pathsOff_face]
      · exact Face.off_dark _
      · exact Face.authOk_of_unheld rfl
    · exact keepsIsland_next.mpr id
  · exact keepsIsland_next.mpr id

theorem Face.install_dark {f : Face} (h : f.veto = false) (p : Option ParamSet) : (f.install p).dark :=
  ⟨h, f.install_off p⟩

theorem State.functional_hs {s : State} (h : s.functional = false) :
    s.hs ≠ hsOperational ∧ s.hs ≠ hsFault ∧ s.hs ≠ hsUnconfirmed ∧ s.hs ≠ hsStopped := by
  refine ⟨?_, ?_, ?_, ?_⟩ <;> intro e <;> simp [State.functional, e, within', hsOperational, hsFault, hsUnconfirmed,
    hsStopped] at h

theorem State.commitSet_ok {s : State} (h : s.face.ok) (copy : Nat) : (s.commitSet copy).face.ok := by
  have hi : ∀ u : State, u.face = s.face → ∀ p, ((u.pathsOff.installSet p).mapIsl fun i =>
      { i with recordAt := i.t, computeAt := i.t }).face = s.face.off.install p := by
    intro u hu p
    refine Eq.trans (State.mapIsl_face _ (fun _ => rfl) fun _ => rfl) ?_
    rw [State.installSet_face, State.pathsOff_face, hu]
  unfold State.commitSet
  dsimp only
  split
  · rw [State.showCauses_face, State.hitchStart_face, State.setHs_face _ (by decide), State.setAuth_face,
      State.leaveOperation_face, hi _ s.hitchStop_face]
    exact Face.ok_of_dark ⟨rfl, s.face.off.install_off (s.hitchStop.pathsOff.readCopy copy)⟩ (Face.authOk_of_unheld rfl)
  next hf =>
    obtain ⟨ho, hfa, -, -⟩ := State.functional_hs (Bool.eq_false_iff.mpr hf)
    rw [hi s rfl]
    rw [← State.face_hs] at ho hfa
    exact Face.ok_of_dark (Face.install_dark rfl _) (Face.authOk_of_unheld (h.unheld ho hfa))

theorem State.confirmed_ok {s : State} (h : s.face.ok) (copy : Nat) : (s.confirmed copy).face.ok := by
  unfold State.confirmed
  dsimp only
  rw [State.showCauses_face, State.showSet_face]
  generalize hu : (s.mapIsl _ : State) = u
  have hf : u.face = { s.face with set := u.face.set } := by
    subst hu
    rw [State.mapIsl_face_eq, ← s.face_chans]
  have hok : u.face.ok := by rw [hf]; exact h
  split
  next hun =>
    rw [← State.face_hs] at hun
    have ho : u.face.hs ≠ hsOperational := by rw [hun]; decide
    have hfa : u.face.hs ≠ hsFault := by rw [hun]; decide
    rw [State.setHs_face _ (by decide)]
    exact Face.ok_of_dark (hok.dark ho hfa) (Face.authOk_of_unheld (hok.unheld ho hfa))
  · exact hok

theorem execParamWriteDone_keepsIsland (ok : Bool) (s : State) : KeepsIsland s (execParamWriteDone ok s) := by
  unfold execParamWriteDone
  split
  · exact keepsIsland_next.mpr id
  next w _ =>
    dsimp only
    have hb : (((s.mapIsl fun i => { i with pwrite := none }).setOn HDL_PWRITE.BUSY 0 false)).face = s.face := by
      simp [State.face]
    generalize ((s.mapIsl _).setOn HDL_PWRITE.BUSY 0 false : State) = u at hb ⊢
    have hw : (u.flashWrite (copyAt w.copy) w.bytes).face = s.face := by rw [← hb]; simp [State.face]
    (repeat' split) <;> refine keepsIsland_next.mpr fun h => ?_
    · exact State.confirmed_ok (hw.symm ▸ h) _
    · exact State.commitSet_ok (hw.symm ▸ h) _
    · rw [State.islEvent_face, State.setOn_face _ (by simp), hb]
      exact h

theorem execStartup_keepsIsland (seals : BitVec 12) (test offs : Bool) (s : State) :
    KeepsIsland s (execStartup seals test offs s) := by
  unfold execStartup
  split
  · exact keepsIsland_next.mpr id
  next hst =>
    split
    · exact keepsIsland_next.mpr fun _ => s.enterFail_ok
    · dsimp only
      generalize State.readParams _ = p
      generalize hu : State.mapIsl (State.installSet _ _) _ = u
      have hf : u.face = s.face.install p := by
        subst hu
        refine Eq.trans (State.mapIsl_face _ (fun _ => rfl) fun _ => rfl) ?_
        rw [State.installSet_face, State.setF_face _ (by simp), State.setF_face _ (by simp)]
      have hhs : s.face.hs = hsStartup := s.face_hs.trans (not_not.mp hst)
      have ho : s.face.hs ≠ hsOperational := by rw [hhs]; decide
      have hfa : s.face.hs ≠ hsFault := by rw [hhs]; decide
      have hgo : s.face.ok → ∀ v, ({ u.face with hs := v } : Face).ok := fun h v => by
        rw [hf]
        exact (Face.install_dark (h.dark ho hfa).1 _).enter (h.unheld ho hfa) v
      split <;> refine keepsIsland_next.mpr fun h => ?_
      · rw [State.buildHrec_face, State.setHs_face _ (by decide)]
        exact hgo h _
      · rw [State.buildHrec_face, State.showCauses_face, State.hitchStart_face, State.setHs_face _ (by split <;> decide)]
        exact hgo h _

end Sys2Proof.Machine
end

section
/-! PROOF. The boot sequence, the off-pulse test and the axis timers keep the invariant of the island. -/

namespace Sys2Proof.Machine

/-! ### The boot sequence, the off-pulse test and the axis timers -/

theorem State.islandTold_ok {s : State} (h : s.face.ok) (ids : List Nat) (untested agrees : Bool) :
    (s.islandTold ids untested agrees).face.ok := by
  unfold State.islandTold
  (repeat' split)
  · rw [State.showSet_face]
    exact State.imageStarts_ok (State.mapIsl_ok (fun _ => rfl) (fun _ => rfl) h)
  · exact State.mapIsl_ok (fun _ => rfl) (fun _ => rfl) h
  · rw [State.showSet_face]
    exact State.imageStarts_ok (State.mapIsl_ok (fun _ => rfl) (fun _ => rfl) h)

/-- The images shown as running, before the island is told of them (steps 7 to 9 of R60). -/
def State.imagesShown (s : State) (r : PrefRec) (safety : Nat) (c : Combo) : State :=
  let ds := s.descriptor 1 safety
  let dt := s.descriptor 2 c.till
  let dr := s.descriptor 3 c.reeve
  let dd := s.descriptor 4 c.drill
  let hmb := !pairTested ds dd 1 4
  let rvd := !pairTested dr dd 3 4
  let tmc := !pairTested dt dd 2 4
  let s := (((s.showRunning r 1 safety).showRunning r 2 c.till).showRunning r 3 c.reeve).showRunning r 4 c.drill
  let s := ((s.setOn BT_COMPAT.UNTESTED_HMB 0 hmb).setOn BT_COMPAT.UNTESTED_RVD 0 rvd).setOn BT_COMPAT.UNTESTED_TMC 0 tmc
  { s with boot := { s.boot with ykl := (ifMajor dd 3, ifMinor dd 3) } }

/-- What follows once the island is told: Reeve's setpoint, Drill's start and the end of the boot ROM. -/
def State.imagesStart (s : State) (code : Nat) (agrees : Bool) : State :=
  { s with reeve := { s.reeve with setpoint := fusedSetpoint } }.drillStarts.bootEnds (if agrees then code else 0x15) false

theorem State.imagesRun_eq (s : State) (r : PrefRec) (safety : Nat) (c : Combo) (code : Nat) (agrees : Bool) :
    s.imagesRun r safety c code agrees =
      ((s.imagesShown r safety c).islandTold [imageId (s.descriptor 1 safety), imageId (s.descriptor 2 c.till),
        imageId (s.descriptor 3 c.reeve), imageId (s.descriptor 4 c.drill)]
        (!pairTested (s.descriptor 1 safety) (s.descriptor 4 c.drill) 1 4 ||
          !pairTested (s.descriptor 3 c.reeve) (s.descriptor 4 c.drill) 3 4 ||
          !pairTested (s.descriptor 2 c.till) (s.descriptor 4 c.drill) 2 4) agrees).imagesStart code agrees := by
  simp only [State.imagesRun, State.imagesShown, State.imagesStart]

@[simp] theorem State.imagesShown_face (s : State) (r : PrefRec) (safety : Nat) (c : Combo) :
    (s.imagesShown r safety c).face = s.face := by
  unfold State.imagesShown
  simp (disch := decide) [State.face]

@[simp] theorem State.imagesStart_face (s : State) (code : Nat) (agrees : Bool) :
    (s.imagesStart code agrees).face = s.face := by
  unfold State.imagesStart
  simp (disch := decide) [State.face]

theorem State.imagesRun_ok {s : State} (h : s.face.ok) (r : PrefRec) (safety : Nat) (c : Combo) (code : Nat)
    (agrees : Bool) : (s.imagesRun r safety c code agrees).face.ok := by
  rw [State.imagesRun_eq, State.imagesStart_face]
  exact State.islandTold_ok ((s.imagesShown_face r safety c).symm ▸ h) _ _ _

theorem State.safetySlot_face {s t : State} {l : List Nat} {x : Option Nat} (h : s.safetySlot l = (x, t)) :
    t.face = s.face := by
  have hk := State.safetySlot_keep (m := islandPart) rfl s l
  rw [h] at hk
  exact congrArg faceOf hk

theorem execBootSequence_keepsIsland (agrees : Bool) (s : State) : KeepsIsland s (execBootSequence agrees s) := by
  have hends : ∀ (u : State) (n : Nat) (b : Bool), (u.bootEnds n b).face = u.face := fun u n b => by
    simp (disch := decide) [State.face]
  have hpref : s.prefStep.face = s.face := by simp (disch := decide) [State.face]
  have hshow : ∀ (u : State) (bad : List Nat) (c : Option Combo), (u.showResults bad c).face = u.face := fun u bad c => by
    simp (disch := decide) [State.face]
  unfold execBootSequence
  refine keepsIsland_next.mpr fun h => ?_
  dsimp only
  split
  · exact h
  · split
    · rw [hends]
      exact h
    · split
      next u hu =>
        rw [hends, State.safetySlot_face hu, hpref]
        exact h
      next safety u hu =>
        have hok : u.face.ok := by
          rw [State.safetySlot_face hu, hpref]
          exact h
        split
        · rw [hends, hshow]
          exact hok
        · rw [hends, hshow]
          exact hok
        · exact State.imagesRun_ok ((hshow ..).symm ▸ hok) _ _ _ _ _

/-- A channel put in place of one with the same command. -/
theorem Face.ok_put {f : Face} (h : f.ok) {k : Nat} {c d : ChanSt} (hc : find k f.chans = some c) (hd : d.cmd = c.cmd) :
    ({ f with chans := put k d f.chans } : Face).ok := by
  obtain ⟨ha, hv, hcs⟩ := h
  refine ⟨ha, hv, fun x hx he => ?_⟩
  rcases mem_put hx with rfl | hx
  · exact hcs (k, c) (mem_of_find hc) (hd ▸ he)
  · exact hcs x hx he

theorem execOffPulse_keepsIsland (i : Fin 16) (off back : Bool) (s : State) :
    KeepsIsland s (execOffPulse i off back s) := by
  unfold execOffPulse
  split
  next p c hp hc =>
    have hput : ∀ (u : State) (d : ChanSt), u.face = s.face → u.isl.chans = s.isl.chans → d.cmd = c.cmd → s.face.ok →
        (u.mapIsl fun x => { x with chans := put i.val d x.chans }).face.ok := by
      intro u d hu hch hd h
      rw [State.mapIsl_face_eq, hu, hch, ← State.face_chans, ← State.face_set, hu]
      exact Face.ok_put h (s.face_chans ▸ hc) hd
    have hb : ∀ F, (s.bump F 0).isl = s.isl := fun F => by
      unfold State.bump
      split <;> rfl
    dsimp only
    (repeat' split) <;> refine keepsIsland_next.mpr fun h => ?_
    · exact h
    · exact hput s _ rfl rfl rfl h
    all_goals
      rw [State.showOutputs_face]
      exact hput _ _ (State.bump_face _ (by simp) _) (by rw [hb]) rfl h
  · exact keepsIsland_next.mpr id

theorem Face.mem_map {α β : Type} {f : Nat × α → Nat × β} {l : List (Nat × α)} {p : Nat × β → Prop}
    (h : ∀ c ∈ l, p (f c)) : ∀ c ∈ l.map f, p c := by
  intro c hc
  obtain ⟨x, hx, rfl⟩ := List.mem_map.mp hc
  exact h x hx

theorem ChanSt.drives_cmd (c : ChanSt) (on : Bool) : (c.drives on).cmd = on := by
  unfold ChanSt.drives
  cases on
  · exact c.off_cmd
  · rfl

/-- The channels of the enable pairs follow authority in OPERATIONAL or FAULT; the safe outputs stay. -/
theorem State.driveAxes_ok {s : State} (ha : s.face.authOk) (hv : s.face.veto = true → s.face.hs = hsOperational)
    (hc : ∀ c ∈ s.face.chans, c.1 < 8 → c.2.cmd = true → s.face.hs = hsOperational) : s.driveAxes.face.ok := by
  unfold State.driveAxes
  rw [State.mapIsl_face_eq, ← State.face_set]
  refine ⟨ha, hv, fun c hm he => ?_⟩
  obtain ⟨x, hx, rfl⟩ := List.mem_map.mp hm
  rw [← s.face_chans] at hx
  by_cases hlt : x.1 < 8
  · rw [if_pos hlt] at he ⊢
    exact .inl (hc x hx hlt he)
  · rw [if_neg hlt] at he ⊢
    rw [ChanSt.drives_cmd] at he
    simp only [Bool.and_eq_true, Bool.or_eq_true, decide_eq_true_eq] at he
    obtain ⟨⟨-, ho | hf⟩, -⟩ := he
    · exact .inl (s.face_hs.trans ho)
    · exact .inr ⟨not_lt.mp hlt, s.face_hs.trans hf⟩

theorem State.putAxis_ok {s : State} (h : s.face.ok) (n : Nat) (r : AxisRec) (a : AxisSt) :
    (s.putAxis n r a).face.ok := by
  obtain ⟨ha, hv, hcs⟩ := h
  unfold State.putAxis
  apply State.driveAxes_ok <;> rw [State.showAxis_face, State.setAxis_face]
  · exact ha
  · exact hv
  · exact fun c hc hlt he => (hcs c hc he).resolve_right fun hn => absurd hn.1 (by omega)

theorem execTBlind_keepsIsland (n : Fin 4) (s : State) : KeepsIsland s (execTBlind n s) := by
  unfold execTBlind
  (repeat' split) <;> refine keepsIsland_next.mpr fun h => ?_
  · exact State.putAxis_ok h _ _ _
  all_goals exact h

theorem execDackTimeout_keepsIsland (n : Fin 4) (s : State) : KeepsIsland s (execDackTimeout n s) := by
  unfold execDackTimeout
  (repeat' split) <;> refine keepsIsland_next.mpr fun h => ?_
  · exact State.putAxis_ok h _ _ _
  all_goals exact h

theorem execTSs_keepsIsland (n : Fin 4) (s : State) : KeepsIsland s (execTSs n s) := by
  unfold execTSs
  dsimp only
  (repeat' split) <;> refine keepsIsland_next.mpr fun h => ?_
  · exact h
  · exact State.putAxis_ok h _ _ _
  · exact State.putAxis_ok h _ _ _
  · rw [State.bump_face _ (by simp)]
    exact State.putAxis_ok h _ _ _
  all_goals exact h

end Sys2Proof.Machine
end

section
/-! PROOF. The safety cycle keeps the invariant of the island. -/

namespace Sys2Proof.Machine

/-! ### The safety cycle -/

/-- The set drives safe output o. -/
def Face.drives (f : Face) (o : Nat) : Bool := ((f.set.map (·.params)).bind fun p => find o p.outputs).any (·.used)

/-- Only channels of used outputs are listed among the safe outputs' channels. -/
def Face.wired (f : Face) : Prop := ∀ c ∈ f.chans, c.1 < 8 → f.drives (c.1 / 2) = true

theorem Face.wired.off {f : Face} (h : f.wired) : f.off.wired := by
  intro c hc
  obtain ⟨x, hx, rfl⟩ := List.mem_map.mp hc
  exact h x hx

/-- What holds between the stages of a cycle. -/
def Face.staged (f : Face) : Prop := f.authOk ∧ f.wired

theorem State.checkChans_staged {s : State} (h : s.face.authOk) : s.checkChans.face.staged := by
  unfold State.checkChans
  rw [State.mapIsl_face_eq]
  refine ⟨h, fun c hc hlt => ?_⟩
  obtain ⟨k, hk, rfl⟩ := List.mem_map.mp hc
  unfold State.usedChans State.params? at hk
  unfold Face.drives
  dsimp only at hlt ⊢
  split at hk
  · cases hk
  next p hp =>
    simp only [List.mem_filter, if_pos hlt] at hk
    rw [hp]
    exact hk.2

/-- The twin step keeps the state, and changes authority in OPERATIONAL only. -/
theorem State.twinStep_staged {s : State} (h : s.face.staged) (lost newTwin : Bool) :
    (s.twinStep lost newTwin).face.staged := by
  obtain ⟨ha, hw⟩ := h
  unfold State.twinStep
  dsimp only
  generalize (if newTwin then s.freshTwin else none : Option TwinRec) = w
  split
  · exact ⟨ha, hw⟩
  next hop =>
    have hop' : s.face.hs = hsOperational := s.face_hs.trans (not_not.mp hop)
    have hset : ∀ (u : State) b, u.face = s.face → (u.setAuth b).face.staged := fun u b hu => by
      rw [State.setAuth_face, hu]
      exact ⟨fun _ => .inl hop', hw⟩
    have hoff : ∀ u : State, u.face = s.face → u.pathsOff.face.staged := fun u hu => by
      rw [State.pathsOff_face, hu]
      exact ⟨ha, hw.off⟩
    repeat' split
    · exact hoff _ (by simp [State.face])
    · rw [State.degrade_face]
      exact hset _ _ rfl
    · rw [State.degrade_face]
      exact hset _ _ (by simp [State.face])
    · exact hset _ _ rfl
    · exact ⟨ha, hw⟩
    · exact hset _ _ (by simp [State.face])
    · exact ⟨ha, hw⟩
    · exact hset _ _ rfl
    · exact ⟨ha, hw⟩

theorem State.enterFault_staged {s : State} (h : s.face.staged) : s.enterFault.face.staged := by
  rw [State.enterFault_face]
  split
  · exact ⟨fun _ => .inr rfl, h.2⟩
  · exact h

theorem State.faultStep_staged {s : State} (h : s.face.staged) : s.faultStep.face.staged := by
  unfold State.faultStep
  split
  · exact h
  · apply State.enterFault_staged
    split
    · rw [State.pathsOff_face, State.disarmOperate_face]
      exact ⟨h.1, h.2.off⟩
    · rw [State.disarmOperate_face]
      exact h

theorem State.edgeStep_staged {s : State} (h : s.face.staged) : s.edgeStep.face.staged := by
  have hu : (s.mapIsl fun i => { i with edge := false }).face = s.face := by simp [State.face]
  unfold State.edgeStep
  dsimp only
  (repeat' split)
  · exact h
  · rw [State.confirmWrite_face, hu]
    exact h
  · rw [State.setHs_face _ (by decide), State.setAuth_face, State.pathsOff_face, hu]
    exact ⟨Face.authOk_of_unheld rfl, h.2.off⟩
  · rw [State.setAuth_face, State.setHs_face _ (by decide), State.disarmOperate_face, hu]
    exact ⟨fun _ => .inl rfl, h.2⟩
  · rw [State.setAuth_face, State.setHs_face _ (by decide), State.disarmOperate_face, hu]
    exact ⟨fun _ => .inl rfl, h.2⟩
  · exact h

/-! The outputs' evaluation: outside OPERATIONAL no used output is on. -/

theorem OutputSt.off_ev (x : OutputSt) (r : Option OutputRec) (t : Nat) : (x.off r t).ev = false := by
  unfold OutputSt.off
  split
  · rfl
  next h => exact Bool.eq_false_iff.mpr h

theorem OutputSt.cycle_ev (x : OutputSt) (r : OutputRec) (closed edge : Bool) (t : Nat) :
    (x.cycle r false closed edge t).ev = false := by
  unfold OutputSt.cycle
  dsimp only
  split
  · exact OutputSt.off_ev ..
  next h => exact Bool.eq_false_iff.mpr h

theorem State.face_drives (s : State) (o : Nat) :
    s.face.drives o = (s.params?.bind fun p => find o p.outputs).any (·.used) := by
  unfold Face.drives State.params?
  rw [s.face_set]

theorem State.bump_isl (s : State) (F : Fld) (i : Nat) : (s.bump F i).isl = s.isl := by
  unfold State.bump
  split <;> rfl

theorem State.evalOutput_self {s : State} {o : Nat} (hop : s.hs ≠ hsOperational) (hd : s.face.drives o = true) :
    (findD {} o (s.evalOutput o).isl.outputs).ev = false := by
  have hmay : s.mayEnergise o = false := by simp [State.mayEnergise, hop]
  rw [State.face_drives] at hd
  unfold State.evalOutput
  split
  next hn =>
    cases ho : s.params?.bind fun p => find o p.outputs with
    | none => rw [ho] at hd; cases hd
    | some r =>
      rw [ho] at hd hn
      simp only [Option.any_some] at hd
      simp [Option.filter, hd] at hn
  next r hr =>
    dsimp only
    split
    · rw [State.bump_isl, State.mapIsl_isl, findD_put_self, hmay]
      exact OutputSt.cycle_ev ..
    · rw [State.mapIsl_isl, findD_put_self, hmay]
      exact OutputSt.cycle_ev ..

theorem State.evalOutput_ne (s : State) {o k : Nat} (h : k ≠ o) :
    findD {} k (s.evalOutput o).isl.outputs = findD {} k s.isl.outputs := by
  unfold State.evalOutput
  split
  · rfl
  dsimp only
  split
  · rw [State.bump_isl, State.mapIsl_isl, findD_put_ne h]
  · rw [State.mapIsl_isl, findD_put_ne h]

theorem foldl_evalOutput_off {k : Nat} (l : List Nat) {s : State} (hop : s.hs ≠ hsOperational)
    (hd : s.face.drives k = true) (hk : k ∈ l ∨ (findD {} k s.isl.outputs).ev = false) :
    (findD {} k (l.foldl (fun s o => s.evalOutput o) s).isl.outputs).ev = false := by
  induction l generalizing s with
  | nil => exact hk.resolve_left (by simp)
  | cons o l ih =>
    have hface := s.evalOutput_face o
    rw [List.foldl_cons]
    apply ih
    · rw [← State.face_hs, hface, State.face_hs]
      exact hop
    · rw [hface]
      exact hd
    · by_cases he : k = o
      · subst he
        exact .inr (State.evalOutput_self hop hd)
      · rw [State.evalOutput_ne _ he]
        exact hk.imp (fun h => (List.mem_cons.mp h).resolve_left he) id

/-- A used output is on in OPERATIONAL only. -/
def State.lit (s : State) : Prop :=
  ∀ o, o < 4 → s.face.drives o = true → (findD {} o s.isl.outputs).ev = true → s.face.hs = hsOperational

theorem State.evalOutputs_lit (s : State) : s.evalOutputs.lit := by
  intro o ho hd he
  rw [State.evalOutputs_face] at hd ⊢
  by_contra hop
  rw [s.face_hs] at hop
  have := foldl_evalOutput_off (List.range 4) hop hd (.inl (List.mem_range.mpr ho))
  unfold State.evalOutputs at he
  rw [this] at he
  cases he

theorem State.lit.congr {s t : State} (h : s.lit) (hf : t.face = s.face) (ho : t.isl.outputs = s.isl.outputs) : t.lit := by
  unfold State.lit
  rw [hf, ho]
  exact h

theorem State.evalAxis_outputs (s : State) (n : Nat) : (s.evalAxis n).isl.outputs = s.isl.outputs := by
  unfold State.evalAxis
  split
  · simp only [State.showAxis, State.setOn, State.setF_isl, State.bumpBy, State.setAxis, State.mapIsl_isl]
  · rfl

theorem State.evalAxes_outputs (s : State) : s.evalAxes.isl.outputs = s.isl.outputs := by
  unfold State.evalAxes
  generalize List.range 4 = l
  induction l generalizing s with
  | nil => rfl
  | cons n l ih => rw [List.foldl_cons, ih, State.evalAxis_outputs]

theorem State.stopStep_staged {s : State} (h : s.face.staged) : s.stopStep.face.staged := by
  unfold State.stopStep
  split
  · rw [State.setHs_face _ (by decide), State.leaveOperation_face, State.setAuth_face, State.pathsOff_face]
    exact ⟨Face.authOk_of_unheld rfl, h.2.off⟩
  · exact h

/-- With every path off, no output is on. -/
theorem State.pathsOff_ev (s : State) (o : Nat) : (findD {} o s.pathsOff.isl.outputs).ev = false := by
  have hoff : ∀ l : List (Nat × OutputSt), ∀ g : Nat → Option OutputRec,
      (findD {} o (l.map fun c : Nat × OutputSt => (c.1, c.2.off (g c.1) s.islTime))).ev = false := by
    intro l g
    induction l with
    | nil => rfl
    | cons c r ih =>
      unfold findD at ih ⊢
      rw [List.map_cons, find_cons]
      split
      · exact OutputSt.off_ev ..
      · exact ih
  unfold State.pathsOff
  simp only [State.setF_isl, State.setOn, State.mapIsl_isl]
  exact hoff _ fun k => s.params?.bind fun p => find k p.outputs

theorem State.stopStep_lit {s : State} (h : s.lit) : s.stopStep.lit := by
  unfold State.stopStep
  split
  · intro o ho hd he
    have hisl : (((s.pathsOff.setAuth false).leaveOperation).setHs hsStopped).isl.outputs = s.pathsOff.isl.outputs := by
      unfold State.setHs State.leaveOperation State.setAuth
      simp only [State.setF_isl, State.setOn, State.mapIsl_isl]
      split
      · rfl
      · rw [State.bump_isl, State.setF_isl]
    rw [hisl, State.pathsOff_ev] at he
    cases he
  · exact h

/-- The own veto goes out in OPERATIONAL only. -/
theorem State.vetoStep_face (s : State) : ∃ b : Bool, s.vetoStep.face = { s.face with veto := b } ∧
    (b = true → s.face.hs = hsOperational) := by
  have hrun : ∀ run : Nat, ((s.mapIsl fun i => { i with vetoMis := run }).setOn HDL_STATE.VETO_OUT 0 (2 ≤ run)).face =
      { s.face with veto := decide (2 ≤ run) } := by
    intro run
    rw [State.setOn_veto_face, State.mapIsl_face_eq, ← s.face_chans, ← s.face_set]
  unfold State.vetoStep
  refine ⟨_, hrun _, fun hb => ?_⟩
  split at hb
  next hc =>
    simp only [Bool.and_eq_true, decide_eq_true_eq] at hc
    exact s.face_hs.trans hc.1.1
  · cases hb

theorem State.driveOutputs_face (s : State) : s.driveOutputs.face = { s.face with chans := s.face.chans.map fun c =>
    if c.1 < 8 then (c.1, c.2.drives ((findD {} (c.1 / 2) s.isl.outputs).ev && s.auth && !s.isl.hwOff)) else c } := by
  unfold State.driveOutputs
  rw [State.mapIsl_face_eq, ← s.face_chans, ← s.face_set]

/-- The outputs' and axes' channels are driven from what the cycle evaluated. -/
theorem State.drive_ok {s : State} (h : s.face.staged) (hv : s.face.veto = true → s.face.hs = hsOperational)
    (hl : s.lit) : s.driveOutputs.driveAxes.face.ok := by
  apply State.driveAxes_ok <;> rw [State.driveOutputs_face]
  · exact h.1
  · exact hv
  · intro c hc hlt he
    obtain ⟨x, hx, rfl⟩ := List.mem_map.mp hc
    by_cases hx8 : x.1 < 8
    · rw [if_pos hx8] at he
      rw [ChanSt.drives_cmd] at he
      simp only [Bool.and_eq_true] at he
      exact hl (x.1 / 2) (by omega) (h.2 x hx hx8) he.1.1
    · rw [if_neg hx8] at hlt
      exact absurd hlt hx8

theorem State.fullCycle_ok {s : State} (h : s.face.authOk) (veto pulsed : BitVec 2) : (s.fullCycle veto pulsed).face.ok := by
  unfold State.fullCycle
  dsimp only
  rw [State.showCauses_face, State.showSet_face, State.showOutputs_face]
  generalize s.isl.records.any (·.isTwinLost) = lost
  generalize s.isl.records.any (·.isTwin) = twin
  have h1 : (((s.vetoSample veto pulsed).evalInputs).checkChans).face.staged :=
    State.checkChans_staged (by rw [State.evalInputs_face, State.vetoSample_face]; exact h)
  generalize ((s.vetoSample veto pulsed).evalInputs).checkChans = a at h1 ⊢
  have h2 : (((a.edgeSample).takeRecords).localStep.vetoRelease).face.staged := by
    rw [State.vetoRelease_face, State.localStep_face, State.takeRecords_face, State.edgeSample_face]
    exact h1
  generalize ((a.edgeSample).takeRecords).localStep.vetoRelease = b at h2 ⊢
  have h3 : ((b.twinStep lost twin).faultStep.edgeStep.hitchCycle).face.staged := by
    rw [State.hitchCycle_face]
    exact State.edgeStep_staged (State.faultStep_staged (State.twinStep_staged h2 _ _))
  generalize (b.twinStep lost twin).faultStep.edgeStep.hitchCycle = c at h3 ⊢
  have h4 : c.evalOutputs.evalAxes.stopStep.face.staged := by
    apply State.stopStep_staged
    rw [State.evalAxes_face, State.evalOutputs_face]
    exact h3
  have h5 : c.evalOutputs.evalAxes.stopStep.lit :=
    State.stopStep_lit (c.evalOutputs_lit.congr (State.evalAxes_face _) (State.evalAxes_outputs _))
  generalize c.evalOutputs.evalAxes.stopStep = d at h4 h5 ⊢
  obtain ⟨x, hx, hxo⟩ := d.vetoStep_face
  apply State.drive_ok
  · rw [hx]
    exact h4
  · rw [hx]
    exact hxo
  · intro o ho hd he
    rw [hx] at hd ⊢
    refine h5 o ho hd ?_
    have hout : d.vetoStep.isl.outputs = d.isl.outputs := by
      unfold State.vetoStep
      rfl
    rw [hout] at he
    exact he

theorem execSafetyCycle_keepsIsland (seals : BitVec 12) (veto pulsed : BitVec 2) (s : State) :
    KeepsIsland s (execSafetyCycle seals veto pulsed s) := by
  unfold execSafetyCycle
  dsimp only
  split
  · refine keepsIsland_next.mpr fun h => ?_
    rw [State.buildHrec_face]
    apply State.fullCycle_ok
    rw [State.cycleStart_face]
    exact h.1
  · split
    · refine Calm.keepsIsland ((calm_next _ _).mpr ?_)
      split <;> simp [State.face]
    · refine Calm.keepsIsland ((calm_next _ _).mpr ?_)
      simp [State.face]

end Sys2Proof.Machine
end

section
/-! PROOF. Every step keeps the power-on reset invariant and the invariant of the island. -/

namespace Sys2Proof.Machine

/-! ### Every command -/

theorem face_of_keep {s t : State} (h : t.keep islandPart = s.keep islandPart) : t.face = s.face := congrArg faceOf h

/-- A command that may change neither the island nor its registers keeps the face. -/
theorem calm_of_parts {i : Instr} (s : State) (hb : (partsOf i).contains (.blk .HDL) = false)
    (hi : (partsOf i).contains .isl = false) : Calm s (exec i s) := by
  intro t ht
  have hk : t.keep (outside (partsOf i)) = s.keep (outside (partsOf i)) := keepsBut_of_exec ht
  have hf : ∀ F : Fld, F.blk = .HDL → ∀ k, t.f F k = s.f F k := fun F hF k =>
    f_of_keep hk (by simp only [outside, hF, hb, Bool.not_false]) k
  have hisl : t.isl = s.isl := isl_of_keep hk (by simp only [outside, hi, Bool.not_false])
  rw [State.face_eq, State.face_eq]
  simp only [faceOf, State.hs, State.auth, State.on, hf HDL_STATE.HS rfl, hf HDL_STATE.AUTH rfl,
    hf HDL_STATE.VETO_OUT rfl, hisl]

theorem exec_keepsIsland (i : Instr) (s : State) : KeepsIsland s (exec i s) := by
  cases i
  case pwrfail => exact execPwrfail_keepsIsland s
  case supplySample rail level => exact execSupplySample_keepsIsland rail level s
  case headlandSafetyReset cause digestOk => exact execHeadlandSafetyReset_keepsIsland cause digestOk s
  case lockstepMismatch => exact execLockstepMismatch_keepsIsland s
  case wdog => exact execWdog_keepsIsland s
  case graceEnd => exact execGraceEnd_keepsIsland s
  case paramWriteDone ok => exact execParamWriteDone_keepsIsland ok s
  case startup seals test offs => exact execStartup_keepsIsland seals test offs s
  case bootSequence agrees => exact execBootSequence_keepsIsland agrees s
  case offPulse i off back => exact execOffPulse_keepsIsland i off back s
  case tBlind n => exact execTBlind_keepsIsland n s
  case dackTimeout n => exact execDackTimeout_keepsIsland n s
  case tSs n => exact execTSs_keepsIsland n s
  case safetyCycle seals veto pulsed => exact execSafetyCycle_keepsIsland seals veto pulsed s
  case status => exact (execStatus_calm s).keepsIsland
  case regRead => exact (execRegRead_calm s).keepsIsland
  case paramBegin => exact (execParamBegin_calm s).keepsIsland
  case paramData => exact (execParamData_calm s).keepsIsland
  case paramCommit => exact (execParamCommit_calm s).keepsIsland
  case checkRead => exact (execCheckRead_calm s).keepsIsland
  case confirm => exact (execConfirm_calm s).keepsIsland
  case operate => exact (execOperate_calm s).keepsIsland
  case stop => exact (execStop_calm s).keepsIsland
  case handover => exact (execHandover_calm s).keepsIsland
  case clockWindow ref root => exact (execClockWindow_calm ref root s).keepsIsland
  case retry n => exact (execRetry_calm n s).keepsIsland
  case headlandMsg e => exact (execHeadlandMsg_calm e s).keepsIsland
  case islandTimeout e => exact (execIslandTimeout_calm e s).keepsIsland
  case mailboxAnswer e res => exact (execMailboxAnswer_calm e res s).keepsIsland
  case frameDrop l => exact (execFrameDrop_calm l s).keepsIsland
  case deadline l => exact (execDeadline_calm l s).keepsIsland
  case digestComplete l res => exact (execDigestComplete_calm l res s).keepsIsland
  case heartbeatDue => exact (execHeartbeatDue_calm s).keepsIsland
  case heartbeat => exact (execHeartbeat_calm s).keepsIsland
  case heartbeatDeadline => exact (execHeartbeatDeadline_calm s).keepsIsland
  case agreementPoint l k => exact (execAgreementPoint_calm l k s).keepsIsland
  case digest => exact (execDigest_calm s).keepsIsland
  case missing => exact (execMissing_calm s).keepsIsland
  case endReport e res => exact (execEndReport_calm e res s).keepsIsland
  case confirmTimeout => exact (execConfirmTimeout_calm s).keepsIsland
  case lockoutEnd => exact (execLockoutEnd_calm s).keepsIsland
  case armedExpiry => exact (execArmedExpiry_calm s).keepsIsland
  case handoverFailed => exact (execHandoverFailed_calm s).keepsIsland
  case frameWatchdog => exact (execFrameWatchdog_calm s).keepsIsland
  case degradeExpired => exact (execDegradeExpired_calm s).keepsIsland
  case localLost => exact (execLocalLost_calm s).keepsIsland
  case vetoTestPulse pulsed => exact (execVetoTestPulse_calm pulsed s).keepsIsland
  case lockupN low => exact (execLockupN_calm low s).keepsIsland
  case inputSample pins => exact (execInputSample_calm pins s).keepsIsland
  case resetStuck => exact (execResetStuck_calm s).keepsIsland
  case discrepancy n => exact (execDiscrepancy_calm n s).keepsIsland
  case testPulse b pins => exact (execTestPulse_calm b pins s).keepsIsland
  case cfTime o => exact (execCfTime_calm o s).keepsIsland
  case encoderEdge n a b => exact (execEncoderEdge_calm n a b s).keepsIsland
  case indexPoint n => exact (execIndexPoint_calm n s).keepsIsland
  case observerSample n bits => exact (execObserverSample_calm n bits s).keepsIsland
  case start n => exact (execStart_calm n s).keepsIsland
  case startFail n => exact (execStartFail_calm n s).keepsIsland
  case dataDue n => exact (execDataDue_calm n s).keepsIsland
  case watchdog n => exact (execWatchdog_calm n s).keepsIsland
  case timeout n => exact (execTimeout_calm n s).keepsIsland
  case hitchFrameReceive port frame fcsOk => exact (execHitchFrameReceive_calm port frame fcsOk s).keepsIsland
  case portLink port speed => exact (execPortLink_calm port speed s).keepsIsland
  case pwrfailNRelease => exact (execPwrfailNRelease_calm s).keepsIsland
  case startAck n => exact (execStartAck_calm n s).keepsIsland
  case data n => exact (execData_calm n s).keepsIsland
  case close n => exact (execClose_calm n s).keepsIsland
  case clearEvt => exact (execClearEvt_calm s).keepsIsland
  all_goals exact (calm_of_parts s rfl rfl).keepsIsland

/-! ### The power-on reset -/

/-- The power-on reset's pins and rails are the same. -/
def SamePor (s t : State) : Prop :=
  t.clk.porstLow = s.clk.porstLow ∧ t.clk.porstHeld = s.clk.porstHeld ∧ t.clk.railOut = s.clk.railOut

theorem SamePor.porInv {s t : State} (h : SamePor s t) (hs : s.porInv) : t.porInv := by
  obtain ⟨h1, h2, h3⟩ := h
  unfold State.porInv
  rw [h1, h2, h3]
  exact hs

/-- The power-on reset ends only where nothing holds it. -/
theorem State.porRelease_porInv {s : State} (h : s.porInv) : s.porRelease.porInv := by
  unfold State.porRelease
  split
  · exact h
  next hn =>
    simp only [Bool.or_eq_true, Bool.not_eq_true', not_or, Bool.not_eq_true] at hn
    obtain ⟨⟨⟨-, hlow⟩, hrail⟩, -⟩ := hn
    have hk : ∀ u : State, SamePor u (((u.setOn CLK_STATUS.ROOT_LOCK 0 true).newEpochs).log0 0x0001 0) := fun u =>
      por_of_keep (m := among [.por]) (by simp (disch := decide)) rfl
    refine (hk _).porInv fun e => ?_
    rcases e with e | e
    · exact absurd (hlow.symm.trans e) (by decide)
    · exact absurd (hrail.symm.trans e) (by decide)

theorem State.sampled_porInv {s : State} (h : s.porInv) (rail : Nat) (bad : Bool) : (s.sampled rail bad).porInv := by
  unfold State.sampled
  dsimp only
  split
  · exact fun _ => rfl
  next hn =>
    intro e
    show s.clk.porstHeld = true
    by_contra hheld
    rcases e with e | e
    · exact hheld (h (.inl e))
    · cases bad
      · obtain ⟨r, hr, hp⟩ := List.any_eq_true.mp e
        exact hheld (h (.inr (List.any_eq_true.mpr ⟨r, (List.mem_filter.mp hr).1, hp⟩)))
      · obtain ⟨r, hr, hp⟩ := List.any_eq_true.mp e
        rcases List.mem_cons.mp hr with rfl | hr
        · simp [hp] at hn
          exact hheld hn
        · exact hheld (h (.inr (List.any_eq_true.mpr ⟨r, (List.mem_filter.mp hr).1, hp⟩)))

theorem exec_samePor {i : Instr} {s t : State} (hp : (partsOf i).contains .por = false) (ht : exec i s = .next t) :
    SamePor s t :=
  por_of_keep (m := outside (partsOf i)) (keepsBut_of_exec ht) (by simp only [outside, hp, Bool.not_false])

/-- Where PORST_N rises, or where REFCLK returns, less holds the reset than before. -/
theorem State.porInv_less {s t : State} (h : s.porInv) (hl : t.clk.porstLow = true → s.clk.porstLow = true)
    (hh : t.clk.porstHeld = s.clk.porstHeld) (hr : t.clk.railOut = s.clk.railOut) : t.porInv := by
  unfold State.porInv
  rw [hh, hr]
  exact fun e => h (e.imp hl id)

theorem exec_keepsPor {i : Instr} {s t : State} (hs : s.porInv) (ht : exec i s = .next t) : t.porInv := by
  cases i
  case powerOnReset =>
    cases ht
    exact fun _ => rfl
  case supplySample rail level =>
    by_cases hl : level = .beyondAbsolute
    · subst hl
      cases ht
    · cases (execSupplySample_eq rail hl s).symm.trans ht
      apply State.porRelease_porInv
      refine SamePor.porInv (s := s.sampled rail.val (decide (level = .outside))) ?_ (State.sampled_porInv hs _ _)
      exact por_of_keep (m := among [.por]) (by simp (disch := decide)) rfl
  case refclkReturn =>
    cases ht
    exact State.porRelease_porInv (State.porInv_less hs id rfl rfl)
  case porstNRelease lead flash =>
    cases ht
    dsimp only
    split
    · exact hs
    · apply State.porRelease_porInv
      cases flash
      all_goals exact State.porInv_less hs (fun e => by cases e) rfl rfl
  all_goals exact (exec_samePor rfl ht).porInv hs

/-! ### Every step -/

theorem tick_keepsIsland {s : State} (h : s.islandInv) : s.tick.islandInv := by
  rw [State.islandInv_iff] at h ⊢
  have hf : s.tick.face = s.face := face_of_keep (by simp (disch := decide))
  rw [hf]
  exact h

theorem tick_keepsPor {s : State} (h : s.porInv) : s.tick.porInv :=
  SamePor.porInv (por_of_keep (m := among [.por]) (by simp (disch := decide)) rfl) h

/-- Settles O4: the power-on reset's invariant and the island's are kept by every command and by the tick. -/
theorem machineInvariantKept : Obligations.MachineInvariantKept := by
  unfold Obligations.MachineInvariantKept
  intro s t hp hi ht
  cases hq : s.pending with
  | nil =>
    rw [step_of_pending_nil hq] at ht
    cases ht
    exact ⟨tick_keepsPor hp, tick_keepsIsland hi⟩
  | cons i r =>
    rw [step_of_pending_cons hq] at ht
    exact ⟨exec_keepsPor (s := { s with pending := r }) hp ht,
      exec_keepsIsland i { s with pending := r } t ht hi⟩

end Sys2Proof.Machine
end

section
/-! PROOF. The timestamp: no write and no command but a power-on reset changes it (R33). -/

namespace Sys2Proof.Machine

/-! ### The timestamp -/

/-- The part in which the timestamp stands. -/
def clkPart (p : Facet) : Bool := decide (p = .blk .CLK)

@[simp] theorem clkPart_eq_false (p : Facet) : clkPart p = false ↔ p ≠ .blk .CLK := by simp [clkPart]

/-- The timestamp, as a function that `simp` leaves alone. -/
def stampOf (s : State) : Nat := s.now

/-- `State.now`, read through its block alone: under it every frame lemma of an operation elsewhere applies. -/
@[reducible] def State.stamp (s : State) : Nat := stampOf (s.keep clkPart)

theorem State.stamp_eq (s : State) : s.stamp = s.now := by
  refine f_of_keep (m := clkPart) ?_ rfl 0
  simp only [State.keep, List.filter_filter, Bool.and_self]
  simp [clkPart]

@[simp] theorem stampOf_ite {c : Prop} [Decidable c] (a b : State) :
    stampOf (if c then a else b) = if c then stampOf a else stampOf b := by split <;> rfl

theorem State.setF_stamp (s : State) {F : Fld} {i : Nat} (h : CLK_TIMESTAMP.TS.key 0 ≠ F.key i) (v : Nat) :
    (s.setF F i v).stamp = s.stamp := by
  rw [State.stamp_eq, State.stamp_eq]
  exact State.f_setF_ne _ h v

theorem State.setOn_stamp (s : State) {F : Fld} {i : Nat} (h : CLK_TIMESTAMP.TS.key 0 ≠ F.key i) (b : Bool) :
    (s.setOn F i b).stamp = s.stamp := s.setF_stamp h _

theorem State.clk_stamp (s : State) (c : Clocks) (h1 : c.porstLow = s.clk.porstLow)
    (h2 : c.porstHeld = s.clk.porstHeld) (h3 : c.railOut = s.clk.railOut) : ({ s with clk := c } : State).stamp = s.stamp :=
  congrArg stampOf (keep_clk (by decide) s c h1 h2 h3)

@[simp] theorem State.log0_stamp (s : State) (code aux : Nat) : (s.log0 code aux).stamp = s.stamp := by simp [State.stamp]

theorem Fld.key_ne_of_id {F G : Fld} (hF : F.id < 4096) (hG : G.id < 4096) (h : F.id ≠ G.id) (i j : Nat) :
    F.key i ≠ G.key j := by
  unfold Fld.key
  omega

theorem stamp_foldl {α : Type} {f : State → α → State} (l : List α) (hf : ∀ s, ∀ a ∈ l, (f s a).stamp = s.stamp) (s : State) :
    (l.foldl f s).stamp = s.stamp := by
  induction l generalizing s with
  | nil => rfl
  | cons a l ih =>
    rw [List.foldl_cons, ih fun s b hb => hf s b (List.mem_cons_of_mem _ hb), hf s a (List.mem_cons_self ..)]

/-! ### A write of a register leaves it (its field is read-only) -/

theorem State.writeFld_stamp (s : State) {F : Fld} (h : F.id < 4096) (hro : F.id = CLK_TIMESTAMP.TS.id → F.acc = .ro)
    (i v : Nat) : (s.writeFld F i v).stamp = s.stamp := by
  by_cases hid : F.id = CLK_TIMESTAMP.TS.id
  · unfold State.writeFld
    rw [hro hid]
  · have hk := Fld.key_ne_of_id (F := CLK_TIMESTAMP.TS) (by decide) h (Ne.symm hid) 0 i
    unfold State.writeFld
    dsimp only
    (repeat' split)
    · exact s.setF_stamp hk _
    · rfl
    · exact s.setF_stamp hk _
    · rfl

theorem State.writeReg_stamp (s : State) {b : Blk} {r : RegDesc} (hb : r ∈ b.regs) (i v m : Nat) :
    (s.writeReg r i v m).stamp = s.stamp := by
  have hro : ∀ b : Blk, ∀ r ∈ b.regs, ∀ F ∈ r.fields, F.id < 4096 ∧ (F.id = CLK_TIMESTAMP.TS.id → F.acc = .ro) := by
    intro b
    cases b <;> decide
  refine stamp_foldl _ (fun s F hF => ?_) s
  obtain ⟨hlt, hacc⟩ := hro b r hb F hF
  dsimp only
  split
  · rfl
  · exact s.writeFld_stamp hlt hacc _ _

theorem State.writeBlk_stamp (s : State) (agent : Agent) {b : Blk} {r : RegDesc} (hb : r ∈ b.regs) (off i v m : Nat) :
    (s.writeBlk agent b off r i v m).stamp = s.stamp := by
  have hr : b ≠ .CLK → ∀ F ∈ r.fields, clkPart (.blk F.blk) = false := fun hn F hF => by
    rw [b.fields_blk F (List.mem_flatMap.mpr ⟨r, hb, hF⟩)]
    simpa [clkPart] using hn
  cases b
  case HDL => rfl
  case CLK | FURG | GRNG | SOW | SWTL => exact s.writeReg_stamp hb i v m
  case PWR | BT | FUR | GRN | DRL | HRW | BND | HST | YK | SWT | GLN | TLY | RV =>
    have hfields := hr (by decide)
    simp [State.stamp, State.writeBlk, State.writePwr_keep (hr := hfields), State.writeBt_keep (hr := hfields),
      State.writeFur_keep (hr := hfields), State.writeGrn_keep (hr := hfields),
      State.writeDrl_keep (hr := hfields), State.writeHrw_keep (hr := hfields),
      State.writeBnd_keep (hr := hfields), State.writeHst_keep (hr := hfields),
      State.writeYk_keep (hr := hfields), State.writeSwt_keep (hr := hfields),
      State.writeGln_keep (hr := hfields), State.writeTly_keep (hr := hfields),
      State.writeRv_keep (hr := hfields)]

@[simp] theorem State.writeWord_stamp (s : State) (agent : Agent) (b : Blk) (win off v : Nat) :
    (s.writeWord agent b win off v).stamp = s.stamp := by
  unfold State.writeWord
  split
  · rfl
  next h => exact s.writeBlk_stamp agent (Blk.locate_mem h) _ _ _ _

@[simp] theorem State.writeDouble_stamp (s : State) (agent : Agent) (b : Blk) (win off v : Nat) :
    (s.writeDouble agent b win off v).stamp = s.stamp := by
  unfold State.writeDouble
  (repeat' split)
  next h _ => exact s.writeBlk_stamp agent (Blk.locate_mem h) _ _ _ _
  all_goals rw [State.writeWord_stamp, State.writeWord_stamp]

@[simp] theorem State.writeDev_stamp (s : State) (agent : Agent) (pa : Nat) (wide : Bool) (v : Nat) :
    (s.writeDev agent pa wide v).stamp = s.stamp := by
  unfold State.writeDev
  split
  · refine stamp_foldl _ (fun s w _ => ?_) s
    split
    · exact s.writeDouble_stamp ..
    · exact s.writeWord_stamp ..
  · rfl

/-- The state in an answer with a value. -/
theorem stamp_of_pair {α : Type} {s t : State} {x : α × State} {a : α} (h : x = (a, t)) (hx : x.2.stamp = s.stamp) :
    t.stamp = s.stamp := by
  rw [h] at hx
  exact hx

/-! ### Nor does what leads to such a write -/

@[simp] theorem State.barWrite_stamp (s : State) (p : Plot) (off : Nat) (wide : Bool) (v : Nat) :
    (s.barWrite p off wide v).stamp = s.stamp := by
  unfold State.barWrite
  split
  · exact s.writeDev_stamp ..
  · simp (disch := decide) [State.stamp]
  · rfl

@[simp] theorem State.agentWrite_stamp (s : State) (agent : Agent) (pa : Nat) (wide : Bool) (v : Nat) :
    (s.agentWrite agent pa wide v).stamp = s.stamp := by
  unfold State.agentWrite
  (repeat' split) <;> simp (disch := decide) [State.stamp]

@[simp] theorem State.storeLands_stamp (s : State) (h : Nat) (x : Posted) : (s.storeLands h x).stamp = s.stamp := by
  unfold State.storeLands
  dsimp only
  (repeat' split) <;> simp (disch := decide) [State.stamp]
  all_goals exact stamp_of_pair ‹_› (by simp (disch := decide) [State.stamp])

@[simp] theorem State.postedGoes_stamp (s : State) (h k : Nat) (x : Posted) : (s.postedGoes h k x).stamp = s.stamp := by
  unfold State.postedGoes
  (repeat' split) <;> simp (disch := decide) [State.stamp]

@[simp] theorem State.tapWrite_stamp (s : State) (pa n v : Nat) : (s.tapWrite pa n v).2.stamp = s.stamp := by
  unfold State.tapWrite
  dsimp only
  (repeat' split) <;> simp (disch := decide) [State.stamp]

@[simp] theorem State.tapGoes_stamp (s : State) : s.tapGoes.stamp = s.stamp := by
  unfold State.tapGoes
  dsimp only
  (repeat' split) <;> simp (disch := decide) [State.stamp]
  all_goals exact stamp_of_pair ‹_› (by simp (disch := decide) [State.stamp])

@[simp] theorem State.serveOne_stamp (s : State) (c : Nat) (x : Held) : (s.serveOne c x).stamp = s.stamp := by
  unfold State.serveOne
  (repeat' split) <;> simp (disch := decide) [State.stamp]
  all_goals exact stamp_of_pair ‹_› (by simp (disch := decide) [State.stamp])

@[simp] theorem State.serveHeld_stamp (s : State) (c : Nat) : (s.serveHeld c).stamp = s.stamp := by
  have hset : ∀ (u : State) (q : TillSeq), (u.setSeq c q).stamp = u.stamp := fun u q => by
    simp (disch := decide) [State.stamp]
  unfold State.serveHeld
  dsimp only
  rw [hset, stamp_foldl _ fun s x _ => s.serveOne_stamp c x, hset]

@[simp] theorem State.serveEnded_stamp (s : State) (e : Nat) : (s.serveEnded e).stamp = s.stamp := by
  unfold State.serveEnded
  split
  · rfl
  · exact s.serveHeld_stamp _

theorem State.withRes_stamp (s : State) (r : MemRes) {f : State → State} (hf : ∀ t, (f t).stamp = t.stamp) :
    (s.withRes r f).stamp = s.stamp := by
  have h1 : (s.withRes r f).stamp = (f { s with res := r }).stamp := rfl
  rw [h1, hf]
  rfl

/-! ### The commands whose parts hold the clock registers -/

/-- What an outcome answers has the timestamp of `s`. -/
def Untimed (s : State) (o : Out) : Prop := ∀ t, o = .next t → t.stamp = s.stamp

@[simp] theorem untimed_next (s t : State) : Untimed s (.next t) ↔ t.stamp = s.stamp :=
  ⟨fun h => h t rfl, fun h _ e => by cases e; exact h⟩

theorem execEndReport_untimed (e : Fin 4096) (res : MemRes) (s : State) : Untimed s (execEndReport e res s) := by
  unfold execEndReport
  rw [untimed_next]
  refine s.withRes_stamp _ fun t => ?_
  have h : ((t.serveEnded e).takeEnd e).stamp = (t.serveEnded e).stamp := by simp (disch := decide) [State.stamp]
  rw [h, State.serveEnded_stamp]

theorem execDebugAccessDone_untimed (res : MemRes) (s : State) : Untimed s (execDebugAccessDone res s) := by
  unfold execDebugAccessDone
  rw [untimed_next]
  exact s.withRes_stamp _ fun t => t.tapGoes_stamp

theorem execMemoryTransactionComplete_untimed (h : Tid) (res : MemRes) (s : State) :
    Untimed s (execMemoryTransactionComplete h res s) := by
  unfold execMemoryTransactionComplete
  rw [untimed_next]
  dsimp only
  (repeat' split) <;> simp (disch := decide) [State.stamp]

theorem execYield_untimed (c : Chan) (res : MemRes) (s : State) : Untimed s (execYield c res s) := by
  have hgo : ∀ (u : State) (pc : Nat), (u.tillGo c pc).stamp = u.stamp ∧ (u.yieldSlots c).stamp = u.stamp := fun u pc => by
    constructor <;> simp (disch := decide) [State.stamp]
  unfold execYield State.tillInstr
  rw [untimed_next]
  split
  · rfl
  · dsimp only
    refine (State.withRes_stamp _ _ fun t => ?_).trans (by simp (disch := decide) [State.stamp])
    rw [(hgo _ _).1]
    (repeat' split) <;> simp (disch := decide) [State.stamp]

theorem State.barAccess_stamp (s : State) (p off : Nat) (wide isRead : Bool) {f : State → State}
    (hf : ∀ t, (f t).stamp = t.stamp) : (s.barAccess p off wide isRead f).stamp = s.stamp := by
  unfold State.barAccess
  dsimp only
  (repeat' split) <;> simp (disch := decide) [State.stamp, hf]

theorem execRegisterWrite_untimed (target : RegTarget) (wide : Bool) (v : BitVec 64) (s : State) :
    Untimed s (execRegisterWrite target wide v s) := by
  unfold execRegisterWrite
  rw [untimed_next]
  cases target
  case device agent pa =>
    dsimp only
    (repeat' split) <;> simp
  case bar0 p off => exact s.barAccess_stamp _ _ _ _ fun t => t.barWrite_stamp ..
  case bar2 off =>
    refine s.barAccess_stamp _ _ _ _ fun t => ?_
    split
    · exact t.writeDev_stamp ..
    · rfl
  case readBar0 p off =>
    refine s.barAccess_stamp _ _ _ _ fun t => ?_
    simp (disch := decide) [State.stamp]
  case readBar2 off =>
    refine s.barAccess_stamp _ _ _ _ fun t => ?_
    split <;> simp (disch := decide) [State.stamp]
  all_goals
    dsimp only
    (repeat' split) <;> simp (disch := decide) [State.stamp]

end Sys2Proof.Machine
end

section
/-! PROOF. What a package reset leaves: the parts that it clears and keeps, and the register fields (Tables 2-3 and
2-4). -/

namespace Sys2Proof.Machine

/-! ### Fields of other blocks -/

/-- A field of a block that an operation keeps. -/
theorem f_of_only {s t : State} {F : Fld} {b : Blk} (hF : F.blk = b)
    (e : t.keep (Facet.only (.blk b)) = s.keep (Facet.only (.blk b))) (i : Nat) : t.f F i = s.f F i :=
  f_of_keep e (by rw [hF]; exact Facet.only_self _) i

theorem on_of_only {s t : State} {F : Fld} {b : Blk} (hF : F.blk = b)
    (e : t.keep (Facet.only (.blk b)) = s.keep (Facet.only (.blk b))) (i : Nat) : t.on F i = s.on F i := by
  unfold State.on
  rw [f_of_only hF e]

/-- A field of one of the blocks that are reset one after the other. -/
theorem State.f_resetBlks {b : Blk} {F : Fld} (hF : F ∈ b.fields) (i : Nat) :
    ∀ (bs : List Blk) (s : State), b ∈ bs → (bs.foldl (fun s b => s.resetBlk b) s).f F i = F.rst := by
  intro bs
  induction bs with
  | nil => exact fun s hb => by cases hb
  | cons c bs ih =>
    intro s hb
    rw [List.foldl_cons]
    by_cases hr : b ∈ bs
    · exact ih _ hr
    · have hbc : b = c := (List.mem_cons.mp hb).resolve_right hr
      subst hbc
      rw [f_of_only (b.fields_blk F hF) (foldl_keep_mem bs (fun s c hc => State.resetBlk_keep s c ?_) _) i]
      · exact s.f_resetBlk_mem hF i
      · exact Facet.only_ne fun e => hr (by cases e; exact hc)

/-! ### Stacks in self-refresh -/

theorem Fld.key_inj {F : Fld} {i j : Nat} (h : F.key i = F.key j) : i = j := by
  unfold Fld.key at h
  omega

/-- A one-bit field after a pass over a list of its places. -/
theorem foldl_setOn_on {F : Fld} (hw : F.width = 1) (b : Bool) (l : List Nat) (s : State) (c : Nat) :
    (l.foldl (fun s c => s.setOn F c b) s).on F c = if c ∈ l then b else s.on F c := by
  induction l generalizing s with
  | nil => rfl
  | cons a l ih =>
    rw [List.foldl_cons, ih]
    by_cases hl : c ∈ l
    · rw [if_pos hl, if_pos (List.mem_cons_of_mem _ hl)]
    · rw [if_neg hl]
      by_cases hca : c = a
      · subst hca
        rw [if_pos (List.mem_cons_self ..), State.on_setOn_self _ hw]
      · rw [if_neg fun h => (List.mem_cons.mp h).elim hca hl, State.on_setOn_ne _ fun e => hca (Fld.key_inj e)]

theorem State.selfRefresh_on (s : State) {c : Nat} (hc : c < 96) : s.selfRefresh.on GRN_STATE.SELFREF c = true := by
  unfold State.selfRefresh
  rw [foldl_setOn_on rfl, if_pos (show c ∈ allChans from List.mem_range.mpr hc)]

theorem foldl_setOn_f {F G : Fld} (hG : G.id < 4096) (hF : F.id < 4096) (hne : G.id ≠ F.id) (b : Bool) (l : List Nat)
    (s : State) (i : Nat) : (l.foldl (fun s c => s.setOn F c b) s).f G i = s.f G i := by
  induction l generalizing s with
  | nil => rfl
  | cons a l ih =>
    rw [List.foldl_cons, ih]
    exact State.f_setF_ne _ (Fld.key_ne_of_id hG hF hne _ _) _

/-! ### The package reset -/

@[simp] theorem State.packageClear_threads (s : State) : s.packageClear.threads = [] := rfl
@[simp] theorem State.packageClear_caches (s : State) : s.packageClear.caches = {} := rfl
@[simp] theorem State.packageClear_drill (s : State) : s.packageClear.drill = {} := rfl
@[simp] theorem State.packageClear_loops (s : State) : s.packageClear.loops = [] := rfl
@[simp] theorem State.packageClear_host (s : State) : s.packageClear.host = {} := rfl
@[simp] theorem State.packageClear_links (s : State) : s.packageClear.links = [] := rfl
@[simp] theorem State.packageClear_mem (s : State) : s.packageClear.granary.mem = s.granary.mem := rfl

/-- The blocks whose every field a package reset takes to its reset value. -/
def clearedBlks : List Blk := [.BT, .FURG, .GRNG, .FUR, .DRL, .SOW, .HRW, .BND, .HST, .YK, .SWT, .SWTL, .GLN, .TLY]

/-- The register fields of a package reset, before LEAD is put back and the epochs are drawn. -/
def State.regsCleared (s : State) : State :=
  ((clearedBlks.foldl (fun s b => s.resetBlk b) s).resetFields (Blk.GRN.fields.filter fun F => !grnKept.contains F)).resetFields
    [PWR_WDOG_CFG.PERIOD, PWR_WDOG_CFG.EN]

theorem State.packageClear_f (s : State) {F : Fld} (hyk : F.blk ≠ .YK) (hswt : F.blk ≠ .SWT) (i : Nat) :
    s.packageClear.f F i = s.regsCleared.f F i := by
  have hb : ∀ G : Fld, F.blk ≠ G.blk → Facet.only (.blk F.blk) (.blk G.blk) = false := fun G h =>
    Facet.only_ne fun e => h (Facet.blk.inj e).symm
  unfold State.packageClear
  refine (f_of_only rfl (State.newEpochs_keep (hb SWT_EPOCH.EPOCH hswt) ?_ ?_ _) i).trans ?_
  · exact Facet.only_ne (by simp)
  · exact Facet.only_ne (by simp)
  · refine (f_of_only rfl (State.setOn_keep _ _ (hb YK_STATUS.LEAD hyk) _ _) i).trans ?_
    rfl

/-- The blocks of the Field die and of the host are at their reset values. -/
theorem State.packageClear_f_rst (s : State) {b : Blk} (hb : b ∈ [Blk.DRL, .SOW, .HRW, .BND, .HST]) {F : Fld}
    (hF : F ∈ b.fields) (i : Nat) : s.packageClear.f F i = F.rst := by
  have hblk := b.fields_blk F hF
  have hne : b ≠ .YK ∧ b ≠ .SWT ∧ b ≠ .GRN ∧ b ≠ .PWR ∧ b ∈ clearedBlks := by
    revert hb
    cases b <;> decide
  obtain ⟨hyk, hswt, hgrn, hpwr, hmem⟩ := hne
  rw [s.packageClear_f (hblk ▸ hyk) (hblk ▸ hswt)]
  unfold State.regsCleared
  rw [f_of_only hblk (State.resetFields_keep _ _ ?_), f_of_only hblk (State.resetFields_keep _ _ ?_)]
  · exact State.f_resetBlks hF i _ _ hmem
  · intro G hG
    rw [Blk.fields_blk .GRN G (List.mem_filter.mp hG).1]
    exact Facet.only_ne fun e => hgrn (by cases e; rfl)
  · intro G hG
    have hG' : G.blk = .PWR := by
      revert G
      decide
    rw [hG']
    exact Facet.only_ne fun e => hpwr (by cases e; rfl)

/-- PWR_'s causes and count stay. -/
theorem State.packageClear_f_pwr (s : State) {F : Fld} (hF : F.blk = .PWR) (hid : F.id < 4096)
    (hp : F.id ≠ PWR_WDOG_CFG.PERIOD.id) (he : F.id ≠ PWR_WDOG_CFG.EN.id) (i : Nat) : s.packageClear.f F i = s.f F i := by
  have hb : ∀ b : Blk, b ≠ .PWR → Facet.only (.blk .PWR) (.blk b) = false := fun b h =>
    Facet.only_ne fun e => h (Facet.blk.inj e)
  rw [s.packageClear_f (by rw [hF]; decide) (by rw [hF]; decide)]
  unfold State.regsCleared
  rw [State.f_resetFields_ne _ ?_ hid, f_of_only hF (State.resetFields_keep _ _ ?_), f_of_only hF (foldl_keep_mem _ ?_ _)]
  · intro s b hbm
    refine State.resetBlk_keep s b (hb b ?_)
    rintro rfl
    revert hbm
    decide
  · intro G hG
    rw [Blk.fields_blk .GRN G (List.mem_filter.mp hG).1]
    exact hb _ (by decide)
  · intro G hG
    rcases List.mem_cons.mp hG with rfl | hG
    · exact hp.symm
    · rcases List.mem_singleton.mp hG with rfl
      exact he.symm

/-- The controllers' modes go to their reset value. -/
theorem State.packageClear_f_grn (s : State) {F : Fld} (hF : F ∈ Blk.GRN.fields) (hk : grnKept.contains F = false) (i : Nat) :
    s.packageClear.f F i = F.rst := by
  have hblk := Blk.fields_blk .GRN F hF
  rw [s.packageClear_f (by rw [hblk]; decide) (by rw [hblk]; decide)]
  unfold State.regsCleared
  rw [f_of_only hblk (State.resetFields_keep _ _ ?_)]
  · refine State.f_resetFields_mem _ (List.mem_filter.mpr ⟨hF, ?_⟩) (Blk.fields_id_lt .GRN F hF) i
    rw [hk]
    rfl
  · intro G hG
    have hG' : G.blk = .PWR := by
      revert G
      decide
    rw [hG']
    exact Facet.only_ne (by decide)

theorem State.packageClear_lead (s : State) : s.packageClear.on YK_STATUS.LEAD 0 = s.on YK_STATUS.LEAD 0 := by
  unfold State.packageClear
  refine (on_of_only rfl (State.newEpochs_keep ?_ ?_ ?_ _) 0).trans (State.on_setOn_self _ rfl _ _)
  all_goals exact Facet.only_ne (by decide)

/-! ### A package reset with its cause -/

theorem State.packageReset_absorbed {s : State} (h : s.inReset = true) (cause : Fld) :
    s.packageReset cause = s.setOn cause 0 true := by
  have h' : (s.setOn cause 0 true).inReset = true := h
  unfold State.packageReset
  rw [if_pos h']

theorem State.packageReset_eq {s : State} (h : s.inReset = false) (cause : Fld) :
    s.packageReset cause = ((((s.setOn cause 0 true).bump PWR_RESET_COUNT.COUNT 0).packageClear.selfRefresh).log0 0x0002
      ((((s.setOn cause 0 true).bump PWR_RESET_COUNT.COUNT 0).packageClear.selfRefresh).regAt .PWR 0x4 0)) := by
  have h' : ¬(s.setOn cause 0 true).inReset = true := by
    rw [show (s.setOn cause 0 true).inReset = s.inReset from rfl, h]
    decide
  unfold State.packageReset
  rw [if_neg h']

/-- The causes of the package resets by request. -/
def resetCauses : List Fld :=
  [PWR_RESET_CAUSE.WARM_PIN, PWR_RESET_CAUSE.SOFT, PWR_RESET_CAUSE.DRILL_WDOG]

/-- A package reset outside a containing one (R38, R40, R42, R46). -/
structure State.Reset (s u : State) (cause : Fld) : Prop where
  cause : u.on cause 0 = true
  count : u.f PWR_RESET_COUNT.COUNT 0 =
    min (s.f PWR_RESET_COUNT.COUNT 0 + 1) (max (s.f PWR_RESET_COUNT.COUNT 0) (2 ^ 32 - 1))
  threads : u.threads = []
  caches : u.caches = {}
  drill : u.drill = {}
  loops : u.loops = []
  host : u.host = {}
  links : u.links = []
  mem : u.granary.mem = s.granary.mem
  now : u.now = s.now
  isl : u.isl = s.isl
  lead : u.on YK_STATUS.LEAD 0 = s.on YK_STATUS.LEAD 0
  channels : ∀ c, c < 96 → u.on GRN_STATE.SELFREF c = true ∧ u.f GRN_STATE.MODE c = 0
  fields : ∀ F ∈ Blk.DRL.fields ++ Blk.SOW.fields ++ Blk.HRW.fields ++ Blk.BND.fields ++ Blk.HST.fields, ∀ i, u.f F i = F.rst

theorem State.f_bump_self (s : State) {F : Fld} {w : Nat} (hw : F.width = w) (i : Nat) :
    (s.bump F i).f F i = min (s.f F i + 1) (max (s.f F i) (2 ^ w - 1)) := by
  unfold State.bump
  rw [hw]
  split
  · rw [State.f_setF_self, hw, Nat.mod_eq_of_lt ‹_›]
    omega
  · omega

theorem State.f_bump_ne (s : State) {F G : Fld} {i j : Nat} (h : G.key j ≠ F.key i) : (s.bump F i).f G j = s.f G j := by
  unfold State.bump
  split
  · exact State.f_setF_ne _ h _
  · rfl

theorem State.packageReset_resets {s : State} (h : s.inReset = false) {cause : Fld} (hc : cause ∈ resetCauses) :
    s.Reset (s.packageReset cause) cause := by
  have hcause : cause.blk = .PWR ∧ cause.id < 4096 ∧ cause.id ≠ PWR_WDOG_CFG.PERIOD.id ∧ cause.id ≠ PWR_WDOG_CFG.EN.id ∧
      cause.width = 1 ∧ cause.id ≠ PWR_RESET_COUNT.COUNT.id := by
    revert cause
    decide
  obtain ⟨hblk, hid, hper, hen, hw, hcnt⟩ := hcause
  rw [State.packageReset_eq h]
  generalize (State.regAt _ .PWR 0x4 0) = aux
  generalize hx : (s.setOn cause 0 true).bump PWR_RESET_COUNT.COUNT 0 = x
  have hk : ∀ p, p ≠ .blk .RV → p ≠ .reeve → p ≠ .blk .GRN →
      (x.packageClear.selfRefresh.log0 0x0002 aux).keep (Facet.only p) = x.packageClear.keep (Facet.only p) :=
    fun p h1 h2 h3 => (State.log0_keep (Facet.only_ne h1.symm) (Facet.only_ne h2.symm) _ _ _).trans
      (State.selfRefresh_keep (Facet.only_ne h3.symm) _)
  have hs : ∀ p, p ≠ .blk .PWR → x.keep (Facet.only p) = s.keep (Facet.only p) := fun p hp => by
    have hpwr : Facet.only p (.blk .PWR) = false := Facet.only_ne hp.symm
    rw [← hx, State.bump_keep _ _ hpwr, State.setOn_keep _ _ (by rw [hblk]; exact hpwr)]
  have hlog : ∀ F : Fld, F.blk = .GRN → ∀ c, (x.packageClear.selfRefresh.log0 0x0002 aux).f F c =
      x.packageClear.selfRefresh.f F c := fun F hF c =>
    f_of_only hF (State.log0_keep (Facet.only_ne (by decide)) (Facet.only_ne (by decide)) _ _ _) c
  constructor
  case cause =>
    rw [on_of_only hblk (hk _ (by decide) (by decide) (by decide)), State.on, x.packageClear_f_pwr hblk hid hper hen, ← hx,
      State.f_bump_ne _ (Fld.key_ne_of_id hid (by decide) hcnt _ _)]
    exact State.on_setOn_self _ hw _ _
  case count =>
    rw [f_of_only rfl (hk _ (by decide) (by decide) (by decide)), x.packageClear_f_pwr rfl (by decide) (by decide) (by decide),
      ← hx, State.f_bump_self _ (w := 32) rfl, State.setOn,
      State.f_setF_ne _ (Fld.key_ne_of_id (by decide) hid (Ne.symm hcnt) _ _)]
  case threads => rw [threads_of_keep (hk .threads (by decide) (by decide) (by decide)) rfl, State.packageClear_threads]
  case caches => rw [caches_of_keep (hk .caches (by decide) (by decide) (by decide)) rfl, State.packageClear_caches]
  case drill => rw [drill_of_keep (hk .drill (by decide) (by decide) (by decide)) rfl, State.packageClear_drill]
  case loops => rw [loops_of_keep (hk .loops (by decide) (by decide) (by decide)) rfl, State.packageClear_loops]
  case host => rw [host_of_keep (hk .host (by decide) (by decide) (by decide)) rfl, State.packageClear_host]
  case links => rw [links_of_keep (hk .links (by decide) (by decide) (by decide)) rfl, State.packageClear_links]
  case mem =>
    rw [mem_of_keep (hk .mem (by decide) (by decide) (by decide)) rfl, State.packageClear_mem,
      mem_of_keep (hs .mem (by decide)) rfl]
  case now =>
    have hclk : x.packageClear.keep (Facet.only (.blk .CLK)) = x.keep (Facet.only (.blk .CLK)) := by simp (disch := decide)
    exact f_of_only (F := CLK_TIMESTAMP.TS) rfl (((hk _ (by decide) (by decide) (by decide)).trans hclk).trans (hs _ (by decide))) 0
  case isl =>
    have hisl : x.packageClear.keep (Facet.only .isl) = x.keep (Facet.only .isl) := by simp (disch := decide)
    exact isl_of_keep (((hk _ (by decide) (by decide) (by decide)).trans hisl).trans (hs _ (by decide))) rfl
  case lead =>
    rw [on_of_only rfl (hk _ (by decide) (by decide) (by decide)), State.packageClear_lead]
    exact on_of_only rfl (hs _ (by decide)) 0
  case channels =>
    refine fun c hc96 => ⟨?_, ?_⟩
    · rw [State.on, hlog _ rfl]
      exact State.selfRefresh_on _ hc96
    · rw [hlog _ rfl]
      unfold State.selfRefresh
      rw [foldl_setOn_f (by decide) (by decide) (by decide), State.packageClear_f_grn _ (by decide) (by decide)]
      rfl
  case fields =>
    intro F hF i
    obtain ⟨b, hb, hFb⟩ : ∃ b ∈ [Blk.DRL, .SOW, .HRW, .BND, .HST], F ∈ b.fields := by
      simp only [List.mem_append] at hF
      rcases hF with (((hF | hF) | hF) | hF) | hF
      · exact ⟨_, by decide, hF⟩
      · exact ⟨_, by decide, hF⟩
      · exact ⟨_, by decide, hF⟩
      · exact ⟨_, by decide, hF⟩
      · exact ⟨_, by decide, hF⟩
    have hne : b ≠ .RV ∧ b ≠ .GRN := by
      revert hb
      cases b <;> decide
    rw [f_of_only (b.fields_blk F hFb) (hk _ (fun e => hne.1 (Facet.blk.inj e)) (by simp) fun e => hne.2 (Facet.blk.inj e))]
    exact x.packageClear_f_rst hb hFb i

end Sys2Proof.Machine
end

section
/-! PROOF. Timestamp, loss of REFCLK, the root PLL and the clock windows. -/

namespace Sys2Proof.Machine

/-! ### The tick -/

theorem State.tick_live {s : State} (hr : s.clk.refclk = true) (hp : s.clk.porstHeld = false) :
    s.tick.now = (s.now + 1) % 2 ^ 64 := by
  have hlive : s.live = true := by simp [State.live, hr, hp]
  have hset : (s.setF CLK_TIMESTAMP.TS 0 (s.now + 1)).stamp = (s.now + 1) % 2 ^ 64 := by
    rw [State.stamp_eq]
    exact State.f_setF_self ..
  rw [← State.stamp_eq, ← hset]
  unfold State.tick
  rw [hlive]
  generalize s.setF CLK_TIMESTAMP.TS 0 (s.now + 1) = u
  simp only [Bool.not_true, Bool.false_eq_true, if_false]
  generalize hw : (if u.f RV_THROT.DUTY 0 < 64 then u.setF RV_THROTTIME.COUNT 0 (u.f RV_THROTTIME.COUNT 0 + 1) else u) = w
  have hws : w.stamp = u.stamp := by
    subst hw
    split
    · exact u.setF_stamp (by decide) _
    · rfl
  rw [← hws]
  split
  · rfl
  · simp [State.stamp]

theorem State.tick_stands {s : State} (h : s.clk.refclk = false ∨ s.clk.porstHeld = true) : s.tick = s := by
  have hlive : s.live = false := by rcases h with h | h <;> simp [State.live, h]
  unfold State.tick
  rw [hlive]
  rfl

/-! ### No command but a power-on reset changes it -/

theorem execRefclkLoss_untimed (s : State) : Untimed s (execRefclkLoss s) := by
  refine (untimed_next _ _).mpr ((State.setF_stamp _ (by decide) _).trans ?_)
  rfl

theorem State.porRelease_stamp (s : State) : s.porRelease.stamp = s.stamp := by
  have h : ∀ u : State, ((u.setOn CLK_STATUS.ROOT_LOCK 0 true).newEpochs.log0 0x0001 0).stamp = u.stamp := fun u => by
    have hk : ((u.setOn CLK_STATUS.ROOT_LOCK 0 true).newEpochs.log0 0x0001 0).stamp =
        (u.setOn CLK_STATUS.ROOT_LOCK 0 true).stamp := by simp (disch := decide) [State.stamp]
    rw [hk]
    exact u.setF_stamp (by decide) _
  unfold State.porRelease
  split
  · rfl
  · exact h _

theorem execRefclkReturn_untimed (s : State) : Untimed s (execRefclkReturn s) :=
  (untimed_next _ _).mpr (State.porRelease_stamp _)

theorem execPorstNRelease_untimed (lead : Bool) (flash : Option FlashDevice) (s : State) :
    Untimed s (execPorstNRelease lead flash s) := by
  unfold execPorstNRelease
  rw [untimed_next]
  split
  · rfl
  · dsimp only
    rw [State.porRelease_stamp, State.stamp, State.setOn_keep _ _ (by decide)]
    cases flash <;> rfl

theorem execRootUnlock_untimed (s : State) : Untimed s (execRootUnlock s) := by
  have hclear : ∀ u : State, u.packageClear.selfRefresh.stamp = u.stamp := fun u => by simp [State.stamp]
  unfold execRootUnlock
  rw [untimed_next]
  split
  · rfl
  · refine (State.log0_stamp _ _ _).trans ((State.clk_stamp _ _ rfl rfl rfl).trans ((hclear _).trans ?_))
    rw [State.setOn_stamp _ (by decide), State.setOn_stamp _ (by decide), State.setOn_stamp _ (by decide)]

theorem execRootClock_untimed (s : State) : Untimed s (execRootClock s) := by
  unfold execRootClock
  rw [untimed_next]
  split
  · rfl
  · refine (State.log0_stamp _ _ _).trans ?_
    rw [State.stamp, State.bump_keep _ _ (by decide), State.setOn_keep _ _ (by decide)]
    refine (State.clk_stamp _ _ rfl rfl rfl).trans ?_
    refine (State.setOn_stamp _ (by decide) _).trans (State.setOn_stamp _ (by decide) _)

theorem execClockWindow_untimed (ref root : Nat) (s : State) : Untimed s (execClockWindow ref root s) := by
  have hisl : (s.islandWindow ref root).stamp = s.stamp := by
    unfold State.islandWindow
    dsimp only
    split <;> simp [State.stamp]
  rw [execClockWindow_eq, untimed_next, ← hisl]
  generalize s.islandWindow ref root = u
  unfold State.headlandWindow
  split
  · rfl
  · have hok : ({ u with clk := { u.clk with refBad := badRun u.clk.refBad (badCount ref) } }.setOn CLK_STATUS.REFCLK_OK 0
        (!badCount ref)).stamp = u.stamp := (State.setOn_stamp _ (by decide) _).trans (State.clk_stamp _ _ rfl rfl rfl)
    dsimp only
    split
    · exact (State.setOn_stamp _ (by decide) _).trans hok
    · exact hok

theorem exec_now {i : Instr} {s t : State} (ht : exec i s = .next t) (hpor : i ≠ .powerOnReset)
    (hsup : ∀ r l, i ≠ .supplySample r l) : t.now = s.now := by
  have hparts : (partsOf i).contains (.blk .CLK) = false → t.now = s.now := fun h =>
    f_of_keep (F := CLK_TIMESTAMP.TS) (m := outside (partsOf i)) (keepsBut_of_exec ht)
      (show (!(partsOf i).contains (.blk .CLK)) = true by rw [h]; rfl) 0
  rw [← State.stamp_eq, ← State.stamp_eq] at hparts ⊢
  cases i
  case powerOnReset => exact absurd rfl hpor
  case supplySample r l => exact absurd rfl (hsup r l)
  case refclkLoss => exact execRefclkLoss_untimed s t ht
  case rootUnlock => exact execRootUnlock_untimed s t ht
  case rootClock => exact execRootClock_untimed s t ht
  case clockWindow ref root => exact execClockWindow_untimed ref root s t ht
  case porstNRelease lead flash => exact execPorstNRelease_untimed lead flash s t ht
  case refclkReturn => exact execRefclkReturn_untimed s t ht
  case memoryTransactionComplete h res => exact execMemoryTransactionComplete_untimed h res s t ht
  case yield c res => exact execYield_untimed c res s t ht
  case debugAccessDone res => exact execDebugAccessDone_untimed res s t ht
  case registerWrite target wide v => exact execRegisterWrite_untimed target wide v s t ht
  case endReport e res => exact execEndReport_untimed e res s t ht
  all_goals exact hparts rfl

/-! ### The end of a power-on reset -/

theorem State.porRelease_waits {s : State} (h : s.clk.porstHeld = false ∨ s.clk.porstLow = true ∨
    s.clk.railOut.any porRail = true ∨ s.clk.refclk = false) : s.porRelease = s := by
  unfold State.porRelease
  rw [if_pos]
  rcases h with h | h | h | h <;> simp [h]

/-- What the end of a power-on reset leaves: the reset is over, and the root PLL has locked. -/
theorem State.porRelease_ends {s : State} (hh : s.clk.porstHeld = true) (hl : s.clk.porstLow = false)
    (hr : s.clk.railOut.any porRail = false) (hc : s.clk.refclk = true) :
    s.porRelease.clk = { s.clk with porstHeld := false } ∧ s.porRelease.on CLK_STATUS.ROOT_LOCK 0 = true := by
  have hk : ∀ (u : State) p, p ≠ .blk .SWT → p ≠ .fresh → p ≠ .yoke → p ≠ .blk .RV → p ≠ .reeve →
      (u.newEpochs.log0 0x0001 0).keep (Facet.only p) = u.keep (Facet.only p) := fun u p h1 h2 h3 h4 h5 =>
    (State.log0_keep (Facet.only_ne h4.symm) (Facet.only_ne h5.symm) _ _ _).trans
      (State.newEpochs_keep (Facet.only_ne h1.symm) (Facet.only_ne h2.symm) (Facet.only_ne h3.symm) _)
  have hclk : ∀ u : State, (u.newEpochs.log0 0x0001 0).clk = u.clk := fun u =>
    clk_of_keep (m := among [.clk, .por]) (by simp (disch := decide)) rfl rfl
  unfold State.porRelease
  rw [if_neg (by simp [hh, hl, hr, hc])]
  refine ⟨hclk _, ?_⟩
  exact (on_of_only (F := CLK_STATUS.ROOT_LOCK) rfl (hk _ _ (by decide) (by decide) (by decide) (by decide) (by decide)) 0).trans
    (State.on_setOn_self _ rfl _ _)

theorem State.porRelease_isl (s : State) : s.porRelease.isl = s.isl :=
  isl_of_keep (m := among [.isl]) (by simp (disch := decide)) rfl

theorem execRefclkReturn_ends {s : State} (hh : s.clk.porstHeld = true) (hl : s.clk.porstLow = false)
    (hr : s.clk.railOut.any porRail = false) : answers .refclkReturn s fun u =>
      u.clk.refclk = true ∧ u.clk.porstHeld = false ∧ u.on CLK_STATUS.ROOT_LOCK 0 = true ∧ u.isl = s.isl := by
  obtain ⟨hclk, hon⟩ := State.porRelease_ends (s := { s with clk := { s.clk with refclk := true } }) hh hl hr rfl
  exact ⟨_, rfl, by rw [hclk], by rw [hclk], hon, State.porRelease_isl _⟩

/-! ### The root PLL -/

/-- Root lock is lost: the status and the event of CLK_. -/
def State.rootLost (s : State) : State :=
  ((s.setOn CLK_STATUS.ROOT_LOCK 0 false).setOn CLK_STATUS.FALLBACK 0 true).setOn CLK_EVENT.ROOT_UNLOCK 0 true

/-- The root PLL holds the Field die in package reset. -/
def State.rootHolds (s : State) : State := { s with clk := { s.clk with rootHeld := true } }

theorem State.rootHolds_keep {m : Facet → Bool} (h : m .clk = false) (s : State) : s.rootHolds.keep m = s.keep m :=
  keep_clk h s _ rfl rfl rfl

theorem execRootUnlock_results {s : State} (hr : s.inReset = false) (hon : s.on CLK_STATUS.ROOT_LOCK 0 = true) :
    answers .rootUnlock s fun u =>
      u.on CLK_STATUS.ROOT_LOCK 0 = false ∧ u.on CLK_STATUS.FALLBACK 0 = true ∧ u.on CLK_EVENT.ROOT_UNLOCK 0 = true ∧
      u.clk.rootHeld = true ∧ u.threads = [] ∧ u.drill = {} ∧ u.granary.mem = s.granary.mem ∧
      ∀ c, c < 96 → u.on GRN_STATE.SELFREF c = true := by
  have hexec : exec .rootUnlock s = .next (s.rootLost.packageClear.selfRefresh.rootHolds.log0 0x0004
      (s.rootLost.packageClear.selfRefresh.regAt .CLK 0x4 0)) := by
    show execRootUnlock s = _
    unfold execRootUnlock
    simp only [hr, hon, State.rootLost, State.rootHolds, Bool.not_true, Bool.or_self, Bool.false_eq_true, if_false]
  generalize (State.regAt _ .CLK 0x4 0) = aux at hexec
  have hk : ∀ p, p ≠ .blk .RV → p ≠ .reeve → p ≠ .clk → p ≠ .blk .GRN →
      (s.rootLost.packageClear.selfRefresh.rootHolds.log0 0x0004 aux).keep (Facet.only p) =
        s.rootLost.packageClear.keep (Facet.only p) := fun p h1 h2 h3 h4 =>
    (State.log0_keep (Facet.only_ne h1.symm) (Facet.only_ne h2.symm) _ _ _).trans
      ((State.rootHolds_keep (Facet.only_ne h3.symm) _).trans (State.selfRefresh_keep (Facet.only_ne h4.symm) _))
  have hclk : s.rootLost.packageClear.keep (Facet.only (.blk .CLK)) = s.rootLost.keep (Facet.only (.blk .CLK)) := by simp
  have hon' : ∀ F : Fld, F.blk = .CLK → (s.rootLost.packageClear.selfRefresh.rootHolds.log0 0x0004 aux).on F 0 =
      s.rootLost.on F 0 := fun F hF =>
    on_of_only hF ((hk _ (by decide) (by decide) (by decide) (by decide)).trans hclk) 0
  refine ⟨_, hexec, ?_, ?_, ?_, ?_, ?_, ?_, ?_, ?_⟩
  · rw [hon' _ rfl, State.rootLost, State.on_setOn_ne _ (by decide), State.on_setOn_ne _ (by decide),
      State.on_setOn_self _ rfl]
  · rw [hon' _ rfl, State.rootLost, State.on_setOn_ne _ (by decide), State.on_setOn_self _ rfl]
  · rw [hon' _ rfl, State.rootLost, State.on_setOn_self _ rfl]
  · have hl : (s.rootLost.packageClear.selfRefresh.rootHolds.log0 0x0004 aux).clk =
        s.rootLost.packageClear.selfRefresh.rootHolds.clk :=
      clk_of_keep (m := among [.clk, .por]) (State.log0_keep rfl rfl _ _ _) rfl rfl
    rw [hl]
    rfl
  · rw [threads_of_keep (hk .threads (by decide) (by decide) (by decide) (by decide)) rfl, State.packageClear_threads]
  · rw [drill_of_keep (hk .drill (by decide) (by decide) (by decide) (by decide)) rfl, State.packageClear_drill]
  · rw [mem_of_keep (hk .mem (by decide) (by decide) (by decide) (by decide)) rfl, State.packageClear_mem]
    rfl
  · intro c hc
    rw [on_of_only (F := GRN_STATE.SELFREF) rfl ((State.log0_keep (Facet.only_ne (by decide)) (Facet.only_ne (by decide)) _ _ _).trans
      (State.rootHolds_keep (Facet.only_ne (by decide)) _)) c]
    exact State.selfRefresh_on _ hc

/-- Root lock is back: the status of CLK_, and the end of the package reset. -/
def State.rootBack (s : State) : State :=
  let s := (s.setOn CLK_STATUS.ROOT_LOCK 0 true).setOn CLK_STATUS.FALLBACK 0 false
  { s with clk := { s.clk with rootHeld := false } }

theorem State.rootBack_on (s : State) (F : Fld) :
    s.rootBack.on F 0 = ((s.setOn CLK_STATUS.ROOT_LOCK 0 true).setOn CLK_STATUS.FALLBACK 0 false).on F 0 := rfl

theorem execRootClock_results {s : State} (hh : s.clk.rootHeld = true) (hc : s.clk.refclk = true) :
    answers .rootClock s fun u =>
      u.on CLK_STATUS.ROOT_LOCK 0 = true ∧ u.on CLK_STATUS.FALLBACK 0 = false ∧ u.clk.rootHeld = false ∧
      u.on PWR_RESET_CAUSE.ROOT_CLOCK 0 = true ∧
      u.f PWR_RESET_COUNT.COUNT 0 = min (s.f PWR_RESET_COUNT.COUNT 0 + 1) (max (s.f PWR_RESET_COUNT.COUNT 0) (2 ^ 32 - 1)) := by
  have hexec : exec .rootClock s = .next (((s.rootBack.setOn PWR_RESET_CAUSE.ROOT_CLOCK 0 true).bump PWR_RESET_COUNT.COUNT
      0).log0 0x0002 (((s.rootBack.setOn PWR_RESET_CAUSE.ROOT_CLOCK 0 true).bump PWR_RESET_COUNT.COUNT 0).regAt .PWR 0x4 0)) := by
    show execRootClock s = _
    unfold execRootClock
    rw [if_neg (by simp [hh, hc])]
    rfl
  generalize (State.regAt _ .PWR 0x4 0) = aux at hexec
  have hlog : ∀ (u : State) (F : Fld), F.blk ≠ .RV → (u.log0 0x0002 aux).f F 0 = u.f F 0 := fun u F hF =>
    f_of_only rfl (State.log0_keep (Facet.only_ne fun e => hF (Facet.blk.inj e).symm) (Facet.only_ne (by simp)) _ _ _) 0
  refine ⟨_, hexec, ?_, ?_, ?_, ?_, ?_⟩
  · rw [State.on, hlog _ _ (by decide), State.f_bump_ne _ (by decide)]
    refine (State.on_setOn_ne _ (by decide) _).trans ?_
    rw [State.rootBack_on, State.on_setOn_ne _ (by decide), State.on_setOn_self _ rfl]
  · rw [State.on, hlog _ _ (by decide), State.f_bump_ne _ (by decide)]
    refine (State.on_setOn_ne _ (by decide) _).trans ?_
    rw [State.rootBack_on, State.on_setOn_self _ rfl]
  · have hl : ∀ u : State, (u.log0 0x0002 aux).clk = u.clk := fun u =>
      clk_of_keep (m := among [.clk, .por]) (State.log0_keep rfl rfl _ _ _) rfl rfl
    have hb : ∀ u : State, (u.bump PWR_RESET_COUNT.COUNT 0).clk = u.clk := fun u =>
      clk_of_keep (m := among [.clk, .por]) (State.bump_keep _ _ (by decide) _) rfl rfl
    rw [hl, hb]
    rfl
  · rw [State.on, hlog _ _ (by decide), State.f_bump_ne _ (by decide)]
    exact State.on_setOn_self _ rfl _ _
  · rw [hlog _ _ (by decide), State.f_bump_self _ (w := 32) rfl, State.setOn, State.f_setF_ne _ (by decide)]
    have hcount : s.rootBack.f PWR_RESET_COUNT.COUNT 0 = s.f PWR_RESET_COUNT.COUNT 0 :=
      (State.f_setF_ne _ (by decide) _).trans (State.f_setF_ne _ (by decide) _)
    rw [hcount]

/-! ### The clock windows -/

theorem badCount_eq (n : Nat) : badCount n = decide (n < 980 ∨ 1020 < n) := by simp [badCount]

theorem execClockWindow_results (s : State) (ref root : Nat) : answers (.clockWindow ref root) s fun u =>
      u.isl.refBad = badRun s.isl.refBad (badCount ref) ∧ u.isl.rootBad = badRun s.isl.rootBad (badCount root) ∧
      (s.clk.porstHeld = false →
        u.on CLK_STATUS.REFCLK_OK 0 = !badCount ref ∧ u.clk.refBad = badRun s.clk.refBad (badCount ref) ∧
        (u.clk.refBad = 2 → u.on CLK_EVENT.REFCLK_LOST 0 = true) ∧
        (u.clk.refBad ≠ 2 → u.on CLK_EVENT.REFCLK_LOST 0 = s.on CLK_EVENT.REFCLK_LOST 0)) := by
  have hisl : (s.islandWindow ref root).isl.refBad = badRun s.isl.refBad (badCount ref) ∧
      (s.islandWindow ref root).isl.rootBad = badRun s.isl.rootBad (badCount root) := by
    unfold State.islandWindow
    dsimp only
    split
    · unfold State.localLost
      split <;> exact ⟨rfl, rfl⟩
    · exact ⟨rfl, rfl⟩
  have hclk : (s.islandWindow ref root).clk = s.clk :=
    clk_of_keep (m := among [.clk, .por]) (by unfold State.islandWindow; dsimp only; split <;> simp (disch := decide)) rfl rfl
  have hlost : (s.islandWindow ref root).on CLK_EVENT.REFCLK_LOST 0 = s.on CLK_EVENT.REFCLK_LOST 0 :=
    on_of_only rfl (by unfold State.islandWindow; dsimp only; split <;> simp) 0
  refine ⟨_, execClockWindow_eq ref root s, ?_⟩
  generalize s.islandWindow ref root = u at hisl hclk hlost ⊢
  rw [← hclk, ← hlost, ← hisl.1, ← hisl.2]
  clear hisl hclk hlost
  unfold State.headlandWindow
  split
  next hh => exact ⟨rfl, rfl, fun h => absurd hh (by simp [h])⟩
  · dsimp only
    split
    next h2 =>
      refine ⟨rfl, rfl, fun _ => ⟨?_, rfl, fun _ => State.on_setOn_self _ rfl _ _, fun hn => absurd h2 hn⟩⟩
      exact (State.on_setOn_ne _ (by decide) _).trans (State.on_setOn_self _ rfl _ _)
    next h2 =>
      refine ⟨rfl, rfl, fun _ => ⟨State.on_setOn_self _ rfl _ _, rfl, fun h => absurd h h2, fun _ => ?_⟩⟩
      exact State.on_setOn_ne _ (by decide) _

/-- Settles O5: by the tick, the timestamp that only a power-on reset changes, and the clock commands' results. -/
theorem clockEventResults : Obligations.ClockEventResults := by
  unfold Obligations.ClockEventResults
  intro s t i ref root
  refine ⟨step_of_pending_nil, State.tick_live, State.tick_stands, exec_now, rfl, ?_, execRefclkReturn_ends,
    execRootUnlock_results, execRootClock_results, ?_⟩
  · intro hh
    exact congrArg Host.Outcome.next (State.porRelease_waits (s := { s with clk := { s.clk with refclk := true } }) (.inl hh))
  · simp only [← badCount_eq]
    exact execClockWindow_results s ref root

end Sys2Proof.Machine
end

section
/-! PROOF. The host port's reset: what it keeps of Drill and of the functions, and where it leaves their attachment. -/

namespace Sys2Proof.Machine

/-! ### What the host port's operations keep of Drill and of the functions -/

/-- The parts in which Drill's RUN and the enabled functions stand. -/
def portPart (p : Facet) : Bool := decide (p = .blk .DRL ∨ p = .host)

@[simp] theorem portPart_eq_false (p : Facet) : portPart p = false ↔ p ≠ .blk .DRL ∧ p ≠ .host := by simp [portPart]

/-- Drill runs, and the virtual functions enabled. -/
def portOf (s : State) : Bool × Bool × Nat := (s.on DRL_STATUS.RUN 0, s.host.vfEnable, s.host.numVfs)

/-- `portOf`, read through those parts alone: under it every frame lemma of an operation elsewhere applies. -/
@[reducible] def State.port (s : State) : Bool × Bool × Nat := portOf (s.keep portPart)

theorem State.port_eq (s : State) : s.port = portOf s := by
  have hk : (s.keep portPart).keep portPart = s.keep portPart := by
    simp only [State.keep, List.filter_filter, Bool.and_self]
    simp [portPart]
  have hf : (s.keep portPart).f DRL_STATUS.RUN 0 = s.f DRL_STATUS.RUN 0 := f_of_keep (m := portPart) hk rfl 0
  have hh : (s.keep portPart).host = s.host := by simp [State.keep, portPart]
  simp only [State.port, portOf, State.on, hf, hh]

@[simp] theorem portOf_ite {c : Prop} [Decidable c] (a b : State) :
    portOf (if c then a else b) = if c then portOf a else portOf b := by split <;> rfl

@[simp] theorem foldl_port {α : Type} {f : State → α → State} (hf : ∀ s a, (f s a).port = s.port) (l : List α) (s : State) :
    (l.foldl f s).port = s.port := by
  induction l generalizing s with
  | nil => rfl
  | cons a l ih => rw [List.foldl_cons, ih, hf]

@[simp] theorem State.setFn_port (s : State) (p : Nat) (r : FnRec) : (s.setFn p r).port = s.port := by
  rw [State.port_eq, State.port_eq]
  rfl

@[simp] theorem State.staleReads_port (s : State) (gone : HostUse → Bool) : (s.staleReads gone).port = s.port := by
  rw [State.port_eq, State.port_eq]
  rfl

@[simp] theorem State.setStream_port (s : State) (n : Nat) (x : Stream) : (s.setStream n x).port = s.port := by
  rw [State.port_eq, State.port_eq]
  rfl

@[simp] theorem State.dropRead_port (s : State) (tag : Nat) : (s.dropRead tag).port = s.port := by
  rw [State.port_eq, State.port_eq]
  rfl

@[simp] theorem State.hostLost_port (s : State) (q : Nat) (b : Bool) :
    (s.setOn DRL_Q_STAT.HOST_LOST q b).port = s.port := by
  have hrun : (s.setOn DRL_Q_STAT.HOST_LOST q b).on DRL_STATUS.RUN 0 = s.on DRL_STATUS.RUN 0 :=
    State.on_setOn_ne s (Fld.key_ne_of_id (by decide) (by decide) (by decide) _ _) b
  rw [State.port_eq, State.port_eq]
  unfold portOf
  rw [hrun]
  rfl

@[simp] theorem State.pauseStream_port (s : State) (n : Nat) (lost : Bool) : (s.pauseStream n lost).port = s.port := by
  unfold State.pauseStream
  dsimp only
  split
  · rfl
  · cases lost <;> (rw [apply_ite State.port]; split) <;> simp (disch := decide) [State.port]

@[simp] theorem State.detach_port (s : State) (p cause : Nat) (lost : Bool) : (s.detach p cause lost).port = s.port := by
  have hcause : ∀ u : State, (u.detachCause p cause lost).port = u.port := fun u => by
    unfold State.detachCause State.pauseStreams
    refine (foldl_port (fun v n => v.pauseStream_port n lost) _ _).trans ?_
    simp (disch := decide) [State.port]
  unfold State.detach
  dsimp only
  split
  · exact hcause s
  · rw [hcause]
    refine (foldl_port (fun v q => by simp [State.port]) _ _).trans ?_
    simp (disch := decide) [State.port]

@[simp] theorem State.hostFails_port (s : State) (r : HostRead) : (s.hostFails r).port = s.port := by
  unfold State.hostFails
  (repeat' split) <;> simp [State.port, State.fetchLost]

@[simp] theorem State.readTimesOut_port (s : State) (tag : Nat) : (s.readTimesOut tag).port = s.port := by
  unfold State.readTimesOut
  split <;> simp (disch := decide) [State.port]

/-! ### A function is detached -/

theorem State.detachCause_state (s : State) (p q cause : Nat) (lost : Bool) :
    (s.detachCause p cause lost).f HST_ATTACH.STATE q = s.f HST_ATTACH.STATE q := by
  have hk : ∀ u : State, ((u.logEvent 0x0031 noInst p cause 0 0).pauseStreams p lost).keep (Facet.only (.blk .HST)) =
      u.keep (Facet.only (.blk .HST)) := fun u => by simp (disch := decide)
  unfold State.detachCause
  rw [f_of_only (F := HST_ATTACH.STATE) rfl (hk _)]
  exact State.f_setF_ne _ (Fld.key_ne_of_id (by decide) (by decide) (by decide) _ _) _

/-- What a detach writes of HST_ once the function's state is set. -/
theorem State.detached_state (s : State) (p q mask : Nat) (r : FnRec) (gone : HostUse → Bool) (qs : List Nat)
    (f : State → Nat → QueueRec) :
    (qs.foldl (fun s q => s.setQueue q (f s q)) ((((s.setF HST_ATTACH.REBASE p mask).setOn HST_RB_CTL.BUSY p
      false).setFn p r).staleReads gone)).f HST_ATTACH.STATE q = s.f HST_ATTACH.STATE q := by
  have hk : ∀ u : State, (qs.foldl (fun s q => s.setQueue q (f s q)) ((u.setFn p r).staleReads gone)).keep
      (Facet.only (.blk .HST)) = u.keep (Facet.only (.blk .HST)) := fun u =>
    (foldl_keep (fun v q => State.setQueue_keep rfl v q _) _ _).trans
      ((State.staleReads_keep rfl _ _).trans (State.setFn_keep rfl _ _ _))
  rw [f_of_only (F := HST_ATTACH.STATE) rfl (hk _)]
  exact (State.f_setF_ne _ (Fld.key_ne_of_id (by decide) (by decide) (by decide) _ _) _).trans
    (State.f_setF_ne _ (Fld.key_ne_of_id (by decide) (by decide) (by decide) _ _) _)

theorem State.detach_state (s : State) (p q : Nat) (lost : Bool) :
    (s.detach p 1 lost).f HST_ATTACH.STATE q = if q = p then 1 else s.f HST_ATTACH.STATE q := by
  unfold State.detach
  rw [if_neg (by simp)]
  dsimp only
  rw [State.detachCause_state, State.detached_state]
  split
  next h =>
    subst h
    exact State.f_setF_self ..
  next h => exact State.f_setF_ne _ (fun e => h (Fld.key_inj e)) _

theorem foldl_detach_state (lost : Bool) (l : List Nat) (s : State) (q : Nat) :
    (l.foldl (fun s p => s.detach p 1 lost) s).f HST_ATTACH.STATE q = if q ∈ l then 1 else s.f HST_ATTACH.STATE q := by
  induction l generalizing s with
  | nil => rfl
  | cons p l ih =>
    rw [List.foldl_cons, ih, State.detach_state]
    by_cases hl : q ∈ l
    · rw [if_pos hl, if_pos (List.mem_cons_of_mem _ hl)]
    · rw [if_neg hl]
      by_cases hp : q = p
      · rw [if_pos hp, if_pos (hp ▸ List.mem_cons_self ..)]
      · rw [if_neg hp, if_neg fun h => (List.mem_cons.mp h).elim hp hl]

end Sys2Proof.Machine
end

section
/-! PROOF. Package and host-port resets: the commands that ask for one, and what each leaves. -/

namespace Sys2Proof.Machine

/-! ### Package resets by request -/

/-- A command performs a package reset with the cause `F`, and in a containing reset sets the cause alone (R40, R45). -/
structure State.AsksReset (s : State) (i : Instr) (F : Fld) : Prop where
  inside : s.inReset = true → exec i s = .next (s.setOn F 0 true)
  outside : s.inReset = false → answers i s fun u => s.Reset u F

theorem asksReset_of_exec {s : State} {i : Instr} {F : Fld} (hF : F ∈ resetCauses) (h : exec i s = .next (s.packageReset F)) :
    s.AsksReset i F :=
  ⟨fun hr => by rw [h, State.packageReset_absorbed hr], fun hr => ⟨_, h, State.packageReset_resets hr hF⟩⟩

theorem pwrReach_iff (agent : Agent) : pwrReach agent = true ↔ agent = .plot 0 ∨ agent = .reeve := by
  cases agent with
  | plot p =>
    refine ⟨fun h => .inl (congrArg Agent.plot (Fin.ext (of_decide_eq_true h))), fun h => ?_⟩
    rcases h with h | h
    · cases h
      rfl
    · cases h
  | drill => exact ⟨fun h => absurd h Bool.false_ne_true, fun h => by rcases h with h | h <;> cases h⟩
  | reeve => exact ⟨fun _ => .inr rfl, fun _ => rfl⟩
  | tap => exact ⟨fun h => absurd h Bool.false_ne_true, fun h => by rcases h with h | h <;> cases h⟩

theorem resetKey_iff (key : BitVec 16) : key.toNat = 0x4B31 ↔ key = 0x4B31 := by
  refine ⟨fun h => BitVec.eq_of_toNat_eq h, fun h => ?_⟩
  rw [h]
  rfl

theorem exec_pkg_of_not_acts {s : State} {agent : Agent} (h : s.acts agent = false) (key : BitVec 16) :
    exec (.pkg agent key) s = .next s := by
  show Host.Outcome.next (if s.acts agent then _ else s) = _
  rw [h]
  rfl

theorem exec_pkg_of_acts {s : State} {agent : Agent} (h : s.acts agent = true) (key : BitVec 16) :
    exec (.pkg agent key) s = .next (s.pkgWrite agent key.toNat) := by
  show Host.Outcome.next (if s.acts agent then _ else s) = _
  rw [if_pos h]

theorem exec_kick_of_not_acts {s : State} {agent : Agent} (h : s.acts agent = false) : exec (.kick agent) s = .next s := by
  show Host.Outcome.next (if s.acts agent then _ else s) = _
  rw [h]
  rfl

theorem exec_kick_of_acts {s : State} {agent : Agent} (h : s.acts agent = true) :
    exec (.kick agent) s = .next (s.kickWrite agent) := by
  show Host.Outcome.next (if s.acts agent then _ else s) = _
  rw [if_pos h]

theorem State.pkgWrite_reset (s : State) {agent : Agent} (h : pwrReach agent = true) :
    s.pkgWrite agent 0x4B31 = s.packageReset PWR_RESET_CAUSE.SOFT := by
  unfold State.pkgWrite
  rw [h]
  rfl

theorem State.pkgWrite_key (s : State) {agent : Agent} (h : pwrReach agent = true) {key : BitVec 16} (hk : key ≠ 0x4B31) :
    s.pkgWrite agent key.toNat = s := by
  unfold State.pkgWrite
  rw [h, if_neg fun e => hk ((resetKey_iff key).mp e)]
  rfl

theorem State.pkgWrite_dropped (s : State) {agent : Agent} (h : pwrReach agent ≠ true) (key : Nat) :
    s.pkgWrite agent key = s.writeDropped agent 0x08 := by
  unfold State.pkgWrite
  rw [Bool.eq_false_of_not_eq_true h]
  rfl

theorem State.kickWrite_kicks (s : State) {agent : Agent} (h : pwrReach agent = true ∨ agent = .drill) :
    s.kickWrite agent = { s with clk := { s.clk with kickAt := s.now } } := by
  unfold State.kickWrite
  exact if_pos (by simpa using h)

theorem State.kickWrite_dropped (s : State) {agent : Agent} (h : pwrReach agent ≠ true) (hd : agent ≠ .drill) :
    s.kickWrite agent = s.writeDropped agent 0x14 := by
  unfold State.kickWrite
  exact if_neg (by simp [h, hd])

/-! ### The watchdog -/

theorem wdogPeriod_eq (s : State) : usCounts (1000 * s.f PWR_WDOG_CFG.PERIOD 0) = 100000 * s.f PWR_WDOG_CFG.PERIOD 0 := by
  unfold usCounts
  omega

theorem exec_drillWdog_waits {s : State}
    (h : s.on PWR_WDOG_CFG.EN 0 = false ∨ s.since s.clk.kickAt < 100000 * s.f PWR_WDOG_CFG.PERIOD 0) :
    exec .drillWdog s = .next s := by
  show execDrillWdog s = _
  unfold execDrillWdog
  rw [wdogPeriod_eq, if_pos (by rcases h with h | h <;> simp [h])]

/-- The watchdog's period is over: it begins again, and outside a containing reset the event is logged. -/
def State.wdogExpired (s : State) : State :=
  let s := { s with clk := { s.clk with kickAt := s.now } }
  if s.inReset then s else s.log0 0x0080 0

theorem exec_drillWdog_expires {s : State} (hen : s.on PWR_WDOG_CFG.EN 0 = true)
    (h : 100000 * s.f PWR_WDOG_CFG.PERIOD 0 ≤ s.since s.clk.kickAt) :
    exec .drillWdog s = .next (s.wdogExpired.packageReset PWR_RESET_CAUSE.DRILL_WDOG) := by
  show execDrillWdog s = _
  unfold execDrillWdog
  rw [wdogPeriod_eq, if_neg (by simp [hen, h])]
  rfl

theorem exec_drillWdog_absorbed {s : State} (hen : s.on PWR_WDOG_CFG.EN 0 = true)
    (h : 100000 * s.f PWR_WDOG_CFG.PERIOD 0 ≤ s.since s.clk.kickAt) (hr : s.inReset = true) :
    exec .drillWdog s = .next ({ s with clk := { s.clk with kickAt := s.now } }.setOn PWR_RESET_CAUSE.DRILL_WDOG 0 true) := by
  have hw : s.wdogExpired = { s with clk := { s.clk with kickAt := s.now } } := if_pos hr
  rw [exec_drillWdog_expires hen h, hw]
  exact congrArg _ (State.packageReset_absorbed (s := { s with clk := { s.clk with kickAt := s.now } }) hr _)

theorem exec_drillWdog_resets {s : State} (hen : s.on PWR_WDOG_CFG.EN 0 = true)
    (h : 100000 * s.f PWR_WDOG_CFG.PERIOD 0 ≤ s.since s.clk.kickAt) (hr : s.inReset = false) :
    answers .drillWdog s fun u => u.on PWR_RESET_CAUSE.DRILL_WDOG 0 = true ∧ u.threads = [] ∧ u.drill = {} ∧
      u.granary.mem = s.granary.mem ∧ u.isl = s.isl := by
  have hw : s.wdogExpired = { s with clk := { s.clk with kickAt := s.now } }.log0 0x0080 0 :=
    if_neg (by rw [Bool.not_eq_true]; exact hr)
  have hclk : s.wdogExpired.inReset = false := by
    rw [hw]
    unfold State.inReset
    rw [clk_of_keep (m := among [.clk, .por]) (State.log0_keep rfl rfl _ _ _) rfl rfl]
    exact hr
  have hmem : s.wdogExpired.granary.mem = s.granary.mem := by
    rw [hw, mem_of_keep (m := among [.mem]) (State.log0_keep rfl rfl _ _ _) rfl]
  have hisl : s.wdogExpired.isl = s.isl := by
    rw [hw, isl_of_keep (m := among [.isl]) (State.log0_keep rfl rfl _ _ _) rfl]
  have hreset := State.packageReset_resets hclk (cause := PWR_RESET_CAUSE.DRILL_WDOG) (by decide)
  exact ⟨_, exec_drillWdog_expires hen h, hreset.cause, hreset.threads, hreset.drill, hreset.mem.trans hmem,
    hreset.isl.trans hisl⟩

/-! ### The host port -/

theorem granary_of_keep {m : Facet → Bool} {s t : State} (e : t.keep m = s.keep m) (h : m .granary = true)
    (hm : m .mem = true) : t.granary = s.granary := by
  have := congrArg State.granary e
  simp only [State.keep, h, hm, if_true] at this
  exact this

/-- HOST_PORT_RESET at the pins: PERST_N, and no training. -/
def State.portPins (s : State) (cause : HostResetCause) : State :=
  { s with clk := { s.clk with perstLow := s.clk.perstLow || cause = HostResetCause.perst, training := false } }

/-- The data link as DL_DOWN leaves it, before the functions are reset. -/
def State.linkLost (s : State) : State :=
  let s := (((s.setOn HST_LINK.DL_UP 0 false).setOn HST_LINK.DEGRADED 0 false).setF HST_LINK.WIDTH 0 0).setF HST_LINK.RATE 0 0
  let s := ((s.setOn HST_EVENT.LINK_DOWN 0 true).bump HST_DOWNCNT.COUNT 0).log0 0x0030 (s.regAt .HST 0 0)
  (s.host.reads.map (·.1)).foldl (fun s t => s.readTimesOut t) s

/-- The link is down before the functions are reset. -/
def State.portDown (s : State) (cause : HostResetCause) : State :=
  if s.on HST_LINK.DL_UP 0 then (s.portPins cause).linkLost else s.portPins cause

theorem State.linkLost_port (s : State) : s.linkLost.port = s.port := by
  unfold State.linkLost
  refine (foldl_port (fun v t => v.readTimesOut_port t) _ _).trans ?_
  simp (disch := decide) [State.port]

theorem State.portDown_port (s : State) (cause : HostResetCause) : (s.portDown cause).port = s.port := by
  unfold State.portDown
  split
  · exact State.linkLost_port _
  · rfl

theorem State.linkLost_clk (s : State) : s.linkLost.clk = s.clk := by
  refine clk_of_keep (m := among [.clk, .por]) ?_ rfl rfl
  exact (foldl_keep (fun v t => by simp (disch := decide)) _ _).trans (by simp (disch := decide))

/-- DL_DOWN while the link is up. -/
theorem State.dlDown_eq {s : State} (h : s.on HST_LINK.DL_UP 0 = true) : s.dlDown = s.linkLost.hostPortReset := by
  unfold State.dlDown
  rw [if_neg (by simp [h])]
  rfl

theorem State.portDown_clk (s : State) (cause : HostResetCause) : (s.portDown cause).clk = (s.portPins cause).clk := by
  unfold State.portDown
  split
  · exact State.linkLost_clk _
  · rfl

theorem execHostPortReset_outside {s : State} (h : s.inReset = false) (cause : HostResetCause) :
    execHostPortReset cause s = .next (s.portDown cause).hostPortReset := by
  have hin : (s.portPins cause).inReset = false := h
  have hup : (s.portPins cause).on HST_LINK.DL_UP 0 = s.on HST_LINK.DL_UP 0 := rfl
  have hexec : execHostPortReset cause s = .next (if (s.portPins cause).inReset then
      (s.portPins cause).setOn PWR_RESET_CAUSE.HOST_PORT 0 true
    else if (s.portPins cause).on HST_LINK.DL_UP 0 then (s.portPins cause).dlDown else (s.portPins cause).hostPortReset) := rfl
  rw [hexec, if_neg (by simp [hin]), hup]
  unfold State.portDown
  by_cases hd : s.on HST_LINK.DL_UP 0 = true
  · rw [if_pos hd, if_pos hd, State.dlDown_eq (hup.trans hd)]
  · rw [if_neg hd, if_neg hd]

/-- The functions as the host port's reset detaches them. -/
def State.portDetached (s : State) : State :=
  let s := s.setOn PWR_RESET_CAUSE.HOST_PORT 0 true
  if s.released then ((List.range 512).filter s.fnThere).foldl (fun s p => s.detach p 1 true) s else s

theorem State.hostPortReset_on (s : State) : s.hostPortReset.on PWR_RESET_CAUSE.HOST_PORT 0 = true := by
  have hf : s.hostPortReset.on PWR_RESET_CAUSE.HOST_PORT 0 = s.portDetached.on PWR_RESET_CAUSE.HOST_PORT 0 := rfl
  have hk : s.portDetached.keep (Facet.only (.blk .PWR)) =
      (s.setOn PWR_RESET_CAUSE.HOST_PORT 0 true).keep (Facet.only (.blk .PWR)) := by
    unfold State.portDetached
    dsimp only
    split
    · exact foldl_keep (fun v p => by simp) _ _
    · rfl
  rw [hf, on_of_only (F := PWR_RESET_CAUSE.HOST_PORT) rfl hk]
  exact State.on_setOn_self _ rfl _ _

theorem State.released_iff (s : State) : s.released =
    ((!s.clk.porstHeld && s.clk.refclk) && !s.clk.rootHeld && (portOf s).1) := rfl

theorem State.fnThere_iff (s : State) (p : Nat) :
    s.fnThere p = (p = 0 || ((portOf s).2.1 && decide (p ≤ (portOf s).2.2))) := rfl

theorem State.hostPortReset_state {s : State} (h : s.released = true) {p : Nat} (hp : p < 512) (hf : s.fnThere p = true) :
    s.hostPortReset.f HST_ATTACH.STATE p = 1 := by
  have hport : (s.setOn PWR_RESET_CAUSE.HOST_PORT 0 true).port = s.port := by simp (disch := decide) [State.port]
  rw [State.port_eq, State.port_eq] at hport
  have hrel : (s.setOn PWR_RESET_CAUSE.HOST_PORT 0 true).released = true := by
    rw [State.released_iff, hport]
    exact h
  have hthere : (s.setOn PWR_RESET_CAUSE.HOST_PORT 0 true).fnThere p = true := by
    rw [State.fnThere_iff, hport]
    exact hf
  have hreset : s.hostPortReset.f HST_ATTACH.STATE p = s.portDetached.f HST_ATTACH.STATE p := rfl
  rw [hreset]
  unfold State.portDetached
  dsimp only
  rw [if_pos hrel, foldl_detach_state, if_pos (List.mem_filter.mpr ⟨List.mem_range.mpr hp, hthere⟩)]

theorem execHostPortReset_results (s : State) (cause : HostResetCause) :
    answers (.hostPortReset cause) s fun u => u.on PWR_RESET_CAUSE.HOST_PORT 0 = true ∧
      (s.inReset = false → u.host.vfEnable = false ∧ u.host.numVfs = 0 ∧ u.vecs = [] ∧ u.cores = s.cores ∧
        u.granary = s.granary ∧ u.isl = s.isl) ∧
      (s.released = true → ∀ p, p < 512 → s.fnThere p = true → u.f HST_ATTACH.STATE p = 1) := by
  cases hr : s.inReset
  case false =>
    have hexec : exec (.hostPortReset cause) s = .next (s.portDown cause).hostPortReset := execHostPortReset_outside hr cause
    have hk := keepsBut_of_exec hexec
    refine ⟨_, hexec, State.hostPortReset_on _, fun _ => ⟨rfl, rfl, rfl, ?_, ?_, ?_⟩, fun hrel p hp hf => ?_⟩
    · exact cores_of_keep hk rfl
    · exact granary_of_keep hk rfl rfl
    · exact isl_of_keep hk rfl
    · have hport := State.portDown_port s cause
      rw [State.port_eq, State.port_eq] at hport
      refine State.hostPortReset_state ?_ hp ?_
      · rw [State.released_iff, hport, State.portDown_clk]
        exact hrel
      · rw [State.fnThere_iff, hport]
        exact hf
  case true =>
    have hexec : exec (.hostPortReset cause) s = .next ((s.portPins cause).setOn PWR_RESET_CAUSE.HOST_PORT 0 true) :=
      congrArg Host.Outcome.next (if_pos (show (s.portPins cause).inReset = true from hr))
    refine ⟨_, hexec, State.on_setOn_self _ rfl _ _, fun h => absurd h (by decide), fun hrel => ?_⟩
    simp only [State.released, State.live, State.inReset] at hrel hr
    revert hrel hr
    cases s.clk.porstHeld <;> cases s.clk.rootHeld <;> simp

theorem exec_hostLinkTraining_off {s : State} (h : s.live = false) : exec .hostLinkTraining s = .next s := by
  show Host.Outcome.next (if !s.live then s else _) = _
  rw [h]
  rfl

theorem exec_hostLinkTraining_on {s : State} (h : s.live = true) :
    exec .hostLinkTraining s = .next { s with clk := { s.clk with perstLow := false, training := true } } := by
  show Host.Outcome.next (if !s.live then s else _) = _
  rw [h]
  rfl

/-- Settles O7: each request is the package reset of `packageReset_resets` with its cause, and the host port's reset
detaches each function. -/
theorem packageResetResults : Obligations.PackageResetResults := by
  unfold Obligations.PackageResetResults
  intro s agent key cause resets mayAsk
  have hresets : ∀ {i : Instr} {F : Fld}, s.AsksReset i F → resets i F := fun h => by
    refine ⟨h.inside, fun hr => ?_⟩
    obtain ⟨u, hu, r⟩ := h.outside hr
    exact ⟨u, hu, r.cause, r.count, r.threads, r.caches, r.drill, r.loops, r.host, r.links, r.mem, r.now, r.isl, r.lead,
      r.channels, fun F hF i _ => r.fields F hF i⟩
  have hreach : mayAsk ↔ pwrReach agent = true := (pwrReach_iff agent).symm
  simp only [hreach]
  refine ⟨hresets (asksReset_of_exec (by decide) rfl), fun h => ⟨exec_pkg_of_not_acts h key, exec_kick_of_not_acts h⟩,
    fun h hm hk => hresets (asksReset_of_exec (by decide) ?_), fun h hm hk => ?_, fun h hm => ?_, fun h hm => ?_,
    fun h hm hd => ?_, exec_drillWdog_waits, exec_drillWdog_absorbed, exec_drillWdog_resets,
    execHostPortReset_results s cause, exec_hostLinkTraining_off, exec_hostLinkTraining_on⟩
  · rw [exec_pkg_of_acts h, hk]
    exact congrArg _ (State.pkgWrite_reset s hm)
  · rw [exec_pkg_of_acts h, State.pkgWrite_key s hm hk]
  · rw [exec_pkg_of_acts h, State.pkgWrite_dropped s hm]
  · rw [exec_kick_of_acts h, State.kickWrite_kicks s hm]
  · rw [exec_kick_of_acts h, State.kickWrite_dropped s hm hd]

end Sys2Proof.Machine
end

section
/-! PROOF. Power-on reset, supply samples and the announced power failure. -/

namespace Sys2Proof.Machine

/-! ### What a power-on reset leaves -/

/-- A power-on reset has cleared the package (Table 2-4, R39). -/
structure State.Cleared (s u : State) : Prop where
  held : u.clk.porstHeld = true
  threads : u.threads = []
  drill : u.drill = {}
  mem : u.granary.mem = []
  isl : u.isl = s.isl
  flash : u.boot.flash = s.boot.flash
  stamp : u.f CLK_TIMESTAMP.TS 0 = 0
  cause : u.f PWR_RESET_CAUSE.POWER_ON 0 = 1
  warm : u.f PWR_RESET_CAUSE.WARM_PIN 0 = 0
  count : u.f PWR_RESET_COUNT.COUNT 0 = 0
  log : u.reeve.log = []
  island : ∀ F ∈ Blk.HDL.fields, ∀ i, u.f F i = s.f F i

/-- The fields that a power-on reset keeps. -/
def porKept : List Fld := PWR_RAIL_STATUS.GOOD :: Blk.HDL.fields

theorem porKept_id_lt : ∀ F ∈ porKept, F.id < 4096 := by decide

theorem State.powerOn_f_kept (s : State) {F : Fld} (hF : F ∈ porKept) (i : Nat) : s.powerOn.f F i = s.f F i := by
  have hany : (porKept.any fun G => G.id == F.id) = true := List.any_eq_true.mpr ⟨F, hF, by simp⟩
  have hfind : find (F.key i) s.powerOn.regs = find (F.key i) s.regs :=
    find_filter_of (fun x => by simp only [Fld.key_mod (porKept_id_lt F hF)]; exact hany) _
  unfold State.f findD
  rw [hfind]

theorem State.powerOn_f_rst (s : State) {F : Fld} (hid : F.id < 4096) (hF : (porKept.any fun G => G.id == F.id) = false)
    (i : Nat) : s.powerOn.f F i = F.rst := by
  have hfind : find (F.key i) s.powerOn.regs = none :=
    find_filter_not (fun x => by simp only [Fld.key_mod hid]; exact hF) _
  unfold State.f findD
  rw [hfind]
  rfl

theorem State.powerOn_cleared (s : State) : s.Cleared { s.powerOn with clk := { s.powerOn.clk with porstLow := true } } where
  held := rfl
  threads := rfl
  drill := rfl
  mem := rfl
  isl := rfl
  flash := rfl
  stamp := s.powerOn_f_rst (by decide) (by decide) 0
  cause := s.powerOn_f_rst (by decide) (by decide) 0
  warm := s.powerOn_f_rst (by decide) (by decide) 0
  count := s.powerOn_f_rst (by decide) (by decide) 0
  log := rfl
  island := fun F hF i => s.powerOn_f_kept (List.mem_cons_of_mem _ hF) i

/-! ### PORST_N rises -/

/-- The end of a power-on reset changes one field of the clocks. -/
theorem State.porRelease_clk (s : State) :
    s.porRelease.clk = s.clk ∨ s.porRelease.clk = { s.clk with porstHeld := false } := by
  have hclk : ∀ u : State, (u.newEpochs.log0 0x0001 0).clk = u.clk := fun u =>
    clk_of_keep (m := among [.clk, .por]) (by simp (disch := decide)) rfl rfl
  unfold State.porRelease
  split
  · exact .inl rfl
  · exact .inr (hclk _)

/-- PORST_N has risen: the strap is read, and the device that the board fitted is there. -/
def State.porstHigh (s : State) (lead : Bool) (flash : Option FlashDevice) : State :=
  let s := { s with clk := { s.clk with porstLow := false } }
  let s := match flash with
    | none => s
    | some d => { s with boot := { s.boot with flash := fitFlash d.bytes } }
  s.setOn YK_STATUS.LEAD 0 lead

theorem State.porstHigh_clk (s : State) (lead : Bool) (flash : Option FlashDevice) :
    (s.porstHigh lead flash).clk = { s.clk with porstLow := false } := by cases flash <;> rfl

theorem execPorstNRelease_results {s : State} (h : s.clk.porstLow = true) (lead : Bool) (flash : Option FlashDevice) :
    answers (.porstNRelease lead flash) s fun u =>
      u.clk.porstLow = false ∧ u.on YK_STATUS.LEAD 0 = lead ∧
      (s.clk.porstHeld = true → s.clk.railOut.any porRail = false → s.clk.refclk = true →
        u.clk.porstHeld = false ∧ u.on CLK_STATUS.ROOT_LOCK 0 = true) ∧
      (s.clk.railOut.any porRail = true ∨ s.clk.refclk = false → u.clk.porstHeld = s.clk.porstHeld) ∧
      (flash = none → u.boot.flash = s.boot.flash) := by
  have hexec : exec (.porstNRelease lead flash) s = .next (s.porstHigh lead flash).porRelease := by
    refine congrArg Host.Outcome.next (if_neg ?_)
    simp [h]
  have hclk := s.porstHigh_clk lead flash
  have hlow : (s.porstHigh lead flash).porRelease.clk.porstLow = false := by
    rcases (s.porstHigh lead flash).porRelease_clk with hr | hr <;> rw [hr, hclk]
  refine ⟨_, hexec, hlow, ?_, fun hh hr hc => ?_, fun hw => ?_, fun hf => ?_⟩
  · rw [on_of_only (F := YK_STATUS.LEAD) rfl (State.porRelease_keep (Facet.only_ne (by decide)) (Facet.only_ne (by decide))
      (Facet.only_ne (by decide)) (Facet.only_ne (by decide)) (Facet.only_ne (by decide)) (Facet.only_ne (by decide))
      (Facet.only_ne (by decide)) (Facet.only_ne (by decide)) _)]
    exact State.on_setOn_self _ rfl _ _
  · obtain ⟨he, hon⟩ := State.porRelease_ends (s := s.porstHigh lead flash) (by rw [hclk]; exact hh) (by rw [hclk])
      (by rw [hclk]; exact hr) (by rw [hclk]; exact hc)
    exact ⟨by rw [he], hon⟩
  · rw [State.porRelease_waits (by rw [hclk]; exact .inr (.inr hw)), hclk]
  · rw [boot_of_keep (m := among [.boot]) (State.porRelease_keep rfl rfl rfl rfl rfl rfl rfl rfl _) rfl, hf]
    rfl

/-! ### Supply samples -/

theorem setBit_testBit_self (v k : Nat) (b : Bool) : (setBit v k b).testBit k = b := by
  unfold setBit
  split
  next h => exact h
  next h =>
    cases b
    · have hv : v.testBit k = true := by simpa using h
      obtain ⟨x, rfl⟩ := Nat.exists_eq_add_of_le (Nat.ge_two_pow_of_testBit hv)
      rw [Nat.testBit_two_pow_add_eq, Bool.not_eq_true'] at hv
      simpa using hv
    · have hv : v.testBit k = false := by simpa using h
      rw [if_pos rfl, Nat.add_comm, Nat.testBit_two_pow_add_eq, hv]
      rfl

theorem State.bitF_setBitF_self (s : State) {F : Fld} {i k : Nat} (hk : k < F.width) (b : Bool) :
    (s.setBitF F i k b).bitF F i k = b := by
  unfold State.bitF State.setBitF
  rw [State.f_setF_self, Nat.testBit_mod_two_pow, setBit_testBit_self, decide_eq_true hk, Bool.true_and]

theorem State.sampled_clk (s : State) (rail : Nat) (bad : Bool) :
    (s.sampled rail bad).clk.railOut =
      (if bad then rail :: s.clk.railOut.filter (· ≠ rail) else s.clk.railOut.filter (· ≠ rail)) ∧
    (bad = true → porRail rail = true → (s.sampled rail bad).clk.porstHeld = true) := by
  unfold State.sampled
  dsimp only
  split
  · exact ⟨rfl, fun _ _ => rfl⟩
  next hn =>
    refine ⟨rfl, fun hb hp => ?_⟩
    simpa [hb, hp] using hn

theorem State.sampled_good (s : State) {rail : Nat} (h : rail < 9) (bad : Bool) :
    (s.sampled rail bad).bitF PWR_RAIL_STATUS.GOOD 0 rail = !bad := by
  have hset : (s.setBitF PWR_RAIL_STATUS.GOOD 0 rail (!bad)).bitF PWR_RAIL_STATUS.GOOD 0 rail = !bad :=
    State.bitF_setBitF_self _ h _
  rw [← hset]
  unfold State.sampled State.bitF
  dsimp only
  split
  · rw [State.powerOn_f_kept _ (by decide)]
    rfl
  · rfl

theorem State.porRelease_held {s : State} (h : s.clk.railOut.any porRail = true) : s.porRelease = s :=
  State.porRelease_waits (.inr (.inr (.inl h)))

theorem State.porRelease_railOut (s : State) : s.porRelease.clk.railOut = s.clk.railOut := by
  rcases s.porRelease_clk with h | h <;> rw [h]

theorem execSupplySample_results (s : State) (rail : Fin 9) {level : RailLevel} (h : level ≠ .beyondAbsolute) :
    answers (.supplySample rail level) s fun u =>
      u.bitF PWR_RAIL_STATUS.GOOD 0 rail.val = decide (level = .within) ∧
      (rail.val ∈ u.clk.railOut ↔ level = .outside) ∧ (∀ r, r ≠ rail.val → (r ∈ u.clk.railOut ↔ r ∈ s.clk.railOut)) ∧
      (level = .outside → 4 ≤ rail.val → rail.val ≤ 7 → u.clk.porstHeld = true) := by
  refine ⟨_, execSupplySample_eq rail h s, ?_⟩
  generalize hb : decide (level = .outside) = bad
  have hwithin : decide (level = .within) = !bad := by
    subst hb
    cases level
    case beyondAbsolute => exact absurd rfl h
    all_goals rfl
  have hout : level = .outside ↔ bad = true := by rw [← hb, decide_eq_true_iff]
  obtain ⟨hrail, hheld⟩ := s.sampled_clk rail.val bad
  have hgood := s.sampled_good rail.isLt bad
  have hisl : ((s.sampled rail.val bad).islandRail rail.val bad).clk = (s.sampled rail.val bad).clk :=
    clk_of_keep (m := among [.clk, .por]) (State.islandRail_keep rfl rfl _ _ _) rfl rfl
  have hpwr : (((s.sampled rail.val bad).islandRail rail.val bad).porRelease).f PWR_RAIL_STATUS.GOOD 0 =
      (s.sampled rail.val bad).f PWR_RAIL_STATUS.GOOD 0 :=
    f_of_keep (m := among [.blk .PWR]) (by simp (disch := decide)) rfl 0
  rw [hwithin, hout]
  refine ⟨?_, ?_, fun r hr => ?_, fun hb h4 h7 => ?_⟩
  · rw [State.bitF, hpwr]
    exact hgood
  · rw [State.porRelease_railOut, hisl, hrail]
    cases bad <;> simp
  · rw [State.porRelease_railOut, hisl, hrail]
    cases bad <;> simp [hr]
  · have hp : porRail rail.val = true := by simp [porRail, h4, h7]
    rw [State.porRelease_held, hisl]
    · exact hheld hb hp
    · rw [hisl, hrail, if_pos hb]
      simp [hp]

/-! ### The announced power failure -/

theorem State.logEvent_reeve_congr {s t : State} (hr : t.reeve = s.reeve) (hn : t.now = s.now)
    (code inst plot aux addr detail : Nat) :
    (t.logEvent code inst plot aux addr detail).reeve = (s.logEvent code inst plot aux addr detail).reeve := by
  have hlost : ∀ u : State, ((u.bump RV_LOG_LOST.COUNT 0).setOn RV_LOG_STAT.QOVF 0 true).reeve = u.reeve := fun u =>
    reeve_of_keep (m := among [.reeve]) (by simp (disch := decide)) rfl
  unfold State.logEvent
  rw [hr, hn]
  split
  · rfl
  · rw [hlost, hlost, hr]

/-- The rails' register reads its one field. -/
theorem State.regAt_rails (s : State) : s.regAt .PWR 0 0 = s.f PWR_RAIL_STATUS.GOOD 0 := by
  simp [State.regAt, Blk.regs, regsPWR, State.readReg, State.readFld, PWR_RAIL_STATUS.GOOD]

/-- PWRFAIL at the island: every output path off, no operation armed. -/
def State.islandPwrfail (s : State) : State :=
  { s with clk := { s.clk with pwrfail := true } }.pathsOff.disarmOperate.enterFault.showCauses

theorem State.islandPwrfail_dark (s : State) : s.islandPwrfail.face.dark := by
  have hoff : ∀ u : State, u.pathsOff.disarmOperate.face.dark := fun u => by
    rw [State.disarmOperate_face, State.pathsOff_face]
    exact u.face.off_dark
  unfold State.islandPwrfail
  rw [State.showCauses_face, State.enterFault_face]
  split
  · exact hoff _
  · exact hoff _

theorem State.enterFault_commanded (s : State) : s.enterFault.f HDL_SO_STATE.COMMANDED 0 = s.f HDL_SO_STATE.COMMANDED 0 := by
  unfold State.enterFault
  split
  · exact (State.f_setF_ne _ (by decide) _).trans ((State.f_setF_ne _ (by decide) _).trans (State.f_setF_ne _ (by decide) _))
  · rfl

theorem State.islandPwrfail_commanded (s : State) : s.islandPwrfail.f HDL_SO_STATE.COMMANDED 0 = 0 := by
  refine (State.f_setF_ne _ (by decide) _).trans ?_
  rw [State.enterFault_commanded]
  exact (State.f_setF_ne _ (by decide) _).trans (State.f_setF_self ..)

theorem State.islandPwrfail_keep {m : Facet → Bool} (hc : m .clk = false) (hb : m (.blk .HDL) = false) (hi : m .isl = false)
    (s : State) : s.islandPwrfail.keep m = s.keep m := by
  unfold State.islandPwrfail
  rw [State.showCauses_keep hb, State.enterFault_keep hb hi, State.disarmOperate_keep hb hi, State.pathsOff_keep hb hi]
  exact keep_clk hc s _ rfl rfl rfl

theorem State.islandPwrfail_clk (s : State) : s.islandPwrfail.clk = { s.clk with pwrfail := true } := by
  have hk : ∀ u : State, u.pathsOff.disarmOperate.enterFault.showCauses.clk = u.clk := fun u =>
    clk_of_keep (m := among [.clk, .por]) (by simp (disch := decide)) rfl rfl
  exact hk _

theorem execPwrfail_results {s : State} (h : s.clk.pwrfail = false) : answers .pwrfail s fun u =>
      u.clk.pwrfail = true ∧ (∀ c ∈ u.isl.chans, c.2.cmd = false) ∧ u.f HDL_SO_STATE.COMMANDED 0 = 0 ∧
      u.on HDL_STATE.VETO_OUT 0 = false ∧
      (s.clk.porstHeld = false → s.logs u 0x0005 noInst noInst (s.regAt .PWR 0 0) ∧
        ∀ c, c < 96 → u.on GRN_STATE.SELFREF c = true) := by
  let w := s.islandPwrfail
  have hclk : w.clk = { s.clk with pwrfail := true } := s.islandPwrfail_clk
  have hexec : exec .pwrfail s = .next (if w.clk.porstHeld then w else (w.log0 0x0005 (w.regAt .PWR 0 0)).selfRefresh) := by
    refine congrArg Host.Outcome.next ?_
    rw [if_neg (by simp [h])]
    rfl
  have hk : ∀ (u : State) aux, (u.log0 0x0005 aux).selfRefresh.keep islandPart = u.keep islandPart := fun u aux => by
    simp (disch := decide)
  have hface : ∀ u : State, u.keep islandPart = w.keep islandPart →
      (∀ c ∈ u.isl.chans, c.2.cmd = false) ∧ u.f HDL_SO_STATE.COMMANDED 0 = 0 ∧ u.on HDL_STATE.VETO_OUT 0 = false := by
    intro u hu
    have hd : u.face.dark := by
      rw [State.face, hu]
      exact s.islandPwrfail_dark
    rw [State.face_eq] at hd
    obtain ⟨hveto, hchans⟩ := hd
    exact ⟨hchans, (f_of_keep hu rfl 0).trans s.islandPwrfail_commanded, hveto⟩
  rw [hclk] at hexec
  refine ⟨_, hexec, ?_⟩
  cases hp : s.clk.porstHeld
  case true =>
    obtain ⟨hchans, hcmd, hveto⟩ := hface w rfl
    exact ⟨congrArg Clocks.pwrfail hclk, hchans, hcmd, hveto, fun e => by cases e⟩
  case false =>
    obtain ⟨hchans, hcmd, hveto⟩ := hface _ (hk w (w.regAt .PWR 0 0))
    refine ⟨?_, hchans, hcmd, hveto, fun _ => ⟨?_, fun c hc => State.selfRefresh_on _ hc⟩⟩
    · have hc : ((w.log0 0x0005 (w.regAt .PWR 0 0)).selfRefresh).clk = w.clk :=
        clk_of_keep (m := among [.clk, .por]) (by simp (disch := decide)) rfl rfl
      exact congrArg Clocks.pwrfail (hc.trans hclk)
    · have hkeep := fun m hc hb hi => State.islandPwrfail_keep (m := m) hc hb hi s
      have haux : w.regAt .PWR 0 0 = s.regAt .PWR 0 0 := by
        rw [State.regAt_rails, State.regAt_rails]
        exact f_of_keep (m := among [.blk .PWR]) (hkeep _ rfl rfl rfl) rfl 0
      have hreeve : ∀ u : State, u.selfRefresh.reeve = u.reeve := fun u =>
        reeve_of_keep (m := among [.reeve]) (State.selfRefresh_keep rfl _) rfl
      unfold State.logs
      refine (hreeve _).trans ?_
      rw [haux]
      refine State.logEvent_reeve_congr ?_ ?_ _ _ _ _ _ _
      · exact reeve_of_keep (m := among [.reeve]) (hkeep _ rfl rfl rfl) rfl
      · exact f_of_keep (F := CLK_TIMESTAMP.TS) (m := among [.blk .CLK]) (hkeep _ rfl rfl rfl) rfl 0

/-! ### Self-refresh ends -/

theorem mem_stackChans {st c : Nat} : c ∈ stackChans st ↔ c / 16 = st := by
  simp only [stackChans, List.mem_map, List.mem_range]
  constructor
  · rintro ⟨k, hk, rfl⟩
    omega
  · rintro rfl
    exact ⟨c % 16, by omega, by omega⟩

theorem exec_selfRefreshExit_waits {s : State} {st : Stack}
    (h : s.inReset = true ∨ s.clk.pwrfail = true ∨ s.on CLK_STATUS.ROOT_LOCK 0 = false) :
    exec (.selfRefreshExit st) s = .next s := by
  refine congrArg Host.Outcome.next (if_pos ?_)
  rcases h with h | h | h <;> simp [h]

theorem exec_selfRefreshExit_ends {s : State} {st : Stack} (hr : s.inReset = false) (hp : s.clk.pwrfail = false)
    (hl : s.on CLK_STATUS.ROOT_LOCK 0 = true) : answers (.selfRefreshExit st) s fun u =>
      ∀ c, c < 96 → u.on GRN_STATE.SELFREF c = if c / 16 = st.val then false else s.on GRN_STATE.SELFREF c := by
  refine ⟨_, congrArg Host.Outcome.next (if_neg (by simp [hr, hp, hl])), fun c _ => ?_⟩
  rw [foldl_setOn_on rfl]
  simp only [mem_stackChans]

/-- Settles O6: by what the power-on reset leaves, the samples, and the island's part in the power failure. -/
theorem powerOnAndSupplyResults : Obligations.PowerOnAndSupplyResults := by
  unfold Obligations.PowerOnAndSupplyResults
  intro s rail level lead flash st cleared
  refine ⟨⟨_, rfl, ?_, rfl⟩, fun h => ?_, fun h => execPorstNRelease_results h lead flash, fun h => ?_,
    fun h => execSupplySample_results s rail h, fun h => ?_, execPwrfail_results, ⟨_, rfl, rfl⟩, exec_selfRefreshExit_waits,
    exec_selfRefreshExit_ends⟩
  · have r := s.powerOn_cleared
    exact ⟨r.held, r.threads, r.drill, r.mem, r.isl, r.flash, r.stamp, r.cause, r.warm, r.count, r.log,
      fun F hF i _ => r.island F hF i⟩
  · exact congrArg Host.Outcome.next (if_pos (by simp [h]))
  · rw [h]
    rfl
  · exact congrArg Host.Outcome.next (if_pos h)

end Sys2Proof.Machine
end

section
/-! PROOF. Starting the island, its safety resets, the lockstep comparator and the watchdog. -/

namespace Sys2Proof.Machine

/-! ### FAIL -/

/-- Everything is off, and the island has failed (Table 19-9). -/
def State.Failed (u : State) : Prop :=
  u.isl.chans.all (fun c => !c.2.cmd) = true ∧ u.isl.axes.all (fun a => a.2.state = 4) = true ∧
    u.f HDL_SO_STATE.COMMANDED 0 = 0 ∧ u.on HDL_STATE.VETO_OUT 0 = false ∧ u.auth = false ∧ u.hs = hsFail ∧
    (List.range 4).all (fun n => u.f HDL_HT_STATE.REMOTE n = 0) = true

/-- A field after a pass of writes of one value over a list of its places. -/
theorem foldl_setF_f (F : Fld) (v : Nat) (l : List Nat) (s : State) (c : Nat) :
    (l.foldl (fun s c => s.setF F c v) s).f F c = if c ∈ l then v % 2 ^ F.width else s.f F c := by
  induction l generalizing s with
  | nil => rfl
  | cons a l ih =>
    rw [List.foldl_cons, ih]
    by_cases hl : c ∈ l
    · rw [if_pos hl, if_pos (List.mem_cons_of_mem _ hl)]
    · rw [if_neg hl]
      by_cases hca : c = a
      · subst hca
        rw [if_pos (List.mem_cons_self ..), State.f_setF_self]
      · rw [if_neg fun h => (List.mem_cons.mp h).elim hca hl, State.f_setF_ne _ fun e => hca (Fld.key_inj e)]

theorem foldl_setF_f_ne {F G : Fld} (hG : G.id < 4096) (hF : F.id < 4096) (hne : G.id ≠ F.id) (v : Nat) (l : List Nat)
    (s : State) (i : Nat) : (l.foldl (fun s c => s.setF F c v) s).f G i = s.f G i := by
  induction l generalizing s with
  | nil => rfl
  | cons a l ih => rw [List.foldl_cons, ih, State.f_setF_ne _ (Fld.key_ne_of_id hG hF hne _ _)]

theorem State.setAuth_isl (s : State) (b : Bool) : (s.setAuth b).isl = s.isl := by
  unfold State.setAuth
  split
  · rfl
  · exact State.bump_isl _ _ _

theorem State.setAuth_f_ne (s : State) (b : Bool) {F : Fld} (hid : F.id < 4096) (ha : F.id ≠ HDL_STATE.AUTH.id)
    (hh : F.id ≠ HDL_HANDOVER.COUNT.id) (i : Nat) : (s.setAuth b).f F i = s.f F i := by
  unfold State.setAuth
  split
  · rfl
  · rw [State.f_bump_ne _ (Fld.key_ne_of_id hid (by decide) hh _ _)]
    exact State.f_setF_ne _ (Fld.key_ne_of_id hid (by decide) ha _ _) _

/-- The outputs off and no operation in progress: what the entry to FAIL first makes. -/
def State.quiet (s : State) : State := s.pathsOff.leaveOperation.disarmOperate

/-- The entry to FAIL writes five fields. -/
theorem State.enterFail_f {F : Fld} (hid : F.id < 4096) (hF : F.id ∉ [HDL_HT_STATE.REMOTE.id, HDL_STATE.HS.id,
    HDL_STATE.AUTH.id, HDL_HANDOVER.COUNT.id]) (s : State) (i : Nat) : s.enterFail.f F i = s.quiet.f F i := by
  simp only [List.mem_cons, List.not_mem_nil, or_false, not_or] at hF
  obtain ⟨hr, hhs, ha, hh⟩ := hF
  unfold State.enterFail
  rw [foldl_setF_f_ne hid (by decide) hr]
  exact (State.f_setF_ne _ (Fld.key_ne_of_id hid (by decide) hhs _ _) _).trans (State.setAuth_f_ne _ _ hid ha hh i)

theorem foldl_setF_isl (F : Fld) (v : Nat) (l : List Nat) (s : State) :
    (l.foldl (fun s c => s.setF F c v) s).isl = s.isl := by
  induction l generalizing s with
  | nil => rfl
  | cons a l ih => exact ih _

theorem State.enterFail_isl (s : State) : s.enterFail.isl = s.quiet.isl := by
  unfold State.enterFail
  rw [foldl_setF_isl]
  exact State.setAuth_isl s.quiet false

theorem State.quiet_axes (s : State) : ∀ a ∈ s.quiet.isl.axes, a.2.state = 4 := by
  intro a ha
  have hq : s.quiet.isl.axes = s.pathsOff.isl.axes := rfl
  have hp : s.pathsOff.isl.axes = s.isl.axes.map fun c => (c.1, { c.2.torqueOff s.islTime with dstp := false }) := rfl
  rw [hq, hp] at ha
  obtain ⟨c, -, rfl⟩ := List.mem_map.mp ha
  show (c.2.torqueOff s.islTime).state = 4
  unfold AxisSt.torqueOff
  split
  next h => exact h
  · rfl

theorem State.enterFail_failed (s : State) : s.enterFail.Failed := by
  have hf := s.enterFail_face
  have hhs : s.enterFail.hs = hsFail := by rw [← State.face_hs, hf]
  have hauth : s.enterFail.auth = false := by rw [← State.face_auth, hf]
  have hveto : s.enterFail.on HDL_STATE.VETO_OUT 0 = false := by
    rw [← State.face_veto, hf]
    rfl
  have hchans : ∀ c ∈ s.enterFail.isl.chans, c.2.cmd = false := by
    rw [← State.face_chans, hf]
    exact s.face.off_dark.2
  refine ⟨?_, ?_, ?_, hveto, hauth, hhs, ?_⟩
  · exact List.all_eq_true.mpr fun c hc => by rw [hchans c hc]; rfl
  · rw [s.enterFail_isl]
    exact List.all_eq_true.mpr fun a ha => decide_eq_true (s.quiet_axes a ha)
  · rw [State.enterFail_f (by decide) (by decide)]
    exact (State.f_setF_ne _ (by decide) _).trans ((State.f_setF_ne _ (by decide) _).trans
      ((State.f_setF_ne _ (by decide) _).trans (State.f_setF_self ..)))
  · refine List.all_eq_true.mpr fun n hn => decide_eq_true ?_
    unfold State.enterFail
    rw [foldl_setF_f, if_pos hn]
    rfl

theorem State.mapIsl_on (s : State) (f : Island → Island) (F : Fld) (i : Nat) : (s.mapIsl f).on F i = s.on F i := rfl

theorem State.Failed.mapIsl {s : State} (h : s.Failed) {f : Island → Island} (hc : (f s.isl).chans = s.isl.chans)
    (ha : (f s.isl).axes = s.isl.axes) : (s.mapIsl f).Failed := by
  obtain ⟨hchans, haxes, hregs⟩ := h
  refine ⟨?_, ?_, hregs⟩
  · show (f s.isl).chans.all _ = true
    rw [hc, hchans]
  · show (f s.isl).axes.all _ = true
    rw [ha, haxes]

theorem State.enterFail_disarms (s : State) : s.enterFail.on HDL_STATE.ARMED 0 = false := by
  unfold State.on
  rw [State.enterFail_f (by decide) (by decide)]
  exact State.on_setOn_self _ rfl _ _

theorem State.enterFail_failcnt (s : State) : s.enterFail.f HDL_FAILCNT.COUNT 0 = s.f HDL_FAILCNT.COUNT 0 := by
  rw [State.enterFail_f (by decide) (by decide)]
  exact (State.f_setF_ne _ (by decide) _).trans ((State.f_setF_ne _ (by decide) _).trans
    ((State.f_setF_ne _ (by decide) _).trans ((State.f_setF_ne _ (by decide) _).trans (State.f_setF_ne _ (by decide) _))))

/-! ### The comparator and the watchdog -/

theorem execLockstepMismatch_results {s : State} (h : s.hs ≠ hsFail ∨ s.isl.resetDue = true) :
    answers .lockstepMismatch s fun u => u.Failed ∧ u.isl.hwOff = true ∧
      u.isl.resetDue = decide (s.f HDL_FAILCNT.COUNT 0 < 2) ∧ u.on HDL_STATE.ARMED 0 = false := by
  have hexec : exec .lockstepMismatch s = .next (s.enterFail.mapIsl fun i =>
      { i with hwOff := true, resetDue := decide (s.f HDL_FAILCNT.COUNT 0 < 2) }) := by
    refine if_neg ?_
    rcases h with h | h <;> simp [h]
  refine ⟨_, hexec, s.enterFail_failed.mapIsl rfl rfl, rfl, rfl, ?_⟩
  rw [State.mapIsl_on]
  exact s.enterFail_disarms

/-! ### The safety reset -/

/-- The image of the safety slot, as its digest was found. -/
def State.imageJudged (s : State) (digestOk : Bool) : State :=
  if digestOk then s else s.mapIsl fun i => { i with image := false }

/-- The image runs again where its digest is right (R63). -/
def State.imageAgain (s : State) (digestOk : Bool) : State := (s.imageJudged digestOk).imageStarts

/-- The island resets itself, counted or not (R441, R446). -/
def State.resetsItself (s : State) (count digestOk : Bool) : State :=
  ((if count then s.bump HDL_FAILCNT.COUNT 0 else s).islandReset false).imageAgain digestOk

theorem State.islandReset_failcnt (s : State) (powerOn : Bool) :
    (s.islandReset powerOn).f HDL_FAILCNT.COUNT 0 = (if powerOn then 0 else s.f HDL_FAILCNT.COUNT 0) % 4 := by
  unfold State.islandReset
  exact State.f_setF_self ..

theorem State.islandReset_f (s : State) (powerOn : Bool) {F : Fld} (hF : F ∈ Blk.HDL.fields) (hne : F ≠ HDL_FAILCNT.COUNT)
    (i : Nat) : (s.islandReset powerOn).f F i = F.rst := by
  have hid : ∀ F ∈ Blk.HDL.fields, F ≠ HDL_FAILCNT.COUNT → F.id ≠ HDL_FAILCNT.COUNT.id := by decide
  have hu : ∀ (u : State) v, ((u.resetBlk .HDL).setF HDL_FAILCNT.COUNT 0 v).f F i = F.rst := fun u v =>
    (State.f_setF_ne _ (Fld.key_ne_of_id (Blk.fields_id_lt _ F hF) (by decide) (hid F hF hne) _ _) v).trans
      (u.f_resetBlk_mem hF i)
  unfold State.islandReset
  exact hu _ _

theorem State.imageStarts_isl (s : State) : s.imageStarts.isl = s.isl := by
  unfold State.imageStarts
  split <;> rfl

theorem State.imageStarts_hs {s : State} (h : s.hs = hsMonitor) :
    s.imageStarts.hs = if s.isl.image then hsStartup else hsMonitor := by
  unfold State.imageStarts
  rw [h]
  cases s.isl.image
  · exact h
  · exact State.f_setF_self ..

theorem State.imageStarts_f_ne (s : State) {F : Fld} (h : F.key 0 ≠ HDL_STATE.HS.key 0) :
    s.imageStarts.f F 0 = s.f F 0 := by
  unfold State.imageStarts
  split
  · exact State.f_setF_ne _ h _
  · rfl

theorem State.imageJudged_regs (s : State) (digestOk : Bool) : (s.imageJudged digestOk).regs = s.regs := by
  cases digestOk <;> rfl

theorem State.imageJudged_isl (s : State) (digestOk : Bool) :
    (s.imageJudged digestOk).isl = { s.isl with image := s.isl.image && digestOk } := by
  unfold State.imageJudged
  cases digestOk
  · rw [Bool.and_false]
    rfl
  · rw [Bool.and_true]
    rfl

theorem State.f_of_regs {s t : State} (h : t.regs = s.regs) (F : Fld) (i : Nat) : t.f F i = s.f F i := by
  unfold State.f
  rw [h]

/-- The island after it has reset itself. -/
def State.RunsAgain (s u : State) (count digestOk : Bool) : Prop :=
  u.hs = (if s.isl.image && digestOk then hsStartup else hsMonitor) ∧
    u.f HDL_FAILCNT.COUNT 0 = (if count && decide (s.f HDL_FAILCNT.COUNT 0 + 1 < 4) then s.f HDL_FAILCNT.COUNT 0 + 1
      else s.f HDL_FAILCNT.COUNT 0) % 4 ∧ u.isl.chans = [] ∧ u.isl.set = none ∧
    u.isl.ids = s.isl.ids ∧ u.isl.untested = s.isl.untested ∧ u.isl.hwOff = false ∧ u.auth = false

/-- The count of lockstep restarts saturates. -/
theorem State.counted_failcnt (s : State) (count : Bool) :
    (if count then s.bump HDL_FAILCNT.COUNT 0 else s).f HDL_FAILCNT.COUNT 0 % 4 =
      (if count && decide (s.f HDL_FAILCNT.COUNT 0 + 1 < 4) then s.f HDL_FAILCNT.COUNT 0 + 1
        else s.f HDL_FAILCNT.COUNT 0) % 4 := by
  cases count
  · rfl
  · rw [if_pos rfl, Bool.true_and]
    have hb : s.bump HDL_FAILCNT.COUNT 0 = if s.f HDL_FAILCNT.COUNT 0 + 1 < 4 then
        s.setF HDL_FAILCNT.COUNT 0 (s.f HDL_FAILCNT.COUNT 0 + 1) else s := rfl
    rw [hb]
    by_cases h : s.f HDL_FAILCNT.COUNT 0 + 1 < 4
    · rw [if_pos h, if_pos (decide_eq_true h), State.f_setF_self]
      exact Nat.mod_mod _ _
    · rw [if_neg h, if_neg (by simpa using h)]

theorem State.resetsItself_runs (s : State) (count digestOk : Bool) :
    s.RunsAgain (s.resetsItself count digestOk) count digestOk := by
  let c := if count then s.bump HDL_FAILCNT.COUNT 0 else s
  let j := (c.islandReset false).imageJudged digestOk
  have hu : s.resetsItself count digestOk = j.imageStarts := rfl
  have hc : c.isl = s.isl := by
    cases count
    · rfl
    · exact State.bump_isl _ _ _
  have hregs : ∀ F i, j.f F i = (c.islandReset false).f F i := State.f_of_regs (State.imageJudged_regs _ _)
  have hisl : j.isl = { (c.islandReset false).isl with image := s.isl.image && digestOk } := by
    rw [← hc]
    exact State.imageJudged_isl _ _
  have hhs : j.hs = hsMonitor := (hregs _ _).trans (State.islandReset_f _ _ (by decide) (by decide) _)
  rw [hu]
  refine ⟨?_, ?_, ?_, ?_, ?_, ?_, ?_, ?_⟩
  · rw [State.imageStarts_hs hhs, hisl]
  · rw [State.imageStarts_f_ne _ (by decide), hregs, State.islandReset_failcnt]
    exact s.counted_failcnt count
  · rw [State.imageStarts_isl, hisl]
    rfl
  · rw [State.imageStarts_isl, hisl]
    rfl
  · rw [State.imageStarts_isl, hisl, ← hc]
    rfl
  · rw [State.imageStarts_isl, hisl, ← hc]
    rfl
  · rw [State.imageStarts_isl, hisl]
    rfl
  · have hauth : j.f HDL_STATE.AUTH 0 = 0 := (hregs _ _).trans (State.islandReset_f _ _ (by decide) (by decide) _)
    unfold State.auth State.on
    rw [State.imageStarts_f_ne _ (by decide), hauth]
    rfl

/-- Where the safety memory fails, the island enters FAIL first. -/
theorem State.enterFail_runs {s u : State} {count digestOk : Bool} (h : s.enterFail.RunsAgain u count digestOk) :
    s.RunsAgain u count digestOk := by
  unfold State.RunsAgain at h ⊢
  rw [s.enterFail_failcnt, s.enterFail_isl] at h
  exact h

theorem execSafetyReset_due {s : State} (h : s.isl.resetDue = true) (digestOk : Bool) :
    exec (.headlandSafetyReset .lockstep digestOk) s = .next (s.resetsItself true digestOk) ∧
      exec (.headlandSafetyReset .wdog digestOk) s = .next (s.resetsItself false digestOk) :=
  ⟨if_pos h, if_pos h⟩

theorem execSafetyReset_notDue {s : State} (h : s.isl.resetDue = false) (digestOk : Bool) :
    exec (.headlandSafetyReset .lockstep digestOk) s = .next s ∧
      exec (.headlandSafetyReset .wdog digestOk) s = .next s :=
  ⟨if_neg (by simp [h]), if_neg (by simp [h])⟩

/-! ### The start -/

theorem length_filter_testBit (n : Nat) (l : List Nat) :
    (l.filter fun k => n.testBit k).length = (l.map fun k => n / 2 ^ k % 2).sum := by
  induction l with
  | nil => rfl
  | cons k l ih =>
    rw [List.map_cons, List.sum_cons, ← ih, List.filter_cons]
    have hbit : n.testBit k = decide (n / 2 ^ k % 2 = 1) := Nat.testBit_eq_decide_div_mod_eq
    split
    next h =>
      rw [hbit, decide_eq_true_iff] at h
      rw [List.length_cons, h, Nat.add_comm]
    next h =>
      rw [hbit, decide_eq_true_iff] at h
      omega

theorem sealsValid_iff (v : BitVec 12) : sealsValid v = true ↔
    v.toNat % 256 ≠ 0 ∧ v.toNat % 256 ≠ 255 ∧ (v.toNat / 256 % 4 = 1 ∨ v.toNat / 256 % 4 = 2) ∧
      v.toNat / 1024 = (((List.range 10).map fun k => v.toNat / 2 ^ k % 2).sum) % 4 := by
  unfold sealsValid
  dsimp only
  rw [length_filter_testBit]
  simp [and_assoc]

/-- The seals, latched. -/
def State.latches (s : State) (n : Nat) : State := (s.setF HDL_SEAL.LATCHED 0 n).setF HDL_SEAL.LIVE 0 n

/-- The times of the first cycle. -/
def State.firstCycle (s : State) : State :=
  s.mapIsl fun i => { i with recordAt := i.t, computeAt := i.t, pulseAt := [i.t, i.t] }

/-- A start that does not fail, before its state: the seals latched, the parameter set read and in force. -/
def State.started (s : State) (n : Nat) : State := ((s.latches n).installSet (s.latches n).readParams).firstCycle

theorem State.firstCycle_f (s : State) (F : Fld) (i : Nat) : s.firstCycle.f F i = s.f F i := rfl
theorem State.firstCycle_set (s : State) : s.firstCycle.isl.set = s.isl.set := rfl
theorem State.firstCycle_ids (s : State) : s.firstCycle.isl.ids = s.isl.ids := rfl
theorem State.buildHrec_f (s : State) (F : Fld) (i : Nat) : s.buildHrec.f F i = s.f F i := rfl

theorem State.readParams_congr {s t : State} (h : t.boot.flash = s.boot.flash) : t.readParams = s.readParams := by
  have hread : ∀ n a, t.flashRead a n = s.flashRead a n := by
    intro n
    induction n with
    | zero => exact fun a => rfl
    | succ n ih =>
      intro a
      rw [State.flashRead, State.flashRead, ih, h]
  have hbody : ∀ c, t.copyBody c = s.copyBody c := fun c => by
    unfold State.copyBody
    simp only [hread]
  have hcopy : ∀ c, t.readCopy c = s.readCopy c := fun c => by
    unfold State.readCopy
    rw [hbody]
  unfold State.readParams
  rw [hbody, hbody, hcopy, hcopy]

theorem State.latches_readParams (s : State) (n : Nat) : (s.latches n).readParams = s.readParams :=
  State.readParams_congr rfl

theorem State.latches_latched (s : State) (n : Nat) : (s.latches n).f HDL_SEAL.LATCHED 0 = n % 2 ^ 12 := by
  unfold State.latches
  rw [State.f_setF_ne _ (by decide), State.f_setF_self]
  rfl

theorem State.installSet_set (s : State) (p : Option ParamSet) : (s.installSet p).isl.set = p := by
  unfold State.installSet State.showSet
  dsimp only
  split <;> rfl

theorem State.installSet_ids (s : State) (p : Option ParamSet) : (s.installSet p).isl.ids = s.isl.ids := by
  unfold State.installSet State.showSet
  dsimp only
  split <;> rfl

theorem State.showSet_latched (s : State) : s.showSet.f HDL_SEAL.LATCHED 0 = s.f HDL_SEAL.LATCHED 0 := by
  have hregs : ∀ (u : State) a b c d, ((((u.setF HDL_PCRC.PCRC 0 a).setF HDL_CHECK.C 0 b).setF HDL_CONF.CONF_C 0 c).setOn
      HDL_STATE.REBIND 0 d).f HDL_SEAL.LATCHED 0 = u.f HDL_SEAL.LATCHED 0 := fun u a b c d => by
    unfold State.setOn
    rw [State.f_setF_ne _ (by decide), State.f_setF_ne _ (by decide), State.f_setF_ne _ (by decide),
      State.f_setF_ne _ (by decide)]
  unfold State.showSet
  split
  · exact hregs ..
  · exact hregs ..

theorem State.installSet_latched (s : State) (p : Option ParamSet) :
    (s.installSet p).f HDL_SEAL.LATCHED 0 = s.f HDL_SEAL.LATCHED 0 := by
  unfold State.installSet
  rw [State.showSet_latched]
  rfl

theorem State.started_set (s : State) (n : Nat) : (s.started n).isl.set = s.readParams := by
  unfold State.started
  rw [State.firstCycle_set, State.installSet_set, State.latches_readParams]

theorem State.started_ids (s : State) (n : Nat) : (s.started n).isl.ids = s.isl.ids := by
  unfold State.started
  rw [State.firstCycle_ids, State.installSet_ids]
  rfl

theorem State.started_latched (s : State) (n : Nat) : (s.started n).f HDL_SEAL.LATCHED 0 = n % 2 ^ 12 := by
  unfold State.started
  rw [State.firstCycle_f, State.installSet_latched, State.latches_latched]

/-- The state in which a start with posture 1 ends. -/
def State.startState (s : State) : Nat :=
  if s.isl.set.isSome && s.sealsMatch && s.confStored then hsStopped else hsUnconfirmed

theorem execStartup_idle {s : State} (h : s.hs ≠ hsStartup) (seals : BitVec 12) (test offs : Bool) :
    exec (.startup seals test offs) s = .next s := if_pos h

theorem execStartup_fails {s : State} (h : s.hs = hsStartup) {seals : BitVec 12} {test offs : Bool}
    (hf : test = false ∨ ¬sealsValid seals = true ∨ offs = false) :
    exec (.startup seals test offs) s = .next s.enterFail := by
  refine (if_neg (not_not.mpr h)).trans (if_pos ?_)
  rcases hf with hf | hf | hf <;> simp [hf]

theorem execStartup_starts {s : State} (h : s.hs = hsStartup) {seals : BitVec 12} (hv : sealsValid seals = true) :
    exec (.startup seals true true) s = .next (if seals.toNat / 256 % 4 = 2 then
      ((s.started seals.toNat).setHs hsNoMachine).buildHrec else
      ((s.started seals.toNat).setHs (s.started seals.toNat).startState).hitchStart.showCauses.buildHrec) := by
  have hexec : exec (.startup seals true true) s = if seals.toNat / 256 % 4 = 2 then
      .next ((s.started seals.toNat).setHs hsNoMachine).buildHrec else
      .next ((s.started seals.toNat).setHs (s.started seals.toNat).startState).hitchStart.showCauses.buildHrec :=
    (if_neg (not_not.mpr h)).trans (if_neg (by simp [hv]))
  rw [hexec]
  split <;> rfl

/-- STOPPED follows where the set's confirmation is stored and the seals match (R451). -/
theorem State.startState_eq (s : State) : s.startState = match s.isl.set with
    | none => hsUnconfirmed
    | some p => if p.params.island.expectSeal = s.f HDL_SEAL.LATCHED 0 ∧ p.valid = true ∧
        p.confC = checkValue p.pcrc p.bind p.ids ∧ p.ids.head? = s.isl.ids.head? then hsStopped else hsUnconfirmed := by
  unfold State.startState State.sealsMatch State.confStored State.irec? State.params?
  cases s.isl.set with
  | none => rfl
  | some p => simp [and_assoc]

/-- The connections that start leave the latched seals. -/
theorem State.hitchStart_latched (s : State) : s.hitchStart.f HDL_SEAL.LATCHED 0 = s.f HDL_SEAL.LATCHED 0 := by
  have hstep : ∀ (u : State) (n : Nat) (b : Bool), ((u.connStart n).setOn HDL_HT_STATE.FORCED n b).f HDL_SEAL.LATCHED 0 =
      u.f HDL_SEAL.LATCHED 0 := fun u n b =>
    (State.f_setF_ne _ (Fld.key_ne_of_id (by decide) (by decide) (by decide) _ _) _).trans
      (State.f_setF_ne _ (Fld.key_ne_of_id (by decide) (by decide) (by decide) _ _) _)
  have hfold : ∀ (l : List Nat) (u : State), (l.foldl (fun s n =>
      match s.connRec? n with
      | none => ((s.setF HDL_HT_STATE.HT n htClosed).setOn HDL_HT_STATE.FORCED n false).setF HDL_HT_STATE.REMOTE n 0
      | some r => (s.connStart n).setOn HDL_HT_STATE.FORCED n r.ackReq) u).f HDL_SEAL.LATCHED 0 =
        u.f HDL_SEAL.LATCHED 0 := by
    intro l
    induction l with
    | nil => exact fun u => rfl
    | cons n l ih =>
      intro u
      rw [List.foldl_cons, ih]
      split
      · exact (State.f_setF_ne _ (Fld.key_ne_of_id (by decide) (by decide) (by decide) _ _) _).trans
          ((State.f_setF_ne _ (Fld.key_ne_of_id (by decide) (by decide) (by decide) _ _) _).trans
            (State.f_setF_ne _ (Fld.key_ne_of_id (by decide) (by decide) (by decide) _ _) _))
      · exact hstep u n _
  exact hfold _ s

/-- What a start ends with, whatever its posture: the state entered, the seals latched, the set in force. -/
theorem State.setHs_starts {s u : State} {n v : Nat} (hn : n < 2 ^ 12) (hv : v < 8) (hf : u.face = ((s.started n).setHs v).face)
    (hl : u.f HDL_SEAL.LATCHED 0 = ((s.started n).setHs v).f HDL_SEAL.LATCHED 0) :
    u.f HDL_SEAL.LATCHED 0 = n ∧ u.isl.set = s.readParams ∧ u.hs = v := by
  refine ⟨?_, ?_, ?_⟩
  · rw [hl]
    exact (State.f_setF_ne _ (by decide) _).trans ((s.started_latched n).trans (Nat.mod_eq_of_lt hn))
  · rw [← State.face_set, hf, State.face_set]
    exact s.started_set n
  · rw [← State.face_hs, hf, State.setHs_face _ hv]

theorem execStartup_results {s : State} (h : s.hs = hsStartup) {seals : BitVec 12} (hv : sealsValid seals = true) :
    answers (.startup seals true true) s fun u =>
      u.f HDL_SEAL.LATCHED 0 = seals.toNat ∧ u.isl.set = s.readParams ∧
      (seals.toNat / 256 % 4 = 2 → u.hs = hsNoMachine) ∧
      (seals.toNat / 256 % 4 = 1 → match s.readParams with
        | none => u.hs = hsUnconfirmed
        | some p => u.hs = (if p.params.island.expectSeal = seals.toNat ∧ p.valid = true ∧
            p.confC = checkValue p.pcrc p.bind p.ids ∧ p.ids.head? = s.isl.ids.head? then hsStopped else hsUnconfirmed)) := by
  refine ⟨_, execStartup_starts h hv, ?_⟩
  have hlt : seals.toNat < 2 ^ 12 := seals.isLt
  generalize hn : seals.toNat = n at hlt ⊢
  have hstart : (s.started n).startState < 8 := by
    unfold State.startState
    split <;> decide
  split
  next hp =>
    obtain ⟨hl, hset, hhs⟩ := State.setHs_starts (u := ((s.started n).setHs hsNoMachine).buildHrec) hlt (by decide)
      (State.buildHrec_face _) (State.buildHrec_f _ _ _)
    exact ⟨hl, hset, fun _ => hhs, fun h1 => absurd (h1.symm.trans hp) (by decide)⟩
  next hp =>
    obtain ⟨hl, hset, hhs⟩ := State.setHs_starts
      (u := ((s.started n).setHs (s.started n).startState).hitchStart.showCauses.buildHrec) hlt hstart
      (by rw [State.buildHrec_face, State.showCauses_face, State.hitchStart_face])
      (by rw [State.buildHrec_f, State.showCauses, State.f_setF_ne _ (by decide), State.hitchStart_latched])
    refine ⟨hl, hset, fun h2 => absurd h2 hp, fun _ => ?_⟩
    rw [hhs, State.startState_eq, State.started_set, State.started_ids, State.started_latched, Nat.mod_eq_of_lt hlt]
    cases s.readParams <;> rfl

/-- Settles O50: the start, the entry to FAIL and the island's own reset, each by what it leaves. -/
theorem islandStartAndFailResults : Obligations.IslandStartAndFailResults := by
  unfold Obligations.IslandStartAndFailResults
  refine ⟨fun s seals test offs => ?_, fun s digestOk => ?_⟩
  · dsimp only
    rw [← sealsValid_iff]
    refine ⟨fun h => execStartup_idle h seals test offs, fun h hf => execStartup_fails h hf, fun h ht hv ho => ?_⟩
    subst ht ho
    exact execStartup_results h hv
  · refine ⟨s.enterFail_failed, fun h hd => if_pos (by simp [h, hd]), execLockstepMismatch_results,
      ⟨_, rfl, s.enterFail_failed.mapIsl rfl rfl, rfl, rfl⟩, ⟨_, rfl, ?_, s.pathsOff.islandReset_failcnt true, rfl, ?_⟩,
      fun h => execSafetyReset_notDue h digestOk, fun h => ?_, fun h => ?_, fun h => ?_⟩
    · exact s.pathsOff.islandReset_f true (by decide) (by decide) 0
    · exact fun F hF hne i _ => s.pathsOff.islandReset_f true hF hne i
    · obtain ⟨hl, hw⟩ := execSafetyReset_due h digestOk
      exact ⟨⟨_, hl, s.resetsItself_runs true digestOk⟩, ⟨_, hw, s.resetsItself_runs false digestOk⟩⟩
    · exact ⟨_, if_pos h, State.enterFail_runs (s.enterFail.resetsItself_runs true digestOk)⟩
    · exact ⟨_, if_neg (Nat.not_lt.mpr h), s.enterFail_failed.mapIsl rfl rfl, rfl⟩

end Sys2Proof.Machine
end

section
/-! PROOF. A plot reset: the queues, streams, ledger entries and attachment that it takes away (Table 2-4, R364). -/

namespace Sys2Proof.Machine

/-! ### Fields written one after the other -/

/-- A field at another place. -/
theorem Fld.key_ne_of_inst {F G : Fld} (hF : F.id < 4096) (hG : G.id < 4096) {i j : Nat} (h : i ≠ j) : F.key i ≠ G.key j := by
  unfold Fld.key
  omega

/-- A field at one place after a pass over a list of fields at one place. -/
theorem foldl_fields_f (v : Fld → Nat) {G : Fld} (hG : G.id < 4096) (q i : Nat) :
    ∀ (Fs : List Fld) (s : State), (∀ F ∈ Fs, F.id < 4096 ∧ (F.id = G.id → F = G)) →
      (Fs.foldl (fun s F => s.setF F q (v F)) s).f G i = if G ∈ Fs ∧ i = q then v G % 2 ^ G.width else s.f G i := by
  intro Fs
  induction Fs with
  | nil =>
    intro s _
    simp
  | cons F Fs ih =>
    intro s h
    obtain ⟨hid, hinj⟩ := h F (List.mem_cons_self ..)
    rw [List.foldl_cons, ih _ fun G hG => h G (List.mem_cons_of_mem _ hG)]
    by_cases hm : G ∈ Fs ∧ i = q
    · rw [if_pos hm, if_pos ⟨List.mem_cons_of_mem _ hm.1, hm.2⟩]
    · rw [if_neg hm]
      by_cases hn : G = F ∧ i = q
      · obtain ⟨rfl, rfl⟩ := hn
        rw [if_pos ⟨List.mem_cons_self .., rfl⟩, State.f_setF_self]
      · rw [if_neg fun e => (List.mem_cons.mp e.1).elim (fun x => hn ⟨x, e.2⟩) fun x => hm ⟨x, e.2⟩]
        refine State.f_setF_ne _ (fun e => ?_) _
        by_cases hi : i = q
        · refine hn ⟨(hinj ?_).symm, hi⟩
          subst hi
          unfold Fld.key at e
          omega
        · exact Fld.key_ne_of_inst hG hid hi e

/-! ### What a plot owns only shrinks -/

/-- The parts in which a plot's queues, streams, ledger entries and attachment stand. -/
def plotPart (p : Facet) : Bool := decide (p = .blk .DRL ∨ p = .blk .HRW ∨ p = .blk .HST ∨ p = .host ∨ p = .drill)

/-- From `s` to `u` no queue is enabled, no stream opened, no ledger entry made, and no function leaves its attachment for
another than ATTACHED. -/
structure State.Fewer (s u : State) : Prop where
  queues : ∀ q, u.on DRL_Q_CFG.EN q = true → s.on DRL_Q_CFG.EN q = true
  streams : ∀ n ∈ u.host.streams.map (·.1), n ∈ s.host.streams.map (·.1) ∧ u.f HRW_S_STAT.PLOT n = s.f HRW_S_STAT.PLOT n
  ledger : ∀ x ∈ u.drill.ledger, x ∈ s.drill.ledger
  attached : ∀ p, u.f HST_ATTACH.STATE p = 0 ∨ u.f HST_ATTACH.STATE p = s.f HST_ATTACH.STATE p

theorem State.Fewer.refl (s : State) : s.Fewer s := ⟨fun _ h => h, fun _ h => ⟨h, rfl⟩, fun _ h => h, fun _ => .inr rfl⟩

theorem State.Fewer.trans {s t u : State} (h : s.Fewer t) (k : t.Fewer u) : s.Fewer u where
  queues q hq := h.queues q (k.queues q hq)
  streams n hn := ⟨(h.streams n (k.streams n hn).1).1, (k.streams n hn).2.trans (h.streams n (k.streams n hn).1).2⟩
  ledger x hx := h.ledger x (k.ledger x hx)
  attached p := (k.attached p).elim .inl fun e => (h.attached p).imp e.trans e.trans

theorem foldl_fewer {α : Type} {f : State → α → State} (hf : ∀ (s : State) a, s.Fewer (f s a)) (l : List α) (s : State) :
    s.Fewer (l.foldl f s) := by
  induction l generalizing s with
  | nil => exact .refl s
  | cons a l ih => exact (hf s a).trans (ih _)

/-- An operation that writes none of the registers nor of the lists concerned. -/
theorem State.Fewer.of_eq {s u : State} (hr : u.regs = s.regs) (hs : u.host.streams = s.host.streams)
    (hl : ∀ x ∈ u.drill.ledger, x ∈ s.drill.ledger) : s.Fewer u := by
  have hf : ∀ F i, u.f F i = s.f F i := fun F i => by
    unfold State.f
    rw [hr]
  refine ⟨fun q hq => ?_, fun n hn => ⟨hs ▸ hn, hf _ _⟩, hl, fun p => .inr (hf _ _)⟩
  unfold State.on at hq ⊢
  rw [← hf]
  exact hq

theorem State.Fewer.of_keep {s u : State} (h : u.keep plotPart = s.keep plotPart) : s.Fewer u := by
  refine ⟨fun q hq => ?_, fun n hn => ⟨?_, f_of_keep h rfl n⟩, fun x hx => ?_, fun p => .inr (f_of_keep h rfl p)⟩
  · unfold State.on at hq ⊢
    rw [← f_of_keep h rfl q]
    exact hq
  · rw [← host_of_keep h rfl]
    exact hn
  · rw [← drill_of_keep h rfl]
    exact hx

/-! ### A plot that owns nothing -/

/-- The plot's queues are disabled. -/
def State.queuesOff (s : State) (p : Nat) : Prop := ∀ q, q < 8 → s.on DRL_Q_CFG.EN (8 * p + q) = false

/-- The plot has no ledger entry. -/
def State.unbooked (s : State) (p : Nat) : Prop := ∀ x ∈ s.drill.ledger, x.2.plot ≠ p

/-- The plot owns nothing any more, and its function is attached (Table 2-4). -/
structure State.PlotGone (s : State) (p : Nat) : Prop where
  queues : s.queuesOff p
  streams : s.openStreams p = []
  ledger : s.unbooked p
  attached : s.f HST_ATTACH.STATE p = 0

theorem State.queuesOff.fewer {s u : State} {p : Nat} (h : s.queuesOff p) (k : s.Fewer u) : u.queuesOff p := by
  intro q hq
  by_contra e
  exact absurd (k.queues _ (Bool.eq_true_of_not_eq_false e)) (by rw [h q hq]; decide)

theorem State.openStreams_fewer {s u : State} {p : Nat} (h : s.openStreams p = []) (k : s.Fewer u) :
    u.openStreams p = [] := by
  simp only [State.openStreams, List.filter_eq_nil_iff, decide_eq_true_eq] at h ⊢
  intro n hn
  obtain ⟨hm, hp⟩ := k.streams n hn
  rw [hp]
  exact h n hm

theorem State.unbooked.fewer {s u : State} {p : Nat} (h : s.unbooked p) (k : s.Fewer u) : u.unbooked p :=
  fun x hx => h x (k.ledger x hx)

theorem State.attached_fewer {s u : State} {p : Nat} (h : s.f HST_ATTACH.STATE p = 0) (k : s.Fewer u) :
    u.f HST_ATTACH.STATE p = 0 := (k.attached p).elim id fun e => e.trans h

theorem State.PlotGone.fewer {s u : State} {p : Nat} (h : s.PlotGone p) (k : s.Fewer u) : u.PlotGone p :=
  ⟨h.queues.fewer k, State.openStreams_fewer h.streams k, h.ledger.fewer k, State.attached_fewer h.attached k⟩

/-! ### The parts of a plot reset -/

theorem State.retireSilently_fewer (s : State) (p : Nat) : s.Fewer (s.retireSilently p) :=
  .of_eq rfl rfl fun _ hx => (List.mem_filter.mp hx).1

theorem State.retireSilently_unbooked (s : State) (p : Nat) : (s.retireSilently p).unbooked p := fun _ hx =>
  of_decide_eq_true (List.mem_filter.mp hx).2

theorem State.dropLoops_fewer (s : State) (p : Nat) : s.Fewer (s.dropLoops p) := .of_keep (by simp (disch := decide))

/-- The streams but one. -/
theorem State.dropStream_streams (s : State) (n : Nat) : (s.dropStream n).host.streams = drop n s.host.streams := rfl

theorem State.dropStream_plot (s : State) {n k : Nat} (h : k ≠ n) :
    (s.dropStream n).f HRW_S_STAT.PLOT k = s.f HRW_S_STAT.PLOT k := by
  have hne : ∀ (u : State) {F : Fld} (_ : F.id < 4096) v, (u.setF F n v).f HRW_S_STAT.PLOT k = u.f HRW_S_STAT.PLOT k :=
    fun u F hF v => State.f_setF_ne _ (Fld.key_ne_of_inst (by decide) hF h) v
  unfold State.dropStream State.setOn
  simp (disch := decide) only [hne]
  rfl

theorem mem_keys_drop {α : Type} {n k : Nat} {l : List (Nat × α)} :
    k ∈ (drop n l).map (·.1) ↔ k ≠ n ∧ k ∈ l.map (·.1) := by
  simp only [drop, List.mem_map, List.mem_filter, decide_eq_true_eq]
  constructor
  · rintro ⟨c, ⟨hc, hn⟩, rfl⟩
    exact ⟨hn, c, hc, rfl⟩
  · rintro ⟨hn, c, hc, rfl⟩
    exact ⟨c, ⟨hc, hn⟩, rfl⟩

theorem State.dropStream_fewer (s : State) (n : Nat) : s.Fewer (s.dropStream n) where
  queues q hq := by
    rw [on_of_only (F := DRL_Q_CFG.EN) rfl (State.dropStream_keep (Facet.only_ne (by decide)) (Facet.only_ne (by decide)) _ _)] at hq
    exact hq
  streams k hk := by
    rw [State.dropStream_streams, mem_keys_drop] at hk
    exact ⟨hk.2, s.dropStream_plot hk.1⟩
  ledger _ hx := hx
  attached p := .inr (f_of_only (F := HST_ATTACH.STATE) rfl
    (State.dropStream_keep (Facet.only_ne (by decide)) (Facet.only_ne (by decide)) _ _) p)

/-- A pass over streams leaves none of them open. -/
theorem foldl_dropStream_streams (l : List Nat) (s : State) :
    ∀ n ∈ (l.foldl (fun s n => s.dropStream n) s).host.streams.map (·.1), n ∉ l := by
  induction l generalizing s with
  | nil => exact fun n _ h => by cases h
  | cons a l ih =>
    intro n hn hm
    rw [List.foldl_cons] at hn
    rcases List.mem_cons.mp hm with rfl | hm
    · have hk := ((foldl_fewer (fun s n => s.dropStream_fewer n) l (s.dropStream n)).streams n hn).1
      rw [State.dropStream_streams, mem_keys_drop] at hk
      exact hk.1 rfl
    · exact ih _ n hn hm

theorem dropStreams_open (s : State) (p : Nat) :
    ((s.openStreams p).foldl (fun s n => s.dropStream n) s).openStreams p = [] := by
  have hf := foldl_fewer (fun s n => s.dropStream_fewer n) (s.openStreams p) s
  have hgone := foldl_dropStream_streams (s.openStreams p) s
  generalize (s.openStreams p).foldl (fun s n => s.dropStream n) s = u at hf hgone ⊢
  unfold State.openStreams
  rw [List.filter_eq_nil_iff]
  intro n hn hp
  obtain ⟨hm, he⟩ := hf.streams n hn
  refine hgone n hn (List.mem_filter.mpr ⟨hm, ?_⟩)
  rw [← he]
  exact hp

/-- A queue's registers at their reset values. -/
def State.resetQueue (s : State) (q : Nat) : State := queueFields.foldl (fun s F => s.setF F q F.rst) s

theorem queueFields_id : ∀ F ∈ queueFields, F.id < 4096 ∧ (F.id = DRL_Q_CFG.EN.id → F = DRL_Q_CFG.EN) ∧ F.blk = .DRL := by
  decide

theorem State.resetQueue_en (s : State) (q k : Nat) :
    (s.resetQueue q).f DRL_Q_CFG.EN k = if k = q then 0 else s.f DRL_Q_CFG.EN k := by
  have hmem : DRL_Q_CFG.EN ∈ queueFields := by decide
  unfold State.resetQueue
  rw [foldl_fields_f Fld.rst (by decide) q k _ _ fun F hF => ⟨(queueFields_id F hF).1, (queueFields_id F hF).2.1⟩]
  simp only [hmem, true_and]
  rfl

theorem State.resetQueue_keep {m : Facet → Bool} (h : m (.blk .DRL) = false) (s : State) (q : Nat) :
    (s.resetQueue q).keep m = s.keep m :=
  foldl_keep_mem _ (fun s F hF => State.setF_keep _ _ (by rw [(queueFields_id F hF).2.2]; exact h) _ _) _

theorem State.resetQueue_fewer (s : State) (q : Nat) : s.Fewer (s.resetQueue q) where
  queues k hk := by
    unfold State.on at hk ⊢
    rw [State.resetQueue_en] at hk
    split at hk
    · exact absurd hk (by decide)
    · exact hk
  streams n hn := by
    have hk := State.resetQueue_keep (m := among [.host, .blk .HRW]) rfl s q
    rw [host_of_keep hk rfl] at hn
    exact ⟨hn, f_of_keep hk rfl n⟩
  ledger x hx := by
    rw [drill_of_keep (State.resetQueue_keep (m := among [.drill]) rfl s q) rfl] at hx
    exact hx
  attached p := .inr (f_of_keep (State.resetQueue_keep (m := among [.blk .HST]) rfl s q) rfl p)

theorem resetQueues_off (p : Nat) (s : State) : ((plotQueues p).foldl (fun s q => s.resetQueue q) s).queuesOff p := by
  have hoff : ∀ (l : List Nat) (s : State), ∀ q ∈ l, (l.foldl (fun s q => s.resetQueue q) s).on DRL_Q_CFG.EN q = false := by
    intro l
    induction l with
    | nil => exact fun s q h => by cases h
    | cons a l ih =>
      intro s q hq
      rw [List.foldl_cons]
      by_cases hl : q ∈ l
      · exact ih _ q hl
      · have hqa : q = a := (List.mem_cons.mp hq).resolve_right hl
        by_contra e
        have hen := (foldl_fewer (fun s q => s.resetQueue_fewer q) l (s.resetQueue a)).queues q (Bool.eq_true_of_not_eq_false e)
        unfold State.on at hen
        rw [State.resetQueue_en, if_pos hqa] at hen
        exact absurd hen (by decide)
  exact fun q hq => hoff _ s _ (List.mem_map.mpr ⟨q, List.mem_range.mpr hq, rfl⟩)

/-- The fields of HST_ that a plot reset resets. -/
def attachFields : List Fld :=
  [HST_ATTACH.STATE, HST_ATTACH.SESSION, HST_ATTACH.CAUSE, HST_ATTACH.REBASE, HST_RB_SEL.KIND, HST_RB_SEL.INDEX,
    HST_RB_BASE.ADDR, HST_RB_CRBASE.ADDR, HST_RB_CTL.BUSY, HST_RB_CTL.ERR, HST_APTDROP.COUNT]

theorem attachFields_id : ∀ F ∈ attachFields, F.id < 4096 ∧ (F.id = HST_ATTACH.STATE.id → F = HST_ATTACH.STATE) ∧
    F.blk = .HST := by decide

/-- The function's registers at their reset values. -/
def State.unattach (s : State) (p : Nat) : State := attachFields.foldl (fun s F => s.setF F p F.rst) s

theorem State.resetFunction_eq (s : State) (p : Nat) : s.resetFunction p = { s.unattach p with
    host := { (s.unattach p).host with fns := drop p (s.unattach p).host.fns }
    vecs := (s.unattach p).vecs.filter fun x : Nat × Vec => x.1 / 256 ≠ p } := rfl

theorem State.unattach_keep {m : Facet → Bool} (h : m (.blk .HST) = false) (s : State) (p : Nat) :
    (s.unattach p).keep m = s.keep m :=
  foldl_keep_mem _ (fun s F hF => State.setF_keep _ _ (by rw [(attachFields_id F hF).2.2]; exact h) _ _) _

theorem State.resetFunction_state (s : State) (p q : Nat) :
    (s.resetFunction p).f HST_ATTACH.STATE q = if q = p then 0 else s.f HST_ATTACH.STATE q := by
  have hmem : HST_ATTACH.STATE ∈ attachFields := by decide
  have hu : (s.unattach p).f HST_ATTACH.STATE q = if HST_ATTACH.STATE ∈ attachFields ∧ q = p then
      HST_ATTACH.STATE.rst % 2 ^ HST_ATTACH.STATE.width else s.f HST_ATTACH.STATE q :=
    foldl_fields_f Fld.rst (by decide) p q _ _ fun F hF => ⟨(attachFields_id F hF).1, (attachFields_id F hF).2.1⟩
  simp only [hmem, true_and] at hu
  exact (State.f_of_regs (s := s.unattach p) (by rw [State.resetFunction_eq]) _ _).trans hu

theorem State.resetFunction_streams (s : State) (p : Nat) : (s.resetFunction p).host.streams = s.host.streams := by
  have hh : (s.unattach p).host = s.host := host_of_keep (m := among [.host]) (State.unattach_keep rfl s p) rfl
  rw [State.resetFunction_eq]
  dsimp only
  rw [hh]

theorem State.resetFunction_fewer (s : State) (p : Nat) : s.Fewer (s.resetFunction p) where
  queues q hq := by
    rw [on_of_only (F := DRL_Q_CFG.EN) rfl (State.resetFunction_keep (Facet.only_ne (by decide)) (Facet.only_ne (by decide))
      (Facet.only_ne (by decide)) _ _)] at hq
    exact hq
  streams n hn := by
    rw [State.resetFunction_streams] at hn
    exact ⟨hn, f_of_keep (m := among [.blk .HRW]) (State.resetFunction_keep rfl rfl rfl _ _) rfl n⟩
  ledger x hx := by
    rw [drill_of_keep (m := among [.drill]) (State.resetFunction_keep rfl rfl rfl _ _) rfl] at hx
    exact hx
  attached q := by
    rw [State.resetFunction_state]
    split
    · exact .inl rfl
    · exact .inr rfl

theorem State.returnOn_fewer (s : State) (c : Nat) : s.Fewer (s.returnOn c) := by
  unfold State.returnOn
  split
  · exact .refl s
  · split
    · exact .of_keep (by simp (disch := decide))
    · exact .of_keep (by simp (disch := decide))
    · exact .of_eq rfl rfl fun _ hx => hx

theorem State.dropChannel_fewer (s : State) (c : Nat) : s.Fewer (s.dropChannel c) := by
  unfold State.dropChannel
  refine State.Fewer.trans ?_ (State.returnOn_fewer _ c)
  split
  · exact .of_keep (by simp (disch := decide))
  · exact .of_eq rfl rfl fun _ hx => hx

/-- The cores of a finished plot reset, zeroed and free. -/
def State.freeCore (s : State) (n : Nat) : State := (s.zeroCore n).setCore n { (s.zeroCore n).core n with lease := none }

theorem State.freeCore_fewer (s : State) (n : Nat) : s.Fewer (s.freeCore n) := .of_keep (by simp (disch := decide) [State.freeCore])

/-- The plot's record, and the list of plot resets. -/
def State.forgetPlot (s : State) (p : Nat) : State :=
  let chans := (s.plot p).channels
  let s := { s with drill := { s.drill with plots := drop p s.drill.plots } }
  let s := if chans.isEmpty then s else s.setPlot p { channels := chans }
  { s with clk := { s.clk with plotReset := s.clk.plotReset.filter (· ≠ p) } }

theorem State.forgetPlot_fewer (s : State) (p : Nat) : s.Fewer (s.forgetPlot p) := by
  unfold State.forgetPlot
  dsimp only
  split
  · exact .of_eq rfl rfl fun _ hx => hx
  · exact .of_eq rfl rfl fun _ hx => hx

theorem State.plotFinish_eq (s : State) (p : Nat) :
    s.plotFinish p = (((List.range 128).filter fun n => (s.core n).lease = some p).foldl (fun s n => s.freeCore n)
      ((s.wholeFurrows p ((List.range 128).filter fun n => (s.core n).lease = some p)).foldl (fun s f => s.flushFurrow f)
        s)).forgetPlot p := rfl

theorem State.plotFinish_fewer (s : State) (p : Nat) : s.Fewer (s.plotFinish p) := by
  rw [State.plotFinish_eq]
  refine State.Fewer.trans ?_ (State.forgetPlot_fewer _ p)
  refine State.Fewer.trans ?_ (foldl_fewer (fun s n => s.freeCore_fewer n) _ _)
  exact foldl_fewer (fun s f => .of_keep (by simp (disch := decide))) _ _

theorem State.plotStep_fewer (s : State) : s.Fewer s.plotStep := foldl_fewer (fun s p => s.plotFinish_fewer p) _ _

/-! ### The plot reset -/

/-- A plot reset up to its queues: ledger entries, loops and streams. -/
def State.plotWork (s : State) (p : Nat) : State :=
  let s := (s.retireSilently p).dropLoops p
  (s.openStreams p).foldl (fun s n => s.dropStream n) s

/-- The plot's binder operations are switched off. -/
def State.plotBinders (s : State) (p : Nat) : State :=
  ((List.range 64).filter fun n => s.on BND_OP_CTL.V n && s.f BND_OP_PLOT.PLOT n = p).foldl
    (fun s n => s.bndCtl n false false false 0 0) s

/-- What a plot reset does once its function is reset: the channels, and the thread-group resets of its cores. -/
def State.plotHardware (s : State) (p : Nat) : State :=
  let s := (s.plot p).channels.foldl (fun s c => s.dropChannel c) s
  let cores := (List.range 128).filter fun n => (s.core n).lease = some p
  let s := cores.foldl (fun s n => s.tgBegin n) s
  { s with clk := { s.clk with plotReset := p :: s.clk.plotReset } }.plotStep

theorem State.plotReset_eq {s : State} {p : Nat} (h : s.clk.plotReset.contains p = false) :
    s.plotReset p = (((((plotQueues p).foldl (fun s q => s.resetQueue q) (s.plotWork p)).plotBinders p).resetFunction
      p).plotHardware p) := by
  unfold State.plotReset State.plotHardware State.plotBinders State.plotWork State.resetQueue
  rw [if_neg (by rw [h]; decide)]

theorem State.plotWork_fewer (s : State) (p : Nat) : s.Fewer (s.plotWork p) :=
  (s.retireSilently_fewer p).trans ((State.dropLoops_fewer _ p).trans (foldl_fewer (fun s n => s.dropStream_fewer n) _ _))

theorem State.plotBinders_fewer (s : State) (p : Nat) : s.Fewer (s.plotBinders p) :=
  foldl_fewer (fun s n => .of_keep (by simp (disch := decide))) _ _

theorem State.plotHardware_fewer (s : State) (p : Nat) : s.Fewer (s.plotHardware p) := by
  unfold State.plotHardware
  dsimp only
  have hchans := foldl_fewer (fun s c => State.dropChannel_fewer s c) (s.plot p).channels s
  generalize (s.plot p).channels.foldl _ s = u at hchans ⊢
  have hcores := foldl_fewer (f := fun s n => s.tgBegin n) (fun s n => .of_keep (by simp (disch := decide)))
    ((List.range 128).filter fun n => (u.core n).lease = some p) u
  generalize List.foldl _ u _ = v at hcores ⊢
  refine hchans.trans (hcores.trans (State.Fewer.trans ?_ (State.plotStep_fewer _)))
  exact .of_eq rfl rfl fun _ hx => hx

theorem State.plotReset_fewer (s : State) (p : Nat) : s.Fewer (s.plotReset p) := by
  cases h : s.clk.plotReset.contains p
  · rw [State.plotReset_eq h]
    exact (s.plotWork_fewer p).trans ((foldl_fewer (fun s q => s.resetQueue_fewer q) _ _).trans
      ((State.plotBinders_fewer _ p).trans ((State.resetFunction_fewer _ p).trans (State.plotHardware_fewer _ p))))
  · have hs : s.plotReset p = s := by
      unfold State.plotReset
      rw [h]
      rfl
    rw [hs]
    exact .refl s

/-- A plot reset takes away all that the plot owns. -/
theorem State.plotReset_gone {s : State} {p : Nat} (h : s.clk.plotReset.contains p = false) : (s.plotReset p).PlotGone p := by
  rw [State.plotReset_eq h]
  have hbooks : (s.plotWork p).unbooked p := (s.retireSilently_unbooked p).fewer
    ((State.dropLoops_fewer _ p).trans (foldl_fewer (fun s n => s.dropStream_fewer n) _ _))
  have hstreams : (s.plotWork p).openStreams p = [] := dropStreams_open _ p
  generalize s.plotWork p = w at hbooks hstreams ⊢
  have hq := resetQueues_off p w
  have hqf := foldl_fewer (fun s q => State.resetQueue_fewer s q) (plotQueues p) w
  generalize (plotQueues p).foldl (fun s q => s.resetQueue q) w = x at hq hqf ⊢
  have hx := (State.plotBinders_fewer x p).trans (State.resetFunction_fewer _ p)
  have hstate : ((x.plotBinders p).resetFunction p).f HST_ATTACH.STATE p = 0 := by
    rw [State.resetFunction_state, if_pos rfl]
  have hgone : ((x.plotBinders p).resetFunction p).PlotGone p :=
    ⟨hq.fewer hx, State.openStreams_fewer hstreams (hqf.trans hx), hbooks.fewer (hqf.trans hx), hstate⟩
  exact hgone.fewer (State.plotHardware_fewer _ p)

end Sys2Proof.Machine
end

section
/-! PROOF. A thread-group reset: the contexts, L1 caches, tile arrays and groups that it clears (Tables 2-4 and 6-6). -/

namespace Sys2Proof.Machine

/-! ### The contexts -/

theorem mem_coreThreads {n h : Nat} : h ∈ coreThreads n ↔ coreOf h = n := by
  simp only [coreThreads, coreOf, List.mem_map, List.mem_range]
  constructor
  · rintro ⟨k, hk, rfl⟩
    omega
  · rintro rfl
    exact ⟨h % 8, by omega, by omega⟩

/-- The same PC and the same general registers. -/
def Thread.SameRegs (t u : Thread) : Prop := u.pc = t.pc ∧ u.g = t.g

theorem Thread.SameRegs.refl (t : Thread) : t.SameRegs t := ⟨rfl, rfl⟩

theorem Thread.SameRegs.trans {t u v : Thread} (h : t.SameRegs u) (k : u.SameRegs v) : t.SameRegs v :=
  ⟨k.1.trans h.1, k.2.trans h.2⟩

theorem losePosts_sameRegs (h : Nat) (t : Thread) : t.SameRegs (losePosts h t) := by
  unfold losePosts
  split
  · split
    · exact ⟨rfl, rfl⟩
    · exact .refl t
  · exact .refl t

theorem State.landPost_sameRegs (s : State) (h k : Nat) : (s.thread k).SameRegs ((s.landPost h).thread k) := by
  have hpost : ∀ dst payload, (s.thread k).SameRegs ((s.postArrives h dst payload).2.thread k) := fun dst payload => by
    unfold State.postArrives
    dsimp only
    split
    · by_cases hk : k = dst
      · subst hk
        rw [State.thread_modThread_self]
        exact ⟨rfl, rfl⟩
      · rw [State.thread_modThread_ne _ hk]
        exact .refl _
    · exact .refl _
  unfold State.landPost
  split
  · exact hpost _ _
  · exact .refl _

theorem foldl_landPost_sameRegs (l : List Nat) (s : State) (k : Nat) :
    (s.thread k).SameRegs ((l.foldl (fun (s : State) h => s.landPost h) s).thread k) := by
  induction l generalizing s with
  | nil => exact .refl _
  | cons h l ih => exact (s.landPost_sameRegs h k).trans (ih _)

/-- A context at its reset values, and the posts to it lost. -/
def State.clearContext (s : State) (h : Nat) : State :=
  let ts := s.threads.map fun x => (x.1, losePosts h x.2)
  let s := { s with threads := ts }
  let s := (s.setThread h {}).trUnsync h
  (((s.setF FUR_XPEND.SRC h 0).setOn FUR_XPEND.LSE h false).sowParked h false)

theorem find_map_snd {α : Type} (f : α → α) (k : Nat) (l : List (Nat × α)) :
    find k (l.map fun x => (x.1, f x.2)) = (find k l).map f := by
  induction l with
  | nil => rfl
  | cons c l ih =>
    rw [List.map_cons, find_cons, find_cons, ih]
    split <;> rfl

theorem State.clearContext_keep {m : Facet → Bool} (ht : m .threads = false) (hg : m .gln = false) (hd : m .drill = false)
    (hf : m (.blk .FUR) = false) (s : State) (h : Nat) : (s.clearContext h).keep m = s.keep m := by
  unfold State.clearContext
  simp [ht, hg, hd, hf]

theorem State.clearContext_thread (s : State) (h k : Nat) :
    (s.clearContext h).thread k = if k = h then {} else losePosts h (s.thread k) := by
  have hk : ∀ u : State, ((((u.trUnsync h).setF FUR_XPEND.SRC h 0).setOn FUR_XPEND.LSE h false).sowParked h false).thread k =
      u.thread k := fun u => thread_of_only (by simp (disch := decide)) k
  refine (hk _).trans ?_
  split
  next e => rw [e, State.thread_setThread_self]
  next e =>
    rw [State.thread_setThread_ne _ e]
    unfold State.thread findD
    rw [show ({ s with threads := s.threads.map fun x => (x.1, losePosts h x.2) } : State).threads =
      s.threads.map fun x => (x.1, losePosts h x.2) from rfl, find_map_snd]
    cases find k s.threads <;> rfl

theorem foldl_clearContext_empty (l : List Nat) (s : State) {k : Nat} (h : k ∈ l ∨ s.thread k = {}) :
    (l.foldl (fun s h => s.clearContext h) s).thread k = {} := by
  induction l generalizing s with
  | nil => exact h.resolve_left List.not_mem_nil
  | cons a l ih =>
    rw [List.foldl_cons]
    refine ih _ ?_
    rw [State.clearContext_thread]
    by_cases hk : k = a
    · exact .inr (if_pos hk)
    · rw [if_neg hk]
      refine h.imp (fun hm => (List.mem_cons.mp hm).resolve_left hk) fun e => ?_
      rw [e]
      rfl

theorem foldl_clearContext_sameRegs (l : List Nat) (s : State) {k : Nat} (h : k ∉ l) :
    (s.thread k).SameRegs ((l.foldl (fun s h => s.clearContext h) s).thread k) := by
  induction l generalizing s with
  | nil => exact .refl _
  | cons a l ih =>
    obtain ⟨ha, hl⟩ := not_or.mp (fun e => h (List.mem_cons.mpr e))
    refine Thread.SameRegs.trans ?_ (ih _ hl)
    rw [State.clearContext_thread, if_neg ha]
    exact losePosts_sameRegs a _

/-- The contexts of a core at their reset values, their own posts having arrived (R129). -/
def State.tgContexts (s : State) (n : Nat) : State :=
  (coreThreads n).foldl (fun s h => s.clearContext h) ((coreThreads n).foldl (fun (s : State) h => s.landPost h) s)

theorem State.tgContexts_keep {m : Facet → Bool} (ht : m .threads = false) (hg : m .gln = false) (hd : m .drill = false)
    (hf : m (.blk .FUR) = false) (s : State) (n : Nat) : (s.tgContexts n).keep m = s.keep m :=
  (foldl_keep (fun s h => State.clearContext_keep ht hg hd hf s h) _ _).trans
    (foldl_keep (fun s h => State.landPost_keep ht s h) _ _)

theorem State.tgContexts_own (s : State) {n h : Nat} (hn : coreOf h = n) : (s.tgContexts n).thread h = {} :=
  foldl_clearContext_empty _ _ (.inl (mem_coreThreads.mpr hn))

theorem State.tgContexts_other (s : State) {n h : Nat} (hn : coreOf h ≠ n) :
    (s.thread h).SameRegs ((s.tgContexts n).thread h) :=
  (foldl_landPost_sameRegs _ s h).trans (foldl_clearContext_sameRegs _ _ fun e => hn (mem_coreThreads.mp e))

/-! ### The groups -/

/-- The fields of a tile group. -/
def groupFields : List Fld :=
  [FUR_GRP.OPEN, FUR_GRP.INT, FUR_GRP.POISON, FUR_GRP.ROWS, FUR_GRP.COLS, FUR_GRP.BASE, FUR_GRP.SPILL, FUR_GRP.PHASE]

/-- One group, closed. -/
def State.closeOne (s : State) (i : Nat) : State := groupFields.foldl (fun s F => s.setF F i 0) s

theorem State.closeGroups_eq (s : State) (n : Nat) :
    s.closeGroups n = (List.range 16).foldl (fun s g => s.closeOne (grpInst n g)) s := rfl

theorem State.closeOne_open (s : State) (i k : Nat) :
    (s.closeOne i).f FUR_GRP.OPEN k = if k = i then 0 else s.f FUR_GRP.OPEN k := by
  have hid : ∀ F ∈ groupFields, F.id < 4096 ∧ (F.id = FUR_GRP.OPEN.id → F = FUR_GRP.OPEN) := by decide
  have hmem : FUR_GRP.OPEN ∈ groupFields := by decide
  unfold State.closeOne
  rw [foldl_fields_f (fun _ => 0) (by decide) i k _ _ hid]
  simp only [hmem, true_and, Nat.zero_mod]

theorem State.closeOne_f_ne (s : State) {G : Fld} (hG : G.id < 4096) (h : ∀ F ∈ groupFields, F.id ≠ G.id) (i k : Nat) :
    (s.closeOne i).f G k = s.f G k := by
  have hid : ∀ F ∈ groupFields, F.id < 4096 := by decide
  unfold State.closeOne
  rw [foldl_fields_f (fun _ => 0) hG i k _ _ fun F hF => ⟨hid F hF, fun e => absurd e (h F hF)⟩,
    if_neg fun e => h G e.1 rfl]

theorem foldl_closeOne_open (n : Nat) (l : List Nat) (s : State) {k : Nat}
    (h : (∃ g ∈ l, k = grpInst n g) ∨ s.f FUR_GRP.OPEN k = 0) :
    (l.foldl (fun s g => s.closeOne (grpInst n g)) s).f FUR_GRP.OPEN k = 0 := by
  induction l generalizing s with
  | nil => exact h.resolve_left fun ⟨g, hg, _⟩ => List.not_mem_nil hg
  | cons a l ih =>
    rw [List.foldl_cons]
    refine ih _ ?_
    rw [State.closeOne_open]
    by_cases hk : k = grpInst n a
    · exact .inr (if_pos hk)
    · rw [if_neg hk]
      exact h.imp_left fun ⟨g, hg, e⟩ => ⟨g, (List.mem_cons.mp hg).resolve_left fun ha => hk (ha ▸ e), e⟩

theorem State.closeGroups_open (s : State) (n : Nat) {g : Nat} (hg : g < 16) :
    (s.closeGroups n).f FUR_GRP.OPEN (grpInst n g) = 0 := by
  rw [State.closeGroups_eq]
  exact foldl_closeOne_open n _ _ (.inl ⟨g, List.mem_range.mpr hg, rfl⟩)

theorem State.closeGroups_f_ne (s : State) {G : Fld} (hG : G.id < 4096) (h : ∀ F ∈ groupFields, F.id ≠ G.id) (n k : Nat) :
    (s.closeGroups n).f G k = s.f G k := by
  have hl : ∀ (l : List Nat) (s : State), (l.foldl (fun s g => s.closeOne (grpInst n g)) s).f G k = s.f G k := by
    intro l
    induction l with
    | nil => exact fun s => rfl
    | cons a l ih => exact fun s => (ih _).trans (s.closeOne_f_ne hG h _ _)
  rw [State.closeGroups_eq]
  exact hl _ s

/-- The L1 caches on, and nothing of them busy. -/
def State.l1On (s : State) (n : Nat) : State :=
  ((s.setOn FUR_L1CTL.BUSY n false).setOn FUR_L1CTL.DEN n true).setOn FUR_L1CTL.IEN n true

theorem State.l1On_f (s : State) {G : Fld} (hG : G.id < 4096) (h : ∀ F ∈ [FUR_L1CTL.BUSY, FUR_L1CTL.DEN, FUR_L1CTL.IEN],
    G.id ≠ F.id) (n k : Nat) : (s.l1On n).f G k = s.f G k := by
  have hne : ∀ (u : State) F, F ∈ [FUR_L1CTL.BUSY, FUR_L1CTL.DEN, FUR_L1CTL.IEN] → ∀ b, (u.setOn F n b).f G k = u.f G k := by
    intro u F hF b
    have hid : ∀ F ∈ [FUR_L1CTL.BUSY, FUR_L1CTL.DEN, FUR_L1CTL.IEN], F.id < 4096 := by decide
    exact State.f_setF_ne _ (Fld.key_ne_of_id hG (hid F hF) (h F hF) _ _) _
  unfold State.l1On
  rw [hne _ _ (by decide), hne _ _ (by decide), hne _ _ (by decide)]

/-! ### The whole reset -/

/-- The lock of a core's L1 and its tile arrays. -/
def State.tgArrays (s : State) (n : Nat) : State :=
  let s := s.setBitF FUR_LOCKSTAT.LOCKED (n / 8) (n % 8) false
  s.setTile n { frags := .zeroed, silo := .zeroed, spill := .zeroed, nextSeq := (s.tile n).nextSeq }

/-- A core's caches, buffers and TLBs, empty. -/
def State.tgCore (s : State) (n : Nat) : State :=
  let c := s.core n
  s.setCore n { mbNext := c.mbNext, gated := c.gated, lease := c.lease, idleAt := s.now, cycleBase := s.clk.cc64 }

/-- What a thread-group reset makes of the contexts, the arrays and the core. -/
def State.tgState (s : State) (n : Nat) : State := ((s.tgContexts n).tgArrays n).tgCore n

/-- Beside them, the groups are closed, the L1 caches are on, and the loads on their way are lost. -/
theorem State.tgClear_eq (s : State) (n : Nat) :
    ∃ gone, s.tgClear n = (((s.tgState n).closeGroups n).l1On n).staleReads gone := by
  unfold State.tgClear
  extract_lets s1 s2 s3 s4 c s5 s6
  have hcontexts : s2 = s.tgContexts n := rfl
  have harrays : s4 = s2.tgArrays n := rfl
  have hcore : s5 = s4.tgCore n := rfl
  have hl1 : s6 = (s5.closeGroups n).l1On n := rfl
  clear_value s6 s5 c s4 s3 s2
  unfold State.tgState
  rw [← hcontexts, ← harrays, ← hcore, ← hl1]
  exact ⟨_, rfl⟩

theorem State.tgArrays_keep {m : Facet → Bool} (hf : m (.blk .FUR) = false) (ht : m .tiles = false) (s : State) (n : Nat) :
    (s.tgArrays n).keep m = s.keep m := (State.setTile_keep ht _ _ _).trans (State.setBitF_keep _ _ hf _ _ _)

theorem State.tgCore_keep {m : Facet → Bool} (hc : m .cores = false) (s : State) (n : Nat) :
    (s.tgCore n).keep m = s.keep m := State.setCore_keep hc _ _ _

theorem State.tgCore_core (s : State) (n : Nat) : ∃ mb gated idle base, (s.tgCore n).core n =
    { mbNext := mb, gated := gated, lease := (s.core n).lease, idleAt := idle, cycleBase := base } :=
  ⟨_, _, _, _, findD_put_self ..⟩

theorem State.tgArrays_tile (s : State) (n : Nat) : ∃ seq, find n (s.tgArrays n).tiles =
    some { frags := .zeroed, silo := .zeroed, spill := .zeroed, nextSeq := seq } := ⟨_, find_put_self ..⟩

theorem State.tgArrays_lock (s : State) (n : Nat) : (s.tgArrays n).bitF FUR_LOCKSTAT.LOCKED (n / 8) (n % 8) = false :=
  State.bitF_setBitF_self s (Nat.mod_lt n (by decide)) false

/-- The contexts are those of `tgContexts`. -/
theorem State.tgState_keep {m : Facet → Bool} (hf : m (.blk .FUR) = false) (ht : m .tiles = false) (hc : m .cores = false)
    (s : State) (n : Nat) : (s.tgState n).keep m = (s.tgContexts n).keep m :=
  (State.tgCore_keep hc _ n).trans (State.tgArrays_keep hf ht _ n)

/-- What a thread-group reset leaves of core `n` (Tables 2-4 and 6-6). -/
structure State.TgCleared (s u : State) (n : Nat) : Prop where
  own : ∀ h, coreOf h = n → u.thread h = {}
  others : ∀ h, coreOf h ≠ n → (s.thread h).SameRegs (u.thread h)
  core : ∃ mb gated idle base, u.core n =
    { mbNext := mb, gated := gated, lease := (s.core n).lease, idleAt := idle, cycleBase := base }
  seedbox : u.seedbox = s.seedbox
  tile : ∃ seq, find n u.tiles = some { frags := .zeroed, silo := .zeroed, spill := .zeroed, nextSeq := seq }
  groups : ∀ g, g < 16 → u.on FUR_GRP.OPEN (grpInst n g) = false
  lock : u.bitF FUR_LOCKSTAT.LOCKED (n / 8) (n % 8) = false
  mem : u.granary.mem = s.granary.mem

theorem State.tgClear_cleared (s : State) (n : Nat) : s.TgCleared (s.tgClear n) n := by
  obtain ⟨gone, he⟩ := s.tgClear_eq n
  have hlast : ∀ (u : State) m, m .host = false → m (.blk .FUR) = false →
      (((u.closeGroups n).l1On n).staleReads gone).keep m = u.keep m := fun u m hh hf => by simp [State.l1On, hh, hf]
  have hregs : ∀ (u : State) F i, (u.staleReads gone).f F i = u.f F i := fun u F i => State.f_of_regs rfl F i
  have hall := hlast (s.tgState n) (among [.threads, .cores, .tiles, .seedbox, .mem]) rfl rfl
  have hstate := State.tgState_keep (m := among [.threads, .seedbox, .mem]) rfl rfl rfl s n
  have hctx := State.tgContexts_keep (m := among [.cores, .seedbox, .mem]) rfl rfl rfl rfl s n
  have harrays := State.tgArrays_keep (m := among [.cores]) rfl rfl (s.tgContexts n) n
  rw [he]
  constructor
  case own =>
    intro h hh
    rw [thread_of_keep hall rfl, thread_of_keep hstate rfl]
    exact s.tgContexts_own hh
  case others =>
    intro h hh
    rw [thread_of_keep hall rfl, thread_of_keep hstate rfl]
    exact s.tgContexts_other hh
  case core =>
    unfold State.core
    rw [cores_of_keep hall rfl, ← cores_of_keep hctx rfl, ← cores_of_keep harrays rfl]
    exact State.tgCore_core _ n
  case seedbox => rw [seedbox_of_keep hall rfl, seedbox_of_keep hstate rfl, seedbox_of_keep hctx rfl]
  case tile =>
    have htiles := State.tgCore_keep (m := among [.tiles]) rfl ((s.tgContexts n).tgArrays n) n
    rw [tiles_of_keep hall rfl]
    unfold State.tgState
    rw [tiles_of_keep htiles rfl]
    exact State.tgArrays_tile _ n
  case groups =>
    intro g hg
    unfold State.on
    rw [hregs, State.l1On_f _ (by decide) (by decide), State.closeGroups_open _ _ hg]
    rfl
  case lock =>
    have hcore := State.tgCore_keep (m := among [.blk .FUR]) rfl ((s.tgContexts n).tgArrays n) n
    unfold State.bitF
    rw [hregs, State.l1On_f _ (by decide) (by decide), State.closeGroups_f_ne _ (by decide) (by decide)]
    unfold State.tgState
    rw [f_of_keep hcore rfl]
    exact State.tgArrays_lock _ n
  case mem => rw [mem_of_keep hall rfl, mem_of_keep hstate rfl, mem_of_keep hctx rfl]

/-- The parts in which a cleared core shows. -/
def tgPart : Facet → Bool := among [.threads, .cores, .tiles, .seedbox, .mem, .blk .FUR]

theorem State.TgCleared.of_keep {s u v : State} {n : Nat} (h : s.TgCleared u n) (hk : v.keep tgPart = u.keep tgPart) :
    s.TgCleared v n where
  own k hn := (thread_of_keep hk rfl k).trans (h.own k hn)
  others k hn := by
    rw [thread_of_keep hk rfl]
    exact h.others k hn
  core := by
    unfold State.core
    rw [cores_of_keep hk rfl]
    exact h.core
  seedbox := (seedbox_of_keep hk rfl).trans h.seedbox
  tile := by
    rw [tiles_of_keep hk rfl]
    exact h.tile
  groups g hg := by
    unfold State.on
    rw [f_of_keep hk rfl]
    exact h.groups g hg
  lock := by
    unfold State.bitF
    rw [f_of_keep hk rfl]
    exact h.lock
  mem := (mem_of_keep hk rfl).trans h.mem

end Sys2Proof.Machine
end

section
/-! PROOF. Thread-group resets in their order, function-level resets, power gating and waking. -/

namespace Sys2Proof.Machine

/-! ### Thread-group resets -/

theorem State.tgBegin_busy {s : State} {n : Nat} (h : (find n s.clk.tg).isSome = true) : s.tgBegin n = s := by
  obtain ⟨t, ht⟩ := Option.isSome_iff_exists.mp h
  unfold State.tgBegin
  rw [ht]

theorem State.tgBegin_starts {s : State} {n : Nat} (h : find n s.clk.tg = none) (hp : s.clk.plotReset = []) :
    s.tgBegin n = { s with clk := { s.clk with tg := put n (.draining s.now) s.clk.tg } } := by
  have hl : (s.core n).lease.any (s.clk.plotReset.contains ·) = false := by
    rw [hp]
    cases (s.core n).lease <;> rfl
  unfold State.tgBegin
  rw [h, hl]

theorem exec_threadGroupReset_of_not_acts {s : State} {agent : Agent} (h : s.acts agent = false) (n : Cid) :
    exec (.threadGroupReset agent n) s = .next s := by
  show Host.Outcome.next (if s.acts agent then _ else s) = _
  rw [h]
  rfl

theorem exec_threadGroupReset_of_acts {s : State} {agent : Agent} (h : s.acts agent = true) (n : Cid) :
    exec (.threadGroupReset agent n) s = .next (s.tgWrite agent n) := by
  show Host.Outcome.next (if s.acts agent then _ else s) = _
  rw [if_pos h]

theorem State.tgWrite_dropped (s : State) {agent : Agent} (h : pwrReach agent ≠ true) (n : Nat) :
    s.tgWrite agent n = s.writeDropped agent 0x0C := by
  unfold State.tgWrite
  rw [Bool.eq_false_of_not_eq_true h]
  rfl

theorem State.tgWrite_asked (s : State) {agent : Agent} (h : pwrReach agent = true) (n : Nat) :
    s.tgWrite agent n = if s.inReset then s else s.tgBegin n := by
  unfold State.tgWrite
  rw [h]
  rfl

/-- A request of a core whose reset is in progress, or during a containing reset, is taken in (R45). -/
theorem exec_threadGroupReset_absorbed {s : State} {agent : Agent} (ha : pwrReach agent = true) {n : Cid}
    (h : s.inReset = true ∨ (find n.val s.clk.tg).isSome = true) : exec (.threadGroupReset agent n) s = .next s := by
  cases hacts : s.acts agent
  · exact exec_threadGroupReset_of_not_acts hacts n
  · rw [exec_threadGroupReset_of_acts hacts, s.tgWrite_asked ha]
    by_cases hr : s.inReset = true
    · rw [if_pos hr]
    · rw [if_neg hr, State.tgBegin_busy (h.resolve_left hr)]

theorem State.plotStep_idle {s : State} (h : s.clk.plotReset = []) : s.plotStep = s := by
  unfold State.plotStep
  rw [h]
  rfl

theorem State.tgClear_clk (s : State) (n : Nat) : (s.tgClear n).clk = s.clk :=
  clk_of_keep (m := among [.clk, .por]) (State.tgClear_keep rfl rfl rfl rfl rfl rfl rfl s n) rfl rfl

theorem execTgDrainDone_waits {s : State} {n : Cid} {t : Nat} (ht : find n.val s.clk.tg = some (.draining t))
    (h : s.drained n = false) : exec (.tgDrainDone n) s = .next s := by
  show execTgDrainDone n s = _
  unfold execTgDrainDone
  rw [ht]
  exact congrArg _ (if_pos (by rw [h]; rfl))

/-- The phases of the thread-group resets, replaced. -/
def State.setPhases (s : State) (tg : List (Nat × TgPhase)) : State := { s with clk := { s.clk with tg := tg } }

theorem State.setPhases_keep {m : Facet → Bool} (h : m .clk = false) (s : State) (tg : List (Nat × TgPhase)) :
    (s.setPhases tg).keep m = s.keep m := keep_clk h s _ rfl rfl rfl

theorem execTgDrainDone_clears {s : State} {n : Cid} {t : Nat} (ht : find n.val s.clk.tg = some (.draining t))
    (h : s.drained n = true) : answers (.tgDrainDone n) s fun u => s.TgCleared u n ∧
      find n.val u.clk.tg = some (.clearing s.clk.cc64) := by
  have hexec : exec (.tgDrainDone n) s = .next ((s.tgClear n).setPhases
      (put n.val (.clearing (s.tgClear n).clk.cc64) (s.tgClear n).clk.tg)) := by
    show execTgDrainDone n s = _
    unfold execTgDrainDone
    rw [ht]
    exact congrArg _ (if_neg (by rw [h]; decide))
  refine ⟨_, hexec, (s.tgClear_cleared n).of_keep (State.setPhases_keep rfl _ _), ?_⟩
  rw [State.tgClear_clk]
  exact find_put_self ..

theorem execTgDrainTimeout_waits {s : State} {n : Cid} {t : Nat} (ht : find n.val s.clk.tg = some (.draining t))
    (h : s.since t < 100000) : exec (.tgDrainTimeout n) s = .next s := by
  show execTgDrainTimeout n s = _
  unfold execTgDrainTimeout
  rw [ht]
  exact congrArg _ (if_pos h)

/-- The end of a thread-group reset that did not drain: it is logged. -/
def State.tgEnd (s : State) (n : Nat) : State := (s.log1 0x0010 n 0).setPhases (drop n (s.log1 0x0010 n 0).clk.tg)

theorem State.tgEnd_clk (s : State) (n : Nat) : (s.tgEnd n).clk = { s.clk with tg := drop n s.clk.tg } := by
  have hlog : (s.log1 0x0010 n 0).clk = s.clk :=
    clk_of_keep (m := among [.clk, .por]) (State.log1_keep rfl rfl _ _ _ _) rfl rfl
  unfold State.tgEnd State.setPhases
  dsimp only
  rw [hlog]

theorem State.tgEnd_keep {m : Facet → Bool} (hc : m .clk = false) (hb : m (.blk .RV) = false) (hr : m .reeve = false)
    (s : State) (n : Nat) : (s.tgEnd n).keep m = s.keep m :=
  (State.setPhases_keep hc _ _).trans (State.log1_keep hb hr _ _ _ _)

theorem State.tgEnd_logs {s t : State} (hr : t.reeve = s.reeve) (hn : t.now = s.now) (n : Nat) :
    s.logs (t.tgEnd n) 0x0010 n noInst 0 := State.logEvent_reeve_congr hr hn _ _ _ _ _ _

theorem execTgDrainTimeout_clears {s : State} {n : Cid} {t : Nat} (ht : find n.val s.clk.tg = some (.draining t))
    (h : 100000 ≤ s.since t) (hp : s.clk.plotReset = []) : answers (.tgDrainTimeout n) s fun u => s.TgCleared u n ∧
      find n.val u.clk.tg = none ∧ s.logs u 0x0010 n noInst 0 := by
  obtain ⟨gone, hexec⟩ : ∃ gone, exec (.tgDrainTimeout n) s =
      .next (((s.tgClear n).staleReqs gone).tgEnd n).plotStep := by
    show ∃ gone, execTgDrainTimeout n s = _
    unfold execTgDrainTimeout
    rw [ht]
    exact ⟨_, congrArg _ (if_neg (Nat.not_lt.mpr h))⟩
  have hkeep := State.staleReqs_keep (m := among [.clk, .por, .reeve, .blk .CLK]) rfl (s.tgClear n) gone
  have hclear := State.tgClear_keep (m := among [.clk, .por, .reeve, .blk .CLK]) rfl rfl rfl rfl rfl rfl rfl s n
  have hreqs := (s.tgClear_cleared n).of_keep (State.staleReqs_keep rfl (s.tgClear n) gone)
  generalize (s.tgClear n).staleReqs gone = u at hexec hkeep hreqs
  have hu := hkeep.trans hclear
  have hclk : u.clk = s.clk := clk_of_keep hu rfl rfl
  rw [State.plotStep_idle (by rw [State.tgEnd_clk, hclk]; exact hp)] at hexec
  refine ⟨_, hexec, hreqs.of_keep (State.tgEnd_keep rfl rfl rfl u n), ?_, ?_⟩
  · rw [State.tgEnd_clk]
    exact find_drop_self _ _
  · exact State.tgEnd_logs (reeve_of_keep hu rfl) (f_of_keep (F := CLK_TIMESTAMP.TS) hu rfl 0) n

theorem execTgResetComplete_waits {s : State} {n : Cid} {t : Nat} (ht : find n.val s.clk.tg = some (.clearing t))
    (h : s.clk.cc64 - t < 4096 * 64) : exec (.tgResetComplete n) s = .next s := by
  show execTgResetComplete n s = _
  unfold execTgResetComplete
  rw [ht]
  exact congrArg _ (if_pos h)

theorem execTgResetComplete_ends {s : State} {n : Cid} {t : Nat} (ht : find n.val s.clk.tg = some (.clearing t))
    (h : 4096 * 64 ≤ s.clk.cc64 - t) (hp : s.clk.plotReset = []) :
    exec (.tgResetComplete n) s = .next { s with clk := { s.clk with tg := drop n.val s.clk.tg } } := by
  show execTgResetComplete n s = _
  unfold execTgResetComplete
  rw [ht]
  refine congrArg _ ((if_neg (Nat.not_lt.mpr h)).trans ?_)
  exact State.plotStep_idle hp

/-! ### Function-level resets -/

/-- What a plot reset leaves, beside the island. -/
theorem isl_of_functionLevelReset {s u : State} {p : Plot} {r : Option (BitVec 32)}
    (h : exec (.functionLevelReset p r) s = .next u) : u.isl = s.isl := isl_of_keep (keepsBut_of_exec h) rfl

theorem exec_flr_inReset {s : State} (h : s.inReset = true) (p : Plot) : exec (.functionLevelReset p none) s =
    .next (if p.val = 0 then s.setOn PWR_RESET_CAUSE.PF_FLR 0 true else s) := congrArg Host.Outcome.next (if_pos h)

theorem exec_flr_unreached {s : State} {p : Plot} (h : s.configReaches p = false) (hr : s.inReset = false) :
    exec (.functionLevelReset p none) s = .next s :=
  congrArg Host.Outcome.next ((if_neg (by rw [hr]; decide)).trans (if_neg (by rw [h]; decide)))

theorem exec_flr_reached {s : State} {p : Plot} (h : s.configReaches p = true) (hr : s.inReset = false) :
    exec (.functionLevelReset p none) s = .next (s.functionReset p) :=
  congrArg Host.Outcome.next ((if_neg (by rw [hr]; decide)).trans (if_pos h))

theorem State.functionReset_virtual {s : State} (h : s.recovering = false) {p : Nat} (hp : p ≠ 0) :
    s.functionReset p = s.plotReset p := by
  unfold State.functionReset
  rw [if_neg (by rw [h]; decide), if_neg hp]

/-- The plots that the physical function's reset takes, with its cause. -/
def State.plotsReset (s : State) : State :=
  (List.range 512).foldl (fun s p => s.plotReset p) (s.setOn PWR_RESET_CAUSE.PF_FLR 0 true)

theorem State.functionReset_physical {s : State} (h : s.recovering = false) : s.functionReset 0 =
    { s.plotsReset with host := { s.plotsReset.host with vfEnable := false, numVfs := 0 } } := by
  unfold State.functionReset State.plotsReset
  rw [if_neg (by rw [h]; decide), if_pos rfl]

theorem State.functionReset_recovery {s : State} (h : s.recovering = true) (p : Nat) :
    s.functionReset p = s.setFn p (s.fn p).configReset := by
  unfold State.functionReset
  rw [if_pos h]

theorem contains_of_nil {l : List Nat} (h : l = []) (p : Nat) : l.contains p = false := by
  rw [h]
  rfl

theorem State.plotsReset_gone {s : State} (h : s.clk.plotReset = []) : s.plotsReset.PlotGone 0 := by
  have hgone : ((s.setOn PWR_RESET_CAUSE.PF_FLR 0 true).plotReset 0).PlotGone 0 :=
    State.plotReset_gone (contains_of_nil (l := (s.setOn PWR_RESET_CAUSE.PF_FLR 0 true).clk.plotReset) h 0)
  unfold State.plotsReset
  rw [show List.range 512 = 0 :: (List.range 511).map Nat.succ from List.range_succ_eq_map .., List.foldl_cons]
  exact hgone.fewer (foldl_fewer (fun s p => s.plotReset_fewer p) _ _)

theorem State.plotsReset_cause (s : State) : s.plotsReset.on PWR_RESET_CAUSE.PF_FLR 0 = true := by
  have hk : s.plotsReset.keep (Facet.only (.blk .PWR)) =
      (s.setOn PWR_RESET_CAUSE.PF_FLR 0 true).keep (Facet.only (.blk .PWR)) := foldl_keep (fun s p => by simp) _ _
  rw [on_of_only (F := PWR_RESET_CAUSE.PF_FLR) rfl hk]
  exact State.on_setOn_self _ rfl _ _

theorem exec_flr_virtual {s : State} {p : Plot} (hc : s.configReaches p = true) (hr : s.inReset = false)
    (hv : s.recovering = false) (hp : s.clk.plotReset = []) (h0 : p.val ≠ 0) :
    answers (.functionLevelReset p none) s fun u => u.PlotGone p ∧ u.isl = s.isl := by
  have hexec := exec_flr_reached hc hr
  refine ⟨_, hexec, ?_, isl_of_functionLevelReset hexec⟩
  rw [State.functionReset_virtual hv h0]
  exact State.plotReset_gone (contains_of_nil hp _)

theorem exec_flr_physical {s : State} {p : Plot} (hc : s.configReaches p = true) (hr : s.inReset = false)
    (hv : s.recovering = false) (hp : s.clk.plotReset = []) (h0 : p.val = 0) :
    answers (.functionLevelReset p none) s fun u => (u.PlotGone p ∧ u.isl = s.isl) ∧
      u.on PWR_RESET_CAUSE.PF_FLR 0 = true ∧ u.host.vfEnable = false ∧ u.host.numVfs = 0 := by
  have hexec := exec_flr_reached hc hr
  refine ⟨_, hexec, ⟨?_, isl_of_functionLevelReset hexec⟩, ?_⟩
  all_goals rw [h0, State.functionReset_physical hv]
  · have hgone := State.plotsReset_gone hp
    generalize s.plotsReset = u at hgone ⊢
    exact hgone.fewer (.of_eq rfl rfl fun _ hx => hx)
  · have hcause := s.plotsReset_cause
    generalize s.plotsReset = u at hcause ⊢
    exact ⟨hcause, rfl, rfl⟩

theorem exec_flr_recovery {s : State} {p : Plot} (hc : s.configReaches p = true) (hr : s.inReset = false)
    (hv : s.recovering = true) : answers (.functionLevelReset p none) s fun u =>
      (u.fn p).master = false ∧ (u.fn p).msixEn = false ∧ (u.fn p).d3hot = false ∧ u.drill = s.drill ∧ u.regs = s.regs := by
  have hfn : ((s.setFn p (s.fn p).configReset).fn p) = (s.fn p).configReset := findD_put_self ..
  have hexec : exec (.functionLevelReset p none) s = .next (s.setFn p (s.fn p).configReset) := by
    rw [exec_flr_reached hc hr, State.functionReset_recovery hv]
  exact ⟨_, hexec, congrArg FnRec.master hfn, congrArg FnRec.msixEn hfn, congrArg FnRec.d3hot hfn, rfl, rfl⟩

theorem exec_flr_drill_off {s : State} (h : s.released = false) (p : Plot) (reason : BitVec 32) :
    exec (.functionLevelReset p (some reason)) s = .next s := congrArg Host.Outcome.next (if_pos (by rw [h]; rfl))

theorem exec_flr_drill {s : State} (h : s.released = true) (hp : s.clk.plotReset = []) (p : Plot) (reason : BitVec 32) :
    answers (.functionLevelReset p (some reason)) s fun u => u.PlotGone p ∧ u.isl = s.isl := by
  have hexec : exec (.functionLevelReset p (some reason)) s =
      .next ((s.logEvent 0x0013 noInst p reason.toNat 0 0).plotReset p) :=
    congrArg Host.Outcome.next (if_neg (by rw [h]; decide))
  have hclk : (s.logEvent 0x0013 noInst p reason.toNat 0 0).clk = s.clk :=
    clk_of_keep (m := among [.clk, .por]) (State.logEvent_keep rfl rfl _ _ _ _ _ _ _) rfl rfl
  refine ⟨_, hexec, State.plotReset_gone (contains_of_nil ?_ _), isl_of_functionLevelReset hexec⟩
  rw [hclk, hp]

/-! ### VF Enable -/

theorem exec_vfEnableClear_off {s : State} (h : s.host.vfEnable = false ∨ s.released = false) :
    exec .vfEnableClear s = .next s := by
  refine congrArg Host.Outcome.next (if_pos ?_)
  rcases h with h | h <;> simp [h]

/-- The plots of the enabled virtual functions, reset. -/
def State.vfPlotsReset (s : State) : State := ((List.range s.host.numVfs).map (· + 1)).foldl (fun s p => s.plotReset p) s

theorem exec_vfEnableClear_on {s : State} (hv : s.host.vfEnable = true) (hr : s.released = true)
    (hc : s.configReaches 0 = true) : answers .vfEnableClear s fun u => u.host.vfEnable = false := by
  have hexec : exec .vfEnableClear s = .next { s.vfPlotsReset with host := { s.vfPlotsReset.host with vfEnable := false } } :=
    congrArg Host.Outcome.next (if_neg (by simp [hv, hr, hc]))
  exact ⟨_, hexec, rfl⟩

/-! ### Power gating -/

/-- The tile arrays of a gated core are free again, its groups closed. -/
def State.gateArrays (s : State) (n : Nat) : State := (s.setTile n (freshTile (some s.fresh) n)).closeGroups n

/-- A core, gated. -/
def State.gateCore (s : State) (n : Nat) : State :=
  let c := s.core n
  { s.setCore n { mbNext := c.mbNext, idleAt := c.idleAt, cycleBase := c.cycleBase, gated := true }
    with fresh := s.fresh + 1 }

theorem State.gateCore_core (s : State) (n : Nat) : ∃ mb idle base, (s.gateCore n).core n =
    { mbNext := mb, idleAt := idle, cycleBase := base, gated := true } := ⟨_, _, _, findD_put_self ..⟩

theorem exec_powerGate_gates {s : State} {n : Cid} (hrun : s.on DRL_STATUS.RUN 0 = true) (hg : (s.core n).gated = false)
    (hl : (s.core n).lease = none) (ht : find n.val s.clk.tg = none) (hm : (s.core n).mbuf = [])
    (hi : 100000 ≤ s.since (s.core n).idleAt) (hp : ∀ h, coreOf h = n.val → (s.thread h).mode = .parked) :
    answers (.powerGate n) s fun u => (u.core n).gated = true ∧ (u.core n).l1d = [] ∧ (u.core n).l1i = [] ∧
      u.seedbox = s.seedbox := by
  have hparked : (coreThreads n).all (fun h => (s.thread h).mode = .parked) = true :=
    List.all_eq_true.mpr fun h hh => decide_eq_true (hp h (mem_coreThreads.mp hh))
  have hidle : ¬s.since (s.core n).idleAt < usCounts 1000 := Nat.not_lt.mpr hi
  have hexec : exec (.powerGate n) s = .next (((s.tracePower n).gateArrays n).gateCore n) := by
    show execPowerGate n s = _
    unfold execPowerGate
    dsimp only
    rw [if_neg (by simp [hrun, hg, hl, ht, hm, hidle, hparked])]
    rfl
  obtain ⟨mb, idle, base, hcore⟩ := State.gateCore_core ((s.tracePower n).gateArrays n) n
  refine ⟨_, hexec, ?_, ?_, ?_, seedbox_of_keep (keepsBut_of_exec hexec) rfl⟩
  all_goals rw [hcore]

/-- A context of a core that wakes. -/
def State.wakeContext (s : State) (h : Nat) : State := (s.setThread h {}).trUnsync h

theorem State.wakeContext_thread (s : State) (h k : Nat) : (s.wakeContext h).thread k = if k = h then {} else s.thread k := by
  have hk : (s.wakeContext h).thread k = (s.setThread h {}).thread k :=
    thread_of_only (State.trUnsync_keep (Facet.only_ne (by decide)) _ _) k
  rw [hk]
  split
  next e => rw [e, State.thread_setThread_self]
  next e => rw [State.thread_setThread_ne _ e]

theorem foldl_wakeContext_empty (l : List Nat) (s : State) {k : Nat} (h : k ∈ l ∨ s.thread k = {}) :
    (l.foldl (fun s h => s.wakeContext h) s).thread k = {} := by
  induction l generalizing s with
  | nil => exact h.resolve_left List.not_mem_nil
  | cons a l ih =>
    rw [List.foldl_cons]
    refine ih _ ?_
    rw [State.wakeContext_thread]
    by_cases hk : k = a
    · exact .inr (if_pos hk)
    · rw [if_neg hk]
      exact h.imp_left fun hm => (List.mem_cons.mp hm).resolve_left hk

/-- The tile arrays and the L1 of a core that wakes. -/
def State.wakeArrays (s : State) (n : Nat) : State := (s.setTile n (freshTile (some s.fresh) n)).l1On n

/-- The core that wakes. -/
def State.wakeRest (s : State) (n : Nat) : State :=
  { s.setCore n { lease := (s.core n).lease, cycleBase := s.clk.cc64, idleAt := s.now } with fresh := s.fresh + 1 }

theorem State.wakeCore_eq {s : State} {n : Nat} (h : (s.core n).gated = true) :
    s.wakeCore n = (((coreThreads n).foldl (fun s h => s.wakeContext h) s).wakeArrays n).wakeRest n := by
  unfold State.wakeCore
  rw [if_neg (by rw [h]; decide)]
  extract_lets s1 s2 s3
  have hcontexts : s1 = (coreThreads n).foldl (fun s h => s.wakeContext h) s := rfl
  have harrays : s3 = s1.wakeArrays n := rfl
  clear_value s3 s2 s1
  rw [← hcontexts, ← harrays]
  rfl

theorem State.wakeRest_core (s : State) (n : Nat) : ((s.wakeRest n).core n).gated = false :=
  congrArg Core.gated (findD_put_self ..)

theorem State.wakeRest_thread (s : State) (n h : Nat) : (s.wakeRest n).thread h = s.thread h := rfl

theorem exec_coreWake_awake {s : State} {n : Cid} (h : (s.core n).gated = false) : exec (.coreWake n) s = .next s :=
  congrArg Host.Outcome.next (if_pos (by rw [h]; rfl))

theorem exec_coreWake_wakes {s : State} {n : Cid} (h : (s.core n).gated = true) :
    answers (.coreWake n) s fun u => (u.core n).gated = false ∧
      (∀ h, coreOf h = n.val → u.thread h = {}) ∧ u.seedbox = s.seedbox ∧ u.granary = s.granary := by
  have hexec : exec (.coreWake n) s = .next (s.wakeCore n) := rfl
  have hk := keepsBut_of_exec hexec
  refine ⟨_, hexec, ?_, fun k hn => ?_, seedbox_of_keep hk rfl, granary_of_keep hk rfl rfl⟩
  · rw [State.wakeCore_eq h]
    exact State.wakeRest_core _ _
  · have harrays : ∀ u : State, (u.wakeArrays n).thread k = u.thread k := fun u =>
      thread_of_only (by simp (disch := decide) [State.wakeArrays, State.l1On]) k
    rw [State.wakeCore_eq h, State.wakeRest_thread, harrays]
    exact foldl_wakeContext_empty _ _ (.inl (mem_coreThreads.mpr hn))

/-! ### The obligation -/

/-- Settles O8: a thread-group reset by `tgClear_cleared`, a plot reset by `plotReset_gone`, and power gating. -/
theorem groupAndPlotResetResults : Obligations.GroupAndPlotResetResults := by
  unfold Obligations.GroupAndPlotResetResults
  intro s agent n p reason mayAsk cleared reset
  have hreach : mayAsk ↔ pwrReach agent = true := (pwrReach_iff agent).symm
  have hcleared : ∀ u : State, s.TgCleared u n → cleared u := fun u r => by
    obtain ⟨mb, gated, idle, base, hcore⟩ := r.core
    obtain ⟨seq, htile⟩ := r.tile
    have htile' : u.tile n = { frags := .zeroed, silo := .zeroed, spill := .zeroed, nextSeq := seq } := by
      unfold State.tile findD
      rw [htile]
      rfl
    have hempty : (u.core n).l1d = [] ∧ (u.core n).l1i = [] ∧ (u.core n).mbuf = [] ∧ (u.core n).itlb = [] ∧
        (u.core n).dtlb = [] ∧ (u.core n).tlb = [] ∧ (u.core n).lease = (s.core n).lease := by
      rw [hcore]
      exact ⟨rfl, rfl, rfl, rfl, rfl, rfl, rfl⟩
    have hzero : (u.tile n).queue = [] ∧ (u.tile n).frags = .zeroed ∧ (u.tile n).silo = .zeroed := by
      rw [htile']
      exact ⟨rfl, rfl, rfl⟩
    obtain ⟨hl1d, hl1i, hmbuf, hitlb, hdtlb, htlb, hlease⟩ := hempty
    obtain ⟨hqueue, hfrags, hsilo⟩ := hzero
    exact ⟨r.own, r.others, hl1d, hl1i, hmbuf, hitlb, hdtlb, htlb, hlease, r.seedbox, hqueue, hfrags, hsilo, r.groups,
      r.lock, r.mem⟩
  have hreset : ∀ u : State, u.PlotGone p ∧ u.isl = s.isl → reset u := fun u r =>
    ⟨r.1.queues, r.1.streams, r.1.ledger, r.1.attached, r.2⟩
  simp only [hreach]
  refine ⟨fun h => exec_threadGroupReset_of_not_acts h n, fun h hm => ?_, fun hm h => exec_threadGroupReset_absorbed hm h,
    fun h hm hr hf hp => ?_, fun t ht => ⟨execTgDrainDone_waits ht, fun h => ?_, execTgDrainTimeout_waits ht, fun h hp => ?_⟩,
    fun t ht => ⟨execTgResetComplete_waits ht, execTgResetComplete_ends ht⟩, exec_flr_unreached,
    fun h => exec_flr_inReset h p, fun hc hr hv hp h0 => ?_, fun hc hr hv hp h0 => ?_, exec_flr_recovery,
    fun h => exec_flr_drill_off h p reason, fun h hp => ?_, exec_vfEnableClear_off, exec_vfEnableClear_on,
    exec_powerGate_gates, exec_coreWake_awake, exec_coreWake_wakes⟩
  · rw [exec_threadGroupReset_of_acts h, s.tgWrite_dropped hm]
  · rw [exec_threadGroupReset_of_acts h, s.tgWrite_asked hm, if_neg (by rw [hr]; decide), State.tgBegin_starts hf hp]
  · obtain ⟨u, hu, hc, htg⟩ := execTgDrainDone_clears ht h
    exact ⟨u, hu, hcleared u hc, htg⟩
  · obtain ⟨u, hu, hc, htg, hlog⟩ := execTgDrainTimeout_clears ht h hp
    exact ⟨u, hu, hcleared u hc, htg, hlog⟩
  · obtain ⟨u, hu, hgone⟩ := exec_flr_virtual hc hr hv hp h0
    exact ⟨u, hu, hreset u hgone⟩
  · obtain ⟨u, hu, hgone, hrest⟩ := exec_flr_physical hc hr hv hp h0
    exact ⟨u, hu, hreset u hgone, hrest⟩
  · obtain ⟨u, hu, hgone⟩ := exec_flr_drill h hp p reason
    exact ⟨u, hu, hreset u hgone⟩

end Sys2Proof.Machine
end

section
/-! PROOF. The bytes of the flash device: what a span reads after a write, an erase, and a write of another part of the
state (R53; notes/assumptions/37 and 61). -/

namespace Sys2Proof.Machine

/-! ### Bytes -/

theorem length_leBytes (n v : Nat) : (leBytes n v).length = n := by
  induction n generalizing v with
  | zero => rfl
  | succ n ih => rw [leBytes, List.length_cons, ih]

theorem leNat_lt (b : List Byte) : leNat b < 256 ^ b.length := by
  induction b with
  | nil => exact Nat.one_pos
  | cons x b ih =>
    have hx : x.toNat < 256 := x.isLt
    rw [leNat, List.length_cons, Nat.pow_succ]
    omega

theorem numAt_lt (b : List Byte) (off n : Nat) : numAt b off n < 256 ^ n :=
  (leNat_lt _).trans_le (Nat.pow_le_pow_right (by decide) (List.length_take_le ..))

/-! ### One byte of the flash, and a span -/

/-- The byte of the flash at an offset. -/
def State.flashByte (s : State) (k : Nat) : Byte := findD flashErased k s.boot.flash

theorem State.flashRead_eq_map (s : State) (a n : Nat) : s.flashRead a n = (List.range' a n).map s.flashByte := by
  induction n generalizing a with
  | zero => rfl
  | succ n ih =>
    rw [State.flashRead, ih, List.range'_succ, List.map_cons]
    rfl

@[simp] theorem State.length_flashRead (s : State) (a n : Nat) : (s.flashRead a n).length = n := by
  rw [State.flashRead_eq_map, List.length_map, List.length_range']

/-- Two states with the same bytes in a span read the same there. -/
theorem State.flashRead_congr {s t : State} {a n : Nat} (h : ∀ k, a ≤ k → k < a + n → t.flashByte k = s.flashByte k) :
    t.flashRead a n = s.flashRead a n := by
  rw [State.flashRead_eq_map, State.flashRead_eq_map]
  refine List.map_congr_left fun k hk => ?_
  obtain ⟨hlo, hhi⟩ := List.mem_range'_1.mp hk
  exact h k hlo hhi

theorem State.flashByte_of_flash {s t : State} (h : t.boot.flash = s.boot.flash) (k : Nat) :
    t.flashByte k = s.flashByte k := by
  unfold State.flashByte
  rw [h]

/-- What a span reads depends on the flash alone. -/
theorem State.flashRead_of_flash {s t : State} (h : t.boot.flash = s.boot.flash) (a n : Nat) :
    t.flashRead a n = s.flashRead a n := State.flashRead_congr fun k _ _ => State.flashByte_of_flash h k

theorem State.flashRead_eq_replicate {s : State} {a n : Nat} {b : Byte} (h : ∀ k, a ≤ k → k < a + n → s.flashByte k = b) :
    s.flashRead a n = List.replicate n b := by
  refine List.eq_replicate_iff.mpr ⟨s.length_flashRead a n, fun x hx => ?_⟩
  rw [State.flashRead_eq_map] at hx
  obtain ⟨k, hk, rfl⟩ := List.mem_map.mp hx
  obtain ⟨hlo, hhi⟩ := List.mem_range'_1.mp hk
  exact h k hlo hhi

/-! ### Writing -/

theorem findD_flashPut_ne {k : Nat} (b : List Byte) (m : List Host.Cell) (a : Nat) (h : k < a ∨ a + b.length ≤ k) :
    findD flashErased k (flashPut m a b) = findD flashErased k m := by
  induction b generalizing m a with
  | nil => rfl
  | cons x b ih =>
    rw [List.length_cons] at h
    rw [flashPut, ih _ _ (by omega), findD_putD_ne (by omega)]

/-- A write leaves every byte outside its span. -/
theorem State.flashByte_flashWrite_ne (s : State) {a k : Nat} {b : List Byte} (h : k < a ∨ a + b.length ≤ k) :
    (s.flashWrite a b).flashByte k = s.flashByte k := findD_flashPut_ne b _ a h

/-- What was written is read back. -/
theorem State.flashRead_flashWrite (s : State) (a : Nat) (b : List Byte) :
    (s.flashWrite a b).flashRead a b.length = b := by
  induction b generalizing s a with
  | nil => rfl
  | cons x b ih =>
    have hcons : s.flashWrite a (x :: b) =
        { s with boot := { s.boot with flash := putD flashErased a x s.boot.flash } }.flashWrite (a + 1) b := rfl
    have hhead : findD flashErased a (s.flashWrite a (x :: b)).boot.flash = x :=
      (findD_flashPut_ne b _ (a + 1) (.inl (Nat.lt_succ_self a))).trans (findD_putD_self ..)
    rw [List.length_cons, State.flashRead, hhead, hcons, ih]

/-! ### Erasing -/

theorem findD_flashDrop_ne {k : Nat} (m : List Host.Cell) {a n : Nat} (h : k < a ∨ a + n ≤ k) :
    findD flashErased k (flashDrop m a n) = findD flashErased k m := by
  unfold findD flashDrop
  rw [find_filter_of fun _ => by simpa using h]

theorem findD_flashDrop_mem {k : Nat} (m : List Host.Cell) {a n : Nat} (hlo : a ≤ k) (hhi : k < a + n) :
    findD flashErased k (flashDrop m a n) = flashErased := by
  unfold findD flashDrop
  rw [find_filter_not fun _ => by simp [hlo, hhi]]
  rfl

/-- An erase leaves every byte outside its block. -/
theorem State.flashByte_flashErase_ne (s : State) {a k : Nat} (h : k < a ∨ a + 0x10000 ≤ k) :
    (s.flashErase a).flashByte k = s.flashByte k := findD_flashDrop_ne _ h

/-- An erased block reads as 0xFF throughout. -/
theorem State.flashRead_flashErase (s : State) (a : Nat) :
    (s.flashErase a).flashRead a 0x10000 = List.replicate 0x10000 flashErased :=
  State.flashRead_eq_replicate fun _ hlo hhi => findD_flashDrop_mem _ hlo hhi

end Sys2Proof.Machine
end

section
/-! PROOF. The flash claim and commands, preference records and SVN commits (R68 to R71). -/

namespace Sys2Proof.Machine

/-! ### The claim (R68) -/

theorem exec_claim_of_not_user {s : State} {agent : Agent} (h : ¬s.btUser agent = true) :
    exec (.claim agent) s = .next s := by
  show execClaim agent s = _
  unfold execClaim
  rw [if_neg h]

theorem exec_claim_of_user {s : State} {agent : Agent} {k : Nat} (h : s.btUser agent = true) (hk : btOwner agent = some k) :
    exec (.claim agent) s = .next (if s.f BT_FLASH_OWN.OWNER 0 = 0 then s.setF BT_FLASH_OWN.OWNER 0 k else
      if s.f BT_FLASH_OWN.OWNER 0 = k then s else s.setOn BT_FLASH_OWN.DENIED 0 true) := by
  show execClaim agent s = _
  unfold execClaim
  rw [if_pos h, hk]

/-! ### Flash commands (R69) -/

/-- A command that starts: remembered, and in progress. -/
def State.flashBegins (s : State) (op a : Nat) : State :=
  { s with boot := { s.boot with cmd := some ⟨op, a⟩ } }.setOn BT_FLASH_STATUS.BUSY 0 true

theorem State.flashCmd_ignored {s : State} {agent : Agent}
    (h : ¬s.btUser agent = true ∨ s.holdsFlash agent = false ∨ s.on BT_FLASH_STATUS.BUSY 0 = true) (op : Nat) :
    s.flashCmd agent op = s := by
  unfold State.flashCmd
  refine if_pos ?_
  rcases h with h | h | h <;> simp [h]

/-- The holder's command, while none is in progress. -/
theorem State.flashCmd_taken {s : State} {agent : Agent} (hu : s.btUser agent = true) (hh : s.holdsFlash agent = true)
    (hb : s.on BT_FLASH_STATUS.BUSY 0 = false) {op unit a : Nat} (hunit : (if op = 3 then 0x10000 else 256) = unit)
    (ha : s.f BT_FLASH_ADDR.ADDR 0 / unit * unit = a) : s.flashCmd agent op =
      if op ≠ 1 ∧ s.flashProtected a = true then s.setOn BT_FLASH_STATUS.PROTECTED 0 true else s.flashBegins op a := by
  subst hunit ha
  unfold State.flashCmd
  dsimp only
  rw [if_neg (by simp [hu, hh, hb])]
  simp only [Bool.and_eq_true, decide_eq_true_eq]
  rfl

/-- A command of BT_FLASH_CMD, of a code and its unit. -/
theorem flashCmd_results {i : Instr} {s : State} {agent : Agent} {op unit : Nat}
    (hexec : exec i s = .next (s.flashCmd agent op)) (hunit : (if op = 3 then 0x10000 else 256) = unit) :
    let at' := s.f BT_FLASH_ADDR.ADDR 0 / unit * unit
    (¬s.btUser agent = true ∨ s.holdsFlash agent = false ∨ s.on BT_FLASH_STATUS.BUSY 0 = true → exec i s = .next s) ∧
    (s.btUser agent = true → s.holdsFlash agent = true → s.on BT_FLASH_STATUS.BUSY 0 = false →
      if op ≠ 1 ∧ s.flashProtected at' = true then exec i s = .next (s.setOn BT_FLASH_STATUS.PROTECTED 0 true)
      else answers i s fun u =>
        u.on BT_FLASH_STATUS.BUSY 0 = true ∧ u.boot.cmd = some ⟨op, at'⟩ ∧ u.boot.flash = s.boot.flash) := by
  intro at'
  refine ⟨fun h => hexec.trans (by rw [State.flashCmd_ignored h]), fun hu hh hb => ?_⟩
  have htaken := hexec.trans (congrArg _ (State.flashCmd_taken hu hh hb hunit (a := at') rfl))
  by_cases hp : op ≠ 1 ∧ s.flashProtected at' = true
  · rw [if_pos hp] at htaken ⊢
    exact htaken
  · rw [if_neg hp] at htaken ⊢
    exact ⟨_, htaken, State.on_setOn_self _ rfl _ _, rfl, rfl⟩

/-- What R69 protects. -/
theorem State.flashProtected_iff (s : State) (a : Nat) : s.flashProtected a = true ↔
    a < 0x80000 ∨ (s.on BT_STATUS.DONE 0 = true ∧ s.on BT_STATUS.RECOVERY 0 = false ∧ ∃ t ∈ [1, 2, 3, 4],
      slotBase t (s.f BT_SLOT.SEL (t - 1)) ≤ a ∧ a < slotBase t (s.f BT_SLOT.SEL (t - 1)) + slotSize t) := by
  unfold State.flashProtected
  simp only [Bool.or_eq_true, Bool.and_eq_true, decide_eq_true_eq, Bool.not_eq_true', List.any_eq_true, and_assoc]

/-! ### A flash command ends -/

/-- The command in progress is over, before what it did is seen. -/
def State.cmdOver (s : State) : State := { s with boot := { s.boot with cmd := none } }.setOn BT_FLASH_STATUS.BUSY 0 false

theorem State.cmdOver_busy (s : State) : s.cmdOver.on BT_FLASH_STATUS.BUSY 0 = false := State.on_setOn_self _ rfl _ _

theorem State.cmdOver_flashBuf (s : State) : s.cmdOver.flashBuf = s.flashBuf := by
  have hf : ∀ i, s.cmdOver.f BT_FLASH_BUF.DATA i = s.f BT_FLASH_BUF.DATA i := fun i =>
    State.f_setF_ne _ (Fld.key_ne_of_id (by decide) (by decide) (by decide) _ _) _
  unfold State.flashBuf
  simp only [hf]

/-- The page buffer holds a page. -/
def State.bufFilled (s : State) (page : List Byte) : State :=
  (List.range 64).foldl (fun s i => s.setF BT_FLASH_BUF.DATA i (numAt page (4 * i) 4)) s

/-- What a failed program or erase of `n` bytes leaves. -/
def State.flashFails (s : State) (a n : Nat) : State :=
  (s.draw.2.flashWrite a (leBytes n s.draw.1)).setOn BT_FLASH_STATUS.ERR 0 true

theorem exec_flashCmdDone_idle {s : State} (h : s.boot.cmd = none) (ok : Bool) : exec (.flashCmdDone ok) s = .next s := by
  show execFlashCmdDone ok s = _
  unfold execFlashCmdDone
  rw [h]

theorem exec_flashCmdDone_some {s : State} {c : FlashCmd} (h : s.boot.cmd = some c) (ok : Bool) :
    exec (.flashCmdDone ok) s = .next (
      if c.op = 1 then s.cmdOver.bufFilled (s.cmdOver.flashRead c.addr 256)
      else if c.op = 2 then
        if ok then s.cmdOver.flashWrite c.addr (andBytes (s.cmdOver.flashRead c.addr 256) s.cmdOver.flashBuf)
        else s.cmdOver.flashFails c.addr 256
      else if ok then s.cmdOver.flashErase c.addr
      else s.cmdOver.flashFails c.addr 0x10000) := by
  show execFlashCmdDone ok s = _
  unfold execFlashCmdDone
  rw [h]
  rfl

/-- What every end of a command of `n` bytes leaves: no command in progress, and the bytes outside its span. -/
structure State.FlashEnds (s u : State) (a n : Nat) : Prop where
  busy : u.on BT_FLASH_STATUS.BUSY 0 = false
  cmd : u.boot.cmd = none
  others : ∀ b, b < a ∨ a + n ≤ b → u.flashRead b 1 = s.flashRead b 1

/-- A field after a pass that writes it at some of its places. -/
theorem foldl_setF_map_f (F : Fld) (v : Nat → Nat) (l : List Nat) (s : State) (i : Nat) :
    (l.foldl (fun s i => s.setF F i (v i)) s).f F i = if i ∈ l then v i % 2 ^ F.width else s.f F i := by
  induction l generalizing s with
  | nil => rfl
  | cons a l ih =>
    rw [List.foldl_cons, ih]
    by_cases hl : i ∈ l
    · rw [if_pos hl, if_pos (List.mem_cons_of_mem _ hl)]
    · rw [if_neg hl]
      by_cases hia : i = a
      · subst hia
        rw [if_pos (List.mem_cons_self ..), State.f_setF_self]
      · rw [if_neg fun h => (List.mem_cons.mp h).elim hia hl, State.f_setF_ne _ fun e => hia (Fld.key_inj e)]

/-- A field that every step of a pass leaves. -/
theorem foldl_f_eq {α : Type} {F : Fld} {i : Nat} {g : State → α → State} (l : List α)
    (h : ∀ s, ∀ a ∈ l, (g s a).f F i = s.f F i) (s : State) : (l.foldl g s).f F i = s.f F i := by
  induction l generalizing s with
  | nil => rfl
  | cons a l ih => rw [List.foldl_cons, ih fun s b hb => h s b (List.mem_cons_of_mem _ hb), h s a (List.mem_cons_self ..)]

theorem State.bufFilled_boot (s : State) (page : List Byte) : (s.bufFilled page).boot = s.boot :=
  boot_of_keep (m := Facet.only .boot) (foldl_keep (fun _ _ => State.setF_keep _ _ (Facet.only_ne (by decide)) _ _) _ _) rfl

theorem State.bufFilled_data (s : State) (page : List Byte) {i : Nat} (h : i < 64) :
    (s.bufFilled page).f BT_FLASH_BUF.DATA i = numAt page (4 * i) 4 := by
  have hlt : numAt page (4 * i) 4 < 2 ^ BT_FLASH_BUF.DATA.width := numAt_lt page (4 * i) 4
  unfold State.bufFilled
  rw [foldl_setF_map_f, if_pos (List.mem_range.mpr h), Nat.mod_eq_of_lt hlt]

theorem State.flashEnds_read (s : State) (a : Nat) (page : List Byte) : s.FlashEnds (s.cmdOver.bufFilled page) a 0 := by
  refine ⟨?_, congrArg Boot.cmd (s.cmdOver.bufFilled_boot page), fun b _ => ?_⟩
  · unfold State.on State.bufFilled
    rw [foldl_f_eq _ fun s i _ => State.f_setF_ne s (Fld.key_ne_of_id (by decide) (by decide) (by decide) _ _) _]
    exact s.cmdOver_busy
  · exact State.flashRead_of_flash (congrArg Boot.flash (s.cmdOver.bufFilled_boot page)) b 1

/-- Bytes written in the span of a command that is over. -/
theorem State.flashEnds_write (s : State) (a : Nat) {n : Nat} {b : List Byte} (hb : b.length = n) :
    s.FlashEnds (s.cmdOver.flashWrite a b) a n := by
  refine ⟨s.cmdOver_busy, rfl, fun k hk => ?_⟩
  exact congrArg (fun x => [x]) (s.cmdOver.flashByte_flashWrite_ne (by rwa [hb]))

theorem State.flashEnds_erase (s : State) (a : Nat) : s.FlashEnds (s.cmdOver.flashErase a) a 0x10000 :=
  ⟨s.cmdOver_busy, rfl, fun _ hk => congrArg (fun x => [x]) (s.cmdOver.flashByte_flashErase_ne hk)⟩

theorem State.flashEnds_fails (s : State) (a n : Nat) : s.FlashEnds (s.cmdOver.flashFails a n) a n := by
  refine ⟨?_, rfl, fun k hk => ?_⟩
  · exact (State.on_setOn_ne _ (by decide) _).trans s.cmdOver_busy
  · have hlen : (leBytes n s.cmdOver.draw.1).length = n := length_leBytes ..
    exact congrArg (fun x => [x]) (s.cmdOver.draw.2.flashByte_flashWrite_ne (by rwa [hlen]))

theorem State.flashFails_err (s : State) (a n : Nat) : (s.flashFails a n).on BT_FLASH_STATUS.ERR 0 = true :=
  State.on_setOn_self _ rfl _ _

theorem length_andBytes {a b : List Byte} {n : Nat} (ha : a.length = n) (hb : b.length = n) :
    (andBytes a b).length = n := by
  unfold andBytes
  rw [List.length_map, List.length_zip, ha, hb, Nat.min_self]

theorem State.length_flashBuf (s : State) : s.flashBuf.length = 256 := by
  unfold State.flashBuf
  simp only [List.length_flatMap, length_leBytes, List.map_const', List.length_range, List.sum_replicate]
  rfl

/-- A program that succeeds. -/
theorem State.programmed_page (s : State) (a : Nat) :
    (s.cmdOver.flashWrite a (andBytes (s.cmdOver.flashRead a 256) s.cmdOver.flashBuf)).flashRead a 256 =
      andBytes (s.flashRead a 256) s.flashBuf := by
  have hlen : (andBytes (s.cmdOver.flashRead a 256) s.cmdOver.flashBuf).length = 256 :=
    length_andBytes (s.cmdOver.length_flashRead a 256) s.cmdOver.length_flashBuf
  have hread := s.cmdOver.flashRead_flashWrite a (andBytes (s.cmdOver.flashRead a 256) s.cmdOver.flashBuf)
  rw [hlen] at hread
  rw [hread, s.cmdOver_flashBuf, State.flashRead_of_flash (s := s) (t := s.cmdOver) rfl]

/-- The bytes that a command of a code may change. -/
def flashExtent (op : Nat) : Nat := if op = 1 then 0 else if op = 2 then 256 else 0x10000

/-- FLASH_CMD_DONE, by the code of the command and whether it succeeded. -/
theorem exec_flashCmdDone_results {s : State} {c : FlashCmd} (h : s.boot.cmd = some c) (ok : Bool) :
    answers (.flashCmdDone ok) s fun u => s.FlashEnds u c.addr (flashExtent c.op) ∧
      (c.op = 1 → ∀ i, i < 64 → u.f BT_FLASH_BUF.DATA i = numAt (s.flashRead c.addr 256) (4 * i) 4) ∧
      (c.op = 2 → ok = true → u.flashRead c.addr 256 = andBytes (s.flashRead c.addr 256) s.flashBuf) ∧
      (c.op = 3 → ok = true → u.flashRead c.addr 0x10000 = List.replicate 0x10000 flashErased) ∧
      (c.op ≠ 1 → ok = false → u.on BT_FLASH_STATUS.ERR 0 = true) := by
  refine ⟨_, exec_flashCmdDone_some h ok, ?_⟩
  by_cases h1 : c.op = 1
  · have hread : s.cmdOver.flashRead c.addr 256 = s.flashRead c.addr 256 :=
      State.flashRead_of_flash (s := s) (t := s.cmdOver) rfl c.addr 256
    rw [if_pos h1, h1, hread]
    exact ⟨s.flashEnds_read .., fun _ i hi => s.cmdOver.bufFilled_data _ hi, fun e => absurd e (by decide),
      fun e => absurd e (by decide), fun e => absurd rfl e⟩
  rw [if_neg h1]
  by_cases h2 : c.op = 2
  · rw [if_pos h2, h2]
    cases ok with
    | true =>
      exact ⟨s.flashEnds_write c.addr (length_andBytes (s.cmdOver.length_flashRead ..) s.cmdOver.length_flashBuf),
        fun e => absurd e (by decide), fun _ _ => s.programmed_page c.addr, fun e => absurd e (by decide),
        fun _ e => absurd e (by decide)⟩
    | false =>
      exact ⟨s.flashEnds_fails c.addr 256, fun e => absurd e (by decide), fun _ e => absurd e (by decide),
        fun e => absurd e (by decide), fun _ _ => State.flashFails_err ..⟩
  · have hext : flashExtent c.op = 0x10000 := (if_neg h1).trans (if_neg h2)
    rw [if_neg h2, hext]
    cases ok with
    | true =>
      exact ⟨s.flashEnds_erase c.addr, fun e => absurd e h1, fun e => absurd e h2,
        fun _ _ => s.cmdOver.flashRead_flashErase c.addr, fun _ e => absurd e (by decide)⟩
    | false =>
      exact ⟨s.flashEnds_fails c.addr 0x10000, fun e => absurd e h1, fun e => absurd e h2,
        fun _ e => absurd e (by decide), fun _ _ => State.flashFails_err ..⟩

/-! ### BT_UPDATE (R70) -/

theorem btKey_iff (key : BitVec 16) : key.toNat = btKey ↔ key = 0x5A17 := by
  refine ⟨fun h => BitVec.eq_of_toNat_eq h, fun h => ?_⟩
  rw [h]
  rfl

/-- The guard of a keyed write of the BT_ block, with what else refuses it. -/
theorem btGuard_refused {s : State} {agent : Agent} {key : BitVec 16} {b : Bool}
    (h : ¬s.btUser agent = true ∨ key ≠ 0x5A17 ∨ b = true) :
    (!s.btUser agent || decide (key.toNat ≠ btKey) || b) = true := by
  rcases h with h | h | h
  · simp [h]
  · simp [mt (btKey_iff key).mp h]
  · simp [h]

theorem btGuard_taken {s : State} {agent : Agent} {key : BitVec 16} {b : Bool} (hu : s.btUser agent = true)
    (hk : key = 0x5A17) (hb : b = false) : ¬(!s.btUser agent || decide (key.toNat ≠ btKey) || b) = true := by
  simp [hu, hb, (btKey_iff key).mpr hk]

/-- An action of BT_UPDATE on the record in force. -/
theorem prefAction_results {i : Instr} {s : State} {agent : Agent} {key : BitVec 16} {restart : Bool}
    {f : PrefRec → PrefRec} (hexec : exec i s = .next (s.prefAction agent key.toNat restart f)) :
    (¬s.btUser agent = true ∨ key ≠ 0x5A17 ∨ s.on BT_UPDATE.BUSY 0 = true → exec i s = .next s) ∧
    (s.btUser agent = true → key = 0x5A17 → s.on BT_UPDATE.BUSY 0 = false → answers i s fun u =>
      u.on BT_UPDATE.BUSY 0 = true ∧
      u.boot.prefWrite = some ({ f s.pref with seq := (s.pref.seq + 1) % 2 ^ 32, count := 0 }, restart)) := by
  unfold State.prefAction at hexec
  constructor
  · exact fun h => hexec.trans (congrArg _ (if_pos (btGuard_refused h)))
  · intro hu hk hb
    rw [if_neg (btGuard_taken hu hk hb)] at hexec
    exact ⟨_, hexec, State.on_setOn_self _ rfl _ _, rfl⟩

theorem exec_restart_ignored {s : State} {agent : Agent} {key : BitVec 16}
    (h : ¬s.btUser agent = true ∨ key ≠ 0x5A17 ∨ s.on BT_UPDATE.BUSY 0 = true) : exec (.restart agent key) s = .next s :=
  congrArg Host.Outcome.next (if_pos (btGuard_refused h))

theorem exec_restart_taken {s : State} {agent : Agent} {key : BitVec 16} (hu : s.btUser agent = true) (hk : key = 0x5A17)
    (hb : s.on BT_UPDATE.BUSY 0 = false) :
    exec (.restart agent key) s = .next (s.packageReset PWR_RESET_CAUSE.BOOT_RESTART) :=
  congrArg Host.Outcome.next (if_neg (btGuard_taken hu hk hb))

/-! ### The package reset of RESTART -/

theorem State.packageReset_boot_restart (s : State) :
    (s.packageReset PWR_RESET_CAUSE.BOOT_RESTART).on PWR_RESET_CAUSE.BOOT_RESTART 0 = true := by
  cases h : s.inReset with
  | true =>
    rw [State.packageReset_absorbed h]
    exact State.on_setOn_self _ rfl _ _
  | false =>
    have hkeep : ∀ (u : State) aux, (u.selfRefresh.log0 0x0002 aux).keep (Facet.only (.blk .PWR)) =
        u.keep (Facet.only (.blk .PWR)) := fun u aux => by simp (disch := decide)
    rw [State.packageReset_eq h, on_of_only (b := .PWR) rfl (hkeep _ _), State.on,
      State.packageClear_f_pwr _ rfl (by decide) (by decide) (by decide),
      State.f_bump_ne _ (by decide)]
    exact State.on_setOn_self _ rfl _ _

theorem State.packageReset_flash (s : State) (cause : Fld) : (s.packageReset cause).boot.flash = s.boot.flash := by
  cases h : s.inReset with
  | true => rw [State.packageReset_absorbed h]; rfl
  | false =>
    have hkeep : ∀ (u : State) aux, (u.selfRefresh.log0 0x0002 aux).keep (Facet.only .boot) = u.keep (Facet.only .boot) :=
      fun u aux => by simp (disch := decide)
    have hbump : ((s.setOn cause 0 true).bump PWR_RESET_COUNT.COUNT 0).boot = s.boot :=
      boot_of_keep (s := s.setOn cause 0 true) (m := Facet.only .boot)
        (State.bump_keep (s.setOn cause 0 true) PWR_RESET_COUNT.COUNT (Facet.only_ne (by decide)) _) rfl
    have hclear : ∀ u : State, u.packageClear.boot.flash = u.boot.flash := fun _ => rfl
    rw [State.packageReset_eq h, boot_of_keep (hkeep _ _) rfl, hclear, hbump]

theorem State.packageReset_threads {s : State} (h : s.inReset = false) (cause : Fld) :
    (s.packageReset cause).threads = [] := by
  have hkeep : ∀ (u : State) aux, (u.selfRefresh.log0 0x0002 aux).keep (Facet.only .threads) =
    u.keep (Facet.only .threads) := fun u aux => by simp (disch := decide)
  rw [State.packageReset_eq h, threads_of_keep (hkeep _ _) rfl, State.packageClear_threads]

/-! ### PREF_WRITE_DONE -/

/-- The record is in its block, and nothing is being written any more. -/
def State.prefWritten (s : State) (r : PrefRec) : State :=
  ({ s.putPref r with boot := { (s.putPref r).boot with prefWrite := none } }.setOn BT_UPDATE.BUSY 0 false).setF
    BT_UPDATE.PENDING 0 r.trial

theorem State.prefWritten_flash (s : State) (r : PrefRec) : (s.prefWritten r).boot.flash = (s.putPref r).boot.flash := rfl
theorem State.prefWritten_idle (s : State) (r : PrefRec) : (s.prefWritten r).boot.prefWrite = none := rfl
theorem State.prefWritten_pending (s : State) (r : PrefRec) : (s.prefWritten r).f BT_UPDATE.PENDING 0 = r.trial % 16 :=
  State.f_setF_self ..
theorem State.prefWritten_busy (s : State) (r : PrefRec) : (s.prefWritten r).on BT_UPDATE.BUSY 0 = false := by
  unfold State.prefWritten State.on
  rw [State.f_setF_ne _ (by decide)]
  exact State.on_setOn_self _ rfl _ _

theorem exec_prefWriteDone_idle {s : State} (h : s.boot.prefWrite = none) : exec .prefWriteDone s = .next s := by
  show execPrefWriteDone s = _
  unfold execPrefWriteDone
  rw [h]

theorem exec_prefWriteDone_some {s : State} {r : PrefRec} {restart : Bool} (h : s.boot.prefWrite = some (r, restart)) :
    exec .prefWriteDone s = .next (if restart then (s.prefWritten r).packageReset PWR_RESET_CAUSE.BOOT_RESTART
      else s.prefWritten r) := by
  show execPrefWriteDone s = _
  unfold execPrefWriteDone
  rw [h]
  rfl

theorem exec_prefWriteDone_results {s : State} {r : PrefRec} {restart : Bool} (h : s.boot.prefWrite = some (r, restart)) :
    answers .prefWriteDone s fun u => u.boot.flash = (s.putPref r).boot.flash ∧
      (restart = false → u.on BT_UPDATE.BUSY 0 = false ∧ u.boot.prefWrite = none ∧ u.f BT_UPDATE.PENDING 0 = r.trial % 16) ∧
      (restart = true → u.on PWR_RESET_CAUSE.BOOT_RESTART 0 = true) := by
  refine ⟨_, exec_prefWriteDone_some h, ?_⟩
  cases restart with
  | true =>
    rw [if_pos rfl, State.packageReset_flash, State.prefWritten_flash]
    exact ⟨rfl, fun e => absurd e (by decide), fun _ => State.packageReset_boot_restart _⟩
  | false =>
    rw [if_neg (by decide)]
    exact ⟨s.prefWritten_flash r, fun _ => ⟨s.prefWritten_busy r, s.prefWritten_idle r, s.prefWritten_pending r⟩,
      fun e => absurd e (by decide)⟩

/-! ### SVN_COMMIT (R71) -/

/-- The minimum of one running image is raised to its SVN. -/
def State.raiseSvn (s : State) (x : Nat × Nat) : State :=
  { s with boot := { s.boot with svnMin := put x.1 (max (s.svnFloor x.1) x.2) s.boot.svnMin } }

theorem State.svnFloor_raiseSvn (s : State) (x : Nat × Nat) (t : Nat) :
    (s.raiseSvn x).svnFloor t = if t = x.1 then max (s.svnFloor t) x.2 else s.svnFloor t := by
  by_cases h : t = x.1
  · subst h
    rw [if_pos rfl]
    exact findD_put_self ..
  · rw [if_neg h]
    exact findD_put_ne h ..

/-- The minima after those of some images are raised. -/
theorem svnFloor_foldl_raiseSvn (t : Nat) (l : List (Nat × Nat)) (s : State) :
    s.svnFloor t ≤ (l.foldl State.raiseSvn s).svnFloor t ∧ (∀ v, (t, v) ∈ l → v ≤ (l.foldl State.raiseSvn s).svnFloor t) ∧
      ((∀ x ∈ l, t ≠ x.1) → (l.foldl State.raiseSvn s).svnFloor t = s.svnFloor t) := by
  induction l generalizing s with
  | nil => exact ⟨Nat.le_refl _, fun v hv => absurd hv List.not_mem_nil, fun _ => rfl⟩
  | cons x l ih =>
    obtain ⟨hmono, hin, hout⟩ := ih (s.raiseSvn x)
    rw [State.svnFloor_raiseSvn] at hmono hout
    rw [List.foldl_cons]
    refine ⟨?_, fun v hv => ?_, fun hne => ?_⟩
    · split at hmono <;> omega
    · rcases List.mem_cons.mp hv with rfl | hv
      · rw [if_pos rfl] at hmono
        omega
      · exact hin v hv
    · rw [hout fun y hy => hne y (List.mem_cons_of_mem _ hy), if_neg (hne x (List.mem_cons_self ..))]

/-- The running images that SVN_COMMIT names. -/
def State.svnNamed (s : State) (types : BitVec 4) : List (Nat × Nat) :=
  s.boot.svn.filter fun x => types.toNat.testBit (x.1 - 1)

theorem exec_svnCommit_ignored {s : State} {agent : Agent} {key : BitVec 16}
    (h : ¬s.btUser agent = true ∨ key ≠ 0x5A17 ∨ s.f BT_UPDATE.PENDING 0 ≠ 0) (types : BitVec 4) :
    exec (.svnCommit agent key types) s = .next s :=
  congrArg Host.Outcome.next (if_pos (btGuard_refused (h.imp_right (Or.imp_right decide_eq_true))))

theorem exec_svnCommit_taken {s : State} {agent : Agent} {key : BitVec 16} (hu : s.btUser agent = true) (hk : key = 0x5A17)
    (hp : s.f BT_UPDATE.PENDING 0 = 0) (types : BitVec 4) :
    exec (.svnCommit agent key types) s = .next ((s.svnNamed types).foldl State.raiseSvn s) :=
  congrArg Host.Outcome.next (if_neg (btGuard_taken hu hk (decide_eq_false (not_not.mpr hp))))

theorem exec_svnCommit_results {s : State} {agent : Agent} {key : BitVec 16} (hu : s.btUser agent = true)
    (hk : key = 0x5A17) (hp : s.f BT_UPDATE.PENDING 0 = 0) (types : BitVec 4) :
    answers (.svnCommit agent key types) s fun u => ∀ t, s.svnFloor t ≤ u.svnFloor t ∧
      (types.toNat.testBit (t - 1) = true → ∀ v, (t, v) ∈ s.boot.svn → v ≤ u.svnFloor t) ∧
      (types.toNat.testBit (t - 1) = false → u.svnFloor t = s.svnFloor t) := by
  refine ⟨_, exec_svnCommit_taken hu hk hp types, fun t => ?_⟩
  obtain ⟨hmono, hin, hout⟩ := svnFloor_foldl_raiseSvn t (s.svnNamed types) s
  refine ⟨hmono, fun hbit v hv => hin v (List.mem_filter.mpr ⟨hv, hbit⟩), fun hbit => hout fun x hx => ?_⟩
  rintro rfl
  exact absurd (List.mem_filter.mp hx).2 (by rw [hbit]; decide)

/-! ### The obligation -/

/-- Settles O10: the claim, the flash commands and their ends by `FlashEnds`, the records by what BT_UPDATE writes, and the
SVN minima by the fold that raises them. -/
theorem flashAndUpdateResults : Obligations.FlashAndUpdateResults := by
  unfold Obligations.FlashAndUpdateResults
  intro s agent ok restart key types a may owner busy starts writes
  refine ⟨exec_claim_of_not_user, fun k => exec_claim_of_user, exec_release agent s,
    flashCmd_results (exec_flashRead agent s) (if_neg (by decide)),
    flashCmd_results (exec_flashProgram agent s) (if_neg (by decide)),
    flashCmd_results (exec_flashErase agent s) (if_pos rfl), s.flashProtected_iff a,
    fun h => exec_flashCmdDone_idle h ok, fun c hc => ?_,
    prefAction_results (f := fun r => { r with trial := types.toNat }) (exec_trial agent key types restart s),
    prefAction_results (f := prefCommit) (exec_commit agent key restart s),
    prefAction_results (f := fun r => { r with trial := 0 }) (exec_revert agent key restart s),
    exec_restart_ignored, fun hu hk hb => ?_, exec_prefWriteDone_idle, fun r rs => exec_prefWriteDone_results,
    fun h => exec_svnCommit_ignored h types, fun hu hk hp => exec_svnCommit_results hu hk hp types⟩
  · obtain ⟨u, hu, hends, hrest⟩ := exec_flashCmdDone_results hc ok
    exact ⟨u, hu, hends.busy, hends.cmd, hends.others, hrest⟩
  · exact ⟨_, exec_restart_taken hu hk hb, s.packageReset_boot_restart,
      fun hr => ⟨State.packageReset_threads hr _, s.packageReset_flash _⟩⟩

end Sys2Proof.Machine
end

section
/-! PROOF. The images that a boot chooses: what the choice reads of the state, and what it answers (R56, R57, R60, R61). -/

namespace Sys2Proof.Machine

/-! ### The choice depends on the flash and on the SVN minima alone -/

/-- Two states hold the same images and the same SVN minima. -/
structure State.SameImages (s t : State) : Prop where
  flash : t.boot.flash = s.boot.flash
  svnMin : t.boot.svnMin = s.boot.svnMin

theorem State.SameImages.of_boot {s t : State} (h : t.boot = s.boot) : s.SameImages t :=
  ⟨congrArg Boot.flash h, congrArg Boot.svnMin h⟩

theorem State.descriptor_of_flash {s t : State} (h : t.boot.flash = s.boot.flash) (type slot : Nat) :
    t.descriptor type slot = s.descriptor type slot := State.flashRead_of_flash h ..

section SameImages
variable {s t : State} (h : s.SameImages t)
include h

theorem State.SameImages.descriptor (type slot : Nat) : t.descriptor type slot = s.descriptor type slot :=
  State.descriptor_of_flash h.flash type slot

theorem State.SameImages.descResult (type slot : Nat) : t.descResult type slot = s.descResult type slot := by
  have hkey : t.keyBlock type slot = s.keyBlock type slot := State.flashRead_of_flash h.flash ..
  have hfloor : t.svnFloor type = s.svnFloor type := by
    unfold State.svnFloor
    rw [h.svnMin]
  unfold State.descResult
  rw [h.descriptor, hkey, hfloor]

theorem State.SameImages.digestOk (type slot : Nat) : t.digestOk type slot = s.digestOk type slot := by
  unfold State.digestOk
  simp only [h.descriptor, State.flashRead_of_flash h.flash]

theorem State.SameImages.slotValid (type slot : Nat) : t.slotValid type slot = s.slotValid type slot := by
  unfold State.slotValid
  rw [h.descResult, h.digestOk]

theorem State.SameImages.searchCombo (r : PrefRec) (safety : Nat) (ok : Nat → Nat → Bool) :
    t.searchCombo r safety ok = s.searchCombo r safety ok := by
  have hruns : t.comboRuns safety = s.comboRuns safety := funext fun c => by
    unfold State.comboRuns
    simp only [h.descriptor]
  unfold State.searchCombo
  rw [hruns]

theorem State.SameImages.choose (r : PrefRec) (safety : Nat) (bad : List Nat) (fuel : Nat) :
    t.choose r safety bad fuel = s.choose r safety bad fuel := by
  induction fuel generalizing bad with
  | zero => rfl
  | succ fuel ih =>
    rw [State.choose, State.choose]
    simp only [h.descResult, h.searchCombo, h.digestOk, ih]

end SameImages

/-! ### A combination that is chosen -/

theorem State.searchCombo_runs {s : State} {r : PrefRec} {safety : Nat} {ok : Nat → Nat → Bool} {c : Combo}
    (h : s.searchCombo r safety ok = some c) : s.comboRuns safety c = true := List.find?_some h

/-- The search takes only slots that its filter lets through. -/
theorem State.searchCombo_ok {s : State} {r : PrefRec} {safety : Nat} {ok : Nat → Nat → Bool} {c : Combo}
    (h : s.searchCombo r safety ok = some c) : ok 4 c.drill = true ∧ ok 3 c.reeve = true ∧ ok 2 c.till = true := by
  have hmem := List.mem_of_find?_eq_some h
  simp only [List.mem_flatMap, List.mem_map, List.mem_filter] at hmem
  obtain ⟨d, ⟨-, hd⟩, v, ⟨-, hv⟩, t, ⟨-, ht⟩, rfl⟩ := hmem
  exact ⟨hd, hv, ht⟩

/-- A chosen combination runs by R57, and each of its slots is valid by R56. -/
theorem State.choose_combo {s : State} {r : PrefRec} {safety : Nat} {c : Combo} {fuel : Nat} {bad : List Nat}
    (h : (s.choose r safety bad fuel).1 = .combo c) :
    s.comboRuns safety c = true ∧ ∀ t ∈ [2, 3, 4], s.slotValid t (c.slot t) = true := by
  induction fuel generalizing bad with
  | zero => cases h
  | succ fuel ih =>
    rw [State.choose] at h
    dsimp only at h
    split at h
    · cases h
    split at h
    · cases h
    next c' hsearch =>
      split at h
      next hdigest =>
        cases h
        have hdesc : ∀ t ∈ [2, 3, 4], s.descResult t (c.slot t) = 1 := by
          have hok := State.searchCombo_ok hsearch
          simp only [Bool.and_eq_true, decide_eq_true_eq] at hok
          obtain ⟨⟨hd, -⟩, ⟨hv, -⟩, ⟨ht, -⟩⟩ := hok
          simp only [List.forall_mem_cons]
          exact ⟨ht, hv, hd, fun _ hn => absurd hn List.not_mem_nil⟩
        refine ⟨State.searchCombo_runs hsearch, fun t ht => ?_⟩
        have hin : t ∈ [4, 3, 2] := by
          simp only [List.mem_cons, List.not_mem_nil, or_false] at ht ⊢
          omega
        have hdig : s.digestOk t (c.slot t) = true := by simpa using List.find?_eq_none.mp hdigest t hin
        unfold State.slotValid
        rw [hdesc t ht, hdig]
        rfl
      · exact ih h

/-! ### The safety slot (step 4 of R60) -/

/-- The field that shows the result of a slot. -/
def resultField (slot : Nat) : Fld := if slot = 0 then BT_SLOT.A_RESULT else BT_SLOT.B_RESULT

/-- The fields that show the results of the slots. -/
def resultFields : List Fld := [BT_SLOT.A_RESULT, BT_SLOT.B_RESULT]

theorem resultField_mem (slot : Nat) : resultField slot ∈ resultFields := by
  unfold resultField
  split <;> decide

theorem resultField_facts (slot : Nat) :
    (resultField slot).id < 4096 ∧ (resultField slot).blk = .BT ∧ (resultField slot).width = 4 :=
  (by decide : ∀ F ∈ resultFields, F.id < 4096 ∧ F.blk = .BT ∧ F.width = 4) _ (resultField_mem slot)

theorem resultField_id_lt (slot : Nat) : (resultField slot).id < 4096 := (resultField_facts slot).1
theorem resultField_blk (slot : Nat) : (resultField slot).blk = .BT := (resultField_facts slot).2.1

theorem resultField_id_notMem (slot : Nat) {l : List Nat} (h : ∀ F ∈ resultFields, F.id ∉ l) : (resultField slot).id ∉ l :=
  h _ (resultField_mem slot)

theorem resultField_eq_of_id {j k : Nat} (h : (resultField j).id = (resultField k).id) : resultField j = resultField k :=
  (by decide : ∀ F ∈ resultFields, ∀ G ∈ resultFields, F.id = G.id → F = G) _ (resultField_mem j) _ (resultField_mem k) h

theorem State.showResult_eq (s : State) (type slot code : Nat) :
    s.showResult type slot code = s.setF (resultField slot) (type - 1) code := rfl

theorem State.showResult_reads (s : State) (type slot : Nat) {code : Nat} (h : code < 16) :
    (s.showResult type slot code).f (resultField slot) (type - 1) = code := by
  obtain ⟨-, -, hw⟩ := resultField_facts slot
  rw [State.showResult_eq, State.f_setF_self, hw]
  exact Nat.mod_eq_of_lt h

theorem State.showResult_boot (s : State) (type slot code : Nat) : (s.showResult type slot code).boot = s.boot := rfl

theorem State.safetySlot_boot (s : State) (l : List Nat) : (s.safetySlot l).2.boot = s.boot :=
  boot_of_keep (m := Facet.only .boot) (State.safetySlot_keep (Facet.only_ne (by decide)) s l) rfl

theorem State.safetySlot_cons_valid {s : State} {k : Nat} (h : s.slotValid 1 k = true) (l : List Nat) :
    s.safetySlot (k :: l) = (some k, s.showResult 1 k 1) := if_pos h

theorem State.safetySlot_cons_invalid {s : State} {k : Nat} (h : s.slotValid 1 k = false) (l : List Nat) :
    s.safetySlot (k :: l) = (s.showResult 1 k 0xA).safetySlot l := if_neg (by rw [h]; decide)

theorem State.slotValid_showResult (s : State) (slot code type k : Nat) :
    (s.showResult 1 slot code).slotValid type k = s.slotValid type k :=
  (State.SameImages.of_boot (s.showResult_boot 1 slot code)).slotValid type k

/-- The slot accepted is the first valid one. -/
theorem State.safetySlot_fst (s : State) (l : List Nat) : (s.safetySlot l).1 = l.find? fun k => s.slotValid 1 k := by
  induction l generalizing s with
  | nil => rfl
  | cons k l ih =>
    cases hk : s.slotValid 1 k with
    | true => rw [State.safetySlot_cons_valid hk, List.find?_cons_of_pos hk]
    | false =>
      rw [State.safetySlot_cons_invalid hk, List.find?_cons_of_neg (by rw [hk]; decide), ih]
      simp only [State.slotValid_showResult]

theorem State.safetySlot_accepts {s : State} {l : List Nat} {k : Nat} (h : (l.find? fun k => s.slotValid 1 k) = some k) :
    (s.safetySlot l).2.f (resultField k) 0 = 1 := by
  induction l generalizing s with
  | nil => cases h
  | cons j l ih =>
    cases hj : s.slotValid 1 j with
    | true =>
      rw [List.find?_cons_of_pos hj] at h
      cases h
      rw [State.safetySlot_cons_valid hj]
      exact s.showResult_reads 1 _ (by decide)
    | false =>
      rw [List.find?_cons_of_neg (by rw [hj]; decide)] at h
      rw [State.safetySlot_cons_invalid hj]
      refine ih ?_
      simp only [State.slotValid_showResult]
      exact h

/-- Where no slot is accepted, every candidate shows ISLAND_REJECT. -/
theorem State.safetySlot_rejects {s : State} {l : List Nat} (h : (l.find? fun k => s.slotValid 1 k) = none) {k : Nat}
    (hk : k ∈ l ∨ s.f (resultField k) 0 = 0xA) : (s.safetySlot l).2.f (resultField k) 0 = 0xA := by
  induction l generalizing s with
  | nil => exact hk.resolve_left List.not_mem_nil
  | cons j l ih =>
    cases hj : s.slotValid 1 j with
    | true =>
      rw [List.find?_cons_of_pos hj] at h
      cases h
    | false =>
      rw [List.find?_cons_of_neg (by rw [hj]; decide)] at h
      rw [State.safetySlot_cons_invalid hj]
      have hshown := s.showResult_reads 1 j (code := 0xA) (by decide)
      refine ih (by simpa only [State.slotValid_showResult] using h) ?_
      by_cases hjk : resultField k = resultField j
      · rw [hjk]
        exact .inr hshown
      · have hne : (resultField k).key 0 ≠ (resultField j).key (1 - 1) :=
          Fld.key_ne_of_id (resultField_id_lt k) (resultField_id_lt j) (fun e => hjk (resultField_eq_of_id e)) _ _
        rw [State.showResult_eq, State.f_setF_ne _ hne]
        refine hk.imp_left fun hm => (List.mem_cons.mp hm).resolve_left fun e => hjk (by rw [e])

/-- Only the slots' results are written. -/
theorem State.safetySlot_f_ne {F : Fld} (hid : F.id < 4096) (hF : ∀ G ∈ resultFields, F.id ≠ G.id) (s : State)
    (l : List Nat) (i : Nat) : (s.safetySlot l).2.f F i = s.f F i := by
  have hshow : ∀ (s : State) k code, (s.showResult 1 k code).f F i = s.f F i := fun s k code =>
    State.f_setF_ne _ (Fld.key_ne_of_id hid (resultField_id_lt k) (hF _ (resultField_mem k)) _ _) _
  induction l generalizing s with
  | nil => rfl
  | cons k l ih =>
    cases hk : s.slotValid 1 k with
    | true => rw [State.safetySlot_cons_valid hk, hshow]
    | false => rw [State.safetySlot_cons_invalid hk, ih, hshow]

end Sys2Proof.Machine
end

section
/-! PROOF. The boot sequence: step 3 of R60, the ends in recovery, and the start of the chosen images (R60 to R66, R70). -/

namespace Sys2Proof.Machine

/-! ### Passes over a list -/

/-- The contexts after a pass that sets some of them. -/
theorem foldl_setThread_thread (v : Nat → Thread) (l : List Nat) (s : State) (k : Nat) :
    (l.foldl (fun s h => s.setThread h (v h)) s).thread k = if k ∈ l then v k else s.thread k := by
  induction l generalizing s with
  | nil => rfl
  | cons a l ih =>
    rw [List.foldl_cons, ih]
    by_cases hl : k ∈ l
    · rw [if_pos hl, if_pos (List.mem_cons_of_mem _ hl)]
    · rw [if_neg hl]
      by_cases hka : k = a
      · subst hka
        rw [if_pos (List.mem_cons_self ..), State.thread_setThread_self]
      · rw [if_neg fun h => (List.mem_cons.mp h).elim hka hl, State.thread_setThread_ne _ hka]

/-! ### The end of the boot ROM -/

/-- A boot from `s` has ended in `u` with its code, and BOOT_RESULT is logged (R63, R66). -/
def State.Ends (s : State) (code : Nat) (recovery : Bool) (u : State) : Prop :=
  u.f BT_STATUS.CODE 0 = code ∧ u.on BT_STATUS.RECOVERY 0 = recovery ∧ u.on BT_STATUS.DONE 0 = true ∧
    { s with reeve := { s.reeve with setpoint := u.reeve.setpoint } }.logs u 0x0003 noInst noInst (u.regAt .BT 0x4 0)

theorem State.regAt_btStatus (s : State) : s.regAt .BT 0x4 0 =
    s.f BT_STATUS.CODE 0 * 2 ^ 8 + (s.f BT_STATUS.RECOVERY 0 * 2 ^ 1 + s.f BT_STATUS.DONE 0 * 2 ^ 0) := by
  simp [State.regAt, Blk.regs, regsBT, State.readReg, State.readFld, BT_STATUS.CODE, BT_STATUS.RECOVERY, BT_STATUS.DONE]

/-- BT_STATUS as the end of the boot ROM sets it. -/
def State.statusSet (s : State) (code : Nat) (recovery : Bool) : State :=
  ((s.setF BT_STATUS.CODE 0 code).setOn BT_STATUS.RECOVERY 0 recovery).setOn BT_STATUS.DONE 0 true

theorem State.statusSet_keep {m : Facet → Bool} (h : m (.blk .BT) = false) (s : State) (code : Nat) (recovery : Bool) :
    (s.statusSet code recovery).keep m = s.keep m := by
  unfold State.statusSet
  rw [State.setOn_keep _ _ h, State.setOn_keep _ _ h, State.setF_keep _ _ h]

theorem State.bootEnds_eq (s : State) (code : Nat) (recovery : Bool) : s.bootEnds code recovery =
    (s.statusSet code recovery).log0 0x0003 ((s.statusSet code recovery).regAt .BT 0x4 0) := rfl

/-- What an end leaves of the fields but its own. -/
theorem State.bootEnds_f_ne {F : Fld} (hid : F.id < 4096) (hblk : F.blk ≠ .RV)
    (hF : F.id ∉ [BT_STATUS.CODE.id, BT_STATUS.RECOVERY.id, BT_STATUS.DONE.id]) (s : State) (code : Nat) (recovery : Bool)
    (i : Nat) : (s.bootEnds code recovery).f F i = s.f F i := by
  simp only [List.mem_cons, List.not_mem_nil, or_false, not_or] at hF
  obtain ⟨hc, hr, hd⟩ := hF
  have hlog : ∀ (u : State) aux, (u.log0 0x0003 aux).f F i = u.f F i := fun u aux =>
    f_of_only rfl (State.log0_keep (Facet.only_ne fun e => hblk (Facet.blk.inj e).symm) (Facet.only_ne (by simp)) _ _ _) i
  rw [State.bootEnds_eq, hlog]
  unfold State.statusSet State.setOn
  rw [State.f_setF_ne _ (Fld.key_ne_of_id hid (by decide) hd _ _),
    State.f_setF_ne _ (Fld.key_ne_of_id hid (by decide) hr _ _),
    State.f_setF_ne _ (Fld.key_ne_of_id hid (by decide) hc _ _)]

theorem State.logEvent_setpoint (s : State) (code inst plot aux addr detail : Nat) :
    (s.logEvent code inst plot aux addr detail).reeve.setpoint = s.reeve.setpoint := by
  have hlost : ((s.bump RV_LOG_LOST.COUNT 0).setOn RV_LOG_STAT.QOVF 0 true).reeve = s.reeve :=
    reeve_of_keep (m := Facet.only .reeve) (by simp (disch := decide)) rfl
  unfold State.logEvent
  split
  · rfl
  · rw [hlost]

/-- A boot ends: of Reeve only the setpoint has changed since it began, and no time has passed. -/
theorem State.bootEnds_ends {s t : State} (hn : t.now = s.now)
    (hr : t.reeve = { s.reeve with setpoint := t.reeve.setpoint }) {code : Nat} (hc : code < 256) (recovery : Bool) :
    s.Ends code recovery (t.bootEnds code recovery) := by
  have hbt : ∀ aux, ((t.statusSet code recovery).log0 0x0003 aux).keep (Facet.only (.blk .BT)) =
      (t.statusSet code recovery).keep (Facet.only (.blk .BT)) := fun aux =>
    State.log0_keep (Facet.only_ne (by decide)) (Facet.only_ne (by decide)) _ _ _
  rw [State.bootEnds_eq]
  refine ⟨?_, ?_, ?_, ?_⟩
  · rw [f_of_only (b := .BT) rfl (hbt _)]
    unfold State.statusSet State.setOn
    rw [State.f_setF_ne _ (by decide), State.f_setF_ne _ (by decide), State.f_setF_self]
    exact Nat.mod_eq_of_lt hc
  · rw [on_of_only (b := .BT) rfl (hbt _)]
    unfold State.statusSet
    rw [State.on_setOn_ne _ (by decide)]
    exact State.on_setOn_self _ rfl _ _
  · rw [on_of_only (b := .BT) rfl (hbt _)]
    exact State.on_setOn_self _ rfl _ _
  · have haux : ∀ aux, ((t.statusSet code recovery).log0 0x0003 aux).regAt .BT 0x4 0 =
        (t.statusSet code recovery).regAt .BT 0x4 0 := fun aux => by
      rw [State.regAt_btStatus, State.regAt_btStatus, f_of_only (b := .BT) rfl (hbt aux), f_of_only (b := .BT) rfl (hbt aux),
        f_of_only (b := .BT) rfl (hbt aux)]
    have hset : ∀ aux, ((t.statusSet code recovery).log0 0x0003 aux).reeve.setpoint = t.reeve.setpoint := fun aux =>
      State.logEvent_setpoint (t.statusSet code recovery) _ _ _ _ _ _
    have hnow : (t.statusSet code recovery).now = s.now :=
      (f_of_only (b := .CLK) rfl (State.statusSet_keep (Facet.only_ne (by decide)) ..) 0).trans hn
    unfold State.logs
    rw [haux, hset]
    exact State.logEvent_reeve_congr (s := { s with reeve := { s.reeve with setpoint := t.reeve.setpoint } })
      (t := t.statusSet code recovery) hr hnow ..

/-! ### What step 3 wrote stands -/

/-- From `s` to `t` no time has passed, and what step 3 wrote stands: the pending set, the flash, and a watchdog that was
armed is armed from now on. -/
structure State.StepKept (s t : State) : Prop where
  now : t.now = s.now
  pending : t.f BT_UPDATE.PENDING 0 = s.f BT_UPDATE.PENDING 0
  flash : t.boot.flash = s.boot.flash
  period : t.f PWR_WDOG_CFG.PERIOD 0 = s.f PWR_WDOG_CFG.PERIOD 0
  armed : s.on PWR_WDOG_CFG.EN 0 = true ∧ s.clk.kickAt = s.now → t.on PWR_WDOG_CFG.EN 0 = true ∧ t.clk.kickAt = t.now

theorem State.StepKept.trans {s t u : State} (h : s.StepKept t) (k : t.StepKept u) : s.StepKept u :=
  ⟨k.now.trans h.now, k.pending.trans h.pending, k.flash.trans h.flash, k.period.trans h.period, k.armed ∘ h.armed⟩

/-- The parts that the clocks and the watchdog stand in. -/
def watchPart (p : Facet) : Bool := decide (p = .blk .CLK ∨ p = .blk .PWR ∨ p = .clk ∨ p = .por)

theorem State.StepKept.of_keep {s t : State} (hk : t.keep watchPart = s.keep watchPart)
    (hp : t.f BT_UPDATE.PENDING 0 = s.f BT_UPDATE.PENDING 0) (hf : t.boot.flash = s.boot.flash) : s.StepKept t := by
  have hnow : t.now = s.now := f_of_keep hk rfl 0
  refine ⟨hnow, hp, hf, f_of_keep hk rfl 0, fun h => ?_⟩
  rw [State.on, f_of_keep hk (F := PWR_WDOG_CFG.EN) rfl 0, clk_of_keep hk rfl rfl, hnow]
  exact h

theorem State.bootEnds_stepKept (s : State) (code : Nat) (recovery : Bool) : s.StepKept (s.bootEnds code recovery) :=
  .of_keep (State.bootEnds_keep rfl rfl rfl _ _ _) (State.bootEnds_f_ne (by decide) (by decide) (by decide) _ _ _ _)
    (congrArg Boot.flash (boot_of_keep (m := Facet.only .boot) (by simp (disch := decide)) rfl))

/-- Step 3 of R60, done (R70): the record with the trial counted or given up, and the watchdog of a trial. -/
def State.Stepped (s u : State) : Prop :=
  u.f BT_UPDATE.PENDING 0 = (nextPref s.pref).trial % 16 ∧
    u.boot.flash = (if s.pref.trial = 0 then s.boot.flash else (s.putPref (nextPref s.pref)).boot.flash) ∧
    ((nextPref s.pref).trial ≠ 0 →
      u.f PWR_WDOG_CFG.PERIOD 0 = 2000 ∧ u.on PWR_WDOG_CFG.EN 0 = true ∧ u.clk.kickAt = s.now)

theorem State.Stepped.kept {s t u : State} (h : s.Stepped t) (hn : t.now = s.now) (k : t.StepKept u) : s.Stepped u := by
  obtain ⟨hp, hf, hw⟩ := h
  refine ⟨k.pending.trans hp, k.flash.trans hf, fun ht => ?_⟩
  obtain ⟨hper, hen, hkick⟩ := hw ht
  obtain ⟨hen', hkick'⟩ := k.armed ⟨hen, hkick.trans hn.symm⟩
  exact ⟨k.period.trans hper, hen', hkick'.trans (k.now.trans hn)⟩

/-- The record of a trial is written. -/
def State.recorded (s : State) : State := if s.pref.trial ≠ 0 then s.putPref (nextPref s.pref) else s

theorem State.prefStep_eq (s : State) : s.prefStep =
    (if (nextPref s.pref).trial ≠ 0 then (s.recorded.setF PWR_WDOG_CFG.PERIOD 0 2000).armWatchdog else s.recorded).setF
      BT_UPDATE.PENDING 0 (nextPref s.pref).trial := rfl

theorem State.recorded_now (s : State) : s.recorded.now = s.now := by
  have hput : (s.putPref (nextPref s.pref)).now = s.now :=
    f_of_only (b := .CLK) rfl (State.putPref_keep (Facet.only_ne (by decide)) _ _) 0
  unfold State.recorded
  split
  · exact hput
  · rfl

theorem State.recorded_flash (s : State) : s.recorded.boot.flash =
    if s.pref.trial = 0 then s.boot.flash else (s.putPref (nextPref s.pref)).boot.flash := by
  unfold State.recorded
  by_cases h : s.pref.trial = 0
  · rw [if_neg (not_not.mpr h), if_pos h]
  · rw [if_pos h, if_neg h]

theorem State.prefStep_stepped (s : State) : s.Stepped s.prefStep := by
  rw [State.prefStep_eq]
  refine ⟨State.f_setF_self .., ?_, fun ht => ?_⟩
  · rw [← s.recorded_flash]
    generalize s.recorded = t
    split <;> rfl
  · rw [if_pos ht]
    have hnow := s.recorded_now
    generalize s.recorded = t at hnow ⊢
    refine ⟨?_, ?_, (State.f_setF_ne t (by decide) 2000).trans hnow⟩
    · rw [State.f_setF_ne _ (by decide)]
      unfold State.armWatchdog State.setOn
      rw [State.f_setF_ne _ (by decide)]
      exact State.f_setF_self ..
    · unfold State.on
      rw [State.f_setF_ne _ (by decide)]
      exact State.on_setOn_self _ rfl _ _

end Sys2Proof.Machine
end

section
/-! PROOF. The chosen images run: the slots shown, what the island is told, and the start of Drill (R58 to R62). -/

namespace Sys2Proof.Machine

/-! ### The slots shown as running -/

/-- The slot that runs of a type. -/
def chosenSlot (safety : Nat) (c : Combo) (type : Nat) : Nat := if type = 1 then safety else c.slot type

/-- The slots of all four types, shown. -/
def State.runningShown (s : State) (r : PrefRec) (safety : Nat) (c : Combo) : State :=
  [1, 2, 3, 4].foldl (fun s t => s.showRunning r t (chosenSlot safety c t)) s

theorem State.showRunning_flash (s : State) (r : PrefRec) (type slot : Nat) :
    (s.showRunning r type slot).boot.flash = s.boot.flash := rfl

/-- The fields of BT_SLOT that a running slot is shown in. -/
def shownFields : List Nat := [BT_SLOT.ID.id, BT_SLOT.SEL.id, BT_SLOT.TRIAL.id]

theorem State.showRunning_f {F : Fld} {i type : Nat} (hid : F.id < 4096) (h : F.id ∉ shownFields ∨ i ≠ type - 1) (s : State)
    (r : PrefRec) (slot : Nat) : (s.showRunning r type slot).f F i = s.f F i := by
  have hne : ∀ G ∈ [BT_SLOT.ID, BT_SLOT.SEL, BT_SLOT.TRIAL], F.key i ≠ G.key (type - 1) := by
    intro G hG
    have hGid : G.id < 4096 ∧ G.id ∈ shownFields := by
      revert G
      decide
    rcases h with h | h
    · exact Fld.key_ne_of_id hid hGid.1 (fun e => h (e ▸ hGid.2)) _ _
    · exact Fld.key_ne_of_inst hid hGid.1 h
  unfold State.showRunning
  refine (State.f_setF_ne _ (hne BT_SLOT.TRIAL (by decide)) _).trans ?_
  rw [State.f_setF_ne _ (hne BT_SLOT.SEL (by decide)), State.f_setF_ne _ (hne BT_SLOT.ID (by decide))]

theorem State.showRunning_sel (s : State) (r : PrefRec) (type slot : Nat) :
    (s.showRunning r type slot).f BT_SLOT.SEL (type - 1) = slot % 2 := by
  unfold State.showRunning
  refine (State.f_setF_ne _ (Fld.key_ne_of_id (by decide) (by decide) (by decide) _ _) _).trans ?_
  exact State.f_setF_self ..

theorem State.showRunning_id (s : State) (r : PrefRec) (type slot : Nat) :
    (s.showRunning r type slot).f BT_SLOT.ID (type - 1) = imageId (s.descriptor type slot) % 2 ^ 16 := by
  unfold State.showRunning
  refine (State.f_setF_ne _ (Fld.key_ne_of_id (by decide) (by decide) (by decide) _ _) _).trans ?_
  rw [State.f_setF_ne _ (Fld.key_ne_of_id (by decide) (by decide) (by decide) _ _)]
  exact State.f_setF_self ..

/-- Each type of a pass over different types shows its slot and its image's ID. -/
theorem foldl_showRunning_shows (r : PrefRec) (slot : Nat → Nat) {t : Nat} (l : List Nat) (hpos : ∀ a ∈ l, 0 < a)
    (hnd : l.Nodup) (ht : t ∈ l) (s : State) :
    (l.foldl (fun s t => s.showRunning r t (slot t)) s).f BT_SLOT.SEL (t - 1) = slot t % 2 ∧
      (l.foldl (fun s t => s.showRunning r t (slot t)) s).f BT_SLOT.ID (t - 1) =
        imageId (s.descriptor t (slot t)) % 2 ^ 16 := by
  induction l generalizing s with
  | nil => cases ht
  | cons a l ih =>
    have hposl : ∀ b ∈ l, 0 < b := fun b hb => hpos b (List.mem_cons_of_mem _ hb)
    obtain ⟨hal, hndl⟩ := List.nodup_cons.mp hnd
    rw [List.foldl_cons]
    by_cases hta : t = a
    · subst hta
      have hlater : ∀ s : State, ∀ b ∈ l, ∀ F : Fld, F.id < 4096 →
          (s.showRunning r b (slot b)).f F (t - 1) = s.f F (t - 1) := by
        intro s b hb F hid
        refine State.showRunning_f hid (.inr fun e => hal ?_) s r (slot b)
        have hb0 := hposl b hb
        have ht0 := hpos t (List.mem_cons_self ..)
        rwa [show t = b by omega]
      rw [foldl_f_eq l (fun s b hb => hlater s b hb BT_SLOT.SEL (by decide)),
        foldl_f_eq l (fun s b hb => hlater s b hb BT_SLOT.ID (by decide))]
      exact ⟨s.showRunning_sel .., s.showRunning_id ..⟩
    · have hrest := ih hposl hndl ((List.mem_cons.mp ht).resolve_left hta) (s.showRunning r a (slot a))
      rwa [State.descriptor_of_flash (s.showRunning_flash ..)] at hrest

/-- The pairs shown as untested (R58). -/
def State.compatShown (s : State) (hmb rvd tmc : Bool) : State :=
  ((s.setOn BT_COMPAT.UNTESTED_HMB 0 hmb).setOn BT_COMPAT.UNTESTED_RVD 0 rvd).setOn BT_COMPAT.UNTESTED_TMC 0 tmc

theorem State.compatShown_f {F : Fld} (hid : F.id < 4096)
    (hF : F.id ∉ [BT_COMPAT.UNTESTED_HMB.id, BT_COMPAT.UNTESTED_RVD.id, BT_COMPAT.UNTESTED_TMC.id]) (s : State)
    (hmb rvd tmc : Bool) (i : Nat) : (s.compatShown hmb rvd tmc).f F i = s.f F i := by
  simp only [List.mem_cons, List.not_mem_nil, or_false, not_or] at hF
  obtain ⟨hh, hr, ht⟩ := hF
  unfold State.compatShown State.setOn
  rw [State.f_setF_ne _ (Fld.key_ne_of_id hid (by decide) ht _ _),
    State.f_setF_ne _ (Fld.key_ne_of_id hid (by decide) hr _ _),
    State.f_setF_ne _ (Fld.key_ne_of_id hid (by decide) hh _ _)]

theorem State.runningShown_eq (s : State) (r : PrefRec) (safety : Nat) (c : Combo) : s.runningShown r safety c =
    (((s.showRunning r 1 safety).showRunning r 2 c.till).showRunning r 3 c.reeve).showRunning r 4 c.drill := by
  simp only [State.runningShown, List.foldl_cons, List.foldl_nil]
  rfl

/-- Beside the running slots, BT_COMPAT is written. -/
theorem State.imagesShown_regs (s : State) (r : PrefRec) (safety : Nat) (c : Combo) : ∃ hmb rvd tmc,
    (s.imagesShown r safety c).regs = ((s.runningShown r safety c).compatShown hmb rvd tmc).regs := by
  refine ⟨!pairTested (s.descriptor 1 safety) (s.descriptor 4 c.drill) 1 4,
    !pairTested (s.descriptor 3 c.reeve) (s.descriptor 4 c.drill) 3 4,
    !pairTested (s.descriptor 2 c.till) (s.descriptor 4 c.drill) 2 4, ?_⟩
  unfold State.imagesShown State.compatShown
  rw [State.runningShown_eq]

theorem State.imagesShown_f {F : Fld} (hid : F.id < 4096)
    (hF : F.id ∉ [BT_COMPAT.UNTESTED_HMB.id, BT_COMPAT.UNTESTED_RVD.id, BT_COMPAT.UNTESTED_TMC.id]) (s : State) (r : PrefRec)
    (safety : Nat) (c : Combo) (i : Nat) : (s.imagesShown r safety c).f F i = (s.runningShown r safety c).f F i := by
  obtain ⟨hmb, rvd, tmc, hregs⟩ := s.imagesShown_regs r safety c
  have hf : (s.imagesShown r safety c).f F i = ((s.runningShown r safety c).compatShown hmb rvd tmc).f F i := by
    unfold State.f
    rw [hregs]
  rw [hf, State.compatShown_f hid hF]

theorem State.imagesShown_keep {m : Facet → Bool} (h0 : m (.blk .BT) = false) (h1 : m .boot = false) (s : State)
    (r : PrefRec) (safety : Nat) (c : Combo) : (s.imagesShown r safety c).keep m = s.keep m := by
  unfold State.imagesShown
  simp [h0, h1]

theorem State.imagesShown_flash (s : State) (r : PrefRec) (safety : Nat) (c : Combo) :
    (s.imagesShown r safety c).boot.flash = s.boot.flash := rfl

/-! ### What the island is told (R62) -/

/-- The images shown, and the island told of them. -/
def State.imagesTold (s : State) (r : PrefRec) (safety : Nat) (c : Combo) (agrees : Bool) : State :=
  (s.imagesShown r safety c).islandTold [imageId (s.descriptor 1 safety), imageId (s.descriptor 2 c.till),
    imageId (s.descriptor 3 c.reeve), imageId (s.descriptor 4 c.drill)]
    (!pairTested (s.descriptor 1 safety) (s.descriptor 4 c.drill) 1 4 ||
      !pairTested (s.descriptor 3 c.reeve) (s.descriptor 4 c.drill) 3 4 ||
      !pairTested (s.descriptor 2 c.till) (s.descriptor 4 c.drill) 2 4) agrees

theorem State.imagesTold_keep {m : Facet → Bool} (h0 : m (.blk .BT) = false) (h1 : m .boot = false)
    (h2 : m (.blk .HDL) = false) (h3 : m .isl = false) (s : State) (r : PrefRec) (safety : Nat) (c : Combo) (agrees : Bool) :
    (s.imagesTold r safety c agrees).keep m = s.keep m :=
  (State.islandTold_keep h2 h3 ..).trans (State.imagesShown_keep h0 h1 ..)

theorem State.imagesTold_f {F : Fld} (hblk : F.blk = .BT) (s : State) (r : PrefRec) (safety : Nat) (c : Combo)
    (agrees : Bool) (i : Nat) : (s.imagesTold r safety c agrees).f F i = (s.imagesShown r safety c).f F i :=
  f_of_only hblk (State.islandTold_keep (Facet.only_ne (by decide)) (Facet.only_ne (by decide)) ..) i

theorem State.imagesTold_flash (s : State) (r : PrefRec) (safety : Nat) (c : Combo) (agrees : Bool) :
    (s.imagesTold r safety c agrees).boot.flash = s.boot.flash := by
  have hboot : (s.imagesTold r safety c agrees).boot = (s.imagesShown r safety c).boot :=
    boot_of_keep (m := Facet.only .boot)
      (State.islandTold_keep (Facet.only_ne (by decide)) (Facet.only_ne (by decide)) ..) rfl
  rw [hboot, State.imagesShown_flash]

theorem State.showSet_isl (s : State) : s.showSet.isl = s.isl := by
  unfold State.showSet
  split <;> rfl

theorem State.showSet_hs (s : State) : s.showSet.hs = s.hs := by rw [← State.face_hs, State.showSet_face, State.face_hs]

/-- An island in its monitor takes the image just if it agrees. -/
theorem State.islandTold_monitor {s : State} (hm : s.hs = hsMonitor) (ids : List Nat) (untested agrees : Bool) :
    (s.islandTold ids untested agrees).isl.image = agrees ∧
      (agrees = true → (s.islandTold ids untested agrees).hs = hsStartup) := by
  unfold State.islandTold
  rw [if_pos hm]
  cases agrees with
  | true =>
    rw [if_pos rfl, State.showSet_isl, State.showSet_hs, State.imageStarts_isl]
    exact ⟨rfl, fun _ => State.imageStarts_hs hm⟩
  | false =>
    rw [if_neg (by decide)]
    exact ⟨rfl, fun h => absurd h (by decide)⟩

theorem State.imagesTold_monitor {s : State} (hm : s.hs = hsMonitor) (r : PrefRec) (safety : Nat) (c : Combo)
    (agrees : Bool) : (s.imagesTold r safety c agrees).isl.image = agrees ∧
      (agrees = true → (s.imagesTold r safety c agrees).hs = hsStartup) := by
  have hhs : (s.imagesShown r safety c).hs = s.hs :=
    f_of_only (F := HDL_STATE.HS) rfl
      (State.imagesShown_keep (Facet.only_ne (by decide)) (Facet.only_ne (by decide)) s r safety c) 0
  unfold State.imagesTold
  exact State.islandTold_monitor (hhs.trans hm) _ _ _

/-! ### Drill starts (R41, R341) -/

/-- Drill starts, without its threads. -/
def State.drillArmed (s : State) : State :=
  ({ s with tiles := [], seedbox := [], clk := { s.clk with era := none } }.armWatchdog).setOn DRL_STATUS.RUN 0 true

theorem State.drillStarts_eq (s : State) : s.drillStarts = s.drillArmed.drillThreads := rfl

theorem State.drillThreads_f (s : State) (F : Fld) (i : Nat) : s.drillThreads.f F i = s.f F i :=
  f_of_only rfl (State.drillThreads_keep (Facet.only_ne (by simp)) s) i

theorem State.drillThreads_clk (s : State) : s.drillThreads.clk = s.clk :=
  clk_of_keep (m := watchPart) (State.drillThreads_keep rfl s) rfl rfl

theorem State.drillThreads_running (s : State) {n h : Nat} (hn : n ∈ drillCores) (hh : h ∈ coreThreads n) :
    (s.drillThreads.thread h).mode = .running := by
  have hall : s.drillThreads = (drillCores.flatMap coreThreads).foldl (fun s h =>
      s.setThread h { mode := .running, pc := BitVec.ofNat 64 (Config.drillEntry h) }) s := List.foldl_flatMap.symm
  rw [hall, foldl_setThread_thread fun h => { mode := .running, pc := BitVec.ofNat 64 (Config.drillEntry h) },
    if_pos (List.mem_flatMap.mpr ⟨n, hn, hh⟩)]

theorem State.drillArmed_f_ne {F : Fld} (hid : F.id < 4096) (he : F.id ≠ PWR_WDOG_CFG.EN.id) (hr : F.id ≠ DRL_STATUS.RUN.id)
    (s : State) (i : Nat) : s.drillArmed.f F i = s.f F i :=
  (State.f_setF_ne _ (Fld.key_ne_of_id hid (by decide) hr _ _) _).trans
    (State.f_setF_ne _ (Fld.key_ne_of_id hid (by decide) he _ _) _)

theorem State.drillStarts_f_ne {F : Fld} (hid : F.id < 4096) (he : F.id ≠ PWR_WDOG_CFG.EN.id) (hr : F.id ≠ DRL_STATUS.RUN.id)
    (s : State) (i : Nat) : s.drillStarts.f F i = s.f F i := by
  rw [State.drillStarts_eq, State.drillThreads_f, State.drillArmed_f_ne hid he hr]

theorem State.drillStarts_run (s : State) : s.drillStarts.on DRL_STATUS.RUN 0 = true := by
  rw [State.drillStarts_eq, State.on, State.drillThreads_f]
  exact State.on_setOn_self _ rfl _ _

/-- The watchdog is armed, and its period begins. -/
theorem State.drillStarts_armed (s : State) :
    s.drillStarts.on PWR_WDOG_CFG.EN 0 = true ∧ s.drillStarts.clk.kickAt = s.drillStarts.now := by
  have hen : s.drillArmed.on PWR_WDOG_CFG.EN 0 = true :=
    (State.on_setOn_ne _ (by decide) _).trans (State.on_setOn_self _ rfl _ _)
  have hnow : s.drillStarts.now = s.now := State.drillStarts_f_ne (by decide) (by decide) (by decide) s 0
  rw [hnow, State.drillStarts_eq, State.on, State.drillThreads_f, State.drillThreads_clk]
  exact ⟨hen, rfl⟩

theorem State.drillStarts_stepKept (s : State) : s.StepKept s.drillStarts where
  now := State.drillStarts_f_ne (by decide) (by decide) (by decide) s 0
  pending := State.drillStarts_f_ne (by decide) (by decide) (by decide) s 0
  flash := congrArg Boot.flash (boot_of_keep (m := Facet.only .boot) (by simp (disch := decide)) rfl)
  period := State.drillStarts_f_ne (by decide) (by decide) (by decide) s 0
  armed _ := s.drillStarts_armed

/-! ### The images run -/

/-- Reeve's setpoint, and Drill's start. -/
def State.imagesReady (s : State) : State := { s with reeve := { s.reeve with setpoint := fusedSetpoint } }.drillStarts

theorem State.imagesRun_ready (s : State) (r : PrefRec) (safety : Nat) (c : Combo) (code : Nat) (agrees : Bool) :
    s.imagesRun r safety c code agrees =
      (s.imagesTold r safety c agrees).imagesReady.bootEnds (if agrees then code else 0x15) false := by
  rw [State.imagesRun_eq, State.imagesStart, State.imagesTold, State.imagesReady]

theorem State.imagesReady_stepKept (s : State) : s.StepKept s.imagesReady :=
  have hset : s.StepKept { s with reeve := { s.reeve with setpoint := fusedSetpoint } } := ⟨rfl, rfl, rfl, rfl, id⟩
  hset.trans (State.drillStarts_stepKept _)

theorem State.imagesReady_reeve (s : State) : s.imagesReady.reeve = { s.reeve with setpoint := fusedSetpoint } :=
  reeve_of_keep (m := Facet.only .reeve) (State.drillStarts_keep (Facet.only_ne (by decide)) (Facet.only_ne (by decide))
    (Facet.only_ne (by decide)) (Facet.only_ne (by decide)) (Facet.only_ne (by decide)) (Facet.only_ne (by decide)) _) rfl

theorem State.imagesReady_f_ne {F : Fld} (hid : F.id < 4096) (he : F.id ≠ PWR_WDOG_CFG.EN.id) (hr : F.id ≠ DRL_STATUS.RUN.id)
    (s : State) (i : Nat) : s.imagesReady.f F i = s.f F i := State.drillStarts_f_ne hid he hr _ i

/-- The fields of BT_ that a start of images writes beside those of BT_SLOT. -/
def startFields : List Nat :=
  [BT_STATUS.CODE.id, BT_STATUS.RECOVERY.id, BT_STATUS.DONE.id, BT_COMPAT.UNTESTED_HMB.id, BT_COMPAT.UNTESTED_RVD.id,
    BT_COMPAT.UNTESTED_TMC.id]

theorem State.imagesRun_f {F : Fld} (hid : F.id < 4096) (hblk : F.blk = .BT) (hF : F.id ∉ startFields) (s : State)
    (r : PrefRec) (safety : Nat) (c : Combo) (code : Nat) (agrees : Bool) (i : Nat) :
    (s.imagesRun r safety c code agrees).f F i = (s.runningShown r safety c).f F i := by
  have hne : ∀ G : Fld, G.blk ≠ .BT → F.id ≠ G.id := fun G hG e => hG (by rw [← hblk, Fld.blk, Fld.blk, e])
  have hmem : ∀ l : List Nat, l ⊆ startFields → F.id ∉ l := fun l hl h => hF (hl h)
  rw [State.imagesRun_ready, State.bootEnds_f_ne hid (by rw [hblk]; decide) (hmem _ (by decide)),
    State.imagesReady_f_ne hid (hne _ (by decide)) (hne _ (by decide)),
    State.imagesTold_f hblk, State.imagesShown_f hid (hmem _ (by decide))]

end Sys2Proof.Machine
end

section
/-! PROOF. BOOT_SEQUENCE and its timeouts, end by end (R60, R61, R63, R66, R70). -/

namespace Sys2Proof.Machine

/-! ### The results of the slots -/

/-- The till, Reeve and Drill slots' results are not at the first place. -/
theorem State.showResults_f {F : Fld} (hid : F.id < 4096) (s : State) (bad : List Nat) (chosen : Option Combo) :
    (s.showResults bad chosen).f F 0 = s.f F 0 := by
  refine foldl_f_eq _ (fun s t ht => foldl_f_eq _ (fun s k _ => ?_) s) s
  have ht2 : 2 ≤ t := by
    revert t
    decide
  exact State.f_setF_ne _ (Fld.key_ne_of_inst hid (resultField_id_lt k) (by omega)) _

/-! ### Before the choice -/

/-- The state in which the safety slot has been settled, and what the choice of the others answers there. -/
def State.accepted (s : State) : State := (s.prefStep.safetySlot (candidates (nextPref s.pref) 1)).2

def State.choice (s : State) (safety : Nat) : Choice × List Nat := s.prefStep.choose (nextPref s.pref) safety [] 7

/-- The safety slot that the island accepts, if any. -/
def State.safetyFound (s : State) : Option Nat :=
  (candidates (nextPref s.pref) 1).find? fun k => s.prefStep.slotValid 1 k

theorem State.accepted_keep {m : Facet → Bool} (h0 : m (.blk .BT) = false) (h1 : m (.blk .PWR) = false)
    (h2 : m .boot = false) (h3 : m .clk = false) (s : State) : s.accepted.keep m = s.keep m :=
  (State.safetySlot_keep h0 ..).trans (State.prefStep_keep h0 h1 h2 h3 s)

theorem State.accepted_boot (s : State) : s.accepted.boot = s.prefStep.boot := State.safetySlot_boot ..

theorem State.prefStep_now (s : State) : s.prefStep.now = s.now :=
  f_of_only (F := CLK_TIMESTAMP.TS) rfl (State.prefStep_keep (Facet.only_ne (by decide)) (Facet.only_ne (by decide))
    (Facet.only_ne (by decide)) (Facet.only_ne (by decide)) s) 0

theorem State.prefStep_stepKept_accepted (s : State) : s.prefStep.StepKept s.accepted :=
  .of_keep (State.safetySlot_keep rfl ..) (State.safetySlot_f_ne (by decide) (by decide) ..)
    (congrArg Boot.flash s.accepted_boot)

theorem State.showResults_stepKept (s : State) (bad : List Nat) (chosen : Option Combo) :
    s.StepKept (s.showResults bad chosen) :=
  .of_keep (State.showResults_keep rfl ..) (State.showResults_f (by decide) ..)
    (congrArg Boot.flash (boot_of_keep (m := Facet.only .boot) (State.showResults_keep (Facet.only_ne (by decide)) ..) rfl))

/-! ### The command, case by case -/

theorem exec_boot_of_not_booting {s : State} {agrees : Bool} (h : s.booting = false) :
    ∀ i ∈ [Instr.bootSequence agrees, .bootIslandTimeout, .flashTimeout], exec i s = .next s := by
  intro i hi
  simp only [List.mem_cons, List.not_mem_nil, or_false] at hi
  rcases hi with rfl | rfl | rfl
  · rw [exec_bootSequence, execBootSequence, h, if_pos (by decide)]
  · rw [exec_bootIslandTimeout, execBootIslandTimeout, h, if_neg (by decide)]
  · rw [exec_flashTimeout, execFlashTimeout, h, if_neg (by decide)]

/-- CODE of a boot that ends with images running, where the island agrees. -/
def State.bootCode (s : State) : Nat :=
  if s.prefs.isEmpty then 2 else if s.pref.trial ≠ 0 && (nextPref s.pref).trial = 0 then 3 else 0

/-- How a boot ends whose safety slot is accepted, by the choice of the other slots. -/
def State.bootChosen (s : State) (safety : Nat) (agrees : Bool) : Choice × List Nat → State
  | (.noImage, bad) => (s.accepted.showResults bad none).bootEnds 0x12 true
  | (.noCombination, bad) => (s.accepted.showResults bad none).bootEnds 0x13 true
  | (.combo c, bad) =>
    (s.accepted.showResults bad (some c)).imagesRun (nextPref s.pref) safety c s.bootCode agrees

theorem exec_bootSequence_headerless {s : State} (hb : s.booting = true) (hh : s.headerFound = false) (agrees : Bool) :
    exec (.bootSequence agrees) s = .next (s.bootEnds 0x10 true) := by
  rw [exec_bootSequence, execBootSequence, hb, hh, if_neg (by decide), if_pos (by decide)]

theorem exec_bootSequence_unaccepted {s : State} (hb : s.booting = true) (hh : s.headerFound = true)
    (hs : s.safetyFound = none) (agrees : Bool) :
    exec (.bootSequence agrees) s = .next (s.accepted.bootEnds 0x11 true) := by
  have hslot : s.prefStep.safetySlot (candidates (nextPref s.pref) 1) = (none, s.accepted) :=
    Prod.ext ((State.safetySlot_fst ..).trans hs) rfl
  rw [exec_bootSequence, execBootSequence, hb, hh, if_neg (by decide), if_neg (by decide)]
  dsimp only
  rw [hslot]

theorem exec_bootSequence_accepted {s : State} (hb : s.booting = true) (hh : s.headerFound = true) {safety : Nat}
    (hs : s.safetyFound = some safety) (agrees : Bool) :
    exec (.bootSequence agrees) s = .next (s.bootChosen safety agrees (s.choice safety)) := by
  have hslot : s.prefStep.safetySlot (candidates (nextPref s.pref) 1) = (some safety, s.accepted) :=
    Prod.ext ((State.safetySlot_fst ..).trans hs) rfl
  have hchoice : s.accepted.choose (nextPref s.pref) safety [] 7 = s.choice safety :=
    (State.SameImages.of_boot s.accepted_boot).choose ..
  rw [exec_bootSequence, execBootSequence, hb, hh, if_neg (by decide), if_neg (by decide)]
  dsimp only
  rw [hslot]
  dsimp only
  rw [hchoice]
  obtain ⟨choice, bad⟩ := s.choice safety
  cases choice with
  | noImage => rw [State.bootChosen]
  | noCombination => rw [State.bootChosen]
  | combo c => rw [State.bootChosen, State.bootCode]

/-! ### Each end -/

/-- A boot whose Reeve and time nothing has touched so far ends with a code. -/
theorem State.ends_of_keep {s t : State} (hk : t.keep (among [.blk .CLK, .reeve]) = s.keep (among [.blk .CLK, .reeve]))
    {code : Nat} (hc : code < 256) (recovery : Bool) : s.Ends code recovery (t.bootEnds code recovery) := by
  refine State.bootEnds_ends (f_of_keep hk rfl 0) ?_ hc recovery
  rw [reeve_of_keep hk rfl]

theorem State.accepted_ends {s : State} {code : Nat} (hc : code < 256) : s.Ends code true (s.accepted.bootEnds code true) :=
  State.ends_of_keep (State.accepted_keep rfl rfl rfl rfl s) hc true

theorem State.accepted_rejected {s : State} (hs : s.safetyFound = none) {k : Nat} (hk : k ∈ candidates (nextPref s.pref) 1) :
    (s.accepted.bootEnds 0x11 true).f (resultField k) 0 = 0xA := by
  rw [State.bootEnds_f_ne (resultField_id_lt k) (by rw [resultField_blk]; decide)
    (resultField_id_notMem k (by decide))]
  exact State.safetySlot_rejects hs (.inl hk)

theorem State.shown_ends {s : State} (bad : List Nat) {code : Nat} (hc : code < 256) :
    s.Ends code true ((s.accepted.showResults bad none).bootEnds code true) :=
  State.ends_of_keep ((State.showResults_keep rfl ..).trans (State.accepted_keep rfl rfl rfl rfl s)) hc true

/-- What follows step 3 keeps what it wrote. -/
theorem State.stepped_of_stepKept {s t : State} (h : s.prefStep.StepKept t) : s.Stepped t :=
  s.prefStep_stepped.kept s.prefStep_now h

theorem State.accepted_stepped (s : State) (code : Nat) : s.Stepped (s.accepted.bootEnds code true) :=
  State.stepped_of_stepKept (s.prefStep_stepKept_accepted.trans (State.bootEnds_stepKept ..))

theorem State.prefStep_shown_stepKept (s : State) (bad : List Nat) (chosen : Option Combo) :
    s.prefStep.StepKept (s.accepted.showResults bad chosen) :=
  s.prefStep_stepKept_accepted.trans (State.showResults_stepKept ..)

/-- BOOT_ISLAND_TIMEOUT and FLASH_TIMEOUT. -/
theorem boot_timeout_results {i : Instr} {s : State} {code : Nat} (hc : code < 256)
    (hexec : exec i s = .next ((if s.headerFound then s.prefStep else s).bootEnds code true)) :
    answers i s fun u => s.Ends code true u ∧ (s.headerFound = true → s.Stepped u) := by
  refine ⟨_, hexec, ?_⟩
  cases hh : s.headerFound with
  | true =>
    rw [if_pos rfl]
    exact ⟨State.ends_of_keep (State.prefStep_keep rfl rfl rfl rfl s) hc true,
      fun _ => State.stepped_of_stepKept (State.bootEnds_stepKept ..)⟩
  | false =>
    rw [if_neg (by decide)]
    exact ⟨State.ends_of_keep rfl hc true, fun e => absurd e (by decide)⟩

/-! ### Images run -/

/-- The accepted safety slot's result stays. -/
theorem State.bootChosen_result {s : State} {safety : Nat} (hs : s.safetyFound = some safety) (agrees : Bool)
    (x : Choice × List Nat) : (s.bootChosen safety agrees x).f (resultField safety) 0 = 1 := by
  have hid := resultField_id_lt safety
  have hacc : s.accepted.f (resultField safety) 0 = 1 := State.safetySlot_accepts hs
  have hend : ∀ (u : State) code recovery, (u.bootEnds code recovery).f (resultField safety) 0 =
      u.f (resultField safety) 0 := fun u code recovery => State.bootEnds_f_ne hid (by rw [resultField_blk]; decide)
      (resultField_id_notMem safety (by decide)) u code recovery 0
  have hrun : ∀ (u : State) r c, (u.runningShown r safety c).f (resultField safety) 0 = u.f (resultField safety) 0 :=
    fun u r c => foldl_f_eq _ (fun s t _ => State.showRunning_f hid (.inl (resultField_id_notMem safety (by decide))) s r _) u
  obtain ⟨choice, bad⟩ := x
  cases choice with
  | noImage => rw [State.bootChosen, hend, State.showResults_f hid, hacc]
  | noCombination => rw [State.bootChosen, hend, State.showResults_f hid, hacc]
  | combo c =>
    rw [State.bootChosen, State.imagesRun_f hid (resultField_blk safety) (resultField_id_notMem safety (by decide)),
      hrun, State.showResults_f hid, hacc]

theorem State.imagesTold_stepKept (s : State) (r : PrefRec) (safety : Nat) (c : Combo) (agrees : Bool) :
    s.StepKept (s.imagesTold r safety c agrees) := by
  refine .of_keep (State.imagesTold_keep rfl rfl rfl rfl ..) ?_ (s.imagesTold_flash r safety c agrees)
  rw [State.imagesTold_f rfl, State.imagesShown_f (by decide) (by decide)]
  exact foldl_f_eq _ (fun s t _ => State.showRunning_f (by decide) (.inl (by decide)) s r _) s

theorem State.imagesRun_stepKept (s : State) (r : PrefRec) (safety : Nat) (c : Combo) (code : Nat) (agrees : Bool) :
    s.StepKept (s.imagesRun r safety c code agrees) := by
  rw [State.imagesRun_ready]
  exact (s.imagesTold_stepKept r safety c agrees).trans ((State.imagesReady_stepKept _).trans (State.bootEnds_stepKept ..))

theorem State.bootChosen_stepped (s : State) (safety : Nat) (agrees : Bool) (x : Choice × List Nat) :
    s.Stepped (s.bootChosen safety agrees x) := by
  obtain ⟨choice, bad⟩ := x
  have hshown := s.prefStep_shown_stepKept bad
  cases choice with
  | noImage => exact State.stepped_of_stepKept ((hshown none).trans (State.bootEnds_stepKept ..))
  | noCombination => exact State.stepped_of_stepKept ((hshown none).trans (State.bootEnds_stepKept ..))
  | combo c => exact State.stepped_of_stepKept ((hshown (some c)).trans (State.imagesRun_stepKept ..))

/-- The end of a boot from `s` whose images run. -/
theorem State.imagesRun_ends {s t : State} (hk : t.keep (among [.blk .CLK, .reeve]) = s.keep (among [.blk .CLK, .reeve]))
    (r : PrefRec) (safety : Nat) (c : Combo) {code : Nat} (hc : code < 256) (agrees : Bool) :
    s.Ends (if agrees then code else 0x15) false (t.imagesRun r safety c code agrees) := by
  have htold := (State.imagesTold_keep (m := among [.blk .CLK, .reeve]) rfl rfl rfl rfl t r safety c agrees).trans hk
  rw [State.imagesRun_ready]
  generalize t.imagesTold r safety c agrees = v at htold ⊢
  have hnow : v.now = s.now := f_of_keep htold rfl 0
  refine State.bootEnds_ends (v.imagesReady_stepKept.now.trans hnow) ?_ (by split <;> omega) false
  rw [State.imagesReady_reeve, reeve_of_keep htold rfl]

/-- Drill runs with its watchdog armed. -/
theorem State.imagesRun_drill (s : State) (r : PrefRec) (safety : Nat) (c : Combo) (code : Nat) (agrees : Bool) :
    (s.imagesRun r safety c code agrees).on DRL_STATUS.RUN 0 = true ∧
      (s.imagesRun r safety c code agrees).on PWR_WDOG_CFG.EN 0 = true ∧
      ∀ n ∈ drillCores, ∀ h ∈ coreThreads n, ((s.imagesRun r safety c code agrees).thread h).mode = .running := by
  rw [State.imagesRun_ready]
  generalize (if agrees then code else 0x15) = last
  generalize s.imagesTold r safety c agrees = v
  have hend : ∀ F : Fld, F.id < 4096 → F.blk ≠ .RV → F.id ∉ [BT_STATUS.CODE.id, BT_STATUS.RECOVERY.id, BT_STATUS.DONE.id] →
      (v.imagesReady.bootEnds last false).on F 0 = v.imagesReady.on F 0 := fun F hid hb hF => by
    rw [State.on, State.bootEnds_f_ne hid hb hF, State.on]
  have hthread : ∀ h, (v.imagesReady.bootEnds last false).thread h = v.imagesReady.thread h := fun h =>
    thread_of_only (State.bootEnds_keep (Facet.only_ne (by decide)) (Facet.only_ne (by decide)) (Facet.only_ne (by decide))
      ..) h
  refine ⟨?_, ?_, fun n hn h hh => ?_⟩
  · rw [hend _ (by decide) (by decide) (by decide)]
    exact State.drillStarts_run _
  · rw [hend _ (by decide) (by decide) (by decide)]
    exact (State.drillStarts_armed _).1
  · rw [hthread, State.imagesReady, State.drillStarts_eq]
    exact State.drillThreads_running _ hn hh

/-- An island in its monitor starts just if it agrees. -/
theorem State.imagesRun_island {s : State} (hm : s.hs = hsMonitor) (r : PrefRec) (safety : Nat) (c : Combo) (code : Nat)
    (agrees : Bool) : (s.imagesRun r safety c code agrees).isl.image = agrees ∧
      (agrees = true → (s.imagesRun r safety c code agrees).hs = hsStartup) := by
  have hrest : (s.imagesRun r safety c code agrees).keep islandPart = (s.imagesTold r safety c agrees).keep islandPart := by
    rw [State.imagesRun_ready, State.bootEnds_keep rfl rfl rfl, State.imagesReady,
      State.drillStarts_keep rfl rfl rfl rfl rfl rfl, keep_reeve rfl]
  obtain ⟨himage, hhs⟩ := State.imagesTold_monitor hm r safety c agrees
  refine ⟨?_, fun ha => ?_⟩
  · rw [isl_of_keep hrest rfl, himage]
  · rw [← hhs ha]
    exact f_of_keep (F := HDL_STATE.HS) hrest rfl 0

/-- The slots that run are shown, with the IDs of their images. -/
theorem State.imagesRun_slots (s : State) (r : PrefRec) (safety : Nat) (c : Combo) (code : Nat) (agrees : Bool) :
    ∀ t ∈ [1, 2, 3, 4], (s.imagesRun r safety c code agrees).f BT_SLOT.SEL (t - 1) = chosenSlot safety c t % 2 ∧
      (s.imagesRun r safety c code agrees).f BT_SLOT.ID (t - 1) =
        imageId (s.descriptor t (chosenSlot safety c t)) % 2 ^ 16 := by
  intro t ht
  rw [State.imagesRun_f (by decide) rfl (by decide), State.imagesRun_f (by decide) rfl (by decide)]
  exact foldl_showRunning_shows r (chosenSlot safety c) [1, 2, 3, 4] (by decide) (by decide) ht s

theorem State.shown_keep {m : Facet → Bool} (h0 : m (.blk .BT) = false) (h1 : m (.blk .PWR) = false)
    (h2 : m .boot = false) (h3 : m .clk = false) (s : State) (bad : List Nat) (chosen : Option Combo) :
    (s.accepted.showResults bad chosen).keep m = s.keep m :=
  (State.showResults_keep h0 ..).trans (State.accepted_keep h0 h1 h2 h3 s)

theorem State.bootCode_lt (s : State) : s.bootCode < 256 := by
  unfold State.bootCode
  (repeat' split) <;> decide

/-- A boot whose combination is chosen. -/
theorem State.bootChosen_combo {s u : State} {safety : Nat} {agrees : Bool} {c : Combo} {bad : List Nat}
    (hu : s.bootChosen safety agrees (.combo c, bad) = u) :
    s.Ends (if agrees then s.bootCode else 0x15) false u ∧ u.on DRL_STATUS.RUN 0 = true ∧ u.on PWR_WDOG_CFG.EN 0 = true ∧
      (∀ n ∈ drillCores, ∀ h ∈ coreThreads n, (u.thread h).mode = .running) ∧
      (s.hs = hsMonitor → u.isl.image = agrees ∧ (agrees = true → u.hs = hsStartup)) ∧
      ∀ t ∈ [1, 2, 3, 4], u.f BT_SLOT.SEL (t - 1) = chosenSlot safety c t % 2 ∧
        u.f BT_SLOT.ID (t - 1) = imageId (s.prefStep.descriptor t (chosenSlot safety c t)) % 2 ^ 16 := by
  have hkeep := s.shown_keep (m := among [.blk .CLK, .reeve]) rfl rfl rfl rfl bad (some c)
  have hhs : (s.accepted.showResults bad (some c)).hs = s.hs :=
    f_of_keep (F := HDL_STATE.HS) (s.shown_keep (m := islandPart) rfl rfl rfl rfl bad (some c)) rfl 0
  have hflash := (s.prefStep_shown_stepKept bad (some c)).flash
  rw [State.bootChosen] at hu
  subst hu
  generalize s.accepted.showResults bad (some c) = shown at hkeep hhs hflash ⊢
  obtain ⟨hrun, hen, hthreads⟩ := shown.imagesRun_drill (nextPref s.pref) safety c s.bootCode agrees
  refine ⟨State.imagesRun_ends hkeep _ safety c s.bootCode_lt agrees, hrun, hen, hthreads,
    fun hm => State.imagesRun_island (hhs.trans hm) .., fun t ht => ?_⟩
  rw [← State.descriptor_of_flash hflash]
  exact shown.imagesRun_slots (nextPref s.pref) safety c s.bootCode agrees t ht

/-! ### The obligation -/

theorem nextPref_eq (p : PrefRec) : nextPref p = if p.trial = 0 then p else
    if (decide (p.trial ≠ 0) && decide (3 ≤ p.count)) = true then
      { p with seq := (p.seq + 1) % 2 ^ 32, trial := 0, count := 0 }
    else { p with seq := (p.seq + 1) % 2 ^ 32, count := p.count + 1 } := by
  unfold nextPref
  by_cases h : p.trial = 0
  · rw [if_pos h, if_pos h]
  · simp only [ne_eq, h, not_false_eq_true, decide_true, Bool.true_and, decide_eq_true_eq]

/-- A trial is given up just after its third start. -/
theorem nextPref_spent (p : PrefRec) : (decide (p.trial ≠ 0) && decide ((nextPref p).trial = 0)) =
    (decide (p.trial ≠ 0) && decide (3 ≤ p.count)) := by
  unfold nextPref
  by_cases h : p.trial = 0
  · simp [h]
  · by_cases hc : 3 ≤ p.count <;> simp [h, hc]

/-- Settles O9: each end of the boot ROM by the case of `exec` that leads to it, over what step 3 wrote. -/
theorem bootSequenceResults : Obligations.BootSequenceResults := by
  unfold Obligations.BootSequenceResults
  intro s agrees p spent r s1 ends stepped
  have hr : r = nextPref s.pref := (nextPref_eq s.pref).symm
  have hcode : (if !agrees then 0x15 else if s.prefs.isEmpty then 2 else if spent then 3 else 0) =
      if agrees then s.bootCode else 0x15 := by
    unfold State.bootCode
    rw [nextPref_spent]
    cases agrees <;> rfl
  clear_value r
  subst hr
  refine ⟨exec_boot_of_not_booting, fun hb => ⟨?_, ?_, fun hh => ?_, fun hh => ?_⟩, fun sf bad k => ?_⟩
  · refine boot_timeout_results (by decide) ?_
    rw [exec_bootIslandTimeout, execBootIslandTimeout, if_pos hb]
  · refine boot_timeout_results (by decide) ?_
    rw [exec_flashTimeout, execFlashTimeout, if_pos hb]
  · exact ⟨_, exec_bootSequence_headerless hb hh agrees, State.ends_of_keep rfl (by decide) true⟩
  · cases hs : s.safetyFound with
    | none =>
      have hfind : ((candidates (nextPref s.pref) 1).find? fun k => s1.slotValid 1 k) = none := hs
      refine ⟨_, exec_bootSequence_unaccepted hb hh hs agrees, s.accepted_stepped 0x11, ?_⟩
      rw [hfind]
      exact ⟨State.accepted_ends (by decide), fun k => State.accepted_rejected hs⟩
    | some safety =>
      have hfind : ((candidates (nextPref s.pref) 1).find? fun k => s1.slotValid 1 k) = some safety := hs
      have hchoice : s1.choose (nextPref s.pref) safety [] 7 = s.choice safety := rfl
      refine ⟨_, exec_bootSequence_accepted hb hh hs agrees, s.bootChosen_stepped safety agrees _, ?_⟩
      rw [hfind]
      refine ⟨State.bootChosen_result hs agrees _, ?_⟩
      rw [hchoice]
      obtain ⟨choice, bad⟩ := s.choice safety
      cases choice with
      | noImage => exact State.shown_ends bad (by decide)
      | noCombination => exact State.shown_ends bad (by decide)
      | combo c =>
        obtain ⟨hends, hrest⟩ :=
          State.bootChosen_combo (s := s) (safety := safety) (agrees := agrees) (c := c) (bad := bad) rfl
        rw [← hcode] at hends
        exact ⟨hends, hrest⟩
  · split
    next c hc => exact State.choose_combo hc
    · trivial

end Sys2Proof.Machine
end

section
/-! PROOF. The cores of the state: what a core reads after one was replaced, and after an operation that keeps them. -/

namespace Sys2Proof.Machine

/-- A core that was replaced. -/
@[simp] theorem State.core_setCore_self (s : State) (n : Nat) (c : Core) : (s.setCore n c).core n = c := by
  simp [State.core, State.setCore]

/-- Another core. -/
theorem State.core_setCore_ne (s : State) {n k : Nat} (e : k ≠ n) (c : Core) : (s.setCore n c).core k = s.core k := by
  simp [State.core, State.setCore, e]

@[simp] theorem State.core_modThread (s : State) (h : Nat) (f : Thread → Thread) (n : Nat) :
    (s.modThread h f).core n = s.core n := rfl
@[simp] theorem State.core_setOn (s : State) (F : Fld) (i : Nat) (b : Bool) (n : Nat) :
    (s.setOn F i b).core n = s.core n := rfl
@[simp] theorem State.thread_setCore (s : State) (n : Nat) (c : Core) (h : Nat) : (s.setCore n c).thread h = s.thread h := rfl
@[simp] theorem State.on_setCore (s : State) (n : Nat) (c : Core) (F : Fld) (i : Nat) : (s.setCore n c).on F i = s.on F i := rfl

theorem core_of_keep {m : Facet → Bool} {s t : State} (e : t.keep m = s.keep m) (h : m .cores = true) (n : Nat) :
    t.core n = s.core n := by
  unfold State.core
  rw [cores_of_keep e h]

theorem core_of_only {s t : State} (e : t.keep (Facet.only .cores) = s.keep (Facet.only .cores)) (n : Nat) :
    t.core n = s.core n := core_of_keep e (Facet.only_self _) n

end Sys2Proof.Machine
end

section
/-! PROOF. Fences and TLB invalidation (R88, R90, R104, R145, R193, Tables 4-7 and 5-11). -/

namespace Sys2Proof.Machine

/-! ### Fences -/

theorem State.markMb_core (s : State) (n : Nat) (p : MbEntry → Bool) :
    (s.markMb n p).core n = { s.core n with mbuf := markEntries p (s.core n).mbuf } := s.core_setCore_self n _

/-- R193: a fence closes every entry that is present. -/
theorem State.markAll_closed (s : State) (n : Nat) : ∀ e ∈ ((s.markAll n).core n).mbuf, e.closed = true := by
  intro e he
  rw [State.markAll, State.markMb_core] at he
  obtain ⟨x, -, rfl⟩ := List.mem_map.mp he
  rfl

/-- The number that the next entry takes does not depend on marks. -/
theorem State.markAll_mbNext (s : State) (n : Nat) : ((s.markAll n).core n).mbNext = (s.core n).mbNext := by
  rw [State.markAll, State.markMb_core]

theorem State.fenceInstr_ready {s : State} {h : Nat} (hs : s.ready h = true) (kind : FenceKind) :
    s.fenceInstr h kind = .next ((if kind = .acq then s else s.markAll (coreOf h)).modThread h fun t =>
      { t with hold := some (.fence kind (s.core (coreOf h)).mbNext) }) := by
  have hnext : ((if kind = .acq then s else s.markAll (coreOf h)).core (coreOf h)).mbNext = (s.core (coreOf h)).mbNext := by
    split
    · rfl
    · exact s.markAll_mbNext _
  unfold State.fenceInstr
  rw [State.instr_ready hs]
  simp only [hnext, State.setHold]

theorem execFenceComplete_waits {s : State} {h : Tid} {kind : FenceKind} {upto : Nat}
    (hh : (s.thread h).hold = some (.fence kind upto)) (hd : s.fenceDone h kind upto = false) :
    execFenceComplete h s = .next s := by
  simp only [execFenceComplete, hh, hd, Bool.false_eq_true, if_false]

theorem execFenceComplete_retires {s : State} {h : Tid} {kind : FenceKind} {upto : Nat}
    (hh : (s.thread h).hold = some (.fence kind upto)) (hd : s.fenceDone h kind upto = true) :
    execFenceComplete h s = .next
      ((if kind = .ifence then s.setCore (coreOf h) { s.core (coreOf h) with l1i := [] } else s).modThread h (·.next)) := by
  simp only [execFenceComplete, hh, hd, if_true]

/-! ### TLB invalidation -/

/-- R88: an invalidation of an address of a plot, or of the whole plot, leaves the entry. -/
def tlbKeeps (plot : Nat) (va : Option Word) (e : TlbEntry) : Bool :=
  !(e.plot = plot && match va with | none => true | some a => va56 a / 2 ^ e.span = e.base)

/-- A core whose three TLBs hold only the entries that `p` lets stay. -/
def Core.tlbFilter (p : TlbEntry → Bool) (c : Core) : Core :=
  { c with itlb := c.itlb.filter p, dtlb := c.dtlb.filter p, tlb := c.tlb.filter p }

theorem Core.tlbFilter_tlbFilter (p : TlbEntry → Bool) (c : Core) : (c.tlbFilter p).tlbFilter p = c.tlbFilter p := by
  simp [Core.tlbFilter, List.filter_filter]

theorem State.tlbInvalidate_eq (s : State) (n plot : Nat) (va : Option Word) :
    s.tlbInvalidate n plot va = s.setCore n ((s.core n).tlbFilter (tlbKeeps plot va)) := by
  cases va <;> rfl

@[simp] theorem State.tlbInvalidate_thread (s : State) (n plot : Nat) (va : Option Word) (h : Nat) :
    (s.tlbInvalidate n plot va).thread h = s.thread h := rfl

theorem State.tlbInvalidate_core (s : State) (n plot : Nat) (va : Option Word) (k : Nat) :
    (s.tlbInvalidate n plot va).core k = if k = n then (s.core k).tlbFilter (tlbKeeps plot va) else s.core k := by
  rw [State.tlbInvalidate_eq]
  split
  next e => rw [e, State.core_setCore_self]
  next e => rw [State.core_setCore_ne _ e]

/-- A broadcast reaches each core of a list, however often the list names it. -/
theorem foldl_tlbInvalidate_core (plot : Nat) (va : Option Word) (l : List Nat) (s : State) (k : Nat) :
    (l.foldl (fun s n => s.tlbInvalidate n plot va) s).core k =
      if k ∈ l then (s.core k).tlbFilter (tlbKeeps plot va) else s.core k := by
  induction l generalizing s with
  | nil => rfl
  | cons n l ih =>
    rw [List.foldl_cons, ih, State.tlbInvalidate_core]
    by_cases hn : k = n <;> by_cases hl : k ∈ l <;> simp [hn, hl, Core.tlbFilter_tlbFilter]

theorem State.mem_coresOf {s : State} {plot k : Nat} : k ∈ s.coresOf plot ↔ k < 128 ∧ (s.core k).lease = some plot := by
  simp [State.coresOf]

/-- The state in which every core of the thread and of its plot has invalidated. -/
def State.tlbBroadcast (s : State) (h : Nat) (va : Option Word) : State :=
  let plot := (s.thread h).plotTag
  (s.coresOf plot).foldl (fun s n => s.tlbInvalidate n plot va) (s.tlbInvalidate (coreOf h) plot va)

theorem State.tlbBroadcast_core (s : State) (h : Nat) (va : Option Word) (k : Nat) :
    (s.tlbBroadcast h va).core k =
      if k = coreOf h ∨ (k < 128 ∧ (s.core k).lease = some (s.thread h).plotTag) then
        (s.core k).tlbFilter (tlbKeeps (s.thread h).plotTag va)
      else s.core k := by
  unfold State.tlbBroadcast
  rw [foldl_tlbInvalidate_core, State.tlbInvalidate_core]
  simp only [← State.mem_coresOf]
  by_cases hn : k = coreOf h <;> by_cases hl : k ∈ s.coresOf (s.thread h).plotTag <;>
    simp [hn, hl, Core.tlbFilter_tlbFilter]

theorem State.tlbBroadcast_thread (s : State) (h : Nat) (va : Option Word) (k : Nat) :
    (s.tlbBroadcast h va).thread k = s.thread k :=
  thread_of_only (foldl_keep (fun s n => State.tlbInvalidate_keep (Facet.only_ne (by decide)) s n _ va) _ _) k

theorem execTlbiAcknowledge_broadcasts {s : State} {h : Tid} {va : Option Word} (hh : (s.thread h).hold = some (.tlbi va)) :
    execTlbiAcknowledge h s = .next ((s.tlbBroadcast h va).modThread h (·.next)) := by
  simp only [execTlbiAcknowledge, hh, State.tlbBroadcast]

/-- R104: an instruction of ring 0, in ring 0. -/
theorem State.ring0_runs {s : State} {h : Nat} (hs : s.ready h = true) (hr : (s.thread h).ring = 0) (w : Word)
    (f : Thread → State → State) : s.ring0 h w f = .next (f (s.thread h) s) := by
  unfold State.ring0
  rw [State.instr_ready hs, if_neg (not_not_intro hr)]

/-- R104: in another ring it raises. -/
theorem State.ring0_refused {s : State} {h : Nat} (hs : s.ready h = true) (hr : (s.thread h).ring ≠ 0) (w : Word)
    (f : Thread → State → State) : s.ring0 h w f = .next (s.fault h 0x04 w) := by
  unfold State.ring0
  rw [State.instr_ready hs, if_pos hr]
  rfl

/-! ### The obligation -/

/-- Settles O20: the fences by `State.fenceInstr_ready`, TLBI by the entries that `tlbKeeps` leaves in each core. -/
theorem fenceAndTlbResults : Obligations.FenceAndTlbResults := by
  unfold Obligations.FenceAndTlbResults
  intro s h gs1 n t plot tlbs goes
  have hgoes : ∀ va, (fun e => decide ¬goes e va = true) = tlbKeeps plot va := fun va => by
    funext e
    rw [decide_not, Bool.decide_eq_true]
    cases va <;> rfl
  have htlbs : ∀ (c : Core) va, tlbs (c.tlbFilter (tlbKeeps plot va)) = (tlbs c).map (·.filter fun e => ¬goes e va) :=
    fun c va => by
      rw [hgoes]
      rfl
  refine ⟨fun hs i kind hi => ?fences, s.markAll_closed n, ?complete, fun hs hr i va hi => ?own,
    fun hs hr i va hi => ?broadcast, ?acknowledge, fun hs hr i w hi => ?refused⟩
  case fences =>
    have hfence : exec i s = s.fenceInstr h kind := by
      simp only [List.mem_cons, Prod.mk.injEq, List.not_mem_nil, or_false] at hi
      rcases hi with ⟨rfl, rfl⟩ | ⟨rfl, rfl⟩ | ⟨rfl, rfl⟩ | ⟨rfl, rfl⟩ | ⟨rfl, rfl⟩ | ⟨rfl, rfl⟩ <;> rfl
    rw [hfence, State.fenceInstr_ready hs]
  case complete =>
    split
    next kind upto hh => exact ⟨execFenceComplete_waits hh, execFenceComplete_retires hh⟩
    next => trivial
  case own =>
    have hexec : exec i s = .next ((s.tlbInvalidate n plot va).modThread h (·.next)) := by
      simp only [List.mem_cons, Prod.mk.injEq, List.not_mem_nil, or_false] at hi
      rcases hi with ⟨rfl, rfl⟩ | ⟨rfl, rfl⟩
      · rw [exec_tlbiVa, execTlbiVa, State.ring0_runs hs hr]
      · rw [exec_tlbiPlot, execTlbiPlot, State.ring0_runs hs hr]
    refine ⟨_, hexec, ?_, ?_, fun k hk => ?_⟩
    · rw [State.core_modThread, State.tlbInvalidate_core, if_pos rfl, htlbs]
    · rw [State.thread_modThread_self, State.tlbInvalidate_thread]
    · rw [State.core_modThread, State.tlbInvalidate_core, if_neg hk]
  case broadcast =>
    simp only [List.mem_cons, Prod.mk.injEq, List.not_mem_nil, or_false] at hi
    rcases hi with ⟨rfl, rfl⟩ | ⟨rfl, rfl⟩
    · rw [exec_tlbiVaB, execTlbiVaB, State.ring0_runs hs hr]
      rfl
    · rw [exec_tlbiPlotB, execTlbiPlotB, State.ring0_runs hs hr]
      rfl
  case acknowledge =>
    split
    next va hh =>
      refine ⟨_, execTlbiAcknowledge_broadcasts hh, ?_, fun k hk => ?_, fun k hk hl => ?_⟩
      · rw [State.thread_modThread_self, State.tlbBroadcast_thread]
      · rw [State.core_modThread, State.tlbBroadcast_core, if_pos (hk.imp_right fun hl => ⟨k.isLt, hl⟩), htlbs]
      · rw [State.core_modThread, State.tlbBroadcast_core, if_neg (not_or.mpr ⟨hk, fun hl' => hl hl'.2⟩)]
    next => trivial
  case refused =>
    simp only [List.mem_cons, Prod.mk.injEq, List.not_mem_nil, or_false] at hi
    rcases hi with ⟨rfl, rfl⟩ | ⟨rfl, rfl⟩ | ⟨rfl, rfl⟩ | ⟨rfl, rfl⟩
    · rw [exec_tlbiVa, execTlbiVa, State.ring0_refused hs hr]
    · rw [exec_tlbiVaB, execTlbiVaB, State.ring0_refused hs hr]
    · rw [exec_tlbiPlot, execTlbiPlot, State.ring0_refused hs hr]
    · rw [exec_tlbiPlotB, execTlbiPlotB, State.ring0_refused hs hr]

end Sys2Proof.Machine
end

section
/-! PROOF. What the upkeep of the furrow caches leaves of a core: all but its L1D and side buffer, whose copies go with
the furrow cache's (R198). -/

namespace Sys2Proof.Machine

/-- A core without its L1D and side buffer. -/
def Core.besidesL1d (c : Core) : Core := { c with l1d := [], side := [] }

theorem besidesL1d_of_only {s t : State} (e : t.keep (Facet.only .cores) = s.keep (Facet.only .cores)) (n : Nat) :
    (t.core n).besidesL1d = (s.core n).besidesL1d := congrArg _ (core_of_only e n)

theorem State.invalidateCore_besidesL1d (s : State) (line n k : Nat) :
    ((s.invalidateCore line n).core k).besidesL1d = (s.core k).besidesL1d := by
  unfold State.invalidateCore
  split
  · by_cases hk : k = n
    · rw [hk, State.core_setCore_self]
      rfl
    · rw [State.core_setCore_ne _ hk]
  · rfl

theorem foldl_besidesL1d {α : Type} {f : State → α → State} {k : Nat}
    (hf : ∀ s a, ((f s a).core k).besidesL1d = (s.core k).besidesL1d) (l : List α) (s : State) :
    ((l.foldl f s).core k).besidesL1d = (s.core k).besidesL1d := by
  induction l generalizing s with
  | nil => rfl
  | cons a l ih => rw [List.foldl_cons, ih, hf]

theorem State.fcDrop_besidesL1d (s : State) (f key : Nat) (x : FcLine) (k : Nat) :
    ((s.fcDrop f key x).core k).besidesL1d = (s.core k).besidesL1d :=
  foldl_besidesL1d (fun s n => s.invalidateCore_besidesL1d x.line n k) (furrowCores f) s

theorem State.fcEvict_besidesL1d (s : State) (f key k : Nat) :
    ((s.fcEvict f key).core k).besidesL1d = (s.core k).besidesL1d := by
  unfold State.fcEvict
  split
  · rfl
  · rw [State.fcDrop_besidesL1d]
    exact besidesL1d_of_only (by simp) k

theorem State.recallFrom_besidesL1d (s : State) (line f k : Nat) :
    ((s.recallFrom line f).core k).besidesL1d = (s.core k).besidesL1d := by
  unfold State.recallFrom
  split
  · rfl
  · exact State.fcEvict_besidesL1d ..

theorem State.dirRoom_besidesL1d (s : State) (line k : Nat) :
    ((s.dirRoom line).core k).besidesL1d = (s.core k).besidesL1d := by
  unfold State.dirRoom
  split
  · rfl
  · split
    · rfl
    · exact foldl_besidesL1d (fun s f => s.recallFrom_besidesL1d _ f k) _ s

theorem State.fcInstall_besidesL1d (s : State) (f line : Nat) (st : Mesi) (data : List Byte) (k : Nat) :
    ((s.fcInstall f line st data).core k).besidesL1d = (s.core k).besidesL1d :=
  (State.fcEvict_besidesL1d (s.dirRoom line) f _ k).trans (s.dirRoom_besidesL1d line k)

theorem State.fcFetch_besidesL1d (s : State) (f line src : Nat) (res : MemRes) (k : Nat) :
    ((s.fcFetch f line src res).2.core k).besidesL1d = (s.core k).besidesL1d := by
  have hclean : ∀ n, (((s.cleanCopy line .s).tally 0x010 f n).core k).besidesL1d = (s.core k).besidesL1d :=
    fun n => besidesL1d_of_only (by simp) k
  have hread : ∀ u : State, ((u.homeRead line src res).2.core k).besidesL1d = (u.core k).besidesL1d :=
    fun u => besidesL1d_of_only (by simp) k
  unfold State.fcFetch
  split
  · rfl
  · have hu := hclean (if f < 16 then 1 else 0)
    dsimp only
    generalize (s.cleanCopy line .s).tally 0x010 f (if f < 16 then 1 else 0) = u at hu ⊢
    split
    · split
      · exact hu
      · exact (State.fcInstall_besidesL1d ..).trans hu
    · split
      · exact (hread u).trans hu
      · exact (State.fcInstall_besidesL1d ..).trans ((hread u).trans hu)

/-- A furrow cache that obtains a line leaves what the cores' L1Is ask for. -/
theorem State.fcFetch_ifills (s : State) (f line src : Nat) (res : MemRes) (k : Nat) :
    ((s.fcFetch f line src res).2.core k).ifills = (s.core k).ifills := by
  have h := congrArg Core.ifills (s.fcFetch_besidesL1d f line src res k)
  exact h

end Sys2Proof.Machine
end

section
/-! PROOF. Line fills, the drain of the merging buffer, and the end of a table walk (R84 to R86, R187, R189, R191, R194 to
R196). -/

namespace Sys2Proof.Machine

/-! ### A use of a furrow cache's line -/

@[simp] theorem State.fcUse_core (s : State) (f line n : Nat) : (s.fcUse f line).core n = s.core n :=
  core_of_only (State.fcUse_keep (Facet.only_ne (by decide)) ..) n

@[simp] theorem State.fcUse_thread (s : State) (f line h : Nat) : (s.fcUse f line).thread h = s.thread h :=
  thread_of_only (State.fcUse_keep (Facet.only_ne (by decide)) ..) h

@[simp] theorem State.fcUse_den (s : State) (f line n : Nat) : (s.fcUse f line).on FUR_L1CTL.DEN n = s.on FUR_L1CTL.DEN n :=
  on_of_only (b := .FUR) rfl (State.fcUse_keep (Facet.only_ne (by decide)) ..) n

theorem State.fcUse_setCore (s : State) (n : Nat) (c : Core) (f line : Nat) :
    (s.setCore n c).fcUse f line = (s.fcUse f line).setCore n c := by
  have hfind : (s.setCore n c).fcFind f line = s.fcFind f line := rfl
  unfold State.fcUse
  rw [hfind]
  cases s.fcFind f line <;> rfl

/-- What the search for a line finds in one way. -/
def State.fcProbe (s : State) (line k : Nat) : Option (Nat × FcLine) :=
  match s.fcWay k with
  | some x => if x.line = line then some (k, x) else none
  | none => none

theorem State.fcFind_eq (s : State) (f line : Nat) : s.fcFind f line = (fcKeys f line).findSome? (s.fcProbe line) := rfl

theorem State.fcProbe_eq_some {s : State} {line j k : Nat} {x : FcLine} :
    s.fcProbe line j = some (k, x) ↔ j = k ∧ s.fcWay k = some x ∧ x.line = line := by
  unfold State.fcProbe
  constructor
  · intro h
    split at h
    · split at h
      · cases h
        exact ⟨rfl, by assumption, by assumption⟩
      · cases h
    · cases h
  · rintro ⟨rfl, hw, hl⟩
    rw [hw]
    exact if_pos hl

/-- A search that finds an element finds what has taken its place, where nothing before it is new. -/
theorem findSome?_of_agree {α β : Type} {g g' : α → Option β} {b b' : β} (hnone : ∀ a, g a = none → g' a = none)
    (hsome : ∀ a, g a = some b → g' a = some b') {l : List α} (h : l.findSome? g = some b) : l.findSome? g' = some b' := by
  induction l with
  | nil => cases h
  | cons a l ih =>
    rw [List.findSome?_cons] at h ⊢
    cases hg : g a with
    | none =>
      rw [hg] at h
      rw [hnone a hg]
      exact ih h
    | some y =>
      rw [hg] at h
      cases h
      rw [hsome a hg]

/-- A use of a line changes its time of use, and the line stays where it is (R196). -/
theorem State.fcUse_fcFind {s : State} {f line k : Nat} {x : FcLine} (h : s.fcFind f line = some (k, x)) :
    (s.fcUse f line).fcFind f line = some (k, { x with used := s.caches.clock + 1 }) := by
  have huse : s.fcUse f line = s.touchClock.setFc (put k { x with used := s.caches.clock + 1 } s.caches.fc) := by
    unfold State.fcUse
    rw [h]
  have hself : (s.fcUse f line).fcWay k = some { x with used := s.caches.clock + 1 } := by
    rw [huse]
    exact find_put_self ..
  have hother : ∀ j, j ≠ k → (s.fcUse f line).fcProbe line j = s.fcProbe line j := fun j hj => by
    have hway : (s.fcUse f line).fcWay j = s.fcWay j := by
      rw [huse]
      exact find_put_ne hj ..
    unfold State.fcProbe
    rw [hway]
  rw [State.fcFind_eq] at h ⊢
  obtain ⟨i, -, hi⟩ := List.exists_of_findSome?_eq_some h
  obtain ⟨rfl, hway, hline⟩ := State.fcProbe_eq_some.mp hi
  refine findSome?_of_agree (fun j hj => ?_) (fun j hj => ?_) h
  · have hji : j ≠ i := fun e => by
      rw [e, hi] at hj
      cases hj
    rw [hother j hji, hj]
  · obtain ⟨rfl, -, -⟩ := State.fcProbe_eq_some.mp hj
    exact State.fcProbe_eq_some.mpr ⟨rfl, hself, hline⟩

theorem State.fcUse_fcServes {s : State} {n line : Nat} {x : FcLine} (h : s.fcServes n line = some x) :
    (s.fcUse (furrowOf n) line).fcServes n line = some { x with used := s.caches.clock + 1 } := by
  unfold State.fcServes at h ⊢
  obtain ⟨⟨k, y⟩, hk, rfl⟩ := Option.map_eq_some_iff.mp h
  rw [State.fcUse_fcFind hk]
  rfl

/-! ### Threads that wait -/

theorem State.wake_idle {s : State} {h : Nat} (hh : (s.thread h).hold = none) : s.wake h = s := by
  unfold State.wake
  rw [hh]

theorem State.wakeAll_idle {s : State} {n : Nat} (hh : ∀ k ∈ coreThreads n, (s.thread k).hold = none) : s.wakeAll n = s := by
  unfold State.wakeAll
  generalize coreThreads n = l at hh
  induction l with
  | nil => rfl
  | cons k l ih =>
    rw [List.foldl_cons, State.wake_idle (hh k (List.mem_cons_self ..)), ih fun j hj => hh j (List.mem_cons_of_mem _ hj)]

theorem State.fillWaiter_idle {s : State} {n : Nat} (hh : ∀ k ∈ coreThreads n, (s.thread k).hold = none) :
    s.fillWaiter n = none := by
  refine List.findSome?_eq_none_iff.mpr fun k hk => ?_
  rw [hh k hk]

/-! ### L1D fills -/

theorem State.fillEnds_core (s : State) (n : Nat) :
    (s.fillEnds n).core n = { s.core n with fill := none, denNext := none } := by
  unfold State.fillEnds
  dsimp only
  split
  · rw [State.core_setCore_self]
  · rw [State.core_setOn, State.core_setCore_self]

/-- R213: a change of DEN that waited for the fill takes effect. -/
theorem State.fillEnds_den (s : State) (n : Nat) :
    (s.fillEnds n).on FUR_L1CTL.DEN n = (s.core n).denNext.getD (s.on FUR_L1CTL.DEN n) := by
  unfold State.fillEnds
  dsimp only
  split
  next h => rw [h, State.on_setCore, Option.getD_none]
  next b h => rw [h, State.on_setOn_self _ rfl, Option.getD_some]

theorem State.fillEnds_thread (s : State) (n h : Nat) : (s.fillEnds n).thread h = s.thread h :=
  thread_of_only (State.fillEnds_keep rfl (Facet.only_ne (by decide)) ..) h

theorem State.fillEnds_caches (s : State) (n : Nat) : (s.fillEnds n).caches = s.caches :=
  caches_of_keep (m := Facet.only .caches) (State.fillEnds_keep rfl (Facet.only_ne (by decide)) ..) rfl

/-- R187, R189: the line in the L1D, the merging buffer's bytes over it, and the L1 block ended. -/
def State.l1dFilled (s : State) (n line : Nat) (x : FcLine) : State :=
  ((s.fcUse (furrowOf n) line).setCore n ((s.core n).l1dWrite line ((s.core n).mergeMb line x.data))).fillEnds n

theorem State.l1dFilled_core (s : State) (n line : Nat) (x : FcLine) : (s.l1dFilled n line x).core n =
    { (s.core n).l1dWrite line ((s.core n).mergeMb line x.data) with fill := none, denNext := none } := by
  rw [State.l1dFilled, State.fillEnds_core, State.core_setCore_self]

theorem Core.l1dLine_l1dWrite (c : Core) (line : Nat) (data : List Byte) :
    (c.l1dWrite line data).l1dLine line = some { line := line, data := data } := by
  have hfind : find (l1dIndex line) (c.l1dWrite line data).l1d = some { line := line, data := data } := find_put_self ..
  unfold Core.l1dLine
  rw [hfind]
  exact if_pos rfl

theorem State.l1dFilled_thread (s : State) (n line : Nat) (x : FcLine) (h : Nat) :
    (s.l1dFilled n line x).thread h = s.thread h := by
  rw [State.l1dFilled, State.fillEnds_thread, State.thread_setCore, State.fcUse_thread]

theorem State.l1dFilled_den (s : State) (n line : Nat) (x : FcLine) :
    (s.l1dFilled n line x).on FUR_L1CTL.DEN n = (s.core n).denNext.getD (s.on FUR_L1CTL.DEN n) := by
  rw [State.l1dFilled, State.fillEnds_den, State.core_setCore_self, State.on_setCore, State.fcUse_den]
  rfl

theorem State.l1dFilled_caches (s : State) (n line : Nat) (x : FcLine) :
    (s.l1dFilled n line x).caches = (s.fcUse (furrowOf n) line).caches := State.fillEnds_caches ..

section

variable {s : State} {n : Uid} {line : Nat} {x : FcLine}

theorem execL1dFill_waiter (hf : (s.core n).fill = some line) (hx : s.fcServes n line = some x) (hp : x.poison = false)
    {h : Nat} {op : LoadOp} (hw : s.fillWaiter n = some (h, op)) :
    execL1dFill n s = .next (((s.l1dFilled n line x).tryLoad h op).wakeAll n) := by
  simp only [execL1dFill, hf, hx, hp, hw, State.fcUse_core, State.l1dFilled, Bool.false_eq_true, if_false]

theorem execL1dFill_noWaiter (hf : (s.core n).fill = some line) (hx : s.fcServes n line = some x) (hp : x.poison = false)
    (hw : s.fillWaiter n = none) : execL1dFill n s = .next ((s.l1dFilled n line x).wakeAll n) := by
  simp only [execL1dFill, hf, hx, hp, hw, State.fcUse_core, State.l1dFilled, Bool.false_eq_true, if_false]

/-- R187, R189, R213: a fill with no thread of the core in progress. -/
theorem execL1dFill_idle (hf : (s.core n).fill = some line) (hx : s.fcServes n line = some x) (hp : x.poison = false)
    (hh : ∀ k ∈ coreThreads n, (s.thread k).hold = none) : answers (.l1dFill n) s fun u =>
      (u.core n).l1dLine line = some { line := line, data := (s.core n).mergeMb line x.data } ∧ (u.core n).fill = none ∧
      (u.core n).denNext = none ∧ u.on FUR_L1CTL.DEN n = (s.core n).denNext.getD (s.on FUR_L1CTL.DEN n) ∧
      u.caches.fc = (s.fcUse (furrowOf n) line).caches.fc := by
  have hexec : execL1dFill n s = .next (s.l1dFilled n line x) := by
    rw [execL1dFill_noWaiter hf hx hp (State.fillWaiter_idle hh),
      State.wakeAll_idle fun k hk => (congrArg Thread.hold (s.l1dFilled_thread n line x k)).trans (hh k hk)]
  refine ⟨_, hexec, ?_, ?_, ?_, s.l1dFilled_den n line x, congrArg Caches.fc (s.l1dFilled_caches n line x)⟩
  · rw [State.l1dFilled_core]
    exact Core.l1dLine_l1dWrite ..
  · rw [State.l1dFilled_core]
  · rw [State.l1dFilled_core]

end

/-! ### Side-buffer fills -/

/-- A prefetch that is on its way no more. -/
def Core.prefetchEnds (c : Core) (p : Nat × Nat) : Core := { c with pfs := c.pfs.erase p }

/-- A line in the place of the side buffer's victim, the merging buffer's bytes over it. -/
def Core.sideFill (c : Core) (line used : Nat) (data : List Byte) : Core :=
  { c with side := put c.sideVictim { line := line, data := c.mergeMb line data, used := used } c.side }

theorem Core.sideSlot_sideFill (c : Core) (line used : Nat) (data : List Byte) :
    ((c.sideFill line used data).sideSlot line).isSome = true :=
  List.find?_isSome.mpr ⟨_, (mem_insertAt ..).mpr (.inl rfl), decide_eq_true rfl⟩

/-- R194: the prefetched line arrives. -/
def State.sideFilled (s : State) (n : Nat) (p : Nat × Nat) (x : FcLine) : State :=
  let c := (s.core n).prefetchEnds p
  let u := (s.fcUse (furrowOf n) p.1).setCore n c
  (u.setCore n (c.sideFill p.1 (u.caches.clock + 1) x.data)).touchClock

theorem State.sideFilled_core (s : State) (n : Nat) (p : Nat × Nat) (x : FcLine) : (s.sideFilled n p x).core n =
    ((s.core n).prefetchEnds p).sideFill p.1 ((s.fcUse (furrowOf n) p.1).caches.clock + 1) x.data :=
  State.core_setCore_self ..

theorem execSideBufferFill_fills {s : State} {n : Uid} {p : Nat × Nat} {x : FcLine}
    (hp : (s.core n).pfs.find? (fun p => (s.fcServes n p.1).isSome) = some p) (hx : s.fcServes n p.1 = some x)
    (hpoison : x.poison = false) (hden : s.den n = true) : execSideBufferFill n s = .next (s.sideFilled n p x) := by
  have hserves : ∀ c, ((s.fcUse (furrowOf n) p.1).setCore n c).fcServes n p.1 =
      some { x with used := s.caches.clock + 1 } := fun _ => State.fcUse_fcServes hx
  have hstill : ∀ c, ((s.fcUse (furrowOf n) p.1).setCore n c).den n = true := fun _ => (s.fcUse_den _ _ n).trans hden
  unfold execSideBufferFill
  dsimp only
  rw [hp]
  dsimp only
  rw [State.fcUse_setCore, hserves]
  dsimp only
  rw [hstill, hpoison, if_neg (by decide), State.core_setCore_self]
  rfl

theorem execSideBufferFill_results {s : State} {n : Uid} {p : Nat × Nat}
    (hp : (s.core n).pfs.find? (fun p => (s.fcServes n p.1).isSome) = some p)
    (hpoison : ∀ x, s.fcServes n p.1 = some x → x.poison = false) (hden : s.den n = true) :
    answers (.sideBufferFill n) s fun u => ((u.core n).sideSlot p.1).isSome = true ∧
      (u.core n).pfs = (s.core n).pfs.erase p ∧ u.caches.fc = (s.fcUse (furrowOf n) p.1).caches.fc := by
  have hserved := List.find?_some hp
  beta_reduce at hserved
  obtain ⟨x, hx⟩ := Option.isSome_iff_exists.mp hserved
  refine ⟨_, execSideBufferFill_fills hp hx (hpoison x hx) hden, ?_, ?_, rfl⟩
  · rw [State.sideFilled_core]
    exact Core.sideSlot_sideFill ..
  · rw [State.sideFilled_core]
    rfl

/-! ### Furrow-cache fills -/

theorem State.withRes_congr {s : State} {r : MemRes} {f g : State → State}
    (h : f { s with res := r } = g { s with res := r }) : s.withRes r f = s.withRes r g := by
  unfold State.withRes
  rw [h]

/-- R196: a wanted line of Normal memory that comes back unpoisoned. -/
theorem execFurrowCacheFill_obtains {s : State} {f : CacheId} {line : Nat} {res wb : MemRes} {c l : Nat}
    (hr : s.region (line * 64) = .normal c l) (hw : s.fillWanted f line = true) (hf : s.fcFind f line = none)
    (hh : s.fetchHeld f line = false) (hp : (State.fcFetch { s with res := wb } f line 0 res).1.2 = false) :
    execFurrowCacheFill f line res wb s = .next (s.withRes wb fun s => (s.fcFetch f line 0 res).2) := by
  refine congrArg Host.Outcome.next (State.withRes_congr ?_)
  have hregion : State.region { s with res := wb } (line * 64) = .normal c l := hr
  have hwanted : State.fillWanted { s with res := wb } f line = true := hw
  have hfind : State.fcFind { s with res := wb } f line = none := hf
  have hheld : State.fetchHeld { s with res := wb } f line = false := hh
  generalize ({ s with res := wb } : State) = u at hp hregion hwanted hfind hheld ⊢
  dsimp only
  rw [hwanted, hfind, hheld, if_neg (by decide), hregion]
  dsimp only
  rw [hp, if_neg (by decide)]

/-! ### L1I fills -/

section

variable {s : State} {h : Tid} {res : MemRes}

theorem execL1iFill_asks {par : Bool} (hm : (s.thread h).mode = .running) (hc : s.coreRuns (coreOf h) = true)
    (hn : (s.core (coreOf h)).ifills.find? (fun x => x.1 = h.val) = none) :
    execL1iFill h par res s = .next (s.l1iAsk h par res) := by
  unfold execL1iFill
  rw [hm, hc, if_neg (by decide), hn]

theorem execL1iFill_arrives {par : Bool} (hm : (s.thread h).mode = .running) (hc : s.coreRuns (coreOf h) = true)
    {x : Nat × Nat} (hx : (s.core (coreOf h)).ifills.find? (fun x => x.1 = h.val) = some x) :
    execL1iFill h par res s = .next (s.l1iArrives h x.2 res) := by
  unfold execL1iFill
  rw [hm, hc, if_neg (by decide), hx]

/-- R195: the line arrives in the L1I, where it comes back unpoisoned; whatever the furrow caches evict for it, the core's
other requests stay as they were. -/
theorem State.l1iArrives_results {line : Nat} (hh : s.fetchHeld (furrowOf (coreOf h)) line = false)
    (hm : (s.core (coreOf h)).mbuf.any (fun e => e.closed && e.line = line) = false) (hi : s.ien (coreOf h) = true) :
    let n := coreOf h
    let asked := { s.core n with ifills := (s.core n).ifills.filter (·.1 ≠ h.val) }
    let r := State.fcFetch (s.setCore n asked) (furrowOf n) line 0 res
    ((s.l1iArrives h line res).core n).ifills = asked.ifills ∧
      (r.1.2 = false → ((s.l1iArrives h line res).core n).l1iLine line = some { line := line, data := r.1.1 } ∧
        (s.l1iArrives h line res).caches = r.2.caches) := by
  intro n asked r
  have hien : (s.setCore n asked).ien n = true := hi
  have hasked : (r.2.core n).ifills = asked.ifills := by rw [State.fcFetch_ifills, State.core_setCore_self]
  have harrives : s.l1iArrives h line res = if r.1.2 then r.2 else
      r.2.setCore n { r.2.core n with l1i := put (l1iIndex line) { line := line, data := r.1.1 } (r.2.core n).l1i } := by
    unfold State.l1iArrives
    dsimp only
    rw [hh, hm, if_neg (by decide), hien, if_neg (by decide)]
  rw [harrives]
  refine ⟨?_, fun hp => ?_⟩
  · split
    · exact hasked
    · rw [State.core_setCore_self]
      exact hasked
  · rw [hp, if_neg (by decide), State.core_setCore_self]
    refine ⟨?_, rfl⟩
    unfold Core.l1iLine
    rw [find_put_self]
    exact if_pos rfl

section

variable (hl : (s.core (coreOf h)).ifills.length < 2)
  (hw : s.walkWaits h (s.thread h).ring (s.thread h).pc .fetch = false)
include hl hw

theorem State.l1iAsk_noAddress {a : State} (hf : s.fetchPa h (s.thread h).pc res = (none, a)) :
    s.l1iAsk h false res = a := by
  unfold State.l1iAsk
  dsimp only
  rw [hw, decide_eq_false (Nat.not_le.mpr hl), if_neg (by decide), hf]

/-- R186: only cached Normal memory is asked for. -/
theorem State.l1iAsk_uncached {a : State} {pa : Nat} {uc : Bool}
    (hf : s.fetchPa h (s.thread h).pc res = (some (pa, uc), a)) (hu : ∀ c l, a.region pa = .normal c l → uc = true) :
    s.l1iAsk h false res = a := by
  unfold State.l1iAsk
  dsimp only
  rw [hw, decide_eq_false (Nat.not_le.mpr hl), if_neg (by decide), hf]
  dsimp only
  split
  next c l hr => rw [hu c l hr, if_pos (by rfl)]
  next => rfl

/-- R195: a line that the L1I lacks is asked for. -/
theorem State.l1iAsk_asks {a : State} {pa c l : Nat} (hf : s.fetchPa h (s.thread h).pc res = (some (pa, false), a))
    (hr : a.region pa = .normal c l) (hi : a.ien (coreOf h) = true)
    (hn : (a.core (coreOf h)).l1iLine (pa / 64) = none) : s.l1iAsk h false res = a.setCore (coreOf h)
      { a.core (coreOf h) with ifills := (a.core (coreOf h)).ifills ++ [(h.val, pa / 64)] } := by
  unfold State.l1iAsk
  dsimp only
  rw [hw, decide_eq_false (Nat.not_le.mpr hl), if_neg (by decide), hf]
  dsimp only
  rw [hr]
  dsimp only
  rw [hi, if_neg (by decide), if_neg Bool.false_ne_true, hn, if_neg (by decide)]

end

end

/-! ### The drain of the merging buffer -/

/-- R309: where no till program holds an entry, none arrives at its channel to wait. -/
theorem State.drainsArrive_idle {s : State} {n : Nat}
    (h : (s.core n).mbuf.all (fun e => !s.directHeld (e.line * 64)) = true) : s.drainsArrive n = s := by
  have hnone : (s.core n).mbuf.filter (fun e => e.closed && s.directHeld (e.line * 64)) = [] :=
    List.filter_eq_nil_iff.mpr fun e he => by
      have hheld := List.all_eq_true.mp h e he
      rw [Bool.not_eq_true'] at hheld
      rw [hheld, Bool.and_false]
      decide
  unfold State.drainsArrive
  rw [hnone]
  rfl

/-- R191: the oldest closed entry whose channel accepts accesses. -/
def State.drainable (s : State) (n : Nat) : Option MbEntry :=
  (s.core n).mbuf.find? fun e => e.closed && !s.writeHeld (furrowOf n) e.line e.mask (e.kind ≠ .normal)

/-- The state in which an entry has left the merging buffer. -/
def State.withoutEntry (s : State) (n : Nat) (e : MbEntry) : State :=
  s.setCore n { s.core n with mbuf := (s.core n).mbuf.filter fun x => x.num ≠ e.num }

theorem State.drainOne_none {s : State} {n : Nat} {res : MemRes} (hd : s.drainsArrive n = s) (he : s.drainable n = none) :
    s.drainOne n false res = s := by
  unfold State.drainable at he
  unfold State.drainOne
  dsimp only
  rw [hd, he]

theorem State.drainOne_some {s u : State} {n : Nat} {res : MemRes} {e : MbEntry} (hd : s.drainsArrive n = s)
    (he : s.drainable n = some e)
    (hw : (s.withoutEntry n e).lineWrite (furrowOf n) e.line e.mask e.data (e.kind ≠ .normal) (some n) res = (true, u)) :
    s.drainOne n false res = u := by
  unfold State.drainable at he
  unfold State.withoutEntry at hw
  unfold State.drainOne
  dsimp only
  rw [hd, he]
  dsimp only
  unfold State.drainEntry
  dsimp only
  rw [if_neg Bool.false_ne_true, hw]
  rfl

theorem State.lineWrite_thread {s u : State} {f line mask : Nat} {data : List Byte} {uc ok : Bool} {keep : Option Nat}
    {res : MemRes} (hw : s.lineWrite f line mask data uc keep res = (ok, u)) (h : Nat) : u.thread h = s.thread h :=
  thread_of_only ((congrArg (fun x : Bool × State => x.2.keep (Facet.only .threads)) hw).symm.trans (by simp)) h

section

variable {s : State} {n : Uid} {res wb : MemRes} (hh : ∀ k ∈ coreThreads n, (s.thread k).hold = none)
  (hd : (s.core n).mbuf.all (fun e => !s.directHeld (e.line * 64)) = true)
include hh hd

theorem execMergingBufferDrain_none (he : s.drainable n = none) :
    execMergingBufferDrain n false res wb s = .next (s.withRes wb id) := by
  refine congrArg Host.Outcome.next (State.withRes_congr ?_)
  have harrive : State.drainsArrive { s with res := wb } n = { s with res := wb } := State.drainsArrive_idle hd
  rw [State.drainOne_none harrive he]
  exact State.wakeAll_idle hh

theorem execMergingBufferDrain_some {e : MbEntry} {u : State} (he : s.drainable n = some e)
    (hw : (State.withoutEntry { s with res := wb } n e).lineWrite (furrowOf n) e.line e.mask e.data (e.kind ≠ .normal)
      (some n.val) res = (true, u)) : execMergingBufferDrain n false res wb s = .next { u with res := .ok } := by
  have harrive : State.drainsArrive { s with res := wb } n = { s with res := wb } := State.drainsArrive_idle hd
  have hdrain : (State.drainOne { s with res := wb } n false res).wakeAll n = u := by
    rw [State.drainOne_some harrive he hw]
    exact State.wakeAll_idle fun k hk => (congrArg Thread.hold (State.lineWrite_thread hw k)).trans (hh k hk)
  unfold execMergingBufferDrain State.withRes
  dsimp only
  rw [hdrain]

end

/-! ### The end of a table walk -/

theorem setBit_true_testBit_above {v k j : Nat} (h : k < j) : (setBit v k true).testBit j = v.testBit j := by
  unfold setBit
  split
  · rfl
  next hv =>
    have hv' : v / 2 ^ k % 2 = 0 := by
      rw [Nat.testBit_eq_decide_div_mod_eq, decide_eq_true_eq] at hv
      omega
    obtain ⟨i, rfl⟩ : ∃ i, j = i + 1 + k := ⟨j - k - 1, by omega⟩
    have hhalf : (v / 2 ^ k + 1) / 2 = v / 2 ^ k / 2 := by omega
    have hsplit : ∀ x : Nat, x.testBit (i + 1 + k) = (x / 2 ^ k / 2).testBit i := fun x => by
      rw [Nat.testBit_add, Nat.testBit_succ]
    rw [if_pos rfl, hsplit, hsplit, Nat.add_div_right _ (Nat.two_pow_pos k), hhalf]

/-- R86: A is set. -/
theorem entUsed_accessed (e : Nat) (store : Bool) : (entUsed e store).testBit 8 = true := setBit_testBit_self ..

/-- R86: D is set for a store. -/
theorem entUsed_dirty (e : Nat) : (entUsed e true).testBit 9 = true := by
  unfold entUsed
  rw [if_pos rfl, setBit_true_testBit_above (by decide), setBit_testBit_self]

section

variable {s : State} {h : Tid} {res : MemRes} {va ea : Word} {a : Access} {len at0 e0 : Nat} {txn : Bool}
  (hh : (s.thread h).hold = some (.walk va ea a len txn at0 e0)) (hs : s.walkAsleep h va = false)
include hh hs

theorem execTableWalk_fails {u : State} (hw : s.walk h va res = (none, u)) :
    execTableWalk h res s = .next (u.walkFault h ea a) := by
  unfold execTableWalk
  rw [hh]
  dsimp only
  rw [hs, if_neg (by decide), hw]

variable {u : State} {at' e span : Nat} (hw : s.walk h va res = (some (at', e, span), u))
include hw

theorem execTableWalk_denied (hl : leafAllows e (s.thread h).ring a = false) :
    execTableWalk h res s = .next (u.walkDenied h ea a len (entPa e + va56 va % 2 ^ span)) := by
  unfold execTableWalk
  rw [hh]
  dsimp only
  rw [hs, if_neg (by decide), hw]
  dsimp only
  rw [hl, if_pos (by decide)]

/-- R86: a leaf that allows the access is installed as it is where nothing must be set in it, and with its bits set where
it has not changed since the walker read it; else the walk is restarted. -/
theorem execTableWalk_allowed (hl : leafAllows e (s.thread h).ring a = true) :
    let used := entUsed e (a = .store)
    let install := fun (v : State) (e : Nat) =>
      (v.tlbInstall (coreOf h) (a = .fetch) (tlbEntryOf (s.thread h).plotTag (va56 va) e span)).setHold h none
    execTableWalk h res s = .next (if used = e then install u e
      else if at' = at0 ∧ e = e0 then install (u.writeEntry h at' used) used
      else u.setHold h (some (.walk va ea a len txn at' e))) := by
  unfold execTableWalk
  rw [hh]
  dsimp only
  rw [hs, if_neg (by decide), hw]
  dsimp only
  rw [hl, if_neg (by decide)]
  simp only [Bool.and_eq_true, decide_eq_true_eq]

end

theorem State.walkFault_prefetch (s : State) (h : Nat) (ea : Word) : s.walkFault h ea .pf = s.modThread h (·.next) :=
  if_pos rfl

theorem State.walkFault_raises (s : State) (h : Nat) (ea : Word) {a : Access} (ha : a ≠ .pf) :
    s.walkFault h ea a = s.fault h a.fault ea := if_neg ha

theorem State.walkDenied_unsized (s : State) (h : Nat) (ea : Word) (a : Access) (pa : Nat) :
    s.walkDenied h ea a 0 pa = s.walkFault h ea a := if_neg Bool.false_ne_true

/-! ### The obligation -/

/-- Settles O22, command by command: what each fill, drain and walk answers in the case that the clause names. -/
theorem lineFillAndDrainResults : Obligations.LineFillAndDrainResults := by
  unfold Obligations.LineFillAndDrainResults
  refine ⟨fun s n => ⟨?l1d, ?side⟩, fun s f line res wb => ?furrow, fun s h res => ⟨fun hg hn hl hw => ?asks,
    fun hg => ?arrives⟩, fun s n res wb hh hd => ?drain, fun s h res => ?walk⟩
  case l1d =>
    split
    next l hf =>
      split
      next x hx =>
        refine fun hp => ⟨execL1dFill_idle hf hx hp, ?_⟩
        split
        next h op hw => exact ⟨_, execL1dFill_waiter hf hx hp hw, rfl⟩
        next => trivial
      next => trivial
    next => trivial
  case side =>
    split
    next p hp => exact execSideBufferFill_results hp
    next => trivial
  case furrow =>
    split
    next c l hr => exact fun hw hf hh hp => execFurrowCacheFill_obtains hr hw hf hh hp
    next => trivial
  case asks =>
    obtain ⟨hm, hc⟩ := hg
    have hasks : ∀ u, s.l1iAsk h false res = u → exec (.l1iFill h false res) s = .next u := fun u e => by
      rw [exec_l1iFill, execL1iFill_asks hm hc hn, e]
    rcases hf : s.fetchPa h (s.thread h).pc res with ⟨_ | ⟨pa, _ | _⟩, a⟩
    · exact hasks a (State.l1iAsk_noAddress hl hw hf)
    · dsimp only
      split
      next c l hr => exact fun hi hnone => hasks _ (State.l1iAsk_asks hl hw hf hr hi hnone)
      next hr => exact hasks a (State.l1iAsk_uncached hl hw hf fun c l e => (hr c l e).elim)
    · exact hasks a (State.l1iAsk_uncached hl hw hf fun _ _ _ => rfl)
  case arrives =>
    obtain ⟨hm, hc⟩ := hg
    split
    next k line hx =>
      intro hh hmb hi
      obtain ⟨hasked, hline⟩ := State.l1iArrives_results (res := res) hh hmb hi
      refine ⟨_, execL1iFill_arrives hm hc hx, ?_, hline⟩
      rw [hasked]
      exact List.all_eq_true.mpr fun y hy => (List.mem_filter.mp hy).2
    next => trivial
  case drain =>
    split
    next he => exact execMergingBufferDrain_none hh hd he
    next e he =>
      intro m
      split
      next u hw => exact execMergingBufferDrain_some hh hd he hw
      next => trivial
  case walk =>
    split
    next va ea a len txn at0 e0 hh =>
      intro hs
      rcases hw : s.walk h va res with ⟨_ | ⟨at', e, span⟩, u⟩
      · have hexec := execTableWalk_fails hh hs hw
        refine ⟨fun ha => ?_, fun ha => ?_⟩
        · rw [exec_tableWalk, hexec, ha, State.walkFault_prefetch]
        · rw [exec_tableWalk, hexec, State.walkFault_raises _ _ _ ha]
          cases a <;> rfl
      · refine ⟨fun hl => ?_, fun hl hlen ha => ?_, entUsed_accessed e _, fun ha => ?_⟩
        · have hexec := execTableWalk_allowed hh hs hw hl
          refine ⟨fun hu => ?_, fun hu hat he => ?_, fun hu hc => ?_⟩
          · rw [exec_tableWalk, hexec, if_pos hu]
            rfl
          · rw [exec_tableWalk, hexec, if_neg hu, if_pos ⟨hat, he⟩]
            rfl
          · rw [exec_tableWalk, hexec, if_neg hu, if_neg hc]
            rfl
        · rw [exec_tableWalk, execTableWalk_denied hh hs hw hl, hlen, State.walkDenied_unsized,
            State.walkFault_raises _ _ _ ha]
          cases a <;> rfl
        · rw [ha]
          exact entUsed_dirty e
    next => trivial

end Sys2Proof.Machine
end

section
/-! PROOF. The values that the integer operations of Tables 5-8 and 5-9 compute, as the operations on bit vectors that the
tables name. -/

namespace Sys2Proof.Machine

/-! ### Shifts and rotates -/

/-- The amount of a shift, taken modulo the width. -/
theorem toNat_mod_width {n m : Nat} (hm : m < 2 ^ n) (y : BitVec n) : (y % BitVec.ofNat n m).toNat = y.toNat % m := by
  rw [BitVec.toNat_umod, BitVec.toNat_ofNat, Nat.mod_eq_of_lt hm]

theorem sllV_false (a b : Word) : sllV false a b = a <<< (b % 64) :=
  congrArg (a <<< ·) (toNat_mod_width (m := 64) (by decide) b).symm

theorem sllV_true (a b : Word) : sllV true a b = extW (low32 a <<< (low32 b % 32)) :=
  congrArg (fun n => extW (low32 a <<< n)) (toNat_mod_width (m := 32) (by decide) (low32 b)).symm

theorem srlV_false (a b : Word) : srlV false a b = a >>> (b % 64) :=
  congrArg (a >>> ·) (toNat_mod_width (m := 64) (by decide) b).symm

theorem srlV_true (a b : Word) : srlV true a b = extW (low32 a >>> (low32 b % 32)) :=
  congrArg (fun n => extW (low32 a >>> n)) (toNat_mod_width (m := 32) (by decide) (low32 b)).symm

theorem sraV_false (a b : Word) : sraV false a b = a.sshiftRight' (b % 64) :=
  congrArg a.sshiftRight (toNat_mod_width (m := 64) (by decide) b).symm

theorem sraV_true (a b : Word) : sraV true a b = extW ((low32 a).sshiftRight' (low32 b % 32)) :=
  congrArg (fun n => extW ((low32 a).sshiftRight n)) (toNat_mod_width (m := 32) (by decide) (low32 b)).symm

/-- A rotation as two shifts whose amounts are below the width. -/
theorem rotateRight_eq_shifts {w : Nat} (x : BitVec w) {k : Nat} (hk : k < w) :
    x.rotateRight k = x >>> k ||| x <<< ((w - k) % w) := by
  rw [BitVec.rotateRight_def, Nat.mod_eq_of_lt hk]
  rcases Nat.eq_zero_or_pos k with rfl | hpos
  · simp
  · rw [Nat.mod_eq_of_lt (Nat.sub_lt (Nat.zero_lt_of_lt hk) hpos)]

theorem rorV_false (a b : Word) : rorV false a b = a >>> (b % 64) ||| a <<< ((64 - b % 64) % 64) := by
  have hright : (b % 64).toNat = b.toNat % 64 := toNat_mod_width (m := 64) (by decide) b
  have hleft : ((64 - b % 64) % 64).toNat = (64 - b.toNat % 64) % 64 := by
    rw [BitVec.toNat_umod, BitVec.toNat_sub, hright, show (64 : Word).toNat = 64 from rfl]
    omega
  rw [BitVec.shiftLeft_eq', BitVec.ushiftRight_eq', hleft, hright]
  exact rotateRight_eq_shifts a (Nat.mod_lt _ (by decide))

theorem rorV_true (a b : Word) :
    rorV true a b = extW (low32 a >>> (low32 b % 32) ||| low32 a <<< ((32 - low32 b % 32) % 32)) := by
  have hright : (low32 b % 32).toNat = (low32 b).toNat % 32 := toNat_mod_width (m := 32) (by decide) (low32 b)
  have hleft : ((32 - low32 b % 32) % 32).toNat = (32 - (low32 b).toNat % 32) % 32 := by
    rw [BitVec.toNat_umod, BitVec.toNat_sub, hright, show (32 : BitVec 32).toNat = 32 from rfl]
    omega
  rw [BitVec.shiftLeft_eq', BitVec.ushiftRight_eq', hleft, hright]
  exact congrArg extW (rotateRight_eq_shifts (low32 a) (Nat.mod_lt _ (by decide)))

/-! ### Products -/

theorem mulhV_eq (a b : Word) : mulhV a b = (a.signExtend 128 * b.signExtend 128).extractLsb' 64 64 := by
  have hprod : a.signExtend 128 * b.signExtend 128 = BitVec.ofInt 128 (a.toInt * b.toInt) := (BitVec.ofInt_mul ..).symm
  rw [hprod, mulhV]
  generalize a.toInt * b.toInt = p
  refine BitVec.eq_of_toNat_eq ?_
  rw [BitVec.extractLsb'_toNat, BitVec.toNat_ofInt, BitVec.toNat_ofInt, Nat.shiftRight_eq_div_pow]
  omega

theorem mulhuV_eq (a b : Word) : mulhuV a b = (a.setWidth 128 * b.setWidth 128).extractLsb' 64 64 := by
  have hlt : a.toNat * b.toNat < 2 ^ 128 := (Nat.mul_lt_mul'' a.isLt b.isLt : _ < 2 ^ 64 * 2 ^ 64)
  refine BitVec.eq_of_toNat_eq ?_
  rw [BitVec.extractLsb'_toNat, BitVec.toNat_mul, BitVec.toNat_setWidth, BitVec.toNat_setWidth,
    Nat.mod_eq_of_lt (a.isLt.trans (by decide)), Nat.mod_eq_of_lt (b.isLt.trans (by decide)), Nat.mod_eq_of_lt hlt,
    Nat.shiftRight_eq_div_pow]
  rfl
/-! ### Quotients and remainders (R118) -/

theorem divS_eq {n : Nat} (a b : BitVec n) : divS a b = if b = 0 then BitVec.allOnes n else
    if a = BitVec.intMin n ∧ b = -1 then BitVec.intMin n else a.sdiv b := by
  have hquot : BitVec.ofInt n (a.toInt.tdiv b.toInt) = a.sdiv b :=
    BitVec.eq_of_toInt_eq (by rw [BitVec.toInt_ofInt, BitVec.toInt_sdiv])
  rw [divS, hquot]
  refine if_congr Iff.rfl rfl ?_
  split
  next h => rw [h.1, h.2]; exact BitVec.intMin_sdiv_neg_one
  next => rfl

theorem remS_eq {n : Nat} (a b : BitVec n) : remS a b = if b = 0 then a else
    if a = BitVec.intMin n ∧ b = -1 then 0 else a.srem b := by
  have hrem : BitVec.ofInt n (a.toInt.tmod b.toInt) = a.srem b := by rw [← BitVec.toInt_srem, BitVec.ofInt_toInt]
  rw [remS, hrem]
  refine if_congr Iff.rfl rfl ?_
  split
  next h =>
    rw [h.2]
    refine BitVec.srem_zero_of_dvd ?_
    rcases Nat.eq_zero_or_pos n with rfl | hn
    · simp [BitVec.eq_nil a]
    · have hone : (-1 : BitVec n).toInt = -1 := by
        rw [show (-1 : BitVec n) = BitVec.allOnes n from BitVec.neg_one_eq_allOnes, BitVec.toInt_allOnes, if_pos hn]
      rw [hone]
      exact (Int.neg_dvd.mpr (one_dvd _))
  next => rfl

/-! ### The smaller and the larger -/

/-- The signed smaller of two values of any width; equal values are the same. -/
theorem ite_slt_eq_ite_le {n : Nat} (a b : BitVec n) : (if a.slt b then a else b) = if a.toInt ≤ b.toInt then a else b := by
  simp only [BitVec.slt_iff_toInt_lt]
  rcases lt_trichotomy a.toInt b.toInt with h | h | h
  · rw [if_pos h, if_pos h.le]
  · rw [if_neg h.not_lt, if_pos h.le, BitVec.toInt_inj.mp h]
  · rw [if_neg h.not_gt, if_neg h.not_ge]

/-- The signed larger. -/
theorem ite_slt_eq_ite_le_swap {n : Nat} (a b : BitVec n) :
    (if a.slt b then b else a) = if a.toInt ≤ b.toInt then b else a := by
  simp only [BitVec.slt_iff_toInt_lt]
  rcases lt_trichotomy a.toInt b.toInt with h | h | h
  · rw [if_pos h, if_pos h.le]
  · rw [if_neg h.not_lt, if_pos h.le, BitVec.toInt_inj.mp h]
  · rw [if_neg h.not_gt, if_neg h.not_ge]

theorem minV_eq (a b : Word) : minV a b = if a.toInt ≤ b.toInt then a else b := ite_slt_eq_ite_le a b
theorem maxV_eq (a b : Word) : maxV a b = if a.toInt ≤ b.toInt then b else a := ite_slt_eq_ite_le_swap a b

theorem minuV_eq (a b : Word) : minuV a b = if a.toNat ≤ b.toNat then a else b := by
  simp only [minuV, BitVec.ult_iff_toNat_lt]
  rcases lt_trichotomy a.toNat b.toNat with h | h | h
  · rw [if_pos h, if_pos h.le]
  · rw [if_neg h.not_lt, if_pos h.le, BitVec.eq_of_toNat_eq h]
  · rw [if_neg h.not_gt, if_neg h.not_ge]

theorem maxuV_eq (a b : Word) : maxuV a b = if a.toNat ≤ b.toNat then b else a := by
  simp only [maxuV, BitVec.ult_iff_toNat_lt]
  rcases lt_trichotomy a.toNat b.toNat with h | h | h
  · rw [if_pos h, if_pos h.le]
  · rw [if_neg h.not_lt, if_pos h.le, BitVec.eq_of_toNat_eq h]
  · rw [if_neg h.not_gt, if_neg h.not_ge]

/-! ### Counts of bits, and the reversed bytes -/

/-- The zeros above the highest one: those among the low `n + 1` bits, and the bits above these. -/
theorem clzAuxRec_eq_clzN {w n : Nat} (x : BitVec w) (hn : n < w) :
    x.clzAuxRec n = BitVec.ofNat w (clzN x.toNat (n + 1) + (w - 1 - n)) := by
  induction n with
  | zero =>
    rw [BitVec.clzAuxRec_zero, clzN, ← BitVec.getLsbD]
    split
    · rw [Nat.zero_add, Nat.sub_zero]
    · exact congrArg _ (by simp only [clzN]; omega)
  | succ n ih =>
    rw [BitVec.clzAuxRec_succ, clzN, ← BitVec.getLsbD, ih (by omega)]
    split
    · rw [Nat.zero_add]
    · exact congrArg _ (by omega)

theorem clz_eq_clzN {w : Nat} (hw : 0 < w) (x : BitVec w) : x.clz = BitVec.ofNat w (clzN x.toNat w) := by
  rw [BitVec.clz, clzAuxRec_eq_clzN x (by omega), Nat.sub_self, Nat.add_zero, Nat.sub_add_cancel hw]

/-- The leading zeros of the reversed vector are the trailing zeros. -/
theorem clzN_reverse {w n : Nat} (x : BitVec w) (hn : n ≤ w) : clzN x.reverse.toNat n = ctzN x.toNat (w - n) n := by
  induction n with
  | zero => rfl
  | succ n ih =>
    have hbit : x.reverse.toNat.testBit n = x.toNat.testBit (w - (n + 1)) := by
      rw [← BitVec.getLsbD, BitVec.getLsbD_reverse, BitVec.getMsbD_eq_getLsbD, decide_eq_true (by omega), Bool.true_and,
        BitVec.getLsbD]
      exact congrArg _ (by omega)
    rw [clzN, ctzN, hbit, ih (by omega), show w - (n + 1) + 1 = w - n by omega]

theorem popN_eq_cpopNatRec {w : Nat} (x : BitVec w) (n : Nat) : popN x.toNat n = x.cpopNatRec n 0 := by
  induction n with
  | zero => rfl
  | succ n ih =>
    rw [popN, BitVec.cpopNatRec_succ, BitVec.cpopNatRec_eq, ih, ← BitVec.getLsbD]
    cases x.getLsbD n <;> simp

theorem clzV_eq (a : Word) : clzV a = a.clz := (clz_eq_clzN (by decide) a).symm

theorem ctzV_eq (a : Word) : ctzV a = a.ctz := by
  rw [BitVec.ctz, clz_eq_clzN (by decide), clzN_reverse a le_rfl]
  rfl

theorem popcV_eq (a : Word) : popcV a = a.cpop := congrArg (BitVec.ofNat 64) (popN_eq_cpopNatRec a 64)

theorem toNat_append_byte {m : Nat} (x : BitVec m) (y : BitVec 8) : (x ++ y).toNat = y.toNat + 256 * x.toNat := by
  rw [BitVec.toNat_append, ← Nat.shiftLeft_add_eq_or_of_lt y.isLt, Nat.shiftLeft_eq]
  omega

theorem bswapV_eq (a : Word) : bswapV a = a.extractLsb' 0 8 ++ a.extractLsb' 8 8 ++ a.extractLsb' 16 8 ++
    a.extractLsb' 24 8 ++ a.extractLsb' 32 8 ++ a.extractLsb' 40 8 ++ a.extractLsb' 48 8 ++ a.extractLsb' 56 8 := by
  have hlt := leNat_lt (leBytes 8 a.toNat).reverse
  rw [List.length_reverse, length_leBytes, show 256 ^ 8 = 2 ^ 64 from rfl] at hlt
  refine BitVec.eq_of_toNat_eq ?_
  rw [bswapV, BitVec.toNat_ofNat, Nat.mod_eq_of_lt hlt]
  simp [leBytes, leNat, toNat_append_byte, BitVec.extractLsb'_toNat, Nat.shiftRight_eq_div_pow, Nat.div_div_eq_div_mul]

end Sys2Proof.Machine
end

section
/-! PROOF. The integer register operations and the divisions (R117, R118, Table 5-8). -/

namespace Sys2Proof.Machine

/-- Settles O12: each operation is a scalar operation whose value is the table's. -/
theorem integerRegisterResults : Obligations.IntegerRegisterResults := by
  unfold Obligations.IntegerRegisterResults
  intro h gd a b p x y x32 y32 g gw
  refine ⟨?add, ?addw, ?sub, ?subw, ?mul, ?mulw, ?sll, ?sllw, ?srl, ?srlw, ?sra, ?sraw, ?ror, ?rorw, ?and, ?or, ?xor, ?andn,
    ?mulh, ?mulhu, ?min, ?max, ?minu, ?maxu, ?clz, ?ctz, ?popc, ?bswap, ?sextb, ?sexth, ?sextw, ?zextw, ?sel⟩
  case add => exact ranAs_of_aluRR (fun s => exec_add ..) fun t => rfl
  case addw => exact ranAs_of_aluRR (fun s => exec_add ..) fun t => rfl
  case sub => exact ranAs_of_aluRR (fun s => exec_sub ..) fun t => rfl
  case subw => exact ranAs_of_aluRR (fun s => exec_sub ..) fun t => rfl
  case mul => exact ranAs_of_aluRR (fun s => exec_mul ..) fun t => rfl
  case mulw => exact ranAs_of_aluRR (fun s => exec_mul ..) fun t => rfl
  case sll => exact ranAs_of_aluRR (fun s => exec_sll ..) fun t => sllV_false ..
  case sllw => exact ranAs_of_aluRR (fun s => exec_sll ..) fun t => sllV_true ..
  case srl => exact ranAs_of_aluRR (fun s => exec_srl ..) fun t => srlV_false ..
  case srlw => exact ranAs_of_aluRR (fun s => exec_srl ..) fun t => srlV_true ..
  case sra => exact ranAs_of_aluRR (fun s => exec_sra ..) fun t => sraV_false ..
  case sraw => exact ranAs_of_aluRR (fun s => exec_sra ..) fun t => sraV_true ..
  case ror => exact ranAs_of_aluRR (fun s => exec_ror ..) fun t => rorV_false ..
  case rorw => exact ranAs_of_aluRR (fun s => exec_ror ..) fun t => rorV_true ..
  case and => exact ranAs_of_aluRR (fun s => exec_and ..) fun t => rfl
  case or => exact ranAs_of_aluRR (fun s => exec_or ..) fun t => rfl
  case xor => exact ranAs_of_aluRR (fun s => exec_xor ..) fun t => rfl
  case andn => exact ranAs_of_aluRR (fun s => exec_andn ..) fun t => rfl
  case mulh => exact ranAs_of_aluRR (fun s => exec_mulh ..) fun t => mulhV_eq ..
  case mulhu => exact ranAs_of_aluRR (fun s => exec_mulhu ..) fun t => mulhuV_eq ..
  case min => exact ranAs_of_aluRR (fun s => exec_min ..) fun t => minV_eq ..
  case max => exact ranAs_of_aluRR (fun s => exec_max ..) fun t => maxV_eq ..
  case minu => exact ranAs_of_aluRR (fun s => exec_minu ..) fun t => minuV_eq ..
  case maxu => exact ranAs_of_aluRR (fun s => exec_maxu ..) fun t => maxuV_eq ..
  case clz => exact ranAs_of_aluR (fun s => exec_clz ..) fun t => clzV_eq _
  case ctz => exact ranAs_of_aluR (fun s => exec_ctz ..) fun t => ctzV_eq _
  case popc => exact ranAs_of_aluR (fun s => exec_popc ..) fun t => popcV_eq _
  case bswap => exact ranAs_of_aluR (fun s => exec_bswap ..) fun t => bswapV_eq _
  case sextb => exact ranAs_of_aluR (fun s => exec_sextb ..) fun t => rfl
  case sexth => exact ranAs_of_aluR (fun s => exec_sexth ..) fun t => rfl
  case sextw => exact ranAs_of_aluR (fun s => exec_sextw ..) fun t => rfl
  case zextw => exact ranAs_of_aluR (fun s => exec_zextw ..) fun t => rfl
  case sel => exact ranAs_of_scalar (fun s => exec_sel ..) fun t => rfl

/-- Settles O13: the quotients and remainders of `divS_eq` and `remS_eq`, at both widths. -/
theorem divideResults : Obligations.DivideResults := by
  unfold Obligations.DivideResults
  intro h gd a b x y x32 y32 g gw
  refine ⟨?div, ?divu, ?rem, ?remu, ?divw, ?divuw, ?remw, ?remuw⟩
  case div => exact ranAs_of_aluRR (fun s => exec_div ..) fun t => divS_eq ..
  case divu => exact ranAs_of_aluRR (fun s => exec_divu ..) fun t => rfl
  case rem => exact ranAs_of_aluRR (fun s => exec_rem ..) fun t => remS_eq ..
  case remu => exact ranAs_of_aluRR (fun s => exec_remu ..) fun t => rfl
  case divw => exact ranAs_of_aluRR (fun s => exec_div ..) fun t => congrArg extW (divS_eq ..)
  case divuw => exact ranAs_of_aluRR (fun s => exec_divu ..) fun t => rfl
  case remw => exact ranAs_of_aluRR (fun s => exec_rem ..) fun t => congrArg extW (remS_eq ..)
  case remuw => exact ranAs_of_aluRR (fun s => exec_remu ..) fun t => rfl

end Sys2Proof.Machine
end

section
/-! PROOF. Immediates, compares, predicates and jumps (R116, R119, Table 5-9). -/

namespace Sys2Proof.Machine

/-! ### The amount of an immediate shift -/

theorem toNat_setWidth_shift (sh : BitVec 6) : (sh.setWidth 64).toNat = sh.toNat := by
  rw [BitVec.toNat_setWidth, Nat.mod_eq_of_lt (sh.isLt.trans (by decide))]

/-- A full-width shift takes every amount as it is. -/
theorem shiftAmount64 (sh : BitVec 6) : (sh.setWidth 64).toNat % 64 = sh.toNat := by
  rw [toNat_setWidth_shift, Nat.mod_eq_of_lt sh.isLt]

/-- With W an amount below 32 is taken as it is (R116). -/
theorem shiftAmount32 {sh : BitVec 6} (hsh : sh.toNat < 32) : (low32 (sh.setWidth 64)).toNat % 32 = sh.toNat := by
  rw [low32, BitVec.toNat_setWidth, toNat_setWidth_shift, Nat.mod_eq_of_lt (hsh.trans (by decide)), Nat.mod_eq_of_lt hsh]

/-- An immediate shift whose amount fits its width. -/
theorem ranAs_of_shiftImm {i : Instr} {h : Tid} {gd a : Reg5} {sh : BitVec 6} {w : Bool} {k : Nat}
    {op : Bool → Word → Word → Word} {v : Thread → Word} (hsh : w = true → sh.toNat < 32)
    (e : ∀ s, exec i s = s.shiftImm h gd a sh w k op) (hv : ∀ t : Thread, op w (t.readG a) (sh.setWidth 64) = v t) :
    ranAs i h fun t => t.writeG gd (v t) := by
  refine ranAs_of_instr (g := fun t => t.writeG gd (v t)) e fun t s => ?_
  cases w with
  | false => rw [← hv]; rfl
  | true => rw [if_neg (by simpa using hsh rfl), hv]

/-- R116: with W set, bit 5 of the amount must be zero. -/
theorem State.shiftImm_illegal {s : State} {h : Tid} (hs : s.ready h = true) (gd a : Reg5) {sh : BitVec 6}
    (hsh : 32 ≤ sh.toNat) (k : Nat) (op : Bool → Word → Word → Word) :
    s.shiftImm h gd a sh true k op = .next (s.fault h 0x03 (wordI 0x06 gd.val a.val (256 + 64 * k + sh.toNat))) := by
  rw [State.shiftImm, State.instr_ready hs, if_pos (by simpa using hsh)]
  rfl

/-! ### Values -/

theorem cati_eq (v : Word) (i : BitVec 16) : v <<< 16 ||| zext16 i = v.setWidth 48 ++ i := by
  refine BitVec.eq_of_getLsbD_eq fun k hk => ?_
  simp only [zext16, BitVec.getLsbD_or, BitVec.getLsbD_shiftLeft, BitVec.getLsbD_setWidth, BitVec.getLsbD_append, hk,
    decide_true, Bool.true_and]
  by_cases hk16 : k < 16
  · simp [hk16]
  · simp [hk16, show k - 16 < 48 by omega, BitVec.getLsbD_of_ge i k (by omega)]

theorem shiftLeft_eight (v : Word) : v <<< 8 = v * 256 := by
  rw [BitVec.shiftLeft_eq_mul_twoPow]
  rfl

theorem shiftLeft_two (v : Word) : v <<< 2 = v * 4 := by
  rw [BitVec.shiftLeft_eq_mul_twoPow]
  rfl

/-! ### Conditions -/

theorem condEval_eq (a b : Word) : condEval .eq a b = decide (a = b) := beq_eq_decide a b
theorem condEval_ne (a b : Word) : condEval .ne a b = decide (a ≠ b) := by rw [condEval, bne, beq_eq_decide, decide_not]
theorem condEval_lt (a b : Word) : condEval .lt a b = decide (a.toInt < b.toInt) := BitVec.slt_eq_decide
theorem condEval_ge (a b : Word) : condEval .ge a b = decide (b.toInt ≤ a.toInt) := by
  simp only [condEval, BitVec.slt_eq_decide, ← decide_not, Int.not_lt]
theorem condEval_ltu (a b : Word) : condEval .ltu a b = decide (a.toNat < b.toNat) := rfl
theorem condEval_geu (a b : Word) : condEval .geu a b = decide (b.toNat ≤ a.toNat) := by
  simp only [condEval, BitVec.ult, ← decide_not, Nat.not_lt]
theorem condEval_tst (a b : Word) : condEval .tst a b = decide (a &&& b ≠ 0) := by
  rw [condEval, bne, beq_eq_decide, decide_not]

/-- A compare of two registers. -/
theorem ranAs_cmp {h : Tid} {pd : Pred} {a b : Reg5} {c : Cond} {v : Thread → Bool}
    (hv : ∀ t : Thread, condEval c (t.readG a) (t.readG b) = v t) : ranAs (.cmp h pd a b c) h fun t => t.writeP pd (v t) :=
  ranAs_of_scalar (f := fun t => t.writeP pd (condEval c (t.readG a) (t.readG b))) (fun s => exec_cmp ..) fun t => by rw [hv]

/-- A compare with an immediate. -/
theorem ranAs_cmpi {h : Tid} {pd : Pred} {a : Reg5} {i : BitVec 15} {c : Cond} {v : Thread → Bool}
    (hv : ∀ t : Thread, condEval c (t.readG a) (i.signExtend 64) = v t) :
    ranAs (.cmpi h pd a i c) h fun t => t.writeP pd (v t) :=
  ranAs_of_scalar (f := fun t => t.writeP pd (condEval c (t.readG a) (i.signExtend 64))) (fun s => exec_cmpi ..)
    fun t => by rw [hv]

theorem toInt_sext15 (i : BitVec 15) : (i.signExtend 64 : Word).toInt = i.toInt := BitVec.toInt_signExtend_of_le (by decide)

/-! ### Jumps -/

theorem State.trBranch_untraced {s : State} {h : Nat} (ht : s.traced h = false) (taken : Bool) : s.trBranch h taken = s := by
  simp only [State.trBranch, ht, Bool.not_false, if_true]

theorem State.trTarget_untraced {s : State} {h : Nat} (ht : s.traced h = false) (pc : Word) : s.trTarget h pc = s := by
  simp only [State.trTarget, ht, Bool.false_eq_true, if_false]

/-- A retirement that sends no packet is not held by STALL. -/
theorem State.trRetire_setThread (s : State) (h k : Nat) (t : Thread) : s.trRetire h (s.setThread k t) = s.setThread k t := by
  have hunit : (s.setThread k t).unit (coreOf h) = s.unit (coreOf h) := rfl
  simp only [State.trRetire, hunit, Nat.lt_irrefl, decide_false, Bool.and_false, Bool.false_eq_true, if_false]

/-- Settles O14: each instruction is a scalar one whose value is the table's, an immediate shift that R116 refuses, or a
jump of an untraced thread. -/
theorem immediateCompareBranchResults : Obligations.ImmediateCompareBranchResults := by
  unfold Obligations.ImmediateCompareBranchResults
  intro h gd a pd p q i16 i15 d21 d22 sh b n x g gw pr jump
  refine ⟨?addi, ?andi, ?ori, ?xori, ?cati, ?adpc, ?slli, ?srli, ?srai, ?rori, fun hsh => ⟨?slliw, ?srliw, ?sraiw, ?roriw⟩,
    fun hsh s hs k i hi => ?illegal, ?eq, ?ne, ?lt, ?ge, ?ltu, ?geu, ?tst, ?eqi, ?nei, ?lti, ?gei, ?ltui, ?geui, ?tsti,
    ?pand, ?por, ?pxor, ?pandn, ?porn, fun s hs ht => ?br, fun s hs ht => ?jal, fun s hs ht => ?jalr⟩
  case addi => exact ranAs_of_aluR (fun s => exec_addi ..) fun t => rfl
  case andi => exact ranAs_of_aluR (fun s => exec_andi ..) fun t => rfl
  case ori => exact ranAs_of_aluR (fun s => exec_ori ..) fun t => rfl
  case xori => exact ranAs_of_aluR (fun s => exec_xori ..) fun t => rfl
  case cati => exact ranAs_of_aluR (fun s => exec_cati ..) fun t => cati_eq ..
  case adpc => exact ranAs_of_scalar (fun s => exec_adpc ..) fun t => by rw [shiftLeft_eight]
  case slli =>
    exact ranAs_of_shiftImm (w := false) nofun (fun s => exec_slli ..) fun t => congrArg (x t <<< ·) (shiftAmount64 sh)
  case srli =>
    exact ranAs_of_shiftImm (w := false) nofun (fun s => exec_srli ..) fun t => congrArg (x t >>> ·) (shiftAmount64 sh)
  case srai =>
    exact ranAs_of_shiftImm (w := false) nofun (fun s => exec_srai ..) fun t => congrArg (x t).sshiftRight (shiftAmount64 sh)
  case rori =>
    exact ranAs_of_shiftImm (w := false) nofun (fun s => exec_rori ..) fun t => congrArg (x t).rotateRight (shiftAmount64 sh)
  case slliw =>
    exact ranAs_of_shiftImm (fun _ => hsh) (fun s => exec_slli ..) fun t =>
      congrArg (fun k => extW (low32 (x t) <<< k)) (shiftAmount32 hsh)
  case srliw =>
    exact ranAs_of_shiftImm (fun _ => hsh) (fun s => exec_srli ..) fun t =>
      congrArg (fun k => extW (low32 (x t) >>> k)) (shiftAmount32 hsh)
  case sraiw =>
    exact ranAs_of_shiftImm (fun _ => hsh) (fun s => exec_srai ..) fun t =>
      congrArg (fun k => extW ((low32 (x t)).sshiftRight k)) (shiftAmount32 hsh)
  case roriw =>
    exact ranAs_of_shiftImm (fun _ => hsh) (fun s => exec_rori ..) fun t =>
      congrArg (fun k => extW ((low32 (x t)).rotateRight k)) (shiftAmount32 hsh)
  case illegal =>
    simp only [List.mem_cons, Prod.mk.injEq, List.not_mem_nil, or_false] at hi
    rcases hi with ⟨rfl, rfl⟩ | ⟨rfl, rfl⟩ | ⟨rfl, rfl⟩ | ⟨rfl, rfl⟩
    · exact (exec_slli ..).trans (State.shiftImm_illegal hs gd a hsh 0 sllV)
    · exact (exec_srli ..).trans (State.shiftImm_illegal hs gd a hsh 1 srlV)
    · exact (exec_srai ..).trans (State.shiftImm_illegal hs gd a hsh 2 sraV)
    · exact (exec_rori ..).trans (State.shiftImm_illegal hs gd a hsh 3 rorV)
  case eq => exact ranAs_cmp fun t => condEval_eq ..
  case ne => exact ranAs_cmp fun t => condEval_ne ..
  case lt => exact ranAs_cmp fun t => condEval_lt ..
  case ge => exact ranAs_cmp fun t => condEval_ge ..
  case ltu => exact ranAs_cmp fun t => condEval_ltu ..
  case geu => exact ranAs_cmp fun t => condEval_geu ..
  case tst => exact ranAs_cmp fun t => condEval_tst ..
  case eqi => exact ranAs_cmpi fun t => condEval_eq ..
  case nei => exact ranAs_cmpi fun t => condEval_ne ..
  case lti => exact ranAs_cmpi fun t => by rw [condEval_lt, toInt_sext15]
  case gei => exact ranAs_cmpi fun t => by rw [condEval_ge, toInt_sext15]
  case ltui => exact ranAs_cmpi fun t => condEval_ltu ..
  case geui => exact ranAs_cmpi fun t => condEval_geu ..
  case tsti => exact ranAs_cmpi fun t => condEval_tst ..
  case pand => exact ranAs_of_predPP (fun s => exec_pand ..) fun t => rfl
  case por => exact ranAs_of_predPP (fun s => exec_por ..) fun t => rfl
  case pxor => exact ranAs_of_predPP (fun s => exec_pxor ..) fun t => rfl
  case pandn => exact ranAs_of_predPP (fun s => exec_pandn ..) fun t => rfl
  case porn => exact ranAs_of_predPP (fun s => exec_porn ..) fun t => rfl
  case br =>
    rw [exec_br, execBr, State.instr_ready hs]
    simp only [State.trBranch_untraced ht, State.trRetire_setThread, shiftLeft_two, decide_eq_true_eq, id]
  case jal => rw [exec_jal, execJal, State.instr_ready hs, shiftLeft_two]
  case jalr =>
    rw [exec_jalr, execJalr, State.instr_ready hs]
    simp only [State.trTarget_untraced ht, State.trRetire_setThread, sext16, x]

end Sys2Proof.Machine
end

section
/-! PROOF. The registers of a context and its CSRs (R98 to R104, R124, Tables 5-2 and 5-15). -/

namespace Sys2Proof.Machine

/-! ### Registers -/

theorem State.thread_setThread (s : State) (h k : Nat) (t : Thread) :
    (s.setThread h t).thread k = if k = h then t else s.thread k := by
  split
  next e => rw [e, State.thread_setThread_self]
  next e => rw [State.thread_setThread_ne _ e]

theorem setBit_true_testBit_ne {v k j : Nat} (h : j ≠ k) : (setBit v k true).testBit j = v.testBit j := by
  rcases Nat.lt_or_gt_of_ne h with hlt | hgt
  · unfold setBit
    split
    · rfl
    · rw [if_pos rfl, Nat.add_comm, Nat.testBit_two_pow_add_gt hlt]
  · exact setBit_true_testBit_above hgt

/-- A bit set in a number leaves the others. -/
theorem setBit_testBit_ne {v k j : Nat} (h : j ≠ k) (b : Bool) : (setBit v k b).testBit j = v.testBit j := by
  cases b with
  | true => exact setBit_true_testBit_ne h
  | false =>
    by_cases hv : v.testBit k = true
    · have hback : setBit (v - 2 ^ k) k true = v := by
        have hle := Nat.ge_two_pow_of_testBit hv
        have hclear : (v - 2 ^ k).testBit k = false := by
          have hset := setBit_testBit_self v k false
          rwa [setBit, if_neg (by simp [hv]), if_neg Bool.false_ne_true] at hset
        rw [setBit, if_neg (by simp [hclear]), if_pos rfl, Nat.sub_add_cancel hle]
      rw [setBit, if_neg (by simp [hv]), if_neg Bool.false_ne_true, ← setBit_true_testBit_ne h, hback]
    · rw [setBit, if_pos (by simpa using hv)]

namespace Thread

variable (t : Thread)

theorem readG_writeG (r q : Reg5) (v : Word) :
    (t.writeG r v).readG q = if q.val = 0 then 0 else if q = r then v else t.readG q := by
  unfold readG writeG
  by_cases hq : q.val = 0
  · rw [if_pos hq, if_pos hq]
  · rw [if_neg hq, if_neg hq]
    by_cases hr : r.val = 0
    · rw [if_pos hr, if_neg fun e : q = r => hq (e ▸ hr), if_neg hq]
    · rw [if_neg hr, if_neg hq]
      by_cases he : q = r
      · rw [if_pos he, he, findD_putD_self]
      · rw [if_neg he, findD_putD_ne fun e => he (Fin.ext e)]

@[simp] theorem readF_writeG (r q : Reg5) (v : Word) : (t.writeG r v).readF q = t.readF q := by unfold writeG; split <;> rfl
@[simp] theorem readP_writeG (r : Reg5) (p : Pred) (v : Word) : (t.writeG r v).readP p = t.readP p := by
  unfold writeG; split <;> rfl

theorem readF_writeF (r q : Reg5) (v : Word) : (t.writeF r v).readF q = if q = r then v else t.readF q := by
  unfold readF writeF
  split
  next he => rw [he, findD_putD_self]
  next he => rw [findD_putD_ne fun e => he (Fin.ext e)]

theorem readP_writeP (p q : Pred) (b : Bool) :
    (t.writeP p b).readP q = if q.val = 0 then true else if q = p then b else t.readP q := by
  unfold readP writeP
  by_cases hq : q.val = 0
  · rw [if_pos hq, decide_eq_true hq, Bool.true_or]
  · rw [if_neg hq, decide_eq_false hq, Bool.false_or, Bool.false_or]
    by_cases hp : p.val = 0
    · rw [if_pos hp, if_neg fun e : q = p => hq (e ▸ hp)]
    · rw [if_neg hp]
      by_cases he : q = p
      · rw [if_pos he, he, setBit_testBit_self]
      · rw [if_neg he, setBit_testBit_ne fun e => he (Fin.ext e)]

@[simp] theorem readG_writeP (p : Pred) (q : Reg5) (b : Bool) : (t.writeP p b).readG q = t.readG q := by
  unfold writeP; split <;> rfl
@[simp] theorem readF_writeP (p : Pred) (q : Reg5) (b : Bool) : (t.writeP p b).readF q = t.readF q := by
  unfold writeP; split <;> rfl

/-! ### Writes of CSRs -/

/-- R104: the ring is not written. -/
theorem ring_csrWrite (csr : Nat) (v : Word) : (t.csrWrite csr v).ring = t.ring := by
  unfold csrWrite
  simp only [writeFcsr, writeCause, writeTctl, setXsp, setEntry]
  generalize v.toNat = n
  split <;> rfl

end Thread

/-! ### CSR instructions (R124) -/

theorem csrOf_eq (h : Tid) (csr : BitVec 12) :
    csrOf h csr.toNat = if 1024 ≤ h.val ∧ (csr = 0x100 ∨ csr = 0x101) then none else csrRings csr.toNat := by
  have hcore : drillCore (coreOf h) = decide (1024 ≤ h.val) := decide_eq_decide.mpr (by rw [coreOf]; omega)
  have hnum : ∀ k : Nat, k < 4096 → (csr.toNat = k ↔ csr = BitVec.ofNat 12 k) := fun k hk => by
    rw [← BitVec.toNat_inj, BitVec.toNat_ofNat, Nat.mod_eq_of_lt hk]
  simp only [csrOf, hcore, hnum 0x100 (by decide), hnum 0x101 (by decide), Bool.and_eq_true, Bool.or_eq_true,
    decide_eq_true_eq]
  rfl

section

variable {s : State} {h : Tid} (hs : s.ready h = true) {cmd csr : Nat} {gd gs1 : Reg5}
include hs

/-- A number that names no CSR. -/
theorem State.csrInstr_unknown (hc : csrOf h csr = none) (f : Option (Word → Word → Word)) :
    s.csrInstr h cmd gd csr gs1 f = .next (s.fault h 0x03 (wordC gd gs1 cmd csr)) := by
  rw [State.csrInstr, State.instr_ready hs, hc]
  rfl

variable {rd : Nat} {wr : Option Nat} (hc : csrOf h csr = some (rd, wr))
include hc

theorem State.csrInstr_reads (hr : (s.thread h).ring ≤ rd) : s.csrInstr h cmd gd csr gs1 none =
    .next (s.setThread h ((s.thread h).writeG gd (s.csrRead h csr)).next) := by
  rw [State.csrInstr, State.instr_ready hs, hc]
  exact congrArg _ (if_neg (Nat.not_lt.mpr hr))

theorem State.csrInstr_unreadable (hr : rd < (s.thread h).ring) : s.csrInstr h cmd gd csr gs1 none =
    .next (s.fault h 0x04 (wordC gd gs1 cmd csr)) := by
  rw [State.csrInstr, State.instr_ready hs, hc]
  exact congrArg _ (if_pos hr)

/-- A write of a CSR without write rings. -/
theorem State.csrInstr_readOnly (hw : wr = none) (f : Word → Word → Word) : s.csrInstr h cmd gd csr gs1 (some f) =
    .next (s.fault h 0x03 (wordC gd gs1 cmd csr)) := by
  rw [State.csrInstr, State.instr_ready hs, hc, hw]
  rfl

variable {w : Nat} (hw : wr = some w)
include hw

theorem State.csrInstr_unwritable (hr : rd < (s.thread h).ring ∨ w < (s.thread h).ring) (f : Word → Word → Word) :
    s.csrInstr h cmd gd csr gs1 (some f) = .next (s.fault h 0x04 (wordC gd gs1 cmd csr)) := by
  rw [State.csrInstr, State.instr_ready hs, hc, hw]
  exact congrArg _ (if_pos (by simpa using hr))

theorem State.csrInstr_writes (hr : (s.thread h).ring ≤ rd) (hr' : (s.thread h).ring ≤ w)
    (ht : csr = 0x100 → s.inflight h = 0) (f : Word → Word → Word) : s.csrInstr h cmd gd csr gs1 (some f) =
    .next (s.setThread h (((s.thread h).csrWrite csr (f (s.csrRead h csr) ((s.thread h).readG gs1))).writeG gd
      (s.csrRead h csr)).next) := by
  rw [State.csrInstr, State.instr_ready hs, hc, hw]
  refine congrArg _ ((if_neg ?_).trans (if_neg ?_))
  · simpa using ⟨hr, hr'⟩
  · simpa using ht

end

/-- Settles O15: the register file by what a read finds after a write, each CSR instruction by the case of
`State.csrInstr` that its number and ring select. -/
theorem contextAndCsrResults : Obligations.ContextAndCsrResults := by
  unfold Obligations.ContextAndCsrResults
  refine ⟨fun s h k t r q a b v x => ⟨s.thread_setThread h k t, t.readG_writeG r q v, t.readF_writeG r q v,
    t.readP_writeG r a v, t.readF_writeF r q v, rfl, rfl, t.readP_writeP a b x, t.readG_writeP a q x, t.readF_writeP a q x,
    rfl, rfl, rfl, rfl, rfl⟩, fun s h gd gs1 csr hs => ?_⟩
  intro t old rings word writes
  have hrings : csrOf h csr.toNat = rings := csrOf_eq h csr
  /- Each of the three writing instructions is `State.csrInstr` with the function of its row. -/
  have hwrites : ∀ x ∈ writes, ∃ f : Word → Word → Word, x.2.2 = f old (t.readG gs1) ∧
      exec x.2.1 s = s.csrInstr h x.1 gd csr.toNat gs1 (some f) := by
    intro x hx
    simp only [writes, List.mem_cons, List.not_mem_nil, or_false] at hx
    rcases hx with rfl | rfl | rfl
    · exact ⟨fun _ v => v, rfl, exec_csrswp ..⟩
    · exact ⟨fun old v => old ||| v, rfl, exec_csrset ..⟩
    · exact ⟨fun old v => old &&& ~~~v, rfl, exec_csrclr ..⟩
  refine ⟨fun hn => ⟨?unknown, fun x hx => ?unknownWrite⟩, fun rd wr hrd => ⟨fun hr => ?reads, fun hr => ?unreadable,
    fun hw x hx => ?readOnly, fun w hw => ⟨fun hr x hx => ?unwritable, fun hr hr' ht x hx => ?written⟩⟩,
    t.ring_csrWrite csr.toNat, fun v => ⟨rfl, rfl, rfl⟩⟩
  case unknown => exact (exec_csrrd ..).trans (State.csrInstr_unknown hs (hrings.trans hn) none)
  case unknownWrite =>
    obtain ⟨f, -, he⟩ := hwrites x hx
    rw [he, State.csrInstr_unknown hs (hrings.trans hn)]
  case reads => exact (exec_csrrd ..).trans (State.csrInstr_reads hs (hrings.trans hrd) hr)
  case unreadable => exact (exec_csrrd ..).trans (State.csrInstr_unreadable hs (hrings.trans hrd) hr)
  case readOnly =>
    obtain ⟨f, -, he⟩ := hwrites x hx
    rw [he, State.csrInstr_readOnly hs (hrings.trans hrd) hw]
  case unwritable =>
    obtain ⟨f, -, he⟩ := hwrites x hx
    rw [he, State.csrInstr_unwritable hs (hrings.trans hrd) hw hr]
  case written =>
    obtain ⟨f, hv, he⟩ := hwrites x hx
    rw [he, State.csrInstr_writes hs (hrings.trans hrd) hw hr hr' ht, hv]

end Sys2Proof.Machine
end

section
/-! PROOF. NOP, the mailbox and WAIT (R109 to R112, R129, R327). -/

namespace Sys2Proof.Machine

/-! ### Posts -/

theorem State.postArrives_room {s : State} {k : Nat} (hq : (s.thread k).mailbox.length < 8) (h : Nat) (v : Word) :
    s.postArrives h k v = (true, s.modThread k fun t => { t with mailbox := t.mailbox ++ [(v, h)] }) := by
  simp only [State.postArrives, mailboxMax, hq, decide_true, if_true]

theorem State.postArrives_full {s : State} {k : Nat} (hq : 8 ≤ (s.thread k).mailbox.length) (h : Nat) (v : Word) :
    s.postArrives h k v = (false, s) := by
  simp only [State.postArrives, mailboxMax, Nat.not_lt.mpr hq, decide_false, Bool.false_eq_true, if_false]

/-- A context written twice. -/
theorem put_put {α : Type} (k : Nat) (v w : α) (m : List (Nat × α)) : put k w (put k v m) = put k w m := by
  have hinsert : ∀ m : List (Nat × α), drop k (insertAt k v m) = drop k m := fun m => by
    induction m with
    | nil => simp [insertAt, drop]
    | cons a r ih =>
      unfold insertAt
      split
      · simp [drop]
      · simp only [drop, List.filter_cons] at ih ⊢
        split <;> rw [ih]
  have hdrop : drop k (drop k m) = drop k m := by simp [drop, List.filter_filter]
  rw [put, put, put, hinsert, hdrop]

theorem State.setThread_setThread (s : State) (h : Nat) (t u : Thread) : (s.setThread h t).setThread h u = s.setThread h u := by
  simp only [State.setThread, put_put]

theorem State.modThread_setThread (s : State) (h : Nat) (t : Thread) (f : Thread → Thread) :
    (s.setThread h t).modThread h f = s.setThread h (f t) := by
  rw [State.modThread, State.thread_setThread_self, State.setThread_setThread]

theorem State.modThread_setThread_ne (s : State) {h k : Nat} (e : h ≠ k) (t : Thread) (f : Thread → Thread) :
    (s.setThread k t).modThread h f = (s.setThread k t).setThread h (f (s.thread h)) := by
  rw [State.modThread, State.thread_setThread_ne _ e]

section

variable {s : State} {h : Tid} {k : Nat} {v : Word} {pd : Pred}

theorem execMailboxPostDelivery_arrives (hh : (s.thread h).hold = some (.msend k v pd false)) :
    execMailboxPostDelivery h s =
      .next ((s.postArrives h k v).2.modThread h fun t => (t.writeP pd (s.postArrives h k v).1).next) := by
  simp only [execMailboxPostDelivery, hh, Bool.false_eq_true, if_false]

/-- R109: the post enters the target's queue. -/
theorem execMailboxPostDelivery_room (hh : (s.thread h).hold = some (.msend k v pd false)) (hk : k ≠ h)
    (hq : (s.thread k).mailbox.length < 8) : execMailboxPostDelivery h s =
      .next ((s.setThread k { s.thread k with mailbox := (s.thread k).mailbox ++ [(v, h.val)] }).setThread h
        ((s.thread h).writeP pd true).next) := by
  rw [execMailboxPostDelivery_arrives hh, State.postArrives_room hq]
  exact congrArg _ (State.modThread_setThread_ne _ hk.symm _ _)

/-- R109: a full queue refuses it. -/
theorem execMailboxPostDelivery_full (hh : (s.thread h).hold = some (.msend k v pd false))
    (hq : 8 ≤ (s.thread k).mailbox.length) :
    execMailboxPostDelivery h s = .next (s.setThread h ((s.thread h).writeP pd false).next) := by
  rw [execMailboxPostDelivery_arrives hh, State.postArrives_full hq]
  rfl

/-- A thread that posts to itself. -/
theorem execMailboxPostDelivery_self (hh : (s.thread h).hold = some (.msend h v pd false)) :
    execMailboxPostDelivery h s = .next (s.setThread h (if (s.thread h).mailbox.length < 8 then
      (({ s.thread h with mailbox := (s.thread h).mailbox ++ [(v, h.val)] } : Thread).writeP pd true).next
      else ((s.thread h).writeP pd false).next)) := by
  split
  next hq =>
    rw [execMailboxPostDelivery_arrives hh, State.postArrives_room hq]
    exact congrArg _ (State.modThread_setThread ..)
  next hq => exact execMailboxPostDelivery_full hh (Nat.not_lt.mp hq)

/-- R129: a post that a reset discarded ends with a free predicate. -/
theorem execMailboxPostDelivery_lost (hh : (s.thread h).hold = some (.msend k v pd true)) :
    execMailboxPostDelivery h s = .next (s.draw.2.modThread h fun t => (t.writeP pd (decide (s.draw.1 % 2 = 1))).next) := by
  simp only [execMailboxPostDelivery, hh, if_true]

end

/-! ### WAIT -/

theorem State.waitBits_eq_zero {s : State} {h : Nat} :
    s.waitBits h false = 0 ↔ (s.thread h).mailbox = [] ∧ s.anyAsync h = false := by
  unfold State.waitBits
  by_cases hm : (s.thread h).mailbox = [] <;> cases s.anyAsync h <;> simp [hm]

theorem State.waitBits_ne_zero {s : State} {h : Nat} (hw : (s.thread h).mailbox ≠ [] ∨ s.anyAsync h = true) :
    s.waitBits h false ≠ 0 := fun e => by
  obtain ⟨hm, ha⟩ := State.waitBits_eq_zero.mp e
  rcases hw with hw | hw
  · exact hw hm
  · rw [ha] at hw
    cases hw

section

variable {s : State} {h : Tid} {gd gs1 : Reg5}

/-- A WAIT that is not of the form of R327. -/
theorem wait_not_exit {t : Thread} {r : Reg5} (hx : ¬(t.ring = 0 ∧ r.val = 0 ∧ t.gmask = true)) :
    (decide (t.ring = 0) && decide (r.val = 0) && t.gmask) = false :=
  Bool.eq_false_iff.mpr (by simpa [and_assoc] using hx)

theorem execWait_retires (hs : s.ready h = true)
    (hx : ¬((s.thread h).ring = 0 ∧ gs1.val = 0 ∧ (s.thread h).gmask = true)) (hw : s.waitBits h false ≠ 0) :
    execWait h gd gs1 s = .next (s.waitRetires h gd false) := by
  rw [execWait, State.instr_ready hs]
  simp only [wait_not_exit hx, hw, ne_eq, not_false_eq_true, decide_true, Bool.not_false, Bool.and_self, if_true]

theorem execWait_waits (hs : s.ready h = true)
    (hx : ¬((s.thread h).ring = 0 ∧ gs1.val = 0 ∧ (s.thread h).gmask = true)) (hw : s.waitBits h false = 0) :
    execWait h gd gs1 s = .next (s.setThread h { s.thread h with
      mode := .waiting, hold := some (.wait gd ((s.thread h).readG gs1 ≠ 0) false), exited := false }) := by
  rw [execWait, State.instr_ready hs]
  simp only [wait_not_exit hx, hw, ne_eq, not_true_eq_false, decide_false, Bool.and_false, Bool.false_eq_true, if_false]

/-- R327: the form in which the thread exits. -/
theorem execWait_exits (hs : s.ready h = true) (hr : (s.thread h).ring = 0) (hg : gs1.val = 0)
    (hm : (s.thread h).gmask = true) : execWait h gd gs1 s = .next ((s.setThread h { s.thread h with
      mode := .waiting, hold := some (.wait gd ((s.thread h).readG gs1 ≠ 0) false), exited := true }).raiseAsync h
        cStopReq) := by
  rw [execWait, State.instr_ready hs]
  simp only [hr, hg, hm, decide_true, Bool.and_self, Bool.not_true, Bool.false_and, Bool.false_eq_true, if_false, if_true]

theorem execWaitWake_wakes {timed expired : Bool} (hh : (s.thread h).hold = some (.wait gd timed expired))
    (hc : s.coreRuns (coreOf h) = true) (hw : s.waitBits h expired ≠ 0) :
    execWaitWake h s = .next (s.waitRetires h gd expired) := by
  simp only [execWaitWake, hh, hc, hw, ne_eq, not_false_eq_true, decide_true, Bool.and_self, if_true]

end

/-- What WAIT leaves where its timeout has not passed. -/
theorem State.waitRetires_false (s : State) (h : Nat) (gd : Reg5) : s.waitRetires h gd false = s.setThread h
    { ((s.thread h).writeG gd (BitVec.ofNat 64 ((if (s.thread h).mailbox = [] then 0 else 1) +
      if s.anyAsync h then 2 else 0))).next with mode := .running } := by
  simp only [State.waitRetires, State.waitBits, Bool.false_eq_true, if_false, Nat.add_zero, State.modThread]

/-- Settles O16: the mailbox by where a post arrives, WAIT by its wake bits. -/
theorem mailboxAndWaitResults : Obligations.MailboxAndWaitResults := by
  unfold Obligations.MailboxAndWaitResults
  intro s h gd gs1 gs2 pd t dst
  refine ⟨ranAs_of_scalar (fun s => exec_nop ..) fun t => rfl, fun hs hd => ?refused, fun hs hd hl => ?sent,
    fun k v hh hk => ⟨fun hq => execMailboxPostDelivery_room hh hk hq, fun hq => execMailboxPostDelivery_full hh hq⟩,
    fun v hh => execMailboxPostDelivery_self hh, fun k v hh => ?lost, fun m r hm hs => ?receives, fun hm hs => ?empty,
    fun hs hx => ⟨fun hm ha => execWait_waits hs hx (State.waitBits_eq_zero.mpr ⟨hm, ha⟩), fun hw => ?retires⟩,
    fun hs hr hg hm => ?exits, fun timed hh hc hw => ?wakes, fun x hh => ?timeout, fun timed hh hc hm ha => ?expires⟩
  case refused =>
    rw [exec_msend, execMsend, State.instr_ready hs]
    exact congrArg _ (if_pos (by simpa using hd))
  case sent =>
    rw [exec_msend, execMsend, State.instr_ready hs]
    exact congrArg _ (if_neg (by simpa using ⟨hd, hl⟩))
  case lost =>
    exact ⟨_, execMailboxPostDelivery_lost hh, fun j hj => State.thread_modThread_ne _ (Fin.val_ne_of_ne hj) _,
      _, State.thread_modThread_self ..⟩
  case receives =>
    have hm' : (s.thread h).mailbox = m :: r := hm
    rw [exec_mrecv, execMrecv, State.scalar_ready hs, hm']
  case empty =>
    have hm' : (s.thread h).mailbox = [] := hm
    rw [exec_mrecv, execMrecv, State.scalar_ready hs, hm']
  case retires => exact (execWait_retires hs hx (State.waitBits_ne_zero hw)).trans (congrArg _ (s.waitRetires_false h gd))
  case exits =>
    have hthread : ∀ (u : State) (j : Nat), (u.raiseAsync h cStopReq).thread j = u.thread j := fun _ _ => rfl
    refine ⟨_, execWait_exits hs hr hg hm, ?_, ?_, ?_, fun j hj => ?_⟩
    · rw [hthread, State.thread_setThread_self]
    · rw [hthread, State.thread_setThread_self]
    · rw [hthread, State.thread_setThread_self]
    · rw [hthread, State.thread_setThread_ne _ (Fin.val_ne_of_ne hj)]
  case wakes =>
    exact (execWaitWake_wakes hh hc (State.waitBits_ne_zero hw)).trans (congrArg _ (s.waitRetires_false h gd))
  case timeout =>
    have hh' : (s.thread h).hold = some (.wait gd true x) := hh
    rw [exec_waitTimeout, execWaitTimeout, hh']
    rfl
  case expires =>
    have hbits : s.waitBits h true = 4 := by
      have hm' : (s.thread h).mailbox = [] := hm
      simp [State.waitBits, hm', ha]
    refine (execWaitWake_wakes hh hc (by simp [hbits])).trans (congrArg _ ?_)
    simp only [State.waitRetires, hbits]
    rfl

end Sys2Proof.Machine
end

section
/-! PROOF. GATE, XRET, DRET, BRK, and the delivery and cancelling of events (R105 to R107, R162, R163, R171, R178, R535). -/

namespace Sys2Proof.Machine

/-! ### Images of words -/

theorem pcOf_eq (v : Nat) : pcOf v = BitVec.ofNat 64 v &&& ~~~3 := rfl

/-- CAUSE of a GATE: the calling ring and the entry's number. -/
theorem causeImage_gate (r n : Nat) : causeImage r 0 false n 0 = BitVec.ofNat 64 (r * 2 ^ 28 + n * 256) := by
  simp [causeImage]

/-- CAUSE of a double fault: the ring it was raised in and its code. -/
theorem causeImage_double (r c : Nat) : causeImage r 0 false 0 c = BitVec.ofNat 64 (r * 2 ^ 28 + c) := by
  simp [causeImage]

/-! ### XSP of a ring -/

@[simp] theorem Thread.xspOf_setXsp_self (t : Thread) (d : Nat) (v : Word) : (t.setXsp d v).xspOf d = v := by
  simp [Thread.xspOf, Thread.setXsp]

/-! ### GATE -/

theorem State.gateFault_thread (s : State) (h n : Nat) (entry : Word) (k : Nat) : (s.gateFault h n entry).thread k =
    if k = h then { s.thread h with raised := some { code := 0x09, epc := (s.thread h).pc, eaddr := entry, info := n } }
    else s.thread k := by
  split
  next hk => rw [hk]; exact State.thread_modThread_self ..
  next hk => exact State.thread_modThread_ne _ hk _

/-- Steps 3 and 4 of R106 as the contexts see them. -/
theorem State.gateTaken_thread {s b : State} {h d target n : Nat} {push : MemRes} {sp : Word}
    (hp : s.pushFrame h d ((s.thread h).frame ((s.thread h).pc + 4) (causeImage (s.thread h).ring 0 false n 0) 0) push =
      (some sp, b)) (k : Nat) : (s.gateTaken h d target n push).thread k =
    if k = h then { ((s.thread h).setXsp d sp).retired (BitVec.ofNat 64 target) with ring := d } else s.thread k := by
  have hb : ∀ j, b.thread j = s.thread j := State.pushFrame_thread hp
  simp only [State.gateTaken, hp, State.trRescan_thread, State.trExcept_thread]
  split
  next hk => rw [hk, State.thread_modThread_self, hb]
  next hk => rw [State.thread_modThread_ne _ hk, hb]

/-- A push that faults. -/
theorem State.gateTaken_pushFails {s b : State} {h d target n : Nat} {push : MemRes}
    (hp : s.pushFrame h d ((s.thread h).frame ((s.thread h).pc + 4) (causeImage (s.thread h).ring 0 false n 0) 0) push =
      (none, b)) : s.gateTaken h d target n push =
    b.doubleFault h 0x0D (causeImage (s.thread h).ring 0 false n 0) ((s.thread h).pc + 4) 0 ((s.thread h).xspOf d - 64) := by
  simp only [State.gateTaken, hp]
  rfl

section

variable {s : State} {h : Tid} (hs : s.ready h = true) {n : BitVec 8} {res push : MemRes}
include hs

theorem execGate_third (hd : (s.thread h).dfa = true) : execGate h n res push s = .next (s.setThread h { s.thread h with
    raised := some { code := 0, epc := (s.thread h).pc + 4, eaddr := 0, info := n.toNat } }) := by
  rw [execGate, State.instr_ready hs]
  exact congrArg _ (if_pos hd)

variable (hd : (s.thread h).dfa = false)
include hd

theorem execGate_beyond (hn : (s.thread h).gatecnt ≤ n.toNat) : execGate h n res push s =
    .next (s.gateFault h n.toNat ((s.thread h).gatebase + BitVec.ofNat 64 (16 * n.toNat))) := by
  rw [execGate, State.instr_ready hs]
  simp only [hd, Bool.false_eq_true, if_false, hn, decide_true, Bool.true_or, if_true]

variable (hn : n.toNat < (s.thread h).gatecnt) (hc : canonical (s.thread h).gatebase = true)
  (hw : s.walkWaits h 0 ((s.thread h).gatebase + BitVec.ofNat 64 (16 * n.toNat)) .load = false)
include hn hc hw

/-- An entry that cannot be read. -/
theorem execGate_unread {a : State}
    (hg : s.gateEntry h ((s.thread h).gatebase + BitVec.ofNat 64 (16 * n.toNat)) res = (none, a)) : execGate h n res push s =
    .next (a.gateFault h n.toNat ((s.thread h).gatebase + BitVec.ofNat 64 (16 * n.toNat))) := by
  rw [execGate, State.instr_ready hs]
  simp only [hd, hc, hw, hg, Nat.not_le.mpr hn, decide_false, Bool.not_true, Bool.or_self, Bool.false_eq_true, if_false]

variable {a : State} {target flags : Nat}
  (hg : s.gateEntry h ((s.thread h).gatebase + BitVec.ofNat 64 (16 * n.toNat)) res = (some (target, flags), a))
include hg

/-- An entry that the ring may not call. -/
theorem execGate_refused (ho : gateOk target flags (s.thread h).ring = false) : execGate h n res push s =
    .next (a.gateFault h n.toNat ((s.thread h).gatebase + BitVec.ofNat 64 (16 * n.toNat))) := by
  rw [execGate, State.instr_ready hs]
  simp only [hd, hc, hw, hg, ho, Nat.not_le.mpr hn, decide_false, Bool.not_true, Bool.or_self, Bool.false_eq_true, if_false,
    Bool.not_false, if_true]

theorem execGate_taken (ho : gateOk target flags (s.thread h).ring = true) (hst : s.on GLN_TRC_CTL.STALL 0 = false)
    (hp : a.walkWaits h (flags % 4) ((s.thread h).xspOf (flags % 4) - 64) .store = false) : execGate h n res push s =
    .next (a.gateTaken h (flags % 4) target n.toNat push) := by
  rw [execGate, State.instr_ready hs]
  simp only [hd, hc, hw, hg, ho, hp, Nat.not_le.mpr hn, decide_false, Bool.not_true, Bool.or_self, Bool.false_eq_true,
    if_false, State.trRetire_of_noStall hst]

end

/-! ### XRET and DRET -/

section

variable {s : State} {h : Tid} (hs : s.ready h = true) {res : MemRes}
include hs

theorem execXret_dfa (hd : (s.thread h).dfa = true) :
    execXret h res s = .next (s.fault h 0x03 (wordX 0 0 0 0 0x03)) := by
  rw [execXret, State.instr_ready hs]
  exact congrArg _ (if_pos hd)

variable (hd : (s.thread h).dfa = false)
  (hw : s.walkWaits h (s.thread h).ring ((s.thread h).xspOf (s.thread h).ring) .load = false)
include hd hw

theorem execXret_unreadable {a : State} {code : Nat} (hf : s.readFrame h res = (.inl code, a)) : execXret h res s =
    .next (a.doubleFault h 0x0F (causeImage (s.thread h).ring (levelOf code) false 0 code) (s.thread h).pc
      ((s.thread h).xspOf (s.thread h).ring) 0) := by
  rw [execXret, State.instr_ready hs]
  simp only [hd, hw, hf, Bool.false_eq_true, if_false]
  rfl

variable {a : State} {b : List Byte} (hf : s.readFrame h res = (.inr b, a))
include hf

theorem execXret_inward (hr : wordAt b 8 % 4 < (s.thread h).ring) :
    execXret h res s = .next (a.fault h 0x04 (wordX 0 0 0 0 0x03)) := by
  rw [execXret, State.instr_ready hs]
  simp only [hd, hw, hf, Bool.false_eq_true, if_false, hr, if_true]
  rfl

theorem execXret_restores (hst : s.on GLN_TRC_CTL.STALL 0 = false) (hr : ¬wordAt b 8 % 4 < (s.thread h).ring) :
    execXret h res s =
      .next (((a.trTarget h (pcOf (wordAt b 0))).modThread h fun t => t.xretRestore b).trRescan h) := by
  rw [execXret, State.instr_ready hs]
  simp only [hd, hw, hf, Bool.false_eq_true, if_false, hr, State.trRetire_of_noStall hst]

end

theorem execDret_restores {s : State} {h : Tid} (hs : s.ready h = true) (hst : s.on GLN_TRC_CTL.STALL 0 = false)
    (hd : (s.thread h).dfa = true) (hr : (s.thread h).ring = 0) : execDret h s =
    .next (((s.trTarget h (pcOf (wordAt (s.dfRead h) 0x10))).modThread h fun t => t.dretRestore (s.dfRead h)).trRescan h) := by
  rw [execDret, State.instr_ready hs]
  simp only [hd, hr, Bool.not_true, Bool.false_eq_true, if_false, ne_eq, not_true_eq_false, State.trRetire_of_noStall hst]

theorem execBrk_halts {s : State} {h : Tid} (hs : s.ready h = true)
    (hg : s.bitF GLN_DBGEN.CORES (coreOf h / 32) (coreOf h % 32) = true) : execBrk h s =
    .next ((s.trHalt h 0).modThread h fun t => { t with mode := .halted, stepping := false }) := by
  rw [execBrk, State.instr_ready hs]
  exact congrArg _ (if_pos hg)

/-- A return restores the contexts: the thread's own, and no other. -/
theorem State.restore_thread (s : State) (h : Nat) (pc : Word) (f : Thread → Thread) (k : Nat) :
    (((s.trTarget h pc).modThread h f).trRescan h).thread k = if k = h then f (s.thread h) else s.thread k := by
  rw [State.trRescan_thread]
  split
  next hk => rw [hk, State.thread_modThread_self, State.trTarget_thread]
  next hk => rw [State.thread_modThread_ne _ hk, State.trTarget_thread]

/-- What XRET leaves in the registers it names. -/
theorem Thread.xretRestore_reads (t : Thread) (b : List Byte) :
    (t.xretRestore b).readG 30 = BitVec.ofNat 64 (wordAt b 32) ∧ (t.xretRestore b).readG 31 = BitVec.ofNat 64 (wordAt b 40) ∧
      (t.xretRestore b).xspOf t.ring = t.xspOf t.ring + 64 :=
  ⟨by
    change ((t.writeG 30 _).writeG 31 _).readG 30 = _
    rw [Thread.readG_writeG, if_neg (by decide), if_neg (by decide), Thread.readG_writeG, if_neg (by decide), if_pos rfl],
  by
    change ((t.writeG 30 _).writeG 31 _).readG 31 = _
    rw [Thread.readG_writeG, if_neg (by decide), if_pos rfl],
  Thread.xspOf_setXsp_self ..⟩

/-! ### Events -/

/-- Clearing the bits written 1 of a four-bit field. -/
theorem sub_and_mod_sixteen (v : Nat) (m : BitVec 4) : (v - (v &&& m.toNat)) % 16 = v &&& (15 - m.toNat) := by
  have hm : m.toNat < 16 := m.isLt
  have hlow : ∀ k < 16, v &&& k = v % 16 &&& k := fun k hk => by
    rw [← Nat.mod_eq_of_lt (a := v &&& k) (b := 2 ^ 4) (Nat.and_lt_two_pow v hk), Nat.and_mod_two_pow,
      Nat.mod_eq_of_lt (a := k) (b := 2 ^ 4) hk]
  have hr : v % 16 < 16 := Nat.mod_lt _ (by decide)
  have hsmall : ∀ r < 16, ∀ k < 16, r - (r &&& k) = r &&& (15 - k) ∧ r &&& k ≤ r := by decide
  obtain ⟨hand, hle⟩ := hsmall _ hr _ hm
  rw [hlow _ hm, hlow _ (by omega), ← hand]
  omega

/-- An asynchronous event is no longer pending. -/
def State.clearAsync (s : State) (h code : Nat) : State :=
  if code = 0x0C then s.setOn FUR_XPEND.LSE h false else s.setBitF FUR_XPEND.SRC h (code - 0x40) false

theorem State.clearAsync_thread (s : State) (h code k : Nat) : (s.clearAsync h code).thread k = s.thread k := by
  unfold State.clearAsync
  split <;> rfl

/-- Another bit of a field. -/
theorem State.bitF_setBitF_ne (s : State) {F : Fld} {i k j : Nat} (hj : j < F.width) (hne : j ≠ k) (b : Bool) :
    (s.setBitF F i k b).bitF F i j = s.bitF F i j := by
  rw [State.bitF, State.setBitF, State.f_setF_self, Nat.testBit_mod_two_pow, decide_eq_true hj, Bool.true_and,
    setBit_testBit_ne hne]
  rfl

theorem State.asyncPending_clearAsync_self (s : State) (h : Nat) {code : Nat}
    (hc : code ∈ [0x0C, 0x40, 0x41, 0x42, 0x43]) : (s.clearAsync h code).asyncPending h code = false := by
  by_cases hl : code = 0x0C
  · rw [State.asyncPending, State.clearAsync, if_pos hl, if_pos hl, State.on_setOn_self _ rfl]
  · have hbit : code - 0x40 < FUR_XPEND.SRC.width := by
      simp only [List.mem_cons, List.not_mem_nil, or_false] at hc
      change code - 0x40 < 4
      omega
    rw [State.asyncPending, State.clearAsync, if_neg hl, if_neg hl, State.bitF_setBitF_self _ hbit]

theorem State.asyncPending_clearAsync_ne (s : State) (h : Nat) {code c : Nat}
    (hc : code ∈ [0x0C, 0x40, 0x41, 0x42, 0x43]) (hc' : c ∈ [0x0C, 0x40, 0x41, 0x42, 0x43]) (hne : c ≠ code) :
    (s.clearAsync h code).asyncPending h c = s.asyncPending h c := by
  have hkey : FUR_XPEND.SRC.key h ≠ FUR_XPEND.LSE.key h := by simp only [Fld.key, FUR_XPEND.SRC, FUR_XPEND.LSE]; omega
  simp only [List.mem_cons, List.not_mem_nil, or_false] at hc hc'
  unfold State.asyncPending State.clearAsync
  by_cases hl : code = 0x0C <;> by_cases hl' : c = 0x0C
  · exact absurd (hl'.trans hl.symm) hne
  · rw [if_neg hl', if_neg hl', if_pos hl, State.bitF, State.setOn, State.f_setF_ne _ hkey]
    rfl
  · rw [if_pos hl', if_pos hl', if_neg hl, State.on, State.setBitF, State.f_setF_ne _ hkey.symm]
    rfl
  · have hbit : c - 0x40 < FUR_XPEND.SRC.width := by
      change c - 0x40 < 4
      omega
    rw [if_neg hl', if_neg hl', if_neg hl, State.bitF_setBitF_ne _ hbit (by omega)]

/-- The event that is due is one of Table 7-1's asynchronous ones. -/
theorem State.asyncDue_code {s : State} {h code lvl : Nat} (hd : s.asyncDue h = some (code, lvl)) :
    code ∈ [0x0C, 0x40, 0x41, 0x42, 0x43] := by
  unfold State.asyncDue at hd
  dsimp only at hd
  split at hd
  · cases hd
  · exact List.mem_map_of_mem (f := Prod.fst) (List.mem_of_find?_eq_some hd)

section

variable {s : State} {h : Tid} (hc : s.coreRuns (coreOf h) = true) (hm : (s.thread h).mode = .running)
  (hr : (s.thread h).raised = none) (hq : (s.thread h).haltReq = false) (hx : (s.thread h).exited = false)
  (hh : (s.thread h).hold = none)
include hc hm hr hq hx hh

theorem execEventDelivery_none (hd : s.asyncDue h = none) : execEventDelivery h s = .next s := by
  simp only [execEventDelivery, hc, hm, hr, hq, hx, hh, hd, ne_eq, not_true_eq_false, decide_false, Option.isSome_none,
    Bool.not_true, Bool.or_self, Bool.false_eq_true, if_false]

theorem execEventDelivery_due {code lvl : Nat} (hd : s.asyncDue h = some (code, lvl)) : execEventDelivery h s =
    .next ((s.clearAsync h code).modThread h fun t =>
      { t with hold := none, raised := some { code := code, epc := t.pc, eaddr := 0 } }) := by
  simp only [execEventDelivery, hc, hm, hr, hq, hx, hh, hd, ne_eq, not_true_eq_false, decide_false, Option.isSome_none,
    Bool.not_true, Bool.or_self, Bool.false_eq_true, if_false]
  rfl

end

theorem execXpendCancel_cancels {s : State} {agent : Agent} {h : Tid} {mask : BitVec 4} (ha : s.acts agent = true)
    (hr : reaches agent = true) : execXpendCancel agent h mask s =
    .next (s.setF FUR_XPEND.SRC h (s.f FUR_XPEND.SRC h - (s.f FUR_XPEND.SRC h &&& mask.toNat))) := by
  rw [execXpendCancel, ha, hr]
  rfl

/-- Settles O19: GATE and XRET by what the entry and the frame bring, each with what the contexts are after it. -/
theorem returnGateAndBreakResults : Obligations.ReturnGateAndBreakResults := by
  unfold Obligations.ReturnGateAndBreakResults
  intro s h n agent mask res push t entry img dbg r64
  refine ⟨fun hs hd hn => ?beyond, fun hs hst hd hn hc hw => ?gate, fun hs hst hd hw => ?xret,
    fun hs hd => ⟨execXret_dfa hs hd, execGate_third hs hd⟩, fun hs hd hr => ?dretRing, fun hs hd => ?dretIdle,
    fun hs hst hd hr => ?dret, fun hs hg => ?brk, fun hs hg => ?brkIllegal, fun hc hm hr hq hx hh => ?event,
    fun ha hr => ?cancel⟩
  case beyond => exact execGate_beyond hs hd hn
  case gate =>
    split
    next a hg =>
      refine ⟨_, execGate_unread hs hd hn hc hw hg, fun k hk => ?_, ?_⟩
      · rw [State.gateFault_thread, if_neg hk, State.gateEntry_thread hg]
      · rw [State.gateFault_thread, if_pos rfl, State.gateEntry_thread hg]
    next target flags a hg =>
      have ha : ∀ k, a.thread k = s.thread k := State.gateEntry_thread hg
      split
      next ho =>
        intro hp
        refine ⟨_, execGate_taken hs hd hn hc hw hg ho hst hp, ?_⟩
        have himg : img = causeImage (a.thread h).ring 0 false n.toNat 0 := by rw [ha, causeImage_gate]
        rw [himg, ← show a.thread h = t from ha h]
        split
        next sp b hpush =>
          refine ⟨fun k hk => by rw [State.gateTaken_thread hpush, if_neg hk, ha], ?_⟩
          rw [State.gateTaken_thread hpush, if_pos rfl, ha]
          exact ⟨rfl, rfl, Thread.xspOf_setXsp_self .., rfl, rfl, hd, rfl⟩
        next b hpush =>
          have hb : ∀ k, b.thread k = s.thread k := fun k => (State.pushFrame_thread hpush k).trans (ha k)
          rw [State.gateTaken_pushFails hpush]
          refine ⟨fun k hk => by rw [State.doubleFault_thread, if_neg hk, hb], ?_⟩
          rw [State.doubleFault_thread, if_pos rfl, hb, ha]
          exact ⟨rfl, rfl, rfl, rfl, rfl, causeImage_double ..⟩
      next ho =>
        refine ⟨_, execGate_refused hs hd hn hc hw hg (Bool.eq_false_iff.mpr ho), fun k hk => ?_, ?_⟩
        · rw [State.gateFault_thread, if_neg hk, ha]
        · rw [State.gateFault_thread, if_pos rfl, ha]
  case xret =>
    split
    next code a hf =>
      have ha : ∀ k, a.thread k = s.thread k := State.readFrame_thread hf
      refine ⟨_, execXret_unreadable hs hd hw hf, fun k hk => by rw [State.doubleFault_thread, if_neg hk, ha], ?_⟩
      rw [State.doubleFault_thread, if_pos rfl, ha]
      exact ⟨rfl, rfl, rfl, rfl, causeImage_double ..⟩
    next b a hf =>
      have ha : ∀ k, a.thread k = s.thread k := State.readFrame_thread hf
      by_cases hr : wordAt b 8 % 4 < t.ring
      · refine ⟨_, execXret_inward hs hd hw hf hr, fun k hk => (State.thread_modThread_ne _ hk _).trans (ha k), ?_⟩
        change if wordAt b 8 % 4 < t.ring then _ else _
        rw [if_pos hr, State.fault, State.thread_modThread_self, ha]
        rfl
      · refine ⟨_, execXret_restores hs hd hw hf hst hr, fun k hk => ?_, ?_⟩
        · rw [State.restore_thread, if_neg hk, ha]
        · change if wordAt b 8 % 4 < t.ring then _ else _
          rw [if_neg hr, State.restore_thread, if_pos rfl, ha]
          obtain ⟨h30, h31, hxsp⟩ := t.xretRestore_reads b
          exact ⟨pcOf_eq _, rfl, h30, h31, hxsp, rfl, rfl⟩
  case dretRing =>
    rw [exec_dret, execDret, State.instr_ready hs, hd]
    exact congrArg _ (if_pos hr)
  case dretIdle =>
    rw [exec_dret, execDret, State.instr_ready hs, hd]
    rfl
  case dret =>
    refine ⟨_, execDret_restores hs hst hd hr, ?_⟩
    dsimp only
    rw [State.restore_thread, if_pos rfl]
    exact ⟨pcOf_eq _, rfl, rfl, rfl, Thread.xspOf_setXsp_self .., rfl, fun k hk => by rw [State.restore_thread, if_neg hk]⟩
  case brk =>
    refine ⟨_, execBrk_halts hs hg, ?_, fun k hk => ?_⟩
    · rw [State.thread_modThread_self, State.trHalt_thread]
    · rw [State.thread_modThread_ne _ hk, State.trHalt_thread]
  case brkIllegal =>
    rw [exec_brk, execBrk, State.instr_ready hs]
    exact congrArg _ (if_neg (Bool.eq_false_iff.mp hg))
  case event =>
    split
    next hdue => exact execEventDelivery_none hc hm hr hq hx hh hdue
    next code lvl hdue =>
      have hcode := State.asyncDue_code hdue
      refine ⟨_, execEventDelivery_due hc hm hr hq hx hh hdue, ?_, s.asyncPending_clearAsync_self h hcode,
        fun c hc' hne => s.asyncPending_clearAsync_ne h hcode hc' hne, fun k hk => ?_⟩
      · rw [State.thread_modThread_self, State.clearAsync_thread, ← hh]
      · rw [State.thread_modThread_ne _ hk, State.clearAsync_thread]
  case cancel =>
    refine ⟨_, execXpendCancel_cancels ha hr, ?_, rfl⟩
    exact (State.f_setF_self ..).trans (sub_and_mod_sixteen _ mask)

end Sys2Proof.Machine
end

section
/-! PROOF. Scalar floating point: arithmetic, and minimum, signs, conversions, moves, classes and compares (R122, R123, R261 to
R271, Table 5-10). -/

namespace Sys2Proof.Machine

/-! ### Instructions with a rounding code -/

/-- R122: RM 6 is illegal. -/
theorem State.fpInstr_stoch {s : State} {h : Tid} {rm : RMode} (hs : s.ready h = true) (hrm : rm = .stoch) (word : Word)
    (f : Thread → Thread) : s.fpInstr h rm word f = .next (s.fault h 0x03 word) := by
  rw [State.fpInstr, State.instr_ready hs]
  exact congrArg _ (if_pos hrm)

theorem ranAs_of_fpInstr {i : Instr} {h : Tid} {rm : RMode} {word : Word} {f g : Thread → Thread} (hrm : rm ≠ .stoch)
    (e : ∀ s, exec i s = s.fpInstr h rm word f) (hf : ∀ t, f t = g t) : ranAs i h g := fun s hs => by
  rw [e, State.fpInstr, State.instr_ready hs, if_neg hrm, hf]

/-- An operation on encodings. -/
theorem ranAs_of_fpBits {i : Instr} {h : Tid} {fmt : FFmt} {rm : RMode} {fn : Nat} {fd a b : Reg5}
    {op : FpFmt → Nat → Nat → Nat × Nat} {v : Thread → Nat × Nat} (hrm : rm ≠ .stoch)
    (e : ∀ s, exec i s = s.fpBits h fmt rm fn fd a b op)
    (hv : ∀ t : Thread, op fmt.fmt (fmt.bits (t.readF a)) (fmt.bits (t.readF b)) = v t) :
    ranAs i h fun t => t.fpResult fd (v t) :=
  ranAs_of_fpInstr hrm e fun t => congrArg (t.fpResult fd) (hv t)

theorem State.fpBits_stoch {s : State} {h : Tid} {rm : RMode} (hs : s.ready h = true) (hrm : rm = .stoch) (fmt : FFmt)
    (fn : Nat) (fd a b : Reg5) (op : FpFmt → Nat → Nat → Nat × Nat) :
    s.fpBits h fmt rm fn fd a b op = .next (s.fault h 0x03 (wordF fmt rm fn fd a b)) :=
  State.fpInstr_stoch hs hrm _ _

/-! ### NaN operands (R264) -/

theorem FpVal.nv_eq (v : FpVal) : v.nv = if v = .nan true then 16 else 0 := by
  cases v with
  | nan sig => cases sig <;> rfl
  | inf n => rfl
  | fin n m e => rfl

/-- NV where an operand signals. -/
theorem FpVal.flagsOr_nv (v w : FpVal) : flagsOr v.nv w.nv = if v = .nan true ∨ w = .nan true then 16 else 0 := by
  rw [flagsOr, FpVal.nv_eq, FpVal.nv_eq]
  by_cases hv : v = .nan true <;> by_cases hw : w = .nan true <;> simp [hv, hw]

/-- The product of a NaN is a NaN, which signals where an operand does. -/
theorem FpVal.mul_nan {v w : FpVal} (h : v.isNan = true ∨ w.isNan = true) :
    ∃ sig : Bool, v.mul w = some (.nan sig) ∧ (sig = true ↔ v = .nan true ∨ w = .nan true) := by
  cases v with
  | nan a =>
    cases w with
    | nan b => exact ⟨a || b, rfl, by simp⟩
    | inf n => exact ⟨a, rfl, by simp⟩
    | fin n m e => exact ⟨a, rfl, by simp⟩
  | inf n =>
    cases w with
    | nan b => exact ⟨b, rfl, by simp⟩
    | inf k => simp [FpVal.isNan] at h
    | fin k m e => simp [FpVal.isNan] at h
  | fin n m e =>
    cases w with
    | nan b => exact ⟨b, rfl, by simp⟩
    | inf k => simp [FpVal.isNan] at h
    | fin k m e => simp [FpVal.isNan] at h

namespace FpFmt

variable (F : FpFmt) (r : Rnd) {v w : FpVal} (h : v.isNan = true ∨ w.isNan = true)
include h

theorem addVal_nan (ov : Ovf) : F.addVal r ov v w = (F.nan, flagsOr v.nv w.nv) := by
  cases v with
  | nan a => rfl
  | inf n =>
    cases w with
    | nan b => rfl
    | inf k => simp [FpVal.isNan] at h
    | fin k m e => simp [FpVal.isNan] at h
  | fin n m e =>
    cases w with
    | nan b => rfl
    | inf k => simp [FpVal.isNan] at h
    | fin k m e => simp [FpVal.isNan] at h

theorem divVal_nan : F.divVal r v w = (F.nan, flagsOr v.nv w.nv) := by
  cases v with
  | nan a => rfl
  | inf n =>
    cases w with
    | nan b => rfl
    | inf k => simp [FpVal.isNan] at h
    | fin k m e => simp [FpVal.isNan] at h
  | fin n m e =>
    cases w with
    | nan b => rfl
    | inf k => simp [FpVal.isNan] at h
    | fin k m e => simp [FpVal.isNan] at h

theorem mulVal_nan (ov : Ovf) : F.mulVal r ov v w = (F.nan, flagsOr v.nv w.nv) := by
  obtain ⟨sig, hmul, hsig⟩ := FpVal.mul_nan h
  rw [mulVal, hmul, FpVal.flagsOr_nv]
  exact congrArg (Prod.mk F.nan) (if_congr hsig rfl rfl)

end FpFmt

/-- Settles O29: each instruction is `State.fpInstr` with the operation of its row; the special values by the cases of the
operations. -/
theorem floatArithmeticResults : Obligations.FloatArithmeticResults := by
  unfold Obligations.FloatArithmeticResults
  intro h fmt rm fd a b c F x y z f ops
  have hops : ∀ o ∈ ops, ∀ s, exec o.1 s = s.fpInstr h rm o.2.2 fun t => f o.2.1 t := by
    intro o ho s
    simp only [ops, List.mem_cons, List.not_mem_nil, or_false] at ho
    rcases ho with rfl | rfl | rfl | rfl | rfl | rfl | rfl | rfl | rfl <;> rfl
  refine ⟨fun o ho => ⟨fun hrm => ranAs_of_fpInstr hrm (hops o ho) fun t => rfl, fun hrm s hs => ?_⟩,
    fun r v w => ⟨fun hnan o ho => ?nan, fun n m e hm => ?zeroDivisor, fun n e n' e' => rfl, fun n => ?infinities,
      fun m e hm => ?negativeRoot, fun n e => rfl⟩⟩
  · rw [hops o ho, State.fpInstr_stoch hs hrm]
  case nan =>
    rw [← FpVal.flagsOr_nv]
    simp only [List.mem_cons, List.not_mem_nil, or_false] at ho
    rcases ho with rfl | rfl | rfl
    · exact F.addVal_nan r hnan .ieee
    · exact F.mulVal_nan r hnan .ieee
    · exact F.divVal_nan r hnan
  case zeroDivisor =>
    refine (if_neg hm).trans ?_
    rw [Bool.xor_false]
    rfl
  case infinities => cases n <;> rfl
  case negativeRoot => exact if_neg hm

/-! ### Minimum and maximum, and signs -/

/-- R264: the flags do not depend on which operand is given. -/
theorem FpFmt.minmax_eq (F : FpFmt) (isMax : Bool) (a b : Nat) : F.minmax isMax a b =
    (if (F.unpack a).isNan && (F.unpack b).isNan then F.nan else if (F.unpack a).isNan then b
      else if (F.unpack b).isNan then a
      else if (if isMax then (F.unpack a).lt true (F.unpack b) else (F.unpack b).lt true (F.unpack a)) then b else a,
      (F.unpack a).nv ||| (F.unpack b).nv) := by
  unfold minmax
  dsimp only
  split
  · rfl
  · split
    · rfl
    · split <;> rfl

/-- The sign bit of an encoding: the upper half of the low `2 * signBit` values. -/
theorem FpFmt.isNeg_eq (F : FpFmt) (v : Nat) : F.isNeg v = decide (F.signBit ≤ v % (2 * F.signBit)) := by
  have hpos : 0 < F.signBit := Nat.two_pow_pos _
  have hlow : v % F.signBit < F.signBit := Nat.mod_lt _ hpos
  refine decide_eq_decide.mpr ?_
  rw [Nat.mul_comm 2, Nat.mod_mul]
  rcases Nat.mod_two_eq_zero_or_one (v / F.signBit) with hq | hq <;> rw [hq] <;> omega

/-- The flags of FCMP: LT and LE signal on any NaN, EQ and UN on a signalling one. -/
theorem fcmpVal_flags (c : FCond) (v w : FpVal) : (fcmpVal c v w).2 =
    if (if c = .lt ∨ c = .le then v.isNan || w.isNan else decide (v = .nan true ∨ w = .nan true)) = true then 16 else 0 := by
  cases c with
  | eq => simp [fcmpVal, FpVal.flagsOr_nv]
  | lt => rfl
  | le => rfl
  | un => simp [fcmpVal, FpVal.flagsOr_nv]

theorem fcmpVal_value (c : FCond) (v w : FpVal) : (fcmpVal c v w).1 =
    match c with
    | .eq => !(v.isNan || w.isNan) && v.eqv w
    | .lt => !(v.isNan || w.isNan) && v.lt false w
    | .le => !(v.isNan || w.isNan) && (v.lt false w || v.eqv w)
    | .un => v.isNan || w.isNan := by
  cases c <;> rfl

/-- Settles O30. -/
theorem floatMovesConversionsCompares : Obligations.FloatMovesConversionsCompares := by
  unfold Obligations.FloatMovesConversionsCompares
  intro h fmt src rm d a b w uns pd cond F x y mag pick neg f g
  refine ⟨fun hrm => ⟨?fmin, ?fmax⟩, fun hrm => ?fcopys, fun hrm => ?fcopyns, fun hrm => ?fxors, fun hrm => ?fcvtF,
    fun hw hd => ?narrower, fun hw s hs => ?notNarrower, fun hrm => ⟨?fcvtI, ?fcvtFi⟩, fun hrm s hs => ⟨fun i word hi => ?illegal,
    ?illegalI, ?illegalFi⟩, fun hrm => ?fmvGf, fun hrm => ?fmvFg, fun hrm => ?fclass, ?fcmp⟩
  case fmin => exact ranAs_of_fpBits (v := pick fun v w => w.lt true v) hrm (fun s => exec_fmin ..) fun t =>
      F.minmax_eq false ..
  case fmax => exact ranAs_of_fpBits (v := pick fun v w => v.lt true w) hrm (fun s => exec_fmax ..) fun t =>
      F.minmax_eq true ..
  case fcopys =>
    exact ranAs_of_fpBits (v := fun t => (F.sign (neg (y t)) (mag (x t)), 0)) hrm (fun s => exec_fcopys ..) fun t => by
      rw [FpFmt.isNeg_eq]
      rfl
  case fcopyns =>
    exact ranAs_of_fpBits (v := fun t => (F.sign (!neg (y t)) (mag (x t)), 0)) hrm (fun s => exec_fcopyns ..) fun t => by
      rw [FpFmt.isNeg_eq]
      rfl
  case fxors =>
    exact ranAs_of_fpBits (v := fun t => (F.sign (neg (x t) != neg (y t)) (mag (x t)), 0)) hrm (fun s => exec_fxors ..)
      fun t => by
        rw [FpFmt.isNeg_eq, FpFmt.isNeg_eq]
        rfl
  case fcvtF =>
    refine ranAs_of_instr (fun s => exec_fcvtF ..) fun t s => ?_
    simp only [hrm, decide_false, Bool.false_and, Bool.false_eq_true, if_false]
    rfl
  case narrower =>
    have hle : ¬src.fmt.width ≤ fmt.fmt.width := Nat.not_le.mpr hw
    refine ranAs_of_instr (fun s => exec_fcvtF ..) fun t s => ?_
    simp only [hd, hle, decide_false, Bool.or_self, Bool.and_false, Bool.false_eq_true, if_false, if_true]
    rfl
  case notNarrower =>
    rw [exec_fcvtF, execFcvtF, State.instr_ready hs]
    exact congrArg _ (if_pos (by simpa using hw.symm))
  case fcvtI => exact ranAs_of_fpInstr hrm (fun s => exec_fcvtI ..) fun t => rfl
  case fcvtFi => exact ranAs_of_fpInstr hrm (fun s => exec_fcvtFi ..) fun t => rfl
  case illegal =>
    simp only [List.mem_cons, List.not_mem_nil, or_false, Prod.mk.injEq] at hi
    rcases hi with ⟨rfl, rfl⟩ | ⟨rfl, rfl⟩ | ⟨rfl, rfl⟩ | ⟨rfl, rfl⟩ | ⟨rfl, rfl⟩ | ⟨rfl, rfl⟩ | ⟨rfl, rfl⟩ | ⟨rfl, rfl⟩
    · exact (exec_fmin ..).trans (State.fpBits_stoch hs hrm ..)
    · exact (exec_fmax ..).trans (State.fpBits_stoch hs hrm ..)
    · exact (exec_fcopys ..).trans (State.fpBits_stoch hs hrm ..)
    · exact (exec_fcopyns ..).trans (State.fpBits_stoch hs hrm ..)
    · exact (exec_fxors ..).trans (State.fpBits_stoch hs hrm ..)
    · exact (exec_fmvGf ..).trans (State.fpInstr_stoch hs hrm ..)
    · exact (exec_fmvFg ..).trans (State.fpInstr_stoch hs hrm ..)
    · exact (exec_fclass ..).trans (State.fpInstr_stoch hs hrm ..)
  case illegalI => exact (exec_fcvtI ..).trans (State.fpInstr_stoch hs hrm ..)
  case illegalFi => exact (exec_fcvtFi ..).trans (State.fpInstr_stoch hs hrm ..)
  case fmvGf => exact ranAs_of_fpInstr hrm (fun s => exec_fmvGf ..) fun t => rfl
  case fmvFg => exact ranAs_of_fpInstr hrm (fun s => exec_fmvFg ..) fun t => rfl
  case fclass =>
    refine ranAs_of_fpInstr hrm (fun s => exec_fclass ..) fun t => ?_
    dsimp only
    rw [FpFmt.isNeg_eq]
    rfl
  case fcmp =>
    refine ranAs_of_scalar (fun s => exec_fcmp ..) fun t => ?_
    dsimp only
    rw [fcmpVal_flags, fcmpVal_value]
    rfl

end Sys2Proof.Machine
end

section
/-! PROOF. Every tile instruction up to RT (R219 to R229, R244, Tables 9-1, 9-4 and 10-2). -/

namespace Sys2Proof.Machine

/-! ### The words of Tables 9-1 and 10-2 as their operands -/

theorem State.tile3_eq (s : State) (fn : TFn) (h : Tid) (g : Bool) (rows cols : BitVec 6) (fa fb fd : BitVec 4) (rnd : BitVec 2)
    (td ta tb : Fin 8) : s.tile3 fn h g rows cols fa fb fd rnd td ta tb = s.tileInstr h fun _ =>
      { fn := fn, g := g, rows := dim rows, cols := dim cols, fa := fa.toNat, fb := fb.toNat, fd := fd.toNat,
        rnd := rnd.toNat, td := td, ta := ta, tb := tb } := rfl

theorem State.tile2_eq (s : State) (fn : TFn) (h : Tid) (g : Bool) (rows cols : BitVec 6) (fa fd : BitVec 4) (rnd : BitVec 2)
    (td ta : Fin 8) (gs1 : Reg5) : s.tile2 fn h g rows cols fa fd rnd td ta gs1 = s.tileInstr h fun t =>
      { fn := fn, g := g, rows := dim rows, cols := dim cols, fa := fa.toNat, fd := fd.toNat, rnd := rnd.toNat,
        td := td, ta := ta, r1 := gs1, v1 := t.readG gs1 } := rfl

theorem State.tileExport_eq (s : State) (fn : TFn) (h : Tid) (g : Bool) (rows cols : BitVec 6) (fa fb : BitVec 4)
    (rnd : BitVec 2) (x : BitVec 4) (grp : Fin 16) (td ta : Fin 8) (gs1 : Reg5) :
    s.tileExport fn h g rows cols fa fb rnd x grp td ta gs1 = s.tileInstr h fun t =>
      { fn := fn, g := g, rows := dim rows, cols := dim cols, fa := fa.toNat, fb := fb.toNat, rnd := rnd.toNat,
        x := x.toNat, grp := grp, td := td, ta := ta, r1 := gs1, v1 := t.readG gs1 } := rfl

theorem State.tileGroup_eq (s : State) (fn : TFn) (h : Tid) (g : Bool) (rows cols : BitVec 6) (fa : BitVec 4) (grp : Fin 16)
    (gs1 : Reg5) : s.tileGroup fn h g rows cols fa grp gs1 = s.tileInstr h fun t =>
      { fn := fn, g := g, rows := dim rows, cols := dim cols, fa := fa.toNat, grp := grp, r1 := gs1, v1 := t.readG gs1 } := rfl

/-- The cause of a segment's fault. -/
theorem fault_of_read (b : Bool) : (if b then Access.load else .store).fault =
    if (if b then Access.load else .store) = .load then 0x05 else 0x06 := by
  cases b <;> rfl

/-! ### The checks of an instruction that reaches RT -/

section

variable {s : State} {h : Tid} (hs : s.ready h = true) {mk : Thread → TileIns}
include hs

theorem State.tileInstr_illegal (he : drillCore (coreOf h) = true ∨ (mk (s.thread h)).encOk = false) :
    s.tileInstr h mk = .next (s.fault h 0x03 (mk (s.thread h)).word) := by
  rw [State.tileInstr, State.instr_ready hs]
  exact congrArg _ (if_pos (by simpa using he))

variable (hd : drillCore (coreOf h) = false) (he : (mk (s.thread h)).encOk = true)
include hd he

theorem State.tileInstr_unshaped (hi : (mk (s.thread h)).shapeOk = false ∨ s.imageCheck h (mk (s.thread h)) = true) :
    s.tileInstr h mk = .next (s.fault h 0x0A (mk (s.thread h)).word) := by
  rw [State.tileInstr, State.instr_ready hs]
  exact congrArg _ ((if_neg (by simp [hd, he])).trans (if_pos (by simpa using hi)))

variable (hi : (mk (s.thread h)).shapeOk = true) (hc : s.imageCheck h (mk (s.thread h)) = false)
include hi hc

theorem State.tileInstr_misaligned {va : Word} (hm : (mk (s.thread h)).misaligned = some va) :
    s.tileInstr h mk = .next (s.fault h 0x07 va) := by
  rw [State.tileInstr, State.instr_ready hs]
  simp only [hd, he, hi, hc, hm, Bool.not_true, Bool.or_self, Bool.false_eq_true, if_false]
  rfl

variable (hm : (mk (s.thread h)).misaligned = none) {a : Access}
  (ha : (if (mk (s.thread h)).fn.isRead then .load else .store) = a)
include hm ha

theorem State.tileInstr_faults {va : Word}
    (hr : s.tResolve h a (mk (s.thread h)).fn.isImage (mk (s.thread h)).segs = .fault va) :
    s.tileInstr h mk = .next (s.fault h a.fault va) := by
  rw [State.tileInstr, State.instr_ready hs]
  simp only [hd, he, hi, hc, hm, ha, hr, Bool.not_true, Bool.or_self, Bool.false_eq_true, if_false]

theorem State.tileInstr_walks {va : Word}
    (hr : s.tResolve h a (mk (s.thread h)).fn.isImage (mk (s.thread h)).segs = .walk va) :
    s.tileInstr h mk = .next (s.startWalk h va va a 0 false) := by
  rw [State.tileInstr, State.instr_ready hs]
  simp only [hd, he, hi, hc, hm, ha, hr, Bool.not_true, Bool.or_self, Bool.false_eq_true, if_false]

theorem State.tileInstr_waits {l : List TSeg}
    (hr : s.tResolve h a (mk (s.thread h)).fn.isImage (mk (s.thread h)).segs = .segs l) :
    s.tileInstr h mk = .next (s.setHold h (some (.tile (mk (s.thread h)) l))) := by
  rw [State.tileInstr, State.instr_ready hs]
  simp only [hd, he, hi, hc, hm, ha, hr, Bool.not_true, Bool.or_self, Bool.false_eq_true, if_false]

end

/-- Settles O23: each instruction is `State.tileInstr` with the operands of its row. -/
theorem tileInstructionsReachTheUnit : Obligations.TileInstructionsReachTheUnit := by
  unfold Obligations.TileInstructionsReachTheUnit
  intro s h g ro co kk fa fb fd x rnd td ta tb grp gd gs1 gs2 hs t rows cols v1 v2 three two group i ins hi
  have hinstr : ∃ mk, exec i s = s.tileInstr h mk ∧ mk (s.thread h) = ins := by
    simp only [List.mem_cons, List.not_mem_nil, or_false, Prod.mk.injEq] at hi
    rcases hi with
      ⟨rfl, rfl⟩ | ⟨rfl, rfl⟩ | ⟨rfl, rfl⟩ | ⟨rfl, rfl⟩ | ⟨rfl, rfl⟩ | ⟨rfl, rfl⟩ | ⟨rfl, rfl⟩ | ⟨rfl, rfl⟩ |
      ⟨rfl, rfl⟩ | ⟨rfl, rfl⟩ | ⟨rfl, rfl⟩ | ⟨rfl, rfl⟩ | ⟨rfl, rfl⟩ | ⟨rfl, rfl⟩ | ⟨rfl, rfl⟩ | ⟨rfl, rfl⟩ |
      ⟨rfl, rfl⟩ | ⟨rfl, rfl⟩ | ⟨rfl, rfl⟩ | ⟨rfl, rfl⟩ | ⟨rfl, rfl⟩ | ⟨rfl, rfl⟩ | ⟨rfl, rfl⟩ | ⟨rfl, rfl⟩ |
      ⟨rfl, rfl⟩ | ⟨rfl, rfl⟩ | ⟨rfl, rfl⟩ | ⟨rfl, rfl⟩ | ⟨rfl, rfl⟩
    · exact ⟨_, exec_tld .., rfl⟩
    · exact ⟨_, exec_tst .., rfl⟩
    · exact ⟨_, (exec_tadd ..).trans (s.tile3_eq ..), rfl⟩
    · exact ⟨_, (exec_tsub ..).trans (s.tile3_eq ..), rfl⟩
    · exact ⟨_, (exec_tmul ..).trans (s.tile3_eq ..), rfl⟩
    · exact ⟨_, (exec_tmin ..).trans (s.tile3_eq ..), rfl⟩
    · exact ⟨_, (exec_tmax ..).trans (s.tile3_eq ..), rfl⟩
    · exact ⟨_, (exec_tand ..).trans (s.tile3_eq ..), rfl⟩
    · exact ⟨_, (exec_tor ..).trans (s.tile3_eq ..), rfl⟩
    · exact ⟨_, (exec_txor ..).trans (s.tile3_eq ..), rfl⟩
    · exact ⟨_, (exec_tmov ..).trans (s.tile2_eq ..), rfl⟩
    · exact ⟨_, (exec_tcvt ..).trans (s.tile2_eq ..), rfl⟩
    · exact ⟨_, (exec_tzero ..).trans (s.tile2_eq ..), rfl⟩
    · exact ⟨_, (exec_tfill ..).trans (s.tile2_eq ..), rfl⟩
    · exact ⟨_, (exec_tneg ..).trans (s.tile2_eq ..), rfl⟩
    · exact ⟨_, (exec_tabs ..).trans (s.tile2_eq ..), rfl⟩
    · exact ⟨_, (exec_tmuls ..).trans (s.tile2_eq ..), rfl⟩
    · exact ⟨_, (exec_tadds ..).trans (s.tile2_eq ..), rfl⟩
    · exact ⟨_, exec_tget .., rfl⟩
    · exact ⟨_, exec_tput .., rfl⟩
    · exact ⟨_, exec_tmmp .., rfl⟩
    · exact ⟨_, exec_tmma .., rfl⟩
    · exact ⟨_, (exec_texport ..).trans (s.tileExport_eq ..), rfl⟩
    · exact ⟨_, (exec_texportC ..).trans (s.tileExport_eq ..), rfl⟩
    · exact ⟨_, (exec_topen ..).trans (s.tileGroup_eq ..), rfl⟩
    · exact ⟨_, (exec_tclose ..).trans (s.tileGroup_eq ..), rfl⟩
    · exact ⟨_, (exec_tsave ..).trans (s.tileGroup_eq ..), rfl⟩
    · exact ⟨_, (exec_trestore ..).trans (s.tileGroup_eq ..), rfl⟩
    · exact ⟨_, (exec_tbind ..).trans (s.tileGroup_eq ..), rfl⟩
  obtain ⟨mk, hexec, rfl⟩ := hinstr
  intro shaped a
  have ha : (if (mk (s.thread h)).fn.isRead then Access.load else .store) = a := if_congr (by simp [TFn.isRead]) rfl rfl
  refine ⟨fun he => hexec.trans (State.tileInstr_illegal hs he), fun hd he => ⟨fun hsh => ?_, fun hsh => ?_⟩⟩
  · refine hexec.trans (State.tileInstr_unshaped hs hd he ?_)
    simpa [shaped, State.imageCheck, Bool.and_eq_false_imp, imp_iff_not_or] using hsh
  · obtain ⟨hok, hc⟩ : (mk (s.thread h)).shapeOk = true ∧ s.imageCheck h (mk (s.thread h)) = false := by
      simpa [shaped, State.imageCheck, imp_iff_not_or] using hsh
    split
    next va hm => exact hexec.trans (State.tileInstr_misaligned hs hd he hok hc hm)
    next hm =>
      split
      next va hr =>
        have hfault : a.fault = if a = .load then 0x05 else 0x06 := ha ▸ fault_of_read _
        exact hexec.trans ((State.tileInstr_faults hs hd he hok hc hm ha hr).trans (by rw [hfault]))
      next va hr => exact hexec.trans (State.tileInstr_walks hs hd he hok hc hm ha hr)
      next l hr => exact hexec.trans (State.tileInstr_waits hs hd he hok hc hm ha hr)

end Sys2Proof.Machine
end

section
/-! PROOF. Cache maintenance: CMO and PF, the L1 controls, the range engine, the open-entry timer and the scrubber (R126, R191
to R213, Table 8-2). -/

namespace Sys2Proof.Machine

/-! ### CMO -/

/-- The entries of a CMO's line are marked where it concerns one. -/
def State.markConcerned (s : State) (n : Nat) (l : Option Nat) : State :=
  match l with
  | some l => s.markLine n l
  | none => s

/-- What a CMO by `op` waits for is absent: entries of its line, a fill at the L1 port, a channel that holds its access. -/
structure State.CmoFree (s : State) (n : Nat) (target : CmoTarget) (l : Option Nat) : Prop where
  entries : ∀ x, l = some x → (s.core n).mbuf.any (fun e => e.line = x) = false
  port : target ≠ .fc → (s.core n).fill = none
  channel : target = .fc → ∀ x, l = some x → s.accessHeld (x * 64) = false

theorem State.markConcerned_core (s : State) (n : Nat) (l : Option Nat) : ∃ p,
    (s.markConcerned n l).core n = { s.core n with mbuf := markEntries p (s.core n).mbuf } := by
  cases l with
  | none => exact ⟨fun _ => false, by simp [State.markConcerned, markEntries]⟩
  | some l => exact ⟨_, s.markMb_core n _⟩

/-- Marks change no line. -/
theorem line_of_mem_markEntries {p : MbEntry → Bool} {es : List MbEntry} {e : MbEntry} (he : e ∈ markEntries p es) :
    ∃ x ∈ es, x.line = e.line := by
  obtain ⟨x, hx, rfl⟩ := List.mem_map.mp he
  exact ⟨x, hx, by split <;> rfl⟩

/-- Marks change neither what the line of a CMO is nor whether a channel holds it. -/
theorem State.markConcerned_cmoLine (s : State) (n : Nat) (l : Option Nat) (op : CmoOp) :
    (s.markConcerned n l).cmoLine n op = s.cmoLine n op := by
  obtain ⟨p, hcore⟩ := s.markConcerned_core n l
  unfold State.cmoLine
  rw [hcore]
  cases l <;> rfl

theorem State.markConcerned_accessHeld (s : State) (n : Nat) (l : Option Nat) (pa : Nat) :
    (s.markConcerned n l).accessHeld pa = s.accessHeld pa := by
  cases l <;> rfl

/-- Without what it waits for, a CMO that has marked its entries does not wait. -/
theorem State.cmoWaits_free {s : State} {n : Nat} {op : CmoOp} (hf : s.CmoFree n op.target (s.cmoLine n op)) (upto : Nat) :
    (s.markConcerned n (s.cmoLine n op)).cmoWaits n { op with line := s.cmoLine n op, upto := upto } = false := by
  obtain ⟨hentries, hport, hchannel⟩ := hf
  obtain ⟨p, hcore⟩ := s.markConcerned_core n (s.cmoLine n op)
  have hline : (s.markConcerned n (s.cmoLine n op)).cmoLine n { op with line := s.cmoLine n op, upto := upto } =
      s.cmoLine n op := State.markConcerned_cmoLine ..
  have hmbuf : (markEntries p (s.core n).mbuf).any
      (fun e => decide (e.num < upto) && decide (s.cmoLine n op = some e.line)) = false := by
    refine List.any_eq_false.mpr fun e he hand => ?_
    obtain ⟨x, hx, hxl⟩ := line_of_mem_markEntries he
    obtain ⟨-, hl⟩ := Bool.and_eq_true_iff.mp hand
    exact List.any_eq_false.mp (hentries e.line (of_decide_eq_true hl)) x hx (decide_eq_true hxl)
  unfold State.cmoWaits
  rw [hline, hcore]
  dsimp only
  rw [hmbuf, Bool.false_or]
  split
  next ht =>
    split
    next l hl => rw [State.markConcerned_accessHeld, hchannel ht l hl, Bool.and_false]
    next => rfl
  next ht => rw [hport ht, Option.isSome_none]

/-- A CMO that finds nothing to wait for acts and retires. -/
theorem State.cmoMark_free {s : State} {h : Nat} {op : CmoOp}
    (hf : s.CmoFree (coreOf h) op.target (s.cmoLine (coreOf h) op)) : s.cmoMark h op =
      ((s.markConcerned (coreOf h) (s.cmoLine (coreOf h) op)).cmoAct (coreOf h) op).completes h (·.next) := by
  have hmark : s.cmoMark h op = (s.markConcerned (coreOf h) (s.cmoLine (coreOf h) op)).cmoTry h
      { op with line := s.cmoLine (coreOf h) op, upto := (s.core (coreOf h)).mbNext } := rfl
  rw [hmark, State.cmoTry, if_neg (by rw [State.cmoWaits_free hf]; exact Bool.false_ne_true)]
  rfl

/-- Table 5-4's rings allow a CMO by address. -/
theorem cmo_allowed {ring : Nat} {action : CmoAction} {target : CmoTarget}
    (hr : ring = 0 ∨ action ≠ .invalidate ∨ target ≠ .fc) :
    (decide (ring ≠ 0) && (decide (action = .invalidate) && decide (target = .fc))) = false := by
  simpa [imp_iff_not_or] using hr

section

variable {s : State} {h : Tid} (hs : s.ready h = true) {gs1 : Reg5} {target : CmoTarget} {action : CmoAction} {wb : MemRes}
include hs

/-- Table 5-4: INV of the furrow cache, and every form by set and way, is of ring 0. -/
theorem State.cmoInstr_refused {sw : Bool} (hr : (s.thread h).ring ≠ 0)
    (ha : sw = true ∨ action = .invalidate ∧ target = .fc) : s.cmoInstr h gs1 target action sw wb =
    .next (s.fault h 0x04 (cmoWord gs1 target action sw)) := by
  rw [State.cmoInstr, State.instr_ready hs]
  exact congrArg _ (if_pos (by simpa using ⟨hr, ha⟩))

theorem State.cmoInstr_setWay (hr : (s.thread h).ring = 0) : s.cmoInstr h gs1 target action true wb =
    .next (s.withRes wb fun u => u.cmoMark h
      { target := target, action := action, setWay := true, arg := ((s.thread h).readG gs1).toNat }) := by
  rw [State.cmoInstr, State.instr_ready hs]
  simp only [hr, ne_eq, not_true_eq_false, decide_false, Bool.false_and, Bool.false_eq_true, if_false, if_true]

variable (hr : (s.thread h).ring = 0 ∨ action ≠ .invalidate ∨ target ≠ .fc) (ht : s.txnFree h = true)
include hr ht

theorem State.cmoInstr_untranslated (hl : s.look h ((s.thread h).readG gs1) .load = .bad) :
    s.cmoInstr h gs1 target action false wb = .next (s.fault h 0x05 ((s.thread h).readG gs1)) := by
  rw [State.cmoInstr, State.instr_ready hs]
  simp only [cmo_allowed hr, ht, hl, Bool.false_or, Bool.not_true, Bool.false_eq_true, if_false]
  rfl

variable {pa : Nat} {leaf : Option Nat} (hl : s.look h ((s.thread h).readG gs1) .load = .pa pa leaf)
  (hd : s.denied h (s.thread h).ring .load pa leaf = false)
include hl hd

theorem State.cmoInstr_outside (hp : granarySpan ≤ pa) :
    s.cmoInstr h gs1 target action false wb = .next (s.setThread h (s.thread h).next) := by
  rw [State.cmoInstr, State.instr_ready hs]
  simp only [cmo_allowed hr, ht, hl, hd, Nat.not_lt.mpr hp, Bool.false_or, Bool.not_true, Bool.false_eq_true, if_false]

theorem State.cmoInstr_address (hp : pa < granarySpan) : s.cmoInstr h gs1 target action false wb =
    .next (s.withRes wb fun s => s.cmoMark h { target := target, action := action, setWay := false, arg := pa }) := by
  rw [State.cmoInstr, State.instr_ready hs]
  simp only [cmo_allowed hr, ht, hl, hd, hp, Bool.false_or, Bool.not_true, Bool.false_eq_true, if_false, if_true]

end

/-! ### PF -/

/-- A PF asks for the line of its byte (R194). -/
def State.pfWants (s : State) (n : Nat) (p : Part) : Bool :=
  (match s.region p.pa with
    | .normal .. => !p.uc
    | _ => false) && s.den n && ((s.core n).l1dLine (p.pa / 64)).isNone && ((s.core n).sideSlot (p.pa / 64)).isNone &&
    (s.core n).fill ≠ some (p.pa / 64) && !(s.core n).pfs.any (fun q => q.1 = p.pa / 64)

section

variable {s : State} {h : Tid} (hs : s.ready h = true) (ht : s.txnFree h = true) {gs1 : Reg5} {imm : BitVec 16}
include hs ht

theorem execPf_fault {a : Nat} (hr : s.resolve h ((s.thread h).readG gs1 + imm.signExtend 64) 1 .pf = .fault a) :
    execPf h gs1 imm s = .next (s.setThread h (s.thread h).next) := by
  rw [execPf, State.instr_ready hs]
  simp only [ht, hr, Bool.not_true, Bool.false_eq_true, if_false]

/-- A PF of one byte asks for its line where `State.pfWants` says so. -/
theorem execPf_part {p : Part} (hr : s.resolve h ((s.thread h).readG gs1 + imm.signExtend 64) 1 .pf = .parts [p]) :
    execPf h gs1 imm s = .next (if s.pfWants (coreOf h) p then (s.setCore (coreOf h) { s.core (coreOf h) with
      pfs := (s.core (coreOf h)).pfs ++ [(p.pa / 64, h.val)] }).setThread h (s.thread h).next
      else s.setThread h (s.thread h).next) := by
  rw [execPf, State.instr_ready hs]
  simp only [ht, hr, Bool.not_true, Bool.false_eq_true, if_false, List.any_cons, List.any_nil, Bool.or_false, firstPart]
  rfl

end

/-! ### L1 controls -/

/-- The core after an invalidation (R213). -/
def Core.l1Invalidated (c : Core) : Core :=
  { c with l1d := if c.dinv then [] else c.l1d, side := if c.dinv then [] else c.side, l1i := if c.iinv then [] else c.l1i,
           dinv := false, iinv := false, denAfter := false, ienAfter := false }

/-- DEN and IEN become 1 where a write asked for it. -/
def State.l1Enabled (s : State) (n : Nat) : State :=
  let u := if (s.core n).denAfter then s.setOn FUR_L1CTL.DEN n true else s
  if (s.core n).ienAfter then u.setOn FUR_L1CTL.IEN n true else u

theorem State.l1Enabled_core (s : State) (n : Nat) : (s.l1Enabled n).core n = s.core n := by
  unfold State.l1Enabled
  dsimp only
  split <;> split <;> rfl

theorem l1ctl_ien_ne_den (n : Nat) : FUR_L1CTL.IEN.key n ≠ FUR_L1CTL.DEN.key n := Fld.key_ne_of_id_ne (by decide) n

theorem State.l1Enabled_den (s : State) (n : Nat) :
    (s.l1Enabled n).on FUR_L1CTL.DEN n = ((s.core n).denAfter || s.on FUR_L1CTL.DEN n) := by
  have hden : (if (s.core n).denAfter then s.setOn FUR_L1CTL.DEN n true else s).on FUR_L1CTL.DEN n =
      ((s.core n).denAfter || s.on FUR_L1CTL.DEN n) := by
    cases (s.core n).denAfter with
    | true => exact State.on_setOn_self _ rfl ..
    | false => rfl
  rw [← hden]
  unfold State.l1Enabled
  dsimp only
  split
  · exact State.on_setOn_ne _ (l1ctl_ien_ne_den n).symm _
  · rfl

theorem State.l1Enabled_ien (s : State) (n : Nat) :
    (s.l1Enabled n).on FUR_L1CTL.IEN n = ((s.core n).ienAfter || s.on FUR_L1CTL.IEN n) := by
  unfold State.l1Enabled
  cases (s.core n).ienAfter with
  | true => exact State.on_setOn_self _ rfl ..
  | false =>
    cases (s.core n).denAfter with
    | true => exact State.on_setOn_ne _ (l1ctl_ien_ne_den n) _
    | false => rfl

theorem execL1InvalidateDone_eq (n : Cid) (s : State) : execL1InvalidateDone n s =
    .next (((s.l1Enabled n).setCore n (s.core n).l1Invalidated).setOn FUR_L1CTL.BUSY n false) := rfl

/-- R211: a write of DEN waits for the fill in progress. -/
theorem State.writeDen_now {s : State} {n : Nat} (hf : (s.core n).fill = none) (den : Bool) :
    s.writeDen n den false = (s.setCore n { s.core n with denAfter := false }).setOn FUR_L1CTL.DEN n den := by
  simp only [State.writeDen, hf, Bool.and_false, Bool.false_eq_true, if_false, Option.isSome_none]

theorem State.writeDen_later {s : State} {n : Nat} (hf : (s.core n).fill ≠ none) (den : Bool) :
    s.writeDen n den false = s.setCore n { s.core n with denAfter := false, denNext := some den } := by
  simp only [State.writeDen, Option.isSome_iff_ne_none.mpr hf, Bool.and_false, Bool.false_eq_true, if_false, if_true]

theorem State.writeIen_now (s : State) (n : Nat) (ien : Bool) :
    s.writeIen n ien false = (s.setCore n { s.core n with ienAfter := false }).setOn FUR_L1CTL.IEN n ien := by
  simp only [State.writeIen, Bool.and_false, Bool.false_eq_true, if_false]

/-! ### The range engine -/

/-- The operations and ranges that RANGE_GO takes (R204, R205). -/
theorem rangeLegal_iff {action : BitVec 2} {mode : Bool} {base len : Nat} :
    (action ≠ 3 ∧ (mode = true ∨ (len ≠ 0 ∧ (base + len) * 64 ≤ granarySpan))) ↔
      (decide (action.toNat = 3) || (!mode && (decide (len = 0) || decide (granarySpan < (base + len) * 64)))) = false := by
  have haction : action.toNat = 3 ↔ action = 3 := by rw [← BitVec.toNat_inj]; rfl
  cases mode <;> simp [haction]

/-- A write that RANGE_GO refuses. -/
def State.rangeRefused (s : State) (f action : Nat) (mode : Bool) : Bool :=
  decide (action = 3) || (!mode && (decide (s.f FUR_RNG_LEN.LEN f = 0) ||
    decide (granarySpan < (s.f FUR_RNG_BASE.BASE f + s.f FUR_RNG_LEN.LEN f) * 64)))

/-- The engine of a range write. -/
def State.rangeEngine (s : State) (f action : Nat) (mode : Bool) : RangeEngine :=
  { action := actionOf action, mode := mode, base := s.f FUR_RNG_BASE.BASE f, lines := s.f FUR_RNG_LEN.LEN f }

section

variable {s : State} {f action : Nat} {mode : Bool}

theorem State.rangeGo_busy (hb : s.on FUR_RNG_CTL.BUSY f = true) :
    s.rangeGo f action mode = s.setOn FUR_RNG_CTL.IGNORED f true := if_pos hb

variable (hb : s.on FUR_RNG_CTL.BUSY f = false)
include hb

theorem State.rangeGo_refused (hr : s.rangeRefused f action mode = true) :
    s.rangeGo f action mode = s.setOn FUR_RNG_CTL.ERR f true :=
  (if_neg (Bool.eq_false_iff.mp hb)).trans (if_pos hr)

/-- The engine starts with nothing counted. -/
theorem State.rangeGo_starts (hr : s.rangeRefused f action mode = false) :
    (s.rangeGo f action mode).on FUR_RNG_CTL.BUSY f = true ∧ (s.rangeGo f action mode).f FUR_RNG_DONE.LINES f = 0 ∧
      find f (s.rangeGo f action mode).caches.range = some (s.rangeEngine f action mode) ∧
      (s.rangeGo f action mode).caches.fc = s.caches.fc := by
  have hgo : s.rangeGo f action mode =
      let u := ((((s.setF FUR_RNG_CTL.ACTION f action).setOn FUR_RNG_CTL.MODE f mode).setOn
        FUR_RNG_CTL.BUSY f true).setF FUR_RNG_DONE.LINES f 0)
      { u with caches := { u.caches with range := put f (s.rangeEngine f action mode) u.caches.range } } :=
    (if_neg (Bool.eq_false_iff.mp hb)).trans (if_neg (Bool.eq_false_iff.mp hr))
  have hkey : FUR_RNG_CTL.BUSY.key f ≠ FUR_RNG_DONE.LINES.key f := Fld.key_ne_of_id_ne (by decide) f
  rw [hgo]
  refine ⟨?_, State.f_setF_self _ FUR_RNG_DONE.LINES f 0, find_put_self .., rfl⟩
  have hset : ∀ (u : State), ((u.setOn FUR_RNG_CTL.BUSY f true).setF FUR_RNG_DONE.LINES f 0).on FUR_RNG_CTL.BUSY f = true :=
    fun u => by rw [State.on, State.f_setF_ne _ hkey]; exact State.on_setOn_self u rfl f true
  exact hset _

end

/-- R206: the whole operation is counted when the engine ends. -/
theorem State.rangeEnds_done {s : State} {f : Nat} {r : RangeEngine} (hr : find f s.caches.range = some r) :
    (s.rangeEnds f).on FUR_RNG_CTL.BUSY f = false ∧
      (s.rangeEnds f).f FUR_RNG_DONE.LINES f = (if r.mode then 65536 else r.lines) % 2 ^ FUR_RNG_DONE.LINES.width ∧
      find f (s.rangeEnds f).caches.range = none := by
  have hkey : FUR_RNG_DONE.LINES.key f ≠ FUR_RNG_CTL.BUSY.key f := Fld.key_ne_of_id_ne (by decide) f
  have hstop : min (r.pos + r.total) r.total = r.total := Nat.min_eq_right (Nat.le_add_left ..)
  have hends : s.rangeEnds f =
      let u := (s.rangeStep f r.total).setOn FUR_RNG_CTL.BUSY f false
      { u with caches := { u.caches with range := drop f u.caches.range } } := by
    simp only [State.rangeEnds, hr]
  have hlines : (s.rangeStep f r.total).f FUR_RNG_DONE.LINES f =
      (if r.mode then 65536 else r.lines) % 2 ^ FUR_RNG_DONE.LINES.width := by
    simp only [State.rangeStep, hr, hstop]
    refine (State.f_setF_self _ FUR_RNG_DONE.LINES f _).trans (congrArg (· % 2 ^ FUR_RNG_DONE.LINES.width) ?_)
    unfold RangeEngine.total
    cases r.mode <;> rfl
  rw [hends]
  refine ⟨State.on_setOn_self _ rfl f false, ?_, find_drop_self ..⟩
  exact (State.f_setF_ne _ hkey _).trans hlines

/-! ### The open-entry timer and the scrubber -/

/-- R191: of the open entries only the oldest closes. -/
theorem closeOldest_append {older newer : List MbEntry} {e : MbEntry} (ho : ∀ x ∈ older, x.closed = true)
    (he : e.closed = false) : closeOldest (older ++ e :: newer) = older ++ { e with closed := true } :: newer := by
  induction older with
  | nil => exact if_neg (Bool.eq_false_iff.mp he)
  | cons x r ih =>
    refine (if_pos (ho x (List.mem_cons_self ..))).trans (congrArg (x :: ·) (ih fun y hy => ?_))
    exact ho y (List.mem_cons_of_mem _ hy)

/-- The scrubber has gone on to the next set. -/
def State.scrubbed (s : State) (f : Nat) : State :=
  { s with caches := { s.caches with
      scrubSet := putD 0 f ((findD 0 f s.caches.scrubSet + 1) % fcSets f) s.caches.scrubSet } }

/-- Table 8-6: a dirty way in error becomes poisoned. -/
theorem execFurrowScrub_dirty {s : State} {f : CacheId} {w : Fin 16} {x : FcLine}
    (hx : s.fcWay (fcKey f (findD 0 f.val s.caches.scrubSet) w) = some x) (hm : x.st = .m) :
    execFurrowScrub f (.uncorrectable w) s = .next (((s.scrubbed f).setFc
      (put (fcKey f (findD 0 f.val s.caches.scrubSet) w) { x with poison := true } s.caches.fc)).cacheUe f 5 x.line) := by
  have hx' : (s.scrubbed f).fcWay (fcKey f (findD 0 f.val s.caches.scrubSet) w) = some x := hx
  unfold State.scrubbed at hx' ⊢
  simp only [execFurrowScrub, hx', hm, if_true]

theorem State.cacheUe_caches (s : State) (f row line : Nat) : (s.cacheUe f row line).caches = s.caches :=
  caches_of_keep (m := Facet.only .caches) (by simp) rfl

/-- Settles O21: CMO by what it finds to wait for, the rest by an equation of each command. -/
theorem cacheMaintenanceResults : Obligations.CacheMaintenanceResults := by
  unfold Obligations.CacheMaintenanceResults
  refine ⟨fun s h gs1 target wb => ?cmo, fun s h gs1 imm hs ht => ?pf, fun s n agent ien den => ⟨fun hr => ⟨?iinv, ?dinv⟩,
    ?invalidated, fun ha hr => ?enable⟩, fun s f agent mode action wb => ⟨fun ha hr => ?rangeGo, ?rangeDone⟩,
    fun s n older newer e ho he hm => ?timeout, fun s f => ⟨?scrub, fun w => ?scrubDirty⟩⟩
  case cmo =>
    intro c t cmos marked free
    have hcmo : ∀ sw, ∀ x ∈ cmos sw, exec x.1 s = s.cmoInstr h gs1 target x.2.1 sw x.2.2 := by
      intro sw x hx
      simp only [cmos, List.mem_cons, List.not_mem_nil, or_false] at hx
      rcases hx with rfl | rfl | rfl
      · exact exec_cmoInvalidate ..
      · exact exec_cmoClean ..
      · exact exec_cmoCleanInvalidate ..
    have hfree : ∀ {l : Option Nat}, free l → ∀ r : MemRes, State.CmoFree { s with res := r } c target l :=
      fun hf r => ⟨hf.1, hf.2.1, hf.2.2⟩
    refine ⟨fun hs hr x hx => ?setWay, fun hs ht => ?address, fun hs hr sw hsw => ?refused⟩
    case setWay =>
      intro op l hf
      refine (hcmo true x hx).trans ((State.cmoInstr_setWay hs hr).trans (congrArg _ (State.withRes_congr ?_)))
      exact State.cmoMark_free (op := op) (hfree hf _)
    case address =>
      split
      next pa leaf hl =>
        intro hd x hx hr
        refine ⟨fun hp => (hcmo false x hx).trans (State.cmoInstr_outside hs hr ht hl hd hp), fun hp hf => ?_⟩
        refine (hcmo false x hx).trans ((State.cmoInstr_address hs hr ht hl hd hp).trans (congrArg _ (State.withRes_congr ?_)))
        exact State.cmoMark_free (op := { target := target, action := x.2.1, setWay := false, arg := pa }) (hfree hf _)
      next hl => exact fun x hx hr => (hcmo false x hx).trans (State.cmoInstr_untranslated hs hr ht hl)
      next => trivial
    case refused =>
      refine (exec_cmoInvalidate ..).trans (State.cmoInstr_refused hs hr ?_)
      exact hsw.imp_right fun he => ⟨rfl, he⟩
  case pf =>
    intro c next
    split
    next a hr => exact execPf_fault hs ht hr
    next p hr =>
      have hpart := (exec_pf ..).trans (execPf_part hs ht hr)
      exact ⟨fun hw => hpart.trans (congrArg _ (if_pos hw)),
        fun hw => hpart.trans (congrArg _ (if_neg (Bool.eq_false_iff.mp hw)))⟩
    next => trivial
  case iinv => exact (exec_iinv ..).trans (congrArg _ (if_pos hr))
  case dinv => exact (exec_dinv ..).trans (congrArg _ (if_pos hr))
  case invalidated =>
    have hkeys := fun F hF => Fld.key_ne_of_id_ne (F := FUR_L1CTL.BUSY) (G := F) hF n
    refine ⟨_, (exec_l1InvalidateDone ..).trans (execL1InvalidateDone_eq n s), State.on_setOn_self _ rfl .., ?_, ?_, ?_⟩
    · rw [State.core_setOn, State.core_setCore_self]
      rfl
    · rw [State.on_setOn_ne _ (hkeys _ (by decide)), State.on_setCore, State.l1Enabled_den]
    · rw [State.on_setOn_ne _ (hkeys _ (by decide)), State.on_setCore, State.l1Enabled_ien]
  case enable =>
    have hwrite : exec (.l1EnableWrite agent n ien den) s = .next ((s.writeDen n den false).writeIen n ien false) :=
      (exec_l1EnableWrite ..).trans (congrArg _ (if_pos (by rw [ha, hr]; rfl)))
    refine ⟨_, hwrite, ?_⟩
    rw [State.writeIen_now]
    refine ⟨State.on_setOn_self _ rfl .., fun hf => ?_, fun hf => ?_⟩
    · rw [State.on_setOn_ne _ (l1ctl_ien_ne_den n).symm, State.on_setCore, State.core_setOn, State.core_setCore_self,
        State.writeDen_now hf]
      refine ⟨State.on_setOn_self _ rfl .., ?_⟩
      rw [State.core_setOn, State.core_setCore_self]
    · rw [State.on_setOn_ne _ (l1ctl_ien_ne_den n).symm, State.on_setCore, State.core_setOn, State.core_setCore_self,
        State.writeDen_later hf, State.on_setCore, State.core_setCore_self]
      exact ⟨rfl, rfl⟩
  case rangeGo =>
    intro base len legal
    have hgo : exec (.rangeGo agent f action mode) s = .next (s.rangeGo f action.toNat mode) :=
      (exec_rangeGo ..).trans (congrArg _ (if_pos (by rw [ha, hr]; rfl)))
    refine ⟨fun hb hlegal => ⟨_, hgo, State.rangeGo_starts hb (rangeLegal_iff.mp hlegal)⟩, fun hb hlegal => ?_,
      fun hb => hgo.trans (congrArg _ (State.rangeGo_busy hb))⟩
    exact hgo.trans (congrArg _ (State.rangeGo_refused hb (Bool.eq_true_of_not_eq_false (mt rangeLegal_iff.mpr hlegal))))
  case rangeDone =>
    split
    next r hr =>
      exact ⟨_, exec_rangeDone .., State.rangeEnds_done (s := { s with res := wb }) hr⟩
    next => trivial
  case timeout =>
    rw [exec_openEntryTimeout, execOpenEntryTimeout, hm, closeOldest_append ho he]
  case scrub => exact ⟨_, exec_furrowScrub .., findD_putD_self .., rfl⟩
  case scrubDirty =>
    intro k
    split
    next x hx =>
      intro hm
      refine ⟨_, (exec_furrowScrub ..).trans (execFurrowScrub_dirty hx hm), ?_, ?_⟩
      · rw [State.fcWay, State.cacheUe_caches]
        exact find_put_self ..
      · rw [State.cacheUe_caches]
        exact findD_putD_self ..
    next => trivial

end Sys2Proof.Machine
end

section
/-! PROOF. Loads: the value that a load writes, what it waits for, and the line that a parity error removes (R187, R192, R194,
Table 8-6). -/

namespace Sys2Proof.Machine

/-! ### The value of a load -/

/-- R120: a load extends its bytes by their sign or with zeros. -/
theorem loadValue_eq (op : LoadOp) (b : List Byte) : loadValue op b =
    if op.signed then (BitVec.ofNat (8 * b.length) (leNat b)).signExtend 64 else BitVec.ofNat 64 (leNat b) := by
  have hlt : leNat b < 2 ^ (8 * b.length) := (leNat_lt b).trans_eq (pow_mul 2 8 b.length).symm
  unfold loadValue
  cases op.signed with
  | false => rfl
  | true =>
    change _ = BitVec.ofInt 64 (BitVec.ofNat (8 * b.length) (leNat b)).toInt
    rw [BitVec.toInt_eq_toNat_cond, BitVec.toNat_ofNat, Nat.mod_eq_of_lt hlt]
    rcases Nat.eq_zero_or_pos (8 * b.length) with hw | hw
    · rw [hw] at hlt ⊢
      obtain hzero : leNat b = 0 := Nat.lt_one_iff.mp hlt
      rw [hzero]
      rfl
    · have hpow : 2 ^ (8 * b.length) = 2 * 2 ^ (8 * b.length - 1) := by
        rw [← Nat.pow_succ', Nat.succ_eq_add_one, Nat.sub_add_cancel hw]
      by_cases hneg : 2 * leNat b < 2 ^ (8 * b.length)
      · have hbit : ¬2 ^ (8 * b.length - 1) ≤ leNat b := by omega
        simp only [hneg, hbit, decide_false, Bool.and_false, Bool.false_eq_true, if_false, if_true, BitVec.ofInt_natCast]
      · have hbit : 2 ^ (8 * b.length - 1) ≤ leNat b := by omega
        simp only [hneg, hbit, decide_true, Bool.and_self, if_false, if_true, Nat.cast_pow, Nat.cast_ofNat]

/-! ### What a load waits for -/

/-- The entries that a load marks by number are closed. -/
theorem State.markMb_closed (s : State) (n : Nat) (q : Nat → Bool) :
    ∀ e ∈ ((s.markMb n fun e => q e.num).core n).mbuf, q e.num = true → e.closed = true := by
  intro e he hq
  rw [State.markMb_core] at he
  obtain ⟨x, -, rfl⟩ := List.mem_map.mp he
  by_cases hx : q x.num = true
  · rw [if_pos hx]
  · rw [if_neg hx] at hq
    exact absurd hq hx

section

variable {s : State} {h : Nat} {op : LoadOp}

/-- R192: a buffered store that holds only some of the bytes is waited for. -/
theorem State.tryLoad_overlap (ho : ∃ p ∈ op.parts, s.partLook (coreOf h) op.past p = .overlap) : ∃ marked,
    s.tryLoad h op = (s.markMb (coreOf h) fun e => marked.contains e.num).setHold h (some (.overlap op marked)) := by
  refine ⟨_, if_pos (List.any_eq_true.mpr ?_)⟩
  obtain ⟨p, hp, hl⟩ := ho
  exact ⟨_, List.mem_map_of_mem hp, decide_eq_true hl⟩

/-- A load that no buffered store delays. -/
theorem State.tryLoad_clear (hc : ∀ p ∈ op.parts, s.partLook (coreOf h) op.past p ≠ .overlap)
    (hb : ∀ p ∈ op.parts, s.partLook (coreOf h) op.past p ≠ .busy) : s.tryLoad h op =
    match op.parts.findSome? fun p => (s.partLook (coreOf h) op.past p).missed with
    | some line => ((s.setCore (coreOf h) { s.core (coreOf h) with fill := some line }).setHold h
        (some (.l1miss op))).tally 0x006 (coreOf h) 1
    | none =>
      if op.parts.any fun p => s.partLook (coreOf h) op.past p = .outside then s.setHold h (some (.load op))
      else (op.parts.foldl (fun s p => s.sideMove (coreOf h) (p.pa / 64)) s).finishLoad h op
        (op.parts.flatMap fun p => (s.partLook (coreOf h) op.past p).bytes) := by
  have hoverlap : (op.parts.any fun p => decide (s.partLook (coreOf h) op.past p = .overlap)) = false :=
    List.any_eq_false.mpr fun p hp => by simpa using hc p hp
  have hbusy : (op.parts.any fun p => decide (s.partLook (coreOf h) op.past p = .busy)) = false :=
    List.any_eq_false.mpr fun p hp => by simpa using hb p hp
  unfold State.tryLoad
  simp only [List.any_map, List.findSome?_map, List.flatMap_map, Function.comp_def, hoverlap, hbusy, Bool.false_eq_true,
    if_false] <;>
  rfl

variable (hfree : ∀ p ∈ op.parts, s.partLook (coreOf h) op.past p ≠ .busy ∧ s.partLook (coreOf h) op.past p ≠ .overlap)
include hfree

/-- R187: the first line that misses the L1 is filled. -/
theorem State.tryLoad_missed {line : Nat}
    (hm : op.parts.findSome? (fun p => (s.partLook (coreOf h) op.past p).missed) = some line) : s.tryLoad h op =
    ((s.setCore (coreOf h) { s.core (coreOf h) with fill := some line }).setHold h (some (.l1miss op))).tally 0x006
      (coreOf h) 1 := by
  rw [State.tryLoad_clear (fun p hp => (hfree p hp).2) fun p hp => (hfree p hp).1, hm]

/-- R150: a part outside the L1 takes a transaction. -/
theorem State.tryLoad_outside (hm : ∀ p ∈ op.parts, (s.partLook (coreOf h) op.past p).missed = none)
    (ho : ∃ p ∈ op.parts, s.partLook (coreOf h) op.past p = .outside) : s.tryLoad h op = s.setHold h (some (.load op)) := by
  rw [State.tryLoad_clear (fun p hp => (hfree p hp).2) fun p hp => (hfree p hp).1, List.findSome?_eq_none_iff.mpr hm]
  refine if_pos (List.any_eq_true.mpr ?_)
  obtain ⟨p, hp, hl⟩ := ho
  exact ⟨p, hp, decide_eq_true hl⟩

end

/-- The core itself holds every part. -/
theorem State.tryLoad_data {s : State} {h : Nat} {op : LoadOp} {bs : List (List Byte)}
    (hd : op.parts.map (s.partLook (coreOf h) op.past) = bs.map PartLook.data) : s.tryLoad h op =
    (op.parts.foldl (fun s p => s.sideMove (coreOf h) (p.pa / 64)) s).finishLoad h op bs.flatten := by
  have hdata : ∀ p ∈ op.parts, ∃ b, s.partLook (coreOf h) op.past p = .data b := fun p hp => by
    have hmem : s.partLook (coreOf h) op.past p ∈ bs.map PartLook.data := hd ▸ List.mem_map_of_mem hp
    obtain ⟨b, -, hb⟩ := List.mem_map.mp hmem
    exact ⟨b, hb.symm⟩
  have hbytes : (op.parts.flatMap fun p => (s.partLook (coreOf h) op.past p).bytes) = bs.flatten := by
    have hmap : (op.parts.flatMap fun p => (s.partLook (coreOf h) op.past p).bytes) =
        ((op.parts.map (s.partLook (coreOf h) op.past)).map PartLook.bytes).flatten := by
      rw [List.map_map]
      rfl
    rw [hmap, hd, List.map_map]
    exact congrArg List.flatten (List.map_id bs)
  rw [State.tryLoad_clear, hbytes, List.findSome?_eq_none_iff.mpr]
  · refine if_neg (Bool.eq_false_iff.mp (List.any_eq_false.mpr fun p hp => ?_))
    obtain ⟨b, hb⟩ := hdata p hp
    simp [hb]
  all_goals
    intro p hp
    obtain ⟨b, hb⟩ := hdata p hp
    rw [hb]
  · rfl
  · nofun
  · nofun

/-! ### A line that the core lacks -/

/-- A core has a line neither in the L1D nor in the side buffer. -/
structure Core.Lacks (c : Core) (line : Nat) : Prop where
  l1d : ∀ x ∈ c.l1d, x.2.line ≠ line
  side : ∀ x ∈ c.side, x.2.line ≠ line

theorem Core.Lacks.l1dLine {c : Core} {line : Nat} (hc : c.Lacks line) : c.l1dLine line = none := by
  unfold Core.l1dLine
  split
  next x hx => exact if_neg (hc.l1d _ (mem_of_find hx))
  next => rfl

theorem Core.sideSlot_eq_some {c : Core} {line : Nat} {x : Nat × SideLine} (hx : c.sideSlot line = some x) :
    x ∈ c.side ∧ x.2.line = line :=
  ⟨List.mem_of_find?_eq_some hx, of_decide_eq_true (List.find?_some (p := fun y : Nat × SideLine => decide (y.2.line = line)) hx)⟩

theorem Core.lacks_dropLine_self (c : Core) (line : Nat) : (c.dropLine line).Lacks line :=
  ⟨fun _ hx => of_decide_eq_true (List.mem_filter.mp hx).2, fun _ hx => of_decide_eq_true (List.mem_filter.mp hx).2⟩

theorem Core.Lacks.dropLine {c : Core} {line : Nat} (hc : c.Lacks line) (k : Nat) : (c.dropLine k).Lacks line :=
  ⟨fun x hx => hc.l1d x (List.mem_filter.mp hx).1, fun x hx => hc.side x (List.mem_filter.mp hx).1⟩

section

variable {s : State} {n line : Nat} (hc : (s.core n).Lacks line)
include hc

theorem State.lacks_markMb (p : MbEntry → Bool) : ((s.markMb n p).core n).Lacks line := by
  rw [State.markMb_core]
  exact ⟨hc.l1d, hc.side⟩

/-- A line that moves from the side buffer into the L1D is one that the core has. -/
theorem State.lacks_sideMove (k : Nat) : ((s.sideMove n k).core n).Lacks line := by
  unfold State.sideMove
  dsimp only
  split
  · exact hc
  · split
    · exact hc
    next x hx =>
      rw [State.core_setCore_self]
      refine ⟨fun y hy => ?_, fun y hy => hc.side y (mem_drop hy)⟩
      rcases mem_put hy with rfl | hy
      · obtain ⟨hmem, hk⟩ := Core.sideSlot_eq_some hx
        exact hk ▸ hc.side x hmem
      · exact hc.l1d y hy

theorem State.lacks_sideMoves (ps : List Part) :
    ((ps.foldl (fun s p => s.sideMove n (p.pa / 64)) s).core n).Lacks line := by
  induction ps generalizing s with
  | nil => exact hc
  | cons p ps ih => exact ih (State.lacks_sideMove hc _)

end

theorem State.tally_core (s : State) (event inst k n : Nat) : (s.tally event inst k).core n = s.core n :=
  core_of_only (by simp) n

theorem State.tally_thread (s : State) (event inst k h : Nat) : (s.tally event inst k).thread h = s.thread h :=
  thread_of_only (by simp) h

/-- A load brings no line of its own into the core. -/
theorem State.lacks_tryLoad {s : State} {h line : Nat} (hc : (s.core (coreOf h)).Lacks line) (op : LoadOp) :
    ((s.tryLoad h op).core (coreOf h)).Lacks line := by
  unfold State.tryLoad
  dsimp only
  split
  · exact State.lacks_markMb hc _
  · split
    · exact hc
    · split
      next => 
        rw [State.tally_core]
        exact (State.core_setCore_self ..).symm ▸ ⟨hc.l1d, hc.side⟩
      next =>
        split
        · exact hc
        · exact State.lacks_sideMoves hc _

/-- Of the lines that a parity error drops the core has none. -/
theorem State.lacks_parityDrop {s : State} {n line : Nat} {ps : List Part}
    (hl : (∃ p ∈ ps, p.pa / 64 = line) ∨ (s.core n).Lacks line) :
    ((ps.foldl (fun s p => (s.setCore n ((s.core n).dropLine (p.pa / 64))).markLine n (p.pa / 64)) s).core n).Lacks line := by
  induction ps generalizing s with
  | nil =>
    rcases hl with ⟨p, hp, -⟩ | hc
    · cases hp
    · exact hc
  | cons p ps ih =>
    refine ih ?_
    have hmarked : ∀ {c : Core}, c.Lacks line → (((s.setCore n c).markLine n (p.pa / 64)).core n).Lacks line := fun hc =>
      State.lacks_markMb ((State.core_setCore_self ..).symm ▸ hc) _
    rcases hl with ⟨q, hq, hline⟩ | hc
    · rcases List.mem_cons.mp hq with rfl | hq
      · exact .inr (hmarked (hline ▸ Core.lacks_dropLine_self ..))
      · exact .inl ⟨q, hq, hline⟩
    · exact .inr (hmarked (hc.dropLine _))

theorem State.countL1_core (s : State) (m n : Nat) : (s.countL1 m).core n = s.core n := core_of_only (by simp) n

/-- Table 8-6: a line of the L1D that a load reads is invalidated. -/
theorem State.lacks_parityMiss {s : State} {n : Nat} {op : LoadOp} {p : Part} {c l : Nat} (hp : p ∈ op.parts)
    (hr : s.region p.pa = .normal c l) (hu : p.uc = false) (hd : s.den n = true)
    (hl : ((s.core n).l1dLine (p.pa / 64)).isSome = true) : ((s.parityMiss n op).core n).Lacks (p.pa / 64) := by
  unfold State.parityMiss
  dsimp only
  split
  next hnone =>
    have hhit := List.filter_eq_nil_iff.mp hnone p hp
    simp [hr, hu, hd, hl] at hhit
  next =>
    rw [State.countL1_core]
    refine State.lacks_parityDrop (.inl ⟨p, List.mem_filter.mpr ⟨hp, ?_⟩, rfl⟩)
    simp [hr, hu, hd, hl]

/-! ### Load instructions -/

/-- R128: a load that resolves has no part outside every range. -/
theorem State.resolve_load_served {s : State} {h : Nat} {va : Word} {len : Nat} {ps : List Part}
    (hr : s.resolve h va len .load = .parts ps) : ∀ p ∈ ps, s.region p.pa ≠ .hole := by
  unfold State.resolve at hr
  dsimp only at hr
  split at hr
  · cases hr
  · split at hr
    · cases hr
    · split at hr
      · cases hr
      · split at hr
        · cases hr
        · split at hr
          · cases hr
          next hserved =>
            injection hr with hps
            subst hps
            intro p hp hhole
            obtain ⟨x, hx, rfl⟩ := List.mem_map.mp hp
            exact hserved (Bool.and_eq_true_iff.mpr ⟨rfl, List.any_eq_true.mpr ⟨x, hx, decide_eq_true hhole⟩⟩)

/-- A part of the merging buffer's Normal type lies in Normal memory. -/
theorem normal_of_mbKind {r : Region} {pa : Nat} {uc : Bool} (hk : mbKind? r pa uc = some .normal) (hr : r ≠ .hole) :
    (∃ c l, r = .normal c l) ∧ uc = false := by
  unfold mbKind? at hk
  split at hk
  next c l =>
    cases uc with
    | false => exact ⟨⟨c, l, rfl⟩, rfl⟩
    | true => cases hk
  · cases hk
  · cases hk
  · exact absurd rfl hr
  · cases hk

section

variable {s : State} {h : Tid} (hs : s.ready h = true) (ht : s.txnFree h = true) {gs1 : Reg5} {imm : BitVec 16} {len : Nat}
  {signed par : Bool} {dest : Dest}
include hs ht

theorem State.loadInstr_fault {code : Nat}
    (hr : s.resolve h ((s.thread h).readG gs1 + imm.signExtend 64) len .load = .fault code) :
    s.loadInstr h gs1 imm len signed dest par = .next (s.fault h code ((s.thread h).readG gs1 + imm.signExtend 64)) := by
  rw [State.loadInstr, State.instr_ready hs]
  simp only [ht, hr, Bool.not_true, Bool.false_eq_true, if_false]

variable {ps : List Part} (hr : s.resolve h ((s.thread h).readG gs1 + imm.signExtend 64) len .load = .parts ps)
include hr

theorem State.loadInstr_tries : s.loadInstr h gs1 imm len signed dest false = .next (s.tryLoad h
    { va := (s.thread h).readG gs1 + imm.signExtend 64, parts := ps, dest := dest, signed := signed }) := by
  rw [State.loadInstr, State.instr_ready hs]
  simp only [ht, hr, Bool.not_true, Bool.false_eq_true, if_false]

/-- A load whose L1D line fails its parity tries again, or waits for the entries of its lines. -/
theorem State.loadInstr_parity : let op : LoadOp :=
      { va := (s.thread h).readG gs1 + imm.signExtend 64, parts := ps, dest := dest, signed := signed }
    s.loadInstr h gs1 imm len signed dest true = .next ((s.parityMiss (coreOf h) op).tryLoad h op) ∨
      ∃ hold, s.loadInstr h gs1 imm len signed dest true = .next ((s.parityMiss (coreOf h) op).setHold h hold) := by
  intro op
  rw [State.loadInstr, State.instr_ready hs]
  simp only [ht, hr, Bool.not_true, Bool.false_eq_true, if_false, if_true]
  split
  · exact .inl rfl
  · exact .inr ⟨_, rfl⟩

end

end Sys2Proof.Machine
end

section
/-! PROOF. Stores: where a store goes, and that a load by the same core sees the bytes that have entered the merging buffer
(R188, R190 to R192). -/

namespace Sys2Proof.Machine

/-! ### Bytes laid over a line -/

theorem overlay_drop (mask k : Nat) (d i : List Byte) :
    (overlay mask d i).drop k = overlay (mask / 2 ^ k) (d.drop k) (i.drop k) := by
  induction k generalizing mask d i with
  | zero => simp
  | succ k ih =>
    cases d with
    | nil => simp [overlay]
    | cons b d =>
      cases i with
      | nil => cases hd : d.drop k <;> simp [overlay, hd]
      | cons n i => rw [overlay, List.drop_succ_cons, ih, Nat.div_div_eq_div_mul, ← Nat.pow_succ', List.drop_succ_cons,
          List.drop_succ_cons]

/-- The bytes under a full low mask are those laid over. -/
theorem overlay_take (n : Nat) {d i : List Byte} (hd : n ≤ d.length) (hi : n ≤ i.length) :
    (overlay (2 ^ n - 1) d i).take n = i.take n := by
  induction n generalizing d i with
  | zero => rfl
  | succ n ih =>
    obtain ⟨b, d, rfl⟩ := List.exists_cons_of_length_pos (Nat.zero_lt_of_lt hd)
    obtain ⟨x, i, rfl⟩ := List.exists_cons_of_length_pos (Nat.zero_lt_of_lt hi)
    have hpow : 0 < 2 ^ n := Nat.two_pow_pos n
    have hodd : (2 ^ (n + 1) - 1) % 2 = 1 := by omega
    have hhalf : (2 ^ (n + 1) - 1) / 2 = 2 ^ n - 1 := by omega
    rw [overlay, hodd, hhalf, if_pos rfl, List.take_succ_cons, List.take_succ_cons,
      ih (Nat.le_of_succ_le_succ hd) (Nat.le_of_succ_le_succ hi)]

/-- The bytes of a line image. -/
theorem lineImage_drop (off : Nat) (bytes : List Byte) :
    (lineImage off bytes).drop off = bytes ++ List.replicate (64 - off - bytes.length) 0 := by
  rw [lineImage, List.append_assoc, List.drop_left' List.length_replicate]

theorem lineImage_slice (off : Nat) (bytes : List Byte) : ((lineImage off bytes).drop off).take bytes.length = bytes := by
  rw [lineImage_drop, List.take_left]

/-- Bytes that were laid over a line are read back. -/
theorem overlay_slice {off : Nat} {bytes d : List Byte} (hd : off + bytes.length ≤ d.length) :
    ((overlay (maskOf off bytes.length) d (lineImage off bytes)).drop off).take bytes.length = bytes := by
  have hmask : maskOf off bytes.length / 2 ^ off = 2 ^ bytes.length - 1 :=
    Nat.mul_div_cancel _ (Nat.two_pow_pos off)
  rw [overlay_drop, hmask, overlay_take, lineImage_slice]
  · rw [List.length_drop]
    omega
  · rw [lineImage_drop, List.length_append]
    exact Nat.le_add_right ..

/-! ### Bytes in the merging buffer -/

theorem maskOf_ne_zero (off : Nat) {n : Nat} (hn : n ≠ 0) : maskOf off n ≠ 0 := by
  have hpow : 1 < 2 ^ n := Nat.one_lt_two_pow hn
  exact Nat.mul_ne_zero (by omega) (Nat.two_pow_pos off).ne'

theorem or_and_self_right (m k : Nat) : (m ||| k) &&& k = k :=
  Nat.eq_of_testBit_eq fun i => by
    rw [Nat.testBit_and, Nat.testBit_or]
    cases m.testBit i <;> cases k.testBit i <;> rfl

/-- An entry that holds some byte of a span holds these bytes of it. -/
def MbEntry.Shows (e : MbEntry) (line off : Nat) (bytes : List Byte) : Prop :=
  e.line = line → e.mask &&& maskOf off bytes.length ≠ 0 →
    e.mask &&& maskOf off bytes.length = maskOf off bytes.length ∧ (e.data.drop off).take bytes.length = bytes

/-- The entries before the buffer closes what is too old (R190). -/
def Core.mbEnter (c : Core) (kind : MbKind) (line off : Nat) (bytes : List Byte) (h : Nat) : List MbEntry :=
  let mask := maskOf off bytes.length
  let img := lineImage off bytes
  if c.mbuf.any (·.takes kind line) then
    c.mbuf.map fun e =>
      if e.takes kind line then
        let m := e.mask ||| mask
        { e with data := overlay mask e.data img, mask := m, closed := m = fullMask,
                 threads := if e.threads.contains h then e.threads else e.threads ++ [h] }
      else e
  else c.mbuf ++ [{ num := c.mbNext, line := line, kind := kind, data := img, mask := mask, closed := mask = fullMask,
                    threads := [h] }]

theorem Core.mbPut_mbuf (c : Core) (kind : MbKind) (line off : Nat) (bytes : List Byte) (h : Nat) :
    (c.mbPut kind line off bytes h).mbuf = if 8 ≤ (c.mbEnter kind line off bytes h).length
      then closeAll (c.mbEnter kind line off bytes h) else c.mbEnter kind line off bytes h := by
  unfold Core.mbPut Core.mbEnter
  dsimp only
  split <;> split <;> rfl

section

variable {c : Core} {line off : Nat} {bytes : List Byte} (kind : MbKind) (h : Nat) (hb : bytes ≠ [])
  (hlen : off + bytes.length ≤ 64) (hdata : ∀ e ∈ c.mbuf, e.line = line → e.data.length = 64)
  (hover : c.mbOver line (maskOf off bytes.length) = [])

include hlen hdata hover in
/-- R190: what entered is what an entry of its span shows. -/
theorem Core.mbEnter_shows : ∀ e ∈ c.mbEnter kind line off bytes h, e.Shows line off bytes := by
  have hold : ∀ x ∈ c.mbuf, x.Shows line off bytes := fun x hx hl hm =>
    absurd (Bool.and_eq_true_iff.mpr ⟨decide_eq_true hl, decide_eq_true hm⟩) (List.filter_eq_nil_iff.mp hover x hx)
  intro e he
  unfold Core.mbEnter at he
  dsimp only at he
  split at he
  · obtain ⟨x, hx, rfl⟩ := List.mem_map.mp he
    split
    next ht =>
      intro hl hm
      exact ⟨or_and_self_right .., overlay_slice (by rw [hdata x hx hl]; exact hlen)⟩
    next => exact hold x hx
  · rcases List.mem_append.mp he with hx | hx
    · exact hold e hx
    · obtain rfl := List.mem_singleton.mp hx
      exact fun _ _ => ⟨Nat.and_self _, lineImage_slice ..⟩

include hb in
/-- Some entry holds what entered. -/
theorem Core.mbEnter_holds : ∃ e ∈ c.mbEnter kind line off bytes h, e.line = line ∧
    e.mask &&& maskOf off bytes.length ≠ 0 := by
  have hmask : maskOf off bytes.length ≠ 0 := maskOf_ne_zero off (List.length_eq_zero_iff.not.mpr hb)
  unfold Core.mbEnter
  dsimp only
  split
  next hany =>
    obtain ⟨x, hx, ht⟩ := List.any_eq_true.mp hany
    have hline : x.line = line := by simp [MbEntry.takes] at ht; exact ht.1.2
    refine ⟨_, List.mem_map_of_mem hx, ?_⟩
    rw [if_pos ht]
    exact ⟨hline, by rw [or_and_self_right]; exact hmask⟩
  next =>
    refine ⟨_, List.mem_append_right _ (List.mem_singleton_self _), rfl, ?_⟩
    rw [Nat.and_self]
    exact hmask

/-- Closing an entry changes neither its line nor its bytes. -/
theorem mem_closeAll {es : List MbEntry} {e : MbEntry} (he : e ∈ closeAll es) : ∃ x ∈ es, e = { x with closed := true } := by
  obtain ⟨x, hx, rfl⟩ := List.mem_map.mp he
  exact ⟨x, hx, rfl⟩

include hlen hdata hover in
theorem Core.mbPut_shows : ∀ e ∈ (c.mbPut kind line off bytes h).mbuf, e.Shows line off bytes := by
  have hshows := Core.mbEnter_shows kind h hlen hdata hover
  intro e he
  rw [Core.mbPut_mbuf] at he
  split at he
  · obtain ⟨x, hx, rfl⟩ := mem_closeAll he
    exact hshows x hx
  · exact hshows e he

include hb in
theorem Core.mbPut_holds : ∃ e ∈ (c.mbPut kind line off bytes h).mbuf, e.line = line ∧
    e.mask &&& maskOf off bytes.length ≠ 0 := by
  obtain ⟨x, hx, hx'⟩ := Core.mbEnter_holds (c := c) (line := line) (off := off) kind h hb
  rw [Core.mbPut_mbuf]
  split
  · exact ⟨_, List.mem_map_of_mem hx, hx'⟩
  · exact ⟨x, hx, hx'⟩

include hb hlen hdata hover in
/-- R192: the youngest entry of the span of a store shows the store's bytes. -/
theorem Core.mbOver_mbPut : ∃ e,
    ((c.mbPut kind line off bytes h).mbOver line (maskOf off bytes.length)).getLast? = some e ∧
      e.mask &&& maskOf off bytes.length = maskOf off bytes.length ∧ (e.data.drop off).take bytes.length = bytes := by
  obtain ⟨x, hx, hl, hm⟩ := Core.mbPut_holds (c := c) (line := line) (off := off) kind h hb
  have hmem : x ∈ (c.mbPut kind line off bytes h).mbOver line (maskOf off bytes.length) :=
    List.mem_filter.mpr ⟨hx, Bool.and_eq_true_iff.mpr ⟨decide_eq_true hl, decide_eq_true hm⟩⟩
  refine ⟨_, List.getLast?_eq_getLast_of_ne_nil (List.ne_nil_of_mem hmem), ?_⟩
  obtain ⟨he, hcond⟩ := List.mem_filter.mp (List.getLast_mem (List.ne_nil_of_mem hmem))
  obtain ⟨hel, hem⟩ := Bool.and_eq_true_iff.mp hcond
  exact Core.mbPut_shows kind h hlen hdata hover _ he (of_decide_eq_true hel) (of_decide_eq_true hem)

end

/-! ### Store instructions -/

/-- A part enters the merging buffer of its core. -/
theorem State.storePart_mbuf {s : State} {h pa : Nat} {uc : Bool} {kind : MbKind}
    (hk : mbKind? (s.region pa) pa uc = some kind) (bytes : List Byte) :
    ((s.storePart h pa uc bytes).core (coreOf h)).mbuf =
      ((s.core (coreOf h)).mbPut kind (pa / 64) (pa % 64) bytes h).mbuf := by
  unfold State.storePart
  simp only [hk]
  split
  · change ((s.setCore (coreOf h) _).core (coreOf h)).mbuf = _
    rw [State.core_setCore_self]
    rfl
  · exact congrArg Core.mbuf (State.core_setCore_self ..)

theorem State.storePart_region (s : State) (h pa : Nat) (uc : Bool) (bytes : List Byte) (a : Nat) :
    (s.storePart h pa uc bytes).region a = s.region a := by
  unfold State.storePart
  split
  · rfl
  · dsimp only
    split <;> rfl

/-- R192: a load of exactly the bytes that entered sees them. -/
theorem State.partLook_storePart {s : State} {h pa : Nat} {uc : Bool} {bytes : List Byte}
    (hk : (mbKind? (s.region pa) pa uc).isSome = true) (hb : bytes ≠ []) (hlen : pa % 64 + bytes.length ≤ 64)
    (hdata : ∀ e ∈ (s.core (coreOf h)).mbuf, e.line = pa / 64 → e.data.length = 64)
    (hover : (s.core (coreOf h)).mbOver (pa / 64) (maskOf (pa % 64) bytes.length) = []) :
    (s.storePart h pa uc bytes).partLook (coreOf h) false { pa := pa, len := bytes.length, uc := uc } = .data bytes := by
  obtain ⟨kind, hkind⟩ := Option.isSome_iff_exists.mp hk
  obtain ⟨e, hlast, hmask, hslice⟩ := Core.mbOver_mbPut kind h hb hlen hdata hover
  have hlook : ((s.storePart h pa uc bytes).core (coreOf h)).mbOver (pa / 64) (maskOf (pa % 64) bytes.length) =
      ((s.core (coreOf h)).mbPut kind (pa / 64) (pa % 64) bytes h).mbOver (pa / 64) (maskOf (pa % 64) bytes.length) := by
    rw [Core.mbOver, State.storePart_mbuf hkind]
    rfl
  unfold State.partLook
  simp only [State.storePart_region, hk, Bool.not_false, Bool.and_self, if_true, hlook, hlast, hmask]
  exact congrArg PartLook.data hslice

section

variable {s : State} {h : Tid} {ps : List Part} {bytes : List Byte} (va : Word)

/-- R190: a store whose parts the merging buffer takes, with room for them and no fill at the L1 port. -/
theorem State.tryStore_buffered (hb : ps.all (fun p => (mbKind? (s.region p.pa) p.pa p.uc).isSome) = true)
    (hf : (s.core (coreOf h)).fill = none) (hl : ((s.storeParts h ps bytes).core (coreOf h)).mbuf.length ≤ 16) :
    s.tryStore h va ps bytes = (s.storeParts h ps bytes).modThread h (·.next) := by
  simp only [State.tryStore, hb, hf, Nat.not_lt.mpr hl, Option.isSome_none, Bool.false_and, decide_false, Bool.or_self,
    Bool.false_eq_true, if_false, if_true]

theorem State.tryStore_posted (hb : ps.all (fun p => (mbKind? (s.region p.pa) p.pa p.uc).isSome) = false)
    (ht : s.txnFree h = true) : s.tryStore h va ps bytes = s.modThread h fun t =>
      ({ t with posted := t.posted ++ ps.map fun p => { pa := p.pa, bytes := bytes, va := va } } : Thread).next := by
  simp only [State.tryStore, hb, ht, Bool.not_true, Bool.false_eq_true, if_false]

variable (hs : s.ready h = true) {gs1 : Reg5} {imm : BitVec 16} {len : Nat} {v : Thread → Word}
include hs

theorem State.storeInstr_fault {code : Nat}
    (hr : s.resolve h ((s.thread h).readG gs1 + imm.signExtend 64) len .store = .fault code) :
    s.storeInstr h gs1 imm len v = .next (s.fault h code ((s.thread h).readG gs1 + imm.signExtend 64)) := by
  rw [State.storeInstr, State.instr_ready hs]
  simp only [hr]

theorem State.storeInstr_tries
    (hr : s.resolve h ((s.thread h).readG gs1 + imm.signExtend 64) len .store = .parts ps) :
    s.storeInstr h gs1 imm len v = .next (s.tryStore h ((s.thread h).readG gs1 + imm.signExtend 64) ps
      (leBytes len (v (s.thread h)).toNat)) := by
  rw [State.storeInstr, State.instr_ready hs]
  simp only [hr]

end

end Sys2Proof.Machine
end

section
/-! PROOF. Atomics up to their transaction, and what completes with it (R121, R150, R193); loads, stores and atomics together. -/

namespace Sys2Proof.Machine

/-! ### Operands and results -/

/-- R121: the sum in the width of the atomic. -/
theorem toNat_ofNat_add (w o v : Nat) : (o + v) % 2 ^ w = (BitVec.ofNat w o + BitVec.ofNat w v).toNat := by
  rw [BitVec.toNat_add, BitVec.toNat_ofNat, BitVec.toNat_ofNat, Nat.add_mod]

theorem min_toNat {w : Nat} (o v : BitVec w) : min o.toNat v.toNat = (if o.toNat ≤ v.toNat then o else v).toNat := by
  rw [min_def, apply_ite BitVec.toNat]

theorem max_toNat {w : Nat} (o v : BitVec w) : max o.toNat v.toNat = (if o.toNat ≤ v.toNat then v else o).toNat := by
  rw [max_def, apply_ite BitVec.toNat]

/-- The old value that gd receives is sign-extended from the width of the atomic. -/
theorem AtomicOp.old_eq (a : AtomicOp) (old : Nat) :
    a.old old = (BitVec.ofNat (if a.wide then 64 else 32) old).signExtend 64 := by
  unfold AtomicOp.old
  cases a.wide with
  | true => exact (BitVec.signExtend_eq _).symm
  | false => rfl

/-! ### An atomic reaches MA -/

section

variable {s : State} {h : Tid} (hs : s.ready h = true) {op : AOp} {gd gs1 gs2 : Reg5} {rel wide : Bool}
include hs

theorem State.atomicInstr_misaligned (hm : ((s.thread h).readG gs1).toNat % (if wide then 8 else 4) ≠ 0) :
    s.atomicInstr h op gd gs1 gs2 rel wide = .next (s.fault h 0x07 ((s.thread h).readG gs1)) := by
  rw [State.atomicInstr, State.instr_ready hs]
  exact congrArg _ (if_pos hm)

/-- R193: the entries of its line are marked, in the release form all of them. -/
theorem State.atomicInstr_waits (hm : ((s.thread h).readG gs1).toNat % (if wide then 8 else 4) = 0)
    (ht : s.txnFree h = true) {p : Part} {ps : List Part}
    (hr : s.resolve h ((s.thread h).readG gs1) (if wide then 8 else 4) .store = .parts (p :: ps))
    (hp : (∃ c l, s.region p.pa = .normal c l) ∨ (∃ m o, s.region p.pa = .seedbox m o) ∨ ∃ k l, s.region p.pa = .remote k l) :
    s.atomicInstr h op gd gs1 gs2 rel wide =
      .next ((if rel then s.markAll (coreOf h) else s.markLine (coreOf h) (p.pa / 64)).modThread h fun t =>
        { t with hold := some (.atomic
            { va := (s.thread h).readG gs1, pa := p.pa, uc := p.uc, wide := wide, op := op, gd := gd,
              arg := t.readG gs2, cmp := t.readG gd, rel := rel
              upto := (s.core (coreOf h)).mbNext }) }) := by
  have hnext : ((s.markLine (coreOf h) (p.pa / 64)).core (coreOf h)).mbNext = (s.core (coreOf h)).mbNext := by
    rw [State.markLine, State.markMb_core]
  rw [State.atomicInstr, State.instr_ready hs]
  cases rel <;> rcases hp with ⟨c, l, hp⟩ | ⟨m, o, hp⟩ | ⟨k, l, hp⟩ <;>
  · simp only [hm, ht, hr, hp, hnext, State.markAll_mbNext, firstPart, ne_eq, not_true_eq_false, Bool.not_true,
      Bool.false_eq_true, if_false, if_true]
    rfl

end

/-! ### Its transaction completes -/

/-- A core locks up by FUR_LOCKSTAT alone. -/
theorem locked_of_only {s t : State} (e : t.keep (Facet.only (.blk .FUR)) = s.keep (Facet.only (.blk .FUR))) (n : Nat) :
    t.locked n = s.locked n :=
  congrArg (·.testBit (n % 8)) (f_of_keep e (Facet.only_self _) (n / 8))

theorem State.lineRead_locked (s : State) (f pa len : Nat) (uc : Bool) (src : Nat) (res : MemRes) (n : Nat) :
    (s.lineRead f pa len uc src res).2.locked n = s.locked n := locked_of_only (by simp) n

theorem State.lineWrite_locked (s : State) (f line mask : Nat) (data : List Byte) (uc : Bool) (keep : Option Nat)
    (res : MemRes) (n : Nat) : (s.lineWrite f line mask data uc keep res).2.locked n = s.locked n := locked_of_only (by simp) n

/-- An instruction that was in progress completes in a core that has not locked up. -/
theorem State.completes_unlocked {s : State} {h : Nat} (hl : s.locked (coreOf h) = false) (f : Thread → Thread) :
    s.completes h f = s.modThread h f := by
  simp only [State.completes, hl, Bool.false_eq_true, if_false]

theorem execMemoryTransactionComplete_load {s : State} {h : Tid} {l : LoadOp} (res : MemRes)
    (hp : (s.thread h).nextPosted = none) (hh : (s.thread h).hold = some (.load l)) :
    execMemoryTransactionComplete h res s = .next (s.loadGoes h l res) := by
  simp only [execMemoryTransactionComplete, hp, hh]

/-- An atomic of this package, which the merging buffer and its channel no longer delay. -/
theorem execMemoryTransactionComplete_atomic {s : State} {h : Tid} {a : AtomicOp} (res : MemRes)
    (hp : (s.thread h).nextPosted = none) (hh : (s.thread h).hold = some (.atomic a)) (hr : s.atomicReady h a = true)
    (hc : s.readHeld (furrowOf (coreOf h)) a.pa a.uc = false)
    (hreg : (∃ c l, s.region a.pa = .normal c l) ∨ ∃ m o, s.region a.pa = .seedbox m o) :
    execMemoryTransactionComplete h res s = .next (s.atomicHere h a res) := by
  simp only [execMemoryTransactionComplete, hp, hh, State.atomicGoes, hr, Bool.not_true, Bool.false_eq_true, if_false]
  rcases hreg with ⟨c, l, hn⟩ | ⟨m, o, hn⟩
  · simp only [hn, hc, Bool.false_eq_true, if_false]
  · simp only [hn]

section

variable {s u : State} {h : Nat} {a : AtomicOp} {res : MemRes} (hl : s.locked (coreOf h) = false)
include hl

theorem State.atomicHere_data {b : List Byte}
    (hr : s.lineRead (furrowOf (coreOf h)) a.pa (if a.wide then 8 else 4) a.uc 0 res = (.data b, u)) : s.atomicHere h a res =
    (match a.result (leNat b) with
      | none => u
      | some v => (u.lineWrite (furrowOf (coreOf h)) (a.pa / 64) (maskOf (a.pa % 64) (if a.wide then 8 else 4))
          (List.replicate (a.pa % 64) 0 ++ leBytes (if a.wide then 8 else 4) v) a.uc none .ok).2).modThread h
      fun t => (t.writeG a.gd (a.old (leNat b))).next := by
  have hu : u.locked (coreOf h) = false := by
    rw [← hl, ← State.lineRead_locked s (furrowOf (coreOf h)) a.pa (if a.wide then 8 else 4) a.uc 0 res, hr]
  simp only [State.atomicHere, hr, State.finishAtomic]
  refine State.completes_unlocked ?_ _
  split
  · exact hu
  · rw [State.lineWrite_locked, hu]

theorem State.atomicHere_poison
    (hr : s.lineRead (furrowOf (coreOf h)) a.pa (if a.wide then 8 else 4) a.uc 0 res = (.poison, u)) :
    s.atomicHere h a res = u.modThread h fun t => t.fault 0x11 a.va := by
  have hu : u.locked (coreOf h) = false := by
    rw [← hl, ← State.lineRead_locked s (furrowOf (coreOf h)) a.pa (if a.wide then 8 else 4) a.uc 0 res, hr]
  simp only [State.atomicHere, hr, State.atomicFails]
  exact State.completes_unlocked hu _

theorem State.atomicHere_decode
    (hr : s.lineRead (furrowOf (coreOf h)) a.pa (if a.wide then 8 else 4) a.uc 0 res = (.decode, u)) :
    s.atomicHere h a res = u.modThread h fun t => t.fault 0x06 a.va := by
  have hu : u.locked (coreOf h) = false := by
    rw [← hl, ← State.lineRead_locked s (furrowOf (coreOf h)) a.pa (if a.wide then 8 else 4) a.uc 0 res, hr]
  simp only [State.atomicHere, hr, State.atomicFails]
  exact State.completes_unlocked hu _

end

/-- Settles O17: loads by what `State.tryLoad` finds, stores by `State.tryStore`, atomics up to their transaction and with
it. -/
theorem loadStoreAtomicResults : Obligations.LoadStoreAtomicResults := by
  unfold Obligations.LoadStoreAtomicResults
  refine ⟨?loads, ?stores, ?atomics⟩
  case loads =>
    intro s h r gs1 imm hs ht n va look i len sg dest hi
    have hload : ∀ par, exec (i par) s = s.loadInstr h gs1 imm len sg dest par := by
      simp only [List.mem_cons, List.not_mem_nil, or_false, Prod.mk.injEq] at hi
      rcases hi with ⟨rfl, rfl, rfl, rfl⟩ | ⟨rfl, rfl, rfl, rfl⟩ | ⟨rfl, rfl, rfl, rfl⟩ | ⟨rfl, rfl, rfl, rfl⟩ |
        ⟨rfl, rfl, rfl, rfl⟩ | ⟨rfl, rfl, rfl, rfl⟩ | ⟨rfl, rfl, rfl, rfl⟩ | ⟨rfl, rfl, rfl, rfl⟩ | ⟨rfl, rfl, rfl, rfl⟩ |
        ⟨rfl, rfl, rfl, rfl⟩
      · exact fun par => exec_lb ..
      · exact fun par => exec_lbu ..
      · exact fun par => exec_lh ..
      · exact fun par => exec_lhu ..
      · exact fun par => exec_lw ..
      · exact fun par => exec_lwu ..
      · exact fun par => exec_ld ..
      · exact fun par => exec_flh ..
      · exact fun par => exec_flw ..
      · exact fun par => exec_fld ..
    refine ⟨fun ps bs hr hd => ?data, fun ps hr hfree => ⟨fun hm ho => ?outside, fun line hm => ?missed⟩,
      fun ps hr ho => ?overlap, fun ps hr p hp hk hd hl => ?parity,
      fun par code hr => (hload par).trans (State.loadInstr_fault hs ht hr)⟩
    case data =>
      refine (hload false).trans ((State.loadInstr_tries hs ht hr).trans ?_)
      rw [State.tryLoad_data hd, State.finishLoad, loadValue_eq]
    case outside =>
      refine (hload false).trans ((State.loadInstr_tries hs ht hr).trans ?_)
      rw [State.tryLoad_outside hfree hm ho]
      rfl
    case missed =>
      refine ⟨_, (hload false).trans (State.loadInstr_tries hs ht hr), ?_⟩
      dsimp only
      rw [State.tryLoad_missed hfree hm, State.tally_core, State.tally_thread]
      exact ⟨congrArg Core.fill (State.core_setCore_self ..), State.thread_modThread_self ..⟩
    case overlap =>
      obtain ⟨marked, htry⟩ := State.tryLoad_overlap (s := s) (h := h)
        (op := { va := va, parts := ps, dest := dest, signed := sg }) ho
      refine ⟨_, (hload false).trans ((State.loadInstr_tries hs ht hr).trans (congrArg _ htry)), marked,
        State.thread_modThread_self .., fun e he hm => ?_⟩
      exact s.markMb_closed n (marked.contains ·) e he (List.contains_iff_mem.mpr hm)
    case parity =>
      obtain ⟨⟨c, l, hnormal⟩, hu⟩ := normal_of_mbKind hk (State.resolve_load_served hr p hp)
      have hlacks := State.lacks_parityMiss (op := { va := va, parts := ps, dest := dest, signed := sg }) hp hnormal hu hd hl
      rcases State.loadInstr_parity (signed := sg) (dest := dest) hs ht hr with hexec | ⟨hold, hexec⟩
      · exact ⟨_, (hload true).trans hexec, (State.lacks_tryLoad hlacks _).l1dLine⟩
      · exact ⟨_, (hload true).trans hexec, hlacks.l1dLine⟩
  case stores =>
    intro s h r gs1 imm hs n t va buffered
    refine ⟨fun i len v hi => ?_, fun pa uc bytes hk hb hlen hdata hover => State.partLook_storePart hk hb hlen hdata hover⟩
    have hstore : ∃ f : Thread → Word, f t = v ∧ exec i s = s.storeInstr h gs1 imm len f := by
      simp only [List.mem_cons, List.not_mem_nil, or_false, Prod.mk.injEq] at hi
      rcases hi with ⟨rfl, rfl, rfl⟩ | ⟨rfl, rfl, rfl⟩ | ⟨rfl, rfl, rfl⟩ | ⟨rfl, rfl, rfl⟩ | ⟨rfl, rfl, rfl⟩ | ⟨rfl, rfl, rfl⟩ |
        ⟨rfl, rfl, rfl⟩
      · exact ⟨(·.readG r), rfl, exec_sb ..⟩
      · exact ⟨(·.readG r), rfl, exec_sh ..⟩
      · exact ⟨(·.readG r), rfl, exec_sw ..⟩
      · exact ⟨(·.readG r), rfl, exec_sd ..⟩
      · exact ⟨(·.readF r), rfl, exec_fsh ..⟩
      · exact ⟨(·.readF r), rfl, exec_fsw ..⟩
      · exact ⟨(·.readF r), rfl, exec_fsd ..⟩
    obtain ⟨f, rfl, hexec⟩ := hstore
    refine ⟨fun ps hr hb hf hl => ?_, fun ps hr hb ht => ?_, fun code hr => hexec.trans (State.storeInstr_fault hs hr)⟩
    · exact hexec.trans ((State.storeInstr_tries hs hr).trans (congrArg _ (State.tryStore_buffered _ hb hf hl)))
    · exact hexec.trans ((State.storeInstr_tries hs hr).trans (congrArg _ (State.tryStore_posted _ hb ht)))
  case atomics =>
    intro s h gd gs1 gs2 acq rel wide res n t va len
    refine ⟨fun hs i op hi => ?reach, fun a old => ⟨?result, a.old_eq old⟩, fun a hp hl hh ha hc hreg => ?atomic,
      fun l hp hh => ?load⟩
    case reach =>
      have hatomic : exec i s = s.atomicInstr h op gd gs1 gs2 rel wide := by
        simp only [List.mem_cons, List.not_mem_nil, or_false, Prod.mk.injEq] at hi
        rcases hi with ⟨rfl, rfl⟩ | ⟨rfl, rfl⟩ | ⟨rfl, rfl⟩ | ⟨rfl, rfl⟩ | ⟨rfl, rfl⟩ | ⟨rfl, rfl⟩ | ⟨rfl, rfl⟩ | ⟨rfl, rfl⟩ |
          ⟨rfl, rfl⟩ | ⟨rfl, rfl⟩
        · exact exec_atomicSwap ..
        · exact exec_atomicAdd ..
        · exact exec_atomicAnd ..
        · exact exec_atomicOr ..
        · exact exec_atomicXor ..
        · exact exec_atomicMin ..
        · exact exec_atomicMax ..
        · exact exec_atomicMinu ..
        · exact exec_atomicMaxu ..
        · exact exec_atomicCas ..
      exact ⟨fun hm => hatomic.trans (State.atomicInstr_misaligned hs hm),
        fun p ps hm ht hr hp => hatomic.trans (State.atomicInstr_waits hs hm ht hr hp)⟩
    case result =>
      unfold AtomicOp.result
      cases a.op with
      | swap => rfl
      | add => exact congrArg some (toNat_ofNat_add ..)
      | and => rfl
      | or => rfl
      | xor => rfl
      | min => exact congrArg (fun x : BitVec (if a.wide then 64 else 32) => some x.toNat) (ite_slt_eq_ite_le ..)
      | max => exact congrArg (fun x : BitVec (if a.wide then 64 else 32) => some x.toNat) (ite_slt_eq_ite_le_swap ..)
      | minu => exact congrArg some (min_toNat ..)
      | maxu => exact congrArg some (max_toNat ..)
      | cas => rfl
    case atomic =>
      intro bytes
      have hexec := (exec_memoryTransactionComplete h res s).trans (execMemoryTransactionComplete_atomic res hp hh ha hc hreg)
      split
      next b u hr => exact hexec.trans (congrArg _ (State.atomicHere_data hl hr))
      next u hr => exact hexec.trans (congrArg _ (State.atomicHere_poison hl hr))
      next u hr => exact hexec.trans (congrArg _ (State.atomicHere_decode hl hr))
    case load =>
      have hexec := (exec_memoryTransactionComplete h res s).trans (execMemoryTransactionComplete_load res hp hh)
      unfold State.loadGoes at hexec
      split
      next b u hr =>
        rw [hexec, hr]
        exact congrArg (fun v => Host.Outcome.next (u.modThread h fun t => (t.writeDest l.dest v).next)) (loadValue_eq l b)
      next u hr =>
        rw [hexec, hr]
        rfl
      next u hr =>
        rw [hexec, hr]
        rfl
      next => trivial

end Sys2Proof.Machine
end

section
/-! PROOF. Fetching without an exception (R113): the fetch itself is an access to the furrow cache (R196). -/

namespace Sys2Proof.Machine

/-- A thread that may run its next instruction has nothing raised, and its core issues. -/
theorem State.runs_of_ready {s : State} {h : Nat} (hs : s.ready h = true) :
    s.coreRuns (coreOf h) = true ∧ (s.thread h).mode = .running ∧ (s.thread h).raised = none := by
  simp only [State.ready, Bool.and_eq_true, decide_eq_true_eq] at hs
  tauto

/-- A fetch that raises nothing leaves what its accesses leave. -/
theorem execExceptionEntry_fetches {s a : State} {h : Tid} {r res ent : MemRes} (hs : s.ready h = true)
    (hw : s.walkWaits h (s.thread h).ring (s.thread h).pc .fetch = false) (hf : s.fetchExc h r = (none, a)) :
    execExceptionEntry h (some r) res ent s = .next a := by
  obtain ⟨hc, hm, hr⟩ := State.runs_of_ready hs
  simp only [execExceptionEntry, hc, hm, hr, hs, hw, hf, ne_eq, not_true_eq_false, decide_false, Bool.not_true, Bool.or_self,
    Bool.and_false, Bool.false_eq_true, if_false]

/-- A thread at a NOP (the word 0xA8000000, at PC 0) that no cache holds. -/
def uncachedNop : State where
  clk := { porstHeld := false, porstLow := false }
  threads := [(0, { mode := .running })]
  granary := { mem := [(3, 0xA8)] }

/-- The NOP is fetched without an exception. -/
theorem uncachedNop_fetches : uncachedNop.ready 0 = true ∧ uncachedNop.walkWaits 0 (uncachedNop.thread 0).ring
    (uncachedNop.thread 0).pc .fetch = false ∧ (uncachedNop.fetchExc 0 .ok).1 = none := by
  decide +kernel

/-- R196: the fetch brought the NOP's line into the furrow cache, which held none. -/
theorem uncachedNop_installs :
    uncachedNop.caches.fc.length = 0 ∧ (uncachedNop.fetchExc 0 .ok).2.caches.fc.length = 1 := by
  decide +kernel

/-- Refutes O18: the clause that a fetch which raises nothing leaves the whole state as it was. A NOP that misses the caches is
fetched without an exception, and the fetch installs its line in the furrow cache (R196). -/
theorem not_exceptionAndDoubleFaultEntry : ¬ Obligations.ExceptionAndDoubleFaultEntry := by
  unfold Obligations.ExceptionAndDoubleFaultEntry
  intro h
  obtain ⟨hready, hwalk, hnone⟩ := uncachedNop_fetches
  obtain ⟨hempty, hinstalled⟩ := uncachedNop_installs
  obtain ⟨-, hfetch, -⟩ := h.1 uncachedNop 0 { code := 0, epc := 0, eaddr := 0 } .ok .ok 0 rfl
  have hexc : uncachedNop.fetchExc 0 .ok = (none, (uncachedNop.fetchExc 0 .ok).2) := Prod.ext hnone rfl
  have hsame := hfetch .ok hready hwalk
  rw [hexc] at hsame
  have hnext := (execExceptionEntry_fetches (res := .ok) (ent := .ok) hready hwalk hexc).symm.trans hsame
  rw [Host.Outcome.next.inj hnext] at hinstalled
  omega

end Sys2Proof.Machine
end

section
/-! PROOF. The tile unit up to dispatch: acceptance, TSYNC, and the instruction that dispatches (R160, R224 to R228, R239). -/

namespace Sys2Proof.Machine

/-! ### TCTL -/

theorem Thread.tctl_setSeed (t : Thread) (v : Nat) :
    (t.setSeed v).tctl.toNat = v % 2 ^ 32 * 2 ^ 32 + t.tctl.toNat % 2 ^ 32 := by
  unfold Thread.setSeed
  rw [BitVec.toNat_ofNat, Nat.mod_eq_of_lt]
  omega

theorem Thread.pc_setSeed (t : Thread) (v : Nat) : (t.setSeed v).pc = t.pc := by
  unfold Thread.setSeed
  rfl

theorem Thread.seed_congr {t u : Thread} (ht : t.tctl = u.tctl) : t.seed = u.seed := by rw [Thread.seed, Thread.seed, ht]

theorem Thread.seed_setSeed (t : Thread) (v : Nat) : (t.setSeed v).seed = v % 2 ^ 32 := by
  rw [Thread.seed, Thread.tctl_setSeed]
  omega

theorem seedNext_lt (seed : Nat) : seedNext seed < 2 ^ 32 := Nat.mod_lt _ (Nat.two_pow_pos 32)

/-- A new seed leaves TCTL's other fields. -/
theorem Thread.tprecise_setSeed (t : Thread) (v : Nat) : (t.setSeed v).tprecise = t.tprecise := by
  have hbit : ∀ n : Nat, (n % 2 ^ 32).testBit 8 = n.testBit 8 := fun n => by
    rw [Nat.testBit_mod_two_pow]
    simp
  have hlow : (t.setSeed v).tctl.toNat % 2 ^ 32 = t.tctl.toNat % 2 ^ 32 := by
    rw [Thread.tctl_setSeed]
    omega
  rw [Thread.tprecise, Thread.tprecise, ← hbit, hlow, hbit]

/-! ### Acceptance (R224, R227, R228) -/

theorem TFn.retiresLate_iff (f : TFn) : f.retiresLate = true ↔ f = .tld ∨ f = .tst ∨ f = .tget := by
  simp [TFn.retiresLate, or_assoc]

/-- The context of a thread whose instruction draws its seed (R268). -/
def Thread.seedDrawn (t : Thread) (i : TileIns) : Thread := if i.stochastic then t.setSeed (seedNext t.seed) else t

section

variable (t : Thread) (i : TileIns) (seq : Nat)

theorem Thread.seedDrawn_seed : (t.seedDrawn i).seed = if i.rnd = 1 then seedNext t.seed else t.seed := by
  unfold Thread.seedDrawn TileIns.stochastic
  by_cases hr : i.rnd = 1
  · rw [if_pos (decide_eq_true hr), if_pos hr, Thread.seed_setSeed, Nat.mod_eq_of_lt (seedNext_lt _)]
  · rw [if_neg (by simpa using hr), if_neg hr]

theorem Thread.seedDrawn_tprecise : (t.seedDrawn i).tprecise = t.tprecise := by
  unfold Thread.seedDrawn
  split
  · rw [Thread.tprecise_setSeed]
  · rfl

theorem Thread.seedDrawn_pc : (t.seedDrawn i).pc = t.pc := by
  unfold Thread.seedDrawn
  split
  · exact t.pc_setSeed _
  · rfl

/-- The context of a thread whose instruction was accepted under the number `seq`. -/
def Thread.tileAccepted (t : Thread) (i : TileIns) (seq : Nat) : Thread :=
  if i.fn.retiresLate || (t.seedDrawn i).tprecise then { t.seedDrawn i with hold := some (.tileRun seq) }
  else (t.seedDrawn i).tileNext

theorem Thread.tileAccepted_seed : (t.tileAccepted i seq).seed = if i.rnd = 1 then seedNext t.seed else t.seed := by
  rw [← Thread.seedDrawn_seed]
  unfold Thread.tileAccepted
  split
  · exact Thread.seed_congr rfl
  · exact Thread.seed_congr rfl

theorem Thread.tileAccepted_late (hl : (i.fn.retiresLate || t.tprecise) = true) :
    (t.tileAccepted i seq).hold = some (.tileRun seq) ∧ (t.tileAccepted i seq).pc = t.pc := by
  rw [Thread.tileAccepted, Thread.seedDrawn_tprecise, if_pos hl]
  exact ⟨rfl, t.seedDrawn_pc i⟩

theorem Thread.tileAccepted_retires (hl : ¬(i.fn.retiresLate || t.tprecise) = true) :
    (t.tileAccepted i seq).hold = none ∧ (t.tileAccepted i seq).pc = t.pc + 8 := by
  rw [Thread.tileAccepted, Thread.seedDrawn_tprecise, if_neg hl]
  exact ⟨rfl, congrArg (· + 8) (t.seedDrawn_pc i)⟩

end

/-- The entry that an accepted instruction takes in the queue. -/
def State.tileEntryOf (s : State) (h : Nat) (i : TileIns) (l : List TSeg) : TileEntry :=
  { seq := (s.tile (coreOf h)).nextSeq, thread := h, pc := (s.thread h).pc, ins := i, segs := l,
    upto := (s.core (coreOf h)).mbNext, seed := (s.thread h).seed, spill := (s.thread h).spillCode,
    base := if i.fn = .topen then i.baseOf else (s.grpView (coreOf h) i.grp).base,
    int := if i.fn = .topen then tIsInt i.fa else (s.grpView (coreOf h) i.grp).int, epoch := (s.thread h).tsyncs }

/-- An instruction stands last in the queue. -/
def State.tileQueued (s : State) (h : Nat) (i : TileIns) (l : List TSeg) : State :=
  s.setTile (coreOf h) { s.tile (coreOf h) with
    queue := (s.tile (coreOf h)).queue ++ [s.tileEntryOf h i l], nextSeq := (s.tile (coreOf h)).nextSeq + 1 }

theorem State.tileTake_eq (s : State) (h : Nat) (i : TileIns) (l : List TSeg) : s.tileTake h i l =
    (if i.fn.isMem then (s.tileQueued h i l).markMb (coreOf h) fun m => l.any fun g => segOverlaps g m
      else s.tileQueued h i l).modThread h fun t => t.tileAccepted i (s.tile (coreOf h)).nextSeq := rfl

theorem State.tileTake_tile (s : State) (h : Nat) (i : TileIns) (l : List TSeg) : (s.tileTake h i l).tile (coreOf h) =
    { s.tile (coreOf h) with
        queue := (s.tile (coreOf h)).queue ++ [s.tileEntryOf h i l], nextSeq := (s.tile (coreOf h)).nextSeq + 1 } := by
  rw [State.tileTake_eq]
  split
  · exact State.tile_setTile_self ..
  · exact State.tile_setTile_self ..

theorem State.tileTake_thread (s : State) (h : Nat) (i : TileIns) (l : List TSeg) :
    (s.tileTake h i l).thread h = (s.thread h).tileAccepted i (s.tile (coreOf h)).nextSeq := by
  rw [State.tileTake_eq, State.thread_modThread_self]
  split
  · rfl
  · rfl

section

variable {s : State} {h : Tid} {i : TileIns} {l : List TSeg} (hh : (s.thread h).hold = some (.tile i l))
  (hr : (s.tile (coreOf h)).room h i l = true)
include hh hr

theorem execTileAccept_raises {x : Nat × Word} (hc : s.grpCheck h i = some x) :
    execTileAccept h s = .next (s.fault h x.1 x.2) := by
  simp only [execTileAccept, hh, hr, hc, Bool.not_true, Bool.false_eq_true, if_false]

theorem execTileAccept_takes (hc : s.grpCheck h i = none) : execTileAccept h s = .next (s.tileTake h i l) := by
  simp only [execTileAccept, hh, hr, hc, Bool.not_true, Bool.false_eq_true, if_false]

end

/-! ### TSYNC (R160, R226) -/

theorem State.hold_setHold (s : State) (h : Nat) (w : Option Hold) : ((s.setHold h w).thread h).hold = w :=
  congrArg Thread.hold (s.thread_modThread_self h _)

theorem Thread.tsyncRetires_reads (t : Thread) :
    t.tsyncRetires.pc = t.pc + 8 ∧ t.tsyncRetires.taddr = none ∧ t.tsyncRetires.tsyncs = t.tsyncs + 1 ∧
      t.tsyncRetires.hold = none ∧ t.tsyncRetires.raised = (if t.ten &&& t.tflags ≠ 0 then
        some { code := 0x0B, epc := t.pc + 8, eaddr := (t.taddr.map (·.2)).getD 0 } else t.raised) := by
  unfold Thread.tsyncRetires
  dsimp only
  split
  · exact ⟨rfl, rfl, rfl, rfl, rfl⟩
  · exact ⟨rfl, rfl, rfl, rfl, rfl⟩

section

variable {s : State} {h : Tid} {g : Bool} (hs : s.ready h = true)
include hs

theorem execTsync_retires (hd : s.tsyncDone h g (s.tile (coreOf h)).nextSeq = true) : execTsync h g s =
    .next ((s.setHold h (some (.tsync g (s.tile (coreOf h)).nextSeq))).modThread h (·.tsyncRetires)) := by
  rw [execTsync, State.instr_ready hs, State.wakeTsync, State.hold_setHold]
  exact congrArg _ (if_pos hd)

theorem execTsync_waits (hd : s.tsyncDone h g (s.tile (coreOf h)).nextSeq = false) : execTsync h g s =
    .next (s.setHold h (some (.tsync g (s.tile (coreOf h)).nextSeq))) := by
  rw [execTsync, State.instr_ready hs, State.wakeTsync, State.hold_setHold]
  exact congrArg _ (if_neg (Bool.eq_false_iff.mp hd))

end

/-- A thread that does not wait at a TSYNC is not woken from one. -/
theorem State.wakeTsync_other {s : State} {h : Nat} (hh : ∀ g upto, (s.thread h).hold ≠ some (.tsync g upto)) :
    s.wakeTsync h = s := by
  unfold State.wakeTsync
  split
  next g upto he => exact absurd he (hh g upto)
  next => rfl

/-! ### Dispatch (R225) -/

theorem TFn.readsEarly_iff (f : TFn) : f.readsEarly = true ↔ f = .tsave ∨ f = .tbind := by simp [TFn.readsEarly]

theorem execTileDispatch_dispatches {s : State} {n : Cid} {ecc : SiloEcc} {j : Nat} {e : TileEntry}
    (hj : (s.tile n).nextDispatch = some j) (he : (s.tile n).queue[j]? = some e) {v : State}
    (hv : (if e.ins.fn = .tsave ∨ e.ins.fn = .tbind then s.siloEcc n e ecc else s) = v) : execTileDispatch n ecc s =
    .next (v.setTile n { v.tile n with queue := setNth (v.tile n).queue j (v.dispatched n e) }) := by
  simp only [execTileDispatch, hj, he, TFn.readsEarly_iff, hv]

end Sys2Proof.Machine
end

section
/-! PROOF. The tile unit from dispatch on: memory segments and completion (R222, R223, R225, R227, R230, R244). -/

namespace Sys2Proof.Machine

/-! ### Segments (R222, R223, R230) -/

/-- An access that no till program holds is not queued at its channel. -/
theorem State.arrive_of_free {s : State} {pa : Nat} (hp : s.directHeld pa = false) (x : Held) : s.arrive pa x = s := by
  unfold State.directHeld at hp
  unfold State.arrive
  split
  next c l hr =>
    rw [hr] at hp
    simp only [Bool.or_eq_false_iff, Bool.and_eq_false_iff, Bool.not_eq_false'] at hp
    obtain ⟨-, hfree⟩ := hp
    refine if_pos ?_
    rcases hfree with hload | hserve
    · simp [hload]
    · simp [hserve]
  next => rfl

theorem State.segsArrive_of_free {s : State} {n : Nat} {e : TileEntry}
    (hf : e.segs.all (fun g => !s.directHeld g.pa) = true) (js : List Nat) : s.segsArrive n e js = s := by
  unfold State.segsArrive
  refine List.foldl_fixed' (fun j => ?_) js
  split
  next g hg =>
    have hfree := List.all_eq_true.mp hf g (List.mem_of_getElem? hg)
    rw [if_neg (by simpa using hfree)]
  next => rfl

section

variable {s u : State} {n k j : Nat} {e : TileEntry} {g : TSeg} {res : MemRes}

theorem State.segRead_data {b : List Byte} (hr : s.lineRead (furrowOf n) g.pa g.len g.uc 0 res = (.data b, u)) :
    s.segRead n k e j g res = u.setEntryAt n k { e with segs := setNth e.segs j { g with staged := some b } } := by
  simp only [State.segRead, hr]

/-- R230: a TLD whose read brings no data leaves the queue with its fault. -/
theorem State.segRead_fails {r : LineRead} (hr : s.lineRead (furrowOf n) g.pa g.len g.uc 0 res = (r, u))
    (hd : ∀ b, r ≠ .data b) (hf : e.ins.fn = .tld) :
    s.segRead n k e j g res = u.tldFails n e (if r = .decode then 0x05 else 0x11) g.va := by
  cases r with
  | data b => exact absurd rfl (hd b)
  | decode =>
    rw [State.segRead, hr]
    exact if_pos hf
  | poison =>
    rw [State.segRead, hr]
    exact if_pos hf

theorem State.segWrite_acks {ok : Bool} (hw : s.lineWrite (furrowOf n) (g.pa / 64) (maskOf (g.pa % 64) g.len)
      (lineImage (g.pa % 64) (g.staged.getD [])) g.uc none res = (ok, u)) : s.segWrite n k e j g res =
    (if ok then u else u.lateStore g.pa e.thread).setEntryAt n k
      { e with segs := setNth e.segs j { g with acked := true } } := by
  simp only [State.segWrite, hw]

end

section

variable {s : State} {n : Cid} {k : Fin 16} {e : TileEntry} (he : (s.tile n).queue[k.val]? = some e)
  (hm : s.tileMbWait n e.segs e.upto = false) {j : Nat} {g : TSeg} {res : MemRes}
include he hm

theorem execTldSegment_reads (hf : e.segs.all (fun g => !s.directHeld g.pa) = true)
    (hi : e.ins.fn = .tld ∨ (e.ins.fn = .trestore ∧ e.dispatched = true))
    (hg : firstSeg (fun y => y.staged.isNone && !s.readHeld (furrowOf n) y.pa y.uc) e.segs = some (j, g)) :
    execTldSegment n k res s = .next (s.segRead n k e j g res) := by
  have hguard : (!e.ins.fn.isRead || (e.ins.fn = .trestore && !e.dispatched) || s.tileMbWait n e.segs e.upto) = false := by
    rcases hi with hi | ⟨hi, hd⟩
    · simp [TFn.isRead, hi, hm]
    · simp [TFn.isRead, hi, hd, hm]
  simp only [execTldSegment, he, hguard, Bool.false_eq_true, if_false, State.segsArrive_of_free hf, hg]

theorem execTstRowAck_writes (hi : e.ins.fn = .tst ∨ e.ins.fn = .tsave) (hd : e.dispatched = true)
    (hg : firstSeg (fun y => !y.acked) e.segs = some (j, g))
    (hw : s.writeHeld (furrowOf n) (g.pa / 64) (maskOf (g.pa % 64) g.len) g.uc = false) :
    execTstRowAck n k res s = .next (s.segWrite n k e j g res) := by
  have hguard : (!(e.ins.fn = .tst || e.ins.fn = .tsave) || !e.dispatched || s.tileMbWait n e.segs e.upto) = false := by
    rcases hi with hi | hi
    · simp [hi, hd, hm]
    · simp [hi, hd, hm]
  simp only [execTstRowAck, he, hguard, hg, hw, Bool.false_eq_true, if_false]

end

/-! ### Completion (R225, R227) -/

theorem Thread.hold_writeG (t : Thread) (r : Reg5) (v : Word) : (t.writeG r v).hold = t.hold := by
  unfold Thread.writeG
  split <;> rfl

theorem State.restoreGroup_thread (s : State) (n : Nat) (e : TileEntry) (k : Nat) :
    (s.restoreGroup n e).thread k = s.thread k := thread_of_only (by simp) k

/-- What a thread waits for does not change with the effect of a completed instruction: a TGET writes a register, and the
others write no context. -/
theorem State.tileEffect_hold (s : State) (n : Nat) (e : TileEntry) (k : Nat) :
    ((s.tileEffect n e).1.thread k).hold = (s.thread k).hold := by
  cases hf : e.ins.fn with
  | tget =>
    simp only [State.tileEffect, hf]
    by_cases hk : k = e.thread
    · rw [hk, State.thread_modThread_self, Thread.hold_writeG]
    · rw [State.thread_modThread_ne _ hk]
  | trestore => simp only [State.tileEffect, hf, State.restoreGroup_thread]
  | tst | tsave | tbind => simp only [State.tileEffect, hf]
  | _ =>
    simp only [State.tileEffect, hf]
    rfl

section

variable (t : Thread) (e : TileEntry) (fl : Nat)

theorem Thread.tileFlags_reads : (t.tileFlags e fl).tflags = t.tflags ||| fl ∧ (t.tileFlags e fl).pc = t.pc ∧
    (t.tileFlags e fl).hold = t.hold := by
  unfold Thread.tileFlags
  dsimp only
  split
  · exact ⟨rfl, rfl, rfl⟩
  · exact ⟨rfl, rfl, rfl⟩

variable {t e}

theorem Thread.tileEnds_waited (hh : t.hold = some (.tileRun e.seq)) :
    (t.tileEnds e fl).tflags = t.tflags ∧ (t.tileEnds e fl).pc = t.pc + 8 ∧ (t.tileEnds e fl).hold = none := by
  unfold Thread.tileEnds
  rw [if_pos hh]
  dsimp only
  split
  · exact ⟨rfl, rfl, rfl⟩
  · exact ⟨rfl, rfl, rfl⟩

theorem Thread.tileEnds_other (hh : t.hold ≠ some (.tileRun e.seq)) : t.tileEnds e fl = t := if_neg hh

end

/-- An entry leaves the queue, and its thread takes its flags and its end. -/
def State.tileEnded (v : State) (n : Nat) (e : TileEntry) (fl : Nat) : State :=
  (v.setTile n { v.tile n with queue := (v.tile n).queue.filter fun y => y.seq ≠ e.seq }).modThread e.thread fun t =>
    (t.tileFlags e fl).tileEnds e fl

section

variable (v : State) (n : Nat) (e : TileEntry) (fl : Nat)

theorem State.tileEnded_tile : (v.tileEnded n e fl).tile n =
    { v.tile n with queue := (v.tile n).queue.filter fun y => y.seq ≠ e.seq } := State.tile_setTile_self ..

theorem State.tileEnded_thread_self :
    (v.tileEnded n e fl).thread e.thread = ((v.thread e.thread).tileFlags e fl).tileEnds e fl :=
  State.thread_modThread_self ..

theorem State.tileEnded_thread_ne {k : Nat} (hk : k ≠ e.thread) : (v.tileEnded n e fl).thread k = v.thread k :=
  State.thread_modThread_ne _ hk _

variable {v e}

/-- The thread that waited for the instruction retires it. -/
theorem State.tileEnded_waited (hh : (v.thread e.thread).hold = some (.tileRun e.seq)) :
    ((v.tileEnded n e fl).thread e.thread).tflags = (v.thread e.thread).tflags ||| fl ∧
      ((v.tileEnded n e fl).thread e.thread).pc = (v.thread e.thread).pc + 8 ∧
      ((v.tileEnded n e fl).thread e.thread).hold = none := by
  obtain ⟨hflags, hpc, hhold⟩ := (v.thread e.thread).tileFlags_reads e fl
  obtain ⟨hflags', hpc', hhold'⟩ := Thread.tileEnds_waited fl (hhold.trans hh)
  rw [State.tileEnded_thread_self]
  exact ⟨hflags'.trans hflags, by rw [hpc', hpc], hhold'⟩

/-- A thread that did not wait for it goes on as it was. -/
theorem State.tileEnded_other (hh : (v.thread e.thread).hold ≠ some (.tileRun e.seq)) :
    ((v.tileEnded n e fl).thread e.thread).tflags = (v.thread e.thread).tflags ||| fl ∧
      ((v.tileEnded n e fl).thread e.thread).pc = (v.thread e.thread).pc ∧
      ((v.tileEnded n e fl).thread e.thread).hold = (v.thread e.thread).hold := by
  obtain ⟨hflags, hpc, hhold⟩ := (v.thread e.thread).tileFlags_reads e fl
  rw [State.tileEnded_thread_self, Thread.tileEnds_other fl (by rwa [hhold])]
  exact ⟨hflags, hpc, hhold⟩

/-- No thread comes to wait at a TSYNC when an instruction ends. -/
theorem State.tileEnded_hold {k : Nat} {g : Bool} {upto : Nat} (hh : (v.thread k).hold ≠ some (.tsync g upto)) :
    ((v.tileEnded n e fl).thread k).hold ≠ some (.tsync g upto) := by
  by_cases hk : k = e.thread
  · subst hk
    by_cases hw : (v.thread e.thread).hold = some (.tileRun e.seq)
    · obtain ⟨-, -, hhold⟩ := State.tileEnded_waited n fl hw
      rw [hhold]
      exact Option.some_ne_none _ |>.symm
    · obtain ⟨-, -, hhold⟩ := State.tileEnded_other n fl hw
      rwa [hhold]
  · rwa [State.tileEnded_thread_ne _ _ _ _ hk]

end

/-- Threads of which none waits at a TSYNC: none is woken. -/
theorem State.foldl_wakeTsync_of_none {s : State} {l : List Nat}
    (hl : ∀ k ∈ l, ∀ g upto, (s.thread k).hold ≠ some (.tsync g upto)) : l.foldl (fun s h => s.wakeTsync h) s = s := by
  induction l with
  | nil => rfl
  | cons k l ih =>
    rw [List.foldl_cons, State.wakeTsync_other (hl k List.mem_cons_self)]
    exact ih fun j hj => hl j (List.mem_cons_of_mem _ hj)

theorem execTileComplete_ends {s : State} {n : Cid} {k : Fin 16} {e : TileEntry}
    (he : (s.tile n).queue[k.val]? = some e) (hd : e.done ((s.tile n).queue.take k) = true)
    (hn : ∀ j ∈ coreThreads n, ∀ g upto, (s.thread j).hold ≠ some (.tsync g upto)) :
    execTileComplete n k .clean s = .next ((s.tileEffect n e).1.tileEnded n e (s.tileEffect n e).2) := by
  have hclean : (if e.ins.fn.readsLate then s.siloEcc n e .clean else s) = s := ite_self s
  have hwake : (coreThreads n).foldl (fun s h => s.wakeTsync h) ((s.tileEffect n e).1.tileEnded n e (s.tileEffect n e).2) =
      (s.tileEffect n e).1.tileEnded n e (s.tileEffect n e).2 :=
    State.foldl_wakeTsync_of_none fun j hj g upto =>
      State.tileEnded_hold _ _ (by rw [State.tileEffect_hold]; exact hn j hj g upto)
  simp only [execTileComplete, he, hd, hclean, Bool.not_true, Bool.false_eq_true, if_false]
  exact congrArg _ hwake

/-! ### The obligation -/

/-- Settles O24: each command by what it answers in the clause's case, and what that leaves in the tile unit and in the
thread. -/
theorem tileUnitResults : Obligations.TileUnitResults := by
  unfold Obligations.TileUnitResults
  refine ⟨fun s h g => ?thread, fun s n ecc => ?dispatch, fun s n k res => ?segments, fun s n k => ?complete⟩
  case thread =>
    intro t c
    refine ⟨?accept, fun hs => ⟨fun hd => ?retires, fun hd => execTsync_waits hs hd⟩⟩
    case accept =>
      split
      next i l hh =>
        intro hr
        split
        next x hc => exact execTileAccept_raises hh hr hc
        next hc =>
          intro late
          refine ⟨_, execTileAccept_takes hh hr hc, ?_⟩
          have htile : (s.tileTake h i l).tile c = _ := s.tileTake_tile h i l
          dsimp only
          rw [htile, State.tileTake_thread]
          have hlate : late ∨ t.tprecise = true ↔ (i.fn.retiresLate || t.tprecise) = true := by
            rw [Bool.or_eq_true, TFn.retiresLate_iff]
          refine ⟨List.dropLast_concat .., ?_, rfl, rfl, t.tileAccepted_seed i _, fun hl => ?_, fun hl => ?_⟩
          · simp only [List.getLast?_concat]
            exact ⟨rfl, rfl, rfl, rfl, rfl, rfl, rfl, rfl, rfl⟩
          · exact t.tileAccepted_late i _ (hlate.mp hl)
          · exact t.tileAccepted_retires i _ (hl ∘ hlate.mpr)
      next => trivial
    case retires =>
      refine ⟨_, execTsync_retires hs hd, ?_⟩
      obtain ⟨-, -, hraised⟩ : _ ∧ _ ∧ t.raised = none := State.runs_of_ready hs
      dsimp only
      rw [State.thread_modThread_self, State.setHold, State.thread_modThread_self, ← hraised]
      exact Thread.tsyncRetires_reads _
  case dispatch =>
    split
    next j hj =>
      split
      next e he =>
        intro v
        exact execTileDispatch_dispatches hj he rfl
      next => trivial
    next => trivial
  case segments =>
    split
    next e he =>
      intro hm hf
      refine ⟨fun hi => ?read, fun hi hd => ?write⟩
      case read =>
        split
        next j x hx =>
          have hexec := execTldSegment_reads (res := res) he hm hf hi hx
          split
          next b u hr => exact hexec.trans (congrArg _ (State.segRead_data hr))
          next r u hd hr => exact fun hl => hexec.trans (congrArg _ (State.segRead_fails hr hd hl))
        next => trivial
      case write =>
        split
        next j x hx =>
          intro mask hw
          exact (execTstRowAck_writes he hm hi hd hx hw).trans (congrArg _ (State.segWrite_acks rfl))
        next => trivial
    next => trivial
  case complete =>
    split
    next e he =>
      intro hd hn v fl t
      have hnone : ∀ j ∈ coreThreads n, ∀ g upto, (s.thread j).hold ≠ some (.tsync g upto) := fun j hj g upto hh => by
        have hj' := List.all_eq_true.mp hn j hj
        rw [hh] at hj'
        exact Bool.false_ne_true hj'
      refine ⟨v.tileEnded n e fl, execTileComplete_ends he hd hnone, ?_⟩
      dsimp only
      rw [State.tileEnded_tile]
      refine ⟨rfl, rfl, rfl, rfl, ?_, fun hh => ?_, fun hh => ?_, fun j hj => State.tileEnded_thread_ne _ _ _ _ hj⟩
      · by_cases hh : t.hold = some (.tileRun e.seq)
        · exact (State.tileEnded_waited n fl hh).1
        · exact (State.tileEnded_other n fl hh).1
      · exact (State.tileEnded_waited n fl hh).2
      · exact (State.tileEnded_other n fl hh).2
    next => trivial

end Sys2Proof.Machine
end

section
/-! PROOF. What a completing tile instruction writes: td, a general register or its group's registers (R217, R238, R239). -/

namespace Sys2Proof.Machine

/-! ### Elementwise instructions (Table 9-4) -/

/-- The instructions of the major opcodes 0x31 and 0x32: each writes one result per element to td. -/
def TFn.elementwise (f : TFn) : Bool := f.code.1 = 0x31 || f.code.1 = 0x32

/-- Element (r, c) of an elementwise instruction, and its flags. -/
def TileEntry.elem (e : TileEntry) (fn : TFn) (r c : Nat) : Nat × Nat :=
  let i := e.ins
  let a := elemAt e.srcA r c
  let b := elemAt e.srcB r c
  let rnd := tRnd i.rnd e.seed r c
  match fn with
  | .tadd => tBin .add rnd i.fa i.fd a b
  | .tsub => tBin .sub rnd i.fa i.fd a b
  | .tmul => tBin .mul rnd i.fa i.fd a b
  | .tmin => tBin .min rnd i.fa i.fd a b
  | .tmax => tBin .max rnd i.fa i.fd a b
  | .tand => (a &&& b, 0)
  | .tor => (a ||| b, 0)
  | .txor => (a ^^^ b, 0)
  | .tmov => (a, 0)
  | .tcvt => tCvt rnd i.fa i.fd a
  | .tfill => (i.v1.toNat % 2 ^ tBits i.fd, 0)
  | .tneg => tNeg i.fa a
  | .tabs => tAbs i.fa a
  | .tmuls => tScalar .mul rnd i.fa i.fd a (i.v1.toNat % 2 ^ 32)
  | .tadds => tScalar .add rnd i.fa i.fd a (i.v1.toNat % 2 ^ 32)
  | _ => (0, 0)

theorem tabulate_fst (rows cols : Nat) (f : Nat → Nat → Nat × Nat) :
    (tabulate rows cols f).1 = (List.range rows).map fun r => (List.range cols).map fun c => (f r c).1 := by
  simp [tabulate, Function.comp_def]

/-- R217: an elementwise instruction writes its elements over its shape, and no more than td. -/
theorem State.tileEffect_writes (s : State) (n : Nat) {e : TileEntry} {fn : TFn} (hf : e.ins.fn = fn)
    (hel : fn.elementwise = true) : s.tileEffect n e = (s.writeTd n e e.ins.fd
      ((List.range e.ins.rows).map fun r => (List.range e.ins.cols).map fun c => (e.elem fn r c).1),
        (s.tileEffect n e).2) := by
  cases fn with
  | tld | tst | tget | tput | tmmp | tmma | texport | texportC | topen | tclose | tsave | trestore | tbind =>
    exact absurd hel (by decide)
  | _ => simp only [State.tileEffect, TileEntry.result, TileEntry.elem, hf, tabulate_fst]

/-! ### Words of a tile -/

section

variable (s : State) (n : Nat) {e : TileEntry}

theorem State.tileEffect_tget (hf : e.ins.fn = .tget) : (s.tileEffect n e).1.thread e.thread =
    (s.thread e.thread).writeG (Fin.ofNat 32 e.ins.r2) (BitVec.ofNat 64 (elemAt e.srcA 0 0)) := by
  simp only [State.tileEffect, hf, State.thread_modThread_self]

theorem State.tileEffect_tput (hf : e.ins.fn = .tput) : (s.tileEffect n e).1 = s.setTile n { s.tile n with
    frags := (s.tile n).frags.write ((e.thread % 8 * 8 + e.ins.td) * 512 + 8 * (e.ins.v1.toNat % 64))
      (leBytes 8 e.ins.v2.toNat) } := by
  simp only [State.tileEffect, hf]

/-! ### Groups (R238, R239, R254) -/

/-- Another field of the same instance reads as before. -/
theorem State.f_setF_field {F G : Fld} (h : G.id ≠ F.id) (i v : Nat) : (s.setF F i v).f G i = s.f G i :=
  s.f_setF_ne (Fld.key_ne_of_id_ne h i) v

theorem State.on_setF_field {F G : Fld} (h : G.id ≠ F.id) (i v : Nat) : (s.setF F i v).on G i = s.on G i := by
  rw [State.on, State.on, s.f_setF_field h]

theorem State.on_setOn_field {F G : Fld} (h : G.id ≠ F.id) (i : Nat) (b : Bool) : (s.setOn F i b).on G i = s.on G i :=
  s.on_setF_field h i _

/-- What TOPEN leaves in the register of its group, each value to the width of its field. -/
theorem State.tileEffect_topen (hf : e.ins.fn = .topen) :
    let u := (s.tileEffect n e).1
    let g := grpInst n e.ins.grp
    u.on FUR_GRP.OPEN g = true ∧ u.on FUR_GRP.INT g = e.int ∧ u.on FUR_GRP.POISON g = false ∧
      u.f FUR_GRP.SPILL g = e.spill % 2 ^ 3 ∧ u.f FUR_GRP.BASE g = e.base % 2 ^ 10 ∧
      u.f FUR_GRP.ROWS g = (e.ins.rows - 1) % 2 ^ 6 ∧ u.f FUR_GRP.COLS g = (e.ins.cols - 1) % 2 ^ 6 ∧
      u.f FUR_GRP.PHASE g = 0 := by
  simp (disch := decide) only [State.tileEffect, hf, State.on_setOn_self, State.on_setOn_field, State.on_setF_field,
    State.f_setF_self, State.f_setF_field, true_and]
  exact ⟨rfl, rfl, rfl, rfl, rfl⟩

theorem State.tileEffect_closes (hf : e.ins.fn = .tclose ∨ e.ins.fn = .texportC) :
    (s.tileEffect n e).1.on FUR_GRP.OPEN (grpInst n e.ins.grp) = false := by
  rcases hf with hf | hf
  · simp (disch := decide) only [State.tileEffect, hf, State.on_setOn_self]
  · simp (disch := decide) only [State.tileEffect, hf, State.on_setOn_self]

end

/-! ### The obligation -/

/-- Settles O25: the elementwise instructions by their common write of td, the others by what each leaves in its register,
word or group. -/
theorem tileEffectsOnTilesAndGroups : Obligations.TileEffectsOnTilesAndGroups := by
  unfold Obligations.TileEffectsOnTilesAndGroups
  intro s n e i A B rnd grp writes
  have hwrites : ∀ fn : TFn, fn.elementwise = true → i.fn = fn → writes i.fd fun r c => (e.elem fn r c).1 :=
    fun _ hel hf => State.tileEffect_writes s n hf hel
  refine ⟨fun fn op hop => ?bin, hwrites .tand rfl, hwrites .tor rfl, hwrites .txor rfl, hwrites .tmov rfl,
    hwrites .tzero rfl, hwrites .tfill rfl, hwrites .tcvt rfl, hwrites .tneg rfl, hwrites .tabs rfl, hwrites .tmuls rfl,
    hwrites .tadds rfl, fun hf hlt => ?get, State.tileEffect_tput s n, fun hf hrows hcols hr hc hb hs => ?opens,
    State.tileEffect_closes s n⟩
  case bin =>
    simp only [List.mem_cons, List.not_mem_nil, or_false, Prod.mk.injEq] at hop
    rcases hop with ⟨rfl, rfl⟩ | ⟨rfl, rfl⟩ | ⟨rfl, rfl⟩ | ⟨rfl, rfl⟩ | ⟨rfl, rfl⟩
    · exact hwrites .tadd rfl
    · exact hwrites .tsub rfl
    · exact hwrites .tmul rfl
    · exact hwrites .tmin rfl
    · exact hwrites .tmax rfl
  case get =>
    rw [State.tileEffect_tget s n hf, Thread.readG_writeG, if_pos rfl]
    exact if_congr (by rw [Fin.val_ofNat, Nat.mod_eq_of_lt hlt]) rfl rfl
  case opens =>
    obtain ⟨hopen, hint, hpoison, hspill, hbase, hrow, hcol, hphase⟩ := State.tileEffect_topen s n hf
    have hfit : ∀ x, 1 ≤ x → x ≤ 64 → (x - 1) % 2 ^ 6 + 1 = x := by omega
    exact ⟨hopen, hint, hpoison, hspill.trans (Nat.mod_eq_of_lt hs), hbase.trans (Nat.mod_eq_of_lt hb),
      (congrArg (· + 1) hrow).trans (hfit _ hr hrows), (congrArg (· + 1) hcol).trans (hfit _ hc hcols), hphase⟩

end Sys2Proof.Machine
end

section
/-! PROOF. Binder's registers, signals and failures: what an operation's record and BND_OPn_STAT read after each (R250, R255,
R259, Table 10-8). -/

namespace Sys2Proof.Machine

/-! ### Parts that an operation keeps -/

theorem on_of_keep {m : Facet → Bool} {s t : State} (e : t.keep m = s.keep m) {F : Fld} (hF : m (.blk F.blk) = true)
    (i : Nat) : t.on F i = s.on F i := by
  unfold State.on
  rw [f_of_keep e hF]

theorem tile_of_keep {m : Facet → Bool} {s t : State} (e : t.keep m = s.keep m) (h : m .tiles = true)
    (hc : m .clk = true) (hp : m .por = true) (n : Nat) : t.tile n = s.tile n := by
  unfold State.tile
  rw [tiles_of_keep e h, clk_of_keep e hc hp]

theorem bndOp_of_keep {m : Facet → Bool} {s t : State} (e : t.keep m = s.keep m) (h : m .bnd = true) (n : Nat) :
    t.bndOp n = s.bndOp n := by
  have hb : t.bnd = s.bnd := by simpa [State.keep, h] using congrArg State.bnd e
  unfold State.bndOp
  rw [hb]

/-- Binder's own state: its operations and its registers. -/
def binderParts : Facet → Bool := among [.bnd, .blk .BND]

/-- A write of memory leaves Binder's own state alone. -/
theorem State.bndWrite_binder (s : State) (pa : Nat) (b : List Byte) :
    (s.bndWrite pa b).2.keep binderParts = s.keep binderParts := State.bndWrite_keep rfl rfl rfl rfl rfl rfl rfl s pa b

/-- So does BINDER_DONE. -/
theorem State.bndDone_binder (s : State) (n : Nat) : (s.bndDone n).keep binderParts = s.keep binderParts :=
  State.bndDone_keep rfl s n

/-- So does the report to the other packages. -/
theorem State.bndReport_binder (s : State) (n word : Nat) : (s.bndReport n word).keep binderParts = s.keep binderParts :=
  State.bndReport_keep rfl rfl rfl rfl rfl rfl s n word

/-! ### The record of an operation, and BND_OPn_STAT -/

@[simp] theorem State.bndOp_setBnd_self (s : State) (n : Nat) (b : BndOp) : (s.setBnd n b).bndOp n = b := by
  simp [State.bndOp]

theorem State.f_setOn_field (s : State) {F G : Fld} (h : G.id ≠ F.id) (i : Nat) (b : Bool) :
    (s.setOn F i b).f G i = s.f G i := s.f_setF_field h i _

/-- The fields that showing an operation leaves alone. -/
theorem State.bndStat_f (s : State) (n : Nat) {F : Fld} (ha : F.id ≠ BND_OP_STAT.ARRIVED.id)
    (hp : F.id ≠ BND_OP_STAT.POISON.id) (hb : F.id ≠ BND_OP_STAT.BUSY.id) : (s.bndStat n).f F n = s.f F n := by
  unfold State.bndStat
  rw [State.f_setOn_field _ hb, State.f_setOn_field _ hp, State.f_setF_field _ ha]

theorem State.bndStat_on (s : State) (n : Nat) {F : Fld} (ha : F.id ≠ BND_OP_STAT.ARRIVED.id)
    (hp : F.id ≠ BND_OP_STAT.POISON.id) (hb : F.id ≠ BND_OP_STAT.BUSY.id) : (s.bndStat n).on F n = s.on F n := by
  rw [State.on, State.on, s.bndStat_f n ha hp hb]

theorem State.bndStat_failed (s : State) (n : Nat) : (s.bndStat n).on BND_OP_STAT.FAILED n = s.on BND_OP_STAT.FAILED n :=
  s.bndStat_on n (by decide) (by decide) (by decide)

theorem State.bndStat_arrived (s : State) (n : Nat) :
    (s.bndStat n).f BND_OP_STAT.ARRIVED n = (s.bndOp n).slots.length % 2 ^ 13 := by
  unfold State.bndStat
  rw [State.f_setOn_field _ (by decide), State.f_setOn_field _ (by decide), State.f_setF_self]
  rfl

theorem State.bndStat_poison (s : State) (n : Nat) : (s.bndStat n).on BND_OP_STAT.POISON n = (s.bndOp n).poison := by
  unfold State.bndStat
  rw [State.on_setOn_field _ (by decide), State.on_setOn_self _ rfl]

@[simp] theorem State.bndStat_bndOp (s : State) (n k : Nat) : (s.bndStat n).bndOp k = s.bndOp k := rfl
@[simp] theorem State.bndStat_granary (s : State) (n : Nat) : (s.bndStat n).granary = s.granary := rfl

/-! ### BINDER_DONE -/

/-- BINDER_DONE is pending in a thread. -/
def State.toldDone (s : State) (h : Nat) : Prop := s.bitF FUR_XPEND.SRC h (cBinderDone - 0x40) = true

theorem toldDone_of_keep {m : Facet → Bool} {s t : State} (e : t.keep m = s.keep m) (h : m (.blk .FUR) = true) {j : Nat}
    (ht : s.toldDone j) : t.toldDone j := by
  unfold State.toldDone State.bitF at *
  rwa [f_of_keep (F := FUR_XPEND.SRC) e h]

theorem State.raiseAsync_tells (s : State) (h : Nat) : (s.raiseAsync h cBinderDone).toldDone h :=
  s.bitF_setBitF_self (by decide) true

/-- An event that is raised in one thread stays pending in every other. -/
theorem State.toldDone.raiseAsync {s : State} {j : Nat} (ht : s.toldDone j) (h : Nat) :
    (s.raiseAsync h cBinderDone).toldDone j := by
  by_cases hj : j = h
  · exact hj ▸ s.raiseAsync_tells j
  · have hkey := Fld.key_ne_of_inst (F := FUR_XPEND.SRC) (G := FUR_XPEND.SRC) (by decide) (by decide) hj
    unfold State.toldDone State.bitF State.raiseAsync State.setBitF at *
    rwa [State.f_setF_ne _ hkey]

theorem foldl_raiseAsync_tells (l : List Nat) {h : Nat} :
    ∀ s : State, h ∈ l ∨ s.toldDone h → (l.foldl (fun s h => s.raiseAsync h cBinderDone) s).toldDone h := by
  induction l with
  | nil => exact fun s hs => hs.resolve_left List.not_mem_nil
  | cons a r ih =>
    refine fun s hs => ih _ ?_
    rcases hs with hm | ht
    · rcases List.mem_cons.mp hm with rfl | hr
      · exact .inr (s.raiseAsync_tells h)
      · exact .inl hr
    · exact .inr (ht.raiseAsync a)

/-- R250: BINDER_DONE is raised in every thread that contributed. -/
theorem State.bndDone_tells (s : State) (n : Nat) {h : Nat} (hm : h ∈ (s.bndOp n).threads) : (s.bndDone n).toldDone h :=
  foldl_raiseAsync_tells _ s (.inl hm)

/-! ### Failures (R255) -/

theorem State.bndFail_failed (s : State) (n reason : Nat) : (s.bndFail n reason).on BND_OP_STAT.FAILED n = true := by
  unfold State.bndFail
  split
  next h => exact h
  next => rw [on_of_keep (State.bndDone_binder _ n) rfl, State.bndStat_failed, State.on_setOn_self _ rfl]

theorem State.bndRoundFails_failed (s : State) (n reason : Nat) :
    (s.bndRoundFails n reason).on BND_OP_STAT.FAILED n = true := by
  unfold State.bndRoundFails
  split
  next h => exact h
  next => rw [on_of_keep (State.bndReport_binder _ n _) rfl, State.bndFail_failed]

/-! ### BND_OPn_CTL (R259) -/

theorem exec_bndOpnCtl_dropped {s : State} {agent : Agent} (ha : s.acts agent = true) (hd : agent ≠ .drill) (op : Fin 64)
    (v mode int : Bool) (slots elems : BitVec 12) : exec (.bndOpnCtl agent op v mode int slots elems) s =
      .next (s.writeDropped agent (0x1000 + 0x40 * op.val)) := by
  rw [exec_bndOpnCtl]
  simp only [execBndOpnCtl, ha, hd, Bool.not_true, Bool.false_eq_true, if_false]

theorem exec_bndOpnCtl_drill {s : State} (ha : s.acts .drill = true) (op : Fin 64) (v mode int : Bool)
    (slots elems : BitVec 12) : exec (.bndOpnCtl .drill op v mode int slots elems) s =
      .next (s.bndCtl op v mode int slots.toNat elems.toNat) := by
  rw [exec_bndOpnCtl]
  simp only [execBndOpnCtl, ha, Bool.not_true, Bool.false_eq_true, if_false, if_true]

/-- Every field of a write by Drill reads as it was written, and the record is a new one. -/
theorem State.bndCtl_results (s : State) (n : Nat) (v mode int : Bool) (slots elems : Nat) :
    let u := s.bndCtl n v mode int slots elems
    u.on BND_OP_CTL.V n = v ∧ u.on BND_OP_CTL.MODE n = mode ∧ u.on BND_OP_CTL.INT n = int ∧
      u.f BND_OP_CTL.N n = slots % 2 ^ 12 ∧ u.f BND_OP_CTL.E n = elems % 2 ^ 12 ∧
      u.on BND_OP_STAT.FAILED n = false ∧ u.f BND_OP_STAT.ROUND n = 0 ∧ u.f BND_OP_STAT.ARRIVED n = 0 ∧
      u.on BND_OP_STAT.POISON n = false ∧ u.bndOp n = {} := by
  have hset : ∀ (s : State) (b : BndOp) (F : Fld), (s.setBnd n b).f F n = s.f F n := fun _ _ _ => rfl
  have hon : ∀ (s : State) (b : BndOp) (F : Fld), (s.setBnd n b).on F n = s.on F n := fun _ _ _ => rfl
  simp (disch := decide) only [State.bndCtl, State.bndStat_on, State.bndStat_f, hset, hon, State.on_setOn_self,
    State.on_setOn_field, State.on_setF_field, State.f_setF_self, State.f_setF_field, State.f_setOn_field,
    State.bndStat_arrived, State.bndStat_poison, State.bndStat_bndOp, State.bndOp_setBnd_self, true_and]
  exact ⟨rfl, rfl, rfl, rfl, trivial⟩

end Sys2Proof.Machine
end

section
/-! PROOF. What Binder does with a contribution that arrives, with an addition and with a round that is complete (R248 to
R250, R255). -/

namespace Sys2Proof.Machine

/-! ### A contribution (R248, R255) -/

/-- The record with a thread among those that have contributed. -/
def BndOp.joined (b : BndOp) (h : Nat) : BndOp :=
  { b with threads := if b.threads.contains h then b.threads else b.threads ++ [h] }

theorem BndOp.joined_eq (b : BndOp) (h : Nat) :
    (if b.threads.contains h then b else { b with threads := b.threads ++ [h] }) = b.joined h := by
  unfold BndOp.joined
  split <;> rfl

/-- The state in which a thread is among those that have contributed. -/
def State.joins (s : State) (n h : Nat) : State := s.setBnd n ((s.bndOp n).joined h)

/-- The write of a contribution to its slot of the scratch area. -/
def State.slotWrite (s : State) (n slot : Nat) (vals : List Nat) : Bool × State :=
  s.bndWrite (s.bndScratch n + 8 * s.bndElems n * slot) (vals.flatMap (leBytes 8))

theorem State.slotWrite_joins_failed (s : State) (n h slot : Nat) (vals : List Nat) :
    ((s.joins n h).slotWrite n slot vals).2.on BND_OP_STAT.FAILED n = s.on BND_OP_STAT.FAILED n :=
  on_of_keep (State.bndWrite_binder _ _ _) rfl n

section
variable {s : State} {n slot h : Nat} {vals : List Nat} {poison : Bool}

/-- A failed operation discards a contribution. -/
theorem State.bndArrive_discards (hf : s.on BND_OP_STAT.FAILED n = true) :
    s.bndArrive n slot vals poison (some h) = (s.joins n h).raiseAsync h cBinderDone := by
  simp only [State.bndArrive, BndOp.joined_eq]
  exact if_pos hf

/-- A slot that has arrived arrives again. -/
theorem State.bndArrive_repeated (hf : s.on BND_OP_STAT.FAILED n = false)
    (hd : (find slot (s.bndOp n).slots).isSome = true) :
    s.bndArrive n slot vals poison (some h) = (s.joins n h).bndFail n 1 := by
  simp only [State.bndArrive, BndOp.joined_eq]
  exact (if_neg (ne_true_of_eq_false hf)).trans (if_pos hd)

/-- A contribution whose slot is not written. -/
theorem State.bndArrive_unwritten (hf : s.on BND_OP_STAT.FAILED n = false) (hd : find slot (s.bndOp n).slots = none)
    (hw : ((s.joins n h).slotWrite n slot vals).1 = false) :
    s.bndArrive n slot vals poison (some h) = ((s.joins n h).slotWrite n slot vals).2.bndFail n 2 := by
  simp only [State.bndArrive, BndOp.joined_eq]
  exact (if_neg (ne_true_of_eq_false hf)).trans <| (if_neg (by simp [BndOp.joined, hd])).trans (if_pos (by
    rw [Bool.not_eq_true']; exact hw))

/-- A contribution that is kept. -/
theorem State.bndArrive_keeps (hf : s.on BND_OP_STAT.FAILED n = false) (hd : find slot (s.bndOp n).slots = none)
    (hw : ((s.joins n h).slotWrite n slot vals).1 = true) :
    s.bndArrive n slot vals poison (some h) =
      (((s.joins n h).slotWrite n slot vals).2.setBnd n { (s.bndOp n).joined h with
        slots := put slot vals (s.bndOp n).slots, poison := (s.bndOp n).poison || poison }).bndStat n := by
  simp only [State.bndArrive, BndOp.joined_eq]
  exact (if_neg (ne_true_of_eq_false hf)).trans <| (if_neg (by simp [BndOp.joined, hd])).trans (if_neg (by
    rw [Bool.not_eq_true', Bool.not_eq_false]; exact hw))

variable {h : Option Nat}

/-- Only a failure that the contribution causes is reported. -/
theorem State.bndContribute_quiet (hq : s.on BND_OP_STAT.FAILED n = true ∨
    (s.bndArrive n slot vals poison h).on BND_OP_STAT.FAILED n = false) :
    s.bndContribute n slot vals poison h = s.bndArrive n slot vals poison h := by
  simp only [State.bndContribute]
  refine if_neg ?_
  rcases hq with hq | hq
  · simp [hq]
  · simp [hq]

theorem State.bndContribute_failed
    (hf : (s.bndArrive n slot vals poison h).on BND_OP_STAT.FAILED n = true) :
    (s.bndContribute n slot vals poison h).on BND_OP_STAT.FAILED n = true := by
  simp only [State.bndContribute]
  split
  · rw [on_of_keep (State.bndReport_binder _ n _) rfl, hf]
  · exact hf

end

/-- What a contribution of a thread of this package leaves: discarded by a failed operation; a failure, of a slot that has
arrived or of a write that fails; or kept in its slot. -/
theorem State.bndContribute_results (s : State) (n slot h : Nat) (vals : List Nat) (poison : Bool) :
    let u := s.bndContribute n slot vals poison (some h)
    let w := (s.joins n h).slotWrite n slot vals
    let arrived := find slot (s.bndOp n).slots
    (s.on BND_OP_STAT.FAILED n = true →
      u.on BND_OP_STAT.FAILED n = true ∧ u.granary = s.granary ∧ u.toldDone h) ∧
    (s.on BND_OP_STAT.FAILED n = false →
      (arrived.isSome = true → u.on BND_OP_STAT.FAILED n = true) ∧
      (arrived = none → w.1 = false → u.on BND_OP_STAT.FAILED n = true) ∧
      (arrived = none → w.1 = true → find slot (u.bndOp n).slots = some vals ∧
        u.granary.mem = w.2.granary.mem ∧ u.on BND_OP_STAT.FAILED n = false)) := by
  intro u w arrived
  refine ⟨fun hf => ?discards, fun hf => ⟨fun hd => ?repeats, fun hd hw => ?unwritten, fun hd hw => ?keeps⟩⟩
  case discards =>
    have hu : u = (s.joins n h).raiseAsync h cBinderDone :=
      (State.bndContribute_quiet (.inl hf)).trans (State.bndArrive_discards hf)
    rw [hu]
    have hkeep := State.raiseAsync_keep (m := binderParts) rfl (s.joins n h) h cBinderDone
    exact ⟨(on_of_keep (F := BND_OP_STAT.FAILED) hkeep rfl n).trans hf, rfl, State.raiseAsync_tells _ h⟩
  case repeats =>
    refine State.bndContribute_failed ?_
    rw [State.bndArrive_repeated hf hd, State.bndFail_failed]
  case unwritten =>
    refine State.bndContribute_failed ?_
    rw [State.bndArrive_unwritten hf hd hw, State.bndFail_failed]
  case keeps =>
    have harrive := State.bndArrive_keeps (poison := poison) hf hd hw
    have hgood : (s.bndArrive n slot vals poison (some h)).on BND_OP_STAT.FAILED n = false := by
      rw [harrive, State.bndStat_failed]
      exact (s.slotWrite_joins_failed n h slot vals).trans hf
    have hu : u = s.bndArrive n slot vals poison (some h) := State.bndContribute_quiet (.inr hgood)
    rw [hu]
    refine ⟨?_, ?_, hgood⟩
    · rw [harrive, State.bndStat_bndOp, State.bndOp_setBnd_self, find_put_self]
    · rw [harrive, State.bndStat_granary, State.setBnd_granary]

/-! ### SLOT_ARRIVAL (R248) -/

/-- The operation and the slot that a TBIND names. -/
def TileEntry.bindOp (e : TileEntry) : Nat := e.ins.v1.toNat / 4096 % 64
def TileEntry.bindSlot (e : TileEntry) : Nat := e.ins.v1.toNat % 4096

/-- A TBIND's totals reach Binder of this package. -/
theorem exec_slotArrival_home {s : State} {n : Cid} {k : Fin 16} {e : TileEntry} (res : MemRes)
    (hq : (s.tile n).queue[k.val]? = some e) (hf : e.ins.fn = .tbind) (hd : e.dispatched = true)
    (ha : e.arrived = false) (hs : e.bindSent = false) (hh : s.bndHome e.bindOp = true) :
    exec (.slotArrival n k res) s = .next
      { (State.bndContribute { s with res := res } e.bindOp e.bindSlot (e.totals (s.tile n))
          (s.on FUR_GRP.POISON (grpInst n e.ins.grp)) (some e.thread)).tbindDone n k e with res := .ok } := by
  have hq' : (State.tile { s with res := res } n).queue[k.val]? = some e := hq
  have hh' : State.bndHome { s with res := res } (e.ins.v1.toNat / 4096 % 64) = true := hh
  rw [exec_slotArrival]
  simp only [execSlotArrival, State.withRes, hq', hh', hf, hd, ha, hs, ne_eq, not_true_eq_false, decide_false,
    Bool.not_true, Bool.or_self, Bool.false_eq_true, if_false, if_true]
  rfl

/-- A contribution leaves the tile queues alone, and its entry is marked. -/
theorem State.tbindDone_bndContribute_queue (s : State) (n k op slot : Nat) (vals : List Nat) (poison : Bool)
    (h : Option Nat) (e : TileEntry) :
    (((s.bndContribute op slot vals poison h).tbindDone n k e).tile n).queue =
      setNth (s.tile n).queue k { e with arrived := true } := by
  have htile : (s.bndContribute op slot vals poison h).tile n = s.tile n :=
    tile_of_keep (m := among [.tiles, .clk, .por])
      (State.bndContribute_keep rfl rfl rfl rfl rfl rfl rfl rfl rfl rfl rfl rfl rfl rfl s op slot vals poison h)
      rfl rfl rfl n
  rw [State.tbindDone, State.setEntryAt, State.tile_setTile_self, htile]

/-! ### BINDER_COMBINE (R249) -/

section
variable {s : State} {op : Fin 64}

theorem exec_binderCombine_failed (hf : s.on BND_OP_STAT.FAILED op = true) : exec (.binderCombine op) s = .next s := by
  rw [exec_binderCombine]
  simp only [execBinderCombine, hf, if_true]

/-- What combining does with the addition that is possible next. -/
def State.combines (s : State) (op : Nat) (x : Nat × List Nat × Option (List Nat)) : State :=
  let b := s.bndOp op
  match x.2.2 with
  | none => s.setBnd op { b with nodes := put x.1 x.2.1 b.nodes }
  | some v =>
    let r := bndAddAll (s.on BND_OP_CTL.INT op) x.2.1 v
    s.setBnd op { b with nodes := put x.1 r.1 b.nodes, sat := b.sat || r.2 }

/-- The addition that is possible next, in the mode of the operation. -/
def State.bndPossible (s : State) (op : Nat) : Option (Nat × List Nat × Option (List Nat)) :=
  if s.on BND_OP_CTL.MODE op then (s.bndOp op).nextTree (s.bndSlots op) else (s.bndOp op).nextChain

theorem exec_binderCombine_of (hf : s.on BND_OP_STAT.FAILED op = false) :
    exec (.binderCombine op) s = .next (((s.bndPossible op).map (s.combines op)).getD s) := by
  rw [exec_binderCombine]
  simp only [execBinderCombine, hf, Bool.false_eq_true, if_false, State.bndPossible]
  cases (if s.on BND_OP_CTL.MODE op then (s.bndOp op).nextTree (s.bndSlots op) else (s.bndOp op).nextChain) with
  | none => rfl
  | some x =>
    obtain ⟨key, u, v⟩ := x
    cases v with
    | none => rfl
    | some v => rfl

end

/-- The node that an addition fills, and the slots, which it leaves alone. -/
theorem State.combines_bndOp (s : State) (op key : Nat) (u : List Nat) (v : Option (List Nat)) :
    let b := (s.combines op (key, u, v)).bndOp op
    find key b.nodes = some ((v.map fun v => (bndAddAll (s.on BND_OP_CTL.INT op) u v).1).getD u) ∧
      b.slots = (s.bndOp op).slots := by
  cases v with
  | none => simp only [State.combines, State.bndOp_setBnd_self, find_put_self, Option.map_none, Option.getD_none, and_self]
  | some v => simp only [State.combines, State.bndOp_setBnd_self, find_put_self, Option.map_some, Option.getD_some, and_self]

theorem BndOp.nextChain_none {b : BndOp} (h : find b.nodes.length b.slots = none) : b.nextChain = none := by
  simp only [BndOp.nextChain, h]

/-- Chain mode: slot 0 passes, and each later slot is added to the sum before it. -/
theorem BndOp.nextChain_some {b : BndOp} {x : List Nat} (h : find b.nodes.length b.slots = some x) :
    b.nextChain = some (if b.nodes.length = 0 then (b.nodes.length, x, none)
      else (b.nodes.length, findD [] (b.nodes.length - 1) b.nodes, some x)) := by
  simp only [BndOp.nextChain, h]
  split
  next h0 => rw [h0]
  next => rfl

/-- R249: an addition of int64 saturates when the exact sum leaves the type. -/
theorem bndAdd_int_saturates (x y : Nat) :
    (bndAdd true x y).2 = true ↔ sval 64 x + sval 64 y < -2 ^ 63 ∨ 2 ^ 63 ≤ sval 64 x + sval 64 y := by
  simp only [bndAdd, clampInt, intLo, intHi, if_true, Bool.false_eq_true, if_false]
  split
  next hlow => exact iff_of_true rfl (.inl hlow)
  next hlow =>
    split
    next hhigh => exact iff_of_true rfl (.inr (by omega))
    next hhigh => exact iff_of_false Bool.false_ne_true (by omega)

/-! ### BINDER_ROUND_COMPLETE (R250) -/

/-- The write of a round's result, and of its completion word behind it. -/
def State.resultWrite (s : State) (op : Nat) (vals : List Nat) : Bool × State :=
  s.bndWrite (s.bndResult op) (vals.flatMap (leBytes 8))
def State.wordWrite (s : State) (op : Nat) : Bool × State :=
  s.bndWrite (s.bndResult op + 8 * s.bndElems op) (leBytes 8 (s.bndWord op 0 false))

/-- A round with result `vals` ends: both writes reach memory and it is agreed, or it fails. -/
def State.roundEnds (s : State) (op : Nat) (vals : List Nat) : State :=
  let r := s.resultWrite op vals
  let w := r.2.wordWrite op
  if !r.1 then r.2.bndRoundFails op 2
  else if !w.1 then w.2.bndRoundFails op 2
  else w.2.bndAgreed op vals (r.2.bndWord op 0 false)

section
variable {s : State} {op : Fin 64} (res : MemRes)

theorem exec_binderRoundComplete_waits
    (hw : s.on BND_OP_STAT.FAILED op = true ∨ s.bndHome op = false ∨ s.bndValue op = none) :
    exec (.binderRoundComplete op res) s = .next (s.withRes res id) := by
  rw [exec_binderRoundComplete, execBinderRoundComplete]
  refine congrArg Host.Outcome.next (State.withRes_congr ?_)
  have hfailed : State.on { s with res := res } BND_OP_STAT.FAILED op = s.on BND_OP_STAT.FAILED op := rfl
  have hhome : State.bndHome { s with res := res } op = s.bndHome op := rfl
  have hvalue : State.bndValue { s with res := res } op = s.bndValue op := rfl
  rcases hw with hf | hh | hv
  · simp [hfailed, hf]
  · simp [hhome, hh]
  · simp [hvalue, hv]

theorem exec_binderRoundComplete_ends {vals : List Nat} (hf : s.on BND_OP_STAT.FAILED op = false)
    (hh : s.bndHome op = true) (hv : s.bndValue op = some vals) :
    exec (.binderRoundComplete op res) s = .next (s.withRes res fun s => s.roundEnds op vals) := by
  rw [exec_binderRoundComplete, execBinderRoundComplete]
  refine congrArg Host.Outcome.next (State.withRes_congr ?_)
  have hfailed : State.on { s with res := res } BND_OP_STAT.FAILED op = false := hf
  have hhome : State.bndHome { s with res := res } op = true := hh
  have hvalue : State.bndValue { s with res := res } op = some vals := hv
  generalize ({ s with res := res } : State) = t at *
  simp only [hfailed, hhome, hvalue, Bool.not_true, Bool.or_self, Bool.false_eq_true, if_false]
  unfold State.roundEnds State.resultWrite State.wordWrite
  rcases t.bndWrite (t.bndResult op) (vals.flatMap (leBytes 8)) with ⟨_ | _, u⟩
  · rfl
  · dsimp only
    rcases u.bndWrite (u.bndResult op + 8 * u.bndElems op) (leBytes 8 (u.bndWord op 0 false)) with ⟨_ | _, v⟩
    · rfl
    · rfl

end

/-- A round that spans no packages is agreed here alone. -/
theorem State.bndAgreed_local {s : State} {op : Nat} (hg : s.on BND_OP_ACRE.GLOBAL op = false)
    (hf : s.on BND_OP_STAT.FAILED op = false) (vals : List Nat) (w : Nat) :
    s.bndAgreed op vals w = (s.bndDone op).bndNext op := by
  have hglobal : (s.bndDone op).on BND_OP_ACRE.GLOBAL op = false := (on_of_keep (s.bndDone_binder op) rfl op).trans hg
  have hfailed : (s.bndDone op).on BND_OP_STAT.FAILED op = false := (on_of_keep (s.bndDone_binder op) rfl op).trans hf
  simp only [State.bndAgreed, hglobal, hfailed, Bool.false_eq_true, if_false]

/-- The next round begins with nothing arrived. -/
theorem State.bndNext_results (s : State) (op : Nat) :
    let u := s.bndNext op
    u.f BND_OP_STAT.ROUND op = (s.f BND_OP_STAT.ROUND op + 1) % 2 ^ 16 ∧ u.bndOp op = {} ∧
      u.f BND_OP_STAT.ARRIVED op = 0 ∧ u.granary = s.granary := by
  refine ⟨?_, ?_, ?_, rfl⟩
  · rw [State.bndNext, State.bndStat_f _ _ (by decide) (by decide) (by decide)]
    exact State.f_setF_self ..
  · rw [State.bndNext, State.bndStat_bndOp, State.bndOp_setBnd_self]
  · rw [State.bndNext, State.bndStat_arrived, State.bndOp_setBnd_self]
    rfl

section
variable {s : State} {op : Nat}

/-- Both writes of a round's end leave Binder's own state alone. -/
theorem State.wordWrite_resultWrite_binder (vals : List Nat) :
    ((s.resultWrite op vals).2.wordWrite op).2.keep binderParts = s.keep binderParts :=
  (State.bndWrite_binder _ _ _).trans (State.bndWrite_binder s _ _)

/-- A round of this package alone whose result and completion word reach memory. -/
theorem State.roundEnds_written (hg : s.on BND_OP_ACRE.GLOBAL op = false) (hf : s.on BND_OP_STAT.FAILED op = false)
    {vals : List Nat} (hr : (s.resultWrite op vals).1 = true) (hw : ((s.resultWrite op vals).2.wordWrite op).1 = true) :
    let u := s.roundEnds op vals
    u.granary.mem = ((s.resultWrite op vals).2.wordWrite op).2.granary.mem ∧
      u.f BND_OP_STAT.ROUND op = (s.f BND_OP_STAT.ROUND op + 1) % 2 ^ 16 ∧ u.bndOp op = {} ∧
      u.f BND_OP_STAT.ARRIVED op = 0 ∧ ∀ h ∈ (s.bndOp op).threads, u.toldDone h := by
  intro u
  have hkeep := State.wordWrite_resultWrite_binder (s := s) (op := op) vals
  have hu : u = (((s.resultWrite op vals).2.wordWrite op).2.bndDone op).bndNext op := by
    simp only [u, State.roundEnds, hr, hw, Bool.not_true, Bool.false_eq_true, if_false]
    exact State.bndAgreed_local ((on_of_keep hkeep rfl op).trans hg) ((on_of_keep hkeep rfl op).trans hf) vals _
  generalize ((s.resultWrite op vals).2.wordWrite op).2 = t at *
  obtain ⟨hround, hrecord, harrived, hgranary⟩ := (t.bndDone op).bndNext_results op
  rw [hu]
  refine ⟨?_, ?_, hrecord, harrived, fun h hm => ?_⟩
  · rw [hgranary]
    exact mem_of_keep (State.bndDone_keep (m := among [.mem]) rfl t op) rfl
  · rw [hround, f_of_keep (t.bndDone_binder op) rfl, f_of_keep hkeep rfl]
  · refine toldDone_of_keep (State.bndNext_keep (m := among [.blk .FUR]) rfl rfl _ op) rfl (t.bndDone_tells op ?_)
    rwa [bndOp_of_keep hkeep rfl]

/-- A round whose result or completion word does not reach memory. -/
theorem State.roundEnds_failed {vals : List Nat}
    (h : (s.resultWrite op vals).1 = false ∨ ((s.resultWrite op vals).2.wordWrite op).1 = false) :
    (s.roundEnds op vals).on BND_OP_STAT.FAILED op = true := by
  simp only [State.roundEnds]
  split
  next => exact State.bndRoundFails_failed _ op 2
  next hr =>
    have hw : ((s.resultWrite op vals).2.wordWrite op).1 = false := by
      refine h.resolve_left fun hn => hr ?_
      rw [hn]
      rfl
    rw [hw]
    exact State.bndRoundFails_failed _ op 2

end

/-! ### The obligation -/

/-- Settles O26: each command by what it leaves of the operation, its registers and the memory it writes. -/
theorem binderResults : Obligations.BinderResults := by
  unfold Obligations.BinderResults
  refine ⟨fun s op agent v mode int slots elems ha => ⟨fun hd => ?dropped, fun hd => ?written⟩,
    fun s n k res => ?arrival, fun s op => ⟨exec_binderCombine_failed, fun hf hm => ?chain, fun hf hm => ?tree⟩,
    fun x y => ⟨rfl, bndAdd_int_saturates x y⟩, fun s op res => ⟨exec_binderRoundComplete_waits res, ?round⟩⟩
  case dropped => exact exec_bndOpnCtl_dropped ha hd op v mode int slots elems
  case written =>
    subst hd
    have hfit : ∀ x : BitVec 12, x.toNat % 2 ^ 12 = x.toNat := fun x => Nat.mod_eq_of_lt x.isLt
    refine ⟨_, exec_bndOpnCtl_drill ha op v mode int slots elems, ?_⟩
    have hctl := s.bndCtl_results op v mode int slots.toNat elems.toNat
    rwa [hfit, hfit] at hctl
  case arrival =>
    split
    next e hq =>
      intro op slot b failed hf hd ha hs hh vals s1 w
      refine ⟨_, exec_slotArrival_home res hq hf hd ha hs hh,
        State.tbindDone_bndContribute_queue { s with res := res } n k _ _ _ _ _ e, ?_⟩
      exact State.bndContribute_results { s with res := res } e.bindOp e.bindSlot e.thread (e.totals (s.tile n)) _
    next => trivial
  case chain =>
    have hnext : s.bndPossible op = (s.bndOp op).nextChain := by simp [State.bndPossible, hm]
    intro p
    split
    next hp => rw [exec_binderCombine_of hf, hnext, BndOp.nextChain_none hp]; rfl
    next x hp =>
      refine ⟨_, exec_binderCombine_of hf, ?_⟩
      rw [hnext, BndOp.nextChain_some hp]
      by_cases h0 : p = 0
      · rw [if_pos h0, if_pos h0]
        exact s.combines_bndOp op p x none
      · rw [if_neg h0, if_neg h0]
        exact s.combines_bndOp op p _ (some x)
  case tree =>
    have hnext : s.bndPossible op = (s.bndOp op).nextTree (s.bndSlots op) := by simp [State.bndPossible, hm]
    split
    next ht => rw [exec_binderCombine_of hf, hnext, ht]; rfl
    next key x y ht =>
      refine ⟨_, exec_binderCombine_of hf, ?_⟩
      rw [hnext, ht]
      have hnode := (s.combines_bndOp op key x y).1
      cases y with
      | none => exact hnode
      | some y => exact hnode
  case round =>
    split
    next vals hv =>
      intro hf hh hg w1 w2
      refine ⟨_, exec_binderRoundComplete_ends res hf hh hv, fun hok => ?_, fun hbad => ?_⟩
      · have hok' : w1.1 = true ∧ w2.1 = true := by simpa using hok
        exact State.roundEnds_written (s := { s with res := res }) hg hf hok'.1 hok'.2
      · have hbad' : w1.1 = true ∧ w2.1 = false := by simpa using hbad
        exact State.roundEnds_failed (s := { s with res := res }) (.inr hbad'.2)
    next => trivial

end Sys2Proof.Machine
end

section
/-! PROOF. What a rounding to a multiple of 2^q leaves of a magnitude, mode by mode (R263, R267). -/

namespace Sys2Proof.Machine

/-! ### Whether a mode rounds up -/

/-- A magnitude with nothing below the last kept bit is kept in every mode. -/
@[simp] theorem Rnd.up_zero_rem (r : Rnd) (neg : Bool) (kept sh : Nat) : r.up neg kept 0 sh = false := by
  have hu : 2 ^ sh ≠ 0 := (Nat.two_pow_pos sh).ne'
  cases r <;> simp [Rnd.up, hu.symm]

/-! ### The two branches of `roundAt` -/

theorem roundAt_of_place_le {e q : Int} (h : q ≤ e) (r : Rnd) (neg : Bool) (m : Nat) :
    roundAt r neg m e q = (m * 2 ^ (e - q).toNat, false) := if_pos h

section
variable {e q : Int} (h : e < q) (r : Rnd) (neg : Bool) (m : Nat)
include h

theorem roundAt_of_lt_place :
    roundAt r neg m e q =
      (if r.up neg (m / 2 ^ (q - e).toNat) (m % 2 ^ (q - e).toNat) (q - e).toNat then m / 2 ^ (q - e).toNat + 1
        else m / 2 ^ (q - e).toNat, decide (m % 2 ^ (q - e).toNat ≠ 0)) := if_neg (not_le.2 h)

theorem roundAt_inexact_iff : (roundAt r neg m e q).2 = true ↔ ¬ 2 ^ (q - e).toNat ∣ m := by
  simp [roundAt_of_lt_place h, Nat.dvd_iff_mod_eq_zero]

/-- A rounding drops the remainder, and adds one unit where its mode rounds up. -/
theorem roundAt_mul_unit_add_rem :
    (roundAt r neg m e q).1 * 2 ^ (q - e).toNat + m % 2 ^ (q - e).toNat =
      m + if r.up neg (m / 2 ^ (q - e).toNat) (m % 2 ^ (q - e).toNat) (q - e).toNat then 2 ^ (q - e).toNat else 0 := by
  rw [roundAt_of_lt_place h]
  generalize (q - e).toNat = n
  have hm := Nat.div_add_mod' m (2 ^ n)
  split
  · rw [Nat.add_one_mul]; omega
  · omega

theorem roundAt_of_dvd (hd : 2 ^ (q - e).toNat ∣ m) : (roundAt r neg m e q).1 * 2 ^ (q - e).toNat = m := by
  simpa [Nat.mod_eq_zero_of_dvd hd] using roundAt_mul_unit_add_rem h r neg m

/-! ### The directed modes -/

/-- RZ, RU below zero and RD above it keep the whole units of the magnitude. -/
theorem roundAt_of_never_up {r : Rnd} {neg : Bool} (hup : ∀ kept rem sh, r.up neg kept rem sh = false) :
    (roundAt r neg m e q).1 = m / 2 ^ (q - e).toNat := by
  simp [roundAt_of_lt_place h, hup]

theorem roundAt_rz_largest_not_above :
    (roundAt .rz neg m e q).1 * 2 ^ (q - e).toNat ≤ m ∧ m < ((roundAt .rz neg m e q).1 + 1) * 2 ^ (q - e).toNat := by
  have hu := Nat.two_pow_pos (q - e).toNat
  rw [roundAt_of_never_up h m fun _ _ _ => rfl]
  exact ⟨Nat.div_mul_le_self _ _, (Nat.div_lt_iff_lt_mul hu).1 (Nat.lt_succ_self _)⟩

/-- RU above zero and RD below it. -/
theorem roundAt_least_not_below {r : Rnd} {neg : Bool} (hup : ∀ kept rem sh, r.up neg kept rem sh = decide (rem ≠ 0)) :
    m ≤ (roundAt r neg m e q).1 * 2 ^ (q - e).toNat ∧
      (roundAt r neg m e q).1 * 2 ^ (q - e).toNat < m + 2 ^ (q - e).toNat := by
  have hv := roundAt_mul_unit_add_rem h r neg m
  have hrem := Nat.mod_lt m (Nat.two_pow_pos (q - e).toNat)
  simp only [hup, decide_eq_true_eq] at hv
  split at hv <;> omega

/-! ### To nearest -/

/-- RNE goes up above half a unit, stays below it, and at half a unit goes up from an odd kept part only. -/
theorem roundAt_rne_nearest_even :
    2 * ((roundAt .rne neg m e q).1 * 2 ^ (q - e).toNat) ≤ 2 * m + 2 ^ (q - e).toNat ∧
      2 * m ≤ 2 * ((roundAt .rne neg m e q).1 * 2 ^ (q - e).toNat) + 2 ^ (q - e).toNat ∧
      (2 * ((roundAt .rne neg m e q).1 * 2 ^ (q - e).toNat) = 2 * m + 2 ^ (q - e).toNat ∨
        2 * m = 2 * ((roundAt .rne neg m e q).1 * 2 ^ (q - e).toNat) + 2 ^ (q - e).toNat →
        (roundAt .rne neg m e q).1 % 2 = 0) := by
  have hv := roundAt_mul_unit_add_rem h .rne neg m
  have hrem := Nat.mod_lt m (Nat.two_pow_pos (q - e).toNat)
  have hkept := congrArg Prod.fst (roundAt_of_lt_place h .rne neg m)
  simp only [Rnd.up, Bool.or_eq_true, Bool.and_eq_true, decide_eq_true_eq] at hv hkept
  split at hv
  next hup => rw [if_pos hup] at hkept; omega
  next hup => rw [if_neg hup] at hkept; omega

theorem roundAt_rna_nearest_away :
    2 * ((roundAt .rna neg m e q).1 * 2 ^ (q - e).toNat) ≤ 2 * m + 2 ^ (q - e).toNat ∧
      2 * m < 2 * ((roundAt .rna neg m e q).1 * 2 ^ (q - e).toNat) + 2 ^ (q - e).toNat := by
  have hv := roundAt_mul_unit_add_rem h .rna neg m
  have hrem := Nat.mod_lt m (Nat.two_pow_pos (q - e).toNat)
  simp only [Rnd.up, Bool.and_eq_true, decide_eq_true_eq] at hv
  split at hv <;> omega

/-! ### Seeded stochastic (R267) -/

theorem roundAt_stoch (x : Nat) :
    (roundAt (.stoch x) neg m e q).1 = m / 2 ^ (q - e).toNat +
      if x < m % 2 ^ (q - e).toNat * 65536 / 2 ^ (q - e).toNat then 1 else 0 := by
  rw [roundAt_of_lt_place h]
  simp only [Rnd.up, decide_eq_true_eq]
  split <;> rfl

end

/-! ### The obligation -/

/-- Settles O31: at or below the value's own place by the definition, above it mode by mode. -/
theorem roundingIsCorrect : Obligations.RoundingIsCorrect := by
  unfold Obligations.RoundingIsCorrect
  refine fun neg m e q => ⟨fun h r => roundAt_of_place_le h r neg m, fun h => ⟨fun r => roundAt_inexact_iff h r neg m,
    fun r => roundAt_of_dvd h r neg m, roundAt_rz_largest_not_above h neg m, ?positive, ?negative,
    roundAt_rne_nearest_even h neg m, roundAt_rna_nearest_away h neg m, roundAt_stoch h neg m⟩⟩
  case positive =>
    rintro rfl
    have hrd := roundAt_of_never_up h m (r := .rd) (neg := false) fun _ _ _ => rfl
    have hrz := roundAt_of_never_up h m (r := .rz) (neg := false) fun _ _ _ => rfl
    obtain ⟨hle, hlt⟩ := roundAt_least_not_below h m (r := .ru) (neg := false) fun _ _ _ => rfl
    exact ⟨hle, hlt, hrd.trans hrz.symm⟩
  case negative =>
    rintro rfl
    have hru := roundAt_of_never_up h m (r := .ru) (neg := true) fun _ _ _ => rfl
    have hrz := roundAt_of_never_up h m (r := .rz) (neg := true) fun _ _ _ => rfl
    obtain ⟨hle, hlt⟩ := roundAt_least_not_below h m (r := .rd) (neg := true) fun _ _ _ => rfl
    exact ⟨hle, hlt, hru.trans hrz.symm⟩

end Sys2Proof.Machine
end

section
/-! PROOF. Granary channels: mode requests, the ends of a zeroing and of a mode switch, temperature and patrol scrub (R279
to R285, R290, R296, Tables 12-1 and 12-6). -/

namespace Sys2Proof.Machine

/-! ### A write of GRN_MODE_REQ (R296) -/

theorem State.modeWrite_dropped {s : State} {agent : Agent} (ha : s.acts agent = true) (hd : agent ≠ .drill)
    (c target : Nat) (go : Bool) : s.modeWrite agent c target go = s.writeDropped agent 4 := by
  simp only [State.modeWrite, ha, hd, Bool.not_true, Bool.false_eq_true, if_false, ne_eq, not_false_eq_true, if_true]

theorem State.f_target (s : State) (c : Nat) {target : Nat} (ht : target < 3) :
    (s.setF GRN_MODE_REQ.TARGET c target).f GRN_MODE_REQ.TARGET c = target :=
  (s.f_setF_self _ c target).trans (Nat.mod_eq_of_lt (show target < 4 by omega))

/-- Drill's request is judged once its target is stored. -/
theorem State.modeWrite_drill {s : State} (ha : s.acts .drill = true) (c : Nat) {target : Nat} (ht : target < 3) :
    s.modeWrite .drill c target true = (s.setF GRN_MODE_REQ.TARGET c target).modeReq c target := by
  simp [State.modeWrite, ha, ht.ne, s.f_target c ht]

/-- Settles O28: each of the four is a write of GRN_MODE_REQ that is dropped, and a dropped write reaches the fault log
alone. -/
theorem modeRequestsAreDrills : Obligations.ModeRequestsAreDrills := by
  unfold Obligations.ModeRequestsAreDrills
  intro s agent c ha hd i hi
  have hdropped : exec i s = .next (s.writeDropped agent 4) := by
    simp only [List.mem_cons, List.not_mem_nil, or_false] at hi
    rcases hi with rfl | rfl | rfl | rfl <;> exact congrArg Host.Outcome.next (State.modeWrite_dropped ha hd c _ true)
  have hkeep := State.writeDropped_keep (m := among [.granary, .mem, .blk .GRN]) rfl rfl s agent 4
  exact ⟨_, hdropped, granary_of_keep hkeep rfl rfl,
    fun F hF => f_of_keep hkeep (by rw [Blk.fields_blk _ F hF]; rfl), rfl⟩

/-! ### What the channels stand in, beside the errors of their accesses -/

/-- The counters and the record of a channel's errors (R291 to R293). -/
def channelErrorFields : List Fld :=
  [GRN_CECNT.COUNT, GRN_LINKCNT.FAIL, GRN_LINKCNT.RETRY, GRN_ERR_INFO.VALID, GRN_ERR_INFO.MORE, GRN_ERR_INFO.SRC,
   GRN_ERR_INFO.TYPE, GRN_ERR_ADDR.PA, GRN_ERR_TS.TS, GRN_UECNT.COUNT]

/-- A register field's number is one of the channels' and not of their errors. -/
def channelField (id : Nat) : Bool := blkOf id == .GRN && channelErrorFields.all fun F => F.id != id

/-- The channels' registers but for their errors, and their transitions in progress. -/
def State.channels (s : State) : List (Nat × Nat) × List (Nat × ChanMove) :=
  (s.regs.filter fun x => channelField (x.1 % 4096), s.granary.move)

section
variable {s t : State}

theorem f_of_channels (h : t.channels = s.channels) {F : Fld} (hF : channelField (F.id % 4096) = true) (i : Nat) :
    t.f F i = s.f F i := by
  have hkey : ∀ x : Nat, channelField ((F.key i, x).1 % 4096) = true := fun x => by
    rw [show F.key i % 4096 = F.id % 4096 by simp [Fld.key]]
    exact hF
  have hfind := congrArg (fun v => find (F.key i) v.1) h
  simp only [State.channels] at hfind
  rw [find_filter_of hkey, find_filter_of hkey] at hfind
  unfold State.f findD
  rw [hfind]

theorem on_of_channels (h : t.channels = s.channels) {F : Fld} (hF : channelField (F.id % 4096) = true) (i : Nat) :
    t.on F i = s.on F i := by
  rw [State.on, State.on, f_of_channels h hF]

theorem chanMove_of_channels (h : t.channels = s.channels) (c : Nat) : t.chanMove c = s.chanMove c :=
  congrArg (fun v : List (Nat × Nat) × List (Nat × ChanMove) => findD ChanMove.none c v.2) h

theorem channels_of_keep {m : Facet → Bool} (e : t.keep m = s.keep m) (hr : m (.blk .GRN) = true)
    (hg : m .granary = true) : t.channels = s.channels := by
  have hregs : ∀ u : State, (u.keep m).regs.filter (fun x => channelField (x.1 % 4096)) =
      u.regs.filter fun x => channelField (x.1 % 4096) := fun u => by
    simp only [State.keep, List.filter_filter]
    refine List.filter_congr fun x _ => ?_
    cases hx : channelField (x.1 % 4096) with
    | false => rfl
    | true =>
      have hblk := hx
      simp only [channelField, Bool.and_eq_true, beq_iff_eq] at hblk
      rw [hblk.1, hr]
      rfl
  have hmove : ∀ u : State, (u.keep m).granary.move = u.granary.move := fun u => by simp [State.keep, hg]
  unfold State.channels
  rw [← hregs t, ← hregs s, ← hmove t, ← hmove s, e]

end

section
variable (s : State)

theorem State.setF_channels {F : Fld} (hF : F ∈ channelErrorFields) (i v : Nat) : (s.setF F i v).channels = s.channels := by
  have hnot : ∀ x : Nat, channelField ((F.key i, x).1 % 4096) = false := fun x => by
    rw [Fld.key_mod ((by decide : ∀ G ∈ channelErrorFields, G.id < 4096) F hF)]
    exact (by decide : ∀ G ∈ channelErrorFields, channelField G.id = false) F hF
  exact congrArg (·, s.granary.move) (filter_put_of_not hnot _ _)

theorem State.setOn_channels {F : Fld} (hF : F ∈ channelErrorFields) (i : Nat) (b : Bool) :
    (s.setOn F i b).channels = s.channels := s.setF_channels hF i _

theorem State.bumpBy_channels {F : Fld} (hF : F ∈ channelErrorFields) (i n : Nat) :
    (s.bumpBy F i n).channels = s.channels := s.setF_channels hF i _

theorem State.bump_channels {F : Fld} (hF : F ∈ channelErrorFields) (i : Nat) : (s.bump F i).channels = s.channels := by
  unfold State.bump
  split
  · exact s.setF_channels hF i _
  · rfl

theorem State.logEvent_channels (code inst plot aux addr detail : Nat) :
    (s.logEvent code inst plot aux addr detail).channels = s.channels :=
  channels_of_keep (m := among [.granary, .blk .GRN]) (State.logEvent_keep rfl rfl s ..) rfl rfl

/-- R292, R293: an error is recorded and counted, and no channel's state changes. -/
theorem State.granError_channels (c l type src : Nat) : (s.granError c l type src).channels = s.channels := by
  unfold State.granError
  rw [State.logEvent_channels, State.bump_channels _ (by decide)]
  split <;> simp (disch := decide) only [State.setOn_channels, State.setF_channels]

theorem State.granRead_linkFail_channels (c l src : Nat) : (s.granRead c l src .linkFail).2.channels = s.channels := by
  simp (disch := decide) only [State.granRead, State.granError_channels, State.bump_channels, State.bumpBy_channels]

theorem State.writeGran_channels (key mask : Nat) (data : List Byte) : (s.writeGran key mask data).channels = s.channels := by
  unfold State.writeGran
  split <;> rfl

theorem State.setPoison_channels (key : Nat) (b : Bool) : (s.setPoison key b).channels = s.channels := rfl

theorem State.granWrite_channels (c l mask : Nat) (data : List Byte) (src : Nat) (res : MemRes) :
    (s.granWrite c l mask data src res).channels = s.channels := by
  unfold State.granWrite
  cases res <;> simp (disch := decide) only [State.granError_channels, State.bump_channels, State.bumpBy_channels,
    State.setPoison_channels, State.writeGran_channels]

theorem State.writeBack_channels (x : FcLine) : (s.writeBack x).channels = s.channels := by
  have hwrite : ∀ c l, (({ s with res := .ok } : State).granWrite c l fullMask x.data 6 s.res).channels = s.channels :=
    fun c l => State.granWrite_channels ..
  unfold State.writeBack
  simp only [State.takeRes]
  split
  · exact (State.granError_channels ..).trans (hwrite _ _)
  · exact hwrite _ _

theorem State.fcDrop_channels (f k : Nat) (x : FcLine) : (s.fcDrop f k x).channels = s.channels :=
  channels_of_keep (m := among [.granary, .blk .GRN]) (State.fcDrop_keep rfl rfl s f k x) rfl rfl

theorem State.fcEvict_channels (f k : Nat) : (s.fcEvict f k).channels = s.channels := by
  unfold State.fcEvict
  split
  · rfl
  · rw [State.fcDrop_channels]
    split
    · exact s.writeBack_channels _
    · rfl

theorem State.recallFrom_channels (line f : Nat) : (s.recallFrom line f).channels = s.channels := by
  unfold State.recallFrom
  split
  · rfl
  · exact s.fcEvict_channels f _

end

theorem foldl_channels {α : Type} {f : State → α → State} (hf : ∀ s a, (f s a).channels = s.channels) (l : List α)
    (s : State) : (l.foldl f s).channels = s.channels := by
  induction l generalizing s with
  | nil => rfl
  | cons a r ih => rw [List.foldl_cons, ih, hf]

/-- Step 2 of R280 writes back and drops cached lines, and changes no channel's state. -/
theorem State.recallChannel_channels (s : State) (c : Nat) : (s.recallChannel c).channels = s.channels :=
  foldl_channels (fun s l => foldl_channels (fun s f => s.recallFrom_channels l f) _ s) _ s

/-! ### A mode request (R279 to R282, Table 12-6) -/

/-- A transition of channel `c` to state `target` may start: the states are adjacent, none is in progress, and no loaded
program holds the channel in Till. -/
def State.moveAllowed (s : State) (c target : Nat) : Prop :=
  s.on GRN_STATE.BUSY c = false ∧ ((s.f GRN_STATE.MODE c = 0 ∧ target = 1) ∨ (s.f GRN_STATE.MODE c = 1 ∧ target ≠ 1) ∨
    (s.f GRN_STATE.MODE c = 2 ∧ target = 1 ∧ s.on GRN_TILL_STAT.LOADED c = false))

/-- The transition that leads from a state to an adjacent one. -/
def moveOf (mode target : Nat) : ChanMove :=
  if mode = 0 then .withdrawing else if mode = 2 then .toWithdrawn else if target = 0 then .rejoining else .toTill

section
variable {s : State} {c target : Nat}

theorem State.modeReq_refused (h : ¬ s.moveAllowed c target) : s.modeReq c target = s.setOn GRN_STATE.REFUSED c true := by
  unfold State.modeReq
  dsimp only
  split
  next => rfl
  next hbusy =>
    have hbusy : s.on GRN_STATE.BUSY c = false := by simpa using hbusy
    split
    next hm => exact absurd ⟨hbusy, .inl ⟨hm, rfl⟩⟩ h
    next hm => exact absurd ⟨hbusy, .inr (.inl ⟨hm, by decide⟩)⟩ h
    next hm => exact absurd ⟨hbusy, .inr (.inl ⟨hm, by decide⟩)⟩ h
    next hm =>
      split
      next => rfl
      next hl => exact absurd ⟨hbusy, .inr (.inr ⟨hm, rfl, by simpa using hl⟩)⟩ h
    next => rfl

theorem State.modeReq_starts (ht : target < 3) (h : s.moveAllowed c target) :
    (s.modeReq c target).channels = (s.startMove c (moveOf (s.f GRN_STATE.MODE c) target)).channels := by
  obtain ⟨hbusy, ⟨hm, rfl⟩ | ⟨hm, hne⟩ | ⟨hm, rfl, hl⟩⟩ := h
  case inl => simp only [State.modeReq, hbusy, hm, Bool.false_eq_true, if_false, State.recallChannel_channels]; rfl
  case inr.inr => simp only [State.modeReq, hbusy, hm, hl, Bool.false_eq_true, if_false]; rfl
  case inr.inl =>
    have htarget : target = 0 ∨ target = 2 := by omega
    rcases htarget with rfl | rfl <;> simp only [State.modeReq, hbusy, hm, Bool.false_eq_true, if_false] <;> rfl

end

theorem State.chanMove_startMove (s : State) (c : Nat) (m : ChanMove) : (s.startMove c m).chanMove c = m :=
  findD_putD_self ..

theorem State.f_startMove (s : State) {F : Fld} (h : F.id ≠ GRN_STATE.BUSY.id) (c : Nat) (m : ChanMove) :
    (s.startMove c m).f F c = s.f F c := (s.setMove c m).f_setF_field h c _

/-- Drill's request for state `target` of channel `c` has these results in `u`. -/
def State.Requested (s u : State) (c target : Nat) : Prop :=
  u.f GRN_MODE_REQ.TARGET c = target ∧ u.f GRN_STATE.MODE c = s.f GRN_STATE.MODE c ∧
    (¬s.moveAllowed c target → u = (s.setF GRN_MODE_REQ.TARGET c target).setOn GRN_STATE.REFUSED c true) ∧
    (s.moveAllowed c target → u.on GRN_STATE.BUSY c = true ∧ u.chanMove c = moveOf (s.f GRN_STATE.MODE c) target)

theorem State.modeWrite_requested {s : State} (ha : s.acts .drill = true) (c : Nat) {target : Nat} (ht : target < 3) :
    s.Requested (s.modeWrite .drill c target true) c target := by
  have hother : ∀ F : Fld, F.id ≠ GRN_MODE_REQ.TARGET.id → (s.setF GRN_MODE_REQ.TARGET c target).f F c = s.f F c :=
    fun F hF => s.f_setF_field hF c target
  have hmode := hother GRN_STATE.MODE (by decide)
  have hmay : (s.setF GRN_MODE_REQ.TARGET c target).moveAllowed c target ↔ s.moveAllowed c target := by
    unfold State.moveAllowed State.on
    rw [hmode, hother _ (by decide), hother _ (by decide)]
  rw [State.modeWrite_drill ha c ht]
  by_cases h : s.moveAllowed c target
  · have hch := State.modeReq_starts ht (hmay.mpr h)
    rw [hmode] at hch
    refine ⟨?_, ?_, absurd h, fun _ => ⟨?_, ?_⟩⟩
    · rw [f_of_channels hch rfl, State.f_startMove _ (by decide), s.f_target c ht]
    · rw [f_of_channels hch rfl, State.f_startMove _ (by decide), hmode]
    · exact (on_of_channels hch rfl c).trans (State.on_setOn_self _ rfl c true)
    · exact (chanMove_of_channels hch c).trans (State.chanMove_startMove _ c _)
  · rw [State.modeReq_refused fun hs => h (hmay.mp hs)]
    exact ⟨(State.f_setOn_field _ (by decide) c true).trans (s.f_target c ht),
      (State.f_setOn_field _ (by decide) c true).trans hmode, fun _ => rfl, fun hs => absurd hs h⟩

/-! ### The end of a transition -/

theorem State.endMove_results (s : State) (c : Nat) {mode : Nat} (hm : mode < 4) :
    (s.endMove c mode).f GRN_STATE.MODE c = mode ∧ (s.endMove c mode).on GRN_STATE.BUSY c = false ∧
      (s.endMove c mode).chanMove c = .none :=
  ⟨(State.f_setF_self ..).trans (Nat.mod_eq_of_lt hm),
    (State.on_setF_field _ (by decide) c mode).trans (State.on_setOn_self _ rfl c false),
    findD_putD_self ChanMove.none c .none s.granary.move⟩

section
variable {s : State} {c : Nat}

/-- A channel that no plot reset returns stays where its transition ended. -/
theorem State.returnOn_stays (h : s.granary.returning.contains c = false) : s.returnOn c = s := by
  unfold State.returnOn
  exact if_pos (by rw [h]; rfl)

theorem State.landWrites_none (h : (s.seq c).held = []) :
    s.landWrites c = s.setSeq c { s.seq c with held := [] } := by
  simp [State.landWrites, h]

end

theorem granKey_div_chanSpan (d : Nat) {l : Nat} (h : l < chanSpan) : granKey d l / chanSpan = d := by
  unfold granKey chanSpan at *
  omega

theorem State.zeroChannel_zeroed (s : State) (c : Nat) {l : Nat} (h : l < chanSpan) :
    findD 0 (granKey c l) (s.zeroChannel c).granary.mem = 0 ∧ (s.zeroChannel c).poisoned (granKey c l) = false := by
  have hline : granKey c l / 64 / (chanSpan / 64) = c := by
    unfold granKey chanSpan at *
    omega
  have hpoison : find (granKey c l / 64) (s.zeroChannel c).granary.poison = none :=
    find_filter_not (fun _ => by simp [ofChannel, hline]) _
  constructor
  · rw [s.zeroChannel_byte, ofChannel, granKey_div_chanSpan c h]
    exact if_pos (decide_eq_true rfl)
  · rw [State.poisoned, findD, hpoison]
    rfl

theorem State.zeroChannel_other (s : State) {c d l : Nat} (hd : d ≠ c) (h : l < chanSpan) :
    findD 0 (granKey d l) (s.zeroChannel c).granary.mem = findD 0 (granKey d l) s.granary.mem := by
  rw [s.zeroChannel_byte, ofChannel, granKey_div_chanSpan d h]
  exact if_neg (by simpa using hd)

/-- A channel whose zeroing has ended in state `mode` (R280, R281). -/
theorem State.zeroChannel_endMove (s : State) (c : Nat) {mode : Nat} (hm : mode < 4) :
    let u := (s.zeroChannel c).endMove c mode
    u.f GRN_STATE.MODE c = mode ∧ u.on GRN_STATE.BUSY c = false ∧ u.chanMove c = .none ∧
      (∀ l, l < chanSpan → findD 0 (granKey c l) u.granary.mem = 0 ∧ u.poisoned (granKey c l) = false) ∧
      ∀ d l, d ≠ c → l < chanSpan → findD 0 (granKey d l) u.granary.mem = findD 0 (granKey d l) s.granary.mem := by
  obtain ⟨hmode, hbusy, hmove⟩ := (s.zeroChannel c).endMove_results c hm
  exact ⟨hmode, hbusy, hmove, fun l hl => s.zeroChannel_zeroed c hl, fun d l hd hl => s.zeroChannel_other hd hl⟩

section
variable {s : State} {c : Chan}

theorem exec_zeroingDone_none (hw : s.chanMove c ≠ .withdrawing) (hr : s.chanMove c ≠ .rejoining) :
    exec (.zeroingDone c) s = .next s := by
  rw [exec_zeroingDone, execZeroingDone]
  split
  next h => exact absurd h hw
  next h => exact absurd h hr
  next => rfl

section
variable (hret : s.granary.returning.contains c.val = false)
include hret

theorem exec_zeroingDone_withdrawing (h : s.chanMove c = .withdrawing) :
    exec (.zeroingDone c) s = .next ((s.zeroChannel c).endMove c 1) := by
  rw [exec_zeroingDone, execZeroingDone, h]
  exact congrArg _ (State.returnOn_stays hret)

theorem exec_zeroingDone_rejoining (h : s.chanMove c = .rejoining) :
    exec (.zeroingDone c) s = .next ((s.zeroChannel c).endMove c 0) := by
  rw [exec_zeroingDone, execZeroingDone, h]
  exact congrArg _ (State.returnOn_stays hret)

end

end

/-- The end of a mode switch (R282), of whatever its accesses come back with. -/
def State.switchDone (s : State) (c : Nat) : State :=
  match s.chanMove c with
  | .toTill => ((s.endMove c 2).landWrites c).returnOn c
  | .toWithdrawn =>
    (((((s.landWrites c).setSeq c {}).setOn GRN_TILL_STAT.RESIDENT c false).setF GRN_TILL_STAT.PENDING c 0).endMove c
      1).returnOn c
  | _ => s

theorem exec_modeSwitchDone_of {s u : State} {c : Chan} {res : MemRes}
    (h : ({ s with res := res } : State).switchDone c = u) : exec (.modeSwitchDone c res) s = .next { u with res := .ok } := by
  rw [← h]
  rfl

/-- A channel that leaves Till loses its tine registers and its resident image (R282). -/
def State.imageDiscarded (s : State) (c : Nat) : State :=
  ((s.setSeq c {}).setOn GRN_TILL_STAT.RESIDENT c false).setF GRN_TILL_STAT.PENDING c 0

section
variable {s : State} {c : Nat}

theorem State.switchDone_none (ht : s.chanMove c ≠ .toTill) (hw : s.chanMove c ≠ .toWithdrawn) :
    s.switchDone c = s := by
  unfold State.switchDone
  split
  next h => exact absurd h ht
  next h => exact absurd h hw
  next => rfl

variable (hret : s.granary.returning.contains c = false) (hheld : (s.seq c).held = [])
include hret hheld

theorem State.switchDone_toTill (h : s.chanMove c = .toTill) :
    s.switchDone c = (s.endMove c 2).setSeq c { s.seq c with held := [] } := by
  simp only [State.switchDone, h]
  rw [State.landWrites_none (s := s.endMove c 2) hheld]
  exact State.returnOn_stays hret

theorem State.switchDone_toWithdrawn (h : s.chanMove c = .toWithdrawn) :
    s.switchDone c = ((s.setSeq c { s.seq c with held := [] }).imageDiscarded c).endMove c 1 := by
  simp only [State.switchDone, h]
  rw [State.landWrites_none hheld]
  exact State.returnOn_stays hret

end

/-- From `s` to `u` channel `c` has left Till: every byte as it was, and the image gone (R282). -/
def State.LeftTill (s u : State) (c : Nat) : Prop :=
  u.f GRN_STATE.MODE c = 1 ∧ u.on GRN_STATE.BUSY c = false ∧ u.chanMove c = .none ∧ u.granary.mem = s.granary.mem ∧
    u.seq c = {} ∧ u.on GRN_TILL_STAT.RESIDENT c = false ∧ u.f GRN_TILL_STAT.PENDING c = 0

theorem State.LeftTill.withRes {s u : State} {c : Nat} {r : MemRes} (h : s.LeftTill u c) :
    s.LeftTill { u with res := r } c := h

theorem State.imageDiscarded_leftTill (s : State) (c : Nat) : s.LeftTill ((s.imageDiscarded c).endMove c 1) c := by
  have hother : ∀ F : Fld, F.id ≠ GRN_STATE.MODE.id → F.id ≠ GRN_STATE.BUSY.id →
      ((s.imageDiscarded c).endMove c 1).f F c = (s.imageDiscarded c).f F c := fun F hm hb =>
    (State.f_setF_field _ hm c 1).trans (State.f_setOn_field _ hb c false)
  obtain ⟨hmode, hbusy, hmove⟩ := (s.imageDiscarded c).endMove_results c (mode := 1) (by decide)
  refine ⟨hmode, hbusy, hmove, rfl, findD_put_self ({} : TillSeq) c {} s.granary.till, ?resident, ?pending⟩
  case resident =>
    rw [State.on, hother _ (by decide) (by decide)]
    exact (State.on_setF_field _ (by decide) c 0).trans (State.on_setOn_self _ rfl c false)
  case pending =>
    rw [hother _ (by decide) (by decide)]
    exact State.f_setF_self _ _ c 0

/-! ### A stack temperature (R285) -/

section
variable (s : State) (temp c : Nat)

theorem State.chanTemp_temp : (s.chanTemp temp c).f GRN_TEMP.TEMP c = min temp 255 := by
  have hset : (s.setF GRN_TEMP.TEMP c (min temp 255)).f GRN_TEMP.TEMP c = min temp 255 :=
    (s.f_setF_self _ c _).trans (Nat.mod_eq_of_lt (show min temp 255 < 256 by omega))
  unfold State.chanTemp
  dsimp only
  split
  · exact (State.f_setOn_field _ (by decide) c true).trans hset
  · split
    · exact (State.f_setOn_field _ (by decide) c false).trans hset
    · exact hset

theorem State.chanTemp_hot : (s.chanTemp temp c).on GRN_TEMP.HOT c =
    if 85 < temp then true else if temp < 82 then false else s.on GRN_TEMP.HOT c := by
  unfold State.chanTemp
  dsimp only
  split
  · exact State.on_setOn_self _ rfl c true
  · split
    · exact State.on_setOn_self _ rfl c false
    · exact s.on_setF_field (by decide) c _

theorem State.chanTemp_other {d : Nat} (hd : d ≠ c) {F : Fld} (hF : F.id < 4096) : (s.chanTemp temp c).f F d = s.f F d := by
  have htemp := s.f_setF_ne (Fld.key_ne_of_inst (G := GRN_TEMP.TEMP) hF (by decide) hd) (min temp 255)
  have hhot := Fld.key_ne_of_inst (G := GRN_TEMP.HOT) hF (by decide) hd
  unfold State.chanTemp
  dsimp only
  split
  · exact (State.f_setF_ne _ hhot _).trans htemp
  · split
    · exact (State.f_setF_ne _ hhot _).trans htemp
    · exact htemp

end

/-- Each channel of the list is told once. -/
theorem foldl_chanTemp_member (temp : Nat) {d : Nat} (l : List Nat) (hl : l.Nodup) :
    ∀ s : State, d ∈ l → let u := l.foldl (fun s c => s.chanTemp temp c) s
      u.f GRN_TEMP.TEMP d = min temp 255 ∧
        u.on GRN_TEMP.HOT d = if 85 < temp then true else if temp < 82 then false else s.on GRN_TEMP.HOT d := by
  induction l with
  | nil => exact fun s hd => absurd hd List.not_mem_nil
  | cons c l ih =>
    intro s hd
    rw [List.nodup_cons] at hl
    obtain ⟨hc, hl⟩ := hl
    dsimp only
    rw [List.foldl_cons]
    rcases List.mem_cons.mp hd with rfl | hd
    · have hrest : ∀ F : Fld, F.id < 4096 → (l.foldl (fun s c => s.chanTemp temp c) (s.chanTemp temp d)).f F d =
          (s.chanTemp temp d).f F d := fun F hF =>
        foldl_f_eq l (fun u _ hm => u.chanTemp_other temp _ (ne_of_mem_of_not_mem hm hc).symm hF) _
      rw [State.on, hrest _ (by decide), hrest _ (by decide)]
      exact ⟨s.chanTemp_temp temp d, s.chanTemp_hot temp d⟩
    · have hne : d ≠ c := fun e => hc (e ▸ hd)
      have hon : (s.chanTemp temp c).on GRN_TEMP.HOT d = s.on GRN_TEMP.HOT d := by
        rw [State.on, State.on, s.chanTemp_other temp c hne (by decide)]
      have hu := ih hl (s.chanTemp temp c) hd
      rwa [hon] at hu

theorem nodup_stackChans (st : Nat) : (stackChans st).Nodup :=
  List.Nodup.map (fun _ _ h => Nat.add_left_cancel h) List.nodup_range

/-! ### Patrol scrub (R290, Table 12-5) -/

section
variable (s : State) (c l type src : Nat)

theorem State.granError_granary : (s.granError c l type src).granary = s.granary :=
  granary_of_keep (m := among [.granary, .mem]) (State.granError_keep rfl rfl rfl s c l type src) rfl rfl

/-- The first error of a record is kept with its type and its source (R293). -/
theorem State.granError_record (ht : type < 8) (hs : src < 8) :
    (s.granError c l type src).on GRN_ERR_INFO.VALID c = true ∧ (s.on GRN_ERR_INFO.VALID c = false →
      (s.granError c l type src).f GRN_ERR_INFO.TYPE c = type ∧ (s.granError c l type src).f GRN_ERR_INFO.SRC c = src) := by
  have hlog : ∀ (u : State) (info pa : Nat) (F : Fld), F.blk = .GRN → F.id ≠ GRN_UECNT.COUNT.id →
      ((u.bump GRN_UECNT.COUNT c).logEvent 0x0022 c noInst info pa 0).f F c = u.f F c := fun u info pa F hF hid =>
    (f_of_keep (m := among [.blk .GRN]) (State.logEvent_keep rfl rfl _ ..) (by rw [hF]; rfl) c).trans
      (State.f_bump_ne u (Fld.key_ne_of_id_ne hid c))
  have hvalid : ∀ (u : State) (info pa : Nat),
      ((u.bump GRN_UECNT.COUNT c).logEvent 0x0022 c noInst info pa 0).on GRN_ERR_INFO.VALID c =
        u.on GRN_ERR_INFO.VALID c := fun u info pa => by
    rw [State.on, State.on, hlog u info pa _ rfl (by decide)]
  unfold State.granError
  dsimp only
  rw [hvalid, hlog _ _ _ _ rfl (by decide), hlog _ _ _ _ rfl (by decide)]
  split
  next hv =>
    exact ⟨(State.on_setOn_field _ (by decide) c true).trans hv, fun hn => absurd (hn.symm.trans hv) (by decide)⟩
  next =>
    simp (disch := decide) only [State.on_setOn_self, State.f_setOn_field, State.f_setF_field, State.f_setF_self]
    exact ⟨trivial, fun _ => ⟨Nat.mod_eq_of_lt ht, Nat.mod_eq_of_lt hs⟩⟩

end

/-- What the patrol does about the way in which a line came back. -/
def State.patrolMeets (s : State) (c line : Nat) : MemRes → State
  | .ok => s
  | .corrected => s.bump GRN_CECNT.COUNT c
  | .retried n => s.bumpBy GRN_LINKCNT.RETRY c n.val
  | .uncorrectable => s.scrubFinds c line 1
  | .metadata => s.scrubFinds c line 2
  | .linkFail =>
    if s.chanMove c = .withdrawing || s.chanMove c = .rejoining then s else (s.granRead c (line * 64) 5 .linkFail).2

/-- The next line that the patrol takes is the one after. -/
def State.patrolMoves (s : State) (c : Nat) : State :=
  s.setF GRN_SCRUB_POS.LINE c ((s.f GRN_SCRUB_POS.LINE c + 1) % chanLines)

theorem exec_patrolScrub_idle {s : State} {c : Chan} (res : MemRes)
    (h : s.on GRN_SCRUB.EN c = false ∨ s.f GRN_STATE.MODE c = 2 ∨ s.on GRN_STATE.SELFREF c = true) :
    exec (.patrolScrub c res) s = .next s := by
  refine congrArg Host.Outcome.next (if_pos ?_)
  rcases h with h | h | h <;> simp [h]

theorem exec_patrolScrub_runs {s : State} {c : Chan} (res : MemRes)
    (h : ¬ (s.on GRN_SCRUB.EN c = false ∨ s.f GRN_STATE.MODE c = 2 ∨ s.on GRN_STATE.SELFREF c = true)) :
    exec (.patrolScrub c res) s = .next ((s.patrolMoves c).patrolMeets c (s.f GRN_SCRUB_POS.LINE c) res) := by
  have hrun : exec (.patrolScrub c res) s = .next _ :=
    congrArg Host.Outcome.next (if_neg (by simpa [not_or, and_assoc] using h))
  rw [hrun]
  cases res <;> rfl

section
variable (s : State) (c line : Nat)

theorem State.patrolMoves_line : (s.patrolMoves c).f GRN_SCRUB_POS.LINE c = (s.f GRN_SCRUB_POS.LINE c + 1) % 25165824 :=
  (s.f_setF_self _ c _).trans (Nat.mod_eq_of_lt ((Nat.mod_lt _ (by decide)).trans (show 25165824 < 2 ^ 25 by decide)))

theorem State.patrolMoves_f {F : Fld} (h : F.id ≠ GRN_SCRUB_POS.LINE.id) : (s.patrolMoves c).f F c = s.f F c :=
  s.f_setF_field h c _

theorem State.patrolMoves_on {F : Fld} (h : F.id ≠ GRN_SCRUB_POS.LINE.id) : (s.patrolMoves c).on F c = s.on F c :=
  s.on_setF_field h c _

theorem State.scrubFinds_channels (type : Nat) : (s.scrubFinds c line type).channels = s.channels := by
  unfold State.scrubFinds
  split
  · rfl
  · exact State.granError_channels ..

theorem State.scrubFinds_mem (type : Nat) : (s.scrubFinds c line type).granary.mem = s.granary.mem := by
  unfold State.scrubFinds
  split
  · rfl
  · rw [State.granError_granary]
    rfl

/-- No answer of a line moves a channel or the patrol. -/
theorem State.patrolMeets_channels (res : MemRes) : (s.patrolMeets c line res).channels = s.channels := by
  cases res with
  | ok => rfl
  | corrected => exact s.bump_channels (by decide) c
  | retried n => exact s.bumpBy_channels (by decide) c n
  | uncorrectable => exact s.scrubFinds_channels c line 1
  | metadata => exact s.scrubFinds_channels c line 2
  | linkFail =>
    simp only [State.patrolMeets]
    split
    · rfl
    · exact State.granRead_linkFail_channels ..

theorem State.bump_granary (F : Fld) (i : Nat) : (s.bump F i).granary = s.granary := by
  unfold State.bump
  split <;> rfl

/-- Nor does it change a byte. -/
theorem State.patrolMeets_mem (res : MemRes) : (s.patrolMeets c line res).granary.mem = s.granary.mem := by
  cases res with
  | ok => rfl
  | corrected => rw [State.patrolMeets, State.bump_granary]
  | retried n => rfl
  | uncorrectable => exact s.scrubFinds_mem c line 1
  | metadata => exact s.scrubFinds_mem c line 2
  | linkFail =>
    simp only [State.patrolMeets]
    split
    · rfl
    · exact mem_of_keep (m := Facet.only .mem) (State.granRead_keep rfl rfl rfl ..) rfl

theorem State.patrolMeets_corrected : (s.patrolMeets c line .corrected).f GRN_CECNT.COUNT c =
    if s.f GRN_CECNT.COUNT c + 1 < 2 ^ 32 then s.f GRN_CECNT.COUNT c + 1 else s.f GRN_CECNT.COUNT c := by
  refine (s.f_bump_self (w := 32) rfl c).trans ?_
  split <;> omega

/-- A row that is being zeroed has no error to record (Table 12-6). -/
theorem State.patrolMeets_zeroing {s : State} {c : Nat} (hz : s.chanMove c = .withdrawing ∨ s.chanMove c = .rejoining)
    {res : MemRes} (h : res = .uncorrectable ∨ res = .metadata ∨ res = .linkFail) : s.patrolMeets c line res = s := by
  rcases h with rfl | rfl | rfl <;> exact if_pos (by simpa using hz)

/-- Elsewhere the line is poisoned and recorded. -/
theorem State.patrolMeets_poisons {s : State} {c : Nat}
    (hz : ¬ (s.chanMove c = .withdrawing ∨ s.chanMove c = .rejoining)) {res : MemRes}
    (h : res = .uncorrectable ∨ res = .metadata) : s.patrolMeets c line res =
      (s.setPoison (granKey c (line * 64)) true).granError c (line * 64) (if res = .metadata then 2 else 1) 5 := by
  rcases h with rfl | rfl <;> exact if_neg (by simpa using hz)

theorem State.poisoned_granError (l type src : Nat) : (s.granError c l type src).poisoned = s.poisoned := by
  unfold State.poisoned
  rw [State.granError_granary]

theorem State.poisoned_setPoison_self (key : Nat) (b : Bool) : (s.setPoison key b).poisoned key = b :=
  findD_putD_self ..

end

/-! ### The obligation -/

/-- Settles O27: each request by what Drill's write leaves, the ends of a transition by the state in which it leaves the
channel, a temperature channel by channel, a patrol step by how its line came back. -/
theorem granaryChannelResults : Obligations.GranaryChannelResults := by
  unfold Obligations.GranaryChannelResults
  refine ⟨fun s c ha => ?request, fun s c res => ?transition, fun s st temp => ?temperature, fun s c res => ?patrol⟩
  case request =>
    have hreq : ∀ target < 3, s.Requested (s.modeWrite .drill c target true) c target :=
      fun _ ht => State.modeWrite_requested ha c ht
    exact ⟨⟨_, exec_withdrawal .drill c s, hreq 1 (by decide)⟩, ⟨_, exec_rejoining .drill c s, hreq 0 (by decide)⟩,
      ⟨_, exec_switchToTill .drill c s, hreq 2 (by decide)⟩, ⟨_, exec_switchToWithdrawn .drill c s, hreq 1 (by decide)⟩⟩
  case transition =>
    refine ⟨rfl, exec_zeroingDone_none, fun ht hw => exec_modeSwitchDone_of (State.switchDone_none ht hw),
      fun hret hheld => ⟨fun h => ?withdrawn, fun h => ?rejoined, fun h => ?inTill, fun h => ?outOfTill⟩⟩
    case withdrawn => exact ⟨_, exec_zeroingDone_withdrawing hret h, s.zeroChannel_endMove c (by decide)⟩
    case rejoined => exact ⟨_, exec_zeroingDone_rejoining hret h, s.zeroChannel_endMove c (by decide)⟩
    case inTill =>
      obtain ⟨hmode, hbusy, hmove⟩ := State.endMove_results { s with res := res } c (mode := 2) (by decide)
      exact ⟨_, exec_modeSwitchDone_of (State.switchDone_toTill hret hheld h), hmode, hbusy, hmove, rfl⟩
    case outOfTill =>
      have hdone := State.switchDone_toWithdrawn (s := { s with res := res }) hret hheld h
      exact ⟨_, exec_modeSwitchDone_of hdone, (State.imageDiscarded_leftTill _ c).withRes⟩
  case temperature =>
    refine ⟨_, rfl, fun d => ⟨fun hd => ?_, fun hd => ?_⟩⟩
    · exact foldl_chanTemp_member temp _ (nodup_stackChans st) s (mem_stackChans.mpr hd)
    · have hrest : ∀ F : Fld, F.id < 4096 → ((stackChans st).foldl (fun s c => s.chanTemp temp c) s).f F d = s.f F d :=
        fun F hF => foldl_f_eq _ (fun u k hk =>
          u.chanTemp_other temp k (fun e : d.val = k => hd (mem_stackChans.mp (e ▸ hk))) hF) s
      rw [State.on, State.on, hrest _ (by decide), hrest _ (by decide)]
      exact ⟨rfl, rfl⟩
  case patrol =>
    refine ⟨exec_patrolScrub_idle res, fun hrun => ⟨_, exec_patrolScrub_runs res hrun, ?_⟩⟩
    have hch := (s.patrolMoves c).patrolMeets_channels c (s.f GRN_SCRUB_POS.LINE c) res
    refine ⟨(f_of_channels hch rfl c).trans (s.patrolMoves_line c), State.patrolMeets_mem .., ?ok, ?corrected, ?zeroing,
      ?poisoned⟩
    case ok =>
      rintro rfl
      exact ⟨rfl, s.patrolMoves_f c (by decide)⟩
    case corrected =>
      rintro rfl
      rw [State.patrolMeets_corrected, s.patrolMoves_f c (by decide)]
      exact ⟨State.bump_granary .., rfl⟩
    case zeroing =>
      intro hz herr
      rw [State.patrolMeets_zeroing (s := s.patrolMoves c) _ hz herr]
      exact ⟨rfl, s.patrolMoves_on c (by decide)⟩
    case poisoned =>
      intro hz herr
      rw [State.patrolMeets_poisons (s := s.patrolMoves c) _ hz herr, State.poisoned_granError]
      obtain ⟨hvalid, hrecord⟩ := State.granError_record
        ((s.patrolMoves c).setPoison (granKey c (s.f GRN_SCRUB_POS.LINE c * 64)) true) c
        (s.f GRN_SCRUB_POS.LINE c * 64) (if res = .metadata then 2 else 1) 5 (by split <;> decide) (by decide)
      exact ⟨State.poisoned_setPoison_self .., hvalid, fun hnew => hrecord ((s.patrolMoves_on c (by decide)).trans hnew)⟩

end Sys2Proof.Machine
end

section
/-! PROOF. Register fields of any two places: what a write of one leaves in another, by the numbers of the fields. -/

namespace Sys2Proof.Machine

/-- Two fields with numbers of their own: no place of one is a place of the other. -/
def Fld.apart (F G : Fld) : Bool := decide (F.id < 4096) && decide (G.id < 4096) && decide (F.id ≠ G.id)

theorem Fld.key_ne_of_apart {F G : Fld} (h : F.apart G = true) (i j : Nat) : F.key i ≠ G.key j := by
  simp only [Fld.apart, Bool.and_eq_true, decide_eq_true_eq] at h
  exact Fld.key_ne_of_id h.1.1 h.1.2 h.2 i j

variable (s : State) {F G : Fld}

theorem State.f_setF_apart (h : G.apart F = true) (i j v : Nat) : (s.setF F i v).f G j = s.f G j :=
  s.f_setF_ne (Fld.key_ne_of_apart h _ _) v

theorem State.f_setOn_apart (h : G.apart F = true) (i j : Nat) (b : Bool) : (s.setOn F i b).f G j = s.f G j :=
  s.f_setF_apart h i j _

theorem State.f_setBitF_apart (h : G.apart F = true) (i j k : Nat) (b : Bool) : (s.setBitF F i k b).f G j = s.f G j :=
  s.f_setF_apart h i j _

theorem State.f_bump_apart (h : G.apart F = true) (i j : Nat) : (s.bump F i).f G j = s.f G j :=
  State.f_bump_ne s (Fld.key_ne_of_apart h _ _)

theorem State.f_bumpBy_apart (h : G.apart F = true) (i j n : Nat) : (s.bumpBy F i n).f G j = s.f G j :=
  s.f_setF_apart h i j _

theorem State.f_wrapInc_apart (h : G.apart F = true) (i j : Nat) : (s.wrapInc F i).f G j = s.f G j :=
  s.f_setF_apart h i j _

theorem State.f_setOn_self (F : Fld) (i : Nat) (b : Bool) : (s.setOn F i b).f F i = (if b then 1 else 0) % 2 ^ F.width :=
  s.f_setF_self F i _

theorem State.f_islEvent_apart (h : G.apart HDL_EVT.EVT = true) (k j : Nat) : (s.islEvent k).f G j = s.f G j :=
  s.f_setF_apart h 0 j _

theorem State.f_mapIsl (f : Island → Island) (F : Fld) (i : Nat) : (s.mapIsl f).f F i = s.f F i := rfl

/-- An event is recorded. -/
theorem State.bitF_islEvent_self {k : Nat} (h : k < 12) : (s.islEvent k).bitF HDL_EVT.EVT 0 k = true :=
  State.bitF_setBitF_self s h true

/-- The other events stay. -/
theorem State.bitF_islEvent_ne {k j : Nat} (h : j < 12) (hne : j ≠ k) :
    (s.islEvent k).bitF HDL_EVT.EVT 0 j = s.bitF HDL_EVT.EVT 0 j := State.bitF_setBitF_ne s h hne true

theorem State.islEvent_isl (k : Nat) : (s.islEvent k).isl = s.isl := rfl
theorem State.setBitF_isl (i k : Nat) (b : Bool) : (s.setBitF F i k b).isl = s.isl := rfl
theorem State.setOn_isl (i : Nat) (b : Bool) : (s.setOn F i b).isl = s.isl := rfl
theorem State.wrapInc_isl (i : Nat) : (s.wrapInc F i).isl = s.isl := rfl
theorem State.bumpBy_isl (i n : Nat) : (s.bumpBy F i n).isl = s.isl := rfl

end Sys2Proof.Machine
end

section
/-! PROOF. After a safety cycle every driven channel has what permits it (R445, R477, R490). -/

namespace Sys2Proof.Machine

/-! ### What permits a safe output -/

/-- What permits safe output o, beside authority (R477): OPERATIONAL, a request, and no OFF input or remote bit. -/
def State.allows (s : State) (o : Nat) : Bool :=
  decide (s.hs = hsOperational) && s.permitted o && s.offMaps.all (fun m => !m.outMask.testBit o)

theorem State.allows_of_mayEnergise {s : State} {o : Nat} (h : s.mayEnergise o = true) : s.allows o = true := by
  unfold State.mayEnergise at h
  simp only [Bool.and_eq_true] at h
  simp only [State.allows, h, Bool.and_self]

/-- The parts of the island that permit an output. -/
structure Signs where
  hs : Nat
  set : Option ParamSet
  reqs : List SafeReq
  inputs : List (Nat × InputSt)
  remote : Nat → Nat

def State.signs (s : State) : Signs := ⟨s.hs, s.isl.set, s.isl.reqs, s.isl.inputs, fun n => s.f HDL_HT_STATE.REMOTE n⟩

theorem State.allows_congr {s t : State} (h : t.signs = s.signs) (o : Nat) : t.allows o = s.allows o := by
  unfold State.signs at h
  injection h with hhs hset hreqs hinputs hremote
  have hbit : ∀ n b, t.bitF HDL_HT_STATE.REMOTE n b = s.bitF HDL_HT_STATE.REMOTE n b := fun n b =>
    congrArg (·.testBit b) (congrFun hremote n)
  simp only [State.allows, State.permitted, State.offMaps, State.params?, hhs, hset, hreqs, hinputs, hbit]

/-- A field that is not among what permits an output. -/
theorem State.setF_signs (s : State) {F : Fld} (hh : HDL_STATE.HS.apart F = true) (hr : HDL_HT_STATE.REMOTE.apart F = true)
    (i v : Nat) : (s.setF F i v).signs = s.signs := by
  unfold State.signs State.hs
  simp only [s.f_setF_apart hh, s.f_setF_apart hr, State.setF_isl]

theorem State.setOn_signs (s : State) {F : Fld} (hh : HDL_STATE.HS.apart F = true) (hr : HDL_HT_STATE.REMOTE.apart F = true)
    (i : Nat) (b : Bool) : (s.setOn F i b).signs = s.signs := s.setF_signs hh hr i _

theorem State.bumpBy_signs (s : State) {F : Fld} (hh : HDL_STATE.HS.apart F = true) (hr : HDL_HT_STATE.REMOTE.apart F = true)
    (i n : Nat) : (s.bumpBy F i n).signs = s.signs := s.setF_signs hh hr i _

theorem State.bump_signs (s : State) {F : Fld} (hh : HDL_STATE.HS.apart F = true) (hr : HDL_HT_STATE.REMOTE.apart F = true)
    (i : Nat) : (s.bump F i).signs = s.signs := by
  unfold State.bump
  split
  · exact s.setF_signs hh hr i _
  · rfl

theorem State.mapIsl_signs (s : State) {f : Island → Island} (hs : ∀ i, (f i).set = i.set) (hr : ∀ i, (f i).reqs = i.reqs)
    (hi : ∀ i, (f i).inputs = i.inputs) : (s.mapIsl f).signs = s.signs := by
  simp only [State.signs, State.mapIsl_isl, hs, hr, hi]
  rfl

theorem State.evalOutput_signs (s : State) (o : Nat) : (s.evalOutput o).signs = s.signs := by
  have hput : ∀ y : OutputSt, (s.mapIsl fun i => { i with outputs := put o y i.outputs }).signs = s.signs := fun y =>
    s.mapIsl_signs (fun _ => rfl) (fun _ => rfl) (fun _ => rfl)
  unfold State.evalOutput
  split
  · rfl
  · dsimp only
    split
    · rw [State.bump_signs _ (by decide) (by decide), hput]
    · exact hput _

theorem State.showAxis_signs (s : State) (n : Nat) (r : AxisRec) (a : AxisSt) : (s.showAxis n r a).signs = s.signs := by
  unfold State.showAxis
  simp (disch := decide) only [State.setF_signs, State.setOn_signs]

theorem State.evalAxis_signs (s : State) (n : Nat) : (s.evalAxis n).signs = s.signs := by
  unfold State.evalAxis
  split
  · dsimp only
    rw [State.showAxis_signs, State.bumpBy_signs _ (by decide) (by decide)]
    exact s.mapIsl_signs (fun _ => rfl) (fun _ => rfl) (fun _ => rfl)
  · rfl

theorem foldl_signs {α : Type} {f : State → α → State} (hf : ∀ s a, (f s a).signs = s.signs) (l : List α) (s : State) :
    (l.foldl f s).signs = s.signs := by
  induction l generalizing s with
  | nil => rfl
  | cons a l ih => rw [List.foldl_cons, ih, hf]

theorem State.evalAxes_signs (s : State) : s.evalAxes.signs = s.signs := foldl_signs State.evalAxis_signs _ s

theorem State.vetoStep_signs (s : State) : s.vetoStep.signs = s.signs := by
  unfold State.vetoStep
  dsimp only
  rw [State.setOn_signs _ (by decide) (by decide)]
  exact s.mapIsl_signs (fun _ => rfl) (fun _ => rfl) (fun _ => rfl)

/-! ### An output that is on is permitted -/

/-- Every used output that is on is permitted. -/
def State.lawful (s : State) : Prop :=
  ∀ o, o < 4 → s.face.drives o = true → (findD {} o s.isl.outputs).ev = true → s.allows o = true

/-- An output is on at the end of its evaluation where it may be (R477). -/
theorem OutputSt.may_of_cycle_ev {x : OutputSt} {r : OutputRec} {may closed edge : Bool} {t : Nat}
    (h : (x.cycle r may closed edge t).ev = true) : may = true := by
  by_contra hm
  rw [Bool.eq_false_iff.mpr hm, OutputSt.cycle_ev] at h
  cases h

theorem State.evalOutput_allows {s : State} {o : Nat} (hd : s.face.drives o = true)
    (he : (findD {} o (s.evalOutput o).isl.outputs).ev = true) : s.allows o = true := by
  rw [State.face_drives] at hd
  unfold State.evalOutput at he
  split at he
  next hn =>
    cases ho : s.params?.bind fun p => find o p.outputs with
    | none => rw [ho] at hd; cases hd
    | some r =>
      rw [ho, Option.any_some] at hd
      rw [ho, Option.filter_some, if_pos hd] at hn
      cases hn
  next r hr =>
    dsimp only at he
    split at he
    · rw [State.bump_isl, State.mapIsl_isl, findD_put_self] at he
      exact State.allows_of_mayEnergise (OutputSt.may_of_cycle_ev he)
    · rw [State.mapIsl_isl, findD_put_self] at he
      exact State.allows_of_mayEnergise (OutputSt.may_of_cycle_ev he)

theorem foldl_evalOutput_allows {k : Nat} (l : List Nat) {s : State} (hd : s.face.drives k = true)
    (hk : k ∈ l ∨ ((findD {} k s.isl.outputs).ev = true → s.allows k = true))
    (he : (findD {} k (l.foldl (fun s o => s.evalOutput o) s).isl.outputs).ev = true) : s.allows k = true := by
  induction l generalizing s with
  | nil => exact hk.resolve_left (by simp) he
  | cons o l ih =>
    rw [List.foldl_cons] at he
    have hface := s.evalOutput_face o
    rw [← State.allows_congr (s.evalOutput_signs o)]
    refine ih (by rw [hface]; exact hd) ?_ he
    rw [State.allows_congr (s.evalOutput_signs o)]
    by_cases hko : k = o
    · subst hko
      exact .inr (State.evalOutput_allows hd)
    · rw [State.evalOutput_ne _ hko]
      exact hk.imp (fun h => (List.mem_cons.mp h).resolve_left hko) id

theorem State.evalOutputs_lawful (s : State) : s.evalOutputs.lawful := by
  intro o ho hd he
  rw [State.evalOutputs_face] at hd
  unfold State.evalOutputs at he ⊢
  rw [State.allows_congr (foldl_signs State.evalOutput_signs _ s)]
  exact foldl_evalOutput_allows _ hd (.inl (List.mem_range.mpr ho)) he

theorem State.lawful.congr {s t : State} (h : s.lawful) (hs : t.signs = s.signs) (ho : t.isl.outputs = s.isl.outputs) :
    t.lawful := by
  have hset : t.isl.set = s.isl.set := congrArg Signs.set hs
  unfold State.lawful Face.drives
  simp only [State.face_set, hset, ho, State.allows_congr hs]
  intro o
  have := h o
  unfold Face.drives at this
  rwa [State.face_set] at this

theorem State.stopStep_lawful {s : State} (h : s.lawful) : s.stopStep.lawful := by
  unfold State.stopStep
  split
  · intro o _ _ he
    have hisl : (((s.pathsOff.setAuth false).leaveOperation).setHs hsStopped).isl.outputs = s.pathsOff.isl.outputs := by
      unfold State.setHs State.leaveOperation
      simp only [State.setF_isl, State.setOn, State.mapIsl_isl, State.setAuth_isl]
    rw [hisl, State.pathsOff_ev] at he
    cases he
  · exact h

/-! ### What is driven -/

/-- Every driven channel has what permits it: authority and the hardware switch, and a permitted output or an axis with
torque (R445, R477, R490). -/
def State.drivenLawfully (u : State) : Prop := ∀ c ∈ u.isl.chans, c.2.cmd = true →
  u.auth = true ∧ u.isl.hwOff = false ∧
  (c.1 < 8 → u.allows (c.1 / 2) = true ∧ u.face.drives (c.1 / 2) = true) ∧
  (8 ≤ c.1 → (u.hs = hsOperational ∨ u.hs = hsFault) ∧ (findD {} ((c.1 - 8) / 2) u.isl.axes).state ≠ 4)

/-- A list whose values are mapped under their keys. -/
theorem find_map_values {α β : Type} (g : α → β) (k : Nat) (l : List (Nat × α)) :
    find k (l.map fun c => (c.1, g c.2)) = (find k l).map g := by
  induction l with
  | nil => rfl
  | cons c l ih =>
    rw [List.map_cons, find_cons, find_cons]
    dsimp only
    rw [ih]
    split <;> rfl

/-- An axis with its DSTPn as the output step leaves it (R500). -/
def AxisSt.shows (live : Bool) (a : AxisSt) : AxisSt := { a with dstp := live && a.state ≠ 0 }

/-- The output step moves no axis. -/
theorem State.driveAxes_axis (s : State) (k : Nat) :
    find k s.driveAxes.isl.axes = (find k s.isl.axes).map
      (AxisSt.shows (s.auth && !s.isl.hwOff && (s.hs = hsOperational || s.hs = hsFault))) :=
  find_map_values (AxisSt.shows _) k s.isl.axes

theorem State.driveAxes_axisState (s : State) (k : Nat) :
    (findD {} k s.driveAxes.isl.axes).state = (findD {} k s.isl.axes).state := by
  unfold findD
  rw [State.driveAxes_axis]
  cases find k s.isl.axes <;> rfl

/-- The output step drives what is lawful. -/
theorem State.drive_lawful {s : State} (hw : s.face.wired) (hl : s.lawful) : s.driveOutputs.driveAxes.drivenLawfully := by
  have hsigns : s.driveOutputs.driveAxes.signs = s.signs := by
    unfold State.driveAxes State.driveOutputs
    dsimp only
    rw [State.mapIsl_signs, State.mapIsl_signs] <;> exact fun _ => rfl
  have hface : ∀ o, s.driveOutputs.driveAxes.face.drives o = s.face.drives o := fun o => by
    unfold Face.drives
    rw [State.face_set, State.face_set]
    rfl
  intro c hc he
  unfold State.driveAxes State.driveOutputs at hc
  dsimp only [State.mapIsl_isl] at hc
  obtain ⟨y, hy, rfl⟩ := List.mem_map.mp hc
  obtain ⟨x, hx, rfl⟩ := List.mem_map.mp hy
  by_cases hlt : x.1 < 8
  · simp only [if_pos hlt, ChanSt.drives_cmd, Bool.and_eq_true, Bool.not_eq_true'] at he
    obtain ⟨⟨hev, hauth⟩, hoff⟩ := he
    simp only [if_pos hlt]
    have hx' : x ∈ s.face.chans := s.face_chans ▸ hx
    refine ⟨hauth, hoff, fun _ => ⟨?_, ?_⟩, fun h8 => absurd hlt (Nat.not_lt.mpr h8)⟩
    · rw [State.allows_congr hsigns]
      exact hl _ (by omega) (hw x hx' hlt) hev
    · rw [hface]
      exact hw x hx' hlt
  · simp only [if_neg hlt, ChanSt.drives_cmd, Bool.and_eq_true, Bool.or_eq_true, Bool.not_eq_true', decide_eq_true_eq] at he
    obtain ⟨⟨⟨hauth, hoff⟩, hhs⟩, hst⟩ := he
    simp only [if_neg hlt]
    refine ⟨hauth, hoff, fun h => absurd h hlt, fun _ => ⟨hhs, ?_⟩⟩
    rw [State.driveAxes_axisState]
    exact hst

/-- Operations after the output step that change no channel, no axis and nothing that permits an output. -/
theorem State.drivenLawfully.congr {s t : State} (h : s.drivenLawfully) (hf : t.face = s.face) (hs : t.signs = s.signs)
    (hh : t.isl.hwOff = s.isl.hwOff) (ha : t.isl.axes = s.isl.axes) : t.drivenLawfully := by
  unfold State.drivenLawfully
  rw [← State.face_chans, ← State.face_auth, ← State.face_hs, hf, hh, ha]
  simp only [State.allows_congr hs]
  rw [State.face_chans, State.face_auth, State.face_hs]
  exact h

theorem State.showOutputs_signs (s : State) : s.showOutputs.signs = s.signs := by
  unfold State.showOutputs
  simp (disch := decide) only [State.setF_signs]

theorem State.showSet_signs (s : State) : s.showSet.signs = s.signs := by
  unfold State.showSet
  split <;> simp (disch := decide) only [State.setF_signs, State.setOn_signs]

/-! The stages of a cycle list no further channel: each leaves the parameter set, and at most switches channels off. -/

theorem State.checkChans_wired (s : State) : s.checkChans.face.wired := by
  unfold State.checkChans
  rw [State.mapIsl_face_eq]
  intro c hc hlt
  obtain ⟨k, hk, rfl⟩ := List.mem_map.mp hc
  unfold State.usedChans State.params? at hk
  unfold Face.drives
  dsimp only at hlt ⊢
  split at hk
  · cases hk
  next p hp =>
    simp only [List.mem_filter, if_pos hlt] at hk
    rw [hp]
    exact hk.2

theorem State.twinStep_wired {s : State} (h : s.face.wired) (lost newTwin : Bool) : (s.twinStep lost newTwin).face.wired := by
  have hauth : ∀ (u : State) b, u.face = s.face → (u.setAuth b).face.wired := fun u b hu => by
    rw [State.setAuth_face, hu]
    exact h
  unfold State.twinStep
  dsimp only
  generalize (if newTwin then s.freshTwin else none : Option TwinRec) = w
  repeat' split
  · exact h
  · rw [State.pathsOff_face]
    exact h.off
  · rw [State.degrade_face]
    exact hauth _ _ rfl
  · rw [State.degrade_face]
    exact hauth _ _ (by simp [State.face])
  · exact hauth _ _ rfl
  · exact h
  · exact hauth _ _ (by simp [State.face])
  · exact h
  · exact hauth _ _ rfl
  · exact h

theorem State.faultStep_wired {s : State} (h : s.face.wired) : s.faultStep.face.wired := by
  have hf : ∀ u : State, u.face.wired → u.enterFault.face.wired := fun u hu => by
    rw [State.enterFault_face]
    split
    · exact hu
    · exact hu
  unfold State.faultStep
  split
  · exact h
  · apply hf
    split
    · rw [State.pathsOff_face, State.disarmOperate_face]
      exact h.off
    · rw [State.disarmOperate_face]
      exact h

theorem State.edgeStep_wired {s : State} (h : s.face.wired) : s.edgeStep.face.wired := by
  have hu : (s.mapIsl fun i => { i with edge := false }).face = s.face := by simp [State.face]
  unfold State.edgeStep
  dsimp only
  (repeat' split)
  · exact h
  · rw [State.confirmWrite_face, hu]
    exact h
  · rw [State.setHs_face _ (by decide), State.setAuth_face, State.pathsOff_face, hu]
    exact h.off
  · rw [State.setAuth_face, State.setHs_face _ (by decide), State.disarmOperate_face, hu]
    exact h
  · rw [State.setAuth_face, State.setHs_face _ (by decide), State.disarmOperate_face, hu]
    exact h
  · exact h

theorem State.stopStep_wired {s : State} (h : s.face.wired) : s.stopStep.face.wired := by
  unfold State.stopStep
  split
  · rw [State.setHs_face _ (by decide), State.leaveOperation_face, State.setAuth_face, State.pathsOff_face]
    exact h.off
  · exact h

theorem State.fullCycle_lawful (s : State) (veto pulsed : BitVec 2) :
    (s.fullCycle veto pulsed).buildHrec.drivenLawfully := by
  unfold State.fullCycle
  dsimp only
  generalize s.isl.records.any (·.isTwinLost) = lost
  generalize s.isl.records.any (·.isTwin) = twin
  have h1 := ((s.vetoSample veto pulsed).evalInputs).checkChans_wired
  generalize ((s.vetoSample veto pulsed).evalInputs).checkChans = a at h1 ⊢
  have h2 : (((a.edgeSample).takeRecords).localStep.vetoRelease).face.wired := by
    rw [State.vetoRelease_face, State.localStep_face, State.takeRecords_face, State.edgeSample_face]
    exact h1
  generalize ((a.edgeSample).takeRecords).localStep.vetoRelease = b at h2 ⊢
  have h3 : ((b.twinStep lost twin).faultStep.edgeStep.hitchCycle).face.wired := by
    rw [State.hitchCycle_face]
    exact State.edgeStep_wired (State.faultStep_wired (State.twinStep_wired h2 _ _))
  generalize (b.twinStep lost twin).faultStep.edgeStep.hitchCycle = c at h3 ⊢
  have h4 : c.evalOutputs.evalAxes.stopStep.face.wired := by
    apply State.stopStep_wired
    rw [State.evalAxes_face, State.evalOutputs_face]
    exact h3
  have h5 : c.evalOutputs.evalAxes.stopStep.lawful :=
    State.stopStep_lawful (c.evalOutputs_lawful.congr (State.evalAxes_signs _) (State.evalAxes_outputs _))
  generalize c.evalOutputs.evalAxes.stopStep = d at h4 h5 ⊢
  obtain ⟨x, hx, -⟩ := d.vetoStep_face
  have h6 : d.vetoStep.driveOutputs.driveAxes.drivenLawfully :=
    State.drive_lawful (by rw [hx]; exact h4) (h5.congr d.vetoStep_signs (by unfold State.vetoStep; rfl))
  generalize d.vetoStep.driveOutputs.driveAxes = e at h6 ⊢
  have h7 : e.showOutputs.showSet.drivenLawfully := by
    refine h6.congr (by simp only [State.showSet_face, State.showOutputs_face])
      (by simp only [State.showSet_signs, State.showOutputs_signs]) ?_ ?_ <;> (rw [State.showSet_isl]; rfl)
  refine h7.congr (by simp only [State.buildHrec_face, State.showCauses_face]) ?_ rfl rfl
  exact (State.mapIsl_signs _ (fun _ => rfl) (fun _ => rfl) (fun _ => rfl)).trans
    (State.setF_signs _ (by decide) (by decide) _ _)

/-! ### The cycle of an island whose functions do not run -/

theorem execSafetyCycle_runs {s : State} (h : s.functional = true) (seals : BitVec 12) (veto pulsed : BitVec 2) :
    exec (.safetyCycle seals veto pulsed) s = .next ((s.cycleStart seals).fullCycle veto pulsed).buildHrec := by
  refine if_pos ?_
  rwa [State.functional, ← State.face_hs, State.cycleStart_face, State.face_hs]

/-- What a cycle leaves where no function runs: the records are gone, SEAL_LIVE is seen in NOMACHINE. -/
def State.idleCycle (s : State) : State :=
  if s.hs = hsNoMachine ∧ s.f HDL_SEAL.LIVE 0 ≠ s.f HDL_SEAL.LATCHED 0 then
    (s.mapIsl fun i => { i with records := [] }).islEvent 10
  else s.mapIsl fun i => { i with records := [] }

theorem execSafetyCycle_idle {s : State} (h : s.functional = false) (seals : BitVec 12) (veto pulsed : BitVec 2) :
    exec (.safetyCycle seals veto pulsed) s = .next (s.cycleStart seals).idleCycle.buildHrec := by
  have hf : ¬(s.cycleStart seals).functional = true := by
    rw [State.functional, ← State.face_hs, State.cycleStart_face, State.face_hs]
    exact Bool.eq_false_iff.mp h
  refine (if_neg hf).trans ?_
  unfold State.idleCycle
  by_cases hn : (s.cycleStart seals).hs = hsNoMachine
  · rw [if_pos hn]
    by_cases hl : (s.cycleStart seals).f HDL_SEAL.LIVE 0 ≠ (s.cycleStart seals).f HDL_SEAL.LATCHED 0
    · rw [if_pos ⟨hn, hl⟩]
      exact congrArg (fun t : State => Host.Outcome.next t.buildHrec) (if_pos hl)
    · rw [if_neg fun e => hl e.2]
      exact congrArg (fun t : State => Host.Outcome.next t.buildHrec) (if_neg hl)
  · rw [if_neg hn, if_neg fun e => hn e.1]

theorem State.idleCycle_face (s : State) : s.idleCycle.face = s.face := by
  unfold State.idleCycle
  split <;> simp [State.face]

theorem State.allows_iff {s : State} {o : Nat} : s.allows o = true ↔
    s.hs = hsOperational ∧ s.permitted o = true ∧ s.offMaps.all (fun m => !m.outMask.testBit o) = true := by
  simp only [State.allows, Bool.and_eq_true, decide_eq_true_eq, and_assoc]

/-- Settles O52: what the output step drives is lawful, and what follows it keeps that. -/
theorem safeOutputsNeedEveryCondition : Obligations.SafeOutputsNeedEveryCondition := by
  unfold Obligations.SafeOutputsNeedEveryCondition
  intro s seals veto pulsed
  cases hf : s.functional with
  | false =>
    refine ⟨_, execSafetyCycle_idle hf seals veto pulsed, fun _ => ?_, fun h => absurd h (by decide)⟩
    rw [← State.face_chans, State.buildHrec_face, State.idleCycle_face, State.cycleStart_face, State.face_chans]
  | true =>
    refine ⟨_, execSafetyCycle_runs hf seals veto pulsed, fun h => absurd h (by decide), fun _ c hc he => ?_⟩
    have hl := (s.cycleStart seals).fullCycle_lawful veto pulsed
    generalize ((s.cycleStart seals).fullCycle veto pulsed).buildHrec = u at hl hc ⊢
    obtain ⟨hauth, hoff, hout, hax⟩ := hl c hc he
    refine ⟨hauth, hoff, fun hlt => ?_, hax⟩
    obtain ⟨ha, hd⟩ := hout hlt
    obtain ⟨hhs, hp, hm⟩ := State.allows_iff.mp ha
    exact ⟨hhs, hp, by rwa [State.face_drives] at hd, hm⟩

end Sys2Proof.Machine
end

section
/-! PROOF. The safety cycle: its heartbeat record, the evaluation of a release, the causes and the reset edge (R442, R445,
R453, R454, R456, R457, R459, R460, R466). -/

namespace Sys2Proof.Machine

/-! ### What the shared operations of the island leave -/

/-- Every path is off (Table 19-9). -/
def State.pathsAreOff (u : State) : Prop :=
  u.isl.chans.all (fun c => !c.2.cmd) = true ∧ u.isl.axes.all (fun a => a.2.state = 4) = true

theorem State.pathsOff_areOff (s : State) : s.pathsOff.pathsAreOff := by
  have hd : s.pathsOff.face.dark := by
    rw [State.pathsOff_face]
    exact s.face.off_dark
  refine ⟨List.all_eq_true.mpr fun c hc => ?_, List.all_eq_true.mpr fun a ha => decide_eq_true (s.quiet_axes a ha)⟩
  rw [hd.2 c (s.pathsOff.face_chans ▸ hc)]
  rfl

theorem State.pathsAreOff.congr {s t : State} (h : s.pathsAreOff) (hc : t.isl.chans = s.isl.chans)
    (ha : t.isl.axes = s.isl.axes) : t.pathsAreOff := by
  unfold State.pathsAreOff
  rw [hc, ha]
  exact h

theorem State.hs_of_face {s t : State} (h : t.face = s.face) : t.hs = s.hs := by rw [← t.face_hs, h, s.face_hs]

theorem State.auth_of_face {s t : State} (h : t.face = s.face) : t.auth = s.auth := by rw [← t.face_auth, h, s.face_auth]

theorem State.chans_of_face {s t : State} (h : t.face = s.face) : t.isl.chans = s.isl.chans := by
  rw [← t.face_chans, h, s.face_chans]

theorem State.set_of_face {s t : State} (h : t.face = s.face) : t.isl.set = s.isl.set := by
  rw [← t.face_set, h, s.face_set]

theorem State.hs_setHs (s : State) {v : Nat} (hv : v < 8) : (s.setHs v).hs = v := by
  rw [← State.face_hs, State.setHs_face _ hv]

theorem State.auth_setAuth (s : State) (b : Bool) : (s.setAuth b).auth = b := by
  rw [← State.face_auth, State.setAuth_face]

theorem State.setHs_isl (s : State) (v : Nat) : (s.setHs v).isl = s.isl := rfl

theorem State.setAuth_f (s : State) (b : Bool) {F : Fld} (ha : F.apart HDL_STATE.AUTH = true)
    (hh : F.apart HDL_HANDOVER.COUNT = true) (i : Nat) : (s.setAuth b).f F i = s.f F i := by
  unfold State.setAuth
  split
  · rfl
  · rw [State.f_bump_apart _ hh, State.f_setOn_apart _ ha]

theorem State.setAuth_on (s : State) (b : Bool) {F : Fld} (ha : F.apart HDL_STATE.AUTH = true)
    (hh : F.apart HDL_HANDOVER.COUNT = true) (i : Nat) : (s.setAuth b).on F i = s.on F i := by
  rw [State.on, State.on, s.setAuth_f b ha hh]

theorem State.disarmOperate_off (s : State) : s.disarmOperate.on HDL_STATE.ARMED 0 = false :=
  State.on_setOn_self _ rfl _ _

theorem State.pathsOff_f (s : State) {F : Fld} (hv : F.apart HDL_STATE.VETO_OUT = true)
    (hc : F.apart HDL_SO_STATE.COMMANDED = true) (i : Nat) : s.pathsOff.f F i = s.f F i := by
  unfold State.pathsOff
  rw [State.f_setF_apart _ hc, State.f_setOn_apart _ hv]
  rfl

theorem State.leaveOperation_f (s : State) {F : Fld} (hr : F.apart HDL_STATE.RELINQUISH = true)
    (hd : F.apart HDL_STATE.DEGRADED = true) (i : Nat) : s.leaveOperation.f F i = s.f F i := by
  unfold State.leaveOperation
  rw [State.f_setOn_apart _ hd, State.f_setOn_apart _ hr]
  rfl

theorem State.enterFault_isl_chans (s : State) : s.enterFault.isl.chans = s.isl.chans := by
  unfold State.enterFault
  split <;> rfl

theorem State.enterFault_isl_axes (s : State) : s.enterFault.isl.axes = s.isl.axes := by
  unfold State.enterFault
  split <;> rfl

theorem State.enterFault_hs {s : State} (h : s.hs = hsOperational ∨ s.hs = hsStopped) : s.enterFault.hs = hsFault := by
  unfold State.enterFault
  rw [if_pos (by simpa using h)]
  exact State.hs_setHs _ (by decide)

theorem State.enterFault_f (s : State) {F : Fld} (hr : F.apart HDL_STATE.RELINQUISH = true)
    (hd : F.apart HDL_STATE.DEGRADED = true) (hh : F.apart HDL_STATE.HS = true) (i : Nat) :
    s.enterFault.f F i = s.f F i := by
  unfold State.enterFault
  split
  · exact (State.f_setF_apart _ hh _ _ _).trans (s.leaveOperation_f hr hd i)
  · rfl

/-- A count that saturates at its width. -/
theorem State.f_bump_count (s : State) {F : Fld} {w : Nat} (hw : F.width = w) (i : Nat) :
    (s.bump F i).f F i = if s.f F i + 1 < 2 ^ w then s.f F i + 1 else s.f F i := by
  unfold State.bump
  rw [hw]
  split
  next h => rw [State.f_setF_self, hw, Nat.mod_eq_of_lt h]
  · rfl

theorem State.localLost_f (s : State) (F : Fld) (i : Nat) : s.localLost.f F i = s.f F i := by
  unfold State.localLost
  split <;> rfl

theorem State.lockupPin_f (s : State) {F : Fld} (h : F.apart HDL_EVT.EVT = true) (i : Nat) :
    s.lockupPin.f F i = s.f F i := by
  unfold State.lockupPin
  dsimp only
  split
  · split
    · rw [State.localLost_f, State.f_islEvent_apart _ h]
      rfl
    · rw [State.f_islEvent_apart _ h]
      rfl
  · rfl

/-! ### The heartbeat record (R460, Table 19-8) -/

/-- The fields of the record before its CRC. -/
def State.hrecBody (s : State) : List Byte :=
  let bit (b : Bool) (k : Nat) : Nat := if b then 2 ^ k else 0
  leBytes 1 (s.hs + bit s.auth 3 + bit (s.on HDL_STATE.DEGRADED 0) 4 + bit (s.on HDL_STATE.VETO_OUT 0) 5 +
      bit (s.on HDL_STATE.RELINQUISH 0) 6) ++
    leBytes 1 (s.f HDL_SO_STATE.COMMANDED 0 + 16 * s.f HDL_SO_STATE.NODE 0) ++ leBytes 2 s.causes ++
    leBytes 1 (s.f HDL_STATE.MISSCNT 0) ++ leBytes 3 0 ++ leBytes 4 (s.f HDL_LASTK.K 0) ++ leBytes 4 (s.f HDL_PCRC.PCRC 0) ++
    leBytes 8 (s.f HDL_CYCLE.COUNT 0) ++ leBytes 4 0

theorem State.buildHrec_hrec (s : State) : s.buildHrec.isl.hrec = s.hrecBody ++ leBytes 4 (crc32c s.hrecBody) := rfl

theorem State.buildHrec_records (s : State) : s.buildHrec.isl.records = s.isl.records := rfl

theorem State.length_hrecBody (s : State) : s.hrecBody.length = 28 := by
  unfold State.hrecBody
  simp only [List.length_append, length_leBytes]

theorem State.buildHrec_record (s : State) : s.buildHrec.isl.hrec.length = 32 ∧
    s.buildHrec.isl.hrec.drop 28 = leBytes 4 (crc32c (s.buildHrec.isl.hrec.take 28)) := by
  rw [State.buildHrec_hrec, List.take_left' s.length_hrecBody, List.drop_left' s.length_hrecBody, List.length_append,
    s.length_hrecBody, length_leBytes]
  exact ⟨rfl, rfl⟩

/-! ### The cycle of an island whose functions do not run -/

theorem State.cycleStart_count (s : State) (seals : BitVec 12) :
    (s.cycleStart seals).f HDL_CYCLE.COUNT 0 = (s.f HDL_CYCLE.COUNT 0 + 1) % 2 ^ 64 := by
  have hw : (s.lockupPin.wrapInc HDL_CYCLE.COUNT 0).f HDL_CYCLE.COUNT 0 = (s.f HDL_CYCLE.COUNT 0 + 1) % 2 ^ 64 := by
    unfold State.wrapInc
    rw [State.f_setF_self, State.lockupPin_f _ (by decide)]
    rfl
  unfold State.cycleStart
  dsimp only
  split
  · rw [State.f_setF_apart _ (by decide)]
    exact hw
  · exact hw

/-- The seals' live value is sampled in NOMACHINE, and the latched one stays. -/
theorem State.cycleStart_seals {s : State} (h : s.hs = hsNoMachine) (seals : BitVec 12) :
    (s.cycleStart seals).f HDL_SEAL.LIVE 0 = seals.toNat ∧
      (s.cycleStart seals).f HDL_SEAL.LATCHED 0 = s.f HDL_SEAL.LATCHED 0 := by
  have hhs : ((s.lockupPin.wrapInc HDL_CYCLE.COUNT 0).mapIsl fun i =>
      { i with t := max i.t (s.lockupPin.wrapInc HDL_CYCLE.COUNT 0).cycleTime, edge := false }).hs = hsNoMachine := by
    rw [← h]
    exact State.hs_of_face (by simp [State.face])
  unfold State.cycleStart
  dsimp only
  rw [if_pos (by simp [hhs]), State.f_setF_self, State.f_setF_apart _ (by decide)]
  refine ⟨Nat.mod_eq_of_lt seals.isLt, ?_⟩
  exact (State.f_wrapInc_apart _ (by decide) 0 0).trans (s.lockupPin_f (by decide) 0)

theorem State.idleCycle_f (s : State) {F : Fld} (h : F.apart HDL_EVT.EVT = true) (i : Nat) :
    s.idleCycle.f F i = s.f F i := by
  unfold State.idleCycle
  split
  · rw [State.f_islEvent_apart _ h]
    rfl
  · rfl

theorem State.idleCycle_records (s : State) : s.idleCycle.isl.records = [] := by
  unfold State.idleCycle
  split <;> rfl

theorem State.idleCycle_sealLive {s : State} (h : s.hs = hsNoMachine)
    (hl : s.f HDL_SEAL.LIVE 0 ≠ s.f HDL_SEAL.LATCHED 0) : s.idleCycle.bitF HDL_EVT.EVT 0 10 = true := by
  unfold State.idleCycle
  rw [if_pos ⟨h, hl⟩]
  exact State.bitF_islEvent_self _ (by decide)

theorem execSafetyCycle_idle_results {s : State} (h : s.functional = false) (seals : BitVec 12) (veto pulsed : BitVec 2) :
    answers (.safetyCycle seals veto pulsed) s fun u =>
      u.f HDL_CYCLE.COUNT 0 = (s.f HDL_CYCLE.COUNT 0 + 1) % 2 ^ 64 ∧ u.hs = s.hs ∧ u.isl.records = [] ∧
      u.isl.chans = s.isl.chans ∧ u.auth = s.auth ∧
      (s.hs = hsNoMachine → u.f HDL_SEAL.LIVE 0 = seals.toNat ∧
        (seals.toNat ≠ s.f HDL_SEAL.LATCHED 0 → u.bitF HDL_EVT.EVT 0 10 = true)) := by
  have hface : (s.cycleStart seals).idleCycle.buildHrec.face = s.face := by
    rw [State.buildHrec_face, State.idleCycle_face, State.cycleStart_face]
  refine ⟨_, execSafetyCycle_idle h seals veto pulsed, ?_, State.hs_of_face hface, ?_, State.chans_of_face hface,
    State.auth_of_face hface, fun hn => ?_⟩
  · rw [State.buildHrec_f, State.idleCycle_f _ (by decide), State.cycleStart_count]
  · rw [State.buildHrec_records, State.idleCycle_records]
  · obtain ⟨hlive, hlatched⟩ := State.cycleStart_seals hn seals
    have hn' : (s.cycleStart seals).hs = hsNoMachine := (State.hs_of_face (State.cycleStart_face _ _)).trans hn
    refine ⟨?_, fun hne => ?_⟩
    · rw [State.buildHrec_f, State.idleCycle_f _ (by decide), hlive]
    · rw [State.bitF, State.buildHrec_f]
      exact State.idleCycle_sealLive hn' (by rw [hlive, hlatched]; exact hne)

/-! ### One release record (R456, R457) -/

/-- The records are taken. -/
def State.recordsTaken (s : State) : State := s.mapIsl fun i => { i with records := [] }

/-- A single release record is evaluated as it comes. -/
theorem State.takeRecords_release {s : State} {p : Params} {l k : Nat} {b : List Byte} (hp : s.params? = some p)
    (hr : s.isl.records = [.release l k b]) :
    s.takeRecords = if s.current p.island l k then s.recordsTaken.evalBlock p l k b
      else s.recordsTaken.bump HDL_STALE.COUNT 0 := by
  have hp' : (s.mapIsl fun i => { i with records := [] }).params? = some p := hp
  have hc : (s.mapIsl fun i => { i with records := [] }).current p.island l k = s.current p.island l k := rfl
  have hl : laterHrec s.isl.records = [.release l k b] := by
    rw [hr]
    rfl
  unfold State.takeRecords State.recordsTaken
  simp only [hl, hp', List.foldl_cons, List.foldl_nil, State.takeRecord, State.latest, hc]
  cases s.current p.island l k <;> simp

/-- What a request block that is accepted holds (R456, Table 19-5). -/
theorem requestSet_some {p : Params} {b : List Byte} {l k : Nat} {reqs : List SafeReq} (h : requestSet p b l k = some reqs) :
    b.length = 256 ∧ fieldAt b 4 4 = k ∧ fieldAt b 8 1 = l ∧ reqs.length ≤ 14 ∧
      fieldAt b 12 4 = crc32c (b.take 12 ++ b.drop 16) ∧ reqs.all (·.ok p) = true := by
  unfold requestSet at h
  dsimp only at h
  split at h
  next hc =>
    cases h
    simp only [Bool.and_eq_true, decide_eq_true_eq] at hc
    obtain ⟨⟨⟨⟨⟨⟨⟨⟨⟨hlen, -⟩, hk⟩, hl⟩, hcount⟩, -⟩, hcrc⟩, -⟩, -⟩, hok⟩ := hc
    exact ⟨hlen, hk, hl, by simpa using hcount, hcrc, hok⟩
  · cases h

theorem State.frameMissing_reqs (s : State) : s.frameMissing.isl.reqs = s.isl.reqs := by
  unfold State.frameMissing
  dsimp only
  split
  · rw [State.mapIsl_isl, State.bump_isl, State.bump_isl]
  · rw [State.bump_isl, State.bump_isl]

theorem State.frameMissing_f (s : State) {F : Fld} (h : F.apart HDL_STATE.MISSCNT = true) (ht : F.apart HDL_MISSTOT.COUNT = true)
    (i : Nat) : s.frameMissing.f F i = s.f F i := by
  unfold State.frameMissing
  dsimp only
  split
  · exact (State.f_bump_apart _ ht _ _).trans (State.f_bump_apart _ h _ _)
  · exact (State.f_bump_apart _ ht _ _).trans (State.f_bump_apart _ h _ _)

/-- A missing frame is counted, up to 255. -/
theorem State.frameMissing_count (s : State) : s.frameMissing.f HDL_STATE.MISSCNT 0 =
    min (s.f HDL_STATE.MISSCNT 0 + 1) (max (s.f HDL_STATE.MISSCNT 0) 255) := by
  have hc : ((s.bump HDL_STATE.MISSCNT 0).bump HDL_MISSTOT.COUNT 0).f HDL_STATE.MISSCNT 0 =
      min (s.f HDL_STATE.MISSCNT 0 + 1) (max (s.f HDL_STATE.MISSCNT 0) 255) := by
    rw [State.f_bump_apart _ (by decide)]
    exact State.f_bump_self _ (w := 8) rfl 0
  unfold State.frameMissing
  dsimp only
  split
  · exact hc
  · exact hc

theorem State.evalBlock_refused {s : State} {p : Params} {l k : Nat} {b : List Byte} (h : requestSet p b l k = none) :
    s.evalBlock p l k b = (s.islEvent 5).frameMissing := by
  unfold State.evalBlock
  rw [h]

/-- The request set of a block in force, with its K. -/
def State.withRequests (s : State) (k : Nat) (reqs : List SafeReq) : State :=
  (((s.mapIsl fun i => { i with reqs := reqs, accepted := true, frameLoss := false, degExpired := false }).setF
      HDL_LASTK.K 0 k).setF HDL_STATE.MISSCNT 0 0).setOn HDL_STATE.DEGRADED 0 false

theorem State.evalBlock_accepted {s : State} {p : Params} {l k : Nat} {b : List Byte} {reqs : List SafeReq}
    (h : requestSet p b l k = some reqs) : s.evalBlock p l k b = s.withRequests k reqs := by
  unfold State.evalBlock
  rw [h]
  rfl

theorem State.withRequests_f (s : State) (k : Nat) (reqs : List SafeReq) :
    (s.withRequests k reqs).f HDL_LASTK.K 0 = k % 2 ^ 32 ∧ (s.withRequests k reqs).f HDL_STATE.MISSCNT 0 = 0 ∧
      (s.withRequests k reqs).on HDL_STATE.DEGRADED 0 = false := by
  unfold State.withRequests
  refine ⟨?_, ?_, State.on_setOn_self _ rfl _ _⟩
  · rw [State.f_setOn_apart _ (by decide), State.f_setF_apart _ (by decide), State.f_setF_self]
    rfl
  · rw [State.f_setOn_apart _ (by decide), State.f_setF_self]
    rfl

/-! ### Causes and the reset edge -/

theorem State.faultStep_fault {s : State} (h : s.faulted = true) (hs : s.hs = hsOperational ∨ s.hs = hsStopped) :
    s.faultStep.hs = hsFault ∧ s.faultStep.on HDL_STATE.ARMED 0 = false ∧
      (s.clk.pwrfail = true → s.faultStep.pathsAreOff) := by
  let t := if s.disarmOperate.clk.pwrfail then s.disarmOperate.pathsOff else s.disarmOperate
  have ht : s.faultStep = t.enterFault := by
    unfold State.faultStep
    rw [h]
    rfl
  have hhs : t.hs = s.hs := by
    show (if s.disarmOperate.clk.pwrfail then s.disarmOperate.pathsOff else s.disarmOperate).hs = s.hs
    split
    · rw [← State.face_hs, State.pathsOff_face, State.disarmOperate_face]
      exact s.face_hs
    · exact State.hs_of_face s.disarmOperate_face
  have harm : t.f HDL_STATE.ARMED 0 = s.disarmOperate.f HDL_STATE.ARMED 0 := by
    show (if s.disarmOperate.clk.pwrfail then s.disarmOperate.pathsOff else s.disarmOperate).f HDL_STATE.ARMED 0 = _
    split
    · exact State.pathsOff_f _ (by decide) (by decide) 0
    · rfl
  rw [ht]
  refine ⟨State.enterFault_hs (by rwa [hhs]), ?_, fun hp => ?_⟩
  · rw [State.on, State.enterFault_f _ (by decide) (by decide) (by decide), harm]
    exact s.disarmOperate_off
  · have hoff : t = s.disarmOperate.pathsOff := if_pos hp
    rw [hoff]
    exact s.disarmOperate.pathsOff_areOff.congr (State.enterFault_isl_chans _) (State.enterFault_isl_axes _)

/-- The edge is used. -/
def State.edgeUsed (s : State) : State := s.mapIsl fun i => { i with edge := false }

theorem State.edgeStep_quits {s : State} (he : s.isl.edge = true) (hp : s.isl.pendAt = none) (hs : s.hs = hsFault)
    (hf : s.faulted = false) : s.edgeStep.pathsAreOff ∧ s.edgeStep.hs = hsStopped ∧ s.edgeStep.auth = false ∧
      s.edgeStep.isl.edge = false := by
  have hstep : s.edgeStep = (s.edgeUsed.pathsOff.setAuth false).setHs hsStopped := by
    unfold State.edgeStep State.edgeUsed
    simp [he, hp, hs, hf]
  rw [hstep]
  refine ⟨s.edgeUsed.pathsOff_areOff.congr ?_ ?_, State.hs_setHs _ (by decide), ?_, ?_⟩
  · rw [State.setHs_isl, State.setAuth_isl]
  · rw [State.setHs_isl, State.setAuth_isl]
  · rw [← State.face_auth, State.setHs_face _ (by decide), State.setAuth_face]
  · rw [State.setHs_isl, State.setAuth_isl]
    rfl

theorem State.edgeStep_operates {s : State} (he : s.isl.edge = true) (hp : s.isl.pendAt = none) (hs : s.hs = hsStopped)
    (ha : s.isl.armedAt.isSome = true) (hb : s.confBound = true) : s.edgeStep.hs = hsOperational ∧
      s.edgeStep.on HDL_STATE.ARMED 0 = false ∧ s.edgeStep.isl.edge = false ∧
      s.edgeStep.auth = (if s.isLead then !s.freshTwin.any (·.auth) else s.freshTwin.isNone) := by
  have hstep : s.edgeStep = (s.edgeUsed.disarmOperate.setHs hsOperational).setAuth
      (if s.isLead then !s.freshTwin.any (·.auth) else s.freshTwin.isNone) := by
    unfold State.edgeStep State.edgeUsed
    simp [he, hp, hs, ha, hb, show hsStopped ≠ hsFault by decide]
  rw [hstep]
  refine ⟨?_, ?_, ?_, State.auth_setAuth _ _⟩
  · rw [← State.face_hs, State.setAuth_face, State.setHs_face _ (by decide)]
  · rw [State.setAuth_on _ _ (by decide) (by decide)]
    rw [State.on, State.setHs, State.f_setF_apart _ (by decide)]
    exact State.disarmOperate_off _
  · rw [State.setAuth_isl]
    rfl

theorem State.edgeStep_waits {s : State} (he : s.isl.edge = true) (hp : s.isl.pendAt = none) (hs : s.hs = hsStopped)
    (h : s.isl.armedAt = none ∨ s.confBound = false) : s.edgeStep = s := by
  have hne : s.hs ≠ hsFault := by rw [hs]; decide
  unfold State.edgeStep
  rcases h with h | h <;> simp [he, hp, hne, h]

/-- Settles O51: the cycle by its two kinds of island, one release by its block, the causes and the edge by their step. -/
theorem safetyCycleResults : Obligations.SafetyCycleResults := by
  unfold Obligations.SafetyCycleResults
  refine ⟨fun s seals veto pulsed => ⟨?_, fun h => execSafetyCycle_runs h seals veto pulsed,
    fun h => execSafetyCycle_idle_results h seals veto pulsed⟩, fun s => ?_, fun s => ?_⟩
  · cases h : s.functional with
    | true => exact ⟨_, execSafetyCycle_runs h seals veto pulsed, State.buildHrec_record _⟩
    | false => exact ⟨_, execSafetyCycle_idle h seals veto pulsed, State.buildHrec_record _⟩
  · split
    next p l k b hp hr =>
      dsimp only
      rw [State.takeRecords_release hp hr]
      refine ⟨fun hc => ?_, fun hc => ?_⟩
      · rw [hc, if_neg Bool.false_ne_true]
        refine ⟨by rw [State.bump_isl]; rfl, State.hs_of_face ?_, State.f_bump_count _ (w := 32) rfl 0⟩
        simp [State.face, State.recordsTaken]
      · rw [hc, if_pos rfl]
        split
        next hnone =>
          rw [State.evalBlock_refused hnone]
          refine ⟨State.frameMissing_reqs _, ?_, ?_⟩
          · rw [State.bitF, State.frameMissing_f _ (by decide) (by decide)]
            exact State.bitF_islEvent_self _ (by decide)
          · rw [State.frameMissing_count, State.f_islEvent_apart _ (by decide)]
            rfl
        next reqs hsome =>
          rw [State.evalBlock_accepted hsome]
          obtain ⟨hk, hm, hd⟩ := s.recordsTaken.withRequests_f k reqs
          exact ⟨rfl, hk, hm, hd, rfl, rfl, requestSet_some hsome⟩
    · trivial
  · refine ⟨fun h => ?_, fun h hs => s.faultStep_fault h hs, fun h => ?_, fun he hp hs hf => s.edgeStep_quits he hp hs hf,
      fun he hp hs ha hb => s.edgeStep_operates he hp hs ha hb, fun he hp hs h => s.edgeStep_waits he hp hs h⟩
    · unfold State.faultStep
      rw [h]
      rfl
    · unfold State.edgeStep
      rw [h]
      rfl

end Sys2Proof.Machine
end

section
/-! PROOF. The operations on Hitch connections: the fields and the connections that they write, and that they leave the rest
of the island (R513, R517, R528, R530). -/

namespace Sys2Proof.Machine

/-- The fields that the operations on connections write. -/
def hitchFields : List Fld :=
  [HDL_HP_TX.COUNT, HDL_HT_STATE.HT, HDL_HT_STATE.REASON, HDL_HT_STATE.REMOTE, HDL_HT_STATE.FORCED, HDL_HT_CLOSES.COUNT]

/-- A field that the operations on connections do not write. -/
def Fld.offHitch (F : Fld) : Bool := hitchFields.all fun G => F.apart G

theorem Fld.apart_of_offHitch {F G : Fld} (h : F.offHitch = true) (hG : G ∈ hitchFields) : F.apart G = true :=
  List.all_eq_true.mp h G hG

/-- From `s` to `u` the island has changed in its connections only. -/
def State.OnlyConns (s u : State) : Prop := ∃ cs, u.isl = { s.isl with conns := cs }

theorem State.OnlyConns.of_isl {s u : State} (h : u.isl = s.isl) : s.OnlyConns u := ⟨s.isl.conns, h⟩

theorem State.OnlyConns.trans {s t u : State} (h : s.OnlyConns t) (k : t.OnlyConns u) : s.OnlyConns u := by
  obtain ⟨cs, hc⟩ := h
  obtain ⟨ds, hd⟩ := k
  exact ⟨ds, by rw [hd, hc]⟩

theorem State.OnlyConns.params {s u : State} (h : s.OnlyConns u) : u.params? = s.params? := by
  obtain ⟨cs, hc⟩ := h
  rw [State.params?, hc]
  rfl

theorem State.OnlyConns.connRec {s u : State} (h : s.OnlyConns u) (n : Nat) : u.connRec? n = s.connRec? n := by
  rw [State.connRec?, h.params]
  rfl

theorem foldl_onlyConns {α : Type} {f : State → α → State} (hf : ∀ (s : State) a, s.OnlyConns (f s a)) (l : List α)
    (s : State) : s.OnlyConns (l.foldl f s) := by
  induction l generalizing s with
  | nil => exact .of_isl rfl
  | cons a l ih => exact (hf s a).trans (ih _)

theorem foldl_f {α : Type} {F : Fld} {i : Nat} {f : State → α → State} (hf : ∀ (s : State) a, (f s a).f F i = s.f F i)
    (l : List α) (s : State) : (l.foldl f s).f F i = s.f F i := by
  induction l generalizing s with
  | nil => rfl
  | cons a l ih => rw [List.foldl_cons, ih, hf]

variable (s : State) (n : Nat)

/-! ### Connections -/

@[simp] theorem State.conn_setConn_self (c : ConnSt) : (s.setConn n c).conn n = c := by
  simp [State.conn, State.setConn]

theorem State.conn_setConn_ne {k : Nat} (h : k ≠ n) (c : ConnSt) : (s.setConn n c).conn k = s.conn k := by
  simp [State.conn, State.setConn, h]

@[simp] theorem State.setConn_f (c : ConnSt) (F : Fld) (i : Nat) : (s.setConn n c).f F i = s.f F i := rfl

theorem State.setConn_onlyConns (c : ConnSt) : s.OnlyConns (s.setConn n c) := ⟨put n c s.isl.conns, rfl⟩

@[simp] theorem State.conn_setF (F : Fld) (i v k : Nat) : (s.setF F i v).conn k = s.conn k := rfl

/-! ### Sending -/

theorem State.sendPdu_isl (r : ConnRec) (pdu : List Byte) : (s.sendPdu r pdu).isl = s.isl := by
  unfold State.sendPdu
  generalize r.ports = l
  induction l generalizing s with
  | nil => rfl
  | cons p l ih =>
    rw [List.foldl_cons, ih]
    split
    · rfl
    · rw [State.bump_isl]
      rfl

theorem State.sendPdu_f (r : ConnRec) (pdu : List Byte) {F : Fld} (h : F.apart HDL_HP_TX.COUNT = true) (i : Nat) :
    (s.sendPdu r pdu).f F i = s.f F i := by
  unfold State.sendPdu
  refine foldl_f (fun u p => ?_) _ _
  split
  · rfl
  · rw [State.f_bump_apart _ h]
    rfl

theorem State.sendConn_isl (r : ConnRec) (session type seq echo reason : Nat) (data : List Byte) :
    (s.sendConn n r session type seq echo reason data).isl = s.isl := s.sendPdu_isl r _

theorem State.sendConn_f (r : ConnRec) (session type seq echo reason : Nat) (data : List Byte) {F : Fld}
    (h : F.apart HDL_HP_TX.COUNT = true) (i : Nat) :
    (s.sendConn n r session type seq echo reason data).f F i = s.f F i := s.sendPdu_f r _ h i

/-! ### Losing and starting -/

theorem State.connLost_f (reason : Nat) {F : Fld} (h : F.offHitch = true) (i : Nat) : (s.connLost n reason).f F i = s.f F i := by
  have ha : ∀ G ∈ hitchFields, F.apart G = true := fun G hG => Fld.apart_of_offHitch h hG
  unfold State.connLost
  rw [State.f_bump_apart _ (ha _ (by decide)), State.f_setF_apart _ (ha _ (by decide)), State.f_setF_apart _ (ha _ (by decide)),
    State.f_setF_apart _ (ha _ (by decide)), State.setConn_f]

theorem State.connLost_isl (reason : Nat) : (s.connLost n reason).isl =
    (s.setConn n { s.conn n with lostAt := s.cycleTime, rx := [], kept := [] }).isl := by
  unfold State.connLost
  rw [State.bump_isl]
  rfl

theorem State.connLost_onlyConns (reason : Nat) : s.OnlyConns (s.connLost n reason) := by
  have h := s.setConn_onlyConns n { s.conn n with lostAt := s.cycleTime, rx := [], kept := [] }
  unfold State.OnlyConns at h ⊢
  rwa [State.connLost_isl]

/-- A connection that is lost is in LOST, and the others are where they were. -/
theorem State.connLost_ht (reason k : Nat) : (s.connLost n reason).ht k = if k = n then htLost else s.ht k := by
  unfold State.connLost State.ht
  rw [State.f_bump_apart _ (by decide), State.f_setF_apart _ (by decide), State.f_setF_apart _ (by decide)]
  split
  next h =>
    rw [h, State.f_setF_self]
    rfl
  next h =>
    rw [State.f_setF_ne _ (fun e => h (Fld.key_inj e))]
    rfl

theorem State.connLost_reason {reason : Nat} (h : reason < 16) : (s.connLost n reason).f HDL_HT_STATE.REASON n = reason := by
  unfold State.connLost
  rw [State.f_bump_apart _ (by decide), State.f_setF_apart _ (by decide), State.f_setF_self]
  exact Nat.mod_eq_of_lt h

theorem State.connLost_remote (reason : Nat) : (s.connLost n reason).f HDL_HT_STATE.REMOTE n = 0 := by
  unfold State.connLost
  rw [State.f_bump_apart _ (by decide), State.f_setF_self]
  rfl

/-- A closing error sends one CLOSE, then the connection is lost (R528). -/
theorem State.connClose_some {r : ConnRec} (h : s.connRec? n = some r) (reason : Nat) :
    s.connClose n reason = (s.sendConn n r (if s.ht n = htOpen then s.f HDL_HT_SESSION.SESSION n else 0) 4
      (s.f HDL_HT_SEQ.SENT n + 1) (s.f HDL_HT_SEQ.ACCEPTED n) reason []).connLost n reason := by
  unfold State.connClose
  rw [h]

theorem State.connClose_none (h : s.connRec? n = none) (reason : Nat) : s.connClose n reason = s := by
  unfold State.connClose
  rw [h]

theorem State.connClose_f (reason : Nat) {F : Fld} (h : F.offHitch = true) (i : Nat) :
    (s.connClose n reason).f F i = s.f F i := by
  cases hr : s.connRec? n with
  | none => rw [s.connClose_none n hr]
  | some r => rw [s.connClose_some n hr, State.connLost_f _ _ _ h, State.sendConn_f _ _ _ _ _ _ _ _ _
      (Fld.apart_of_offHitch h (by decide))]

theorem State.connClose_onlyConns (reason : Nat) : s.OnlyConns (s.connClose n reason) := by
  cases hr : s.connRec? n with
  | none =>
    rw [s.connClose_none n hr]
    exact .of_isl rfl
  | some r =>
    rw [s.connClose_some n hr]
    exact (State.OnlyConns.of_isl (s.sendConn_isl ..)).trans (State.connLost_onlyConns _ _ _)

theorem State.connClose_ht {r : ConnRec} (h : s.connRec? n = some r) (reason k : Nat) :
    (s.connClose n reason).ht k = if k = n then htLost else s.ht k := by
  rw [s.connClose_some n h, State.connLost_ht, State.ht, State.sendConn_f _ _ _ _ _ _ _ _ _ (by decide)]
  rfl

theorem State.connStart_f {F : Fld} (h : F.offHitch = true) (i : Nat) : (s.connStart n).f F i = s.f F i := by
  unfold State.connStart
  exact (State.f_setF_apart _ (Fld.apart_of_offHitch h (by decide)) _ _ _).trans rfl

theorem State.connStart_onlyConns : s.OnlyConns (s.connStart n) := by
  unfold State.connStart
  exact ⟨_, rfl⟩

/-! ### All connections -/

theorem State.hitchStart_f {F : Fld} (h : F.offHitch = true) (i : Nat) : s.hitchStart.f F i = s.f F i := by
  have ha : ∀ G ∈ hitchFields, F.apart G = true := fun G hG => Fld.apart_of_offHitch h hG
  unfold State.hitchStart
  refine foldl_f (fun u n => ?_) _ _
  split
  · rw [State.f_setF_apart _ (ha _ (by decide)), State.f_setOn_apart _ (ha _ (by decide)), State.f_setF_apart _ (ha _ (by decide))]
  · rw [State.f_setOn_apart _ (ha _ (by decide)), State.connStart_f _ _ h]

theorem State.hitchStart_onlyConns : s.OnlyConns s.hitchStart := by
  unfold State.hitchStart
  refine foldl_onlyConns (fun u n => ?_) _ _
  split
  · exact .of_isl rfl
  · exact (u.connStart_onlyConns n).trans (.of_isl rfl)

theorem State.hitchStop_f {F : Fld} (h : F.offHitch = true) (i : Nat) : s.hitchStop.f F i = s.f F i := by
  unfold State.hitchStop
  refine foldl_f (fun u n => ?_) _ _
  split
  · exact u.connClose_f n 7 h i
  · rfl

theorem State.hitchStop_onlyConns : s.OnlyConns s.hitchStop := by
  unfold State.hitchStop
  refine foldl_onlyConns (fun u n => ?_) _ _
  split
  · exact u.connClose_onlyConns n 7
  · exact .of_isl rfl

end Sys2Proof.Machine
end

section
/-! PROOF. What falls due in the safety island, by command: before its time nothing, from its time on its effect (R450,
R452 to R454, R457, R458, R461, R463, R466, Table 19-10). -/

namespace Sys2Proof.Machine

variable {s : State}

/-! ### The reset request, the confirmation, its lockout, ARMED -/

theorem execResetStuck_high {h : Nat} (hp : s.isl.edgePhase = .high h) : exec .resetStuck s =
    if s.functional && ms 3000 < s.cycleTime - h then
      .next ((s.mapIsl fun i => { i with edgePhase := .stuck none }).islEvent 0) else .next s := by
  rw [exec_resetStuck, execResetStuck, hp]

theorem execConfirmTimeout_pending {b : Nat} (hp : s.isl.pendAt = some b) : exec .confirmTimeout s =
    if ms 60000 ≤ s.islTime - b then
      .next ((s.mapIsl fun i => { i with pendAt := none }).setOn HDL_STATE.CONFIRM_PEND 0 false) else .next s := by
  rw [exec_confirmTimeout, execConfirmTimeout, hp]

theorem execLockoutEnd_locked {b : Nat} (hp : s.isl.lockoutAt = some b) : exec .lockoutEnd s =
    if ms 600000 ≤ s.islTime - b then .next (s.mapIsl fun i => { i with lockoutAt := none, refusals := [] })
    else .next s := by
  rw [exec_lockoutEnd, execLockoutEnd, hp]

theorem execArmedExpiry_armed {b : Nat} (hp : s.isl.armedAt = some b) : exec .armedExpiry s =
    if ms 60000 ≤ s.islTime - b then .next s.disarmOperate else .next s := by
  rw [exec_armedExpiry, execArmedExpiry, hp]

/-! ### Handover, frames, degraded operation, the compute side -/

/-- A handover that found no taker is over (R461). -/
def State.handoverFails (s : State) : State :=
  ((s.mapIsl fun i => { i with handoverAt := none }).setOn HDL_STATE.RELINQUISH 0 false).islEvent 3

theorem execHandoverFailed_open {r : IslandRec} {b : Nat} (hr : s.irec? = some r) (hb : s.isl.handoverAt = some b) :
    exec .handoverFailed s = if 2 * r.framePeriod + 2000000 ≤ s.islTime - b then .next s.handoverFails else .next s := by
  rw [exec_handoverFailed, execHandoverFailed, hb, hr]
  rfl

theorem State.handoverFails_f (s : State) {F : Fld} (hr : F.apart HDL_STATE.RELINQUISH = true)
    (he : F.apart HDL_EVT.EVT = true) (i : Nat) : s.handoverFails.f F i = s.f F i := by
  unfold State.handoverFails
  rw [State.f_islEvent_apart _ he, State.f_setOn_apart _ hr]
  rfl

theorem State.handoverFails_results (s : State) : s.handoverFails.isl.handoverAt = none ∧
    s.handoverFails.on HDL_STATE.RELINQUISH 0 = false ∧ s.handoverFails.bitF HDL_EVT.EVT 0 3 = true ∧
    s.handoverFails.auth = s.auth := by
  refine ⟨rfl, ?_, State.bitF_islEvent_self _ (by decide), ?_⟩
  · rw [State.handoverFails, State.on, State.f_islEvent_apart _ (by decide)]
    exact State.on_setOn_self _ rfl _ _
  · rw [State.auth, State.auth, State.on, State.on, s.handoverFails_f (by decide) (by decide)]

/-- Two frame periods have passed without a record (R457). -/
def State.frameLate (s : State) (r : IslandRec) : State :=
  s.mapIsl fun i => { i with recordAt := i.recordAt + r.frames2 0 }

theorem execFrameWatchdog_set {r : IslandRec} (hr : s.irec? = some r) : exec .frameWatchdog s =
    if s.functional && 2 * r.framePeriod ≤ s.islTime - s.isl.recordAt then .next (s.frameLate r).frameMissing.showCauses
    else .next s := by
  rw [exec_frameWatchdog, execFrameWatchdog, hr]
  rfl

theorem State.frameMissing_recordAt (s : State) : s.frameMissing.isl.recordAt = s.isl.recordAt := by
  unfold State.frameMissing
  dsimp only
  split
  · rw [State.mapIsl_isl, State.bump_isl, State.bump_isl]
  · rw [State.bump_isl, State.bump_isl]

/-- Past the tolerance, and outside grace, missing frames are a frame loss (R457, Table 19-11). -/
theorem State.frameMissing_loss {r : IslandRec} (hr : s.irec? = some r) (hg : s.inGrace = false)
    (hm : r.missTol < s.frameMissing.f HDL_STATE.MISSCNT 0) : s.frameMissing.isl.frameLoss = true := by
  let t := (s.bump HDL_STATE.MISSCNT 0).bump HDL_MISSTOT.COUNT 0
  have hisl : t.isl = s.isl := (State.bump_isl _ _ _).trans (State.bump_isl _ _ _)
  have hrec : t.irec? = some r := by rw [State.irec?, State.params?, hisl]; exact hr
  have hface : t.face = s.face := by
    show ((s.bump HDL_STATE.MISSCNT 0).bump HDL_MISSTOT.COUNT 0).face = s.face
    rw [State.bump_face _ (by simp), State.bump_face _ (by simp)]
  have hgr : t.inGrace = false := by
    rw [State.inGrace, hisl, State.hs_of_face hface, State.auth_of_face hface]
    exact hg
  have hcount : t.f HDL_STATE.MISSCNT 0 = s.frameMissing.f HDL_STATE.MISSCNT 0 := by
    unfold State.frameMissing
    dsimp only
    split <;> rfl
  have hc : (t.irec?.any (fun r => decide (r.missTol < t.f HDL_STATE.MISSCNT 0)) && !t.inGrace) = true := by
    rw [hrec, hgr, hcount]
    simpa using hm
  show (if _ then _ else _ : State).isl.frameLoss = true
  rw [if_pos hc]
  rfl

theorem execFrameWatchdog_late {r : IslandRec} (hr : s.irec? = some r) (hf : s.functional = true)
    (hl : 2 * r.framePeriod ≤ s.islTime - s.isl.recordAt) : answers .frameWatchdog s fun u =>
      u.isl.recordAt = s.isl.recordAt + 2 * r.framePeriod ∧
      u.f HDL_STATE.MISSCNT 0 = min (s.f HDL_STATE.MISSCNT 0 + 1) (max (s.f HDL_STATE.MISSCNT 0) 255) ∧
      (s.inGrace = false → r.missTol < u.f HDL_STATE.MISSCNT 0 → u.isl.frameLoss = true) := by
  have hshow : (s.frameLate r).frameMissing.showCauses.f HDL_STATE.MISSCNT 0 =
      (s.frameLate r).frameMissing.f HDL_STATE.MISSCNT 0 := State.f_setF_apart _ (by decide) 0 0 _
  refine ⟨_, (execFrameWatchdog_set hr).trans (if_pos (by simp [hf, hl])), (s.frameLate r).frameMissing_recordAt, ?_,
    fun hg hm => State.frameMissing_loss (s := s.frameLate r) hr hg (hshow ▸ hm)⟩
  rw [hshow, State.frameMissing_count]
  rfl

theorem execDegradeExpired_set {r : IslandRec} (hr : s.irec? = some r) : exec .degradeExpired s =
    if s.on HDL_STATE.DEGRADED 0 && ms (r.degradeTime * 1000) ≤ s.islTime - s.isl.degradedAt then
      .next (s.mapIsl fun i => { i with degExpired := true }).showCauses else .next s := by
  rw [exec_degradeExpired, execDegradeExpired, hr]

theorem execLocalLost_set {r : IslandRec} (hr : s.irec? = some r) : exec .localLost s =
    if 2 * r.framePeriod + 1000000 ≤ s.islTime - s.isl.computeAt then .next s.localLost else .next s := by
  rw [exec_localLost, execLocalLost, hr]
  rfl

theorem State.localLost_known (h : s.functional = false ∨ s.isl.localAt ≠ none) : s.localLost = s := by
  unfold State.localLost
  rw [if_neg ?_]
  rcases h with h | h
  · simp [h]
  · cases hl : s.isl.localAt with
    | none => exact absurd hl h
    | some b => simp

theorem State.localLost_declared {r : IslandRec} (hr : s.irec? = some r) (hf : s.functional = true)
    (hl : s.isl.localAt = none) : s.localLost = s.mapIsl fun i => { i with localAt := some i.t } := by
  unfold State.localLost
  rw [if_pos (by simp [hr, hf, hl])]

/-! ### The end of grace (R461) -/

/-- Grace ends: every path off, authority given up, and FAULT follows. -/
def State.graceOver (s : State) : State :=
  ((s.mapIsl fun i => { i with localCause := true }).pathsOff.setAuth false).disarmOperate

theorem execGraceEnd_set {r : IslandRec} {b : Nat} (hr : s.irec? = some r) (hb : s.isl.localAt = some b) :
    exec .graceEnd s = if s.inGrace && b + ms r.grace ≤ s.cycleTime then .next s.graceOver.enterFault.showCauses
      else .next s := by
  rw [exec_graceEnd, execGraceEnd, hb, hr]
  rfl

theorem State.graceOver_face (s : State) : s.graceOver.face = { s.face.off with auth := false } := by
  have hm : (s.mapIsl fun i => { i with localCause := true }).face = s.face :=
    State.mapIsl_face s (fun _ => rfl) (fun _ => rfl)
  unfold State.graceOver
  rw [State.disarmOperate_face, State.setAuth_face, State.pathsOff_face, hm]

theorem State.pathsOff_commanded (s : State) : s.pathsOff.f HDL_SO_STATE.COMMANDED 0 = 0 := State.f_setF_self ..

theorem State.graceOver_isl (s : State) : s.graceOver.pathsAreOff ∧ s.graceOver.isl.localCause = true := by
  let t := (s.mapIsl fun i => { i with localCause := true }).pathsOff
  have hisl : s.graceOver.isl = { (t.setAuth false).isl with armedAt := none } := rfl
  rw [State.setAuth_isl] at hisl
  refine ⟨(State.pathsOff_areOff (s.mapIsl fun i => { i with localCause := true })).congr ?_ ?_, ?_⟩ <;> rw [hisl]
  rfl

theorem execGraceEnd_over {r : IslandRec} {b : Nat} (hr : s.irec? = some r) (hb : s.isl.localAt = some b)
    (hg : s.inGrace = true) (ht : b + ms r.grace ≤ s.cycleTime) : answers .graceEnd s fun u =>
      u.isl.chans.all (fun c => !c.2.cmd) = true ∧ u.isl.axes.all (fun a => a.2.state = 4) = true ∧
      u.f HDL_SO_STATE.COMMANDED 0 = 0 ∧ u.on HDL_STATE.VETO_OUT 0 = false ∧ u.auth = false ∧
      u.on HDL_STATE.ARMED 0 = false ∧ u.hs = hsFault ∧ u.isl.localCause = true := by
  have hface : s.graceOver.enterFault.showCauses.face = { s.face.off with auth := false, hs := hsFault } := by
    have hop : s.hs = hsOperational := by
      simp only [State.inGrace, Bool.and_eq_true, decide_eq_true_eq] at hg
      exact hg.1.2
    have hfo : s.graceOver.face.hs = hsOperational := by
      rw [State.graceOver_face]
      exact s.face_hs.trans hop
    rw [State.showCauses_face, State.enterFault_face, if_pos (.inl (by rw [← State.face_hs, hfo])), State.graceOver_face]
  obtain ⟨⟨hchans, haxes⟩, hcause⟩ := s.graceOver_isl
  have hfield : ∀ {F : Fld}, F.apart HDL_CAUSE.CAUSE = true → F.apart HDL_STATE.RELINQUISH = true →
      F.apart HDL_STATE.DEGRADED = true → F.apart HDL_STATE.HS = true →
      s.graceOver.enterFault.showCauses.f F 0 = s.graceOver.f F 0 := fun hc hr hd hh =>
    (State.f_setF_apart _ hc _ _ _).trans (State.enterFault_f _ hr hd hh 0)
  refine ⟨_, (execGraceEnd_set hr hb).trans (if_pos (by simp [hg, ht])), ?_, ?_, ?_, ?_, ?_, ?_, ?_, ?_⟩
  · rw [State.chans_of_face (State.showCauses_face _), State.enterFault_isl_chans]
    exact hchans
  · show s.graceOver.enterFault.isl.axes.all _ = true
    rw [State.enterFault_isl_axes]
    exact haxes
  · rw [hfield (by decide) (by decide) (by decide) (by decide), State.graceOver, State.disarmOperate,
      State.f_setOn_apart _ (by decide), State.f_mapIsl, State.setAuth_f _ _ (by decide) (by decide),
      State.pathsOff_commanded]
  · rw [← State.face_veto, hface]
    rfl
  · rw [← State.face_auth, hface]
  · rw [State.on, hfield (by decide) (by decide) (by decide) (by decide)]
    exact State.disarmOperate_off _
  · rw [← State.face_hs, hface]
  · show s.graceOver.enterFault.isl.localCause = true
    unfold State.enterFault
    split <;> exact hcause

/-! ### The veto pulse and LOCKUP_N (R463, R182) -/

/-- The channels of HVETO_IN whose pulse hardware has latched. -/
def State.pulsesSeen (s : State) (pulsed : BitVec 2) : List Nat :=
  [if pulsed.getLsbD 0 then s.islTime else s.isl.pulseAt.getD 0 0, if pulsed.getLsbD 1 then s.islTime else s.isl.pulseAt.getD 1 0]

/-- The pulse is sent. -/
def State.pulseSent (s : State) (pulsed : BitVec 2) : State :=
  (s.mapIsl fun i => { i with pulsed := some s.islTime, pulseAt := s.pulsesSeen pulsed }).send .vetoPulse

theorem execVetoTestPulse_eq (s : State) (pulsed : BitVec 2) : exec (.vetoTestPulse pulsed) s =
    if s.functional && s.isl.pulsed.all (fun t => decide (ms 1000 ≤ s.islTime - t)) then
      .next (if (s.pulsesSeen pulsed).any (fun p => decide (ms 1500 ≤ s.islTime - p)) then (s.pulseSent pulsed).islEvent 2
        else s.pulseSent pulsed) else .next s := rfl

theorem execVetoTestPulse_due {pulsed : BitVec 2} (hf : s.functional = true)
    (hd : s.isl.pulsed.all (fun t => decide (ms 1000 ≤ s.islTime - t)) = true) : answers (.vetoTestPulse pulsed) s fun u =>
      u.isl.pulsed = some s.islTime ∧ u.isl.pulseAt = s.pulsesSeen pulsed ∧
      ((s.pulsesSeen pulsed).any (fun b => decide (ms 1500 ≤ s.islTime - b)) = true → u.bitF HDL_EVT.EVT 0 2 = true) := by
  refine ⟨_, (execVetoTestPulse_eq s pulsed).trans (if_pos (by rw [hf, hd]; rfl)), ?_, ?_, fun h => ?_⟩
  · split <;> rfl
  · split <;> rfl
  · rw [if_pos h]
    exact State.bitF_islEvent_self _ (by decide)

/-- The pin as the island sees it. -/
def State.pinSeen (s : State) (low : Bool) : State :=
  s.mapIsl fun i => { i with lockupBoard := low, lockupLow := low || s.anyLocked }

theorem execLockupN_eq (s : State) (low : Bool) : exec (.lockupN low) s =
    .next (if (low || s.anyLocked) && !s.isl.lockupLow && (s.functional || s.hs = hsNoMachine) then
      if s.irec?.any (·.lockupReact) then ((s.pinSeen low).islEvent 4).localLost else (s.pinSeen low).islEvent 4
      else s.pinSeen low) := by
  have hirec : ((s.pinSeen low).islEvent 4).irec? = s.irec? := rfl
  rw [← hirec]
  exact rfl

theorem execLockupN_quiet {low : Bool} (h : (low || s.anyLocked) = false ∨ s.isl.lockupLow = true) :
    exec (.lockupN low) s = .next (s.pinSeen low) := by
  rw [execLockupN_eq, if_neg ?_]
  rcases h with h | h <;> simp [h]

theorem State.pinFell_functional (s : State) (low : Bool) :
    ((s.pinSeen low).islEvent 4).functional = s.functional := by
  rw [State.functional, State.functional, State.hs_of_face ((State.islEvent_face _ _).trans _)]
  exact State.mapIsl_face _ (fun _ => rfl) (fun _ => rfl)

theorem execLockupN_falls {low : Bool} (hp : (low || s.anyLocked) = true) (hl : s.isl.lockupLow = false)
    (hf : s.functional = true ∨ s.hs = hsNoMachine) : answers (.lockupN low) s fun u =>
      u.isl.lockupLow = true ∧ u.bitF HDL_EVT.EVT 0 4 = true ∧ match s.irec? with
        | none => u.isl.localAt = s.isl.localAt
        | some r => (r.lockupReact = false ∨ s.functional = false → u.isl.localAt = s.isl.localAt) ∧
          (r.lockupReact = true → s.functional = true → s.isl.localAt = none → u.isl.localAt = some s.islTime) := by
  let t := (s.pinSeen low).islEvent 4
  have ht : t.isl.lockupLow = true := hp
  have hev : t.bitF HDL_EVT.EVT 0 4 = true := State.bitF_islEvent_self _ (by decide)
  have hexec : exec (.lockupN low) s = .next (if s.irec?.any (·.lockupReact) then t.localLost else t) := by
    rw [execLockupN_eq, if_pos (by simpa [hp, hl] using hf)]
  have hlost : t.localLost.isl.lockupLow = t.isl.lockupLow := by
    unfold State.localLost
    split <;> rfl
  refine ⟨_, hexec, ?_, ?_, ?_⟩
  · split
    · exact hlost.trans ht
    · exact ht
  · split
    · rw [State.bitF, State.localLost_f]
      exact hev
    · exact hev
  · split
    next hr =>
      rw [hr]
      rfl
    next r hr =>
      rw [hr, Option.any_some]
      refine ⟨fun h => ?_, fun hreact hfun hnone => ?_⟩
      · split
        next hreact =>
          rw [State.localLost_known (.inl ((s.pinFell_functional low).trans (h.resolve_left (by simp [hreact]))))]
          rfl
        · rfl
      · rw [if_pos hreact, State.localLost_declared (s := t) (r := r) hr ((s.pinFell_functional low).trans hfun) hnone]
        rfl

/-! ### The parameter region is written (R450, R452) -/

theorem State.readCopy_congr {s t : State} (h : t.boot.flash = s.boot.flash) (c : Nat) : t.readCopy c = s.readCopy c := by
  have hread : ∀ n a, t.flashRead a n = s.flashRead a n := by
    intro n
    induction n with
    | zero => exact fun a => rfl
    | succ n ih =>
      intro a
      rw [State.flashRead, State.flashRead, ih, h]
  have hbody : t.copyBody c = s.copyBody c := by
    unfold State.copyBody
    simp only [hread]
  unfold State.readCopy
  rw [hbody]

/-- The write of the region is over. -/
def State.writeOver (s : State) : State := (s.mapIsl fun i => { i with pwrite := none }).setOn HDL_PWRITE.BUSY 0 false

theorem State.writeOver_busy (s : State) : s.writeOver.on HDL_PWRITE.BUSY 0 = false := State.on_setOn_self _ rfl _ _

theorem State.writeOver_face (s : State) : s.writeOver.face = s.face := by
  unfold State.writeOver
  rw [State.setOn_face _ (by simp)]
  exact State.mapIsl_face s (fun _ => rfl) (fun _ => rfl)

/-- The copy is written. -/
def State.written (s : State) (w : ParamWrite) : State := s.writeOver.flashWrite (copyAt w.copy) w.bytes

theorem State.written_isl (s : State) (w : ParamWrite) : (s.written w).isl = s.writeOver.isl := rfl
theorem State.written_f (s : State) (w : ParamWrite) (F : Fld) (i : Nat) : (s.written w).f F i = s.writeOver.f F i := rfl

theorem State.written_readCopy (s : State) (w : ParamWrite) :
    (s.written w).readCopy w.copy = (s.flashWrite (copyAt w.copy) w.bytes).readCopy w.copy :=
  State.readCopy_congr (s := s.flashWrite (copyAt w.copy) w.bytes) (t := s.written w) rfl _

theorem State.written_hs (s : State) (w : ParamWrite) : (s.written w).hs = s.hs := State.hs_of_face s.writeOver_face

theorem execParamWriteDone_eq {w : ParamWrite} (hw : s.isl.pwrite = some w) (ok : Bool) : exec (.paramWriteDone ok) s =
    .next (if ok then if w.confirm then (s.written w).confirmed w.copy else (s.written w).commitSet w.copy
      else (s.writeOver.setOn HDL_PWRITE.FAILED 0 true).islEvent 11) := by
  rw [exec_paramWriteDone, execParamWriteDone, hw]
  cases ok <;> rfl

theorem execParamWriteDone_failed {w : ParamWrite} (hw : s.isl.pwrite = some w) : answers (.paramWriteDone false) s fun u =>
      u.isl.pwrite = none ∧ u.isl.set = s.isl.set ∧ u.on HDL_PWRITE.BUSY 0 = false ∧ u.on HDL_PWRITE.FAILED 0 = true ∧
      u.bitF HDL_EVT.EVT 0 11 = true ∧ u.hs = s.hs := by
  refine ⟨_, execParamWriteDone_eq hw false, rfl, rfl, ?_, ?_, State.bitF_islEvent_self _ (by decide), State.hs_of_face ?_⟩
  · rw [State.on, if_neg Bool.false_ne_true, State.f_islEvent_apart _ (by decide), State.f_setOn_apart _ (by decide)]
    exact s.writeOver_busy
  · rw [State.on, if_neg Bool.false_ne_true, State.f_islEvent_apart _ (by decide)]
    exact State.on_setOn_self _ rfl _ _
  · rw [if_neg Bool.false_ne_true, State.islEvent_face, State.setOn_face _ (by simp), State.writeOver_face]

theorem State.showSet_f (s : State) {F : Fld} (hp : F.apart HDL_PCRC.PCRC = true) (hc : F.apart HDL_CHECK.C = true)
    (hf : F.apart HDL_CONF.CONF_C = true) (hr : F.apart HDL_STATE.REBIND = true) (i : Nat) : s.showSet.f F i = s.f F i := by
  unfold State.showSet
  split <;> rw [State.f_setOn_apart _ hr, State.f_setF_apart _ hf, State.f_setF_apart _ hc, State.f_setF_apart _ hp]

/-- STOPPED follows UNCONFIRMED as the confirmation is written. -/
def State.confirmedState (s : State) : State := if s.hs = hsUnconfirmed then s.setHs hsStopped else s

theorem State.confirmed_eq (s : State) (copy : Nat) : s.confirmed copy =
    (s.mapIsl fun i => { i with set := (s.readCopy copy).or i.set }).confirmedState.showSet.showCauses := rfl

theorem State.confirmedState_isl (s : State) : s.confirmedState.isl = s.isl := by
  unfold State.confirmedState
  split <;> rfl

theorem State.confirmedState_hs (s : State) : s.confirmedState.hs = if s.hs = hsUnconfirmed then hsStopped else s.hs := by
  unfold State.confirmedState
  split
  · exact State.hs_setHs _ (by decide)
  · rfl

theorem State.confirmedState_f (s : State) {F : Fld} (h : F.apart HDL_STATE.HS = true) (i : Nat) :
    s.confirmedState.f F i = s.f F i := by
  unfold State.confirmedState
  split
  · exact State.f_setF_apart _ h _ _ _
  · rfl

theorem execParamWriteDone_confirms {w : ParamWrite} (hw : s.isl.pwrite = some w) (hc : w.confirm = true) :
    answers (.paramWriteDone true) s fun u => u.isl.pwrite = none ∧ u.on HDL_PWRITE.BUSY 0 = false ∧
      u.hs = (if s.hs = hsUnconfirmed then hsStopped else s.hs) ∧
      u.isl.set = ((s.flashWrite (copyAt w.copy) w.bytes).readCopy w.copy).or s.isl.set := by
  let t := (s.written w).mapIsl fun i => { i with set := ((s.written w).readCopy w.copy).or i.set }
  have hexec : exec (.paramWriteDone true) s = .next t.confirmedState.showSet.showCauses := by
    rw [execParamWriteDone_eq hw, if_pos rfl, if_pos hc, State.confirmed_eq]
  have hisl : t.confirmedState.showSet.showCauses.isl = t.isl := by
    show t.confirmedState.showSet.isl = t.isl
    rw [State.showSet_isl, State.confirmedState_isl]
  refine ⟨_, hexec, by rw [hisl]; rfl, ?_, ?_, ?_⟩
  · rw [State.on, State.showCauses, State.f_setF_apart _ (by decide),
      State.showSet_f _ (by decide) (by decide) (by decide) (by decide), State.confirmedState_f _ (by decide)]
    exact s.writeOver_busy
  · have hhs : t.hs = s.hs := s.written_hs w
    rw [State.hs_of_face (State.showCauses_face _), State.hs_of_face (State.showSet_face _), State.confirmedState_hs, hhs]
  · rw [hisl, ← State.written_readCopy]
    rfl

/-- The connections stopped where they run, and every path off. -/
def State.switchedOff (s : State) : State := (if s.functional then s.hitchStop else s).pathsOff

/-- The watchdogs of the compute side start. -/
def State.timesStarted (s : State) : State := s.mapIsl fun i => { i with recordAt := i.t, computeAt := i.t }

/-- The set of a copy in force, every path off: the first half of a commit (R450). -/
def State.recommitted (s : State) (copy : Nat) : State :=
  (s.switchedOff.installSet (s.switchedOff.readCopy copy)).timesStarted

theorem State.commitSet_eq (s : State) (copy : Nat) : s.commitSet copy = if s.functional then
    (((s.recommitted copy).leaveOperation.setAuth false).setHs hsUnconfirmed).hitchStart.showCauses
    else s.recommitted copy := rfl

theorem State.switchedOff_boot (s : State) : s.switchedOff.boot = s.boot := by
  unfold State.switchedOff
  split
  · exact boot_of_keep (m := among [.boot]) (by simp (disch := decide)) rfl
  · rfl

theorem State.showCauses_isl (s : State) : s.showCauses.isl = s.isl := rfl

theorem State.timesStarted_isl (s : State) :
    s.timesStarted.isl = { s.isl with recordAt := s.isl.t, computeAt := s.isl.t } := rfl

theorem State.timesStarted_f (s : State) (F : Fld) (i : Nat) : s.timesStarted.f F i = s.f F i := rfl

theorem State.recommitted_set (s : State) (copy : Nat) : (s.recommitted copy).isl.set = s.readCopy copy := by
  rw [State.recommitted, State.timesStarted_isl]
  dsimp only
  rw [State.installSet_set, State.readCopy_congr (congrArg Boot.flash s.switchedOff_boot)]

theorem State.installSet_pwrite (s : State) (p : Option ParamSet) : (s.installSet p).isl.pwrite = s.isl.pwrite := by
  unfold State.installSet
  rw [State.showSet_isl]
  rfl

theorem State.OnlyConns.pwrite {s u : State} (h : s.OnlyConns u) : u.isl.pwrite = s.isl.pwrite := by
  obtain ⟨cs, hc⟩ := h
  rw [hc]

theorem State.switchedOff_pwrite (s : State) : s.switchedOff.isl.pwrite = s.isl.pwrite := by
  have hoff : ∀ u : State, u.pathsOff.isl.pwrite = u.isl.pwrite := fun u => rfl
  rw [State.switchedOff, hoff]
  split
  · exact s.hitchStop_onlyConns.pwrite
  · rfl

theorem State.recommitted_pwrite (s : State) (copy : Nat) : (s.recommitted copy).isl.pwrite = s.isl.pwrite := by
  rw [State.recommitted, State.timesStarted_isl]
  dsimp only
  rw [State.installSet_pwrite, State.switchedOff_pwrite]

theorem State.installSet_busy (s : State) (p : Option ParamSet) :
    (s.installSet p).f HDL_PWRITE.BUSY 0 = s.f HDL_PWRITE.BUSY 0 := by
  unfold State.installSet
  rw [State.showSet_f _ (by decide) (by decide) (by decide) (by decide), State.f_mapIsl]

theorem State.recommitted_busy (s : State) (copy : Nat) :
    (s.recommitted copy).f HDL_PWRITE.BUSY 0 = s.f HDL_PWRITE.BUSY 0 := by
  rw [State.recommitted, State.timesStarted_f, State.installSet_busy, State.switchedOff, State.pathsOff_f _ (by decide) (by decide)]
  split
  · exact s.hitchStop_f (by decide) 0
  · rfl

/-- The second half of a commit, on an island whose functions run: authority given up, UNCONFIRMED. -/
def State.unconfirmed (s : State) : State := (s.leaveOperation.setAuth false).setHs hsUnconfirmed

theorem State.unconfirmed_face (s : State) : s.unconfirmed.face = { s.face with auth := false, hs := hsUnconfirmed } := by
  rw [State.unconfirmed, State.setHs_face _ (by decide), State.setAuth_face, State.leaveOperation_face]

theorem State.unconfirmed_isl (s : State) : s.unconfirmed.isl = { s.isl with handoverAt := none, stopping := false } := by
  rw [State.unconfirmed, State.setHs_isl, State.setAuth_isl]
  rfl

theorem State.unconfirmed_busy (s : State) : s.unconfirmed.f HDL_PWRITE.BUSY 0 = s.f HDL_PWRITE.BUSY 0 := by
  rw [State.unconfirmed, State.setHs, State.f_setF_apart _ (by decide), State.setAuth_f _ _ (by decide) (by decide),
    State.leaveOperation_f _ (by decide) (by decide)]

/-- The connections start again in UNCONFIRMED. -/
def State.restarted (s : State) : State := s.unconfirmed.hitchStart.showCauses

theorem State.restarted_results (t : State) : t.restarted.isl.pwrite = t.isl.pwrite ∧ t.restarted.isl.set = t.isl.set ∧
    t.restarted.f HDL_PWRITE.BUSY 0 = t.f HDL_PWRITE.BUSY 0 ∧ t.restarted.auth = false ∧ t.restarted.hs = hsUnconfirmed := by
  have hface : t.restarted.face = t.unconfirmed.face := by
    rw [State.restarted, State.showCauses_face, State.hitchStart_face]
  refine ⟨?_, ?_, ?_, ?_, ?_⟩
  · rw [State.restarted, State.showCauses_isl, t.unconfirmed.hitchStart_onlyConns.pwrite, State.unconfirmed_isl]
  · rw [State.set_of_face hface, State.unconfirmed_isl]
  · rw [State.restarted, State.showCauses, State.f_setF_apart _ (by decide), State.hitchStart_f _ (by decide),
      State.unconfirmed_busy]
  · rw [State.auth_of_face hface, ← State.face_auth, State.unconfirmed_face]
  · rw [State.hs_of_face hface, ← State.face_hs, State.unconfirmed_face]

theorem execParamWriteDone_commits {w : ParamWrite} (hw : s.isl.pwrite = some w) (hc : w.confirm = false) :
    answers (.paramWriteDone true) s fun u => u.isl.pwrite = none ∧ u.on HDL_PWRITE.BUSY 0 = false ∧
      u.isl.set = (s.flashWrite (copyAt w.copy) w.bytes).readCopy w.copy ∧
      (s.functional = true → u.auth = false ∧ u.hs = hsUnconfirmed) := by
  have hrun : (s.written w).functional = s.functional := by rw [State.functional, State.written_hs, State.functional]
  have hexec : exec (.paramWriteDone true) s = .next (if s.functional then ((s.written w).recommitted w.copy).restarted
      else (s.written w).recommitted w.copy) := by
    rw [execParamWriteDone_eq hw, if_pos rfl, hc, if_neg Bool.false_ne_true, State.commitSet_eq, hrun]
    rfl
  have hset : ((s.written w).recommitted w.copy).isl.set = (s.flashWrite (copyAt w.copy) w.bytes).readCopy w.copy :=
    (State.recommitted_set _ _).trans (s.written_readCopy w)
  have hpw : ((s.written w).recommitted w.copy).isl.pwrite = none := State.recommitted_pwrite _ _
  have hbusy : ((s.written w).recommitted w.copy).on HDL_PWRITE.BUSY 0 = false := by
    rw [State.on, State.recommitted_busy]
    exact s.writeOver_busy
  rw [answers, hexec]
  generalize (s.written w).recommitted w.copy = t at hset hpw hbusy ⊢
  cases hf : s.functional with
  | false => exact ⟨t, rfl, hpw, hbusy, hset, fun h => absurd h (by decide)⟩
  | true =>
    obtain ⟨hp, hs, hb, ha, hh⟩ := t.restarted_results
    refine ⟨t.restarted, rfl, hp.trans hpw, ?_, hs.trans hset, fun _ => ⟨ha, hh⟩⟩
    rw [State.on, hb]
    exact hbusy

/-- Settles O49: each timed event by the condition of its command and what the command leaves. -/
theorem islandTimedResults : Obligations.IslandTimedResults := by
  unfold Obligations.IslandTimedResults
  refine ⟨fun s => ⟨?_, ?_, ?_, ?_, ?_⟩, fun s pulsed => ?_, fun s low => ⟨?_, ?_⟩, fun s ok => ?_⟩
  · split
    next h hp =>
      rw [execResetStuck_high hp]
      refine ⟨fun hn => if_neg (by simpa using hn), fun hf ht => ?_⟩
      refine ⟨_, (execResetStuck_high hp).trans (if_pos (by simp [hf, ht])), rfl, State.bitF_islEvent_self _ (by decide)⟩
    next hp =>
      rw [exec_resetStuck, execResetStuck]
      split
      next h hh => exact absurd hh (hp h)
      · rfl
  · split
    next hp => rw [exec_confirmTimeout, execConfirmTimeout, hp]
    next b hp =>
      rw [execConfirmTimeout_pending hp]
      exact ⟨fun h => if_neg (Nat.not_le.mpr h), fun h => ⟨_, (execConfirmTimeout_pending hp).trans (if_pos h), rfl,
        State.on_setOn_self _ rfl _ _, rfl⟩⟩
  · split
    next hp => rw [exec_lockoutEnd, execLockoutEnd, hp]
    next b hp =>
      rw [execLockoutEnd_locked hp]
      exact ⟨fun h => if_neg (Nat.not_le.mpr h), fun h => ⟨_, (execLockoutEnd_locked hp).trans (if_pos h), rfl, rfl⟩⟩
  · split
    next hp => rw [exec_armedExpiry, execArmedExpiry, hp]
    next b hp =>
      rw [execArmedExpiry_armed hp]
      exact ⟨fun h => if_neg (Nat.not_le.mpr h), fun h => ⟨_, (execArmedExpiry_armed hp).trans (if_pos h), rfl,
        s.disarmOperate_off, State.hs_of_face s.disarmOperate_face⟩⟩
  · split
    next hr =>
      simp only [List.mem_cons, Prod.mk.injEq, List.not_mem_nil, or_false]
      rintro j i (⟨-, rfl⟩ | ⟨-, rfl⟩ | ⟨-, rfl⟩ | ⟨-, rfl⟩ | ⟨-, rfl⟩)
      · rw [exec_handoverFailed, execHandoverFailed, hr]
        split <;> trivial
      · rw [exec_frameWatchdog, execFrameWatchdog, hr]
      · rw [exec_degradeExpired, execDegradeExpired, hr]
      · rw [exec_localLost, execLocalLost, hr]
      · rw [exec_graceEnd, execGraceEnd, hr]
        split <;> trivial
    next r hr =>
      refine ⟨?_, ⟨fun hl => ?_, fun hl => execFrameWatchdog_late hr hl.1 hl.2⟩, ⟨fun hl => ?_, fun hl => ?_⟩,
        ⟨fun hl => ?_, fun hl => ?_⟩, ?_⟩
      · split
        next hb => rw [exec_handoverFailed, execHandoverFailed, hb]
        next b hb =>
          rw [execHandoverFailed_open hr hb]
          exact ⟨fun h => if_neg (Nat.not_le.mpr h), fun h => ⟨_, (execHandoverFailed_open hr hb).trans (if_pos h),
            s.handoverFails_results⟩⟩
      · exact (execFrameWatchdog_set hr).trans (if_neg (by simpa using hl))
      · exact (execDegradeExpired_set hr).trans (if_neg (by simpa using hl))
      · exact ⟨_, (execDegradeExpired_set hr).trans (if_pos (by simpa using hl)), rfl⟩
      · rw [execLocalLost_set hr]
        split
        next ht =>
          rw [State.localLost_known]
          by_contra hc
          rw [not_or, Bool.not_eq_false, not_not] at hc
          exact hl ⟨ht, hc⟩
        · rfl
      · obtain ⟨ht, hf, hn⟩ := hl
        refine ⟨_, (execLocalLost_set hr).trans (if_pos ht), ?_⟩
        rw [State.localLost_declared hr hf hn]
        rfl
      · split
        next hb => rw [exec_graceEnd, execGraceEnd, hb]
        next b hb =>
          refine ⟨fun h => (execGraceEnd_set hr hb).trans (if_neg (by simpa using h)), fun hg ht => execGraceEnd_over hr hb hg ht⟩
  · have hdue : (s.functional = true ∧ match s.isl.pulsed with
        | some b => ms 1000 ≤ s.islTime - b
        | none => True) ↔
        s.functional = true ∧ s.isl.pulsed.all (fun t => decide (ms 1000 ≤ s.islTime - t)) = true := by
      cases s.isl.pulsed <;> simp
    refine ⟨fun h => ?_, fun h => ?_⟩
    · exact (execVetoTestPulse_eq s pulsed).trans (if_neg fun e => h (hdue.mpr (by simpa using e)))
    · exact execVetoTestPulse_due (hdue.mp h).1 (hdue.mp h).2
  · exact fun h => ⟨_, execLockupN_quiet h, rfl, rfl, rfl, rfl⟩
  · exact fun hp hl hf => execLockupN_falls hp hl hf
  · split
    next hw => rw [exec_paramWriteDone, execParamWriteDone, hw]
    next w hw =>
      refine ⟨fun h => ?_, fun h hc => ?_, fun h hc => ?_⟩
      · exact h ▸ execParamWriteDone_failed hw
      · exact h ▸ execParamWriteDone_confirms hw hc
      · exact h ▸ execParamWriteDone_commits hw hc

end Sys2Proof.Machine
end

section
/-! PROOF. The messages of the island's mailbox: what each answers, and what it leaves of the island (R450, R452, R454, R461,
R464, R470, Tables 19-7 and 19-7a). -/

namespace Sys2Proof.Machine

variable {s : State} {req : List Byte}

/-! ### Taking a message -/

theorem State.onMessage_none (h : s.isl.msg = none) (type : Nat) (f : List Byte → State → State) :
    s.onMessage type f = .next s := by
  unfold State.onMessage
  rw [h]

theorem State.onMessage_other {t type : Nat} (h : s.isl.msg = some (t, req)) (hne : t ≠ type) (f : List Byte → State → State) :
    s.onMessage type f = .next s := by
  unfold State.onMessage
  rw [h]
  exact if_pos hne

theorem State.onMessage_refused {type : Nat} (h : s.isl.msg = some (type, req)) (hb : 2 < type) (hs : s.hs = 0 ∨ s.hs = 6)
    (f : List Byte → State → State) : s.onMessage type f = .next (s.answer 1 []) := by
  unfold State.onMessage
  rw [h]
  refine (if_neg (not_not.mpr rfl)).trans (if_pos ?_)
  rcases hs with hs | hs <;> simp [hb, hs, hsMonitor, hsFail]

theorem State.onMessage_busy {type : Nat} (h : s.isl.msg = some (type, req)) (hb : 2 < type) (hm : s.hs ≠ 0) (hf : s.hs ≠ 6)
    (hw : s.on HDL_PWRITE.BUSY 0 = true) (f : List Byte → State → State) : s.onMessage type f = .next (s.answer 8 []) := by
  unfold State.onMessage
  rw [h]
  refine (if_neg (not_not.mpr rfl)).trans ((if_neg ?_).trans (if_pos (by simp [hb, hw])))
  simp [hm, hf, hsMonitor, hsFail]

/-- The states and the times in which a message is acted on. -/
theorem State.onMessage_takes {type : Nat} (h : s.isl.msg = some (type, req))
    (hr : type ≤ 2 ∨ (s.hs ≠ 0 ∧ s.hs ≠ 6 ∧ s.on HDL_PWRITE.BUSY 0 = false)) (f : List Byte → State → State) :
    s.onMessage type f = .next (f req s) := by
  unfold State.onMessage
  rw [h]
  refine (if_neg (not_not.mpr rfl)).trans ((if_neg ?_).trans (if_neg ?_))
  · rcases hr with hr | ⟨hm, hf, -⟩
    · simp [Nat.not_lt.mpr hr]
    · simp [hm, hf, hsMonitor, hsFail]
  · rcases hr with hr | ⟨-, -, hw⟩
    · simp [Nat.not_lt.mpr hr]
    · simp [hw]

/-- A mailbox command: it takes the message of its type, and neither the island's face nor an axis changes. -/
structure IsMail (i : Instr) (type : Nat) : Prop where
  takes : ∃ f, (∀ s, exec i s = s.onMessage type f) ∧ ∀ req s, (f req s).isl.axes = s.isl.axes
  calm : ∀ s, Calm s (exec i s)

theorem State.answer_axes (s : State) (code : Nat) (rsp : List Byte) : (s.answer code rsp).isl.axes = s.isl.axes := rfl

theorem State.refuseConfirm_axes (s : State) : s.refuseConfirm.isl.axes = s.isl.axes := by
  unfold State.refuseConfirm
  dsimp only
  split <;> rfl

theorem isMail_status : IsMail .status 1 := ⟨⟨_, fun _ => rfl, fun _ _ => rfl⟩, execStatus_calm⟩

theorem isMail_regRead : IsMail .regRead 2 :=
  ⟨⟨_, fun _ => rfl, fun _ _ => by dsimp only; split <;> rfl⟩, execRegRead_calm⟩

theorem isMail_paramBegin : IsMail .paramBegin 3 :=
  ⟨⟨_, fun _ => rfl, fun _ _ => by dsimp only; (repeat' split) <;> rfl⟩, execParamBegin_calm⟩

theorem isMail_paramData : IsMail .paramData 4 :=
  ⟨⟨_, fun _ => rfl, fun _ _ => by dsimp only; (repeat' split) <;> rfl⟩, execParamData_calm⟩

theorem isMail_paramCommit : IsMail .paramCommit 5 :=
  ⟨⟨_, fun _ => rfl, fun _ _ => by dsimp only; (repeat' split) <;> rfl⟩, execParamCommit_calm⟩

theorem isMail_checkRead : IsMail .checkRead 6 :=
  ⟨⟨_, fun _ => rfl, fun _ _ => by (repeat' split) <;> rfl⟩, execCheckRead_calm⟩

theorem isMail_confirm : IsMail .confirm 7 := by
  refine ⟨⟨_, fun _ => rfl, fun _ s => ?_⟩, execConfirm_calm⟩
  split
  · rfl
  · split
    · rfl
    · split
      · rfl
      · split
        · rfl
        · split
          · exact s.refuseConfirm_axes
          · rfl

theorem isMail_operate : IsMail .operate 8 :=
  ⟨⟨_, fun _ => rfl, fun _ _ => by dsimp only; (repeat' split) <;> rfl⟩, execOperate_calm⟩

theorem isMail_stop : IsMail .stop 9 := ⟨⟨_, fun _ => rfl, fun _ _ => by split <;> rfl⟩, execStop_calm⟩

theorem isMail_handover : IsMail .handover 10 :=
  ⟨⟨_, fun _ => rfl, fun _ _ => by split <;> rfl⟩, execHandover_calm⟩

theorem State.writeEvents_axes (s : State) (v : Nat) : (s.writeFld HDL_EVT.EVT 0 v).isl = s.isl := rfl

theorem isMail_clearEvt : IsMail .clearEvt 11 := ⟨⟨_, fun _ => rfl, fun _ _ => rfl⟩, execClearEvt_calm⟩

/-- What every mailbox command answers to what waits (R450, R464). -/
theorem IsMail.results {i : Instr} {type : Nat} (h : IsMail i type) (s : State) : match s.isl.msg with
    | none => exec i s = .next s
    | some (t, _) => (t ≠ type → exec i s = .next s) ∧
      (t = type → 2 < type → s.hs = 0 ∨ s.hs = 6 → exec i s = .next (s.answer 1 [])) ∧
      (t = type → 2 < type → s.hs ≠ 0 → s.hs ≠ 6 → s.on HDL_PWRITE.BUSY 0 = true → exec i s = .next (s.answer 8 [])) ∧
      answers i s fun u => u.hs = s.hs ∧ u.isl.chans = s.isl.chans ∧ u.isl.axes = s.isl.axes ∧ u.auth = s.auth := by
  obtain ⟨⟨f, hf, haxes⟩, hcalm⟩ := h
  have hkeeps : ∀ u, exec i s = .next u → u.isl.axes = s.isl.axes →
      u.hs = s.hs ∧ u.isl.chans = s.isl.chans ∧ u.isl.axes = s.isl.axes ∧ u.auth = s.auth := fun u hu ha =>
    have hface : u.face = s.face := hcalm s u hu
    ⟨State.hs_of_face hface, State.chans_of_face hface, ha, State.auth_of_face hface⟩
  split
  next hm => exact (hf s).trans (State.onMessage_none hm type f)
  next t req hm =>
    refine ⟨fun hne => (hf s).trans (State.onMessage_other hm hne f), ?_, ?_, ?_⟩
    · rintro rfl hb hs
      exact (hf s).trans (State.onMessage_refused hm hb hs f)
    · rintro rfl hb hm0 hf6 hw
      exact (hf s).trans (State.onMessage_busy hm hb hm0 hf6 hw f)
    · have hnext : ∃ u, s.onMessage type f = .next u ∧ u.isl.axes = s.isl.axes := by
        unfold State.onMessage
        rw [hm]
        dsimp only
        split
        · exact ⟨s, rfl, rfl⟩
        · split
          · exact ⟨_, rfl, rfl⟩
          · split
            · exact ⟨_, rfl, rfl⟩
            · exact ⟨_, rfl, haxes req s⟩
      obtain ⟨u, hu, ha⟩ := hnext
      exact ⟨u, (hf s).trans hu, hkeeps u ((hf s).trans hu) ha⟩

theorem IsMail.other {i : Instr} {type t : Nat} (h : IsMail i type) (hm : s.isl.msg = some (t, req)) (hne : t ≠ type) :
    exec i s = .next s := by
  obtain ⟨⟨f, hf, -⟩, -⟩ := h
  exact (hf s).trans (State.onMessage_other hm hne f)

/-! ### STATUS and REG_READ (R464, R511) -/

theorem execStatus_acts (hm : s.isl.msg = some (1, req)) : exec .status s = .next (s.answer 0 (s.hdlWords 0 16)) := by
  rw [exec_status, execStatus, State.onMessage_takes hm (.inl (by decide))]
  rfl

theorem execRegRead_acts (hm : s.isl.msg = some (2, req)) : exec .regRead s =
    .next (if fieldAt req 0 4 % 4 = 0 && within' (fieldAt req 4 1) 1 64 then
      s.answer 0 (s.hdlWords (fieldAt req 0 4) (fieldAt req 4 1)) else s.answer 5 []) := by
  rw [exec_regRead, execRegRead, State.onMessage_takes hm (.inl (by decide))]
  rfl

/-! ### The parameter load (R450) -/

/-- The island acts on every message: it runs an image and does not write the parameter region. -/
def State.receptive (s : State) : Prop := s.hs ≠ 0 ∧ s.hs ≠ 6 ∧ s.on HDL_PWRITE.BUSY 0 = false

theorem State.receptive.takesParams (h : s.receptive) : s.takesParams = decide (s.hs ≠ 4) := by
  obtain ⟨h0, h6, -⟩ := h
  unfold State.takesParams
  rw [decide_eq_true (p := s.hs ≠ hsMonitor) h0, decide_eq_true (p := s.hs ≠ hsFail) h6, Bool.and_true, Bool.and_true]
  rfl

theorem within'_eq (v lo hi : Nat) : within' v lo hi = decide (lo ≤ v ∧ v ≤ hi) := by
  rw [within', Bool.decide_and]

theorem execParamBegin_acts (hm : s.isl.msg = some (3, req)) (hr : s.receptive) : exec .paramBegin s =
    .next (if s.hs = 4 then s.answer 1 [] else if 16 ≤ fieldAt req 0 4 ∧ fieldAt req 0 4 ≤ 130816 then
      ((s.mapIsl fun i => { i with upload := some { len := fieldAt req 0 4, pcrc := fieldAt req 4 4 } }).setOn
        HDL_PWRITE.FAILED 0 false).answer 0 [] else s.answer 7 []) := by
  rw [exec_paramBegin, execParamBegin, State.onMessage_takes hm (.inr hr)]
  refine congrArg _ ?_
  dsimp only
  rw [hr.takesParams]
  by_cases h4 : s.hs = 4
  · rw [if_pos h4, if_pos (by simp [h4])]
    rfl
  · rw [if_neg h4, if_neg (by simp [h4])]
    by_cases hl : 16 ≤ fieldAt req 0 4 ∧ fieldAt req 0 4 ≤ 130816
    · rw [if_pos hl, within'_eq, decide_eq_true (p := bodyMin ≤ _ ∧ _ ≤ bodyMax) hl]
      rfl
    · rw [if_neg hl, within'_eq, decide_eq_false (p := bodyMin ≤ _ ∧ _ ≤ bodyMax) hl]
      rfl

theorem execParamData_refused (hm : s.isl.msg = some (4, req)) (hr : s.receptive) (h : s.hs = 4 ∨ s.isl.upload = none) :
    exec .paramData s = .next (s.answer 1 []) := by
  rw [exec_paramData, execParamData, State.onMessage_takes hm (.inr hr)]
  refine congrArg _ ?_
  dsimp only
  split
  · rfl
  next w hw => exact if_pos (by simp [hr.takesParams, h.resolve_right (by simp [hw])])

theorem execParamData_acts (hm : s.isl.msg = some (4, req)) (hr : s.receptive) (h4 : s.hs ≠ 4) {w : Upload}
    (hw : s.isl.upload = some w) : exec .paramData s = .next (if w.len < fieldAt req 0 4 + fieldAt req 4 4 then s.answer 7 []
      else (s.mapIsl fun i => { i with upload := some { w with data := writeSpan w.data (fieldAt req 0 4) (req.drop 8) } }).answer
        0 []) := by
  rw [exec_paramData, execParamData, State.onMessage_takes hm (.inr hr)]
  refine congrArg _ ?_
  dsimp only
  rw [hw]
  exact if_neg (by simp [hr.takesParams, h4])

theorem execParamCommit_refused (hm : s.isl.msg = some (5, req)) (hr : s.receptive) (h : s.hs = 4 ∨ s.isl.upload = none) :
    exec .paramCommit s = .next (s.answer 1 []) := by
  rw [exec_paramCommit, execParamCommit, State.onMessage_takes hm (.inr hr)]
  refine congrArg _ ?_
  dsimp only
  split
  · rfl
  next w hw => exact if_pos (by simp [hr.takesParams, h.resolve_right (by simp [hw])])

/-- The load that was committed is over. -/
def State.uploadOver (s : State) : State := s.mapIsl fun i => { i with upload := none }

/-- The number of the next copy of the parameter set. -/
def State.nextSeq (s : State) : Nat :=
  match s.isl.set with
  | none => 1
  | some p => (p.seq + 1) % 2 ^ 32

/-- A pending confirmation is cancelled (Table 19-11). -/
def State.unpended (s : State) : State :=
  (s.mapIsl fun i => { i with pendAt := none }).setOn HDL_STATE.CONFIRM_PEND 0 false

theorem execParamCommit_acts (hm : s.isl.msg = some (5, req)) (hr : s.receptive) (h4 : s.hs ≠ 4) {w : Upload}
    (hw : s.isl.upload = some w) : exec .paramCommit s =
      .next (if crc32c (readSpan w.data 0 w.len) = w.pcrc ∧ (parseBody (readSpan w.data 0 w.len)).isSome = true then
        (s.uploadOver.unpended.startWrite (copyBytes s.nextSeq w.pcrc 0 false false [0, 0, 0, 0] (readSpan w.data 0 w.len))
          false).answer 0 (leBytes 4 s.nextSeq) else s.uploadOver.answer 7 []) := by
  rw [exec_paramCommit, execParamCommit, State.onMessage_takes hm (.inr hr)]
  refine congrArg _ ?_
  dsimp only
  rw [hw]
  refine (if_neg (by simp [hr.takesParams, h4])).trans ?_
  generalize hb : readSpan w.data 0 w.len = body
  by_cases hg : crc32c body = w.pcrc ∧ (parseBody body).isSome = true
  · rw [if_pos hg]
    refine (if_neg ?_).trans rfl
    simp [hg.1, Option.isSome_iff_ne_none.mp hg.2]
  · rw [if_neg hg]
    refine (if_pos ?_).trans rfl
    by_cases hc : crc32c body = w.pcrc
    · have : parseBody body = none := by
        cases hp : parseBody body with
        | none => rfl
        | some p => exact absurd ⟨hc, by rw [hp]; rfl⟩ hg
      simp [this]
    · simp [hc]

theorem execParamCommit_starts (hm : s.isl.msg = some (5, req)) (hr : s.receptive) (h4 : s.hs ≠ 4) {w : Upload}
    (hw : s.isl.upload = some w)
    (hg : crc32c (readSpan w.data 0 w.len) = w.pcrc ∧ (parseBody (readSpan w.data 0 w.len)).isSome = true) :
    answers .paramCommit s fun u => (u.isl.answer = some (0, leBytes 4 s.nextSeq) ∧ u.isl.msg = none) ∧
      u.on HDL_PWRITE.BUSY 0 = true ∧ u.on HDL_STATE.CONFIRM_PEND 0 = false ∧ u.isl.pendAt = none ∧
      u.isl.pwrite = some (ParamWrite.mk s.otherCopy
        (copyBytes s.nextSeq w.pcrc 0 false false [0, 0, 0, 0] (readSpan w.data 0 w.len)) false) := by
  refine ⟨_, (execParamCommit_acts hm hr h4 hw).trans (congrArg _ (if_pos hg)), ⟨rfl, rfl⟩, ?_, ?_, rfl, rfl⟩
  · exact State.on_setOn_self (F := HDL_PWRITE.BUSY) _ rfl 0 true
  · refine (State.on_setOn_ne (F := HDL_PWRITE.BUSY) (G := HDL_STATE.CONFIRM_PEND) _ (by decide) _).trans ?_
    exact State.on_setOn_self (F := HDL_STATE.CONFIRM_PEND) _ rfl 0 false

/-! ### The confirmation (R452) -/

theorem execCheckRead_acts (hm : s.isl.msg = some (6, req)) (hr : s.receptive) : exec .checkRead s =
    .next (match s.checkNow with
      | some c => if s.hs = 2 ∨ s.hs = 3 then s.answer 0 (leBytes 4 c ++ leBytes 1 (if s.isl.untested then 1 else 0))
        else s.answer 1 []
      | none => s.answer 1 []) := by
  rw [exec_checkRead, execCheckRead, State.onMessage_takes hm (.inr hr)]
  refine congrArg _ ?_
  cases s.checkNow with
  | none => rfl
  | some c =>
    dsimp only
    by_cases h : s.hs = 2 ∨ s.hs = 3
    · rw [if_pos h]
      exact if_pos (by rcases h with h | h <;> simp [h, hsUnconfirmed, hsStopped])
    · rw [if_neg h]
      rw [not_or] at h
      exact if_neg (by simp [h, hsUnconfirmed, hsStopped])

theorem execConfirm_state (hm : s.isl.msg = some (7, req)) (hr : s.receptive) (h2 : s.hs ≠ 2) (h3 : s.hs ≠ 3) :
    exec .confirm s = .next (s.answer 1 []) := by
  rw [exec_confirm, execConfirm, State.onMessage_takes hm (.inr hr)]
  exact congrArg _ (if_pos (by simp [h2, h3, hsUnconfirmed, hsStopped]))

theorem execConfirm_locked (hm : s.isl.msg = some (7, req)) (hr : s.receptive) (h : s.hs = 2 ∨ s.hs = 3)
    (hl : s.isl.lockoutAt.isSome = true) : exec .confirm s = .next (s.answer 6 []) := by
  rw [exec_confirm, execConfirm, State.onMessage_takes hm (.inr hr)]
  refine congrArg _ ((if_neg ?_).trans (if_pos hl))
  rcases h with h | h <;> simp [h, hsUnconfirmed, hsStopped]

/-- CONFIRM is pending from now on. -/
def State.pended (s : State) : State :=
  (s.mapIsl fun i => { i with pendAt := some i.t }).setOn HDL_STATE.CONFIRM_PEND 0 true

theorem execConfirm_acts (hm : s.isl.msg = some (7, req)) (hr : s.receptive) (h : s.hs = 2 ∨ s.hs = 3)
    (hl : s.isl.lockoutAt = none) : exec .confirm s = .next (match s.checkNow with
      | none => s.answer 1 []
      | some c => if s.sealsMatch = false then s.answer 1 [] else if fieldAt req 0 4 = c then s.pended.answer 0 []
        else s.refuseConfirm) := by
  rw [exec_confirm, execConfirm, State.onMessage_takes hm (.inr hr)]
  refine congrArg _ ((if_neg ?_).trans ((if_neg (by simp [hl])).trans ?_))
  · rcases h with h | h <;> simp [h, hsUnconfirmed, hsStopped]
  · cases s.checkNow with
    | none => rfl
    | some c =>
      dsimp only
      cases s.sealsMatch with
      | false => rfl
      | true =>
        refine (if_neg (by simp)).trans (Eq.symm ((if_neg (by simp)).trans ?_))
        by_cases hc : fieldAt req 0 4 = c
        · rw [if_pos hc]
          exact (if_neg (not_not.mpr hc)).symm
        · rw [if_neg hc]
          exact (if_pos hc).symm

/-- A refusal is remembered for 600 s. -/
def State.refusalNoted (s : State) : State :=
  (s.mapIsl fun i => { i with refusals := s.islTime :: s.isl.refusals.filter fun x => decide (s.islTime - x < ms 600000) }).islEvent 6

/-- The third refusal within 600 s locks CONFIRM out. -/
def State.lockedOut (s : State) : State := (s.mapIsl fun i => { i with lockoutAt := some s.islTime }).islEvent 7

theorem State.refuseConfirm_eq (s : State) : s.refuseConfirm =
    (if 2 ≤ (s.isl.refusals.filter fun x => decide (s.islTime - x < ms 600000)).length then s.refusalNoted.lockedOut
      else s.refusalNoted).answer 2 [] := by
  have hlen : 3 ≤ (s.islTime :: s.isl.refusals.filter fun x => decide (s.islTime - x < ms 600000)).length ↔
      2 ≤ (s.isl.refusals.filter fun x => decide (s.islTime - x < ms 600000)).length := by
    rw [List.length_cons]
    omega
  unfold State.refuseConfirm
  dsimp only
  simp only [hlen]
  rfl

theorem State.refuseConfirm_results (hl : s.isl.lockoutAt = none) :
    (s.refuseConfirm.isl.answer = some (2, []) ∧ s.refuseConfirm.isl.msg = none) ∧
      s.refuseConfirm.isl.pendAt = s.isl.pendAt ∧ s.refuseConfirm.bitF HDL_EVT.EVT 0 6 = true ∧
      (s.refuseConfirm.isl.lockoutAt = some s.islTime ↔
        2 ≤ (s.isl.refusals.filter fun x => decide (s.islTime - x < ms 600000)).length) := by
  have hnoted : s.refusalNoted.bitF HDL_EVT.EVT 0 6 = true := State.bitF_islEvent_self _ (by decide)
  rw [State.refuseConfirm_eq]
  by_cases h : 2 ≤ (s.isl.refusals.filter fun x => decide (s.islTime - x < ms 600000)).length
  · rw [if_pos h]
    refine ⟨⟨rfl, rfl⟩, rfl, ?_, fun _ => h, fun _ => rfl⟩
    exact (State.bitF_islEvent_ne (s.refusalNoted.mapIsl fun i => { i with lockoutAt := some s.refusalNoted.islTime })
      (k := 7) (j := 6) (by decide) (by decide)).trans hnoted
  · rw [if_neg h]
    refine ⟨⟨rfl, rfl⟩, rfl, hnoted, fun e => ?_, fun e => absurd e h⟩
    have : s.isl.lockoutAt = some s.islTime := e
    rw [hl] at this
    cases this

/-! ### OPERATE, STOP, HANDOVER, CLEAR_EVT (R454, R461, R464, R470) -/

/-- The twin may run with the same parameters (R454). -/
def State.twinReady (s : State) : Bool :=
  s.freshTwin.any fun w => (w.hs = 3 || w.hs = 4) && w.pcrc = s.f HDL_PCRC.PCRC 0

/-- OPERATE is armed from now on. -/
def State.armed (s : State) : State :=
  (s.mapIsl fun i => { i with armedAt := some i.t }).setOn HDL_STATE.ARMED 0 true

theorem execOperate_acts (hm : s.isl.msg = some (8, req)) (hr : s.receptive) : exec .operate s =
    .next (if s.hs ≠ 3 || s.faulted || (!s.confRebind && !s.confValid) then s.answer 1 []
      else if s.confRebind then s.answer 3 []
      else if !s.irec?.any (·.single) && !s.twinReady then s.answer 4 [] else s.armed.answer 0 []) := by
  rw [exec_operate, execOperate, State.onMessage_takes hm (.inr hr)]
  rfl

theorem State.confRebind_of_valid (h : s.confValid = true) : s.confRebind = false := by
  simp only [State.confValid, Bool.and_eq_true] at h
  simp [State.confRebind, h.2]

theorem execStop_acts (hm : s.isl.msg = some (9, req)) (hr : s.receptive) : exec .stop s =
    .next (if s.hs = 4 then (s.mapIsl fun i => { i with stopping := true }).answer 0 [] else s.answer 1 []) := by
  rw [exec_stop, execStop, State.onMessage_takes hm (.inr hr)]
  rfl

/-- RELINQUISH is set, and the handover runs from now on, or goes on. -/
def State.handsOver (s : State) : State :=
  (s.mapIsl fun i => { i with handoverAt := some (i.handoverAt.getD i.t) }).setOn HDL_STATE.RELINQUISH 0 true

theorem execHandover_acts (hm : s.isl.msg = some (10, req)) (hr : s.receptive) : exec .handover s =
    .next (if s.hs = 4 && s.auth && !s.on HDL_STATE.DEGRADED 0 then s.handsOver.answer 0 [] else s.answer 1 []) := by
  rw [exec_handover, execHandover, State.onMessage_takes hm (.inr hr)]
  rfl

theorem execClearEvt_acts (hm : s.isl.msg = some (11, req)) (hr : s.receptive) : exec .clearEvt s =
    .next ((s.writeFld HDL_EVT.EVT 0 (fieldAt req 0 4)).answer 0 []) := by
  rw [exec_clearEvt, execClearEvt, State.onMessage_takes hm (.inr hr)]
  rfl

/-- A write of HDL_EVT clears the events that it names (w1c). -/
theorem State.writeEvents_bit (s : State) (v : Nat) {j : Nat} (hj : j < 12) :
    (s.writeFld HDL_EVT.EVT 0 v).bitF HDL_EVT.EVT 0 j = (s.bitF HDL_EVT.EVT 0 j && !v.testBit j) := by
  have hw : HDL_EVT.EVT.afterWrite (s.f HDL_EVT.EVT 0) (v / 2 ^ HDL_EVT.EVT.lo % 2 ^ HDL_EVT.EVT.width) =
      s.f HDL_EVT.EVT 0 &&& (2 ^ 12 - (v % 2 ^ 12 + 1)) := by
    show s.f HDL_EVT.EVT 0 &&& (2 ^ 12 - 1 - v / 2 ^ 0 % 2 ^ 12) = _
    rw [Nat.pow_zero, Nat.div_one, Nat.sub_sub, Nat.add_comm 1]
  rw [State.bitF, State.f_writeFld_self, hw, Nat.testBit_and, Nat.testBit_two_pow_sub_succ (Nat.mod_lt _ (by decide)),
    Nat.testBit_mod_two_pow, decide_eq_true hj, Bool.true_and, Bool.true_and]
  rfl

/-- Settles O48: every message by how it is taken, and each by what it answers in the states that act on it. -/
theorem islandMailboxResults : Obligations.IslandMailboxResults := by
  unfold Obligations.IslandMailboxResults
  refine ⟨fun s i type h => ?_, fun s => ?_⟩
  · simp only [List.mem_cons, Prod.mk.injEq, List.not_mem_nil, or_false] at h
    rcases h with ⟨rfl, rfl⟩ | ⟨rfl, rfl⟩ | ⟨rfl, rfl⟩ | ⟨rfl, rfl⟩ | ⟨rfl, rfl⟩ | ⟨rfl, rfl⟩ | ⟨rfl, rfl⟩ | ⟨rfl, rfl⟩ |
      ⟨rfl, rfl⟩ | ⟨rfl, rfl⟩ | ⟨rfl, rfl⟩
    · exact isMail_status.results s
    · exact isMail_regRead.results s
    · exact isMail_paramBegin.results s
    · exact isMail_paramData.results s
    · exact isMail_paramCommit.results s
    · exact isMail_checkRead.results s
    · exact isMail_confirm.results s
    · exact isMail_operate.results s
    · exact isMail_stop.results s
    · exact isMail_handover.results s
    · exact isMail_clearEvt.results s
  · split
    · trivial
    next type req hm =>
      refine ⟨?_, ?_, ?_, fun h0 h6 hb => ?_⟩
      · rintro rfl
        exact execStatus_acts hm
      · rintro rfl ho hk1 hk
        exact (execRegRead_acts hm).trans (congrArg _ (if_pos (by simp [within', ho, hk1, hk])))
      · rintro rfl h
        refine (execRegRead_acts hm).trans (congrArg _ (if_neg fun e => ?_))
        simp only [within', Bool.and_eq_true, decide_eq_true_eq] at e
        omega
      have hr : s.receptive := ⟨h0, h6, hb⟩
      refine ⟨?_, ?_, fun h4 => ?_, ?_, ?_, ?_, ?_, ?_, ?_, ?_⟩
      · rintro rfl
        refine ⟨fun h4 => ?_, fun h4 hl => ?_, fun h4 hl hu => ?_⟩
        · rw [execParamBegin_acts hm hr, if_pos h4]
        · rw [execParamBegin_acts hm hr, if_neg h4, if_neg hl]
        · refine ⟨_, (execParamBegin_acts hm hr).trans (congrArg _ ((if_neg h4).trans (if_pos ⟨hl, hu⟩))), ⟨rfl, rfl⟩, rfl, ?_⟩
          exact State.on_setOn_self (F := HDL_PWRITE.FAILED) _ rfl 0 false
      · rintro (rfl | rfl) h
        · exact ⟨execParamData_refused hm hr h, isMail_paramCommit.other hm (by decide)⟩
        · exact ⟨isMail_paramData.other hm (by decide), execParamCommit_refused hm hr h⟩
      · split
        · trivial
        next w hw =>
          refine ⟨?_, ?_, ?_, ?_⟩
          · rintro rfl hl
            rw [execParamData_acts hm hr h4 hw, if_pos hl]
          · rintro rfl hl
            exact ⟨_, (execParamData_acts hm hr h4 hw).trans (congrArg _ (if_neg (Nat.not_lt.mpr hl))), ⟨rfl, rfl⟩, rfl⟩
          · rintro rfl hg
            exact ⟨_, (execParamCommit_acts hm hr h4 hw).trans (congrArg _ (if_neg hg)), ⟨rfl, rfl⟩, rfl, rfl, rfl⟩
          · rintro rfl hg
            exact execParamCommit_starts hm hr h4 hw hg
      · rintro rfl
        exact execCheckRead_acts hm hr
      · rintro rfl h2 h3
        exact execConfirm_state hm hr h2 h3
      · rintro rfl h
        refine ⟨fun hl => execConfirm_locked hm hr h hl, fun hl => ?_⟩
        have hacts := execConfirm_acts hm hr h hl
        split
        next hc => rw [hacts, hc]
        next c hc =>
          rw [hc] at hacts
          refine ⟨fun hs => ?_, fun hs ho => ?_, fun hs ho => ?_⟩
          · rw [hacts, hs]
            rfl
          · rw [hs] at hacts
            refine ⟨_, hacts.trans (congrArg _ ((if_neg (by simp)).trans (if_pos ho))), ⟨rfl, rfl⟩, rfl, ?_⟩
            exact State.on_setOn_self (F := HDL_STATE.CONFIRM_PEND) _ rfl 0 true
          · rw [hs] at hacts
            exact ⟨_, hacts.trans (congrArg _ ((if_neg (by simp)).trans (if_neg ho))), State.refuseConfirm_results hl⟩
      · rintro rfl
        have hacts := execOperate_acts hm hr
        refine ⟨fun h => ?_, fun h hb => ?_, fun h hb hv => ?_, fun h hv hs hp => ?_, fun h hv hs => ?_⟩
        · refine hacts.trans (congrArg _ (if_pos ?_))
          by_cases h3 : s.hs = 3
          · have : s.faulted = true := by simpa [h3] using h
            simp [this]
          · simp [h3]
        · rw [hacts, hb, h.1, h.2]
          rfl
        · rw [hacts, hb, hv, h.1, h.2]
          rfl
        · have hp' : s.twinReady = false := hp
          rw [hacts, State.confRebind_of_valid hv, hv, h.1, h.2, hs, hp']
          rfl
        · have hs' : (!s.irec?.any (·.single) && !s.twinReady) = false := by
            rcases hs with hs | hs
            · rw [hs]
              rfl
            · have hp : s.twinReady = true := hs
              rw [hp, Bool.not_true, Bool.and_false]
          refine ⟨s.armed.answer 0 [], ?_, ⟨rfl, rfl⟩, State.on_setOn_self (F := HDL_STATE.ARMED) _ rfl 0 true, rfl⟩
          rw [hacts, State.confRebind_of_valid hv, hv, h.1, h.2, hs']
          rfl
      · rintro rfl
        have hacts := execStop_acts hm hr
        exact ⟨fun h => hacts.trans (congrArg _ (if_neg h)), fun h => ⟨_, hacts.trans (congrArg _ (if_pos h)), ⟨rfl, rfl⟩, rfl⟩⟩
      · rintro rfl
        have hacts := execHandover_acts hm hr
        refine ⟨fun h => hacts.trans (congrArg _ (if_neg ?_)), fun h ha hd => ?_⟩
        · simpa [and_assoc] using h
        · refine ⟨_, hacts.trans (congrArg _ (if_pos (by simp [h, ha, hd]))), ⟨rfl, rfl⟩, ?_, rfl⟩
          exact State.on_setOn_self (F := HDL_STATE.RELINQUISH) _ rfl 0 true
      · rintro rfl
        exact ⟨_, execClearEvt_acts hm hr, ⟨rfl, rfl⟩, fun j hj => s.writeEvents_bit _ hj⟩

end Sys2Proof.Machine
end

section
/-! PROOF. Refutations whose state holds, in one register or record, a number wider than its field: a write of the field
narrows it. -/

namespace Sys2Proof.Machine

/-! ### Trace blocks discarded by a full buffer (R544) -/

/-- The buffer is full, one byte waits in unit 0, which is flushed, and the drop count stands past its 32 bits. -/
def fullTraceBuffer : State where
  regs := [(GLN_TRC_STAT.FULL.key 0, 1), (GLN_TRC_DROP.COUNT.key 0, 2 ^ 32)]
  gln := { units := [(0, { fifo := [0], flush := true })] }

/-- A unit that is flushed with one byte waiting has a block to write; the buffer is full and the count too large. -/
theorem fullTraceBuffer_due : (fullTraceBuffer.unit (0 : Fin 256)).fifo = [0] ∧ (fullTraceBuffer.unit (0 : Fin 256)).flush = true ∧
    fullTraceBuffer.on GLN_TRC_STAT.FULL 0 = true ∧ fullTraceBuffer.f GLN_TRC_DROP.COUNT 0 = 2 ^ 32 := by
  decide

/-- The count saturates at its largest value. -/
theorem fullTraceBuffer_writes : ∃ u, exec (.traceBlockWrite 0 .ok) fullTraceBuffer = .next u ∧
    u.f GLN_TRC_DROP.COUNT 0 = 2 ^ 32 - 1 :=
  ⟨_, rfl, by decide⟩

/-- Refutes O59: the count of discarded trace bytes, which the statement keeps where it is past its 32 bits already, saturates
at 2^32 - 1. -/
theorem not_traceAndTallyResults : ¬ Obligations.TraceAndTallyResults := by
  unfold Obligations.TraceAndTallyResults
  intro h
  obtain ⟨hfifo, hflush, hfull, hcount⟩ := fullTraceBuffer_due
  obtain ⟨u, hu, hsaturated⟩ := fullTraceBuffer_writes
  obtain ⟨v, hv, -, -, hkept, -⟩ := (h.2.1 fullTraceBuffer 0 .ok).2 ⟨by rw [hfifo]; simp, .inr hflush⟩
  cases Host.Outcome.next.inj (hu.symm.trans hv)
  have hmax := (hkept hfull).2.2
  rw [hcount, hsaturated, hfifo] at hmax
  exact absurd hmax (by decide)

/-! ### A PAIR that was not acknowledged, undone to no state of Table 17-4 (Table 17-8) -/

/-- A lead that is PAIRED, whose PAIR waits in the retry buffer, and whose earlier state is kept as 13, which is INCOMPAT in
the three bits of YSTATE. -/
def oddEarlierState : State where
  clk := { porstHeld := false, porstLow := false }
  regs := [(YK_STATUS.YSTATE.key 0, ysPaired), (YK_STATUS.LEAD.key 0, 1), (YK_CFG.EN.key 0, 1)]
  links := [(6, { retry := [(1, [0x0C])] })]
  yoke := { from' := 13 }

theorem oddEarlierState_facts : oddEarlierState.acts .reeve = true ∧ oddEarlierState.on YK_CFG.EN 0 = true ∧
    oddEarlierState.ys ≠ ysIncompat ∧ oddEarlierState.yoke.from' ≠ ysIncompat := by
  decide

/-- Disabling the yoke leaves it INCOMPAT. -/
theorem oddEarlierState_disabled : ∃ u, exec (.yokeEnable .reeve false 0 0) oddEarlierState = .next u ∧ u.ys = ysIncompat :=
  ⟨_, rfl, by decide⟩

/-- Refutes O44: a yoke that is disabled while its PAIR is not acknowledged goes back to the state kept from before; the number
13 is INCOMPAT in YSTATE's three bits, where disabling leaves it. -/
theorem not_yokeLinkResults : ¬ Obligations.YokeLinkResults := by
  unfold Obligations.YokeLinkResults
  intro h
  obtain ⟨hacts, hen, hys, hfrom⟩ := oddEarlierState_facts
  obtain ⟨u, hu, hincompat⟩ := oddEarlierState_disabled
  obtain ⟨-, -, hmay, -⟩ := h.2.1 oddEarlierState .reeve false 0 0
  obtain ⟨v, hv, -, -, -, -, hoff⟩ := hmay hacts trivial
  cases Host.Outcome.next.inj (hu.symm.trans hv)
  exact absurd (hincompat.symm.trans ((hoff rfl hen).2 hys hfrom)) (by decide)

/-! ### A rebase to a base past its 52 bits (R384) -/

/-- The physical function, DETACHED, with its queue 0 enabled in host memory and a rebase base of 2^52 pages. -/
def wideRebase : State where
  clk := { porstHeld := false, porstLow := false }
  regs := [(HST_ATTACH.STATE.key 0, 1), (HST_RB_BASE.ADDR.key 0, 2 ^ 52), (DRL_Q_CFG.EN.key 0, 1),
    (DRL_Q_BASE.ADDR.key 0, 2 ^ 50)]

theorem wideRebase_facts : wideRebase.acts .reeve = true ∧ wideRebase.detached 0 = true ∧ wideRebase.on HST_RB_CTL.BUSY 0 = false ∧
    wideRebase.on HST_RB_SEL.KIND 0 = false ∧ wideRebase.f HST_RB_SEL.INDEX 0 = 0 ∧ wideRebase.on DRL_Q_CFG.EN 0 = true ∧
    wideRebase.qHost 0 = true ∧ opSpace (wideRebase.f HST_RB_BASE.ADDR 0 * 4096) < 2 ∧
    opSpace (wideRebase.f HST_RB_CRBASE.ADDR 0 * 4096) < 2 ∧ wideRebase.f HST_RB_BASE.ADDR 0 = 2 ^ 52 := by
  decide

/-- The queue's base is the rebase base in its 52 bits. -/
theorem wideRebase_goes : ∃ u, exec (.rebase .reeve 0) wideRebase = .next u ∧ u.f DRL_Q_BASE.ADDR 0 = 0 :=
  ⟨_, rfl, by decide⟩

/-- Refutes O42: a rebase base that stands past its 52 bits is narrowed as the queue takes it. -/
theorem not_reattachResults : ¬ Obligations.ReattachResults := by
  unfold Obligations.ReattachResults
  intro h
  obtain ⟨hacts, hdet, hbusy, hkind, hindex, hen, hhost, hbase, hcr, hwide⟩ := wideRebase_facts
  obtain ⟨u, hu, hnarrow⟩ := wideRebase_goes
  obtain ⟨-, -, hgo, -⟩ := h.1 wideRebase .reeve 0
  obtain ⟨-, hgood⟩ := (hgo ⟨hacts, trivial⟩ hdet hbusy).2 hkind
  have hplace : 8 * (0 : Plot).val + wideRebase.f HST_RB_SEL.INDEX (0 : Plot) = 0 := hindex
  rw [hplace] at hgood
  obtain ⟨v, hv, -, -, -, htaken, -⟩ := hgood (by
    rintro (hi | hn | hn | hb | hc)
    · exact absurd (hindex ▸ hi) (by decide)
    · exact absurd (hn.symm.trans hen) (by decide)
    · exact absurd (hn.symm.trans hhost) (by decide)
    · exact absurd hb (Nat.not_le.mpr hbase)
    · exact absurd hc (Nat.not_le.mpr hcr))
  cases Host.Outcome.next.inj (hu.symm.trans hv)
  exact absurd (hnarrow.symm.trans (htaken.trans hwide)) (by decide)

end Sys2Proof.Machine
end

section
/-! PROOF. Refutation: a lost request whose route waits for it (R424) makes its package unreachable, which fails a Binder round
(R436), and the failed round is reported to the other peers by requests of its own. -/

namespace Sys2Proof.Machine

/-- A request to package 1 that has waited 2 ms. -/
def overdueRequest : SwReq := { dst := 1, id := 0, read := false, addr := 0, msg := [], use := .stale, sent := some 0 }

/-- The one request outstanding is overdue, a change of its route waits for it, and Binder operation 0 has a round in progress
that spans packages 0, 1 and 2. -/
def overdueWithRound : State where
  regs := [(CLK_TIMESTAMP.TS.key 0, 200000), (SWT_DIR.PENDING.key 1, 1), (SWT_DIR.VALID.key 1, 1), (SWT_DIR.VALID.key 2, 1),
    (BND_OP_CTL.V.key 0, 1), (BND_OP_ACRE.GLOBAL.key 0, 1), (BND_OP_PEERS.MASK.key 0, 6)]
  bnd := [(0, { partials := [(0, 0)] })]
  acre := { reqs := [overdueRequest] }

theorem overdueWithRound_since : 200000 ≤ overdueWithRound.since 0 := by
  decide

set_option maxRecDepth 8000 in
/-- Package 2 is sent the report of the failed round. -/
theorem overdueWithRound_reports : ∃ u, exec (.requestLost 1 0 false) overdueWithRound = .next u ∧ u.acre.reqs.length = 1 :=
  ⟨_, rfl, by decide⟩

/-- Refutes O46: the last request is removed, and the round that fails with its route sends a request to another peer. -/
theorem not_fabricLinkResults : ¬ Obligations.FabricLinkResults := by
  unfold Obligations.FabricLinkResults
  intro h
  obtain ⟨u, hu, hsent⟩ := overdueWithRound_reports
  obtain ⟨v, hv, hnone⟩ := (h.2.2.2 overdueWithRound 1 0 false).2 ⟨rfl, rfl, rfl, overdueWithRound_since⟩
  cases Host.Outcome.next.inj (hu.symm.trans hv)
  rw [hnone] at hsent
  exact absurd hsent (by decide)

end Sys2Proof.Machine
end

section
/-! PROOF. Refutations: checks that walk a plot's tables (R322), in a state whose next channel access comes back uncorrectable.
STREAM_OPEN and FRAME_ARM name no outcome of an access, and their walks find the table entries whole. -/

namespace Sys2Proof.Machine

/-- Plot 0 translates through a table at 0: entry 0 points to the table itself, and entry 1 maps, with every right, the addresses
from 2^30 on to those from 0 on. -/
def tableAtZero : Granary := { mem := [(0, 1), (8, 0x47), (9, 3)] }

def plotAtZero : PlotRec := { ptroot := 1, rtdesc := 1, streams := 1, extents := [0] }

/-- The eight bytes of 2^30. -/
def mappedAddress : List Byte := [0, 0, 0, 0x40, 0, 0, 0, 0]

/-! ### STREAM_OPEN (R374) -/

/-- A STREAM_OPEN of an input stream of one element of 64 bytes in device memory at 2^30. -/
def openingStream : Entry where
  plot := 0
  queue := 0
  seq := 0
  tag := 0
  opcode := 4
  packet := List.replicate 12 0 ++ [64, 0, 0, 0] ++ List.replicate 8 0 ++ mappedAddress ++ [1] ++ List.replicate 31 0
  order := 0
  state := .running

def streamWaits : State where
  granary := tableAtZero
  drill := { plots := [(0, plotAtZero)], ledger := [(0, openingStream)] }
  res := .uncorrectable

set_option maxRecDepth 8000 in
/-- As the state stands, the grant of the stream's ring cannot be read. -/
theorem streamWaits_checks :
    firstFail [(streamWaits.setEntry (0 : Fin 4096) { openingStream with begun := true }).step3 openingStream,
      (streamWaits.setEntry (0 : Fin 4096) { openingStream with begun := true }).step4 openingStream] =
      some { status := stLease, detail := dtNotLeased } := by
  decide

set_option maxRecDepth 8000 in
/-- The stream is opened. -/
theorem streamWaits_opens : ∃ u, exec (.streamOpen 0 0) streamWaits = .next u ∧ (u.entry 0).bind (·.reply) = some {} :=
  ⟨_, rfl, by decide⟩

/-- Refutes O40: a STREAM_OPEN whose checks fail on an uncorrectable access that waits is executed with its accesses whole, and
opens its stream. -/
theorem not_streamResults : ¬ Obligations.StreamResults := by
  unfold Obligations.StreamResults
  intro h
  obtain ⟨u, hu, hopened⟩ := streamWaits_opens
  have hopen := h.1 streamWaits 0 0
  rw [show streamWaits.entry (0 : Fin 4096) = some openingStream from rfl] at hopen
  obtain ⟨hrefused, -⟩ := hopen rfl rfl rfl
  simp only [streamWaits_checks] at hrefused
  obtain ⟨v, hv, hreply⟩ := hrefused rfl
  cases Host.Outcome.next.inj (hu.symm.trans hv)
  exact absurd (hopened.symm.trans hreply) (by decide)

/-! ### FRAME_ARM (R342) -/

/-- A FRAME_ARM of loop 0 with a period of 2^23 ns and a deadline of 2^16 ns, whose template names no core and no stream and an
image at 2^30. -/
def armingFrame : Entry where
  plot := 0
  queue := 0
  seq := 0
  tag := 0
  opcode := 0x10
  packet := List.replicate 16 0 ++ [0, 0, 0x80, 0] ++ [0, 0, 1, 0] ++ List.replicate 40 0
  order := 0
  state := .running
  content := [1] ++ List.replicate 7 0 ++ mappedAddress ++ List.replicate 48 0 ++ List.replicate 4 0xFF ++
    List.replicate 16 0 ++ [1] ++ List.replicate 107 0

def armWaits : State where
  regs := [(SOW_LOOP_CTL.ARMED.key 0, 1)]
  granary := tableAtZero
  drill := { plots := [(0, plotAtZero)], ledger := [(0, armingFrame)] }
  res := .uncorrectable

/-- As the state stands, the grant of the loop's image cannot be read. -/
theorem armWaits_checks :
    (armWaits.setEntry (0 : Fin 4096) { armingFrame with begun := true }).armChecks { armingFrame with state := .held } =
      some { status := stLease, detail := dtNotLeased } := by
  decide

/-- The command ends with the check that follows: its loop is armed already. -/
theorem armWaits_busy :
    ∃ u, exec (.frameArm 0) armWaits = .next u ∧ (u.entry 0).bind (·.reply) = some { status := stBusy } :=
  ⟨_, rfl, by decide⟩

/-- Refutes O38: a FRAME_ARM whose checks fail on an uncorrectable access that waits is executed with its accesses whole, and
ends with the reply of a later check. -/
theorem not_loopArmingResults : ¬ Obligations.LoopArmingResults := by
  unfold Obligations.LoopArmingResults
  intro h
  obtain ⟨u, hu, hbusy⟩ := armWaits_busy
  have hrefused := ((h armWaits 0 : _) rfl rfl rfl).1 rfl rfl
  rw [show State.armChecks _ _ = _ from armWaits_checks] at hrefused
  obtain ⟨v, hv, hreply⟩ := hrefused
  cases Host.Outcome.next.inj (hu.symm.trans hv)
  exact absurd (hbusy.symm.trans hreply) (by decide)

end Sys2Proof.Machine
end

section
/-! PROOF. Refutation: a count of lost PDUs that stands past its 32 bits is narrowed by DATA that lost none (R521). -/

namespace Sys2Proof.Machine

/-- An island record that asks for nothing. -/
def plainIsland : IslandRec where
  expectSeal := 0
  safeLoop := 0
  missTol := 0
  framePeriod := 0
  grace := 0
  degradeTime := 0
  single := true
  lockupReact := false
  lossStop := 0
  degradeSls := []

/-- A used connection without a port. -/
def portlessConn : ConnRec where
  used := true
  ports := []
  essential := false
  ackReq := false
  peer := 0
  pcp := none
  mac := []
  vid := 0
  period := 1
  wdog := 0
  texp := 0
  cchk := 0
  bits := []
  retry := 0

/-- DATA with sequence number 1. -/
def firstData : List Byte := [3, 0, 1] ++ List.replicate 29 0

/-- The island is STOPPED; connection 0 has DATA with the next sequence number at its front, and its count of lost PDUs is
2^32. -/
def manyLost : State where
  regs := [(HDL_STATE.HS.key 0, hsStopped), (HDL_HT_LOST.COUNT.key 0, 2 ^ 32)]
  isl := {
    set := some { copy := 0, seq := 0, pcrc := 0, confC := 0, valid := true, bind := false, ids := [],
                  params := { island := plainIsland, conns := [(0, portlessConn)] } }
    conns := [(0, { rx := [(0, firstData)] })] }

theorem manyLost_facts : manyLost.functional = true ∧ pduType firstData = 3 ∧
    modDiff 16 (pduSeq firstData) (manyLost.f HDL_HT_SEQ.ACCEPTED 0) = 1 ∧
    modDiff 16 (pduEcho firstData) (manyLost.f HDL_HT_SEQ.SENT 0) = 0 ∧ manyLost.f HDL_HT_LOST.COUNT 0 = 2 ^ 32 := by
  decide

/-- The DATA is accepted, and the count saturates. -/
theorem manyLost_accepts : ∃ u, exec (.data 0) manyLost = .next u ∧ u.f HDL_HT_LOST.COUNT 0 = 2 ^ 32 - 1 :=
  ⟨_, rfl, by decide⟩

/-- Refutes O56: the statement keeps the count of lost PDUs where accepted DATA lost none; a count past its 32 bits is
narrowed to its largest value. -/
theorem not_hitchConnectionResults : ¬ Obligations.HitchConnectionResults := by
  unfold Obligations.HitchConnectionResults
  intro h
  obtain ⟨hrun, htype, hnext, hecho, hcount⟩ := manyLost_facts
  obtain ⟨u, hu, hsaturated⟩ := manyLost_accepts
  have hconn := h.1 manyLost 0
  rw [show manyLost.connRec? (0 : Fin 4) = some portlessConn from rfl] at hconn
  obtain ⟨hrx, -⟩ := hconn
  rw [show (manyLost.conn (0 : Fin 4)).rx = [(0, firstData)] from rfl] at hrx
  obtain ⟨-, -, -, -, -, hdata, -⟩ := hrx
  obtain ⟨-, -, -, -, hin⟩ := hdata ⟨hrun, htype, Nat.zero_le _⟩
  obtain ⟨v, hv, -, -, hlost, -⟩ := hin (le_of_eq hnext.symm) (hnext.symm ▸ by decide) (.inl hecho)
  cases Host.Outcome.next.inj (hu.symm.trans hv)
  have hd : modDiff 16 (pduSeq firstData) (manyLost.f HDL_HT_SEQ.ACCEPTED (0 : Fin 4)) - 1 = 0 := congrArg (· - 1) hnext
  rw [hd, if_pos rfl] at hlost
  exact absurd (hsaturated.symm.trans (hlost.trans hcount)) (by decide)

end Sys2Proof.Machine
end
section
/-! PROOF. In-bank processing: what an instruction of a till program leaves, and what a masked instruction writes in each
bank. -/

namespace Sys2Proof.Machine

/-! ### The sequencer -/

theorem State.seq_setSeq_self (s : State) (c : Nat) (q : TillSeq) : (s.setSeq c q).seq c = q := findD_put_self ..

theorem State.f_setSeq (s : State) (c : Nat) (q : TillSeq) (F : Fld) (i : Nat) : (s.setSeq c q).f F i = s.f F i := rfl
theorem State.on_setSeq (s : State) (c : Nat) (q : TillSeq) (F : Fld) (i : Nat) : (s.setSeq c q).on F i = s.on F i := rfl
theorem State.seq_setF (s : State) (F : Fld) (i v c : Nat) : (s.setF F i v).seq c = s.seq c := rfl
theorem State.seq_setOn (s : State) (F : Fld) (i : Nat) (b : Bool) (c : Nat) : (s.setOn F i b).seq c = s.seq c := rfl

theorem State.seq_of_granary {s t : State} (h : t.granary = s.granary) (c : Nat) : t.seq c = s.seq c := by
  unfold State.seq
  rw [h]

/-- The instruction at PC. -/
def State.tillWord (s : State) (c : Nat) : Nat := ((s.seq c).image[s.f GRN_TILL_PC.PC c]?).getD 0

/-- A program is loaded that has not come to its ending, and PC names an instruction with an opcode. -/
def State.TillRuns (s : State) (c op : Nat) : Prop :=
  (s.on GRN_TILL_STAT.LOADED c = true ∧ (s.seq c).ended = none) ∧ s.f GRN_TILL_PC.PC c < (s.seq c).image.length ∧
    tlOp (s.tillWord c) = op

theorem State.tillAt_runs {s : State} {c op : Nat} (h : s.TillRuns c op) : s.tillAt c op = some (s.tillWord c) := by
  obtain ⟨⟨hl, he⟩, hpc, hop⟩ := h
  unfold State.tillWord at hop ⊢
  rw [List.getElem?_eq_getElem hpc] at hop ⊢
  simp only [State.tillAt, List.getElem?_eq_getElem hpc]
  exact if_pos (by simpa [hl, he] using hop)

theorem State.tillAt_idle {s : State} {c op : Nat} (h : ¬s.TillRuns c op) : s.tillAt c op = none := by
  rcases Nat.lt_or_ge (s.f GRN_TILL_PC.PC c) (s.seq c).image.length with hpc | hpc
  · simp only [State.tillAt, List.getElem?_eq_getElem hpc]
    refine if_neg fun hn => h ?_
    simp only [Bool.and_eq_true, Option.isNone_iff_eq_none, decide_eq_true_eq] at hn
    refine ⟨hn.1, hpc, ?_⟩
    rw [State.tillWord, List.getElem?_eq_getElem hpc]
    exact hn.2
  · simp only [State.tillAt, List.getElem?_eq_none hpc]

/-! ### Issue -/

/-- What an instruction finds once it has issued: the counts of slots and the clock may differ. -/
structure State.Issued (s t : State) (c : Nat) : Prop where
  seq : ∃ k, t.seq c = { s.seq c with clock := k }
  f : ∀ F : Fld, F.blk = .GRN → F.id ≠ GRN_TILL_STALL.COUNT.id → F.id ≠ GRN_TILL_SLOTS.COUNT.id → t.f F c = s.f F c
  mem : t.granary.mem = s.granary.mem
  poison : t.granary.poison = s.granary.poison

theorem State.tillIssue_issued (s : State) (c w : Nat) : s.Issued (s.tillIssue c w) c := by
  have hk : ∀ (u : State) n k, (u.tally 0x022 n k).keep (among [.blk .GRN, .granary, .mem]) =
      u.keep (among [.blk .GRN, .granary, .mem]) := fun u n k => State.tally_keep rfl rfl rfl u _ n k
  have hg : ∀ (u : State) n k, (u.tally 0x022 n k).granary = u.granary := fun u n k => granary_of_keep (hk u n k) rfl rfl
  refine ⟨⟨_, State.seq_setSeq_self ..⟩, fun F hF h1 h2 => ?_, ?_, ?_⟩
  · unfold State.tillIssue
    dsimp only
    rw [State.f_setSeq, State.f_setF_field _ h2, f_of_keep (hk _ _ _) (by rw [hF]; rfl), State.f_setF_field _ h1]
  all_goals
    unfold State.tillIssue
    simp only [State.setSeq]
    exact congrArg _ (hg ..)

/-- An instruction of a till program has its effect on the state in which it issued. -/
theorem State.tillInstr_runs {s : State} {c op : Nat} (h : s.TillRuns c op) (f : Nat → Nat → TillSeq → State → State) :
    ∃ t k, s.Issued t c ∧ t = s.tillIssue c (s.tillWord c) ∧ t.seq c = { s.seq c with clock := k } ∧
      s.tillInstr c op f = .next (f (s.f GRN_TILL_PC.PC c) (s.tillWord c) (t.seq c) t) := by
  have hi := s.tillIssue_issued c (s.tillWord c)
  obtain ⟨k, hk⟩ := hi.seq
  refine ⟨_, k, hi, rfl, hk, ?_⟩
  unfold State.tillInstr
  rw [State.tillAt_runs h]
  dsimp only
  rw [hi.f GRN_TILL_PC.PC rfl (by decide) (by decide)]

theorem State.tillInstr_idle {s : State} {c op : Nat} (h : ¬s.TillRuns c op) (f : Nat → Nat → TillSeq → State → State) :
    s.tillInstr c op f = .next s := by
  unfold State.tillInstr
  rw [State.tillAt_idle h]

theorem State.Issued.on {s t : State} {c : Nat} (h : s.Issued t c) :
    t.on GRN_TILL_STAT.LOADED c = s.on GRN_TILL_STAT.LOADED c := by
  rw [State.on, State.on, h.f _ rfl (by decide) (by decide)]

/-! ### Going on and ending -/

/-- What is left where a program comes to its ending. -/
structure State.TillEnds (t u : State) (c r : Nat) : Prop where
  loaded : u.on GRN_TILL_STAT.LOADED c = t.on GRN_TILL_STAT.LOADED c
  reason : u.f GRN_TILL_STAT.REASON c = r
  seq : u.seq c = { t.seq c with row := none, ended := some r }
  pending : u.f GRN_TILL_STAT.PENDING c = 0
  mem : u.granary.mem = t.granary.mem

theorem State.tillEnd_ends (t : State) (c : Nat) {r : Nat} (hr : r < 16) : t.TillEnds (t.tillEnd c r) c r where
  loaded := by
    rw [State.tillEnd, State.on_setF_field _ (by decide), State.on_setF_field _ (by decide), State.on_setSeq]
  reason := by
    rw [State.tillEnd, State.f_setF_field _ (by decide), State.f_setF_self]
    exact Nat.mod_eq_of_lt hr
  seq := State.seq_setSeq_self ..
  pending := State.f_setF_self ..
  mem := rfl

/-- What is left where the sequencer goes on at an index: within the image it stands there, past it the program ends with
PC_RANGE. -/
structure State.TillGoes (t u : State) (c k : Nat) : Prop where
  loaded : u.on GRN_TILL_STAT.LOADED c = t.on GRN_TILL_STAT.LOADED c
  within : k < (t.seq c).image.length → u.f GRN_TILL_PC.PC c = k % 512 ∧ u.seq c = t.seq c
  past : (t.seq c).image.length ≤ k → u.f GRN_TILL_STAT.REASON c = 8 ∧ u.seq c = { t.seq c with row := none, ended := some 8 }
  mem : u.granary.mem = t.granary.mem

theorem State.tillGo_goes (t : State) (c k : Nat) : t.TillGoes (t.tillGo c k) c k := by
  unfold State.tillGo
  split
  next hk =>
    have he := t.tillEnd_ends c (r := 8) (by decide)
    exact ⟨he.loaded, fun h => absurd h (Nat.not_lt.mpr hk), fun _ => ⟨he.reason, he.seq⟩, he.mem⟩
  next hk =>
    exact ⟨State.on_setF_field _ (by decide) c _, fun _ => ⟨State.f_setF_self .., rfl⟩, fun h => absurd h hk, rfl⟩

/-- What the sequencer keeps as it goes on: the open row only within the image. -/
theorem State.TillGoes.keeps {t u : State} {c k : Nat} (h : t.TillGoes u c k) :
    (u.seq c).x = (t.seq c).x ∧ (u.seq c).tines = (t.seq c).tines ∧ (u.seq c).mask = (t.seq c).mask := by
  rcases Nat.lt_or_ge k (t.seq c).image.length with hk | hk
  · rw [(h.within hk).2]
    exact ⟨rfl, rfl, rfl⟩
  · rw [(h.past hk).2]
    exact ⟨rfl, rfl, rfl⟩

theorem State.TillGoes.v {t u : State} {c k : Nat} (h : t.TillGoes u c k) (b r : Nat) : (u.seq c).v b r = (t.seq c).v b r := by
  rw [TillSeq.v, TillSeq.v, h.keeps.2.1]

/-! ### Tine registers -/

/-- Write a destination: one register, or an accumulator pair. -/
def TillSeq.setD (one : Bool) (q : TillSeq) (b d v : Nat) : TillSeq := if one then q.setV b d v else q.setPair b d v

/-- What a register of a bank holds after a destination of the bank was written. -/
def regAfter (one : Bool) (d v r old : Nat) : Nat :=
  if r = d then (if one then v else v % 2 ^ 256) else if one = false ∧ r = d + 1 then v / 2 ^ 256 % 2 ^ 256 else old

theorem TillSeq.v_setV (q : TillSeq) (b b' v : Nat) {r r' : Nat} (hr : r < 8) (hr' : r' < 8) :
    (q.setV b r v).v b' r' = if b = b' ∧ r = r' then v else q.v b' r' := by
  unfold TillSeq.v TillSeq.setV
  split
  next h => rw [h.1, h.2, findD_putD_self]
  next h => exact findD_putD_ne (by omega) ..

theorem TillSeq.v_setD (one : Bool) (q : TillSeq) (b b' v : Nat) {d r : Nat} (hd : d < 8) (hp : one = false → d + 1 < 8)
    (hr : r < 8) : (q.setD one b d v).v b' r = if b = b' then regAfter one d v r (q.v b r) else q.v b' r := by
  unfold TillSeq.setD regAfter
  cases one with
  | true =>
    rw [if_pos rfl, TillSeq.v_setV q b b' v hd hr]
    by_cases hb : b = b'
    · subst hb
      simp [eq_comm]
    · simp [hb]
  | false =>
    simp only [Bool.false_eq_true, if_false, TillSeq.setPair]
    rw [TillSeq.v_setV _ b b' _ (hp rfl) hr, TillSeq.v_setV q b b' _ hd hr]
    by_cases hb : b = b'
    · subst hb
      by_cases h1 : r = d
      · subst h1; simp
      · by_cases h2 : r = d + 1
        · subst h2; simp
        · simp [Ne.symm h1, Ne.symm h2, h1, h2]
    · simp [hb]

theorem TillSeq.setD_tines (one : Bool) (q : TillSeq) (b d v : Nat) : ∃ t, q.setD one b d v = { q with tines := t } := by
  cases one <;> exact ⟨_, rfl⟩

/-- An instruction that writes a destination in each of its banks changes the tine registers alone. -/
theorem TillSeq.foldl_setD_tines (one : Bool) (d : Nat) (res : TillSeq → Nat → Nat) (l : List Nat) (q : TillSeq) :
    ∃ t, l.foldl (fun q b => q.setD one b d (res q b)) q = { q with tines := t } := by
  induction l generalizing q with
  | nil => exact ⟨_, rfl⟩
  | cons b l ih =>
    obtain ⟨t, ht⟩ := q.setD_tines one b d (res q b)
    obtain ⟨t', ht'⟩ := ih (q.setD one b d (res q b))
    exact ⟨t', by rw [List.foldl_cons, ht', ht]⟩

/-- An instruction that writes a destination in each of its banks, from registers of that bank alone: what every register
holds after it. -/
theorem TillSeq.v_foldl_setD {one : Bool} {d : Nat} {res : TillSeq → Nat → Nat} (hd : d < 8) (hp : one = false → d + 1 < 8)
    (hres : ∀ q q' b, (∀ r < 8, q.v b r = q'.v b r) → res q b = res q' b) (l : List Nat) (hl : l.Nodup) (q : TillSeq)
    (b : Nat) {r : Nat} (hr : r < 8) :
    (l.foldl (fun q b => q.setD one b d (res q b)) q).v b r =
      if b ∈ l then regAfter one d (res q b) r (q.v b r) else q.v b r := by
  induction l generalizing q with
  | nil => simp
  | cons a l ih =>
    obtain ⟨ha, hl⟩ := List.nodup_cons.mp hl
    rw [List.foldl_cons, ih hl]
    by_cases hb : a = b
    · subst hb
      rw [if_neg ha, if_pos List.mem_cons_self, TillSeq.v_setD one q a a _ hd hp hr, if_pos rfl]
    · have hsame : ∀ r < 8, (q.setD one a d (res q a)).v b r = q.v b r := fun r hr => by
        rw [TillSeq.v_setD one q a b _ hd hp hr, if_neg hb]
      rw [hres _ q b hsame, hsame r hr]
      simp only [List.mem_cons, Ne.symm hb, false_or]

/-- The flags that an instruction gathers do not enter its result. -/
theorem foldl_setD_fst {one : Bool} {d : Nat} {res : TillSeq → Nat → Nat} {g : TillSeq × Nat → Nat → TillSeq × Nat}
    (hg : ∀ x b, (g x b).1 = x.1.setD one b d (res x.1 b)) (l : List Nat) (x : TillSeq × Nat) :
    (l.foldl g x).1 = l.foldl (fun q b => q.setD one b d (res q b)) x.1 := by
  induction l generalizing x with
  | nil => rfl
  | cons b l ih => rw [List.foldl_cons, List.foldl_cons, ih, hg]

theorem TillSeq.nodup_banks (q : TillSeq) : q.banks.Nodup := List.Nodup.filter _ List.nodup_range

theorem TillSeq.mem_banks {q : TillSeq} {b : Nat} : b ∈ q.banks ↔ b < 32 ∧ q.mask.testBit b = true := by
  simp [TillSeq.banks, List.mem_filter]

end Sys2Proof.Machine
end
section
/-! PROOF. Tine arithmetic: the result of each instruction in a bank, and that nothing else changes. -/

namespace Sys2Proof.Machine

/-! ### Results in a bank -/

def macRes (w : Nat) (q : TillSeq) (b : Nat) : Nat :=
  fromLanes 32 ((List.range 16).map fun i =>
    (tlMac (tlFmt w) (lane 32 (q.pair b (tlVd w)) i) (lane 16 (q.v b (tlVa w)) i) (lane 16 (q.v b (tlVb w)) i)).1)

def aaddRes (w : Nat) (q : TillSeq) (b : Nat) : Nat :=
  fromLanes 32 ((List.range 16).map fun i =>
    (tlAdd (tlFmt w) (lane 32 (q.pair b (tlVd w)) i) (lane 32 (q.pair b (tlVa w)) i)).1)

def vredRes (w : Nat) (q : TillSeq) (b : Nat) : Nat :=
  ((redLevel (tlFmt w) (redLevel (tlFmt w) (redLevel (tlFmt w) (redLevel (tlFmt w)
    (pairLanes (q.pair b (tlVa w)))).1).1).1).1).headD 0

def vcvtRes (w : Nat) (q : TillSeq) (b : Nat) : Nat :=
  fromLanes 16 ((List.range 16).map fun i => (tlCvt (tlFmt w) (lane 32 (q.pair b (tlVa w)) i)).1)

theorem laneZip_map_fst {α : Type} (f : Nat → Nat → Nat × Nat) (g h : α → Nat) (l : List α) :
    (laneZip f (l.map g) (l.map h)).1 = l.map fun i => (f (g i) (h i)).1 := by
  induction l with
  | nil => rfl
  | cons a l ih => exact congrArg _ ih

theorem tlMacBank_fst (w : Nat) (x : TillSeq × Nat) (b : Nat) :
    (tlMacBank w x b).1 = x.1.setD false b (tlVd w) (macRes w x.1 b) := by
  simp only [tlMacBank, macRes, List.map_map]
  rfl

theorem tlAaddBank_fst (w : Nat) (x : TillSeq × Nat) (b : Nat) :
    (tlAaddBank w x b).1 = x.1.setD false b (tlVd w) (aaddRes w x.1 b) := by
  simp only [tlAaddBank, pairLanes, laneZip_map_fst]
  rfl

theorem tlVredBank_fst (w : Nat) (x : TillSeq × Nat) (b : Nat) :
    (tlVredBank w x b).1 = x.1.setD false b (tlVd w) (vredRes w x.1 b) := rfl

theorem tlVcvtBank_fst (w : Nat) (x : TillSeq × Nat) (b : Nat) :
    (tlVcvtBank w x b).1 = x.1.setD true b (tlVd w) (vcvtRes w x.1 b) := by
  simp only [tlVcvtBank, pairLanes, vcvtRes, List.map_map]
  rfl

section
variable {q q' : TillSeq} {b : Nat} (h : ∀ r < 8, q.v b r = q'.v b r)
include h

theorem TillSeq.pair_congr {r : Nat} (hr : r + 1 < 8) : q.pair b r = q'.pair b r := by
  rw [TillSeq.pair, TillSeq.pair, h r (by omega), h (r + 1) hr]

theorem macRes_congr {w : Nat} (hd : tlVd w + 1 < 8) : macRes w q b = macRes w q' b := by
  unfold macRes
  rw [TillSeq.pair_congr h hd, h (tlVa w) (Nat.mod_lt _ (by decide)), h (tlVb w) (Nat.mod_lt _ (by decide))]

theorem aaddRes_congr {w : Nat} (hd : tlVd w + 1 < 8) (ha : tlVa w + 1 < 8) : aaddRes w q b = aaddRes w q' b := by
  unfold aaddRes
  rw [TillSeq.pair_congr h hd, TillSeq.pair_congr h ha]

theorem vredRes_congr {w : Nat} (ha : tlVa w + 1 < 8) : vredRes w q b = vredRes w q' b := by
  unfold vredRes
  rw [TillSeq.pair_congr h ha]

theorem vcvtRes_congr {w : Nat} (ha : tlVa w + 1 < 8) : vcvtRes w q b = vcvtRes w q' b := by
  unfold vcvtRes
  rw [TillSeq.pair_congr h ha]

end

/-! ### Pairs of a checked instruction -/

theorem tlVd_lt (w : Nat) : tlVd w < 8 := Nat.mod_lt _ (by decide)
theorem tlVa_lt (w : Nat) : tlVa w < 8 := Nat.mod_lt _ (by decide)

/-- A checked instruction that names an accumulator pair names an even register (Table 13-5). -/
theorem tlGood_pairs {n w : Nat} (h : tlGood n w = true) :
    (tlOp w = 5 ∨ tlOp w = 6 ∨ tlOp w = 8 → tlVd w + 1 < 8) ∧ (tlOp w = 6 ∨ tlOp w = 8 ∨ tlOp w = 9 → tlVa w + 1 < 8) := by
  have hd := tlVd_lt w
  have ha := tlVa_lt w
  constructor
  · rintro (ho | ho | ho) <;> simp [tlGood, tlUses, ho] at h <;> omega
  · rintro (ho | ho | ho) <;> simp [tlGood, tlUses, ho] at h <;> omega

/-! ### What an arithmetic instruction leaves -/

/-- A destination written in each bank whose MASK bit is 1, from the values of a function of the bank; every other tine
register, and Granary, as before; the sequencer at the next instruction. -/
structure State.TineWrites (s u : State) (c : Nat) (one : Bool) (d : Nat) (val : Nat → Nat) : Prop where
  v : ∀ b < 32, ∀ r < 8, (u.seq c).v b r =
    if (s.seq c).mask.testBit b = true then regAfter one d (val b) r ((s.seq c).v b r) else (s.seq c).v b r
  pc : s.f GRN_TILL_PC.PC c + 1 < (s.seq c).image.length → u.f GRN_TILL_PC.PC c = (s.f GRN_TILL_PC.PC c + 1) % 512 ∧
    u.on GRN_TILL_STAT.LOADED c = s.on GRN_TILL_STAT.LOADED c
  mem : u.granary.mem = s.granary.mem

theorem State.TineWrites.written {s u : State} {c : Nat} {one : Bool} {d : Nat} {val : Nat → Nat}
    (h : s.TineWrites u c one d val) (hd : d < 8) (hp : one = false → d + 1 < 8) {b : Nat} (hb : b < 32)
    (ha : (s.seq c).mask.testBit b = true) :
    if one = true then (u.seq c).v b d = val b
    else (u.seq c).v b d = val b % 2 ^ 256 ∧ (u.seq c).v b (d + 1) = val b / 2 ^ 256 % 2 ^ 256 := by
  cases one with
  | true => simp [h.v b hb d hd, ha, regAfter]
  | false => simp [h.v b hb d hd, h.v b hb (d + 1) (hp rfl), ha, regAfter]

theorem State.TineWrites.kept {s u : State} {c : Nat} {one : Bool} {d : Nat} {val : Nat → Nat}
    (h : s.TineWrites u c one d val) {b r : Nat} (hb : b < 32) (hr : r < 8)
    (hk : ¬(s.seq c).mask.testBit b = true ∨ (r ≠ d ∧ (one = true ∨ r ≠ d + 1))) : (u.seq c).v b r = (s.seq c).v b r := by
  rw [h.v b hb r hr]
  split
  next ha =>
    obtain ⟨h1, h2⟩ := hk.resolve_left (not_not_intro ha)
    rw [regAfter, if_neg h1, if_neg fun hn => h2.elim (fun ht => Bool.noConfusion (hn.1.symm.trans ht)) fun hne => hne hn.2]
  next => rfl

theorem State.tillFlags_other (t : State) (c fl : Nat) : (t.tillFlags c fl).granary = t.granary ∧
    (t.tillFlags c fl).on GRN_TILL_STAT.LOADED c = t.on GRN_TILL_STAT.LOADED c := by
  have hif : ∀ (p : Bool) (u : State) (F : Fld), F.id < 4096 → GRN_TILL_STAT.LOADED.id ≠ F.id →
      (if p then u.setOn F c true else u).granary = u.granary ∧
        (if p then u.setOn F c true else u).on GRN_TILL_STAT.LOADED c = u.on GRN_TILL_STAT.LOADED c := fun p u F hF hne => by
    cases p with
    | false => exact ⟨rfl, rfl⟩
    | true => exact ⟨rfl, State.on_setF_field u hne c _⟩
  unfold State.tillFlags
  dsimp only
  simp (disch := decide) only [hif, and_self]

/-- The registers and the program counter once each masked bank has its destination. -/
theorem State.tineWrites_of_goes {s t u v : State} {c : Nat} {k : TillClock} {one : Bool} {d : Nat} {res : TillSeq → Nat → Nat}
    (hi : s.Issued t c) (hseq : t.seq c = { s.seq c with clock := k }) (hd : d < 8) (hp : one = false → d + 1 < 8)
    (hres : ∀ q q' b, (∀ r < 8, q.v b r = q'.v b r) → res q b = res q' b)
    (hgo : u.TillGoes v c (s.f GRN_TILL_PC.PC c + 1))
    (hu : u.seq c = (t.seq c).banks.foldl (fun q b => q.setD one b d (res q b)) (t.seq c))
    (hl : u.on GRN_TILL_STAT.LOADED c = t.on GRN_TILL_STAT.LOADED c) (hm : u.granary.mem = t.granary.mem) :
    s.TineWrites v c one d (res (s.seq c)) := by
  refine ⟨fun b hb r hr => ?_, fun hpc => ?_, hgo.mem.trans (hm.trans hi.mem)⟩
  · have hq : ∀ b r, (t.seq c).v b r = (s.seq c).v b r := fun b r => by rw [hseq]; rfl
    have hbank : b ∈ (t.seq c).banks ↔ (s.seq c).mask.testBit b = true := by
      rw [TillSeq.mem_banks, hseq]
      exact and_iff_right hb
    rw [hgo.v, hu, TillSeq.v_foldl_setD hd hp hres _ (TillSeq.nodup_banks _) _ _ hr, hq,
      hres _ (s.seq c) b fun r _ => hq b r]
    simp only [hbank]
  · have himg : (u.seq c).image = (s.seq c).image := by
      obtain ⟨x, hx⟩ := TillSeq.foldl_setD_tines one d res (t.seq c).banks (t.seq c)
      rw [hu, hx, hseq]
    exact ⟨(hgo.within (by rw [himg]; exact hpc)).1, hgo.loaded.trans (hl.trans hi.on)⟩

/-- An arithmetic instruction that gathers flags. -/
theorem State.tillArith_writes {s : State} {c op : Nat} (h : s.TillRuns c op) {one : Bool} {res : TillSeq → Nat → Nat}
    {g : Nat → TillSeq × Nat → Nat → TillSeq × Nat}
    (hg : ∀ x b, (g (s.tillWord c) x b).1 = x.1.setD one b (tlVd (s.tillWord c)) (res x.1 b))
    (hp : one = false → tlVd (s.tillWord c) + 1 < 8)
    (hres : ∀ q q' b, (∀ r < 8, q.v b r = q'.v b r) → res q b = res q' b) :
    ∃ u, s.tillArith c op g = .next u ∧ s.TineWrites u c one (tlVd (s.tillWord c)) (res (s.seq c)) := by
  obtain ⟨t, k, hi, _, hseq, heq⟩ := State.tillInstr_runs h _
  refine ⟨_, heq, ?_⟩
  obtain ⟨hgran, hl⟩ := State.tillFlags_other
    (t.setSeq c ((t.seq c).banks.foldl (g (s.tillWord c)) (t.seq c, 0)).1) c
    ((t.seq c).banks.foldl (g (s.tillWord c)) (t.seq c, 0)).2
  refine State.tineWrites_of_goes hi hseq (tlVd_lt _) hp hres (State.tillGo_goes ..) ?_ hl ((congrArg Granary.mem hgran).trans rfl)
  rw [State.seq_of_granary hgran, State.seq_setSeq_self, foldl_setD_fst hg]

theorem execChsh_writes {s : State} {c : Chan} (h : s.TillRuns c 7) :
    ∃ u, execChsh c s = .next u ∧ s.TineWrites u c true (tlVd (s.tillWord c)) fun b =>
      if b + tlImm (s.tillWord c) % 32 < 32 then (s.seq c).v (b + tlImm (s.tillWord c) % 32) (tlVa (s.tillWord c)) else 0 := by
  obtain ⟨t, k, hi, _, hseq, heq⟩ := State.tillInstr_runs h _
  refine ⟨_, heq, ?_⟩
  refine State.tineWrites_of_goes (res := fun _ b =>
    if b + tlImm (s.tillWord c) % 32 < 32 then (s.seq c).v (b + tlImm (s.tillWord c) % 32) (tlVa (s.tillWord c)) else 0)
    hi hseq (tlVd_lt _) (fun hn => absurd hn (by decide)) (fun _ _ _ _ => rfl) (State.tillGo_goes ..) ?_ rfl rfl
  rw [State.seq_setSeq_self]
  have hv : ∀ b r, (t.seq c).v b r = (s.seq c).v b r := fun b r => by rw [hseq]; rfl
  simp only [hv]
  rfl

/-- An instruction's answer, from what it writes. -/
theorem State.TineWrites.answer {s : State} {c : Chan} {i : Instr} {one : Bool} {d : Nat} {val : Nat → Nat}
    (hd : d < 8) (hp : one = false → d + 1 < 8) (hl : s.on GRN_TILL_STAT.LOADED c = true)
    (h : ∃ u, exec i s = .next u ∧ s.TineWrites u c one d val) : answers i s fun u =>
      (∀ b < 32, (s.seq c).mask.testBit b = true → if one = true then (u.seq c).v b d = val b
        else (u.seq c).v b d = val b % 2 ^ 256 ∧ (u.seq c).v b (d + 1) = val b / 2 ^ 256 % 2 ^ 256) ∧
      (∀ b < 32, ∀ r < 8, (¬(s.seq c).mask.testBit b = true ∨ (r ≠ d ∧ (one = true ∨ r ≠ d + 1))) →
        (u.seq c).v b r = (s.seq c).v b r) ∧
      (s.f GRN_TILL_PC.PC c + 1 < (s.seq c).image.length → u.f GRN_TILL_PC.PC c = (s.f GRN_TILL_PC.PC c + 1) % 512 ∧
        u.on GRN_TILL_STAT.LOADED c = true) ∧ u.granary.mem = s.granary.mem := by
  obtain ⟨u, he, hw⟩ := h
  exact ⟨u, he, fun b hb ha => hw.written hd hp hb ha, fun b hb r hr hk => hw.kept hb hr hk,
    fun hpc => ⟨(hw.pc hpc).1, (hw.pc hpc).2.trans hl⟩, hw.mem⟩

/-- Settles O33: an arithmetic instruction writes its destination bank by bank from registers of that bank (CHSH from
registers read before), and the two accumulations that the statement unfolds are so by definition. -/
theorem tillArithmeticResults : Obligations.TillArithmeticResults := by
  intro s c
  refine ⟨?mac, ?aadd, ?chsh, ?vred, ?vcvt, ?vzero, fun _ _ _ => rfl, fun x y hf => ?sum⟩
  case sum =>
    unfold tlAdd tlFloat
    rw [if_neg (by simpa using hf)]
  case mac =>
    rintro ⟨hl, he, hpc, hop, hgood⟩
    have hd := (tlGood_pairs hgood).1 (.inl hop)
    exact State.TineWrites.answer (tlVd_lt _) (fun _ => hd) hl <|
      State.tillArith_writes (one := false) ⟨⟨hl, he⟩, hpc, hop⟩ (tlMacBank_fst _) (fun _ => hd) fun q q' b h => macRes_congr h hd
  case aadd =>
    rintro ⟨hl, he, hpc, hop, hgood⟩
    have hd := (tlGood_pairs hgood).1 (.inr (.inl hop))
    have ha := (tlGood_pairs hgood).2 (.inl hop)
    exact State.TineWrites.answer (tlVd_lt _) (fun _ => hd) hl <|
      State.tillArith_writes (one := false) ⟨⟨hl, he⟩, hpc, hop⟩ (tlAaddBank_fst _) (fun _ => hd) fun q q' b h =>
        aaddRes_congr h hd ha
  case chsh =>
    rintro ⟨hl, he, hpc, hop, -⟩
    exact State.TineWrites.answer (tlVd_lt _) (fun hn => absurd hn (by decide)) hl
      (execChsh_writes ⟨⟨hl, he⟩, hpc, hop⟩)
  case vred =>
    rintro ⟨hl, he, hpc, hop, hgood⟩
    have hd := (tlGood_pairs hgood).1 (.inr (.inr hop))
    have ha := (tlGood_pairs hgood).2 (.inr (.inl hop))
    exact State.TineWrites.answer (tlVd_lt _) (fun _ => hd) hl <|
      State.tillArith_writes (one := false) ⟨⟨hl, he⟩, hpc, hop⟩ (tlVredBank_fst _) (fun _ => hd) fun q q' b h =>
        vredRes_congr h ha
  case vcvt =>
    rintro ⟨hl, he, hpc, hop, hgood⟩
    have ha := (tlGood_pairs hgood).2 (.inr (.inr hop))
    exact State.TineWrites.answer (tlVd_lt _) (fun hn => absurd hn (by decide)) hl <|
      State.tillArith_writes (one := true) ⟨⟨hl, he⟩, hpc, hop⟩ (tlVcvtBank_fst _) (fun hn => absurd hn (by decide))
        fun q q' b h => vcvtRes_congr h ha
  case vzero =>
    rintro ⟨hl, he, hpc, hop, -⟩
    exact State.TineWrites.answer (tlVd_lt _) (fun hn => absurd hn (by decide)) hl <|
      State.tillArith_writes (one := true) (res := fun _ _ => 0) ⟨⟨hl, he⟩, hpc, hop⟩ (fun _ _ => rfl)
        (fun hn => absurd hn (by decide)) fun _ _ _ _ => rfl

end Sys2Proof.Machine
end
section
/-! PROOF. Rows, columns and control of a till program: what each instruction leaves, and how a program ends. -/

namespace Sys2Proof.Machine

/-! ### Going on and ending, said of the state before the instruction issued -/

/-- The program has come to an ending. -/
def State.EndsWith (s u : State) (c r : Nat) : Prop :=
  u.on GRN_TILL_STAT.LOADED c = true ∧ u.f GRN_TILL_STAT.REASON c = r ∧ (u.seq c).ended = some r ∧ (u.seq c).row = none ∧
    u.f GRN_TILL_STAT.PENDING c = 0 ∧ u.granary.mem = s.granary.mem

/-- The program goes on at an index, or ends with PC_RANGE past its image. -/
def State.GoesTo (s u : State) (c k : Nat) : Prop :=
  u.on GRN_TILL_STAT.LOADED c = true ∧
    (k < (s.seq c).image.length → u.f GRN_TILL_PC.PC c = k % 512 ∧ (u.seq c).ended = none) ∧
    ((s.seq c).image.length ≤ k → u.f GRN_TILL_STAT.REASON c = 8 ∧ (u.seq c).ended = some 8)

theorem State.TillEnds.endsWith {s t u : State} {c r : Nat} (h : t.TillEnds u c r)
    (hl : t.on GRN_TILL_STAT.LOADED c = true) (hm : t.granary.mem = s.granary.mem) : s.EndsWith u c r :=
  ⟨h.loaded.trans hl, h.reason, by rw [h.seq], by rw [h.seq], h.pending, h.mem.trans hm⟩

theorem State.TillGoes.goesTo {s t u : State} {c k : Nat} (h : t.TillGoes u c k)
    (hl : t.on GRN_TILL_STAT.LOADED c = true) (hi : (t.seq c).image = (s.seq c).image) (he : (t.seq c).ended = none) :
    s.GoesTo u c k := by
  refine ⟨h.loaded.trans hl, fun hk => ?_, fun hk => ?_⟩
  · obtain ⟨hpc, hq⟩ := h.within (by rwa [hi])
    exact ⟨hpc, by rw [hq]; exact he⟩
  · obtain ⟨hr, hq⟩ := h.past (by rwa [hi])
    exact ⟨hr, by rw [hq]⟩

/-- An instruction that replaces parts of the sequencer and goes on. -/
theorem State.Issued.goesTo {s t u : State} {c k : Nat} {op : Nat} (hi : s.Issued t c) (hr : s.TillRuns c op) (q : TillSeq)
    (himg : q.image = (t.seq c).image) (hend : q.ended = (t.seq c).ended) (hu : (t.setSeq c q).TillGoes u c k) :
    s.GoesTo u c k := by
  obtain ⟨x, hx⟩ := hi.seq
  refine hu.goesTo (hi.on.trans hr.1.1) ?_ ?_
  · rw [State.seq_setSeq_self, himg, hx]
  · rw [State.seq_setSeq_self, hend, hx]
    exact hr.1.2

theorem State.Issued.goesTo_same {s t u : State} {c k : Nat} {op : Nat} (hi : s.Issued t c) (hr : s.TillRuns c op)
    (hu : t.TillGoes u c k) : s.GoesTo u c k := by
  obtain ⟨x, hx⟩ := hi.seq
  refine hu.goesTo (hi.on.trans hr.1.1) (by rw [hx]) ?_
  rw [hx]
  exact hr.1.2

theorem State.Issued.endsWith {s t u : State} {c r : Nat} {op : Nat} (hi : s.Issued t c) (hr : s.TillRuns c op)
    (hu : t.TillEnds u c r) : s.EndsWith u c r := hu.endsWith (hi.on.trans hr.1.1) hi.mem

/-! ### Bytes -/

theorem leBytes_getD (n v k : Nat) (h : k < n) : (leBytes n v).getD k 0 = BitVec.ofNat 8 (v / 256 ^ k) := by
  induction n generalizing v k with
  | zero => omega
  | succ n ih =>
    cases k with
    | zero => simp [leBytes]
    | succ k =>
      rw [leBytes, List.getD_cons_succ, ih _ _ (by omega), Nat.div_div_eq_div_mul, Nat.pow_succ, Nat.mul_comm 256]

theorem testBit_maskOf (k n j : Nat) : (maskOf k n).testBit j = decide (k ≤ j ∧ j < k + n) := by
  rw [maskOf, Nat.testBit_mul_two_pow, Nat.testBit_two_pow_sub_one]
  by_cases hk : k ≤ j
  · simp only [hk, decide_true, Bool.true_and, true_and]
    exact decide_eq_decide.mpr (by omega)
  · simp [hk]

/-! ### One line of a channel -/

section
variable (s : State) (c l : Nat)

/-- A write of a line leaves the sequencers as they are. -/
theorem State.granWrite_till (mask : Nat) (data : List Byte) (src : Nat) (res : MemRes) :
    (s.granWrite c l mask data src res).granary.till = s.granary.till := by
  have hw : ∀ key, (s.writeGran key mask data).granary.till = s.granary.till := fun key => by
    unfold State.writeGran
    split <;> rfl
  unfold State.granWrite
  cases res with
  | linkFail =>
    dsimp only
    rw [State.granError_granary, State.bump_granary]
    exact hw _
  | _ => exact hw _

theorem State.granWrite_mem (mask : Nat) (data : List Byte) (src : Nat) (res : MemRes) :
    (s.granWrite c l mask data src res).granary.mem = (s.writeGran (granKey c (l / 64 * 64)) mask data).granary.mem := by
  unfold State.granWrite
  cases res with
  | linkFail =>
    dsimp only
    rw [State.granError_granary, State.bump_granary]
    rfl
  | _ => rfl

/-- A read of a line that brings its poison back: an error is recorded, and the rest of the channel stays. -/
theorem State.granRead_fails {src : Nat} {res : MemRes} (h : res = .uncorrectable ∨ res = .metadata ∨ res = .linkFail ∨
    s.poisoned (granKey c l) = true) : (s.granRead c l src res).2.granary = s.granary ∧
      (s.granRead c l src res).2.channels = s.channels := by
  have hb : ∀ u : State, u.granary = s.granary → (u.granError c l 6 src).granary = s.granary := fun u hu =>
    (State.granError_granary ..).trans hu
  unfold State.granRead
  cases res with
  | uncorrectable => exact ⟨State.granError_granary .., State.granError_channels ..⟩
  | metadata => exact ⟨State.granError_granary .., State.granError_channels ..⟩
  | linkFail =>
    refine ⟨?_, ?_⟩
    · dsimp only
      rw [State.granError_granary, State.bump_granary]
      rfl
    · simp (disch := decide) only [State.granError_channels, State.bump_channels, State.bumpBy_channels]
  | ok =>
    dsimp only
    split
    · exact ⟨State.granError_granary .., State.granError_channels ..⟩
    · exact ⟨rfl, rfl⟩
  | corrected =>
    dsimp only
    split
    · exact ⟨(State.granError_granary ..).trans (State.bump_granary ..),
        (State.granError_channels ..).trans (State.bump_channels _ (by decide) c)⟩
    · exact ⟨State.bump_granary .., State.bump_channels _ (by decide) c⟩
  | retried n =>
    dsimp only
    split
    · exact ⟨State.granError_granary .., (State.granError_channels ..).trans (State.bumpBy_channels _ (by decide) c _)⟩
    · exact ⟨rfl, State.bumpBy_channels _ (by decide) c _⟩

end

/-! ### LD -/

/-- The column that an instruction names. -/
def TillSeq.col (q : TillSeq) (w : Nat) : Nat := (q.xAdd w + tlImm w % 64) % 64

/-- The half line of a bank comes back in a way that ends the program. -/
def State.ldFails (s : State) (c row col : Nat) (bank : Nat) (res : MemRes) (b : Nat) : Prop :=
  (b = bank ∧ (res = .uncorrectable ∨ res = .metadata ∨ res = .linkFail)) ∨
    s.poisoned (granKey c (tineAddr row b col)) = true

/-- LD where a half line fails: an error is recorded and the program ends. -/
theorem execTillLd_fails {s : State} {c : Chan} {bank : Fin 32} {res : MemRes} (h : s.TillRuns c 3) {row : Nat}
    (hrow : (s.seq c).row = some row)
    (hf : ∃ b ∈ (s.seq c).banks, s.ldFails c row ((s.seq c).col (s.tillWord c)) bank res b) :
    ∃ u, execTillLd c bank res s = .next u ∧ s.EndsWith u c 7 ∧ (u.seq c).tines = (s.seq c).tines := by
  obtain ⟨t, k, hi, -, hseq, heq⟩ := State.tillInstr_runs h _
  refine ⟨_, heq, ?_⟩
  have hpois : ∀ key, t.poisoned key = s.poisoned key := fun key => by
    unfold State.poisoned
    rw [hi.poison]
  have hcol : ((t.seq c).xAdd (s.tillWord c) + tlImm (s.tillWord c) % 64) % 64 = (s.seq c).col (s.tillWord c) := by
    rw [hseq]
    rfl
  have hr : (t.seq c).row = some row := by rw [hseq]; exact hrow
  have hbanks : (t.seq c).banks = (s.seq c).banks := by rw [hseq]; rfl
  simp only [hr, hcol, hbanks]
  split
  next b hb =>
    have hfail := List.find?_some hb
    simp only [Bool.or_eq_true, decide_eq_true_eq, or_assoc] at hfail
    obtain ⟨hgran, hch⟩ := State.granRead_fails (src := 4) t c _ hfail
    have hends := State.tillEnd_ends (t.granRead c (tineAddr row b ((s.seq c).col (s.tillWord c))) 4
      (if b = bank.val then res else .ok)).2 c (r := 7) (by decide)
    refine ⟨hends.endsWith ?_ ?_, ?_⟩
    · exact (on_of_channels hch rfl c).trans (hi.on.trans h.1.1)
    · rw [hgran]
      exact hi.mem
    · rw [hends.seq, State.seq_of_granary hgran, hseq]
  next hn =>
    obtain ⟨b, hb, hbad⟩ := hf
    refine absurd ?_ (List.find?_eq_none.mp hn b hb)
    simp only [Bool.or_eq_true, decide_eq_true_eq, or_assoc, hpois]
    rcases hbad with ⟨rfl, hbad⟩ | hbad
    · rw [if_pos rfl]
      exact hbad.elim .inl fun h => h.elim (.inr ∘ .inl) (.inr ∘ .inr ∘ .inl)
    · exact .inr (.inr (.inr hbad))

/-- What LD leaves where it loads a half line of the row in each masked bank. -/
def State.LdLoads (s u : State) (c row : Nat) : Prop :=
  s.GoesTo u c (s.f GRN_TILL_PC.PC c + 1) ∧ u.granary.mem = s.granary.mem ∧
    ∀ b < 32, ∀ r < 8, (u.seq c).v b r =
      if (s.seq c).mask.testBit b = true ∧ r = tlVd (s.tillWord c) then
        leNat (readSpan s.granary.mem (granKey c (tineAddr row b ((s.seq c).col (s.tillWord c)))) 32)
      else (s.seq c).v b r

/-- LD where no half line fails. -/
theorem execTillLd_loads {s : State} {c : Chan} {bank : Fin 32} {res : MemRes} (h : s.TillRuns c 3) {row : Nat}
    (hrow : (s.seq c).row = some row)
    (hf : ∀ b ∈ (s.seq c).banks, ¬s.ldFails c row ((s.seq c).col (s.tillWord c)) bank res b) :
    ∃ u, execTillLd c bank res s = .next u ∧ s.LdLoads u c row := by
  obtain ⟨t, k, hi, -, hseq, heq⟩ := State.tillInstr_runs h _
  refine ⟨_, heq, ?_⟩
  have hpois : ∀ key, t.poisoned key = s.poisoned key := fun key => by
    unfold State.poisoned
    rw [hi.poison]
  have hcol : ((t.seq c).xAdd (s.tillWord c) + tlImm (s.tillWord c) % 64) % 64 = (s.seq c).col (s.tillWord c) := by
    rw [hseq]
    rfl
  have hr : (t.seq c).row = some row := by rw [hseq]; exact hrow
  have hbanks : (t.seq c).banks = (s.seq c).banks := by rw [hseq]; rfl
  simp only [hr, hcol, hbanks]
  split
  next b hb =>
    refine absurd ?_ (hf b (List.mem_of_find?_eq_some hb))
    have hfail := List.find?_some hb
    simp only [Bool.or_eq_true, decide_eq_true_eq, or_assoc, hpois] at hfail
    by_cases hbk : b = bank.val
    · rw [if_pos hbk] at hfail
      rcases hfail with hr | hr | hr | hp
      · exact .inl ⟨hbk, .inl hr⟩
      · exact .inl ⟨hbk, .inr (.inl hr)⟩
      · exact .inl ⟨hbk, .inr (.inr hr)⟩
      · exact .inr hp
    · rw [if_neg hbk] at hfail
      exact .inr (by simpa using hfail)
  next =>
    set val : TillSeq → Nat → Nat := fun _ b =>
      leNat (readSpan t.granary.mem (granKey c (tineAddr row b ((s.seq c).col (s.tillWord c)))) 32) with hval
    obtain ⟨x, hx⟩ := TillSeq.foldl_setD_tines true (tlVd (s.tillWord c)) val (s.seq c).banks (t.seq c)
    have hloads : ∀ v : State, v.granary = t.granary → v.on GRN_TILL_STAT.LOADED c = t.on GRN_TILL_STAT.LOADED c →
        s.LdLoads ((v.setSeq c ((s.seq c).banks.foldl (fun q b => q.setD true b (tlVd (s.tillWord c)) (val q b))
          (t.seq c))).tillGo c (s.f GRN_TILL_PC.PC c + 1)) c row := fun v hvg hvl => by
      have hgo := State.tillGo_goes (v.setSeq c ((s.seq c).banks.foldl (fun q b =>
        q.setD true b (tlVd (s.tillWord c)) (val q b)) (t.seq c))) c (s.f GRN_TILL_PC.PC c + 1)
      refine ⟨hgo.goesTo (hvl.trans (hi.on.trans h.1.1)) ?_ ?_,
        hgo.mem.trans ((congrArg Granary.mem hvg).trans hi.mem), fun b hb r hr => ?_⟩
      · rw [State.seq_setSeq_self, hx, hseq]
      · rw [State.seq_setSeq_self, hx, hseq]
        exact h.1.2
      · rw [hgo.v, State.seq_setSeq_self, TillSeq.v_foldl_setD (tlVd_lt _) (fun hn => absurd hn (by decide))
          (fun _ _ _ _ => rfl) _ (TillSeq.nodup_banks _) _ _ hr, hval, hi.mem, hseq]
        simp only [TillSeq.mem_banks, hb, true_and, regAfter, if_true, Bool.true_eq_false, false_and, if_false]
        by_cases ha : (s.seq c).mask.testBit b = true
        · simp only [ha, if_true, true_and]
          rfl
        · simp only [ha, if_false, false_and]
          rfl
    split
    · cases res with
      | corrected =>
        exact hloads _ (State.bump_granary ..)
          (on_of_channels (t.bump_channels (F := GRN_CECNT.COUNT) (by decide) c) rfl c)
      | retried n =>
        exact hloads (t.bumpBy GRN_LINKCNT.RETRY c n.val) rfl
          (on_of_channels (t.bumpBy_channels (F := GRN_LINKCNT.RETRY) (by decide) c n) rfl c)
      | _ => exact hloads t rfl rfl
    · exact hloads t rfl rfl

/-! ### ST -/

section
variable (s : State) (c row col va : Nat) (q : TillSeq) (bank : Nat) (res : MemRes)

theorem State.tineStore_channels (b : Nat) : (s.tineStore c row col va q bank res b).channels = s.channels :=
  State.granWrite_channels ..

theorem State.tineStore_till (b : Nat) : (s.tineStore c row col va q bank res b).granary.till = s.granary.till :=
  State.granWrite_till ..

/-- ST in one bank writes a half line. -/
theorem State.tineStore_byte (b j : Nat) :
    findD 0 j (s.tineStore c row col va q bank res b).granary.mem =
      if granKey c (tineAddr row b col) ≤ j ∧ j < granKey c (tineAddr row b col) + 32 then
        BitVec.ofNat 8 (q.v b va / 256 ^ (j - granKey c (tineAddr row b col)))
      else findD 0 j s.granary.mem := by
  unfold State.tineStore
  rw [State.granWrite_mem, State.writeGran_byte, testBit_maskOf]
  have hkey : ∀ l, granKey c (l / 64 * 64) + l % 64 = granKey c l := fun l => by unfold granKey; omega
  have hk := hkey (tineAddr row b col)
  generalize tineAddr row b col % 64 = m at hk ⊢
  rw [← hk]
  generalize granKey c (tineAddr row b col / 64 * 64) = a
  simp only [List.length_append, List.length_replicate, length_leBytes, decide_eq_true_eq]
  by_cases hj : a + m ≤ j ∧ j < a + m + 32
  · rw [if_pos (by omega), if_pos hj]
    have hd : (List.replicate m (0 : Byte) ++ leBytes 32 (q.v b va)).getD (j - a) 0 =
        (leBytes 32 (q.v b va)).getD (j - (a + m)) 0 := by
      rw [List.getD_append_right _ _ _ _ (by rw [List.length_replicate]; omega), List.length_replicate]
      congr 1
      omega
    rw [hd, leBytes_getD _ _ _ (by omega)]
  · rw [if_neg (by omega), if_neg hj]

/-- ST over banks. -/
def State.tineStores (l : List Nat) : State := l.foldl (fun s b => s.tineStore c row col va q bank res b) s

theorem State.tineStores_channels (l : List Nat) : (s.tineStores c row col va q bank res l).channels = s.channels := by
  induction l generalizing s with
  | nil => rfl
  | cons b l ih => exact (ih _).trans (s.tineStore_channels ..)

theorem State.tineStores_till (l : List Nat) :
    (s.tineStores c row col va q bank res l).granary.till = s.granary.till := by
  induction l generalizing s with
  | nil => rfl
  | cons b l ih => exact (ih _).trans (s.tineStore_till ..)

/-- A byte outside every half line written. -/
theorem State.tineStores_byte_outside (l : List Nat) (j : Nat)
    (h : ∀ b ∈ l, j < granKey c (tineAddr row b col) ∨ granKey c (tineAddr row b col) + 32 ≤ j) :
    findD 0 j (s.tineStores c row col va q bank res l).granary.mem = findD 0 j s.granary.mem := by
  induction l generalizing s with
  | nil => rfl
  | cons b l ih =>
    have hb := h b List.mem_cons_self
    refine (ih _ fun x hx => h x (List.mem_cons_of_mem _ hx)).trans ?_
    rw [State.tineStore_byte, if_neg (by omega)]

/-- A byte of a half line written: banks do not share one. -/
theorem State.tineStores_byte_inside (hcol : col < 64) (l : List Nat) (hl : l.Nodup) {b : Nat} (hb : b ∈ l) {k : Nat}
    (hk : k < 32) : findD 0 (granKey c (tineAddr row b col) + k) (s.tineStores c row col va q bank res l).granary.mem =
      BitVec.ofNat 8 (q.v b va / 256 ^ k) := by
  induction l generalizing s with
  | nil => exact absurd hb List.not_mem_nil
  | cons a l ih =>
    obtain ⟨ha, hl⟩ := List.nodup_cons.mp hl
    by_cases hab : a = b
    · subst hab
      refine (State.tineStores_byte_outside _ c row col va q bank res l _ fun x hx => ?_).trans ?_
      · have : x ≠ a := fun e => ha (e ▸ hx)
        unfold granKey tineAddr
        omega
      · rw [State.tineStore_byte, if_pos (by omega), Nat.add_sub_cancel_left]
    · exact ih _ hl ((List.mem_cons.mp hb).resolve_left (Ne.symm hab))

end

theorem execSt_stores {s : State} {c : Chan} {bank : Fin 32} {res : MemRes} (h : s.TillRuns c 4) {row : Nat}
    (hrow : (s.seq c).row = some row) :
    ∃ u, execSt c bank res s = .next u ∧ s.GoesTo u c (s.f GRN_TILL_PC.PC c + 1) ∧
      (∀ b ∈ (s.seq c).banks, ∀ k < 32,
        findD 0 (granKey c (tineAddr row b ((s.seq c).col (s.tillWord c))) + k) u.granary.mem =
          BitVec.ofNat 8 ((s.seq c).v b (tlVa (s.tillWord c)) / 256 ^ k)) ∧
      ∀ a, (∀ b ∈ (s.seq c).banks, a < granKey c (tineAddr row b ((s.seq c).col (s.tillWord c))) ∨
          granKey c (tineAddr row b ((s.seq c).col (s.tillWord c))) + 32 ≤ a) →
        findD 0 a u.granary.mem = findD 0 a s.granary.mem := by
  obtain ⟨t, k, hi, -, hseq, heq⟩ := State.tillInstr_runs h _
  refine ⟨_, heq, ?_⟩
  have hcol : (t.seq c).col (s.tillWord c) = (s.seq c).col (s.tillWord c) := by
    rw [hseq]
    rfl
  have hcol' : ((t.seq c).xAdd (s.tillWord c) + tlImm (s.tillWord c) % 64) % 64 = (s.seq c).col (s.tillWord c) := hcol
  have hr : (t.seq c).row = some row := by rw [hseq]; exact hrow
  have hbanks : (t.seq c).banks = (s.seq c).banks := by rw [hseq]; rfl
  have hlt : (s.seq c).col (s.tillWord c) < 64 := Nat.mod_lt _ (by decide)
  simp only [hr, hcol', hbanks]
  have hgo := State.tillGo_goes (t.tineStores c row ((s.seq c).col (s.tillWord c)) (tlVa (s.tillWord c)) (t.seq c) bank
    res (s.seq c).banks) c (s.f GRN_TILL_PC.PC c + 1)
  have hsame : ∀ l, (t.tineStores c row ((s.seq c).col (s.tillWord c)) (tlVa (s.tillWord c)) (t.seq c) bank res l).seq c =
      t.seq c := fun l => by
    unfold State.seq
    rw [State.tineStores_till]
  refine ⟨hgo.goesTo ?_ ?_ ?_, fun b hb k hk => ?_, fun a ha => ?_⟩
  · exact (on_of_channels (State.tineStores_channels ..) rfl c).trans (hi.on.trans h.1.1)
  · rw [hsame, hseq]
  · rw [hsame, hseq]
    exact h.1.2
  · refine (congrArg (findD 0 _) hgo.mem).trans ?_
    rw [State.tineStores_byte_inside _ _ _ _ _ _ _ _ hlt _ (TillSeq.nodup_banks _) hb hk, hseq]
    rfl
  · refine (congrArg (findD 0 a) hgo.mem).trans ?_
    rw [State.tineStores_byte_outside _ _ _ _ _ _ _ _ _ _ ha, hi.mem]

end Sys2Proof.Machine
end
section
/-! PROOF. YIELD, the control instructions of a till program, and the statement about them all. -/

namespace Sys2Proof.Machine

/-! ### YIELD -/

/-- The checkpoint of a YIELD, with the refreshes that it performs. -/
def State.tillMark (s : State) (c pc w : Nat) (q : TillSeq) : State :=
  (((((((s.setOn GRN_TILL_CKPT.VALID c true).setF GRN_TILL_CKPT.PC c pc).setF GRN_TILL_CKPT.TAG c
    (tlImm w)).setF GRN_TILL_CKX.X0 c (q.x.getD 0 0)).setF GRN_TILL_CKX.X1 c (q.x.getD 1 0)).setF GRN_TILL_CKX.X2 c
    (q.x.getD 2 0)).setF GRN_TILL_CKX.X3 c (q.x.getD 3 0)).setF GRN_TILL_STAT.PENDING c 0

/-- What YIELD does once it has issued. -/
def State.tillYields (s : State) (c pc w : Nat) (q : TillSeq) (quiet : Bool) : State :=
  (if quiet then (s.tillMark c pc w q).serveHeld c else ((s.tillMark c pc w q).serveHeld c).yieldSlots c).tillGo c (pc + 1)

/-- The fields of the checkpoint. -/
theorem State.tillMark_fields (s : State) (c pc w : Nat) (q : TillSeq) :
    let u := s.tillMark c pc w q
    u.on GRN_TILL_CKPT.VALID c = true ∧ u.f GRN_TILL_CKPT.PC c = pc % 512 ∧ u.f GRN_TILL_CKPT.TAG c = tlImm w % 2 ^ 16 ∧
      u.f GRN_TILL_CKX.X0 c = q.x.getD 0 0 % 2 ^ 16 ∧ u.f GRN_TILL_CKX.X1 c = q.x.getD 1 0 % 2 ^ 16 ∧
      u.f GRN_TILL_CKX.X2 c = q.x.getD 2 0 % 2 ^ 16 ∧ u.f GRN_TILL_CKX.X3 c = q.x.getD 3 0 % 2 ^ 16 ∧
      u.f GRN_TILL_STAT.PENDING c = 0 ∧ u.on GRN_TILL_STAT.LOADED c = s.on GRN_TILL_STAT.LOADED c := by
  unfold State.tillMark
  simp (disch := decide) only [State.f_setF_field, State.on_setF_field, State.f_setF_self, State.on_setOn_field,
    State.on_setOn_self]
  exact ⟨trivial, rfl, rfl, rfl, rfl, rfl, rfl, rfl, trivial⟩

/-- A field that the sequencer does not move as it goes on. -/
theorem State.tillGo_f (s : State) (c k : Nat) {F : Fld} (h1 : F.id ≠ GRN_TILL_STAT.REASON.id)
    (h2 : F.id ≠ GRN_TILL_STAT.PENDING.id) (h3 : F.id ≠ GRN_TILL_PC.PC.id) : (s.tillGo c k).f F c = s.f F c := by
  unfold State.tillGo State.tillEnd
  split
  · simp only [State.f_setF_field _ h1, State.f_setF_field _ h2, State.f_setSeq]
  · exact State.f_setF_field _ h3 c _

theorem State.tillGo_pending {s : State} {c : Nat} (k : Nat) (h : s.f GRN_TILL_STAT.PENDING c = 0) :
    (s.tillGo c k).f GRN_TILL_STAT.PENDING c = 0 := by
  unfold State.tillGo
  split
  · exact (s.tillEnd_ends c (r := 8) (by decide)).pending
  · exact (State.f_setF_field _ (by decide) c _).trans h

/-- Two states that differ in the slots of a channel and its clock, and in the free values drawn. -/
structure State.SlotsOnly (s t : State) (c : Nat) : Prop where
  seq : ∃ k, t.seq c = { s.seq c with clock := k }
  f : ∀ F : Fld, F.id ≠ GRN_TILL_SLOTS.COUNT.id → t.f F c = s.f F c
  mem : t.granary.mem = s.granary.mem

/-- Where a channel holds nothing, nothing is served. -/
theorem State.serveHeld_nil {s : State} {c : Nat} (h : (s.seq c).held = []) :
    (s.serveHeld c).seq c = { s.seq c with held := [], serving := false } ∧ (s.serveHeld c).regs = s.regs ∧
      (s.serveHeld c).granary.mem = s.granary.mem := by
  have he : s.serveHeld c = (s.setSeq c { s.seq c with held := [], serving := true }).setSeq c
      { (s.setSeq c { s.seq c with held := [], serving := true }).seq c with serving := false } := by
    simp only [State.serveHeld, h, List.foldl_nil]
  rw [he, State.seq_setSeq_self, State.seq_setSeq_self]
  exact ⟨rfl, rfl, rfl⟩

theorem State.yieldSlots_slotsOnly (s : State) (c : Nat) : s.SlotsOnly (s.yieldSlots c) c :=
  ⟨⟨_, State.seq_setSeq_self ..⟩, fun _ hF => State.f_setF_field _ hF c _, rfl⟩

/-- YIELD where the channel holds no access. -/
theorem State.tillYields_goes {s t : State} {c op : Nat} (hi : s.Issued t c) (hr : s.TillRuns c op)
    (hh : (s.seq c).held = []) (w : Nat) (quiet : Bool) :
    let pc := s.f GRN_TILL_PC.PC c
    let x := (s.seq c).x
    let u := t.tillYields c pc w (s.seq c) quiet
    s.GoesTo u c (pc + 1) ∧ u.on GRN_TILL_CKPT.VALID c = true ∧ u.granary.mem = s.granary.mem ∧
      u.f GRN_TILL_CKPT.PC c = pc % 512 ∧ u.f GRN_TILL_CKPT.TAG c = tlImm w % 2 ^ 16 ∧
      u.f GRN_TILL_CKX.X0 c = x.getD 0 0 % 2 ^ 16 ∧ u.f GRN_TILL_CKX.X1 c = x.getD 1 0 % 2 ^ 16 ∧
      u.f GRN_TILL_CKX.X2 c = x.getD 2 0 % 2 ^ 16 ∧ u.f GRN_TILL_CKX.X3 c = x.getD 3 0 % 2 ^ 16 ∧
      u.f GRN_TILL_STAT.PENDING c = 0 ∧ (pc + 1 < (s.seq c).image.length → (u.seq c).row = (s.seq c).row) := by
  intro pc x u
  obtain ⟨k, hk⟩ := hi.seq
  have hmark : (t.tillMark c pc w (s.seq c)).seq c = t.seq c := rfl
  obtain ⟨hsq, hsr, hsm⟩ := State.serveHeld_nil (s := t.tillMark c pc w (s.seq c)) (c := c) (by rw [hmark, hk]; exact hh)
  obtain ⟨hv, hp, htag, h0, h1, h2, h3, hpend, hl⟩ := t.tillMark_fields c pc w (s.seq c)
  -- the state in which the sequencer goes on
  have hbefore : ∃ v, u = v.tillGo c (pc + 1) ∧ ((t.tillMark c pc w (s.seq c)).serveHeld c).SlotsOnly v c := by
    cases quiet with
    | true => exact ⟨_, rfl, ⟨_, rfl⟩, fun _ _ => rfl, rfl⟩
    | false => exact ⟨_, rfl, State.yieldSlots_slotsOnly ..⟩
  obtain ⟨v, hu, hslots⟩ := hbefore
  have hf : ∀ F : Fld, F.id ≠ GRN_TILL_SLOTS.COUNT.id → v.f F c = (t.tillMark c pc w (s.seq c)).f F c := fun F hF =>
    (hslots.f F hF).trans (State.f_of_regs hsr F c)
  have hgo := v.tillGo_goes c (pc + 1)
  obtain ⟨k', hk'⟩ := hslots.seq
  have hvq : v.seq c = { s.seq c with held := [], serving := false, clock := k' } := by rw [hk', hsq, hmark, hk]
  have hvl : v.on GRN_TILL_STAT.LOADED c = true := by
    rw [State.on, hf _ (by decide), ← State.on, hl, hi.on]
    exact hr.1.1
  have hkeep : ∀ F : Fld, F.id ≠ GRN_TILL_STAT.REASON.id → F.id ≠ GRN_TILL_STAT.PENDING.id → F.id ≠ GRN_TILL_PC.PC.id →
      F.id ≠ GRN_TILL_SLOTS.COUNT.id → u.f F c = (t.tillMark c pc w (s.seq c)).f F c := fun F a b d e => by
    rw [hu, State.tillGo_f v c (pc + 1) a b d, hf F e]
  rw [← hu] at hgo
  refine ⟨hgo.goesTo hvl (by rw [hvq]) (by rw [hvq]; exact hr.1.2), ?_, ?_, ?_, ?_, ?_, ?_, ?_, ?_, ?_, fun hpc => ?_⟩
  · rw [State.on, hkeep _ (by decide) (by decide) (by decide) (by decide)]
    exact hv
  · rw [hgo.mem, hslots.mem, hsm]
    exact hi.mem
  · exact (hkeep _ (by decide) (by decide) (by decide) (by decide)).trans hp
  · exact (hkeep _ (by decide) (by decide) (by decide) (by decide)).trans htag
  · exact (hkeep _ (by decide) (by decide) (by decide) (by decide)).trans h0
  · exact (hkeep _ (by decide) (by decide) (by decide) (by decide)).trans h1
  · exact (hkeep _ (by decide) (by decide) (by decide) (by decide)).trans h2
  · exact (hkeep _ (by decide) (by decide) (by decide) (by decide)).trans h3
  · rw [hu]
    exact State.tillGo_pending _ ((hf _ (by decide)).trans hpend)
  · rw [(hgo.within (by rw [hvq]; exact hpc)).2, hvq]

/-- YIELD once it has issued: the pending refreshes, what is held and the open row are those of the state before. -/
theorem execYield_runs {s : State} {c : Chan} (res : MemRes) (h : s.TillRuns c 0x10) :
    execYield c res s = .next ((s.tillIssue c (s.tillWord c)).withRes res fun u =>
      u.tillYields c (s.f GRN_TILL_PC.PC c) (s.tillWord c) (s.seq c)
        (s.f GRN_TILL_STAT.PENDING c = 0 ∧ (s.seq c).held = [] ∧ (s.seq c).row = none)) := by
  obtain ⟨t, k, hi, ht, hseq, heq⟩ := State.tillInstr_runs h _
  refine heq.trans (congrArg Host.Outcome.next ?_)
  rw [← ht]
  have hp : t.f GRN_TILL_STAT.PENDING c = s.f GRN_TILL_STAT.PENDING c := hi.f _ rfl (by decide) (by decide)
  have hquiet : (decide (({ t with res := res } : State).f GRN_TILL_STAT.PENDING c = 0) && (t.seq c).held.isEmpty &&
      (t.seq c).row.isNone) =
      decide (s.f GRN_TILL_STAT.PENDING c = 0 ∧ (s.seq c).held = [] ∧ (s.seq c).row = none) := by
    rw [hseq]
    change (decide (t.f GRN_TILL_STAT.PENDING c = 0) && _ && _) = _
    rw [hp]
    rcases (s.seq c).held with _ | _ <;> rcases (s.seq c).row with _ | _ <;> simp
  have hx : (t.seq c).x = (s.seq c).x := by rw [hseq]
  simp only [State.withRes, hquiet, hx]
  rfl

/-! ### The obligation -/

theorem State.tillArith_idle {s : State} {c op : Nat} (h : ¬s.TillRuns c op) (f : Nat → TillSeq × Nat → Nat → TillSeq × Nat) :
    s.tillArith c op f = .next s := State.tillInstr_idle h _

theorem exec_till_idle {s : State} {c : Chan} {bank : Fin 32} {res : MemRes} {i : Instr} {op : Nat}
    (hm : (i, op) ∈ [(Instr.act c, 1), (.pre c, 2), (.tillLd c bank res, 3), (.st c bank res, 4), (.mac c, 5), (.aadd c, 6),
        (.chsh c, 7), (.vred c, 8), (.vcvt c, 9), (.vzero c, 0xA), (.mask c, 0xB), (.xset c, 0xC), (.xadd c, 0xD), (.bnz c, 0xE),
        (.jmp c, 0xF), (.yield c res, 0x10), (.tillEnd c, 0x11), (.tillNop c, 0)]) (h : ¬s.TillRuns c op) :
    exec i s = .next s := by
  simp only [List.mem_cons, Prod.mk.injEq, List.not_mem_nil, or_false] at hm
  rcases hm with ⟨rfl, rfl⟩ | ⟨rfl, rfl⟩ | ⟨rfl, rfl⟩ | ⟨rfl, rfl⟩ | ⟨rfl, rfl⟩ | ⟨rfl, rfl⟩ | ⟨rfl, rfl⟩ | ⟨rfl, rfl⟩ |
    ⟨rfl, rfl⟩ | ⟨rfl, rfl⟩ | ⟨rfl, rfl⟩ | ⟨rfl, rfl⟩ | ⟨rfl, rfl⟩ | ⟨rfl, rfl⟩ | ⟨rfl, rfl⟩ | ⟨rfl, rfl⟩ | ⟨rfl, rfl⟩ |
    ⟨rfl, rfl⟩
  · exact (exec_act ..).trans (State.tillInstr_idle h _)
  · exact (exec_pre ..).trans (State.tillInstr_idle h _)
  · exact (exec_tillLd ..).trans (State.tillInstr_idle h _)
  · exact (exec_st ..).trans (State.tillInstr_idle h _)
  · exact (exec_mac ..).trans (State.tillArith_idle h _)
  · exact (exec_aadd ..).trans (State.tillArith_idle h _)
  · exact (exec_chsh ..).trans (State.tillInstr_idle h _)
  · exact (exec_vred ..).trans (State.tillArith_idle h _)
  · exact (exec_vcvt ..).trans (State.tillArith_idle h _)
  · exact (exec_vzero ..).trans (State.tillArith_idle h _)
  · exact (exec_mask ..).trans (State.tillInstr_idle h _)
  · exact (exec_xset ..).trans (State.tillInstr_idle h _)
  · exact (exec_xadd ..).trans (State.tillInstr_idle h _)
  · exact (exec_bnz ..).trans (State.tillInstr_idle h _)
  · exact (exec_jmp ..).trans (State.tillInstr_idle h _)
  · exact (exec_yield ..).trans (State.tillInstr_idle h _)
  · exact (exec_tillEnd ..).trans (State.tillInstr_idle h _)
  · exact (exec_tillNop ..).trans (State.tillInstr_idle h _)

/-- A loaded program whose row is not open ends with ROW_CLOSED at an access. -/
theorem exec_rowClosed {s : State} {c : Chan} (bank : Fin 32) (res : MemRes) (hrow : (s.seq c).row = none) :
    (s.TillRuns c 3 → answers (.tillLd c bank res) s fun u => s.EndsWith u c 5) ∧
      (s.TillRuns c 4 → answers (.st c bank res) s fun u => s.EndsWith u c 5) := by
  refine ⟨fun h => ?_, fun h => ?_⟩
  · obtain ⟨t, k, hi, -, hseq, heq⟩ := State.tillInstr_runs h _
    refine ⟨_, (exec_tillLd ..).trans heq, ?_⟩
    have hr : (t.seq c).row = none := by rw [hseq]; exact hrow
    simp only [hr]
    exact hi.endsWith h (t.tillEnd_ends c (by decide))
  · obtain ⟨t, k, hi, -, hseq, heq⟩ := State.tillInstr_runs h _
    refine ⟨_, (exec_st ..).trans heq, ?_⟩
    have hr : (t.seq c).row = none := by rw [hseq]; exact hrow
    simp only [hr]
    exact hi.endsWith h (t.tillEnd_ends c (by decide))

theorem exec_tillAct {s : State} {c : Chan} (h : s.TillRuns c 1) : answers (.act c) s fun u =>
    let row := (s.seq c).xAdd (s.tillWord c) + tlImm (s.tillWord c) % 2 ^ 15
    if 24576 ≤ row then s.EndsWith u c 4
    else if (s.seq c).row.isSome then s.EndsWith u c 6
    else s.GoesTo u c (s.f GRN_TILL_PC.PC c + 1) ∧
      (s.f GRN_TILL_PC.PC c + 1 < (s.seq c).image.length → (u.seq c).row = some row) := by
  obtain ⟨t, k, hi, -, hseq, heq⟩ := State.tillInstr_runs h _
  refine ⟨_, (exec_act ..).trans heq, ?_⟩
  have hr : (t.seq c).row = (s.seq c).row := by rw [hseq]
  have hx : (t.seq c).xAdd (s.tillWord c) = (s.seq c).xAdd (s.tillWord c) := by rw [hseq]; rfl
  simp only [hr, hx]
  split
  · exact hi.endsWith h (t.tillEnd_ends c (by decide))
  · split
    · exact hi.endsWith h (t.tillEnd_ends c (by decide))
    · have hgo := State.tillGo_goes (t.setSeq c { t.seq c with
        row := some ((s.seq c).xAdd (s.tillWord c) + tlImm (s.tillWord c) % 2 ^ 15) }) c (s.f GRN_TILL_PC.PC c + 1)
      refine ⟨hi.goesTo h { t.seq c with row := some _ } rfl rfl hgo, fun hpc => ?_⟩
      rw [(hgo.within (by rw [State.seq_setSeq_self, hseq]; exact hpc)).2, State.seq_setSeq_self]

theorem exec_tillPre {s : State} {c : Chan} (h : s.TillRuns c 2) : answers (.pre c) s fun u =>
    s.GoesTo u c (s.f GRN_TILL_PC.PC c + 1) ∧ (u.seq c).row = none := by
  obtain ⟨t, k, hi, -, hseq, heq⟩ := State.tillInstr_runs h _
  refine ⟨_, (exec_pre ..).trans heq, ?_⟩
  have hgo := State.tillGo_goes (t.setSeq c { t.seq c with row := none }) c (s.f GRN_TILL_PC.PC c + 1)
  refine ⟨hi.goesTo h { t.seq c with row := none } rfl rfl hgo, ?_⟩
  rcases Nat.lt_or_ge (s.f GRN_TILL_PC.PC c + 1) (s.seq c).image.length with hpc | hpc
  · rw [(hgo.within (by rw [State.seq_setSeq_self, hseq]; exact hpc)).2, State.seq_setSeq_self]
  · rw [(hgo.past (by rw [State.seq_setSeq_self, hseq]; exact hpc)).2]

/-- An instruction that replaces the sequencer's index registers or MASK, or nothing, and goes on. -/
theorem State.tillInstr_goes {s : State} {c op : Nat} (h : s.TillRuns c op) {i : Instr}
    {f : Nat → Nat → TillSeq → State → State} (he : exec i s = s.tillInstr c op f)
    (g : TillSeq → TillSeq) (k : Nat) (hg : ∀ q, ∃ x m, g q = { q with x := x, mask := m })
    (hf : ∀ q t, q.x = (s.seq c).x → f (s.f GRN_TILL_PC.PC c) (s.tillWord c) q t = (t.setSeq c (g q)).tillGo c k) :
    ∃ u, exec i s = .next u ∧ s.GoesTo u c k ∧ ∃ t, (t.x = (s.seq c).x ∧ t.tines = (s.seq c).tines) ∧
      (u.seq c).x = (g t).x ∧ (u.seq c).mask = (g t).mask ∧ (u.seq c).tines = (g t).tines := by
  obtain ⟨t, ck, hi, -, hseq, heq⟩ := State.tillInstr_runs h f
  refine ⟨_, (he.trans heq).trans (congrArg _ (hf _ _ (by rw [hseq]))), ?_⟩
  obtain ⟨x, m, hgx⟩ := hg (t.seq c)
  have hgo := State.tillGo_goes (t.setSeq c (g (t.seq c))) c k
  obtain ⟨hkx, hkt, hkm⟩ := hgo.keeps
  rw [State.seq_setSeq_self] at hkx hkt hkm
  exact ⟨hi.goesTo h _ (by rw [hgx]) (by rw [hgx]) hgo, t.seq c, ⟨by rw [hseq], by rw [hseq]⟩, hkx, hkm, hkt⟩

/-- JMP and NOP leave the sequencer but for its place. -/
theorem State.tillInstr_jumps {s : State} {c op : Nat} (h : s.TillRuns c op) {i : Instr}
    {f : Nat → Nat → TillSeq → State → State} (he : exec i s = s.tillInstr c op f)
    (k : Nat) (hf : ∀ q t, f (s.f GRN_TILL_PC.PC c) (s.tillWord c) q t = t.tillGo c k) :
    ∃ u, exec i s = .next u ∧ s.GoesTo u c k ∧ (u.seq c).x = (s.seq c).x ∧ (u.seq c).tines = (s.seq c).tines := by
  obtain ⟨t, ck, hi, -, hseq, heq⟩ := State.tillInstr_runs h f
  refine ⟨_, (he.trans heq).trans (congrArg _ (hf ..)), hi.goesTo_same h (t.tillGo_goes c k), ?_⟩
  obtain ⟨hkx, hkt, -⟩ := (t.tillGo_goes c k).keeps
  exact ⟨hkx.trans (by rw [hseq]), hkt.trans (by rw [hseq])⟩

theorem exec_refreshDue {s : State} {c : Chan} (hl : s.on GRN_TILL_STAT.LOADED c = true) (he : (s.seq c).ended = none) :
    answers (.tillRefreshDue c) s fun u =>
      if s.f GRN_TILL_STAT.PENDING c < 8 then
        u.f GRN_TILL_STAT.PENDING c = s.f GRN_TILL_STAT.PENDING c + 1 ∧ u.granary = s.granary
      else s.EndsWith u c 2 ∧ u.f GRN_TILL_STAT.PENDING c = 0 := by
  refine ⟨_, congrArg Host.Outcome.next (if_neg (by simp [hl, he])), ?_⟩
  split
  next hp =>
    refine ⟨(State.f_setF_self ..).trans (Nat.mod_eq_of_lt ?_), rfl⟩
    exact (Nat.succ_lt_succ hp).trans (by decide)
  next =>
    have hends := s.tillEnd_ends c (r := 2) (by decide)
    exact ⟨hends.endsWith hl rfl, hends.pending⟩

/-- Settles O32: each instruction by what it leaves of the state in which it issued; a program that is not at the command's
opcode by the instruction that PC names. -/
theorem tillControlAndAddressResults : Obligations.TillControlAndAddressResults := by
  intro s c bank res
  refine ⟨fun i op hm h => exec_till_idle hm h, exec_tillAct, exec_tillPre, fun h => ?ld, fun h => ?st, fun h => ?mask,
    fun h => ?xset, fun h => ?xadd, fun h => ?bnz, fun h => ?jmp, fun h => ?nop, fun h => ?yield, fun h => ?tend,
    fun h => exec_refreshDue h.1 h.2, fun h => ?refreshIdle⟩
  case ld =>
    cases hrow : (s.seq c).row with
    | none =>
      obtain ⟨u, hu, hends⟩ := (exec_rowClosed bank res hrow).1 h
      exact ⟨u, hu, (if_pos rfl).mpr hends⟩
    | some row =>
      by_cases hf : ∃ b ∈ (s.seq c).banks, s.ldFails c row ((s.seq c).col (s.tillWord c)) bank res b
      · obtain ⟨u, hu, hends⟩ := execTillLd_fails h hrow hf
        exact ⟨u, hu, (if_neg (Option.some_ne_none row)).mpr
          ⟨fun _ => hends, fun hn => absurd hf fun ⟨b, hb, hbad⟩ => hn b hb hbad⟩⟩
      · obtain ⟨u, hu, hloads⟩ := execTillLd_loads (res := res) (bank := bank) h hrow fun b hb hbad => hf ⟨b, hb, hbad⟩
        exact ⟨u, hu, (if_neg (Option.some_ne_none row)).mpr ⟨fun hn => absurd hn.2 hf, fun _ => hloads⟩⟩
  case st =>
    cases hrow : (s.seq c).row with
    | none =>
      obtain ⟨u, hu, hends⟩ := (exec_rowClosed bank res hrow).2 h
      exact ⟨u, hu, (if_pos rfl).mpr hends⟩
    | some row =>
      obtain ⟨u, hu, hstores⟩ := execSt_stores (bank := bank) (res := res) h hrow
      exact ⟨u, hu, (if_neg (Option.some_ne_none row)).mpr hstores⟩
  case mask =>
    obtain ⟨u, hu, hgo, t, -, -, hmask, -⟩ := State.tillInstr_goes h (exec_mask ..) (fun q => { q with mask := tlImm (s.tillWord c) })
      (s.f GRN_TILL_PC.PC c + 1) (fun q => ⟨q.x, _, rfl⟩) fun _ _ _ => rfl
    exact ⟨u, hu, hgo, hmask⟩
  case xset =>
    obtain ⟨u, hu, hgo, t, ⟨ht, -⟩, hx, -⟩ := State.tillInstr_goes h (exec_xset ..)
      (fun q => q.setX (s.tillWord c) (tlImm (s.tillWord c))) (s.f GRN_TILL_PC.PC c + 1) (fun q => ⟨_, q.mask, rfl⟩) fun _ _ _ => rfl
    refine ⟨u, hu, hgo, hx.trans ?_⟩
    rw [TillSeq.setX, ht]
    rfl
  case xadd =>
    obtain ⟨u, hu, hgo, t, ⟨ht, -⟩, hx, -⟩ := State.tillInstr_goes h (exec_xadd ..)
      (fun q => q.setX (s.tillWord c) (q.x.getD (tlXs (s.tillWord c)) 0 + tlImm (s.tillWord c)))
      (s.f GRN_TILL_PC.PC c + 1) (fun q => ⟨_, q.mask, rfl⟩) fun _ _ _ => rfl
    refine ⟨u, hu, hgo, hx.trans ?_⟩
    rw [TillSeq.setX, ht]
    rfl
  case bnz =>
    obtain ⟨u, hu, hgo, t, ⟨ht, -⟩, hx, -⟩ := State.tillInstr_goes h (exec_bnz ..)
      (fun q => q.setX (s.tillWord c) ((q.x.getD (tlXs (s.tillWord c)) 0 + 65535) % 2 ^ 16))
      (if ((s.seq c).x.getD (tlXs (s.tillWord c)) 0 + 65535) % 2 ^ 16 ≠ 0 then tlImm (s.tillWord c) % 512
        else s.f GRN_TILL_PC.PC c + 1) (fun q => ⟨_, q.mask, rfl⟩) fun q t hq => by rw [← hq]
    refine ⟨u, hu, hx.trans ?_, hgo⟩
    rw [TillSeq.setX, ht, Nat.mod_mod]
    rfl
  case jmp =>
    obtain ⟨u, hu, hgo, hx, -⟩ := State.tillInstr_jumps h (exec_jmp ..) (tlImm (s.tillWord c) % 512) fun _ _ => rfl
    exact ⟨u, hu, hgo, hx⟩
  case nop =>
    obtain ⟨u, hu, hgo, hx, ht⟩ := State.tillInstr_jumps h (exec_tillNop ..) (s.f GRN_TILL_PC.PC c + 1) fun _ _ => rfl
    exact ⟨u, hu, hgo, hx, ht⟩
  case yield =>
    refine ⟨_, (exec_yield ..).trans (execYield_runs res h), ?_, fun hh => ?_⟩
    · simp only [State.tillYields, decide_eq_true_eq]
      rfl
    · exact State.tillYields_goes (t := { s.tillIssue c (s.tillWord c) with res := res })
        (by obtain ⟨a, b, d, e⟩ := s.tillIssue_issued c (s.tillWord c); exact ⟨a, b, d, e⟩) h hh _ _
  case tend =>
    obtain ⟨t, k, hi, -, -, heq⟩ := State.tillInstr_runs h _
    exact ⟨_, (exec_tillEnd ..).trans heq, hi.endsWith h (t.tillEnd_ends c (by decide))⟩
  case refreshIdle =>
    refine congrArg Host.Outcome.next (if_pos ?_)
    cases hl : s.on GRN_TILL_STAT.LOADED c with
    | false => rfl
    | true =>
      have hne : (s.seq c).ended ≠ none := fun he => h ⟨hl, he⟩
      simpa [Option.isSome_iff_ne_none] using hne

end Sys2Proof.Machine
end
section
/-! PROOF. The link layer: what each step of a flit's reception leaves of the link's record (R393, R412, R418). -/

namespace Sys2Proof.Machine

/-! ### The record of a link -/

theorem State.link_of_links {s t : State} (h : t.links = s.links) (k : Nat) : t.link k = s.link k := by
  unfold State.link
  rw [h]

theorem State.link_setLink_self (s : State) (k : Nat) (l : LinkRec) : (s.setLink k l).link k = l := findD_put_self ..

theorem State.link_setLink_ne (s : State) {j k : Nat} (h : j ≠ k) (l : LinkRec) : (s.setLink k l).link j = s.link j :=
  findD_put_ne h ..

section
variable (s : State) (k : Nat)

theorem State.laneEvent_link (narrows : Bool) : (s.laneEvent k narrows).link k = s.link k :=
  State.link_of_links (links_of_keep (m := Facet.only .links) (State.laneEvent_keep rfl rfl ..) rfl) k

theorem State.countResend_link : (s.countResend k).link k = s.link k :=
  State.link_of_links (links_of_keep (m := Facet.only .links) (State.countResend_keep rfl rfl ..) rfl) k

theorem State.badMsg_link : (s.badMsg k).link k = s.link k :=
  State.link_of_links (links_of_keep (m := Facet.only .links) (State.badMsg_keep rfl rfl ..) rfl) k

theorem State.setRxWidth_link (v : Nat) : (s.setRxWidth k v).link k = s.link k := by
  unfold State.setRxWidth
  split <;> rfl

theorem State.setTxWidth_link (v : Nat) : (s.setTxWidth k v).link k = s.link k := by
  unfold State.setTxWidth
  split <;> rfl

/-- A flit that is sent takes the freed units along. -/
theorem State.putFlit_link (fseq flags rxfail : Nat) (units : List Byte) :
    (s.putFlit k fseq flags rxfail units).link k = { s.link k with freed := [0, 0, 0, 0] } := State.link_setLink_self ..

theorem State.idleFlit_link (nak rxfail : Nat) : ∃ x, (s.idleFlit k nak rxfail).link k = { s.link k with freed := x } := by
  unfold State.idleFlit
  split
  · exact ⟨_, s.putFlit_link ..⟩
  · exact ⟨_, rfl⟩

theorem State.resend_link (l : List (Nat × List Byte)) : ∃ x, (s.resend k l).link k = { s.link k with freed := x } := by
  induction l generalizing s with
  | nil => exact ⟨_, rfl⟩
  | cons a l ih =>
    obtain ⟨x, hx⟩ := ih ((s.putFlit k a.1 0 0 a.2).countResend k)
    exact ⟨x, by rw [State.resend, hx, State.countResend_link, State.putFlit_link]⟩

/-- What the far receiver reports changes the lanes of ours that failed. -/
theorem State.txLaneFails_link (lane : Nat) : ∃ x, (s.txLaneFails k lane).link k = { s.link k with txFailed := x } ∧
    (lane < laneCount k → x.testBit lane = true) := by
  unfold State.txLaneFails
  dsimp only
  split
  next h =>
    refine ⟨_, rfl, fun hl => ?_⟩
    simp only [Bool.or_eq_true, decide_eq_true_eq] at h
    exact h.resolve_left (Nat.not_le.mpr hl)
  next =>
    refine ⟨setBit (s.link k).txFailed lane true, ?_, fun _ => setBit_testBit_self ..⟩
    rw [State.laneEvent_link, State.setTxWidth_link, State.link_setLink_self]

/-! ### Transmission -/

/-- What transmission leaves of a link's record: what was received, and the lanes. -/
def LinkRec.Received (l m : LinkRec) : Prop :=
  m.rxSeq = l.rxSeq ∧ m.inbox = l.inbox ∧ m.rxFailed = l.rxFailed ∧ m.txFailed = l.txFailed

theorem LinkRec.Received.refl (l : LinkRec) : l.Received l := ⟨rfl, rfl, rfl, rfl⟩

theorem LinkRec.Received.trans {l m n : LinkRec} (h : l.Received m) (h' : m.Received n) : l.Received n := by
  obtain ⟨a, b, c, d⟩ := h
  obtain ⟨a', b', c', d'⟩ := h'
  exact ⟨a'.trans a, b'.trans b, c'.trans c, d'.trans d⟩

theorem State.newFlit_received (units : List Byte) : (s.link k).Received ((s.newFlit k units).link k) := by
  have h : (s.newFlit k units).link k = _ :=
    State.link_of_links (links_of_keep (m := Facet.only .links) (State.tally_keep rfl rfl rfl ..) rfl) k
  rw [h, State.putFlit_link, State.link_setLink_self]
  exact ⟨rfl, rfl, rfl, rfl⟩

theorem State.pumpList_received (l : List (Nat × List Byte)) (stuck : List Nat) :
    (s.link k).Received ((s.pumpList k stuck l).link k) := by
  induction l generalizing s stuck with
  | nil => exact .refl _
  | cons x l ih =>
    unfold State.pumpList
    dsimp only
    split
    · refine .trans ?_ (ih _ _)
      rw [State.link_setLink_self]
      exact ⟨rfl, rfl, rfl, rfl⟩
    · refine .trans (.trans ?_ (State.newFlit_received _ k x.2)) (ih _ _)
      rw [State.link_setLink_self]
      exact ⟨rfl, rfl, rfl, rfl⟩

theorem State.pump_received : (s.link k).Received ((s.pump k).link k) := by
  unfold State.pump
  split
  · refine .trans ?_ (State.pumpList_received _ k _ [])
    rw [State.link_setLink_self]
    exact ⟨rfl, rfl, rfl, rfl⟩
  · exact .refl _

/-- Nothing waits at the transmitter: nothing is sent. -/
theorem State.pump_nothing {s : State} {k : Nat} (h : (s.link k).out = []) : (s.pump k).link k = s.link k := by
  unfold State.pump
  split
  · dsimp only
    rw [h, State.pumpList, State.link_setLink_self, ← h]
  · rfl

/-! ### Messages of a flit -/

/-- The messages of a flit's units come to the inbox, which alone decides what it holds then. -/
theorem State.takeUnits_link (fuel : Nat) (b : List Byte) : ∀ s : State, ∃ l : List (List Byte),
    ∀ t : State, (t.link k).inbox = (s.link k).inbox → (t.takeUnits k fuel b).link k = { t.link k with inbox := l } := by
  induction fuel generalizing b with
  | zero => exact fun s => ⟨(s.link k).inbox, fun t h => by rw [State.takeUnits, ← h]⟩
  | succ fuel ih =>
    intro s
    match b with
    | [] => exact ⟨(s.link k).inbox, fun t h => by rw [State.takeUnits, ← h]; simp⟩
    | [a] => exact ⟨(s.link k).inbox, fun t h => by rw [State.takeUnits, ← h]; simp⟩
    | ty :: u :: r =>
      simp only [State.takeUnits]
      split
      · exact ih _ s
      · split
        · obtain ⟨l, hl⟩ := ih ((ty :: u :: r).drop (16 * u.toNat)) (s.setLink k
            { s.link k with inbox := (s.link k).inbox ++ [(ty :: u :: r).take (16 * u.toNat)] })
          refine ⟨l, fun t h => ?_⟩
          rw [hl _ (by rw [State.link_setLink_self, State.link_setLink_self, h]), State.link_setLink_self]
        · obtain ⟨l, hl⟩ := ih ((ty :: u :: r).drop (16 * max 1 u.toNat)) s
          exact ⟨l, fun t h => by rw [hl _ (by rw [State.badMsg_link, h]), State.badMsg_link]⟩

/-- A flit's messages: what they leave, and that the inbox alone decides the inbox after them. -/
theorem State.takeUnits_inbox {s t : State} (h : (t.link k).inbox = (s.link k).inbox) (fuel : Nat) (b : List Byte) :
    (t.takeUnits k fuel b).link k = { t.link k with inbox := ((s.takeUnits k fuel b).link k).inbox } := by
  obtain ⟨l, hl⟩ := State.takeUnits_link k fuel b s
  rw [hl t h, hl s rfl]

end

/-! ### A lane of this side's receiver -/

theorem State.rxWidth_laneEvent (s : State) (k : Nat) (narrows : Bool) :
    (s.laneEvent k narrows).rxWidth k = s.rxWidth k ∧ (s.laneEvent k narrows).txWidth k = s.txWidth k := by
  unfold State.laneEvent State.rxWidth State.txWidth
  by_cases hk : k = 6
  · simp only [hk, if_true]
    split <;> simp (disch := decide) only [State.f_setOn_apart, State.f_bump_apart, and_self]
  · simp only [hk, if_false]
    split
    · simp (disch := decide) only [State.f_setOn_apart, State.f_bump_apart, and_self]
    · exact ⟨rfl, rfl⟩

theorem widthFor_le (n : Nat) : widthFor n ≤ 8 := by
  unfold widthFor
  split_ifs <;> omega

theorem State.rxWidth_setRxWidth (s : State) (k : Nat) {v : Nat} (hv : v < 16) : (s.setRxWidth k v).rxWidth k = v ∧
    (s.setRxWidth k v).txWidth k = s.txWidth k := by
  unfold State.rxWidth State.setRxWidth State.txWidth
  split <;> simp (disch := decide) only [State.f_setF_self, State.f_setF_apart, and_true] <;> exact Nat.mod_eq_of_lt hv

/-- A record's note of a failed lane leaves the widths and the link. -/
def State.noteRxLane (s : State) (k lane : Nat) : State :=
  if k = 6 then s.setBitF YK_STATUS.RXFAILED 0 lane true else s.setBitF SWT_LSTAT.RXFAILED k lane true

theorem State.noteRxLane_keeps (s : State) (k lane : Nat) : (s.noteRxLane k lane).rxWidth k = s.rxWidth k ∧
    (s.noteRxLane k lane).txWidth k = s.txWidth k ∧ (s.noteRxLane k lane).links = s.links := by
  unfold State.noteRxLane State.rxWidth State.txWidth
  by_cases hk : k = 6
  · simp only [hk, if_true]
    exact ⟨State.f_setBitF_apart _ (by decide) .., State.f_setBitF_apart _ (by decide) .., rfl⟩
  · simp only [hk, if_false]
    exact ⟨State.f_setBitF_apart _ (by decide) .., State.f_setBitF_apart _ (by decide) .., rfl⟩

theorem State.idleFlit_widths (s : State) (k nak rxfail : Nat) : (s.idleFlit k nak rxfail).rxWidth k = s.rxWidth k ∧
    (s.idleFlit k nak rxfail).txWidth k = s.txWidth k := by
  unfold State.idleFlit
  split <;> exact ⟨rfl, rfl⟩

/-- R412, R418: a lane that fails is recorded, and the receive width narrows to what the good lanes allow. -/
theorem State.rxLaneFails_records {s : State} {k lane : Nat} (hf : s.flows k = true) (hl : lane < laneCount k)
    (hg : (s.link k).rxFailed.testBit lane = false) :
    ((s.rxLaneFails k lane).link k).rxFailed.testBit lane = true ∧
      (s.rxLaneFails k lane).rxWidth k = min (s.rxWidth k)
        (widthFor (laneCount k - countBits (laneCount k) ((s.rxLaneFails k lane).link k).rxFailed)) ∧
      (s.rxLaneFails k lane).txWidth k = s.txWidth k := by
  set bad := setBit (s.link k).rxFailed lane true with hbad
  set w := min (s.rxWidth k) (widthFor (laneCount k - countBits (laneCount k) bad)) with hw
  have heq : s.rxLaneFails k lane = (((((s.setLink k { s.link k with rxFailed := bad }).setRxWidth k w).laneEvent k
      (decide (w < s.rxWidth k))).noteRxLane k lane).idleFlit k 0 (lane + 1)) := by
    refine if_neg ?_
    simp [hl, hg, hf]
  have hwlt : w < 16 := (min_le_right _ _).trans_lt ((widthFor_le _).trans_lt (by decide))
  rw [heq]
  generalize hv : (s.setLink k { s.link k with rxFailed := bad }).setRxWidth k w = v
  have hvw := State.rxWidth_setRxWidth (s.setLink k { s.link k with rxFailed := bad }) k hwlt
  have hvl := State.setRxWidth_link (s.setLink k { s.link k with rxFailed := bad }) k w
  rw [hv] at hvw hvl
  rw [State.link_setLink_self] at hvl
  obtain ⟨hn1, hn2, hn3⟩ := (v.laneEvent k (decide (w < s.rxWidth k))).noteRxLane_keeps k lane
  obtain ⟨x, hx⟩ := ((v.laneEvent k (decide (w < s.rxWidth k))).noteRxLane k lane).idleFlit_link k 0 (lane + 1)
  rw [hx, State.link_of_links hn3, State.laneEvent_link, hvl, (State.idleFlit_widths ..).1, (State.idleFlit_widths ..).2,
    hn1, hn2, (State.rxWidth_laneEvent ..).1, (State.rxWidth_laneEvent ..).2, hvw.1, hvw.2]
  exact ⟨setBit_testBit_self .., rfl, rfl⟩

/-! ### Reception of a good flit -/

/-- Reception of a good flit, up to its acknowledgement and its lanes. -/
def State.flitAcks (s : State) (k : Nat) (b : List Byte) : State :=
  let s := s.takeAck k (numAt b 2 2)
  let s := if numAt b 5 1 = 0 then s else s.txLaneFails k (numAt b 5 1 - 1)
  let s := s.setRxWidth k (min (s.rxWidth k) (numAt b 6 1))
  if k = 6 then s
  else s.setLink k { s.link k with credit := (List.range 4).map fun v => (s.link k).credit.getD v 0 + numAt b (632 + v) 1 }

/-- What is sent again, and what may go now. -/
def State.flitSends (s : State) (k : Nat) (b : List Byte) : State :=
  (if (numAt b 4 1).testBit 0 then s.resend k (s.link k).retry else s).pump k

/-- What a good flit brings. -/
def State.flitBrings (s : State) (k : Nat) (b : List Byte) : State :=
  if (numAt b 4 1).testBit 1 then s
  else if numAt b 0 2 ≠ ((s.link k).rxSeq + 1) % 2 ^ 16 then s.idleFlit k 1 0
  else ((s.setLink k { s.link k with rxSeq := numAt b 0 2 }).takeUnits k 40 ((b.drop 8).take 624)).idleFlit k 0 0

section
variable {s : State} {k : Fin 7}

theorem exec_flitReceive_down (h : s.flows k = false) (x : Option (List Byte)) : exec (.flitReceive k x) s = .next s :=
  (exec_flitReceive ..).trans (congrArg Host.Outcome.next (if_pos (by rw [h]; rfl)))

theorem exec_flitReceive_bad (h : s.flows k = true) {b : List Byte} (hb : flitGood k b = false) :
    exec (.flitReceive k (some b)) s = .next (s.putFlit k 0 3 0 []) := by
  refine (exec_flitReceive ..).trans (congrArg Host.Outcome.next ?_)
  simp only [h, Bool.not_true, Bool.false_eq_true, if_false, hb, Bool.not_false, if_true, State.idleFlit]

theorem exec_flitReceive_good (h : s.flows k = true) {b : List Byte} (hb : flitGood k b = true) :
    exec (.flitReceive k (some b)) s = .next (((s.flitAcks k b).flitSends k b).flitBrings k b) := by
  refine (exec_flitReceive ..).trans (congrArg Host.Outcome.next ?_)
  simp only [h, Bool.not_true, Bool.false_eq_true, if_false, hb]
  rfl

end

theorem flitGood_iff (k : Fin 7) (b : List Byte) : flitGood k b = true ↔
    b.length = 640 ∧ numAt b 636 4 = crc32c (b.take 636) ∧ numAt b 7 1 = 0 ∧ numAt b 4 1 < 4 ∧
      (k.val = 6 → numAt b 632 4 = 0) := by
  simp [flitGood, and_assoc, or_iff_not_imp_left]

section
variable (s : State) (k : Nat) (b : List Byte)

/-- What a good flit's header leaves of the record. -/
theorem State.flitAcks_link : ∃ tx cr, (s.flitAcks k b).link k =
    { s.link k with
      retry := (s.link k).retry.filter (fun x =>
        decide (0 < modDiff 16 x.1 (numAt b 2 2)) && decide (modDiff 16 x.1 (numAt b 2 2) < 2 ^ 15)),
      txFailed := tx, credit := cr } ∧
    (1 ≤ numAt b 5 1 → numAt b 5 1 ≤ laneCount k → tx.testBit (numAt b 5 1 - 1) = true) := by
  have hlane : ∀ t : State, ∃ tx, (if numAt b 5 1 = 0 then t else t.txLaneFails k (numAt b 5 1 - 1)).link k =
      { t.link k with txFailed := tx } ∧
      (1 ≤ numAt b 5 1 → numAt b 5 1 ≤ laneCount k → tx.testBit (numAt b 5 1 - 1) = true) := fun t => by
    split
    next h0 => exact ⟨_, rfl, fun h1 => by omega⟩
    next =>
      obtain ⟨tx, hl, ht⟩ := t.txLaneFails_link k (numAt b 5 1 - 1)
      exact ⟨tx, hl, fun h1 h2 => ht (by omega)⟩
  obtain ⟨tx, hl, ht⟩ := hlane (s.takeAck k (numAt b 2 2))
  unfold State.flitAcks
  dsimp only
  generalize (if numAt b 5 1 = 0 then s.takeAck k (numAt b 2 2) else _) = v at hl ⊢
  rw [State.takeAck, State.link_setLink_self] at hl
  split
  · exact ⟨tx, _, by rw [State.setRxWidth_link, hl], ht⟩
  · exact ⟨tx, _, by rw [State.link_setLink_self, State.setRxWidth_link, hl], ht⟩

theorem State.flitSends_received : (s.link k).Received ((s.flitSends k b).link k) := by
  refine .trans ?_ (State.pump_received _ k)
  split
  · obtain ⟨x, hx⟩ := s.resend_link k (s.link k).retry
    rw [hx]
    exact ⟨rfl, rfl, rfl, rfl⟩
  · exact .refl _

theorem State.flitSends_retry {s : State} {k : Nat} (b : List Byte) (h : (s.link k).out = []) :
    ((s.flitSends k b).link k).retry = (s.link k).retry := by
  unfold State.flitSends
  split
  · obtain ⟨x, hx⟩ := s.resend_link k (s.link k).retry
    rw [State.pump_nothing (by rw [hx]; exact h), hx]
  · rw [State.pump_nothing h]

/-- What a good flit brings goes to the inbox alone, in order. -/
theorem State.flitBrings_link : ∃ x, (s.flitBrings k b).link k =
    if (numAt b 4 1).testBit 1 = true ∨ numAt b 0 2 ≠ ((s.link k).rxSeq + 1) % 2 ^ 16 then { s.link k with freed := x }
    else { s.link k with rxSeq := numAt b 0 2, freed := x,
                         inbox := ((s.takeUnits k 40 ((b.drop 8).take 624)).link k).inbox } := by
  unfold State.flitBrings
  split
  next h => exact ⟨_, by rw [if_pos (.inl h)]⟩
  next h =>
    split
    next hn =>
      obtain ⟨x, hx⟩ := s.idleFlit_link k 1 0
      exact ⟨x, by rw [hx, if_pos (.inr hn)]⟩
    next hn =>
      obtain ⟨x, hx⟩ := State.idleFlit_link ((s.setLink k { s.link k with rxSeq := numAt b 0 2 }).takeUnits k 40
        ((b.drop 8).take 624)) k 0 0
      refine ⟨x, ?_⟩
      rw [if_neg fun hc : _ ∨ _ => hc.elim h hn, hx, State.takeUnits_inbox k (s := s) (by rw [State.link_setLink_self]), State.link_setLink_self]

end

/-- A good flit: the retry buffer, the sequence, the inbox and the lanes that the far receiver reports. -/
theorem State.flit_results (s : State) (k : Nat) (b : List Byte) :
    let l := s.link k
    let idle := (numAt b 4 1).testBit 1
    let next := numAt b 0 2 = (l.rxSeq + 1) % 2 ^ 16
    let m := (((s.flitAcks k b).flitSends k b).flitBrings k b).link k
    (l.out = [] → m.retry = l.retry.filter (fun x =>
      decide (0 < modDiff 16 x.1 (numAt b 2 2)) && decide (modDiff 16 x.1 (numAt b 2 2) < 2 ^ 15))) ∧
    (idle = true ∨ ¬next → m.rxSeq = l.rxSeq ∧ m.inbox = l.inbox) ∧
    (idle = false → next → m.rxSeq = numAt b 0 2 ∧ m.inbox = ((s.takeUnits k 40 ((b.drop 8).take 624)).link k).inbox) ∧
    (1 ≤ numAt b 5 1 → numAt b 5 1 ≤ laneCount k → m.txFailed.testBit (numAt b 5 1 - 1) = true) := by
  intro l idle next m
  obtain ⟨tx, cr, ha, htx⟩ := s.flitAcks_link k b
  obtain ⟨hseq, hin, -, hfail⟩ := (s.flitAcks k b).flitSends_received k b
  obtain ⟨x, hx⟩ := ((s.flitAcks k b).flitSends k b).flitBrings_link k b
  rw [ha] at hseq hin hfail
  rw [hseq] at hx
  refine ⟨fun h => ?_, fun h => ?_, fun h hn => ?_, fun h1 h2 => ?_⟩
  · have hr : m.retry = (((s.flitAcks k b).flitSends k b).link k).retry := by
      change ((((s.flitAcks k b).flitSends k b).flitBrings k b).link k).retry = _
      rw [hx]
      split <;> rfl
    rw [hr, State.flitSends_retry b (by rw [ha]; exact h), ha]
  · change ((((s.flitAcks k b).flitSends k b).flitBrings k b).link k).rxSeq = _ ∧
      ((((s.flitAcks k b).flitSends k b).flitBrings k b).link k).inbox = _
    rw [hx, if_pos h]
    exact ⟨hseq, hin⟩
  · change ((((s.flitAcks k b).flitSends k b).flitBrings k b).link k).rxSeq = _ ∧
      ((((s.flitAcks k b).flitSends k b).flitBrings k b).link k).inbox = _
    rw [hx, if_neg fun hc => hc.elim (fun hi => Bool.noConfusion (hi.symm.trans h)) fun hne => hne hn,
      State.takeUnits_inbox k (s := s) hin]
    exact ⟨rfl, rfl⟩
  · have hr : m.txFailed = (((s.flitAcks k b).flitSends k b).link k).txFailed := by
      change ((((s.flitAcks k b).flitSends k b).flitBrings k b).link k).txFailed = _
      rw [hx]
      split <;> rfl
    rw [hr, hfail]
    exact htx h1 h2

/-! ### The obligation -/

/-- Settles O43: a flit that is not whole by the idle flit that answers it; a good one by its header, by what is sent after
it and by what it brings, each said of the link's record. -/
theorem linkLayerResults : Obligations.LinkLayerResults := by
  refine ⟨fun s k lane => ?lanes, fun s k b => ?flits, fun s k => ?messages⟩
  case lanes =>
    refine ⟨fun h => ⟨exec_flitReceive_down h none, ?_⟩, fun h => ⟨?_, ?_⟩, fun h => ?_, fun hf hl hg => ?_⟩
    · exact congrArg Host.Outcome.next (if_neg (by simp [h]))
    · refine (exec_flitReceive ..).trans (congrArg Host.Outcome.next ?_)
      simp only [h, Bool.not_true, Bool.false_eq_true, if_false, State.idleFlit, if_true]
    · exact congrArg Host.Outcome.next (if_pos h)
    · refine congrArg Host.Outcome.next (if_pos ?_)
      rcases h with h | h | h <;> simp [h]
    · exact ⟨_, rfl, State.rxLaneFails_records hf hl hg⟩
  case flits =>
    refine ⟨fun h => exec_flitReceive_down h _, fun h hb => ?_, fun h hb => ?_⟩
    · exact exec_flitReceive_bad h (Bool.eq_false_iff.mpr fun hg => hb ((flitGood_iff k b).mp hg))
    · have he := exec_flitReceive_good h ((flitGood_iff k b).mpr hb)
      obtain ⟨hretry, hstay, htake, hlane⟩ := s.flit_results k b
      exact ⟨fun h => ⟨_, he, hretry h⟩, fun h => ⟨_, he, hstay h⟩, fun h hn => ⟨_, he, htake h hn⟩,
        fun h1 h2 => ⟨_, he, hlane h1 h2⟩⟩
  case messages =>
    cases hin : (s.link k).inbox with
    | nil => exact trivial
    | cons m r =>
      simp only [State.takeMsg, hin, if_true]
      refine ⟨trivial, ?_, fun j hj => State.link_setLink_ne s (fun e => hj (Fin.ext e)) _⟩
      rw [State.link_setLink_self]

end Sys2Proof.Machine
end
section
/-! PROOF. The fault log: where an entry merges or goes, and what the writer and the acknowledgements leave (R553 to
R557, R571). -/

namespace Sys2Proof.Machine

/-! ### What an event leaves -/

theorem State.logEvent_reeve (s : State) (code inst plot aux addr detail : Nat) :
    ∃ q, (s.logEvent code inst plot aux addr detail).reeve = { s.reeve with logQueue := q } := by
  unfold State.logEvent
  split
  · exact ⟨_, rfl⟩
  · refine ⟨s.reeve.logQueue, ?_⟩
    have h : (s.bump RV_LOG_LOST.COUNT 0).reeve = s.reeve := by
      unfold State.bump
      split <;> rfl
    exact h

theorem State.logEvent_f (s : State) (code inst plot aux addr detail : Nat) {F : Fld}
    (h1 : F.apart RV_LOG_LOST.COUNT = true) (h2 : F.apart RV_LOG_STAT.QOVF = true) (i : Nat) :
    (s.logEvent code inst plot aux addr detail).f F i = s.f F i := by
  unfold State.logEvent
  split
  · rfl
  · rw [State.f_setOn_apart _ h2, State.f_bump_apart _ h1]

/-! ### Slots -/

/-- The first of the entries that a test admits, by an order of entries. -/
def pickWhere (p : LogEntry → Bool) (before : LogEntry → LogEntry → Bool) : List (Nat × LogEntry) → Option (Nat × LogEntry)
  | [] => none
  | c :: r =>
    match pickWhere p before r with
    | none => if p c.2 then some c else none
    | some b => if p c.2 && before c.2 b.2 then some c else some b

theorem newestWhere_eq (next : Nat) (p : LogEntry → Bool) (l : List (Nat × LogEntry)) :
    newestWhere next p l = pickWhere p (fun x b => decide (logAge next x < logAge next b)) l := by
  induction l with
  | nil => rfl
  | cons c r ih =>
    rw [newestWhere, pickWhere, ih] <;> rfl

theorem oldestWhere_eq (next : Nat) (p : LogEntry → Bool) (l : List (Nat × LogEntry)) :
    oldestWhere next p l = pickWhere p (fun x b => decide (logAge next b < logAge next x)) l := by
  induction l with
  | nil => rfl
  | cons c r ih =>
    rw [oldestWhere, pickWhere, ih] <;> rfl

theorem pickWhere_spec {before : LogEntry → LogEntry → Bool} (irrefl : ∀ x, before x x = false)
    (step : ∀ x b c, before c b = true → before x b = false → before x c = false) (p : LogEntry → Bool)
    (l : List (Nat × LogEntry)) : match pickWhere p before l with
    | some b => b ∈ l ∧ p b.2 = true ∧ ∀ x ∈ l, p x.2 = true → before x.2 b.2 = false
    | none => ∀ x ∈ l, p x.2 = false := by
  induction l with
  | nil => exact fun x hx => absurd hx List.not_mem_nil
  | cons c r ih =>
    unfold pickWhere
    cases hr : pickWhere p before r with
    | none =>
      rw [hr] at ih
      cases hp : p c.2 with
      | false =>
        simp only [Bool.false_eq_true, if_false]
        exact fun x hx => (List.mem_cons.mp hx).elim (fun e => e ▸ hp) (ih x)
      | true =>
        simp only [if_true]
        refine ⟨List.mem_cons_self, hp, fun x hx hpx => ?_⟩
        rcases List.mem_cons.mp hx with rfl | hx
        · exact irrefl _
        · exact Bool.noConfusion (hpx.symm.trans (ih x hx))
    | some b =>
      rw [hr] at ih
      obtain ⟨hb, hpb, hfirst⟩ := ih
      dsimp only
      by_cases h : (p c.2 && before c.2 b.2) = true
      · rw [if_pos h]
        obtain ⟨hp, hlt⟩ := Bool.and_eq_true .. ▸ h
        refine ⟨List.mem_cons_self, hp, fun x hx hpx => ?_⟩
        rcases List.mem_cons.mp hx with rfl | hx
        · exact irrefl _
        · exact step _ _ _ hlt (hfirst x hx hpx)
      · rw [if_neg h]
        refine ⟨List.mem_cons_of_mem _ hb, hpb, fun x hx hpx => ?_⟩
        rcases List.mem_cons.mp hx with rfl | hx
        · exact Bool.eq_false_iff.mpr fun hlt => h (by rw [hpx, hlt]; rfl)
        · exact hfirst x hx hpx

/-- The newest of the entries that a test admits. -/
theorem newestWhere_spec (next : Nat) (p : LogEntry → Bool) (l : List (Nat × LogEntry)) : match newestWhere next p l with
    | some b => b ∈ l ∧ p b.2 = true ∧ ∀ x ∈ l, p x.2 = true → logAge next b.2 ≤ logAge next x.2
    | none => ∀ x ∈ l, p x.2 = false := by
  have h := pickWhere_spec (before := fun x b => decide (logAge next x < logAge next b)) (fun x => by simp)
    (fun x b c h1 h2 => by simp only [decide_eq_true_eq, decide_eq_false_iff_not] at *; omega) p l
  rw [← newestWhere_eq] at h
  simpa using h

/-- The oldest of the entries that a test admits. -/
theorem oldestWhere_spec (next : Nat) (p : LogEntry → Bool) (l : List (Nat × LogEntry)) : match oldestWhere next p l with
    | some b => b ∈ l ∧ p b.2 = true ∧ ∀ x ∈ l, p x.2 = true → logAge next x.2 ≤ logAge next b.2
    | none => ∀ x ∈ l, p x.2 = false := by
  have h := pickWhere_spec (before := fun x b => decide (logAge next b < logAge next x)) (fun x => by simp)
    (fun x b c h1 h2 => by simp only [decide_eq_true_eq, decide_eq_false_iff_not] at *; omega) p l
  rw [← oldestWhere_eq] at h
  simpa using h

/-- The lowest free slot from `n` on. -/
theorem freeSlot_spec (log : List (Nat × LogEntry)) (fuel n : Nat) : match freeSlot log fuel n with
    | some k => n ≤ k ∧ k < n + fuel ∧ (findD {} k log).valid = false ∧ ∀ j, n ≤ j → j < k → (findD {} j log).valid = true
    | none => ∀ j, n ≤ j → j < n + fuel → (findD {} j log).valid = true := by
  induction fuel generalizing n with
  | zero => exact fun j h1 h2 => by omega
  | succ fuel ih =>
    unfold freeSlot
    cases hv : (findD {} n log).valid with
    | false =>
      simp only [Bool.false_eq_true, if_false]
      exact ⟨le_refl _, by omega, hv, fun j h1 h2 => by omega⟩
    | true =>
      have hn : ∀ j, n ≤ j → ¬n + 1 ≤ j → (findD {} j log).valid = true := fun j h1 h2 => by
        rw [show j = n by omega]
        exact hv
      simp only [if_true]
      have := ih (n + 1)
      cases hf : freeSlot log fuel (n + 1) with
      | none =>
        rw [hf] at this
        intro j h1 h2
        by_cases h3 : n + 1 ≤ j
        · exact this j h3 (by omega)
        · exact hn j h1 h3
      | some k =>
        rw [hf] at this
        obtain ⟨h1, h2, h3, h4⟩ := this
        refine ⟨by omega, by omega, h3, fun j h5 h6 => ?_⟩
        by_cases h7 : n + 1 ≤ j
        · exact h4 j h7 h6
        · exact hn j h5 h7

/-- R555: what a new entry merges into. -/
theorem mergeTarget_spec (next : Nat) (e : LogEntry) (log : List (Nat × LogEntry)) : match mergeTarget next e log with
    | some (n, b) => (n, b) ∈ log ∧ b.valid = true ∧ b.code = e.code ∧ b.inst = e.inst ∧ b.plot = e.plot ∧
        e.severity ≤ 2 ∧ e.ts ≤ b.lastTs + 100000 ∧
        ∀ x ∈ log, x.2.valid = true → x.2.code = e.code → x.2.inst = e.inst → x.2.plot = e.plot → logAge next b ≤ logAge next x.2
    | none => True := by
  have hspec := newestWhere_spec next (fun x => x.valid && x.code == e.code && x.inst == e.inst && x.plot == e.plot) log
  unfold mergeTarget
  by_cases hs : 2 < e.severity
  · simp only [hs, if_true]
  · simp only [hs, if_false]
    cases hn : newestWhere next (fun x => x.valid && x.code == e.code && x.inst == e.inst && x.plot == e.plot) log with
    | none => exact trivial
    | some b =>
      rw [hn] at hspec
      simp only [Bool.and_eq_true, beq_iff_eq] at hspec
      obtain ⟨hb, ⟨⟨⟨hv, hc⟩, hi⟩, hp⟩, hmin⟩ := hspec
      dsimp only
      by_cases ht : e.ts - b.2.lastTs ≤ 100000
      · rw [if_pos ht]
        exact ⟨hb, hv, hc, hi, hp, by omega, by omega, fun x hx a b c d => hmin x hx ⟨⟨⟨a, b⟩, c⟩, d⟩⟩
      · rw [if_neg ht]
        exact trivial

/-- R554: where a new entry goes. -/
theorem logPlace_spec (next : Nat) (log : List (Nat × LogEntry)) : match logPlace next log with
    | some n => (n < 4096 ∧ (findD {} n log).valid = false ∧ ∀ j < n, (findD {} j log).valid = true) ∨
        ((∀ j < 4096, (findD {} j log).valid = true) ∧ ∃ x ∈ log, x.1 = n ∧ x.2.valid = true ∧ x.2.sticky = false ∧
          ∀ y ∈ log, y.2.valid = true → y.2.sticky = false → logAge next y.2 ≤ logAge next x.2)
    | none => (∀ j < 4096, (findD {} j log).valid = true) ∧ ∀ y ∈ log, y.2.valid = true → y.2.sticky = true := by
  have hfree := freeSlot_spec log logSlots 0
  have hold := oldestWhere_spec next (fun x => x.valid && !x.sticky) log
  unfold logPlace
  cases hf : freeSlot log logSlots 0 with
  | some n =>
    rw [hf] at hfree
    obtain ⟨-, h1, h2, h3⟩ := hfree
    exact .inl ⟨h1.trans_eq (Nat.zero_add _), h2, fun j => h3 j (Nat.zero_le _)⟩
  | none =>
    rw [hf] at hfree
    have hall : ∀ j < 4096, (findD {} j log).valid = true := fun j hj =>
      hfree j (Nat.zero_le _) (hj.trans_eq (Nat.zero_add _).symm)
    cases ho : oldestWhere next (fun x => x.valid && !x.sticky) log with
    | none =>
      rw [ho] at hold
      simp only [Bool.and_eq_false_iff, Bool.not_eq_false'] at hold
      exact ⟨hall, fun y hy hv => (hold y hy).resolve_left (by rw [hv]; decide)⟩
    | some b =>
      rw [ho] at hold
      simp only [Bool.and_eq_true, Bool.not_eq_true'] at hold
      obtain ⟨hb, ⟨hv, hs⟩, hmax⟩ := hold
      exact .inr ⟨hall, b, hb, rfl, hv, hs, fun y hy a c => hmax y hy ⟨a, c⟩⟩

/-! ### The writer -/

theorem State.logNotify_reeve (s : State) : s.logNotify.reeve = s.reeve :=
  reeve_of_keep (m := among [.reeve]) (State.logNotify_keep rfl rfl s) rfl

theorem State.logNotify_f (s : State) (F : Fld) (i : Nat) : s.logNotify.f F i = s.f F i :=
  f_of_keep (m := fun p => decide (p ≠ .sent ∧ p ≠ .vecs)) (State.logNotify_keep rfl rfl s) (by simp) i

/-- What a severity notifies leaves Reeve and every field. -/
theorem State.quiet_keeps (s : State) (p : Prop) [Decidable p] : (if p then s.logNotify else s).reeve = s.reeve ∧
    ∀ F i, (if p then s.logNotify else s).f F i = s.f F i := by
  split
  · exact ⟨s.logNotify_reeve, s.logNotify_f⟩
  · exact ⟨rfl, fun _ _ => rfl⟩

/-- LOG_WRITE in a machine whose Headland die runs: the oldest queued entry is completed. -/
theorem exec_logWrite_next {s : State} (hl : s.live = true) {e : LogEntry} {r : List LogEntry}
    (hq : s.reeve.logQueue = e :: r) :
    exec .logWrite s = .next ({ s with reeve := { s.reeve with logQueue := r } }.logComplete e) := by
  rw [exec_logWrite, execLogWrite]
  simp only [hl, if_true, hq]

theorem exec_logWrite_none {s : State} (h : s.live = false ∨ s.reeve.logQueue = []) : exec .logWrite s = .next s := by
  rw [exec_logWrite, execLogWrite]
  rcases h with h | h
  · simp only [h, Bool.false_eq_true, if_false]
  · simp only [h, ite_self]

/-- An entry with which a later one has merged. -/
def LogEntry.merged (b e : LogEntry) : LogEntry := { b with rep := min 255 (b.rep + 1), lastTs := e.ts }

/-- An entry as it is written. -/
def LogEntry.written (e : LogEntry) (next : Nat) : LogEntry :=
  { e with seq := next, valid := true, rep := 1, lastTs := e.ts, sticky := decide (3 ≤ e.severity) }

section
variable {s : State} {e : LogEntry} {n : Nat}

theorem State.logComplete_merges {b : LogEntry}
    (h : mergeTarget (s.f RV_LOG_SEQ.SEQ 0) e s.reeve.log = some (n, b)) :
    (s.logComplete e).reeve = { s.reeve with log := put n (b.merged e) s.reeve.log } ∧
      (s.logComplete e).f RV_LOG_SEQ.SEQ 0 = s.f RV_LOG_SEQ.SEQ 0 := by
  have hu : s.logComplete e = if 2 ≤ e.severity then (s.setLog (put n (b.merged e) s.reeve.log)).logNotify
      else s.setLog (put n (b.merged e) s.reeve.log) := by
    unfold State.logComplete
    simp only [h]
    rfl
  obtain ⟨hr, hf⟩ := State.quiet_keeps (s.setLog (put n (b.merged e) s.reeve.log)) (2 ≤ e.severity)
  rw [hu]
  exact ⟨hr, hf _ 0⟩

theorem State.logComplete_writes (hm : mergeTarget (s.f RV_LOG_SEQ.SEQ 0) e s.reeve.log = none)
    (hp : logPlace (s.f RV_LOG_SEQ.SEQ 0) s.reeve.log = some n) :
    (s.logComplete e).reeve = { s.reeve with log := put n (e.written (s.f RV_LOG_SEQ.SEQ 0)) s.reeve.log } ∧
      (s.logComplete e).f RV_LOG_SEQ.SEQ 0 = (s.f RV_LOG_SEQ.SEQ 0 + 1) % 2 ^ 32 := by
  have hu : s.logComplete e = if 2 ≤ e.severity
      then ((s.setLog (put n (e.written (s.f RV_LOG_SEQ.SEQ 0)) s.reeve.log)).wrapInc RV_LOG_SEQ.SEQ 0).logNotify
      else (s.setLog (put n (e.written (s.f RV_LOG_SEQ.SEQ 0)) s.reeve.log)).wrapInc RV_LOG_SEQ.SEQ 0 := by
    unfold State.logComplete
    simp only [hm, hp]
    rfl
  obtain ⟨hr, hf⟩ := State.quiet_keeps ((s.setLog (put n (e.written (s.f RV_LOG_SEQ.SEQ 0)) s.reeve.log)).wrapInc
    RV_LOG_SEQ.SEQ 0) (2 ≤ e.severity)
  rw [hu]
  exact ⟨hr, (hf _ 0).trans (State.f_setF_self ..)⟩

theorem State.logComplete_loses (hm : mergeTarget (s.f RV_LOG_SEQ.SEQ 0) e s.reeve.log = none)
    (hp : logPlace (s.f RV_LOG_SEQ.SEQ 0) s.reeve.log = none) :
    (s.logComplete e).reeve = s.reeve ∧ (s.logComplete e).f RV_LOG_SEQ.SEQ 0 = s.f RV_LOG_SEQ.SEQ 0 ∧
      (s.logComplete e).on RV_LOG_STAT.LOG_FULL 0 = true ∧ (s.logComplete e).f RV_LOG_LOST.COUNT 0 =
        if s.f RV_LOG_LOST.COUNT 0 + 1 < 2 ^ 32 then s.f RV_LOG_LOST.COUNT 0 + 1 else s.f RV_LOG_LOST.COUNT 0 := by
  have hu : s.logComplete e = ((s.bump RV_LOG_LOST.COUNT 0).setOn RV_LOG_STAT.LOG_FULL 0 true).logNotify := by
    unfold State.logComplete
    simp only [hm, hp]
  rw [hu, State.logNotify_reeve, State.on, State.logNotify_f, State.logNotify_f, State.logNotify_f, ← State.on]
  refine ⟨reeve_of_keep (m := among [.reeve]) ((State.setOn_keep _ _ rfl 0 true).trans (State.bump_keep s _ rfl 0)) rfl, ?_,
    State.on_setOn_self _ rfl 0 true, ?_⟩
  · rw [State.f_setOn_apart _ (by decide), State.f_bump_apart _ (by decide)]
  · rw [State.f_setOn_apart _ (by decide), State.f_bump_self (w := 32) s rfl 0]
    split <;> omega

end

/-! ### Acknowledgements -/

/-- R571: who may write a register of Reeve. -/
theorem State.rvWrite_cases (s : State) (agent : Agent) (off : Nat) (g : State → State) :
    (s.acts agent = false ∨ (¬(agent = .plot 0 ∨ agent = .reeve ∨ agent = .tap) ∧ agent ≠ .drill) →
      s.rvWrite agent off g = s) ∧
    (s.acts agent = true → agent = .drill → s.rvWrite agent off g = s.writeDropped agent off) ∧
    (s.acts agent = true → agent = .plot 0 ∨ agent = .reeve ∨ agent = .tap → s.rvWrite agent off g = g s) := by
  unfold State.rvWrite
  refine ⟨fun h => ?_, fun ha hd => ?_, fun ha hm => ?_⟩
  · rcases h with h | ⟨hm, hd⟩
    · exact if_pos (by rw [h]; rfl)
    · split
      · rfl
      · cases agent with
        | plot p => exact if_neg fun h0 => hm (.inl (congrArg Agent.plot (Fin.ext h0)))
        | drill => exact absurd rfl hd
        | reeve => exact absurd (.inr (.inl rfl)) hm
        | tap => exact absurd (.inr (.inr rfl)) hm
  · subst hd
    exact if_neg (by rw [ha]; decide)
  · rw [if_neg (by rw [ha]; decide)]
    rcases hm with rfl | rfl | rfl <;> rfl

/-- One entry is acknowledged. -/
def State.ackOne (s : State) (k : Nat) : State :=
  match find k s.reeve.log with
  | none => s
  | some e => s.setLog (put k { e with sticky := false } s.reeve.log)

theorem State.ackOne_regs (s : State) (k : Nat) : (s.ackOne k).regs = s.regs := by
  unfold State.ackOne
  split <;> rfl

theorem State.ackOne_find (s : State) (k j : Nat) : find j (s.ackOne k).reeve.log =
    (find j s.reeve.log).map fun x => if j = k then { x with sticky := false } else x := by
  unfold State.ackOne
  cases hk : find k s.reeve.log with
  | none =>
    by_cases hj : j = k
    · rw [hj, hk]
      rfl
    · simp only [hj, if_false, Option.map_id']
  | some e =>
    by_cases hj : j = k
    · subst hj
      rw [hk]
      simp [State.setLog]
    · simp only [hj, if_false, Option.map_id']
      exact find_put_ne hj ..

end Sys2Proof.Machine
end
section
/-! PROOF. Reeve's controllers and samples: temperatures, power, the applied DUTY and the error counters (R36, R560 to
R565). -/

namespace Sys2Proof.Machine

/-! ### Temperatures -/

theorem hottest_fst (l : List Nat) : (hottest l).1 = l.foldr max 0 := by
  induction l with
  | nil => rfl
  | cons a r ih =>
    cases r with
    | nil => simp [hottest]
    | cons b r =>
      rw [List.foldr_cons, ← ih]
      simp only [hottest]
      split
      next h => exact (max_eq_left h).symm
      next h => exact (max_eq_right (Nat.le_of_not_le h)).symm

/-- A field that no log entry and no queue overflow changes. -/
def Fld.offLog (F : Fld) : Bool := F.apart RV_LOG_LOST.COUNT && F.apart RV_LOG_STAT.QOVF

theorem State.log1_f (s : State) (code inst aux : Nat) {F : Fld} (h : F.offLog = true) (i : Nat) :
    (s.log1 code inst aux).f F i = s.f F i := by
  obtain ⟨h1, h2⟩ := (Bool.and_eq_true ..).mp h
  exact s.logEvent_f _ _ _ _ _ _ h1 h2 i

theorem State.log1_reeve (s : State) (code inst aux : Nat) : ∃ q, (s.log1 code inst aux).reeve = { s.reeve with logQueue := q } :=
  s.logEvent_reeve ..

theorem State.log0_f (s : State) (code aux : Nat) {F : Fld} (h : F.offLog = true) (i : Nat) :
    (s.log0 code aux).f F i = s.f F i := by
  obtain ⟨h1, h2⟩ := (Bool.and_eq_true ..).mp h
  exact s.logEvent_f _ _ _ _ _ _ h1 h2 i

/-- R563: the thermal controller's step changes its DUTY, and its episode. -/
theorem State.thermalStep_results (s : State) (f st : Nat × Nat) :
    (∃ e n q, (s.thermalStep f st).reeve = { s.reeve with
      thermalDuty := thermalNext s.reeve.thermalDuty f.1 st.1 (s.f RV_TLIM.T_FIELD 0) (s.f RV_TLIM.T_STACK 0),
      thermalEpisode := e, thermalSensor := n, logQueue := q }) ∧
    ∀ F : Fld, F.offLog = true → ∀ i, (s.thermalStep f st).f F i = s.f F i := by
  unfold State.thermalStep
  dsimp only
  split
  · refine ⟨?_, fun F hF i => State.log1_f _ _ _ _ hF i⟩
    obtain ⟨q, hq⟩ := State.log1_reeve _ 0x0071 _ _
    exact ⟨_, _, q, hq⟩
  · exact ⟨⟨_, _, _, rfl⟩, fun F hF i => rfl⟩

/-- R564: THERM_CRIT is entered, or ends. -/
theorem State.thermCrit_results (s : State) (f st h : Nat × Nat) :
    (s.thermCrit f st h).on RV_THROT.CRIT 0 =
      (if s.on RV_THROT.CRIT 0 then !critOver f.1 h.1 st.1 else critReached f.1 h.1 st.1) ∧
    (∃ q, (s.thermCrit f st h).reeve = { s.reeve with logQueue := q }) ∧
    ∀ F : Fld, F.offLog = true → F.apart RV_THROT.CRIT = true → ∀ i, (s.thermCrit f st h).f F i = s.f F i := by
  unfold State.thermCrit
  dsimp only
  cases hc : s.on RV_THROT.CRIT 0 with
  | true =>
    simp only [if_true]
    cases critOver f.1 h.1 st.1 with
    | true => exact ⟨State.on_setOn_self _ rfl 0 false, ⟨_, rfl⟩, fun F _ hF i => State.f_setOn_apart _ hF _ _ _⟩
    | false => exact ⟨hc, ⟨_, rfl⟩, fun _ _ _ _ => rfl⟩
  | false =>
    simp only [Bool.false_eq_true, if_false]
    cases critReached f.1 h.1 st.1 with
    | true =>
      simp only [if_true]
      refine ⟨?_, State.log1_reeve .., fun F h1 h2 i => ?_⟩
      · rw [State.on, State.log1_f _ _ _ _ (by decide), ← State.on]
        exact State.on_setOn_self _ rfl 0 true
      · rw [State.log1_f _ _ _ _ h1, State.f_setOn_apart _ h2]
    | false => exact ⟨hc, ⟨_, rfl⟩, fun _ _ _ _ => rfl⟩

/-- R561: the applied DUTY is the lower of what the controllers ask for, 0 under THERM_CRIT. -/
theorem State.applyDuty_results (s : State) :
    s.applyDuty.f RV_THROT.DUTY 0 =
      (if s.on RV_THROT.CRIT 0 then 0 else min (s.f RV_THROT.PDUTY 0) s.reeve.thermalDuty) % 128 ∧
    s.applyDuty.reeve = s.reeve ∧
    ∀ F : Fld, F.apart RV_THROT.DUTY = true → F.apart RV_THROT.THERMAL = true → F.apart RV_THROT.POWER = true →
      ∀ i, s.applyDuty.f F i = s.f F i := by
  unfold State.applyDuty
  dsimp only
  refine ⟨?_, rfl, fun F h1 h2 h3 i => ?_⟩
  · rw [State.f_setOn_apart _ (by decide), State.f_setOn_apart _ (by decide), State.f_setF_self]
    rfl
  · rw [State.f_setOn_apart _ h3, State.f_setOn_apart _ h2, State.f_setF_apart _ h1]

/-- R36: the setpoint that Reeve trims. -/
theorem State.trimSetpoint_results (s : State) :
    (∃ v, s.trimSetpoint.reeve = { s.reeve with setpoint := v } ∧
      (s.on DRL_STATUS.RUN 0 = false → v = s.reeve.setpoint) ∧
      (s.on DRL_STATUS.RUN 0 = true → 280 ≤ v ∧ v ≤ 320 ∧ fusedSetpoint ≤ v + 4 ∧ v ≤ fusedSetpoint + 4)) ∧
    ∀ F i, s.trimSetpoint.f F i = s.f F i := by
  unfold State.trimSetpoint
  cases hr : s.on DRL_STATUS.RUN 0 with
  | false => exact ⟨⟨_, rfl, fun _ => rfl, fun h => Bool.noConfusion h⟩, fun _ _ => rfl⟩
  | true =>
    refine ⟨⟨_, rfl, fun h => Bool.noConfusion h, fun _ => ?_⟩, fun _ _ => rfl⟩
    have hf : 280 ≤ fusedSetpoint ∧ fusedSetpoint ≤ 320 := by
      unfold fusedSetpoint
      omega
    omega

/-- Reeve's temperature registers once a sample has been taken. -/
def State.showTemps (s : State) (field headland : List Nat) : State :=
  (((s.setF RV_TEMP.FIELD 0 (hottest field).1).setF RV_TEMP.SENSOR 0 (hottest field).2).setF RV_TEMP.STACK 0
    (hottest s.stackTemps).1).setF RV_TEMP.HEADLAND 0 (hottest headland).1

theorem exec_tempSample_live {s : State} (hl : s.live = true) (field headland : List Nat) :
    exec (.tempSample field headland) s = .next
      ((((s.showTemps field headland).thermalStep (hottest field) (hottest s.stackTemps)).thermCrit (hottest field)
        (hottest s.stackTemps) (hottest headland)).applyDuty.trimSetpoint) := by
  rw [exec_tempSample, execTempSample, hl]
  rfl

theorem State.showTemps_f (s : State) (field headland : List Nat) :
    (s.showTemps field headland).f RV_TEMP.FIELD 0 = (hottest field).1 % 256 ∧
    (s.showTemps field headland).f RV_TEMP.STACK 0 = (hottest s.stackTemps).1 % 256 ∧
    (s.showTemps field headland).f RV_TEMP.HEADLAND 0 = (hottest headland).1 % 256 ∧
    ∀ F : Fld, F.apart RV_TEMP.FIELD = true → F.apart RV_TEMP.SENSOR = true → F.apart RV_TEMP.STACK = true →
      F.apart RV_TEMP.HEADLAND = true → (s.showTemps field headland).f F 0 = s.f F 0 := by
  unfold State.showTemps
  refine ⟨?_, ?_, ?_, fun F h1 h2 h3 h4 => ?_⟩
  · simp (disch := decide) only [State.f_setF_apart, State.f_setF_self]
    rfl
  · simp (disch := decide) only [State.f_setF_apart, State.f_setF_self]
    rfl
  · rw [State.f_setF_self]
    rfl
  · rw [State.f_setF_apart _ h4, State.f_setF_apart _ h3, State.f_setF_apart _ h2, State.f_setF_apart _ h1]

/-- A temperature sample: what it shows, and what the controllers make of it. -/
theorem tempSample_results {s : State} (hl : s.live = true) (field headland : List Nat) :
    let F := field.foldr max 0
    let H := headland.foldr max 0
    let S := s.stackTemps.foldr max 0
    answers (.tempSample field headland) s fun u => u.f RV_TEMP.FIELD 0 = F % 256 ∧ u.f RV_TEMP.STACK 0 = S % 256 ∧
      u.f RV_TEMP.HEADLAND 0 = H % 256 ∧ u.f RV_THROT.PDUTY 0 = s.f RV_THROT.PDUTY 0 ∧
      u.f RV_THROT.DUTY 0 = (if u.on RV_THROT.CRIT 0 then 0 else min (u.f RV_THROT.PDUTY 0) u.reeve.thermalDuty) % 128 ∧
      u.reeve.thermalDuty = thermalNext s.reeve.thermalDuty F S (s.f RV_TLIM.T_FIELD 0) (s.f RV_TLIM.T_STACK 0) ∧
      u.on RV_THROT.CRIT 0 = (if s.on RV_THROT.CRIT 0 then !(decide (F ≤ 100) && decide (H ≤ 100) && decide (S ≤ 95))
        else decide (110 ≤ F) || decide (110 ≤ H) || decide (105 ≤ S)) ∧
      (s.on DRL_STATUS.RUN 0 = false → u.reeve.setpoint = s.reeve.setpoint) ∧
      (s.on DRL_STATUS.RUN 0 = true → 280 ≤ u.reeve.setpoint ∧ u.reeve.setpoint ≤ 320 ∧
        fusedSetpoint ≤ u.reeve.setpoint + 4 ∧ u.reeve.setpoint ≤ fusedSetpoint + 4) := by
  intro F H S
  refine ⟨_, exec_tempSample_live hl field headland, ?_⟩
  simp only [F, H, S, ← hottest_fst]
  obtain ⟨hF, hS, hH, hshow⟩ := s.showTemps_f field headland
  obtain ⟨⟨e, n, q, hr1⟩, hf1⟩ := (s.showTemps field headland).thermalStep_results (hottest field) (hottest s.stackTemps)
  generalize (s.showTemps field headland).thermalStep (hottest field) (hottest s.stackTemps) = a at hr1 hf1 ⊢
  obtain ⟨hc2, ⟨q2, hr2⟩, hf2⟩ := a.thermCrit_results (hottest field) (hottest s.stackTemps) (hottest headland)
  generalize a.thermCrit (hottest field) (hottest s.stackTemps) (hottest headland) = b at hc2 hr2 hf2 ⊢
  obtain ⟨hd3, hr3, hf3⟩ := b.applyDuty_results
  generalize b.applyDuty = c at hd3 hr3 hf3 ⊢
  obtain ⟨⟨v, hr4, hv1, hv2⟩, hf4⟩ := c.trimSetpoint_results
  generalize c.trimSetpoint = u at hr4 hf4 ⊢
  have hkeep : ∀ G : Fld, G.offLog = true → G.apart RV_THROT.CRIT = true → G.apart RV_THROT.DUTY = true →
      G.apart RV_THROT.THERMAL = true → G.apart RV_THROT.POWER = true → u.f G 0 = (s.showTemps field headland).f G 0 :=
    fun G h1 h2 h3 h4 h5 => by rw [hf4, hf3 G h3 h4 h5, hf2 G h1 h2, hf1 G h1]
  have hsame : ∀ G : Fld, G.offLog = true → G.apart RV_THROT.CRIT = true → G.apart RV_THROT.DUTY = true →
      G.apart RV_THROT.THERMAL = true → G.apart RV_THROT.POWER = true → G.apart RV_TEMP.FIELD = true →
      G.apart RV_TEMP.SENSOR = true → G.apart RV_TEMP.STACK = true → G.apart RV_TEMP.HEADLAND = true → u.f G 0 = s.f G 0 :=
    fun G h1 h2 h3 h4 h5 h6 h7 h8 h9 => (hkeep G h1 h2 h3 h4 h5).trans (hshow G h6 h7 h8 h9)
  have hcrit : u.on RV_THROT.CRIT 0 = b.on RV_THROT.CRIT 0 := by
    rw [State.on, State.on, hf4, hf3 _ (by decide) (by decide) (by decide)]
  have hpd : u.f RV_THROT.PDUTY 0 = b.f RV_THROT.PDUTY 0 := by
    rw [hf4, hf3 _ (by decide) (by decide) (by decide)]
  have hcrit0 : a.on RV_THROT.CRIT 0 = s.on RV_THROT.CRIT 0 := by
    rw [State.on, State.on, hf1 _ (by decide), hshow _ (by decide) (by decide) (by decide) (by decide)]
  have hrun : c.on DRL_STATUS.RUN 0 = s.on DRL_STATUS.RUN 0 := by
    rw [State.on, State.on, hf3 _ (by decide) (by decide) (by decide), hf2 _ (by decide) (by decide), hf1 _ (by decide),
      hshow _ (by decide) (by decide) (by decide) (by decide)]
  have hlim : ∀ G, G.apart RV_TEMP.FIELD = true → G.apart RV_TEMP.SENSOR = true → G.apart RV_TEMP.STACK = true →
      G.apart RV_TEMP.HEADLAND = true → (s.showTemps field headland).f G 0 = s.f G 0 := hshow
  have hr0 : (s.showTemps field headland).reeve = s.reeve := rfl
  have hthermal : u.reeve.thermalDuty = b.reeve.thermalDuty := by rw [hr4, hr3]
  refine ⟨?_, ?_, ?_, ?_, ?_, ?_, ?_, fun h => ?_, fun h => ?_⟩
  · rw [hkeep _ (by decide) (by decide) (by decide) (by decide) (by decide), hF]
  · rw [hkeep _ (by decide) (by decide) (by decide) (by decide) (by decide), hS]
  · rw [hkeep _ (by decide) (by decide) (by decide) (by decide) (by decide), hH]
  · exact hsame _ (by decide) (by decide) (by decide) (by decide) (by decide) (by decide) (by decide) (by decide) (by decide)
  · rw [hf4, hd3, hcrit, hpd, hthermal]
  · rw [hthermal, hr2, hr1, hr0, hlim _ (by decide) (by decide) (by decide) (by decide),
      hlim _ (by decide) (by decide) (by decide) (by decide)]
  · rw [hcrit, hc2, hcrit0]
    rfl
  · rw [hr4]
    change v = _
    rw [hv1 (hrun.trans h), hr3, hr2, hr1, hr0]
  · rw [hr4]
    exact hv2 (hrun.trans h)

/-! ### Power -/

/-- What the power limiter asks for after an estimate (R562). -/
def powerDuty (act : PowerAct) (duty : Nat) : Nat :=
  match act with
  | .lower n => max 8 (duty - n)
  | .raise => duty + 1
  | .hold => duty

/-- R562: the limiter's choice by where the average stands. -/
theorem powerDuty_cases (avg pl1 pl2 : Nat) (toPl1 : Bool) (cap : Option Nat) (duty since free : Nat) :
    let d := powerDuty (powerAct avg pl1 pl2 toPl1 cap duty since free) duty
    (pl2 < avg → d = max 8 (duty - 8)) ∧ (avg ≤ pl2 → toPl1 = false → d = duty ∨ d = duty + 1) ∧
      (avg ≤ pl2 → toPl1 = true → avg ≤ pl1 → d = duty) ∧
      (avg ≤ pl2 → toPl1 = true → pl1 < avg → 8 < duty → 8 ≤ d ∧ d < duty) := by
  unfold powerAct
  refine ⟨fun h => ?_, fun h ht => ?_, fun h ht h1 => ?_, fun h ht h1 h8 => ?_⟩
  · rw [if_pos h]
    rfl
  · rw [if_neg (by omega), ht]
    simp only [Bool.false_and, Bool.false_eq_true, if_false]
    split
    · exact .inr rfl
    · exact .inl rfl
  · rw [if_neg (by omega), if_neg (by simp [h1]), if_pos ht]
    rfl
  · rw [if_neg (by omega), if_pos (by simp [ht, h1])]
    simp only [powerDuty]
    omega

/-- The estimates of the last second. -/
def State.powerSamples (s : State) (watts : Nat) : List Nat :=
  (calibrate s.reeve.measured watts :: s.reeve.samples).take 100000

/-- The average of the last 100 µs. -/
def State.powerAvg (s : State) (watts : Nat) : Nat := mean ((s.powerSamples watts).take 10)

/-- Consecutive samples above PL1. -/
def State.powerAbove (s : State) (watts : Nat) : Nat :=
  if s.f RV_PLIM.PL1 0 < s.powerAvg watts then s.reeve.aboveCount + 1 else 0

/-- The limiter lowers toward PL1. -/
def State.powerToPl1 (s : State) (watts : Nat) : Bool := s.reeve.toPl1 || decide (800 ≤ s.powerAbove watts)

/-- The DUTY that the limiter asks for after an estimate. -/
def State.powerNext (s : State) (watts : Nat) : Nat :=
  powerDuty (powerAct (s.powerAvg watts) (s.f RV_PLIM.PL1 0) (s.f RV_PLIM.PL2 0) (s.powerToPl1 watts)
    (if mean (s.powerSamples watts) + 20 ≤ s.f RV_PLIM.PL1 0 then none else s.reeve.powerCap) (s.f RV_THROT.PDUTY 0)
    (s.reeve.sinceRaise + 1) s.draw.1) (s.f RV_THROT.PDUTY 0)

/-- An estimate is recorded, before the DUTY is applied. -/
def State.powerShows (s : State) (watts : Nat) (r : Reeve) : State :=
  { ((s.draw.2.setF RV_THROT.PDUTY 0 (s.powerNext watts)).setF RV_POWER.AVG100US 0 (s.powerAvg watts)).setF
      RV_POWER.AVG1S 0 (mean (s.powerSamples watts)) with reeve := r }

theorem exec_powerEstimate_live {s : State} (hl : s.live = true) (watts : Nat) : ∃ r x,
    exec (.powerEstimate watts) s = .next (State.applyDuty
      (if x = true then (s.powerShows watts r).log0 0x0070 (s.powerNext watts) else s.powerShows watts r)) ∧
    r.samples = s.powerSamples watts ∧ r.aboveCount = s.powerAbove watts ∧ r.thermalDuty = s.reeve.thermalDuty := by
  refine ⟨_, _, (exec_powerEstimate ..).trans (if_neg ?_), rfl, rfl, rfl⟩
  rw [hl]
  decide

theorem State.powerShows_f (s : State) (watts : Nat) (r : Reeve) :
    (s.powerShows watts r).f RV_THROT.PDUTY 0 = s.powerNext watts % 128 ∧
      (s.powerShows watts r).f RV_POWER.AVG100US 0 = s.powerAvg watts % 2 ^ 16 := by
  have hf : ∀ F : Fld, (s.powerShows watts r).f F 0 = (((s.draw.2.setF RV_THROT.PDUTY 0 (s.powerNext watts)).setF
      RV_POWER.AVG100US 0 (s.powerAvg watts)).setF RV_POWER.AVG1S 0 (mean (s.powerSamples watts))).f F 0 := fun _ => rfl
  rw [hf, hf, State.f_setF_apart _ (by decide), State.f_setF_apart _ (by decide), State.f_setF_self,
    State.f_setF_apart _ (by decide), State.f_setF_self]
  exact ⟨rfl, rfl⟩

/-- A power estimate: what it records, and the DUTY that the limiter asks for. -/
theorem powerEstimate_results {s : State} (hl : s.live = true) (watts : Nat) :
    answers (.powerEstimate watts) s fun u => u.reeve.samples = s.powerSamples watts ∧
      u.f RV_POWER.AVG100US 0 = s.powerAvg watts % 2 ^ 16 ∧
      u.f RV_THROT.DUTY 0 = (if u.on RV_THROT.CRIT 0 then 0 else min (u.f RV_THROT.PDUTY 0) u.reeve.thermalDuty) % 128 ∧
      u.reeve.thermalDuty = s.reeve.thermalDuty ∧ u.reeve.aboveCount = s.powerAbove watts ∧
      u.f RV_THROT.PDUTY 0 = s.powerNext watts % 128 := by
  obtain ⟨r, x, he, hs, ha, ht⟩ := exec_powerEstimate_live hl watts
  refine ⟨_, he, ?_⟩
  have hlog : ∃ q, (if x = true then (s.powerShows watts r).log0 0x0070 (s.powerNext watts) else s.powerShows watts r).reeve =
      { r with logQueue := q } := by
    split
    · exact State.logEvent_reeve ..
    · exact ⟨_, rfl⟩
  have hf : ∀ F : Fld, F.offLog = true →
      (if x = true then (s.powerShows watts r).log0 0x0070 (s.powerNext watts) else s.powerShows watts r).f F 0 =
        (s.powerShows watts r).f F 0 := fun F hF => by
    split
    · exact State.log0_f _ _ _ hF 0
    · rfl
  generalize (if x = true then (s.powerShows watts r).log0 0x0070 (s.powerNext watts) else s.powerShows watts r) = b
    at hlog hf ⊢
  obtain ⟨q, hq⟩ := hlog
  obtain ⟨hpd, havg⟩ := s.powerShows_f watts r
  obtain ⟨hd, hr, hkeep⟩ := b.applyDuty_results
  have hp : b.applyDuty.f RV_THROT.PDUTY 0 = b.f RV_THROT.PDUTY 0 := hkeep _ (by decide) (by decide) (by decide) 0
  have hcrit : b.applyDuty.on RV_THROT.CRIT 0 = b.on RV_THROT.CRIT 0 := by
    rw [State.on, State.on, hkeep _ (by decide) (by decide) (by decide)]
  refine ⟨by rw [hr, hq]; exact hs, ?_, ?_, by rw [hr, hq]; exact ht, by rw [hr, hq]; exact ha, ?_⟩
  · rw [hkeep _ (by decide) (by decide) (by decide), hf _ (by decide), havg]
  · rw [hd, hcrit, hp, hr]
  · rw [hp, hf _ (by decide), hpd]

/-! ### Error counters -/

/-- The counters that Reeve samples stand in the furrow groups and the channels. -/
theorem errorCounters_offLog : ∀ c ∈ errorCounters, c.1.offLog = true := by
  intro c hc
  simp only [errorCounters, List.mem_append, List.mem_flatMap, List.mem_cons, List.not_mem_nil, or_false] at hc
  rcases hc with ⟨i, -, rfl | rfl | rfl | rfl⟩ | ⟨i, -, rfl | rfl | rfl⟩ <;> rfl

theorem State.eccRate_f (s : State) (old : Option (List Nat)) (n : Nat) (c : Fld × Nat × Nat) {F : Fld}
    (h : F.offLog = true) (i : Nat) : (s.eccRate old n c).f F i = s.f F i := by
  have hif : ∀ inc, (if s.f RV_ECCWARN.LIMIT 0 < inc then s.log1 0x0023 (Config.counterNumber n) inc else s).f F i =
      s.f F i := fun inc => by
    split
    · exact State.log1_f _ _ _ _ h i
    · rfl
  exact hif _

theorem State.eccSaturation_f (s : State) (n : Nat) (c : Fld × Nat × Nat) {F : Fld}
    (h : F.offLog = true) (i : Nat) : (s.eccSaturation n c).f F i = s.f F i := by
  unfold State.eccSaturation
  split
  · split
    · rfl
    · exact State.log1_f _ _ _ _ h i
  · rfl

/-- A step of the sample notes of its own counter whether it is saturated, and leaves what is noted of the others. -/
theorem State.eccSaturation_contains (s : State) (n : Nat) (c : Fld × Nat × Nat) (j : Nat) :
    (s.eccSaturation n c).reeve.eccSaturated.contains j =
      if j = n then decide (s.f c.1 c.2.1 = 2 ^ c.1.width - 1) else s.reeve.eccSaturated.contains j := by
  unfold State.eccSaturation
  by_cases hs : s.f c.1 c.2.1 = 2 ^ c.1.width - 1
  · rw [if_pos hs, decide_eq_true hs]
    by_cases hc : s.reeve.eccSaturated.contains n = true
    · rw [if_pos hc]
      split
      next h => rw [h, hc]
      next => rfl
    · rw [if_neg hc]
      obtain ⟨q, hq⟩ := State.log1_reeve { s with reeve := { s.reeve with eccSaturated := n :: s.reeve.eccSaturated } }
        0x0024 (Config.counterNumber n) c.2.2
      rw [hq]
      change (n :: s.reeve.eccSaturated).contains j = _
      rw [List.contains_cons]
      by_cases hj : j = n
      · simp [hj]
      · simp [hj]
  · rw [if_neg hs, decide_eq_false hs]
    change (s.reeve.eccSaturated.filter (· ≠ n)).contains j = _
    by_cases hj : j = n
    · simp [hj]
    · rw [if_neg hj, Bool.eq_iff_iff, List.contains_iff_mem, List.contains_iff_mem, List.mem_filter]
      simp [hj]

/-- The steps of a sample over counters with places of their own. -/
theorem State.eccSaturations (cs : List (Nat × Fld × Nat × Nat)) (hoff : ∀ c ∈ cs, c.2.1.offLog = true)
    (hn : (cs.map (·.1)).Nodup) (s : State) :
    let u := cs.foldl (fun s c => s.eccSaturation c.1 c.2) s
    (∀ F : Fld, F.offLog = true → ∀ i, u.f F i = s.f F i) ∧
      (∀ j, j ∉ cs.map (·.1) → u.reeve.eccSaturated.contains j = s.reeve.eccSaturated.contains j) ∧
      ∀ c ∈ cs, u.reeve.eccSaturated.contains c.1 = decide (s.f c.2.1 c.2.2.1 = 2 ^ c.2.1.width - 1) := by
  induction cs generalizing s with
  | nil => exact ⟨fun _ _ _ => rfl, fun _ _ => rfl, fun c hc => absurd hc List.not_mem_nil⟩
  | cons a cs ih =>
    rw [List.map_cons, List.nodup_cons] at hn
    obtain ⟨ha, hn⟩ := hn
    obtain ⟨hf, hother, hown⟩ := ih (fun c hc => hoff c (List.mem_cons_of_mem _ hc)) hn (s.eccSaturation a.1 a.2)
    simp only [List.foldl_cons]
    refine ⟨fun F hF i => (hf F hF i).trans (State.eccSaturation_f _ _ _ hF i), fun j hj => ?_, fun c hc => ?_⟩
    · rw [List.map_cons, List.mem_cons, not_or] at hj
      rw [hother j hj.2, State.eccSaturation_contains, if_neg hj.1]
    · rcases List.mem_cons.mp hc with rfl | hc'
      · rw [hother _ ha, State.eccSaturation_contains, if_pos rfl]
      · rw [hown c hc', State.eccSaturation_f _ _ _ (hoff c hc)]

/-- What a sample leaves of the counters of a list, and what it notes of each. -/
theorem State.eccSample (cs : List (Fld × Nat × Nat)) (hoff : ∀ c ∈ cs, c.1.offLog = true)
    (s : State) {j : Nat} (hj : j < cs.length) :
    let u := ((List.range cs.length).zip cs).foldl (fun s c => s.eccSaturation c.1 c.2)
      (((List.range cs.length).zip cs).foldl (fun s c => s.eccRate s.reeve.eccHistory[59]? c.1 c.2) s)
    u.f cs[j].1 cs[j].2.1 = s.f cs[j].1 cs[j].2.1 ∧
      u.reeve.eccSaturated.contains j = decide (s.f cs[j].1 cs[j].2.1 = 2 ^ cs[j].1.width - 1) := by
  have hmap : ((List.range cs.length).zip cs).map (·.1) = List.range cs.length :=
    List.map_fst_zip (by rw [List.length_range])
  have hoff' : ∀ c ∈ (List.range cs.length).zip cs, c.2.1.offLog = true := fun c hc => hoff c.2 (List.of_mem_zip hc).2
  have hrate : ∀ F : Fld, F.offLog = true → ∀ i,
      (((List.range cs.length).zip cs).foldl (fun u c => u.eccRate u.reeve.eccHistory[59]? c.1 c.2) s).f F i = s.f F i := fun F hF i =>
    foldl_f (fun u c => State.eccRate_f u _ _ _ hF i) _ s
  have hmem : (j, cs[j]) ∈ (List.range cs.length).zip cs := by
    rw [List.mem_iff_getElem]
    exact ⟨j, by simpa using hj, by simp⟩
  have hfj : cs[j].1.offLog = true := hoff _ (List.getElem_mem hj)
  obtain ⟨hf, -, hown⟩ := State.eccSaturations _ hoff' (by rw [hmap]; exact List.nodup_range)
    (((List.range cs.length).zip cs).foldl (fun u c => u.eccRate u.reeve.eccHistory[59]? c.1 c.2) s)
  refine ⟨(hf _ hfj _).trans (hrate _ hfj _), (hown _ hmem).trans ?_⟩
  rw [hrate _ hfj]

/-- A sample of the counters of a list. -/
def State.eccSampled (s : State) (cs : List (Fld × Nat × Nat)) : State :=
  let u := ((List.range cs.length).zip cs).foldl (fun s c => s.eccSaturation c.1 c.2)
    (((List.range cs.length).zip cs).foldl (fun s c => s.eccRate s.reeve.eccHistory[59]? c.1 c.2) s)
  { u with reeve := { u.reeve with
      eccHistory := ((cs.map fun c => s.f c.1 c.2.1) :: s.reeve.eccHistory).take 60 } }

theorem exec_errorCounterSample_live {s : State} (hl : s.live = true) :
    exec .errorCounterSample s = .next (s.eccSampled errorCounters) := by
  rw [exec_errorCounterSample, execErrorCounterSample, hl]
  rfl

theorem State.eccSampled_results (s : State) (cs : List (Fld × Nat × Nat)) (hoff : ∀ c ∈ cs, c.1.offLog = true) :
    (s.eccSampled cs).reeve.eccHistory = ((cs.map fun c => s.f c.1 c.2.1) :: s.reeve.eccHistory).take 60 ∧
      ∀ j < cs.length, match cs[j]? with
        | none => True
        | some c => (s.eccSampled cs).f c.1 c.2.1 = s.f c.1 c.2.1 ∧
            (s.eccSampled cs).reeve.eccSaturated.contains j = decide (s.f c.1 c.2.1 = 2 ^ c.1.width - 1) := by
  refine ⟨rfl, fun j hj => ?_⟩
  rw [List.getElem?_eq_getElem hj]
  exact State.eccSample cs hoff s hj

/-- R565: a sample keeps the last 60 histories and knows which counters are saturated. -/
theorem errorCounterSample_results {s : State} (hl : s.live = true) : answers .errorCounterSample s fun u =>
    u.reeve.eccHistory = ((errorCounters.map fun c => s.f c.1 c.2.1) :: s.reeve.eccHistory).take 60 ∧
      ∀ j < errorCounters.length, match errorCounters[j]? with
        | none => True
        | some c => u.f c.1 c.2.1 = s.f c.1 c.2.1 ∧
            u.reeve.eccSaturated.contains j = decide (s.f c.1 c.2.1 = 2 ^ c.1.width - 1) :=
  ⟨_, exec_errorCounterSample_live hl, s.eccSampled_results errorCounters errorCounters_offLog⟩

/-! ### The obligation -/

/-- Settles O60: the writer by where the entry goes, each acknowledgement by who makes it, a sample by what it shows and
by what each controller makes of it. -/
theorem faultLogAndThrottleResults : Obligations.FaultLogAndThrottleResults := by
  refine ⟨fun s => ⟨fun h => exec_logWrite_none (.inl h), fun hl => ?write⟩, mergeTarget_spec, logPlace_spec,
    fun s agent k => ⟨fun h => ?silent, fun ha hd => ?dropped, fun ha hm => ?acks⟩, fun s field headland watts hl => ?dead,
    fun s field headland hl => tempSample_results hl field headland, fun s watts hl => ⟨?pmbus, ?power⟩,
    fun m raw => ?calibrate, fun s hl => errorCounterSample_results hl⟩
  case write =>
    cases hq : s.reeve.logQueue with
    | nil => exact exec_logWrite_none (.inr hq)
    | cons e r =>
      have he := exec_logWrite_next hl hq
      dsimp only
      cases hm : mergeTarget (s.f RV_LOG_SEQ.SEQ 0) e s.reeve.log with
      | some x =>
        obtain ⟨n, b⟩ := x
        obtain ⟨hr, hseq⟩ := State.logComplete_merges (s := { s with reeve := { s.reeve with logQueue := r } }) hm
        exact ⟨_, he, by rw [hr], by rw [hr]; exact find_put_self .., hseq, fun j hj => by rw [hr]; exact find_put_ne hj ..⟩
      | none =>
        dsimp only
        cases hp : logPlace (s.f RV_LOG_SEQ.SEQ 0) s.reeve.log with
        | some n =>
          obtain ⟨hr, hseq⟩ := State.logComplete_writes (s := { s with reeve := { s.reeve with logQueue := r } }) hm hp
          exact ⟨_, he, by rw [hr], by rw [hr]; exact find_put_self .., hseq, fun j hj => by rw [hr]; exact find_put_ne hj ..⟩
        | none =>
          obtain ⟨hr, hseq, hfull, hlost⟩ :=
            State.logComplete_loses (s := { s with reeve := { s.reeve with logQueue := r } }) hm hp
          exact ⟨_, he, by rw [hr], by rw [hr], hseq, hfull, hlost⟩
  case silent =>
    exact ⟨congrArg Host.Outcome.next ((s.rvWrite_cases agent _ _).1 h),
      congrArg Host.Outcome.next ((s.rvWrite_cases agent _ _).1 h),
      congrArg Host.Outcome.next ((s.rvWrite_cases agent _ _).1 h)⟩
  case dropped =>
    exact ⟨congrArg Host.Outcome.next ((s.rvWrite_cases agent _ _).2.1 ha hd),
      congrArg Host.Outcome.next ((s.rvWrite_cases agent _ _).2.1 ha hd),
      congrArg Host.Outcome.next ((s.rvWrite_cases agent _ _).2.1 ha hd)⟩
  case acks =>
    have hw : ∀ off g, s.rvWrite agent off g = g s := fun off g => (s.rvWrite_cases agent off g).2.2 ha hm
    refine ⟨⟨s.ackOne k, congrArg Host.Outcome.next (hw ..), s.ackOne_regs k, s.ackOne_find k⟩,
      ⟨_, congrArg Host.Outcome.next (hw ..), rfl, fun j => ?_⟩, ⟨_, congrArg Host.Outcome.next (hw ..), rfl, fun j => ?_⟩⟩
    · exact find_map_values (fun x : LogEntry => { x with sticky := false }) j s.reeve.log
    · exact find_map_values (fun x : LogEntry => { x with valid := false }) j s.reeve.log
  case dead =>
    have hd : (!s.live) = true := by rw [hl]; rfl
    exact ⟨if_pos hd, if_pos hd, congrArg Host.Outcome.next (if_neg (by rw [hl]; decide)), if_pos hd⟩
  case pmbus => exact congrArg Host.Outcome.next (if_pos hl)
  case power =>
    obtain ⟨u, hu, hs, havg, hd, ht, ha, hp⟩ := powerEstimate_results hl watts
    obtain ⟨h1, h2, h3, h4⟩ := powerDuty_cases (s.powerAvg watts) (s.f RV_PLIM.PL1 0) (s.f RV_PLIM.PL2 0)
      (s.powerToPl1 watts) (if mean (s.powerSamples watts) + 20 ≤ s.f RV_PLIM.PL1 0 then none else s.reeve.powerCap)
      (s.f RV_THROT.PDUTY 0) (s.reeve.sinceRaise + 1) s.draw.1
    refine ⟨u, hu, hs, havg, hd, ht, ha, fun h => ?_, fun h ht => ?_, fun h ht h' => ?_, fun h ht h' h8 h128 => ?_⟩
    · rw [hp]
      exact congrArg (· % 128) (h1 h)
    · rw [hp]
      exact (h2 h ht).imp (congrArg (· % 128)) (congrArg (· % 128))
    · rw [hp]
      exact congrArg (· % 128) (h3 h ht h')
    · obtain ⟨hlo, hhi⟩ : 8 ≤ s.powerNext watts ∧ s.powerNext watts < s.f RV_THROT.PDUTY 0 := h4 h ht h' h8
      rw [hp, Nat.mod_eq_of_lt (hhi.trans h128)]
      exact ⟨hlo, hhi⟩
  case calibrate =>
    unfold calibrate
    refine ⟨fun h => ?_, fun h => ?_, fun h1 h2 => ?_⟩ <;> dsimp only <;> omega

end Sys2Proof.Machine
end
section
/-! PROOF. Encoder counting, the index and the observer's samples of an axis (R491 to R496). -/

namespace Sys2Proof.Machine

/-! ### An axis of the parameter set -/

theorem State.axis?_congr {s t : State} (h : t.isl.set = s.isl.set) (n : Nat) :
    t.axis? n = (s.axis? n).map fun c => (c.1, findD {} n t.isl.axes) := by
  have hp : t.params? = s.params? := congrArg (Option.map ParamSet.params) h
  unfold State.axis?
  rw [hp, Option.map_map]
  rfl

/-- An axis that is replaced reads so. -/
theorem State.axis?_of_axes {s t : State} {n : Nat} {r : AxisRec} {x y : AxisSt} (h : s.axis? n = some (r, x))
    (hs : t.isl.set = s.isl.set) (ha : findD {} n t.isl.axes = y) : t.axis? n = some (r, y) := by
  rw [State.axis?_congr hs, h, Option.map_some, ha]

theorem State.axis?_setAxis {s : State} {n : Nat} {r : AxisRec} {x : AxisSt} (h : s.axis? n = some (r, x)) (y : AxisSt) :
    (s.setAxis n y).axis? n = some (r, y) := State.axis?_of_axes h rfl (findD_put_self ..)

theorem State.axis?_bump {s : State} (F : Fld) (i n : Nat) : (s.bump F i).axis? n = s.axis? n := by
  unfold State.bump
  split <;> rfl

theorem State.params?_of_axis? {s : State} {n : Nat} {c : AxisRec × AxisSt} (h : s.axis? n = some c) :
    ∃ p, s.params? = some p := by
  cases hp : s.params? with
  | some p => exact ⟨p, rfl⟩
  | none =>
    unfold State.axis? at h
    rw [hp] at h
    cases h

/-! ### Encoder edges (R491) -/

section
variable {s : State} {n : Fin 4} {r : AxisRec} {x : AxisSt}

theorem exec_encoderEdge_idle (h : s.axis? n = some (r, x)) (hl : ¬(s.functional = true ∧ r.encoder = true)) (a b : Bool) :
    exec (.encoderEdge n a b) s = .next s := by
  rw [exec_encoderEdge, execEncoderEdge, h]
  refine if_pos ?_
  simpa [← Bool.not_and] using hl

/-- An edge of an encoder that counts: both levels changed, one, or none. -/
theorem exec_encoderEdge_live (h : s.axis? n = some (r, x)) (hf : s.functional = true) (he : r.encoder = true) (a b : Bool) :
    exec (.encoderEdge n a b) s =
      if a ≠ x.encA ∧ b ≠ x.encB then .next (s.setAxis n { x with encA := a, encB := b, illegal := x.illegal + 1 })
      else if a ≠ x.encA ∨ b ≠ x.encB then
        .next (s.setAxis n { x with encA := a, encB := b, pos := x.pos +
          (if (decide (decide (a ≠ x.encA) = decide (a ≠ b)) != r.invert) = true then 1 else -1) })
      else .next s := by
  rw [exec_encoderEdge, execEncoderEdge, h]
  simp [hf, he]

end

/-! ### The index (R493, R494) -/

/-- The difference, reduced into half a revolution either way. -/
theorem indexError_spec (d : Int) {lines : Nat} (h : 0 < lines) :
    let e := indexError d (4 * lines)
    (-(2 * (lines : Int)) < e) ∧ e ≤ 2 * lines ∧ (d - e) % ((4 * lines : Nat) : Int) = 0 := by
  have hpos : (0 : Int) < ((4 * lines : Nat) : Int) := by omega
  have hlo := Int.emod_nonneg d hpos.ne'
  have hhi := Int.emod_lt_of_pos d hpos
  have hdiv : (d - d % ((4 * lines : Nat) : Int)) % ((4 * lines : Nat) : Int) = 0 := by
    rw [Int.sub_emod, Int.emod_emod_of_dvd _ (dvd_refl _), sub_self, Int.zero_emod]
  have he : indexError d (4 * lines) = if 2 * (d % ((4 * lines : Nat) : Int)) ≤ ((4 * lines : Nat) : Int)
      then d % ((4 * lines : Nat) : Int) else d % ((4 * lines : Nat) : Int) - ((4 * lines : Nat) : Int) := rfl
  rw [he]
  dsimp only
  split
  · exact ⟨by omega, by omega, hdiv⟩
  · refine ⟨by omega, by omega, ?_⟩
    rw [← sub_add, Int.add_emod_right]
    exact hdiv

/-- What a later index point makes of the axis. -/
def AxisSt.corrected (x : AxisSt) (e : Int) : AxisSt :=
  let b := (x.shift (-e)).indexEvent (decide (2 < e.natAbs))
  { b with origin := b.pos }

theorem AxisSt.index_later {x : AxisSt} (h : x.referenced = true) (r : AxisRec) : x.index r =
    (x.corrected (indexError (x.pos - r.refPos) r.rev),
      some (decide (2 < (indexError (x.pos - r.refPos) r.rev).natAbs))) := by
  unfold AxisSt.index
  rw [if_neg (by rw [h]; decide)]
  rfl

theorem AxisSt.indexEvent_keeps (x : AxisSt) (m : Bool) : (x.indexEvent m).pos = x.pos ∧ (x.indexEvent m).latched = x.latched ∧
    (x.indexEvent m).state = x.state ∧ (x.indexEvent m).demand = x.demand ∧ (x.indexEvent m).bounds = x.bounds ∧
    (x.indexEvent m).obs = x.obs := by
  unfold AxisSt.indexEvent
  cases m <;> exact ⟨rfl, rfl, rfl, rfl, rfl, rfl⟩

theorem AxisSt.corrected_pos (x : AxisSt) (e : Int) : (x.corrected e).pos = x.pos - e ∧
    (x.corrected e).origin = (x.corrected e).pos :=
  ⟨((x.shift (-e)).indexEvent_keeps _).1, rfl⟩

/-- A mismatch suspends the checks of position; the third of sixteen is ENCODER_FAULT. -/
theorem AxisSt.corrected_mismatch (x : AxisSt) {e : Int} (h : 2 < e.natAbs) : (x.corrected e).suspended = true ∧
    (2 ≤ ((x.events.take 15).filter id).length → (x.corrected e).faults.encoder = true) := by
  unfold AxisSt.corrected
  rw [decide_eq_true h]
  refine ⟨rfl, fun h2 => ?_⟩
  have hthird : 3 ≤ (((true :: x.events).take 16).filter id).length := by
    rw [List.take_succ_cons, List.filter_cons_of_pos rfl, List.length_cons]
    omega
  change (x.faults.encoder || (true && decide (3 ≤ (((true :: x.events).take 16).filter id).length))) = true
  rw [decide_eq_true hthird]
  simp

theorem AxisSt.corrected_match (x : AxisSt) {e : Int} (h : e.natAbs ≤ 2) : (x.corrected e).faults = x.faults ∧
    (x.corrected e).suspended = (x.suspended && decide (x.good = 0)) := by
  unfold AxisSt.corrected
  rw [decide_eq_false (Nat.not_lt.mpr h)]
  refine ⟨rfl, ?_⟩
  change (x.suspended && decide (x.good + 1 < 2)) = _
  congr 1
  exact decide_eq_decide.mpr (by omega)

section
variable {s : State} {n : Fin 4} {r : AxisRec} {x : AxisSt}

theorem exec_indexPoint_idle (h : s.axis? n = some (r, x)) (hl : ¬(s.functional = true ∧ r.encoder = true)) :
    exec (.indexPoint n) s = .next s := by
  rw [exec_indexPoint, execIndexPoint, h]
  refine if_pos ?_
  simpa [← Bool.not_and] using hl

theorem exec_indexPoint_live (h : s.axis? n = some (r, x)) (hf : s.functional = true) (he : r.encoder = true) :
    exec (.indexPoint n) s = .next (match (x.index r).2 with
      | none => s.setAxis n (x.index r).1
      | some false => (s.setAxis n (x.index r).1).bump HDL_AX_IDXCORR.COUNT n
      | some true => (s.setAxis n (x.index r).1).bump HDL_AX_IDXMIS.COUNT n) := by
  rw [exec_indexPoint, execIndexPoint, h]
  exact if_neg (by rw [hf, he]; decide)

/-- R493: an index point references an axis, or corrects its position. -/
theorem indexPoint_results (h : s.axis? n = some (r, x)) (hf : s.functional = true) (hen : r.encoder = true) :
    let e := indexError (x.pos - r.refPos) r.rev
    answers (.indexPoint n) s fun u => match u.axis? n with
      | none => False
      | some (_, y) =>
        (x.referenced = false → u.regs = s.regs ∧ y.referenced = true ∧ y.pos = r.refPos ∧ y.origin = r.refPos ∧
          y.p0 - y.pos = x.p0 - x.pos) ∧
        (x.referenced = true → y.pos = x.pos - e ∧ y.origin = y.pos ∧
          (2 < e.natAbs → y.suspended = true ∧ u.f HDL_AX_IDXCORR.COUNT n = s.f HDL_AX_IDXCORR.COUNT n ∧
            (2 ≤ ((x.events.take 15).filter id).length → y.faults.encoder = true)) ∧
          (e.natAbs ≤ 2 → y.faults = x.faults ∧ u.f HDL_AX_IDXMIS.COUNT n = s.f HDL_AX_IDXMIS.COUNT n ∧
            y.suspended = (x.suspended && decide (x.good = 0)))) := by
  intro e
  refine ⟨_, exec_indexPoint_live h hf hen, ?_⟩
  cases href : x.referenced with
  | false =>
    have hi : x.index r = ({ x.shift (r.refPos - x.pos) with
        referenced := true, origin := r.refPos, p0 := x.p0 + (r.refPos - x.pos), w := x.w + (r.refPos - x.pos) }, none) :=
      if_pos (by rw [href]; rfl)
    rw [hi, State.axis?_setAxis h]
    refine ⟨fun _ => ⟨rfl, rfl, ?_, rfl, ?_⟩, fun hr => Bool.noConfusion hr⟩
    · change x.pos + (r.refPos - x.pos) = _
      omega
    · change x.p0 + (r.refPos - x.pos) - (x.pos + (r.refPos - x.pos)) = _
      omega
  | true =>
    rw [AxisSt.index_later href]
    obtain ⟨hpos, horg⟩ := x.corrected_pos e
    by_cases hm : 2 < e.natAbs
    · obtain ⟨hsus, hthird⟩ := x.corrected_mismatch hm
      simp only [e] at hm
      simp only [decide_eq_true hm, State.axis?_bump, State.axis?_setAxis h]
      refine ⟨fun hr => Bool.noConfusion hr, fun _ => ⟨hpos, horg, fun _ => ⟨hsus, ?_, hthird⟩, fun hn => ?_⟩⟩
      · exact State.f_bump_apart _ (by decide) ..
      · exact absurd hn (Nat.not_le.mpr hm)
    · obtain ⟨hfl, hsus⟩ := x.corrected_match (Nat.not_lt.mp hm)
      simp only [e] at hm
      simp only [decide_eq_false hm, State.axis?_bump, State.axis?_setAxis h]
      refine ⟨fun hr => Bool.noConfusion hr, fun _ => ⟨hpos, horg, fun hn => absurd hn hm, fun _ => ⟨hfl, ?_, hsus⟩⟩⟩
      exact State.f_bump_apart _ (by decide) ..

end

/-! ### Samples (R495, R496) -/

theorem AxisSt.compare_keeps (x : AxisSt) (r : AxisRec) : (x.compare r).pos = x.pos ∧ (x.compare r).latched = x.latched ∧
    (x.compare r).state = x.state ∧ (x.compare r).demand = x.demand ∧ (x.compare r).bounds = x.bounds ∧
    (x.compare r).obs = x.obs := by
  unfold AxisSt.compare
  split <;> exact ⟨rfl, rfl, rfl, rfl, rfl, rfl⟩

theorem AxisSt.extreme_keeps (x : AxisSt) (p : Params) (n : Nat) : (x.extreme p n).pos = x.pos ∧
    (x.extreme p n).latched = x.latched ∧ (x.extreme p n).state = x.state ∧ (x.extreme p n).demand = x.demand ∧
    (x.extreme p n).bounds = x.bounds ∧ (x.extreme p n).obs = x.obs := by
  unfold AxisSt.extreme
  split <;> exact ⟨rfl, rfl, rfl, rfl, rfl, rfl⟩

/-- The observer after a sample of an axis whose count has been latched. -/
def AxisSt.observed (x : AxisSt) (r : AxisRec) (bits : SdBits) : Observer :=
  let o := x.obs.step r bits
  o.judge r (!r.encoder || ((fFrac o.vo).sub (x.encSpeed r)).abs.le (Frac.of r.xchk))

/-- The axis after a sample, before its speed is taken. -/
def AxisSt.judgedBy (x : AxisSt) (r : AxisRec) (p : Params) (n : Nat) (o : Observer) : AxisSt :=
  let a := ({ x with obs := o }.compare r).extreme p n
  if a.overran r then { a.indexEvent true with origin := a.pos } else a

theorem AxisSt.judgedBy_keeps (x : AxisSt) (r : AxisRec) (p : Params) (n : Nat) (o : Observer) :
    (x.judgedBy r p n o).pos = x.pos ∧ (x.judgedBy r p n o).latched = x.latched ∧ (x.judgedBy r p n o).state = x.state ∧
      (x.judgedBy r p n o).demand = x.demand ∧ (x.judgedBy r p n o).bounds = x.bounds ∧ (x.judgedBy r p n o).obs = o := by
  obtain ⟨a1, a2, a3, a4, a5, a6⟩ := ({ x with obs := o } : AxisSt).compare_keeps r
  obtain ⟨b1, b2, b3, b4, b5, b6⟩ := (({ x with obs := o } : AxisSt).compare r).extreme_keeps p n
  unfold AxisSt.judgedBy
  dsimp only
  split
  · obtain ⟨c1, c2, c3, c4, c5, c6⟩ := ((({ x with obs := o } : AxisSt).compare r).extreme p n).indexEvent_keeps true
    exact ⟨c1.trans (b1.trans a1), c2.trans (b2.trans a2), c3.trans (b3.trans a3), c4.trans (b4.trans a4),
      c5.trans (b5.trans a5), c6.trans (b6.trans a6)⟩
  · exact ⟨b1.trans a1, b2.trans a2, b3.trans a3, b4.trans a4, b5.trans a5, b6.trans a6⟩

/-- The speed that a sample takes from its source. -/
def AxisSt.takesSpeed (a : AxisSt) (r : AxisRec) : AxisSt :=
  match a.source r with
  | none => a
  | some (v, b) => { a with speed := v, bounds := (b :: a.bounds).take 16 }

theorem AxisSt.takesSpeed_keeps (a : AxisSt) (r : AxisRec) : (a.takesSpeed r).pos = a.pos ∧
    (a.takesSpeed r).latched = a.latched ∧ (a.takesSpeed r).state = a.state ∧ (a.takesSpeed r).demand = a.demand ∧
    (a.takesSpeed r).obs = a.obs ∧ (((a.takesSpeed r).source r).isNone = true → (a.takesSpeed r).bounds = a.bounds) := by
  unfold AxisSt.takesSpeed
  split
  next h => exact ⟨rfl, rfl, rfl, rfl, rfl, fun _ => rfl⟩
  next v b h =>
    refine ⟨rfl, rfl, rfl, rfl, rfl, fun hn => ?_⟩
    have hs : ({ a with speed := v, bounds := (b :: a.bounds).take 16 } : AxisSt).source r = a.source r := rfl
    rw [hs, h] at hn
    cases hn

/-- The counts of a sample. -/
def State.countsSample (s : State) (n : Nat) (overrun lost : Bool) : State :=
  let s := if overrun then s.bump HDL_AX_IDXMIS.COUNT n else s
  if lost then s.bump HDL_AX_OBSLOST.COUNT n else s

theorem State.countsSample_axis? (s : State) (n : Nat) (overrun lost : Bool) :
    (s.countsSample n overrun lost).axis? n = s.axis? n := by
  unfold State.countsSample
  cases overrun <;> cases lost <;> simp [State.axis?_bump]

theorem State.countsSample_kept (s : State) (n : Nat) (overrun : Bool) :
    (s.countsSample n overrun false).f HDL_AX_OBSLOST.COUNT n = s.f HDL_AX_OBSLOST.COUNT n := by
  unfold State.countsSample
  cases overrun with
  | false => rfl
  | true => exact State.f_bump_apart _ (by decide) ..

section
variable {s : State} {n : Fin 4} {r : AxisRec} {x : AxisSt}

theorem exec_observerSample_idle (h : s.axis? n = some (r, x)) (hf : s.functional = false) (bits : SdBits) :
    exec (.observerSample n bits) s = .next s := by
  obtain ⟨p, hp⟩ := State.params?_of_axis? h
  rw [exec_observerSample, execObserverSample, h, hp]
  exact if_pos (by rw [hf]; rfl)

theorem exec_observerSample_live (h : s.axis? n = some (r, x)) (hf : s.functional = true) (bits : SdBits) :
    ∃ p overrun, exec (.observerSample n bits) s =
      let y : AxisSt := { x with latched := (x.pos :: x.latched).take 17 }
      let o := y.observed r bits
      .next ((s.setAxis n ((y.judgedBy r p n o).takesSpeed r)).countsSample n overrun (o.lost && !x.obs.lost)) := by
  obtain ⟨p, hp⟩ := State.params?_of_axis? h
  refine ⟨p, ((({ x with latched := (x.pos :: x.latched).take 17, obs :=
    ({ x with latched := (x.pos :: x.latched).take 17 } : AxisSt).observed r bits } : AxisSt).compare r).extreme p n).overran r,
    ?_⟩
  rw [exec_observerSample, execObserverSample, h, hp]
  exact if_neg (by rw [hf]; decide)

/-- R492, R496: a sample latches the count, and counts an observer that is lost. -/
theorem observerSample_results (h : s.axis? n = some (r, x)) (hf : s.functional = true) (bits : SdBits) :
    answers (.observerSample n bits) s fun u => match u.axis? n with
      | none => False
      | some (_, y) => y.latched = (x.pos :: x.latched).take 17 ∧ y.pos = x.pos ∧ y.state = x.state ∧ y.demand = x.demand ∧
        ((y.source r).isNone = true → y.bounds = x.bounds) ∧
        (y.obs.lost = false ∨ x.obs.lost = true → u.f HDL_AX_OBSLOST.COUNT n = s.f HDL_AX_OBSLOST.COUNT n) := by
  obtain ⟨p, overrun, he⟩ := exec_observerSample_live h hf bits
  refine ⟨_, he, ?_⟩
  generalize hy : ({ x with latched := (x.pos :: x.latched).take 17 } : AxisSt) = y
  generalize y.observed r bits = o
  obtain ⟨a1, a2, a3, a4, a5, a6⟩ := y.judgedBy_keeps r p n o
  obtain ⟨b1, b2, b3, b4, b5, b6⟩ := (y.judgedBy r p n o).takesSpeed_keeps r
  rw [State.countsSample_axis?, State.axis?_setAxis h]
  dsimp only
  rw [b2, a2, b1, a1, b3, a3, b4, a4, b5, a6]
  refine ⟨by rw [← hy], by rw [← hy], by rw [← hy], by rw [← hy], fun hn => ?_, fun hl => ?_⟩
  · rw [b6 hn, a5, ← hy]
  · have : (o.lost && !x.obs.lost) = false := by rcases hl with hl | hl <;> simp [hl]
    rw [this, State.countsSample_kept]
    rfl

end

/-- R496: lost at the eighth implausible sample in a row, regained after 160 plausible ones. -/
theorem Observer.judge_lost (o : Observer) (r : AxisRec) (close : Bool) :
    (o.isPlausible r = false → (o.judge r close).lost = (o.lost || decide (7 ≤ o.implausible))) ∧
      (o.isPlausible r = true → (o.judge r close).lost = (o.lost && (!close || decide (o.plausible < 159)))) := by
  unfold Observer.judge
  refine ⟨fun h => ?_, fun h => ?_⟩
  · rw [if_neg (by rw [h]; decide)]
    change (o.lost || decide (8 ≤ o.implausible + 1)) = _
    congr 1
    exact decide_eq_decide.mpr (by omega)
  · rw [if_pos h]
    change (o.lost && decide ((if o.lost && !close then 0 else o.plausible + 1) < 160)) = _
    cases o.lost <;> cases close <;> simp <;> omega

/-- Settles O54: an edge by which levels changed, an index point by whether the axis was referenced, a sample part by
part. -/
theorem motionCountingResults : Obligations.MotionCountingResults := by
  refine ⟨fun s n a b => ?_, fun d lines h => indexError_spec d h, fun s n bits => ?_, Observer.judge_lost⟩
  · cases h : s.axis? n with
    | none =>
      refine ⟨?_, ?_⟩
      · rw [exec_encoderEdge, execEncoderEdge, h]
      · rw [exec_indexPoint, execIndexPoint, h]
    | some c =>
      obtain ⟨r, x⟩ := c
      refine ⟨fun hl => ⟨exec_encoderEdge_idle h hl a b, exec_indexPoint_idle h hl⟩, fun ⟨hf, he⟩ => ?_⟩
      have hedge := exec_encoderEdge_live h hf he a b
      refine ⟨fun hm => hedge.trans ?_, fun hm => hedge.trans ?_, fun ha hb => hedge.trans (if_pos ⟨ha, hb⟩),
        fun ha hb => hedge.trans ?_, indexPoint_results h hf he⟩
      · simp only [List.mem_cons, Prod.mk.injEq, List.not_mem_nil, or_false] at hm
        rcases hm with ⟨h1, h2, rfl, rfl⟩ | ⟨h1, h2, rfl, rfl⟩ | ⟨h1, h2, rfl, rfl⟩ | ⟨h1, h2, rfl, rfl⟩ <;>
          cases r.invert <;> simp [h1, h2]
      · simp only [List.mem_cons, Prod.mk.injEq, List.not_mem_nil, or_false] at hm
        rcases hm with ⟨h1, h2, rfl, rfl⟩ | ⟨h1, h2, rfl, rfl⟩ | ⟨h1, h2, rfl, rfl⟩ | ⟨h1, h2, rfl, rfl⟩ <;>
          cases r.invert <;> simp [h1, h2, Int.sub_eq_add_neg]
      · rw [if_neg fun hn => hn.1 ha, if_neg fun hn => hn.elim (· ha) (· hb)]
  · cases h : s.axis? n with
    | none => rw [exec_observerSample, execObserverSample, h]
    | some c =>
      obtain ⟨r, x⟩ := c
      exact ⟨fun hf => exec_observerSample_idle h hf bits, fun hf => observerSample_results h hf bits⟩

end Sys2Proof.Machine
end
section
/-! PROOF. The stops of an axis at a cycle start and when their times are over (R499 to R505, R509). -/

namespace Sys2Proof.Machine

/-! ### Stops -/

theorem min?_of_zero_mem {l : List Nat} (h : 0 ∈ l) : l.min? = some 0 :=
  List.min?_eq_some_iff.mpr ⟨h, fun b _ => Nat.zero_le b⟩

section
variable (a : AxisSt) (t : Nat)

theorem AxisSt.torqueOff_keeps : (a.torqueOff t).state = 4 ∧ (a.torqueOff t).faults = a.faults := by
  unfold AxisSt.torqueOff
  split
  next h => exact ⟨h, rfl⟩
  next => exact ⟨rfl, rfl⟩

theorem AxisSt.torqueOff_state : (a.torqueOff t).state = 4 := (a.torqueOff_keeps t).1

theorem AxisSt.trip_state (f : AxisFaults → AxisFaults) : (a.trip t f).state = 4 := a.torqueOff_state t

/-- STO acts in every state. -/
theorem AxisSt.act_sto {a : AxisSt} (h : a.demand = some 0) : a.act t = a.torqueOff t := by
  simp only [AxisSt.act, h]

theorem AxisSt.act_none {a : AxisSt} (h : a.demand = none) : a.act t = a := by
  unfold AxisSt.act
  rw [h]

/-- In BLIND only STO acts. -/
theorem AxisSt.act_blind {a : AxisSt} (h : a.state = 3) : (a.act t).state = 3 ∨ (a.act t).state = 4 := by
  unfold AxisSt.act
  split
  · exact .inl h
  · exact .inr (a.torqueOff_state t)
  · rw [if_pos (by simp [h])]
    exact .inl h
  · rw [if_neg (by omega)]
    exact .inl h
  · rw [if_neg (by omega)]
    exact .inl h

/-- An SS1 ramp yields to STO alone. -/
theorem AxisSt.act_ss1 {a : AxisSt} {m : RampSt} (h : a.state = 1) (hm : a.ramp = some m) (h1 : m.ss2 = false) :
    (a.act t).state = 4 ∨ ((a.act t).state = 1 ∧ (a.act t).ramp = some m) := by
  unfold AxisSt.act
  split
  · exact .inr ⟨h, hm⟩
  · exact .inl (a.torqueOff_state t)
  · rw [if_pos (by simp [h, hm, h1])]
    exact .inr ⟨h, hm⟩
  · rw [if_neg (by omega)]
    exact .inr ⟨h, hm⟩
  · rw [if_neg (by omega)]
    exact .inr ⟨h, hm⟩

end

/-! ### The stages of a cycle start -/

/-- Health, the comparison of the sources, and the faults that clear without torque. -/
def AxisSt.prepared (a : AxisSt) (r : AxisRec) (encf : Bool) (t : Nat) : AxisSt :=
  ((a.encoderHealth r encf).sourceCheck).clearOff t

/-- The limit functions: a violated limit latches its REACT. -/
def AxisSt.limited (a : AxisSt) (p : Params) (n t : Nat) : AxisSt :=
  match if a.state = 0 || a.state = 1 then a.violated p n t else none with
  | none => a
  | some react =>
    { a with faults := { a.faults with limit := some (min react (a.faults.limit.getD react)) }, faulted := true }

/-- What an axis does by its state, once the demand is known. -/
def AxisSt.moved (a : AxisSt) (r : AxisRec) (c : AxisCtx) : AxisSt × Bool :=
  if a.state = 4 then (a.offCycle r c, false)
  else if a.state = 3 then (a.act c.t, false)
  else if (a.source r).isNone then ((a.goBlind c.t).act c.t, false)
  else if a.state = 2 then a.sosCycle r c
  else
    match a.ramp with
    | some m => if a.state = 1 then a.rampCycle r m c.t else (a.act c.t, false)
    | none => (a.act c.t, false)

theorem AxisSt.cycle_active {c : AxisCtx} (h : c.active = true) (x : AxisSt) (r : AxisRec) (p : Params) (n : Nat) (encf : Bool) :
    (x.cycle r p n encf c).1 =
      (((((x.prepared r encf c.t).limited p n c.t).resolve r c.demands).moved r c).1).ssmCycle r := by
  unfold AxisSt.cycle
  rw [h]
  rfl

theorem AxisSt.cycle_inactive {c : AxisCtx} (h : c.active = false) (x : AxisSt) (r : AxisRec) (p : Params) (n : Nat)
    (encf : Bool) : ((x.cycle r p n encf c).1).state = 4 := by
  unfold AxisSt.cycle
  rw [h]
  exact (x.prepared r encf c.t).torqueOff_state c.t

section
variable (x : AxisSt) (r : AxisRec)

/-- What the stages before the limits leave. -/
def AxisSt.SameMotion (a x : AxisSt) : Prop :=
  a.state = x.state ∧ a.ramp = x.ramp ∧ a.sls = x.sls ∧ a.slsFrom = x.slsFrom ∧ a.bounds = x.bounds ∧
    (x.faulted = true → a.faulted = true)

theorem AxisSt.encoderHealth_same (encf : Bool) : (x.encoderHealth r encf).SameMotion x := by
  unfold AxisSt.encoderHealth AxisSt.SameMotion
  split
  · exact ⟨rfl, rfl, rfl, rfl, rfl, id⟩
  · dsimp only
    generalize (if (decide (x.illegal = 0) && encf) = true then x.clean + 1 else 0) = k
    split <;> exact ⟨rfl, rfl, rfl, rfl, rfl, fun h => by simp [h]⟩

theorem AxisSt.sourceCheck_same : x.sourceCheck.SameMotion x :=
  ⟨rfl, rfl, rfl, rfl, rfl, fun h => by simp [AxisSt.sourceCheck, h]⟩

theorem AxisSt.clearOff_same (t : Nat) : (x.clearOff t).SameMotion x := by
  unfold AxisSt.clearOff AxisSt.SameMotion
  split <;> exact ⟨rfl, rfl, rfl, rfl, rfl, id⟩

theorem AxisSt.SameMotion.trans {a b x : AxisSt} (h : a.SameMotion b) (h' : b.SameMotion x) : a.SameMotion x := by
  obtain ⟨h1, h2, h3, h4, h5, h6⟩ := h
  obtain ⟨g1, g2, g3, g4, g5, g6⟩ := h'
  exact ⟨h1.trans g1, h2.trans g2, h3.trans g3, h4.trans g4, h5.trans g5, h6 ∘ g6⟩

theorem AxisSt.prepared_same (encf : Bool) (t : Nat) : (x.prepared r encf t).SameMotion x :=
  (AxisSt.clearOff_same _ t).trans ((AxisSt.sourceCheck_same _).trans (x.encoderHealth_same r encf))

theorem AxisSt.limited_keeps (p : Params) (n t : Nat) : (x.limited p n t).state = x.state ∧ (x.limited p n t).ramp = x.ramp ∧
    (x.state = 4 → x.limited p n t = x) := by
  unfold AxisSt.limited
  refine ⟨?_, ?_, fun h => ?_⟩
  · split <;> rfl
  · split <;> rfl
  · rw [h]
    rfl

/-- A violated speed limit whose REACT is STO is latched. -/
theorem AxisSt.limited_sls {x : AxisSt} {p : Params} {n t lim ramp : Nat} {l : LimitRec} (h0 : x.state = 0)
    (hf : x.slsFrom = none) (hk : p.kind? n 1 x.sls = some (.sls lim ramp)) (hl : (x.sls.bind fun i => p.limit? n 1 i) = some l)
    (hr : l.react = 0) (hu : x.u.le (Frac.of lim) = false) : (x.limited p n t).faults.limit = some 0 := by
  have hlim : x.slsLimit p n t = some (Frac.of lim) := by
    unfold AxisSt.slsLimit
    rw [hk, hf]
  have hv : x.violated p n t = some 0 := by
    refine min?_of_zero_mem ?_
    rw [hlim]
    dsimp only
    rw [hl]
    simp [hu, hr]
  unfold AxisSt.limited
  rw [h0]
  simp [hv]

end

/-! ### The demand -/

section
variable (a : AxisSt) (r : AxisRec) (ext : List Nat)

theorem AxisSt.resolve_sto {a : AxisSt} {r : AxisRec} {ext : List Nat} (h : 0 ∈ ext ++ a.faults.stops r) :
    (a.resolve r ext).demand = some 0 := by
  unfold AxisSt.resolve
  dsimp only
  rw [min?_of_zero_mem h]
  exact congrArg some (Nat.zero_min _)

theorem AxisSt.resolve_none {a : AxisSt} {r : AxisRec} {ext : List Nat} (h : (a.resolve r ext).demand = none) : ext = [] := by
  unfold AxisSt.resolve at h
  dsimp only at h
  cases hm : (ext ++ a.faults.stops r).min? with
  | none => exact (List.append_eq_nil_iff.mp (List.min?_eq_none_iff.mp hm)).1
  | some m =>
    rw [hm] at h
    cases h

end

/-! ### What an axis does by its state -/

section
variable {a : AxisSt} {r : AxisRec} {c : AxisCtx}

theorem AxisSt.offCycle_state (h : a.state = 4) : (a.offCycle r c).state = 4 ∨ (a.offCycle r c).state = 0 := by
  unfold AxisSt.offCycle
  dsimp only
  split
  · exact .inr rfl
  · exact .inl h

/-- R505: what a restart needs. -/
theorem AxisSt.offCycle_restarts (h : a.state = 4) (h0 : (a.offCycle r c).state = 0) : c.runs = true ∧ a.demand = none ∧
    (a.offCycle r c).faulted = false ∧ (c.edge = true ∨ (r.restart = false ∧ a.faulted = false)) := by
  unfold AxisSt.offCycle at h0 ⊢
  dsimp only at h0 ⊢
  split at h0
  next hc =>
    rw [if_pos hc]
    simp only [Bool.and_eq_true, Bool.or_eq_true, Bool.not_eq_true', Option.isNone_iff_eq_none, Bool.or_eq_false_iff] at hc
    obtain ⟨⟨⟨hruns, hd⟩, -⟩, hn⟩ := hc
    exact ⟨hruns, hd, rfl, hn.symm⟩
  next => exact absurd (h.symm.trans h0) (by decide)

theorem AxisSt.sosCycle_sto (h : a.demand = some 0) : (a.sosCycle r c).1.state = 4 := by
  unfold AxisSt.sosCycle
  dsimp only
  split
  · exact a.trip_state _ _
  · split
    · exact a.torqueOff_state _
    · have hact : ∀ b : AxisSt, b.demand = some 0 →
          (if (b.demand.isNone && !b.faults.any) = true then (({ b with state := 0, dstpAt := none } : AxisSt), false)
            else (b.act c.t, false)).1.state = 4 := fun b hb => by
        rw [if_neg (by simp [hb])]
        change (b.act c.t).state = 4
        rw [AxisSt.act_sto _ hb]
        exact b.torqueOff_state _
      apply hact
      split <;> exact h

theorem AxisSt.rampCycle_sto (h : a.demand = some 0) (m : RampSt) : (a.rampCycle r m c.t).1.state = 4 := by
  unfold AxisSt.rampCycle
  split
  · exact a.trip_state _ _
  · rw [if_pos (by simp [h])]
    change (a.act c.t).state = 4
    rw [AxisSt.act_sto _ h]
    exact a.torqueOff_state _

/-- R501: a demanded STO takes the torque, in every state. -/
theorem AxisSt.moved_sto (h : a.demand = some 0) : (a.moved r c).1.state = 4 := by
  have hact : (a.act c.t).state = 4 := by
    rw [AxisSt.act_sto _ h]
    exact a.torqueOff_state _
  unfold AxisSt.moved
  split
  next h4 =>
    change (a.offCycle r c).state = 4
    refine (AxisSt.offCycle_state h4).resolve_right fun h0 => ?_
    exact absurd (h.symm.trans (AxisSt.offCycle_restarts h4 h0).2.1) (Option.some_ne_none 0)
  · split
    · exact hact
    · split
      · change ((a.goBlind c.t).act c.t).state = 4
        rw [AxisSt.act_sto _ (show (a.goBlind c.t).demand = some 0 from h)]
        exact AxisSt.torqueOff_state _ _
      · split
        · exact AxisSt.sosCycle_sto h
        · split
          · split
            · exact AxisSt.rampCycle_sto h _
            · exact hact
          · exact hact

/-- From RUN, STO keeps the faults that are latched. -/
theorem AxisSt.moved_sto_limit (h : a.demand = some 0) (h0 : a.state = 0) : (a.moved r c).1.faults.limit = a.faults.limit := by
  have hact : (a.act c.t).faults.limit = a.faults.limit := by
    rw [AxisSt.act_sto _ h, (a.torqueOff_keeps _).2]
  unfold AxisSt.moved
  rw [if_neg (by omega), if_neg (by omega)]
  split
  · change ((a.goBlind c.t).act c.t).faults.limit = _
    rw [AxisSt.act_sto _ (show (a.goBlind c.t).demand = some 0 from h), (AxisSt.torqueOff_keeps _ _).2]
    rfl
  · rw [if_neg (by omega)]
    split
    · rw [if_neg (by omega)]
      exact hact
    · exact hact

/-- R501, R502: an SS1 ramp goes on, becomes blind or reaches TORQUE_OFF. -/
theorem AxisSt.moved_ss1 {m : RampSt} (h : a.state = 1) (hm : a.ramp = some m) (h1 : m.ss2 = false) :
    (a.moved r c).1.state = 3 ∨ (a.moved r c).1.state = 4 ∨ ((a.moved r c).1.state = 1 ∧ (a.moved r c).1.ramp = some m) := by
  unfold AxisSt.moved
  rw [if_neg (by omega), if_neg (by omega)]
  split
  · exact (AxisSt.act_blind c.t (show (a.goBlind c.t).state = 3 from rfl)).imp id .inl
  · rw [if_neg (by omega), hm]
    simp only
    unfold AxisSt.rampCycle
    split
    · exact .inr (.inl (a.trip_state _ _))
    · split
      · exact .inr (AxisSt.act_ss1 _ h hm h1)
      · split
        · rw [h1]
          exact .inr (.inl (a.torqueOff_state _))
        · exact .inr (AxisSt.act_ss1 _ h hm h1)

end

/-- The whole cycle start of an axis. -/
theorem AxisSt.cycle_results (x : AxisSt) (r : AxisRec) (p : Params) (k : Nat) (encf : Bool) (c : AxisCtx) :
    let y := (x.cycle r p k encf c).1
    (c.active = false → y.state = 4) ∧
    (c.active = true → 0 ∈ c.demands → y.state = 4) ∧
    (c.active = true → x.state = 0 → x.slsFrom = none → match p.kind? k 1 x.sls, x.sls.bind fun i => p.limit? k 1 i with
      | some (.sls lim _), some l => l.react = 0 → x.u.le (Frac.of lim) = false → y.state = 4 ∧ y.faults.limit = some 0
      | _, _ => True) ∧
    (x.state = 1 → match x.ramp with
      | some m => m.ss2 = false → y.state = 3 ∨ y.state = 4 ∨ (y.state = 1 ∧ y.ramp = some m)
      | none => True) ∧
    (x.state = 4 → y.state = 4 ∨ y.state = 0) ∧
    (x.state = 4 → y.state = 0 → c.active = true ∧ c.runs = true ∧ c.demands = [] ∧ y.faulted = false ∧
      (c.edge = true ∨ (r.restart = false ∧ x.faulted = false))) := by
  obtain ⟨hs, hr, hsls, hfrom, hb, hfaulted⟩ := x.prepared_same r encf c.t
  obtain ⟨hls, hlr, hl4⟩ := (x.prepared r encf c.t).limited_keeps p k c.t
  cases hact : c.active with
  | false =>
    have h4 := AxisSt.cycle_inactive hact x r p k encf
    refine ⟨fun _ => h4, fun h => Bool.noConfusion h, fun h => Bool.noConfusion h, fun _ => ?_, fun _ => .inl h4,
      fun _ h0 => absurd (h4.symm.trans h0) (by decide)⟩
    split
    · exact fun _ => .inr (.inl h4)
    · exact trivial
  | true =>
    simp only [AxisSt.cycle_active hact]
    generalize ha : (x.prepared r encf c.t).limited p k c.t = a at hls hlr hl4
    refine ⟨fun h => Bool.noConfusion h, fun _ h => ?_, fun _ h0 hf => ?_, fun h1 => ?_, fun h4 => ?_, fun h4 h0 => ?_⟩
    · exact AxisSt.moved_sto (AxisSt.resolve_sto (List.mem_append_left _ h))
    · split
      next lim ramp l hk hl =>
        intro hreact hu
        have hlim : a.faults.limit = some 0 := by
          rw [← ha]
          refine AxisSt.limited_sls (hs.trans h0) (hfrom.trans hf) (by rw [hsls]; exact hk) (by rw [hsls]; exact hl) hreact ?_
          unfold AxisSt.u at hu ⊢
          rw [hb]
          exact hu
        have hsto : (a.resolve r c.demands).demand = some 0 := AxisSt.resolve_sto (by simp [AxisFaults.stops, hlim])
        exact ⟨AxisSt.moved_sto hsto, (AxisSt.moved_sto_limit hsto (hls.trans (hs.trans h0))).trans hlim⟩
      · exact trivial
    · split
      next m hm =>
        exact fun hss => AxisSt.moved_ss1 (hls.trans (hs.trans h1)) (hlr.trans (hr.trans hm)) hss
      · exact trivial
    · have h : (a.resolve r c.demands).state = 4 := hls.trans (hs.trans h4)
      unfold AxisSt.moved
      rw [if_pos h]
      exact AxisSt.offCycle_state h
    · have h : (a.resolve r c.demands).state = 4 := hls.trans (hs.trans h4)
      unfold AxisSt.moved at h0 ⊢
      rw [if_pos h] at h0 ⊢
      obtain ⟨hruns, hd, hfa, hedge⟩ := AxisSt.offCycle_restarts h h0
      refine ⟨trivial, hruns, AxisSt.resolve_none hd, hfa, hedge.imp id fun hn => ⟨hn.1, ?_⟩⟩
      have hn2 : a.faulted = false := hn.2
      rw [hl4 (hs.trans h4)] at hn2
      exact Bool.eq_false_iff.mpr fun hx => Bool.noConfusion (hn2.symm.trans (hfaulted hx))

/-! ### An axis replaced and shown -/

section
variable {s : State} {n : Fin 4} {r : AxisRec} {x : AxisSt}

theorem State.showAxis_isl (s : State) (n : Nat) (r : AxisRec) (a : AxisSt) : (s.showAxis n r a).isl = s.isl := by
  simp only [State.showAxis, State.setF_isl, State.setOn_isl]

/-- An axis that is put reads as it was put, but for its DSTPn, which the output step sets. -/
theorem State.putAxis_axis? (h : s.axis? n = some (r, x)) (y : AxisSt) : (s.putAxis n r y).axis? n =
    some (r, y.shows (s.auth && !s.isl.hwOff && (s.hs = hsOperational || s.hs = hsFault))) := by
  refine State.axis?_of_axes h rfl ?_
  have hface : ((s.setAxis n y).showAxis n r y).face = s.face := by rw [State.showAxis_face]; simp [State.setAxis, State.face]
  have hauth : ((s.setAxis n y).showAxis n r y).auth = s.auth := by rw [← State.face_auth, hface, State.face_auth]
  have hhs : ((s.setAxis n y).showAxis n r y).hs = s.hs := by rw [← State.face_hs, hface, State.face_hs]
  have hself : find n.val (put n.val y s.isl.axes) = some y := find_put_self ..
  unfold State.putAxis findD
  rw [State.driveAxes_axis, hauth, hhs, State.showAxis_isl]
  simp only [State.setAxis, State.mapIsl_isl, hself, Option.map_some]
  rfl

/-- Its enable channels are off where it is in TORQUE_OFF (R500). -/
theorem State.putAxis_chans {y : AxisSt} (h4 : y.state = 4) :
    ∀ g ∈ (s.putAxis n r y).isl.chans, g.1 = 8 + 2 * n.val ∨ g.1 = 9 + 2 * n.val → g.2.cmd = false := by
  intro g hg hk
  unfold State.putAxis State.driveAxes at hg
  dsimp only [State.mapIsl_isl] at hg
  obtain ⟨q, -, rfl⟩ := List.mem_map.mp hg
  have hq : ¬q.1 < 8 := by
    split at hk <;> omega
  rw [if_neg hq] at hk ⊢
  have hn : (q.1 - 8) / 2 = n.val := by
    dsimp only at hk
    omega
  rw [ChanSt.drives_cmd, hn, State.showAxis_isl]
  have hst : (findD {} n.val (s.setAxis n.val y).isl.axes).state = 4 := by
    simp only [State.setAxis, State.mapIsl_isl, findD_put_self]
    exact h4
  simp [hst]

/-- The torque of an axis that is put off at once. -/
def State.OffNow (s u : State) (n : Fin 4) (z : AxisSt) : Prop :=
  z.state = 4 ∧ z.dstp = (s.auth && !s.isl.hwOff && (s.hs = hsOperational || s.hs = hsFault)) ∧
    ∀ g ∈ u.isl.chans, g.1 = 8 + 2 * n.val ∨ g.1 = 9 + 2 * n.val → g.2.cmd = false

theorem State.putAxis_off (h : s.axis? n = some (r, x)) {y : AxisSt} (h4 : y.state = 4) :
    s.OffNow (s.putAxis n r y) n (y.shows (s.auth && !s.isl.hwOff && (s.hs = hsOperational || s.hs = hsFault))) := by
  refine ⟨h4, ?_, State.putAxis_chans h4⟩
  simp [AxisSt.shows, h4]

theorem State.putAxis_trips (y : AxisSt) : (s.putAxis n r y).f HDL_AX_TRIP.COUNT n = s.f HDL_AX_TRIP.COUNT n := by
  unfold State.putAxis State.driveAxes
  rw [State.f_mapIsl]
  unfold State.showAxis
  simp (disch := decide) only [State.f_setF_apart, State.f_setOn_apart]
  rfl

/-! ### Times that are over -/

theorem exec_tBlind_at (h : s.axis? n = some (r, x)) {d : Nat} (hd : x.dstpAt = some d) : exec (.tBlind n) s =
    if x.state = 3 ∧ d + ms r.tBlind ≤ s.cycleTime then .next (s.putAxis n r (x.torqueOff s.cycleTime)) else .next s := by
  rw [exec_tBlind, execTBlind, h]
  simp only [hd, Bool.and_eq_true, decide_eq_true_eq]

theorem exec_dackTimeout_at (h : s.axis? n = some (r, x)) {d : Nat} (hd : x.dstpAt = some d) : exec (.dackTimeout n) s =
    if x.state = 3 ∧ x.acked = false ∧ d + ms 2 ≤ s.cycleTime then .next (s.putAxis n r (x.torqueOff s.cycleTime))
    else .next s := by
  rw [exec_dackTimeout, execDackTimeout, h]
  simp only [hd, Bool.and_eq_true, decide_eq_true_eq, Bool.not_eq_true', and_assoc]

theorem exec_tSs_at (h : s.axis? n = some (r, x)) {m : RampSt} (hm : x.ramp = some m) : exec (.tSs n) s =
    if x.state ≠ 1 ∨ s.cycleTime < m.at' + ms r.tSs then .next s
    else if m.ss2 = false then .next (s.putAxis n r (x.torqueOff s.cycleTime))
    else if x.still r = true then .next (s.putAxis n r (x.startSos s.cycleTime))
    else .next ((s.putAxis n r (x.trip s.cycleTime fun f => { f with ramp := true })).bump HDL_AX_TRIP.COUNT n) := by
  rw [exec_tSs, execTSs, h]
  simp only [hm, Bool.or_eq_true, decide_eq_true_eq, Bool.not_eq_true']

end

/-- What a time that is over leaves of its axis. -/
def State.AxisEnds (u : State) (n : Fin 4) (P : AxisSt → Prop) : Prop :=
  match u.axis? n with
  | some (_, z) => P z
  | none => False

theorem State.axisEnds_of {u : State} {n : Fin 4} {r : AxisRec} {z : AxisSt} {P : AxisSt → Prop}
    (h : u.axis? n = some (r, z)) (hp : P z) : u.AxisEnds n P := by
  unfold State.AxisEnds
  rw [h]
  exact hp

/-- A ramp whose time is over without standstill: the torque is off, and the trip is counted. -/
theorem State.trip_ends {s : State} {n : Fin 4} {r : AxisRec} {x y : AxisSt} (h : s.axis? n = some (r, x)) (h4 : y.state = 4)
    (hr : y.faults.ramp = true) (hf : y.faulted = true) : ∃ u, (s.putAxis n r y).bump HDL_AX_TRIP.COUNT n = u ∧
      u.AxisEnds n fun z => s.OffNow u n z ∧ z.faults.ramp = true ∧ z.faulted = true ∧
        u.f HDL_AX_TRIP.COUNT n = (let q := s.f HDL_AX_TRIP.COUNT n;
          if q + 1 < 2 ^ HDL_AX_TRIP.COUNT.width then q + 1 else q) := by
  obtain ⟨ho4, hod, hoc⟩ := State.putAxis_off h h4
  have haxis := State.putAxis_axis? h y
  have htrips := State.putAxis_trips (s := s) (n := n) (r := r) y
  generalize s.putAxis n r y = v at haxis htrips hoc ⊢
  refine ⟨_, rfl, State.axisEnds_of ((State.axis?_bump ..).trans haxis) ⟨⟨ho4, hod, ?_⟩, hr, hf, ?_⟩⟩
  · rw [State.bump_isl]
    exact hoc
  · have hw : HDL_AX_TRIP.COUNT.width = 32 := rfl
    rw [State.f_bump_self (w := 32) _ rfl, htrips, hw]
    dsimp only
    split <;> omega

/-- Settles O55: a cycle start by the state of the axis and the demand that it resolves; a time that is over by the axis
that is put. -/
theorem stopAndLimitResults : Obligations.StopAndLimitResults := by
  refine ⟨AxisSt.cycle_results, fun s n => ?_⟩
  cases h : s.axis? n with
  | none =>
    refine ⟨?_, ?_, ?_⟩
    · rw [exec_tBlind, execTBlind, h]
    · rw [exec_dackTimeout, execDackTimeout, h]
    · rw [exec_tSs, execTSs, h]
  | some c =>
    obtain ⟨r, x⟩ := c
    have hoff : State.AxisEnds (s.putAxis n r (x.torqueOff s.cycleTime)) n fun z =>
        s.OffNow (s.putAxis n r (x.torqueOff s.cycleTime)) n z ∧ z.faults = x.faults :=
      State.axisEnds_of (State.putAxis_axis? h _) ⟨State.putAxis_off h (x.torqueOff_state _), (x.torqueOff_keeps _).2⟩
    have hoff' : State.AxisEnds (s.putAxis n r (x.torqueOff s.cycleTime)) n
        (s.OffNow (s.putAxis n r (x.torqueOff s.cycleTime)) n) :=
      State.axisEnds_of (State.putAxis_axis? h _) (State.putAxis_off h (x.torqueOff_state _))
    refine ⟨?blind, ?ramp⟩
    case blind =>
      cases hd : x.dstpAt with
      | none =>
        refine ⟨?_, ?_⟩
        · rw [exec_tBlind, execTBlind, h]
          simp only [hd]
        · rw [exec_dackTimeout, execDackTimeout, h]
          simp only [hd]
      | some d =>
        have hb := exec_tBlind_at h hd
        have ha := exec_dackTimeout_at h hd
        refine ⟨fun hn => hb.trans (if_neg fun hc => ?_), fun h3 ht => ⟨_, hb.trans (if_pos ⟨h3, ht⟩), hoff'⟩,
          fun hn => ha.trans (if_neg fun hc => ?_), fun h3 hk ht => ⟨_, ha.trans (if_pos ⟨h3, hk, ht⟩), hoff'⟩⟩
        · exact hn.elim (· hc.1) fun hlt => absurd hc.2 (Nat.not_le.mpr hlt)
        · obtain ⟨h3, hk, ht⟩ := hc
          exact hn.elim (· h3) fun hn => hn.elim (fun hy => Bool.noConfusion (hk.symm.trans hy))
            fun hlt => absurd ht (Nat.not_le.mpr hlt)
    case ramp =>
      cases hm : x.ramp with
      | none =>
        rw [exec_tSs, execTSs, h]
        simp only [hm]
      | some m =>
        have hs := exec_tSs_at h hm
        refine ⟨fun hn => hs.trans (if_pos hn), fun h1 ht => ?_⟩
        have hn : ¬(x.state ≠ 1 ∨ s.cycleTime < m.at' + ms r.tSs) := by
          rintro (hn | hn)
          · exact hn h1
          · exact absurd ht (Nat.not_le.mpr hn)
        rw [if_neg hn] at hs
        refine ⟨fun hss => ⟨_, hs.trans (if_pos hss), hoff⟩, fun hss hst => ?_, fun hss hst => ?_⟩
        · rw [if_neg (by simp [hss]), if_pos hst] at hs
          exact ⟨_, hs, State.axisEnds_of (State.putAxis_axis? h _) ⟨rfl, rfl, rfl⟩⟩
        · rw [if_neg (by simp [hss]), if_neg (by simp [hst])] at hs
          obtain ⟨u, hu, hends⟩ := State.trip_ends h (x.trip_state s.cycleTime fun f => { f with ramp := true }) rfl rfl
          rw [hu] at hs
          exact ⟨u, hs, hends⟩

end Sys2Proof.Machine
end

section
/-! PROOF. Safe inputs and outputs: sampling, test pulses, switching and the readback (R472 to R481). -/

namespace Sys2Proof.Machine

/-! ### A register of one bit an input -/

/-- The bits of the numbers below `k` that a test admits. -/
def bitsBelow (f : Nat → Bool) (k : Nat) : Nat := ((List.range k).map fun n => if f n then 2 ^ n else 0).sum

theorem bitsBelow_succ (f : Nat → Bool) (k : Nat) : bitsBelow f (k + 1) = bitsBelow f k + if f k then 2 ^ k else 0 := by
  rw [bitsBelow, List.range_succ, List.map_append, List.sum_append, List.map_singleton, List.sum_singleton]
  rfl

theorem bitsBelow_lt (f : Nat → Bool) (k : Nat) : bitsBelow f k < 2 ^ k := by
  induction k with
  | zero => exact Nat.one_pos
  | succ k ih =>
    rw [bitsBelow_succ, Nat.pow_succ]
    split <;> omega

theorem testBit_bitsBelow (f : Nat → Bool) {k n : Nat} (h : n < k) : (bitsBelow f k).testBit n = f n := by
  induction k with
  | zero => omega
  | succ k ih =>
    have hlt := bitsBelow_lt f k
    rw [bitsBelow_succ]
    obtain hn | rfl := Nat.lt_succ_iff_lt_or_eq.mp h
    · rw [← ih hn]
      split
      · rw [Nat.add_comm, Nat.testBit_two_pow_add_gt hn]
      · rw [Nat.add_zero]
    · split
      next hf => rw [Nat.add_comm, Nat.testBit_two_pow_add_eq, Nat.testBit_lt_two_pow hlt, hf, Bool.not_false]
      next hf => rw [Nat.add_zero, Nat.testBit_lt_two_pow hlt, Bool.eq_false_iff.mpr hf]

theorem State.showInputs_isl (s : State) : s.showInputs.isl = s.isl := by
  unfold State.showInputs
  simp only [State.setF_isl]

/-- Each input's state as its bit shows it. -/
theorem State.bitF_showInputs_on (s : State) {n : Nat} (h : n < 8) :
    s.showInputs.bitF HDL_SI_STATE.ON 0 n = (findD {} n s.isl.inputs).on := by
  have hf : s.showInputs.f HDL_SI_STATE.ON 0 = bitsBelow (fun n => (findD {} n s.isl.inputs).on) 8 := by
    unfold State.showInputs
    dsimp only
    rw [State.f_setF_apart _ (by decide), State.f_setF_apart _ (by decide), State.f_setF_apart _ (by decide),
      State.f_setF_self]
    exact Nat.mod_eq_of_lt (bitsBelow_lt _ 8)
  rw [State.bitF, hf, testBit_bitsBelow _ h]

theorem State.bitF_showInputs_fault (s : State) {n : Nat} (h : n < 8) :
    s.showInputs.bitF HDL_SI_STATE.FAULT 0 n = (findD {} n s.isl.inputs).fault := by
  have hf : s.showInputs.f HDL_SI_STATE.FAULT 0 = bitsBelow (fun n => (findD {} n s.isl.inputs).fault) 8 := by
    unfold State.showInputs
    dsimp only
    rw [State.f_setF_apart _ (by decide), State.f_setF_apart _ (by decide), State.f_setF_self]
    exact Nat.mod_eq_of_lt (bitsBelow_lt _ 8)
  rw [State.bitF, hf, testBit_bitsBelow _ h]

theorem State.showOutputs_isl (s : State) : s.showOutputs.isl = s.isl := by
  unfold State.showOutputs
  simp only [State.setF_isl]

/-! ### Sampling (R472) -/

theorem exec_inputSample_idle {s : State} (h : ¬(s.functional = true ∨ s.hs = hsStartup)) (pins : Pins) :
    exec (.inputSample pins) s = .next (s.mapIsl fun i => { i with t := i.t + 10000 }) := by
  rw [exec_inputSample, execInputSample]
  exact if_neg (by rw [Bool.or_eq_true, decide_eq_true_eq]; exact h)

theorem exec_inputSample_runs {s : State} (h : s.functional = true ∨ s.hs = hsStartup) (pins : Pins) :
    answers (.inputSample pins) s fun u => u.isl.t = s.isl.t + 10000 ∧ u.isl.samples = (pins :: s.isl.samples).take 4 ∧
      u.isl.deb = debPins s.isl.deb ((pins :: s.isl.samples).take 4) ∧
      u.f HDL_SI_RAW.A 0 = u.isl.deb.si.toNat % 256 ∧ u.f HDL_SI_RAW.B 0 = u.isl.deb.si.toNat / 256 := by
  refine ⟨_, (exec_inputSample ..).trans (if_pos (by rw [Bool.or_eq_true, decide_eq_true_eq]; exact h)), ?_⟩
  simp only [State.setF_isl, State.mapIsl_isl, true_and]
  rw [State.f_setF_apart _ (by decide), State.f_setF_self, State.f_setF_self]
  have hlt := (debPins s.isl.deb ((pins :: s.isl.samples).take 4)).si.isLt
  exact ⟨Nat.mod_mod_of_dvd _ (by decide), Nat.mod_eq_of_lt (Nat.div_lt_of_lt_mul hlt)⟩

/-- A pin takes the level of four samples in a row that agree. -/
theorem getLsbD_debounce {w : Nat} (old a b c d : BitVec w) (m : Nat) :
    (debounce old a b c d).getLsbD m =
      if a.getLsbD m = b.getLsbD m ∧ b.getLsbD m = c.getLsbD m ∧ c.getLsbD m = d.getLsbD m then a.getLsbD m
      else old.getLsbD m := by
  simp only [debounce, BitVec.getLsbD_or, BitVec.getLsbD_and]
  generalize old.getLsbD m = o, a.getLsbD m = a, b.getLsbD m = b, c.getLsbD m = c, d.getLsbD m = d
  revert o a b c d
  decide

/-! ### Safe inputs (R473 to R476) -/

theorem InputSt.cycle_on (i : InputSt) (a b : Bool) (t : Nat) :
    (i.cycle a b t).on = true ↔ a = true ∧ b = true ∧ i.stuck = false ∧ i.cross = false ∧ i.disc = false := by
  simp only [InputSt.cycle, InputSt.fault, Bool.and_eq_true, Bool.not_eq_true', Bool.or_eq_false_iff]
  cases a <;> cases b <;> simp [and_comm, and_assoc, and_left_comm (a := i.disc = false)]

theorem exec_discrepancy_due {s : State} {n : Fin 8} {r : InputRec} {i : InputSt} {t : Nat} (hr : s.inputRec? n = some r)
    (hi : find n.val s.isl.inputs = some i) (ht : i.differAt = some t) (hd : ms r.discTime ≤ s.cycleTime - t) :
    answers (.discrepancy n) s fun u => find n.val u.isl.inputs = some { i with disc := true, on := false } ∧
      u.bitF HDL_SI_STATE.ON 0 n = false ∧ u.bitF HDL_SI_STATE.FAULT 0 n = true := by
  have he : exec (.discrepancy n) s = .next (s.mapIsl fun x =>
      { x with inputs := put n.val { i with disc := true, on := false } x.inputs }).showInputs := by
    rw [exec_discrepancy, execDiscrepancy, hr, hi]
    dsimp only
    rw [ht]
    exact if_pos hd
  refine ⟨_, he, ?_⟩
  beta_reduce
  rw [State.showInputs_isl, State.bitF_showInputs_on _ n.isLt, State.bitF_showInputs_fault _ n.isLt, State.mapIsl_isl,
    findD_put_self, find_put_self]
  exact ⟨rfl, rfl, rfl⟩

theorem exec_discrepancy_early {s : State} {n : Fin 8} {r : InputRec} {i : InputSt} {t : Nat} (hr : s.inputRec? n = some r)
    (hi : find n.val s.isl.inputs = some i) (ht : i.differAt = some t) (hd : s.cycleTime - t < ms r.discTime) :
    exec (.discrepancy n) s = .next s := by
  rw [exec_discrepancy, execDiscrepancy, hr, hi]
  dsimp only
  rw [ht]
  exact if_neg (by omega)

/-- A test pulse in its cycle. -/
theorem exec_testPulse_due {s : State} (strobe : Bool) (pins : Pins) (hf : s.functional = true)
    (hc : s.f HDL_CYCLE.COUNT 0 % 20 = if strobe then 10 else 0) (ht : s.isl.testedAt ≠ some (s.f HDL_CYCLE.COUNT 0)) :
    answers (.testPulse strobe pins) s fun u =>
      u.isl.testedAt = some (s.f HDL_CYCLE.COUNT 0) ∧ u.isl.chans = s.isl.chans ∧
      u.isl.inputs = s.isl.inputs.map fun c =>
        if (s.inputRec? c.1).any (·.mode = 1) && c.2.high then
          (c.1, c.2.tested (if strobe then 1 else 0) (!pins.si.getLsbD (c.1 + 8 * (if strobe then 1 else 0)))
            (pins.si.getLsbD (c.1 + 8 * (1 - if strobe then 1 else 0))))
        else c := by
  refine ⟨_, (exec_testPulse ..).trans (if_neg (by simp [hf, hc, ht])), ?_⟩
  beta_reduce
  rw [State.showInputs_isl]
  exact ⟨rfl, rfl, rfl⟩

theorem exec_testPulse_idle {s : State} (strobe : Bool) (pins : Pins)
    (h : ¬(s.functional = true ∧ s.f HDL_CYCLE.COUNT 0 % 20 = (if strobe then 10 else 0) ∧
      s.isl.testedAt ≠ some (s.f HDL_CYCLE.COUNT 0))) : exec (.testPulse strobe pins) s = .next s := by
  refine (exec_testPulse ..).trans (if_pos ?_)
  simp only [Bool.or_eq_true, Bool.not_eq_true', decide_eq_true_eq]
  by_contra hn
  refine h ⟨?_, ?_, ?_⟩
  · by_contra hf
    exact hn (.inl (.inl (Bool.eq_false_iff.mpr hf)))
  · by_contra hc
    exact hn (.inl (.inr hc))
  · exact fun ht => hn (.inr ht)

theorem getD_setNth {l : List Nat} (k v : Nat) : (setNth l k v).getD k 0 = if k < l.length then v else 0 := by
  induction l generalizing k with
  | nil => rfl
  | cons a l ih =>
    cases k with
    | zero => rfl
    | succ k =>
      rw [setNth, List.getD_cons_succ, ih, List.length_cons]
      simp only [Nat.add_lt_add_iff_right]

/-- A run that a result counts. -/
theorem getD_runStep_true {l : List Nat} {k : Nat} (h : k < l.length) : (runStep l k true).getD k 0 = l.getD k 0 + 1 :=
  (getD_setNth ..).trans (if_pos h)

/-- A run that a result ends. -/
theorem getD_runStep_false (l : List Nat) (k : Nat) : (runStep l k false).getD k 0 = 0 :=
  (getD_setNth ..).trans (ite_self _)

/-- A failed test clears no latch: the channel's run of passes is 0. -/
theorem passRun_of_fail (l : List Nat) {own : Nat} (ho : own < 2) :
    (decide (2 ≤ (runStep l own false).getD 0 0) && decide (2 ≤ (runStep l own false).getD 1 0)) = false := by
  have h := getD_runStep_false l own
  obtain rfl | rfl : own = 0 ∨ own = 1 := by omega
  · rw [h]; rfl
  · rw [h]; exact Bool.and_false _

/-- What a failed test leaves. -/
theorem InputSt.tested_fail (i : InputSt) {own : Nat} {low high : Bool} (hf : (low && high) = false) (ho : own < 2) :
    (i.tested own low high).stuck = (i.stuck || decide (2 ≤ (runStep i.stuckRun own !low).getD own 0)) ∧
    (i.tested own low high).cross = (i.cross || decide (2 ≤ (runStep i.crossRun (1 - own) !high).getD (1 - own) 0)) ∧
    (i.tested own low high).on = (i.on && !(i.disc || (i.tested own low high).stuck || (i.tested own low high).cross)) := by
  unfold InputSt.tested
  dsimp only
  rw [hf, passRun_of_fail _ ho]
  exact ⟨rfl, rfl, rfl⟩

theorem InputSt.tested_stuck (i : InputSt) {own : Nat} (ho : own < 2) (high : Bool) (hr : 1 ≤ i.stuckRun.getD own 0)
    (hl : i.stuckRun.length = 2) : (i.tested own false high).stuck = true ∧ (i.tested own false high).on = false := by
  obtain ⟨h1, -, h3⟩ := i.tested_fail (low := false) (high := high) rfl ho
  have hs : (i.tested own false high).stuck = true := by
    rw [h1, Bool.not_false, getD_runStep_true (by omega), decide_eq_true (by omega), Bool.or_true]
  rw [h3, hs, Bool.or_true, Bool.true_or, Bool.not_true, Bool.and_false]
  exact ⟨rfl, rfl⟩

theorem InputSt.tested_cross (i : InputSt) {own : Nat} (ho : own < 2) (low : Bool) (hr : 1 ≤ i.crossRun.getD (1 - own) 0)
    (hl : i.crossRun.length = 2) : (i.tested own low false).cross = true ∧ (i.tested own low false).on = false := by
  obtain ⟨-, h2, h3⟩ := i.tested_fail (low := low) (high := false) (Bool.and_false _) ho
  have hs : (i.tested own low false).cross = true := by
    rw [h2, Bool.not_false, getD_runStep_true (by omega), decide_eq_true (by omega), Bool.or_true]
  rw [h3, hs, Bool.or_true, Bool.not_true, Bool.and_false]
  exact ⟨rfl, rfl⟩

theorem InputSt.on_of_tested (i : InputSt) {own : Nat} {low high : Bool} (h : (i.tested own low high).on = true) :
    i.on = true := by
  unfold InputSt.tested at h
  dsimp only at h
  rw [Bool.and_eq_true] at h
  revert h
  split <;> exact And.left

/-! ### Outputs (R477, R481) -/

theorem OutputSt.cycle_ev_iff (x : OutputSt) (r : OutputRec) (may closed edge : Bool) (t : Nat) :
    (x.cycle r may closed edge t).ev = true ↔
      may = true ∧ (x.ev = true ∨ closed = true ∧ (r.restart = false ∨ edge = true)) := by
  have hev : (x.follow closed).ev = x.ev := rfl
  unfold OutputSt.cycle
  dsimp only
  rw [hev]
  cases hx : x.ev
  · rw [if_neg Bool.false_ne_true]
    split
    next h => simpa [and_assoc] using h
    next h => simpa [hev, hx, and_assoc] using h
  · rw [if_pos rfl]
    cases may
    · rw [if_neg Bool.false_ne_true, OutputSt.off_ev]
      simp
    · simp [hev, hx]

theorem OutputSt.refused_of_cycle {x : OutputSt} {r : OutputRec} {may closed edge : Bool} {t : Nat} (hx : x.ev = false)
    (h : (x.cycle r may closed edge t).refused = true) :
    (x.cycle r may closed edge t).ev = false ∧ may = true ∧ closed = false := by
  have hev : (x.follow closed).ev = false := hx
  unfold OutputSt.cycle at h ⊢
  dsimp only at h ⊢
  rw [hev, if_neg Bool.false_ne_true] at h ⊢
  split at h
  next => cases h
  next hn =>
    rw [if_neg hn]
    simp only [Bool.and_eq_true, Bool.not_eq_true'] at h
    exact ⟨rfl, h.1⟩

/-! ### Off-pulse tests and the readback (R478, R480) -/

section
variable {s : State} {i : Fin 16} {p : Params} {c : ChanSt}

def State.setChan (s : State) (i : Nat) (c : ChanSt) : State := s.mapIsl fun x => { x with chans := put i c x.chans }

theorem exec_offPulse_idle (hp : s.params? = some p) (hc : find i.val s.isl.chans = some c) (off back : Bool)
    (h : ¬(testNumber (ms p.opPeriod) i.val s.islTime ≠ none ∧ c.lastTest ≠ testNumber (ms p.opPeriod) i.val s.islTime)) :
    exec (.offPulse i off back) s = .next s := by
  rw [exec_offPulse, execOffPulse, hp, hc]
  refine if_pos ?_
  rw [Bool.or_eq_true, Option.isNone_iff_eq_none, decide_eq_true_eq]
  by_contra hn
  exact h ⟨fun e => hn (.inl e), fun e => hn (.inr e)⟩

/-- A test that is due and new. -/
theorem exec_offPulse_new (hp : s.params? = some p) (hc : find i.val s.isl.chans = some c) (off back : Bool)
    (h : testNumber (ms p.opPeriod) i.val s.islTime ≠ none ∧ c.lastTest ≠ testNumber (ms p.opPeriod) i.val s.islTime) :
    exec (.offPulse i off back) s =
      if !c.cmd then .next (s.setChan i.val { c with lastTest := testNumber (ms p.opPeriod) i.val s.islTime })
      else .next ((if off && back then s.bump HDL_OPTEST.COUNT 0 else s.bump HDL_OPFAIL.COUNT 0).setChan i.val
        { c.tested off back with lastTest := testNumber (ms p.opPeriod) i.val s.islTime }).showOutputs := by
  rw [exec_offPulse, execOffPulse, hp, hc]
  refine if_neg ?_
  rw [Bool.or_eq_true, Option.isNone_iff_eq_none, decide_eq_true_eq]
  exact not_or.mpr h

theorem exec_offPulse_off (hp : s.params? = some p) (hc : find i.val s.isl.chans = some c) (off back : Bool)
    (h : testNumber (ms p.opPeriod) i.val s.islTime ≠ none ∧ c.lastTest ≠ testNumber (ms p.opPeriod) i.val s.islTime)
    (hcmd : c.cmd = false) : answers (.offPulse i off back) s fun u =>
      find i.val u.isl.chans = some { c with lastTest := testNumber (ms p.opPeriod) i.val s.islTime } ∧
      u.regs = s.regs := by
  refine ⟨_, (exec_offPulse_new hp hc off back h).trans (if_pos (by rw [hcmd]; rfl)), find_put_self .., rfl⟩

/-- A counter of 32 bits that saturates, or another. -/
theorem State.f_bump_bool (s : State) {F G : Fld} (hw : F.width = 32) (hG : F.apart G = true) (b : Bool) :
    (if b then s.bump F 0 else s.bump G 0).f F 0 =
      if b && decide (s.f F 0 + 1 < 2 ^ 32) then s.f F 0 + 1 else s.f F 0 := by
  cases b
  · exact s.f_bump_apart hG 0 0
  · rw [if_pos rfl, State.f_bump_self s (w := 32) hw, Bool.true_and]
    simp only [decide_eq_true_eq]
    split <;> omega

theorem State.showOutputs_f (s : State) {F : Fld} (h1 : F.apart HDL_SO_STATE.COMMANDED = true)
    (h2 : F.apart HDL_SO_STATE.STAGEA = true) (h3 : F.apart HDL_SO_STATE.STAGEB = true)
    (h4 : F.apart HDL_SO_STATE.NODE = true) (h5 : F.apart HDL_SO_STATE.WAITING = true)
    (h6 : F.apart HDL_SO_STATE.CFB = true) (h7 : F.apart HDL_SO_FCODE.CODES = true) (i : Nat) :
    s.showOutputs.f F i = s.f F i := by
  unfold State.showOutputs
  dsimp only
  rw [State.f_setF_apart _ h7, State.f_setF_apart _ h6, State.f_setF_apart _ h5, State.f_setF_apart _ h4,
    State.f_setF_apart _ h3, State.f_setF_apart _ h2, State.f_setF_apart _ h1]

theorem exec_offPulse_on (hp : s.params? = some p) (hc : find i.val s.isl.chans = some c) (off back : Bool)
    (h : testNumber (ms p.opPeriod) i.val s.islTime ≠ none ∧ c.lastTest ≠ testNumber (ms p.opPeriod) i.val s.islTime)
    (hcmd : c.cmd = true) : answers (.offPulse i off back) s fun u =>
      find i.val u.isl.chans = some { c.tested off back with lastTest := testNumber (ms p.opPeriod) i.val s.islTime } ∧
      u.f HDL_OPTEST.COUNT 0 = (if off && back && decide (s.f HDL_OPTEST.COUNT 0 + 1 < 2 ^ 32) then
        s.f HDL_OPTEST.COUNT 0 + 1 else s.f HDL_OPTEST.COUNT 0) ∧
      u.f HDL_OPFAIL.COUNT 0 = (if !(off && back) && decide (s.f HDL_OPFAIL.COUNT 0 + 1 < 2 ^ 32) then
        s.f HDL_OPFAIL.COUNT 0 + 1 else s.f HDL_OPFAIL.COUNT 0) := by
  refine ⟨_, (exec_offPulse_new hp hc off back h).trans (if_neg (by rw [hcmd]; exact Bool.false_ne_true)), ?_⟩
  beta_reduce
  rw [State.showOutputs_isl, State.showOutputs_f _ (by decide) (by decide) (by decide) (by decide) (by decide) (by decide) (by decide),
    State.showOutputs_f _ (by decide) (by decide) (by decide) (by decide) (by decide) (by decide) (by decide),
    State.setChan, State.mapIsl_isl, State.f_mapIsl, State.f_mapIsl]
  refine ⟨find_put_self .., State.f_bump_bool s rfl (by decide) _, ?_⟩
  rw [← State.f_bump_bool s rfl (G := HDL_OPTEST.COUNT) (by decide)]
  cases off && back <;> rfl

end

theorem ChanSt.check_clears (c : ChanSt) (on : Bool) (h : 10 ≤ (c.check on).offRun) :
    (c.check on).stuck = false ∧ (c.check on).drive = false := by
  unfold ChanSt.check at h ⊢
  dsimp only at h ⊢
  by_cases hr : 10 ≤ if on then 0 else c.offRun + 1
  · rw [if_pos hr]
    exact ⟨rfl, rfl⟩
  · rw [if_neg hr] at h
    exact absurd h hr

/-- The latches of a readback that has not read off for ten cycles. -/
theorem ChanSt.check_latches (c : ChanSt) {on : Bool} (h : on = true ∨ c.offRun < 9) :
    (c.check on).drive = (c.drive || decide (2 ≤ if c.cmd && !on then c.contOff + 1 else 0)) ∧
    (c.check on).stuck = (c.stuck || decide (2 ≤ if !c.cmd && on && !c.justOff then c.contOn + 1 else 0)) := by
  unfold ChanSt.check
  dsimp only
  rw [if_neg]
  · exact ⟨rfl, rfl⟩
  · obtain rfl | h := h
    · exact (by decide : ¬10 ≤ 0)
    · split <;> omega

/-! ### Contactor feedback (R481) -/

/-- What the end of a contactor's time makes of an output whose feedback has been followed. -/
def OutputSt.timeOver (y : OutputSt) : OutputSt :=
  { (if y.cfDue.isSome then { y with weld := y.weld || !y.ev, pullin := y.pullin || y.ev } else y) with cfDue := none }

theorem OutputSt.timeOver_latches (y : OutputSt) :
    y.timeOver.weld = (y.weld || (y.cfDue.isSome && !y.ev)) ∧ y.timeOver.pullin = (y.pullin || (y.cfDue.isSome && y.ev)) := by
  unfold OutputSt.timeOver
  cases y.cfDue.isSome
  · exact ⟨(Bool.or_false _).symm, (Bool.or_false _).symm⟩
  · exact ⟨rfl, rfl⟩

/-- The contactor is still awaited where its feedback reads as the output's last state. -/
theorem OutputSt.follow_due {x : OutputSt} {d : Nat} (hc : x.cfDue = some d) (closed : Bool) :
    (x.follow closed).cfDue.isSome = decide (closed = x.ev) := by
  unfold OutputSt.follow
  dsimp only
  rw [hc]
  split
  next h => exact (decide_eq_true h).symm
  next h => exact (decide_eq_false h).symm

def State.setOutput (s : State) (o : Nat) (y : OutputSt) : State :=
  s.mapIsl fun i => { i with outputs := put o y i.outputs }

section
variable {s : State} {o : Fin 4} {r : OutputRec} {x : OutputSt} {d : Nat}

/-- The end of a contactor's time. -/
theorem exec_cfTime_some (hr : (s.params?.bind fun p => find o.val p.outputs) = some r)
    (hx : find o.val s.isl.outputs = some x) (hc : x.cfDue = some d) :
    exec (.cfTime o) s = if d ≤ s.islTime then
      .next (s.setOutput o.val (x.follow (s.cfbClosed r)).timeOver).showOutputs else .next s := by
  rw [exec_cfTime, execCfTime, hr, hx]
  dsimp only
  rw [hc]
  rfl

theorem exec_cfTime_due (hr : (s.params?.bind fun p => find o.val p.outputs) = some r)
    (hx : find o.val s.isl.outputs = some x) (hc : x.cfDue = some d) (hd : d ≤ s.islTime) :
    ∃ u y, exec (.cfTime o) s = .next u ∧ find o.val u.isl.outputs = some y ∧ y.cfDue = none ∧
      y.weld = ((x.weld && !s.cfbClosed r) || (decide (s.cfbClosed r = x.ev) && !x.ev)) ∧
      y.pullin = (x.pullin || (decide (s.cfbClosed r = x.ev) && x.ev)) := by
  obtain ⟨h1, h2⟩ := (x.follow (s.cfbClosed r)).timeOver_latches
  rw [OutputSt.follow_due hc] at h1 h2
  refine ⟨_, (x.follow (s.cfbClosed r)).timeOver, (exec_cfTime_some hr hx hc).trans (if_pos hd),
    ?_, rfl, h1, h2⟩
  rw [State.showOutputs_isl, State.setOutput, State.mapIsl_isl, find_put_self]

end

/-- Settles O53: an input's four samples, an output's cycle and a channel's tests are each their definition's cases;
what a command shows in the registers is one bit an input or output. -/
theorem safeInputAndOutputResults : Obligations.SafeInputAndOutputResults := by
  unfold Obligations.SafeInputAndOutputResults
  refine ⟨⟨?_, ?_, ?_, ?_, ?_, ?_⟩, ?_, ?_, ?_, ?_⟩
  · intro s pins runs
    by_cases h : runs
    · obtain ⟨u, he, ht, hs, hd, ha, hb⟩ := exec_inputSample_runs h pins
      exact ⟨u, he, ht, fun hn => absurd h hn, fun _ => ⟨hs, hd, ha, hb⟩⟩
    · exact ⟨_, exec_inputSample_idle h pins, rfl, fun _ => ⟨rfl, rfl⟩, fun hn => absurd hn h⟩
  · intro old a b c d m _ same D
    have hD : D.si.getLsbD m = if same then a.si.getLsbD m else old.si.getLsbD m := getLsbD_debounce ..
    exact ⟨fun h => hD.trans (if_pos h), fun h => hD.trans (if_neg h)⟩
  · intro i a b t y
    refine ⟨i.cycle_on a b t, ?_, rfl⟩
    have hd : y.disc = (i.disc && (a || b)) := rfl
    rw [hd, Bool.and_eq_true, Bool.or_eq_true]
  · intro s n
    split
    next r i hr hi =>
      split
      next ht =>
        rw [exec_discrepancy, execDiscrepancy, hr, hi]
        dsimp only
        rw [ht]
      next t ht => exact ⟨exec_discrepancy_early hr hi ht, exec_discrepancy_due hr hi ht⟩
    next h =>
      rw [exec_discrepancy, execDiscrepancy]
      split
      next r i hr hi => exact (h r i hr hi).elim
      next => rfl
  · intro s strobe pins own due
    have hown : 10 * own = if strobe then 10 else 0 := by cases strobe <;> rfl
    refine ⟨fun h => exec_testPulse_idle strobe pins ?_, fun h => ?_⟩
    · rw [← hown]
      exact h
    · obtain ⟨hf, hc, ht⟩ := h
      obtain ⟨u, he, h1, h2, h3⟩ := exec_testPulse_due strobe pins hf (hc.trans hown) ht
      refine ⟨u, he, h1, h2, h3.trans (List.map_congr_left fun c _ => ?_)⟩
      simp only [Bool.and_eq_true]
      rfl
  · intro i lo hi own ho x
    refine ⟨fun h hr hl => ?_, fun h hr hl => ?_, i.on_of_tested⟩
    · subst h
      exact i.tested_stuck ho hi hr hl
    · subst h
      exact i.tested_cross ho lo hr hl
  · intro x r may closed edge t y
    exact ⟨x.cycle_ev_iff r may closed edge t, OutputSt.refused_of_cycle⟩
  · intro s i off back
    split
    next p c hp hc =>
      exact ⟨exec_offPulse_idle hp hc off back, exec_offPulse_off hp hc off back, exec_offPulse_on hp hc off back⟩
    next h =>
      rw [exec_offPulse, execOffPulse]
      split
      next p c hp hc => exact (h p c hp hc).elim
      next => rfl
  · intro c off back on z
    refine ⟨?_, ?_, c.check_clears on, fun hc ho hr => ?_, fun hc ho => ?_⟩
    · cases off
      · exact congrArg (c.stuck || ·) (decide_eq_decide.mpr (by simp))
      · rfl
    · cases back
      · exact congrArg (c.drive || ·) (decide_eq_decide.mpr (by simp))
      · rfl
    · rw [(c.check_latches (.inr hr)).1, hc, ho]
      exact congrArg (c.drive || ·) (decide_eq_decide.mpr (by simp))
    · rw [(c.check_latches (.inl ho)).2, hc, ho]
      refine congrArg (c.stuck || ·) (decide_eq_decide.mpr ?_)
      cases c.justOff <;> simp
  · intro s o
    split
    next r x hr hx =>
      split
      next hc =>
        rw [exec_cfTime, execCfTime, hr, hx]
        dsimp only
        rw [hc]
      next d hc =>
        refine ⟨fun hd => ?_, fun hd => ?_⟩
        · exact (exec_cfTime_some hr hx hc).trans (if_neg (Nat.not_le.mpr hd))
        · obtain ⟨u, y, he, hf, h1, h2, h3⟩ := exec_cfTime_due hr hx hc hd
          refine ⟨u, he, ?_⟩
          beta_reduce
          rw [hf]
          dsimp only
          rw [h2, h3]
          refine ⟨h1, fun hn => ?_, fun ha hb => ?_, fun ha hb => ?_⟩
          · rw [decide_eq_false hn, Bool.false_and, Bool.false_and, Bool.or_false, Bool.or_false]
            revert hn
            cases s.cfbClosed r <;> cases x.ev <;> simp
          · rw [ha, hb]
            simp
          · rw [ha, hb]
            simp
    next h =>
      rw [exec_cfTime, execCfTime]
      split
      next r x hr hx => exact (h r x hr hx).elim
      next => rfl

end Sys2Proof.Machine
end

section
/-! PROOF. Frames received on the Hitch ports (R513 to R516, R528). -/

namespace Sys2Proof.Machine

/-! ### Ports -/

theorem recentUnassigned_cons (l : List Nat) (t : Nat) :
    recentUnassigned (t :: recentUnassigned l t) t = t :: recentUnassigned l t := by
  unfold recentUnassigned
  rw [List.filter_cons_of_pos (by simp [ms]), List.filter_filter]
  simp only [Bool.and_self]

theorem State.setPort_f (s : State) (p : Nat) (q : HitchPort) (F : Fld) (i : Nat) : (s.setPort p q).f F i = s.f F i := rfl

theorem State.findD_setPort (s : State) (p : Nat) (q : HitchPort) : findD {} p (s.setPort p q).isl.ports = q :=
  findD_put_self ..

theorem State.setPort_connRec? (s : State) (p : Nat) (q : HitchPort) (n : Nat) : (s.setPort p q).connRec? n = s.connRec? n := rfl

theorem State.OnlyConns.ports {s u : State} (h : s.OnlyConns u) : u.isl.ports = s.isl.ports := by
  obtain ⟨cs, hc⟩ := h
  rw [hc]

theorem State.bump_onlyConns (s : State) (F : Fld) (i : Nat) : s.OnlyConns (s.bump F i) := .of_isl (s.bump_isl F i)

theorem State.connRec?_bump (s : State) (F : Fld) (i n : Nat) : (s.bump F i).connRec? n = s.connRec? n :=
  (s.bump_onlyConns F i).connRec n

/-! ### Frames of no connection (R528) -/

/-- Connection n closes where it is open and sends only on port p. -/
def State.closeOver (p : Nat) (s : State) (n : Nat) : State :=
  if s.ht n = htOpen && (s.connRec? n).any (fun r => r.ports = [p]) then s.connClose n 1 else s

section
variable (p : Nat) (s : State)

theorem State.closeOver_onlyConns (n : Nat) : s.OnlyConns (s.closeOver p n) := by
  unfold State.closeOver
  split
  · exact s.connClose_onlyConns n 1
  · exact .of_isl rfl

theorem State.closeOver_f (n : Nat) {F : Fld} (h : F.offHitch = true) (i : Nat) : (s.closeOver p n).f F i = s.f F i := by
  unfold State.closeOver
  split
  · exact s.connClose_f n 1 h i
  · rfl

theorem State.closeOver_ht (n k : Nat) : (s.closeOver p n).ht k =
    if k = n ∧ s.ht k = htOpen ∧ (s.connRec? k).any (fun r => r.ports = [p]) = true then htLost else s.ht k := by
  unfold State.closeOver
  split
  next h =>
    rw [Bool.and_eq_true, decide_eq_true_eq] at h
    obtain ⟨ho, ha⟩ := h
    cases hr : s.connRec? n with
    | none => rw [hr] at ha; cases ha
    | some r =>
      rw [s.connClose_ht n hr]
      by_cases hk : k = n
      · subst hk
        rw [if_pos rfl, if_pos ⟨rfl, ho, ha⟩]
      · rw [if_neg hk, if_neg (fun e => hk e.1)]
  next h =>
    refine (if_neg ?_).symm
    rintro ⟨rfl, ho, ha⟩
    exact h (by rw [ho, ha]; rfl)

/-- The rate closes each such connection, and no other. -/
theorem State.closeOvers_ht (l : List Nat) (k : Nat) : (l.foldl (State.closeOver p) s).ht k =
    if k ∈ l ∧ s.ht k = htOpen ∧ (s.connRec? k).any (fun r => r.ports = [p]) = true then htLost else s.ht k := by
  induction l generalizing s with
  | nil => exact (if_neg (fun h => absurd h.1 List.not_mem_nil)).symm
  | cons n l ih =>
    rw [List.foldl_cons, ih, (s.closeOver_onlyConns p n).connRec, State.closeOver_ht]
    by_cases h : k = n ∧ s.ht k = htOpen ∧ (s.connRec? k).any (fun r => r.ports = [p]) = true
    · rw [if_pos h, ite_self, if_pos ⟨h.1 ▸ List.mem_cons_self, h.2⟩]
    · rw [if_neg h]
      by_cases hk : k = n
      · have hc := fun e => h ⟨hk, e⟩
        rw [if_neg (fun e => hc e.2), if_neg (fun e => hc e.2)]
      · simp only [List.mem_cons, hk, false_or]

end

/-- A frame of no connection. -/
theorem State.unassignedFrame_facts (s : State) (p : Nat) :
    let recent := recentUnassigned (findD {} p s.isl.ports).unassigned s.islTime
    (s.unassignedFrame p).f HDL_HP_CORRUPT.COUNT p = (s.bump HDL_HP_CORRUPT.COUNT p).f HDL_HP_CORRUPT.COUNT p ∧
    (findD {} p (s.unassignedFrame p).isl.ports).unassigned = s.islTime :: recent ∧
    ∀ k < 4, (s.unassignedFrame p).ht k = if 16 ≤ recent.length ∧ s.ht k = htOpen ∧
      (s.connRec? k).any (fun r => r.ports = [p]) = true then htLost else s.ht k := by
  intro recent
  let q : HitchPort := { findD {} p s.isl.ports with unassigned := s.islTime :: recent }
  have hs : s.unassignedFrame p = if ((s.setPort p q).bump HDL_HP_CORRUPT.COUNT p).crcRate p then
      (List.range 4).foldl (State.closeOver p) ((s.setPort p q).bump HDL_HP_CORRUPT.COUNT p)
      else (s.setPort p q).bump HDL_HP_CORRUPT.COUNT p := rfl
  have hb : ((s.setPort p q).bump HDL_HP_CORRUPT.COUNT p).f HDL_HP_CORRUPT.COUNT p =
      (s.bump HDL_HP_CORRUPT.COUNT p).f HDL_HP_CORRUPT.COUNT p := by
    rw [State.f_bump_self (w := 32) _ rfl, State.f_bump_self (w := 32) _ rfl, State.setPort_f]
  have hp : findD {} p ((s.setPort p q).bump HDL_HP_CORRUPT.COUNT p).isl.ports = q := by
    rw [State.bump_isl, State.findD_setPort]
  have hh : ∀ k, ((s.setPort p q).bump HDL_HP_CORRUPT.COUNT p).ht k = s.ht k := fun k =>
    State.f_bump_apart _ (by decide) p k
  have hr : ∀ k, ((s.setPort p q).bump HDL_HP_CORRUPT.COUNT p).connRec? k = s.connRec? k := fun k =>
    State.connRec?_bump ..
  have ht : ((s.setPort p q).bump HDL_HP_CORRUPT.COUNT p).islTime = s.islTime :=
    (congrArg Island.t (State.bump_isl (s.setPort p q) _ _)).trans rfl
  have hc : ((s.setPort p q).bump HDL_HP_CORRUPT.COUNT p).crcRate p = decide (16 ≤ recent.length) := by
    rw [State.crcRate, hp, ht, recentUnassigned_cons, List.length_cons]
    exact decide_eq_decide.mpr Nat.lt_succ_iff
  rw [hc] at hs
  generalize (s.setPort p q).bump HDL_HP_CORRUPT.COUNT p = v at hs hb hp hh hr
  rw [hs]
  split
  next hl =>
    rw [decide_eq_true_eq] at hl
    refine ⟨(foldl_f (fun u n => u.closeOver_f p n (by decide) p) _ v).trans hb, ?_, fun k hk => ?_⟩
    · rw [(foldl_onlyConns (fun u n => u.closeOver_onlyConns p n) _ v).ports, hp]
    · rw [State.closeOvers_ht, hh, hr]
      simp only [List.mem_range, hk, true_and, hl]
  next hl =>
    rw [decide_eq_true_eq] at hl
    refine ⟨hb, congrArg HitchPort.unassigned hp, fun k _ => ?_⟩
    rw [hh, if_neg (fun h => hl h.1)]

/-! ### Frames of a connection (R515, R516) -/

/-- A PDU belongs to one of the connections of the set. -/
theorem State.connRec?_of_assign {s : State} {b : List Byte} {n : Nat} {zero : Bool} (h : s.assign b = some (n, zero)) :
    ∃ r, s.connRec? n = some r := by
  unfold State.assign at h
  obtain ⟨k, -, hk⟩ := List.exists_of_findSome?_eq_some h
  dsimp only at hk
  split at hk
  next => cases hk
  next r hr =>
    have hn : k = n := by
      split at hk
      · injection hk with e; exact congrArg Prod.fst e
      · split at hk
        · injection hk with e; exact congrArg Prod.fst e
        · cases hk
    exact ⟨r, hn ▸ hr⟩

/-- A PDU of connection n waits to be processed. -/
def State.pduWaits (s : State) (p n : Nat) : Prop :=
  (s.ht n = htOpen ∨ s.ht n = htStarting) ∧
    ((s.connRec? n).any (fun r => r.ports.length = 2) = false ∨ s.crcRate p = false)

/-- The count of frames of a port plays no part in it. -/
theorem State.setPort_pduWaits (s : State) (p n k : Nat) :
    (s.setPort p { findD {} p s.isl.ports with frames := k }).pduWaits p n = s.pduWaits p n := by
  unfold State.pduWaits State.crcRate
  rw [State.findD_setPort]
  rfl

section
variable {s : State} {p n : Nat} {zero : Bool} {b : List Byte}

/-- What becomes of a PDU of connection n. -/
theorem State.takePdu_eq : s.takePdu p n zero b =
    if (s.ht n ≠ htOpen && s.ht n ≠ htStarting) || ((s.connRec? n).any (fun r => r.ports.length = 2) && s.crcRate p) then
      s.bump HDL_HP_RX.COUNT p
    else if pduZeros b && s.expects n zero b then
      (s.bump HDL_HP_RX.COUNT p).setConn n { s.conn n with rx := (s.conn n).rx ++ [(s.islTime, b)] }
    else (s.bump HDL_HP_RX.COUNT p).connClose n 5 := by
  have hi := s.bump_isl HDL_HP_RX.COUNT p
  have hh : (s.bump HDL_HP_RX.COUNT p).ht n = s.ht n := State.f_bump_apart _ (by decide) p n
  have hr := s.connRec?_bump HDL_HP_RX.COUNT p n
  unfold State.takePdu State.crcRate State.expects State.conn State.islTime
  dsimp only
  rw [hi, hh, hr] <;> rfl

theorem State.pduWaits_iff : s.pduWaits p n ↔ ((s.ht n ≠ htOpen && s.ht n ≠ htStarting) ||
    ((s.connRec? n).any (fun r => r.ports.length = 2) && s.crcRate p)) = false := by
  simp only [State.pduWaits, ne_eq, decide_not, Bool.or_eq_false_iff, Bool.and_eq_false_iff, Bool.not_eq_false',
    decide_eq_true_eq]

theorem State.takePdu_discards (h : ¬s.pduWaits p n) : s.takePdu p n zero b = s.bump HDL_HP_RX.COUNT p := by
  rw [State.pduWaits_iff, Bool.not_eq_false] at h
  exact State.takePdu_eq.trans (if_pos h)

theorem State.takePdu_good (h : s.pduWaits p n) (hg : pduZeros b = true ∧ s.expects n zero b = true) :
    s.takePdu p n zero b =
      (s.bump HDL_HP_RX.COUNT p).setConn n { s.conn n with rx := (s.conn n).rx ++ [(s.islTime, b)] } := by
  rw [State.pduWaits_iff] at h
  rw [State.takePdu_eq, h, hg.1, hg.2]
  rfl

theorem State.takePdu_bad (h : s.pduWaits p n) (hg : ¬(pduZeros b = true ∧ s.expects n zero b = true)) :
    s.takePdu p n zero b = (s.bump HDL_HP_RX.COUNT p).connClose n 5 := by
  rw [State.pduWaits_iff] at h
  rw [State.takePdu_eq, h, if_neg Bool.false_ne_true, if_neg (by rwa [Bool.and_eq_true])]

end

/-- What a PDU of connection n leaves. -/
theorem State.takePdu_facts {s : State} {n : Nat} {r : ConnRec} (hr : s.connRec? n = some r) (p : Nat) (zero : Bool)
    (b : List Byte) :
    let u := s.takePdu p n zero b
    let good := pduZeros b = true ∧ s.expects n zero b = true
    u.f HDL_HP_RX.COUNT p = (s.bump HDL_HP_RX.COUNT p).f HDL_HP_RX.COUNT p ∧ u.isl.ports = s.isl.ports ∧
    (¬s.pduWaits p n → u.isl.conns = s.isl.conns ∧ ∀ k < 4, u.ht k = s.ht k) ∧
    (s.pduWaits p n → good → (u.conn n).rx = (s.conn n).rx ++ [(s.islTime, b)] ∧ ∀ k < 4, u.ht k = s.ht k) ∧
    (s.pduWaits p n → ¬good → u.ht n = htLost ∧ u.f HDL_HT_STATE.REASON n = 5 ∧ u.f HDL_HT_STATE.REMOTE n = 0) := by
  intro u good
  have hh : ∀ k, (s.bump HDL_HP_RX.COUNT p).ht k = s.ht k := fun k => State.f_bump_apart _ (by decide) p k
  have hi := s.bump_isl HDL_HP_RX.COUNT p
  by_cases hw : s.pduWaits p n
  · by_cases hg : good
    · have hu : u = _ := State.takePdu_good hw hg
      rw [hu]
      refine ⟨rfl, (congrArg Island.ports hi :), fun h => absurd hw h, fun _ _ => ⟨?_, fun k _ => hh k⟩, fun _ h => absurd hg h⟩
      rw [State.conn_setConn_self]
    · have hu : u = _ := State.takePdu_bad hw hg
      have hr' : (s.bump HDL_HP_RX.COUNT p).connRec? n = some r := (s.connRec?_bump ..).trans hr
      rw [hu]
      refine ⟨State.connClose_f _ _ _ (by decide) p, ?_, fun h => absurd hw h, fun _ h => absurd h hg, fun _ _ => ?_⟩
      · rw [(State.connClose_onlyConns _ n 5).ports, hi]
      · refine ⟨(State.connClose_ht _ n hr' 5 n).trans (if_pos rfl), ?_, ?_⟩
        · rw [State.connClose_some _ n hr', State.connLost_reason _ _ (by decide)]
        · rw [State.connClose_some _ n hr', State.connLost_remote]
  · have hu : u = _ := State.takePdu_discards hw
    rw [hu]
    exact ⟨rfl, congrArg Island.ports hi, fun _ => ⟨congrArg Island.conns hi, fun k _ => hh k⟩, fun h => absurd h hw,
      fun h => absurd h hw⟩

/-! ### A frame on a port -/

section
variable {s : State} {port : Fin 2} {q : PortRec}
  (hq : (s.params?.bind fun p => find port.val p.ports).filter (·.used) = some q)
include hq

theorem exec_hitchFrameReceive_used (frame : List Byte) (ok : Bool) :
    exec (.hitchFrameReceive port frame ok) s = if !s.functional then .next s
      else if !ok then .next (s.bump HDL_HP_FCS.COUNT port.val)
      else match hitchPdu q.mac frame with
        | none => .next s
        | some b =>
          if 64 ≤ (findD {} port.val s.isl.ports).frames then .next (s.bump HDL_HP_OVER.COUNT port.val)
          else match s.assign b with
            | none => .next ((s.setPort port.val { findD {} port.val s.isl.ports with
                frames := (findD {} port.val s.isl.ports).frames + 1 }).unassignedFrame port.val)
            | some (n, zero) => .next ((s.setPort port.val { findD {} port.val s.isl.ports with
                frames := (findD {} port.val s.isl.ports).frames + 1 }).takePdu port.val n zero b) := by
  rw [exec_hitchFrameReceive, execHitchFrameReceive, hq] <;> rfl

end

/-- Settles O57: the receipt of a frame is a choice among those below, and a closing error is that of a connection. -/
theorem hitchFrameResults : Obligations.HitchFrameResults := by
  unfold Obligations.HitchFrameResults
  refine ⟨fun s port frame ok => ?_, fun mac frame => ?_, fun s port speed => ⟨fun hf => ?_, fun hf => ?_⟩⟩
  · split
    next hq =>
      rw [exec_hitchFrameReceive, execHitchFrameReceive, hq]
    next q hq =>
      intro run st up
      have he := exec_hitchFrameReceive_used hq frame
      refine ⟨fun h => ?_, fun h ho => ?_, fun h ho => ?_⟩
      · rw [he, if_pos (by rw [Bool.eq_false_iff.mpr h]; rfl)]
      · have h' : s.functional = true := h
        rw [he, h', ho]
        rfl
      · have h' : s.functional = true := h
        have he' := he ok
        rw [h', ho, Bool.not_true, if_neg Bool.false_ne_true, if_neg Bool.false_ne_true] at he'
        rw [ho]
        split
        next hn =>
          rw [hn] at he'
          exact he'
        next b hb =>
          rw [hb] at he'
          dsimp only at he'
          refine ⟨fun hx => he'.trans (if_pos hx), fun hx => ?_⟩
          rw [if_neg (Nat.not_le.mpr hx)] at he'
          split
          next ha =>
            rw [ha] at he'
            refine ⟨_, he', ?_⟩
            obtain ⟨h1, h2, h3⟩ := State.unassignedFrame_facts (s.setPort port.val { st with frames := st.frames + 1 }) port.val
            rw [State.findD_setPort] at h2 h3
            refine ⟨?_, h2, h3⟩
            refine h1.trans ?_
            rw [State.f_bump_self (w := 32) _ rfl, State.setPort_f]
          next n zero ha =>
            rw [ha] at he'
            obtain ⟨r, hr⟩ := State.connRec?_of_assign ha
            obtain ⟨h1, h2, h3⟩ := State.takePdu_facts (s := s.setPort port.val { st with frames := st.frames + 1 }) hr port.val zero b
            rw [State.setPort_pduWaits] at h3
            refine ⟨_, he', h1.trans ?_, ?_, h3⟩
            · rw [State.f_bump_self (w := 32) _ rfl, State.setPort_f]
            · rw [h2, State.findD_setPort]
  · split
    next => trivial
    next b hb =>
      unfold hitchPdu at hb
      dsimp only at hb
      generalize (if (frame.drop 12).take 2 = vlanType then frame.drop 16 else frame.drop 12) = body at hb
      simp only [Option.ite_none_right_eq_some, Bool.and_eq_true, decide_eq_true_eq] at hb
      obtain ⟨⟨⟨hm, -⟩, hl⟩, hb⟩ := hb
      injection hb with hb
      rw [← hb, List.length_take, List.length_drop]
      exact ⟨hm, by omega⟩
  · exact (exec_portLink ..).trans (if_pos (by rw [hf]; rfl))
  · refine ⟨_, (exec_portLink ..).trans (if_neg (by rw [hf]; exact Bool.false_ne_true)), ?_⟩
    cases speed <;> (rw [State.on, State.f_setF_apart _ (by decide), State.f_setOn_self, State.f_setF_self]; decide)

end Sys2Proof.Machine
end

section
/-! PROOF. The yoke's transfer queue and the agreement of frames and hashes (R403 to R410). -/

namespace Sys2Proof.Machine

/-! ### Messages of the yoke -/

section
variable {s : State} {m : List Byte} {r : List (List Byte)} {type : Nat} (hin : (s.link 6).inbox = m :: r)
  (halive : s.ykAlive = true) (htype : numAt m 0 1 = type)
include hin halive htype

/-- The message at the front is taken and acted on. -/
theorem State.ykFront_takes (f : List Byte → State → State) :
    s.ykFront type f = .next (f m (s.setLink 6 { s.link 6 with inbox := r })) := by
  have ha : (s.setLink 6 { s.link 6 with inbox := r }).ykAlive = true := halive
  simp only [State.ykFront, State.takeMsg, hin, htype, if_true, ha]

end

/-! ### What the parts of the transfer engine leave -/

/-- The yoke's registers but for the head of the queue are as they were. -/
def State.YkKept (s u : State) : Prop :=
  ∀ F : Fld, F.blk = .YK → F.apart YK_XQ_HEAD.COUNT = true → ∀ i, u.f F i = s.f F i

theorem State.YkKept.refl (s : State) : s.YkKept s := fun _ _ _ _ => rfl

theorem State.YkKept.trans {s t u : State} (h : s.YkKept t) (k : t.YkKept u) : s.YkKept u := fun F hb ha i =>
  (k F hb ha i).trans (h F hb ha i)

theorem State.YkKept.of_keep {s u : State} {m : Facet → Bool} (hm : m (.blk .YK) = true) (h : u.keep m = s.keep m) :
    s.YkKept u := fun F hb _ i => f_of_keep h (by rw [hb]; exact hm) i

/-- The engine's parts that change the queue only. -/
def State.XqOnly (s u : State) : Prop := (∃ l, u.yoke = { s.yoke with xq := l }) ∧ u.links = s.links ∧ s.YkKept u

theorem State.XqOnly.refl (s : State) : s.XqOnly s := ⟨⟨_, rfl⟩, rfl, .refl s⟩

theorem State.XqOnly.trans {s t u : State} (h : s.XqOnly t) (k : t.XqOnly u) : s.XqOnly u := by
  obtain ⟨⟨l, hl⟩, hk, hr⟩ := h
  obtain ⟨⟨l', hl'⟩, hk', hr'⟩ := k
  exact ⟨⟨l', by rw [hl', hl]⟩, hk'.trans hk, hr.trans hr'⟩

theorem State.xqWrite_only (s : State) (slot : Nat) (id : Option Nat) (status resolved : Nat) :
    (s.xqWrite slot id status resolved).keep (among [.blk .YK, .yoke, .links]) = s.keep (among [.blk .YK, .yoke, .links]) :=
  State.xqWrite_keep rfl rfl rfl rfl rfl rfl rfl s slot id status resolved

/-- The first transfer of the queue has completed. -/
def State.xqPop (s : State) (slot : Nat) (id : Option Nat) (st rs : Nat) (r : List Transfer) : State :=
  ((s.xqWrite slot id st rs).mapYoke fun y => { y with xq := r }).wrapInc YK_XQ_HEAD.COUNT 0

theorem State.xqPop_only (s : State) (slot : Nat) (id : Option Nat) (st rs : Nat) (r : List Transfer) :
    s.XqOnly (s.xqPop slot id st rs r) := by
  have hk := s.xqWrite_only slot id st rs
  refine ⟨⟨r, ?_⟩, (links_of_keep hk rfl :),  fun F hb ha i => ?_⟩
  · exact congrArg (fun y : Yoke => { y with xq := r }) (yoke_of_keep hk rfl)
  · exact (State.f_wrapInc_apart _ ha 0 i).trans (f_of_keep hk (by rw [hb]; rfl) i)

theorem State.xqDrain_only (s : State) (fuel : Nat) : s.XqOnly (s.xqDrain fuel) := by
  induction fuel generalizing s with
  | zero => exact .refl s
  | succ fuel ih =>
    unfold State.xqDrain
    split
    next slot id st rs r _ => exact (s.xqPop_only slot id st rs r).trans (ih _)
    next => exact .refl s

theorem State.xqFinish_only (s : State) : s.XqOnly s.xqFinish := s.xqDrain_only _

/-- What the engine changes of the yoke: the queue, the next slot and the next ID. -/
def State.XqMoves (s u : State) : Prop :=
  (∃ l n i, u.yoke = { s.yoke with xq := l, xqNext := n, nextId := i }) ∧ s.YkKept u

theorem State.XqMoves.refl (s : State) : s.XqMoves s := ⟨⟨_, _, _, rfl⟩, .refl s⟩

theorem State.XqMoves.trans {s t u : State} (h : s.XqMoves t) (k : t.XqMoves u) : s.XqMoves u := by
  obtain ⟨⟨l, n, i, hl⟩, hr⟩ := h
  obtain ⟨⟨l', n', i', hl'⟩, hr'⟩ := k
  exact ⟨⟨l', n', i', by rw [hl', hl]⟩, hr.trans hr'⟩

theorem State.XqOnly.moves {s u : State} (h : s.XqOnly u) : s.XqMoves u := by
  obtain ⟨⟨l, hl⟩, -, hr⟩ := h
  exact ⟨⟨l, _, _, hl⟩, hr⟩

theorem State.XqMoves.of_keep {s u : State} (h : u.keep (among [.blk .YK, .yoke]) = s.keep (among [.blk .YK, .yoke])) :
    s.XqMoves u := ⟨⟨s.yoke.xq, s.yoke.xqNext, s.yoke.nextId, yoke_of_keep h rfl⟩, .of_keep rfl h⟩

theorem State.mapYoke_moves (s : State) {f : Yoke → Yoke}
    (h : ∃ l n i, f s.yoke = { s.yoke with xq := l, xqNext := n, nextId := i }) : s.XqMoves (s.mapYoke f) :=
  ⟨h, fun _ _ _ _ => rfl⟩

theorem State.readNormal_moves {s u : State} {pa fuel n : Nat} {x : Option (List Byte)} (h : s.readNormal pa fuel n = (x, u)) :
    s.XqMoves u := by
  have hk : (s.readNormal pa fuel n).2.keep (among [.blk .YK, .yoke]) = s.keep (among [.blk .YK, .yoke]) :=
    State.readNormal_keep rfl rfl rfl rfl s pa fuel n
  rw [h] at hk
  exact .of_keep hk

theorem State.xqPump_moves (s : State) (fuel : Nat) : s.XqMoves (s.xqPump fuel) := by
  induction fuel generalizing s with
  | zero => exact .refl s
  | succ fuel ih =>
    have hbad : ∀ (t : State) slot, t.XqMoves
        (((t.mapYoke fun y => { y with xq := y.xq ++ [⟨slot, none, some (stBad, 0)⟩] }).xqFinish).xqPump fuel) :=
      fun t slot => ((t.mapYoke_moves ⟨_, _, _, rfl⟩).trans (State.xqFinish_only _).moves).trans (ih _)
    unfold State.xqPump
    dsimp only
    split
    · exact .refl s
    · refine .trans (s.mapYoke_moves (f := fun y => { y with xqNext := (s.yoke.xqNext + 1) % 2 ^ 32 }) ⟨_, _, _, rfl⟩) ?_
      split
      next h => exact (State.readNormal_moves h).trans (hbad _ _)
      next d t h =>
        refine (State.readNormal_moves h).trans ?_
        have hdata : ∀ b u, (if t.xqGood d = true then
            if (decide (numAt d 0 1 = 1) && t.xqGood d) = true then
              t.readNormal (numAt d 8 8) (numAt d 4 4 / 64 + 1) (numAt d 4 4)
            else (some [], t)
            else (none, t)) = (b, u) → t.XqMoves u := by
          intro b u e
          split at e
          · split at e
            · exact State.readNormal_moves e
            · injection e with _ e
              exact e ▸ .refl t
          · injection e with _ e
            exact e ▸ .refl t
        split
        next u e => exact (hdata _ _ e).trans (hbad _ _)
        next b u e =>
          refine ((hdata _ _ e).trans (u.mapYoke_moves (f := fun y => { y with
            nextId := (s.yoke.nextId + 1) % 2 ^ 32, xq := y.xq ++ [⟨s.yoke.xqNext, some s.yoke.nextId, none⟩] })
            ⟨_, _, _, rfl⟩)).trans (.trans (.of_keep ?_) (ih _))
          exact (State.sendXdata_keep rfl rfl rfl rfl rfl ..).trans (State.ykSend_keep rfl rfl rfl rfl rfl ..)

theorem State.xqGo_moves (s : State) : s.XqMoves s.xqGo := s.xqPump_moves _

/-- An engine that does not run goes nowhere. -/
theorem State.xqGo_idle {s : State} (h : s.xqRuns = false) : s.xqGo = s := by
  rw [State.xqGo, State.xqPump, h]
  rfl

/-- Whether the engine runs is a matter of the yoke's registers and its link. -/
theorem State.XqOnly.xqRuns {s u : State} (h : s.XqOnly u) : u.xqRuns = s.xqRuns := by
  obtain ⟨-, hk, hr⟩ := h
  have hf : ∀ F : Fld, F.blk = .YK → F.apart YK_XQ_HEAD.COUNT = true → u.f F 0 = s.f F 0 := fun F hb ha => hr F hb ha 0
  unfold State.xqRuns State.on State.linkState State.ys
  rw [State.link_of_links hk, hf _ rfl (by decide), hf _ rfl (by decide), if_pos rfl, if_pos rfl, hf _ rfl (by decide)]

/-! ### Offers and withdrawals -/

theorem State.XqOnly.xqNext {s u : State} (h : s.XqOnly u) : u.yoke.xqNext = s.yoke.xqNext := by
  obtain ⟨⟨l, hl⟩, -⟩ := h
  rw [hl]

theorem State.xqAbandon_leaves (s : State) (n : Nat) :
    (s.xqAbandon n).yoke.xqNext = (s.yoke.xqNext + n) % 2 ^ 32 ∧ s.YkKept (s.xqAbandon n) := by
  unfold State.xqAbandon
  exact ⟨(State.xqFinish_only _).xqNext, (State.xqFinish_only _).2.2⟩

section
variable {s : State} {agent : Agent} (ha : s.acts agent = true) (hr : ykReach agent = true)
include ha hr

theorem exec_xqDoorbell_mayed (tail : BitVec 32) : exec (.xqDoorbell agent tail) s = .next
    (if 2 ^ s.f YK_XQ_CFG.LOG2SIZE 0 < modDiff 32 tail.toNat (s.f YK_XQ_HEAD.COUNT 0) then s
      else (s.setF YK_XQ_TAIL.COUNT 0 tail.toNat).xqGo) :=
  (exec_xqDoorbell ..).trans (congrArg Host.Outcome.next ((if_neg (by rw [ha]; decide)).trans (if_neg (by rw [hr]; decide))))

theorem exec_xqDisable_mayed : exec (.xqDisable agent) s = .next (if !s.on YK_XQ_CFG.EN 0 then s
    else (s.setOn YK_XQ_CFG.EN 0 false).xqAbandon (modDiff 32 (s.f YK_XQ_TAIL.COUNT 0) s.yoke.xqNext)) :=
  (exec_xqDisable ..).trans (congrArg Host.Outcome.next ((if_neg (by rw [ha]; decide)).trans (if_neg (by rw [hr]; decide))))

theorem exec_xqDisable_done (he : s.on YK_XQ_CFG.EN 0 = true) :
    answers (.xqDisable agent) s fun u => u.on YK_XQ_CFG.EN 0 = false ∧
      u.yoke.xqNext = (s.yoke.xqNext + modDiff 32 (s.f YK_XQ_TAIL.COUNT 0) s.yoke.xqNext) % 2 ^ 32 := by
  refine ⟨_, (exec_xqDisable_mayed ha hr).trans (congrArg Host.Outcome.next (if_neg (by rw [he]; decide))), ?_⟩
  obtain ⟨hn, hk⟩ := (s.setOn YK_XQ_CFG.EN 0 false).xqAbandon_leaves (modDiff 32 (s.f YK_XQ_TAIL.COUNT 0) s.yoke.xqNext)
  have hf := hk YK_XQ_CFG.EN rfl (by decide) 0
  refine ⟨?_, hn⟩
  rw [State.on, hf, ← State.on, State.on_setOn_self _ rfl]

end

/-! ### Requests of the twin -/

theorem xreq_copy_iff {op len dst : Nat} : (op = 1 && 64 ≤ len && len ≤ 2 ^ 24 && len % 64 = 0 && dst % 64 = 0 &&
    dst + len ≤ granarySpan) = true ↔
    op = 1 ∧ 64 ≤ len ∧ len ≤ 2 ^ 24 ∧ len % 64 = 0 ∧ dst % 64 = 0 ∧ dst + len ≤ granarySpan := by
  simp only [Bool.and_eq_true, decide_eq_true_eq, and_assoc]

theorem xreq_word_iff {op len dst : Nat} : (op = 2 && len = 8 && dst % 8 = 0 && dst + 8 ≤ granarySpan) = true ↔
    op = 2 ∧ len = 8 ∧ dst % 8 = 0 ∧ dst + 8 ≤ granarySpan := by
  simp only [Bool.and_eq_true, decide_eq_true_eq, and_assoc]

/-- XDATA's effect (R408). -/
def State.xdataStep (m : List Byte) (t : State) : State :=
  match t.yoke.incoming with
  | none => t
  | some w =>
    if numAt m 4 4 ≠ w.id || numAt m 8 4 ≠ w.got then t
    else
      let n := min 512 (w.len - w.got)
      let (ok, u) := t.writeNormal (w.dst + w.got) 2 9 ((m.drop 16).take n)
      let x := { w with got := w.got + n, ok := w.ok && ok }
      if x.got < w.len then u.mapYoke fun y => { y with incoming := some x }
      else if x.ok then u.xexecuted w.id
      else (u.mapYoke fun y => { y with incoming := none }).sendXack w.id 2

section
variable {t : State} {m : List Byte} {w : InXfer}

theorem State.xdataStep_none (h : t.yoke.incoming = none) : t.xdataStep m = t := by
  unfold State.xdataStep
  rw [h]

theorem State.xdataStep_other (h : t.yoke.incoming = some w) (ho : numAt m 4 4 ≠ w.id ∨ numAt m 8 4 ≠ w.got) :
    t.xdataStep m = t := by
  unfold State.xdataStep
  rw [h]
  exact if_pos (by simpa using ho)

/-- Data in its order. -/
theorem State.xdataStep_next (h : t.yoke.incoming = some w) (hi : numAt m 4 4 = w.id) (hg : numAt m 8 4 = w.got)
    {ok : Bool} {u : State} (hw : t.writeNormal (w.dst + w.got) 2 9 ((m.drop 16).take (min 512 (w.len - w.got))) = (ok, u)) :
    t.xdataStep m =
      if w.got + min 512 (w.len - w.got) < w.len then u.mapYoke fun y =>
        { y with incoming := some { w with got := w.got + min 512 (w.len - w.got), ok := w.ok && ok } }
      else if w.ok && ok then u.xexecuted w.id
      else (u.mapYoke fun y => { y with incoming := none }).sendXack w.id 2 := by
  unfold State.xdataStep
  rw [h]
  dsimp only
  rw [if_neg (by simp [hi, hg]), hw]

theorem State.sendXack_yoke (s : State) (id result : Nat) : (s.sendXack id result).yoke = s.yoke :=
  yoke_of_keep (m := Facet.only .yoke) (State.ykSend_keep rfl rfl rfl rfl rfl ..) rfl

end

section
variable {s : State} {m : List Byte} {r : List (List Byte)} (hin : (s.link 6).inbox = m :: r) (halive : s.ykAlive = true)
include hin halive

/-- The state with the front message taken. -/
abbrev State.ykTaken (s : State) (r : List (List Byte)) : State := s.setLink 6 { s.link 6 with inbox := r }

theorem exec_xreq_done (ht : numAt m 0 1 = 8) (hd : s.yoke.done.contains (numAt m 4 4) = true) :
    exec .xreq s = .next ((s.ykTaken r).sendXack (numAt m 4 4) 1) :=
  ((exec_xreq s).trans (State.ykFront_takes hin halive ht _)).trans (congrArg Host.Outcome.next (if_pos hd))

/-- A request that is new. -/
theorem exec_xreq_new (ht : numAt m 0 1 = 8) (hd : s.yoke.done.contains (numAt m 4 4) = false) :
    let v := (s.ykTaken r).mapYoke fun y => { y.see (numAt m 4 4) with incoming := none }
    exec .xreq s = .next (
      if numAt m 2 1 = 1 && 64 ≤ numAt m 8 4 && numAt m 8 4 ≤ 2 ^ 24 && numAt m 8 4 % 64 = 0 && numAt m 16 8 % 64 = 0 &&
          numAt m 16 8 + numAt m 8 4 ≤ granarySpan then
        v.mapYoke fun y => { y with incoming := some { id := numAt m 4 4, len := numAt m 8 4, dst := numAt m 16 8, got := 0 } }
      else if numAt m 2 1 = 2 && numAt m 8 4 = 8 && numAt m 16 8 % 8 = 0 && numAt m 16 8 + 8 ≤ granarySpan then
        match v.writeNormal (numAt m 16 8) 2 2 ((m.drop 24).take 8) with
        | (true, u) => u.xexecuted (numAt m 4 4)
        | (false, u) => u.sendXack (numAt m 4 4) 2
      else v.sendXack (numAt m 4 4) 2) :=
  ((exec_xreq s).trans (State.ykFront_takes hin halive ht _)).trans (congrArg Host.Outcome.next
    (if_neg (Bool.eq_false_iff.mp hd)))

theorem exec_xdata_takes (ht : numAt m 0 1 = 9) (res : MemRes) :
    exec (.xdata res) s = .next ((s.ykTaken r).withRes res (State.xdataStep m)) :=
  (exec_xdata res s).trans (State.ykFront_takes hin halive ht _)

/-- A transfer that the twin has acknowledged. -/
def Transfer.acked (id st : Nat) (t : Transfer) : Transfer :=
  if t.id = some id && t.done.isNone then { t with done := some (st, 0) } else t

def Yoke.acked (id st : Nat) (y : Yoke) : Yoke := { y with xq := y.xq.map (Transfer.acked id st) }

theorem exec_xack_idle (ht : numAt m 0 1 = 0xA) (hr : s.xqRuns = false) : exec .xack s = .next
    ((s.ykTaken r).mapYoke (Yoke.acked (numAt m 4 4) (if numAt m 2 1 = 2 then stFaulted else stOk))).xqFinish := by
  refine ((exec_xack s).trans (State.ykFront_takes hin halive ht _)).trans (congrArg Host.Outcome.next (State.xqGo_idle ?_))
  have hh : ((s.ykTaken r).link 6).hello = (s.link 6).hello := (congrArg LinkRec.hello (State.link_setLink_self ..)).trans rfl
  have hr' : (s.ykTaken r).xqRuns = s.xqRuns := by
    unfold State.xqRuns
    rw [hh]
    rfl
  rw [(State.xqFinish_only _).xqRuns]
  exact hr'.trans hr

end

section
variable {s : State}

theorem State.mapYoke_eq {f : Yoke → Yoke} (h : f s.yoke = s.yoke) : s.mapYoke f = s := by
  unfold State.mapYoke
  rw [h]

theorem State.xqFinish_nil (h : s.yoke.xq = []) : s.xqFinish = s := by
  unfold State.xqFinish
  rw [h]
  rfl

theorem State.xqFinish_waits {x : Transfer} (h : s.yoke.xq = [x]) (hd : x.done = none) : s.xqFinish = s := by
  unfold State.xqFinish
  rw [h, List.length_singleton, State.xqDrain, h]
  split
  next e =>
    injection e with e
    rw [e] at hd
    cases hd
  next => rfl

theorem State.xqFinish_one {slot st rs : Nat} {id : Option Nat} (h : s.yoke.xq = [⟨slot, id, some (st, rs)⟩]) :
    s.xqFinish = s.xqPop slot id st rs [] := by
  unfold State.xqFinish
  rw [h, List.length_singleton, State.xqDrain, h]
  rfl

theorem State.xqPop_leaves (slot : Nat) (id : Option Nat) (st rs : Nat) (r : List Transfer) :
    (s.xqPop slot id st rs r).yoke.xq = r ∧
    (s.xqPop slot id st rs r).f YK_XQ_HEAD.COUNT 0 = (s.f YK_XQ_HEAD.COUNT 0 + 1) % 2 ^ 32 := by
  have hk := s.xqWrite_only slot id st rs
  refine ⟨rfl, ?_⟩
  unfold State.xqPop State.wrapInc
  rw [State.f_setF_self]
  exact congrArg (fun n => (n + 1) % 2 ^ 32) (f_of_keep hk (F := YK_XQ_HEAD.COUNT) rfl 0)

/-- An acknowledgement of what is not in the queue. -/
theorem Yoke.acked_eq {y : Yoke} {id : Nat} (h : ∀ x ∈ y.xq, x.id ≠ some id) (st : Nat) : y.acked id st = y := by
  have hl : y.xq.map (Transfer.acked id st) = y.xq :=
    (List.map_congr_left fun x hx => if_neg (by simp [h x hx])).trans (List.map_id _)
  unfold Yoke.acked
  rw [hl]

end

/-! ### The report of what was executed (R409) -/

/-- The descriptors whose end was not known are written. -/
def State.lostWritten (s : State) (m : List Byte) (lost : List LostXfer) : State :=
  lost.foldl (fun s l =>
    let s := (s.writeNormal (s.xqAt l.slot + 25) 2 2 (leBytes 1 (l.fate m))).2
    (s.writeNormal (s.xqAt l.slot + 26) 2 2 [1]).2) s

theorem State.lostWritten_yoke (s : State) (m : List Byte) (lost : List LostXfer) :
    (s.lostWritten m lost).yoke = s.yoke := by
  unfold State.lostWritten
  refine yoke_of_keep (m := Facet.only .yoke) (foldl_keep (fun s l => ?_) _ _) rfl
  exact (State.writeNormal_keep rfl rfl rfl rfl rfl rfl rfl ..).trans (State.writeNormal_keep rfl rfl rfl rfl rfl rfl rfl ..)

/-- Pairing has no part in the transfers that were lost. -/
theorem State.tryPair_leaves (s : State) : s.tryPair.yoke.lost = s.yoke.lost ∧ s.tryPair.yoke.reported = s.yoke.reported ∧
    ∀ i, s.tryPair.f YK_EVENT.XRESOLVED i = s.f YK_EVENT.XRESOLVED i := by
  have hp : ∀ (v : State) t, (v.paired t).yoke.lost = v.yoke.lost ∧ (v.paired t).yoke.reported = v.yoke.reported ∧
      ∀ i, (v.paired t).f YK_EVENT.XRESOLVED i = v.f YK_EVENT.XRESOLVED i := fun v t =>
    ⟨rfl, rfl, fun i => (State.f_setOn_apart _ (by decide) 0 i false).trans (State.f_setF_apart _ (by decide) 0 i _)⟩
  unfold State.tryPair
  dsimp only
  split
  · obtain ⟨h1, h2, h3⟩ := hp (s.ykSend (ykMsg 0x0C 1 (List.replicate 6 0 ++
      leBytes 8 ((s.ykNow + msCounts - 1) / msCounts * msCounts + msCounts))))
      ((s.ykNow + msCounts - 1) / msCounts * msCounts + msCounts)
    have hk := State.ykSend_keep (m := among [.blk .YK, .yoke]) rfl rfl rfl rfl rfl s (ykMsg 0x0C 1 (List.replicate 6 0 ++
      leBytes 8 ((s.ykNow + msCounts - 1) / msCounts * msCounts + msCounts)))
    rw [h1, h2]
    exact ⟨congrArg Yoke.lost (yoke_of_keep hk rfl), congrArg Yoke.reported (yoke_of_keep hk rfl),
      fun i => (h3 i).trans (f_of_keep hk rfl i)⟩
  · exact ⟨rfl, rfl, fun _ => rfl⟩

/-- The report's descriptors are resolved. -/
def State.xreported (s : State) (m : List Byte) : State :=
  let t := (s.mapYoke fun y => { y with lost := [], reported := true }).lostWritten m s.yoke.lost
  if s.yoke.lost.isEmpty then t else t.setOn YK_EVENT.XRESOLVED 0 true

theorem State.xreported_leaves (s : State) (m : List Byte) : (s.xreported m).yoke.lost = [] ∧
    (s.xreported m).yoke.reported = true ∧ (s.yoke.lost ≠ [] → (s.xreported m).on YK_EVENT.XRESOLVED 0 = true) := by
  have hy := (s.mapYoke fun y => { y with lost := [], reported := true }).lostWritten_yoke m s.yoke.lost
  unfold State.xreported
  dsimp only
  generalize (s.mapYoke fun y => { y with lost := [], reported := true }).lostWritten m s.yoke.lost = t at hy ⊢
  split
  next he =>
    rw [hy]
    exact ⟨rfl, rfl, fun hn => absurd (List.isEmpty_iff.mp he) hn⟩
  next => exact ⟨congrArg Yoke.lost hy, congrArg Yoke.reported hy, fun _ => State.on_setOn_self _ rfl 0 true⟩

section
variable {s : State} {m : List Byte} {r : List (List Byte)} (hin : (s.link 6).inbox = m :: r) (halive : s.ykAlive = true)
include hin halive

theorem exec_xack_none (ht : numAt m 0 1 = 0xA) (hr : s.xqRuns = false) (hq : s.yoke.xq = []) :
    exec .xack s = .next (s.ykTaken r) := by
  rw [exec_xack_idle hin halive ht hr, State.mapYoke_eq (Yoke.acked_eq (fun x hx => ?_) _), State.xqFinish_nil (s := s.ykTaken r) hq]
  exact absurd (hq ▸ hx) List.not_mem_nil

theorem exec_xack_other {x : Transfer} (ht : numAt m 0 1 = 0xA) (hr : s.xqRuns = false) (hq : s.yoke.xq = [x])
    (hd : x.done = none) (hid : x.id ≠ some (numAt m 4 4)) : exec .xack s = .next (s.ykTaken r) := by
  rw [exec_xack_idle hin halive ht hr, State.mapYoke_eq (Yoke.acked_eq (fun z hz => ?_) _), State.xqFinish_waits (s := s.ykTaken r) hq hd]
  rw [List.mem_singleton.mp (hq ▸ hz : z ∈ [x])]
  exact hid

theorem exec_xack_own {x : Transfer} (ht : numAt m 0 1 = 0xA) (hr : s.xqRuns = false) (hq : s.yoke.xq = [x])
    (hd : x.done = none) (hid : x.id = some (numAt m 4 4)) : answers .xack s fun u => u.yoke.xq = [] ∧
      u.f YK_XQ_HEAD.COUNT 0 = (s.f YK_XQ_HEAD.COUNT 0 + 1) % 2 ^ 32 := by
  refine ⟨_, exec_xack_idle hin halive ht hr, ?_⟩
  rw [State.xqFinish_one (slot := x.slot) (id := x.id) (st := if numAt m 2 1 = 2 then stFaulted else stOk) (rs := 0)]
  · exact State.xqPop_leaves ..
  · change s.yoke.xq.map _ = _
    rw [hq, List.map_singleton, Transfer.acked, if_pos (by rw [hid, hd]; simp)]

/-- What a report leaves. -/
theorem exec_xreport_resolves (ht : numAt m 0 1 = 0xB) : answers .xreport s fun u => u.yoke.lost = [] ∧
    u.yoke.reported = true ∧ (s.yoke.lost ≠ [] → u.on YK_EVENT.XRESOLVED 0 = true) := by
  have he : exec .xreport s = .next ((s.ykTaken r).xreported m).tryPair.xqGo :=
    (exec_xreport s).trans (State.ykFront_takes hin halive ht _)
  obtain ⟨h1, h2, h3⟩ := (s.ykTaken r).xreported_leaves m
  obtain ⟨k1, k2, k3⟩ := ((s.ykTaken r).xreported m).tryPair_leaves
  obtain ⟨⟨l, n, i, hl⟩, hk⟩ := ((s.ykTaken r).xreported m).tryPair.xqGo_moves
  refine ⟨_, he, ?_⟩
  beta_reduce
  rw [hl, State.on, hk YK_EVENT.XRESOLVED rfl (by decide), k3]
  exact ⟨k1.trans h1, k2.trans h2, h3⟩

end

/-! ### Frames (R403, R404) -/

theorem State.ykFrame_key (s : State) (l k : Nat) : (s.ykFrame l k).loop = l ∧ (s.ykFrame l k).k = k := by
  unfold State.ykFrame
  cases h : s.yoke.frames.find? fun f => f.loop = l && f.k = k with
  | none => exact ⟨rfl, rfl⟩
  | some f =>
    have hf := List.find?_some h
    simp only [Bool.and_eq_true, decide_eq_true_eq] at hf
    exact hf

/-- The yoke with a frame decided. -/
def Yoke.decides (f : YkFrame) (y : Yoke) : Yoke :=
  { y with
    frames := y.frames.filter fun g => !(g.loop = f.loop && g.k = f.k)
    decided := put f.loop ((f.k :: findD [] f.loop y.decided).take 64) y.decided }

/-- A frame that is decided without both digests. -/
theorem State.decide'_three (s : State) (f : YkFrame) : s.decide' f 3 =
    (((((s.mapYoke (Yoke.decides f)).setF YK_REL_LAST.K 0 f.k).setF YK_REL_LAST.LOOP 0 f.loop).setF
      YK_REL_LAST.OUTCOME 0 3).bump YK_REL_MISS.COUNT 0).islandTell (.withhold f.loop f.k 3) := rfl

theorem State.decide'_missing (s : State) (f : YkFrame) :
    (s.decide' f 3).isDecided f.loop f.k = true ∧ (s.decide' f 3).f YK_REL_LAST.OUTCOME 0 = 3 ∧
    (s.decide' f 3).f YK_REL_LATE.COUNT 0 = s.f YK_REL_LATE.COUNT 0 := by
  have hk := State.bump_keep (m := Facet.only .yoke) ((((s.mapYoke (Yoke.decides f)).setF YK_REL_LAST.K 0 f.k).setF
    YK_REL_LAST.LOOP 0 f.loop).setF YK_REL_LAST.OUTCOME 0 3) YK_REL_MISS.COUNT rfl 0
  have hy : (s.decide' f 3).yoke = s.yoke.decides f := yoke_of_keep hk rfl
  refine ⟨?_, ?_, ?_⟩
  · rw [State.isDecided, hy, Yoke.decides, findD_put_self]
    simp
  · rw [State.decide'_three, State.islandTell, State.f_mapIsl, State.f_bump_apart _ (by decide), State.f_setF_self]
    rfl
  · rw [State.decide'_three, State.islandTell, State.f_mapIsl, State.f_bump_apart _ (by decide),
      State.f_setF_apart _ (by decide), State.f_setF_apart _ (by decide), State.f_setF_apart _ (by decide)]
    rfl

/-- The record of a loop that an ARM message carries. -/
def armOf (m : List Byte) : ArmRec :=
  { armed := numAt m 3 1 = 1, period := numAt m 4 4, deadline := numAt m 8 4, start := numAt m 12 8 }

section
variable {s : State} {m : List Byte} {r : List (List Byte)} (hin : (s.link 6).inbox = m :: r) (halive : s.ykAlive = true)
include hin halive

theorem exec_arm_takes (ht : numAt m 0 1 = 4) : exec .arm s = .next (if 16 ≤ numAt m 2 1 then s.ykTaken r
    else (s.ykTaken r).mapYoke fun y => { y with arms := put (numAt m 2 1) (armOf m) y.arms }) :=
  (exec_arm s).trans (State.ykFront_takes hin halive ht _)

theorem exec_missing_takes (ht : numAt m 0 1 = 6) : exec .missing s = .next
    (if 16 ≤ numAt m 2 1 || s.isDecided (numAt m 2 1) (numAt m 4 4) then s.ykTaken r
      else (s.ykTaken r).judgeFrame { s.ykFrame (numAt m 2 1) (numAt m 4 4) with gone := true } false) :=
  (exec_missing s).trans (State.ykFront_takes hin halive ht _)

/-- DIGEST's effect: a frame that is decided counts it. -/
def State.digestStep (m : List Byte) (f : YkFrame) (v : State) : State :=
  if v.isDecided (numAt m 2 1) (numAt m 4 4) then v.bump YK_REL_LATE.COUNT 0
  else v.judgeFrame { f with far := some (numAt m 8 8, numAt m 16 4) } false

/-- A digest comes after its agreement point, of a frame that the twins agree on. -/
def State.digestLate (s : State) (l k : Nat) : Bool :=
  !s.isDecided l k && match (s.ykFrame l k).start with
    | some st => before (s.agreeAt l st) s.ykNow && s.pairedSince st && s.armsAgree l
    | none => false

theorem exec_digest_takes (ht : numAt m 0 1 = 5) :
    exec .digest s = .next (if 16 ≤ numAt m 2 1 then s.ykTaken r
      else (if s.digestLate (numAt m 2 1) (numAt m 4 4) then
          (s.ykTaken r).decide' (s.ykFrame (numAt m 2 1) (numAt m 4 4)) 3 else s.ykTaken r).digestStep m
        (s.ykFrame (numAt m 2 1) (numAt m 4 4))) :=
  (exec_digest s).trans (State.ykFront_takes hin halive ht _)

theorem exec_digest_beyond (ht : numAt m 0 1 = 5) (hl : 16 ≤ numAt m 2 1) : exec .digest s = .next (s.ykTaken r) :=
  (exec_digest_takes hin halive ht).trans (congrArg Host.Outcome.next (if_pos hl))

theorem exec_digest_early (ht : numAt m 0 1 = 5) (hl : numAt m 2 1 < 16)
    (hn : s.digestLate (numAt m 2 1) (numAt m 4 4) = false) :
    exec .digest s = .next ((s.ykTaken r).digestStep m (s.ykFrame (numAt m 2 1) (numAt m 4 4))) := by
  rw [exec_digest_takes hin halive ht, if_neg (Nat.not_le.mpr hl), hn]
  rfl

/-- A digest that comes too late decides its frame and is counted. -/
theorem exec_digest_late (ht : numAt m 0 1 = 5) (hl : numAt m 2 1 < 16)
    (hn : s.digestLate (numAt m 2 1) (numAt m 4 4) = true) : answers .digest s fun u =>
      u.isDecided (numAt m 2 1) (numAt m 4 4) = true ∧
      u.f YK_REL_LATE.COUNT 0 = (s.bump YK_REL_LATE.COUNT 0).f YK_REL_LATE.COUNT 0 ∧ u.f YK_REL_LAST.OUTCOME 0 = 3 := by
  have he := exec_digest_takes hin halive ht
  rw [if_neg (Nat.not_le.mpr hl), hn, if_pos rfl] at he
  obtain ⟨hk1, hk2⟩ := s.ykFrame_key (numAt m 2 1) (numAt m 4 4)
  obtain ⟨h1, h2, h3⟩ := (s.ykTaken r).decide'_missing (s.ykFrame (numAt m 2 1) (numAt m 4 4))
  rw [hk1, hk2] at h1
  rw [State.digestStep, if_pos h1] at he
  refine ⟨_, he, ?_, ?_, (State.f_bump_apart _ (by decide) 0 0).trans h2⟩
  · have hy := State.bump_keep (m := Facet.only .yoke) ((s.ykTaken r).decide' (s.ykFrame (numAt m 2 1) (numAt m 4 4)) 3)
      YK_REL_LATE.COUNT rfl 0
    unfold State.isDecided at h1 ⊢
    rw [yoke_of_keep hy rfl]
    exact h1
  · rw [State.f_bump_self (w := 32) _ rfl, State.f_bump_self (w := 32) _ rfl, h3]
    rfl

theorem exec_hash_takes (ht : numAt m 0 1 = 7) : exec .hash s = .next (((s.ykTaken r).mapYoke fun y =>
    { y with twinHashes := (((numAt m 2 1, numAt m 4 4), numAt m 8 8) :: y.twinHashes).take hashKept }).hashCompare
      (numAt m 2 1) (numAt m 4 4)) :=
  (exec_hash s).trans (State.ykFront_takes hin halive ht _)

end

/-- The comparison of a frame's hashes where the twin's has just come. -/
theorem State.hashCompare_leaves {s : State} {l k h : Nat} (ht : s.yoke.twinHashes.find? (fun x => x.1 = (l, k)) = some ((l, k), h)) :
    (s.yoke.hashes.find? (fun x => x.1 = (l, k)) = none → s.hashCompare l k = s) ∧
    ∀ a, s.yoke.hashes.find? (fun x => x.1 = (l, k)) = some a →
      (a.2 = h → (s.hashCompare l k).f YK_DIVCNT.COUNT 0 = s.f YK_DIVCNT.COUNT 0) ∧
      (a.2 ≠ h → (s.hashCompare l k).on YK_EVENT.DIVERGENCE 0 = true) := by
  refine ⟨fun hn => ?_, fun a ha => ⟨fun he => ?_, fun he => ?_⟩⟩
  · unfold State.hashCompare
    rw [hn]
  · unfold State.hashCompare
    rw [ha, ht]
    dsimp only
    rw [if_pos he]
    rfl
  · unfold State.hashCompare
    rw [ha, ht]
    dsimp only
    rw [if_neg he, State.on, State.log1_f _ _ _ _ (by decide), State.f_bump_apart _ (by decide), ← State.on,
      State.on_setOn_self _ rfl]

/-- Settles O45: each message is taken by its equation; the engine changes of the yoke only its queue, its next slot and
its next ID. -/
theorem yokeTransferAndAgreementResults : Obligations.YokeTransferAndAgreementResults := by
  unfold Obligations.YokeTransferAndAgreementResults
  refine ⟨?_, ?_, ?_, ?_, ?_⟩
  · intro s agent tail acts may ahead size
    have hr : ykReach agent = true ↔ may := by
      cases agent with
      | plot p => exact decide_eq_true_iff
      | _ => exact iff_of_true rfl trivial
    refine ⟨fun ha => ?_, fun ha hm => ?_, fun ha hm h => ?_, fun ha hm h => ?_, fun ha hm he => ?_, fun ha hm he => ?_⟩
    · have ha' : (!s.acts agent) = true := by rw [Bool.eq_false_iff.mpr ha]; rfl
      exact ⟨(exec_xqDoorbell ..).trans (congrArg Host.Outcome.next (if_pos ha')),
        (exec_xqDisable ..).trans (congrArg Host.Outcome.next (if_pos ha'))⟩
    · have ha' : ¬(!s.acts agent) = true := by rw [show s.acts agent = true from ha]; decide
      have hr' : (!ykReach agent) = true := by rw [Bool.eq_false_iff.mpr (fun e => hm (hr.mp e))]; rfl
      exact ⟨(exec_xqDoorbell ..).trans (congrArg Host.Outcome.next ((if_neg ha').trans (if_pos hr'))),
        (exec_xqDisable ..).trans (congrArg Host.Outcome.next ((if_neg ha').trans (if_pos hr')))⟩
    · exact (exec_xqDoorbell_mayed ha (hr.mpr hm) tail).trans (congrArg Host.Outcome.next (if_pos h))
    · exact (exec_xqDoorbell_mayed ha (hr.mpr hm) tail).trans (congrArg Host.Outcome.next (if_neg (Nat.not_lt.mpr h)))
    · exact (exec_xqDisable_mayed ha (hr.mpr hm)).trans (congrArg Host.Outcome.next (if_pos (by rw [he]; rfl)))
    · exact exec_xqDisable_done ha (hr.mpr hm) he
  · intro s res
    cases hin : (s.link 6).inbox with
    | nil => trivial
    | cons m r =>
      intro halive t op id len dst copy word v
      refine ⟨fun ht => ⟨fun hd => ?_, fun hd hc => ?_, fun hd hw => ?_, fun hd hc hw => ?_⟩, fun ht => ?_, fun ht hr => ?_,
        fun ht => exec_xreport_resolves hin halive ht⟩
      · exact exec_xreq_done hin halive ht hd
      · exact (exec_xreq_new hin halive ht hd).trans (congrArg Host.Outcome.next (if_pos (xreq_copy_iff.mpr hc)))
      · have h1 : ¬op = 1 := fun e => absurd (hw.1.symm.trans e) (by decide)
        exact (exec_xreq_new hin halive ht hd).trans (congrArg Host.Outcome.next
          ((if_neg (fun e => h1 (xreq_copy_iff.mp e).1)).trans (if_pos (xreq_word_iff.mpr hw))))
      · exact (exec_xreq_new hin halive ht hd).trans (congrArg Host.Outcome.next
          ((if_neg (fun e => hc (xreq_copy_iff.mp e))).trans (if_neg (fun e => hw (xreq_word_iff.mp e)))))
      · have he : exec (.xdata res) s = .next { State.xdataStep m { t with res := res } with res := .ok } :=
          exec_xdata_takes hin halive ht res
        cases hw : s.yoke.incoming with
        | none =>
          rw [State.xdataStep_none (t := { t with res := res }) hw] at he
          exact he
        | some w =>
          refine ⟨fun ho => ?_, fun hi hg => ?_⟩
          · rw [State.xdataStep_other (t := { t with res := res }) hw ho] at he
            exact he
          · intro n
            cases hn : State.writeNormal { t with res := res } (w.dst + w.got) 2 9 ((m.drop 16).take n) with
            | mk ok u =>
              have hs := State.xdataStep_next (t := { t with res := res }) hw hi hg hn
              rw [hs] at he
              refine ⟨fun hl => ?_, fun hl ho => ?_, fun hl ho => ?_⟩
              · rw [if_pos hl] at he
                exact he
              · rw [if_neg (Nat.not_lt.mpr hl), if_pos ho] at he
                exact he
              · rw [if_neg (Nat.not_lt.mpr hl), if_neg (Bool.eq_false_iff.mp ho)] at he
                have hy := (u.mapYoke fun y => { y with incoming := none }).sendXack_yoke w.id 2
                exact ⟨_, he, (congrArg Yoke.incoming hy :), (congrArg Yoke.done hy :)⟩
      · cases hq : s.yoke.xq with
        | nil => exact exec_xack_none hin halive ht hr hq
        | cons x l =>
          cases l with
          | cons _ _ => trivial
          | nil =>
            intro hd
            refine ⟨fun hid => ⟨_, exec_xack_other hin halive ht hr hq hd hid, hq, ?_⟩,
              exec_xack_own hin halive ht hr hq hd⟩
            exact congrArg LinkRec.inbox (State.link_setLink_self ..)
  · intro s
    cases hin : (s.link 6).inbox with
    | nil => trivial
    | cons m r =>
      intro halive t l k f late counted
      refine ⟨fun ht => ⟨fun hl => ?_, fun hl => ?_⟩, fun ht => ?_, fun ht => ⟨fun h => ?_, fun hl hd => ?_⟩, fun ht => ?_⟩
      · exact (exec_arm_takes hin halive ht).trans (congrArg Host.Outcome.next (if_pos hl))
      · exact ⟨_, (exec_arm_takes hin halive ht).trans (congrArg Host.Outcome.next (if_neg (Nat.not_le.mpr hl))),
          find_put_self ..⟩
      · have hL : s.digestLate l k = true ↔ s.isDecided l k = false ∧ late := by
          unfold State.digestLate
          rw [Bool.and_eq_true, Bool.not_eq_true']
          refine and_congr_right fun _ => ?_
          change (match f.start with | some st => _ | none => _) = true ↔ (match f.start with | some st => _ | none => _)
          cases f.start with
          | none => simp
          | some st => simp only [Bool.and_eq_true, and_assoc]
        refine ⟨exec_digest_beyond hin halive ht, fun hl hd => ?_, fun hl hd ha => ?_, fun hl hd ha => ?_⟩
        · have hn : s.digestLate l k = false := Bool.eq_false_iff.mpr fun e => absurd (hL.mp e).1 (by rw [hd]; decide)
          exact (exec_digest_early hin halive ht hl hn).trans (congrArg Host.Outcome.next (if_pos hd))
        · obtain ⟨u, he, h1, h2, h3⟩ := exec_digest_late hin halive ht hl (hL.mpr ⟨hd, ha⟩)
          refine ⟨u, he, h1, ?_, h3⟩
          rw [State.f_bump_self (w := 32) _ rfl] at h2
          refine h2.trans ?_
          generalize s.f YK_REL_LATE.COUNT 0 = n
          dsimp only
          split <;> omega
        · have hn : s.digestLate l k = false := Bool.eq_false_iff.mpr fun e => ha (hL.mp e).2
          exact (exec_digest_early hin halive ht hl hn).trans
            (congrArg Host.Outcome.next (if_neg (Bool.eq_false_iff.mp hd)))
      · exact (exec_missing_takes hin halive ht).trans (congrArg Host.Outcome.next (if_pos (by simpa using h)))
      · refine (exec_missing_takes hin halive ht).trans (congrArg Host.Outcome.next (if_neg ?_))
        rw [hd, Bool.or_false, decide_eq_true_eq]
        exact Nat.not_le.mpr hl
      · have he := exec_hash_takes hin halive ht
        obtain ⟨h1, h2⟩ := State.hashCompare_leaves (s := (s.ykTaken r).mapYoke fun y =>
          { y with twinHashes := (((l, k), numAt m 8 8) :: y.twinHashes).take hashKept }) (List.find?_cons_of_pos (by simp))
        cases ha : s.yoke.hashes.find? (fun x => x.1 = (l, k)) with
        | none => exact ⟨_, he, (congrArg (State.f · YK_DIVCNT.COUNT 0) (h1 ha)).trans rfl⟩
        | some a => exact ⟨fun hh => ⟨_, he, (h2 a ha).1 hh⟩, fun hh => ⟨_, he, (h2 a ha).2 hh⟩⟩
  · intro s l k
    rw [exec_agreementPoint, execAgreementPoint]
    cases hf : s.yoke.frames.find? fun f => f.loop = l.val && f.k = k.toNat with
    | none => rfl
    | some f =>
      dsimp only
      cases f.start <;> rfl
  · intro s f due
    cases hs : f.start with
    | none => trivial
    | some st =>
      cases ha : f.loc with
      | none => trivial
      | some a =>
        cases hb : f.far with
        | none => trivial
        | some b =>
          intro hp hg hn
          unfold State.outcome
          rw [hs, ha, hb]
          dsimp only
          rw [hp, hg, hn]
          rfl

end Sys2Proof.Machine
end

section
/-! PROOF. The refutation whose thread number does not fit its register: GLN_DREG_SEL.THREAD has 10 bits. -/

namespace Sys2Proof.Machine

/-! ### A register access of a Drill core's last threads (R538) -/

/-- A package whose logic runs, with nothing halted. -/
def accessAwake : State where
  clk := { porstHeld := false, porstLow := false }

theorem accessAwake_facts : accessAwake.acts .tap = true ∧ (accessAwake.thread 1024).mode ≠ .halted := by
  decide

/-- The access of thread 1024 leaves 0 in THREAD. -/
theorem accessAwake_accesses : ∃ u, exec (.dregAccess .tap false 1024 0 0) accessAwake = .next u ∧
    u.f GLN_DREG_SEL.THREAD 0 = 0 :=
  ⟨_, rfl, by decide⟩

/-- Refutes O58: after a register access GLN_DREG_SEL.THREAD, of 10 bits, does not read the number of one of the last 32
threads, those of Drill's cores from 1024 on. -/
theorem not_tapAndDebugResults : ¬ Obligations.TapAndDebugResults := by
  unfold Obligations.TapAndDebugResults
  intro h
  obtain ⟨hacts, hmode⟩ := accessAwake_facts
  obtain ⟨u, hu, hthread⟩ := accessAwake_accesses
  obtain ⟨-, -, -, -, -, -, -, -, haccess, -⟩ := h
  obtain ⟨-, herror, -⟩ := haccess accessAwake .tap false 1024 0 0
  obtain ⟨v, hv, ⟨-, hkept, -⟩, -⟩ := herror ⟨hacts, rfl⟩ fun e => hmode e.1
  cases Host.Outcome.next.inj (hu.symm.trans hv)
  exact absurd (hthread.symm.trans hkept) (by decide)

end Sys2Proof.Machine
end

section
/-! PROOF. Drill's queues: doorbells, polls, fetching and the sequence recheck (R320, R336, R338, R341). -/

namespace Sys2Proof.Machine

theorem queueReach_iff (agent : Agent) (q : Nat) : queueReach agent q = true ↔ match agent with
    | .plot p => p.val = 0 ∨ p.val = q / 8
    | _ => True := by
  cases agent with
  | plot p => simp only [queueReach, Bool.or_eq_true, decide_eq_true_eq]
  | _ => exact iff_of_true rfl trivial

section
variable {s : State} {agent : Agent} {q : Fin 4096}

theorem exec_queues_unreached (h : ¬(s.acts agent && queueReach agent q) = true) (v : BitVec 32) :
    exec (.doorbell agent q v) s = .next s ∧ exec (.queueEnable agent q) s = .next s ∧
      exec (.queueDisable agent q) s = .next s :=
  ⟨(exec_doorbell ..).trans (congrArg Host.Outcome.next (if_neg h)),
    (exec_queueEnable ..).trans (congrArg Host.Outcome.next (if_neg h)),
    (exec_queueDisable ..).trans (congrArg Host.Outcome.next (if_neg h))⟩

variable (h : (s.acts agent && queueReach agent q) = true)
include h

theorem exec_doorbell_reached (v : BitVec 32) : exec (.doorbell agent q v) s = .next (s.doorbell q v.toNat) :=
  (exec_doorbell ..).trans (congrArg Host.Outcome.next (if_pos h))

theorem exec_queueEnable_reached : exec (.queueEnable agent q) s = .next (s.queueEnable q) :=
  (exec_queueEnable ..).trans (congrArg Host.Outcome.next (if_pos h))

theorem exec_queueDisable_reached : exec (.queueDisable agent q) s = .next (s.queueDisable q) :=
  (exec_queueDisable ..).trans (congrArg Host.Outcome.next (if_pos h))

end

section
variable (s : State) (q : Nat)

theorem State.queue_setQueue_self (r : QueueRec) : (s.setQueue q r).queue q = r := findD_put_self ..

theorem State.queueEnable_kept (h : s.on DRL_Q_CFG.EN q = true ∨ s.f DRL_Q_CFG.LOG2SIZE q < 6 ∨
    16 < s.f DRL_Q_CFG.LOG2SIZE q) : s.queueEnable q = s := by
  unfold State.queueEnable
  exact if_pos (by simpa [or_assoc] using h)

/-- An enabled queue starts empty. -/
theorem State.queueEnable_starts (he : s.on DRL_Q_CFG.EN q = false) (hl : 6 ≤ s.f DRL_Q_CFG.LOG2SIZE q)
    (hu : s.f DRL_Q_CFG.LOG2SIZE q ≤ 16) :
    (s.queueEnable q).on DRL_Q_CFG.EN q = true ∧ (s.queueEnable q).f DRL_Q_HEAD.COUNT q = 0 ∧
    (s.queueEnable q).f DRL_Q_TAIL.COUNT q = 0 ∧ (s.queueEnable q).f DRL_CR_HEAD.COUNT q = 0 ∧
    (s.queueEnable q).f DRL_CR_TAIL.COUNT q = 0 ∧ (s.queueEnable q).queue q = {} := by
  have hs : s.queueEnable q = ((((((s.setF DRL_Q_HEAD.COUNT q 0).setF DRL_Q_TAIL.COUNT q 0).setF DRL_CR_HEAD.COUNT q 0).setF
      DRL_CR_TAIL.COUNT q 0).setQueue q {}).setOn DRL_Q_CFG.EN q true) := by
    unfold State.queueEnable
    refine if_neg ?_
    rw [he]
    simp only [Bool.false_or, Bool.or_eq_true, decide_eq_true_eq]
    omega
  have hq : ∀ (u : State) F i, (u.setQueue q {}).f F i = u.f F i := fun _ _ _ => rfl
  rw [hs]
  refine ⟨State.on_setOn_self _ rfl q true, ?_, ?_, ?_, ?_, State.queue_setQueue_self _ q {}⟩
  all_goals rw [State.f_setOn_apart _ (by decide), hq]
  · rw [State.f_setF_apart _ (by decide), State.f_setF_apart _ (by decide), State.f_setF_apart _ (by decide),
      State.f_setF_self]
    rfl
  · rw [State.f_setF_apart _ (by decide), State.f_setF_apart _ (by decide), State.f_setF_self]
    rfl
  · rw [State.f_setF_apart _ (by decide), State.f_setF_self]
    rfl
  · rw [State.f_setF_self]
    rfl

theorem State.queueDisable_stops : (s.queueDisable q).on DRL_Q_CFG.EN q = false ∧ ((s.queueDisable q).queue q).rereads = none ∧
    (s.queueDisable q).drill.ledger = s.drill.ledger :=
  ⟨State.on_setOn_self _ rfl q false, congrArg QueueRec.rereads (State.queue_setQueue_self s q _), rfl⟩

end

/-! ### Fetching -/

section
variable (s : State) (q e : Nat) (b : List Byte)

/-- A fetch ends the queue's rereads and an episode of a full ledger (R336). -/
def State.fetchBegun : State :=
  let v := s.setQueue q { s.queue q with rereads := none, reading := false }
  if v.on DRL_STATUS.FULL 0 then
    let w := v.setOn DRL_STATUS.FULL 0 false
    { w with drill := { w.drill with queues := w.drill.queues.map fun x => (x.1, { x.2 with told := false }) } }
  else v

theorem State.fetchBegun_leaves : (s.fetchBegun q).f DRL_Q_HEAD.COUNT q = s.f DRL_Q_HEAD.COUNT q ∧
    (s.fetchBegun q).drill.order = s.drill.order ∧ (s.fetchBegun q).now = s.now := by
  unfold State.fetchBegun
  dsimp only
  split
  · exact ⟨State.f_setOn_apart _ (by decide) 0 q false, rfl, State.f_setOn_apart _ (by decide) 0 0 false⟩
  · exact ⟨rfl, rfl, rfl⟩

/-- The entry of a packet, by its queue, its number, its place in the order and its time. -/
def Entry.ofPacket (q seq order t : Nat) (b : List Byte) : Entry :=
  { plot := q / 8, queue := q % 8, seq := seq, tag := numAt b 2 2, opcode := numAt b 0 1, packet := b,
    order := order, state := .parse, since := some t }

/-- The entry that a packet takes. -/
def State.fetchedEntry : Entry := .ofPacket q (s.f DRL_Q_HEAD.COUNT q) s.drill.order s.now b

/-- The entry taken, the next place in the order, and the queue that its priority served last. -/
def State.entryTaken (x : Entry) : State :=
  let v := (s.setEntry e x).cmdTrace e x 0 0
  { v with drill := { v.drill with order := v.drill.order + 1, served := put (v.f DRL_Q_CFG.PRIO q) q v.drill.served } }

theorem State.entryTaken_leaves (x : Entry) : (s.entryTaken q e x).f DRL_Q_HEAD.COUNT q = s.f DRL_Q_HEAD.COUNT q ∧
    (s.entryTaken q e x).drill.order = s.drill.order + 1 ∧ (s.entryTaken q e x).entry e = some x := by
  have hk := State.cmdTrace_keep (m := among [.blk .DRL, .drill]) rfl rfl (s.setEntry e x) e x 0 0
  have hd : ((s.setEntry e x).cmdTrace e x 0 0).drill = (s.setEntry e x).drill := drill_of_keep hk rfl
  refine ⟨(f_of_keep hk (F := DRL_Q_HEAD.COUNT) rfl q : _), congrArg (·.order + 1) hd, ?_⟩
  exact (congrArg (find e ·.ledger) hd).trans (find_put_self ..)

theorem State.fetched_eq : s.fetched q e b =
    (((s.fetchBegun q).entryTaken q e (s.fetchedEntry q b)).wrapInc DRL_Q_HEAD.COUNT q).tally 0x051 0 1 := by
  obtain ⟨-, ho, hn⟩ := s.fetchBegun_leaves q
  have hx : s.fetchedEntry q b =
      .ofPacket q (s.f DRL_Q_HEAD.COUNT q) (s.fetchBegun q).drill.order (s.fetchBegun q).now b := by
    rw [ho, hn]
    rfl
  rw [hx]
  rfl

/-- What a fetch leaves. -/
theorem State.fetched_leaves : (s.fetched q e b).f DRL_Q_HEAD.COUNT q = (s.f DRL_Q_HEAD.COUNT q + 1) % 2 ^ 32 ∧
    (s.fetched q e b).drill.order = s.drill.order + 1 ∧ (s.fetched q e b).entry e = some (s.fetchedEntry q b) := by
  obtain ⟨hh, ho, -⟩ := s.fetchBegun_leaves q
  obtain ⟨h1, h2, h3⟩ := (s.fetchBegun q).entryTaken_leaves q e (s.fetchedEntry q b)
  rw [State.fetched_eq]
  generalize (s.fetchBegun q).entryTaken q e (s.fetchedEntry q b) = v at h1 h2 h3
  have hk := State.tally_keep (m := among [.blk .DRL, .drill]) rfl rfl rfl (v.wrapInc DRL_Q_HEAD.COUNT q) 0x051 0 1
  have hd := drill_of_keep hk rfl
  refine ⟨(f_of_keep hk (F := DRL_Q_HEAD.COUNT) rfl q).trans ?_, (congrArg Drill.order hd).trans (h2.trans ?_), ?_⟩
  · unfold State.wrapInc
    rw [State.f_setF_self, h1, hh]
    rfl
  · rw [ho]
  · exact (congrArg (fun d : Drill => find e d.ledger) hd).trans h3

end

/-! ### Refusals -/

section
variable {s : State} {e : Nat} {x : Entry} (h : s.entry e = some x)
include h

theorem State.modEntry_some (f : Entry → Entry) : s.modEntry e f = s.setEntry e (f x) := by
  unfold State.modEntry
  rw [h]

theorem State.refuse_some (r : Reply) : s.refuse e r = s.setEntry e { x with state := .retiring, reply := some r } :=
  State.modEntry_some h _

theorem State.endWork_some (r : Reply) : s.endWork e r =
    s.setEntry e { x with away := false, reply := some (x.reply.getD r) } := State.modEntry_some h _

/-- A packet whose own checks fail is refused. -/
theorem State.parse_step1 {r : Reply} (hp : x.state = .parse) (ha : x.away = false) (hr : x.step1 = some r) :
    s.parse e = s.refuse e r := by
  unfold State.parse
  rw [h]
  dsimp only
  rw [hp, ha, hr]
  rfl

end

theorem State.entry_setEntry_self (s : State) (e : Nat) (x : Entry) : (s.setEntry e x).entry e = some x := find_put_self ..

/-! ### A packet that has been read (R338) -/

section
variable {s : State} {q e : Nat} {b : List Byte} (he : s.entry e = none)
include he

theorem State.takePacket_inOrder (h : numAt b 4 4 = s.f DRL_Q_HEAD.COUNT q) :
    s.takePacket q e b = ((s.setQueue q { s.queue q with reading := false }).fetched q e b).parse e := by
  have he' : (s.setQueue q { s.queue q with reading := false }).entry e = none := he
  unfold State.takePacket
  dsimp only
  rw [he']
  exact if_pos h

theorem State.takePacket_outOfOrder (h : numAt b 4 4 ≠ s.f DRL_Q_HEAD.COUNT q) : s.takePacket q e b =
    match (s.queue q).rereads with
    | none => (s.setQueue q { s.queue q with reading := false }).setQueue q { s.queue q with rereads := some 0, reading := false }
    | some 0 => (s.setQueue q { s.queue q with reading := false }).setQueue q { s.queue q with rereads := some 1, reading := false }
    | some _ => ((s.setQueue q { s.queue q with reading := false }).fetched q e b).refuse e { status := stBad, detail := dtSeq } := by
  have he' : (s.setQueue q { s.queue q with reading := false }).entry e = none := he
  unfold State.takePacket
  dsimp only
  rw [he']
  exact if_neg h

end

/-- What a packet that has been taken leaves. -/
def State.Taken (s : State) (q e : Nat) (b : List Byte) (u : State) : Prop :=
  u.f DRL_Q_HEAD.COUNT q = (s.f DRL_Q_HEAD.COUNT q + 1) % 2 ^ 32 ∧ u.drill.order = s.drill.order + 1 ∧
  ∃ x, u.entry e = some x ∧ x.plot = q / 8 ∧ x.queue = q % 8 ∧ x.seq = s.f DRL_Q_HEAD.COUNT q ∧ x.tag = numAt b 2 2 ∧
    x.opcode = numAt b 0 1 ∧ x.packet = b ∧ x.order = s.drill.order

theorem State.fetched_taken (s : State) (q e : Nat) (b : List Byte) : s.Taken q e b (s.fetched q e b) := by
  obtain ⟨h1, h2, h3⟩ := s.fetched_leaves q e b
  exact ⟨h1, h2, _, h3, rfl, rfl, rfl, rfl, rfl, rfl, rfl⟩

/-- A refusal leaves the packet taken. -/
theorem State.refused_taken (s : State) (q e : Nat) (b : List Byte) (r : Reply) :
    s.Taken q e b ((s.fetched q e b).refuse e r) ∧
    (((s.fetched q e b).refuse e r).entry e).bind (·.reply) = some r ∧
    ∃ x, ((s.fetched q e b).refuse e r).entry e = some x ∧ x.state = .retiring ∧ x.reply = some r := by
  obtain ⟨h1, h2, h3⟩ := s.fetched_leaves q e b
  rw [State.refuse_some h3]
  generalize s.fetched q e b = v at h1 h2 ⊢
  have he := v.entry_setEntry_self e { s.fetchedEntry q b with state := .retiring, reply := some r }
  exact ⟨⟨h1, h2, _, he, rfl, rfl, rfl, rfl, rfl, rfl, rfl⟩, congrArg (Option.bind · _) he, _, he, rfl, rfl⟩

/-! ### A full ledger (R336) -/

/-- A reply in its ring's place and in the retained copy, with the ring's head advanced. -/
def State.replyStored (s : State) (q slot : Nat) (b : List Byte) : State :=
  let v := (s.putBytes (q / 8) (s.crBase q + 32 * slot) b).2
  (v.setQueue q { v.queue q with retained := put slot b (v.queue q).retained }).wrapInc DRL_CR_HEAD.COUNT q

theorem State.replyStored_leaves (s : State) (q slot : Nat) (b : List Byte) :
    (s.replyStored q slot b).drill.ledger = s.drill.ledger ∧
    (s.replyStored q slot b).f DRL_CR_HEAD.COUNT q = (s.f DRL_CR_HEAD.COUNT q + 1) % 2 ^ 32 ∧
    find slot ((s.replyStored q slot b).queue q).retained = some b ∧
    ∀ F : Fld, F.blk = .DRL → F.apart DRL_CR_HEAD.COUNT = true → ∀ i, (s.replyStored q slot b).f F i = s.f F i := by
  have hk := State.putBytes_keep (m := among [.blk .DRL, .drill]) rfl rfl rfl rfl rfl rfl rfl rfl rfl s (q / 8)
    (s.crBase q + 32 * slot) b
  have hf : ∀ F : Fld, F.blk = .DRL → ∀ i, (s.putBytes (q / 8) (s.crBase q + 32 * slot) b).2.f F i = s.f F i :=
    fun F hF i => f_of_keep hk (by rw [hF]; rfl) i
  have hd := drill_of_keep hk rfl
  unfold State.replyStored
  dsimp only
  generalize (s.putBytes (q / 8) (s.crBase q + 32 * slot) b).2 = v at hf hd ⊢
  refine ⟨(congrArg Drill.ledger hd :), ?_, ?_, fun F hF ha i => (State.f_wrapInc_apart _ ha q i).trans (hf F hF i)⟩
  · rw [← hf DRL_CR_HEAD.COUNT rfl q]
    exact State.f_setF_self ..
  · exact (congrArg (fun r : QueueRec => find slot r.retained) (v.queue_setQueue_self q _)).trans (find_put_self ..)

/-- A reply is stored; a vector may be raised for it. -/
theorem State.writeReply_eq (s : State) (q seq : Nat) (r : Reply) (info quiet : Bool) (tag opcode : Nat) :
    let n := s.f DRL_CR_HEAD.COUNT q
    let u := s.replyStored q (n % s.qSize q) (replyBytes seq r info (phaseOf n (s.qSize q)) tag (q % 8) opcode s.now)
    s.writeReply q seq r info quiet tag opcode =
      if quiet || u.detached (q / 8) then u else u.notify (q / 8) (u.f DRL_Q_CFG.VEC q) := rfl

theorem State.writeReply_keeps (s : State) (q seq : Nat) (r : Reply) (info quiet : Bool) (tag opcode : Nat) :
    (s.writeReply q seq r info quiet tag opcode).keep (among [.blk .DRL, .drill]) =
      (s.replyStored q (s.f DRL_CR_HEAD.COUNT q % s.qSize q) (replyBytes seq r info
        (phaseOf (s.f DRL_CR_HEAD.COUNT q) (s.qSize q)) tag (q % 8) opcode s.now)).keep (among [.blk .DRL, .drill]) := by
  rw [State.writeReply_eq]
  split
  · rfl
  · exact State.notify_keep rfl rfl ..

/-- What a reply leaves of the queue and of the ledger. -/
theorem State.writeReply_leaves (s : State) (q seq : Nat) (r : Reply) (info quiet : Bool) (tag opcode : Nat) :
    let n := s.f DRL_CR_HEAD.COUNT q
    let u := s.writeReply q seq r info quiet tag opcode
    u.drill.ledger = s.drill.ledger ∧ u.f DRL_CR_HEAD.COUNT q = (n + 1) % 2 ^ 32 ∧
    find (n % s.qSize q) (u.queue q).retained =
      some (replyBytes seq r info (phaseOf n (s.qSize q)) tag (q % 8) opcode s.now) ∧
    ∀ F : Fld, F.blk = .DRL → F.apart DRL_CR_HEAD.COUNT = true → ∀ i, u.f F i = s.f F i := by
  intro n u
  have hk := s.writeReply_keeps q seq r info quiet tag opcode
  obtain ⟨h1, h2, h3, h4⟩ := s.replyStored_leaves q (n % s.qSize q)
    (replyBytes seq r info (phaseOf n (s.qSize q)) tag (q % 8) opcode s.now)
  have hd := drill_of_keep hk rfl
  refine ⟨(congrArg Drill.ledger hd).trans h1, (f_of_keep hk (F := DRL_CR_HEAD.COUNT) rfl q).trans h2, ?_,
    fun F hF ha i => (f_of_keep hk (by rw [hF]; rfl) i).trans (h4 F hF ha i)⟩
  have hq : u.queue q = (s.replyStored q (n % s.qSize q) (replyBytes seq r info (phaseOf n (s.qSize q)) tag (q % 8) opcode
      s.now)).queue q := congrArg (fun d : Drill => findD ({} : QueueRec) q d.queues) hd
  rw [hq]
  exact h3

/-- A queue is told of the full ledger. -/
def State.tellFull (s : State) (q : Nat) : State :=
  if s.qWaiting q && !(s.queue q).told && 0 < s.ringFree q then
    (s.setQueue q { s.queue q with told := true }).writeReply q (s.f DRL_Q_HEAD.COUNT q) { status := stFull } true false 0 0
  else s

theorem State.tellFull_leaves (s : State) (q : Nat) : (s.tellFull q).drill.ledger = s.drill.ledger ∧
    ∀ F : Fld, F.blk = .DRL → F.apart DRL_CR_HEAD.COUNT = true → ∀ i, (s.tellFull q).f F i = s.f F i := by
  unfold State.tellFull
  split
  · obtain ⟨h1, -, -, h4⟩ := (s.setQueue q { s.queue q with told := true }).writeReply_leaves q (s.f DRL_Q_HEAD.COUNT q)
      { status := stFull } true false 0 0
    exact ⟨h1, h4⟩
  · exact ⟨rfl, fun _ _ _ _ => rfl⟩

theorem State.tellFulls_leaves (s : State) (l : List Nat) : (l.foldl State.tellFull s).drill.ledger = s.drill.ledger ∧
    ∀ F : Fld, F.blk = .DRL → F.apart DRL_CR_HEAD.COUNT = true → ∀ i, (l.foldl State.tellFull s).f F i = s.f F i := by
  induction l generalizing s with
  | nil => exact ⟨rfl, fun _ _ _ _ => rfl⟩
  | cons q l ih =>
    obtain ⟨h1, h2⟩ := ih (s.tellFull q)
    obtain ⟨h3, h4⟩ := s.tellFull_leaves q
    exact ⟨h1.trans h3, fun F hF ha i => (h2 F hF ha i).trans (h4 F hF ha i)⟩

/-- The episode of a full ledger is shown, and counted once. -/
theorem State.ledgerFull_leaves (s : State) : s.ledgerFull.on DRL_STATUS.FULL 0 = true ∧
    s.ledgerFull.drill.ledger = s.drill.ledger ∧
    (s.on DRL_STATUS.FULL 0 = true → s.ledgerFull.f DRL_FULLCNT.COUNT 0 = s.f DRL_FULLCNT.COUNT 0) := by
  let v := if s.on DRL_STATUS.FULL 0 then s else (s.setOn DRL_STATUS.FULL 0 true).bump DRL_FULLCNT.COUNT 0
  have hs : s.ledgerFull = v.enabledQueues.foldl State.tellFull v := rfl
  obtain ⟨h1, h2⟩ := v.tellFulls_leaves v.enabledQueues
  rw [hs, State.on, h2 _ rfl (by decide), h2 _ rfl (by decide), h1]
  cases hf : s.on DRL_STATUS.FULL 0 with
  | true =>
    have hv : v = s := if_pos hf
    rw [hv]
    exact ⟨hf, rfl, fun _ => rfl⟩
  | false =>
    have hv : v = (s.setOn DRL_STATUS.FULL 0 true).bump DRL_FULLCNT.COUNT 0 := if_neg (Bool.eq_false_iff.mp hf)
    rw [hv]
    refine ⟨?_, ?_, fun h => absurd h (by decide)⟩
    · rw [State.f_bump_apart _ (by decide), ← State.on]
      exact State.on_setOn_self _ rfl 0 true
    · exact congrArg Drill.ledger (drill_of_keep (m := Facet.only .drill)
        ((State.bump_keep _ _ rfl 0).trans (State.setOn_keep _ _ rfl 0 true)) rfl)

section
variable {s : State} {q e : Fin 4096}

theorem exec_fetch_next (hn : s.nextQueue = some q.val) (he : s.entry e = none) (res : MemRes) :
    exec (.fetch q e res) s = .next (s.withRes res fun s => s.readPacket q e) := by
  have hc : (decide (s.nextQueue = some q.val) && (s.entry e).isNone) = true := by rw [hn, he, decide_eq_true rfl]; rfl
  exact (exec_fetch ..).trans (congrArg Host.Outcome.next (State.withRes_congr (if_pos hc)))

theorem exec_fetch_full (hn : s.nextQueue ≠ some q.val) (hr : s.qReady q = true) (hl : s.ledgerRoom q = false)
    (res : MemRes) : exec (.fetch q e res) s = .next (s.withRes res State.ledgerFull) := by
  have hc : ¬(decide (s.nextQueue = some q.val) && (s.entry e).isNone) = true := by rw [decide_eq_false hn]; exact Bool.false_ne_true
  have hc' : (s.qReady q && !s.ledgerRoom q) = true := by rw [hr, hl]; rfl
  exact (exec_fetch ..).trans (congrArg Host.Outcome.next
    (State.withRes_congr ((if_neg hc).trans (if_pos hc'))))

/-- What a recheck of the sequence number waits for. -/
def State.rechecks (s : State) (q e : Nat) : Bool :=
  (s.queue q).rereads.isSome && !(s.queue q).reading && s.on DRL_Q_CFG.EN q && (s.entry e).isNone && 0 < s.ringFree q

theorem exec_seqRecheck_reads (h : s.rechecks q e = true) (res : MemRes) :
    exec (.seqRecheck q e res) s = .next (s.withRes res fun s => s.readPacket q e) :=
  (exec_seqRecheck ..).trans (congrArg Host.Outcome.next (State.withRes_congr (if_pos h)))

theorem exec_seqRecheck_idle (h : ¬s.rechecks q e = true) (res : MemRes) :
    exec (.seqRecheck q e res) s = .next (s.withRes res id) :=
  (exec_seqRecheck ..).trans (congrArg Host.Outcome.next (State.withRes_congr (if_neg h)))

end

/-! ### Polls of a self-fed queue (R320) -/

section
variable {s : State} {q : Fin 4096}

/-- A poll's own effect. -/
def State.selfPoll (s : State) (q : Nat) : State :=
  let a := s.f DRL_Q_TAILADDR.ADDR q * 4
  match opSpace a with
  | 0 => match s.dmaReadAll (q / 8) (opAddr a) 2 4 with
    | (.data b, s) => s.tailRead q b
    | (_, s) => s
  | 1 => if s.detached (q / 8) then s else (s.hostRead (q / 8) (opAddr a) 4 (.tail q)).getD s
  | _ => s

theorem exec_selfFedPoll_eq (q : Fin 4096) (res : MemRes) (s : State) : exec (.selfFedPoll q res) s = .next
    (s.withRes res fun s => if !s.on DRL_Q_CFG.EN q || !s.on DRL_Q_CFG.SELF q || !s.on DRL_STATUS.RUN 0 then s
      else s.selfPoll q) := rfl

theorem exec_selfFedPoll_idle (h : (!s.on DRL_Q_CFG.EN q || !s.on DRL_Q_CFG.SELF q || !s.on DRL_STATUS.RUN 0) = true)
    (res : MemRes) : exec (.selfFedPoll q res) s = .next (s.withRes res id) :=
  (exec_selfFedPoll_eq ..).trans (congrArg (fun u : State => Host.Outcome.next { u with res := .ok }) (if_pos h))

theorem exec_selfFedPoll_polls (h : ¬(!s.on DRL_Q_CFG.EN q || !s.on DRL_Q_CFG.SELF q || !s.on DRL_STATUS.RUN 0) = true)
    (res : MemRes) : exec (.selfFedPoll q res) s = .next { State.selfPoll { s with res := res } q with res := .ok } :=
  (exec_selfFedPoll_eq ..).trans (congrArg (fun u : State => Host.Outcome.next { u with res := .ok }) (if_neg h))

theorem State.selfPoll_memory {t : State} {q : Nat} (h : opSpace (t.f DRL_Q_TAILADDR.ADDR q * 4) = 0) : t.selfPoll q =
    match t.dmaReadAll (q / 8) (opAddr (t.f DRL_Q_TAILADDR.ADDR q * 4)) 2 4 with
    | (.data b, u) => u.doorbell q (leNat b)
    | (_, u) => u := by
  unfold State.selfPoll
  dsimp only
  rw [h] <;> rfl

theorem State.selfPoll_host {t : State} {q : Nat} (h : opSpace (t.f DRL_Q_TAILADDR.ADDR q * 4) = 1)
    (hd : t.detached (q / 8) = false) :
    t.selfPoll q = (t.hostRead (q / 8) (opAddr (t.f DRL_Q_TAILADDR.ADDR q * 4)) 4 (.tail q)).getD t := by
  unfold State.selfPoll
  dsimp only
  rw [h]
  exact if_neg (Bool.eq_false_iff.mp hd)

/-- A read toward the host, under its tag. -/
def State.readPut (s : State) (plot addr len : Nat) (use : HostUse) (tag : Nat) : State :=
  let s := { s with host := { s.host with reads := put tag ⟨plot, addr, len, use⟩ s.host.reads } }
  if s.canSend plot then s.send (.hostRead tag plot addr len) else s

theorem State.readPut_res (s : State) (r : MemRes) (plot addr len : Nat) (use : HostUse) (tag : Nat) :
    State.readPut { s with res := r } plot addr len use tag = { s.readPut plot addr len use tag with res := r } := by
  have hc : State.canSend { { s with res := r } with host :=
      { s.host with reads := put tag ⟨plot, addr, len, use⟩ s.host.reads } } plot = s.canSend plot := rfl
  have hc' : State.canSend { s with host := { s.host with reads := put tag ⟨plot, addr, len, use⟩ s.host.reads } } plot =
    s.canSend plot := rfl
  unfold State.readPut
  dsimp only
  rw [hc, hc']
  split <;> rfl

/-- A read toward the host has no part in what a memory access brings. -/
theorem State.hostRead_res (s : State) (r : MemRes) (plot addr len : Nat) (use : HostUse) :
    State.hostRead { s with res := r } plot addr len use = (s.hostRead plot addr len use).map fun u => { u with res := r } := by
  have h1 : State.hostRead { s with res := r } plot addr len use =
    (lowestFree hostReadMax s.host.reads).map (State.readPut { s with res := r } plot addr len use) := rfl
  have h2 : s.hostRead plot addr len use = (lowestFree hostReadMax s.host.reads).map (s.readPut plot addr len use) := rfl
  rw [h1, h2, Option.map_map, funext (s.readPut_res r plot addr len use)]
  rfl

theorem exec_selfFedPoll_host (h : ¬(!s.on DRL_Q_CFG.EN q || !s.on DRL_Q_CFG.SELF q || !s.on DRL_STATUS.RUN 0) = true)
    (ha : opSpace (s.f DRL_Q_TAILADDR.ADDR q * 4) = 1) (hd : s.detached (q.val / 8) = false) :
    exec (.selfFedPoll q .ok) s = .next
      { ((s.hostRead (q.val / 8) (opAddr (s.f DRL_Q_TAILADDR.ADDR q * 4)) 4 (.tail q)).getD s) with res := .ok } := by
  have ht : State.selfPoll { s with res := .ok } q =
      ((s.hostRead (q.val / 8) (opAddr (s.f DRL_Q_TAILADDR.ADDR q * 4)) 4 (.tail q)).map fun u => { u with res := .ok }).getD
        { s with res := .ok } := by
    rw [← State.hostRead_res]
    exact State.selfPoll_host (t := { s with res := .ok }) ha hd
  rw [exec_selfFedPoll_polls h, ht]
  cases s.hostRead (q.val / 8) (opAddr (s.f DRL_Q_TAILADDR.ADDR q * 4)) 4 (.tail q) <;> rfl

end

/-- Settles O34: a fetch takes one entry and advances HEAD; the replies of a full ledger leave the ledger and Drill's
registers but for the rings' heads. -/
theorem drillQueueResults : Obligations.DrillQueueResults := by
  unfold Obligations.DrillQueueResults
  refine ⟨?_, ?_, ?_, ?_⟩
  · intro s agent q v n en reach
    have hr : (s.acts agent && queueReach agent q) = true ↔ reach := by
      rw [Bool.and_eq_true, queueReach_iff] <;> rfl
    refine ⟨fun h => exec_queues_unreached (fun e => h (hr.mp e)) v, fun h => ?_⟩
    have h' := hr.mpr h
    refine ⟨exec_doorbell_reached h' v, fun hk => ?_, fun he hl hu => ?_, ?_⟩
    · rw [exec_queueEnable_reached h', s.queueEnable_kept q hk]
    · exact ⟨_, exec_queueEnable_reached h', s.queueEnable_starts q he hl hu⟩
    · exact ⟨_, exec_queueDisable_reached h', s.queueDisable_stops q⟩
  · intro s q res addr polls
    have hbool : ∀ a b c : Bool, (a = true ∧ b = true ∧ c = true) ↔ ¬(!a || !b || !c) = true := by decide
    have hpoll : polls ↔ _ := hbool (s.on DRL_Q_CFG.EN q) (s.on DRL_Q_CFG.SELF q) (s.on DRL_STATUS.RUN 0)
    refine ⟨fun h => ?_, ?_, ?_⟩
    · exact exec_selfFedPoll_idle (of_not_not fun hn => h (hpoll.mpr hn)) res
    · intro h ha
      have he := exec_selfFedPoll_polls (hpoll.mp h) res
      rw [State.selfPoll_memory (t := { s with res := res }) ha] at he
      change match State.dmaReadAll { s with res := res } (q.val / 8) (opAddr addr) 2 4 with | (.data b, u) => _ | (_, u) => _
      revert he
      change _ = Host.Outcome.next { (match State.dmaReadAll { s with res := res } (q.val / 8) (opAddr addr) 2 4 with
        | (.data b, u) => u.doorbell q (leNat b) | (_, u) => u) with res := .ok } → _
      generalize State.dmaReadAll { s with res := res } (q.val / 8) (opAddr addr) 2 4 = d
      intro he
      obtain ⟨d, u⟩ := d
      cases d <;> exact he
    · intro h ha hd
      generalize hg : s.hostRead (q.val / 8) (opAddr addr) 4 (.tail q) = d
      have he := exec_selfFedPoll_host (hpoll.mp h) ha hd
      rw [show s.hostRead (q.val / 8) (opAddr (s.f DRL_Q_TAILADDR.ADDR q * 4)) 4 (.tail q) = d from hg] at he
      cases d <;> exact he
  · intro s q e res r
    refine ⟨fun hn he => exec_fetch_next hn he res, fun hn hr hl => ⟨_, exec_fetch_full hn hr hl res, ?_⟩,
      fun hr hg hen he hf => exec_seqRecheck_reads ?_ res, fun hr => exec_seqRecheck_idle ?_ res⟩
    · exact State.ledgerFull_leaves { s with res := res }
    · have hr' : (s.queue q).rereads.isSome = true := Option.isSome_iff_ne_none.mpr hr
      have hg' : (s.queue q).reading = false := hg
      unfold State.rechecks
      rw [hr', hg', hen, he, decide_eq_true hf]
      rfl
    · have hr' : (s.queue q).rereads = none := hr
      unfold State.rechecks
      rw [hr']
      exact Bool.false_ne_true
  · intro s q e b he head u v taken
    have htaken : ∀ w, s.Taken q e b w → taken w := by
      rintro w ⟨h1, h2, x, hx, h3⟩
      refine ⟨h1, h2, ?_⟩
      rw [hx]
      exact h3
    have hs := (s.setQueue q { s.queue q with reading := false }).fetched_leaves q e b
    refine ⟨htaken _ (s.fetched_taken q e b), fun hh => ?_, fun hh => ?_⟩
    · have hv : (v.entry e).bind (·.step1) = (s.fetchedEntry q b).step1 := by
        rw [(s.fetched_leaves q e b).2.2, Option.bind_some]
      rw [hv]
      cases hr : (s.fetchedEntry q b).step1 with
      | none => trivial
      | some r =>
        obtain ⟨ht, -, x, hx, hstate, hreply⟩ :=
          (s.setQueue q { s.queue q with reading := false }).refused_taken q e b r
        have hu : u = ((s.setQueue q { s.queue q with reading := false }).fetched q e b).refuse e r :=
          (State.takePacket_inOrder he hh).trans (State.parse_step1 hs.2.2 rfl rfl hr)
        rw [← hu] at ht hx
        refine ⟨htaken u ht, ?_⟩
        rw [hx]
        exact ⟨hstate, hreply⟩
    · have hu : u = _ := State.takePacket_outOfOrder he hh
      cases hr : (s.queue q).rereads with
      | none =>
        rw [hr] at hu
        rw [hu]
        exact ⟨congrArg QueueRec.rereads (State.queue_setQueue_self ..), rfl⟩
      | some n =>
        rw [hr] at hu
        cases n with
        | zero =>
          rw [hu]
          exact ⟨congrArg QueueRec.rereads (State.queue_setQueue_self ..), rfl⟩
        | succ n =>
          obtain ⟨ht, hreply, -⟩ := (s.setQueue q { s.queue q with reading := false }).refused_taken q e b
            { status := stBad, detail := dtSeq }
          have hu' : u = ((s.setQueue q { s.queue q with reading := false }).fetched q e b).refuse e
            { status := stBad, detail := dtSeq } := hu
          rw [← hu'] at ht hreply
          exact ⟨htaken u ht, hreply⟩

end Sys2Proof.Machine
end
section
/-! PROOF. The ledger's entries: how a command's work begins, what ABORT does to its target, and the reply that ends an
entry (R331 to R333). -/

namespace Sys2Proof.Machine

/-! ### Entries -/

theorem State.entry_of_drill {s t : State} (h : t.drill = s.drill) (e : Nat) : t.entry e = s.entry e :=
  congrArg (fun d : Drill => find e d.ledger) h

theorem State.entry_setEntry_ne (s : State) {k e : Nat} (h : e ≠ k) (x : Entry) : (s.setEntry k x).entry e = s.entry e :=
  find_put_ne h ..

theorem State.entry_freeEntry_self (s : State) (e : Nat) : (s.freeEntry e).entry e = none := find_drop_self ..

section
variable {s : State} {e : Nat} {x : Entry} (h : s.entry e = some x)
include h

theorem State.entry_endWork_self (r : Reply) :
    (s.endWork e r).entry e = some { x with away := false, reply := some (x.reply.getD r) } := by
  rw [State.endWork_some h]
  exact s.entry_setEntry_self e _

theorem State.entry_modEntry_self (f : Entry → Entry) : (s.modEntry e f).entry e = some (f x) := by
  rw [State.modEntry_some h]
  exact s.entry_setEntry_self e _

end

theorem State.entry_modEntry_ne (s : State) {k e : Nat} (h : e ≠ k) (f : Entry → Entry) :
    (s.modEntry k f).entry e = s.entry e := by
  unfold State.modEntry
  split
  · exact s.entry_setEntry_ne h _
  · rfl

theorem State.entry_endWork_ne (s : State) {k e : Nat} (h : e ≠ k) (r : Reply) : (s.endWork k r).entry e = s.entry e :=
  s.entry_modEntry_ne h _

/-- An entry's work has ended with a reply, unless it had one. -/
def State.EndedBy (u : State) (e : Nat) (x : Entry) (r : Reply) : Prop :=
  ∃ y, u.entry e = some y ∧ y.reply = some (x.reply.getD r)

theorem State.endWork_ended {s : State} {e : Nat} {x : Entry} (h : s.entry e = some x) (r : Reply) :
    (s.endWork e r).EndedBy e x r := ⟨_, State.entry_endWork_self h r, rfl⟩

/-- The end of a command's work as an obligation states it. -/
theorem State.EndedBy.of {u : State} {e : Nat} {x : Entry} {r : Reply} (h : u.EndedBy e x r) :
    match u.entry e with | some y => y.reply = some (x.reply.getD r) | none => False := by
  obtain ⟨y, hy, hr⟩ := h
  rw [hy]
  exact hr

/-! ### The start of a command's work -/

section
variable {s : State} {e : Fin 4096} {x : Entry} (h : s.entry e = some x)
include h

/-- A running command's work begins. -/
theorem State.work_begins {op : Nat} (hop : x.opcode = op) (hs : x.state = .running) (hb : x.begun = false) (res : MemRes)
    (f : Entry → State → State) : s.work e op res f =
      .next { f x (State.setEntry { s with res := res } e { x with begun := true }) with res := .ok } := by
  have h' : State.entry { s with res := res } e = some x := h
  have hc : (decide (x.opcode = op) && decide (x.state = .running) && !x.begun) = true := by simp [hop, hs, hb]
  refine congrArg (fun u : State => Host.Outcome.next { u with res := .ok }) ?_
  dsimp only
  rw [h']
  exact if_pos hc

theorem exec_commandStart_parse (hs : x.state = .parse) (res : MemRes) :
    exec (.commandStart e res) s = .next (s.withRes res fun s => s.parse e) := by
  rw [exec_commandStart]
  refine congrArg Host.Outcome.next (State.withRes_congr ?_)
  have h' : State.entry { s with res := res } e = some x := h
  rw [h']
  exact if_pos hs

theorem exec_commandStart_waits (hs : x.state ≠ .parse) (hm : s.mayStart x = false ∨ x.opcode = 0x08) (res : MemRes) :
    exec (.commandStart e res) s = .next (s.withRes res id) := by
  rw [exec_commandStart]
  refine congrArg Host.Outcome.next (State.withRes_congr ?_)
  have h' : State.entry { s with res := res } e = some x := h
  have hm' : ¬(s.mayStart x && decide (x.opcode ≠ 0x08)) = true := by rcases hm with hm | hm <;> simp [hm]
  rw [h']
  exact (if_neg hs).trans (if_neg hm')

/-- A held command that may start runs. -/
theorem exec_commandStart_runs (hm : s.mayStart x = true) (ho : x.opcode ≠ 0x08) (res : MemRes) :
    ∃ u y, exec (.commandStart e res) s = .next u ∧ u.entry e = some y ∧ y.state = .running ∧ y.opcode = x.opcode ∧
      y.begun = x.begun := by
  have h' : State.entry { s with res := res } e = some x := h
  have hs : x.state ≠ .parse := fun hp => by
    unfold State.mayStart at hm
    dsimp only at hm
    rw [hp] at hm
    exact Bool.false_ne_true hm
  have hm' : (s.mayStart x && decide (x.opcode ≠ 0x08)) = true := by simp [hm, ho]
  let y : Entry := { x with state := .running, since := if x.opcode = 0x0F then x.since else some s.now }
  let v := (State.setEntry { s with res := res } e y).cmdTrace e x 1 0
  have hv : v.entry e = some y := (State.entry_of_drill
    (drill_of_keep (m := Facet.only .drill) (State.cmdTrace_keep rfl rfl ..) rfl) e).trans (State.entry_setEntry_self ..)
  refine ⟨{ v with res := .ok }, y, ?_, hv, rfl, rfl, rfl⟩
  rw [exec_commandStart]
  refine congrArg (fun u : State => Host.Outcome.next { u with res := .ok }) ?_
  dsimp only
  rw [h']
  exact (if_neg hs).trans (if_pos hm')

end

/-! ### ABORT (R332, R333) -/

theorem State.stopSowing_caused {s : State} {e : Nat} {x : Entry} {w : Sowing} {r : Reply} (h : w.cause.isSome = true) :
    s.stopSowing e x w r = s := by
  obtain ⟨c, hc⟩ := Option.isSome_iff_exists.mp h
  unfold State.stopSowing
  rw [hc]

/-- A sowing without a cause takes one. -/
theorem State.stopSowing_drill {s : State} {e : Nat} {x : Entry} {w : Sowing} {r : Reply} (h : w.cause = none) :
    (s.stopSowing e x w r).drill =
      { s.drill with ledger := put e { x with sow := some { w with cause := some r, stopAt := some s.now } } s.drill.ledger } := by
  unfold State.stopSowing
  rw [h]
  exact drill_of_keep (m := Facet.only .drill) (foldl_keep (fun v k => State.raiseAsync_keep rfl v k _) _ _) rfl

/-- What stopping the work of entry k leaves of it. -/
def Stopped (y z : Entry) : Prop :=
  z.state = y.state ∧ (y.begun = false → z.reply = some (y.reply.getD {})) ∧
  (y.begun = true → y.opcode = 0x01 → y.sow.isSome = true → (z.sow.map (·.cause.isSome)) = some true) ∧
  (y.begun = true → y.opcode = 0x02 ∨ y.opcode = 0x03 → z = y)

/-- Stopping begun work that is neither a sowing nor a copy leaves the entry's state. -/
theorem Stopped.of_other {y z : Entry} (hb : y.begun = true) (hs : z.state = y.state) (h1 : y.opcode ≠ 0x01)
    (h2 : y.opcode ≠ 0x02) (h3 : y.opcode ≠ 0x03) : Stopped y z :=
  ⟨hs, fun h => absurd (h.symm.trans hb) Bool.false_ne_true, fun _ h => absurd h h1, fun _ h => absurd h (by simp [h2, h3])⟩

theorem Stopped.refl {y : Entry} (hb : y.begun = true)
    (h : y.opcode = 0x01 → y.sow.isSome = true → (y.sow.map (·.cause.isSome)) = some true) : Stopped y y :=
  ⟨rfl, fun h => absurd (h.symm.trans hb) Bool.false_ne_true, fun _ => h, fun _ _ => rfl⟩

/-- The work of entry k is stopped, and no other entry changes. -/
def State.StopsOnly (s u : State) (k : Nat) (y : Entry) : Prop :=
  (∃ z, u.entry k = some z ∧ Stopped y z) ∧ ∀ e, e ≠ k → u.entry e = s.entry e

/-- Work whose stopping leaves the ledger alone. -/
theorem State.StopsOnly.of_drill {s u : State} {k : Nat} {y : Entry} (hk : s.entry k = some y) (hd : u.drill = s.drill)
    (h : Stopped y y) : s.StopsOnly u k y :=
  ⟨⟨y, (State.entry_of_drill hd k).trans hk, h⟩, fun e _ => State.entry_of_drill hd e⟩

section
variable {s : State} {k : Nat} {y : Entry} (hk : s.entry k = some y)
include hk

theorem State.stopWork_sow (hb : y.begun = true) (ho : y.opcode = 0x01) : s.StopsOnly (s.stopWork k y) k y := by
  have hs : s.stopWork k y = match y.sow with
      | some w => s.stopSowing k y w { status := stAborted }
      | none => s := by
    unfold State.stopWork
    rw [hb, ho] <;> rfl
  rw [hs]
  cases hw : y.sow with
  | none => exact .of_drill hk rfl (.refl hb fun _ h => absurd (hw.symm.trans (Option.isSome_iff_exists.mp h).choose_spec) nofun)
  | some w =>
    dsimp only
    cases hc : w.cause with
    | some c =>
      rw [State.stopSowing_caused (hc ▸ rfl)]
      refine .of_drill hk rfl (.refl hb fun _ _ => ?_)
      rw [hw, Option.map_some, hc]
      rfl
    | none =>
      have hd := State.stopSowing_drill (s := s) (e := k) (x := y) (r := { status := stAborted }) hc
      refine ⟨⟨_, (congrArg (fun d : Drill => find k d.ledger) hd).trans (find_put_self ..), rfl, ?_, fun _ _ _ => rfl, ?_⟩, fun e he =>
        (congrArg (fun d : Drill => find e d.ledger) hd).trans (find_put_ne he ..)⟩
      · exact fun h => absurd (h.symm.trans hb) Bool.false_ne_true
      · exact fun _ h => absurd h (by rw [ho]; decide)

theorem State.stopWork_close (hb : y.begun = true) (ho : y.opcode = 0x05) : s.StopsOnly (s.stopWork k y) k y := by
  have hs : s.stopWork k y = match s.stream (y.pk 8 4) with
      | some z => if z.closing = some k then (s.setStream (y.pk 8 4) { z with closing := none }).endWork k {} else s
      | none => s := by
    unfold State.stopWork
    rw [hb, ho] <;> rfl
  have hn : ∀ n : Nat, n ≠ 5 → y.opcode ≠ n := fun n hn h => hn (h.symm.trans ho)
  have hsame : s.StopsOnly s k y := .of_drill hk rfl (.refl hb fun h => absurd h (hn _ (by decide)))
  rw [hs]
  split
  · split
    · exact ⟨⟨_, State.entry_endWork_self (s := s.setStream ..) hk _, .of_other hb rfl (hn _ (by decide)) (hn _ (by decide)) (hn _ (by decide))⟩,
        fun e he => State.entry_endWork_ne _ he _⟩
    · exact hsame
  · exact hsame

omit hk in
/-- Stopping a till program or a loop leaves the ledger, and nothing else is stopped at once. -/
theorem State.stopWork_drill (hb : y.begun = true) (h1 : y.opcode ≠ 0x01) (h5 : y.opcode ≠ 0x05) :
    (s.stopWork k y).drill = s.drill := by
  unfold State.stopWork
  rw [hb, if_neg (by decide)]
  split
  · exact absurd ‹_› h1
  · exact absurd ‹_› h5
  · dsimp only
    split
    · exact drill_of_keep (m := Facet.only .drill) (State.tillEnd_keep rfl rfl ..) rfl
    · rfl
  · split
    · exact drill_of_keep (m := Facet.only .drill) (State.disarm_keep rfl rfl ..) rfl
    · rfl
  · rfl

theorem State.stopWork_stops : s.StopsOnly (s.stopWork k y) k y := by
  cases hb : y.begun with
  | false =>
    have hs : s.stopWork k y = s.endWork k {} := by
      unfold State.stopWork
      rw [hb]
      rfl
    rw [hs]
    refine ⟨⟨_, State.entry_endWork_self hk _, rfl, fun _ => rfl, ?_, ?_⟩, fun e he => State.entry_endWork_ne _ he _⟩ <;>
      exact fun h => absurd (hb.symm.trans h) Bool.false_ne_true
  | true =>
    by_cases h1 : y.opcode = 0x01
    · exact State.stopWork_sow hk hb h1
    · by_cases h5 : y.opcode = 0x05
      · exact State.stopWork_close hk hb h5
      · exact .of_drill hk (State.stopWork_drill hb h1 h5) (.refl hb fun h => absurd h h1)

/-- A held command that is aborted retires without work. -/
theorem State.abortHeld_retires : (s.abortHeld k).entry k = some { y with state := .retiring, reply := some { status := stAborted } } ∧
    ∀ e, e ≠ k → (s.abortHeld k).entry e = s.entry e := by
  have hd : (s.abortHeld k).drill = (s.refuse k { status := stAborted }).drill :=
    drill_of_keep (m := Facet.only .drill) (State.forget_keep rfl rfl ..) rfl
  refine ⟨(State.entry_of_drill hd k).trans ?_, fun e he => (State.entry_of_drill hd e).trans (s.entry_modEntry_ne he _)⟩
  rw [State.refuse_some hk]
  exact s.entry_setEntry_self k _

end

/-- An ABORT that hits its target: the command ends, and only after its target. -/
def State.abortHits (s : State) (e order : Nat) : State :=
  (s.modEntry e fun z => { z with target := some order }).endWork e {}

theorem State.abortHits_ends {s : State} {e : Nat} {x : Entry} (h : s.entry e = some x) (order : Nat) :
    (s.abortHits e order).EndedBy e x {} ∧ ∀ j, j ≠ e → (s.abortHits e order).entry j = s.entry j :=
  ⟨State.endWork_ended (State.entry_modEntry_self h _) {}, fun _ hj =>
    (State.entry_endWork_ne _ hj _).trans (s.entry_modEntry_ne hj _)⟩

/-- What ABORT does with the entry that its SEQ names. -/
def State.abortTarget (s : State) (e k : Nat) (y : Entry) : State :=
  match y.state with
  | .parse => (s.abortHeld k).abortHits e y.order
  | .held => (s.abortHeld k).abortHits e y.order
  | .running =>
    if nonAbortable y.opcode then s.endWork e { status := stTooLate, detail := dtNonabortable }
    else ((s.setEntry k { y with state := .aborting }).stopWork k { y with state := .aborting }).abortHits e y.order
  | .aborting => s.endWork e { status := stTooLate, detail := dtAlready }
  | .retiring => s.endWork e { status := stTooLate }

section
variable {s : State} {e : Fin 4096} {x : Entry} (h : s.entry e = some x) (hs : x.state = .running) (hb : x.begun = false)
include h hs hb

theorem exec_fence_ends (ho : x.opcode = 0x06) : ∃ u, exec (.fence e) s = .next u ∧ u.EndedBy e x {} :=
  ⟨_, (exec_fence ..).trans (State.work_begins h ho hs hb .ok _),
    State.endWork_ended (s := State.setEntry { s with res := .ok } e { x with begun := true }) (State.entry_setEntry_self ..) {}⟩

theorem exec_abort_unknown (ho : x.opcode = 0x0D)
    (hn : (s.setEntry e { x with begun := true }).seqEntry x.plot (x.pk 8 1) (x.pk 12 4) = none) :
    ∃ u, exec (.abort e) s = .next u ∧ u.EndedBy e x (if s.seqRetired x.plot (x.pk 8 1) (x.pk 12 4) then { status := stTooLate }
      else { status := stBad, detail := dtUnknown }) := by
  let t := State.setEntry { s with res := .ok } e { x with begun := true }
  have ht : t.entry e = some { x with begun := true } := State.entry_setEntry_self ..
  have hn' : t.seqEntry x.plot (x.pk 8 1) (x.pk 12 4) = none := hn
  refine ⟨{ t.endWork e _ with res := .ok }, (exec_abort ..).trans ((State.work_begins h ho hs hb .ok _).trans ?_),
    State.endWork_ended ht _⟩
  refine congrArg (fun u : State => Host.Outcome.next { u with res := .ok }) ?_
  dsimp only
  rw [show State.seqEntry (State.setEntry { s with res := .ok } e { x with begun := true }) _ _ _ = none from hn']
  rfl

theorem exec_abort_known (ho : x.opcode = 0x0D) {k : Nat} {y : Entry}
    (hn : (s.setEntry e { x with begun := true }).seqEntry x.plot (x.pk 8 1) (x.pk 12 4) = some (k, y)) :
    exec (.abort e) s =
      .next { (State.setEntry { s with res := .ok } e { x with begun := true }).abortTarget e k y with res := .ok } := by
  have hn' : State.seqEntry (State.setEntry { s with res := .ok } e { x with begun := true }) x.plot (x.pk 8 1) (x.pk 12 4) =
    some (k, y) := hn
  refine (exec_abort ..).trans ((State.work_begins h ho hs hb .ok _).trans ?_)
  refine congrArg (fun u : State => Host.Outcome.next { u with res := .ok }) ?_
  dsimp only
  rw [hn'] <;> rfl

end

/-- Table 14-6a: what ABORT does in each state of its target. -/
theorem State.abortTarget_effect {s : State} {e k : Nat} {x y : Entry} (he : s.entry e = some x) (hk : s.entry k = some y)
    (hne : k ≠ e) : ∃ z, (s.abortTarget e k y).entry k = some z ∧
      (y.state = .parse ∨ y.state = .held → (s.abortTarget e k y).EndedBy e x {} ∧ z.state = .retiring ∧
        z.reply = some { status := stAborted }) ∧
      (y.state = .running → nonAbortable y.opcode = true →
        (s.abortTarget e k y).EndedBy e x { status := stTooLate, detail := dtNonabortable } ∧ z = y) ∧
      (y.state = .running → nonAbortable y.opcode = false → (s.abortTarget e k y).EndedBy e x {} ∧
        Stopped { y with state := .aborting } z) ∧
      (y.state = .aborting → (s.abortTarget e k y).EndedBy e x { status := stTooLate, detail := dtAlready } ∧ z = y) ∧
      (y.state = .retiring → (s.abortTarget e k y).EndedBy e x { status := stTooLate } ∧ z = y) := by
  have hheld : y.state = .parse ∨ y.state = .held → s.abortTarget e k y = (s.abortHeld k).abortHits e y.order := by
    intro h
    unfold State.abortTarget
    rcases h with h | h <;> rw [h]
  have hsame : ∀ r, (s.endWork e r).entry k = some y := fun r => (s.entry_endWork_ne hne r).trans hk
  have hends : ∀ r, (s.endWork e r).EndedBy e x r := State.endWork_ended he
  cases hst : y.state with
  | parse | held =>
    obtain ⟨h1, h2⟩ := State.abortHeld_retires hk
    obtain ⟨h3, h4⟩ := State.abortHits_ends ((h2 e hne.symm).trans he) y.order
    rw [hheld (by rw [hst]; simp)]
    exact ⟨_, (h4 k hne).trans h1, fun _ => ⟨h3, rfl, rfl⟩, nofun, nofun, nofun, nofun⟩
  | running =>
    cases hab : nonAbortable y.opcode with
    | true =>
      have ht : s.abortTarget e k y = s.endWork e { status := stTooLate, detail := dtNonabortable } := by
        unfold State.abortTarget
        rw [hst, hab]
        rfl
      rw [ht]
      exact ⟨y, hsame _, nofun, fun _ _ => ⟨hends _, rfl⟩, nofun, nofun, nofun⟩
    | false =>
      have ht : s.abortTarget e k y = ((s.setEntry k { y with state := .aborting }).stopWork k
          { y with state := .aborting }).abortHits e y.order := by
        unfold State.abortTarget
        rw [hst, hab]
        rfl
      obtain ⟨⟨z, hz, hstop⟩, hother⟩ := State.stopWork_stops (s.entry_setEntry_self k { y with state := .aborting })
      obtain ⟨h3, h4⟩ := State.abortHits_ends
        ((hother e hne.symm).trans ((s.entry_setEntry_ne hne.symm _).trans he)) y.order
      rw [ht]
      exact ⟨z, (h4 k hne).trans hz, nofun, nofun, fun _ _ => ⟨h3, hstop⟩, nofun, nofun⟩
  | aborting =>
    have ht : s.abortTarget e k y = s.endWork e { status := stTooLate, detail := dtAlready } := by
      unfold State.abortTarget
      rw [hst]
    rw [ht]
    exact ⟨y, hsame _, nofun, nofun, nofun, fun _ => ⟨hends _, rfl⟩, nofun⟩
  | retiring =>
    have ht : s.abortTarget e k y = s.endWork e { status := stTooLate } := by
      unfold State.abortTarget
      rw [hst]
    rw [ht]
    exact ⟨y, hsame _, nofun, nofun, nofun, nofun, fun _ => ⟨hends _, rfl⟩⟩

/-! ### END_REPORT (R331) -/

/-- An entry's reply is in its queue's ring, and the entry is free. -/
def State.Replied (v : State) (e : Nat) (x : Entry) (r : Reply) (u : State) : Prop :=
  u.entry e = none ∧
  u.f DRL_CR_HEAD.COUNT (x.plot * 8 + x.queue) = (v.f DRL_CR_HEAD.COUNT (x.plot * 8 + x.queue) + 1) % 2 ^ 32 ∧
  find (v.f DRL_CR_HEAD.COUNT (x.plot * 8 + x.queue) % v.qSize (x.plot * 8 + x.queue))
      (u.queue (x.plot * 8 + x.queue)).retained =
    some (replyBytes x.seq r false (phaseOf (v.f DRL_CR_HEAD.COUNT (x.plot * 8 + x.queue)) (v.qSize (x.plot * 8 + x.queue)))
      x.tag ((x.plot * 8 + x.queue) % 8) x.opcode v.now)

theorem State.replyEntry_replied (s : State) (e : Nat) (x : Entry) (r : Reply) : s.Replied e x r (s.replyEntry e x r) := by
  obtain ⟨-, h2, h3, -⟩ := s.writeReply_leaves (x.plot * 8 + x.queue) x.seq r false (numAt x.packet 1 1 / 2 % 2 = 1) x.tag
    x.opcode
  let m := among [.blk .DRL, .drill]
  let w := s.writeReply (x.plot * 8 + x.queue) x.seq r false (numAt x.packet 1 1 / 2 % 2 = 1) x.tag x.opcode
  let c := w.cmdTrace e x 2 r.status
  let d := if x.opcode = 0x05 && x.begun && (r.status = stOk || r.status = stHostLost) then c.dropStream (numAt x.packet 8 4)
    else c
  have hs : s.replyEntry e x r = d.freeEntry e := rfl
  have hc : c.keep m = w.keep m := State.cmdTrace_keep rfl rfl ..
  have hd : d.keep m = c.keep m := by
    show (if _ then _ else _ : State).keep m = _
    split
    · exact State.dropStream_keep rfl rfl ..
    · rfl
  have hk := hd.trans hc
  have hd' : d.drill = w.drill := drill_of_keep hk rfl
  have hq : (d.freeEntry e).queue (x.plot * 8 + x.queue) = w.queue (x.plot * 8 + x.queue) :=
    (congrArg (fun v : Drill => findD ({} : QueueRec) (x.plot * 8 + x.queue) v.queues) hd' :)
  rw [hs]
  refine ⟨State.entry_freeEntry_self d e, (f_of_keep hk (F := DRL_CR_HEAD.COUNT) rfl _).trans h2, ?_⟩
  rw [hq]
  exact h3

/-- Taking the end of a till program leaves Drill and its registers alone. -/
theorem State.tillTaken_replied {s : State} {e : Nat} {x : Entry} {r : Reply} :
    s.Replied e x r ((s.tillTaken e x).replyEntry e x r) := by
  have hk : (s.tillTaken e x).keep (among [.blk .DRL, .blk .CLK]) = s.keep (among [.blk .DRL, .blk .CLK]) := by
    unfold State.tillTaken
    dsimp only
    split
    · exact State.tillUnload_keep rfl rfl ..
    · rfl
  have h := (s.tillTaken e x).replyEntry_replied e x r
  have hf : ∀ F : Fld, F.blk = .DRL → ∀ i, (s.tillTaken e x).f F i = s.f F i := fun F hF i =>
    f_of_keep hk (by rw [hF]; rfl) i
  have hn : (s.tillTaken e x).now = s.now := f_of_keep hk rfl 0
  unfold State.Replied State.qSize at *
  rw [hf _ rfl, hf _ rfl, hn] at h
  exact h

section
variable {s : State} {e : Nat} {x : Entry} (h : s.entry e = some x) (hf : x.frame = none)
include h hf

/-- The end of a command that neither a loop nor a frame waits for. -/
theorem State.takeEnd_command (ho : x.opcode ≠ 0x10 ∨ x.reply ≠ none) : s.takeEnd e = s.endReport e := by
  have hc : ¬(decide (x.opcode = 0x10) && x.reply.isNone) = true := fun hc =>
    have ⟨ha, hb⟩ := Bool.and_eq_true_iff.mp hc
    ho.elim (· (of_decide_eq_true ha)) (· (Option.isNone_iff_eq_none.mp hb))
  unfold State.takeEnd
  rw [h]
  dsimp only
  rw [hf]
  dsimp only
  split
  · exact if_neg hc
  · rfl

theorem State.endReport_eq : s.endReport e =
    match x.state, s.ended e x with
    | .running, some r => if s.targetDone x && s.refusalDue x then (s.tillTaken e x).replyEntry e x r else s
    | .aborting, some r => (s.tillTaken e x).replyEntry e x (x.abortedReply r)
    | .retiring, some r => if s.targetDone x && s.refusalDue x then s.replyEntry e x r else s
    | _, _ => s := by
  unfold State.endReport
  rw [h]
  dsimp only
  rw [hf] <;> rfl

theorem State.endReport_waits (hn : s.ended e x = none) : s.endReport e = s := by
  rw [State.endReport_eq h hf, hn]
  cases x.state <;> rfl

theorem State.endReport_replies {r : Reply} (hr : s.ended e x = some r) (hst : x.state = .running ∨ x.state = .retiring)
    (ht : s.targetDone x = true) (hd : s.refusalDue x = true) : s.Replied e x r (s.endReport e) := by
  rw [State.endReport_eq h hf, hr, ht, hd]
  rcases hst with hst | hst <;> rw [hst]
  · exact State.tillTaken_replied
  · exact s.replyEntry_replied e x r

theorem State.endReport_aborted {r : Reply} (hr : s.ended e x = some r) (hst : x.state = .aborting) :
    s.Replied e x (x.abortedReply r) (s.endReport e) := by
  rw [State.endReport_eq h hf, hr, hst]
  exact State.tillTaken_replied

end

theorem exec_endReport_eq (e : Fin 4096) (res : MemRes) (s : State) : exec (.endReport e res) s =
    .next { (State.serveEnded { s with res := res } e).takeEnd e with res := .ok } := exec_endReport ..

/-- Settles O35: each row of Table 14-6a from the entries that ABORT leaves; a reply is written to the ring's head, and
taking a till program's end changes nothing that the reply reads. -/
theorem drillLifecycleResults : Obligations.DrillLifecycleResults := by
  unfold Obligations.DrillLifecycleResults
  refine ⟨?_, ?_, ?_⟩
  · intro s e res
    cases h : s.entry e with
    | none => trivial
    | some x =>
      refine ⟨fun hp => exec_commandStart_parse h hp res, fun hp hm => exec_commandStart_waits h hp hm res, fun hm ho => ?_⟩
      obtain ⟨u, y, hu, hy, hrest⟩ := exec_commandStart_runs h hm ho res
      refine ⟨u, hu, ?_⟩
      beta_reduce
      rw [hy]
      exact hrest
  · intro s e
    cases h : s.entry e with
    | none => trivial
    | some x =>
      intro hs hb t ended
      refine ⟨fun ho => ?_, fun ho => ?_⟩
      · obtain ⟨u, hu, he⟩ := exec_fence_ends h hs hb ho
        exact ⟨u, hu, he.of⟩
      · cases hn : t.seqEntry x.plot (x.pk 8 1) (x.pk 12 4) with
        | none =>
          obtain ⟨u, hu, he⟩ := exec_abort_unknown h hs hb ho hn
          exact ⟨u, hu, he.of⟩
        | some ky =>
          obtain ⟨k, y⟩ := ky
          intro hne hk
          let t' := State.setEntry { s with res := .ok } e { x with begun := true }
          obtain ⟨z, hz, h1, h2, h3, h4, h5⟩ :=
            State.abortTarget_effect (s := t') (State.entry_setEntry_self ..) (k := k) (y := y) hk hne
          refine ⟨_, exec_abort_known h hs hb ho hn, ?_⟩
          change match (t'.abortTarget e k y).entry k with | some z => _ | none => _
          rw [hz]
          refine ⟨fun hy => ⟨(h1 hy).1.of, (h1 hy).2⟩, fun hy ha => ⟨(h2 hy ha).1.of, (h2 hy ha).2⟩, fun hy ha => ?_,
            fun hy => ⟨(h4 hy).1.of, (h4 hy).2⟩, fun hy => ⟨(h5 hy).1.of, (h5 hy).2⟩⟩
          obtain ⟨he, hstate, hrest⟩ := h3 hy ha
          exact ⟨he.of, hstate, hrest⟩
  · intro s e res v
    cases h : v.entry e with
    | none =>
      have ht : v.takeEnd e = v := by
        unfold State.takeEnd
        rw [h]
      exact (exec_endReport_eq e res s).trans (congrArg (fun u : State => Host.Outcome.next { u with res := .ok }) ht)
    | some x =>
      intro hf ho
      have he : exec (.endReport e res) s = .next { v.endReport e with res := .ok } :=
        (exec_endReport_eq e res s).trans
          (congrArg (fun u : State => Host.Outcome.next { u with res := .ok }) (State.takeEnd_command h hf ho))
      cases hr : v.ended e x with
      | none => exact he.trans (congrArg (fun u : State => Host.Outcome.next { u with res := .ok })
          (State.endReport_waits h hf hr))
      | some r =>
        intro _
        exact ⟨fun hst ht hd => ⟨_, he, State.endReport_replies h hf hr hst ht hd⟩,
          fun hst => ⟨_, he, State.endReport_aborted h hf hr hst⟩⟩

end Sys2Proof.Machine
end
section
/-! PROOF. The work of Drill's commands: sowings, copies, signals, waits, till commands, queries, the Headland mailbox,
and the parking of threads (R305, R326 to R335). -/

namespace Sys2Proof.Machine

/-- What a memory access of Drill leaves of the ledger. -/
theorem State.dmaRead_drill (s : State) (plot va len : Nat) : (s.dmaRead plot va len).2.drill = s.drill :=
  drill_of_keep (m := Facet.only .drill) (State.dmaRead_keep rfl rfl rfl rfl rfl rfl rfl ..) rfl

theorem State.dmaWrite_drill (s : State) (plot va : Nat) (b : List Byte) (posted : Bool) :
    (s.dmaWrite plot va b posted).2.drill = s.drill :=
  drill_of_keep (m := Facet.only .drill) (State.dmaWrite_keep rfl rfl rfl rfl rfl rfl rfl rfl ..) rfl

theorem State.dmaReadAll_drill (s : State) (plot va fuel n : Nat) : (s.dmaReadAll plot va fuel n).2.drill = s.drill :=
  drill_of_keep (m := Facet.only .drill) (State.dmaReadAll_keep rfl rfl rfl rfl rfl rfl rfl ..) rfl

theorem State.dmaReadAll_thread (s : State) (plot va fuel n k : Nat) :
    (s.dmaReadAll plot va fuel n).2.thread k = s.thread k :=
  congrArg (findD ({} : Thread) k) (threads_of_keep (m := Facet.only .threads)
    (State.dmaReadAll_keep rfl rfl rfl rfl rfl rfl rfl s plot va fuel n) rfl)

theorem State.putBytes_drill (s : State) (plot addr : Nat) (b : List Byte) : (s.putBytes plot addr b).2.drill = s.drill :=
  drill_of_keep (m := Facet.only .drill) (State.putBytes_keep rfl rfl rfl rfl rfl rfl rfl rfl rfl ..) rfl

/-- The state with an entry whose work has begun, where a memory access comes back as `res`. -/
def State.begun (s : State) (res : MemRes) (e : Nat) (x : Entry) : State :=
  State.setEntry { s with res := res } e { x with begun := true }

theorem State.begun_entry (s : State) (res : MemRes) (e : Nat) (x : Entry) :
    (s.begun res e x).entry e = some { x with begun := true } := State.entry_setEntry_self ..

/-- A command's work ends in a state that has its begun entry still. -/
theorem State.EndedBy.of_begun {s v : State} {res : MemRes} {e : Nat} {x : Entry} (h : v.drill = (s.begun res e x).drill)
    (r : Reply) : (v.endWork e r).EndedBy e x r :=
  State.endWork_ended (x := { x with begun := true }) ((State.entry_of_drill h e).trans (s.begun_entry res e x)) r

section
variable {s : State} {e : Fin 4096} {x : Entry} (h : s.entry e = some x) (hs : x.state = .running)
include h hs

/-- A command that has begun goes on with its work. -/
theorem State.workOn_goes {op : Nat} (ho : x.opcode = op) (hr : x.reply = none) (ha : x.away = false) (res : MemRes)
    (f : Entry → State → State) : s.workOn e op res f = .next { f x { s with res := res } with res := .ok } := by
  have h' : State.entry { s with res := res } e = some x := h
  have hc : (decide (x.opcode = op) && decide (x.state = .running) && decide (x.reply = none) && !x.away) = true := by
    simp [ho, hs, hr, ha]
  refine congrArg (fun u : State => Host.Outcome.next { u with res := .ok }) ?_
  dsimp only
  rw [h']
  exact if_pos hc

end

/-! ### Sowings (R326) -/

/-- What a sowing gives to a context, whose seed it keeps. -/
def SownAs (d pkt : List Byte) (e seed : Nat) (t : Thread) : Prop :=
  t.mode = .running ∧ t.ring = 0 ∧ t.pc = masked (BitVec.ofNat 64 (numAt d 0 8)) pcMask ∧
  t.readG 1 = BitVec.ofNat 64 (numAt pkt 8 8) ∧ t.readG 5 = BitVec.ofNat 64 e ∧ t.seed = seed

theorem sownTctl_seed (t : Thread) : (sownTctl t).toNat / 2 ^ 32 = t.seed := by
  have hlt : t.seed < 2 ^ 32 := by
    unfold Thread.seed
    have := t.tctl.isLt
    omega
  unfold sownTctl
  rw [BitVec.toNat_ofNat]
  omega

theorem sownThread_sown (t : Thread) (d pkt : List Byte) (root : Word) (i count e : Nat) :
    SownAs d pkt e t.seed (sownThread t d pkt root i count e []) := by
  refine ⟨rfl, rfl, rfl, ?_, ?_, sownTctl_seed t⟩
  · change findD 0 1 (putD 0 5 _ (putD 0 4 _ (putD 0 3 _ (putD 0 2 _ (putD 0 1 _ []))))) = _
    rw [findD_putD_ne (by decide), findD_putD_ne (by decide), findD_putD_ne (by decide), findD_putD_ne (by decide),
      findD_putD_self]
  · change findD 0 5 (putD 0 5 _ _) = _
    rw [findD_putD_self]

/-- The seeds of all contexts are kept. -/
def State.SeedsOf (s u : State) : Prop := ∀ k, (u.thread k).seed = (s.thread k).seed

theorem State.foldl_seeds {α : Type} {f : State → α → State} (hf : ∀ (s : State) a, s.SeedsOf (f s a)) (l : List α) (s : State) :
    s.SeedsOf (l.foldl f s) := by
  induction l generalizing s with
  | nil => exact fun _ => rfl
  | cons a l ih => exact fun k => (ih (f s a) k).trans (hf s a k)

theorem State.setThread_seeds (s : State) (h : Nat) {t : Thread} (ht : t.seed = (s.thread h).seed) :
    s.SeedsOf (s.setThread h t) := by
  intro k
  rw [State.thread_setThread]
  split
  next e => rw [ht, e]
  next => rfl

/-- The parked contexts of a sowing's cores get the plot's tables. -/
def State.rootsSet (s : State) (plot : Nat) (pkt : List Byte) (root : Word) : State :=
  (sowCores pkt).foldl (fun s n => (coreThreads n).foldl (fun s h =>
    if (s.thread h).mode = .parked then s.modThread h fun t => { t with ptroot := root } else s) s)
    (s.setPlot plot { s.plot plot with ptroot := root })

theorem State.rootsSet_seeds (s : State) (plot : Nat) (pkt : List Byte) (root : Word) :
    s.SeedsOf (s.rootsSet plot pkt root) := by
  refine State.foldl_seeds (s := s.setPlot plot _) (fun s n => State.foldl_seeds (fun s h => ?_) _ s) _
  split
  · exact s.setThread_seeds h rfl
  · exact fun _ => rfl

theorem State.rootsSet_ledger (s : State) (plot : Nat) (pkt : List Byte) (root : Word) :
    (s.rootsSet plot pkt root).drill.ledger = s.drill.ledger := by
  have hd : (s.rootsSet plot pkt root).drill = (s.setPlot plot { s.plot plot with ptroot := root }).drill := by
    refine drill_of_keep (m := Facet.only .drill) (foldl_keep (fun v n => foldl_keep (fun v h => ?_) _ v) _ _) rfl
    split
    · exact State.modThread_keep rfl ..
    · rfl
  rw [hd]
  rfl

/-- One context is released. -/
def State.sowOne (d pkt : List Byte) (root : Word) (count e : Nat) (s : State) (hi : Nat × Nat) : State :=
  (s.setThread hi.1 (sownThread (s.thread hi.1) d pkt root hi.2 count e [])).trRescan hi.1

section
variable (d pkt : List Byte) (root : Word) (count e : Nat)

theorem State.sowOne_thread (s : State) (hi : Nat × Nat) (k : Nat) : (State.sowOne d pkt root count e s hi).thread k =
    if k = hi.1 then sownThread (s.thread hi.1) d pkt root hi.2 count e [] else s.thread k := by
  refine (congrArg (findD {} k) (threads_of_keep (m := Facet.only .threads) (State.trRescan_keep rfl rfl ..) rfl)).trans ?_
  exact State.thread_setThread ..

/-- Every context of the list is released, and none loses its seed. -/
theorem State.sowAll_thread (seed : Nat → Nat) (l : List (Nat × Nat)) (s : State) (hs : ∀ k, (s.thread k).seed = seed k)
    (k : Nat) (hk : k ∈ l.map (·.1) ∨ SownAs d pkt e (seed k) (s.thread k)) :
    SownAs d pkt e (seed k) ((l.foldl (State.sowOne d pkt root count e) s).thread k) := by
  induction l generalizing s with
  | nil => exact hk.resolve_left List.not_mem_nil
  | cons hi l ih =>
    have hsown := sownThread_sown (s.thread hi.1) d pkt root hi.2 count e
    have hsown' : ∀ j, j = hi.1 → SownAs d pkt e (seed j) ((State.sowOne d pkt root count e s hi).thread j) := by
      intro j hj
      rw [State.sowOne_thread, if_pos hj, hj, ← hs hi.1]
      exact hsown
    refine ih _ (fun j => ?_) ?_
    · by_cases hj : j = hi.1
      · exact (hsown' j hj).2.2.2.2.2
      · rw [State.sowOne_thread, if_neg hj, hs]
    · by_cases hj : k = hi.1
      · exact .inr (hsown' k hj)
      · rcases hk with hk | hk
        · exact .inl ((List.mem_cons.mp hk).resolve_left hj)
        · rw [State.sowOne_thread, if_neg hj]
          exact .inr hk

theorem State.sowAll_drill (l : List (Nat × Nat)) (s : State) :
    (l.foldl (State.sowOne d pkt root count e) s).drill = s.drill :=
  drill_of_keep (m := Facet.only .drill) (foldl_keep (fun _ _ => (State.trRescan_keep rfl rfl ..).trans
    (State.setThread_keep rfl ..)) _ _) rfl

end

/-- The contexts of a sowing, released. -/
def State.contextsSown (s : State) (e : Nat) (x : Entry) (pkt d : List Byte) : State :=
  ((sowThreads pkt).zip (List.range (sowThreads pkt).length)).foldl
    (State.sowOne d pkt (plotRoot d x.plot) (sowThreads pkt).length e) (s.rootsSet x.plot pkt (plotRoot d x.plot))

theorem State.contextsSown_thread (s : State) (e : Nat) (x : Entry) (pkt d : List Byte) {k : Nat} (hk : k ∈ sowThreads pkt) :
    SownAs d pkt e (s.thread k).seed ((s.contextsSown e x pkt d).thread k) := by
  refine State.sowAll_thread d pkt _ _ e (fun k => (s.thread k).seed) _ _
    (fun j => s.rootsSet_seeds _ _ _ j) k (.inl ?_)
  rw [List.map_fst_zip (by rw [List.length_range])]
  exact hk

theorem State.contextsSown_entry (s : State) (e : Nat) (x : Entry) (pkt d : List Byte) (k : Nat) :
    (s.contextsSown e x pkt d).entry k = s.entry k :=
  (State.entry_of_drill (State.sowAll_drill ..) k).trans (congrArg (find k) (s.rootsSet_ledger ..))

/-- A sowing's record. -/
theorem State.release_eq (s : State) (e : Nat) (x : Entry) (pkt d : List Byte) : ∃ v u, s.release e x pkt d [] =
    State.modEntry u e (fun y => { y with begun := true, sow := some { threads := sowThreads pkt, first := v } }) ∧
    u.drill = (s.contextsSown e x pkt d).drill ∧ u.threads = (s.contextsSown e x pkt d).threads := by
  have hs : s.release e x pkt d [] = (if (sowThreads pkt).isEmpty then (s.contextsSown e x pkt d).draw
      else ((s.contextsSown e x pkt d).now, s.contextsSown e x pkt d)).2.modEntry e fun y => { y with
        begun := true, sow := some { threads := sowThreads pkt, first :=
          (if (sowThreads pkt).isEmpty then (s.contextsSown e x pkt d).draw
            else ((s.contextsSown e x pkt d).now, s.contextsSown e x pkt d)).1 } } := rfl
  refine ⟨_, _, hs, ?_, ?_⟩ <;> split <;> rfl

/-- What a sowing leaves: its record, and its contexts. -/
theorem State.release_leaves {s : State} {e : Nat} {x y : Entry} (pkt d : List Byte) (h : s.entry e = some y) :
    (∃ w, ((s.release e x pkt d []).entry e).bind (·.sow) = some w ∧ w.threads = sowThreads pkt ∧ w.parked = [] ∧
      w.cause = none) ∧
    ∀ k ∈ sowThreads pkt, SownAs d pkt e (s.thread k).seed ((s.release e x pkt d []).thread k) := by
  obtain ⟨v, u, hr, hd, ht⟩ := s.release_eq e x pkt d
  have he : u.entry e = some y := (State.entry_of_drill hd e).trans ((s.contextsSown_entry e x pkt d e).trans h)
  rw [hr, State.modEntry_some he]
  refine ⟨⟨_, congrArg (Option.bind · _) (u.entry_setEntry_self e _), rfl, rfl, rfl⟩, fun k hk => ?_⟩
  have hk' : u.thread k = (s.contextsSown e x pkt d).thread k := congrArg (findD ({} : Thread) k) ht
  change SownAs d pkt e _ (u.thread k)
  rw [hk']
  exact s.contextsSown_thread e x pkt d hk

/-- What follows the read of a plot's descriptor. -/
def sowRead (e : Nat) (x : Entry) (pkt : List Byte) : DmaBytes × State → State
  | (.fail, s) => s.endWork e { status := stFaulted, detail := dtAddr }
  | (.held, s) => s.modEntry e fun y => { y with begun := false }
  | (.data d, s) => s.release e x pkt d []

section
variable {s : State} {e : Nat} {x : Entry} {pkt : List Byte}

theorem State.startSow_locked (h : (sowCores pkt).any s.locked = true) :
    s.startSow e x pkt [] = s.endWork e { status := stFit, detail := dtLocked } := by
  unfold State.startSow
  dsimp only
  rw [h]
  rfl

variable (hl : (sowCores pkt).any s.locked = false)
  (ho : (sowCores pkt).all (fun n => (s.core n).lease = some x.plot) = true)
  (hb : (x.frame.isSome || (s.sowBusy pkt).isNone) = true)
include hl ho hb

/-- A sowing whose checks pass reads the plot's descriptor. -/
theorem State.startSow_reads (ha : opSpace (s.plot x.plot).rtdesc = 0) : s.startSow e x pkt [] =
    sowRead e x pkt (s.dmaReadAll x.plot (opAddr (s.plot x.plot).rtdesc) 4 128) := by
  have hown : (sowCores pkt).any (fun n => (s.core n).lease ≠ some x.plot) = false := by
    rw [List.any_eq_false]
    intro n hn
    have := List.all_eq_true.mp ho n hn
    simpa using this
  have hbusy : (if x.frame.isSome then none else s.sowBusy pkt) = none := by
    split
    · rfl
    · next hf => exact Option.isNone_iff_eq_none.mp ((Bool.or_eq_true_iff.mp hb).resolve_left hf)
  unfold State.startSow
  dsimp only
  rw [hl, hown, hbusy, ha, if_neg Bool.false_ne_true, if_neg Bool.false_ne_true, if_pos rfl]
  generalize s.dmaReadAll x.plot (opAddr (s.plot x.plot).rtdesc) 4 128 = r
  obtain ⟨d, u⟩ := r
  cases d <;> rfl

end

/-! ### COPY, FILL and SIGNAL (R330, R333) -/

/-- The next piece of a COPY whose source is memory. -/
def State.copyPiece (s : State) (e : Nat) (x : Entry) (src dst n : Nat) : State :=
  match s.dmaRead x.plot (opAddr src) n with
  | (.data b, s) => s.putPiece e x.plot dst b
  | (.held, s) => s
  | (.poison, s) => s.endWork e { status := stFaulted, detail := dtData, result := x.prog }
  | (.fault, s) => s.endWork e { status := stFaulted, detail := dtAddr, result := x.prog }
  | (.remote p l, s) =>
    if p = s.ownPkg || !s.swMember p then s.endWork e { status := stFaulted, detail := dtAddr, result := x.prog }
    else (s.modEntry e fun y => { y with away := true }).swRead x.plot p (l / 64 * 64) 6 (.read e (l % 64) n)

/-- A SIGNAL to a word in memory. -/
def State.signalWord (s : State) (e : Nat) (x : Entry) : State :=
  match s.dmaRead x.plot (opAddr (x.pk 8 8)) 8 with
  | (.remote p l, s) =>
    if p = s.ownPkg || !s.swMember p then s.endWork e { status := stFaulted, detail := dtAddr }
    else (s.modEntry e fun y => { y with away := true }).swAtomic x.plot p l (if x.pk 24 1 = 1 then 1 else 0) 3 (x.pk 16 8) 0
      (.write e 8)
  | (.held, s) => s.modEntry e fun y => { y with begun := false }
  | (.poison, s) => s.endWork e { status := stFaulted, detail := dtData }
  | (.fault, s) => s.endWork e { status := stFaulted, detail := dtAddr }
  | (.data b, s) =>
    match s.dmaWrite x.plot (opAddr (x.pk 8 8)) (leBytes 8 (if x.pk 24 1 = 1 then leNat b + x.pk 16 8 else x.pk 16 8)) true with
    | (.done, s) => (s.endWork e {}).waitsOn x.plot (x.pk 8 8)
    | (_, s) => s.endWork e { status := stFaulted, detail := dtAddr }

section
variable {s : State} {e : Fin 4096} {x : Entry} (h : s.entry e = some x) (hs : x.state = .running)
include h hs

section
variable (ho : x.opcode = 0x02) (hr : x.reply = none) (ha : x.away = false)
include ho hr ha

theorem exec_copy_done (hp : x.pk 24 8 ≤ x.prog) (res : MemRes) : exec (.copy e res) s =
    .next { (s.begun res e x).endWork e { status := stOk, result := x.prog } with res := .ok } := by
  refine (exec_copy ..).trans ((State.workOn_goes h hs ho hr ha res _).trans ?_)
  exact congrArg (fun u : State => Host.Outcome.next { u with res := .ok }) (if_pos (Nat.sub_eq_zero_of_le hp))

theorem exec_copy_piece (hp : x.prog < x.pk 24 8) (hsp : opSpace (x.pk 8 8 + x.prog) ≠ 1) (res : MemRes) :
    exec (.copy e res) s = .next { (s.begun res e x).copyPiece e x (x.pk 8 8 + x.prog) (x.pk 16 8 + x.prog)
      (min (x.pk 24 8 - x.prog) (min (64 - (x.pk 8 8 + x.prog) % 64) (64 - (x.pk 16 8 + x.prog) % 64))) with res := .ok } := by
  refine (exec_copy ..).trans ((State.workOn_goes h hs ho hr ha res _).trans ?_)
  exact congrArg (fun u : State => Host.Outcome.next { u with res := .ok })
    ((if_neg (Nat.sub_ne_zero_of_lt hp)).trans (if_neg hsp))

end

section
variable (ho : x.opcode = 0x03) (hr : x.reply = none) (ha : x.away = false)
include ho hr ha

theorem exec_fill_done (hp : x.pk 16 8 ≤ x.prog) (res : MemRes) : exec (.fill e res) s =
    .next { (s.begun res e x).endWork e { status := stOk, result := x.prog } with res := .ok } := by
  refine (exec_fill ..).trans ((State.workOn_goes h hs ho hr ha res _).trans ?_)
  exact congrArg (fun u : State => Host.Outcome.next { u with res := .ok }) (if_pos (Nat.sub_eq_zero_of_le hp))

theorem exec_fill_piece (hp : x.prog < x.pk 16 8) (res : MemRes) : exec (.fill e res) s =
    .next { (s.begun res e x).putPiece e x.plot (x.pk 8 8 + x.prog)
      ((List.range (min (x.pk 16 8 - x.prog) (64 - (x.pk 8 8 + x.prog) % 64))).map fun k =>
        BitVec.ofNat 8 (x.pk (24 + (x.prog + k) % 8) 1)) with res := .ok } := by
  refine (exec_fill ..).trans ((State.workOn_goes h hs ho hr ha res _).trans ?_)
  exact congrArg (fun u : State => Host.Outcome.next { u with res := .ok }) (if_neg (Nat.sub_ne_zero_of_lt hp))

end

theorem exec_signal_word (ho : x.opcode = 0x07) (hb : x.begun = false) (hsp : opSpace (x.pk 8 8) ≠ 1) (res : MemRes) :
    exec (.signal e res) s = .next { (s.begun res e x).signalWord e x with res := .ok } := by
  refine (exec_signal ..).trans ((State.work_begins h ho hs hb res _).trans ?_)
  exact congrArg (fun u : State => Host.Outcome.next { u with res := .ok }) (if_neg hsp)

/-! ### Till commands (R305) -/

theorem exec_tillMode_eq (ho : x.opcode = 0x09) (hb : x.begun = false) : exec (.tillMode e) s = .next
    { (match firstFail [(s.begun .ok e x).step3 x, (s.begun .ok e x).step5 x] with
      | some r => (s.begun .ok e x).endWork e r
      | none => (s.begun .ok e x).modeReq (x.pk 8 1) (x.pk 9 1)) with res := .ok } :=
  (exec_tillMode ..).trans (State.work_begins h ho hs hb .ok _)

theorem exec_tillRun_eq (ho : x.opcode = 0x0A) (hb : x.begun = false) (hn : x.pk 12 4 ≠ 0) :
    exec (.tillRun e) s = .next
    { (match (s.begun .ok e x).step5 x with
      | some r => (s.begun .ok e x).endWork e r
      | none => (s.begun .ok e x).tillStart (x.pk 8 1) (imageWords x.content) (x.pk 10 2)
        ((List.range 4).map fun k => x.pk (24 + 2 * k) 2) e) with res := .ok } := by
  refine (exec_tillRun ..).trans ((State.work_begins h ho hs hb .ok _).trans ?_)
  refine congrArg (fun u : State => Host.Outcome.next { u with res := .ok }) ?_
  change (match firstFail [(s.begun .ok e x).step5 x, if x.pk 12 4 = 0 then (s.begun .ok e x).step6 x else none] with
    | some r => (s.begun .ok e x).endWork e r
    | none => (s.begun .ok e x).tillStart (x.pk 8 1)
      (if x.pk 12 4 = 0 then ((s.begun .ok e x).seq (x.pk 8 1)).image else imageWords x.content) (x.pk 10 2)
        ((List.range 4).map fun k => x.pk (24 + 2 * k) 2) e) = _
  rw [if_neg hn, if_neg hn]
  cases (s.begun .ok e x).step5 x <;> rfl

/-! ### Queries -/

theorem State.query_asks {what : Nat} (ho : x.opcode = 0x0E) (hb : x.begun = false) (hw : x.pk 8 1 = what) (res : MemRes)
    (f : Entry → State → State) : s.query e what res f = .next { f x (s.begun res e x) with res := .ok } :=
  (State.work_begins h ho hs hb res _).trans
    (congrArg (fun u : State => Host.Outcome.next { u with res := .ok }) (if_pos hw))

end

/-- The registers of a program that starts. -/
def State.programShown (s : State) (c entry : Nat) : State :=
  let s := (s.setOn GRN_TILL_STAT.LOADED c true).setOn GRN_TILL_STAT.RESIDENT c false
  let s := ((((s.setOn GRN_TILL_STAT.NV c false).setOn GRN_TILL_STAT.OF c false).setOn GRN_TILL_STAT.UF c false).setOn
    GRN_TILL_STAT.NX c false).setOn GRN_TILL_STAT.SAT c false
  (s.setF GRN_TILL_PC.PC c entry).setOn GRN_TILL_CKPT.VALID c false

theorem State.programShown_seq (s : State) (c entry k : Nat) : (s.programShown c entry).seq k = s.seq k := by
  have hk : (s.programShown c entry).keep (among [.granary, .mem]) = s.keep (among [.granary, .mem]) := by
    unfold State.programShown
    dsimp only
    refine (State.setOn_keep _ _ rfl c _).trans ((State.setF_keep _ _ rfl c _).trans ?_)
    iterate 7 refine (State.setOn_keep _ _ rfl c _).trans ?_
    rfl
  exact congrArg (fun g : Granary => findD ({} : TillSeq) k g.till) (granary_of_keep hk rfl rfl)

theorem State.programShown_leaves (s : State) (c entry : Nat) : (s.programShown c entry).on GRN_TILL_STAT.LOADED c = true ∧
    (s.programShown c entry).f GRN_TILL_PC.PC c = entry % 512 := by
  unfold State.programShown State.on
  dsimp only
  refine ⟨?_, ?_⟩
  · rw [State.f_setOn_apart _ (by decide), State.f_setF_apart _ (by decide), State.f_setOn_apart _ (by decide),
      State.f_setOn_apart _ (by decide), State.f_setOn_apart _ (by decide), State.f_setOn_apart _ (by decide),
      State.f_setOn_apart _ (by decide), State.f_setOn_apart _ (by decide), ← State.on]
    exact State.on_setOn_self _ rfl c true
  · rw [State.f_setOn_apart _ (by decide), State.f_setF_self]
    rfl

/-- What a program that starts leaves of its channel. -/
theorem State.tillStart_leaves (s : State) (c : Nat) (image : List Nat) (entry : Nat) (x : List Nat) (ledger : Nat) :
    let u := s.tillStart c image entry x ledger
    u.on GRN_TILL_STAT.LOADED c = true ∧ u.f GRN_TILL_PC.PC c = entry % 512 ∧ (u.seq c).image = image ∧
    (u.seq c).mask = 0xFFFFFFFF ∧ (u.seq c).entry = some ledger ∧ (u.seq c).ended = none := by
  let q : TillSeq := { image := image, x := x, tines := (s.seq c).tines, entry := some ledger }
  have hu : s.tillStart c image entry x ledger = (s.setSeq c q).programShown c entry := rfl
  have hq : ((s.setSeq c q).programShown c entry).seq c = q := (State.programShown_seq ..).trans (s.seq_setSeq_self c q)
  obtain ⟨h1, h2⟩ := (s.setSeq c q).programShown_leaves c entry
  rw [hu]
  dsimp only
  rw [hq]
  exact ⟨h1, h2, rfl, rfl, rfl, rfl⟩

end Sys2Proof.Machine
end
section
/-! PROOF. Pieces, WAITs, the Headland mailbox and the parking of threads; what the obligation on Drill's commands says
(R327 to R334). -/

namespace Sys2Proof.Machine

/-! ### A piece of a COPY or FILL -/

section
variable {s v : State} {e plot dst : Nat} {b : List Byte} {x : Entry} {d : DmaWrite} (h : s.entry e = some x)
  (hd : opSpace dst ≠ 1) (hw : s.dmaWrite plot (opAddr dst) b false = (d, v))

include h hw in
theorem State.entry_dmaWritten : v.entry e = some x := by
  have hv := s.dmaWrite_drill plot (opAddr dst) b false
  rw [hw] at hv
  exact (State.entry_of_drill hv e).trans h

include hd hw

theorem State.putPiece_done (hdone : d = .done) : s.putPiece e plot dst b = v.pieceDone e b.length := by
  rw [hdone] at hw
  unfold State.putPiece
  dsimp only
  split
  · contradiction
  · rw [hw]

include h in
theorem State.putPiece_fault (hfault : d = .fault) :
    s.putPiece e plot dst b = v.endWork e { status := stFaulted, detail := dtAddr, result := x.prog } := by
  rw [hfault] at hw
  unfold State.putPiece
  dsimp only
  split
  · contradiction
  · rw [hw, h]
    rfl

end

/-! ### WAIT (R330) -/

theorem State.mayStart_held {s : State} {x : Entry} (h : s.mayStart x = true) : x.state = .held :=
  of_decide_eq_true (Bool.and_eq_true_iff.mp h).1

/-- A WAIT's word decides it. -/
theorem State.waitWord_decides {s : State} {e w : Nat} {x : Entry} (h : s.entry e = some x) (ho : x.opcode = 0x08)
    (hh : x.state = .held) : ∃ y, (s.waitWord e w).entry e = some y ∧
      (waitHolds (x.pk 24 1) w (x.pk 16 8) = true → y.state = .running ∧ y.reply = some {}) ∧
      (waitHolds (x.pk 24 1) w (x.pk 16 8) = false → y.state = .held) := by
  refine ⟨_, State.entry_modEntry_self h _, fun hw => ?_, fun hw => ?_⟩ <;> simp [ho, hh, hw]

theorem waitHolds_iff (c v t : Nat) :
    waitHolds c v t = true ↔ if c = 0 then t ≤ v else if c = 1 then v = t else v ≠ t := by
  match c with
  | 0 => simp [waitHolds]
  | 1 => simp [waitHolds]
  | n + 2 => simp [waitHolds]

/-- A WAIT that may start reads its word. -/
theorem State.waitEval_reads {s v : State} {e : Nat} {x : Entry} {b : List Byte} (h : s.entry e = some x)
    (ho : x.opcode = 0x08) (hm : s.mayStart x = true) (ha : x.away = false) (hsp : opSpace (x.pk 8 8) ≠ 1)
    (hr : (s.setEntry e { x with since := some (x.since.getD s.now) }).dmaRead x.plot (opAddr (x.pk 8 8)) 8 = (.data b, v)) :
    s.waitEval e = v.waitWord e (leNat b) := by
  have hc : ¬(decide (x.opcode ≠ 0x08) || !s.mayStart x || x.away) = true := by simp [ho, hm, ha]
  unfold State.waitEval
  rw [h]
  dsimp only
  rw [if_neg hc, if_neg hsp, hr]

/-- A WAIT that runs out of time fails. -/
theorem exec_waitCommandTimeout_fails {s : State} {e : Fin 4096} {x : Entry} {n : Nat} (h : s.entry e = some x) (hn : x.since = some n)
    (ho : x.opcode = 0x08) (hh : x.state = .held) (hp : x.pk 28 4 ≠ 0) (ht : 100 * x.pk 28 4 ≤ s.since n) :
    ∃ u, exec (.waitCommandTimeout e) s = .next u ∧
      u.entry e = some { x with state := .retiring, reply := some { status := stFaulted, detail := dtTimeout } } := by
  have hc : (decide (x.opcode = 0x08) && decide (x.state = .held) && decide (x.pk 28 4 ≠ 0) &&
      decide (usCounts (x.pk 28 4) ≤ s.since n)) = true := by
    simp only [ho, hh, hp, usCounts, ht, decide_true, Bool.and_true, ne_eq, not_false_eq_true]
  refine ⟨(s.refuse e { status := stFaulted, detail := dtTimeout }).forget e, ?_, ?_⟩
  · refine (exec_waitCommandTimeout ..).trans ?_
    unfold execWaitCommandTimeout
    rw [h]
    dsimp only
    rw [hn]
    exact congrArg Host.Outcome.next (if_pos hc)
  · refine (State.entry_of_drill (drill_of_keep (m := Facet.only .drill) (State.forget_keep rfl rfl ..) rfl) e).trans ?_
    rw [State.refuse_some h]
    exact s.entry_setEntry_self e _

/-! ### The Headland mailbox (R334) -/

section
variable {s : State} {e : Fin 4096} {x : Entry} (h : s.msgOut e = some x)
include h

theorem State.msgOut_entry : s.entry e = some x := (Option.filter_eq_some_iff.mp h).1

/-- An answer without bytes ends its HEADLAND_MSG. -/
theorem exec_mailboxAnswer_empty {code : Nat} (ha : s.isl.answer = some (code, [])) (res : MemRes) :
    ∃ u, exec (.mailboxAnswer e res) s = .next u ∧ u.isl.answer = none ∧
      u.EndedBy e x { status := if code = msgUntested then stUntested else stOk, result := code } := by
  let v := State.mapIsl { s with res := res } fun i => { i with answer := none }
  let r : Reply := { status := if code = msgUntested then stUntested else stOk, result := code }
  have h' : State.msgOut { s with res := res } e = some x := h
  have hv : v.entry e = some x := State.msgOut_entry h
  have hi : (v.endWork e r).isl.answer = none :=
    congrArg Island.answer (isl_of_keep (m := Facet.only .isl) (s := v) (State.endWork_keep rfl v e r) rfl)
  refine ⟨{ v.endWork e r with res := .ok }, ?_, hi, State.endWork_ended hv r⟩
  refine (exec_mailboxAnswer ..).trans ?_
  unfold execMailboxAnswer
  refine congrArg (fun u : State => Host.Outcome.next { u with res := .ok }) ?_
  dsimp only
  rw [h', ha]
  rfl

/-- A HEADLAND_MSG without an answer fails after 100 ms. -/
theorem exec_islandTimeout_fails {n : Nat} (ha : s.isl.answer = none) (hn : x.since = some n) (ht : 10000000 ≤ s.since n) :
    ∃ u, exec (.islandTimeout e) s = .next u ∧ u.isl.msg = none ∧
      u.EndedBy e x { status := stFaulted, detail := dtIsland } := by
  let v := s.mapIsl fun i => { i with msg := none, answer := none }
  have hc : ¬(s.isl.answer.isSome || decide (s.since n < islandWait)) = true := by
    rw [ha, Option.isSome_none, Bool.false_or, decide_eq_true_eq]
    unfold islandWait usCounts
    omega
  have hv : v.entry e = some x := State.msgOut_entry h
  have hi : (v.endWork e { status := stFaulted, detail := dtIsland }).isl.msg = none :=
    congrArg Island.msg (isl_of_keep (m := Facet.only .isl) (s := v) (State.endWork_keep rfl v e _) rfl)
  refine ⟨v.endWork e { status := stFaulted, detail := dtIsland }, ?_, hi, State.endWork_ended hv _⟩
  refine (exec_islandTimeout ..).trans ?_
  unfold execIslandTimeout
  rw [h]
  dsimp only
  rw [hn]
  exact congrArg Host.Outcome.next (if_neg hc)

end

/-! ### Parking and stopping (R327, R328) -/

/-- A context as Drill parks it. -/
def Thread.asParked (t : Thread) : Thread := { t with mode := .parked, exited := false, haltReq := false, stepping := false }

theorem State.parkThread_leaves (s : State) (h : Nat) : ((s.parkThread h).thread h).mode = .parked ∧
    ((s.parkThread h).thread h).exited = false ∧ ((s.parkThread h).core (coreOf h)).idleAt = s.now := by
  have hk := State.trPark_keep (m := Facet.only (.blk .CLK)) rfl rfl s h
  have hn : (s.trPark h).now = s.now := f_of_keep hk rfl 0
  let v := (s.trPark h).modThread h Thread.asParked
  let u := v.setCore (coreOf h) { v.core (coreOf h) with idleAt := v.now }
  have hp : s.parkThread h = (u.setBitF FUR_XPEND.SRC h 0 false).sowParked h true := rfl
  have ht : (s.parkThread h).thread h = ((s.trPark h).thread h).asParked := by
    rw [hp]
    exact (s.trPark h).thread_modThread_self h Thread.asParked
  have hcore : (s.parkThread h).core (coreOf h) = { v.core (coreOf h) with idleAt := v.now } := by
    rw [hp]
    exact v.core_setCore_self (coreOf h) _
  rw [ht, hcore]
  exact ⟨rfl, rfl, hn⟩

/-- The threads of a sowing that a stop timeout resets. -/
def State.unstopped (s : State) (w : Sowing) : List Nat :=
  w.threads.filter fun k => !w.parked.contains k && !(s.thread k).exited && !s.locked (coreOf k) &&
    (find (coreOf k) s.clk.tg).isNone

/-- The thread groups of some threads are reset, of a frame with its loop told. -/
def State.groupsReset (s : State) (x : Entry) (left : List Nat) : State :=
  (left.map coreOf).eraseDups.foldl (fun s n => s.tgBegin n)
    (match x.frame with
    | some l => s.setOn SOW_LOOP_EVT.FORCED l true
    | none => s)

section
variable {s : State} {e : Fin 4096} {x : Entry} {w : Sowing} {n : Nat} (h : s.entry e = some x) (hw : x.sow = some w)
include h hw

theorem exec_sowTimeout_stops (hn : x.since = some n) (ho : x.opcode = 0x01) (hs : x.state = .running) (hf : x.frame = none)
    (hp : x.pk 44 4 ≠ 0) (ht : 100 * x.pk 44 4 ≤ s.since n) (hov : w.over s = false) :
    exec (.sowTimeout e) s = .next (s.stopSowing e x w { status := stFaulted, detail := dtTimeout }) := by
  have hc : (decide (x.opcode = 0x01) && decide (x.state = .running) && decide (x.frame = none) && decide (x.pk 44 4 ≠ 0) &&
      decide (usCounts (x.pk 44 4) ≤ s.since n) && !w.over s) = true := by
    simp only [ho, hs, hf, hp, usCounts, ht, hov, decide_true, Bool.and_true, ne_eq, not_false_eq_true, Bool.not_false]
  refine (exec_sowTimeout ..).trans ?_
  unfold execSowTimeout
  rw [h]
  dsimp only
  rw [hw, hn]
  exact congrArg Host.Outcome.next (if_pos hc)

/-- The stop timeout resets the thread groups that are left. -/
theorem exec_stopTmo_forces (hn : w.stopAt = some n) (ht : 100 * s.f DRL_CFG.STOP_TMO 0 ≤ s.since n)
    (hleft : w.threads.any (fun k => !w.parked.contains k && !(s.thread k).exited && !s.locked (coreOf k) &&
      (find (coreOf k) s.clk.tg).isNone) = true) :
    ∃ u, exec (.stopTmo e) s = .next u ∧ u.entry e = some { x with sow := some { w with forced := true } } := by
  have hne : (s.unstopped w).isEmpty = false := by
    obtain ⟨k, hk, hp⟩ := List.any_eq_true.mp hleft
    rw [List.isEmpty_eq_false_iff]
    exact List.ne_nil_of_mem (List.mem_filter.mpr ⟨hk, hp⟩)
  have hc : ¬(decide (s.since n < usCounts (s.f DRL_CFG.STOP_TMO 0)) || (s.unstopped w).isEmpty) = true := by
    rw [hne, Bool.or_false, decide_eq_true_eq]
    unfold usCounts
    omega
  refine ⟨(s.groupsReset x (s.unstopped w)).setEntry e { x with sow := some { w with forced := true } }, ?_,
    State.entry_setEntry_self ..⟩
  refine (exec_stopTmo ..).trans ?_
  unfold execStopTmo
  rw [h]
  dsimp only
  rw [hw]
  dsimp only
  rw [hn]
  exact congrArg Host.Outcome.next (if_neg hc)

end

/-! ### The work of a running command -/

section
variable {s : State} {e : Fin 4096} {x : Entry} (h : s.entry e = some x) (hs : x.state = .running)
include h hs

theorem exec_sow_begins (ho : x.opcode = 0x01) (hb : x.begun = false) (res : MemRes) :
    exec (.sow e res) s = .next { (s.begun res e x).startSow e x x.packet [] with res := .ok } :=
  (exec_sow ..).trans (State.work_begins h ho hs hb res _)

/-- A HEADLAND_MSG goes to the island. -/
theorem exec_headlandMsg_goes (ho : x.opcode = 0x12) (hb : x.begun = false) : ∃ u, exec (.headlandMsg e) s = .next u ∧
    u.entry e = some { x with begun := true, since := some s.now } := by
  let v := (s.begun .ok e x).modEntry e fun y => { y with since := some (s.begun .ok e x).now }
  refine ⟨{ v.deliver (x.pk 8 2) (x.content.take (x.pk 10 2)) with res := .ok },
    (exec_headlandMsg ..).trans (State.work_begins h ho hs hb .ok _), ?_⟩
  refine (State.entry_of_drill (drill_of_keep (m := Facet.only .drill) (State.deliver_keep rfl ..) rfl) e).trans ?_
  exact State.entry_modEntry_self (s.begun_entry ..) _

end

/-! ### The obligation's parts -/

/-- A command answers with its entry's work ended. -/
theorem answers_ended {i : Instr} {s u : State} {e : Nat} {x : Entry} {r : Reply} (hu : exec i s = .next { u with res := .ok })
    (he : u.EndedBy e x r) :
    answers i s fun u => match u.entry e with | some y => y.reply = some (x.reply.getD r) | none => False :=
  ⟨_, hu, State.EndedBy.of (u := { u with res := .ok }) he⟩

section
variable {s : State} {e : Fin 4096} {x : Entry} (h : s.entry e = some x) (hs : x.state = .running)
include h hs

/-- A sowing whose checks pass, by what the read of the descriptor brings. -/
theorem exec_sow_reads (ho : x.opcode = 0x01) (hb : x.begun = false) (res : MemRes)
    (hl : (sowCores x.packet).any s.locked = false)
    (hown : (sowCores x.packet).all (fun n => (s.core n).lease = some x.plot) = true)
    (hbusy : (x.frame.isSome || ((s.begun res e x).sowBusy x.packet).isNone) = true)
    (ha : opSpace (s.plot x.plot).rtdesc = 0) : exec (.sow e res) s = .next { sowRead e x x.packet
      ((s.begun res e x).dmaReadAll x.plot (opAddr (s.plot x.plot).rtdesc) 4 128) with res := .ok } :=
  (exec_sow_begins h hs ho hb res).trans (congrArg (fun u : State => Host.Outcome.next { u with res := .ok })
    (State.startSow_reads (s := s.begun res e x) hl hown hbusy ha))

omit h hs in
/-- What a sowing leaves, as an obligation states it. -/
theorem exec_sow_data {d : List Byte} {v : State} {res : MemRes} {a : Nat}
    (hr : (s.begun res e x).dmaReadAll x.plot a 4 128 = (.data d, v))
    (hx : exec (.sow e res) s = .next { sowRead e x x.packet (.data d, v) with res := .ok }) :
    answers (.sow e res) s fun u =>
      (match (u.entry e).bind (·.sow) with
      | some w => w.threads = sowThreads x.packet ∧ w.parked = [] ∧ w.cause = none
      | none => False) ∧
      ∀ k ∈ sowThreads x.packet, (u.thread k).mode = .running ∧ (u.thread k).ring = 0 ∧
        (u.thread k).pc = masked (BitVec.ofNat 64 (numAt d 0 8)) pcMask ∧
        (u.thread k).readG 1 = BitVec.ofNat 64 (x.pk 8 8) ∧ (u.thread k).readG 5 = BitVec.ofNat 64 e ∧
        (u.thread k).seed = (s.thread k).seed := by
  have hd := (s.begun res e x).dmaReadAll_drill x.plot a 4 128
  have ht := fun k => (s.begun res e x).dmaReadAll_thread x.plot a 4 128 k
  rw [hr] at hd ht
  obtain ⟨⟨w, hw, hrec⟩, hthreads⟩ :=
    State.release_leaves (x := x) x.packet d ((State.entry_of_drill hd e).trans (s.begun_entry res e x))
  refine ⟨_, hx, ?_, fun k hk => ?_⟩
  · change match ((v.release e x x.packet d []).entry e).bind (·.sow) with | some w => _ | none => _
    rw [hw]
    exact hrec
  · have hk' := hthreads k hk
    rw [ht k] at hk'
    exact hk'

theorem exec_copy_read (ho : x.opcode = 0x02) (hrep : x.reply = none) (ha : x.away = false) (hp : x.prog < x.pk 24 8)
    (hsp : opSpace (x.pk 8 8 + x.prog) ≠ 1) (res : MemRes) :
    match (s.begun res e x).dmaRead x.plot (opAddr (x.pk 8 8 + x.prog))
      (min (x.pk 24 8 - x.prog) (min (64 - (x.pk 8 8 + x.prog) % 64) (64 - (x.pk 16 8 + x.prog) % 64))) with
    | (.data b, u) => exec (.copy e res) s = .next { u.putPiece e x.plot (x.pk 16 8 + x.prog) b with res := .ok }
    | (.poison, _) => answers (.copy e res) s fun u => match u.entry e with
      | some y => y.reply = some (x.reply.getD { status := stFaulted, detail := dtData, result := x.prog })
      | none => False
    | (.fault, _) => answers (.copy e res) s fun u => match u.entry e with
      | some y => y.reply = some (x.reply.getD { status := stFaulted, detail := dtAddr, result := x.prog })
      | none => False
    | (.held, u) => exec (.copy e res) s = .next { u with res := .ok }
    | (.remote .., _) => True := by
  have hx := exec_copy_piece h hs ho hrep ha hp hsp res
  have hd := (s.begun res e x).dmaRead_drill x.plot (opAddr (x.pk 8 8 + x.prog))
    (min (x.pk 24 8 - x.prog) (min (64 - (x.pk 8 8 + x.prog) % 64) (64 - (x.pk 16 8 + x.prog) % 64)))
  unfold State.copyPiece at hx
  generalize (s.begun res e x).dmaRead x.plot (opAddr (x.pk 8 8 + x.prog))
    (min (x.pk 24 8 - x.prog) (min (64 - (x.pk 8 8 + x.prog) % 64) (64 - (x.pk 16 8 + x.prog) % 64))) = r at hx hd
  obtain ⟨d, v⟩ := r
  cases d with
  | data b => exact hx
  | held => exact hx
  | poison => exact answers_ended hx (.of_begun hd _)
  | fault => exact answers_ended hx (.of_begun hd _)
  | remote p l => trivial

/-- The free bytes of a lease record, written where the QUERY asks for them (notes/assumptions/33). -/
theorem exec_queryLeaseRecord_ends (ho : x.opcode = 0x0E) (hb : x.begun = false) (hw : x.pk 8 1 = 1) (res : MemRes) :
    answers (.queryLeaseRecord e res) s fun u => match u.entry e with
      | some y => y.reply = some (x.reply.getD (if ((s.begun res e x).draw.2.putBytes x.plot (x.pk 16 8)
          (leBytes 64 (s.begun res e x).draw.1)).1 then {} else { status := stFaulted, detail := dtAddr }))
      | none => False := by
  have hx := (exec_queryLeaseRecord ..).trans (State.query_asks h hs ho hb hw res fun x s =>
    (s.draw.2.putBytes x.plot (x.pk 16 8) (leBytes 64 s.draw.1)).2.endWork e
      (if (s.draw.2.putBytes x.plot (x.pk 16 8) (leBytes 64 s.draw.1)).1 then {} else { status := stFaulted, detail := dtAddr }))
  have hd := (s.begun res e x).draw.2.putBytes_drill x.plot (x.pk 16 8) (leBytes 64 (s.begun res e x).draw.1)
  dsimp only at hx
  generalize (s.begun res e x).draw.2.putBytes x.plot (x.pk 16 8) (leBytes 64 (s.begun res e x).draw.1) = w at hx hd
  exact answers_ended hx (.of_begun hd _)

theorem exec_signal_read (ho : x.opcode = 0x07) (hb : x.begun = false) (hsp : opSpace (x.pk 8 8) ≠ 1) (res : MemRes) :
    match (s.begun res e x).dmaRead x.plot (opAddr (x.pk 8 8)) 8 with
    | (.data b, u) =>
      (match u.dmaWrite x.plot (opAddr (x.pk 8 8))
        (leBytes 8 (if x.pk 24 1 = 1 then leNat b + x.pk 16 8 else x.pk 16 8)) true with
      | (.done, v) => exec (.signal e res) s = .next { (v.endWork e {}).waitsOn x.plot (x.pk 8 8) with res := .ok }
      | _ => answers (.signal e res) s fun u => match u.entry e with
        | some y => y.reply = some (x.reply.getD { status := stFaulted, detail := dtAddr })
        | none => False)
    | (.poison, _) => answers (.signal e res) s fun u => match u.entry e with
      | some y => y.reply = some (x.reply.getD { status := stFaulted, detail := dtData })
      | none => False
    | (.fault, _) => answers (.signal e res) s fun u => match u.entry e with
      | some y => y.reply = some (x.reply.getD { status := stFaulted, detail := dtAddr })
      | none => False
    | _ => True := by
  have hx := exec_signal_word h hs ho hb hsp res
  have hd := (s.begun res e x).dmaRead_drill x.plot (opAddr (x.pk 8 8)) 8
  unfold State.signalWord at hx
  generalize (s.begun res e x).dmaRead x.plot (opAddr (x.pk 8 8)) 8 = r at hx hd
  obtain ⟨d, v⟩ := r
  cases d with
  | data b =>
    have hw := v.dmaWrite_drill x.plot (opAddr (x.pk 8 8))
      (leBytes 8 (if x.pk 24 1 = 1 then leNat b + x.pk 16 8 else x.pk 16 8)) true
    dsimp only at hx ⊢
    generalize v.dmaWrite x.plot (opAddr (x.pk 8 8))
      (leBytes 8 (if x.pk 24 1 = 1 then leNat b + x.pk 16 8 else x.pk 16 8)) true = r at hx hw
    obtain ⟨d, w⟩ := r
    cases d with
    | done => exact hx
    | fault | held => exact answers_ended hx (.of_begun (hw.trans hd) _)
    | remote p l => exact answers_ended hx (.of_begun (hw.trans hd) _)
  | held => trivial
  | poison => exact answers_ended hx (.of_begun hd _)
  | fault => exact answers_ended hx (.of_begun hd _)
  | remote p l => trivial

end

/-- What a WAIT's word makes of it, as an obligation states it. -/
theorem State.waitEval_runs {s v : State} {e : Nat} {x : Entry} {b : List Byte} (h : s.entry e = some x)
    (ho : x.opcode = 0x08) (hm : s.mayStart x = true) (ha : x.away = false) (hsp : opSpace (x.pk 8 8) ≠ 1)
    (hr : (s.setEntry e { x with since := some (x.since.getD s.now) }).dmaRead x.plot (opAddr (x.pk 8 8)) 8 = (.data b, v)) :
    let holds := if x.pk 24 1 = 0 then x.pk 16 8 ≤ leNat b else if x.pk 24 1 = 1 then leNat b = x.pk 16 8
      else leNat b ≠ x.pk 16 8
    match (s.waitEval e).entry e with
    | some y => (holds → y.state = .running ∧ y.reply = some {}) ∧ (¬holds → y.state = .held)
    | none => False := by
  intro holds
  have hd := (s.setEntry e { x with since := some (x.since.getD s.now) }).dmaRead_drill x.plot (opAddr (x.pk 8 8)) 8
  rw [hr] at hd
  have hv : v.entry e = some { x with since := some (x.since.getD s.now) } :=
    (State.entry_of_drill hd e).trans (State.entry_setEntry_self ..)
  obtain ⟨y, hy, h1, h2⟩ := State.waitWord_decides (w := leNat b) hv ho (State.mayStart_held hm)
  have hiff := waitHolds_iff (x.pk 24 1) (leNat b) (x.pk 16 8)
  rw [State.waitEval_reads h ho hm ha hsp hr, hy]
  exact ⟨fun hh => h1 (hiff.mpr hh), fun hh => h2 (Bool.eq_false_iff.mpr fun ht => hh (hiff.mp ht))⟩

/-- A piece written to memory, as an obligation states it. -/
theorem State.putPiece_effect {s : State} {e plot dst : Nat} {b : List Byte} {x : Entry} (h : s.entry e = some x)
    (hd : opSpace dst ≠ 1) : match s.dmaWrite plot (opAddr dst) b false with
      | (.done, v) => (s.putPiece e plot dst b).granary = v.granary ∧
        (s.putPiece e plot dst b).entry e = some { x with away := false, prog := x.prog + b.length }
      | (.fault, _) => (match (s.putPiece e plot dst b).entry e with
        | some y => y.reply = some (x.reply.getD { status := stFaulted, detail := dtAddr, result := x.prog })
        | none => False)
      | _ => True := by
  generalize hw : s.dmaWrite plot (opAddr dst) b false = r
  obtain ⟨d, v⟩ := r
  have hv := State.entry_dmaWritten h hw
  cases d with
  | done =>
    dsimp only
    rw [State.putPiece_done hd hw rfl]
    refine ⟨granary_of_keep (m := among [.granary, .mem]) (State.pieceDone_keep rfl ..) rfl rfl, ?_⟩
    exact State.entry_modEntry_self hv _
  | fault =>
    dsimp only
    rw [State.putPiece_fault h hd hw rfl]
    exact (State.endWork_ended hv _).of
  | held => trivial
  | remote p l => trivial

/-- Settles O36: each command's work from the entry it has begun; the accesses of memory leave the ledger and the threads
alone, and a sowing sets each context with its own seed. -/
theorem drillCommandResults : Obligations.DrillCommandResults := by
  unfold Obligations.DrillCommandResults
  refine ⟨?_, ?_, ?_, ?_, ?_, ?_⟩
  · intro s e res
    cases h : s.entry e with
    | none => trivial
    | some x =>
      intro hs t ended fresh goes
      have hended : ∀ {i : Instr} {u : State} {r : Reply}, exec i s = .next { u with res := .ok } → u.EndedBy e x r →
        answers i s (ended r) := answers_ended
      refine ⟨?_, ?_, ?_, ?_, ?_, ?_, ?_, ?_⟩
      · rintro ⟨ho, hb⟩
        refine ⟨fun hl => ?_, fun hl hown hbusy ha => ?_⟩
        · have hx := exec_sow_begins h hs ho hb res
          rw [State.startSow_locked (s := s.begun res e x) hl] at hx
          exact hended hx (.of_begun rfl _)
        · have hx := exec_sow_reads h hs ho hb res hl hown hbusy ha
          have hd := (s.begun res e x).dmaReadAll_drill x.plot (opAddr (s.plot x.plot).rtdesc) 4 128
          have hdata := fun d v => exec_sow_data (s := s) (x := x) (e := e) (d := d) (v := v) (res := res) (a := opAddr (s.plot x.plot).rtdesc)
          change match (s.begun res e x).dmaReadAll x.plot (opAddr (s.plot x.plot).rtdesc) 4 128 with
            | (.data d, _) => _ | (.fail, _) => _ | (.held, _) => _
          generalize (s.begun res e x).dmaReadAll x.plot (opAddr (s.plot x.plot).rtdesc) 4 128 = r at hx hd hdata
          obtain ⟨d, v⟩ := r
          cases d with
          | data d => exact hdata d v rfl hx
          | fail => exact hended hx (.of_begun hd _)
          | held => trivial
      · rintro ⟨ho, hr, ha⟩ src dst n
        exact ⟨fun hp => hended (exec_copy_done h hs ho hr ha hp res) (.of_begun rfl _),
          fun hp hsp => exec_copy_read h hs ho hr ha hp hsp res⟩
      · rintro ⟨ho, hr, ha⟩
        exact ⟨fun hp => hended (exec_fill_done h hs ho hr ha hp res) (.of_begun rfl _),
          fun hp => exec_fill_piece h hs ho hr ha hp res⟩
      · rintro ⟨ho, hb⟩ hsp
        exact exec_signal_read h hs ho hb hsp res
      · rintro ⟨ho, hb⟩
        have hx := exec_tillMode_eq h hs ho hb
        have hf : firstFail [t.step3 x, t.step5 x] = firstFail [(s.begun .ok e x).step3 x, (s.begun .ok e x).step5 x] := rfl
        rw [hf]
        cases hr : firstFail [(s.begun .ok e x).step3 x, (s.begun .ok e x).step5 x] with
        | some r =>
          rw [hr] at hx
          exact hended hx (.of_begun rfl _)
        | none =>
          rw [hr] at hx
          exact hx
      · rintro ⟨ho, hb⟩ hn
        have hx := exec_tillRun_eq h hs ho hb hn
        have hf : t.step5 x = (s.begun .ok e x).step5 x := rfl
        rw [hf]
        cases hr : (s.begun .ok e x).step5 x with
        | some r =>
          rw [hr] at hx
          exact hended hx (.of_begun rfl _)
        | none =>
          rw [hr] at hx
          have hl := (s.begun .ok e x).tillStart_leaves (x.pk 8 1) (imageWords x.content) (x.pk 10 2)
            ((List.range 4).map fun k => x.pk (24 + 2 * k) 2) e
          dsimp only at hx hl
          generalize (s.begun .ok e x).tillStart (x.pk 8 1) (imageWords x.content) (x.pk 10 2)
            ((List.range 4).map fun k => x.pk (24 + 2 * k) 2) e = u at hx hl
          exact ⟨_, hx, hl⟩
      · rintro ⟨ho, hb⟩
        refine ⟨fun hw => ?_, fun hw => ?_, fun hw => ?_⟩
        · exact hended ((exec_queryEntryState ..).trans (State.query_asks h hs ho hb hw .ok _)) (.of_begun rfl _)
        · exact exec_queryLeaseRecord_ends h hs ho hb hw res
        · exact hended ((exec_queryLedgerCounts ..).trans (State.query_asks h hs ho hb hw .ok _)) (.of_begun rfl _)
      · rintro ⟨ho, hb⟩
        obtain ⟨u, hu, hy⟩ := exec_headlandMsg_goes h hs ho hb
        refine ⟨u, hu, ?_⟩
        beta_reduce
        rw [hy]
        exact ⟨rfl, rfl⟩
  · intro s e plot dst b hd
    cases h : s.entry e with
    | none => trivial
    | some x => exact State.putPiece_effect h hd
  · intro s e res
    cases h : s.entry e with
    | none => trivial
    | some x =>
      intro ho
      refine ⟨fun hm ha hsp => ?_, ?_⟩
      · generalize hr : (State.setEntry { s with res := res } e { x with since := some (x.since.getD s.now) }).dmaRead x.plot
          (opAddr (x.pk 8 8)) 8 = r
        obtain ⟨d, v⟩ := r
        cases d with
        | data b =>
          have hruns := State.waitEval_runs (s := { s with res := res }) h ho hm ha hsp hr
          exact ⟨⟨_, exec_waitCommand .., hruns⟩, ⟨_, exec_waitCommandPoll .., hruns⟩⟩
        | fault | poison | held => trivial
        | remote p l => trivial
      · cases hn : x.since with
        | none => trivial
        | some n =>
          intro hh hp ht
          obtain ⟨u, hu, hy⟩ := exec_waitCommandTimeout_fails h hn ho hh hp ht
          refine ⟨u, hu, ?_⟩
          beta_reduce
          rw [hy]
          exact ⟨rfl, rfl⟩
  · intro s e res
    cases h : s.msgOut e with
    | none => trivial
    | some x =>
      dsimp only
      cases ha : s.isl.answer with
      | some a =>
        obtain ⟨code, rsp⟩ := a
        cases rsp with
        | cons => trivial
        | nil =>
          obtain ⟨u, hu, hi, he⟩ := exec_mailboxAnswer_empty h ha res
          exact ⟨u, hu, hi, he.of⟩
      | none =>
        cases hn : x.since with
        | none => trivial
        | some n =>
          intro ht
          obtain ⟨u, hu, hi, he⟩ := exec_islandTimeout_fails h ha hn ht
          exact ⟨u, hu, hi, he.of⟩
  · intro s h hx hm hh hr hp hl hf hq
    have hc : ((s.thread h).exited && decide ((s.thread h).mode ≠ .halted) && decide ((s.thread h).hold = none) &&
        decide ((s.thread h).raised = none) && (s.thread h).posted.isEmpty && !s.locked (coreOf h) &&
        !((s.core (coreOf h)).pfs.any fun p => p.2 = h.val) && !(s.tile (coreOf h)).queue.any fun e => e.thread = h.val) =
        true := by
      simp only [hx, hm, hh, hr, hp, hl, hf, hq, decide_true, ne_eq, not_false_eq_true, List.isEmpty_nil, Bool.not_false,
        Bool.and_true]
    exact ⟨_, (exec_park ..).trans (congrArg Host.Outcome.next (if_pos hc)), s.parkThread_leaves h⟩
  · intro s e
    cases h : s.entry e with
    | none => trivial
    | some x =>
      cases hw : x.sow with
      | none =>
        dsimp only
        rw [hw]
        trivial
      | some w =>
        dsimp only
        rw [hw]
        refine ⟨?_, ?_⟩
        · cases hn : x.since with
          | none => trivial
          | some n => exact fun ho hs hf hp ht hov => exec_sowTimeout_stops h hw hn ho hs hf hp ht hov
        · cases hn : w.stopAt with
          | none => trivial
          | some n =>
            intro ht hleft
            obtain ⟨u, hu, hy⟩ := exec_stopTmo_forces h hw hn ht hleft
            refine ⟨u, hu, ?_⟩
            beta_reduce
            rw [hy]
            rfl

end Sys2Proof.Machine
end
section
/-! PROOF. The host port: its link, completions and time-outs, detachment, and refused accesses (R364 to R390). -/

namespace Sys2Proof.Machine

/-! ### Streams pause -/

/-- The functions and the streams that are there stay, and a paused stream stays paused. -/
def State.Pauses (s u : State) : Prop :=
  u.host.fns = s.host.fns ∧ (∀ k, s.stream k ≠ none → u.stream k ≠ none) ∧
  ∀ k, s.on HRW_S_STAT.PAUSED k = true → u.on HRW_S_STAT.PAUSED k = true

theorem State.Pauses.refl (s : State) : s.Pauses s := ⟨rfl, fun _ h => h, fun _ h => h⟩

theorem State.Pauses.trans {s t u : State} (h : s.Pauses t) (g : t.Pauses u) : s.Pauses u :=
  ⟨g.1.trans h.1, fun k hk => g.2.1 k (h.2.1 k hk), fun k hk => g.2.2 k (h.2.2 k hk)⟩

theorem State.Pauses.of_keep {m : Facet → Bool} {s u : State} (e : u.keep m = s.keep m) (hh : m .host = true)
    (hw : m (.blk .HRW) = true) : s.Pauses u := by
  have hhost : u.host = s.host := host_of_keep e hh
  refine ⟨congrArg HostPort.fns hhost, fun k hk => ?_, fun k hk => (on_of_keep e (F := HRW_S_STAT.PAUSED) hw k).trans hk⟩
  unfold State.stream
  rw [hhost]
  exact hk

theorem find_put_ne_none {α : Type} {k n : Nat} {v : α} {l : List (Nat × α)} (h : find k l ≠ none) : find k (put n v l) ≠ none := by
  by_cases e : k = n
  · rw [e, find_put_self]
    exact nofun
  · rwa [find_put_ne e]

/-- A stream that was running pauses. -/
def State.streamPaused (s : State) (n : Nat) (x : Stream) : State :=
  (((s.setOn HRW_S_STAT.PAUSED n true).setStream n { x with off := 0, away := false }).staleReads fun u => match u with
    | .element k _ => k = n
    | _ => false)

theorem State.streamPaused_pauses (s : State) (n : Nat) (x : Stream) : s.Pauses (s.streamPaused n x) ∧
    (s.streamPaused n x).on HRW_S_STAT.PAUSED n = true := by
  have hon : ∀ k, (s.streamPaused n x).on HRW_S_STAT.PAUSED k = (s.setOn HRW_S_STAT.PAUSED n true).on HRW_S_STAT.PAUSED k :=
    fun _ => rfl
  refine ⟨⟨rfl, fun k hk => find_put_ne_none hk, fun k hk => ?_⟩, (hon n).trans (State.on_setOn_self _ rfl n true)⟩
  rw [hon]
  by_cases e : k = n
  · rw [e]
    exact State.on_setOn_self _ rfl n true
  · rw [State.on_setOn_ne s (fun h => e (Fld.key_inj h))]
    exact hk

theorem State.pauseStream_eq {s : State} {n : Nat} {x : Stream} (h : s.stream n = some x) (lost : Bool) :
    s.pauseStream n lost =
      if (if lost then s.setOn HRW_S_STAT.HOST_LOST n true else s).on HRW_S_STAT.PAUSED n then
        (if lost then s.setOn HRW_S_STAT.HOST_LOST n true else s)
      else (((if lost then s.setOn HRW_S_STAT.HOST_LOST n true else s).streamPaused n x).streamEvent n).tryClose n := by
  unfold State.pauseStream
  rw [h] <;> rfl

theorem State.pauseStream_pauses (s : State) (n : Nat) (lost : Bool) : s.Pauses (s.pauseStream n lost) ∧
    (s.stream n ≠ none → (s.pauseStream n lost).on HRW_S_STAT.PAUSED n = true) := by
  cases h : s.stream n with
  | none =>
    have hs : s.pauseStream n lost = s := by
      unfold State.pauseStream
      rw [h]
    rw [hs]
    exact ⟨.refl s, fun hn => absurd rfl hn⟩
  | some x =>
    rw [State.pauseStream_eq h]
    have hlost : s.Pauses (if lost then s.setOn HRW_S_STAT.HOST_LOST n true else s) := by
      split
      · refine ⟨rfl, fun _ hk => hk, fun k hk => ?_⟩
        unfold State.on at hk ⊢
        rw [State.f_setOn_apart _ (by decide)]
        exact hk
      · exact .refl s
    generalize (if lost then s.setOn HRW_S_STAT.HOST_LOST n true else s) = v at hlost ⊢
    split
    next hp => exact ⟨hlost, fun _ => hp⟩
    next =>
      obtain ⟨h1, h2⟩ := v.streamPaused_pauses n x
      have h3 : (v.streamPaused n x).Pauses (((v.streamPaused n x).streamEvent n).tryClose n) :=
        .of_keep (m := among [.host, .blk .HRW])
          ((State.tryClose_keep rfl _ n).trans (State.streamEvent_keep rfl rfl rfl _ n)) rfl rfl
      exact ⟨hlost.trans (h1.trans h3), fun _ => h3.2.2 n h2⟩

theorem State.pauses_foldl (lost : Bool) (l : List Nat) (s : State) :
    s.Pauses (l.foldl (fun v n => v.pauseStream n lost) s) ∧
    ∀ n ∈ l, s.stream n ≠ none → (l.foldl (fun v n => v.pauseStream n lost) s).on HRW_S_STAT.PAUSED n = true := by
  induction l generalizing s with
  | nil => exact ⟨.refl s, nofun⟩
  | cons a l ih =>
    obtain ⟨h1, h2⟩ := s.pauseStream_pauses a lost
    obtain ⟨h3, h4⟩ := ih (s.pauseStream a lost)
    refine ⟨h1.trans h3, fun n hn hs => ?_⟩
    rcases List.mem_cons.mp hn with hn | hn
    · exact h3.2.2 n (hn ▸ h2 (hn ▸ hs))
    · exact h4 n hn (h1.2.1 n hs)

/-! ### A function is detached -/

section
variable (s : State) (p cause : Nat) (lost : Bool)

/-- The cause of a detachment, shown and logged. -/
def State.causeShown : State := (s.setF HST_ATTACH.CAUSE p cause).logEvent 0x0031 noInst p cause 0 0

theorem State.causeShown_keeps :
    (s.causeShown p cause).keep (among [.host, .blk .HRW]) = s.keep (among [.host, .blk .HRW]) :=
  (State.logEvent_keep rfl rfl ..).trans (State.setF_keep _ _ rfl p cause)

theorem State.causeShown_f (F : Fld) (hF : F.blk = .HST) (i : Nat) :
    (s.causeShown p cause).f F i = (s.setF HST_ATTACH.CAUSE p cause).f F i :=
  f_of_only hF (State.logEvent_keep rfl rfl ..) i

/-- What the cause of a detachment leaves: it is shown, and the plot's streams are paused. -/
theorem State.detachCause_leaves (hc : cause < 16) :
    s.Pauses (s.detachCause p cause lost) ∧ (s.detachCause p cause lost).f HST_ATTACH.CAUSE p = cause ∧
    (∀ n ∈ s.openStreams p, s.stream n ≠ none → (s.detachCause p cause lost).on HRW_S_STAT.PAUSED n = true) ∧
    ∀ F : Fld, F.blk = .HST → F.apart HST_ATTACH.CAUSE = true → ∀ i, (s.detachCause p cause lost).f F i = s.f F i := by
  let v := s.causeShown p cause
  have hk : v.keep (among [.host, .blk .HRW]) = s.keep (among [.host, .blk .HRW]) := s.causeShown_keeps p cause
  have hhost : v.host = s.host := host_of_keep hk rfl
  have hopen : v.openStreams p = s.openStreams p := by
    have hplot : ∀ n, v.f HRW_S_STAT.PLOT n = s.f HRW_S_STAT.PLOT n := fun n => f_of_keep hk rfl n
    unfold State.openStreams
    rw [hhost]
    simp only [hplot]
  obtain ⟨h1, h2⟩ := v.pauses_foldl lost (v.openStreams p)
  have hf : ∀ F : Fld, F.blk = .HST → ∀ i, (s.detachCause p cause lost).f F i = v.f F i := fun F hF i =>
    f_of_only hF (State.pauseStreams_keep rfl rfl rfl rfl rfl rfl v p lost) i
  have hstream : ∀ n, v.stream n = s.stream n := fun n => congrArg (fun h : HostPort => find n h.streams) hhost
  refine ⟨(State.Pauses.of_keep hk rfl rfl).trans h1, ?_, fun n hn hs => ?_, fun F hF ha i => ?_⟩
  · rw [hf _ rfl, State.causeShown_f _ _ _ _ rfl, State.f_setF_self]
    exact Nat.mod_eq_of_lt hc
  · exact h2 n (hopen ▸ hn) ((hstream n).symm ▸ hs)
  · rw [hf F hF, State.causeShown_f _ _ _ _ hF, State.f_setF_apart _ ha]

/-- The host queues of a plot that are enabled. -/
def State.hostQueues : List Nat := (plotQueues p).filter fun q => s.on DRL_Q_CFG.EN q && s.qHost q

/-- A function's attachment is given up. -/
def State.givenUp : State :=
  let v := (s.setF HST_ATTACH.STATE p 1).setF HST_ATTACH.REBASE p (maskOfBits ((s.hostQueues p).map (· % 8)))
  (v.setOn HST_RB_CTL.BUSY p false).setFn p { s.fn p with rebasing := none }

/-- Fetches on their way are discarded. -/
def State.fetchesGone : State :=
  s.staleReads fun u => match u with | .packet q _ => q / 8 = p | .tail q => q / 8 = p | _ => false

def State.queuesReset (l : List Nat) : State :=
  l.foldl (fun s q => s.setQueue q { s.queue q with rebased := false, reading := false }) s

/-- A function that was attached is detached. -/
def State.detaching : State := ((s.givenUp p).fetchesGone p).queuesReset (s.hostQueues p)

theorem State.detach_attached (h : s.detached p = false) : s.detach p cause lost = (s.detaching p).detachCause p cause lost := by
  unfold State.detach
  rw [h]
  rfl

theorem State.detach_detached (h : s.detached p = true) (hc : cause ≠ 1) :
    s.detach p cause lost = s.detachCause p cause lost := by
  unfold State.detach
  rw [h, decide_eq_true hc]
  rfl

theorem State.detaching_eq : ∃ d, s.detaching p = { (s.givenUp p).fetchesGone p with drill := d } := by
  unfold State.detaching
  generalize s.hostQueues p = l
  generalize (s.givenUp p).fetchesGone p = v
  induction l generalizing v with
  | nil => exact ⟨v.drill, rfl⟩
  | cons q l ih =>
    obtain ⟨d, hd⟩ := ih (v.setQueue q { v.queue q with rebased := false, reading := false })
    exact ⟨d, hd⟩

theorem State.detaching_leaves : (s.detaching p).f HST_ATTACH.STATE p = 1 ∧ (s.detaching p).on HST_RB_CTL.BUSY p = false ∧
    (s.detaching p).fn p = { s.fn p with rebasing := none } ∧ (s.detaching p).openStreams p = s.openStreams p ∧
    (∀ n, (s.detaching p).stream n = s.stream n) ∧
    ∀ F : Fld, F.apart HST_ATTACH.STATE = true → F.apart HST_ATTACH.REBASE = true → F.apart HST_RB_CTL.BUSY = true →
      ∀ i, (s.detaching p).f F i = s.f F i := by
  obtain ⟨d, hd⟩ := s.detaching_eq p
  let v := (s.setF HST_ATTACH.STATE p 1).setF HST_ATTACH.REBASE p (maskOfBits ((s.hostQueues p).map (· % 8)))
  have hf : ∀ F i, (s.detaching p).f F i = (v.setOn HST_RB_CTL.BUSY p false).f F i := by
    intro F i
    rw [hd]
    rfl
  have hother : ∀ F : Fld, F.apart HST_ATTACH.STATE = true → F.apart HST_ATTACH.REBASE = true →
      F.apart HST_RB_CTL.BUSY = true → ∀ i, (s.detaching p).f F i = s.f F i := fun F h1 h2 h3 i => by
    rw [hf, State.f_setOn_apart _ h3, State.f_setF_apart _ h2, State.f_setF_apart _ h1]
  have hstreams : (s.detaching p).host.streams = s.host.streams := by
    rw [hd]
    rfl
  refine ⟨?_, ?_, ?_, ?_, fun n => congrArg (find n) hstreams, hother⟩
  · rw [hf, State.f_setOn_apart _ (by decide), State.f_setF_apart _ (by decide), State.f_setF_self]
    rfl
  · unfold State.on
    rw [hf, ← State.on]
    exact State.on_setOn_self _ rfl p false
  · rw [hd]
    exact findD_put_self ..
  · unfold State.openStreams
    rw [hstreams]
    simp only [hother HRW_S_STAT.PLOT (by decide) (by decide) (by decide)]

end

/-- A function is detached from state `s`, by a cause. -/
def State.Gone (s : State) (p cause : Nat) (u : State) : Prop :=
  u.f HST_ATTACH.STATE p = 1 ∧ u.f HST_ATTACH.CAUSE p = cause ∧
  (∀ n ∈ s.openStreams p, s.stream n ≠ none → u.on HRW_S_STAT.PAUSED n = true) ∧
  (s.detached p = true → u.f HST_ATTACH.REBASE p = s.f HST_ATTACH.REBASE p ∧ (u.fn p).rebasing = (s.fn p).rebasing) ∧
  (s.detached p = false → u.on HST_RB_CTL.BUSY p = false ∧ (u.fn p).rebasing = none)

theorem State.fn_of_pauses {s u : State} (h : s.Pauses u) (p : Nat) : u.fn p = s.fn p := congrArg (findD ({} : FnRec) p) h.1

theorem State.detach_gone (s : State) (p : Nat) {cause : Nat} (lost : Bool) (hc : cause ≠ 1) (hlt : cause < 16) :
    s.Gone p cause (s.detach p cause lost) ∧ ((s.detach p cause lost).fn p).master = (s.fn p).master ∧
      ((s.detach p cause lost).fn p).d3hot = (s.fn p).d3hot := by
  cases hd : s.detached p with
  | true =>
    obtain ⟨hp, hcause, hpause, hf⟩ := s.detachCause_leaves p cause lost hlt
    have hfn := State.fn_of_pauses hp p
    rw [s.detach_detached p cause lost hd hc, hfn]
    refine ⟨⟨(hf _ rfl (by decide) p).trans (of_decide_eq_true hd), hcause, hpause, fun _ => ⟨hf _ rfl (by decide) p, ?_⟩,
      fun h => absurd (hd.symm.trans h) (by decide)⟩, rfl, rfl⟩
    rw [hfn]
  | false =>
    obtain ⟨hstate, hbusy, hfn, hopen, hstream, -⟩ := s.detaching_leaves p
    obtain ⟨hp, hcause, hpause, hf⟩ := (s.detaching p).detachCause_leaves p cause lost hlt
    have hfn' := (State.fn_of_pauses hp p).trans hfn
    rw [s.detach_attached p cause lost hd, hfn']
    refine ⟨⟨(hf _ rfl (by decide) p).trans hstate, hcause, fun n hn hs => ?_, fun h => absurd (hd.symm.trans h) (by decide),
      fun _ => ⟨?_, by rw [hfn']⟩⟩, rfl, rfl⟩
    · exact hpause n (hopen.symm ▸ hn) ((hstream n).symm ▸ hs)
    · unfold State.on at hbusy ⊢
      rw [hf _ rfl (by decide)]
      exact hbusy

theorem State.detach_f (s : State) (p cause : Nat) (lost : Bool) {F : Fld} (hF : F.blk = .HST)
    (h1 : F.apart HST_ATTACH.STATE = true) (h2 : F.apart HST_ATTACH.REBASE = true) (h3 : F.apart HST_RB_CTL.BUSY = true)
    (h4 : F.apart HST_ATTACH.CAUSE = true) (i : Nat) : (s.detach p cause lost).f F i = s.f F i := by
  have hcause : ∀ v : State, (v.detachCause p cause lost).f F i = v.f F i := fun v =>
    (f_of_only hF (State.pauseStreams_keep rfl rfl rfl rfl rfl rfl (v.causeShown p cause) p lost) i).trans
      ((v.causeShown_f p cause F hF i).trans (State.f_setF_apart _ h4 ..))
  obtain ⟨-, -, -, -, -, hf⟩ := s.detaching_leaves p
  have hd : s.detach p cause lost = s.detachCause p cause lost ∨
      s.detach p cause lost = (s.detaching p).detachCause p cause lost := by
    by_cases hc : (s.detached p && decide (cause ≠ 1)) = true
    · exact .inl (if_pos hc)
    · exact .inr (if_neg hc)
  rcases hd with hd | hd <;> rw [hd, hcause]
  exact hf F h1 h2 h3 i

/-! ### Reads that fail, and the link -/

/-- A field of the host port that neither a detachment nor a read's end touches. -/
def Fld.ofLink (F : Fld) : Bool :=
  decide (F.blk = .HST) && F.apart HST_ATTACH.STATE && F.apart HST_ATTACH.REBASE && F.apart HST_RB_CTL.BUSY &&
    F.apart HST_ATTACH.CAUSE

section
variable {F : Fld} (hF : F.ofLink = true)
include hF

theorem State.detach_ofLink (s : State) (p cause : Nat) (lost : Bool) (i : Nat) : (s.detach p cause lost).f F i = s.f F i := by
  simp only [Fld.ofLink, Bool.and_eq_true, decide_eq_true_eq] at hF
  obtain ⟨⟨⟨⟨h0, h1⟩, h2⟩, h3⟩, h4⟩ := hF
  exact s.detach_f p cause lost h0 h1 h2 h3 h4 i

theorem State.hostFails_ofLink (s : State) (r : HostRead) (i : Nat) : (s.hostFails r).f F i = s.f F i := by
  have hb : F.blk = .HST := by
    simp only [Fld.ofLink, Bool.and_eq_true, decide_eq_true_eq] at hF
    exact hF.1.1.1.1
  have hkeep : ∀ {t u : State}, u.keep (Facet.only (.blk .HST)) = t.keep (Facet.only (.blk .HST)) → u.f F i = t.f F i :=
    fun e => f_of_only hb e i
  unfold State.hostFails
  split
  · rw [State.detach_ofLink hF]
    exact hkeep ((State.setOn_keep _ _ rfl ..).trans (State.setQueue_keep rfl ..))
  · rw [State.detach_ofLink hF]
    exact hkeep ((State.setOn_keep _ _ rfl ..).trans (State.setQueue_keep rfl ..))
  · exact hkeep (State.refuse_keep rfl ..)
  · exact hkeep (State.endWork_keep rfl ..)
  · exact hkeep (State.refuse_keep rfl ..)
  · rw [State.detach_ofLink hF]
    exact hkeep (State.pauseStream_keep rfl rfl rfl rfl rfl rfl ..)
  · dsimp only
    rw [State.detach_ofLink hF, hkeep (State.pauseStream_keep rfl rfl rfl rfl rfl rfl ..)]
    split <;> rfl
  · split
    · split
      · rfl
      · exact hkeep (State.fault_keep rfl ..)
    · rfl
  · rfl

theorem State.readTimesOut_ofLink (s : State) (tag : Nat) (i : Nat) (h1 : F.apart HST_EVENT.CPL_TMO = true)
    (h2 : F.apart HST_TMOCNT.COUNT = true) : (s.readTimesOut tag).f F i = s.f F i := by
  unfold State.readTimesOut
  split
  · rfl
  · rw [State.hostFails_ofLink hF, State.f_bump_apart _ h2, State.f_setOn_apart _ h1]
    rfl

theorem State.hostPortReset_ofLink (s : State) (i : Nat) : s.hostPortReset.f F i = s.f F i := by
  have hb : F.blk = .HST := by
    simp only [Fld.ofLink, Bool.and_eq_true, decide_eq_true_eq] at hF
    exact hF.1.1.1.1
  have hr : s.hostPortReset.f F i = s.portDetached.f F i := rfl
  have h0 : (s.setOn PWR_RESET_CAUSE.HOST_PORT 0 true).f F i = s.f F i := f_of_only hb (State.setOn_keep _ _ rfl ..) i
  rw [hr]
  unfold State.portDetached
  dsimp only
  split
  · rw [foldl_f fun (v : State) p => v.detach_ofLink hF p 1 true i]
    exact h0
  · exact h0

end

section
variable (s : State)

theorem exec_dlUp_off (width : Fin 5) (rate : Fin 6) (h : ¬(s.live = true ∧ s.clk.rootHeld = false ∧ s.clk.perstLow = false ∧
    s.clk.training = true)) : exec (.dlUp width rate) s = .next s := by
  refine (exec_dlUp ..).trans (congrArg Host.Outcome.next (if_pos ?_))
  revert h
  cases s.live <;> cases s.clk.rootHeld <;> cases s.clk.perstLow <;> cases s.clk.training <;> simp

/-- The link as it has trained. -/
def State.linkShown (width : Fin 5) (rate : Fin 6) : State :=
  (((s.setOn HST_LINK.DL_UP 0 true).setF HST_LINK.WIDTH 0 (2 ^ width.val)).setF HST_LINK.RATE 0 (rate + 1)).setOn
    HST_LINK.DEGRADED 0 (decide (rate.val < 3))

theorem exec_dlUp_trained (width : Fin 5) (rate : Fin 6) (h : s.live = true ∧ s.clk.rootHeld = false ∧
    s.clk.perstLow = false ∧ s.clk.training = true) : exec (.dlUp width rate) s = .next (s.linkShown width rate) := by
  obtain ⟨h1, h2, h3, h4⟩ := h
  have hc : ¬(!s.live || s.clk.rootHeld || s.clk.perstLow || !s.clk.training) = true := by
    rw [h1, h2, h3, h4]
    decide
  exact (exec_dlUp ..).trans (congrArg Host.Outcome.next (if_neg hc))

theorem State.linkShown_shows (width : Fin 5) (rate : Fin 6) : (s.linkShown width rate).on HST_LINK.DL_UP 0 = true ∧
    (s.linkShown width rate).f HST_LINK.WIDTH 0 = 2 ^ width.val ∧ (s.linkShown width rate).f HST_LINK.RATE 0 = rate.val + 1 ∧
    (s.linkShown width rate).on HST_LINK.DEGRADED 0 = decide (rate.val < 3) := by
  unfold State.linkShown
  refine ⟨?_, ?_, ?_, State.on_setOn_self _ rfl 0 _⟩
  · unfold State.on
    rw [State.f_setOn_apart _ (by decide), State.f_setF_apart _ (by decide), State.f_setF_apart _ (by decide), ← State.on]
    exact State.on_setOn_self _ rfl 0 true
  · rw [State.f_setOn_apart _ (by decide), State.f_setF_apart _ (by decide), State.f_setF_self]
    revert width
    decide
  · rw [State.f_setOn_apart _ (by decide), State.f_setF_self]
    revert rate
    decide

theorem exec_dlDown_down (h : s.on HST_LINK.DL_UP 0 = false) : exec .dlDown s = .next s := by
  refine (exec_dlDown ..).trans (congrArg Host.Outcome.next ?_)
  unfold State.dlDown
  rw [h]
  rfl

/-- The link as it is lost, before the reads end. -/
def State.linkFell : State :=
  let s := (((s.setOn HST_LINK.DL_UP 0 false).setOn HST_LINK.DEGRADED 0 false).setF HST_LINK.WIDTH 0 0).setF HST_LINK.RATE 0 0
  ((s.setOn HST_EVENT.LINK_DOWN 0 true).bump HST_DOWNCNT.COUNT 0).log0 0x0030 (s.regAt .HST 0 0)

theorem State.linkLost_eq : s.linkLost = (s.linkFell.host.reads.map (·.1)).foldl (fun s t => s.readTimesOut t) s.linkFell := rfl

theorem State.linkFell_f (F : Fld) (hF : F.blk = .HST) (i : Nat) : s.linkFell.f F i =
    ((((((s.setOn HST_LINK.DL_UP 0 false).setOn HST_LINK.DEGRADED 0 false).setF HST_LINK.WIDTH 0 0).setF HST_LINK.RATE 0
      0).setOn HST_EVENT.LINK_DOWN 0 true).bump HST_DOWNCNT.COUNT 0).f F i :=
  f_of_only hF (State.log0_keep rfl rfl ..) i

theorem State.linkLost_f {F : Fld} (hF : F.ofLink = true) (h1 : F.apart HST_EVENT.CPL_TMO = true)
    (h2 : F.apart HST_TMOCNT.COUNT = true) (i : Nat) : s.linkLost.hostPortReset.f F i = s.linkFell.f F i := by
  rw [State.hostPortReset_ofLink hF, State.linkLost_eq]
  exact foldl_f (fun (v : State) t => v.readTimesOut_ofLink hF t i h1 h2) _ _

/-- What a lost link leaves. -/
theorem State.linkLost_leaves : s.linkLost.hostPortReset.on HST_LINK.DL_UP 0 = false ∧
    s.linkLost.hostPortReset.on HST_EVENT.LINK_DOWN 0 = true ∧ s.linkLost.hostPortReset.f HST_LINK.WIDTH 0 = 0 := by
  refine ⟨?_, ?_, ?_⟩
  · unfold State.on
    rw [State.linkLost_f _ (by decide) (by decide) (by decide), State.linkFell_f _ _ rfl, State.f_bump_apart _ (by decide),
      State.f_setOn_apart _ (by decide), State.f_setF_apart _ (by decide), State.f_setF_apart _ (by decide),
      State.f_setOn_apart _ (by decide), ← State.on]
    exact State.on_setOn_self _ rfl 0 false
  · unfold State.on
    rw [State.linkLost_f _ (by decide) (by decide) (by decide), State.linkFell_f _ _ rfl, State.f_bump_apart _ (by decide),
      ← State.on]
    exact State.on_setOn_self _ rfl 0 true
  · rw [State.linkLost_f _ (by decide) (by decide) (by decide), State.linkFell_f _ _ rfl, State.f_bump_apart _ (by decide),
      State.f_setOn_apart _ (by decide), State.f_setF_apart _ (by decide), State.f_setF_self]
    rfl

theorem State.linkLost_detaches (h : s.released = true) : s.linkLost.hostPortReset.f HST_ATTACH.STATE 0 = 1 := by
  have hport := s.linkLost_port
  rw [State.port_eq, State.port_eq] at hport
  refine State.hostPortReset_state ?_ (by decide) rfl
  rw [State.released_iff, hport, State.linkLost_clk]
  exact h

/-! ### Completions and time-outs -/

variable (tag : Fin 1024)

theorem State.completion_fails (r : HostRead) : (((s.dropRead tag).setOn HST_EVENT.CPL_ERR 0 true).hostFails r).on
    HST_EVENT.CPL_ERR 0 = true := by
  unfold State.on
  rw [State.hostFails_ofLink (by decide), ← State.on]
  exact State.on_setOn_self _ rfl 0 true

theorem exec_completion_unexpected (h : find tag.val s.host.reads = none) (data : Option (List (BitVec 8))) (res : MemRes) :
    exec (.completion tag data res) s = .next { s.setOn HST_EVENT.UNEXP_CPL 0 true with res := .ok } := by
  refine (exec_completion ..).trans ?_
  unfold execCompletion
  refine congrArg (fun u : State => Host.Outcome.next { u with res := .ok })
    (a₂ := State.setOn { s with res := res } HST_EVENT.UNEXP_CPL 0 true) ?_
  dsimp only
  rw [h]

section
variable {r : HostRead} (h : find tag.val s.host.reads = some r)
include h

theorem exec_completion_data (b : List (BitVec 8)) (res : MemRes) : exec (.completion tag (some b) res) s =
    .next ((s.dropRead tag).withRes res fun u => u.hostData r (padTo r.len (b.take r.len))) := by
  refine (exec_completion ..).trans ?_
  unfold execCompletion
  refine congrArg (fun u : State => Host.Outcome.next { u with res := .ok }) ?_
  dsimp only
  rw [h]
  rfl

theorem exec_completion_error (res : MemRes) : exec (.completion tag none res) s =
    .next { ((State.dropRead { s with res := res } tag).setOn HST_EVENT.CPL_ERR 0 true).hostFails r with res := .ok } := by
  refine (exec_completion ..).trans ?_
  unfold execCompletion
  refine congrArg (fun u : State => Host.Outcome.next { u with res := .ok }) ?_
  dsimp only
  rw [h]

end

/-- A read that times out is shown and counted. -/
theorem State.readTimesOut_counts {r : HostRead} (h : find tag.val s.host.reads = some r) :
    (s.readTimesOut tag).on HST_EVENT.CPL_TMO 0 = true ∧ (s.readTimesOut tag).f HST_TMOCNT.COUNT 0 =
      (if s.f HST_TMOCNT.COUNT 0 + 1 < 2 ^ 32 then s.f HST_TMOCNT.COUNT 0 + 1 else s.f HST_TMOCNT.COUNT 0) := by
  have hs : s.readTimesOut tag =
      (((s.dropRead tag).setOn HST_EVENT.CPL_TMO 0 true).bump HST_TMOCNT.COUNT 0).hostFails r := by
    unfold State.readTimesOut
    rw [h]
  have hn : ((s.dropRead tag).setOn HST_EVENT.CPL_TMO 0 true).f HST_TMOCNT.COUNT 0 = s.f HST_TMOCNT.COUNT 0 :=
    State.f_setOn_apart _ (by decide) ..
  rw [hs]
  refine ⟨?_, ?_⟩
  · unfold State.on
    rw [State.hostFails_ofLink (by decide), State.f_bump_apart _ (by decide), ← State.on]
    exact State.on_setOn_self _ rfl 0 true
  · rw [State.hostFails_ofLink (by decide), State.f_bump_self (w := 32) _ rfl, hn]
    split <;> omega

end

/-! ### Functions -/

section
variable (s : State) (p : Plot)

theorem State.configReaches_iff : s.configReaches p = true ↔ s.on HST_LINK.DL_UP 0 = true ∧
    ((s.released = true ∧ s.fnThere p = true) ∨ (s.recovering = true ∧ p.val = 0)) := by
  simp only [State.configReaches, Bool.and_eq_true, Bool.or_eq_true, decide_eq_true_eq]

theorem pageReach_iff (agent : Agent) (q : Nat) : pageReach agent q = true ↔ match agent with
    | .plot a => a.val = 0 ∨ a.val = q
    | _ => True := by
  cases agent with
  | plot a => simp only [pageReach, Bool.or_eq_true, decide_eq_true_eq]
  | _ => exact iff_of_true rfl trivial

/-- A function's record changes but for its rebase, and it is detached where it carries a plot. -/
theorem State.fnDetached (r : FnRec) (hr : r.rebasing = (s.fn p).rebasing) (cause : Nat) (hc : cause ≠ 1) (hlt : cause < 16) :
    (((s.setFn p r).detachFn p cause).fn p).master = r.master ∧ (((s.setFn p r).detachFn p cause).fn p).d3hot = r.d3hot ∧
    (s.released = true → s.Gone p cause ((s.setFn p r).detachFn p cause)) := by
  have hfn : (s.setFn p r).fn p = r := findD_put_self ..
  have hrel : (s.setFn p r).released = s.released := rfl
  unfold State.detachFn
  rw [hrel]
  cases h : s.released with
  | false => exact ⟨congrArg FnRec.master hfn, congrArg FnRec.d3hot hfn, nofun⟩
  | true =>
    obtain ⟨⟨h1, h2, h3, h4, h5⟩, hm, hd⟩ := (s.setFn p r).detach_gone p false hc hlt
    refine ⟨hm.trans (congrArg FnRec.master hfn), hd.trans (congrArg FnRec.d3hot hfn), fun _ => ⟨h1, h2, h3, fun hdet => ?_, h5⟩⟩
    obtain ⟨h6, h7⟩ := h4 hdet
    exact ⟨h6, h7.trans ((congrArg FnRec.rebasing hfn).trans hr)⟩

section
variable (h : ¬s.configReaches p = true)
include h

theorem exec_config_unreached :
    exec (.busMasterDisable p) s = .next s ∧ exec (.d3hot p) s = .next s ∧ exec (.d0Return p) s = .next s := by
  have h' : s.configReaches p = false := Bool.eq_false_iff.mpr h
  refine ⟨(exec_busMasterDisable ..).trans (congrArg Host.Outcome.next (if_neg ?_)),
    (exec_d3hot ..).trans (congrArg Host.Outcome.next (if_neg ?_)),
    (exec_d0Return ..).trans (congrArg Host.Outcome.next (if_neg h))⟩ <;>
  · rw [h']
    exact Bool.false_ne_true

end

section
variable (h : s.configReaches p = true)
include h

omit h in
theorem exec_busMasterDisable_off (hm : (s.fn p).master = false) : exec (.busMasterDisable p) s = .next s :=
  (exec_busMasterDisable ..).trans (congrArg Host.Outcome.next (if_neg (by rw [hm, Bool.and_false]; exact Bool.false_ne_true)))

theorem exec_busMasterDisable_on (hm : (s.fn p).master = true) :
    exec (.busMasterDisable p) s = .next ((s.setFn p { s.fn p with master := false }).detachFn p 3) :=
  (exec_busMasterDisable ..).trans (congrArg Host.Outcome.next (if_pos (by rw [h, hm]; rfl)))

omit h in
theorem exec_d3hot_already (hm : (s.fn p).d3hot = true) : exec (.d3hot p) s = .next s :=
  (exec_d3hot ..).trans (congrArg Host.Outcome.next (if_neg (by rw [hm, Bool.not_true, Bool.and_false]; exact Bool.false_ne_true)))

theorem exec_d3hot_enters (hm : (s.fn p).d3hot = false) :
    exec (.d3hot p) s = .next ((s.setFn p { s.fn p with d3hot := true }).detachFn p 4) :=
  (exec_d3hot ..).trans (congrArg Host.Outcome.next (if_pos (by rw [h, hm]; rfl)))

theorem exec_d0Return_returns : exec (.d0Return p) s = .next (s.setFn p { s.fn p with d3hot := false }) :=
  (exec_d0Return ..).trans (congrArg Host.Outcome.next (if_pos h))

end

theorem exec_barAccessError_fits {off : BitVec 30} {size : Nat} (h : s.barReaches p = false ∨
    ((size = 4 ∨ size = 8) ∧ off.toNat % size = 0)) : exec (.barAccessError p off size) s = .next s := by
  refine (exec_barAccessError ..).trans (congrArg Host.Outcome.next (if_pos ?_))
  simpa using h

theorem exec_barAccessError_drops {off : BitVec 30} {size : Nat} (hr : s.barReaches p = true)
    (h : ¬((size = 4 ∨ size = 8) ∧ off.toNat % size = 0)) :
    exec (.barAccessError p off size) s = .next (s.writeDropped (.plot p) off.toNat) := by
  refine (exec_barAccessError ..).trans (congrArg Host.Outcome.next (if_neg ?_))
  rw [hr]
  simpa using h

end

/-- Settles O41: a detachment shows its cause, pauses each stream of the plot and leaves the rebases of a function that was
DETACHED; the ends of reads leave the link's registers. -/
theorem hostPortResults : Obligations.HostPortResults := by
  unfold Obligations.HostPortResults
  refine ⟨?_, ?_, ?_, ?_, ?_⟩
  · intro s width rate up
    refine ⟨exec_dlUp_off s width rate, fun h => ⟨_, exec_dlUp_trained s width rate h, s.linkShown_shows width rate⟩,
      exec_dlDown_down s, fun h => ?_⟩
    obtain ⟨h1, h2, h3⟩ := s.linkLost_leaves
    exact ⟨_, (exec_dlDown ..).trans (congrArg Host.Outcome.next (State.dlDown_eq h)), h1, h2, h3, rfl, rfl,
      State.hostPortReset_on _, s.linkLost_detaches⟩
  · intro s tag data res
    cases h : find tag.val s.host.reads with
    | none =>
      refine ⟨?_, ?_⟩
      · exact exec_completion_unexpected s tag h data res
      · refine (exec_completionTimeout ..).trans (congrArg Host.Outcome.next ?_)
        unfold State.readTimesOut
        rw [h]
    | some r =>
      obtain ⟨htmo, hcount⟩ := s.readTimesOut_counts tag h
      refine ⟨?_, _, exec_completionTimeout .., htmo, hcount⟩
      cases data with
      | some b => exact exec_completion_data s tag h b res
      | none => exact ⟨_, exec_completion_error s tag h res, State.completion_fails { s with res := res } tag r⟩
  · intro s p agent there reach gone
    have hreaches : s.configReaches p = true ↔ there := s.configReaches_iff p
    refine ⟨fun h => exec_config_unreached s p fun e => h (hreaches.mp e), fun h => ?_, fun h => ?_, fun h => ?_⟩
    · have h' := hreaches.mpr h
      obtain ⟨hm, -, hg⟩ := s.fnDetached p { s.fn p with master := false } rfl 3 (by decide) (by decide)
      obtain ⟨-, hd, hg'⟩ := s.fnDetached p { s.fn p with d3hot := true } rfl 4 (by decide) (by decide)
      exact ⟨exec_busMasterDisable_off s p, fun ho => ⟨_, exec_busMasterDisable_on s p h' ho, hm, hg⟩,
        exec_d3hot_already s p, fun ho => ⟨_, exec_d3hot_enters s p h' ho, hd, hg'⟩, exec_d0Return_returns s p h'⟩
    · have hc : (s.acts agent && pageReach agent p) = true := Bool.and_eq_true_iff.mpr ⟨h.1, (pageReach_iff agent p).mpr h.2⟩
      exact ⟨_, (exec_detach ..).trans (congrArg Host.Outcome.next (if_pos hc)),
        (s.detach_gone p false (by decide) (by decide)).1⟩
    · have hc : ¬(s.acts agent && pageReach agent p) = true := fun hc =>
        have ⟨ha, hb⟩ := Bool.and_eq_true_iff.mp hc
        h ⟨ha, (pageReach_iff agent p).mp hb⟩
      exact (exec_detach ..).trans (congrArg Host.Outcome.next (if_neg hc))
  · intro s p vec v ended
    refine ⟨fun h => ?_, fun h hw => ?_, fun h hw => ?_⟩
    · exact (exec_msiX ..).trans (congrArg Host.Outcome.next (if_pos (by rw [h]; rfl)))
    · exact (exec_msiX ..).trans (congrArg Host.Outcome.next ((if_neg (by rw [h]; decide)).trans
        (if_neg (by rw [hw]; decide))))
    · exact (exec_msiX ..).trans (congrArg Host.Outcome.next ((if_neg (by rw [h]; decide)).trans (if_pos hw)))
  · intro s p off size fits
    exact ⟨exec_barAccessError_fits s p, exec_barAccessError_drops s p⟩

end Sys2Proof.Machine
end
section
/-! PROOF. The life of a frame: its start, its release or drop, its warning and deadline, and its digest (R344 to R357). -/

namespace Sys2Proof.Machine

/-! ### A loop, replaced -/

section
variable (s : State) (l : Nat) (x : FrameLoop)

theorem State.loop_setLoop_self : (s.setLoop l x).loop l = some x := find_put_self ..

theorem State.setLoop_f {F : Fld} (h1 : F.apart SOW_LOOP_NEXTK.K = true) (h2 : F.apart SOW_LOOP_NEXTTS.TS = true) (i : Nat) :
    (s.setLoop l x).f F i = s.f F i := by
  unfold State.setLoop
  dsimp only
  rw [State.f_setF_apart _ h2, State.f_setF_apart _ h1]
  rfl

theorem State.setLoop_nextK : (s.setLoop l x).f SOW_LOOP_NEXTK.K l = x.k % 2 ^ 32 := by
  unfold State.setLoop
  dsimp only
  rw [State.f_setF_apart _ (by decide), State.f_setF_self]
  rfl

end

/-- A loop's record follows from the loops. -/
theorem State.loop_of_loops {s u : State} (h : u.loops = s.loops) (l : Nat) : u.loop l = s.loop l := congrArg (find l) h

/-- What Drill, the loops and their registers are. -/
def frameSide : Facet → Bool := among [.drill, .loops, .blk .DRL, .blk .SOW]

/-! ### A frame starts (R348) -/

section
variable {s : State} {l : Fin 16} {x : FrameLoop} (h : s.loop l = some x)
include h

theorem exec_frameStart_waits
    (hw : x.cause ≠ none ∨ x.waiting ≠ none ∨ ¬s.loopDue l (s.frameStart l x x.k) = true) : exec (.frameStart l) s = .next s := by
  have hc : (x.cause.isSome || x.waiting.isSome || !s.loopDue l (s.frameStart l x x.k)) = true := by
    rcases hw with hw | hw | hw <;> simp [Option.isSome_iff_ne_none, hw]
  refine (exec_frameStart ..).trans ?_
  unfold execFrameStart
  rw [h]
  exact congrArg Host.Outcome.next (if_pos hc)

theorem exec_frameStart_starts (hc : x.cause = none) (hw : x.waiting = none)
    (hd : s.loopDue l (s.frameStart l x x.k) = true) : ∃ u, exec (.frameStart l) s = .next u ∧
      u.loop l = some { x with waiting := some x.k, k := x.k + 1 } ∧ u.f SOW_LOOP_NEXTK.K l = (x.k + 1) % 2 ^ 32 := by
  have hn : ¬(x.cause.isSome || x.waiting.isSome || !s.loopDue l (s.frameStart l x x.k)) = true := by
    rw [hc, hw, hd]
    decide
  let y : FrameLoop := { x with waiting := some x.k, k := x.k + 1 }
  let v := s.setLoop l y
  have hk : (if v.yoked l then v.ykStarts l x.k (s.frameStart l x x.k) else v).keep frameSide = v.keep frameSide := by
    split
    · exact State.ykStarts_keep rfl ..
    · rfl
  refine ⟨if v.yoked l then v.ykStarts l x.k (s.frameStart l x x.k) else v, ?_, ?_, ?_⟩
  · refine (exec_frameStart ..).trans ?_
    unfold execFrameStart
    rw [h]
    exact congrArg Host.Outcome.next (if_neg hn)
  · exact (State.loop_of_loops (loops_of_keep hk rfl) l).trans (s.loop_setLoop_self l y)
  · exact (f_of_keep hk (F := SOW_LOOP_NEXTK.K) rfl l).trans (s.setLoop_nextK l y)

end

/-! ### A frame is released (R349) -/

/-- What an operation leaves of entry e: its queue, its packet and its frame; and the order. -/
def State.EntryStays (s u : State) (e : Nat) : Prop :=
  u.drill.order = s.drill.order ∧ ∀ y, s.entry e = some y → ∃ z, u.entry e = some z ∧ z.plot = y.plot ∧ z.queue = y.queue ∧
    z.opcode = y.opcode ∧ z.frame = y.frame ∧ z.packet = y.packet

theorem State.EntryStays.of_drill {s u : State} (h : u.drill = s.drill) (e : Nat) : s.EntryStays u e :=
  ⟨congrArg Drill.order h, fun y hy => ⟨y, (State.entry_of_drill h e).trans hy, rfl, rfl, rfl, rfl, rfl⟩⟩

theorem State.EntryStays.of_modEntry {s u : State} {e : Nat} {f : Entry → Entry} (ho : u.drill.order = s.drill.order)
    (hl : u.drill.ledger = s.drill.ledger) (hf : ∀ y, (f y).plot = y.plot ∧ (f y).queue = y.queue ∧
      (f y).opcode = y.opcode ∧ (f y).frame = y.frame ∧ (f y).packet = y.packet) : s.EntryStays (u.modEntry e f) e := by
  refine ⟨?_, fun y hy => ⟨f y, State.entry_modEntry_self ((congrArg (find e) hl).trans hy) f, hf y⟩⟩
  unfold State.modEntry
  split
  · exact ho
  · exact ho

/-- A release changes the entry's record of its sowing alone. -/
theorem State.release_stays (s : State) (e : Nat) (x : Entry) (pkt d : List Byte) (extra : List (Nat × Word)) :
    s.EntryStays (s.release e x pkt d extra) e := by
  let root := plotRoot d x.plot
  let hs := sowThreads pkt
  let v := (hs.zip (List.range hs.length)).foldl (fun s hi => (s.setThread hi.1 (sownThread (s.thread hi.1) d pkt root hi.2
    hs.length e extra)).trRescan hi.1) (s.rootsSet x.plot pkt root)
  have hr : s.release e x pkt d extra = (if hs.isEmpty then v.draw else (v.now, v)).2.modEntry e fun y => { y with
      begun := true, sow := some { threads := hs, first := (if hs.isEmpty then v.draw else (v.now, v)).1 } } := rfl
  have hv : v.drill = (s.rootsSet x.plot pkt root).drill := drill_of_keep (m := Facet.only .drill)
    (foldl_keep (fun _ _ => (State.trRescan_keep rfl rfl ..).trans (State.setThread_keep rfl ..)) _ _) rfl
  have hd : (if hs.isEmpty then v.draw else (v.now, v)).2.drill = v.drill := by split <;> rfl
  have horder : (s.rootsSet x.plot pkt root).drill.order = s.drill.order := by
    have hset : (s.rootsSet x.plot pkt root).drill = (s.setPlot x.plot { s.plot x.plot with ptroot := root }).drill := by
      refine drill_of_keep (m := Facet.only .drill) (foldl_keep (fun v n => foldl_keep (fun v h => ?_) _ v) _ _) rfl
      split
      · exact State.modThread_keep rfl ..
      · rfl
    rw [hset]
    rfl
  rw [hr]
  refine .of_modEntry ?_ ?_ fun y => ⟨rfl, rfl, rfl, rfl, rfl⟩
  · rw [hd, hv]
    exact horder
  · rw [hd, hv]
    exact s.rootsSet_ledger ..

theorem State.endWork_stays {s u : State} (h : u.drill = s.drill) (e : Nat) (r : Reply) : s.EntryStays (u.endWork e r) e :=
  .of_modEntry (congrArg Drill.order h) (congrArg Drill.ledger h) fun _ => ⟨rfl, rfl, rfl, rfl, rfl⟩

theorem State.EntryStays.trans_drill {s t u : State} {e : Nat} (h : t.drill = s.drill) (g : t.EntryStays u e) :
    s.EntryStays u e :=
  ⟨g.1.trans (congrArg Drill.order h), fun y hy => g.2 y ((State.entry_of_drill h e).trans hy)⟩

theorem State.startSow_stays (s : State) (e : Nat) (x : Entry) (pkt : List Byte) (extra : List (Nat × Word)) :
    s.EntryStays (s.startSow e x pkt extra) e := by
  unfold State.startSow
  dsimp only
  split
  · exact State.endWork_stays rfl e _
  · have hd : (if opSpace (s.plot x.plot).rtdesc = 0 then s.dmaReadAll x.plot (opAddr (s.plot x.plot).rtdesc) 4 128
        else (.fail, s)).2.drill = s.drill := by
      split
      · exact s.dmaReadAll_drill ..
      · rfl
    generalize (if opSpace (s.plot x.plot).rtdesc = 0 then s.dmaReadAll x.plot (opAddr (s.plot x.plot).rtdesc) 4 128
      else (.fail, s)) = r at hd ⊢
    obtain ⟨d, u⟩ := r
    cases d with
    | fail => exact State.endWork_stays hd e _
    | held => exact .of_modEntry (congrArg Drill.order hd) (congrArg Drill.ledger hd) fun _ => ⟨rfl, rfl, rfl, rfl, rfl⟩
    | data d => exact .trans_drill hd (u.release_stays ..)

/-- What a released frame leaves: its entry, the order, and its loop's record. -/
theorem State.frameSown_leaves (s : State) (l : Fin 16) (e : Nat) (x : FrameLoop) (k : Nat) (a : Entry) :
    (∃ y, (s.frameSown l e x k a).entry e = some y ∧ y.plot = a.plot ∧ y.queue = a.queue ∧ y.opcode = 1 ∧
      y.frame = some l.val ∧ y.packet = (s.template x).take 64) ∧
    (s.frameSown l e x k a).drill.order = s.drill.order + 1 ∧ (s.frameSown l e x k a).loop l =
      some { x with waiting := none, run := some { entry := e, k := k, sheaf := x.sheaf }, last := some k } := by
  let t := s.template x
  let y : Entry := { plot := a.plot, queue := a.queue, seq := a.seq, tag := numAt t 2 2, opcode := 0x01,
                     packet := t.take 64, order := s.drill.order, state := .running, since := some s.now, frame := some l }
  let v : State := { s with drill := { s.drill with order := s.drill.order + 1 } }
  let w := ((v.setEntry e y).cmdTrace e y 0 0).cmdTrace e y 1 0
  let z := { x with waiting := none, run := some { entry := e, k := k, sheaf := x.sheaf }, last := some k }
  have hw : w.drill = (v.setEntry e y).drill := drill_of_keep (m := Facet.only .drill)
    ((State.cmdTrace_keep rfl rfl ..).trans (State.cmdTrace_keep rfl rfl ..)) rfl
  have hs : ∃ extra, s.frameSown l e x k a = ((w.startSow e y (t.take 64) extra).frameTrace l k 0).setLoop l z := ⟨_, rfl⟩
  obtain ⟨extra, hs⟩ := hs
  have hd : (s.frameSown l e x k a).drill = (w.startSow e y (t.take 64) extra).drill := by
    rw [hs]
    exact drill_of_keep (m := Facet.only .drill) ((State.setLoop_keep rfl rfl ..).trans (State.frameTrace_keep rfl rfl ..)) rfl
  obtain ⟨ho, he⟩ := w.startSow_stays e y (t.take 64) extra
  obtain ⟨y', hy', h1, h2, h3, h4, h5⟩ := he y ((State.entry_of_drill hw e).trans (v.entry_setEntry_self e y))
  refine ⟨⟨y', (State.entry_of_drill hd e).trans hy', h1, h2, h3, h4, h5⟩, ?_, ?_⟩
  · rw [hd, ho, hw]
    rfl
  · rw [hs]
    exact State.loop_setLoop_self ..

section
variable {s : State} {l : Fin 16} {e : Fin 4096} {x : FrameLoop} {k : Nat} {a : Entry} (h : s.loop l = some x)
include h

theorem exec_frameRelease_none (hw : x.waiting = none) (res : MemRes) :
    exec (.frameRelease l e res) s = .next (s.withRes res id) := by
  refine (exec_frameRelease ..).trans (congrArg Host.Outcome.next (State.withRes_congr ?_))
  have h' : State.loop { s with res := res } l = some x := h
  rw [h']
  dsimp only
  rw [hw]
  rfl

theorem exec_frameDrop_none (hw : x.waiting = none) : exec (.frameDrop l) s = .next s := by
  refine (exec_frameDrop ..).trans ?_
  unfold execFrameDrop
  rw [h]
  dsimp only
  rw [hw]

/-- What keeps a waiting frame from its release. -/
def State.frameStays (s : State) (l : Nat) (e : Nat) (x : FrameLoop) (k : Nat) : Bool :=
  x.cause.isSome || (s.entry e).isSome || !s.mayRelease l (s.template x) x k ||
    before (s.frameLatest l (s.template x) x k) (s.loopNow l)

variable (hw : x.waiting = some k) (ha : s.entry x.entry = some a)
include hw ha

theorem exec_frameRelease_eq (res : MemRes) : exec (.frameRelease l e res) s = .next
    { (if s.frameStays l e x k then { s with res := res }
      else if (State.sowWaits { s with res := res } a.plot).isSome then
        (State.sowWaits { s with res := res } a.plot).getD { s with res := res }
      else State.frameSown { s with res := res } l e x k a) with res := .ok } := by
  refine (exec_frameRelease ..).trans ?_
  unfold execFrameRelease
  refine congrArg (fun u : State => Host.Outcome.next { u with res := .ok }) ?_
  have h' : State.loop { s with res := res } l = some x := h
  have ha' : State.entry { s with res := res } x.entry = some a := ha
  dsimp only
  rw [h']
  dsimp only
  rw [hw, ha']
  rfl

theorem exec_frameRelease_stays (hs : s.frameStays l e x k = true) (res : MemRes) :
    exec (.frameRelease l e res) s = .next (s.withRes res id) := by
  rw [exec_frameRelease_eq h hw ha, hs]
  rfl

theorem exec_frameRelease_waits (hs : s.frameStays l e x k = false) (res : MemRes) {u : State}
    (hu : State.sowWaits { s with res := res } a.plot = some u) :
    exec (.frameRelease l e res) s = .next { u with res := .ok } := by
  rw [exec_frameRelease_eq h hw ha, hs, hu]
  rfl

theorem exec_frameRelease_sows (hs : s.frameStays l e x k = false) (res : MemRes)
    (hu : State.sowWaits { s with res := res } a.plot = none) :
    exec (.frameRelease l e res) s = .next { State.frameSown { s with res := res } l e x k a with res := .ok } := by
  rw [exec_frameRelease_eq h hw ha, hs, hu]
  rfl

end

theorem State.frameStays_iff (s : State) (l e : Nat) (x : FrameLoop) (k : Nat) : s.frameStays l e x k = true ↔
    x.cause ≠ none ∨ s.entry e ≠ none ∨ s.mayRelease l (s.template x) x k = false ∨
      before (s.frameLatest l (s.template x) x k) (s.loopNow l) = true := by
  simp only [State.frameStays, Bool.or_eq_true, Option.isSome_iff_ne_none, Bool.not_eq_true', or_assoc]

/-! ### Outcomes (R357) -/

section
variable (s : State) (l : Nat)

theorem State.disarm_loop {x : FrameLoop} (h : s.loop l = some x) (c : Nat) :
    (s.disarm l c).loop l = some { x with cause := some (x.cause.getD c), waiting := none } := by
  unfold State.disarm
  rw [h]
  exact State.loop_setLoop_self ..

theorem State.disarm_f (c : Nat) {F : Fld} (h1 : F.apart SOW_LOOP_NEXTK.K = true) (h2 : F.apart SOW_LOOP_NEXTTS.TS = true)
    (i : Nat) : (s.disarm l c).f F i = s.f F i := by
  unfold State.disarm
  split
  · rfl
  · exact State.setLoop_f _ _ _ h1 h2 i

variable (t : List Byte)

theorem State.countOutcome_ok : (s.countOutcome l t stOk).loops = s.loops ∧
    (s.countOutcome l t stOk).f SOW_LOOP_CTL.MISSRUN l = 0 := by
  have hs : s.countOutcome l t stOk = (s.bump SOW_LOOP_OK.COUNT l).setF SOW_LOOP_CTL.MISSRUN l 0 := rfl
  rw [hs]
  refine ⟨loops_of_keep (m := Facet.only .loops) ((State.setF_keep _ _ rfl l 0).trans (State.bump_keep _ _ rfl l)) rfl, ?_⟩
  rw [State.f_setF_self]
  rfl

/-- A frame that is not OK counts towards MAXMISS. -/
def State.missCounted (v : State) (l : Nat) (t : List Byte) : State :=
  let v := v.bump SOW_LOOP_CTL.MISSRUN l
  if numAt t 85 1 ≠ 0 && numAt t 85 1 ≤ v.f SOW_LOOP_CTL.MISSRUN l then v.disarm l 3 else v

theorem State.missCounted_loop {x : FrameLoop} (h : s.loop l = some x) :
    ∃ z, (s.missCounted l t).loop l = some z ∧ z.run = x.run ∧ (x.waiting = none → z.waiting = none) := by
  have hb : (s.bump SOW_LOOP_CTL.MISSRUN l).loop l = some x :=
    (State.loop_of_loops (loops_of_keep (m := Facet.only .loops) (State.bump_keep _ _ rfl l) rfl) l).trans h
  unfold State.missCounted
  dsimp only
  split
  · exact ⟨_, State.disarm_loop _ _ hb 3, rfl, fun _ => rfl⟩
  · exact ⟨x, hb, rfl, id⟩

theorem State.missCounted_f {F : Fld} (h0 : F.apart SOW_LOOP_CTL.MISSRUN = true) (h1 : F.apart SOW_LOOP_NEXTK.K = true)
    (h2 : F.apart SOW_LOOP_NEXTTS.TS = true) (i : Nat) : (s.missCounted l t).f F i = s.f F i := by
  unfold State.missCounted
  dsimp only
  split
  · rw [State.disarm_f _ _ _ h1 h2, State.f_bump_apart _ h0]
  · exact State.f_bump_apart _ h0 ..

/-- Every outcome but OK is counted under its own register. -/
theorem State.countOutcome_miss {st : Nat} (h : st ≠ stOk) : ∃ F ∈ [SOW_LOOP_MISSED.COUNT, SOW_LOOP_DROPPED.COUNT,
    SOW_LOOP_FAULTED.COUNT], s.countOutcome l t st = (s.bump F l).missCounted l t := by
  unfold State.countOutcome
  rw [if_neg h]
  split
  · exact ⟨_, by simp, rfl⟩
  · split
    · exact ⟨_, by simp, rfl⟩
    · exact ⟨_, by simp, rfl⟩

/-- An outcome leaves the loop's running frame, and does not make a frame wait. -/
theorem State.countOutcome_loop {x : FrameLoop} (h : s.loop l = some x) (st : Nat) :
    ∃ z, (s.countOutcome l t st).loop l = some z ∧ z.run = x.run ∧ (x.waiting = none → z.waiting = none) := by
  by_cases hst : st = stOk
  · rw [hst]
    exact ⟨x, (State.loop_of_loops (s.countOutcome_ok l t).1 l).trans h, rfl, id⟩
  · obtain ⟨F, hF, hs⟩ := s.countOutcome_miss l t hst
    have hblk : F.blk = .SOW := by
      simp only [List.mem_cons, List.not_mem_nil, or_false] at hF
      rcases hF with rfl | rfl | rfl <;> rfl
    rw [hs]
    refine State.missCounted_loop _ l t ((State.loop_of_loops ?_ l).trans h)
    exact loops_of_keep (m := Facet.only .loops) (State.bump_keep _ _ (by rw [hblk]; rfl) l) rfl

theorem State.countOutcome_dropped : s.countOutcome l t stDropped = (s.bump SOW_LOOP_DROPPED.COUNT l).missCounted l t := rfl

end

end Sys2Proof.Machine
end
section
/-! PROOF. A frame that is dropped, warned, stopped at its deadline, or done with its digest (R350 to R357). -/

namespace Sys2Proof.Machine

/-! ### A frame is dropped (R350) -/

theorem State.ringFree_of_keep {s u : State} {m : Facet → Bool} (e : u.keep m = s.keep m) (hd : m .drill = true)
    (hb : m (.blk .DRL) = true) (q : Nat) : u.ringFree q = s.ringFree q := by
  have hf : ∀ F : Fld, F.blk = .DRL → ∀ i, u.f F i = s.f F i := fun F hF i => f_of_keep e (by rw [hF]; exact hb) i
  have hq : u.qEntries q = s.qEntries q := by
    unfold State.qEntries
    rw [drill_of_keep e hd]
  unfold State.ringFree State.qSize State.unconsumed
  rw [hq, hf _ rfl, hf _ rfl, hf _ rfl]

section
variable (s : State) (l : Nat) (x : FrameLoop) (k : Nat)

/-- The reply of a dropped frame. -/
def State.dropReply : Reply :=
  { status := stDropped
    result := s.dropCause l (s.template x) x k + s.loopCommitted (s.template x) x * 2 ^ 32 }

/-- A dropped frame is told where its ring has room. -/
def State.dropTold (r : Reply) : State :=
  if s.ringFree (s.loopQueue l) = 0 then s.setOn SOW_LOOP_EVT.RINGFULL l true else s.frameReply l x k r

/-- A dropped frame's reply, trace and report, before it is counted. -/
def State.dropShown : State :=
  ((((s.setLoop l { x with waiting := none }).dropTold l x k (s.dropReply l x k)).frameTrace l k 2).tally 0x052 l
    1).reportMissing l k 1

theorem State.dropTold_leaves (r : Reply) : (s.dropTold l x k r).loops = s.loops ∧
    (s.dropTold l x k r).f SOW_LOOP_DROPPED.COUNT l = s.f SOW_LOOP_DROPPED.COUNT l ∧
    (s.ringFree (s.loopQueue l) = 0 → (s.dropTold l x k r).on SOW_LOOP_EVT.RINGFULL l = true) := by
  unfold State.dropTold
  by_cases h : s.ringFree (s.loopQueue l) = 0
  · rw [if_pos h]
    exact ⟨loops_of_keep (m := Facet.only .loops) (State.setOn_keep _ _ rfl ..) rfl, State.f_setOn_apart _ (by decide) ..,
      fun _ => State.on_setOn_self _ rfl l true⟩
  · rw [if_neg h]
    have hk := State.frameReply_keep (m := among [.loops, .blk .SOW]) rfl rfl rfl rfl rfl rfl rfl rfl rfl rfl rfl rfl s l x k r
    exact ⟨loops_of_keep hk rfl, f_of_keep hk rfl l, fun h' => absurd h' h⟩

theorem State.dropShown_leaves : (s.dropShown l x k).loop l = some { x with waiting := none } ∧
    (s.dropShown l x k).f SOW_LOOP_DROPPED.COUNT l = s.f SOW_LOOP_DROPPED.COUNT l ∧
    (s.ringFree (s.loopQueue l) = 0 → (s.dropShown l x k).on SOW_LOOP_EVT.RINGFULL l = true) := by
  let y : FrameLoop := { x with waiting := none }
  let v := s.setLoop l y
  let w := v.dropTold l x k (s.dropReply l x k)
  have hk : (s.dropShown l x k).keep (among [.loops, .blk .SOW]) = w.keep (among [.loops, .blk .SOW]) :=
    (State.reportMissing_keep rfl rfl rfl rfl rfl rfl rfl rfl ..).trans ((State.tally_keep rfl rfl rfl ..).trans
      (State.frameTrace_keep rfl rfl ..))
  obtain ⟨h1, h2, h3⟩ := v.dropTold_leaves l x k (s.dropReply l x k)
  have hloop : w.loop l = some y := (State.loop_of_loops h1 l).trans (s.loop_setLoop_self l y)
  have hq : v.loopQueue l = s.loopQueue l := by
    unfold State.loopQueue
    rw [State.setLoop_f _ _ _ (by decide) (by decide), State.setLoop_f _ _ _ (by decide) (by decide)]
  have hfree : v.ringFree (v.loopQueue l) = s.ringFree (s.loopQueue l) := by
    rw [hq]
    exact State.ringFree_of_keep (m := among [.drill, .blk .DRL]) (State.setLoop_keep rfl rfl s l y) rfl rfl _
  refine ⟨(State.loop_of_loops (loops_of_keep hk rfl) l).trans hloop, ?_, fun hr => ?_⟩
  · exact (f_of_keep hk rfl l).trans (h2.trans (State.setLoop_f _ _ _ (by decide) (by decide) l))
  · exact (on_of_keep hk (F := SOW_LOOP_EVT.RINGFULL) rfl l).trans (h3 (hfree.trans hr))

/-- What a dropped frame leaves. -/
theorem State.dropped_leaves :
    (∃ z, ((s.dropShown l x k).countOutcome l (s.template x) stDropped).loop l = some z ∧ z.waiting = none ∧ z.run = x.run) ∧
    (s.ringFree (s.loopQueue l) = 0 →
      ((s.dropShown l x k).countOutcome l (s.template x) stDropped).on SOW_LOOP_EVT.RINGFULL l = true) ∧
    ((s.dropShown l x k).countOutcome l (s.template x) stDropped).f SOW_LOOP_DROPPED.COUNT l =
      if s.f SOW_LOOP_DROPPED.COUNT l + 1 < 2 ^ 32 then s.f SOW_LOOP_DROPPED.COUNT l + 1 else s.f SOW_LOOP_DROPPED.COUNT l := by
  obtain ⟨h1, h2, h3⟩ := s.dropShown_leaves l x k
  obtain ⟨z, hz, hrun, hwait⟩ := (s.dropShown l x k).countOutcome_loop l (s.template x) h1 stDropped
  refine ⟨⟨z, hz, hwait rfl, hrun⟩, fun hr => ?_, ?_⟩
  · have hr' := h3 hr
    unfold State.on at hr' ⊢
    rw [State.countOutcome_dropped, State.missCounted_f _ _ _ (by decide) (by decide) (by decide),
      State.f_bump_apart _ (by decide)]
    exact hr'
  · rw [State.countOutcome_dropped, State.missCounted_f _ _ _ (by decide) (by decide) (by decide),
      State.f_bump_self (w := 32) _ rfl, h2]
    split <;> omega

end

theorem exec_frameDrop_drops {s : State} {l : Fin 16} {x : FrameLoop} {k : Nat} (h : s.loop l = some x)
    (hw : x.waiting = some k) (hc : x.cause = none) (hp : before (s.frameLatest l (s.template x) x k) (s.loopNow l) = true ∨
      (s.inputReady (s.template x) x k = true ∧ s.budgetOk l (s.template x) x k = false)) :
    exec (.frameDrop l) s = .next ((s.dropShown l x k).countOutcome l (s.template x) stDropped) := by
  have hn : ¬(x.cause.isSome || !((before (s.frameLatest l (s.template x) x k) (s.loopNow l) ||
      (s.loopDue l (s.frameLatest l (s.template x) x k) && !s.mayRelease l (s.template x) x k)) ||
      (s.inputReady (s.template x) x k && !s.budgetOk l (s.template x) x k))) = true := by
    rw [hc]
    rcases hp with hp | ⟨h1, h2⟩
    · rw [hp]
      simp
    · rw [h1, h2]
      simp
  refine (exec_frameDrop ..).trans ?_
  unfold execFrameDrop
  rw [h]
  dsimp only
  rw [hw]
  exact congrArg Host.Outcome.next (if_neg hn)

/-! ### WARN (R351) -/

/-- FRAME_TICK is raised in each thread of a list. -/
def State.ticked (s : State) (hs : List Nat) : State := hs.foldl (fun s h => s.raiseAsync h cFrameTick) s

theorem State.bitF_raiseAsync_stays (s : State) (h i : Nat) (hs : s.bitF FUR_XPEND.SRC i (cFrameTick - 0x40) = true) :
    (s.raiseAsync h cFrameTick).bitF FUR_XPEND.SRC i (cFrameTick - 0x40) = true := by
  by_cases e : i = h
  · rw [e]
    exact State.bitF_setBitF_self s (by decide) true
  · unfold State.raiseAsync State.bitF State.setBitF
    rw [State.f_setF_ne _ (fun hk => e (Fld.key_inj hk))]
    exact hs

theorem State.ticked_ticks (hs : List Nat) (s : State) (i : Nat)
    (h : i ∈ hs ∨ s.bitF FUR_XPEND.SRC i (cFrameTick - 0x40) = true) :
    (s.ticked hs).bitF FUR_XPEND.SRC i (cFrameTick - 0x40) = true := by
  induction hs generalizing s with
  | nil => exact h.resolve_left List.not_mem_nil
  | cons a hs ih =>
    refine ih (s.raiseAsync a cFrameTick) ?_
    rcases h with h | h
    · rcases List.mem_cons.mp h with h | h
      · rw [h]
        exact .inr (State.bitF_setBitF_self s (by decide) true)
      · exact .inl h
    · exact .inr (s.bitF_raiseAsync_stays a i h)

section
variable {s : State} {l : Fin 16} {x : FrameLoop} {r : RunFrame} (h : s.loop l = some x)
include h

theorem exec_idle (hr : x.run = none) (res : MemRes) : exec (.warn l) s = .next s ∧
    exec (.digestComplete l res) s = .next (s.withRes res id) := by
  refine ⟨?_, ?_⟩
  · refine (exec_warn ..).trans ?_
    unfold execWarn
    rw [h]
    dsimp only
    rw [hr]
  · refine (exec_digestComplete ..).trans (congrArg Host.Outcome.next (State.withRes_congr ?_))
    have h' : State.loop { s with res := res } l = some x := h
    rw [h']
    dsimp only
    rw [hr]
    rfl

variable (hr : x.run = some r)
include hr

section
variable {y : Entry} {w : Sowing} (hy : s.entry r.entry = some y) (hw : y.sow = some w)
include hy hw

/-- What keeps WARN quiet. -/
def State.warnQuiet (s : State) (l : Nat) (x : FrameLoop) (r : RunFrame) (w : Sowing) : Bool :=
  decide (numAt (s.template x) 80 4 = 0) || r.warned || r.digesting || w.cause.isSome || w.over s ||
    !s.loopDue l ((s.frameStart l x r.k + nsCounts (numAt (s.template x) 80 4)) % 2 ^ 64)

omit h hr hy hw in
theorem State.warnQuiet_iff (s : State) (l : Nat) (x : FrameLoop) (r : RunFrame) (w : Sowing) : s.warnQuiet l x r w = true ↔
    numAt (s.template x) 80 4 = 0 ∨ r.warned = true ∨ r.digesting = true ∨ w.cause ≠ none ∨ w.over s = true ∨
      ¬s.loopDue l ((s.frameStart l x r.k + nsCounts (numAt (s.template x) 80 4)) % 2 ^ 64) = true := by
  simp only [State.warnQuiet, Bool.or_eq_true, decide_eq_true_eq, Option.isSome_iff_ne_none, Bool.not_eq_true', or_assoc,
    Bool.not_eq_true]

/-- The threads of a sowing that have not ended. -/
def State.unended (s : State) (w : Sowing) : List Nat :=
  w.threads.filter fun h => !w.parked.contains h && !(s.thread h).exited

theorem exec_warn_eq : exec (.warn l) s = .next (if s.warnQuiet l x r w then s
    else ((s.ticked (s.unended w)).setOn SOW_LOOP_EVT.WARNED l true).setLoop l { x with run := some { r with warned := true } }) := by
  have hsow : (s.entry r.entry).bind (·.sow) = some w := by
    rw [hy]
    exact hw
  refine (exec_warn ..).trans ?_
  unfold execWarn
  rw [h]
  dsimp only
  rw [hr]
  dsimp only
  rw [hsow]
  rfl

theorem exec_warn_warns (hq : s.warnQuiet l x r w = false) : ∃ u, exec (.warn l) s = .next u ∧
    u.on SOW_LOOP_EVT.WARNED l = true ∧ u.loop l = some { x with run := some { r with warned := true } } ∧
    ∀ i ∈ w.threads, w.parked.contains i = false → (s.thread i).exited = false →
      u.bitF FUR_XPEND.SRC i (cFrameTick - 0x40) = true := by
  let z : FrameLoop := { x with run := some { r with warned := true } }
  let v := (s.ticked (s.unended w)).setOn SOW_LOOP_EVT.WARNED l true
  refine ⟨v.setLoop l z, ?_, ?_, State.loop_setLoop_self .., fun i hi hp he => ?_⟩
  · rw [exec_warn_eq h hr hy hw, hq]
    rfl
  · unfold State.on
    rw [State.setLoop_f _ _ _ (by decide) (by decide), ← State.on]
    exact State.on_setOn_self _ rfl l true
  · have hin : i ∈ s.unended w := List.mem_filter.mpr ⟨hi, by rw [hp, he]; rfl⟩
    have ht := State.ticked_ticks (s.unended w) s i (.inl hin)
    unfold State.bitF at ht ⊢
    rw [State.setLoop_f _ _ _ (by decide) (by decide), State.f_setOn_apart _ (by decide)]
    exact ht

/-! ### DEADLINE (R352) -/

omit h hr in
/-- At its deadline a running frame that has not ended is told, and its sowing stopped. -/
theorem State.deadlineOf_stops (hc : w.cause = none) (ho : w.over s = false) :
    (s.deadlineOf l x r).loop l = some { x with run := some { r with told := true } } ∧
    (((s.deadlineOf l x r).entry r.entry).bind (·.sow)).bind (·.cause) = some { status := stDeadline } := by
  let z : FrameLoop := { x with run := some { r with told := true } }
  let v := s.stopSowing r.entry y w { status := stDeadline }
  have hs : s.deadlineOf l x r = (v.setLoop l z).reportMissing l r.k 2 := by
    unfold State.deadlineOf
    rw [hy]
    dsimp only
    rw [hw]
    dsimp only
    rw [hc, ho]
    rfl
  have hk : ((v.setLoop l z).reportMissing l r.k 2).keep (among [.loops, .drill]) =
      (v.setLoop l z).keep (among [.loops, .drill]) := State.reportMissing_keep rfl rfl rfl rfl rfl rfl rfl rfl ..
  have hv : (v.setLoop l z).entry r.entry = v.entry r.entry := rfl
  have hd := State.stopSowing_drill (s := s) (e := r.entry) (x := y) (r := { status := stDeadline }) hc
  have he : v.entry r.entry = some { y with sow := some { w with cause := some { status := stDeadline }
                                                                 stopAt := some s.now } } :=
    (congrArg (fun d : Drill => find r.entry d.ledger) hd).trans (find_put_self ..)
  rw [hs]
  refine ⟨(State.loop_of_loops (loops_of_keep hk rfl) l).trans (v.loop_setLoop_self l z), ?_⟩
  rw [State.entry_of_drill (drill_of_keep hk rfl), hv, he]
  rfl

end

theorem exec_deadline_eq (ho : x.owed = none) : exec (.deadline l) s = .next
    (if r.digesting || r.told || !s.loopDue l (s.frameDeadline l x r.k) then s else s.deadlineOf l x r) := by
  refine (exec_deadline ..).trans ?_
  unfold execDeadline
  rw [h]
  dsimp only
  rw [ho]
  dsimp only
  rw [hr]

/-! ### DIGEST_COMPLETE (R355) -/

theorem exec_digestComplete_runs (hd : r.digesting = false) (res : MemRes) :
    exec (.digestComplete l res) s = .next (s.withRes res id) := by
  refine (exec_digestComplete ..).trans (congrArg Host.Outcome.next (State.withRes_congr ?_))
  have h' : State.loop { s with res := res } l = some x := h
  rw [h']
  dsimp only
  rw [hr]
  dsimp only
  rw [hd]
  rfl

/-- The result of a frame whose sheaf cannot be read. -/
def State.firstOf (s : State) (e : Nat) : Nat := (((s.entry e).bind (·.sow)).map (·.first)).getD 0

/-- What follows the read of a sheaf. -/
def sheafRead (l : Nat) (x : FrameLoop) (r : RunFrame) : SheafRead × State → State
  | (.held, s) => s
  | (.fail, s) => (s.reportMissing l r.k 3).frameDone l x r
    { status := stFaulted, detail := dtData, result := s.firstOf r.entry }
  | (.regions regions, s) => s.sheafIn l x r regions

theorem exec_digestComplete_reads (hd : r.digesting = true) (res : MemRes) : exec (.digestComplete l res) s = .next
    { sheafRead l x r (State.readSheaf { s with res := res } (s.f SOW_LOOP_CTL.PLOT l) r.sheaf) with res := .ok } := by
  refine (exec_digestComplete ..).trans ?_
  unfold execDigestComplete
  refine congrArg (fun u : State => Host.Outcome.next { u with res := .ok }) ?_
  have h' : State.loop { s with res := res } l = some x := h
  have hf : State.f { s with res := res } SOW_LOOP_CTL.PLOT l = s.f SOW_LOOP_CTL.PLOT l := rfl
  dsimp only
  rw [h']
  dsimp only
  rw [hr]
  dsimp only
  rw [hd, hf]
  generalize State.readSheaf { s with res := res } (s.f SOW_LOOP_CTL.PLOT l) r.sheaf = d
  obtain ⟨d, u⟩ := d
  cases d <;> simp only [sheafRead, State.firstOf, Bool.not_true, Bool.false_eq_true, if_false]

end

/-! ### A frame is done -/

theorem leNat_leBytes (n v : Nat) : leNat (leBytes n v) = v % 256 ^ n := by
  induction n generalizing v with
  | zero => exact (Nat.mod_one v).symm
  | succ n ih =>
    have hb : (BitVec.ofNat 8 v).toNat = v % 256 := BitVec.toNat_ofNat v 8
    unfold leBytes leNat
    rw [ih, hb, Nat.pow_succ', Nat.mod_mul]

/-- RESULT stands at byte 16 of a reply (Table 14-3). -/
theorem numAt_replyBytes_result (seq : Nat) (r : Reply) (info phase : Bool) (tag queue opcode ts : Nat) :
    numAt (replyBytes seq r info phase tag queue opcode ts) 16 8 = r.result % 2 ^ 64 :=
  (leNat_leBytes 8 r.result :)

section
variable (s : State) (l : Nat) (x : FrameLoop) (r : RunFrame) (rep : Reply)

/-- A done frame's reply and trace. -/
def State.frameTold : State :=
  let v := s.frameReply l x r.k rep
  match v.entry r.entry with
  | some y => v.cmdTrace r.entry y 2 rep.status
  | none => v

/-- A done frame's entry is free, and no frame of its loop runs. -/
def State.frameFreed : State := ((s.frameTold l x r rep).freeEntry r.entry).setLoop l { x with run := none }

theorem State.frameDone_eq : s.frameDone l x r rep =
    (s.frameFreed l x r rep).countOutcome l ((s.frameTold l x r rep).template x) rep.status := rfl

theorem State.frameDone_leaves : (s.frameDone l x r rep).entry r.entry = none ∧
    ((s.frameDone l x r rep).loop l).map (·.run) = some none := by
  rw [State.frameDone_eq]
  have hd : ((s.frameFreed l x r rep).countOutcome l ((s.frameTold l x r rep).template x) rep.status).drill =
      ((s.frameTold l x r rep).freeEntry r.entry).drill := drill_of_keep (m := Facet.only .drill)
    ((State.countOutcome_keep rfl rfl ..).trans (State.setLoop_keep rfl rfl ..)) rfl
  obtain ⟨z, hz, hrun, -⟩ := (s.frameFreed l x r rep).countOutcome_loop l ((s.frameTold l x r rep).template x)
    (State.loop_setLoop_self ..) rep.status
  refine ⟨(State.entry_of_drill hd _).trans (State.entry_freeEntry_self ..), ?_⟩
  rw [hz, Option.map_some, hrun]

/-- The reply of a done frame, where its FRAME_ARM stands. -/
theorem State.frameDone_replies {a : Entry} (ha : s.entry x.entry = some a) :
    (s.frameDone l x r rep).f DRL_CR_HEAD.COUNT (s.loopQueue l) = (s.f DRL_CR_HEAD.COUNT (s.loopQueue l) + 1) % 2 ^ 32 ∧
    (find (s.f DRL_CR_HEAD.COUNT (s.loopQueue l) % s.qSize (s.loopQueue l))
      ((s.frameDone l x r rep).queue (s.loopQueue l)).retained).map (fun b => numAt b 16 8) = some (rep.result % 2 ^ 64) := by
  let m := among [.drill, .blk .DRL]
  let rep' : Reply := { rep with aux := r.k % 2 ^ 32 }
  let v := s.writeReply (s.loopQueue l) a.seq rep' false (numAt a.packet 1 1 / 2 % 2 = 1) (numAt a.content 2 2) 0x01
  have hv : s.frameReply l x r.k rep = v := by
    unfold State.frameReply
    rw [ha]
  obtain ⟨-, h2, h3, -⟩ := s.writeReply_leaves (s.loopQueue l) a.seq rep' false (numAt a.packet 1 1 / 2 % 2 = 1)
    (numAt a.content 2 2) 0x01
  have ht : (s.frameTold l x r rep).keep m = v.keep m := by
    unfold State.frameTold
    rw [hv]
    dsimp only
    split
    · exact State.cmdTrace_keep rfl rfl ..
    · rfl
  have hk : (s.frameDone l x r rep).keep m = ((s.frameTold l x r rep).freeEntry r.entry).keep m :=
    (State.countOutcome_keep rfl rfl ..).trans (State.setLoop_keep rfl rfl ..)
  have hq : (s.frameDone l x r rep).queue (s.loopQueue l) = v.queue (s.loopQueue l) := by
    have h1 : (s.frameDone l x r rep).drill = ((s.frameTold l x r rep).freeEntry r.entry).drill := drill_of_keep hk rfl
    have h2 : (s.frameTold l x r rep).drill = v.drill := drill_of_keep ht rfl
    exact (congrArg (fun d : Drill => findD ({} : QueueRec) (s.loopQueue l) d.queues) h1).trans
      (congrArg (fun d : Drill => findD ({} : QueueRec) (s.loopQueue l) d.queues) h2 :)
  refine ⟨(f_of_keep hk (F := DRL_CR_HEAD.COUNT) rfl _).trans ((f_of_keep ht (F := DRL_CR_HEAD.COUNT) rfl _).trans h2), ?_⟩
  rw [hq, h3, Option.map_some, numAt_replyBytes_result]

theorem State.frameDone_missRun (h : rep.status = stOk) : (s.frameDone l x r rep).f SOW_LOOP_CTL.MISSRUN l = 0 := by
  rw [State.frameDone_eq, h]
  exact (State.countOutcome_ok _ l _).2

end

/-! ### A sheaf that has been read -/

section
variable (s : State) (l : Nat) (x : FrameLoop) (r : RunFrame) (regions : List (List Byte))

/-- A checkpoint's hash is taken. -/
def State.hashTaken : State := if s.checkpoint l r.k then s.takeHash l r.k else s

/-- The request block stands ready. -/
def State.sheafHashed : State := ((s.hashTaken l r).requestBlock regions).2

theorem State.sheafHashed_keeps : (s.sheafHashed l r regions).keep frameSide = s.keep frameSide := by
  refine (State.requestBlock_keep rfl ..).trans ?_
  unfold State.hashTaken
  split
  · exact State.takeHash_keep rfl rfl rfl rfl rfl rfl rfl rfl rfl ..
  · rfl

/-- A done frame goes to the yoke where its loop is yoked. -/
def State.sheafToYoke (l : Nat) (r : RunFrame) (regions : List (List Byte)) (block : List Byte) (v : State) : State :=
  if v.yoked l then v.ykSheaf l r.k (crc64 (regions.flatMap id)) (regions.flatMap id).length block else v

theorem State.sheafIn_eq : s.sheafIn l x r regions = State.sheafToYoke l r regions ((s.hashTaken l r).requestBlock regions).1
    ((s.sheafHashed l r regions).frameDone l x r { result := crc64 (regions.flatMap id) }) := by
  have hs : s.sheafIn l x r regions = match (s.hashTaken l r).requestBlock regions with
    | (block, v) => State.sheafToYoke l r regions block (v.frameDone l x r { result := crc64 (regions.flatMap id) }) := rfl
  rw [hs]
  unfold State.sheafHashed
  generalize (s.hashTaken l r).requestBlock regions = p
  rfl

theorem State.sheafIn_keeps : (s.sheafIn l x r regions).keep frameSide =
    ((s.sheafHashed l r regions).frameDone l x r { result := crc64 (regions.flatMap id) }).keep frameSide := by
  rw [State.sheafIn_eq]
  unfold State.sheafToYoke
  split
  · exact State.ykSheaf_keep rfl rfl rfl rfl rfl rfl rfl rfl ..
  · rfl

/-- What a frame leaves whose sheaf has been read. -/
theorem State.sheafIn_leaves : (s.sheafIn l x r regions).entry r.entry = none ∧
    ((s.sheafIn l x r regions).loop l).map (·.run) = some none ∧ (s.sheafIn l x r regions).f SOW_LOOP_CTL.MISSRUN l = 0 ∧
    ((s.entry x.entry).isSome = true →
      (s.sheafIn l x r regions).f DRL_CR_HEAD.COUNT (s.loopQueue l) = (s.f DRL_CR_HEAD.COUNT (s.loopQueue l) + 1) % 2 ^ 32 ∧
      (find (s.f DRL_CR_HEAD.COUNT (s.loopQueue l) % s.qSize (s.loopQueue l))
        ((s.sheafIn l x r regions).queue (s.loopQueue l)).retained).map (fun b => numAt b 16 8) =
        some (crc64 (regions.flatMap id) % 2 ^ 64)) := by
  let rep : Reply := { result := crc64 (regions.flatMap id) }
  have hk := s.sheafIn_keeps l x r regions
  have hh := s.sheafHashed_keeps l r regions
  have hf : ∀ F : Fld, frameSide (.blk F.blk) = true → ∀ i, (s.sheafHashed l r regions).f F i = s.f F i :=
    fun F hF i => f_of_keep hh hF i
  have hdrill := drill_of_keep hk rfl
  obtain ⟨h1, h2⟩ := (s.sheafHashed l r regions).frameDone_leaves l x r rep
  have h3 := (s.sheafHashed l r regions).frameDone_missRun l x r rep rfl
  refine ⟨(State.entry_of_drill hdrill _).trans h1, ?_, (f_of_keep hk (F := SOW_LOOP_CTL.MISSRUN) rfl l).trans h3, fun ha => ?_⟩
  · rw [State.loop_of_loops (loops_of_keep hk rfl) l]
    exact h2
  · obtain ⟨a, ha⟩ := Option.isSome_iff_exists.mp ha
    obtain ⟨h4, h5⟩ := (s.sheafHashed l r regions).frameDone_replies l x r rep
      ((State.entry_of_drill (drill_of_keep hh rfl) _).trans ha)
    have hq : (s.sheafHashed l r regions).loopQueue l = s.loopQueue l := by
      unfold State.loopQueue
      rw [hf _ rfl, hf _ rfl]
    have hqueue : (s.sheafIn l x r regions).queue (s.loopQueue l) =
        ((s.sheafHashed l r regions).frameDone l x r rep).queue (s.loopQueue l) :=
      congrArg (fun d : Drill => findD ({} : QueueRec) (s.loopQueue l) d.queues) hdrill
    unfold State.qSize at h5 ⊢
    rw [hq, hf _ rfl] at h4
    rw [hq, hf _ rfl, hf _ rfl] at h5
    rw [hqueue]
    exact ⟨(f_of_keep hk (F := DRL_CR_HEAD.COUNT) rfl _).trans h4, h5⟩

end

/-- Settles O39: a frame's start, release and end change its loop's record and its own entry; the yoke's part of them leaves
Drill and the loops alone. -/
theorem frameLifeResults : Obligations.FrameLifeResults := by
  unfold Obligations.FrameLifeResults
  refine ⟨?_, ?_⟩
  · intro s l e res
    cases h : s.loop l with
    | none => trivial
    | some x =>
      refine ⟨exec_frameStart_waits h, fun hc hw hd => exec_frameStart_starts h hc hw hd, ?_⟩
      cases hw : x.waiting with
      | none =>
        exact ⟨exec_frameRelease_none h hw res, exec_frameDrop_none h hw⟩
      | some k =>
        refine ⟨?_, fun hc hp => ?_⟩
        · cases ha : s.entry x.entry with
          | none => trivial
          | some a =>
            refine ⟨fun hs => exec_frameRelease_stays h hw ha ((s.frameStays_iff l e x k).mpr hs) res, fun hs => ?_⟩
            have hs' : s.frameStays l e x k = false :=
              Bool.eq_false_iff.mpr fun hc => hs ((s.frameStays_iff l e x k).mp hc)
            cases hu : State.sowWaits { s with res := res } a.plot with
            | some u => exact exec_frameRelease_waits h hw ha hs' res hu
            | none =>
              have hx := exec_frameRelease_sows h hw ha hs' res hu
              obtain ⟨⟨y, hy, h1⟩, h2, h3⟩ := State.frameSown_leaves { s with res := res } l e x k a
              generalize State.frameSown { s with res := res } l e x k a = v at hx hy h2 h3
              refine ⟨_, hx, ?_, h2, h3⟩
              change match v.entry e with | some y => _ | none => _
              rw [hy]
              exact h1
        · obtain ⟨⟨z, hz, h1, h2⟩, h3, h4⟩ := s.dropped_leaves l x k
          have hx := exec_frameDrop_drops h hw hc hp
          generalize (s.dropShown l x k).countOutcome l (s.template x) stDropped = v at hx hz h3 h4
          refine ⟨v, hx, ?_, h3, h4⟩
          rw [hz]
          exact ⟨h1, h2⟩
  · intro s l res
    cases h : s.loop l with
    | none => trivial
    | some x =>
      cases hr : x.run with
      | none =>
        dsimp only
        rw [hr]
        exact exec_idle h hr res
      | some r =>
        dsimp only
        rw [hr]
        refine ⟨?_, fun hd => exec_digestComplete_runs h hr hd res, fun hd => ?_⟩
        · cases hy : s.entry r.entry with
          | none => trivial
          | some y =>
            dsimp only
            cases hw : y.sow with
            | none => trivial
            | some w =>
              have hquiet := s.warnQuiet_iff l x r w
              have hdead := fun ho => exec_deadline_eq h hr ho
              have hidle : (r.digesting || r.told || !s.loopDue l (s.frameDeadline l x r.k)) = true ↔
                  r.digesting = true ∨ r.told = true ∨ ¬s.loopDue l (s.frameDeadline l x r.k) = true := by
                simp [or_assoc]
              refine ⟨fun hq => ?_, fun hq => ?_, fun ho hi => ?_, fun ho hi hc hov => ?_⟩
              · rw [exec_warn_eq h hr hy hw, hquiet.mpr hq]
                rfl
              · exact exec_warn_warns h hr hy hw (Bool.eq_false_iff.mpr fun hc => hq (hquiet.mp hc))
              · exact (hdead ho).trans (congrArg Host.Outcome.next (if_pos (hidle.mpr hi)))
              · exact ⟨_, (hdead ho).trans (congrArg Host.Outcome.next (if_neg fun hc' => hi (hidle.mp hc'))),
                  State.deadlineOf_stops hy hw hc hov⟩
        · have hx := exec_digestComplete_reads h hr hd res
          generalize State.readSheaf { s with res := res } (s.f SOW_LOOP_CTL.PLOT l) r.sheaf = d at hx ⊢
          obtain ⟨d, u⟩ := d
          cases d with
          | held => exact hx
          | fail =>
            have hl := (u.reportMissing l r.k 3).frameDone_leaves l x r
              { status := stFaulted, detail := dtData, result := u.firstOf r.entry }
            simp only [sheafRead] at hx
            generalize (u.reportMissing l r.k 3).frameDone l x r
              { status := stFaulted, detail := dtData, result := u.firstOf r.entry } = v at hx hl
            exact ⟨_, hx, hl⟩
          | regions regions =>
            have hl := u.sheafIn_leaves l x r regions
            simp only [sheafRead] at hx
            generalize u.sheafIn l x r regions = v at hx hl
            exact ⟨_, hx, hl⟩

end Sys2Proof.Machine
end

section
/-! PROOF. Requests of other packages, and the answers that come back (R424 to R436). -/

namespace Sys2Proof.Machine

/-! ### Messages of the fabric -/

/-- The state in which a message of the fabric is acted on: it has left its link, whose units are free again. -/
def State.swTaken (s : State) (k : Nat) (m : List Byte) (r : List (List Byte)) (res : MemRes) : State :=
  { (s.setLink k { s.link k with inbox := r }).freeUnits k (swVc m) (msgUnits m) with res := res }

section
variable {s : State} {k : Nat} {m : List Byte} {r : List (List Byte)} {type : Nat} (hin : (s.link k).inbox = m :: r)
  (hown : numAt m 2 1 = s.ownPkg) (htype : numAt m 0 1 = type)
include hin hown htype

/-- A message for this package is taken and acted on. -/
theorem State.swMsg_here (res : MemRes) (f : List Byte → State → State) :
    s.swMsg k type res f = .next { f m (s.swTaken k m r res) with res := .ok } := by
  have ho : numAt m 2 1 = ((s.setLink k { s.link k with inbox := r }).freeUnits k (swVc m) (msgUnits m)).ownPkg := hown
  simp only [State.swMsg, State.swFront, State.takeMsg, hin, htype, if_true, if_pos ho]
  rfl

end

/-! ### Requests of other packages (R427 to R430) -/

section
variable (t : State) (m b : List Byte)

/-- The sender's record, once the ID of a message has been seen. -/
def State.seen (t : State) (m : List Byte) : State :=
  t.setPeer (numAt m 3 1) ((t.peer (numAt m 3 1)).see (numAt m 6 4))

/-- The acknowledgement of a store that a window admits: `x` is what the write answers. -/
def farStored (m : List Byte) (x : Bool × State) : State :=
  if x.1 then (x.2.markDone (numAt m 3 1) (numAt m 6 4)).swAck (numAt m 3 1) (numAt m 6 4) 0
  else x.2.swAck (numAt m 3 1) (numAt m 6 4) 2

/-- What an atomic of another package carries. -/
def farAtom (m : List Byte) (op : AOp) : AtomicOp :=
  { va := 0, pa := numAt m 10 6, uc := false, wide := decide (numAt m 17 1 = 3), op := op, gd := 0,
    arg := BitVec.ofNat 64 (numAt m 24 8), cmp := BitVec.ofNat 64 (numAt m 32 8), rel := false, upto := 0 }

/-- The word of an atomic is replaced, where its operation has a result. -/
def State.farAtomWrites (u : State) (m : List Byte) (len : Nat) (v : Option Nat) : State :=
  match v with
  | some v => (u.farWrite (numAt m 10 6) (leBytes len v)).2
  | none => u

/-- An atomic that a window admits: `x` is what its read answers. -/
def farAtomRuns (m : List Byte) (op : AOp) (len : Nat) (x : Option (List Byte × Bool) × State) : State :=
  match x with
  | (none, u) => u.swAtomr (numAt m 3 1) (numAt m 6 4) 2 0
  | (some (_, true), u) => u.swAtomr (numAt m 3 1) (numAt m 6 4) 3 0
  | (some (b, false), u) => ((u.farAtomWrites m len ((farAtom m op).result (leNat b))).markDone (numAt m 3 1)
      (numAt m 6 4)).swAtomr (numAt m 3 1) (numAt m 6 4) 0 (leNat b)

/-- The bytes of an atomic's word. -/
def farAtomLen (m : List Byte) : Nat := if numAt m 17 1 = 3 then 8 else 4

section
variable (t : State) (m b : List Byte)

section
variable (hd : (t.peer (numAt m 3 1)).done.contains (numAt m 6 4) = true)
include hd

theorem State.farStore_again : t.farStore m b = t.swAck (numAt m 3 1) (numAt m 6 4) 1 := if_pos hd

theorem State.farAtomic_again : t.farAtomic m = t.swAtomr (numAt m 3 1) (numAt m 6 4) 1 0 := if_pos hd

end

section
variable (hd : (t.peer (numAt m 3 1)).done.contains (numAt m 6 4) = false)
include hd

theorem State.farStore_refused
    (hm : t.expAdmits (numAt m 3 1) (numAt m 4 2 % 512) (numAt m 10 6) b.length true = false) :
    t.farStore m b = (t.seen m).swAck (numAt m 3 1) (numAt m 6 4) 2 :=
  (if_neg (Bool.eq_false_iff.mp hd)).trans (if_neg (Bool.eq_false_iff.mp hm))

theorem State.farStore_admitted
    (hm : t.expAdmits (numAt m 3 1) (numAt m 4 2 % 512) (numAt m 10 6) b.length true = true) :
    t.farStore m b = farStored m ((t.seen m).farWrite (numAt m 10 6) b) := by
  refine ((if_neg (Bool.eq_false_iff.mp hd)).trans (if_pos hm)).trans ?_
  change (match (t.seen m).farWrite (numAt m 10 6) b with
    | (true, s) => _
    | (false, s) => _) = _
  rcases (t.seen m).farWrite (numAt m 10 6) b with ⟨_ | _, u⟩ <;> rfl

theorem State.farAtomic_none (ho : atomOp (numAt m 16 1) = none) :
    t.farAtomic m = (t.seen m).swAtomr (numAt m 3 1) (numAt m 6 4) 2 0 := by
  refine (if_neg (Bool.eq_false_iff.mp hd)).trans ?_
  rw [ho] <;> rfl

variable {op : AOp} (ho : atomOp (numAt m 16 1) = some op)
include ho

theorem State.farAtomic_some :
    t.farAtomic m = if numAt m 10 6 % farAtomLen m ≠ 0 ||
        !t.expAdmits (numAt m 3 1) (numAt m 4 2 % 512) (numAt m 10 6) (farAtomLen m) true then
        (t.seen m).swAtomr (numAt m 3 1) (numAt m 6 4) 2 0
      else farAtomRuns m op (farAtomLen m) ((t.seen m).farRead (numAt m 10 6) (farAtomLen m)) := by
  have hl : (if decide (numAt m 17 1 = 3) = true then 8 else 4) = farAtomLen m := by simp [farAtomLen]
  refine (if_neg (Bool.eq_false_iff.mp hd)).trans ?_
  rw [ho]
  dsimp only
  rw [hl]
  refine if_congr Iff.rfl rfl ?_
  change (match (t.seen m).farRead (numAt m 10 6) (farAtomLen m) with
    | (none, s) => _
    | (some (_, true), s) => _
    | (some (b, false), s) => _) = _
  rcases (t.seen m).farRead (numAt m 10 6) (farAtomLen m) with ⟨_ | ⟨old, _ | _⟩, u⟩ <;> rfl

end

end

end

/-- The response to a read of another package. -/
def State.rdAnswers (u : State) (m : List Byte) (st : Nat) (b : List Byte) : State :=
  u.swRespond (swHead 0x23 (if numAt m 14 1 = 6 then 5 else 2) (numAt m 3 1) u.ownPkg 0
    (leBytes 2 (numAt m 6 2) ++ leBytes 1 st) ++ padTo (if numAt m 14 1 = 6 then 64 else 16) b)

/-- The response to a read that a window admits: `x` is what the read answers. -/
def farReadDone (m : List Byte) (x : Option (List Byte × Bool) × State) : State :=
  match x with
  | (some (b, false), u) => u.rdAnswers m 0 b
  | (some (_, true), u) => u.rdAnswers m 3 []
  | (none, u) => u.rdAnswers m 2 []

/-- The bytes that a read names. -/
def farReadLen (m : List Byte) : Nat := if numAt m 14 1 = 6 then 64 else 2 ^ (numAt m 14 1 % 4)

section
variable {s : State} {k : Fin 6} {m : List Byte} {r : List (List Byte)} (hin : (s.link k).inbox = m :: r)
  (hown : numAt m 2 1 = s.ownPkg)
include hin hown

theorem exec_rdreq_here (htype : numAt m 0 1 = 0x22) (hh : s.swHeld k 8 = false) (res : MemRes) :
    exec (.rdreq k res) s = .next { (if s.expAdmits (numAt m 3 1) (numAt m 4 2 % 512) (numAt m 8 6) (farReadLen m) false &&
        (numAt m 14 1 < 4 || numAt m 14 1 = 6) then
          farReadDone m ((s.swTaken k m r res).farRead (numAt m 8 6) (farReadLen m))
        else (s.swTaken k m r res).rdAnswers m 2 []) with res := .ok } := by
  refine ((exec_rdreq ..).trans (if_neg (Bool.eq_false_iff.mp hh))).trans ((State.swMsg_here hin hown htype ..).trans ?_)
  refine congrArg (fun u : State => Host.Outcome.next { u with res := .ok }) ?_
  refine ite_congr rfl (fun _ => ?_) fun _ => rfl
  change (match (s.swTaken k m r res).farRead (numAt m 8 6) (farReadLen m) with
    | (some (b, false), u) => _
    | (some (_, true), u) => _
    | (none, u) => _) = _
  rcases (s.swTaken k m r res).farRead (numAt m 8 6) (farReadLen m) with ⟨_ | ⟨old, _ | _⟩, u⟩ <;> rfl

/-- The three requests that write, when their access need not wait. -/
theorem exec_wr_here (htype : numAt m 0 1 = 0x24) (hh : s.swHeld k 10 = false) (res : MemRes) :
    exec (.wr k res) s = .next { (s.swTaken k m r res).farStore m ((m.drop 24).take (2 ^ (numAt m 16 1 % 4))) with res := .ok } :=
  ((exec_wr ..).trans (if_neg (Bool.eq_false_iff.mp hh))).trans (State.swMsg_here hin hown htype ..)

theorem exec_wr64_here (htype : numAt m 0 1 = 0x25) (hh : s.swHeld k 10 = false) (res : MemRes) :
    exec (.wr64 k res) s = .next { (s.swTaken k m r res).farStore m ((m.drop 16).take 64) with res := .ok } :=
  ((exec_wr64 ..).trans (if_neg (Bool.eq_false_iff.mp hh))).trans (State.swMsg_here hin hown htype ..)

theorem exec_atom_here (htype : numAt m 0 1 = 0x26) (hh : s.swHeld k 10 = false) (res : MemRes) :
    exec (.atom k res) s = .next { (s.swTaken k m r res).farAtomic m with res := .ok } :=
  ((exec_atom ..).trans (if_neg (Bool.eq_false_iff.mp hh))).trans (State.swMsg_here hin hown htype ..)

end

/-! ### Answers (R426, R429) -/

/-- A response that matches no request changes its counter alone. -/
theorem State.swAnswer_late {t : State} {m : List Byte}
    (hn : t.acre.reqs.find? (fun x => x.dst = numAt m 3 1 && x.id = numAt m 6 4 && x.read = false && x.sent.isSome) = none)
    (old : Nat) : t.swAnswer m old = t.swLate := by
  simp only [State.swAnswer, State.swTake, hn, Option.map_none]

theorem State.swLate_leaves (t : State) : t.swLate.acre = t.acre ∧ t.swLate.threads = t.threads ∧
    t.swLate.f SWT_LATE.COUNT 0 =
      (if t.f SWT_LATE.COUNT 0 + 1 < 2 ^ 32 then t.f SWT_LATE.COUNT 0 + 1 else t.f SWT_LATE.COUNT 0) := by
  have hk := State.bump_keep (m := among [.acre, .threads]) t SWT_LATE.COUNT rfl 0
  refine ⟨acre_of_keep hk rfl, threads_of_keep hk rfl, ?_⟩
  have hb : t.swLate.f SWT_LATE.COUNT 0 = _ := t.f_bump_self (F := SWT_LATE.COUNT) (w := 32) rfl 0
  rw [hb]
  split <;> omega

/-- The one request outstanding leaves the list. -/
theorem State.swTake_only {t : State} {x : SwReq} (hr : t.acre.reqs = [x]) {src id : Nat} {read : Bool}
    (hm : (x.dst = src && x.id = id && x.read = read && x.sent.isSome) = true) :
    t.swTake src id read = some (x, t.setReqs []) := by
  have he : [x].erase x = [] := by simp
  unfold State.swTake
  rw [hr, List.find?_singleton, if_pos hm, Option.map_some, he]
  rfl

theorem State.routeRetry_idle {t : State} {d : Nat} (h : t.on SWT_DIR.PENDING d = false) : t.routeRetry d = t :=
  if_neg (Bool.eq_false_iff.mp h)

/-- A request is answered without error. -/
theorem State.swAnswer_done {t : State} {x : SwReq} {m : List Byte} (hr : t.acre.reqs = [x])
    (hm : (x.dst = numAt m 3 1 && x.id = numAt m 6 4 && x.read = false && x.sent.isSome) = true)
    (hok : numAt m 10 1 < 2) (old : Nat) :
    t.swAnswer m old = ((t.setReqs []).swDone x old).routeRetry (numAt m 3 1) := by
  unfold State.swAnswer
  dsimp only
  rw [State.swTake_only hr hm]
  dsimp only
  split
  next h => exact absurd h (by omega)
  next h => exact absurd h (by omega)
  next => rfl

/-- A load is answered with its data. -/
theorem execRdrsp_loads {s : State} {k : Fin 6} {m : List Byte} {r : List (List Byte)} (hin : (s.link k).inbox = m :: r)
    (hown : numAt m 2 1 = s.ownPkg) (htype : numAt m 0 1 = 0x23) {x : SwReq} (hr : s.acre.reqs = [x])
    (hm : (x.dst = numAt m 3 1 && x.id = numAt m 6 2 && x.read = true && x.sent.isSome) = true)
    (hok : numAt m 8 1 = 0) {h : Nat} (hu : x.use = .load h) (res : MemRes) :
    exec (.rdrsp k res) s = .next { ((((s.swTaken k m r res).setReqs []).farLoaded h (m.drop 16)).routeRetry
      (numAt m 3 1)) with res := .ok } := by
  refine ((exec_rdrsp ..).trans (State.swMsg_here hin hown htype ..)).trans ?_
  have ht : (s.swTaken k m r res).acre.reqs = [x] := hr
  refine congrArg (fun u : State => Host.Outcome.next { u with res := .ok }) ?_
  dsimp only
  rw [State.swTake_only ht hm]
  dsimp only
  rw [hok, hu]
  rfl

theorem execRdrsp_late {s : State} {k : Fin 6} {m : List Byte} {r : List (List Byte)} (hin : (s.link k).inbox = m :: r)
    (hown : numAt m 2 1 = s.ownPkg) (htype : numAt m 0 1 = 0x23)
    (hn : s.acre.reqs.find? (fun x => x.dst = numAt m 3 1 && x.id = numAt m 6 2 && x.read = true && x.sent.isSome) = none)
    (res : MemRes) : exec (.rdrsp k res) s = .next { (s.swTaken k m r res).swLate with res := .ok } := by
  refine ((exec_rdrsp ..).trans (State.swMsg_here hin hown htype ..)).trans ?_
  have ht : (s.swTaken k m r res).acre.reqs.find?
    (fun x => x.dst = numAt m 3 1 && x.id = numAt m 6 2 && x.read = true && x.sent.isSome) = none := hn
  simp only [State.swTake, ht, Option.map_none]

/-- A thread's instruction that was in progress has completed. -/
theorem State.farLoaded_ends {t : State} {h : Nat} {op : LoadOp} (ho : (t.thread h).hold = some (.load op))
    (hl : t.locked (coreOf h) = false) (b : List Byte) : (t.farLoaded h b).acre = t.acre ∧
    (∀ F i, (t.farLoaded h b).on F i = t.on F i) ∧ ((t.farLoaded h b).thread h).hold = none := by
  have he : t.farLoaded h b = t.finishLoad h op (b.take ((op.parts.map (·.len)).sum)) := by
    unfold State.farLoaded
    rw [ho]
    exact if_neg (Bool.eq_false_iff.mp hl)
  rw [he]
  refine ⟨rfl, fun _ _ => rfl, ?_⟩
  unfold State.finishLoad
  rw [State.thread_modThread_self]
  rfl

theorem State.farAtomicDone_ends {t : State} {h : Nat} {op : AtomicOp} (ho : (t.thread h).hold = some (.atomic op))
    (hl : t.locked (coreOf h) = false) (old : Nat) : (t.farAtomicDone h old).acre = t.acre ∧
    (∀ F i, (t.farAtomicDone h old).on F i = t.on F i) ∧ ((t.farAtomicDone h old).thread h).hold = none := by
  have he : t.farAtomicDone h old = t.modThread h fun u => (u.writeDest (.g op.gd) (op.old old)).next := by
    unfold State.farAtomicDone
    rw [ho]
    exact t.completes_unlocked hl _
  rw [he]
  refine ⟨rfl, fun _ _ => rfl, ?_⟩
  rw [State.thread_modThread_self]
  rfl

/-! ### Contributions and completions (R432, R436) -/

@[simp] theorem State.peer_setPeer_self (s : State) (p : Nat) (r : PeerRec) : (s.setPeer p r).peer p = r :=
  findD_put_self ..

theorem State.peer_setPeer_ne (s : State) {p q : Nat} (h : q ≠ p) (r : PeerRec) : (s.setPeer p r).peer q = s.peer q :=
  findD_put_ne h ..

theorem State.peer_of_acre {s u : State} (h : u.acre = s.acre) (p : Nat) : u.peer p = s.peer p := by
  unfold State.peer
  rw [h]

/-- The IDs that a package is known to have had performed are as they were. -/
def State.KeepsDone (s u : State) : Prop := ∀ p, (u.peer p).done = (s.peer p).done

theorem State.KeepsDone.refl (s : State) : s.KeepsDone s := fun _ => rfl

theorem State.KeepsDone.trans {s t u : State} (h : s.KeepsDone t) (g : t.KeepsDone u) : s.KeepsDone u := fun p =>
  (g p).trans (h p)

theorem State.KeepsDone.of_acre {s u : State} (h : u.acre = s.acre) : s.KeepsDone u := fun p =>
  congrArg PeerRec.done (State.peer_of_acre h p)

theorem foldl_keepsDone {α : Type} {f : State → α → State} (hf : ∀ (s : State) a, s.KeepsDone (f s a)) (l : List α) :
    ∀ s : State, s.KeepsDone (l.foldl f s) := by
  induction l with
  | nil => exact fun s => .refl s
  | cons a l ih => exact fun s => (hf s a).trans (ih _)

theorem State.swForward_acre (s : State) (j : Option Nat) (m : List Byte) : (s.swForward j m).acre = s.acre :=
  acre_of_keep (State.swForward_keep (m := Facet.only .acre) rfl rfl rfl rfl rfl s j m) rfl

theorem State.swPumpList_keepsDone (d : Nat) (l : List SwReq) : ∀ (s : State) (stuck : Bool),
    s.KeepsDone (s.swPumpList d stuck l) := by
  induction l with
  | nil => exact fun s _ => .refl s
  | cons x l ih =>
    intro s stuck
    have hset : ∀ q, s.KeepsDone (s.setReqs q) := fun _ _ => rfl
    unfold State.swPumpList
    dsimp only
    split
    · exact (hset _).trans (ih _ _)
    · split
      · exact (hset _).trans (ih _ _)
      · exact ((hset _).trans (.of_acre (State.swForward_acre _ _ _))).trans (ih _ _)

theorem State.swQueue_keepsDone (s : State) (dst : Nat) (read : Bool) (addr : Nat) (use : SwUse) (body : Nat → List Byte) :
    s.KeepsDone (s.swQueue dst read addr use body) := by
  have hid : ∀ n, s.KeepsDone (s.setPeer dst { s.peer dst with nextId := n }) := fun n p => by
    by_cases h : p = dst
    · rw [h, State.peer_setPeer_self]
    · rw [State.peer_setPeer_ne _ h]
  have hpump : ∀ (u : State) q, u.KeepsDone ((u.setReqs q).swPump dst) := fun u q =>
    .trans (t := (u.setReqs q).setReqs []) (fun _ => rfl) (State.swPumpList_keepsDone _ _ _ _)
  unfold State.swQueue
  dsimp only
  cases read
  · exact (hid _).trans (hpump _ _)
  · exact hpump _ _

theorem State.bndReport_keepsDone (s : State) (n word : Nat) : s.KeepsDone (s.bndReport n word) := by
  unfold State.bndReport
  dsimp only
  split
  · exact .refl s
  · split
    · refine foldl_keepsDone (fun u d => ?_) _ s
      split
      · exact State.swQueue_keepsDone _ _ _ _ _ _
      · exact .refl u
    · split
      · exact State.swQueue_keepsDone _ _ _ _ _ _
      · exact .refl s

theorem State.bndRoundFails_keepsDone (s : State) (n reason : Nat) : s.KeepsDone (s.bndRoundFails n reason) := by
  unfold State.bndRoundFails
  split
  · exact .refl s
  · exact .trans (.of_acre (acre_of_keep (State.bndFail_keep (m := Facet.only .acre) rfl rfl rfl rfl rfl rfl rfl rfl rfl s n
      reason) rfl)) (State.bndReport_keepsDone _ _ _)

/-- What an acknowledgement leaves alone. -/
theorem State.swAck_leaves (s : State) (src id result : Nat) :
    (s.swAck src id result).keep (among [.acre, .granary, .mem, .bnd, .blk .BND]) = s.keep (among [.acre, .granary, .mem, .bnd, .blk .BND]) :=
  State.swAck_keep rfl rfl rfl rfl rfl s src id result

theorem State.swAck_bndOp (s : State) (src id result n : Nat) : (s.swAck src id result).bndOp n = s.bndOp n :=
  bndOp_of_keep (s.swAck_leaves src id result) rfl n

theorem State.swAck_on (s : State) (src id result : Nat) {F : Fld} (hF : F.blk = .BND) (i : Nat) :
    (s.swAck src id result).on F i = s.on F i :=
  on_of_keep (s.swAck_leaves src id result) (by rw [hF]; rfl) i

/-- An ID that is marked as performed and acknowledged is done. -/
theorem State.marked_done (s : State) (src id result : Nat) :
    (((s.markDone src id).swAck src id result).peer src).done.contains id = true := by
  rw [State.peer_of_acre (acre_of_keep (State.swAck_leaves ..) rfl), State.markDone, State.peer_setPeer_self]
  simp

/-- The operation that a message of Binder names is one that spans packages. -/
def State.bndGlobal (s : State) (n : Nat) : Bool := decide (n < 64) && s.on BND_OP_CTL.V n && s.on BND_OP_ACRE.GLOBAL n

theorem State.bndGlobal_iff (s : State) (n : Nat) :
    s.bndGlobal n = true ↔ n < 64 ∧ s.on BND_OP_CTL.V n = true ∧ s.on BND_OP_ACRE.GLOBAL n = true := by
  simp [State.bndGlobal, and_assoc]

/-- A refused message of Binder changes neither memory nor Binder, and leaves its ID undone. -/
theorem State.refused_leaves (s : State) (k : Nat) (m : List Byte) (r : List (List Byte)) (res : MemRes) :
    let u := ((s.swTaken k m r res).seen m).swAck (numAt m 3 1) (numAt m 6 4) 2
    u.granary = s.granary ∧ u.bnd = s.bnd ∧
      (u.peer (numAt m 3 1)).done = ((s.peer (numAt m 3 1)).see (numAt m 6 4)).done := by
  intro u
  have hk := State.swAck_leaves ((s.swTaken k m r res).seen m) (numAt m 3 1) (numAt m 6 4) 2
  refine ⟨(granary_of_keep hk rfl rfl).trans rfl, ?_, ?_⟩
  · have hb : u.bnd = ((s.swTaken k m r res).seen m).bnd := by simpa [State.keep, among] using congrArg State.bnd hk
    exact hb
  · rw [State.peer_of_acre (acre_of_keep hk rfl)]
    exact congrArg PeerRec.done (State.peer_setPeer_self ..)

/-- The elements that a message of Binder carries. -/
def bindVals (m : List Byte) : List Nat := (List.range 8).map fun i => numAt m (16 + 8 * i) 8

/-- A contribution names no operation, slot or element of this home. -/
def State.bindMisses (s : State) (m : List Byte) : Bool :=
  !s.bndGlobal (numAt m 10 1) || s.f BND_OP_ACRE.HOME (numAt m 10 1) ≠ s.ownPkg ||
    s.bndSlots (numAt m 10 1) ≤ numAt m 12 2 || s.bndElems (numAt m 10 1) ≤ numAt m 14 2

/-- The state after the elements of a result are written. -/
def State.bindWrites (s : State) (m : List Byte) : State :=
  let n := numAt m 10 1
  let b := ((bindVals m).take (s.bndElems n - numAt m 14 2)).flatMap (leBytes 8)
  let x := if s.on BND_OP_STAT.FAILED n then (true, s) else s.bndWrite (s.bndResult n + 8 * numAt m 14 2) b
  if x.1 then x.2 else x.2.bndRoundFails n 2

/-- What BIND does, once its ID has been seen: the result's elements, a failure, or a contribution. -/
def State.bindActs (s : State) (m : List Byte) : State :=
  let src := numAt m 3 1
  let id := numAt m 6 4
  let n := numAt m 10 1
  if (numAt m 11 1).testBit 0 then
    if !s.bndGlobal n || s.bndElems n ≤ numAt m 14 2 then s.swAck src id 2
    else (s.bindWrites m |>.markDone src id).swAck src id 0
  else if (numAt m 11 1).testBit 1 then
    ((if s.bndGlobal n then s.bndRoundFails n 3 else s).markDone src id).swAck src id 0
  else if s.bindMisses m then
    (if decide (n < 64) && s.on BND_OP_CTL.V n then s.bndRoundFails n 4 else s).swAck src id 2
  else
    ((if s.on BND_OP_STAT.FAILED n then s else s.bindIn n (numAt m 12 2) (numAt m 14 2) (bindVals m)).markDone src id).swAck src id 0

/-- What BDONE does, once its ID has been seen. -/
def State.bdoneActs (s : State) (m : List Byte) : State :=
  let src := numAt m 3 1
  let id := numAt m 6 4
  let n := numAt m 10 1
  let w := if (s.bndOp n).poison then (BitVec.ofNat 64 (numAt m 16 8) ||| BitVec.ofNat 64 (2 ^ 62)).toNat else numAt m 16 8
  if 64 ≤ n || !s.on BND_OP_CTL.V n || !s.on BND_OP_ACRE.GLOBAL n then s.swAck src id 2
  else
    let s := (s.markDone src id).swAck src id 0
    if s.on BND_OP_STAT.FAILED n then s
    else
      match s.bndWrite (s.bndResult n + 8 * s.bndElems n) (leBytes 8 w) with
      | (false, s) => s.bndRoundFails n 2
      | (true, s) =>
        let s := s.bndDone n
        if w.testBit 63 then (s.setOn BND_OP_STAT.FAILED n true).bndStat n else s.bndNext n

section
variable {s : State} {k : Fin 6} {m : List Byte} {r : List (List Byte)} (hin : (s.link k).inbox = m :: r)
  (hown : numAt m 2 1 = s.ownPkg) (res : MemRes)
include hin hown

theorem exec_bind_here (htype : numAt m 0 1 = 0x2B) :
    exec (.bind k res) s = .next { ((s.swTaken k m r res).seen m).bindActs m with res := .ok } := by
  refine ((exec_bind ..).trans (State.swMsg_here hin hown htype ..)).trans ?_
  refine congrArg (fun u : State => Host.Outcome.next { u with res := .ok }) ?_
  dsimp only
  generalize hv : (s.swTaken k m r res).setPeer (numAt m 3 1)
    (((s.swTaken k m r res).peer (numAt m 3 1)).see (numAt m 6 4)) = v
  have hs : (s.swTaken k m r res).seen m = v := hv
  rw [hs]
  rfl

theorem exec_bdone_here (htype : numAt m 0 1 = 0x2C) :
    exec (.bdone k res) s = .next { ((s.swTaken k m r res).seen m).bdoneActs m with res := .ok } :=
  ((exec_bdone ..).trans (State.swMsg_here hin hown htype ..)).trans rfl

end

section
variable {s : State} {m : List Byte}

theorem State.bindActs_marks_result (h0 : (numAt m 11 1).testBit 0 = true) (hg : s.bndGlobal (numAt m 10 1) = true)
    (he : numAt m 14 2 < s.bndElems (numAt m 10 1)) :
    s.bindActs m = ((s.bindWrites m).markDone (numAt m 3 1) (numAt m 6 4)).swAck (numAt m 3 1) (numAt m 6 4) 0 := by
  have hc : ¬ (!s.bndGlobal (numAt m 10 1) || s.bndElems (numAt m 10 1) ≤ numAt m 14 2) = true := by
    simp [hg, he]
  exact (if_pos h0).trans (if_neg hc)

theorem State.bindActs_refuses_result (h0 : (numAt m 11 1).testBit 0 = true)
    (hg : ¬ (s.bndGlobal (numAt m 10 1) = true ∧ numAt m 14 2 < s.bndElems (numAt m 10 1))) :
    s.bindActs m = s.swAck (numAt m 3 1) (numAt m 6 4) 2 := by
  have hc : (!s.bndGlobal (numAt m 10 1) || s.bndElems (numAt m 10 1) ≤ numAt m 14 2) = true := by
    cases h : s.bndGlobal (numAt m 10 1)
    · rfl
    · simpa [h] using hg
  exact (if_pos h0).trans (if_pos hc)

variable (h0 : (numAt m 11 1).testBit 0 = false)
include h0

theorem State.bindActs_fails (h1 : (numAt m 11 1).testBit 1 = true) :
    s.bindActs m = ((if s.bndGlobal (numAt m 10 1) then s.bndRoundFails (numAt m 10 1) 3 else s).markDone
      (numAt m 3 1) (numAt m 6 4)).swAck (numAt m 3 1) (numAt m 6 4) 0 :=
  (if_neg (Bool.eq_false_iff.mp h0)).trans (if_pos h1)

variable (h1 : (numAt m 11 1).testBit 1 = false)
include h1

theorem State.bindActs_misses (hm : s.bindMisses m = true) :
    s.bindActs m = (if decide (numAt m 10 1 < 64) && s.on BND_OP_CTL.V (numAt m 10 1) then
      s.bndRoundFails (numAt m 10 1) 4 else s).swAck (numAt m 3 1) (numAt m 6 4) 2 :=
  ((if_neg (Bool.eq_false_iff.mp h0)).trans (if_neg (Bool.eq_false_iff.mp h1))).trans (if_pos hm)

theorem State.bindActs_takes (hm : s.bindMisses m = false) (hf : s.on BND_OP_STAT.FAILED (numAt m 10 1) = false) :
    s.bindActs m = ((s.bindIn (numAt m 10 1) (numAt m 12 2) (numAt m 14 2) (bindVals m)).markDone (numAt m 3 1)
      (numAt m 6 4)).swAck (numAt m 3 1) (numAt m 6 4) 0 := by
  refine (((if_neg (Bool.eq_false_iff.mp h0)).trans (if_neg (Bool.eq_false_iff.mp h1))).trans
    (if_neg (Bool.eq_false_iff.mp hm))).trans ?_
  rw [hf]
  rfl

end

theorem State.bdoneActs_refused {s : State} {m : List Byte} (hg : s.bndGlobal (numAt m 10 1) = false) :
    s.bdoneActs m = s.swAck (numAt m 3 1) (numAt m 6 4) 2 := by
  have hc : (64 ≤ numAt m 10 1 || !s.on BND_OP_CTL.V (numAt m 10 1) || !s.on BND_OP_ACRE.GLOBAL (numAt m 10 1)) = true := by
    by_contra h
    simp only [Bool.or_eq_true, decide_eq_true_eq, Bool.not_eq_true', not_or, Nat.not_le, Bool.not_eq_false] at h
    obtain ⟨⟨hn, hv⟩, hgl⟩ := h
    exact absurd ((s.bndGlobal_iff _).mpr ⟨hn, hv, hgl⟩) (by rw [hg]; exact nofun)
  exact if_pos hc

/-- A completion of an operation that spans packages: its ID is done, whatever comes of the round. -/
theorem State.bdoneActs_done {s : State} {m : List Byte} (hg : s.bndGlobal (numAt m 10 1) = true) :
    ((s.bdoneActs m).peer (numAt m 3 1)).done.contains (numAt m 6 4) = true := by
  obtain ⟨hn, hv, hgl⟩ := (s.bndGlobal_iff _).mp hg
  have hc : ¬ (64 ≤ numAt m 10 1 || !s.on BND_OP_CTL.V (numAt m 10 1) || !s.on BND_OP_ACRE.GLOBAL (numAt m 10 1)) = true := by
    simp [hn, hv, hgl]
  unfold State.bdoneActs
  dsimp only
  rw [if_neg hc]
  generalize (if (s.bndOp (numAt m 10 1)).poison = true then _ else numAt m 16 8) = w
  have hd := s.marked_done (numAt m 3 1) (numAt m 6 4) 0
  generalize (s.markDone (numAt m 3 1) (numAt m 6 4)).swAck (numAt m 3 1) (numAt m 6 4) 0 = t at hd ⊢
  have hkeep : ∀ u, t.KeepsDone u → (u.peer (numAt m 3 1)).done.contains (numAt m 6 4) = true := fun u hu => by
    rw [hu]
    exact hd
  refine hkeep _ ?_
  split
  · exact .refl t
  · have hw : ∀ pa b, t.KeepsDone (t.bndWrite pa b).2 := fun pa b =>
      .of_acre (acre_of_keep (State.bndWrite_keep (m := Facet.only .acre) rfl rfl rfl rfl rfl rfl rfl t pa b) rfl)
    split
    next u h => exact .trans (by simpa only [h] using hw (t.bndResult (numAt m 10 1) + 8 * t.bndElems (numAt m 10 1)) (leBytes 8 w)) (State.bndRoundFails_keepsDone _ _ _)
    next u h =>
      refine .trans (t := u) (by simpa only [h] using hw (t.bndResult (numAt m 10 1) + 8 * t.bndElems (numAt m 10 1)) (leBytes 8 w)) ?_
      have hb : (u.bndDone (numAt m 10 1)).acre = u.acre :=
        acre_of_keep (State.bndDone_keep (m := Facet.only .acre) rfl u _) rfl
      split
      · exact .of_acre hb
      · exact .of_acre hb

/-! ### Elements of a slot -/

theorem length_put_le {α : Type} (k : Nat) (v : α) (l : List (Nat × α)) : (put k v l).length ≤ l.length + 1 := by
  have hi : ∀ l : List (Nat × α), (insertAt k v l).length = l.length + 1 := fun l => by
    induction l with
    | nil => rfl
    | cons c l ih =>
      unfold insertAt
      split
      · rfl
      · rw [List.length_cons, ih, List.length_cons]
  unfold put
  rw [hi]
  exact Nat.succ_le_succ (List.length_filter_le ..)

/-- Values kept under consecutive keys. -/
def keepFrom (base : Nat) (vals : List Nat) (n : Nat) (l : List (Nat × Nat)) : List (Nat × Nat) :=
  (List.range n).foldl (fun m i => put (base + i) (vals.getD i 0) m) l

theorem keepFrom_succ (base : Nat) (vals : List Nat) (n : Nat) (l : List (Nat × Nat)) :
    keepFrom base vals (n + 1) l = put (base + n) (vals.getD n 0) (keepFrom base vals n l) := by
  simp only [keepFrom, List.range_succ, List.foldl_append, List.foldl_cons, List.foldl_nil]

theorem find_keepFrom (base : Nat) (vals : List Nat) {i n : Nat} (h : i < n) (l : List (Nat × Nat)) :
    find (base + i) (keepFrom base vals n l) = some (vals.getD i 0) := by
  induction n with
  | zero => omega
  | succ n ih =>
    rw [keepFrom_succ]
    by_cases e : i = n
    · rw [e, find_put_self]
    · rw [find_put_ne (by omega), ih (by omega)]

theorem length_keepFrom (base : Nat) (vals : List Nat) (n : Nat) (l : List (Nat × Nat)) :
    (keepFrom base vals n l).length ≤ l.length + n := by
  induction n with
  | zero => exact Nat.le_refl _
  | succ n ih =>
    rw [keepFrom_succ]
    exact (length_put_le ..).trans (by omega)

/-- A slot that is not whole keeps its elements. -/
theorem State.bindIn_keeps {s : State} {n slot first : Nat} {vals : List Nat} (hf : first + 8 < s.bndElems n)
    (hp : (s.bndOp n).partials = []) :
    ((s.bindIn n slot first vals).bndOp n).partials = keepFrom (slot * 4096 + first) vals 8 [] := by
  have h8 : min 8 (s.bndElems n - first) = 8 := by omega
  have hl := length_keepFrom (slot * 4096 + first) vals 8 []
  unfold State.bindIn
  simp only [h8, hp]
  change List.length ((List.range 8).foldl (fun m i => put (slot * 4096 + first + i) (vals.getD i 0) m) []) ≤ _ at hl
  change _ = (List.range 8).foldl (fun m i => put (slot * 4096 + first + i) (vals.getD i 0) m) []
  generalize (List.range 8).foldl (fun m i => put (slot * 4096 + first + i) (vals.getD i 0) m) [] = q at hl ⊢
  have hq := List.length_filter_le (fun x : Nat × Nat => decide (x.1 / 4096 = slot)) q
  have hc : ¬ s.bndElems n ≤ (q.filter fun x : Nat × Nat => decide (x.1 / 4096 = slot)).length := by
    have h0 : ([] : List (Nat × Nat)).length = 0 := rfl
    omega
  rw [if_neg hc, State.bndOp_setBnd_self]

end Sys2Proof.Machine
end

section
/-! PROOF. O47: what requests and answers of other packages do (R424 to R436). -/

namespace Sys2Proof.Machine

/-! ### The three parts of RemoteAccessResults -/

/-- A store of another package answers what its ID, the windows and the write itself make of it. -/
theorem farStore_results {s : State} {k : Fin 6} {m : List Byte} {r : List (List Byte)} {res : MemRes} {i : Instr}
    {b : List Byte}
    (hexec : exec i s = .next { (s.swTaken k m r res).farStore m b with res := .ok }) :
    let t := s.swTaken k m r res
    let next := fun u : State => (.next { u with res := .ok } : Out)
    let may := s.expAdmits (numAt m 3 1) (numAt m 4 2 % 512) (numAt m 10 6) b.length true
    ((s.peer (numAt m 3 1)).done.contains (numAt m 6 4) = true → exec i s = next (t.swAck (numAt m 3 1) (numAt m 6 4) 1)) ∧
    ((s.peer (numAt m 3 1)).done.contains (numAt m 6 4) = false → may = false →
      exec i s = next ((t.seen m).swAck (numAt m 3 1) (numAt m 6 4) 2)) ∧
    ((s.peer (numAt m 3 1)).done.contains (numAt m 6 4) = false → may = true →
      exec i s = next (farStored m ((t.seen m).farWrite (numAt m 10 6) b))) := by
  intro t next may
  have hwrap : ∀ {u : State}, t.farStore m b = u → exec i s = next u := fun h => by rw [hexec, h]
  exact ⟨fun hd => hwrap (State.farStore_again t m b hd), fun hd hm => hwrap (State.farStore_refused t m b hd hm),
    fun hd hm => hwrap (State.farStore_admitted t m b hd hm)⟩

/-- The requests of other packages that read, write or act on a word. -/
theorem remoteRequests_results (s : State) (k : Fin 6) (res : MemRes) {m : List Byte} {r : List (List Byte)}
    (hin : (s.link k).inbox = m :: r) (hown : numAt m 2 1 = s.ownPkg) :
    let src := numAt m 3 1
    let id := numAt m 6 4
    let t := s.swTaken k m r res
    let next := fun u : State => (.next { u with res := .ok } : Out)
    (numAt m 0 1 = 0x22 → s.swHeld k 8 = false →
      let may := s.expAdmits src (numAt m 4 2 % 512) (numAt m 8 6) (farReadLen m) false = true ∧
        (numAt m 14 1 < 4 ∨ numAt m 14 1 = 6)
      (¬may → exec (.rdreq k res) s = next (t.rdAnswers m 2 [])) ∧
      (may → exec (.rdreq k res) s = next (farReadDone m (t.farRead (numAt m 8 6) (farReadLen m))))) ∧
    (numAt m 0 1 = 0x26 → s.swHeld k 10 = false →
      ((s.peer src).done.contains id = true → exec (.atom k res) s = next (t.swAtomr src id 1 0)) ∧
      ((s.peer src).done.contains id = false → atomOp (numAt m 16 1) = none →
        exec (.atom k res) s = next ((t.seen m).swAtomr src id 2 0)) ∧
      (∀ op, (s.peer src).done.contains id = false → atomOp (numAt m 16 1) = some op →
        let may := numAt m 10 6 % farAtomLen m = 0 ∧
          s.expAdmits src (numAt m 4 2 % 512) (numAt m 10 6) (farAtomLen m) true = true
        (¬may → exec (.atom k res) s = next ((t.seen m).swAtomr src id 2 0)) ∧
        (may → exec (.atom k res) s =
          next (farAtomRuns m op (farAtomLen m) ((t.seen m).farRead (numAt m 10 6) (farAtomLen m)))))) := by
  intro src id t next
  refine ⟨fun htype hh => ?_, fun htype hh => ?_⟩
  · have hexec := exec_rdreq_here hin hown htype hh res
    refine ⟨fun hm => ?_, fun hm => ?_⟩
    · rw [hexec, if_neg fun h => hm (by simpa using h)]
    · rw [hexec, if_pos (by simpa using hm)]
  · have hexec := exec_atom_here hin hown htype hh res
    refine ⟨fun hd => ?_, fun hd ho => ?_, fun op hd ho => ⟨fun hm => ?_, fun hm => ?_⟩⟩
    · rw [hexec, State.farAtomic_again t m hd]
    · rw [hexec, State.farAtomic_none t m hd ho]
    · rw [hexec, State.farAtomic_some t m hd ho, if_pos]
      by_contra h
      simp only [Bool.or_eq_true, decide_eq_true_eq, Bool.not_eq_true', not_or, not_not, Bool.not_eq_false] at h
      exact hm h
    · rw [hexec, State.farAtomic_some t m hd ho, if_neg]
      intro h
      simp only [Bool.or_eq_true, decide_eq_true_eq, Bool.not_eq_true'] at h
      obtain ⟨h0, h1⟩ := hm
      rcases h with h | h
      · exact h h0
      · exact absurd (h1.symm.trans h) (by decide)

/-- Taking a message leaves registers and threads alone. -/
theorem State.swTaken_regs (s : State) (k : Nat) (m : List Byte) (r : List (List Byte)) (res : MemRes) :
    (s.swTaken k m r res).regs = s.regs := by
  simp only [State.swTaken, State.freeUnits, State.setLink_regs]

theorem State.swTaken_threads (s : State) (k : Nat) (m : List Byte) (r : List (List Byte)) (res : MemRes) :
    (s.swTaken k m r res).threads = s.threads := by
  simp only [State.swTaken, State.freeUnits, State.setLink_threads]

theorem State.on_of_regs {s u : State} (h : u.regs = s.regs) (F : Fld) (i : Nat) : u.on F i = s.on F i := by
  unfold State.on
  rw [State.f_of_regs h]

/-- Taking a message and its request leaves threads and registers alone. -/
theorem State.swTaken_thread (s : State) (k : Nat) (m : List Byte) (r : List (List Byte)) (res : MemRes) (h : Nat) :
    ((s.swTaken k m r res).setReqs []).thread h = s.thread h := by
  unfold State.thread
  rw [State.setReqs_threads, State.swTaken_threads]

theorem State.swTaken_locked (s : State) (k : Nat) (m : List Byte) (r : List (List Byte)) (res : MemRes) (n : Nat) :
    ((s.swTaken k m r res).setReqs []).locked n = s.locked n := by
  unfold State.locked State.bitF
  rw [State.f_of_regs ((State.setReqs_regs ..).trans (State.swTaken_regs ..))]

theorem State.on_modThread (s : State) (h : Nat) (f : Thread → Thread) (F : Fld) (i : Nat) :
    (s.modThread h f).on F i = s.on F i := rfl

theorem State.swTaken_on (s : State) (k : Nat) (m : List Byte) (r : List (List Byte)) (res : MemRes) (F : Fld) (i : Nat) :
    ((s.swTaken k m r res).setReqs []).on F i = s.on F i :=
  State.on_of_regs ((State.setReqs_regs ..).trans (State.swTaken_regs ..)) F i

/-- The answers that find no request, and those that find the one outstanding. -/
theorem remoteAnswers_results (s : State) (k : Fin 6) (res : MemRes) {m : List Byte} {r : List (List Byte)}
    (hin : (s.link k).inbox = m :: r) (hown : numAt m 2 1 = s.ownPkg) :
    let src := numAt m 3 1
    let late := fun u : State => u.acre = s.acre ∧ u.threads = s.threads ∧
      u.f SWT_LATE.COUNT 0 = (if s.f SWT_LATE.COUNT 0 + 1 < 2 ^ 32 then s.f SWT_LATE.COUNT 0 + 1 else s.f SWT_LATE.COUNT 0)
    let mine := fun (id : Nat) (read : Bool) (x : SwReq) => x.dst = src && x.id = id && x.read = read && x.sent.isSome
    (numAt m 0 1 = 0x27 → s.acre.reqs.find? (mine (numAt m 6 4) false) = none → answers (.ack k) s late) ∧
    (numAt m 0 1 = 0x28 → s.acre.reqs.find? (mine (numAt m 6 4) false) = none → answers (.atomr k) s late) ∧
    (numAt m 0 1 = 0x23 → s.acre.reqs.find? (mine (numAt m 6 2) true) = none → answers (.rdrsp k res) s late) ∧
    (∀ x, s.acre.reqs = [x] → s.on SWT_DIR.PENDING src = false →
      (∀ h op, mine (numAt m 6 4) false x = true → numAt m 10 1 < 2 → x.use = .store h op → numAt m 0 1 = 0x27 →
        answers (.ack k) s fun u => u.acre.reqs = [] ∧ u.thread h = (s.thread h).dropPosted (globalPa x.dst x.addr)) ∧
      (∀ h op, mine (numAt m 6 4) false x = true → numAt m 10 1 < 2 → x.use = .atomic h → (s.thread h).hold = some (.atomic op) →
        numAt m 0 1 = 0x28 → s.locked (coreOf h) = false →
        answers (.atomr k) s fun u => u.acre.reqs = [] ∧ (u.thread h).hold ≠ some (.atomic op)) ∧
      (∀ h op, mine (numAt m 6 2) true x = true → numAt m 0 1 = 0x23 → numAt m 8 1 = 0 → x.use = .load h →
        (s.thread h).hold = some (.load op) → s.locked (coreOf h) = false →
        answers (.rdrsp k res) s fun u => u.acre.reqs = [] ∧ (u.thread h).hold ≠ some (.load op))) := by
  intro src late mine
  have hack : ∀ htype : numAt m 0 1 = 0x27,
      exec (.ack k) s = .next { (s.swTaken k m r .ok).swAnswer m 0 with res := .ok } := fun htype =>
    (exec_ack ..).trans (State.swMsg_here hin hown htype ..)
  have hatomr : ∀ htype : numAt m 0 1 = 0x28,
      exec (.atomr k) s = .next { (s.swTaken k m r .ok).swAnswer m (numAt m 16 8) with res := .ok } := fun htype =>
    (exec_atomr ..).trans (State.swMsg_here hin hown htype ..)
  have hlate : ∀ q, late { (s.swTaken k m r q).swLate with res := .ok } := fun q => State.swLate_leaves (s.swTaken k m r q)
  have hres : ∀ (u : State) (P : State → Prop), (∀ u : State, P u → P { u with res := .ok }) → u.acre.reqs = [] ∧ P u →
      ({ u with res := .ok } : State).acre.reqs = [] ∧ P { u with res := .ok } := fun u P hP h => ⟨h.1, hP u h.2⟩
  refine ⟨fun htype hn => ⟨_, hack htype, ?_⟩, fun htype hn => ⟨_, hatomr htype, ?_⟩,
    fun htype hn => ⟨_, execRdrsp_late hin hown htype hn res, hlate res⟩, fun x hr hp => ⟨?_, ?_, ?_⟩⟩
  · rw [State.swAnswer_late (t := s.swTaken k m r .ok) hn 0]
    exact hlate .ok
  · rw [State.swAnswer_late (t := s.swTaken k m r .ok) hn]
    exact hlate .ok
  · intro h op hm hok hu htype
    refine ⟨_, hack htype, hres _ (fun u => u.thread h = (s.thread h).dropPosted (globalPa x.dst x.addr)) (fun _ e => e) ?_⟩
    have hd : ((s.swTaken k m r .ok).setReqs []).swDone x 0 =
        ((s.swTaken k m r .ok).setReqs []).modThread h fun t => t.dropPosted (globalPa x.dst x.addr) := by
      unfold State.swDone
      rw [hu]
    rw [State.swAnswer_done (t := s.swTaken k m r .ok) hr hm hok, hd, State.routeRetry_idle ((State.on_modThread ..).trans
      ((State.swTaken_on ..).trans hp))]
    exact ⟨rfl, (State.thread_modThread_self ..).trans (congrArg (fun t : Thread => t.dropPosted _) (State.swTaken_thread ..))⟩
  · intro h op hm hok hu ho htype hl
    refine ⟨_, hatomr htype, hres _ (fun u => (u.thread h).hold ≠ some (.atomic op)) (fun _ e => e) ?_⟩
    have hd : ((s.swTaken k m r .ok).setReqs []).swDone x (numAt m 16 8) =
        ((s.swTaken k m r .ok).setReqs []).farAtomicDone h (numAt m 16 8) := by
      unfold State.swDone
      rw [hu]
    obtain ⟨ha, hf, hh⟩ := State.farAtomicDone_ends (t := (s.swTaken k m r .ok).setReqs []) (op := op)
      ((congrArg Thread.hold (State.swTaken_thread ..)).trans ho) ((State.swTaken_locked ..).trans hl) (numAt m 16 8)
    rw [State.swAnswer_done (t := s.swTaken k m r .ok) hr hm hok, hd, State.routeRetry_idle (((hf _ _).trans (State.swTaken_on ..)).trans hp)]
    exact ⟨congrArg Acre.reqs ha, by rw [hh]; exact nofun⟩
  · intro h op hm htype hok hu ho hl
    refine ⟨_, execRdrsp_loads hin hown htype hr hm hok hu res,
      hres _ (fun u => (u.thread h).hold ≠ some (.load op)) (fun _ e => e) ?_⟩
    obtain ⟨ha, hf, hh⟩ := State.farLoaded_ends (t := (s.swTaken k m r res).setReqs []) (op := op)
      ((congrArg Thread.hold (State.swTaken_thread ..)).trans ho) ((State.swTaken_locked ..).trans hl) (m.drop 16)
    rw [State.routeRetry_idle (((hf _ _).trans (State.swTaken_on ..)).trans hp)]
    exact ⟨congrArg Acre.reqs ha, by rw [hh]; exact nofun⟩

theorem State.bindMisses_iff (s : State) (m : List Byte) : s.bindMisses m = true ↔ s.bndGlobal (numAt m 10 1) = false ∨
    s.f BND_OP_ACRE.HOME (numAt m 10 1) ≠ s.ownPkg ∨ s.bndSlots (numAt m 10 1) ≤ numAt m 12 2 ∨
    s.bndElems (numAt m 10 1) ≤ numAt m 14 2 := by
  simp [State.bindMisses, or_assoc]

/-- A failed round shows in STAT, also once the message is acknowledged. -/
theorem State.failed_acked {u : State} {n : Nat} (h : u.on BND_OP_STAT.FAILED n = true) (src id result : Nat) :
    (u.swAck src id result).on BND_OP_STAT.FAILED n = true := (State.swAck_on u src id result rfl n).trans h

/-- Taking a message and seeing its ID leaves registers and Binder's operations alone. -/
theorem State.seen_f (s : State) (k : Nat) (m : List Byte) (r : List (List Byte)) (res : MemRes) (F : Fld) (i : Nat) :
    ((s.swTaken k m r res).seen m).f F i = s.f F i :=
  State.f_of_regs ((State.setPeer_regs ..).trans (State.swTaken_regs ..)) F i

theorem State.seen_on (s : State) (k : Nat) (m : List Byte) (r : List (List Byte)) (res : MemRes) (F : Fld) (i : Nat) :
    ((s.swTaken k m r res).seen m).on F i = s.on F i := by
  unfold State.on
  rw [State.seen_f]

theorem State.seen_bndOp (s : State) (k : Nat) (m : List Byte) (r : List (List Byte)) (res : MemRes) (n : Nat) :
    ((s.swTaken k m r res).seen m).bndOp n = s.bndOp n := by
  unfold State.bndOp
  rfl

theorem State.seen_bndGlobal (s : State) (k : Nat) (m : List Byte) (r : List (List Byte)) (res : MemRes) (n : Nat) :
    ((s.swTaken k m r res).seen m).bndGlobal n = s.bndGlobal n := by
  unfold State.bndGlobal
  rw [State.seen_on, State.seen_on]

theorem State.seen_bndElems (s : State) (k : Nat) (m : List Byte) (r : List (List Byte)) (res : MemRes) (n : Nat) :
    ((s.swTaken k m r res).seen m).bndElems n = s.bndElems n := by
  unfold State.bndElems
  rw [State.seen_f]

theorem State.seen_bindMisses (s : State) (k : Nat) (m : List Byte) (r : List (List Byte)) (res : MemRes) :
    ((s.swTaken k m r res).seen m).bindMisses m = s.bindMisses m := by
  unfold State.bindMisses State.ownPkg State.swDim State.bndSlots
  simp only [State.seen_f, State.seen_bndGlobal, State.seen_bndElems]

/-- The messages of Binder: what is refused, what is taken, and what fails a round. -/
theorem remoteBinder_results (s : State) (k : Fin 6) (res : MemRes) {m : List Byte} {r : List (List Byte)}
    (hin : (s.link k).inbox = m :: r) (hown : numAt m 2 1 = s.ownPkg) :
    let src := numAt m 3 1
    let id := numAt m 6 4
    let n := numAt m 10 1
    let flags := numAt m 11 1
    let slot := numAt m 12 2
    let first := numAt m 14 2
    let global := n < 64 ∧ s.on BND_OP_CTL.V n = true ∧ s.on BND_OP_ACRE.GLOBAL n = true
    let refused := fun u : State => u.granary = s.granary ∧ u.bnd = s.bnd ∧ (u.peer src).done = ((s.peer src).see id).done
    let taken := fun u : State => (u.peer src).done.contains id = true
    (numAt m 0 1 = 0x2B →
      (flags.testBit 0 = true → ¬(global ∧ first < s.bndElems n) → answers (.bind k res) s refused) ∧
      (flags.testBit 0 = true → global → first < s.bndElems n → answers (.bind k res) s taken) ∧
      (flags.testBit 0 = false → flags.testBit 1 = true → answers (.bind k res) s fun u => taken u ∧
        (global → u.on BND_OP_STAT.FAILED n = true)) ∧
      (flags.testBit 0 = false → flags.testBit 1 = false → 64 ≤ n → answers (.bind k res) s refused) ∧
      (flags.testBit 0 = false → flags.testBit 1 = false → global →
        (s.f BND_OP_ACRE.HOME n ≠ s.ownPkg ∨ s.bndSlots n ≤ slot ∨ s.bndElems n ≤ first → answers (.bind k res) s fun u =>
          u.on BND_OP_STAT.FAILED n = true) ∧
        (s.f BND_OP_ACRE.HOME n = s.ownPkg → slot < s.bndSlots n → first < s.bndElems n →
          s.on BND_OP_STAT.FAILED n = false → first + 8 < s.bndElems n → (s.bndOp n).partials = [] →
          answers (.bind k res) s fun u => taken u ∧ (List.range 8).all (fun i =>
            find (slot * 4096 + first + i) (u.bndOp n).partials = some (numAt m (16 + 8 * i) 8)) = true))) ∧
    (numAt m 0 1 = 0x2C → (¬global → answers (.bdone k res) s refused) ∧ (global → answers (.bdone k res) s taken)) := by
  intro src id n flags slot first global refused taken
  have hbind : ∀ htype : numAt m 0 1 = 0x2B, _ := fun htype => exec_bind_here hin hown res htype
  have hbdone : ∀ htype : numAt m 0 1 = 0x2C, _ := fun htype => exec_bdone_here hin hown res htype
  have hglobal : s.bndGlobal n = true ↔ global := s.bndGlobal_iff n
  have hrefused : refused { ((s.swTaken k m r res).seen m).swAck src id 2 with res := .ok } :=
    State.refused_leaves s k m r res
  have hG : ((s.swTaken k m r res).seen m).bndGlobal n = s.bndGlobal n := State.seen_bndGlobal ..
  have hE : ((s.swTaken k m r res).seen m).bndElems n = s.bndElems n := State.seen_bndElems ..
  have hM : ((s.swTaken k m r res).seen m).bindMisses m = s.bindMisses m := State.seen_bindMisses ..
  have hF : ((s.swTaken k m r res).seen m).on BND_OP_STAT.FAILED n = s.on BND_OP_STAT.FAILED n := State.seen_on ..
  have hV : ((s.swTaken k m r res).seen m).on BND_OP_CTL.V n = s.on BND_OP_CTL.V n := State.seen_on ..
  have hP : ((s.swTaken k m r res).seen m).bndOp n = s.bndOp n := State.seen_bndOp ..
  have htaken : ∀ w : State, taken { (w.markDone src id).swAck src id 0 with res := .ok } := fun w =>
    w.marked_done src id 0
  have hok : ∀ w : State, w.on BND_OP_STAT.FAILED n = true → ({ w with res := .ok } : State).on BND_OP_STAT.FAILED n = true :=
    fun _ h => h
  generalize (s.swTaken k m r res).seen m = v at hbind hbdone hrefused hG hE hM hF hV hP
  refine ⟨fun htype => ⟨fun h0 hg => ⟨_, hbind htype, ?_⟩, fun h0 hg he => ⟨_, hbind htype, ?_⟩,
    fun h0 h1 => ⟨_, hbind htype, ?_⟩, fun h0 h1 hn => ⟨_, hbind htype, ?_⟩, fun h0 h1 hg =>
      ⟨fun hm => ⟨_, hbind htype, ?_⟩, fun hh hs he hfl hlast hp => ⟨_, hbind htype, ?_⟩⟩⟩,
    fun htype => ⟨fun hg => ⟨_, hbdone htype, ?_⟩, fun hg => ⟨_, hbdone htype, ?_⟩⟩⟩
  · rw [State.bindActs_refuses_result h0 (by rw [hG, hE, hglobal]; exact hg)]
    exact hrefused
  · rw [State.bindActs_marks_result h0 (hG.trans (hglobal.mpr hg)) (hE ▸ he)]
    exact htaken _
  · rw [State.bindActs_fails h0 h1]
    refine ⟨htaken _, fun hg => hok _ (State.failed_acked ?_ ..)⟩
    rw [if_pos (hG.trans (hglobal.mpr hg))]
    exact State.bndRoundFails_failed ..
  · have hng : s.bndGlobal n = false := by
      rw [Bool.eq_false_iff, Ne, hglobal]
      exact fun h => absurd h.1 (by omega)
    have hd : ¬ (decide (n < 64) && v.on BND_OP_CTL.V n) = true := by simp [hn]
    rw [State.bindActs_misses h0 h1 (hM.trans ((s.bindMisses_iff m).mpr (.inl hng))), if_neg hd]
    exact hrefused
  · have hd : (decide (n < 64) && v.on BND_OP_CTL.V n) = true := by simp [hV, hg.1, hg.2.1]
    rw [State.bindActs_misses h0 h1 (hM.trans ((s.bindMisses_iff m).mpr (.inr hm))), if_pos hd]
    exact hok _ (State.failed_acked (State.bndRoundFails_failed ..) ..)
  · have hm : s.bindMisses m = false := by
      rw [Bool.eq_false_iff, Ne, State.bindMisses_iff]
      rintro (h | h | h | h)
      · exact absurd (hglobal.mpr hg) (by simp [h, n])
      · exact h hh
      · exact absurd h (Nat.not_le.mpr hs)
      · exact absurd h (Nat.not_le.mpr he)
    rw [State.bindActs_takes h0 h1 (hM.trans hm) (hF.trans hfl)]
    refine ⟨htaken _, List.all_eq_true.mpr fun i hi => decide_eq_true ?_⟩
    have hi := List.mem_range.mp hi
    have hkept := State.bindIn_keeps (s := v) (slot := slot) (vals := bindVals m) (hE ▸ hlast) ((congrArg BndOp.partials hP).trans hp)
    have hop : ∀ w : State, (({ (w.markDone src id).swAck src id 0 with res := .ok } : State).bndOp n) = w.bndOp n := fun w =>
      (State.swAck_bndOp ..).trans rfl
    rw [hop, hkept, find_keepFrom _ _ hi]
    simp [bindVals, hi]
  · have hng : s.bndGlobal n = false := by
      rw [Bool.eq_false_iff, Ne, hglobal]
      exact hg
    rw [State.bdoneActs_refused (hG.trans hng)]
    exact hrefused
  · exact State.bdoneActs_done (hG.trans (hglobal.mpr hg))

/-- Settles O47: each message is followed from its link through the model's own function for it. A request that is held
stays; a store goes by the sender's record of IDs; an answer by the list of requests; Binder's messages by the operation
that they name. -/
theorem remoteAccessResults : Obligations.RemoteAccessResults := by
  unfold Obligations.RemoteAccessResults
  refine ⟨fun s k res => ?_, fun s k res => ?_, fun s k res => ?_⟩
  · cases hin : (s.link k).inbox with
    | nil => trivial
    | cons m r =>
      intro hown src plot id addr done t seen next
      obtain ⟨hread, hatom⟩ := remoteRequests_results s k res hin hown
      refine ⟨fun hh => (exec_rdreq ..).trans (if_pos hh), fun hh => ⟨(exec_wr ..).trans (if_pos hh),
        (exec_wr64 ..).trans (if_pos hh), (exec_atom ..).trans (if_pos hh)⟩, fun htype hh => ?_, fun hh i type n b hi htype hlen => ?_,
        fun htype hh => ?_⟩
      · obtain ⟨hno, hyes⟩ := hread htype hh
        refine ⟨fun hm => hno hm, fun hm => (hyes hm).trans ?_⟩
        change _ = match (s.swTaken k m r res).farRead (numAt m 8 6) (farReadLen m) with
          | (some (b, false), u) => _
          | (some (_, true), u) => _
          | (none, u) => _
        rcases (s.swTaken k m r res).farRead (numAt m 8 6) (farReadLen m) with ⟨_ | ⟨old, _ | _⟩, u⟩ <;> rfl
      · have hexec : exec i s = .next { (s.swTaken k m r res).farStore m b with res := .ok } := by
          simp only [List.mem_cons, Prod.mk.injEq, List.not_mem_nil, or_false] at hi
          obtain ⟨rfl, rfl, rfl, rfl⟩ | ⟨rfl, rfl, rfl, rfl⟩ := hi
          · exact exec_wr_here hin hown htype hh res
          · exact exec_wr64_here hin hown htype hh res
        obtain ⟨hagain, hno, hyes⟩ := farStore_results hexec
        subst hlen
        refine ⟨hagain, hno, fun hd hm => (hyes hd hm).trans ?_⟩
        change _ = match ((s.swTaken k m r res).seen m).farWrite (numAt m 10 6) b with
          | (true, u) => _
          | (false, u) => _
        rcases ((s.swTaken k m r res).seen m).farWrite (numAt m 10 6) b with ⟨_ | _, u⟩ <;> rfl
      · obtain ⟨hagain, hnone, hsome⟩ := hatom htype hh
        refine ⟨hagain, fun hd => ?_⟩
        cases ho : atomOp (numAt m 16 1) with
        | none => exact hnone hd ho
        | some op =>
          obtain ⟨hno, hyes⟩ := hsome op hd ho
          refine ⟨hno, fun hm => (hyes hm).trans ?_⟩
          change _ = match ((s.swTaken k m r res).seen m).farRead (numAt m 10 6) (farAtomLen m) with
            | (none, u) => _
            | (some (_, true), u) => _
            | (some (b, false), u) => _
          rcases ((s.swTaken k m r res).seen m).farRead (numAt m 10 6) (farAtomLen m) with ⟨_ | ⟨old, _ | _⟩, u⟩
          · rfl
          · change _ = match (farAtom m op).result (leNat old) with
              | some v => _
              | none => _
            unfold farAtomRuns State.farAtomWrites
            dsimp only
            rcases (farAtom m op).result (leNat old) with _ | v <;> rfl
          · rfl
  · cases hin : (s.link k).inbox with
    | nil => trivial
    | cons m r =>
      intro hown src late mine
      obtain ⟨hack, hatomr, hrdrsp, hone⟩ := remoteAnswers_results s k res hin hown
      refine ⟨hack, hatomr, hrdrsp, ?_⟩
      rcases hr : s.acre.reqs with _ | ⟨x, _ | ⟨y, l⟩⟩
      · trivial
      · intro hp
        obtain ⟨hstore, hatomic, hload⟩ := hone x hr hp
        refine ⟨fun hm hok => ?_, fun hm htype hok => ?_⟩
        · split
          next h op hu => exact fun htype => hstore h op hm hok hu htype
          next h hu =>
            split
            next op ho => exact fun htype hl => hatomic h op hm hok hu ho htype hl
            next => trivial
          next => trivial
        · split
          next h hu =>
            split
            next op ho => exact fun hl => hload h op hm htype hok hu ho hl
            next => trivial
          next => trivial
      · trivial
  · cases hin : (s.link k).inbox with
    | nil => trivial
    | cons m r => exact fun hown => remoteBinder_results s k res hin hown

end Sys2Proof.Machine
end

section
/-! PROOF. What a lease hands over: cores, channels and extents (R317, R318). -/

namespace Sys2Proof.Machine

theorem eraseDups_of_nodup {α : Type} [BEq α] [LawfulBEq α] {l : List α} (h : l.Nodup) : l.eraseDups = l := by
  induction l with
  | nil => rfl
  | cons a l ih =>
    obtain ⟨ha, hl⟩ := List.nodup_cons.mp h
    have hf : l.filter (fun b => !b == a) = l := List.filter_eq_self.mpr fun b hb => by
      have hne : b ≠ a := fun e => ha (e ▸ hb)
      simp [hne]
    rw [List.eraseDups_cons, hf, ih hl]

/-! ### Cache maintenance -/

/-- What cache maintenance leaves of a core. -/
def Core.bones (c : Core) : Option Nat × Bool × List TlbEntry × List TlbEntry × List TlbEntry :=
  (c.lease, c.gated, c.itlb, c.dtlb, c.tlb)

/-- Between two states only lines have moved: the channels' states and the cores' leases and TLBs are as they were. -/
structure State.LinesOnly (s u : State) : Prop where
  channels : u.channels = s.channels
  bones : ∀ n, (u.core n).bones = (s.core n).bones

theorem State.LinesOnly.refl (s : State) : s.LinesOnly s := ⟨rfl, fun _ => rfl⟩

theorem State.LinesOnly.trans {s t u : State} (h : s.LinesOnly t) (g : t.LinesOnly u) : s.LinesOnly u :=
  ⟨g.channels.trans h.channels, fun n => (g.bones n).trans (h.bones n)⟩

theorem foldl_linesOnly {α : Type} {f : State → α → State} (hf : ∀ (s : State) a, s.LinesOnly (f s a)) (l : List α) :
    ∀ s : State, s.LinesOnly (l.foldl f s) := by
  induction l with
  | nil => exact fun s => .refl s
  | cons a l ih => exact fun s => (hf s a).trans (ih _)

theorem State.LinesOnly.of_keep {s u : State} (h : u.keep (among [.cores, .granary, .blk .GRN]) =
    s.keep (among [.cores, .granary, .blk .GRN])) : s.LinesOnly u :=
  ⟨channels_of_keep h rfl rfl, fun n => congrArg Core.bones (core_of_keep h rfl n)⟩

/-- An operation that keeps the cores keeps what lines leave of them. -/
theorem State.LinesOnly.of_cores {s u : State} (hc : u.channels = s.channels) (h : u.cores = s.cores) : s.LinesOnly u :=
  ⟨hc, fun n => congrArg (fun l => (findD {} n l).bones) h⟩

theorem State.invalidateCore_lines (s : State) (line n : Nat) : s.LinesOnly (s.invalidateCore line n) := by
  unfold State.invalidateCore
  split
  · refine ⟨rfl, fun k => ?_⟩
    by_cases e : k = n
    · rw [e, State.core_setCore_self]
      rfl
    · rw [State.core_setCore_ne _ e]
  · exact .refl s

theorem State.fcDrop_lines (s : State) (f k : Nat) (x : FcLine) : s.LinesOnly (s.fcDrop f k x) :=
  (foldl_linesOnly (fun s n => s.invalidateCore_lines x.line n) (furrowCores f) s).trans ⟨rfl, fun _ => rfl⟩

theorem State.writeBack_lines (s : State) (x : FcLine) : s.LinesOnly (s.writeBack x) :=
  .of_cores (s.writeBack_channels x) (cores_of_keep (State.writeBack_keep (m := Facet.only .cores) rfl rfl rfl rfl rfl s x) rfl)

theorem State.fcEvict_lines (s : State) (f k : Nat) : s.LinesOnly (s.fcEvict f k) := by
  unfold State.fcEvict
  split
  · exact .refl s
  next x _ =>
    refine .trans ?_ (State.fcDrop_lines _ f k x)
    split
    · exact s.writeBack_lines x
    · exact .refl s

theorem State.recallFrom_lines (s : State) (line f : Nat) : s.LinesOnly (s.recallFrom line f) := by
  unfold State.recallFrom
  split
  · exact .refl s
  · exact s.fcEvict_lines f _

theorem State.recall_lines (s : State) (line : Nat) : s.LinesOnly (s.recall line) :=
  foldl_linesOnly (fun s f => s.recallFrom_lines line f) _ s

theorem State.recallChannel_lines (s : State) (c : Nat) : s.LinesOnly (s.recallChannel c) :=
  foldl_linesOnly (fun s l => s.recall_lines l) _ s

theorem State.discard_lines (s : State) (line : Nat) : s.LinesOnly (s.discard line) := by
  unfold State.discard
  refine foldl_linesOnly (fun s f => ?_) _ s
  split
  · exact .refl s
  · exact s.fcDrop_lines f _ _

theorem State.cleanWay_lines (s : State) (k : Nat) : s.LinesOnly (s.cleanWay k) := by
  unfold State.cleanWay
  split
  · exact .refl s
  · split
    · exact (s.writeBack_lines _).trans ⟨rfl, fun _ => rfl⟩
    · exact .refl s

theorem State.cleanCopy_lines (s : State) (line : Nat) (st : Mesi) : s.LinesOnly (s.cleanCopy line st) := by
  unfold State.cleanCopy
  split
  · exact .refl s
  · exact (s.writeBack_lines _).trans ⟨rfl, fun _ => rfl⟩

theorem State.wayAction_lines (s : State) (f k : Nat) (a : CmoAction) : s.LinesOnly (s.wayAction f k a) := by
  unfold State.wayAction
  cases a with
  | clean => exact s.cleanWay_lines k
  | cleanInvalidate => exact s.fcEvict_lines f k
  | invalidate =>
    dsimp only
    split
    · exact .refl s
    · exact s.fcDrop_lines f k _

theorem State.dirUse_lines (s : State) (line : Nat) : s.LinesOnly (s.dirUse line) :=
  .of_keep (State.dirUse_keep rfl s line)

theorem State.lineAction_lines (s : State) (line : Nat) (a : CmoAction) : s.LinesOnly (s.lineAction line a) := by
  unfold State.lineAction
  cases a with
  | clean => exact (s.dirUse_lines line).trans (State.cleanCopy_lines ..)
  | cleanInvalidate => exact (s.dirUse_lines line).trans (State.recall_lines ..)
  | invalidate => exact (s.dirUse_lines line).trans (State.discard_lines ..)

theorem State.setF_lines (s : State) {F : Fld} (h : F.blk ≠ .GRN) (i v : Nat) : s.LinesOnly (s.setF F i v) :=
  .of_keep (State.setF_keep s F (by simpa [among] using h) i v)

/-! ### The range engine -/

theorem State.rangeStep_lines (s : State) (f n : Nat) : s.LinesOnly (s.rangeStep f n) := by
  unfold State.rangeStep
  split
  · exact .refl s
  next r _ =>
    refine .trans (.trans ?_ (State.setF_lines (F := FUR_RNG_DONE.LINES) _ (by decide) f _)) ⟨rfl, fun _ => rfl⟩
    split
    · exact foldl_linesOnly (fun s k => s.wayAction_lines f k r.action) _ s
    · exact foldl_linesOnly (fun s l => s.lineAction_lines l r.action) _ s

theorem State.rangeEnds_lines (s : State) (f : Nat) : s.LinesOnly (s.rangeEnds f) := by
  unfold State.rangeEnds
  split
  · exact .refl s
  · exact ((s.rangeStep_lines f _).trans (State.setF_lines (F := FUR_RNG_CTL.BUSY) _ (by decide) f _)).trans ⟨rfl, fun _ => rfl⟩

theorem State.flushFurrow_lines (s : State) (f : Nat) : s.LinesOnly (s.flushFurrow f) :=
  ((s.rangeEnds_lines f).trans (.of_keep (State.rangeGo_keep rfl rfl _ f 2 true))).trans (State.rangeEnds_lines ..)

end Sys2Proof.Machine
end

section
/-! PROOF. Cores and channels that change hands, and extents that are zeroed (R318). -/

namespace Sys2Proof.Machine

/-! ### Cores -/

/-- Nothing that one plot left in core `n` is there (step 2 of R318). -/
def State.coreClean (u : State) (n : Nat) : Prop :=
  u.seed n = .zeroed ∧ (u.tile n).frags = .zeroed ∧ (u.tile n).silo = .zeroed ∧
    (u.core n).tlb = [] ∧ (u.core n).itlb = [] ∧ (u.core n).dtlb = [] ∧ ∀ h ∈ coreThreads n, (u.thread h).mailbox = []

/-- The parts that hold what a plot left in a core, beside the core itself, and the ledger. -/
def corePart : Facet → Bool := among [.drill, .seedbox, .tiles, .threads, .clk, .por]

theorem seed_of_corePart {s u : State} (h : u.keep corePart = s.keep corePart) (n : Nat) : u.seed n = s.seed n := by
  unfold State.seed
  rw [seedbox_of_keep h rfl, clk_of_keep h rfl rfl]

theorem State.coreClean.of_keep {s u : State} {n : Nat} (hc : s.coreClean n) (h : u.keep corePart = s.keep corePart)
    (hb : (u.core n).bones = (s.core n).bones) : u.coreClean n := by
  obtain ⟨hseed, hfrags, hsilo, htlb, hitlb, hdtlb, hmail⟩ := hc
  simp only [Core.bones, Prod.mk.injEq] at hb
  obtain ⟨-, -, hi, hd, ht⟩ := hb
  have htile : u.tile n = s.tile n := tile_of_keep h rfl rfl rfl n
  refine ⟨(seed_of_corePart h n).trans hseed, htile ▸ hfrags, htile ▸ hsilo, ht.trans htlb, hi.trans hitlb, hd.trans hdtlb,
    fun k hk => ?_⟩
  rw [thread_of_keep h rfl]
  exact hmail k hk

/-- The mailbox of a context is emptied. -/
def Thread.emptied (t : Thread) : Thread := { t with mailbox := [] }

/-- The state in which the contexts of a core have lost their mail. -/
def State.emptied (s : State) (l : List Nat) : State := l.foldl (fun s h => s.modThread h Thread.emptied) s

theorem State.emptied_keep (s : State) (l : List Nat) : (s.emptied l).keep (outside [.threads]) = s.keep (outside [.threads]) :=
  foldl_keep (fun s h => State.modThread_keep rfl s h _) l s

theorem State.emptied_mailbox (l : List Nat) {h : Nat} : ∀ s : State, h ∈ l ∨ (s.thread h).mailbox = [] →
    ((s.emptied l).thread h).mailbox = [] := by
  induction l with
  | nil => exact fun s hs => hs.resolve_left List.not_mem_nil
  | cons a l ih =>
    refine fun s hs => ih _ ?_
    by_cases e : h = a
    · right
      rw [e, State.thread_modThread_self]
      rfl
    · rw [State.thread_modThread_ne _ e]
      exact hs.imp_left fun hm => (List.mem_cons.mp hm).resolve_left e

/-- The tile array of a core, zeroed. -/
def State.zeroTile (s : State) (n : Nat) : TileCore :=
  { frags := .zeroed, silo := .zeroed, spill := .zeroed, nextSeq := (s.tile n).nextSeq }

/-- The state in which a core's memories and mail are zeroed, and its TLBs not yet. -/
def State.zeroMemories (s : State) (n : Nat) : State :=
  ((s.setSeed n .zeroed).setTile n ((s.setSeed n .zeroed).zeroTile n)).emptied (coreThreads n)

theorem State.zeroCore_eq (s : State) (n : Nat) : s.zeroCore n = ((s.zeroMemories n).setCore n
    { (s.zeroMemories n).core n with itlb := [], dtlb := [], tlb := [] }).closeGroups n := rfl

theorem State.zeroMemories_core (s : State) (n k : Nat) : (s.zeroMemories n).core k = s.core k :=
  core_of_keep (State.emptied_keep ..) rfl k

theorem State.zeroMemories_seed (s : State) (n k : Nat) :
    (s.zeroMemories n).seed k = if k = n then .zeroed else s.seed k := by
  have hk := State.emptied_keep ((s.setSeed n .zeroed).setTile n ((s.setSeed n .zeroed).zeroTile n)) (coreThreads n)
  have hs : (s.zeroMemories n).seed k = (s.setSeed n .zeroed).seed k := by
    unfold State.seed
    rw [State.zeroMemories, seedbox_of_keep hk rfl, clk_of_keep hk rfl rfl]
    rfl
  rw [hs]
  split
  next e => rw [e]; exact findD_put_self ..
  next e => exact findD_put_ne e ..

theorem State.zeroMemories_tile (s : State) (n k : Nat) :
    (s.zeroMemories n).tile k = if k = n then (s.setSeed n .zeroed).zeroTile n else s.tile k := by
  have hk := State.emptied_keep ((s.setSeed n .zeroed).setTile n ((s.setSeed n .zeroed).zeroTile n)) (coreThreads n)
  rw [State.zeroMemories, tile_of_keep hk rfl rfl rfl]
  split
  next e => rw [e]; exact findD_put_self ..
  next e => exact findD_put_ne e ..

/-- The registers alone change as a core's groups close. -/
theorem State.zeroCore_bones (s : State) (n k : Nat) :
    ((s.zeroCore n).core k) = if k = n then { s.core n with itlb := [], dtlb := [], tlb := [] } else s.core k := by
  rw [State.zeroCore_eq, core_of_keep (State.closeGroups_keep (m := among [.cores]) rfl ..) rfl]
  split
  next e => rw [e, State.core_setCore_self, State.zeroMemories_core]
  next e => rw [State.core_setCore_ne _ e, State.zeroMemories_core]

theorem State.zeroCore_part (s : State) (n : Nat) : (s.zeroCore n).keep corePart = (s.zeroMemories n).keep corePart := by
  rw [State.zeroCore_eq, State.closeGroups_keep (m := corePart) rfl, State.setCore_keep rfl]

/-- A core's lease and power stay as they are. -/
theorem State.zeroCore_lease (s : State) (n k : Nat) : ((s.zeroCore n).core k).lease = (s.core k).lease ∧
    ((s.zeroCore n).core k).gated = (s.core k).gated := by
  rw [State.zeroCore_bones]
  split
  next e => rw [e]; exact ⟨rfl, rfl⟩
  next => exact ⟨rfl, rfl⟩

/-- A core that is zeroed is clean, and a clean one stays so. -/
theorem State.zeroCore_clean (s : State) {n k : Nat} (h : k = n ∨ s.coreClean k) : (s.zeroCore n).coreClean k := by
  have hpart := s.zeroCore_part n
  have hseed := seed_of_corePart hpart k
  have htile : (s.zeroCore n).tile k = (s.zeroMemories n).tile k := tile_of_keep hpart rfl rfl rfl k
  have hthread : ∀ j, (s.zeroCore n).thread j = (s.zeroMemories n).thread j := fun j =>
    thread_of_keep hpart rfl j
  rw [State.zeroMemories_seed] at hseed
  rw [State.zeroMemories_tile] at htile
  have hcore := s.zeroCore_bones n k
  have hmail : ∀ j ∈ coreThreads k, ((s.zeroCore n).thread j).mailbox = [] := fun j hj => by
    rw [hthread]
    refine State.emptied_mailbox _ _ ?_
    rcases h with rfl | ⟨-, -, -, -, -, -, hempty⟩
    · exact .inl hj
    · exact .inr (hempty j hj)
  by_cases e : k = n
  · rw [if_pos e] at hseed htile hcore
    refine ⟨hseed, ?_, ?_, ?_, ?_, ?_, hmail⟩
    · rw [htile]; rfl
    · rw [htile]; rfl
    · rw [hcore]
    · rw [hcore]
    · rw [hcore]
  · rw [if_neg e] at hseed htile hcore
    obtain ⟨hs, hf, hl, ht, hi, hd, -⟩ := h.resolve_left e
    refine ⟨hseed.trans hs, ?_, ?_, ?_, ?_, ?_, hmail⟩
    · rw [htile, hf]
    · rw [htile, hl]
    · rw [hcore, ht]
    · rw [hcore, hi]
    · rw [hcore, hd]

theorem foldl_zeroCore_clean (l : List Nat) {k : Nat} : ∀ s : State, k ∈ l ∨ s.coreClean k →
    (l.foldl (fun s n => s.zeroCore n) s).coreClean k := by
  induction l with
  | nil => exact fun s h => h.resolve_left List.not_mem_nil
  | cons a l ih =>
    intro s h
    rw [List.foldl_cons]
    refine ih _ ?_
    rcases h with hm | hc
    · rcases List.mem_cons.mp hm with e | hm
      · exact .inr (s.zeroCore_clean (.inl e))
      · exact .inl hm
    · exact .inr (s.zeroCore_clean (.inr hc))

theorem foldl_zeroCore_lease (l : List Nat) (k : Nat) : ∀ s : State,
    ((l.foldl (fun s n => s.zeroCore n) s).core k).lease = (s.core k).lease ∧
    ((l.foldl (fun s n => s.zeroCore n) s).core k).gated = (s.core k).gated := by
  induction l with
  | nil => exact fun s => ⟨rfl, rfl⟩
  | cons a l ih =>
    intro s
    rw [List.foldl_cons]
    obtain ⟨hl, hg⟩ := ih (s.zeroCore a)
    obtain ⟨hl', hg'⟩ := s.zeroCore_lease a k
    exact ⟨hl.trans hl', hg.trans hg'⟩

/-! ### Waking and leasing cores -/

theorem State.wakeContexts_core (s : State) (l : List Nat) (k : Nat) :
    (l.foldl (fun s h => s.wakeContext h) s).core k = s.core k := by
  refine core_of_keep (m := among [.cores]) (foldl_keep (fun u h => ?_) l s) rfl k
  exact (State.trUnsync_keep rfl ..).trans (State.setThread_keep rfl ..)

theorem State.wakeArrays_core (s : State) (n k : Nat) : (s.wakeArrays n).core k = s.core k := rfl

theorem State.wakeRest_core_ne (s : State) {n k : Nat} (h : k ≠ n) : (s.wakeRest n).core k = s.core k :=
  State.core_setCore_ne s h _

/-- A core that wakes is not gated, and no other core changes. -/
theorem State.wakeCore_gated (s : State) {n k : Nat} (h : k = n ∨ (s.core k).gated = false) :
    ((s.wakeCore n).core k).gated = false := by
  cases hg : (s.core n).gated with
  | false =>
    have hs : s.wakeCore n = s := by simp [State.wakeCore, hg]
    rw [hs]
    rcases h with rfl | h
    · exact hg
    · exact h
  | true =>
    rw [State.wakeCore_eq hg]
    by_cases e : k = n
    · rw [e]
      exact State.wakeRest_core ..
    · rw [State.wakeRest_core_ne _ e, State.wakeArrays_core, State.wakeContexts_core]
      exact h.resolve_left e

theorem foldl_wakeCore_gated (l : List Nat) {k : Nat} : ∀ s : State, k ∈ l ∨ (s.core k).gated = false →
    ((l.foldl (fun s n => s.wakeCore n) s).core k).gated = false := by
  induction l with
  | nil => exact fun s h => h.resolve_left List.not_mem_nil
  | cons a l ih =>
    intro s h
    rw [List.foldl_cons]
    refine ih _ ?_
    rcases h with hm | hc
    · rcases List.mem_cons.mp hm with e | hm
      · exact .inr (s.wakeCore_gated (.inl e))
      · exact .inl hm
    · exact .inr (s.wakeCore_gated (.inr hc))

/-- The cores of a list have a lease. -/
def State.leaseCores (s : State) (p : Option Nat) (l : List Nat) : State :=
  l.foldl (fun s n => s.setCore n { s.core n with lease := p }) s

theorem State.leaseCores_core (p : Option Nat) (l : List Nat) (k : Nat) : ∀ s : State,
    (k ∈ l ∨ (s.core k).lease = p → ((s.leaseCores p l).core k).lease = p) ∧
      ((s.leaseCores p l).core k).gated = (s.core k).gated := by
  induction l with
  | nil => exact fun s => ⟨fun h => h.resolve_left List.not_mem_nil, rfl⟩
  | cons a l ih =>
    intro s
    have hstep : s.leaseCores p (a :: l) = (s.setCore a { s.core a with lease := p }).leaseCores p l := rfl
    rw [hstep]
    obtain ⟨hl, hg⟩ := ih (s.setCore a { s.core a with lease := p })
    by_cases e : k = a
    · subst e
      rw [State.core_setCore_self] at hl hg
      exact ⟨fun _ => hl (.inr rfl), hg⟩
    · rw [State.core_setCore_ne _ e] at hl hg
      exact ⟨fun h => hl (h.imp_left fun hm => (List.mem_cons.mp hm).resolve_left e), hg⟩

end Sys2Proof.Machine
end

section
/-! PROOF. Channels that leave their interleave sets, and extents that are zeroed (R280, R318). -/

namespace Sys2Proof.Machine

/-! ### Withdrawals -/

theorem State.chanMove_setMove_ne (s : State) {c d : Nat} (h : d ≠ c) (m : ChanMove) : (s.setMove c m).chanMove d = s.chanMove d :=
  findD_putD_ne h ..

/-- A mode request leaves what lines leave of a core. -/
theorem State.modeReq_bones (s : State) (c target n : Nat) : ((s.modeReq c target).core n).bones = (s.core n).bones := by
  unfold State.modeReq
  dsimp only
  split
  · rfl
  · split
    · exact (State.recallChannel_lines ..).bones n
    · rfl
    · rfl
    · split <;> rfl
    · rfl

/-- The channel's withdrawal has started. -/
def State.withdraws (s : State) (c : Nat) : Prop := s.chanMove c = .withdrawing ∧ s.on GRN_STATE.BUSY c = true

/-- A withdrawal of a member channel: its transition starts, and every other channel's stays as it is. -/
theorem State.modeReq_withdraws {s : State} {c : Nat} (hm : s.f GRN_STATE.MODE c = 0) (hb : s.on GRN_STATE.BUSY c = false) :
    (s.modeReq c 1).withdraws c ∧
    (∀ d, d ≠ c → (s.modeReq c 1).chanMove d = s.chanMove d ∧ (s.modeReq c 1).on GRN_STATE.BUSY d = s.on GRN_STATE.BUSY d) ∧
    ∀ d, (s.modeReq c 1).f GRN_STATE.MODE d = s.f GRN_STATE.MODE d := by
  have hch := State.modeReq_starts (s := s) (c := c) (target := 1) (by decide) ⟨hb, .inl ⟨hm, rfl⟩⟩
  rw [hm] at hch
  have hmove : moveOf 0 1 = .withdrawing := rfl
  rw [hmove] at hch
  refine ⟨⟨(chanMove_of_channels hch c).trans (State.chanMove_startMove ..),
    (on_of_channels hch rfl c).trans (State.on_setOn_self _ rfl c true)⟩, fun d hd => ⟨?_, ?_⟩, fun d => ?_⟩
  · exact (chanMove_of_channels hch d).trans (s.chanMove_setMove_ne hd _)
  · exact (on_of_channels hch rfl d).trans (State.on_setOn_ne (s.setMove c .withdrawing) (fun h => hd (Fld.key_inj h)) true)
  · exact (f_of_channels hch rfl d).trans (State.f_setOn_apart (s.setMove c .withdrawing) (F := GRN_STATE.BUSY) (by decide) c d true)

/-- The withdrawals of a lease start together. -/
theorem foldl_withdraws (l : List Nat) : ∀ s : State, l.Nodup →
    (∀ c ∈ l, s.f GRN_STATE.MODE c = 0 ∧ s.on GRN_STATE.BUSY c = false) →
    (∀ c, c ∈ l ∨ s.withdraws c → (l.foldl (fun s c => s.modeReq c 1) s).withdraws c) ∧
    (∀ c, (l.foldl (fun s c => s.modeReq c 1) s).f GRN_STATE.MODE c = s.f GRN_STATE.MODE c) ∧
    ∀ n, ((l.foldl (fun s c => s.modeReq c 1) s).core n).bones = (s.core n).bones := by
  induction l with
  | nil => exact fun s _ _ => ⟨fun c h => h.resolve_left List.not_mem_nil, fun _ => rfl, fun _ => rfl⟩
  | cons a l ih =>
    intro s hnd hl
    obtain ⟨ha, hnd⟩ := List.nodup_cons.mp hnd
    obtain ⟨hm, hb⟩ := hl a List.mem_cons_self
    obtain ⟨hstarts, hothers, hmodes⟩ := State.modeReq_withdraws hm hb
    rw [List.foldl_cons]
    obtain ⟨hw, hmode, hbones⟩ := ih (s.modeReq a 1) hnd fun c hc => by
      obtain ⟨hmc, hbc⟩ := hl c (List.mem_cons_of_mem _ hc)
      have hne : c ≠ a := fun e => ha (e ▸ hc)
      exact ⟨(hmodes c).trans hmc, (hothers c hne).2.trans hbc⟩
    refine ⟨fun c h => hw c ?_, fun c => (hmode c).trans (hmodes c), fun n => (hbones n).trans (s.modeReq_bones a 1 n)⟩
    by_cases e : c = a
    · exact .inr (e ▸ hstarts)
    · refine h.imp (fun hc => (List.mem_cons.mp hc).resolve_left e) fun h => ?_
      obtain ⟨hmv, hbs⟩ := hothers c e
      exact ⟨hmv.trans h.1, hbs.trans h.2⟩

/-! ### Extents -/

/-- The cached copies of extents' lines go. -/
def State.dropExtents (s : State) (xs : List Nat) : State :=
  (s.cachedLines.filter fun l => xs.contains (l * 64 / 0x200000)).foldl (fun s l => s.discard l) s

theorem State.dropExtents_lines (s : State) (xs : List Nat) : s.LinesOnly (s.dropExtents xs) :=
  foldl_linesOnly (fun s l => s.discard_lines l) _ s

/-- A byte of Granary memory lies in one of some extents. -/
def State.inExtents (s : State) (xs : List Nat) (key : Nat) : Bool :=
  match s.extentOf key with
  | some x => xs.contains x
  | none => false

theorem State.inExtents_granKey {s : State} {xs : List Nat} {c l : Nat} (hl : l < chanSpan) (hm : s.f GRN_STATE.MODE c = 0)
    (hx : normalAddr c l / 0x200000 ∈ xs) : s.inExtents xs (granKey c l) = true := by
  have hmod : granKey c l % chanSpan = l := by
    unfold granKey chanSpan at *
    omega
  have he : s.extentOf (granKey c l) = some (normalAddr c l / 0x200000) := by
    unfold State.extentOf
    dsimp only
    rw [granKey_div_chanSpan c hl, hmod, if_pos hm]
  unfold State.inExtents
  rw [he]
  exact List.contains_iff_mem.mpr hx

/-- Extents that are zeroed: nothing else of the channels and cores changes, and their bytes and poison go. -/
theorem State.zeroExtents_lines (s : State) (xs : List Nat) : s.LinesOnly (s.zeroExtents xs) :=
  (s.dropExtents_lines xs).trans ⟨rfl, fun _ => rfl⟩

theorem State.zeroExtents_granary (s : State) (xs : List Nat) :
    (s.zeroExtents xs).granary.mem = (s.dropExtents xs).granary.mem.filter (fun c => !(s.dropExtents xs).inExtents xs c.1) ∧
    (s.zeroExtents xs).granary.poison =
      (s.dropExtents xs).granary.poison.filter fun c => !(s.dropExtents xs).inExtents xs (64 * c.1) := ⟨rfl, rfl⟩

theorem State.zeroExtents_zeroed {s : State} {xs : List Nat} {c l : Nat} (hl : l < chanSpan) (hm : s.f GRN_STATE.MODE c = 0)
    (hx : normalAddr c l / 0x200000 ∈ xs) :
    findD 0 (granKey c l) (s.zeroExtents xs).granary.mem = 0 ∧
      (l % 64 = 0 → (s.zeroExtents xs).poisoned (granKey c l) = false) := by
  have hm' : (s.dropExtents xs).f GRN_STATE.MODE c = 0 := (f_of_channels (s.dropExtents_lines xs).channels rfl c).trans hm
  have hin := State.inExtents_granKey hl hm' hx
  obtain ⟨hmem, hpoison⟩ := s.zeroExtents_granary xs
  refine ⟨?_, fun h64 => ?_⟩
  · have hnone : find (granKey c l) (s.zeroExtents xs).granary.mem = none := by
      rw [hmem]
      exact find_filter_not (fun _ => by simp [hin]) _
    rw [findD, hnone]
    rfl
  · have hkey : 64 * (granKey c l / 64) = granKey c l := by
      unfold granKey chanSpan at *
      omega
    have hnone : find (granKey c l / 64) (s.zeroExtents xs).granary.poison = none := by
      rw [hpoison]
      exact find_filter_not (fun _ => by simp [hkey, hin]) _
    rw [State.poisoned, findD, hnone]
    rfl

end Sys2Proof.Machine
end

section
/-! PROOF. O37: LEASE and UNLEASE (R317, R318). -/

namespace Sys2Proof.Machine

/-! ### Plots -/

theorem State.plot_of_drill {s u : State} (h : u.drill = s.drill) (p : Nat) : u.plot p = s.plot p :=
  (congrArg (fun d : Drill => findD {} p d.plots) h :)

theorem State.plot_setPlot_self (s : State) (p : Nat) (r : PlotRec) : (s.setPlot p r).plot p = r := findD_put_self ..

theorem nodup_bitsOf (n v : Nat) : (bitsOf n v).Nodup := List.nodup_range.filter _

theorem firstFail_none {l : List (Option Reply)} (h : firstFail l = none) : ∀ a ∈ l, a = none := by
  induction l with
  | nil => exact nofun
  | cons a l ih =>
    cases a with
    | some r => exact nomatch h
    | none => exact List.forall_mem_cons.mpr ⟨rfl, ih h⟩

/-! ### What LEASE and UNLEASE check -/

/-- The cores, the channels and the plot that a LEASE or UNLEASE names. -/
def Entry.leaseCores (x : Entry) : List Nat := bitsOf 128 (x.pk 16 16)
def Entry.leaseChans (x : Entry) : List Nat := bitsOf 96 (x.pk 32 12)
def Entry.leasePlot (x : Entry) : Nat := x.pk 8 2

section
variable (s : State) (res : MemRes) {x : Entry}

/-- The checks of a LEASE read no memory. -/
theorem leaseChecks_res (ho : x.opcode = 0x0B) :
    firstFail [State.step3 { s with res := res } x, State.step4 { s with res := res } x, State.step5 { s with res := res } x] =
      firstFail [s.step3 x, s.step4 x, s.step5 x] := by
  have h3 : State.step3 { s with res := res } x = s.step3 x := by
    unfold State.step3
    rw [ho] <;> rfl
  have h4 : State.step4 { s with res := res } x = s.step4 x := by
    unfold State.step4
    rw [ho] <;> rfl
  have h5 : State.step5 { s with res := res } x = s.step5 x := by
    unfold State.step5
    rw [ho] <;> rfl
  rw [h3, h4, h5]

/-- Nor do those of an UNLEASE. -/
theorem unleaseChecks_res (ho : x.opcode = 0x0C) :
    firstFail [State.step4 { s with res := res } x, State.step5 { s with res := res } { x with state := .held }] =
      firstFail [s.step4 x, s.step5 { x with state := .held }] := by
  have h4 : State.step4 { s with res := res } x = s.step4 x := by
    unfold State.step4
    rw [ho] <;> rfl
  have h5 : State.step5 { s with res := res } { x with state := .held } = s.step5 { x with state := .held } := by
    unfold State.step5
    dsimp only
    rw [ho] <;> rfl
  rw [h4, h5]

end

/-- A LEASE takes member channels that do not change. -/
theorem State.step5_lease {s : State} {x : Entry} (ho : x.opcode = 0x0B) (h : s.step5 x = none) :
    ∀ c ∈ x.leaseChans, s.f GRN_STATE.MODE c = 0 ∧ s.on GRN_STATE.BUSY c = false := by
  have he : s.step5 x = if !(x.leaseChans.any fun c => s.f GRN_STATE.MODE c ≠ 0 || s.on GRN_STATE.BUSY c) then none
      else some { status := stBusy } := by
    unfold State.step5
    rw [ho] <;> rfl
  have hany : (x.leaseChans.any fun c => s.f GRN_STATE.MODE c ≠ 0 || s.on GRN_STATE.BUSY c) = false := by
    rw [he] at h
    split at h
    next hc => exact Bool.not_eq_true' _ ▸ hc
    next => exact nomatch h
  intro c hc
  have hno := List.any_eq_false.mp hany c hc
  simpa using hno

/-! ### LEASE -/

/-- The plot of a LEASE takes what it names. -/
def PlotRec.takes (r : PlotRec) (x : Entry) (xs : List Nat) : PlotRec :=
  { r with
    channels := r.channels ++ x.leaseChans, extents := r.extents ++ xs, binder := r.binder + x.pk 11 1,
    streams := r.streams + x.pk 12 4,
    quota := if x.pk 44 2 = 0 then r.quota else some (r.quota.getD 0 + x.pk 44 2),
    rtdesc := if x.pk 56 8 = 0 then r.rtdesc else x.pk 56 8 }

/-- The cores of a LEASE wake and are leased. -/
def State.leaseWakes (s : State) (e : Nat) (x : Entry) : State :=
  (x.leaseCores.foldl (fun s n => s.wakeCore n) (s.setEntry e { x with begun := true })).leaseCores (some x.leasePlot) x.leaseCores

/-- The plot has what the LEASE gives it, and its cores are zeroed. -/
def State.leaseGives (s : State) (e : Nat) (x : Entry) (xs : List Nat) : State :=
  x.leaseCores.foldl (fun s n => s.zeroCore n)
    ((s.leaseWakes e x).setPlot x.leasePlot (((s.leaseWakes e x).plot x.leasePlot).takes x xs))

/-- The furrows of a plot's cores are flushed. -/
def State.flushCores (s : State) (p : Nat) (cores : List Nat) : State :=
  (s.wholeFurrows p cores).foldl (fun s f => s.flushFurrow f) s

/-- The first step of a LEASE: the plot takes what it names, and the withdrawals start. -/
def State.leaseTakes (s : State) (e : Nat) (x : Entry) (xs : List Nat) : State :=
  (x.leaseChans.foldl (fun s c => s.modeReq c 1)
    ((s.leaseGives e x xs).flushCores x.leasePlot x.leaseCores)).zeroExtents xs

section
variable {s : State} {e : Fin 4096} {x : Entry} (h : s.entry e = some x) (hs : x.state = .running)
include h hs

section
variable (ho : x.opcode = 0x0B) (hr : x.reply = none) (ha : x.away = false)
include ho hr ha

theorem exec_lease_begun (hb : x.begun = true) (xs : List (Fin 73728)) (res : MemRes) :
    exec (.lease e xs res) s = .next { (if x.leaseChans.all fun c => s.f GRN_STATE.MODE c = 1 && s.chanMove c = .none then
      State.endWork { s with res := res } e {} else { s with res := res }) with res := .ok } := by
  refine ((exec_lease ..).trans (State.workOn_goes h hs ho hr ha res _)).trans ?_
  exact congrArg (fun u : State => Host.Outcome.next { u with res := .ok }) (if_pos hb)

theorem exec_lease_refused (hb : x.begun = false) {r : Reply} (hf : firstFail [s.step3 x, s.step4 x, s.step5 x] = some r)
    (xs : List (Fin 73728)) (res : MemRes) :
    exec (.lease e xs res) s = .next { State.endWork { s with res := res } e r with res := .ok } := by
  refine ((exec_lease ..).trans (State.workOn_goes h hs ho hr ha res _)).trans ?_
  refine congrArg (fun u : State => Host.Outcome.next { u with res := .ok }) ((if_neg (Bool.eq_false_iff.mp hb)).trans ?_)
  rw [leaseChecks_res s res ho, hf] <;> rfl

theorem exec_lease_takes (hb : x.begun = false) (hf : firstFail [s.step3 x, s.step4 x, s.step5 x] = none)
    {xs : List (Fin 73728)} (hl : (xs.map (·.val)).length = x.pk 48 8 / 0x200000) (hn : (xs.map (·.val)).Nodup)
    (hfree : ((xs.map (·.val)).all fun a => s.extLease a = none) = true) (res : MemRes) :
    exec (.lease e xs res) s = .next { State.leaseTakes { s with res := res } e x (xs.map (·.val)) with res := .ok } := by
  have hc : ¬ ((xs.map (·.val)).length ≠ x.pk 48 8 / 0x200000 || (xs.map (·.val)).eraseDups.length ≠ (xs.map (·.val)).length ||
      (xs.map (·.val)).any fun a => (State.extLease { s with res := res } a).isSome) = true := by
    rw [eraseDups_of_nodup hn]
    simp only [hl, ne_eq, not_true_eq_false, decide_false, Bool.false_or, List.any_eq_true, not_exists, not_and]
    intro a hmem
    have hnone : s.extLease a = none := by simpa using List.all_eq_true.mp hfree a hmem
    have hnone' : State.extLease { s with res := res } a = none := hnone
    rw [hnone']
    exact Bool.false_ne_true
  refine ((exec_lease ..).trans (State.workOn_goes h hs ho hr ha res _)).trans ?_
  refine congrArg (fun u : State => Host.Outcome.next { u with res := .ok }) ((if_neg (Bool.eq_false_iff.mp hb)).trans ?_)
  rw [leaseChecks_res s res ho, hf]
  exact if_neg hc

end

end

end Sys2Proof.Machine
end

section
/-! PROOF. O37, continued: what a LEASE leaves, and UNLEASE (R317, R318). -/

namespace Sys2Proof.Machine

/-! ### The first step of a LEASE -/

section
variable (s : State) (e : Nat) (x : Entry) (xs : List Nat)

theorem State.leaseWakes_drill : (s.leaseWakes e x).drill = (s.setEntry e { x with begun := true }).drill := by
  refine drill_of_keep (m := Facet.only .drill) ?_ rfl
  refine (foldl_keep (fun u n => State.setCore_keep rfl ..) x.leaseCores _).trans ?_
  exact foldl_keep (fun u n => State.wakeCore_keep rfl rfl rfl rfl rfl rfl u n) x.leaseCores _

/-- The cores are leased and awake. -/
theorem State.leaseWakes_core {n : Nat} (hn : n ∈ x.leaseCores) :
    ((s.leaseWakes e x).core n).lease = some x.leasePlot ∧ ((s.leaseWakes e x).core n).gated = false := by
  have hgated := foldl_wakeCore_gated x.leaseCores (k := n) (s.setEntry e { x with begun := true }) (.inl hn)
  obtain ⟨hl, hg⟩ := State.leaseCores_core (some x.leasePlot) x.leaseCores n
    (x.leaseCores.foldl (fun s n => s.wakeCore n) (s.setEntry e { x with begun := true }))
  exact ⟨hl (.inl hn), hg.trans hgated⟩

theorem State.leaseGives_plot : (s.leaseGives e x xs).plot x.leasePlot = (s.plot x.leasePlot).takes x xs := by
  have hdrill : (s.leaseGives e x xs).drill =
      ((s.leaseWakes e x).setPlot x.leasePlot (((s.leaseWakes e x).plot x.leasePlot).takes x xs)).drill :=
    drill_of_keep (m := Facet.only .drill) (foldl_keep (fun u n => State.zeroCore_keep rfl rfl rfl rfl rfl u n) x.leaseCores _) rfl
  rw [State.plot_of_drill hdrill, State.plot_setPlot_self, State.plot_of_drill (s.leaseWakes_drill e x)]
  rfl

theorem State.leaseGives_core {n : Nat} (hn : n ∈ x.leaseCores) :
    ((s.leaseGives e x xs).core n).lease = some x.leasePlot ∧ ((s.leaseGives e x xs).core n).gated = false ∧
      (s.leaseGives e x xs).coreClean n := by
  obtain ⟨hl, hg⟩ := s.leaseWakes_core e x hn
  unfold State.leaseGives
  generalize hv : (s.leaseWakes e x).setPlot x.leasePlot (((s.leaseWakes e x).plot x.leasePlot).takes x xs) = v
  have hcore : v.core n = (s.leaseWakes e x).core n := hv ▸ rfl
  obtain ⟨hl', hg'⟩ := foldl_zeroCore_lease x.leaseCores n v
  exact ⟨hl'.trans (hcore ▸ hl), hg'.trans (hcore ▸ hg), foldl_zeroCore_clean x.leaseCores v (.inl hn)⟩

/-- The channels' registers are not touched before the withdrawals. -/
theorem State.leaseGives_f {F : Fld} (hF : F.blk = .GRN) (i : Nat) : (s.leaseGives e x xs).f F i = s.f F i := by
  have hgrn : ∀ m : Facet → Bool, m = among [.blk .GRN] → m (.blk F.blk) = true := fun m hm => by rw [hm, hF]; rfl
  have hzero : (s.leaseGives e x xs).keep (among [.blk .GRN]) =
      ((s.leaseWakes e x).setPlot x.leasePlot (((s.leaseWakes e x).plot x.leasePlot).takes x xs)).keep (among [.blk .GRN]) :=
    foldl_keep (fun u n => State.zeroCore_keep rfl rfl rfl rfl rfl u n) x.leaseCores _
  have hwake : (s.leaseWakes e x).keep (among [.blk .GRN]) = (s.setEntry e { x with begun := true }).keep (among [.blk .GRN]) :=
    (foldl_keep (fun u n => State.setCore_keep rfl ..) x.leaseCores _).trans
      (foldl_keep (fun u n => State.wakeCore_keep rfl rfl rfl rfl rfl rfl u n) x.leaseCores _)
  exact ((f_of_keep hzero (hgrn _ rfl) i).trans (State.f_of_regs rfl F i)).trans
    ((f_of_keep hwake (hgrn _ rfl) i).trans (State.f_of_regs rfl F i))

end

/-- Flushing caches moves lines only, and changes nothing that a plot leaves in a core. -/
theorem State.flushCores_lines (s : State) (p : Nat) (cores : List Nat) : s.LinesOnly (s.flushCores p cores) :=
  foldl_linesOnly (fun s f => s.flushFurrow_lines f) _ s

theorem State.flushCores_keep (s : State) (p : Nat) (cores : List Nat) :
    (s.flushCores p cores).keep corePart = s.keep corePart :=
  foldl_keep (fun u f => State.flushFurrow_keep rfl rfl rfl rfl rfl rfl rfl rfl u f) _ s

section
variable {s : State} {e : Nat} {x : Entry} {xs : List Nat}
  (hm : ∀ c ∈ x.leaseChans, s.f GRN_STATE.MODE c = 0 ∧ s.on GRN_STATE.BUSY c = false)
include hm

/-- What the first step of a LEASE leaves. -/
theorem State.leaseTakes_results :
    let u := s.leaseTakes e x xs
    (∀ n ∈ x.leaseCores, (u.core n).lease = some x.leasePlot ∧ (u.core n).gated = false ∧ u.coreClean n) ∧
    u.plot x.leasePlot = (s.plot x.leasePlot).takes x xs ∧
    (∀ c ∈ x.leaseChans, u.withdraws c) ∧
    ∀ c l, l < chanSpan → s.f GRN_STATE.MODE c = 0 → normalAddr c l / 0x200000 ∈ xs →
      findD 0 (granKey c l) u.granary.mem = 0 ∧ (l % 64 = 0 → u.poisoned (granKey c l) = false) := by
  intro u
  have hplot := s.leaseGives_plot e x xs
  have hcores := fun n => s.leaseGives_core e x xs (n := n)
  have hmode : ∀ c, (s.leaseGives e x xs).f GRN_STATE.MODE c = s.f GRN_STATE.MODE c := s.leaseGives_f e x xs rfl
  have hbusy : ∀ c, (s.leaseGives e x xs).on GRN_STATE.BUSY c = s.on GRN_STATE.BUSY c := fun c => by
    unfold State.on
    rw [s.leaseGives_f e x xs rfl]
  have hu : u = (x.leaseChans.foldl (fun s c => s.modeReq c 1)
    ((s.leaseGives e x xs).flushCores x.leasePlot x.leaseCores)).zeroExtents xs := rfl
  generalize s.leaseGives e x xs = a at hplot hcores hmode hbusy hu
  have hbl := a.flushCores_lines x.leasePlot x.leaseCores
  have hbk := a.flushCores_keep x.leasePlot x.leaseCores
  generalize a.flushCores x.leasePlot x.leaseCores = b at hbl hbk hu
  obtain ⟨hw, hcm, hcb⟩ := foldl_withdraws x.leaseChans b (nodup_bitsOf ..) fun c hc =>
    ⟨((f_of_channels hbl.channels rfl c).trans (hmode c)).trans (hm c hc).1,
      ((on_of_channels hbl.channels rfl c).trans (hbusy c)).trans (hm c hc).2⟩
  have hck : (x.leaseChans.foldl (fun s c => s.modeReq c 1) b).keep corePart = b.keep corePart :=
    foldl_keep (fun u c => State.modeReq_keep rfl rfl rfl rfl rfl rfl rfl u c 1) x.leaseChans b
  generalize x.leaseChans.foldl (fun s c => s.modeReq c 1) b = v at hw hcm hcb hck hu
  have hul := v.zeroExtents_lines xs
  have huk := State.zeroExtents_keep (m := corePart) rfl rfl rfl rfl v xs
  have hbones : ∀ n, (u.core n).bones = (a.core n).bones := fun n => by
    rw [hu, hul.bones, hcb, hbl.bones]
  have hkeep : u.keep corePart = a.keep corePart := by rw [hu, huk, hck, hbk]
  refine ⟨fun n hn => ?_, ?_, fun c hc => ?_, fun c l hl hc hx => ?_⟩
  · obtain ⟨hlease, hgated, hclean⟩ := hcores n hn
    have hb := hbones n
    simp only [Core.bones, Prod.mk.injEq] at hb
    obtain ⟨hl, hg, -⟩ := hb
    exact ⟨hl.trans hlease, hg.trans hgated, hclean.of_keep hkeep (hbones n)⟩
  · rw [State.plot_of_drill (drill_of_keep hkeep rfl), hplot]
  · obtain ⟨hmove, hon⟩ := hw c (.inl hc)
    rw [hu]
    exact ⟨(chanMove_of_channels hul.channels c).trans hmove, (on_of_channels hul.channels rfl c).trans hon⟩
  · rw [hu]
    refine State.zeroExtents_zeroed hl ?_ hx
    rw [hcm, f_of_channels hbl.channels rfl, hmode, hc]

end

end Sys2Proof.Machine
end

section
/-! PROOF. O37, concluded: UNLEASE, and the statement (R317, R318). -/

namespace Sys2Proof.Machine

/-! ### UNLEASE -/

/-- The plot of an UNLEASE gives up what it names, but for the channels. -/
def PlotRec.gives (r : PlotRec) (x : Entry) (xs : List Nat) : PlotRec :=
  { r with
    extents := r.extents.filter fun a => !xs.contains a, binder := r.binder - x.pk 11 1,
    streams := r.streams - x.pk 12 4, quota := r.quota.map fun q => q - x.pk 44 2 }

/-- The first step of an UNLEASE: its extents are zeroed, and its channels return. -/
def State.unleaseTakes (s : State) (e : Nat) (x : Entry) (xs : List Nat) : State :=
  x.leaseChans.foldl (fun s c => s.returnChannel c)
    (((s.setEntry e { x with begun := true }).zeroExtents xs).setPlot x.leasePlot ((s.plot x.leasePlot).gives x xs))

/-- A core is zeroed and has no lease. -/
def State.yieldCore (s : State) (n : Nat) : State := (s.zeroCore n).setCore n { (s.zeroCore n).core n with lease := none }

/-- The furrows are flushed and the cores free. -/
def State.unleaseFrees (s : State) (x : Entry) : State :=
  x.leaseCores.foldl (fun s n => s.yieldCore n) (s.flushCores x.leasePlot x.leaseCores)

/-- The last step of an UNLEASE. -/
def State.unleaseEnds (s : State) (e : Nat) (x : Entry) : State :=
  ((s.unleaseFrees x).setPlot x.leasePlot { (s.unleaseFrees x).plot x.leasePlot with
    channels := ((s.unleaseFrees x).plot x.leasePlot).channels.filter fun c => !x.leaseChans.contains c }).endWork e {}

theorem State.yieldCore_free (s : State) {n k : Nat} (h : k = n ∨ ((s.core k).lease = none ∧ s.coreClean k)) :
    ((s.yieldCore n).core k).lease = none ∧ (s.yieldCore n).coreClean k := by
  have hclean := s.zeroCore_clean (h.imp_right And.right)
  obtain ⟨hlease, -⟩ := s.zeroCore_lease n k
  unfold State.yieldCore
  generalize s.zeroCore n = v at hclean hlease
  have hk : (v.setCore n { v.core n with lease := none }).keep corePart = v.keep corePart := State.setCore_keep rfl ..
  obtain ⟨hs, hf, hl, ht, hi, hd, hmail⟩ := hclean
  have hseed := seed_of_corePart hk k
  have htile : (v.setCore n { v.core n with lease := none }).tile k = v.tile k := tile_of_keep hk rfl rfl rfl k
  have hthread : ∀ j, (v.setCore n { v.core n with lease := none }).thread j = v.thread j := fun j => thread_of_keep hk rfl j
  have hclean : (v.setCore n { v.core n with lease := none }).coreClean k := by
    refine ⟨hseed.trans hs, by rw [htile, hf], by rw [htile, hl], ?_⟩
    by_cases e : k = n
    · subst e
      rw [State.core_setCore_self]
      exact ⟨ht, hi, hd, fun j hj => by rw [hthread]; exact hmail j hj⟩
    · rw [State.core_setCore_ne _ e]
      exact ⟨ht, hi, hd, fun j hj => by rw [hthread]; exact hmail j hj⟩
  refine ⟨?_, hclean⟩
  by_cases e : k = n
  · rw [e, State.core_setCore_self]
  · rw [State.core_setCore_ne _ e, hlease]
    exact (h.resolve_left e).1

theorem foldl_yieldCore_free (l : List Nat) {k : Nat} : ∀ s : State, k ∈ l ∨ ((s.core k).lease = none ∧ s.coreClean k) →
    ((l.foldl (fun s n => s.yieldCore n) s).core k).lease = none ∧ (l.foldl (fun s n => s.yieldCore n) s).coreClean k := by
  induction l with
  | nil => exact fun s h => h.resolve_left List.not_mem_nil
  | cons a l ih =>
    intro s h
    rw [List.foldl_cons]
    refine ih _ ?_
    rcases h with hm | hc
    · rcases List.mem_cons.mp hm with e | hm
      · exact .inr (s.yieldCore_free (.inl e))
      · exact .inl hm
    · exact .inr (s.yieldCore_free (.inr hc))

theorem State.yieldCore_drill (s : State) (n : Nat) : (s.yieldCore n).keep (Facet.only .drill) = s.keep (Facet.only .drill) :=
  (State.setCore_keep rfl ..).trans (State.zeroCore_keep rfl rfl rfl rfl rfl s n)

theorem State.unleaseFrees_drill (s : State) (x : Entry) : (s.unleaseFrees x).drill = s.drill :=
  (drill_of_keep (foldl_keep (fun u n => u.yieldCore_drill n) x.leaseCores _) rfl).trans
    (drill_of_keep (s.flushCores_keep ..) rfl)

/-- The end of an UNLEASE: its cores are free and clean, its channels its plot's no more. -/
theorem State.unleaseEnds_results {s : State} {e : Nat} {x : Entry} (h : s.entry e = some x) :
    (s.unleaseEnds e x).EndedBy e x {} ∧
    (∀ n ∈ x.leaseCores, ((s.unleaseEnds e x).core n).lease = none ∧ (s.unleaseEnds e x).coreClean n) ∧
    ∀ c ∈ x.leaseChans, ((s.unleaseEnds e x).plot x.leasePlot).channels.contains c = false := by
  have hfree := fun n (hn : n ∈ x.leaseCores) =>
    foldl_yieldCore_free x.leaseCores (s.flushCores x.leasePlot x.leaseCores) (k := n) (.inl hn)
  have hentry : (s.unleaseFrees x).entry e = some x := (State.entry_of_drill (s.unleaseFrees_drill x) e).trans h
  have hf : x.leaseCores.foldl (fun s n => s.yieldCore n) (s.flushCores x.leasePlot x.leaseCores) = s.unleaseFrees x := rfl
  rw [hf] at hfree
  unfold State.unleaseEnds
  generalize s.unleaseFrees x = v at hfree hentry
  generalize hr : ({ v.plot x.leasePlot with
    channels := (v.plot x.leasePlot).channels.filter fun c => !x.leaseChans.contains c } : PlotRec) = r
  have he : (v.setPlot x.leasePlot r).entry e = some x := hentry
  have hw : (v.setPlot x.leasePlot r).endWork e {} =
      (v.setPlot x.leasePlot r).setEntry e { x with away := false, reply := some (x.reply.getD {}) } := State.endWork_some he {}
  refine ⟨State.endWork_ended he {}, fun n hn => ?_, fun c hc => ?_⟩
  · rw [hw]
    exact hfree n hn
  · have hplot : ((v.setPlot x.leasePlot r).endWork e {}).plot x.leasePlot = r := by
      rw [hw]
      exact State.plot_setPlot_self v x.leasePlot r
    rw [hplot, ← hr, Bool.eq_false_iff, Ne, List.contains_iff_mem, List.mem_filter]
    simp [hc]

theorem State.unleaseTakes_plot (s : State) (e : Nat) (x : Entry) (xs : List Nat) :
    (s.unleaseTakes e x xs).plot x.leasePlot = (s.plot x.leasePlot).gives x xs := by
  have hd : (s.unleaseTakes e x xs).drill = (((s.setEntry e { x with begun := true }).zeroExtents xs).setPlot x.leasePlot
      ((s.plot x.leasePlot).gives x xs)).drill :=
    drill_of_keep (m := Facet.only .drill)
      (foldl_keep (fun u c => State.returnChannel_keep rfl rfl rfl rfl rfl rfl rfl u c) x.leaseChans _) rfl
  rw [State.plot_of_drill hd, State.plot_setPlot_self]

section
variable {s : State} {e : Fin 4096} {x : Entry} (h : s.entry e = some x) (hs : x.state = .running) (ho : x.opcode = 0x0C)
  (hr : x.reply = none) (ha : x.away = false)
include h hs ho hr ha

theorem exec_unlease_ends (hb : x.begun = true)
    (hc : (x.leaseChans.all fun c => s.f GRN_STATE.MODE c = 0 && s.chanMove c = .none) = true) (xs : List (Fin 73728))
    (res : MemRes) : exec (.unlease e xs res) s = .next { State.unleaseEnds { s with res := res } e x with res := .ok } := by
  refine ((exec_unlease ..).trans (State.workOn_goes h hs ho hr ha res _)).trans ?_
  exact congrArg (fun u : State => Host.Outcome.next { u with res := .ok }) ((if_pos hb).trans (if_pos hc))

theorem exec_unlease_refused (hb : x.begun = false) {r : Reply} (hf : firstFail [s.step4 x, s.step5 { x with state := .held }] = some r)
    (xs : List (Fin 73728)) (res : MemRes) :
    exec (.unlease e xs res) s = .next { State.endWork { s with res := res } e r with res := .ok } := by
  refine ((exec_unlease ..).trans (State.workOn_goes h hs ho hr ha res _)).trans ?_
  refine congrArg (fun u : State => Host.Outcome.next { u with res := .ok }) ((if_neg (Bool.eq_false_iff.mp hb)).trans ?_)
  rw [unleaseChecks_res s res ho, hf] <;> rfl

theorem exec_unlease_takes (hb : x.begun = false) (hf : firstFail [s.step4 x, s.step5 { x with state := .held }] = none)
    {xs : List (Fin 73728)} (hl : (xs.map (·.val)).length = x.pk 48 8 / 0x200000) (hn : (xs.map (·.val)).Nodup)
    (hin : ((xs.map (·.val)).all fun a => (s.plot x.leasePlot).extents.contains a) = true) (res : MemRes) :
    exec (.unlease e xs res) s = .next { State.unleaseTakes { s with res := res } e x (xs.map (·.val)) with res := .ok } := by
  have hc : ¬ ((xs.map (·.val)).length ≠ x.pk 48 8 / 0x200000 || (xs.map (·.val)).eraseDups.length ≠ (xs.map (·.val)).length ||
      !(xs.map (·.val)).all (s.plot x.leasePlot).extents.contains) = true := by
    rw [eraseDups_of_nodup hn]
    simp [hl, hin]
  refine ((exec_unlease ..).trans (State.workOn_goes h hs ho hr ha res _)).trans ?_
  refine congrArg (fun u : State => Host.Outcome.next { u with res := .ok }) ((if_neg (Bool.eq_false_iff.mp hb)).trans ?_)
  rw [unleaseChecks_res s res ho, hf]
  exact if_neg hc

end

/-- The end of a command's work, as its reply in the ledger. -/
theorem State.EndedBy.reply {u : State} {e : Nat} {x : Entry} {r : Reply} (h : u.EndedBy e x r) (hr : x.reply = none) :
    (u.entry e).bind (·.reply) = some r := by
  obtain ⟨y, hy, hreply⟩ := h
  rw [hy, Option.bind_some, hreply, hr]
  rfl

/-- Settles O37: the first step of LEASE is followed through the cores that wake, the plot that takes them, the caches
that are flushed, the withdrawals and the extents; UNLEASE goes back in its two steps. -/
theorem leaseResults : Obligations.LeaseResults := by
  unfold Obligations.LeaseResults
  intro s e xs res
  cases h : s.entry e with
  | none => trivial
  | some x =>
    intro hs hr ha p cores chans ys ended clean
    have hended : ∀ r, ended r { State.endWork { s with res := res } e r with res := .ok } := fun r =>
      State.EndedBy.reply (State.endWork_ended (s := { s with res := res }) h r) hr
    refine ⟨fun ho hb => ?_, fun ho hb hc => ?_, fun ho hb hc => ?_, fun ho hb => ?_, fun ho hb hc => ?_⟩
    · split
      next r hf => exact ⟨_, exec_lease_refused h hs ho hr ha hb hf xs res, hended r⟩
      next hf =>
        intro hl hn hfree
        refine ⟨_, exec_lease_takes h hs ho hr ha hb hf hl hn hfree res, ?_⟩
        have hm := s.step5_lease ho (firstFail_none hf _ (by simp))
        have hu := State.leaseTakes_results (s := { s with res := res }) (e := e) (xs := xs.map (·.val)) hm
        generalize State.leaseTakes { s with res := res } e x (xs.map (·.val)) = u at hu
        obtain ⟨hcores, hplot, hchans, hbytes⟩ := hu
        have hplot' : u.plot p = (s.plot p).takes x ys := hplot
        refine ⟨hcores, ?_, ?_, ?_, ?_, hchans, fun c => hbytes c.val⟩
        · exact congrArg PlotRec.channels hplot'
        · exact congrArg PlotRec.extents hplot'
        · exact congrArg PlotRec.binder hplot'
        · exact congrArg PlotRec.streams hplot'
    · refine ⟨_, exec_lease_begun h hs ho hr ha hb xs res, ?_⟩
      rw [if_pos (by simpa [chans, Entry.leaseChans] using hc)]
      exact hended {}
    · rw [exec_lease_begun h hs ho hr ha hb xs res, if_neg (by simpa [chans, Entry.leaseChans] using hc)]
      rfl
    · split
      next r hf => exact ⟨_, exec_unlease_refused h hs ho hr ha hb hf xs res, hended r⟩
      next hf =>
        intro hl hn hin
        refine ⟨_, exec_unlease_takes h hs ho hr ha hb hf hl hn hin res, ?_⟩
        have hplot := State.unleaseTakes_plot { s with res := res } e x (xs.map (·.val))
        generalize State.unleaseTakes { s with res := res } e x (xs.map (·.val)) = u at hplot
        have hplot' : u.plot p = (s.plot p).gives x ys := hplot
        exact ⟨congrArg PlotRec.extents hplot', congrArg PlotRec.binder hplot', congrArg PlotRec.streams hplot'⟩
    · refine ⟨_, exec_unlease_ends h hs ho hr ha hb (by simpa [chans, Entry.leaseChans] using hc) xs res, ?_⟩
      have hu := State.unleaseEnds_results (s := { s with res := res }) h
      generalize State.unleaseEnds { s with res := res } e x = u at hu
      obtain ⟨hend, hcores, hchans⟩ := hu
      exact ⟨hend.reply hr, hcores, hchans⟩

end Sys2Proof.Machine
end
